-- ==== Sys2Proof/Word.lean ====
section
/-! DEFINITION. The word and byte types of the P9484 and their plainest arithmetic (R3, R4, R69). -/

namespace Sys2Proof

/-- One 32-bit word of the address space (R69). -/
abbrev Word := BitVec 32

/-- One byte. -/
abbrev Byte := BitVec 8

/-- The word that holds the integer `x` in two's complement. -/
def Word.ofInt (x : Int) : Word := BitVec.ofInt 32 x

/-- The low `w` bits of `v`. -/
def lowBits (w v : Nat) : Nat := v % 2 ^ w

/-- The signed value of the `w`-bit pattern `v` in two's complement. -/
def toSigned (w v : Nat) : Int :=
  if lowBits w v < 2 ^ (w - 1) then (lowBits w v : Int) else (lowBits w v : Int) - (2 ^ w : Nat)

/-- The `w`-bit two's complement pattern of `x`. -/
def ofSigned (w : Nat) (x : Int) : Nat := (x % (2 ^ w : Nat)).toNat

end Sys2Proof
end

