-- ==== Sys2Proof/Syntax.lean ====
section
/-! DEFINITION. The commands of the P9484: one constructor for each row of spec/opcode_table.json, in the table's order.
The table gives a row no operand fields; the operands below are what each command carries by its rule: the requester of
an access, an index, a value on the bus, what was measured, or the fields of a received frame. -/

namespace Sys2Proof

/-- Who makes a register access: the SPI port, a PRAX session, the partner unit's mirror writes, or the policy layer (R48, R487). -/
inductive Requester where
  | spi
  | prax (k : Fin 8)
  | partner
  | policy
  deriving DecidableEq, Repr

/-- Where a record comes from: one the model made and that waits at a place of the outbox, or one of the policy layer. -/
inductive RecordFrom where
  | made (i : Nat)
  | policy (code : BitVec 16) (payload : List Byte) (cause : Nat)
  deriving DecidableEq, Repr

/-- The eight conversions of the fast converters in a tick (R119), as codes of their 16-bit ranges: voltages over 0 to +1.25 V, currents over
±250 mV. Bus voltages by F0, F1 and, for the check, F2; bus current A by F3 at fine unit 0 and by F0 at 25, bus current B by F1 at
0 and by F3 at 25. -/
structure BusSamples where
  va : Int
  vb : Int
  vaChk : Int
  vbChk : Int
  ia0 : Int
  ia1 : Int
  ib0 : Int
  ib1 : Int
  deriving DecidableEq, Repr

/-- A conversion as the coefficients in force before the last were taken make it, and as those in force make it: before the first
success, the uncalibrated and the calibrated one (R111, log entry 63). -/
abbrev Twice (α : Type) : Type := α × α

/-- A condition at the input of an ALLFIRE comparator in a tick (R228): the value that the input has, dV/dt in V/s or a voltage, and the first
and the last fine unit it has it in. -/
structure Swing where
  value : Int
  first : Fin 50
  last : Fin 50
  deriving DecidableEq, Repr

/-- What a calibration visit found of a unit, in ppm: gain error from nominal and offset of full scale; and the comparators
calibrated. -/
structure CalResult where
  gain : Int
  offset : Int
  comparators : BitVec 16
  deriving DecidableEq, Repr

/-- The result of one remote-diode conversion (R134): the temperature that an ideality factor of 1 gives, in 1/64 K, and the series
resistance; or a fault. -/
inductive DiodeResult where
  | good (kelvin : Nat) (rser : Nat)
  | openCircuit
  | short
  | outOfRange
  deriving DecidableEq, Repr


/-- What the comparison of the two lanes of a critical sample finds (R160, R161): agreement, the spare outvoting the first or the
second lane, or no agreement. -/
inductive LaneVote where
  | agree
  | outvoted (second : Bool)
  | none
  deriving DecidableEq, Repr

/-- What one loop sample meets (R144, R155 to R161): results of the front end by source code, which output of a slot of the same fine
time on another lane it takes, the time from request to written output in fine units, the lane comparison, and the SRAM word of its
running copy in which a fetch finds a double-bit error. -/
structure LoopRun where
  meas : List (Nat × Option Int)
  older : Bool
  time : Nat
  vote : LaneVote
  ded : Option Nat
  deriving DecidableEq, Repr

/-- What becomes of a transaction after its START (R386 to R388): it goes on to its end, it loses arbitration in a bit or in its own STOP or
repeated start, or a START is seen in an acknowledge slot; `busy`: another controller's START was observed first, so that the bus is not free
and none is sent (R384). -/
inductive StartRun where
  | busy
  | runs
  | arbLost
  | arbSr
  | ackSlot
  deriving DecidableEq, Repr

/-- A message to address 0x08 as it goes on after the sender's address and data bytes (R383, R388): the bytes received before P beyond the
data word, a STOP before the data word is complete, a START in an acknowledge slot, or a read. -/
inductive NotifyRun where
  | rest (bytes : List Byte)
  | short
  | ackSlot
  | read
  deriving DecidableEq, Repr

/-- A line of a two-wire channel as the channel observes it: the tick since which it has been as the command says without a break. -/
structure LineHeld where
  c : Fin 16
  since : Nat
  deriving DecidableEq, Repr

/-- What makes a bus free (R384): the tick of a STOP, or the tick since which SCL and SDA have both been high. -/
structure BusIdle where
  c : Fin 16
  stop : Bool
  since : Nat
  deriving DecidableEq, Repr

/-- How a bus clear ends (R390): the pulses it took, less one, and whether SDA was high when the channel released it in the STOP. -/
structure ClearEnd where
  more : Fin 9
  released : Bool
  deriving DecidableEq, Repr

/-- A PRAX datagram as an Ethernet port receives it (R493): the port, whether it came over IPv6, the source address and source port as
one number, and its fields. The type byte is the command's. -/
structure Datagram where
  eth : Fin 2
  v6 : Bool
  peer : Nat
  version : Byte
  len : BitVec 16
  sid : Word
  seq : Word
  body : List Byte
  mac : List Byte
  deriving DecidableEq, Repr

/-- An Ethernet line as a change of its link finds it: trained or not, and whether HL_REFCLK is present, which times the SGMII lanes (R594). -/
structure EthLine where
  up : Bool
  refclk : Bool
  deriving DecidableEq, Repr

/-- A PTP message as an Ethernet port receives it (R500). -/
structure PtpFrom where
  eth : Fin 2
  /-- over Ethernet, EtherType 0x88F7 -/
  l2 : Bool
  domain : Byte
  master : BitVec 64
  deriving DecidableEq, Repr

/-- A rest point (R289): its state and its uncertainty in 2^-40, Q_cum in µAh, power-cycle count. -/
structure RestPoint where
  s : Int
  u : Int
  qcum : Int
  pcycle : Nat
  deriving DecidableEq, Repr

/-- The learned set of R296: Q_learn in mAh, R_int in µΩ, whole days, P1, stored code; and whether R_int is valid. -/
structure Learned where
  q : Nat := 100000
  r : Nat := 10000
  rValid : Bool := false
  days : Nat := 0
  p1 : Option RestPoint := none
  code : Option Nat := none
  deriving DecidableEq, Repr

/-- A loss-curve bin (R247): count, mean P_out and mean loss in mW. -/
structure Bin where
  count : Nat := 0
  pout : Int := 0
  loss : Int := 0
  deriving DecidableEq, Repr

/-- A solved allocation (R249, R250): fractions by rectifier index, predicted loss and saving in mW, whether a candidate was feasible, and
whether the present set breaks a bound. -/
structure AllocTarget where
  fracs : List (Nat × Nat)
  loss : Int
  saving : Int
  feasible : Bool
  breaks : Bool
  deriving DecidableEq, Repr

/-! ### Frames of the Helkar link and messages of the witness link (R462 to R474) -/

/-- A fuse channel's record (R329): state, run request, retry count, remaining wait, slot memory (count, LATCHED, frozen wait, time
left), and ΔT. -/
structure FuseRec where
  state : Nat := 0
  run : Bool := false
  count : Nat := 0
  wait : Option Nat := none
  mem : Option (Nat × Bool × Nat × Nat) := none
  dT : Int := 0
  deriving DecidableEq, Repr

/-- An object record of R466: a fuse channel; a string disconnect and its OPEN_CAUSE; a rail's qualification, off and DN_STUCK; a reset
output's level; a converter group's state with the phases of it that may switch (R231); and the state, step and kind of shut-down of
the rails (R355). -/
inductive ObjRecord where
  | fuse (n : Fin 8) (r : FuseRec)
  | string (n : Fin 8) (closed : Bool) (cause : Fin 16)
  | rail (n : Fin 24) (qual off stuck : Bool)
  | reset (k : Fin 8) (asserted : Bool)
  | group (g : Fin 2) (state : Fin 8) (avail : BitVec 16)
  | sequence (state : Fin 8) (step : Fin 32) (kind : Fin 8)
  deriving DecidableEq, Repr

/-- A record of ESTIMATOR (R466): the learned values of a string (R302), an allocation, a rectifier's fraction, trim and curve (R254), and
capping's L, r_ref and t_last. -/
inductive EstRecord where
  | battery (n : Fin 8) (set_ : Learned) (archive : Option Learned) (bias : Word)
  | allocation (a : Option AllocTarget)
  | rectifier (n : Fin 24) (frac ramp : Nat) (falling : Bool) (trim : Int) (curve : Vector Bin 16)
  | capping (level : Fin 256) (refNum : Int) (refDen : Nat) (since : Nat)
  deriving DecidableEq, Repr

/-- A changed byte of a Catalogue entry (R463). -/
structure CatRecord where
  entry : Fin 1024
  off : Fin 128
  byte : Byte
  deriving DecidableEq, Repr

/-- A slot record of LOOP (R463): slot, region, sample pair tick bits [31:0], states s0 to s7. -/
structure LoopRecord where
  slot : Fin 64
  region : Fin 4
  ptick : Word
  states : Vector Int 8
  deriving DecidableEq, Repr

/-- A resynchronisation block (R478). -/
inductive BulkBlock where
  | config (l : List (BitVec 24 × Word))
  | catalogue (l : List CatRecord)
  | estimator (l : List EstRecord)
  | objects (l : List ObjRecord)
  deriving DecidableEq, Repr

/-- The header of a received frame (R462), whether its CRC is right, and whether every acknowledged frame before it has been received. -/
structure FrameHead where
  seq : Word
  epoch : Word
  ptick : Word
  crcOk : Bool
  inOrder : Bool
  deriving DecidableEq, Repr

/-- The BEACON payload (R464), and what its reception measures: whether the receiver has locked and had 1,000 valid idle ordered sets
(R465), the fine stamp of its K27.7 here, and the one-way latency in ns (R461). -/
structure Beacon where
  roleB : Bool
  join : Fin 8
  primary : Bool
  fenced : Bool
  regHeard : Bool
  partHeard : Bool
  fine : Fin 50
  ptick : BitVec 64
  phases : BitVec 16
  active : BitVec 16
  fuses : Byte
  strings : Byte
  resets : Byte
  rails : BitVec 24
  chans : BitVec 16
  crc : Word
  ready : Bool
  rxFine : Fin 50
  lat : BitVec 16
  deriving DecidableEq, Repr

/-- A sender of witness messages (R474). -/
inductive WitFrom where
  | a | b | registrar
  deriving DecidableEq, Repr

/-- The common part of a witness message (R474), and whether its CRC is right. -/
structure WitHead where
  sender : WitFrom
  epoch : Word
  seq : Word
  crcOk : Bool
  deriving DecidableEq, Repr

/-- HEARTBEAT, bytes 12 onward (R474): join state; partner heard, fenced, primary, owns transferable objects; request 0 none, 1 REVERT, 2
MIGRATE; PREF; pair tick; mirrored configuration CRC. -/
structure HeartbeatMsg where
  join : Fin 8
  partHeard : Bool
  fenced : Bool
  primary : Bool
  owns : Bool
  request : Fin 3
  prefB : Bool
  ptick : Word
  crc : Word
  deriving DecidableEq, Repr

/-- EPOCH, bytes 12 onward (R474): cause 1 verdict, 2 link fence, 3 start, 4 revert, 5 migrate; map 0 configured, 1 and 2 transferable
objects to A and B; primary; unit lost or fenced 0 none, 1 A, 2 B; effective pair tick, 0 on receipt. -/
structure EpochMsg where
  cause : Fin 6
  map : Fin 3
  primaryB : Bool
  lost : Fin 3
  eff : BitVec 64
  deriving DecidableEq, Repr

/-- A link-fence or commanded FENCE (R474). -/
inductive FenceCause where
  | link | command
  deriving DecidableEq, Repr

/-- What a read under SECDED finds in a word (R531, R577). -/
inductive WordError where
  | none | single | double
  deriving DecidableEq, Repr

/-- The header of a frame that a chain port receives (R551): the port, RETX, image identifier, block number, hop count; whether its CRC is
right, and whether it ended with K30.7. -/
structure ChainHead where
  port : Fin 2
  retx : Bool
  image : Word
  block : Word
  hop : Byte
  crcOk : Bool
  aborted : Bool
  deriving DecidableEq, Repr

/-- What an SRAM word that Sieve reads belongs to (R580): a region, and the object there where the owner reacts on it. -/
inductive SramSpot where
  | working
  | coefficients
  | catalogue (n : Fin 1024)
  | topsoil
  | subsoil
  | events
  | mailbox (c : Fin 64)
  | transaction (k : Nat)
  | string (n : Fin 8)
  | curve (n : Fin 24)
  | other
  deriving DecidableEq, Repr

/-- The commands, in the order of spec/opcode_table.json. -/
inductive Instr where
  /-- VIN_GOOD (R96): VIN and VDDA both reach 3.10 V, which starts the bring-up timeline. -/
  | vinGood
  /-- POWER_ON_RESET_ASSERT (R99): A supply falls below 2.95 V: outputs go to their safe levels, UNIT_OK falls, SRAM is lost and a brown-out is counted. -/
  | powerOnResetAssert (steps : Fin 65)
  /-- POWER_ON_RESET_RELEASE (R96): The core regulator is in regulation, so the power-on reset releases and tick 0 begins. -/
  | powerOnResetRelease (testMode : Bool)
  /-- STRAP_LATCH (R101): At tick 7 the straps are latched, and instability over [0, 8) is flagged. -/
  | strapLatch (samples : Vector (BitVec 6) 8)
  /-- KILN_LOAD (R539): The boot ROM checks both Kiln copies and loads the newest valid record, or finds the Kiln blank. -/
  | kilnLoad (us : BitVec 16)
  /-- GREENWARE_START (R106): At tick g the unit decides every owned power-stage output and adopts live objects; Greenware service begins. -/
  | greenwareStart (ef str : BitVec 8) (pg : BitVec 24) (rails : Bool)
  /-- OUT_HOLD_RELEASE (R107): A write of SYS_OUT_HOLD.RELEASE ends the output hold and acts as tick g. -/
  | outHoldRelease (r : Requester)
  /-- SUPPLY_BANK_CHANGE (R98): A VIO bank or VDD_SD crosses its good threshold: the bank's outputs go safe or the links go down, with an event. -/
  | supplyBankChange (k : Fin 6) (good v33 : Bool)
  /-- RESET_IN_ASSERT (R100): RESET_IN has been low for DEBOUNCE ticks: the cores are restarted or held, or the boot check is delayed. -/
  | resetInAssert
  /-- RESET_IN_RELEASE (R100): RESET_IN has been high for DEBOUNCE ticks, so the held cores start and the boot check begins again. -/
  | resetInRelease
  /-- CORE_RESTART (R100): A SYS_RESET_CMD.CORE_RESTART write with KEY 0x9484 restarts the supervisor cores. -/
  | coreRestart (r : Requester) (w : Word)
  /-- BOOT_CHECK_COMPLETE (R112): The signature check of the firmware slot ends; the firmware starts, or the other slot is checked, or NO_FW is set. -/
  | bootCheckComplete (sig : Bool) (bad : Unit)
  /-- CAL_ATTEMPT_COMPLETE (R110): A self-calibration attempt ends: on success the blend begins, and on failure a retry is scheduled. -/
  | calAttemptComplete (found : Option (Vector (Int × Int) 15))
  /-- CAL_RETRY_TIMER (R110): 10 s after a failed attempt, a new calibration attempt starts. -/
  | calRetryTimer
  /-- CAL_RETRY_CMD (R110): A SYS_CAL_CMD.RETRY write starts a calibration attempt at once. -/
  | calRetryCmd (r : Requester)
  /-- AC_FAIL_ASSERT (R222): An AC-fail source asserts after its deglitch, or on loss of ACSYNC. -/
  | acFailAssert (j : Option (Fin 4))
  /-- AC_FAIL_CLEAR (R222): A SHEV AC-fail line has been inactive for DEGLITCH ticks and clears. -/
  | acFailClear (j : Fin 4)
  /-- PICKUP_QUALIFIED (R22): Converter current at or above the pickup threshold for 20 ticks enters HOLDUP. -/
  | pickupQualified
  /-- PREARM_CLEAR_QUALIFIED (R22): 50,000 ticks with AC-fail sources clear and no pickup return PREARMED to NORMAL. -/
  | prearmClearQualified
  /-- RETURN_QUALIFIED (R22): 10,000 ticks of AC present and rectifiers at 10 % of load enter RETURN and start the hand-back and cap ramps. -/
  | returnQualified
  /-- RETURN_LOAD_LOST (R22): Rectifier current below 10 % of load for 1,000 ticks returns RETURN to HOLDUP. -/
  | returnLoadLost
  /-- HANDBACK_RAMP_COMPLETE (R224): The RETURN ramp completes with converter current at or below 0, so the state becomes NORMAL. -/
  | handbackRampComplete
  /-- NO_STRING_CLOSED_EXPIRY (R22): No configured string has been CLOSED for 1,000 ticks of HOLDUP or RETURN, so EXHAUSTED is entered. -/
  | noStringClosedExpiry
  /-- EXHAUSTED_RECOVERED (R22): 10,000 ticks of AC clear and the bus in regulation return EXHAUSTED to NORMAL. -/
  | exhaustedRecovered
  /-- EFFICIENCY_RESUME_TIMER (R245): 10,000,000 ticks after NORMAL is entered from PREARMED, RETURN or EXHAUSTED, efficiency allocation may resume. -/
  | efficiencyResumeTimer
  /-- TB_SRC_WRITE (R40): A write of TB_SRC_CTRL.SRC selects a discipline source, or returns the discipline to FREE. -/
  | tbSrcWrite (r : Requester) (w : Word)
  /-- DISC_SOURCE_PRESENT (R40): The discipline source appears, so FREE or HOLDOVER moves to ACQUIRE. -/
  | discSourcePresent
  /-- DISC_SOURCE_LOST (R40): No TREF_IN edge for 10 ticks, or the PTP timeout, moves the discipline to HOLDOVER. -/
  | discSourceLost
  /-- DISC_LOCK_WINDOW (R40): A 10 s window with frequency error below 0.1 ppm moves ACQUIRE to LOCKED. -/
  | discLockWindow (worst : Int)
  /-- HOLDOVER_STALE (R40): HOLDOVER has lasted longer than TB_HOLD_LIMIT, so STALE is set. -/
  | holdoverStale
  /-- DISC_RATE_STEP (R39): The rate adjustment moves by at most 0.1 ppm per second towards its correction. -/
  | discRateStep (ferr want : Int)
  /-- XCHK_WINDOW_END (R41): At the end of each 512-cycle check window the tick count is judged against TOL. -/
  | xchkWindowEnd (count : Nat)
  /-- VCORE_WINDOW_END (R45): At the end of each 10,000-tick window, minimum slack is judged and the core may step down. -/
  | vcoreWindowEnd
  /-- TICK_LATCH_READ (R51): A read of TB_TICK_LO latches the tick, fine and PTP registers for that source. -/
  | tickLatchRead (r : Requester)
  /-- MULTIWORD_LATCH_READ (R73): A read of the lowest register of a multi-register value latches the others for that source. -/
  | multiwordLatchRead (r : Requester) (a : Word)
  /-- REGISTER_WRITE (R78): A normal write to a register without its own row is checked by class, role, lock and range and then applied. -/
  | registerWrite (r : Requester) (a w : Word)
  /-- ALIAS_WRITE (R81): A SET, CLR or TGL alias write does an indivisible read-modify-write of the register's bits. -/
  | aliasWrite (r : Requester) (a w : Word)
  /-- CCK_SCAN_START (R87): Every 1,000 ticks a configuration scan starts. -/
  | cckScanStart
  /-- CCK_SCAN_COMPLETE (R88): A scan ends: page CRCs are updated, mismatches are marked CORRUPT or PENDING, and a commit may be taken. -/
  | cckScanComplete (cut : BitVec 31)
  /-- CCK_COMMIT (R89): A write of CCK_CMD.COMMIT starts a commit scan, or is refused. -/
  | cckCommit (r : Requester)
  /-- CROSSCHECK_FAULT_DECLARED (R123): COUNT consecutive mismatches declare a cross-check fault and start 8 priority monitor conversions. -/
  | crosscheckFaultDeclared (h : Fin 2)
  /-- CROSSCHECK_JUDGE (R123): The judge from the priority conversions is available, and the disagreeing fast converters are excluded. -/
  | crosscheckJudge (h : Fin 2) (convs : List (BitVec 14)) (primary check : Twice Int)
  /-- MON_REQUEST_DUE (R132): A monitor input's request falls due on its grid, or is skipped if the previous one is still pending. -/
  | monRequestDue (codes0 codes1 : List (BitVec 14))
  /-- MON_SEL_WRITE (R139): A write of AFE_MON_SEL latches the latest result of the named input for that source. -/
  | monSelWrite (r : Requester) (w : Word)
  /-- CAL_PASS_START (R135): Every PERIOD_S seconds a background calibration pass starts. -/
  | calPassStart
  /-- CAL_VISIT_COMPLETE (R137): A unit's calibration visit ends, and excluded converters return if their checks pass. -/
  | calVisitComplete (res : CalResult)
  /-- CAL_VISIT_ABORT (R136): 8 consecutive mismatches during a visit abort it and apply R123. -/
  | calVisitAbort (h : Fin 2)
  /-- CAL_PASS_END (R137): At the end of a pass its checks are judged: coefficients are kept or taken, and CAL_INVALID is set or cleared. -/
  | calPassEnd (ppm : Int)
  /-- SPARE_CHANGEOVER (R128): The accumulator input moves to or from the spare modulator at a period boundary. -/
  | spareChangeover (n : Fin 8) (toSpare : Bool)
  /-- DIODE_CONVERSION (R134): A remote-diode measurement completes, and faults are judged after FAULT_DEB. -/
  | diodeConversion (ch : Fin 28) (res : DiodeResult)
  /-- LOOP_SAMPLE_REQUEST (R155): A slot's sample falls due: inputs, region, law, clamp, lane compare, output write and state commit. -/
  | loopSampleRequest (n : Fin 64) (fine : Fin 50) (run : LoopRun)
  /-- COEF_WINDOW_WRITE (R163): A write to coefficient memory is staged, or is refused for a read-only word. -/
  | coefWindowWrite (r : Requester) (off : Fin 0x10000) (w : Word)
  /-- LPE_ADMIT (R164): An LPE_CMD.ADMIT write snapshots the staged configuration and starts the admission checks. -/
  | lpeAdmit (r : Requester)
  /-- ADMISSION_COMPLETE (R167): The admission result is set and each changed slot takes its new values at its next request. -/
  | admissionComplete
  /-- LPE_DISCARD (R163): An LPE_CMD.DISCARD write returns every staged value to its running value. -/
  | lpeDiscard (r : Requester)
  /-- LANE_TEST (R177): An LPE_CMD.LANE_TEST write self-tests every retired lane now. -/
  | laneTest (r : Requester) (pass : BitVec 5)
  /-- LANE_SELF_TEST (R162): Every 10 s a retired lane is self-tested, and it becomes the spare after TESTS_REQ passes. -/
  | laneSelfTest (k : Fin 5) (pass : Bool)
  /-- CLEAR_FAULT (R172): An LPE_SLOT_CMD.CLEAR_FAULT write restarts a faulted slot bumplessly. -/
  | loopClearFault (r : Requester) (n : Fin 64)
  /-- RESET_STATE (R172): An LPE_SLOT_CMD.RESET_STATE write applies the bumpless start to a running slot. -/
  | loopResetState (r : Requester) (n : Fin 64)
  /-- COEF_CRC_CHECK (R173): Every 1,000 ticks each active slot's running coefficients are checked by CRC. -/
  | coefCrcCheck (bad : BitVec 64)
  /-- TUNE_START (R179): An LPT_CMD.TUNE_START write starts a relay tune, or is refused. -/
  | tuneStart (r : Requester)
  /-- TUNE_ABORT (R182): An LPT_CMD.TUNE_ABORT write ends a relay or discards a proposal. -/
  | tuneAbort (r : Requester)
  /-- TUNE_APPLY (R185): An LPT_CMD.TUNE_APPLY write stages the proposal and admits it. -/
  | tuneApply (r : Requester)
  /-- TUNE_REPROPOSE (R184): An LPT_CMD.TUNE_REPROPOSE write forms a new proposal from the held KU and TU. -/
  | tuneRepropose (r : Requester)
  /-- RELAY_TIMEOUT (R182): TMAX passes without convergence and the tune aborts. -/
  | relayTimeout
  /-- LINE_CROSSING (R187): A rising ACSYNC crossing or a ripple cycle corrects the phase tracker. -/
  | lineCrossing (k : Fin 3) (fine : Fin 50) (amp : Nat)
  /-- LINE_SOURCE_LOST (R188): No crossing for 33,334 ticks loses the source and starts the flywheel. -/
  | lineSourceLost (k : Fin 3)
  /-- FLYWHEEL_END (R188): After FLY cycles the fade begins. -/
  | flywheelEnd
  /-- LPT_TBL_COMMIT (R190): An LPT_CMD.TBL_COMMIT write marks line-phase banks pending. -/
  | lptTblCommit (r : Requester) (banks : BitVec 8)
  /-- TBL_SWAP (R190): A pending bank swaps its copies at the next phase wrap, or at once while faded. -/
  | tblSwap
  /-- TBL_DATA_ACCESS (R190): An access of LPT_TBL_DATA reads or writes an entry and advances INDEX. -/
  | tblDataAccess (r : Requester) (write : Option Word)
  /-- TBL_CRC_CHECK (R191): Every 1,000 ticks the active bank copies are checked, and a bad bank fades to 0. -/
  | tblCrcCheck (bad : BitVec 8)
  /-- RC_CLEAR (R195): An LPT_CMD.RC_CLEAR write starts a fade of the repetitive controller. -/
  | rcClear (r : Requester) (which : BitVec 4)
  /-- RC_FADE_END (R195): At the end of a fade over N samples every entry is zeroed. -/
  | rcFadeEnd (k : Fin 4)
  /-- PHASE_CYCLE_START (R212): A phase starts a switching cycle on its grid, with its share, peak reference and DAC code. -/
  | phaseCycleStart (n : Fin 16) (fine : Fin 50) (step : Fin 308) (sum : Int) (cnt : Nat) (skip : Bool) (fault : Twice Bool)
  /-- PEAK_COMPARATOR_TRIP (R212): A phase comparator trips and ends the on-time within 30 ns. -/
  | peakComparatorTrip (n : Fin 16) (steps : Nat) (fault : Twice Bool)
  /-- DPWM_RECAL (R206): Every 1,000 ticks the delay lines are recalibrated. -/
  | dpwmRecal (steps : Nat)
  /-- PWM_PERIOD_APPLY (R203): A written PERIOD takes effect at the next multiple of 1,000 ticks, with a transition cycle. -/
  | pwmPeriodApply
  /-- GROUP_SOFTSTART (R218): A group enters SOFTSTART when its conditions hold, and the reference may restart. -/
  | groupSoftstart (g : Fin 2)
  /-- SHORT_DETECT (R218): Bus-half voltage below 10 % of target for FB_TIME faults the group. -/
  | shortDetect (g : Fin 2)
  /-- GROUP_RETRY_EXPIRY (R217): RETRY_MS after FAULT_WAIT, the group returns to SOFTSTART. -/
  | groupRetryExpiry (g : Fin 2)
  /-- GROUP_RETRY_RESET (R217): 60,000,000 ticks in RUN reset the group's retry count. -/
  | groupRetryReset (g : Fin 2)
  /-- CLEAR_G (R217): A CNV_CMD.CLEAR_Gg write clears the group's faults and phase faults. -/
  | clearG (r : Requester) (g : Fin 2)
  /-- SHED_WINDOW_EXPIRY (R219): A low share throughout SHED_MS sheds one own phase. -/
  | shedWindowExpiry (g : Fin 2)
  /-- PHASE_UNSHED (R219): A high share, or shedding no longer permitted, unsheds phases. -/
  | phaseUnshed (g : Fin 2)
  /-- DE_ENTER (R220): 10 cycle starts with a small share put a phase into diode emulation. -/
  | deEnter (n : Fin 16)
  /-- SLEW (R226): A CNV_CMD.SLEW write starts a setpoint slew, superseding any slew in progress. -/
  | slew (r : Requester) (w : Word)
  /-- SLEW_COMPLETE (R226): The reference reaches the slew target and the command completes. -/
  | slewComplete
  /-- REFERENCE_REACHES_TARGET (R221): The reference segment reaches its target, and SOFTSTART groups go to RUN. -/
  | referenceReachesTarget
  /-- ALLFIRE (R229): Slope and depth comparators trip together on an armed group, so every own phase fires within 250 ns. -/
  | allfire (g : Fin 2) (fine : Option Swing × Option Swing) (lat : Fin 14)
  /-- FIRE_END (R230): The last fired cycle ends: the floor is set and the lockout starts. -/
  | fireEnd (g : Fin 2) (sum : Int)
  /-- FLOOR_HOLD_END (R230): After HOLD_US ticks the floor starts falling to the lower limit. -/
  | floorHoldEnd (g : Fin 2)
  /-- FLOOR_RAMP_END (R230): The floor has ramped down and FLOOR clears. -/
  | floorRampEnd (g : Fin 2)
  /-- ALLFIRE_LOCKOUT_END (R230): LOCKOUT_MS after the fire, the group is armed again. -/
  | allfireLockoutEnd (g : Fin 2)
  /-- TRIM_CYCLE (R241): Every 5,000 ticks the trims are integrated and the trim and limit group commands are sent. -/
  | trimCycle
  /-- RECT_BIND (R237): A binding at Accession or a BOUND write takes a rectifier to JOINING. -/
  | rectBind (n : Fin 24) (e : Fin 1024)
  /-- RECT_STANDBY_CHECK (R237): 200,000 ticks after the standby write, the rectifier goes to STANDBY or back to ACTIVE. -/
  | rectStandbyCheck (n : Fin 24)
  /-- RECT_WAKE_TIMEOUT (R237): ON_TIMEOUT without regulation faults a WAKING rectifier. -/
  | rectWakeTimeout (n : Fin 24)
  /-- RECT_SILENT (R237): No valid response for SILENT_MS makes a rectifier SILENT. -/
  | rectSilent (n : Fin 24)
  /-- RECT_FAULT_CLEAR_TIMER (R237): STATUS_WORD clear for 1,000,000 ticks returns a FAULTED rectifier to JOINING. -/
  | rectFaultClearTimer (n : Fin 24)
  /-- UNBIND (R237): An SHR_CMD.UNBIND write unbinds a rectifier. -/
  | rectUnbind (r : Requester) (n : Fin 32)
  /-- CLEAR_CURVE (R248): An SHR_CMD.CLEAR_CURVE write empties a rectifier's loss curve. -/
  | clearCurve (r : Requester) (n : Fin 32)
  /-- ALLOC_NOW (R257): An SHR_CMD.ALLOC_NOW write solves an allocation at the next tick. -/
  | allocNow (r : Requester)
  /-- RECT_RETRY (R237): An SHR_CMD.RETRY write returns a FAULTED rectifier to JOINING. -/
  | rectRetry (r : Requester) (n : Fin 32)
  /-- ALLOCATION_START (R249): At each multiple of 200,000 ticks the policy layer begins solving an allocation. -/
  | allocationStart
  /-- ALLOCATION_RESULT (R250): An allocation result is ready, and is applied at the next trim cycle or discarded. -/
  | allocationResult
  /-- CURVE_STORE (R248): Every STORE_S seconds, and on SHIP, the loss curves are written to NVM. -/
  | curveStore
  /-- CAP_COMPARISON (R263): At each multiple of 10 ticks, bus power is compared with C, and L is tightened, released, probed or repeated. -/
  | capComparison (bus : Twice BusSamples) (a b : List (Twice Int × Twice Int))
  /-- CAPLINE_SLOT (R267): An own CAPLINE slot begins and the next queued frame is sent and read back. -/
  | caplineSlot (bad : BitVec 64)
  /-- CAPLINE_FRAME_RX (R273): A valid frame is received in a slot that is not the unit's own and is counted. -/
  | caplineFrameRx
  /-- CAP_TEST (R274): A CAP_CMD.TEST write issues one level-0 decision, or is refused. -/
  | capTest (r : Requester)
  /-- PROBE_NOW (R276): A CAP_CMD.PROBE_NOW write makes the next comparison treat the probe time as elapsed. -/
  | probeNow (r : Requester)
  /-- BATTERY_UPDATE (R277): Every 10,000 ticks each string's charge, model, SOC source and charge limit are updated. -/
  | batteryUpdate
  /-- EMPTY_QUALIFIED (R286): STR_V at or below V_SD throughout SD_QUAL makes a string EMPTY and anchors it. -/
  | emptyQualified (n : Fin 8)
  /-- EMPTY_END (R286): STR_V above V_SD + SD_MARGIN for SD_QUAL ends EMPTY. -/
  | emptyEnd (n : Fin 8)
  /-- MEAN_2S (R289): Every 2,000,000 ticks each string's 2 s mean current is formed, and rest episodes are judged. -/
  | mean2s
  /-- MINUTE_MEAN (R289): Every 60,000,000 ticks the 1-minute voltage mean is formed and a rest point may qualify. The row has no operand, and
  the place says nothing. -/
  | minuteMean (none_ : Unit)
  /-- PERT_RESUME (R293): 60,000,000 ticks at sufficient current resume the perturbation. -/
  | pertResume
  /-- DEMOD_WINDOW_END (R294): At the end of each 60 s window the demodulation may update R_int. The row has no operand, and the place says
  nothing. -/
  | demodWindowEnd (none_ : Unit)
  /-- STR_ID_CONVERSION (R295): An identity conversion of a string is judged; 5 agreeing conversions change presence or code. -/
  | strIdConversion (n : Fin 8)
  /-- PRESENCE_CHANGE (R295): A string's presence or code changes after 5 agreeing conversions. -/
  | presenceChange (n : Fin 8)
  /-- BAT_OPEN (R297): A BAT_CMD.OPEN write opens a string with cause 1. -/
  | batOpen (r : Requester) (n : Fin 8)
  /-- BAT_CLOSE (R298): A BAT_CMD.CLOSE write closes a string if its conditions hold, or is refused. -/
  | batClose (r : Requester) (n : Fin 8)
  /-- RESEED (R296): A BAT_CMD.RESEED write reseeds a string's learned set. -/
  | batReseed (r : Requester) (n : Fin 8)
  /-- RESTORE (R296): A BAT_CMD.RESTORE write exchanges the learned set with the archive slot. -/
  | batRestore (r : Requester) (n : Fin 8)
  /-- BAT_TBL_COMMIT (R280): A BAT_CMD.TBL_COMMIT write copies a table set's edit copy to active, or is refused. -/
  | batTblCommit (r : Requester)
  /-- BAT_TBL_DATA_ACCESS (R279): An access of BAT_TBL_DATA reads or writes a table word and advances INDEX. -/
  | batTblDataAccess (r : Requester) (w : Option Word)
  /-- STR_EN_WRITE (R297): A BAT_CFG.STR_EN bit written 0 opens the string with cause 9; written 1, it restores the string from its record. -/
  | strEnWrite (r : Requester) (w : Word)
  /-- STRING_TRIP (R297): String current above I_TRIP for TRIP_T opens the string with cause 6. -/
  | stringTrip (n : Fin 8)
  /-- STRING_RECONNECT (R298): An open string's conditions hold, including 1,000,000 ticks of voltage agreement, so it closes. -/
  | stringReconnect (n : Fin 8)
  /-- BAT_RECORD_WRITE (R300): Every 60,000,000 ticks, and at events, each string's record is written to NVM. -/
  | batRecordWrite
  /-- DAYS_INCREMENT (R292): Each operating day increments DAYS, and CAP_STALE is set at STALE_DAYS. -/
  | daysIncrement (n : Fin 8)
  /-- SHIP (R303): A BAT_SHIP_CMD.SHIP write with KEY 0x5A5A enters SHIP and runs the shut-down to core power-down. -/
  | ship (r : Requester) (w : Word)
  /-- WAKE (R304): WAKE high for 10 ms starts the unit with cause WAKE. -/
  | wake
  /-- VBAT_KEEP_LOSS (R304): Loss of VBAT_KEEP during ship clears the ship latch. -/
  | vbatKeepLoss
  /-- WAKE_REST_GIVEUP (R304): A wake rest point is taken, or is given up after 3 minutes, which permits reconnection. -/
  | wakeRestGiveup
  /-- EFU_ON (R313): An EFU_CMD.ON write sets a channel's run request. -/
  | efuOn (r : Requester) (n : Fin 8)
  /-- EFU_OFF (R313): An EFU_CMD.OFF write clears a channel's run request. -/
  | efuOff (r : Requester) (n : Fin 8)
  /-- EFU_CLEAR (R312): An EFU_CMD.CLEAR write returns a LATCHED or DAMAGED channel to OFF, or is refused. -/
  | efuClear (r : Requester) (n : Fin 8)
  /-- FEED_A (R323): An EFU_CMD.FEED_A write forces feed A. -/
  | feedA (r : Requester)
  /-- FEED_B (R323): An EFU_CMD.FEED_B write forces feed B. -/
  | feedB (r : Requester)
  /-- FEED_AUTO (R323): An EFU_CMD.FEED_AUTO write removes the feed force. -/
  | feedAuto (r : Requester)
  /-- EFU_WAIT_EXPIRY (R312): The wait W passes, so the channel enters INRUSH. -/
  | efuWaitExpiry (n : Fin 8)
  /-- EF_ON_RISE (R314): 20 ticks after INRUSH entry, EF_ON rises and the inrush timer starts. -/
  | efOnRise (n : Fin 8)
  /-- EF_ILIM_FALL (R314): 20 ticks after turn-off, EF_ILIM falls to 0 V. -/
  | efIlimFall (n : Fin 8)
  /-- INRUSH_QUALIFIED (R312): Output good and current below the limit for 1,000 ticks move the channel to ON. -/
  | inrushQualified (n : Fin 8)
  /-- INRUSH_EXPIRY (R315): The inrush timer expires without ON, which is a failure with cause SHORT or NO_OUTPUT. -/
  | inrushExpiry (n : Fin 8)
  /-- OVERCURRENT_EXPIRY (R316): Current at the limit for OC_MS turns the channel off with cause OVERCURRENT. -/
  | overcurrentExpiry (n : Fin 8)
  /-- FET_MODEL_UPDATE (R318): Every 100 ticks the FET model updates, and HOT or OVER_TEMP is judged. -/
  | fetModelUpdate (none_ : Unit)
  /-- EFU_RETRY_RESET (R312): CLEAR_S seconds in ON reset the retry count. -/
  | efuRetryReset (n : Fin 8)
  /-- DAMAGE_DETECT (R320): Output or current present for 5,000 ticks while off makes the channel DAMAGED. -/
  | damageDetect (n : Fin 8)
  /-- FEED_GOOD (R322): QUAL_MS of in-window samples make a feed good. -/
  | feedGood (k : Fin 2)
  /-- FEED_BAD (R322): BAD_US of out-of-window samples make a feed bad. -/
  | feedBad (k : Fin 2)
  /-- FEED_SWITCH_START (R323): The wanted feed differs from the selected one, so the old feed turns off with cause DESELECTED. -/
  | feedSwitchStart
  /-- FEED_BBM_COMPLETE (R323): After BBM_US, with the old current below I_OFF, the new feed is demanded. -/
  | feedBbmComplete
  /-- FEED_STUCK (R323): The old feed's current is not below I_OFF by BBM_MAX_US, so FEED_STUCK is set. -/
  | feedStuck
  /-- FEED_REVERT_TIMER (R323): PREF good for REVERT_S permits a switch back to it. -/
  | feedRevertTimer
  /-- SLOT_INSERT (R326): A debounced insertion edge starts a fresh or continued insertion wait. -/
  | slotInsert (n : Fin 8) (none_ : Unit)
  /-- SLOT_REMOVE (R325): A debounced removal edge turns the channel off and holds its slot memory. -/
  | slotRemove (n : Fin 8) (none_ : Unit)
  /-- SLOT_MEMORY_EXPIRY (R325): The slot memory ends 60,000,000 ticks after removal. -/
  | slotMemoryExpiry (n : Fin 8)
  /-- SEQ_UP (R341): A SEQ_CMD.UP write sets the sequence run request. -/
  | seqUp (r : Requester)
  /-- SEQ_DOWN (R341): A SEQ_CMD.DOWN write clears the sequence run request. -/
  | seqDown (r : Requester)
  /-- SEQ_CLEAR (R340): A SEQ_CMD.CLEAR write returns FAULT to OFF, or is refused. -/
  | seqClear (r : Requester)
  /-- PG_DEGLITCH_CHANGE (R336): A rail's PG input holds a new level for DEGL ticks and its deglitched PG changes. -/
  | pgDeglitchChange (n : Fin 24) (high : Bool)
  /-- RAIL_QUALIFIED (R337): PG high for QUAL ms qualifies a rail and may complete its step. -/
  | railQualified (n : Fin 24)
  /-- RAIL_EN_RISE (R338): DLY_ON after its step start, a rail's EN rises and its window starts. -/
  | railEnRise (n : Fin 24)
  /-- RAIL_WINDOW_EXPIRY (R339): A rail not qualified within WIN has a NO_PG rail fault. -/
  | railWindowExpiry (n : Fin 24)
  /-- RMON_SAMPLE (R345): A rail voltage sample is judged: off in shut-down, or fault-timer start or stop in service. -/
  | rmonSample (n : Fin 24)
  /-- RAIL_WARNING (R344): WARN_T of out-of-band samples put a rail in warning. -/
  | railWarning (n : Fin 24)
  /-- FAULT_TIMER_EXPIRY (R346): A rail's fault timer expires and FLT_ACT decides the outcome. -/
  | faultTimerExpiry (n : Fin 24)
  /-- FLT_ACT0_REQUALIFY (R346): QUAL after its timer last stopped, a report-only rail qualifies again. -/
  | fltAct0Requalify (n : Fin 24)
  /-- RMN_TEST (R347): An RMN_CMD.TEST write starts or restarts a level test. -/
  | rmnTest (r : Requester)
  /-- RMN_TEST_END (R347): An RMN_CMD.TEST_END write ends the level test. -/
  | rmnTestEnd (r : Requester)
  /-- TEST_TIMEOUT (R347): TEST_S seconds after it starts, the level test ends. -/
  | testTimeout
  /-- RESET_STRETCH_END (R348): A reset output's condition holds through its stretch and the output is released. -/
  | resetStretchEnd (k : Fin 8)
  /-- DN_STUCK (R351): A rail not off within DIS_TMO is logged as DN_STUCK. -/
  | dnStuck (n : Fin 24)
  /-- P7_EN_FALL (R352): In a P7230-table shut-down, a rail's EN falls P7_DLY after the start. -/
  | p7EnFall (n : Fin 24)
  /-- SEQ_RETRY_EXPIRY (R340): RETRY_MS in RETRY_WAIT returns the sequence to UP. -/
  | seqRetryExpiry
  /-- SEQ_RETRY_RESET (R340): 60,000,000 ticks in RUN reset the sequence retry count. -/
  | seqRetryReset
  /-- CASCADE_INPUT_CHANGE (R354): A deglitched SEQ_UP_IN or SEQ_DN_IN change continues a step, ends the demand, or is a cascade fault. -/
  | cascadeInputChange (dn high : Bool)
  /-- CASCADE_TIMEOUT (R354): CASC_TMO_MS passes without SEQ_DN_IN, which is a cascade fault or a cascade DN_STUCK. -/
  | cascadeTimeout
  /-- THERMAL_GROUP_RECOMPUTE (R365): A member conversion completes: the group temperature and level are recomputed, with requests and outputs. -/
  | thermalGroupRecompute (g : Fin 6)
  /-- TWB_TRANSACTION_START (R384): An IDLE channel with a free bus starts a requested transaction. -/
  | twbTransactionStart (c : Fin 16) (ev : StartRun)
  /-- TWB_TRANSACTION_END (R393): A transaction ends with its STOP and returns a result code. -/
  | twbTransactionEnd (c : Fin 16) (code : Fin 16) (bytes : Nat) (data : List Byte) (sr stretch : Nat)
  /-- BUS_FREE (R384): The bus becomes free after STOP and tBUF, or after IDLE_US of idle lines. -/
  | busFree (b : BusIdle)
  /-- CLK_LOW_TIMEOUT (R389): SCL held low for TLOW_TO puts the channel in STUCK. -/
  | clkLowTimeout (h : LineHeld)
  /-- SEXT_TIMEOUT (R389): Cumulative clock extension beyond SEXT_MS ends the transaction. -/
  | sextTimeout (c : Fin 16) (stretch bytes : Nat)
  /-- SDA_HELD_CLEAR (R384): SDA low with SCL high for IDLE_US, with a request pending, starts a bus clear. -/
  | sdaHeldClear (h : LineHeld)
  /-- BUS_CLEAR_COMPLETE (R390): A bus clear ends in IDLE, or in STUCK with DATA_LOW. -/
  | busClearComplete (c : Fin 16) (e : ClearEnd)
  /-- STUCK_RETRY (R384): RETRY_STUCK_MS after STUCK, a bus clear is tried if SCL is high. -/
  | stuckRetry (c : Fin 16) (sclHigh : Bool)
  /-- TWB_CLEAR (R384): A TWB_CMD.CLEAR write starts a bus clear. -/
  | twbClear (r : Requester) (c : Fin 16)
  /-- TWB_RESET (R390): A TWB_CMD.RESET write aborts mid-bit and starts a bus clear. -/
  | twbReset (r : Requester) (c : Fin 16)
  /-- HN_FLUSH (R395): A TWB_CMD.HN_FLUSH write empties the Host Notify queue. -/
  | hnFlush (r : Requester)
  /-- HOST_NOTIFY (R383): A complete Host Notify message is received and queued, or refused. -/
  | hostNotify (c : Fin 16) (addr : Fin 128) (data : BitVec 16) (run : NotifyRun)
  /-- ACCESSION_PASS_START (R401): A pass starts at firmware start, every PASS_S, or on XAC_CMD.PASS. -/
  | accessionPassStart
  /-- XAC_PASS (R401): An XAC_CMD.PASS write starts an Accession pass. -/
  | xacPass (r : Requester)
  /-- ACCESSION_PASS_DONE (R401): Every enabled channel is done, so the pass ends. -/
  | accessionPassDone (bad : Unit)
  /-- ENTRY_SILENT_TIMEOUT (R400): No OK result for SILENT_MS makes an entry SILENT. -/
  | entrySilentTimeout (n : Fin 1024)
  /-- DEACCESSION_TIMEOUT (R400): SILENT for DEACC_S removes the entry. -/
  | deaccessionTimeout (n : Fin 1024)
  /-- DEACCEDE (R400): An XAC_CMD.DEACCEDE write removes an entry. -/
  | deaccede (r : Requester) (n : Fin 1024)
  /-- POLL_DUE (R403): At each multiple of 1,000 ticks, due poll items are submitted or skipped. -/
  | pollDue
  /-- REQUEST_SUBMIT (R404): A block submits a transaction request, which is queued, refused, or supersedes a pending write. -/
  | requestSubmit (n : Fin 1024) (cls : Fin 6) (proto : Fin 14) (cmd : BitVec 16) (count : BitVec 8) (data : List Byte)
  /-- REQUEST_COMPLETE (R408): A request's transaction ends, and the result is retried, judged stale, or returned. -/
  | requestComplete
  /-- REQUEST_TIMEOUT (R407): XAC_TMO_MS after submission, a request ends with TIMEOUT. -/
  | requestTimeout
  /-- HREQ_SUBMIT (R414): An XAC_HREQ.SUBMIT write submits a host request of class 2. -/
  | hreqSubmit (r : Requester) (w : Word)
  /-- BLACK_BOX_BLOCK (R421): At the end of each 1,000-tick block, the Topsoil block, and every 100th time a Subsoil block, is written or dropped. -/
  | blackBoxBlock (samples lastSeq : Unit) (copied : Nat)
  /-- BLACK_BOX_TRIGGER (R428): A trigger opens a record or joins one. -/
  | blackBoxTrigger (src : Fin 32) (fine : Fin 64)
  /-- BBX_TRIGGER_CMD (R424): A BBX_CMD.TRIGGER write raises trigger source 1. -/
  | bbxTriggerCmd (r : Requester)
  /-- PIN (R432): A BBX_CMD.PIN write pins a record, or is refused. -/
  | pin (r : Requester) (k : Fin 16)
  /-- UNPIN (R432): A BBX_CMD.UNPIN write removes a pin. -/
  | unpin (r : Requester) (k : Fin 16)
  /-- DELETE (R432): A BBX_CMD.DELETE write empties a closed record and frees its sectors. -/
  | delete (r : Requester) (k : Fin 16)
  /-- POST_WINDOW_CLOSE (R426): The post window of a record closes at its end, on a drop or on SHIP. -/
  | postWindowClose
  /-- STRATA_COMMIT_COMPLETE (R429): A Strata commit writes its final header and directory entry, or ends truncated. -/
  | strataCommitComplete
  /-- EVENT_RECORD (R443): A record is made and is admitted, suppressed, coalesced or dropped. -/
  | eventRecord (w : RecordFrom)
  /-- WAITING_RECORD_QUEUED (R623): A place becomes free and a waiting record is queued with its sequence number. -/
  | waitingRecordQueued
  /-- LOSS_SUMMARY_QUEUED (R443): After drops, a TRACE_GAP or EVENT_LOSS record is queued once more than 256 places are free. -/
  | lossSummaryQueued
  /-- EVENT_DRAIN (R445): A queued record is written to its NVM ring slot, word 0 last. -/
  | eventDrain
  /-- BUCKET_REFILL (R447): At each multiple of 1,000 ticks every bucket level rises by its rate. -/
  | bucketRefill
  /-- SUPPRESSION_WINDOW_END (R448): At each multiple of 1,000,000 ticks a SUPPRESSED record is queued per bucket with suppressions. -/
  | suppressionWindowEnd
  /-- RL_CFG_WRITE (R447): A write of a limiter entry fills its bucket and summarises old suppressions. -/
  | rlCfgWrite (r : Requester) (w : Word)
  /-- EVR_HEAD_READ (R449): A read of EVR_HEAD latches EVR_TAIL and EVR_WRITTEN for that source. -/
  | evrHeadRead (r : Requester)
  /-- CLEAR (R451): An EVR_CMD.CLEAR write with a correct quote clears the recorder, or is refused. -/
  | clear (r : Requester)
  /-- INJECT (R455): An EVR_CMD.INJECT write queues a host-injected record. -/
  | inject (r : Requester)
  /-- TIME_SAVE (R441): Every 10,000 ms, and on SHIP, operating time is saved to the time rings. -/
  | timeSave
  /-- BEACON_SEND (R463): At every pair tick that is a multiple of 10, a BEACON is sent. -/
  | beaconSend
  /-- LOOP_SEND (R463): At every multiple of 100 pair ticks, the primary sends LOOP records. -/
  | loopSend
  /-- BEACON (R465): A BEACON is received; it may bring the link up and align pair time. -/
  | pairBeacon (h : FrameHead) (b : Beacon)
  /-- ACK (R463): A Helkar ACK frame is received and releases acknowledged frames. -/
  | pairAck (h : FrameHead) (upto : Word)
  /-- NAK (R467): A Helkar NAK frame is received, counted and recorded. -/
  | pairNak (h : FrameHead) (seq : Word) (reason : Fin 256)
  /-- OBJECT (R466): An OBJECT frame of object records is received and applied. -/
  | pairObject (h : FrameHead) (l : List ObjRecord)
  /-- LOOP (R469): A LOOP frame is received, and mirrored slot states are corrected at their next samples. -/
  | pairLoop (h : FrameHead) (l : List LoopRecord)
  /-- CONFIG (R467): A CONFIG frame is received and its write applied by stamp, or answered with NAK. -/
  | pairConfig (h : FrameHead) (addr : BitVec 24) (fromB : Bool) (value : Word) (stamp : BitVec 64)
  /-- ESTIMATOR (R466): An ESTIMATOR frame is received and the mirrored values are taken. -/
  | pairEstimator (h : FrameHead) (l : List EstRecord)
  /-- CATALOGUE (R466): A CATALOGUE frame is received and the entry bytes are taken. -/
  | pairCatalogue (h : FrameHead) (l : List CatRecord)
  /-- COMMAND (R467): A COMMAND frame is received and its BAKE or COMMIT is carried out. -/
  | pairCommand (h : FrameHead) (code : Byte)
  /-- BULK (R478): A BULK resynchronisation block is received and applied. -/
  | pairBulk (h : FrameHead) (b : BulkBlock)
  /-- HELKAR_RETRANSMIT (R463): An unacknowledged frame is resent after 20 ticks, and the link goes down after 8 resends. -/
  | helkarRetransmit
  /-- HELKAR_LINK_TIMEOUT (R465): No valid BEACON for LINK_TMO, or too many code violations, take the link down. -/
  | helkarLinkTimeout (violations : Nat)
  /-- PAIR_OFFSET_SLEW (R461): Every 1,000 ticks the non-primary slews its pair offset. -/
  | pairOffsetSlew
  /-- WITNESS_POLL_SEND (R474): Every POLL_US ticks the Registrar sends a POLL to a unit. -/
  | witnessPollSend (x : Fin 2)
  /-- POLL (R474): A unit receives a POLL, answers with a HEARTBEAT and updates its partner view. -/
  | witnessPoll (h : WitHead) (primaryB : Bool) (viewA viewB : Fin 4)
  /-- HEARTBEAT (R475): The Registrar receives a HEARTBEAT and makes its decisions. -/
  | heartbeat (h : WitHead) (m : HeartbeatMsg)
  /-- HEARTBEAT_TIMEOUT (R475): A unit silent for HB_TMO leads the Registrar to a verdict or a fence completion. -/
  | heartbeatTimeout (x : Fin 2)
  /-- REGISTRAR_START (R475): Once the units answer, or HB_TMO passes, the Registrar issues the start EPOCH. -/
  | registrarStart
  /-- EPOCH (R471): A unit receives an EPOCH message, and adopts it at its effective tick if its E is greater. -/
  | epoch (h : WitHead) (e : EpochMsg)
  /-- EPOCH_EFFECTIVE (R479): At the effective pair tick, the epoch, map and primary change, and objects move. -/
  | epochEffective
  /-- FENCE (R476): A FENCE message makes the unit fence itself. -/
  | fence (h : WitHead) (cause : FenceCause)
  /-- FENCE_TIMEOUT (R476): No BEACON and no Registrar message for FENCE_TMO makes the unit fence itself. -/
  | fenceTimeout
  /-- FENCE_SELF (R476): An HLK_CMD.FENCE_SELF write fences the unit. -/
  | fenceSelf (r : Requester)
  /-- MIGRATE (R475): An HLK_CMD.MIGRATE write requests a migration. -/
  | pairMigrate (r : Requester)
  /-- REVERT (R478): An HLK_CMD.REVERT write requests a revert. -/
  | pairRevert (r : Requester)
  /-- REJOIN (R478): An HLK_CMD.REJOIN write moves FENCED to LINKING. -/
  | pairRejoin (r : Requester)
  /-- STABLE_EXPIRY (R478): STABLE_S seconds in WAITING make the unit request a revert. -/
  | stableExpiry
  /-- FENCED_REJOIN_TIMER (R478): The link up for 1,000,000 ticks with the partner ALIVE returns FENCED to LINKING. -/
  | fencedRejoinTimer
  /-- REGISTRAR_LOST_TIMEOUT (R477): No Registrar message for HB_TMO sets REGISTRAR_LOST. -/
  | registrarLostTimeout
  /-- SES_OPEN_START (R484): A SES_OPEN.START write issues a nonce for an SPI session open. -/
  | sesOpenStart (r : Requester) (w : Word)
  /-- SES_OPEN_CLOSE (R486): A SES_OPEN.CLOSE write closes the SPI session. -/
  | sesOpenClose (r : Requester) (w : Word)
  /-- SES_RESP_SUBMIT (R484): A write of SES_RESP[3] submits the response, and the session opens or the attempt fails. -/
  | sesRespSubmit (r : Requester) (w : Word)
  /-- LOCKOUT_END (R485): 60,000,000 ticks after the 5th failure, the port lockout ends. -/
  | lockoutEnd (p : Fin 3)
  /-- NONCE_EXPIRY (R484): A nonce expires without a response, which is a failure. -/
  | nonceExpiry
  /-- SESSION_IDLE_TIMEOUT (R486): IDLE_S without an accepted request closes the session. -/
  | sessionIdleTimeout (k : Fin 8)
  /-- KEY_ERASE (R483): A SES_KEY_SEL.ERASE write invalidates a key slot and closes its sessions. -/
  | keyErase (r : Requester) (w : Word)
  /-- KEY_COMMIT (R483): A SES_KEY_SEL.COMMIT write makes the key slot valid and may end provisioning. -/
  | keyCommit (r : Requester) (w : Word)
  /-- KEY_DATA_WRITE (R503): A SES_KEY_DATA write stores a key word and advances WORD. -/
  | keyDataWrite (r : Requester) (w : Word)
  /-- SPI_READ (R489): An SPI READ frame reads words until SPI_CS_N rises. -/
  | spiRead (a : BitVec 24) (n : Nat) (cut : Bool)
  /-- SPI_WRITE (R489): An SPI WRITE frame writes words until SPI_CS_N rises. -/
  | spiWrite (a : BitVec 24) (ws : List Word) (cut : Bool)
  /-- SPI_STATUS (R490): An SPI STATUS frame returns and clears the status word. -/
  | spiStatus
  /-- OPEN (R495): A PRAX OPEN is received and a CHALLENGE is answered. -/
  | praxOpen (d : Datagram)
  /-- PROVE (R495): A PRAX PROVE is received and opens the session, or fails. -/
  | praxProve (d : Datagram)
  /-- PRAX_CLOSE (R495): A PRAX CLOSE is received and closes the session. -/
  | praxClose (d : Datagram)
  /-- READ (R495): A PRAX READ is received and words are returned. -/
  | praxRead (d : Datagram)
  /-- WRITE (R495): A PRAX WRITE is received and words are written until the first refusal. -/
  | praxWrite (d : Datagram)
  /-- KEEPALIVE (R495): A PRAX KEEPALIVE is received and the idle time restarts. -/
  | praxKeepalive (d : Datagram)
  /-- SUBSCRIBE (R497): A PRAX SUBSCRIBE is received and sets or removes the notification severity. -/
  | praxSubscribe (d : Datagram)
  /-- NOTIFY_ACK (R497): A PRAX NOTIFY_ACK is received and acknowledges notified events. -/
  | notifyAck (d : Datagram)
  /-- WITNESS (R498): A PRAX WITNESS datagram is received and handled as a witness message. -/
  | praxWitness (d : Datagram)
  /-- NOTIFY_SEND (R497): Event records are sent in NOTIFY datagrams, and unacknowledged alarms are resent every RESEND. -/
  | notifySend (k : Fin 8) (drop : Nat)
  /-- DHCP_LEASE_END (R492): A DHCPv4 lease ends unrenewed and the address is removed. -/
  | dhcpLeaseEnd (p : Fin 2)
  /-- ETH_LINK_CHANGE (R491): An Ethernet link goes up or down. -/
  | ethLinkChange (p : Fin 2) (line : EthLine) (speed : Fin 3) (dadFail : Bool) (slaac : Option (Fin 129))
  /-- PTP_SYNC (R500): A PTP Sync message from the master is stamped and used for discipline. -/
  | ptpSync (m : PtpFrom) (offset : Int) (delay : Nat) (sec ns : Nat)
  /-- PTP_TIMEOUT (R500): PTP_TMO seconds without Sync lose the PTP source. -/
  | ptpTimeout
  /-- MDIO_READ (R505): A HIF_MDIO_CMD.READ write starts an MDIO read. -/
  | mdioRead (r : Requester) (p : Fin 2) (w : Word)
  /-- MDIO_WRITE (R505): A HIF_MDIO_CMD.WRITE write starts an MDIO write. -/
  | mdioWrite (r : Requester) (p : Fin 2) (w : Word)
  /-- MDIO_COMPLETE (R505): An MDIO access completes and BUSY clears. -/
  | mdioComplete (data : BitVec 16)
  /-- SEND (R508): A mailbox SEND makes the channel FULL, or is refused. -/
  | mbxSend (r : Requester) (out : Bool) (w : Word)
  /-- TAKE (R508): A mailbox TAKE returns a FULL channel to EMPTY. -/
  | mbxTake (r : Requester) (out : Bool) (w : Word)
  /-- RECALL (R508): A mailbox RECALL withdraws a message undelivered. -/
  | mbxRecall (r : Requester) (out : Bool) (w : Word)
  /-- MAILBOX_DATA_WRITE (R509): A write to mailbox channel data is stored, or is refused while the channel is FULL. -/
  | mailboxDataWrite (r : Requester) (off : BitVec 16) (w : Word)
  /-- MAILBOX_TIMEOUT (R511): A small or medium channel not taken within TMO_MS sets TIMEOUT. -/
  | mailboxTimeout (out : Bool) (c : Fin 32)
  /-- WDI_TOGGLE (R519): A qualified WDI toggle is judged accepted, rejected, early or late. -/
  | wdiToggle
  /-- WDG_OPEN_PHASE_END (R519): An open phase ends without an accepted toggle and the watchdog expires LATE. -/
  | wdgOpenPhaseEnd
  /-- WDG_CLOSED_PHASE_END (R518): The closed phase ends and the open phase begins. -/
  | wdgClosedPhaseEnd
  /-- WDG_PULSE_END (R522): PULSE_MS after expiry, the reset pulse ends. -/
  | wdgPulseEnd
  /-- WDG_SUSPENSION_END (R521): A suspension window ends without an accepted toggle and the watchdog expires. -/
  | wdgSuspensionEnd
  /-- BAKE (R537): A KLN_CMD.BAKE write snapshots the settings and starts writing a Kiln record. -/
  | bake (r : Requester)
  /-- BAKE_COMPLETE (R538): The BAKE write and verify finish, and the magic is written or the BAKE fails. -/
  | bakeComplete (good : Bool)
  /-- WIPE (R540): An NVM_WIPE_CMD.WIPE write with KEY 0x3C3C starts a sector wipe, or is refused. -/
  | wipe (r : Requester) (w : Word)
  /-- WIPE_COMPLETE (R540): The wipe's 64 steps end and the watchdog suspension window begins. -/
  | wipeComplete
  /-- TILLING_VISIT (R541): Tilling reads, corrects and rewrites the next word. -/
  | tillingVisit (found : WordError)
  /-- ECC_CORRECT_REWRITE (R531): A corrected NVM word is rewritten within 1 s. -/
  | eccCorrectRewrite
  /-- KLN_NEXT_LEN_UPDATE (R536): Every 1,000 ticks the prospective Kiln record length is reported. -/
  | klnNextLenUpdate
  /-- BLOCK (R554): A chain BLOCK is received, stored, acknowledged and forwarded, or refused with NAK. -/
  | chainBlock (h : ChainHead) (payload : List Byte) (busy : Bool)
  /-- CHAIN_ACK (R554): A chain ACK is received and releases a block from the send window. -/
  | chainAck (h : ChainHead)
  /-- CHAIN_NAK (R554): A chain NAK is received, and a CRC NAK resends the block. -/
  | chainNak (h : ChainHead) (reason : Fin 6)
  /-- HELLO (R553): A chain HELLO is received; it brings the port up and updates the neighbour. -/
  | chainHello (h : ChainHead) (uid : BitVec 64) (st : Fin 8) (result : Fin 16) (ready : Bool)
  /-- STATUS (R553): A chain STATUS is received and forwarded out of the other port. -/
  | chainStatus (h : ChainHead) (payload : List Byte)
  /-- HELLO_SEND (R553): Every 100 ms each chain port sends a HELLO. -/
  | helloSend
  /-- CHAIN_PORT_TIMEOUT (R553): No HELLO for 300 ms, or too many code violations, take a chain port down. -/
  | chainPortTimeout (p : Fin 2) (codes : Nat)
  /-- CHAIN_RETRANSMIT (R554): RETX_MS without an ACK resends a block, and RETX_MAX sends end the transfer. -/
  | chainRetransmit (p : Fin 2)
  /-- RESET_LINK (R572): A CHN_CMD.RESET_LINK write takes a chain port down and retrains it. -/
  | resetLink (r : Requester) (w : Word)
  /-- STAGING_RX_TIMEOUT (R561): RX_TMO_S without a new block returns RECEIVING to IDLE. -/
  | stagingRxTimeout
  /-- ACTIVATE (R563): An UPD_CMD.ACTIVATE write, or automatic activation, writes TRIAL and restarts the cores. -/
  | updActivate (r : Requester)
  /-- DISCARD (R561): An UPD_CMD.DISCARD write abandons the staged image. -/
  | updDiscard (r : Requester)
  /-- UPD_REVERT (R568): An UPD_CMD.REVERT write in MODULES starts a revert. -/
  | updRevert (r : Requester)
  /-- MODULE_BANK_REPORT (R566): A module's bank status result arrives; when every target is GOOD the update commits. -/
  | moduleBankReport
  /-- MODULE_TIMEOUT (R566): MOD_TMO_S without GOOD from a target reverts the update. -/
  | moduleTimeout
  /-- TRIAL_TIMEOUT (R566): TRIAL_S after activation, while still in MODULES, the update reverts. -/
  | trialTimeout
  /-- CORE_TASK_BOUNDARY (R578): A task boundary's signatures are compared, and a mismatch is a core fault. -/
  | coreTaskBoundary (task : Byte) (differ : Bool)
  /-- CORE_BOUNDARY_TIMEOUT (R578): One core is 500 ticks behind at a boundary, which is a core fault. -/
  | coreBoundaryTimeout (task : Byte)
  /-- CORE_RELEASE (R578): A SAF_CMD.CORE_RELEASE write restarts held cores. -/
  | coreRelease (r : Requester)
  /-- SIEVE_READ (R579): Sieve reads and checks its next SRAM or NVM word on schedule. -/
  | sieveRead (sram : Bool) (spot : SramSpot) (found : Vector WordError 4)
  /-- SIEVE_PASS_END (R579): At the end of each 8,000,000-tick window the pass ends and SIEVE_LATE is judged. -/
  | sievePassEnd
  /-- SUPPLY_DROOP (R581): A supply droop of 1 µs or more is detected and reported. -/
  | supplyDroop (k : Fin 3) (lat : Fin 6)
  /-- TELEMETRY_REFRESH (R582): Every PERIOD_MS the policy layer refreshes derived values, or the refresh is skipped. -/
  | telemetryRefresh (ms : Option (BitVec 16))
  /-- JTAG_EXTEST (R596): An EXTEST, CLAMP or HIGHZ instruction makes the boundary cells take the balls and ends service. -/
  | jtagExtest
  /-- CATALOGUE_SCHEDULE_WRITE (R397): A write to the Catalogue window is stored if it falls in a poll schedule item of a non-FREE entry, ignored for a FREE entry, and refused with UNMAPPED elsewhere. -/
  | catalogueScheduleWrite (r : Requester) (off : Fin 0x20000) (w : Word)
  /-- AFE_MEANS_UPDATE (R121): At each tick 1,000(k + 1), AFE_VA_AVG, AFE_VB_AVG, AFE_IA_AVG and AFE_IB_AVG take the rounded means of window k. -/
  | afeMeansUpdate (before after : BusSamples) (phases : Vector (Twice Int) 16) (charge current : Vector Int 8) (ovr : Bool)
    (strOvr : BitVec 8)
  /-- PTP_ANNOUNCE (R500): A PTP Announce message is received and the best master clock algorithm chooses the master. -/
  | ptpAnnounce (m : PtpFrom) (best : Bool)
  /-- DHCP_LEASE_OBTAINED (R492): A DHCPv4 lease is obtained, the address comes into use and PRAX resumes on IPv4. -/
  | dhcpLeaseObtained (p : Fin 2) (addr : Word) (secs : Nat)
  /-- LISTEN_SDA_LOW_TIMEOUT (R384): In LISTEN, SDA has been low with SCL high for TLOW_TO ms, so the channel starts a bus clear. -/
  | listenSdaLowTimeout (h : LineHeld)
  /-- SUPPLY_DROOP_END (R581): A supply droop ends, its SAF_DROOP_STAT bit clears and AFE results stop being marked invalid. -/
  | supplyDroopEnd (k : Fin 3)
  deriving DecidableEq, Repr

end Sys2Proof
end

