-- ==== Sys2Proof/Config.lean ====
section
/-! DEFINITION. What an implementation fixes and the spec does not state: constants without a body, so that no proof can
see a value of them (log entries 1 and 2). -/

namespace Sys2Proof

/-- The n-th draw of 32 bits from the on-die random source of R484 (log entry 2). -/
opaque Config.random : Nat → BitVec 32

/-- A value the spec leaves open, drawn by the counter `State.free` (log entry 1). -/
opaque Config.freeValue : Nat → Int

/-- The code R438 and R439 give an event that the spec names without giving its number (log entry 5). The argument is
the event's place in the model's list of events. -/
opaque Config.eventCode : Nat → Nat

/-- The severity of such an event, 0 to 4 (log entry 5). -/
opaque Config.eventSeverity : Nat → Fin 5

/-- The class of such an event: 0 EVENT, 1 ALARM, 2 TRACE (log entry 5). -/
opaque Config.eventClass : Nat → Fin 3

/-- The payload layout number of a code (R438, log entry 5). -/
opaque Config.eventLayout : Nat → Nat

/-- Payload bytes of such an event from its object and data (R438, log entry 5). -/
opaque Config.eventPayload : Nat → Nat → List Int → Nat → BitVec 8

/-- Whether a code is defined (R438, R439, log entry 5). -/
opaque Config.codeDefined : Nat → Bool

/-- What the balls that a register names show when it is read in a tick: comparator outputs, PH_HI and PH_LO pads, SHEV and strap
balls, and the fine stamp of the read within its tick, by register address (log entry 1). -/
opaque Config.pads : Nat → Nat → Nat

end Sys2Proof
end

