-- ==== Sys2Proof/Machine/RegTypes.lean ====
section
/-! DEFINITION. What a register and a field of it are: the types of R76, the classes of R77, and the row of the
register table that one register, or one array of registers, has in the spec. -/

namespace Sys2Proof.Machine

/-- The field types of R76. -/
inductive FieldType where
  | rw | rwk | ro | wo | cmd
  deriving DecidableEq, Repr

/-- The register classes of R77. -/
inductive RegClass where
  | c | s | k | d
  deriving DecidableEq, Repr

/-- One field of a register or of an array of registers, as a row of the spec's register tables gives it. -/
structure Field where
  /-- byte address of the register, element 0 of an array -/
  addr : Nat
  /-- bytes from one element to the next -/
  stride : Nat
  /-- lowest bit -/
  lo : Nat
  width : Nat
  ty : FieldType
  /-- reset value of the field, the same in every element -/
  reset : Nat
  /-- where a field is repeated inside one register: bits from one repetition to the next, else 0 -/
  sub : Nat
  /-- repetitions inside one register, else 1 -/
  per : Nat
  /-- the accepted ranges of R78; empty where every value is accepted -/
  ranges : List (Int × Int)
  /-- whether the ranges are of the two's complement value -/
  signed : Bool
  deriving DecidableEq, Repr

/-- One register, or one array of registers. -/
structure RegRow where
  addr : Nat
  stride : Nat
  count : Nat
  cls : RegClass
  fields : List Field
  /-- the resets element by element where the spec gives them so, else empty -/
  resets : List Nat
  deriving DecidableEq, Repr

end Sys2Proof.Machine
end

