-- ==== Sys2Proof/Machine/RegsBus.lean ====
section
/-! DEFINITION. The registers of pages TWB, XAC, HLK, CHN, UPD, HIF, SAF, BKG, as the register tables of the spec give them: one
definition per field (address, element distance, lowest bit, width, type, reset, repetition, accepted ranges), one
table row per register. The eight header registers of R75 open each page. -/

namespace Sys2Proof.Machine

/-! Page 0x17 TWB: R75 and R394 (15_two_wire_buses.md), R395 (15_two_wire_buses.md), R396 (15_two_wire_buses.md). -/

def TWB_LOCK_LOCK : Field := ⟨0x5C01C, 0x0, 0, 1, .rwk, 0, 0, 1, [], false⟩
def TWB_LOCK_STICKY : Field := ⟨0x5C01C, 0x0, 1, 1, .rw, 0, 0, 1, [], false⟩
def TWB_CFGCRC_CRC : Field := ⟨0x5C018, 0x0, 0, 32, .ro, 0, 0, 1, [], false⟩
def TWB_CTRL_EN : Field := ⟨0x5C008, 0x0, 0, 1, .rwk, 1, 0, 1, [], false⟩
def TWB_STAT_STUCK_ANY : Field := ⟨0x5C00C, 0x0, 0, 1, .ro, 0, 0, 1, [], false⟩
def TWB_STAT_CLEARING_ANY : Field := ⟨0x5C00C, 0x0, 1, 1, .ro, 0, 0, 1, [], false⟩
def TWB_STAT_HN_FULL : Field := ⟨0x5C00C, 0x0, 2, 1, .ro, 0, 0, 1, [], false⟩
def TWB_CFG_HN_EN : Field := ⟨0x5C040, 0x0, 0, 1, .rwk, 1, 0, 1, [], false⟩
def TWB_CFG_ARB_RETRY : Field := ⟨0x5C040, 0x0, 8, 4, .rwk, 3, 0, 1, [], false⟩
def TWB_CFG_IDLE_US : Field := ⟨0x5C040, 0x0, 16, 8, .rwk, 50, 0, 1, [(50, 255)], false⟩
def TWB_TIMEOUT_TLOW_TO : Field := ⟨0x5C044, 0x0, 0, 8, .rwk, 25, 0, 1, [(25, 35)], false⟩
def TWB_TIMEOUT_SEXT_MS : Field := ⟨0x5C044, 0x0, 8, 8, .rwk, 25, 0, 1, [(1, 25)], false⟩
def TWB_TIMEOUT_RETRY_STUCK_MS : Field := ⟨0x5C044, 0x0, 16, 16, .rwk, 35, 0, 1, [(35, 60000)], false⟩
def TWB_CH_EN_EN : Field := ⟨0x5C048, 0x0, 0, 16, .rwk, 0xffff, 0, 1, [], false⟩
def TWB_CMD_CH : Field := ⟨0x5C04C, 0x0, 0, 4, .wo, 0, 0, 1, [], false⟩
def TWB_CMD_CLEAR : Field := ⟨0x5C04C, 0x0, 8, 1, .cmd, 0, 0, 1, [], false⟩
def TWB_CMD_RESET : Field := ⟨0x5C04C, 0x0, 9, 1, .cmd, 0, 0, 1, [], false⟩
def TWB_CMD_HN_FLUSH : Field := ⟨0x5C04C, 0x0, 10, 1, .cmd, 0, 0, 1, [], false⟩
def TWB_STUCK_MASK : Field := ⟨0x5C050, 0x0, 0, 16, .ro, 0, 0, 1, [], false⟩
def TWB_BUSY_MASK : Field := ⟨0x5C054, 0x0, 0, 16, .ro, 0, 0, 1, [], false⟩
def TWB_HN_STAT_COUNT : Field := ⟨0x5C058, 0x0, 0, 6, .ro, 0, 0, 1, [], false⟩
def TWB_HN_STAT_OVF : Field := ⟨0x5C058, 0x0, 16, 16, .ro, 0, 0, 1, [], false⟩
def TWB_HN_LAST_ADDR : Field := ⟨0x5C05C, 0x0, 0, 7, .ro, 0, 0, 1, [], false⟩
def TWB_HN_LAST_CH : Field := ⟨0x5C05C, 0x0, 8, 4, .ro, 0, 0, 1, [], false⟩
def TWB_HN_LAST_DATA : Field := ⟨0x5C05C, 0x0, 16, 16, .ro, 0, 0, 1, [], false⟩
def TWB_HN_TICK_TICK : Field := ⟨0x5C060, 0x0, 0, 32, .ro, 0, 0, 1, [], false⟩
def TWB_ASV_CNT_ASV : Field := ⟨0x5C064, 0x0, 0, 16, .ro, 0, 0, 1, [], false⟩
def TWB_ASV_CNT_ARB_SR : Field := ⟨0x5C064, 0x0, 16, 16, .ro, 0, 0, 1, [], false⟩
def TWB_ARB_CNT_LOST : Field := ⟨0x5C068, 0x0, 0, 16, .ro, 0, 0, 1, [], false⟩
def TWB_ARB_CNT_RETRIES : Field := ⟨0x5C068, 0x0, 16, 16, .ro, 0, 0, 1, [], false⟩
def TWB_TO_CNT_CLK_LOW : Field := ⟨0x5C06C, 0x0, 0, 16, .ro, 0, 0, 1, [], false⟩
def TWB_TO_CNT_DATA_LOW : Field := ⟨0x5C06C, 0x0, 16, 16, .ro, 0, 0, 1, [], false⟩
def TWB_PEC_CNT_PEC_ERR : Field := ⟨0x5C070, 0x0, 0, 16, .ro, 0, 0, 1, [], false⟩
def TWB_PEC_CNT_NACK : Field := ⟨0x5C070, 0x0, 16, 16, .ro, 0, 0, 1, [], false⟩
def TWB_ARP_CFG_ARP_EN : Field := ⟨0x5C074, 0x0, 0, 16, .rwk, 0xffff, 0, 1, [], false⟩
def TWB_HN_PEC_PEC : Field := ⟨0x5C078, 0x0, 0, 16, .rwk, 0, 0, 1, [], false⟩
def TWB_BYTE_CNT_BYTES : Field := ⟨0x5C07C, 0x0, 0, 32, .ro, 0, 0, 1, [], false⟩
def TWB_CH_CFG_SPEED : Field := ⟨0x5C080, 0x20, 0, 2, .rwk, 1, 0, 1, [(0, 2)], false⟩
def TWB_CH_TIME_TLOW_EXT : Field := ⟨0x5C084, 0x20, 0, 8, .rwk, 0, 0, 1, [], false⟩
def TWB_CH_TIME_THIGH_EXT : Field := ⟨0x5C084, 0x20, 8, 8, .rwk, 0, 0, 1, [], false⟩
def TWB_CH_STAT_STATE : Field := ⟨0x5C088, 0x20, 0, 3, .ro, 0, 0, 1, [], false⟩
def TWB_CH_STAT_SCL : Field := ⟨0x5C088, 0x20, 3, 1, .ro, 1, 0, 1, [], false⟩
def TWB_CH_STAT_SDA : Field := ⟨0x5C088, 0x20, 4, 1, .ro, 1, 0, 1, [], false⟩
def TWB_CH_STAT_LAST_ERR : Field := ⟨0x5C088, 0x20, 8, 4, .ro, 0, 0, 1, [], false⟩
def TWB_CH_LAST_ADDR : Field := ⟨0x5C08C, 0x20, 0, 7, .ro, 0, 0, 1, [], false⟩
def TWB_CH_LAST_CMD : Field := ⟨0x5C08C, 0x20, 8, 8, .ro, 0, 0, 1, [], false⟩
def TWB_CH_LAST_BYTES : Field := ⟨0x5C08C, 0x20, 16, 8, .ro, 0, 0, 1, [], false⟩
def TWB_CH_XFERS_XFERS : Field := ⟨0x5C090, 0x20, 0, 32, .ro, 0, 0, 1, [], false⟩
def TWB_CH_ERRS_ERRORS : Field := ⟨0x5C094, 0x20, 0, 16, .ro, 0, 0, 1, [], false⟩
def TWB_CH_ERRS_CLEARS : Field := ⟨0x5C094, 0x20, 16, 16, .ro, 0, 0, 1, [], false⟩
def TWB_CH_STUCK_STUCKS : Field := ⟨0x5C098, 0x20, 0, 16, .ro, 0, 0, 1, [], false⟩
def TWB_CH_STUCK_SEXT_MAX : Field := ⟨0x5C098, 0x20, 16, 16, .ro, 0, 0, 1, [], false⟩
def TWB_CH_TICK_TICK : Field := ⟨0x5C09C, 0x20, 0, 32, .ro, 0, 0, 1, [], false⟩
def TWB_IEN_STUCK_ANY : Field := ⟨0x5C010, 0x0, 0, 1, .rwk, 0, 0, 1, [], false⟩
def TWB_IEN_CLEARING_ANY : Field := ⟨0x5C010, 0x0, 1, 1, .rwk, 0, 0, 1, [], false⟩
def TWB_IEN_HN_FULL : Field := ⟨0x5C010, 0x0, 2, 1, .rwk, 0, 0, 1, [], false⟩

def rowsTWBA : List RegRow := [
  ⟨0x5C000, 0x0, 1, .s, [], [0x1000017]⟩,
  ⟨0x5C004, 0x0, 1, .s, [], [0x90]⟩,
  ⟨0x5C008, 0x0, 1, .c, [TWB_CTRL_EN], []⟩,
  ⟨0x5C00C, 0x0, 1, .s, [TWB_STAT_STUCK_ANY, TWB_STAT_CLEARING_ANY, TWB_STAT_HN_FULL], []⟩,
  ⟨0x5C010, 0x0, 1, .c, [TWB_IEN_STUCK_ANY, TWB_IEN_CLEARING_ANY, TWB_IEN_HN_FULL], []⟩,
  ⟨0x5C014, 0x0, 1, .s, [], []⟩,
  ⟨0x5C018, 0x0, 1, .s, [TWB_CFGCRC_CRC], []⟩,
  ⟨0x5C01C, 0x0, 1, .c, [TWB_LOCK_LOCK, TWB_LOCK_STICKY], []⟩,
  ⟨0x5C040, 0x0, 1, .c, [TWB_CFG_HN_EN, TWB_CFG_ARB_RETRY, TWB_CFG_IDLE_US], []⟩,
  ⟨0x5C044, 0x0, 1, .c, [TWB_TIMEOUT_TLOW_TO, TWB_TIMEOUT_SEXT_MS, TWB_TIMEOUT_RETRY_STUCK_MS], []⟩,
  ⟨0x5C048, 0x0, 1, .c, [TWB_CH_EN_EN], []⟩,
  ⟨0x5C04C, 0x0, 1, .k, [TWB_CMD_CH, TWB_CMD_CLEAR, TWB_CMD_RESET, TWB_CMD_HN_FLUSH], []⟩,
  ⟨0x5C050, 0x0, 1, .s, [TWB_STUCK_MASK], []⟩,
  ⟨0x5C054, 0x0, 1, .s, [TWB_BUSY_MASK], []⟩,
  ⟨0x5C058, 0x0, 1, .s, [TWB_HN_STAT_COUNT, TWB_HN_STAT_OVF], []⟩,
  ⟨0x5C05C, 0x0, 1, .s, [TWB_HN_LAST_ADDR, TWB_HN_LAST_CH, TWB_HN_LAST_DATA], []⟩,
  ⟨0x5C060, 0x0, 1, .s, [TWB_HN_TICK_TICK], []⟩,
  ⟨0x5C064, 0x0, 1, .s, [TWB_ASV_CNT_ASV, TWB_ASV_CNT_ARB_SR], []⟩,
  ⟨0x5C068, 0x0, 1, .s, [TWB_ARB_CNT_LOST, TWB_ARB_CNT_RETRIES], []⟩,
  ⟨0x5C06C, 0x0, 1, .s, [TWB_TO_CNT_CLK_LOW, TWB_TO_CNT_DATA_LOW], []⟩,
  ⟨0x5C070, 0x0, 1, .s, [TWB_PEC_CNT_PEC_ERR, TWB_PEC_CNT_NACK], []⟩,
  ⟨0x5C074, 0x0, 1, .c, [TWB_ARP_CFG_ARP_EN], []⟩,
  ⟨0x5C078, 0x0, 1, .c, [TWB_HN_PEC_PEC], []⟩,
  ⟨0x5C07C, 0x0, 1, .s, [TWB_BYTE_CNT_BYTES], []⟩]

def rowsTWBB : List RegRow := [
  ⟨0x5C080, 0x20, 16, .c, [TWB_CH_CFG_SPEED], []⟩,
  ⟨0x5C084, 0x20, 16, .c, [TWB_CH_TIME_TLOW_EXT, TWB_CH_TIME_THIGH_EXT], []⟩,
  ⟨0x5C088, 0x20, 16, .s, [TWB_CH_STAT_STATE, TWB_CH_STAT_SCL, TWB_CH_STAT_SDA, TWB_CH_STAT_LAST_ERR], []⟩,
  ⟨0x5C08C, 0x20, 16, .s, [TWB_CH_LAST_ADDR, TWB_CH_LAST_CMD, TWB_CH_LAST_BYTES], []⟩,
  ⟨0x5C090, 0x20, 16, .s, [TWB_CH_XFERS_XFERS], []⟩,
  ⟨0x5C094, 0x20, 16, .s, [TWB_CH_ERRS_ERRORS, TWB_CH_ERRS_CLEARS], []⟩,
  ⟨0x5C098, 0x20, 16, .s, [TWB_CH_STUCK_STUCKS, TWB_CH_STUCK_SEXT_MAX], []⟩,
  ⟨0x5C09C, 0x20, 16, .s, [TWB_CH_TICK_TICK], []⟩]

/-- Every register of page 0x17. -/
def rowsTWB : List RegRow := rowsTWBA ++ rowsTWBB

/-! Page 0x18 XAC: R75 and R413 (16_catalogue_transactions.md), R414 (16_catalogue_transactions.md). -/

def XAC_LOCK_LOCK : Field := ⟨0x6001C, 0x0, 0, 1, .rwk, 0, 0, 1, [], false⟩
def XAC_LOCK_STICKY : Field := ⟨0x6001C, 0x0, 1, 1, .rw, 0, 0, 1, [], false⟩
def XAC_CFGCRC_CRC : Field := ⟨0x60018, 0x0, 0, 32, .ro, 0, 0, 1, [], false⟩
def XAC_CTRL_EN : Field := ⟨0x60008, 0x0, 0, 1, .rwk, 1, 0, 1, [], false⟩
def XAC_STAT_PASS_RUNNING : Field := ⟨0x6000C, 0x0, 0, 1, .ro, 0, 0, 1, [], false⟩
def XAC_STAT_FIRST_DONE : Field := ⟨0x6000C, 0x0, 1, 1, .ro, 0, 0, 1, [], false⟩
def XAC_STAT_NEAR_FULL : Field := ⟨0x6000C, 0x0, 2, 1, .ro, 0, 0, 1, [], false⟩
def XAC_STAT_SILENT_ANY : Field := ⟨0x6000C, 0x0, 3, 1, .ro, 0, 0, 1, [], false⟩
def XAC_CFG_RETRY : Field := ⟨0x60040, 0x0, 0, 4, .rwk, 2, 0, 1, [], false⟩
def XAC_CFG_PASS_S : Field := ⟨0x60040, 0x0, 4, 12, .rwk, 10, 0, 1, [(1, 4095)], false⟩
def XAC_CFG_SILENT_MS : Field := ⟨0x60040, 0x0, 16, 16, .rwk, 1000, 0, 1, [(100, 65535)], false⟩
def XAC_LIFE_DEACC_S : Field := ⟨0x60044, 0x0, 0, 16, .rwk, 300, 0, 1, [(10, 65535)], false⟩
def XAC_LIFE_XAC_TMO_MS : Field := ⟨0x60044, 0x0, 16, 16, .rwk, 200, 0, 1, [(10, 65535)], false⟩
def XAC_ADDR_SCAN_LO : Field := ⟨0x60048, 0x0, 0, 7, .rwk, 16, 0, 1, [], false⟩
def XAC_ADDR_SCAN_HI : Field := ⟨0x60048, 0x0, 8, 7, .rwk, 119, 0, 1, [], false⟩
def XAC_ADDR_POOL_LO : Field := ⟨0x60048, 0x0, 16, 7, .rwk, 64, 0, 1, [], false⟩
def XAC_ADDR_POOL_HI : Field := ⟨0x60048, 0x0, 24, 7, .rwk, 95, 0, 1, [], false⟩
def XAC_CMD_ENTRY : Field := ⟨0x6004C, 0x0, 0, 10, .wo, 0, 0, 1, [], false⟩
def XAC_CMD_PASS : Field := ⟨0x6004C, 0x0, 16, 1, .cmd, 0, 0, 1, [], false⟩
def XAC_CMD_DEACCEDE : Field := ⟨0x6004C, 0x0, 17, 1, .cmd, 0, 0, 1, [], false⟩
def XAC_EPOCH_E : Field := ⟨0x60050, 0x0, 0, 32, .ro, 0, 0, 1, [], false⟩
def XAC_INFLIGHT_NOW : Field := ⟨0x60054, 0x0, 0, 10, .ro, 0, 0, 1, [], false⟩
def XAC_INFLIGHT_MAX : Field := ⟨0x60054, 0x0, 16, 10, .ro, 0, 0, 1, [], false⟩
def XAC_INFLIGHT_Q5 : Field := ⟨0x60054, 0x0, 26, 6, .ro, 0, 0, 1, [], false⟩
def XAC_CLASS_Q_Q : Field := ⟨0x60058, 0x0, 0, 6, .ro, 0, 6, 5, [], false⟩
def XAC_STALE_DISCARDED : Field := ⟨0x6005C, 0x0, 0, 16, .ro, 0, 0, 1, [], false⟩
def XAC_STALE_KEPT : Field := ⟨0x6005C, 0x0, 16, 16, .ro, 0, 0, 1, [], false⟩
def XAC_SUPERSEDED_COUNT : Field := ⟨0x60060, 0x0, 0, 32, .ro, 0, 0, 1, [], false⟩
def XAC_REFUSALS_FULL : Field := ⟨0x60064, 0x0, 0, 16, .ro, 0, 0, 1, [], false⟩
def XAC_REFUSALS_REFUSED : Field := ⟨0x60064, 0x0, 16, 16, .ro, 0, 0, 1, [], false⟩
def XAC_POLL_SKIP_COUNT : Field := ⟨0x60068, 0x0, 0, 32, .ro, 0, 0, 1, [], false⟩
def XAC_ACC_STAT_PASSES : Field := ⟨0x6006C, 0x0, 0, 16, .ro, 0, 0, 1, [], false⟩
def XAC_ACC_STAT_LAST_MS : Field := ⟨0x6006C, 0x0, 16, 16, .ro, 0, 0, 1, [], false⟩
def XAC_COUNT_PRESENT : Field := ⟨0x60070, 0x0, 0, 11, .ro, 0, 0, 1, [], false⟩
def XAC_COUNT_USED : Field := ⟨0x60070, 0x0, 16, 11, .ro, 0, 0, 1, [], false⟩
def XAC_HREQ_ENTRY : Field := ⟨0x60074, 0x0, 0, 10, .rw, 0, 0, 1, [], false⟩
def XAC_HREQ_PROTO : Field := ⟨0x60074, 0x0, 12, 4, .rw, 0, 0, 1, [(0, 9)], false⟩
def XAC_HREQ_CMD : Field := ⟨0x60074, 0x0, 16, 8, .rw, 0, 0, 1, [], false⟩
def XAC_HREQ_LEN : Field := ⟨0x60074, 0x0, 24, 6, .rw, 0, 0, 1, [(0, 32)], false⟩
def XAC_HREQ_SUBMIT : Field := ⟨0x60074, 0x0, 31, 1, .cmd, 0, 0, 1, [], false⟩
def XAC_HDATA_DATA : Field := ⟨0x60078, 0x4, 0, 32, .rw, 0, 0, 1, [], false⟩
def XAC_HRES_CODE : Field := ⟨0x60098, 0x0, 0, 5, .ro, 0, 0, 1, [], false⟩
def XAC_HRES_BYTES : Field := ⟨0x60098, 0x0, 8, 6, .ro, 0, 0, 1, [], false⟩
def XAC_HRES_BUSY : Field := ⟨0x60098, 0x0, 16, 1, .ro, 0, 0, 1, [], false⟩
def XAC_HTICK_TICK : Field := ⟨0x6009C, 0x0, 0, 32, .ro, 0, 0, 1, [], false⟩
def XAC_POS_LO_USED : Field := ⟨0x600A0, 0x8, 0, 32, .ro, 0, 0, 1, [], false⟩
def XAC_POS_HI_USED : Field := ⟨0x600A4, 0x8, 0, 32, .ro, 0, 0, 1, [], false⟩
def XAC_IEN_PASS_RUNNING : Field := ⟨0x60010, 0x0, 0, 1, .rwk, 0, 0, 1, [], false⟩
def XAC_IEN_FIRST_DONE : Field := ⟨0x60010, 0x0, 1, 1, .rwk, 0, 0, 1, [], false⟩
def XAC_IEN_NEAR_FULL : Field := ⟨0x60010, 0x0, 2, 1, .rwk, 0, 0, 1, [], false⟩
def XAC_IEN_SILENT_ANY : Field := ⟨0x60010, 0x0, 3, 1, .rwk, 0, 0, 1, [], false⟩

def rowsXACA : List RegRow := [
  ⟨0x60000, 0x0, 1, .s, [], [0x1000018]⟩,
  ⟨0x60004, 0x0, 1, .s, [], [0x38]⟩,
  ⟨0x60008, 0x0, 1, .c, [XAC_CTRL_EN], []⟩,
  ⟨0x6000C, 0x0, 1, .s, [XAC_STAT_PASS_RUNNING, XAC_STAT_FIRST_DONE, XAC_STAT_NEAR_FULL, XAC_STAT_SILENT_ANY], []⟩,
  ⟨0x60010, 0x0, 1, .c, [XAC_IEN_PASS_RUNNING, XAC_IEN_FIRST_DONE, XAC_IEN_NEAR_FULL, XAC_IEN_SILENT_ANY], []⟩,
  ⟨0x60014, 0x0, 1, .s, [], []⟩,
  ⟨0x60018, 0x0, 1, .s, [XAC_CFGCRC_CRC], []⟩,
  ⟨0x6001C, 0x0, 1, .c, [XAC_LOCK_LOCK, XAC_LOCK_STICKY], []⟩,
  ⟨0x60040, 0x0, 1, .c, [XAC_CFG_RETRY, XAC_CFG_PASS_S, XAC_CFG_SILENT_MS], []⟩,
  ⟨0x60044, 0x0, 1, .c, [XAC_LIFE_DEACC_S, XAC_LIFE_XAC_TMO_MS], []⟩,
  ⟨0x60048, 0x0, 1, .c, [XAC_ADDR_SCAN_LO, XAC_ADDR_SCAN_HI, XAC_ADDR_POOL_LO, XAC_ADDR_POOL_HI], []⟩,
  ⟨0x6004C, 0x0, 1, .k, [XAC_CMD_ENTRY, XAC_CMD_PASS, XAC_CMD_DEACCEDE], []⟩,
  ⟨0x60050, 0x0, 1, .s, [XAC_EPOCH_E], []⟩,
  ⟨0x60054, 0x0, 1, .s, [XAC_INFLIGHT_NOW, XAC_INFLIGHT_MAX, XAC_INFLIGHT_Q5], []⟩,
  ⟨0x60058, 0x0, 1, .s, [XAC_CLASS_Q_Q], []⟩,
  ⟨0x6005C, 0x0, 1, .s, [XAC_STALE_DISCARDED, XAC_STALE_KEPT], []⟩,
  ⟨0x60060, 0x0, 1, .s, [XAC_SUPERSEDED_COUNT], []⟩,
  ⟨0x60064, 0x0, 1, .s, [XAC_REFUSALS_FULL, XAC_REFUSALS_REFUSED], []⟩,
  ⟨0x60068, 0x0, 1, .s, [XAC_POLL_SKIP_COUNT], []⟩,
  ⟨0x6006C, 0x0, 1, .s, [XAC_ACC_STAT_PASSES, XAC_ACC_STAT_LAST_MS], []⟩,
  ⟨0x60070, 0x0, 1, .s, [XAC_COUNT_PRESENT, XAC_COUNT_USED], []⟩,
  ⟨0x60074, 0x0, 1, .d, [XAC_HREQ_ENTRY, XAC_HREQ_PROTO, XAC_HREQ_CMD, XAC_HREQ_LEN, XAC_HREQ_SUBMIT], []⟩,
  ⟨0x60078, 0x4, 8, .d, [XAC_HDATA_DATA], []⟩,
  ⟨0x60098, 0x0, 1, .s, [XAC_HRES_CODE, XAC_HRES_BYTES, XAC_HRES_BUSY], []⟩]

def rowsXACB : List RegRow := [
  ⟨0x6009C, 0x0, 1, .s, [XAC_HTICK_TICK], []⟩,
  ⟨0x600A0, 0x8, 16, .s, [XAC_POS_LO_USED], []⟩,
  ⟨0x600A4, 0x8, 16, .s, [XAC_POS_HI_USED], []⟩]

/-- Every register of page 0x18. -/
def rowsXAC : List RegRow := rowsXACA ++ rowsXACB

/-! Page 0x19 HLK: R75 and R481 (19_redundant_pair.md), R482 (19_redundant_pair.md). -/

def HLK_LOCK_LOCK : Field := ⟨0x6401C, 0x0, 0, 1, .rwk, 0, 0, 1, [], false⟩
def HLK_LOCK_STICKY : Field := ⟨0x6401C, 0x0, 1, 1, .rw, 0, 0, 1, [], false⟩
def HLK_CFGCRC_CRC : Field := ⟨0x64018, 0x0, 0, 32, .ro, 0, 0, 1, [], false⟩
def HLK_CTRL_EN : Field := ⟨0x64008, 0x0, 0, 1, .rwk, 1, 0, 1, [], false⟩
def HLK_STAT_LINK_UP : Field := ⟨0x6400C, 0x0, 0, 1, .ro, 0, 0, 1, [], false⟩
def HLK_STAT_PARTNER_LOST : Field := ⟨0x6400C, 0x0, 1, 1, .ro, 0, 0, 1, [], false⟩
def HLK_STAT_REGISTRAR_LOST : Field := ⟨0x6400C, 0x0, 2, 1, .ro, 0, 0, 1, [], false⟩
def HLK_STAT_FENCED : Field := ⟨0x6400C, 0x0, 3, 1, .ro, 0, 0, 1, [], false⟩
def HLK_STAT_SYNCING : Field := ⟨0x6400C, 0x0, 4, 1, .ro, 0, 0, 1, [], false⟩
def HLK_STAT_CFG_DIVERGED : Field := ⟨0x6400C, 0x0, 5, 1, .ro, 0, 0, 1, [], false⟩
def HLK_STAT_TIME_ERR : Field := ⟨0x6400C, 0x0, 6, 1, .ro, 0, 0, 1, [], false⟩
def HLK_STAT_LOOP_DIV : Field := ⟨0x6400C, 0x0, 7, 1, .ro, 0, 0, 1, [], false⟩
def HLK_CFG_PREF : Field := ⟨0x64040, 0x0, 0, 1, .rwk, 0, 0, 1, [], false⟩
def HLK_CFG_AUTO_REVERT : Field := ⟨0x64040, 0x0, 1, 1, .rwk, 1, 0, 1, [], false⟩
def HLK_CFG_LOOP_ALIGN : Field := ⟨0x64040, 0x0, 2, 1, .rwk, 1, 0, 1, [], false⟩
def HLK_CFG_WIT_PATH : Field := ⟨0x64040, 0x0, 4, 2, .rwk, 0, 0, 1, [(0, 2)], false⟩
def HLK_CFG_STABLE_S : Field := ⟨0x64040, 0x0, 16, 16, .rwk, 60, 0, 1, [(10, 65535)], false⟩
def HLK_TIMING_LINK_TMO : Field := ⟨0x64044, 0x0, 0, 16, .rwk, 1000, 0, 1, [(200, 10000)], false⟩
def HLK_TIMING_FENCE_TMO : Field := ⟨0x64044, 0x0, 16, 16, .rwk, 1500, 0, 1, [(1, 65535)], false⟩
def HLK_WIT_TIME_POLL_US : Field := ⟨0x64048, 0x0, 0, 16, .rwk, 250, 0, 1, [(100, 1000)], false⟩
def HLK_WIT_TIME_HB_TMO : Field := ⟨0x64048, 0x0, 16, 16, .rwk, 2000, 0, 1, [(1, 65535)], false⟩
def HLK_MAP_PH_OWNER_B : Field := ⟨0x6404C, 0x0, 0, 16, .rwk, 0xff00, 0, 1, [], false⟩
def HLK_MAP_EF_EF_B : Field := ⟨0x64050, 0x0, 0, 8, .rwk, 240, 0, 1, [], false⟩
def HLK_MAP_EF_STR_B : Field := ⟨0x64050, 0x0, 8, 8, .rwk, 240, 0, 1, [], false⟩
def HLK_MAP_EF_RST_B : Field := ⟨0x64050, 0x0, 16, 8, .rwk, 240, 0, 1, [], false⟩
def HLK_MAP_RAIL_OWNER_B : Field := ⟨0x64054, 0x0, 0, 24, .rwk, 0xfff000, 0, 1, [], false⟩
def HLK_MAP_CH_OWNER_B : Field := ⟨0x64058, 0x0, 0, 16, .rwk, 0xff00, 0, 1, [], false⟩
def HLK_CMD_MIGRATE : Field := ⟨0x6405C, 0x0, 0, 1, .cmd, 0, 0, 1, [], false⟩
def HLK_CMD_REVERT : Field := ⟨0x6405C, 0x0, 1, 1, .cmd, 0, 0, 1, [], false⟩
def HLK_CMD_REJOIN : Field := ⟨0x6405C, 0x0, 2, 1, .cmd, 0, 0, 1, [], false⟩
def HLK_CMD_FENCE_SELF : Field := ⟨0x6405C, 0x0, 3, 1, .cmd, 0, 0, 1, [], false⟩
def HLK_STATE_JOIN : Field := ⟨0x64060, 0x0, 0, 3, .ro, 0, 0, 1, [], false⟩
def HLK_STATE_PRIMARY : Field := ⟨0x64060, 0x0, 3, 1, .ro, 0, 0, 1, [], false⟩
def HLK_STATE_PARTNER_HEARD : Field := ⟨0x64060, 0x0, 4, 1, .ro, 0, 0, 1, [], false⟩
def HLK_STATE_REG_HEARD : Field := ⟨0x64060, 0x0, 5, 1, .ro, 0, 0, 1, [], false⟩
def HLK_STATE_RESYNC_PCT : Field := ⟨0x64060, 0x0, 8, 8, .ro, 0, 0, 1, [], false⟩
def HLK_STATE_STABLE_LEFT : Field := ⟨0x64060, 0x0, 16, 16, .ro, 0, 0, 1, [], false⟩
def HLK_EPOCH_E : Field := ⟨0x64064, 0x0, 0, 32, .ro, 0, 0, 1, [], false⟩
def HLK_EPOCH_TICK_TICK : Field := ⟨0x64068, 0x0, 0, 32, .ro, 0, 0, 1, [], false⟩
def HLK_EPOCH_CAUSE_CAUSE : Field := ⟨0x6406C, 0x0, 0, 4, .ro, 0, 0, 1, [], false⟩
def HLK_EPOCH_CAUSE_MAP : Field := ⟨0x6406C, 0x0, 4, 2, .ro, 0, 0, 1, [], false⟩
def HLK_EPOCH_CAUSE_LATE : Field := ⟨0x6406C, 0x0, 8, 8, .ro, 0, 0, 1, [], false⟩
def HLK_EFF_PH_OWN : Field := ⟨0x64070, 0x0, 0, 16, .ro, 0, 0, 1, [], false⟩
def HLK_EFF_EF_EF : Field := ⟨0x64074, 0x0, 0, 8, .ro, 0, 0, 1, [], false⟩
def HLK_EFF_EF_STR : Field := ⟨0x64074, 0x0, 8, 8, .ro, 0, 0, 1, [], false⟩
def HLK_EFF_EF_RST : Field := ⟨0x64074, 0x0, 16, 8, .ro, 0, 0, 1, [], false⟩
def HLK_EFF_RAIL_OWN : Field := ⟨0x64078, 0x0, 0, 24, .ro, 0, 0, 1, [], false⟩
def HLK_EFF_CH_OWN : Field := ⟨0x6407C, 0x0, 0, 16, .ro, 0, 0, 1, [], false⟩
def HLK_PART_ACT : Field := ⟨0x64080, 0x0, 0, 16, .ro, 0, 0, 1, [], false⟩
def HLK_PART_JOIN : Field := ⟨0x64080, 0x0, 16, 3, .ro, 0, 0, 1, [], false⟩
def HLK_PTICK_LO_TICK_LO : Field := ⟨0x64084, 0x0, 0, 32, .ro, 0, 0, 1, [], false⟩
def HLK_PTICK_HI_TICK_HI : Field := ⟨0x64088, 0x0, 0, 32, .ro, 0, 0, 1, [], false⟩
def HLK_OFS_LO_OFS_LO : Field := ⟨0x6408C, 0x0, 0, 32, .ro, 0, 0, 1, [], false⟩
def HLK_OFS_HI_OFS_HI : Field := ⟨0x64090, 0x0, 0, 32, .ro, 0, 0, 1, [], false⟩
def HLK_TIME_STAT_ERR : Field := ⟨0x64094, 0x0, 0, 16, .ro, 0, 0, 1, [], false⟩
def HLK_TIME_STAT_ALIGNED : Field := ⟨0x64094, 0x0, 16, 1, .ro, 0, 0, 1, [], false⟩
def HLK_TIME_STAT_FOLLOWING : Field := ⟨0x64094, 0x0, 17, 1, .ro, 0, 0, 1, [], false⟩
def HLK_TIME_STAT_SLEWS : Field := ⟨0x64094, 0x0, 24, 8, .ro, 0, 0, 1, [], false⟩
def HLK_LINK_STAT_LOCKED : Field := ⟨0x64098, 0x0, 0, 1, .ro, 0, 0, 1, [], false⟩
def HLK_LINK_STAT_DOWNS : Field := ⟨0x64098, 0x0, 8, 8, .ro, 0, 0, 1, [], false⟩
def HLK_LINK_STAT_LAT_NS : Field := ⟨0x64098, 0x0, 16, 16, .ro, 0, 0, 1, [], false⟩
def HLK_LINK_ERR_CODE : Field := ⟨0x6409C, 0x0, 0, 16, .ro, 0, 0, 1, [], false⟩
def HLK_LINK_ERR_CRC : Field := ⟨0x6409C, 0x0, 16, 16, .ro, 0, 0, 1, [], false⟩
def HLK_TX_CNT_FRAMES : Field := ⟨0x640A0, 0x0, 0, 32, .ro, 0, 0, 1, [], false⟩
def HLK_RX_CNT_FRAMES : Field := ⟨0x640A4, 0x0, 0, 32, .ro, 0, 0, 1, [], false⟩
def HLK_RETX_COUNT : Field := ⟨0x640A8, 0x0, 0, 32, .ro, 0, 0, 1, [], false⟩
def HLK_NAK_LOCKED : Field := ⟨0x640AC, 0x0, 0, 16, .ro, 0, 0, 1, [], false⟩
def HLK_NAK_OTHER : Field := ⟨0x640AC, 0x0, 16, 16, .ro, 0, 0, 1, [], false⟩
def HLK_CFG_SEQ_SENT : Field := ⟨0x640B0, 0x0, 0, 16, .ro, 0, 0, 1, [], false⟩
def HLK_CFG_SEQ_APPLIED : Field := ⟨0x640B0, 0x0, 16, 16, .ro, 0, 0, 1, [], false⟩
def HLK_PART_CRC_CRC : Field := ⟨0x640B4, 0x0, 0, 32, .ro, 0, 0, 1, [], false⟩
def HLK_CFG_STAT_LOST_RACES : Field := ⟨0x640B8, 0x0, 0, 16, .ro, 0, 0, 1, [], false⟩
def HLK_CFG_STAT_REFUSED : Field := ⟨0x640B8, 0x0, 16, 16, .ro, 0, 0, 1, [], false⟩
def HLK_LOOP_DIV_LO_SLOTS : Field := ⟨0x640BC, 0x0, 0, 32, .ro, 0, 0, 1, [], false⟩
def HLK_LOOP_DIV_HI_SLOTS : Field := ⟨0x640C0, 0x0, 0, 32, .ro, 0, 0, 1, [], false⟩
def HLK_LOOP_STAT_LATE : Field := ⟨0x640C4, 0x0, 0, 16, .ro, 0, 0, 1, [], false⟩
def HLK_LOOP_STAT_CORRECTIONS : Field := ⟨0x640C4, 0x0, 16, 16, .ro, 0, 0, 1, [], false⟩
def HLK_WIT_STAT_RX : Field := ⟨0x640C8, 0x0, 0, 16, .ro, 0, 0, 1, [], false⟩
def HLK_WIT_STAT_BAD : Field := ⟨0x640C8, 0x0, 16, 16, .ro, 0, 0, 1, [], false⟩
def HLK_WIT_LAST_TYPE : Field := ⟨0x640CC, 0x0, 0, 8, .ro, 0, 0, 1, [], false⟩
def HLK_WIT_LAST_FROM : Field := ⟨0x640CC, 0x0, 8, 2, .ro, 0, 0, 1, [], false⟩
def HLK_WIT_LAST_SEQ : Field := ⟨0x640CC, 0x0, 16, 16, .ro, 0, 0, 1, [], false⟩
def HLK_REG_VIEW_A : Field := ⟨0x640D0, 0x0, 0, 2, .ro, 0, 0, 1, [], false⟩
def HLK_REG_VIEW_B : Field := ⟨0x640D0, 0x0, 4, 2, .ro, 0, 0, 1, [], false⟩
def HLK_REG_VIEW_PRIMARY_B : Field := ⟨0x640D0, 0x0, 8, 1, .ro, 0, 0, 1, [], false⟩
def HLK_CNT_FAILOVERS : Field := ⟨0x640D4, 0x0, 0, 16, .ro, 0, 0, 1, [], false⟩
def HLK_CNT_REVERTS : Field := ⟨0x640D4, 0x0, 16, 16, .ro, 0, 0, 1, [], false⟩
def HLK_CNT2_FENCES : Field := ⟨0x640D8, 0x0, 0, 16, .ro, 0, 0, 1, [], false⟩
def HLK_CNT2_JOINS : Field := ⟨0x640D8, 0x0, 16, 16, .ro, 0, 0, 1, [], false⟩
def HLK_LAST_FAIL_TICK : Field := ⟨0x640DC, 0x0, 0, 32, .ro, 0, 0, 1, [], false⟩
def HLK_RESYNC_DONE : Field := ⟨0x640E0, 0x0, 0, 16, .ro, 0, 0, 1, [], false⟩
def HLK_RESYNC_TOTAL : Field := ⟨0x640E0, 0x0, 16, 16, .ro, 0, 0, 1, [], false⟩
def HLK_RESYNC_TIME_LAST : Field := ⟨0x640E4, 0x0, 0, 16, .ro, 0, 0, 1, [], false⟩
def HLK_RESYNC_TIME_MAX : Field := ⟨0x640E4, 0x0, 16, 16, .ro, 0, 0, 1, [], false⟩
def HLK_REG_EPOCH_E : Field := ⟨0x640E8, 0x0, 0, 32, .ro, 0, 0, 1, [], false⟩
def HLK_REG_LAST_A_TICK : Field := ⟨0x640EC, 0x0, 0, 32, .ro, 0, 0, 1, [], false⟩
def HLK_REG_LAST_B_TICK : Field := ⟨0x640F0, 0x0, 0, 32, .ro, 0, 0, 1, [], false⟩
def HLK_REG_CNT_EPOCHS : Field := ⟨0x640F4, 0x0, 0, 16, .ro, 0, 0, 1, [], false⟩
def HLK_REG_CNT_FENCES : Field := ⟨0x640F4, 0x0, 16, 16, .ro, 0, 0, 1, [], false⟩
def HLK_MIRROR_CTRL_CLASSES : Field := ⟨0x640F8, 0x0, 0, 5, .rwk, 31, 0, 1, [], false⟩
def HLK_LOOP_MASK_LO_SLOTS : Field := ⟨0x640FC, 0x0, 0, 32, .rwk, 0xffffffff, 0, 1, [], false⟩
def HLK_LOOP_MASK_HI_SLOTS : Field := ⟨0x64100, 0x0, 0, 32, .rwk, 0xffffffff, 0, 1, [], false⟩
def HLK_PAGE_EXCL_PAGES : Field := ⟨0x64104, 0x0, 0, 31, .rwk, 0x14000020, 0, 1, [], false⟩
def HLK_BEACON_AGE_TICKS : Field := ⟨0x64108, 0x0, 0, 32, .ro, 0xffffffff, 0, 1, [], false⟩
def HLK_OBJ_CNT_SENT : Field := ⟨0x6410C, 0x0, 0, 16, .ro, 0, 0, 1, [], false⟩
def HLK_OBJ_CNT_RECEIVED : Field := ⟨0x6410C, 0x0, 16, 16, .ro, 0, 0, 1, [], false⟩
def HLK_EST_CNT_SENT : Field := ⟨0x64110, 0x0, 0, 16, .ro, 0, 0, 1, [], false⟩
def HLK_EST_CNT_RECEIVED : Field := ⟨0x64110, 0x0, 16, 16, .ro, 0, 0, 1, [], false⟩
def HLK_CAT_CNT_SENT : Field := ⟨0x64114, 0x0, 0, 16, .ro, 0, 0, 1, [], false⟩
def HLK_CAT_CNT_RECEIVED : Field := ⟨0x64114, 0x0, 16, 16, .ro, 0, 0, 1, [], false⟩
def HLK_DOUBLE_COUNT : Field := ⟨0x64118, 0x0, 0, 16, .ro, 0, 0, 1, [], false⟩
def HLK_FENCE_CAUSE_CAUSE : Field := ⟨0x6411C, 0x0, 0, 4, .ro, 0, 0, 1, [], false⟩
def HLK_IEN_LINK_UP : Field := ⟨0x64010, 0x0, 0, 1, .rwk, 0, 0, 1, [], false⟩
def HLK_IEN_PARTNER_LOST : Field := ⟨0x64010, 0x0, 1, 1, .rwk, 0, 0, 1, [], false⟩
def HLK_IEN_REGISTRAR_LOST : Field := ⟨0x64010, 0x0, 2, 1, .rwk, 0, 0, 1, [], false⟩
def HLK_IEN_FENCED : Field := ⟨0x64010, 0x0, 3, 1, .rwk, 0, 0, 1, [], false⟩
def HLK_IEN_SYNCING : Field := ⟨0x64010, 0x0, 4, 1, .rwk, 0, 0, 1, [], false⟩
def HLK_IEN_CFG_DIVERGED : Field := ⟨0x64010, 0x0, 5, 1, .rwk, 0, 0, 1, [], false⟩
def HLK_IEN_TIME_ERR : Field := ⟨0x64010, 0x0, 6, 1, .rwk, 0, 0, 1, [], false⟩
def HLK_IEN_LOOP_DIV : Field := ⟨0x64010, 0x0, 7, 1, .rwk, 0, 0, 1, [], false⟩

def rowsHLKA : List RegRow := [
  ⟨0x64000, 0x0, 1, .s, [], [0x1000019]⟩,
  ⟨0x64004, 0x0, 1, .s, [], [0x38]⟩,
  ⟨0x64008, 0x0, 1, .c, [HLK_CTRL_EN], []⟩,
  ⟨0x6400C, 0x0, 1, .s, [HLK_STAT_LINK_UP, HLK_STAT_PARTNER_LOST, HLK_STAT_REGISTRAR_LOST, HLK_STAT_FENCED, HLK_STAT_SYNCING, HLK_STAT_CFG_DIVERGED, HLK_STAT_TIME_ERR, HLK_STAT_LOOP_DIV], []⟩,
  ⟨0x64010, 0x0, 1, .c, [HLK_IEN_LINK_UP, HLK_IEN_PARTNER_LOST, HLK_IEN_REGISTRAR_LOST, HLK_IEN_FENCED, HLK_IEN_SYNCING, HLK_IEN_CFG_DIVERGED, HLK_IEN_TIME_ERR, HLK_IEN_LOOP_DIV], []⟩,
  ⟨0x64014, 0x0, 1, .s, [], []⟩,
  ⟨0x64018, 0x0, 1, .s, [HLK_CFGCRC_CRC], []⟩,
  ⟨0x6401C, 0x0, 1, .c, [HLK_LOCK_LOCK, HLK_LOCK_STICKY], []⟩,
  ⟨0x64040, 0x0, 1, .c, [HLK_CFG_PREF, HLK_CFG_AUTO_REVERT, HLK_CFG_LOOP_ALIGN, HLK_CFG_WIT_PATH, HLK_CFG_STABLE_S], []⟩,
  ⟨0x64044, 0x0, 1, .c, [HLK_TIMING_LINK_TMO, HLK_TIMING_FENCE_TMO], []⟩,
  ⟨0x64048, 0x0, 1, .c, [HLK_WIT_TIME_POLL_US, HLK_WIT_TIME_HB_TMO], []⟩,
  ⟨0x6404C, 0x0, 1, .c, [HLK_MAP_PH_OWNER_B], []⟩,
  ⟨0x64050, 0x0, 1, .c, [HLK_MAP_EF_EF_B, HLK_MAP_EF_STR_B, HLK_MAP_EF_RST_B], []⟩,
  ⟨0x64054, 0x0, 1, .c, [HLK_MAP_RAIL_OWNER_B], []⟩,
  ⟨0x64058, 0x0, 1, .c, [HLK_MAP_CH_OWNER_B], []⟩,
  ⟨0x6405C, 0x0, 1, .k, [HLK_CMD_MIGRATE, HLK_CMD_REVERT, HLK_CMD_REJOIN, HLK_CMD_FENCE_SELF], []⟩,
  ⟨0x64060, 0x0, 1, .s, [HLK_STATE_JOIN, HLK_STATE_PRIMARY, HLK_STATE_PARTNER_HEARD, HLK_STATE_REG_HEARD, HLK_STATE_RESYNC_PCT, HLK_STATE_STABLE_LEFT], []⟩,
  ⟨0x64064, 0x0, 1, .s, [HLK_EPOCH_E], []⟩,
  ⟨0x64068, 0x0, 1, .s, [HLK_EPOCH_TICK_TICK], []⟩,
  ⟨0x6406C, 0x0, 1, .s, [HLK_EPOCH_CAUSE_CAUSE, HLK_EPOCH_CAUSE_MAP, HLK_EPOCH_CAUSE_LATE], []⟩,
  ⟨0x64070, 0x0, 1, .s, [HLK_EFF_PH_OWN], []⟩,
  ⟨0x64074, 0x0, 1, .s, [HLK_EFF_EF_EF, HLK_EFF_EF_STR, HLK_EFF_EF_RST], []⟩,
  ⟨0x64078, 0x0, 1, .s, [HLK_EFF_RAIL_OWN], []⟩,
  ⟨0x6407C, 0x0, 1, .s, [HLK_EFF_CH_OWN], []⟩]

def rowsHLKB : List RegRow := [
  ⟨0x64080, 0x0, 1, .s, [HLK_PART_ACT, HLK_PART_JOIN], []⟩,
  ⟨0x64084, 0x0, 1, .d, [HLK_PTICK_LO_TICK_LO], []⟩,
  ⟨0x64088, 0x0, 1, .d, [HLK_PTICK_HI_TICK_HI], []⟩,
  ⟨0x6408C, 0x0, 1, .s, [HLK_OFS_LO_OFS_LO], []⟩,
  ⟨0x64090, 0x0, 1, .s, [HLK_OFS_HI_OFS_HI], []⟩,
  ⟨0x64094, 0x0, 1, .s, [HLK_TIME_STAT_ERR, HLK_TIME_STAT_ALIGNED, HLK_TIME_STAT_FOLLOWING, HLK_TIME_STAT_SLEWS], []⟩,
  ⟨0x64098, 0x0, 1, .s, [HLK_LINK_STAT_LOCKED, HLK_LINK_STAT_DOWNS, HLK_LINK_STAT_LAT_NS], []⟩,
  ⟨0x6409C, 0x0, 1, .s, [HLK_LINK_ERR_CODE, HLK_LINK_ERR_CRC], []⟩,
  ⟨0x640A0, 0x0, 1, .s, [HLK_TX_CNT_FRAMES], []⟩,
  ⟨0x640A4, 0x0, 1, .s, [HLK_RX_CNT_FRAMES], []⟩,
  ⟨0x640A8, 0x0, 1, .s, [HLK_RETX_COUNT], []⟩,
  ⟨0x640AC, 0x0, 1, .s, [HLK_NAK_LOCKED, HLK_NAK_OTHER], []⟩,
  ⟨0x640B0, 0x0, 1, .s, [HLK_CFG_SEQ_SENT, HLK_CFG_SEQ_APPLIED], []⟩,
  ⟨0x640B4, 0x0, 1, .s, [HLK_PART_CRC_CRC], []⟩,
  ⟨0x640B8, 0x0, 1, .s, [HLK_CFG_STAT_LOST_RACES, HLK_CFG_STAT_REFUSED], []⟩,
  ⟨0x640BC, 0x0, 1, .s, [HLK_LOOP_DIV_LO_SLOTS], []⟩,
  ⟨0x640C0, 0x0, 1, .s, [HLK_LOOP_DIV_HI_SLOTS], []⟩,
  ⟨0x640C4, 0x0, 1, .s, [HLK_LOOP_STAT_LATE, HLK_LOOP_STAT_CORRECTIONS], []⟩,
  ⟨0x640C8, 0x0, 1, .s, [HLK_WIT_STAT_RX, HLK_WIT_STAT_BAD], []⟩,
  ⟨0x640CC, 0x0, 1, .s, [HLK_WIT_LAST_TYPE, HLK_WIT_LAST_FROM, HLK_WIT_LAST_SEQ], []⟩,
  ⟨0x640D0, 0x0, 1, .s, [HLK_REG_VIEW_A, HLK_REG_VIEW_B, HLK_REG_VIEW_PRIMARY_B], []⟩,
  ⟨0x640D4, 0x0, 1, .s, [HLK_CNT_FAILOVERS, HLK_CNT_REVERTS], []⟩,
  ⟨0x640D8, 0x0, 1, .s, [HLK_CNT2_FENCES, HLK_CNT2_JOINS], []⟩,
  ⟨0x640DC, 0x0, 1, .s, [HLK_LAST_FAIL_TICK], []⟩]

def rowsHLKC : List RegRow := [
  ⟨0x640E0, 0x0, 1, .s, [HLK_RESYNC_DONE, HLK_RESYNC_TOTAL], []⟩,
  ⟨0x640E4, 0x0, 1, .s, [HLK_RESYNC_TIME_LAST, HLK_RESYNC_TIME_MAX], []⟩,
  ⟨0x640E8, 0x0, 1, .s, [HLK_REG_EPOCH_E], []⟩,
  ⟨0x640EC, 0x0, 1, .s, [HLK_REG_LAST_A_TICK], []⟩,
  ⟨0x640F0, 0x0, 1, .s, [HLK_REG_LAST_B_TICK], []⟩,
  ⟨0x640F4, 0x0, 1, .s, [HLK_REG_CNT_EPOCHS, HLK_REG_CNT_FENCES], []⟩,
  ⟨0x640F8, 0x0, 1, .c, [HLK_MIRROR_CTRL_CLASSES], []⟩,
  ⟨0x640FC, 0x0, 1, .c, [HLK_LOOP_MASK_LO_SLOTS], []⟩,
  ⟨0x64100, 0x0, 1, .c, [HLK_LOOP_MASK_HI_SLOTS], []⟩,
  ⟨0x64104, 0x0, 1, .c, [HLK_PAGE_EXCL_PAGES], []⟩,
  ⟨0x64108, 0x0, 1, .s, [HLK_BEACON_AGE_TICKS], []⟩,
  ⟨0x6410C, 0x0, 1, .s, [HLK_OBJ_CNT_SENT, HLK_OBJ_CNT_RECEIVED], []⟩,
  ⟨0x64110, 0x0, 1, .s, [HLK_EST_CNT_SENT, HLK_EST_CNT_RECEIVED], []⟩,
  ⟨0x64114, 0x0, 1, .s, [HLK_CAT_CNT_SENT, HLK_CAT_CNT_RECEIVED], []⟩,
  ⟨0x64118, 0x0, 1, .s, [HLK_DOUBLE_COUNT], []⟩,
  ⟨0x6411C, 0x0, 1, .s, [HLK_FENCE_CAUSE_CAUSE], []⟩]

/-- Every register of page 0x19. -/
def rowsHLK : List RegRow := rowsHLKA ++ rowsHLKB ++ rowsHLKC

/-! Page 0x1A CHN: R75 and R572 (24_update_chain.md), R571 (24_update_chain.md). -/

def CHN_LOCK_LOCK : Field := ⟨0x6801C, 0x0, 0, 1, .rwk, 0, 0, 1, [], false⟩
def CHN_LOCK_STICKY : Field := ⟨0x6801C, 0x0, 1, 1, .rw, 0, 0, 1, [], false⟩
def CHN_CFGCRC_CRC : Field := ⟨0x68018, 0x0, 0, 32, .ro, 0, 0, 1, [], false⟩
def CHN_CFG_UP_EN : Field := ⟨0x68040, 0x0, 0, 1, .rwk, 1, 0, 1, [], false⟩
def CHN_CFG_DN_EN : Field := ⟨0x68040, 0x0, 1, 1, .rwk, 1, 0, 1, [], false⟩
def CHN_CFG_FWD_EN : Field := ⟨0x68040, 0x0, 2, 1, .rwk, 1, 0, 1, [], false⟩
def CHN_CFG_HOP_MAX : Field := ⟨0x68040, 0x0, 8, 4, .rwk, 15, 0, 1, [(1, 15)], false⟩
def CHN_CFG_WINDOW : Field := ⟨0x68040, 0x0, 16, 5, .rwk, 8, 0, 1, [(1, 16)], false⟩
def CHN_TIME_RETX_MS : Field := ⟨0x68044, 0x0, 0, 16, .rwk, 20, 0, 1, [(5, 1000)], false⟩
def CHN_TIME_RETX_MAX : Field := ⟨0x68044, 0x0, 16, 8, .rwk, 16, 0, 1, [(1, 255)], false⟩
def CHN_CMD_PORT : Field := ⟨0x68048, 0x0, 0, 1, .wo, 0, 0, 1, [], false⟩
def CHN_CMD_RESET_LINK : Field := ⟨0x68048, 0x0, 8, 1, .cmd, 0, 0, 1, [], false⟩
def CHN_IMAGE_ID : Field := ⟨0x6804C, 0x0, 0, 32, .ro, 0, 0, 1, [], false⟩
def CHN_BLOCKS_STORED : Field := ⟨0x68050, 0x0, 0, 16, .ro, 0, 0, 1, [], false⟩
def CHN_BLOCKS_TOTAL : Field := ⟨0x68050, 0x0, 16, 16, .ro, 0, 0, 1, [], false⟩
def CHN_FWD_CUT : Field := ⟨0x68054, 0x0, 0, 16, .ro, 0, 0, 1, [], false⟩
def CHN_FWD_STAGED : Field := ⟨0x68054, 0x0, 16, 16, .ro, 0, 0, 1, [], false⟩
def CHN_ABORT_ABORTED : Field := ⟨0x68058, 0x0, 0, 16, .ro, 0, 0, 1, [], false⟩
def CHN_ABORT_NAK_SENT : Field := ⟨0x68058, 0x0, 16, 16, .ro, 0, 0, 1, [], false⟩
def CHN_LAST_SRC_PORT : Field := ⟨0x6805C, 0x0, 0, 1, .ro, 0, 0, 1, [], false⟩
def CHN_LAST_NAK_REASON : Field := ⟨0x6805C, 0x0, 4, 4, .ro, 0, 0, 1, [], false⟩
def CHN_LAST_HOPS : Field := ⟨0x6805C, 0x0, 16, 8, .ro, 0, 0, 1, [], false⟩
def CHN_PORT_STAT_LINK : Field := ⟨0x68060, 0x20, 0, 1, .ro, 0, 0, 1, [], false⟩
def CHN_PORT_STAT_LOCKED : Field := ⟨0x68060, 0x20, 1, 1, .ro, 0, 0, 1, [], false⟩
def CHN_PORT_STAT_DOWNS : Field := ⟨0x68060, 0x20, 8, 8, .ro, 0, 0, 1, [], false⟩
def CHN_PORT_STAT_IN_FLIGHT : Field := ⟨0x68060, 0x20, 16, 5, .ro, 0, 0, 1, [], false⟩
def CHN_RX_CNT_FRAMES : Field := ⟨0x68064, 0x20, 0, 32, .ro, 0, 0, 1, [], false⟩
def CHN_TX_CNT_FRAMES : Field := ⟨0x68068, 0x20, 0, 32, .ro, 0, 0, 1, [], false⟩
def CHN_ERR_CODE : Field := ⟨0x6806C, 0x20, 0, 16, .ro, 0, 0, 1, [], false⟩
def CHN_ERR_CRC : Field := ⟨0x6806C, 0x20, 16, 16, .ro, 0, 0, 1, [], false⟩
def CHN_RETX_RETX : Field := ⟨0x68070, 0x20, 0, 16, .ro, 0, 0, 1, [], false⟩
def CHN_RETX_NAK_RX : Field := ⟨0x68070, 0x20, 16, 16, .ro, 0, 0, 1, [], false⟩
def CHN_NEIGH_LO_UID_LO : Field := ⟨0x68074, 0x20, 0, 32, .ro, 0, 0, 1, [], false⟩
def CHN_NEIGH_HI_UID_HI : Field := ⟨0x68078, 0x20, 0, 32, .ro, 0, 0, 1, [], false⟩
def CHN_NEIGH_STAT_STATE : Field := ⟨0x6807C, 0x20, 0, 3, .ro, 0, 0, 1, [], false⟩
def CHN_NEIGH_STAT_RESULT : Field := ⟨0x6807C, 0x20, 8, 4, .ro, 0, 0, 1, [], false⟩
def CHN_NEIGH_STAT_AGE_MS : Field := ⟨0x6807C, 0x20, 16, 16, .ro, 0xffff, 0, 1, [], false⟩
def CHN_STAT_UP_LINK : Field := ⟨0x6800C, 0x0, 0, 1, .ro, 0, 0, 1, [], false⟩
def CHN_STAT_DN_LINK : Field := ⟨0x6800C, 0x0, 1, 1, .ro, 0, 0, 1, [], false⟩
def CHN_STAT_RECEIVING : Field := ⟨0x6800C, 0x0, 2, 1, .ro, 0, 0, 1, [], false⟩
def CHN_STAT_FORWARDING : Field := ⟨0x6800C, 0x0, 3, 1, .ro, 0, 0, 1, [], false⟩
def CHN_STAT_LINK_FAIL : Field := ⟨0x6800C, 0x0, 4, 1, .ro, 0, 0, 1, [], false⟩
def CHN_IEN_UP_LINK : Field := ⟨0x68010, 0x0, 0, 1, .rwk, 0, 0, 1, [], false⟩
def CHN_IEN_DN_LINK : Field := ⟨0x68010, 0x0, 1, 1, .rwk, 0, 0, 1, [], false⟩
def CHN_IEN_RECEIVING : Field := ⟨0x68010, 0x0, 2, 1, .rwk, 0, 0, 1, [], false⟩
def CHN_IEN_FORWARDING : Field := ⟨0x68010, 0x0, 3, 1, .rwk, 0, 0, 1, [], false⟩
def CHN_IEN_LINK_FAIL : Field := ⟨0x68010, 0x0, 4, 1, .rwk, 0, 0, 1, [], false⟩

def rowsCHNA : List RegRow := [
  ⟨0x68000, 0x0, 1, .s, [], [0x100001A]⟩,
  ⟨0x68004, 0x0, 1, .s, [], [0x18]⟩,
  ⟨0x68008, 0x0, 1, .c, [], []⟩,
  ⟨0x6800C, 0x0, 1, .s, [CHN_STAT_UP_LINK, CHN_STAT_DN_LINK, CHN_STAT_RECEIVING, CHN_STAT_FORWARDING, CHN_STAT_LINK_FAIL], []⟩,
  ⟨0x68010, 0x0, 1, .c, [CHN_IEN_UP_LINK, CHN_IEN_DN_LINK, CHN_IEN_RECEIVING, CHN_IEN_FORWARDING, CHN_IEN_LINK_FAIL], []⟩,
  ⟨0x68014, 0x0, 1, .s, [], []⟩,
  ⟨0x68018, 0x0, 1, .s, [CHN_CFGCRC_CRC], []⟩,
  ⟨0x6801C, 0x0, 1, .c, [CHN_LOCK_LOCK, CHN_LOCK_STICKY], []⟩,
  ⟨0x68040, 0x0, 1, .c, [CHN_CFG_UP_EN, CHN_CFG_DN_EN, CHN_CFG_FWD_EN, CHN_CFG_HOP_MAX, CHN_CFG_WINDOW], []⟩,
  ⟨0x68044, 0x0, 1, .c, [CHN_TIME_RETX_MS, CHN_TIME_RETX_MAX], []⟩,
  ⟨0x68048, 0x0, 1, .k, [CHN_CMD_PORT, CHN_CMD_RESET_LINK], []⟩,
  ⟨0x6804C, 0x0, 1, .s, [CHN_IMAGE_ID], []⟩,
  ⟨0x68050, 0x0, 1, .s, [CHN_BLOCKS_STORED, CHN_BLOCKS_TOTAL], []⟩,
  ⟨0x68054, 0x0, 1, .s, [CHN_FWD_CUT, CHN_FWD_STAGED], []⟩,
  ⟨0x68058, 0x0, 1, .s, [CHN_ABORT_ABORTED, CHN_ABORT_NAK_SENT], []⟩,
  ⟨0x6805C, 0x0, 1, .s, [CHN_LAST_SRC_PORT, CHN_LAST_NAK_REASON, CHN_LAST_HOPS], []⟩,
  ⟨0x68060, 0x20, 2, .s, [CHN_PORT_STAT_LINK, CHN_PORT_STAT_LOCKED, CHN_PORT_STAT_DOWNS, CHN_PORT_STAT_IN_FLIGHT], []⟩,
  ⟨0x68064, 0x20, 2, .s, [CHN_RX_CNT_FRAMES], []⟩,
  ⟨0x68068, 0x20, 2, .s, [CHN_TX_CNT_FRAMES], []⟩,
  ⟨0x6806C, 0x20, 2, .s, [CHN_ERR_CODE, CHN_ERR_CRC], []⟩,
  ⟨0x68070, 0x20, 2, .s, [CHN_RETX_RETX, CHN_RETX_NAK_RX], []⟩,
  ⟨0x68074, 0x20, 2, .s, [CHN_NEIGH_LO_UID_LO], []⟩,
  ⟨0x68078, 0x20, 2, .s, [CHN_NEIGH_HI_UID_HI], []⟩,
  ⟨0x6807C, 0x20, 2, .s, [CHN_NEIGH_STAT_STATE, CHN_NEIGH_STAT_RESULT, CHN_NEIGH_STAT_AGE_MS], []⟩]

/-- Every register of page 0x1A. -/
def rowsCHN : List RegRow := rowsCHNA

/-! Page 0x1B UPD: R75 and R574 (24_update_chain.md), R573 (24_update_chain.md). -/

def UPD_LOCK_LOCK : Field := ⟨0x6C01C, 0x0, 0, 1, .rwk, 0, 0, 1, [], false⟩
def UPD_LOCK_STICKY : Field := ⟨0x6C01C, 0x0, 1, 1, .rw, 0, 0, 1, [], false⟩
def UPD_CFGCRC_CRC : Field := ⟨0x6C018, 0x0, 0, 32, .ro, 0, 0, 1, [], false⟩
def UPD_CFG_AUTO_ACT : Field := ⟨0x6C040, 0x0, 0, 1, .rwk, 0, 0, 1, [], false⟩
def UPD_CFG_ACCEPT : Field := ⟨0x6C040, 0x0, 1, 1, .rwk, 1, 0, 1, [], false⟩
def UPD_CFG_RX_TMO_S : Field := ⟨0x6C040, 0x0, 8, 8, .rwk, 60, 0, 1, [(10, 255)], false⟩
def UPD_CFG_TRIAL_S : Field := ⟨0x6C040, 0x0, 16, 16, .rwk, 600, 0, 1, [(60, 65535)], false⟩
def UPD_KEYS_KEY_MASK : Field := ⟨0x6C044, 0x0, 0, 4, .rwk, 15, 0, 1, [], false⟩
def UPD_MIN_REL_MIN : Field := ⟨0x6C048, 0x0, 0, 32, .rwk, 0, 0, 1, [], false⟩
def UPD_MOD_CFG_MOD_TMO_S : Field := ⟨0x6C04C, 0x0, 0, 16, .rwk, 120, 0, 1, [(10, 65535)], false⟩
def UPD_MOD_CFG_RETRY : Field := ⟨0x6C04C, 0x0, 16, 4, .rwk, 3, 0, 1, [], false⟩
def UPD_CMD_ACTIVATE : Field := ⟨0x6C050, 0x0, 0, 1, .cmd, 0, 0, 1, [], false⟩
def UPD_CMD_DISCARD : Field := ⟨0x6C050, 0x0, 1, 1, .cmd, 0, 0, 1, [], false⟩
def UPD_CMD_REVERT : Field := ⟨0x6C050, 0x0, 2, 1, .cmd, 0, 0, 1, [], false⟩
def UPD_STATE_STATE : Field := ⟨0x6C054, 0x0, 0, 3, .ro, 0, 0, 1, [], false⟩
def UPD_STATE_RESULT : Field := ⟨0x6C054, 0x0, 4, 4, .ro, 0, 0, 1, [], false⟩
def UPD_STATE_SLOT : Field := ⟨0x6C054, 0x0, 8, 1, .ro, 0, 0, 1, [], false⟩
def UPD_STATE_TARGET : Field := ⟨0x6C054, 0x0, 9, 1, .ro, 0, 0, 1, [], false⟩
def UPD_STATE_FAIL_PART : Field := ⟨0x6C054, 0x0, 16, 8, .ro, 255, 0, 1, [], false⟩
def UPD_IMAGE_ID : Field := ⟨0x6C058, 0x0, 0, 32, .ro, 0, 0, 1, [], false⟩
def UPD_REL_REL : Field := ⟨0x6C05C, 0x0, 0, 32, .ro, 0, 0, 1, [], false⟩
def UPD_REL_NEW_REL : Field := ⟨0x6C060, 0x0, 0, 32, .ro, 0, 0, 1, [], false⟩
def UPD_MOD_STAT_TARGETS : Field := ⟨0x6C064, 0x0, 0, 10, .ro, 0, 0, 1, [], false⟩
def UPD_MOD_STAT_GOOD : Field := ⟨0x6C064, 0x0, 16, 10, .ro, 0, 0, 1, [], false⟩
def UPD_MOD_FAIL_ENTRY : Field := ⟨0x6C068, 0x0, 0, 10, .ro, 0, 0, 1, [], false⟩
def UPD_MOD_FAIL_REVERT_LOST : Field := ⟨0x6C068, 0x0, 16, 16, .ro, 0, 0, 1, [], false⟩
def UPD_CNT_COMMITS : Field := ⟨0x6C06C, 0x0, 0, 16, .ro, 0, 0, 1, [], false⟩
def UPD_CNT_REVERTS : Field := ⟨0x6C06C, 0x0, 16, 16, .ro, 0, 0, 1, [], false⟩
def UPD_PART_TYPE : Field := ⟨0x6C070, 0x4, 0, 3, .ro, 0, 0, 1, [], false⟩
def UPD_PART_STATE : Field := ⟨0x6C070, 0x4, 4, 3, .ro, 0, 0, 1, [], false⟩
def UPD_PART_TARGETS : Field := ⟨0x6C070, 0x4, 8, 8, .ro, 0, 0, 1, [], false⟩
def UPD_PART_BLOCKS : Field := ⟨0x6C070, 0x4, 16, 16, .ro, 0, 0, 1, [], false⟩
def UPD_STAT_PENDING : Field := ⟨0x6C00C, 0x0, 0, 1, .ro, 0, 0, 1, [], false⟩
def UPD_STAT_TRIAL : Field := ⟨0x6C00C, 0x0, 1, 1, .ro, 0, 0, 1, [], false⟩
def UPD_STAT_REVERTED : Field := ⟨0x6C00C, 0x0, 2, 1, .ro, 0, 0, 1, [], false⟩
def UPD_IEN_PENDING : Field := ⟨0x6C010, 0x0, 0, 1, .rwk, 0, 0, 1, [], false⟩
def UPD_IEN_TRIAL : Field := ⟨0x6C010, 0x0, 1, 1, .rwk, 0, 0, 1, [], false⟩
def UPD_IEN_REVERTED : Field := ⟨0x6C010, 0x0, 2, 1, .rwk, 0, 0, 1, [], false⟩

def rowsUPDA : List RegRow := [
  ⟨0x6C000, 0x0, 1, .s, [], [0x100001B]⟩,
  ⟨0x6C004, 0x0, 1, .s, [], [0x20]⟩,
  ⟨0x6C008, 0x0, 1, .c, [], []⟩,
  ⟨0x6C00C, 0x0, 1, .s, [UPD_STAT_PENDING, UPD_STAT_TRIAL, UPD_STAT_REVERTED], []⟩,
  ⟨0x6C010, 0x0, 1, .c, [UPD_IEN_PENDING, UPD_IEN_TRIAL, UPD_IEN_REVERTED], []⟩,
  ⟨0x6C014, 0x0, 1, .s, [], []⟩,
  ⟨0x6C018, 0x0, 1, .s, [UPD_CFGCRC_CRC], []⟩,
  ⟨0x6C01C, 0x0, 1, .c, [UPD_LOCK_LOCK, UPD_LOCK_STICKY], []⟩,
  ⟨0x6C040, 0x0, 1, .c, [UPD_CFG_AUTO_ACT, UPD_CFG_ACCEPT, UPD_CFG_RX_TMO_S, UPD_CFG_TRIAL_S], []⟩,
  ⟨0x6C044, 0x0, 1, .c, [UPD_KEYS_KEY_MASK], []⟩,
  ⟨0x6C048, 0x0, 1, .c, [UPD_MIN_REL_MIN], []⟩,
  ⟨0x6C04C, 0x0, 1, .c, [UPD_MOD_CFG_MOD_TMO_S, UPD_MOD_CFG_RETRY], []⟩,
  ⟨0x6C050, 0x0, 1, .k, [UPD_CMD_ACTIVATE, UPD_CMD_DISCARD, UPD_CMD_REVERT], []⟩,
  ⟨0x6C054, 0x0, 1, .s, [UPD_STATE_STATE, UPD_STATE_RESULT, UPD_STATE_SLOT, UPD_STATE_TARGET, UPD_STATE_FAIL_PART], []⟩,
  ⟨0x6C058, 0x0, 1, .s, [UPD_IMAGE_ID], []⟩,
  ⟨0x6C05C, 0x0, 1, .s, [UPD_REL_REL], []⟩,
  ⟨0x6C060, 0x0, 1, .s, [UPD_REL_NEW_REL], []⟩,
  ⟨0x6C064, 0x0, 1, .s, [UPD_MOD_STAT_TARGETS, UPD_MOD_STAT_GOOD], []⟩,
  ⟨0x6C068, 0x0, 1, .s, [UPD_MOD_FAIL_ENTRY, UPD_MOD_FAIL_REVERT_LOST], []⟩,
  ⟨0x6C06C, 0x0, 1, .s, [UPD_CNT_COMMITS, UPD_CNT_REVERTS], []⟩,
  ⟨0x6C070, 0x4, 20, .s, [UPD_PART_TYPE, UPD_PART_STATE, UPD_PART_TARGETS, UPD_PART_BLOCKS], []⟩]

/-- Every register of page 0x1B. -/
def rowsUPD : List RegRow := rowsUPDA

/-! Page 0x1C HIF: R75 and R504 (20_host_access_sessions.md), R505 (20_host_access_sessions.md). -/

def HIF_LOCK_LOCK : Field := ⟨0x7001C, 0x0, 0, 1, .rwk, 0, 0, 1, [], false⟩
def HIF_LOCK_STICKY : Field := ⟨0x7001C, 0x0, 1, 1, .rw, 0, 0, 1, [], false⟩
def HIF_CFGCRC_CRC : Field := ⟨0x70018, 0x0, 0, 32, .ro, 0, 0, 1, [], false⟩
def HIF_SPI_CFG_EN : Field := ⟨0x70040, 0x0, 0, 1, .rwk, 1, 0, 1, [], false⟩
def HIF_SPI_CFG_DUMMY : Field := ⟨0x70040, 0x0, 8, 4, .rwk, 8, 0, 1, [(8, 15)], false⟩
def HIF_SPI_STAT_PARTIAL : Field := ⟨0x70044, 0x0, 0, 16, .ro, 0, 0, 1, [], false⟩
def HIF_SPI_STAT_ERRORS : Field := ⟨0x70044, 0x0, 16, 16, .ro, 0, 0, 1, [], false⟩
def HIF_PRAX_CFG_UDP_PORT : Field := ⟨0x70048, 0x0, 0, 16, .rwk, 0x9e24, 0, 1, [(1024, 65535)], false⟩
def HIF_NOTIFY_CFG_RESEND : Field := ⟨0x7004C, 0x0, 0, 8, .rwk, 10, 0, 1, [(1, 255)], false⟩
def HIF_PTP_CFG_DOMAIN : Field := ⟨0x70050, 0x0, 0, 8, .rwk, 0, 0, 1, [], false⟩
def HIF_PTP_CFG_L2 : Field := ⟨0x70050, 0x0, 8, 1, .rwk, 0, 0, 1, [], false⟩
def HIF_PTP_CFG_PTP_TMO : Field := ⟨0x70050, 0x0, 12, 4, .rwk, 3, 0, 1, [(1, 15)], false⟩
def HIF_PTP_STAT_STATE : Field := ⟨0x70054, 0x0, 0, 2, .ro, 0, 0, 1, [], false⟩
def HIF_PTP_STAT_PORT : Field := ⟨0x70054, 0x0, 2, 1, .ro, 0, 0, 1, [], false⟩
def HIF_PTP_STAT_SYNCS : Field := ⟨0x70054, 0x0, 16, 16, .ro, 0, 0, 1, [], false⟩
def HIF_PTP_OFS_NS : Field := ⟨0x70058, 0x0, 0, 32, .ro, 0x80000000, 0, 1, [], false⟩
def HIF_PTP_DELAY_NS : Field := ⟨0x7005C, 0x0, 0, 32, .ro, 0xffffffff, 0, 1, [], false⟩
def HIF_PTP_GM_LO_ID_LO : Field := ⟨0x700E0, 0x0, 0, 32, .ro, 0, 0, 1, [], false⟩
def HIF_PTP_GM_HI_ID_HI : Field := ⟨0x700E4, 0x0, 0, 32, .ro, 0, 0, 1, [], false⟩
def HIF_PTP_CNT_ANNOUNCES : Field := ⟨0x700E8, 0x0, 0, 16, .ro, 0, 0, 1, [], false⟩
def HIF_PTP_CNT_TIMEOUTS : Field := ⟨0x700E8, 0x0, 16, 16, .ro, 0, 0, 1, [], false⟩
def HIF_PRAX_CNT_REQUESTS : Field := ⟨0x700EC, 0x0, 0, 32, .ro, 0, 0, 1, [], false⟩
def HIF_PRAX_ERR_REPLIED : Field := ⟨0x700F0, 0x0, 0, 16, .ro, 0, 0, 1, [], false⟩
def HIF_PRAX_ERR_DISCARDED : Field := ⟨0x700F0, 0x0, 16, 16, .ro, 0, 0, 1, [], false⟩
def HIF_SPI_LAST_ADDR : Field := ⟨0x700F4, 0x0, 0, 24, .ro, 0, 0, 1, [], false⟩
def HIF_SPI_LAST_CODE : Field := ⟨0x700F4, 0x0, 24, 4, .ro, 0, 0, 1, [], false⟩
def HIF_SESS_CNT_OPENED : Field := ⟨0x700F8, 0x0, 0, 16, .ro, 0, 0, 1, [], false⟩
def HIF_SESS_CNT_IDLED : Field := ⟨0x700F8, 0x0, 16, 16, .ro, 0, 0, 1, [], false⟩
def HIF_NOTIFY_SEQ_SEQ : Field := ⟨0x700FC, 0x0, 0, 32, .ro, 0, 0, 1, [], false⟩
def HIF_ETH_CFG_EN : Field := ⟨0x70060, 0x40, 0, 1, .rwk, 1, 0, 1, [], false⟩
def HIF_ETH_CFG_MODE : Field := ⟨0x70060, 0x40, 1, 1, .rwk, 0, 0, 1, [], false⟩
def HIF_ETH_CFG_IPV4 : Field := ⟨0x70060, 0x40, 2, 2, .rwk, 2, 0, 1, [], false⟩
def HIF_ETH_CFG_IPV6 : Field := ⟨0x70060, 0x40, 4, 1, .rwk, 1, 0, 1, [], false⟩
def HIF_ETH_CFG_PING_EN : Field := ⟨0x70060, 0x40, 5, 1, .rwk, 1, 0, 1, [], false⟩
def HIF_ETH_STAT_LINK : Field := ⟨0x70064, 0x40, 0, 1, .ro, 0, 0, 1, [], false⟩
def HIF_ETH_STAT_SPEED : Field := ⟨0x70064, 0x40, 1, 2, .ro, 0, 0, 1, [], false⟩
def HIF_ETH_STAT_IPV4_OK : Field := ⟨0x70064, 0x40, 3, 1, .ro, 0, 0, 1, [], false⟩
def HIF_ETH_STAT_IPV6_OK : Field := ⟨0x70064, 0x40, 4, 1, .ro, 0, 0, 1, [], false⟩
def HIF_ETH_STAT_LOCKED : Field := ⟨0x70064, 0x40, 5, 1, .ro, 0, 0, 1, [], false⟩
def HIF_MAC_LO_MAC_LO : Field := ⟨0x70068, 0x40, 0, 32, .rwk, 0, 0, 1, [], false⟩
def HIF_MAC_HI_MAC_HI : Field := ⟨0x7006C, 0x40, 0, 16, .rwk, 0, 0, 1, [], false⟩
def HIF_IP4_ADDR_ADDR : Field := ⟨0x70070, 0x40, 0, 32, .rwk, 0, 0, 1, [], false⟩
def HIF_IP4_MASK_PREFIX : Field := ⟨0x70074, 0x40, 0, 6, .rwk, 16, 0, 1, [(1, 31)], false⟩
def HIF_IP4_GW_GW : Field := ⟨0x70078, 0x40, 0, 32, .rwk, 0, 0, 1, [], false⟩
def HIF_IP4_CUR_ADDR : Field := ⟨0x7007C, 0x40, 0, 32, .ro, 0, 0, 1, [], false⟩
def HIF_IP4_LEASE_S : Field := ⟨0x70080, 0x40, 0, 32, .ro, 0, 0, 1, [], false⟩
def HIF_IP6_STAT_LL_OK : Field := ⟨0x70084, 0x40, 0, 1, .ro, 0, 0, 1, [], false⟩
def HIF_IP6_STAT_DAD_FAIL : Field := ⟨0x70084, 0x40, 1, 1, .ro, 0, 0, 1, [], false⟩
def HIF_IP6_STAT_PREFIX : Field := ⟨0x70084, 0x40, 8, 8, .ro, 0, 0, 1, [], false⟩
def HIF_FRAMES_RX : Field := ⟨0x70088, 0x40, 0, 16, .ro, 0, 0, 1, [], false⟩
def HIF_FRAMES_TX : Field := ⟨0x70088, 0x40, 16, 16, .ro, 0, 0, 1, [], false⟩
def HIF_MDIO_CMD_PHY : Field := ⟨0x7008C, 0x40, 0, 5, .wo, 0, 0, 1, [], false⟩
def HIF_MDIO_CMD_REG : Field := ⟨0x7008C, 0x40, 5, 5, .wo, 0, 0, 1, [], false⟩
def HIF_MDIO_CMD_DATA : Field := ⟨0x7008C, 0x40, 16, 16, .wo, 0, 0, 1, [], false⟩
def HIF_MDIO_CMD_READ : Field := ⟨0x7008C, 0x40, 10, 1, .cmd, 0, 0, 1, [], false⟩
def HIF_MDIO_CMD_WRITE : Field := ⟨0x7008C, 0x40, 11, 1, .cmd, 0, 0, 1, [], false⟩
def HIF_DROP_CNT_DROPS : Field := ⟨0x70090, 0x40, 0, 16, .ro, 0, 0, 1, [], false⟩
def HIF_DROP_CNT_BAD_MAC : Field := ⟨0x70090, 0x40, 16, 16, .ro, 0, 0, 1, [], false⟩
def HIF_AUTH_STAT_FAILS : Field := ⟨0x70094, 0x40, 0, 3, .ro, 0, 0, 1, [], false⟩
def HIF_AUTH_STAT_LOCKOUTS : Field := ⟨0x70094, 0x40, 8, 8, .ro, 0, 0, 1, [], false⟩
def HIF_AUTH_STAT_LOCK_LEFT : Field := ⟨0x70094, 0x40, 16, 16, .ro, 0, 0, 1, [], false⟩
def HIF_NOTIFY_CNT_SENT : Field := ⟨0x70098, 0x40, 0, 16, .ro, 0, 0, 1, [], false⟩
def HIF_NOTIFY_CNT_NOTIFY_DROP : Field := ⟨0x70098, 0x40, 16, 16, .ro, 0, 0, 1, [], false⟩
def HIF_MDIO_DATA_DATA : Field := ⟨0x7009C, 0x40, 0, 16, .ro, 0, 0, 1, [], false⟩
def HIF_MDIO_DATA_BUSY : Field := ⟨0x7009C, 0x40, 16, 1, .ro, 0, 0, 1, [], false⟩

def rowsHIFA : List RegRow := [
  ⟨0x70000, 0x0, 1, .s, [], [0x100001C]⟩,
  ⟨0x70004, 0x0, 1, .s, [], [0x30]⟩,
  ⟨0x70008, 0x0, 1, .c, [], []⟩,
  ⟨0x7000C, 0x0, 1, .s, [], []⟩,
  ⟨0x70010, 0x0, 1, .c, [], []⟩,
  ⟨0x70014, 0x0, 1, .s, [], []⟩,
  ⟨0x70018, 0x0, 1, .s, [HIF_CFGCRC_CRC], []⟩,
  ⟨0x7001C, 0x0, 1, .c, [HIF_LOCK_LOCK, HIF_LOCK_STICKY], []⟩,
  ⟨0x70040, 0x0, 1, .c, [HIF_SPI_CFG_EN, HIF_SPI_CFG_DUMMY], []⟩,
  ⟨0x70044, 0x0, 1, .s, [HIF_SPI_STAT_PARTIAL, HIF_SPI_STAT_ERRORS], []⟩,
  ⟨0x70048, 0x0, 1, .c, [HIF_PRAX_CFG_UDP_PORT], []⟩,
  ⟨0x7004C, 0x0, 1, .c, [HIF_NOTIFY_CFG_RESEND], []⟩,
  ⟨0x70050, 0x0, 1, .c, [HIF_PTP_CFG_DOMAIN, HIF_PTP_CFG_L2, HIF_PTP_CFG_PTP_TMO], []⟩,
  ⟨0x70054, 0x0, 1, .s, [HIF_PTP_STAT_STATE, HIF_PTP_STAT_PORT, HIF_PTP_STAT_SYNCS], []⟩,
  ⟨0x70058, 0x0, 1, .s, [HIF_PTP_OFS_NS], []⟩,
  ⟨0x7005C, 0x0, 1, .s, [HIF_PTP_DELAY_NS], []⟩,
  ⟨0x700E0, 0x0, 1, .s, [HIF_PTP_GM_LO_ID_LO], []⟩,
  ⟨0x700E4, 0x0, 1, .s, [HIF_PTP_GM_HI_ID_HI], []⟩,
  ⟨0x700E8, 0x0, 1, .s, [HIF_PTP_CNT_ANNOUNCES, HIF_PTP_CNT_TIMEOUTS], []⟩,
  ⟨0x700EC, 0x0, 1, .s, [HIF_PRAX_CNT_REQUESTS], []⟩,
  ⟨0x700F0, 0x0, 1, .s, [HIF_PRAX_ERR_REPLIED, HIF_PRAX_ERR_DISCARDED], []⟩,
  ⟨0x700F4, 0x0, 1, .s, [HIF_SPI_LAST_ADDR, HIF_SPI_LAST_CODE], []⟩,
  ⟨0x700F8, 0x0, 1, .s, [HIF_SESS_CNT_OPENED, HIF_SESS_CNT_IDLED], []⟩,
  ⟨0x700FC, 0x0, 1, .s, [HIF_NOTIFY_SEQ_SEQ], []⟩]

def rowsHIFB : List RegRow := [
  ⟨0x70060, 0x40, 2, .c, [HIF_ETH_CFG_EN, HIF_ETH_CFG_MODE, HIF_ETH_CFG_IPV4, HIF_ETH_CFG_IPV6, HIF_ETH_CFG_PING_EN], []⟩,
  ⟨0x70064, 0x40, 2, .s, [HIF_ETH_STAT_LINK, HIF_ETH_STAT_SPEED, HIF_ETH_STAT_IPV4_OK, HIF_ETH_STAT_IPV6_OK, HIF_ETH_STAT_LOCKED], []⟩,
  ⟨0x70068, 0x40, 2, .c, [HIF_MAC_LO_MAC_LO], []⟩,
  ⟨0x7006C, 0x40, 2, .c, [HIF_MAC_HI_MAC_HI], []⟩,
  ⟨0x70070, 0x40, 2, .c, [HIF_IP4_ADDR_ADDR], []⟩,
  ⟨0x70074, 0x40, 2, .c, [HIF_IP4_MASK_PREFIX], []⟩,
  ⟨0x70078, 0x40, 2, .c, [HIF_IP4_GW_GW], []⟩,
  ⟨0x7007C, 0x40, 2, .s, [HIF_IP4_CUR_ADDR], []⟩,
  ⟨0x70080, 0x40, 2, .s, [HIF_IP4_LEASE_S], []⟩,
  ⟨0x70084, 0x40, 2, .s, [HIF_IP6_STAT_LL_OK, HIF_IP6_STAT_DAD_FAIL, HIF_IP6_STAT_PREFIX], []⟩,
  ⟨0x70088, 0x40, 2, .s, [HIF_FRAMES_RX, HIF_FRAMES_TX], []⟩,
  ⟨0x7008C, 0x40, 2, .k, [HIF_MDIO_CMD_PHY, HIF_MDIO_CMD_REG, HIF_MDIO_CMD_DATA, HIF_MDIO_CMD_READ, HIF_MDIO_CMD_WRITE], []⟩,
  ⟨0x70090, 0x40, 2, .s, [HIF_DROP_CNT_DROPS, HIF_DROP_CNT_BAD_MAC], []⟩,
  ⟨0x70094, 0x40, 2, .s, [HIF_AUTH_STAT_FAILS, HIF_AUTH_STAT_LOCKOUTS, HIF_AUTH_STAT_LOCK_LEFT], []⟩,
  ⟨0x70098, 0x40, 2, .s, [HIF_NOTIFY_CNT_SENT, HIF_NOTIFY_CNT_NOTIFY_DROP], []⟩,
  ⟨0x7009C, 0x40, 2, .s, [HIF_MDIO_DATA_DATA, HIF_MDIO_DATA_BUSY], []⟩]

/-- Every register of page 0x1C. -/
def rowsHIF : List RegRow := rowsHIFA ++ rowsHIFB

/-! Page 0x1D SAF: R75 and R585 (25_fault_coverage.md), R586 (25_fault_coverage.md). -/

def SAF_LOCK_LOCK : Field := ⟨0x7401C, 0x0, 0, 1, .rwk, 0, 0, 1, [], false⟩
def SAF_LOCK_STICKY : Field := ⟨0x7401C, 0x0, 1, 1, .rw, 0, 0, 1, [], false⟩
def SAF_CFGCRC_CRC : Field := ⟨0x74018, 0x0, 0, 32, .ro, 0, 0, 1, [], false⟩
def SAF_CTRL_CORE_CMP : Field := ⟨0x74008, 0x0, 0, 1, .rwk, 1, 0, 1, [], false⟩
def SAF_STAT_GUARANTEED : Field := ⟨0x7400C, 0x0, 0, 1, .ro, 0, 0, 1, [], false⟩
def SAF_STAT_ACTIVE : Field := ⟨0x7400C, 0x0, 1, 1, .ro, 0, 0, 1, [], false⟩
def SAF_STAT_CORE_HELD : Field := ⟨0x7400C, 0x0, 2, 1, .ro, 0, 0, 1, [], false⟩
def SAF_STAT_DROOP : Field := ⟨0x7400C, 0x0, 3, 1, .ro, 0, 0, 1, [], false⟩
def SAF_COND_COND : Field := ⟨0x74040, 0x0, 0, 6, .ro, 0, 0, 1, [], false⟩
def SAF_COVER_COVER : Field := ⟨0x74044, 0x0, 0, 14, .ro, 0, 0, 1, [], false⟩
def SAF_ACTIVE_ACTIVE : Field := ⟨0x74048, 0x0, 0, 14, .ro, 0, 0, 1, [], false⟩
def SAF_CMD_CORE_RELEASE : Field := ⟨0x7404C, 0x0, 0, 1, .cmd, 0, 0, 1, [], false⟩
def SAF_CORE_CFG_CORE_LIMIT : Field := ⟨0x74050, 0x0, 0, 4, .rwk, 3, 0, 1, [(1, 15)], false⟩
def SAF_CORE_STAT_COMPARES : Field := ⟨0x74054, 0x0, 0, 16, .ro, 0, 0, 1, [], false⟩
def SAF_CORE_STAT_FAULTS_HR : Field := ⟨0x74054, 0x0, 16, 8, .ro, 0, 0, 1, [], false⟩
def SAF_CORE_STAT_TASK : Field := ⟨0x74054, 0x0, 24, 8, .ro, 0, 0, 1, [], false⟩
def SAF_DROOP_STAT_VCORE : Field := ⟨0x74058, 0x0, 0, 1, .ro, 0, 0, 1, [], false⟩
def SAF_DROOP_STAT_VIN : Field := ⟨0x74058, 0x0, 1, 1, .ro, 0, 0, 1, [], false⟩
def SAF_DROOP_STAT_VDDA : Field := ⟨0x74058, 0x0, 2, 1, .ro, 0, 0, 1, [], false⟩
def SAF_DROOP_STAT_COUNT : Field := ⟨0x74058, 0x0, 16, 16, .ro, 0, 0, 1, [], false⟩
def SAF_LOSS_TICK_TICK : Field := ⟨0x7405C, 0x0, 0, 32, .ro, 0, 0, 1, [], false⟩
def SAF_CLASS_CNT_COUNT : Field := ⟨0x74060, 0x8, 0, 16, .ro, 0, 0, 1, [], false⟩
def SAF_CLASS_CNT_LAST_LAT : Field := ⟨0x74060, 0x8, 16, 16, .ro, 0, 0, 1, [], false⟩
def SAF_CLASS_TICK_TICK : Field := ⟨0x74064, 0x8, 0, 32, .ro, 0, 0, 1, [], false⟩
def SAF_IEN_GUARANTEED : Field := ⟨0x74010, 0x0, 0, 1, .rwk, 0, 0, 1, [], false⟩
def SAF_IEN_ACTIVE : Field := ⟨0x74010, 0x0, 1, 1, .rwk, 0, 0, 1, [], false⟩
def SAF_IEN_CORE_HELD : Field := ⟨0x74010, 0x0, 2, 1, .rwk, 0, 0, 1, [], false⟩
def SAF_IEN_DROOP : Field := ⟨0x74010, 0x0, 3, 1, .rwk, 0, 0, 1, [], false⟩

def rowsSAFA : List RegRow := [
  ⟨0x74000, 0x0, 1, .s, [], [0x100001D]⟩,
  ⟨0x74004, 0x0, 1, .s, [], [0x24]⟩,
  ⟨0x74008, 0x0, 1, .c, [SAF_CTRL_CORE_CMP], []⟩,
  ⟨0x7400C, 0x0, 1, .s, [SAF_STAT_GUARANTEED, SAF_STAT_ACTIVE, SAF_STAT_CORE_HELD, SAF_STAT_DROOP], []⟩,
  ⟨0x74010, 0x0, 1, .c, [SAF_IEN_GUARANTEED, SAF_IEN_ACTIVE, SAF_IEN_CORE_HELD, SAF_IEN_DROOP], []⟩,
  ⟨0x74014, 0x0, 1, .s, [], []⟩,
  ⟨0x74018, 0x0, 1, .s, [SAF_CFGCRC_CRC], []⟩,
  ⟨0x7401C, 0x0, 1, .c, [SAF_LOCK_LOCK, SAF_LOCK_STICKY], []⟩,
  ⟨0x74040, 0x0, 1, .s, [SAF_COND_COND], []⟩,
  ⟨0x74044, 0x0, 1, .s, [SAF_COVER_COVER], []⟩,
  ⟨0x74048, 0x0, 1, .s, [SAF_ACTIVE_ACTIVE], []⟩,
  ⟨0x7404C, 0x0, 1, .k, [SAF_CMD_CORE_RELEASE], []⟩,
  ⟨0x74050, 0x0, 1, .c, [SAF_CORE_CFG_CORE_LIMIT], []⟩,
  ⟨0x74054, 0x0, 1, .s, [SAF_CORE_STAT_COMPARES, SAF_CORE_STAT_FAULTS_HR, SAF_CORE_STAT_TASK], []⟩,
  ⟨0x74058, 0x0, 1, .s, [SAF_DROOP_STAT_VCORE, SAF_DROOP_STAT_VIN, SAF_DROOP_STAT_VDDA, SAF_DROOP_STAT_COUNT], []⟩,
  ⟨0x7405C, 0x0, 1, .s, [SAF_LOSS_TICK_TICK], []⟩,
  ⟨0x74060, 0x8, 14, .s, [SAF_CLASS_CNT_COUNT, SAF_CLASS_CNT_LAST_LAT], []⟩,
  ⟨0x74064, 0x8, 14, .s, [SAF_CLASS_TICK_TICK], []⟩]

/-- Every register of page 0x1D. -/
def rowsSAF : List RegRow := rowsSAFA

/-! Page 0x1E BKG: R75 and R588 (25_fault_coverage.md), R587 (25_fault_coverage.md). -/

def BKG_LOCK_LOCK : Field := ⟨0x7801C, 0x0, 0, 1, .rwk, 0, 0, 1, [], false⟩
def BKG_LOCK_STICKY : Field := ⟨0x7801C, 0x0, 1, 1, .rw, 0, 0, 1, [], false⟩
def BKG_CFGCRC_CRC : Field := ⟨0x78018, 0x0, 0, 32, .ro, 0, 0, 1, [], false⟩
def BKG_SIEVE_CFG_EN : Field := ⟨0x78040, 0x0, 0, 1, .rwk, 1, 0, 1, [], false⟩
def BKG_SIEVE_CFG_NVM_EN : Field := ⟨0x78040, 0x0, 1, 1, .rwk, 1, 0, 1, [], false⟩
def BKG_SIEVE_STAT_PCT : Field := ⟨0x78044, 0x0, 0, 7, .ro, 0, 0, 1, [], false⟩
def BKG_SIEVE_STAT_PASSES : Field := ⟨0x78044, 0x0, 16, 16, .ro, 0, 0, 1, [], false⟩
def BKG_SIEVE_POS_WORD : Field := ⟨0x78048, 0x0, 0, 21, .ro, 0, 0, 1, [], false⟩
def BKG_SIEVE_NPOS_WORD : Field := ⟨0x7804C, 0x0, 0, 22, .ro, 0, 0, 1, [], false⟩
def BKG_SRAM_ECC_SEC : Field := ⟨0x78050, 0x0, 0, 16, .ro, 0, 0, 1, [], false⟩
def BKG_SRAM_ECC_DED : Field := ⟨0x78050, 0x0, 16, 16, .ro, 0, 0, 1, [], false⟩
def BKG_SRAM_ECC_ADDR_WORD : Field := ⟨0x78054, 0x0, 0, 21, .ro, 0, 0, 1, [], false⟩
def BKG_SRAM_ECC_ADDR_VALID : Field := ⟨0x78054, 0x0, 24, 1, .ro, 0, 0, 1, [], false⟩
def BKG_SRAM_ECC_ADDR_REGION : Field := ⟨0x78054, 0x0, 25, 4, .ro, 0, 0, 1, [], false⟩
def BKG_SIEVE_LATE_LATE : Field := ⟨0x78058, 0x0, 0, 16, .ro, 0, 0, 1, [], false⟩
def BKG_TEL_CFG_PERIOD_MS : Field := ⟨0x7805C, 0x0, 0, 16, .rwk, 100, 0, 1, [(10, 10000)], false⟩
def BKG_TEL_STAT_LAST_MS : Field := ⟨0x78060, 0x0, 0, 16, .ro, 0, 0, 1, [], false⟩
def BKG_TEL_STAT_LATE : Field := ⟨0x78060, 0x0, 16, 16, .ro, 0, 0, 1, [], false⟩
def BKG_SHARE_CORE_PCT : Field := ⟨0x78064, 0x0, 0, 8, .ro, 0, 0, 1, [], false⟩
def BKG_SHARE_SRAM_PM : Field := ⟨0x78064, 0x0, 8, 8, .ro, 0, 0, 1, [], false⟩
def BKG_SHARE_NVMR_PM : Field := ⟨0x78064, 0x0, 16, 8, .ro, 0, 0, 1, [], false⟩
def BKG_STAT_SIEVE_RUNNING : Field := ⟨0x7800C, 0x0, 0, 1, .ro, 0, 0, 1, [], false⟩
def BKG_STAT_SIEVE_LATE : Field := ⟨0x7800C, 0x0, 1, 1, .ro, 0, 0, 1, [], false⟩
def BKG_STAT_TEL_LATE : Field := ⟨0x7800C, 0x0, 2, 1, .ro, 0, 0, 1, [], false⟩
def BKG_STAT_DED_HELD : Field := ⟨0x7800C, 0x0, 3, 1, .ro, 0, 0, 1, [], false⟩
def BKG_IEN_SIEVE_RUNNING : Field := ⟨0x78010, 0x0, 0, 1, .rwk, 0, 0, 1, [], false⟩
def BKG_IEN_SIEVE_LATE : Field := ⟨0x78010, 0x0, 1, 1, .rwk, 0, 0, 1, [], false⟩
def BKG_IEN_TEL_LATE : Field := ⟨0x78010, 0x0, 2, 1, .rwk, 0, 0, 1, [], false⟩
def BKG_IEN_DED_HELD : Field := ⟨0x78010, 0x0, 3, 1, .rwk, 0, 0, 1, [], false⟩

def rowsBKGA : List RegRow := [
  ⟨0x78000, 0x0, 1, .s, [], [0x100001E]⟩,
  ⟨0x78004, 0x0, 1, .s, [], [0xA]⟩,
  ⟨0x78008, 0x0, 1, .c, [], []⟩,
  ⟨0x7800C, 0x0, 1, .s, [BKG_STAT_SIEVE_RUNNING, BKG_STAT_SIEVE_LATE, BKG_STAT_TEL_LATE, BKG_STAT_DED_HELD], []⟩,
  ⟨0x78010, 0x0, 1, .c, [BKG_IEN_SIEVE_RUNNING, BKG_IEN_SIEVE_LATE, BKG_IEN_TEL_LATE, BKG_IEN_DED_HELD], []⟩,
  ⟨0x78014, 0x0, 1, .s, [], []⟩,
  ⟨0x78018, 0x0, 1, .s, [BKG_CFGCRC_CRC], []⟩,
  ⟨0x7801C, 0x0, 1, .c, [BKG_LOCK_LOCK, BKG_LOCK_STICKY], []⟩,
  ⟨0x78040, 0x0, 1, .c, [BKG_SIEVE_CFG_EN, BKG_SIEVE_CFG_NVM_EN], []⟩,
  ⟨0x78044, 0x0, 1, .s, [BKG_SIEVE_STAT_PCT, BKG_SIEVE_STAT_PASSES], []⟩,
  ⟨0x78048, 0x0, 1, .s, [BKG_SIEVE_POS_WORD], []⟩,
  ⟨0x7804C, 0x0, 1, .s, [BKG_SIEVE_NPOS_WORD], []⟩,
  ⟨0x78050, 0x0, 1, .s, [BKG_SRAM_ECC_SEC, BKG_SRAM_ECC_DED], []⟩,
  ⟨0x78054, 0x0, 1, .s, [BKG_SRAM_ECC_ADDR_WORD, BKG_SRAM_ECC_ADDR_VALID, BKG_SRAM_ECC_ADDR_REGION], []⟩,
  ⟨0x78058, 0x0, 1, .s, [BKG_SIEVE_LATE_LATE], []⟩,
  ⟨0x7805C, 0x0, 1, .c, [BKG_TEL_CFG_PERIOD_MS], []⟩,
  ⟨0x78060, 0x0, 1, .s, [BKG_TEL_STAT_LAST_MS, BKG_TEL_STAT_LATE], []⟩,
  ⟨0x78064, 0x0, 1, .s, [BKG_SHARE_CORE_PCT, BKG_SHARE_SRAM_PM, BKG_SHARE_NVMR_PM], []⟩]

/-- Every register of page 0x1E. -/
def rowsBKG : List RegRow := rowsBKGA

end Sys2Proof.Machine
end

