-- ==== Sys2Proof/Machine/RegsConv.lean ====
section
/-! DEFINITION. The registers of pages PWM, CNV, EFU, as the register tables of the spec give them: one
definition per field (address, element distance, lowest bit, width, type, reset, repetition, accepted ranges), one
table row per register. The eight header registers of R75 open each page. -/

namespace Sys2Proof.Machine

/-! Page 0x0F PWM: R75 and R233 (08_holdup_converter.md), R234 (08_holdup_converter.md). -/

def PWM_LOCK_LOCK : Field := ⟨0x3C01C, 0x0, 0, 1, .rwk, 0, 0, 1, [], false⟩
def PWM_LOCK_STICKY : Field := ⟨0x3C01C, 0x0, 1, 1, .rw, 0, 0, 1, [], false⟩
def PWM_CFGCRC_CRC : Field := ⟨0x3C018, 0x0, 0, 32, .ro, 0, 0, 1, [], false⟩
def PWM_CTRL_RB_EN : Field := ⟨0x3C008, 0x0, 0, 1, .rwk, 1, 0, 1, [], false⟩
def PWM_CTRL_OC_EN : Field := ⟨0x3C008, 0x0, 1, 1, .rwk, 1, 0, 1, [], false⟩
def PWM_STAT_PH_FAULT : Field := ⟨0x3C00C, 0x0, 0, 1, .ro, 0, 0, 1, [], false⟩
def PWM_STAT_STUCK : Field := ⟨0x3C00C, 0x0, 1, 1, .ro, 0, 0, 1, [], false⟩
def PWM_STAT_CAL_FAIL : Field := ⟨0x3C00C, 0x0, 2, 1, .ro, 0, 0, 1, [], false⟩
def PWM_STAT_FALLBACK : Field := ⟨0x3C00C, 0x0, 3, 1, .ro, 0, 0, 1, [], false⟩
def PWM_STAT_FIRING : Field := ⟨0x3C00C, 0x0, 4, 1, .ro, 0, 0, 1, [], false⟩
def PWM_PERIOD_PERIOD : Field := ⟨0x3C040, 0x0, 0, 11, .rwk, 200, 0, 1, [(50, 1000)], false⟩
def PWM_DT_DT_ON : Field := ⟨0x3C044, 0x0, 0, 8, .rwk, 40, 0, 1, [(0, 200)], false⟩
def PWM_DT_DT_OFF : Field := ⟨0x3C044, 0x0, 8, 8, .rwk, 40, 0, 1, [(0, 200)], false⟩
def PWM_LIMITS_MIN_ON : Field := ⟨0x3C048, 0x0, 0, 8, .rwk, 50, 0, 1, [(20, 255)], false⟩
def PWM_LIMITS_MAX_DUTY : Field := ⟨0x3C048, 0x0, 16, 16, .rwk, 0xe666, 0, 1, [(6554, 62259)], false⟩
def PWM_CAL_STEPS : Field := ⟨0x3C04C, 0x0, 0, 9, .ro, 308, 0, 1, [], false⟩
def PWM_CAL_CAL_FAIL : Field := ⟨0x3C04C, 0x0, 16, 1, .ro, 0, 0, 1, [], false⟩
def PWM_CAL_AGE : Field := ⟨0x3C04C, 0x0, 24, 8, .ro, 0, 0, 1, [], false⟩
def PWM_OWN_OWN : Field := ⟨0x3C050, 0x0, 0, 16, .ro, 0, 0, 1, [], false⟩
def PWM_OWN_PARTNER_ACT : Field := ⟨0x3C050, 0x0, 16, 16, .ro, 0, 0, 1, [], false⟩
def PWM_ACTIVE_ACTIVE : Field := ⟨0x3C054, 0x0, 0, 16, .ro, 0, 0, 1, [], false⟩
def PWM_ACTIVE_SHED : Field := ⟨0x3C054, 0x0, 16, 16, .ro, 0, 0, 1, [], false⟩
def PWM_MODES_FAULT : Field := ⟨0x3C058, 0x0, 0, 16, .ro, 0, 0, 1, [], false⟩
def PWM_MODES_DE : Field := ⟨0x3C058, 0x0, 16, 16, .ro, 0, 0, 1, [], false⟩
def PWM_READBACK_HI : Field := ⟨0x3C05C, 0x0, 0, 16, .ro, 0, 0, 1, [], false⟩
def PWM_READBACK_LO : Field := ⟨0x3C05C, 0x0, 16, 16, .ro, 0, 0, 1, [], false⟩
def PWM_PH_CFG_EN : Field := ⟨0x3C060, 0x1C, 0, 1, .rwk, 0, 0, 1, [], false⟩
def PWM_PH_CFG_GROUP : Field := ⟨0x3C060, 0x1C, 1, 1, .rwk, 0, 0, 1, [], false⟩
def PWM_PH_CFG_DE_EN : Field := ⟨0x3C060, 0x1C, 2, 1, .rwk, 1, 0, 1, [], false⟩
def PWM_PH_CFG_SHED_ORDER : Field := ⟨0x3C060, 0x1C, 8, 4, .rwk, 0, 0, 1, [], false⟩
def PWM_PH_ILIM_ABS_MA : Field := ⟨0x3C064, 0x1C, 0, 32, .rwk, 0x249f0, 0, 1, [(1000, 320000)], false⟩
def PWM_PH_OFS_OFS : Field := ⟨0x3C068, 0x1C, 0, 19, .ro, 0, 0, 1, [], false⟩
def PWM_PH_OFS_RANK : Field := ⟨0x3C068, 0x1C, 20, 4, .ro, 0, 0, 1, [], false⟩
def PWM_PH_OFS_NACT : Field := ⟨0x3C068, 0x1C, 24, 5, .ro, 0, 0, 1, [], false⟩
def PWM_PH_DUTY_ON_STEPS : Field := ⟨0x3C06C, 0x1C, 0, 19, .ro, 0, 0, 1, [], false⟩
def PWM_PH_DAC_PEAK : Field := ⟨0x3C070, 0x1C, 0, 10, .ro, 0, 0, 1, [], false⟩
def PWM_PH_DAC_ZERO : Field := ⟨0x3C070, 0x1C, 16, 10, .ro, 0, 0, 1, [], false⟩
def PWM_PH_STAT_OWNED : Field := ⟨0x3C074, 0x1C, 0, 1, .ro, 0, 0, 1, [], false⟩
def PWM_PH_STAT_ACTIVE : Field := ⟨0x3C074, 0x1C, 1, 1, .ro, 0, 0, 1, [], false⟩
def PWM_PH_STAT_SHED : Field := ⟨0x3C074, 0x1C, 2, 1, .ro, 0, 0, 1, [], false⟩
def PWM_PH_STAT_DE : Field := ⟨0x3C074, 0x1C, 3, 1, .ro, 0, 0, 1, [], false⟩
def PWM_PH_STAT_FIRING : Field := ⟨0x3C074, 0x1C, 4, 1, .ro, 0, 0, 1, [], false⟩
def PWM_PH_STAT_FAULT : Field := ⟨0x3C074, 0x1C, 5, 1, .ro, 0, 0, 1, [], false⟩
def PWM_PH_STAT_CAUSE : Field := ⟨0x3C074, 0x1C, 6, 2, .ro, 0, 0, 1, [], false⟩
def PWM_PH_STAT_HRIP : Field := ⟨0x3C074, 0x1C, 16, 16, .ro, 0, 0, 1, [], false⟩
def PWM_PH_CNT_SKIPS : Field := ⟨0x3C078, 0x1C, 0, 16, .ro, 0, 0, 1, [], false⟩
def PWM_PH_CNT_MAXDUTY : Field := ⟨0x3C078, 0x1C, 16, 16, .ro, 0, 0, 1, [], false⟩
def PWM_IEN_PH_FAULT : Field := ⟨0x3C010, 0x0, 0, 1, .rwk, 0, 0, 1, [], false⟩
def PWM_IEN_STUCK : Field := ⟨0x3C010, 0x0, 1, 1, .rwk, 0, 0, 1, [], false⟩
def PWM_IEN_CAL_FAIL : Field := ⟨0x3C010, 0x0, 2, 1, .rwk, 0, 0, 1, [], false⟩
def PWM_IEN_FALLBACK : Field := ⟨0x3C010, 0x0, 3, 1, .rwk, 0, 0, 1, [], false⟩
def PWM_IEN_FIRING : Field := ⟨0x3C010, 0x0, 4, 1, .rwk, 0, 0, 1, [], false⟩

def rowsPWMA : List RegRow := [
  ⟨0x3C000, 0x0, 1, .s, [], [0x100000F]⟩,
  ⟨0x3C004, 0x0, 1, .s, [], [0x78]⟩,
  ⟨0x3C008, 0x0, 1, .c, [PWM_CTRL_RB_EN, PWM_CTRL_OC_EN], []⟩,
  ⟨0x3C00C, 0x0, 1, .s, [PWM_STAT_PH_FAULT, PWM_STAT_STUCK, PWM_STAT_CAL_FAIL, PWM_STAT_FALLBACK, PWM_STAT_FIRING], []⟩,
  ⟨0x3C010, 0x0, 1, .c, [PWM_IEN_PH_FAULT, PWM_IEN_STUCK, PWM_IEN_CAL_FAIL, PWM_IEN_FALLBACK, PWM_IEN_FIRING], []⟩,
  ⟨0x3C014, 0x0, 1, .s, [], []⟩,
  ⟨0x3C018, 0x0, 1, .s, [PWM_CFGCRC_CRC], []⟩,
  ⟨0x3C01C, 0x0, 1, .c, [PWM_LOCK_LOCK, PWM_LOCK_STICKY], []⟩,
  ⟨0x3C040, 0x0, 1, .c, [PWM_PERIOD_PERIOD], []⟩,
  ⟨0x3C044, 0x0, 1, .c, [PWM_DT_DT_ON, PWM_DT_DT_OFF], []⟩,
  ⟨0x3C048, 0x0, 1, .c, [PWM_LIMITS_MIN_ON, PWM_LIMITS_MAX_DUTY], []⟩,
  ⟨0x3C04C, 0x0, 1, .s, [PWM_CAL_STEPS, PWM_CAL_CAL_FAIL, PWM_CAL_AGE], []⟩,
  ⟨0x3C050, 0x0, 1, .s, [PWM_OWN_OWN, PWM_OWN_PARTNER_ACT], []⟩,
  ⟨0x3C054, 0x0, 1, .s, [PWM_ACTIVE_ACTIVE, PWM_ACTIVE_SHED], []⟩,
  ⟨0x3C058, 0x0, 1, .s, [PWM_MODES_FAULT, PWM_MODES_DE], []⟩,
  ⟨0x3C05C, 0x0, 1, .s, [PWM_READBACK_HI, PWM_READBACK_LO], []⟩,
  ⟨0x3C060, 0x1C, 16, .c, [PWM_PH_CFG_EN, PWM_PH_CFG_GROUP, PWM_PH_CFG_DE_EN, PWM_PH_CFG_SHED_ORDER], []⟩,
  ⟨0x3C064, 0x1C, 16, .c, [PWM_PH_ILIM_ABS_MA], []⟩,
  ⟨0x3C068, 0x1C, 16, .s, [PWM_PH_OFS_OFS, PWM_PH_OFS_RANK, PWM_PH_OFS_NACT], []⟩,
  ⟨0x3C06C, 0x1C, 16, .d, [PWM_PH_DUTY_ON_STEPS], []⟩,
  ⟨0x3C070, 0x1C, 16, .s, [PWM_PH_DAC_PEAK, PWM_PH_DAC_ZERO], []⟩,
  ⟨0x3C074, 0x1C, 16, .s, [PWM_PH_STAT_OWNED, PWM_PH_STAT_ACTIVE, PWM_PH_STAT_SHED, PWM_PH_STAT_DE, PWM_PH_STAT_FIRING, PWM_PH_STAT_FAULT, PWM_PH_STAT_CAUSE, PWM_PH_STAT_HRIP], []⟩,
  ⟨0x3C078, 0x1C, 16, .s, [PWM_PH_CNT_SKIPS, PWM_PH_CNT_MAXDUTY], []⟩]

/-- Every register of page 0x0F. -/
def rowsPWM : List RegRow := rowsPWMA

/-! Page 0x10 CNV: R75 and R235 (08_holdup_converter.md), R236 (08_holdup_converter.md). -/

def CNV_LOCK_LOCK : Field := ⟨0x4001C, 0x0, 0, 1, .rwk, 0, 0, 1, [], false⟩
def CNV_LOCK_STICKY : Field := ⟨0x4001C, 0x0, 1, 1, .rw, 0, 0, 1, [], false⟩
def CNV_CFGCRC_CRC : Field := ⟨0x40018, 0x0, 0, 32, .ro, 0, 0, 1, [], false⟩
def CNV_CTRL_EN : Field := ⟨0x40008, 0x0, 0, 1, .rwk, 1, 0, 1, [], false⟩
def CNV_CTRL_ALLFIRE_EN : Field := ⟨0x40008, 0x0, 1, 1, .rwk, 1, 0, 1, [], false⟩
def CNV_CTRL_DE_EN : Field := ⟨0x40008, 0x0, 2, 1, .rwk, 1, 0, 1, [], false⟩
def CNV_CTRL_SHED_EN : Field := ⟨0x40008, 0x0, 3, 1, .rwk, 1, 0, 1, [], false⟩
def CNV_CTRL_MODE : Field := ⟨0x40008, 0x0, 4, 1, .rwk, 0, 0, 1, [], false⟩
def CNV_CTRL_PERT_EN : Field := ⟨0x40008, 0x0, 5, 1, .rwk, 1, 0, 1, [], false⟩
def CNV_STAT_G0_FAULT : Field := ⟨0x4000C, 0x0, 0, 1, .ro, 0, 0, 1, [], false⟩
def CNV_STAT_G1_FAULT : Field := ⟨0x4000C, 0x0, 1, 1, .ro, 0, 0, 1, [], false⟩
def CNV_STAT_SLEWING : Field := ⟨0x4000C, 0x0, 2, 1, .ro, 0, 0, 1, [], false⟩
def CNV_STAT_AF_FIRING : Field := ⟨0x4000C, 0x0, 3, 1, .ro, 0, 0, 1, [], false⟩
def CNV_STAT_AF_LOCKOUT : Field := ⟨0x4000C, 0x0, 4, 1, .ro, 0, 0, 1, [], false⟩
def CNV_STAT_ACF : Field := ⟨0x4000C, 0x0, 5, 1, .ro, 0, 0, 1, [], false⟩
def CNV_STAT_PERT_CLIPPED : Field := ⟨0x4000C, 0x0, 6, 1, .ro, 0, 0, 1, [], false⟩
def CNV_STAT_AT_UPPER : Field := ⟨0x4000C, 0x0, 7, 1, .ro, 0, 0, 1, [], false⟩
def CNV_STAT_FLOOR : Field := ⟨0x4000C, 0x0, 8, 1, .ro, 0, 0, 1, [], false⟩
def CNV_VSET_VSET : Field := ⟨0x40040, 0x0, 0, 32, .rwk, 0x83d60, 0, 1, [(360000, 600000)], false⟩
def CNV_STBY_OFFSET : Field := ⟨0x40044, 0x0, 0, 16, .rwk, 8000, 0, 1, [(0, 30000)], false⟩
def CNV_SLEW_CFG_STATE_RATE : Field := ⟨0x40048, 0x0, 0, 16, .rwk, 1000, 0, 1, [(1, 65535)], false⟩
def CNV_SLEW_CFG_SS_RATE : Field := ⟨0x40048, 0x0, 16, 16, .rwk, 1000, 0, 1, [(1, 65535)], false⟩
def CNV_CMD_TGT_TGT : Field := ⟨0x4004C, 0x0, 0, 32, .rw, 0, 0, 1, [], false⟩
def CNV_CMD_RATE : Field := ⟨0x40050, 0x0, 0, 16, .wo, 0, 0, 1, [], false⟩
def CNV_CMD_TAG : Field := ⟨0x40050, 0x0, 16, 8, .wo, 0, 0, 1, [], false⟩
def CNV_CMD_SLEW : Field := ⟨0x40050, 0x0, 24, 1, .cmd, 0, 0, 1, [], false⟩
def CNV_CMD_CLEAR_G0 : Field := ⟨0x40050, 0x0, 25, 1, .cmd, 0, 0, 1, [], false⟩
def CNV_CMD_CLEAR_G1 : Field := ⟨0x40050, 0x0, 26, 1, .cmd, 0, 0, 1, [], false⟩
def CNV_SLEW_STAT_TAG_ACTIVE : Field := ⟨0x40054, 0x0, 0, 8, .ro, 0, 0, 1, [], false⟩
def CNV_SLEW_STAT_TAG_DONE : Field := ⟨0x40054, 0x0, 8, 8, .ro, 0, 0, 1, [], false⟩
def CNV_SLEW_STAT_TAG_SUPERSEDED : Field := ⟨0x40054, 0x0, 16, 8, .ro, 0, 0, 1, [], false⟩
def CNV_SLEW_STAT_SLEWING : Field := ⟨0x40054, 0x0, 24, 1, .ro, 0, 0, 1, [], false⟩
def CNV_SLEW_STAT_REFUSED_LAST : Field := ⟨0x40054, 0x0, 25, 1, .ro, 0, 0, 1, [], false⟩
def CNV_SLEW_CNT_SUPERSEDED : Field := ⟨0x40058, 0x0, 0, 16, .ro, 0, 0, 1, [], false⟩
def CNV_SLEW_CNT_COMPLETED : Field := ⟨0x40058, 0x0, 16, 16, .ro, 0, 0, 1, [], false⟩
def CNV_REF_REF : Field := ⟨0x4005C, 0x0, 0, 32, .ro, 0x80000000, 0, 1, [], false⟩
def CNV_TGT_SETPOINT : Field := ⟨0x40060, 0x0, 0, 32, .ro, 0x80000000, 0, 1, [], false⟩
def CNV_PH_LIM_LIM : Field := ⟨0x40064, 0x0, 0, 32, .rwk, 0x186a0, 0, 1, [(1000, 300000)], false⟩
def CNV_CHG_LIM_LIM : Field := ⟨0x40068, 0x0, 0, 32, .rwk, 0x4e20, 0, 1, [(0, 1000000)], false⟩
def CNV_FB_V_V : Field := ⟨0x4006C, 0x4, 0, 32, .rwk, 0, 0, 1, [], false⟩
def CNV_FB_I_I : Field := ⟨0x4007C, 0x4, 0, 32, .rwk, 0, 0, 1, [(0, 300000)], false⟩
def CNV_FB_TIME_FB_TIME : Field := ⟨0x4008C, 0x0, 0, 24, .rwk, 0x4e20, 0, 1, [(1000, 1000000)], false⟩
def CNV_RETRY_RETRY_MAX : Field := ⟨0x40090, 0x0, 0, 4, .rwk, 3, 0, 1, [], false⟩
def CNV_RETRY_RETRY_MS : Field := ⟨0x40090, 0x0, 8, 24, .rwk, 1000, 0, 1, [(100, 60000)], false⟩
def CNV_PICKUP_PCT : Field := ⟨0x40094, 0x0, 0, 8, .rwk, 2, 0, 1, [(1, 20)], false⟩
def CNV_RAMP_RAMP : Field := ⟨0x40098, 0x0, 0, 32, .rwk, 0x1e8480, 0, 1, [(10000, 60000000)], false⟩
def CNV_SHED_SHED_LO : Field := ⟨0x4009C, 0x0, 0, 8, .rwk, 20, 0, 1, [], false⟩
def CNV_SHED_ADD_HI : Field := ⟨0x4009C, 0x0, 8, 8, .rwk, 60, 0, 1, [], false⟩
def CNV_SHED_MIN_PH : Field := ⟨0x4009C, 0x0, 16, 4, .rwk, 2, 0, 1, [(1, 15)], false⟩
def CNV_SHED_SHED_MS : Field := ⟨0x4009C, 0x0, 20, 12, .rwk, 100, 0, 1, [(1, 4095)], false⟩
def CNV_DE_DE_ENTER : Field := ⟨0x400A0, 0x0, 0, 8, .rwk, 5, 0, 1, [], false⟩
def CNV_DE_DE_EXIT : Field := ⟨0x400A0, 0x0, 8, 8, .rwk, 10, 0, 1, [], false⟩
def CNV_DE_ZC_OFS : Field := ⟨0x400A0, 0x0, 16, 16, .rwk, 500, 0, 1, [], false⟩
def CNV_SLOPE_SLOPE : Field := ⟨0x400A4, 0x0, 0, 16, .rwk, 500, 0, 1, [], false⟩
def CNV_AF_SLOPE_AF_SLOPE : Field := ⟨0x400A8, 0x0, 0, 16, .rwk, 50, 0, 1, [(5, 10000)], false⟩
def CNV_AF_DEPTH_DEPTH_N : Field := ⟨0x400AC, 0x0, 0, 16, .rwk, 800, 0, 1, [(50, 5000)], false⟩
def CNV_AF_DEPTH_DEPTH_P : Field := ⟨0x400AC, 0x0, 16, 16, .rwk, 300, 0, 1, [(50, 5000)], false⟩
def CNV_AF_RUN_CYCLES : Field := ⟨0x400B0, 0x0, 0, 4, .rwk, 4, 0, 1, [(1, 15)], false⟩
def CNV_AF_RUN_LOCKOUT_MS : Field := ⟨0x400B0, 0x0, 8, 8, .rwk, 10, 0, 1, [(1, 255)], false⟩
def CNV_AF_RUN_HOLD_US : Field := ⟨0x400B0, 0x0, 16, 16, .rwk, 500, 0, 1, [(10, 10000)], false⟩
def CNV_AF_STAT_FIRES : Field := ⟨0x400B4, 0x0, 0, 16, .ro, 0, 0, 1, [], false⟩
def CNV_AF_STAT_ARMED_G0 : Field := ⟨0x400B4, 0x0, 16, 1, .ro, 0, 0, 1, [], false⟩
def CNV_AF_STAT_ARMED_G1 : Field := ⟨0x400B4, 0x0, 17, 1, .ro, 0, 0, 1, [], false⟩
def CNV_AF_STAT_LOCKOUT_G0 : Field := ⟨0x400B4, 0x0, 18, 1, .ro, 0, 0, 1, [], false⟩
def CNV_AF_STAT_LOCKOUT_G1 : Field := ⟨0x400B4, 0x0, 19, 1, .ro, 0, 0, 1, [], false⟩
def CNV_AF_STAT_LAST_GROUP : Field := ⟨0x400B4, 0x0, 24, 1, .ro, 0, 0, 1, [], false⟩
def CNV_AF_TICK_TICK : Field := ⟨0x400B8, 0x0, 0, 32, .ro, 0, 0, 1, [], false⟩
def CNV_AF_FINE_FINE : Field := ⟨0x400BC, 0x0, 0, 6, .ro, 0, 0, 1, [], false⟩
def CNV_AF_FINE_LAT_NS : Field := ⟨0x400BC, 0x0, 8, 16, .ro, 0, 0, 1, [], false⟩
def CNV_SHEV_CFG_FUNC : Field := ⟨0x400C0, 0x0, 0, 2, .rwk, 0, 8, 4, [(0, 1)], false⟩
def CNV_SHEV_CFG_POL : Field := ⟨0x400C0, 0x0, 2, 1, .rwk, 0, 8, 4, [], false⟩
def CNV_SHEV_CFG_DEGLITCH : Field := ⟨0x400C0, 0x0, 3, 5, .rwk, 0, 8, 4, [], false⟩
def CNV_ACF_CFG_SYNCA_EN : Field := ⟨0x400C4, 0x0, 0, 1, .rwk, 0, 0, 1, [], false⟩
def CNV_ACF_CFG_SYNCB_EN : Field := ⟨0x400C4, 0x0, 1, 1, .rwk, 0, 0, 1, [], false⟩
def CNV_ACF_STAT_SHEV_RAW : Field := ⟨0x400C8, 0x0, 0, 4, .ro, 0, 0, 1, [], false⟩
def CNV_ACF_STAT_SHEV_ASSERTED : Field := ⟨0x400C8, 0x0, 4, 4, .ro, 0, 0, 1, [], false⟩
def CNV_ACF_STAT_SYNCA_LOST : Field := ⟨0x400C8, 0x0, 8, 1, .ro, 0, 0, 1, [], false⟩
def CNV_ACF_STAT_SYNCB_LOST : Field := ⟨0x400C8, 0x0, 9, 1, .ro, 0, 0, 1, [], false⟩
def CNV_ACF_STAT_ANY : Field := ⟨0x400C8, 0x0, 10, 1, .ro, 0, 0, 1, [], false⟩
def CNV_GRP_STAT_STATE : Field := ⟨0x400CC, 0x4, 0, 3, .ro, 0, 0, 1, [], false⟩
def CNV_GRP_STAT_SHORT_TIMING : Field := ⟨0x400CC, 0x4, 3, 1, .ro, 0, 0, 1, [], false⟩
def CNV_GRP_STAT_RETRIES : Field := ⟨0x400CC, 0x4, 4, 4, .ro, 0, 0, 1, [], false⟩
def CNV_GRP_STAT_CAUSE : Field := ⟨0x400CC, 0x4, 8, 3, .ro, 0, 0, 1, [], false⟩
def CNV_GRP_STAT_NAVAIL : Field := ⟨0x400CC, 0x4, 11, 5, .ro, 0, 0, 1, [], false⟩
def CNV_GRP_STAT_NACT : Field := ⟨0x400CC, 0x4, 16, 5, .ro, 0, 0, 1, [], false⟩
def CNV_GRP_STAT_NOWN : Field := ⟨0x400CC, 0x4, 21, 5, .ro, 0, 0, 1, [], false⟩
def CNV_GRP_I_I : Field := ⟨0x400D4, 0x4, 0, 32, .ro, 0x80000000, 0, 1, [], false⟩
def CNV_GRP_LIM_U : Field := ⟨0x400DC, 0x4, 0, 32, .ro, 0, 0, 1, [], false⟩
def CNV_GRP_LOW_LOW : Field := ⟨0x400E4, 0x4, 0, 32, .ro, 0, 0, 1, [], false⟩
def CNV_DEM_D : Field := ⟨0x400EC, 0x4, 0, 32, .ro, 0, 0, 1, [], false⟩
def CNV_PERT_P : Field := ⟨0x400F4, 0x0, 0, 32, .ro, 0, 0, 1, [], false⟩
def CNV_CNT_PICKUPS : Field := ⟨0x400F8, 0x0, 0, 16, .ro, 0, 0, 1, [], false⟩
def CNV_CNT_GRP_FAULTS : Field := ⟨0x400F8, 0x0, 16, 16, .ro, 0, 0, 1, [], false⟩
def CNV_CHG_IN_LIM : Field := ⟨0x400FC, 0x0, 0, 32, .ro, 0, 0, 1, [], false⟩
def CNV_IEN_G0_FAULT : Field := ⟨0x40010, 0x0, 0, 1, .rwk, 0, 0, 1, [], false⟩
def CNV_IEN_G1_FAULT : Field := ⟨0x40010, 0x0, 1, 1, .rwk, 0, 0, 1, [], false⟩
def CNV_IEN_SLEWING : Field := ⟨0x40010, 0x0, 2, 1, .rwk, 0, 0, 1, [], false⟩
def CNV_IEN_AF_FIRING : Field := ⟨0x40010, 0x0, 3, 1, .rwk, 0, 0, 1, [], false⟩
def CNV_IEN_AF_LOCKOUT : Field := ⟨0x40010, 0x0, 4, 1, .rwk, 0, 0, 1, [], false⟩
def CNV_IEN_ACF : Field := ⟨0x40010, 0x0, 5, 1, .rwk, 0, 0, 1, [], false⟩
def CNV_IEN_PERT_CLIPPED : Field := ⟨0x40010, 0x0, 6, 1, .rwk, 0, 0, 1, [], false⟩
def CNV_IEN_AT_UPPER : Field := ⟨0x40010, 0x0, 7, 1, .rwk, 0, 0, 1, [], false⟩
def CNV_IEN_FLOOR : Field := ⟨0x40010, 0x0, 8, 1, .rwk, 0, 0, 1, [], false⟩

def rowsCNVA : List RegRow := [
  ⟨0x40000, 0x0, 1, .s, [], [0x1000010]⟩,
  ⟨0x40004, 0x0, 1, .s, [], [0x30]⟩,
  ⟨0x40008, 0x0, 1, .c, [CNV_CTRL_EN, CNV_CTRL_ALLFIRE_EN, CNV_CTRL_DE_EN, CNV_CTRL_SHED_EN, CNV_CTRL_MODE, CNV_CTRL_PERT_EN], []⟩,
  ⟨0x4000C, 0x0, 1, .s, [CNV_STAT_G0_FAULT, CNV_STAT_G1_FAULT, CNV_STAT_SLEWING, CNV_STAT_AF_FIRING, CNV_STAT_AF_LOCKOUT, CNV_STAT_ACF, CNV_STAT_PERT_CLIPPED, CNV_STAT_AT_UPPER, CNV_STAT_FLOOR], []⟩,
  ⟨0x40010, 0x0, 1, .c, [CNV_IEN_G0_FAULT, CNV_IEN_G1_FAULT, CNV_IEN_SLEWING, CNV_IEN_AF_FIRING, CNV_IEN_AF_LOCKOUT, CNV_IEN_ACF, CNV_IEN_PERT_CLIPPED, CNV_IEN_AT_UPPER, CNV_IEN_FLOOR], []⟩,
  ⟨0x40014, 0x0, 1, .s, [], []⟩,
  ⟨0x40018, 0x0, 1, .s, [CNV_CFGCRC_CRC], []⟩,
  ⟨0x4001C, 0x0, 1, .c, [CNV_LOCK_LOCK, CNV_LOCK_STICKY], []⟩,
  ⟨0x40040, 0x0, 1, .c, [CNV_VSET_VSET], []⟩,
  ⟨0x40044, 0x0, 1, .c, [CNV_STBY_OFFSET], []⟩,
  ⟨0x40048, 0x0, 1, .c, [CNV_SLEW_CFG_STATE_RATE, CNV_SLEW_CFG_SS_RATE], []⟩,
  ⟨0x4004C, 0x0, 1, .d, [CNV_CMD_TGT_TGT], []⟩,
  ⟨0x40050, 0x0, 1, .k, [CNV_CMD_RATE, CNV_CMD_TAG, CNV_CMD_SLEW, CNV_CMD_CLEAR_G0, CNV_CMD_CLEAR_G1], []⟩,
  ⟨0x40054, 0x0, 1, .s, [CNV_SLEW_STAT_TAG_ACTIVE, CNV_SLEW_STAT_TAG_DONE, CNV_SLEW_STAT_TAG_SUPERSEDED, CNV_SLEW_STAT_SLEWING, CNV_SLEW_STAT_REFUSED_LAST], []⟩,
  ⟨0x40058, 0x0, 1, .s, [CNV_SLEW_CNT_SUPERSEDED, CNV_SLEW_CNT_COMPLETED], []⟩,
  ⟨0x4005C, 0x0, 1, .d, [CNV_REF_REF], []⟩,
  ⟨0x40060, 0x0, 1, .s, [CNV_TGT_SETPOINT], []⟩,
  ⟨0x40064, 0x0, 1, .c, [CNV_PH_LIM_LIM], []⟩,
  ⟨0x40068, 0x0, 1, .c, [CNV_CHG_LIM_LIM], []⟩,
  ⟨0x4006C, 0x4, 4, .c, [CNV_FB_V_V], [0xC350, 0x41EB0, 0x68FB0, 0x7A120]⟩,
  ⟨0x4007C, 0x4, 4, .c, [CNV_FB_I_I], [0x2710, 0x7530, 0xEA60, 0x186A0]⟩,
  ⟨0x4008C, 0x0, 1, .c, [CNV_FB_TIME_FB_TIME], []⟩,
  ⟨0x40090, 0x0, 1, .c, [CNV_RETRY_RETRY_MAX, CNV_RETRY_RETRY_MS], []⟩,
  ⟨0x40094, 0x0, 1, .c, [CNV_PICKUP_PCT], []⟩]

def rowsCNVB : List RegRow := [
  ⟨0x40098, 0x0, 1, .c, [CNV_RAMP_RAMP], []⟩,
  ⟨0x4009C, 0x0, 1, .c, [CNV_SHED_SHED_LO, CNV_SHED_ADD_HI, CNV_SHED_MIN_PH, CNV_SHED_SHED_MS], []⟩,
  ⟨0x400A0, 0x0, 1, .c, [CNV_DE_DE_ENTER, CNV_DE_DE_EXIT, CNV_DE_ZC_OFS], []⟩,
  ⟨0x400A4, 0x0, 1, .c, [CNV_SLOPE_SLOPE], []⟩,
  ⟨0x400A8, 0x0, 1, .c, [CNV_AF_SLOPE_AF_SLOPE], []⟩,
  ⟨0x400AC, 0x0, 1, .c, [CNV_AF_DEPTH_DEPTH_N, CNV_AF_DEPTH_DEPTH_P], []⟩,
  ⟨0x400B0, 0x0, 1, .c, [CNV_AF_RUN_CYCLES, CNV_AF_RUN_LOCKOUT_MS, CNV_AF_RUN_HOLD_US], []⟩,
  ⟨0x400B4, 0x0, 1, .s, [CNV_AF_STAT_FIRES, CNV_AF_STAT_ARMED_G0, CNV_AF_STAT_ARMED_G1, CNV_AF_STAT_LOCKOUT_G0, CNV_AF_STAT_LOCKOUT_G1, CNV_AF_STAT_LAST_GROUP], []⟩,
  ⟨0x400B8, 0x0, 1, .s, [CNV_AF_TICK_TICK], []⟩,
  ⟨0x400BC, 0x0, 1, .s, [CNV_AF_FINE_FINE, CNV_AF_FINE_LAT_NS], []⟩,
  ⟨0x400C0, 0x0, 1, .c, [CNV_SHEV_CFG_FUNC, CNV_SHEV_CFG_POL, CNV_SHEV_CFG_DEGLITCH], [0x21]⟩,
  ⟨0x400C4, 0x0, 1, .c, [CNV_ACF_CFG_SYNCA_EN, CNV_ACF_CFG_SYNCB_EN], []⟩,
  ⟨0x400C8, 0x0, 1, .s, [CNV_ACF_STAT_SHEV_RAW, CNV_ACF_STAT_SHEV_ASSERTED, CNV_ACF_STAT_SYNCA_LOST, CNV_ACF_STAT_SYNCB_LOST, CNV_ACF_STAT_ANY], []⟩,
  ⟨0x400CC, 0x4, 2, .s, [CNV_GRP_STAT_STATE, CNV_GRP_STAT_SHORT_TIMING, CNV_GRP_STAT_RETRIES, CNV_GRP_STAT_CAUSE, CNV_GRP_STAT_NAVAIL, CNV_GRP_STAT_NACT, CNV_GRP_STAT_NOWN], []⟩,
  ⟨0x400D4, 0x4, 2, .d, [CNV_GRP_I_I], []⟩,
  ⟨0x400DC, 0x4, 2, .s, [CNV_GRP_LIM_U], []⟩,
  ⟨0x400E4, 0x4, 2, .s, [CNV_GRP_LOW_LOW], []⟩,
  ⟨0x400EC, 0x4, 2, .d, [CNV_DEM_D], []⟩,
  ⟨0x400F4, 0x0, 1, .d, [CNV_PERT_P], []⟩,
  ⟨0x400F8, 0x0, 1, .s, [CNV_CNT_PICKUPS, CNV_CNT_GRP_FAULTS], []⟩,
  ⟨0x400FC, 0x0, 1, .s, [CNV_CHG_IN_LIM], []⟩]

/-- Every register of page 0x10. -/
def rowsCNV : List RegRow := rowsCNVA ++ rowsCNVB

/-! Page 0x11 EFU: R75 and R332 (12_efuse_insertion.md), R333 (12_efuse_insertion.md), R334 (12_efuse_insertion.md). -/

def EFU_LOCK_LOCK : Field := ⟨0x4401C, 0x0, 0, 1, .rwk, 0, 0, 1, [], false⟩
def EFU_LOCK_STICKY : Field := ⟨0x4401C, 0x0, 1, 1, .rw, 0, 0, 1, [], false⟩
def EFU_CFGCRC_CRC : Field := ⟨0x44018, 0x0, 0, 32, .ro, 0, 0, 1, [], false⟩
def EFU_CTRL_EN : Field := ⟨0x44008, 0x0, 0, 1, .rwk, 1, 0, 1, [], false⟩
def EFU_STAT_WAITING : Field := ⟨0x4400C, 0x0, 0, 1, .ro, 0, 0, 1, [], false⟩
def EFU_STAT_FUSE_OUT : Field := ⟨0x4400C, 0x0, 1, 1, .ro, 0, 0, 1, [], false⟩
def EFU_STAT_DAMAGED : Field := ⟨0x4400C, 0x0, 2, 1, .ro, 0, 0, 1, [], false⟩
def EFU_STAT_FEED_NONE : Field := ⟨0x4400C, 0x0, 3, 1, .ro, 0, 0, 1, [], false⟩
def EFU_STAT_FEED_ALT : Field := ⟨0x4400C, 0x0, 4, 1, .ro, 0, 0, 1, [], false⟩
def EFU_STAT_FET_HOT : Field := ⟨0x4400C, 0x0, 5, 1, .ro, 0, 0, 1, [], false⟩
def EFU_STAT_FEED_STUCK : Field := ⟨0x4400C, 0x0, 6, 1, .ro, 0, 0, 1, [], false⟩
def EFU_FEED_CFG_PAIR_EN : Field := ⟨0x44040, 0x0, 0, 1, .rwk, 0, 0, 1, [], false⟩
def EFU_FEED_CFG_PREF : Field := ⟨0x44040, 0x0, 1, 1, .rwk, 0, 0, 1, [], false⟩
def EFU_FEED_CFG_AUTO_REVERT : Field := ⟨0x44040, 0x0, 2, 1, .rwk, 1, 0, 1, [], false⟩
def EFU_FEED_CFG_VIN_MON_A : Field := ⟨0x44040, 0x0, 8, 5, .rwk, 31, 0, 1, [(0, 23), (31, 31)], false⟩
def EFU_FEED_CFG_VIN_MON_B : Field := ⟨0x44040, 0x0, 16, 5, .rwk, 31, 0, 1, [(0, 23), (31, 31)], false⟩
def EFU_FEED_CFG_I_OFF : Field := ⟨0x44040, 0x0, 24, 8, .rwk, 10, 0, 1, [(1, 255)], false⟩
def EFU_FEED_VWIN_V_MIN : Field := ⟨0x44044, 0x0, 0, 16, .rwk, 4400, 0, 1, [], false⟩
def EFU_FEED_VWIN_V_MAX : Field := ⟨0x44044, 0x0, 16, 16, .rwk, 5900, 0, 1, [], false⟩
def EFU_FEED_TIME_QUAL_MS : Field := ⟨0x44048, 0x0, 0, 12, .rwk, 100, 0, 1, [(1, 4095)], false⟩
def EFU_FEED_TIME_BAD_US : Field := ⟨0x44048, 0x0, 12, 12, .rwk, 200, 0, 1, [(10, 4095)], false⟩
def EFU_FEED_TIME_REVERT_S : Field := ⟨0x44048, 0x0, 24, 8, .rwk, 60, 0, 1, [(1, 255)], false⟩
def EFU_FEED_BBM_BBM_US : Field := ⟨0x4404C, 0x0, 0, 16, .rwk, 50, 0, 1, [(10, 65535)], false⟩
def EFU_FEED_BBM_BBM_MAX_US : Field := ⟨0x4404C, 0x0, 16, 16, .rwk, 2000, 0, 1, [(100, 65535)], false⟩
def EFU_FEED_STAT_SEL : Field := ⟨0x44050, 0x0, 0, 2, .ro, 0, 0, 1, [], false⟩
def EFU_FEED_STAT_A_GOOD : Field := ⟨0x44050, 0x0, 2, 1, .ro, 0, 0, 1, [], false⟩
def EFU_FEED_STAT_B_GOOD : Field := ⟨0x44050, 0x0, 3, 1, .ro, 0, 0, 1, [], false⟩
def EFU_FEED_STAT_STUCK : Field := ⟨0x44050, 0x0, 4, 1, .ro, 0, 0, 1, [], false⟩
def EFU_FEED_STAT_FORCED : Field := ⟨0x44050, 0x0, 5, 1, .ro, 0, 0, 1, [], false⟩
def EFU_FEED_STAT_SWITCHES : Field := ⟨0x44050, 0x0, 16, 16, .ro, 0, 0, 1, [], false⟩
def EFU_SLOT_CFG_PRES_DEB : Field := ⟨0x44054, 0x0, 0, 16, .rwk, 5000, 0, 1, [(100, 50000)], false⟩
def EFU_SLOT_CFG_CLEAR_S : Field := ⟨0x44054, 0x0, 16, 16, .rwk, 60, 0, 1, [(1, 65535)], false⟩
def EFU_MISC_VOUT_RATIO : Field := ⟨0x44058, 0x0, 0, 16, .rwk, 0x3200, 0, 1, [(2560, 51200)], false⟩
def EFU_CMD_CH : Field := ⟨0x4405C, 0x0, 0, 3, .wo, 0, 0, 1, [], false⟩
def EFU_CMD_ON : Field := ⟨0x4405C, 0x0, 8, 1, .cmd, 0, 0, 1, [], false⟩
def EFU_CMD_OFF : Field := ⟨0x4405C, 0x0, 9, 1, .cmd, 0, 0, 1, [], false⟩
def EFU_CMD_CLEAR : Field := ⟨0x4405C, 0x0, 10, 1, .cmd, 0, 0, 1, [], false⟩
def EFU_CMD_FEED_A : Field := ⟨0x4405C, 0x0, 11, 1, .cmd, 0, 0, 1, [], false⟩
def EFU_CMD_FEED_B : Field := ⟨0x4405C, 0x0, 12, 1, .cmd, 0, 0, 1, [], false⟩
def EFU_CMD_FEED_AUTO : Field := ⟨0x4405C, 0x0, 13, 1, .cmd, 0, 0, 1, [], false⟩
def EFU_CH_CFG_EN : Field := ⟨0x44060, 0x2C, 0, 1, .rwk, 0, 0, 1, [], false⟩
def EFU_CH_CFG_FEED : Field := ⟨0x44060, 0x2C, 1, 1, .rwk, 0, 0, 1, [], false⟩
def EFU_CH_CFG_BACKFED : Field := ⟨0x44060, 0x2C, 2, 1, .rwk, 0, 0, 1, [], false⟩
def EFU_CH_CFG_SLOT_EN : Field := ⟨0x44060, 0x2C, 3, 1, .rwk, 0, 0, 1, [], false⟩
def EFU_CH_CFG_PRES_SRC : Field := ⟨0x44060, 0x2C, 4, 1, .rwk, 0, 0, 1, [], false⟩
def EFU_CH_CFG_PRES_POL : Field := ⟨0x44060, 0x2C, 5, 1, .rwk, 0, 0, 1, [], false⟩
def EFU_CH_CFG_AUTO_ON : Field := ⟨0x44060, 0x2C, 6, 1, .rwk, 1, 0, 1, [], false⟩
def EFU_CH_CFG_PRES_IDX : Field := ⟨0x44060, 0x2C, 8, 5, .rwk, 0, 0, 1, [(0, 23)], false⟩
def EFU_CH_CFG_PRES_ENTRY : Field := ⟨0x44060, 0x2C, 16, 10, .rwk, 0, 0, 1, [], false⟩
def EFU_CH_CFG_TMODE : Field := ⟨0x44060, 0x2C, 26, 2, .rwk, 3, 0, 1, [], false⟩
def EFU_CH_CFG_TREF_SRC : Field := ⟨0x44060, 0x2C, 28, 4, .rwk, 15, 0, 1, [(0, 11), (15, 15)], false⟩
def EFU_CH_SCALE_ISNS_G : Field := ⟨0x44064, 0x2C, 0, 16, .rwk, 0x2710, 0, 1, [(100, 65535)], false⟩
def EFU_CH_SCALE_ILIM_G : Field := ⟨0x44064, 0x2C, 16, 16, .rwk, 0x2710, 0, 1, [(100, 65535)], false⟩
def EFU_CH_LIMIT_I_RUN : Field := ⟨0x44068, 0x2C, 0, 16, .rwk, 400, 0, 1, [(10, 65535)], false⟩
def EFU_CH_LIMIT_I_INRUSH : Field := ⟨0x44068, 0x2C, 16, 16, .rwk, 100, 0, 1, [(10, 65535)], false⟩
def EFU_CH_TIME_INRUSH_MS : Field := ⟨0x4406C, 0x2C, 0, 16, .rwk, 50, 0, 1, [(1, 10000)], false⟩
def EFU_CH_TIME_AT_LIM : Field := ⟨0x4406C, 0x2C, 16, 8, .rwk, 95, 0, 1, [(50, 100)], false⟩
def EFU_CH_TIME_OC_MS : Field := ⟨0x4406C, 0x2C, 24, 8, .rwk, 10, 0, 1, [(1, 255)], false⟩
def EFU_CH_RETRY_RETRY_MAX : Field := ⟨0x44070, 0x2C, 0, 4, .rwk, 3, 0, 1, [], false⟩
def EFU_CH_RETRY_RETRY_MS : Field := ⟨0x44070, 0x2C, 8, 24, .rwk, 1000, 0, 1, [(10, 600000)], false⟩
def EFU_CH_LEVELS_V_GOOD : Field := ⟨0x44074, 0x2C, 0, 16, .rwk, 4800, 0, 1, [], false⟩
def EFU_CH_LEVELS_DMG_LVL : Field := ⟨0x44074, 0x2C, 16, 16, .rwk, 500, 0, 1, [], false⟩
def EFU_CH_FET_R_ON : Field := ⟨0x44078, 0x2C, 0, 16, .rwk, 1500, 0, 1, [(1, 65535)], false⟩
def EFU_CH_FET_RTH : Field := ⟨0x44078, 0x2C, 16, 16, .rwk, 2500, 0, 1, [(1, 65535)], false⟩
def EFU_CH_TLIM_T_WARN : Field := ⟨0x4407C, 0x2C, 0, 8, .rwk, 110, 0, 1, [(0, 200)], false⟩
def EFU_CH_TLIM_T_OFF : Field := ⟨0x4407C, 0x2C, 8, 8, .rwk, 125, 0, 1, [(0, 200)], false⟩
def EFU_CH_TLIM_T_HYST : Field := ⟨0x4407C, 0x2C, 16, 8, .rwk, 15, 0, 1, [(1, 50)], false⟩
def EFU_CH_TLIM_TAU : Field := ⟨0x4407C, 0x2C, 24, 8, .rwk, 20, 0, 1, [(1, 255)], false⟩
def EFU_CH_STAT_STATE : Field := ⟨0x44080, 0x2C, 0, 3, .ro, 0, 0, 1, [], false⟩
def EFU_CH_STAT_CAUSE : Field := ⟨0x44080, 0x2C, 3, 4, .ro, 0, 0, 1, [], false⟩
def EFU_CH_STAT_RETRIES : Field := ⟨0x44080, 0x2C, 7, 4, .ro, 0, 0, 1, [], false⟩
def EFU_CH_STAT_MEM : Field := ⟨0x44080, 0x2C, 11, 1, .ro, 0, 0, 1, [], false⟩
def EFU_CH_STAT_PRESENT : Field := ⟨0x44080, 0x2C, 12, 1, .ro, 0, 0, 1, [], false⟩
def EFU_CH_STAT_HOT : Field := ⟨0x44080, 0x2C, 13, 1, .ro, 0, 0, 1, [], false⟩
def EFU_CH_STAT_TSRC : Field := ⟨0x44080, 0x2C, 14, 1, .ro, 0, 0, 1, [], false⟩
def EFU_CH_STAT_ADOPTED : Field := ⟨0x44080, 0x2C, 15, 1, .ro, 0, 0, 1, [], false⟩
def EFU_CH_STAT_REMAIN : Field := ⟨0x44080, 0x2C, 16, 16, .ro, 0, 0, 1, [], false⟩
def EFU_CH_MEAS_I : Field := ⟨0x44084, 0x2C, 0, 16, .ro, 0x8000, 0, 1, [], false⟩
def EFU_CH_MEAS_VOUT : Field := ⟨0x44084, 0x2C, 16, 16, .ro, 0x8000, 0, 1, [], false⟩
def EFU_CH_TEMP_TEMP : Field := ⟨0x44088, 0x2C, 0, 16, .ro, 0x8000, 0, 1, [], false⟩
def EFU_CH_TEMP_TRIPS : Field := ⟨0x44088, 0x2C, 16, 8, .ro, 0, 0, 1, [], false⟩
def EFU_CH_TEMP_INSERTS : Field := ⟨0x44088, 0x2C, 24, 8, .ro, 0, 0, 1, [], false⟩
def EFU_IEN_WAITING : Field := ⟨0x44010, 0x0, 0, 1, .rwk, 0, 0, 1, [], false⟩
def EFU_IEN_FUSE_OUT : Field := ⟨0x44010, 0x0, 1, 1, .rwk, 0, 0, 1, [], false⟩
def EFU_IEN_DAMAGED : Field := ⟨0x44010, 0x0, 2, 1, .rwk, 0, 0, 1, [], false⟩
def EFU_IEN_FEED_NONE : Field := ⟨0x44010, 0x0, 3, 1, .rwk, 0, 0, 1, [], false⟩
def EFU_IEN_FEED_ALT : Field := ⟨0x44010, 0x0, 4, 1, .rwk, 0, 0, 1, [], false⟩
def EFU_IEN_FET_HOT : Field := ⟨0x44010, 0x0, 5, 1, .rwk, 0, 0, 1, [], false⟩
def EFU_IEN_FEED_STUCK : Field := ⟨0x44010, 0x0, 6, 1, .rwk, 0, 0, 1, [], false⟩

def rowsEFUA : List RegRow := [
  ⟨0x44000, 0x0, 1, .s, [], [0x1000011]⟩,
  ⟨0x44004, 0x0, 1, .s, [], [0x60]⟩,
  ⟨0x44008, 0x0, 1, .c, [EFU_CTRL_EN], []⟩,
  ⟨0x4400C, 0x0, 1, .s, [EFU_STAT_WAITING, EFU_STAT_FUSE_OUT, EFU_STAT_DAMAGED, EFU_STAT_FEED_NONE, EFU_STAT_FEED_ALT, EFU_STAT_FET_HOT, EFU_STAT_FEED_STUCK], []⟩,
  ⟨0x44010, 0x0, 1, .c, [EFU_IEN_WAITING, EFU_IEN_FUSE_OUT, EFU_IEN_DAMAGED, EFU_IEN_FEED_NONE, EFU_IEN_FEED_ALT, EFU_IEN_FET_HOT, EFU_IEN_FEED_STUCK], []⟩,
  ⟨0x44014, 0x0, 1, .s, [], []⟩,
  ⟨0x44018, 0x0, 1, .s, [EFU_CFGCRC_CRC], []⟩,
  ⟨0x4401C, 0x0, 1, .c, [EFU_LOCK_LOCK, EFU_LOCK_STICKY], []⟩,
  ⟨0x44040, 0x0, 1, .c, [EFU_FEED_CFG_PAIR_EN, EFU_FEED_CFG_PREF, EFU_FEED_CFG_AUTO_REVERT, EFU_FEED_CFG_VIN_MON_A, EFU_FEED_CFG_VIN_MON_B, EFU_FEED_CFG_I_OFF], []⟩,
  ⟨0x44044, 0x0, 1, .c, [EFU_FEED_VWIN_V_MIN, EFU_FEED_VWIN_V_MAX], []⟩,
  ⟨0x44048, 0x0, 1, .c, [EFU_FEED_TIME_QUAL_MS, EFU_FEED_TIME_BAD_US, EFU_FEED_TIME_REVERT_S], []⟩,
  ⟨0x4404C, 0x0, 1, .c, [EFU_FEED_BBM_BBM_US, EFU_FEED_BBM_BBM_MAX_US], []⟩,
  ⟨0x44050, 0x0, 1, .s, [EFU_FEED_STAT_SEL, EFU_FEED_STAT_A_GOOD, EFU_FEED_STAT_B_GOOD, EFU_FEED_STAT_STUCK, EFU_FEED_STAT_FORCED, EFU_FEED_STAT_SWITCHES], []⟩,
  ⟨0x44054, 0x0, 1, .c, [EFU_SLOT_CFG_PRES_DEB, EFU_SLOT_CFG_CLEAR_S], []⟩,
  ⟨0x44058, 0x0, 1, .c, [EFU_MISC_VOUT_RATIO], []⟩,
  ⟨0x4405C, 0x0, 1, .k, [EFU_CMD_CH, EFU_CMD_ON, EFU_CMD_OFF, EFU_CMD_CLEAR, EFU_CMD_FEED_A, EFU_CMD_FEED_B, EFU_CMD_FEED_AUTO], []⟩,
  ⟨0x44060, 0x2C, 8, .c, [EFU_CH_CFG_EN, EFU_CH_CFG_FEED, EFU_CH_CFG_BACKFED, EFU_CH_CFG_SLOT_EN, EFU_CH_CFG_PRES_SRC, EFU_CH_CFG_PRES_POL, EFU_CH_CFG_AUTO_ON, EFU_CH_CFG_PRES_IDX, EFU_CH_CFG_PRES_ENTRY, EFU_CH_CFG_TMODE, EFU_CH_CFG_TREF_SRC], []⟩,
  ⟨0x44064, 0x2C, 8, .c, [EFU_CH_SCALE_ISNS_G, EFU_CH_SCALE_ILIM_G], []⟩,
  ⟨0x44068, 0x2C, 8, .c, [EFU_CH_LIMIT_I_RUN, EFU_CH_LIMIT_I_INRUSH], []⟩,
  ⟨0x4406C, 0x2C, 8, .c, [EFU_CH_TIME_INRUSH_MS, EFU_CH_TIME_AT_LIM, EFU_CH_TIME_OC_MS], []⟩,
  ⟨0x44070, 0x2C, 8, .c, [EFU_CH_RETRY_RETRY_MAX, EFU_CH_RETRY_RETRY_MS], []⟩,
  ⟨0x44074, 0x2C, 8, .c, [EFU_CH_LEVELS_V_GOOD, EFU_CH_LEVELS_DMG_LVL], []⟩,
  ⟨0x44078, 0x2C, 8, .c, [EFU_CH_FET_R_ON, EFU_CH_FET_RTH], []⟩,
  ⟨0x4407C, 0x2C, 8, .c, [EFU_CH_TLIM_T_WARN, EFU_CH_TLIM_T_OFF, EFU_CH_TLIM_T_HYST, EFU_CH_TLIM_TAU], []⟩]

def rowsEFUB : List RegRow := [
  ⟨0x44080, 0x2C, 8, .s, [EFU_CH_STAT_STATE, EFU_CH_STAT_CAUSE, EFU_CH_STAT_RETRIES, EFU_CH_STAT_MEM, EFU_CH_STAT_PRESENT, EFU_CH_STAT_HOT, EFU_CH_STAT_TSRC, EFU_CH_STAT_ADOPTED, EFU_CH_STAT_REMAIN], []⟩,
  ⟨0x44084, 0x2C, 8, .d, [EFU_CH_MEAS_I, EFU_CH_MEAS_VOUT], []⟩,
  ⟨0x44088, 0x2C, 8, .s, [EFU_CH_TEMP_TEMP, EFU_CH_TEMP_TRIPS, EFU_CH_TEMP_INSERTS], []⟩]

/-- Every register of page 0x11. -/
def rowsEFU : List RegRow := rowsEFUA ++ rowsEFUB

end Sys2Proof.Machine
end

