-- ==== Sys2Proof/Machine/RegsCore.lean ====
section
/-! DEFINITION. The registers of pages SYS, CCK, SES, KLN, NVM, TB, as the register tables of the spec give them: one
definition per field (address, element distance, lowest bit, width, type, reset, repetition, accepted ranges), one
table row per register. The eight header registers of R75 open each page. -/

namespace Sys2Proof.Machine

/-! Page 0x00 SYS: R75 and R18 (01_shelf_model.md), R67 (02_self_timed_fabric.md), R68 (02_self_timed_fabric.md), R94 (03_register_pages.md), R114 (04_startup_greenware.md), R115 (04_startup_greenware.md). -/

def SYS_LOCK_LOCK : Field := ⟨0x0001C, 0x0, 0, 1, .rwk, 0, 0, 1, [], false⟩
def SYS_LOCK_STICKY : Field := ⟨0x0001C, 0x0, 1, 1, .rw, 0, 0, 1, [], false⟩
def SYS_CFGCRC_CRC : Field := ⟨0x00018, 0x0, 0, 32, .ro, 0, 0, 1, [], false⟩
def SYS_SHELF_POWER : Field := ⟨0x00080, 0x0, 0, 3, .ro, 0, 0, 1, [], false⟩
def SYS_SHELF_LEVEL : Field := ⟨0x00080, 0x0, 3, 1, .ro, 0, 0, 1, [], false⟩
def SYS_SHELF_CAPPED : Field := ⟨0x00080, 0x0, 4, 1, .ro, 0, 0, 1, [], false⟩
def SYS_SHELF_DEGRADED : Field := ⟨0x00080, 0x0, 5, 1, .ro, 0, 0, 1, [], false⟩
def SYS_SHELF_DEG_REASON : Field := ⟨0x00080, 0x0, 8, 12, .ro, 0, 0, 1, [], false⟩
def SYS_SHELF_CHG_COUNT : Field := ⟨0x00080, 0x0, 24, 8, .ro, 0, 0, 1, [], false⟩
def SYS_VCORE_CTRL_SCALE_EN : Field := ⟨0x000C0, 0x0, 0, 1, .rwk, 1, 0, 1, [], false⟩
def SYS_VCORE_CTRL_SLACK_TGT : Field := ⟨0x000C0, 0x0, 8, 8, .rwk, 30, 0, 1, [(15, 60)], false⟩
def SYS_VCORE_CTRL_FLOOR : Field := ⟨0x000C0, 0x0, 16, 16, .rwk, 5500, 0, 1, [(5500, 8500)], false⟩
def SYS_VCORE_STAT_VCORE : Field := ⟨0x000C4, 0x0, 0, 16, .ro, 8500, 0, 1, [], false⟩
def SYS_VCORE_STAT_MIN_SLACK : Field := ⟨0x000C4, 0x0, 16, 8, .ro, 255, 0, 1, [], false⟩
def SYS_VCORE_STAT_SETTLED : Field := ⟨0x000C4, 0x0, 24, 1, .ro, 0, 0, 1, [], false⟩
def SYS_VCORE_STAT_FORCED_MAX : Field := ⟨0x000C4, 0x0, 25, 1, .ro, 0, 0, 1, [], false⟩
def SYS_PART_PART : Field := ⟨0x00040, 0x0, 0, 16, .ro, 9484, 0, 1, [], false⟩
def SYS_PART_GRADE : Field := ⟨0x00040, 0x0, 16, 8, .ro, 67, 0, 1, [], false⟩
def SYS_PART_FAMILY : Field := ⟨0x00040, 0x0, 24, 8, .ro, 1, 0, 1, [], false⟩
def SYS_SILREV_MINOR : Field := ⟨0x00044, 0x0, 0, 8, .ro, 0, 0, 1, [], false⟩
def SYS_SILREV_MAJOR : Field := ⟨0x00044, 0x0, 8, 8, .ro, 0, 0, 1, [], false⟩
def SYS_SILREV_ROM : Field := ⟨0x00044, 0x0, 16, 16, .ro, 0, 0, 1, [], false⟩
def SYS_UID_LO_UID_LO : Field := ⟨0x00048, 0x0, 0, 32, .ro, 1, 0, 1, [], false⟩
def SYS_UID_HI_UID_HI : Field := ⟨0x0004C, 0x0, 0, 32, .ro, 0, 0, 1, [], false⟩
def SYS_ALIAS_IGN_IGN : Field := ⟨0x00050, 0x0, 0, 32, .ro, 0, 0, 1, [], false⟩
def SYS_ACC_ERR_UNMAPPED : Field := ⟨0x00054, 0x0, 0, 8, .ro, 0, 0, 1, [], false⟩
def SYS_ACC_ERR_UNALIGNED : Field := ⟨0x00054, 0x0, 8, 8, .ro, 0, 0, 1, [], false⟩
def SYS_ACC_ERR_LOCKED : Field := ⟨0x00054, 0x0, 16, 8, .ro, 0, 0, 1, [], false⟩
def SYS_ACC_ERR_ROLE : Field := ⟨0x00054, 0x0, 24, 8, .ro, 0, 0, 1, [], false⟩
def SYS_IRQ_PAGES_PAGES : Field := ⟨0x00058, 0x0, 0, 31, .ro, 0, 0, 1, [], false⟩
def SYS_CTRL_CORE_RST_EN : Field := ⟨0x00008, 0x0, 0, 1, .rwk, 1, 0, 1, [], false⟩
def SYS_STAT_GREENWARE : Field := ⟨0x0000C, 0x0, 0, 1, .ro, 1, 0, 1, [], false⟩
def SYS_STAT_OUT_HOLD : Field := ⟨0x0000C, 0x0, 1, 1, .ro, 0, 0, 1, [], false⟩
def SYS_STAT_KILN_BLANK : Field := ⟨0x0000C, 0x0, 2, 1, .ro, 0, 0, 1, [], false⟩
def SYS_STAT_STRAP_UNSTABLE : Field := ⟨0x0000C, 0x0, 3, 1, .ro, 0, 0, 1, [], false⟩
def SYS_STAT_SUPPLY_LOW : Field := ⟨0x0000C, 0x0, 4, 1, .ro, 0, 0, 1, [], false⟩
def SYS_STAT_CAL_FAIL : Field := ⟨0x0000C, 0x0, 5, 1, .ro, 0, 0, 1, [], false⟩
def SYS_STAT_NO_FW : Field := ⟨0x0000C, 0x0, 6, 1, .ro, 0, 0, 1, [], false⟩
def SYS_RST_CAUSE_CAUSE : Field := ⟨0x0005C, 0x0, 0, 2, .ro, 0, 0, 1, [], false⟩
def SYS_RST_CAUSE_PREV_HALT : Field := ⟨0x0005C, 0x0, 2, 1, .ro, 0, 0, 1, [], false⟩
def SYS_STRAP_LATCHED : Field := ⟨0x00060, 0x0, 0, 6, .ro, 0, 0, 1, [], false⟩
def SYS_STRAP_NOW : Field := ⟨0x00060, 0x0, 8, 6, .ro, 0, 0, 1, [], false⟩
def SYS_STRAP_UNSTABLE : Field := ⟨0x00060, 0x0, 16, 1, .ro, 0, 0, 1, [], false⟩
def SYS_BOOT_STAT_DONE : Field := ⟨0x00064, 0x0, 0, 6, .ro, 0, 0, 1, [], false⟩
def SYS_T_KILN_TICK : Field := ⟨0x00068, 0x0, 0, 32, .ro, 0xffffffff, 0, 1, [], false⟩
def SYS_T_GW_TICK : Field := ⟨0x0006C, 0x0, 0, 32, .ro, 0xffffffff, 0, 1, [], false⟩
def SYS_T_CAL_TICK : Field := ⟨0x00070, 0x0, 0, 32, .ro, 0xffffffff, 0, 1, [], false⟩
def SYS_T_FW_TICK : Field := ⟨0x00074, 0x0, 0, 32, .ro, 0xffffffff, 0, 1, [], false⟩
def SYS_T_ACC_TICK : Field := ⟨0x00078, 0x0, 0, 32, .ro, 0xffffffff, 0, 1, [], false⟩
def SYS_T_FULL_TICK : Field := ⟨0x0007C, 0x0, 0, 32, .ro, 0xffffffff, 0, 1, [], false⟩
def SYS_SUPPLY_STAT_GOOD : Field := ⟨0x00084, 0x0, 0, 6, .ro, 0, 0, 1, [], false⟩
def SYS_SUPPLY_STAT_VIO_3V3 : Field := ⟨0x00084, 0x0, 6, 2, .ro, 0, 0, 1, [], false⟩
def SYS_VIN_MEAS_V : Field := ⟨0x00088, 0x0, 0, 32, .ro, 0x80000000, 0, 1, [], false⟩
def SYS_VDDA_MEAS_V : Field := ⟨0x0008C, 0x0, 0, 32, .ro, 0x80000000, 0, 1, [], false⟩
def SYS_VIOA_MEAS_V : Field := ⟨0x00090, 0x0, 0, 32, .ro, 0x80000000, 0, 1, [], false⟩
def SYS_VIOB_MEAS_V : Field := ⟨0x00094, 0x0, 0, 32, .ro, 0x80000000, 0, 1, [], false⟩
def SYS_VSD_MEAS_V : Field := ⟨0x00098, 0x0, 0, 32, .ro, 0x80000000, 0, 1, [], false⟩
def SYS_VKEEP_MEAS_V : Field := ⟨0x0009C, 0x0, 0, 32, .ro, 0x80000000, 0, 1, [], false⟩
def SYS_GW_CTRL_BLEND : Field := ⟨0x000A0, 0x0, 0, 16, .rwk, 100, 0, 1, [(10, 1000)], false⟩
def SYS_CAL_STAT_RUNNING : Field := ⟨0x000A4, 0x0, 0, 1, .ro, 0, 0, 1, [], false⟩
def SYS_CAL_STAT_FAILED_LAST : Field := ⟨0x000A4, 0x0, 1, 1, .ro, 0, 0, 1, [], false⟩
def SYS_CAL_STAT_ATTEMPTS : Field := ⟨0x000A4, 0x0, 8, 8, .ro, 0, 0, 1, [], false⟩
def SYS_CAL_STAT_LAST_MS : Field := ⟨0x000A4, 0x0, 16, 16, .ro, 0, 0, 1, [], false⟩
def SYS_CAL_CMD_RETRY : Field := ⟨0x000A8, 0x0, 0, 1, .cmd, 0, 0, 1, [], false⟩
def SYS_OUT_HOLD_RELEASE : Field := ⟨0x000AC, 0x0, 0, 1, .cmd, 0, 0, 1, [], false⟩
def SYS_FW_STAT_ACTIVE_SLOT : Field := ⟨0x000B0, 0x0, 0, 1, .ro, 0, 0, 1, [], false⟩
def SYS_FW_STAT_SLOT_OK : Field := ⟨0x000B0, 0x0, 1, 2, .ro, 0, 0, 1, [], false⟩
def SYS_FW_STAT_NO_FW : Field := ⟨0x000B0, 0x0, 3, 1, .ro, 0, 0, 1, [], false⟩
def SYS_FW_STAT_BOOT_MS : Field := ⟨0x000B0, 0x0, 8, 8, .ro, 0, 0, 1, [], false⟩
def SYS_RESET_CMD_KEY : Field := ⟨0x000B4, 0x0, 0, 16, .wo, 0, 0, 1, [], false⟩
def SYS_RESET_CMD_CORE_RESTART : Field := ⟨0x000B4, 0x0, 16, 1, .cmd, 0, 0, 1, [], false⟩
def SYS_LEVEL_CNT_GW_RETURNS : Field := ⟨0x000B8, 0x0, 0, 16, .ro, 0, 0, 1, [], false⟩
def SYS_LEVEL_CNT_CORE_RESTARTS : Field := ⟨0x000B8, 0x0, 16, 16, .ro, 0, 0, 1, [], false⟩
def SYS_RSTIN_CTRL_DEBOUNCE : Field := ⟨0x000BC, 0x0, 0, 16, .rwk, 100, 0, 1, [(10, 10000)], false⟩
def SYS_ADOPT_EF_EF : Field := ⟨0x000C8, 0x0, 0, 8, .ro, 0, 0, 1, [], false⟩
def SYS_ADOPT_EF_STR : Field := ⟨0x000C8, 0x0, 8, 8, .ro, 0, 0, 1, [], false⟩
def SYS_ADOPT_RAIL_RAIL : Field := ⟨0x000CC, 0x0, 0, 24, .ro, 0, 0, 1, [], false⟩
def SYS_BROWNOUT_CNT_COUNT : Field := ⟨0x000D0, 0x0, 0, 32, .ro, 0, 0, 1, [], false⟩
def SYS_SCRATCH0_DATA : Field := ⟨0x000D4, 0x0, 0, 32, .rw, 0, 0, 1, [], false⟩
def SYS_SCRATCH1_DATA : Field := ⟨0x000D8, 0x0, 0, 32, .rw, 0, 0, 1, [], false⟩
def SYS_ADOPT_CTRL_EF_EN : Field := ⟨0x000DC, 0x0, 0, 1, .rwk, 1, 0, 1, [], false⟩
def SYS_ADOPT_CTRL_RAIL_EN : Field := ⟨0x000DC, 0x0, 1, 1, .rwk, 1, 0, 1, [], false⟩
def SYS_ADOPT_CTRL_STR_EN : Field := ⟨0x000DC, 0x0, 2, 1, .rwk, 1, 0, 1, [], false⟩
def SYS_IEN_GREENWARE : Field := ⟨0x00010, 0x0, 0, 1, .rwk, 0, 0, 1, [], false⟩
def SYS_IEN_OUT_HOLD : Field := ⟨0x00010, 0x0, 1, 1, .rwk, 0, 0, 1, [], false⟩
def SYS_IEN_KILN_BLANK : Field := ⟨0x00010, 0x0, 2, 1, .rwk, 0, 0, 1, [], false⟩
def SYS_IEN_STRAP_UNSTABLE : Field := ⟨0x00010, 0x0, 3, 1, .rwk, 0, 0, 1, [], false⟩
def SYS_IEN_SUPPLY_LOW : Field := ⟨0x00010, 0x0, 4, 1, .rwk, 0, 0, 1, [], false⟩
def SYS_IEN_CAL_FAIL : Field := ⟨0x00010, 0x0, 5, 1, .rwk, 0, 0, 1, [], false⟩
def SYS_IEN_NO_FW : Field := ⟨0x00010, 0x0, 6, 1, .rwk, 0, 0, 1, [], false⟩

def rowsSYSA : List RegRow := [
  ⟨0x00000, 0x0, 1, .s, [], [0x1000000]⟩,
  ⟨0x00004, 0x0, 1, .s, [], [0x28]⟩,
  ⟨0x00008, 0x0, 1, .c, [SYS_CTRL_CORE_RST_EN], []⟩,
  ⟨0x0000C, 0x0, 1, .s, [SYS_STAT_GREENWARE, SYS_STAT_OUT_HOLD, SYS_STAT_KILN_BLANK, SYS_STAT_STRAP_UNSTABLE, SYS_STAT_SUPPLY_LOW, SYS_STAT_CAL_FAIL, SYS_STAT_NO_FW], []⟩,
  ⟨0x00010, 0x0, 1, .c, [SYS_IEN_GREENWARE, SYS_IEN_OUT_HOLD, SYS_IEN_KILN_BLANK, SYS_IEN_STRAP_UNSTABLE, SYS_IEN_SUPPLY_LOW, SYS_IEN_CAL_FAIL, SYS_IEN_NO_FW], []⟩,
  ⟨0x00014, 0x0, 1, .s, [], []⟩,
  ⟨0x00018, 0x0, 1, .s, [SYS_CFGCRC_CRC], []⟩,
  ⟨0x0001C, 0x0, 1, .c, [SYS_LOCK_LOCK, SYS_LOCK_STICKY], []⟩,
  ⟨0x00080, 0x0, 1, .s, [SYS_SHELF_POWER, SYS_SHELF_LEVEL, SYS_SHELF_CAPPED, SYS_SHELF_DEGRADED, SYS_SHELF_DEG_REASON, SYS_SHELF_CHG_COUNT], []⟩,
  ⟨0x000C0, 0x0, 1, .c, [SYS_VCORE_CTRL_SCALE_EN, SYS_VCORE_CTRL_SLACK_TGT, SYS_VCORE_CTRL_FLOOR], []⟩,
  ⟨0x000C4, 0x0, 1, .s, [SYS_VCORE_STAT_VCORE, SYS_VCORE_STAT_MIN_SLACK, SYS_VCORE_STAT_SETTLED, SYS_VCORE_STAT_FORCED_MAX], []⟩,
  ⟨0x00040, 0x0, 1, .s, [SYS_PART_PART, SYS_PART_GRADE, SYS_PART_FAMILY], []⟩,
  ⟨0x00044, 0x0, 1, .s, [SYS_SILREV_MINOR, SYS_SILREV_MAJOR, SYS_SILREV_ROM], []⟩,
  ⟨0x00048, 0x0, 1, .s, [SYS_UID_LO_UID_LO], []⟩,
  ⟨0x0004C, 0x0, 1, .s, [SYS_UID_HI_UID_HI], []⟩,
  ⟨0x00050, 0x0, 1, .s, [SYS_ALIAS_IGN_IGN], []⟩,
  ⟨0x00054, 0x0, 1, .s, [SYS_ACC_ERR_UNMAPPED, SYS_ACC_ERR_UNALIGNED, SYS_ACC_ERR_LOCKED, SYS_ACC_ERR_ROLE], []⟩,
  ⟨0x00058, 0x0, 1, .s, [SYS_IRQ_PAGES_PAGES], []⟩,
  ⟨0x0005C, 0x0, 1, .s, [SYS_RST_CAUSE_CAUSE, SYS_RST_CAUSE_PREV_HALT], []⟩,
  ⟨0x00060, 0x0, 1, .s, [SYS_STRAP_LATCHED, SYS_STRAP_NOW, SYS_STRAP_UNSTABLE], []⟩,
  ⟨0x00064, 0x0, 1, .s, [SYS_BOOT_STAT_DONE], []⟩,
  ⟨0x00068, 0x0, 1, .s, [SYS_T_KILN_TICK], []⟩,
  ⟨0x0006C, 0x0, 1, .s, [SYS_T_GW_TICK], []⟩,
  ⟨0x00070, 0x0, 1, .s, [SYS_T_CAL_TICK], []⟩]

def rowsSYSB : List RegRow := [
  ⟨0x00074, 0x0, 1, .s, [SYS_T_FW_TICK], []⟩,
  ⟨0x00078, 0x0, 1, .s, [SYS_T_ACC_TICK], []⟩,
  ⟨0x0007C, 0x0, 1, .s, [SYS_T_FULL_TICK], []⟩,
  ⟨0x00084, 0x0, 1, .s, [SYS_SUPPLY_STAT_GOOD, SYS_SUPPLY_STAT_VIO_3V3], []⟩,
  ⟨0x00088, 0x0, 1, .d, [SYS_VIN_MEAS_V], []⟩,
  ⟨0x0008C, 0x0, 1, .d, [SYS_VDDA_MEAS_V], []⟩,
  ⟨0x00090, 0x0, 1, .d, [SYS_VIOA_MEAS_V], []⟩,
  ⟨0x00094, 0x0, 1, .d, [SYS_VIOB_MEAS_V], []⟩,
  ⟨0x00098, 0x0, 1, .d, [SYS_VSD_MEAS_V], []⟩,
  ⟨0x0009C, 0x0, 1, .d, [SYS_VKEEP_MEAS_V], []⟩,
  ⟨0x000A0, 0x0, 1, .c, [SYS_GW_CTRL_BLEND], []⟩,
  ⟨0x000A4, 0x0, 1, .s, [SYS_CAL_STAT_RUNNING, SYS_CAL_STAT_FAILED_LAST, SYS_CAL_STAT_ATTEMPTS, SYS_CAL_STAT_LAST_MS], []⟩,
  ⟨0x000A8, 0x0, 1, .k, [SYS_CAL_CMD_RETRY], []⟩,
  ⟨0x000AC, 0x0, 1, .k, [SYS_OUT_HOLD_RELEASE], []⟩,
  ⟨0x000B0, 0x0, 1, .s, [SYS_FW_STAT_ACTIVE_SLOT, SYS_FW_STAT_SLOT_OK, SYS_FW_STAT_NO_FW, SYS_FW_STAT_BOOT_MS], []⟩,
  ⟨0x000B4, 0x0, 1, .k, [SYS_RESET_CMD_KEY, SYS_RESET_CMD_CORE_RESTART], []⟩,
  ⟨0x000B8, 0x0, 1, .s, [SYS_LEVEL_CNT_GW_RETURNS, SYS_LEVEL_CNT_CORE_RESTARTS], []⟩,
  ⟨0x000BC, 0x0, 1, .c, [SYS_RSTIN_CTRL_DEBOUNCE], []⟩,
  ⟨0x000C8, 0x0, 1, .s, [SYS_ADOPT_EF_EF, SYS_ADOPT_EF_STR], []⟩,
  ⟨0x000CC, 0x0, 1, .s, [SYS_ADOPT_RAIL_RAIL], []⟩,
  ⟨0x000D0, 0x0, 1, .s, [SYS_BROWNOUT_CNT_COUNT], []⟩,
  ⟨0x000D4, 0x0, 1, .d, [SYS_SCRATCH0_DATA], []⟩,
  ⟨0x000D8, 0x0, 1, .d, [SYS_SCRATCH1_DATA], []⟩,
  ⟨0x000DC, 0x0, 1, .c, [SYS_ADOPT_CTRL_EF_EN, SYS_ADOPT_CTRL_RAIL_EN, SYS_ADOPT_CTRL_STR_EN], []⟩]

/-- Every register of page 0x00. -/
def rowsSYS : List RegRow := rowsSYSA ++ rowsSYSB

/-! Page 0x01 CCK: R75 and R92 (03_register_pages.md), R93 (03_register_pages.md). -/

def CCK_LOCK_LOCK : Field := ⟨0x0401C, 0x0, 0, 1, .rwk, 0, 0, 1, [], false⟩
def CCK_LOCK_STICKY : Field := ⟨0x0401C, 0x0, 1, 1, .rw, 0, 0, 1, [], false⟩
def CCK_CFGCRC_CRC : Field := ⟨0x04018, 0x0, 0, 32, .ro, 0, 0, 1, [], false⟩
def CCK_CTRL_EN : Field := ⟨0x04008, 0x0, 0, 1, .rwk, 1, 0, 1, [], false⟩
def CCK_STAT_MISMATCH : Field := ⟨0x0400C, 0x0, 0, 1, .ro, 0, 0, 1, [], false⟩
def CCK_STAT_CORRUPT : Field := ⟨0x0400C, 0x0, 1, 1, .ro, 0, 0, 1, [], false⟩
def CCK_STAT_PENDING : Field := ⟨0x0400C, 0x0, 2, 1, .ro, 0, 0, 1, [], false⟩
def CCK_STAT_COMMIT_BUSY : Field := ⟨0x0400C, 0x0, 3, 1, .ro, 0, 0, 1, [], false⟩
def CCK_STAT_REF_VALID : Field := ⟨0x0400C, 0x0, 4, 1, .ro, 0, 0, 1, [], false⟩
def CCK_REF_REF : Field := ⟨0x04040, 0x0, 0, 32, .ro, 0, 0, 1, [], false⟩
def CCK_CUR_CUR : Field := ⟨0x04044, 0x0, 0, 32, .ro, 0, 0, 1, [], false⟩
def CCK_CMD_COMMIT : Field := ⟨0x04048, 0x0, 0, 1, .cmd, 0, 0, 1, [], false⟩
def CCK_WR_MASK_WR : Field := ⟨0x0404C, 0x0, 0, 31, .ro, 0, 0, 1, [], false⟩
def CCK_MIS_MASK_MIS : Field := ⟨0x04050, 0x0, 0, 31, .ro, 0, 0, 1, [], false⟩
def CCK_CORRUPT_MASK_COR : Field := ⟨0x04054, 0x0, 0, 31, .ro, 0, 0, 1, [], false⟩
def CCK_SCAN_CNT_SCANS : Field := ⟨0x04058, 0x0, 0, 32, .ro, 0, 0, 1, [], false⟩
def CCK_SCAN_TIME_LAST : Field := ⟨0x0405C, 0x0, 0, 16, .ro, 0, 0, 1, [], false⟩
def CCK_SCAN_TIME_MAX : Field := ⟨0x0405C, 0x0, 16, 16, .ro, 0, 0, 1, [], false⟩
def CCK_MIS_CNT_MIS_SCANS : Field := ⟨0x04060, 0x0, 0, 16, .ro, 0, 0, 1, [], false⟩
def CCK_MIS_CNT_CORRUPTS : Field := ⟨0x04060, 0x0, 16, 16, .ro, 0, 0, 1, [], false⟩
def CCK_REPEAT_CNT_REPEATS : Field := ⟨0x04064, 0x0, 0, 32, .ro, 0, 0, 1, [], false⟩
def CCK_COMMIT_CNT_COMMITS : Field := ⟨0x04068, 0x0, 0, 16, .ro, 0, 0, 1, [], false⟩
def CCK_COMMIT_CNT_COMMIT_REFUSED : Field := ⟨0x04068, 0x0, 16, 16, .ro, 0, 0, 1, [], false⟩
def CCK_COMMIT_TICK_TICK : Field := ⟨0x0406C, 0x0, 0, 32, .ro, 0, 0, 1, [], false⟩
def CCK_LOCK_MASK_LOCKED : Field := ⟨0x04070, 0x0, 0, 31, .ro, 0, 0, 1, [], false⟩
def CCK_LOCK_REJ_REJ : Field := ⟨0x04074, 0x0, 0, 32, .ro, 0, 0, 1, [], false⟩
def CCK_ACTION_RELOAD : Field := ⟨0x04078, 0x0, 0, 1, .rwk, 0, 0, 1, [], false⟩
def CCK_REF_BAKED_REF_BAKED : Field := ⟨0x0407C, 0x0, 0, 32, .ro, 0, 0, 1, [], false⟩
def CCK_IEN_MISMATCH : Field := ⟨0x04010, 0x0, 0, 1, .rwk, 0, 0, 1, [], false⟩
def CCK_IEN_CORRUPT : Field := ⟨0x04010, 0x0, 1, 1, .rwk, 0, 0, 1, [], false⟩
def CCK_IEN_PENDING : Field := ⟨0x04010, 0x0, 2, 1, .rwk, 0, 0, 1, [], false⟩
def CCK_IEN_COMMIT_BUSY : Field := ⟨0x04010, 0x0, 3, 1, .rwk, 0, 0, 1, [], false⟩
def CCK_IEN_REF_VALID : Field := ⟨0x04010, 0x0, 4, 1, .rwk, 0, 0, 1, [], false⟩

def rowsCCKA : List RegRow := [
  ⟨0x04000, 0x0, 1, .s, [], [0x1000001]⟩,
  ⟨0x04004, 0x0, 1, .s, [], [0x10]⟩,
  ⟨0x04008, 0x0, 1, .c, [CCK_CTRL_EN], []⟩,
  ⟨0x0400C, 0x0, 1, .s, [CCK_STAT_MISMATCH, CCK_STAT_CORRUPT, CCK_STAT_PENDING, CCK_STAT_COMMIT_BUSY, CCK_STAT_REF_VALID], []⟩,
  ⟨0x04010, 0x0, 1, .c, [CCK_IEN_MISMATCH, CCK_IEN_CORRUPT, CCK_IEN_PENDING, CCK_IEN_COMMIT_BUSY, CCK_IEN_REF_VALID], []⟩,
  ⟨0x04014, 0x0, 1, .s, [], []⟩,
  ⟨0x04018, 0x0, 1, .s, [CCK_CFGCRC_CRC], []⟩,
  ⟨0x0401C, 0x0, 1, .c, [CCK_LOCK_LOCK, CCK_LOCK_STICKY], []⟩,
  ⟨0x04040, 0x0, 1, .s, [CCK_REF_REF], []⟩,
  ⟨0x04044, 0x0, 1, .s, [CCK_CUR_CUR], []⟩,
  ⟨0x04048, 0x0, 1, .k, [CCK_CMD_COMMIT], []⟩,
  ⟨0x0404C, 0x0, 1, .s, [CCK_WR_MASK_WR], []⟩,
  ⟨0x04050, 0x0, 1, .s, [CCK_MIS_MASK_MIS], []⟩,
  ⟨0x04054, 0x0, 1, .s, [CCK_CORRUPT_MASK_COR], []⟩,
  ⟨0x04058, 0x0, 1, .s, [CCK_SCAN_CNT_SCANS], []⟩,
  ⟨0x0405C, 0x0, 1, .s, [CCK_SCAN_TIME_LAST, CCK_SCAN_TIME_MAX], []⟩,
  ⟨0x04060, 0x0, 1, .s, [CCK_MIS_CNT_MIS_SCANS, CCK_MIS_CNT_CORRUPTS], []⟩,
  ⟨0x04064, 0x0, 1, .s, [CCK_REPEAT_CNT_REPEATS], []⟩,
  ⟨0x04068, 0x0, 1, .s, [CCK_COMMIT_CNT_COMMITS, CCK_COMMIT_CNT_COMMIT_REFUSED], []⟩,
  ⟨0x0406C, 0x0, 1, .s, [CCK_COMMIT_TICK_TICK], []⟩,
  ⟨0x04070, 0x0, 1, .s, [CCK_LOCK_MASK_LOCKED], []⟩,
  ⟨0x04074, 0x0, 1, .s, [CCK_LOCK_REJ_REJ], []⟩,
  ⟨0x04078, 0x0, 1, .c, [CCK_ACTION_RELOAD], []⟩,
  ⟨0x0407C, 0x0, 1, .s, [CCK_REF_BAKED_REF_BAKED], []⟩]

/-- Every register of page 0x01. -/
def rowsCCK : List RegRow := rowsCCKA

/-! Page 0x02 SES: R75 and R502 (20_host_access_sessions.md), R503 (20_host_access_sessions.md). -/

def SES_LOCK_LOCK : Field := ⟨0x0801C, 0x0, 0, 1, .rwk, 0, 0, 1, [], false⟩
def SES_LOCK_STICKY : Field := ⟨0x0801C, 0x0, 1, 1, .rw, 0, 0, 1, [], false⟩
def SES_CFGCRC_CRC : Field := ⟨0x08018, 0x0, 0, 32, .ro, 0, 0, 1, [], false⟩
def SES_STAT_PROVISIONING : Field := ⟨0x0800C, 0x0, 0, 1, .ro, 1, 0, 1, [], false⟩
def SES_STAT_SPI_SESSION : Field := ⟨0x0800C, 0x0, 1, 1, .ro, 0, 0, 1, [], false⟩
def SES_STAT_LOCKOUT : Field := ⟨0x0800C, 0x0, 2, 1, .ro, 0, 0, 1, [], false⟩
def SES_STAT_FULL : Field := ⟨0x0800C, 0x0, 3, 1, .ro, 0, 0, 1, [], false⟩
def SES_CFG_IDLE_S : Field := ⟨0x08040, 0x0, 0, 16, .rwk, 600, 0, 1, [(10, 65535)], false⟩
def SES_CFG_NONCE_S : Field := ⟨0x08040, 0x0, 16, 8, .rwk, 10, 0, 1, [(1, 60)], false⟩
def SES_KEY_SEL_SLOT : Field := ⟨0x08044, 0x0, 0, 3, .wo, 0, 0, 1, [], false⟩
def SES_KEY_SEL_WORD : Field := ⟨0x08044, 0x0, 4, 3, .wo, 0, 0, 1, [], false⟩
def SES_KEY_SEL_ERASE : Field := ⟨0x08044, 0x0, 8, 1, .cmd, 0, 0, 1, [], false⟩
def SES_KEY_SEL_COMMIT : Field := ⟨0x08044, 0x0, 9, 1, .cmd, 0, 0, 1, [], false⟩
def SES_KEY_DATA_DATA : Field := ⟨0x08048, 0x0, 0, 32, .wo, 0, 0, 1, [], false⟩
def SES_OPEN_SLOT : Field := ⟨0x0804C, 0x0, 0, 3, .wo, 0, 0, 1, [], false⟩
def SES_OPEN_ROLE : Field := ⟨0x0804C, 0x0, 4, 2, .wo, 0, 0, 1, [], false⟩
def SES_OPEN_START : Field := ⟨0x0804C, 0x0, 8, 1, .cmd, 0, 0, 1, [], false⟩
def SES_OPEN_CLOSE : Field := ⟨0x0804C, 0x0, 9, 1, .cmd, 0, 0, 1, [], false⟩
def SES_NONCE_NONCE : Field := ⟨0x08050, 0x4, 0, 32, .ro, 0, 0, 1, [], false⟩
def SES_RESP_RESP : Field := ⟨0x08060, 0x4, 0, 32, .wo, 0, 0, 1, [], false⟩
def SES_KEY_CFG_MAX_ROLE : Field := ⟨0x08070, 0x8, 0, 2, .rwk, 0, 0, 1, [], false⟩
def SES_KEY_CFG_PORTS : Field := ⟨0x08070, 0x8, 2, 3, .rwk, 7, 0, 1, [], false⟩
def SES_KEY_CFG_WIT : Field := ⟨0x08070, 0x8, 5, 1, .rwk, 0, 0, 1, [], false⟩
def SES_KEY_STAT_VALID : Field := ⟨0x08074, 0x8, 0, 1, .ro, 0, 0, 1, [], false⟩
def SES_KEY_STAT_OPEN_NOW : Field := ⟨0x08074, 0x8, 8, 8, .ro, 0, 0, 1, [], false⟩
def SES_KEY_STAT_FAILS : Field := ⟨0x08074, 0x8, 16, 16, .ro, 0, 0, 1, [], false⟩
def SES_SESS_ROLE : Field := ⟨0x080B0, 0x4, 0, 2, .ro, 0, 0, 1, [], false⟩
def SES_SESS_PORT : Field := ⟨0x080B0, 0x4, 2, 2, .ro, 0, 0, 1, [], false⟩
def SES_SESS_SLOT : Field := ⟨0x080B0, 0x4, 4, 3, .ro, 0, 0, 1, [], false⟩
def SES_SESS_SUBSCRIBED : Field := ⟨0x080B0, 0x4, 7, 1, .ro, 0, 0, 1, [], false⟩
def SES_SESS_IDLE : Field := ⟨0x080B0, 0x4, 16, 16, .ro, 0, 0, 1, [], false⟩
def SES_IEN_PROVISIONING : Field := ⟨0x08010, 0x0, 0, 1, .rwk, 0, 0, 1, [], false⟩
def SES_IEN_SPI_SESSION : Field := ⟨0x08010, 0x0, 1, 1, .rwk, 0, 0, 1, [], false⟩
def SES_IEN_LOCKOUT : Field := ⟨0x08010, 0x0, 2, 1, .rwk, 0, 0, 1, [], false⟩
def SES_IEN_FULL : Field := ⟨0x08010, 0x0, 3, 1, .rwk, 0, 0, 1, [], false⟩

def rowsSESA : List RegRow := [
  ⟨0x08000, 0x0, 1, .s, [], [0x1000002]⟩,
  ⟨0x08004, 0x0, 1, .s, [], [0x24]⟩,
  ⟨0x08008, 0x0, 1, .c, [], []⟩,
  ⟨0x0800C, 0x0, 1, .s, [SES_STAT_PROVISIONING, SES_STAT_SPI_SESSION, SES_STAT_LOCKOUT, SES_STAT_FULL], []⟩,
  ⟨0x08010, 0x0, 1, .c, [SES_IEN_PROVISIONING, SES_IEN_SPI_SESSION, SES_IEN_LOCKOUT, SES_IEN_FULL], []⟩,
  ⟨0x08014, 0x0, 1, .s, [], []⟩,
  ⟨0x08018, 0x0, 1, .s, [SES_CFGCRC_CRC], []⟩,
  ⟨0x0801C, 0x0, 1, .c, [SES_LOCK_LOCK, SES_LOCK_STICKY], []⟩,
  ⟨0x08040, 0x0, 1, .c, [SES_CFG_IDLE_S, SES_CFG_NONCE_S], []⟩,
  ⟨0x08044, 0x0, 1, .k, [SES_KEY_SEL_SLOT, SES_KEY_SEL_WORD, SES_KEY_SEL_ERASE, SES_KEY_SEL_COMMIT], []⟩,
  ⟨0x08048, 0x0, 1, .k, [SES_KEY_DATA_DATA], []⟩,
  ⟨0x0804C, 0x0, 1, .k, [SES_OPEN_SLOT, SES_OPEN_ROLE, SES_OPEN_START, SES_OPEN_CLOSE], []⟩,
  ⟨0x08050, 0x4, 4, .s, [SES_NONCE_NONCE], []⟩,
  ⟨0x08060, 0x4, 4, .k, [SES_RESP_RESP], []⟩,
  ⟨0x08070, 0x8, 8, .c, [SES_KEY_CFG_MAX_ROLE, SES_KEY_CFG_PORTS, SES_KEY_CFG_WIT], []⟩,
  ⟨0x08074, 0x8, 8, .s, [SES_KEY_STAT_VALID, SES_KEY_STAT_OPEN_NOW, SES_KEY_STAT_FAILS], []⟩,
  ⟨0x080B0, 0x4, 8, .s, [SES_SESS_ROLE, SES_SESS_PORT, SES_SESS_SLOT, SES_SESS_SUBSCRIBED, SES_SESS_IDLE], []⟩]

/-- Every register of page 0x02. -/
def rowsSES : List RegRow := rowsSESA

/-! Page 0x03 KLN: R75 and R546 (23_kiln_nvm.md), R547 (23_kiln_nvm.md). -/

def KLN_LOCK_LOCK : Field := ⟨0x0C01C, 0x0, 0, 1, .rwk, 0, 0, 1, [], false⟩
def KLN_LOCK_STICKY : Field := ⟨0x0C01C, 0x0, 1, 1, .rw, 0, 0, 1, [], false⟩
def KLN_CFGCRC_CRC : Field := ⟨0x0C018, 0x0, 0, 32, .ro, 0, 0, 1, [], false⟩
def KLN_STAT_BLANK : Field := ⟨0x0C00C, 0x0, 0, 1, .ro, 0, 0, 1, [], false⟩
def KLN_STAT_BUSY : Field := ⟨0x0C00C, 0x0, 1, 1, .ro, 0, 0, 1, [], false⟩
def KLN_STAT_ONE_COPY : Field := ⟨0x0C00C, 0x0, 2, 1, .ro, 0, 0, 1, [], false⟩
def KLN_STAT_IGNORED : Field := ⟨0x0C00C, 0x0, 3, 1, .ro, 0, 0, 1, [], false⟩
def KLN_STAT_FORMAT_UNKNOWN : Field := ⟨0x0C00C, 0x0, 4, 1, .ro, 0, 0, 1, [], false⟩
def KLN_STAT_NEAR_FULL : Field := ⟨0x0C00C, 0x0, 5, 1, .ro, 0, 0, 1, [], false⟩
def KLN_CMD_BAKE : Field := ⟨0x0C040, 0x0, 0, 1, .cmd, 0, 0, 1, [], false⟩
def KLN_RESULT_RESULT : Field := ⟨0x0C044, 0x0, 0, 4, .ro, 0, 0, 1, [], false⟩
def KLN_RESULT_COPY : Field := ⟨0x0C044, 0x0, 4, 1, .ro, 0, 0, 1, [], false⟩
def KLN_RESULT_SRC : Field := ⟨0x0C044, 0x0, 8, 8, .ro, 0, 0, 1, [], false⟩
def KLN_RESULT_BAKE_MS : Field := ⟨0x0C044, 0x0, 16, 16, .ro, 0, 0, 1, [], false⟩
def KLN_GEN_GEN : Field := ⟨0x0C048, 0x0, 0, 32, .ro, 0, 0, 1, [], false⟩
def KLN_LEN_LEN : Field := ⟨0x0C04C, 0x0, 0, 32, .ro, 0, 0, 1, [], false⟩
def KLN_LOAD_COPY : Field := ⟨0x0C050, 0x0, 0, 1, .ro, 0, 0, 1, [], false⟩
def KLN_LOAD_VALID : Field := ⟨0x0C050, 0x0, 1, 2, .ro, 0, 0, 1, [], false⟩
def KLN_LOAD_LOAD_US : Field := ⟨0x0C050, 0x0, 16, 16, .ro, 0, 0, 1, [], false⟩
def KLN_NEXT_LEN_LEN : Field := ⟨0x0C054, 0x0, 0, 32, .ro, 0, 0, 1, [], false⟩
def KLN_FWVER_VER : Field := ⟨0x0C058, 0x0, 0, 32, .ro, 0, 0, 1, [], false⟩
def KLN_BAKE_TICK_TICK : Field := ⟨0x0C05C, 0x0, 0, 32, .ro, 0, 0, 1, [], false⟩
def KLN_CNT_BAKES : Field := ⟨0x0C060, 0x0, 0, 16, .ro, 0, 0, 1, [], false⟩
def KLN_CNT_FAILED : Field := ⟨0x0C060, 0x0, 16, 16, .ro, 0, 0, 1, [], false⟩
def KLN_IEN_BLANK : Field := ⟨0x0C010, 0x0, 0, 1, .rwk, 0, 0, 1, [], false⟩
def KLN_IEN_BUSY : Field := ⟨0x0C010, 0x0, 1, 1, .rwk, 0, 0, 1, [], false⟩
def KLN_IEN_ONE_COPY : Field := ⟨0x0C010, 0x0, 2, 1, .rwk, 0, 0, 1, [], false⟩
def KLN_IEN_IGNORED : Field := ⟨0x0C010, 0x0, 3, 1, .rwk, 0, 0, 1, [], false⟩
def KLN_IEN_FORMAT_UNKNOWN : Field := ⟨0x0C010, 0x0, 4, 1, .rwk, 0, 0, 1, [], false⟩
def KLN_IEN_NEAR_FULL : Field := ⟨0x0C010, 0x0, 5, 1, .rwk, 0, 0, 1, [], false⟩

def rowsKLNA : List RegRow := [
  ⟨0x0C000, 0x0, 1, .s, [], [0x1000003]⟩,
  ⟨0x0C004, 0x0, 1, .s, [], [0x64D0009]⟩,
  ⟨0x0C008, 0x0, 1, .c, [], []⟩,
  ⟨0x0C00C, 0x0, 1, .s, [KLN_STAT_BLANK, KLN_STAT_BUSY, KLN_STAT_ONE_COPY, KLN_STAT_IGNORED, KLN_STAT_FORMAT_UNKNOWN, KLN_STAT_NEAR_FULL], []⟩,
  ⟨0x0C010, 0x0, 1, .c, [KLN_IEN_BLANK, KLN_IEN_BUSY, KLN_IEN_ONE_COPY, KLN_IEN_IGNORED, KLN_IEN_FORMAT_UNKNOWN, KLN_IEN_NEAR_FULL], []⟩,
  ⟨0x0C014, 0x0, 1, .s, [], []⟩,
  ⟨0x0C018, 0x0, 1, .s, [KLN_CFGCRC_CRC], []⟩,
  ⟨0x0C01C, 0x0, 1, .c, [KLN_LOCK_LOCK, KLN_LOCK_STICKY], []⟩,
  ⟨0x0C040, 0x0, 1, .k, [KLN_CMD_BAKE], []⟩,
  ⟨0x0C044, 0x0, 1, .s, [KLN_RESULT_RESULT, KLN_RESULT_COPY, KLN_RESULT_SRC, KLN_RESULT_BAKE_MS], []⟩,
  ⟨0x0C048, 0x0, 1, .s, [KLN_GEN_GEN], []⟩,
  ⟨0x0C04C, 0x0, 1, .s, [KLN_LEN_LEN], []⟩,
  ⟨0x0C050, 0x0, 1, .s, [KLN_LOAD_COPY, KLN_LOAD_VALID, KLN_LOAD_LOAD_US], []⟩,
  ⟨0x0C054, 0x0, 1, .s, [KLN_NEXT_LEN_LEN], []⟩,
  ⟨0x0C058, 0x0, 1, .s, [KLN_FWVER_VER], []⟩,
  ⟨0x0C05C, 0x0, 1, .s, [KLN_BAKE_TICK_TICK], []⟩,
  ⟨0x0C060, 0x0, 1, .s, [KLN_CNT_BAKES, KLN_CNT_FAILED], []⟩]

/-- Every register of page 0x03. -/
def rowsKLN : List RegRow := rowsKLNA

/-! Page 0x04 NVM: R75 and R548 (23_kiln_nvm.md), R549 (23_kiln_nvm.md). -/

def NVM_LOCK_LOCK : Field := ⟨0x1001C, 0x0, 0, 1, .rwk, 0, 0, 1, [], false⟩
def NVM_LOCK_STICKY : Field := ⟨0x1001C, 0x0, 1, 1, .rw, 0, 0, 1, [], false⟩
def NVM_CFGCRC_CRC : Field := ⟨0x10018, 0x0, 0, 32, .ro, 0, 0, 1, [], false⟩
def NVM_CTRL_TILL_EN : Field := ⟨0x10008, 0x0, 0, 1, .rwk, 1, 0, 1, [], false⟩
def NVM_STAT_WIPING : Field := ⟨0x1000C, 0x0, 0, 1, .ro, 0, 0, 1, [], false⟩
def NVM_STAT_DED : Field := ⟨0x1000C, 0x0, 1, 1, .ro, 0, 0, 1, [], false⟩
def NVM_STAT_TILL_LATE : Field := ⟨0x1000C, 0x0, 2, 1, .ro, 0, 0, 1, [], false⟩
def NVM_STAT_WEAR_HIGH : Field := ⟨0x1000C, 0x0, 3, 1, .ro, 0, 0, 1, [], false⟩
def NVM_WIN_PAGE : Field := ⟨0x10040, 0x0, 0, 1, .rw, 0, 0, 1, [], false⟩
def NVM_WIPE_CMD_SECTOR : Field := ⟨0x10044, 0x0, 0, 8, .wo, 0, 0, 1, [], false⟩
def NVM_WIPE_CMD_WIPE : Field := ⟨0x10044, 0x0, 8, 1, .cmd, 0, 0, 1, [], false⟩
def NVM_WIPE_CMD_KEY : Field := ⟨0x10044, 0x0, 16, 16, .wo, 0, 0, 1, [], false⟩
def NVM_WIPE_STAT_SECTOR : Field := ⟨0x10048, 0x0, 0, 8, .ro, 0, 0, 1, [], false⟩
def NVM_WIPE_STAT_RESULT : Field := ⟨0x10048, 0x0, 8, 2, .ro, 0, 0, 1, [], false⟩
def NVM_WIPE_STAT_MS : Field := ⟨0x10048, 0x0, 16, 16, .ro, 0, 0, 1, [], false⟩
def NVM_ECC_SEC : Field := ⟨0x1004C, 0x0, 0, 16, .ro, 0, 0, 1, [], false⟩
def NVM_ECC_DED : Field := ⟨0x1004C, 0x0, 16, 16, .ro, 0, 0, 1, [], false⟩
def NVM_ECC_ADDR_ADDR : Field := ⟨0x10050, 0x0, 0, 24, .ro, 0, 0, 1, [], false⟩
def NVM_ECC_ADDR_VALID : Field := ⟨0x10050, 0x0, 24, 1, .ro, 0, 0, 1, [], false⟩
def NVM_TILL_CFG_TILL_DAYS : Field := ⟨0x10054, 0x0, 0, 8, .rwk, 30, 0, 1, [(1, 180)], false⟩
def NVM_TILL_STAT_PCT : Field := ⟨0x10058, 0x0, 0, 7, .ro, 0, 0, 1, [], false⟩
def NVM_TILL_STAT_PASSES : Field := ⟨0x10058, 0x0, 16, 16, .ro, 0, 0, 1, [], false⟩
def NVM_TILL_AGE_DAYS : Field := ⟨0x1005C, 0x0, 0, 16, .ro, 0, 0, 1, [], false⟩
def NVM_PORT_OWNER : Field := ⟨0x10060, 0x0, 0, 3, .ro, 0, 0, 1, [], false⟩
def NVM_PORT_MAX_WAIT_US : Field := ⟨0x10060, 0x0, 16, 16, .ro, 0, 0, 1, [], false⟩
def NVM_WRITES_WORDS : Field := ⟨0x10064, 0x0, 0, 32, .ro, 0, 0, 1, [], false⟩
def NVM_WEAR_KWRITES : Field := ⟨0x10068, 0x4, 0, 32, .ro, 0, 0, 1, [], false⟩
def NVM_PWRLOSS_TORN : Field := ⟨0x10084, 0x0, 0, 16, .ro, 0, 0, 1, [], false⟩
def NVM_PWRLOSS_TOTAL : Field := ⟨0x10084, 0x0, 16, 16, .ro, 0, 0, 1, [], false⟩
def NVM_IEN_WIPING : Field := ⟨0x10010, 0x0, 0, 1, .rwk, 0, 0, 1, [], false⟩
def NVM_IEN_DED : Field := ⟨0x10010, 0x0, 1, 1, .rwk, 0, 0, 1, [], false⟩
def NVM_IEN_TILL_LATE : Field := ⟨0x10010, 0x0, 2, 1, .rwk, 0, 0, 1, [], false⟩
def NVM_IEN_WEAR_HIGH : Field := ⟨0x10010, 0x0, 3, 1, .rwk, 0, 0, 1, [], false⟩

def rowsNVMA : List RegRow := [
  ⟨0x10000, 0x0, 1, .s, [], [0x1000004]⟩,
  ⟨0x10004, 0x0, 1, .s, [], [0x12]⟩,
  ⟨0x10008, 0x0, 1, .c, [NVM_CTRL_TILL_EN], []⟩,
  ⟨0x1000C, 0x0, 1, .s, [NVM_STAT_WIPING, NVM_STAT_DED, NVM_STAT_TILL_LATE, NVM_STAT_WEAR_HIGH], []⟩,
  ⟨0x10010, 0x0, 1, .c, [NVM_IEN_WIPING, NVM_IEN_DED, NVM_IEN_TILL_LATE, NVM_IEN_WEAR_HIGH], []⟩,
  ⟨0x10014, 0x0, 1, .s, [], []⟩,
  ⟨0x10018, 0x0, 1, .s, [NVM_CFGCRC_CRC], []⟩,
  ⟨0x1001C, 0x0, 1, .c, [NVM_LOCK_LOCK, NVM_LOCK_STICKY], []⟩,
  ⟨0x10040, 0x0, 1, .d, [NVM_WIN_PAGE], []⟩,
  ⟨0x10044, 0x0, 1, .k, [NVM_WIPE_CMD_SECTOR, NVM_WIPE_CMD_WIPE, NVM_WIPE_CMD_KEY], []⟩,
  ⟨0x10048, 0x0, 1, .s, [NVM_WIPE_STAT_SECTOR, NVM_WIPE_STAT_RESULT, NVM_WIPE_STAT_MS], []⟩,
  ⟨0x1004C, 0x0, 1, .s, [NVM_ECC_SEC, NVM_ECC_DED], []⟩,
  ⟨0x10050, 0x0, 1, .s, [NVM_ECC_ADDR_ADDR, NVM_ECC_ADDR_VALID], []⟩,
  ⟨0x10054, 0x0, 1, .c, [NVM_TILL_CFG_TILL_DAYS], []⟩,
  ⟨0x10058, 0x0, 1, .s, [NVM_TILL_STAT_PCT, NVM_TILL_STAT_PASSES], []⟩,
  ⟨0x1005C, 0x0, 1, .s, [NVM_TILL_AGE_DAYS], []⟩,
  ⟨0x10060, 0x0, 1, .s, [NVM_PORT_OWNER, NVM_PORT_MAX_WAIT_US], []⟩,
  ⟨0x10064, 0x0, 1, .s, [NVM_WRITES_WORDS], []⟩,
  ⟨0x10068, 0x4, 7, .s, [NVM_WEAR_KWRITES], []⟩,
  ⟨0x10084, 0x0, 1, .s, [NVM_PWRLOSS_TORN, NVM_PWRLOSS_TOTAL], []⟩]

/-- Every register of page 0x04. -/
def rowsNVM : List RegRow := rowsNVMA

/-! Page 0x05 TB: R75 and R51 (02_self_timed_fabric.md), R52 (02_self_timed_fabric.md), R53 (02_self_timed_fabric.md), R54 (02_self_timed_fabric.md), R55 (02_self_timed_fabric.md), R56 (02_self_timed_fabric.md), R57 (02_self_timed_fabric.md), R58 (02_self_timed_fabric.md), R59 (02_self_timed_fabric.md), R60 (02_self_timed_fabric.md), R61 (02_self_timed_fabric.md), R62 (02_self_timed_fabric.md), R63 (02_self_timed_fabric.md), R64 (02_self_timed_fabric.md), R65 (02_self_timed_fabric.md), R66 (02_self_timed_fabric.md), R456 (18_event_recorder.md), R50 (02_self_timed_fabric.md). -/

def TB_LOCK_LOCK : Field := ⟨0x1401C, 0x0, 0, 1, .rwk, 0, 0, 1, [], false⟩
def TB_LOCK_STICKY : Field := ⟨0x1401C, 0x0, 1, 1, .rw, 0, 0, 1, [], false⟩
def TB_CFGCRC_CRC : Field := ⟨0x14018, 0x0, 0, 32, .ro, 0, 0, 1, [], false⟩
def TB_TICK_LO_TICK_LO : Field := ⟨0x14040, 0x0, 0, 32, .ro, 0, 0, 1, [], false⟩
def TB_TICK_HI_TICK_HI : Field := ⟨0x14044, 0x0, 0, 32, .ro, 0, 0, 1, [], false⟩
def TB_FINE_FINE : Field := ⟨0x14048, 0x0, 0, 6, .ro, 0, 0, 1, [], false⟩
def TB_SRC_CTRL_SRC : Field := ⟨0x1404C, 0x0, 0, 2, .rwk, 0, 0, 1, [], false⟩
def TB_FADJ_FADJ : Field := ⟨0x14050, 0x0, 0, 32, .ro, 0, 0, 1, [], false⟩
def TB_FERR_FERR : Field := ⟨0x14054, 0x0, 0, 32, .ro, 0x80000000, 0, 1, [], false⟩
def TB_DISC_STAT_STATE : Field := ⟨0x14058, 0x0, 0, 2, .ro, 0, 0, 1, [], false⟩
def TB_DISC_STAT_STALE : Field := ⟨0x14058, 0x0, 2, 1, .ro, 0, 0, 1, [], false⟩
def TB_DISC_STAT_LOSSES : Field := ⟨0x14058, 0x0, 8, 8, .ro, 0, 0, 1, [], false⟩
def TB_DISC_STAT_LOCK_S : Field := ⟨0x14058, 0x0, 16, 16, .ro, 0, 0, 1, [], false⟩
def TB_HOLD_LIMIT_LIMIT_S : Field := ⟨0x1405C, 0x0, 0, 24, .rwk, 0x15180, 0, 1, [(1, 16777215)], false⟩
def TB_PTP_SEC_LO_SEC_LO : Field := ⟨0x14060, 0x0, 0, 32, .ro, 0, 0, 1, [], false⟩
def TB_PTP_SEC_HI_SEC_HI : Field := ⟨0x14064, 0x0, 0, 16, .ro, 0, 0, 1, [], false⟩
def TB_PTP_NS_NS : Field := ⟨0x14068, 0x0, 0, 30, .ro, 0, 0, 1, [], false⟩
def TB_PTP_NS_VALID : Field := ⟨0x14068, 0x0, 31, 1, .ro, 0, 0, 1, [], false⟩
def TB_XCHK_CTRL_TOL : Field := ⟨0x1406C, 0x0, 0, 8, .rwk, 40, 0, 1, [(20, 100)], false⟩
def TB_XCHK_STAT_LAST_COUNT : Field := ⟨0x14070, 0x0, 0, 16, .ro, 0, 0, 1, [], false⟩
def TB_XCHK_STAT_GOOD_RUN : Field := ⟨0x14070, 0x0, 16, 4, .ro, 0, 0, 1, [], false⟩
def TB_TICKOUT_PERIOD : Field := ⟨0x14074, 0x0, 0, 24, .rwk, 0, 0, 1, [], false⟩
def TB_TICKOUT_PH_PHASE : Field := ⟨0x14078, 0x0, 0, 24, .rwk, 0, 0, 1, [], false⟩
def TB_FAULT_CNT_TB_FAULTS : Field := ⟨0x1407C, 0x0, 0, 16, .ro, 0, 0, 1, [], false⟩
def TB_FAULT_CNT_SRC_LOSSES : Field := ⟨0x1407C, 0x0, 16, 16, .ro, 0, 0, 1, [], false⟩
def TB_PCYCLE_COUNT : Field := ⟨0x14080, 0x0, 0, 24, .ro, 0, 0, 1, [], false⟩
def TB_OPTIME_LO_MS_LO : Field := ⟨0x14084, 0x0, 0, 32, .ro, 0, 0, 1, [], false⟩
def TB_OPTIME_HI_MS_HI : Field := ⟨0x14088, 0x0, 0, 16, .ro, 0, 0, 1, [], false⟩
def TB_OPT_BOOT_LO_MS_LO : Field := ⟨0x1408C, 0x0, 0, 32, .ro, 0, 0, 1, [], false⟩
def TB_OPT_BOOT_HI_MS_HI : Field := ⟨0x14090, 0x0, 0, 16, .ro, 0, 0, 1, [], false⟩
def TB_CNT_STAT_RESTORED : Field := ⟨0x14094, 0x0, 0, 1, .ro, 0, 0, 1, [], false⟩
def TB_CNT_STAT_REPAIRED : Field := ⟨0x14094, 0x0, 1, 1, .ro, 0, 0, 1, [], false⟩
def TB_CNT_STAT_BLANK : Field := ⟨0x14094, 0x0, 2, 1, .ro, 0, 0, 1, [], false⟩
def TB_CNT_SAVES_COUNT : Field := ⟨0x14098, 0x0, 0, 32, .ro, 0, 0, 1, [], false⟩
def TB_SHIP_S_S : Field := ⟨0x1409C, 0x0, 0, 32, .ro, 0, 0, 1, [], false⟩
def TB_STAT_TB_FAULT : Field := ⟨0x1400C, 0x0, 0, 1, .ro, 0, 0, 1, [], false⟩
def TB_STAT_ON_CHECK : Field := ⟨0x1400C, 0x0, 1, 1, .ro, 0, 0, 1, [], false⟩
def TB_STAT_LOCKED : Field := ⟨0x1400C, 0x0, 2, 1, .ro, 0, 0, 1, [], false⟩
def TB_STAT_HOLDOVER : Field := ⟨0x1400C, 0x0, 3, 1, .ro, 0, 0, 1, [], false⟩
def TB_STAT_DISC_CLAMP : Field := ⟨0x1400C, 0x0, 4, 1, .ro, 0, 0, 1, [], false⟩
def TB_IEN_TB_FAULT : Field := ⟨0x14010, 0x0, 0, 1, .rwk, 0, 0, 1, [], false⟩
def TB_IEN_ON_CHECK : Field := ⟨0x14010, 0x0, 1, 1, .rwk, 0, 0, 1, [], false⟩
def TB_IEN_LOCKED : Field := ⟨0x14010, 0x0, 2, 1, .rwk, 0, 0, 1, [], false⟩
def TB_IEN_HOLDOVER : Field := ⟨0x14010, 0x0, 3, 1, .rwk, 0, 0, 1, [], false⟩
def TB_IEN_DISC_CLAMP : Field := ⟨0x14010, 0x0, 4, 1, .rwk, 0, 0, 1, [], false⟩

def rowsTBA : List RegRow := [
  ⟨0x14000, 0x0, 1, .s, [], [0x1000005]⟩,
  ⟨0x14004, 0x0, 1, .s, [], [0x18]⟩,
  ⟨0x14008, 0x0, 1, .c, [], []⟩,
  ⟨0x1400C, 0x0, 1, .s, [TB_STAT_TB_FAULT, TB_STAT_ON_CHECK, TB_STAT_LOCKED, TB_STAT_HOLDOVER, TB_STAT_DISC_CLAMP], []⟩,
  ⟨0x14010, 0x0, 1, .c, [TB_IEN_TB_FAULT, TB_IEN_ON_CHECK, TB_IEN_LOCKED, TB_IEN_HOLDOVER, TB_IEN_DISC_CLAMP], []⟩,
  ⟨0x14014, 0x0, 1, .s, [], []⟩,
  ⟨0x14018, 0x0, 1, .s, [TB_CFGCRC_CRC], []⟩,
  ⟨0x1401C, 0x0, 1, .c, [TB_LOCK_LOCK, TB_LOCK_STICKY], []⟩,
  ⟨0x14040, 0x0, 1, .d, [TB_TICK_LO_TICK_LO], []⟩,
  ⟨0x14044, 0x0, 1, .d, [TB_TICK_HI_TICK_HI], []⟩,
  ⟨0x14048, 0x0, 1, .d, [TB_FINE_FINE], []⟩,
  ⟨0x1404C, 0x0, 1, .c, [TB_SRC_CTRL_SRC], []⟩,
  ⟨0x14050, 0x0, 1, .s, [TB_FADJ_FADJ], []⟩,
  ⟨0x14054, 0x0, 1, .s, [TB_FERR_FERR], []⟩,
  ⟨0x14058, 0x0, 1, .s, [TB_DISC_STAT_STATE, TB_DISC_STAT_STALE, TB_DISC_STAT_LOSSES, TB_DISC_STAT_LOCK_S], []⟩,
  ⟨0x1405C, 0x0, 1, .c, [TB_HOLD_LIMIT_LIMIT_S], []⟩,
  ⟨0x14060, 0x0, 1, .d, [TB_PTP_SEC_LO_SEC_LO], []⟩,
  ⟨0x14064, 0x0, 1, .d, [TB_PTP_SEC_HI_SEC_HI], []⟩,
  ⟨0x14068, 0x0, 1, .d, [TB_PTP_NS_NS, TB_PTP_NS_VALID], []⟩,
  ⟨0x1406C, 0x0, 1, .c, [TB_XCHK_CTRL_TOL], []⟩,
  ⟨0x14070, 0x0, 1, .s, [TB_XCHK_STAT_LAST_COUNT, TB_XCHK_STAT_GOOD_RUN], []⟩,
  ⟨0x14074, 0x0, 1, .c, [TB_TICKOUT_PERIOD], []⟩,
  ⟨0x14078, 0x0, 1, .c, [TB_TICKOUT_PH_PHASE], []⟩,
  ⟨0x1407C, 0x0, 1, .s, [TB_FAULT_CNT_TB_FAULTS, TB_FAULT_CNT_SRC_LOSSES], []⟩]

def rowsTBB : List RegRow := [
  ⟨0x14080, 0x0, 1, .s, [TB_PCYCLE_COUNT], []⟩,
  ⟨0x14084, 0x0, 1, .d, [TB_OPTIME_LO_MS_LO], []⟩,
  ⟨0x14088, 0x0, 1, .d, [TB_OPTIME_HI_MS_HI], []⟩,
  ⟨0x1408C, 0x0, 1, .s, [TB_OPT_BOOT_LO_MS_LO], []⟩,
  ⟨0x14090, 0x0, 1, .s, [TB_OPT_BOOT_HI_MS_HI], []⟩,
  ⟨0x14094, 0x0, 1, .s, [TB_CNT_STAT_RESTORED, TB_CNT_STAT_REPAIRED, TB_CNT_STAT_BLANK], []⟩,
  ⟨0x14098, 0x0, 1, .s, [TB_CNT_SAVES_COUNT], []⟩,
  ⟨0x1409C, 0x0, 1, .s, [TB_SHIP_S_S], []⟩]

/-- Every register of page 0x05. -/
def rowsTB : List RegRow := rowsTBA ++ rowsTBB

end Sys2Proof.Machine
end

