-- ==== Sys2Proof/Machine/RegsLoop.lean ====
section
/-! DEFINITION. The registers of pages AFE, LPE, LPS, LPT, as the register tables of the spec give them: one
definition per field (address, element distance, lowest bit, width, type, reset, repetition, accepted ranges), one
table row per register. The eight header registers of R75 open each page. -/

namespace Sys2Proof.Machine

/-! Page 0x0B AFE: R75 and R138 (05_measurement_front_end.md), R139 (05_measurement_front_end.md). -/

def AFE_LOCK_LOCK : Field := ⟨0x2C01C, 0x0, 0, 1, .rwk, 0, 0, 1, [], false⟩
def AFE_LOCK_STICKY : Field := ⟨0x2C01C, 0x0, 1, 1, .rw, 0, 0, 1, [], false⟩
def AFE_CFGCRC_CRC : Field := ⟨0x2C018, 0x0, 0, 32, .ro, 0, 0, 1, [], false⟩
def AFE_CTRL_HALF_B_EN : Field := ⟨0x2C008, 0x0, 0, 1, .rwk, 1, 0, 1, [], false⟩
def AFE_STAT_XFAULT_A : Field := ⟨0x2C00C, 0x0, 0, 1, .ro, 0, 0, 1, [], false⟩
def AFE_STAT_XFAULT_B : Field := ⟨0x2C00C, 0x0, 1, 1, .ro, 0, 0, 1, [], false⟩
def AFE_STAT_CAL_RUNNING : Field := ⟨0x2C00C, 0x0, 2, 1, .ro, 0, 0, 1, [], false⟩
def AFE_STAT_CAL_INVALID : Field := ⟨0x2C00C, 0x0, 3, 1, .ro, 0, 0, 1, [], false⟩
def AFE_STAT_FAST_OVR : Field := ⟨0x2C00C, 0x0, 4, 1, .ro, 0, 0, 1, [], false⟩
def AFE_STAT_MON_MISSED : Field := ⟨0x2C00C, 0x0, 5, 1, .ro, 0, 0, 1, [], false⟩
def AFE_STAT_RD_FAULT : Field := ⟨0x2C00C, 0x0, 6, 1, .ro, 0, 0, 1, [], false⟩
def AFE_STAT_INT_OVR : Field := ⟨0x2C00C, 0x0, 7, 1, .ro, 0, 0, 1, [], false⟩
def AFE_STAT_CMP_UNCAL : Field := ⟨0x2C00C, 0x0, 8, 1, .ro, 0, 0, 1, [], false⟩
def AFE_FAST_CTRL_IA_INV : Field := ⟨0x2C040, 0x0, 0, 1, .rwk, 0, 0, 1, [], false⟩
def AFE_FAST_CTRL_IB_INV : Field := ⟨0x2C040, 0x0, 1, 1, .rwk, 0, 0, 1, [], false⟩
def AFE_VA_SCALE_RATIO : Field := ⟨0x2C044, 0x0, 0, 32, .rwk, 0x320000, 0, 1, [(655360, 13107200)], false⟩
def AFE_VB_SCALE_RATIO : Field := ⟨0x2C048, 0x0, 0, 32, .rwk, 0x320000, 0, 1, [(655360, 13107200)], false⟩
def AFE_IA_SCALE_TRANS_R : Field := ⟨0x2C04C, 0x0, 0, 32, .rwk, 100, 0, 1, [(10, 1000000)], false⟩
def AFE_IB_SCALE_TRANS_R : Field := ⟨0x2C050, 0x0, 0, 32, .rwk, 100, 0, 1, [(10, 1000000)], false⟩
def AFE_XCHK_CTRL_EN : Field := ⟨0x2C054, 0x0, 0, 1, .rwk, 1, 0, 1, [], false⟩
def AFE_XCHK_CTRL_COUNT : Field := ⟨0x2C054, 0x0, 8, 8, .rwk, 32, 0, 1, [(1, 64)], false⟩
def AFE_XCHK_CTRL_TOL : Field := ⟨0x2C054, 0x0, 16, 16, .rwk, 40, 0, 1, [(10, 1000)], false⟩
def AFE_XCHK_STAT_EXCL_A : Field := ⟨0x2C058, 0x0, 0, 2, .ro, 0, 0, 1, [], false⟩
def AFE_XCHK_STAT_EXCL_B : Field := ⟨0x2C058, 0x0, 2, 2, .ro, 0, 0, 1, [], false⟩
def AFE_XCHK_STAT_RUN_MAX : Field := ⟨0x2C058, 0x0, 8, 8, .ro, 0, 0, 1, [], false⟩
def AFE_XCHK_STAT_FAULTS : Field := ⟨0x2C058, 0x0, 16, 16, .ro, 0, 0, 1, [], false⟩
def AFE_VA_VAL : Field := ⟨0x2C05C, 0x0, 0, 32, .ro, 0x80000000, 0, 1, [], false⟩
def AFE_VB_VAL : Field := ⟨0x2C060, 0x0, 0, 32, .ro, 0x80000000, 0, 1, [], false⟩
def AFE_IA_VAL : Field := ⟨0x2C064, 0x0, 0, 32, .ro, 0x80000000, 0, 1, [], false⟩
def AFE_IB_VAL : Field := ⟨0x2C068, 0x0, 0, 32, .ro, 0x80000000, 0, 1, [], false⟩
def AFE_VA_AVG_VAL : Field := ⟨0x2C06C, 0x0, 0, 32, .ro, 0x80000000, 0, 1, [], false⟩
def AFE_VB_AVG_VAL : Field := ⟨0x2C070, 0x0, 0, 32, .ro, 0x80000000, 0, 1, [], false⟩
def AFE_IA_AVG_VAL : Field := ⟨0x2C074, 0x0, 0, 32, .ro, 0x80000000, 0, 1, [], false⟩
def AFE_IB_AVG_VAL : Field := ⟨0x2C078, 0x0, 0, 32, .ro, 0x80000000, 0, 1, [], false⟩
def AFE_VA_CHK_VAL : Field := ⟨0x2C07C, 0x0, 0, 32, .ro, 0x80000000, 0, 1, [], false⟩
def AFE_VB_CHK_VAL : Field := ⟨0x2C080, 0x0, 0, 32, .ro, 0x80000000, 0, 1, [], false⟩
def AFE_PH_CTRL_PH_EN : Field := ⟨0x2C084, 0x0, 0, 16, .rwk, 0xffff, 0, 1, [], false⟩
def AFE_PH_SCALE_TRANS_R : Field := ⟨0x2C088, 0x0, 0, 32, .rwk, 1000, 0, 1, [(100, 1000000)], false⟩
def AFE_CMP_CTRL_HYST : Field := ⟨0x2C08C, 0x0, 0, 2, .rwk, 1, 0, 1, [], false⟩
def AFE_CMP_STAT_OUT : Field := ⟨0x2C090, 0x0, 0, 16, .ro, 0, 0, 1, [], false⟩
def AFE_CMP_STAT_CAL_OK : Field := ⟨0x2C090, 0x0, 16, 16, .ro, 0, 0, 1, [], false⟩
def AFE_PH_I_VAL : Field := ⟨0x2C094, 0x4, 0, 32, .ro, 0x80000000, 0, 1, [], false⟩
def AFE_INT_CTRL_INV : Field := ⟨0x2C0D4, 0x0, 0, 8, .rwk, 0, 0, 1, [], false⟩
def AFE_INT_STAT_SPARE_POS : Field := ⟨0x2C0D8, 0x0, 0, 4, .ro, 15, 0, 1, [], false⟩
def AFE_INT_STAT_OVR : Field := ⟨0x2C0D8, 0x0, 8, 8, .ro, 0, 0, 1, [], false⟩
def AFE_INT_STAT_SWAPS : Field := ⟨0x2C0D8, 0x0, 16, 16, .ro, 0, 0, 1, [], false⟩
def AFE_INT_LO_INT_LO : Field := ⟨0x2C0E0, 0x10, 0, 32, .ro, 0, 0, 1, [], false⟩
def AFE_INT_HI_INT_HI : Field := ⟨0x2C0E4, 0x10, 0, 32, .ro, 0, 0, 1, [], false⟩
def AFE_I_NOW_VAL : Field := ⟨0x2C0E8, 0x10, 0, 32, .ro, 0x80000000, 0, 1, [], false⟩
def AFE_SHUNT_SHUNT : Field := ⟨0x2C0EC, 0x10, 0, 32, .rwk, 100, 0, 1, [(10, 100000)], false⟩
def AFE_MON_CTRL_ID_BIAS_EN : Field := ⟨0x2C160, 0x0, 0, 1, .rwk, 1, 0, 1, [], false⟩
def AFE_MON_CTRL_ACSYNC_BIAS : Field := ⟨0x2C160, 0x0, 1, 1, .rwk, 1, 0, 1, [], false⟩
def AFE_MON_STAT_PRIO_A : Field := ⟨0x2C164, 0x0, 0, 1, .ro, 0, 0, 1, [], false⟩
def AFE_MON_STAT_PRIO_B : Field := ⟨0x2C164, 0x0, 1, 1, .ro, 0, 0, 1, [], false⟩
def AFE_MON_MISSED_M0 : Field := ⟨0x2C168, 0x0, 0, 16, .ro, 0, 0, 1, [], false⟩
def AFE_MON_MISSED_M1 : Field := ⟨0x2C168, 0x0, 16, 16, .ro, 0, 0, 1, [], false⟩
def AFE_MON_RATE_CODE : Field := ⟨0x2C170, 0x4, 0, 8, .rwk, 0, 8, 4, [], false⟩
def AFE_MON_SEL_INPUT : Field := ⟨0x2C1B0, 0x0, 0, 6, .rw, 0, 0, 1, [], false⟩
def AFE_MON_DATA_CODE : Field := ⟨0x2C1B4, 0x0, 0, 14, .ro, 0, 0, 1, [], false⟩
def AFE_MON_DATA_VALID : Field := ⟨0x2C1B4, 0x0, 15, 1, .ro, 0, 0, 1, [], false⟩
def AFE_MON_DATA_SUB : Field := ⟨0x2C1B4, 0x0, 16, 2, .ro, 0, 0, 1, [], false⟩
def AFE_MON_TIME_TICK : Field := ⟨0x2C1B8, 0x0, 0, 32, .ro, 0, 0, 1, [], false⟩
def AFE_RD_CTRL_EN : Field := ⟨0x2C1C0, 0x0, 0, 1, .rwk, 1, 0, 1, [], false⟩
def AFE_RD_CTRL_FAULT_DEB : Field := ⟨0x2C1C0, 0x0, 8, 4, .rwk, 3, 0, 1, [(1, 15)], false⟩
def AFE_RD_FAULT_FAULT : Field := ⟨0x2C1C4, 0x0, 0, 28, .ro, 0, 0, 1, [], false⟩
def AFE_RD_CH_IDEAL : Field := ⟨0x2C1C8, 0x4, 0, 16, .rwk, 0x4083, 0, 1, [(14746, 19661)], false⟩
def AFE_RD_CH_RSER : Field := ⟨0x2C1C8, 0x4, 16, 8, .ro, 0, 0, 1, [], false⟩
def AFE_RD_CH_EN : Field := ⟨0x2C1C8, 0x4, 24, 1, .rwk, 0, 0, 1, [], false⟩
def AFE_RD_CH_KIND : Field := ⟨0x2C1C8, 0x4, 25, 2, .ro, 0, 0, 1, [], false⟩
def AFE_CAL_CTRL_BG_EN : Field := ⟨0x2C220, 0x0, 0, 1, .rwk, 1, 0, 1, [], false⟩
def AFE_CAL_CTRL_PERIOD_S : Field := ⟨0x2C220, 0x0, 8, 16, .rwk, 10, 0, 1, [(1, 3600)], false⟩
def AFE_CAL_STAT_DONE : Field := ⟨0x2C224, 0x0, 0, 1, .ro, 0, 0, 1, [], false⟩
def AFE_CAL_STAT_UNIT : Field := ⟨0x2C224, 0x0, 4, 4, .ro, 0, 0, 1, [], false⟩
def AFE_CAL_PASS_CNT_PASSES : Field := ⟨0x2C228, 0x0, 0, 32, .ro, 0, 0, 1, [], false⟩
def AFE_CAL_FAIL_SRC_UNITS : Field := ⟨0x2C22C, 0x0, 0, 16, .ro, 0, 0, 1, [], false⟩
def AFE_CAL_FAIL_SRC_FAILS : Field := ⟨0x2C22C, 0x0, 16, 16, .ro, 0, 0, 1, [], false⟩
def AFE_CAL_REF_PPM : Field := ⟨0x2C230, 0x0, 0, 32, .ro, 0x80000000, 0, 1, [], false⟩
def AFE_IEN_XFAULT_A : Field := ⟨0x2C010, 0x0, 0, 1, .rwk, 0, 0, 1, [], false⟩
def AFE_IEN_XFAULT_B : Field := ⟨0x2C010, 0x0, 1, 1, .rwk, 0, 0, 1, [], false⟩
def AFE_IEN_CAL_RUNNING : Field := ⟨0x2C010, 0x0, 2, 1, .rwk, 0, 0, 1, [], false⟩
def AFE_IEN_CAL_INVALID : Field := ⟨0x2C010, 0x0, 3, 1, .rwk, 0, 0, 1, [], false⟩
def AFE_IEN_FAST_OVR : Field := ⟨0x2C010, 0x0, 4, 1, .rwk, 0, 0, 1, [], false⟩
def AFE_IEN_MON_MISSED : Field := ⟨0x2C010, 0x0, 5, 1, .rwk, 0, 0, 1, [], false⟩
def AFE_IEN_RD_FAULT : Field := ⟨0x2C010, 0x0, 6, 1, .rwk, 0, 0, 1, [], false⟩
def AFE_IEN_INT_OVR : Field := ⟨0x2C010, 0x0, 7, 1, .rwk, 0, 0, 1, [], false⟩
def AFE_IEN_CMP_UNCAL : Field := ⟨0x2C010, 0x0, 8, 1, .rwk, 0, 0, 1, [], false⟩

def rowsAFEA : List RegRow := [
  ⟨0x2C000, 0x0, 1, .s, [], [0x100000B]⟩,
  ⟨0x2C004, 0x0, 1, .s, [], [0x78]⟩,
  ⟨0x2C008, 0x0, 1, .c, [AFE_CTRL_HALF_B_EN], []⟩,
  ⟨0x2C00C, 0x0, 1, .s, [AFE_STAT_XFAULT_A, AFE_STAT_XFAULT_B, AFE_STAT_CAL_RUNNING, AFE_STAT_CAL_INVALID, AFE_STAT_FAST_OVR, AFE_STAT_MON_MISSED, AFE_STAT_RD_FAULT, AFE_STAT_INT_OVR, AFE_STAT_CMP_UNCAL], []⟩,
  ⟨0x2C010, 0x0, 1, .c, [AFE_IEN_XFAULT_A, AFE_IEN_XFAULT_B, AFE_IEN_CAL_RUNNING, AFE_IEN_CAL_INVALID, AFE_IEN_FAST_OVR, AFE_IEN_MON_MISSED, AFE_IEN_RD_FAULT, AFE_IEN_INT_OVR, AFE_IEN_CMP_UNCAL], []⟩,
  ⟨0x2C014, 0x0, 1, .s, [], []⟩,
  ⟨0x2C018, 0x0, 1, .s, [AFE_CFGCRC_CRC], []⟩,
  ⟨0x2C01C, 0x0, 1, .c, [AFE_LOCK_LOCK, AFE_LOCK_STICKY], []⟩,
  ⟨0x2C040, 0x0, 1, .c, [AFE_FAST_CTRL_IA_INV, AFE_FAST_CTRL_IB_INV], []⟩,
  ⟨0x2C044, 0x0, 1, .c, [AFE_VA_SCALE_RATIO], []⟩,
  ⟨0x2C048, 0x0, 1, .c, [AFE_VB_SCALE_RATIO], []⟩,
  ⟨0x2C04C, 0x0, 1, .c, [AFE_IA_SCALE_TRANS_R], []⟩,
  ⟨0x2C050, 0x0, 1, .c, [AFE_IB_SCALE_TRANS_R], []⟩,
  ⟨0x2C054, 0x0, 1, .c, [AFE_XCHK_CTRL_EN, AFE_XCHK_CTRL_COUNT, AFE_XCHK_CTRL_TOL], []⟩,
  ⟨0x2C058, 0x0, 1, .s, [AFE_XCHK_STAT_EXCL_A, AFE_XCHK_STAT_EXCL_B, AFE_XCHK_STAT_RUN_MAX, AFE_XCHK_STAT_FAULTS], []⟩,
  ⟨0x2C05C, 0x0, 1, .d, [AFE_VA_VAL], []⟩,
  ⟨0x2C060, 0x0, 1, .d, [AFE_VB_VAL], []⟩,
  ⟨0x2C064, 0x0, 1, .d, [AFE_IA_VAL], []⟩,
  ⟨0x2C068, 0x0, 1, .d, [AFE_IB_VAL], []⟩,
  ⟨0x2C06C, 0x0, 1, .d, [AFE_VA_AVG_VAL], []⟩,
  ⟨0x2C070, 0x0, 1, .d, [AFE_VB_AVG_VAL], []⟩,
  ⟨0x2C074, 0x0, 1, .d, [AFE_IA_AVG_VAL], []⟩,
  ⟨0x2C078, 0x0, 1, .d, [AFE_IB_AVG_VAL], []⟩,
  ⟨0x2C07C, 0x0, 1, .d, [AFE_VA_CHK_VAL], []⟩]

def rowsAFEB : List RegRow := [
  ⟨0x2C080, 0x0, 1, .d, [AFE_VB_CHK_VAL], []⟩,
  ⟨0x2C084, 0x0, 1, .c, [AFE_PH_CTRL_PH_EN], []⟩,
  ⟨0x2C088, 0x0, 1, .c, [AFE_PH_SCALE_TRANS_R], []⟩,
  ⟨0x2C08C, 0x0, 1, .c, [AFE_CMP_CTRL_HYST], []⟩,
  ⟨0x2C090, 0x0, 1, .s, [AFE_CMP_STAT_OUT, AFE_CMP_STAT_CAL_OK], []⟩,
  ⟨0x2C094, 0x4, 16, .d, [AFE_PH_I_VAL], []⟩,
  ⟨0x2C0D4, 0x0, 1, .c, [AFE_INT_CTRL_INV], []⟩,
  ⟨0x2C0D8, 0x0, 1, .s, [AFE_INT_STAT_SPARE_POS, AFE_INT_STAT_OVR, AFE_INT_STAT_SWAPS], []⟩,
  ⟨0x2C0E0, 0x10, 8, .d, [AFE_INT_LO_INT_LO], []⟩,
  ⟨0x2C0E4, 0x10, 8, .d, [AFE_INT_HI_INT_HI], []⟩,
  ⟨0x2C0E8, 0x10, 8, .d, [AFE_I_NOW_VAL], []⟩,
  ⟨0x2C0EC, 0x10, 8, .c, [AFE_SHUNT_SHUNT], []⟩,
  ⟨0x2C160, 0x0, 1, .c, [AFE_MON_CTRL_ID_BIAS_EN, AFE_MON_CTRL_ACSYNC_BIAS], []⟩,
  ⟨0x2C164, 0x0, 1, .s, [AFE_MON_STAT_PRIO_A, AFE_MON_STAT_PRIO_B], []⟩,
  ⟨0x2C168, 0x0, 1, .s, [AFE_MON_MISSED_M0, AFE_MON_MISSED_M1], []⟩,
  ⟨0x2C170, 0x4, 16, .c, [AFE_MON_RATE_CODE], [0x5050505, 0x5050505, 0x5050505, 0x5050505, 0x5050505, 0x5050505, 0xA0A0A0A, 0xA0A0A0A, 0x2020202, 0x2020202, 0x5050505, 0x5050505, 0x64646464, 0x64646464, 0xA0A0101, 0x64646464]⟩,
  ⟨0x2C1B0, 0x0, 1, .d, [AFE_MON_SEL_INPUT], []⟩,
  ⟨0x2C1B4, 0x0, 1, .d, [AFE_MON_DATA_CODE, AFE_MON_DATA_VALID, AFE_MON_DATA_SUB], []⟩,
  ⟨0x2C1B8, 0x0, 1, .d, [AFE_MON_TIME_TICK], []⟩,
  ⟨0x2C1C0, 0x0, 1, .c, [AFE_RD_CTRL_EN, AFE_RD_CTRL_FAULT_DEB], []⟩,
  ⟨0x2C1C4, 0x0, 1, .s, [AFE_RD_FAULT_FAULT], []⟩,
  ⟨0x2C1C8, 0x4, 20, .c, [AFE_RD_CH_IDEAL, AFE_RD_CH_RSER, AFE_RD_CH_EN, AFE_RD_CH_KIND], []⟩,
  ⟨0x2C220, 0x0, 1, .c, [AFE_CAL_CTRL_BG_EN, AFE_CAL_CTRL_PERIOD_S], []⟩,
  ⟨0x2C224, 0x0, 1, .s, [AFE_CAL_STAT_DONE, AFE_CAL_STAT_UNIT], []⟩]

def rowsAFEC : List RegRow := [
  ⟨0x2C228, 0x0, 1, .s, [AFE_CAL_PASS_CNT_PASSES], []⟩,
  ⟨0x2C22C, 0x0, 1, .s, [AFE_CAL_FAIL_SRC_UNITS, AFE_CAL_FAIL_SRC_FAILS], []⟩,
  ⟨0x2C230, 0x0, 1, .d, [AFE_CAL_REF_PPM], []⟩]

/-- Every register of page 0x0B. -/
def rowsAFE : List RegRow := rowsAFEA ++ rowsAFEB ++ rowsAFEC

/-! Page 0x0C LPE: R75 and R176 (06_loop_engine.md), R177 (06_loop_engine.md). -/

def LPE_LOCK_LOCK : Field := ⟨0x3001C, 0x0, 0, 1, .rwk, 0, 0, 1, [], false⟩
def LPE_LOCK_STICKY : Field := ⟨0x3001C, 0x0, 1, 1, .rw, 0, 0, 1, [], false⟩
def LPE_CFGCRC_CRC : Field := ⟨0x30018, 0x0, 0, 32, .ro, 0, 0, 1, [], false⟩
def LPE_CTRL_EN : Field := ⟨0x30008, 0x0, 0, 1, .rwk, 1, 0, 1, [], false⟩
def LPE_STAT_ADMIT_BUSY : Field := ⟨0x3000C, 0x0, 0, 1, .ro, 0, 0, 1, [], false⟩
def LPE_STAT_OVERRUN : Field := ⟨0x3000C, 0x0, 1, 1, .ro, 0, 0, 1, [], false⟩
def LPE_STAT_SAT : Field := ⟨0x3000C, 0x0, 2, 1, .ro, 0, 0, 1, [], false⟩
def LPE_STAT_SLOT_FAULT : Field := ⟨0x3000C, 0x0, 3, 1, .ro, 0, 0, 1, [], false⟩
def LPE_STAT_LANE_RETIRED : Field := ⟨0x3000C, 0x0, 4, 1, .ro, 0, 0, 1, [], false⟩
def LPE_STAT_NO_SPARE : Field := ⟨0x3000C, 0x0, 5, 1, .ro, 0, 0, 1, [], false⟩
def LPE_STAT_COEF_BAD : Field := ⟨0x3000C, 0x0, 6, 1, .ro, 0, 0, 1, [], false⟩
def LPE_STAT_STAGED : Field := ⟨0x3000C, 0x0, 7, 1, .ro, 0, 0, 1, [], false⟩
def LPE_STAT_INPUT_INVALID : Field := ⟨0x3000C, 0x0, 8, 1, .ro, 0, 0, 1, [], false⟩
def LPE_CMD_ADMIT : Field := ⟨0x30040, 0x0, 0, 1, .cmd, 0, 0, 1, [], false⟩
def LPE_CMD_DISCARD : Field := ⟨0x30040, 0x0, 1, 1, .cmd, 0, 0, 1, [], false⟩
def LPE_CMD_LANE_TEST : Field := ⟨0x30040, 0x0, 2, 1, .cmd, 0, 0, 1, [], false⟩
def LPE_ADMIT_STAT_RESULT : Field := ⟨0x30044, 0x0, 0, 4, .ro, 0, 0, 1, [], false⟩
def LPE_ADMIT_STAT_SLOT : Field := ⟨0x30044, 0x0, 8, 6, .ro, 0, 0, 1, [], false⟩
def LPE_ADMIT_STAT_ADMITS : Field := ⟨0x30044, 0x0, 16, 16, .ro, 0, 0, 1, [], false⟩
def LPE_LOAD_ACT_LOAD : Field := ⟨0x30048, 0x0, 0, 32, .ro, 0, 0, 1, [], false⟩
def LPE_LOAD_STAGED_LOAD : Field := ⟨0x3004C, 0x0, 0, 32, .ro, 0, 0, 1, [], false⟩
def LPE_LOAD_LIMIT_LIMIT : Field := ⟨0x30050, 0x0, 0, 32, .ro, 0x3a980, 0, 1, [], false⟩
def LPE_STAGED_SLOTS : Field := ⟨0x30054, 0x4, 0, 32, .ro, 0, 0, 1, [], false⟩
def LPE_ACTIVE_SLOTS : Field := ⟨0x3005C, 0x4, 0, 32, .ro, 0, 0, 1, [], false⟩
def LPE_SAT_SLOTS : Field := ⟨0x30064, 0x4, 0, 32, .ro, 0, 0, 1, [], false⟩
def LPE_FAULT_SLOTS : Field := ⟨0x3006C, 0x4, 0, 32, .ro, 0, 0, 1, [], false⟩
def LPE_OVR_SLOTS : Field := ⟨0x30074, 0x4, 0, 32, .ro, 0, 0, 1, [], false⟩
def LPE_LANE_ROLE : Field := ⟨0x3007C, 0x4, 0, 2, .ro, 0, 0, 1, [], false⟩
def LPE_LANE_DISAGREE : Field := ⟨0x3007C, 0x4, 8, 8, .ro, 0, 0, 1, [], false⟩
def LPE_LANE_PASSES : Field := ⟨0x3007C, 0x4, 16, 8, .ro, 0, 0, 1, [], false⟩
def LPE_LANE_NSLOT : Field := ⟨0x3007C, 0x4, 24, 8, .ro, 0, 0, 1, [], false⟩
def LPE_PAIR_CNT_DISAGREE : Field := ⟨0x30090, 0x0, 0, 16, .ro, 0, 0, 1, [], false⟩
def LPE_PAIR_CNT_TAKEOVERS : Field := ⟨0x30090, 0x0, 16, 16, .ro, 0, 0, 1, [], false⟩
def LPE_PAIR_CTRL_PAIR_EN : Field := ⟨0x30094, 0x0, 0, 1, .rwk, 1, 0, 1, [], false⟩
def LPE_PAIR_CTRL_REARM : Field := ⟨0x30094, 0x0, 1, 1, .rwk, 1, 0, 1, [], false⟩
def LPE_PAIR_CTRL_TESTS_REQ : Field := ⟨0x30094, 0x0, 8, 4, .rwk, 3, 0, 1, [(1, 15)], false⟩
def LPE_COEF_CRC_CRC : Field := ⟨0x30098, 0x0, 0, 32, .ro, 0, 0, 1, [], false⟩
def LPE_COEF_REF_REF : Field := ⟨0x3009C, 0x0, 0, 32, .ro, 0, 0, 1, [], false⟩
def LPE_COEF_BAD_SLOTS : Field := ⟨0x300A0, 0x4, 0, 32, .ro, 0, 0, 1, [], false⟩
def LPE_SLACK_MIN_MIN : Field := ⟨0x300A8, 0x0, 0, 8, .ro, 255, 0, 1, [], false⟩
def LPE_SLACK_MIN_SLOT : Field := ⟨0x300A8, 0x0, 8, 6, .ro, 0, 0, 1, [], false⟩
def LPE_OVR_CNT_COUNT : Field := ⟨0x300AC, 0x0, 0, 32, .ro, 0, 0, 1, [], false⟩
def LPE_SCHED_CNT_COUNT : Field := ⟨0x300B0, 0x0, 0, 32, .ro, 0, 0, 1, [], false⟩
def LPE_VIEW_ACTIVE : Field := ⟨0x300B4, 0x0, 0, 1, .rw, 0, 0, 1, [], false⟩
def LPE_FAULT_CTRL_OVR_FAULT : Field := ⟨0x300B8, 0x0, 0, 1, .rwk, 0, 0, 1, [], false⟩
def LPE_FAULT_CTRL_OVR_LIMIT : Field := ⟨0x300B8, 0x0, 8, 8, .rwk, 10, 0, 1, [(1, 255)], false⟩
def LPE_SLOT_CMD_SLOT : Field := ⟨0x300BC, 0x0, 0, 6, .wo, 0, 0, 1, [], false⟩
def LPE_SLOT_CMD_CLEAR_FAULT : Field := ⟨0x300BC, 0x0, 8, 1, .cmd, 0, 0, 1, [], false⟩
def LPE_SLOT_CMD_RESET_STATE : Field := ⟨0x300BC, 0x0, 9, 1, .cmd, 0, 0, 1, [], false⟩
def LPE_EXEC_CNT_COUNT : Field := ⟨0x300C0, 0x0, 0, 32, .ro, 0, 0, 1, [], false⟩
def LPE_LANE_CAP_WORKING : Field := ⟨0x300C4, 0x0, 0, 3, .ro, 4, 0, 1, [], false⟩
def LPE_LANE_CAP_CAP : Field := ⟨0x300C4, 0x0, 8, 24, .ro, 0x4e200, 0, 1, [], false⟩
def LPE_XFER_LAST_SLOT : Field := ⟨0x300C8, 0x0, 0, 6, .ro, 0, 0, 1, [], false⟩
def LPE_XFER_LAST_FROM : Field := ⟨0x300C8, 0x0, 8, 2, .ro, 0, 0, 1, [], false⟩
def LPE_XFER_LAST_TO : Field := ⟨0x300C8, 0x0, 10, 2, .ro, 0, 0, 1, [], false⟩
def LPE_XFER_LAST_COEF : Field := ⟨0x300C8, 0x0, 12, 1, .ro, 0, 0, 1, [], false⟩
def LPE_XFER_TICK_TICK : Field := ⟨0x300CC, 0x0, 0, 32, .ro, 0, 0, 1, [], false⟩
def LPE_DIS_LAST_SLOT : Field := ⟨0x300D0, 0x0, 0, 6, .ro, 0, 0, 1, [], false⟩
def LPE_DIS_LAST_LANE_A : Field := ⟨0x300D0, 0x0, 8, 3, .ro, 0, 0, 1, [], false⟩
def LPE_DIS_LAST_LANE_B : Field := ⟨0x300D0, 0x0, 12, 3, .ro, 0, 0, 1, [], false⟩
def LPE_DIS_LAST_RETIRED : Field := ⟨0x300D0, 0x0, 16, 3, .ro, 7, 0, 1, [], false⟩
def LPE_DIS_LAST_FAULTED : Field := ⟨0x300D0, 0x0, 19, 1, .ro, 0, 0, 1, [], false⟩
def LPE_DIS_TICK_TICK : Field := ⟨0x300D4, 0x0, 0, 32, .ro, 0, 0, 1, [], false⟩
def LPE_CRIT_SLOTS : Field := ⟨0x300D8, 0x4, 0, 32, .ro, 0, 0, 1, [], false⟩
def LPE_IEN_ADMIT_BUSY : Field := ⟨0x30010, 0x0, 0, 1, .rwk, 0, 0, 1, [], false⟩
def LPE_IEN_OVERRUN : Field := ⟨0x30010, 0x0, 1, 1, .rwk, 0, 0, 1, [], false⟩
def LPE_IEN_SAT : Field := ⟨0x30010, 0x0, 2, 1, .rwk, 0, 0, 1, [], false⟩
def LPE_IEN_SLOT_FAULT : Field := ⟨0x30010, 0x0, 3, 1, .rwk, 0, 0, 1, [], false⟩
def LPE_IEN_LANE_RETIRED : Field := ⟨0x30010, 0x0, 4, 1, .rwk, 0, 0, 1, [], false⟩
def LPE_IEN_NO_SPARE : Field := ⟨0x30010, 0x0, 5, 1, .rwk, 0, 0, 1, [], false⟩
def LPE_IEN_COEF_BAD : Field := ⟨0x30010, 0x0, 6, 1, .rwk, 0, 0, 1, [], false⟩
def LPE_IEN_STAGED : Field := ⟨0x30010, 0x0, 7, 1, .rwk, 0, 0, 1, [], false⟩
def LPE_IEN_INPUT_INVALID : Field := ⟨0x30010, 0x0, 8, 1, .rwk, 0, 0, 1, [], false⟩

def rowsLPEA : List RegRow := [
  ⟨0x30000, 0x0, 1, .s, [], [0x100000C]⟩,
  ⟨0x30004, 0x0, 1, .s, [], [0x5400028]⟩,
  ⟨0x30008, 0x0, 1, .c, [LPE_CTRL_EN], []⟩,
  ⟨0x3000C, 0x0, 1, .s, [LPE_STAT_ADMIT_BUSY, LPE_STAT_OVERRUN, LPE_STAT_SAT, LPE_STAT_SLOT_FAULT, LPE_STAT_LANE_RETIRED, LPE_STAT_NO_SPARE, LPE_STAT_COEF_BAD, LPE_STAT_STAGED, LPE_STAT_INPUT_INVALID], []⟩,
  ⟨0x30010, 0x0, 1, .c, [LPE_IEN_ADMIT_BUSY, LPE_IEN_OVERRUN, LPE_IEN_SAT, LPE_IEN_SLOT_FAULT, LPE_IEN_LANE_RETIRED, LPE_IEN_NO_SPARE, LPE_IEN_COEF_BAD, LPE_IEN_STAGED, LPE_IEN_INPUT_INVALID], []⟩,
  ⟨0x30014, 0x0, 1, .s, [], []⟩,
  ⟨0x30018, 0x0, 1, .s, [LPE_CFGCRC_CRC], []⟩,
  ⟨0x3001C, 0x0, 1, .c, [LPE_LOCK_LOCK, LPE_LOCK_STICKY], []⟩,
  ⟨0x30040, 0x0, 1, .k, [LPE_CMD_ADMIT, LPE_CMD_DISCARD, LPE_CMD_LANE_TEST], []⟩,
  ⟨0x30044, 0x0, 1, .s, [LPE_ADMIT_STAT_RESULT, LPE_ADMIT_STAT_SLOT, LPE_ADMIT_STAT_ADMITS], []⟩,
  ⟨0x30048, 0x0, 1, .s, [LPE_LOAD_ACT_LOAD], []⟩,
  ⟨0x3004C, 0x0, 1, .s, [LPE_LOAD_STAGED_LOAD], []⟩,
  ⟨0x30050, 0x0, 1, .s, [LPE_LOAD_LIMIT_LIMIT], []⟩,
  ⟨0x30054, 0x4, 2, .s, [LPE_STAGED_SLOTS], []⟩,
  ⟨0x3005C, 0x4, 2, .s, [LPE_ACTIVE_SLOTS], []⟩,
  ⟨0x30064, 0x4, 2, .s, [LPE_SAT_SLOTS], []⟩,
  ⟨0x3006C, 0x4, 2, .s, [LPE_FAULT_SLOTS], []⟩,
  ⟨0x30074, 0x4, 2, .s, [LPE_OVR_SLOTS], []⟩,
  ⟨0x3007C, 0x4, 5, .s, [LPE_LANE_ROLE, LPE_LANE_DISAGREE, LPE_LANE_PASSES, LPE_LANE_NSLOT], [0, 0, 0, 0, 1]⟩,
  ⟨0x30090, 0x0, 1, .s, [LPE_PAIR_CNT_DISAGREE, LPE_PAIR_CNT_TAKEOVERS], []⟩,
  ⟨0x30094, 0x0, 1, .c, [LPE_PAIR_CTRL_PAIR_EN, LPE_PAIR_CTRL_REARM, LPE_PAIR_CTRL_TESTS_REQ], []⟩,
  ⟨0x30098, 0x0, 1, .s, [LPE_COEF_CRC_CRC], []⟩,
  ⟨0x3009C, 0x0, 1, .s, [LPE_COEF_REF_REF], []⟩,
  ⟨0x300A0, 0x4, 2, .s, [LPE_COEF_BAD_SLOTS], []⟩]

def rowsLPEB : List RegRow := [
  ⟨0x300A8, 0x0, 1, .s, [LPE_SLACK_MIN_MIN, LPE_SLACK_MIN_SLOT], []⟩,
  ⟨0x300AC, 0x0, 1, .s, [LPE_OVR_CNT_COUNT], []⟩,
  ⟨0x300B0, 0x0, 1, .s, [LPE_SCHED_CNT_COUNT], []⟩,
  ⟨0x300B4, 0x0, 1, .d, [LPE_VIEW_ACTIVE], []⟩,
  ⟨0x300B8, 0x0, 1, .c, [LPE_FAULT_CTRL_OVR_FAULT, LPE_FAULT_CTRL_OVR_LIMIT], []⟩,
  ⟨0x300BC, 0x0, 1, .k, [LPE_SLOT_CMD_SLOT, LPE_SLOT_CMD_CLEAR_FAULT, LPE_SLOT_CMD_RESET_STATE], []⟩,
  ⟨0x300C0, 0x0, 1, .d, [LPE_EXEC_CNT_COUNT], []⟩,
  ⟨0x300C4, 0x0, 1, .s, [LPE_LANE_CAP_WORKING, LPE_LANE_CAP_CAP], []⟩,
  ⟨0x300C8, 0x0, 1, .s, [LPE_XFER_LAST_SLOT, LPE_XFER_LAST_FROM, LPE_XFER_LAST_TO, LPE_XFER_LAST_COEF], []⟩,
  ⟨0x300CC, 0x0, 1, .s, [LPE_XFER_TICK_TICK], []⟩,
  ⟨0x300D0, 0x0, 1, .s, [LPE_DIS_LAST_SLOT, LPE_DIS_LAST_LANE_A, LPE_DIS_LAST_LANE_B, LPE_DIS_LAST_RETIRED, LPE_DIS_LAST_FAULTED], []⟩,
  ⟨0x300D4, 0x0, 1, .s, [LPE_DIS_TICK_TICK], []⟩,
  ⟨0x300D8, 0x4, 2, .s, [LPE_CRIT_SLOTS], []⟩]

/-- Every register of page 0x0C. -/
def rowsLPE : List RegRow := rowsLPEA ++ rowsLPEB

/-! Page 0x0D LPS: R75 and R178 (06_loop_engine.md). -/

def LPS_LOCK_LOCK : Field := ⟨0x3401C, 0x0, 0, 1, .rwk, 0, 0, 1, [], false⟩
def LPS_LOCK_STICKY : Field := ⟨0x3401C, 0x0, 1, 1, .rw, 0, 0, 1, [], false⟩
def LPS_CFGCRC_CRC : Field := ⟨0x34018, 0x0, 0, 32, .ro, 0, 0, 1, [], false⟩
def LPS_CFG_LAW : Field := ⟨0x34040, 0x18, 0, 3, .rwk, 0, 0, 1, [(0, 5)], false⟩
def LPS_CFG_CRIT : Field := ⟨0x34040, 0x18, 3, 1, .rwk, 0, 0, 1, [], false⟩
def LPS_CFG_FF_SEL : Field := ⟨0x34040, 0x18, 4, 2, .rwk, 0, 0, 1, [(0, 2)], false⟩
def LPS_CFG_SHIFT : Field := ⟨0x34040, 0x18, 6, 4, .rwk, 0, 0, 1, [], false⟩
def LPS_CFG_D_ON_MEAS : Field := ⟨0x34040, 0x18, 10, 1, .rwk, 0, 0, 1, [], false⟩
def LPS_CFG_NREG : Field := ⟨0x34040, 0x18, 11, 2, .rwk, 0, 0, 1, [], false⟩
def LPS_CFG_FAULT_ACT : Field := ⟨0x34040, 0x18, 13, 1, .rwk, 0, 0, 1, [], false⟩
def LPS_CFG_NSTATE : Field := ⟨0x34040, 0x18, 14, 2, .rwk, 0, 0, 1, [], false⟩
def LPS_SRC_MEAS : Field := ⟨0x34044, 0x18, 0, 8, .rwk, 0, 0, 1, [], false⟩
def LPS_SRC_REF : Field := ⟨0x34044, 0x18, 8, 8, .rwk, 0, 0, 1, [], false⟩
def LPS_SRC_SCHED : Field := ⟨0x34044, 0x18, 16, 8, .rwk, 0, 0, 1, [], false⟩
def LPS_SRC_DST : Field := ⟨0x34044, 0x18, 24, 8, .rwk, 0, 0, 1, [], false⟩
def LPS_PERIOD_PERIOD : Field := ⟨0x34048, 0x18, 0, 23, .rwk, 100, 0, 1, [(25, 5000000)], false⟩
def LPS_PHASE_PHASE : Field := ⟨0x3404C, 0x18, 0, 23, .rwk, 0, 0, 1, [], false⟩
def LPS_REF_REF : Field := ⟨0x34050, 0x18, 0, 32, .rwk, 0, 0, 1, [], false⟩
def LPS_STAT_MIN_SLACK : Field := ⟨0x34054, 0x18, 0, 8, .ro, 255, 0, 1, [], false⟩
def LPS_STAT_REGION : Field := ⟨0x34054, 0x18, 8, 2, .ro, 0, 0, 1, [], false⟩
def LPS_STAT_SAT : Field := ⟨0x34054, 0x18, 10, 1, .ro, 0, 0, 1, [], false⟩
def LPS_STAT_INPUT_INVALID : Field := ⟨0x34054, 0x18, 11, 1, .ro, 0, 0, 1, [], false⟩
def LPS_STAT_FAULT : Field := ⟨0x34054, 0x18, 12, 1, .ro, 0, 0, 1, [], false⟩
def LPS_STAT_ACTIVE : Field := ⟨0x34054, 0x18, 13, 1, .ro, 0, 0, 1, [], false⟩
def LPS_STAT_TUNING : Field := ⟨0x34054, 0x18, 14, 1, .ro, 0, 0, 1, [], false⟩
def LPS_STAT_STAGED : Field := ⟨0x34054, 0x18, 15, 1, .ro, 0, 0, 1, [], false⟩
def LPS_STAT_OVERRUNS : Field := ⟨0x34054, 0x18, 16, 16, .ro, 0, 0, 1, [], false⟩

def rowsLPSA : List RegRow := [
  ⟨0x34000, 0x0, 1, .s, [], [0x100000D]⟩,
  ⟨0x34004, 0x0, 1, .s, [], [0x180]⟩,
  ⟨0x34008, 0x0, 1, .c, [], []⟩,
  ⟨0x3400C, 0x0, 1, .s, [], []⟩,
  ⟨0x34010, 0x0, 1, .c, [], []⟩,
  ⟨0x34014, 0x0, 1, .s, [], []⟩,
  ⟨0x34018, 0x0, 1, .s, [LPS_CFGCRC_CRC], []⟩,
  ⟨0x3401C, 0x0, 1, .c, [LPS_LOCK_LOCK, LPS_LOCK_STICKY], []⟩,
  ⟨0x34040, 0x18, 64, .c, [LPS_CFG_LAW, LPS_CFG_CRIT, LPS_CFG_FF_SEL, LPS_CFG_SHIFT, LPS_CFG_D_ON_MEAS, LPS_CFG_NREG, LPS_CFG_FAULT_ACT, LPS_CFG_NSTATE], [1, 1, 0, 0, 0, 0, 0, 0, 0, 0, 0, 0, 0, 0, 0, 0, 0, 0, 0, 0, 0, 0, 0, 0, 0, 0, 0, 0, 0, 0, 0, 0, 0, 0, 0, 0, 0, 0, 0, 0, 0, 0, 0, 0, 0, 0, 0, 0, 0, 0, 0, 0, 0, 0, 0, 0, 0, 0, 0, 0, 0, 0, 0, 0]⟩,
  ⟨0x34044, 0x18, 64, .c, [LPS_SRC_MEAS, LPS_SRC_REF, LPS_SRC_SCHED, LPS_SRC_DST], [0x100F001, 0x200F002, 0, 0, 0, 0, 0, 0, 0, 0, 0, 0, 0, 0, 0, 0, 0, 0, 0, 0, 0, 0, 0, 0, 0, 0, 0, 0, 0, 0, 0, 0, 0, 0, 0, 0, 0, 0, 0, 0, 0, 0, 0, 0, 0, 0, 0, 0, 0, 0, 0, 0, 0, 0, 0, 0, 0, 0, 0, 0, 0, 0, 0, 0]⟩,
  ⟨0x34048, 0x18, 64, .c, [LPS_PERIOD_PERIOD], []⟩,
  ⟨0x3404C, 0x18, 64, .c, [LPS_PHASE_PHASE], [0, 0x32, 0, 0, 0, 0, 0, 0, 0, 0, 0, 0, 0, 0, 0, 0, 0, 0, 0, 0, 0, 0, 0, 0, 0, 0, 0, 0, 0, 0, 0, 0, 0, 0, 0, 0, 0, 0, 0, 0, 0, 0, 0, 0, 0, 0, 0, 0, 0, 0, 0, 0, 0, 0, 0, 0, 0, 0, 0, 0, 0, 0, 0, 0]⟩,
  ⟨0x34050, 0x18, 64, .c, [LPS_REF_REF], [0x83D60, 0x83D60, 0, 0, 0, 0, 0, 0, 0, 0, 0, 0, 0, 0, 0, 0, 0, 0, 0, 0, 0, 0, 0, 0, 0, 0, 0, 0, 0, 0, 0, 0, 0, 0, 0, 0, 0, 0, 0, 0, 0, 0, 0, 0, 0, 0, 0, 0, 0, 0, 0, 0, 0, 0, 0, 0, 0, 0, 0, 0, 0, 0, 0, 0]⟩,
  ⟨0x34054, 0x18, 64, .s, [LPS_STAT_MIN_SLACK, LPS_STAT_REGION, LPS_STAT_SAT, LPS_STAT_INPUT_INVALID, LPS_STAT_FAULT, LPS_STAT_ACTIVE, LPS_STAT_TUNING, LPS_STAT_STAGED, LPS_STAT_OVERRUNS], []⟩]

/-- Every register of page 0x0D. -/
def rowsLPS : List RegRow := rowsLPSA

/-! Page 0x0E LPT: R75 and R199 (07_tuning_and_disturbance.md), R200 (07_tuning_and_disturbance.md). -/

def LPT_LOCK_LOCK : Field := ⟨0x3801C, 0x0, 0, 1, .rwk, 0, 0, 1, [], false⟩
def LPT_LOCK_STICKY : Field := ⟨0x3801C, 0x0, 1, 1, .rw, 0, 0, 1, [], false⟩
def LPT_CFGCRC_CRC : Field := ⟨0x38018, 0x0, 0, 32, .ro, 0, 0, 1, [], false⟩
def LPT_CTRL_TUNE_EN : Field := ⟨0x38008, 0x0, 0, 1, .rwk, 0, 0, 1, [], false⟩
def LPT_STAT_TUNING : Field := ⟨0x3800C, 0x0, 0, 1, .ro, 0, 0, 1, [], false⟩
def LPT_STAT_PROPOSAL : Field := ⟨0x3800C, 0x0, 1, 1, .ro, 0, 0, 1, [], false⟩
def LPT_STAT_LP_LOCKED : Field := ⟨0x3800C, 0x0, 2, 1, .ro, 0, 0, 1, [], false⟩
def LPT_STAT_LP_FLYWHEEL : Field := ⟨0x3800C, 0x0, 3, 1, .ro, 0, 0, 1, [], false⟩
def LPT_STAT_TBL_PENDING : Field := ⟨0x3800C, 0x0, 4, 1, .ro, 0, 0, 1, [], false⟩
def LPT_STAT_TBL_BAD : Field := ⟨0x3800C, 0x0, 5, 1, .ro, 0, 0, 1, [], false⟩
def LPT_STAT_RC_DIVERGED : Field := ⟨0x3800C, 0x0, 6, 1, .ro, 0, 0, 1, [], false⟩
def LPT_STAT_RC_FADING : Field := ⟨0x3800C, 0x0, 7, 1, .ro, 0, 0, 1, [], false⟩
def LPT_TUNE_CFG_SLOT : Field := ⟨0x38040, 0x0, 0, 6, .rwk, 0, 0, 1, [], false⟩
def LPT_TUNE_CFG_RULE : Field := ⟨0x38040, 0x0, 8, 2, .rwk, 2, 0, 1, [], false⟩
def LPT_TUNE_CFG_REGION : Field := ⟨0x38040, 0x0, 12, 2, .rwk, 0, 0, 1, [], false⟩
def LPT_TUNE_CFG_CYCLES : Field := ⟨0x38040, 0x0, 16, 4, .rwk, 4, 0, 1, [(2, 15)], false⟩
def LPT_TUNE_CFG_TMAX : Field := ⟨0x38040, 0x0, 20, 12, .rwk, 500, 0, 1, [(1, 4095)], false⟩
def LPT_TUNE_AMP_D : Field := ⟨0x38044, 0x0, 0, 32, .rwk, 0, 0, 1, [], false⟩
def LPT_TUNE_HYST_HYST : Field := ⟨0x38048, 0x0, 0, 32, .rwk, 0, 0, 1, [], false⟩
def LPT_TUNE_DEV_DEV : Field := ⟨0x3804C, 0x0, 0, 32, .rwk, 0x2710, 0, 1, [], false⟩
def LPT_CMD_TUNE_START : Field := ⟨0x38050, 0x0, 0, 1, .cmd, 0, 0, 1, [], false⟩
def LPT_CMD_TUNE_ABORT : Field := ⟨0x38050, 0x0, 1, 1, .cmd, 0, 0, 1, [], false⟩
def LPT_CMD_TUNE_APPLY : Field := ⟨0x38050, 0x0, 2, 1, .cmd, 0, 0, 1, [], false⟩
def LPT_CMD_TUNE_REPROPOSE : Field := ⟨0x38050, 0x0, 3, 1, .cmd, 0, 0, 1, [], false⟩
def LPT_CMD_TBL_COMMIT : Field := ⟨0x38050, 0x0, 8, 8, .cmd, 0, 0, 1, [], false⟩
def LPT_CMD_RC_CLEAR : Field := ⟨0x38050, 0x0, 16, 4, .cmd, 0, 0, 1, [], false⟩
def LPT_TUNE_STAT_STATE : Field := ⟨0x38054, 0x0, 0, 2, .ro, 0, 0, 1, [], false⟩
def LPT_TUNE_STAT_RESULT : Field := ⟨0x38054, 0x0, 4, 4, .ro, 0, 0, 1, [], false⟩
def LPT_TUNE_STAT_FIELD : Field := ⟨0x38054, 0x0, 8, 3, .ro, 0, 0, 1, [], false⟩
def LPT_TUNE_STAT_DONE : Field := ⟨0x38054, 0x0, 12, 4, .ro, 0, 0, 1, [], false⟩
def LPT_TUNE_STAT_TUNES : Field := ⟨0x38054, 0x0, 16, 16, .ro, 0, 0, 1, [], false⟩
def LPT_TUNE_TU_TU : Field := ⟨0x38058, 0x0, 0, 32, .ro, 0, 0, 1, [], false⟩
def LPT_TUNE_AU_AU : Field := ⟨0x3805C, 0x0, 0, 32, .ro, 0, 0, 1, [], false⟩
def LPT_TUNE_KU_KU : Field := ⟨0x38060, 0x0, 0, 32, .ro, 0, 0, 1, [], false⟩
def LPT_PROP_KP_VAL : Field := ⟨0x38064, 0x0, 0, 32, .ro, 0, 0, 1, [], false⟩
def LPT_PROP_KI_VAL : Field := ⟨0x38068, 0x0, 0, 32, .ro, 0, 0, 1, [], false⟩
def LPT_PROP_KD_VAL : Field := ⟨0x3806C, 0x0, 0, 32, .ro, 0, 0, 1, [], false⟩
def LPT_PROP_KT_VAL : Field := ⟨0x38070, 0x0, 0, 32, .ro, 0, 0, 1, [], false⟩
def LPT_LP_CTRL_EN : Field := ⟨0x38074, 0x0, 0, 1, .rwk, 1, 0, 1, [], false⟩
def LPT_LP_CTRL_SRC : Field := ⟨0x38074, 0x0, 1, 2, .rwk, 0, 0, 1, [], false⟩
def LPT_LP_CTRL_RIPPLE_MULT : Field := ⟨0x38074, 0x0, 4, 2, .rwk, 1, 0, 1, [], false⟩
def LPT_LP_CTRL_ZC_HYST : Field := ⟨0x38074, 0x0, 8, 8, .rwk, 20, 0, 1, [(1, 100)], false⟩
def LPT_LP_CTRL_RIP_MIN : Field := ⟨0x38074, 0x0, 16, 8, .rwk, 50, 0, 1, [(1, 255)], false⟩
def LPT_LP_PLL_BW : Field := ⟨0x38078, 0x0, 0, 4, .rwk, 3, 0, 1, [(0, 5)], false⟩
def LPT_LP_PLL_LOCK_TOL : Field := ⟨0x38078, 0x0, 8, 8, .rwk, 4, 0, 1, [(1, 64)], false⟩
def LPT_LP_PLL_FLY : Field := ⟨0x38078, 0x0, 16, 4, .rwk, 8, 0, 1, [(1, 15)], false⟩
def LPT_LP_PLL_FADE : Field := ⟨0x38078, 0x0, 20, 4, .rwk, 8, 0, 1, [(1, 15)], false⟩
def LPT_LP_STAT_PHASE : Field := ⟨0x3807C, 0x0, 0, 16, .ro, 0, 0, 1, [], false⟩
def LPT_LP_STAT_LOCKED : Field := ⟨0x3807C, 0x0, 16, 1, .ro, 0, 0, 1, [], false⟩
def LPT_LP_STAT_FLYWHEEL : Field := ⟨0x3807C, 0x0, 17, 1, .ro, 0, 0, 1, [], false⟩
def LPT_LP_STAT_SRC_USED : Field := ⟨0x3807C, 0x0, 18, 2, .ro, 0, 0, 1, [], false⟩
def LPT_LP_STAT_A_PRESENT : Field := ⟨0x3807C, 0x0, 20, 1, .ro, 0, 0, 1, [], false⟩
def LPT_LP_STAT_B_PRESENT : Field := ⟨0x3807C, 0x0, 21, 1, .ro, 0, 0, 1, [], false⟩
def LPT_LP_STAT_RIP_PRESENT : Field := ⟨0x3807C, 0x0, 22, 1, .ro, 0, 0, 1, [], false⟩
def LPT_LP_STAT_TBL_BAD : Field := ⟨0x3807C, 0x0, 24, 8, .ro, 0, 0, 1, [], false⟩
def LPT_LP_FREQ_FREQ : Field := ⟨0x38080, 0x0, 0, 32, .ro, 0, 0, 1, [], false⟩
def LPT_LP_SEL_BANK : Field := ⟨0x38084, 0x4, 0, 3, .rwk, 0, 4, 8, [], false⟩
def LPT_TBL_ADDR_INDEX : Field := ⟨0x380A4, 0x0, 0, 8, .rw, 0, 0, 1, [], false⟩
def LPT_TBL_ADDR_BANK : Field := ⟨0x380A4, 0x0, 8, 3, .rw, 0, 0, 1, [], false⟩
def LPT_TBL_ADDR_AUTOINC : Field := ⟨0x380A4, 0x0, 16, 1, .rw, 1, 0, 1, [], false⟩
def LPT_TBL_ADDR_VIEW : Field := ⟨0x380A4, 0x0, 17, 1, .rw, 0, 0, 1, [], false⟩
def LPT_TBL_DATA_DATA : Field := ⟨0x380A8, 0x0, 0, 32, .rw, 0, 0, 1, [], false⟩
def LPT_TBL_CRC_CRC : Field := ⟨0x380AC, 0x0, 0, 32, .ro, 0, 0, 1, [], false⟩
def LPT_RC_CFG_N : Field := ⟨0x380B0, 0xC, 0, 12, .rwk, 2000, 0, 1, [(2, 2048)], false⟩
def LPT_RC_CFG_M : Field := ⟨0x380B0, 0xC, 12, 6, .rwk, 0, 0, 1, [], false⟩
def LPT_RC_CFG_Q : Field := ⟨0x380B0, 0xC, 18, 2, .rwk, 2, 0, 1, [], false⟩
def LPT_RC_CFG_SLOT : Field := ⟨0x380B0, 0xC, 20, 6, .rwk, 0, 0, 1, [], false⟩
def LPT_RC_CFG_EN : Field := ⟨0x380B0, 0xC, 26, 1, .rwk, 0, 0, 1, [], false⟩
def LPT_RC_CFG_LEARN : Field := ⟨0x380B0, 0xC, 27, 1, .rwk, 1, 0, 1, [], false⟩
def LPT_RC_CFG_TRACK : Field := ⟨0x380B0, 0xC, 28, 1, .rwk, 0, 0, 1, [], false⟩
def LPT_RC_KR_KR : Field := ⟨0x380B4, 0xC, 0, 32, .rwk, 0x800000, 0, 1, [], false⟩
def LPT_RC_STAT_STATE : Field := ⟨0x380B8, 0xC, 0, 3, .ro, 0, 0, 1, [], false⟩
def LPT_RC_STAT_DIVERGED : Field := ⟨0x380B8, 0xC, 3, 1, .ro, 0, 0, 1, [], false⟩
def LPT_RC_STAT_PERIODS : Field := ⟨0x380B8, 0xC, 16, 16, .ro, 0, 0, 1, [], false⟩
def LPT_IEN_TUNING : Field := ⟨0x38010, 0x0, 0, 1, .rwk, 0, 0, 1, [], false⟩
def LPT_IEN_PROPOSAL : Field := ⟨0x38010, 0x0, 1, 1, .rwk, 0, 0, 1, [], false⟩
def LPT_IEN_LP_LOCKED : Field := ⟨0x38010, 0x0, 2, 1, .rwk, 0, 0, 1, [], false⟩
def LPT_IEN_LP_FLYWHEEL : Field := ⟨0x38010, 0x0, 3, 1, .rwk, 0, 0, 1, [], false⟩
def LPT_IEN_TBL_PENDING : Field := ⟨0x38010, 0x0, 4, 1, .rwk, 0, 0, 1, [], false⟩
def LPT_IEN_TBL_BAD : Field := ⟨0x38010, 0x0, 5, 1, .rwk, 0, 0, 1, [], false⟩
def LPT_IEN_RC_DIVERGED : Field := ⟨0x38010, 0x0, 6, 1, .rwk, 0, 0, 1, [], false⟩
def LPT_IEN_RC_FADING : Field := ⟨0x38010, 0x0, 7, 1, .rwk, 0, 0, 1, [], false⟩

def rowsLPTA : List RegRow := [
  ⟨0x38000, 0x0, 1, .s, [], [0x100000E]⟩,
  ⟨0x38004, 0x0, 1, .s, [], [0x28]⟩,
  ⟨0x38008, 0x0, 1, .c, [LPT_CTRL_TUNE_EN], []⟩,
  ⟨0x3800C, 0x0, 1, .s, [LPT_STAT_TUNING, LPT_STAT_PROPOSAL, LPT_STAT_LP_LOCKED, LPT_STAT_LP_FLYWHEEL, LPT_STAT_TBL_PENDING, LPT_STAT_TBL_BAD, LPT_STAT_RC_DIVERGED, LPT_STAT_RC_FADING], []⟩,
  ⟨0x38010, 0x0, 1, .c, [LPT_IEN_TUNING, LPT_IEN_PROPOSAL, LPT_IEN_LP_LOCKED, LPT_IEN_LP_FLYWHEEL, LPT_IEN_TBL_PENDING, LPT_IEN_TBL_BAD, LPT_IEN_RC_DIVERGED, LPT_IEN_RC_FADING], []⟩,
  ⟨0x38014, 0x0, 1, .s, [], []⟩,
  ⟨0x38018, 0x0, 1, .s, [LPT_CFGCRC_CRC], []⟩,
  ⟨0x3801C, 0x0, 1, .c, [LPT_LOCK_LOCK, LPT_LOCK_STICKY], []⟩,
  ⟨0x38040, 0x0, 1, .c, [LPT_TUNE_CFG_SLOT, LPT_TUNE_CFG_RULE, LPT_TUNE_CFG_REGION, LPT_TUNE_CFG_CYCLES, LPT_TUNE_CFG_TMAX], []⟩,
  ⟨0x38044, 0x0, 1, .c, [LPT_TUNE_AMP_D], []⟩,
  ⟨0x38048, 0x0, 1, .c, [LPT_TUNE_HYST_HYST], []⟩,
  ⟨0x3804C, 0x0, 1, .c, [LPT_TUNE_DEV_DEV], []⟩,
  ⟨0x38050, 0x0, 1, .k, [LPT_CMD_TUNE_START, LPT_CMD_TUNE_ABORT, LPT_CMD_TUNE_APPLY, LPT_CMD_TUNE_REPROPOSE, LPT_CMD_TBL_COMMIT, LPT_CMD_RC_CLEAR], []⟩,
  ⟨0x38054, 0x0, 1, .s, [LPT_TUNE_STAT_STATE, LPT_TUNE_STAT_RESULT, LPT_TUNE_STAT_FIELD, LPT_TUNE_STAT_DONE, LPT_TUNE_STAT_TUNES], []⟩,
  ⟨0x38058, 0x0, 1, .s, [LPT_TUNE_TU_TU], []⟩,
  ⟨0x3805C, 0x0, 1, .s, [LPT_TUNE_AU_AU], []⟩,
  ⟨0x38060, 0x0, 1, .s, [LPT_TUNE_KU_KU], []⟩,
  ⟨0x38064, 0x0, 1, .s, [LPT_PROP_KP_VAL], []⟩,
  ⟨0x38068, 0x0, 1, .s, [LPT_PROP_KI_VAL], []⟩,
  ⟨0x3806C, 0x0, 1, .s, [LPT_PROP_KD_VAL], []⟩,
  ⟨0x38070, 0x0, 1, .s, [LPT_PROP_KT_VAL], []⟩,
  ⟨0x38074, 0x0, 1, .c, [LPT_LP_CTRL_EN, LPT_LP_CTRL_SRC, LPT_LP_CTRL_RIPPLE_MULT, LPT_LP_CTRL_ZC_HYST, LPT_LP_CTRL_RIP_MIN], []⟩,
  ⟨0x38078, 0x0, 1, .c, [LPT_LP_PLL_BW, LPT_LP_PLL_LOCK_TOL, LPT_LP_PLL_FLY, LPT_LP_PLL_FADE], []⟩,
  ⟨0x3807C, 0x0, 1, .s, [LPT_LP_STAT_PHASE, LPT_LP_STAT_LOCKED, LPT_LP_STAT_FLYWHEEL, LPT_LP_STAT_SRC_USED, LPT_LP_STAT_A_PRESENT, LPT_LP_STAT_B_PRESENT, LPT_LP_STAT_RIP_PRESENT, LPT_LP_STAT_TBL_BAD], []⟩]

def rowsLPTB : List RegRow := [
  ⟨0x38080, 0x0, 1, .s, [LPT_LP_FREQ_FREQ], []⟩,
  ⟨0x38084, 0x4, 8, .c, [LPT_LP_SEL_BANK], []⟩,
  ⟨0x380A4, 0x0, 1, .d, [LPT_TBL_ADDR_INDEX, LPT_TBL_ADDR_BANK, LPT_TBL_ADDR_AUTOINC, LPT_TBL_ADDR_VIEW], []⟩,
  ⟨0x380A8, 0x0, 1, .d, [LPT_TBL_DATA_DATA], []⟩,
  ⟨0x380AC, 0x0, 1, .s, [LPT_TBL_CRC_CRC], []⟩,
  ⟨0x380B0, 0xC, 4, .c, [LPT_RC_CFG_N, LPT_RC_CFG_M, LPT_RC_CFG_Q, LPT_RC_CFG_SLOT, LPT_RC_CFG_EN, LPT_RC_CFG_LEARN, LPT_RC_CFG_TRACK], []⟩,
  ⟨0x380B4, 0xC, 4, .c, [LPT_RC_KR_KR], []⟩,
  ⟨0x380B8, 0xC, 4, .s, [LPT_RC_STAT_STATE, LPT_RC_STAT_DIVERGED, LPT_RC_STAT_PERIODS], []⟩]

/-- Every register of page 0x0E. -/
def rowsLPT : List RegRow := rowsLPTA ++ rowsLPTB

end Sys2Proof.Machine
end

