-- ==== Sys2Proof/Machine/RegsPower.lean ====
section
/-! DEFINITION. The registers of pages SEQ, RMN, BAT, SHR, CAP, as the register tables of the spec give them: one
definition per field (address, element distance, lowest bit, width, type, reset, repetition, accepted ranges), one
table row per register. The eight header registers of R75 open each page. -/

namespace Sys2Proof.Machine

/-! Page 0x12 SEQ: R75 and R358 (13_rail_sequencing.md), R359 (13_rail_sequencing.md), R360 (13_rail_sequencing.md). -/

def SEQ_LOCK_LOCK : Field := ⟨0x4801C, 0x0, 0, 1, .rwk, 0, 0, 1, [], false⟩
def SEQ_LOCK_STICKY : Field := ⟨0x4801C, 0x0, 1, 1, .rw, 0, 0, 1, [], false⟩
def SEQ_CFGCRC_CRC : Field := ⟨0x48018, 0x0, 0, 32, .ro, 0, 0, 1, [], false⟩
def SEQ_CTRL_EN : Field := ⟨0x48008, 0x0, 0, 1, .rwk, 1, 0, 1, [], false⟩
def SEQ_STAT_RUN : Field := ⟨0x4800C, 0x0, 0, 1, .ro, 0, 0, 1, [], false⟩
def SEQ_STAT_ACTIVE : Field := ⟨0x4800C, 0x0, 1, 1, .ro, 0, 0, 1, [], false⟩
def SEQ_STAT_RETRY_WAIT : Field := ⟨0x4800C, 0x0, 2, 1, .ro, 0, 0, 1, [], false⟩
def SEQ_STAT_FAULT : Field := ⟨0x4800C, 0x0, 3, 1, .ro, 0, 0, 1, [], false⟩
def SEQ_STAT_STUCK : Field := ⟨0x4800C, 0x0, 4, 1, .ro, 0, 0, 1, [], false⟩
def SEQ_STAT_CASC_WAIT : Field := ⟨0x4800C, 0x0, 5, 1, .ro, 0, 0, 1, [], false⟩
def SEQ_CFG_AUTO_UP : Field := ⟨0x48040, 0x0, 0, 1, .rwk, 1, 0, 1, [], false⟩
def SEQ_CFG_DN_MODE : Field := ⟨0x48040, 0x0, 1, 1, .rwk, 0, 0, 1, [], false⟩
def SEQ_CFG_UP_EN : Field := ⟨0x48040, 0x0, 2, 1, .rwk, 0, 0, 1, [], false⟩
def SEQ_CFG_DN_EN : Field := ⟨0x48040, 0x0, 3, 1, .rwk, 0, 0, 1, [], false⟩
def SEQ_CFG_RETRY_MAX : Field := ⟨0x48040, 0x0, 4, 4, .rwk, 3, 0, 1, [], false⟩
def SEQ_CFG_CASC_STEP : Field := ⟨0x48040, 0x0, 8, 5, .rwk, 31, 0, 1, [(0, 23), (31, 31)], false⟩
def SEQ_TIME_RETRY_MS : Field := ⟨0x48044, 0x0, 0, 16, .rwk, 1000, 0, 1, [(10, 65535)], false⟩
def SEQ_TIME_CASC_TMO_MS : Field := ⟨0x48044, 0x0, 16, 16, .rwk, 1000, 0, 1, [(1, 65535)], false⟩
def SEQ_CMD_UP : Field := ⟨0x48048, 0x0, 0, 1, .cmd, 0, 0, 1, [], false⟩
def SEQ_CMD_DOWN : Field := ⟨0x48048, 0x0, 1, 1, .cmd, 0, 0, 1, [], false⟩
def SEQ_CMD_CLEAR : Field := ⟨0x48048, 0x0, 2, 1, .cmd, 0, 0, 1, [], false⟩
def SEQ_STATE_STATE : Field := ⟨0x4804C, 0x0, 0, 3, .ro, 0, 0, 1, [], false⟩
def SEQ_STATE_STEP : Field := ⟨0x4804C, 0x0, 3, 5, .ro, 31, 0, 1, [], false⟩
def SEQ_STATE_RETRIES : Field := ⟨0x4804C, 0x0, 8, 4, .ro, 0, 0, 1, [], false⟩
def SEQ_STATE_PRIMARY : Field := ⟨0x4804C, 0x0, 12, 1, .ro, 0, 0, 1, [], false⟩
def SEQ_STATE_DN_KIND : Field := ⟨0x4804C, 0x0, 13, 2, .ro, 0, 0, 1, [], false⟩
def SEQ_QUAL_MASK : Field := ⟨0x48050, 0x0, 0, 24, .ro, 0, 0, 1, [], false⟩
def SEQ_EN_OUT_MASK : Field := ⟨0x48054, 0x0, 0, 24, .ro, 0, 0, 1, [], false⟩
def SEQ_PG_IN_MASK : Field := ⟨0x48058, 0x0, 0, 24, .ro, 0, 0, 1, [], false⟩
def SEQ_OWN_RAILS : Field := ⟨0x4805C, 0x0, 0, 24, .ro, 0, 0, 1, [], false⟩
def SEQ_OWN_RESETS : Field := ⟨0x4805C, 0x0, 24, 8, .ro, 0, 0, 1, [], false⟩
def SEQ_SG_CFG_MASK : Field := ⟨0x48060, 0x0, 0, 24, .rwk, 0xffffff, 0, 1, [], false⟩
def SEQ_FF_RAIL : Field := ⟨0x48064, 0x0, 0, 5, .ro, 31, 0, 1, [], false⟩
def SEQ_FF_KIND : Field := ⟨0x48064, 0x0, 5, 3, .ro, 0, 0, 1, [], false⟩
def SEQ_FF_RETRIES : Field := ⟨0x48064, 0x0, 8, 4, .ro, 0, 0, 1, [], false⟩
def SEQ_FF_PG : Field := ⟨0x48064, 0x0, 12, 1, .ro, 0, 0, 1, [], false⟩
def SEQ_FF_V : Field := ⟨0x48064, 0x0, 16, 16, .ro, 0xffff, 0, 1, [], false⟩
def SEQ_FF_TICK_TICK : Field := ⟨0x48068, 0x0, 0, 32, .ro, 0, 0, 1, [], false⟩
def SEQ_OOO_MASK : Field := ⟨0x4806C, 0x0, 0, 24, .ro, 0, 0, 1, [], false⟩
def SEQ_STUCK_MASK : Field := ⟨0x48070, 0x0, 0, 24, .ro, 0, 0, 1, [], false⟩
def SEQ_STUCK_CASC : Field := ⟨0x48070, 0x0, 24, 1, .ro, 0, 0, 1, [], false⟩
def SEQ_CNT_SEQUENCES : Field := ⟨0x48074, 0x0, 0, 16, .ro, 0, 0, 1, [], false⟩
def SEQ_CNT_RETRIES : Field := ⟨0x48074, 0x0, 16, 16, .ro, 0, 0, 1, [], false⟩
def SEQ_CASC_UP_IN : Field := ⟨0x48078, 0x0, 0, 1, .ro, 0, 0, 1, [], false⟩
def SEQ_CASC_UP_OUT : Field := ⟨0x48078, 0x0, 1, 1, .ro, 0, 0, 1, [], false⟩
def SEQ_CASC_DN_IN : Field := ⟨0x48078, 0x0, 2, 1, .ro, 0, 0, 1, [], false⟩
def SEQ_CASC_DN_OUT : Field := ⟨0x48078, 0x0, 3, 1, .ro, 0, 0, 1, [], false⟩
def SEQ_CASC_FAULTS : Field := ⟨0x48078, 0x0, 8, 8, .ro, 0, 0, 1, [], false⟩
def SEQ_DN_TIME_LAST : Field := ⟨0x4807C, 0x0, 0, 16, .ro, 0, 0, 1, [], false⟩
def SEQ_DN_TIME_MAX : Field := ⟨0x4807C, 0x0, 16, 16, .ro, 0, 0, 1, [], false⟩
def SEQ_RST_MASK_MASK : Field := ⟨0x48080, 0x8, 0, 24, .rwk, 0, 0, 1, [], false⟩
def SEQ_RST_MASK_SEQ_DONE : Field := ⟨0x48080, 0x8, 24, 1, .rwk, 0, 0, 1, [], false⟩
def SEQ_RST_TIME_STRETCH : Field := ⟨0x48084, 0x8, 0, 16, .rwk, 100, 0, 1, [(1, 10000)], false⟩
def SEQ_RST_TIME_ASSERTED : Field := ⟨0x48084, 0x8, 24, 1, .ro, 1, 0, 1, [], false⟩
def SEQ_RAIL_CFG_EN : Field := ⟨0x480C0, 0x10, 0, 1, .rwk, 0, 0, 1, [], false⟩
def SEQ_RAIL_CFG_POL : Field := ⟨0x480C0, 0x10, 1, 1, .rwk, 1, 0, 1, [], false⟩
def SEQ_RAIL_CFG_PG_SRC : Field := ⟨0x480C0, 0x10, 2, 1, .rwk, 0, 0, 1, [], false⟩
def SEQ_RAIL_CFG_MON_EN : Field := ⟨0x480C0, 0x10, 3, 1, .rwk, 1, 0, 1, [], false⟩
def SEQ_RAIL_CFG_STEP : Field := ⟨0x480C0, 0x10, 8, 5, .rwk, 0, 0, 1, [(0, 23)], false⟩
def SEQ_RAIL_CFG_DLY_ON : Field := ⟨0x480C0, 0x10, 16, 16, .rwk, 0, 0, 1, [], false⟩
def SEQ_RAIL_TIME_DEGL : Field := ⟨0x480C4, 0x10, 0, 8, .rwk, 20, 0, 1, [(1, 255)], false⟩
def SEQ_RAIL_TIME_QUAL : Field := ⟨0x480C4, 0x10, 8, 8, .rwk, 10, 0, 1, [(1, 255)], false⟩
def SEQ_RAIL_TIME_WIN : Field := ⟨0x480C4, 0x10, 16, 16, .rwk, 100, 0, 1, [(1, 65535)], false⟩
def SEQ_RAIL_DN_V_OFF : Field := ⟨0x480C8, 0x10, 0, 16, .rwk, 300, 0, 1, [], false⟩
def SEQ_RAIL_DN_DIS_TMO : Field := ⟨0x480C8, 0x10, 16, 8, .rwk, 10, 0, 1, [(1, 255)], false⟩
def SEQ_RAIL_DN_P7_DLY : Field := ⟨0x480C8, 0x10, 24, 8, .rwk, 0, 0, 1, [], false⟩
def SEQ_RAIL_STAT_STATE : Field := ⟨0x480CC, 0x10, 0, 3, .ro, 0, 0, 1, [], false⟩
def SEQ_RAIL_STAT_PG : Field := ⟨0x480CC, 0x10, 3, 1, .ro, 0, 0, 1, [], false⟩
def SEQ_RAIL_STAT_EN_OUT : Field := ⟨0x480CC, 0x10, 4, 1, .ro, 0, 0, 1, [], false⟩
def SEQ_RAIL_STAT_OWNED : Field := ⟨0x480CC, 0x10, 5, 1, .ro, 0, 0, 1, [], false⟩
def SEQ_RAIL_STAT_OOO : Field := ⟨0x480CC, 0x10, 6, 1, .ro, 0, 0, 1, [], false⟩
def SEQ_RAIL_STAT_DN_STUCK : Field := ⟨0x480CC, 0x10, 7, 1, .ro, 0, 0, 1, [], false⟩
def SEQ_RAIL_STAT_CHATTER : Field := ⟨0x480CC, 0x10, 8, 8, .ro, 0, 0, 1, [], false⟩
def SEQ_RAIL_STAT_FAULTS : Field := ⟨0x480CC, 0x10, 16, 8, .ro, 0, 0, 1, [], false⟩
def SEQ_IEN_RUN : Field := ⟨0x48010, 0x0, 0, 1, .rwk, 0, 0, 1, [], false⟩
def SEQ_IEN_ACTIVE : Field := ⟨0x48010, 0x0, 1, 1, .rwk, 0, 0, 1, [], false⟩
def SEQ_IEN_RETRY_WAIT : Field := ⟨0x48010, 0x0, 2, 1, .rwk, 0, 0, 1, [], false⟩
def SEQ_IEN_FAULT : Field := ⟨0x48010, 0x0, 3, 1, .rwk, 0, 0, 1, [], false⟩
def SEQ_IEN_STUCK : Field := ⟨0x48010, 0x0, 4, 1, .rwk, 0, 0, 1, [], false⟩
def SEQ_IEN_CASC_WAIT : Field := ⟨0x48010, 0x0, 5, 1, .rwk, 0, 0, 1, [], false⟩

def rowsSEQA : List RegRow := [
  ⟨0x48000, 0x0, 1, .s, [], [0x1000012]⟩,
  ⟨0x48004, 0x0, 1, .s, [], [0x80]⟩,
  ⟨0x48008, 0x0, 1, .c, [SEQ_CTRL_EN], []⟩,
  ⟨0x4800C, 0x0, 1, .s, [SEQ_STAT_RUN, SEQ_STAT_ACTIVE, SEQ_STAT_RETRY_WAIT, SEQ_STAT_FAULT, SEQ_STAT_STUCK, SEQ_STAT_CASC_WAIT], []⟩,
  ⟨0x48010, 0x0, 1, .c, [SEQ_IEN_RUN, SEQ_IEN_ACTIVE, SEQ_IEN_RETRY_WAIT, SEQ_IEN_FAULT, SEQ_IEN_STUCK, SEQ_IEN_CASC_WAIT], []⟩,
  ⟨0x48014, 0x0, 1, .s, [], []⟩,
  ⟨0x48018, 0x0, 1, .s, [SEQ_CFGCRC_CRC], []⟩,
  ⟨0x4801C, 0x0, 1, .c, [SEQ_LOCK_LOCK, SEQ_LOCK_STICKY], []⟩,
  ⟨0x48040, 0x0, 1, .c, [SEQ_CFG_AUTO_UP, SEQ_CFG_DN_MODE, SEQ_CFG_UP_EN, SEQ_CFG_DN_EN, SEQ_CFG_RETRY_MAX, SEQ_CFG_CASC_STEP], []⟩,
  ⟨0x48044, 0x0, 1, .c, [SEQ_TIME_RETRY_MS, SEQ_TIME_CASC_TMO_MS], []⟩,
  ⟨0x48048, 0x0, 1, .k, [SEQ_CMD_UP, SEQ_CMD_DOWN, SEQ_CMD_CLEAR], []⟩,
  ⟨0x4804C, 0x0, 1, .s, [SEQ_STATE_STATE, SEQ_STATE_STEP, SEQ_STATE_RETRIES, SEQ_STATE_PRIMARY, SEQ_STATE_DN_KIND], []⟩,
  ⟨0x48050, 0x0, 1, .s, [SEQ_QUAL_MASK], []⟩,
  ⟨0x48054, 0x0, 1, .s, [SEQ_EN_OUT_MASK], []⟩,
  ⟨0x48058, 0x0, 1, .s, [SEQ_PG_IN_MASK], []⟩,
  ⟨0x4805C, 0x0, 1, .s, [SEQ_OWN_RAILS, SEQ_OWN_RESETS], []⟩,
  ⟨0x48060, 0x0, 1, .c, [SEQ_SG_CFG_MASK], []⟩,
  ⟨0x48064, 0x0, 1, .s, [SEQ_FF_RAIL, SEQ_FF_KIND, SEQ_FF_RETRIES, SEQ_FF_PG, SEQ_FF_V], []⟩,
  ⟨0x48068, 0x0, 1, .s, [SEQ_FF_TICK_TICK], []⟩,
  ⟨0x4806C, 0x0, 1, .s, [SEQ_OOO_MASK], []⟩,
  ⟨0x48070, 0x0, 1, .s, [SEQ_STUCK_MASK, SEQ_STUCK_CASC], []⟩,
  ⟨0x48074, 0x0, 1, .s, [SEQ_CNT_SEQUENCES, SEQ_CNT_RETRIES], []⟩,
  ⟨0x48078, 0x0, 1, .s, [SEQ_CASC_UP_IN, SEQ_CASC_UP_OUT, SEQ_CASC_DN_IN, SEQ_CASC_DN_OUT, SEQ_CASC_FAULTS], []⟩,
  ⟨0x4807C, 0x0, 1, .s, [SEQ_DN_TIME_LAST, SEQ_DN_TIME_MAX], []⟩]

def rowsSEQB : List RegRow := [
  ⟨0x48080, 0x8, 8, .c, [SEQ_RST_MASK_MASK, SEQ_RST_MASK_SEQ_DONE], []⟩,
  ⟨0x48084, 0x8, 8, .c, [SEQ_RST_TIME_STRETCH, SEQ_RST_TIME_ASSERTED], []⟩,
  ⟨0x480C0, 0x10, 24, .c, [SEQ_RAIL_CFG_EN, SEQ_RAIL_CFG_POL, SEQ_RAIL_CFG_PG_SRC, SEQ_RAIL_CFG_MON_EN, SEQ_RAIL_CFG_STEP, SEQ_RAIL_CFG_DLY_ON], []⟩,
  ⟨0x480C4, 0x10, 24, .c, [SEQ_RAIL_TIME_DEGL, SEQ_RAIL_TIME_QUAL, SEQ_RAIL_TIME_WIN], []⟩,
  ⟨0x480C8, 0x10, 24, .c, [SEQ_RAIL_DN_V_OFF, SEQ_RAIL_DN_DIS_TMO, SEQ_RAIL_DN_P7_DLY], []⟩,
  ⟨0x480CC, 0x10, 24, .s, [SEQ_RAIL_STAT_STATE, SEQ_RAIL_STAT_PG, SEQ_RAIL_STAT_EN_OUT, SEQ_RAIL_STAT_OWNED, SEQ_RAIL_STAT_OOO, SEQ_RAIL_STAT_DN_STUCK, SEQ_RAIL_STAT_CHATTER, SEQ_RAIL_STAT_FAULTS], []⟩]

/-- Every register of page 0x12. -/
def rowsSEQ : List RegRow := rowsSEQA ++ rowsSEQB

/-! Page 0x13 RMN: R75 and R361 (13_rail_sequencing.md), R362 (13_rail_sequencing.md). -/

def RMN_LOCK_LOCK : Field := ⟨0x4C01C, 0x0, 0, 1, .rwk, 0, 0, 1, [], false⟩
def RMN_LOCK_STICKY : Field := ⟨0x4C01C, 0x0, 1, 1, .rw, 0, 0, 1, [], false⟩
def RMN_CFGCRC_CRC : Field := ⟨0x4C018, 0x0, 0, 32, .ro, 0, 0, 1, [], false⟩
def RMN_CTRL_EN : Field := ⟨0x4C008, 0x0, 0, 1, .rwk, 1, 0, 1, [], false⟩
def RMN_STAT_WARN : Field := ⟨0x4C00C, 0x0, 0, 1, .ro, 0, 0, 1, [], false⟩
def RMN_STAT_TIMER : Field := ⟨0x4C00C, 0x0, 1, 1, .ro, 0, 0, 1, [], false⟩
def RMN_STAT_EXPIRED : Field := ⟨0x4C00C, 0x0, 2, 1, .ro, 0, 0, 1, [], false⟩
def RMN_STAT_TEST : Field := ⟨0x4C00C, 0x0, 3, 1, .ro, 0, 0, 1, [], false⟩
def RMN_STAT_SG_LOW : Field := ⟨0x4C00C, 0x0, 4, 1, .ro, 0, 0, 1, [], false⟩
def RMN_CFG_TEST_S : Field := ⟨0x4C040, 0x0, 0, 8, .rwk, 60, 0, 1, [(1, 255)], false⟩
def RMN_CFG_SG_EN : Field := ⟨0x4C040, 0x0, 8, 1, .rwk, 1, 0, 1, [], false⟩
def RMN_TIME_FLT_T : Field := ⟨0x4C044, 0x0, 0, 16, .rwk, 1000, 0, 1, [(10, 65535)], false⟩
def RMN_TIME_WARN_T : Field := ⟨0x4C044, 0x0, 16, 16, .rwk, 100, 0, 1, [(1, 65535)], false⟩
def RMN_CMD_TEST : Field := ⟨0x4C048, 0x0, 0, 1, .cmd, 0, 0, 1, [], false⟩
def RMN_CMD_TEST_END : Field := ⟨0x4C048, 0x0, 1, 1, .cmd, 0, 0, 1, [], false⟩
def RMN_WARN_MASK : Field := ⟨0x4C04C, 0x0, 0, 24, .ro, 0, 0, 1, [], false⟩
def RMN_TIMER_MASK : Field := ⟨0x4C050, 0x0, 0, 24, .ro, 0, 0, 1, [], false⟩
def RMN_EXPIRED_MASK : Field := ⟨0x4C054, 0x0, 0, 24, .ro, 0, 0, 1, [], false⟩
def RMN_SG_SG : Field := ⟨0x4C058, 0x0, 0, 1, .ro, 0, 0, 1, [], false⟩
def RMN_SG_HELD : Field := ⟨0x4C058, 0x0, 1, 1, .ro, 0, 0, 1, [], false⟩
def RMN_SG_TEST_LEFT : Field := ⟨0x4C058, 0x0, 8, 8, .ro, 0, 0, 1, [], false⟩
def RMN_SG_DROPS : Field := ⟨0x4C058, 0x0, 16, 16, .ro, 0, 0, 1, [], false⟩
def RMN_CNT_WARNINGS : Field := ⟨0x4C05C, 0x0, 0, 16, .ro, 0, 0, 1, [], false⟩
def RMN_CNT_EXPIRIES : Field := ⟨0x4C05C, 0x0, 16, 16, .ro, 0, 0, 1, [], false⟩
def RMN_RAIL_CFG_NOM : Field := ⟨0x4C060, 0xC, 0, 16, .rwk, 1000, 0, 1, [(1, 65535)], false⟩
def RMN_RAIL_CFG_DIV : Field := ⟨0x4C060, 0xC, 16, 8, .rwk, 16, 0, 1, [(16, 255)], false⟩
def RMN_RAIL_CFG_FLT_ACT : Field := ⟨0x4C060, 0xC, 24, 2, .rwk, 1, 0, 1, [(0, 2)], false⟩
def RMN_RAIL_CFG_HYST : Field := ⟨0x4C060, 0xC, 26, 6, .rwk, 5, 0, 1, [], false⟩
def RMN_RAIL_LVL_UV_WARN : Field := ⟨0x4C064, 0xC, 0, 8, .rwk, 30, 0, 1, [(1, 255)], false⟩
def RMN_RAIL_LVL_OV_WARN : Field := ⟨0x4C064, 0xC, 8, 8, .rwk, 30, 0, 1, [(1, 255)], false⟩
def RMN_RAIL_LVL_UV_FLT : Field := ⟨0x4C064, 0xC, 16, 8, .rwk, 50, 0, 1, [(1, 255)], false⟩
def RMN_RAIL_LVL_OV_FLT : Field := ⟨0x4C064, 0xC, 24, 8, .rwk, 50, 0, 1, [(1, 255)], false⟩
def RMN_RAIL_MEAS_V : Field := ⟨0x4C068, 0xC, 0, 16, .ro, 0xffff, 0, 1, [], false⟩
def RMN_RAIL_MEAS_WARN_UV : Field := ⟨0x4C068, 0xC, 16, 1, .ro, 0, 0, 1, [], false⟩
def RMN_RAIL_MEAS_WARN_OV : Field := ⟨0x4C068, 0xC, 17, 1, .ro, 0, 0, 1, [], false⟩
def RMN_RAIL_MEAS_TIMER : Field := ⟨0x4C068, 0xC, 18, 1, .ro, 0, 0, 1, [], false⟩
def RMN_RAIL_MEAS_EXPIRED : Field := ⟨0x4C068, 0xC, 19, 1, .ro, 0, 0, 1, [], false⟩
def RMN_IEN_WARN : Field := ⟨0x4C010, 0x0, 0, 1, .rwk, 0, 0, 1, [], false⟩
def RMN_IEN_TIMER : Field := ⟨0x4C010, 0x0, 1, 1, .rwk, 0, 0, 1, [], false⟩
def RMN_IEN_EXPIRED : Field := ⟨0x4C010, 0x0, 2, 1, .rwk, 0, 0, 1, [], false⟩
def RMN_IEN_TEST : Field := ⟨0x4C010, 0x0, 3, 1, .rwk, 0, 0, 1, [], false⟩
def RMN_IEN_SG_LOW : Field := ⟨0x4C010, 0x0, 4, 1, .rwk, 0, 0, 1, [], false⟩

def rowsRMNA : List RegRow := [
  ⟨0x4C000, 0x0, 1, .s, [], [0x1000013]⟩,
  ⟨0x4C004, 0x0, 1, .s, [], [0x50]⟩,
  ⟨0x4C008, 0x0, 1, .c, [RMN_CTRL_EN], []⟩,
  ⟨0x4C00C, 0x0, 1, .s, [RMN_STAT_WARN, RMN_STAT_TIMER, RMN_STAT_EXPIRED, RMN_STAT_TEST, RMN_STAT_SG_LOW], []⟩,
  ⟨0x4C010, 0x0, 1, .c, [RMN_IEN_WARN, RMN_IEN_TIMER, RMN_IEN_EXPIRED, RMN_IEN_TEST, RMN_IEN_SG_LOW], []⟩,
  ⟨0x4C014, 0x0, 1, .s, [], []⟩,
  ⟨0x4C018, 0x0, 1, .s, [RMN_CFGCRC_CRC], []⟩,
  ⟨0x4C01C, 0x0, 1, .c, [RMN_LOCK_LOCK, RMN_LOCK_STICKY], []⟩,
  ⟨0x4C040, 0x0, 1, .c, [RMN_CFG_TEST_S, RMN_CFG_SG_EN], []⟩,
  ⟨0x4C044, 0x0, 1, .c, [RMN_TIME_FLT_T, RMN_TIME_WARN_T], []⟩,
  ⟨0x4C048, 0x0, 1, .k, [RMN_CMD_TEST, RMN_CMD_TEST_END], []⟩,
  ⟨0x4C04C, 0x0, 1, .s, [RMN_WARN_MASK], []⟩,
  ⟨0x4C050, 0x0, 1, .s, [RMN_TIMER_MASK], []⟩,
  ⟨0x4C054, 0x0, 1, .s, [RMN_EXPIRED_MASK], []⟩,
  ⟨0x4C058, 0x0, 1, .s, [RMN_SG_SG, RMN_SG_HELD, RMN_SG_TEST_LEFT, RMN_SG_DROPS], []⟩,
  ⟨0x4C05C, 0x0, 1, .s, [RMN_CNT_WARNINGS, RMN_CNT_EXPIRIES], []⟩,
  ⟨0x4C060, 0xC, 24, .c, [RMN_RAIL_CFG_NOM, RMN_RAIL_CFG_DIV, RMN_RAIL_CFG_FLT_ACT, RMN_RAIL_CFG_HYST], []⟩,
  ⟨0x4C064, 0xC, 24, .c, [RMN_RAIL_LVL_UV_WARN, RMN_RAIL_LVL_OV_WARN, RMN_RAIL_LVL_UV_FLT, RMN_RAIL_LVL_OV_FLT], []⟩,
  ⟨0x4C068, 0xC, 24, .d, [RMN_RAIL_MEAS_V, RMN_RAIL_MEAS_WARN_UV, RMN_RAIL_MEAS_WARN_OV, RMN_RAIL_MEAS_TIMER, RMN_RAIL_MEAS_EXPIRED], []⟩]

/-- Every register of page 0x13. -/
def rowsRMN : List RegRow := rowsRMNA

/-! Page 0x14 BAT: R75 and R306 (11_battery_estimation.md), R307 (11_battery_estimation.md), R308 (11_battery_estimation.md). -/

def BAT_LOCK_LOCK : Field := ⟨0x5001C, 0x0, 0, 1, .rwk, 0, 0, 1, [], false⟩
def BAT_LOCK_STICKY : Field := ⟨0x5001C, 0x0, 1, 1, .rw, 0, 0, 1, [], false⟩
def BAT_CFGCRC_CRC : Field := ⟨0x50018, 0x0, 0, 32, .ro, 0, 0, 1, [], false⟩
def BAT_CTRL_EN : Field := ⟨0x50008, 0x0, 0, 1, .rwk, 1, 0, 1, [], false⟩
def BAT_STAT_EXHAUST_RULE : Field := ⟨0x5000C, 0x0, 0, 1, .ro, 0, 0, 1, [], false⟩
def BAT_STAT_STRING_OUT : Field := ⟨0x5000C, 0x0, 1, 1, .ro, 0, 0, 1, [], false⟩
def BAT_STAT_VOLTAGE_SRC : Field := ⟨0x5000C, 0x0, 2, 1, .ro, 0, 0, 1, [], false⟩
def BAT_STAT_BIAS : Field := ⟨0x5000C, 0x0, 3, 1, .ro, 0, 0, 1, [], false⟩
def BAT_STAT_CAP_STALE : Field := ⟨0x5000C, 0x0, 4, 1, .ro, 0, 0, 1, [], false⟩
def BAT_STAT_PERT_ON : Field := ⟨0x5000C, 0x0, 5, 1, .ro, 0, 0, 1, [], false⟩
def BAT_STAT_TBL_UNPROG : Field := ⟨0x5000C, 0x0, 6, 1, .ro, 0, 0, 1, [], false⟩
def BAT_STAT_TRIPPED : Field := ⟨0x5000C, 0x0, 7, 1, .ro, 0, 0, 1, [], false⟩
def BAT_CFG_STR_EN : Field := ⟨0x50040, 0x0, 0, 8, .rwk, 0, 0, 1, [], false⟩
def BAT_CFG_LEARN_EN : Field := ⟨0x50040, 0x0, 8, 1, .rwk, 1, 0, 1, [], false⟩
def BAT_CFG_IMP_EN : Field := ⟨0x50040, 0x0, 9, 1, .rwk, 1, 0, 1, [], false⟩
def BAT_CFG_AUTO_RECON : Field := ⟨0x50040, 0x0, 10, 1, .rwk, 1, 0, 1, [], false⟩
def BAT_CFG_CHG_TMIN : Field := ⟨0x50040, 0x0, 16, 8, .rwk, 0, 0, 1, [(-40, 60)], true⟩
def BAT_CFG_CHG_TMAX : Field := ⟨0x50040, 0x0, 24, 8, .rwk, 45, 0, 1, [(-39, 80)], true⟩
def BAT_REST_REST_MIN : Field := ⟨0x50044, 0x0, 0, 8, .rwk, 20, 0, 1, [(5, 255)], false⟩
def BAT_REST_I_REST : Field := ⟨0x50044, 0x0, 8, 8, .rwk, 10, 0, 1, [(1, 100)], false⟩
def BAT_REST_DVDT : Field := ⟨0x50044, 0x0, 16, 16, .rwk, 50, 0, 1, [(1, 10000)], false⟩
def BAT_LEARN_LEARN_SPAN : Field := ⟨0x50048, 0x0, 0, 8, .rwk, 35, 0, 1, [(10, 90)], false⟩
def BAT_LEARN_LEARN_GAIN : Field := ⟨0x50048, 0x0, 8, 8, .rwk, 64, 0, 1, [(1, 255)], false⟩
def BAT_LEARN_LEARN_UNC : Field := ⟨0x50048, 0x0, 16, 8, .rwk, 50, 0, 1, [(5, 255)], false⟩
def BAT_LEARN_STALE_DAYS : Field := ⟨0x50048, 0x0, 24, 8, .rwk, 30, 0, 1, [(1, 255)], false⟩
def BAT_PERT_PERT_PCT : Field := ⟨0x5004C, 0x0, 0, 8, .rwk, 10, 0, 1, [(5, 20)], false⟩
def BAT_PERT_PERT_HZ : Field := ⟨0x5004C, 0x0, 8, 2, .rwk, 1, 0, 1, [(0, 2)], false⟩
def BAT_PERT_PERT_HOLD : Field := ⟨0x5004C, 0x0, 16, 8, .rwk, 20, 0, 1, [(11, 255)], false⟩
def BAT_PERT_IMP_GAIN : Field := ⟨0x5004C, 0x0, 24, 8, .rwk, 64, 0, 1, [(1, 255)], false⟩
def BAT_UNC_UNC_OFS : Field := ⟨0x50050, 0x0, 0, 16, .rwk, 1000, 0, 1, [], false⟩
def BAT_UNC_UNC_GAIN : Field := ⟨0x50050, 0x0, 16, 16, .rwk, 1000, 0, 1, [], false⟩
def BAT_UNC2_UNC_BOOT : Field := ⟨0x50054, 0x0, 0, 16, .rwk, 200, 0, 1, [], false⟩
def BAT_UNC2_V_ACC : Field := ⟨0x50054, 0x0, 16, 16, .rwk, 200, 0, 1, [(1, 10000)], false⟩
def BAT_TBL_ADDR_INDEX : Field := ⟨0x50058, 0x0, 0, 9, .rw, 0, 0, 1, [(0, 159)], false⟩
def BAT_TBL_ADDR_SET : Field := ⟨0x50058, 0x0, 12, 1, .rw, 0, 0, 1, [], false⟩
def BAT_TBL_ADDR_AUTOINC : Field := ⟨0x50058, 0x0, 16, 1, .rw, 1, 0, 1, [], false⟩
def BAT_TBL_ADDR_VIEW : Field := ⟨0x50058, 0x0, 17, 1, .rw, 0, 0, 1, [], false⟩
def BAT_TBL_DATA_DATA : Field := ⟨0x5005C, 0x0, 0, 32, .rw, 0, 0, 1, [], false⟩
def BAT_CMD_STR : Field := ⟨0x50060, 0x0, 0, 3, .wo, 0, 0, 1, [], false⟩
def BAT_CMD_OPEN : Field := ⟨0x50060, 0x0, 8, 1, .cmd, 0, 0, 1, [], false⟩
def BAT_CMD_CLOSE : Field := ⟨0x50060, 0x0, 9, 1, .cmd, 0, 0, 1, [], false⟩
def BAT_CMD_RESEED : Field := ⟨0x50060, 0x0, 10, 1, .cmd, 0, 0, 1, [], false⟩
def BAT_CMD_RESTORE : Field := ⟨0x50060, 0x0, 11, 1, .cmd, 0, 0, 1, [], false⟩
def BAT_CMD_TBL_COMMIT : Field := ⟨0x50060, 0x0, 12, 1, .cmd, 0, 0, 1, [], false⟩
def BAT_SHIP_CMD_KEY : Field := ⟨0x50064, 0x0, 0, 16, .wo, 0, 0, 1, [], false⟩
def BAT_SHIP_CMD_SHIP : Field := ⟨0x50064, 0x0, 16, 1, .cmd, 0, 0, 1, [], false⟩
def BAT_PERT_STAT_STATE : Field := ⟨0x50068, 0x0, 0, 2, .ro, 0, 0, 1, [], false⟩
def BAT_PERT_STAT_REJECTS : Field := ⟨0x50068, 0x0, 8, 8, .ro, 0, 0, 1, [], false⟩
def BAT_PERT_STAT_WINDOWS : Field := ⟨0x50068, 0x0, 16, 16, .ro, 0, 0, 1, [], false⟩
def BAT_PERT_AMP_A : Field := ⟨0x5006C, 0x0, 0, 32, .ro, 0, 0, 1, [], false⟩
def BAT_CONN_CLOSED : Field := ⟨0x50070, 0x0, 0, 8, .ro, 0, 0, 1, [], false⟩
def BAT_CONN_EMPTY : Field := ⟨0x50070, 0x0, 8, 8, .ro, 0, 0, 1, [], false⟩
def BAT_CONN_PRESENT : Field := ⟨0x50070, 0x0, 16, 8, .ro, 0, 0, 1, [], false⟩
def BAT_CONN_REST : Field := ⟨0x50070, 0x0, 24, 8, .ro, 0, 0, 1, [], false⟩
def BAT_CHG_REQ_LIM : Field := ⟨0x50074, 0x0, 0, 32, .ro, 0, 0, 1, [], false⟩
def BAT_TBL_CRC_CRC : Field := ⟨0x50078, 0x0, 0, 32, .ro, 0, 0, 1, [], false⟩
def BAT_CNT_SWAPS : Field := ⟨0x5007C, 0x0, 0, 8, .ro, 0, 0, 1, [], false⟩
def BAT_CNT_TBL_REFUSED : Field := ⟨0x5007C, 0x0, 8, 8, .ro, 0, 0, 1, [], false⟩
def BAT_CNT_LEARNS : Field := ⟨0x5007C, 0x0, 16, 16, .ro, 0, 0, 1, [], false⟩
def BAT_CHG_V_CHG : Field := ⟨0x50280, 0x0, 0, 16, .rwk, 4320, 0, 1, [(100, 65535)], false⟩
def BAT_CHG_V_TAPER : Field := ⟨0x50280, 0x0, 16, 16, .rwk, 100, 0, 1, [(1, 10000)], false⟩
def BAT_STR_CFG_ID_MODE : Field := ⟨0x50080, 0x40, 0, 2, .rwk, 1, 0, 1, [(0, 2)], false⟩
def BAT_STR_CFG_TSET : Field := ⟨0x50080, 0x40, 2, 1, .rwk, 0, 0, 1, [], false⟩
def BAT_STR_CFG_HALF : Field := ⟨0x50080, 0x40, 3, 1, .rwk, 0, 0, 1, [], false⟩
def BAT_STR_CFG_TEMP_SRC : Field := ⟨0x50080, 0x40, 4, 4, .rwk, 15, 0, 1, [(0, 12), (15, 15)], false⟩
def BAT_STR_CFG_I_CHG : Field := ⟨0x50080, 0x40, 8, 8, .rwk, 20, 0, 1, [(1, 100)], false⟩
def BAT_STR_CFG_Q_NOM : Field := ⟨0x50080, 0x40, 16, 16, .rwk, 1000, 0, 1, [(10, 65535)], false⟩
def BAT_STR_VSCALE_RATIO : Field := ⟨0x50084, 0x40, 0, 32, .rwk, 0x280000, 0, 1, [(655360, 13107200)], false⟩
def BAT_STR_VSD_V_SD : Field := ⟨0x50088, 0x40, 0, 32, .rwk, 0x57e40, 0, 1, [], false⟩
def BAT_STR_LIM_SD_MARGIN : Field := ⟨0x5008C, 0x40, 0, 16, .rwk, 5000, 0, 1, [(0, 30000)], false⟩
def BAT_STR_LIM_SD_QUAL : Field := ⟨0x5008C, 0x40, 16, 8, .rwk, 10, 0, 1, [(1, 255)], false⟩
def BAT_STR_LIM_TRIP_T : Field := ⟨0x5008C, 0x40, 24, 8, .rwk, 4, 0, 1, [(1, 255)], false⟩
def BAT_STR_TRIP_I_TRIP : Field := ⟨0x50090, 0x40, 0, 16, .rwk, 300, 0, 1, [(1, 65535)], false⟩
def BAT_STR_TRIP_R_NEW : Field := ⟨0x50090, 0x40, 16, 16, .rwk, 1000, 0, 1, [(1, 65535)], false⟩
def BAT_STR_RC_RCA_RATIO : Field := ⟨0x50094, 0x40, 0, 8, .rwk, 8, 0, 1, [], false⟩
def BAT_STR_RC_RCB_RATIO : Field := ⟨0x50094, 0x40, 8, 8, .rwk, 8, 0, 1, [], false⟩
def BAT_STR_RC_TAU_A : Field := ⟨0x50094, 0x40, 16, 8, .rwk, 10, 0, 1, [(1, 255)], false⟩
def BAT_STR_RC_TAU_B : Field := ⟨0x50094, 0x40, 24, 8, .rwk, 30, 0, 1, [(1, 255)], false⟩
def BAT_STR_V_V : Field := ⟨0x50098, 0x40, 0, 32, .ro, 0x80000000, 0, 1, [], false⟩
def BAT_SOC_SOC : Field := ⟨0x5009C, 0x40, 0, 16, .ro, 0xffff, 0, 1, [], false⟩
def BAT_SOC_SOC_UNC : Field := ⟨0x5009C, 0x40, 16, 16, .ro, 0xffff, 0, 1, [], false⟩
def BAT_SOC_RAW_RAW : Field := ⟨0x500A0, 0x40, 0, 16, .ro, 0xffff, 0, 1, [], false⟩
def BAT_SOC_RAW_SOC_V : Field := ⟨0x500A0, 0x40, 16, 16, .ro, 0xffff, 0, 1, [], false⟩
def BAT_Q_LO_Q_LO : Field := ⟨0x500A4, 0x40, 0, 32, .ro, 0, 0, 1, [], false⟩
def BAT_Q_HI_Q_HI : Field := ⟨0x500A8, 0x40, 0, 32, .ro, 0, 0, 1, [], false⟩
def BAT_Q_LEARN_Q : Field := ⟨0x500AC, 0x40, 0, 32, .ro, 0, 0, 1, [], false⟩
def BAT_R_INT_R : Field := ⟨0x500B0, 0x40, 0, 32, .ro, 0xffffffff, 0, 1, [], false⟩
def BAT_E_REM_E : Field := ⟨0x500B4, 0x40, 0, 32, .ro, 0xffffffff, 0, 1, [], false⟩
def BAT_STR_STAT_STATE : Field := ⟨0x500B8, 0x40, 0, 3, .ro, 0, 0, 1, [], false⟩
def BAT_STR_STAT_SOC_SRC : Field := ⟨0x500B8, 0x40, 3, 2, .ro, 3, 0, 1, [], false⟩
def BAT_STR_STAT_CAPACITY_LOW_BIAS : Field := ⟨0x500B8, 0x40, 5, 1, .ro, 0, 0, 1, [], false⟩
def BAT_STR_STAT_CAPACITY_HIGH_BIAS : Field := ⟨0x500B8, 0x40, 6, 1, .ro, 0, 0, 1, [], false⟩
def BAT_STR_STAT_CAP_STALE : Field := ⟨0x500B8, 0x40, 7, 1, .ro, 0, 0, 1, [], false⟩
def BAT_STR_STAT_ID_CODE : Field := ⟨0x500B8, 0x40, 8, 3, .ro, 0, 0, 1, [], false⟩
def BAT_STR_STAT_ID_VALID : Field := ⟨0x500B8, 0x40, 11, 1, .ro, 0, 0, 1, [], false⟩
def BAT_STR_STAT_R_VALID : Field := ⟨0x500B8, 0x40, 12, 1, .ro, 0, 0, 1, [], false⟩
def BAT_STR_STAT_RESCALED : Field := ⟨0x500B8, 0x40, 13, 1, .ro, 0, 0, 1, [], false⟩
def BAT_STR_STAT_ID_PENDING : Field := ⟨0x500B8, 0x40, 14, 1, .ro, 0, 0, 1, [], false⟩
def BAT_STR_STAT_DAYS : Field := ⟨0x500B8, 0x40, 16, 8, .ro, 0, 0, 1, [], false⟩
def BAT_STR_STAT_OPEN_CAUSE : Field := ⟨0x500B8, 0x40, 24, 4, .ro, 0, 0, 1, [], false⟩
def BAT_STR_HEALTH_SOH : Field := ⟨0x500BC, 0x40, 0, 16, .ro, 0xffff, 0, 1, [], false⟩
def BAT_STR_HEALTH_TEMP : Field := ⟨0x500BC, 0x40, 16, 16, .ro, 0x8000, 0, 1, [], false⟩
def BAT_IEN_EXHAUST_RULE : Field := ⟨0x50010, 0x0, 0, 1, .rwk, 0, 0, 1, [], false⟩
def BAT_IEN_STRING_OUT : Field := ⟨0x50010, 0x0, 1, 1, .rwk, 0, 0, 1, [], false⟩
def BAT_IEN_VOLTAGE_SRC : Field := ⟨0x50010, 0x0, 2, 1, .rwk, 0, 0, 1, [], false⟩
def BAT_IEN_BIAS : Field := ⟨0x50010, 0x0, 3, 1, .rwk, 0, 0, 1, [], false⟩
def BAT_IEN_CAP_STALE : Field := ⟨0x50010, 0x0, 4, 1, .rwk, 0, 0, 1, [], false⟩
def BAT_IEN_PERT_ON : Field := ⟨0x50010, 0x0, 5, 1, .rwk, 0, 0, 1, [], false⟩
def BAT_IEN_TBL_UNPROG : Field := ⟨0x50010, 0x0, 6, 1, .rwk, 0, 0, 1, [], false⟩
def BAT_IEN_TRIPPED : Field := ⟨0x50010, 0x0, 7, 1, .rwk, 0, 0, 1, [], false⟩

def rowsBATA : List RegRow := [
  ⟨0x50000, 0x0, 1, .s, [], [0x1000014]⟩,
  ⟨0x50004, 0x0, 1, .s, [], [0x91]⟩,
  ⟨0x50008, 0x0, 1, .c, [BAT_CTRL_EN], []⟩,
  ⟨0x5000C, 0x0, 1, .s, [BAT_STAT_EXHAUST_RULE, BAT_STAT_STRING_OUT, BAT_STAT_VOLTAGE_SRC, BAT_STAT_BIAS, BAT_STAT_CAP_STALE, BAT_STAT_PERT_ON, BAT_STAT_TBL_UNPROG, BAT_STAT_TRIPPED], []⟩,
  ⟨0x50010, 0x0, 1, .c, [BAT_IEN_EXHAUST_RULE, BAT_IEN_STRING_OUT, BAT_IEN_VOLTAGE_SRC, BAT_IEN_BIAS, BAT_IEN_CAP_STALE, BAT_IEN_PERT_ON, BAT_IEN_TBL_UNPROG, BAT_IEN_TRIPPED], []⟩,
  ⟨0x50014, 0x0, 1, .s, [], []⟩,
  ⟨0x50018, 0x0, 1, .s, [BAT_CFGCRC_CRC], []⟩,
  ⟨0x5001C, 0x0, 1, .c, [BAT_LOCK_LOCK, BAT_LOCK_STICKY], []⟩,
  ⟨0x50040, 0x0, 1, .c, [BAT_CFG_STR_EN, BAT_CFG_LEARN_EN, BAT_CFG_IMP_EN, BAT_CFG_AUTO_RECON, BAT_CFG_CHG_TMIN, BAT_CFG_CHG_TMAX], []⟩,
  ⟨0x50044, 0x0, 1, .c, [BAT_REST_REST_MIN, BAT_REST_I_REST, BAT_REST_DVDT], []⟩,
  ⟨0x50048, 0x0, 1, .c, [BAT_LEARN_LEARN_SPAN, BAT_LEARN_LEARN_GAIN, BAT_LEARN_LEARN_UNC, BAT_LEARN_STALE_DAYS], []⟩,
  ⟨0x5004C, 0x0, 1, .c, [BAT_PERT_PERT_PCT, BAT_PERT_PERT_HZ, BAT_PERT_PERT_HOLD, BAT_PERT_IMP_GAIN], []⟩,
  ⟨0x50050, 0x0, 1, .c, [BAT_UNC_UNC_OFS, BAT_UNC_UNC_GAIN], []⟩,
  ⟨0x50054, 0x0, 1, .c, [BAT_UNC2_UNC_BOOT, BAT_UNC2_V_ACC], []⟩,
  ⟨0x50058, 0x0, 1, .d, [BAT_TBL_ADDR_INDEX, BAT_TBL_ADDR_SET, BAT_TBL_ADDR_AUTOINC, BAT_TBL_ADDR_VIEW], []⟩,
  ⟨0x5005C, 0x0, 1, .d, [BAT_TBL_DATA_DATA], []⟩,
  ⟨0x50060, 0x0, 1, .k, [BAT_CMD_STR, BAT_CMD_OPEN, BAT_CMD_CLOSE, BAT_CMD_RESEED, BAT_CMD_RESTORE, BAT_CMD_TBL_COMMIT], []⟩,
  ⟨0x50064, 0x0, 1, .k, [BAT_SHIP_CMD_KEY, BAT_SHIP_CMD_SHIP], []⟩,
  ⟨0x50068, 0x0, 1, .s, [BAT_PERT_STAT_STATE, BAT_PERT_STAT_REJECTS, BAT_PERT_STAT_WINDOWS], []⟩,
  ⟨0x5006C, 0x0, 1, .s, [BAT_PERT_AMP_A], []⟩,
  ⟨0x50070, 0x0, 1, .s, [BAT_CONN_CLOSED, BAT_CONN_EMPTY, BAT_CONN_PRESENT, BAT_CONN_REST], []⟩,
  ⟨0x50074, 0x0, 1, .s, [BAT_CHG_REQ_LIM], []⟩,
  ⟨0x50078, 0x0, 1, .s, [BAT_TBL_CRC_CRC], []⟩,
  ⟨0x5007C, 0x0, 1, .s, [BAT_CNT_SWAPS, BAT_CNT_TBL_REFUSED, BAT_CNT_LEARNS], []⟩]

def rowsBATB : List RegRow := [
  ⟨0x50280, 0x0, 1, .c, [BAT_CHG_V_CHG, BAT_CHG_V_TAPER], []⟩,
  ⟨0x50080, 0x40, 8, .c, [BAT_STR_CFG_ID_MODE, BAT_STR_CFG_TSET, BAT_STR_CFG_HALF, BAT_STR_CFG_TEMP_SRC, BAT_STR_CFG_I_CHG, BAT_STR_CFG_Q_NOM], []⟩,
  ⟨0x50084, 0x40, 8, .c, [BAT_STR_VSCALE_RATIO], []⟩,
  ⟨0x50088, 0x40, 8, .c, [BAT_STR_VSD_V_SD], []⟩,
  ⟨0x5008C, 0x40, 8, .c, [BAT_STR_LIM_SD_MARGIN, BAT_STR_LIM_SD_QUAL, BAT_STR_LIM_TRIP_T], []⟩,
  ⟨0x50090, 0x40, 8, .c, [BAT_STR_TRIP_I_TRIP, BAT_STR_TRIP_R_NEW], []⟩,
  ⟨0x50094, 0x40, 8, .c, [BAT_STR_RC_RCA_RATIO, BAT_STR_RC_RCB_RATIO, BAT_STR_RC_TAU_A, BAT_STR_RC_TAU_B], []⟩,
  ⟨0x50098, 0x40, 8, .d, [BAT_STR_V_V], []⟩,
  ⟨0x5009C, 0x40, 8, .d, [BAT_SOC_SOC, BAT_SOC_SOC_UNC], []⟩,
  ⟨0x500A0, 0x40, 8, .d, [BAT_SOC_RAW_RAW, BAT_SOC_RAW_SOC_V], []⟩,
  ⟨0x500A4, 0x40, 8, .d, [BAT_Q_LO_Q_LO], []⟩,
  ⟨0x500A8, 0x40, 8, .d, [BAT_Q_HI_Q_HI], []⟩,
  ⟨0x500AC, 0x40, 8, .s, [BAT_Q_LEARN_Q], []⟩,
  ⟨0x500B0, 0x40, 8, .s, [BAT_R_INT_R], []⟩,
  ⟨0x500B4, 0x40, 8, .d, [BAT_E_REM_E], []⟩,
  ⟨0x500B8, 0x40, 8, .s, [BAT_STR_STAT_STATE, BAT_STR_STAT_SOC_SRC, BAT_STR_STAT_CAPACITY_LOW_BIAS, BAT_STR_STAT_CAPACITY_HIGH_BIAS, BAT_STR_STAT_CAP_STALE, BAT_STR_STAT_ID_CODE, BAT_STR_STAT_ID_VALID, BAT_STR_STAT_R_VALID, BAT_STR_STAT_RESCALED, BAT_STR_STAT_ID_PENDING, BAT_STR_STAT_DAYS, BAT_STR_STAT_OPEN_CAUSE], []⟩,
  ⟨0x500BC, 0x40, 8, .s, [BAT_STR_HEALTH_SOH, BAT_STR_HEALTH_TEMP], []⟩]

/-- Every register of page 0x14. -/
def rowsBAT : List RegRow := rowsBATA ++ rowsBATB

/-! Page 0x15 SHR: R75 and R256 (09_rectifier_sharing.md), R257 (09_rectifier_sharing.md). -/

def SHR_LOCK_LOCK : Field := ⟨0x5401C, 0x0, 0, 1, .rwk, 0, 0, 1, [], false⟩
def SHR_LOCK_STICKY : Field := ⟨0x5401C, 0x0, 1, 1, .rw, 0, 0, 1, [], false⟩
def SHR_CFGCRC_CRC : Field := ⟨0x54018, 0x0, 0, 32, .ro, 0, 0, 1, [], false⟩
def SHR_CTRL_EN : Field := ⟨0x54008, 0x0, 0, 1, .rwk, 1, 0, 1, [], false⟩
def SHR_STAT_EFFICIENCY : Field := ⟨0x5400C, 0x0, 0, 1, .ro, 0, 0, 1, [], false⟩
def SHR_STAT_REDUNDANCY_SHORT : Field := ⟨0x5400C, 0x0, 1, 1, .ro, 0, 0, 1, [], false⟩
def SHR_STAT_SILENT_ANY : Field := ⟨0x5400C, 0x0, 2, 1, .ro, 0, 0, 1, [], false⟩
def SHR_STAT_FAULTED_ANY : Field := ⟨0x5400C, 0x0, 3, 1, .ro, 0, 0, 1, [], false⟩
def SHR_STAT_TRIM_SAT_ANY : Field := ⟨0x5400C, 0x0, 4, 1, .ro, 0, 0, 1, [], false⟩
def SHR_STAT_DERATED : Field := ⟨0x5400C, 0x0, 5, 1, .ro, 0, 0, 1, [], false⟩
def SHR_STAT_TRANSIT : Field := ⟨0x5400C, 0x0, 6, 1, .ro, 0, 0, 1, [], false⟩
def SHR_STAT_ALLOC_HELD : Field := ⟨0x5400C, 0x0, 7, 1, .ro, 0, 0, 1, [], false⟩
def SHR_MODE_MODE : Field := ⟨0x54040, 0x0, 0, 1, .rwk, 0, 0, 1, [], false⟩
def SHR_MODE_LEARN_EN : Field := ⟨0x54040, 0x0, 1, 1, .rwk, 1, 0, 1, [], false⟩
def SHR_MODE_SET_OCRSP : Field := ⟨0x54040, 0x0, 2, 1, .rwk, 1, 0, 1, [], false⟩
def SHR_TRIM_CFG_TRIM_MAX : Field := ⟨0x54044, 0x0, 0, 16, .rwk, 5000, 0, 1, [(100, 20000)], false⟩
def SHR_TRIM_CFG_KSH : Field := ⟨0x54044, 0x0, 16, 16, .rwk, 64, 0, 1, [(1, 4096)], false⟩
def SHR_TRIM_BASE_BASE : Field := ⟨0x54048, 0x0, 0, 32, .rwk, 0, 0, 1, [], false⟩
def SHR_COMMON_MAX_COMMON_MAX : Field := ⟨0x5404C, 0x0, 0, 16, .rwk, 0x2710, 0, 1, [(0, 30000)], false⟩
def SHR_TIMING_STALE_MS : Field := ⟨0x54050, 0x0, 0, 16, .rwk, 20, 0, 1, [(10, 1000)], false⟩
def SHR_TIMING_SILENT_MS : Field := ⟨0x54050, 0x0, 16, 16, .rwk, 500, 0, 1, [(50, 10000)], false⟩
def SHR_RAMP_RAMP_CYCLES : Field := ⟨0x54054, 0x0, 0, 8, .rwk, 20, 0, 1, [(1, 255)], false⟩
def SHR_RAMP_ON_TIMEOUT : Field := ⟨0x54054, 0x0, 8, 8, .rwk, 20, 0, 1, [(1, 255)], false⟩
def SHR_RAMP_REG_BAND : Field := ⟨0x54054, 0x0, 16, 16, .rwk, 500, 0, 1, [(10, 5000)], false⟩
def SHR_ALLOC_K : Field := ⟨0x54058, 0x0, 0, 4, .rwk, 1, 0, 1, [(0, 8)], false⟩
def SHR_ALLOC_HEADROOM : Field := ⟨0x54058, 0x0, 4, 8, .rwk, 10, 0, 1, [(0, 100)], false⟩
def SHR_ALLOC_IMB : Field := ⟨0x54058, 0x0, 12, 8, .rwk, 10, 0, 1, [(0, 50)], false⟩
def SHR_ALLOC_DWELL_S : Field := ⟨0x54058, 0x0, 20, 12, .rwk, 300, 0, 1, [(1, 4095)], false⟩
def SHR_SAVE_SAVE_MIN : Field := ⟨0x5405C, 0x0, 0, 16, .rwk, 10, 0, 1, [], false⟩
def SHR_SAVE_LIM_DB : Field := ⟨0x5405C, 0x0, 16, 16, .rwk, 10, 0, 1, [(1, 1000)], false⟩
def SHR_LEARN_MIN_SAMPLES : Field := ⟨0x54060, 0x0, 0, 8, .rwk, 8, 0, 1, [(1, 64)], false⟩
def SHR_LEARN_STEADY : Field := ⟨0x54060, 0x0, 8, 8, .rwk, 20, 0, 1, [(1, 255)], false⟩
def SHR_LEARN_STORE_S : Field := ⟨0x54060, 0x0, 16, 16, .rwk, 3600, 0, 1, [(60, 65535)], false⟩
def SHR_DEF_LOSS_L10 : Field := ⟨0x54064, 0x0, 0, 10, .rwk, 100, 0, 1, [], false⟩
def SHR_DEF_LOSS_L50 : Field := ⟨0x54064, 0x0, 10, 10, .rwk, 150, 0, 1, [], false⟩
def SHR_DEF_LOSS_L100 : Field := ⟨0x54064, 0x0, 20, 10, .rwk, 300, 0, 1, [], false⟩
def SHR_TDERATE_T_KNEE : Field := ⟨0x54068, 0x0, 0, 16, .rwk, 4480, 0, 1, [], false⟩
def SHR_TDERATE_SLOPE : Field := ⟨0x54068, 0x0, 16, 8, .rwk, 20, 0, 1, [(1, 255)], false⟩
def SHR_CMD_RECT : Field := ⟨0x5406C, 0x0, 0, 5, .wo, 0, 0, 1, [], false⟩
def SHR_CMD_UNBIND : Field := ⟨0x5406C, 0x0, 8, 1, .cmd, 0, 0, 1, [], false⟩
def SHR_CMD_CLEAR_CURVE : Field := ⟨0x5406C, 0x0, 9, 1, .cmd, 0, 0, 1, [], false⟩
def SHR_CMD_ALLOC_NOW : Field := ⟨0x5406C, 0x0, 10, 1, .cmd, 0, 0, 1, [], false⟩
def SHR_CMD_RETRY : Field := ⟨0x5406C, 0x0, 11, 1, .cmd, 0, 0, 1, [], false⟩
def SHR_CYCLE_STAT_TRIM_LATE : Field := ⟨0x54070, 0x0, 0, 16, .ro, 0, 0, 1, [], false⟩
def SHR_CYCLE_STAT_STALE_SKIPS : Field := ⟨0x54070, 0x0, 16, 16, .ro, 0, 0, 1, [], false⟩
def SHR_ALLOC_STAT_N : Field := ⟨0x54074, 0x0, 0, 5, .ro, 0, 0, 1, [], false⟩
def SHR_ALLOC_STAT_NK : Field := ⟨0x54074, 0x0, 5, 5, .ro, 0, 0, 1, [], false⟩
def SHR_ALLOC_STAT_TARGET_ACT : Field := ⟨0x54074, 0x0, 10, 5, .ro, 0, 0, 1, [], false⟩
def SHR_ALLOC_STAT_AVAIL : Field := ⟨0x54074, 0x0, 15, 5, .ro, 0, 0, 1, [], false⟩
def SHR_ALLOC_STAT_INFEASIBLE : Field := ⟨0x54074, 0x0, 20, 1, .ro, 0, 0, 1, [], false⟩
def SHR_ALLOC_CNT_ALLOCS : Field := ⟨0x54078, 0x0, 0, 16, .ro, 0, 0, 1, [], false⟩
def SHR_ALLOC_CNT_SKIPPED : Field := ⟨0x54078, 0x0, 16, 16, .ro, 0, 0, 1, [], false⟩
def SHR_LOSS_PRED_P : Field := ⟨0x5407C, 0x0, 0, 32, .ro, 0x80000000, 0, 1, [], false⟩
def SHR_LOSS_MEAS_P : Field := ⟨0x54080, 0x0, 0, 32, .ro, 0x80000000, 0, 1, [], false⟩
def SHR_SAVING_P : Field := ⟨0x54084, 0x0, 0, 32, .ro, 0, 0, 1, [], false⟩
def SHR_ITOT_I : Field := ⟨0x54088, 0x0, 0, 32, .ro, 0x80000000, 0, 1, [], false⟩
def SHR_PTOT_P : Field := ⟨0x5408C, 0x0, 0, 32, .ro, 0x80000000, 0, 1, [], false⟩
def SHR_ACTIVE_MASK : Field := ⟨0x54090, 0x0, 0, 24, .ro, 0, 0, 1, [], false⟩
def SHR_STANDBY_MASK : Field := ⟨0x54094, 0x0, 0, 24, .ro, 0, 0, 1, [], false⟩
def SHR_COMMON_V : Field := ⟨0x54098, 0x0, 0, 32, .ro, 0, 0, 1, [], false⟩
def SHR_THERM_IN_DERATE : Field := ⟨0x5409C, 0x0, 0, 16, .ro, 0x2710, 0, 1, [], false⟩
def SHR_RECT_CFG_PARTNER : Field := ⟨0x540A0, 0x10, 0, 10, .rwk, 0, 0, 1, [], false⟩
def SHR_RECT_CFG_BOUND : Field := ⟨0x540A0, 0x10, 10, 1, .rwk, 0, 0, 1, [], false⟩
def SHR_RECT_CFG_NO_SHED : Field := ⟨0x540A0, 0x10, 11, 1, .rwk, 0, 0, 1, [], false⟩
def SHR_RECT_CFG_HALF : Field := ⟨0x540A0, 0x10, 12, 1, .rwk, 0, 0, 1, [], false⟩
def SHR_RECT_CFG_RATED_W : Field := ⟨0x540A0, 0x10, 16, 16, .rwk, 550, 0, 1, [], false⟩
def SHR_RECT_LIM_ILIM : Field := ⟨0x540A4, 0x10, 0, 32, .rwk, 0x1adb0, 0, 1, [(1000, 1000000)], false⟩
def SHR_RECT_STAT_STATE : Field := ⟨0x540A8, 0x10, 0, 4, .ro, 0, 0, 1, [], false⟩
def SHR_RECT_STAT_UNTRIMMED : Field := ⟨0x540A8, 0x10, 4, 1, .ro, 0, 0, 1, [], false⟩
def SHR_RECT_STAT_MATURE : Field := ⟨0x540A8, 0x10, 5, 1, .ro, 0, 0, 1, [], false⟩
def SHR_RECT_STAT_TRIM_SAT : Field := ⟨0x540A8, 0x10, 6, 1, .ro, 0, 0, 1, [], false⟩
def SHR_RECT_STAT_SPLIT : Field := ⟨0x540A8, 0x10, 7, 1, .ro, 0, 0, 1, [], false⟩
def SHR_RECT_STAT_BINS : Field := ⟨0x540A8, 0x10, 8, 16, .ro, 0, 0, 1, [], false⟩
def SHR_RECT_STAT_DERATE : Field := ⟨0x540A8, 0x10, 24, 8, .ro, 100, 0, 1, [], false⟩
def SHR_RECT_TRIM_TRIM : Field := ⟨0x540AC, 0x10, 0, 16, .ro, 0, 0, 1, [], false⟩
def SHR_RECT_TRIM_FRAC : Field := ⟨0x540AC, 0x10, 16, 11, .ro, 0, 0, 1, [], false⟩
def SHR_IEN_EFFICIENCY : Field := ⟨0x54010, 0x0, 0, 1, .rwk, 0, 0, 1, [], false⟩
def SHR_IEN_REDUNDANCY_SHORT : Field := ⟨0x54010, 0x0, 1, 1, .rwk, 0, 0, 1, [], false⟩
def SHR_IEN_SILENT_ANY : Field := ⟨0x54010, 0x0, 2, 1, .rwk, 0, 0, 1, [], false⟩
def SHR_IEN_FAULTED_ANY : Field := ⟨0x54010, 0x0, 3, 1, .rwk, 0, 0, 1, [], false⟩
def SHR_IEN_TRIM_SAT_ANY : Field := ⟨0x54010, 0x0, 4, 1, .rwk, 0, 0, 1, [], false⟩
def SHR_IEN_DERATED : Field := ⟨0x54010, 0x0, 5, 1, .rwk, 0, 0, 1, [], false⟩
def SHR_IEN_TRANSIT : Field := ⟨0x54010, 0x0, 6, 1, .rwk, 0, 0, 1, [], false⟩
def SHR_IEN_ALLOC_HELD : Field := ⟨0x54010, 0x0, 7, 1, .rwk, 0, 0, 1, [], false⟩

def rowsSHRA : List RegRow := [
  ⟨0x54000, 0x0, 1, .s, [], [0x1000015]⟩,
  ⟨0x54004, 0x0, 1, .s, [], [0x78]⟩,
  ⟨0x54008, 0x0, 1, .c, [SHR_CTRL_EN], []⟩,
  ⟨0x5400C, 0x0, 1, .s, [SHR_STAT_EFFICIENCY, SHR_STAT_REDUNDANCY_SHORT, SHR_STAT_SILENT_ANY, SHR_STAT_FAULTED_ANY, SHR_STAT_TRIM_SAT_ANY, SHR_STAT_DERATED, SHR_STAT_TRANSIT, SHR_STAT_ALLOC_HELD], []⟩,
  ⟨0x54010, 0x0, 1, .c, [SHR_IEN_EFFICIENCY, SHR_IEN_REDUNDANCY_SHORT, SHR_IEN_SILENT_ANY, SHR_IEN_FAULTED_ANY, SHR_IEN_TRIM_SAT_ANY, SHR_IEN_DERATED, SHR_IEN_TRANSIT, SHR_IEN_ALLOC_HELD], []⟩,
  ⟨0x54014, 0x0, 1, .s, [], []⟩,
  ⟨0x54018, 0x0, 1, .s, [SHR_CFGCRC_CRC], []⟩,
  ⟨0x5401C, 0x0, 1, .c, [SHR_LOCK_LOCK, SHR_LOCK_STICKY], []⟩,
  ⟨0x54040, 0x0, 1, .c, [SHR_MODE_MODE, SHR_MODE_LEARN_EN, SHR_MODE_SET_OCRSP], []⟩,
  ⟨0x54044, 0x0, 1, .c, [SHR_TRIM_CFG_TRIM_MAX, SHR_TRIM_CFG_KSH], []⟩,
  ⟨0x54048, 0x0, 1, .c, [SHR_TRIM_BASE_BASE], []⟩,
  ⟨0x5404C, 0x0, 1, .c, [SHR_COMMON_MAX_COMMON_MAX], []⟩,
  ⟨0x54050, 0x0, 1, .c, [SHR_TIMING_STALE_MS, SHR_TIMING_SILENT_MS], []⟩,
  ⟨0x54054, 0x0, 1, .c, [SHR_RAMP_RAMP_CYCLES, SHR_RAMP_ON_TIMEOUT, SHR_RAMP_REG_BAND], []⟩,
  ⟨0x54058, 0x0, 1, .c, [SHR_ALLOC_K, SHR_ALLOC_HEADROOM, SHR_ALLOC_IMB, SHR_ALLOC_DWELL_S], []⟩,
  ⟨0x5405C, 0x0, 1, .c, [SHR_SAVE_SAVE_MIN, SHR_SAVE_LIM_DB], []⟩,
  ⟨0x54060, 0x0, 1, .c, [SHR_LEARN_MIN_SAMPLES, SHR_LEARN_STEADY, SHR_LEARN_STORE_S], []⟩,
  ⟨0x54064, 0x0, 1, .c, [SHR_DEF_LOSS_L10, SHR_DEF_LOSS_L50, SHR_DEF_LOSS_L100], []⟩,
  ⟨0x54068, 0x0, 1, .c, [SHR_TDERATE_T_KNEE, SHR_TDERATE_SLOPE], []⟩,
  ⟨0x5406C, 0x0, 1, .k, [SHR_CMD_RECT, SHR_CMD_UNBIND, SHR_CMD_CLEAR_CURVE, SHR_CMD_ALLOC_NOW, SHR_CMD_RETRY], []⟩,
  ⟨0x54070, 0x0, 1, .s, [SHR_CYCLE_STAT_TRIM_LATE, SHR_CYCLE_STAT_STALE_SKIPS], []⟩,
  ⟨0x54074, 0x0, 1, .s, [SHR_ALLOC_STAT_N, SHR_ALLOC_STAT_NK, SHR_ALLOC_STAT_TARGET_ACT, SHR_ALLOC_STAT_AVAIL, SHR_ALLOC_STAT_INFEASIBLE], []⟩,
  ⟨0x54078, 0x0, 1, .s, [SHR_ALLOC_CNT_ALLOCS, SHR_ALLOC_CNT_SKIPPED], []⟩,
  ⟨0x5407C, 0x0, 1, .s, [SHR_LOSS_PRED_P], []⟩]

def rowsSHRB : List RegRow := [
  ⟨0x54080, 0x0, 1, .d, [SHR_LOSS_MEAS_P], []⟩,
  ⟨0x54084, 0x0, 1, .s, [SHR_SAVING_P], []⟩,
  ⟨0x54088, 0x0, 1, .d, [SHR_ITOT_I], []⟩,
  ⟨0x5408C, 0x0, 1, .d, [SHR_PTOT_P], []⟩,
  ⟨0x54090, 0x0, 1, .s, [SHR_ACTIVE_MASK], []⟩,
  ⟨0x54094, 0x0, 1, .s, [SHR_STANDBY_MASK], []⟩,
  ⟨0x54098, 0x0, 1, .d, [SHR_COMMON_V], []⟩,
  ⟨0x5409C, 0x0, 1, .s, [SHR_THERM_IN_DERATE], []⟩,
  ⟨0x540A0, 0x10, 24, .c, [SHR_RECT_CFG_PARTNER, SHR_RECT_CFG_BOUND, SHR_RECT_CFG_NO_SHED, SHR_RECT_CFG_HALF, SHR_RECT_CFG_RATED_W], []⟩,
  ⟨0x540A4, 0x10, 24, .c, [SHR_RECT_LIM_ILIM], []⟩,
  ⟨0x540A8, 0x10, 24, .s, [SHR_RECT_STAT_STATE, SHR_RECT_STAT_UNTRIMMED, SHR_RECT_STAT_MATURE, SHR_RECT_STAT_TRIM_SAT, SHR_RECT_STAT_SPLIT, SHR_RECT_STAT_BINS, SHR_RECT_STAT_DERATE], []⟩,
  ⟨0x540AC, 0x10, 24, .d, [SHR_RECT_TRIM_TRIM, SHR_RECT_TRIM_FRAC], []⟩]

/-- Every register of page 0x15. -/
def rowsSHR : List RegRow := rowsSHRA ++ rowsSHRB

/-! Page 0x16 CAP: R75 and R275 (10_power_capping.md), R276 (10_power_capping.md). -/

def CAP_LOCK_LOCK : Field := ⟨0x5801C, 0x0, 0, 1, .rwk, 0, 0, 1, [], false⟩
def CAP_LOCK_STICKY : Field := ⟨0x5801C, 0x0, 1, 1, .rw, 0, 0, 1, [], false⟩
def CAP_CFGCRC_CRC : Field := ⟨0x58018, 0x0, 0, 32, .ro, 0, 0, 1, [], false⟩
def CAP_CTRL_EN : Field := ⟨0x58008, 0x0, 0, 1, .rwk, 1, 0, 1, [], false⟩
def CAP_STAT_CAPPED : Field := ⟨0x5800C, 0x0, 0, 1, .ro, 0, 0, 1, [], false⟩
def CAP_STAT_RAMPING : Field := ⟨0x5800C, 0x0, 1, 1, .ro, 0, 0, 1, [], false⟩
def CAP_STAT_SENSE_HOLD : Field := ⟨0x5800C, 0x0, 2, 1, .ro, 0, 0, 1, [], false⟩
def CAP_STAT_LINE_FAULT : Field := ⟨0x5800C, 0x0, 3, 1, .ro, 0, 0, 1, [], false⟩
def CAP_STAT_TX_OFF : Field := ⟨0x5800C, 0x0, 4, 1, .ro, 0, 0, 1, [], false⟩
def CAP_RACK_RACK : Field := ⟨0x58040, 0x0, 0, 32, .rwk, 0x7fffffff, 0, 1, [(0, 2147483647)], false⟩
def CAP_GW_GW : Field := ⟨0x58044, 0x0, 0, 32, .rwk, 0x2625a00, 0, 1, [], false⟩
def CAP_HOLDUP_LIM : Field := ⟨0x58048, 0x0, 0, 32, .rwk, 0x44aa200, 0, 1, [], false⟩
def CAP_REL_REL_HYST : Field := ⟨0x5804C, 0x0, 0, 16, .rwk, 2000, 0, 1, [], false⟩
def CAP_REL_REL_RATE : Field := ⟨0x5804C, 0x0, 16, 16, .rwk, 10, 0, 1, [(1, 65535)], false⟩
def CAP_ADJ_MARGIN : Field := ⟨0x58050, 0x0, 0, 8, .rwk, 1, 0, 1, [(0, 32)], false⟩
def CAP_ADJ_ADJ_US : Field := ⟨0x58050, 0x0, 8, 16, .rwk, 1000, 0, 1, [(100, 65535)], false⟩
def CAP_PROBE_PROBE_MS : Field := ⟨0x58054, 0x0, 0, 16, .rwk, 0x2710, 0, 1, [(100, 65535)], false⟩
def CAP_FRAME_CFG_REPEAT_MS : Field := ⟨0x58058, 0x0, 0, 8, .rwk, 1, 0, 1, [(1, 255)], false⟩
def CAP_FRAME_CFG_IDLE_MS : Field := ⟨0x58058, 0x0, 8, 8, .rwk, 100, 0, 1, [], false⟩
def CAP_FRAME_CFG_TX_EN : Field := ⟨0x58058, 0x0, 16, 1, .rwk, 1, 0, 1, [], false⟩
def CAP_CMD_TEST : Field := ⟨0x5805C, 0x0, 0, 1, .cmd, 0, 0, 1, [], false⟩
def CAP_CMD_PROBE_NOW : Field := ⟨0x5805C, 0x0, 1, 1, .cmd, 0, 0, 1, [], false⟩
def CAP_P_BUS_P : Field := ⟨0x58060, 0x0, 0, 32, .ro, 0x80000000, 0, 1, [], false⟩
def CAP_P_LOAD_P : Field := ⟨0x58064, 0x0, 0, 32, .ro, 0x80000000, 0, 1, [], false⟩
def CAP_TX_CNT_FRAMES : Field := ⟨0x58068, 0x0, 0, 32, .ro, 0, 0, 1, [], false⟩
def CAP_IN_FORCE_C : Field := ⟨0x5806C, 0x0, 0, 32, .ro, 0, 0, 1, [], false⟩
def CAP_TARGET_T : Field := ⟨0x58070, 0x0, 0, 32, .ro, 0, 0, 1, [], false⟩
def CAP_SRC_SRC : Field := ⟨0x58074, 0x0, 0, 4, .ro, 1, 0, 1, [], false⟩
def CAP_HOLDUP_IN_H : Field := ⟨0x58078, 0x0, 0, 32, .ro, 0x7fffffff, 0, 1, [], false⟩
def CAP_THERM_IN_CAP : Field := ⟨0x5807C, 0x0, 0, 32, .ro, 0x7fffffff, 0, 1, [], false⟩
def CAP_PORT_IN_CAP : Field := ⟨0x58080, 0x4, 0, 32, .ro, 0x7fffffff, 0, 1, [], false⟩
def CAP_LEVEL_L : Field := ⟨0x58090, 0x0, 0, 8, .ro, 0, 0, 1, [], false⟩
def CAP_LEVEL_SEQ : Field := ⟨0x58090, 0x0, 8, 12, .ro, 0, 0, 1, [], false⟩
def CAP_LEVEL_EPOCH : Field := ⟨0x58090, 0x0, 20, 4, .ro, 0, 0, 1, [], false⟩
def CAP_LEVEL_NFRAMES : Field := ⟨0x58090, 0x0, 24, 5, .ro, 0, 0, 1, [], false⟩
def CAP_REF_R_REF : Field := ⟨0x58094, 0x0, 0, 32, .ro, 0, 0, 1, [], false⟩
def CAP_CNT_EPISODES : Field := ⟨0x58098, 0x0, 0, 16, .ro, 0, 0, 1, [], false⟩
def CAP_CNT_TIGHTENS : Field := ⟨0x58098, 0x0, 16, 16, .ro, 0, 0, 1, [], false⟩
def CAP_LINE_STAT_MISMATCH : Field := ⟨0x5809C, 0x0, 0, 8, .ro, 0, 0, 1, [], false⟩
def CAP_LINE_STAT_RX_OTHER : Field := ⟨0x5809C, 0x0, 8, 8, .ro, 0, 0, 1, [], false⟩
def CAP_LINE_STAT_SUPERSEDED : Field := ⟨0x5809C, 0x0, 16, 16, .ro, 0, 0, 1, [], false⟩
def CAP_ZONE_EN : Field := ⟨0x580A0, 0x4, 0, 1, .rwk, 1, 0, 1, [], false⟩
def CAP_ZONE_WEIGHT : Field := ⟨0x580A0, 0x4, 1, 6, .rwk, 16, 0, 1, [(0, 32)], false⟩
def CAP_ZONE_LMAX : Field := ⟨0x580A0, 0x4, 8, 8, .rwk, 255, 0, 1, [], false⟩
def CAP_ZONE_LEVEL : Field := ⟨0x580A0, 0x4, 16, 8, .ro, 0, 0, 1, [], false⟩
def CAP_IEN_CAPPED : Field := ⟨0x58010, 0x0, 0, 1, .rwk, 0, 0, 1, [], false⟩
def CAP_IEN_RAMPING : Field := ⟨0x58010, 0x0, 1, 1, .rwk, 0, 0, 1, [], false⟩
def CAP_IEN_SENSE_HOLD : Field := ⟨0x58010, 0x0, 2, 1, .rwk, 0, 0, 1, [], false⟩
def CAP_IEN_LINE_FAULT : Field := ⟨0x58010, 0x0, 3, 1, .rwk, 0, 0, 1, [], false⟩
def CAP_IEN_TX_OFF : Field := ⟨0x58010, 0x0, 4, 1, .rwk, 0, 0, 1, [], false⟩

def rowsCAPA : List RegRow := [
  ⟨0x58000, 0x0, 1, .s, [], [0x1000016]⟩,
  ⟨0x58004, 0x0, 1, .s, [], [0x28]⟩,
  ⟨0x58008, 0x0, 1, .c, [CAP_CTRL_EN], []⟩,
  ⟨0x5800C, 0x0, 1, .s, [CAP_STAT_CAPPED, CAP_STAT_RAMPING, CAP_STAT_SENSE_HOLD, CAP_STAT_LINE_FAULT, CAP_STAT_TX_OFF], []⟩,
  ⟨0x58010, 0x0, 1, .c, [CAP_IEN_CAPPED, CAP_IEN_RAMPING, CAP_IEN_SENSE_HOLD, CAP_IEN_LINE_FAULT, CAP_IEN_TX_OFF], []⟩,
  ⟨0x58014, 0x0, 1, .s, [], []⟩,
  ⟨0x58018, 0x0, 1, .s, [CAP_CFGCRC_CRC], []⟩,
  ⟨0x5801C, 0x0, 1, .c, [CAP_LOCK_LOCK, CAP_LOCK_STICKY], []⟩,
  ⟨0x58040, 0x0, 1, .c, [CAP_RACK_RACK], []⟩,
  ⟨0x58044, 0x0, 1, .c, [CAP_GW_GW], []⟩,
  ⟨0x58048, 0x0, 1, .c, [CAP_HOLDUP_LIM], []⟩,
  ⟨0x5804C, 0x0, 1, .c, [CAP_REL_REL_HYST, CAP_REL_REL_RATE], []⟩,
  ⟨0x58050, 0x0, 1, .c, [CAP_ADJ_MARGIN, CAP_ADJ_ADJ_US], []⟩,
  ⟨0x58054, 0x0, 1, .c, [CAP_PROBE_PROBE_MS], []⟩,
  ⟨0x58058, 0x0, 1, .c, [CAP_FRAME_CFG_REPEAT_MS, CAP_FRAME_CFG_IDLE_MS, CAP_FRAME_CFG_TX_EN], []⟩,
  ⟨0x5805C, 0x0, 1, .k, [CAP_CMD_TEST, CAP_CMD_PROBE_NOW], []⟩,
  ⟨0x58060, 0x0, 1, .d, [CAP_P_BUS_P], []⟩,
  ⟨0x58064, 0x0, 1, .d, [CAP_P_LOAD_P], []⟩,
  ⟨0x58068, 0x0, 1, .s, [CAP_TX_CNT_FRAMES], []⟩,
  ⟨0x5806C, 0x0, 1, .s, [CAP_IN_FORCE_C], []⟩,
  ⟨0x58070, 0x0, 1, .s, [CAP_TARGET_T], []⟩,
  ⟨0x58074, 0x0, 1, .s, [CAP_SRC_SRC], []⟩,
  ⟨0x58078, 0x0, 1, .s, [CAP_HOLDUP_IN_H], []⟩,
  ⟨0x5807C, 0x0, 1, .s, [CAP_THERM_IN_CAP], []⟩]

def rowsCAPB : List RegRow := [
  ⟨0x58080, 0x4, 4, .s, [CAP_PORT_IN_CAP], []⟩,
  ⟨0x58090, 0x0, 1, .s, [CAP_LEVEL_L, CAP_LEVEL_SEQ, CAP_LEVEL_EPOCH, CAP_LEVEL_NFRAMES], []⟩,
  ⟨0x58094, 0x0, 1, .s, [CAP_REF_R_REF], []⟩,
  ⟨0x58098, 0x0, 1, .s, [CAP_CNT_EPISODES, CAP_CNT_TIGHTENS], []⟩,
  ⟨0x5809C, 0x0, 1, .s, [CAP_LINE_STAT_MISMATCH, CAP_LINE_STAT_RX_OTHER, CAP_LINE_STAT_SUPERSEDED], []⟩,
  ⟨0x580A0, 0x4, 16, .c, [CAP_ZONE_EN, CAP_ZONE_WEIGHT, CAP_ZONE_LMAX, CAP_ZONE_LEVEL], []⟩]

/-- Every register of page 0x16. -/
def rowsCAP : List RegRow := rowsCAPA ++ rowsCAPB

end Sys2Proof.Machine
end

