-- ==== Sys2Proof/Machine/RegsRecord.lean ====
section
/-! DEFINITION. The registers of pages EVR, BBX, MBX, WDG, THM, as the register tables of the spec give them: one
definition per field (address, element distance, lowest bit, width, type, reset, repetition, accepted ranges), one
table row per register. The eight header registers of R75 open each page. -/

namespace Sys2Proof.Machine

/-! Page 0x06 EVR: R75 and R454 (18_event_recorder.md), R455 (18_event_recorder.md). -/

def EVR_LOCK_LOCK : Field := ⟨0x1801C, 0x0, 0, 1, .rwk, 0, 0, 1, [], false⟩
def EVR_LOCK_STICKY : Field := ⟨0x1801C, 0x0, 1, 1, .rw, 0, 0, 1, [], false⟩
def EVR_CFGCRC_CRC : Field := ⟨0x18018, 0x0, 0, 32, .ro, 0, 0, 1, [], false⟩
def EVR_STAT_PENDING : Field := ⟨0x1800C, 0x0, 0, 1, .ro, 0, 0, 1, [], false⟩
def EVR_STAT_QUEUE_HIGH : Field := ⟨0x1800C, 0x0, 1, 1, .ro, 0, 0, 1, [], false⟩
def EVR_STAT_DROPPING : Field := ⟨0x1800C, 0x0, 2, 1, .ro, 0, 0, 1, [], false⟩
def EVR_STAT_SUPPRESSING : Field := ⟨0x1800C, 0x0, 3, 1, .ro, 0, 0, 1, [], false⟩
def EVR_STAT_STALLED : Field := ⟨0x1800C, 0x0, 4, 1, .ro, 0, 0, 1, [], false⟩
def EVR_CFG_TRACE_EN : Field := ⟨0x18040, 0x0, 0, 1, .rwk, 1, 0, 1, [], false⟩
def EVR_CFG_HIGH_PCT : Field := ⟨0x18040, 0x0, 8, 8, .rwk, 75, 0, 1, [(10, 100)], false⟩
def EVR_SHARED_RATE : Field := ⟨0x18044, 0x0, 0, 16, .rwk, 50, 0, 1, [(1, 1000)], false⟩
def EVR_SHARED_BURST : Field := ⟨0x18044, 0x0, 16, 16, .rwk, 100, 0, 1, [(1, 65535)], false⟩
def EVR_HEAD_SEQ : Field := ⟨0x18048, 0x0, 0, 32, .ro, 0, 0, 1, [], false⟩
def EVR_TAIL_SEQ : Field := ⟨0x1804C, 0x0, 0, 32, .ro, 0, 0, 1, [], false⟩
def EVR_WRITTEN_SEQ : Field := ⟨0x18050, 0x0, 0, 32, .ro, 0, 0, 1, [], false⟩
def EVR_QUEUE_FILL : Field := ⟨0x18054, 0x0, 0, 12, .ro, 0, 0, 1, [], false⟩
def EVR_QUEUE_MAX : Field := ⟨0x18054, 0x0, 16, 12, .ro, 0, 0, 1, [], false⟩
def EVR_CLEAR_SEQ_SEQ : Field := ⟨0x18058, 0x0, 0, 32, .rw, 0, 0, 1, [], false⟩
def EVR_CMD_CLEAR : Field := ⟨0x1805C, 0x0, 0, 1, .cmd, 0, 0, 1, [], false⟩
def EVR_CMD_INJECT : Field := ⟨0x1805C, 0x0, 1, 1, .cmd, 0, 0, 1, [], false⟩
def EVR_INJ_CODE_CODE : Field := ⟨0x18060, 0x0, 0, 16, .rw, 0xef00, 0, 1, [(61184, 61439)], false⟩
def EVR_INJ_CODE_SEV : Field := ⟨0x18060, 0x0, 16, 3, .rw, 0, 0, 1, [(0, 4)], false⟩
def EVR_INJ_DATA_DATA : Field := ⟨0x18064, 0x4, 0, 32, .rw, 0, 0, 1, [], false⟩
def EVR_CLEAR_STAT_CLEARS : Field := ⟨0x18070, 0x0, 0, 16, .ro, 0, 0, 1, [], false⟩
def EVR_CLEAR_STAT_REFUSED : Field := ⟨0x18070, 0x0, 16, 16, .ro, 0, 0, 1, [], false⟩
def EVR_CLEAR_LAST_SEQ : Field := ⟨0x18074, 0x0, 0, 32, .ro, 0, 0, 1, [], false⟩
def EVR_SUPPR_COUNT : Field := ⟨0x18078, 0x0, 0, 32, .ro, 0, 0, 1, [], false⟩
def EVR_SUMMARIES_COUNT : Field := ⟨0x1807C, 0x0, 0, 32, .ro, 0, 0, 1, [], false⟩
def EVR_DROP_TRACE_COUNT : Field := ⟨0x18080, 0x0, 0, 32, .ro, 0, 0, 1, [], false⟩
def EVR_DROP_EVENT_COUNT : Field := ⟨0x18084, 0x0, 0, 32, .ro, 0, 0, 1, [], false⟩
def EVR_ALARM_CNT_COALESCED : Field := ⟨0x18088, 0x0, 0, 16, .ro, 0, 0, 1, [], false⟩
def EVR_ALARM_CNT_FOLDED : Field := ⟨0x18088, 0x0, 16, 16, .ro, 0, 0, 1, [], false⟩
def EVR_LOST_PWR_COUNT : Field := ⟨0x1808C, 0x0, 0, 32, .ro, 0xffffffff, 0, 1, [], false⟩
def EVR_STALL_LAST_MS : Field := ⟨0x18090, 0x0, 0, 16, .ro, 0, 0, 1, [], false⟩
def EVR_STALL_MAX_MS : Field := ⟨0x18090, 0x0, 16, 16, .ro, 0, 0, 1, [], false⟩
def EVR_WRITE_CNT_COUNT : Field := ⟨0x18094, 0x0, 0, 32, .ro, 0, 0, 1, [], false⟩
def EVR_RL_SEL_INDEX : Field := ⟨0x18098, 0x0, 0, 8, .rw, 0, 0, 1, [], false⟩
def EVR_RL_CFG_CODE : Field := ⟨0x1809C, 0x0, 0, 16, .rw, 0, 0, 1, [], false⟩
def EVR_RL_CFG_RATE : Field := ⟨0x1809C, 0x0, 16, 8, .rw, 10, 0, 1, [(1, 255)], false⟩
def EVR_RL_CFG_BURST : Field := ⟨0x1809C, 0x0, 24, 8, .rw, 20, 0, 1, [(1, 255)], false⟩
def EVR_RL_STAT_SUPPR : Field := ⟨0x180A0, 0x0, 0, 16, .ro, 0, 0, 1, [], false⟩
def EVR_RL_STAT_LEVEL : Field := ⟨0x180A0, 0x0, 16, 16, .ro, 20, 0, 1, [], false⟩
def EVR_RL_CRC_CRC : Field := ⟨0x180A4, 0x0, 0, 32, .ro, 0, 0, 1, [], false⟩
def EVR_SEV_CNT_COUNT : Field := ⟨0x180A8, 0x4, 0, 32, .ro, 0, 0, 1, [], false⟩
def EVR_CODE_SEL_CODE : Field := ⟨0x180BC, 0x0, 0, 16, .rw, 0, 0, 1, [], false⟩
def EVR_CODE_INFO_DEFINED : Field := ⟨0x180C0, 0x0, 0, 1, .ro, 0, 0, 1, [], false⟩
def EVR_CODE_INFO_SEV : Field := ⟨0x180C0, 0x0, 1, 3, .ro, 0, 0, 1, [], false⟩
def EVR_CODE_INFO_CLASS : Field := ⟨0x180C0, 0x0, 4, 2, .ro, 0, 0, 1, [], false⟩
def EVR_CODE_INFO_LAYOUT : Field := ⟨0x180C0, 0x0, 8, 8, .ro, 0, 0, 1, [], false⟩
def EVR_CODE_INFO_ENTRY : Field := ⟨0x180C0, 0x0, 16, 8, .ro, 255, 0, 1, [], false⟩
def EVR_LAST_CODE : Field := ⟨0x180C4, 0x0, 0, 16, .ro, 0, 0, 1, [], false⟩
def EVR_LAST_SEV : Field := ⟨0x180C4, 0x0, 16, 3, .ro, 0, 0, 1, [], false⟩
def EVR_LAST_TICK_TICK : Field := ⟨0x180C8, 0x0, 0, 32, .ro, 0, 0, 1, [], false⟩
def EVR_IRQ_CFG_IRQ_SEV : Field := ⟨0x180CC, 0x0, 0, 3, .rwk, 3, 0, 1, [], false⟩
def EVR_ACK_SEQ : Field := ⟨0x180D0, 0x0, 0, 32, .rw, 0, 0, 1, [], false⟩
def EVR_PEND_SEQ_SEQ : Field := ⟨0x180D4, 0x0, 0, 32, .ro, 0, 0, 1, [], false⟩
def EVR_GAP_LAST_SEQ : Field := ⟨0x180D8, 0x0, 0, 32, .ro, 0, 0, 1, [], false⟩
def EVR_START_SEQ : Field := ⟨0x180DC, 0x0, 0, 32, .ro, 0, 0, 1, [], false⟩
def EVR_IEN_PENDING : Field := ⟨0x18010, 0x0, 0, 1, .rwk, 0, 0, 1, [], false⟩
def EVR_IEN_QUEUE_HIGH : Field := ⟨0x18010, 0x0, 1, 1, .rwk, 0, 0, 1, [], false⟩
def EVR_IEN_DROPPING : Field := ⟨0x18010, 0x0, 2, 1, .rwk, 0, 0, 1, [], false⟩
def EVR_IEN_SUPPRESSING : Field := ⟨0x18010, 0x0, 3, 1, .rwk, 0, 0, 1, [], false⟩
def EVR_IEN_STALLED : Field := ⟨0x18010, 0x0, 4, 1, .rwk, 0, 0, 1, [], false⟩

def rowsEVRA : List RegRow := [
  ⟨0x18000, 0x0, 1, .s, [], [0x1000006]⟩,
  ⟨0x18004, 0x0, 1, .s, [], [0x28]⟩,
  ⟨0x18008, 0x0, 1, .c, [], []⟩,
  ⟨0x1800C, 0x0, 1, .s, [EVR_STAT_PENDING, EVR_STAT_QUEUE_HIGH, EVR_STAT_DROPPING, EVR_STAT_SUPPRESSING, EVR_STAT_STALLED], []⟩,
  ⟨0x18010, 0x0, 1, .c, [EVR_IEN_PENDING, EVR_IEN_QUEUE_HIGH, EVR_IEN_DROPPING, EVR_IEN_SUPPRESSING, EVR_IEN_STALLED], []⟩,
  ⟨0x18014, 0x0, 1, .s, [], []⟩,
  ⟨0x18018, 0x0, 1, .s, [EVR_CFGCRC_CRC], []⟩,
  ⟨0x1801C, 0x0, 1, .c, [EVR_LOCK_LOCK, EVR_LOCK_STICKY], []⟩,
  ⟨0x18040, 0x0, 1, .c, [EVR_CFG_TRACE_EN, EVR_CFG_HIGH_PCT], []⟩,
  ⟨0x18044, 0x0, 1, .c, [EVR_SHARED_RATE, EVR_SHARED_BURST], []⟩,
  ⟨0x18048, 0x0, 1, .s, [EVR_HEAD_SEQ], []⟩,
  ⟨0x1804C, 0x0, 1, .s, [EVR_TAIL_SEQ], []⟩,
  ⟨0x18050, 0x0, 1, .s, [EVR_WRITTEN_SEQ], []⟩,
  ⟨0x18054, 0x0, 1, .s, [EVR_QUEUE_FILL, EVR_QUEUE_MAX], []⟩,
  ⟨0x18058, 0x0, 1, .d, [EVR_CLEAR_SEQ_SEQ], []⟩,
  ⟨0x1805C, 0x0, 1, .k, [EVR_CMD_CLEAR, EVR_CMD_INJECT], []⟩,
  ⟨0x18060, 0x0, 1, .d, [EVR_INJ_CODE_CODE, EVR_INJ_CODE_SEV], []⟩,
  ⟨0x18064, 0x4, 3, .d, [EVR_INJ_DATA_DATA], []⟩,
  ⟨0x18070, 0x0, 1, .s, [EVR_CLEAR_STAT_CLEARS, EVR_CLEAR_STAT_REFUSED], []⟩,
  ⟨0x18074, 0x0, 1, .s, [EVR_CLEAR_LAST_SEQ], []⟩,
  ⟨0x18078, 0x0, 1, .s, [EVR_SUPPR_COUNT], []⟩,
  ⟨0x1807C, 0x0, 1, .s, [EVR_SUMMARIES_COUNT], []⟩,
  ⟨0x18080, 0x0, 1, .s, [EVR_DROP_TRACE_COUNT], []⟩,
  ⟨0x18084, 0x0, 1, .s, [EVR_DROP_EVENT_COUNT], []⟩]

def rowsEVRB : List RegRow := [
  ⟨0x18088, 0x0, 1, .s, [EVR_ALARM_CNT_COALESCED, EVR_ALARM_CNT_FOLDED], []⟩,
  ⟨0x1808C, 0x0, 1, .s, [EVR_LOST_PWR_COUNT], []⟩,
  ⟨0x18090, 0x0, 1, .s, [EVR_STALL_LAST_MS, EVR_STALL_MAX_MS], []⟩,
  ⟨0x18094, 0x0, 1, .s, [EVR_WRITE_CNT_COUNT], []⟩,
  ⟨0x18098, 0x0, 1, .d, [EVR_RL_SEL_INDEX], []⟩,
  ⟨0x1809C, 0x0, 1, .d, [EVR_RL_CFG_CODE, EVR_RL_CFG_RATE, EVR_RL_CFG_BURST], []⟩,
  ⟨0x180A0, 0x0, 1, .d, [EVR_RL_STAT_SUPPR, EVR_RL_STAT_LEVEL], []⟩,
  ⟨0x180A4, 0x0, 1, .s, [EVR_RL_CRC_CRC], []⟩,
  ⟨0x180A8, 0x4, 5, .s, [EVR_SEV_CNT_COUNT], []⟩,
  ⟨0x180BC, 0x0, 1, .d, [EVR_CODE_SEL_CODE], []⟩,
  ⟨0x180C0, 0x0, 1, .s, [EVR_CODE_INFO_DEFINED, EVR_CODE_INFO_SEV, EVR_CODE_INFO_CLASS, EVR_CODE_INFO_LAYOUT, EVR_CODE_INFO_ENTRY], []⟩,
  ⟨0x180C4, 0x0, 1, .s, [EVR_LAST_CODE, EVR_LAST_SEV], []⟩,
  ⟨0x180C8, 0x0, 1, .s, [EVR_LAST_TICK_TICK], []⟩,
  ⟨0x180CC, 0x0, 1, .c, [EVR_IRQ_CFG_IRQ_SEV], []⟩,
  ⟨0x180D0, 0x0, 1, .d, [EVR_ACK_SEQ], []⟩,
  ⟨0x180D4, 0x0, 1, .s, [EVR_PEND_SEQ_SEQ], []⟩,
  ⟨0x180D8, 0x0, 1, .s, [EVR_GAP_LAST_SEQ], []⟩,
  ⟨0x180DC, 0x0, 1, .s, [EVR_START_SEQ], []⟩]

/-- Every register of page 0x06. -/
def rowsEVR : List RegRow := rowsEVRA ++ rowsEVRB

/-! Page 0x07 BBX: R75 and R435 (17_black_box.md), R436 (17_black_box.md). -/

def BBX_LOCK_LOCK : Field := ⟨0x1C01C, 0x0, 0, 1, .rwk, 0, 0, 1, [], false⟩
def BBX_LOCK_STICKY : Field := ⟨0x1C01C, 0x0, 1, 1, .rw, 0, 0, 1, [], false⟩
def BBX_CFGCRC_CRC : Field := ⟨0x1C018, 0x0, 0, 32, .ro, 0, 0, 1, [], false⟩
def BBX_CTRL_EN : Field := ⟨0x1C008, 0x0, 0, 1, .rwk, 1, 0, 1, [], false⟩
def BBX_STAT_CAPTURE : Field := ⟨0x1C00C, 0x0, 0, 1, .ro, 0, 0, 1, [], false⟩
def BBX_STAT_COMMIT : Field := ⟨0x1C00C, 0x0, 1, 1, .ro, 0, 0, 1, [], false⟩
def BBX_STAT_SECOND : Field := ⟨0x1C00C, 0x0, 2, 1, .ro, 0, 0, 1, [], false⟩
def BBX_STAT_RAW : Field := ⟨0x1C00C, 0x0, 3, 1, .ro, 0, 0, 1, [], false⟩
def BBX_STAT_DROPPING : Field := ⟨0x1C00C, 0x0, 4, 1, .ro, 0, 0, 1, [], false⟩
def BBX_STAT_TRUNCATED : Field := ⟨0x1C00C, 0x0, 5, 1, .ro, 0, 0, 1, [], false⟩
def BBX_CFG_E : Field := ⟨0x1C040, 0x0, 0, 3, .rwk, 2, 0, 1, [(0, 4)], false⟩
def BBX_CFG_FAST_HALF : Field := ⟨0x1C040, 0x0, 3, 1, .rwk, 0, 0, 1, [], false⟩
def BBX_CFG_RAW : Field := ⟨0x1C040, 0x0, 4, 1, .rwk, 0, 0, 1, [], false⟩
def BBX_CFG_SUB_SPAN_S : Field := ⟨0x1C040, 0x0, 8, 5, .rwk, 30, 0, 1, [(1, 30)], false⟩
def BBX_TRIG_EN_EN : Field := ⟨0x1C044, 0x0, 4, 17, .rwk, 8191, 0, 1, [], false⟩
def BBX_CMD_REC : Field := ⟨0x1C048, 0x0, 0, 4, .wo, 0, 0, 1, [], false⟩
def BBX_CMD_TRIGGER : Field := ⟨0x1C048, 0x0, 8, 1, .cmd, 0, 0, 1, [], false⟩
def BBX_CMD_PIN : Field := ⟨0x1C048, 0x0, 9, 1, .cmd, 0, 0, 1, [], false⟩
def BBX_CMD_UNPIN : Field := ⟨0x1C048, 0x0, 10, 1, .cmd, 0, 0, 1, [], false⟩
def BBX_CMD_DELETE : Field := ⟨0x1C048, 0x0, 11, 1, .cmd, 0, 0, 1, [], false⟩
def BBX_SEL_SRC : Field := ⟨0x1C04C, 0x4, 0, 8, .rwk, 0, 0, 1, [], false⟩
def BBX_SEL_SHIFT : Field := ⟨0x1C04C, 0x4, 8, 4, .rwk, 0, 0, 1, [], false⟩
def BBX_SEL_EN : Field := ⟨0x1C04C, 0x4, 12, 1, .rwk, 0, 0, 1, [], false⟩
def BBX_LVL_CFG_CH : Field := ⟨0x1C05C, 0x8, 0, 7, .rwk, 0, 0, 1, [(0, 91)], false⟩
def BBX_LVL_CFG_MODE : Field := ⟨0x1C05C, 0x8, 8, 2, .rwk, 0, 0, 1, [(0, 2)], false⟩
def BBX_LVL_CFG_QUAL : Field := ⟨0x1C05C, 0x8, 16, 8, .rwk, 1, 0, 1, [(1, 255)], false⟩
def BBX_LVL_THR_THR : Field := ⟨0x1C060, 0x8, 0, 16, .rwk, 0, 0, 1, [], false⟩
def BBX_LVL_THR_HYST : Field := ⟨0x1C060, 0x8, 16, 16, .rwk, 0, 0, 1, [], false⟩
def BBX_TOP_STAT_OLD_OFS : Field := ⟨0x1C07C, 0x0, 0, 22, .ro, 0, 0, 1, [], false⟩
def BBX_TOP_OLD_TICK : Field := ⟨0x1C080, 0x0, 0, 32, .ro, 0, 0, 1, [], false⟩
def BBX_TOP_DEPTH_BLOCKS : Field := ⟨0x1C084, 0x0, 0, 16, .ro, 0, 0, 1, [], false⟩
def BBX_TOP_DEPTH_PROT : Field := ⟨0x1C084, 0x0, 16, 16, .ro, 0, 0, 1, [], false⟩
def BBX_SUB_STAT_OLD_OFS : Field := ⟨0x1C088, 0x0, 0, 20, .ro, 0, 0, 1, [], false⟩
def BBX_SUB_OLD_TICK : Field := ⟨0x1C08C, 0x0, 0, 32, .ro, 0, 0, 1, [], false⟩
def BBX_SUB_DEPTH_BLOCKS : Field := ⟨0x1C090, 0x0, 0, 16, .ro, 0, 0, 1, [], false⟩
def BBX_SUB_DEPTH_PROT : Field := ⟨0x1C090, 0x0, 16, 16, .ro, 0, 0, 1, [], false⟩
def BBX_RATIO_RATIO : Field := ⟨0x1C094, 0x0, 0, 16, .ro, 256, 0, 1, [], false⟩
def BBX_RATIO_RAW_SEGS : Field := ⟨0x1C094, 0x0, 16, 16, .ro, 0, 0, 1, [], false⟩
def BBX_DROP_TOP : Field := ⟨0x1C098, 0x0, 0, 16, .ro, 0, 0, 1, [], false⟩
def BBX_DROP_SUB : Field := ⟨0x1C098, 0x0, 16, 16, .ro, 0, 0, 1, [], false⟩
def BBX_REC_STAT_STATE : Field := ⟨0x1C09C, 0x0, 0, 2, .ro, 0, 0, 1, [], false⟩
def BBX_REC_STAT_NTRIG : Field := ⟨0x1C09C, 0x0, 2, 4, .ro, 0, 0, 1, [], false⟩
def BBX_REC_STAT_POST : Field := ⟨0x1C09C, 0x0, 8, 8, .ro, 0, 0, 1, [], false⟩
def BBX_REC_STAT_PRE : Field := ⟨0x1C09C, 0x0, 16, 16, .ro, 0, 0, 1, [], false⟩
def BBX_TRIG_LAST_SOURCE : Field := ⟨0x1C0A0, 0x0, 0, 5, .ro, 0, 0, 1, [], false⟩
def BBX_TRIG_LAST_FINE : Field := ⟨0x1C0A0, 0x0, 8, 6, .ro, 0, 0, 1, [], false⟩
def BBX_TRIG_LAST_JOINED : Field := ⟨0x1C0A0, 0x0, 16, 1, .ro, 0, 0, 1, [], false⟩
def BBX_TRIG_TICK_TICK : Field := ⟨0x1C0A4, 0x0, 0, 32, .ro, 0, 0, 1, [], false⟩
def BBX_CNT_TRIGGERS : Field := ⟨0x1C0A8, 0x0, 0, 16, .ro, 0, 0, 1, [], false⟩
def BBX_CNT_RECORDS : Field := ⟨0x1C0A8, 0x0, 16, 16, .ro, 0, 0, 1, [], false⟩
def BBX_CNT2_JOINS : Field := ⟨0x1C0AC, 0x0, 0, 16, .ro, 0, 0, 1, [], false⟩
def BBX_CNT2_TRUNCS : Field := ⟨0x1C0AC, 0x0, 16, 16, .ro, 0, 0, 1, [], false⟩
def BBX_STRATA_RECORDS : Field := ⟨0x1C0B0, 0x0, 0, 5, .ro, 0, 0, 1, [], false⟩
def BBX_STRATA_PINNED : Field := ⟨0x1C0B0, 0x0, 5, 3, .ro, 0, 0, 1, [], false⟩
def BBX_STRATA_FREE : Field := ⟨0x1C0B0, 0x0, 8, 7, .ro, 71, 0, 1, [], false⟩
def BBX_STRATA_SEQ_NEXT : Field := ⟨0x1C0B0, 0x0, 16, 16, .ro, 0, 0, 1, [], false⟩
def BBX_WIN_CTRL_SRC : Field := ⟨0x1C0B4, 0x0, 0, 2, .rw, 0, 0, 1, [(0, 2)], false⟩
def BBX_WIN_CTRL_REC : Field := ⟨0x1C0B4, 0x0, 4, 4, .rw, 0, 0, 1, [], false⟩
def BBX_WIN_CTRL_PAGE : Field := ⟨0x1C0B4, 0x0, 8, 3, .rw, 0, 0, 1, [], false⟩
def BBX_DIR_STATE : Field := ⟨0x1C0B8, 0x8, 0, 2, .ro, 0, 0, 1, [], false⟩
def BBX_DIR_PINNED : Field := ⟨0x1C0B8, 0x8, 2, 1, .ro, 0, 0, 1, [], false⟩
def BBX_DIR_FLAGS : Field := ⟨0x1C0B8, 0x8, 3, 4, .ro, 0, 0, 1, [], false⟩
def BBX_DIR_SOURCE : Field := ⟨0x1C0B8, 0x8, 7, 5, .ro, 0, 0, 1, [], false⟩
def BBX_DIR_SEQ : Field := ⟨0x1C0B8, 0x8, 16, 16, .ro, 0, 0, 1, [], false⟩
def BBX_DIR_TICK_TICK : Field := ⟨0x1C0BC, 0x8, 0, 32, .ro, 0, 0, 1, [], false⟩
def BBX_GAP_TICK_TICK : Field := ⟨0x1C138, 0x0, 0, 32, .ro, 0, 0, 1, [], false⟩
def BBX_COMMIT_TIME_LAST : Field := ⟨0x1C13C, 0x0, 0, 16, .ro, 0, 0, 1, [], false⟩
def BBX_COMMIT_TIME_MAX : Field := ⟨0x1C13C, 0x0, 16, 16, .ro, 0, 0, 1, [], false⟩
def BBX_IEN_CAPTURE : Field := ⟨0x1C010, 0x0, 0, 1, .rwk, 0, 0, 1, [], false⟩
def BBX_IEN_COMMIT : Field := ⟨0x1C010, 0x0, 1, 1, .rwk, 0, 0, 1, [], false⟩
def BBX_IEN_SECOND : Field := ⟨0x1C010, 0x0, 2, 1, .rwk, 0, 0, 1, [], false⟩
def BBX_IEN_RAW : Field := ⟨0x1C010, 0x0, 3, 1, .rwk, 0, 0, 1, [], false⟩
def BBX_IEN_DROPPING : Field := ⟨0x1C010, 0x0, 4, 1, .rwk, 0, 0, 1, [], false⟩
def BBX_IEN_TRUNCATED : Field := ⟨0x1C010, 0x0, 5, 1, .rwk, 0, 0, 1, [], false⟩

def rowsBBXA : List RegRow := [
  ⟨0x1C000, 0x0, 1, .s, [], [0x1000007]⟩,
  ⟨0x1C004, 0x0, 1, .s, [], [0x40]⟩,
  ⟨0x1C008, 0x0, 1, .c, [BBX_CTRL_EN], []⟩,
  ⟨0x1C00C, 0x0, 1, .s, [BBX_STAT_CAPTURE, BBX_STAT_COMMIT, BBX_STAT_SECOND, BBX_STAT_RAW, BBX_STAT_DROPPING, BBX_STAT_TRUNCATED], []⟩,
  ⟨0x1C010, 0x0, 1, .c, [BBX_IEN_CAPTURE, BBX_IEN_COMMIT, BBX_IEN_SECOND, BBX_IEN_RAW, BBX_IEN_DROPPING, BBX_IEN_TRUNCATED], []⟩,
  ⟨0x1C014, 0x0, 1, .s, [], []⟩,
  ⟨0x1C018, 0x0, 1, .s, [BBX_CFGCRC_CRC], []⟩,
  ⟨0x1C01C, 0x0, 1, .c, [BBX_LOCK_LOCK, BBX_LOCK_STICKY], []⟩,
  ⟨0x1C040, 0x0, 1, .c, [BBX_CFG_E, BBX_CFG_FAST_HALF, BBX_CFG_RAW, BBX_CFG_SUB_SPAN_S], []⟩,
  ⟨0x1C044, 0x0, 1, .c, [BBX_TRIG_EN_EN], []⟩,
  ⟨0x1C048, 0x0, 1, .k, [BBX_CMD_REC, BBX_CMD_TRIGGER, BBX_CMD_PIN, BBX_CMD_UNPIN, BBX_CMD_DELETE], []⟩,
  ⟨0x1C04C, 0x4, 4, .c, [BBX_SEL_SRC, BBX_SEL_SHIFT, BBX_SEL_EN], []⟩,
  ⟨0x1C05C, 0x8, 4, .c, [BBX_LVL_CFG_CH, BBX_LVL_CFG_MODE, BBX_LVL_CFG_QUAL], []⟩,
  ⟨0x1C060, 0x8, 4, .c, [BBX_LVL_THR_THR, BBX_LVL_THR_HYST], []⟩,
  ⟨0x1C07C, 0x0, 1, .s, [BBX_TOP_STAT_OLD_OFS], []⟩,
  ⟨0x1C080, 0x0, 1, .s, [BBX_TOP_OLD_TICK], []⟩,
  ⟨0x1C084, 0x0, 1, .s, [BBX_TOP_DEPTH_BLOCKS, BBX_TOP_DEPTH_PROT], []⟩,
  ⟨0x1C088, 0x0, 1, .s, [BBX_SUB_STAT_OLD_OFS], []⟩,
  ⟨0x1C08C, 0x0, 1, .s, [BBX_SUB_OLD_TICK], []⟩,
  ⟨0x1C090, 0x0, 1, .s, [BBX_SUB_DEPTH_BLOCKS, BBX_SUB_DEPTH_PROT], []⟩,
  ⟨0x1C094, 0x0, 1, .s, [BBX_RATIO_RATIO, BBX_RATIO_RAW_SEGS], []⟩,
  ⟨0x1C098, 0x0, 1, .s, [BBX_DROP_TOP, BBX_DROP_SUB], []⟩,
  ⟨0x1C09C, 0x0, 1, .s, [BBX_REC_STAT_STATE, BBX_REC_STAT_NTRIG, BBX_REC_STAT_POST, BBX_REC_STAT_PRE], []⟩,
  ⟨0x1C0A0, 0x0, 1, .s, [BBX_TRIG_LAST_SOURCE, BBX_TRIG_LAST_FINE, BBX_TRIG_LAST_JOINED], []⟩]

def rowsBBXB : List RegRow := [
  ⟨0x1C0A4, 0x0, 1, .s, [BBX_TRIG_TICK_TICK], []⟩,
  ⟨0x1C0A8, 0x0, 1, .s, [BBX_CNT_TRIGGERS, BBX_CNT_RECORDS], []⟩,
  ⟨0x1C0AC, 0x0, 1, .s, [BBX_CNT2_JOINS, BBX_CNT2_TRUNCS], []⟩,
  ⟨0x1C0B0, 0x0, 1, .s, [BBX_STRATA_RECORDS, BBX_STRATA_PINNED, BBX_STRATA_FREE, BBX_STRATA_SEQ_NEXT], []⟩,
  ⟨0x1C0B4, 0x0, 1, .d, [BBX_WIN_CTRL_SRC, BBX_WIN_CTRL_REC, BBX_WIN_CTRL_PAGE], []⟩,
  ⟨0x1C0B8, 0x8, 16, .s, [BBX_DIR_STATE, BBX_DIR_PINNED, BBX_DIR_FLAGS, BBX_DIR_SOURCE, BBX_DIR_SEQ], []⟩,
  ⟨0x1C0BC, 0x8, 16, .s, [BBX_DIR_TICK_TICK], []⟩,
  ⟨0x1C138, 0x0, 1, .s, [BBX_GAP_TICK_TICK], []⟩,
  ⟨0x1C13C, 0x0, 1, .s, [BBX_COMMIT_TIME_LAST, BBX_COMMIT_TIME_MAX], []⟩]

/-- Every register of page 0x07. -/
def rowsBBX : List RegRow := rowsBBXA ++ rowsBBXB

/-! Page 0x08 MBX: R75 and R515 (21_mailboxes.md), R516 (21_mailboxes.md). -/

def MBX_LOCK_LOCK : Field := ⟨0x2001C, 0x0, 0, 1, .rwk, 0, 0, 1, [], false⟩
def MBX_LOCK_STICKY : Field := ⟨0x2001C, 0x0, 1, 1, .rw, 0, 0, 1, [], false⟩
def MBX_CFGCRC_CRC : Field := ⟨0x20018, 0x0, 0, 32, .ro, 0, 0, 1, [], false⟩
def MBX_STAT_MSG_OUT : Field := ⟨0x2000C, 0x0, 0, 1, .ro, 0, 0, 1, [], false⟩
def MBX_STAT_DB_OUT : Field := ⟨0x2000C, 0x0, 1, 1, .ro, 0, 0, 1, [], false⟩
def MBX_STAT_TMO_IN : Field := ⟨0x2000C, 0x0, 2, 1, .ro, 0, 0, 1, [], false⟩
def MBX_STAT_IN_PENDING : Field := ⟨0x2000C, 0x0, 3, 1, .ro, 0, 0, 1, [], false⟩
def MBX_IN_CMD_CH : Field := ⟨0x20040, 0x0, 0, 5, .wo, 0, 0, 1, [], false⟩
def MBX_IN_CMD_SEND : Field := ⟨0x20040, 0x0, 8, 1, .cmd, 0, 0, 1, [], false⟩
def MBX_IN_CMD_TAKE : Field := ⟨0x20040, 0x0, 9, 1, .cmd, 0, 0, 1, [], false⟩
def MBX_IN_CMD_RECALL : Field := ⟨0x20040, 0x0, 10, 1, .cmd, 0, 0, 1, [], false⟩
def MBX_IN_CMD_LEN : Field := ⟨0x20040, 0x0, 16, 11, .wo, 0, 0, 1, [], false⟩
def MBX_OUT_CMD_CH : Field := ⟨0x20044, 0x0, 0, 5, .wo, 0, 0, 1, [], false⟩
def MBX_OUT_CMD_SEND : Field := ⟨0x20044, 0x0, 8, 1, .cmd, 0, 0, 1, [], false⟩
def MBX_OUT_CMD_TAKE : Field := ⟨0x20044, 0x0, 9, 1, .cmd, 0, 0, 1, [], false⟩
def MBX_OUT_CMD_RECALL : Field := ⟨0x20044, 0x0, 10, 1, .cmd, 0, 0, 1, [], false⟩
def MBX_OUT_CMD_LEN : Field := ⟨0x20044, 0x0, 16, 11, .wo, 0, 0, 1, [], false⟩
def MBX_DB_IN_DB : Field := ⟨0x20048, 0x0, 0, 32, .rw, 0, 0, 1, [], false⟩
def MBX_DB_IN_MASK_MASK : Field := ⟨0x2004C, 0x0, 0, 32, .rwk, 0xffffffff, 0, 1, [], false⟩
def MBX_DB_OUT_DB : Field := ⟨0x20050, 0x0, 0, 32, .rw, 0, 0, 1, [], false⟩
def MBX_DB_OUT_MASK_MASK : Field := ⟨0x20054, 0x0, 0, 32, .rwk, 0, 0, 1, [], false⟩
def MBX_NOTIFY_EN_EN : Field := ⟨0x20058, 0x0, 0, 32, .rwk, 0xffffffff, 0, 1, [], false⟩
def MBX_IN_FULL_MASK : Field := ⟨0x2005C, 0x0, 0, 32, .ro, 0, 0, 1, [], false⟩
def MBX_OUT_FULL_MASK : Field := ⟨0x20060, 0x0, 0, 32, .ro, 0, 0, 1, [], false⟩
def MBX_IN_TMO_MASK : Field := ⟨0x20064, 0x0, 0, 30, .ro, 0, 0, 1, [], false⟩
def MBX_OUT_TMO_MASK : Field := ⟨0x20068, 0x0, 0, 30, .ro, 0, 0, 1, [], false⟩
def MBX_FULL_REJ_IN : Field := ⟨0x2006C, 0x0, 0, 16, .ro, 0, 0, 1, [], false⟩
def MBX_FULL_REJ_OUT : Field := ⟨0x2006C, 0x0, 16, 16, .ro, 0, 0, 1, [], false⟩
def MBX_CNT_IN_SENT : Field := ⟨0x20070, 0x0, 0, 32, .ro, 0, 0, 1, [], false⟩
def MBX_CNT_OUT_SENT : Field := ⟨0x20074, 0x0, 0, 32, .ro, 0, 0, 1, [], false⟩
def MBX_TMO_CNT_IN : Field := ⟨0x20078, 0x0, 0, 16, .ro, 0, 0, 1, [], false⟩
def MBX_TMO_CNT_OUT : Field := ⟨0x20078, 0x0, 16, 16, .ro, 0, 0, 1, [], false⟩
def MBX_DB_CNT_IN : Field := ⟨0x2007C, 0x0, 0, 16, .ro, 0, 0, 1, [], false⟩
def MBX_DB_CNT_OUT : Field := ⟨0x2007C, 0x0, 16, 16, .ro, 0, 0, 1, [], false⟩
def MBX_LAST_REJ_CH : Field := ⟨0x20080, 0x0, 0, 5, .ro, 0, 0, 1, [], false⟩
def MBX_LAST_REJ_OUT : Field := ⟨0x20080, 0x0, 5, 1, .ro, 0, 0, 1, [], false⟩
def MBX_LAST_REJ_SRC : Field := ⟨0x20080, 0x0, 8, 2, .ro, 0, 0, 1, [], false⟩
def MBX_LAST_REJ_TICK_TICK : Field := ⟨0x20084, 0x0, 0, 32, .ro, 0, 0, 1, [], false⟩
def MBX_TMO_TMO_MS : Field := ⟨0x20088, 0x4, 0, 14, .rwk, 1000, 0, 1, [(1, 10000)], false⟩
def MBX_IN_STAT_FULL : Field := ⟨0x20100, 0x4, 0, 1, .ro, 0, 0, 1, [], false⟩
def MBX_IN_STAT_TIMEOUT : Field := ⟨0x20100, 0x4, 1, 1, .ro, 0, 0, 1, [], false⟩
def MBX_IN_STAT_SECURE : Field := ⟨0x20100, 0x4, 2, 1, .ro, 0, 0, 1, [], false⟩
def MBX_IN_STAT_SIZE : Field := ⟨0x20100, 0x4, 3, 2, .ro, 0, 0, 1, [], false⟩
def MBX_IN_STAT_SRC : Field := ⟨0x20100, 0x4, 5, 2, .ro, 0, 0, 1, [], false⟩
def MBX_IN_STAT_SEQ : Field := ⟨0x20100, 0x4, 8, 8, .ro, 0, 0, 1, [], false⟩
def MBX_IN_STAT_LEN : Field := ⟨0x20100, 0x4, 16, 11, .ro, 0, 0, 1, [], false⟩
def MBX_OUT_STAT_FULL : Field := ⟨0x20180, 0x4, 0, 1, .ro, 0, 0, 1, [], false⟩
def MBX_OUT_STAT_TIMEOUT : Field := ⟨0x20180, 0x4, 1, 1, .ro, 0, 0, 1, [], false⟩
def MBX_OUT_STAT_SECURE : Field := ⟨0x20180, 0x4, 2, 1, .ro, 0, 0, 1, [], false⟩
def MBX_OUT_STAT_SIZE : Field := ⟨0x20180, 0x4, 3, 2, .ro, 0, 0, 1, [], false⟩
def MBX_OUT_STAT_SRC : Field := ⟨0x20180, 0x4, 5, 2, .ro, 0, 0, 1, [], false⟩
def MBX_OUT_STAT_SEQ : Field := ⟨0x20180, 0x4, 8, 8, .ro, 0, 0, 1, [], false⟩
def MBX_OUT_STAT_LEN : Field := ⟨0x20180, 0x4, 16, 11, .ro, 0, 0, 1, [], false⟩
def MBX_IEN_MSG_OUT : Field := ⟨0x20010, 0x0, 0, 1, .rwk, 0, 0, 1, [], false⟩
def MBX_IEN_DB_OUT : Field := ⟨0x20010, 0x0, 1, 1, .rwk, 0, 0, 1, [], false⟩
def MBX_IEN_TMO_IN : Field := ⟨0x20010, 0x0, 2, 1, .rwk, 0, 0, 1, [], false⟩
def MBX_IEN_IN_PENDING : Field := ⟨0x20010, 0x0, 3, 1, .rwk, 0, 0, 1, [], false⟩

def rowsMBXA : List RegRow := [
  ⟨0x20000, 0x0, 1, .s, [], [0x1000008]⟩,
  ⟨0x20004, 0x0, 1, .s, [], [0x70]⟩,
  ⟨0x20008, 0x0, 1, .c, [], []⟩,
  ⟨0x2000C, 0x0, 1, .s, [MBX_STAT_MSG_OUT, MBX_STAT_DB_OUT, MBX_STAT_TMO_IN, MBX_STAT_IN_PENDING], []⟩,
  ⟨0x20010, 0x0, 1, .c, [MBX_IEN_MSG_OUT, MBX_IEN_DB_OUT, MBX_IEN_TMO_IN, MBX_IEN_IN_PENDING], []⟩,
  ⟨0x20014, 0x0, 1, .s, [], []⟩,
  ⟨0x20018, 0x0, 1, .s, [MBX_CFGCRC_CRC], []⟩,
  ⟨0x2001C, 0x0, 1, .c, [MBX_LOCK_LOCK, MBX_LOCK_STICKY], []⟩,
  ⟨0x20040, 0x0, 1, .k, [MBX_IN_CMD_CH, MBX_IN_CMD_SEND, MBX_IN_CMD_TAKE, MBX_IN_CMD_RECALL, MBX_IN_CMD_LEN], []⟩,
  ⟨0x20044, 0x0, 1, .k, [MBX_OUT_CMD_CH, MBX_OUT_CMD_SEND, MBX_OUT_CMD_TAKE, MBX_OUT_CMD_RECALL, MBX_OUT_CMD_LEN], []⟩,
  ⟨0x20048, 0x0, 1, .d, [MBX_DB_IN_DB], []⟩,
  ⟨0x2004C, 0x0, 1, .c, [MBX_DB_IN_MASK_MASK], []⟩,
  ⟨0x20050, 0x0, 1, .d, [MBX_DB_OUT_DB], []⟩,
  ⟨0x20054, 0x0, 1, .c, [MBX_DB_OUT_MASK_MASK], []⟩,
  ⟨0x20058, 0x0, 1, .c, [MBX_NOTIFY_EN_EN], []⟩,
  ⟨0x2005C, 0x0, 1, .s, [MBX_IN_FULL_MASK], []⟩,
  ⟨0x20060, 0x0, 1, .s, [MBX_OUT_FULL_MASK], []⟩,
  ⟨0x20064, 0x0, 1, .s, [MBX_IN_TMO_MASK], []⟩,
  ⟨0x20068, 0x0, 1, .s, [MBX_OUT_TMO_MASK], []⟩,
  ⟨0x2006C, 0x0, 1, .s, [MBX_FULL_REJ_IN, MBX_FULL_REJ_OUT], []⟩,
  ⟨0x20070, 0x0, 1, .s, [MBX_CNT_IN_SENT], []⟩,
  ⟨0x20074, 0x0, 1, .s, [MBX_CNT_OUT_SENT], []⟩,
  ⟨0x20078, 0x0, 1, .s, [MBX_TMO_CNT_IN, MBX_TMO_CNT_OUT], []⟩,
  ⟨0x2007C, 0x0, 1, .s, [MBX_DB_CNT_IN, MBX_DB_CNT_OUT], []⟩]

def rowsMBXB : List RegRow := [
  ⟨0x20080, 0x0, 1, .s, [MBX_LAST_REJ_CH, MBX_LAST_REJ_OUT, MBX_LAST_REJ_SRC], []⟩,
  ⟨0x20084, 0x0, 1, .s, [MBX_LAST_REJ_TICK_TICK], []⟩,
  ⟨0x20088, 0x4, 30, .c, [MBX_TMO_TMO_MS], []⟩,
  ⟨0x20100, 0x4, 32, .s, [MBX_IN_STAT_FULL, MBX_IN_STAT_TIMEOUT, MBX_IN_STAT_SECURE, MBX_IN_STAT_SIZE, MBX_IN_STAT_SRC, MBX_IN_STAT_SEQ, MBX_IN_STAT_LEN], [0, 0, 0, 0, 0, 0, 0, 0, 0, 0, 0, 0, 0, 0, 0, 0, 4, 4, 4, 4, 4, 4, 4, 4, 8, 8, 8, 8, 0xC, 0xC, 0x10, 0x14]⟩,
  ⟨0x20180, 0x4, 32, .s, [MBX_OUT_STAT_FULL, MBX_OUT_STAT_TIMEOUT, MBX_OUT_STAT_SECURE, MBX_OUT_STAT_SIZE, MBX_OUT_STAT_SRC, MBX_OUT_STAT_SEQ, MBX_OUT_STAT_LEN], [0, 0, 0, 0, 0, 0, 0, 0, 0, 0, 0, 0, 0, 0, 0, 0, 4, 4, 4, 4, 4, 4, 4, 4, 8, 8, 8, 8, 0xC, 0xC, 0x10, 0x14]⟩]

/-- Every register of page 0x08. -/
def rowsMBX : List RegRow := rowsMBXA ++ rowsMBXB

/-! Page 0x09 WDG: R75 and R527 (22_watchdog.md), R528 (22_watchdog.md). -/

def WDG_LOCK_LOCK : Field := ⟨0x2401C, 0x0, 0, 1, .rwk, 0, 0, 1, [], false⟩
def WDG_LOCK_STICKY : Field := ⟨0x2401C, 0x0, 1, 1, .rw, 0, 0, 1, [], false⟩
def WDG_CFGCRC_CRC : Field := ⟨0x24018, 0x0, 0, 32, .ro, 0, 0, 1, [], false⟩
def WDG_STAT_EXPIRED : Field := ⟨0x2400C, 0x0, 0, 1, .ro, 0, 0, 1, [], false⟩
def WDG_STAT_OPEN : Field := ⟨0x2400C, 0x0, 1, 1, .ro, 1, 0, 1, [], false⟩
def WDG_STAT_SUSPENDED : Field := ⟨0x2400C, 0x0, 2, 1, .ro, 0, 0, 1, [], false⟩
def WDG_STAT_FIRST : Field := ⟨0x2400C, 0x0, 3, 1, .ro, 1, 0, 1, [], false⟩
def WDG_STAT_LEDGER_SHORT : Field := ⟨0x2400C, 0x0, 4, 1, .ro, 0, 0, 1, [], false⟩
def WDG_CFG_CLOSED_MS : Field := ⟨0x24040, 0x0, 0, 14, .rwk, 100, 0, 1, [(1, 10000)], false⟩
def WDG_CFG_OPEN_MS : Field := ⟨0x24040, 0x0, 16, 14, .rwk, 1000, 0, 1, [(1, 10000)], false⟩
def WDG_ACT_RST_EN : Field := ⟨0x24044, 0x0, 0, 1, .rwk, 0, 0, 1, [], false⟩
def WDG_ACT_RST_SEL : Field := ⟨0x24044, 0x0, 8, 3, .rwk, 0, 0, 1, [], false⟩
def WDG_ACT_PULSE_MS : Field := ⟨0x24044, 0x0, 16, 16, .rwk, 100, 0, 1, [(1, 10000)], false⟩
def WDG_WDI_WDI_DEG : Field := ⟨0x24048, 0x0, 0, 8, .rwk, 10, 0, 1, [(1, 255)], false⟩
def WDG_LEDGER_MASK_MASK : Field := ⟨0x2404C, 0x0, 0, 16, .rwk, 0, 0, 1, [], false⟩
def WDG_LEDGER_BITS : Field := ⟨0x24050, 0x0, 0, 16, .rw, 0, 0, 1, [], false⟩
def WDG_STATE_STATE : Field := ⟨0x24054, 0x0, 0, 2, .ro, 0, 0, 1, [], false⟩
def WDG_STATE_PHASE : Field := ⟨0x24054, 0x0, 2, 1, .ro, 1, 0, 1, [], false⟩
def WDG_STATE_LEFT_MS : Field := ⟨0x24054, 0x0, 16, 16, .ro, 0, 0, 1, [], false⟩
def WDG_OPEN_END_TICK : Field := ⟨0x24058, 0x0, 0, 32, .ro, 0x7270e00, 0, 1, [], false⟩
def WDG_LAST_TOG_TICK : Field := ⟨0x2405C, 0x0, 0, 32, .ro, 0, 0, 1, [], false⟩
def WDG_CNT_ACCEPTED : Field := ⟨0x24060, 0x0, 0, 16, .ro, 0, 0, 1, [], false⟩
def WDG_CNT_REJECTED : Field := ⟨0x24060, 0x0, 16, 16, .ro, 0, 0, 1, [], false⟩
def WDG_FAULT_CNT_LATE : Field := ⟨0x24064, 0x0, 0, 16, .ro, 0, 0, 1, [], false⟩
def WDG_FAULT_CNT_EARLY : Field := ⟨0x24064, 0x0, 16, 16, .ro, 0, 0, 1, [], false⟩
def WDG_LAST_EXP_MISSING : Field := ⟨0x24068, 0x0, 0, 16, .ro, 0, 0, 1, [], false⟩
def WDG_LAST_EXP_CAUSE : Field := ⟨0x24068, 0x0, 16, 2, .ro, 0, 0, 1, [], false⟩
def WDG_EXP_TICK_TICK : Field := ⟨0x2406C, 0x0, 0, 32, .ro, 0, 0, 1, [], false⟩
def WDG_SUSP_CNT_COUNT : Field := ⟨0x24070, 0x0, 0, 16, .ro, 0, 0, 1, [], false⟩
def WDG_IEN_EXPIRED : Field := ⟨0x24010, 0x0, 0, 1, .rwk, 0, 0, 1, [], false⟩
def WDG_IEN_OPEN : Field := ⟨0x24010, 0x0, 1, 1, .rwk, 0, 0, 1, [], false⟩
def WDG_IEN_SUSPENDED : Field := ⟨0x24010, 0x0, 2, 1, .rwk, 0, 0, 1, [], false⟩
def WDG_IEN_FIRST : Field := ⟨0x24010, 0x0, 3, 1, .rwk, 0, 0, 1, [], false⟩
def WDG_IEN_LEDGER_SHORT : Field := ⟨0x24010, 0x0, 4, 1, .rwk, 0, 0, 1, [], false⟩

def rowsWDGA : List RegRow := [
  ⟨0x24000, 0x0, 1, .s, [], [0x1000009]⟩,
  ⟨0x24004, 0x0, 1, .s, [], [0xD]⟩,
  ⟨0x24008, 0x0, 1, .c, [], []⟩,
  ⟨0x2400C, 0x0, 1, .s, [WDG_STAT_EXPIRED, WDG_STAT_OPEN, WDG_STAT_SUSPENDED, WDG_STAT_FIRST, WDG_STAT_LEDGER_SHORT], []⟩,
  ⟨0x24010, 0x0, 1, .c, [WDG_IEN_EXPIRED, WDG_IEN_OPEN, WDG_IEN_SUSPENDED, WDG_IEN_FIRST, WDG_IEN_LEDGER_SHORT], []⟩,
  ⟨0x24014, 0x0, 1, .s, [], []⟩,
  ⟨0x24018, 0x0, 1, .s, [WDG_CFGCRC_CRC], []⟩,
  ⟨0x2401C, 0x0, 1, .c, [WDG_LOCK_LOCK, WDG_LOCK_STICKY], []⟩,
  ⟨0x24040, 0x0, 1, .c, [WDG_CFG_CLOSED_MS, WDG_CFG_OPEN_MS], []⟩,
  ⟨0x24044, 0x0, 1, .c, [WDG_ACT_RST_EN, WDG_ACT_RST_SEL, WDG_ACT_PULSE_MS], []⟩,
  ⟨0x24048, 0x0, 1, .c, [WDG_WDI_WDI_DEG], []⟩,
  ⟨0x2404C, 0x0, 1, .c, [WDG_LEDGER_MASK_MASK], []⟩,
  ⟨0x24050, 0x0, 1, .d, [WDG_LEDGER_BITS], []⟩,
  ⟨0x24054, 0x0, 1, .s, [WDG_STATE_STATE, WDG_STATE_PHASE, WDG_STATE_LEFT_MS], []⟩,
  ⟨0x24058, 0x0, 1, .s, [WDG_OPEN_END_TICK], []⟩,
  ⟨0x2405C, 0x0, 1, .s, [WDG_LAST_TOG_TICK], []⟩,
  ⟨0x24060, 0x0, 1, .s, [WDG_CNT_ACCEPTED, WDG_CNT_REJECTED], []⟩,
  ⟨0x24064, 0x0, 1, .s, [WDG_FAULT_CNT_LATE, WDG_FAULT_CNT_EARLY], []⟩,
  ⟨0x24068, 0x0, 1, .s, [WDG_LAST_EXP_MISSING, WDG_LAST_EXP_CAUSE], []⟩,
  ⟨0x2406C, 0x0, 1, .s, [WDG_EXP_TICK_TICK], []⟩,
  ⟨0x24070, 0x0, 1, .s, [WDG_SUSP_CNT_COUNT], []⟩]

/-- Every register of page 0x09. -/
def rowsWDG : List RegRow := rowsWDGA

/-! Page 0x0A THM: R75 and R372 (14_thermal.md), R373 (14_thermal.md). -/

def THM_LOCK_LOCK : Field := ⟨0x2801C, 0x0, 0, 1, .rwk, 0, 0, 1, [], false⟩
def THM_LOCK_STICKY : Field := ⟨0x2801C, 0x0, 1, 1, .rw, 0, 0, 1, [], false⟩
def THM_CFGCRC_CRC : Field := ⟨0x28018, 0x0, 0, 32, .ro, 0, 0, 1, [], false⟩
def THM_CTRL_EN : Field := ⟨0x28008, 0x0, 0, 1, .rwk, 1, 0, 1, [], false⟩
def THM_STAT_WARN : Field := ⟨0x2800C, 0x0, 0, 1, .ro, 0, 0, 1, [], false⟩
def THM_STAT_THROTTLE : Field := ⟨0x2800C, 0x0, 1, 1, .ro, 0, 0, 1, [], false⟩
def THM_STAT_SHUTDOWN : Field := ⟨0x2800C, 0x0, 2, 1, .ro, 0, 0, 1, [], false⟩
def THM_STAT_INVALID : Field := ⟨0x2800C, 0x0, 3, 1, .ro, 0, 0, 1, [], false⟩
def THM_STAT_TWARN : Field := ⟨0x2800C, 0x0, 4, 1, .ro, 0, 0, 1, [], false⟩
def THM_STAT_THERM : Field := ⟨0x2800C, 0x0, 5, 1, .ro, 0, 0, 1, [], false⟩
def THM_MAP_GROUP : Field := ⟨0x28040, 0x4, 0, 4, .rwk, 0, 4, 8, [(0, 5), (15, 15)], false⟩
def THM_OUT_CFG_TW_MASK : Field := ⟨0x2804C, 0x0, 0, 6, .rwk, 63, 0, 1, [], false⟩
def THM_OUT_CFG_TH_MASK : Field := ⟨0x2804C, 0x0, 8, 6, .rwk, 63, 0, 1, [], false⟩
def THM_MAX_TEMP : Field := ⟨0x28050, 0x0, 0, 16, .ro, 0x8000, 0, 1, [], false⟩
def THM_MAX_SENSOR : Field := ⟨0x28050, 0x0, 16, 5, .ro, 0, 0, 1, [], false⟩
def THM_REQ_CAP_CAP : Field := ⟨0x28054, 0x0, 0, 32, .ro, 0x7fffffff, 0, 1, [], false⟩
def THM_REQ_CHG : Field := ⟨0x28058, 0x0, 0, 16, .ro, 0xffff, 0, 1, [], false⟩
def THM_REQ_DERATE : Field := ⟨0x28058, 0x0, 16, 7, .ro, 100, 0, 1, [], false⟩
def THM_REQ_STR : Field := ⟨0x28058, 0x0, 24, 8, .ro, 0, 0, 1, [], false⟩
def THM_CNT_WARNS : Field := ⟨0x2805C, 0x0, 0, 12, .ro, 0, 0, 1, [], false⟩
def THM_CNT_THROTTLES : Field := ⟨0x2805C, 0x0, 12, 12, .ro, 0, 0, 1, [], false⟩
def THM_CNT_SHUTDOWNS : Field := ⟨0x2805C, 0x0, 24, 8, .ro, 0, 0, 1, [], false⟩
def THM_TEMP_T : Field := ⟨0x28060, 0x4, 0, 16, .ro, 0x8000, 16, 2, [], false⟩
def THM_GRP_THR_WARN : Field := ⟨0x28088, 0x14, 0, 16, .rwk, 6400, 0, 1, [], false⟩
def THM_GRP_THR_THROT : Field := ⟨0x28088, 0x14, 16, 16, .rwk, 7040, 0, 1, [], false⟩
def THM_GRP_SD_SD : Field := ⟨0x2808C, 0x14, 0, 16, .rwk, 8000, 0, 1, [], false⟩
def THM_GRP_SD_WARN_HYST : Field := ⟨0x2808C, 0x14, 16, 8, .rwk, 20, 0, 1, [(1, 255)], false⟩
def THM_GRP_SD_THROT_HYST : Field := ⟨0x2808C, 0x14, 24, 8, .rwk, 20, 0, 1, [(1, 255)], false⟩
def THM_GRP_CAP_CAP : Field := ⟨0x28090, 0x14, 0, 32, .rwk, 0x7fffffff, 0, 1, [], false⟩
def THM_GRP_ACT_CHG : Field := ⟨0x28094, 0x14, 0, 16, .rwk, 0xffff, 0, 1, [], false⟩
def THM_GRP_ACT_DERATE : Field := ⟨0x28094, 0x14, 16, 7, .rwk, 100, 0, 1, [(0, 100)], false⟩
def THM_GRP_ACT_SD_HALT : Field := ⟨0x28094, 0x14, 23, 1, .rwk, 1, 0, 1, [], false⟩
def THM_GRP_ACT_STR_MASK : Field := ⟨0x28094, 0x14, 24, 8, .rwk, 0, 0, 1, [], false⟩
def THM_GRP_STAT_TEMP : Field := ⟨0x28098, 0x14, 0, 16, .ro, 0x8000, 0, 1, [], false⟩
def THM_GRP_STAT_LEVEL : Field := ⟨0x28098, 0x14, 16, 2, .ro, 0, 0, 1, [], false⟩
def THM_GRP_STAT_INVALID : Field := ⟨0x28098, 0x14, 18, 1, .ro, 0, 0, 1, [], false⟩
def THM_GRP_STAT_SD_COOL : Field := ⟨0x28098, 0x14, 19, 1, .ro, 0, 0, 1, [], false⟩
def THM_GRP_STAT_HOTTEST : Field := ⟨0x28098, 0x14, 24, 5, .ro, 0, 0, 1, [], false⟩
def THM_GRP_STAT_SD_HYST : Field := ⟨0x28098, 0x14, 29, 3, .rwk, 2, 0, 1, [(1, 7)], false⟩
def THM_IEN_WARN : Field := ⟨0x28010, 0x0, 0, 1, .rwk, 0, 0, 1, [], false⟩
def THM_IEN_THROTTLE : Field := ⟨0x28010, 0x0, 1, 1, .rwk, 0, 0, 1, [], false⟩
def THM_IEN_SHUTDOWN : Field := ⟨0x28010, 0x0, 2, 1, .rwk, 0, 0, 1, [], false⟩
def THM_IEN_INVALID : Field := ⟨0x28010, 0x0, 3, 1, .rwk, 0, 0, 1, [], false⟩
def THM_IEN_TWARN : Field := ⟨0x28010, 0x0, 4, 1, .rwk, 0, 0, 1, [], false⟩
def THM_IEN_THERM : Field := ⟨0x28010, 0x0, 5, 1, .rwk, 0, 0, 1, [], false⟩

def rowsTHMA : List RegRow := [
  ⟨0x28000, 0x0, 1, .s, [], [0x100000A]⟩,
  ⟨0x28004, 0x0, 1, .s, [], [0x30]⟩,
  ⟨0x28008, 0x0, 1, .c, [THM_CTRL_EN], []⟩,
  ⟨0x2800C, 0x0, 1, .s, [THM_STAT_WARN, THM_STAT_THROTTLE, THM_STAT_SHUTDOWN, THM_STAT_INVALID, THM_STAT_TWARN, THM_STAT_THERM], []⟩,
  ⟨0x28010, 0x0, 1, .c, [THM_IEN_WARN, THM_IEN_THROTTLE, THM_IEN_SHUTDOWN, THM_IEN_INVALID, THM_IEN_TWARN, THM_IEN_THERM], []⟩,
  ⟨0x28014, 0x0, 1, .s, [], []⟩,
  ⟨0x28018, 0x0, 1, .s, [THM_CFGCRC_CRC], []⟩,
  ⟨0x2801C, 0x0, 1, .c, [THM_LOCK_LOCK, THM_LOCK_STICKY], []⟩,
  ⟨0x28040, 0x4, 3, .c, [THM_MAP_GROUP], [0xFFFFFFFF, 0xFFFF, 0]⟩,
  ⟨0x2804C, 0x0, 1, .c, [THM_OUT_CFG_TW_MASK, THM_OUT_CFG_TH_MASK], []⟩,
  ⟨0x28050, 0x0, 1, .s, [THM_MAX_TEMP, THM_MAX_SENSOR], []⟩,
  ⟨0x28054, 0x0, 1, .s, [THM_REQ_CAP_CAP], []⟩,
  ⟨0x28058, 0x0, 1, .s, [THM_REQ_CHG, THM_REQ_DERATE, THM_REQ_STR], []⟩,
  ⟨0x2805C, 0x0, 1, .s, [THM_CNT_WARNS, THM_CNT_THROTTLES, THM_CNT_SHUTDOWNS], []⟩,
  ⟨0x28060, 0x4, 10, .d, [THM_TEMP_T], []⟩,
  ⟨0x28088, 0x14, 6, .c, [THM_GRP_THR_WARN, THM_GRP_THR_THROT], []⟩,
  ⟨0x2808C, 0x14, 6, .c, [THM_GRP_SD_SD, THM_GRP_SD_WARN_HYST, THM_GRP_SD_THROT_HYST], []⟩,
  ⟨0x28090, 0x14, 6, .c, [THM_GRP_CAP_CAP], []⟩,
  ⟨0x28094, 0x14, 6, .c, [THM_GRP_ACT_CHG, THM_GRP_ACT_DERATE, THM_GRP_ACT_SD_HALT, THM_GRP_ACT_STR_MASK], []⟩,
  ⟨0x28098, 0x14, 6, .c, [THM_GRP_STAT_TEMP, THM_GRP_STAT_LEVEL, THM_GRP_STAT_INVALID, THM_GRP_STAT_SD_COOL, THM_GRP_STAT_HOTTEST, THM_GRP_STAT_SD_HYST], []⟩]

/-- Every register of page 0x0A. -/
def rowsTHM : List RegRow := rowsTHMA

end Sys2Proof.Machine
end

