-- ==== Sys2Proof/Machine/RegMap.lean ====
section
/-! DEFINITION. The register map of R70, R74 and R75: which register an address holds, and the value it resets to.
Sparse maps in one canonical form, for the registers and for every memory of the block. -/

namespace Sys2Proof.Machine

/-- The registers of page `p` (R74). -/
def pageRows (p : Nat) : List RegRow :=
  match p with
  | 0x00 => rowsSYS | 0x01 => rowsCCK | 0x02 => rowsSES | 0x03 => rowsKLN
  | 0x04 => rowsNVM | 0x05 => rowsTB | 0x06 => rowsEVR | 0x07 => rowsBBX
  | 0x08 => rowsMBX | 0x09 => rowsWDG | 0x0A => rowsTHM | 0x0B => rowsAFE
  | 0x0C => rowsLPE | 0x0D => rowsLPS | 0x0E => rowsLPT | 0x0F => rowsPWM
  | 0x10 => rowsCNV | 0x11 => rowsEFU | 0x12 => rowsSEQ | 0x13 => rowsRMN
  | 0x14 => rowsBAT | 0x15 => rowsSHR | 0x16 => rowsCAP | 0x17 => rowsTWB
  | 0x18 => rowsXAC | 0x19 => rowsHLK | 0x1A => rowsCHN | 0x1B => rowsUPD
  | 0x1C => rowsHIF | 0x1D => rowsSAF | 0x1E => rowsBKG
  | _ => []

/-- Element `i` of a row's register is at `addr + stride * i`. -/
def RegRow.holds (r : RegRow) (a : Nat) : Bool :=
  if r.count = 1 then a == r.addr
  else decide (r.addr ≤ a) && decide (a < r.addr + r.stride * r.count) && decide ((a - r.addr) % r.stride = 0)

/-- The element of the row that address `a` names. -/
def RegRow.elem (r : RegRow) (a : Nat) : Nat := if r.count = 1 then 0 else (a - r.addr) / r.stride

/-- The register at byte address `a`, if one stands there (R72: every other offset of a page is reserved). -/
def findRow (a : Nat) : Option RegRow := (pageRows (a / 0x4000)).find? (fun r => r.holds a)

/-- The positions of a field's repetitions in one register. -/
def Field.spots (f : Field) : List Nat := (List.range f.per).map (fun j => f.lo + f.sub * j)

/-- The register word in which field `f`, in each of its repetitions, holds `v` and every other bit is 0. -/
def Field.word (f : Field) (v : Nat) : Word :=
  f.spots.foldl (fun w p => w ||| (BitVec.ofNat 32 (v % 2 ^ f.width) <<< p)) 0

/-- The bits of a register that fields of the types `ts` take. -/
def RegRow.mask (r : RegRow) (ts : List FieldType) : Word :=
  r.fields.foldl (fun w f => if ts.contains f.ty then w ||| f.word (2 ^ f.width - 1) else w) 0

/-- The reset value of a row's element `i`. -/
def RegRow.resetOf (r : RegRow) (i : Nat) : Word :=
  match r.resets with
  | [] => r.fields.foldl (fun w f => w ||| f.word f.reset) 0
  | v :: vs => BitVec.ofNat 32 ((v :: vs).getD i 0)

/-- The reset value of the register at `a`. Copies of a register kept for one source (R73 and the per-source registers)
stand `0x100_0000` apart and reset alike. -/
def regReset (a : Nat) : Word :=
  match findRow (a % 0x1000000) with
  | none => 0
  | some r => r.resetOf (r.elem (a % 0x1000000))

/-- The value at key `a` of a sparse map; an unlisted key reads as `d a`. -/
def look {α : Type} (d : Nat → α) : List (Nat × α) → Nat → α
  | [], a => d a
  | (k, v) :: m, a => if k = a then v else if a < k then d a else look d m a

/-- Drops leading entries whose key is at most `a`; with rising keys this drops nothing below the head. -/
def dropLE {α : Type} (a : Nat) : List (Nat × α) → List (Nat × α)
  | [] => []
  | (k, v) :: m => if k ≤ a then dropLE a m else (k, v) :: m

/-- Writes `v` at key `a`, keeping keys rising and listing no entry equal to what an unlisted key reads as. -/
def put {α : Type} [DecidableEq α] (d : Nat → α) : List (Nat × α) → Nat → α → List (Nat × α)
  | [], a, v => if v = d a then [] else [(a, v)]
  | (k, w) :: m, a, v =>
    if a < k then (if v = d a then (k, w) :: m else (a, v) :: (k, w) :: m)
    else if a = k then (if v = d a then dropLE a m else (a, v) :: m)
    else (k, w) :: put d m a v

/-- The canonical form: keys strictly rising from above `lo`, no entry equal to what its key reads as unlisted. -/
def sparseFrom {α : Type} [DecidableEq α] (d : Nat → α) : Option Nat → List (Nat × α) → Bool
  | _, [] => true
  | lo, (k, v) :: m =>
    (match lo with | none => true | some l => decide (l < k)) && decide (v ≠ d k) && sparseFrom d (some k) m

/-- A sparse map in canonical form. -/
def sparseWf {α : Type} [DecidableEq α] (d : Nat → α) (m : List (Nat × α)) : Bool := sparseFrom d none m

end Sys2Proof.Machine
end

