-- ==== Sys2Proof/Machine/Events.lean ====
section
/-! DEFINITION. The events the spec has the P9484 record, one name each. R439 and R440 give the codes of the first eight; the
numbers of the others are not in the spec (log entry 5). -/

namespace Sys2Proof.Machine

/-- An event, before it becomes a record. -/
inductive Ev where
  | shelfState
  | recorderStart
  | suppressed
  | cleared
  | traceGap
  | eventLoss
  | clearRefused
  | alarmFold
  | activateRefused
  | allfire
  | anchor
  | bakeEnded
  | batCloseRefused
  | batTblRefused
  | blockDropped
  | bootCheckFailed
  | bootHeld
  | calAttemptFailed
  | calPassFailed
  | capTestRefused
  | caplineMismatch
  | cascadeStuck
  | channelStuck
  | channelUnstuck
  | classFault
  | commitAbandoned
  | converterExcluded
  | converterReturned
  | crosscheckTransient
  | deleteRefused
  | entryGone
  | entryMade
  | entrySilent
  | feedStuck
  | fetHot
  | fieldRefused
  | fuseClearRefused
  | fuseDamaged
  | fuseFail
  | fuseLatched
  | fuseOnRefused
  | groupFault
  | guaranteeChange
  | helkarDown
  | helkarUp
  | imageRefused
  | laneDisagree
  | laneRearmed
  | learnPair
  | loopsRefused
  | mailboxTimeout
  | mailboxWordLost
  | pageCorrupt
  | pageNotRestored
  | pageRestored
  | pairFenced
  | pairJoined
  | pairMigrated
  | pairNak
  | pairReverted
  | partnerAlert
  | partnerRefused
  | phaseFault
  | pinRefused
  | portLockout
  | railExpiry
  | railFault
  | railOutOfOrder
  | railStuck
  | railWarning
  | rcDiverged
  | recordTruncated
  | rectFaulted
  | rectSilent
  | resetKeyWrong
  | revertLost
  | scanEnded
  | seqClearRefused
  | seqFault
  | seqRun
  | shelfGood
  | shipKeyWrong
  | shipRefused
  | sieveLate
  | slewCompleted
  | slewRefused
  | slewSuperseded
  | slotFault
  | slotOverrun
  | socSource
  | standbyFailed
  | strapUnstable
  | stringClose
  | stringEmpty
  | stringOpen
  | stringSwap
  | supplyBank
  | tableBad
  | thermalInvalid
  | thermalLevel
  | tornFound
  | triggerJoined
  | updateReverted
  | watchdogExpired
  | wipeRefused
  deriving DecidableEq, Repr

end Sys2Proof.Machine
end

