-- ==== Sys2Proof/Machine/Types.lean ====
section
/-! DEFINITION. The state of the P9484's blocks that no register shows: typed records, one per block, plain data
throughout. Registers themselves stand in `State.regs`. -/

namespace Sys2Proof.Machine

/-! ### Shelf and time base (files 01, 02) -/

/-- The power states of R18 and R22. -/
inductive PowerState where
  | normal | prearmed | holdup | ret | exhausted | halt | ship
  deriving DecidableEq, Repr

/-- The code of a power state in `SYS_SHELF.POWER` (R18). -/
def PowerState.code : PowerState → Nat
  | .normal => 0 | .prearmed => 1 | .holdup => 2 | .ret => 3 | .exhausted => 4 | .halt => 5 | .ship => 6

/-- The sources of an access, each with its own latch set (R48, R73). -/
inductive Src where
  | spi | eth0 | eth1 | partner | policy
  deriving DecidableEq, Repr

def Src.ix : Src → Nat
  | .spi => 0 | .eth0 => 1 | .eth1 => 2 | .partner => 3 | .policy => 4

/-- The roles of R484, and the exemption of the partner unit and the policy layer (R487). -/
inductive Role where
  | none | visitor | conservator | curator | exempt
  deriving DecidableEq, Repr

def Role.rank : Role → Nat
  | .none => 0 | .visitor => 1 | .conservator => 2 | .curator => 3 | .exempt => 4

/-- The kinds of access error of R71. -/
inductive AccErr where
  | unaligned | unmapped | role | locked
  deriving DecidableEq, Repr

/-- A status code of R490 and R496. -/
def AccErr.code : AccErr → Nat
  | .unmapped => 1 | .unaligned => 2 | .locked => 3 | .role => 4

/-- Time base, discipline and core voltage (R34 to R46). -/
structure TimeBase where
  /-- the tick source is the check oscillator (R42) -/
  onCheck : Bool := false
  /-- on the check oscillator, the place of the present tick within its check cycle, in 1/15,625 cycle (R42: 15,625/512 ticks a
  cycle) -/
  frac : Nat := 0
  /-- the tick HOLDOVER was entered (R40) -/
  holdoverSince : Nat := 0
  /-- the tick ACQUIRE, and the tick LOCKED, was entered (R40, R57) -/
  acquireSince : Nat := 0
  lockedSince : Nat := 0
  /-- the last tick at which the rate moved (R39) -/
  lastStep : Nat := 0
  /-- FORCED_MAX was set by rule 1 of R45 or by an admission (R46) and waits for a full window -/
  forcedSince : Option Nat := none
  /-- it was rule 1 -/
  forcedRule : Bool := false
  /-- tick of the last window end judged by R45 -/
  windowAt : Nat := 0
  /-- minimum slack, in %, of the samples of the running 10,000-tick window -/
  windowSlack : Nat := 255
  /-- the tick in which rule 2 of R45 raises the core, or last raised it -/
  raisedAt : Option Nat := none
  /-- the tick from which the regulator output has settled (R68) -/
  settleAt : Nat := 60
  /-- PTP time of day (R39, R59 to R61): seconds, nanoseconds -/
  ptpSec : Nat := 0
  ptpNs : Nat := 0
  ptpKnown : Bool := false
  deriving DecidableEq, Repr

/-- Input balls whose level is qualified over ticks (R100, R222): whether RESET_IN is low, and the SHEV balls high; for each the tick from which
it has stood so, for a SHEV line whether that is its active level. -/
structure Balls where
  rstLow : Bool := false
  rstSince : Nat := 0
  shev : Vector Bool 4 := Vector.replicate 4 true
  shevFor : Vector (Bool × Nat) 4 := Vector.replicate 4 (false, 0)
  deriving DecidableEq, Repr

/-! ### Start-up (file 04) -/

/-- Start-up, supplies, cores and the wake domain (R96 to R113, R24, R304). -/
structure Boot where
  /-- the power-on reset is asserted (R96) -/
  por : Bool := false
  /-- VIN and VDDA have both reached 3.10 V (R96) -/
  vinGood : Bool := true
  /-- straps latched at tick 7 (R101) -/
  strapped : Bool := false
  kilnLoaded : Bool := false
  /-- the tick of the Kiln load -/
  kilnAt : Nat := 0
  /-- tick g, once it has come (R106) -/
  g : Option Nat := none
  /-- power-stage outputs decided: tick g, or the release of the output hold (R107) -/
  decided : Bool := false
  /-- UNIT_OK rises in this tick (R106); `none` before the outputs are decided -/
  unitOkAt : Option Nat := none
  /-- UNIT_OK held low by a fence, HALT, TEST_MODE, EXTEST or the power-on reset -/
  unitOkLow : Bool := false
  /-- RESET_IN asserted under R100 -/
  resetIn : Bool := false
  coresStarted : Bool := false
  /-- tick in which the boot check begins: the one after the Kiln load (R112) -/
  beginAt : Option Nat := none
  /-- the boot check in progress: its slot, its start tick, and whether the other slot was already tried -/
  check : Option (Nat × Nat × Bool) := none
  firmware : Bool := false
  /-- tick a calibration attempt in progress began -/
  calRun : Option Nat := none
  /-- tick at which the next attempt after a failure starts (R110) -/
  calRetryAt : Option Nat := none
  calDone : Bool := false
  /-- the blend of R111: its start tick and its length in ticks -/
  blend : Option (Nat × Nat) := none
  /-- the measured registers as last refreshed at 10 Hz (R108) -/
  refreshed : List (Nat × Word) := []
  /-- the vendor test state of R595, or service ended by a boundary-scan instruction (R596) -/
  testState : Bool := false
  serviceEnded : Bool := false
  /-- a boundary-scan instruction ended the last power cycle (R596) -/
  scanned : Bool := false
  /-- wake domain, kept while VBAT_KEEP is present: brown-out flag and count, the previous cycle ended in HALT, ship latch, ship
  time before the last wake in s, last event sequence number -/
  vbatKeep : Bool := true
  brownFlag : Bool := false
  brownCount : Nat := 0
  prevHalt : Bool := false
  shipLatch : Bool := false
  /-- a ship-mode command accepted in this tick waits for its end (R25) -/
  shipAsked : Bool := false
  shipTime : Nat := 0
  /-- ticks passed since the core powered down (R303) -/
  shipTicks : Nat := 0
  lastSeqKept : Option Nat := none
  woke : Bool := false
  deriving DecidableEq, Repr

/-! ### Configuration check (file 03) -/

/-- The configuration check (R86 to R91). -/
structure Cck where
  /-- page references of the last commit, pages 0x00 to 0x1E -/
  refs : List Word := []
  /-- RW fields of class C at the commit (R91): register words by address -/
  copy : List (Nat × Word) := []
  /-- the RWK fields of the Kiln record last loaded or baked (R91): register words by address -/
  kiln : List (Nat × Word) := []
  /-- start tick of the first scan (R87), from which scans follow every 1,000 ticks -/
  first : Option Nat := none
  /-- start tick of the scan in progress -/
  scan : Option Nat := none
  /-- pages written during the scan in progress (R87, R89) -/
  touched : List Nat := []
  /-- the scan in progress is a commit scan -/
  commitScan : Bool := false
  deriving DecidableEq, Repr

/-! ### Ports and sessions (file 20) -/

/-- A record of R437, queued or waiting. -/
structure Rec where
  seq : Nat
  code : Nat
  sev : Nat
  cls : Nat
  coalesced : Bool
  folded : Bool
  role : Nat
  greenware : Bool
  onCheck : Bool
  pcycle : Nat
  opTime : Nat
  subTick : Nat
  payload : List Byte
  cause : Nat
  deriving DecidableEq, Repr

/-- A key slot: its 8 key words, and which have been written since the slot was last erased. -/
structure Key where
  words : List Word := []
  written : List Nat := []
  deriving DecidableEq, Repr

/-- A session slot, beside `SES_SESS`. -/
structure Session where
  sid : Word := 0
  /-- opened on IPv6 (R493) -/
  v6 : Bool := false
  /-- K_s of R494 -/
  key : List Byte := []
  /-- highest accepted sequence number -/
  seq : Nat := 0
  /-- the cached last reply (R494), as the datagram sent; empty where the last request has none -/
  reply : List Byte := []
  lastTick : Nat := 0
  /-- lowest severity notified (R497) -/
  sub : Option Nat := none
  notifySeq : Nat := 0
  /-- records that wait to be notified -/
  out : List Rec := []
  /-- ALARM records sent and not acknowledged, and the tick of the last sending (R497) -/
  unacked : List (Rec × Nat) := []
  deriving DecidableEq, Repr

/-- A challenge pending: port 0 to 2, source address and port of the opener, slot, role, nonce, session identifier, tick of issue. -/
structure Challenge where
  port : Nat
  peer : Nat
  slot : Nat
  role : Nat
  nonce : List Word
  sid : Word
  issued : Nat
  v6 : Bool := false
  deriving DecidableEq, Repr

/-- A write, or a request with a value, of this tick: what it is for (a register's or a word's address, or the key of a request),
who made it, its rank in the order of R48, the word before it, and the write itself. -/
structure Wrote where
  at_ : Nat
  who : Nat
  rank : Nat
  before : Word
  al : Nat
  w : Word
  deriving DecidableEq, Repr

/-- Ports, sessions, SPI status, PTP and MDIO (R483 to R505). -/
structure Ports where
  /-- the writes of tick `wroteAt`, those to one register in the order R48 applies them in -/
  writes : List Wrote := []
  wroteAt : Nat := 0
  /-- page, requester that wins the next contention for it, and the other requester (R47) -/
  owed : List (Nat × Nat × Nat) := []
  keys : Vector Key 8 := Vector.replicate 8 {}
  /-- key slot and key word selected by SES_KEY_SEL -/
  selSlot : Nat := 0
  selWord : Nat := 0
  sessions : Vector Session 8 := Vector.replicate 8 {}
  challenges : List Challenge := []
  /-- lockout end of port 0 to 2 (R485), and the SPI port's count of failures -/
  lockEnd : Vector (Option Nat) 3 := Vector.replicate 3 none
  spiFails : Nat := 0
  /-- response words written to SES_RESP -/
  resp : List Word := [0, 0, 0, 0]
  /-- STATUS word (R490): first error, count -/
  spiFirst : Nat := 0
  spiCount : Nat := 0
  /-- PTP: port and identity of the chosen master, and the tick of its last Sync (R500) -/
  ptpMaster : Option (Nat × Nat) := none
  ptpLast : Nat := 0
  /-- DHCPv4 lease of each Ethernet port: address and end tick; and its SLAAC prefix length -/
  lease : Vector (Option (Word × Nat)) 2 := Vector.replicate 2 none
  slaac : Vector (Option Nat) 2 := Vector.replicate 2 none
  /-- HL_REFCLK is present (R594) -/
  refclk : Bool := true
  /-- MDIO accesses waiting, first in service: port, PHY, register, write data -/
  mdio : List (Nat × Nat × Nat × Option Nat) := []
  /-- the words or bytes the last read or request was answered with (the model's own field) -/
  answer : List Nat := []
  deriving DecidableEq, Repr

/-! ### Event recorder (file 18) -/

/-- A record made and not yet admitted: its event, object, data, and the tick of its cause (R442). -/
structure Made where
  ev : Ev
  obj : Nat
  data : List Int
  tick : Nat
  deriving DecidableEq, Repr

/-- A rate limiter bucket (R447, R448); the shared bucket has no code. -/
structure Bucket where
  code : Nat := 0
  rate : Nat := 10
  burst : Nat := 20
  /-- thousandths of a token -/
  level : Nat := 20000
  suppressed : Nat := 0
  firstTick : Nat := 0
  deriving DecidableEq, Repr

/-- Drops not yet summarised (R443): count, first and last tick. -/
structure Drops where
  count : Nat := 0
  first : Nat := 0
  last : Nat := 0
  deriving DecidableEq, Repr

structure Recorder where
  queue : List Rec := []
  waiting : List Rec := []
  buckets : Vector Bucket 256 := Vector.replicate 256 {}
  shared : Bucket := { rate := 50, burst := 100, level := 100000 }
  /-- the window of R448 whose suppressions are being counted, and the last multiple of 1,000 ticks at which the buckets rose (R447) -/
  window : Nat := 0
  refilled : Nat := 0
  dropTrace : Drops := {}
  dropEvent : Drops := {}
  /-- alarm folds not yet reported: code and count -/
  folds : List (Nat × Nat) := []
  /-- operating time saved when this power cycle began, ms (R441) -/
  opBase : Nat := 0
  /-- the head found at start-up (R446) and whether the counters have been loaded -/
  loaded : Bool := false
  /-- tick draining began to stall, if it stalls (R445) -/
  stalledSince : Option Nat := none
  /-- save sequence of the time rings (R543) -/
  saveSeq : Nat := 0
  deriving DecidableEq, Repr

/-! ### Mailboxes and watchdog (files 21, 22) -/

/-- Delivery deadlines of the 64 mailbox channels, inbound first (R511). -/
structure Mailbox where
  due : Vector (Option Nat) 64 := Vector.replicate 64 none
  deriving DecidableEq, Repr

/-- The host watchdog (R517 to R525). -/
structure Watchdog where
  /-- end of the closed phase; `none` in the first window and in a suspension window -/
  closedEnd : Option Nat := none
  /-- end of the open phase or of the suspension window; `none` while a wipe suspends or after an expiry -/
  openEnd : Option Nat := some 120000000
  /-- the tick of the last expiry (R524) -/
  expiredAt : Option Nat := none
  /-- the level of WDI and the tick of its last change, and the level that has qualified (R517) -/
  wdi : Bool := false
  wdiSince : Nat := 0
  wdiHeld : Bool := false
  /-- end of the reset pulse and its output (R522) -/
  pulse : Option (Nat × Nat) := none
  deriving DecidableEq, Repr

/-! ### Kiln and NVM (file 23) -/

/-- A preloaded Catalogue entry of section 7 (R535). -/
structure KilnEntry where
  entry : Nat
  addr : Nat
  pec : Bool
  profile : Nat
  udid : List Byte
  bound : Nat
  schedule : List Byte
  deriving DecidableEq, Repr

/-- The settings a Kiln record stores (R535), typed. -/
structure KilnImage where
  /-- section 0: class-C registers, RWK bits only, those that are not at 0 -/
  regs : List (Nat × Word) := []
  /-- section 1 -/
  cckRef : Word := 0
  refs : List Word := []
  /-- section 2: running coefficient memory of active slots, and the slots -/
  slots : List Nat := []
  coefs : List Host.Cell := []
  /-- sections 3 and 4: active line-phase banks and battery tables -/
  banks : List Host.Cell := []
  tables : List Host.Cell := []
  /-- section 5 -/
  keys : List (List Word × Bool) := []
  /-- section 6 -/
  limiter : List Word := []
  /-- section 7 -/
  entries : List KilnEntry := []
  deriving DecidableEq, Repr

/-- One Kiln copy in NVM (R534). -/
structure KilnCopy where
  magicOk : Bool := false
  formatOk : Bool := true
  crcOk : Bool := false
  gen : Nat := 0
  len : Nat := 0
  fwVer : Nat := 0
  pcycle : Nat := 0
  strap : Nat := 0
  opTime : Nat := 0
  image : KilnImage := {}
  deriving DecidableEq, Repr

structure Nvm where
  copies : Vector KilnCopy 2 := Vector.replicate 2 {}
  /-- BAKE in progress: target copy, start tick, its record, whether a stored field changed in the snapshot, end of the snapshot -/
  bake : Option (Nat × Nat × KilnCopy) := none
  bakeChanged : Bool := false
  /-- wipe in progress: sector, start tick -/
  wipe : Option (Nat × Nat) := none
  /-- words corrected on a read and waiting for their rewrite: offset, tick of the read (R531) -/
  corrected : List (Nat × Nat) := []
  /-- words of the counters region that wait for the port, first in service: offset and word (R49) -/
  waiting : List (Nat × Word) := []
  /-- offsets of uncorrectable words that are known and have not been rewritten (R548) -/
  ded : List Nat := []
  /-- next offset Tilling visits, and the tick its pass counts from -/
  till : Nat := 0
  tillFrom : Nat := 0
  /-- a Strata commit holds the write port (R49) -/
  strata : Bool := false
  /-- ticks in which the BAKE in progress has waited for the port, and ticks in which Tilling last visited the first word of a
  sector -/
  bakeHeld : Nat := 0
  marks : List (Nat × Nat) := []
  /-- wipes of each sector, and writes of each word beside them, by word number (R542) -/
  wipes : List (Nat × Nat) := []
  wear : List (Nat × Nat) := []
  /-- structures that the last power-on reset tore, by kind, and how many were torn before (R544) -/
  torn : List Nat := []
  tornAll : Nat := 0
  deriving DecidableEq, Repr

/-! ### Black box (file 17) -/

/-- A block held in a ring: its start tick, ring offset, length, and whether it carries GAP or RAW_ALL. -/
structure RingBlock where
  start : Nat
  ofs : Nat
  len : Nat
  gap : Bool
  raw : Bool
  deriving DecidableEq, Repr

/-- A byte ring (R421, R423): blocks held, oldest first, next write offset, and whether the next block carries GAP. -/
structure Ring where
  blocks : List RingBlock := []
  wp : Nat := 0
  gapNext : Bool := false
  deriving DecidableEq, Repr

/-- An open record (R426 to R430). -/
structure BoxRecord where
  t : Nat
  fine : Nat
  seq : Nat
  slot : Nat
  eCode : Nat
  /-- triggers listed: source, fine stamp, tick -/
  trigs : List (Nat × Nat × Nat)
  extra : Nat
  shortPre : Bool
  /-- the post window is open -/
  window : Bool
  /-- start tick of the last Topsoil block the record covers: kT + 50, or the block before the drop that closed the window -/
  endTop : Nat
  post : Nat
  pre : Nat
  /-- GAP or RAW_ALL in a copied block -/
  gap : Bool
  raw : Bool
  truncated : Bool
  lost : Nat
  /-- commit: started, bytes written, sectors taken, next Topsoil start tick to copy -/
  started : Option Nat
  cursor : Nat
  sectors : List Nat
  nextTop : Nat
  topLen : Nat
  subLen : Nat
  subBlocks : Nat
  lastEvent : Nat
  pcycle : Nat
  opTime : Nat
  desc : List Byte
  /-- SUB_SPAN_S at T, s -/
  span : Nat := 0
  deriving DecidableEq, Repr

/-- A Strata directory entry (R429, R436). -/
structure DirEntry where
  /-- 0 empty, 1 WRITING, 2 COMPLETE, 3 INCOMPLETE -/
  state : Nat := 0
  pinned : Bool := false
  flags : Nat := 0
  source : Nat := 0
  seq : Nat := 0
  t : Nat := 0
  len : Nat := 0
  sectors : List Nat := []
  deriving DecidableEq, Repr

/-- The envelope of one channel in one Topsoil block (R422): minimum, maximum, mean (or AND, OR, last), and whether it is invalid. -/
structure Envelope where
  a : Int
  b : Int
  c : Int
  invalid : Bool
  deriving DecidableEq, Repr

/-- A level trigger (R425): length of the present run, and armed. -/
structure LevelTrigger where
  run : Nat := 0
  armed : Bool := true
  deriving DecidableEq, Repr

structure BlackBox where
  top : Ring := {}
  sub : Ring := {}
  /-- envelopes of the Topsoil blocks of the running Subsoil block, oldest first -/
  env : List (List Envelope) := []
  /-- the envelope each channel had last (R422) -/
  lastEnv : List Envelope := []
  /-- open records, the committing one first -/
  recs : List BoxRecord := []
  dir : Vector DirEntry 16 := Vector.replicate 16 {}
  nextSeq : Nat := 0
  lvl : Vector LevelTrigger 4 := Vector.replicate 4 {}
  /-- windows of 1,000 blocks in which a Topsoil and a Subsoil block was last dropped -/
  dropTopWin : Option Nat := none
  dropSubWin : Option Nat := none
  /-- raw and written bytes of the last 1,000 blocks, newest first -/
  sizes : List (Nat × Nat) := []
  /-- E, FAST_HALF and RAW_ALL in force in the running block, taken at its start (R419) -/
  inForce : Option (Nat × Bool × Bool) := none
  /-- `BBX_SEL` in force in the running block -/
  sel : List Word := []
  /-- samples of the running block, channel by channel, newest first (R415) -/
  cur : List (List (Option Int)) := []
  /-- number of the last event recorded before the running block (R417), and before the one to come -/
  lastSeq : Nat := 0
  nextLast : Nat := 0
  lastTruncated : Bool := false
  deriving DecidableEq, Repr

end Sys2Proof.Machine
end

