-- ==== Sys2Proof/Machine/TypesBus.lean ====
section
/-! DEFINITION. The state of the two-wire channels, the transaction engine, rectifier sharing, the pair, the chain and the fault coverage
that no register shows (files 09, 15, 16, 19, 24, 25). -/

namespace Sys2Proof.Machine

/-! ### Transactions (files 15 and 16) -/

/-- The protocols of R379; a block call is the Block Write–Block Read Process Call of R409. -/
inductive Proto where
  | quick | sendByte | receiveByte | writeByte | writeWord | write32 | write64 | blockWrite
  | readByte | readWord | read32 | read64 | blockRead | processCall | blockCall | group
  deriving DecidableEq, Repr

/-- Whether a request writes (R406). -/
def Proto.writes : Proto → Bool
  | .sendByte | .writeByte | .writeWord | .write32 | .write64 | .blockWrite | .blockCall | .group => true
  | _ => false

/-- What sharing asked of a rectifier (R239). -/
inductive ShareOp where
  | voutMode | limitBack | poutMax | ocrsp | limit | trim | run | standby | groupTrim | groupLimit | groupRun
  deriving DecidableEq, Repr

/-- Where a request comes from, and so who takes its result. -/
inductive ReqBy where
  | share (op : ShareOp) (n : Nat)
  | host (src : Src)
  | poll (entry item : Nat)
  | accession (ch : Nat)
  | module
  | policy
  deriving DecidableEq, Repr

/-- One addressed part of a request: a Catalogue entry, or none for Accession; address, command code, data, whether it carries PEC, and the
epoch of the entry at submission, E_req (R404). -/
structure Seg where
  entry : Option Nat
  addr : Nat
  cmd : Nat
  data : List Nat
  pec : Bool
  epoch : Nat := 0
  deriving DecidableEq, Repr

/-- A result: code of R393 or R414, bytes transferred, data read, and the tick of the repeated start of an OK read. -/
structure BusResult where
  code : Nat
  bytes : Nat := 0
  data : List Nat := []
  sample : Nat := 0
  deriving DecidableEq, Repr

/-- A request the engine holds (R404). -/
structure Req where
  id : Nat
  cls : Nat
  ch : Nat
  by_ : ReqBy
  proto : Proto
  segs : List Seg
  /-- largest count of a Block Read -/
  count : Nat
  at_ : Nat
  tries : Nat := 0
  telemetry : Bool := false
  /-- module profile: epoch, sequence number, sender (R409) -/
  wrap : Option (Nat × Nat × Nat) := none
  started : Bool := false
  /-- it was started before, so that it is not superseded (R406) -/
  begun : Bool := false
  ended : Option BusResult := none
  /-- the final code its completion gives whatever the bus says (R407, R412) -/
  forced : Option Nat := none
  /-- its result was already returned (R407) -/
  dead : Bool := false
  deriving DecidableEq, Repr

/-- A channel beside its registers (R384 to R390, R405). -/
structure Chan where
  busFree : Bool := false
  /-- tick from which the bus has not been free; tick of the START of the transaction in progress, and the bytes the channel sends in it -/
  busyAt : Nat := 0
  startAt : Nat := 0
  sent : List Nat := []
  /-- tick the bus clear began, or began again (R390) -/
  clearAt : Nat := 0
  /-- SEXT of this tick: stretch and bytes transferred (R389) -/
  sext : Option (Nat × Nat) := none
  cur : Option Nat := none
  /-- arbitration losses of the transaction in progress, and whether one was ARB_SR -/
  lost : Nat := 0
  srLost : Bool := false
  /-- tick of the entry to STUCK, or of the last wait there -/
  since : Nat := 0
  /-- the clear in progress was due to a pending request -/
  forReq : Bool := false
  /-- starts of classes 0 to 3 while a POLL waits, of 0 to 4 while a BULK waits -/
  run3 : Nat := 0
  run4 : Nat := 0
  deriving DecidableEq, Repr

/-- A queued Host Notify (R383). -/
structure Notify where
  ch : Nat
  addr : Nat
  data : Nat
  tick : Nat
  deriving DecidableEq, Repr

/-- Where the Accession of one channel stands (R401); `block` and `revision` are the profile reads of entry n (R398). -/
inductive AccPhase where
  | idle
  | prepare
  | getUdid
  | assign (addr : Nat) (udid : List Nat)
  | probe (addr : Nat)
  | block (n : Nat)
  | revision (n : Nat)
  | finished
  deriving DecidableEq, Repr

/-- A found partner: address, and UDID if ARP gave one. -/
structure Found where
  addr : Nat
  udid : List Nat
  arp : Bool
  deriving DecidableEq, Repr

structure AccChan where
  /-- the pass in progress has still to visit the channel -/
  todo : Bool := false
  phase : AccPhase := .idle
  found : List Found := []
  replies : Nat := 0
  deriving DecidableEq, Repr

/-- An entry beside its window words (R400, R412). -/
structure EntryAux where
  lastOk : Nat := 0
  /-- a transaction was attempted since -/
  tried : Bool := false
  /-- sample tick of each item's latest value -/
  samples : List (Nat × Nat) := []
  silentAt : Nat := 0
  deriving DecidableEq, Repr

/-- The two-wire channels and the transaction engine. -/
structure Trans where
  chans : Vector Chan 16 := Vector.replicate 16 {}
  notes : List Notify := []
  reqs : List Req := []
  nextId : Nat := 0
  acc : Vector AccChan 16 := Vector.replicate 16 {}
  passAt : Option Nat := none
  /-- last pass start; the first pass of this firmware run is done -/
  lastPass : Option Nat := none
  firstDone : Bool := false
  aux : List (Nat × EntryAux) := []
  /-- results of the update's requests that wait to be taken: entry, command code, result (R566) -/
  modRes : List (Nat × Nat × BusResult) := []
  deriving DecidableEq, Repr

/-! ### Rectifier sharing (file 09) -/

/-- A rectifier beside its registers. Samples are a value and the tick it was taken. -/
structure Rect where
  /-- tick the present state was entered, and from which the dwell of R249 counts -/
  since : Nat := 0
  dwell : Nat := 0
  /-- set-up step of R239 and consecutive failures -/
  step : Nat := 0
  fails : Nat := 0
  /-- exponent of VOUT_MODE, LINEAR11 exponent of the limit's read-back, MFR_POUT_MAX in mW -/
  exp : Int := 0
  limExp : Int := 0
  poutMax : Int := 0
  i : Option (Int × Nat) := none
  v : Option (Int × Nat) := none
  temp : Option (Int × Nat) := none
  pout : Option (Int × Nat) := none
  pin : Option (Int × Nat) := none
  /-- STATUS_WORD last read; the tick since it has been clear -/
  status : Nat := 0
  clearAt : Option Nat := none
  lastResp : Nat := 0
  /-- standby write: sent, and the tick it was acknowledged -/
  stbySent : Bool := false
  stbyAck : Option Nat := none
  /-- t[n] in 1/256,000 of 100 µV -/
  t : Int := 0
  /-- fraction of an allocation in 1/1,024 and the cycles of its rise or fall -/
  frac : Nat := 0
  ramp : Nat := 0
  /-- the fraction is falling to 0 -/
  falling : Bool := false
  /-- last limit sent, mA, and its tick -/
  limit : Option (Int × Nat) := none
  curve : Vector Bin 16 := Vector.replicate 16 {}
  lastP : Option Int := none
  deriving DecidableEq, Repr

structure Sharing where
  rects : Vector Rect 24 := Vector.replicate 24 {}
  /-- NORMAL was entered from PREARMED, RETURN or EXHAUSTED: the tick efficiency may resume (R245) -/
  resumeAt : Option Nat := none
  /-- an allocation being solved, and a result waiting for the next trim cycle -/
  solving : Option AllocTarget := none
  ready : Option AllocTarget := none
  /-- the allocation in force -/
  inForce : Option AllocTarget := none
  allocNow : Bool := false
  /-- cycles of the fall of t[n] left after a return to GREENWARE (R245) -/
  fade : Nat := 0
  /-- tick of the last store of the curves (R248) -/
  storedAt : Nat := 0
  /-- the last cycle served -/
  cycle : Option Nat := none
  deriving DecidableEq, Repr

/-! ### Pair (file 19) -/

/-- What a Helkar frame carries that is sent again until it is acknowledged (R463). -/
inductive PairBody where
  | object (l : List ObjRecord)
  | config (addr : Nat) (fromB : Bool) (value : Word) (stamp : Nat)
  | estimator (l : List EstRecord)
  | catalogue (l : List CatRecord)
  | command (code : Nat)
  | bulk (b : BulkBlock)
  deriving DecidableEq, Repr

/-- An acknowledged frame on its way: sequence number, body, tick it was last sent, times it was sent again. -/
structure Sent where
  seq : Nat
  body : PairBody
  at_ : Nat
  resends : Nat
  deriving DecidableEq, Repr

/-- A witness message this unit sent (R474). -/
inductive WitMsg where
  | poll (primaryB : Bool) (viewA viewB : Nat)
  | heartbeat (h : HeartbeatMsg)
  | epoch (e : EpochMsg)
  | fence (cause : FenceCause)
  deriving DecidableEq, Repr

/-- The Registrar (R475): running since; E, kept in the wake domain; the last HEARTBEAT of A and of B, with its tick; a unit that was sent
a FENCE and has not yet shown fenced; the primary it named. -/
structure Registrar where
  since : Option Nat := none
  started : Bool := false
  last : Vector (Option (HeartbeatMsg × Nat)) 2 := Vector.replicate 2 none
  /-- greatest E reported by a unit -/
  maxE : Nat := 0
  /-- the unit a FENCE was sent to whose fence is not complete, and the tick it was sent -/
  fenceSent : Option (Nat × Nat) := none
  primaryB : Bool := false
  /-- ticks of the last POLL to A and to B, and of the last revert decided -/
  pollAt : Vector Nat 2 := Vector.replicate 2 0
  revertAt : Option Nat := none
  deriving DecidableEq, Repr

/-- Redundant pair. -/
structure Pair where
  /-- pair offset in fine units (R460), and one measured at a link-up that waits for its pair tick (R461) -/
  offset : Int := 0
  newOffset : Option Int := none
  /-- since when the alignment error has exceeded 5 fine units; the tick of the last slew -/
  errSince : Option Nat := none
  slewAt : Nat := 0
  /-- epoch E in force (R402) -/
  epoch : Nat := 0
  /-- E is known, from a BEACON or a POLL (R472) -/
  knowsE : Bool := false
  /-- the tick PARTNER_LOST was last set -/
  lostAt : Option Nat := none
  /-- fenced (R475) -/
  fenced : Bool := false
  /-- ticks of the last valid BEACON and of the last valid Registrar message -/
  beaconAt : Option Nat := none
  regAt : Option Nat := none
  /-- the last BEACON, and the epoch of its sender -/
  beacon : Option Beacon := none
  partEpoch : Nat := 0
  /-- since when the link has been up -/
  upSince : Option Nat := none
  /-- BEACONs in a row whose mirrored CRC differs (R468); a NAK holds CFG_DIVERGED until they agree (R467) -/
  crcRun : Nat := 0
  nakHold : Bool := false
  /-- next sequence number; acknowledged frames on their way; highest sequence number received in order -/
  txSeq : Nat := 0
  unacked : List Sent := []
  rxSeq : Option Nat := none
  /-- class-C writes of this unit to be mirrored, each with its value (R467) -/
  cfgOut : List (Nat × Word) := []
  /-- stamp of the last write applied to a register: pair tick bits [63:0] by address (R467) -/
  stamps : List (Nat × Nat) := []
  /-- records last sent (R463): objects, estimator values, Catalogue bytes -/
  sentObj : List ObjRecord := []
  sentEst : List EstRecord := []
  sentCat : List Host.Cell := []
  /-- what the partner last sent of its objects: fuse records, reset levels, group states -/
  fuses : Vector (Option FuseRec) 8 := Vector.replicate 8 none
  partRst : Nat := 0xFF
  partGroup : Vector Nat 2 := Vector.replicate 2 0
  /-- code violations counted in a window of 1,000 ticks, with the window (R465); the tick the link last went down (R480) -/
  violations : Nat × Nat := (0, 0)
  downAt : Option Nat := none
  /-- the next slot LOOP records are sent of, and the bytes of the last frame sent whose payload the spec lays out (the model's own
  field) -/
  loopNext : Nat := 0
  frame : List Byte := []
  /-- LOOP records not yet applied (R469), and how often in a row a slot's output differed -/
  loops : List LoopRecord := []
  loopRun : Vector Nat 64 := Vector.replicate 64 0
  /-- an EPOCH message that waits for its effective tick (R471) -/
  wait : Option (Nat × EpochMsg) := none
  /-- request in this unit's HEARTBEATs: 0 none, 1 REVERT, 2 MIGRATE -/
  request : Fin 3 := 0
  /-- since when WAITING has lasted with the link up and no NAK (R478) -/
  stableSince : Nat := 0
  /-- blocks of the resynchronisation still to send, and the tick it began -/
  resync : List BulkBlock := []
  resyncAt : Nat := 0
  /-- views of the last POLL -/
  partView : Nat := 0
  /-- own witness messages sent, and the messages the last command sent (the model's own field): receiver, message and its 32 bytes -/
  witSeq : Nat := 0
  wit : List (WitFrom × WitMsg × List Byte) := []
  reg : Registrar := {}
  deriving DecidableEq, Repr

end Sys2Proof.Machine
end

