-- ==== Sys2Proof/Machine/TypesLoop.lean ====
section
/-! DEFINITION. The state of the measurement front end, the loop engine, the tuner, the disturbance tables and the hold-up
converter that no register shows (files 05 to 08). -/

namespace Sys2Proof.Machine

/-! ### Measurement front end (file 05) -/

/-- The latest result of a monitor input (R139, `AFE_MON_DATA`). -/
structure MonResult where
  code : Nat := 0
  valid : Bool := false
  sub : Nat := 0
  tick : Nat := 0
  deriving DecidableEq, Repr

/-- The measurement front end (R116 to R139). -/
structure Afe where
  /-- converters F0 to F3 excluded by the cross-check (R123, R124) -/
  excl : Vector Bool 4 := Vector.replicate 4 false
  /-- tick a fault was declared and waits for its judge, by half; the first of the 8 slots of its priority conversions (R123) -/
  judge : Vector (Option Nat) 2 := Vector.replicate 2 none
  prioFrom : Vector (Option Nat) 2 := Vector.replicate 2 none
  /-- since when the primary and the check of each half have mismatched, and the tick in which the run declares a fault (R122) -/
  misSince : Vector (Option Nat) 2 := Vector.replicate 2 none
  misDue : Vector (Option Nat) 2 := Vector.replicate 2 none
  /-- codes the fast and the phase converters make in this tick (R119, R125) -/
  fast : Option (Twice BusSamples) := none
  phIn : Option (Vector (Twice Int) 16) := none
  /-- sum and count of the samples of VA, VB, IA and IB in the running 1,000-tick window, and in the last (R121) -/
  win : Vector (Int × Nat) 4 := Vector.replicate 4 (0, 0)
  winLast : Vector (Int × Nat) 4 := Vector.replicate 4 (0, 0)
  /-- outputs of the phase comparators (R126) -/
  cmpOut : Nat := 0
  /-- tick of the last sample at full scale: fast inputs, and each string (R138, R139) -/
  fastOvr : Option Nat := none
  intOvr : Vector (Option Nat) 8 := Vector.replicate 8 none
  /-- the last window of 10,000 ticks in which a monitor request was skipped -/
  missedWin : Option Nat := none
  /-- string accumulators in 2^-16 nV·s (R127) -/
  acc : Vector Int 8 := Vector.replicate 8 0
  /-- the interval codes in effect (R132); at reset those of R140 -/
  rate : Vector Nat 64 := Vector.ofFn (fun (i : Fin 64) =>
    if i.val < 24 then 5 else if i.val < 32 then 10 else if i.val < 40 then 2 else if i.val < 48 then 5 else if i.val < 56 then 100
    else if i.val < 58 then 1 else if i.val < 60 then 10 else 100)
  /-- monitor requests pending, as grid tick and input, in service order (R132) -/
  queue : List (Nat × Nat) := []
  /-- conversions sampled and not yet released, each with its input and whether it is a priority conversion (R117) -/
  monOut : List (Nat × Bool × MonResult) := []
  latest : Vector MonResult 64 := Vector.replicate 64 {}
  /-- conversions made of inputs 62 and 63 (R624) -/
  seq62 : Nat := 0
  seq63 : Nat := 0
  /-- the last tick whose slots and due requests have been handled -/
  slotTick : Option Nat := none
  /-- consecutive faulty conversions of each diode channel (R134) -/
  diodeRun : Vector Nat 28 := Vector.replicate 28 0
  /-- the channel at which the diode engine stands (R133) -/
  diodePos : Nat := 0
  /-- the string whose input the spare modulator is connected to, and since when (R128) -/
  spare : Option (Nat × Nat) := none
  /-- tick each string's modulator, and the spare, was last calibrated (R128) -/
  strCal : Vector (Option Nat) 8 := Vector.replicate 8 none
  spareCal : Option Nat := none
  /-- a background pass in progress: the next unit to visit and whether its visit has begun (R135) -/
  pass : Option (Nat × Bool) := none
  /-- start tick of the visit, and consecutive mismatches of each half in it (R136) -/
  visitAt : Nat := 0
  visitMis : Vector Nat 2 := Vector.replicate 2 0
  /-- start tick of the last pass, or of the first success (R135) -/
  passAt : Option Nat := none
  /-- units that failed in the running pass -/
  passFail : Nat := 0
  /-- consecutive failed passes (R137) -/
  failRun : Nat := 0
  /-- gain and offset in force of each unit, in ppm of nominal and of full scale; those that the running pass found; and those that
  the last failed passes found, latest first (R137) -/
  coefs : Vector (Int × Int) 15 := Vector.replicate 15 (0, 0)
  found : Vector (Int × Int) 15 := Vector.replicate 15 (0, 0)
  failed : List (Vector (Int × Int) 15) := []
  calInvalid : Bool := false
  /-- tick each comparator was last calibrated (R135) -/
  cmpAt : Vector (Option Nat) 16 := Vector.replicate 16 none
  deriving DecidableEq, Repr

/-! ### Loop engine (file 06) -/

/-- A coefficient set in force: the slot's configuration word, one region block as signed words, and the expanded IIR
coefficients. -/
structure LoopSet where
  cfg : Word := 0
  reg : List Int := []
  xc : List Int := []
  deriving DecidableEq, Repr

/-- A loop slot as it runs (R141 to R175). -/
structure LoopSlot where
  cfg : Word := 0
  src : Word := 0
  period : Nat := 100
  phase : Nat := 0
  /-- states s0 to s5 of R174 -/
  st : Vector Int 6 := Vector.replicate 6 0
  /-- expanded IIR coefficients (R149) -/
  xc : List Int := []
  /-- the bumpless start of R167 is due -/
  start : Bool := false
  /-- the region is chosen by the activation rule of R169 at the next sample -/
  fresh : Bool := false
  /-- the set an admission replaced, until its transfer (R167, R170) -/
  old : Option LoopSet := none
  /-- last written output, the one before it, and whether any was written -/
  out : Int := 0
  prevOut : Int := 0
  wrote : Bool := false
  lastE : Int := 0
  /-- feed-forward term of the last sample (R180) -/
  lastFf : Int := 0
  lastTick : Nat := 0
  /-- fine time of the last request, and of the write of the last output (R156) -/
  lastFine : Option Nat := none
  doneAt : Nat := 0
  /-- the previous sample is not yet written (R158) -/
  late : Bool := false
  /-- lanes that run the slot -/
  lanes : List Nat := []
  /-- window of 10,000 ticks of the last overrun, and overruns in it (R158) -/
  ovrWin : Nat := 0
  ovrCount : Nat := 0
  /-- lowest slack of the window being formed (R44, R178) -/
  slack : Nat := 255
  /-- integrating states after the last samples, newest first, each with pair tick bits [31:0] of its sample (R469) -/
  past : List (Nat × Int) := []
  /-- reference of the coefficient check (R173) -/
  ref : Word := 0
  deriving DecidableEq, Repr

/-- An admission in progress: the snapshot taken (R164), whether it adds declared load and so waits for the core (R46), and whether
TUNE_APPLY started it (R185). -/
structure Admission where
  at_ : Nat
  adds : Bool
  regs : List (Nat × Word)
  mem : List Host.Cell
  tune : Bool
  /-- core voltage and FORCED_MAX before the admission raised the core (R46) -/
  vcore : Nat
  forced : Option Nat
  deriving DecidableEq, Repr

structure Loop where
  slots : Vector LoopSlot 64 := Vector.replicate 64 {}
  /-- last value written to each destination port (R167) -/
  ports : List (Nat × Int) := []
  /-- ports that any slot has written, as a mask (R167) -/
  written : Nat := 0
  admission : Option Admission := none
  /-- tick a retired lane was last tested (R162), and what the test in progress finds -/
  testAt : Vector Nat 5 := Vector.replicate 5 0
  testing : Vector (Option Bool) 5 := Vector.replicate 5 none
  deriving DecidableEq, Repr

/-! ### Tuning and disturbance (file 07) -/

/-- A relay auto-tune (R179 to R186). -/
structure Tune where
  u0 : Option Int := none
  sigma : Bool := true
  began : Nat := 0
  lastUp : Option Nat := none
  yMin : Int := 0
  yMax : Int := 0
  /-- periods ended, and the last ones as length and span of y, newest first -/
  seen : Nat := 0
  periods : List (Nat × Int) := []
  /-- a converged measurement is held (R184) -/
  held : Bool := false
  deriving DecidableEq, Repr

/-- One source of the line-phase tracker: fine time of its last crossing and consecutive good intervals (R188); of an ACSYNC input, its
last conversion as tick and code, whether it has been below mid-scale by `ZC_HYST` since its last crossing, and the fine time of a crossing
that waits for its correction (R187). -/
structure LineSource where
  last : Option Nat := none
  run : Nat := 0
  prev : Option (Nat × Nat) := none
  below : Bool := false
  cross : Option Nat := none
  deriving DecidableEq, Repr

/-- The line-phase tracker (R187, R188). Phase in 10^-12 cycle at tick `at_`; the fade factor at tick `fadeAt`, its direction and the
end of the flywheel. -/
structure Tracker where
  phase : Nat := 0
  at_ : Nat := 0
  src : Vector LineSource 3 := Vector.replicate 3 {}
  good : Nat := 0
  /-- fade factor in 1/(360360 × 10^12) at `fadeAt`; 0 before the first lock -/
  fade : Nat := 0
  fadeAt : Nat := 0
  /-- −1 falling, 0 steady, 1 rising -/
  dir : Int := 0
  flyEnd : Option Nat := none
  /-- banks failed by R191: the factor a bank's fade had reached at a tick, and that tick -/
  badAt : Vector (Option (Nat × Nat)) 8 := Vector.replicate 8 none
  pending : Vector Bool 8 := Vector.replicate 8 false
  /-- references of the active copies -/
  refs : Vector Word 8 := Vector.replicate 8 0
  deriving DecidableEq, Repr

/-- A repetitive controller (R192 to R195). -/
structure Repet where
  mem : List (Nat × Int) := []
  pos : Nat := 0
  started : Bool := false
  /-- the slot served since the start (R197) -/
  slot : Nat := 0
  /-- no sample of the running period was frozen -/
  learnt : Bool := true
  /-- sums of |e| of the running and of the last period, and samples in the running one -/
  sum : Int := 0
  cnt : Nat := 0
  lastE : Option Int := none
  minE : Option Int := none
  rises : Nat := 0
  /-- fade: start factor as a fraction, and samples done -/
  fading : Option (Nat × Nat × Nat) := none
  deriving DecidableEq, Repr

structure Tuner where
  tune : Tune := {}
  line : Tracker := {}
  rc : Vector Repet 4 := Vector.replicate 4 {}
  deriving DecidableEq, Repr

/-! ### Hold-up converter (file 08) -/

/-- What the pads of a phase drive: both low, PH_HI high, or PH_LO high; never both high (R201). -/
inductive PhaseDrive where
  | low | hi | lo
  deriving DecidableEq, Repr

/-- A phase beside its registers (R203 to R220, R230). -/
structure Phase where
  /-- d_j of the last completed cycles, newest first (R211) -/
  hist : List Int := []
  /-- peak reference applied in the cycle in progress -/
  peak : Option Int := none
  /-- consecutive cycle starts below DE_ENTER (R220) -/
  deRun : Nat := 0
  /-- fired cycles left (R230) -/
  fired : Nat := 0
  /-- what the pads drive, and what they drive from an edge time on, in edge steps of pair time (R201, R205) -/
  drive : PhaseDrive := .low
  next : Option (PhaseDrive × Int) := none
  /-- when the main switch of the cycle turns on, its longest on-time in edge steps while that has not ended, and whether MAX_DUTY set it -/
  rose : Int := 0
  bound : Option Nat := none
  atMax : Bool := false
  /-- the DAC code at the start of the on-time (R212) -/
  code : Nat := 0
  /-- PH_LO is the main switch of the cycle: diode emulation with a negative share (R220) -/
  mirror : Bool := false
  /-- the last fired on-time of a fire, in edge steps, and when the last on-time ended (R230) -/
  firedOn : Option Nat := none
  ended : Int := 0
  /-- the last cycle start, and the period and offset of its grid (R203, R204) -/
  start : Option Int := none
  grid : Nat × Nat := (0, 0)
  /-- a pad differed from its driven level at the readbacks of this period and of the one before: PH_HI, PH_LO (R207) -/
  diff : Bool × Bool := (false, false)
  diffWas : Bool × Bool := (false, false)
  /-- the last current sample exceeded ABS_MA (R207) -/
  tooHigh : Bool := false
  deriving DecidableEq, Repr

/-- A group beside its registers (R217, R219, R224, R230). -/
structure Group where
  /-- tick the present state was entered, or the retry count last restarted -/
  since : Nat := 0
  retried : Nat := 0
  firing : Bool := false
  lockEnd : Option Nat := none
  lockAt : Nat := 0
  /-- ALLFIRE floor, the tick its hold began, and whether it is falling; it is a duty where voltage mode set it (R230) -/
  floor : Option (Int × Nat × Bool) := none
  floorDuty : Bool := false
  /-- the state left last (R232), and the fine unit of pair time until which the slope comparator's output is held (R228) -/
  left : Nat := 0
  slopeHold : Option Int := none
  /-- I0 of the RETURN ramp (R224) -/
  i0 : Int := 0
  lastUnshed : Option Nat := none
  /-- since when the share has been below SHED_LO (R219) -/
  shedSince : Option Nat := none
  /-- since when the short condition has held (R218) -/
  shortSince : Option Nat := none
  deriving DecidableEq, Repr

/-- A segment of the reference in force (R221): start tick, value then in 2^-16 LSB, target, rate in 100 µV per ms. -/
structure Segment where
  t : Nat := 0
  r : Int := 0
  target : Option Int := none
  rate : Nat := 1000
  deriving DecidableEq, Repr

structure Converter where
  phases : Vector Phase 16 := Vector.replicate 16 {}
  groups : Vector Group 2 := Vector.replicate 2 {}
  /-- reference in force; `none` before tick g -/
  seg : Option Segment := none
  /-- rate of the slew command in progress (R226) -/
  slew : Option Nat := none
  /-- the RETURN ramp's start (R224) -/
  rampAt : Option Nat := none
  /-- switching period in force (R203) -/
  period : Nat := 200
  /-- bus-half voltages at the last comparison of capping (R262) -/
  capV : Vector (Option Int) 2 := Vector.replicate 2 none
  /-- the partner's enabled, unfaulted phases as last reported (R231) -/
  partnerAvail : Nat := 0
  /-- charging is withheld: waiting for strings, or until a tick (R216) -/
  chgWait : Bool := false
  chgFrom : Option Nat := none
  /-- SHEV lines after deglitch, and the ACSYNC sources once present (R222) -/
  syncSeen : Vector Bool 2 := Vector.replicate 2 false
  /-- the fold-back breakpoints and limits before the writes of a tick, which act from the next one (R232) -/
  foldWas : Option (Nat × Vector Int 4 × Vector Int 4) := none
  calAt : Option Nat := none
  deriving DecidableEq, Repr

end Sys2Proof.Machine
end

