-- ==== Sys2Proof/Machine/TypesPower.lean ====
section
/-! DEFINITION. The state of capping, the strings, the fuses, the rails and the thermal groups that no register shows (files 10 to
14). -/

namespace Sys2Proof.Machine

/-! ### Capping (file 10) -/

/-- A frame of a decision that waits for its slot (R267, R268): sequence number, level, zone mask. -/
structure CapFrame where
  seq : Nat
  level : Nat
  mask : Nat
  deriving DecidableEq, Repr

structure Cap where
  /-- the cap in force of the last tick, mW (R261) -/
  c : Nat := 40000000
  /-- CAP_RACK, CAP_GW and CAP_HOLDUP as they stood when this tick began: a write applies from the next tick (R274) -/
  rack : Nat := 0x7FFFFFFF
  gw : Nat := 40000000
  hold : Nat := 72000000
  /-- the cap in force at the return to GREENWARE (R21) -/
  gwCap : Option Nat := none
  /-- r_ref as an exact fraction, mW -/
  refNum : Int := 0
  refDen : Nat := 1
  /-- ticks of the last tightening or probe, and of the last decision -/
  tLast : Nat := 0
  lastDecision : Nat := 0
  probeNow : Bool := false
  queue : List CapFrame := []
  /-- consecutive frames read back with a mismatch -/
  badRun : Nat := 0
  /-- the products of the halves in the last 10 ticks, newest first, in 10^-4 mW; none where a sample was invalid (R259) -/
  prods : List (Option Int × Option Int) := []
  /-- a comparison of this tick that waits for its decision (R265), with the load power where it is available -/
  judge : Option (Option Int) := none
  /-- the tick of the last own slot with a frame, and the bytes of that frame as CAPLINE carried them (R267, R268) -/
  slotAt : Option Nat := none
  line : List Byte := []
  deriving DecidableEq, Repr

/-! ### Strings (file 11) -/

/-- The sums of a demodulation window (R294): the samples of I_NOW, in mA, times the sine and cosine of the perturbation phase in 2^-64,
and their count; those of STR_V, in 100 µV. -/
structure Corr where
  iSin : Int := 0
  iCos : Int := 0
  iCnt : Nat := 0
  vSin : Int := 0
  vCos : Int := 0
  vCnt : Nat := 0
  deriving DecidableEq, Repr

/-- A string beside its registers. -/
structure Str where
  /-- restored or seeded since `STR_EN` was set (R301) -/
  live : Bool := false
  /-- a reseed that waits for a usable voltage (R296 step 3) -/
  seedPending : Bool := false
  set_ : Learned := {}
  archive : Option Learned := none
  /-- integral at the last update and at the last 2 s mark, nV·s; remainder of R277 -/
  last : Int := 0
  last2s : Int := 0
  rem : Int := 0
  qCum : Int := 0
  qRem : Int := 0
  clip : Int := 0
  /-- I_f in 2^-32 µAh per update; u in 2^-32 µAh -/
  iF : Int := 0
  u : Int := 0
  /-- mean charge of the last update -/
  dq : Int := 0
  /-- va, vb in 2^-24 of 100 µV -/
  va : Int := 0
  vb : Int := 0
  /-- s_e and s_v in 2^-40 -/
  se : Int := 0
  sv : Option Int := none
  /-- since when I_f is below 0 (R287) -/
  negSince : Option Nat := none
  /-- u growth since P1 in 2^-32 µAh; updates, temperature sum in 1/64 °C since P1 (R291) -/
  grow : Int := 0
  n : Nat := 0
  tSum : Int := 0
  /-- tick DAYS last advanced or was cleared -/
  dayAt : Nat := 0
  /-- opened at; causes of R297 that hold it open, as a mask of their numbers -/
  openedAt : Nat := 0
  causes : Nat := 0
  /-- it was opened for cause 3 and has not closed since (R216) -/
  exhOpen : Bool := false
  /-- since when STR_V agrees with the lowest closed string -/
  agreeSince : Option Nat := none
  /-- since when the current has been above I_TRIP (R297), STR_V at or below V_SD, and above V_SD + SD_MARGIN (R286) -/
  tripSince : Option Nat := none
  lowSince : Option Nat := none
  highSince : Option Nat := none
  /-- what the last conversions of STR_ID found (0 absent, 1 present, 2 + code), how many agree, the conversion last judged -/
  idFound : Nat := 0
  idRun : Nat := 0
  idTick : Option Nat := none
  /-- since when the string has been absent -/
  absentAt : Option Nat := none
  /-- 2 s means below I_REST in a row; a rest point was taken in this episode -/
  below : Nat := 0
  taken : Bool := false
  /-- the last two 1-minute voltage means, newest first, as sum and count of samples; the sum and count of the running minute, and the
  conversion of STR_V last taken into them (R289) -/
  means : List (Int × Nat) := []
  vSum : Int := 0
  vCnt : Nat := 0
  vTick : Option Nat := none
  /-- the running demodulation window (R294) -/
  corr : Corr := {}
  /-- a rest point qualified in this tick (R305) -/
  restDue : Bool := false
  /-- the string is to close in this tick; `true` by a BAT_CMD.CLOSE (R298, R305) -/
  closing : Option Bool := none
  /-- a wake rest point is pending (R304) -/
  wakeRest : Bool := false
  deriving DecidableEq, Repr

structure Bat where
  strs : Vector Str 8 := Vector.replicate 8 {}
  /-- the perturbation is paused; the last 2 s mark at which a CLOSED string was below PERT_HOLD (R293) -/
  paused : Bool := false
  lowAt : Nat := 0
  /-- sets committed since the last update (R280); the tick of the last 2 s means (R289) -/
  tblNew : Nat := 0
  meanAt : Nat := 0
  /-- the running demodulation window has been broken for every string, or for the strings of a mask (R294) -/
  winBad : Bool := true
  winStr : Nat := 0
  /-- since when the bus has been in regulation (R625), and since when every AC-fail source has been clear -/
  regSince : Option Nat := none
  acClear : Option Nat := none
  /-- since when no configured string has been CLOSED (R286) -/
  noneClosed : Option Nat := none
  deriving DecidableEq, Repr

/-! ### Rails (file 13) -/

/-- A rail beside its registers. -/
structure Rail where
  /-- tick its deglitched PG rose (R337), its EN is due to rise (R338), its EN rose and fell -/
  pgSince : Option Nat := none
  enDue : Option Nat := none
  enAt : Nat := 0
  fellAt : Nat := 0
  /-- it has qualified since its EN rose (R339) -/
  everQual : Bool := false
  /-- fault timer: start tick and whether its cause is a level; whether it has expired; the tick it last stopped (R345, R346) -/
  timer : Option (Nat × Bool) := none
  fired : Bool := false
  stoppedAt : Nat := 0
  /-- the last sample in 100 µV, and samples below V_OFF in a row -/
  v : Option Int := none
  offRun : Nat := 0
  /-- since when every judged sample has lain outside the warning band (R344) -/
  warnSince : Option Nat := none
  /-- in a shut-down: judged off; STUCK; its EN fall of R352 -/
  off : Bool := true
  stuck : Bool := false
  p7At : Option Nat := none
  /-- its PG has been seen to change -/
  pgSeen : Bool := false
  /-- the level of its PG input, and since when (R336) -/
  pgFor : Bool × Nat := (false, 0)
  /-- the conversion of RMON last judged, and the tick it was judged in -/
  convAt : Option Nat := none
  judgedAt : Nat := 0
  deriving DecidableEq, Repr

structure Seq where
  rails : Vector Rail 24 := Vector.replicate 24 {}
  /-- run request (R341) -/
  run : Bool := false
  /-- tick the state was entered, and the shut-down began -/
  since : Nat := 0
  downAt : Nat := 0
  /-- since when SEQ_DN_IN is waited on (R354) -/
  cascSince : Option Nat := none
  /-- the tick the retry count was last cleared or RUN entered -/
  runSince : Nat := 0
  /-- first failures already written: in the episode, the RUN period, the shut-down (R342) -/
  ffEpisode : Bool := false
  ffRun : Bool := false
  ffDown : Bool := false
  /-- faults of the tick that are not yet judged, as rail (24: the cascade) and kind of R342 (R357) -/
  faults : List (Nat × Nat) := []
  /-- levels of the balls SEQ_PG, and those of SEQ_UP_IN and SEQ_DN_IN with the tick each took its level (R336, R353) -/
  pgBall : Nat := 0
  upBall : Bool × Nat := (false, 0)
  dnBall : Bool × Nat := (false, 0)
  /-- SEQ_UP_IN has fallen in this tick (R340) -/
  upFell : Bool := false
  /-- end of the test in force (R347) -/
  testEnd : Option Nat := none
  /-- since when the condition of each reset output holds (R348) -/
  rst : Vector (Option Nat) 8 := Vector.replicate 8 none
  /-- what the partner last reported of its rails: qualified, off, DN_STUCK (R355) -/
  partQual : Nat := 0
  partOff : Nat := 0
  partStuck : Nat := 0
  deriving DecidableEq, Repr

/-! ### Fuses (file 12) -/

/-- Slot memory (R325): retry count, LATCHED, frozen wait, end. -/
structure SlotMem where
  count : Nat
  latched : Bool
  remain : Nat
  until_ : Nat
  deriving DecidableEq, Repr

/-- A fuse channel beside its registers. -/
structure Fuse where
  /-- run request -/
  run : Bool := false
  /-- EF_ON, EF_ILIM code, and their pending changes (R314) -/
  on : Bool := false
  ilim : Nat := 0
  riseAt : Option Nat := none
  fallAt : Option Nat := none
  /-- inrush timer start, tick ON was entered, tick EF_ON fell -/
  startAt : Option Nat := none
  onAt : Nat := 0
  lowAt : Nat := 0
  /-- end of the wait in progress, whether it is one after a failure, and the wait an insertion asks for -/
  waitEnd : Option Nat := none
  failed : Bool := false
  insertEnd : Nat := 0
  mem : Option SlotMem := none
  /-- the last wait after a failure, from and to (R325) -/
  lastWait : Nat × Nat := (0, 0)
  /-- the level of the slot's presence ball, present or not, and since when (R324) -/
  presFor : Bool × Nat := (false, 0)
  /-- the cause of a failure of this tick that is not yet judged (R331) -/
  failDue : Option Nat := none
  /-- squared codes of EF_ISNS summed since the last update of the model, their count, and the conversion last taken (R318) -/
  sqSum : Nat := 0
  sqCnt : Nat := 0
  iTick : Option Nat := none
  /-- ΔT in 2^-24 of 1/64 °C, and the last direct temperature -/
  dT : Int := 0
  direct : Option Int := none
  /-- since when the condition of R320 has been absent -/
  healthySince : Option Nat := none
  /-- since when the conditions of INRUSH to ON (R312), of R316 and of R320 have held -/
  readySince : Option Nat := none
  limSince : Option Nat := none
  damageSince : Option Nat := none
  deriving DecidableEq, Repr

structure Efuse where
  chans : Vector Fuse 8 := Vector.replicate 8 {}
  /-- selected feed: 0 none, 1 A, 2 B; the gap to a new feed: old, and the tick it began; the force -/
  sel : Nat := 0
  gap : Option (Nat × Nat) := none
  force : Option Bool := none
  /-- since when each feed's samples have been inside its window, and outside it (R322) -/
  inSince : Vector (Option Nat) 2 := Vector.replicate 2 none
  outSince : Vector (Option Nat) 2 := Vector.replicate 2 none
  /-- since when each feed has been good, and a choice of feed is due in this tick (R323) -/
  goodSince : Vector (Option Nat) 2 := Vector.replicate 2 none
  switchDue : Bool := false
  deriving DecidableEq, Repr

/-! ### Thermal groups and the power state (files 14, 01) -/

/-- The six groups: recomputations in a row at or above SD, and whether one has come since tick g (R365, R367). -/
structure Thm where
  run : Vector Nat 6 := Vector.replicate 6 0
  first : Vector Bool 6 := Vector.replicate 6 false
  /-- groups with a member's conversion that they have not yet recomputed for, as a mask (R364) -/
  due : Nat := 0
  deriving DecidableEq, Repr

/-- Since when the conditions of R22 have held: pickup, AC clear without pickup, rectifiers at 10 % of load, and below it. -/
structure Qual where
  pick : Option Nat := none
  quiet : Option Nat := none
  load : Option Nat := none
  low : Option Nat := none
  deriving DecidableEq, Repr

end Sys2Proof.Machine
end

