-- ==== Sys2Proof/Machine/TypesUpd.lean ====
section
/-! DEFINITION. The state of the firmware update, its chain ports and the fault coverage that no register shows (files 24, 25). -/

namespace Sys2Proof.Machine

/-! ### Image and boot selector (R556 to R562) -/

/-- A part entry of a manifest (R558). -/
structure ImagePart where
  type : Nat
  len : Nat
  dest : Nat
  ver : Nat
  vid : Nat
  did : Nat
  lowest : Nat
  hash : List Byte
  deriving DecidableEq, Repr

/-- What stands for a part that a manifest does not have. -/
def noPart : ImagePart := ⟨0, 0, 0, 0, 0, 0, 0, []⟩

/-- A manifest (R557): part count, key index, release, lowest boot ROM version, parts. -/
structure Manifest where
  count : Nat
  key : Nat
  release : Nat
  rom : Nat
  parts : List ImagePart
  deriving DecidableEq, Repr

/-- A boot selector record (R562). -/
structure Selector where
  seq : Nat := 0
  committed : Nat := 0
  trial : Bool := false
  boots : Nat := 0
  relC : Nat := 0
  relT : Nat := 0
  image : Nat := 0
  deriving DecidableEq, Repr

/-! ### Modules (R565 to R568) -/

/-- Where a module target stands: its running bank is asked; its image is written; it waits for its selection; it runs the new bank as a
trial; it has reported GOOD; it is committed; it is reverted; it is done with. -/
inductive ModPhase where
  | ask | write | select | trial | good | commit | revert | finished
  deriving DecidableEq, Repr

/-- A module target: part, entry, the bank that ran before, next byte to write, failed attempts, tick of its selection; status reads in the
trial, or reverts sent. -/
structure ModTarget where
  part : Nat
  entry : Nat
  phase : ModPhase := .ask
  prev : Nat := 0
  off : Nat := 0
  fails : Nat := 0
  at_ : Nat := 0
  sent : Nat := 0
  /-- it was sent action 0 -/
  chosen : Bool := false
  deriving DecidableEq, Repr

/-- The update (R561 to R568). -/
structure Update where
  /-- the image staged or on trial, the blocks of it that are stored, and the tick the last new one was -/
  manifest : Option Manifest := none
  stored : List Nat := []
  lastNew : Nat := 0
  /-- tick of the activation -/
  activatedAt : Nat := 0
  /-- the module targets, once fixed -/
  targets : Option (List ModTarget) := none
  /-- the tick of the last request of the update, and the target it is for while it is on its way -/
  askedAt : Nat := 0
  cur : Option Nat := none
  /-- a revert in progress: its result and failing part -/
  reverting : Option (Nat × Nat) := none
  deriving DecidableEq, Repr

/-! ### Chain ports (R550 to R555) -/

/-- A frame that left a chain port (the model's own record of it). -/
inductive ChainOut where
  | block (image : Word) (b hop : Nat) (retx aborted : Bool) (payload : List Byte)
  | ack (image : Word) (b : Nat)
  | nak (image : Word) (b reason : Nat)
  | hello (payload : List Byte)
  | status (payload : List Byte)
  deriving DecidableEq, Repr

/-- A block that a port has sent and that is not acknowledged: number, tick of the last sending, sends. -/
structure ChainSent where
  b : Nat
  at_ : Nat
  sends : Nat
  deriving DecidableEq, Repr

/-- One chain port: the tick of the last valid HELLO, blocks sent and blocks that wait. -/
structure ChainPort where
  helloAt : Option Nat := none
  sent : List ChainSent := []
  queue : List Nat := []
  /-- the present 1,000,000-tick window and the code violations in it (R553) -/
  codes : Nat × Nat := (0, 0)
  deriving DecidableEq, Repr

structure Chain where
  ports : Vector ChainPort 2 := Vector.replicate 2 {}
  linkFail : Bool := false
  /-- tick of the last HELLO sent -/
  helloSent : Nat := 0
  /-- frames sent in the last tick that sent one: tick, port, frame (the model's own field) -/
  out : List (Nat × Nat × ChainOut) := []
  /-- header and payload bytes of the last frame sent, with its CRC (the model's own field) -/
  frame : List Byte := []
  /-- blocks that wait for the NVM port, with their payloads: block 0, or one that was cut through or not (R49, R554) -/
  held : List (ChainHead × List Byte × Bool) := []
  deriving DecidableEq, Repr

/-! ### Fault coverage (file 25) -/

structure Saf where
  /-- ticks of the core faults of the last hour (R578), newest first -/
  coreFaults : List Nat := []
  /-- Sieve (R579): words read in the pass in progress, of SRAM and NVM -/
  sramRead : Nat := 0
  nvmRead : Nat := 0
  /-- telemetry (R582): tick of the last refresh, and the 1,000,000-tick window a refresh was last skipped in -/
  telAt : Nat := 0
  telLate : Option Nat := none
  deriving DecidableEq, Repr

end Sys2Proof.Machine
end

