-- ==== Sys2Proof/Machine/State.lean ====
section
/-! DEFINITION. The state of the P9484, its faults and refusals, and the state at reset. Every register stands in `regs`,
every byte of a window or memory in `mem`; what no register shows stands in one typed record for each block. -/

namespace Sys2Proof.Machine

/-- Faults. The spec gives no command an effect that stops the block: errors are state (`NOTES.md`, Stops). -/
inductive Fault where
  deriving DecidableEq, Repr

/-- Refusals. -/
inductive Refusal where
  /-- raised by `exec` for a command that has no meaning yet; safe -/
  | notModelled (mnemonic : String)
  deriving DecidableEq, Repr

/-- The P9484 and the commands that wait for it. -/
structure State where
  /-- the tick counter (R36), one tick each microsecond since the power-on reset was released -/
  tick : Nat := 0
  /-- registers that do not hold their reset value, by byte address, rising (R69, R74) -/
  regs : List (Nat × Word) := []
  /-- bytes of the windows, tables, rings and NVM that are not 0, by address, rising (R70) -/
  mem : List Host.Cell := []
  /-- the power state of R18 and the tick it was entered -/
  power : PowerState := .normal
  powerSince : Nat := 0
  /-- the state it was entered from, and the tick that one was entered (R22, R25) -/
  powerFrom : PowerState := .normal
  powerFromSince : Nat := 0
  /-- LEVEL is FULL (R19, R20) -/
  full : Bool := false
  /-- the last tick that counted in `SYS_SHELF.CHG_COUNT` (R17) -/
  shelfTick : Option Nat := none
  /-- `SYS_SHELF` as it stood before that tick (R19) -/
  shelfOld : Nat := 0
  tb : TimeBase := {}
  balls : Balls := {}
  boot : Boot := {}
  cck : Cck := {}
  ports : Ports := {}
  evr : Recorder := {}
  /-- records made and not yet admitted, in the order they were made (R442, R47) -/
  made : List Made := []
  bbx : BlackBox := {}
  mbx : Mailbox := {}
  wdg : Watchdog := {}
  nvm : Nvm := {}
  afe : Afe := {}
  lpe : Loop := {}
  lpt : Tuner := {}
  cnv : Converter := {}
  cap : Cap := {}
  bat : Bat := {}
  seq : Seq := {}
  efu : Efuse := {}
  thm : Thm := {}
  qual : Qual := {}
  twb : Trans := {}
  shr : Sharing := {}
  hlk : Pair := {}
  upd : Update := {}
  chn : Chain := {}
  saf : Saf := {}
  /-- the model's own counter of free values drawn (log entry 1) -/
  free : Nat := 0
  /-- commands that wait, first in, first out -/
  pending : List Instr := []
  deriving DecidableEq, Repr

/-- What a byte of memory that nothing has written reads as (log entry 7). -/
def memUnlisted (_ : Nat) : Byte := 0

/-- The canonical form of a memory: addresses strictly rising, no byte equal to what an unlisted address reads as. -/
def Memory.wf (m : List Host.Cell) : Bool := sparseWf memUnlisted m

/-- The machine right after the power-on reset is released (R96). -/
def State.reset : State := {}

end Sys2Proof.Machine
end

