-- ==== Sys2Proof/Machine/Ops.lean ====
section
/-! DEFINITION. The named operations over registers, memory, time, events and counters that every meaning is written
with. A register has one home, `State.regs`; a field is read and written through its row of the register tables. -/

namespace Sys2Proof.Machine

/-! ### Words of a register -/

/-- Bits `[lo + width - 1 : lo]` of a register word. -/
def bitsOf (w : Word) (lo width : Nat) : Nat := (w >>> lo).toNat % 2 ^ width

/-- The word `w` with bits `[lo + width - 1 : lo]` set to the low bits of `v`. -/
def withBits (w : Word) (lo width v : Nat) : Word :=
  (w &&& ~~~((BitVec.ofNat 32 (2 ^ width - 1)) <<< lo)) ||| ((BitVec.ofNat 32 (v % 2 ^ width)) <<< lo)

/-- Address of the register that holds element `i` of a field. -/
def Field.at (f : Field) (i : Nat) : Nat := f.addr + f.stride * (i / f.per)

/-- Lowest bit of element `i` of a field in its register. -/
def Field.bit (f : Field) (i : Nat) : Nat := f.lo + f.sub * (i % f.per)

/-! ### Registers -/

/-- The register word at byte address `a`. -/
def State.reg (s : State) (a : Nat) : Word := look regReset s.regs a

/-- Sets the register word at byte address `a`. -/
def State.setReg (s : State) (a : Nat) (w : Word) : State := { s with regs := put regReset s.regs a w }

/-- Element `i` of a field, unsigned. -/
def State.get (s : State) (f : Field) (i : Nat := 0) : Nat := bitsOf (s.reg (f.at i)) (f.bit i) f.width

/-- Element `i` of a field in two's complement. -/
def State.getI (s : State) (f : Field) (i : Nat := 0) : Int := toSigned f.width (s.get f i)

/-- Element `i` of a one-bit field. -/
def State.on (s : State) (f : Field) (i : Nat := 0) : Bool := s.get f i == 1

/-- Writes element `i` of a field; the value is cut to the field's width. -/
def State.set (s : State) (f : Field) (v : Nat) (i : Nat := 0) : State :=
  s.setReg (f.at i) (withBits (s.reg (f.at i)) (f.bit i) f.width v)

/-- A value at the nearest one that a signed field of `w` bits represents beside its invalid marker (R5). -/
def satTo (w : Nat) (v : Int) : Int := max (-(2 ^ (w - 1) : Nat) + 1) (min v ((2 ^ (w - 1) : Nat) - 1))

/-- Writes element `i` of a field in two's complement, saturated (R5). -/
def State.setI (s : State) (f : Field) (v : Int) (i : Nat := 0) : State := s.set f (ofSigned f.width (satTo f.width v)) i

/-- Writes element `i` of a one-bit field. -/
def State.setB (s : State) (f : Field) (b : Bool) (i : Nat := 0) : State := s.set f (if b then 1 else 0) i

/-- Adds to a counter field that saturates at its highest value. -/
def State.addSat (s : State) (f : Field) (n : Nat) (i : Nat := 0) : State :=
  s.set f (min (s.get f i + n) (2 ^ f.width - 1)) i

/-- Counts one in a field that saturates. -/
def State.inc (s : State) (f : Field) (i : Nat := 0) : State := s.addSat f 1 i

/-- Counts one in a field that wraps. -/
def State.incWrap (s : State) (f : Field) (i : Nat := 0) : State := s.set f (s.get f i + 1) i

/-- Keeps the highest value seen in a field. -/
def State.maxOf (s : State) (f : Field) (v : Nat) (i : Nat := 0) : State :=
  s.set f (max (s.get f i) (min v (2 ^ f.width - 1))) i

/-- Stamps a register with tick counter bits [31:0]. -/
def State.stamp (s : State) (f : Field) (i : Nat := 0) : State := s.set f s.tick i

/-- The invalid marker of R4: only the top bit set. -/
def Field.invalid (f : Field) : Nat := 2 ^ (f.width - 1)

/-- Whether a measured value is valid (R4). -/
def State.valid (s : State) (f : Field) (i : Nat := 0) : Bool := s.get f i != f.invalid

def State.setInvalid (s : State) (f : Field) (i : Nat := 0) : State := s.set f f.invalid i

/-- Bit `b` of element `i` of a field. -/
def State.bitOn (s : State) (f : Field) (b : Nat) (i : Nat := 0) : Bool := (s.get f i).testBit b

/-- Sets bit `b` of element `i` of a mask field. -/
def State.setBit (s : State) (f : Field) (b : Nat) (v : Bool) (i : Nat := 0) : State :=
  s.set f (if v then s.get f i ||| 2 ^ b else s.get f i - (s.get f i &&& 2 ^ b)) i

/-! ### Conditional steps -/

/-- `f s` where `b` holds, else `s`. -/
def State.iff (s : State) (b : Bool) (f : State → State) : State := if b then f s else s

/-- Applies `f` for each element of a list, in order. -/
def State.each {α : Type} (s : State) (l : List α) (f : State → α → State) : State := l.foldl f s

/-- The next state of a command, as the outcome of a step. -/
def done (s : State) : Host.Outcome State Fault Refusal := .next s

/-! ### Memory -/

/-- The byte at address `a` of the memory. -/
def State.byte (s : State) (a : Nat) : Byte := look memUnlisted s.mem a

def State.setByte (s : State) (a : Nat) (b : Byte) : State := { s with mem := put memUnlisted s.mem a b }

/-- `n` bytes from address `a`, lowest first. -/
def State.bytes (s : State) (a n : Nat) : List Byte := (List.range n).map (fun i => s.byte (a + i))

/-- Writes bytes from address `a` upward. -/
def State.setBytes (s : State) (a : Nat) : List Byte → State
  | [] => s
  | b :: bs => (s.setByte a b).setBytes (a + 1) bs

/-- A little-endian number from bytes (R69). -/
def leNat : List Byte → Nat
  | [] => 0
  | b :: bs => b.toNat + 256 * leNat bs

/-- The `n` little-endian bytes of a number (R69). -/
def leBytes : Nat → Nat → List Byte
  | 0, _ => []
  | n + 1, v => BitVec.ofNat 8 v :: leBytes n (v / 256)

/-- The little-endian word at address `a` (R69). -/
def State.load (s : State) (a : Nat) : Word := BitVec.ofNat 32 (leNat (s.bytes a 4))

/-- Stores a little-endian word at address `a` (R69). -/
def State.store (s : State) (a : Nat) (w : Word) : State := s.setBytes a (leBytes 4 w.toNat)

/-! ### Events (R442: a record is stamped with the tick of its cause) -/

/-- A record is made; the EVENT_RECORD command takes it to the recorder in the order R47 resolves. -/
def State.event (s : State) (e : Ev) (obj : Nat := 0) (data : List Int := []) : State :=
  { s with made := s.made ++ [{ ev := e, obj := obj, data := data, tick := s.tick }] }

/-- An object reference of R12. -/
def objRef (cls ix : Nat) : Nat := cls * 0x1000 + ix

/-! ### Free values -/

/-- Draws a value the spec leaves open; the counter makes each draw its own (log entry 1). -/
def State.draw (s : State) : Int × State := (Config.freeValue s.free, { s with free := s.free + 1 })

/-- The fine stamp of an event at fine unit `f` of this tick: 63 while the tick source is the check oscillator (R42, R53). -/
def State.fineOf (s : State) (f : Nat) : Nat := if s.tb.onCheck then 63 else f % 50

/-- The fine stamp of an event whose fine unit no command carries: the time base resolves it (R35), so it is a free value. -/
def State.fineDraw (s : State) : Nat × State := (s.fineOf (s.draw.1 % 50).toNat, s.draw.2)

/-- Draws `n` words from the random source of R484 (log entry 2). -/
def State.random (s : State) (n : Nat) : List Word × State :=
  ((List.range n).map (fun i => Config.random (s.free + i)), { s with free := s.free + n })

/-! ### Arithmetic the chapters share -/

/-- `n / d` rounded to nearest, halves to even. -/
def divHalfEven (n : Int) (d : Nat) : Int :=
  let q := n.fdiv d
  let r := n - q * d
  if 2 * r < d then q else if 2 * r > d then q + 1 else if q % 2 = 0 then q else q + 1

/-- `x` limited to `[lo, hi]`. -/
def clampI (lo hi x : Int) : Int := max lo (min x hi)

/-- The largest `r ≤ hi` with `r * r ≤ n`, by halving the interval `[lo, hi]`. -/
def sqrtBelow : Nat → Nat → Nat → Nat → Nat
  | 0, lo, _, _ => lo
  | k + 1, lo, hi, n =>
    if hi ≤ lo + 1 then lo
    else if ((lo + hi) / 2) * ((lo + hi) / 2) ≤ n then sqrtBelow k ((lo + hi) / 2) hi n
    else sqrtBelow k lo ((lo + hi) / 2) n

/-- The integer square root of `n`, rounded down. -/
def isqrt (n : Nat) : Nat := sqrtBelow (n.log2 + 2) 0 (2 ^ (n.log2 / 2 + 1)) n

/-- The indices below `n` whose bit of `m` is 1. -/
def maskBits (n m : Nat) : List Nat := (List.range n).filter (fun i => m.testBit i)

/-- The mask of a set of indices. -/
def maskOf (l : List Nat) : Nat := l.foldl (fun m i => m ||| 2 ^ i) 0

/-- CRC with reflected polynomial, one bit at a time. -/
def crcStep (poly c : Nat) : Nat → Nat
  | 0 => c
  | n + 1 => crcStep poly (if c % 2 = 1 then (c / 2) ^^^ poly else c / 2) n

/-- CRC-32C of R85. -/
def crc32c (bs : List Byte) : Word :=
  BitVec.ofNat 32 ((bs.foldl (fun c b => crcStep 0x82F63B78 (c ^^^ b.toNat) 8) 0xFFFFFFFF) ^^^ 0xFFFFFFFF)

/-- Whether a deadline kept in the state has come (R36: a duration of n ticks that starts at s expires in tick s + n). -/
def State.due (s : State) (d : Option Nat) : Bool :=
  match d with
  | none => false
  | some t => decide (t ≤ s.tick)

end Sys2Proof.Machine
end

