-- ==== Sys2Proof/Machine/Fixed.lean ====
section
/-! DEFINITION. The real functions the chapters use, in fixed point: π, the sine of R293 and R294, and the exponential of R277, R283 and
R318. The spec names the functions and no internal precision; these are accurate to better than 2^-60 (log entry 6). -/

namespace Sys2Proof.Machine

/-- π in 2^-96. -/
def piFix : Int := 0x3_243F6A8885A308D313198A2E

/-- π² in 2^-64. -/
def pi2Fix : Int := piFix * piFix / 2 ^ 128

/-- The Taylor sum Σ (−1)^j x^(2j+1)/(2j+1)! from a term on; x² and the term in 2^-96. -/
def sinSum (x2 : Int) : Nat → Nat → Int → Int
  | 0, _, _ => 0
  | k + 1, j, term => term - sinSum x2 k (j + 1) (term * x2 / 2 ^ 96 / ((2 * j + 2) * (2 * j + 3) : Nat))

/-- The sine of an angle from 0 to π/2, in 2^-96. -/
def sinQuarter (x : Int) : Int := sinSum (x * x / 2 ^ 96) 24 0 x

/-- sin(2π k / t) in 2^-64, for k below t and t a multiple of 4. -/
def sinTurn (k t : Nat) : Int :=
  let q := t / 4
  let at_ := fun (j : Nat) => sinQuarter (2 * piFix * j / t) / 2 ^ 32
  if k < q then at_ k
  else if k < 2 * q then at_ (2 * q - k)
  else if k < 3 * q then -(at_ (k - 2 * q))
  else -(at_ (4 * q - k))

/-- The Taylor sum Σ (−x)^j/j! from a term on, in 2^-128. -/
def expSum (x : Int) : Nat → Nat → Int → Int
  | 0, _, _ => 0
  | k + 1, j, term => term - expSum x k (j + 1) (term * x / 2 ^ 128 / (j + 1 : Nat))

/-- `k` squarings in 2^-128. -/
def squareTimes : Nat → Int → Int
  | 0, v => v
  | k + 1, v => squareTimes k (v * v / 2 ^ 128)

/-- exp(−num/den) in 2^-64; 0 where the exponent is beyond 64. -/
def expNeg (num den : Nat) : Int :=
  if 64 * den < num then 0
  else squareTimes 8 (expSum ((num : Int) * 2 ^ 120 / (den : Int)) 24 0 (2 ^ 128)) / 2 ^ 64

end Sys2Proof.Machine
end

