-- ==== Sys2Proof/Machine/Operands.lean ====
section
/-! DEFINITION. Where an access goes and who may make it: the address map of R70, the source and the role of a requester
(R73, R487, R488), the access errors of R71 and their count, locks (R84), and the range check of R78. -/

namespace Sys2Proof.Machine

/-! ### Sources and roles -/

/-- Port 0 SPI, 1 and 2 Ethernet. -/
def State.sessPort (s : State) (k : Nat) : Nat := s.get SES_SESS_PORT k

/-- The open session of the SPI port, if there is one. -/
def State.spiSession (s : State) : Option Nat :=
  (List.range 8).find? (fun k => s.get SES_SESS_ROLE k != 0 && s.sessPort k == 0)

/-- R488: no valid slot has `MAX_ROLE` Curator. -/
def State.provisioning (s : State) : Bool :=
  (List.range 8).all (fun k => !(s.on SES_KEY_STAT_VALID k && s.get SES_KEY_CFG_MAX_ROLE k == 3))

def Role.ofCode : Nat → Role
  | 1 => .visitor | 2 => .conservator | 3 => .curator | _ => .none

/-- The source of an access (R48, R73). -/
def State.srcOf (s : State) : Requester → Src
  | .spi => .spi
  | .prax k => if s.sessPort k.val == 2 then .eth1 else .eth0
  | .partner => .partner
  | .policy => .policy

/-- The place of a source in the order of R48 and R15, after hardware protection; the first comes first. -/
def Src.rank : Src → Nat
  | .partner => 0 | .spi => 1 | .eth0 => 2 | .eth1 => 3 | .policy => 4

/-- A requester as a number, for what is remembered of it. -/
def who : Requester → Nat
  | .spi => 0 | .prax k => 1 + k.val | .partner => 9 | .policy => 10

/-- The writes and requests of this tick. -/
def State.wrote (s : State) : List Wrote := if s.ports.wroteAt = s.tick then s.ports.writes else []

/-- Keeps `l` as the writes of this tick. -/
def State.setWrote (s : State) (l : List Wrote) : State := { s with ports := { s.ports with writes := l, wroteAt := s.tick } }

/-- A request of this tick of a higher-ranked source stands at `k` (R15, R48). -/
def State.overruled (s : State) (r : Requester) (k : Nat) : Bool :=
  s.wrote.any (fun x => x.at_ == k && decide (x.rank < (s.srcOf r).rank))

/-- Notes a request of this tick. -/
def State.noteWrite (s : State) (r : Requester) (k : Nat) (w : Word := 0) : State :=
  s.setWrote (s.wrote ++ [{ at_ := k, who := who r, rank := (s.srcOf r).rank, before := 0, al := 0, w := w }])

/-- Of the requests of one tick that ask a block for incompatible values, the one whose source comes first in the order of R15 stands;
`k` says what is asked of which block. -/
def State.ranked (s : State) (r : Requester) (k : Nat) (f : State → State) : State :=
  if s.overruled r k then s else f (s.noteWrite r k)

/-- The requests with values, as keys above every address: a setpoint slew, the rails' run request, the force of the feeds, and the run
request of fuse channel, and the disconnect of string, n. -/
def keySlew : Nat := 2 ^ 32
def keySeq : Nat := 2 ^ 32 + 1
def keyFeed : Nat := 2 ^ 32 + 2
def keyFuse (n : Nat) : Nat := 2 ^ 32 + 0x10 + n
def keyStr (n : Nat) : Nat := 2 ^ 32 + 0x20 + n
/-- A SEND on channel `n` of the 64, inbound first. -/
def keySend (n : Nat) : Nat := 2 ^ 32 + 0x40 + n

/-- In a contention for page `p`, `a` was the one served second the last time it met `b`, so it is granted first now (R47). -/
def State.owedTo (s : State) (p a b : Nat) : Bool := s.ports.owed.contains (p, a, b)

/-- `a` was served second in a contention with `b` for page `p`: it wins the next one (R47). -/
def State.owe (s : State) (p a b : Nat) : State :=
  { s with ports := { s.ports with owed := (s.ports.owed.filter (fun x => x != (p, a, b) && x != (p, b, a))) ++ [(p, a, b)] } }

/-- The role an access is made with (R487, R488). -/
def State.roleOf (s : State) : Requester → Role
  | .spi => if s.provisioning then .curator else
      match s.spiSession with
      | some k => Role.ofCode (s.get SES_SESS_ROLE k)
      | none => .none
  | .prax k => Role.ofCode (s.get SES_SESS_ROLE k.val)
  | .partner => .exempt
  | .policy => .exempt

/-- The key slot a requester's session was opened with; 0xFF where it has none. -/
def State.slotOf (s : State) : Requester → Nat
  | .spi => match s.spiSession with
      | some k => s.get SES_SESS_SLOT k
      | none => 0xFF
  | .prax k => s.get SES_SESS_SLOT k.val
  | .partner => 0xFF
  | .policy => 0xFF

/-- Whether a role permits what needs `need`. -/
def Role.covers (r need : Role) : Bool := decide (need.rank ≤ r.rank)

/-! ### The address map (R70, R72, R81) -/

/-- What stands at an address. -/
inductive Target where
  /-- a register: its own address, and 0 normal, 1 SET, 2 CLR, 3 TGL -/
  | reg (a al : Nat)
  /-- a reserved offset of a page -/
  | reserved (a al : Nat)
  | mailbox (off : Nat)
  | blackBox (off : Nat)
  | coef (off : Nat)
  | catalogue (off : Nat)
  | events (off : Nat)
  | nvm (off : Nat)
  | unmapped
  deriving DecidableEq, Repr

/-- The channel and word of a mailbox data offset within its direction (R506). -/
def mailboxSpot (off : Nat) : Option (Nat × Nat) :=
  if off < 0x600 then some (off / 0x40, off % 0x40 / 4)
  else if off < 0xC00 then some (24 + (off - 0x600) / 0x100, (off - 0x600) % 0x100 / 4)
  else if 0x1000 ≤ off ∧ off < 0x2000 then some (30, (off - 0x1000) / 4)
  else if 0x2000 ≤ off ∧ off < 0x3000 then some (31, (off - 0x2000) / 4)
  else none

/-- Whether a mailbox channel is secure (R506). -/
def mailboxSecure (c : Nat) : Bool := (16 ≤ c && c ≤ 23) || c == 28 || c == 29 || c == 31

/-- A mailbox channel's size in words (R506). -/
def mailboxSize (c : Nat) : Nat := if c < 24 then 16 else if c < 30 then 64 else 1024

/-- R70: what stands at byte address `a`. -/
def target (a : Nat) : Target :=
  if a < 0x7C000 then
    match findRow (a - a % 0x4000 / 0x1000 * 0x1000) with
    | some _ => .reg (a - a % 0x4000 / 0x1000 * 0x1000) (a % 0x4000 / 0x1000)
    | none => .reserved (a - a % 0x4000 / 0x1000 * 0x1000) (a % 0x4000 / 0x1000)
  else if 0x100000 ≤ a ∧ a < 0x110000 then
    (match mailboxSpot ((a - 0x100000) % 0x8000) with | some _ => .mailbox (a - 0x100000) | none => .unmapped)
  else if 0x200000 ≤ a ∧ a < 0x300000 then .blackBox (a - 0x200000)
  else if 0x300000 ≤ a ∧ a < 0x310000 then .coef (a - 0x300000)
  else if 0x380000 ≤ a ∧ a < 0x3A0000 then .catalogue (a - 0x380000)
  else if 0x400000 ≤ a ∧ a < 0x500000 then .events (a - 0x400000)
  else if 0x800000 ≤ a ∧ a < 0x1000000 then .nvm (a - 0x800000)
  else .unmapped

/-- The class of the register at `a`. -/
def classOf (a : Nat) : Option RegClass := (findRow a).map (fun r => r.cls)

/-- The role R487 asks for a write at a target; the fields that chapters mark for a higher role add to this. -/
def writeNeed : Target → Role
  | .reg a _ =>
    if a = 0x0804C ∨ (0x08060 ≤ a ∧ a ≤ 0x0806C) then .none
    else if a = 0x08044 ∨ a = 0x08048 then .curator
    else match classOf a with
      | some .c => .curator
      | some .k => if a / 0x4000 = 3 ∨ a / 0x4000 = 4 ∨ a / 0x4000 = 0x1B then .curator else .conservator
      | _ => .conservator
  | .mailbox off => (match mailboxSpot (off % 0x8000) with
      | some (c, _) => if mailboxSecure c then .curator else .conservator
      | none => .conservator)
  | .coef _ => .curator
  | .catalogue _ => .curator
  | _ => .conservator

/-- Whether a window is read only (R70). -/
def Target.readOnly : Target → Bool
  | .blackBox _ => true
  | .events _ => true
  | .nvm _ => true
  | _ => false

/-- The page lock of R84 on the register at `a`. -/
def State.pageLocked (s : State) (a : Nat) : Bool :=
  s.reg (a / 0x4000 * 0x4000 + 0x1C) &&& 1 == 1

/-- R84: a class-C register other than `_LOCK` of a locked page. -/
def State.lockedAt (s : State) : Target → Bool
  | .reg a _ => classOf a == some .c && s.pageLocked a && a % 0x4000 != 0x1C
  | _ => false

/-- R488: what the SPI port may read without a session. -/
def readFree : Target → Bool
  | .reg a _ => (0x40 ≤ a && a ≤ 0x4C) || (0x8000 ≤ a && a < 0xC000)
  | .reserved a _ => 0x8000 ≤ a && a < 0xC000
  | _ => false

/-- Secure mailbox data is read from a Curator session only (R507); everything else by any session. -/
def readNeed : Target → Role
  | .mailbox off => (match mailboxSpot (off % 0x8000) with
      | some (c, _) => if mailboxSecure c then .curator else .visitor
      | none => .visitor)
  | t => if readFree t then .none else .visitor

/-- The access error of a read, the first that applies (R71). -/
def State.readError (s : State) (r : Requester) (a : Nat) : Option AccErr :=
  if a % 4 ≠ 0 then some .unaligned
  else if target a = .unmapped then some .unmapped
  else if !(s.roleOf r).covers (readNeed (target a)) then some .role
  else none

/-- Whether an offset of coefficient memory is a word a write may change, is reserved, or is read only (R174, R175). -/
inductive CoefSpot where
  | word | reserved | readOnly
  deriving DecidableEq, Repr

/-- The words a region block has; the rest are reserved (R175). A word stands if any law names it. -/
def regionWord (off : Nat) : Bool := off ≤ 0x08 || (0x10 ≤ off && off ≤ 0x98)

def coefSpot (off : Nat) : CoefSpot :=
  let o := off % 0x400
  if o < 0x300 then (if regionWord (o % 0xC0) then .word else .reserved)
  else if o < 0x318 then .word
  else if o < 0x380 then .reserved
  else if o < 0x3EC then .readOnly
  else .reserved

/-- A read-only word of coefficient memory stands there (R174). -/
def coefFixed (t : Target) : Bool := match t with | .coef off => coefSpot off == .readOnly | _ => false

/-- The access error of a write, the first that applies (R71). -/
def State.writeError (s : State) (r : Requester) (a : Nat) : Option AccErr :=
  if a % 4 ≠ 0 then some .unaligned
  else if target a = .unmapped ∨ (target a).readOnly ∨ coefFixed (target a) then some .unmapped
  else if !(s.roleOf r).covers (writeNeed (target a)) then some .role
  else if s.lockedAt (target a) then some .locked
  else none

/-- A refused access is counted (R71, R490, R504); a LOCKED one also in `CCK_LOCK_REJ`. -/
def State.refuse (s : State) (r : Requester) (a : Nat) (e : AccErr) : State :=
  let s := match e with
    | .unmapped => s.inc SYS_ACC_ERR_UNMAPPED
    | .unaligned => s.inc SYS_ACC_ERR_UNALIGNED
    | .role => s.inc SYS_ACC_ERR_ROLE
    | .locked => (s.inc SYS_ACC_ERR_LOCKED).inc CCK_LOCK_REJ_REJ
  match r with
  | .spi =>
    let s := ((s.inc HIF_SPI_STAT_ERRORS).set HIF_SPI_LAST_ADDR a).set HIF_SPI_LAST_CODE e.code
    { s with ports := { s.ports with
        spiFirst := if s.ports.spiFirst = 0 then e.code else s.ports.spiFirst
        spiCount := min (s.ports.spiCount + 1) 255 } }
  | _ => s

/-- The settings a Kiln record stores changed: a BAKE whose snapshot, of 1,000 ticks, is being taken will end with CHANGED (R537, R538). -/
def State.storedChange (s : State) : State :=
  match s.nvm.bake with
  | some b => if s.tick < b.2.1 + 1000 then { s with nvm := { s.nvm with bakeChanged := true } } else s
  | none => s

/-- The class-C register at `a` changed by an accepted write: its page is marked, a scan that reads it is told, and a running snapshot
(R84, R87, R537). -/
def State.markPage (s : State) (a : Nat) : State :=
  let s := (s.setBit CCK_WR_MASK_WR (a / 0x4000) true).storedChange
  if s.cck.scan.isSome then { s with cck := { s.cck with touched := s.cck.touched ++ [a / 0x4000] } } else s

/-- A write of this unit, accepted into the class-C register at `a`, and already applied: it waits to be mirrored to the partner unit
(R463, R467). -/
def State.markWritten (s : State) (a : Nat) : State :=
  let s := s.markPage a
  if (s.get SYS_STRAP_LATCHED % 4 == 1 || s.get SYS_STRAP_LATCHED % 4 == 2) && s.on HLK_CTRL_EN then
    { s with hlk := { s.hlk with cfgOut := s.hlk.cfgOut ++ [(a, s.reg a)] } }
  else s

/-- An accepted request restarts its session's idle time (R486). -/
def State.touch (s : State) (r : Requester) : State :=
  let mark (k : Fin 8) : State :=
    { s with ports := { s.ports with sessions := s.ports.sessions.set k { s.ports.sessions.get k with lastTick := s.tick } } }
  match r with
  | .spi => (match (List.finRange 8).find? (fun k => s.get SES_SESS_ROLE k.val != 0 && s.sessPort k.val == 0) with
      | some k => mark k
      | none => s)
  | .prax k => if s.get SES_SESS_ROLE k.val = 0 then s else mark k
  | _ => s

/-- Accesses are served: the power-on reset is released, and neither the vendor test state nor a boundary-scan instruction has ended
service (R595, R596). -/
def State.served (s : State) : Bool := !s.boot.por && !s.boot.testState && !s.boot.serviceEnded

/-- The outputs of bank VIO_A (bit 2) or VIO_B (bit 3) of `SYS_SUPPLY_STAT.GOOD` follow the block (R98, R99, R595, R596). -/
def State.bankLive (s : State) (bit : Nat) : Bool := s.served && s.bitOn SYS_SUPPLY_STAT_GOOD bit

/-- Accesses of a requester are served: SPI frames from tick g while `HIF_SPI_CFG.EN` is 1 (R614, R490) and VIO_A is good, SPI_CS_N reading
high without it (R593, R621); PRAX in full service (R492). -/
def State.servesFor (s : State) (r : Requester) : Bool :=
  s.served && (match r with
    | .spi => s.boot.g.isSome && s.on HIF_SPI_CFG_EN && s.bitOn SYS_SUPPLY_STAT_GOOD 2
    | .prax _ => s.full
    | _ => true)

/-- The write of a register that has a command of its own: the access check of R71, then the command's effect. -/
def State.gate (s : State) (r : Requester) (a : Nat) (f : State → State) : State :=
  if !s.servesFor r then s
  else match s.writeError r a with
  | some e => s.refuse r a e
  | none => f (s.touch r)

/-- As `gate`, for a field that its chapter reserves for a higher role (R487). -/
def State.gateRole (s : State) (r : Requester) (a : Nat) (need : Role) (f : State → State) : State :=
  if !s.servesFor r then s
  else match s.writeError r a with
  | some e => s.refuse r a e
  | none => if (s.roleOf r).covers need then f (s.touch r) else s.refuse r a .role

/-- The read of a register that has a command of its own. A refused read answers 0. -/
def State.gateRead (s : State) (r : Requester) (a : Nat) (f : State → State) : State :=
  if !s.servesFor r then s
  else match s.readError r a with
  | some e => { (s.refuse r a e) with ports := { (s.refuse r a e).ports with answer := [0] } }
  | none => f (s.touch r)

/-- The values the last read answered with (the model's own field). -/
def State.reply (s : State) (l : List Nat) : State := { s with ports := { s.ports with answer := l } }

/-- As `reply`, to a requester; SPI_IO stays high impedance while VIO_A is not good, so nothing is answered there (R98, R593). -/
def State.replyTo (s : State) (r : Requester) (l : List Nat) : State := s.reply (if r = .spi ∧ !s.bankLive 2 then [] else l)

/-! ### Registers kept for each source -/

/-- The copy of a per-source register (XAC_HREQ, NVM_WIN, EVR_CLEAR_SEQ, BBX_WIN_CTRL, AFE_MON_SEL and its results) for a source. -/
def srcField (src : Src) (f : Field) : Field := { f with addr := f.addr + 0x1000000 * (1 + src.ix) }

/-- The latched copy of a register for a source (R51, R73). -/
def latchField (src : Src) (f : Field) : Field := { f with addr := f.addr + 0x1000000 * (8 + src.ix) }

/-- CRC-8 of R381, of packet error codes and event records. -/
def crc8 (bs : List Byte) : Nat :=
  bs.foldl (fun c b => (List.range 8).foldl (fun c _ => if 128 ≤ c then ((c * 2) ^^^ 0x07) % 256 else c * 2)
    (c ^^^ b.toNat)) 0

/-! ### Values written to fields (R76, R78) -/

/-- R78: whether a field accepts a value, by its stated ranges. -/
def Field.accepts (f : Field) (v : Nat) : Bool :=
  f.ranges.isEmpty || f.ranges.any (fun p =>
    decide (p.1 ≤ (if f.signed then toSigned f.width v else (v : Int)) ∧ (if f.signed then toSigned f.width v else (v : Int)) ≤ p.2))

end Sys2Proof.Machine
end

