-- ==== Sys2Proof/Machine/Nvm.lean ====
section
/-! DEFINITION. The non-volatile memory as the blocks write it (R529 to R532, R542): its place in the memory of the model,
word writes, and the count of writes of each word. -/

namespace Sys2Proof.Machine

/-- NVM offset 0 in the model's memory; the NVM read window shows these bytes (R533). -/
def nvmBase : Nat := 0x10000000

/-- The region of an NVM offset: 0 slot A, 1 slot B, 2 staging, 3 Strata, 4 event ring, 5 Kiln, 6 counters, 7 reserved (R529). -/
def nvmRegion (off : Nat) : Nat :=
  if off < 0x300000 then 0 else if off < 0x600000 then 1 else if off < 0xA00000 then 2
  else if off < 0xE80000 then 3 else if off < 0xF80000 then 4 else if off < 0xFC0000 then 5
  else if off < 0xFE0000 then 6 else 7

/-- One 32-bit word write of the NVM port: the word, its write count (R542), and the count of all writes (R549). An uncorrectable word is
no longer one once it has been rewritten (R548). -/
def State.nvmStore (s : State) (off : Nat) (w : Word) : State :=
  let s := s.store (nvmBase + off) w
  let s := { s with nvm := { s.nvm with
    ded := s.nvm.ded.filter (fun a => a != off)
    wear := put (fun _ => 0) s.nvm.wear (off / 4) (look (fun _ => 0) s.nvm.wear (off / 4) + 1) } }
  s.incWrap NVM_WRITES_WORDS

/-- The NVM word at an offset. -/
def State.nvmWord (s : State) (off : Nat) : Word := s.load (nvmBase + off)

/-- Writes bytes as words in ascending order, their first at the multiple of 4 `off`. -/
def State.nvmWrite (s : State) (off : Nat) : List Word → State
  | [] => s
  | w :: ws => (s.nvmStore off w).nvmWrite (off + 4) ws

/-- The port is free for staging, counters and Tilling: neither a Strata commit nor a BAKE has it (R49). -/
def State.nvmFree (s : State) : Bool := !s.nvm.strata && s.nvm.bake.isNone

/-- Words of the counters region: written where the port is free, and in their turn otherwise (R49). -/
def State.countersWrite (s : State) (off : Nat) (ws : List Word) : State :=
  if s.nvmFree && s.nvm.waiting.isEmpty then s.nvmWrite off ws
  else { s with nvm := { s.nvm with waiting := s.nvm.waiting ++ ws.zipIdx.map (fun p => (off + 4 * p.2, p.1)) } }

/-- The next word that waits is written once the port is free, one a tick. -/
def State.countersTick (s : State) : State :=
  match s.nvm.waiting with
  | [] => s
  | (off, w) :: rest => if s.nvmFree then ({ s with nvm := { s.nvm with waiting := rest } }).nvmStore off w else s

/-- The NVM as it will stand once the words that wait are written. -/
def State.countersSeen (s : State) : State := s.each s.nvm.waiting (fun s p => s.store (nvmBase + p.1) p.2)

/-- Four bytes at a time, little-endian; a short last group is filled with zeros. -/
def wordsOf : Nat → List Byte → List Word
  | 0, _ => []
  | _, [] => []
  | n + 1, bs => BitVec.ofNat 32 (leNat (bs.take 4)) :: wordsOf n (bs.drop 4)

/-- The bytes `bs` as words. -/
def toWords (bs : List Byte) : List Word := wordsOf bs.length bs

/-- The write count, in thousands, of a region's most-written word (R542, R549). -/
def State.wearOf (s : State) (r : Nat) : Nat :=
  let wipes := fun (off : Nat) => look (fun _ => 0) s.nvm.wipes (off / 0x10000)
  let words := (s.nvm.wear.filter (fun p => nvmRegion (p.1 * 4) == r)).map (fun p => p.2 + wipes (p.1 * 4))
  let sectors := (s.nvm.wipes.filter (fun p => nvmRegion (p.1 * 0x10000) == r)).map (fun p => p.2)
  (words ++ sectors).foldl max 0 / 1000

/-- The time record of R543: sequence, power-cycle count, operating time, ship time, CRC. -/
def timeRecord (seq pcycle opTime ship : Nat) : List Byte :=
  let body := leBytes 4 seq ++ leBytes 3 pcycle ++ leBytes 1 0 ++ leBytes 6 opTime ++ leBytes 2 0 ++
    leBytes 4 ship ++ leBytes 8 0
  body ++ leBytes 4 (crc32c body).toNat

/-- Operating time at tick `t`, ms (R441). -/
def State.opTimeAt (s : State) (t : Nat) : Nat := s.evr.opBase + t / 1000

/-- A save of the counters: the next slot of ring A, then of ring B, with the same sequence number (R441, R543). -/
def State.timeSave (s : State) (pcycle opTime ship : Nat) : State :=
  let seq := s.evr.saveSeq + 1
  let ws := toWords (timeRecord seq pcycle opTime ship)
  let s := (s.countersWrite (0xFC0000 + 0x20 * (seq % 16)) ws).countersWrite (0xFC0200 + 0x20 * (seq % 16)) ws
  { (s.incWrap TB_CNT_SAVES_COUNT) with evr := { s.evr with saveSeq := seq } }

end Sys2Proof.Machine
end

