-- ==== Sys2Proof/Machine/Recorder.lean ====
section
/-! DEFINITION. The event recorder (file 18): what a record holds, how it is admitted, limited, coalesced, folded, drained
and cleared, and the commands of the recorder. -/

namespace Sys2Proof.Machine

/-- The code of an event: those the spec numbers (R439, R440), else the code of Config (log entry 5). -/
def Ev.code (e : Ev) : Nat :=
  match e with
  | .shelfState => 0x0001
  | .recorderStart => 0xF001
  | .suppressed => 0xF002
  | .cleared => 0xF003
  | .traceGap => 0xF004
  | .eventLoss => 0xF005
  | .clearRefused => 0xF006
  | .alarmFold => 0xF007
  | e => Config.eventCode e.ctorIdx

/-- The codes of R440. -/
def ownCode (c : Nat) : Bool := 0xF001 ≤ c && c ≤ 0xF007

/-- The severity of a code (R438): R440's codes, a host-injected code's own, else Config (log entry 5). -/
def codeSev (c : Nat) : Nat :=
  if c = 0xF001 ∨ c = 0xF002 ∨ c = 0xF004 then 1
  else if ownCode c then 2 else (Config.eventSeverity c).val

/-- The class of a code: 0 EVENT, 1 ALARM, 2 TRACE (R438, R440, R455). -/
def codeClass (c : Nat) : Nat :=
  if ownCode c ∨ (0xEF00 ≤ c ∧ c ≤ 0xEFFF) then 0 else (Config.eventClass c).val

/-- `n` bytes of an unsigned value held in a record's data. -/
def dataBytes (n : Nat) (x : Int) : List Byte := leBytes n (x % (2 ^ (8 * n) : Nat)).toNat

/-- Payload bytes 0 to 11: the layouts of R439 and R440, else the object reference of R438 and the bytes of Config. -/
def Made.payload (m : Made) : List Byte :=
  let d := fun i => m.data.getD i 0
  match m.ev with
  | .shelfState => dataBytes 4 (d 0) ++ dataBytes 4 (d 1) ++ leBytes 4 0
  | .recorderStart => dataBytes 4 (d 0) ++ dataBytes 4 (d 1) ++ dataBytes 4 (d 2)
  | .suppressed => dataBytes 2 (d 0) ++ dataBytes 4 (d 1) ++ dataBytes 4 (d 2) ++ dataBytes 2 (d 3)
  | .cleared => dataBytes 4 (d 0) ++ dataBytes 1 (d 1) ++ dataBytes 1 (d 2) ++ leBytes 2 0 ++ dataBytes 4 (d 3)
  | .traceGap => dataBytes 4 (d 0) ++ dataBytes 4 (d 1) ++ dataBytes 4 (d 2)
  | .eventLoss => dataBytes 4 (d 0) ++ dataBytes 4 (d 1) ++ dataBytes 4 (d 2)
  | .clearRefused => dataBytes 4 (d 0) ++ dataBytes 4 (d 1) ++ leBytes 4 0
  | .alarmFold => dataBytes 2 (d 0) ++ dataBytes 4 (d 1) ++ leBytes 6 0
  | e => (if m.obj = 0 then [] else leBytes 2 m.obj) ++
      (((List.range 12).drop (if m.obj = 0 then 0 else 2)).map
        (fun i => if codeClass e.code = 1 ∧ 10 ≤ i then (if i = 10 then 1 else 0)
          else Config.eventPayload e.ctorIdx m.obj m.data i))

/-- The role of the recording unit (R437), from the latched straps (R102). -/
def State.unitRole (s : State) : Nat := s.get SYS_STRAP_LATCHED % 4

/-- A record of R437 without its sequence number. -/
def State.record (s : State) (code sev cls : Nat) (payload : List Byte) (cause : Nat) : Rec :=
  { seq := 0, code := code, sev := sev, cls := cls, coalesced := false, folded := false,
    role := s.unitRole, greenware := !s.full, onCheck := s.tb.onCheck,
    pcycle := s.get TB_PCYCLE_COUNT, opTime := s.opTimeAt cause, subTick := cause % 1000,
    payload := payload, cause := cause }

/-- The record of something made by a command. -/
def State.recordOf (s : State) (m : Made) : Rec :=
  s.record m.ev.code (codeSev m.ev.code) (codeClass m.ev.code) m.payload m.tick


/-- The 32 bytes of a record (R437). -/
def Rec.bytes (r : Rec) : List Byte :=
  let b (x : Bool) (n : Nat) : Nat := if x then n else 0
  let head := leBytes 4 r.seq ++ leBytes 2 r.code ++
    leBytes 1 (r.sev + 8 * r.cls + b r.coalesced 32 + b r.folded 64) ++
    leBytes 1 (r.role + b r.greenware 4 + b r.onCheck 8) ++
    leBytes 3 r.pcycle ++ leBytes 6 r.opTime ++ leBytes 2 r.subTick
  head ++ leBytes 1 (crc8 (head ++ r.payload)) ++ r.payload

/-- Free places of the queue (R443). -/
def State.freePlaces (s : State) : Nat := 2048 - s.evr.queue.length

/-- The fill of the queue, as `EVR_QUEUE` shows it (R455). -/
def State.showFill (s : State) : State :=
  (s.set EVR_QUEUE_FILL s.evr.queue.length).maxOf EVR_QUEUE_MAX s.evr.queue.length

/-- A record is to be notified to every session subscribed at or below its severity (R497). -/
def State.notify (s : State) (r : Rec) : State :=
  let wants := fun (x : Session) => match x.sub with
    | some v => decide (v ≤ r.sev)
    | none => false
  if s.ports.sessions.any wants then
    { s with ports := { s.ports with
        sessions := s.ports.sessions.map (fun x => if wants x then { x with out := x.out ++ [r] } else x) } }
  else s

/-- A record enters the queue and takes the next sequence number (R443); the ring keeps 32,768 records (R445). -/
def State.enqueue (s : State) (r : Rec) : State :=
  let seq := (s.get EVR_HEAD_SEQ + 1) % 2 ^ 32
  let s := { s with evr := { s.evr with queue := s.evr.queue ++ [{ r with seq := seq }] } }
  let s := (s.set EVR_HEAD_SEQ seq).showFill
  let s := s.iff ((seq + 2 ^ 32 - s.get EVR_TAIL_SEQ) % 2 ^ 32 ≥ 32768)
    (fun s => s.set EVR_TAIL_SEQ (seq + 2 ^ 32 - 32767))
  let s := s.incWrap EVR_SEV_CNT_COUNT r.sev
  let s := ((s.set EVR_LAST_CODE r.code).set EVR_LAST_SEV r.sev).set EVR_LAST_TICK_TICK r.cause
  let s := s.iff (s.get EVR_IRQ_CFG_IRQ_SEV ≤ r.sev) (fun s => s.set EVR_PEND_SEQ_SEQ seq)
  let s := s.iff (r.code == 0xF004 || r.code == 0xF005 || r.code == 0xF007) (fun s => s.set EVR_GAP_LAST_SEQ seq)
  ({ s with boot := { s.boot with lastSeqKept := if s.boot.vbatKeep then some seq else none } }).notify { r with seq := seq }

def Drops.add (d : Drops) (t : Nat) : Drops :=
  { count := d.count + 1, first := if d.count = 0 then t else d.first, last := t }

/-- A drop counted for TRACE_GAP or EVENT_LOSS (R443). -/
def State.dropRec (s : State) (cls : Nat) : State :=
  if cls = 2 then { (s.inc EVR_DROP_TRACE_COUNT) with evr := { (s.inc EVR_DROP_TRACE_COUNT).evr with dropTrace := s.evr.dropTrace.add s.tick } }
  else { (s.inc EVR_DROP_EVENT_COUNT) with evr := { (s.inc EVR_DROP_EVENT_COUNT).evr with dropEvent := s.evr.dropEvent.add s.tick } }

/-- A later record of the same waiting record of R440 is merged into it: counts are added (R623). -/
def mergeOwn (w r : Rec) : Rec :=
  let cnt := fun (l : List Byte) (i : Nat) => leNat ((l.drop i).take 4)
  if w.code = 0xF002 then
    { w with payload := w.payload.take 2 ++ leBytes 4 (min (cnt w.payload 2 + cnt r.payload 2) 0xFFFFFFFF) ++ w.payload.drop 6 }
  else if w.code = 0xF007 then
    { w with payload := w.payload.take 2 ++ leBytes 4 (min (cnt w.payload 2 + cnt r.payload 2) 0xFFFFFFFF) ++ w.payload.drop 6 }
  else if w.code = 0xF004 ∨ w.code = 0xF005 then
    { w with payload := leBytes 4 (min (cnt w.payload 0 + cnt r.payload 0) 0xFFFFFFFF) ++ (w.payload.drop 4).take 4 ++ r.payload.drop 8 }
  else w

/-- The same code and payload bytes 0 and 1 (R444, R623). -/
def Rec.same (a b : Rec) : Bool := a.code == b.code && a.payload.take 2 == b.payload.take 2

/-- One more occurrence in an ALARM record (R438, R444). -/
def Rec.coalesce (r : Rec) : Rec :=
  { r with
      coalesced := true
      payload := r.payload.take 10 ++ leBytes 2 (min (leNat (r.payload.drop 10) + 1) 65535) }

/-- A record into which an alarm was folded (R444). -/
def Rec.fold (r : Rec) : Rec := { r with folded := true }

/-- Changes the last element that meets `p`. -/
def modifyLast {α : Type} (p : α → Bool) (f : α → α) (l : List α) : List α :=
  match l.reverse.findIdx? p with
  | none => l
  | some i => l.modify (l.length - 1 - i) f

/-- Changes the first element that meets `p`. -/
def modifyFirst {α : Type} (p : α → Bool) (f : α → α) (l : List α) : List α :=
  match l.findIdx? p with
  | none => l
  | some i => l.modify i f

/-- A record of R440 that finds no place waits, merged with a waiting one of its code and object (R623). -/
def State.waitOwn (s : State) (r : Rec) : State :=
  if s.evr.waiting.any (fun w => w.same r) then
    { s with evr := { s.evr with waiting := modifyFirst (fun w => w.same r) (fun w => mergeOwn w r) s.evr.waiting } }
  else { s with evr := { s.evr with waiting := s.evr.waiting ++ [r] } }

/-- Queues a record of R440, or lets it wait. -/
def State.admitOwn (s : State) (r : Rec) : State :=
  if 1 ≤ s.freePlaces then s.enqueue r else s.waitOwn r

/-- The record of a fold (R440): waits for a place like every record of R440. -/
def State.foldReport (s : State) (code : Nat) : State :=
  (s.inc EVR_ALARM_CNT_FOLDED).admitOwn (s.recordOf { ev := .alarmFold, obj := 0, data := [code, 1], tick := s.tick })

/-- An alarm with no place and no equal record in the queue: R444 steps 1 to 3, then R623. -/
def State.alarmFull (s : State) (r : Rec) : State :=
  let removable := fun (q : Rec) => q.cls != 1 && !ownCode q.code
  match s.evr.queue.reverse.find? removable with
  | some q =>
    let i := s.evr.queue.length - 1 - (s.evr.queue.reverse.findIdx removable)
    (({ s with evr := { s.evr with queue := s.evr.queue.eraseIdx i } }).dropRec q.cls).enqueue r
  | none =>
    if s.evr.queue.any (fun q => q.cls == 1 && q.code == r.code) then
      ({ s with evr := { s.evr with queue := modifyLast (fun q => q.cls == 1 && q.code == r.code) Rec.fold s.evr.queue } }).foldReport r.code
    else if s.evr.queue.any (fun q => q.cls == 1) then
      ({ s with evr := { s.evr with queue := modifyLast (fun q => q.cls == 1) Rec.fold s.evr.queue } }).foldReport r.code
    else if s.evr.waiting.any (fun w => w.cls == 1 && w.same r) then
      ({ s with evr := { s.evr with waiting := modifyFirst (fun w => w.cls == 1 && w.same r) Rec.coalesce s.evr.waiting } }).inc
        EVR_ALARM_CNT_COALESCED
    else if (s.evr.waiting.filter (fun w => w.cls == 1)).length < 64 then
      { s with evr := { s.evr with waiting := s.evr.waiting ++ [r] } }
    else ({ s with evr := { s.evr with waiting := modifyLast (fun w => w.cls == 1) Rec.fold s.evr.waiting } }).foldReport r.code

/-- Admission of an ALARM (R443, R444). -/
def State.admitAlarm (s : State) (r : Rec) : State :=
  if s.evr.queue.any (fun q => q.cls == 1 && q.same r) then
    ({ s with evr := { s.evr with queue := modifyFirst (fun q => q.cls == 1 && q.same r) Rec.coalesce s.evr.queue } }).inc
      EVR_ALARM_CNT_COALESCED
  else if 1 ≤ s.freePlaces then s.enqueue r
  else s.alarmFull r

/-- The limiter entry that names a code (R447). -/
def State.limiterOf (s : State) (code : Nat) : Option (Fin 256) :=
  (List.finRange 256).find? (fun i => (s.evr.buckets.get i).code == code && code != 0)

/-- A bucket gives a token, or counts a suppression (R447, R448). -/
def Bucket.take (b : Bucket) (t : Nat) : Bool × Bucket :=
  if 1000 ≤ b.level then (true, { b with level := b.level - 1000 })
  else (false, { b with suppressed := b.suppressed + 1, firstTick := if b.suppressed = 0 then t else b.firstTick })

/-- An EVENT record that found its place is judged by its bucket (R447). -/
def State.limit (s : State) (r : Rec) : State :=
  match s.limiterOf r.code with
  | some i =>
    let t := (s.evr.buckets.get i).take r.cause
    let s := { s with evr := { s.evr with buckets := s.evr.buckets.set i t.2 } }
    if t.1 then s.enqueue r else s.inc EVR_SUPPR_COUNT
  | none =>
    let t := s.evr.shared.take r.cause
    let s := { s with evr := { s.evr with shared := t.2 } }
    if t.1 then s.enqueue r else s.inc EVR_SUPPR_COUNT

/-- Waiting records enter in the order in which they began to wait, one for each free place (R623). -/
def State.flushWaiting (s : State) : State :=
  let n := min s.freePlaces s.evr.waiting.length
  ({ s with evr := { s.evr with waiting := s.evr.waiting.drop n } }).each (s.evr.waiting.take n) (fun s r => s.enqueue r)

/-- `n` rises of a bucket's level by its rate, up to its burst (R447). -/
def Bucket.refill (b : Bucket) (n : Nat := 1) : Bucket := { b with level := min (b.level + n * b.rate) (1000 * b.burst) }

/-- The shared bucket with the rate and burst of `EVR_SHARED` (R447). -/
def State.sharedBucket (s : State) : Bucket := { s.evr.shared with rate := s.get EVR_SHARED_RATE, burst := s.get EVR_SHARED_BURST }

/-- Every level rises for each multiple of 1,000 ticks that has come since it last rose, before a record of that tick is judged (R447). -/
def State.refillTurn (s : State) : State :=
  let n := s.tick / 1000 - s.evr.refilled
  if n = 0 then s
  else { s with evr := { s.evr with
    refilled := s.tick / 1000, buckets := s.evr.buckets.map (fun b => b.refill n), shared := s.sharedBucket.refill n } }

/-- A record of R440 made and queued in this tick. -/
def State.recordOwn (s : State) (e : Ev) (data : List Int) : State :=
  s.flushWaiting.admitOwn (s.recordOf { ev := e, obj := 0, data := data, tick := s.tick })

/-- One SUPPRESSED record of a bucket with a count, which restarts (R448). -/
def State.summarise (s : State) (i : Fin 256) : State :=
  let b := s.evr.buckets.get i
  if b.suppressed = 0 then s
  else
    let s := (s.recordOwn .suppressed [b.code, b.suppressed, b.firstTick % 2 ^ 32, i.val]).inc EVR_SUMMARIES_COUNT
    { s with evr := { s.evr with buckets := s.evr.buckets.set i { b with suppressed := 0 } } }

/-- The SUPPRESSED record of the shared bucket. -/
def State.summariseShared (s : State) : State :=
  let sh := s.evr.shared
  if sh.suppressed = 0 then s
  else
    let s := (s.recordOwn .suppressed [0xFFFF, sh.suppressed, sh.firstTick % 2 ^ 32, 0xFFFF]).inc EVR_SUMMARIES_COUNT
    { s with evr := { s.evr with shared := { s.evr.shared with suppressed := 0 } } }

/-- A window of R448 has ended: every bucket with a count queues its record, before a suppression of the tick that ends it, which belongs to
the next window (R453). -/
def State.windowTurn (s : State) : State :=
  if s.tick / 1000000 = s.evr.window then s
  else (({ s with evr := { s.evr with window := s.tick / 1000000 } }).each (List.finRange 256) (fun s i => s.summarise i)).summariseShared

/-- Admission by class and free places (R443, R444, R447). -/
def State.recordIn (s : State) (r : Rec) : State :=
  let s := s.refillTurn.windowTurn.flushWaiting
  if ownCode r.code then s.admitOwn r
  else if r.cls = 1 then s.admitAlarm r
  else if r.cls = 2 then
    if s.on EVR_CFG_TRACE_EN ∧ 1024 < s.freePlaces then s.enqueue r else s.dropRec 2
  else if 256 < s.freePlaces then s.limit r
  else s.dropRec 0

/-! ### Commands -/

/-- EVENT_RECORD (R443): the record made at place `i` of those waiting for admission, in the order R47 resolves, or a record the
policy layer makes, is admitted. A code reported as undefined is never recorded (R439). The record of a shelf state change holds the values
after its tick, so that it is not yet made in that tick (R19). -/
def execEventRecord (w : RecordFrom) (s : State) : Host.Outcome State Fault Refusal :=
  match w with
  | .made i =>
    if !s.evr.loaded then done s else
    (match s.made[i]? with
      | none => done s
      | some m =>
        if m.ev = .shelfState ∧ m.tick = s.tick then done s
        else done (({ s with made := s.made.eraseIdx i }).recordIn (s.recordOf m)))
  | .policy code payload cause =>
    if Config.codeDefined code.toNat then
      done (s.recordIn (s.record code.toNat (codeSev code.toNat) (codeClass code.toNat)
        ((payload ++ List.replicate 12 0).take 12) cause))
    else done s

/-- WAITING_RECORD_QUEUED (R623). -/
def execWaitingRecordQueued (s : State) : Host.Outcome State Fault Refusal := done s.flushWaiting

/-- LOSS_SUMMARY_QUEUED (R443): in the first tick in which more than 256 places are free after a drop. -/
def execLossSummaryQueued (s : State) : Host.Outcome State Fault Refusal :=
  let report (e : Ev) (d : Drops) (s : State) : State := s.recordOwn e [d.count, d.first % 2 ^ 32, d.last % 2 ^ 32]
  if 256 < s.freePlaces then
    let s := s.iff (0 < s.evr.dropTrace.count) (fun s =>
      let s' := report .traceGap s.evr.dropTrace s
      { s' with evr := { s'.evr with dropTrace := {} } })
    done (s.iff (0 < s.evr.dropEvent.count) (fun s =>
      let s' := report .eventLoss s.evr.dropEvent s
      { s' with evr := { s'.evr with dropEvent := {} } }))
  else done s

/-- Writes a record to its slot of the ring, word 0 last (R445). -/
def State.ringWrite (s : State) (r : Rec) : State :=
  let ws := toWords r.bytes
  let off := 0xE80000 + 32 * (r.seq % 32768)
  (s.nvmWrite (off + 4) (ws.drop 1)).nvmWrite off (ws.take 1)

/-- EVENT_DRAIN (R445): the oldest queued record is written to its slot; draining stalls while a Strata commit or a BAKE has the
port (R49). Records reach NVM from tick g on (R108). -/
def execEventDrain (s : State) : Host.Outcome State Fault Refusal :=
  match s.evr.queue with
  | [] => done s
  | r :: rest =>
    if s.boot.g.isNone then done s
    else if s.nvm.strata || s.nvm.bake.isSome then
      done { s with evr := { s.evr with stalledSince := some (s.evr.stalledSince.getD s.tick) } }
    else
      let stall := match s.evr.stalledSince with
        | none => s
        | some t => ((s.maxOf NVM_PORT_MAX_WAIT_US (s.tick - t)).set EVR_STALL_LAST_MS (min ((s.tick - t) / 1000) 65535)).maxOf
            EVR_STALL_MAX_MS ((s.tick - t) / 1000)
      let s := { stall with evr := { stall.evr with queue := rest, stalledSince := none } }
      done (((s.ringWrite r).set EVR_WRITTEN_SEQ r.seq).incWrap EVR_WRITE_CNT_COUNT |>.set EVR_QUEUE_FILL rest.length)

/-- BUCKET_REFILL (R447): at every tick that is a multiple of 1,000 each level rises by its rate, up to its burst. -/
def execBucketRefill (s : State) : Host.Outcome State Fault Refusal := done s.refillTurn

/-- SUPPRESSION_WINDOW_END (R448): in tick 1,000,000(k + 1) every bucket with a count queues its record. -/
def execSuppressionWindowEnd (s : State) : Host.Outcome State Fault Refusal := done s.windowTurn

/-- The limiter entry EVR_RL_SEL names. -/
def State.rlIndex (s : State) : Fin 256 := Fin.ofNat 256 (s.get EVR_RL_SEL_INDEX)

/-- The entry's bucket written with a word of EVR_RL_CFG; rate and burst outside 1 to 255 keep their value (R78). -/
def Bucket.write (b : Bucket) (w : Word) : Bucket :=
  let rate := if bitsOf w 16 8 = 0 then b.rate else bitsOf w 16 8
  let burst := if bitsOf w 24 8 = 0 then b.burst else bitsOf w 24 8
  { code := bitsOf w 0 16, rate := rate, burst := burst, level := 1000 * burst, suppressed := 0, firstTick := 0 }

/-- A limiter entry is written: suppressions counted are summarised at once (R453), and its level is set to full (R447). -/
def State.rlWrite (s : State) (r : Requester) (w : Word) : State :=
  s.ranked r EVR_RL_CFG_CODE.addr (fun s =>
    let i := s.rlIndex
    let s := s.storedChange.summarise i
    let s := { s with evr := { s.evr with buckets := s.evr.buckets.set i ((s.evr.buckets.get i).write w) } }
    let s := s.iff (bitsOf w 16 8 == 0) (fun s => s.event .fieldRefused 0 [EVR_RL_CFG_RATE.addr, EVR_RL_CFG_RATE.lo])
    s.iff (bitsOf w 24 8 == 0) (fun s => s.event .fieldRefused 0 [EVR_RL_CFG_BURST.addr, EVR_RL_CFG_BURST.lo]))

/-- RL_CFG_WRITE (R447). -/
def execRlCfgWrite (r : Requester) (w : Word) (s : State) : Host.Outcome State Fault Refusal :=
  done (s.gate r EVR_RL_CFG_CODE.addr (fun s => s.rlWrite r w))

/-- A read of EVR_HEAD latches EVR_TAIL and EVR_WRITTEN for its source (R449). -/
def State.headRead (s : State) (src : Src) : State :=
  ((s.set (latchField src EVR_TAIL_SEQ) (s.get EVR_TAIL_SEQ)).set (latchField src EVR_WRITTEN_SEQ) (s.get EVR_WRITTEN_SEQ)).reply
    [s.get EVR_HEAD_SEQ]

/-- EVR_HEAD_READ (R449). -/
def execEvrHeadRead (r : Requester) (s : State) : Host.Outcome State Fault Refusal :=
  done (s.gateRead r EVR_HEAD_SEQ.addr (fun s => s.headRead (s.srcOf r)))

/-- The clear of R451 for a source: applied in one step if the quoted sequence is the head, else refused. -/
def State.clearRecorder (s : State) (r : Requester) : State :=
  let q := s.get (srcField (s.srcOf r) EVR_CLEAR_SEQ_SEQ)
  if q = s.get EVR_HEAD_SEQ then
    let n : Nat := (q + 1 + 2 ^ 32 - s.get EVR_TAIL_SEQ) % 2 ^ 32
    let s' := { s with evr := { s.evr with queue := [] } }
    let s' := s'.set EVR_TAIL_SEQ (q + 1)
    let port := match s.srcOf r with | .eth0 => 1 | .eth1 => 2 | _ => 0
    let s' := s'.enqueue (s'.recordOf { ev := .cleared, obj := 0, data := [(q : Int), s.slotOf r, port, n], tick := s.tick })
    (s'.inc EVR_CLEAR_STAT_CLEARS).set EVR_CLEAR_LAST_SEQ (q + 1)
  else (s.inc EVR_CLEAR_STAT_REFUSED).recordOwn .clearRefused [q, s.get EVR_HEAD_SEQ]

/-- CLEAR (R451): from a Curator session; from any other role it is refused with ROLE. -/
def execClear (r : Requester) (s : State) : Host.Outcome State Fault Refusal :=
  done (s.gateRole r EVR_CMD_CLEAR.addr .curator (fun s => s.clearRecorder r))

/-- A record injected by the host (R455): code, severity and payload from 0x060 to 0x06C, class EVENT. -/
def State.inject (s : State) : State :=
  let payload := ((List.range 3).map (fun k => leBytes 4 (s.get EVR_INJ_DATA_DATA k))).flatten
  s.recordIn (s.record (s.get EVR_INJ_CODE_CODE) (s.get EVR_INJ_CODE_SEV) 0 payload s.tick)

/-- INJECT (R455): Conservator or Curator. -/
def execInject (r : Requester) (s : State) : Host.Outcome State Fault Refusal :=
  done (s.gateRole r EVR_CMD_INJECT.addr .conservator State.inject)

/-- TIME_SAVE (R441): every 10,000 ms the operating time is saved. -/
def execTimeSave (s : State) : Host.Outcome State Fault Refusal :=
  if s.tick % 10000000 = 0 then
    done (s.timeSave (s.get TB_PCYCLE_COUNT) (s.opTimeAt s.tick) s.boot.shipTime)
  else done s

end Sys2Proof.Machine
end

