-- ==== Sys2Proof/Machine/BlackBox.lean ====
section
/-! DEFINITION. The black box (file 17): the channels, the Topsoil and Subsoil coders, the rings, triggers, records, the
Strata commit, and the commands of the BBX page. -/

namespace Sys2Proof.Machine

/-! ### Channels (R415, R416) -/

/-- Samples of a channel in one block. -/
def chanSamples (c : Nat) : Nat := if c < 2 then 1000 else if c < 18 then 250 else 10

/-- Whether a channel is a bit field. -/
def chanDigital (c : Nat) : Bool := 92 ≤ c

/-- Encoding of a channel: 0 U16, 1 S16, 2 S12, 3 U14, 4 D16. -/
def chanEncoding (c : Nat) : Nat :=
  if c = 0 ∨ c = 18 ∨ c = 20 ∨ c = 21 ∨ c = 85 ∨ c = 87 then 0
  else if c = 1 ∨ c = 19 ∨ (22 ≤ c ∧ c ≤ 29) ∨ (81 ≤ c ∧ c ≤ 84) ∨ c = 86 ∨ (88 ≤ c ∧ c ≤ 91) then 1
  else if 2 ≤ c ∧ c ≤ 17 then 2
  else if 92 ≤ c then 4 else 3

/-- Lowest and highest code of an encoding. -/
def encRange : Nat → Int × Int
  | 0 => (0, 65535) | 1 => (-32768, 32767) | 2 => (-2048, 2047) | 3 => (0, 16383) | _ => (0, 65535)

/-- R416: a sample without a valid source repeats the previous one of the block, or 0; the flag says any did. -/
def fillSamples : Int → List (Option Int) → List Int × Bool
  | _, [] => ([], false)
  | last, none :: r => (last :: (fillSamples last r).1, true)
  | _, some x :: r => (x :: (fillSamples x r).1, (fillSamples x r).2)

/-! ### The coder (R418, R419, R423) -/

/-- The `n` low bits of `v`, most significant first. -/
def bitsMsb : Nat → Nat → List Bool
  | 0, _ => []
  | n + 1, v => v.testBit n :: bitsMsb n v

/-- Bits packed most significant first, padded with zeros to a whole byte. -/
def packBits : Nat → List Bool → List Byte
  | 0, _ => []
  | _, [] => []
  | n + 1, bs => BitVec.ofNat 8 (((bs.take 8 ++ List.replicate (8 - (bs.take 8).length) false).foldl
      (fun v b => 2 * v + (if b then 1 else 0)) 0)) :: packBits n (bs.drop 8)

/-- The 16-bit pattern of a value. -/
def put16 (x : Int) : List Bool := bitsMsb 16 (x % 65536).toNat

/-- Smallest k from `k` up to 17 with m * 2^k ≥ a. -/
def coderK (m a : Nat) : Nat → Nat → Nat
  | 0, k => k
  | n + 1, k => if a ≤ m * 2 ^ k then k else coderK m a n (k + 1)

/-- The body of the coder from sample 2 on; `x1`, `x0` are the last two decoded samples. -/
def coderBody (digital : Bool) (e : Nat) (lo hi : Int) : Int → Int → Nat → Nat → List Int → List Bool
  | _, _, _, _, [] => []
  | x1, x0, a, m, x :: r =>
    let p := if digital then x1 else clampI lo hi (2 * x1 - x0)
    let d := 2 * e + 1
    let res := x - p
    let q : Int := (if res < 0 then -1 else 1) * (((res.natAbs + e) / d : Nat) : Int)
    let xh := clampI lo hi (p + q * d)
    let z : Nat := if 0 ≤ q then (2 * q).toNat else (-2 * q - 1).toNat
    let k := coderK m a 17 0
    let out := if z / 2 ^ k < 24 then List.replicate (z / 2 ^ k) true ++ [false] ++ bitsMsb k z
      else List.replicate 24 true ++ bitsMsb 17 z
    let m' := m + 1
    out ++ (if m' = 64 then coderBody digital e lo hi xh x1 ((a + z) / 2) 32 r
      else coderBody digital e lo hi xh x1 (a + z) m' r)

/-- A coded segment (R418). -/
def codeSegment (digital : Bool) (e : Nat) (lo hi : Int) (xs : List Int) : List Byte :=
  let x0 := xs.getD 0 0
  let x1 := xs.getD 1 0
  let bs := put16 x0 ++ put16 x1 ++ coderBody digital (if digital then 0 else e) lo hi x1 x0 4 1 (xs.drop 2)
  packBits bs.length bs

/-- A raw segment: 16-bit values, little-endian (R419). -/
def rawSegment (xs : List Int) : List Byte := (xs.map (fun x => leBytes 2 (x % 65536).toNat)).flatten

/-- e of an `E` code (R418). -/
def eOf : Nat → Nat
  | 0 => 0 | 1 => 1 | 2 => 2 | 3 => 4 | _ => 8

/-- A channel's segment and whether it is raw (R419). -/
def topSegment (rawAll : Bool) (e c : Nat) (xs : List Int) : List Byte × Bool :=
  let r := encRange (chanEncoding c)
  let coded := codeSegment (chanDigital c) e r.1 r.2 xs
  if rawAll ∨ 2 * xs.length ≤ coded.length then (rawSegment xs, true) else (coded, false)

/-- RAW_ALL applies while the level is GREENWARE or `BBX_CFG.RAW` is 1 (R419). -/
def State.rawAll (s : State) : Bool := !s.full || s.on BBX_CFG_RAW

/-- E, FAST_HALF and RAW_ALL of the running block: a change takes effect at the next block start (R419, R434). -/
def State.boxForce (s : State) : Nat × Bool × Bool :=
  s.bbx.inForce.getD (s.get BBX_CFG_E, s.on BBX_CFG_FAST_HALF, s.rawAll)

/-- The next block begins: what is configured now is in force in it. -/
def State.boxLatch (s : State) : State :=
  { s with bbx := { s.bbx with
      inForce := some (s.get BBX_CFG_E, s.on BBX_CFG_FAST_HALF, s.rawAll)
      sel := (List.range 4).map (fun k => s.reg (BBX_SEL_SRC.at k)), lastSeq := s.bbx.nextLast } }

/-- The Topsoil block of R417 with start tick `start`, and how many of its segments are raw. -/
def topBlock (rawAll gap onCheck half : Bool) (eCode start lastSeq : Nat) (samples : List (List (Option Int))) :
    List Byte × Nat :=
  let filled := samples.map (fillSamples 0)
  let segs := filled.zipIdx.map (fun p => topSegment rawAll (eOf eCode) p.2 p.1.1)
  let body := (segs.map (fun p => p.1)).flatten
  let b (x : Bool) (n : Nat) : Nat := if x then n else 0
  let head := [0x54#8, 0x53#8] ++ leBytes 1 (eCode + b rawAll 8 + b gap 16 + b onCheck 32 + b half 64) ++
    leBytes 1 (if onCheck then 63 else 0) ++ leBytes 4 (48 + body.length) ++ leBytes 8 start ++
    leBytes 12 (maskOf ((segs.zipIdx.filter (fun p => p.1.2)).map (fun p => p.2))) ++
    leBytes 12 (maskOf ((filled.zipIdx.filter (fun p => p.1.2)).map (fun p => p.2))) ++
    leBytes 4 lastSeq
  (head ++ leBytes 4 (crc32c (head ++ body)).toNat ++ body, (segs.filter (fun p => p.2)).length)

/-! ### Envelopes and the Subsoil block (R422, R423) -/

/-- The envelope of a channel from its samples, the previous envelope where none is valid. -/
def envelopeOf (digital : Bool) (prev : Option Envelope) (xs : List (Option Int)) : Envelope :=
  match xs.filterMap id with
  | [] => { a := (prev.map (fun p => p.a)).getD 0, b := (prev.map (fun p => p.b)).getD 0, c := (prev.map (fun p => p.c)).getD 0, invalid := true }
  | v :: vs =>
    if digital then
      { a := (vs.foldl (fun m x => m &&& x.toNat) v.toNat : Nat), b := (vs.foldl (fun m x => m ||| x.toNat) v.toNat : Nat),
        c := (vs.getLast?).getD v, invalid := false }
    else { a := vs.foldl min v, b := vs.foldl max v,
           c := divHalfEven (vs.foldl (· + ·) v) (vs.length + 1), invalid := false }

/-- One series of 100 values: its mode byte and data (R423). -/
def subSeries (rawAll digital : Bool) (lo hi : Int) (xs : List Int) : List Byte :=
  let coded := codeSegment digital 0 lo hi xs
  if rawAll ∨ 200 ≤ coded.length then 0x01#8 :: rawSegment xs else 0x00#8 :: coded

/-- The Subsoil block of 100 envelopes of every channel. -/
def subBlock (rawAll gap onCheck : Bool) (start : Nat) (env : List (List Envelope)) : List Byte :=
  let chan (c : Nat) : List Envelope := env.map (fun l => l.getD c { a := 0, b := 0, c := 0, invalid := true })
  let body := ((List.range 96).map (fun c =>
    let r := encRange (chanEncoding c)
    let e := chan c
    subSeries rawAll (chanDigital c) r.1 r.2 (e.map (fun x => x.a)) ++
    subSeries rawAll (chanDigital c) r.1 r.2 (e.map (fun x => x.b)) ++
    subSeries rawAll (chanDigital c) r.1 r.2 (e.map (fun x => x.c)))).flatten
  let b (x : Bool) (n : Nat) : Nat := if x then n else 0
  let head := [0x53#8, 0x53#8] ++ leBytes 1 (b rawAll 1 + b gap 2 + b onCheck 4) ++ leBytes 1 0 ++
    leBytes 4 (32 + body.length) ++ leBytes 8 start ++
    leBytes 12 (maskOf ((List.range 96).filter (fun c => (chan c).any (fun e => e.invalid))))
  head ++ leBytes 4 (crc32c (head ++ body)).toNat ++ body

/-! ### Rings (R421, R427) -/

/-- The rings in the model's memory. -/
def topBase : Nat := 0x2000000
def subBase : Nat := 0x2400000
def topSize : Nat := 0x300000
def subSize : Nat := 0x100000

/-- Whether a block with offset and length overlaps the `len` bytes at `wp` of a ring of `size` bytes. -/
def ringOverlap (size wp len : Nat) (b : RingBlock) : Bool :=
  decide ((b.ofs + size - wp) % size < len) || decide ((wp + size - b.ofs) % size < b.len)

/-- Stores bytes in a ring from an offset, wrapping past its end. -/
def State.ringStore (s : State) (base size ofs : Nat) (bs : List Byte) : State :=
  (s.setBytes (base + ofs) (bs.take (size - ofs))).setBytes base (bs.drop (size - ofs))

/-- The Topsoil blocks a record covers, from kT − 200 to the end of its post window, that are not yet copied (R426). -/
def BoxRecord.holdsTop (r : BoxRecord) (start : Nat) : Bool :=
  decide (r.t / 1000 ≤ start / 1000 + 200) && decide (start ≤ r.endTop) && decide (r.nextTop ≤ start)

/-- The Subsoil blocks a record covers: from the one that holds T − SUB_SPAN_S to the one that holds T. -/
def BoxRecord.holdsSub (r : BoxRecord) (span start : Nat) : Bool :=
  decide ((r.t - span * 1000000) / 100000 ≤ start / 100000) && decide (start / 100000 ≤ r.t / 100000)

def State.protectedTop (s : State) (b : RingBlock) : Bool := s.bbx.recs.any (fun r => r.holdsTop b.start)

def State.protectedSub (s : State) (b : RingBlock) : Bool :=
  s.bbx.recs.any (fun r => r.holdsSub r.span b.start)

/-! ### Triggers (R424, R428) -/

/-- Sources 1 to 3 are always enabled, 4 to 20 by their bit (R424). -/
def State.triggerEnabled (s : State) (n : Nat) : Bool :=
  (1 ≤ n && n ≤ 3) || (4 ≤ n && n ≤ 20 && s.bitOn BBX_TRIG_EN_EN (n - 4))

/-- A scale of `n / d` R4 LSBs per recorded LSB, already times 2^16, rounded half to even. -/
def scaleOf (n d : Nat) : Nat := (divHalfEven n (max 1 d)).toNat % 2 ^ 32

/-- R4 LSBs (100 µV or 1 mA) per recorded LSB of a channel, unsigned 16.16, or 0 for digital channels (R430): by the ranges of R116 at the
ball, the LSBs of R415 and the scales in force (log entry 27). -/
def State.chanScale (s : State) (c : Nat) : Nat :=
  let halfB := s.boxForce.2.1 != (c == 18 || c == 19)
  if c = 0 ∨ c = 18 then scaleOf (12500 * s.get (if halfB then AFE_VB_SCALE_RATIO else AFE_VA_SCALE_RATIO)) 65536
  else if c = 1 ∨ c = 19 then scaleOf 500000000 (s.get (if halfB then AFE_IB_SCALE_TRANS_R else AFE_IA_SCALE_TRANS_R))
  else if c < 18 then scaleOf 9600000000 (s.get AFE_PH_SCALE_TRANS_R)
  else if c = 20 then scaleOf (12500 * s.get AFE_VA_SCALE_RATIO) 65536
  else if c = 21 then scaleOf (12500 * s.get AFE_VB_SCALE_RATIO) 65536
  else if c < 30 then 16 * 65536
  else if c < 38 then scaleOf (50000 * s.get BAT_STR_VSCALE_RATIO (c - 30)) 65536
  else if c < 62 then scaleOf (50000 * s.get RMN_RAIL_CFG_DIV (c - 38)) 16
  else if c < 70 then scaleOf 5000000000 (s.get EFU_CH_SCALE_ISNS_G (c - 62))
  else if c < 78 then scaleOf (50000 * s.get EFU_MISC_VOUT_RATIO) 256
  else if c < 80 then 50000
  else if c = 80 then 4 * 50000
  else if c < 85 then 256 * 65536
  else if c = 85 then 10 * 65536
  else if c = 86 then 8000 * 65536
  else if c = 87 then 65536
  else if c < 92 then 65536 * 2 ^ (s.get BBX_SEL_SHIFT (c - 88))
  else 0

/-- Descriptor c of R430. -/
def State.descriptor (s : State) (c : Nat) : List Byte :=
  leBytes 1 (chanEncoding c) ++ leBytes 1 (if c < 2 then 0 else if c < 18 then 1 else 2) ++
  leBytes 1 (if 88 ≤ c ∧ c ≤ 91 then s.get BBX_SEL_SRC (c - 88) else 0) ++ leBytes 1 0 ++ leBytes 4 (s.chanScale c)

/-- The directory slot for a new record: an empty one. -/
def State.freeSlot (s : State) : Option (Fin 16) := (List.finRange 16).find? (fun r => (s.bbx.dir.get r).state == 0)

/-- A data sector no entry and no open record holds (sectors 1 to 71 of Strata). -/
def State.freeSector (s : State) : Option Nat :=
  ((List.range 71).map (· + 1)).find? (fun x =>
    (List.finRange 16).all (fun r => !((s.bbx.dir.get r).sectors.contains x)) && s.bbx.recs.all (fun r => !(r.sectors.contains x)))

/-- The closed unpinned record with the lowest sequence number (R429). -/
def State.evictable (s : State) : Option (Fin 16) :=
  ((List.finRange 16).filter (fun r => 2 ≤ (s.bbx.dir.get r).state && !(s.bbx.dir.get r).pinned)).foldl
    (fun best r => match best with
      | none => some r
      | some b => if (s.bbx.dir.get r).seq < (s.bbx.dir.get b).seq then some r else some b) none

/-- Empties an entry and frees its sectors. -/
def State.emptyEntry (s : State) (r : Fin 16) : State :=
  { s with bbx := { s.bbx with dir := s.bbx.dir.set r {} } }

/-- A record's flags as its directory entry and header hold them: TRUNCATED, SHORT_PRE, SHORT_POST, GAP. -/
def BoxRecord.flags (r : BoxRecord) : Nat :=
  (if r.truncated then 1 else 0) + (if r.shortPre then 2 else 0) + (if r.post < 50 then 4 else 0) + (if r.gap then 8 else 0)

/-- The header of R430 with state code `st` and part lengths. -/
def State.boxHeader (s : State) (r : BoxRecord) (st topLen subLen : Nat) : List Byte :=
  let head := [0x42#8, 0x42#8, 0x58#8, 0x52#8] ++ leBytes 2 1 ++ leBytes 1 st ++
    leBytes 1 (r.flags + (if r.raw then 16 else 0) + 32 * (s.unitRole % 3)) ++ leBytes 4 r.seq ++ leBytes 3 r.pcycle ++
    leBytes 1 r.fine ++ leBytes 6 r.opTime ++ leBytes 1 r.eCode ++ leBytes 1 r.trigs.length ++ leBytes 8 r.t ++
    leBytes 2 r.pre ++ leBytes 2 r.post ++ leBytes 4 topLen ++ leBytes 4 subLen ++ leBytes 2 r.subBlocks ++
    leBytes 2 (min r.extra 65535) ++ leBytes 4 r.lastEvent ++ leBytes 4 r.lost ++ leBytes 4 0
  let trig (i : Nat) : List Byte := match r.trigs[i]? with
    | none => leBytes 8 0
    | some t => leBytes 1 t.1 ++ leBytes 1 t.2.1 ++ leBytes 2 0 ++ leBytes 4 (ofSigned 32 ((t.2.2 : Int) - r.t))
  let tail := ((List.range 8).map trig).flatten
  head ++ leBytes 4 (crc32c (head ++ tail)).toNat ++ tail

/-- The NVM offset of byte `n` of a record, from the data sectors it took. -/
def sectorOffset (sectors : List Nat) (n : Nat) : Nat := 0xA00000 + 0x10000 * sectors.getD (n / 0x10000) 0 + n % 0x10000

/-- Takes sectors until the record has room for `need` bytes, evicting where none is free (R429); where nothing can be evicted the
record stays as it is. -/
def State.takeSectors (s : State) : Nat → BoxRecord → Nat → State × BoxRecord
  | 0, r, _ => (s, r)
  | n + 1, r, need =>
    if need ≤ r.sectors.length * 0x10000 then (s, r)
    else match s.freeSector with
      | some x =>
        let r : BoxRecord := { r with sectors := r.sectors ++ [x] }
        let s := { s with bbx := { s.bbx with recs := s.bbx.recs.map (fun (q : BoxRecord) => if q.seq = r.seq then r else q) } }
        s.takeSectors n r need
      | none =>
        match s.evictable with
        | some e => (s.emptyEntry e).takeSectors (n) r need
        | none => (s, r)

/-- The words of `n` bytes of a record from byte `from_` have each been written once more (R542, R549). -/
def State.strataWear (s : State) (sectors : List Nat) (from_ n : Nat) : State :=
  let s := s.each (List.range ((n + 3) / 4)) (fun s i =>
    let w := sectorOffset sectors (from_ + 4 * i) / 4
    { s with nvm := { s.nvm with wear := put (fun _ => 0) s.nvm.wear w (look (fun _ => 0) s.nvm.wear w + 1) } })
  s.set NVM_WRITES_WORDS (s.get NVM_WRITES_WORDS + (n + 3) / 4)

/-- Writes bytes of a record at its cursor, as far as its sectors go; what has no room is lost (R429). -/
def State.strataAppend (s : State) (r : BoxRecord) (bs : List Byte) : State × BoxRecord :=
  let p := s.takeSectors 160 r (r.cursor + bs.length)
  let s := p.1
  let r := p.2
  let room := r.sectors.length * 0x10000 - r.cursor
  let fit := if r.truncated then [] else bs.take room
  let s := (fit.zipIdx).foldl (fun s q => s.setByte (nvmBase + sectorOffset r.sectors (r.cursor + q.2)) q.1) s
  let s := s.strataWear r.sectors r.cursor fit.length
  (s, { r with cursor := r.cursor + fit.length, truncated := r.truncated || decide (fit.length < bs.length),
               lost := r.lost + (bs.length - fit.length) })

/-- Overwrites the first 128 bytes of a record with its header. -/
def State.strataHeader (s : State) (r : BoxRecord) (bs : List Byte) : State :=
  if r.sectors.isEmpty then s
  else ((bs.zipIdx).foldl (fun s q => s.setByte (nvmBase + sectorOffset r.sectors q.2) q.1) s).strataWear r.sectors 0 bs.length

/-- Puts an open record back in its place, and its sectors and first source in its WRITING entry. -/
def State.putRec (s : State) (r : BoxRecord) : State :=
  let s := { s with bbx := { s.bbx with recs := s.bbx.recs.map (fun q => if q.seq = r.seq then r else q) } }
  if h : r.slot < 16 then
    if s.bbx.dir[r.slot].state = 1 then
      { s with bbx := { s.bbx with dir := s.bbx.dir.set r.slot { s.bbx.dir[r.slot] with
          sectors := r.sectors, source := (r.trigs.headD (0, 0, 0)).1, len := r.cursor } } }
    else s
  else s

/-- A commit begins: the header with both part lengths 0xFFFF_FFFF, then the descriptor table (R429); a 17th record evicts. -/
def State.commitStart (s : State) (r : BoxRecord) : State :=
  let s := s.iff s.freeSlot.isNone (fun s => match s.evictable with
    | some e => s.emptyEntry e
    | none => s)
  let slot := (s.freeSlot.map (fun f => f.val)).getD 16
  let r := { r with started := some s.tick, slot := slot, truncated := r.truncated || decide (slot = 16) }
  let s := (s.putRec r)
  let s := { s with nvm := { s.nvm with strata := true } }
  let p := s.strataAppend r (s.boxHeader r 1 0xFFFFFFFF 0xFFFFFFFF)
  let p := p.1.strataAppend p.2 r.desc
  let s := p.1.putRec p.2
  match s.freeSlot with
  | none => s
  | some f =>
    let e : DirEntry :=
      { state := 1, source := (r.trigs.headD (0, 0, 0)).1, seq := r.seq, t := r.t, sectors := p.2.sectors }
    { s with bbx := { s.bbx with dir := s.bbx.dir.set f e } }

/-- Opens a record at a trigger (R426, R428). -/
def State.openRecord (s : State) (src fine t : Nat) : State :=
  let kT := t / 1000
  let held := (s.bbx.top.blocks.filter (fun b => decide (kT ≤ b.start / 1000 + 200) && decide (b.start / 1000 < kT))).length
  let r : BoxRecord :=
    { t := t, fine := fine, seq := s.bbx.nextSeq, slot := 16, eCode := s.boxForce.1, trigs := [(src, fine, t)], extra := 0,
      shortPre := !s.bbx.recs.isEmpty && decide (held < min 200 (kT - (s.boot.g.getD 0) / 1000)), window := true, endTop := 1000 * (kT + 50), post := 0, pre := held, gap := false, raw := false,
      truncated := false, lost := 0, started := none, cursor := 0, sectors := [], nextTop := 1000 * (kT - 200), topLen := 0,
      subLen := 0, subBlocks := 0, lastEvent := s.get EVR_HEAD_SEQ, pcycle := s.get TB_PCYCLE_COUNT, opTime := s.opTimeAt t,
      desc := ((List.range 96).map s.descriptor).flatten, span := s.get BBX_CFG_SUB_SPAN_S }
  let first := s.bbx.recs.isEmpty
  let s := { s with bbx := { s.bbx with recs := s.bbx.recs ++ [r], nextSeq := s.bbx.nextSeq + 1 } }
  s.iff first (fun s => s.commitStart r)

/-- Lists a trigger: those of one tick in ascending source code (R434). -/
def insertTrigger (x : Nat × Nat × Nat) : List (Nat × Nat × Nat) → List (Nat × Nat × Nat)
  | [] => [x]
  | y :: l => if y.2.2 = x.2.2 ∧ x.1 < y.1 then x :: y :: l else y :: insertTrigger x l

/-- A record with one more trigger: listed if it is among the first 8, else counted (R428). -/
def BoxRecord.addTrigger (r : BoxRecord) (src fine t : Nat) : BoxRecord :=
  let l := insertTrigger (src, fine, t) r.trigs
  { r with trigs := l.take 8, extra := r.extra + (l.length - 8) }

/-- A trigger joins a record (R428). -/
def State.joinRecord (s : State) (r : BoxRecord) (src fine t : Nat) : State :=
  if r.t = t then s.putRec (r.addTrigger src fine t)
  else (((s.putRec (r.addTrigger src fine t)).inc BBX_CNT2_JOINS).set BBX_TRIG_LAST_JOINED 1).event .triggerJoined 0 [src, t]

/-- Closes the post window of every open record that `p` names. -/
def State.closeWindows (s : State) (p : BoxRecord → Bool) : State :=
  { s with bbx := { s.bbx with recs := s.bbx.recs.map (fun r => if p r then { r with window := false } else r) } }

/-- Closes the post windows whose end 1,000(kT + 51) has come (R426, R434). -/
def State.windowsEnd (s : State) : State := s.closeWindows (fun r => decide (1000 * (r.t / 1000 + 51) ≤ s.tick))

/-- A trigger of source `src` at tick `t` (R424, R428, R434). -/
def State.triggerAt (s : State) (src fine t : Nat) : State :=
  let s := (s.inc BBX_CNT_TRIGGERS).windowsEnd
  if !s.triggerEnabled src || !s.on BBX_CTRL_EN || s.boot.g.isNone then s
  else
    let s := (((s.set BBX_TRIG_LAST_SOURCE src).set BBX_TRIG_LAST_FINE fine).set BBX_TRIG_LAST_JOINED 0).set BBX_TRIG_TICK_TICK t
    match s.bbx.recs with
    | [] => s.openRecord src fine t
    | [r] => if r.window then s.joinRecord r src fine t else s.openRecord src fine t
    | _ :: r :: _ => s.joinRecord r src fine t

/-- A trigger whose cause is in this tick, at a fine unit the time base resolves (R35). -/
def State.trigger (s : State) (src : Nat) : State :=
  let p := s.fineDraw
  p.2.triggerAt src p.1 s.tick

/-! ### Blocks -/

/-- Writes a Topsoil block, or drops it where it would overwrite a protected block (R421, R427). -/
def State.writeTop (s : State) (start : Nat) (bs : List Byte) (gap raw : Bool) : State :=
  let rg := s.bbx.top
  if rg.blocks.any (fun b => ringOverlap topSize rg.wp bs.length b && s.protectedTop b) then
    let win := start / 1000000
    let s := s.iff (s.bbx.dropTopWin != some win) (fun s => s.event .blockDropped 0 [0, start])
    let s := ((s.inc BBX_DROP_TOP).set BBX_GAP_TICK_TICK start)
    let s := { s with bbx := { s.bbx with dropTopWin := some win, top := { rg with gapNext := true } } }
    { s with bbx := { s.bbx with recs := s.bbx.recs.map (fun r =>
        if r.window ∧ r.t < start + 1000 then { r with window := false, endTop := start - 1 } else r) } }
  else
    let s := s.ringStore topBase topSize rg.wp bs
    let keep := rg.blocks.filter (fun b => !ringOverlap topSize rg.wp bs.length b)
    let blk : RingBlock := { start := start, ofs := rg.wp, len := bs.length, gap := gap, raw := raw }
    { s with bbx := { s.bbx with
        top := { blocks := keep ++ [blk], wp := (rg.wp + bs.length) % topSize, gapNext := false }
        recs := s.bbx.recs.map (fun r => if r.t / 1000 < start / 1000 ∧ start ≤ r.endTop then { r with post := r.post + 1 } else r) } }

/-- Writes a Subsoil block, or drops it (R423, R427). -/
def State.writeSub (s : State) (start : Nat) (bs : List Byte) (gap raw : Bool) : State :=
  let rg := s.bbx.sub
  if rg.blocks.any (fun b => ringOverlap subSize rg.wp bs.length b && s.protectedSub b) then
    let win := start / 100000000
    let s := s.iff (s.bbx.dropSubWin != some win) (fun s => s.event .blockDropped 0 [1, start])
    { (s.inc BBX_DROP_SUB) with bbx := { s.bbx with dropSubWin := some win, sub := { rg with gapNext := true } } }
  else
    let s := s.ringStore subBase subSize rg.wp bs
    let keep := rg.blocks.filter (fun b => !ringOverlap subSize rg.wp bs.length b)
    let blk : RingBlock := { start := start, ofs := rg.wp, len := bs.length, gap := gap, raw := raw }
    { s with bbx := { s.bbx with sub := { blocks := keep ++ [blk], wp := (rg.wp + bs.length) % subSize, gapNext := false } } }

/-- The bytes of a ring block. -/
def State.ringBytes (s : State) (base size : Nat) (b : RingBlock) : List Byte :=
  (List.range b.len).map (fun i => s.byte (base + (b.ofs + i) % size))

/-- The commit copies its next Topsoil block, which is then free again (R429). -/
def State.copyTop (s : State) : State :=
  match s.bbx.recs with
  | [] => s
  | r :: _ =>
    match s.bbx.top.blocks.find? (fun b => r.holdsTop b.start) with
    | none => s
    | some b =>
      let p := s.strataAppend r (s.ringBytes topBase topSize b)
      p.1.putRec { p.2 with nextTop := b.start + 1000, topLen := r.topLen + (p.2.cursor - r.cursor), gap := r.gap || b.gap, raw := r.raw || b.raw }

/-- Copies up to `n` Topsoil blocks. -/
def State.copyTops (s : State) : Nat → State
  | 0 => s
  | n + 1 => s.copyTop.copyTops n

/-- One sample of a level trigger (R425): the trigger after it, and whether it fires. -/
def LevelTrigger.sample (l : LevelTrigger) (mode qual : Nat) (thr hyst : Int) (x : Option Int) : LevelTrigger × Bool :=
  match x with
  | none => ({ l with run := 0 }, false)
  | some v =>
    let hit := if mode = 1 then decide (thr ≤ v) else decide (v ≤ thr)
    let rearm := if mode = 1 then decide (v < thr - hyst) else decide (thr + hyst < v)
    let run := if hit then l.run + 1 else 0
    if l.armed && hit && decide (qual ≤ run) then ({ run := run, armed := false }, true)
    else ({ run := run, armed := l.armed || rearm }, false)


/-- `THR` and `HYST` read as 16-bit values of the channel's encoding (R425). -/
def levelValue (c v : Nat) : Int :=
  if chanEncoding c = 1 ∨ chanEncoding c = 2 then toSigned 16 v else (v : Int)


/-- The envelopes of a block (R422), each channel's previous envelope standing in where no sample is valid. -/
def State.envelopes (s : State) (samples : List (List (Option Int))) : List Envelope :=
  (samples.zipIdx).map (fun p => envelopeOf (chanDigital p.2) (s.bbx.lastEnv[p.2]?) p.1)

/-- The envelopes of `n` Topsoil blocks of a Subsoil block that were never recorded: no channel had a valid sample (R422). -/
def State.envPad (s : State) (n : Nat) : List (List Envelope) := List.replicate n (s.envelopes (List.replicate 96 []))

/-- The samples of the block that has run, in order; those of the ticks before recording began have no source (R416). -/
def State.boxSamples (s : State) : List (List (Option Int)) :=
  (List.range 96).map (fun c =>
    let l := (s.bbx.cur.getD c []).reverse
    List.replicate (chanSamples c - l.length) none ++ l)

/-- The Topsoil block of the 1,000 ticks that end now, and their envelope for the Subsoil (R421, R422). -/
def State.topsoilOut (s : State) : State :=
  let start := s.tick - 1000
  let raw := s.boxForce.2.2
  let samples := s.boxSamples
  let s := { s with bbx := { s.bbx with cur := [] } }
  let blk := topBlock raw s.bbx.top.gapNext s.tb.onCheck s.boxForce.2.1 s.boxForce.1 start s.bbx.lastSeq samples
  let env := s.envelopes samples
  let rawLen := 48 + 2 * (samples.map List.length).sum
  let s := s.writeTop start blk.1 s.bbx.top.gapNext raw
  let s := { s with bbx := { s.bbx with sizes := ((rawLen, blk.1.length) :: s.bbx.sizes).take 1000 } }
  let sums := s.bbx.sizes.foldl (fun (a : Nat × Nat) p => (a.1 + p.1, a.2 + p.2)) (0, 0)
  let s := (s.set BBX_RATIO_RATIO (min (256 * sums.1 / max 1 sums.2) 65535)).set BBX_RATIO_RAW_SEGS blk.2
  let pad := s.envPad (start / 1000 % 100 - s.bbx.env.length)
  { s with bbx := { s.bbx with env := s.bbx.env ++ pad ++ [env], lastEnv := env } }

/-- The Subsoil block of the 100 envelopes that end now (R423). -/
def State.subsoilOut (s : State) : State :=
  let raw := s.boxForce.2.2
  let b := subBlock raw s.bbx.sub.gapNext s.tb.onCheck (s.tick - 100000) s.bbx.env
  let s := s.writeSub (s.tick - 100000) b s.bbx.sub.gapNext raw
  { s with bbx := { s.bbx with env := [] } }

/-- BLACK_BOX_BLOCK (R421): at tick 1,000(k + 1) the Topsoil block k is written or dropped, and every 100th time the Subsoil block, from the
samples taken tick by tick (`State.boxTick`); `copied` is how many blocks the running commit has copied since the last block (R429). -/
def execBlackBoxBlock (_ _ : Unit) (copied : Nat) (s : State) : Host.Outcome State Fault Refusal :=
  let s := s.copyTops copied
  if s.tick % 1000 ≠ 0 ∨ s.tick = 0 ∨ s.boot.g.isNone then done s
  else if !s.on BBX_CTRL_EN ∨ s.bbx.cur.isEmpty then
    done (s.iff (s.tick % 100000 = 0) (fun s => { s with bbx := { s.bbx with env := [] } }))
  else done (s.topsoilOut.iff (s.tick % 100000 = 0) State.subsoilOut)

/-- BLACK_BOX_TRIGGER (R428): a trigger of a source of R424, with its fine stamp. -/
def execBlackBoxTrigger (src : Fin 32) (fine : Fin 64) (s : State) : Host.Outcome State Fault Refusal :=
  done (s.triggerAt src.val (s.fineOf fine.val) s.tick)

/-- BBX_TRIGGER_CMD (R424): a BBX_CMD.TRIGGER write raises source 1. -/
def execBbxTriggerCmd (r : Requester) (s : State) : Host.Outcome State Fault Refusal :=
  done (s.gate r BBX_CMD_TRIGGER.addr (fun s => s.trigger 1))

/-- PIN of a record (R432): refused, with an event, with 4 pinned already or in any state but COMPLETE and INCOMPLETE. -/
def State.pin (s : State) (k : Fin 16) : State :=
  let e := s.bbx.dir.get k
  let pinned := ((List.finRange 16).filter (fun r => (s.bbx.dir.get r).pinned)).length
  if e.pinned then s
  else if 2 ≤ e.state ∧ pinned < 4 then { s with bbx := { s.bbx with dir := s.bbx.dir.set k { e with pinned := true } } }
  else s.event .pinRefused 0 [k.val]

def State.unpin (s : State) (k : Fin 16) : State :=
  { s with bbx := { s.bbx with dir := s.bbx.dir.set k { s.bbx.dir.get k with pinned := false } } }

/-- DELETE of a closed record, pinned or not (R432); refused with an event in WRITING (R434). -/
def State.deleteRecord (s : State) (k : Fin 16) : State :=
  if (s.bbx.dir.get k).state = 1 then s.event .deleteRefused 0 [k.val] else s.emptyEntry k

def execPin (r : Requester) (k : Fin 16) (s : State) : Host.Outcome State Fault Refusal :=
  done (s.gate r BBX_CMD_PIN.addr (fun s => s.pin k))

def execUnpin (r : Requester) (k : Fin 16) (s : State) : Host.Outcome State Fault Refusal :=
  done (s.gate r BBX_CMD_UNPIN.addr (fun s => s.unpin k))

/-- DELETE (R432): Curator only. -/
def execDelete (r : Requester) (k : Fin 16) (s : State) : Host.Outcome State Fault Refusal :=
  done (s.gateRole r BBX_CMD_DELETE.addr .curator (fun s => s.deleteRecord k))

/-- POST_WINDOW_CLOSE (R426): the post windows whose end 1,000(kT + 51) has come close. -/
def execPostWindowClose (s : State) : Host.Outcome State Fault Refusal :=
  done s.windowsEnd

/-- The Subsoil part of a record: the newest whole blocks of its span totalling at most 786,432 bytes (R426). -/
def State.subPart (s : State) (r : BoxRecord) : List RingBlock :=
  ((s.bbx.sub.blocks.filter (fun b => r.holdsSub r.span b.start)).foldr
    (fun b acc => if acc.1 + b.len ≤ 786432 ∧ acc.2.2 then (acc.1 + b.len, b :: acc.2.1, true) else (acc.1, acc.2.1, false))
    (0, [], true)).2.1

/-- The commit of the first open record completes: what is left of both parts, the final header and the directory entry (R429);
then the second record's commit begins (R428). -/
def State.commitComplete (s : State) (r : BoxRecord) : State :=
  let sub := s.subPart r
  let p := sub.foldl (fun p b => p.1.strataAppend p.2 (p.1.ringBytes subBase subSize b)) (s, r)
  let r := { p.2 with subLen := p.2.cursor - r.cursor, subBlocks := sub.length }
  let s := p.1.strataHeader r (p.1.boxHeader r 2 r.topLen r.subLen)
  let ms := (s.tick - r.started.getD s.tick) / 1000
  let s := ((s.inc BBX_CNT_RECORDS).set BBX_COMMIT_TIME_LAST (min ms 65535)).maxOf BBX_COMMIT_TIME_MAX ms
  let s := s.iff r.truncated (fun s => (s.inc BBX_CNT2_TRUNCS).event .recordTruncated 0 [r.seq, r.lost])
  let entry : DirEntry :=
    { state := 2, flags := r.flags, source := (r.trigs.headD (0, 0, 0)).1, seq := r.seq, t := r.t,
      len := r.cursor, sectors := r.sectors }
  let s := if h : r.slot < 16 then { s with bbx := { s.bbx with dir := s.bbx.dir.set r.slot entry } } else s
  let rest := s.bbx.recs.drop 1
  let s := { s with bbx := { s.bbx with recs := rest, lastTruncated := r.truncated }, nvm := { s.nvm with strata := false } }
  match rest with
  | [] => s
  | q :: _ => s.commitStart q

/-- STRATA_COMMIT_COMPLETE (R429): once the post window has closed and the Subsoil block that holds T is complete. -/
def execStrataCommitComplete (s : State) : Host.Outcome State Fault Refusal :=
  match s.bbx.recs with
  | [] => done s
  | r :: _ =>
    if r.window ∨ (s.tick < 100000 * (r.t / 100000 + 1) ∧ s.power ≠ .ship) then done s
    else
      let s := s.copyTops 251
      (match s.bbx.recs with
        | [] => done s
        | r :: _ => done (s.commitComplete r))

end Sys2Proof.Machine
end

