-- ==== Sys2Proof/Machine/Shelf.lean ====
section
/-! DEFINITION. The shelf state (R18 to R27) and the guarantee (R575 to R577): both are functions of what the blocks hold, and
`State.settle` brings their registers, the count of changes and the events up to date at the end of a command. -/

namespace Sys2Proof.Machine

/-! ### Pair, and detections -/

/-- A unit strapped 0b00, or whose HLK_CTRL.EN is 0, is SOLO (R459). -/
def State.solo (s : State) : Bool := s.unitRole == 0 || (s.unitRole != 3 && !s.on HLK_CTRL_EN)

/-- Whether the partner unit is configured and not lost. -/
def State.partnerAlive (s : State) : Bool := !s.solo && !s.on HLK_STAT_PARTNER_LOST

/-- Counts a detection of fault class `c` and records its ALARM (R575, R586). -/
def State.detect (s : State) (c lat : Nat) (obj : Nat := 0) : State :=
  (((s.inc SAF_CLASS_CNT_COUNT c).set SAF_CLASS_CNT_LAST_LAT lat c).stamp SAF_CLASS_TICK_TICK c).event .classFault obj [c, lat]

/-- A double-bit error in SRAM word `w` of region `rg` (R580): counted, held, and a detection of class 1. -/
def State.sramDouble (s : State) (w rg : Nat) : State :=
  let s := (s.inc BKG_SRAM_ECC_DED).set BKG_SRAM_ECC_ADDR_WORD w
  ((s.set BKG_SRAM_ECC_ADDR_REGION rg).setB BKG_SRAM_ECC_ADDR_VALID true).detect 1 0

/-! ### DEG_REASON (R27) -/

/-- A configured string is open for cause 2, 6, 7 or 8 (R297). -/
def State.stringOut (s : State) : Bool :=
  (List.range 8).any (fun n => s.bitOn BAT_CFG_STR_EN n && [2, 6, 7, 8].contains (s.get BAT_STR_STAT_OPEN_CAUSE n))

/-- A phase group is in FAULT_WAIT or FAULT (R217). -/
def State.phaseOut (s : State) : Bool := (List.range 2).any (fun g => 3 ≤ s.get CNV_GRP_STAT_STATE g)

/-- The causes of DEGRADED, bit by bit (R27). -/
def State.degBits (s : State) : List Bool :=
  [!s.solo && s.on HLK_STAT_PARTNER_LOST,
   !s.solo && s.on HLK_STAT_REGISTRAR_LOST,
   s.on SHR_STAT_REDUNDANCY_SHORT,
   s.stringOut,
   s.phaseOut,
   (List.range 8).any (fun n => s.get EFU_CH_STAT_STATE n == 5),
   s.get AFE_XCHK_STAT_EXCL_A != 0 || s.get AFE_XCHK_STAT_EXCL_B != 0 || s.tb.onCheck,
   (List.range 6).any (fun g => 2 ≤ s.get THM_GRP_STAT_LEVEL g),
   s.get WDG_STATE_STATE == 3,
   s.on CCK_STAT_REF_VALID && s.get CCK_MIS_MASK_MIS != 0,
   s.afe.calInvalid]

def State.degReason (s : State) : Nat := maskOf ((s.degBits.zipIdx.filter (fun p => p.1)).map (fun p => p.2))

/-- `SYS_SHELF` without CHG_COUNT, from what the blocks hold (R18, R26). -/
def State.shelfWord (s : State) : Nat :=
  s.power.code + (if s.full then 8 else 0) + (if s.get CAP_LEVEL_L != 0 then 16 else 0) +
    (if s.degReason != 0 then 32 else 0) + 256 * s.degReason

/-- The state-change event of this tick, where one is made (R19). -/
def State.shelfMade (s : State) (m : Made) : Bool := m.ev == .shelfState && m.tick == s.tick

/-- One state-change event a tick, with the values of SYS_SHELF before the tick and after it (R19): a further change in the tick replaces
the new value. -/
def State.shelfEvent (s : State) (old new : Nat) : State :=
  if s.made.any s.shelfMade then
    { s with made := s.made.map (fun x => if s.shelfMade x then { x with data := [(old : Int), (new : Int)] } else x) }
  else if old % 64 = new % 64 then s
  else s.event .shelfState 0 [(old : Int), new]

/-- SYS_SHELF as it stood before this tick. -/
def State.shelfBefore (s : State) : Nat := if s.shelfTick = some s.tick then s.shelfOld else (s.reg SYS_SHELF_POWER.addr).toNat

/-- Brings SYS_SHELF up to date: CHG_COUNT counts a tick in which another field changes (R18), and a change of POWER, LEVEL, CAPPED or
DEGRADED is recorded (R19). A field that changes and returns within a tick has changed in that tick (log entry 61). -/
def State.settleShelf (s : State) : State :=
  let new := s.shelfWord
  if (s.reg SYS_SHELF_POWER.addr).toNat % 2 ^ 24 = new then s
  else
    let old := s.shelfBefore
    let word := new + (old / 2 ^ 24 + 1) % 256 * 2 ^ 24
    let s := s.setReg SYS_SHELF_POWER.addr (BitVec.ofNat 32 word)
    ({ s with shelfTick := some s.tick, shelfOld := old }).shelfEvent old word

/-! ### Conditions that hold for a time -/

/-- Keeps a start while a condition holds. -/
def sinceIf (c : Bool) (old : Option Nat) (t : Nat) : Option Nat := if c then some (old.getD t) else none

/-- A condition has held for `n` ticks. -/
def State.lasted (s : State) (since : Option Nat) (n : Nat) : Bool :=
  match since with
  | some t => decide (t + n ≤ s.tick)
  | none => false

/-! ### The guarantee (R576, R577) -/

/-- A die sensor is valid and reads from −40 °C to +125 °C. -/
def State.dieOk (s : State) (k : Nat) : Bool :=
  s.valid THM_TEMP_T (12 + k) && decide (-2560 ≤ s.getI THM_TEMP_T (12 + k) ∧ s.getI THM_TEMP_T (12 + k) ≤ 8000)

/-- A lane is retired, also while it is under test (R162, R176). -/
def State.laneRetired (s : State) : Bool := (List.range 5).any (fun k => 2 ≤ s.get LPE_LANE_ROLE k)

/-- The conditions of R576. -/
def State.safCond (s : State) : List Bool :=
  [s.get SYS_SUPPLY_STAT_GOOD % 32 == 31,
   (List.range 8).all s.dieOk,
   s.on CCK_CTRL_EN && s.on CCK_STAT_REF_VALID,
   s.on BKG_SIEVE_CFG_EN && s.on BKG_SIEVE_CFG_NVM_EN && !s.on BKG_STAT_SIEVE_LATE,
   s.on LPE_PAIR_CTRL_PAIR_EN,
   s.solo || (!s.on HLK_STAT_PARTNER_LOST && !s.on HLK_STAT_REGISTRAR_LOST)]

/-- What each class requires itself (R577; log entry 13). -/
def State.safNeed (s : State) : List Bool :=
  [true, true, true, true,
   (List.range 5).any (fun k => s.get LPE_LANE_ROLE k == 1),
   s.on AFE_XCHK_CTRL_EN,
   true,
   s.on SAF_CTRL_CORE_CMP && s.boot.firmware,
   s.on PWM_CTRL_RB_EN,
   (List.range 8).any (fun n => s.on EFU_CH_CFG_EN n),
   s.get TWB_CH_EN_EN != 0 && decide (s.get TWB_TIMEOUT_TLOW_TO ≤ 34),
   true,
   !s.solo,
   true]

/-- The classes with a consequence that persists (R577). -/
def State.safActive (s : State) : List Bool :=
  [false,
   s.on BKG_SRAM_ECC_ADDR_VALID,
   !s.nvm.ded.isEmpty,
   s.get CCK_CORRUPT_MASK_COR != 0,
   s.laneRetired,
   s.get AFE_XCHK_STAT_EXCL_A != 0 || s.get AFE_XCHK_STAT_EXCL_B != 0,
   s.tb.onCheck,
   s.on SAF_STAT_CORE_HELD,
   (List.range 16).any (fun n => s.on PWM_PH_STAT_FAULT n && s.get PWM_PH_STAT_CAUSE n != 3),
   (List.range 8).any (fun n => s.get EFU_CH_STAT_STATE n == 6),
   s.get TWB_STUCK_MASK != 0,
   s.on SAF_DROOP_STAT_VCORE || s.on SAF_DROOP_STAT_VIN || s.on SAF_DROOP_STAT_VDDA,
   !s.solo && s.on HLK_STAT_PARTNER_LOST,
   s.get WDG_STATE_STATE == 3]

/-- The mask of a list of bits. -/
def bitsMask (l : List Bool) : Nat := maskOf ((l.zipIdx.filter (fun p => p.1)).map (fun p => p.2))

/-- Brings SAF_COND, SAF_COVER, SAF_ACTIVE and GUARANTEED up to date; a change of GUARANTEED is recorded (R576). -/
def State.settleSaf (s : State) : State :=
  let cond := bitsMask s.safCond
  let ok := decide (cond = 63)
  let was := s.on SAF_STAT_GUARANTEED
  let cover := if ok then bitsMask s.safNeed else 0
  let s := ((s.set SAF_COND_COND cond).set SAF_COVER_COVER cover).set SAF_ACTIVE_ACTIVE (bitsMask s.safActive)
  if ok = was then s
  else
    let s := (s.setB SAF_STAT_GUARANTEED ok).event .guaranteeChange 0 [(cond : Int), cover]
    s.iff was (fun s => s.stamp SAF_LOSS_TICK_TICK)

/-- Both, at the end of a command that can change them. -/
def State.settle (s : State) : State := s.settleShelf.settleSaf

end Sys2Proof.Machine
end

