-- ==== Sys2Proof/Machine/Afe.lean ====
section
/-! DEFINITION. The measurement front end (file 05): the cross-check, the monitor converters, the diode engine, the shunt
integrators and background calibration. -/

namespace Sys2Proof.Machine

/-! ### Conversions (R116, R118, R111) -/

/-- Whether bus half B is sensed (R120). -/
def State.halfB (s : State) : Bool := s.on AFE_CTRL_HALF_B_EN

/-- The end of the range of a bus voltage, a bus current and a phase current (R116). -/
def fullV : Int := 65535
def fullI : Int := 32767
def fullPh : Int := 2047

/-- A code stays within its range (R118). -/
def codeV (x : Int) : Int := clampI 0 fullV x
def codeI (x : Int) : Int := clampI (-fullI - 1) fullI x
def codePh (x : Int) : Int := clampI (-fullPh - 1) fullPh x

/-- A signed code stands at an end of its range. -/
def atEnd (full x : Int) : Bool := decide (full ≤ x) || decide (x ≤ -full - 1)

/-- The code a consumer takes (R111): uncalibrated before the first success, and through a blend linearly from the one to the other. -/
def State.blended (s : State) (x : Twice Int) : Int :=
  match s.boot.blend with
  | none => if s.boot.calDone then x.2 else x.1
  | some (t, len) =>
    if t + len ≤ s.tick then x.2 else divHalfEven (x.1 * len + (x.2 - x.1) * ((s.tick : Int) - t)) len

/-- A bus voltage in 100 µV: 1.25 V over 2^16 codes, times the ratio in 1/65,536 (R116, R139). -/
def State.voltOf (s : State) (ratio : Field) (x : Twice Int) : Int :=
  divHalfEven (12500 * s.get ratio * s.blended (codeV x.1, codeV x.2)) (2 ^ 32)

/-- A bus current in mA: 250 mV over 2^15 codes, over the transresistance in µΩ, with the sign of R7 (R116, R139). -/
def State.ampsOf (s : State) (transR inv : Field) (x : Twice Int) : Int :=
  let i := divHalfEven (250000000 * s.blended (codeI x.1, codeI x.2)) (2 ^ 15 * max 1 (s.get transR))
  if s.on inv then -i else i

/-- A phase current in mA: 300 mV over 2^11 codes, over the transresistance common to all phases (R116, R125). -/
def State.phaseAmps (s : State) (x : Twice Int) : Int :=
  divHalfEven (300000000 * s.blended (codePh x.1, codePh x.2)) (2 ^ 11 * max 1 (s.get AFE_PH_SCALE_TRANS_R))

/-- A monitor conversion of a bus half in 100 µV (R130). -/
def State.monVolt (s : State) (h : Nat) (code : Nat) : Int :=
  divHalfEven (12500 * s.get (if h = 0 then AFE_VA_SCALE_RATIO else AFE_VB_SCALE_RATIO) * code) (2 ^ 30)

/-! ### Bus samples (R119 to R121, R124) -/

/-- A calibration visit to fast converter `f` is in progress; it lasts at most 40 ticks (R135). -/
def State.visiting (s : State) (f : Nat) : Bool := s.afe.pass == some (f + 1, true) && decide (s.tick < s.afe.visitAt + 40)

/-- A fast converter serves its inputs: neither excluded (R124) nor on a visit (R136). -/
def State.serving (s : State) (f : Fin 4) : Bool := !s.afe.excl.get f && !s.visiting f.val

/-- Both voltage converters of a half are excluded (R123). -/
def State.bothExcl (s : State) (h : Fin 2) : Bool := s.afe.excl.get (if h = 0 then 0 else 1) && s.afe.excl.get 2

/-- The conversion of the voltage of a half in a tick, none where no converter of it serves (R124). -/
def State.halfVIn (s : State) (h : Fin 2) (p : Twice BusSamples) : Option (Twice Int) :=
  if h = 0 then
    if s.serving 0 then some (p.1.va, p.2.va) else if s.serving 2 then some (p.1.vaChk, p.2.vaChk) else none
  else
    if s.serving 1 then some (p.1.vb, p.2.vb) else if s.serving 2 then some (p.1.vbChk, p.2.vbChk) else none

/-- The voltage of a half from the conversions of a tick. -/
def State.halfV (s : State) (h : Fin 2) (p : Twice BusSamples) : Option Int :=
  (s.halfVIn h p).map (s.voltOf (if h = 0 then AFE_VA_SCALE_RATIO else AFE_VB_SCALE_RATIO))

/-- The conversions of the current of a half in a tick, in order of fine time (R119). -/
def State.halfIIn (s : State) (h : Fin 2) (p : Twice BusSamples) : List (Twice Int) :=
  if h = 0 then
    (if s.serving 3 then [(p.1.ia0, p.2.ia0)] else []) ++ (if s.serving 0 then [(p.1.ia1, p.2.ia1)] else [])
  else
    (if s.serving 1 then [(p.1.ib0, p.2.ib0)] else []) ++ (if s.serving 3 then [(p.1.ib1, p.2.ib1)] else [])

/-- The current samples of a half in a tick. -/
def State.halfI (s : State) (h : Fin 2) (p : Twice BusSamples) : List Int :=
  (s.halfIIn h p).map (if h = 0 then s.ampsOf AFE_IA_SCALE_TRANS_R AFE_FAST_CTRL_IA_INV else s.ampsOf AFE_IB_SCALE_TRANS_R AFE_FAST_CTRL_IB_INV)

/-- A half's registers take a tick's conversions (R121): the voltage, the check sample where F2 serves, the latest current. Half B makes
none while it is not sensed (R120). -/
def State.halfShow (s : State) (h : Fin 2) (p : Twice BusSamples) : State :=
  if h == 1 && !s.halfB then s
  else
    let put := fun (s : State) (f : Field) (v : Option Int) => match v with
      | some v => s.setI f v
      | none => s
    let s := put s (if h = 0 then AFE_VA_VAL else AFE_VB_VAL) (s.halfV h p)
    let chk := if h = 0 then s.voltOf AFE_VA_SCALE_RATIO (p.1.vaChk, p.2.vaChk) else s.voltOf AFE_VB_SCALE_RATIO (p.1.vbChk, p.2.vbChk)
    let s := put s (if h = 0 then AFE_VA_CHK_VAL else AFE_VB_CHK_VAL) (if s.serving 2 then some chk else none)
    put s (if h = 0 then AFE_IA_VAL else AFE_IB_VAL) (s.halfI h p).getLast?

/-- A conversion of a tick that serves reached full scale (R118). -/
def State.fastFull (s : State) (p : BusSamples) : Bool :=
  (s.serving 0 && (decide (fullV ≤ p.va) || atEnd fullI p.ia1)) || (s.serving 3 && atEnd fullI p.ia0) || (s.serving 2 && decide (fullV ≤ p.vaChk)) ||
  (s.halfB && ((s.serving 1 && (decide (fullV ≤ p.vb) || atEnd fullI p.ib0)) || (s.serving 3 && atEnd fullI p.ib1) ||
    (s.serving 2 && decide (fullV ≤ p.vbChk))))

/-- A fast sample at full scale sets the overrange bit (R118). -/
def State.fastOverrange (s : State) (full : Bool) : State :=
  s.iff full (fun s => { s with afe := { s.afe with fastOvr := some s.tick } })

/-- The fast conversions of this tick reach their registers. -/
def State.fastShow (s : State) : State :=
  match s.afe.fast with
  | none => s
  | some p => ((s.halfShow 0 p).halfShow 1 p).fastOverrange (s.fastFull (if s.boot.calDone then p.2 else p.1))

/-- The inputs of the fast converters change: what they convert from this tick on (log entry 63). -/
def State.busSamples (s : State) (p : Twice BusSamples) : State := { s with afe := { s.afe with fast := some p } }.fastShow

/-- The samples of a tick join the window's sums (R121): one of each voltage, and every current sample. -/
def State.winAdd (s : State) : State :=
  match s.afe.fast with
  | none => s
  | some p =>
    let v := fun (h : Fin 2) (x : Int × Nat) => match s.halfV h p with
      | some v => (x.1 + v, x.2 + 1)
      | none => if s.bothExcl h then (x.1 + s.getI (if h = 0 then AFE_VA_VAL else AFE_VB_VAL), x.2 + 1) else x
    let i := fun (h : Fin 2) (x : Int × Nat) => (s.halfI h p).foldl (fun x i => (x.1 + i, x.2 + 1)) x
    let w := s.afe.win
    let b := s.halfB
    { s with afe := { s.afe with win := #v[v 0 (w.get 0), if b then v 1 (w.get 1) else w.get 1, i 0 (w.get 2), if b then i 1 (w.get 3) else w.get 3] } }

/-- A window ends with the tick that ends, where the next is 1,000(k + 1). -/
def State.winEnd (s : State) : State :=
  s.iff ((s.tick + 1) % 1000 == 0) (fun s => { s with afe := { s.afe with winLast := s.afe.win, win := Vector.replicate 4 (0, 0) } })

/-- A mean register takes the mean of the window's samples, half to even (R121). -/
def State.meanShow (s : State) (f : Field) (x : Int × Nat) : State := if x.2 = 0 then s else s.setI f (divHalfEven x.1 x.2)

/-- The means of the last window (R121). -/
def State.means (s : State) : State :=
  let w := s.afe.winLast
  let s := (s.meanShow AFE_VA_AVG_VAL (w.get 0)).meanShow AFE_IA_AVG_VAL (w.get 2)
  if s.halfB then (s.meanShow AFE_VB_AVG_VAL (w.get 1)).meanShow AFE_IB_AVG_VAL (w.get 3) else s

/-- Half B is no longer sensed: every bus-B register holds the invalid marker (R120). -/
def State.halfBOff (s : State) : State :=
  let s := ((s.setInvalid AFE_VB_VAL).setInvalid AFE_VB_CHK_VAL).setInvalid AFE_IB_VAL
  let s := (s.setInvalid AFE_VB_AVG_VAL).setInvalid AFE_IB_AVG_VAL
  let z := fun (w : Vector (Int × Nat) 4) => (w.set 1 (0, 0)).set 3 (0, 0)
  { s with afe := { s.afe with win := z s.afe.win, winLast := z s.afe.winLast } }

/-! ### Phase converters and comparators (R125, R126) -/

/-- The latest current of each of the phases given; one that is not sampled holds the invalid marker (R125). -/
def State.phaseShow (s : State) (l : List (Fin 16)) : State :=
  match s.afe.phIn with
  | none => s
  | some ph => s.each l (fun s n =>
      if s.bitOn AFE_PH_CTRL_PH_EN n.val then s.setI AFE_PH_I_VAL (s.phaseAmps (ph.get n)) n.val else s.setInvalid AFE_PH_I_VAL n.val)

/-- A phase no longer sampled holds the invalid marker (R125). -/
def State.phaseUnsampled (s : State) : State :=
  s.each ((List.finRange 16).filter (fun n => !s.bitOn AFE_PH_CTRL_PH_EN n.val)) (fun s n => s.setInvalid AFE_PH_I_VAL n.val)

/-- Hysteresis of the comparators in mV (R126). -/
def State.cmpHyst (s : State) : Int :=
  match s.get AFE_CMP_CTRL_HYST with
  | 0 => 0 | 1 => 2 | 2 => 5 | _ => 10

/-- A comparator's output: high where its input is above the DAC reference, and then until it is below it by the hysteresis; in
units of 1/128 mV, the input 300 mV over 2^11 codes and the DAC 0.375 mV a code from −64 mV (R116, R126, log entry 64). -/
def State.cmpLevel (s : State) (x : Int) (n : Nat) : Bool :=
  let v := codePh x * 300 * 128
  let r := (-64 * 128 + 48 * (s.get PWM_PH_DAC_PEAK n : Int)) * 2048
  if s.afe.cmpOut.testBit n then decide (r - s.cmpHyst * 128 * 2048 ≤ v) else decide (r < v)

/-- The comparators' outputs for the inputs of this tick. -/
def State.cmpJudge (s : State) : State :=
  match s.afe.phIn with
  | none => s
  | some ph =>
    let high := (List.finRange 16).filter (fun n => s.cmpLevel (ph.get n).1 n.val)
    { s with afe := { s.afe with cmpOut := maskOf (high.map (fun n => n.val)) } }

/-- The inputs of the phase converters change. Phases 12 to 15 are sampled at fine unit 37, and their results released in the tick after
(R117, R125). -/
def State.phaseSamples (s : State) (ph : Vector (Twice Int) 16) : State :=
  (({ s with afe := { s.afe with phIn := some ph } }).phaseShow ((List.finRange 16).filter (fun n => n.val < 12))).cmpJudge

/-! ### Shunt integrators (R127 to R129) -/

/-- The integral of a string after `bits` more of its bitstream (R127): each of the 4,000,000 modulator periods a second adds or takes
62.5 mV × 0.25 µs, which is 1,024 × 2^-16 nV·s (log entry 65). The registers report it rounded towards −∞; DESIGN CHOICE: a change of
`AFE_INT_CTRL.INV` inverts the whole of what is reported, the accumulator itself never being written. -/
def State.integrate (s : State) (n : Fin 8) (bits : Int) : State :=
  let v := s.afe.acc.get n + 1024 * bits
  let s := { s with afe := { s.afe with acc := s.afe.acc.set n v } }
  let r : Int := (if s.bitOn AFE_INT_CTRL_INV n.val then -v else v).fdiv 65536
  (s.set AFE_INT_LO_INT_LO (r % 2 ^ 32).toNat n.val).set AFE_INT_HI_INT_HI (r.fdiv (2 ^ 32) % 2 ^ 32).toNat n.val

/-- The reported integral of a string in nV·s. -/
def State.integral (s : State) (n : Fin 8) : Int :=
  (if s.bitOn AFE_INT_CTRL_INV n.val then -(s.afe.acc.get n) else s.afe.acc.get n).fdiv 65536

/-- The end of the range of a shunt reading: ±62.5 mV over 24 bits (R116). -/
def fullSh : Int := 8388607

/-- A string current in mA: the mean shunt voltage of 250 µs over the shunt resistance, with the sign of R7 (R129). -/
def State.shuntAmps (s : State) (n : Fin 8) (code : Int) : Int :=
  let i := divHalfEven (62500000 * clampI (-fullSh - 1) fullSh code) (2 ^ 23 * max 1 (s.get AFE_SHUNT_SHUNT n.val))
  if s.bitOn AFE_INT_CTRL_INV n.val then -i else i

/-- A string's reading: its bitstream since the last command, and in a tick that is a multiple of 250 its current (R129: 4 kS/s). `ovr`
says that its input was outside the range at some time (R139). -/
def State.shuntRead (s : State) (n : Fin 8) (bits code : Int) (ovr : Bool) : State :=
  let s := (s.integrate n bits).iff (s.tick % 250 == 0) (fun s => s.setI AFE_I_NOW_VAL (s.shuntAmps n code) n.val)
  s.iff (ovr || (s.tick % 250 == 0 && atEnd fullSh code)) (fun s => { s with afe := { s.afe with intOvr := s.afe.intOvr.set n (some s.tick) } })

/-- Bus voltage of half `h` as every consumer takes it. -/
def State.busV (s : State) (h : Nat) : Option Int :=
  let f := if h = 0 then AFE_VA_VAL else AFE_VB_VAL
  if s.valid f then some (s.getI f) else none

/-- Bus current of both halves (R121). -/
def State.busI (s : State) : Int :=
  (if s.valid AFE_IA_VAL then s.getI AFE_IA_VAL else 0) + (if s.valid AFE_IB_VAL then s.getI AFE_IB_VAL else 0)

/-- AFE_MEANS_UPDATE (R121): what the front end converts from this tick on, and the bitstreams of the shunts up to it; in a tick
1,000(k + 1) the means of window k are reported (log entries 12 and 63). `codes` are the bus conversions, before and after; `current` the
mean shunt voltages of the last 250 µs; `ovr` says that a fast input, and `strOvr` which strings, reached full scale since the last command. -/
def execAfeMeansUpdate (before after : BusSamples) (phases : Vector (Twice Int) 16) (charge current : Vector Int 8) (ovr : Bool)
    (strOvr : BitVec 8) (s : State) : Host.Outcome State Fault Refusal :=
  if s.boot.g.isNone then done s
  else
    let s := ((s.busSamples (before, after)).phaseSamples phases).fastOverrange ovr
    let s := s.iff (s.tick % 1000 == 0 && s.tick != 0) State.means
    done (s.each (List.finRange 8) (fun s n => s.shuntRead n (charge.get n) (current.get n) (strOvr.getLsbD n.val)))

/-! ### Cross-check (R122 to R124) -/

/-- The converters of a half: primary and check (R119). -/
def halfConverters (h : Fin 2) : Fin 4 × Fin 4 := if h = 0 then (0, 2) else (1, 2)

def prioField (h : Fin 2) : Field := if h = 0 then AFE_MON_STAT_PRIO_A else AFE_MON_STAT_PRIO_B

/-- A visit in progress leaves half `h` one fast sample of its voltage (R136): F0 half A, F1 half B, F2 both. -/
def State.halfVisit (s : State) (h : Fin 2) : Bool := s.visiting 2 || s.visiting h.val

/-- Priority conversions of a half are in force (R123, R136). -/
def State.prioOn (s : State) (h : Fin 2) : Bool := (s.afe.judge.get h).isSome || s.bothExcl h || s.halfVisit h

/-- `AFE_XCHK_STAT.EXCL_A`, `EXCL_B` follow the converters excluded, `AFE_MON_STAT` the priority conversions in force (R139). -/
def State.showExcl (s : State) : State :=
  let b := fun (i : Fin 4) (v : Nat) => if s.afe.excl.get i then v else 0
  let s := (s.set AFE_XCHK_STAT_EXCL_A (b 0 1 + b 2 2)).set AFE_XCHK_STAT_EXCL_B (b 1 1 + b 2 2)
  (s.setB (prioField 0) (s.prioOn 0)).setB (prioField 1) (s.prioOn 1)

/-- The cross-check of a half is on (R120, R122). -/
def State.xchkOn (s : State) (h : Fin 2) : Bool := s.on AFE_XCHK_CTRL_EN && (h == 0 || s.halfB)

/-- R122: |x − y| exceeds TOL mV plus 0.1 % of the reading, and on a visit 0.1 % of it and 1 mV more (R136); voltages in 100 µV,
compared without rounding. `n` times the difference may be given as `d`. -/
def State.overTol (s : State) (n : Nat) (d reading : Int) (wide : Bool := false) : Bool :=
  let extra : Int := if wide then 10000 + reading else 0
  decide ((d.natAbs : Int) * 1000 > n * (10000 * s.get AFE_XCHK_CTRL_TOL + reading + extra))

/-- The latest primary and check samples of a half, both in service, are a mismatch (R122, R124). -/
def State.mismatch (s : State) (h : Fin 2) : Bool :=
  let p := if h = 0 then AFE_VA_VAL else AFE_VB_VAL
  let c := if h = 0 then AFE_VA_CHK_VAL else AFE_VB_CHK_VAL
  s.xchkOn h && s.serving (halfConverters h).1 && s.serving 2 && s.valid p && s.valid c && s.overTol 1 (s.getI p - s.getI c) (s.getI p)

/-- The run of mismatches of a half in a tick (R122): its length, the longest (R139), and where it is COUNT long, the tick after declares
a fault. -/
def State.xchkTick (s : State) (h : Fin 2) : State :=
  if s.mismatch h then
    let t0 := (s.afe.misSince.get h).getD s.tick
    let s := s.maxOf AFE_XCHK_STAT_RUN_MAX (min 255 (s.tick + 1 - t0))
    { s with afe := { s.afe with
        misSince := s.afe.misSince.set h (some t0)
        misDue := if t0 + s.get AFE_XCHK_CTRL_COUNT ≤ s.tick + 1 then s.afe.misDue.set h (some (s.tick + 1)) else s.afe.misDue } }
  else { s with afe := { s.afe with misSince := s.afe.misSince.set h none } }

/-- A fault is declared: the half's monitor input takes M1's next 8 slots (R123). -/
def State.xchkDeclare (s : State) (h : Fin 2) (run : Nat) : State :=
  let s := ((s.inc AFE_XCHK_STAT_FAULTS).maxOf AFE_XCHK_STAT_RUN_MAX run).trigger 9
  let from_ := match s.afe.prioFrom.get (1 - h) with
    | some t => max s.tick (t + 8)
    | none => s.tick
  { s with afe := { s.afe with
      judge := s.afe.judge.set h (some s.tick), prioFrom := s.afe.prioFrom.set h (some from_), misDue := s.afe.misDue.set h none } }.showExcl

/-- CROSSCHECK_FAULT_DECLARED (R122): mismatches held in every tick of [s, s + COUNT). -/
def execCrosscheckFaultDeclared (h : Fin 2) (s : State) : Host.Outcome State Fault Refusal :=
  if s.xchkOn h && (s.afe.judge.get h).isNone && s.due (s.afe.misDue.get h) then
    done (s.xchkDeclare h (s.get AFE_XCHK_CTRL_COUNT))
  else done s

/-- The judge of R123: the mean of the priority conversions against each reading. Converters that differ by more than the threshold
are excluded, with an event each; none is a transient, and the run restarts. -/
def State.xchkJudge (s : State) (h : Fin 2) (convs : List (BitVec 14)) (primary check : Twice Int) : State :=
  let vs := convs.map (fun c => s.monVolt h.val c.toNat)
  let ratio := if h = 0 then AFE_VA_SCALE_RATIO else AFE_VB_SCALE_RATIO
  let x := s.voltOf ratio primary
  let y := s.voltOf ratio check
  let sum := vs.foldl (· + ·) 0
  let far := fun (v : Int) => s.overTol vs.length (vs.length * v - sum) x
  let p := halfConverters h
  let b0 := far x && !s.afe.excl.get p.1
  let b2 := far y && !s.afe.excl.get p.2
  let lat := s.tick - (s.afe.judge.get h).getD s.tick
  let s := { s with afe := { s.afe with
      judge := s.afe.judge.set h none, misSince := s.afe.misSince.set h none, misDue := s.afe.misDue.set h none } }
  let s := s.iff b0 (fun s => { (s.event .converterExcluded 0 [p.1.val]) with afe := { s.afe with excl := s.afe.excl.set p.1 true } })
  let s := s.iff b2 (fun s => { (s.event .converterExcluded 0 [p.2.val]) with afe := { s.afe with excl := s.afe.excl.set p.2 true } })
  let s := s.showExcl.fastShow
  if b0 || b2 then s.detect 5 (lat + s.get AFE_XCHK_CTRL_COUNT) else s.event .crosscheckTransient 0 [h.val]

/-- The judge is available (R123): the tick after the last of the 8 conversions is released. -/
def State.judgeReady (s : State) (h : Fin 2) : Bool :=
  (s.afe.judge.get h).isSome && (match s.afe.prioFrom.get h with | some t => decide (t + 9 ≤ s.tick) | none => false)

/-! ### Monitor converters (R130 to R132, R624) -/

/-- Interval of a monitor input in ticks; 0 not scanned (R131). -/
def State.monInterval (s : State) (i : Nat) : Nat := 10 * s.get AFE_MON_RATE_CODE i

/-- Which quantity a conversion of input 62 or 63 holds (R624). -/
def State.monSub (s : State) (i : Nat) : Nat :=
  if i = 62 then s.afe.seq62 % 2 else if i = 63 then s.afe.seq63 % 4 else 0

/-- Supply voltage in 100 µV from a 14-bit code over 1.25 V and the ratio of R624; 12,500 × ratio / 16,384 per code. -/
def supplyVolts (ratio code : Nat) : Int := divHalfEven (12500 * ratio * code) 16384

/-- A conversion of a supply reaches its SYS register (R624). -/
def State.supplyMeas (s : State) (i sub code : Nat) : State :=
  if i = 60 then s.setI SYS_VIN_MEAS_V (supplyVolts 4 code)
  else if i = 61 then s.setI SYS_VDDA_MEAS_V (supplyVolts 4 code)
  else if i = 62 then s.setI (if sub = 0 then SYS_VIOA_MEAS_V else SYS_VIOB_MEAS_V) (supplyVolts 4 code)
  else if i = 63 ∧ sub = 0 then s.setI SYS_VSD_MEAS_V (supplyVolts 2 code)
  else if i = 63 ∧ sub = 1 then s.setI SYS_VKEEP_MEAS_V (supplyVolts 4 code)
  else s

/-- A conversion of input `i` is sampled at tick `t`; the sequence of inputs 62 and 63 goes on (R624). -/
def State.monSample (s : State) (i : Nat) (prio : Bool) (code t : Nat) : State :=
  let r : MonResult := { code := code, valid := true, sub := s.monSub i, tick := t }
  { s with afe := { s.afe with
      monOut := s.afe.monOut ++ [(i, prio, r)]
      seq62 := if i = 62 then s.afe.seq62 + 1 else s.afe.seq62
      seq63 := if i = 63 then s.afe.seq63 + 1 else s.afe.seq63 } }

/-- A conversion of a bus half is released (R123, R136): the half's voltage where no fast converter gives it, and on a visit the check of
the fast sample that remains. -/
def State.halfConverted (s : State) (h : Fin 2) (prio : Bool) (code : Nat) : State :=
  let f := if h = 0 then AFE_VA_VAL else AFE_VB_VAL
  let v := s.monVolt h.val code
  if s.bothExcl h then (if h == 1 && !s.halfB then s else s.setI f v)
  else if prio && s.halfVisit h && s.xchkOn h && s.valid f then
    let n := if s.overTol 1 (s.getI f - v) (s.getI f) true then s.afe.visitMis.get h + 1 else 0
    { s with afe := { s.afe with visitMis := s.afe.visitMis.set h n } }
  else s

/-- A conversion is released to its consumers, 60 fine units after its sampling instant (R117). -/
def State.monRelease1 (s : State) (o : Nat × Bool × MonResult) : State :=
  let s := { s with afe := { s.afe with latest := s.afe.latest.set (Fin.ofNat 64 o.1) o.2.2 } }
  let s := s.supplyMeas o.1 o.2.2.sub o.2.2.code
  if o.1 = 58 then s.halfConverted 0 o.2.1 o.2.2.code else if o.1 = 59 then s.halfConverted 1 o.2.1 o.2.2.code else s

/-- The conversions sampled in the tick before are released. -/
def State.monRelease (s : State) : State :=
  ({ s with afe := { s.afe with monOut := [] } }).each s.afe.monOut State.monRelease1

/-- Monitor converter of an input: M0 serves 0 to 31, M1 32 to 63. -/
def monUnit (i : Nat) : Nat := i / 32

/-- The order of service (R132): earliest grid time, then ascending input number. -/
def monInsert (g i : Nat) : List (Nat × Nat) → List (Nat × Nat)
  | [] => [(g, i)]
  | (g', i') :: l => if g < g' ∨ (g = g' ∧ i < i') then (g, i) :: (g', i') :: l else (g', i') :: monInsert g i l

/-- The slot of tick `t` goes to a conversion of the half's judge (R123), whose codes CROSSCHECK_JUDGE brings. -/
def State.judgeSlot (s : State) (t : Nat) : Bool :=
  (List.finRange 2).any (fun h => match s.afe.prioFrom.get h with
    | some f => decide (f ≤ t ∧ t < f + 8)
    | none => false)

/-- The half that a priority conversion of M1's slot of tick `t` serves: every 2 ticks where both its converters are excluded (R123),
every 5 on a visit (R136). Half A takes the first of the places, half B the one after (log entry 66). -/
def State.prioSlot (s : State) (t : Nat) : Option (Fin 2) :=
  if s.bothExcl 0 && t % 2 == 0 then some 0
  else if s.bothExcl 1 && s.halfB && t % 2 == 1 then some 1
  else if s.halfVisit 0 && (t - s.afe.visitAt) % 5 == 0 then some 0
  else if s.halfVisit 1 && s.halfB && (t - s.afe.visitAt) % 5 == 1 then some 1
  else none

/-- The code a slot converts: the next one a command brought, and without one that of the input's last conversion (log entry 63). -/
def State.monCode (s : State) (i : Nat) (codes : List (BitVec 14)) : Nat × List (BitVec 14) :=
  match codes with
  | [] => ((s.afe.latest.get (Fin.ofNat 64 i)).code, [])
  | c :: cs => (c.toNat, cs)

/-- A conversion of input `i` in the slot of tick `t`. -/
def State.monTake (s : State) (i : Nat) (prio : Bool) (t : Nat) (codes : List (BitVec 14)) : State × List (BitVec 14) :=
  (s.monSample i prio (s.monCode i codes).1 t, (s.monCode i codes).2)

/-- The slot of converter `m` in tick `t` (R132): priority conversions first, then the head of its queue. -/
def State.monSlot (s : State) (m t : Nat) (codes : List (BitVec 14)) : State × List (BitVec 14) :=
  if m = 1 ∧ s.judgeSlot t then (s, codes)
  else match (if m = 1 then s.prioSlot t else none) with
    | some h => s.monTake (58 + h.val) true t codes
    | none => match s.afe.queue.find? (fun q => monUnit q.2 == m) with
      | none => (s, codes)
      | some q => { s with afe := { s.afe with queue := s.afe.queue.erase q } }.monTake q.2 false t codes

/-- The interval in effect of input `i` in tick `t` (R132): a code written takes effect at the first tick that is a multiple of its
interval; code 0 at once. -/
def State.monRate (s : State) (t i : Nat) : Nat :=
  let new := s.get AFE_MON_RATE_CODE i
  if new = 0 ∨ t % (10 * new) = 0 then new else s.afe.rate.get (Fin.ofNat 64 i)

/-- Input `i` is judged in tick `t` (R132): a request falls due, and is pending, or skipped and counted where the previous one still waits.
Half B's input makes none while it is not sensed (R120). -/
def State.monDue (s : State) (t i : Nat) : State :=
  let r := s.monRate t i
  let s := { s with afe := { s.afe with rate := s.afe.rate.set (Fin.ofNat 64 i) r } }
  if r = 0 ∨ t % (10 * r) ≠ 0 ∨ (i = 59 ∧ !s.halfB) then s
  else if s.afe.queue.any (fun q => q.2 == i) then
    { (s.inc (if i < 32 then AFE_MON_MISSED_M0 else AFE_MON_MISSED_M1)) with
      afe := { s.afe with missedWin := some (t / 10000) } }
  else { s with afe := { s.afe with queue := monInsert t i s.afe.queue } }

/-- One tick of both monitor converters (R132): what the tick before sampled is released, the slots, then the requests that fall due. -/
def State.monTick (s : State) (t : Nat) (c0 c1 : List (BitVec 14)) : State × List (BitVec 14) × List (BitVec 14) :=
  let p := s.monRelease.monSlot 0 t c0
  let q := p.1.monSlot 1 t c1
  (q.1.each (List.range 64) (fun s i => s.monDue t i), p.2, q.2)

/-- `n` ticks of the monitor converters, up to and including this one. -/
def State.monTicks (s : State) : Nat → List (BitVec 14) → List (BitVec 14) → State
  | 0, _, _ => s
  | n + 1, c0, c1 =>
    let p := s.monTick (s.tick - n) c0 c1
    p.1.monTicks n p.2.1 p.2.2

/-- The monitor converters come up to this tick; they run from tick g. -/
def State.monRun (s : State) (codes0 codes1 : List (BitVec 14)) : State :=
  match s.boot.g with
  | none => s
  | some g =>
    let last := s.afe.slotTick.getD (g - 1)
    let s := s.monTicks (s.tick - last) codes0 codes1
    { s with afe := { s.afe with slotTick := some (max last s.tick) } }

/-- MON_REQUEST_DUE (R132): the slots of both converters up to this tick, with the codes they convert in service order, and the requests that
fall due. -/
def execMonRequestDue (codes0 codes1 : List (BitVec 14)) (s : State) : Host.Outcome State Fault Refusal := done (s.monRun codes0 codes1)

/-- A write of AFE_MON_SEL latches the latest result of that input for its source (R139). -/
def State.monSelect (s : State) (src : Src) (w : Word) : State :=
  let i := bitsOf w 0 6
  let m := s.afe.latest.get (Fin.ofNat 64 i)
  let s := (s.set (srcField src AFE_MON_SEL_INPUT) i).set (srcField src AFE_MON_DATA_CODE) m.code
  ((s.setB (srcField src AFE_MON_DATA_VALID) (m.valid && s.monInterval i != 0)).set (srcField src AFE_MON_DATA_SUB) m.sub).set
    (srcField src AFE_MON_TIME_TICK) m.tick

/-- MON_SEL_WRITE (R139). -/
def execMonSelWrite (r : Requester) (w : Word) (s : State) : Host.Outcome State Fault Refusal :=
  done (s.gate r AFE_MON_SEL_INPUT.addr (fun s => s.monSelect (s.srcOf r) w))

/-! ### Diode engine (R133, R134) -/

/-- The temperature of a diode channel: a register of THM for remote diodes and die sensors; the direct temperature of a fuse channel,
which file 12 takes up, for FET diodes. -/
def State.diodeTemp (s : State) (ch : Nat) (t : Option Int) : State :=
  if 12 ≤ ch ∧ ch < 20 then
    let n := Fin.ofNat 8 (ch - 12)
    { s with efu := { s.efu with chans := s.efu.chans.set n { s.efu.chans.get n with direct := t } } }
  else
    let i := if ch < 12 then ch else ch - 8
    match t with
    | some v => s.setI THM_TEMP_T v i
    | none => s.setInvalid THM_TEMP_T i

/-- A channel is measured (R133, R139): the engine runs, and the channel is enabled or a die sensor. -/
def State.diodeOn (s : State) (ch : Nat) : Bool := s.on AFE_RD_CTRL_EN && (20 ≤ ch || s.on AFE_RD_CH_EN ch)

def diodeKind : DiodeResult → Nat
  | .good _ _ => 0 | .openCircuit => 1 | .short => 2 | .outOfRange => 3

/-- The temperature of a channel in 1/64 °C from that of an ideality factor of 1 in 1/64 K: it is inversely proportional to the
ideality factor, 1/16,384 a unit, and 0 °C is 273.15 K. PRESUMED: the spec names the factor and states no formula; a die sensor has none
(log entry 67). -/
def State.diodeCelsius (s : State) (ch : Nat) (kelvin : Nat) : Int :=
  let n : Nat := if ch < 20 then max 1 (s.get AFE_RD_CH_IDEAL ch) else 16384
  divHalfEven (5 * 16384 * kelvin - 87408 * n) (5 * n)

/-- What a conversion gives: a result outside −64 °C to +191 °C is faulty (R134). -/
def State.diodeJudge (s : State) (ch : Nat) : DiodeResult → Option (Int × Nat) × Nat
  | .good k r =>
    let t := s.diodeCelsius ch k
    if t < -4096 ∨ 12224 < t then (none, diodeKind .outOfRange) else (some (t, r), 0)
  | bad => (none, diodeKind bad)

/-- A conversion of a channel (R134): after FAULT_DEB consecutive faulty ones the channel is faulted and reads 0x8000. -/
def State.diode (s : State) (ch : Fin 28) (res : DiodeResult) : State :=
  match s.diodeJudge ch.val res with
  | (some (t, r), _) =>
    let s := { s with afe := { s.afe with diodeRun := s.afe.diodeRun.set ch 0 } }
    let s := (s.setBit AFE_RD_FAULT_FAULT ch.val false).diodeTemp ch.val (some t)
    s.iff (ch.val < 20) (fun s => s.set AFE_RD_CH_RSER (min r 255) ch.val)
  | (none, kind) =>
    let n := s.afe.diodeRun.get ch + 1
    let s := { s with afe := { s.afe with diodeRun := s.afe.diodeRun.set ch n } }
    let s := s.iff (ch.val < 20) (fun s => s.set AFE_RD_CH_KIND kind ch.val)
    s.iff (decide (s.get AFE_RD_CTRL_FAULT_DEB ≤ n)) (fun s => (s.setBit AFE_RD_FAULT_FAULT ch.val true).diodeTemp ch.val none)

/-- The channel measured next: the first from where the engine stands, going round, that is measured (R133). -/
def State.diodeNext (s : State) : Option Nat :=
  ((List.range 28).map (fun k => (s.afe.diodePos + k) % 28)).find? s.diodeOn

/-- The engine goes on to the channel after the one measured (R133). -/
def State.diodeStep (s : State) (ch : Fin 28) : State := { s with afe := { s.afe with diodePos := (ch.val + 1) % 28 } }

/-! ### The spare modulator (R128) -/

/-- The calibration of the modulators begins: the spare is connected across string 0 (step 1; log entry 68). -/
def State.spareStart (s : State) : State := { s with afe := { s.afe with spare := some (0, s.tick) } }

/-- A string's modulator is calibrated and its accumulator input is back; the spare is connected across the next string, and after the last
it is calibrated itself, serving none. -/
def State.spareNext (s : State) (n : Fin 8) : State :=
  let a := { s.afe with strCal := s.afe.strCal.set n (some s.tick) }
  { s with afe := if n.val < 7 then { a with spare := some (n.val + 1, s.tick) } else { a with spare := none, spareCal := some s.tick } }

/-- SPARE_CHANGEOVER (R128): the accumulator input of a string moves to the spare, which has run across its shunt for 1,000 ticks (step 2), or
back (step 4), at a modulator-period boundary. -/
def execSpareChangeover (n : Fin 8) (toSpare : Bool) (s : State) : Host.Outcome State Fault Refusal :=
  let pos := s.get AFE_INT_STAT_SPARE_POS
  if toSpare then
    (match s.afe.spare with
      | some (m, t) =>
        if m = n.val ∧ pos = 0xF ∧ t + 1000 ≤ s.tick then done ((s.set AFE_INT_STAT_SPARE_POS n.val).inc AFE_INT_STAT_SWAPS) else done s
      | none => done s)
  else if pos = n.val then done (((s.set AFE_INT_STAT_SPARE_POS 0xF).inc AFE_INT_STAT_SWAPS).spareNext n)
  else done s

/-! ### Background calibration (R135 to R137) -/

/-- Visits to fast and phase converters are deferred in these power states (R135). -/
def State.visitsDeferred (s : State) : Bool :=
  s.power == .prearmed || s.power == .holdup || s.power == .ret || s.power == .exhausted

/-- The visit to the pass's next unit may begin: units 1 to 8 are deferred (R135); self-calibration stops in HALT (R584). -/
def State.mayVisit (s : State) (u : Nat) : Bool := decide (u < 15) && s.power != .halt && !(decide (u ≤ 8) && s.visitsDeferred)

/-- Begins the visit to the pass's next unit, where it may begin (R135); the visit to the integrators connects the spare (R128). -/
def State.beginVisit (s : State) : State :=
  match s.afe.pass with
  | some (u, false) =>
    if s.mayVisit u then
      let s := { (s.set AFE_CAL_STAT_UNIT u) with afe := { s.afe with
        pass := some (u, true), visitAt := s.tick, visitMis := Vector.replicate 2 0 } }
      (s.iff (u == 12) State.spareStart).showExcl
    else s
  | _ => s

/-- CAL_PASS_START (R135): every PERIOD_S seconds after the first success while BG_EN is 1. -/
def execCalPassStart (s : State) : Host.Outcome State Fault Refusal :=
  match s.afe.passAt with
  | none => done s
  | some t =>
    if s.on AFE_CAL_CTRL_BG_EN ∧ s.afe.pass = none ∧ t + 1000000 * s.get AFE_CAL_CTRL_PERIOD_S ≤ s.tick ∧ s.power ≠ .halt then
      let a := { s.afe with pass := some (1, false), passAt := some s.tick, passFail := 0, found := s.afe.coefs }
      done { s with afe := a }.beginVisit
    else done s

/-- A gain or an offset lies outside its bounds (R137): ±2 % of nominal, ±1 % of full scale. -/
def coefBad (x : Int × Int) : Bool := decide (20000 < x.1.natAbs) || decide (10000 < x.2.natAbs)

/-- Two results agree within 0.01 % (R137). -/
def coefNear (x y : Int × Int) : Bool := decide ((x.1 - y.1).natAbs ≤ 100) && decide ((x.2 - y.2).natAbs ≤ 100)

/-- The checks of R137 on one unit: its bounds, and 0.01 % or more from the coefficient in force. -/
def State.calFails (s : State) (u : Nat) (x : Int × Int) : Bool :=
  let c := s.afe.coefs.get (Fin.ofNat 15 u)
  coefBad x || decide (100 ≤ (x.1 - c.1).natAbs) || decide (100 ≤ (x.2 - c.2).natAbs)

/-- The visit in progress ends and the next begins. -/
def State.endVisit (s : State) (u : Nat) : State :=
  let s := s.set AFE_CAL_STAT_UNIT 0
  { s with afe := { s.afe with pass := some (u + 1, false) } }.showExcl.beginVisit

/-- An excluded converter whose visit passes its checks returns (R124), with an event. -/
def State.converterReturn (s : State) (f : Fin 4) : State :=
  if s.afe.excl.get f then
    ({ s with afe := { s.afe with excl := s.afe.excl.set f false } }).showExcl.event .converterReturned 0 [f.val]
  else s

/-- A comparator is calibrated only while its phase is not switching (R135). -/
def State.cmpCalibrated (s : State) (res : CalResult) (n : Fin 16) : Bool := res.comparators.getLsbD n.val && !s.on PWM_PH_STAT_ACTIVE n.val

/-- The visit to a unit completes with what it found; the visit to the integrators once every string has been served (R128). -/
def State.visitComplete (s : State) (res : CalResult) : State :=
  match s.afe.pass with
  | some (u, true) =>
    if u = 12 ∧ s.afe.spare.isSome then s
    else
      let bad := s.calFails u (res.gain, res.offset)
      let a := { s.afe with
        passFail := if bad then s.afe.passFail ||| 2 ^ u else s.afe.passFail
        found := s.afe.found.set (Fin.ofNat 15 u) (res.gain, res.offset)
        cmpAt := if u = 9 then Vector.ofFn (fun n => if s.cmpCalibrated res n then some s.tick else s.afe.cmpAt.get n)
          else s.afe.cmpAt }
      let s := { s with afe := a }
      let s := s.iff (!bad && decide (1 ≤ u ∧ u ≤ 4)) (fun s => s.converterReturn (Fin.ofNat 4 (u - 1)))
      s.endVisit u
  | _ => s

/-- CAL_VISIT_ABORT (R136): 8 consecutive mismatches of a half end the visit to a fast converter; R123 applies at once to it. -/
def State.visitAbort (s : State) (h : Fin 2) : State :=
  match s.afe.pass with
  | some (u, true) =>
    if s.halfVisit h = true ∧ 8 ≤ s.afe.visitMis.get h then
      let s := s.endVisit u
      s.iff (s.xchkOn h && (s.afe.judge.get h).isNone) (fun s => s.xchkDeclare h 8)
    else s
  | _ => s

def execCalVisitAbort (h : Fin 2) (s : State) : Host.Outcome State Fault Refusal := done (s.visitAbort h)

/-- New coefficients are taken, with the blend of R111. -/
def State.coefsBlend (s : State) : State :=
  { s with
    boot := { s.boot with blend := some (s.tick, 1000 * s.get SYS_GW_CTRL_BLEND) }
    afe := { s.afe with coefs := s.afe.found, failed := [], failRun := 0 } }

/-- The pass ends (R137); `ppm` is the difference between the two references. A pass that fails keeps the coefficients in force; the third in
a row whose results agree with those of the two before, the references agreeing, is taken. DESIGN CHOICE: a pass that passes its
checks, whose coefficients take effect at once (R111), also clears CAL_INVALID (log entry 69). -/
def State.passEnd (s : State) (ppm : Int) : State :=
  match s.afe.pass with
  | some (u, false) =>
    if u < 15 then s
    else
      let refs := decide (ppm.natAbs ≤ 500)
      let units := if refs then s.afe.passFail else s.afe.passFail ||| 2 ^ 14
      let bad := units != 0
      let near := fun (x : Vector (Int × Int) 15) => (List.finRange 15).all (fun i => coefNear (x.get i) (s.afe.found.get i))
      let between := match s.afe.failed with
        | x :: y :: _ => near x && near y && (List.finRange 15).all (fun i => coefNear (x.get i) (y.get i))
        | _ => false
      let take := bad && decide (2 ≤ s.afe.failRun) && between && refs
      let s := ((s.incWrap AFE_CAL_PASS_CNT_PASSES).set AFE_CAL_FAIL_SRC_UNITS units).setI AFE_CAL_REF_PPM ppm
      let s := s.iff bad (fun s => (s.inc AFE_CAL_FAIL_SRC_FAILS).event .calPassFailed 0 [units])
      let s := { s with afe := { s.afe with
        pass := none, calInvalid := bad && !take
        failRun := if bad then s.afe.failRun + 1 else 0
        failed := if bad then (s.afe.found :: s.afe.failed).take 2 else []
        coefs := if bad then s.afe.coefs else s.afe.found } }
      if take then s.coefsBlend else s
  | _ => s

/-! ### What a tick brings -/

/-- The end of a tick: its samples join the means, its pairs the runs of mismatches. -/
def State.afeTick (s : State) : State := (((s.winAdd).xchkTick 0).xchkTick 1).winEnd

/-- The beginning of a tick: what the monitor converters sampled in the tick before is released, the fast and phase inputs are converted, a
visit that was deferred or has lasted 40 ticks changes what serves (R117, R119, R125, R135). -/
def State.afeSample (s : State) : State :=
  let s := s.monRelease.fastShow
  let s := (s.phaseShow (List.finRange 16)).cmpJudge
  s.iff s.afe.pass.isSome (fun s => s.showExcl.beginVisit)

/-! ### What monitor inputs measure for other blocks -/

/-- STR_V in the voltage encoding (R130, R308). -/
def State.strV (s : State) (n : Fin 8) : Option Int :=
  let m := s.afe.latest.get (Fin.ofNat 64 (24 + n.val))
  if m.valid then some (divHalfEven (12500 * s.get BAT_STR_VSCALE_RATIO n.val * m.code) (2 ^ 30)) else none

/-- Channel n belongs to an active feed pair (R311). -/
def State.pairFeed (s : State) (n : Fin 8) : Bool := s.on EFU_FEED_CFG_PAIR_EN && decide (n.val < 2)

def State.isFeed (s : State) (n : Fin 8) : Bool := s.pairFeed n || s.on EFU_CH_CFG_FEED n.val

/-- Current magnitude in mA, as a numerator over ISNS_G and 16,384, from a code of EF_ISNS over 1.25 V (R310). -/
def State.fuseI (s : State) (n : Fin 8) : Option (Nat × Nat) :=
  let m := s.afe.latest.get (Fin.ofNat 64 (32 + n.val))
  if m.valid then some (1250000000 * m.code, 16384 * max 1 (s.get EFU_CH_SCALE_ISNS_G n.val)) else none

/-- Output voltage in 100 µV from EF_VOUT (R310). -/
def State.fuseV (s : State) (n : Fin 8) : Option Int :=
  let m := s.afe.latest.get (Fin.ofNat 64 (40 + n.val))
  if m.valid then some (divHalfEven (12500 * m.code * s.get EFU_MISC_VOUT_RATIO) (16384 * 256)) else none

/-- Fuse current in units of 1/`k` mA, positive into the bus (R310). -/
def State.fuseCurrent (s : State) (n : Fin 8) (k : Nat) : Option Int :=
  (s.fuseI n).map (fun i => (if s.isFeed n then 1 else -1) * divHalfEven i.1 (k * i.2))

/-! ### Commands whose effect reaches the shelf state -/

/-- CROSSCHECK_JUDGE (R123): the 8 priority conversions of a declared fault are made; `convs` are their codes, `primary` and `check` the codes
of the readings in this tick. -/
def execCrosscheckJudge (h : Fin 2) (convs : List (BitVec 14)) (primary check : Twice Int) (s : State) : Host.Outcome State Fault Refusal :=
  if s.judgeReady h ∧ convs.length = 8 then done (s.xchkJudge h convs primary check).settle else done s

/-- A conversion of a thermal sensor is complete: its group is to be recomputed (R364). -/
def State.thmDue (s : State) (ch : Nat) : State :=
  let g := s.get THM_MAP_GROUP (if ch < 12 then ch else ch - 8)
  if (12 ≤ ch ∧ ch < 20) ∨ 6 ≤ g then s else { s with thm := { s.thm with due := s.thm.due ||| 2 ^ g } }

/-- DIODE_CONVERSION (R133, R134): the channel whose turn it is. -/
def execDiodeConversion (ch : Fin 28) (res : DiodeResult) (s : State) : Host.Outcome State Fault Refusal :=
  if s.diodeNext = some ch.val then done (((s.diode ch res).diodeStep ch).thmDue ch.val).settle else done s

/-- CAL_VISIT_COMPLETE (R135, R137). -/
def execCalVisitComplete (res : CalResult) (s : State) : Host.Outcome State Fault Refusal := done (s.visitComplete res).settle

/-- CAL_PASS_END (R137). -/
def execCalPassEnd (ppm : Int) (s : State) : Host.Outcome State Fault Refusal := done (s.passEnd ppm).settle

end Sys2Proof.Machine
end

