-- ==== Sys2Proof/Machine/Loop.lean ====
section
/-! DEFINITION. The loop engine (file 06): number formats, control laws, transfers, coefficient memory, admission and lanes. -/

namespace Sys2Proof.Machine

/-! ### Core voltage (R44 to R46) -/

/-- Moves the core to `v` in 100 µV. One step leaves the regulator within 5 mV of its target; a longer change settles within 60 µs
(R68). DESIGN CHOICE: SETTLED turns 1 exactly 60 ticks after such a change, and at tick 60 after a start (log entry 62). -/
def State.vcoreTo (s : State) (v : Nat) : State :=
  let was := s.get SYS_VCORE_STAT_VCORE
  let far := decide (was + 50 < v) || decide (v + 50 < was)
  let s := s.set SYS_VCORE_STAT_VCORE v
  s.iff far (fun s => { s with tb := { s.tb with settleAt := s.tick + 60 } })

/-- The core to 0.85 V, held there (R45 rule 1, R46). -/
def State.vcoreMax (s : State) : State :=
  let s := (s.vcoreTo 8500).setB SYS_VCORE_STAT_FORCED_MAX true
  { s with tb := { s.tb with forcedSince := some s.tick } }

/-- A sample of period `p` whose output was written `c` fine units after its request: rules 1 and 2 of R45. -/
def State.slackJudge (s : State) (p c : Nat) : State :=
  let sl := (p - min p c) * 100 / max 1 p
  let s := { s with tb := { s.tb with windowSlack := min s.tb.windowSlack sl } }
  if !s.on SYS_VCORE_CTRL_SCALE_EN then s
  else if 10 * (p - min p c) < p then
    { s.vcoreMax with tb := { s.vcoreMax.tb with forcedRule := true } }
  else if 100 * (p - min p c) < s.get SYS_VCORE_CTRL_SLACK_TGT * p then
    { s with tb := { s.tb with raisedAt := some (s.tick + 1) } }
  else s

/-- Rule 2 of R45: the core rises by one step in the tick after the sample. -/
def State.vcoreTick (s : State) : State :=
  if s.tb.raisedAt = some s.tick ∧ !s.on SYS_VCORE_STAT_FORCED_MAX then
    s.vcoreTo (min 8500 (s.get SYS_VCORE_STAT_VCORE + 50))
  else s

/-! ### Number formats (R145, R146) -/

/-- Saturation of the accumulator and of every stored state. -/
def sat64 (x : Int) : Int := clampI (-(2 ^ 63)) (2 ^ 63 - 1) x

/-- Saturation under R5 of a signed 32-bit value. -/
def sat32 (x : Int) : Int := clampI (-(2 ^ 31) + 1) (2 ^ 31 - 1) x

/-- A coefficient times a value with 27 fractional bits (R146): the value rounded half to even to 8 fractional bits and saturated to
40 bits, the product rounded half to even to 27 fractional bits. -/
def coefMul (c x : Int) : Int :=
  divHalfEven (c * clampI (-(2 ^ 39)) (2 ^ 39 - 1) (divHalfEven x (2 ^ 19))) 256

/-- S4.27 saturation of a coefficient. -/
def satCoef (x : Int) : Int := clampI (-(2 ^ 31)) (2 ^ 31 - 1) x

/-- The ratio b / a to S4.27, saturating; 0 where a is 0 (R170). -/
def coefRatio (b a : Int) : Int :=
  if a = 0 then 0
  else satCoef (divHalfEven (b * 2 ^ 27 * (if a < 0 then -1 else 1)) a.natAbs)

/-- 1.0 in S4.27. -/
def coefOne : Int := 2 ^ 27

/-! ### A coefficient set (R174, R175) -/

/-- The word at byte offset `off` of the region block. -/
def LoopSet.at (c : LoopSet) (off : Nat) : Int := c.reg.getD (off / 4) 0

def LoopSet.law (c : LoopSet) : Nat := bitsOf c.cfg 0 3
def LoopSet.shift (c : LoopSet) : Nat := bitsOf c.cfg 6 4

/-- A value of the output encoding in the accumulator (R145). -/
def LoopSet.acc (c : LoopSet) (x : Int) : Int := x * 2 ^ (27 - c.shift)

/-- The feed-forward term (R146). -/
def LoopSet.ff (c : LoopSet) (f : Int) : Int := divHalfEven (c.at 0x08 * f) (2 ^ c.shift)

/-- `OUT_MIN` and `OUT_MAX` in the accumulator. -/
def LoopSet.lo (c : LoopSet) : Int := c.acc (c.at 0x00)
def LoopSet.hi (c : LoopSet) : Int := c.acc (c.at 0x04)

/-- The inputs of a sample: measurement, reference, states x1 to x3, the feed-forward value, and the limits applied (R141, R210). -/
structure LoopIn where
  y : Int
  r : Int
  xs : List Int
  f : Int
  low : Int
  up : Int
  deriving DecidableEq, Repr

/-- What a law gives: the unclamped value, the clamped value, the states, and e. -/
structure LoopOut where
  v : Int
  uc : Int
  st : Vector Int 6
  e : Int
  deriving DecidableEq, Repr

/-! ### Laws (R148 to R152). `force` is the value set b must give: a transfer (R170) or a bumpless start (R167). -/

/-- PID (R148). With `force` (va, dd), the derivative state is dd and i is set so that v = va. -/
def lawPid (c : LoopSet) (st : Vector Int 6) (i : LoopIn) (force : Option (Int × Int)) : LoopOut :=
  let ay := c.at 0x20
  let y := i.y * 2 ^ 27
  let yf := if ay = coefOne then y else sat64 (st[0] + coefMul ay (sat64 (y - st[0])))
  let e := sat64 (i.r * 2 ^ 27 - yf)
  let d := if c.cfg.getLsbD 10 then -yf else e
  let p := coefMul (c.at 0x10) e
  let ff := c.ff i.f
  let dd := match force with
    | some q => q.2
    | none => sat64 (st[2] + coefMul (c.at 0x24) (sat64 (coefMul (c.at 0x18) (sat64 (d - st[3])) - st[2])))
  let ii := match force with
    | some q => clampI c.lo c.hi (sat64 (sat64 (sat64 (q.1 - p) - dd) - ff))
    | none => clampI c.lo c.hi
        (sat64 (sat64 (st[1] + coefMul (c.at 0x14) e) + coefMul (c.at 0x1C) (sat64 (st[5] - st[4]))))
  let v := sat64 (sat64 (sat64 (p + ii) + dd) + ff)
  let uc := clampI i.low i.up v
  { v := v, uc := uc, st := #v[yf, ii, dd, d, v, uc], e := e }

/-- IIR of order 2 or 3 (R149). With `force`, the last section's s1 is set so that v is that value. -/
def lawIir (c : LoopSet) (st : Vector Int 6) (i : LoopIn) (force : Option Int) : LoopOut :=
  let x := fun (k : Nat) => c.xc.getD k 0
  let e := i.r - i.y
  let ff := c.ff i.f
  let p := fun (k : Nat) => sat64 (x k * e)
  if c.law = 2 then
    let s1 := match force with
      | some va => sat64 (sat64 (va - ff) - p 0)
      | none => st[0]
    let out := sat64 (p 0 + s1)
    let v := sat64 (out + ff)
    let uc := clampI i.low i.up v
    let w := sat64 (uc - ff)
    { v := v, uc := uc, e := e * 2 ^ 27,
      st := #v[sat64 (sat64 (p 1 - coefMul (x 3) w) + st[1]), sat64 (p 2 - coefMul (x 4) w), 0, 0, v, uc] }
  else
    let out1 := sat64 (p 0 + st[0])
    let s2 := match force with
      | some va => sat64 (sat64 (va - ff) - coefMul (x 5) out1)
      | none => st[2]
    let out := sat64 (coefMul (x 5) out1 + s2)
    let v := sat64 (out + ff)
    let uc := clampI i.low i.up v
    let w := sat64 (uc - ff)
    { v := v, uc := uc, e := e * 2 ^ 27,
      st := #v[sat64 (sat64 (p 1 - coefMul (x 3) out1) + st[1]), sat64 (p 2 - coefMul (x 4) out1),
        sat64 (coefMul (x 6) out1 - coefMul (x 7) w), 0, v, uc] }

/-- State feedback with n states (R151). -/
def lawState (c : LoopSet) (st : Vector Int 6) (i : LoopIn) (force : Option Int) : LoopOut :=
  let n := bitsOf c.cfg 14 2 + 1
  let xs := (i.y :: i.xs).take n
  let ff := c.ff i.f
  let base := sat64 (c.at 0x10 * i.r - ((xs.zipIdx).foldl (fun a p => sat64 (a + c.at (0x18 + 4 * p.2) * p.1)) 0))
  let step := c.at 0x14 * (i.r - i.y)
  let wind := st[4] - st[5]
  let z := match force with
    | some va => clampI c.lo c.hi (sat64 (sat64 (va - base) - ff))
    | none => if wind ≠ 0 ∧ step.sign = wind.sign then st[0] else clampI c.lo c.hi (sat64 (st[0] + step))
  let v := sat64 (sat64 (base + z) + ff)
  let uc := clampI i.low i.up v
  { v := v, uc := uc, st := #v[z, 0, 0, 0, v, uc], e := (i.r - i.y) * 2 ^ 27 }

/-- Lookup (R152). -/
def lawLookup (c : LoopSet) (st : Vector Int 6) (i : LoopIn) : LoopOut :=
  let t := i.y - c.at 0x10
  let dxs := (c.at 0x14).toNat
  let yAt := fun (n : Nat) => c.at (0x18 + 4 * n)
  let n := (t / (2 ^ dxs : Nat)).toNat
  let u := if t < 0 then yAt 0 else if 32 ≤ n then yAt 32
    else divHalfEven (yAt n * (2 ^ dxs : Nat) + (yAt (n + 1) - yAt n) * (t % (2 ^ dxs : Nat))) (2 ^ dxs)
  let v := sat64 (c.acc u + c.ff i.f)
  { v := v, uc := clampI i.low i.up v, st := st, e := (i.r - i.y) * 2 ^ 27 }

/-- The law of a set on a sample, without a forced value. -/
def LoopSet.run (c : LoopSet) (st : Vector Int 6) (i : LoopIn) : LoopOut :=
  match c.law with
  | 1 => lawPid c st i none
  | 2 => lawIir c st i none
  | 3 => lawIir c st i none
  | 4 => lawState c st i none
  | _ => lawLookup c st i

/-- The bumpless start of R167: yf is y, every state 0 but the integrating one, set so that v is what the port holds. -/
def LoopSet.begin (c : LoopSet) (i : LoopIn) (held : Int) : LoopOut :=
  let z : Vector Int 6 := #v[i.y * 2 ^ 27, 0, 0, 0, 0, 0]
  let z0 : Vector Int 6 := Vector.replicate 6 0
  match c.law with
  | 1 => lawPid c z i (some (c.acc held, 0))
  | 2 => lawIir c z0 i (some (c.acc held))
  | 3 => lawIir c z0 i (some (c.acc held))
  | 4 => lawState c z0 i (some (c.acc held))
  | _ => lawLookup c z0 i

/-- The transfer of R170 from set `a` to set `c` in one sample. -/
def LoopSet.transfer (c a : LoopSet) (st : Vector Int 6) (i : LoopIn) : LoopOut :=
  let va := a.run st { i with low := a.lo, up := a.hi }
  match c.law with
  | 1 => lawPid c st i (some (va.v, coefMul (coefRatio (c.at 0x18) (a.at 0x18)) va.st[2]))
  | 2 => lawIir c (st.set 1 (coefMul (coefRatio (c.at 0x10) (a.at 0x10)) st[1])) i (some va.v)
  | 3 =>
    let k := coefRatio (c.at 0x10) (a.at 0x10)
    lawIir c ((st.set 0 (coefMul k st[0])).set 1 (coefMul k st[1])) i (some va.v)
  | 4 => lawState c st i (some va.v)
  | _ => lawLookup c st i

/-- The written output (R146, R5). -/
def LoopSet.output (c : LoopSet) (uc : Int) : Int := sat32 (divHalfEven uc (2 ^ (27 - c.shift)))

/-! ### Coefficient memory (R163, R174) -/

/-- The staged and the running copies in the model's memory. -/
def stagedBase : Nat := 0x300000
def runBase : Nat := 0x1300000

/-- A coefficient word of a slot, signed, in a memory. -/
def coefWord (m : List Host.Cell) (base n off : Nat) : Int :=
  toSigned 32 (leNat ((List.range 4).map (fun k => look memUnlisted m (base + 0x400 * n + off + k))))

/-- The words of region `r` of slot `n`. -/
def regionWords (m : List Host.Cell) (base n r : Nat) : List Int :=
  (List.range 48).map (fun k => coefWord m base n (0xC0 * r + 4 * k))

/-- The bytes of a slot that coefficient memory holds and the check covers: offsets 0x000 to 0x37F (R173). -/
def slotBytes (m : List Host.Cell) (base n : Nat) : List Byte :=
  (List.range 0x380).map (fun k => look memUnlisted m (base + 0x400 * n + k))

/-- The expansion of R149, rounded half to even to S4.27. -/
def expandIir (law : Nat) (g : Nat → Int) : List Int :=
  let k := g 0x10
  let zc := g 0x14 % 2 = 1
  let pc := (g 0x14 / 2) % 2 = 1
  let sum (cx : Prop) [Decidable cx] (a b : Int) : Int := if cx then 2 * a else a + b
  let prod (cx : Prop) [Decidable cx] (a b : Int) : Int := if cx then a * a + b * b else a * b
  let d27 : Nat := 2 ^ 27
  let d54 : Nat := 2 ^ 54
  let s1 := [k, divHalfEven (-(k * sum zc (g 0x18) (g 0x1C))) d27, divHalfEven (k * prod zc (g 0x18) (g 0x1C)) d54,
    -(sum pc (g 0x20) (g 0x24)), divHalfEven (prod pc (g 0x20) (g 0x24)) d27]
  if law = 3 then s1 ++ [coefOne, -(g 0x28), -(g 0x2C)] else s1

/-- R150 on a region's poles: real poles in −1 < p ≤ 1, complex pairs inside the circle, at most one pole at 1 and that one in the
last section. -/
def polesOk (law : Nat) (g : Nat → Int) : Bool :=
  let one := coefOne
  let pc := (g 0x14 / 2) % 2 = 1
  let real (p : Int) : Bool := decide (-one < p) && decide (p ≤ one)
  let s1 := if pc then decide (g 0x20 * g 0x20 + g 0x24 * g 0x24 < one * one) else real (g 0x20) && real (g 0x24)
  let ones : Nat := if pc then 0 else (if g 0x20 = one then 1 else 0) + (if g 0x24 = one then 1 else 0)
  if law = 3 then s1 && real (g 0x2C) && decide (ones = 0) else s1 && decide (ones ≤ 1)

/-- A coefficient within S4.27. -/
def coefFits (x : Int) : Bool := decide (-(2 ^ 31) ≤ x ∧ x < 2 ^ 31)

/-! ### A configuration under check (R164) -/

/-- What an admission judges: the staged registers and coefficient memory of its snapshot. -/
structure LoopView where
  regs : List (Nat × Word)
  mem : List Host.Cell
  deriving DecidableEq, Repr

def LoopView.reg (w : LoopView) (a : Nat) : Word := look regReset w.regs a
def LoopView.get (w : LoopView) (f : Field) (n : Nat) : Nat := bitsOf (w.reg (f.at n)) (f.bit n) f.width
def LoopView.coef (w : LoopView) (n off : Nat) : Int := coefWord w.mem stagedBase n off

/-- The registers of the LPS page and the staged coefficient memory, as they stand. -/
def State.loopView (s : State) : LoopView :=
  { regs := s.regs.filter (fun p => decide (0x34000 ≤ p.1 ∧ p.1 < 0x38000)),
    mem := s.mem.filter (fun p => decide (stagedBase ≤ p.1 ∧ p.1 < stagedBase + 0x10000)) }

def LoopView.law (w : LoopView) (n : Nat) : Nat := w.get LPS_CFG_LAW n

/-- The active slots of the configuration, ascending. -/
def LoopView.active (w : LoopView) : List Nat := (List.range 64).filter (fun n => w.law n != 0)

/-- The codes of R142, with the ports of R208 and R255. -/
def sourceOk (c : Nat) : Bool :=
  c ≤ 0x04 || (0x10 ≤ c && c ≤ 0x50) || (0x60 ≤ c && c ≤ 0x69) || (0x70 ≤ c && c ≤ 0x76) || (0x80 ≤ c && c ≤ 0xBF) || c == 0xF0

/-- The codes of R143, with the ports of R208 and R255. -/
def destOk (c : Nat) : Bool := c ≤ 0x12 || c == 0x20 || c == 0x21 || (0x28 ≤ c && c ≤ 0x2B)

/-- The configuration that runs, in the form an admission judges. -/
def State.runView (s : State) : LoopView :=
  let regs := (List.finRange 64).foldl (fun l n =>
    let x := s.lpe.slots.get n
    let a := 0x34040 + 0x18 * n.val
    put regReset (put regReset (put regReset (put regReset l a x.cfg) (a + 4) x.src) (a + 8) (BitVec.ofNat 32 x.period)) (a + 12)
      (BitVec.ofNat 32 x.phase)) []
  { regs := regs, mem := (s.mem.filter (fun p => decide (runBase ≤ p.1 ∧ p.1 < runBase + 0x10000))).map (fun p => (p.1 - runBase + stagedBase, p.2)) }

/-- The repetitive instances that serve a slot: EN 1 and naming it (R197). -/
def State.rcFor (s : State) (n : Nat) : List (Fin 4) :=
  (List.finRange 4).filter (fun k => s.on LPT_RC_CFG_EN k.val && s.get LPT_RC_CFG_SLOT k.val == n)

/-- Check 0x3 of a slot, with R197. The whole staged configuration is checked, slots with `LAW` 0 too: of those no state, table or
repetitive controller is in use. -/
def State.rangeOk (s : State) (w : LoopView) (n : Nat) : Bool :=
  let nr := w.get LPS_CFG_NREG n
  let ns := w.get LPS_CFG_NSTATE n
  let xsrc := (w.coef n 0x310 % 2 ^ 32).toNat
  let t := fun (k : Nat) => w.coef n (0x2FC + 4 * k)
  decide (w.law n ≤ 5) && decide (w.get LPS_CFG_FF_SEL n ≤ 2) &&
  sourceOk (w.get LPS_SRC_MEAS n) && sourceOk (w.get LPS_SRC_REF n) && (nr == 0 || sourceOk (w.get LPS_SRC_SCHED n)) &&
  destOk (w.get LPS_SRC_DST n) &&
  (w.law n != 4 || (List.range ns).all (fun k => sourceOk (xsrc / 256 ^ k % 256))) &&
  decide (w.get LPS_PHASE_PHASE n < w.get LPS_PERIOD_PERIOD n) &&
  (List.range (nr + 1)).all (fun r => decide (w.coef n (0xC0 * r) ≤ w.coef n (0xC0 * r + 4))) &&
  (List.range (nr - 1)).all (fun k => decide (t (k + 1) < t (k + 2))) &&
  decide (0 ≤ w.coef n 0x30C) &&
  (w.law n != 5 || (List.range (nr + 1)).all (fun r => decide (0 ≤ w.coef n (0xC0 * r + 0x14) ∧ w.coef n (0xC0 * r + 0x14) ≤ 24))) &&
  (w.law n == 0 || w.get LPS_CFG_FF_SEL n != 2 ||
    ((s.rcFor n).length == 1 && (s.rcFor n).all (fun k =>
      decide (s.get LPT_RC_CFG_M k.val < s.get LPT_RC_CFG_N k.val) && decide (2 ≤ s.get LPT_RC_CFG_N k.val))))

/-- Check 0x4: an earlier active slot has the same destination. -/
def LoopView.destTaken (w : LoopView) (n : Nat) : Bool :=
  w.get LPS_SRC_DST n != 0 && w.active.any (fun m => decide (m < n) && w.get LPS_SRC_DST m == w.get LPS_SRC_DST n)

/-- Check 0x5 of a slot: `AY` and `AD`, and R150. -/
def LoopView.coefsOk (w : LoopView) (n : Nat) : Bool :=
  (List.range (w.get LPS_CFG_NREG n + 1)).all (fun r =>
    let g := fun (off : Nat) => w.coef n (0xC0 * r + off)
    if w.law n = 1 then decide (0 < g 0x20 ∧ g 0x20 ≤ coefOne) && decide (0 < g 0x24 ∧ g 0x24 ≤ coefOne)
    else if w.law n = 2 ∨ w.law n = 3 then (expandIir (w.law n) g).all coefFits && polesOk (w.law n) g
    else true)

/-- Multiply-accumulates per sample and W in ns (R165). -/
def LoopView.cost (w : LoopView) (pair : Bool) (n : Nat) : Nat × Nat :=
  let b : Nat × Nat := match w.law n with
    | 1 => (8, 120)
    | 2 => (7, 110)
    | 3 => (10, 160)
    | 4 => (3 + (w.get LPS_CFG_NSTATE n + 1), 80 + 10 * (w.get LPS_CFG_NSTATE n + 1))
    | _ => (3, 90)
  let b := match w.get LPS_CFG_FF_SEL n with
    | 1 => (b.1 + 2, b.2 + 30)
    | 2 => (b.1 + 6, b.2 + 60)
    | _ => b
  let b := if 0 < w.get LPS_CFG_NREG n then (b.1, b.2 + 20) else b
  if pair && w.get LPS_CFG_CRIT n == 1 then (2 * b.1, b.2 + 20) else b

/-- The declared load of the slots, in kMAC/s; a period of p fine units is p × 20 ns. Kept as a fraction over the product of periods
the comparison needs no rounding for: load = Σ macs × 50,000 / p, compared after adding. -/
def LoopView.loadOf (w : LoopView) (pair : Bool) (l : List Nat) : Nat × Nat :=
  l.foldl (fun a n =>
    let p := w.get LPS_PERIOD_PERIOD n
    (a.1 * p + (w.cost pair n).1 * 50000 * a.2, a.2 * p)) (0, 1)

/-- The first slot at which the total exceeds the limit (R164, 0x7). -/
def LoopView.overload (w : LoopView) (pair : Bool) (limit : Nat) : Option Nat :=
  (w.active).find? (fun n =>
    let q := w.loadOf pair (w.active.filter (fun m => decide (m ≤ n)))
    decide (limit * q.2 < q.1))

/-! ### Lanes (R159, R165, R166) -/

/-- The working lanes, ascending. -/
def State.workingLanes (s : State) : List Nat := (List.range 5).filter (fun k => s.get LPE_LANE_ROLE k == 0)

/-- The lane of lowest utilisation among `ls`, the lower number first; utilisations are fractions. -/
def leastLane (u : Nat → Nat × Nat) : List Nat → Option Nat
  | [] => none
  | l :: ls => match leastLane u ls with
    | none => some l
    | some m => if (u l).1 * (u m).2 ≤ (u m).1 * (u l).2 then some l else some m

/-- Inserts a slot in ascending period, then ascending number. -/
def insertByPeriod (p : Nat → Nat) (n : Nat) : List Nat → List Nat
  | [] => [n]
  | m :: l => if p n < p m ∨ (p n = p m ∧ n < m) then n :: m :: l else m :: insertByPeriod p n l

/-- The lanes of every active slot (R165), in the order the slots are taken. -/
def LoopView.assign (w : LoopView) (pair : Bool) (lanes : List Nat) : List (Nat × List Nat) :=
  let order := w.active.foldl (fun l n => insertByPeriod (w.get LPS_PERIOD_PERIOD) n l) []
  (order.foldl (fun (acc : List (Nat × List Nat) × (List (Nat × Nat))) n =>
    let util := fun (k : Nat) => acc.2.getD k (0, 1)
    let p := w.get LPS_PERIOD_PERIOD n * 20
    let c := (w.cost pair n).2
    let first := leastLane util lanes
    let pick := match first with
      | none => []
      | some a => if pair && w.get LPS_CFG_CRIT n == 1 then
          (match leastLane util (lanes.filter (fun x => x != a)) with | some b => [a, b] | none => [a])
        else [a]
    (acc.1 ++ [(n, pick)],
      (acc.2.zipIdx).map (fun q => if pick.contains q.2 then (q.1.1 * p + c * q.1.2, q.1.2 * p) else q.1)))
    ([], List.replicate 5 (0, 1))).1

/-- The latency test of R166 on one slot. -/
def LoopView.latencyOk (w : LoopView) (pair : Bool) (as : List (Nat × List Nat)) (n : Nat) (lanes : List Nat) : Bool :=
  let W := fun (m : Nat) => (w.cost pair m).2
  let P := fun (m : Nat) => w.get LPS_PERIOD_PERIOD m * 20
  lanes.all (fun l =>
    let js := (as.filter (fun q => q.1 != n && q.2.contains l)).map (fun q => q.1)
    let c := W n + js.foldl (fun m j => max m (W j)) 0 + (js.map (fun j => (P n + P j - 1) / P j * W j)).sum
    let c := if pair && w.get LPS_CFG_CRIT n == 1 then c + W n else c
    decide (10 * c ≤ 8 * P n))

/-- The checks of R164 in the order of its table: result and slot. -/
def State.judgeAdmission (s : State) (w : LoopView) : Nat × Nat :=
  let pair := s.on LPE_PAIR_CTRL_PAIR_EN
  let as := w.assign pair s.workingLanes
  let rcs := w.active.filter (fun n => w.get LPS_CFG_FF_SEL n == 2)
  match (List.range 64).find? (fun n => !s.rangeOk w n) with
  | some n => (3, n)
  | none =>
  match w.active.find? w.destTaken with
  | some n => (4, n)
  | none =>
  match w.active.find? (fun n => !w.coefsOk n) with
  | some n => (5, n)
  | none =>
  match rcs[4]? with
  | some n => (6, n)
  | none =>
  match w.overload pair (s.get LPE_LOAD_LIMIT_LIMIT) with
  | some n => (7, n)
  | none =>
  match w.active.find? (fun n => !w.latencyOk pair as n ((as.find? (fun q => q.1 == n)).map (fun q => q.2) |>.getD [])) with
  | some n => (8, n)
  | none => if s.get LPT_TUNE_STAT_STATE = 1 then (9, s.get LPT_TUNE_CFG_SLOT) else (2, 0)

/-! ### Slots -/

def State.slot (s : State) (n : Fin 64) : LoopSlot := s.lpe.slots.get n

def State.setSlot (s : State) (n : Fin 64) (x : LoopSlot) : State :=
  { s with lpe := { s.lpe with slots := s.lpe.slots.set n x } }

/-- The set a running slot has in region `r`. -/
def State.runSet (s : State) (n : Fin 64) (r : Nat) : LoopSet :=
  let x := s.slot n
  let reg := regionWords s.mem runBase n.val r
  { cfg := x.cfg, reg := reg, xc := expandIir (bitsOf x.cfg 0 3) (fun off => reg.getD (off / 4) 0) }

/-- A slot runs: LAW not 0 in the running configuration (R167). -/
def State.slotActive (s : State) (n : Fin 64) : Bool := bitsOf (s.slot n).cfg 0 3 != 0

/-- The slot's CRC over its running copy (R173). -/
def State.slotCrc (s : State) (n : Nat) : Word := crc32c (slotBytes s.mem runBase n)

/-- Writes an output to the slot's destination port, which is kept for R167. -/
def State.writePort (s : State) (port : Nat) (v : Int) : State :=
  { s with lpe := { s.lpe with ports := put (fun _ => 0) s.lpe.ports port v, written := s.lpe.written ||| 2 ^ port } }

def State.port (s : State) (p : Nat) : Int := look (fun _ => 0) s.lpe.ports p

/-- Whether a slot that runs and is not in FAULT names a destination (R259, R255). -/
def State.portDriven (s : State) (p : Nat) : Bool :=
  (List.finRange 64).any (fun n => s.slotActive n && bitsOf (s.slot n).src 24 8 == p && !s.on LPS_STAT_FAULT n.val)

/-- A slot enters FAULT and acts by FAULT_ACT (R172). -/
def State.slotFault (s : State) (n : Fin 64) : State :=
  if s.on LPS_STAT_FAULT n.val then s
  else
    let x := s.slot n
    let s := (s.setB LPS_STAT_FAULT true n.val).event .slotFault 0 [n.val]
    if x.cfg.getLsbD 13 then
      let safe := coefWord s.mem runBase n.val 0x314
      let s := s.writePort (bitsOf x.src 24 8) safe
      s.setSlot n { s.slot n with out := safe, wrote := true }
    else s

/-- `LPE_COEF_CRC` (R177): over the results of the active slots, in slot order. -/
def State.coefCrc (s : State) : Word :=
  crc32c (((List.finRange 64).filter (fun n => s.slotActive n)).map (fun n => leBytes 4 (s.slotCrc n.val).toNat)).flatten

/-- Whether the staged values of a slot differ from its running ones (R163); before tick g none is staged for the engine, which admits what the
registers then hold (R168), and the bits read their reset 0. -/
def State.slotStaged (s : State) (n : Fin 64) : Bool :=
  let x := s.slot n
  let a := 0x34040 + 0x18 * n.val
  s.boot.g.isSome && (s.reg a != x.cfg || s.reg (a + 4) != x.src || s.get LPS_PERIOD_PERIOD n.val != x.period || s.get LPS_PHASE_PHASE n.val != x.phase ||
    slotBytes s.mem stagedBase n.val != slotBytes s.mem runBase n.val)

/-- Marks, before the running copy is replaced, how the slot takes the admitted values (R167): a bumpless start, a transfer, a stop, or
nothing. DESIGN CHOICE: an active slot whose `LAW` changes to another law starts bumpless, since the states of the two laws are not the same;
and a change of `LPS_CFG` without one of `LAW` is taken, and counted, as a transfer of R170 between the two sets (log entry 71). -/
def State.takeSlot (s : State) (w : LoopView) (as : List (Nat × List Nat)) (n : Fin 64) : State :=
  let x := s.slot n
  let a := 0x34040 + 0x18 * n.val
  let coefs := slotBytes w.mem stagedBase n.val != slotBytes s.mem runBase n.val
  let cfg := w.reg a
  let lanes := ((as.find? (fun q => q.1 == n.val)).map (fun q => q.2)).getD []
  let was := bitsOf x.cfg 0 3
  let law := bitsOf cfg 0 3
  let changed := coefs || cfg != x.cfg
  let y : LoopSlot := { x with
    cfg := cfg, src := w.reg (a + 4), period := w.get LPS_PERIOD_PERIOD n.val, phase := w.get LPS_PHASE_PHASE n.val, lanes := lanes
    start := law != 0 && (was != law || x.start)
    fresh := law != 0 && (was != law || x.fresh)
    old := if law != 0 && was == law && changed then
        (match x.old with
          | some o => some o
          | none => some (s.runSet n (s.get LPS_STAT_REGION n.val)))
      else none
    ref := crc32c (slotBytes w.mem stagedBase n.val) }
  let s := (s.setSlot n y).setB LPS_STAT_ACTIVE (law != 0) n.val
  if law = 0 then ((s.set LPS_STAT_REGION 0 n.val).setB LPS_STAT_SAT false n.val).setB LPS_STAT_INPUT_INVALID false n.val else s

/-- Copies the admitted coefficients into the running copy. -/
def State.copyCoefs (s : State) (m : List Host.Cell) : State :=
  let s := { s with mem := s.mem.filter (fun p => decide (p.1 < runBase ∨ runBase + 0x10000 ≤ p.1)) }
  m.foldl (fun s p => s.setByte (p.1 - stagedBase + runBase) p.2) s

/-- The declared load of a configuration in kMAC/s, rounded half to even for its register. -/
def LoopView.loadWord (w : LoopView) (pair : Bool) : Nat :=
  let q := w.loadOf pair w.active
  (divHalfEven q.1 q.2).toNat

/-- `LPE_LANE.NSLOT` counts the running slots of each lane. -/
def State.showLanes (s : State) : State :=
  s.each (List.range 5) (fun s k =>
    s.set LPE_LANE_NSLOT ((List.finRange 64).filter (fun n => s.slotActive n && (s.slot n).lanes.contains k)).length k)

/-- `PAIR_EN` changes while slots run: a critical slot runs on two lanes or on one from then on (R160, R165). DESIGN CHOICE: the lanes of the
running configuration are assigned afresh, as an admission assigns them, and its load is counted anew (log entry 71). -/
def State.relane (s : State) : State :=
  let w := s.runView
  let pair := s.on LPE_PAIR_CTRL_PAIR_EN
  let as := w.assign pair s.workingLanes
  let s := s.each (List.finRange 64) (fun s n =>
    s.setSlot n { s.slot n with lanes := ((as.find? (fun q => q.1 == n.val)).map (fun q => q.2)).getD [] })
  (s.set LPE_LOAD_ACT_LOAD (w.loadWord pair)).showLanes

/-- A configuration is admitted (R165, R167). DESIGN CHOICE: `LPE_COEF_BAD` clears at a successful admission, which takes new references; the spec
names no other clear (log entry 71). -/
def State.admitView (s : State) (w : LoopView) : State :=
  let pair := s.on LPE_PAIR_CTRL_PAIR_EN
  let as := w.assign pair s.workingLanes
  let s := s.storedChange.each (List.finRange 64) (fun s n => s.takeSlot w as n)
  let s := (s.copyCoefs w.mem).showLanes
  let s := ((s.set LPE_LOAD_ACT_LOAD (w.loadWord pair)).set LPE_COEF_BAD_SLOTS 0 0).set LPE_COEF_BAD_SLOTS 0 1
  let c := s.coefCrc.toNat
  (s.set LPE_COEF_CRC_CRC c).set LPE_COEF_REF_REF c

/-- The result of an admission reaches `LPE_ADMIT_STAT`. -/
def State.admitResult (s : State) (result slot : Nat) : State :=
  let s := (s.set LPE_ADMIT_STAT_RESULT result).set LPE_ADMIT_STAT_SLOT slot
  s.iff (result == 2) (fun s => s.inc LPE_ADMIT_STAT_ADMITS)

/-- The staged configuration adds declared load to the running one (R46). -/
def State.addsLoad (s : State) (w : LoopView) : Bool :=
  let pair := s.on LPE_PAIR_CTRL_PAIR_EN
  let a := s.runView.loadOf pair s.runView.active
  let b := w.loadOf pair w.active
  decide (a.1 * b.2 < b.1 * a.2)

/-- LPE_CMD.ADMIT (R164): the snapshot is taken; ADMIT_BUSY is 1 until the result is set. Where it adds declared load the core is raised to
0.85 V first, and held there (R46). An ADMIT while busy has no effect. -/
def State.admitStart (s : State) (tune : Bool) : State :=
  match s.lpe.admission with
  | some _ => s
  | none =>
    let w := s.loopView
    let a : Admission := { at_ := s.tick, adds := s.addsLoad w, regs := w.regs, mem := w.mem, tune := tune,
                           vcore := s.get SYS_VCORE_STAT_VCORE, forced := s.tb.forcedSince }
    let s := (s.set LPE_ADMIT_STAT_RESULT 1).iff a.adds State.vcoreMax
    { s with lpe := { s.lpe with admission := some a } }

/-- DISCARD (R163): every staged value returns to the running value. -/
def State.discardStaged (s : State) : State :=
  let s := s.each (List.finRange 64) (fun s n =>
    let x := s.slot n
    let a := 0x34040 + 0x18 * n.val
    (((s.setReg a x.cfg).setReg (a + 4) x.src).set LPS_PERIOD_PERIOD x.period n.val).set LPS_PHASE_PHASE x.phase n.val)
  let run := s.mem.filter (fun p => decide (runBase ≤ p.1 ∧ p.1 < runBase + 0x10000))
  let s := { s with mem := s.mem.filter (fun p => decide (p.1 < stagedBase ∨ stagedBase + 0x10000 ≤ p.1)) }
  run.foldl (fun s p => s.setByte (p.1 - runBase + stagedBase) p.2) s

/-- A write to the coefficient window at offset `off` (R163, R174), after its access check: staged, or ignored. Of writes that coincide the
one of the higher rank stands (R48). -/
def State.coefWrite (s : State) (r : Requester) (off : Nat) (w : Word) : State :=
  if coefSpot off = .word then s.ranked r (stagedBase + off) (fun s => s.store (stagedBase + off) w) else s

/-- The 64-bit word of a state, lower word first. -/
def stateWord (x : Int) (hi : Bool) : Nat := ofSigned 32 (if hi then x.fdiv (2 ^ 32) else x)

/-- A read of the coefficient window (R163, R174). DESIGN CHOICE: the state words that the table of R174 gives the slot's law no state show
the model's own words there, v and uc of the last sample in s4 and s5 and 0 in s6 and s7; and the expanded coefficients of a slot that is no
IIR slot show the expansion of what its region holds (log entry 71). -/
def State.coefRead (s : State) (off : Nat) : Nat :=
  let o := off % 0x400
  let n := Fin.ofNat 64 (off / 0x400)
  let x := s.slot n
  if o < 0x380 then
    (if coefSpot off = .word then (s.load ((if s.on LPE_VIEW_ACTIVE then runBase else stagedBase) + off)).toNat else 0)
  else if o < 0x3C0 then stateWord (x.st.toList.getD ((o - 0x380) / 8) 0) (o % 8 == 4)
  else if o < 0x3E0 then ofSigned 32 ((s.runSet n (s.get LPS_STAT_REGION n.val)).xc.getD ((o - 0x3C0) / 4) 0)
  else if o = 0x3E0 then ofSigned 32 x.out
  else if o = 0x3E4 then ofSigned 32 x.lastE
  else if o = 0x3E8 then x.lastTick % 2 ^ 32
  else 0

/-! ### Lane tests (R162) -/

/-- A self-test of a retired lane begins, and finds `pass`. DESIGN CHOICE: it ends with the tick it begins in; the spec gives no duration (log
entry 71). -/
def State.laneTest (s : State) (k : Fin 5) (pass : Bool) : State :=
  if s.get LPE_LANE_ROLE k.val ≠ 2 then s
  else
    let s := { s with lpe := { s.lpe with testAt := s.lpe.testAt.set k s.tick, testing := s.lpe.testing.set k (some pass) } }
    s.set LPE_LANE_ROLE 3 k.val

/-- A self-test ends: passes are counted, and after TESTS_REQ consecutive passes the lane becomes the spare while REARM is 1. -/
def State.laneTested (s : State) (k : Fin 5) : State :=
  match s.lpe.testing.get k with
  | none => s
  | some pass =>
    let tests : Vector (Option Bool) 5 := s.lpe.testing.set k none
    let s : State := { s with lpe := { s.lpe with testing := tests } }
    let s := s.set LPE_LANE_ROLE 2 k.val
    let s := if pass then s.inc LPE_LANE_PASSES k.val else s.set LPE_LANE_PASSES 0 k.val
    if s.on LPE_PAIR_CTRL_REARM ∧ s.get LPE_PAIR_CTRL_TESTS_REQ ≤ s.get LPE_LANE_PASSES k.val then
      (s.set LPE_LANE_ROLE 1 k.val).event .laneRearmed 0 [k.val]
    else s

/-- The self-tests of a tick end with it. -/
def State.laneTick (s : State) : State :=
  if s.lpe.testing.toList.all Option.isNone then s else (s.each (List.finRange 5) State.laneTested).settle

/-- Utilisation Σ W/P of a lane by the slots that run on it, as a fraction. -/
def State.laneUse (s : State) (w : LoopView) (pair : Bool) (k : Nat) : Nat × Nat :=
  (w.active.filter (fun n => (s.slot (Fin.ofNat 64 n)).lanes.contains k)).foldl (fun a n =>
    let p := w.get LPS_PERIOD_PERIOD n * 20
    (a.1 * p + (w.cost pair n).2 * a.2, a.2 * p)) (0, 1)

/-- A slot leaves lane `k` for the working lane of lowest utilisation that it does not run on (R162, R165). -/
def State.replace (s : State) (w : LoopView) (k : Nat) (n : Fin 64) : State :=
  let x := s.slot n
  if !x.lanes.contains k then s
  else
    let pair := s.on LPE_PAIR_CTRL_PAIR_EN
    let rest := x.lanes.filter (fun q => q != k)
    let free := s.workingLanes.filter (fun l => !rest.contains l)
    s.setSlot n { x with lanes := rest ++ (leastLane (s.laneUse w pair) free).toList }

/-- Capacity and limit follow the number of working lanes (R162). -/
def State.showCapacity (s : State) : State :=
  let n := s.workingLanes.length
  ((s.set LPE_LANE_CAP_WORKING n).set LPE_LANE_CAP_CAP (80000 * n)).set LPE_LOAD_LIMIT_LIMIT (60000 * n)

/-- A lane is retired and the spare, if there is one, takes its place (R161, R162). -/
def State.retireLane (s : State) (k : Nat) : State :=
  let spare := (List.range 5).find? (fun l => s.get LPE_LANE_ROLE l == 1)
  let s := ((s.set LPE_LANE_ROLE 2 k).set LPE_LANE_PASSES 0 k).inc LPE_LANE_DISAGREE k
  let s := if h : k < 5 then { s with lpe := { s.lpe with testAt := s.lpe.testAt.set k s.tick } } else s
  match spare with
  | some l =>
    let s := ((s.set LPE_LANE_ROLE 0 l).inc LPE_PAIR_CNT_TAKEOVERS).set LPE_LANE_NSLOT (s.get LPE_LANE_NSLOT k) l
    let swap := fun (x : LoopSlot) => { x with lanes := x.lanes.map (fun q => if q = k then l else q) }
    (({ s with lpe := { s.lpe with slots := s.lpe.slots.map swap } }).set LPE_LANE_NSLOT 0 k).showCapacity
  | none =>
    let w := s.runView
    let order := w.active.foldl (fun l n => insertByPeriod (w.get LPS_PERIOD_PERIOD) n l) []
    (s.showCapacity.each order (fun s n => s.replace w k (Fin.ofNat 64 n))).showLanes

end Sys2Proof.Machine
end

