-- ==== Sys2Proof/Machine/Tune.lean ====
section
/-! DEFINITION. Relay auto-tune, the line-phase tracker, line-phase tables and repetitive controllers (file 07). -/

namespace Sys2Proof.Machine

/-! ### Relay auto-tune (R179 to R186) -/

def State.tuneState (s : State) : Nat := s.get LPT_TUNE_STAT_STATE

def State.setTune (s : State) (x : Tune) : State := { s with lpt := { s.lpt with tune := x } }

/-- The slot named for tuning. -/
def State.tuneSlot (s : State) : Fin 64 := Fin.ofNat 64 (s.get LPT_TUNE_CFG_SLOT)

/-- The relay of R180 replaces the law of a slot (R153). -/
def State.tuning (s : State) (n : Fin 64) : Bool := s.tuneState == 1 && s.tuneSlot == n

/-- R179: every condition of a start. -/
def State.tuneMayStart (s : State) : Bool :=
  let n := s.tuneSlot
  let x := s.slot n
  let c := s.runSet n (s.get LPS_STAT_REGION n.val)
  let u0 := x.st[5] - x.lastFf
  let d := c.acc (s.get LPT_TUNE_AMP_D)
  s.on LPT_CTRL_TUNE_EN && s.full && s.power == .normal && c.law == 1 && !s.on LPS_STAT_FAULT n.val &&
  s.lpe.admission.isNone && s.get LPS_STAT_REGION n.val == s.get LPT_TUNE_CFG_REGION && s.get LPT_TUNE_AMP_D != 0 &&
  s.tuneState != 1 && decide (u0 + d ≤ c.hi) && decide (c.lo ≤ u0 - d)

/-- The relay ends: the slot returns to its law at its next request by the bumpless start of R167. -/
def State.tuneEnd (s : State) (state result field : Nat) : State :=
  let n := s.tuneSlot
  let s := (s.setSlot n { s.slot n with start := true }).setB LPS_STAT_TUNING false n.val
  ((s.set LPT_TUNE_STAT_STATE state).set LPT_TUNE_STAT_RESULT result).set LPT_TUNE_STAT_FIELD field

/-- A running relay is aborted (R182). -/
def State.tuneAbort (s : State) (result : Nat) : State := s.iff (s.tuneState == 1) (fun s => s.tuneEnd 0 result 0)

def State.tuneStart (s : State) : State :=
  if s.tuneMayStart then
    let s := ((s.set LPT_TUNE_STAT_STATE 1).set LPT_TUNE_STAT_RESULT 1).set LPT_TUNE_STAT_FIELD 0
    let s := ((s.set LPT_TUNE_STAT_DONE 0).inc LPT_TUNE_STAT_TUNES).setB LPS_STAT_TUNING true s.tuneSlot.val
    s.setTune { began := s.tick }
  else s.set LPT_TUNE_STAT_RESULT 8

/-- TUNE_ABORT (R182, R186): in PROPOSED it discards the proposal. -/
def State.tuneAbortCmd (s : State) : State :=
  if s.tuneState = 1 then s.tuneAbort 4
  else if s.tuneState = 2 then (s.set LPT_TUNE_STAT_STATE 0).set LPT_TUNE_STAT_RESULT 4
  else s

/-- π to 35 decimals, as a fraction: no quotient of R183 lies closer to a rounding boundary. -/
def piNum : Nat := 314159265358979323846264338327950288
def piDen : Nat := 10 ^ 35

/-- √(a / b) rounded to nearest. -/
def sqrtRound (a b : Nat) : Nat := (isqrt (4 * a / b) + 1) / 2

/-- Ku of R183 in 1/65,536, from d and AU, saturating in its 32 bits (R5). -/
def kuOf (d au : Nat) : Nat := min (divHalfEven (4 * d * piDen * 65536) (piNum * au)).toNat 0xFFFFFFFF

/-- The proposal of R183 and R184: KP, KI, KD, KT in S4.27 from Ku, Tu, P, S and RULE. -/
def proposal (rule ku tu p sh : Nat) : List Int :=
  let one : Nat := 2 ^ 27
  let num : Nat := ku * 2 ^ sh * one
  let q (n d : Nat) : Int := divHalfEven n d
  match rule with
  | 0 => [q (num * 6) (65536 * 10), q (num * 6 * p * 2) (65536 * 10 * tu), q (num * 6 * tu) (65536 * 10 * 8 * p), q (p * 4 * one) tu]
  | 1 => [q (num * 2) (65536 * 10), q (num * 2 * p * 2) (65536 * 10 * tu), q (num * 2 * tu) (65536 * 10 * 3 * p),
      sqrtRound (6 * p * p * one * one) (tu * tu)]
  | 2 => [q (num * 45) (65536 * 100), q (num * 45 * p * 12) (65536 * 100 * tu * 10), 0, q (p * 12 * one) (tu * 10)]
  | _ => [q (num * 25) (65536 * 100), q (num * 25 * p) (65536 * 100 * tu), 0, q (p * one) tu]

/-- The forming step (R184): the first coefficient out of range ends the tune with 0x9. -/
def State.tunePropose (s : State) (fromRelay : Bool) : State :=
  let n := s.tuneSlot
  let x := s.slot n
  let l := proposal (s.get LPT_TUNE_CFG_RULE) (s.get LPT_TUNE_KU_KU) (max 1 (s.get LPT_TUNE_TU_TU)) x.period (bitsOf x.cfg 6 4)
  let fin (state result field : Nat) (s : State) : State :=
    if fromRelay then s.tuneEnd state result field
    else ((s.set LPT_TUNE_STAT_STATE state).set LPT_TUNE_STAT_RESULT result).set LPT_TUNE_STAT_FIELD field
  match l.findIdx? (fun c => !coefFits c) with
  | some i => fin 0 9 (i + 1) s
  | none =>
    let s := (s.setI LPT_PROP_KP_VAL (l.getD 0 0)).setI LPT_PROP_KI_VAL (l.getD 1 0)
    fin 2 2 0 ((s.setI LPT_PROP_KD_VAL (l.getD 2 0)).setI LPT_PROP_KT_VAL (l.getD 3 0))

/-- The relay has converged (R181). -/
def State.tuneConverged (s : State) (ps : List (Nat × Int)) : State :=
  let n := ps.length
  let tu := (divHalfEven ((ps.map (fun p => p.1)).sum : Nat) n).toNat
  let au := (divHalfEven ((ps.map (fun p => p.2)).sum) (2 * n)).toNat
  let s := (s.set LPT_TUNE_TU_TU tu).set LPT_TUNE_AU_AU au
  if s.get LPT_TUNE_HYST_HYST * 4 ≤ au then
    let s := (s.set LPT_TUNE_KU_KU (kuOf (s.get LPT_TUNE_AMP_D) (max 1 au))).setTune { s.lpt.tune with held := true }
    s.tunePropose true
  else s.tuneEnd 0 0xC 0

/-- One relay sample (R180 to R182): the unclamped and the clamped value, and the state after it. `e` has 27 fractional bits, `ff` is the
feed-forward term, `tau` the request's fine time. DEDUCED: e is r − y, since the relay replaces the law and its measurement filter is not
updated; the sample that ends the relay still writes the relay's value (log entry 72). -/
def State.tuneSample (s : State) (n : Fin 64) (c : LoopSet) (y e ff low up : Int) (tau : Nat) : Int × Int × State :=
  let x := s.slot n
  let t := s.lpt.tune
  let first := t.u0.isNone
  let u0 := t.u0.getD (x.st[5] - x.lastFf)
  let hyst : Int := (s.get LPT_TUNE_HYST_HYST : Int) * 2 ^ 27
  let sig0 := if first then decide (0 ≤ e) else t.sigma
  let sig := if first then sig0 else if hyst < e then true else if e < -hyst then false else t.sigma
  let v := sat64 (sat64 (u0 + (if sig then 1 else -1) * c.acc (s.get LPT_TUNE_AMP_D)) + ff)
  let uc := clampI low up v
  let upSw := !first && sig && !t.sigma
  let dev := decide ((s.get LPT_TUNE_DEV_DEV : Int) * 2 ^ 27 < (e.natAbs : Int))
  let yMin := if first then y else min t.yMin y
  let yMax := if first then y else max t.yMax y
  if dev then (v, uc, s.tuneAbort 5)
  else if !upSw then
    (v, uc, s.setTune { t with u0 := some u0, sigma := sig, began := if first then s.tick else t.began, yMin := yMin, yMax := yMax })
  else
    match t.lastUp with
    | none => (v, uc, s.setTune { t with u0 := some u0, sigma := sig, lastUp := some tau, yMin := y, yMax := y })
    | some t0 =>
      let seen := t.seen + 1
      let ps := if 2 < seen then ((tau - t0, yMax - yMin) :: t.periods).take (s.get LPT_TUNE_CFG_CYCLES) else []
      let s := (s.setTune { t with u0 := some u0, sigma := sig, lastUp := some tau, yMin := y, yMax := y, seen := seen, periods := ps }).set
        LPT_TUNE_STAT_DONE ps.length
      let ls := ps.map (fun p => p.1)
      let ds := ps.map (fun p => p.2)
      let lo (l : List Nat) : Nat := l.foldl min (l.headD 0)
      let hi (l : List Nat) : Nat := l.foldl max 0
      let dl := ds.map Int.toNat
      if ps.length = s.get LPT_TUNE_CFG_CYCLES ∧ 20 * hi ls ≤ 21 * lo ls ∧ 20 * hi dl ≤ 21 * lo dl then (v, uc, s.tuneConverged ps)
      else (v, uc, s)

/-- TUNE_APPLY (R185): the proposal is staged and an admission begins. -/
def State.tuneApply (s : State) : State :=
  if s.tuneState ≠ 2 then s
  else if (List.finRange 64).any (fun n => s.slotStaged n) then s.set LPT_TUNE_STAT_RESULT 0xA
  else
    let a := stagedBase + 0x400 * s.tuneSlot.val + 0xC0 * s.get LPT_TUNE_CFG_REGION
    let s := (s.store (a + 0x10) (s.reg LPT_PROP_KP_VAL.addr)).store (a + 0x14) (s.reg LPT_PROP_KI_VAL.addr)
    let s := (s.store (a + 0x18) (s.reg LPT_PROP_KD_VAL.addr)).store (a + 0x1C) (s.reg LPT_PROP_KT_VAL.addr)
    s.admitStart true

/-! ### Line-phase tracker (R187, R188) -/

def State.setLine (s : State) (x : Tracker) : State := { s with lpt := { s.lpt with line := x } }

/-- One cycle, in the unit of the tracker's phase: a tick at 1 µHz. -/
def oneCycle : Nat := 10 ^ 12

/-- Tracker frequency in µHz. -/
def State.lineFreq (s : State) : Nat := s.get LPT_LP_FREQ_FREQ

/-- The line phase in this tick. -/
def State.linePhase (s : State) : Nat :=
  if s.on LPT_LP_CTRL_EN then (s.lpt.line.phase + (s.tick - s.lpt.line.at_) * s.lineFreq) % oneCycle else s.lpt.line.phase

/-- The line phase at a time `back` fine units before the start of this tick, or `fine` after it. -/
def State.linePhaseAt (s : State) (fine : Int) : Nat :=
  if s.on LPT_LP_CTRL_EN then (((s.linePhase : Int) + (fine * s.lineFreq).fdiv 50) % (oneCycle : Int)).toNat else s.lpt.line.phase

/-- φ of R187: 16 bits, at the start of this tick, and at a fine unit of it. -/
def State.phi (s : State) : Nat := s.linePhase * 65536 / oneCycle
def State.phiAt (s : State) (fine : Nat) : Nat := s.linePhaseAt fine * 65536 / oneCycle

/-- A fade factor of 1: 360,360 is a multiple of every number of fade cycles. -/
def fadeOne : Nat := 360360 * oneCycle

/-- What a fade moves in `n` ticks (R188): linearly over FADE cycles. -/
def State.fadeStep (s : State) (n : Nat) : Nat := n * s.lineFreq * (360360 / max 1 (s.get LPT_LP_PLL_FADE))

/-- The fade factor in this tick. -/
def State.fadeFactor (s : State) : Nat :=
  let x := s.lpt.line
  if x.dir < 0 then x.fade - s.fadeStep (s.tick - x.fadeAt)
  else if 0 < x.dir then min fadeOne (x.fade + s.fadeStep (s.tick - x.fadeAt))
  else x.fade

/-- A fade or a rise is in progress (R199): it ends at 0 or at 1. -/
def State.fadeMoving (s : State) : Bool :=
  (decide (s.lpt.line.dir < 0) && s.fadeFactor != 0) || (decide (0 < s.lpt.line.dir) && s.fadeFactor != fadeOne)

/-- The factor of one bank: from its failure a bank that failed R191 fades out. -/
def State.bankFactor (s : State) (b : Fin 8) : Nat :=
  match s.lpt.line.badAt.get b with
  | none => fadeOne
  | some (f, t) => f - s.fadeStep (s.tick - t)

/-- Phase and fades go on from where they are in this tick, as a change of the frequency or of `FADE` needs: neither steps. -/
def State.lineHere (s : State) (x : Tracker) : Tracker :=
  { x with phase := s.linePhase, at_ := s.tick, fade := s.fadeFactor, fadeAt := s.tick
           badAt := Vector.ofFn (fun b => (x.badAt.get b).map (fun _ => (s.bankFactor b, s.tick))) }

def sourcePresent (k : Fin 3) : Field :=
  if k = 0 then LPT_LP_STAT_A_PRESENT else if k = 1 then LPT_LP_STAT_B_PRESENT else LPT_LP_STAT_RIP_PRESENT

/-- The source R188 chooses: 0 none, 1 to 3. -/
def State.lineChoice (s : State) : Nat :=
  let p := fun (k : Fin 3) => s.on (sourcePresent k)
  match s.get LPT_LP_CTRL_SRC with
  | 0 => if p 0 then 1 else if p 1 then 2 else if p 2 then 3 else 0
  | 1 => if p 0 then 1 else 0
  | 2 => if p 1 then 2 else 0
  | _ => if p 2 then 3 else 0

/-- Starts the fade factor moving from its present value. -/
def State.fadeGo (s : State) (dir : Int) : State :=
  s.setLine { s.lpt.line with fade := s.fadeFactor, fadeAt := s.tick, dir := dir }

/-- Takes the source R188 chooses; with none left, LOCKED clears and the flywheel begins. -/
def State.lineChoose (s : State) : State :=
  let c := s.lineChoice
  let was := s.get LPT_LP_STAT_SRC_USED
  let s := s.set LPT_LP_STAT_SRC_USED c
  if c = 0 ∧ was ≠ 0 then
    let fly := if s.lineFreq = 0 then 0 else (s.get LPT_LP_PLL_FLY * oneCycle + s.lineFreq - 1) / s.lineFreq
    let s := (s.setB LPT_LP_STAT_LOCKED false).setB LPT_LP_STAT_FLYWHEEL true
    s.setLine { s.lpt.line with flyEnd := some (s.tick + fly), good := 0 }
  else s

/-- The phase at the source's crossing, `back` fine units before the start of this tick, from the nearest zero of the source (R187): for the
ripple, multiples of 1/RIPPLE_MULT. Positive where φ is ahead. -/
def State.phaseError (s : State) (k : Fin 3) (back : Int) : Int :=
  let mult := match s.get LPT_LP_CTRL_RIPPLE_MULT with | 0 => 1 | 1 => 2 | 2 => 3 | _ => 6
  let span := if k = 2 then oneCycle / mult else oneCycle
  let p := s.linePhaseAt (-back) % span
  if 2 * p ≤ span then p else (p : Int) - span

/-- The greatest change of the phase that one correction makes, and of the frequency in µHz: those of a loop of bandwidth
B = 0.25 Hz × 2^BW corrected at `f` µHz, 2πB/f of the phase error, never more than the whole of it, and (2πB)²/f of it (R187; π below 22/7,
log entry 73). -/
def State.pllBound (s : State) (err f : Nat) : Nat × Nat :=
  let b := 250000 * 2 ^ s.get LPT_LP_PLL_BW
  (min err (err * 44 * b / (7 * max 1 f)), err * 44 * 44 * b * b / (49 * max 1 f * oneCycle))

/-- One correction of the loop from the source in use: the lock judgement of R188, then φ and the frequency are pulled towards the crossing
at the loop bandwidth, with no step. The spec gives the bandwidth and no law, so that how far each moves is a free value up to the bound
of the bandwidth; the first frequency estimate is a free value within the lock range (log entries 1 and 73). -/
def State.lineCorrect (s : State) (k : Fin 3) (back : Int) : State :=
  let e := s.phaseError k back
  let ok := decide (e.natAbs * 256 ≤ s.get LPT_LP_PLL_LOCK_TOL * oneCycle)
  let good := if ok then s.lpt.line.good + 1 else 0
  let f := s.lineFreq
  let bound := s.pllBound e.natAbs f
  let d1 := s.draw
  let d2 := d1.2.draw
  let dp : Int := e.sign * (d1.1 % (bound.1 + 1 : Nat))
  let f' : Int := if f = 0 then 45000000 + d2.1 % 21000001 else clampI 45000000 66000000 (f - e.sign * (d2.1 % (bound.2 + 1 : Nat)))
  let x := s.lineHere s.lpt.line
  let y := { x with phase := ((x.phase - dp) % (oneCycle : Int)).toNat, good := good }
  let s := ({ s with free := d2.2.free }).setLine y
  let s := s.set LPT_LP_FREQ_FREQ f'.toNat
  if !ok then s.setB LPT_LP_STAT_LOCKED false
  else if 5 ≤ good ∧ !s.on LPT_LP_STAT_LOCKED then
    let s := (s.setB LPT_LP_STAT_LOCKED true).setB LPT_LP_STAT_FLYWHEEL false
    (s.setLine { s.lpt.line with flyEnd := none }).fadeGo 1
  else s

/-- A conversion of ACSYNC_A or ACSYNC_B (R187): below mid-scale by `ZC_HYST` it makes the next crossing count; a rising crossing of mid-scale
after that is where the line between it and the conversion before crosses, in fine units, and waits for its correction. -/
def State.syncConversion (s : State) (k : Fin 3) (t code : Nat) : State :=
  let x := s.lpt.line.src.get k
  let below := x.below || decide ((code : Int) * 1250 ≤ (625 - (s.get LPT_LP_CTRL_ZC_HYST : Int)) * 16384)
  let y := { x with prev := some (t, code), below := below }
  let z := match x.prev with
    | some (t0, c0) => if x.below ∧ c0 < 8192 ∧ 8192 ≤ code then
        { y with below := false, cross := some (50 * t0 + 50 * (t - t0) * (8192 - c0) / (code - c0)) } else y
    | none => y
  s.setLine { s.lpt.line with src := s.lpt.line.src.set k z }

/-- The conversions of the ACSYNC inputs that the tracker has not yet taken (R130, R187). -/
def State.syncTick (s : State) : State :=
  s.each [0, 1] (fun s k =>
    let m := s.afe.latest.get (Fin.ofNat 64 (56 + k))
    let x := s.lpt.line.src.get (Fin.ofNat 3 k)
    if m.valid && (x.prev.map (fun p => p.1) != some m.tick) then s.syncConversion (Fin.ofNat 3 k) m.tick m.code else s)

/-- The instant a source's crossing is taken at, in fine units: that found in the conversions of an ACSYNC input, that of the ripple
cycle. -/
def State.crossing (s : State) (k : Fin 3) (fine : Fin 50) : Option Nat :=
  if k = 2 then some (50 * s.tick + fine.val) else (s.lpt.line.src.get k).cross

/-- A rising crossing or a ripple cycle at fine time `t` (R187, R188). -/
def State.lineCross (s : State) (k : Fin 3) (t amp : Nat) : State :=
    let x := s.lpt.line.src.get k
    let inRange := match x.last with
      | none => false
      | some t0 => decide ((t - t0) * 45 ≤ 50000000 ∧ 50000000 ≤ (t - t0) * 66)
    let run := if inRange then x.run + 1 else 0
    let s := s.setLine { s.lpt.line with src := s.lpt.line.src.set k { x with last := some t, run := run, cross := none } }
    let s := if k = 2 then s.setB (sourcePresent 2) (decide (s.get LPT_LP_CTRL_RIP_MIN ≤ amp))
      else s.iff (decide (3 ≤ run)) (fun s => s.setB (sourcePresent k) true)
    let s := if k.val < 2 && decide (3 ≤ run) then { s with cnv := { s.cnv with syncSeen := s.cnv.syncSeen.set (Fin.ofNat 2 k.val) true } } else s
    let s := s.lineChoose
    if s.get LPT_LP_STAT_SRC_USED = k.val + 1 then s.lineCorrect k (50 * (s.tick : Int) - t) else s

/-- LINE_CROSSING (R187, R188): the rising crossing of ACSYNC_A (0) or ACSYNC_B (1) that its conversions show, or a ripple cycle (2) that ends
at `fine`, whose demodulated amplitude is `amp` in mV (log entry 73). -/
def execLineCrossing (k : Fin 3) (fine : Fin 50) (amp : Nat) (s : State) : Host.Outcome State Fault Refusal :=
  if !s.on LPT_LP_CTRL_EN ∨ s.boot.g.isNone then done s
  else match s.crossing k fine with
    | some t => done (s.lineCross k t amp)
    | none => done s

/-- A source is lost (R188): no rising crossing for 33,334 ticks, or the ripple below RIP_MIN. -/
def execLineSourceLost (k : Fin 3) (s : State) : Host.Outcome State Fault Refusal :=
  let x := s.lpt.line.src.get k
  let overdue := match x.last with
    | none => true
    | some t => decide (t + 50 * 33334 ≤ 50 * s.tick)
  if s.on (sourcePresent k) && (k == 2 || overdue) then
    let s := (s.setB (sourcePresent k) false).setLine { s.lpt.line with src := s.lpt.line.src.set k { x with run := 0 } }
    done s.lineChoose
  else done s

/-- FLYWHEEL_END (R188): after FLY cycles the fade begins. -/
def execFlywheelEnd (s : State) : Host.Outcome State Fault Refusal :=
  if s.due s.lpt.line.flyEnd then
    let s := (s.setB LPT_LP_STAT_FLYWHEEL false).setLine { s.lpt.line with flyEnd := none }
    done (if s.lineFreq = 0 then s.setLine { s.lpt.line with fade := 0, dir := 0 } else s.fadeGo (-1))
  else done s

/-! ### Line-phase tables (R189 to R191) -/

def tblActive : Nat := 0x1400000
def tblEdit : Nat := 0x1408000

/-- f of a slot with FF_SEL 1 (R189): the entry φ[15:8] of its bank times the fade factors, rounded half to even. -/
def State.tableF (s : State) (n : Fin 64) (fine : Nat) : Int :=
  if !s.on LPT_LP_CTRL_EN then 0
  else
    let b := Fin.ofNat 8 (s.get LPT_LP_SEL_BANK n.val)
    let x := toSigned 32 (s.load (tblActive + 0x400 * b.val + 4 * (s.phiAt fine / 256))).toNat
    divHalfEven (x * s.fadeFactor * s.bankFactor b) (fadeOne * fadeOne)

/-- The bytes of a bank's active copy. -/
def State.bankBytes (s : State) (b : Nat) : List Byte := s.bytes (tblActive + 0x400 * b) 0x400

/-- `LPT_TBL_CRC` over the eight active copies (R191). -/
def State.showTblCrc (s : State) : State := s.set LPT_TBL_CRC_CRC (crc32c (s.bytes tblActive 0x2000)).toNat

/-- A bank swaps: its edit copy becomes the active one and is kept as the edit copy; its reference is taken and TBL_BAD clears. -/
def State.swapBank (s : State) (b : Fin 8) : State :=
  let s := s.setBytes (tblActive + 0x400 * b.val) (s.bytes (tblEdit + 0x400 * b.val) 0x400)
  let x := s.lpt.line
  let y := { x with pending := x.pending.set b false, badAt := x.badAt.set b none, refs := x.refs.set b (crc32c (s.bankBytes b.val)) }
  ((s.setLine y).setBit LPT_LP_STAT_TBL_BAD b.val false).storedChange

/-- Every pending bank swaps. -/
def State.swapPending (s : State) : State :=
  (s.each (List.finRange 8) (fun s b => if s.lpt.line.pending.get b then s.swapBank b else s)).showTblCrc

/-- TBL_COMMIT (R190): marks banks pending; while the fade factor is 0 they swap at once. -/
def State.tblCommit (s : State) (m : Nat) : State :=
  let x := s.lpt.line
  let s := s.setLine { x with pending := Vector.ofFn (fun b => x.pending.get b || m.testBit b.val) }
  if s.fadeFactor = 0 then s.swapPending else s

/-- TBL_SWAP (R190): in a tick in which φ wraps, or while the fade factor is 0. -/
def execTblSwap (s : State) : Host.Outcome State Fault Refusal :=
  if s.lpt.line.pending.toList.any id && (s.fadeFactor == 0 || decide (s.linePhase < s.lineFreq)) then done s.swapPending else done s

/-- LPT_TBL_DATA (R190): a write reaches the edit copy, a read shows the copy VIEW names; INDEX advances with AUTOINC. -/
def State.tblData (s : State) (write : Option Word) : State :=
  let i := s.get LPT_TBL_ADDR_INDEX
  let off := 0x400 * s.get LPT_TBL_ADDR_BANK + 4 * i
  let s := match write with
    | some w => s.store (tblEdit + off) w
    | none => s.reply [(s.load ((if s.on LPT_TBL_ADDR_VIEW then tblActive else tblEdit) + off)).toNat]
  s.iff (s.on LPT_TBL_ADDR_AUTOINC) (fun s => s.set LPT_TBL_ADDR_INDEX (i + 1))

/-- TBL_DATA_ACCESS (R190, R200). -/
def execTblDataAccess (r : Requester) (write : Option Word) (s : State) : Host.Outcome State Fault Refusal :=
  match write with
  | some _ => done (s.gate r LPT_TBL_DATA_DATA.addr (fun s => s.tblData write))
  | none => done (s.gateRead r LPT_TBL_DATA_DATA.addr (fun s => s.tblData none))

/-- A bank's active copy is checked (R191): its CRC against the reference. `bad` says that its stored words have changed under it. -/
def State.bankCheck (s : State) (b : Fin 8) (bad : Bool) : State :=
  if (bad || crc32c (s.bankBytes b.val) != s.lpt.line.refs.get b) && (s.lpt.line.badAt.get b).isNone then
    ((s.setLine { s.lpt.line with badAt := s.lpt.line.badAt.set b (some (fadeOne, s.tick)) }).setBit LPT_LP_STAT_TBL_BAD b.val true).event .tableBad 0
      [b.val]
  else s

/-- TBL_CRC_CHECK (R191): every 1,000 ticks, from tick g. `bad` names banks whose stored words have changed under the reference. -/
def execTblCrcCheck (bad : BitVec 8) (s : State) : Host.Outcome State Fault Refusal :=
  if s.tick % 1000 ≠ 0 ∨ s.boot.g.isNone then done s
  else
    let s := s.each (List.finRange 8) (fun s b => s.bankCheck b (bad.getLsbD b.val))
    done s.showTblCrc

/-! ### Repetitive controllers (R192 to R198) -/

def State.rc (s : State) (k : Fin 4) : Repet := s.lpt.rc.get k

def State.setRc (s : State) (k : Fin 4) (x : Repet) : State := { s with lpt := { s.lpt with rc := s.lpt.rc.set k x } }

def Repet.entry (x : Repet) (j : Nat) : Int := look (fun _ => 0) x.mem j

/-- The position p of a sample requested at a fine unit of this tick (R193). -/
def State.rcPos (s : State) (k : Fin 4) (fine : Nat) : Nat :=
  let n := max 1 (s.get LPT_RC_CFG_N k.val)
  if s.on LPT_RC_CFG_TRACK k.val then s.phiAt fine * n / 65536 else (s.rc k).pos % n

/-- The instances that give a running slot its f: those that serve it, and one that fades out after its EN was written 0 (R195). -/
def State.rcServing (s : State) (n : Nat) : List (Fin 4) :=
  s.rcFor n ++ (List.finRange 4).filter (fun k => !s.on LPT_RC_CFG_EN k.val && (s.rc k).fading.isSome && (s.rc k).slot == n)

/-- A fade begins from the present factor (R195). -/
def State.rcFade (s : State) (k : Fin 4) : State :=
  let n := max 1 (s.get LPT_RC_CFG_N k.val)
  let x := s.rc k
  let f := match x.fading with
    | none => (1, 1, 0)
    | some q => (q.1 * (n - min n q.2.2), q.2.1 * n, 0)
  if s.get LPT_RC_STAT_STATE k.val = 0 then s
  else (s.setRc k { x with fading := some f }).set LPT_RC_STAT_STATE 3 k.val

/-- An instance starts in the first sample after it and its slot are both running, with all entries 0 (R197). -/
def State.rcStart (s : State) (k : Fin 4) : State :=
  if s.get LPT_RC_STAT_STATE k.val = 0 then
    ((s.setRc k { started := true, slot := s.get LPT_RC_CFG_SLOT k.val }).set LPT_RC_STAT_STATE (if s.on LPT_RC_CFG_LEARN k.val then 1 else 2) k.val).set LPT_RC_STAT_PERIODS 0 k.val
  else s

/-- f of a slot with FF_SEL 2 (R192, R193, R195), read before the update. -/
def State.rcF (s : State) (k : Fin 4) (fine : Nat) : Int :=
  let x := s.rc k
  let n := max 1 (s.get LPT_RC_CFG_N k.val)
  let v := x.entry (s.rcPos k fine)
  let t : Nat × Nat := if s.on LPT_RC_CFG_TRACK k.val then (s.fadeFactor, fadeOne) else (1, 1)
  let d : Nat × Nat := match x.fading with
    | none => (1, 1)
    | some q => (q.1 * (n - min n q.2.2), q.2.1 * n)
  divHalfEven (v * t.1 * d.1) (256 * t.2 * d.2)

/-- Learning is frozen in this sample (R194, R195); `sat` is LPS_STAT.SAT of the previous sample. -/
def State.rcFrozen (s : State) (k : Fin 4) (n : Fin 64) (sat : Bool) : Bool :=
  !s.on LPT_RC_CFG_LEARN k.val || sat || s.power != .normal || !s.full || s.on LPS_STAT_TUNING n.val ||
  (s.on LPT_RC_CFG_TRACK k.val && !s.on LPT_LP_STAT_LOCKED) || (s.rc k).fading.isSome || s.on LPT_RC_STAT_DIVERGED k.val

/-- The update of one entry (R192); `e` has 27 fractional bits, `sh` is the slot's SHIFT, `bound` a quarter of the span of region 0 in
8 fractional bits, within the signed 32 bits of an entry. -/
def State.rcLearn (s : State) (k : Fin 4) (fine : Nat) (e : Int) (sh : Nat) (span : Int) : State :=
  let x := s.rc k
  let bound := min span (2 ^ 31 - 1)
  let n := max 1 (s.get LPT_RC_CFG_N k.val)
  let j := (s.rcPos k fine + n - s.get LPT_RC_CFG_M k.val % n) % n
  let q : Int := match s.get LPT_RC_CFG_Q k.val with | 0 => 0 | 1 => 1 | 2 => 2 | _ => 4
  let mix := divHalfEven (q * x.entry ((j + n - 1) % n) + (16 - 2 * q) * x.entry j + q * x.entry ((j + 1) % n)) 16
  let inc := divHalfEven (coefMul (s.getI LPT_RC_KR_KR k.val) e) (2 ^ (19 + sh))
  s.setRc k { x with mem := put (fun _ => 0) x.mem j (clampI (-bound) bound (mix + inc)) }

/-- The bookkeeping of a sample: the mean |e| of each period of N samples and the divergence of R195, the position and the fade. DESIGN
CHOICE: `PERIODS` counts the periods none of whose samples was frozen (log entry 72). -/
def State.rcSample (s : State) (k : Fin 4) (e : Int) (frozen : Bool) : State :=
  let n := max 1 (s.get LPT_RC_CFG_N k.val)
  let x := s.rc k
  let x := { x with pos := (x.pos + 1) % n, sum := x.sum + e.natAbs, cnt := x.cnt + 1, learnt := x.learnt && !frozen }
  let x := { x with fading := x.fading.map (fun q => (q.1, q.2.1, q.2.2 + 1)) }
  let s := s.iff (x.fading.isNone) (fun s => s.set LPT_RC_STAT_STATE (if frozen then 2 else 1) k.val)
  if x.cnt < n then s.setRc k x
  else
    let rises := match x.lastE with
      | none => 0
      | some l => if l < x.sum then x.rises + 1 else 0
    let low := match x.minE with
      | none => x.sum
      | some m => min m x.sum
    let s := s.setRc k { x with sum := 0, cnt := 0, learnt := true, lastE := some x.sum, minE := some low, rises := rises }
    let s := s.iff x.learnt (fun s => s.inc LPT_RC_STAT_PERIODS k.val)
    if 8 ≤ rises ∧ 3 * low < 2 * x.sum ∧ !frozen then ((s.setB LPT_RC_STAT_DIVERGED true k.val).event .rcDiverged 0 [k.val]).rcFade k
    else s

/-- RC_CLEAR (R195): DIVERGED clears and a fade starts, or starts again from the present factor. -/
def State.rcClear (s : State) (m : Nat) : State :=
  s.each (List.finRange 4) (fun s k =>
    if m.testBit k.val then (s.setB LPT_RC_STAT_DIVERGED false k.val).rcFade k else s)

/-- `EN` of an instance is written 1 again while it fades out: it starts anew, with all entries 0 (R197). -/
def State.rcAnew (s : State) (k : Fin 4) : State := (s.setRc k {}).set LPT_RC_STAT_STATE 0 k.val

/-- The end of a fade (R195): every entry is zeroed; the instance stops where EN is 0 and else learns again. -/
def State.rcFadeEnd (s : State) (k : Fin 4) : State :=
  let n := max 1 (s.get LPT_RC_CFG_N k.val)
  match (s.rc k).fading with
  | none => s
  | some q =>
    if q.2.2 < n then s
    else (s.setRc k { started := true, slot := (s.rc k).slot }).set LPT_RC_STAT_STATE
      (if !s.on LPT_RC_CFG_EN k.val then 0 else if s.on LPT_RC_CFG_LEARN k.val && !s.on LPT_RC_STAT_DIVERGED k.val then 1 else 2) k.val

/-- RC_FADE_END (R195): after N samples of a fade. -/
def execRcFadeEnd (k : Fin 4) (s : State) : Host.Outcome State Fault Refusal := done (s.rcFadeEnd k)

/-! ### Commands of LPT_CMD -/

def execTuneStart (r : Requester) (s : State) : Host.Outcome State Fault Refusal :=
  done (s.gate r LPT_CMD_TUNE_START.addr State.tuneStart)

def execTuneAbort (r : Requester) (s : State) : Host.Outcome State Fault Refusal :=
  done (s.gate r LPT_CMD_TUNE_ABORT.addr State.tuneAbortCmd)

def execTuneApply (r : Requester) (s : State) : Host.Outcome State Fault Refusal :=
  done (s.gate r LPT_CMD_TUNE_APPLY.addr State.tuneApply)

/-- TUNE_REPROPOSE (R184): in IDLE and PROPOSED while a converged measurement is held. -/
def State.tuneRepropose (s : State) : State := s.iff (s.tuneState != 1 && s.lpt.tune.held) (fun s => s.tunePropose false)

def execTuneRepropose (r : Requester) (s : State) : Host.Outcome State Fault Refusal :=
  done (s.gate r LPT_CMD_TUNE_REPROPOSE.addr State.tuneRepropose)

/-- RELAY_TIMEOUT (R182): TMAX ms since the first relay sample without convergence. -/
def execRelayTimeout (s : State) : Host.Outcome State Fault Refusal :=
  if s.tuneState = 1 ∧ s.lpt.tune.u0.isSome ∧ s.lpt.tune.began + 1000 * s.get LPT_TUNE_CFG_TMAX ≤ s.tick then done (s.tuneAbort 6)
  else done s

/-- LPT_TBL_COMMIT (R190). -/
def execLptTblCommit (r : Requester) (banks : BitVec 8) (s : State) : Host.Outcome State Fault Refusal :=
  done (s.gate r LPT_CMD_TBL_COMMIT.addr (fun s => s.tblCommit banks.toNat))

/-- RC_CLEAR (R195). -/
def execRcClear (r : Requester) (which : BitVec 4) (s : State) : Host.Outcome State Fault Refusal :=
  done (s.gate r LPT_CMD_RC_CLEAR.addr (fun s => s.rcClear which.toNat))

end Sys2Proof.Machine
end

