-- ==== Sys2Proof/Machine/Conv.lean ====
section
/-! DEFINITION. The hold-up converter (file 08): phases, groups, limits, the reference in force, shedding, diode emulation and
ALLFIRE. -/

namespace Sys2Proof.Machine

/-! ### Pair time and ownership (R459, R460, R231) -/

/-- Pair time in fine units at fine unit `f` of this tick (R460); a SOLO unit's offset is 0. -/
def State.pairFine (s : State) (f : Nat) : Int := 50 * (s.tick : Int) + f + (if s.solo then 0 else s.hlk.offset)

/-- The pair tick. -/
def State.pairTick (s : State) : Int := (s.pairFine 0).fdiv 50

/-- Phases the unit owns, as a mask (R231); a SOLO unit owns every object, a Registrar none. -/
def State.phasesOwned (s : State) : Nat :=
  if s.unitRole = 3 then 0 else if s.solo then 0xFFFF else s.get HLK_EFF_PH_OWN

/-! ### Phases -/

def State.phase (s : State) (n : Fin 16) : Phase := s.cnv.phases.get n

def State.setPhase (s : State) (n : Fin 16) (x : Phase) : State :=
  { s with cnv := { s.cnv with phases := s.cnv.phases.set n x } }

def State.group (s : State) (g : Fin 2) : Group := s.cnv.groups.get g

def State.setGroup (s : State) (g : Fin 2) (x : Group) : State :=
  { s with cnv := { s.cnv with groups := s.cnv.groups.set g x } }

/-- The phases of a group (R208). -/
def State.groupPhases (s : State) (g : Nat) : List (Fin 16) :=
  (List.finRange 16).filter (fun n => s.get PWM_PH_CFG_GROUP n.val == g)

/-- An own, enabled phase. -/
def State.phaseOwn (s : State) (n : Fin 16) : Bool := s.on PWM_PH_CFG_EN n.val && s.phasesOwned.testBit n.val

/-- An own, enabled phase that is not faulted. -/
def State.phaseUsable (s : State) (n : Fin 16) : Bool := s.phaseOwn n && !s.on PWM_PH_STAT_FAULT n.val

/-- An active phase of either unit (R204). -/
def State.phaseActive (s : State) (n : Fin 16) : Bool :=
  s.on PWM_PH_STAT_ACTIVE n.val || (s.partnerAlive && s.bitOn PWM_OWN_PARTNER_ACT n.val)

/-- N_act (R204), and own active phases. -/
def State.nAct (s : State) (g : Nat) : Nat := ((s.groupPhases g).filter s.phaseActive).length
def State.nOwn (s : State) (g : Nat) : Nat := ((s.groupPhases g).filter (fun n => s.on PWM_PH_STAT_ACTIVE n.val)).length

/-- N_avail (R215). -/
def State.nAvail (s : State) (g : Nat) : Nat :=
  ((s.groupPhases g).filter (fun n => s.phaseUsable n || (s.partnerAlive && s.cnv.partnerAvail.testBit n.val))).length

/-- The group's own current (R223). -/
def State.groupI (s : State) (g : Nat) : Int :=
  ((s.groupPhases g).filter (fun n => s.phaseOwn n && s.valid AFE_PH_I_VAL n.val)).foldl (fun a n => a + s.getI AFE_PH_I_VAL n.val) 0

/-- A group's own current (R223), invalid before tick g and while own phases of it have no valid sample. -/
def State.groupIShown (s : State) (g : Nat) : Option Int :=
  let own := (s.groupPhases g).filter s.phaseOwn
  if s.boot.g.isSome && (own.isEmpty || own.any (fun n => s.valid AFE_PH_I_VAL n.val)) then some (s.groupI g) else none

/-- The state of a group: 0 OFF, 1 SOFTSTART, 2 RUN, 3 FAULT_WAIT, 4 FAULT (R217). -/
def State.groupState (s : State) (g : Nat) : Nat := s.get CNV_GRP_STAT_STATE g

/-- SOFTSTART or RUN. -/
def State.groupUp (s : State) (g : Nat) : Bool := s.groupState g == 1 || s.groupState g == 2

/-- A phase leaves the active set, with what it keeps of its state. -/
def State.phaseRetire (s : State) (n : Fin 16) (x : Phase) : State :=
  let i := n.val
  let s := ((s.setB PWM_PH_STAT_ACTIVE false i).setB PWM_PH_STAT_DE false i).setB PWM_PH_STAT_FIRING false i
  ((s.set PWM_PH_OFS_OFS 0 i).set PWM_PH_OFS_RANK 0 i).set PWM_PH_OFS_NACT 0 i |>.setPhase n x

/-- A phase is driven low and leaves the active set. -/
def State.phaseLow (s : State) (n : Fin 16) : State := s.phaseRetire n {}

/-- A phase that another unit takes leaves the active set: it goes low at the end of the on-time in progress, or at once (R231). -/
def State.phaseLost (s : State) (n : Fin 16) : State :=
  let x := s.phase n
  if x.bound.isSome && x.drive != .low then
    s.phaseRetire n { drive := x.drive, rose := x.rose, bound := x.bound, atMax := x.atMax, code := x.code, mirror := x.mirror }
  else s.phaseLow n

/-! ### Limits (R214 to R216, R262) -/

/-- The fold-back breakpoints and limits in force: a write acts in the next tick (R232). -/
def State.foldPoints (s : State) : (Nat → Int) × (Nat → Int) :=
  match s.cnv.foldWas with
  | some (t, V, I) =>
    if t = s.tick then ((fun k => V.toList.getD k 0), (fun k => I.toList.getD k 0))
    else ((fun k => s.getI CNV_FB_V_V k), (fun k => s.getI CNV_FB_I_I k))
  | none => ((fun k => s.getI CNV_FB_V_V k), (fun k => s.getI CNV_FB_I_I k))

/-- After a write of breakpoints or limits: what stood before the first of the tick stays in force in it (R232); `s0` is the state before. -/
def State.foldWrite (s0 s : State) : State :=
  if s0.cnv.foldWas.any (fun x => x.1 == s.tick) then s
  else
    let V : Vector Int 4 := Vector.ofFn (fun k => s0.getI CNV_FB_V_V k.val)
    let I : Vector Int 4 := Vector.ofFn (fun k => s0.getI CNV_FB_I_I k.val)
    { s with cnv := { s.cnv with foldWas := some (s.tick, V, I) } }

/-- The fold-back limit of a phase at a voltage, linear between breakpoints and rounded towards 0 mA (R214). -/
def State.foldback (s : State) (v : Option Int) : Int :=
  let V := s.foldPoints.1
  let I := s.foldPoints.2
  let seg := fun (k : Nat) (x : Int) =>
    (I k * (V (k + 1) - V k) + (I (k + 1) - I k) * (x - V k)).tdiv (V (k + 1) - V k)
  let raw := match v with
    | none => I 0
    | some x => if x ≤ V 0 then I 0 else if V 3 ≤ x then I 3
      else if x < V 1 then seg 0 x else if x < V 2 then seg 1 x else seg 2 x
  min raw (s.getI CNV_PH_LIM_LIM)

/-- H of R31 and R260: CAP_HOLDUP scaled by the configured phases whose owning unit is alive, rounded towards −∞. DESIGN CHOICE: with no
phase configured, where the fraction is 0/0, it is the whole battery-path limit (log entry 62). -/
def State.holdupCap (s : State) : Nat :=
  let conf := (List.finRange 16).filter (fun n => s.on PWM_PH_CFG_EN n.val)
  let alive := conf.filter (fun n => s.phasesOwned.testBit n.val || s.partnerAlive)
  if conf.isEmpty then s.cap.hold else s.cap.hold * alive.length / conf.length

/-- Capping's limit request on a group (R262): H_g / V_g in mA, in HOLDUP and RETURN. -/
def State.capLimit (s : State) (g : Fin 2) : Option Int :=
  if s.power = .holdup ∨ s.power = .ret then
    (match s.cnv.capV.get g with
      | none => none
      | some v =>
        let n := s.nAvail 0 + s.nAvail 1
        if v ≤ 0 ∨ n = 0 then none else some (((s.holdupCap * s.nAvail g.val * 10000 : Nat) : Int).tdiv (n * v)))
  else none

/-- The RETURN ramp on a group (R224), rounded towards 0 mA. -/
def State.returnRamp (s : State) (g : Fin 2) : Option Int :=
  match s.cnv.rampAt with
  | none => none
  | some t0 =>
    let ramp : Int := s.get CNV_RAMP_RAMP
    some (((s.group g).i0 * max 0 (t0 + ramp - s.tick)).tdiv (max 1 ramp))

/-- The upper limit U of a group (R215). -/
def State.groupU (s : State) (g : Fin 2) : Int :=
  if !(s.power == .normal || s.power == .prearmed || s.power == .holdup || s.power == .ret) then 0
  else
    let u := s.foldback (s.busV g.val) * s.nAvail g.val
    let u := match s.capLimit g with
      | none => u
      | some l => min u l
    match s.returnRamp g with
    | none => u
    | some l => if s.power = .ret then min u l else u

/-- The charge limit in force, a magnitude (R216). -/
def State.chargeLimit (s : State) : Int :=
  let held := s.cnv.chgWait || (match s.cnv.chgFrom with | none => false | some t => decide (s.tick < t))
  if held then 0
  else
    let thm := s.get THM_REQ_CHG
    let l := min (s.get CNV_CHG_LIM_LIM) (s.get BAT_CHG_REQ_LIM)
    (if thm = 0xFFFF then l else min l (100 * thm) : Nat)

/-- A lower limit `base` as an ALLFIRE floor raises it from its first tick on, the floor bounded by `top` and falling linearly to `base`
after HOLD_US (R230, R216). -/
def State.floored (s : State) (g : Fin 2) (base top : Int) : Int :=
  match (s.group g).floor with
  | none => base
  | some f =>
    let h : Int := max 1 (s.get CNV_AF_RUN_HOLD_US)
    let top := min f.1 top
    if s.tick < f.2.1 then base
    else if !f.2.2 then max base top
    else max base (base + ((top - base) * max 0 (f.2.1 + 2 * h - s.tick)).tdiv h)

/-- The lower limit of a group in mA (R215, R218, R230). -/
def State.groupLow (s : State) (g : Fin 2) : Int :=
  let base : Int := if s.power = .normal ∧ s.groupState g.val ≠ 1 then -s.chargeLimit else 0
  if (s.group g).floorDuty then base else s.floored g base (s.groupU g)

/-- The own share of a limit (R210). -/
def State.ownShare (s : State) (g : Nat) (l : Int) : Int := (l * s.nOwn g).tdiv (max 1 (s.nAct g))

/-- `low` and `up` of R210 for a slot whose destination is the group's demand. In voltage mode they are duties: the duty applied bounds
the side on which the group's own current is beyond its own share of a limit, and the floor of R230 is one. DESIGN CHOICE: a floor of the
other mode than the one in force raises nothing (log entry 74). -/
def State.demandLimits (s : State) (g : Fin 2) : Int × Int :=
  if !s.on CNV_CTRL_MODE then (s.groupLow g, s.groupU g)
  else
    let i := s.groupI g.val
    let d := s.getI CNV_DEM_D g.val
    let up : Int := if s.ownShare g.val (s.groupU g) ≤ i then min (s.get PWM_LIMITS_MAX_DUTY) d else s.get PWM_LIMITS_MAX_DUTY
    let low : Int := if i < s.ownShare g.val (s.groupLow g) then d else 0
    (if (s.group g).floorDuty then s.floored g low up else low, up)

/-! ### The reference in force (R221) -/

/-- The commanded setpoint. -/
def State.setpoint (s : State) : Int := s.getI CNV_TGT_SETPOINT

/-- The reference target of the power state (R215). -/
def State.refTarget (s : State) : Option Int :=
  match s.power with
  | .normal | .prearmed | .holdup => some (s.setpoint - s.get CNV_STBY_OFFSET)
  | .ret => some s.setpoint
  | _ => none

/-- The rate that applies (R221, R226). -/
def State.refRate (s : State) : Nat :=
  match s.cnv.slew with
  | some r => r
  | none => if (s.groupState 0 = 1 ∨ s.groupState 1 = 1) ∧ s.groupState 0 ≠ 2 ∧ s.groupState 1 ≠ 2 then s.get CNV_SLEW_CFG_SS_RATE
    else s.get CNV_SLEW_CFG_STATE_RATE

/-- A segment's value at a tick, in 2^-16 LSB: exact, truncated towards its start, held at the target. -/
def Segment.value (x : Segment) (t : Nat) : Int :=
  match x.target with
  | none => x.r
  | some g =>
    let d : Int := x.rate * (t - x.t) * 65536 / 1000
    let goal := g * 65536
    if x.r ≤ goal then min goal (x.r + d) else max goal (x.r - d)

/-- The reference in this tick, in 2^-16 LSB. -/
def State.refNow (s : State) : Option Int := s.cnv.seg.map (fun x => x.value s.tick)

/-- The reference as `CNV_REF` and source 0x60 report it. -/
def State.refWord (s : State) : Option Int := s.refNow.map (fun r => divHalfEven r 65536)

/-- The reference equals its target. -/
def State.refReached (s : State) : Bool :=
  match s.refNow, s.refTarget with
  | some r, some t => r == t * 65536
  | _, _ => false

/-- Starts a new segment where the target or the rate has changed (R221). -/
def State.reseg (s : State) : State :=
  match s.cnv.seg with
  | none => s
  | some x =>
    if x.target = s.refTarget ∧ x.rate = s.refRate then s
    else { s with cnv := { s.cnv with seg := some { t := s.tick, r := x.value s.tick, target := s.refTarget, rate := s.refRate } } }

/-- R218: the reference restarts from the measured voltage of the entering group's half, within 0 and the target. -/
def State.refRestart (s : State) (g : Nat) : State :=
  let v := max 0 ((s.busV g).getD 0)
  let r := match s.refTarget with
    | none => v
    | some t => min v t
  { s with cnv := { s.cnv with seg := some { t := s.tick, r := r * 65536, target := s.refTarget, rate := s.refRate } } }

/-- The reference at tick g stands at its target (log entry 55). -/
def State.refStart (s : State) : State :=
  { s with cnv := { s.cnv with seg := some { t := s.tick, r := (s.refTarget.getD 0) * 65536, target := s.refTarget, rate := s.refRate } } }

/-! ### Group states (R217, R218) -/

/-- Every own shed phase of a group is unshed (R219). -/
def State.unshedAll (s : State) (g : Nat) : State :=
  s.each ((s.groupPhases g).filter (fun n => s.on PWM_PH_STAT_SHED n.val)) (fun s n => s.setB PWM_PH_STAT_SHED false n.val)

/-- A group is locked out (R230). -/
def State.lockedOut (s : State) (g : Fin 2) : Bool :=
  match (s.group g).lockEnd with
  | some t => decide ((s.group g).lockAt ≤ s.tick ∧ s.tick < t)
  | none => false

/-- Lockout from the next tick (R230, R232). -/
def State.lockout (s : State) (g : Fin 2) : State :=
  s.setGroup g { s.group g with lockAt := s.tick + 1, lockEnd := some (s.tick + 1 + 1000 * s.get CNV_AF_RUN_LOCKOUT_MS) }

/-- A fire that ends for another cause than its last cycle: no floor, lockout from the next tick (R232). -/
def State.fireCut (s : State) (g : Fin 2) : State :=
  s.iff (s.group g).firing (fun s => (s.setGroup g { s.group g with firing := false }).lockout g)

/-- Enters a group state; leaving SOFTSTART and RUN takes every own phase of the group low. -/
def State.enterGroup (s0 : State) (g : Fin 2) (st cause : Nat) : State :=
  let s := (s0.set CNV_GRP_STAT_STATE st g.val).set CNV_GRP_STAT_CAUSE cause g.val
  let s := s.setGroup g { s.group g with
    since := s.tick, retried := s.tick, shedSince := none, left := s0.groupState g.val
    shortSince := if st = 1 ∨ st = 2 then (s.group g).shortSince else none
    floor := if st = 1 ∨ st = 2 then (s.group g).floor else none }
  let s := if st = 1 ∨ st = 2 then s
    else ((s.fireCut g).unshedAll g.val).each (s.groupPhases g.val) (fun s n => s.phaseLow n)
  s.reseg

/-- Entry to FAULT_WAIT or FAULT: counted, recorded, and a trigger (R217, R424). -/
def State.groupFault (s : State) (g : Fin 2) (st cause : Nat) : State :=
  (((s.enterGroup g st cause).inc CNV_CNT_GRP_FAULTS).event .groupFault 0 [g.val, st, cause]).trigger 7

/-- SOFTSTART is entered; the reference restarts unless the other group runs (R218). -/
def State.softStart (s : State) (g : Fin 2) : State :=
  let alone := !s.groupUp (1 - g.val)
  let s := s.enterGroup g 1 0
  if alone then s.refRestart g.val else s

/-- The outputs of the unit are decided and driven (R106, R107, R109). -/
def State.outputsOn (s : State) : Bool := s.boot.decided && !s.on SYS_STAT_KILN_BLANK && s.unitRole != 3

/-- R217: OFF to SOFTSTART. -/
def State.mayStart (s : State) (g : Nat) : Bool :=
  s.groupState g == 0 && s.on CNV_CTRL_EN && (s.groupPhases g).any s.phaseUsable && s.outputsOn &&
  (s.power == .normal || s.power == .prearmed || s.power == .holdup || s.power == .ret) && (s.busV g).isSome

/-- A group goes OFF where `EN` is 0 or the unit owns no enabled phase of it, and faults where every own enabled phase is faulted
(R217). -/
def State.groupCheck (s : State) (g : Fin 2) : State :=
  let own := (s.groupPhases g.val).filter s.phaseOwn
  if s.groupState g.val ≠ 0 ∧ (own.isEmpty = true ∨ !s.on CNV_CTRL_EN) then s.enterGroup g 0 0
  else if s.groupUp g.val ∧ !(own.any s.phaseUsable) then s.groupFault g 4 2
  else s

/-- A phase is faulted (R207): low at once, out of the active set until CLEAR_G. Causes: 1 PH_HI, 2 PH_LO readback, 3 over-current. -/
def State.phaseFault (s : State) (n : Fin 16) (cause : Nat) : State :=
  if s.on PWM_PH_STAT_FAULT n.val ∨ !s.phaseOwn n then s
  else if (cause = 3 ∧ !s.on PWM_CTRL_OC_EN) ∨ (cause ≠ 3 ∧ !s.on PWM_CTRL_RB_EN) then s
  else
    let s := ((s.phaseLow n).setB PWM_PH_STAT_SHED false n.val).setB PWM_PH_STAT_FAULT true n.val
    let s := ((s.set PWM_PH_STAT_CAUSE cause n.val).event .phaseFault (objRef 5 n.val) [cause]).trigger 8
    let s := s.iff (cause != 3) (fun s => s.detect 8 0 (objRef 5 n.val))
    s.groupCheck (Fin.ofNat 2 (s.get PWM_PH_CFG_GROUP n.val))

/-! ### Share, shedding and diode emulation (R219, R220) -/

/-- |D| in percent of CNV_PH_LIM × N_act, compared with a percentage without rounding. -/
def State.shareBelow (s : State) (g : Nat) (pct : Nat) : Bool :=
  decide ((s.getI CNV_DEM_D g).natAbs * 100 < pct * s.get CNV_PH_LIM_LIM * max 1 (s.nAct g))

/-- Shedding is permitted in a group. -/
def State.shedPermitted (s : State) (g : Nat) : Bool := s.power == .normal && s.groupState g == 2 && s.on CNV_CTRL_SHED_EN

/-- Since when the share has been below SHED_LO. -/
def State.shedJudge (s : State) (g : Fin 2) : State :=
  let x := s.group g
  if s.shedPermitted g.val && s.shareBelow g.val (s.get CNV_SHED_SHED_LO) then
    s.setGroup g { x with shedSince := some (x.shedSince.getD s.tick) }
  else s.setGroup g { x with shedSince := none }

/-- A demand reaches a group (R208, R211). -/
def State.writeDemand (s : State) (g : Fin 2) (d : Int) : State := (s.setI CNV_DEM_D d g.val).shedJudge g

/-- The own active phase shed next: highest SHED_ORDER, then highest index. -/
def State.shedPick (s : State) (g : Nat) : Option (Fin 16) :=
  ((s.groupPhases g).filter (fun n => s.on PWM_PH_STAT_ACTIVE n.val)).foldl (fun b n => match b with
    | none => some n
    | some m => if s.get PWM_PH_CFG_SHED_ORDER m.val ≤ s.get PWM_PH_CFG_SHED_ORDER n.val then some n else some m) none

/-- The own shed phase unshed next: lowest SHED_ORDER, then lowest index. -/
def State.unshedPick (s : State) (g : Nat) : Option (Fin 16) :=
  ((s.groupPhases g).filter (fun n => s.on PWM_PH_STAT_SHED n.val)).foldl (fun b n => match b with
    | none => some n
    | some m => if s.get PWM_PH_CFG_SHED_ORDER n.val < s.get PWM_PH_CFG_SHED_ORDER m.val then some n else some m) none

/-- SHED_WINDOW_EXPIRY (R219). -/
def execShedWindowExpiry (g : Fin 2) (s : State) : Host.Outcome State Fault Refusal :=
  let x := s.group g
  match x.shedSince with
  | none => done s
  | some t =>
    if s.shedPermitted g.val ∧ t + 1000 * s.get CNV_SHED_SHED_MS ≤ s.tick then
      let s := s.setGroup g { x with shedSince := some s.tick }
      if s.nOwn g.val ≤ s.get CNV_SHED_MIN_PH then done s
      else match s.shedPick g.val with
        | none => done s
        | some n => done ((s.phaseLow n).setB PWM_PH_STAT_SHED true n.val)
    else done s

/-- PHASE_UNSHED (R219): s at or above ADD_HI; at most one phase per 10 ticks. -/
def execPhaseUnshed (g : Fin 2) (s : State) : Host.Outcome State Fault Refusal :=
  let x := s.group g
  let free := match x.lastUnshed with
    | none => true
    | some t => decide (t + 10 ≤ s.tick)
  if free && s.shedPermitted g.val && !s.shareBelow g.val (s.get CNV_SHED_ADD_HI) then
    match s.unshedPick g.val with
    | none => done s
    | some n => done ((s.setB PWM_PH_STAT_SHED false n.val).setGroup g { x with lastUnshed := some s.tick })
  else done s

/-- Diode emulation may apply to a phase (R220). -/
def State.dePermitted (s : State) (n : Fin 16) : Bool :=
  s.on CNV_CTRL_DE_EN && s.on PWM_PH_CFG_DE_EN n.val && s.power == .normal && s.groupState (s.get PWM_PH_CFG_GROUP n.val) == 2

/-- A phase leaves diode emulation. -/
def State.deExit (s : State) (n : Fin 16) : State :=
  (s.setB PWM_PH_STAT_DE false n.val).setPhase n { s.phase n with deRun := 0 }

/-- Diode emulation ends at once in the phases that may no longer be in it (R220). -/
def State.deCheck (s : State) : State :=
  s.each ((List.finRange 16).filter (fun n => s.on PWM_PH_STAT_DE n.val && !s.dePermitted n)) (fun s n => s.deExit n)

/-- DE_ENTER (R220): after 10 consecutive cycle starts with |s| below DE_ENTER; h_n is frozen meanwhile (R211). -/
def execDeEnter (n : Fin 16) (s : State) : Host.Outcome State Fault Refusal :=
  if s.dePermitted n && s.on PWM_PH_STAT_ACTIVE n.val && !s.on PWM_PH_STAT_DE n.val && decide (10 ≤ (s.phase n).deRun) then
    done (s.setB PWM_PH_STAT_DE true n.val)
  else done s

/-! ### Switching cycles (R203 to R213) -/

/-- The offset of rank `k` (R204), in edge steps. -/
def State.offsetOf (s : State) (k n : Nat) : Nat := (divHalfEven (k * s.cnv.period * 308) (max 1 n)).toNat

/-- The rank of a phase in its group's active set, itself counted in. -/
def State.rankOf (s : State) (n : Fin 16) : Nat :=
  ((s.groupPhases (s.get PWM_PH_CFG_GROUP n.val)).filter (fun m => s.phaseActive m && decide (m.val < n.val))).length

/-- h_n (R211): the mean over the last completed cycles, within 0 and 25 % of CNV_PH_LIM. -/
def State.halfRipple (s : State) (n : Fin 16) : Int :=
  let h := (s.phase n).hist
  if h.isEmpty then 0 else clampI 0 (s.get CNV_PH_LIM_LIM / 4) (divHalfEven (h.foldl (· + ·) 0) h.length)

/-- The DAC code of a current (R212). -/
def State.dacCode (s : State) (i : Int) : Nat :=
  (clampI 0 1023 (divHalfEven (i * s.get AFE_PH_SCALE_TRANS_R + 64000000) 375000)).toNat

/-- The state of the perturbation (R293): 0 OFF, 1 ON, 2 PAUSED. -/
def State.pertState (s : State) : Nat :=
  if s.on BAT_CFG_IMP_EN && s.on CNV_CTRL_PERT_EN && s.full && s.power == .normal && s.get BAT_CONN_CLOSED != 0 then
    (if s.bat.paused then 2 else 1)
  else 0

/-- T_p (R293). -/
def State.pertPeriod (s : State) : Nat := match s.get BAT_PERT_PERT_HZ with
  | 0 => 2000000
  | 1 => 1000000
  | _ => 500000

/-- The request p(t) of R293, mA. -/
def State.pertReq (s : State) : Int :=
  if s.pertState = 1 then
    divHalfEven (s.getI BAT_PERT_AMP_A * sinTurn ((s.pairTick % (s.pertPeriod : Int)).toNat) s.pertPeriod) (2 ^ 64)
  else 0

/-- The demand with the perturbation of R225, clamped again. -/
def State.demand (s : State) (g : Fin 2) : Int :=
  let d := s.getI CNV_DEM_D g.val
  if s.on CNV_CTRL_PERT_EN ∧ s.power = .normal ∧ s.groupState g.val = 2 ∧ !s.on CNV_CTRL_MODE then
    clampI (s.groupLow g) (s.groupU g) (d + s.pertReq)
  else d

/-- The second clamp changes the sum in a group that adds the perturbation (R225). -/
def State.pertClipped (s : State) : Bool :=
  (List.finRange 2).any (fun g => s.on CNV_CTRL_PERT_EN && s.power == .normal && s.groupState g.val == 2 && !s.on CNV_CTRL_MODE &&
    s.demand g != s.getI CNV_DEM_D g.val + s.pertReq)

/-- The perturbation in force (R225, source 0x68). -/
def State.pertInForce (s : State) : Int :=
  if s.on CNV_CTRL_PERT_EN ∧ s.power = .normal ∧ (s.groupState 0 = 2 ∨ s.groupState 1 = 2) ∧ !s.on CNV_CTRL_MODE then s.pertReq else 0

/-- The trim port of a phase. -/
def State.trimOf (s : State) (n : Fin 16) : Int := s.port (3 + n.val)

/-- The share of a phase in the demand (R211). -/
def State.shareOf (s : State) (n : Fin 16) : Int :=
  let g := Fin.ofNat 2 (s.get PWM_PH_CFG_GROUP n.val)
  divHalfEven (s.demand g) (max 1 (s.nAct g.val)) + s.trimOf n

/-- The peak reference of a phase in a loop cycle (R211, R213). -/
def State.peakRef (s : State) (n : Fin 16) : Int :=
  let g := Fin.ofNat 2 (s.get PWM_PH_CFG_GROUP n.val)
  let cap := min (s.foldback (s.busV g.val)) ((s.groupU g).tdiv (max 1 (s.nAct g.val)))
  (if s.on CNV_CTRL_MODE then cap else min (s.shareOf n) cap) + s.halfRipple n

/-- On-time of voltage mode in edge steps (R213). -/
def State.voltageOn (s : State) (n : Fin 16) : Nat :=
  let g := Fin.ofNat 2 (s.get PWM_PH_CFG_GROUP n.val)
  let duty := clampI 0 (s.get PWM_LIMITS_MAX_DUTY) (s.demand g + s.trimOf n)
  (divHalfEven (duty * s.cnv.period * 308) 65536).toNat

/-- The longest on-time in edge steps (R205). -/
def State.maxOnSteps (s : State) : Nat := s.get PWM_LIMITS_MAX_DUTY * s.cnv.period * 308 / 65536

/-- The d_j of the cycle that ends at this start (R211); skipped cycles and cycles in diode emulation give none. -/
def State.cycleEnd (s : State) (n : Fin 16) (sum : Int) (cnt : Nat) : State :=
  let x := s.phase n
  match x.peak with
  | none => s
  | some p =>
    if cnt = 0 ∨ s.on PWM_PH_STAT_DE n.val then s.setPhase n { x with peak := none }
    else s.setPhase n { x with hist := ((p - divHalfEven sum cnt) :: x.hist).take 16, peak := none }

/-- The judgement of diode emulation at a cycle start (R220). -/
def State.deJudge (s : State) (n : Fin 16) : State :=
  let g := s.get PWM_PH_CFG_GROUP n.val
  let x := s.phase n
  let s := s.setPhase n { x with deRun := if s.shareBelow g (s.get CNV_DE_DE_ENTER) then x.deRun + 1 else 0 }
  if s.on PWM_PH_STAT_DE n.val ∧ (!s.shareBelow g (s.get CNV_DE_DE_EXIT) ∨ !s.dePermitted n) then s.deExit n else s

/-- A dead time or MIN_ON in edge steps: ns, rounded half to even (R205); one fine unit is 20 ns and 308 steps. -/
def nsSteps (ns : Nat) : Nat := (divHalfEven (ns * 308) 20).toNat

/-- The on-time that begins when the main switch turns on at edge time `rose`: the other switch is off until then (R201, R205), and it lasts
`bound` edge steps unless the comparator ends it, MAX_DUTY at most. -/
def State.onTime (s : State) (n : Fin 16) (rose : Int) (bound : Nat) (mirror : Bool) (peak : Int) : State :=
  let code := s.dacCode peak
  let s := s.set PWM_PH_DAC_PEAK code n.val
  s.setPhase n { s.phase n with
    drive := .low, next := some (if mirror then .lo else .hi, rose), rose := rose, bound := some (min bound s.maxOnSteps)
    atMax := decide (s.maxOnSteps ≤ bound), code := code, mirror := mirror, peak := some peak }

/-- The pads of a phase at an edge time: a switch whose dead time is over is on. -/
def State.phaseEdge (s : State) (n : Fin 16) (t : Int) : State :=
  let x := s.phase n
  match x.next with
  | some (d, from_) => if from_ ≤ t then s.setPhase n { x with drive := d, next := none } else s
  | none => s

/-- The code that the falling reference has reached `steps` edge steps into an on-time: one LSB for each LSB of the ramp, and no more than one
in a fine unit (R212). -/
def State.rampCode (s : State) (n : Fin 16) (steps : Nat) : Nat :=
  (s.phase n).code - min (steps / 308) (s.get CNV_SLOPE_SLOPE * steps * s.get AFE_PH_SCALE_TRANS_R / (15400 * 375000))

/-- The on-time of a phase ends after `steps` edge steps: the other switch turns on after DT_OFF (R212), but not in a phase that another
unit took meanwhile (R231); in diode emulation the DAC takes the zero code (R220). -/
def State.onEnd (s : State) (n : Fin 16) (steps : Nat) : State :=
  let i := n.val
  let x := s.phase n
  let s := ((s.set PWM_PH_DUTY_ON_STEPS steps i).set PWM_PH_DAC_PEAK (s.rampCode n steps) i).iff
    (x.atMax && x.bound == some steps) (fun s => s.incWrap PWM_PH_CNT_MAXDUTY i)
  let s := s.iff (s.on PWM_PH_STAT_DE i) (fun s => s.set PWM_PH_DAC_ZERO (s.dacCode (s.getI CNV_DE_ZC_OFS)) i)
  let e := x.rose + steps
  s.setPhase n { x with
    drive := .low, bound := none, ended := e
    firedOn := if s.on PWM_PH_STAT_FIRING i && x.fired == 0 then some steps else x.firedOn
    next := if s.on PWM_PH_STAT_ACTIVE i then some (if x.mirror then .hi else .lo, e + nsSteps (s.get PWM_DT_DT_OFF)) else none }

/-- A phase up to an edge time: dead times that are over, and an on-time that has reached its length. -/
def State.phaseTo (s : State) (n : Fin 16) (t : Int) : State :=
  let s := s.phaseEdge n t
  match (s.phase n).bound with
  | some b => if (s.phase n).rose + b ≤ t then (s.onEnd n b).phaseEdge n t else s
  | none => s

/-- What the readbacks of this period found: a pad that differed in the period before too faults the phase (R207). -/
def State.readback (s : State) (n : Fin 16) (diff : Bool × Bool) : State :=
  let x := s.phase n
  let d := (x.diff.1 || diff.1, x.diff.2 || diff.2)
  let s := s.setPhase n { x with diff := d }
  if d.1 && x.diffWas.1 then (s.phaseFault n 1).settle
  else if d.2 && x.diffWas.2 then (s.phaseFault n 2).settle
  else s

/-- A cycle of the phase starts on its grid at edge time `t`. `trips`: the comparator trips within MIN_ON of the switch turning on, so that
the on-time would be below MIN_ON. A skipped cycle leaves the pads as they are (log entry 74). -/
def State.cycleStart (s : State) (n : Fin 16) (t : Int) (trips : Bool) : State :=
  let i := n.val
  let g := Fin.ofNat 2 (s.get PWM_PH_CFG_GROUP i)
  let fresh := !s.on PWM_PH_STAT_ACTIVE i
  let s := (s.setB PWM_PH_STAT_ACTIVE true i).iff fresh (fun s => s.setPhase n {})
  let k := s.rankOf n
  let off := s.offsetOf k (s.nAct g.val)
  let s := ((s.set PWM_PH_OFS_RANK k i).set PWM_PH_OFS_NACT (s.nAct g.val) i).set PWM_PH_OFS_OFS off i
  let s := s.setPhase n { s.phase n with
    start := some t, grid := (s.cnv.period, off), diffWas := (s.phase n).diff, diff := (false, false) }
  let rise := t + nsSteps (s.get PWM_DT_DT_ON)
  let s := (s.set PWM_PH_DAC_ZERO (s.dacCode (s.getI CNV_DE_ZC_OFS)) i).set PWM_PH_STAT_HRIP (s.halfRipple n / 10).toNat i
  if (s.phase n).fired ≠ 0 then
    let s := s.setPhase n { s.phase n with fired := (s.phase n).fired - 1 }
    s.onTime n rise s.maxOnSteps false (s.foldback (s.busV g.val) + s.halfRipple n)
  else
    let s := (s.setB PWM_PH_STAT_FIRING false i).deJudge n
    let de := s.on PWM_PH_STAT_DE i
    let on := if s.on CNV_CTRL_MODE then s.voltageOn n else s.maxOnSteps
    if trips || decide (on < nsSteps (s.get PWM_LIMITS_MIN_ON)) || (de && s.shareOf n == 0) then
      (s.incWrap PWM_PH_CNT_SKIPS i).setPhase n { s.phase n with peak := none }
    else s.onTime n rise on (de && decide (s.shareOf n < 0)) (s.peakRef n)

/-- The edge steps of pair time at a fine unit and step of this tick (R203, R460). -/
def State.edgeTime (s : State) (fine : Fin 50) (step : Fin 308) : Int := s.pairFine fine.val * 308 + step.val

/-- A grid start at edge time `t` is the phase's next one: on a grid it keeps, any later one; on a new grid, one at least half a new period
after its last start, so that the transition cycle lasts 0.5 to 1.5 new periods (R203, R204). -/
def State.startDue (s : State) (n : Fin 16) (off : Nat) (t : Int) : Bool :=
  match (s.phase n).start with
  | none => true
  | some t0 => if (s.phase n).grid = (s.cnv.period, off) then decide (t0 < t) else decide (((s.cnv.period * 308 : Nat) : Int) ≤ 2 * (t - t0))

/-- A phase can start a cycle at edge time `t`: its on-time is over, a later fired cycle leaves DT_OFF, DT_ON and MIN_ON between on-times
(R230), and a phase that is not active waits for the end of a fire (R232). -/
def State.startFree (s : State) (n : Fin 16) (g : Nat) (t : Int) : Bool :=
  let x := s.phase n
  x.bound.isNone && (s.on PWM_PH_STAT_ACTIVE n.val || !(s.group (Fin.ofNat 2 g)).firing) &&
  (x.fired == 0 || decide (x.ended + nsSteps (s.get PWM_DT_DT_OFF) + nsSteps (s.get PWM_DT_DT_ON) + nsSteps (s.get PWM_LIMITS_MIN_ON) ≤ t))

/-- PHASE_CYCLE_START (R203, R212): a phase starts a cycle on its grid. `sum` and `cnt` are the current samples of the cycle that ends,
`skip` says that the comparator would end the on-time within MIN_ON, `fault` which pads differ from their driven levels at the readbacks. -/
def execPhaseCycleStart (n : Fin 16) (fine : Fin 50) (step : Fin 308) (sum : Int) (cnt : Nat) (skip : Bool) (fault : Twice Bool)
    (s : State) : Host.Outcome State Fault Refusal :=
  let t := s.edgeTime fine step
  let s := s.phaseTo n t
  let g := s.get PWM_PH_CFG_GROUP n.val
  let s' := s.setB PWM_PH_STAT_ACTIVE true n.val
  let off := s'.offsetOf (s'.rankOf n) (s'.nAct g)
  let grid := (t - off) % ((max 1 s.cnv.period * 308 : Nat) : Int)
  if s.phaseUsable n && s.groupUp g && !s.on PWM_PH_STAT_SHED n.val && s.outputsOn && decide (grid = 0) && s.startDue n off t &&
      s.startFree n g t then
    done (((s.cycleEnd n sum cnt).cycleStart n t skip).readback n fault)
  else done s

/-- PEAK_COMPARATOR_TRIP (R212, R220): the comparator ends the on-time after `steps` edge steps, not before MIN_ON and at the on-time's length
at the latest; with the on-time over, in diode emulation, it turns the synchronous switch off. -/
def execPeakComparatorTrip (n : Fin 16) (steps : Nat) (fault : Twice Bool) (s : State) : Host.Outcome State Fault Refusal :=
  let x := s.phase n
  match x.bound with
  | some b => done ((s.onEnd n (min (max steps (nsSteps (s.get PWM_LIMITS_MIN_ON))) b)).readback n fault)
  | none =>
    if s.on PWM_PH_STAT_DE n.val then done ((s.setPhase n { x with drive := .low, next := none }).readback n fault)
    else done s

/-- A current sample of a phase in a tick: the second in a row above ABS_MA faults it (R207). -/
def State.overJudge (s : State) (n : Fin 16) : State :=
  let hot := s.on PWM_CTRL_OC_EN && s.phaseOwn n && s.valid AFE_PH_I_VAL n.val &&
    decide (s.get PWM_PH_ILIM_ABS_MA n.val < (s.getI AFE_PH_I_VAL n.val).natAbs)
  if hot && (s.phase n).tooHigh then (s.phaseFault n 3).settle
  else s.setPhase n { s.phase n with tooHigh := hot }

/-- The phases at the beginning of a tick: their pads, and their samples (R205, R207). -/
def State.phasesTick (s : State) : State :=
  let s := s.each (List.finRange 16) (fun s n => s.phaseTo n (s.pairFine 0 * 308))
  s.each (List.finRange 16) State.overJudge

/-- DPWM_RECAL (R206): every 1,000 ticks, unless the tick source is the check oscillator. -/
def execDpwmRecal (steps : Nat) (s : State) : Host.Outcome State Fault Refusal :=
  if s.tick % 1000 ≠ 0 ∨ s.tb.onCheck then done s
  else if 280 ≤ steps ∧ steps ≤ 340 then
    done { ((s.set PWM_CAL_STEPS steps).setB PWM_CAL_CAL_FAIL false) with cnv := { s.cnv with calAt := some s.tick } }
  else done (s.setB PWM_CAL_CAL_FAIL true)

/-- PWM_PERIOD_APPLY (R203): a written period takes effect at the next tick that is a multiple of 1,000. -/
def execPwmPeriodApply (s : State) : Host.Outcome State Fault Refusal :=
  if s.tick % 1000 = 0 then done { s with cnv := { s.cnv with period := s.get PWM_PERIOD_PERIOD } } else done s

/-! ### Setpoint commands (R226, R227) -/

/-- The command with this tag, or the one in progress, is superseded (R226). -/
def State.slewLost (s : State) (tag : Nat) : State :=
  ((s.set CNV_SLEW_STAT_TAG_SUPERSEDED tag).inc CNV_SLEW_CNT_SUPERSEDED).event .slewSuperseded 0 [(tag : Int)]

/-- A SLEW command with its target, rate and tag. Where a higher-ranked one of this tick stands, this one, which the order of R48 takes
first, is accepted and superseded in the tick (R227). -/
def State.slewCmd (s : State) (r : Requester) (w : Word) : State :=
  let tgt := s.getI CNV_CMD_TGT_TGT
  let rate := bitsOf w 0 16
  let tag := bitsOf w 16 8
  if tgt < 360000 ∨ 600000 < tgt ∨ rate = 0 ∨ s.cnv.seg = none then
    (s.setB CNV_SLEW_STAT_REFUSED_LAST true).event .slewRefused 0 [tgt, rate, tag]
  else if s.overruled r keySlew then s.slewLost tag
  else
    let s := (s.noteWrite r keySlew).iff s.cnv.slew.isSome (fun s => s.slewLost (s.get CNV_SLEW_STAT_TAG_ACTIVE))
    let s := ((s.setI CNV_TGT_SETPOINT tgt).set CNV_SLEW_STAT_TAG_ACTIVE tag).setB CNV_SLEW_STAT_SLEWING true
    let s := s.setB CNV_SLEW_STAT_REFUSED_LAST false
    match s.cnv.seg with
    | none => s
    | some x =>
      let s := { s with cnv := { s.cnv with slew := some rate } }
      { s with cnv := { s.cnv with seg := some { t := s.tick, r := x.value s.tick, target := s.refTarget, rate := rate } } }

/-- SLEW (R226): CNV_CMD with SLEW 1. -/
def execSlew (r : Requester) (w : Word) (s : State) : Host.Outcome State Fault Refusal :=
  done (s.gate r CNV_CMD_SLEW.addr (fun s => s.slewCmd r w))

/-- The slew in progress completes (R226): the reference equals its target, in a tick after the acceptance. -/
def State.slewDone (s : State) : State :=
  match s.cnv.slew, s.cnv.seg with
  | some _, some x =>
    if x.t < s.tick ∧ s.refReached then
      let s := { s with cnv := { s.cnv with slew := none } }
      let s := (s.set CNV_SLEW_STAT_TAG_DONE (s.get CNV_SLEW_STAT_TAG_ACTIVE)).inc CNV_SLEW_CNT_COMPLETED
      ((s.setB CNV_SLEW_STAT_SLEWING false).event .slewCompleted 0 [(s.get CNV_SLEW_STAT_TAG_ACTIVE : Int)]).reseg
    else s
  | _, _ => s

/-- SLEW_COMPLETE (R226). -/
def execSlewComplete (s : State) : Host.Outcome State Fault Refusal := done s.slewDone

/-- REFERENCE_REACHES_TARGET (R217): every group in SOFTSTART passes to RUN. -/
def execReferenceReachesTarget (s : State) : Host.Outcome State Fault Refusal :=
  if s.refReached then
    done (s.each (List.finRange 2) (fun s g => if s.groupState g.val = 1 then s.enterGroup g 2 0 else s))
  else done s

/-! ### ALLFIRE (R228 to R230) -/

/-- Group g is armed (R228). -/
def State.armed (s : State) (g : Fin 2) : Bool :=
  s.on CNV_CTRL_ALLFIRE_EN && s.groupUp g.val &&
  (s.power == .normal || s.power == .prearmed || s.power == .holdup || s.power == .ret) && !s.lockedOut g

/-- A trip fires: armed, and no fire lasts or ended in this tick (R229). -/
def State.fires (s : State) (g : Fin 2) : Bool :=
  s.armed g && !(s.group g).firing && !((s.group g).lockEnd.isSome && decide (s.tick < (s.group g).lockAt))

/-- The slope comparator trips (R228); its accuracy of ±20 % is not modelled (log entry 74). -/
def State.slopeTrips (s : State) (x : Swing) : Bool := decide (x.value ≤ -(s.get CNV_AF_SLOPE_AF_SLOPE : Int))

/-- The depth comparator trips: its threshold follows the reference in every tick (R228). -/
def State.depthTrips (s : State) (x : Swing) : Bool :=
  match s.refWord with
  | some r => decide (x.value < r - 10 * (if s.power = .normal then s.get CNV_AF_DEPTH_DEPTH_N else s.get CNV_AF_DEPTH_DEPTH_P))
  | none => false

/-- The first fine unit of this tick in which both comparator outputs of half g are tripped: the slope output is held for 100 ns, 5 fine
units, after its condition ends (R228, R229). -/
def State.tripAt (s : State) (g : Fin 2) (seen : Option Swing × Option Swing) : Option Nat :=
  match seen.2 with
  | none => none
  | some d =>
    if !s.depthTrips d then none
    else if (s.group g).slopeHold.any (fun h => decide (s.pairFine d.first.val ≤ h)) then some d.first.val
    else match seen.1 with
      | none => none
      | some x =>
        let f := max x.first.val d.first.val
        if s.slopeTrips x && decide (f ≤ d.last.val) && decide (f ≤ x.last.val + 5) then some f else none

/-- The slope output is held past the end of its condition. -/
def State.slopeNote (s : State) (g : Fin 2) (slope : Option Swing) : State :=
  match slope with
  | some x => s.iff (s.slopeTrips x) (fun s => s.setGroup g { s.group g with slopeHold := some (s.pairFine x.last.val + 5) })
  | none => s

/-- A fire is counted, stamped and recorded (R229); `lat` counts the fine units from the later trip to the last PH_HI. -/
def State.fireRecord (s : State) (g : Fin 2) (fine : Nat) (lat : Fin 14) : State :=
  let f := s.fineOf fine
  let s := ((s.inc CNV_AF_STAT_FIRES).set CNV_AF_STAT_LAST_GROUP g.val).stamp CNV_AF_TICK_TICK
  let s := ((s.set CNV_AF_FINE_FINE f).set CNV_AF_FINE_LAT_NS (20 * lat.val)).event .allfire 0 [g.val, f, 20 * lat.val]
  s.triggerAt 6 f s.tick

/-- ALLFIRE fires on a group (R229, R230): every own usable phase makes CYCLES fired cycles, shed and idle ones included; the first replaces
the cycle in progress, with the comparator at the fold-back limit plus h_n. -/
def State.fire (s : State) (g : Fin 2) (fine : Nat) (lat : Fin 14) : State :=
  let rise := (s.pairFine fine + lat.val) * 308
  let s := s.setGroup g { s.group g with firing := true }
  let s := s.each ((s.groupPhases g.val).filter s.phaseUsable) (fun s n =>
    let i := n.val
    let s := ((s.setB PWM_PH_STAT_FIRING true i).setB PWM_PH_STAT_SHED false i).setB PWM_PH_STAT_DE false i
    let s := (s.setB PWM_PH_STAT_ACTIVE true i).set PWM_PH_DAC_ZERO (s.dacCode (s.getI CNV_DE_ZC_OFS)) i
    let s := s.setPhase n { s.phase n with fired := s.get CNV_AF_RUN_CYCLES - 1, deRun := 0, firedOn := none }
    s.onTime n rise s.maxOnSteps false (s.foldback (s.busV g.val) + s.halfRipple n))
  s.fireRecord g fine lat

/-- A trip in the tick in which EXHAUSTED, HALT or SHIP was entered from a state with the group armed: the state wins (R232). -/
def State.fireLost (s : State) (g : Fin 2) : Bool :=
  (s.power == .exhausted || s.power == .halt || s.power == .ship) && decide (s.powerSince = s.tick ∧ (s.group g).since = s.tick) &&
  ((s.group g).left == 1 || (s.group g).left == 2) && s.on CNV_CTRL_ALLFIRE_EN && !s.lockedOut g &&
  !((s.group g).lockEnd.isSome && decide (s.tick < (s.group g).lockAt))

/-- The mean of the last fired on-times of the phases that fired, as a duty of the period (R230). -/
def State.firedDuty (s : State) (g : Nat) : Int :=
  let l := (s.groupPhases g).filterMap (fun n => (s.phase n).firedOn)
  divHalfEven ((l.sum : Nat) * 65536) (max 1 (l.length * s.cnv.period * 308))

/-- FIRE_END (R230): the last fired cycle of the group ends in this tick. `sum` is the sum over the phases that fired of the mean of their
current samples from the PH_HI rise of their last fired cycle to their next grid start, which may still lie ahead (log entry 74). -/
def execFireEnd (g : Fin 2) (sum : Int) (s : State) : Host.Outcome State Fault Refusal :=
  let s := s.each (s.groupPhases g.val) (fun s n => s.phaseTo n (s.pairFine 50 * 308))
  if (s.group g).firing && (s.groupPhases g.val).all (fun n => (s.phase n).fired == 0 &&
      (!s.on PWM_PH_STAT_FIRING n.val || (s.phase n).bound.isNone)) then
    let f := if s.on CNV_CTRL_MODE then s.firedDuty g.val else divHalfEven (sum * s.nAct g.val) (max 1 (s.nOwn g.val))
    let s := s.each (s.groupPhases g.val) (fun s n => s.setB PWM_PH_STAT_FIRING false n.val)
    done ((s.setGroup g { s.group g with
      firing := false, floor := some (f, s.tick + 1, false), floorDuty := s.on CNV_CTRL_MODE }).lockout g)
  else done s

/-- FLOOR_HOLD_END (R230): after HOLD_US the floor begins to fall. -/
def execFloorHoldEnd (g : Fin 2) (s : State) : Host.Outcome State Fault Refusal :=
  let x := s.group g
  match x.floor with
  | some (f, t, false) =>
    if t + s.get CNV_AF_RUN_HOLD_US ≤ s.tick then done (s.setGroup g { x with floor := some (f, t, true) }) else done s
  | _ => done s

/-- FLOOR_RAMP_END (R230). -/
def execFloorRampEnd (g : Fin 2) (s : State) : Host.Outcome State Fault Refusal :=
  let x := s.group g
  match x.floor with
  | some (_, t, true) =>
    if t + 2 * s.get CNV_AF_RUN_HOLD_US ≤ s.tick then done (s.setGroup g { x with floor := none }) else done s
  | _ => done s

/-- ALLFIRE_LOCKOUT_END (R230). -/
def execAllfireLockoutEnd (g : Fin 2) (s : State) : Host.Outcome State Fault Refusal :=
  let x := s.group g
  if s.due x.lockEnd then done (s.setGroup g { x with lockEnd := none }) else done s

/-! ### AC-fail sources (R222) -/

/-- An ACSYNC source asserts: enabled, not present, and present at least once since tick g. -/
def State.syncLost (s : State) (k : Fin 2) : Bool :=
  s.on (if k = 0 then CNV_ACF_CFG_SYNCA_EN else CNV_ACF_CFG_SYNCB_EN) && s.cnv.syncSeen.get k &&
  !s.on (if k = 0 then LPT_LP_STAT_A_PRESENT else LPT_LP_STAT_B_PRESENT)

/-- A SHEV line asserts: configured as AC-fail and asserted after its deglitch. -/
def State.shevAsserted (s : State) (j : Fin 4) : Bool := s.get CNV_SHEV_CFG_FUNC j.val == 1 && s.bitOn CNV_ACF_STAT_SHEV_ASSERTED j.val

/-- SHEV ball j stands at its active level. -/
def State.shevRaw (s : State) (j : Fin 4) : Bool := s.balls.shev.get j == s.on CNV_SHEV_CFG_POL j.val

/-- What a SHEV line shows in this tick: since when its ball has stood at the level it has, and whether it is asserted after its deglitch. A
line starts its deglitch no earlier than tick g (R104, R222). -/
def State.shevLine (s : State) (j : Fin 4) : State :=
  let was := s.balls.shevFor.get j
  let now := s.shevRaw j
  let since := if was.1 = now then was.2 else s.tick
  let s := { s with balls := { s.balls with shevFor := s.balls.shevFor.set j (now, since) } }
  match s.boot.g with
  | none => s
  | some g =>
    if s.get CNV_SHEV_CFG_FUNC j.val ≠ 1 then s.setBit CNV_ACF_STAT_SHEV_ASSERTED j.val false
    else if max since g + s.get CNV_SHEV_CFG_DEGLITCH j.val ≤ s.tick then s.setBit CNV_ACF_STAT_SHEV_ASSERTED j.val now
    else s

/-- Every SHEV line in this tick. -/
def State.shevJudge (s : State) : State := s.each (List.finRange 4) State.shevLine

/-- SHEV ball j goes to its active or its inactive level. -/
def State.shevBall (s : State) (j : Fin 4) (act : Bool) : State :=
  { s with balls := { s.balls with shev := s.balls.shev.set j (act == s.on CNV_SHEV_CFG_POL j.val) } }

/-- Any AC-fail source is asserted. -/
def State.acFail (s : State) : Bool :=
  (List.finRange 4).any s.shevAsserted || s.syncLost 0 || s.syncLost 1

/-- The converter current into the bus (R223). -/
def State.convCurrent (s : State) : Int := s.groupI 0 + s.groupI 1

/-- R223: the pickup threshold, in hundredths of mA. -/
def State.pickupThreshold (s : State) : Int :=
  s.get CNV_PICKUP_PCT * s.get CNV_PH_LIM_LIM * ((List.finRange 16).filter s.phaseUsable).length

/-! ### Changes of the power state (R28, R224) -/

/-- Every group goes OFF, its phases low (R217, R215). -/
def State.groupsOff (s : State) : State :=
  s.each (List.finRange 2) (fun s g => if s.groupState g.val = 0 then s.each (s.groupPhases g.val) (fun s n => s.phaseLow n) else s.enterGroup g 0 0)

/-- Leaving NORMAL: shedding and diode emulation end (R219, R220). -/
def State.continuous (s : State) : State :=
  let s := (s.unshedAll 0).unshedAll 1
  s.each ((List.finRange 16).filter (fun n => s.on PWM_PH_STAT_DE n.val)) (fun s n => s.deExit n)

/-- Entry to RETURN: I0 of each group, and the ramp (R224). -/
def State.rampStart (s : State) : State :=
  let s := s.each (List.finRange 2) (fun s g => s.setGroup g { s.group g with i0 := max 0 (s.getI CNV_DEM_D g.val) })
  { s with cnv := { s.cnv with rampAt := some s.tick } }

/-- The converter's part of R28 on entry to a power state, which `s.power` already names; `old` is the state left. -/
def State.convEnter (s : State) (old : PowerState) : State :=
  let s := if s.power = .normal then s else s.continuous
  let s := if s.power = .ret then s.rampStart else { s with cnv := { s.cnv with rampAt := none } }
  let s := match s.power with
    | .exhausted | .halt | .ship => s.groupsOff
    | _ => s
  let s := s.iff (s.power == .normal && old == .exhausted) (fun s => { s with cnv := { s.cnv with chgWait := true, chgFrom := none } })
  s.reseg

/-! ### Commands of a group -/

/-- The short condition of a group: its bus half is below 10 % of the reference target (R218). -/
def State.shorted (s : State) (g : Fin 2) : Bool :=
  match s.busV g.val, s.refTarget with
  | some v, some t => s.groupUp g.val && decide (10 * v < t)
  | _, _ => false

/-- The short condition in a tick (R218). -/
def State.shortTick (s : State) : State :=
  s.each (List.finRange 2) (fun s g =>
    let x := s.group g
    s.setGroup g { x with shortSince := if s.shorted g then (match x.shortSince with | some t => some t | none => some s.tick) else none })

/-- SHORT_DETECT (R218): the short condition has held in every tick of FB_TIME. -/
def execShortDetect (g : Fin 2) (s : State) : Host.Outcome State Fault Refusal :=
  if s.groupUp g.val ∧ (match (s.group g).shortSince with | some t => decide (t + s.get CNV_FB_TIME_FB_TIME ≤ s.tick) | none => false) = true then
    let st := if s.get CNV_GRP_STAT_RETRIES g.val < s.get CNV_RETRY_RETRY_MAX then 3 else 4
    done (s.groupFault g st 1).settle
  else done s

/-- GROUP_RETRY_EXPIRY (R217): RETRY_MS after the entry to FAULT_WAIT. -/
def execGroupRetryExpiry (g : Fin 2) (s : State) : Host.Outcome State Fault Refusal :=
  if s.groupState g.val = 3 ∧ (s.group g).since + 1000 * s.get CNV_RETRY_RETRY_MS ≤ s.tick then
    done ((s.softStart g).inc CNV_GRP_STAT_RETRIES g.val).settle
  else done s

/-- GROUP_RETRY_RESET (R217): the retry count returns to 0 after 60,000,000 ticks in RUN. -/
def execGroupRetryReset (g : Fin 2) (s : State) : Host.Outcome State Fault Refusal :=
  if s.groupState g.val = 2 ∧ (s.group g).retried + 60000000 ≤ s.tick then
    done ((s.set CNV_GRP_STAT_RETRIES 0 g.val).setGroup g { s.group g with retried := s.tick })
  else done s

/-- CLEAR of a group (R207, R217): phase faults in any state; from FAULT_WAIT and FAULT the group goes OFF with its retries cleared. -/
def State.clearGroup (s : State) (g : Fin 2) : State :=
  let s := s.each (s.groupPhases g.val) (fun s n => (s.setB PWM_PH_STAT_FAULT false n.val).set PWM_PH_STAT_CAUSE 0 n.val)
  if 3 ≤ s.groupState g.val then (s.set CNV_GRP_STAT_RETRIES 0 g.val).enterGroup g 0 0 else s

/-- CLEAR_G (R217). -/
def execClearG (r : Requester) (g : Fin 2) (s : State) : Host.Outcome State Fault Refusal :=
  done (s.gate r CNV_CMD_CLEAR_G0.addr (fun s => (s.clearGroup g).settle))

/-- GROUP_SOFTSTART (R217): OFF to SOFTSTART while every condition holds. -/
def execGroupSoftstart (g : Fin 2) (s : State) : Host.Outcome State Fault Refusal :=
  if s.mayStart g.val then done (s.softStart g) else done s

end Sys2Proof.Machine
end

