-- ==== Sys2Proof/Machine/CapForce.lean ====
section
/-! DEFINITION. The cap in force C and the requests it follows (file 10). -/

namespace Sys2Proof.Machine

/-! ### The cap in force (R260, R261) -/

/-- The base request; after a return to GREENWARE the lower of the cap then in force and CAP_GW (R21). -/
def State.capBase (s : State) : Nat :=
  if s.full then s.cap.rack
  else match s.cap.gwCap with
    | some c => min c s.cap.gw
    | none => s.cap.gw

/-- The RETURN request at tick `t`, mW, rounded towards −∞ and not below 0. -/
def State.capReturn (s : State) (t : Nat) : Nat :=
  let h : Int := s.holdupCap
  let ramp := max 1 (s.get CNV_RAMP_RAMP)
  (h + ((s.capBase - h) * (min (t - s.powerSince) ramp : Nat)).fdiv ramp).toNat

/-- Port p's request: a slot that names destination 0x28 + p is active, not in FAULT, and has written. -/
def State.capPort (s : State) (p : Nat) : Option Nat :=
  if s.portDriven (0x28 + p) && s.lpe.written.testBit (0x28 + p) then some (s.port (0x28 + p)).toNat else none

/-- The requests present at tick `t`, by the codes of CAP_SRC, which are also the order that decides a tie. -/
def State.capRequests (s : State) (t : Nat) : List (Nat × Nat) :=
  [(if s.full then 0 else 1, s.capBase)] ++
  (if s.power = .holdup ∨ s.power = .exhausted then [(2, s.holdupCap)] else []) ++
  (if s.power = .ret then [(3, s.capReturn t)] else []) ++
  (if s.get THM_REQ_CAP_CAP = 0x7FFFFFFF then [] else [(4, (s.getI THM_REQ_CAP_CAP).toNat)]) ++
  ((List.range 4).filterMap (fun p => (s.capPort p).map (fun v => (5 + p, v))))

/-- The target and its source: the lowest request. -/
def State.capTarget (s : State) (t : Nat) : Nat × Nat :=
  (s.capRequests t).foldl (fun a q => if q.2 < a.2 then q else a) ((if s.full then 0 else 1), s.capBase)

/-- C in tick `tick + d` with this tick's requests (R261): at the target where that is lower, else risen by REL_RATE mW a tick. Up to tick g
it stands at the target (log entry 56). -/
def State.capAt (s : State) (d : Nat) : Nat :=
  let t := (s.capTarget (s.tick + d)).2
  if s.boot.g.any (fun g => decide (g < s.tick)) then min t (s.cap.c + s.get CAP_REL_REL_RATE * (d + 1)) else t

/-- The cap in force. -/
def State.capNow (s : State) : Nat := s.capAt 0

end Sys2Proof.Machine
end

