-- ==== Sys2Proof/Machine/PairOps.lean ====
section
/-! DEFINITION. Sending on the Helkar link (R462 to R466): which classes are mirrored, and the frames that are sent again until they are
acknowledged. -/

namespace Sys2Proof.Machine

/-- A unit strapped A or B whose protocol is enabled (R459). -/
def State.inPair (s : State) : Bool := (s.unitRole == 1 || s.unitRole == 2) && s.on HLK_CTRL_EN

/-- The unit is B. -/
def State.isB (s : State) : Bool := s.unitRole == 2

def State.linkUp (s : State) : Bool := s.inPair && s.on HLK_STAT_LINK_UP

/-- The unit follows the partner's rate, and its own discipline is suspended (R461). -/
def State.following (s : State) : Bool := s.linkUp && !s.on HLK_STATE_PRIMARY

/-- A class of R466 is mirrored: 0 OBJECT from tick g, 1 LOOP, 2 CONFIG, 3 ESTIMATOR, 4 CATALOGUE from FULL. -/
def State.mirrors (s : State) (c : Nat) : Bool :=
  s.linkUp && s.bitOn HLK_MIRROR_CTRL_CLASSES c && (if c = 0 then s.boot.g.isSome else s.full)

/-- The bytes of a frame between its K27.7 and its K29.7 (R462). -/
def State.frameBytes (s : State) (type flags seq : Nat) (payload : List Byte) : List Byte :=
  let b := leBytes 1 type ++ leBytes 1 flags ++ leBytes 2 payload.length ++ leBytes 4 seq ++ leBytes 4 s.hlk.epoch ++
    leBytes 4 (s.pairTick % 2 ^ 32).toNat ++ payload
  b ++ leBytes 4 (crc32c b).toNat

/-- A frame leaves the unit; it takes the next sequence number. Its bytes are held where the spec lays out its payload. -/
def State.frameSent (s : State) (type flags : Nat) (payload : Option (List Byte)) : State :=
  let frame := match payload with
    | some p => s.frameBytes type flags s.hlk.txSeq p
    | none => []
  let s := s.incWrap HLK_TX_CNT_FRAMES
  { s with hlk := { s.hlk with txSeq := (s.hlk.txSeq + 1) % 2 ^ 32, frame := frame } }

/-- An ACK of what has been received in order. -/
def State.ackSent (s : State) : State := s.frameSent 0x02 0 (some (leBytes 4 (s.hlk.rxSeq.getD 0)))

/-- A NAK of a frame. -/
def State.nakSent (s : State) (seq reason : Nat) : State := s.frameSent 0x03 0 (some (leBytes 4 seq ++ leBytes 1 reason ++ leBytes 3 0))

/-- The type of an acknowledged frame (R463). -/
def PairBody.type : PairBody → Nat
  | .object _ => 0x10 | .config .. => 0x12 | .estimator _ => 0x13 | .catalogue _ => 0x14 | .command _ => 0x15 | .bulk _ => 0x20

/-- The payload of an acknowledged frame, where the spec lays it out byte by byte (R463). -/
def PairBody.payload : PairBody → Option (List Byte)
  | .config a fromB w t => some (leBytes 3 a ++ leBytes 1 (if fromB then 2 else 1) ++ leBytes 4 w.toNat ++ leBytes 8 t)
  | .command c => some (leBytes 1 c ++ leBytes 3 0)
  | _ => none

/-- An acknowledged frame is sent (R463). -/
def State.pairSend (s : State) (b : PairBody) : State :=
  let seq := s.hlk.txSeq
  let s := s.frameSent b.type 1 b.payload
  { s with hlk := { s.hlk with unacked := s.hlk.unacked ++ [{ seq := seq, body := b, at_ := s.tick, resends := 0 }] } }

/-- A BAKE (1) or COMMIT (2) of this unit is mirrored as a COMMAND frame (R467); one the partner sent is not sent back. -/
def State.mirrorCommand (s : State) (code : Nat) : State := s.iff (s.mirrors 2) (fun s => s.pairSend (.command code))

end Sys2Proof.Machine
end

