-- ==== Sys2Proof/Machine/TransOps.lean ====
section
/-! DEFINITION. The Catalogue and the queue of the transaction engine (file 16): entries as they stand in their window, submission,
supersession and the return of results to hosts. -/

namespace Sys2Proof.Machine

/-! ### Entries (R397) -/

def entryBase (n : Nat) : Nat := 0x380000 + 0x80 * n

/-- `len` bytes at offset `off` of entry `n`. -/
def State.ent (s : State) (n off len : Nat) : Nat := leNat (s.bytes (entryBase n + off) len)

def State.setEnt (s : State) (n off len v : Nat) : State := s.setBytes (entryBase n + off) (leBytes len v)

/-- Counts one in an entry's field, saturating. -/
def State.incEnt (s : State) (n off len : Nat) : State := s.setEnt n off len (min (s.ent n off len + 1) (256 ^ len - 1))

/-- 0 FREE, 1 BAKED, 2 PRESENT, 3 SILENT. -/
def State.entState (s : State) (n : Nat) : Nat := s.ent n 2 1

def State.entAddr (s : State) (n : Nat) : Nat := s.ent n 3 1 % 128
def State.entPec (s : State) (n : Nat) : Bool := 128 ≤ s.ent n 3 1
def State.entProfile (s : State) (n : Nat) : Nat := s.ent n 4 1
def State.entUdid (s : State) (n : Nat) : List Byte := s.bytes (entryBase n + 8) 16

/-- Sets or clears bit `b` of the flag byte. -/
def State.setEntFlag (s : State) (n b : Nat) (v : Bool) : State :=
  let f := s.ent n 5 1
  s.setEnt n 5 1 (if v then f ||| 2 ^ b else f - (f &&& 2 ^ b))

/-- The entry is owned by this unit (R402). -/
def State.ownsEntry (s : State) (n : Nat) : Bool := s.solo || s.ent n 0x1E 1 == (if s.unitRole = 2 then 1 else 0)

def State.entAux (s : State) (n : Nat) : EntryAux := look (fun _ => {}) s.twb.aux n

def State.setEntAux (s : State) (n : Nat) (x : EntryAux) : State :=
  { s with twb := { s.twb with aux := put (fun _ => {}) s.twb.aux n x } }

/-! ### Channels (R384) -/

def State.chan (s : State) (c : Fin 16) : Chan := s.twb.chans.get c

def State.setChan (s : State) (c : Fin 16) (x : Chan) : State := { s with twb := { s.twb with chans := s.twb.chans.set c x } }

/-- 0 DISABLED, 1 LISTEN, 2 IDLE, 3 BUSY, 4 CLEARING, 5 STUCK. -/
def State.chanState (s : State) (c : Nat) : Nat := s.get TWB_CH_STAT_STATE c

/-! ### The queue (R404, R406) -/

/-- Requests that hold a place. -/
def State.held (s : State) : List Req := s.twb.reqs.filter (fun q => !q.dead)

def State.setReqs (s : State) (l : List Req) : State := { s with twb := { s.twb with reqs := l } }

/-- Changes the request with an id. -/
def State.onReq (s : State) (id : Nat) (f : Req → Req) : State :=
  s.setReqs (s.twb.reqs.map (fun q => if q.id = id then f q else q))

def State.dropReq (s : State) (id : Nat) : State := s.setReqs (s.twb.reqs.filter (fun q => q.id != id))

/-- A request waits for its channel. -/
def Req.pending (q : Req) : Bool := !q.started && q.ended.isNone

/-- Words of read data, lowest byte first. -/
def dataWord (l : List Nat) (k : Nat) : Nat := leNat (((l.drop (4 * k)).take 4).map (fun b => BitVec.ofNat 8 b))

/-- A host's result reaches its copy of the result registers (R414). -/
def State.hostReturn (s : State) (src : Src) (r : BusResult) : State :=
  let s := (s.set (srcField src XAC_HRES_CODE) r.code).set (srcField src XAC_HRES_BYTES) (min 63 r.bytes)
  let s := ((s.setB (srcField src XAC_HRES_BUSY) false).stamp (srcField src XAC_HTICK_TICK))
  if r.data.isEmpty then s
  else s.each (List.range ((r.data.length + 3) / 4)) (fun s k => if k < 8 then s.set (srcField src XAC_HDATA_DATA) (dataWord r.data k) k else s)

/-- A result that reaches its requester without a transaction: a host sees it, hardware requesters act on what they find. -/
def State.returnCode (s : State) (q : Req) (code : Nat) : State :=
  match q.by_ with
  | .host src => s.hostReturn src { code := code }
  | _ => s

/-- The first segment of a request. -/
def Req.head (q : Req) : Seg := q.segs.headD { entry := none, addr := 0, cmd := 0, data := [], pec := false }

/-- The command field: two bytes for a PMBus extended command, its prefix 0xFE or 0xFF first (R379). -/
def cmdBytes (c : Nat) : List Nat := if c < 256 then [c] else [c / 256 % 256, c % 256]

/-- The PEC of bytes in bus order (R381). -/
def pecOf (l : List Nat) : Nat := crc8 (l.map (fun b => BitVec.ofNat 8 b))

def withPec (pec : Bool) (l : List Nat) : List Nat := if pec then l ++ [pecOf l] else l

/-- The write block of a request of the module profile: epoch, sequence number, sender, inner command and up to 24 bytes of inner data
(R409). -/
def Req.wrapBytes (q : Req) : List Nat :=
  match q.wrap with
  | some (e, n, sender) => [e % 256, e / 256 % 256, n % 256, n / 256 % 256, sender, q.head.cmd % 256] ++ q.head.data.take 24
  | none => q.head.data

/-- The bytes a channel puts on the bus for a request, in bus order: address bytes with their R/W bit, command field, count, data, and the PEC
of what is written; a read's part ends with its address byte (R379, R381). -/
def Req.sent (q : Req) : List Nat :=
  let g := q.head
  let w := 2 * g.addr
  let c := cmdBytes g.cmd
  match q.proto with
  | .quick => [w]
  | .receiveByte => [w + 1]
  | .sendByte => withPec g.pec (w :: c)
  | .writeByte | .writeWord | .write32 | .write64 => withPec g.pec (w :: c ++ g.data)
  | .blockWrite => withPec g.pec (w :: c ++ g.data.length :: g.data)
  | .readByte | .readWord | .read32 | .read64 | .blockRead => w :: c ++ [w + 1]
  | .processCall => w :: c ++ g.data ++ [w + 1]
  | .blockCall => [w, if q.wrap.isSome then 0xE1 else g.cmd % 256, q.wrapBytes.length] ++ q.wrapBytes ++ [w + 1]
  | .group => q.segs.flatMap (fun g => withPec g.pec (2 * g.addr :: cmdBytes g.cmd ++ g.data))

/-- Bytes of a read of a stated length. -/
def Proto.readLen : Proto → Nat
  | .readByte | .receiveByte => 1
  | .readWord | .processCall => 2
  | .read32 => 4
  | .read64 => 8
  | _ => 0

/-- The next `n` bytes that a channel samples: what the target sends, and 0xFF where it sends nothing, since SDA is then high (R374, R377). -/
def sampled (n : Nat) (l : List Nat) : List Nat := (l ++ List.replicate n 0xFF).take n

/-- What an acknowledged read gives from the bytes the target sends after its address: BLOCK_LEN for a count above the largest accepted, else
the data, or PEC_ERR where the PEC byte is wrong; with the number of bytes received (R379 to R381). -/
def Req.answer (q : Req) (l : List Nat) : Nat × List Nat × Nat :=
  let block := q.proto == .blockRead || q.proto == .blockCall
  if q.proto.readLen = 0 ∧ block = false then (0, [], 0)
  else
    let count := if block then sampled 1 l else []
    let n := if block then count.headD 0 else q.proto.readLen
    if q.proto = .blockRead ∧ q.count < n then (10, [], 1)
    else
      let l := l.drop count.length
      let data := sampled n l
      if !q.head.pec then (0, data, count.length + n)
      else if sampled 1 (l.drop n) = [pecOf (q.sent ++ count ++ data)] then (0, data, count.length + n + 1)
      else (3, [], count.length + n + 1)

/-- The channel's record of a failed transaction (R393, R396). -/
def State.noteError (s : State) (c : Fin 16) (q : Req) (r : BusResult) : State :=
  let i := c.val
  if r.code = 0 then s
  else
    let s := ((s.set TWB_CH_STAT_LAST_ERR r.code i).inc TWB_CH_ERRS_ERRORS i).stamp TWB_CH_TICK_TICK i
    let s := (s.set TWB_CH_LAST_ADDR q.head.addr i).set TWB_CH_LAST_CMD q.head.cmd i
    let s := s.set TWB_CH_LAST_BYTES (min 255 r.bytes) i
    match r.code with
    | 1 | 2 => s.inc TWB_PEC_CNT_NACK
    | 3 => s.inc TWB_PEC_CNT_PEC_ERR
    | 4 => s.inc TWB_ARB_CNT_LOST
    | 6 => s.inc TWB_ASV_CNT_ASV
    | _ => s

/-- A segment of a new write supersedes the same command to the same entry in requests of the same or a lower class that have not started
(R406). -/
def State.supersede (s : State) (cls : Nat) (g : Seg) : State :=
  s.each (s.twb.reqs.filter (fun q => q.pending && !q.begun && q.proto.writes && decide (cls ≤ q.cls) && g.entry.isSome &&
      q.segs.any (fun h => h.entry == g.entry && h.cmd == g.cmd))) (fun s q =>
    let s := s.inc XAC_SUPERSEDED_COUNT
    let rest := q.segs.filter (fun h => !(h.entry == g.entry && h.cmd == g.cmd))
    if rest.isEmpty then (s.returnCode q 16).dropReq q.id else s.onReq q.id (fun q => { q with segs := rest }))

/-- Why a request is refused at once: DISABLED, NO_ENTRY, STUCK or FULL (R384, R404, R413). -/
def State.refusal (s : State) (q : Req) : Option Nat :=
  let free := 512 - s.held.length
  if !s.on XAC_CTRL_EN then some 13
  else if q.segs.any (fun g => match g.entry with | some n => s.entState n == 0 | none => false) then some 19
  else if s.chanState q.ch = 0 then some 13
  else if s.chanState q.ch = 5 then some 11
  else if free = 0 ∨ (2 ≤ q.cls ∧ free ≤ 64) then some 18
  else none

/-- Submits a request (R404): its refusal, if it is refused. A channel that is STUCK or DISABLED returns its code, which it shows (R384,
R393). -/
def State.submit (s : State) (q : Req) : Option Nat × State :=
  match s.refusal q with
  | some c =>
    let s := s.iff (c == 18) (fun s => s.inc XAC_REFUSALS_FULL)
    (some c, s.iff (s.on XAC_CTRL_EN && (c == 11 || c == 13)) (fun s => s.set TWB_CH_STAT_LAST_ERR c q.ch))
  | none =>
    let s := if q.proto.writes then s.each q.segs (fun s g => s.supersede q.cls g) else s
    let q : Req := { q with id := s.twb.nextId, at_ := s.tick }
    let s := { s with twb := { s.twb with reqs := s.twb.reqs ++ [q], nextId := s.twb.nextId + 1 } }
    (none, s.maxOf XAC_INFLIGHT_MAX s.held.length)

/-- Submits and ignores a refusal: a block that commands again in its next cycle. -/
def State.post (s : State) (q : Req) : State := (s.submit q).2

/-- The module profile's wrapper of a write (R409, R410): sender 0 and pair time where both units issue it, else the unit's own sender and
the entry's next own sequence number. -/
def State.wrapFor (s : State) (n : Nat) (shared : Bool) : (Nat × Nat × Nat) × State :=
  let e := s.hlk.epoch % 65536
  if shared && !s.solo then ((e, (s.pairTick.fdiv 1000 % 65536).toNat, 0), s)
  else
    let q := s.ent n 0x28 2
    ((e, q, if s.solo then 3 else s.unitRole), s.setEnt n 0x28 2 ((q + 1) % 65536))

/-- A request to one entry, with what the entry records of it. -/
def State.reqTo (s : State) (n cls : Nat) (b : ReqBy) (p : Proto) (cmd : Nat) (data : List Nat) (count : Nat := 0)
    (telemetry : Bool := false) (shared : Bool := false) : Req × State :=
  let w := if p.writes && s.entProfile n == 2 then
      let p := s.wrapFor n shared
      (some p.1, p.2)
    else (none, s)
  ({ id := 0, cls := cls, ch := n / 64, by_ := b, proto := if w.1.isSome then .blockCall else p,
     segs := [{ entry := some n, addr := s.entAddr n, cmd := cmd, data := data, pec := s.entPec n, epoch := s.ent n 0x18 4 }], count := count,
     at_ := s.tick, telemetry := telemetry, wrap := w.1 }, w.2)

/-- Submits a request to one entry and ignores a refusal. -/
def State.postTo (s : State) (n cls : Nat) (b : ReqBy) (p : Proto) (cmd : Nat) (data : List Nat) (count : Nat := 0)
    (telemetry : Bool := false) (shared : Bool := false) : State :=
  let q := s.reqTo n cls b p cmd data count telemetry shared
  match q.2.submit q.1 with
  | (none, s') => s'
  | (some _, _) => s.post q.1

/-- A little-endian list of bytes of a number. -/
def byteList (len v : Nat) : List Nat := (leBytes len v).map BitVec.toNat

end Sys2Proof.Machine
end

