-- ==== Sys2Proof/Machine/Share.lean ====
section
/-! DEFINITION. Rectifier sharing (file 09): states, the trim cycle, limits, the redundancy guard, loss curves and allocations. -/

namespace Sys2Proof.Machine

/-! ### Rectifiers -/

def State.rect (s : State) (n : Fin 24) : Rect := s.shr.rects.get n

def State.setRect (s : State) (n : Fin 24) (x : Rect) : State := { s with shr := { s.shr with rects := s.shr.rects.set n x } }

/-- 0 UNBOUND, 1 JOINING, 2 ACTIVE, 3 SHEDDING, 4 STANDBY, 5 WAKING, 6 SILENT, 7 FAULTED (R257). -/
def State.rectState (s : State) (n : Fin 24) : Nat := s.get SHR_RECT_STAT_STATE n.val

def State.rectEntry (s : State) (n : Fin 24) : Nat := s.get SHR_RECT_CFG_PARTNER n.val

def State.untrimmed (s : State) (n : Fin 24) : Bool := s.on SHR_RECT_STAT_UNTRIMMED n.val

def State.rectsIn (s : State) (l : List Nat) : List (Fin 24) := (List.finRange 24).filter (fun n => l.contains (s.rectState n))

def State.activeRects (s : State) : List (Fin 24) := s.rectsIn [2]

/-- Available (R237). -/
def State.availRects (s : State) : List (Fin 24) := s.rectsIn [2, 3, 4, 5]

/-- Sharing may send to a rectifier: EN, neither HALT nor SHIP, a trim cycle's unit, and in GREENWARE only baked bindings (R245, R252). -/
def State.serves (s : State) (n : Fin 24) : Bool :=
  s.on SHR_CTRL_EN && s.power != .halt && s.power != .ship && s.unitRole != 3 &&
  (s.full || (s.ent (s.rectEntry n) 5 1).testBit 2)

/-- A sample not older than STALE_MS (R240). -/
def State.fresh (s : State) (x : Option (Int × Nat)) : Bool :=
  match x with
  | none => false
  | some p => decide (s.tick ≤ p.2 + 1000 * s.get SHR_TIMING_STALE_MS)

def State.pairPrimary (s : State) : Bool := s.solo || s.on HLK_STATE_PRIMARY

/-! ### Capacity (R243) -/

/-- RATED_W in mW, or what the rectifier reported. -/
def State.rated (s : State) (n : Fin 24) : Int :=
  if s.get SHR_RECT_CFG_RATED_W n.val = 0 then (s.rect n).poutMax else (10000 * s.get SHR_RECT_CFG_RATED_W n.val : Nat)

/-- min(d_th, d_n) in 1/640,000. -/
def State.derating (s : State) (n : Fin 24) : Int :=
  let th : Int := 64 * s.get SHR_THERM_IN_DERATE
  match (s.rect n).temp with
  | none => th
  | some (t, _) =>
    let excess := t - s.getI SHR_TDERATE_T_KNEE
    if excess ≤ 0 then th else min th (max 0 (640000 - 10 * s.get SHR_TDERATE_SLOPE * excess))

/-- cap[n] in mW, rounded towards −∞. -/
def State.capacity (s : State) (n : Fin 24) : Int := (s.rated n * s.derating n).fdiv 640000

/-- Voltage of the bus half a rectifier feeds. -/
def State.rectV (s : State) (n : Fin 24) : Option Int :=
  match s.busV (s.get SHR_RECT_CFG_HALF n.val) with
  | some v => if 0 < v then some v else none
  | none => none

/-- Capacity current in mA. -/
def State.capacityI (s : State) (n : Fin 24) : Option Int := (s.rectV n).map (fun v => (s.capacity n * 10000).tdiv v)

/-! ### Equal share and weights (R242, R245, R251) -/

/-- Efficiency-optimal sharing is in force (R245). -/
def State.efficiency (s : State) : Bool :=
  s.on SHR_MODE_MODE && s.full && s.power == .normal &&
  (match s.shr.resumeAt with | none => true | some t => decide (t ≤ s.tick))

def State.rampCycles (s : State) : Nat := s.get SHR_RAMP_RAMP_CYCLES

/-- The weight of a rectifier before renormalisation: its fraction, or an equal one, times how far its ramp has come. -/
def State.weight (s : State) (n : Fin 24) : Nat :=
  let x := s.rect n
  let f := if s.efficiency && s.shr.inForce.isSome then x.frac else 1
  f * min x.ramp s.rampCycles

/-- The sum of the weights over ACTIVE. -/
def State.weightSum (s : State) : Nat := (s.activeRects.map s.weight).sum

/-- w[n] in 1/1,024, rounded half to even, as the register shows it. -/
def State.showFrac (s : State) (n : Fin 24) : Nat :=
  if s.rectState n = 2 then (divHalfEven (1024 * s.weight n) (max 1 s.weightSum)).toNat
  else if s.rectState n = 3 then (divHalfEven ((s.rect n).frac * (s.rect n).ramp) (max 1 s.rampCycles)).toNat
  else 0

/-- One pass of R242: what exceeds a capacity current is fixed there and the rest is spread by the same weights. -/
def spread (cap : Nat → Option Int) : Nat → Int → List (Nat × Nat) → List (Nat × Int)
  | 0, _, _ => []
  | k + 1, i, ws =>
    let w : Nat := (ws.map (fun p => p.2)).sum
    let above := ws.filter (fun p => match cap p.1 with
      | none => false
      | some c => decide (c * w < p.2 * i))
    if above.isEmpty ∨ w = 0 then ws.map (fun p => (p.1, if w = 0 then 0 else divHalfEven (p.2 * i) w))
    else
      let fixed := above.map (fun p => (p.1, (cap p.1).getD 0))
      let rest := ws.filter (fun p => !above.any (fun q => q.1 == p.1))
      fixed ++ spread cap k (i - (fixed.map (fun p => p.2)).sum) rest

/-- itot: the last valid current of each ACTIVE rectifier (R241). -/
def State.itot (s : State) : Int := (s.activeRects.filterMap (fun n => (s.rect n).i.map (fun p => p.1))).sum

/-- itgt[n] of every ACTIVE rectifier. -/
def State.targets (s : State) : List (Nat × Int) :=
  spread (fun k => s.capacityI (Fin.ofNat 24 k)) 25 s.itot (s.activeRects.map (fun n => (n.val, s.weight n)))

/-! ### PMBus encodings (R240) -/

/-- 2^e as a fraction. -/
def pow2 (e : Int) : Nat × Nat := if 0 ≤ e then (2 ^ e.toNat, 1) else (1, 2 ^ (-e).toNat)

/-- LINEAR11 of a word, times `k`, rounded half to even. -/
def linear11 (w : Nat) (k : Nat) : Int :=
  let p := pow2 (toSigned 5 (w / 2048))
  divHalfEven (toSigned 11 w * k * p.1) p.2

/-- VOUT_TRIM: a trim in 100 µV as a mantissa in exponent `e`, rounded half to even and saturated. -/
def trimWord (e v : Int) : Nat :=
  let p := pow2 (-e)
  ofSigned 16 (clampI (-32767) 32767 (divHalfEven (v * p.1) (10000 * p.2)))

/-- IOUT_OC_FAULT_LIMIT: mA as LINEAR11 with exponent `e`, rounded towards 0 A. -/
def limitWord (e v : Int) : Nat :=
  let p := pow2 (-e)
  2048 * ofSigned 5 e + ofSigned 11 (clampI (-1024) 1023 ((v * p.1).tdiv (1000 * p.2)))

/-! ### Trim and limit values -/

/-- A destination port a running slot names (R241, R243). -/
def State.portNamed (s : State) (p : Nat) : Bool :=
  (List.finRange 64).any (fun n => s.slotActive n && bitsOf (s.slot n).src 24 8 == p)

/-- The common trim (R241). -/
def State.commonTrim (s : State) : Int :=
  if s.portNamed 0x20 then clampI (-(s.get SHR_COMMON_MAX_COMMON_MAX : Int)) (s.get SHR_COMMON_MAX_COMMON_MAX) (s.port 0x20) else 0

/-- t[n] in 100 µV as its register shows it. -/
def Rect.trim (x : Rect) : Int := divHalfEven x.t 256000

/-- VOUT_TRIM of a rectifier in 100 µV; `own` false gives the common value. -/
def State.voutTrim (s : State) (n : Fin 24) (own : Bool) : Int :=
  s.getI SHR_TRIM_BASE_BASE + s.commonTrim + (if own then (s.rect n).trim else 0)

/-- The current limit of a rectifier, mA (R243). -/
def State.rectLimit (s : State) (n : Fin 24) : Int :=
  let l : Int := s.get SHR_RECT_LIM_ILIM n.val
  let l := match s.capacityI n with
    | none => l
    | some c => min l c
  if s.portNamed 0x21 && s.lpe.written.testBit 0x21 && s.rectState n == 2 && s.weightSum != 0 then min l ((s.port 0x21 * s.weight n).tdiv s.weightSum) else l

/-- The sum of the current limits in force of the ACTIVE rectifiers (R167). -/
def State.limitSum (s : State) : Int :=
  (s.activeRects.map (fun n => match (s.rect n).limit with
    | some p => p.1
    | none => s.rectLimit n)).sum

/-- The limit is due (R243). -/
def State.limitDue (s : State) (n : Fin 24) : Bool :=
  match (s.rect n).limit with
  | none => true
  | some (l, t) =>
    decide (t + 1000000 ≤ s.tick) ||
    (match s.rectV n with
      | none => false
      | some v => decide (s.get SHR_SAVE_LIM_DB * s.rated n * 10000 ≤ (s.rectLimit n - l).natAbs * v * 1000))

/-! ### States (R237) -/

/-- Enters a state. -/
def State.rectEnter (s : State) (n : Fin 24) (st : Nat) : State :=
  let s := s.iff (st != 2 && st != 3 && st != 5) (fun s => s.setB SHR_RECT_STAT_SPLIT false n.val)
  (s.set SHR_RECT_STAT_STATE st n.val).setRect n { s.rect n with since := s.tick, dwell := s.tick, stbySent := false, stbyAck := none, falling := false }

/-- A request of sharing to one rectifier. -/
def State.sharePost (s : State) (n : Fin 24) (cls : Nat) (op : ShareOp) (p : Proto) (cmd : Nat) (data : List Nat) : State :=
  if s.serves n then s.postTo (s.rectEntry n) cls (.share op n.val) p cmd data 0 false true else s

/-- Whether a request of sharing to one rectifier is held. -/
def State.shareHeld (s : State) (n : Fin 24) : Bool := s.held.any (fun q => match q.by_ with
  | .share .groupTrim _ => false
  | .share .groupLimit _ => false
  | .share .groupRun _ => false
  | .share _ m => m == n.val
  | _ => false)

/-- OPERATION RUN_OP to one rectifier (R239). -/
def State.runOp (s : State) (n : Fin 24) : State := s.sharePost n 1 .run .writeByte 0x01 [0x80]

/-- The set-up step of a JOINING rectifier (R239): VOUT_MODE, the limit's read-back, MFR_POUT_MAX, then the three writes; step 6 waits
for READ_VOUT. -/
def State.setupStep (s : State) (n : Fin 24) : State :=
  match (s.rect n).step with
  | 0 => s.sharePost n 1 .voutMode .readByte 0x20 []
  | 1 => s.sharePost n 1 .limitBack .readWord 0x46 []
  | 2 => s.sharePost n 1 .poutMax .readWord 0xA7 []
  | 3 => s.sharePost n 1 .ocrsp .writeByte 0x47 [0]
  | 4 => s.sharePost n 1 .limit .writeWord 0x46 (byteList 2 (limitWord (s.rect n).limExp (s.rectLimit n)))
  | 5 => s.sharePost n 1 .trim .writeWord 0x22 (byteList 2 (trimWord (s.rect n).exp (s.voutTrim n false)))
  | _ => s

/-- Enters JOINING and begins the set-up. -/
def State.rectJoin (s : State) (n : Fin 24) : State :=
  let s := s.rectEnter n 1
  (s.setRect n { s.rect n with step := 0, fails := 0, t := 0, limit := none, lastResp := s.tick, clearAt := none }).setupStep n

/-- The next set-up step that applies. -/
def State.setupNext (s : State) (n : Fin 24) : State :=
  let skip (k : Nat) : Bool := (k == 2 && s.get SHR_RECT_CFG_RATED_W n.val != 0) || (k == 3 && !s.on SHR_MODE_SET_OCRSP) || (k == 5 && s.untrimmed n)
  let k := (s.rect n).step + 1
  let k := if skip k then k + 1 else k
  let k := if skip k then k + 1 else k
  (s.setRect n { s.rect n with step := k }).setupStep n

/-- Enters ACTIVE. The weight of a rectifier that was WAKING rises from 0 over RAMP_CYCLES, but is whole at once in equal share outside
NORMAL (R251); every other one has its weight at once (R242). -/
def State.rectActivate (s : State) (n : Fin 24) : State :=
  let woke := s.rectState n == 5
  let s := s.rectEnter n 2
  s.setRect n { s.rect n with ramp := if woke && s.power == .normal then 0 else s.rampCycles }

/-- The standby write failed, or the current did not fall: the rectifier is ACTIVE again and its dwell restarts (R237); a refused write ends with a final error too. -/
def State.standbyFail (s : State) (n : Fin 24) : State := ((s.rectActivate n).runOp n).event .standbyFailed (objRef 3 n.val) []

/-- SHEDDING or STANDBY is returned: RUN_OP where a standby write was sent or acted on (R237, R246). -/
def State.rectReturn (s : State) (n : Fin 24) : State :=
  if s.rectState n = 3 then
    let sent := (s.rect n).stbySent
    let s := s.rectActivate n
    s.iff sent (fun s => s.runOp n)
  else if s.rectState n = 4 then (s.rectEnter n 5).runOp n
  else s

/-! ### Load and the redundancy guard (R246) -/

/-- P_out of a rectifier, mW: READ_POUT, or READ_VOUT × READ_IOUT (R239). -/
def Rect.power (x : Rect) : Option (Int × Nat) :=
  match x.pout with
  | some p => some p
  | none => match x.v, x.i with
    | some v, some i => some (divHalfEven (v.1 * i.1) 10000, min v.2 i.2)
    | _, _ => none

/-- P_L, mW. -/
def State.shareLoad (s : State) : Int := (s.activeRects.filterMap (fun n => (s.rect n).power.map (fun p => p.1))).sum

/-- Available rectifiers in descending capacity, ties to the lower index. -/
def insertCap (c : Fin 24 → Int) (n : Fin 24) : List (Fin 24) → List (Fin 24)
  | [] => [n]
  | m :: l => if c m < c n then n :: m :: l else m :: insertCap c n l

/-- How many of a list it takes for the sums to reach `need`; one more than the list where none do. -/
def countUntil (c : Fin 24 → Int) (need : Int) : Int → List (Fin 24) → Nat
  | acc, [] => if need ≤ acc then 0 else 1
  | acc, n :: l => if need ≤ acc then 0 else 1 + countUntil c need (acc + c n) l

/-- N (R246); capacities and the load compared in hundredths of mW. -/
def State.shareN (s : State) : Nat :=
  let l := s.availRects.foldl (fun l n => insertCap s.capacity n l) []
  countUntil (fun n => 100 * s.capacity n) (s.shareLoad * (100 + s.get SHR_ALLOC_HEADROOM)) 0 l

/-- N + k. -/
def State.shareNK (s : State) : Nat := s.shareN + s.get SHR_ALLOC_K

/-- Returns rectifiers until ACTIVE and WAKING together reach N + k: SHEDDING first, then STANDBY, ascending. DESIGN CHOICE: one that
sharing may not command, with EN 0, is not returned (R256, log entry 76). -/
def State.guardWake (s : State) (nk : Nat) : State :=
  s.each ((s.rectsIn [3] ++ s.rectsIn [4]).filter (fun n => s.serves n)) (fun s n =>
    if (s.rectsIn [2, 5]).length < nk then s.rectReturn n else s)

/-- The redundancy guard. -/
def State.guard (s : State) : State :=
  let n := s.shareN
  let nk := s.shareNK
  let s := if s.power = .halt ∨ s.power = .ship then s else s.guardWake nk
  let avail := s.availRects.length
  let s := ((s.set SHR_ALLOC_STAT_N n).set SHR_ALLOC_STAT_NK nk).set SHR_ALLOC_STAT_AVAIL avail
  s.setB SHR_STAT_REDUNDANCY_SHORT (decide (avail < nk))

/-! ### Loss curves (R247, R248) -/

/-- Bins learned. -/
def State.learned (s : State) (n : Fin 24) : List (Int × Int) :=
  ((s.rect n).curve.toList.filter (fun b => decide (s.get SHR_LEARN_MIN_SAMPLES ≤ b.count))).map (fun b => (b.pout, b.loss))

/-- A curve is mature: at least 3 learned bins that span at least 25 % of rated. -/
def State.mature (s : State) (n : Fin 24) : Bool :=
  let l := s.learned n
  match l, l.getLast? with
  | a :: _, some b => decide (3 ≤ l.length ∧ s.rated n ≤ 4 * (b.1 - a.1))
  | _, _ => false

/-- The default curve's points for a rating. -/
def State.defaultCurve (s : State) (n : Fin 24) : List (Int × Int) :=
  let r := s.rated n
  [(r.fdiv 10, (r * s.get SHR_DEF_LOSS_L10).fdiv 10000), (r.fdiv 2, (r * s.get SHR_DEF_LOSS_L50).fdiv 10000),
   (r, (r * s.get SHR_DEF_LOSS_L100).fdiv 10000)]

/-- The line through two points at `p`, in 2^-20 mW. -/
def linePoint (a b : Int × Int) (p : Int) : Int :=
  if b.1 - a.1 ≤ 0 then a.2 * 2 ^ 20
  else a.2 * 2 ^ 20 + divHalfEven ((b.2 - a.2) * (p - a.1 * 1024) * 1024) (b.1 - a.1).toNat

/-- Linear interpolation over points in rising power; `p` is in 1/1,024 mW, the loss in 2^-20 mW. -/
def curveAt : List (Int × Int) → Int → Int
  | [], _ => 0
  | [a], _ => a.2 * 2 ^ 20
  | [a, b], p => linePoint a b p
  | a :: b :: c :: l, p => if p ≤ b.1 * 1024 then linePoint a b p else curveAt (b :: c :: l) p

/-- L(P) of a rectifier. -/
def State.lossAt (s : State) (n : Fin 24) (p : Int) : Int :=
  curveAt (if s.mature n then s.learned n else s.defaultCurve n) p

/-- One learning sample (R247); power above rated lies in no bin. DESIGN CHOICE: the means are rounded half to even (log entry 76). -/
def State.learn (s : State) (n : Fin 24) : State :=
  let x := s.rect n
  match x.pin, x.power with
  | some pin, some po =>
    let r := s.rated n
    let near := decide (pin.2 ≤ po.2 + 10000 ∧ po.2 ≤ pin.2 + 10000)
    let steady := match x.lastP with
      | none => false
      | some q => decide ((po.1 - q).natAbs * 1000 < s.get SHR_LEARN_STEADY * r.toNat)
    let s := s.setRect n { x with lastP := some po.1 }
    if s.fresh x.pin && s.fresh (some po) && near && steady && decide (0 < r ∧ 0 ≤ po.1 ∧ po.1 ≤ r) then
      let b : Fin 16 := Fin.ofNat 16 (min 15 (po.1 * 16 / r).toNat)
      let q := x.curve.get b
      let m := min (q.count + 1) 64
      let y : Bin := { count := min (q.count + 1) 255, pout := q.pout + divHalfEven (po.1 - q.pout) m,
                       loss := q.loss + divHalfEven (pin.1 - po.1 - q.loss) m }
      s.setRect n { s.rect n with curve := x.curve.set b y }
    else s
  | _, _ => s

/-- MATURE and BINS of a rectifier. -/
def State.showCurve (s : State) (n : Fin 24) : State :=
  let bins := maskOf ((List.range 16).filter (fun b => decide (s.get SHR_LEARN_MIN_SAMPLES ≤ ((s.rect n).curve.get (Fin.ofNat 16 b)).count)))
  (s.setB SHR_RECT_STAT_MATURE (s.mature n) n.val).set SHR_RECT_STAT_BINS bins n.val

/-- The curve record of R248 at NVM offset 0xFC_2000 + 0xA0 n. -/
def State.curveRecord (s : State) (n : Fin 24) : List Byte :=
  let bins := (s.rect n).curve.toList
  let head := leBytes 2 (s.rectEntry n) ++ leBytes 2 (s.get SHR_RECT_CFG_RATED_W n.val) ++ leBytes 4 s.tick ++ leBytes 4 0
  let body := (bins.map (fun b => BitVec.ofNat 8 b.count)) ++
    (bins.map (fun b => leBytes 4 (ofSigned 32 b.pout) ++ leBytes 4 (ofSigned 32 b.loss))).flatten
  head ++ leBytes 4 (crc32c (head ++ body)).toNat ++ body

/-- Writes every bound rectifier's curve (R248). -/
def State.storeCurves (s : State) : State :=
  let s := s.each ((List.finRange 24).filter (fun n => s.rectState n != 0)) (fun s n => s.countersWrite (0xFC2000 + 0xA0 * n.val) (toWords (s.curveRecord n)))
  { s with shr := { s.shr with storedAt := s.tick } }

/-- Reloads a curve at power-up; a record whose CRC fails leaves it empty. Answers whether the record was torn. -/
def State.loadCurve (s : State) (n : Fin 24) : Bool × State :=
  let bs := s.bytes (nvmBase + 0xFC2000 + 0xA0 * n.val) 0xA0
  if bs.all (fun b => b == 0) then (false, s)
  else if leNat ((bs.drop 12).take 4) = (crc32c (bs.take 12 ++ bs.drop 16)).toNat then
    let num := fun (o : Nat) => toSigned 32 (leNat ((bs.drop o).take 4))
    let bin := fun (b : Fin 16) => Bin.mk (leNat ((bs.drop (0x10 + b.val)).take 1)) (num (0x20 + 8 * b.val)) (num (0x24 + 8 * b.val))
    (false, (s.setRect n { s.rect n with curve := Vector.ofFn bin }).showCurve n)
  else (true, s)

/-! ### The allocation (R249, R250) -/

/-- Fixed in its present state. -/
def State.rectFixed (s : State) (n : Fin 24) : Bool :=
  s.untrimmed n || s.on SHR_RECT_CFG_NO_SHED n.val || decide (s.tick < (s.rect n).dwell + 1000000 * s.get SHR_ALLOC_DWELL_S)

/-- Insertion in ascending predicted loss at `p`, ties to the lower index. -/
def insertLoss (c : Fin 24 → Int) (n : Fin 24) : List (Fin 24) → List (Fin 24)
  | [] => [n]
  | m :: l => if c n < c m then n :: m :: l else m :: insertLoss c n l

/-- Bounds of a fraction in a set of m (R249). -/
def State.fracBounds (s : State) (pl : Int) (m : Nat) (n : Fin 24) : Nat × Nat :=
  let imb := s.get SHR_ALLOC_IMB
  let hi := min ((100 + imb) * 1024 / (100 * m)) (if pl ≤ 0 then 1024 else (s.capacity n * 1024 / pl).toNat)
  (min (((100 - imb) * 1024 + 100 * m - 1) / (100 * m)) hi, hi)

/-- The start fractions, each limited to its bounds. -/
def startFracs (m : Nat) (l : List (Fin 24)) : List (Fin 24 × Nat) :=
  l.zipIdx.map (fun p => (p.1, 1024 / m + (if p.2 < 1024 % m then 1 else 0)))

/-- One move of 1/1,024 (R249), or none. -/
def allocMove (loss : Fin 24 → Nat → Int) (b : Fin 24 → Nat × Nat) (fs : List (Fin 24 × Nat)) : Option (List (Fin 24 × Nat)) :=
  let save := fun (p : Fin 24 × Nat) => loss p.1 p.2 - loss p.1 (p.2 - 1)
  let cost := fun (p : Fin 24 × Nat) => loss p.1 (p.2 + 1) - loss p.1 p.2
  let give := (fs.filter (fun p => decide ((b p.1).1 < p.2))).foldl (fun (a : Option (Fin 24 × Nat)) p => match a with
    | none => some p
    | some q => if save q ≤ save p then some p else some q) none
  match give with
  | none => none
  | some g =>
    let take := (fs.filter (fun p => p.1 != g.1 && decide (p.2 < (b p.1).2))).foldl (fun (a : Option (Fin 24 × Nat)) p => match a with
      | none => some p
      | some q => if cost p < cost q then some p else some q) none
    match take with
    | none => none
    | some t => if cost t < save g then
        some (fs.map (fun p => if p.1 = g.1 then (p.1, p.2 - 1) else if p.1 = t.1 then (p.1, p.2 + 1) else p))
      else none

/-- Up to `k` moves. -/
def allocMoves (loss : Fin 24 → Nat → Int) (b : Fin 24 → Nat × Nat) : Nat → List (Fin 24 × Nat) → List (Fin 24 × Nat)
  | 0, fs => fs
  | k + 1, fs => match allocMove loss b fs with
    | none => fs
    | some gs => allocMoves loss b k gs

/-- Brings start fractions inside their bounds: what one loses the lowest index with room takes. -/
def fitFracs (b : Fin 24 → Nat × Nat) (fs : List (Fin 24 × Nat)) : List (Fin 24 × Nat) :=
  let cut := fs.map (fun p => (p.1, max (b p.1).1 (min p.2 (b p.1).2)))
  let left := 1024 - (cut.map (fun p => p.2)).sum
  (cut.foldl (fun (a : List (Fin 24 × Nat) × Nat) p =>
    let add := min a.2 ((b p.1).2 - p.2)
    (a.1 ++ [(p.1, p.2 + add)], a.2 - add)) ([], left)).1

/-- A candidate of size m: its fractions and total predicted loss in 2^-20 mW, if it is feasible. -/
def State.candidate (s : State) (pl : Int) (m : Nat) : Option (List (Fin 24 × Nat) × Int) :=
  let av := s.availRects
  let fixed := av.filter (fun n => s.rectFixed n && s.rectState n == 2)
  let free := av.filter (fun n => !s.rectFixed n)
  let at_ := fun n => s.lossAt n (pl * 1024 / m)
  let pick := ((free.foldl (fun l n => insertLoss at_ n l) []).take (m - fixed.length))
  let set := av.filter (fun n => fixed.contains n || pick.contains n)
  let b := s.fracBounds pl m
  let loss := fun n (f : Nat) => s.lossAt n (pl * f)
  if set.length ≠ m ∨ ((set.map (fun n => (b n).2)).sum < 1024) then none
  else
    let fs := allocMoves loss b 256 (fitFracs b (startFracs m set))
    some (fs, (fs.map (fun p => loss p.1 p.2)).sum)

/-- The present fractions of the ACTIVE rectifiers. -/
def State.presentFracs (s : State) : List (Fin 24 × Nat) := s.activeRects.map (fun n => (n, s.showFrac n))

/-- The solution of the samples of this tick (R249), with what R250 compares. -/
def State.solve (s : State) : AllocTarget :=
  let pl := s.shareLoad
  let av := s.availRects.length
  let fixed := (s.availRects.filter (fun n => s.rectFixed n && s.rectState n == 2)).length
  let ms := (List.range (av + 1)).filter (fun m => decide (max 1 (max s.shareNK fixed) ≤ m))
  let best := (ms.filterMap (s.candidate pl)).foldl (fun (a : Option (List (Fin 24 × Nat) × Int)) c => match a with
    | none => some c
    | some d => if c.2 ≤ d.2 then some c else some d) none
  let now := s.presentFracs
  let nowLoss := (now.map (fun p => s.lossAt p.1 (pl * p.2))).sum
  let b := s.fracBounds pl (max 1 now.length)
  let breaks := decide (now.length < s.shareNK) || now.any (fun p => decide (p.2 < (b p.1).1 ∨ (b p.1).2 < p.2))
  match best with
  | none => { fracs := [], loss := 0, saving := 0, feasible := false, breaks := true }
  | some c => { fracs := c.1.map (fun (p : Fin 24 × Nat) => (p.1.val, p.2)), loss := divHalfEven c.2 (2 ^ 20),
                saving := divHalfEven (nowLoss - c.2) (2 ^ 20), feasible := true, breaks := breaks }

/-- No allocation is in force. -/
def State.allocEnd (s : State) : State := { (s.setInvalid SHR_LOSS_PRED_P) with shr := { s.shr with inForce := none } }

/-- The target is applied at a trim cycle (R250). -/
def State.applyAlloc (s : State) (a : AllocTarget) : State :=
  if !a.feasible then
    let s := s.setB SHR_ALLOC_STAT_INFEASIBLE true
    let s := s.allocEnd
    s.each (s.rectsIn [3, 4]) (fun s n => s.rectReturn n)
  else if !(a.breaks || decide (1000 * (s.get SHR_SAVE_SAVE_MIN : Int) ≤ a.saving)) then s.setB SHR_ALLOC_STAT_INFEASIBLE false
  else
    let pl := s.shareLoad
    let wants := fun (n : Fin 24) => a.fracs.any (fun p => p.1 == n.val)
    let worst := (s.activeRects.filter (fun n => !wants n && !s.rectFixed n)).foldl (fun (b : Option (Fin 24)) n => match b with
      | none => some n
      | some m => if s.lossAt m (pl * s.showFrac m) ≤ s.lossAt n (pl * s.showFrac n) then some n else some m) none
    let s := s.each ((List.finRange 24).filter wants) (fun s n =>
      let f := ((a.fracs.find? (fun p => p.1 == n.val)).map (fun p => p.2)).getD 0
      let s := s.iff (s.rectState n == 3 || s.rectState n == 4) (fun s => s.rectReturn n)
      s.setRect n { s.rect n with frac := f })
    let s := match worst with
      | none => s
      | some n =>
        let f := s.showFrac n
        let s := s.rectEnter n 3
        s.setRect n { s.rect n with frac := f, ramp := s.rampCycles, falling := true }
    let s := ((s.setB SHR_ALLOC_STAT_INFEASIBLE false).inc SHR_ALLOC_CNT_ALLOCS).set SHR_ALLOC_STAT_TARGET_ACT a.fracs.length
    let s := (s.setI SHR_LOSS_PRED_P a.loss).setI SHR_SAVING_P a.saving
    { s with shr := { s.shr with inForce := some a } }

/-! ### The trim cycle (R241, R244) -/

/-- Whether t[n] is integrated in this cycle (R245). -/
def State.integrates (s : State) : Bool := s.full

/-- t[n] of the ACTIVE, trimmed rectifiers, and their mean taken out (R241). -/
def State.trimUpdate (s : State) : State :=
  let l := s.activeRects.filter (fun n => !s.untrimmed n)
  let tg := s.targets
  let lim : Int := s.get SHR_TRIM_CFG_TRIM_MAX * 256000
  let s := s.each l (fun s n =>
    let x := s.rect n
    match x.i with
    | none => s.inc SHR_CYCLE_STAT_STALE_SKIPS
    | some p =>
      if s.fresh x.i then
        let goal := ((tg.find? (fun q => q.1 == n.val)).map (fun q => q.2)).getD 0
        s.setRect n { x with t := clampI (-lim) lim (x.t + s.get SHR_TRIM_CFG_KSH * (goal - p.1)) }
      else s.inc SHR_CYCLE_STAT_STALE_SKIPS)
  if l.isEmpty then s
  else
    let mean := divHalfEven ((l.map (fun n => (s.rect n).t)).sum) (l.length * 256000)
    s.each l (fun s n => (s.setB SHR_RECT_STAT_TRIM_SAT (decide (lim ≤ ((s.rect n).t.natAbs : Int))) n.val).setRect n
      { s.rect n with t := (s.rect n).t - mean * 256000 })

/-- In GREENWARE every t[n] is 0; after a return there it falls linearly over RAMP_CYCLES cycles (R245). -/
def State.trimFade (s : State) : State :=
  let k := s.shr.fade
  let s := s.each (List.finRange 24) (fun s n =>
    let x := s.rect n
    s.setRect n { x with t := if k ≤ 1 then 0 else x.t * (k - 1 : Nat) / k })
  { s with shr := { s.shr with fade := k - 1 } }

/-- Fine units per bit of a channel (R376). -/
def State.bitFine (s : State) (ch : Nat) : Nat :=
  (match s.get TWB_CH_CFG_SPEED ch with | 0 => 500 | 1 => 125 | _ => 50) + s.get TWB_CH_TIME_TLOW_EXT ch + s.get TWB_CH_TIME_THIGH_EXT ch

/-- Bits of one trim entry (R244). -/
def State.trimBits (s : State) (n : Fin 24) : Nat := if s.entPec (s.rectEntry n) then 45 else 36

/-- `m` parts of a list, in order, sizes that differ by at most one. -/
def partOf {α : Type} (l : List α) (m j : Nat) : List α :=
  let q := l.length / m
  let r := l.length % m
  (l.drop (j * q + min j r)).take (q + (if j < r then 1 else 0))

/-- The smallest number of parts whose trim commands each last at most 4,000 ticks. -/
def State.partCount (s : State) (ch : Nat) (l : List (Fin 24)) : Nat :=
  ((List.range (l.length + 1)).find? (fun m => decide (0 < m) &&
    (List.range m).all (fun j => decide (((partOf l m j).map s.trimBits).sum * s.bitFine ch ≤ 4000 * 50)))).getD (max 1 l.length)

/-- A group command to rectifiers of one channel, each with its command code and data: profile modules take their write wrapped and alone
(R239, R409). -/
def State.shareGroup (s : State) (ch cls : Nat) (op : ShareOp) (l : List (Fin 24 × Nat × List Nat)) : State :=
  let l := l.filter (fun q => s.serves q.1)
  let plain := l.filter (fun q => s.entProfile (s.rectEntry q.1) != 2)
  let s := s.each (l.filter (fun q => s.entProfile (s.rectEntry q.1) == 2)) (fun s q =>
    s.sharePost q.1 cls op (if q.2.2.length = 1 then .writeByte else .writeWord) q.2.1 q.2.2)
  if plain.isEmpty then s
  else
    let seg (q : Fin 24 × Nat × List Nat) : Seg :=
      let e := s.rectEntry q.1
      { entry := some e, addr := s.entAddr e, cmd := q.2.1, data := q.2.2, pec := s.entPec e, epoch := s.ent e 0x18 4 }
    s.post { id := 0, cls := cls, ch := ch, by_ := .share op 0, proto := .group, segs := plain.map seg, count := 0, at_ := s.tick }

/-- A group command of sharing on a channel is still in progress. -/
def State.groupBusy (s : State) (ch : Nat) : Bool :=
  s.held.any (fun q => q.ch == ch && q.ended.isNone && (match q.by_ with
    | .share .groupTrim _ => true
    | .share .groupLimit _ => true
    | .share .groupRun _ => true
    | _ => false))

/-- The limit of a rectifier was taken into a request of this tick. -/
def State.limitTaken (s : State) (n : Fin 24) : Bool :=
  s.twb.reqs.any (fun q => q.at_ == s.tick && q.segs.any (fun g => g.entry == some (s.rectEntry n)) && (match q.by_ with
    | .share .groupLimit _ => true
    | _ => false))

/-- The group commands of a channel in cycle `c` (R244): trims of the ACTIVE, SHEDDING and WAKING rectifiers, and the limits due, those of
STANDBY ones too (R243). A limit counts as sent once its request is taken. -/
def State.channelCycle (s : State) (c : Nat) (ch : Nat) : State :=
  let here := (s.rectsIn [2, 3, 4, 5]).filter (fun n => decide (s.rectEntry n / 64 = ch))
  let trims := here.filter (fun n => !s.untrimmed n && s.rectState n != 4)
  if here.isEmpty then s
  else
    let m := s.partCount ch trims
    let s := s.each trims (fun s n => s.setB SHR_RECT_STAT_SPLIT (decide (1 < m)) n.val)
    let part := partOf trims m (c % m)
    let s := if part.isEmpty then s else if s.groupBusy ch then s.inc SHR_CYCLE_STAT_TRIM_LATE else s.shareGroup ch 1 .groupTrim (part.map (fun n =>
      (n, 0x22, byteList 2 (trimWord (s.rect n).exp (s.voutTrim n (s.rectState n != 3 || (s.rect n).falling))))))
    let due := here.filter s.limitDue
    let s := s.shareGroup ch 1 .groupLimit (due.map (fun n => (n, 0x46, byteList 2 (limitWord (s.rect n).limExp (s.rectLimit n)))))
    s.each (due.filter s.limitTaken) (fun s n => s.setRect n { s.rect n with limit := some (s.rectLimit n, s.tick) })

/-- The ramps of R251: ACTIVE ones rise, a SHEDDING one falls; after its fraction reached 0 its trim went at the common value, and in the
cycle after that STBY_OP is sent. -/
def State.ramps (s : State) : State :=
  let s := s.each s.activeRects (fun s n => s.setRect n { s.rect n with ramp := min s.rampCycles ((s.rect n).ramp + 1) })
  s.each (s.rectsIn [3]) (fun s n =>
    let x := s.rect n
    if x.falling then
      (if x.ramp ≤ 1 then s.setRect n { x with ramp := 0, falling := false, t := 0 } else s.setRect n { x with ramp := x.ramp - 1 })
    else if x.stbySent || !s.serves n then s
    else
      let s := (s.sharePost n 1 .standby .writeByte 0x01 [0x00]).setRect n { x with stbySent := true }
      if !s.shareHeld n then s.standbyFail n else s)

/-- What the registers show after a cycle. -/
def State.showShare (s : State) : State :=
  let s := s.each (List.finRange 24) (fun s n =>
    let s := (s.setI SHR_RECT_TRIM_TRIM (s.rect n).trim n.val).set SHR_RECT_TRIM_FRAC (s.showFrac n) n.val
    s.set SHR_RECT_STAT_DERATE (s.derating n / 6400).toNat n.val)
  let some_ := s.activeRects.any (fun n => (s.rect n).i.isSome)
  let s := if some_ then s.setI SHR_ITOT_I s.itot else s.setInvalid SHR_ITOT_I
  let s := if s.activeRects.any (fun n => (s.rect n).power.isSome) then s.setI SHR_PTOT_P s.shareLoad else s.setInvalid SHR_PTOT_P
  s.setI SHR_COMMON_V s.commonTrim

/-- Trim cycle `c`. A set-up step that was refused is sent again. -/
def State.trimCycle (s : State) (c : Nat) : State :=
  let back := !s.on SHR_MODE_MODE || s.power != .normal
  let s := s.iff (back && s.power != .halt && s.power != .ship) (fun s => s.each (s.rectsIn [3, 4]) (fun s n => s.rectReturn n))
  let s := match s.shr.ready with
    | some a => if s.efficiency then ({ s with shr := { s.shr with ready := none } }).applyAlloc a else { s with shr := { s.shr with ready := none } }
    | none => s
  let s := if s.efficiency then s else s.allocEnd
  let s := s.each ((s.rectsIn [1]).filter (fun n => !s.shareHeld n)) (fun s n => s.setupStep n)
  let s := s.guard.ramps
  let s := if s.integrates then s.trimUpdate else s.trimFade
  let s := s.each (List.range 16) (fun s ch => s.channelCycle c ch)
  { s with shr := { s.shr with cycle := some c } }.showShare

/-- TRIM_CYCLE (R241): once at every tick that is a multiple of 5,000, from tick g. With EN 0 everything but the commands goes on (R256). -/
def execTrimCycle (s : State) : Host.Outcome State Fault Refusal :=
  if s.tick % 5000 ≠ 0 ∨ s.boot.g.isNone ∨ s.shr.cycle = some (s.tick / 5000) ∨ s.unitRole = 3 then done s
  else done (s.trimCycle (s.tick / 5000)).settle

/-! ### Results of sharing's requests (R237, R239) -/

/-- A final failure of a set-up step: the set-up starts again, and after three failures in succession the rectifier is FAULTED. -/
def State.setupFail (s : State) (n : Fin 24) : State :=
  let f := (s.rect n).fails + 1
  if 3 ≤ f then ((s.rectEnter n 7).setRect n { s.rect n with fails := 0, since := s.tick, clearAt := none }).event .rectFaulted (objRef 3 n.val) []
  else (s.setRect n { s.rect n with fails := f, step := 0 }).setupStep n

/-- A result of a request of sharing to rectifier `n`; `ok` says it was executed. -/
def State.shareResult (s : State) (op : ShareOp) (n : Fin 24) (ok : Bool) (data : List Nat) : State :=
  let w := dataWord (data.take 2) 0
  match op with
  | .voutMode =>
    if s.rectState n ≠ 1 then s else if !ok then s.setupFail n
    else
      let lin := decide (w % 256 / 32 = 0)
      ((s.setB SHR_RECT_STAT_UNTRIMMED (!lin) n.val).setRect n { s.rect n with exp := toSigned 5 w }).setupNext n
  | .limitBack =>
    if s.rectState n ≠ 1 then s else if !ok then s.setupFail n
    else (s.setRect n { s.rect n with limExp := toSigned 5 (w / 2048) }).setupNext n
  | .poutMax =>
    if s.rectState n ≠ 1 then s else if !ok then s.setupFail n
    else (s.setRect n { s.rect n with poutMax := linear11 w 1000 }).setupNext n
  | .ocrsp => if s.rectState n ≠ 1 then s else if ok then s.setupNext n else s.setupFail n
  | .limit =>
    if s.rectState n ≠ 1 then s
    else if ok then (s.setRect n { s.rect n with limit := some (s.rectLimit n, s.tick) }).setupNext n else s.setupFail n
  | .trim => if s.rectState n ≠ 1 then s else if ok then s.setupNext n else s.setupFail n
  | .standby =>
    if s.rectState n ≠ 3 then s
    else if ok then s.setRect n { s.rect n with stbyAck := some s.tick } else s.standbyFail n
  | _ => s

/-- A valid response of a bound rectifier (R237). -/
def State.rectHeard (s : State) (n : Fin 24) : State :=
  let s := s.setRect n { s.rect n with lastResp := s.tick }
  if s.rectState n = 6 then s.rectJoin n else s

/-- READ_VOUT lies within REG_BAND of the bus half's voltage. -/
def State.voutInBand (s : State) (n : Fin 24) (v : Int) : Bool :=
  match s.busV (s.get SHR_RECT_CFG_HALF n.val) with
  | none => false
  | some b => decide (((v - b).natAbs : Int) ≤ 10 * s.get SHR_RAMP_REG_BAND)

/-- READ_IOUT is below 2 % of rated current. -/
def State.idle2 (s : State) (n : Fin 24) (i : Int) : Bool :=
  match s.rectV n with
  | none => false
  | some v => decide (i * v * 50 < s.rated n * 10000)

/-- A polled value of a bound rectifier, sampled at tick `t` (R239, R240). STATUS_WORD bit 6 is OFF, 7 BUSY, 11 POWER_GOOD#; every other bit reports a fault (log entry 14). -/
def State.rectSample (s : State) (n : Fin 24) (cmd w t : Nat) : State :=
  let x := s.rect n
  if cmd = 0x8B then
    let p := pow2 x.exp
    let v := divHalfEven (w * 10000 * p.1) p.2
    let s := s.setRect n { x with v := some (v, t) }
    if s.voutInBand n v && ((s.rectState n == 1 && decide (6 ≤ x.step)) || s.rectState n == 5) then s.rectActivate n else s
  else if cmd = 0x8C then
    let i := linear11 w 1000
    let s := s.setRect n { x with i := some (i, t) }
    match x.stbyAck with
    | some a => if s.rectState n = 3 ∧ a ≤ t ∧ t < a + 200000 ∧ s.idle2 n i then s.rectEnter n 4 else s
    | none => s
  else if cmd = 0x8D then s.setRect n { x with temp := some (linear11 w 64, t) }
  else if cmd = 0x96 then s.setRect n { x with pout := some (linear11 w 1000, t) }
  else if cmd = 0x97 then s.setRect n { x with pin := some (linear11 w 1000, t) }
  else if cmd = 0x79 then
    let off := w.testBit 6
    let fault := decide (w % 65536 - (w &&& 0x08C0) ≠ 0)
    let s := s.setRect n { x with status := w, clearAt := if off || fault then none else some (x.clearAt.getD s.tick) }
    if (s.rectState n = 2 ∨ s.rectState n = 3 ∨ s.rectState n = 5) ∧ (fault = true ∨ (off = true ∧ x.stbySent = false)) then
      (((s.rectEnter n 7).setRect n { s.rect n with since := s.tick, clearAt := none }).event .rectFaulted (objRef 3 n.val) [w]).guard
    else s
  else s

/-! ### Entries to a power state (R28, R252) -/

/-- The group command of R252 on each channel, and equal share. -/
def State.shareProtect (s : State) : State :=
  let wake := (List.finRange 24).filter (fun n => s.rectState n == 4 || (s.rectState n == 3 && (s.rect n).stbySent &&
    !s.twb.reqs.any (fun q => q.pending && q.by_ == .share .standby n.val)))
  let rest := ((s.rectsIn [2, 3]).filter (fun n => !wake.contains n)).filter (fun n => !s.untrimmed n)
  let s := s.each (s.twb.reqs.filter (fun q => q.pending && (match q.by_ with | .share .standby _ => true | _ => false)))
    (fun s q => (s.inc XAC_SUPERSEDED_COUNT).dropReq q.id)
  let s := s.each (List.range 16) (fun s ch =>
    let of (l : List (Fin 24)) : List (Fin 24) := l.filter (fun n => decide (s.rectEntry n / 64 = ch))
    s.shareGroup ch 0 .groupRun ((of wake).map (fun n => (n, 0x01, [0x80])) ++
      (of rest).map (fun n => (n, 0x22, byteList 2 (trimWord (s.rect n).exp (s.voutTrim n false))))))
  let s := s.each (List.finRange 24) (fun s n =>
    let s := s.setRect n { s.rect n with t := 0 }
    if s.rectState n = 3 then s.rectEnter n 2 else if s.rectState n = 4 then s.rectEnter n 5 else s)
  let s := s.each s.activeRects (fun s n => s.setRect n { s.rect n with ramp := s.rampCycles })
  { s.allocEnd with shr := { s.shr with solving := none, ready := none, inForce := none } }

/-- Sharing's part of an entry to the power state `s.power` from `old`. -/
def State.shareEnter (s : State) (old : PowerState) : State :=
  match s.power with
  | .prearmed => s.shareProtect
  | .holdup => if old = .normal then s.shareProtect else s
  | .normal =>
    if old = .prearmed ∨ old = .ret ∨ old = .exhausted then { s with shr := { s.shr with resumeAt := some (s.tick + 10000000) } } else s
  | _ => { s.allocEnd with shr := { s.shr with solving := none, ready := none, inForce := none } }

/-! ### Commands -/

/-- Unbinds a rectifier (R237); Deaccession also empties its curve (R248). -/
def State.rectUnbind (s : State) (n : Fin 24) (gone : Bool) : State :=
  let e := s.rectEntry n
  let s := s.iff (s.entState e != 0) (fun s => s.setEnt e 0x1C 2 0)
  let s := ((s.setB SHR_RECT_CFG_BOUND false n.val).markWritten (SHR_RECT_CFG_BOUND.at n.val)).rectEnter n 0
  let curve := (s.rect n).curve
  let s := (s.setRect n { curve := if gone then Vector.replicate 16 {} else curve }).showCurve n
  (s.setB SHR_RECT_STAT_UNTRIMMED false n.val).guard

/-- A binding is made (R13, R237); an entry that was bound to another index is rebound. -/
def State.rectBind (s : State) (n : Fin 24) (e : Nat) : State :=
  let s := s.each ((List.finRange 24).filter (fun m => m != n && s.rectState m != 0 && s.rectEntry m == e)) (fun s m => s.rectUnbind m false)
  let s := (s.set SHR_RECT_CFG_PARTNER e n.val).setB SHR_RECT_CFG_BOUND true n.val
  (((s.setEnt e 0x1C 2 (objRef 3 n.val)).markWritten (SHR_RECT_CFG_BOUND.at n.val)).setRect n {}).rectJoin n

/-- The periods of a bound rectifier's poll items are not in the spec: free values from 1 to 65,535 (R398, log entry 1). -/
def State.rectSchedule (s : State) (e : Nat) : State :=
  s.each ([0x79, 0x8B, 0x8C, 0x8D, 0x96, 0x97].zipIdx) (fun s p =>
    let d := s.draw
    d.2.setEnt e (0x30 + 4 * p.2) 4 (p.1 + 0x1200 + 65536 * (1 + (d.1 % 65535).toNat)))

/-- The rectifier index that a binding at Accession takes: the lowest free one (R13). -/
def State.rectFree (s : State) : Option (Fin 24) :=
  (List.finRange 24).find? (fun n => s.rectState n == 0 && !s.on SHR_RECT_CFG_BOUND n.val)

/-- RECT_BIND (R13, R237): the binding at Accession of an entry that is bound to nothing, to the lowest free index; the spec does not say by
what Accession knows a partner to be a rectifier, so that the command says it (log entry 76). A write of BOUND binds any index
(`State.rectWritten`). -/
def execRectBind (n : Fin 24) (e : Fin 1024) (s : State) : Host.Outcome State Fault Refusal :=
  if s.rectFree = some n ∧ s.entState e.val ≠ 0 ∧ s.ent e.val 0x1C 2 = 0 then done ((s.rectBind n e.val).rectSchedule e.val).settle else done s

/-- A rectifier command's index; an index above 23 names no rectifier and has no effect (R11). -/
def State.onRect (s : State) (n : Fin 32) (f : State → Fin 24 → State) : State :=
  let s := s.set SHR_CMD_RECT n.val
  if h : n.val < 24 then f s ⟨n.val, h⟩ else s

/-- UNBIND (R237). -/
def execRectUnbind (r : Requester) (n : Fin 32) (s : State) : Host.Outcome State Fault Refusal :=
  done (s.gate r SHR_CMD_UNBIND.addr (fun s => (s.onRect n (fun s n => if s.rectState n = 0 then s else s.rectUnbind n false)).settle))

/-- CLEAR_CURVE (R248). -/
def execClearCurve (r : Requester) (n : Fin 32) (s : State) : Host.Outcome State Fault Refusal :=
  done (s.gate r SHR_CMD_CLEAR_CURVE.addr (fun s =>
    s.onRect n (fun s n => (s.setRect n { s.rect n with curve := Vector.replicate 16 {}, lastP := none }).showCurve n)))

/-- ALLOC_NOW (R257): refused unless efficiency-optimal sharing is in force. -/
def execAllocNow (r : Requester) (s : State) : Host.Outcome State Fault Refusal :=
  done (s.gate r SHR_CMD_ALLOC_NOW.addr (fun s => s.iff s.efficiency (fun s => { s with shr := { s.shr with allocNow := true } })))

/-- RECT_RETRY (R237). -/
def execRectRetry (r : Requester) (n : Fin 32) (s : State) : Host.Outcome State Fault Refusal :=
  done (s.gate r SHR_CMD_RETRY.addr (fun s => (s.onRect n (fun s n => if s.rectState n = 7 then s.rectJoin n else s)).settle))

/-- RECT_STANDBY_CHECK (R237): 200,000 ticks after the acknowledged standby write. -/
def execRectStandbyCheck (n : Fin 24) (s : State) : Host.Outcome State Fault Refusal :=
  match (s.rect n).stbyAck with
  | none => done s
  | some a =>
    if s.rectState n = 3 ∧ a + 200000 ≤ s.tick then
      match (s.rect n).i with
      | some p => if a ≤ p.2 ∧ p.2 < a + 200000 ∧ s.idle2 n p.1 then done (s.rectEnter n 4).settle else done (s.standbyFail n).settle
      | none => done (s.standbyFail n).settle
    else done s

/-- RECT_WAKE_TIMEOUT (R237). -/
def execRectWakeTimeout (n : Fin 24) (s : State) : Host.Outcome State Fault Refusal :=
  if s.rectState n = 5 ∧ (s.rect n).since + 100000 * s.get SHR_RAMP_ON_TIMEOUT ≤ s.tick then
    done (((s.rectEnter n 7).event .rectFaulted (objRef 3 n.val) []).guard).settle
  else done s

/-- RECT_SILENT (R237): no valid response for SILENT_MS. -/
def execRectSilent (n : Fin 24) (s : State) : Host.Outcome State Fault Refusal :=
  if s.rectState n ≠ 0 ∧ s.rectState n ≠ 6 ∧ (s.rect n).lastResp + 1000 * s.get SHR_TIMING_SILENT_MS ≤ s.tick then
    done (((s.rectEnter n 6).event .rectSilent (objRef 3 n.val) []).guard).settle
  else done s

/-- RECT_FAULT_CLEAR_TIMER (R237). -/
def execRectFaultClearTimer (n : Fin 24) (s : State) : Host.Outcome State Fault Refusal :=
  match (s.rect n).clearAt with
  | some t => if s.rectState n = 7 ∧ t + 1000000 ≤ s.tick then done (s.rectJoin n).settle else done s
  | none => done s

/-- ALLOCATION_START (R249): at every tick that is a multiple of 200,000, or after ALLOC_NOW; the rectifiers take a learning sample (R247). -/
def execAllocationStart (s : State) : Host.Outcome State Fault Refusal :=
  let due := decide (s.tick % 200000 = 0)
  if !(due || s.shr.allocNow) || !s.full || !s.pairPrimary then done s
  else
    let s := s.iff (due && s.on SHR_MODE_LEARN_EN) (fun s => s.each ((List.finRange 24).filter (fun n => s.rectState n != 0)) (fun s n => (s.learn n).showCurve n))
    let s := { s with shr := { s.shr with allocNow := false } }
    if !s.efficiency then done s
    else
      let s := s.iff s.shr.solving.isSome (fun s => s.inc SHR_ALLOC_CNT_SKIPPED)
      done { s with shr := { s.shr with solving := some s.solve } }

/-- ALLOCATION_RESULT (R250): the result waits for the next trim cycle, or is discarded once equal share is in force. -/
def execAllocationResult (s : State) : Host.Outcome State Fault Refusal :=
  match s.shr.solving with
  | none => done s
  | some a => done { s with shr := { s.shr with solving := none, ready := if s.efficiency then some a else none } }

/-- CURVE_STORE (R248): every STORE_S seconds, and on entry to SHIP. -/
def execCurveStore (s : State) : Host.Outcome State Fault Refusal :=
  if s.shr.storedAt + 1000000 * s.get SHR_LEARN_STORE_S ≤ s.tick ∨ (s.power = .ship ∧ s.shr.storedAt < s.powerSince) then done s.storeCurves
  else done s

end Sys2Proof.Machine
end

