-- ==== Sys2Proof/Machine/LoopCmd.lean ====
section
/-! DEFINITION. The commands of the loop engine (file 06): a sample of a slot, coefficient writes, admission, lane tests, fault clearing
and the coefficient check. -/

namespace Sys2Proof.Machine

/-! ### Sources and destinations (R142 to R144, R208, R255) -/

/-- The latest result of a measured source, in the encoding of R142. -/
def State.measured (s : State) (c : Nat) : Option Int :=
  let val (f : Field) (i : Nat) : Option Int := if s.valid f i then some (s.getI f i) else none
  if c = 1 then s.busV 0
  else if c = 2 then s.busV 1
  else if c = 3 then val AFE_IA_VAL 0
  else if c = 4 then val AFE_IB_VAL 0
  else if c < 0x20 then val AFE_PH_I_VAL (c - 0x10)
  else if c < 0x28 then val AFE_I_NOW_VAL (c - 0x20)
  else if c < 0x30 then s.strV (Fin.ofNat 8 (c - 0x28))
  else if c < 0x48 then (s.seq.rails.get (Fin.ofNat 24 (c - 0x30))).v
  else s.fuseCurrent (Fin.ofNat 8 (c - 0x48)) 1

/-- What a slot takes from slot `m` (R156): the latest output written before it fetches; between slots of one fine time on the same lane
that of this sample for a lower number, on different lanes either output. -/
def State.slotOutput (s : State) (n m : Fin 64) (tau : Nat) (older : Bool) : Int :=
  let x := s.slot m
  let sameLane := (s.slot n).lanes.any (fun l => x.lanes.contains l)
  if x.lastFine = some tau ∧ m ≠ n then
    if (if sameLane then decide (m.val < n.val) else !older) then x.out else x.prevOut
  else if tau < x.doneAt then x.prevOut
  else x.out

/-- The value of source code `c` for slot `n`; `none` is the invalid marker (R142, R144). While VIN or VDDA droops, every result of the
front end is invalid (R581). -/
def State.source (s : State) (n : Fin 64) (tau : Nat) (run : LoopRun) (c : Nat) : Option Int :=
  let ports (f : Field) (i : Nat) : Option Int := if s.valid f i then some (s.getI f i) else none
  if c = 0 then some 0
  else if c < 0x50 then
    if s.on SAF_DROOP_STAT_VIN || s.on SAF_DROOP_STAT_VDDA || ((c == 2 || c == 4) && !s.halfB) then none
    else match run.meas.find? (fun p => p.1 == c) with
      | some p => p.2
      | none => s.measured c
  else if c = 0x50 then ports CAP_P_BUS_P 0
  else if c = 0x60 then some (s.refWord.getD 0)
  else if c = 0x61 then some s.setpoint
  else if c = 0x62 ∨ c = 0x63 then s.groupIShown (c - 0x62)
  else if c = 0x64 then some (s.groupU 0)
  else if c = 0x65 then some (s.groupU 1)
  else if c = 0x66 then some (s.groupLow 0)
  else if c = 0x67 then some (s.groupLow 1)
  else if c = 0x68 then some s.pertInForce
  else if c = 0x69 then some s.chargeLimit
  else if c = 0x70 then ports SHR_ITOT_I 0
  else if c = 0x71 then ports SHR_PTOT_P 0
  else if c = 0x72 then some (s.getI SHR_COMMON_V)
  else if c = 0x73 then some (s.activeRects.length : Nat)
  else if c = 0x74 then some (s.get SHR_ALLOC_STAT_NK : Nat)
  else if c = 0x75 then ports SHR_LOSS_PRED_P 0
  else if c = 0x76 then ports SHR_LOSS_MEAS_P 0
  else if 0x80 ≤ c ∧ c < 0xC0 then some (s.slotOutput n (Fin.ofNat 64 (c - 0x80)) tau run.older)
  else if c = 0xF0 then some (s.getI LPS_REF_REF n.val)
  else some 0

/-- The value a slot's destination holds (R167). -/
def State.heldValue (s : State) (n : Fin 64) : Int :=
  let p := bitsOf (s.slot n).src 24 8
  if p = 0 then (if (s.slot n).wrote then (s.slot n).out else 0)
  else if s.lpe.written.testBit p then s.port p
  else if p = 0x21 then s.limitSum
  else if 0x28 ≤ p then (s.capNow : Nat)
  else 0

/-- An output reaches a destination (R143). -/
def State.outputTo (s : State) (p : Nat) (v : Int) : State :=
  let s := if p = 0 then s else s.writePort p v
  if p = 1 then s.writeDemand 0 v else if p = 2 then s.writeDemand 1 v else s

/-- A slot enters FAULT (R172); a relay auto-tune of it ends (R182). -/
def State.slotFail (s : State) (n : Fin 64) : State :=
  let was := s.on LPS_STAT_FAULT n.val
  let tune := s.tuning n
  let s := s.slotFault n
  let p := bitsOf (s.slot n).src 24 8
  let s := s.iff (!was && (s.slot n).cfg.getLsbD 13 && (p == 1 || p == 2)) (fun s => s.outputTo p (s.slot n).out)
  s.iff tune (fun s => s.tuneAbort 7)

/-! ### Regions (R169) -/

/-- The region a slot is in for the scheduling variable `v`, from region `c`; `none` at an activation. DESIGN CHOICE: an activation while s is
invalid takes region 0, and a restart by CLEAR_FAULT or RESET_STATE is no activation: the region moves by hysteresis from the one in force
(log entry 71). -/
def State.regionFor (s : State) (n : Fin 64) (c : Option Nat) (v : Option Int) : Nat :=
  let nr := bitsOf (s.slot n).cfg 11 2
  let t := fun (j : Nat) => coefWord s.mem runBase n.val (0x2FC + 4 * j)
  let h := coefWord s.mem runBase n.val 0x30C
  let fresh := fun (x : Int) => ((List.range nr).filter (fun j => decide (t (j + 1) ≤ x))).foldl (fun m j => max m (j + 1)) 0
  match c, v with
  | none, none => 0
  | none, some x => fresh x
  | some c, none => min c nr
  | some c, some x =>
    if nr < c then fresh x
    else
      let up := (List.range nr).filter (fun j => decide (c < j + 1) && decide (t (j + 1) + h ≤ x))
      let down := (List.range nr).filter (fun j => decide (j < c) && decide (x < t (j + 1) - h))
      match up.getLast?, down with
      | some j, _ => j + 1
      | none, j :: _ => j
      | none, [] => c

/-! ### A sample (R155) -/

/-- The inputs of a sample: `none` where one in use is invalid (R144). DEDUCED: the scheduling variable is not among them, since R169 says what
an invalid s does to the sample's region (log entry 71). -/
def State.fetch (s : State) (n : Fin 64) (tau : Nat) (run : LoopRun) : Option (Int × Int × List Int) :=
  let x := s.slot n
  let code := fun (k : Nat) => bitsOf x.src (8 * k) 8
  let xs := if bitsOf x.cfg 0 3 = 4 then
      (List.range (bitsOf x.cfg 14 2)).map (fun k =>
        s.source n tau run (bitsOf (BitVec.ofInt 32 (coefWord s.mem runBase n.val 0x310)) (8 * k) 8))
    else []
  match s.source n tau run (code 0), s.source n tau run (code 1), xs.all Option.isSome with
  | some y, some r, true => some (y, r, xs.filterMap id)
  | _, _, _ => none

/-- The feed-forward value f (R153), and the repetitive instance it comes from. -/
def State.feed (s : State) (n : Fin 64) (fine : Nat) : Int × Option (Fin 4) × State :=
  match bitsOf (s.slot n).cfg 4 2 with
  | 1 => (s.tableF n fine, none, s)
  | 2 => match s.rcServing n.val with
    | k :: _ => let s := s.rcStart k; (s.rcF k fine, some k, s)
    | [] => (0, none, s)
  | _ => (0, none, s)

/-- The clamp of R147, narrowed by R210 for a demand: lower and upper bound in the accumulator. -/
def State.clampOf (s : State) (n : Fin 64) (c : LoopSet) : Int × Int :=
  let p := bitsOf (s.slot n).src 24 8
  if p = 1 ∨ p = 2 then
    let l := s.demandLimits (Fin.ofNat 2 (p - 1))
    let up := min (c.at 0x04) l.2
    (c.acc (min (max (c.at 0x00) l.1) up), c.acc up)
  else (c.lo, c.hi)

/-- A transfer counted and shown (R170). -/
def State.showTransfer (s : State) (n : Fin 64) (src dst : Nat) (coef : Bool) : State :=
  let s := (((s.inc LPE_SCHED_CNT_COUNT).set LPE_XFER_LAST_SLOT n.val).set LPE_XFER_LAST_FROM src).set LPE_XFER_LAST_TO dst
  (s.setB LPE_XFER_LAST_COEF coef).stamp LPE_XFER_TICK_TICK

/-- The two lanes of a critical sample, where it is paired (R160). -/
def State.paired (s : State) (n : Fin 64) : Option (Nat × Nat) :=
  if s.on LPE_PAIR_CTRL_PAIR_EN && (s.slot n).cfg.getLsbD 3 then
    match (s.slot n).lanes with
    | a :: b :: _ => some (a, b)
    | _ => none
  else none

def State.hasSpare (s : State) : Bool := (List.range 5).any (fun l => s.get LPE_LANE_ROLE l == 1)

/-- A disagreement (R161): counted, recorded; the outvoted lane is retired, or the slot faults. -/
def State.disagree (s : State) (n : Fin 64) (ls : Nat × Nat) (loser : Option Nat) : State :=
  let s := (((s.inc LPE_PAIR_CNT_DISAGREE).set LPE_DIS_LAST_SLOT n.val).set LPE_DIS_LAST_LANE_A ls.1).set LPE_DIS_LAST_LANE_B ls.2
  let s := ((s.stamp LPE_DIS_TICK_TICK).event .laneDisagree 0 [(n.val : Int), (ls.1 : Int), ls.2]).detect 4 0
  match loser with
  | some l => (((s.set LPE_DIS_LAST_RETIRED l).setB LPE_DIS_LAST_FAULTED false).retireLane l)
  | none => ((s.set LPE_DIS_LAST_RETIRED 7).setB LPE_DIS_LAST_FAULTED true).slotFail n

/-- The place of a law's integrating state (R469): i of PID, s1 of the last IIR section, z of state feedback. -/
def integrating : Nat → Option (Fin 6)
  | 1 => some 1
  | 2 => some 0
  | 3 => some 2
  | 4 => some 0
  | _ => none

/-- The fine unit of this tick at pair fine time `tau`. -/
def State.ownFine (s : State) (tau : Nat) : Nat := ((tau : Int) - s.pairFine 0).toNat

/-- Writes the output of a sample, `time` fine units after its request (R155 step 6), and shows whether it was clamped (R147). -/
def State.writeOutput (s : State) (n : Fin 64) (u e ff : Int) (clamped : Bool) (tau time : Nat) : State :=
  let x := s.slot n
  let y : LoopSlot := { x with
    prevOut := x.out, out := u, wrote := true, lastE := sat32 e, lastFf := ff, lastTick := s.tick, lastFine := some tau, doneAt := tau + time }
  (((s.setSlot n y).outputTo (bitsOf x.src 24 8) u).setB LPS_STAT_SAT clamped n.val).incWrap LPE_EXEC_CNT_COUNT

/-- A sample ran and its output was not written (R161): the previous output stays. -/
def State.noOutput (s : State) (n : Fin 64) (tau : Nat) : State :=
  let x := s.slot n
  s.setSlot n { x with prevOut := x.out, lastTick := s.tick, lastFine := some tau }

/-- Commits the states of a sample (R155 step 7). -/
def State.commitStates (s : State) (n : Fin 64) (c : LoopSet) (o : LoopOut) : State :=
  let x := s.slot n
  let past := match integrating c.law with
    | some k => ((s.pairTick % 2 ^ 32).toNat, o.st[k]) :: x.past.take 63
    | none => []
  s.setSlot n { x with past := past, st := o.st, start := false, fresh := false, old := none }

/-- What a sample does to the repetitive instance its f came from (R192, R194, R195). -/
def State.rcServe (s : State) (n : Fin 64) (k : Option (Fin 4)) (e : Int) (sh fine : Nat) (sat : Bool) : State :=
  match k with
  | none => s
  | some k =>
    let frozen := s.rcFrozen k n sat
    let g := s.runSet n 0
    (s.iff (!frozen) (fun s => s.rcLearn k fine e sh ((g.at 0x04 - g.at 0x00) * 64))).rcSample k e frozen

/-- The lane comparison of a sample (R160, R161): `agreed` is the state it leaves where the lanes agree, `kept` where the spare outvotes one
of them: the agreed states, and no output. -/
def State.voted (s : State) (n : Fin 64) (vote : LaneVote) (agreed kept : State) : State :=
  match s.paired n, vote with
  | some ls, .outvoted second =>
    if s.hasSpare then kept.disagree n ls (some (if second then ls.2 else ls.1)) else s.disagree n ls none
  | some ls, .none => s.disagree n ls none
  | _, _ => agreed

/-- A LOOP record of the primary corrects the slot's integrating state at its first sample after the record (R469): by 1/16 of the
difference at the record's sample time, within the clamp of the law. -/
def State.loopAlign (s : State) (n : Fin 64) : State :=
  match s.hlk.loops.find? (fun r => r.slot == n) with
  | none => s
  | some r =>
    let s := { s with hlk := { s.hlk with loops := s.hlk.loops.filter (fun r => r.slot != n) } }
    let c := s.runSet n (s.get LPS_STAT_REGION n.val)
    match integrating c.law, (s.slot n).past.find? (fun p => p.1 == r.ptick.toNat) with
    | some k, some p =>
      if !s.on HLK_CFG_LOOP_ALIGN || !s.following then s
      else
        let x := s.slot n
        let v := x.st[k] + divHalfEven (r.states[k.val]'(by omega) - p.2) 16
        let v := if c.law = 1 ∨ c.law = 4 then clampI c.lo c.hi (sat64 v) else sat64 v
        (s.setSlot n { x with st := x.st.set k v }).incWrap HLK_LOOP_STAT_CORRECTIONS
    | _, _ => s

/-- A relay sample in place of the law (R153, R180): the slot keeps its clamp, feed-forward, lanes and destination. -/
def State.relaySample (s : State) (n : Fin 64) (tau : Nat) (run : LoopRun) (y r f : Int) (k : Option (Fin 4)) (sat : Bool) : State :=
  let c := s.runSet n (s.get LPS_STAT_REGION n.val)
  let b := s.clampOf n c
  let e := (r - y) * 2 ^ 27
  let p := s.tuneSample n c y e (c.ff f) b.1 b.2 tau
  let fine := s.ownFine tau
  let t := p.2.2.rcServe n k e c.shift fine (sat || s.on LPS_STAT_TUNING n.val)
  s.voted n run.vote (t.writeOutput n (c.output p.2.1) (r - y) (c.ff f) (decide (p.1 ≠ p.2.1)) tau run.time) (t.noOutput n tau)

/-- A sample by the slot's law: region, transfer, law, clamp (R155, R169, R170). -/
def State.lawSample (s : State) (n : Fin 64) (tau : Nat) (run : LoopRun) (y r : Int) (xs : List Int) (f : Int) (k : Option (Fin 4))
    (sat : Bool) : State :=
  let x := s.slot n
  let was := s.get LPS_STAT_REGION n.val
  let many := bitsOf x.cfg 11 2 != 0
  let now := if many then s.regionFor n (if x.fresh then none else some was) (s.source n tau run (bitsOf x.src 16 8)) else 0
  let c := s.runSet n now
  let b := s.clampOf n c
  let i : LoopIn := { y := y, r := r, xs := xs, f := f, low := b.1, up := b.2 }
  let xfer := !x.start && (x.old.isSome || now != was)
  let a := x.old.getD (s.runSet n was)
  let o := if x.start then c.begin i (s.heldValue n) else if xfer then c.transfer a x.st i else c.run x.st i
  let fine := s.ownFine tau
  let t := ((s.iff xfer (fun s => s.showTransfer n was now x.old.isSome)).set LPS_STAT_REGION now n.val).commitStates n c o
  let u := t.writeOutput n (c.output o.uc) (divHalfEven o.e (2 ^ 27)) (c.ff f) (decide (o.v ≠ o.uc)) tau run.time
  let agreed := u.rcServe n k o.e c.shift fine sat
  let kept := if xfer then s.noOutput n tau
    else (((s.set LPS_STAT_REGION now n.val).commitStates n c o).noOutput n tau).rcServe n k o.e c.shift fine sat
  s.voted n run.vote agreed kept

/-- A sample of a slot with valid inputs (R155, R161, R170, R180). -/
def State.sample (s : State) (n : Fin 64) (tau : Nat) (run : LoopRun) (y r : Int) (xs : List Int) : State :=
  let sat := s.on LPS_STAT_SAT n.val
  let s := s.setB LPS_STAT_INPUT_INVALID false n.val
  let fd := s.feed n (s.ownFine tau)
  if fd.2.2.tuning n then fd.2.2.relaySample n tau run y r fd.1 fd.2.1 sat
  else fd.2.2.lawSample n tau run y r xs fd.1 fd.2.1 sat

/-- An overrun (R158): the request is skipped and counted; the slot may fault. -/
def State.overrun (s : State) (n : Fin 64) : State :=
  let x := s.slot n
  let win := s.tick / 10000
  let first := x.ovrCount = 0 ∨ x.ovrWin ≠ win
  let cnt := if first then 1 else x.ovrCount + 1
  let s := ((s.inc LPS_STAT_OVERRUNS n.val).inc LPE_OVR_CNT_COUNT).setSlot n { x with late := false, ovrWin := win, ovrCount := cnt, slack := 0 }
  let s := s.iff (decide first) (fun s => s.event .slotOverrun 0 [n.val])
  s.iff (s.on LPE_FAULT_CTRL_OVR_FAULT && decide (s.get LPE_FAULT_CTRL_OVR_LIMIT < cnt)) (fun s => s.slotFail n)

/-- A slot's request at pair fine time `tau` (R154, R155, R158, R172). -/
def State.loopRequest (s : State) (n : Fin 64) (tau : Nat) (run : LoopRun) : State :=
  let x := s.slot n
  if s.on LPS_STAT_FAULT n.val then s
  else if x.late then s.overrun n
  else match run.ded with
    | some w => (s.sramDouble w 1).slotFail n
    | none =>
      match s.fetch n tau run with
      | none => (s.setB LPS_STAT_INPUT_INVALID true n.val).iff (s.tuning n) (fun s => s.tuneAbort 7)
      | some (y, r, xs) =>
        let s := (s.sample n tau run y r xs).slackJudge x.period run.time
        let z := s.slot n
        s.setSlot n { z with
          late := decide (x.period < run.time)
          slack := min z.slack ((x.period - min x.period run.time) * 100 / max 1 x.period) }

/-- LOOP_SAMPLE_REQUEST (R154, R155). -/
def execLoopSampleRequest (n : Fin 64) (fine : Fin 50) (run : LoopRun) (s : State) : Host.Outcome State Fault Refusal :=
  let tau := s.pairFine fine.val
  let x := s.slot n
  if s.on LPE_CTRL_EN && s.boot.g.isSome && s.slotActive n && decide ((tau - x.phase) % ((max 1 x.period : Nat) : Int) = 0) then
    done ((s.loopAlign n).loopRequest n tau.toNat run).settle
  else done s

/-! ### Staging and admission (R163, R164) -/

/-- COEF_WINDOW_WRITE (R163, R174). -/
def execCoefWindowWrite (r : Requester) (off : Fin 0x10000) (w : Word) (s : State) : Host.Outcome State Fault Refusal :=
  done (s.gate r (stagedBase + off.val) (fun s => s.coefWrite r off.val w))

/-- LPE_ADMIT (R164). -/
def execLpeAdmit (r : Requester) (s : State) : Host.Outcome State Fault Refusal :=
  done (s.gate r LPE_CMD_ADMIT.addr (fun s => s.admitStart false))

/-- Repetitive memory starts at 0 after an admission that changes its slot (R198); an instance whose slot is not admitted with FF_SEL 2
is OFF (R197). `changed` are the slots the admission changed. -/
def State.rcAdmit (s : State) (changed : List (Fin 64)) : State :=
  s.each (List.finRange 4) (fun s k =>
    let n := Fin.ofNat 64 (s.get LPT_RC_CFG_SLOT k.val)
    if bitsOf (s.slot n).cfg 4 2 ≠ 2 ∨ !s.slotActive n ∨ changed.contains n then (s.setRc k {}).set LPT_RC_STAT_STATE 0 k.val
    else s)

/-- The check of the snapshot runs and its result is set (R164, R167); with it the tuner's result (R185), and the core voltage of R46: held
at 0.85 V through the first full window after an admission that adds load, and as it was after a refusal. -/
def State.admissionDone (s : State) (a : Admission) : State :=
  let w : LoopView := { regs := a.regs, mem := a.mem }
  let j := s.judgeAdmission w
  let changed := (List.finRange 64).filter (fun n =>
    let x := s.slot n
    let b := 0x34040 + 0x18 * n.val
    w.reg b != x.cfg || w.reg (b + 4) != x.src || w.get LPS_PERIOD_PERIOD n.val != x.period || w.get LPS_PHASE_PHASE n.val != x.phase ||
      slotBytes w.mem stagedBase n.val != slotBytes s.mem runBase n.val)
  let ok := j.1 == 2
  let s := { s with lpe := { s.lpe with admission := none } }
  let s := s.iff ok (fun s => (s.admitView w).rcAdmit changed)
  let s := s.admitResult j.1 j.2
  let s := s.iff a.tune (fun s => if ok then (s.set LPT_TUNE_STAT_RESULT 3).set LPT_TUNE_STAT_STATE 0 else s.set LPT_TUNE_STAT_RESULT 0xB)
  if !a.adds then s
  else if ok then { s with tb := { s.tb with forcedSince := some s.tick } }
  else
    let s := (s.vcoreTo a.vcore).setB SYS_VCORE_STAT_FORCED_MAX a.forced.isSome
    { s with tb := { s.tb with forcedSince := a.forced } }

/-- ADMISSION_COMPLETE (R164): for a change that adds load, once the core has settled (R46). -/
def execAdmissionComplete (s : State) : Host.Outcome State Fault Refusal :=
  match s.lpe.admission with
  | none => done s
  | some a => if !a.adds ∨ s.tb.settleAt ≤ s.tick then done (s.admissionDone a) else done s

/-- LPE_DISCARD (R163). -/
def execLpeDiscard (r : Requester) (s : State) : Host.Outcome State Fault Refusal :=
  done (s.gate r LPE_CMD_DISCARD.addr State.discardStaged)

/-! ### Lanes (R162) -/

/-- LANE_TEST (R177): every retired lane is tested; `pass` says which pass. -/
def execLaneTest (r : Requester) (pass : BitVec 5) (s : State) : Host.Outcome State Fault Refusal :=
  done (s.gate r LPE_CMD_LANE_TEST.addr (fun s =>
    (s.each (List.finRange 5) (fun s k => s.laneTest k (pass.getLsbD k.val))).settle))

/-- LANE_SELF_TEST (R162): every 10 s. -/
def execLaneSelfTest (k : Fin 5) (pass : Bool) (s : State) : Host.Outcome State Fault Refusal :=
  if s.lpe.testAt.get k + 10000000 ≤ s.tick then done (s.laneTest k pass).settle else done s

/-! ### Faults and integrity (R172, R173) -/

/-- CLEAR_FAULT (R172): the slot restarts at its next request with the bumpless start. -/
def State.clearFault (s : State) (n : Fin 64) : State :=
  if s.on LPS_STAT_FAULT n.val then
    (s.setB LPS_STAT_FAULT false n.val).setSlot n { s.slot n with start := true, old := none, late := false }
  else s

def execLoopClearFault (r : Requester) (n : Fin 64) (s : State) : Host.Outcome State Fault Refusal :=
  done (s.gate r LPE_SLOT_CMD_CLEAR_FAULT.addr (fun s => (s.set LPE_SLOT_CMD_SLOT n.val).clearFault n))

/-- RESET_STATE (R172): the same start for a slot that is not in FAULT. -/
def State.resetState (s : State) (n : Fin 64) : State :=
  if s.on LPS_STAT_FAULT n.val || !s.slotActive n then s else s.setSlot n { s.slot n with start := true }

def execLoopResetState (r : Requester) (n : Fin 64) (s : State) : Host.Outcome State Fault Refusal :=
  done (s.gate r LPE_SLOT_CMD_RESET_STATE.addr (fun s => (s.set LPE_SLOT_CMD_SLOT n.val).resetState n))

/-- One slot's check: a mismatch sets its bit and the slot enters FAULT; an agreeing slot keeps what it shows. -/
def State.coefCheckSlot (s : State) (n : Fin 64) (bad : Bool) : State :=
  if s.slotActive n && (bad || s.slotCrc n.val != (s.slot n).ref) then (s.setBit LPE_COEF_BAD_SLOTS (n.val % 32) true (n.val / 32)).slotFail n
  else s

/-- COEF_CRC_CHECK (R173): every 1,000 ticks. `bad` names active slots whose stored words have changed under their reference; the CRC over
changed words is a free value (log entry 1). -/
def execCoefCrcCheck (bad : BitVec 64) (s : State) : Host.Outcome State Fault Refusal :=
  if s.tick % 1000 ≠ 0 then done s
  else
    let hit := (List.finRange 64).any (fun n => bad.getLsbD n.val && s.slotActive n)
    let s := s.each (List.finRange 64) (fun s n => s.coefCheckSlot n (bad.getLsbD n.val))
    if hit then
      let d := s.draw
      done (d.2.set LPE_COEF_CRC_CRC (d.1 % 2 ^ 32).toNat).settle
    else done (s.set LPE_COEF_CRC_CRC s.coefCrc.toNat).settle

end Sys2Proof.Machine
end

