-- ==== Sys2Proof/Machine/Cap.lean ====
section
/-! DEFINITION. Power capping (file 10): bus power, the cap in force, the throttle level and the CAPLINE broadcast. -/

namespace Sys2Proof.Machine

/-! ### The tick (R261, R274) -/

/-- `n` ticks pass: C moves, and what was written to the caps applies (R261, R274). -/
def State.capTick (s : State) (n : Nat) : State :=
  { s with cap := { s.cap with
      c := s.capAt (n - 1)
      rack := (s.getI CAP_RACK_RACK).toNat
      gw := (s.getI CAP_GW_GW).toNat
      hold := (s.getI CAP_HOLDUP_LIM).toNat } }

/-! ### Decisions (R263, R264, R270) -/

def State.capL (s : State) : Nat := s.get CAP_LEVEL_L

/-- l_z (R264). -/
def State.zoneLevel (s : State) (z : Nat) : Nat :=
  min (min (s.get CAP_ZONE_LMAX z) ((s.capL * s.get CAP_ZONE_WEIGHT z + 15) / 16)) 255

def State.zonesOn (s : State) : List Nat := (List.range 16).filter (fun z => s.on CAP_ZONE_EN z)

/-- The frames of a decision: one for each distinct level among the enabled zones, highest first. -/
def State.capFrames (s : State) (seq : Nat) : List CapFrame :=
  ((List.range 256).reverse.filter (fun l => s.zonesOn.any (fun z => s.zoneLevel z == l))).map (fun l =>
    { seq := seq, level := l, mask := maskOf (s.zonesOn.filter (fun z => s.zoneLevel z == l)) })

/-- A decision: its frames replace those that have not begun (R267, R270). -/
def State.capDecide (s : State) : State :=
  let seq := (s.pairTick.fdiv 10 % 4096).toNat
  let s := s.addSat CAP_LINE_STAT_SUPERSEDED s.cap.queue.length
  let fs := s.capFrames seq
  let s := (s.set CAP_LEVEL_SEQ seq).set CAP_LEVEL_NFRAMES fs.length
  { s with cap := { s.cap with queue := fs, lastDecision := s.tick } }

/-- Sets L; an episode starts where it leaves 0. -/
def State.setLevel (s : State) (l : Nat) : State :=
  (s.iff (s.capL == 0 && l != 0) (fun s => s.inc CAP_CNT_EPISODES)).set CAP_LEVEL_L l

/-- Sets r_ref, which its register shows half to even and saturated (R5). -/
def State.setRef (s : State) (num : Int) (den : Nat) : State :=
  { (s.setI CAP_REF_R_REF (divHalfEven num den)) with cap := { s.cap with refNum := num, refDen := den } }

/-- R263 at load power `p`. Answers whether it decided. -/
def State.capJudge (s : State) (p : Int) : Bool × State :=
  let c : Int := s.capNow
  let l := s.capL
  let hyst : Int := 1000 * s.get CAP_REL_REL_HYST
  let now := s.cap.probeNow
  let s := { s with cap := { s.cap with probeNow := false } }
  if c < p ∧ (l = 0 ∨ s.cap.tLast + s.get CAP_ADJ_ADJ_US ≤ s.tick) then
    let e := p * 256
    let s := if s.cap.refNum * (256 - l) < e * s.cap.refDen then s.setRef e (256 - l) else s
    let s := s.setLevel (min 255 (256 - (256 - l) * c.toNat / p.toNat + s.get CAP_ADJ_MARGIN))
    let s := s.inc CAP_CNT_TIGHTENS
    (true, ({ s with cap := { s.cap with tLast := s.tick } }).capDecide)
  else if l ≠ 0 ∧ p ≤ c ∧ s.cap.refNum + hyst * s.cap.refDen ≤ c * s.cap.refDen then
    (true, ((s.setLevel 0).setRef 0 1).capDecide)
  else if l ≠ 0 ∧ (now = true ∨ s.cap.tLast + 1000 * s.get CAP_PROBE_PROBE_MS ≤ s.tick) ∧ p ≤ c - hyst then
    let l' := l - max 1 (l / 4)
    let s := (s.setRef (p * 256) (256 - l)).setLevel l'
    let s := ({ s with cap := { s.cap with tLast := s.tick } }).capDecide
    (true, if l' = 0 then s.setRef 0 1 else s)
  else (false, s)

/-- A repeat is due (R271). -/
def State.repeatDue (s : State) : Bool :=
  let n := if s.capL = 0 then s.get CAP_FRAME_CFG_IDLE_MS else s.get CAP_FRAME_CFG_REPEAT_MS
  n != 0 && decide (s.cap.lastDecision + 1000 * n ≤ s.tick)

/-- The product of a half's conversions of one instant, voltage and current, in 10^-4 mW (R259): the voltage by its primary converter or the
one that replaces it, the current by F3. None where no converter serves. -/
def State.halfPower (s : State) (h : Fin 2) (v i : Twice Int) : Option Int :=
  if s.serving 3 && (s.serving (if h = 0 then 0 else 1) || s.serving 2) then
    some (if h = 0 then s.voltOf AFE_VA_SCALE_RATIO v * s.ampsOf AFE_IA_SCALE_TRANS_R AFE_FAST_CTRL_IA_INV i
      else s.voltOf AFE_VB_SCALE_RATIO v * s.ampsOf AFE_IB_SCALE_TRANS_R AFE_FAST_CTRL_IB_INV i)
  else none

/-- The products of a tick join the window: half A at fine unit 0, half B at 25 (R259). -/
def State.capSample (s : State) : State :=
  let x : Option Int × Option Int := match s.afe.fast with
    | none => (none, none)
    | some p =>
      let pick := fun (h : Fin 2) (c : BusSamples → Int) (k : BusSamples → Int) =>
        if s.serving (if h = 0 then 0 else 1) then (c p.1, c p.2) else (k p.1, k p.2)
      (s.halfPower 0 (pick 0 BusSamples.va BusSamples.vaChk) (p.1.ia0, p.2.ia0), s.halfPower 1 (pick 1 BusSamples.vb BusSamples.vbChk) (p.1.ib1, p.2.ib1))
  { s with cap := { s.cap with prods := (x :: s.cap.prods).take 10 } }

/-- The mean of the products of a window, as a sum and a count. -/
def meanOf (l : List (Option Int)) : Int × Nat := ((l.filterMap id).sum, (l.filterMap id).length)

/-- P_bus (R259): the sum over the sensed halves of the mean of their products, rounded half to even; none where a sensed half has no
product. -/
def State.busPower (s : State) (a b : List (Option Int)) : Option Int :=
  let a := meanOf a
  let b := meanOf b
  if a.2 = 0 then none
  else if s.halfB then
    (if b.2 = 0 then none else some (divHalfEven (a.1 * b.2 + b.1 * a.2) (10000 * a.2 * b.2)))
  else some (divHalfEven a.1 (10000 * a.2))

/-- The bus-half voltages of R262. -/
def State.capVolts (s : State) : State :=
  { s with cnv := { s.cnv with capV := Vector.ofFn (fun (g : Fin 2) => match s.busV g.val with
      | some v => some v
      | none => s.cnv.capV.get g) } }

/-- The comparison with what it measured. -/
def State.capCompare (s : State) (pb : Option Int) : State :=
  let s := match pb with
    | none => ((s.setB CAP_STAT_SENSE_HOLD true).setInvalid CAP_P_BUS_P).setInvalid CAP_P_LOAD_P
    | some pb => (((s.setB CAP_STAT_SENSE_HOLD false).setI CAP_P_BUS_P pb).setI CAP_P_LOAD_P (-pb)).capVolts
  { s with cap := { s.cap with judge := some (pb.map (fun x => -x)) } }

/-- CAP_COMPARISON (R259, R265): P is formed, and the decision follows at the end of the tick, after every request of it. `bus` are the
conversions of this tick; `a` and `b` are the conversions, voltage and current, newest first, of those ticks of the window that no command
brought before (log entry 63). In HALT comparisons stop (R274). -/
def execCapComparison (bus : Twice BusSamples) (a b : List (Twice Int × Twice Int)) (s : State) : Host.Outcome State Fault Refusal :=
  if s.pairTick % 10 ≠ 0 ∨ s.boot.g.isNone ∨ s.power = .ship then done s
  else if s.power = .halt then done { s with cap := { s.cap with judge := some none } }
  else
    let window := fun (h : Fin 2) (l : List (Twice Int × Twice Int)) (old : List (Option Int)) =>
      (l.map (fun x => s.halfPower h x.1 x.2) ++ old.drop l.length).take 10
    let pb := s.busPower (window 0 a (s.cap.prods.map Prod.fst)) (window 1 b (s.cap.prods.map Prod.snd))
    done ((s.busSamples bus).capCompare pb)

/-- The decision of a comparison at the end of its tick (R263, R265, R271, R274): without P, with EN 0 and in HALT the level holds, and
repeats go on. -/
def State.capWork (s : State) : State :=
  match s.cap.judge with
  | none => s
  | some p =>
    let s : State := { s with cap := { s.cap with judge := none } }
    if s.power = .ship then s
    else
      let r : Bool × State := match p with
        | none => (false, s)
        | some p => if s.on CAP_CTRL_EN && s.power != .halt then s.capJudge p else (false, s)
      (r.2.iff (!r.1 && r.2.repeatDue) State.capDecide).settle

/-! ### CAPLINE (R267, R273) -/

/-- The driver may send (R267, R274, R475). -/
def State.capTx (s : State) : Bool :=
  s.on CAP_FRAME_CFG_TX_EN && !s.zonesOn.isEmpty && s.power != .ship && !s.hlk.fenced && s.unitRole != 3

/-- The slot that this tick lies in is the unit's own (R267). -/
def State.slotMine (s : State) : Bool :=
  let k := (s.pairTick - 5).fdiv 10
  let every := s.solo || (s.on HLK_STAT_PARTNER_LOST && (match s.hlk.lostAt with
    | some t => decide (t < s.tick)
    | none => true))
  every || (if s.unitRole = 2 then k % 2 == 1 else k % 2 == 0)

/-- A slot of the unit's own begins in this tick, with no frame sent in it yet (R267, R472). -/
def State.ownSlot (s : State) : Bool :=
  decide ((s.pairTick - 5) % 10 = 0) && s.slotMine && (s.solo || s.hlk.knowsE) && s.cap.slotAt != some s.tick

/-- CRC-16 with polynomial 0x1021 (R269). -/
def crc16Poly : BitVec 16 := 0x1021

/-- One bit of the CRC, most significant first. -/
def crc16Bit (c : BitVec 16) : BitVec 16 := if c.msb then (c <<< 1) ^^^ crc16Poly else c <<< 1

/-- One byte of the CRC. -/
def crc16Byte (c : BitVec 16) (b : Byte) : BitVec 16 :=
  (List.range 8).foldl (fun c _ => crc16Bit c) (c ^^^ (b.zeroExtend 16 <<< 8))

/-- The CRC of R269: initial value 0xFFFF, no reflection, no final XOR. -/
def crc16 (l : List Byte) : BitVec 16 := l.foldl crc16Byte 0xFFFF

/-- Bytes 1 to 5 of a frame: sequence number, epoch, level and mask (R268). -/
def CapFrame.body (f : CapFrame) (epoch : Nat) : List Byte :=
  [BitVec.ofNat 8 (f.seq / 16), BitVec.ofNat 8 (f.seq % 16 * 16 + epoch % 16), BitVec.ofNat 8 f.level,
   BitVec.ofNat 8 (f.mask / 256), BitVec.ofNat 8 f.mask]

/-- The 8 bytes of a frame: sync, body and CRC, high byte first (R268). -/
def CapFrame.bytes (f : CapFrame) (epoch : Nat) : List Byte :=
  let c := crc16 (f.body epoch)
  (0x59 : Byte) :: f.body epoch ++ [BitVec.ofNat 8 (c.toNat / 256), BitVec.ofNat 8 c.toNat]

/-- The zones of a frame take its level as the one last sent. -/
def State.zoneSent (s : State) (f : CapFrame) : State :=
  s.each (maskBits 16 f.mask) (fun s z => s.set CAP_ZONE_LEVEL f.level z)

/-- A frame is read back (R273). -/
def State.readBack (s : State) (bad : Bool) : State :=
  if bad then
    let s := (s.inc CAP_LINE_STAT_MISMATCH).iff (s.cap.badRun == 0) (fun s => s.event .caplineMismatch)
    let s := { s with cap := { s.cap with badRun := s.cap.badRun + 1 } }
    s.iff (decide (3 ≤ s.cap.badRun)) (fun s => s.setB CAP_STAT_LINE_FAULT true)
  else { (s.setB CAP_STAT_LINE_FAULT false) with cap := { s.cap with badRun := 0 } }

/-- CAPLINE_SLOT (R267, R268, R273): in an own slot that begins after the decision, the next frame is sent with the epoch then in force; `bad`
marks the bits of the 64 that read back differently. -/
def execCaplineSlot (bad : BitVec 64) (s : State) : Host.Outcome State Fault Refusal :=
  if s.boot.g.isSome && s.ownSlot && s.capTx && decide (s.cap.lastDecision < s.tick) then
    match s.cap.queue with
    | [] => done s
    | f :: rest =>
      let e := if s.solo then 0 else s.hlk.epoch % 16
      let s := ((s.incWrap CAP_TX_CNT_FRAMES).set CAP_LEVEL_EPOCH e).zoneSent f
      done (({ s with cap := { s.cap with queue := rest, slotAt := some s.tick, line := f.bytes e } }).readBack (bad != 0))
  else done s

/-- CAPLINE_FRAME_RX (R273): a valid frame in a slot that is not the unit's own. -/
def execCaplineFrameRx (s : State) : Host.Outcome State Fault Refusal :=
  if s.boot.g.isNone || s.slotMine then done s else done (s.incWrap CAP_LINE_STAT_RX_OTHER)

/-- CAP_CMD.TEST (R274, R276). -/
def State.capTest (s : State) : State :=
  if s.capL ≠ 0 ∨ s.power = .halt then s.event .capTestRefused 0 [s.capL] else s.capDecide

/-- CAP_TEST (R274): the CAP_CMD write with TEST 1. -/
def execCapTest (r : Requester) (s : State) : Host.Outcome State Fault Refusal :=
  done (s.gate r CAP_CMD_TEST.addr State.capTest)

/-- PROBE_NOW (R276). -/
def State.capProbe (s : State) : State := { s with cap := { s.cap with probeNow := true } }

def execProbeNow (r : Requester) (s : State) : Host.Outcome State Fault Refusal :=
  done (s.gate r CAP_CMD_PROBE_NOW.addr State.capProbe)

end Sys2Proof.Machine
end

