-- ==== Sys2Proof/Machine/TimeBase.lean ====
section
/-! DEFINITION. The time base (file 02): the discipline, the cross-check and its fall-back, and the core voltage at a window's
end. -/

namespace Sys2Proof.Machine

/-! ### Discipline (R39, R40) -/

/-- The discipline enters FREE: no frequency error is measured there (R56). -/
def State.discFree (s : State) : State :=
  ((s.set TB_DISC_STAT_STATE 0).setB TB_DISC_STAT_STALE false).set TB_FERR_FERR 0x80000000

/-- The discipline enters ACQUIRE. -/
def State.discAcquire (s : State) : State :=
  let s := (s.set TB_DISC_STAT_STATE 1).setB TB_DISC_STAT_STALE false
  { s with tb := { s.tb with acquireSince := s.tick } }

/-- The selected source is lost: ACQUIRE and LOCKED go to HOLDOVER, and the loss is counted (R40, R57, R66). -/
def State.discLost (s : State) : State :=
  if s.get TB_DISC_STAT_STATE = 1 ∨ s.get TB_DISC_STAT_STATE = 2 then
    let s := ((s.set TB_DISC_STAT_STATE 3).inc TB_DISC_STAT_LOSSES).inc TB_FAULT_CNT_SRC_LOSSES
    { s with tb := { s.tb with holdoverSince := s.tick } }
  else s

/-- The effect of an accepted value of `TB_SRC_CTRL.SRC`. -/
def State.srcSelect (s : State) (src : Nat) : State :=
  (s.set TB_SRC_CTRL_SRC src).iff (src == 0) State.discFree


/-- DISC_SOURCE_PRESENT (R40): the selected source is present. While a unit follows its partner its own discipline is suspended (R461). -/
def execDiscSourcePresent (s : State) : Host.Outcome State Fault Refusal :=
  if !s.following ∧ s.get TB_SRC_CTRL_SRC ≠ 0 ∧ (s.get TB_DISC_STAT_STATE = 0 ∨ s.get TB_DISC_STAT_STATE = 3) then done s.discAcquire
  else done s

/-- DISC_SOURCE_LOST (R40). -/
def execDiscSourceLost (s : State) : Host.Outcome State Fault Refusal := done s.discLost

/-- DISC_LOCK_WINDOW (R40): a 10 s window of ACQUIRE ends; `worst` is the largest estimated frequency error of its seconds. -/
def execDiscLockWindow (worst : Int) (s : State) : Host.Outcome State Fault Refusal :=
  if !s.following ∧ s.get TB_DISC_STAT_STATE = 1 ∧ s.tb.acquireSince + 10000000 ≤ s.tick ∧ worst.natAbs < 100 then
    let s := s.set TB_DISC_STAT_STATE 2
    done { s with tb := { s.tb with lockedSince := s.tick } }
  else done s

/-- STALE is 1 while HOLDOVER has lasted longer than `TB_HOLD_LIMIT` (R57, R58). -/
def State.staleJudge (s : State) : State :=
  s.setB TB_DISC_STAT_STALE (s.get TB_DISC_STAT_STATE == 3 &&
    decide (s.tb.holdoverSince + 1000000 * s.get TB_HOLD_LIMIT_LIMIT_S < s.tick))

/-- HOLDOVER_STALE (R40, R58). -/
def execHoldoverStale (s : State) : Host.Outcome State Fault Refusal := done s.staleJudge

/-- The rate moves towards `want` by at most 0.1 ppm, within its clamp (R39). -/
def State.rateTo (s : State) (want : Int) : State :=
  let now := s.getI TB_FADJ_FADJ
  let s := s.setI TB_FADJ_FADJ (now + clampI (-100) 100 (clampI (-100000) 100000 want - now))
  { s with tb := { s.tb with lastStep := s.tick } }

/-- DISC_RATE_STEP (R39, R40): once a second. `ferr` is the frequency error measured against the source and `want` the adjustment that
would correct it, both in ppb; in FREE the adjustment returns to 0, and in HOLDOVER the last one stays in force. -/
def execDiscRateStep (ferr want : Int) (s : State) : Host.Outcome State Fault Refusal :=
  if s.following ∨ s.tick < s.tb.lastStep + 1000000 then done s
  else if s.get TB_DISC_STAT_STATE = 0 then done (s.rateTo 0)
  else if s.get TB_DISC_STAT_STATE = 3 then done s
  else done ((s.setI TB_FERR_FERR ferr).rateTo want)

/-! ### Cross-check and fall-back (R41, R42) -/

/-- Whether a window's count is within the tolerance, 0.1 % per LSB (R41, R62). -/
def State.xchkGood (s : State) (count : Nat) : Bool :=
  decide (1000 * ((count : Int) - 15625).natAbs ≤ s.get TB_XCHK_CTRL_TOL * 15625)

/-- A time base fault: the tick source becomes the check oscillator (R42), trigger 16 of R424, class 6 of R577. -/
def State.timeFault (s : State) : State :=
  let s := (s.inc TB_FAULT_CNT_TB_FAULTS).set TB_XCHK_STAT_GOOD_RUN 0
  let s := { s with tb := { s.tb with onCheck := true, frac := 0 } }
  ((s.detect 6 0).trigger 16).settle

/-- The tick source returns to the pace oscillator (R42). -/
def State.paceReturn (s : State) : State :=
  ({ s with tb := { s.tb with onCheck := false, frac := 0 } }).settle

/-- XCHK_WINDOW_END (R41, R42): a window of 512 check cycles ends with `count` ticks of the pace oscillator. -/
def execXchkWindowEnd (count : Nat) (s : State) : Host.Outcome State Fault Refusal :=
  let s := s.set TB_XCHK_STAT_LAST_COUNT (min count 65535)
  if s.xchkGood count then
    let run := min 8 (s.get TB_XCHK_STAT_GOOD_RUN + 1)
    done ((s.set TB_XCHK_STAT_GOOD_RUN run).iff (s.tb.onCheck && run == 8) State.paceReturn)
  else if s.tb.onCheck then done (s.set TB_XCHK_STAT_GOOD_RUN 0)
  else done s.timeFault

/-! ### Slack windows (R44, R45) -/

/-- The lowest slack of the slots over the window that ends, and the slot that has it: the lowest number where several do. -/
def State.slackLow (s : State) : Nat × Nat :=
  (List.finRange 64).foldl (fun m n => if (s.slot n).slack < m.1 then ((s.slot n).slack, n.val) else m) (255, 0)

/-- The monitor reports each slot's slack over the window and starts the next (R44). DESIGN CHOICE: the slack is rounded down to whole
percent, and reads 255 where a slot is admitted but took no sample in the window (log entry 62). -/
def State.slackReport (s : State) : State :=
  let low := s.slackLow
  let s := s.each (List.finRange 64) (fun s n => s.set LPS_STAT_MIN_SLACK (s.slot n).slack n.val)
  let s := (s.set LPE_SLACK_MIN_MIN low.1).set LPE_SLACK_MIN_SLOT low.2
  let s := s.set SYS_VCORE_STAT_MIN_SLACK s.tb.windowSlack
  { s with
      lpe := { s.lpe with slots := s.lpe.slots.map (fun x => { x with slack := 255 }) }
      tb := { s.tb with windowSlack := 255 } }

/-- The hold at 0.85 V ends with a full window at or above the target (rule 1), or with the first complete window after an admission
(R46). -/
def State.forcedEnd (s : State) : State :=
  match s.tb.forcedSince with
  | none => s
  | some t =>
    if t ≤ s.tb.windowAt ∧ (!s.tb.forcedRule ∨ s.get SYS_VCORE_CTRL_SLACK_TGT ≤ s.get SYS_VCORE_STAT_MIN_SLACK) then
      { (s.setB SYS_VCORE_STAT_FORCED_MAX false) with tb := { s.tb with forcedSince := none, forcedRule := false } }
    else s

/-- Rule 3 of R45, where neither rule 1 nor rule 2 applies in the tick. DESIGN CHOICE: a step that would pass below `FLOOR` ends at `FLOOR`,
also where that is no multiple of 5 mV, and a core below a newly raised `FLOOR` stays where it is (log entry 62). -/
def State.coreLower (s : State) : State :=
  let v := s.get SYS_VCORE_STAT_VCORE
  let low := s.get SYS_VCORE_CTRL_FLOOR
  if s.on SYS_VCORE_CTRL_SCALE_EN ∧ !s.on SYS_VCORE_STAT_FORCED_MAX ∧ s.tb.raisedAt ≠ some (s.tick + 1) ∧
      s.get SYS_VCORE_CTRL_SLACK_TGT + 5 ≤ s.get SYS_VCORE_STAT_MIN_SLACK ∧ low < v then
    s.vcoreTo (max low (v - 50))
  else s

/-- VCORE_WINDOW_END (R45): the windows of 10,000 ticks end at the multiples of 10,000. -/
def execVcoreWindowEnd (s : State) : Host.Outcome State Fault Refusal :=
  if s.tick % 10000 = 0 ∧ s.tb.windowAt < s.tick then
    let s := s.slackReport.forcedEnd.coreLower
    done { s with tb := { s.tb with windowAt := s.tick } }
  else done s

end Sys2Proof.Machine
end

