-- ==== Sys2Proof/Machine/Session.lean ====
section
/-! DEFINITION. Keys, sessions and roles, PRAX datagrams, notifications, the Ethernet ports, PTP and MDIO (file 20). READ, WRITE, WITNESS and
the SPI frames, which reach every register, stand in Access and Pair. -/

namespace Sys2Proof.Machine

/-! ### Failures and lockouts (R485) -/

/-- Consecutive failures of a port: 0 SPI, 1 and 2 Ethernet. -/
def State.fails (s : State) (p : Fin 3) : Nat :=
  if p.val = 0 then s.ports.spiFails else s.get HIF_AUTH_STAT_FAILS (p.val - 1)

def State.setFails (s : State) (p : Fin 3) (n : Nat) : State :=
  if p.val = 0 then { s with ports := { s.ports with spiFails := n } } else s.set HIF_AUTH_STAT_FAILS n (p.val - 1)

/-- A lockout whose end has come ends, and the count returns to 0. -/
def State.lockExpire (s : State) (p : Fin 3) : State :=
  if s.due (s.ports.lockEnd.get p) then
    { (s.setFails p 0) with ports := { (s.setFails p 0).ports with lockEnd := s.ports.lockEnd.set p none } }
  else s

def State.portLocked (s : State) (p : Fin 3) : Bool := (s.ports.lockEnd.get p).isSome && !s.due (s.ports.lockEnd.get p)

/-- A failure on a port that names a key slot: the 5th consecutive one locks the port over 60,000,000 ticks. -/
def State.failure (s : State) (p : Fin 3) (slot : Nat) : State :=
  let s := (s.iff (decide (slot < 8)) (fun s => s.inc SES_KEY_STAT_FAILS slot)).setFails p (s.fails p + 1)
  if 5 ≤ s.fails p then
    let s := s.iff (p.val != 0) (fun s => s.inc HIF_AUTH_STAT_LOCKOUTS (p.val - 1))
    ({ s with ports := { s.ports with lockEnd := s.ports.lockEnd.set p (some (s.tick + 60000000)) } }).event .portLockout 0 [p.val]
  else s

/-! ### Sessions (R484, R486) -/

def State.session (s : State) (k : Fin 8) : Session := s.ports.sessions.get k

def State.setSession (s : State) (k : Fin 8) (x : Session) : State :=
  { s with ports := { s.ports with sessions := s.ports.sessions.set k x } }

def State.sessOpen (s : State) (k : Fin 8) : Bool := s.get SES_SESS_ROLE k.val != 0

/-- Sessions open with slot `n`, as `SES_KEY_STAT` shows them. -/
def State.showOpen (s : State) (n : Nat) : State :=
  s.set SES_KEY_STAT_OPEN_NOW ((List.finRange 8).filter (fun k => s.sessOpen k && s.get SES_SESS_SLOT k.val == n)).length n

/-- A session closes (R486). -/
def State.closeSession (s : State) (k : Fin 8) : State :=
  if s.sessOpen k then
    ((s.setReg (SES_SESS_ROLE.at k.val) 0).setSession k {}).showOpen (s.get SES_SESS_SLOT k.val)
  else s

/-- The open session of the SPI port. -/
def State.spiSess (s : State) : Option (Fin 8) :=
  (List.finRange 8).find? (fun k => s.sessOpen k && s.sessPort k.val == 0)

/-- A core restart closes every PRAX session (R486). -/
def State.closePrax (s : State) : State :=
  s.each (List.finRange 8) (fun s k => s.iff (s.sessPort k.val != 0) (fun s => s.closeSession k))

/-- Key slot `n` as bytes. -/
def State.keyBytes (s : State) (n : Fin 8) : List Byte :=
  ((List.range 8).map (fun i => leBytes 4 ((s.ports.keys.get n).words.getD i 0).toNat)).flatten

/-- The slot number `n` mod 8. -/
def slotIx (n : Nat) : Fin 8 := ⟨n % 8, Nat.mod_lt n (by decide)⟩

def nonceBytes (l : List Word) : List Byte := (l.map (fun w => leBytes 4 w.toNat)).flatten

/-- The response a challenge expects: the first 16 bytes of the HMAC over nonce, port and role (R484). -/
def State.expected (s : State) (c : Challenge) : List Byte :=
  (hmacSha256 (s.keyBytes (slotIx c.slot)) (nonceBytes c.nonce ++ leBytes 1 c.port ++ leBytes 1 c.role)).take 16

/-- Whether a response opens the session a challenge asked for (R484); in GREENWARE, PRAX serves key slots with WIT only (R499). -/
def State.proves (s : State) (c : Challenge) (resp : List Byte) : Bool :=
  resp == s.expected c && decide (c.slot < 8) && s.on SES_KEY_STAT_VALID c.slot && s.bitOn SES_KEY_CFG_PORTS c.port c.slot &&
    decide (1 ≤ c.role ∧ c.role ≤ s.get SES_KEY_CFG_MAX_ROLE c.slot) &&
    (c.port == 0 || s.full || s.on SES_KEY_CFG_WIT c.slot)

/-- The tick at which a challenge's nonce expires. -/
def State.nonceEnd (s : State) (c : Challenge) : Nat := c.issued + 1000000 * s.get SES_CFG_NONCE_S

/-- The lowest free session slot. -/
def State.freeSession (s : State) : Option (Fin 8) := (List.finRange 8).find? (fun k => !s.sessOpen k)

/-- A session opens for a challenge; its sequence starts from that of the PROVE (log entry 21). -/
def State.openSession (s : State) (k : Fin 8) (c : Challenge) (seq : Nat) : State :=
  let s := ((s.set SES_SESS_ROLE c.role k.val).set SES_SESS_PORT c.port k.val).set SES_SESS_SLOT c.slot k.val
  let key := hmacSha256 (s.keyBytes (slotIx c.slot)) (nonceBytes c.nonce ++ leBytes 1 0x4B ++ leBytes 4 c.sid.toNat)
  ((s.setSession k { sid := c.sid, v6 := c.v6, key := key, seq := seq, lastTick := s.tick }).showOpen c.slot).inc HIF_SESS_CNT_OPENED

/-- Takes a challenge away. -/
def State.dropChallenge (s : State) (c : Challenge) : State :=
  { s with ports := { s.ports with challenges := s.ports.challenges.filter (fun x => x != c) } }

/-- A new challenge for a port and a source: it replaces one pending of the same source (R496). -/
def State.challenge (s : State) (port peer slot role : Nat) (v6 : Bool := false) : Challenge × State :=
  let n := s.random 4
  let i := n.2.random 1
  let sid := if i.1.headD 0 = 0 then 1 else i.1.headD 0
  let c : Challenge := { port := port, peer := peer, slot := slot, role := role, nonce := n.1, sid := sid, issued := s.tick, v6 := v6 }
  let s := i.2
  (c, { s with ports := { s.ports with
      challenges := s.ports.challenges.filter (fun x => !(x.port == port && x.peer == peer)) ++ [c] } })

/-! ### SPI sessions (R490) -/

/-- SES_OPEN.START: a nonce for the SPI port, in `SES_NONCE`; a locked port gives none, and with 8 sessions in use the open is refused
with BUSY (R484, R485). -/
def State.spiOpen (s : State) (slot role : Nat) : State :=
  let s := s.lockExpire 0
  if s.portLocked 0 || s.freeSession.isNone then s
  else
    let c := s.challenge 0 0 slot role
    c.2.each (List.range 4) (fun s k => s.set SES_NONCE_NONCE (c.1.nonce.getD k 0).toNat k)

def State.spiClose (s : State) : State :=
  match s.spiSess with
  | some k => s.closeSession k
  | none => s

/-- The write of `SES_OPEN`. -/
def State.sesOpenWrite (s : State) (w : Word) : State :=
  let s := s.iff (bitsOf w 9 1 == 1) State.spiClose
  s.iff (bitsOf w 8 1 == 1) (fun s => s.spiOpen (bitsOf w 0 3) (bitsOf w 4 2))

/-- SES_OPEN_START (R484, R490). -/
def execSesOpenStart (r : Requester) (w : Word) (s : State) : Host.Outcome State Fault Refusal :=
  done (s.gate r SES_OPEN_START.addr (fun s => s.sesOpenWrite (w ||| 0x100)))

/-- SES_OPEN_CLOSE (R486). -/
def execSesOpenClose (r : Requester) (w : Word) (s : State) : Host.Outcome State Fault Refusal :=
  done (s.gate r SES_OPEN_START.addr (fun s => s.sesOpenWrite (w ||| 0x200)))

/-- The response in `SES_RESP` answers the SPI port's pending challenge; the session opened replaces an SPI session still open (log
entry 21). -/
def State.spiProve (s : State) : State :=
  let s := s.lockExpire 0
  match s.ports.challenges.find? (fun c => c.port == 0) with
  | none => s
  | some c =>
    let s := s.dropChallenge c
    if s.portLocked 0 then s
    else if s.nonceEnd c ≤ s.tick then s.failure 0 c.slot
    else if s.proves c (nonceBytes s.ports.resp) then
      let s := s.spiClose
      match s.freeSession with
      | some k => (s.openSession k c 0).setFails 0 0
      | none => s
    else s.failure 0 c.slot

/-- A write of response word `k`; `k` = 3 submits (R503). -/
def State.respWrite (s : State) (k : Nat) (w : Word) : State :=
  let s := { s with ports := { s.ports with resp := s.ports.resp.set k w } }
  s.iff (k == 3) State.spiProve

/-- SES_RESP_SUBMIT (R484, R490): the write of `SES_RESP[3]`. -/
def execSesRespSubmit (r : Requester) (w : Word) (s : State) : Host.Outcome State Fault Refusal :=
  done (s.gate r (SES_RESP_RESP.at 3) (fun s => s.respWrite 3 w))

/-! ### Timers (R484 to R486) -/

/-- LOCKOUT_END (R485). -/
def execLockoutEnd (p : Fin 3) (s : State) : Host.Outcome State Fault Refusal := done (s.lockExpire p)

def portIx (n : Nat) : Fin 3 := ⟨n % 3, Nat.mod_lt n (by decide)⟩

/-- A nonce that expires without a response is a failure (R484); on a locked port it is not counted (R485, log entry 21). -/
def State.nonceFail (s : State) (c : Challenge) : State :=
  let s := (s.dropChallenge c).lockExpire (portIx c.port)
  if s.portLocked (portIx c.port) then s else s.failure (portIx c.port) c.slot

/-- NONCE_EXPIRY (R484). -/
def execNonceExpiry (s : State) : Host.Outcome State Fault Refusal :=
  done (s.each (s.ports.challenges.filter (fun c => decide (s.nonceEnd c ≤ s.tick))) State.nonceFail)

/-- SESSION_IDLE_TIMEOUT (R486, R504). -/
def execSessionIdleTimeout (k : Fin 8) (s : State) : Host.Outcome State Fault Refusal :=
  if s.sessOpen k ∧ (s.session k).lastTick + 1000000 * s.get SES_CFG_IDLE_S ≤ s.tick then
    done ((s.closeSession k).inc HIF_SESS_CNT_IDLED)
  else done s

/-! ### Keys (R483) -/

def State.setKey (s : State) (n : Fin 8) (x : Key) : State :=
  ({ s with ports := { s.ports with keys := s.ports.keys.set n x } }).storedChange

/-- ERASE: the slot becomes invalid and its sessions close in the same tick. -/
def State.keyErase (s : State) (n : Fin 8) : State :=
  let s := (s.setB SES_KEY_STAT_VALID false n.val).setKey n {}
  (s.each (List.finRange 8) (fun s k => s.iff (s.sessOpen k && s.get SES_SESS_SLOT k.val == n.val) (fun s => s.closeSession k))).settle

/-- COMMIT: the slot becomes valid once all 8 words are written. -/
def State.keyCommit (s : State) (n : Fin 8) : State :=
  if (List.range 8).all (fun i => (s.ports.keys.get n).written.contains i) then (s.setB SES_KEY_STAT_VALID true n.val).storedChange
  else s

/-- The write of `SES_KEY_SEL`: the selection, then ERASE, then COMMIT. -/
def State.keySelWrite (s : State) (w : Word) : State :=
  let s := { s with ports := { s.ports with selSlot := bitsOf w 0 3, selWord := bitsOf w 4 3 } }
  let s := s.iff (bitsOf w 8 1 == 1) (fun s => s.keyErase (slotIx (bitsOf w 0 3)))
  s.iff (bitsOf w 9 1 == 1) (fun s => s.keyCommit (slotIx (bitsOf w 0 3)))

/-- KEY_ERASE (R483). -/
def execKeyErase (r : Requester) (w : Word) (s : State) : Host.Outcome State Fault Refusal :=
  done (s.gateRole r SES_KEY_SEL_SLOT.addr .curator (fun s => s.keySelWrite (w ||| 0x100)))

/-- KEY_COMMIT (R483, R488). -/
def execKeyCommit (r : Requester) (w : Word) (s : State) : Host.Outcome State Fault Refusal :=
  done (s.gateRole r SES_KEY_SEL_SLOT.addr .curator (fun s => s.keySelWrite (w ||| 0x200)))

/-- A key word is written at the selection, and WORD advances by 1 (R503). -/
def State.keyDataWrite (s : State) (w : Word) : State :=
  let n := slotIx s.ports.selSlot
  let x := s.ports.keys.get n
  let words := if x.words.length = 8 then x.words else List.replicate 8 0
  let s := s.setKey n { words := words.set s.ports.selWord w, written := s.ports.selWord :: x.written.filter (fun i => i != s.ports.selWord) }
  { s with ports := { s.ports with selWord := (s.ports.selWord + 1) % 8 } }

/-- KEY_DATA_WRITE (R503). -/
def execKeyDataWrite (r : Requester) (w : Word) (s : State) : Host.Outcome State Fault Refusal :=
  done (s.gateRole r SES_KEY_DATA_DATA.addr .curator (fun s => s.keyDataWrite w))

/-! ### Ethernet ports (R491, R492, R499) -/

/-- The lanes on VDD_SD run: VDD_SD is good (R98) and HL_REFCLK times them (R457, R594). -/
def State.sdGood (s : State) : Bool := s.bitOn SYS_SUPPLY_STAT_GOOD 4 && s.ports.refclk

/-- The port is on: with a blank Kiln, port 1 is off (R492). -/
def State.ethOn (s : State) (p : Fin 2) : Bool :=
  s.on HIF_ETH_CFG_EN p.val && s.sdGood && !(s.on SYS_STAT_KILN_BLANK && p.val == 1)

/-- The default address 169.254.84.x of R102. -/
def State.defaultIp (s : State) : Word :=
  BitVec.ofNat 32 (169 * 2 ^ 24 + 254 * 2 ^ 16 + 84 * 2 ^ 8 + (16 + 4 * (s.get SYS_STRAP_LATCHED / 16) + s.unitRole))

/-- The IPv4 address in use on a port whose link is up. -/
def State.ip4 (s : State) (p : Fin 2) : Option Word :=
  if !s.on HIF_ETH_STAT_LINK p.val then none
  else if s.on SYS_STAT_KILN_BLANK then (if p.val = 0 then some s.defaultIp else none)
  else if s.get HIF_ETH_CFG_IPV4 p.val = 1 then some (BitVec.ofNat 32 (s.get HIF_IP4_ADDR_ADDR p.val))
  else if s.get HIF_ETH_CFG_IPV4 p.val = 2 then (s.ports.lease.get p).map (fun l => l.1)
  else none

/-- Brings a port's status up to date with its configuration, link and addresses. -/
def State.ethShow (s : State) (p : Fin 2) : State :=
  let s := s.setB HIF_ETH_STAT_LINK (s.on HIF_ETH_STAT_LINK p.val && s.ethOn p) p.val
  let link := s.on HIF_ETH_STAT_LINK p.val
  let s := (s.setB HIF_ETH_STAT_IPV4_OK (s.ip4 p).isSome p.val).set HIF_IP4_CUR_ADDR ((s.ip4 p).getD 0).toNat p.val
  let v6 := link && s.on HIF_ETH_CFG_IPV6 p.val && !s.on HIF_IP6_STAT_DAD_FAIL p.val
  let glob := if v6 && s.boot.firmware then s.ports.slaac.get p else none
  let s := ((s.setB HIF_IP6_STAT_LL_OK v6 p.val).setB HIF_ETH_STAT_IPV6_OK glob.isSome p.val).set HIF_IP6_STAT_PREFIX (glob.getD 0) p.val
  let any := s.full && (s.on HIF_ETH_STAT_LINK 0 || s.on HIF_ETH_STAT_LINK 1)
  if any && s.get HIF_PTP_STAT_STATE == 0 then s.set HIF_PTP_STAT_STATE 1
  else if !any && s.get HIF_PTP_STAT_STATE != 0 then s.set HIF_PTP_STAT_STATE 0
  else s

def State.ethShowAll (s : State) : State := (s.ethShow 0).ethShow 1

/-- DHCP_LEASE_OBTAINED (R492): while firmware runs, on a linked port configured for DHCPv4. -/
def execDhcpLeaseObtained (p : Fin 2) (addr : Word) (secs : Nat) (s : State) : Host.Outcome State Fault Refusal :=
  if s.boot.firmware && s.on HIF_ETH_STAT_LINK p.val && s.get HIF_ETH_CFG_IPV4 p.val == 2 then
    done (({ s with ports := { s.ports with lease := s.ports.lease.set p (some (addr, s.tick + 1000000 * secs)) } }).ethShow p)
  else done s

/-- DHCP_LEASE_END (R492): a lease that ends unrenewed removes the address. -/
def execDhcpLeaseEnd (p : Fin 2) (s : State) : Host.Outcome State Fault Refusal :=
  if s.due ((s.ports.lease.get p).map (fun l => l.2)) then
    done (({ s with ports := { s.ports with lease := s.ports.lease.set p none } }).ethShow p)
  else done s

/-! ### PRAX datagrams (R493 to R496) -/

/-- The bytes of a datagram before its MAC (R493). -/
def praxBytes (type : Nat) (sid seq : Nat) (body : List Byte) : List Byte :=
  [1, BitVec.ofNat 8 type] ++ leBytes 2 body.length ++ leBytes 4 sid ++ leBytes 4 seq ++ body

/-- The session MAC: the first 8 bytes of the HMAC under K_s (R494). -/
def macOf (key bytes : List Byte) : List Byte := (hmacSha256 key bytes).take 8

/-- A datagram is sent on a port. -/
def State.praxSend (s : State) (p : Fin 2) (bytes : List Byte) : State :=
  (s.incWrap HIF_FRAMES_TX p.val).reply (bytes.map (fun b => b.toNat))

/-- The body of an ERROR (R495): status, the request's type, an address or 0. -/
def errorBody (status type addr : Nat) : List Byte := leBytes 1 status ++ leBytes 1 type ++ leBytes 2 0 ++ leBytes 4 addr

/-- An ERROR to a request outside a session; a reply that is not OK is counted (R504). -/
def State.praxError (s : State) (d : Datagram) (type status : Nat) : State :=
  (s.inc HIF_PRAX_ERR_REPLIED).praxSend d.eth (praxBytes 0xFF d.sid.toNat d.seq.toNat (errorBody status type 0))

/-- The port number of an Ethernet port in sessions and event payloads. -/
def ethPort (p : Fin 2) : Fin 3 := ⟨p.val + 1, by omega⟩

/-- The port that `HLK_CFG.WIT_PATH` names (R458). -/
def State.witPort (s : State) (p : Fin 2) : Bool := s.get HLK_CFG_WIT_PATH == p.val + 1

/-- Whether a protocol has an address on a port at the present level (R492, R499). -/
def State.addressedOn (s : State) (p : Fin 2) (v6 : Bool) : Bool :=
  if v6 then s.on HIF_IP6_STAT_LL_OK p.val || s.on HIF_ETH_STAT_IPV6_OK p.val
  else (s.ip4 p).isSome && (s.full || s.on SYS_STAT_KILN_BLANK || s.get HIF_ETH_CFG_IPV4 p.val == 1)

def State.addressed (s : State) (d : Datagram) : Bool := s.addressedOn d.eth d.v6

/-- A frame arrives: in GREENWARE only the witness port serves, from tick g, the types of R499, and drops the rest with a count. -/
def State.praxFrame (s : State) (d : Datagram) (wit : Bool) (f : State → State) : State :=
  if !s.on HIF_ETH_STAT_LINK d.eth.val then s
  else
    let s := s.incWrap HIF_FRAMES_RX d.eth.val
    if s.full then (if s.addressed d then f s else s.inc HIF_DROP_CNT_DROPS d.eth.val)
    else if s.witPort d.eth && s.boot.g.isSome then
      (if wit && s.addressed d then f s else s.inc HIF_DROP_CNT_DROPS d.eth.val)
    else s

/-- Whether the length field is right and the body has the length a type asks for. -/
def datagramFits (d : Datagram) (n : Nat) : Bool := d.len.toNat == d.body.length && d.body.length == n

def State.discard (s : State) : State := s.inc HIF_PRAX_ERR_DISCARDED

/-- OPEN (R495): a CHALLENGE, or an ERROR. -/
def State.praxOpen (s : State) (d : Datagram) : State :=
  let p := ethPort d.eth
  let s := s.lockExpire p
  if d.version ≠ 1 then s.praxError d 1 0x15
  else if !(datagramFits d 4) then s.praxError d 1 0x10
  else if s.portLocked p then s.praxError d 1 0x13
  else if s.freeSession.isNone then s.praxError d 1 0x12
  else
    let c := s.challenge p.val d.peer (d.body.getD 0 0).toNat (d.body.getD 1 0).toNat d.v6
    c.2.praxSend d.eth (praxBytes 0x81 c.1.sid.toNat d.seq.toNat (nonceBytes c.1.nonce))

/-- OPEN (R495). -/
def execPraxOpen (d : Datagram) (s : State) : Host.Outcome State Fault Refusal := done (s.praxFrame d true (fun s => s.praxOpen d))

/-- PROVE (R495): the session opens, or the open fails with AUTH_FAIL. A PROVE without a challenge of its source is discarded. -/
def State.praxProve (s : State) (d : Datagram) : State :=
  let p := ethPort d.eth
  let s := s.lockExpire p
  match s.ports.challenges.find? (fun c => c.port == p.val && c.peer == d.peer && c.sid == d.sid) with
  | none => s.discard
  | some c =>
    if d.version ≠ 1 then s.praxError d 2 0x15
    else if !(datagramFits d 16) then s.praxError d 2 0x10
    else
      let s := s.dropChallenge c
      if s.portLocked p then s.praxError d 2 0x13
      else if s.nonceEnd c ≤ s.tick ∨ !s.proves c d.body then (s.failure p c.slot).praxError d 2 0x14
      else match s.freeSession with
        | none => s.praxError d 2 0x12
        | some k =>
          let s := (s.openSession k c d.seq.toNat).setFails p 0
          let bytes := praxBytes 0x82 c.sid.toNat d.seq.toNat
            (leBytes 1 c.role ++ leBytes 1 0 ++ leBytes 2 (s.get SES_CFG_IDLE_S))
          let bytes := bytes ++ macOf (s.session k).key bytes
          (s.setSession k { s.session k with reply := bytes }).praxSend d.eth bytes

/-- PROVE (R495). -/
def execPraxProve (d : Datagram) (s : State) : Host.Outcome State Fault Refusal := done (s.praxFrame d true (fun s => s.praxProve d))

/-- The session a datagram names on its port. -/
def State.sessionOf (s : State) (d : Datagram) : Option (Fin 8) :=
  (List.finRange 8).find? (fun k => s.sessOpen k && s.sessPort k.val == d.eth.val + 1 && (s.session k).sid == d.sid)

/-- A reply of a session, with its MAC, kept for a repeated request (R494). -/
def State.sessReply (s : State) (k : Fin 8) (d : Datagram) (type : Nat) (body : List Byte) : State :=
  let bytes := praxBytes type d.sid.toNat d.seq.toNat body
  let bytes := bytes ++ macOf (s.session k).key bytes
  (s.setSession k { s.session k with reply := bytes }).praxSend d.eth bytes

/-- An ERROR in a session. -/
def State.sessError (s : State) (k : Fin 8) (d : Datagram) (type status : Nat) : State :=
  (s.inc HIF_PRAX_ERR_REPLIED).sessReply k d 0xFF (errorBody status type 0)

/-- Acceptance of a request in a session (R494), then what it does. A request repeated gets its cached reply. -/
def State.praxRequest (s : State) (d : Datagram) (type : Nat) (f : Fin 8 → State → State) : State :=
  match s.sessionOf d with
  | none => s.discard
  | some k =>
    if d.mac ≠ macOf (s.session k).key (praxBytes type d.sid.toNat d.seq.toNat d.body) then
      s.discard.inc HIF_DROP_CNT_BAD_MAC d.eth.val
    else if d.seq.toNat = (s.session k).seq then
      (if (s.session k).reply.isEmpty then s else s.praxSend d.eth (s.session k).reply)
    else if 2 ^ 31 ≤ (d.seq.toNat + 2 ^ 32 - (s.session k).seq) % 2 ^ 32 then s.discard
    else
      let s := (s.setSession k { s.session k with seq := d.seq.toNat, lastTick := s.tick, reply := [] }).incWrap HIF_PRAX_CNT_REQUESTS
      if d.version ≠ 1 then s.sessError k d type 0x15 else f k s

/-- CLOSE (R486, R495). -/
def execPraxClose (d : Datagram) (s : State) : Host.Outcome State Fault Refusal :=
  done (s.praxFrame d true (fun s => s.praxRequest d 3 (fun k s =>
    if datagramFits d 0 then (s.sessReply k d 0x83 []).closeSession k else s.sessError k d 3 0x10)))

/-- KEEPALIVE (R495): the idle time restarts. -/
def execPraxKeepalive (d : Datagram) (s : State) : Host.Outcome State Fault Refusal :=
  done (s.praxFrame d true (fun s => s.praxRequest d 0x12 (fun k s =>
    if datagramFits d 0 then s.sessReply k d 0x92 [] else s.sessError k d 0x12 0x10)))

/-- The subscription of a session: the lowest severity notified, or none (R495, R497). -/
def State.subscribe (s : State) (k : Fin 8) (v : Nat) : State :=
  if v = 0xFF then (s.setSession k { s.session k with sub := none, out := [] }).setB SES_SESS_SUBSCRIBED false k.val
  else (s.setSession k { s.session k with sub := some v }).setB SES_SESS_SUBSCRIBED true k.val

/-- SUBSCRIBE (R497). -/
def execPraxSubscribe (d : Datagram) (s : State) : Host.Outcome State Fault Refusal :=
  done (s.praxFrame d false (fun s => s.praxRequest d 0x13 (fun k s =>
    if datagramFits d 1 then (s.subscribe k (d.body.getD 0 0).toNat).sessReply k d 0x93 [] else s.sessError k d 0x13 0x10)))

/-- Whether sequence number `a` is at or before `b`, modulo 2³². -/
def seqUpTo (a b : Nat) : Bool := (b + 2 ^ 32 - a) % 2 ^ 32 < 2 ^ 31

/-- NOTIFY_ACK (R495, R497, R504): the records up to the sequence number are acknowledged; no reply. -/
def execNotifyAck (d : Datagram) (s : State) : Host.Outcome State Fault Refusal :=
  done (s.praxFrame d false (fun s => s.praxRequest d 0x14 (fun k s =>
    if datagramFits d 4 then
      let q := leNat d.body
      let s := s.setSession k { s.session k with unacked := (s.session k).unacked.filter (fun u => !seqUpTo u.1.seq q) }
      s.iff (seqUpTo (s.get HIF_NOTIFY_SEQ_SEQ) q) (fun s => s.set HIF_NOTIFY_SEQ_SEQ q)
    else s.sessError k d 0x14 0x10)))

/-- Removes the first `n` elements that meet `p`. -/
def dropSome {α : Type} (p : α → Bool) : Nat → List α → List α
  | 0, l => l
  | _, [] => []
  | n + 1, x :: l => if p x then dropSome p n l else x :: dropSome p (n + 1) l

/-- NOTIFY_SEND (R497): one NOTIFY of a session. `drop` notifications that are no ALARM find no room in the port's egress: TRACE give way
before EVENT. Alarms not acknowledged are sent again every `RESEND` × 100 ms. Nothing is sent while the link is down or the session's
protocol has no address on the port (R492). -/
def execNotifySend (k : Fin 8) (drop : Nat) (s : State) : Host.Outcome State Fault Refusal :=
  let p : Nat := s.sessPort k.val - 1
  let eth : Fin 2 := ⟨p % 2, Nat.mod_lt p (by decide)⟩
  if !s.sessOpen k || s.sessPort k.val == 0 || !s.full || !s.on HIF_ETH_STAT_LINK eth.val || !s.addressedOn eth (s.session k).v6 then done s
  else
    let x := s.session k
    let traces := (x.out.filter (fun r => r.cls == 2)).length
    let out := dropSome (fun (r : Rec) => r.cls == 0) (drop - traces) (dropSome (fun (r : Rec) => r.cls == 2) drop x.out)
    let gone := x.out.length - out.length
    let again := (x.unacked.filter (fun u => decide (u.2 + 100000 * s.get HIF_NOTIFY_CFG_RESEND ≤ s.tick))).map (fun u => u.1)
    let send := (again ++ out).take 32
    let fresh := out.take (32 - min 32 again.length)
    let s := s.addSat HIF_NOTIFY_CNT_NOTIFY_DROP gone p
    let y : Session := { x with
        out := out.drop fresh.length
        unacked := x.unacked.map (fun u => if send.contains u.1 then (u.1, s.tick) else u) ++
          (fresh.filter (fun r => r.cls == 1)).map (fun r => (r, s.tick)) }
    if send.isEmpty then done (s.setSession k y)
    else
      let n := (x.notifySeq + 1) % 2 ^ 32
      let bytes := praxBytes 0x40 x.sid.toNat n (send.map Rec.bytes).flatten
      let s := (s.setSession k { y with notifySeq := n }).incWrap HIF_NOTIFY_CNT_SENT p
      done (s.praxSend eth (bytes ++ macOf x.key bytes))

/-! ### PTP (R500) -/

/-- Whether a message is taken: of the domain, over UDP or, while L2 is 1, over Ethernet; firmware's frames are served in FULL (R492). -/
def State.ptpTakes (s : State) (m : PtpFrom) : Bool :=
  s.full && s.on HIF_ETH_STAT_LINK m.eth.val && s.get HIF_PTP_CFG_DOMAIN == m.domain.toNat && (!m.l2 || s.on HIF_PTP_CFG_L2)

/-- PTP_ANNOUNCE (R500): `best` says that the best master clock algorithm chooses this master. -/
def execPtpAnnounce (m : PtpFrom) (best : Bool) (s : State) : Host.Outcome State Fault Refusal :=
  if s.ptpTakes m then
    let s := s.incWrap HIF_PTP_CNT_ANNOUNCES
    if best ∧ s.ports.ptpMaster ≠ some (m.eth.val, m.master.toNat) then
      let s := (s.set HIF_PTP_GM_LO_ID_LO m.master.toNat).set HIF_PTP_GM_HI_ID_HI (m.master.toNat / 2 ^ 32)
      let s := (s.set HIF_PTP_STAT_PORT m.eth.val).set HIF_PTP_STAT_STATE 2
      done { s with ports := { s.ports with ptpMaster := some (m.eth.val, m.master.toNat), ptpLast := s.tick } }
    else done s
  else done s

/-- PTP_SYNC (R500, R504): a Sync of the chosen master is stamped: offset from the master, mean path delay, and the time of day. Where
`TB_SRC_CTRL.SRC` names the port, the discipline's source is present. -/
def execPtpSync (m : PtpFrom) (offset : Int) (delay sec ns : Nat) (s : State) : Host.Outcome State Fault Refusal :=
  if s.ptpTakes m && s.ports.ptpMaster == some (m.eth.val, m.master.toNat) then
    let s := ((s.incWrap HIF_PTP_STAT_SYNCS).setI HIF_PTP_OFS_NS offset).set HIF_PTP_DELAY_NS (min delay 0xFFFFFFFE)
    let s := s.set HIF_PTP_STAT_STATE 3
    let s := { s with
        ports := { s.ports with ptpLast := s.tick }
        tb := { s.tb with ptpSec := sec % 2 ^ 48, ptpNs := ns % 1000000000, ptpKnown := true } }
    if !s.following ∧ s.get TB_SRC_CTRL_SRC = m.eth.val + 2 ∧ (s.get TB_DISC_STAT_STATE = 0 ∨ s.get TB_DISC_STAT_STATE = 3) then done s.discAcquire
    else done s
  else done s

/-- PTP_TIMEOUT (R500): `PTP_TMO` seconds without a Sync from the chosen master. -/
def execPtpTimeout (s : State) : Host.Outcome State Fault Refusal :=
  match s.ports.ptpMaster with
  | none => done s
  | some m =>
    if s.ports.ptpLast + 1000000 * s.get HIF_PTP_CFG_PTP_TMO ≤ s.tick then
      let s := (s.inc HIF_PTP_CNT_TIMEOUTS).set HIF_PTP_STAT_STATE 1
      let s := { s with ports := { s.ports with ptpMaster := none } }
      done (s.iff (s.get TB_SRC_CTRL_SRC == m.1 + 2) State.discLost)
    else done s

/-! ### MDIO (R491, R505) -/

/-- The write of `HIF_MDIO_CMD[p]`: the accesses it asks for wait for the shared bus, READ first. -/
def State.mdioCmd (s : State) (p : Nat) (w : Word) : State :=
  let phy := bitsOf w 0 5
  let reg := bitsOf w 5 5
  let l := (if bitsOf w 10 1 = 1 then [(p, phy, reg, none)] else []) ++
    (if bitsOf w 11 1 = 1 then [(p, phy, reg, some (bitsOf w 16 16))] else [])
  if l.isEmpty then s
  else ({ s with ports := { s.ports with mdio := s.ports.mdio ++ l } }).setB HIF_MDIO_DATA_BUSY true p

/-- MDIO_READ (R505). -/
def execMdioRead (r : Requester) (p : Fin 2) (w : Word) (s : State) : Host.Outcome State Fault Refusal :=
  done (s.gate r (HIF_MDIO_CMD_READ.at p.val) (fun s => s.mdioCmd p.val (w ||| 0x400)))

/-- MDIO_WRITE (R505). -/
def execMdioWrite (r : Requester) (p : Fin 2) (w : Word) (s : State) : Host.Outcome State Fault Refusal :=
  done (s.gate r (HIF_MDIO_CMD_READ.at p.val) (fun s => s.mdioCmd p.val (w ||| 0x800)))

/-- MDIO_COMPLETE (R505): the access in service ends; a read stores what the PHY answered. While VIO_A is not good MDC and MDIO stay at
their safe levels, and the access waits (R98, R593). -/
def execMdioComplete (data : BitVec 16) (s : State) : Host.Outcome State Fault Refusal :=
  match s.ports.mdio with
  | [] => done s
  | (p, _, _, wr) :: rest => if !s.bankLive 2 then done s else
    let s := { s with ports := { s.ports with mdio := rest } }
    let s := s.iff wr.isNone (fun s => s.set HIF_MDIO_DATA_DATA data.toNat p)
    done (s.setB HIF_MDIO_DATA_BUSY (rest.any (fun m => m.1 == p)) p)

end Sys2Proof.Machine
end

