-- ==== Sys2Proof/Machine/Mailbox.lean ====
section
/-! DEFINITION. Mailboxes (file 21): the data of the channels, SEND, TAKE and RECALL in both directions, and the delivery
timeout. The device side is the policy layer's. -/

namespace Sys2Proof.Machine

/-- One of the 64 channels: inbound 0 to 31, then outbound. -/
def mbxIx (out : Bool) (c : Fin 32) : Fin 64 := ⟨(if out then 32 else 0) + c.val, by cases out <;> simp <;> omega⟩

/-- An inbound field, or its outbound counterpart. -/
def mbxField (out : Bool) (i o : Field) : Field := if out then o else i

def State.mbxFull (s : State) (out : Bool) (c : Fin 32) : Bool := s.on (mbxField out MBX_IN_STAT_FULL MBX_OUT_STAT_FULL) c.val

/-- The delivery timeout of a channel, once its deadline has come (R511). -/
def State.mbxExpire (s : State) (out : Bool) (c : Fin 32) : State :=
  if s.due (s.mbx.due.get (mbxIx out c)) then
    let s := { s with mbx := { s.mbx with due := s.mbx.due.set (mbxIx out c) none } }
    let s := s.setB (mbxField out MBX_IN_STAT_TIMEOUT MBX_OUT_STAT_TIMEOUT) true c.val
    let s := s.setBit (mbxField out MBX_IN_TMO_MASK MBX_OUT_TMO_MASK) c.val true
    (s.inc (mbxField out MBX_TMO_CNT_IN MBX_TMO_CNT_OUT)).event .mailboxTimeout 0 [c.val, if out then 1 else 0]
  else s

/-- The sender code of R516. -/
def State.mbxSrc (s : State) (r : Requester) : Nat :=
  match s.srcOf r with
  | .spi => 0 | .eth0 => 1 | .eth1 => 2 | .partner => 0 | .policy => 3

/-- A refusal under R509 of a source of R516: LOCKED, counted in `MBX_FULL_REJ` as well. -/
def State.mbxRefuse (s : State) (r : Requester) (a : Nat) (out : Bool) (c : Fin 32) (src : Nat) : State :=
  let s := (s.refuse r a .locked).inc (mbxField out MBX_FULL_REJ_IN MBX_FULL_REJ_OUT)
  let s := ((s.set MBX_LAST_REJ_CH c.val).setB MBX_LAST_REJ_OUT out).set MBX_LAST_REJ_SRC src
  s.stamp MBX_LAST_REJ_TICK_TICK

def State.mbxReject (s : State) (r : Requester) (a : Nat) (out : Bool) (c : Fin 32) : State := s.mbxRefuse r a out c (s.mbxSrc r)

/-- The channel was filled in this tick by a source that R48 ranks above a requester: of the two SENDs the requester's is the first
applied (R514). -/
def State.mbxYields (s : State) (r : Requester) (out : Bool) (c : Fin 32) : Bool :=
  match (s.wrote.filter (fun x => x.at_ == keySend (mbxIx out c).val)).getLast? with
  | some x => s.mbxFull out c && decide (x.rank < (s.srcOf r).rank)
  | none => false

/-- SEND: the channel becomes FULL in this tick (R508, R511). -/
def State.mbxFill (s : State) (r : Requester) (out : Bool) (c : Fin 32) (len : Nat) : State :=
  let s := s.setB (mbxField out MBX_IN_STAT_FULL MBX_OUT_STAT_FULL) true c.val
  let s := s.setB (mbxField out MBX_IN_STAT_TIMEOUT MBX_OUT_STAT_TIMEOUT) false c.val
  let s := s.set (mbxField out MBX_IN_STAT_SRC MBX_OUT_STAT_SRC) (s.mbxSrc r) c.val
  let s := s.incWrap (mbxField out MBX_IN_STAT_SEQ MBX_OUT_STAT_SEQ) c.val
  let s := s.set (mbxField out MBX_IN_STAT_LEN MBX_OUT_STAT_LEN) len c.val
  let s := s.setBit (mbxField out MBX_IN_FULL_MASK MBX_OUT_FULL_MASK) c.val true
  let s := s.iff (decide (c.val < 30)) (fun s => s.setBit (mbxField out MBX_IN_TMO_MASK MBX_OUT_TMO_MASK) c.val false)
  let s := s.incWrap (mbxField out MBX_CNT_IN_SENT MBX_CNT_OUT_SENT)
  { s with mbx := { s.mbx with
      due := s.mbx.due.set (mbxIx out c) (if c.val < 30 then some (s.tick + 1000 * s.get MBX_TMO_TMO_MS c.val) else none) } }

/-- The channel returns to EMPTY (R508). A TAKE or RECALL in the tick of the expiry leaves TIMEOUT set (R511). -/
def State.mbxEmpty (s : State) (out : Bool) (c : Fin 32) : State :=
  let s := s.mbxExpire out c
  let s := (s.setB (mbxField out MBX_IN_STAT_FULL MBX_OUT_STAT_FULL) false c.val).setBit
    (mbxField out MBX_IN_FULL_MASK MBX_OUT_FULL_MASK) c.val false
  { s with mbx := { s.mbx with due := s.mbx.due.set (mbxIx out c) none } }

/-- The address of the command register of a direction. -/
def mbxCmd (out : Bool) : Nat := if out then MBX_OUT_CMD_CH.addr else MBX_IN_CMD_CH.addr

/-- Channel named by a command word. -/
def mbxCh (w : Word) : Fin 32 := ⟨bitsOf w 0 5, by simp [bitsOf]; omega⟩

/-- The message of a requester takes the place of one sent in this tick by a higher-ranked source, whose SEND is the one refused (R48,
R509, R514). -/
def State.mbxTakeOver (s : State) (r : Requester) (out : Bool) (c : Fin 32) (len : Nat) : State :=
  let src := s.get (mbxField out MBX_IN_STAT_SRC MBX_OUT_STAT_SRC) c.val
  let s := s.mbxRefuse (if src = 0 then .spi else .policy) (mbxCmd out) out c src
  let s := (s.set (mbxField out MBX_IN_STAT_SRC MBX_OUT_STAT_SRC) (s.mbxSrc r) c.val).set (mbxField out MBX_IN_STAT_LEN MBX_OUT_STAT_LEN) len c.val
  s.noteWrite r (keySend (mbxIx out c).val)

/-- The commands that belong to the other side of a direction (R510): on inbound channels the host sends and recalls and the device takes,
on outbound channels the reverse. -/
def mbxForeign (dev out : Bool) (w : Word) : Bool :=
  if dev == out then bitsOf w 9 1 == 1 else bitsOf w 8 1 == 1 || bitsOf w 10 1 == 1

def mbxDevice : Requester → Bool
  | .policy => true
  | _ => false

/-- The role a channel's commands need (R507). -/
def mbxRole (c : Fin 32) : Role := if mailboxSecure c.val then .curator else .conservator

/-- The effect of an accepted command word: SEND, then TAKE, then RECALL. -/
def State.mbxDo (s : State) (r : Requester) (out : Bool) (w : Word) : State :=
  let c := mbxCh w
  let len := bitsOf w 16 11
  let s :=
    if bitsOf w 8 1 = 1 then
      if s.mbxFull out c && !s.mbxYields r out c then s.mbxReject r (mbxCmd out) out c
      else if len = 0 ∨ mailboxSize c.val < len then s.event .fieldRefused 0 [mbxCmd out, 16]
      else if s.mbxYields r out c then s.mbxTakeOver r out c len
      else (s.mbxFill r out c len).noteWrite r (keySend (mbxIx out c).val)
    else s
  if (bitsOf w 9 1 = 1 ∨ bitsOf w 10 1 = 1) ∧ s.mbxFull out c then s.mbxEmpty out c else s

/-- The write of a command register (R507, R510). -/
def State.mbxWrite (s : State) (r : Requester) (out : Bool) (w : Word) : State :=
  s.gateRole r (mbxCmd out) (mbxRole (mbxCh w)) (fun s =>
    if mbxForeign (mbxDevice r) out w then s.refuse r (mbxCmd out) .role else s.mbxDo r out w)

/-- SEND (R508, R509). -/
def execMbxSend (r : Requester) (out : Bool) (w : Word) (s : State) : Host.Outcome State Fault Refusal :=
  done (s.mbxWrite r out (w ||| 0x100))

/-- TAKE (R508). -/
def execMbxTake (r : Requester) (out : Bool) (w : Word) (s : State) : Host.Outcome State Fault Refusal :=
  done (s.mbxWrite r out (w ||| 0x200))

/-- RECALL (R508). -/
def execMbxRecall (r : Requester) (out : Bool) (w : Word) (s : State) : Host.Outcome State Fault Refusal :=
  done (s.mbxWrite r out (w ||| 0x400))

/-- A write of a word of mailbox data, at an offset of the window; into a FULL channel it is refused (R509). -/
def State.mbxData (s : State) (r : Requester) (off : Nat) (w : Word) : State :=
  s.gate r (0x100000 + off) (fun s =>
    match mailboxSpot (off % 0x8000) with
    | none => s
    | some (c, _) =>
      let out := decide (0x8000 ≤ off)
      let c : Fin 32 := ⟨c % 32, Nat.mod_lt c (by decide)⟩
      if s.mbxFull out c then s.mbxReject r (0x100000 + off) out c
      else s.ranked r (0x100000 + off) (fun s => s.store (0x100000 + off) w))

/-- MAILBOX_DATA_WRITE (R508, R509). -/
def execMailboxDataWrite (r : Requester) (off : BitVec 16) (w : Word) (s : State) : Host.Outcome State Fault Refusal :=
  done (s.mbxData r off.toNat w)

/-- MAILBOX_TIMEOUT (R511). -/
def execMailboxTimeout (out : Bool) (c : Fin 32) (s : State) : Host.Outcome State Fault Refusal := done (s.mbxExpire out c)

end Sys2Proof.Machine
end

