-- ==== Sys2Proof/Machine/Bat.lean ====
section
/-! DEFINITION. Strings (file 11): tables and lookups, counting, the voltage model, the reported state of charge, rest points and
learning, impedance tracking, presence, the disconnects, and the records. Fractions are in 2^-40, voltages worked with in 2^-24 of 100
µV (log entry 6). -/

namespace Sys2Proof.Machine

def State.str (s : State) (n : Fin 8) : Str := s.bat.strs.get n

def State.setStr (s : State) (n : Fin 8) (x : Str) : State := { s with bat := { s.bat with strs := s.bat.strs.set n x } }

/-- One, in 2^-40. -/
def one40 : Int := 2 ^ 40

/-- A string is configured. -/
def State.strOn (s : State) (n : Fin 8) : Bool := s.bitOn BAT_CFG_STR_EN n.val
def State.strClosed (s : State) (n : Fin 8) : Bool := s.bitOn BAT_CONN_CLOSED n.val
def State.strPresent (s : State) (n : Fin 8) : Bool := s.bitOn BAT_CONN_PRESENT n.val
def State.strEmpty (s : State) (n : Fin 8) : Bool := s.bitOn BAT_CONN_EMPTY n.val

/-- Strings whose disconnect the unit drives (R16, R302). -/
def State.strsOwned (s : State) : Nat :=
  if s.unitRole = 3 then 0 else if s.solo then 0xFF else s.get HLK_EFF_EF_STR

def State.closedStrs (s : State) : List (Fin 8) := (List.finRange 8).filter s.strClosed
def State.confStrs (s : State) : List (Fin 8) := (List.finRange 8).filter s.strOn

/-- This unit holds the primary role: it learns, solves allocations and runs the sequence (R254, R302, R355, R466). -/
def State.preferred (s : State) : Bool := s.solo || s.on HLK_STATE_PRIMARY

/-! ### Tables (R279 to R281) -/

def strTblEdit (k : Nat) : Nat := 0x1420000 + 0x400 * k
def strTblAct (k : Nat) : Nat := 0x1420800 + 0x400 * k

/-- The active set as the updates use it: a set committed is used from the next update (R280). -/
def strTblUse (k : Nat) : Nat := 0x1421000 + 0x400 * k

/-- The set a string uses. -/
def State.strTbl (s : State) (n : Fin 8) : Nat := strTblUse (s.get BAT_STR_CFG_TSET n.val)

/-- Entry `i` of the set at `b` (R279): temperatures in bits [15:0], rates and factors unsigned, the others signed. -/
def State.tblI (s : State) (b i : Nat) : Int :=
  let w := s.load (b + 4 * i)
  if (65 ≤ i ∧ i < 73) ∨ 144 ≤ i then toSigned 16 (w.toNat % 2 ^ 16)
  else if 73 ≤ i ∧ i < 127 then w.toNat
  else w.toInt

/-- A set is unprogrammed (R280). -/
def State.unprog (s : State) (n : Fin 8) : Bool := s.tblI (strTblAct (s.get BAT_STR_CFG_TSET n.val)) 63 == 0

def rising (l : List Int) : Bool := (l.zip (l.drop 1)).all (fun p => decide (p.1 < p.2))

/-- The checks of R280 on the set at `b`. -/
def State.tblOk (s : State) (b : Nat) : Bool :=
  let at_ := fun (lo n : Nat) => (List.range n).map (fun i => s.tblI b (lo + i))
  rising (at_ 0 64) && rising (at_ 65 8) && rising (at_ 73 6) && rising (at_ 128 16) &&
    (at_ 79 48).all (fun v => decide (1 ≤ v ∧ v ≤ 8192))

/-- Copies entries 0 to 159 of a set. -/
def State.tblCopy (s : State) (src dst : Nat) : State := s.setBytes dst (s.bytes src 640)

def State.showStrTblCrc (s : State) : State :=
  s.set BAT_TBL_CRC_CRC (crc32c (s.bytes (strTblAct 0) 640 ++ s.bytes (strTblAct 1) 640)).toNat

/-- The updates take the sets committed since the last (R280). -/
def State.tblTake (s : State) : State :=
  let s := s.each (maskBits 2 s.bat.tblNew) (fun s k => s.tblCopy (strTblAct k) (strTblUse k))
  { s with bat := { s.bat with tblNew := 0 } }

/-- TBL_COMMIT (R280). -/
def State.batCommit (s : State) : State :=
  let k := s.get BAT_TBL_ADDR_SET
  if s.tblOk (strTblEdit k) then
    let s := { s with bat := { s.bat with tblNew := s.bat.tblNew ||| 2 ^ k } }
    (s.tblCopy (strTblEdit k) (strTblAct k)).showStrTblCrc.storedChange
  else (s.inc BAT_CNT_TBL_REFUSED).event .batTblRefused 0 [k]

/-- BAT_TBL_COMMIT (R280). -/
def execBatTblCommit (r : Requester) (s : State) : Host.Outcome State Fault Refusal :=
  done (s.gate r BAT_CMD_TBL_COMMIT.addr State.batCommit)

/-- INDEX advances after a data access. -/
def State.tblNext (s : State) : State :=
  s.iff (s.on BAT_TBL_ADDR_AUTOINC) (fun s => s.set BAT_TBL_ADDR_INDEX ((s.get BAT_TBL_ADDR_INDEX + 1) % 160))

def State.tblRead (s : State) : State :=
  let i := s.get BAT_TBL_ADDR_INDEX
  let b := (if s.on BAT_TBL_ADDR_VIEW then strTblAct else strTblEdit) (s.get BAT_TBL_ADDR_SET)
  let w := if i = 127 then 0 else s.load (b + 4 * i)
  ((s.set BAT_TBL_DATA_DATA w.toNat).reply [w.toNat]).tblNext

def State.tblWrite (s : State) (w : Word) : State :=
  let i := s.get BAT_TBL_ADDR_INDEX
  let s := s.set BAT_TBL_DATA_DATA w.toNat
  (if i = 127 then s else s.store (strTblEdit (s.get BAT_TBL_ADDR_SET) + 4 * i) w).tblNext

/-- BAT_TBL_DATA_ACCESS (R279): a read, or a write of the given word. -/
def execBatTblDataAccess (r : Requester) (w : Option Word) (s : State) : Host.Outcome State Fault Refusal :=
  done (match w with
    | none => s.gateRead r BAT_TBL_DATA_DATA.addr State.tblRead
    | some v => s.gate r BAT_TBL_DATA_DATA.addr (fun s => s.tblWrite v))

/-- The segment of a state and the place in it, in 2^-40: a point belongs to the segment above it (R281). -/
def ocvSeg (x : Int) : Nat × Int :=
  let y := clampI 0 one40 x * 63
  let k := min 62 (y / one40).toNat
  (k, y - k * one40)

/-- The temperature term of the OCV, t in 1/64 °C. -/
def State.ocvTemp (s : State) (b : Nat) (t : Int) : Int := (s.tblI b 64 * (t - 1600) * 2 ^ 24).fdiv 6400

/-- OCV(s) (R281). -/
def State.ocv (s : State) (b : Nat) (t x : Int) : Int :=
  let p := ocvSeg x
  s.tblI b p.1 * 2 ^ 24 + ((s.tblI b (p.1 + 1) - s.tblI b p.1) * p.2).fdiv (2 ^ 16) + s.ocvTemp b t

/-- OCV⁻¹(v) (R281). -/
def State.ocvInv (s : State) (b : Nat) (t v : Int) : Int :=
  let v := v - s.ocvTemp b t
  if v ≤ s.tblI b 0 * 2 ^ 24 then 0
  else if s.tblI b 63 * 2 ^ 24 ≤ v then one40
  else
    let k := ((List.range 63).filter (fun k => decide (s.tblI b k * 2 ^ 24 ≤ v))).foldl max 0
    let d := s.tblI b (k + 1) - s.tblI b k
    (k * one40 + ((v - s.tblI b k * 2 ^ 24) * 2 ^ 16).fdiv (max 1 d)).fdiv 63

/-- g(s) in 100 µV (R281). -/
def State.slope (s : State) (b : Nat) (x : Int) : Int :=
  let k := (ocvSeg x).1
  63 * (s.tblI b (k + 1) - s.tblI b k)

/-- u_v at a state: V_ACC / g (R283). -/
def State.uv (s : State) (b : Nat) (x : Int) : Int := (s.get BAT_UNC2_V_ACC * one40).fdiv (max 1 (s.slope b x))

/-- Place of a value on a rising axis of `m` entries: lower entry and fraction in 2^-32, clamped to the ends. -/
def State.axisPos (s : State) (b lo m : Nat) (x : Int) (frac : Nat) : Nat × Int :=
  let a := fun (k : Nat) => s.tblI b (lo + k) * 2 ^ frac
  if x ≤ a 0 then (0, 0)
  else if a (m - 1) ≤ x then (m - 2, 2 ^ 32)
  else
    let k := ((List.range (m - 1)).filter (fun k => decide (a k ≤ x))).foldl max 0
    (k, ((x - a k) * 2 ^ 32).fdiv (max 1 (a (k + 1) - a k)))

/-- f(T, c) in 2^-40 (R281), t in 1/64 °C, c in C/1,000 and 2^-32. -/
def State.capFactor (s : State) (b : Nat) (t c : Int) : Int :=
  let p := s.axisPos b 65 8 t 0
  let q := s.axisPos b 73 6 c 32
  let f := fun (i j : Nat) => s.tblI b (79 + 6 * i + j)
  let r0 := f p.1 q.1 * (2 ^ 32 - q.2) + f p.1 (q.1 + 1) * q.2
  let r1 := f (p.1 + 1) q.1 * (2 ^ 32 - q.2) + f (p.1 + 1) (q.1 + 1) * q.2
  (r0 * (2 ^ 32 - p.2) + r1 * p.2).fdiv (2 ^ 36)

/-! ### Voltage and temperature of a string -/

/-- The thermistor temperature of a code of STR_ID (R279), in 1/64 °C. -/
def State.thermistor (s : State) (b code : Nat) : Int :=
  let p := s.axisPos b 128 16 ((12500 * code * 2 ^ 18 : Nat) : Int) 32
  divHalfEven (s.tblI b (144 + p.1) * 2 ^ 32 + (s.tblI b (145 + p.1) - s.tblI b (144 + p.1)) * p.2) (2 ^ 32)

/-- The string temperature (R295), in 1/64 °C. -/
def State.strT (s : State) (n : Fin 8) : Option Int :=
  let src := s.get BAT_STR_CFG_TEMP_SRC n.val
  if src = 15 then some 1600
  else if src = 0 then
    let m := s.afe.latest.get (Fin.ofNat 64 (48 + n.val))
    if m.valid && s.get BAT_STR_CFG_ID_MODE n.val == 2 && !s.unprog n then some (s.thermistor (s.strTbl n) m.code) else none
  else if src ≤ 12 && s.valid THM_TEMP_T (src - 1) then some (s.getI THM_TEMP_T (src - 1))
  else none

/-- The temperature a lookup uses: 25 °C while it is invalid (R281). -/
def State.tblT (s : State) (n : Fin 8) : Int := (s.strT n).getD 1600

/-- A cause for NONE (R287). -/
def State.noSoc (s : State) (n : Fin 8) : Bool := s.unprog n || (s.strV n).isNone

/-- `AFE_INT_STAT.OVR` of a string: in the current or the last 1,000-tick window. -/
def State.intOvr (s : State) (n : Fin 8) : Bool :=
  match s.afe.intOvr.get n with
  | none => false
  | some t => decide (s.tick / 1000 ≤ t / 1000 + 1)

/-! ### The model (R282 to R285) -/

/-- Rs in 2^-16 µΩ, Ra and Rb by their ratios in 1/16 (R282). -/
def State.modelR (s : State) (n : Fin 8) : Int × Int × Int :=
  let ka : Int := s.get BAT_STR_RC_RCA_RATIO n.val
  let kb : Int := s.get BAT_STR_RC_RCB_RATIO n.val
  let ta : Int := s.get BAT_STR_RC_TAU_A n.val
  let tb : Int := 10 * s.get BAT_STR_RC_TAU_B n.val
  let w2 : Int := pi2Fix * (match s.get BAT_PERT_PERT_HZ with | 0 => 1 | 1 => 4 | _ => 16)
  let part := fun (k t : Int) => (k * 2 ^ 124).fdiv (2 ^ 64 + w2 * t * t)
  let rs := (((s.str n).set_.r : Int) * 2 ^ 80).fdiv (2 ^ 64 + part ka ta + part kb tb)
  (rs, (ka * rs).fdiv 16, (kb * rs).fdiv 16)

/-- The drop of a current (2^-32 µAh per update, 0.36 A each) over a resistance in 2^-16 µΩ, in 2^-24 of 100 µV. -/
def dropOf (i r : Int) : Int := (i * r * 36).fdiv (10000 * 2 ^ 24)

def State.rDc (s : State) (n : Fin 8) : Int := let r := s.modelR n; r.1 + r.2.1 + r.2.2

/-- va and vb advance (R283). -/
def State.modelStep (s : State) (n : Fin 8) : State :=
  let x := s.str n
  let r := s.modelR n
  let i := x.dq * 2 ^ 32
  let step := fun (v r t : Int) =>
    let e := expNeg 1 (100 * t.toNat)
    (v * e + dropOf i r * (2 ^ 64 - e)).fdiv (2 ^ 64)
  s.setStr n { x with
    va := step x.va r.2.1 (s.get BAT_STR_RC_TAU_A n.val)
    vb := step x.vb r.2.2 (10 * s.get BAT_STR_RC_TAU_B n.val) }

/-- s_v (R283), with the mean current given. -/
def State.svOf (s : State) (n : Fin 8) (i : Int) : Option Int :=
  match s.strV n with
  | none => none
  | some v =>
    if s.unprog n then none
    else
      let x := s.str n
      some (s.ocvInv (s.strTbl n) (s.tblT n) (v * 2 ^ 24 + dropOf i (s.modelR n).1 + x.va + x.vb))

/-- s_e (R284). -/
def State.seOf (s : State) (n : Fin 8) : Int :=
  let x := s.str n
  let b := s.strTbl n
  let t := s.tblT n
  let ssd := s.ocvInv b t (s.getI BAT_STR_VSD_V_SD n.val * 2 ^ 24 + dropOf (max 0 x.iF) (s.rDc n))
  let c := ((x.iF.natAbs : Int) * 3600).fdiv (max 1 (s.get BAT_STR_CFG_Q_NOM n.val))
  max ssd (one40 - s.capFactor b t c)

/-- Q_learn in µAh. -/
def Str.qLearn (x : Str) : Int := 1000 * x.set_.q

/-- The raw state (R277). -/
def Str.raw (x : Str) : Int := (x.qRem * one40).fdiv (max 1 x.qLearn)

/-- SOC of a state (R284). -/
def socOf (x se : Int) : Nat :=
  if one40 ≤ se then 0 else (clampI 0 10000 (divHalfEven (10000 * (x - se)) (one40 - se).toNat)).toNat

/-- The integral of OCV over [a, b], in 2^-24 of 100 µV. -/
def State.ocvArea (s : State) (bs : Nat) (t a b : Int) : Int :=
  let ks := ((List.range 62).map (fun (k : Nat) => ((k : Int) + 1) * one40 / 63)).filter (fun x => decide (a < x ∧ x < b))
  let pts := [a] ++ ks ++ [b]
  ((pts.zip (pts.drop 1)).foldl (fun (acc : Int) p => acc + (p.2 - p.1) * (s.ocv bs t p.1 + s.ocv bs t p.2)) 0).fdiv (2 * one40)

/-- E_REM in mWh (R285). -/
def State.energy (s : State) (n : Fin 8) (x : Int) : Nat :=
  let st := s.str n
  if x ≤ st.se then 0
  else
    let v := s.ocvArea (s.strTbl n) (s.tblT n) st.se x - (dropOf (max 0 st.iF) (s.rDc n) * (x - st.se)).fdiv one40
    (max 0 ((st.set_.q * v).fdiv (10000 * 2 ^ 24))).toNat

/-- SOC_UNC (R278). -/
def Str.unc (x : Str) : Nat := (min 10000 (divHalfEven (10000 * x.u) (max 1 (x.qLearn * 2 ^ 32)).toNat)).toNat

/-- The state SOC is computed from (R284, R287). -/
def State.sStar (s : State) (n : Fin 8) : Option Int :=
  match s.get BAT_STR_STAT_SOC_SRC n.val with
  | 0 => some (s.str n).raw
  | 3 => none
  | _ => (s.str n).sv

def State.socNow (s : State) (n : Fin 8) : Nat :=
  match s.sStar n with
  | none => 0xFFFF
  | some x => socOf x (s.str n).se

/-- The registers of a string are refreshed: at each update in full service, every 100,000 ticks in GREENWARE (R108); not while EN is 0
(R306). -/
def State.showStr (s : State) (n : Fin 8) : State :=
  if !s.on BAT_CTRL_EN ∨ (!s.full ∧ s.tick % 100000 ≠ 0) then s
  else
    let x := s.str n
    let i := n.val
    let s := match s.strV n with
      | some v => s.setI BAT_STR_V_V v i
      | none => s.setInvalid BAT_STR_V_V i
    let s := (s.set BAT_SOC_SOC (s.socNow n) i).set BAT_SOC_SOC_UNC x.unc i
    let s := s.set BAT_SOC_RAW_RAW (clampI 0 10000 (divHalfEven (10000 * x.raw) (2 ^ 40))).toNat i
    let s := s.set BAT_SOC_RAW_SOC_V (match x.sv with | some v => socOf v x.se | none => 0xFFFF) i
    let s := (s.set BAT_Q_LO_Q_LO (x.qRem % 2 ^ 32).toNat i).set BAT_Q_HI_Q_HI (x.qRem / 2 ^ 32 % 2 ^ 32).toNat i
    (s.set BAT_Q_LEARN_Q x.set_.q i).set BAT_R_INT_R x.set_.r i

/-- What telemetry refreshes of a string (R582): energy and health; not while EN is 0 (R306). -/
def State.telStr (s : State) (n : Fin 8) : State :=
  if !s.on BAT_CTRL_EN then s
  else
    let x := s.str n
    let i := n.val
    let s := s.set BAT_E_REM_E (match s.sStar n with | some y => min 0xFFFFFFFE (s.energy n y) | none => 0xFFFFFFFF) i
    let s := s.set BAT_STR_HEALTH_SOH (min 0xFFFE (divHalfEven (100 * x.set_.q) (max 1 (s.get BAT_STR_CFG_Q_NOM i)))).toNat i
    match s.strT n with
    | some t => s.setI BAT_STR_HEALTH_TEMP t i
    | none => s.setInvalid BAT_STR_HEALTH_TEMP i

/-- DAYS has reached STALE_DAYS (R292). -/
def State.daysStale (s : State) (n : Fin 8) : Bool := decide (s.get BAT_LEARN_STALE_DAYS ≤ (s.str n).set_.days)

/-- The status fields that follow the learned set. CAP_STALE, once set, stays until an accepted pair, a reseed or an exchange (R291, R292,
R296). -/
def State.showSet (s : State) (n : Fin 8) : State :=
  let x := s.str n
  let i := n.val
  let s := (s.setB BAT_STR_STAT_R_VALID x.set_.rValid i).set BAT_STR_STAT_DAYS (min 255 x.set_.days) i
  let s := s.iff (s.daysStale n) (fun s => s.setB BAT_STR_STAT_CAP_STALE true i)
  s.setB BAT_STR_STAT_RESCALED (decide (0 < x.se)) i

/-- The flags of a learned set that is not the one they were set for: the bias flags clear, and CAP_STALE is as DAYS has it. -/
def State.clearFlags (s : State) (n : Fin 8) : State :=
  let i := n.val
  let s := (s.setB BAT_STR_STAT_CAPACITY_LOW_BIAS false i).setB BAT_STR_STAT_CAPACITY_HIGH_BIAS false i
  (s.setB BAT_STR_STAT_CAP_STALE false i).showSet n

/-- STATE of a string (R308). -/
def State.showState (s : State) (n : Fin 8) : State :=
  let st := if !s.strOn n then 0
    else if s.strEmpty n then 4
    else if s.strClosed n then 3
    else if !s.strPresent n && !s.on BAT_STR_STAT_ID_PENDING n.val then 1
    else 2
  s.set BAT_STR_STAT_STATE st n.val

/-! ### Records (R300) -/

def strBits (x : Str) (low high stale valid : Bool) : Nat :=
  x.set_.code.getD 0 % 8 + (if valid then 8 else 0) + (if x.set_.rValid then 16 else 0) + (if low then 32 else 0) +
    (if high then 64 else 0) + (if stale then 128 else 0)

/-- The 64 bytes of a record, or of the archive slot in the same layout. -/
def State.strRecord (s : State) (n : Fin 8) (x : Str) (valid : Bool) : List Byte :=
  let i := n.val
  let p := x.set_.p1
  let bits := strBits x (s.on BAT_STR_STAT_CAPACITY_LOW_BIAS i) (s.on BAT_STR_STAT_CAPACITY_HIGH_BIAS i)
    (s.on BAT_STR_STAT_CAP_STALE i) valid
  let pct := fun (v : Int) => (clampI 0 10000 (divHalfEven (10000 * v) (2 ^ 40))).toNat
  let body := leBytes 1 i ++ leBytes 1 bits ++ leBytes 2 (min 255 x.set_.days) ++ leBytes 4 s.tick ++ leBytes 8 x.qRem.toNat ++
    leBytes 4 (x.u / 2 ^ 32).toNat ++ leBytes 4 x.set_.q ++ leBytes 4 x.set_.r ++ leBytes 2 (pct x.se) ++
    leBytes 2 (match p with | some q => pct q.s | none => 0xFFFF) ++
    leBytes 8 (match p with | some q => ofSigned 64 q.qcum | none => 0) ++
    leBytes 4 (match p with | some q => (q.u * x.qLearn / one40).toNat | none => 0) ++
    leBytes 4 (match p with | some q => q.pcycle | none => 0) ++
    leBytes 1 (if x.set_.code.isSome then 1 else 0) ++ leBytes 11 0
  body ++ leBytes 4 (crc32c body).toNat

def strRecAt (n : Fin 8) : Nat := 0xFC1000 + 0x40 * n.val
def strArcAt (n : Fin 8) : Nat := 0xFC1200 + 0x40 * n.val

/-- Writes a string's record. -/
def State.strSave (s : State) (n : Fin 8) : State :=
  s.countersWrite (strRecAt n) (toWords (s.strRecord n (s.str n) (s.str n).archive.isSome))

/-- Writes the archive slot. -/
def State.arcSave (s : State) (n : Fin 8) : State :=
  match (s.str n).archive with
  | none => s
  | some l => s.countersWrite (strArcAt n) (toWords (s.strRecord n { s.str n with set_ := l } true))

/-- A learned set from 64 bytes. -/
def readSet (bs : List Byte) : Learned :=
  let num := fun (o k : Nat) => leNat ((bs.drop o).take k)
  let ql := num 0x14 4
  { q := ql
    r := num 0x18 4
    rValid := (num 1 1).testBit 4
    days := num 2 2
    p1 := if num 0x1E 2 = 0xFFFF then none
      else some { s := num 0x1E 2 * one40 / 10000, u := num 0x28 4 * one40 / (max 1 (1000 * ql) : Nat),
                  qcum := toSigned 64 (num 0x20 8), pcycle := num 0x2C 4 }
    code := if (num 0x30 1).testBit 0 then some (num 1 1 % 8) else none }

def recordOk (bs : List Byte) : Bool := decide (leNat ((bs.drop 0x3C).take 4) = (crc32c (bs.take 0x3C)).toNat)

/-! ### Sources, anchors, events (R277, R286 to R290) -/

/-- The clamp charge restarts (R277). -/
def State.clipTake (s : State) (n : Fin 8) : Int × State := ((s.str n).clip, s.setStr n { s.str n with clip := 0 })

/-- A state in 0.01 % (R4). -/
def pct4 (x : Int) : Int := clampI 0 10000 (divHalfEven (10000 * x) (2 ^ 40))

/-- A change of SOC_SRC is recorded (R288): old and new sources, s and s_v in 0.01 % (0xFFFF where s_v is not formed), u and the clamp
charge in µAh. -/
def State.setSrc (s : State) (n : Fin 8) (new : Nat) : State :=
  let old := s.get BAT_STR_STAT_SOC_SRC n.val
  if old = new then s
  else
    let p := (s.set BAT_STR_STAT_SOC_SRC new n.val).clipTake n
    let x := p.2.str n
    p.2.event .socSource (objRef 4 n.val) [old, new, pct4 x.raw, (x.sv.map pct4).getD 0xFFFF, x.u / 2 ^ 32, p.1]

/-- Q_rem and u take the values of a state and its uncertainty, both in 2^-40. -/
def State.anchor (s : State) (n : Fin 8) (x u : Int) : State :=
  let st := s.str n
  s.setStr n { st with qRem := divHalfEven (x * st.qLearn) (2 ^ 40), u := min (u * st.qLearn / 2 ^ 8) (st.qLearn * 2 ^ 32) }

/-! ### Learned sets, reseeds and swaps (R296) -/

/-- The code the string shows in `ID_MODE` 1, where one is determined. -/
def State.codeNow (s : State) (n : Fin 8) : Option Nat :=
  if s.get BAT_STR_CFG_ID_MODE n.val = 1 && s.on BAT_STR_STAT_ID_VALID n.val then some (s.get BAT_STR_STAT_ID_CODE n.val) else none

/-- Step 3: Q_rem and u from the voltage, and COUNTER. Where the voltage or the table is not usable it waits for the first update at which
both are. -/
def State.seedAnchor (s : State) (n : Fin 8) : State :=
  match s.svOf n 0 with
  | some v =>
    let s := s.setStr n { s.str n with sv := some v, seedPending := false }
    (s.anchor n v (s.uv (s.strTbl n) v)).setSrc n 0
  | none => (s.setStr n { s.str n with seedPending := true }).setSrc n 0

/-- Step 2: the present set goes into the archive slot, where there is one (`held`), and a new learned set takes its place. -/
def State.seed (s : State) (n : Fin 8) (held : Bool := true) : State :=
  let x := s.str n
  let i := n.val
  let new : Learned := { q := 100 * s.get BAT_STR_CFG_Q_NOM i, r := 10 * s.get BAT_STR_TRIP_R_NEW i, code := s.codeNow n }
  let s := s.setStr n { x with
    set_ := new, archive := if held then some x.set_ else x.archive, va := 0, vb := 0, dayAt := s.tick
    u := min x.u (new.q * 1000 * 2 ^ 32), qRem := min x.qRem (1000 * new.q), grow := 0, n := 0, tSum := 0 }
  s.clearFlags n

/-- Every swap, reseed and restore is counted, recorded and stored. -/
def State.swapDone (s : State) (n : Fin 8) (kind : Nat) : State :=
  ((((s.inc BAT_CNT_SWAPS).event .stringSwap (objRef 4 n.val) [kind]).showSet n).arcSave n).strSave n

/-- RESEED (R296). -/
def State.reseed (s : State) (n : Fin 8) : State := ((s.seed n).seedAnchor n).swapDone n 1

/-- The exchange with the archive slot, then step 3. -/
def State.exchange (s : State) (n : Fin 8) (kind : Nat) : State :=
  let x := s.str n
  match x.archive with
  | none => s
  | some l =>
    let s := s.setStr n { x with set_ := l, archive := some x.set_, dayAt := s.tick, grow := 0, n := 0, tSum := 0 }
    ((s.clearFlags n).seedAnchor n).swapDone n kind

/-- A swap (R296). It discards a rest point of the tick (R305). -/
def State.swap (s : State) (n : Fin 8) : State :=
  let s := s.setStr n { s.str n with taken := false, below := 0, restDue := false }
  match (s.str n).archive, s.codeNow n with
  | some l, some c => if l.code = some c then s.exchange n 0 else ((s.seed n).seedAnchor n).swapDone n 0
  | _, _ => ((s.seed n).seedAnchor n).swapDone n 0

/-- RESEED (R296). -/
def execBatReseed (r : Requester) (n : Fin 8) (s : State) : Host.Outcome State Fault Refusal :=
  done (s.gate r BAT_CMD_RESEED.addr (fun s => if s.strOn n then s.reseed n else s))

/-- RESTORE (R296). DESIGN CHOICE: with an archive slot that is not valid it changes nothing (log entry 77). -/
def execBatRestore (r : Requester) (n : Fin 8) (s : State) : Host.Outcome State Fault Refusal :=
  done (s.gate r BAT_CMD_RESTORE.addr (fun s => if s.strOn n then s.exchange n 2 else s))

/-! ### The disconnect (R297, R298) -/

/-- A cause opens an owned string, or joins those that hold it open. -/
def State.strOpen (s : State) (n : Fin 8) (cause : Nat) : State :=
  if !s.strsOwned.testBit n.val then s
  else
    let x := s.str n
    let was := s.strClosed n
    let s := s.setStr n { x with
      causes := x.causes ||| 2 ^ cause, openedAt := if was then s.tick else x.openedAt, agreeSince := none
      exhOpen := if was then cause == 3 else x.exhOpen }
    let s := s.iff (was || x.causes == 0) (fun s => s.set BAT_STR_STAT_OPEN_CAUSE cause n.val)
    let s := s.iff (was && cause == 6) (fun s => s.trigger 12)
    let s := (s.setBit BAT_CONN_CLOSED n.val false).setBit BAT_CONN_EMPTY n.val false
    (s.iff was (fun s => s.event .stringOpen (objRef 4 n.val) [cause])).showState n

/-- A cause no longer holds a string. -/
def State.causeGone (s : State) (n : Fin 8) (cause : Nat) : State :=
  let x := s.str n
  let left := x.causes - (x.causes &&& 2 ^ cause)
  let s := s.setStr n { x with causes := left }
  if s.get BAT_STR_STAT_OPEN_CAUSE n.val = cause then s.set BAT_STR_STAT_OPEN_CAUSE ((maskBits 10 left).headD 0) n.val else s

/-- A string closes. -/
def State.strClose (s : State) (n : Fin 8) : State :=
  let s := s.setStr n { s.str n with causes := 0, agreeSince := none, exhOpen := false }
  let s := (s.set BAT_STR_STAT_OPEN_CAUSE 0 n.val).setBit BAT_CONN_CLOSED n.val true
  (s.event .stringClose (objRef 4 n.val)).showState n

/-- The bus is in regulation (R625). -/
def State.inRegulation (s : State) : Bool :=
  let ok := fun (h : Nat) => match s.busV h with
    | some v => decide ((v - s.setpoint).natAbs ≤ 10 * s.get SHR_RAMP_REG_BAND)
    | none => false
  ok 0 && (!s.halfB || ok 1)

/-- Causes that R298 lets go by itself: 2 once present, 3 outside EXHAUSTED, 5 at wake, 7 once withdrawn, 8 once valid, 9 once
enabled. -/
def State.causesHold (s : State) (n : Fin 8) : Bool :=
  let c := (s.str n).causes
  c.testBit 1 || c.testBit 4 || c.testBit 6 || s.bitOn THM_REQ_STR n.val ||
    (s.get BAT_STR_CFG_ID_MODE n.val == 1 && !s.on BAT_STR_STAT_ID_VALID n.val)

/-- The conditions of R298 but for the agreement of voltages. -/
def State.mayClose (s : State) (n : Fin 8) (byCommand : Bool) : Bool :=
  s.strOn n && s.strsOwned.testBit n.val && !s.strClosed n && s.outputsOn && !s.boot.unitOkLow &&
  (byCommand || (s.on BAT_CFG_AUTO_RECON && !(s.str n).wakeRest)) && !s.causesHold n && s.strPresent n && s.power == .normal &&
  (s.powerFrom != .exhausted || (match s.bat.regSince with | some t => decide (t + 1000000 ≤ s.tick) | none => false))

/-- The agreement of R298: with no string CLOSED it holds for the lowest-index open string whose other conditions hold. -/
def State.agrees (s : State) (n : Fin 8) : Bool :=
  if s.closedStrs.isEmpty then (List.finRange 8).all (fun m => decide (n ≤ m) || !s.mayClose m false)
  else match (s.str n).agreeSince with
    | some t => decide (t + 1000000 ≤ s.tick)
    | none => false

/-- Charging is counted from the tick in which no present, configured string that was opened for cause 3 is open any more (R216, R28). -/
def State.chargeCount (s : State) : State :=
  if s.cnv.chgWait && s.confStrs.all (fun n => s.strClosed n || !s.strPresent n || !(s.str n).exhOpen) then
    { s with cnv := { s.cnv with chgWait := false, chgFrom := some (s.tick + 1000000) } }
  else s

/-- BAT_OPEN (R297). -/
def execBatOpen (r : Requester) (n : Fin 8) (s : State) : Host.Outcome State Fault Refusal :=
  done (s.gate r BAT_CMD_OPEN.addr (fun s =>
    if s.overruled r (keyStr n.val) then s
    else (s.noteWrite r (keyStr n.val) 1).iff (s.strOn n) (fun s => (s.strOpen n 1).settle)))

/-- CLOSE (R298): the causes that need it are let go, and the string is to close in this tick; where the other conditions fail it is
refused. -/
def State.batClose (s : State) (n : Fin 8) : State :=
  let t := (s.causeGone n 1).causeGone n 6
  if t.mayClose n true && t.agrees n then t.setStr n { t.str n with closing := some true }
  else s.event .batCloseRefused (objRef 4 n.val)

/-- The closing decisions of a tick, at its end: one that coincides with a cause for opening, or with the entry to another power state,
leaves the string open (R305). -/
def State.closeDue (s : State) : State :=
  let due := (List.finRange 8).filter (fun n => (s.str n).closing.isSome)
  let may := due.filter (fun n => s.mayClose n ((s.str n).closing == some true) && s.agrees n)
  let s := s.each due (fun s n =>
    let s := s.iff ((s.str n).closing == some true && !may.contains n) (fun s => s.event .batCloseRefused (objRef 4 n.val))
    s.setStr n { s.str n with closing := none })
  if may.isEmpty then s else ((s.each may State.strClose).chargeCount).settle

/-- BAT_CLOSE (R298). DESIGN CHOICE: with a BAT_OPEN of the same string and requester before it in the tick it is of one write, whose CLOSE is
refused (R297, log entry 75). -/
def execBatClose (r : Requester) (n : Fin 8) (s : State) : Host.Outcome State Fault Refusal :=
  done (s.gate r BAT_CMD_CLOSE.addr (fun s =>
    if s.wrote.any (fun x => x.at_ == keyStr n.val && x.who == who r && x.w == 1) then s.event .batCloseRefused (objRef 4 n.val)
    else s.ranked r (keyStr n.val) (fun s => s.batClose n)))

/-- STRING_RECONNECT (R298): the string is to close in this tick. -/
def execStringReconnect (n : Fin 8) (s : State) : Host.Outcome State Fault Refusal :=
  if s.mayClose n false && s.agrees n && (s.str n).closing.isNone then done (s.setStr n { s.str n with closing := some false })
  else done s

/-- The current of a closed string is above I_TRIP. -/
def State.overTrip (s : State) (n : Fin 8) : Bool :=
  s.strOn n && s.strClosed n && s.valid AFE_I_NOW_VAL n.val &&
    decide (1000 * s.get BAT_STR_TRIP_I_TRIP n.val < (s.getI AFE_I_NOW_VAL n.val).natAbs)

/-- STRING_TRIP (R297): the current was above I_TRIP in every sample over TRIP_T. -/
def execStringTrip (n : Fin 8) (s : State) : Host.Outcome State Fault Refusal :=
  if s.overTrip n && s.lasted (s.str n).tripSince (250 * s.get BAT_STR_LIM_TRIP_T n.val) then done (s.strOpen n 6).settle
  else done s

/-! ### EMPTY (R286) -/

/-- On entry to EMPTY: the anchor at the s_e of the last update, the event, the source. With OVR the row to NOCOUNTER is the first that
matches (R287, R305); a string without a usable voltage or table is not anchored. -/
def State.strEmptyEntry (s : State) (n : Fin 8) : State :=
  let x := s.str n
  let i := n.val
  let ovr := s.full && s.intOvr n
  let s := if s.noSoc n then s
    else
      let bias := s.get BAT_STR_STAT_SOC_SRC i == 0 && !ovr && decide (2 * x.unc < socOf x.raw x.se)
      let s := s.iff bias (fun s => s.setB BAT_STR_STAT_CAPACITY_HIGH_BIAS true i)
      s.anchor n x.se (s.uv (s.strTbl n) x.se)
  let p := ((s.setBit BAT_CONN_EMPTY i true).showState n).clipTake n
  let s := p.2.event .stringEmpty (objRef 4 i) [x.qRem - (s.str n).qRem, p.1]
  let s := if s.noSoc n then s else s.setSrc n (if ovr then 2 else 0)
  (s.strSave n).showStr n

/-- STR_V is at or below V_SD. -/
def State.voltsLow (s : State) (n : Fin 8) : Bool :=
  match s.strV n with | some v => decide (v ≤ s.getI BAT_STR_VSD_V_SD n.val) | none => false

/-- STR_V is above V_SD + SD_MARGIN. -/
def State.voltsHigh (s : State) (n : Fin 8) : Bool :=
  match s.strV n with
  | some v => decide (s.getI BAT_STR_VSD_V_SD n.val + s.get BAT_STR_LIM_SD_MARGIN n.val < v)
  | none => false

/-- SD_QUAL in ticks. -/
def State.sdQual (s : State) (n : Fin 8) : Nat := 10000 * s.get BAT_STR_LIM_SD_QUAL n.val

/-- A string becomes EMPTY: closed, I_f above 0, STR_V at or below V_SD throughout SD_QUAL. -/
def State.emptyNow (s : State) (n : Fin 8) : Bool :=
  s.strOn n && s.strClosed n && !s.strEmpty n && decide (0 < (s.str n).iF) && s.voltsLow n && s.lasted (s.str n).lowSince (s.sdQual n)

/-- EMPTY_END (R286): STR_V above V_SD + SD_MARGIN throughout SD_QUAL. -/
def execEmptyEnd (n : Fin 8) (s : State) : Host.Outcome State Fault Refusal :=
  if s.strEmpty n && s.voltsHigh n && s.lasted (s.str n).highSince (s.sdQual n) then done ((s.setBit BAT_CONN_EMPTY n.val false).showState n) else done s

/-- Every CLOSED string is EMPTY and at least one is CLOSED (R22, R286). -/
def State.allEmpty (s : State) : Bool := !s.closedStrs.isEmpty && s.closedStrs.all s.strEmpty

/-! ### The update (R277, R278, R287, R299) -/

/-- ΔQ and what it is applied to (R277, R278). -/
def State.count (s : State) (n : Fin 8) : State :=
  let x := s.str n
  let sh : Int := max 1 (s.get AFE_SHUNT_SHUNT n.val)
  let d := 10 * (s.integral n - x.last) + x.rem
  let dq := d.fdiv (36 * sh)
  let q := x.qRem - dq
  let c := clampI 0 x.qLearn q
  let g := s.get BAT_UNC_UNC_GAIN * (dq.natAbs : Int) * 2 ^ 32 / 1000000 + s.get BAT_UNC_UNC_OFS * 2 ^ 32 / (360 * sh)
  let u := min (x.u + g) (x.qLearn * 2 ^ 32)
  let i := x.iF + ((dq * 2 ^ 32 - x.iF) * (2 ^ 64 - expNeg 1 6000)).fdiv (2 ^ 64)
  s.setStr n { x with
    last := s.integral n, rem := d - 36 * sh * dq, qCum := x.qCum + dq, qRem := c, clip := x.clip + (q - c), dq := dq
    iF := i, u := u, grow := x.grow + g, n := x.n + 1, tSum := x.tSum + s.tblT n
    negSince := if i < 0 then some (x.negSince.getD s.tick) else none }

/-- The table of R287 at an update, but for the row of entry to EMPTY. -/
def State.judgeSrc (s : State) (n : Fin 8) : State :=
  let i := n.val
  let x := s.str n
  let src := s.get BAT_STR_STAT_SOC_SRC i
  let b := s.strTbl n
  let high := match s.strV n with
    | some v => decide (s.getI BAT_STR_VSD_V_SD i + s.get BAT_STR_LIM_SD_MARGIN i < v)
    | none => false
  if s.noSoc n then s.setSrc n 3
  else if src = 3 then
    let u := match s.svOf n (x.dq * 2 ^ 32) with
      | some v => s.uv b v * x.qLearn / 2 ^ 8
      | none => 0
    (s.setStr n { x with u := min (max x.u u) (x.qLearn * 2 ^ 32) }).setSrc n 0
  else if !s.full then s
  else if src ≠ 2 ∧ s.intOvr n then s.setSrc n 2
  else if src = 0 ∧ socOf x.raw x.se = 0 ∧ 0 < x.iF ∧ high = true then
    let s := (s.setStr n { x with qRem := divHalfEven (x.se * x.qLearn) (2 ^ 40) }).setB BAT_STR_STAT_CAPACITY_LOW_BIAS true i
    s.setSrc n 1
  else if decide (src = 1) && (match x.negSince with | some t => decide (t + 60000000 ≤ s.tick) | none => false) then
    let s := match x.sv with
      | some v => s.anchor n v (s.uv b v)
      | none => s
    (s.setSrc n 0).strSave n
  else s

/-- One string's update: the counter, the model, s_e, the rule of EMPTY, and the source. DESIGN CHOICE: with `BAT_CTRL.EN` 0 the source is
frozen with the reporting, but for entry to EMPTY (log entry 77). -/
def State.strUpdate (s : State) (n : Fin 8) : State :=
  let s := s.count n
  let long := !s.strClosed n && decide ((s.str n).openedAt + 10000000 ≤ s.tick)
  let s := s.iff s.full (fun s => s.modelStep n)
  let s := s.iff long (fun s => s.setStr n { s.str n with va := 0, vb := 0 })
  let s := s.iff ((s.str n).seedPending && !s.noSoc n) (fun s => (s.seedAnchor n).strSave n)
  let s := s.setStr n { s.str n with sv := s.svOf n ((s.str n).dq * 2 ^ 32) }
  let s := s.iff (s.full && !s.noSoc n) (fun s => s.setStr n { s.str n with se := s.seOf n })
  let s := s.iff (s.emptyNow n) (fun s => s.strEmptyEntry n)
  let s := s.iff (s.on BAT_CTRL_EN) (fun s => s.judgeSrc n)
  (s.showSet n).showStr n

/-- i_n × STR_V / V_bus of one CLOSED string, in 2^-16 mA (R299). -/
def State.strCharge (s : State) (n : Fin 8) : Int :=
  let i := n.val
  match s.strV n, s.busV (s.get BAT_STR_CFG_HALF i), s.strT n with
  | some v, some vb, some t =>
    if s.get BAT_STR_STAT_SOC_SRC i = 3 ∨ !s.full ∨ t < 64 * s.getI BAT_CFG_CHG_TMIN ∨ 64 * s.getI BAT_CFG_CHG_TMAX ≤ t ∨ vb ≤ 0 then 0
    else
      let span : Int := 100 * s.get BAT_CHG_V_TAPER
      let k := clampI 0 span (100 * s.get BAT_CHG_V_CHG - v)
      (s.get BAT_STR_CFG_I_CHG i * s.get BAT_STR_CFG_Q_NOM i * k * v * 2 ^ 16).fdiv (max 1 (span * vb))
  | _, _, _ => 0

/-- The charge-limit request for each running group, at its bound where it is beyond it (R299, R5). -/
def State.chargeReq (s : State) : State :=
  let run := ((List.range 2).filter (fun g => s.groupState g == 2)).length
  let sum := (s.closedStrs.map s.strCharge).sum
  s.set BAT_CHG_REQ_LIM (min (2 ^ 32 - 1) (if run = 0 then 0 else (max 0 sum).toNat / 2 ^ 16 / run))

/-- BATTERY_UPDATE (R277): at every tick that is a multiple of 10,000. -/
def execBatteryUpdate (s : State) : Host.Outcome State Fault Refusal :=
  if s.tick % 10000 ≠ 0 ∨ s.boot.g.isNone then done s
  else
    let s := s.tblTake
    done ((s.each (s.confStrs.filter (fun n => (s.str n).live)) State.strUpdate).chargeReq).settle

/-! ### Rest points and learning (R289 to R292) -/

/-- The 2 s means of a tick that is a multiple of 2,000,000 (R289, R293), once in the tick. -/
def State.means2s (s : State) : State :=
  if s.tick % 2000000 ≠ 0 ∨ s.tick = 0 ∨ s.boot.g.isNone ∨ s.bat.meanAt = s.tick then s
  else
    let abs10 := fun (s : State) (n : Fin 8) => 10 * (s.integral n - (s.str n).last2s).natAbs
    let level := fun (s : State) (n : Fin 8) (c : Nat) => 2 * s.get AFE_SHUNT_SHUNT n.val * c * s.get BAT_STR_CFG_Q_NOM n.val
    let low := s.closedStrs.any (fun n => decide (abs10 s n < level s n (s.get BAT_PERT_PERT_HOLD)))
    let s := { s with bat := { s.bat with meanAt := s.tick, paused := low || s.bat.paused, lowAt := if low then s.tick else s.bat.lowAt } }
    s.each s.confStrs (fun s n =>
      let rest := decide (abs10 s n < level s n (s.get BAT_REST_I_REST))
      let s := s.iff (!rest) (fun s => s.setBit BAT_CONN_REST n.val false)
      let x := s.str n
      s.setStr n { x with last2s := s.integral n, below := if rest then x.below + 1 else 0, taken := rest && x.taken })

/-- MEAN_2S (R289, R293). -/
def execMean2s (s : State) : Host.Outcome State Fault Refusal := done s.means2s

/-- PERT_RESUME (R293): every CLOSED string at or above PERT_HOLD for 60,000,000 ticks. -/
def execPertResume (s : State) : Host.Outcome State Fault Refusal :=
  if s.bat.paused ∧ s.bat.lowAt + 60000000 ≤ s.tick then done { s with bat := { s.bat with paused := false } } else done s

/-- Two means differ by less than DVDT µV. -/
def State.steadyMeans (s : State) (l : List (Int × Nat)) : Bool :=
  match l with
  | a :: b :: _ => decide (100 * (a.1 * b.2 - b.1 * a.2).natAbs < s.get BAT_REST_DVDT * a.2 * b.2)
  | _ => false

/-- The rest point of the last 1-minute mean. -/
def State.restPoint (s : State) (n : Fin 8) (m : Int × Nat) : RestPoint :=
  let b := s.strTbl n
  let v := s.ocvInv b (s.tblT n) ((m.1 * 2 ^ 24).fdiv (max 1 m.2))
  RestPoint.mk v (s.uv b v) (s.str n).qCum (s.get TB_PCYCLE_COUNT)

/-- This unit learns: `BAT_CTRL.EN` 0 freezes learning (R306), and the other unit of a pair takes what the preferred primary learns
(R302). -/
def State.learns (s : State) : Bool := s.on BAT_CTRL_EN && s.preferred

/-- A learning pair (R291): what it measures in µAh and e in 2^-40, where all holds; the span is judged apart. -/
def State.pairOk (s : State) (n : Fin 8) (p q : RestPoint) : Option (Int × Int) :=
  let x := s.str n
  let i := n.val
  let ds : Int := (q.s - p.s).natAbs
  let dq : Int := (q.qcum - p.qcum).natAbs
  let qn : Int := 100000 * s.get BAT_STR_CFG_Q_NOM i
  let t := if x.n = 0 then s.tblT n else x.tSum.fdiv x.n
  let rate := (dq * 2 ^ 32 * 3600).fdiv (max 1 (x.n * s.get BAT_STR_CFG_Q_NOM i : Nat))
  let f := max 1 (s.capFactor (s.strTbl n) t rate)
  if ds = 0 ∨ dq = 0 then none
  else
    let e := ((p.u + q.u) * one40).fdiv ds + (x.grow * 2 ^ 8).fdiv dq
    let m := ((dq * one40).fdiv ds * one40).fdiv f
    if s.on BAT_CFG_LEARN_EN && s.get BAT_STR_STAT_SOC_SRC i != 2 && p.pcycle == q.pcycle &&
        decide (1000 * e ≤ s.get BAT_LEARN_LEARN_UNC * one40 ∧ qn ≤ 2 * m ∧ 5 * m ≤ 6 * qn) then some (m, e)
    else none

/-- The span of R291. -/
def State.spanOk (s : State) (p q : RestPoint) : Bool :=
  decide (s.get BAT_LEARN_LEARN_SPAN * one40 ≤ 100 * ((q.s - p.s).natAbs : Int))

/-- An accepted pair. Its event holds Q_meas in mAh and e in 0.01 % (R4). -/
def State.learnPair (s : State) (n : Fin 8) (m e : Int) : State :=
  let x := s.str n
  let i := n.val
  let q := divHalfEven (256 * x.qLearn + s.get BAT_LEARN_LEARN_GAIN * (m - x.qLearn)) 256000
  let s := s.setStr n { x with set_ := { x.set_ with q := q.toNat, days := 0 }, dayAt := s.tick }
  ((s.inc BAT_CNT_LEARNS).event .learnPair (objRef 4 i) [divHalfEven m 1000, pct4 e]).clearFlags n

/-- A rest point learns, then anchors (R290, R291, R305). `wake`: it anchors and never pairs. -/
def State.takeRest (s : State) (n : Fin 8) (m : Int × Nat) (wake : Bool) : State :=
  let q := s.restPoint n m
  let keep := fun (s : State) => s.setStr n { s.str n with set_ := { (s.str n).set_ with p1 := some q }, grow := 0, n := 0, tSum := 0 }
  let s := if wake || !s.learns then s
    else match (s.str n).set_.p1 with
      | none => keep s
      | some p => match s.pairOk n p q, s.spanOk p q with
        | some r, true => keep (s.learnPair n r.1 r.2)
        | some _, false => s
        | none, _ => keep s
  let x := s.str n
  let src := s.get BAT_STR_STAT_SOC_SRC n.val
  let s := if q.u * x.qLearn / 2 ^ 8 < x.u ∨ src = 1 ∨ src = 2 then
      let p := (s.anchor n q.s q.u).clipTake n
      let s := p.2.event .anchor (objRef 4 n.val) [x.qRem, (p.2.str n).qRem, p.1]
      if src = 1 ∨ (src = 2 ∧ !s.intOvr n) then s.setSrc n 0 else s
    else s
  s.strSave n

/-- A rest point qualifies (R289). -/
def State.restOk (s : State) (n : Fin 8) : Bool :=
  let x := s.str n
  s.full && !x.taken && !s.noSoc n && decide (30 * s.get BAT_REST_REST_MIN ≤ x.below) && s.steadyMeans x.means

/-- The sine and cosine of the perturbation phase at a time on the pair's counter (R293, R294). -/
def State.pertPhase (s : State) (t : Int) : Int × Int :=
  let p := s.pertPeriod
  let k := (t % (p : Int)).toNat
  (sinTurn k p, sinTurn ((k + p / 4) % p) p)

/-- A conversion of STR_V not yet taken enters the sums of its minute and, where the string is CLOSED, of its window (R289, R294). -/
def State.strSample (s : State) (n : Fin 8) : State :=
  let m := s.afe.latest.get (Fin.ofNat 64 (24 + n.val))
  let x := s.str n
  match s.strV n with
  | none => s
  | some v =>
    if x.vTick = some m.tick then s
    else
      let w := s.pertPhase (s.pairTick - ((s.tick - m.tick : Nat) : Int))
      let c := x.corr
      let c := if s.strClosed n && s.pertState == 1 then
          { c with vSin := c.vSin + v * w.1, vCos := c.vCos + v * w.2, vCnt := c.vCnt + 1 }
        else c
      s.setStr n { x with vSum := x.vSum + v, vCnt := x.vCnt + 1, vTick := some m.tick, corr := c }

/-- In a tick that is a multiple of 250 the new sample of I_NOW of a CLOSED string enters its window (R129, R294). -/
def State.currentSample (s : State) (n : Fin 8) : State :=
  if s.tick % 250 = 0 ∧ s.strClosed n ∧ s.pertState = 1 ∧ s.valid AFE_I_NOW_VAL n.val then
    let w := s.pertPhase s.pairTick
    let v := s.getI AFE_I_NOW_VAL n.val
    let x := s.str n
    let c := x.corr
    s.setStr n { x with corr := { c with iSin := c.iSin + v * w.1, iCos := c.iCos + v * w.2, iCnt := c.iCnt + 1 } }
  else s

/-- The mean of the minute that ends, where there was a sample. -/
def State.minuteMean (s : State) (n : Fin 8) : State :=
  let x := s.str n
  if x.vCnt = 0 then s else s.setStr n { x with means := ((x.vSum, x.vCnt) :: x.means).take 2, vSum := 0, vCnt := 0 }

/-- MINUTE_MEAN (R289): the means of STR_V over the last minute; a rest point that qualifies is taken at the end of the tick, where no
swap coincides with it (R305). -/
def execMinuteMean (_ : Unit) (s : State) : Host.Outcome State Fault Refusal :=
  if s.tick % 60000000 ≠ 0 ∨ s.tick = 0 ∨ s.boot.g.isNone then done s
  else
    let s := s.means2s.each s.confStrs State.strSample
    let new := s.confStrs.filter (fun n => (s.str n).vCnt != 0)
    let s := s.each new State.minuteMean
    done (s.each (new.filter s.restOk) (fun s n =>
      (s.setStr n { s.str n with taken := true, restDue := true }).setBit BAT_CONN_REST n.val true))

/-- The rest points of a tick, at its end (R289, R305). -/
def State.restPoints (s : State) : State :=
  s.each (s.confStrs.filter (fun n => (s.str n).restDue)) (fun s n =>
    (s.setStr n { s.str n with restDue := false }).takeRest n ((s.str n).means.headD (0, 1)) false)

/-- WAKE_REST_GIVEUP (R304): a wake rest point is taken once two means meet DVDT, or is given up after 3 minutes. -/
def execWakeRestGiveup (s : State) : Host.Outcome State Fault Refusal :=
  done (s.each ((List.finRange 8).filter (fun n => (s.str n).wakeRest)) (fun s n =>
    let x := s.str n
    if s.strPresent n && !s.noSoc n && s.steadyMeans x.means then
      ((s.takeRest n (x.means.headD (0, 1)) true)).setStr n { (s.takeRest n (x.means.headD (0, 1)) true).str n with wakeRest := false }
    else if s.boot.g.getD 0 + 180000000 ≤ s.tick then s.setStr n { x with wakeRest := false }
    else s))

/-- DAYS_INCREMENT (R292). -/
def execDaysIncrement (n : Fin 8) (s : State) : Host.Outcome State Fault Refusal :=
  let x := s.str n
  if s.strOn n ∧ x.live = true ∧ x.dayAt + 86400000000 ≤ s.tick then
    done ((s.setStr n { x with set_ := { x.set_ with days := min 255 (x.set_.days + 1) }, dayAt := x.dayAt + 86400000000 }).showSet n)
  else done s

/-- BAT_RECORD_WRITE (R300): every 60,000,000 ticks. -/
def execBatRecordWrite (s : State) : Host.Outcome State Fault Refusal :=
  if s.tick % 60000000 ≠ 0 ∨ s.tick = 0 ∨ s.boot.g.isNone then done s
  else done (s.each (s.confStrs.filter (fun n => (s.str n).live)) State.strSave)

/-! ### Impedance tracking (R294) -/

/-- R_meas = −Re(V̂ / Î) of a window in µΩ, as numerator and denominator (R294). -/
def Corr.ratio (c : Corr) : Int × Int :=
  (-(100000 * c.iCnt * (c.vSin * c.iSin + c.vCos * c.iCos)), c.vCnt * (c.iSin * c.iSin + c.iCos * c.iCos))

/-- The conditions of R294 on Î, whose amplitude is twice the mean of the products, and on R_meas. -/
def State.demodOk (s : State) (n : Fin 8) : Bool :=
  let c := (s.str n).corr
  let r := c.ratio
  let rn : Int := 10 * s.get BAT_STR_TRIP_R_NEW n.val
  match s.strV n, s.busV (s.get BAT_STR_CFG_HALF n.val) with
  | some sv, some vb =>
    decide ((s.getI BAT_PERT_AMP_A * vb * c.iCnt * 2 ^ 64) ^ 2 ≤
        4 * (c.iSin * c.iSin + c.iCos * c.iCos) * (4 * sv * s.closedStrs.length) ^ 2 ∧
      0 < r.2 ∧ rn * r.2 ≤ 4 * r.1 ∧ r.1 ≤ 8 * rn * r.2)
  | _, _ => false

/-- One string's window. -/
def State.demod (s : State) (n : Fin 8) : State :=
  let x := s.str n
  if s.bat.winBad || s.bat.winStr.testBit n.val || !s.demodOk n then s.inc BAT_PERT_STAT_REJECTS
  else
    let s := s.inc BAT_PERT_STAT_WINDOWS
    if !s.preferred then s
    else
      let p := x.corr.ratio
      let r := if x.set_.rValid then
          divHalfEven (256 * x.set_.r * p.2 + s.get BAT_PERT_IMP_GAIN * (p.1 - x.set_.r * p.2)) (256 * p.2.toNat)
        else divHalfEven p.1 p.2.toNat
      (s.setStr n { x with set_ := { x.set_ with r := r.toNat, rValid := true } }).showSet n

/-- DEMOD_WINDOW_END (R294): the 60 s window that ends, of each string CLOSED in it. With `BAT_CTRL.EN` 0 impedance tracking is frozen
(R306). -/
def execDemodWindowEnd (_ : Unit) (s : State) : Host.Outcome State Fault Refusal :=
  if s.pairTick % 60000000 ≠ 0 ∨ s.boot.g.isNone then done s
  else
    let s := s.each s.confStrs State.strSample
    let l := (List.finRange 8).filter (fun n => s.strClosed n || (s.str n).corr.iCnt != 0)
    let s := s.iff (s.on BAT_CTRL_EN) (fun s => s.each l State.demod)
    let s := s.each (List.finRange 8) (fun s n => s.setStr n { s.str n with corr := {} })
    done { s with bat := { s.bat with winBad := false, winStr := 0 } }

/-! ### Presence and identity (R295, R296) -/

/-- What a conversion of STR_ID finds: 0 absent, 1 present without a code, 2 + code. -/
def identify (mode code : Nat) : Nat :=
  if 12000 * 16384 ≤ 12500 * code then 0
  else if mode = 2 then 1
  else
    match [1000, 2200, 3300, 4700, 5600, 6800, 8200, 10000].zipIdx.find? (fun p =>
      decide (96 * p.1 * 16384 ≤ 100 * 12500 * code ∧ 100 * 12500 * code ≤ 104 * p.1 * 16384)) with
    | some p => 2 + p.2
    | none => 1

/-- Presence and code follow what 5 conversions agreed on. -/
def State.presence (s : State) (n : Fin 8) : State :=
  let i := n.val
  let x := s.str n
  let mode := s.get BAT_STR_CFG_ID_MODE i
  let pend := s.on BAT_STR_STAT_ID_PENDING i
  let wasHere := s.strPresent n
  let found := if mode = 0 then 1 else x.idFound
  let code := if 2 ≤ found then some (found - 2) else none
  let s := s.setB BAT_STR_STAT_ID_PENDING false i
  if found = 0 then
    let s := (s.setBit BAT_CONN_PRESENT i false).setB BAT_STR_STAT_ID_VALID false i
    let s := s.setStr n { x with absentAt := some (x.absentAt.getD s.tick) }
    (s.strOpen n 2).showState n
  else
    let gone := match x.absentAt with
      | some t => decide (t + 10000000 ≤ s.tick)
      | none => false
    let s := (s.setBit BAT_CONN_PRESENT i true).setB BAT_STR_STAT_ID_VALID code.isSome i
    let s := match code with
      | some c => s.set BAT_STR_STAT_ID_CODE c i
      | none => s
    let s := s.setStr n { s.str n with absentAt := none }
    let swapped := match mode, code, x.set_.code with
      | 1, some c, some k => c != k || gone
      | 2, _, _ => !wasHere && !pend && x.absentAt.isSome
      | _, _, _ => false
    let s := match code, x.set_.code with
      | some c, none => s.setStr n { s.str n with set_ := { (s.str n).set_ with code := some c } }
      | _, _ => s
    let s := s.iff swapped (fun s => (s.strOpen n 2).swap n)
    let s := if mode = 1 ∧ code.isNone then s.strOpen n 8 else s
    s.showState n

/-- Five conversions agree on something new, or `ID_MODE` 0 makes the string present (R295). -/
def State.presenceDue (s : State) (n : Fin 8) : Bool :=
  let x := s.str n
  let now := if !s.strPresent n then 0 else if s.on BAT_STR_STAT_ID_VALID n.val then 2 + s.get BAT_STR_STAT_ID_CODE n.val else 1
  s.strOn n && (if s.get BAT_STR_CFG_ID_MODE n.val == 0 then s.on BAT_STR_STAT_ID_PENDING n.val || !s.strPresent n
    else decide (5 ≤ x.idRun) && (s.on BAT_STR_STAT_ID_PENDING n.val || x.idFound != now))

/-- PRESENCE_CHANGE (R295). -/
def execPresenceChange (n : Fin 8) (s : State) : Host.Outcome State Fault Refusal :=
  if s.presenceDue n then done (s.presence n).settle else done s

/-- The bias that the identity resistor is read under is applied (R130, R295: `ID_MODE` 1 reads the resistor under 100 µA). DEDUCED: without
it a conversion says nothing of the resistor and is not judged (log entry 70). -/
def State.idBias (s : State) (n : Fin 8) : Bool := s.get BAT_STR_CFG_ID_MODE n.val != 1 || s.on AFE_MON_CTRL_ID_BIAS_EN

/-- STR_ID_CONVERSION (R295): the latest conversion of STR_ID is judged once; the fifth that agrees changes presence or code. -/
def execStrIdConversion (n : Fin 8) (s : State) : Host.Outcome State Fault Refusal :=
  let m := s.afe.latest.get (Fin.ofNat 64 (48 + n.val))
  let x := s.str n
  if s.strOn n && m.valid && s.get BAT_STR_CFG_ID_MODE n.val != 0 && x.idTick != some m.tick && s.idBias n then
    let f := identify (s.get BAT_STR_CFG_ID_MODE n.val) m.code
    let s := s.setStr n { x with idFound := f, idRun := if x.idFound = f then min 5 (x.idRun + 1) else 1, idTick := some m.tick }
    if s.presenceDue n then done (s.presence n).settle else done s
  else done s

/-- Presence and code become undetermined: at tick g, when `ID_MODE` changes, when `STR_EN` is set (R295). -/
def State.idRestart (s : State) (n : Fin 8) : State :=
  let i := n.val
  let s := s.setStr n { s.str n with idRun := 0, idFound := 0, absentAt := none }
  let s := ((s.setB BAT_STR_STAT_ID_PENDING true i).setBit BAT_CONN_PRESENT i false).setB BAT_STR_STAT_ID_VALID false i
  if s.get BAT_STR_CFG_ID_MODE i = 0 then (s.presence n) else s.showState n

/-! ### Start and stop of a string (R297, R301) -/

/-- A string is restored from its record, u widened by UNC_BOOT; a bad record reseeds it, and then there is no present set to go into the
archive slot, which is kept (R301, log entry 77). -/
def State.strRestore (s : State) (n : Fin 8) : State :=
  let i := n.val
  let bs := s.bytes (nvmBase + strRecAt n) 64
  let ar := s.bytes (nvmBase + strArcAt n) 64
  let good := recordOk bs && bs.any (fun b => b != 0)
  let arch := if recordOk ar && ar.any (fun b => b != 0) && (leNat ((ar.drop 1).take 1)).testBit 3 then some (readSet ar) else none
  let x : Str := {
    live := true, archive := arch, last := s.integral n, last2s := s.integral n, dayAt := s.tick, openedAt := s.tick
    causes := (s.str n).causes, wakeRest := (s.str n).wakeRest }
  if good then
    let num := fun (o k : Nat) => leNat ((bs.drop o).take k)
    let l := readSet bs
    let ql : Int := 1000 * l.q
    let x := { x with
      set_ := l, qRem := num 8 8, se := num 0x1C 2 * one40 / 10000
      u := min ((num 0x10 4 * 10000 + s.get BAT_UNC2_UNC_BOOT * ql) * 2 ^ 32 / 10000) (ql * 2 ^ 32) }
    let s := (s.setStr n x).set BAT_STR_STAT_SOC_SRC 0 i
    let s := (s.setB BAT_STR_STAT_CAPACITY_LOW_BIAS ((num 1 1).testBit 5) i).setB BAT_STR_STAT_CAPACITY_HIGH_BIAS ((num 1 1).testBit 6) i
    let s := s.setB BAT_STR_STAT_CAP_STALE ((num 1 1).testBit 7) i
    (s.showSet n).idRestart n
  else
    let s := (s.setStr n { x with u := 100000 * s.get BAT_STR_CFG_Q_NOM i * 2 ^ 32 }).set BAT_STR_STAT_SOC_SRC 0 i
    (((s.idRestart n).seed n false).seedAnchor n).swapDone n 0

/-- `STR_EN` written 0 (R297). -/
def State.strStop (s : State) (n : Fin 8) : State :=
  let s := (s.strSave n).strOpen n 9
  let s := (s.setStr n { s.str n with live := false }).set BAT_STR_STAT_OPEN_CAUSE 9 n.val
  ((s.setBit BAT_CONN_PRESENT n.val false).setBit BAT_CONN_REST n.val false).showState n

/-- The strings follow a change of `STR_EN` from `old` (R297, R301). -/
def State.strEnChange (s : State) (old : Nat) : State :=
  s.each (List.finRange 8) (fun s n =>
    if old.testBit n.val && !s.strOn n then s.strStop n
    else if !old.testBit n.val && s.strOn n && s.boot.g.isSome then s.strRestore n
    else s)

/-- Return from FULL to GREENWARE (R301). -/
def State.batGreenware (s : State) : State :=
  s.each (s.confStrs.filter (fun n => s.get BAT_STR_STAT_SOC_SRC n.val == 1 || s.get BAT_STR_STAT_SOC_SRC n.val == 2)) (fun s n => s.setSrc n 0)

/-! ### What each tick brings -/

/-- STR_V within 0.5 V of the lowest-index CLOSED string. -/
def State.near (s : State) (n : Fin 8) : Bool :=
  match s.closedStrs with
  | [] => false
  | m :: _ => match s.strV n, s.strV m with
    | some a, some b => decide ((a - b).natAbs ≤ 5000)
    | _, _ => false

/-- The battery block at the end of a tick: rest points and closing decisions (R305), samples (R289, R294), regulation and agreement (R298, R625), the amplitude at the start of a period (R293), and what breaks a
demodulation window (R294). -/
def State.batTick (s : State) : State :=
  let s := s.restPoints.closeDue
  let s := s.each s.confStrs (fun s n => (s.strSample n).currentSample n)
  let s := s.each (s.confStrs.filter (fun n => !s.strClosed n)) (fun s n =>
    s.setStr n { s.str n with agreeSince := sinceIf (s.near n) (s.str n).agreeSince s.tick })
  let s := s.each s.confStrs (fun s n =>
    let x := s.str n
    s.setStr n { x with
      tripSince := sinceIf (s.overTrip n) x.tripSince s.tick
      lowSince := sinceIf (s.voltsLow n) x.lowSince s.tick
      highSince := sinceIf (s.voltsHigh n) x.highSince s.tick })
  let a := if s.pairTick % (s.pertPeriod : Int) = 0 then
      (divHalfEven (s.get BAT_PERT_PERT_PCT * (s.closedStrs.map (fun n => s.get BAT_STR_CFG_Q_NOM n.val)).sum) 10).toNat
    else s.get BAT_PERT_AMP_A
  let broken := decide (s.pertState ≠ 1) || s.pertClipped || (a != s.get BAT_PERT_AMP_A && s.pairTick % 60000000 != 0)
  let none_ := s.closedStrs.isEmpty && (s.power == .holdup || s.power == .ret)
  let s := s.set BAT_PERT_AMP_A a
  { s with bat := { s.bat with
      winBad := s.bat.winBad || broken
      winStr := s.bat.winStr ||| (255 - s.get BAT_CONN_CLOSED)
      regSince := sinceIf s.inRegulation s.bat.regSince s.tick
      acClear := sinceIf (!s.acFail) s.bat.acClear s.tick
      noneClosed := sinceIf none_ s.bat.noneClosed s.tick } }

end Sys2Proof.Machine
end

