-- ==== Sys2Proof/Machine/Seq.lean ====
section
/-! DEFINITION. Rails (file 13): the steps up and down, the sequence state, supervision, reset outputs, SHELF_GOOD and the cascade. -/

namespace Sys2Proof.Machine

def State.rail (s : State) (n : Fin 24) : Rail := s.seq.rails.get n

def State.setRail (s : State) (n : Fin 24) (x : Rail) : State := { s with seq := { s.seq with rails := s.seq.rails.set n x } }

/-- 0 OFF, 1 UP, 2 RUN, 3 DOWN, 4 RETRY_WAIT, 5 FAULT (R359). -/
def State.seqState (s : State) : Nat := s.get SEQ_STATE_STATE
def State.seqStep (s : State) : Nat := s.get SEQ_STATE_STEP

def State.railOn (s : State) (n : Fin 24) : Bool := s.on SEQ_RAIL_CFG_EN n.val
def State.railPg (s : State) (n : Fin 24) : Bool := s.bitOn SEQ_PG_IN_MASK n.val
def State.railQual (s : State) (n : Fin 24) : Bool := s.bitOn SEQ_QUAL_MASK n.val
def State.railEn (s : State) (n : Fin 24) : Bool := s.bitOn SEQ_EN_OUT_MASK n.val

/-- Rails and reset outputs the unit owns (R16). -/
def State.railsOwned (s : State) : Nat :=
  if s.unitRole = 3 then 0 else if s.solo then 0xFFFFFF else s.get HLK_EFF_RAIL_OWN
def State.resetsOwned (s : State) : Nat :=
  if s.unitRole = 3 then 0 else if s.solo then 0xFF else s.get HLK_EFF_EF_RST

def State.ownRail (s : State) (n : Fin 24) : Bool := s.railsOwned.testBit n.val

/-- The sequenced rails, and those of a step. -/
def State.seqRails (s : State) : List (Fin 24) := (List.finRange 24).filter s.railOn
def State.stepRails (s : State) (k : Nat) : List (Fin 24) := s.seqRails.filter (fun n => s.get SEQ_RAIL_CFG_STEP n.val == k)

/-- This unit runs the state machine (R355). -/
def State.seqPrimary (s : State) : Bool := s.preferred

/-- A rail counts as qualified: own by its own state, the partner's as reported, a lost partner's by PG (R355). -/
def State.countsQual (s : State) (n : Fin 24) : Bool :=
  if s.ownRail n then s.railQual n
  else if s.partnerAlive then s.seq.partQual.testBit n.val
  else s.railPg n || !(s.rail n).pgSeen

/-- A rail counts as off or DN_STUCK. -/
def State.countsOff (s : State) (n : Fin 24) : Bool :=
  if s.ownRail n then (s.rail n).off || (s.rail n).stuck
  else if s.partnerAlive then s.seq.partOff.testBit n.val || s.seq.partStuck.testBit n.val
  else !s.railPg n || !(s.rail n).pgSeen

/-- A rail voltage in 100 µV from a code of RMON (R335). -/
def State.railVolts (s : State) (n : Fin 24) (code : Nat) : Int := divHalfEven (12500 * code * s.get RMN_RAIL_CFG_DIV n.val) (16384 * 16)

/-- Demand (R341). -/
def State.seqDemanded (s : State) : Bool :=
  s.on SEQ_CTRL_EN && s.seq.run && s.outputsOn &&
  (s.power == .normal || s.power == .prearmed || s.power == .holdup || s.power == .ret) &&
  (!s.on SEQ_CFG_UP_EN || s.on SEQ_CASC_UP_IN) && s.seqState != 5

/-- The rails are down: no shut-down remains to be made. -/
def State.railsDown (s : State) : Bool := s.seqState == 0 || s.seqState == 5

/-- A test is in force (R347). -/
def State.testing (s : State) : Bool := s.seq.testEnd.isSome

/-- Levels of a rail are judged (R343). -/
def State.levelsJudged (s : State) (n : Fin 24) : Bool :=
  s.seqState == 2 && s.on RMN_CTRL_EN && s.railOn n && s.on SEQ_RAIL_CFG_MON_EN n.val && (s.railQual n || (s.rail n).timer.isSome) && !s.testing

/-- A voltage lies outside the band of two levels in 0.1 % of NOM, narrowed at each end by `h`. -/
def State.outside (s : State) (n : Fin 24) (uv ov h : Nat) (v : Int) : Bool :=
  let nom : Int := 10 * s.get RMN_RAIL_CFG_NOM n.val
  decide (1000 * v < nom * (1000 - uv + h) ∨ nom * (1000 + ov - h) < 1000 * v)

def State.outFault (s : State) (n : Fin 24) (narrow : Bool) (v : Int) : Bool :=
  s.outside n (s.get RMN_RAIL_LVL_UV_FLT n.val) (s.get RMN_RAIL_LVL_OV_FLT n.val) (if narrow then s.get RMN_RAIL_CFG_HYST n.val else 0) v

def State.outWarn (s : State) (n : Fin 24) (narrow : Bool) (v : Int) : Bool :=
  s.outside n (s.get RMN_RAIL_LVL_UV_WARN n.val) (s.get RMN_RAIL_LVL_OV_WARN n.val) (if narrow then s.get RMN_RAIL_CFG_HYST n.val else 0) v

def State.inWarn (s : State) (n : Fin 24) : Bool := s.on RMN_RAIL_MEAS_WARN_UV n.val || s.on RMN_RAIL_MEAS_WARN_OV n.val

/-! ### First failures (R342) -/

/-- A record of the region and its age: power-cycle count and operating time; none where the slot was never written. -/
def State.ffAge (s : State) (k : Nat) : Option Nat :=
  let bs := s.bytes (nvmBase + 0xFC0800 + 16 * k) 16
  if leNat ((bs.drop 1).take 1) = 0 then none else some (leNat ((bs.drop 4).take 4) * 2 ^ 48 + leNat ((bs.drop 8).take 6))

/-- The slot the next record takes: one never written, else the one of the oldest record (R342). -/
def State.ffSlot (s : State) : Nat :=
  let ages := (List.range 8).map (fun k => (((s.ffAge k).map (· + 1)).getD 0, k))
  ((ages.filter (fun p => ages.all (fun q => decide (p.1 ≤ q.1)))).map Prod.snd).headD 0

/-- The newest record in the region is mirrored at tick g (R342, R356); its tick is not part of it. -/
def State.ffLoad (s : State) : State :=
  let ages := (List.range 8).map (fun k => (((s.ffAge k).map (· + 1)).getD 0, k))
  match (ages.filter (fun p => decide (0 < p.1) && ages.all (fun q => decide (q.1 ≤ p.1)))).map Prod.snd with
  | [] => s
  | k :: _ =>
    let bs := s.bytes (nvmBase + 0xFC0800 + 16 * k) 16
    let num := fun (o n : Nat) => leNat ((bs.drop o).take n)
    (((s.set SEQ_FF_RAIL (num 0 1)).set SEQ_FF_KIND (num 1 1)).set SEQ_FF_RETRIES (num 2 1)).set SEQ_FF_PG (num 3 1 % 2)
      |>.set SEQ_FF_V (num 14 2)

/-- A first-fault record: into its slot of the region, and the mirror registers. -/
def State.firstFault (s : State) (rail kind : Nat) : State :=
  let v := match (s.rail (Fin.ofNat 24 rail)).v with
    | some v => if rail < 24 ∧ s.on SEQ_RAIL_CFG_MON_EN rail then (clampI 0 0xFFFE (divHalfEven v 10)).toNat else 0xFFFF
    | none => 0xFFFF
  let pg := rail < 24 && s.railPg (Fin.ofNat 24 rail)
  let r := s.get SEQ_STATE_RETRIES
  let bs := leBytes 1 rail ++ leBytes 1 kind ++ leBytes 1 r ++ leBytes 1 (if pg then 1 else 0) ++ leBytes 4 (s.get TB_PCYCLE_COUNT) ++
    leBytes 6 (s.opTimeAt s.tick) ++ leBytes 2 v
  let s := s.countersWrite (0xFC0800 + 16 * s.ffSlot) (toWords bs)
  let s := ((s.set SEQ_FF_RAIL rail).set SEQ_FF_KIND kind).set SEQ_FF_RETRIES r
  ((s.setB SEQ_FF_PG pg).set SEQ_FF_V v).stamp SEQ_FF_TICK_TICK

/-! ### Reset outputs and SHELF_GOOD (R348, R349) -/

/-- The condition of a reset output. -/
def State.rstCond (s : State) (k : Nat) : Bool :=
  let m := s.get SEQ_RST_MASK_MASK k
  s.resetsOwned.testBit k && s.outputsOn && (maskBits 24 m).all (fun n => s.countsQual (Fin.ofNat 24 n)) &&
  (!s.on SEQ_RST_MASK_SEQ_DONE k || s.seqState == 2) &&
  (match s.wdg.pulse with | some p => p.2 != k | none => true)

/-- The reset outputs follow their conditions. -/
def State.rstEval (s : State) : State :=
  s.each (List.finRange 8) (fun s k =>
    if s.rstCond k.val then { s with seq := { s.seq with rst := s.seq.rst.set k (some ((s.seq.rst.get k).getD s.tick)) } }
    else { (s.setB SEQ_RST_TIME_ASSERTED true k.val) with seq := { s.seq with rst := s.seq.rst.set k none } })

/-- The sequenced rails that count for SHELF_GOOD. -/
def State.sgRails (s : State) : List (Fin 24) := s.seqRails.filter (fun n => s.bitOn SEQ_SG_CFG_MASK n.val)

/-- SHELF_GOOD is deasserted (R349); `lost`: a fault timer of one of its rails has expired. -/
def State.sgEval (s : State) (lost : Bool) : State :=
  if s.on RMN_SG_SG && (s.seqState != 2 || !s.on RMN_CFG_SG_EN || lost) then
    ((s.setB RMN_SG_SG false).iff (s.seqState == 2) (fun s => s.inc RMN_SG_DROPS)).event .shelfGood 0 [0]
  else s

/-- SHELF_GOOD is asserted at the end of a tick in which its conditions hold and no fault timer of its rails runs or starts (R349, R357). -/
def State.sgAssert (s : State) : State :=
  if !s.on RMN_SG_SG && s.on RMN_CFG_SG_EN && s.seqState == 2 && s.sgRails.all (fun n => s.countsQual n && (s.rail n).timer.isNone) then
    (s.setB RMN_SG_SG true).event .shelfGood 0 [1]
  else s

/-- A fault timer runs: started, not stopped and not expired (R345). -/
def State.timing (s : State) (n : Fin 24) : Bool := (s.rail n).timer.isSome && !(s.rail n).fired

/-- The masks of supervision follow the rails. -/
def State.showTimers (s : State) : State :=
  s.set RMN_TIMER_MASK (maskOf (((List.finRange 24).filter s.timing).map Fin.val))

/-- What follows the rails at the end of a command. -/
def State.seqShow (s : State) : State := (s.showTimers.sgEval false).rstEval

/-! ### Steps down (R350 to R352, R354) -/

/-- EN of a rail falls. -/
def State.enFall (s : State) (n : Fin 24) : State :=
  let s := s.setRail n { s.rail n with fellAt := s.tick, enDue := none, p7At := none, everQual := false }
  (s.setBit SEQ_EN_OUT_MASK n.val false).setBit SEQ_QUAL_MASK n.val false

/-- The shut-down is complete (R340). -/
def State.downComplete (s : State) : State :=
  let ms := (divHalfEven (s.tick - s.seq.downAt : Nat) 1000).toNat
  let s := (((s.set SEQ_DN_TIME_LAST (min ms 0xFFFF)).maxOf SEQ_DN_TIME_MAX ms).set SEQ_STATE_STEP 31).setB SEQ_CASC_UP_OUT false
  let s := { s with seq := { s.seq with since := s.tick, cascSince := none } }
  match s.get SEQ_STATE_DN_KIND with
  | 1 => ((s.set SEQ_STATE_STATE 4).set SEQ_STATE_RETRIES (min 15 (s.get SEQ_STATE_RETRIES + 1))).inc SEQ_CNT_RETRIES
  | 2 => (s.set SEQ_STATE_STATE 5).event .seqFault
  | _ => s.set SEQ_STATE_STATE 0

/-- The step at which the cascade takes part: CASC_STEP, or the last step for 31. -/
def State.cascHere (s : State) (k : Nat) : Bool :=
  s.on SEQ_CFG_DN_EN && (s.get SEQ_CFG_CASC_STEP == k ||
    (s.get SEQ_CFG_CASC_STEP == 31 && s.seqRails.all (fun n => decide (s.get SEQ_RAIL_CFG_STEP n.val ≤ k))))

/-- A rail is off by what it shows: its latest two samples below V_OFF, or with MON_EN 0 its deglitched PG low (R350). -/
def State.railLow (s : State) (n : Fin 24) : Bool :=
  if s.on SEQ_RAIL_CFG_MON_EN n.val then decide (2 ≤ (s.rail n).offRun) else !s.railPg n

/-- Rails that show off are judged so in a shut-down, out of order while EN is high (R350, R351). -/
def State.judgeLow (s : State) (ns : List (Fin 24)) : State :=
  s.each (ns.filter (fun n => s.ownRail n && s.railLow n && !(s.rail n).off)) (fun s n =>
    (s.setRail n { s.rail n with off := true, stuck := false }).iff (s.railEn n) (fun s =>
      (s.setBit SEQ_OOO_MASK n.val true).event .railOutOfOrder (objRef 6 n.val)))

/-- EN of the rails of a step falls, and those that show off are off (R350). -/
def State.stepFall (s : State) (k : Nat) : State :=
  (s.each ((s.stepRails k).filter (fun n => s.ownRail n && (s.railEn n || !(s.rail n).off))) (fun s n => s.enFall n)).judgeLow (s.stepRails k)

/-- Native shut-down: the steps at or below `k`, in descending order, as far as they complete at once. -/
def State.downFrom (s : State) : Nat → State
  | 0 => s.downComplete
  | k + 1 =>
    if (s.stepRails k).isEmpty then s.downFrom k
    else
      let s := s.set SEQ_STATE_STEP k
      if s.cascHere k && s.on SEQ_CASC_DN_OUT then
        let s := s.setB SEQ_CASC_DN_OUT false
        if s.on SEQ_CASC_DN_IN then { s with seq := { s.seq with cascSince := some s.tick } }.judgeLow (s.stepRails k)
        else
          let s := s.stepFall k
          if (s.stepRails k).all s.countsOff then s.downFrom k else s
      else
        let s := s.stepFall k
        if (s.stepRails k).all s.countsOff then s.downFrom k else s

/-- The wait on SEQ_DN_IN ends and the step's own rails start. -/
def State.downProceed (s : State) : State :=
  let k := s.seqStep
  let s := { s with seq := { s.seq with cascSince := none } }
  let s := s.stepFall k
  if (s.stepRails k).all s.countsOff then s.downFrom k else s

/-- A shut-down goes on when a rail is off or stuck. -/
def State.downCheck (s : State) : State :=
  if s.seqState ≠ 3 ∨ s.seq.cascSince.isSome then s
  else if s.seqStep = 31 then (if s.seqRails.all s.countsOff then s.downComplete else s)
  else if (s.stepRails s.seqStep).all s.countsOff then s.downFrom s.seqStep
  else s

/-- A shut-down starts: 0 stop, 1 retry, 2 final; by the table of the P7230 where `p7` allows it. -/
def State.startDownBy (s : State) (kind : Nat) (p7 : Bool) : State :=
  let s := (s.set SEQ_STATE_STATE 3).set SEQ_STATE_DN_KIND kind
  let s := ((s.set SEQ_OOO_MASK 0).set SEQ_STUCK_MASK 0).setB SEQ_STUCK_CASC false
  let s := { s with seq := { s.seq with since := s.tick, downAt := s.tick, ffDown := false, cascSince := none } }
  let s := s.each (List.finRange 24) (fun s n =>
    let x := s.rail n
    let s := s.setRail n { x with
      enDue := none, timer := none, fired := false, warnSince := none, stuck := false, off := !s.railEn n, p7At := none }
    ((s.setB RMN_RAIL_MEAS_WARN_UV false n.val).setB RMN_RAIL_MEAS_WARN_OV false n.val).setB RMN_RAIL_MEAS_EXPIRED false n.val)
  let s := ((s.set RMN_WARN_MASK 0).set RMN_EXPIRED_MASK 0).sgEval false
  if kind = 0 && p7 && s.on SEQ_CFG_DN_MODE then
    let s := (s.set SEQ_STATE_STEP 31).setB SEQ_CASC_DN_OUT false
    ((s.each (s.seqRails.filter (fun n => s.ownRail n && s.railEn n)) (fun s n =>
      if s.get SEQ_RAIL_DN_P7_DLY n.val = 0 then s.enFall n
      else s.setRail n { s.rail n with p7At := some (s.tick + 10000 * s.get SEQ_RAIL_DN_P7_DLY n.val) })).judgeLow s.seqRails).downCheck
  else
    let top := (s.seqRails.map (fun n => s.get SEQ_RAIL_CFG_STEP n.val)).foldl max 0
    (s.judgeLow (s.seqRails.filter (fun n => decide (s.get SEQ_RAIL_CFG_STEP n.val < top)))).downFrom 24

/-- A shut-down of R340. EXHAUSTED, HALT and SHIP bring a native one (R341). -/
def State.startDown (s : State) (kind : Nat) : State :=
  s.startDownBy kind (s.power != .exhausted && s.power != .halt && s.power != .ship)

/-! ### Steps up (R338, R354) -/

/-- EN of a rail rises; its window starts. -/
def State.enRise (s : State) (n : Fin 24) : State :=
  let x := s.rail n
  (s.setRail n { x with enDue := none, enAt := s.tick, everQual := false, off := false
                        pgSince := if s.railPg n then some s.tick else none }).setBit SEQ_EN_OUT_MASK n.val true

/-- A step starts. -/
def State.stepBegin (s : State) (k : Nat) : State :=
  (s.set SEQ_STATE_STEP k).each ((s.stepRails k).filter (fun n => s.ownRail n && !s.railEn n)) (fun s n =>
    if s.get SEQ_RAIL_CFG_DLY_ON n.val = 0 then s.enRise n
    else s.setRail n { s.rail n with enDue := some (s.tick + 100 * s.get SEQ_RAIL_CFG_DLY_ON n.val) })

/-- RUN is entered. -/
def State.enterRun (s : State) : State :=
  let s := ((s.set SEQ_STATE_STATE 2).set SEQ_STATE_STEP 31).inc SEQ_CNT_SEQUENCES
  let s := s.setB SEQ_CASC_UP_OUT (s.on SEQ_CFG_UP_EN)
  { s with seq := { s.seq with since := s.tick, runSince := s.tick, ffRun := false, ffEpisode := false, cascSince := none } }.event .seqRun

/-- The steps that hold a rail, above `k`. -/
def State.stepsAbove (s : State) (k : Nat) : List Nat := (List.range 24).filter (fun j => decide (k < j) && !(s.stepRails j).isEmpty)

/-- The step in progress completes where its conditions hold (R338, R354). -/
def State.upCheck (s : State) : State :=
  if s.seqState ≠ 1 ∨ !s.seqPrimary then s
  else
    let k := s.seqStep
    if !(s.stepRails k).all s.countsQual then s
    else
      let casc := s.cascHere k
      let s := s.iff (casc && !s.on SEQ_CASC_DN_OUT) (fun s =>
        { (s.setB SEQ_CASC_DN_OUT true) with seq := { s.seq with cascSince := some s.tick } })
      if casc && !s.on SEQ_CASC_DN_IN then s
      else
        let s := { s with seq := { s.seq with cascSince := none } }
        match s.stepsAbove k with
        | [] => s.enterRun
        | j :: _ => s.stepBegin j

/-- UP is entered: an episode begins, but not from RETRY_WAIT, where it goes on (R342), and the first step starts. With no sequenced rail it completes at once. -/
def State.startUp (s : State) : State :=
  let again := s.seqState == 4
  let s := s.set SEQ_STATE_STATE 1
  let s := { s with seq := { s.seq with since := s.tick, ffEpisode := s.seq.ffEpisode && again, cascSince := none } }
  match (List.range 24).filter (fun j => !(s.stepRails j).isEmpty) with
  | [] => s.enterRun
  | k :: _ => s.stepBegin k

/-- The state follows the demand, and leaves FAULT where SEQ_UP_IN falls (R340). An entry to EXHAUSTED, HALT or SHIP makes a shut-down of kind
retry a stop (R357). -/
def State.seqEval (s : State) : State :=
  let need := s.seqDemanded
  let off := s.power == .exhausted || s.power == .halt || s.power == .ship
  if !s.seqPrimary then s
  else match s.seqState with
    | 0 => if need then s.startUp else s
    | 1 => if need then s else s.startDown 0
    | 2 => if need then s else s.startDown 0
    | 3 => if off && s.get SEQ_STATE_DN_KIND == 1 then s.set SEQ_STATE_DN_KIND 0 else s
    | 4 => if need then s else s.startDown 0
    | 5 => if s.on SEQ_CFG_UP_EN && s.seq.upFell then (s.set SEQ_STATE_STATE 0).set SEQ_STATE_RETRIES 0 else s
    | _ => s

/-! ### Faults (R339, R340, R345, R346) -/

/-- The transition a fault in UP, or an expiry with FLT_ACT 1, or a cascade fault makes. -/
def State.faultDown (s : State) : State :=
  if !s.seqPrimary then s
  else if s.get SEQ_STATE_RETRIES < s.get SEQ_CFG_RETRY_MAX ∧ !s.on SEQ_CFG_UP_EN then s.startDown 1 else s.startDown 2

/-- A fault of the tick: the faults of one tick make one transition, at its end (R357). -/
def State.railFault (s : State) (n kind : Nat) : State :=
  { s with seq := { s.seq with faults := (s.seq.faults.filter (fun p => p != (n, kind))) ++ [(n, kind)] } }

/-- A cascade fault, under rail code 24. -/
def State.cascFault (s : State) : State := s.railFault 24 5

/-- A fault timer starts. -/
def State.timerStart (s : State) (n : Fin 24) (level : Bool) : State :=
  if (s.rail n).timer.isSome then s
  else s.setRail n { s.rail n with timer := some (s.tick, level), fired := false }

/-- A fault timer stops where PG is high and the latest sample lies inside the narrowed band. -/
def State.timerStop (s : State) (n : Fin 24) : State :=
  let x := s.rail n
  let inside := !s.on SEQ_RAIL_CFG_MON_EN n.val || s.testing || (match x.v with | some v => !s.outFault n true v | none => true)
  if x.timer.isSome && s.railPg n && inside then s.setRail n { x with timer := none, fired := false, stoppedAt := s.tick } else s

/-- The fault timer of a rail has expired and has not stopped. -/
def State.timerOver (s : State) (n : Fin 24) : Bool :=
  match (s.rail n).timer with
  | some (t, _) => !(s.rail n).fired && decide (t + s.get RMN_TIME_FLT_T ≤ s.tick)
  | none => false

/-- The fault timer of a rail expires: the rail loses its qualification (R346). -/
def State.timerExpire (s : State) (n : Fin 24) : State :=
  let s := s.setRail n { s.rail n with fired := true }
  let s := ((s.setBit SEQ_QUAL_MASK n.val false).setBit RMN_EXPIRED_MASK n.val true).setB RMN_RAIL_MEAS_EXPIRED true n.val
  let s := (((s.inc RMN_CNT_EXPIRIES).inc SEQ_RAIL_STAT_FAULTS n.val).event .railExpiry (objRef 6 n.val)).trigger 10
  s.sgEval (s.bitOn SEQ_SG_CFG_MASK n.val)

/-- A rail is logged as DN_STUCK (R351). -/
def State.railStuck (s : State) (n : Fin 24) : State :=
  let s := (s.setRail n { s.rail n with stuck := true }).setBit SEQ_STUCK_MASK n.val true
  (s.event .railStuck (objRef 6 n.val)).trigger 10

/-- What a fault brings of itself, each recorded as an event (R342, R346, R351). -/
def State.faultEffect (s : State) (n kind : Nat) : State :=
  if kind = 3 then s.timerExpire (Fin.ofNat 24 n)
  else if kind = 4 then (if n < 24 then s.railStuck (Fin.ofNat 24 n) else s)
  else
    let s := if n < 24 then s.inc SEQ_RAIL_STAT_FAULTS n else s.inc SEQ_CASC_FAULTS
    (s.event .railFault (if n < 24 then objRef 6 n else 0) [kind]).trigger 10

/-- The first-fault record of the first of a tick's faults, where its period has none yet (R342). -/
def State.faultRecord (s : State) (n kind : Nat) : State :=
  let done_ := if kind = 3 then s.seq.ffRun else if kind = 4 then s.seq.ffDown else s.seq.ffEpisode
  let s := if done_ then s else s.firstFault n kind
  { s with seq := { s.seq with
      ffRun := s.seq.ffRun || kind == 3, ffDown := s.seq.ffDown || kind == 4, ffEpisode := s.seq.ffEpisode || s.seqState == 1 } }

/-- The one transition of a tick's faults: none where a shut-down is already under way, a stop where the demand ended in the tick (R340,
R357). DESIGN CHOICE: of expiries with FLT_ACT 1 and 2 in one tick the latter acts (log entry 79). -/
def State.faultMove (s : State) (l : List (Nat × Nat)) : State :=
  let act := fun (a : Nat) => l.any (fun p => p.2 == 3 && s.get RMN_RAIL_CFG_FLT_ACT p.1 == a)
  let up := l.any (fun p => p.2 != 3 && p.2 != 4)
  if !s.seqPrimary ∨ (s.seqState ≠ 1 ∧ s.seqState ≠ 2) then s
  else if !up && !act 1 && !act 2 then s
  else if !s.seqDemanded then s.startDown 0
  else if act 2 then s.startDown 2
  else s.faultDown

/-- The faults of a tick, at its end, in the order of the rails' indices with the cascade last (R342, R357): an expiry whose timer the tick
stopped is none. -/
def State.faultJudge (s : State) : State :=
  let l := (List.range 25).flatMap (fun n => s.seq.faults.filter (fun p => p.1 == n && (p.2 != 3 || s.timerOver (Fin.ofNat 24 n))))
  let s := { s with seq := { s.seq with faults := [] } }
  match l with
  | [] => s
  | p :: _ =>
    let s := s.faultRecord p.1 p.2
    let s := s.each l (fun s q => s.faultEffect q.1 q.2)
    (s.faultMove l).downCheck

/-! ### Judgements of a rail -/

/-- A rail is judged off in a shut-down (R350, R351). -/
def State.railOff (s : State) (n : Fin 24) : State :=
  let x := s.rail n
  if x.off then s
  else
    let s := s.setRail n { x with off := true, stuck := false }
    let s := s.iff (s.railEn n) (fun s => (s.setBit SEQ_OOO_MASK n.val true).event .railOutOfOrder (objRef 6 n.val))
    s.downCheck

/-- A rail shows off: it is judged off in a shut-down, and after one it is no longer STUCK (R351). -/
def State.railOffLate (s : State) (n : Fin 24) : State :=
  if s.seqState = 3 then s.railOff n
  else s.iff (s.rail n).stuck (fun s => s.setRail n { s.rail n with off := true, stuck := false })

/-- A rail qualifies (R337). -/
def State.qualify (s : State) (n : Fin 24) : State :=
  let s := (s.setBit RMN_EXPIRED_MASK n.val false).setB RMN_RAIL_MEAS_EXPIRED false n.val
  ((s.setBit SEQ_QUAL_MASK n.val true).setRail n { s.rail n with everQual := true }).upCheck

/-- The deglitched PG of a rail changes (R336, R337, R339, R345). In RUN a fall starts the fault timer whether or not levels are judged. -/
def State.pgChange (s : State) (n : Fin 24) (high : Bool) : State :=
  let i := n.val
  let x := s.rail n
  let was := s.railPg n
  let qual := s.railQual n
  let since := if high then (if was then x.pgSince else some s.tick) else none
  let s := (s.setBit SEQ_PG_IN_MASK i high).setRail n { x with pgSince := since, pgSeen := true }
  if was = high ∨ !s.railOn n then s
  else if high then (if s.seqState = 2 then s.timerStop n else s)
  else
    let s := s.iff (!qual && s.seqState != 3 && s.railEn n) (fun s => s.inc SEQ_RAIL_STAT_CHATTER i)
    let s := s.setBit SEQ_QUAL_MASK i false
    if s.seqState = 1 ∧ s.get SEQ_RAIL_CFG_STEP i < s.seqStep ∧ s.ownRail n then s.railFault i 2
    else if s.seqState = 2 ∧ s.ownRail n then s.timerStart n false
    else if !s.on SEQ_RAIL_CFG_MON_EN i then s.railOffLate n
    else s

/-- The level of a rail's PG input (R336): the ball at the polarity of `POL`, or with `PG_SRC` 1 by the latest rail voltage. -/
def State.pgInput (s : State) (n : Fin 24) : Bool :=
  if s.on SEQ_RAIL_CFG_PG_SRC n.val then
    (match (s.rail n).v with
      | some v => decide (10 * (s.get RMN_RAIL_CFG_NOM n.val : Int) * (1000 - s.get RMN_RAIL_LVL_UV_FLT n.val) ≤ 1000 * v)
      | none => false)
  else s.seq.pgBall.testBit n.val == s.on SEQ_RAIL_CFG_POL n.val

/-- The PG input of a rail in this tick: since when it has its level, and the deglitched PG after `DEGL` ticks of it (R336). -/
def State.pgLine (s : State) (n : Fin 24) : State :=
  let x := s.rail n
  let now := s.pgInput n
  let since := if x.pgFor.1 = now then x.pgFor.2 else s.tick
  let s := s.setRail n { x with pgFor := (now, since) }
  if s.boot.g.isSome && now != s.railPg n && decide (since + s.get SEQ_RAIL_TIME_DEGL n.val ≤ s.tick) then s.pgChange n now else s

/-- A sample of a rail against its bands, where they are judged (R343 to R345). -/
def State.railLevel (s : State) (n : Fin 24) (v : Int) : State :=
  let i := n.val
  if s.levelsJudged n then
    let s := s.setRail n { s.rail n with warnSince := sinceIf (s.outWarn n false v) (s.rail n).warnSince s.tick }
    let s := if s.outFault n false v then s.timerStart n true else s.timerStop n
    if s.inWarn n && !s.outWarn n true v then
      ((s.setB RMN_RAIL_MEAS_WARN_UV false i).setB RMN_RAIL_MEAS_WARN_OV false i).setBit RMN_WARN_MASK i false
    else s
  else s.setRail n { s.rail n with warnSince := none }

/-- A sample of a rail (R335, R336, R344, R345, R350). -/
def State.railSample (s : State) (n : Fin 24) (v : Int) : State :=
  let i := n.val
  let x := s.rail n
  let s := s.set RMN_RAIL_MEAS_V (clampI 0 0xFFFE (divHalfEven v 10)).toNat i
  let low := decide (v < 10 * s.get SEQ_RAIL_DN_V_OFF i)
  let s := s.setRail n { x with v := some v, offRun := if low then min 2 (x.offRun + 1) else 0, judgedAt := s.tick }
  let s := s.iff (s.on SEQ_RAIL_CFG_PG_SRC i) (fun s => s.pgLine n)
  let s := s.iff (s.railOn n && s.on SEQ_RAIL_CFG_MON_EN i && decide (2 ≤ (s.rail n).offRun)) (fun s => s.railOffLate n)
  if s.seqState = 3 then s else s.railLevel n v

/-- In the tick in which RUN is entered, the samples of the tick are judged against their bands after all (R357). -/
def State.runSamples (s : State) : State :=
  if s.seqState = 2 ∧ s.seq.since = s.tick then
    s.each (s.seqRails.filter (fun n => (s.rail n).judgedAt == s.tick)) (fun s n => match (s.rail n).v with
      | some v => s.railLevel n v
      | none => s)
  else s

/-- A rail that is no longer sequenced: its EN stays low, and it is judged no more (R335). -/
def State.railDrop (s : State) (n : Fin 24) : State :=
  let i := n.val
  let s := s.iff (s.railEn n) (fun s => s.enFall n)
  let s := s.setRail n { s.rail n with enDue := none, p7At := none, timer := none, fired := false, warnSince := none, off := true, stuck := false }
  let s := ((s.setB RMN_RAIL_MEAS_WARN_UV false i).setB RMN_RAIL_MEAS_WARN_OV false i).setB RMN_RAIL_MEAS_EXPIRED false i
  ((s.setBit RMN_WARN_MASK i false).setBit RMN_EXPIRED_MASK i false).setBit SEQ_QUAL_MASK i false

/-! ### Start (R356) -/

/-- Adoption or take-down of the rails at tick g: with `adopt` the sequence enters RUN, its rails qualified. -/
def State.seqStart (s : State) (adopt : Bool) : State :=
  let s := ({ s with seq := { s.seq with run := s.on SEQ_CFG_AUTO_UP } }).ffLoad
  if adopt then
    let s := s.each s.seqRails (fun s n =>
      if s.ownRail n then
        let s := (s.enRise n).setBit SEQ_QUAL_MASK n.val true
        s.setRail n { s.rail n with everQual := true }
      else s)
    let s := s.enterRun
    s.each (List.finRange 8) (fun s k => if s.rstCond k.val then s.setB SEQ_RST_TIME_ASSERTED false k.val else s)
  else if s.seqRails.any (fun n => s.ownRail n && s.railPg n) then
    (s.each (s.seqRails.filter (fun n => s.ownRail n && s.railPg n)) (fun s n => s.setBit SEQ_EN_OUT_MASK n.val true)).startDownBy 0 false
  else s.seqEval

/-- The rails follow a state machine run by the partner (R355): its state, step and kind of shut-down. -/
def State.seqFollow (s : State) (st step kind : Nat) : State :=
  if s.seqPrimary then s
  else
    let was := s.seqState
    let s := if st = 3 ∧ was ≠ 3 then s.startDown kind else s
    let s := if st = 2 ∧ was ≠ 2 then s.enterRun else s
    let s := if st = 1 ∧ step < 24 ∧ (was ≠ 1 ∨ s.seqStep ≠ step) then (s.set SEQ_STATE_STATE 1).stepBegin step else s
    s.set SEQ_STATE_STATE st

end Sys2Proof.Machine
end

