-- ==== Sys2Proof/Machine/Efu.lean ====
section
/-! DEFINITION. Electronic fuses (file 12): channel states, inrush and running protection, FET temperature, the feed pair, module
slots. -/

namespace Sys2Proof.Machine

def State.fuse (s : State) (n : Fin 8) : Fuse := s.efu.chans.get n

def State.setFuse (s : State) (n : Fin 8) (x : Fuse) : State := { s with efu := { s.efu with chans := s.efu.chans.set n x } }

/-- 0 DISABLED, 1 OFF, 2 WAIT, 3 INRUSH, 4 ON, 5 LATCHED, 6 DAMAGED, 7 NOT_OWNED (R334). -/
def State.fuseState (s : State) (n : Fin 8) : Nat := s.get EFU_CH_STAT_STATE n.val

def State.setFuseState (s : State) (n : Fin 8) (st : Nat) : State := s.set EFU_CH_STAT_STATE st n.val

/-- Channels the unit owns (R16). -/
def State.fusesOwned (s : State) : Nat :=
  if s.unitRole = 3 then 0 else if s.solo then 0xFF else s.get HLK_EFF_EF_EF

def State.backfed (s : State) (n : Fin 8) : Bool := s.pairFeed n || s.on EFU_CH_CFG_BACKFED n.val

/-- The code of EF_ILIM for a limit in 100 mA (R310). -/
def State.ilimCode (s : State) (n : Fin 8) (lim : Nat) : Nat :=
  (clampI 0 4095 (divHalfEven (100 * lim * s.get EFU_CH_SCALE_ILIM_G n.val) 300000)).toNat

/-- The latest current is at or above `pct` percent of a limit in 100 mA. -/
def State.atLimit (s : State) (n : Fin 8) (lim : Nat) : Bool :=
  match s.fuseI n with
  | some i => decide (s.get EFU_CH_TIME_AT_LIM n.val * lim * i.2 ≤ i.1)
  | none => false

/-- The output is good. -/
def State.outputGood (s : State) (n : Fin 8) : Bool :=
  match s.fuseV n with
  | some v => decide ((100 * s.get EFU_CH_LEVELS_V_GOOD n.val : Nat) ≤ v)
  | none => false

/-! ### Feeds (R322, R323) -/

/-- A LATCHED, DAMAGED or disabled feed is never selectable. -/
def State.selectable (s : State) (n : Fin 8) : Bool :=
  s.on EFU_CH_CFG_EN n.val && s.fuseState n != 5 && s.fuseState n != 6

def feedMon (k : Fin 2) : Field := if k = 0 then EFU_FEED_CFG_VIN_MON_A else EFU_FEED_CFG_VIN_MON_B
def feedBit (k : Fin 2) : Field := if k = 0 then EFU_FEED_STAT_A_GOOD else EFU_FEED_STAT_B_GOOD
def feedCh (k : Fin 2) : Fin 8 := if k = 0 then 0 else 1

/-- A feed is good. -/
def State.feedGood (s : State) (k : Fin 2) : Bool :=
  if s.get (feedMon k) = 31 then s.selectable (feedCh k) else s.on (feedBit k)

/-- The latest sample of a feed's rail monitor input lies in [V_MIN, V_MAX]; both in 10 mV. -/
def State.feedInWin (s : State) (k : Fin 2) : Bool :=
  let n := Fin.ofNat 24 (s.get (feedMon k))
  let m := s.afe.latest.get (Fin.ofNat 64 n.val)
  let v := s.railVolts n m.code
  s.get (feedMon k) != 31 && m.valid && decide (100 * s.get EFU_FEED_VWIN_V_MIN ≤ v ∧ v ≤ 100 * s.get EFU_FEED_VWIN_V_MAX)

/-- A feed has been good for REVERT_S seconds (R323). -/
def State.feedSettled (s : State) (k : Fin 2) : Bool := s.lasted (s.efu.goodSince.get k) (1000000 * s.get EFU_FEED_TIME_REVERT_S)

/-- The wanted feed: 0 none, 1 A, 2 B (R323). -/
def State.wantedFeed (s : State) : Nat :=
  let ok := fun (k : Fin 2) => s.selectable (feedCh k) && s.feedGood k
  let pref : Fin 2 := if s.on EFU_FEED_CFG_PREF then 1 else 0
  let other : Fin 2 := if s.on EFU_FEED_CFG_PREF then 0 else 1
  let force : Option Nat := match s.efu.force with
    | some b => if ok (if b then 1 else 0) then some (if b then 2 else 1) else none
    | none => none
  match force with
  | some k => k
  | none =>
    let back := decide (s.efu.sel = other.val + 1)
    if ok pref && (!back || (s.on EFU_FEED_CFG_AUTO_REVERT && s.feedSettled pref) || !ok other) then pref.val + 1
    else if ok other then other.val + 1
    else if s.efu.sel ≠ 0 then s.efu.sel
    else if s.selectable (feedCh pref) then pref.val + 1 else 0


/-! ### Demand (R313, R327) -/

/-- The power state permits a channel. -/
def State.powerPermits (s : State) (n : Fin 8) : Bool :=
  match s.power with
  | .halt => false
  | .ship => !s.railsDown
  | .exhausted => s.isFeed n || !s.railsDown
  | _ => true

def State.slotOk (s : State) (n : Fin 8) : Bool := !s.on EFU_CH_CFG_SLOT_EN n.val || s.on EFU_CH_STAT_PRESENT n.val

def State.feedOk (s : State) (n : Fin 8) : Bool := !s.pairFeed n || (s.efu.gap.isNone && s.efu.sel == n.val + 1)

def State.demanded (s : State) (n : Fin 8) : Bool :=
  s.on EFU_CTRL_EN && s.on EFU_CH_CFG_EN n.val && (s.fuse n).run && s.fusesOwned.testBit n.val && s.outputsOn &&
  s.slotOk n && s.powerPermits n && s.feedOk n && s.fuseState n != 5 && s.fuseState n != 6

/-- The cause of a loss of demand, by the codes of CAUSE. -/
def State.lostCause (s : State) (n : Fin 8) : Nat :=
  if !s.fusesOwned.testBit n.val then 10
  else if !s.powerPermits n then 7
  else if !s.slotOk n then 6
  else if !s.feedOk n then 8
  else 1

/-! ### Conducting (R314) -/

/-- EF_ON falls, if high, and EF_ILIM 20 ticks later. -/
def State.fuseLow (s : State) (n : Fin 8) : State :=
  let x := s.fuse n
  s.setFuse n { x with
    on := false, riseAt := none, startAt := none, lowAt := if x.on then s.tick else x.lowAt
    fallAt := if x.ilim = 0 then none else some (s.tick + 20) }

/-- INRUSH is entered: EF_ILIM at the inrush code, EF_ON 20 ticks later. -/
def State.fuseInrush (s : State) (n : Fin 8) : State :=
  let x := s.fuse n
  let s := s.setFuseState n 3
  s.setFuse n { x with
    ilim := s.ilimCode n (s.get EFU_CH_LIMIT_I_INRUSH n.val), fallAt := none, riseAt := some (s.tick + 20), startAt := none
    waitEnd := none, failed := false }

/-- ON is entered: EF_ILIM at the running code. -/
def State.fuseOn (s : State) (n : Fin 8) : State :=
  let x := s.fuse n
  let s := s.setFuseState n 4
  s.setFuse n { x with ilim := s.ilimCode n (s.get EFU_CH_LIMIT_I_RUN n.val), startAt := none, onAt := s.tick }

/-- The channel turns off to a state that does not conduct. -/
def State.fuseOff (s : State) (n : Fin 8) (st cause : Nat) : State :=
  let s := (s.fuseLow n).setFuseState n st
  let s := s.setFuse n { s.fuse n with waitEnd := none, failed := false, lastWait := (0, 0) }
  s.set EFU_CH_STAT_CAUSE cause n.val

/-- WAIT is entered until a tick; `failed`: after a failure. -/
def State.fuseWait (s : State) (n : Fin 8) (until_ : Nat) (failed : Bool) : State :=
  let s := s.setFuseState n 2
  let x := s.fuse n
  s.setFuse n { x with waitEnd := some until_, failed := failed, lastWait := if failed then (s.tick, until_) else x.lastWait }

/-- The memory of the slot is held (R325). -/
def State.memHeld (s : State) (n : Fin 8) : Bool := match (s.fuse n).mem with
  | some m => decide (s.tick < m.until_)
  | none => false

/-- The remaining or frozen wait in ticks (R334). -/
def State.fuseRemain (s : State) (n : Fin 8) : Nat := match (s.fuse n).waitEnd, (s.fuse n).mem with
  | some e, _ => e - s.tick
  | none, some m => if s.memHeld n then m.remain else 0
  | none, none => 0

/-! ### FET temperature (R317 to R319) -/

/-- T_ref in 1/64 °C. -/
def State.tRef (s : State) (n : Fin 8) : Int :=
  let src := s.get EFU_CH_CFG_TREF_SRC n.val
  if src < 12 ∧ s.valid THM_TEMP_T src then s.getI THM_TEMP_T src else 3840

/-- The direct reading is available: the diode channel is measured and not faulted. -/
def State.directOk (s : State) (n : Fin 8) : Bool := s.diodeOn (12 + n.val) && (s.fuse n).direct.isSome

/-- The FET temperature in 1/64 °C, and whether the model gives it. -/
def State.fetTemp (s : State) (n : Fin 8) : Option (Int × Bool) :=
  let model := s.tRef n + (s.fuse n).dT.fdiv (2 ^ 24)
  match s.get EFU_CH_CFG_TMODE n.val with
  | 0 => none
  | 1 => (s.fuse n).direct.map (fun t => (t, false))
  | 2 => some (model, true)
  | _ => if s.directOk n then (s.fuse n).direct.map (fun t => (t, false)) else some (model, true)

/-- The FET is cool enough for INRUSH (R312, R319). -/
def State.fetCool (s : State) (n : Fin 8) : Bool :=
  match s.fetTemp n with
  | some t => decide (t.1 ≤ 64 * ((s.get EFU_CH_TLIM_T_OFF n.val : Int) - s.get EFU_CH_TLIM_T_HYST n.val))
  | none => true

/-! ### Transitions (R312) -/

/-- A demanded channel leaves OFF: WAIT while a wait is asked for or the FET is hot, else INRUSH. -/
def State.fuseStart (s : State) (n : Fin 8) : State :=
  let x := s.fuse n
  if s.on EFU_CH_CFG_SLOT_EN n.val ∧ s.tick < x.insertEnd then s.fuseWait n x.insertEnd false
  else s.fuseInrush n

/-- The channel follows its demand, its ownership and its EN. -/
def State.fuseEval (s : State) (n : Fin 8) : State :=
  let st := s.fuseState n
  if !s.fusesOwned.testBit n.val then
    (if st = 7 then s
     else
       let s := (s.fuseOff n 7 10)
       s.setFuse n { s.fuse n with ilim := 0, fallAt := none })
  else if st = 7 then s
  else if !s.on EFU_CH_CFG_EN n.val then (if st = 0 then s else s.fuseOff n 0 1)
  else
    let s := if st = 0 then s.setFuseState n 1 else s
    let st := s.fuseState n
    if s.demanded n then (if st = 1 then s.fuseStart n else s)
    else if st = 2 ∨ st = 3 ∨ st = 4 then s.fuseOff n 1 (s.lostCause n)
    else s

/-- Every channel does. -/
def State.efuEval (s : State) : State := s.each (List.finRange 8) State.fuseEval

/-- A failure, counted (R312): then WAIT for RETRY_MS, or OFF where the channel is no longer demanded, or LATCHED. -/
def State.fuseFail (s : State) (n : Fin 8) (cause : Nat) : State :=
  let r := s.get EFU_CH_STAT_RETRIES n.val
  let mx := s.get EFU_CH_RETRY_RETRY_MAX n.val
  let s := ((s.inc EFU_CH_TEMP_TRIPS n.val).event .fuseFail (objRef 2 n.val) [cause, r]).trigger 11
  let st := if mx ≠ 15 ∧ mx ≤ r then 5 else if s.demanded n then 2 else 1
  let s := (s.fuseOff n st cause).set EFU_CH_STAT_RETRIES (min 15 (r + 1)) n.val
  if st = 5 then s.event .fuseLatched (objRef 2 n.val)
  else if st = 2 then s.fuseWait n (s.tick + 1000 * s.get EFU_CH_RETRY_RETRY_MS n.val) true
  else s

/-- The condition of a failure has come in this tick; of two, the cause of the lower code stands (R331: OVERCURRENT before OVER_TEMP). -/
def State.fuseFailDue (s : State) (n : Fin 8) (cause : Nat) : State :=
  let x := s.fuse n
  s.setFuse n { x with failDue := some (match x.failDue with | some c => min c cause | none => cause) }

/-- The failures of a tick, at its end (R331): loss of demand in the same tick wins and is not counted, but a failure of a feed that the tick
deselected is. -/
def State.failJudge (s : State) : State :=
  let due := (List.finRange 8).filter (fun n => (s.fuse n).failDue.isSome)
  let s := s.each due (fun s n =>
    let x := s.fuse n
    let st := s.fuseState n
    let s := s.setFuse n { x with failDue := none }
    s.iff (st == 3 || st == 4 || (st == 1 && s.get EFU_CH_STAT_CAUSE n.val == 8)) (fun s => s.fuseFail n (x.failDue.getD 0)))
  s.iff (!due.isEmpty) State.settle

/-- EFU_WAIT_EXPIRY (R312). -/
def execEfuWaitExpiry (n : Fin 8) (s : State) : Host.Outcome State Fault Refusal :=
  if s.fuseState n == 2 && s.due (s.fuse n).waitEnd && s.demanded n && s.fetCool n then done (s.fuseInrush n) else done s

/-- EF_ON_RISE (R314, R315). -/
def execEfOnRise (n : Fin 8) (s : State) : Host.Outcome State Fault Refusal :=
  let x := s.fuse n
  if s.fuseState n == 3 && s.due x.riseAt then
    done (s.setFuse n { x with on := true, riseAt := none, startAt := some s.tick })
  else done s

/-- EF_ILIM_FALL (R314). -/
def execEfIlimFall (n : Fin 8) (s : State) : Host.Outcome State Fault Refusal :=
  let x := s.fuse n
  if s.due x.fallAt then done (s.setFuse n { x with ilim := 0, fallAt := none }) else done s

/-- The condition of INRUSH to ON in the latest samples (R312). -/
def State.fuseReady (s : State) (n : Fin 8) : Bool :=
  s.fuseState n == 3 && s.outputGood n && !s.atLimit n (s.get EFU_CH_LIMIT_I_INRUSH n.val)

/-- The condition of R316 in the latest sample. -/
def State.fuseLimited (s : State) (n : Fin 8) : Bool := s.fuseState n == 4 && s.atLimit n (s.get EFU_CH_LIMIT_I_RUN n.val)

/-- The condition of INRUSH to ON held in every sample over 1,000 ticks from the rise of EF_ON at the earliest (R312). -/
def State.fuseReadyDone (s : State) (n : Fin 8) : Bool :=
  s.fuseReady n && s.lasted (s.fuse n).startAt 1000 && s.lasted (s.fuse n).readySince 1000

/-- INRUSH_QUALIFIED (R312). -/
def execInrushQualified (n : Fin 8) (s : State) : Host.Outcome State Fault Refusal :=
  if s.fuseReadyDone n then done (s.fuseOn n) else done s

/-- INRUSH_EXPIRY (R315): the timer ends without the condition of INRUSH to ON having been met. -/
def execInrushExpiry (n : Fin 8) (s : State) : Host.Outcome State Fault Refusal :=
  if s.fuseState n == 3 && s.lasted (s.fuse n).startAt (1000 * s.get EFU_CH_TIME_INRUSH_MS n.val) && !s.fuseReadyDone n then
    done (s.fuseFailDue n (if s.atLimit n (s.get EFU_CH_LIMIT_I_INRUSH n.val) then 2 else 3))
  else done s

/-- OVERCURRENT_EXPIRY (R316): at the limit in every sample over OC_MS. -/
def execOvercurrentExpiry (n : Fin 8) (s : State) : Host.Outcome State Fault Refusal :=
  if s.fuseLimited n && s.lasted (s.fuse n).limSince (1000 * s.get EFU_CH_TIME_OC_MS n.val) then done (s.fuseFailDue n 4)
  else done s

/-- EFU_RETRY_RESET (R312). -/
def execEfuRetryReset (n : Fin 8) (s : State) : Host.Outcome State Fault Refusal :=
  if s.fuseState n = 4 ∧ (s.fuse n).onAt + 1000000 * s.get EFU_SLOT_CFG_CLEAR_S ≤ s.tick then
    done (s.set EFU_CH_STAT_RETRIES 0 n.val)
  else done s

/-- The judgement of R319. -/
def State.fetJudge (s : State) (n : Fin 8) : State :=
  let i := n.val
  match s.fetTemp n with
  | none => (s.setInvalid EFU_CH_TEMP_TEMP i).setB EFU_CH_STAT_HOT false i
  | some (t, model) =>
    let s := (s.setI EFU_CH_TEMP_TEMP t i).setB EFU_CH_STAT_TSRC model i
    let warn : Int := 64 * s.get EFU_CH_TLIM_T_WARN i
    let hot := s.on EFU_CH_STAT_HOT i
    let s := if warn ≤ t ∧ hot = false then (s.setB EFU_CH_STAT_HOT true i).event .fetHot (objRef 2 i)
      else if t < warn - 64 * s.get EFU_CH_TLIM_T_HYST i then s.setB EFU_CH_STAT_HOT false i
      else s
    if 64 * s.get EFU_CH_TLIM_T_OFF i ≤ t ∧ (s.fuseState n = 3 ∨ s.fuseState n = 4) then s.fuseFailDue n 5 else s

/-- A conversion of EF_ISNS not yet taken enters the sum of its square (R318). -/
def State.fuseSquare (s : State) (n : Fin 8) : State :=
  let m := s.afe.latest.get (Fin.ofNat 64 (32 + n.val))
  let x := s.fuse n
  if !m.valid || x.iTick == some m.tick then s
  else s.setFuse n { x with sqSum := x.sqSum + m.code * m.code, sqCnt := x.sqCnt + 1, iTick := some m.tick }

/-- p × R_TH of the samples since the last update in 2^-24 of 1/64 °C; without a sample the latest one counts (R318, log entry 78). -/
def State.fetGoal (s : State) (n : Fin 8) : Int :=
  let i := n.val
  let x := s.fuse n
  let m := s.afe.latest.get (Fin.ofNat 64 (32 + i))
  let q : Nat × Nat := if x.sqCnt = 0 then (if m.valid then m.code * m.code else 0, 1) else (x.sqSum, x.sqCnt)
  let g := max 1 (s.get EFU_CH_SCALE_ISNS_G i)
  (q.1 * 1250000000 ^ 2 * s.get EFU_CH_FET_R_ON i * s.get EFU_CH_FET_RTH i * 64 * 2 ^ 24 / (16384 ^ 2 * g ^ 2 * q.2 * 10 ^ 14) : Nat)

/-- The model's update of a channel (R318): a change from direct to model starts ΔT anew (R317). -/
def State.fetStep (s : State) (n : Fin 8) : State :=
  let i := n.val
  let x := s.fuse n
  let model := match s.fetTemp n with
    | some t => t.2
    | none => false
  let toModel := model && !s.on EFU_CH_STAT_TSRC i && s.valid EFU_CH_TEMP_TEMP i
  let dT := if toModel then max 0 (s.getI EFU_CH_TEMP_TEMP i - s.tRef n) * 2 ^ 24 else x.dT
  let e := expNeg 1 (1000 * s.get EFU_CH_TLIM_TAU i)
  s.setFuse n { x with dT := dT + ((s.fetGoal n - dT) * (2 ^ 64 - e)).fdiv (2 ^ 64), sqSum := 0, sqCnt := 0 }

/-- FET_MODEL_UPDATE (R318, R319): every 100 ticks. -/
def execFetModelUpdate (_ : Unit) (s : State) : Host.Outcome State Fault Refusal :=
  if s.tick % 100 ≠ 0 ∨ s.boot.g.isNone then done s
  else
    let s := s.each (List.finRange 8) (fun s n => (s.fuseSquare n).fetStep n)
    done (s.each ((List.finRange 8).filter (fun n => s.on EFU_CH_CFG_EN n.val)) State.fetJudge)

/-- Output or current is present (R320). -/
def State.damagedNow (s : State) (n : Fin 8) : Bool :=
  if s.backfed n then (match s.fuseI n with
    | some i => decide (10 * s.get EFU_CH_LEVELS_DMG_LVL n.val * i.2 ≤ i.1)
    | none => false)
  else match s.fuseV n with
    | some v => decide ((100 * s.get EFU_CH_LEVELS_DMG_LVL n.val : Nat) ≤ v)
    | none => false

/-- The condition of R320 in the latest samples: EF_ON has been low for 2,000 ticks in a state that does not conduct. -/
def State.damaging (s : State) (n : Fin 8) : Bool :=
  let st := s.fuseState n
  (st == 1 || st == 2 || st == 5) && !(s.fuse n).on && decide ((s.fuse n).lowAt + 2000 ≤ s.tick) && s.damagedNow n

/-- It has held in every sample over 5,000 ticks. -/
def State.damageDue (s : State) (n : Fin 8) : Bool := s.damaging n && s.lasted (s.fuse n).damageSince 5000

/-- DAMAGED is entered. -/
def State.fuseDamage (s : State) (n : Fin 8) : State :=
  let s := s.fuseOff n 6 9
  let s := s.setFuse n { s.fuse n with healthySince := none }
  (((s.event .fuseDamaged (objRef 2 n.val)).trigger 11).detect 9 0 (objRef 2 n.val)).settle

/-- DAMAGE_DETECT (R320). -/
def execDamageDetect (n : Fin 8) (s : State) : Host.Outcome State Fault Refusal :=
  if s.damageDue n then done (s.fuseDamage n) else done s

/-! ### Commands (R312, R313, R333) -/

/-- ON (R313, R320): a judgement of damage of the same tick wins (R331). -/
def State.efuOn (s : State) (n : Fin 8) : State :=
  let s := s.iff (s.damageDue n) (fun s => s.fuseDamage n)
  if s.fuseState n = 6 then s.event .fuseOnRefused (objRef 2 n.val)
  else (s.setFuse n { s.fuse n with run := true }).fuseEval n

def State.efuOff (s : State) (n : Fin 8) : State := (s.setFuse n { s.fuse n with run := false }).fuseEval n

/-- CLEAR (R312, R331). -/
def State.efuClear (s : State) (n : Fin 8) : State :=
  let x := s.fuse n
  let absent := match x.healthySince with
    | some t => decide (t + 5000 ≤ s.tick)
    | none => false
  if s.fuseState n = 5 then
    (((((s.setFuseState n 1).setFuse n { x with mem := none }).set EFU_CH_STAT_RETRIES 0 n.val)).fuseEval n).settle
  else if s.fuseState n = 6 ∧ absent = true then ((s.setFuseState n 1).fuseEval n).settle
  else s.event .fuseClearRefused (objRef 2 n.val)

def execEfuOn (r : Requester) (n : Fin 8) (s : State) : Host.Outcome State Fault Refusal :=
  done (s.gate r EFU_CMD_ON.addr (fun s => s.ranked r (keyFuse n.val) (fun s => s.efuOn n)))

def execEfuOff (r : Requester) (n : Fin 8) (s : State) : Host.Outcome State Fault Refusal :=
  done (s.gate r EFU_CMD_OFF.addr (fun s => s.ranked r (keyFuse n.val) (fun s => s.efuOff n)))

def execEfuClear (r : Requester) (n : Fin 8) (s : State) : Host.Outcome State Fault Refusal :=
  done (s.gate r EFU_CMD_CLEAR.addr (fun s => s.efuClear n))

/-- A force, or none (R323). -/
def State.setForce (s : State) (f : Option Bool) : State := { s with efu := { s.efu with force := f } }

def execFeedA (r : Requester) (s : State) : Host.Outcome State Fault Refusal :=
  done (s.gate r EFU_CMD_FEED_A.addr (fun s => s.ranked r keyFeed (fun s => s.setForce (some false))))

def execFeedB (r : Requester) (s : State) : Host.Outcome State Fault Refusal :=
  done (s.gate r EFU_CMD_FEED_B.addr (fun s => s.ranked r keyFeed (fun s => s.setForce (some true))))

def execFeedAuto (r : Requester) (s : State) : Host.Outcome State Fault Refusal :=
  done (s.gate r EFU_CMD_FEED_AUTO.addr (fun s => s.ranked r keyFeed (fun s => s.setForce none)))

/-- FEED_GOOD (R322): in the window in every sample over QUAL_MS. -/
def execFeedGood (k : Fin 2) (s : State) : Host.Outcome State Fault Refusal :=
  if s.feedInWin k ∧ !s.on (feedBit k) ∧ s.lasted (s.efu.inSince.get k) (1000 * s.get EFU_FEED_TIME_QUAL_MS) then
    done (s.setB (feedBit k) true)
  else done s

/-- FEED_BAD (R322). -/
def execFeedBad (k : Fin 2) (s : State) : Host.Outcome State Fault Refusal :=
  if !s.feedInWin k ∧ s.on (feedBit k) ∧ s.lasted (s.efu.outSince.get k) (s.get EFU_FEED_TIME_BAD_US) then
    done (s.setB (feedBit k) false)
  else done s

/-- The choice of a feed is due in this tick. -/
def State.feedDue (s : State) : State := { s with efu := { s.efu with switchDue := true } }

/-- FEED_REVERT_TIMER (R323): PREF has been good for REVERT_S seconds, which permits a switch back to it. -/
def execFeedRevertTimer (s : State) : Host.Outcome State Fault Refusal :=
  if s.feedSettled (if s.on EFU_FEED_CFG_PREF then 1 else 0) then done s.feedDue else done s

/-- The switch is complete: the new feed starts with W = 0. -/
def State.switchDone (s : State) : State :=
  let s := { (s.setB EFU_FEED_STAT_STUCK false) with efu := { s.efu with gap := none } }
  let s := s.iff (s.efu.sel != 0) (fun s =>
    let n : Fin 8 := Fin.ofNat 8 (s.efu.sel - 1)
    s.setFuse n { s.fuse n with insertEnd := 0 })
  (s.inc EFU_FEED_STAT_SWITCHES).efuEval

/-- FEED_SWITCH_START (R323): the wanted feed differs from the selected one. The choice is made at the end of the tick, when what became good
in the tick is known. -/
def execFeedSwitchStart (s : State) : Host.Outcome State Fault Refusal :=
  if s.on EFU_FEED_CFG_PAIR_EN ∧ s.wantedFeed ≠ s.efu.sel then done s.feedDue else done s

/-- The choice of a tick: the old feed goes OFF, and the gap begins. -/
def State.feedSwitch (s : State) : State :=
  if !s.efu.switchDue then s
  else
    let w := s.wantedFeed
    let s := { s with efu := { s.efu with switchDue := false } }
    if !s.on EFU_FEED_CFG_PAIR_EN ∨ w = s.efu.sel then s
    else
      let old := s.efu.sel
      let gap := match s.efu.gap with
        | some g => some g
        | none => if old = 0 then none else some (old, s.tick)
      ({ s with efu := { s.efu with sel := w, gap := gap } }).efuEval

/-- The old feed's latest current is below I_OFF. -/
def State.oldFeedOff (s : State) (old : Nat) : Bool :=
  match s.fuseI (if old = 2 then 1 else 0) with
  | some i => decide (i.1 < 100 * s.get EFU_FEED_CFG_I_OFF * i.2)
  | none => false

/-- FEED_BBM_COMPLETE (R323): the gap runs from the fall of the old feed's EF_ON at the latest (R331). -/
def execFeedBbmComplete (s : State) : Host.Outcome State Fault Refusal :=
  match s.efu.gap with
  | some (old, t) => if t + s.get EFU_FEED_BBM_BBM_US ≤ s.tick ∧ s.oldFeedOff old then done s.switchDone else done s
  | none => done s

/-- FEED_STUCK (R323). -/
def execFeedStuck (s : State) : Host.Outcome State Fault Refusal :=
  match s.efu.gap with
  | some (old, t) =>
    if t + s.get EFU_FEED_BBM_BBM_MAX_US ≤ s.tick ∧ !s.oldFeedOff old ∧ !s.on EFU_FEED_STAT_STUCK then
      done ((s.setB EFU_FEED_STAT_STUCK true).event .feedStuck (objRef 2 (old - 1)))
    else done s
  | none => done s

/-! ### Slots (R324 to R326) -/

/-- A removal whose edge is stamped `r`. -/
def State.slotRemove (s : State) (n : Fin 8) (r : Nat) : State :=
  let x := s.fuse n
  let remain := if x.lastWait.1 ≤ r then x.lastWait.2 - r else 0
  let mem : SlotMem := { count := s.get EFU_CH_STAT_RETRIES n.val, latched := s.fuseState n == 5, remain := remain, until_ := r + 60000000 }
  let st := s.fuseState n
  let s := s.setB EFU_CH_STAT_PRESENT false n.val
  let s := s.setFuse n { x with mem := some mem, insertEnd := 0 }
  if st = 2 ∨ st = 3 ∨ st = 4 then s.fuseOff n 1 6 else s.set EFU_CH_STAT_CAUSE 6 n.val

/-- An insertion whose edge is stamped `i`. -/
def State.slotInsert (s : State) (n : Fin 8) (i : Nat) : State :=
  let x := s.fuse n
  let s := (s.setB EFU_CH_STAT_PRESENT true n.val).inc EFU_CH_TEMP_INSERTS n.val
  match x.mem with
  | some m =>
    if i < m.until_ then
      let s := s.set EFU_CH_STAT_RETRIES m.count n.val
      (s.setFuse n { x with mem := none, insertEnd := i + max 250000 m.remain, lastWait := (i, i + m.remain) }).fuseEval n
    else
      let s := (s.set EFU_CH_STAT_RETRIES 0 n.val).iff (s.fuseState n == 5) (fun s => s.setFuseState n 1)
      (s.setFuse n { x with mem := none, insertEnd := i + 250000 }).fuseEval n
  | none =>
    let s := (s.set EFU_CH_STAT_RETRIES 0 n.val).iff (s.fuseState n == 5) (fun s => s.setFuseState n 1)
    (s.setFuse n { x with insertEnd := i + 250000 }).fuseEval n

/-- The level of a slot's presence source: the ball SEQ_PG[`PRES_IDX`] at level `PRES_POL`, or the Catalogue entry `PRES_ENTRY` (R324). -/
def State.slotLevel (s : State) (n : Fin 8) : Bool :=
  if s.on EFU_CH_CFG_PRES_SRC n.val then s.entState (s.get EFU_CH_CFG_PRES_ENTRY n.val) != 0
  else s.seq.pgBall.testBit (s.get EFU_CH_CFG_PRES_IDX n.val) == s.on EFU_CH_CFG_PRES_POL n.val

/-- An edge of a slot's presence ball to `here` has held for PRES_DEB ticks. -/
def State.slotEdge (s : State) (n : Fin 8) (here : Bool) : Bool :=
  s.on EFU_CH_CFG_SLOT_EN n.val && !s.on EFU_CH_CFG_PRES_SRC n.val && s.on EFU_CH_STAT_PRESENT n.val != here &&
  s.slotLevel n == here && (s.fuse n).presFor.1 == here && decide ((s.fuse n).presFor.2 + s.get EFU_SLOT_CFG_PRES_DEB ≤ s.tick)

/-- SLOT_INSERT (R324, R326): an insertion edge has held for PRES_DEB. -/
def execSlotInsert (n : Fin 8) (_ : Unit) (s : State) : Host.Outcome State Fault Refusal :=
  if s.slotEdge n true then done (s.slotInsert n (s.fuse n).presFor.2).settle else done s

/-- SLOT_REMOVE (R324, R325). -/
def execSlotRemove (n : Fin 8) (_ : Unit) (s : State) : Host.Outcome State Fault Refusal :=
  if s.slotEdge n false then done (s.slotRemove n (s.fuse n).presFor.2).settle else done s

/-- SLOT_MEMORY_EXPIRY (R325). -/
def execSlotMemoryExpiry (n : Fin 8) (s : State) : Host.Outcome State Fault Refusal :=
  match (s.fuse n).mem with
  | some m => if m.until_ ≤ s.tick then done (s.setFuse n { s.fuse n with mem := none }) else done s
  | none => done s

/-- Slots whose presence is a Catalogue entry follow its Accession and Deaccession (R324). -/
def State.slotEntry (s : State) (entry : Nat) (here : Bool) : State :=
  s.each ((List.finRange 8).filter (fun n => s.on EFU_CH_CFG_SLOT_EN n.val && s.on EFU_CH_CFG_PRES_SRC n.val &&
      s.get EFU_CH_CFG_PRES_ENTRY n.val == entry && s.on EFU_CH_STAT_PRESENT n.val != here)) (fun s n =>
    if here then s.slotInsert n s.tick else s.slotRemove n s.tick)

/-! ### Start and ownership (R328, R329) -/

/-- Tick g: an adopted channel enters ON; every other demanded one starts, as a fresh insertion where it serves a slot that is present. -/
def State.efuStart (s : State) (adopt : Nat) : State :=
  let s := s.each (List.finRange 8) (fun s n =>
    let here := s.slotLevel n
    let s := s.setFuse n { s.fuse n with run := s.on EFU_CH_CFG_AUTO_ON n.val, insertEnd := s.tick + 250000, presFor := (here, s.tick) }
    s.setB EFU_CH_STAT_PRESENT (here && s.on EFU_CH_CFG_SLOT_EN n.val) n.val)
  s.each ((List.finRange 8).filter (fun n => s.on EFU_CH_CFG_EN n.val)) (fun s n =>
    if adopt.testBit n.val && s.fusesOwned.testBit n.val then
      let s := ((s.fuseOn n).setB EFU_CH_STAT_ADOPTED true n.val).setBit SYS_ADOPT_EF_EF n.val true
      s.setFuse n { s.fuse n with on := true }
    else (s.setFuseState n 1).fuseEval n)

/-- Ownership of a channel is gained (R329): what was ON or INRUSH, or has its output good, conducts at once; otherwise the mirrored
state continues. -/
def State.fuseGain (s : State) (n : Fin 8) (st : Nat) : State :=
  let s := s.set EFU_CH_STAT_CAUSE 0 n.val
  if st = 3 ∨ st = 4 ∨ s.outputGood n then
    let s := s.setB EFU_CH_STAT_ADOPTED true n.val
    if s.outputGood n then
      let s := s.fuseOn n
      s.setFuse n { s.fuse n with on := true }
    else
      let s := s.fuseInrush n
      s.setFuse n { s.fuse n with on := true, riseAt := none, startAt := some s.tick }
  else
    let s := s.setFuseState n (if st = 7 ∨ st = 0 then 1 else st)
    match (s.fuse n).waitEnd with
    | some e => if st = 2 then s.fuseWait n e (s.fuse n).failed else s.fuseEval n
    | none => s.fuseEval n

/-- The fuses at the end of a tick: the choice of a feed, the failures, the samples, and since when each condition has held. -/
def State.efuTick (s : State) : State :=
  let s := s.feedSwitch.failJudge
  let s := s.each (List.finRange 8) (fun s n =>
    let s := s.fuseSquare n
    let x := s.fuse n
    let here := s.slotLevel n
    s.setFuse n { x with
      presFor := if x.presFor.1 = here then x.presFor else (here, s.tick)
      healthySince := sinceIf (s.fuseState n == 6 && !s.damagedNow n) x.healthySince s.tick
      readySince := sinceIf (s.fuseReady n) x.readySince s.tick
      limSince := sinceIf (s.fuseLimited n) x.limSince s.tick
      damageSince := sinceIf (s.damaging n) x.damageSince s.tick })
  { s with efu := { s.efu with
      goodSince := Vector.ofFn (fun k => sinceIf (s.feedGood k) (s.efu.goodSince.get k) s.tick)
      inSince := Vector.ofFn (fun k => sinceIf (s.feedInWin k) (s.efu.inSince.get k) s.tick)
      outSince := Vector.ofFn (fun k => sinceIf (!s.feedInWin k) (s.efu.outSince.get k) s.tick) } }

end Sys2Proof.Machine
end

