-- ==== Sys2Proof/Machine/Thm.lean ====
section
/-! DEFINITION. Thermal supervision (file 14): group temperatures, levels and requests. -/

namespace Sys2Proof.Machine

/-- The sensors of a group that are not faulted, with their temperatures (R363, R364). -/
def State.thmMembers (s : State) (g : Fin 6) : List (Nat × Int) :=
  ((List.range 20).filter (fun i => s.get THM_MAP_GROUP i == g.val && s.valid THM_TEMP_T i)).map (fun i => (i, s.getI THM_TEMP_T i))

/-- The hottest of a list of sensors, the first among equals. -/
def hottest : List (Nat × Int) → Option (Nat × Int)
  | [] => none
  | p :: l => some (l.foldl (fun a q => if a.2 < q.2 then q else a) p)

/-- The hottest valid sensor of the unit (R373). -/
def State.thmMax (s : State) : Option (Nat × Int) :=
  hottest (((List.range 20).filter (fun i => s.valid THM_TEMP_T i)).map (fun i => (i, s.getI THM_TEMP_T i)))

def State.thmLevel (s : State) (g : Nat) : Nat := s.get THM_GRP_STAT_LEVEL g

/-- SD − SD_HYST of a group, in 1/64 °C. -/
def State.thmCool (s : State) (g : Nat) : Int := s.getI THM_GRP_SD_SD g - 320 * s.get THM_GRP_STAT_SD_HYST g

/-- The level of a group at temperature `t`; `run` counts the recomputations at or above SD with this one, `fresh` says it is the first after
tick g (R365, R367, R369). -/
def State.thmNext (s : State) (g : Nat) (t : Int) (run : Nat) (fresh : Bool) : Nat :=
  let old := s.thmLevel g
  let warn := s.getI THM_GRP_THR_WARN g
  let throt := s.getI THM_GRP_THR_THROT g
  let low := decide (t < warn - 16 * s.get THM_GRP_SD_WARN_HYST g)
  if old = 3 ∨ 2 ≤ run ∨ (fresh = true ∧ s.thmCool g ≤ t) then 3
  else if !s.on THM_CTRL_EN then 0
  else if throt ≤ t then 2
  else if old = 2 then
    (if t < throt - 16 * s.get THM_GRP_SD_THROT_HYST g then (if low then 0 else 1) else 2)
  else if warn ≤ t then 1
  else if old = 1 then (if low then 0 else 1)
  else 0

/-- The groups that make requests (R368, R369). -/
def State.thmAsking (s : State) : List Nat :=
  (List.range 6).filter (fun g => s.thmLevel g == 3 || (s.thmLevel g == 2 && s.on THM_CTRL_EN))

/-- The combined requests (R368), and what they reach: derating in sharing, strings asked open. -/
def State.thmRequests (s : State) : State :=
  let l := s.thmAsking
  let old := s.get THM_REQ_STR
  let low := fun (f : Field) (none_ : Nat) => l.foldl (fun m g => min m (s.get f g)) none_
  let str := (l.filter (fun g => s.thmLevel g == 3)).foldl (fun m g => m ||| s.get THM_GRP_ACT_STR_MASK g) 0
  let d := low THM_GRP_ACT_DERATE 100
  let s := (s.set THM_REQ_CAP_CAP (low THM_GRP_CAP_CAP 0x7FFFFFFF)).set THM_REQ_CHG (low THM_GRP_ACT_CHG 0xFFFF)
  let s := ((s.set THM_REQ_DERATE d).set SHR_THERM_IN_DERATE (100 * d)).set THM_REQ_STR str
  let s := s.each ((List.finRange 8).filter (fun n => str.testBit n.val && !old.testBit n.val && s.strOn n)) (fun s n => s.strOpen n 7)
  s.each ((List.finRange 8).filter (fun n => !str.testBit n.val && old.testBit n.val)) (fun s n => s.causeGone n 7)

/-- A group takes a level: counted, recorded, and a trigger on THROTTLE and SHUTDOWN (R365, R424). -/
def State.thmEnter (s : State) (g : Nat) (new : Nat) : State :=
  let old := s.thmLevel g
  if old = new then s
  else
    let hot := s.get THM_GRP_STAT_HOTTEST g
    let s := s.set THM_GRP_STAT_LEVEL new g
    let s := s.iff (new == 1) (fun s => s.inc THM_CNT_WARNS)
    let s := s.iff (new == 2) (fun s => s.inc THM_CNT_THROTTLES)
    let s := s.iff (new == 3) (fun s => s.inc THM_CNT_SHUTDOWNS)
    let s := s.event .thermalLevel (if hot < 12 then objRef 9 hot else objRef 10 (hot - 12))
      [g, old, new, s.getI THM_GRP_STAT_TEMP g, hot]
    s.iff (decide (old < new ∧ 2 ≤ new)) (fun s => s.trigger 13)

/-- A recomputation of a group (R364, R365). -/
def State.thmRecompute (s : State) (g : Fin 6) : State :=
  match hottest (s.thmMembers g) with
  | none =>
    let was := s.on THM_GRP_STAT_INVALID g.val
    let s := ((s.setInvalid THM_GRP_STAT_TEMP g.val).setB THM_GRP_STAT_INVALID true g.val).setB THM_GRP_STAT_SD_COOL false g.val
    let s := { s with thm := { s.thm with run := s.thm.run.set g 0 } }
    s.iff (!was) (fun s => s.event .thermalInvalid 0 [g.val])
  | some (i, t) =>
    let run := if s.getI THM_GRP_SD_SD g.val ≤ t then min 2 (s.thm.run.get g + 1) else 0
    let new := s.thmNext g.val t run (!s.thm.first.get g)
    let s := { s with thm := { s.thm with run := s.thm.run.set g run, first := s.thm.first.set g true } }
    let s := ((s.setI THM_GRP_STAT_TEMP t g.val).setB THM_GRP_STAT_INVALID false g.val).set THM_GRP_STAT_HOTTEST i g.val
    let s := s.thmEnter g.val new
    (s.setB THM_GRP_STAT_SD_COOL (s.thmLevel g.val == 3 && decide (t < s.thmCool g.val)) g.val).thmRequests

/-- THM_CTRL.EN is written 0: groups at WARN and THROTTLE return to NORMAL (R369). -/
def State.thmDisable (s : State) : State :=
  (s.each ((List.range 6).filter (fun g => s.thmLevel g == 1 || s.thmLevel g == 2)) (fun s g => s.thmEnter g 0)).thmRequests

/-- TWARN_OUT and THERM_OUT are driven low (R370). -/
def State.twarnLow (s : State) : Bool := (maskBits 6 (s.get THM_OUT_CFG_TW_MASK)).any (fun g => decide (1 ≤ s.thmLevel g))
def State.thermLow (s : State) : Bool := (maskBits 6 (s.get THM_OUT_CFG_TH_MASK)).any (fun g => s.thmLevel g == 3)

end Sys2Proof.Machine
end

