-- ==== Sys2Proof/Machine/Power.lean ====
section
/-! DEFINITION. The power state (R22 to R31): its transitions, what each block does on entry (R28), the steps of ship mode (R303),
the fence (R476), and the commands that decide a transition. -/

namespace Sys2Proof.Machine

/-! ### The fence (R476) -/

/-- The effective map is emptied: no object is this unit's. -/
def State.ownNothing (s : State) : State :=
  let s := (((s.set HLK_EFF_PH_OWN 0).set HLK_EFF_EF_EF 0).set HLK_EFF_EF_STR 0).set HLK_EFF_EF_RST 0
  (s.set HLK_EFF_RAIL_OWN 0).set HLK_EFF_CH_OWN 0

/-- Entry to FENCED for a cause of HLK_FENCE_CAUSE: outputs safe, UNIT_OK low, CAPLINE and the two-wire buses silent. -/
def State.fence (s : State) (cause : Nat) : State :=
  if s.solo || s.hlk.fenced || s.unitRole == 3 then s
  else
    let s := (((s.setB HLK_STAT_FENCED true).setB HLK_STATE_PRIMARY false).set HLK_STATE_JOIN 6).set HLK_FENCE_CAUSE_CAUSE cause
    let s := ((s.inc HLK_CNT2_FENCES).event .pairFenced 0 [cause]).ownNothing
    let s := { s with hlk := { s.hlk with fenced := true }, boot := { s.boot with unitOkLow := true } }
    let s := s.each (List.finRange 2) (fun s g => (s.fireCut g).groupCheck g)
    let s := s.each (List.finRange 16) (fun s n => s.phaseLow n)
    let s := s.each (List.finRange 24) (fun s n => if s.railEn n then s.enFall n else s.setRail n { s.rail n with enDue := none, p7At := none })
    ((s.efuEval).seqShow).settle

/-! ### The rails are down -/

/-- The configured strings whose disconnect the unit drives; each opens for a cause that does not hold it yet. -/
def State.ownStrs (s : State) : List (Fin 8) := s.confStrs.filter (fun n => s.strsOwned.testBit n.val)

def State.openAll (s : State) (cause : Nat) : State :=
  s.each (s.ownStrs.filter (fun n => !(s.str n).causes.testBit cause)) (fun s n => s.strOpen n cause)

/-- What waits for the end of the shut-down: in EXHAUSTED the branch fuses and the strings, in SHIP the fuses, the records and then the
strings (R28, R303). -/
def State.railsHook (s : State) : State :=
  if !s.railsDown then s
  else match s.power with
    | .exhausted => (s.efuEval).openAll 3
    | .ship =>
      if s.shr.storedAt < s.powerSince ∨ s.ownStrs.any (fun n => !(s.str n).causes.testBit 5) then
        let s := s.efuEval
        let s := s.each s.confStrs (fun s n => s.strSave n)
        s.storeCurves.openAll 5
      else s
    | _ => s

/-- The common end of a command on the rails. -/
def State.seqTail (s : State) : State := (s.seqShow.railsHook).settle

/-! ### Transitions -/

/-- The order of R25. -/
def PowerState.rank : PowerState → Nat
  | .halt => 0 | .exhausted => 1 | .holdup => 2 | .ret => 3 | .prearmed => 4 | .ship => 5 | .normal => 6

/-- The transitions of R22. HALT and SHIP are left only by a restart (R24). -/
def PowerState.moves : PowerState → PowerState → Bool
  | .normal, p => p == .prearmed || p == .holdup || p == .halt || p == .ship
  | .prearmed, p => p == .holdup || p == .normal || p == .halt
  | .holdup, p => p == .ret || p == .exhausted || p == .halt
  | .ret, p => p == .holdup || p == .normal || p == .exhausted || p == .halt
  | .exhausted, p => p == .normal || p == .halt
  | .halt, _ => false
  | .ship, _ => false

/-- The state whose transitions this tick judges: the one it began in (R25). -/
def State.powerWas (s : State) : PowerState := if s.powerSince = s.tick then s.powerFrom else s.power

/-- The tick that state was entered. -/
def State.powerWasSince (s : State) : Nat := if s.powerSince = s.tick then s.powerFromSince else s.powerSince

/-- A transition may be taken: one a tick, out of the state the tick began in, and of coinciding ones the first of R25, which takes the
place of a later one already taken (log entry 11). -/
def State.mayEnter (s : State) (p : PowerState) : Bool :=
  s.power != p && s.boot.g.isSome && s.powerWas.moves p && (s.powerSince != s.tick || decide (p.rank < s.power.rank))

/-- The black-box trigger of an entry (R424). -/
def PowerState.source : PowerState → Option Nat
  | .exhausted => some 2 | .halt => some 3 | .prearmed => some 4 | .holdup => some 5 | _ => none

/-- Entry to a power state: the requests of R28. -/
def State.enterPower (s : State) (p : PowerState) : State :=
  if !s.mayEnter p then s
  else
    let old := s.powerWas
    let outer := p == .normal || p == .prearmed
    let s := { s with
      power := p, powerSince := s.tick, powerFrom := old, powerFromSince := s.powerWasSince
      qual := { pick := if outer then s.qual.pick else none } }
    let s := ((s.convEnter old).shareEnter old).chargeCount
    let s := s.iff (old == .normal) (fun s => s.tuneAbort 7)
    let s := match p.source with
      | some k => s.trigger k
      | none => s
    let s := match p with
      | .halt =>
        let s := { s with boot := { s.boot with prevHalt := true } }
        s.openAll 4
      | .ship => (s.closeWindows (fun _ => true)).timeSave (s.get TB_PCYCLE_COUNT) (s.opTimeAt s.tick) s.boot.shipTime
      | _ => s
    let s := (s.seqEval).efuEval
    let s := s.iff (p == .halt) (fun s => s.fence 5)
    s.seqTail

/-! ### Qualification -/

/-- Summed output current of the rectifiers, mA: the latest READ_IOUT of each that is not stale (log entry 20). -/
def State.rectCurrent (s : State) : Int :=
  (((List.finRange 24).filter (fun n => s.rectState n != 0 && s.fresh (s.rect n).i)).map (fun n =>
    match (s.rect n).i with | some p => p.1 | none => 0)).sum

/-- The bus load current, mA: what the bus-current inputs read, negative while the bus supplies the loads (R258). -/
def State.loadCurrent (s : State) : Int := -s.busI

/-- The converter current is at or above the pickup threshold (R223). -/
def State.pickup (s : State) : Bool := decide (s.pickupThreshold ≤ 100 * s.convCurrent)

def State.loadHeld (s : State) : Bool := decide (s.loadCurrent ≤ 10 * s.rectCurrent)

/-- A condition has held for `n` ticks, in the state this tick began in. -/
def State.held_ (s : State) (since : Option Nat) (n : Nat) : Bool :=
  match since with
  | some t => decide (max t s.powerWasSince + n ≤ s.tick)
  | none => false

/-- A ship-mode command of this tick takes effect, or is refused where it loses to another transition (R25). -/
def State.shipEntry (s : State) : State :=
  if !s.boot.shipAsked then s
  else
    let s := { s with boot := { s.boot with shipAsked := false } }
    if s.power = .normal ∧ s.powerSince ≠ s.tick then s.enterPower .ship else s.event .shipRefused

/-- The rows of R22 that a level meets, and that no command brings again where the level was there before the state was entered: the
exhaustion rule, and an AC-fail source that is asserted. -/
def State.powerLevels (s : State) : State :=
  if (s.powerWas = .holdup ∨ s.powerWas = .ret) ∧ s.allEmpty then s.enterPower .exhausted
  else if !s.acFail then s
  else if s.powerWas = .normal then s.enterPower .prearmed
  else if s.powerWas = .ret then s.enterPower .holdup
  else s

/-- The conditions of R22 at the end of a tick, and a ship-mode command (R22, R25). -/
def State.powerTick (s : State) : State :=
  if s.boot.g.isNone then s
  else
    let s := (s.powerLevels.shipEntry.shortTick.shedJudge 0).shedJudge 1
    let outer := s.power == .normal || s.power == .prearmed
    { s with qual := {
      pick := sinceIf (outer && s.pickup) s.qual.pick s.tick
      quiet := sinceIf (!s.acFail && !s.pickup) s.qual.quiet s.tick
      load := sinceIf (!s.acFail && s.loadHeld) s.qual.load s.tick
      low := sinceIf (!s.loadHeld) s.qual.low s.tick } }

/-- AC_FAIL_ASSERT (R222): the ball of a SHEV line is at its active level, and the line asserts in the tick in which it has been so for
`DEGLITCH` ticks; or ACSYNC is lost, where no line is named. -/
def execAcFailAssert (j : Option (Fin 4)) (s : State) : Host.Outcome State Fault Refusal :=
  match j with
  | some j => done ((s.shevBall j true).shevLine j).powerLevels
  | none => done s.powerLevels

/-- AC_FAIL_CLEAR (R222): the ball of a SHEV line is at its inactive level, and the line clears in the tick in which it has been so for
`DEGLITCH` ticks. -/
def execAcFailClear (j : Fin 4) (s : State) : Host.Outcome State Fault Refusal :=
  done ((s.shevBall j false).shevLine j)

/-- Entry to HOLDUP by pickup or by a fire, counted. -/
def State.pickupEnter (s : State) : State :=
  if s.mayEnter .holdup then (s.inc CNV_CNT_PICKUPS).enterPower .holdup else s

/-- PICKUP_QUALIFIED (R22): the period runs on from NORMAL to PREARMED. -/
def execPickupQualified (s : State) : Host.Outcome State Fault Refusal :=
  if (s.powerWas = .normal ∨ s.powerWas = .prearmed) ∧ s.lasted s.qual.pick 20 then
    done s.pickupEnter
  else done s

/-- PREARM_CLEAR_QUALIFIED (R22). -/
def execPrearmClearQualified (s : State) : Host.Outcome State Fault Refusal :=
  if s.powerWas = .prearmed ∧ s.held_ s.qual.quiet 50000 then done (s.enterPower .normal) else done s

/-- RETURN_QUALIFIED (R22). -/
def execReturnQualified (s : State) : Host.Outcome State Fault Refusal :=
  if s.powerWas = .holdup ∧ s.held_ s.qual.load 10000 then done (s.enterPower .ret) else done s

/-- RETURN_LOAD_LOST (R22, R29). -/
def execReturnLoadLost (s : State) : Host.Outcome State Fault Refusal :=
  if s.powerWas = .ret ∧ s.held_ s.qual.low 1000 then done (s.enterPower .holdup) else done s

/-- HANDBACK_RAMP_COMPLETE (R22, R224). -/
def execHandbackRampComplete (s : State) : Host.Outcome State Fault Refusal :=
  if s.powerWas = .ret ∧ s.powerWasSince + s.get CNV_RAMP_RAMP ≤ s.tick ∧ s.convCurrent ≤ 0 then done (s.enterPower .normal) else done s

/-- NO_STRING_CLOSED_EXPIRY (R22): the period runs on between HOLDUP and RETURN. -/
def execNoStringClosedExpiry (s : State) : Host.Outcome State Fault Refusal :=
  if (s.powerWas = .holdup ∨ s.powerWas = .ret) ∧ s.closedStrs.isEmpty ∧
      s.lasted s.bat.noneClosed 1000 then
    done (s.enterPower .exhausted)
  else done s

/-- EXHAUSTED_RECOVERED (R22). -/
def execExhaustedRecovered (s : State) : Host.Outcome State Fault Refusal :=
  if s.powerWas = .exhausted ∧ s.held_ s.bat.acClear 10000 ∧ s.held_ s.bat.regSince 10000 then done (s.enterPower .normal) else done s

/-- EFFICIENCY_RESUME_TIMER (R28, R245). -/
def execEfficiencyResumeTimer (s : State) : Host.Outcome State Fault Refusal :=
  if s.due s.shr.resumeAt then done { s with shr := { s.shr with resumeAt := none } } else done s

/-- EMPTY_QUALIFIED (R286): the string is EMPTY; with every CLOSED string EMPTY, HOLDUP and RETURN end (R22). -/
def execEmptyQualified (n : Fin 8) (s : State) : Host.Outcome State Fault Refusal :=
  if s.emptyNow n then done ((s.strEmptyEntry n).settle).powerLevels else done s

/-- ALLFIRE (R229): an armed group fires, and HOLDUP is entered in that tick. -/
def execAllfire (g : Fin 2) (fine : Option Swing × Option Swing) (lat : Fin 14) (s : State) : Host.Outcome State Fault Refusal :=
  let s' := s.slopeNote g fine.1
  match s.tripAt g fine with
  | none => done s'
  | some f =>
    if s.fires g then
      let s := s'.fire g f lat
      if s.powerWas = .normal ∨ s.powerWas = .prearmed then done s.pickupEnter else done s.settle
    else if s.fireLost g then done ((s'.fireRecord g f lat).lockout g)
    else done s'

/-- A group with a member's conversion to take up is recomputed (R364); with SD_HALT 1 an entry to SHUTDOWN is the HALT condition
(R366). -/
def State.thmGroup (s : State) (g : Fin 6) : State :=
  if !s.thm.due.testBit g.val then s
  else
    let was := s.thmLevel g.val
    let s := (({ s with thm := { s.thm with due := s.thm.due - 2 ^ g.val } }).thmRecompute g).settle
    s.iff (was != 3 && s.thmLevel g.val == 3 && s.on THM_GRP_ACT_SD_HALT g.val) (fun s => s.enterPower .halt)

/-- THERMAL_GROUP_RECOMPUTE (R364 to R368): in the tick in which a member's conversion completes. -/
def execThermalGroupRecompute (g : Fin 6) (s : State) : Host.Outcome State Fault Refusal :=
  if s.boot.g.isNone then done s else done (s.thmGroup g)

/-- No group is left unrecomputed at the end of the tick. -/
def State.thmTick (s : State) : State := if s.boot.g.isNone then s else s.each (List.finRange 6) State.thmGroup

/-! ### Ship mode (R23, R303) -/

/-- The ship-mode command with the word written. Accepted, it takes effect at the end of the tick, when no other transition took its place
(R25). -/
def State.shipCmd (s : State) (w : Word) : State :=
  if bitsOf w 16 1 = 0 then s
  else if bitsOf w 0 16 ≠ 0x5A5A then s.event .shipKeyWrong 0 [bitsOf w 0 16]
  else if s.power ≠ .normal ∨ !s.full ∨ s.powerSince = s.tick ∨ !s.bitOn SYS_SUPPLY_STAT_GOOD 5 then s.event .shipRefused
  else { s with boot := { s.boot with shipAsked := true } }

/-- SHIP (R303). -/
def execShip (r : Requester) (w : Word) (s : State) : Host.Outcome State Fault Refusal :=
  done (s.gateRole r BAT_SHIP_CMD_SHIP.addr .curator (fun s => s.shipCmd w))

/-- Every step before the power-down of R303 is done. -/
def State.shipReady (s : State) : Bool :=
  s.power == .ship && s.railsDown && s.bbx.recs.isEmpty && s.ownStrs.all (fun n => (s.str n).causes.testBit 5) &&
  (List.finRange 8).all (fun n => !(s.fuse n).on) && decide (s.powerSince ≤ s.shr.storedAt)

/-- The core powers down, leaving the wake domain (R303 step 5). -/
def State.shipTick (s : State) : State :=
  if s.shipReady && !s.boot.por then
    { s with boot := { s.boot with por := true, shipLatch := s.boot.vbatKeep, shipTicks := 0, woke := false, unitOkLow := true } }
  else s

end Sys2Proof.Machine
end

