-- ==== Sys2Proof/Machine/SeqCmd.lean ====
section
/-! DEFINITION. The commands of rail sequencing and supervision (file 13). -/

namespace Sys2Proof.Machine

/-! ### Commands (R340, R341) -/

/-- The run request takes a value. -/
def State.seqRequest (s : State) (up : Bool) : State := (({ s with seq := { s.seq with run := up } }).seqEval).seqTail

/-- The sequence at the end of a tick: the faults of the tick (R357), its step and its demand once more, the samples of the tick in which RUN
was entered, and SHELF_GOOD. A sequence that a shut-down left in OFF while it is demanded again goes UP by the end of the tick (R340). -/
def State.seqTick (s : State) : State :=
  if s.boot.g.isNone then s
  else
    let s := s.faultJudge.upCheck.downCheck.seqEval
    let s := { s with seq := { s.seq with upFell := false } }
    let s := (s.iff (!s.on SEQ_CFG_UP_EN) (fun s => s.setB SEQ_CASC_UP_OUT false)).iff (!s.on SEQ_CFG_DN_EN) (fun s => s.setB SEQ_CASC_DN_OUT false)
    s.runSamples.seqTail.sgAssert

/-- CLEAR: FAULT to OFF with the retry count cleared, else refused. -/
def State.seqClear (s : State) : State :=
  if s.seqState = 5 then (((s.set SEQ_STATE_STATE 0).set SEQ_STATE_RETRIES 0).seqEval).seqTail else s.event .seqClearRefused

/-- SEQ_UP (R341). -/
def execSeqUp (r : Requester) (s : State) : Host.Outcome State Fault Refusal := done (s.gate r SEQ_CMD_UP.addr (fun s => s.ranked r keySeq (fun s => s.seqRequest true)))

/-- SEQ_DOWN (R341). -/
def execSeqDown (r : Requester) (s : State) : Host.Outcome State Fault Refusal := done (s.gate r SEQ_CMD_UP.addr (fun s => s.ranked r keySeq (fun s => s.seqRequest false)))

/-- SEQ_CLEAR (R340). -/
def execSeqClear (r : Requester) (s : State) : Host.Outcome State Fault Refusal := done (s.gate r SEQ_CMD_UP.addr State.seqClear)

/-! ### Power good and qualification (R336 to R339) -/

/-- The ball SEQ_PG[n] takes a level. -/
def State.pgBallTo (s : State) (n : Fin 24) (high : Bool) : State :=
  { s with seq := { s.seq with pgBall := if high then s.seq.pgBall ||| 2 ^ n.val else s.seq.pgBall - (s.seq.pgBall &&& 2 ^ n.val) } }

/-- PG_DEGLITCH_CHANGE (R336): the ball SEQ_PG[n] is at a level, and the deglitched PG changes in the tick in which the input has held its
new level for `DEGL` ticks. -/
def execPgDeglitchChange (n : Fin 24) (high : Bool) (s : State) : Host.Outcome State Fault Refusal :=
  done ((s.pgBallTo n high).pgLine n).seqTail

/-- Every PG input at the start of a tick. -/
def State.pgJudge (s : State) : State :=
  let due := (List.finRange 24).filter (fun n => s.pgInput n != s.railPg n)
  if due.isEmpty then s else (s.each due State.pgLine).seqTail

/-- RAIL_QUALIFIED (R337): not in the tick its window ends (R339), nor after an expiry (R346). -/
def execRailQualified (n : Fin 24) (s : State) : Host.Outcome State Fault Refusal :=
  let x := s.rail n
  let late := s.seqState == 1 && !x.everQual && decide (x.enAt + 1000 * s.get SEQ_RAIL_TIME_WIN n.val ≤ s.tick)
  let due := match x.pgSince with
    | some t => decide (t + 1000 * s.get SEQ_RAIL_TIME_QUAL n.val ≤ s.tick)
    | none => false
  if s.railOn n && s.ownRail n && s.railPg n && s.railEn n && !s.railQual n && !s.bitOn RMN_EXPIRED_MASK n.val && s.seqState != 3 &&
      due && !late then done ((s.qualify n).seqTail)
  else done s

/-- RAIL_EN_RISE (R338). -/
def execRailEnRise (n : Fin 24) (s : State) : Host.Outcome State Fault Refusal :=
  if s.due (s.rail n).enDue && s.seqState == 1 then done ((s.enRise n).seqTail) else done s

/-- RAIL_WINDOW_EXPIRY (R339): a rail fault, which is judged at the end of the tick (R357). -/
def execRailWindowExpiry (n : Fin 24) (s : State) : Host.Outcome State Fault Refusal :=
  let x := s.rail n
  if s.seqState == 1 && s.ownRail n && s.railOn n && s.railEn n && !x.everQual &&
      decide (x.enAt + 1000 * s.get SEQ_RAIL_TIME_WIN n.val ≤ s.tick) then done (s.railFault n.val 1)
  else done s

/-! ### Supervision (R343 to R347) -/

/-- RMON_SAMPLE (R335, R345, R350): the latest result of monitor input n, each result once. -/
def execRmonSample (n : Fin 24) (s : State) : Host.Outcome State Fault Refusal :=
  let m := s.afe.latest.get (Fin.ofNat 64 n.val)
  let x := s.rail n
  if m.valid && x.convAt != some m.tick then
    done (((s.setRail n { x with convAt := some m.tick }).railSample n (s.railVolts n m.code)).seqTail)
  else done s

/-- RAIL_WARNING (R344). -/
def execRailWarning (n : Fin 24) (s : State) : Host.Outcome State Fault Refusal :=
  let x := s.rail n
  match x.v, x.warnSince with
  | some v, some t =>
    if s.levelsJudged n && !s.inWarn n && s.outWarn n false v && decide (t + 1000 * s.get RMN_TIME_WARN_T ≤ s.tick) then
      let low := decide (v < 10 * (s.get RMN_RAIL_CFG_NOM n.val : Int))
      let s := (s.setB RMN_RAIL_MEAS_WARN_UV low n.val).setB RMN_RAIL_MEAS_WARN_OV (!low) n.val
      let s := (s.setBit RMN_WARN_MASK n.val true).inc RMN_CNT_WARNINGS
      done (s.event .railWarning (objRef 6 n.val) [if low then 0 else 1, v])
    else done s
  | _, _ => done s

/-- FAULT_TIMER_EXPIRY (R345, R346): judged at the end of the tick, so that a test that stops the timer in the tick wins (R357). -/
def execFaultTimerExpiry (n : Fin 24) (s : State) : Host.Outcome State Fault Refusal :=
  if s.timerOver n then done (s.railFault n.val 3) else done s

/-- FLT_ACT0_REQUALIFY (R346). -/
def execFltAct0Requalify (n : Fin 24) (s : State) : Host.Outcome State Fault Refusal :=
  let x := s.rail n
  if s.bitOn RMN_EXPIRED_MASK n.val && s.get RMN_RAIL_CFG_FLT_ACT n.val == 0 && x.timer.isNone && s.railPg n && s.railEn n &&
      decide (x.stoppedAt + 1000 * s.get SEQ_RAIL_TIME_QUAL n.val ≤ s.tick) then done ((s.qualify n).seqTail)
  else done s

/-- A test starts, or its time restarts: level timers stop; a PG that is low starts its own (R347). -/
def State.testStart (s : State) : State :=
  let s := { s with seq := { s.seq with testEnd := some (s.tick + 1000000 * s.get RMN_CFG_TEST_S) } }
  s.each (List.finRange 24) (fun s n =>
    match (s.rail n).timer with
    | some (_, true) =>
      if s.railPg n then s.setRail n { s.rail n with timer := none, fired := false, stoppedAt := s.tick }
      else s.setRail n { s.rail n with timer := some (s.tick, false), fired := false }
    | _ => s)

def State.testStop (s : State) : State := { s with seq := { s.seq with testEnd := none } }

/-- RMN_TEST (R347). -/
def execRmnTest (r : Requester) (s : State) : Host.Outcome State Fault Refusal :=
  done (s.gate r RMN_CMD_TEST.addr (fun s => s.testStart.seqTail))

/-- RMN_TEST_END (R347). -/
def execRmnTestEnd (r : Requester) (s : State) : Host.Outcome State Fault Refusal :=
  done (s.gate r RMN_CMD_TEST.addr (fun s => s.testStop.seqTail))

/-- TEST_TIMEOUT (R347). -/
def execTestTimeout (s : State) : Host.Outcome State Fault Refusal :=
  if s.due s.seq.testEnd then done s.testStop.seqTail else done s

/-- RESET_STRETCH_END (R348). -/
def execResetStretchEnd (k : Fin 8) (s : State) : Host.Outcome State Fault Refusal :=
  match s.seq.rst.get k with
  | some t =>
    if s.rstCond k.val && decide (t + 1000 * s.get SEQ_RST_TIME_STRETCH k.val ≤ s.tick) then done (s.setB SEQ_RST_TIME_ASSERTED false k.val) else done s
  | none => done s

/-! ### Shut-down (R351, R352) -/

/-- DN_STUCK (R351). -/
def execDnStuck (n : Fin 24) (s : State) : Host.Outcome State Fault Refusal :=
  let x := s.rail n
  if s.seqState == 3 && s.ownRail n && s.railOn n && !s.railEn n && !x.off && !x.stuck &&
      decide (x.fellAt + 10000 * s.get SEQ_RAIL_DN_DIS_TMO n.val ≤ s.tick) then done (s.railFault n.val 4)
  else done s

/-- P7_EN_FALL (R352). -/
def execP7EnFall (n : Fin 24) (s : State) : Host.Outcome State Fault Refusal :=
  if s.due (s.rail n).p7At && s.seqState == 3 then done (((s.enFall n).downCheck).seqTail) else done s

/-! ### Retries and the cascade (R340, R354) -/

/-- SEQ_RETRY_EXPIRY (R340). -/
def execSeqRetryExpiry (s : State) : Host.Outcome State Fault Refusal :=
  if s.seqState = 4 ∧ s.seqPrimary ∧ s.seqDemanded ∧ s.seq.since + 1000 * s.get SEQ_TIME_RETRY_MS ≤ s.tick then done (s.startUp.seqTail)
  else done s

/-- SEQ_RETRY_RESET (R340). -/
def execSeqRetryReset (s : State) : Host.Outcome State Fault Refusal :=
  if s.seqState = 2 ∧ s.seq.runSince + 60000000 ≤ s.tick then
    done { (s.set SEQ_STATE_RETRIES 0) with seq := { s.seq with runSince := s.tick } }
  else done s

/-- The deglitched SEQ_DN_IN changes (R354). -/
def State.dnIn (s : State) (high : Bool) : State :=
  let s := s.setB SEQ_CASC_DN_IN high
  if !s.on SEQ_CFG_DN_EN then s
  else match s.seqState, high with
    | 1, true => s.upCheck.seqTail
    | 2, false => s.iff s.seqPrimary State.cascFault
    | 3, false => s.iff s.seq.cascSince.isSome (fun s => s.downProceed.seqTail)
    | _, _ => s

/-- The deglitched SEQ_UP_IN changes (R340, R341). -/
def State.upIn (s : State) (high : Bool) : State :=
  let s := (s.setB SEQ_CASC_UP_IN high)
  let s := { s with seq := { s.seq with upFell := s.seq.upFell || !high } }
  s.iff (s.on SEQ_CFG_UP_EN) (fun s => s.seqEval.seqTail)

/-- The cascade inputs in this tick: each deglitched over 20 ticks (R353). -/
def State.cascLine (s : State) : State :=
  let s := s.iff (s.seq.dnBall.1 != s.on SEQ_CASC_DN_IN && decide (s.seq.dnBall.2 + 20 ≤ s.tick)) (fun s => s.dnIn s.seq.dnBall.1)
  s.iff (s.seq.upBall.1 != s.on SEQ_CASC_UP_IN && decide (s.seq.upBall.2 + 20 ≤ s.tick)) (fun s => s.upIn s.seq.upBall.1)

/-- The ball SEQ_DN_IN where `dn`, else SEQ_UP_IN, takes a level; without VIO_B its pull holds it low (R593, R621). -/
def State.cascBall (s : State) (dn highAt : Bool) : State :=
  let high := highAt && s.bitOn SYS_SUPPLY_STAT_GOOD 3
  let at_ := fun (b : Bool × Nat) => if b.1 = high then b else (high, s.tick)
  { s with seq := { s.seq with
      dnBall := if dn then at_ s.seq.dnBall else s.seq.dnBall, upBall := if dn then s.seq.upBall else at_ s.seq.upBall } }

/-- CASCADE_INPUT_CHANGE (R353, R354): a cascade input is at a level; it acts in the tick in which it has been so for 20 ticks. -/
def execCascadeInputChange (dn high : Bool) (s : State) : Host.Outcome State Fault Refusal :=
  let s := s.cascBall dn high
  if s.boot.g.isNone then done s else done s.cascLine

/-- CASCADE_TIMEOUT (R354). -/
def execCascadeTimeout (s : State) : Host.Outcome State Fault Refusal :=
  match s.seq.cascSince with
  | some t =>
    if t + 1000 * s.get SEQ_TIME_CASC_TMO_MS ≤ s.tick then
      (if s.seqState = 1 then done s.cascFault
       else if s.seqState = 3 then done (((((s.setB SEQ_STUCK_CASC true).event .cascadeStuck).faultRecord 24 4).downProceed).seqTail)
       else done s)
    else done s
  | none => done s

end Sys2Proof.Machine
end

