-- ==== Sys2Proof/Machine/ChnOps.lean ====
section
/-! DEFINITION. What leaves a chain port (R551 to R553), and the state of the update as `UPD_STATE` shows it. -/

namespace Sys2Proof.Machine

/-- A chain port is up. -/
def State.chainUp (s : State) (p : Fin 2) : Bool := s.on CHN_PORT_STAT_LINK p.val

/-- Chain port p has its enable, on a unit that carries chain traffic (R550). -/
def State.chainOn (s : State) (p : Fin 2) : Bool :=
  s.unitRole != 3 && (if p = 0 then s.on CHN_CFG_UP_EN else s.on CHN_CFG_DN_EN)

/-- Type, RETX, image, block, hop count and payload of a frame (R551, R552). -/
def ChainOut.parts : ChainOut → Nat × Bool × Nat × Nat × Nat × List Byte
  | .block i b hop retx _ payload => (1, retx, i.toNat, b, hop, payload)
  | .ack i b => (2, false, i.toNat, b, 0, [])
  | .nak i b reason => (3, false, i.toNat, b, 0, leBytes 1 reason ++ leBytes 3 0)
  | .hello payload => (4, false, 0, 0, 0, payload)
  | .status payload => (5, false, 0, 0, 0, payload)

/-- The bytes of a frame between its K27.7 and its K29.7 (R551); a frame that ends with K30.7 has no CRC. -/
def ChainOut.bytes (m : ChainOut) : List Byte :=
  let (type, retx, image, b, hop, payload) := m.parts
  let body := leBytes 1 type ++ leBytes 1 (if retx then 1 else 0) ++ leBytes 2 payload.length ++ leBytes 4 image ++ leBytes 4 b ++
    leBytes 1 hop ++ leBytes 3 0 ++ payload
  match m with
  | .block _ _ _ _ true _ => body
  | _ => body ++ leBytes 4 (crc32c body).toNat

/-- A frame leaves a chain port. -/
def State.chainSend (s : State) (p : Fin 2) (m : ChainOut) : State :=
  let s := s.incWrap CHN_TX_CNT_FRAMES p.val
  { s with chn := { s.chn with frame := m.bytes, out := s.chn.out.filter (fun x => x.1 == s.tick) ++ [(s.tick, p.val, m)] } }

/-- The payload of HELLO (R552). -/
def State.helloBytes (s : State) : List Byte :=
  leBytes 4 (s.get SYS_UID_LO_UID_LO) ++ leBytes 4 (s.get SYS_UID_HI_UID_HI) ++ leBytes 1 (s.get UPD_STATE_STATE) ++
    leBytes 1 (s.get UPD_STATE_RESULT) ++ leBytes 2 0

/-- The payload of STATUS (R552). -/
def State.statusBytes (s : State) : List Byte := s.helloBytes ++ leBytes 4 (s.get UPD_IMAGE_ID)

/-- The chain port the image came in on. -/
def State.srcPort (s : State) : Fin 2 := Fin.ofNat 2 (s.get CHN_LAST_SRC_PORT)

/-- Every change of `UPD_STATE` sends a STATUS out of the port the image came in on (R553). -/
def State.updChange (s : State) (f : State → State) : State :=
  let old := s.reg UPD_STATE_STATE.addr
  let s := f s
  if s.reg UPD_STATE_STATE.addr != old && s.chainUp s.srcPort then s.chainSend s.srcPort (.status s.statusBytes) else s

/-- The update enters a state, with a result and a failing part. -/
def State.updEnter (s : State) (st result part : Nat) : State :=
  s.updChange (fun s => ((s.set UPD_STATE_STATE st).set UPD_STATE_RESULT result).set UPD_STATE_FAIL_PART part)

end Sys2Proof.Machine
end

