-- ==== Sys2Proof/Machine/Cck.lean ====
section
/-! DEFINITION. The configuration check (R85 to R91): page CRCs, scans, the commit, and the restoration of a corrupt page. -/

namespace Sys2Proof.Machine

/-- The class-C registers of page `p`, in ascending offset (R86). -/
def pageConfig (p : Nat) : List Nat :=
  ((List.range 1024).map (fun i => p * 0x4000 + 4 * i)).filter (fun a => classOf a == some .c)

/-- The bits of the register at `a` whose type is one of `ts`. -/
def bitsTyped (ts : List FieldType) (a : Nat) : Word :=
  match findRow a with
  | none => 0
  | some r => r.mask ts

/-- The page CRC (R86). -/
def State.pageCrc (s : State) (p : Nat) : Word :=
  let words := (pageConfig p).map (fun a => s.reg a &&& bitsTyped [.rw, .rwk] a)
  if words.isEmpty then 0 else crc32c (words.map (fun w => leBytes 4 w.toNat)).flatten

/-- The CRC over the 31 page CRCs, 124 bytes (R86). -/
def crcOfPages (l : List Word) : Word := crc32c (l.map (fun w => leBytes 4 w.toNat)).flatten

/-- The register that shows page `p`'s CRC. -/
def cfgCrcAddr (p : Nat) : Nat := p * 0x4000 + 0x18

/-- The mirrored configuration CRC (R468): pages excluded count as 0. -/
def State.mirrorCrc (s : State) : Word :=
  crcOfPages ((List.range 31).map (fun p => if s.bitOn HLK_PAGE_EXCL_PAGES p then 0 else s.reg (cfgCrcAddr p)))

/-- RW fields of class C, register words by address, as a commit keeps them (R91). -/
def State.configCopy (s : State) : List (Nat × Word) :=
  (((List.range 31).map pageConfig).flatten.filter (fun a => bitsTyped [.rw] a != 0)).map
    (fun a => (a, s.reg a &&& bitsTyped [.rw] a))

/-- CCK_SCAN_START (R87): every 1,000 ticks from the tick after the Kiln load, while EN is 1. -/
def execCckScanStart (s : State) : Host.Outcome State Fault Refusal :=
  match s.cck.first with
  | none => done s
  | some f =>
    if f ≤ s.tick ∧ (s.tick - f) % 1000 = 0 ∧ s.on CCK_CTRL_EN ∧ s.cck.scan.isNone then
      done { s with cck := { s.cck with scan := some s.tick, touched := [], commitScan := s.on CCK_STAT_COMMIT_BUSY } }
    else done s

/-- The mismatched pages of the last results against the references. -/
def State.mismatched (s : State) : List Nat :=
  if s.on CCK_STAT_REF_VALID then (List.range 31).filter (fun p => s.reg (cfgCrcAddr p) != s.cck.refs.getD p 0) else []

/-- A corrupt page is restored (R91): its RWK fields from the Kiln record, its RW fields as they were at the commit. -/
def State.restorePage (s : State) (p : Nat) : State :=
  let s := s.each (pageConfig p) (fun s a =>
    let k := bitsTyped [.rwk] a
    let r := bitsTyped [.rw] a
    let w := (s.reg a &&& ~~~(k ||| r)) ||| (look (fun _ => 0) s.cck.kiln a &&& k) ||| (look (fun _ => 0) s.cck.copy a &&& r)
    s.setReg a w)
  s.event .pageRestored 0 [p]

/-- The masks at the end of a scan (R88), and what a new CORRUPT page brings (R88, R91, class 3 of R577). -/
def State.judgePages (s : State) : State :=
  let mis := s.mismatched
  let cor := mis.filter (fun p => !s.bitOn CCK_WR_MASK_WR p)
  let new := cor.filter (fun p => !s.bitOn CCK_CORRUPT_MASK_COR p)
  let s := (s.set CCK_MIS_MASK_MIS (maskOf mis)).set CCK_CORRUPT_MASK_COR (maskOf cor)
  let s := s.iff (!mis.isEmpty) (fun s => s.inc CCK_MIS_CNT_MIS_SCANS)
  let s := s.each new (fun s p => ((s.inc CCK_MIS_CNT_CORRUPTS).event .pageCorrupt 0 [p]).detect 3 0)
  if s.on CCK_ACTION_RELOAD then
    if s.get CCK_REF_REF = s.get CCK_REF_BAKED_REF_BAKED then s.each cor State.restorePage
    else s.each new (fun s p => s.event .pageNotRestored 0 [p])
  else s

/-- The commit at the end of its scan (R89), or its end without one where a class-C write landed. -/
def State.commitEnd (s : State) : State :=
  let s := s.setB CCK_STAT_COMMIT_BUSY false
  if s.cck.touched.isEmpty then
    let s := { s with cck := { s.cck with refs := (List.range 31).map (fun p => s.reg (cfgCrcAddr p)), copy := s.configCopy } }
    let s := ((s.set CCK_REF_REF (s.get CCK_CUR_CUR)).set CCK_WR_MASK_WR 0).set CCK_MIS_MASK_MIS 0
    let s := (s.set CCK_CORRUPT_MASK_COR 0).setB CCK_STAT_REF_VALID true
    ((s.inc CCK_COMMIT_CNT_COMMITS).stamp CCK_COMMIT_TICK_TICK).storedChange
  else (s.inc CCK_COMMIT_CNT_COMMIT_REFUSED).event .commitAbandoned

/-- CCK_SCAN_COMPLETE (R87 to R89): `cut` has a bit for each page written while the scan was reading it; of these the result is
discarded. -/
def execCckScanComplete (cut : BitVec 31) (s : State) : Host.Outcome State Fault Refusal :=
  match s.cck.scan with
  | none => done s
  | some t =>
    let out := (List.range 31).filter (fun p => cut.toNat.testBit p && s.cck.touched.contains p)
    let s := s.each ((List.range 31).filter (fun p => !out.contains p)) (fun s p => s.setReg (cfgCrcAddr p) (s.pageCrc p))
    let s := s.set CCK_CUR_CUR (crcOfPages ((List.range 31).map (fun p => s.reg (cfgCrcAddr p)))).toNat
    let s := (s.incWrap CCK_SCAN_CNT_SCANS).addSat CCK_REPEAT_CNT_REPEATS out.length
    let s := (s.set CCK_SCAN_TIME_LAST (s.tick - t)).maxOf CCK_SCAN_TIME_MAX (s.tick - t)
    let s := if s.cck.commitScan then s.commitEnd else s
    let s := s.judgePages
    done (({ s with cck := { s.cck with scan := none, touched := [], commitScan := false } }).settle)

/-- CCK_CMD.COMMIT (R89). -/
def State.commitCmd (s : State) : State :=
  if s.on CCK_STAT_COMMIT_BUSY then s
  else if s.get CCK_CORRUPT_MASK_COR ≠ 0 ∨ !s.on CCK_CTRL_EN then s.inc CCK_COMMIT_CNT_COMMIT_REFUSED
  else s.setB CCK_STAT_COMMIT_BUSY true

/-- With `EN` written to 0 no scan starts any more: a commit that waits for its scan is abandoned (R89). -/
def State.commitDrop (s : State) : State :=
  if s.on CCK_STAT_COMMIT_BUSY && !s.cck.commitScan then
    ((s.setB CCK_STAT_COMMIT_BUSY false).inc CCK_COMMIT_CNT_COMMIT_REFUSED).event .commitAbandoned
  else s

/-- Whether a command comes from the partner unit. -/
def fromPartner : Requester → Bool
  | .partner => true
  | _ => false

/-- CCK_COMMIT (R89), mirrored to the partner unit (R467). -/
def execCckCommit (r : Requester) (s : State) : Host.Outcome State Fault Refusal :=
  done (s.gate r CCK_CMD_COMMIT.addr (fun s => s.commitCmd.iff (!fromPartner r) (fun s => s.mirrorCommand 2)))

end Sys2Proof.Machine
end

