-- ==== Sys2Proof/Machine/Watchdog.lean ====
section
/-! DEFINITION. The host watchdog (file 22): toggles, windows, the ledger, suspension during a wipe, and expiry. -/

namespace Sys2Proof.Machine

/-- The ledger bits that are missing (R520, R522). -/
def State.ledgerMissing (s : State) : Nat :=
  (BitVec.ofNat 16 (s.get WDG_LEDGER_MASK_MASK) &&& ~~~(BitVec.ofNat 16 (s.get WDG_LEDGER_BITS))).toNat

/-- Length of a window without its closed phase, and of the closed phase, in ticks (R518). -/
def State.wdgClosed (s : State) : Nat := 1000 * s.get WDG_CFG_CLOSED_MS
def State.wdgOpen (s : State) : Nat := 1000 * s.get WDG_CFG_OPEN_MS

/-- Expiry (R522), with its cause: 1 LATE, 2 EARLY. -/
def State.wdgExpire (s : State) (cause : Nat) : State :=
  let missing := s.ledgerMissing
  let s := (s.set WDG_STATE_STATE 3).set WDG_STATE_PHASE 1
  let s := ((s.set WDG_LAST_EXP_MISSING missing).set WDG_LAST_EXP_CAUSE cause).stamp WDG_EXP_TICK_TICK
  let s := s.inc (if cause = 1 then WDG_FAULT_CNT_LATE else WDG_FAULT_CNT_EARLY)
  let s := { s with wdg := { s.wdg with closedEnd := none, openEnd := none, expiredAt := some s.tick } }
  let s := s.event .watchdogExpired 0 [cause, missing, s.get WDG_LAST_TOG_TICK]
  let sel := s.get WDG_ACT_RST_SEL
  let s := s.iff (s.on WDG_ACT_RST_EN && s.resetsOwned.testBit sel) (fun s =>
    ({ s with wdg := { s.wdg with pulse := some (s.tick + 1000 * s.get WDG_ACT_PULSE_MS, sel) } }).rstEval)
  ((s.detect 13 0).trigger 15).settle

/-- A window starts at this tick, with its closed phase (R518). -/
def State.wdgWindow (s : State) : State :=
  let c := s.tick + s.wdgClosed
  let s := (s.set WDG_STATE_STATE 1).set WDG_STATE_PHASE 0
  let s := s.set WDG_OPEN_END_TICK (c + s.wdgOpen)
  { s with wdg := { s.wdg with closedEnd := some c, openEnd := some (c + s.wdgOpen) } }

/-- An accepted toggle (R519, R520, R524): the ledger is cleared and the next window starts. -/
def State.wdgAccept (s : State) : State :=
  let s := ((s.set WDG_LEDGER_BITS 0).incWrap WDG_CNT_ACCEPTED).stamp WDG_LAST_TOG_TICK
  s.wdgWindow.settle

/-- A toggle judged in an open phase: accepted with the ledger complete, else rejected (R519). -/
def State.wdgJudge (s : State) : State := if s.ledgerMissing = 0 then s.wdgAccept else s.inc WDG_CNT_REJECTED

/-- A toggle of this tick is judged (R519, R521, R524). -/
def State.wdgToggle (s : State) : State :=
  if s.get WDG_STATE_STATE = 3 then (if s.wdg.expiredAt = some s.tick then s else s.wdgJudge)
  else match s.wdg.openEnd with
    | none => s
    | some e =>
      if e ≤ s.tick then s.wdgExpire 1
      else if s.wdg.closedEnd.isSome && !s.due s.wdg.closedEnd then s.wdgExpire 2
      else s.wdgJudge

/-- A change of WDI is a toggle in the tick in which it has held for `WDI_DEG` ticks (R36, R517). -/
def State.wdiQualify (s : State) : State :=
  if s.wdg.wdi = s.wdg.wdiHeld ∨ s.tick < s.wdg.wdiSince + s.get WDG_WDI_WDI_DEG then s
  else ({ s with wdg := { s.wdg with wdiHeld := s.wdg.wdi } }).wdgToggle

/-- WDI_TOGGLE (R517): the level of WDI changes in this tick; it is judged as a toggle `WDI_DEG` ticks later. -/
def execWdiToggle (s : State) : Host.Outcome State Fault Refusal :=
  done { s with wdg := { s.wdg with wdi := !s.wdg.wdi, wdiSince := s.tick } }

/-- WDG_OPEN_PHASE_END (R519): an open phase without an accepted toggle expires in its end tick. -/
def execWdgOpenPhaseEnd (s : State) : Host.Outcome State Fault Refusal :=
  if s.due s.wdg.openEnd ∧ s.get WDG_STATE_STATE ≠ 2 then done (s.wdgExpire 1) else done s

/-- WDG_CLOSED_PHASE_END (R518). -/
def execWdgClosedPhaseEnd (s : State) : Host.Outcome State Fault Refusal :=
  if s.due s.wdg.closedEnd then
    let s := s.set WDG_STATE_PHASE 1
    done { s with wdg := { s.wdg with closedEnd := none } }
  else done s

/-- WDG_PULSE_END (R522): the reset output is released, and its stretch runs from now (R348). -/
def execWdgPulseEnd (s : State) : Host.Outcome State Fault Refusal :=
  if s.due (s.wdg.pulse.map (fun p => p.1)) then
    done (({ s with wdg := { s.wdg with pulse := none } }).rstEval)
  else done s

/-- A sector wipe starts: the watchdog is suspended, an expiry due in this tick included (R521). -/
def State.wdgSuspend (s : State) : State :=
  if s.get WDG_STATE_STATE = 3 then s
  else
    let s := ((s.set WDG_STATE_STATE 2).set WDG_STATE_PHASE 0).inc WDG_SUSP_CNT_COUNT
    { s with wdg := { s.wdg with closedEnd := none, openEnd := none } }

/-- The wipe ends: the suspension window follows (R521). -/
def State.wdgResume (s : State) : State :=
  if s.get WDG_STATE_STATE = 2 then
    let e := s.tick + s.wdgClosed + s.wdgOpen
    let s := (s.set WDG_STATE_PHASE 1).set WDG_OPEN_END_TICK e
    { s with wdg := { s.wdg with openEnd := some e } }
  else s

/-- WDG_SUSPENSION_END (R521): a suspension window without an accepted toggle expires in its end tick. -/
def execWdgSuspensionEnd (s : State) : Host.Outcome State Fault Refusal :=
  if s.due s.wdg.openEnd ∧ s.get WDG_STATE_STATE = 2 then done (s.wdgExpire 1) else done s

end Sys2Proof.Machine
end

