-- ==== Sys2Proof/Machine/Kiln.lean ====
section
/-! DEFINITION. The Kiln and the non-volatile memory (file 23): the record of R534 and R535, BAKE, the Kiln's copies, the sector wipe, word
errors, Tilling. -/

namespace Sys2Proof.Machine

/-! ### The record (R534 to R536) -/

/-- The class-C registers of pages 0x00 to 0x1E, in page and offset order. -/
def allConfig : List Nat := ((List.range 31).map pageConfig).flatten

/-- A sparse list of the registers whose RWK bits are not all 0. -/
def State.kilnRegs (s : State) : List (Nat × Word) :=
  (allConfig.map (fun a => (a, s.reg a &&& bitsTyped [.rwk] a))).filter (fun p => p.2 != 0)

/-- The bytes of a memory whose addresses lie in `[a, a + n)`. -/
def State.cellsIn (s : State) (a n : Nat) : List Host.Cell := s.mem.filter (fun p => decide (a ≤ p.1 ∧ p.1 < a + n))

/-- Slots whose running LAW is not 0. -/
def State.kilnSlots (s : State) : List Nat :=
  ((List.finRange 64).filter (fun n => bitsOf (s.slot n).cfg LPS_CFG_LAW.lo LPS_CFG_LAW.width != 0)).map (fun n => n.val)

/-- The word of EVR_RL_CFG for a bucket. -/
def Bucket.word (b : Bucket) : Word := BitVec.ofNat 32 (b.code + b.rate * 2 ^ 16 + b.burst * 2 ^ 24)

/-- Entries PRESENT or BAKED (R535; SILENT entries are not stored). -/
def State.kilnEntries (s : State) : List KilnEntry :=
  ((List.range 1024).filter (fun n => s.entState n == 1 || s.entState n == 2)).map (fun n =>
    { entry := n, addr := s.entAddr n, pec := s.entPec n, profile := s.entProfile n, udid := s.entUdid n,
      bound := s.ent n 0x1C 2, schedule := s.bytes (entryBase n + 0x30) 32 })

/-- The settings as they stand (R535). -/
def State.kilnImage (s : State) : KilnImage :=
  { regs := s.kilnRegs
    cckRef := BitVec.ofNat 32 (s.get CCK_REF_REF)
    refs := s.cck.refs
    slots := s.kilnSlots
    coefs := (s.kilnSlots.map (fun n => s.cellsIn (runBase + 0x400 * n) 0x380)).flatten
    banks := s.cellsIn tblActive 0x2000
    tables := s.cellsIn (strTblAct 0) 0x280 ++ s.cellsIn (strTblAct 1) 0x280
    keys := (List.finRange 8).map (fun k => ((s.ports.keys.get k).words, s.on SES_KEY_STAT_VALID k.val))
    limiter := s.evr.buckets.toList.map Bucket.word
    entries := s.kilnEntries }

/-- Length in bytes of the record of an image (R535, R536). -/
def KilnImage.len (k : KilnImage) : Nat := 64 + 6452 + 128 + 900 * k.slots.length + 8192 + 1280 + 288 + 1024 + 56 * k.entries.length + 4

/-- The bytes of a list of cells in `[a, a + n)`. -/
def cellBytes (m : List Host.Cell) (a n : Nat) : List Byte := (List.range n).map (fun i => look memUnlisted m (a + i))

/-- One entry of section 7. -/
def KilnEntry.bytes (e : KilnEntry) : List Byte :=
  leBytes 2 e.entry ++ leBytes 1 (e.addr + if e.pec then 128 else 0) ++ leBytes 1 e.profile ++ e.udid ++ leBytes 2 e.bound ++
    leBytes 2 0 ++ e.schedule

/-- Sections 0 to 7 (R535). The spec gives section 0 a length of 6,452 bytes; its tables name fewer class-C registers, and the rest is 0
(log entry 24). -/
def KilnImage.sections (k : KilnImage) : List (List Byte) :=
  [((allConfig.map (fun a => leBytes 4 (look (fun _ => (0 : Word)) k.regs a).toNat)).flatten ++ List.replicate 6452 0).take 6452,
   leBytes 4 k.cckRef.toNat ++ ((List.range 31).map (fun p => leBytes 4 (k.refs.getD p 0).toNat)).flatten,
   (k.slots.map (fun n => leBytes 4 n ++ cellBytes k.coefs (runBase + 0x400 * n) 0x380)).flatten,
   cellBytes k.banks tblActive 0x2000,
   cellBytes k.tables (strTblAct 0) 0x280 ++ cellBytes k.tables (strTblAct 1) 0x280,
   (k.keys.map (fun q => ((List.range 8).map (fun i => leBytes 4 (q.1.getD i 0).toNat)).flatten ++ leBytes 4 (if q.2 then 1 else 0))).flatten,
   (k.limiter.map (fun w => leBytes 4 w.toNat)).flatten,
   (k.entries.map KilnEntry.bytes).flatten]

/-- The bytes of a record (R534). -/
def KilnCopy.bytes (c : KilnCopy) : List Byte :=
  let secs := c.image.sections
  let body := [0x4B, 0x4C, 0x4E, 0x31] ++ leBytes 2 1 ++ leBytes 2 0 ++ leBytes 4 c.gen ++ leBytes 4 c.len ++ leBytes 4 c.fwVer ++
    leBytes 3 c.pcycle ++ leBytes 1 c.strap ++ leBytes 6 c.opTime ++ leBytes 2 0 ++
    (secs.map (fun x => leBytes 4 x.length)).flatten ++ secs.flatten
  body ++ leBytes 4 (crc32c body).toNat

/-- A copy is valid: magic, format, length and CRC (R539). -/
def KilnCopy.valid (c : KilnCopy) : Bool := c.magicOk && c.formatOk && c.crcOk && decide (c.len ≤ 131072)

/-- Whether generation `a` is later than `b`, modulo 2³² (R494, R539). -/
def laterGen (a b : Nat) : Bool :=
  let d := (a + 2 ^ 32 - b) % 2 ^ 32
  decide (1 ≤ d ∧ d < 2 ^ 31)

/-- The copy with the newest valid record. -/
def State.newestCopy (s : State) : Option (Fin 2) :=
  let a := s.nvm.copies.get 0
  let b := s.nvm.copies.get 1
  if a.valid && (!b.valid || !laterGen b.gen a.gen) then some 0 else if b.valid then some 1 else none

/-- Offset in NVM of a copy (R529). -/
def kilnOffset (k : Fin 2) : Nat := if k = 0 then 0xF80000 else 0xFA0000

/-! ### BAKE (R537, R538) -/

/-- The firmware version, that of the type-1 part of the active slot's manifest (R557, R558); 0 while no firmware runs. -/
def State.fwVersion (s : State) : Nat :=
  if !s.boot.firmware then 0
  else
    let b := 0x300000 * s.get SYS_FW_STAT_ACTIVE_SLOT
    let n := (s.byte (nvmBase + b + 6)).toNat
    match (List.range n).find? (fun i => (s.byte (nvmBase + b + 0x40 + 0x40 * i)) == 1) with
    | some i => (s.nvmWord (b + 0x4C + 0x40 * i)).toNat
    | none => 0

/-- A wipe of a Kiln sector runs. -/
def State.wipingKiln (s : State) : Bool :=
  match s.nvm.wipe with
  | some w => decide (248 ≤ w.1 ∧ w.1 ≤ 251)
  | none => false

/-- A BAKE ends with a result (R538). -/
def State.bakeEnd (s : State) (result gen len : Nat) : State :=
  let s := (s.set KLN_RESULT_RESULT result).iff (result != 2) (fun s => s.inc KLN_CNT_FAILED)
  s.event .bakeEnded 0 [result, gen, len]

/-- The source code of `KLN_RESULT` (R547); the policy layer is coded as the partner unit is (log entry 22). -/
def State.bakeSrc (s : State) (r : Requester) : Nat :=
  match s.srcOf r with
  | .spi => 0 | .eth0 => 1 | .eth1 => 2 | .partner => 3 | .policy => 3

/-- The BAKE command (R537): refused at once, or the snapshot is taken, the target's magic is cleared and the write begins. -/
def State.bakeCmd (s : State) (r : Requester) : State :=
  if s.nvm.bake.isSome then s
  else
    let img := s.kilnImage
    let newest := s.newestCopy
    let k : Fin 2 := if newest = some 0 then 1 else 0
    let gen := match newest with
      | some n => ((s.nvm.copies.get n).gen + 1) % 2 ^ 32
      | none => 1
    let s := ((s.set KLN_RESULT_COPY k.val).set KLN_RESULT_SRC (s.bakeSrc r))
    if s.wipingKiln then s.bakeEnd 6 gen img.len
    else if 131072 < img.len then s.bakeEnd 4 gen img.len
    else
      let c : KilnCopy :=
        { magicOk := true, formatOk := true, crcOk := true, gen := gen, len := img.len, fwVer := s.fwVersion,
          pcycle := s.get TB_PCYCLE_COUNT, strap := s.get SYS_STRAP_LATCHED, opTime := s.opTimeAt s.tick, image := img }
      let s := s.set KLN_RESULT_RESULT 1
      let s := { s with nvm := { s.nvm with
          copies := s.nvm.copies.set k { s.nvm.copies.get k with magicOk := false }
          bake := some (k.val, s.tick, c)
          bakeChanged := false
          bakeHeld := 0 } }
      s.nvmStore (kilnOffset k) 0

/-- BAKE (R537), mirrored to the partner unit (R467). -/
def execBake (r : Requester) (s : State) : Host.Outcome State Fault Refusal :=
  done (s.gateRole r KLN_CMD_BAKE.addr .curator (fun s =>
    if s.nvm.bake.isSome then s else (s.bakeCmd r).iff (!fromPartner r) (fun s => s.mirrorCommand 1)))

/-- The end of a bake begun at `t`, after its words have been read back (R537, R538): the copy counts where they read back right and nothing
it saved was written meanwhile. -/
def State.bakeDone (s : State) (k t : Nat) (c : KilnCopy) (good : Bool) : State :=
  let kk : Fin 2 := ⟨k % 2, Nat.mod_lt k (by decide)⟩
  let changed := s.nvm.bakeChanged
  let s := s.maxOf NVM_PORT_MAX_WAIT_US s.nvm.bakeHeld
  let s := { s with nvm := { s.nvm with bake := none, bakeChanged := false } }
  let s := s.set KLN_RESULT_BAKE_MS (min ((s.tick - t + 999) / 1000) 65535)
  if changed then s.bakeEnd 3 c.gen c.len
  else
    let s := s.nvmWrite (kilnOffset kk + 4) (toWords (c.bytes.drop 4))
    if !good then
      let s := { s with nvm := { s.nvm with copies := s.nvm.copies.set kk { c with magicOk := false, crcOk := false } } }
      s.bakeEnd 5 c.gen c.len
    else
      let s := s.nvmStore (kilnOffset kk) 0x314E4C4B
      let s := { s with
          nvm := { s.nvm with copies := s.nvm.copies.set kk c }
          cck := { s.cck with kiln := c.image.regs } }
      let s := ((s.set KLN_GEN_GEN c.gen).set KLN_LEN_LEN c.len).stamp KLN_BAKE_TICK_TICK
      let s := (s.set CCK_REF_BAKED_REF_BAKED c.image.cckRef.toNat).inc KLN_CNT_BAKES
      (s.bakeEnd 2 c.gen c.len).settle

/-- BAKE_COMPLETE (R537, R538): the words and the CRC have been written and read back; `good` says that the CRC read back is right. It
comes no earlier than the port can have written the record, and not while a Strata commit holds the port. -/
def execBakeComplete (good : Bool) (s : State) : Host.Outcome State Fault Refusal :=
  match s.nvm.bake with
  | none => done s
  | some (k, t, c) => if s.nvm.strata ∨ s.tick < t + c.len / 4 then done s else done (s.bakeDone k t c good)

/-- KLN_NEXT_LEN_UPDATE (R536). -/
def execKlnNextLenUpdate (s : State) : Host.Outcome State Fault Refusal :=
  if s.tick % 1000 = 0 then done (s.set KLN_NEXT_LEN_LEN s.kilnImage.len) else done s

/-! ### Sector wipe (R540) -/

/-- Whether a sector may be wiped: of the firmware slot that is not active, of staging, of the Kiln; while an update is under way not one
of its target slot or staging (R561), and no Kiln sector during a BAKE (R545). -/
def State.mayWipe (s : State) (n : Nat) : Bool :=
  let active := s.get SYS_FW_STAT_ACTIVE_SLOT
  let slot := if n < 48 then some 0 else if n < 96 then some 1 else none
  let staging := decide (96 ≤ n ∧ n < 160)
  let kiln := decide (248 ≤ n ∧ n ≤ 251)
  let busy := s.get UPD_STATE_STATE != 0
  (match slot with
    | some k => k != active && !(busy && k == s.get UPD_STATE_TARGET)
    | none => false) ||
  (staging && !busy) || (kiln && s.nvm.bake.isNone)

/-- The write of `NVM_WIPE_CMD` with WIPE. -/
def State.wipeCmd (s : State) (w : Word) : State :=
  if bitsOf w 8 1 = 0 then s
  else
    let n := bitsOf w 0 8
    if bitsOf w 16 16 ≠ 0x3C3C ∨ s.nvm.wipe.isSome ∨ !s.mayWipe n then
      (s.set NVM_WIPE_STAT_RESULT 2).event .wipeRefused 0 [n]
    else
      let s := (s.set NVM_WIPE_STAT_SECTOR n).set NVM_WIPE_STAT_RESULT 0
      ({ s with nvm := { s.nvm with wipe := some (n, s.tick) } }).wdgSuspend

/-- WIPE (R540): the watchdog is suspended from its start (R521). -/
def execWipe (r : Requester) (w : Word) (s : State) : Host.Outcome State Fault Refusal :=
  done (s.gateRole r NVM_WIPE_CMD_WIPE.addr .curator (fun s => s.wipeCmd (w ||| 0x100)))

/-- Bytes `[a, a + n)` of NVM become 0. -/
def State.nvmClear (s : State) (a n : Nat) : State :=
  { s with mem := s.mem.filter (fun p => decide (p.1 < nvmBase + a ∨ nvmBase + a + n ≤ p.1)) }

/-- A Kiln copy one of whose sectors holds zeros: the first holds the magic; the second matters to a record that reaches into it. -/
def State.kilnWiped (s : State) (n : Nat) : State :=
  if n < 248 ∨ 251 < n then s
  else
    let k : Fin 2 := if n < 250 then 0 else 1
    let c := s.nvm.copies.get k
    let c := if n % 2 = 0 then { c with magicOk := false, formatOk := true } else if 65536 < c.len then { c with crcOk := false } else c
    { s with nvm := { s.nvm with copies := s.nvm.copies.set k c } }

/-- A sector has been wiped: its words are 0, and each has been written once more. -/
def State.sectorWiped (s : State) (n : Nat) : State :=
  let s := (s.nvmClear (0x10000 * n) 0x10000).kilnWiped n
  let s := { s with nvm := { s.nvm with wipes := put (fun _ => 0) s.nvm.wipes n (look (fun _ => 0) s.nvm.wipes n + 1) } }
  let s := { s with nvm := { s.nvm with ded := s.nvm.ded.filter (fun a => a / 0x10000 != n) } }
  s.set NVM_WRITES_WORDS (s.get NVM_WRITES_WORDS + 16384)

/-- WIPE_COMPLETE (R540): the 64 steps end, and the suspension window of R521 begins. -/
def execWipeComplete (s : State) : Host.Outcome State Fault Refusal :=
  match s.nvm.wipe with
  | none => done s
  | some (n, t) =>
    let s := { s with nvm := { s.nvm with wipe := none } }
    let s := (s.sectorWiped n).set NVM_WIPE_STAT_RESULT 1
    let s := s.set NVM_WIPE_STAT_MS (min ((s.tick - t + 999) / 1000) 65535)
    done (s.wdgResume.settle)

/-! ### Word errors and Tilling (R531, R541) -/

/-- What reading a word of memory finds (R531, R577): nothing wrong, a single-bit error, or a double-bit error. -/
def State.nvmFound (s : State) (off : Nat) (e : WordError) : State :=
  match e with
  | .none => s
  | .single =>
    let s := (s.inc NVM_ECC_SEC).inc SAF_CLASS_CNT_COUNT 2
    { s with nvm := { s.nvm with corrected := s.nvm.corrected ++ [(off, s.tick)] } }
  | .double =>
    let s := ((s.inc NVM_ECC_DED).set NVM_ECC_ADDR_ADDR off).setB NVM_ECC_ADDR_VALID true
    let s := { s with nvm := { s.nvm with ded := s.nvm.ded.filter (fun a => a != off) ++ [off] } }
    (s.detect 2 0).settle

/-- ECC_CORRECT_REWRITE (R531): the oldest corrected word is rewritten, at the priority of Tilling (R49). -/
def execEccCorrectRewrite (s : State) : Host.Outcome State Fault Refusal :=
  match s.nvm.corrected with
  | [] => done s
  | (off, _) :: rest =>
    if !s.nvmFree ∨ s.nvm.wipe.isSome ∨ !s.nvm.waiting.isEmpty then done s
    else done (({ s with nvm := { s.nvm with corrected := rest } }).nvmStore off (s.nvmWord off))

/-- The word lies in the Kiln copy that a BAKE is writing. -/
def State.bakedWord (s : State) (off : Nat) : Bool :=
  match s.nvm.bake with
  | some (k, _, _) => decide (0xF80000 + 0x20000 * k ≤ off ∧ off < 0xFA0000 + 0x20000 * k)
  | none => false

/-- Ticks of `TILL_DAYS` days. -/
def State.tillTicks (s : State) : Nat := 86400000000 * s.get NVM_TILL_CFG_TILL_DAYS

/-- The tick from which the next word may be visited: the words of a pass are spread evenly over `TILL_DAYS` days (R541, log entry 23). -/
def State.tillDue (s : State) : Nat := s.nvm.tillFrom + s.nvm.till / 4 * s.tillTicks / 4194304

/-- TILLING_VISIT (R541): the next word, in ascending offset, is read, corrected and written back in one port operation; `found` is what
the read finds. -/
def execTillingVisit (found : WordError) (s : State) : Host.Outcome State Fault Refusal :=
  let off := s.nvm.till
  if !s.on NVM_CTRL_TILL_EN ∨ s.tick < s.tillDue ∨ s.nvm.strata ∨ s.nvm.wipe.isSome ∨ !s.nvm.waiting.isEmpty ∨
      (s.nvm.bake.isSome ∧ !s.bakedWord off) then done s
  else
    let s :=
      if s.bakedWord off then s
      else
        let s := match found with
          | .none => s
          | .single => (s.inc NVM_ECC_SEC).inc SAF_CLASS_CNT_COUNT 2
          | .double => s.nvmFound off .double
        match found with
        | .double => s
        | _ => s.nvmStore off (s.nvmWord off)
    let next := (off + 4) % 0x1000000
    let s := s.iff (next == 0) (fun s => s.inc NVM_TILL_STAT_PASSES)
    let s := s.set NVM_TILL_STAT_PCT (next * 100 / 0x1000000)
    let marks := if off % 0x10000 = 0 then put (fun _ => 0) s.nvm.marks (off / 0x10000) s.tick else s.nvm.marks
    let origin := if next = 0 then s.nvm.tillFrom + s.tillTicks else s.nvm.tillFrom
    done { s with nvm := { s.nvm with till := next, marks := marks, tillFrom := origin } }

/-- Longest time a word has gone without a rewrite, in days: by the sector whose first word Tilling visited longest ago (log entry 23). -/
def State.tillAge (s : State) : Nat :=
  let oldest := (List.range 256).foldl (fun m k => min m (look (fun _ => 0) s.nvm.marks k)) s.tick
  (s.tick - oldest) / 86400000000

/-- The port in a tick: a BAKE waits while a Strata commit has it, and words of the counters region while either has it (R49). -/
def State.nvmTick (s : State) : State :=
  if s.nvm.strata && s.nvm.bake.isSome then { s with nvm := { s.nvm with bakeHeld := s.nvm.bakeHeld + 1 } } else s.countersTick

end Sys2Proof.Machine
end

