-- ==== Sys2Proof/Machine/Trans.lean ====
section
/-! DEFINITION. The two-wire channels and the transaction engine (files 15 and 16): channel states, starts and ends of transactions, results
and where they go, Accession and Deaccession, and polling. -/

namespace Sys2Proof.Machine

/-! ### Channels (R384) -/

def State.setChanState (s : State) (c : Fin 16) (st : Nat) : State :=
  (s.set TWB_CH_STAT_STATE st c.val).setBit TWB_BUSY_MASK c.val (st == 3 || st == 4)

/-- The unit may drive the two-wire buses: TW_SCL and TW_SDA are outputs of VIO_B (R98, R107, R476, R593). -/
def State.twbMay (s : State) : Bool := s.boot.g.isSome && !s.hlk.fenced && s.unitRole != 3 && s.bankLive 3

/-- The oldest pending request of a class on a channel, in the order of the queue. -/
def State.oldest (s : State) (c : Fin 16) (p : Nat → Bool) : Option Req :=
  s.twb.reqs.find? (fun q => q.ch == c.val && q.pending && !q.dead && p q.cls && (q.wrap.isNone || s.solo || s.hlk.knowsE))

/-- The request that starts next on a channel (R405): one whose arbitration was lost goes first (R386). -/
def State.pick (s : State) (c : Fin 16) : Option Req :=
  let x := s.chan c
  match x.cur with
  | some id => s.twb.reqs.find? (fun q => q.id == id)
  | none =>
    let poll := s.oldest c (fun k => k == 4)
    let bulk := s.oldest c (fun k => k == 5)
    if x.run4 ≥ 32 ∧ bulk.isSome then bulk
    else if x.run3 ≥ 16 ∧ poll.isSome then poll
    else (List.range 6).findSome? (fun k => s.oldest c (fun j => j == k))

/-- The fairness counts after a start of a class (R405). -/
def State.countStart (s : State) (c : Fin 16) (cls : Nat) : State :=
  let x := s.chan c
  let poll := (s.oldest c (fun k => k == 4)).isSome
  let bulk := (s.oldest c (fun k => k == 5)).isSome
  s.setChan c { x with
    run3 := if cls ≤ 3 ∧ poll then x.run3 + 1 else 0
    run4 := if cls ≤ 4 ∧ bulk then x.run4 + 1 else 0 }

/-- Low time, high time, START hold and STOP set-up, and tBUF of a channel, in fine units (R376); the delay lines that bit timing comes from
on the check oscillator may be 3 % short (R378). -/
def State.bitTimes (s : State) (c : Nat) : Nat × Nat × Nat × Nat :=
  let t : Nat × Nat × Nat × Nat := match s.get TWB_CH_CFG_SPEED c with
    | 0 => (250, 250, 230, 240)
    | 1 => (70, 55, 30, 65)
    | _ => (27, 23, 13, 25)
  let t := (t.1 + s.get TWB_CH_TIME_TLOW_EXT c, t.2.1 + s.get TWB_CH_TIME_THIGH_EXT c, t.2.2.1, t.2.2.2)
  if s.tb.onCheck then (t.1 * 97 / 100, t.2.1 * 97 / 100, t.2.2.1 * 97 / 100, t.2.2.2 * 97 / 100) else t

/-- `n` fine units can have passed between an instant of tick `t` and one of this tick. -/
def State.mayPassed (s : State) (t n : Nat) : Bool := decide (50 * t + n ≤ 50 * s.tick + 49)

/-- The transaction on a channel ends with a result; the channel takes a state. -/
def State.endTrans (s : State) (c : Fin 16) (r : BusResult) (st : Nat) : State :=
  let x := s.chan c
  let s := (s.setChanState c st).setChan c { x with cur := none, busFree := false, busyAt := s.tick, lost := 0, srLost := false, sext := none }
  match x.cur with
  | none => s
  | some id =>
    match s.twb.reqs.find? (fun q => q.id == id) with
    | none => s
    | some q =>
      let s := (s.noteError c q r).set TWB_BYTE_CNT_BYTES (s.get TWB_BYTE_CNT_BYTES + r.bytes)
      s.onReq id (fun q => { q with ended := some r })

/-- The transaction in progress, if any, goes back to wait. -/
def State.putBack (s : State) (c : Fin 16) : State :=
  let x := s.chan c
  match x.cur with
  | none => s
  | some id => (s.setChan c { x with cur := none, lost := 0, srLost := false, sext := none }).onReq id (fun q => { q with started := false })

/-- A bus clear begins, or begins again from its wait of 5 µs (R390, R392). -/
def State.clearBegin (s : State) (c : Fin 16) (forReq : Bool) : State :=
  (s.setChanState c 4).setChan c { s.chan c with forReq := forReq, busFree := false, busyAt := s.tick, clearAt := s.tick }

/-- STUCK is left. -/
def State.stuckLeave (s : State) (c : Fin 16) : State :=
  if s.chanState c.val = 5 then (s.setBit TWB_STUCK_MASK c.val false).event .channelUnstuck 0 [c.val] else s

/-! ### Entries and results (R400, R404, R408) -/

/-- What an entry records of a transaction to it (R397, R400). -/
def State.entResult (s : State) (n code : Nat) : State :=
  if s.entState n = 0 then s
  else
    let x := s.entAux n
    if code = 0 then
      let s := (s.setEnt n 7 1 0).setEnt n 0x24 4 (s.tick % 2 ^ 32)
      let s := s.setEntAux n { x with lastOk := s.tick, tried := false }
      if s.entState n = 1 ∨ s.entState n = 3 then s.setEnt n 2 1 2 else s
    else ((s.incEnt n 7 1).incEnt n 0x2C 4).setEntAux n { x with tried := true }

/-- The rectifier bound to an entry. -/
def State.rectOf (s : State) (n : Nat) : Option (Fin 24) :=
  (List.finRange 24).find? (fun k => s.rectState k != 0 && s.rectEntry k == n)

/-- A poll's value reaches its entry and the block that the entry's object belongs to (R403). -/
def State.pollStore (s : State) (n item : Nat) (q : Req) (r : BusResult) : State :=
  let w := dataWord (r.data.take 2) 0
  let x := s.entAux n
  let s := (s.setEnt n (0x50 + 2 * item) 2 w).setEnt n (0x60 + 2 * item) 2 (s.opTimeAt r.sample % 65536)
  let s := s.setEntAux n { x with samples := (item, r.sample) :: x.samples.filter (fun p => p.1 != item) }
  match s.rectOf n with
  | some k => s.rectSample k q.head.cmd w r.sample
  | none => s

/-- The sample time held of an item. -/
def EntryAux.sampleOf (x : EntryAux) (item : Nat) : Option Nat := (x.samples.find? (fun p => p.1 == item)).map (fun p => p.2)

/-- A request of Accession on a channel (class 3). ARP carries PEC (R381). -/
def State.accPost (s : State) (c : Fin 16) (entry : Option Nat) (addr cmd : Nat) (p : Proto) (data : List Nat) (count : Nat) (pec : Bool) :
    Option Nat × State :=
  s.submit { id := 0, cls := 3, ch := c.val, by_ := .accession c.val, proto := p, count := count, at_ := s.tick,
             segs := [{ entry := entry, addr := addr, cmd := cmd, data := data, pec := pec,
                        epoch := (match entry with | some n => s.ent n 0x18 4 | none => s.hlk.epoch) }] }

def State.acc (s : State) (c : Fin 16) : AccChan := s.twb.acc.get c
def State.setAcc (s : State) (c : Fin 16) (x : AccChan) : State := { s with twb := { s.twb with acc := s.twb.acc.set c x } }

/-- Entries of a channel that are not FREE. -/
def State.chanEntries (s : State) (c : Fin 16) : List Nat := ((List.range 64).map (fun k => 64 * c.val + k)).filter (fun n => s.entState n != 0)

/-- Addresses held on a channel: those of its entries and of the partners found in this pass. -/
def State.addrsHeld (s : State) (c : Fin 16) : List Nat := (s.chanEntries c).map s.entAddr ++ (s.acc c).found.map (fun f => f.addr)

/-- Addresses the probe leaves out: as above, but for BAKED entries, whose partner is still to be found. -/
def State.addrsFound (s : State) (c : Fin 16) : List Nat :=
  ((s.chanEntries c).filter (fun n => s.entState n != 1)).map s.entAddr ++ (s.acc c).found.map (fun f => f.addr)

def udidBytes (l : List Nat) : List Byte := l.map (fun b => BitVec.ofNat 8 b)

/-- The lowest free address of the pool (R401). -/
def State.poolAddr (s : State) (c : Fin 16) : Option Nat :=
  (List.range (s.get XAC_ADDR_POOL_HI + 1 - s.get XAC_ADDR_POOL_LO)).map (fun k => s.get XAC_ADDR_POOL_LO + k) |>.find?
    (fun a => !(s.addrsHeld c).contains a)

/-- The next address of the probe, from `a` upward. -/
def State.probeAddr (s : State) (c : Fin 16) (a : Nat) : Option Nat :=
  ((List.range (s.get XAC_ADDR_SCAN_HI + 1 - a)).map (fun k => a + k)).find?
    (fun a => decide (s.get XAC_ADDR_SCAN_LO ≤ a) && a != 0x08 && a != 0x61 && !(s.addrsFound c).contains a)

/-- A request could not be submitted: the channel is done for this pass. -/
def State.accStop (s : State) (c : Fin 16) : State := s.setAcc c { s.acc c with todo := false, phase := .finished, found := [] }

/-- Sends a request of Accession and waits in a phase for its result. -/
def State.accGo (s : State) (c : Fin 16) (ph : AccPhase) (entry : Option Nat) (addr cmd : Nat) (p : Proto) (data : List Nat) (count : Nat)
    (pec : Bool) : State :=
  match s.accPost c entry addr cmd p data count pec with
  | (none, s) => s.setAcc c { s.acc c with phase := ph }
  | (some _, s) => s.accStop c

/-- The entry a found partner already has on its channel, or is baked for (R401 step 3). -/
def State.entryOf (s : State) (c : Fin 16) (f : Found) : Option Nat :=
  if f.arp then (s.chanEntries c).find? (fun n => s.entUdid n == udidBytes f.udid)
  else (s.chanEntries c).find? (fun n => s.entAddr n == f.addr && (s.entUdid n).all (fun b => b == 0))

/-- A new entry (R397, R398, R400): PRESENT, with the epoch in force. -/
def State.entMake (s : State) (c : Fin 16) (n : Nat) (f : Found) : State :=
  let s := s.setBytes (entryBase n) (List.replicate 128 0)
  let s := ((s.setEnt n 0 2 n).setEnt n 2 1 2).setEnt n 3 1 f.addr
  let s := ((s.setEnt n 5 1 (if f.arp then 1 else 0)).setEnt n 6 1 c.val).setBytes (entryBase n + 8) (udidBytes f.udid)
  let s := (s.setEnt n 0x18 4 s.hlk.epoch).setEnt n 0x20 4 (s.tick % 2 ^ 32)
  let owner := if s.solo then 0 else if s.get HLK_EFF_CH_OWN |>.testBit c.val then (if s.unitRole = 2 then 1 else 0) else (if s.unitRole = 2 then 0 else 1)
  let s := (s.setEnt n 0x1E 1 owner).setEntAux n { lastOk := s.tick }
  (s.event .entryMade (objRef 8 n) [f.addr]).storedChange.slotEntry n true

/-- An entry of the Kiln record returns to its entry number in state BAKED (R399). -/
def State.entBaked (s : State) (e : KilnEntry) : State :=
  let n := e.entry
  let c := n / 64
  let s := s.setBytes (entryBase n) (List.replicate 128 0)
  let s := ((s.setEnt n 0 2 n).setEnt n 2 1 1).setEnt n 3 1 (e.addr % 128 + if e.pec then 128 else 0)
  let s := ((s.setEnt n 4 1 e.profile).setEnt n 5 1 4).setEnt n 6 1 c
  let s := (s.setBytes (entryBase n + 8) ((e.udid ++ List.replicate 16 0).take 16)).setEnt n 0x18 4 s.hlk.epoch
  let mine := s.solo || (s.get HLK_EFF_CH_OWN).testBit c
  let s := (s.setEnt n 0x1C 2 e.bound).setEnt n 0x1E 1 (if s.solo then 0 else if mine == (s.unitRole == 2) then 1 else 0)
  (s.setBytes (entryBase n + 0x30) ((e.schedule ++ List.replicate 32 0).take 32)).setEntAux n {}

/-- Steps 2 and 3 of a channel's pass: the next address to probe from `a`, then the found partners, one after another. -/
def State.accEnter (s : State) (c : Fin 16) : List Found → State
  | [] => s.setAcc c { s.acc c with phase := .finished, found := [], todo := false }
  | f :: rest =>
    let s := s.setAcc c { s.acc c with found := rest }
    match s.entryOf c f with
    | some n =>
      let s := s.setEnt n 3 1 (f.addr + (if s.entPec n then 128 else 0))
      if s.entState n = 1 then
        let s := (s.setEnt n 5 1 (s.ent n 5 1 / 2 * 2 + (if f.arp then 1 else 0))).slotEntry n true
        s.accGo c (.block n) (some n) f.addr 0xE0 .blockRead [] 4 false
      else s.accEnter c rest
    | none =>
      match ((List.range 64).map (fun k => 64 * c.val + k)).find? (fun n => s.entState n == 0) with
      | none => ((s.inc XAC_REFUSALS_REFUSED).event .partnerRefused 0 [c.val, f.addr]).accEnter c rest
      | some n => (s.entMake c n f).accGo c (.block n) (some n) f.addr 0xE0 .blockRead [] 4 false

def State.accProbe (s : State) (c : Fin 16) (a : Nat) : State :=
  match s.probeAddr c a with
  | some b => s.accGo c (.probe b) none b 0 .quick [] 0 false
  | none => s.accEnter c (s.acc c).found

/-- Get UDID (general), at most 64 replies. -/
def State.accUdid (s : State) (c : Fin 16) : State :=
  if 64 ≤ (s.acc c).replies then s.accProbe c 0 else s.accGo c .getUdid none 0x61 0x03 .blockRead [] 17 true

/-- A Get UDID reply (R401 step 1). -/
def State.accReply (s : State) (c : Fin 16) (data : List Nat) : State :=
  let udid := data.take 16
  let own := data.getD 16 0 / 2
  let s := s.setAcc c { s.acc c with replies := (s.acc c).replies + 1 }
  let addr := match (s.chanEntries c).find? (fun n => s.entUdid n == udidBytes udid) with
    | some n => some (s.entAddr n)
    | none => if udid.headD 0 / 64 = 0 then some own else s.poolAddr c
  match addr with
  | some a => s.accGo c (.assign a udid) none 0x61 0x04 .blockWrite (udid ++ [2 * a]) 0 true
  | none => ((s.inc XAC_REFUSALS_REFUSED).event .partnerRefused 0 ((c.val : Int) :: udid.map (fun (b : Nat) => (b : Int)))).accProbe c 0

/-- The visit to a channel begins. -/
def State.accBegin (s : State) (c : Fin 16) : State :=
  let s := s.setAcc c { todo := true, phase := .idle }
  if s.bitOn TWB_ARP_CFG_ARP_EN c.val then s.accGo c .prepare none 0x61 0x01 .sendByte [] 0 true else s.accProbe c 0

/-- Profile of an entry from the 0xE0 block (R398). -/
def State.accProfile (s : State) (n : Nat) (ok : Bool) (data : List Nat) : State :=
  if ok && data.length == 4 && data.getD 0 0 == 0x50 && data.getD 1 0 == 0x52 then (s.setEnt n 4 1 2).setEnt n 0x1F 1 (data.getD 2 0)
  else (s.setEnt n 4 1 0).setEnt n 0x1F 1 0

/-- A result of Accession on a channel. -/
def State.accResult (s : State) (c : Fin 16) (r : BusResult) : State :=
  if r.code = 11 ∨ r.code = 13 then s.accStop c
  else match (s.acc c).phase with
    | .prepare => s.accUdid c
    | .getUdid =>
      if r.code = 1 then s.accProbe c 0
      else if r.code = 0 ∧ r.data.length = 17 then s.accReply c r.data
      else (s.setAcc c { s.acc c with replies := (s.acc c).replies + 1 }).accUdid c
    | .assign a udid =>
      let s := s.iff (r.code == 0) (fun s => s.setAcc c { s.acc c with found := (s.acc c).found ++ [{ addr := a, udid := udid, arp := true }] })
      s.accUdid c
    | .probe a =>
      let s := s.iff (r.code == 0) (fun s => s.setAcc c { s.acc c with found := (s.acc c).found ++ [{ addr := a, udid := [], arp := false }] })
      s.accProbe c (a + 1)
    | .block n =>
      let s := s.accProfile n (r.code == 0) r.data
      s.accGo c (.revision n) (some n) (s.entAddr n) 0x98 .readByte [] 0 true
    | .revision n =>
      let pec := r.code == 0
      let s := if s.entProfile n = 2 then s else s.setEnt n 4 1 (if r.code = 0 ∨ r.code = 3 then 1 else 0)
      let s := s.setEnt n 3 1 (s.entAddr n + (if pec then 128 else 0))
      s.accEnter c (s.acc c).found
    | _ => s

/-- A final result reaches its requester (R404). -/
def State.deliver (s : State) (q : Req) (r : BusResult) : State :=
  match q.by_ with
  | .host src => s.hostReturn src r
  | .share op n => if h : n < 24 then s.shareResult op ⟨n, h⟩ (r.code == 0 && (q.wrap.isNone || decide (r.data.getD 4 3 ≤ 1)))
      (if q.wrap.isSome then r.data.drop 5 else r.data) else s
  | .poll n item => if r.code = 0 then s.pollStore n item q r else s
  | .accession c => if h : c < 16 then s.accResult ⟨c, h⟩ r else s
  | .module => (match q.segs with
      | g :: _ => { s with twb := { s.twb with modRes := s.twb.modRes ++ [(g.entry.getD 0, g.cmd, r)] } }
      | [] => s)
  | .policy => s

/-- A final result: the place is free, and unless it was returned before, the requester has it. -/
def State.finish (s : State) (q : Req) (r : BusResult) : State :=
  let s := s.dropReq q.id
  if q.dead then s else s.deliver q r

/-- The entries of a request whose epoch is no longer the one it was submitted under (R408). -/
def State.staleIn (s : State) (q : Req) : List Nat :=
  q.segs.filterMap (fun g => match g.entry with
    | some n => if s.entState n ≠ 0 ∧ s.ent n 0x18 4 ≠ g.epoch then some n else none
    | none => none)

/-- A stale result, of the entries `ns` (R408). -/
def State.stale (s : State) (q : Req) (ns : List Nat) (r : BusResult) : State :=
  let newer := match q.by_ with
    | .poll m item => (match (s.entAux m).sampleOf item with
        | some t => decide (t < r.sample)
        | none => true)
    | _ => false
  let telemetry := q.telemetry && r.code == 0 && (match q.by_ with | .poll _ _ => true | _ => false)
  if telemetry then
    let s := s.inc XAC_STALE_KEPT
    if newer then s.finish q r else s.dropReq q.id
  else
    ((s.each ns (fun s n => s.incEnt n 0x2A 2)).inc XAC_STALE_DISCARDED).finish q { r with code := 17, data := [] }

/-- Codes that are resubmitted (R407). -/
def retried (code : Nat) : Bool := (1 ≤ code && code ≤ 6) || code == 9

/-- The completion of an ended request (R407, R408). -/
def State.complete (s : State) (q : Req) (r : BusResult) : State :=
  let s := if q.started then s.each q.segs (fun s g => match g.entry with | some n => s.entResult n r.code | none => s) else s
  let s := s.iff (q.started && r.code == 0) (fun s => s.each q.segs (fun s g => match g.entry with
    | some n => (match s.rectOf n with | some k => s.rectHeard k | none => s)
    | none => s))
  match q.forced with
  | some code => s.finish q { r with code := code }
  | none =>
    if q.dead then s.dropReq q.id
    else if retried r.code && decide (q.tries < s.get XAC_CFG_RETRY) then
      s.setReqs ({ q with tries := q.tries + 1, started := false, ended := none } :: s.twb.reqs.filter (fun x => x.id != q.id))
    else
      let r := if r.code = 0 ∧ q.wrap.isSome ∧ r.data.getD 4 0 = 2 then { r with code := 17 } else r
      if (s.staleIn q).isEmpty then s.finish q r else s.stale q (s.staleIn q) r

/-- A pending request of a channel ends with a code; a poll is skipped (R412). -/
def State.endPending (s : State) (c : Fin 16) (code : Nat) : State :=
  s.each (s.twb.reqs.filter (fun q => q.ch == c.val && q.pending && !q.dead)) (fun s q =>
    match q.by_ with
    | .poll _ _ => (s.inc XAC_POLL_SKIP_COUNT).dropReq q.id
    | _ => (s.set TWB_CH_STAT_LAST_ERR code c.val).finish q { code := code })

/-- Entry to STUCK (R384, R385): code 7 CLK_LOW or 8 DATA_LOW. The request a bus clear was due to ends DATA_LOW, the others STUCK. -/
def State.stuckEnter (s : State) (c : Fin 16) (code : Nat) : State :=
  let x := s.chan c
  let s := ((s.setChanState c 5).setBit TWB_STUCK_MASK c.val true).inc TWB_CH_STUCK_STUCKS c.val
  let s := s.setChan c { x with since := s.tick, busFree := false, forReq := false }
  let s := s.setB (if code = 7 then TWB_CH_STAT_SCL else TWB_CH_STAT_SDA) false c.val
  let s := (s.inc (if code = 7 then TWB_TO_CNT_CLK_LOW else TWB_TO_CNT_DATA_LOW)).event .channelStuck 0 [c.val, code]
  let s := s.detect 10 0
  let s := match (if x.forReq then s.pick c else none) with
    | some q => (s.noteError c q { code := 8 }).finish q { code := 8 }
    | none => s
  s.endPending c 11

/-! ### Commands of the channels -/

/-- TWB_TRANSACTION_START (R384, R405): the channel is IDLE, its bus free, and a request waits. -/
def execTwbTransactionStart (c : Fin 16) (ev : StartRun) (s : State) : Host.Outcome State Fault Refusal :=
  if !(s.chanState c.val == 2 && (s.chan c).busFree && s.twbMay) then done s
  else match s.pick c with
    | none => done s
    | some q =>
      let lost := { s.chan c with busFree := false, busyAt := s.tick }
      let fresh := (s.chan c).cur.isNone
      let t := s.iff fresh (fun s => (s.countStart c q.cls).incWrap TWB_CH_XFERS_XFERS c.val)
      let t := (t.onReq q.id (fun q => { q with started := true, begun := true })).setChanState c 3
      let x := { t.chan c with cur := some q.id, busFree := false, busyAt := s.tick, startAt := s.tick, sent := q.sent }
      let listen := fun (s : State) => (s.setChanState c 1).inc TWB_ARB_CNT_RETRIES
      let u := s
      let s := t.setChan c x
      match ev with
      | .busy => done (u.setChan c lost)
      | .runs => done s
      | .arbLost =>
        let s := s.setChan c { x with lost := x.lost + 1 }
        if s.get TWB_CFG_ARB_RETRY ≤ x.lost + 1 then done (s.endTrans c { code := 4 } 1) else done (listen s)
      | .arbSr =>
        let s := (s.inc TWB_ASV_CNT_ARB_SR).setChan c { x with srLost := true }
        if x.srLost then done (s.endTrans c { code := 5 } 1) else done (listen s)
      | .ackSlot => done ((s.endTrans c { code := 6 } 1).clearBegin c false)

/-- The transaction in progress on a channel. -/
def State.running (s : State) (c : Fin 16) : Option Req :=
  (s.chan c).cur.bind (fun id => s.twb.reqs.find? (fun q => q.id == id))

/-- The result of a transaction that ends with its STOP: `code` says where the target answered N, or that the abort of a request that ran out
of time was carried out (R391); what was received is judged here. The count of a transaction that is OK takes in every byte on the bus
(DESIGN CHOICE, log entry 80). -/
def State.transResult (s : State) (c : Fin 16) (q : Req) (code bytes : Nat) (data : List Nat) (sr stretch : Nat) : BusResult :=
  let a := q.answer data
  let all := (s.chan c).sent.length + a.2.2
  let code := if 1000 * s.get TWB_TIMEOUT_SEXT_MS < stretch then 9 else if code = 0 then a.1 else code
  { code := code, bytes := if code = 0 ∨ code = 3 ∨ code = 10 then all else min bytes all, data := if code = 0 then a.2.1 else [],
    sample := max (s.chan c).startAt (min sr s.tick) }

/-- TWB_TRANSACTION_END (R393): the STOP of a transaction, not before its bits can have passed (R376); `data` is what the target sent after
its address byte, `sr` the tick of the repeated start and `stretch` the cumulative stretch in µs. -/
def execTwbTransactionEnd (c : Fin 16) (code : Fin 16) (bytes : Nat) (data : List Byte) (sr stretch : Nat) (s : State) :
    Host.Outcome State Fault Refusal :=
  if s.chanState c.val ≠ 3 then done s
  else match s.running c with
    | none => done s
    | some q =>
      let r := s.transResult c q code.val bytes (data.map BitVec.toNat) sr stretch
      let t := s.bitTimes c.val
      if !([0, 1, 2].contains code.val || (code.val == 12 && q.dead)) ∨
          !s.mayPassed (s.chan c).startAt (9 * r.bytes * (t.1 + t.2.1) + 2 * t.2.2.1) then done s
      else done ((s.maxOf TWB_CH_STUCK_SEXT_MAX stretch c.val).endTrans c r 2)

/-- BUS_FREE (R384): a STOP and tBUF have passed, or both lines have been high for IDLE_US, since the bus was last not free. -/
def execBusFree (b : BusIdle) (s : State) : Host.Outcome State Fault Refusal :=
  let free := if b.stop then s.mayPassed b.since (s.bitTimes b.c.val).2.2.2 else decide (b.since + s.get TWB_CFG_IDLE_US ≤ s.tick)
  if (s.chanState b.c.val = 1 ∨ s.chanState b.c.val = 2) ∧ (s.chan b.c).busyAt ≤ b.since ∧ free = true then
    let s := (s.setB TWB_CH_STAT_SCL true b.c.val).setB TWB_CH_STAT_SDA true b.c.val
    done ((s.setChanState b.c 2).setChan b.c { s.chan b.c with busFree := true })
  else done s

/-- CLK_LOW_TIMEOUT (R389): another party has held SCL low since `h.since`. -/
def execClkLowTimeout (h : LineHeld) (s : State) : Host.Outcome State Fault Refusal :=
  if s.chanState h.c.val = 0 ∨ s.chanState h.c.val = 5 ∨ s.tick < h.since + 1000 * s.get TWB_TIMEOUT_TLOW_TO then done s
  else done (((s.endTrans h.c { code := 7 } 5).stuckEnter h.c 7).settle)

/-- SEXT_TIMEOUT (R389): the sum of the extensions in µs exceeds SEXT_MS; the transaction ends with its STOP at the end of the tick, since
CLK_LOW of the same tick is taken before it. -/
def execSextTimeout (c : Fin 16) (stretch bytes : Nat) (s : State) : Host.Outcome State Fault Refusal :=
  if s.chanState c.val = 3 ∧ 1000 * s.get TWB_TIMEOUT_SEXT_MS < stretch then
    done (s.setChan c { s.chan c with sext := some (stretch, bytes) })
  else done s

/-- The transactions that end with SEXT in this tick (R389). -/
def State.sextTick (s : State) : State :=
  s.each (List.finRange 16) (fun s c =>
    match (s.chan c).sext with
    | none => s
    | some (stretch, bytes) =>
      (s.maxOf TWB_CH_STUCK_SEXT_MAX stretch c.val).endTrans c { code := 9, bytes := min bytes ((s.chan c).sent.length + 258) } 2)

/-- A fenced unit sends nothing on the two-wire buses (R476): what is in progress ends with the tick of the fence. -/
def State.busQuiet (s : State) : State :=
  s.iff s.hlk.fenced (fun s => s.each (List.finRange 16) (fun s c =>
    s.iff (s.chanState c.val == 3 || s.chanState c.val == 4) (fun s => s.endTrans c { code := 12 } 1)))

/-- SDA_HELD_CLEAR (R384): SDA low with SCL high since `h.since`, for IDLE_US, while a request is pending. -/
def execSdaHeldClear (h : LineHeld) (s : State) : Host.Outcome State Fault Refusal :=
  let st := s.chanState h.c.val
  if 1 ≤ st ∧ st ≤ 3 ∧ h.since + s.get TWB_CFG_IDLE_US ≤ s.tick ∧ (s.pick h.c).isSome ∧ s.twbMay then
    done (((s.putBack h.c).clearBegin h.c true).setB TWB_CH_STAT_SDA false h.c.val)
  else done s

/-- LISTEN_SDA_LOW_TIMEOUT (R384): SDA low with SCL high since `h.since`, for TLOW_TO. -/
def execListenSdaLowTimeout (h : LineHeld) (s : State) : Host.Outcome State Fault Refusal :=
  if s.chanState h.c.val = 1 ∧ h.since + 1000 * s.get TWB_TIMEOUT_TLOW_TO ≤ s.tick ∧ s.twbMay then
    done (((s.putBack h.c).clearBegin h.c false).setB TWB_CH_STAT_SDA false h.c.val)
  else done s

/-- BUS_CLEAR_COMPLETE (R390): SDA released and the STOP sent, or SDA still low; not before the wait of 5 µs, the pulses and the STOP can have
passed. -/
def execBusClearComplete (c : Fin 16) (e : ClearEnd) (s : State) : Host.Outcome State Fault Refusal :=
  let t := s.bitTimes c.val
  let lasts := 250 + (e.more.val + 1) * (t.1 + t.2.1) + t.1 + t.2.2.1
  if s.chanState c.val ≠ 4 ∨ !s.mayPassed (s.chan c).clearAt lasts then done s
  else
    let s := s.inc TWB_CH_ERRS_CLEARS c.val
    let s := s.setB TWB_CH_STAT_SDA e.released c.val
    if e.released then done ((s.setChanState c 2).setChan c { s.chan c with busFree := false, busyAt := s.tick, forReq := false })
    else done ((s.stuckEnter c 8).settle)

/-- STUCK_RETRY (R384): RETRY_STUCK_MS after the entry. -/
def execStuckRetry (c : Fin 16) (sclHigh : Bool) (s : State) : Host.Outcome State Fault Refusal :=
  if s.chanState c.val = 5 ∧ (s.chan c).since + 1000 * s.get TWB_TIMEOUT_RETRY_STUCK_MS ≤ s.tick then
    let s := s.setB TWB_CH_STAT_SCL sclHigh c.val
    (if sclHigh then done (((s.stuckLeave c).clearBegin c false).settle) else done (s.setChan c { s.chan c with since := s.tick }))
  else done s

/-- CLEAR and RESET: a transaction in progress ends ABORTED; a bus clear in progress restarts (R390, R392). -/
def State.twbClear (s : State) (c : Fin 16) : State :=
  let s := s.set TWB_CMD_CH c.val
  let st := s.chanState c.val
  if st = 3 then (s.endTrans c { code := 12 } 4).clearBegin c false
  else if st = 1 ∨ st = 2 ∨ st = 4 then (s.putBack c).clearBegin c (s.chan c).forReq
  else s

/-- TWB_CLEAR (R384). -/
def execTwbClear (r : Requester) (c : Fin 16) (s : State) : Host.Outcome State Fault Refusal :=
  done (s.gate r TWB_CMD_CLEAR.addr (fun s => s.twbClear c))

/-- TWB_RESET (R390). -/
def execTwbReset (r : Requester) (c : Fin 16) (s : State) : Host.Outcome State Fault Refusal :=
  done (s.gate r TWB_CMD_CLEAR.addr (fun s => s.twbClear c))

def State.showNotes (s : State) : State := s.set TWB_HN_STAT_COUNT s.twb.notes.length

def State.hnFlush (s : State) : State := ({ s with twb := { s.twb with notes := [] } }).showNotes

/-- HN_FLUSH (R395). -/
def execHnFlush (r : Requester) (s : State) : Host.Outcome State Fault Refusal := done (s.gate r TWB_CMD_CLEAR.addr State.hnFlush)

/-- What the bytes after the data word make of a Host Notify (R383): complete, with the PEC where one is expected, of a wrong length, or with
a wrong PEC. -/
def State.notifyPec (s : State) (c : Fin 16) (addr data : Nat) (rest : List Byte) : Option Bool :=
  if s.bitOn TWB_HN_PEC_PEC c.val then
    (match rest with
    | [p] => some (p.toNat == pecOf [0x10, 2 * addr, data % 256, data / 256])
    | _ => none)
  else if rest.isEmpty then some true else none

/-- A complete message joins the queue. -/
def State.notifyTake (s : State) (c : Fin 16) (addr data : Nat) : State :=
  let s := ((s.set TWB_HN_LAST_ADDR addr).set TWB_HN_LAST_CH c.val).set TWB_HN_LAST_DATA data
  let s := s.stamp TWB_HN_TICK_TICK
  let m : Notify := { ch := c.val, addr := addr, data := data, tick := s.tick }
  ({ s with twb := { s.twb with notes := s.twb.notes ++ [m] } }).showNotes

/-- HOST_NOTIFY (R383, R388): another controller's message to the host address, so that the bus is not free (R384). -/
def execHostNotify (c : Fin 16) (addr : Fin 128) (data : BitVec 16) (run : NotifyRun) (s : State) : Host.Outcome State Fault Refusal :=
  if !s.on TWB_CFG_HN_EN ∨ !([1, 2].contains (s.chanState c.val)) ∨ !s.twbMay then done s
  else
    let s := s.setChan c { s.chan c with busFree := false, busyAt := s.tick }
    match run with
    | .read => done s
    | .rest l =>
      if 32 ≤ s.twb.notes.length then done (s.inc TWB_HN_STAT_OVF)
      else (match s.notifyPec c addr.val data.toNat l with
        | some true => done (s.notifyTake c addr.val data.toNat)
        | some false => done ((s.inc TWB_CH_ERRS_ERRORS c.val).inc TWB_PEC_CNT_PEC_ERR)
        | none => done (s.inc TWB_CH_ERRS_ERRORS c.val))
    | .short => if 32 ≤ s.twb.notes.length then done (s.inc TWB_HN_STAT_OVF) else done (s.inc TWB_CH_ERRS_ERRORS c.val)
    | .ackSlot =>
      if 32 ≤ s.twb.notes.length then done (s.inc TWB_HN_STAT_OVF)
      else done (((s.inc TWB_ASV_CNT_ASV).putBack c).clearBegin c false)

/-! ### Enabling (R375, R384) -/

/-- The channels follow TWB_CTRL.EN and TWB_CH_EN. -/
def State.twbEval (s : State) : State :=
  s.each (List.finRange 16) (fun s c =>
    let want := s.on TWB_CTRL_EN && s.bitOn TWB_CH_EN_EN c.val && s.boot.g.isSome && s.unitRole != 3
    let st := s.chanState c.val
    if want && st == 0 then (s.setChanState c 1).setChan c {}
    else if !want && st != 0 then
      let s := (s.stuckLeave c).endTrans c { code := 13 } 0
      (s.setChan c {}).endPending c 13
    else s)

/-! ### Accession and Deaccession (R400, R401) -/

/-- The next channel of the pass is visited. -/
def State.accAdvance (s : State) : State :=
  if s.twb.passAt.isNone ∨ (List.finRange 16).any (fun c => (s.acc c).todo && (s.acc c).phase != .idle) then s
  else match (List.finRange 16).find? (fun c => (s.acc c).todo && (s.acc c).phase == .idle) with
    | some c => s.accBegin c
    | none => s

/-- A pass starts: every enabled channel that is not STUCK is visited. -/
def State.passStart (s : State) : State :=
  let s := { s with twb := { s.twb with passAt := some s.tick } }
  (s.each (List.finRange 16) (fun s c =>
    let st := s.chanState c.val
    s.setAcc c { todo := st != 0 && st != 5, phase := .idle })).accAdvance

def State.mayPass (s : State) : Bool := s.boot.firmware && s.twb.passAt.isNone && s.on XAC_CTRL_EN

/-- The instant of the last pass that became due by `tick`: the first is due when firmware runs, each later one PASS_S after the one before. -/
def passDue (last : Option Nat) (period tick : Nat) : Option Nat :=
  match last with
  | none => some tick
  | some t => if t + period ≤ tick then some (t + (tick - t) / max 1 period * period) else none

/-- ACCESSION_PASS_START (R401): when firmware runs and every PASS_S seconds after that. -/
def execAccessionPassStart (s : State) : Host.Outcome State Fault Refusal :=
  match passDue s.twb.lastPass (1000000 * s.get XAC_CFG_PASS_S) s.tick with
  | some t => if s.mayPass then done ({ s with twb := { s.twb with lastPass := some t } }).passStart else done s
  | none => done s

/-- XAC_PASS (R401, R414): ignored while a pass runs. -/
def execXacPass (r : Requester) (s : State) : Host.Outcome State Fault Refusal :=
  done (s.gate r XAC_CMD_PASS.addr (fun s => if s.mayPass then s.passStart else s))

/-- Host Notifies are taken by Accession once firmware runs (R401): a known partner's is an alert, an unknown partner is entered at
once. -/
def State.takeNote (s : State) : State :=
  match s.twb.notes with
  | [] => s
  | m :: rest =>
    let c := Fin.ofNat 16 m.ch
    match (s.chanEntries c).find? (fun n => s.entAddr n == m.addr) with
    | some n =>
      let s := ({ s with twb := { s.twb with notes := rest } }).showNotes
      (s.setEntFlag n 1 true).event .partnerAlert (if s.ent n 0x1C 2 = 0 then objRef 8 n else s.ent n 0x1C 2) [m.data]
    | none =>
      let busy := (s.acc c).phase != .idle && (s.acc c).phase != .finished
      if busy then s
      else
        let s := ({ s with twb := { s.twb with notes := rest } }).showNotes
        let todo := (s.acc c).todo
        let s := s.accEnter c [{ addr := m.addr, udid := [], arp := false }]
        let s := s.setAcc c { s.acc c with todo := todo }
        if (s.acc c).phase = .finished ∧ todo then s.setAcc c { todo := true, phase := .idle } else s

/-- What a pass brings on in a tick. -/
def State.accTick (s : State) : State := if s.boot.firmware then (s.takeNote).accAdvance else s

/-- Deaccession (R400). -/
def State.deaccede (s : State) (n : Nat) : State :=
  if s.entState n = 0 then s
  else
    let names := fun (q : Req) => q.segs.any (fun g => g.entry == some n)
    let s := s.each (s.twb.reqs.filter (fun q => names q && q.pending && !q.dead)) (fun s q => s.finish q { code := 19 })
    let s := s.setReqs (s.twb.reqs.map (fun q => if names q then { q with forced := some 19 } else q))
    let s := match s.rectOf n with
      | some k => s.rectUnbind k true
      | none => s
    let s := s.event .entryGone (objRef 8 n) ((s.entAddr n : Int) :: (s.entUdid n).map (fun b => (b.toNat : Int)))
    let s := (s.storedChange.slotEntry n false).setBytes (entryBase n) (List.replicate 128 0)
    s.setEntAux n {}

/-- ENTRY_SILENT_TIMEOUT (R400). -/
def execEntrySilentTimeout (n : Fin 1024) (s : State) : Host.Outcome State Fault Refusal :=
  let x := s.entAux n.val
  if s.entState n.val = 2 ∧ x.tried ∧ x.lastOk + 1000 * s.get XAC_CFG_SILENT_MS ≤ s.tick then
    done (((s.setEnt n.val 2 1 3).setEntAux n.val { x with silentAt := s.tick }).event .entrySilent (objRef 8 n.val))
  else done s

/-- DEACCESSION_TIMEOUT (R400). -/
def execDeaccessionTimeout (n : Fin 1024) (s : State) : Host.Outcome State Fault Refusal :=
  if s.boot.firmware ∧ s.entState n.val = 3 ∧ (s.entAux n.val).silentAt + 1000000 * s.get XAC_LIFE_DEACC_S ≤ s.tick then
    done (s.deaccede n.val).settle
  else done s

/-- DEACCEDE (R400): work of the policy layer. -/
def execDeaccede (r : Requester) (n : Fin 1024) (s : State) : Host.Outcome State Fault Refusal :=
  done (s.gate r XAC_CMD_PASS.addr (fun s => ((s.set XAC_CMD_ENTRY n.val).iff s.boot.firmware (fun s => s.deaccede n.val)).settle))

/-- Baked entries without an OK result when the first pass is done (R400). -/
def State.bakedSilent (s : State) : State :=
  s.each ((List.range 1024).filter (fun n => s.entState n == 1)) (fun s n => (s.setEnt n 2 1 3).setEntAux n { s.entAux n with silentAt := s.tick })

/-! ### Requests (R403, R404, R407, R414) -/

/-- The protocol of a code of XAC_HREQ.PROTO. -/
def protoOf : Nat → Proto
  | 0 => .sendByte | 1 => .writeByte | 2 => .writeWord | 3 => .write32 | 4 => .blockWrite
  | 5 => .readByte | 6 => .readWord | 7 => .read32 | 8 => .blockRead | 10 => .write64 | 11 => .read64 | 12 => .receiveByte
  | 13 => .quick | _ => .processCall

/-- Data bytes of a write of a protocol, from `len` for a block. -/
def protoLen (p : Proto) (len : Nat) : Nat :=
  match p with
  | .writeByte => 1 | .writeWord => 2 | .processCall => 2 | .write32 => 4 | .write64 => 8 | .blockWrite => len
  | _ => 0

/-- POLL_DUE (R403). -/
def execPollDue (s : State) : Host.Outcome State Fault Refusal :=
  if s.tick % 1000 ≠ 0 ∨ !s.twbMay then done s
  else done (s.each ((List.range 1024).filter (fun n => s.entState n != 0 && s.ownsEntry n)) (fun s n =>
    s.each (List.range 8) (fun s i =>
      let w := s.ent n (0x30 + 4 * i) 4
      let proto := w / 256 % 16
      let per := w / 65536
      if proto = 0 ∨ 4 < proto ∨ per = 0 ∨ (s.tick / 1000 + n) % per ≠ 0 then s
      else if s.held.any (fun q => q.by_ == .poll n i) then s.inc XAC_POLL_SKIP_COUNT
      else
        let p : Proto := match proto with | 1 => .readByte | 2 => .readWord | 3 => .read32 | _ => .blockRead
        let q := s.reqTo n 4 (.poll n i) p (w % 256) [] 32 (w / 4096 % 2 == 1)
        match q.2.submit q.1 with
        | (none, s) => s
        | (some _, s) => s.inc XAC_POLL_SKIP_COUNT)))

/-- A request of the policy layer or of a host to an entry; what it is refused with. -/
def State.entrySubmit (s : State) (n cls : Nat) (b : ReqBy) (proto cmd len : Nat) (data : List Nat) : Option Nat × State :=
  let p := protoOf proto
  let q := s.reqTo n cls b p cmd (data.take (protoLen p len)) len
  q.2.submit q.1

/-- REQUEST_SUBMIT (R404): a request of the policy layer; `proto` is a code of XAC_HREQ.PROTO, or 10 Write 64, 11 Read 64, 12 Receive Byte,
13 Quick Command. -/
def execRequestSubmit (n : Fin 1024) (cls : Fin 6) (proto : Fin 14) (cmd : BitVec 16) (count : BitVec 8) (data : List Byte) (s : State) :
    Host.Outcome State Fault Refusal :=
  done (s.entrySubmit n.val cls.val .policy proto.val cmd.toNat count.toNat (data.map BitVec.toNat)).2

/-- A host request, submitted with the word of XAC_HREQ (R414); refused while BUSY is 1. -/
def State.hostSubmit (s : State) (src : Src) (w : Word) : State :=
  let n := bitsOf w 0 10
  let proto := bitsOf w 12 4
  let len := bitsOf w 24 6
  if s.on (srcField src XAC_HRES_BUSY) then s
  else
    let s := s.setReg (srcField src XAC_HREQ_ENTRY).addr (w &&& 0x3FFFF3FF)
    let data := ((List.range 8).map (fun k => byteList 4 (s.get (srcField src XAC_HDATA_DATA) k))).flatten
    match s.entrySubmit n 2 (.host src) proto (bitsOf w 16 8) len data with
    | (none, s) => s.setB (srcField src XAC_HRES_BUSY) true
    | (some c, s) => s.hostReturn src { code := c }

/-- REQUEST_COMPLETE (R407, R408): the first request whose transaction has ended. -/
def execRequestComplete (s : State) : Host.Outcome State Fault Refusal :=
  match s.twb.reqs.find? (fun q => q.ended.isSome) with
  | none => done s
  | some q =>
    match q.ended with
    | none => done s
    | some r => done ((s.complete q r).accAdvance).settle

/-- REQUEST_TIMEOUT (R407): XAC_TMO_MS after its submission; a started one is carried through its STOP. -/
def execRequestTimeout (s : State) : Host.Outcome State Fault Refusal :=
  match s.twb.reqs.find? (fun q => !q.dead && q.ended.isNone && decide (q.at_ + 1000 * s.get XAC_LIFE_XAC_TMO_MS ≤ s.tick)) with
  | none => done s
  | some q =>
    let s := if q.started then s.onReq q.id (fun q => { q with dead := true }) else s.dropReq q.id
    done ((s.deliver q { code := 20 }).accAdvance).settle

/-- The schedule bytes of an entry are the only ones a host writes (R397). -/
def scheduleOff (off : Nat) : Bool := decide (0x30 ≤ off % 0x80 ∧ off % 0x80 < 0x50)

/-- A word of the Catalogue window is written (R397); a FREE entry keeps its zeros. -/
def State.scheduleWrite (s : State) (r : Requester) (off : Nat) (w : Word) : State :=
  if s.entState (off / 0x80) = 0 then s else s.ranked r (0x380000 + off) (fun s => (s.store (0x380000 + off) w).storedChange)

/-- CATALOGUE_SCHEDULE_WRITE (R397). -/
def execCatalogueScheduleWrite (r : Requester) (off : Fin 0x20000) (w : Word) (s : State) : Host.Outcome State Fault Refusal :=
  done (s.gate r (0x380000 + off.val) (fun s =>
    if scheduleOff off.val then s.scheduleWrite r off.val w else s.refuse r (0x380000 + off.val) .unmapped))

/-- The ownership epoch of entries changes (R402, R408): what has not started takes the new epoch, or is returned STALE_EPOCH. -/
def State.entEpoch (s : State) (n e owner : Nat) : State :=
  let s := (s.setEnt n 0x18 4 e).setEnt n 0x1E 1 owner
  s.each (s.twb.reqs.filter (fun q => q.pending && !q.begun && !q.dead && q.segs.any (fun g => g.entry == some n))) (fun s q =>
    if q.cls = 2 ∨ q.cls = 3 then s.finish q { code := 17 }
    else s.onReq q.id (fun q => { q with segs := q.segs.map (fun g => if g.entry = some n then { g with epoch := e } else g) }))

end Sys2Proof.Machine
end

