-- ==== Sys2Proof/Machine/Level.lean ====
section
/-! DEFINITION. The service level (R20, R21), the supervisor cores' restart (R100), the boot selector and the boot check (R112, R562,
R564), the end of a calibration attempt (R110), and the revert of an update (R568). -/

namespace Sys2Proof.Machine

/-! ### The boot selector (R562) -/

def selectorAt (k : Nat) : Nat := 0xFC0400 + 0x40 * k

/-- The bytes of a record. -/
def Selector.bytes (x : Selector) : List Byte :=
  let body := [0x42, 0x53, 0x45, 0x4C] ++ leBytes 4 x.seq ++ leBytes 1 x.committed ++ leBytes 1 (if x.trial then 1 else 0) ++
    leBytes 1 x.boots ++ leBytes 1 0 ++ leBytes 4 x.relC ++ leBytes 4 x.relT ++ leBytes 4 x.image ++ List.replicate 36 0
  body ++ leBytes 4 (crc32c body).toNat

/-- The record a place of NVM holds, if it is valid. -/
def State.selectorIn (s : State) (k : Nat) : Option Selector :=
  let bs := s.countersSeen.bytes (nvmBase + selectorAt k) 64
  let num := fun (o n : Nat) => leNat ((bs.drop o).take n)
  if bs.take 4 = [0x42, 0x53, 0x45, 0x4C] ∧ num 0x3C 4 = (crc32c (bs.take 0x3C)).toNat then
    some { seq := num 4 4, committed := num 8 1 % 2, trial := num 9 1 == 1, boots := num 0xA 1, relC := num 0xC 4, relT := num 0x10 4,
           image := num 0x14 4 }
  else none

/-- Which record is used: the valid one with the higher sequence number. -/
def State.selectorPlace (s : State) : Option (Nat × Selector) :=
  match s.selectorIn 0, s.selectorIn 1 with
  | some a, some b => if laterGen b.seq a.seq then some (1, b) else some (0, a)
  | some a, none => some (0, a)
  | none, some b => some (1, b)
  | none, none => none

/-- The selector in use; with no valid record slot A is committed. -/
def State.selector (s : State) : Selector :=
  match s.selectorPlace with
  | some p => p.2
  | none => {}

/-- `UPD_STATE` shows the committed and the target slot, `UPD_REL` the committed release. -/
def State.showSelector (s : State) : State :=
  let x := s.selector
  let s := s.updChange (fun s => (s.set UPD_STATE_SLOT x.committed).set UPD_STATE_TARGET (1 - x.committed))
  s.set UPD_REL_REL x.relC

/-- Writes the selector, to the record that does not hold the one in use. -/
def State.writeSelector (s : State) (x : Selector) : State :=
  let k := match s.selectorPlace with
    | some (0, _) => 1
    | _ => 0
  (s.countersWrite (selectorAt k) (toWords ({ x with seq := (s.selector.seq + 1) % 2 ^ 32 } : Selector).bytes)).showSelector

/-! ### The manifest (R557, R558) -/

/-- Part entry i of a manifest. -/
def manifestPart (bs : List Byte) (i : Nat) : ImagePart :=
  let num := fun (o n : Nat) => leNat ((bs.drop (0x40 + 0x40 * i + o)).take n)
  { type := num 0 1, len := num 4 4, dest := num 8 4, ver := num 0xC 4, vid := num 0x30 2, did := num 0x32 2, lowest := num 0x34 1,
    hash := (bs.drop (0x40 + 0x40 * i + 0x10)).take 32 }

/-- Where a part lies in NVM: in a firmware slot, or in module staging (R558). -/
def ImagePart.place (p : ImagePart) (slot : Nat) : Nat := (if p.type = 4 then 0x600000 else 0x300000 * slot) + p.dest

/-- The stored bytes of a part match its SHA-256 (R558). -/
def State.partGood (s : State) (p : ImagePart) (slot : Nat) : Bool := sha256 (s.bytes (nvmBase + p.place slot) p.len) == p.hash

/-- The signing key that a manifest names is usable (R559). -/
def State.keyUsable (s : State) (m : Manifest) : Bool := decide (m.key < 4) && s.bitOn UPD_KEYS_KEY_MASK m.key

/-- The manifest that block 0 holds. -/
def manifestOf (bs : List Byte) : Manifest :=
  let num := fun (o n : Nat) => leNat ((bs.drop o).take n)
  { count := num 6 1, key := num 7 1, release := num 0xC 4, rom := num 0x14 2,
    parts := (List.range (min (num 6 1) 20)).map (manifestPart bs) }

/-- Blocks of a part (R556). -/
def ImagePart.blocks (p : ImagePart) : Nat := (p.len + 4095) / 4096

/-- Blocks of the stream. -/
def Manifest.blocks (m : Manifest) : Nat := 1 + (m.parts.map ImagePart.blocks).sum

/-- The manifest at offset 0 of a firmware slot. -/
def State.slotManifest (s : State) (slot : Nat) : Manifest := manifestOf (s.bytes (nvmBase + 0x300000 * slot) 4096)

/-- The parts of an image as `UPD_PART` shows them, in a state. -/
def State.showParts (s : State) (m : Manifest) (st : Nat) : State :=
  s.each (List.range 20) (fun s i =>
    match m.parts[i]? with
    | some p => (((s.set UPD_PART_TYPE p.type i).set UPD_PART_STATE st i).set UPD_PART_TARGETS 0 i).set UPD_PART_BLOCKS (if st = 1 then 0 else p.blocks) i
    | none => (((s.set UPD_PART_TYPE 0 i).set UPD_PART_STATE 0 i).set UPD_PART_TARGETS 0 i).set UPD_PART_BLOCKS 0 i)

/-! ### Service level -/

/-- LEVEL becomes FULL when the last of the three conditions is met (R20). Trims integrate from 0 (R245). -/
def State.tryFull (s : State) : State :=
  if !s.full && s.boot.g.isSome && s.boot.calDone && s.boot.firmware && s.twb.firstDone then
    let s := { s with
        full := true
        cap := { s.cap with gwCap := none }
        shr := { s.shr with fade := 0, rects := s.shr.rects.map (fun (x : Rect) => { x with t := 0 }) } }
    (((s.stamp SYS_T_FULL_TICK).setBit SYS_BOOT_STAT_DONE 5 true).ethShowAll).settle
  else s

/-- The return from FULL to GREENWARE (R21): the loops keep their gains, sharing falls to equal share, and the cap is the lower of the one
in force and the Greenware cap. -/
def State.toGreenware (s : State) : State :=
  if !s.full then s
  else
    let cap := s.capNow
    let s := s.tuneAbort 7
    let s := { s with
        full := false
        cap := { s.cap with gwCap := some cap }
        shr := { s.shr with fade := s.rampCycles } }
    (((s.inc SYS_LEVEL_CNT_GW_RETURNS).batGreenware).ethShowAll).settle

/-- The cores stop running firmware: bits 3 to 5 of `SYS_BOOT_STAT` clear, PRAX sessions close, the pass in progress is abandoned, and the
level falls to GREENWARE (R21, R100, R115). -/
def State.coresStop (s : State) : State :=
  let s := { s with boot := { s.boot with firmware := false, check := none } }
  let s := { s with twb := { s.twb with
      firstDone := false, passAt := none, lastPass := none
      acc := s.twb.acc.map (fun (a : AccChan) => { a with todo := false, phase := .idle })
      reqs := s.twb.reqs.map (fun (q : Req) => match q.by_ with | ReqBy.accession _ => { q with dead := true } | _ => q) } }
  let s := s.set SYS_BOOT_STAT_DONE (s.get SYS_BOOT_STAT_DONE % 8)
  s.closePrax.toGreenware

/-- The boot check may run: not before the Kiln load, and not while RESET_IN or the limit of R578 holds the cores. -/
def State.mayBoot (s : State) : Bool :=
  s.boot.kilnLoaded && !s.boot.por && !s.boot.testState && !s.on SAF_STAT_CORE_HELD &&
  !(s.boot.resetIn && s.on SYS_CTRL_CORE_RST_EN)

/-- The check of a slot begins; `second` is true where the other slot failed. -/
def State.checkBegin (s : State) (slot : Nat) (second : Bool) : State :=
  let s := (s.set SYS_FW_STAT_ACTIVE_SLOT slot).setBit SYS_FW_STAT_SLOT_OK slot false
  { s with boot := { s.boot with check := some (slot, s.tick, second) } }

/-- The committed slot is checked. -/
def State.bootCommitted (s : State) : State :=
  if s.mayBoot then s.checkBegin s.selector.committed false else s

/-! ### Revert (R568) -/

/-- Targets whose revert has not ended. -/
def State.reverting (s : State) : Bool := (s.upd.targets.getD []).any (fun t => t.phase == .revert)

/-- Steps 3 and 4, and the end of the update: the selector is written COMMITTED and a core restart boots the committed slot. -/
def State.revertEnd (s : State) : State :=
  match s.upd.reverting with
  | none => s
  | some (result, part) =>
    let s := s.writeSelector { s.selector with trial := false }
    let s := { s with upd := { s.upd with manifest := none, stored := [], targets := none, reverting := none, cur := none } }
    let s := s.iff (decide (part < 20)) (fun s => s.set UPD_PART_STATE 5 part)
    let s := (((s.set UPD_IMAGE_ID 0).set UPD_REL_NEW_REL 0).set UPD_MOD_STAT_TARGETS 0).set UPD_MOD_STAT_GOOD 0
    let s := (s.inc UPD_CNT_REVERTS).setB UPD_STAT_REVERTED true
    let s := (s.updEnter 0 result part).event .updateReverted 0 [result, part]
    ((s.inc SYS_LEVEL_CNT_CORE_RESTARTS).coresStop).bootCommitted

/-- Steps 1 and 2 begin: every target that was sent action 0 is to be sent action 2. -/
def State.revertBegin (s : State) (result part : Nat) : State :=
  if s.upd.reverting.isSome then s
  else
    let ts := s.upd.targets.map (fun (l : List ModTarget) => l.map (fun t =>
      if t.chosen then { t with phase := .revert, fails := 0, sent := 0 } else { t with phase := .finished }))
    let s := { s with upd := { s.upd with targets := ts, reverting := some (result, part), cur := none } }
    let s := s.updEnter 5 result part
    if s.reverting then s else s.revertEnd

/-! ### Start of the cores -/

/-- A boot (R112, R564): one that finds TRIAL raises trial boots, or reverts where they are at 1 already. -/
def State.bootStart (s : State) : State :=
  if !s.mayBoot || s.upd.reverting.isSome then s
  else
    let x := s.selector
    if !x.trial then s.checkBegin x.committed false
    else if 1 ≤ x.boots then s.revertBegin 7 0xFF
    else
      let m := s.slotManifest (1 - x.committed)
      let s := s.writeSelector { x with boots := x.boots + 1 }
      let s := (s.set UPD_IMAGE_ID x.image).set UPD_REL_NEW_REL x.relT
      let s := s.iff s.upd.manifest.isNone (fun s => ({ s with upd := { s.upd with manifest := some m } }).showParts m 2)
      (s.updEnter 3 (s.get UPD_STATE_RESULT) 0xFF).checkBegin (1 - x.committed) false

/-- A core restart (R100). -/
def State.coreRestart (s : State) : State :=
  if s.on SAF_STAT_CORE_HELD then s
  else ((s.inc SYS_LEVEL_CNT_CORE_RESTARTS).coresStop).bootStart

/-- CORE_RESTART (R100, R115). -/
def State.restartCmd (s : State) (w : Word) : State :=
  if bitsOf w 16 1 = 0 then s
  else if bitsOf w 0 16 = 0x9484 then s.coreRestart.settle
  else s.event .resetKeyWrong 0 [bitsOf w 0 16]

def execCoreRestart (r : Requester) (w : Word) (s : State) : Host.Outcome State Fault Refusal :=
  done (s.gateRole r SYS_RESET_CMD_CORE_RESTART.addr .curator (fun s => s.restartCmd (w ||| 0x10000)))

/-- Firmware runs (R112); the first Accession pass starts (R113). -/
def State.firmwareStart (s : State) (slot : Nat) : State :=
  let s := (s.setBit SYS_FW_STAT_SLOT_OK slot true).set SYS_FW_STAT_ACTIVE_SLOT slot
  let s := (s.setB SYS_STAT_NO_FW false).setB SYS_FW_STAT_NO_FW false
  let s := { s with boot := { s.boot with firmware := true, coresStarted := true } }
  let s := ((s.stamp SYS_T_FW_TICK).setBit SYS_BOOT_STAT_DONE 3 true).ethShowAll
  ((s.iff s.mayPass State.passStart).tryFull).settle

/-- What the check of the trial slot finds: none where it passes, else result and failing part (R564). -/
def State.trialVerdict (s : State) (m : Manifest) (slot : Nat) (sig : Bool) : Option (Nat × Nat) :=
  if !sig || !s.keyUsable m then some (2, 0xFF)
  else if m.release < s.get UPD_MIN_REL_MIN ∨ s.get SYS_SILREV_ROM < m.rom then some (4, 0xFF)
  else (m.parts.zipIdx.find? (fun p => decide (p.1.type ≤ 3) && !s.partGood p.1 slot)).map (fun p => (3, p.2))

/-- The trial slot passes: its parts are verified, the firmware starts, and the state becomes MODULES (R564). -/
def State.trialPass (s : State) (m : Manifest) (slot : Nat) : State :=
  let s := s.each (List.range m.parts.length) (fun s i =>
    s.iff (decide (s.get UPD_PART_TYPE i ≤ 3)) (fun s => s.set UPD_PART_STATE 3 i))
  let s := { s with upd := { s.upd with targets := none, cur := none } }
  (s.updEnter 4 (s.get UPD_STATE_RESULT) 0xFF).firmwareStart slot

/-- BOOT_CHECK_COMPLETE (R112, R564): `sig` says that the ECDSA signature verifies under the boot ROM's key, whose value the spec does not
give. -/
def execBootCheckComplete (sig : Bool) (_bad : Unit) (s : State) : Host.Outcome State Fault Refusal :=
  match s.boot.check with
  | none => done s
  | some (slot, t, second) =>
    let s := { s with boot := { s.boot with check := none } }
    let s := s.set SYS_FW_STAT_BOOT_MS (min ((s.tick - t + 999) / 1000) 255)
    if s.selector.trial then
      let m := s.slotManifest slot
      match s.trialVerdict m slot sig with
      | none => done (s.trialPass m slot)
      | some (result, part) => done (((s.event .bootCheckFailed 0 [slot]).revertBegin result part).settle)
    else if sig && s.keyUsable (s.slotManifest slot) then done (s.firmwareStart slot)
    else
      let s := s.event .bootCheckFailed 0 [slot]
      if !second then done ((s.checkBegin (1 - slot) true).settle)
      else done (((s.setB SYS_STAT_NO_FW true).setB SYS_FW_STAT_NO_FW true).settle)

/-! ### RESET_IN (R100) -/

/-- RESET_IN has stood at its level in each of the last `DEBOUNCE` ticks, judged from the tick after the Kiln load (R100). -/
def State.debounced (s : State) : Bool :=
  s.boot.kilnLoaded && !s.boot.por && decide (max s.balls.rstSince (s.boot.kilnAt + 1) + s.get SYS_RSTIN_CTRL_DEBOUNCE ≤ s.tick)

/-- RESET_IN is asserted: after the cores have first started it is a core restart; before, the boot check is held (R100). -/
def State.resetAssert (s : State) : State :=
  let s := { s with boot := { s.boot with resetIn := true } }
  if !s.on SYS_CTRL_CORE_RST_EN then s
  else if s.boot.coresStarted then s.coreRestart.settle
  else ({ s with boot := { s.boot with check := none } }).event .bootHeld

/-- RESET_IN is released: cores that were held start (R100). -/
def State.resetRelease (s : State) : State :=
  let s := { s with boot := { s.boot with resetIn := false } }
  if s.on SYS_CTRL_CORE_RST_EN ∧ !s.boot.firmware ∧ s.boot.check.isNone then s.bootStart.settle else s

/-- The level of RESET_IN, once it is qualified. -/
def State.resetJudge (s : State) : State :=
  if !s.debounced || s.balls.rstLow == s.boot.resetIn then s
  else if s.balls.rstLow then s.resetAssert else s.resetRelease

/-- RESET_IN goes low or high in this tick, where it was not so already; without VIO_A its pull holds it high (R593, R621). -/
def State.resetBall (s : State) (lowAt : Bool) : State :=
  let low := lowAt && s.bitOn SYS_SUPPLY_STAT_GOOD 2
  if s.balls.rstLow = low then s else { s with balls := { s.balls with rstLow := low, rstSince := s.tick } }

/-- RESET_IN_ASSERT (R100): RESET_IN is low; it is asserted in the tick in which it has been so for `DEBOUNCE` ticks. -/
def execResetInAssert (s : State) : Host.Outcome State Fault Refusal := done (s.resetBall true).resetJudge

/-- RESET_IN_RELEASE (R100): RESET_IN is high; it is released in the tick in which it has been so for `DEBOUNCE` ticks. -/
def execResetInRelease (s : State) : Host.Outcome State Fault Refusal := done (s.resetBall false).resetJudge

/-! ### Self-calibration (R110, R111) -/

/-- An attempt starts. -/
def State.calStart (s : State) : State :=
  let s := (s.setB SYS_CAL_STAT_RUNNING true).inc SYS_CAL_STAT_ATTEMPTS
  ({ s with boot := { s.boot with calRun := some s.tick, calRetryAt := none } }).spareStart

/-- An attempt succeeds: its coefficients are in force, with the blend of R111. -/
def State.calPass (s : State) (t : Nat) (found : Vector (Int × Int) 15) : State :=
  let s := (s.setB SYS_CAL_STAT_FAILED_LAST false).set SYS_CAL_STAT_LAST_MS (min ((s.tick - t + 999) / 1000) 65535)
  let s := ((s.setB SYS_STAT_CAL_FAIL false).stamp SYS_T_CAL_TICK).setBit SYS_BOOT_STAT_DONE 2 true
  let s := { s with
      boot := { s.boot with calDone := true, blend := some (s.tick, 1000 * s.get SYS_GW_CTRL_BLEND) }
      afe := { s.afe with passAt := some s.tick, coefs := found } }
  s.tryFull.settle

/-- An attempt fails; the next starts 10 s later. -/
def State.calFailed (s : State) : State :=
  let s := ((s.setB SYS_CAL_STAT_FAILED_LAST true).setB SYS_STAT_CAL_FAIL (!s.boot.calDone)).event .calAttemptFailed
  { s with boot := { s.boot with calRetryAt := some (s.tick + 10000000) } }

/-- CAL_ATTEMPT_COMPLETE (R110, R111): gain and offset found of each unit; none where a check of the attempt failed, as it does where one lies
outside its bounds (R137). -/
def execCalAttemptComplete (found : Option (Vector (Int × Int) 15)) (s : State) : Host.Outcome State Fault Refusal :=
  match s.boot.calRun with
  | none => done s
  | some t =>
    let s := ({ s with boot := { s.boot with calRun := none } }).setB SYS_CAL_STAT_RUNNING false
    done (match found with
      | some x => if x.toList.any coefBad then s.calFailed else s.calPass t x
      | none => s.calFailed)

/-- CAL_RETRY_TIMER (R110). -/
def execCalRetryTimer (s : State) : Host.Outcome State Fault Refusal :=
  if s.due s.boot.calRetryAt ∧ s.boot.calRun.isNone then done s.calStart else done s

/-- `SYS_CAL_CMD.RETRY` (R110, R115): ignored unless the last attempt failed, and while one runs. -/
def State.calRetry (s : State) : State :=
  if s.on SYS_CAL_STAT_FAILED_LAST && s.boot.calRun.isNone then s.calStart else s

/-- CAL_RETRY_CMD (R110, R115). -/
def execCalRetryCmd (r : Requester) (s : State) : Host.Outcome State Fault Refusal :=
  done (s.gate r SYS_CAL_CMD_RETRY.addr State.calRetry)

end Sys2Proof.Machine
end

