-- ==== Sys2Proof/Machine/Saf.lean ====
section
/-! DEFINITION. Single-fault coverage (file 25): the comparison of the supervisor cores, Sieve, supply droops, and telemetry. -/

namespace Sys2Proof.Machine

/-! ### Supervisor cores (R578) -/

/-- A core fault: both cores restart, or stay in reset where the limit of an hour is reached. -/
def State.coreFault (s : State) (task : Nat) : State :=
  let s := (s.detect 7 0).set SAF_CORE_STAT_TASK task
  let hour := (s.tick :: s.saf.coreFaults).filter (fun t => decide (s.tick < t + 3600000000))
  let s := ({ s with saf := { s.saf with coreFaults := hour } }).set SAF_CORE_STAT_FAULTS_HR (min 255 hour.length)
  if s.get SAF_CORE_CFG_CORE_LIMIT ≤ hour.length then
    (((s.inc SYS_LEVEL_CNT_CORE_RESTARTS).coresStop).setB SAF_STAT_CORE_HELD true).settle
  else s.coreRestart.settle

/-- Core comparison is in force: `CORE_CMP` is 1 and firmware runs. -/
def State.coreCmp (s : State) : Bool := s.on SAF_CTRL_CORE_CMP && s.boot.firmware

/-- CORE_TASK_BOUNDARY (R578): both signatures of a task have arrived; `differ` says that they differ. -/
def execCoreTaskBoundary (task : Byte) (differ : Bool) (s : State) : Host.Outcome State Fault Refusal :=
  if !s.coreCmp then done s
  else
    let s := s.incWrap SAF_CORE_STAT_COMPARES
    if differ then done (s.coreFault task.toNat) else done s

/-- CORE_BOUNDARY_TIMEOUT (R578): one core has not reached the boundary 500 ticks after the other. -/
def execCoreBoundaryTimeout (task : Byte) (s : State) : Host.Outcome State Fault Refusal :=
  if s.coreCmp then done (s.coreFault task.toNat) else done s

/-- CORE_RELEASE (R578). -/
def execCoreRelease (r : Requester) (s : State) : Host.Outcome State Fault Refusal :=
  done (s.gateRole r SAF_CMD_CORE_RELEASE.addr .curator (fun s =>
    if s.on SAF_STAT_CORE_HELD then ((s.setB SAF_STAT_CORE_HELD false).bootStart).settle else s))

/-! ### Sieve (R579, R580) -/

/-- Region code of R580. -/
def sramRegion : SramSpot → Nat
  | .working => 0 | .coefficients => 1 | .catalogue _ => 2 | .topsoil => 3 | .subsoil => 4 | .events => 5 | .mailbox _ => 6
  | .transaction _ => 7 | .string _ => 7 | .curve _ => 7 | .other => 8

/-- A double-bit error in a Catalogue entry: Deaccession, and an entry of the Kiln record returns to BAKED. -/
def State.entryLost (s : State) (n : Nat) : State :=
  let s := s.deaccede n
  match s.newestCopy with
  | none => s
  | some k =>
    match ((s.nvm.copies.get k).image.entries.find? (fun e => e.entry == n)) with
    | none => s
    | some e => if s.on SYS_STAT_KILN_BLANK then s else s.entBaked e

/-- A transaction in flight ends with TIMEOUT. -/
def State.requestLost (s : State) (k : Nat) : State :=
  match s.twb.reqs[k]? with
  | none => s
  | some q =>
    if q.dead || q.ended.isSome then s
    else
      let s := if q.started then s.onReq q.id (fun q => { q with dead := true }) else s.dropReq q.id
      (s.deliver q { code := 20 }).accAdvance

/-- What the owner of a word does about a double-bit error that Sieve finds (R580). -/
def State.spotLost (s : State) (spot : SramSpot) : State :=
  match spot with
  | .working => s.coreFault (s.get SAF_CORE_STAT_TASK)
  | .catalogue n => s.entryLost n.val
  | .mailbox c => s.event .mailboxWordLost 0 [c.val]
  | .transaction k => s.requestLost k
  | .string n => if s.strOn n && (s.str n).live then s.strRestore n else s
  | .curve n => (s.setRect n { s.rect n with curve := Vector.replicate 16 {} }).showCurve n
  | _ => s

/-- Reading an SRAM word under SECDED (R577, R580). -/
def State.sramFound (s : State) (w : Nat) (spot : SramSpot) (e : WordError) : State :=
  match e with
  | .none => s
  | .single => (s.inc BKG_SRAM_ECC_SEC).inc SAF_CLASS_CNT_COUNT 0
  | .double => ((s.sramDouble w (sramRegion spot)).spotLost spot).settle

/-- Words of SRAM, and of NVM. -/
def sramWords : Nat := 1572864
def nvmWords : Nat := 4194304

/-- SIEVE_READ (R579): the next SRAM word of the pass, due from tick 8,000,000p + 5w, or the next group of four NVM words, due from
8,000,000p + 7j; with what each read finds. -/
def execSieveRead (sram : Bool) (spot : SramSpot) (found : Vector WordError 4) (s : State) : Host.Outcome State Fault Refusal :=
  let t := s.tick % 8000000
  if s.boot.g.isNone ∨ !s.on BKG_SIEVE_CFG_EN then done s
  else if sram then
    let w := s.saf.sramRead
    if sramWords ≤ w ∨ t < 5 * w then done s
    else
      let s := { s with saf := { s.saf with sramRead := w + 1 } }
      let s := (s.set BKG_SIEVE_POS_WORD w).set BKG_SIEVE_STAT_PCT ((w + 1) * 100 / sramWords)
      done (s.sramFound w spot (found.get 0))
  else
    let w := s.saf.nvmRead
    if !s.on BKG_SIEVE_CFG_NVM_EN ∨ nvmWords ≤ w ∨ t < 7 * (w / 4) then done s
    else
      let s := { s with saf := { s.saf with nvmRead := w + 4 } }
      let s := s.set BKG_SIEVE_NPOS_WORD (w + 3)
      done ((s.each (List.finRange 4) (fun s i => s.nvmFound (4 * (w + i.val)) (found.get i))).settle)

/-- SIEVE_PASS_END (R579): at the end of a window the pass ends; late where it has not read every word. -/
def execSievePassEnd (s : State) : Host.Outcome State Fault Refusal :=
  if s.tick % 8000000 ≠ 0 ∨ s.boot.g.isNone ∨ !s.on BKG_SIEVE_CFG_EN then done s
  else
    let whole := decide (sramWords ≤ s.saf.sramRead) && (!s.on BKG_SIEVE_CFG_NVM_EN || decide (nvmWords ≤ s.saf.nvmRead))
    let s := { s with saf := { s.saf with sramRead := 0, nvmRead := 0 } }
    let s := s.set BKG_SIEVE_STAT_PCT 0
    if whole then done ((s.incWrap BKG_SIEVE_STAT_PASSES).setB BKG_STAT_SIEVE_LATE false).settle
    else done (((s.inc BKG_SIEVE_LATE_LATE).setB BKG_STAT_SIEVE_LATE true).event .sieveLate).settle

/-! ### Supply droop (R581) -/

/-- The bit of a supply: VCORE, VIN, VDDA. -/
def droopField (k : Fin 3) : Field :=
  if k = 0 then SAF_DROOP_STAT_VCORE else if k = 1 then SAF_DROOP_STAT_VIN else SAF_DROOP_STAT_VDDA

/-- SUPPLY_DROOP: a droop of 1 µs or more is detected, `lat` ticks after it began. -/
def execSupplyDroop (k : Fin 3) (lat : Fin 6) (s : State) : Host.Outcome State Fault Refusal :=
  if s.on (droopField k) then done s
  else done ((((s.setB (droopField k) true).inc SAF_DROOP_STAT_COUNT).detect 11 lat.val).settle)

/-- SUPPLY_DROOP_END. -/
def execSupplyDroopEnd (k : Fin 3) (s : State) : Host.Outcome State Fault Refusal :=
  if s.on (droopField k) then done (s.setB (droopField k) false).settle else done s

/-! ### Telemetry (R582) -/

/-- Measured loss: Σ(P_in − P_out) over ACTIVE (file 09, source 0x76); invalid where a measurement is missing. -/
def State.measuredLoss (s : State) : Option Int :=
  s.activeRects.foldl (fun m n => match m, (s.rect n).pin, (s.rect n).power with
    | some v, some i, some o => if s.fresh (some i) && s.fresh (some o) then some (v + (i.1 - o.1)) else none
    | _, _, _ => none) (some 0)

/-- The refresh. -/
def State.telRefresh (s : State) : State :=
  let s := match s.measuredLoss with
    | some v => s.setI SHR_LOSS_MEAS_P v
    | none => s.setInvalid SHR_LOSS_MEAS_P
  s.each s.confStrs (fun s n => s.telStr n)

/-- Ticks between refreshes: `PERIOD_MS` in full service, 10 Hz in GREENWARE (R108, R582). -/
def State.telPeriod (s : State) : Nat := if s.full then 1000 * s.get BKG_TEL_CFG_PERIOD_MS else 100000

/-- The last point of the refresh's grid: whole periods after the point before it, without drift (R38). -/
def State.telGrid (s : State) : Nat := s.saf.telAt + (s.tick - s.saf.telAt) / max 1 s.telPeriod * max 1 s.telPeriod

/-- TELEMETRY_REFRESH (R582): a refresh that took `ms`, or one that is skipped because the last has not completed. None takes place in HALT
(R584). -/
def execTelemetryRefresh (ms : Option (BitVec 16)) (s : State) : Host.Outcome State Fault Refusal :=
  if s.boot.g.isNone ∨ s.power = .halt ∨ s.tick < s.saf.telAt + s.telPeriod then done s
  else
    let s := { s with saf := { s.saf with telAt := s.telGrid } }
    match ms with
    | some d => done ((s.telRefresh).set BKG_TEL_STAT_LAST_MS d.toNat)
    | none => done ({ (s.inc BKG_TEL_STAT_LATE) with saf := { s.saf with telLate := some (s.tick / 1000000) } })

end Sys2Proof.Machine
end

