-- ==== Sys2Proof/Machine/Flags.lean ====
section
/-! DEFINITION. Status that a register shows and no register holds (R79): each such field is computed from the state when it is read.
Here the form of a computed field, and the pages SYS to BBX. -/

namespace Sys2Proof.Machine

/-- A computed field: element `i` of `f` shows `v`. -/
structure Shown where
  f : Field
  i : Nat
  v : Nat
  deriving DecidableEq, Repr

def shN (f : Field) (v : Nat) (i : Nat := 0) : Shown := ⟨f, i, v⟩
def shB (f : Field) (b : Bool) (i : Nat := 0) : Shown := ⟨f, i, if b then 1 else 0⟩
def shI (f : Field) (v : Int) (i : Nat := 0) : Shown := ⟨f, i, ofSigned f.width (satTo f.width v)⟩

/-- A measured value of R4, or its invalid marker. -/
def shM (f : Field) (v : Option Int) (i : Nat := 0) : Shown :=
  match v with
  | some x => shI f x i
  | none => shN f f.invalid i

/-- A count that saturates in its field. -/
def shS (f : Field) (v : Nat) (i : Nat := 0) : Shown := shN f (min v (2 ^ f.width - 1)) i

/-- The elements below `n` of a field that stand in the register at `a`. -/
def elemsAt (f : Field) (n a : Nat) : List Nat := (List.range n).filter (fun i => f.at i == a)

/-! ### SYS, CCK, SES (R68, R115, R79, R488) -/

def State.supplyLow (s : State) : Bool := s.get SYS_SUPPLY_STAT_GOOD / 4 % 8 != 7

def State.showSYS (s : State) : List Shown :=
  [shB SYS_STAT_GREENWARE (!s.full),
   shB SYS_STAT_OUT_HOLD (s.bitOn SYS_STRAP_LATCHED 3 && !s.boot.decided),
   shN SYS_STAT_STRAP_UNSTABLE (s.get SYS_STRAP_UNSTABLE),
   shB SYS_STAT_SUPPLY_LOW s.supplyLow,
   shN SYS_STRAP_NOW (Config.pads SYS_STRAP_NOW.addr s.tick),
   shB SYS_VCORE_STAT_SETTLED (decide (s.tb.settleAt ≤ s.tick))]

def State.showCCK (s : State) : List Shown :=
  [shB CCK_STAT_MISMATCH (s.get CCK_MIS_MASK_MIS != 0 && s.on CCK_STAT_REF_VALID),
   shB CCK_STAT_CORRUPT (s.get CCK_CORRUPT_MASK_COR != 0),
   shB CCK_STAT_PENDING (s.get CCK_MIS_MASK_MIS &&& s.get CCK_WR_MASK_WR != 0),
   shN CCK_LOCK_MASK_LOCKED (maskOf ((List.range 31).filter (fun p => s.pageLocked (p * 0x4000))))]

def State.showSES (s : State) (a : Nat) : List Shown :=
  [shB SES_STAT_PROVISIONING s.provisioning,
   shB SES_STAT_SPI_SESSION s.spiSession.isSome,
   shB SES_STAT_LOCKOUT (s.ports.lockEnd.toList.any (fun e => e.isSome && !s.due e)),
   shB SES_STAT_FULL ((List.range 8).all (fun k => s.get SES_SESS_ROLE k != 0))] ++
  (elemsAt SES_SESS_IDLE 8 a).map (fun k =>
    shS SES_SESS_IDLE (if s.get SES_SESS_ROLE k = 0 then 0
      else (s.tick - (s.ports.sessions.get (Fin.ofNat 8 k)).lastTick) / 1000000) k)

/-! ### KLN, NVM (R49, R539 to R542) -/

def State.showKLN (s : State) : List Shown :=
  [shB KLN_STAT_BUSY s.nvm.bake.isSome,
   shB KLN_STAT_NEAR_FULL (decide (120000 < s.get KLN_NEXT_LEN_LEN))]

/-- The owner of the NVM write port, as far as the model holds the port across commands: a wipe, a commit, a BAKE. -/
def State.portOwner (s : State) : Nat :=
  if s.nvm.strata then 1 else if s.nvm.bake.isSome then 2 else if s.nvm.wipe.isSome then 7 else if !s.chn.held.isEmpty then 4
  else if !s.nvm.waiting.isEmpty then 5 else 0

def State.showNVM (s : State) : List Shown :=
  [shB NVM_STAT_WIPING s.nvm.wipe.isSome,
   shB NVM_STAT_DED (!s.nvm.ded.isEmpty),
   shB NVM_STAT_TILL_LATE (decide (182 < s.tillAge)),
   shB NVM_STAT_WEAR_HIGH ((List.range 7).any (fun r => decide (800 < s.wearOf r))),
   shS NVM_TILL_AGE_DAYS s.tillAge,
   shN NVM_PORT_OWNER s.portOwner] ++
  (List.range 7).map (fun r => shS NVM_WEAR_KWRITES (s.wearOf r) r)

/-! ### TB (R50 to R61) -/

/-- The fine stamp of an access granted in this tick (R51, R53): which fine unit it is, the mutual-exclusion element resolves. -/
def State.fineNow (s : State) : Nat := s.fineOf (Config.pads TB_FINE_FINE.addr s.tick)

/-- PTP time of day at the fine unit of an access granted in this tick, in ns (R39, R51, R61); on the check oscillator at its tick. -/
def State.ptpNow (s : State) : Nat :=
  (s.tb.ptpSec * 1000000000 + s.tb.ptpNs) + 1000 * (s.tick - s.ports.ptpLast) + (if s.tb.onCheck then 0 else 20 * s.fineNow)

def State.ptpValid (s : State) : Bool :=
  decide (2 ≤ s.get TB_SRC_CTRL_SRC) && s.tb.ptpKnown &&
  (s.get TB_DISC_STAT_STATE == 2 || (s.get TB_DISC_STAT_STATE == 3 && !s.on TB_DISC_STAT_STALE))

def State.showTB (s : State) : List Shown :=
  [shB TB_STAT_TB_FAULT s.tb.onCheck,
   shB TB_STAT_ON_CHECK s.tb.onCheck,
   shB TB_STAT_LOCKED (s.get TB_DISC_STAT_STATE == 2),
   shB TB_STAT_HOLDOVER (s.get TB_DISC_STAT_STATE == 3),
   shB TB_STAT_DISC_CLAMP ((s.getI TB_FADJ_FADJ).natAbs == 100000),
   shN TB_TICK_LO_TICK_LO s.tick,
   shN TB_TICK_HI_TICK_HI (s.tick / 2 ^ 32),
   shN TB_FINE_FINE s.fineNow,
   shS TB_DISC_STAT_LOCK_S (if s.get TB_DISC_STAT_STATE = 2 then (s.tick - s.tb.lockedSince) / 1000000 else 0),
   shN TB_PTP_SEC_LO_SEC_LO (if s.tb.ptpKnown then s.ptpNow / 1000000000 else 0),
   shN TB_PTP_SEC_HI_SEC_HI (if s.tb.ptpKnown then s.ptpNow / 1000000000 / 2 ^ 32 else 0),
   shN TB_PTP_NS_NS (if s.tb.ptpKnown then s.ptpNow % 1000000000 else 0),
   shB TB_PTP_NS_VALID s.ptpValid,
   shN TB_OPTIME_LO_MS_LO (s.opTimeAt s.tick),
   shN TB_OPTIME_HI_MS_HI (s.opTimeAt s.tick / 2 ^ 32)]

/-! ### EVR, BBX (R447, R452, R455, R421, R426) -/

/-- A limiter entry in the form of EVR_RL_CFG and EVR_RL_STAT. -/
def State.showEVR (s : State) : List Shown :=
  let b := s.evr.buckets.get s.rlIndex
  let c := s.get EVR_CODE_SEL_CODE
  let known := ownCode c || c == 1 || (List.range 105).any (fun n => Config.eventCode n == c) || Config.codeDefined c
  [shB EVR_STAT_PENDING (!seqUpTo (s.get EVR_PEND_SEQ_SEQ) (s.get EVR_ACK_SEQ)),
   shB EVR_STAT_QUEUE_HIGH (decide (2048 * s.get EVR_CFG_HIGH_PCT ≤ 100 * s.evr.queue.length)),
   shB EVR_STAT_DROPPING (s.evr.dropTrace.count != 0 || s.evr.dropEvent.count != 0),
   shB EVR_STAT_SUPPRESSING (s.evr.shared.suppressed != 0 || s.evr.buckets.toList.any (fun x => x.suppressed != 0)),
   shB EVR_STAT_STALLED s.evr.stalledSince.isSome,
   shN EVR_RL_CFG_CODE b.code, shN EVR_RL_CFG_RATE b.rate, shN EVR_RL_CFG_BURST b.burst,
   shS EVR_RL_STAT_SUPPR b.suppressed, shS EVR_RL_STAT_LEVEL ((b.refill (s.tick / 1000 - s.evr.refilled)).level / 1000),
   shN EVR_RL_CRC_CRC (crc32c (s.evr.buckets.toList.map (fun x => leBytes 4 x.word.toNat)).flatten).toNat,
   shB EVR_CODE_INFO_DEFINED known,
   shN EVR_CODE_INFO_SEV (if known then codeSev c else 0),
   shN EVR_CODE_INFO_CLASS (if known then codeClass c else 0),
   shN EVR_CODE_INFO_LAYOUT (if known then Config.eventLayout c else 0),
   shN EVR_CODE_INFO_ENTRY (match s.limiterOf c with | some i => i.val | none => 255)]

/-- The newest open record. -/
def State.openRec (s : State) : Option BoxRecord := s.bbx.recs.getLast?

/-- Windows of 1,000 blocks: a block was dropped in the current or last one. -/
def State.lately (s : State) (w : Option Nat) (len : Nat) : Bool :=
  match w with
  | some k => decide (s.tick / len ≤ k + 1)
  | none => false

def State.showBBX (s : State) (a : Nat) : List Shown :=
  let recs := s.bbx.recs
  let commit := recs.any (fun r => r.started.isSome)
  let held := s.bbx.dir.toList.filter (fun d => d.state != 0)
  let rec1 (f : BoxRecord → Nat) : Nat := match s.openRec with | some r => f r | none => 0
  [shB BBX_STAT_CAPTURE (recs.any (fun r => r.window)),
   shB BBX_STAT_COMMIT commit,
   shB BBX_STAT_SECOND (decide (2 ≤ recs.length)),
   shB BBX_STAT_RAW s.rawAll,
   shB BBX_STAT_DROPPING (s.lately s.bbx.dropTopWin 1000000 || s.lately s.bbx.dropSubWin 100000000),
   shB BBX_STAT_TRUNCATED s.bbx.lastTruncated,
   shN BBX_TOP_STAT_OLD_OFS (match s.bbx.top.blocks.head? with | some b => b.ofs | none => 0),
   shN BBX_TOP_OLD_TICK (match s.bbx.top.blocks.head? with | some b => b.start | none => 0),
   shS BBX_TOP_DEPTH_BLOCKS s.bbx.top.blocks.length,
   shS BBX_TOP_DEPTH_PROT (s.bbx.top.blocks.filter s.protectedTop).length,
   shN BBX_SUB_STAT_OLD_OFS (match s.bbx.sub.blocks.head? with | some b => b.ofs | none => 0),
   shN BBX_SUB_OLD_TICK (match s.bbx.sub.blocks.head? with | some b => b.start | none => 0),
   shS BBX_SUB_DEPTH_BLOCKS s.bbx.sub.blocks.length,
   shS BBX_SUB_DEPTH_PROT (s.bbx.sub.blocks.filter s.protectedSub).length,
   shN BBX_REC_STAT_STATE (match recs with | [] => 0 | [r] => if r.window then 1 else 2 | _ => 3),
   shS BBX_REC_STAT_NTRIG (rec1 (fun r => r.trigs.length)),
   shS BBX_REC_STAT_POST (rec1 (fun r => r.post)),
   shS BBX_REC_STAT_PRE (rec1 (fun r => r.pre)),
   shS BBX_STRATA_RECORDS held.length,
   shS BBX_STRATA_PINNED (held.filter (fun d => d.pinned)).length,
   shS BBX_STRATA_FREE (71 - (held.map (fun d => d.sectors.length)).sum),
   shN BBX_STRATA_SEQ_NEXT s.bbx.nextSeq] ++
  ((elemsAt BBX_DIR_STATE 16 a ++ elemsAt BBX_DIR_TICK_TICK 16 a).map (fun k =>
    let d := s.bbx.dir.get (Fin.ofNat 16 k)
    [shN BBX_DIR_STATE d.state k, shB BBX_DIR_PINNED d.pinned k, shN BBX_DIR_FLAGS d.flags k,
     shN BBX_DIR_SOURCE d.source k, shN BBX_DIR_SEQ d.seq k, shN BBX_DIR_TICK_TICK d.t k])).flatten

end Sys2Proof.Machine
end

