-- ==== Sys2Proof/Machine/FlagsLoop.lean ====
section
/-! DEFINITION. Computed status of the pages AFE to CNV (R79). -/

namespace Sys2Proof.Machine

/-! ### AFE (R118, R121, R132, R135) -/

/-- A string input lay outside its range in the current or last 1,000-tick window. -/
def State.intOvrShown (s : State) : Nat :=
  maskOf ((List.range 8).filter (fun n => match s.afe.intOvr.get (Fin.ofNat 8 n) with
    | some t => decide (s.tick / 1000 ≤ t / 1000 + 1)
    | none => false))

/-- Comparators calibrated within 24 h. -/
def State.cmpOk (s : State) : Nat :=
  maskOf ((List.range 16).filter (fun n => match s.afe.cmpAt.get (Fin.ofNat 16 n) with
    | some t => decide (s.tick ≤ t + 86400000000)
    | none => false))

def State.showAFE (s : State) : List Shown :=
  [shB AFE_STAT_XFAULT_A (s.get AFE_XCHK_STAT_EXCL_A != 0),
   shB AFE_STAT_XFAULT_B (s.get AFE_XCHK_STAT_EXCL_B != 0),
   shB AFE_STAT_CAL_RUNNING (match s.afe.pass with | some p => p.2 | none => false),
   shB AFE_STAT_CAL_INVALID s.afe.calInvalid,
   shB AFE_STAT_FAST_OVR (match s.afe.fastOvr with | some t => decide (s.tick / 1000 ≤ t / 1000 + 1) | none => false),
   shB AFE_STAT_MON_MISSED (s.lately s.afe.missedWin 10000),
   shB AFE_STAT_RD_FAULT (s.get AFE_RD_FAULT_FAULT != 0),
   shB AFE_STAT_INT_OVR (s.intOvrShown != 0),
   shB AFE_STAT_CMP_UNCAL (s.cmpOk != 0xFFFF),
   shN AFE_CMP_STAT_OUT (if s.afe.phIn.isSome then s.afe.cmpOut else Config.pads AFE_CMP_STAT_OUT.addr s.tick),
   shN AFE_CMP_STAT_CAL_OK s.cmpOk,
   shN AFE_INT_STAT_OVR s.intOvrShown,
   shB AFE_CAL_STAT_DONE s.boot.calDone]

/-! ### LPE, LPS (R158, R164, R178) -/

/-- The mask of the slots that `p` holds of. -/
def slotMask (p : Fin 64 → Bool) : Nat := maskOf (((List.finRange 64).filter p).map Fin.val)

/-- The two words of a 64-slot mask. -/
def showSlots (f : Field) (m : Nat) : List Shown := [shN f m 0, shN f (m / 2 ^ 32) 1]

/-- The slot overran in the current or last 10,000-tick window. -/
def State.overran (s : State) (n : Fin 64) : Bool :=
  (s.slot n).ovrCount != 0 && decide (s.tick / 10000 ≤ (s.slot n).ovrWin + 1)

def State.showLPE (s : State) (a : Nat) : List Shown :=
  let some_ (p : Fin 64 → Bool) : Bool := (List.finRange 64).any p
  [shB LPE_STAT_ADMIT_BUSY s.lpe.admission.isSome,
   shB LPE_STAT_OVERRUN (some_ s.overran),
   shB LPE_STAT_SAT (some_ (fun n => s.on LPS_STAT_SAT n.val)),
   shB LPE_STAT_SLOT_FAULT (some_ (fun n => s.on LPS_STAT_FAULT n.val)),
   shB LPE_STAT_LANE_RETIRED s.laneRetired,
   shB LPE_STAT_NO_SPARE (!(List.range 5).any (fun k => s.get LPE_LANE_ROLE k == 1)),
   shB LPE_STAT_COEF_BAD (s.get LPE_COEF_BAD_SLOTS 0 != 0 || s.get LPE_COEF_BAD_SLOTS 1 != 0),
   shB LPE_STAT_STAGED (some_ s.slotStaged),
   shB LPE_STAT_INPUT_INVALID (some_ (fun n => s.on LPS_STAT_INPUT_INVALID n.val))] ++
  (if a = LPE_LOAD_STAGED_LOAD.addr then [shN LPE_LOAD_STAGED_LOAD
     (if s.boot.g.isSome then min (s.loopView.loadWord (s.on LPE_PAIR_CTRL_PAIR_EN)) 0xFFFFFFFF else 0)]
   else if a = LPE_STAGED_SLOTS.at 0 ∨ a = LPE_STAGED_SLOTS.at 1 then showSlots LPE_STAGED_SLOTS (slotMask s.slotStaged)
   else if a = LPE_ACTIVE_SLOTS.at 0 ∨ a = LPE_ACTIVE_SLOTS.at 1 then showSlots LPE_ACTIVE_SLOTS (slotMask s.slotActive)
   else if a = LPE_SAT_SLOTS.at 0 ∨ a = LPE_SAT_SLOTS.at 1 then showSlots LPE_SAT_SLOTS (slotMask (fun n => s.on LPS_STAT_SAT n.val))
   else if a = LPE_FAULT_SLOTS.at 0 ∨ a = LPE_FAULT_SLOTS.at 1 then
     showSlots LPE_FAULT_SLOTS (slotMask (fun n => s.on LPS_STAT_FAULT n.val))
   else if a = LPE_OVR_SLOTS.at 0 ∨ a = LPE_OVR_SLOTS.at 1 then showSlots LPE_OVR_SLOTS (slotMask s.overran)
   else showSlots LPE_CRIT_SLOTS (slotMask (fun n => s.slotActive n && (s.paired n).isSome)))

def State.showLPS (s : State) (a : Nat) : List Shown :=
  (elemsAt LPS_STAT_STAGED 64 a).map (fun n => shB LPS_STAT_STAGED (s.slotStaged (Fin.ofNat 64 n)) n)

/-! ### LPT (R179 to R195) -/

def State.showLPT (s : State) : List Shown :=
  [shB LPT_STAT_TUNING (s.tuneState == 1),
   shB LPT_STAT_PROPOSAL (s.tuneState == 2),
   shB LPT_STAT_LP_LOCKED (s.on LPT_LP_STAT_LOCKED),
   shB LPT_STAT_LP_FLYWHEEL (s.on LPT_LP_STAT_FLYWHEEL || s.fadeMoving),
   shB LPT_STAT_TBL_PENDING (s.lpt.line.pending.toList.any id),
   shB LPT_STAT_TBL_BAD (s.get LPT_LP_STAT_TBL_BAD != 0),
   shB LPT_STAT_RC_DIVERGED ((List.range 4).any (fun k => s.on LPT_RC_STAT_DIVERGED k)),
   shB LPT_STAT_RC_FADING (s.lpt.rc.toList.any (fun x => x.fading.isSome)),
   shN LPT_LP_STAT_PHASE s.phi]

/-! ### PWM, CNV (R203 to R231) -/

def phaseMask (p : Fin 16 → Bool) : Nat := maskOf (((List.finRange 16).filter p).map Fin.val)

/-- PH_HI[n] and PH_LO[n] are driven high (R201); every output is at its safe level while the unit drives none (R105, R106). -/
def State.phHi (s : State) (n : Fin 16) : Bool := s.bankLive 3 && s.outputsOn && (s.phase n).drive == .hi
def State.phLo (s : State) (n : Fin 16) : Bool := s.bankLive 3 && s.outputsOn && (s.phase n).drive == .lo

def State.showPWM (s : State) (a : Nat) : List Shown :=
  [shB PWM_STAT_PH_FAULT ((List.range 16).any (fun n => s.on PWM_PH_STAT_FAULT n)),
   shB PWM_STAT_STUCK ((List.range 16).any (fun n => s.on PWM_PH_STAT_FAULT n && s.get PWM_PH_STAT_CAUSE n != 3)),
   shB PWM_STAT_CAL_FAIL (s.on PWM_CAL_CAL_FAIL),
   shB PWM_STAT_FALLBACK s.tb.onCheck,
   shB PWM_STAT_FIRING (s.cnv.groups.toList.any (fun x => x.firing)),
   shS PWM_CAL_AGE (match s.cnv.calAt with | some t => (s.tick - t) / 1000 | none => 0),
   shN PWM_OWN_OWN (if s.boot.g.isSome then s.phasesOwned else 0),
   shN PWM_ACTIVE_ACTIVE (phaseMask (fun n => s.on PWM_PH_STAT_ACTIVE n.val)),
   shN PWM_ACTIVE_SHED (phaseMask (fun n => s.on PWM_PH_STAT_SHED n.val)),
   shN PWM_MODES_FAULT (phaseMask (fun n => s.on PWM_PH_STAT_FAULT n.val)),
   shN PWM_MODES_DE (phaseMask (fun n => s.on PWM_PH_STAT_DE n.val)),
   shN PWM_READBACK_HI (phaseMask (fun n => s.phHi n != (s.phase n).diff.1)),
   shN PWM_READBACK_LO (phaseMask (fun n => s.phLo n != (s.phase n).diff.2))] ++
  (elemsAt PWM_PH_STAT_OWNED 16 a).map (fun n => shB PWM_PH_STAT_OWNED (s.boot.g.isSome && s.phasesOwned.testBit n) n)

def State.showCNV (s : State) : List Shown :=
  [shB CNV_STAT_G0_FAULT (3 ≤ s.groupState 0),
   shB CNV_STAT_G1_FAULT (3 ≤ s.groupState 1),
   shB CNV_STAT_SLEWING s.cnv.slew.isSome,
   shB CNV_STAT_AF_FIRING (s.cnv.groups.toList.any (fun x => x.firing)),
   shB CNV_STAT_AF_LOCKOUT (s.lockedOut 0 || s.lockedOut 1),
   shB CNV_STAT_ACF s.acFail,
   shB CNV_STAT_PERT_CLIPPED s.pertClipped,
   shB CNV_STAT_AT_UPPER ((List.finRange 2).any (fun g => s.groupUp g.val && s.getI CNV_DEM_D g.val == (s.demandLimits g).2)),
   shB CNV_STAT_FLOOR (s.cnv.groups.toList.any (fun x => x.floor.any (fun f => decide (f.2.1 ≤ s.tick)))),
   shM CNV_REF_REF s.refWord,
   shB CNV_AF_STAT_ARMED_G0 (s.armed 0), shB CNV_AF_STAT_ARMED_G1 (s.armed 1),
   shB CNV_AF_STAT_LOCKOUT_G0 (s.lockedOut 0), shB CNV_AF_STAT_LOCKOUT_G1 (s.lockedOut 1),
   shN CNV_ACF_STAT_SHEV_RAW (maskOf (((List.finRange 4).filter s.shevRaw).map (fun j => j.val))),
   shB CNV_ACF_STAT_SYNCA_LOST (s.syncLost 0), shB CNV_ACF_STAT_SYNCB_LOST (s.syncLost 1),
   shB CNV_ACF_STAT_ANY s.acFail,
   shI CNV_PERT_P s.pertInForce,
   shI CNV_CHG_IN_LIM s.chargeLimit] ++
  ((List.finRange 2).map (fun g =>
    [shN CNV_GRP_STAT_NAVAIL (s.nAvail g.val) g.val, shN CNV_GRP_STAT_NACT (s.nAct g.val) g.val,
     shB CNV_GRP_STAT_SHORT_TIMING (s.group g).shortSince.isSome g.val, shN CNV_GRP_STAT_NOWN (s.nOwn g.val) g.val, shM CNV_GRP_I_I (s.groupIShown g.val) g.val,
     shI CNV_GRP_LIM_U (s.groupU g) g.val, shI CNV_GRP_LOW_LOW (s.groupLow g) g.val])).flatten

end Sys2Proof.Machine
end

