-- ==== Sys2Proof/Machine/FlagsPower.lean ====
section
/-! DEFINITION. Computed status of the pages EFU to CAP, and THM (R79). -/

namespace Sys2Proof.Machine

/-! ### EFU (R334) -/

def State.showEFU (s : State) (a : Nat) : List Shown :=
  let any_ (p : Nat → Bool) : Bool := (List.range 8).any p
  [shB EFU_STAT_WAITING (any_ (fun n => s.get EFU_CH_STAT_STATE n == 2 && (s.fuse (Fin.ofNat 8 n)).failed)),
   shB EFU_STAT_FUSE_OUT (any_ (fun n => s.get EFU_CH_STAT_STATE n == 5)),
   shB EFU_STAT_DAMAGED (any_ (fun n => s.get EFU_CH_STAT_STATE n == 6)),
   shB EFU_STAT_FEED_NONE (s.on EFU_FEED_CFG_PAIR_EN && s.efu.sel == 0),
   shB EFU_STAT_FEED_ALT (s.on EFU_FEED_CFG_PAIR_EN && s.efu.sel != 0 && s.efu.sel != s.get EFU_FEED_CFG_PREF + 1),
   shB EFU_STAT_FET_HOT (any_ (fun n => s.on EFU_CH_STAT_HOT n)),
   shB EFU_STAT_FEED_STUCK (s.on EFU_FEED_STAT_STUCK),
   shN EFU_FEED_STAT_SEL (if !s.on EFU_FEED_CFG_PAIR_EN then 0 else if s.efu.gap.isSome then 3 else s.efu.sel),
   shB EFU_FEED_STAT_A_GOOD (s.feedGood 0),
   shB EFU_FEED_STAT_B_GOOD (s.feedGood 1),
   shB EFU_FEED_STAT_FORCED s.efu.force.isSome] ++
  ((elemsAt EFU_CH_STAT_STATE 8 a).map (fun n =>
    [shB EFU_CH_STAT_MEM (s.memHeld (Fin.ofNat 8 n)) n,
     shS EFU_CH_STAT_REMAIN ((s.fuseRemain (Fin.ofNat 8 n) + 9999) / 10000) n])).flatten ++
  ((elemsAt EFU_CH_MEAS_I 8 a).map (fun n =>
    [shM EFU_CH_MEAS_I (s.fuseCurrent (Fin.ofNat 8 n) 10) n,
     shM EFU_CH_MEAS_VOUT ((s.fuseV (Fin.ofNat 8 n)).map (fun v => divHalfEven v 100)) n])).flatten

/-! ### SEQ, RMN (R347, R349, R355, R359) -/

/-- 0 UNUSED, 1 OFF, 2 DELAY, 3 QUALIFYING, 4 UP, 5 DISCHARGING, 6 STUCK. -/
def State.railState (s : State) (n : Fin 24) : Nat :=
  let x := s.rail n
  if !s.railOn n then 0
  else if x.stuck then 6
  else if s.railEn n then (if s.railQual n then 4 else 3)
  else if x.enDue.isSome then 2
  else if !x.off && s.seqState == 3 then 5
  else 1

def State.showSEQ (s : State) (a : Nat) : List Shown :=
  [shB SEQ_STAT_RUN (s.seqState == 2),
   shB SEQ_STAT_ACTIVE (s.seqState == 1 || s.seqState == 3),
   shB SEQ_STAT_RETRY_WAIT (s.seqState == 4),
   shB SEQ_STAT_FAULT (s.seqState == 5),
   shB SEQ_STAT_STUCK ((List.finRange 24).any (fun n => s.railState n == 6)),
   shB SEQ_STAT_CASC_WAIT s.seq.cascSince.isSome,
   shB SEQ_STATE_PRIMARY s.seqPrimary,
   shN SEQ_OWN_RAILS s.railsOwned,
   shN SEQ_OWN_RESETS s.resetsOwned] ++
  ((elemsAt SEQ_RAIL_STAT_STATE 24 a).map (fun i =>
    let n : Fin 24 := Fin.ofNat 24 i
    [shN SEQ_RAIL_STAT_STATE (s.railState n) i, shB SEQ_RAIL_STAT_PG (s.railPg n) i,
     shB SEQ_RAIL_STAT_EN_OUT (s.railEn n) i, shB SEQ_RAIL_STAT_OWNED (s.ownRail n) i,
     shB SEQ_RAIL_STAT_OOO (s.bitOn SEQ_OOO_MASK i) i, shB SEQ_RAIL_STAT_DN_STUCK (s.bitOn SEQ_STUCK_MASK i) i])).flatten

def State.showRMN (s : State) (a : Nat) : List Shown :=
  [shB RMN_STAT_WARN ((List.finRange 24).any s.inWarn),
   shB RMN_STAT_TIMER ((List.finRange 24).any (fun n => s.timing n)),
   shB RMN_STAT_EXPIRED ((List.range 24).any (fun n => s.on RMN_RAIL_MEAS_EXPIRED n)),
   shB RMN_STAT_TEST s.testing,
   shB RMN_STAT_SG_LOW (s.seqState == 2 && !s.on RMN_SG_SG),
   shB RMN_SG_HELD (s.on RMN_SG_SG && s.sgRails.any (fun n => s.timing n)),
   shS RMN_SG_TEST_LEFT (match s.seq.testEnd with | some t => (t - s.tick + 999999) / 1000000 | none => 0)] ++
  (elemsAt RMN_RAIL_MEAS_TIMER 24 a).map (fun i => shB RMN_RAIL_MEAS_TIMER (s.timing (Fin.ofNat 24 i)) i)

/-! ### BAT, SHR, CAP (R245, R246, R259 to R262, R286, R293) -/

def State.showBAT (s : State) : List Shown :=
  let conf (p : Nat → Bool) : Bool := (List.range 8).any (fun n => s.bitOn BAT_CFG_STR_EN n && p n)
  let none_ := (s.power == .holdup || s.power == .ret) && s.lasted s.bat.noneClosed 1000
  [shB BAT_STAT_EXHAUST_RULE (s.allEmpty || none_),
   shB BAT_STAT_STRING_OUT s.stringOut,
   shB BAT_STAT_VOLTAGE_SRC (conf (fun n => s.get BAT_STR_STAT_SOC_SRC n == 1 || s.get BAT_STR_STAT_SOC_SRC n == 2)),
   shB BAT_STAT_BIAS (conf (fun n => s.on BAT_STR_STAT_CAPACITY_LOW_BIAS n || s.on BAT_STR_STAT_CAPACITY_HIGH_BIAS n)),
   shB BAT_STAT_CAP_STALE (conf (fun n => s.on BAT_STR_STAT_CAP_STALE n)),
   shB BAT_STAT_PERT_ON (s.pertState == 1),
   shB BAT_STAT_TBL_UNPROG (s.confStrs.any s.unprog),
   shB BAT_STAT_TRIPPED (conf (fun n => s.get BAT_STR_STAT_OPEN_CAUSE n == 6)),
   shN BAT_PERT_STAT_STATE s.pertState]

def State.showSHR (s : State) : List Shown :=
  let any_ (p : Fin 24 → Bool) : Bool := (List.finRange 24).any p
  let mask (k : Nat) : Nat := maskOf (((List.finRange 24).filter (fun n => s.rectState n == k)).map Fin.val)
  [shB SHR_STAT_EFFICIENCY s.efficiency,
   shB SHR_STAT_SILENT_ANY (any_ (fun n => s.rectState n == 6)),
   shB SHR_STAT_FAULTED_ANY (any_ (fun n => s.rectState n == 7)),
   shB SHR_STAT_TRIM_SAT_ANY (any_ (fun n => s.on SHR_RECT_STAT_TRIM_SAT n.val)),
   shB SHR_STAT_DERATED (any_ (fun n => s.rectState n != 0 && decide (s.capacity n < s.rated n))),
   shB SHR_STAT_TRANSIT (any_ (fun n => s.rectState n == 3 || s.rectState n == 5)),
   shB SHR_STAT_ALLOC_HELD (s.on SHR_MODE_MODE && !s.efficiency),
   shN SHR_ACTIVE_MASK (mask 2),
   shN SHR_STANDBY_MASK (mask 4)]

def State.showCAP (s : State) : List Shown :=
  let t := s.capTarget s.tick
  [shB CAP_STAT_CAPPED (s.capL != 0),
   shB CAP_STAT_RAMPING (decide (s.capNow < t.2)),
   shB CAP_STAT_TX_OFF (!s.capTx),
   shN CAP_IN_FORCE_C s.capNow,
   shN CAP_TARGET_T t.2,
   shN CAP_SRC_SRC t.1,
   shN CAP_HOLDUP_IN_H (if s.power = .holdup ∨ s.power = .exhausted then s.holdupCap else 0x7FFFFFFF),
   shN CAP_THERM_IN_CAP (s.get THM_REQ_CAP_CAP)] ++
  (List.range 4).map (fun p => shN CAP_PORT_IN_CAP (match s.capPort p with | some v => v | none => 0x7FFFFFFF) p)

/-! ### THM (R365, R369) -/

def State.showTHM (s : State) : List Shown :=
  let any_ (p : Nat → Bool) : Bool := (List.range 6).any p
  [shB THM_STAT_WARN (any_ (fun g => 1 ≤ s.thmLevel g)),
   shB THM_STAT_THROTTLE (any_ (fun g => 2 ≤ s.thmLevel g)),
   shB THM_STAT_SHUTDOWN (any_ (fun g => s.thmLevel g == 3)),
   shB THM_STAT_INVALID (any_ (fun g => s.on THM_GRP_STAT_INVALID g)),
   shB THM_STAT_TWARN s.twarnLow,
   shB THM_STAT_THERM s.thermLow,
   shM THM_MAX_TEMP (s.thmMax.map (fun m => m.2)),
   shN THM_MAX_SENSOR (match s.thmMax with | some m => m.1 | none => 0)]

end Sys2Proof.Machine
end

