-- ==== Sys2Proof/Machine/Update.lean ====
section
/-! DEFINITION. Firmware updates along the chain (file 24): the chain ports, delivery and forwarding, staging, activation, the module banks,
commit and revert. -/

namespace Sys2Proof.Machine

/-! ### Chain ports (R550 to R555) -/

def State.cport (s : State) (p : Fin 2) : ChainPort := s.chn.ports.get p

/-- Sets a port's record; `IN_FLIGHT` shows its unacknowledged blocks. -/
def State.setCport (s : State) (p : Fin 2) (x : ChainPort) : State :=
  ({ s with chn := { s.chn with ports := s.chn.ports.set p x } }).set CHN_PORT_STAT_IN_FLIGHT (min x.sent.length 31) p.val

/-- The other port. -/
def otherPort (p : Fin 2) : Fin 2 := if p = 0 then 1 else 0

/-- The part a stream block belongs to, and its place in it (R556). -/
def partOfBlock : List ImagePart → Nat → Nat → Option (Nat × ImagePart × Nat)
  | [], _, _ => none
  | p :: l, i, b => if b < p.blocks then some (i, p, b) else partOfBlock l (i + 1) (b - p.blocks)

/-- NVM offset at which block `b` of the image is stored (R561). -/
def State.blockPlace (s : State) (m : Manifest) (b : Nat) : Option Nat :=
  let slot := s.get UPD_STATE_TARGET
  if b = 0 then some (0x300000 * slot)
  else match partOfBlock m.parts 0 (b - 1) with
    | some (_, p, j) => some (p.place slot + 4096 * j)
    | none => none

/-- The staged copy of a block. -/
def State.blockBytes (s : State) (b : Nat) : List Byte :=
  match s.upd.manifest.bind (fun m => s.blockPlace m b) with
  | some off => s.bytes (nvmBase + off) 4096
  | none => []

/-- A block of the image leaves a port from the staged copy, with the hop count raised by 1. -/
def State.blockOut (s : State) (p : Fin 2) (b : Nat) (retx : Bool) : State :=
  let s := (s.inc CHN_FWD_STAGED).iff retx (fun s => s.inc CHN_RETX_RETX p.val)
  s.chainSend p (.block (BitVec.ofNat 32 (s.get CHN_IMAGE_ID)) b (s.get CHN_LAST_HOPS + 1) retx false (s.blockBytes b))

/-- Blocks that wait leave, while the send window has room (R554). -/
def State.pump (s : State) (p : Fin 2) : Nat → State
  | 0 => s
  | k + 1 =>
    let x := s.cport p
    match x.queue with
    | [] => s
    | b :: rest =>
      if !s.chainUp p || s.get CHN_CFG_WINDOW ≤ x.sent.length then s
      else
        let s := s.setCport p { x with queue := rest, sent := x.sent ++ [{ b := b, at_ := s.tick, sends := 1 }] }
        (s.blockOut p b false).pump p k

/-- The window's worth of blocks that wait. -/
def State.pumpAll (s : State) (p : Fin 2) : State := s.pump p 16

/-- Every unacknowledged block of a port is sent again (R570). -/
def State.resendAll (s : State) (p : Fin 2) : State :=
  let x := s.cport p
  let s := s.each x.sent (fun s y => s.blockOut p y.b true)
  s.setCport p { x with sent := x.sent.map (fun y => { y with at_ := s.tick, sends := y.sends + 1 }) }

/-- A port goes down (R553). -/
def State.chainDown (s : State) (p : Fin 2) : State :=
  ((s.setB CHN_PORT_STAT_LINK false p.val).setB CHN_PORT_STAT_LOCKED false p.val).inc CHN_PORT_STAT_DOWNS p.val

/-- A frame reaches an enabled port: one that ended with K30.7 is discarded, one with a bad CRC is counted (R551). -/
def State.chainFrame (s : State) (h : ChainHead) (f : State → State) : State :=
  if !s.chainOn h.port || h.aborted then s
  else if !h.crcOk then s.inc CHN_ERR_CRC h.port.val
  else f (s.incWrap CHN_RX_CNT_FRAMES h.port.val)

/-- HELLO (R553): it updates the neighbour; with the receiver locked and 100 valid idle sets it brings the port up, and unacknowledged
blocks are resent. -/
def State.helloRx (s : State) (p : Fin 2) (uid : BitVec 64) (st : Fin 8) (result : Fin 16) (ready : Bool) : State :=
  let s := (s.set CHN_NEIGH_LO_UID_LO uid.toNat p.val).set CHN_NEIGH_HI_UID_HI (uid.toNat / 2 ^ 32) p.val
  let s := (s.set CHN_NEIGH_STAT_STATE st.val p.val).set CHN_NEIGH_STAT_RESULT result.val p.val
  let s := s.setCport p { s.cport p with helloAt := some s.tick }
  if s.chainUp p || !ready then s
  else
    let s := (s.setB CHN_PORT_STAT_LINK true p.val).setB CHN_PORT_STAT_LOCKED true p.val
    (s.resendAll p).pumpAll p

def execChainHello (h : ChainHead) (uid : BitVec 64) (st : Fin 8) (result : Fin 16) (ready : Bool) (s : State) :
    Host.Outcome State Fault Refusal :=
  done (s.chainFrame h (fun s => s.helloRx h.port uid st result ready))

/-- STATUS (R553): it is forwarded unchanged out of the other port. -/
def execChainStatus (h : ChainHead) (payload : List Byte) (s : State) : Host.Outcome State Fault Refusal :=
  done (s.chainFrame h (fun s =>
    if s.chainUp h.port && s.chainUp (otherPort h.port) then s.chainSend (otherPort h.port) (.status payload) else s))

/-- HELLO_SEND (R553): every 100 ms. -/
def execHelloSend (s : State) : Host.Outcome State Fault Refusal :=
  if s.chn.helloSent + 100000 ≤ s.tick ∧ (s.chainOn 0 ∨ s.chainOn 1) then
    let s := s.each ((List.finRange 2).filter (fun p => s.chainOn p)) (fun s p => s.chainSend p (.hello s.helloBytes))
    done { s with chn := { s.chn with helloSent := s.tick } }
  else done s

/-- No valid HELLO has come in a 300 ms window. -/
def State.helloLate (s : State) (p : Fin 2) : Bool :=
  match (s.cport p).helloAt with
  | some t => decide (t + 1 + 300000 ≤ s.tick)
  | none => true

/-- CHAIN_PORT_TIMEOUT (R553): `codes` code violations have come since the last such command; a port goes down beyond 16 of them in one
1,000,000-tick window, or without a HELLO for 300 ms. -/
def execChainPortTimeout (p : Fin 2) (codes : Nat) (s : State) : Host.Outcome State Fault Refusal :=
  if !s.chainOn p then done s
  else
    let w := s.tick / 1000000
    let x := s.cport p
    let n := if x.codes.1 = w then x.codes.2 + codes else codes
    let s := (s.addSat CHN_ERR_CODE codes p.val).setCport p { x with codes := (w, n) }
    if s.chainUp p ∧ (16 < n ∨ s.helloLate p) then done (s.chainDown p) else done s

/-- RESET_LINK (R572): the port is taken down and trains again. -/
def execResetLink (r : Requester) (w : Word) (s : State) : Host.Outcome State Fault Refusal :=
  done (s.gate r CHN_CMD_PORT.addr (fun s =>
    let p : Fin 2 := Fin.ofNat 2 (bitsOf w 0 1)
    if s.chainUp p then s.chainDown p else s))

/-! ### Activation (R563) -/

/-- An image staged is activated, or the activation is refused. -/
def State.activate (s : State) : State :=
  if s.get UPD_STATE_STATE = 2 ∧ (s.on SYS_STAT_NO_FW ∨ (s.power = .normal ∧ s.full)) then
    let s := s.writeSelector { s.selector with
        trial := true, boots := 0, relT := s.get UPD_REL_NEW_REL, image := s.get UPD_IMAGE_ID }
    let s := { s with upd := { s.upd with activatedAt := s.tick, targets := none, cur := none } }
    ((s.updEnter 3 0 0xFF).coreRestart).settle
  else s.event .activateRefused

/-- ACTIVATE (R563). -/
def execUpdActivate (r : Requester) (s : State) : Host.Outcome State Fault Refusal :=
  done (s.gate r UPD_CMD_ACTIVATE.addr State.activate)

/-! ### Staging (R560, R561) -/

/-- Bit of this device in the grade mask (R557): C bit 0, I bit 1. -/
def State.gradeBit (s : State) : Nat := if s.get SYS_PART_GRADE = 0x49 then 1 else 0

/-- Where a part lies: the slot or module staging. -/
def ImagePart.inBounds (p : ImagePart) : Bool :=
  decide (p.dest % 4096 = 0) && decide (1 ≤ p.len) &&
  (if p.type = 4 then decide (p.dest + p.len ≤ 0x400000) else decide (0x1000 ≤ p.dest) && decide (p.dest + p.len ≤ 0x300000))

/-- Two parts overlap: both in the slot, or both in module staging. -/
def ImagePart.overlaps (p q : ImagePart) : Bool :=
  ((p.type == 4) == (q.type == 4)) && decide (p.dest < q.dest + q.len) && decide (q.dest < p.dest + p.len)

/-- No two parts of a list overlap. -/
def disjointParts : List ImagePart → Bool
  | [] => true
  | p :: l => l.all (fun q => !p.overlaps q) && disjointParts l

/-- The layout check of block 0 (R560). -/
def State.layoutOk (s : State) (bs : List Byte) : Bool :=
  let num := fun (o n : Nat) => leNat ((bs.drop o).take n)
  let m := manifestOf bs
  let types := m.parts.map (fun p => p.type)
  (bs.take 4 == [0x41, 0x45, 0x44, 0x4D]) && num 4 2 == 1 && decide (1 ≤ m.count ∧ m.count ≤ 20) && num 8 4 == 128 + 64 * m.count &&
  decide (128 + 64 * m.count ≤ bs.length) && num 0x10 2 == 0x250C && (num 0x12 1).testBit s.gradeBit &&
  types.all (fun t => decide (1 ≤ t ∧ t ≤ 4)) && types.count 1 == 1 && decide (types.count 2 ≤ 1) && decide (types.count 3 ≤ 1) &&
  m.parts.all ImagePart.inBounds && disjointParts m.parts

/-- The identifier of an image from its block 0 (R556). -/
def imageId (bs : List Byte) : Nat := (crc32c (bs.take (128 + 64 * (manifestOf bs).count))).toNat

/-- Block 0 is refused with NAK 5 (R560). -/
def State.refuses (s : State) (m : Manifest) : Bool :=
  decide (m.release < s.get UPD_MIN_REL_MIN) || !s.on UPD_CFG_ACCEPT || !s.keyUsable m

/-- The image has no more blocks to come: STAGED, and activated at once under `AUTO_ACT` or with no firmware (R561, R563). -/
def State.stagedCheck (s : State) (m : Manifest) : State :=
  if s.get UPD_STATE_STATE = 1 ∧ m.blocks ≤ s.upd.stored.length then
    let s := s.updEnter 2 (s.get UPD_STATE_RESULT) 0xFF
    s.iff (s.on UPD_CFG_AUTO_ACT || s.on SYS_STAT_NO_FW) State.activate
  else s

/-- A block is stored: its payload, filled with zeros to 4,096 bytes, and what shows it. -/
def State.blockStore (s : State) (m : Manifest) (b off : Nat) (payload : List Byte) : State :=
  let s := s.nvmWrite off (toWords ((payload ++ List.replicate 4096 0).take 4096))
  let s := { s with upd := { s.upd with stored := s.upd.stored ++ [b], lastNew := s.tick } }
  let s := s.set CHN_BLOCKS_STORED s.upd.stored.length
  match partOfBlock m.parts 0 (b - 1) with
  | some (i, p, _) =>
    if b = 0 then s
    else
      let s := s.inc UPD_PART_BLOCKS i
      s.iff (s.get UPD_PART_BLOCKS i == p.blocks) (fun s => s.set UPD_PART_STATE 2 i)
  | none => s

/-- A NAK of a reason (R552). -/
def State.nak (s : State) (h : ChainHead) (reason : Nat) : State :=
  ((s.inc CHN_ABORT_NAK_SENT).set CHN_LAST_NAK_REASON reason).chainSend h.port (.nak h.image h.block.toNat reason)

def State.ack (s : State) (h : ChainHead) : State := s.chainSend h.port (.ack h.image h.block.toNat)

/-- The unit stages the image of a frame. -/
def State.staging (s : State) (h : ChainHead) : Bool :=
  s.upd.manifest.isSome && s.get UPD_IMAGE_ID == h.image.toNat && s.upd.stored.contains 0 && s.get UPD_STATE_STATE != 0

/-- R555: a frame's image is forwarded out of the other port. -/
def State.forwards (s : State) (h : ChainHead) : Bool :=
  s.on CHN_CFG_FWD_EN && s.chainOn (otherPort h.port) && s.staging h && decide (h.hop.toNat < s.get CHN_CFG_HOP_MAX)

/-- A block begins to leave on the other port as its header arrives (R555): the port is up, not busy, and has nothing that waits. -/
def State.cuts (s : State) (h : ChainHead) (busy : Bool) : Bool :=
  let x := s.cport (otherPort h.port)
  s.forwards h && h.block != 0 && !busy && s.chainUp (otherPort h.port) && x.queue.isEmpty &&
  decide (x.sent.length < s.get CHN_CFG_WINDOW) && !x.sent.any (fun y => y.b == h.block.toNat)

/-- A block that is stored is forwarded: cut through, or later from the staged copy. -/
def State.forward (s : State) (h : ChainHead) (payload : List Byte) (cut : Bool) : State :=
  let p := otherPort h.port
  let x := s.cport p
  let b := h.block.toNat
  if cut then
    let s := s.setCport p { x with sent := x.sent ++ [{ b := b, at_ := s.tick, sends := 1 }] }
    (s.inc CHN_FWD_CUT).chainSend p (.block h.image b (h.hop.toNat + 1) false false payload)
  else if s.forwards h && !x.queue.contains b && !x.sent.any (fun y => y.b == b) then
    (s.setCport p { x with queue := x.queue ++ [b] }).pumpAll p
  else s

/-- Block 0 of an image is accepted (R560, R561). -/
def State.imageBegin (s : State) (h : ChainHead) (payload : List Byte) : State :=
  let m := manifestOf payload
  let s := ((s.set CHN_IMAGE_ID h.image.toNat).set CHN_BLOCKS_TOTAL m.blocks).set CHN_LAST_SRC_PORT h.port.val
  let s := ((s.set CHN_LAST_HOPS h.hop.toNat).set UPD_IMAGE_ID h.image.toNat).set UPD_REL_NEW_REL m.release
  let s := { s with
      upd := { s.upd with manifest := some m, stored := [], targets := none }
      chn := { s.chn with linkFail := false } }
  let s := s.each (List.finRange 2) (fun s p => s.setCport p { s.cport p with sent := [], queue := [] })
  let s := (s.showParts m 1).setB UPD_STAT_REVERTED false
  let s := s.blockStore m 0 (0x300000 * s.get UPD_STATE_TARGET) payload
  let s := (s.updEnter 1 0 0xFF).ack h
  (s.forward h payload false).stagedCheck m

/-- A block waits for the NVM write port, which a Strata commit or a BAKE has (R49); one that waits already is taken once. -/
def State.holdBlock (s : State) (h : ChainHead) (payload : List Byte) (cut : Bool) : State :=
  if s.chn.held.any (fun x => x.1.block == h.block && x.1.image == h.image) then s
  else { s with chn := { s.chn with held := s.chn.held ++ [(h, payload, cut)] } }

/-- A valid block 0. -/
def State.blockZero (s : State) (h : ChainHead) (payload : List Byte) : State :=
  let st := s.get UPD_STATE_STATE
  if 3 ≤ st then s.nak h 3
  else if s.staging h then s.ack h
  else if imageId payload ≠ h.image.toNat ∨ !s.layoutOk payload then (s.nak h 4).event .imageRefused 0 [4]
  else if s.refuses (manifestOf payload) then s.nak h 5
  else if st ≠ 0 ∧ (manifestOf payload).release ≤ s.get UPD_REL_NEW_REL then s.nak h 3
  else if !s.nvmFree then s.holdBlock h payload false
  else s.imageBegin h payload

/-- A valid block other than block 0. -/
def State.blockMore (s : State) (h : ChainHead) (payload : List Byte) (cut : Bool) : State :=
  match s.upd.manifest with
  | none => s.nak h 2
  | some m =>
    if !s.staging h then s.nak h 2
    else if s.upd.stored.contains h.block.toNat then (s.ack h).forward h payload cut
    else match s.blockPlace m h.block.toNat with
      | none => s.nak h 4
      | some off =>
        if !s.nvmFree then s.holdBlock h payload cut
        else
          let s := (s.blockStore m h.block.toNat off payload).set CHN_LAST_HOPS h.hop.toNat
          ((s.ack h).forward h payload cut).stagedCheck m

/-- A valid block is stored, acknowledged and forwarded, or refused. -/
def State.blockTake (s : State) (h : ChainHead) (payload : List Byte) (cut : Bool) : State :=
  if h.block = 0 then (s.blockZero h payload).settle else (s.blockMore h payload cut).settle

/-- The blocks that wait are taken once the port is free (R49, R554). -/
def State.heldTick (s : State) : State :=
  if s.chn.held.isEmpty || !s.nvmFree then s
  else
    let l := s.chn.held
    ({ s with chn := { s.chn with held := [] } }).each l (fun s x => s.blockTake x.1 x.2.1 x.2.2)

/-- BLOCK (R554, R555): it is stored, acknowledged and forwarded, or refused with NAK. `busy` says that the other port is busy as the
header arrives. A cut-through whose incoming CRC fails is ended with K30.7. -/
def execChainBlock (h : ChainHead) (payload : List Byte) (busy : Bool) (s : State) : Host.Outcome State Fault Refusal :=
  if !s.chainOn h.port ∨ !s.chainUp h.port then done s
  else
    let cut := s.cuts h busy
    if h.aborted ∨ !h.crcOk then
      let s := s.iff cut (fun s => (s.inc CHN_ABORT_ABORTED).chainSend (otherPort h.port)
        (.block h.image h.block.toNat (h.hop.toNat + 1) false true payload))
      if h.aborted then done s else done ((s.inc CHN_ERR_CRC h.port.val).nak h 1)
    else
      done ((s.incWrap CHN_RX_CNT_FRAMES h.port.val).blockTake h payload cut)

/-! ### What the sender of a block hears (R554) -/

/-- CHAIN_ACK: the block leaves the window, and another may be sent. -/
def execChainAck (h : ChainHead) (s : State) : Host.Outcome State Fault Refusal :=
  done (s.chainFrame h (fun s =>
    if h.image.toNat ≠ s.get CHN_IMAGE_ID then s
    else
      let x := s.cport h.port
      (s.setCport h.port { x with sent := x.sent.filter (fun y => y.b != h.block.toNat) }).pumpAll h.port))

/-- The transfer on a port ends (R554). -/
def State.transferEnd (s : State) (p : Fin 2) : State :=
  let s := s.setCport p { s.cport p with sent := [], queue := [] }
  { s with chn := { s.chn with linkFail := true } }

/-- A block is sent again with RETX; after `RETX_MAX` sends of it the transfer on the port ends. -/
def State.resend (s : State) (p : Fin 2) (b : Nat) : State :=
  let x := s.cport p
  match x.sent.find? (fun y => y.b == b) with
  | none => s
  | some y =>
    if s.get CHN_TIME_RETX_MAX ≤ y.sends then s.transferEnd p
    else
      let s := s.setCport p { x with sent := x.sent.map (fun z => if z.b = b then { z with at_ := s.tick, sends := z.sends + 1 } else z) }
      s.blockOut p b true

/-- CHAIN_NAK: reason 1 resends the block. -/
def execChainNak (h : ChainHead) (reason : Fin 6) (s : State) : Host.Outcome State Fault Refusal :=
  done (s.chainFrame h (fun s =>
    let s := s.inc CHN_RETX_NAK_RX h.port.val
    if reason = 1 ∧ h.image.toNat = s.get CHN_IMAGE_ID ∧ s.chainUp h.port then s.resend h.port h.block.toNat else s))

/-- CHAIN_RETRANSMIT: every block whose `RETX_MS` has passed without an ACK. -/
def execChainRetransmit (p : Fin 2) (s : State) : Host.Outcome State Fault Refusal :=
  if !s.chainUp p then done s
  else done (s.each ((s.cport p).sent.filter (fun y => decide (y.at_ + 1000 * s.get CHN_TIME_RETX_MS ≤ s.tick))) (fun s y => s.resend p y.b))

/-! ### The end of a staging (R561) -/

/-- RECEIVING or STAGED ends in IDLE. -/
def State.stagingEnd (s : State) (result : Nat) : State :=
  let s := { s with
      upd := { s.upd with manifest := none, stored := [], targets := none }
      chn := { s.chn with held := [] } }
  let s := s.each (List.finRange 2) (fun s p => s.setCport p { s.cport p with sent := [], queue := [] })
  let s := s.showParts ⟨0, 0, 0, 0, []⟩ 0
  ((s.updEnter 0 result 0xFF).set UPD_IMAGE_ID 0).set UPD_REL_NEW_REL 0

/-- STAGING_RX_TIMEOUT (R561). -/
def execStagingRxTimeout (s : State) : Host.Outcome State Fault Refusal :=
  if s.get UPD_STATE_STATE = 1 ∧ s.upd.lastNew + 1000000 * s.get UPD_CFG_RX_TMO_S ≤ s.tick then done (s.stagingEnd 6) else done s

/-- `UPD_CMD.DISCARD`. -/
def State.discardImage (s : State) : State :=
  if s.get UPD_STATE_STATE = 1 ∨ s.get UPD_STATE_STATE = 2 then s.stagingEnd 9 else s

/-- DISCARD (R561). -/
def execUpdDiscard (r : Requester) (s : State) : Host.Outcome State Fault Refusal :=
  done (s.gate r UPD_CMD_ACTIVATE.addr State.discardImage)

/-! ### Modules (R565 to R568) -/

def State.modTargets (s : State) : List ModTarget := s.upd.targets.getD []

/-- Changes target `i`. -/
def State.onTarget (s : State) (i : Nat) (f : ModTarget → ModTarget) : State :=
  { s with upd := { s.upd with targets := s.upd.targets.map (fun (l : List ModTarget) => l.modify i f) } }

/-- The entries that are targets of a type-4 part (R566): on an owned channel, profile 2 of a version high enough, with its UDID vendor
and device. -/
def State.partTargets (s : State) (p : ImagePart) : List Nat :=
  (List.range 1024).filter (fun n =>
    let u := (s.entUdid n).map BitVec.toNat
    s.entState n != 0 && s.ownsEntry n && s.entProfile n == 2 && decide (p.lowest ≤ s.ent n 0x1F 1) &&
    u.getD 2 0 * 256 + u.getD 3 0 == p.vid && u.getD 4 0 * 256 + u.getD 5 0 == p.did)

/-- The update commits (R567): the selector is written, `RESULT` is OK, and the state becomes IDLE. -/
def State.updateCommit (s : State) : State :=
  let x := s.selector
  let n := match s.upd.manifest with
    | some m => m.parts.length
    | none => 0
  let s := s.writeSelector { x with committed := 1 - x.committed, trial := false, boots := 0, relC := x.relT }
  let s := { s with upd := { s.upd with manifest := none, stored := [], targets := none, cur := none } }
  let s := s.each (List.range n) (fun s i => s.set UPD_PART_STATE 4 i)
  let s := (s.inc UPD_CNT_COMMITS).updEnter 0 1 0xFF
  (((s.set UPD_IMAGE_ID 0).set UPD_REL_NEW_REL 0).set UPD_MOD_STAT_TARGETS 0).set UPD_MOD_STAT_GOOD 0

/-- With every target GOOD, the commit begins: action 1 is sent to each; with none it is made at once. -/
def State.commitCheck (s : State) : State :=
  if s.get UPD_STATE_STATE ≠ 4 ∨ s.upd.targets.isNone then s
  else if s.modTargets.all (fun t => t.phase == .finished) then s.updateCommit
  else if s.modTargets.all (fun t => t.phase == .good) then
    { s with upd := { s.upd with targets := s.upd.targets.map (fun (l : List ModTarget) => l.map (fun t => { t with phase := .commit, fails := 0 })) } }
  else s

/-- The targets are fixed after the first Accession pass of a trial boot, and each type-4 part is hashed: a mismatch reverts the update
(R566). -/
def State.fixTargets (s : State) : State :=
  match s.upd.manifest with
  | none => s
  | some m =>
    if s.get UPD_STATE_STATE ≠ 4 ∨ s.upd.targets.isSome then s
    else
      let mods := m.parts.zipIdx.filter (fun p => p.1.type == 4)
      match mods.find? (fun p => !s.partGood p.1 0) with
      | some p => s.revertBegin 3 p.2
      | none =>
        let l := (mods.map (fun p => (s.partTargets p.1).map (fun n => ({ part := p.2, entry := n } : ModTarget)))).flatten
        let s := s.each mods (fun s p =>
          (s.set UPD_PART_STATE 3 p.2).set UPD_PART_TARGETS (min 255 (s.partTargets p.1).length) p.2)
        let s := (s.set UPD_MOD_STAT_TARGETS l.length).set UPD_MOD_STAT_GOOD 0
        ({ s with upd := { s.upd with targets := some l, cur := none } }).commitCheck

/-- A target has failed: the update reverts (R566). -/
def State.targetFailed (s : State) (t : ModTarget) : State :=
  if s.get UPD_STATE_STATE = 4 then (s.set UPD_MOD_FAIL_ENTRY t.entry).revertBegin 5 t.part else s

/-- Attempts a request has. -/
def State.modTries (s : State) : Nat := max 1 (s.get UPD_MOD_CFG_RETRY)

/-- Every revert has ended: the update ends. -/
def State.revertCheck (s : State) : State := if s.upd.reverting.isSome && !s.reverting then s.revertEnd else s

/-- A target does not confirm after `RETRY` sends of action 2 (R568). -/
def State.revertLost (s : State) (i : Nat) (t : ModTarget) : State :=
  let s := (s.inc UPD_MOD_FAIL_REVERT_LOST).event .revertLost (objRef 8 t.entry)
  (s.onTarget i (fun t => { t with phase := .finished })).revertCheck

/-- An attempt of target `i` failed. -/
def State.modFail (s : State) (i : Nat) (t : ModTarget) : State :=
  if t.phase = .revert then (if s.modTries ≤ t.sent then s.revertLost i t else s.onTarget i (fun t => { t with fails := 0 }))
  else if s.modTries ≤ t.fails + 1 then s.targetFailed t
  else s.onTarget i (fun t => { t with fails := t.fails + 1 })

/-- A write of target `i` was executed. -/
def State.modWrote (s : State) (i : Nat) (t : ModTarget) : State :=
  let len := match s.upd.manifest with
    | some m => (m.parts.getD t.part noPart).len
    | none => 0
  match t.phase with
  | .write => s.onTarget i (fun t => if len ≤ t.off + 20 then { t with phase := .select, fails := 0 } else { t with off := t.off + 20, fails := 0 })
  | .select => s.onTarget i (fun t => { t with phase := .trial, at_ := s.tick, fails := 0, sent := 0 })
  | .commit => (s.onTarget i (fun t => { t with phase := .finished })).commitCheck
  | .revert => s.onTarget i (fun t => { t with fails := 1 })
  | _ => s

/-- A bank status of target `i` (R565, R566): the running bank and the states of both. -/
def State.modReport (s : State) (i : Nat) (t : ModTarget) (data : List Nat) : State :=
  let run := data.getD 0 0
  match t.phase with
  | .ask => s.onTarget i (fun t => { t with phase := .write, prev := run % 2, fails := 0 })
  | .trial =>
    if run = 1 - t.prev ∧ data.getD (1 + run) 0 = 3 then
      ((s.onTarget i (fun t => { t with phase := .good })).inc UPD_MOD_STAT_GOOD).commitCheck
    else s.onTarget i (fun t => { t with fails := 0, sent := t.sent + 1 })
  | .revert =>
    if run = t.prev then (s.onTarget i (fun t => { t with phase := .finished })).revertCheck
    else s.modFail i t
  | _ => s

/-- The command code of a target's request. -/
def ModTarget.asks (t : ModTarget) : Nat :=
  match t.phase with
  | .ask | .trial => 0xE2
  | .write => 0xE4
  | .revert => if t.fails = 0 then 0xE3 else 0xE2
  | _ => 0xE3

/-- A result of the update's request in progress is taken; `report` selects bank status reads. -/
def State.modTake (s : State) (report : Bool) : State :=
  match s.twb.modRes with
  | [] => s
  | (n, cmd, r) :: rest =>
    if (cmd == 0xE2) != report then s
    else
      let s := { s with twb := { s.twb with modRes := rest } }
      match s.upd.cur with
      | none => s
      | some i =>
        match s.modTargets[i]? with
        | none => s
        | some t =>
          if t.entry ≠ n ∨ t.asks ≠ cmd then s
          else
          let s := { s with upd := { s.upd with cur := none } }
          if report then (if r.code = 0 ∧ r.data.length = 4 then s.modReport i t r.data else s.modFail i t)
          else if r.code = 0 ∧ r.data.getD 4 3 ≤ 1 then s.modWrote i t
          else s.modFail i t

/-- A request of target `i` is submitted; one that is refused for want of a place is submitted again. -/
def State.modPost (s : State) (i : Nat) (t : ModTarget) (cmd : Nat) (p : Proto) (data : List Nat) : State :=
  let q := s.reqTo t.entry 5 .module p cmd data (if cmd = 0xE2 then 4 else 0)
  let mark := fun (t : ModTarget) => { t with sent := if t.phase = .revert ∧ cmd = 0xE3 then t.sent + 1 else t.sent }
  let sent := fun (t : ModTarget) => { mark t with chosen := t.chosen || t.phase == .select }
  match q.2.submit q.1 with
  | (none, s') => ({ s' with upd := { s'.upd with cur := some i, askedAt := s.tick } }).onTarget i sent
  | (some c, _) => if c = 18 then s else (s.onTarget i mark).modFail i (mark t)

/-- The bytes of the request that writes a target's image (R565). -/
def State.imagePiece (s : State) (t : ModTarget) : List Nat :=
  match s.upd.manifest with
  | some m =>
    let p := m.parts.getD t.part noPart
    byteList 4 t.off ++ (s.bytes (nvmBase + 0x600000 + p.dest + t.off) (min 20 (p.len - t.off))).map BitVec.toNat
  | none => []

/-- What target `i` asks for next. -/
def State.modNext (s : State) (i : Nat) (t : ModTarget) : State :=
  match t.phase with
  | .ask => s.modPost i t 0xE2 .blockRead []
  | .write => s.modPost i t 0xE4 .blockWrite (s.imagePiece t)
  | .select => s.modPost i t 0xE3 .blockWrite [1 - t.prev, 0]
  | .trial => s.modPost i t 0xE2 .blockRead []
  | .commit => s.modPost i t 0xE3 .blockWrite [1 - t.prev, 1]
  | .revert =>
    if t.fails = 0 then s.modPost i t 0xE3 .blockWrite [1 - t.prev, 2]
    else s.modPost i t 0xE2 .blockRead []
  | _ => s

/-- The target that is served next: one whose request can go now, else the trial that has been asked least, once a second. -/
def State.modPick (s : State) : Option (ModTarget × Nat) :=
  let l := s.modTargets.zipIdx
  let now := l.find? (fun p => match p.1.phase with
    | .ask | .write | .commit | .revert => true
    | .select => s.power == .normal
    | _ => false)
  let trials := l.filter (fun p => p.1.phase == .trial)
  let least := trials.foldl (fun m p => min m p.1.sent) (2 ^ 32)
  if now.isSome then now
  else if s.upd.askedAt + 1000000 ≤ s.tick then trials.find? (fun p => p.1.sent == least) else none

/-- The update's own work in a tick: blocks that waited for the port are stored; a write result is taken, and the next request goes. -/
def State.updTick (s : State) : State :=
  let s := s.heldTick
  if s.get UPD_STATE_STATE ≠ 4 ∧ s.get UPD_STATE_STATE ≠ 5 then s
  else
    let s := s.modTake false
    if s.upd.cur.isSome then s
    else match s.modPick with
      | some (t, i) => s.modNext i t
      | none => s

/-- MODULE_BANK_REPORT (R566): a bank status result is taken; when every target is GOOD the update commits. -/
def execModuleBankReport (s : State) : Host.Outcome State Fault Refusal := done (s.modTake true).settle

/-- MODULE_TIMEOUT (R566). -/
def execModuleTimeout (s : State) : Host.Outcome State Fault Refusal :=
  if s.get UPD_STATE_STATE ≠ 4 then done s
  else match s.modTargets.find? (fun t => t.phase == .trial && decide (t.at_ + 1000000 * s.get UPD_MOD_CFG_MOD_TMO_S ≤ s.tick)) with
    | some t => done (s.targetFailed t).settle
    | none => done s

/-- TRIAL_TIMEOUT (R566): a commit that has begun wins (R570). -/
def execTrialTimeout (s : State) : Host.Outcome State Fault Refusal :=
  if s.get UPD_STATE_STATE = 4 ∧ s.upd.activatedAt + 1000000 * s.get UPD_CFG_TRIAL_S ≤ s.tick ∧
      !s.modTargets.any (fun t => t.phase == .commit || t.phase == .finished) then
    done (s.revertBegin 6 0xFF).settle
  else done s

/-- UPD_REVERT (R568): in MODULES. -/
def execUpdRevert (r : Requester) (s : State) : Host.Outcome State Fault Refusal :=
  done (s.gate r UPD_CMD_ACTIVATE.addr (fun s => if s.get UPD_STATE_STATE = 4 then (s.revertBegin 10 0xFF).settle else s))

/-! ### The end of an Accession pass (R401, R113) -/

/-- The first pass of a firmware run is done (R400, R401, R566). -/
def State.firstPass (s : State) : State :=
  let s := { s with twb := { s.twb with firstDone := true } }
  let s := ((s.bakedSilent).stamp SYS_T_ACC_TICK).setBit SYS_BOOT_STAT_DONE 4 true
  s.fixTargets.tryFull

/-- ACCESSION_PASS_DONE (R401): every enabled channel is done. -/
def execAccessionPassDone (_bad : Unit) (s : State) : Host.Outcome State Fault Refusal :=
  match s.twb.passAt with
  | none => done s
  | some t =>
    if (List.finRange 16).any (fun c => (s.acc c).todo) then done s
    else
      let s := (s.inc XAC_ACC_STAT_PASSES).set XAC_ACC_STAT_LAST_MS (min ((s.tick - t + 999) / 1000) 65535)
      let s := { s with twb := { s.twb with passAt := none } }
      if s.twb.firstDone then done s.settle else done s.firstPass.settle

end Sys2Proof.Machine
end

