-- ==== Sys2Proof/Machine/FlagsBus.lean ====
section
/-! DEFINITION. Computed status of the pages MBX, WDG and TWB to BKG (R79), and the value that a read of any register returns. -/

namespace Sys2Proof.Machine

/-! ### MBX, WDG (R506, R512, R518 to R524) -/

/-- The static part of a channel's status: SECURE, and 0 small, 1 medium, 2 bulk. -/
def mbxSizeCode (c : Nat) : Nat := if c < 24 then 0 else if c < 30 then 1 else 2

def State.showMBX (s : State) (a : Nat) : List Shown :=
  [shB MBX_STAT_MSG_OUT (s.get MBX_OUT_FULL_MASK &&& s.get MBX_NOTIFY_EN_EN != 0),
   shB MBX_STAT_DB_OUT (s.get MBX_DB_OUT_DB &&& s.get MBX_DB_OUT_MASK_MASK != 0),
   shB MBX_STAT_TMO_IN (s.get MBX_IN_TMO_MASK != 0),
   shB MBX_STAT_IN_PENDING (s.get MBX_IN_FULL_MASK != 0)] ++
  ((elemsAt MBX_IN_STAT_FULL 32 a).map (fun c =>
    [shB MBX_IN_STAT_SECURE (mailboxSecure c) c, shN MBX_IN_STAT_SIZE (mbxSizeCode c) c])).flatten ++
  ((elemsAt MBX_OUT_STAT_FULL 32 a).map (fun c =>
    [shB MBX_OUT_STAT_SECURE (mailboxSecure c) c, shN MBX_OUT_STAT_SIZE (mbxSizeCode c) c])).flatten

/-- Ticks to the next phase end. -/
def State.wdgLeft (s : State) : Nat :=
  match s.wdg.closedEnd, s.wdg.openEnd with
  | some c, some e => (if s.tick < c then c else e) - s.tick
  | none, some e => e - s.tick
  | _, none => 0

def State.showWDG (s : State) : List Shown :=
  let st := s.get WDG_STATE_STATE
  [shB WDG_STAT_EXPIRED (st == 3),
   shB WDG_STAT_OPEN (st == 3 || (s.wdg.closedEnd.isNone && s.wdg.openEnd.isSome)),
   shB WDG_STAT_SUSPENDED (st == 2),
   shB WDG_STAT_FIRST (st == 0),
   shB WDG_STAT_LEDGER_SHORT (s.ledgerMissing != 0),
   shS WDG_STATE_LEFT_MS ((s.wdgLeft + 999) / 1000)]

/-! ### TWB, XAC (R384, R404, R415) -/

def State.showTWB (s : State) : List Shown :=
  [shB TWB_STAT_STUCK_ANY ((List.range 16).any (fun c => s.chanState c == 5)),
   shB TWB_STAT_CLEARING_ANY ((List.range 16).any (fun c => s.chanState c == 4)),
   shB TWB_STAT_HN_FULL (decide (32 ≤ s.twb.notes.length))]

/-- Entries of a list of numbers that satisfy `p`, as a count. -/
def countIf (l : List Nat) (p : Nat → Bool) : Nat := (l.filter p).length

def State.showXAC (s : State) (a : Nat) : List Shown :=
  let waiting (c : Nat) : Nat := (s.held.filter (fun q => q.pending && q.cls == c)).length
  let all := List.range 1024
  let used (c k : Nat) : Nat := maskOf ((List.range 32).filter (fun j => s.entState (64 * c + 32 * k + j) != 0))
  [shB XAC_STAT_PASS_RUNNING s.twb.passAt.isSome,
   shB XAC_STAT_FIRST_DONE s.twb.firstDone,
   shB XAC_STAT_NEAR_FULL (decide (512 ≤ s.held.length + 64)),
   shB XAC_STAT_SILENT_ANY (all.any (fun n => s.entState n == 3)),
   shN XAC_EPOCH_E (if s.solo then 0 else s.hlk.epoch),
   shN XAC_INFLIGHT_NOW s.held.length,
   shS XAC_INFLIGHT_Q5 (waiting 5),
   shS XAC_CLASS_Q_Q (waiting 0) 0, shS XAC_CLASS_Q_Q (waiting 1) 1, shS XAC_CLASS_Q_Q (waiting 2) 2,
   shS XAC_CLASS_Q_Q (waiting 3) 3, shS XAC_CLASS_Q_Q (waiting 4) 4,
   shN XAC_COUNT_PRESENT (countIf all (fun n => s.entState n == 2)),
   shN XAC_COUNT_USED (countIf all (fun n => s.entState n != 0))] ++
  (elemsAt XAC_POS_LO_USED 16 a).map (fun c => shN XAC_POS_LO_USED (used c 0) c) ++
  (elemsAt XAC_POS_HI_USED 16 a).map (fun c => shN XAC_POS_HI_USED (used c 1) c)

/-! ### HLK (R460, R461, R465, R478) -/

/-- Seconds of the stable period left in WAITING. -/
def State.stableLeft (s : State) : Nat :=
  if s.get HLK_STATE_JOIN = 4 then s.get HLK_CFG_STABLE_S - (s.tick - s.hlk.stableSince) / 1000000 else 0

def State.showHLK (s : State) : List Shown :=
  let total := s.get HLK_RESYNC_TOTAL
  let err := (s.getI HLK_TIME_STAT_ERR).natAbs
  [shB HLK_STAT_SYNCING (s.get HLK_STATE_JOIN == 3),
   shB HLK_STAT_LOOP_DIV (s.get HLK_LOOP_DIV_LO_SLOTS != 0 || s.get HLK_LOOP_DIV_HI_SLOTS != 0),
   shB HLK_STATE_PARTNER_HEARD s.linkUp,
   shB HLK_STATE_REG_HEARD (s.inPair && s.hlk.regAt.isSome && !s.on HLK_STAT_REGISTRAR_LOST),
   shN HLK_STATE_RESYNC_PCT (if total = 0 then 0 else 100 * s.get HLK_RESYNC_DONE / total),
   shN HLK_STATE_STABLE_LEFT s.stableLeft,
   shN HLK_EPOCH_E s.hlk.epoch,
   shN HLK_PTICK_LO_TICK_LO (s.pairTick % 2 ^ 32).toNat,
   shN HLK_PTICK_HI_TICK_HI (s.pairTick.fdiv (2 ^ 32) % 2 ^ 32).toNat,
   shN HLK_OFS_LO_OFS_LO (s.hlk.offset % 2 ^ 32).toNat,
   shN HLK_OFS_HI_OFS_HI (s.hlk.offset.fdiv (2 ^ 32) % 2 ^ 32).toNat,
   shB HLK_TIME_STAT_ALIGNED (s.linkUp && decide (err ≤ 2)),
   shB HLK_TIME_STAT_FOLLOWING s.following,
   shN HLK_BEACON_AGE_TICKS (match s.hlk.beaconAt with | some t => min (s.tick - t) 0xFFFFFFFF | none => 0xFFFFFFFF),
   shN HLK_REG_EPOCH_E s.hlk.reg.maxE]

/-! ### CHN, UPD, HIF, SAF, BKG (R485, R550, R587, R602) -/

def State.showCHN (s : State) (a : Nat) : List Shown :=
  [shB CHN_STAT_UP_LINK (s.chainUp 0),
   shB CHN_STAT_DN_LINK (s.chainUp 1),
   shB CHN_STAT_RECEIVING (s.get UPD_STATE_STATE == 1),
   shB CHN_STAT_FORWARDING ((List.finRange 2).any (fun p => s.chainUp p && (!(s.cport p).sent.isEmpty || !(s.cport p).queue.isEmpty))),
   shB CHN_STAT_LINK_FAIL s.chn.linkFail] ++
  (elemsAt CHN_NEIGH_STAT_AGE_MS 2 a).map (fun p => shN CHN_NEIGH_STAT_AGE_MS
    (match (s.cport (Fin.ofNat 2 p)).helloAt with | some t => min ((s.tick - t) / 1000) 0xFFFF | none => 0xFFFF) p)

def State.showUPD (s : State) : List Shown :=
  [shB UPD_STAT_PENDING (s.get UPD_STATE_STATE == 2),
   shB UPD_STAT_TRIAL (s.get UPD_STATE_STATE == 3)]

def State.showHIF (s : State) (a : Nat) : List Shown :=
  ((elemsAt HIF_ETH_STAT_LOCKED 2 a ++ elemsAt HIF_IP4_LEASE_S 2 a ++ elemsAt HIF_AUTH_STAT_LOCK_LEFT 2 a).map (fun p =>
    let e := s.ports.lockEnd.get (Fin.ofNat 3 (p + 1))
    [shB HIF_ETH_STAT_LOCKED (e.isSome && !s.due e) p,
     shN HIF_AUTH_STAT_FAILS (if s.due e then 0 else s.get HIF_AUTH_STAT_FAILS p) p,
     shN HIF_IP4_LEASE_S (match s.ports.lease.get (Fin.ofNat 2 p) with | some l => (l.2 - s.tick) / 1000000 | none => 0) p,
     shS HIF_AUTH_STAT_LOCK_LEFT (match e with | some t => (t - s.tick + 999999) / 1000000 | none => 0) p])).flatten

def State.showSAF (s : State) : List Shown :=
  [shB SAF_STAT_ACTIVE (s.get SAF_ACTIVE_ACTIVE != 0),
   shB SAF_STAT_DROOP (s.on SAF_DROOP_STAT_VCORE || s.on SAF_DROOP_STAT_VIN || s.on SAF_DROOP_STAT_VDDA),
   shN SAF_CORE_STAT_FAULTS_HR (min 255 (s.saf.coreFaults.filter (fun t => decide (s.tick < t + 3600000000))).length)]

/-- The measured shares of background work are open within the bounds of R583 (log entry 1). -/
def State.showBKG (s : State) : List Shown :=
  [shB BKG_STAT_SIEVE_RUNNING (s.on BKG_SIEVE_CFG_EN && s.boot.g.isSome),
   shB BKG_STAT_TEL_LATE (s.lately s.saf.telLate 1000000),
   shB BKG_STAT_DED_HELD (s.on BKG_SRAM_ECC_ADDR_VALID),
   shN BKG_SHARE_CORE_PCT (Config.pads BKG_SHARE_CORE_PCT.addr s.tick % 11),
   shN BKG_SHARE_SRAM_PM (Config.pads (BKG_SHARE_CORE_PCT.addr + 1) s.tick % 5),
   shN BKG_SHARE_NVMR_PM (Config.pads (BKG_SHARE_CORE_PCT.addr + 2) s.tick % 18)]

/-! ### What a register shows -/

/-- The computed fields that the register at `a` may hold. -/
def State.shown (s : State) (a : Nat) : List Shown :=
  match a / 0x4000 with
  | 0x00 => s.showSYS | 0x01 => s.showCCK | 0x02 => s.showSES a | 0x03 => s.showKLN
  | 0x04 => s.showNVM | 0x05 => s.showTB | 0x06 => s.showEVR | 0x07 => s.showBBX a
  | 0x08 => s.showMBX a | 0x09 => s.showWDG | 0x0A => s.showTHM | 0x0B => s.showAFE
  | 0x0C => s.showLPE a | 0x0D => s.showLPS a | 0x0E => s.showLPT | 0x0F => s.showPWM a
  | 0x10 => s.showCNV | 0x11 => s.showEFU a | 0x12 => s.showSEQ a | 0x13 => s.showRMN a
  | 0x14 => s.showBAT | 0x15 => s.showSHR | 0x16 => s.showCAP | 0x17 => s.showTWB
  | 0x18 => s.showXAC a | 0x19 => s.showHLK | 0x1A => s.showCHN a | 0x1B => s.showUPD
  | 0x1C => s.showHIF a | 0x1D => s.showSAF | 0x1E => s.showBKG | _ => []

/-- The register at `a`, its computed fields brought up to date. -/
def State.viewRaw (s : State) (a : Nat) : Word :=
  ((s.shown a).filter (fun x => x.f.at x.i == a)).foldl (fun w x => withBits w (x.f.bit x.i) x.f.width x.v) (s.reg a)

/-! ### Measured values in GREENWARE (R108) -/

/-- The registers that hold measured values, with their counts, but for the SYS supply measurements (log entry 54). -/
def measuredFields : List (Field × Nat) :=
  [(AFE_VA_VAL, 1), (AFE_VB_VAL, 1), (AFE_IA_VAL, 1), (AFE_IB_VAL, 1), (AFE_VA_AVG_VAL, 1), (AFE_VB_AVG_VAL, 1), (AFE_IA_AVG_VAL, 1),
   (AFE_IB_AVG_VAL, 1), (AFE_VA_CHK_VAL, 1), (AFE_VB_CHK_VAL, 1), (AFE_PH_I_VAL, 16), (AFE_I_NOW_VAL, 8), (THM_TEMP_T, 20),
   (THM_GRP_STAT_TEMP, 6), (THM_MAX_TEMP, 1), (THM_MAX_SENSOR, 1), (RMN_RAIL_MEAS_V, 24), (CNV_GRP_I_I, 2), (CAP_P_BUS_P, 1),
   (CAP_P_LOAD_P, 1), (EFU_CH_MEAS_I, 8), (EFU_CH_MEAS_VOUT, 8), (EFU_CH_TEMP_TEMP, 8), (SHR_ITOT_I, 1), (SHR_PTOT_P, 1)]

/-- The bits of the register at `a` that hold measured values. -/
def measuredBits (a : Nat) : Word :=
  (measuredFields.flatMap (fun p => (elemsAt p.1 p.2 a).map (fun i => (p.1, i)))).foldl
    (fun w p => withBits w (p.1.bit p.2) p.1.width (2 ^ p.1.width - 1)) 0

/-- The addresses of those registers. -/
def measuredAddrs : List Nat := (measuredFields.flatMap (fun p => (List.range p.2).map (fun i => p.1.at i))).eraseDups

/-- The measured values are taken at 10 Hz, at the multiples of 100,000 ticks (R108). -/
def State.refresh (s : State) : State :=
  if s.boot.g.isSome ∧ s.tick % 100000 = 0 then
    { s with boot := { s.boot with refreshed := measuredAddrs.map (fun a => (a, s.viewRaw a)) } }
  else s

/-- The register at `a` as it is read: in GREENWARE its measured values are those of the last refresh (R108). -/
def State.viewLevel (s : State) (a : Nat) : Word :=
  if s.full || s.boot.g.isNone || s.tick % 100000 == 0 then s.viewRaw a
  else
    let old := match s.boot.refreshed.find? (fun p => p.1 == a) with
      | some p => p.2
      | none => regReset a
    (s.viewRaw a &&& ~~~measuredBits a) ||| (old &&& measuredBits a)

/-- `_IPEND` of page `p`: `_STAT` AND `_IEN` (R74). -/
def State.ipend (s : State) (p : Nat) : Word := s.viewRaw (p * 0x4000 + 0x0C) &&& s.reg (p * 0x4000 + 0x10)

/-- `SYS_IRQ_PAGES` (R80). -/
def State.irqPages (s : State) : Nat := maskOf ((List.range 31).filter (fun p => s.ipend p != 0))

/-- What a read of the register at `a` returns: fields that a write alone uses read 0 (R76). -/
def State.view (s : State) (a : Nat) : Word :=
  if a % 0x4000 = 0x14 then s.ipend (a / 0x4000)
  else if a = SYS_IRQ_PAGES_PAGES.addr then BitVec.ofNat 32 s.irqPages
  else s.viewLevel a &&& ~~~bitsTyped [.wo, .cmd] a

end Sys2Proof.Machine
end

