-- ==== Sys2Proof/Machine/Own.lean ====
section
/-! DEFINITION. Ownership (R459, R470, R477, R479): what an ownership map gives this unit, and what happens in the tick in which the
effective map changes. -/

namespace Sys2Proof.Machine

/-- What a unit owns, as masks: phases, fuse channels, strings, reset outputs, rails, two-wire channels. -/
structure Own where
  ph : Nat
  ef : Nat
  str : Nat
  rst : Nat
  rail : Nat
  ch : Nat
  deriving DecidableEq, Repr

/-- Every object. -/
def Own.all : Own := ⟨0xFFFF, 0xFF, 0xFF, 0xFF, 0xFFFFFF, 0xFFFF⟩

/-- No object. -/
def Own.none : Own := ⟨0, 0, 0, 0, 0, 0⟩

/-- The effective map. -/
def State.ownNow (s : State) : Own :=
  ⟨s.get HLK_EFF_PH_OWN, s.get HLK_EFF_EF_EF, s.get HLK_EFF_EF_STR, s.get HLK_EFF_EF_RST, s.get HLK_EFF_RAIL_OWN, s.get HLK_EFF_CH_OWN⟩

/-- This unit's side of a configured mask of `n` objects, whose bits are 1 where B owns. -/
def State.side (s : State) (n m : Nat) : Nat := if s.isB then m else 2 ^ n - 1 - m

/-- This unit's part of the configured map (R470). -/
def State.ownConfigured (s : State) : Own :=
  ⟨s.side 16 (s.get HLK_MAP_PH_OWNER_B), s.side 8 (s.get HLK_MAP_EF_EF_B), s.side 8 (s.get HLK_MAP_EF_STR_B),
   s.side 8 (s.get HLK_MAP_EF_RST_B), s.side 24 (s.get HLK_MAP_RAIL_OWNER_B), s.side 16 (s.get HLK_MAP_CH_OWNER_B)⟩

/-- This unit's part of the map of an EPOCH message (R470, R474): 0 configured, 1 and 2 the transferable objects to A and to B. -/
def State.ownBy (s : State) (map : Nat) : Own :=
  if map = 0 then s.ownConfigured
  else
    let mine := (map == 2) == s.isB
    { s.ownNow with ef := if mine then 0xFF else 0, str := if mine then 0xFF else 0, ch := if mine then 0xFFFF else 0 }

/-- A transferable object is this unit's (R470). -/
def State.ownsTransferable (s : State) : Bool :=
  s.get HLK_EFF_EF_EF != 0 || s.get HLK_EFF_EF_STR != 0 || s.get HLK_EFF_CH_OWN != 0

/-- The indices below `n` that `new` has and `old` has not. -/
def gainedBits (n old new : Nat) : List Nat := (List.range n).filter (fun i => new.testBit i && !old.testBit i)

/-- A fuse channel is gained with the record its former owner sent last (R329). -/
def State.fuseTake (s : State) (n : Fin 8) : State :=
  match s.hlk.fuses.get n with
  | none => s.fuseGain n 0
  | some r =>
    let x := s.fuse n
    let s := s.setFuse n { x with
      run := r.run, dT := r.dT, waitEnd := r.wait.map (fun w => s.tick + w), failed := r.wait.isSome && r.count != 0
      mem := r.mem.map (fun m => { count := m.1, latched := m.2.1, remain := m.2.2.1, until_ := m.2.2.2 }) }
    (s.set EFU_CH_STAT_RETRIES r.count n.val).fuseGain n r.state

/-- A rail is gained: its new owner first drives the mirrored level (R479). -/
def State.railTake (s : State) (n : Fin 24) : State :=
  let q := s.seq.partQual.testBit n.val
  let off := s.seq.partOff.testBit n.val
  let s := (s.setBit SEQ_EN_OUT_MASK n.val (q || !off)).setBit SEQ_QUAL_MASK n.val q
  s.setRail n { s.rail n with everQual := q, off := off, enAt := s.tick, stuck := s.seq.partStuck.testBit n.val }

/-- The effective map becomes `o` (R231, R329, R477, R479). -/
def State.takeOwn (s : State) (o : Own) : State :=
  let was := s.ownNow
  let s := (((s.set HLK_EFF_PH_OWN o.ph).set HLK_EFF_EF_EF o.ef).set HLK_EFF_EF_STR o.str).set HLK_EFF_EF_RST o.rst
  let s := (s.set HLK_EFF_RAIL_OWN o.rail).set HLK_EFF_CH_OWN o.ch
  let s := s.each (gainedBits 16 o.ph was.ph) (fun s n => s.phaseLost (Fin.ofNat 16 n))
  let s := s.each (List.finRange 2) (fun s g => s.groupCheck g)
  let s := s.each (gainedBits 24 o.rail was.rail) (fun s n =>
    let n := Fin.ofNat 24 n
    (s.setRail n { s.rail n with enDue := none, p7At := none }).setBit SEQ_EN_OUT_MASK n.val false)
  let s := s.each (gainedBits 24 was.rail o.rail) (fun s n => s.railTake (Fin.ofNat 24 n))
  let s := s.each (gainedBits 8 was.rst o.rst) (fun s k => s.setB SEQ_RST_TIME_ASSERTED (s.hlk.partRst.testBit k) k)
  let s := s.each (gainedBits 8 was.str o.str) (fun s n =>
    let n := Fin.ofNat 8 n
    s.setStr n { s.str n with causes := if s.strClosed n then 0 else 2 ^ s.get BAT_STR_STAT_OPEN_CAUSE n.val })
  let s := (s.each (gainedBits 8 was.ef o.ef) (fun s n => s.fuseTake (Fin.ofNat 8 n))).efuEval
  (s.seqEval).seqTail

/-- `HLK_CTRL.EN` is written (R459): without it the unit is SOLO, owns every object and ignores both links; with it, it joins the pair
with its part of the configured map. -/
def State.pairEnable (s : State) : State :=
  if s.unitRole ≠ 1 ∧ s.unitRole ≠ 2 then s
  else if s.on HLK_CTRL_EN then
    let s := ((s.set HLK_STATE_JOIN 1).setB HLK_STATE_PRIMARY (s.on HLK_CFG_PREF == s.isB))
    if s.boot.g.isSome then s.takeOwn s.ownConfigured else s
  else
    let s := ((s.setB HLK_STAT_LINK_UP false).setB HLK_STAT_PARTNER_LOST false).setB HLK_STAT_FENCED false
    let s := ((s.set HLK_STATE_JOIN 0).setB HLK_STATE_PRIMARY false).setB HLK_STAT_SYNCING false
    let s := { s with
      hlk := { s.hlk with fenced := false, epoch := 0, knowsE := false, unacked := [], cfgOut := [], resync := [], loops := [], wait := none }
      boot := { s.boot with unitOkLow := (s.boot.unitOkLow && s.power == PowerState.halt) || s.boot.testState || s.boot.serviceEnded } }
    if s.boot.g.isSome then s.takeOwn Own.all else s

end Sys2Proof.Machine
end

