-- ==== Sys2Proof/Machine/Write.lean ====
section
/-! DEFINITION. Writes of configuration and data registers (R76 to R84): the word a normal or an aliased write gives, the fields that are not
accepted, the mark of the configuration check, and what each block does when its configuration changes. -/

namespace Sys2Proof.Machine

/-! ### The word a write gives (R76, R81) -/

/-- The register word after a write of `w`: 0 normal, 1 SET, 2 CLR, 3 TGL; `mask` names the bits that can be written. -/
def aliasWord (mask old w : Word) : Nat → Word
  | 0 => (w &&& mask) ||| (old &&& ~~~mask)
  | 1 => old ||| (w &&& mask)
  | 2 => old &&& ~~~(w &&& mask)
  | _ => old ^^^ (w &&& mask)

/-- The place of element `i` of a field in its register. -/
def spot (f : Field) (i : Nat := 0) : Nat × Nat := (f.bit i, f.width)

/-- `w` with the bits of the places `l` as they are in `old`. -/
def keepSpots (old : Word) (w : Word) (l : List (Nat × Nat)) : Word :=
  l.foldl (fun w p => withBits w p.1 p.2 (bitsOf old p.1 p.2)) w

/-! ### Fields that are not accepted (R37, R78) -/

/-- The places of RW and RWK fields whose new value lies outside the stated ranges. -/
def rangeRefused (r : RegRow) (new : Word) : List (Nat × Nat) :=
  ((r.fields.filter (fun f => f.ty == .rw || f.ty == .rwk)).map (fun f =>
    (f.spots.filter (fun p => !f.accepts (bitsOf new p f.width))).map (fun p => (p, f.width)))).flatten

/-- The element of an array whose register is at `a`. -/
def elemAt (f : Field) (n a : Nat) : Option Nat := (List.range n).find? (fun i => f.at i == a)

/-- Requests of monitor M0 or M1 exceed 0.9 conversions a tick (R131). -/
def State.rateOver (s : State) (m : Nat) : Bool :=
  let p := (List.range 32).foldl (fun (p : Nat × Nat) i =>
    let c := s.get AFE_MON_RATE_CODE (32 * m + i)
    if c = 0 then p else (p.1 * c + p.2, p.2 * c)) (0, 1)
  decide (9 * p.2 < p.1)

/-- The places `l`, where the order they must keep is broken. -/
def unless_ (ok : Bool) (l : List (Nat × Nat)) : List (Nat × Nat) := if ok then [] else l

/-- Relations within the pages 0x0A to 0x11; `s` holds the new word, `old` is the one before. -/
def State.relatedLow (s : State) (old : Word) (a : Nat) : List (Nat × Nat) :=
  match a / 0x4000 with
  | 0x0A => match elemAt THM_GRP_THR_WARN 6 a, elemAt THM_GRP_SD_SD 6 a with
    | some g, _ => unless_ (decide (s.getI THM_GRP_THR_WARN g < s.getI THM_GRP_THR_THROT g ∧ s.getI THM_GRP_THR_THROT g < s.getI THM_GRP_SD_SD g))
        [spot THM_GRP_THR_WARN g, spot THM_GRP_THR_THROT g]
    | _, some g => unless_ (decide (s.getI THM_GRP_THR_THROT g < s.getI THM_GRP_SD_SD g)) [spot THM_GRP_SD_SD g]
    | _, _ => []
  | 0x0B => if 0x2C170 ≤ a ∧ a < 0x2C1B0 then
      unless_ (!s.rateOver (if a < 0x2C190 then 0 else 1)) [(0, 8), (8, 8), (16, 8), (24, 8)] else []
  | 0x0E =>
    if a = LPT_TUNE_CFG_SLOT.addr then unless_ (s.tuneState != 1)
      [spot LPT_TUNE_CFG_SLOT, spot LPT_TUNE_CFG_RULE, spot LPT_TUNE_CFG_REGION, spot LPT_TUNE_CFG_CYCLES, spot LPT_TUNE_CFG_TMAX]
    else match elemAt LPT_RC_CFG_N 4 a with
    | some k => unless_ (bitsOf old (LPT_RC_CFG_EN.bit k) 1 == 0)
        [spot LPT_RC_CFG_N k, spot LPT_RC_CFG_M k, spot LPT_RC_CFG_Q k, spot LPT_RC_CFG_SLOT k, spot LPT_RC_CFG_TRACK k]
    | none => []
  | 0x0F => match elemAt PWM_PH_CFG_EN 16 a with
    | some n => unless_ (!(s.on PWM_PH_CFG_EN n && s.on PWM_PH_CFG_GROUP n && !s.halfB)) [spot PWM_PH_CFG_EN n, spot PWM_PH_CFG_GROUP n]
    | none => []
  | 0x10 =>
    if a = CNV_SHED_SHED_LO.addr then
      unless_ (decide (2 * s.get CNV_SHED_SHED_LO ≤ s.get CNV_SHED_ADD_HI)) [spot CNV_SHED_SHED_LO, spot CNV_SHED_ADD_HI]
    else if a = CNV_DE_DE_ENTER.addr then unless_ (decide (s.get CNV_DE_DE_ENTER < s.get CNV_DE_DE_EXIT)) [spot CNV_DE_DE_ENTER, spot CNV_DE_DE_EXIT]
    else if a = CNV_SHEV_CFG_FUNC.addr then
      ((List.range 4).filter (fun j => s.get CNV_SHEV_CFG_FUNC j == 1 && s.get CNV_SHEV_CFG_DEGLITCH j == 0)).map (fun j =>
        if bitsOf old (CNV_SHEV_CFG_FUNC.bit j) 2 = 1 then spot CNV_SHEV_CFG_DEGLITCH j else spot CNV_SHEV_CFG_FUNC j)
    else match elemAt CNV_FB_V_V 4 a with
    | some k => unless_ ((List.range 3).all (fun j => decide (s.getI CNV_FB_V_V j < s.getI CNV_FB_V_V (j + 1)))) [spot CNV_FB_V_V k]
    | none => []
  | 0x11 =>
    if a = EFU_FEED_VWIN_V_MIN.addr then
      unless_ (decide (s.get EFU_FEED_VWIN_V_MIN < s.get EFU_FEED_VWIN_V_MAX)) [spot EFU_FEED_VWIN_V_MIN, spot EFU_FEED_VWIN_V_MAX]
    else if a = EFU_FEED_BBM_BBM_US.addr then
      unless_ (decide (s.get EFU_FEED_BBM_BBM_US < s.get EFU_FEED_BBM_BBM_MAX_US)) [spot EFU_FEED_BBM_BBM_US, spot EFU_FEED_BBM_BBM_MAX_US]
    else match elemAt EFU_CH_TLIM_T_WARN 8 a with
    | some n => unless_ (decide (s.get EFU_CH_TLIM_T_WARN n < s.get EFU_CH_TLIM_T_OFF n)) [spot EFU_CH_TLIM_T_WARN n, spot EFU_CH_TLIM_T_OFF n]
    | none => []
  | _ => []

/-- Relations within the pages 0x12 to 0x1B. -/
def State.relatedHigh (s : State) (old : Word) (a : Nat) : List (Nat × Nat) :=
  match a / 0x4000 with
  | 0x12 => match elemAt SEQ_RAIL_TIME_WIN 24 a with
    | some n => unless_ (decide (s.get SEQ_RAIL_TIME_DEGL n + 1000 * s.get SEQ_RAIL_TIME_QUAL n < 1000 * s.get SEQ_RAIL_TIME_WIN n))
        [spot SEQ_RAIL_TIME_WIN n, spot SEQ_RAIL_TIME_DEGL n, spot SEQ_RAIL_TIME_QUAL n]
    | none => []
  | 0x13 => match elemAt RMN_RAIL_CFG_NOM 24 a, elemAt RMN_RAIL_LVL_UV_WARN 24 a with
    | some n, _ => unless_ (decide (s.get RMN_RAIL_CFG_HYST n < min (s.get RMN_RAIL_LVL_UV_WARN n) (s.get RMN_RAIL_LVL_OV_WARN n))) [spot RMN_RAIL_CFG_HYST n]
    | _, some n =>
      unless_ (decide (s.get RMN_RAIL_LVL_UV_WARN n < s.get RMN_RAIL_LVL_UV_FLT n)) [spot RMN_RAIL_LVL_UV_WARN n, spot RMN_RAIL_LVL_UV_FLT n] ++
      unless_ (decide (s.get RMN_RAIL_LVL_OV_WARN n < s.get RMN_RAIL_LVL_OV_FLT n)) [spot RMN_RAIL_LVL_OV_WARN n, spot RMN_RAIL_LVL_OV_FLT n]
    | _, _ => []
  | 0x14 =>
    if a = BAT_CFG_STR_EN.addr then
      unless_ (decide (s.getI BAT_CFG_CHG_TMIN < s.getI BAT_CFG_CHG_TMAX)) [spot BAT_CFG_CHG_TMIN, spot BAT_CFG_CHG_TMAX]
    else match elemAt BAT_STR_CFG_ID_MODE 8 a with
    | some n => unless_ (!(s.get BAT_STR_CFG_TEMP_SRC n == 0 && s.get BAT_STR_CFG_ID_MODE n != 2)) [spot BAT_STR_CFG_TEMP_SRC n, spot BAT_STR_CFG_ID_MODE n]
    | none => []
  | 0x18 =>
    if a = XAC_ADDR_SCAN_LO.addr then
      unless_ (decide (s.get XAC_ADDR_SCAN_LO ≤ s.get XAC_ADDR_SCAN_HI)) [spot XAC_ADDR_SCAN_LO, spot XAC_ADDR_SCAN_HI] ++
      unless_ (decide (s.get XAC_ADDR_POOL_LO ≤ s.get XAC_ADDR_POOL_HI)) [spot XAC_ADDR_POOL_LO, spot XAC_ADDR_POOL_HI]
    else []
  | 0x19 =>
    let ok := decide (s.get HLK_TIMING_LINK_TMO + s.get HLK_WIT_TIME_POLL_US < s.get HLK_TIMING_FENCE_TMO) &&
      decide (s.get HLK_TIMING_FENCE_TMO < s.get HLK_WIT_TIME_HB_TMO) && decide (s.get HLK_WIT_TIME_HB_TMO + s.get HLK_WIT_TIME_POLL_US ≤ 3000)
    if a = HLK_TIMING_LINK_TMO.addr then unless_ ok [spot HLK_TIMING_LINK_TMO, spot HLK_TIMING_FENCE_TMO]
    else if a = HLK_WIT_TIME_POLL_US.addr then unless_ ok [spot HLK_WIT_TIME_POLL_US, spot HLK_WIT_TIME_HB_TMO]
    else if a = HLK_MAP_EF_EF_B.addr then
      unless_ (!s.on EFU_FEED_CFG_PAIR_EN || (s.get HLK_MAP_EF_EF_B).testBit 0 == (s.get HLK_MAP_EF_EF_B).testBit 1) [spot HLK_MAP_EF_EF_B]
    else []
  | 0x1B =>
    if a = UPD_KEYS_KEY_MASK.addr then unless_ (s.reg a &&& ~~~old == 0) [spot UPD_KEYS_KEY_MASK]
    else if a = UPD_MIN_REL_MIN.addr then unless_ (decide (old.toNat ≤ (s.reg a).toNat)) [spot UPD_MIN_REL_MIN]
    else []
  | _ => []

/-! ### What follows a change of configuration -/

/-- The tracker's phase and fade go on from where they are when LPT configuration changes (R187, R188). -/
def State.lineRebase (s0 s : State) : State :=
  s.setLine (s0.lineHere s.lpt.line)

/-- A rectifier's binding is written (R237): a change of `PARTNER` or `BOUND` unbinds what was bound, and binds what is named. -/
def State.rectWritten (s0 s : State) (n : Fin 24) : State :=
  let was := s0.on SHR_RECT_CFG_BOUND n.val
  let now := s.on SHR_RECT_CFG_BOUND n.val
  let e0 := s0.get SHR_RECT_CFG_PARTNER n.val
  let e := s.get SHR_RECT_CFG_PARTNER n.val
  if was = now ∧ (e0 = e ∨ !now) then s
  else
    let s := if was then ((s.set SHR_RECT_CFG_PARTNER e0 n.val).rectUnbind n false).set SHR_RECT_CFG_PARTNER e n.val else s
    if now && s.entState e != 0 then (s.rectBind n e).rectSchedule e else s.setB SHR_RECT_CFG_BOUND now n.val

/-- What the blocks do after the register at `a` was written; `s0` is the state before. -/
def State.afterWrite (s0 s : State) (a : Nat) : State :=
  let run := s.boot.g.isSome
  match a / 0x4000 with
  | 0x00 =>
    let s := s.iff (a == SYS_VCORE_CTRL_SCALE_EN.addr && !s.on SYS_VCORE_CTRL_SCALE_EN) (fun s => s.vcoreTo 8500)
    if a = SYS_CTRL_CORE_RST_EN.addr ∧ s0.on SYS_CTRL_CORE_RST_EN ∧ !s.on SYS_CTRL_CORE_RST_EN ∧ s.boot.resetIn ∧ s.boot.kilnLoaded ∧
        !s.boot.firmware ∧ s.boot.check.isNone then s.bootStart else s
  | 0x01 => if a = CCK_CTRL_EN.addr ∧ !s.on CCK_CTRL_EN then s.commitDrop else s
  | 0x05 => if a = TB_SRC_CTRL_SRC.addr then s.srcSelect (s.get TB_SRC_CTRL_SRC) else s.staleJudge
  | 0x0A =>
    if !run then s
    else if a = THM_CTRL_EN.addr then (if s0.on THM_CTRL_EN && !s.on THM_CTRL_EN then s.thmDisable else s.thmRequests)
    else s.thmRequests
  | 0x0B =>
    if a = AFE_CTRL_HALF_B_EN.addr then s.iff (!s.halfB) State.halfBOff
    else if a = AFE_PH_CTRL_PH_EN.addr then s.phaseUnsampled else s
  | 0x0C => if run ∧ s0.on LPE_PAIR_CTRL_PAIR_EN ≠ s.on LPE_PAIR_CTRL_PAIR_EN then s.relane else s
  | 0x0E =>
    let s := State.lineRebase s0 s
    let s := s.each ((List.finRange 4).filter (fun k => s0.on LPT_RC_CFG_EN k.val && !s.on LPT_RC_CFG_EN k.val)) (fun s k => s.rcFade k)
    s.each ((List.finRange 4).filter (fun k => !s0.on LPT_RC_CFG_EN k.val && s.on LPT_RC_CFG_EN k.val)) (fun s k => s.rcAnew k)
  | 0x0F =>
    let gone := (List.finRange 16).filter (fun n => s0.phaseOwn n &&
      (!s.phaseOwn n || s0.get PWM_PH_CFG_GROUP n.val != s.get PWM_PH_CFG_GROUP n.val))
    (((s.each gone (fun s n => s.phaseLow n)).deCheck).groupCheck 0).groupCheck 1
  | 0x10 =>
    let s := if s.on CNV_CTRL_SHED_EN then s else (s.unshedAll 0).unshedAll 1
    let s := s.iff (a == CNV_SHEV_CFG_FUNC.addr) State.shevJudge
    let s := s.iff ((elemAt CNV_FB_V_V 4 a).isSome || (elemAt CNV_FB_I_I 4 a).isSome) (fun s => State.foldWrite s0 s)
    ((s.deCheck.reseg).groupCheck 0).groupCheck 1
  | 0x11 => if run then s.efuEval else s
  | 0x12 =>
    if run then ((s.each ((List.finRange 24).filter (fun n => s0.railOn n && !s.railOn n)) State.railDrop).seqEval).seqTail else s
  | 0x13 => if run then s.seqTail else s
  | 0x14 =>
    if a = BAT_CFG_STR_EN.addr then
      let old := s0.get BAT_CFG_STR_EN
      (s.strEnChange old).each ((List.finRange 8).filter (fun n => s.strOn n && !old.testBit n.val)) (fun s n => s.idRestart n)
    else match elemAt BAT_STR_CFG_ID_MODE 8 a with
    | some n => if s0.get BAT_STR_CFG_ID_MODE n = s.get BAT_STR_CFG_ID_MODE n then s else s.idRestart (Fin.ofNat 8 n)
    | none => s
  | 0x15 => match elemAt SHR_RECT_CFG_BOUND 24 a with
    | some n => State.rectWritten s0 s (Fin.ofNat 24 n)
    | none => s
  | 0x17 => s.twbEval
  | 0x19 => if s0.on HLK_CTRL_EN = s.on HLK_CTRL_EN then s else s.pairEnable
  | 0x1A => s.each ((List.finRange 2).filter (fun p => s.chainUp p && !s.chainOn p)) (fun s p => s.chainDown p)
  | 0x1C => s.ethShowAll
  | _ => s

/-! ### Class-C and class-D writes -/

/-- The word that a write onto `old` leaves in the register at `a`, whose copy for the source stands at `home`, and the places of the fields
that are not accepted (R78). -/
def State.wordOnto (s : State) (row : RegRow) (a home : Nat) (old w : Word) (al : Nat) : Word × List (Nat × Nat) :=
  let new := aliasWord (row.mask [.rw, .rwk]) old w al
  let bad := rangeRefused row new
  let new := keepSpots old new bad
  let s' := s.setReg home new
  let rel := if home = a then (s'.relatedLow old a ++ s'.relatedHigh old a).filter (fun p => bitsOf old p.1 p.2 != bitsOf new p.1 p.2) else []
  (keepSpots old new rel, bad ++ rel)

/-- The writes that stand above a later-coming one are applied after it (R48). -/
def State.replay (s : State) (row : RegRow) (a home : Nat) : Word → List Wrote → Word × List Wrote
  | v, [] => (v, [])
  | v, x :: xs =>
    let q := s.replay row a home (s.wordOnto row a home v x.w x.al).1 xs
    (q.1, { x with before := v } :: q.2)

/-- The writes of this tick to the register at `home` that are applied after one of requester `r`: those of higher-ranked sources (R48), and
those of equal rank to which the last contention for the page gave the grant (R47). -/
def State.above (s : State) (r : Requester) (home : Nat) : List Wrote :=
  s.wrote.filter (fun x => x.at_ == home && (decide (x.rank < (s.srcOf r).rank) ||
    (x.rank == (s.srcOf r).rank && x.who != who r && s.owedTo (home % 0x1000000 / 0x4000) (who r) x.who)))

/-- Who wins the next contention for a page between `r` and each requester of its rank that wrote to the page in this tick (R47): the one now
served second. -/
def State.contend (s : State) (r : Requester) (home : Nat) : State :=
  let p := home % 0x1000000 / 0x4000
  let rivals := (s.wrote.filter (fun x => x.at_ < 2 ^ 32 && x.at_ % 0x1000000 / 0x4000 == p && x.rank == (s.srcOf r).rank && x.who != who r)).map (fun x => x.who)
  s.each rivals.eraseDups (fun s v => if s.owedTo p (who r) v then s.owe p v (who r) else s.owe p (who r) v)

/-- A write into the RW and RWK fields of the register at `a`, whose copy for the source stands at `home`: fields that are not accepted
keep their values and are recorded (R78); of coinciding writes the higher-ranked value stands (R48). Answers the state and whether every
field was accepted. -/
def State.fieldsWrite (s : State) (r : Requester) (row : RegRow) (a home al : Nat) (w : Word) : State × Bool :=
  let m := row.mask [.rw, .rwk]
  let higher := s.above r home
  let old := match higher with
    | [] => s.reg home
    | x :: _ => (x.before &&& m) ||| (s.reg home &&& ~~~m)
  let p := s.wordOnto row a home old w al
  let q := s.replay row a home p.1 higher
  let mine : Wrote := { at_ := home, who := who r, rank := (s.srcOf r).rank, before := old, al := al, w := w }
  let t := (s.contend r home).setWrote ((s.wrote.filter (fun x => !higher.contains x)) ++ mine :: q.2)
  ((t.setReg home q.1).each p.2 (fun s p => s.event .fieldRefused 0 [a, p.1]), p.2.isEmpty)

/-- `_LOCK` with `STICKY` 1: a write changes nothing, and marks nothing (R84). -/
def State.stuckLock (s : State) (a : Nat) : Bool := a % 0x4000 == 0x1C && (s.reg a).getLsbD 1

/-- A class-C write, after its access check. A write of the partner unit is not mirrored back (R463). -/
def State.classC (s : State) (r : Requester) (row : RegRow) (a al : Nat) (w : Word) : State × Bool :=
  if s.stuckLock a then (s, true)
  else
    let s := s.iff (decide (AFE_MON_RATE_CODE.addr ≤ a ∧ a < AFE_MON_RATE_CODE.addr + 64)) (fun s => s.monRun [] [])
    let p := s.fieldsWrite r row a a al w
    let t := State.afterWrite s (if r = .partner then p.1.markPage a else p.1.markWritten a) a
    (t.settle, p.2)

end Sys2Proof.Machine
end

