-- ==== Sys2Proof/Machine/Pair.lean ====
section
/-! DEFINITION. The Helkar link of a redundant pair (file 19): beacons and pair time, the link, mirroring, join states, ownership epochs,
and the frames received. -/

namespace Sys2Proof.Machine

/-! ### Role -/

/-- The fence is lifted: UNIT_OK rises again, unless something else holds it low. -/
def State.unfence (s : State) : State :=
  { (s.setB HLK_STAT_FENCED false) with
    hlk := { s.hlk with fenced := false }
    boot := { s.boot with unitOkLow := (s.boot.unitOkLow && s.power == PowerState.halt) || s.boot.testState || s.boot.serviceEnded } }

/-- The unit's own discipline resumes from HOLDOVER (R461). -/
def State.discResume (s : State) : State :=
  if s.get TB_SRC_CTRL_SRC = 0 then s.discFree
  else { ((s.set TB_DISC_STAT_STATE 3).setB TB_DISC_STAT_STALE false) with tb := { s.tb with holdoverSince := s.tick } }

/-- Runs `f`; where the unit follows its partner no longer, its discipline resumes. -/
def State.keepTime (s : State) (f : State → State) : State :=
  let was := s.following
  let s := f s
  if was && !s.following then s.discResume else s

/-! ### Join states (R478) -/

def State.join (s : State) : Nat := s.get HLK_STATE_JOIN

/-- PAIRED is entered: counted and recorded. -/
def State.enterPaired (s : State) : State := ((s.set HLK_STATE_JOIN 5).inc HLK_CNT2_JOINS).event .pairJoined

/-- Both units hold the configured map at the same E, and their mirrored configuration CRCs agree. -/
def State.mapAgrees (s : State) : Bool :=
  match s.hlk.beacon with
  | none => false
  | some b =>
    let c := s.ownConfigured
    s.ownNow == c && s.hlk.partEpoch == s.hlk.epoch && b.crc == s.mirrorCrc &&
    b.phases.toNat == 0xFFFF - c.ph && b.fuses.toNat == 0xFF - c.ef && b.strings.toNat == 0xFF - c.str &&
    b.resets.toNat == 0xFF - c.rst && b.rails.toNat == 0xFFFFFF - c.rail && b.chans.toNat == 0xFFFF - c.ch

/-- The join state follows its conditions: ALONE to LINKING, LINKING to PAIRED or SYNCING. -/
def State.joinCheck (s : State) : State :=
  let s := if s.join = 1 ∧ s.linkUp then s.set HLK_STATE_JOIN 2 else s
  if s.join ≠ 2 ∨ !s.linkUp then s
  else if s.mapAgrees then s.enterPaired
  else if s.full && (match s.hlk.beacon with | some b => b.primary | none => false) && !s.ownsTransferable then
    (s.set HLK_STATE_JOIN 3).set HLK_RESYNC_DONE 0 |>.set HLK_RESYNC_TOTAL 0
  else s

/-! ### The partner is lost (R477) -/

/-- `PARTNER_LOST` is set. -/
def State.partnerLost (s : State) : State :=
  if s.on HLK_STAT_PARTNER_LOST then s
  else
    let s := (s.setB HLK_STAT_PARTNER_LOST true).set HLK_LAST_FAIL_TICK (s.pairTick % 2 ^ 32).toNat
    let s := { s with hlk := { s.hlk with lostAt := some s.tick } }
    let s := if s.join = 6 ∨ s.join = 0 then s else s.set HLK_STATE_JOIN 1
    ((s.trigger 14).seqEval).seqTail

/-- `PARTNER_LOST` clears in the first tick in which the link is up and a POLL reports the partner ALIVE. -/
def State.partnerBack (s : State) : State :=
  if s.on HLK_STAT_PARTNER_LOST && s.linkUp && s.hlk.partView == 1 then (s.setB HLK_STAT_PARTNER_LOST false).settle else s

/-! ### Epochs (R471, R477, R479) -/

/-- The owner, 0 A or 1 B, that the map of an EPOCH message gives a two-wire channel. -/
def State.chanOwner (s : State) (map c : Nat) : Nat :=
  match map with
  | 1 => 0
  | 2 => 1
  | _ => if (s.get HLK_MAP_CH_OWNER_B).testBit c then 1 else 0

/-- Adoption of an EPOCH message, in its effective tick. -/
def State.adopt (s : State) (e : Nat) (m : EpochMsg) : State :=
  s.keepTime (fun s =>
    let s := { s with hlk := { s.hlk with epoch := e, knowsE := true, wait := none } }
    let s := (s.set HLK_EPOCH_TICK_TICK (s.pairTick % 2 ^ 32).toNat).set HLK_EPOCH_CAUSE_CAUSE m.cause.val
    let s := (s.set HLK_EPOCH_CAUSE_MAP m.map.val).setB HLK_STATE_PRIMARY (m.primaryB == s.isB)
    let s := s.each ((List.range 1024).filter (fun n => s.entState n != 0 && s.ent n 0x1E 1 != s.chanOwner m.map.val (n / 64))) (fun s n =>
      s.entEpoch n e (s.chanOwner m.map.val (n / 64)))
    let s := s.takeOwn (s.ownBy m.map.val)
    let s := match m.cause.val with
      | 1 => (s.inc HLK_CNT_FAILOVERS).partnerLost
      | 2 => (s.inc HLK_CNT_FAILOVERS).partnerLost
      | 4 =>
        let s := ({ s with hlk := { s.hlk with request := 0 } }.inc HLK_CNT_REVERTS).event .pairReverted
        if s.join = 4 then s.enterPaired else s
      | 5 => { s with hlk := { s.hlk with request := 0 } }.event .pairMigrated
      | _ => s
    ((s.groupCheck 0).groupCheck 1).joinCheck.settle)

/-! ### The link (R465) -/

/-- The link goes down: what waits to be sent is dropped, and SYNCING and WAITING start again. -/
def State.linkDown (s : State) : State :=
  if !s.on HLK_STAT_LINK_UP then s
  else s.keepTime (fun s =>
    let s := (((s.setB HLK_STAT_LINK_UP false).setB HLK_LINK_STAT_LOCKED false).inc HLK_LINK_STAT_DOWNS).event .helkarDown
    let s := { s with hlk := { s.hlk with
      upSince := none, downAt := some s.tick, newOffset := none, errSince := none, crcRun := 0, unacked := [], rxSeq := none, sentObj := [], sentEst := [],
      sentCat := [], loops := [], resync := [] } }
    let s := s.setB HLK_STAT_TIME_ERR false
    if s.join = 3 ∨ s.join = 4 then s.set HLK_STATE_JOIN 2 else s)

/-- Code violations that the receiver has counted since the last command join those of the running window of 1,000 ticks. -/
def State.violated (s : State) (n : Nat) : State :=
  let w := s.tick / 1000
  let v := if s.hlk.violations.1 = w then s.hlk.violations.2 + n else n
  { (s.addSat HLK_LINK_ERR_CODE n) with hlk := { s.hlk with violations := (w, v) } }

/-- HELKAR_LINK_TIMEOUT (R465): no valid BEACON in [s, s + LINK_TMO), or more than 16 code violations in a window of 1,000 ticks. -/
def execHelkarLinkTimeout (violations : Nat) (s : State) : Host.Outcome State Fault Refusal :=
  if !s.inPair then done s
  else
    let s := s.violated violations
    let late := match s.hlk.beaconAt with
      | some t => decide (t + 1 + s.get HLK_TIMING_LINK_TMO ≤ s.tick)
      | none => true
    if late = true ∨ 16 < s.hlk.violations.2 then done s.linkDown.settle else done s

/-- HELKAR_RETRANSMIT (R463): a frame without an ACK 20 ticks after it was sent is sent again; after 8 times the link is down. -/
def execHelkarRetransmit (s : State) : Host.Outcome State Fault Refusal :=
  let due := s.hlk.unacked.filter (fun f => decide (f.at_ + 20 ≤ s.tick))
  if due.isEmpty ∨ !s.linkUp then done s
  else if due.any (fun f => decide (8 ≤ f.resends)) then done s.linkDown.settle
  else
    let s := (s.addSat HLK_RETX_COUNT due.length).set HLK_TX_CNT_FRAMES (s.get HLK_TX_CNT_FRAMES + due.length)
    let frame := match due.getLast?.bind (fun f => f.body.payload.map (fun p => (f, p))) with
      | some (f, p) => s.frameBytes f.body.type 3 f.seq p
      | none => []
    done { s with hlk := { s.hlk with frame := frame, unacked := s.hlk.unacked.map (fun f =>
      if f.at_ + 20 ≤ s.tick then { f with at_ := s.tick, resends := f.resends + 1 } else f) } }

/-! ### BEACON (R461, R464) -/

/-- The payload of this unit's BEACON. -/
def State.beaconBytes (s : State) (fine : Nat) : List Byte :=
  let o := s.ownNow
  let flags := (if s.on HLK_STATE_PRIMARY then 1 else 0) + (if s.hlk.fenced then 2 else 0) +
    (if s.hlk.regAt.isSome && !s.on HLK_STAT_REGISTRAR_LOST then 4 else 0) + (if s.linkUp then 8 else 0)
  let act := maskOf ((List.range 16).filter (fun n => s.on PWM_PH_STAT_ACTIVE n))
  leBytes 1 (if s.isB then 2 else 1) ++ leBytes 1 s.join ++ leBytes 1 flags ++ leBytes 1 fine ++ leBytes 8 (s.pairTick % 2 ^ 64).toNat ++
    leBytes 2 o.ph ++ leBytes 2 act ++ leBytes 1 o.ef ++ leBytes 1 o.str ++ leBytes 2 o.rst ++ leBytes 4 o.rail ++ leBytes 4 o.ch ++
    leBytes 4 s.mirrorCrc.toNat

/-- BEACON_SEND (R463): every pair tick that is a multiple of 10, by both units. -/
def execBeaconSend (s : State) : Host.Outcome State Fault Refusal :=
  if s.inPair && s.sdGood && s.boot.g.isSome && decide (s.pairTick % 10 = 0) then
    done (s.frameSent 0x01 0 (some (s.beaconBytes (s.pairFine 0 % 50).toNat)))
  else done s

/-- Latency in fine units: 20 ns each. -/
def latFine (b : Beacon) : Int := divHalfEven b.lat.toNat 20

/-- How far this unit's pair time, at a BEACON's reception, lies behind the sender's (R461). -/
def State.timeError (s : State) (b : Beacon) : Int :=
  50 * (b.ptick.toNat : Int) + b.fine.val + latFine b - s.pairFine b.rxFine.val

/-- What a BEACON tells of the partner. -/
def State.partnerSeen (s : State) (b : Beacon) : State :=
  let differs := b.crc != s.mirrorCrc
  let s := ((s.set HLK_PART_ACT b.active.toNat).set HLK_PART_JOIN b.join.val).set HLK_PART_CRC_CRC b.crc.toNat
  let s := s.set PWM_OWN_PARTNER_ACT b.active.toNat
  let run := if differs then min 10 (s.hlk.crcRun + 1) else 0
  let s := { s with hlk := { s.hlk with beaconAt := some s.tick, beacon := some b, crcRun := run, nakHold := s.hlk.nakHold && differs } }
  s.setB HLK_STAT_CFG_DIVERGED (s.hlk.nakHold || run == 10)

/-- The link comes up: the unit that is not primary measures the latency and the offset it takes at a pair tick that is a multiple of
1,000 (R461). -/
def State.linkBegin (s : State) (b : Beacon) : State :=
  let s := (((s.setB HLK_STAT_LINK_UP true).setB HLK_LINK_STAT_LOCKED true).set HLK_LINK_STAT_LAT_NS b.lat.toNat).event .helkarUp
  let o := s.hlk.offset + s.timeError b
  { s with hlk := { s.hlk with upSince := some s.tick, newOffset := if s.on HLK_STATE_PRIMARY then none else some o } }

/-- The alignment of a unit that follows: the error and since when it has exceeded 5 fine units. -/
def State.alignSeen (s : State) (b : Beacon) : State :=
  if !s.following || s.hlk.newOffset.isSome then s
  else
    let e := s.timeError b
    let s := s.setI HLK_TIME_STAT_ERR e
    { s with hlk := { s.hlk with errSince := sinceIf (decide (5 < e.natAbs)) s.hlk.errSince s.tick } }

/-! ### Records of the mirrored state (R466). A countdown is kept as its end, so that running it down is no change; a frame carries what
is left of it. -/

/-- The record of a fuse channel (R329), with absolute ends. -/
def State.fuseRec (s : State) (n : Fin 8) : FuseRec :=
  let x := s.fuse n
  { state := s.fuseState n, run := x.run, count := s.get EFU_CH_STAT_RETRIES n.val, wait := x.waitEnd
    mem := x.mem.map (fun m => (m.count, m.latched, m.remain, m.until_)), dT := x.dT }

/-- A record as a frame carries it. -/
def State.wire (s : State) : ObjRecord → ObjRecord
  | .fuse n r => .fuse n { r with wait := r.wait.map (fun t => t - s.tick), mem := r.mem.map (fun m => (m.1, m.2.1, m.2.2.1, m.2.2.2 - s.tick)) }
  | r => r

/-- This unit's object records. -/
def State.objRecords (s : State) : List ObjRecord :=
  ((List.finRange 8).filter (fun n => s.fusesOwned.testBit n.val)).map (fun n => ObjRecord.fuse n (s.fuseRec n)) ++
  ((List.finRange 8).filter (fun n => s.strsOwned.testBit n.val)).map (fun n =>
    ObjRecord.string n (s.strClosed n) (Fin.ofNat 16 (s.get BAT_STR_STAT_OPEN_CAUSE n.val))) ++
  ((List.finRange 24).filter s.ownRail).map (fun n => ObjRecord.rail n (s.railQual n) (s.rail n).off (s.rail n).stuck) ++
  ((List.finRange 8).filter (fun k => s.resetsOwned.testBit k.val)).map (fun k => ObjRecord.reset k (s.on SEQ_RST_TIME_ASSERTED k.val)) ++
  (List.finRange 2).map (fun g => ObjRecord.group g (Fin.ofNat 8 (s.groupState g.val))
    (BitVec.ofNat 16 (maskOf (((s.groupPhases g.val).filter s.phaseUsable).map Fin.val)))) ++
  (if s.seqPrimary then [ObjRecord.sequence (Fin.ofNat 8 s.seqState) (Fin.ofNat 32 s.seqStep) (Fin.ofNat 8 (s.get SEQ_STATE_DN_KIND))] else [])

/-- The estimator records of the primary. -/
def State.estRecords (s : State) : List EstRecord :=
  s.confStrs.map (fun n => EstRecord.battery n (s.str n).set_ (s.str n).archive
    (BitVec.ofNat 32 (s.get BAT_STR_STAT_CAPACITY_LOW_BIAS n.val + 2 * s.get BAT_STR_STAT_CAPACITY_HIGH_BIAS n.val +
      4 * s.get BAT_STR_STAT_CAP_STALE n.val))) ++
  [EstRecord.allocation s.shr.inForce] ++
  ((List.finRange 24).filter (fun n => s.rectState n != 0)).map (fun n =>
    let x := s.rect n
    EstRecord.rectifier n x.frac x.ramp x.falling x.t x.curve) ++
  [EstRecord.capping (Fin.ofNat 256 (s.get CAP_LEVEL_L)) s.cap.refNum s.cap.refDen (s.pairTick - ((s.tick - s.cap.tLast : Nat) : Int)).toNat]

/-- The Catalogue bytes of the entries this unit owns. -/
def State.ownCatalogue (s : State) : List Host.Cell :=
  s.mem.filter (fun c => decide (0x380000 ≤ c.1 ∧ c.1 < 0x3A0000) && s.ownsEntry ((c.1 - 0x380000) / 0x80))

/-- A Catalogue byte as a record. -/
def catRecord (a : Nat) (b : Byte) : CatRecord := ⟨Fin.ofNat 1024 ((a - 0x380000) / 0x80), Fin.ofNat 128 ((a - 0x380000) % 0x80), b⟩

/-- The Catalogue bytes that changed since they were last sent. -/
def State.catChanges (s : State) : List CatRecord :=
  let now := s.ownCatalogue
  ((now.filter (fun c => look memUnlisted s.hlk.sentCat c.1 != c.2)).map (fun c => catRecord c.1 c.2)) ++
  ((s.hlk.sentCat.filter (fun c => look memUnlisted now c.1 == 0)).map (fun c => catRecord c.1 0))

/-- Records are counted as they are sent. -/
def State.sendObjects (s : State) : State :=
  let now := s.objRecords
  let l := now.filter (fun r => !s.hlk.sentObj.contains r)
  if !s.mirrors 0 || l.isEmpty then s
  else
    let s := (s.pairSend (.object (l.map s.wire))).set HLK_OBJ_CNT_SENT (s.get HLK_OBJ_CNT_SENT + l.length)
    { s with hlk := { s.hlk with sentObj := now } }

def State.sendEstimator (s : State) : State :=
  let now := s.estRecords
  let l := now.filter (fun r => !s.hlk.sentEst.contains r)
  if !s.mirrors 3 || !s.on HLK_STATE_PRIMARY || l.isEmpty then s
  else
    let s := (s.pairSend (.estimator l)).set HLK_EST_CNT_SENT (s.get HLK_EST_CNT_SENT + l.length)
    { s with hlk := { s.hlk with sentEst := now } }

def State.sendCatalogue (s : State) : State :=
  let l := s.catChanges
  if !s.mirrors 4 || l.isEmpty then s
  else
    let s := (s.pairSend (.catalogue l)).set HLK_CAT_CNT_SENT (s.get HLK_CAT_CNT_SENT + l.length)
    { s with hlk := { s.hlk with sentCat := s.ownCatalogue } }

/-! ### CONFIG (R467) -/

/-- The stamp of the last write applied to a register, if there was one. -/
def State.stampOf (s : State) (a : Nat) : Option Nat := (s.hlk.stamps.find? (fun p => p.1 == a)).map Prod.snd

def State.setStamp (s : State) (a t : Nat) : State :=
  { s with hlk := { s.hlk with stamps := put (fun _ => 0) s.hlk.stamps a t } }

/-- This unit's class-C writes since the last tick are stamped and, where their page is mirrored, sent. -/
def State.flushConfig (s : State) : State :=
  let l := s.hlk.cfgOut
  let t := (s.pairTick % 2 ^ 64).toNat
  { s with hlk := { s.hlk with cfgOut := [] } }.each l (fun s p =>
    let s := s.setStamp p.1 t
    if s.mirrors 2 && !s.bitOn HLK_PAGE_EXCL_PAGES (p.1 / 0x4000) then
      (s.pairSend (.config p.1 s.isB p.2 t)).incWrap HLK_CFG_SEQ_SENT
    else s)

/-- A mirrored write is applied if its stamp is later than that of the last write applied to the register, or equal and the primary's.
Answers the NAK reason of a refusal. -/
def State.applyConfig (s : State) (a : Nat) (w : Word) (t : Nat) : State × Option Nat :=
  match findRow a with
  | none => (s, none)
  | some row =>
    let wins := match s.stampOf a with
      | none => true
      | some old => decide (old < t) || (old == t && !s.on HLK_STATE_PRIMARY)
    if row.cls ≠ .c ∨ s.bitOn HLK_PAGE_EXCL_PAGES (a / 0x4000) then (s, none)
    else if !wins then (s.inc HLK_CFG_STAT_LOST_RACES, none)
    else if s.lockedAt (.reg a 0) then ((s.refuse .partner a .locked).inc HLK_CFG_STAT_REFUSED, some 2)
    else
      let p := (s.setStamp a t).classC .partner row a 0 w
      if p.2 then (p.1.incWrap HLK_CFG_SEQ_APPLIED, none) else (p.1.inc HLK_CFG_STAT_REFUSED, some 3)

/-! ### Records received -/

/-- Object records of the partner. -/
def State.applyObject (s : State) : ObjRecord → State
  | .fuse n r =>
    let r := { r with mem := r.mem.map (fun m => (m.1, m.2.1, m.2.2.1, s.tick + m.2.2.2)) }
    { s with hlk := { s.hlk with fuses := s.hlk.fuses.set n (some r) } }
  | .string n closed cause =>
    if s.strsOwned.testBit n.val then s
    else ((s.setBit BAT_CONN_CLOSED n.val closed).set BAT_STR_STAT_OPEN_CAUSE cause.val n.val).showState n
  | .rail n q off stuck =>
    let bit (m : Nat) (v : Bool) : Nat := if v then m ||| 2 ^ n.val else m - (m &&& 2 ^ n.val)
    { s with seq := { s.seq with partQual := bit s.seq.partQual q, partOff := bit s.seq.partOff off, partStuck := bit s.seq.partStuck stuck } }
  | .reset k v => { s with hlk := { s.hlk with
      partRst := if v then s.hlk.partRst ||| 2 ^ k.val else s.hlk.partRst - (s.hlk.partRst &&& 2 ^ k.val) } }
  | .group g st avail =>
    let mine := maskOf ((s.groupPhases g.val).map Fin.val)
    { s with
      hlk := { s.hlk with partGroup := s.hlk.partGroup.set g st.val }
      cnv := { s.cnv with partnerAvail := (s.cnv.partnerAvail - (s.cnv.partnerAvail &&& mine)) ||| (avail.toNat &&& mine) } }
  | .sequence st step kind => s.seqFollow st.val step.val kind.val

def State.applyObjects (s : State) (l : List ObjRecord) : State :=
  let s := (s.each l State.applyObject).set HLK_OBJ_CNT_RECEIVED (s.get HLK_OBJ_CNT_RECEIVED + l.length)
  (((s.upCheck).downCheck).seqTail).settle

/-- Estimator records of the primary (R254, R302). -/
def State.applyEst (s : State) : EstRecord → State
  | .battery n set_ archive bias =>
    let s := s.setStr n { s.str n with set_ := set_, archive := archive }
    let s := (s.setB BAT_STR_STAT_CAPACITY_LOW_BIAS (bias.getLsbD 0) n.val).setB BAT_STR_STAT_CAPACITY_HIGH_BIAS (bias.getLsbD 1) n.val
    (s.setB BAT_STR_STAT_CAP_STALE (bias.getLsbD 2) n.val).showSet n
  | .allocation a => { s with shr := { s.shr with inForce := a, ready := none } }
  | .rectifier n frac ramp falling trim curve =>
    (s.setRect n { s.rect n with frac := frac, ramp := ramp, falling := falling, t := trim, curve := curve }).showCurve n
  | .capping l num den t =>
    let ago := (s.pairTick - (t : Int)).toNat
    { (s.set CAP_LEVEL_L l.val) with cap := { s.cap with refNum := num, refDen := max 1 den, tLast := s.tick - ago } }

def State.applyEsts (s : State) (l : List EstRecord) : State :=
  if s.on HLK_STATE_PRIMARY then s
  else ((s.each l State.applyEst).set HLK_EST_CNT_RECEIVED (s.get HLK_EST_CNT_RECEIVED + l.length)).settle

/-- Catalogue bytes of entries the partner owns: those of channels this unit does not own (R470). -/
def State.applyCats (s : State) (l : List CatRecord) : State :=
  let s := s.each (l.filter (fun r => !(s.get HLK_EFF_CH_OWN).testBit (r.entry.val / 64))) (fun s r =>
    s.setByte (0x380000 + 0x80 * r.entry.val + r.off.val) r.byte)
  s.set HLK_CAT_CNT_RECEIVED (s.get HLK_CAT_CNT_RECEIVED + l.length)

/-! ### Resynchronisation (R478) -/

/-- A list in pieces of at most `k`. -/
def chunks {α : Type} (k : Nat) : Nat → List α → List (List α)
  | 0, _ => []
  | _ + 1, [] => []
  | n + 1, l => l.take k :: chunks k n (l.drop k)

/-- The blocks of a resynchronisation, up to 1,024 bytes each, with the object records last. -/
def State.resyncBlocks (s : State) : List BulkBlock :=
  let cfg := (((List.range 31).filter (fun p => !s.bitOn HLK_PAGE_EXCL_PAGES p)).map pageConfig).flatten
  let words := cfg.map (fun a => (BitVec.ofNat 24 a, s.reg a))
  let cat := (s.mem.filter (fun c => decide (0x380000 ≤ c.1 ∧ c.1 < 0x3A0000))).map (fun c => catRecord c.1 c.2)
  (chunks 128 words.length words).map BulkBlock.config ++ (chunks 256 cat.length cat).map BulkBlock.catalogue ++
    [BulkBlock.estimator s.estRecords, BulkBlock.objects (s.objRecords.map s.wire)]

/-- The primary starts a resynchronisation when its partner enters SYNCING. -/
def State.resyncStart (s : State) : State :=
  let l := s.resyncBlocks
  let s := (s.set HLK_RESYNC_DONE 0).set HLK_RESYNC_TOTAL l.length
  { s with hlk := { s.hlk with resync := l, resyncAt := s.tick } }.each l (fun s b => s.pairSend (.bulk b))

/-- Blocks of a resynchronisation are acknowledged; with the last one its time is known. -/
def State.resyncAcked (s : State) (n : Nat) : State :=
  if n = 0 ∨ s.hlk.resync.isEmpty then s
  else
    let s := s.addSat HLK_RESYNC_DONE n
    let left := s.hlk.resync.drop n
    let s := { s with hlk := { s.hlk with resync := left } }
    if left.isEmpty then
      let ms := (s.tick - s.hlk.resyncAt) / 1000
      (s.set HLK_RESYNC_TIME_LAST (min ms 0xFFFF)).maxOf HLK_RESYNC_TIME_MAX ms
    else s

/-- WAITING is entered: every slot takes the primary's states with a bumpless start. -/
def State.enterWaiting (s : State) : State :=
  let s := s.set HLK_STATE_JOIN 4
  let s := { s with hlk := { s.hlk with stableSince := s.tick } }
  let s := s.each ((List.finRange 64).filter s.slotActive) (fun s n =>
    let x := s.slot n
    match s.hlk.loops.find? (fun r => r.slot == n) with
    | some r => s.setSlot n { x with st := Vector.ofFn (fun k : Fin 6 => r.states[k.val]'(by omega)), start := true }
    | none => s.setSlot n { x with start := true })
  { s with hlk := { s.hlk with loops := [] } }

/-! ### Frames received (R462, R463) -/

/-- A frame of the link: a bad CRC is counted and answered with NAK 1; a frame that needs an ACK is applied once, in sequence, and
acknowledged. -/
def State.frameIn (s : State) (h : FrameHead) (acked : Bool) (f : State → State) : State :=
  if !s.inPair || !s.sdGood then s
  else if !h.crcOk then (s.inc HLK_LINK_ERR_CRC).nakSent h.seq.toNat 1
  else
    let s := s.incWrap HLK_RX_CNT_FRAMES
    if !acked then f s
    else if !s.linkUp then s
    else if (match s.hlk.rxSeq with | some q => seqUpTo h.seq.toNat q | none => false) then s.ackSent
    else if !h.inOrder then s
    else
      (f { s with hlk := { s.hlk with rxSeq := some h.seq.toNat } }).ackSent

/-- A write that is not accepted is answered with a NAK (R467). -/
def State.refused (s : State) (h : FrameHead) (reason : Option Nat) : State :=
  match reason with
  | some k => s.nakSent h.seq.toNat k
  | none => s

/-- BEACON (R461, R464, R465). -/
def State.beaconIn (s : State) (h : FrameHead) (b : Beacon) : State :=
  let was := s.get HLK_PART_JOIN
  let s := s.partnerSeen b
  let s := { s with hlk := { s.hlk with
    partEpoch := h.epoch.toNat, epoch := if s.hlk.knowsE then s.hlk.epoch else max s.hlk.epoch h.epoch.toNat, knowsE := true } }
  let s := if !s.linkUp && b.ready && s.hlk.downAt != some s.tick then s.linkBegin b else s
  let s := ((s.alignSeen b).partnerBack).joinCheck
  if s.linkUp && s.on HLK_STATE_PRIMARY && b.join.val == 3 && (was != 3 || s.get HLK_RESYNC_TOTAL == 0) then s.resyncStart else s

/-- BEACON of the partner (R463, R464). -/
def execPairBeacon (h : FrameHead) (b : Beacon) (s : State) : Host.Outcome State Fault Refusal :=
  done (s.frameIn h false (fun s => s.beaconIn h b)).settle

/-- ACK (R463): the highest sequence number received in order. -/
def execPairAck (h : FrameHead) (upto : Word) (s : State) : Host.Outcome State Fault Refusal :=
  done (s.frameIn h false (fun s =>
    let gone := s.hlk.unacked.filter (fun f => seqUpTo f.seq upto.toNat)
    let s := { s with hlk := { s.hlk with unacked := s.hlk.unacked.filter (fun f => !seqUpTo f.seq upto.toNat) } }
    s.resyncAcked (gone.filter (fun f => match f.body with | .bulk _ => true | _ => false)).length))

/-- NAK (R463, R467): counted and recorded; a refused CONFIG write holds CFG_DIVERGED until the CRCs agree. -/
def execPairNak (h : FrameHead) (seq : Word) (reason : Fin 256) (s : State) : Host.Outcome State Fault Refusal :=
  done (s.frameIn h false (fun s =>
    let s := (s.inc (if reason.val = 2 then HLK_NAK_LOCKED else HLK_NAK_OTHER)).event .pairNak 0 [seq.toNat, reason.val]
    let s := { s with hlk := { s.hlk with stableSince := s.tick } }
    if reason.val = 2 ∨ reason.val = 3 then
      ({ s with hlk := { s.hlk with nakHold := true } }).setB HLK_STAT_CFG_DIVERGED true
    else s)).settle

/-- OBJECT (R466). -/
def execPairObject (h : FrameHead) (l : List ObjRecord) (s : State) : Host.Outcome State Fault Refusal :=
  done (s.frameIn h true (fun s => s.iff (s.mirrors 0) (fun s => s.applyObjects l)))

/-- The pair tick bits [31:0] of a slot's last sample. -/
def State.sampleTick (s : State) (n : Fin 64) : Nat := ((s.pairTick - ((s.tick - (s.slot n).lastTick : Nat) : Int)) % 2 ^ 32).toNat

/-- A slot is mirrored (R466). -/
def State.loopMirrored (s : State) (n : Fin 64) : Bool :=
  if n.val < 32 then s.bitOn HLK_LOOP_MASK_LO_SLOTS n.val else s.bitOn HLK_LOOP_MASK_HI_SLOTS (n.val - 32)

/-- One LOOP record (R469): late ones are counted, outputs that differ for 10 records in a row mark their slot, and the correction waits
for the slot's next sample. -/
def State.loopIn (s : State) (r : LoopRecord) : State :=
  let n := r.slot
  if !s.loopMirrored n || !s.slotActive n || s.on HLK_STATE_PRIMARY then s
  else
    let late := s.sampleTick n != r.ptick.toNat && seqUpTo r.ptick.toNat (s.sampleTick n)
    let s := s.iff late (fun s => s.inc HLK_LOOP_STAT_LATE)
    let c := s.runSet n (s.get LPS_STAT_REGION n.val)
    let d := (c.output (r.states[5]) - (s.slot n).out).natAbs
    let run := if (c.at 0x04 - c.at 0x00).toNat < 64 * d then min 10 (s.hlk.loopRun.get n + 1) else 0
    let s := { s with hlk := { s.hlk with
      loopRun := s.hlk.loopRun.set n run, loops := s.hlk.loops.filter (fun q => q.slot != n) ++ [r] } }
    if run ≠ 10 then s
    else if n.val < 32 then s.setBit HLK_LOOP_DIV_LO_SLOTS n.val true
    else s.setBit HLK_LOOP_DIV_HI_SLOTS (n.val - 32) true

/-- LOOP (R469). -/
def execPairLoop (h : FrameHead) (l : List LoopRecord) (s : State) : Host.Outcome State Fault Refusal :=
  done (s.frameIn h false (fun s => if s.linkUp && s.mirrors 1 then s.each l State.loopIn else s))

/-- CONFIG (R467): applied by its stamp, while the class is mirrored here (R108, R466); a refusal is answered with NAK 2 or 3. -/
def execPairConfig (h : FrameHead) (addr : BitVec 24) (_fromB : Bool) (value : Word) (stamp : BitVec 64) (s : State) :
    Host.Outcome State Fault Refusal :=
  done (s.frameIn h true (fun s => s.iff (s.mirrors 2) (fun s =>
    let p := s.flushConfig.applyConfig addr.toNat value stamp.toNat
    p.1.refused h p.2)))

/-- ESTIMATOR (R466). -/
def execPairEstimator (h : FrameHead) (l : List EstRecord) (s : State) : Host.Outcome State Fault Refusal :=
  done (s.frameIn h true (fun s => s.iff (s.mirrors 3) (fun s => s.applyEsts l)))

/-- CATALOGUE (R466). -/
def execPairCatalogue (h : FrameHead) (l : List CatRecord) (s : State) : Host.Outcome State Fault Refusal :=
  done (s.frameIn h true (fun s => s.iff (s.mirrors 4) (fun s => s.applyCats l))).settle

/-- COMMAND (R467): a BAKE or COMMIT as though it had been written here. -/
def execPairCommand (h : FrameHead) (code : Byte) (s : State) : Host.Outcome State Fault Refusal :=
  done (s.frameIn h true (fun s => s.iff (s.mirrors 2) (fun s =>
    if code = 1 then s.bakeCmd .partner else if code = 2 then s.commitCmd else s))).settle

/-- A resynchronisation block is taken with the stamp of its frame, and the last one ends SYNCING (R478). -/
def State.bulkIn (s : State) (h : FrameHead) (b : BulkBlock) : State :=
  let now := s.pairTick
  let t := (now + toSigned 32 ((h.ptick.toNat + 2 ^ 32 - (now % 2 ^ 32).toNat) % 2 ^ 32)).toNat
  let s := s.inc HLK_RESYNC_DONE
  match b with
  | .config l => s.each l (fun s p =>
      let q := s.applyConfig p.1.toNat p.2 t
      q.1.refused h q.2)
  | .catalogue l => s.applyCats l
  | .estimator l => s.applyEsts l
  | .objects l =>
    let s := s.applyObjects l
    if s.join = 3 then s.enterWaiting else s

def execPairBulk (h : FrameHead) (b : BulkBlock) (s : State) : Host.Outcome State Fault Refusal :=
  done (s.frameIn h true (fun s => s.bulkIn h b)).settle

/-! ### What this unit sends of itself -/

/-- The slots whose LOOP records go next: up to 14 mirrored slots, in rising order from where the last frame ended. -/
def State.loopSlots (s : State) : List (Fin 64) :=
  let l := (List.finRange 64).filter (fun n => s.loopMirrored n && s.slotActive n && (s.slot n).wrote)
  ((l.filter (fun n => decide (s.hlk.loopNext ≤ n.val))) ++ (l.filter (fun n => decide (n.val < s.hlk.loopNext)))).take 14

/-- A slot record of LOOP, 72 bytes. -/
def State.loopBytes (s : State) (n : Fin 64) : List Byte :=
  leBytes 1 n.val ++ leBytes 1 (s.get LPS_STAT_REGION n.val) ++ leBytes 2 0 ++ leBytes 4 (s.sampleTick n) ++
    (((s.slot n).st.toList ++ [0, 0]).map (fun x => leBytes 8 (ofSigned 64 x))).flatten

/-- LOOP_SEND (R463): every pair tick that is a multiple of 100, by the primary. -/
def execLoopSend (s : State) : Host.Outcome State Fault Refusal :=
  if s.mirrors 1 && s.on HLK_STATE_PRIMARY && decide (s.pairTick % 100 = 0) then
    let l := s.loopSlots
    let t := s.frameSent 0x11 0 (some (l.map s.loopBytes).flatten)
    done { t with hlk := { t.hlk with
      loopNext := match l.getLast? with | some n => (n.val + 1) % 64 | none => 0 } }
  else done s

/-- PAIR_OFFSET_SLEW (R461): at most 1 fine unit each 1,000 ticks, towards no error. -/
def execPairOffsetSlew (s : State) : Host.Outcome State Fault Refusal :=
  let e := s.getI HLK_TIME_STAT_ERR
  if s.following ∧ s.hlk.newOffset.isNone ∧ s.hlk.slewAt + 1000 ≤ s.tick ∧ e ≠ 0 then
    let s := (s.inc HLK_TIME_STAT_SLEWS).setI HLK_TIME_STAT_ERR (e - e.sign)
    done { s with hlk := { s.hlk with offset := s.hlk.offset + e.sign, slewAt := s.tick } }
  else done s

/-- What a tick brings a unit of a pair: a measured offset takes effect at a pair tick that is a multiple of 1,000, TIME_ERR is judged,
and what has changed is sent. -/
def State.pairIdle (s : State) : State :=
  if !s.inPair then s
  else
    let s := match s.hlk.newOffset with
      | some o => if s.pairTick % 1000 = 0 then { s with hlk := { s.hlk with offset := o, newOffset := none } } else s
      | none => s
    let s := s.setB HLK_STAT_TIME_ERR (match s.hlk.errSince with | some t => decide (t + 1000 ≤ s.tick) | none => false)
    s.joinCheck.flushConfig.sendObjects.sendEstimator.sendCatalogue

end Sys2Proof.Machine
end

