-- ==== Sys2Proof/Machine/Witness.lean ====
section
/-! DEFINITION. The witness link (file 19): messages, ownership decided by the Registrar (R471 to R478), the fence, and the commands of
HLK_CMD. -/

namespace Sys2Proof.Machine

/-! ### Messages (R474) -/

/-- Bytes 12 to 27 of a message. -/
def WitMsg.fields : WitMsg → List Byte
  | .poll primaryB a b => leBytes 1 (if primaryB then 1 else 0) ++ leBytes 1 a ++ leBytes 1 b ++ leBytes 13 0
  | .heartbeat m =>
    let flags := (if m.partHeard then 1 else 0) + (if m.fenced then 2 else 0) + (if m.primary then 4 else 0) + (if m.owns then 8 else 0)
    leBytes 1 m.join.val ++ leBytes 1 flags ++ leBytes 1 m.request.val ++ leBytes 1 (if m.prefB then 1 else 0) ++
      leBytes 4 m.ptick.toNat ++ leBytes 4 m.crc.toNat ++ leBytes 4 0
  | .epoch m => leBytes 1 m.cause.val ++ leBytes 1 m.map.val ++ leBytes 1 (if m.primaryB then 1 else 0) ++ leBytes 1 m.lost.val ++
      leBytes 8 m.eff.toNat ++ leBytes 4 0
  | .fence c => leBytes 1 (match c with | .link => 1 | .command => 2) ++ leBytes 15 0

def WitMsg.type : WitMsg → Nat
  | .poll .. => 1 | .heartbeat _ => 2 | .epoch _ => 3 | .fence _ => 4

/-- The 32 bytes of a message of this unit (R474). -/
def State.witBytes (s : State) (m : WitMsg) : List Byte :=
  let reg := s.unitRole == 3
  let b := leBytes 1 0x57 ++ leBytes 1 m.type ++ leBytes 1 (if reg then 2 else if s.isB then 1 else 0) ++ leBytes 1 0 ++
    leBytes 4 (if reg then s.hlk.reg.maxE else s.hlk.epoch) ++ leBytes 4 s.hlk.witSeq ++ m.fields
  b ++ leBytes 4 (crc32c b).toNat

/-- A message leaves this unit. -/
def State.witSend (s : State) (dest : WitFrom) (m : WitMsg) : State :=
  { s with hlk := { s.hlk with witSeq := (s.hlk.witSeq + 1) % 2 ^ 32, wit := s.hlk.wit ++ [(dest, m, s.witBytes m)] } }

/-- The messages of earlier commands are gone. -/
def State.witClear (s : State) : State := { s with hlk := { s.hlk with wit := [] } }

/-- This unit's HEARTBEAT. A request is answered by the EPOCH message that waits for its effective tick. -/
def State.heartbeat (s : State) : HeartbeatMsg :=
  { join := Fin.ofNat 8 s.join, partHeard := s.linkUp, fenced := s.hlk.fenced, primary := s.on HLK_STATE_PRIMARY
    owns := s.ownsTransferable, request := if s.hlk.wait.isSome then 0 else s.hlk.request
    prefB := s.on HLK_CFG_PREF, ptick := BitVec.ofNat 32 (s.pairTick % 2 ^ 32).toNat, crc := s.mirrorCrc }

/-- A message is received: it must have a good CRC and come from `ok`; a bad one is counted (R482). -/
def State.witIn (s : State) (h : WitHead) (type : Nat) (ok : WitFrom → Bool) (f : State → State) : State :=
  let s := s.witClear
  if !h.crcOk || !ok h.sender then s.inc HLK_WIT_STAT_BAD
  else
    let s := (s.incWrap HLK_WIT_STAT_RX).set HLK_WIT_LAST_TYPE type
    let s := (s.set HLK_WIT_LAST_FROM (match h.sender with | .a => 0 | .b => 1 | .registrar => 2)).set HLK_WIT_LAST_SEQ h.seq.toNat
    f s

/-- A message of the Registrar: it is heard, and answered with a HEARTBEAT. -/
def State.fromRegistrar (s : State) (h : WitHead) (type : Nat) (f : State → State) : State :=
  if !s.inPair then s
  else s.witIn h type (fun x => x == .registrar) (fun s =>
    let s := { (s.setB HLK_STAT_REGISTRAR_LOST false) with hlk := { s.hlk with regAt := some s.tick } }
    let s := f s
    s.witSend .registrar (.heartbeat s.heartbeat))

/-- POLL (R474): the views, the epoch where it was not known, and the partner's loss or return (R477). -/
def State.pollIn (s : State) (h : WitHead) (primaryB : Bool) (viewA viewB : Fin 4) : State :=
  s.fromRegistrar h 1 (fun s =>
    let s := ((s.set HLK_REG_VIEW_A viewA.val).set HLK_REG_VIEW_B viewB.val).setB HLK_REG_VIEW_PRIMARY_B primaryB
    let v := if s.isB then viewA.val else viewB.val
    let s := { s with hlk := { s.hlk with
      partView := v, epoch := if s.hlk.knowsE then s.hlk.epoch else max s.hlk.epoch h.epoch.toNat, knowsE := true } }
    let s := if v = 2 ∨ v = 3 then s.partnerLost else s.partnerBack
    s.joinCheck.settle)

/-- The witness balls are in use: with `WIT_PATH` 1 or 2 they are ignored (R458). -/
def State.witBalls (s : State) : Bool := s.get HLK_CFG_WIT_PATH == 0

def execWitnessPoll (h : WitHead) (primaryB : Bool) (viewA viewB : Fin 4) (s : State) : Host.Outcome State Fault Refusal :=
  done (s.iff s.witBalls (fun s => s.pollIn h primaryB viewA viewB))

/-- EPOCH (R471, R474, R480): adopted at once, or kept for its effective pair tick; one that is not greater, or that comes while FENCED, is
ignored and counted. -/
def State.epochIn (s : State) (h : WitHead) (m : EpochMsg) : State :=
  s.fromRegistrar h 3 (fun s =>
    let e := h.epoch.toNat
    if s.hlk.fenced || decide (e ≤ s.hlk.epoch) then s.inc HLK_WIT_STAT_BAD
    else
      let ahead := (m.eff.toNat + 2 ^ 32 - (s.pairTick % 2 ^ 32).toNat) % 2 ^ 32
      if m.eff = 0 ∨ ahead = 0 then s.adopt e m
      else if 2 ^ 31 ≤ ahead then (s.inc HLK_EPOCH_CAUSE_LATE).adopt e m
      else { s with hlk := { s.hlk with wait := some (e, m) } })

def execEpoch (h : WitHead) (e : EpochMsg) (s : State) : Host.Outcome State Fault Refusal :=
  done (s.iff s.witBalls (fun s => s.epochIn h e))

/-- EPOCH_EFFECTIVE (R479): the effective pair tick of the message that waits. -/
def execEpochEffective (s : State) : Host.Outcome State Fault Refusal :=
  match s.hlk.wait with
  | none => done s
  | some (e, m) =>
    if 2 ^ 31 ≤ ((s.pairTick % 2 ^ 32).toNat + 2 ^ 32 - m.eff.toNat % 2 ^ 32) % 2 ^ 32 then done s else done (s.adopt e m)

/-! ### The fence (R476) -/

/-- A fence for a cause; discipline resumes if the unit no longer follows. -/
def State.fenceFor (s : State) (cause : Nat) : State := s.keepTime (fun s => s.fence cause)

/-- FENCE (R474, R476). -/
def State.fenceIn (s : State) (h : WitHead) (c : FenceCause) : State :=
  s.fromRegistrar h 4 (fun s => s.fenceFor (match c with | .link => 1 | .command => 2))

def execFence (h : WitHead) (cause : FenceCause) (s : State) : Host.Outcome State Fault Refusal :=
  done (s.iff s.witBalls (fun s => s.fenceIn h cause))

/-- The first tick after `t`, or tick g: the start of a silence that has lasted until now. -/
def State.silentFrom (s : State) (t : Option Nat) : Nat :=
  match t with
  | some t => t + 1
  | none => s.boot.g.getD s.tick

/-- FENCE_TIMEOUT (R476): neither a valid BEACON nor a valid Registrar message for FENCE_TMO. -/
def execFenceTimeout (s : State) : Host.Outcome State Fault Refusal :=
  if s.inPair && s.boot.g.isSome && !s.on HLK_STAT_PARTNER_LOST &&
      decide (max (s.silentFrom s.hlk.beaconAt) (s.silentFrom s.hlk.regAt) + s.get HLK_TIMING_FENCE_TMO ≤ s.tick) then
    done (s.fenceFor 3)
  else done s

/-- REGISTRAR_LOST_TIMEOUT (R477). -/
def execRegistrarLostTimeout (s : State) : Host.Outcome State Fault Refusal :=
  if s.inPair && s.boot.g.isSome && decide (s.silentFrom s.hlk.regAt + s.get HLK_WIT_TIME_HB_TMO ≤ s.tick) then
    done (s.setB HLK_STAT_REGISTRAR_LOST true).settle
  else done s

/-! ### Joining and requests (R478) -/

/-- FENCED to LINKING; not in HALT, which only a power-on reset ends. -/
def State.rejoin (s : State) : State :=
  if s.join = 6 ∧ s.power ≠ .halt then (s.unfence.set HLK_STATE_JOIN 2).joinCheck.settle else s

/-- FENCED_REJOIN_TIMER (R478). -/
def execFencedRejoinTimer (s : State) : Host.Outcome State Fault Refusal :=
  match s.hlk.upSince with
  | some t => if s.linkUp ∧ t + 1000000 ≤ s.tick ∧ s.hlk.partView = 1 then done s.rejoin else done s
  | none => done s

/-- STABLE_EXPIRY (R478). -/
def execStableExpiry (s : State) : Host.Outcome State Fault Refusal :=
  if s.join = 4 ∧ s.linkUp ∧ s.on HLK_CFG_AUTO_REVERT ∧ s.hlk.stableSince + 1000000 * s.get HLK_CFG_STABLE_S ≤ s.tick then
    done { s with hlk := { s.hlk with request := 1 } }
  else done s

/-- MIGRATE: the primary asks for a migration (R475). -/
def State.migrateCmd (s : State) : State :=
  if s.inPair && s.on HLK_STATE_PRIMARY then { s with hlk := { s.hlk with request := 2 } } else s

/-- REVERT: a unit in WAITING asks at once for a revert (R478). -/
def State.revertCmd (s : State) : State := if s.join = 4 then { s with hlk := { s.hlk with request := 1 } } else s

def execPairMigrate (r : Requester) (s : State) : Host.Outcome State Fault Refusal :=
  done (s.gateRole r HLK_CMD_MIGRATE.addr .curator State.migrateCmd)

def execPairRevert (r : Requester) (s : State) : Host.Outcome State Fault Refusal :=
  done (s.gateRole r HLK_CMD_MIGRATE.addr .curator State.revertCmd)

def execPairRejoin (r : Requester) (s : State) : Host.Outcome State Fault Refusal :=
  done (s.gateRole r HLK_CMD_MIGRATE.addr .curator State.rejoin)

/-- FENCE_SELF (R476). -/
def execFenceSelf (r : Requester) (s : State) : Host.Outcome State Fault Refusal :=
  done (s.gateRole r HLK_CMD_MIGRATE.addr .curator (fun s => s.fenceFor 4))

/-! ### The Registrar (R475) -/

/-- 0 A, 1 B. -/
def viewField (x : Fin 2) : Field := if x = 0 then HLK_REG_VIEW_A else HLK_REG_VIEW_B

def unitOf (x : Fin 2) : WitFrom := if x = 0 then .a else .b

/-- The Registrar's view of a unit: 0 UNKNOWN, 1 ALIVE, 2 FAILED, 3 FENCED. -/
def State.viewOf (s : State) (x : Fin 2) : Nat := s.get (viewField x)

def State.setView (s : State) (x : Fin 2) (v : Nat) : State := s.set (viewField x) v

/-- The last HEARTBEAT of a unit. -/
def State.lastBeat (s : State) (x : Fin 2) : Option HeartbeatMsg := (s.hlk.reg.last.get x).map Prod.fst

/-- No valid HEARTBEAT from a unit for HB_TMO ticks. -/
def State.unitSilent (s : State) (x : Fin 2) : Bool :=
  let t := match s.hlk.reg.last.get x, s.hlk.reg.since with
    | some p, _ => p.2 + 1
    | none, some t => t
    | none, none => s.tick
  decide (t + s.get HLK_WIT_TIME_HB_TMO ≤ s.tick)

/-- The Registrar's estimate of the pair tick plus 2,000. -/
def State.effAt (s : State) : BitVec 64 :=
  let newest := match s.hlk.reg.last.get 0, s.hlk.reg.last.get 1 with
    | some p, some q => some (if p.2 < q.2 then q else p)
    | some p, none => some p
    | none, q => q
  match newest with
  | some p => BitVec.ofNat 64 (p.1.ptick.toNat + (s.tick - p.2) + 2000)
  | none => 0

/-- An EPOCH message is issued: E is raised by 1. -/
def State.issue (s : State) (m : EpochMsg) (l : List (Fin 2)) : State :=
  let s := s.inc HLK_REG_CNT_EPOCHS
  let s := { s with hlk := { s.hlk with reg := { s.hlk.reg with maxE := s.hlk.reg.maxE + 1, primaryB := m.primaryB } } }
  s.each l (fun s x => s.witSend (unitOf x) (.epoch m))

/-- A verdict or a link fence takes the objects of `x` from it. -/
def State.takeFrom (s : State) (x : Fin 2) (cause : Fin 6) (view : Nat) : State :=
  let y : Fin 2 := 1 - x
  let s := s.issue { cause := cause, map := if y = 0 then 1 else 2, primaryB := y == 1, lost := if x = 0 then 1 else 2, eff := 0 } [y]
  let s := if (match s.hlk.reg.fenceSent with | some p => p.1 == x.val | none => false) then
    { s with hlk := { s.hlk with reg := { s.hlk.reg with fenceSent := none } } } else s
  s.setView x view

/-- The Registrar waits for the fence of `x`. -/
def State.fencing (s : State) (x : Fin 2) : Bool := match s.hlk.reg.fenceSent with | some p => p.1 == x.val | none => false

/-- Decisions on a silent unit: fence completion, or a verdict. -/
def State.judgeSilent (s : State) (x : Fin 2) : State :=
  let y : Fin 2 := 1 - x
  if !s.hlk.reg.started || !s.unitSilent x then s
  else if s.fencing x then s.takeFrom x 2 3
  else if s.viewOf y == 1 && s.viewOf x != 2 && (match s.lastBeat y with | some m => !m.partHeard | none => false) then s.takeFrom x 1 2
  else s

/-- A link fence: both ALIVE and neither hears the other; the unit without the primary role is fenced. -/
def State.judgeLink (s : State) : State :=
  let deaf (x : Fin 2) : Bool := s.viewOf x == 1 && (match s.lastBeat x with | some m => !m.partHeard && !m.fenced | none => false)
  if !deaf 0 || !deaf 1 || s.hlk.reg.fenceSent.isSome then s
  else
    let x : Fin 2 := if s.hlk.reg.primaryB then 0 else 1
    let s := (s.inc HLK_REG_CNT_FENCES).witSend (unitOf x) (.fence .link)
    { s with hlk := { s.hlk with reg := { s.hlk.reg with fenceSent := some (x.val, s.tick) } } }

/-- Requests: a revert from a unit in WAITING, once in a POLL period, and a migration from the primary with both PAIRED. -/
def State.judgeRequest (s : State) (x : Fin 2) (m : HeartbeatMsg) : State :=
  let y : Fin 2 := 1 - x
  let recent := match s.hlk.reg.revertAt with | some t => decide (s.tick < t + s.get HLK_WIT_TIME_POLL_US) | none => false
  if m.request = 1 ∧ m.join.val = 4 ∧ s.viewOf y = 1 ∧ !recent then
    let s := s.issue { cause := 4, map := 0, primaryB := m.prefB, lost := 0, eff := s.effAt } [0, 1]
    { s with hlk := { s.hlk with reg := { s.hlk.reg with revertAt := some s.tick } } }
  else if m.request = 2 ∧ m.primary ∧ m.join.val = 5 ∧ (match s.lastBeat y with | some q => q.join.val == 5 | none => false) = true then
    s.issue { cause := 5, map := 0, primaryB := s.hlk.reg.primaryB, lost := 0, eff := s.effAt } [0, 1]
  else s

/-- HEARTBEAT on the Registrar (R475). -/
def State.beatIn (s : State) (h : WitHead) (m : HeartbeatMsg) : State :=
  if s.unitRole ≠ 3 then s
  else s.witIn h 2 (fun x => x != .registrar) (fun s =>
    let x : Fin 2 := if h.sender = .a then 0 else 1
    let y : Fin 2 := 1 - x
    let was := s.lastBeat x
    let v := s.viewOf x
    let s := s.stamp (if x = 0 then HLK_REG_LAST_A_TICK else HLK_REG_LAST_B_TICK)
    let s := { s with hlk := { s.hlk with reg := { s.hlk.reg with
      last := s.hlk.reg.last.set x (some (m, s.tick)), maxE := max s.hlk.reg.maxE h.epoch.toNat } } }
    if !s.hlk.reg.started then s.setView x 1
    else
      let fresh := m.fenced && !(match was with | some q => q.fenced | none => false)
      let s :=
        if m.fenced && s.fencing x then s.takeFrom x 2 3
        else if fresh && !s.fencing x && v != 2 && v != 3 && s.viewOf y == 1 then s.takeFrom x 2 3
        else if v == 2 || v == 3 || v == 0 then s.setView x 1
        else s
      ((s.judgeSilent y).judgeLink).judgeRequest x m)

def execHeartbeat (h : WitHead) (m : HeartbeatMsg) (s : State) : Host.Outcome State Fault Refusal := done (s.beatIn h m)

/-- HEARTBEAT_TIMEOUT (R475): a unit has been silent for HB_TMO. -/
def execHeartbeatTimeout (x : Fin 2) (s : State) : Host.Outcome State Fault Refusal :=
  if s.unitRole = 3 ∧ s.unitSilent x then done (s.witClear.judgeSilent x) else done s

/-- REGISTRAR_START (R475): both units have answered, or HB_TMO has passed with one answering. -/
def execRegistrarStart (s : State) : Host.Outcome State Fault Refusal :=
  match s.hlk.reg.since with
  | none => done s
  | some t =>
    let l := (List.finRange 2).filter (fun x => (s.lastBeat x).isSome)
    if s.unitRole ≠ 3 ∨ s.hlk.reg.started ∨ l.isEmpty ∨ (l.length = 1 ∧ s.tick < t + s.get HLK_WIT_TIME_HB_TMO) then done s
    else
      let s := s.witClear
      let pref := match l, s.lastBeat 0 with
        | [x], _ => x == 1
        | _, some m => m.prefB
        | _, none => false
      let lost : Fin 3 := match l with
        | [x] => if x = 0 then 2 else 1
        | _ => 0
      let s := s.issue { cause := 3, map := 0, primaryB := pref, lost := lost, eff := 0 } l
      let s := s.each (List.finRange 2) (fun s x => s.setView x (if l.contains x then 1 else 2))
      done { s with hlk := { s.hlk with reg := { s.hlk.reg with started := true } } }

/-- WITNESS_POLL_SEND (R474): every POLL_US ticks, to each unit. -/
def execWitnessPollSend (x : Fin 2) (s : State) : Host.Outcome State Fault Refusal :=
  if s.unitRole = 3 ∧ s.hlk.reg.since.isSome ∧ s.hlk.reg.pollAt.get x + s.get HLK_WIT_TIME_POLL_US ≤ s.tick then
    let s := s.witClear.witSend (unitOf x) (.poll s.hlk.reg.primaryB (s.viewOf 0) (s.viewOf 1))
    done { s with hlk := { s.hlk with reg := { s.hlk.reg with pollAt := s.hlk.reg.pollAt.set x s.tick } } }
  else done s

/-- A link fence that is not complete within HB_TMO is a double fault (R482). -/
def State.registrarIdle (s : State) : State :=
  match s.hlk.reg.fenceSent with
  | some p => s.iff (s.unitRole == 3 && p.2 + s.get HLK_WIT_TIME_HB_TMO == s.tick) (fun s => s.inc HLK_DOUBLE_COUNT)
  | none => s

/-! ### PRAX witness messages (R458, R498) -/

/-- A byte of the 32-byte content. -/
def witByte (b : List Byte) (i : Nat) : Nat := (b.getD i 0).toNat

/-- The content's header; its CRC is over bytes 0 to 27. -/
def witHead (b : List Byte) : Option WitHead :=
  let crcOk := leNat (b.drop 28) == (crc32c (b.take 28)).toNat && witByte b 0 == 0x57
  let e := BitVec.ofNat 32 (leNat ((b.drop 4).take 4))
  let q := BitVec.ofNat 32 (leNat ((b.drop 8).take 4))
  match witByte b 2 with
  | 0 => some ⟨.a, e, q, crcOk⟩
  | 1 => some ⟨.b, e, q, crcOk⟩
  | 2 => some ⟨.registrar, e, q, crcOk⟩
  | _ => none

/-- A witness message's 32 bytes, as the message they lay out (R474). -/
def State.witnessBytes (s : State) (b : List Byte) : State :=
  match witHead b with
  | none => s.inc HLK_WIT_STAT_BAD
  | some h =>
    match witByte b 1 with
    | 1 => s.pollIn h (witByte b 12 == 1) (Fin.ofNat 4 (witByte b 13)) (Fin.ofNat 4 (witByte b 14))
    | 3 => s.epochIn h { cause := Fin.ofNat 6 (witByte b 12), map := Fin.ofNat 3 (witByte b 13), primaryB := witByte b 14 == 1,
                         lost := Fin.ofNat 3 (witByte b 15), eff := BitVec.ofNat 64 (leNat ((b.drop 16).take 8)) }
    | 4 => s.fenceIn h (if witByte b 12 = 1 then .link else .command)
    | _ => s.inc HLK_WIT_STAT_BAD


/-- WITNESS (R498): only on the port that `WIT_PATH` names and in a session whose key slot has `WIT`; the HEARTBEAT goes back in the same
session. -/
def execPraxWitness (d : Datagram) (s : State) : Host.Outcome State Fault Refusal :=
  done (s.praxFrame d true (fun s =>
    let allowed := s.witPort d.eth && (match s.sessionOf d with
      | some k => s.on SES_KEY_CFG_WIT (s.get SES_SESS_SLOT k.val)
      | none => false)
    if !allowed then s.discard
    else s.praxRequest d 0x20 (fun k s =>
      if !datagramFits d 32 then s.sessError k d 0x20 0x10
      else
        let s := s.witClear.witnessBytes d.body
        match s.hlk.wit.getLast? with
        | some (_, _, b) => s.sessReply k d 0x20 b
        | none => s)))

end Sys2Proof.Machine
end

