-- ==== Sys2Proof/Machine/Startup.lean ====
section
/-! DEFINITION. Power-up (file 04): supplies and the power-on reset, the wake domain, straps, the Kiln load (R539, R446, R543), and tick g
(R106, R168, R473). -/

namespace Sys2Proof.Machine

/-! ### The power-on reset and the wake domain (R96 to R99, R24, R304) -/

/-- What NVM and the wake domain keep while the core has no power; everything else is as after reset (R99, R431). A WRITING entry of the
Strata directory becomes INCOMPLETE. -/
def State.powerOff (s : State) : State :=
  { mem := s.mem.filter (fun p => decide (nvmBase ≤ p.1))
    nvm := { copies := s.nvm.copies, wipes := s.nvm.wipes, wear := s.nvm.wear, torn := s.nvm.torn, tornAll := s.nvm.tornAll }
    bbx := { dir := s.bbx.dir.map (fun (d : DirEntry) => if d.state = 1 then { d with state := 3 } else d), nextSeq := s.bbx.nextSeq }
    hlk := { reg := { maxE := s.hlk.reg.maxE } }
    boot := {
      por := true, vinGood := s.boot.vinGood, vbatKeep := s.boot.vbatKeep, brownFlag := s.boot.brownFlag
      brownCount := s.boot.brownCount, prevHalt := s.boot.prevHalt, shipLatch := s.boot.shipLatch, shipTime := s.boot.shipTime
      shipTicks := s.boot.shipTicks, lastSeqKept := s.boot.lastSeqKept, woke := s.boot.woke
      scanned := s.boot.scanned || s.boot.serviceEnded }
    balls := { rstLow := s.balls.rstLow, shev := s.balls.shev }
    seq := { pgBall := s.seq.pgBall, dnBall := (s.seq.dnBall.1, 0), upBall := (s.seq.upBall.1, 0) }
    wdg := { wdi := s.wdg.wdi, wdiHeld := s.wdg.wdi }
    ports := { refclk := s.ports.refclk }
    free := s.free
    pending := s.pending }

/-- Without VBAT_KEEP the wake domain holds nothing (R99, R591). -/
def State.wakeForget (s : State) : State :=
  { s with
    hlk := { s.hlk with reg := { s.hlk.reg with maxE := 0 } }
    boot := { s.boot with
      brownFlag := false, brownCount := 0, prevHalt := false, shipLatch := false, shipTime := 0, shipTicks := 0, lastSeqKept := none, woke := false } }

/-- Structures whose NVM write a power-on reset cuts short (R544): 0 a BAKE, 1 a Strata commit, 2 a wipe, 4 a record of the counters. -/
def State.tornNow (s : State) : List Nat :=
  (if s.nvm.bake.isSome then [0] else []) ++ ((s.bbx.dir.toList.filter (fun d => d.state == 1)).map (fun _ => 1)) ++
    (if s.nvm.wipe.isSome then [2] else []) ++ (if s.nvm.waiting.isEmpty then [] else [4])

/-- A wipe cut short leaves zeros below a 1 KiB step and old data above it (R544). -/
def State.wipeCut (s : State) (steps : Nat) : State :=
  match s.nvm.wipe with
  | none => s
  | some (n, _) => if steps = 0 then s else (s.nvmClear (0x10000 * n) (0x400 * steps)).kilnWiped n

/-- POWER_ON_RESET_ASSERT (R99, R544): a wipe in progress had done `steps` of its 64 steps. -/
def execPowerOnResetAssert (steps : Fin 65) (s : State) : Host.Outcome State Fault Refusal :=
  if s.boot.por then done { s with boot := { s.boot with vinGood := false } }
  else
    let torn := s.tornNow
    let s := (s.wipeCut steps.val).powerOff
    let s := { s with
      nvm := { s.nvm with torn := torn }
      boot := { s.boot with vinGood := false, brownFlag := true, brownCount := min (s.boot.brownCount + 1) 0xFFFFFFFF } }
    done (if s.boot.vbatKeep then s else s.wakeForget)

/-- VIN_GOOD (R96). -/
def execVinGood (s : State) : Host.Outcome State Fault Refusal := done { s with boot := { s.boot with vinGood := true } }

/-- POWER_ON_RESET_RELEASE (R96, R34, R115, R595): the core regulator is in regulation, and this tick is tick 0. While the ship latch holds,
VIN good does not release it (R303). TEST_MODE is sampled in this tick. -/
def execPowerOnResetRelease (testMode : Bool) (s : State) : Host.Outcome State Fault Refusal :=
  if !s.boot.por ∨ !s.boot.vinGood ∨ s.boot.shipLatch then done s
  else
    let b := s.boot
    let s := s.powerOff
    let s := { s with boot := { s.boot with por := false, brownFlag := false, prevHalt := false, woke := false, testState := testMode } }
    let s := (s.set SYS_RST_CAUSE_CAUSE (if b.woke then 2 else if b.brownFlag then 1 else 0)).setB SYS_RST_CAUSE_PREV_HALT b.prevHalt
    let s := (s.set SYS_BROWNOUT_CNT_COUNT b.brownCount).set SYS_SUPPLY_STAT_GOOD (if b.vbatKeep then 35 else 3)
    done s.settle

/-- WAKE (R304): high for 10 ms on the check oscillator; the unit starts as from VIN good. -/
def execWake (s : State) : Host.Outcome State Fault Refusal :=
  if s.boot.por ∧ s.boot.shipLatch then
    done { s with boot := { s.boot with shipLatch := false, woke := true, shipTime := s.boot.shipTicks / 1000000 } }
  else done s

/-- VBAT_KEEP is lost (R99, R304): the wake domain forgets, the ship latch with it. -/
def State.keepLost (s : State) : State :=
  let s := { s.wakeForget with boot := { s.wakeForget.boot with vbatKeep := false } }
  s.iff (!s.boot.por) (fun s => (s.setBit SYS_SUPPLY_STAT_GOOD 5 false).set SYS_BROWNOUT_CNT_COUNT 0)

/-- VBAT_KEEP_LOSS (R304). -/
def execVbatKeepLoss (s : State) : Host.Outcome State Fault Refusal := done s.keepLost

/-- SUPPLY_BANK_CHANGE (R98, R115): supply `k` of `SYS_SUPPLY_STAT.GOOD` becomes good or stops being so; a VIO bank is found to be a 1.8 V or
a 3.3 V one when it becomes good. While VDD_SD is low both SGMII ports and the Helkar link are down. -/
def execSupplyBankChange (k : Fin 6) (good v33 : Bool) (s : State) : Host.Outcome State Fault Refusal :=
  if k.val = 5 then done (if good then
    { s with boot := { s.boot with vbatKeep := true } }.iff (!s.boot.por) (fun s => s.setBit SYS_SUPPLY_STAT_GOOD 5 true) else s.keepLost)
  else if s.boot.por ∨ s.bitOn SYS_SUPPLY_STAT_GOOD k.val = good then done s
  else
    let s := s.setBit SYS_SUPPLY_STAT_GOOD k.val good
    let s := s.iff (good && (k.val == 2 || k.val == 3)) (fun s => s.setBit SYS_SUPPLY_STAT_VIO_3V3 (k.val - 2) v33)
    let s := s.iff (decide (2 ≤ k.val)) (fun s => s.event .supplyBank 0 [k.val, if good then 1 else 0])
    let s := s.iff (k.val == 4) (fun s => (s.iff (!good) State.linkDown).ethShowAll)
    let s := s.iff (!good && k.val == 2) (fun s => s.resetBall false)
    let s := s.iff (!good && k.val == 3) (fun s => (s.cascBall true false).cascBall false false)
    let s := s.iff (good && k.val == 3) State.twbEval
    done s.settle

/-- ETH_LINK_CHANGE (R491): the link of a port goes up at a speed, or down; with it the outcome of duplicate address detection and of
SLAAC, which begins when firmware runs (R499). Without HL_REFCLK no link is up, and the Helkar link goes down (R594, log entry 83). -/
def execEthLinkChange (p : Fin 2) (line : EthLine) (speed : Fin 3) (dadFail : Bool) (slaac : Option (Fin 129)) (s : State) :
    Host.Outcome State Fault Refusal :=
  let s := s.setB HIF_ETH_STAT_LINK line.up p.val
  let s := s.iff (line.up && line.refclk) (fun s => (s.set HIF_ETH_STAT_SPEED speed.val p.val).setB HIF_IP6_STAT_DAD_FAIL dadFail p.val)
  let slaac : Vector (Option Nat) 2 := s.ports.slaac.set p (slaac.map (fun (n : Fin 129) => n.val))
  let s := { s with ports := { s.ports with slaac := slaac, refclk := line.refclk } }
  done (s.iff (!line.refclk) State.linkDown).ethShowAll.settle

/-! ### Straps (R101) -/

/-- STRAP_LATCH (R101): the samples of ticks 0 to 7; the last is latched. -/
def execStrapLatch (samples : Vector (BitVec 6) 8) (s : State) : Host.Outcome State Fault Refusal :=
  if s.boot.por ∨ s.boot.strapped ∨ s.tick < 7 then done s
  else
    let s := { s with boot := { s.boot with strapped := true } }
    let s := s.set SYS_STRAP_LATCHED (samples.get 7).toNat
    if samples.toList.all (fun x => x == samples.get 7) then done s.settle
    else
      let s := (s.setB SYS_STRAP_UNSTABLE true).event .strapUnstable 0 (samples.toList.map (fun x => (x.toNat : Int)))
      done s.settle

/-! ### Counters and the recorder's head (R441, R443, R446, R543) -/

/-- The slots of the event ring that hold anything. -/
def State.ringSlots (s : State) : List Nat :=
  ((s.mem.filter (fun p => decide (nvmBase + 0xE80000 ≤ p.1 ∧ p.1 < nvmBase + 0xF80000))).map (fun p => (p.1 - nvmBase - 0xE80000) / 32)).eraseDups

/-- The records of the ring with a valid CRC: sequence number and code. -/
def State.ringRecs (s : State) : List (Nat × Nat) :=
  s.ringSlots.filterMap (fun k =>
    let b := s.bytes (nvmBase + 0xE80000 + 32 * k) 32
    if ((b.drop 19).headD 0).toNat = crc8 (b.take 19 ++ b.drop 20) then some (leNat (b.take 4), leNat ((b.drop 4).take 2)) else none)

/-- The oldest visible record at start-up: the newest CLEARED record, else the oldest of the ring; an empty ring shows none. -/
def ringTail (recs : List (Nat × Nat)) (head : Nat) : Nat :=
  match ((recs.filter (fun r => r.2 == 0xF003)).map (fun r => r.1)).max? with
  | some t => t
  | none => ((recs.map (fun r => r.1)).min?).getD (head + 1)

/-- A time record of NVM, if it is valid: sequence, power-cycle count, operating time, ship time (R543). -/
def State.timeIn (s : State) (off : Nat) : Option (Nat × Nat × Nat × Nat) :=
  let b := s.bytes (nvmBase + off) 32
  let num := fun (o n : Nat) => leNat ((b.drop o).take n)
  if num 0x1C 4 = (crc32c (b.take 0x1C)).toNat then some (num 0 4, num 4 3, num 8 6, num 0x10 4) else none

/-- The newest valid record of a time ring. -/
def State.ringNewest (s : State) (base : Nat) : Option (Nat × Nat × Nat × Nat) :=
  ((List.range 16).filterMap (fun k => s.timeIn (base + 0x20 * k))).foldl (fun best r =>
    match best with
    | none => some r
    | some b => if b.1 < r.1 then some r else some b) none

/-- The counters are restored, the power-cycle count rises by 1, and it is saved (R441, R543). -/
def State.countersLoad (s : State) : State :=
  let a := s.ringNewest 0xFC0000
  let b := s.ringNewest 0xFC0200
  let best := match a, b with
    | some x, some y => some (if x.1 < y.1 then y else x)
    | some x, none => some x
    | none, y => y
  let r := best.getD (0, 0, 0, 0)
  let old := fun (x : Option (Nat × Nat × Nat × Nat)) => best.isSome && x.map (fun y => y.1) != some r.1
  let fix := fun (s : State) (bad : Bool) (base : Nat) =>
    s.iff bad (fun s => s.nvmWrite (base + 0x20 * (r.1 % 16)) (toWords (timeRecord r.1 r.2.1 r.2.2.1 r.2.2.2)))
  let s := fix (fix s (old a) 0xFC0000) (old b) 0xFC0200
  let s := ((s.setB TB_CNT_STAT_RESTORED best.isSome).setB TB_CNT_STAT_REPAIRED (old a || old b)).setB TB_CNT_STAT_BLANK best.isNone
  let ship := if s.get SYS_RST_CAUSE_CAUSE = 2 then s.boot.shipTime else r.2.2.2
  let pc := min (r.2.1 + 1) 16777215
  let s := ((s.set TB_PCYCLE_COUNT pc).set TB_SHIP_S_S ship).set TB_OPT_BOOT_LO_MS_LO (r.2.2.1 % 2 ^ 32)
  let s := s.set TB_OPT_BOOT_HI_MS_HI (r.2.2.1 / 2 ^ 32)
  let s := { s with evr := { s.evr with opBase := r.2.2.1, saveSeq := r.1 }, boot := { s.boot with shipTime := ship } }
  s.timeSave pc r.2.2.1 ship

/-- The recorder finds its head and makes its first record of the power cycle (R446, R440, R304). -/
def State.recorderLoad (s : State) : State :=
  let recs := s.ringRecs
  let head := ((recs.map (fun r => r.1)).max?).getD 0
  let lost := match s.boot.lastSeqKept with
    | some q => (q + 2 ^ 32 - head) % 2 ^ 32
    | none => 0xFFFFFFFF
  let s := (((s.set EVR_HEAD_SEQ head).set EVR_TAIL_SEQ (ringTail recs head)).set EVR_WRITTEN_SEQ head).set EVR_START_SEQ head
  let s := { (s.set EVR_LOST_PWR_COUNT lost) with evr := { s.evr with loaded := true } }
  s.recordOwn .recorderStart [(head : Int), lost, if s.get SYS_RST_CAUSE_CAUSE = 2 then (s.boot.shipTime : Int) else 0]

/-- Structures found torn are counted and recorded, each with its kind (R544). -/
def State.tornReport (s : State) (l : List Nat) : State :=
  let s := { s with nvm := { s.nvm with torn := [], tornAll := s.nvm.tornAll + l.length } }
  let s := (s.set NVM_PWRLOSS_TORN (min l.length 65535)).set NVM_PWRLOSS_TOTAL (min s.nvm.tornAll 65535)
  s.each l (fun s k => s.event .tornFound 0 [k])

/-! ### The Kiln load (R539, R76, R90, R399, R109) -/

/-- Class-C registers take the RWK bits of a record (R76). -/
def State.kilnRegsLoad (s : State) (regs : List (Nat × Word)) : State :=
  s.each allConfig (fun s a =>
    let m := bitsTyped [.rwk] a
    if m = 0 then s else s.setReg a ((s.reg a &&& ~~~m) ||| (look (fun _ => (0 : Word)) regs a &&& m)))

/-- Cells of the model's memory moved from one base to another. -/
def State.cellsTo (s : State) (l : List Host.Cell) (src dst : Nat) : State := s.each l (fun s p => s.setByte (p.1 - src + dst) p.2)

/-- The settings of a record (R535). -/
def State.kilnTake (s : State) (c : KilnCopy) : State :=
  let k := c.image
  let s := s.kilnRegsLoad k.regs
  let s := ((s.set CCK_REF_REF k.cckRef.toNat).set CCK_REF_BAKED_REF_BAKED k.cckRef.toNat).setB CCK_STAT_REF_VALID true
  let s := { s with cck := { s.cck with refs := k.refs, copy := s.configCopy, kiln := k.regs } }
  let s := s.cellsTo k.coefs runBase stagedBase
  let s := (s.cellsTo k.banks tblActive tblActive).cellsTo k.banks tblActive tblEdit
  let s := (s.cellsTo k.tables (strTblAct 0) (strTblAct 0)).cellsTo k.tables (strTblAct 0) (strTblEdit 0)
  let s := s.each (k.keys.zip (List.finRange 8)) (fun s q =>
    (s.setKey q.2 { words := q.1.1 }).setB SES_KEY_STAT_VALID q.1.2 q.2.val)
  let s := { s with evr := { s.evr with
      buckets := Vector.ofFn (fun i => match k.limiter[i.val]? with | some w => ({} : Bucket).write w | none => {}) } }
  let s := s.each k.entries (fun s e => s.entBaked e)
  ((s.set KLN_GEN_GEN c.gen).set KLN_LEN_LEN c.len).set KLN_FWVER_VER c.fwVer

/-- The default settings of slots 0 and 1 with a blank Kiln (R168). -/
def State.defaultSlots (s : State) : State :=
  s.each [0, 1] (fun s n =>
    let s := (s.setReg (LPS_CFG_LAW.at n) 1).setReg (LPS_SRC_MEAS.at n) (if n = 0 then 0x0100F001 else 0x0200F002)
    let s := ((s.set LPS_PERIOD_PERIOD 100 n).set LPS_PHASE_PHASE (50 * n) n).set LPS_REF_REF 540000 n
    s.each [(0x00, -100000), (0x04, 100000), (0x10, 0x08000000), (0x14, 0x00147AE1), (0x1C, 0x00CCCCCD), (0x20, 0x08000000), (0x24, 0x08000000)]
      (fun s (p : Nat × Int) => s.store (stagedBase + 0x400 * n + p.1) (BitVec.ofInt 32 p.2)))

/-- With no valid record, or with `KILN_IGNORE`, the Kiln is blank (R109). -/
def State.kilnBlank (s : State) : State := ((s.setB SYS_STAT_KILN_BLANK true).setB KLN_STAT_BLANK true).defaultSlots

/-- The copy that is loaded. -/
def State.kilnChoice (s : State) : Option (Fin 2) := if s.bitOn SYS_STRAP_LATCHED 2 then none else s.newestCopy

/-- What the blocks hold of the settings beside registers, with the references of their checks. -/
def State.kilnSpread (s : State) : State :=
  let x := s.lpt.line
  let s := s.setLine { x with refs := Vector.ofFn (fun b => crc32c (s.bankBytes b.val)) }
  let s := s.showTblCrc.showStrTblCrc
  { s with
    cnv := { s.cnv with period := s.get PWM_PERIOD_PERIOD }
    evr := { s.evr with shared :=
      { s.evr.shared with rate := s.get EVR_SHARED_RATE, burst := s.get EVR_SHARED_BURST, level := 1000 * s.get EVR_SHARED_BURST } } }

/-- Sharing curves are reloaded; one with a bad CRC is emptied (R248, R544). -/
def State.curvesLoad (s : State) : State × Nat :=
  (List.finRange 24).foldl (fun p n => let q := p.1.loadCurve n; (q.2, if q.1 then p.2 + 1 else p.2)) (s, 0)

/-- What the Kiln load does, having taken `us` microseconds (R539). -/
def State.kilnRead (s : State) (us : Nat) : State :=
  let s := s.countersLoad.recorderLoad
  let a := s.nvm.copies.get 0
  let b := s.nvm.copies.get 1
  let s := ((s.set KLN_LOAD_VALID ((if a.valid then 1 else 0) + if b.valid then 2 else 0)).set KLN_LOAD_LOAD_US us).setB
    KLN_STAT_ONE_COPY (a.valid != b.valid)
  let s := (s.setB KLN_STAT_IGNORED (s.bitOn SYS_STRAP_LATCHED 2)).setB KLN_STAT_FORMAT_UNKNOWN
    ((a.magicOk && !a.formatOk) || (b.magicOk && !b.formatOk))
  let s := match s.kilnChoice with
    | some k => (s.kilnTake (s.nvm.copies.get k)).set KLN_LOAD_COPY k.val
    | none => s.kilnBlank
  let p := s.kilnSpread.curvesLoad
  let s := p.1.tornReport (p.1.nvm.torn ++ List.replicate p.2 3)
  s.iff s.boot.scanned (fun s => s.event .scanEnded)

/-- KILN_LOAD (R539): the load took `us` microseconds. -/
def execKilnLoad (us : BitVec 16) (s : State) : Host.Outcome State Fault Refusal :=
  if s.boot.por ∨ s.boot.testState ∨ !s.boot.strapped ∨ s.boot.kilnLoaded then done s
  else
    let s := s.kilnRead us.toNat
    let s := { s with
      cck := { s.cck with first := some (s.tick + 1) }
      boot := { s.boot with kilnLoaded := true, kilnAt := s.tick, scanned := false, beginAt := some (s.tick + 1) } }
    let s := ((s.stamp SYS_T_KILN_TICK).setBit SYS_BOOT_STAT_DONE 0 true).showSelector
    done (s.ethShowAll.settle)

/-- The boot check begins in the tick after the Kiln load (R112). -/
def State.bootTick (s : State) : State :=
  if s.due s.boot.beginAt then ({ s with boot := { s.boot with beginAt := none } }).bootStart.settle else s

/-! ### Tick g (R106, R107, R168, R473, R301) -/

/-- A message that came in [g − 1,000, g). -/
def State.heardLately (s : State) (t : Option Nat) : Bool :=
  match t with
  | some t => decide (s.tick ≤ t + 1000 ∧ t < s.tick)
  | none => false

/-- The objects that a BEACON, or a POLL that shows this unit FAILED or FENCED, gives to the other unit (R473). -/
def State.ownElsewhere (s : State) : Own :=
  let view := if s.isB then s.get HLK_REG_VIEW_B else s.get HLK_REG_VIEW_A
  let moved := s.heardLately s.hlk.regAt && (view == 2 || view == 3)
  match s.hlk.beacon with
  | some b =>
    if s.heardLately s.hlk.beaconAt then
      ⟨b.phases.toNat, b.fuses.toNat ||| (if moved then 0xFF else 0), b.strings.toNat ||| (if moved then 0xFF else 0), b.resets.toNat,
       b.rails.toNat, b.chans.toNat ||| (if moved then 0xFFFF else 0)⟩
    else if moved then ⟨0, 0xFF, 0xFF, 0, 0, 0xFFFF⟩ else Own.none
  | none => if moved then ⟨0, 0xFF, 0xFF, 0, 0, 0xFFFF⟩ else Own.none

/-- `a` without the objects of `b`. -/
def Own.minus (a b : Own) : Own :=
  let d := fun (x y : Nat) => x - (x &&& y)
  ⟨d a.ph b.ph, d a.ef b.ef, d a.str b.str, d a.rst b.rst, d a.rail b.rail, d a.ch b.ch⟩

/-- The effective map at tick g (R106, R473): a single unit owns every object; a unit of a pair its part of the baked map, and nothing with a
blank Kiln. -/
def State.ownAtStart (s : State) : Own :=
  if s.unitRole = 3 then Own.none
  else if s.solo then Own.all
  else if s.on SYS_STAT_KILN_BLANK then Own.none
  else s.ownConfigured.minus s.ownElsewhere

/-- The primary before an epoch: as a BEACON or a POLL of the last 1,000 ticks shows it, else the preferred unit. -/
def State.primaryAtStart (s : State) : Bool :=
  let other := match s.hlk.beacon with
    | some b => s.heardLately s.hlk.beaconAt && b.primary
    | none => false
  if s.solo || s.unitRole == 3 || other then false
  else if s.heardLately s.hlk.regAt then s.on HLK_REG_VIEW_PRIMARY_B == s.isB
  else s.on HLK_CFG_PREF == s.isB

/-- The effective map and the join state at tick g. -/
def State.mapAtStart (s : State) : State :=
  let o := s.ownAtStart
  let s := (((s.set HLK_EFF_PH_OWN o.ph).set HLK_EFF_EF_EF o.ef).set HLK_EFF_EF_STR o.str).set HLK_EFF_EF_RST o.rst
  let s := (s.set HLK_EFF_RAIL_OWN o.rail).set HLK_EFF_CH_OWN o.ch
  let s := s.iff (s.inPair && !s.heardLately s.hlk.beaconAt && !s.heardLately s.hlk.regAt) (fun s => s.inc HLK_DOUBLE_COUNT)
  let s := (s.setB HLK_STATE_PRIMARY s.primaryAtStart).set HLK_STATE_JOIN (if s.solo || s.unitRole == 3 then 0 else if s.linkUp then 2 else 1)
  s.each ((List.range 1024).filter (fun n => s.entState n != 0)) (fun s n =>
    s.setEnt n 0x1E 1 (if s.solo then 0 else if o.ch.testBit (n / 64) == s.isB then 1 else 0))

/-- What is found live in the shelf (R106): fuse channels with EF_VOUT at or above their output-good threshold, strings within 0.5 V of their
bus half, and whether every enabled rail has PG high and its voltage within its fault levels. -/
structure Live where
  ef : Nat
  str : Nat
  rails : Bool
  deriving DecidableEq, Repr

/-- What the measurements show live, once the front end converts. -/
def State.liveNow (s : State) : Live :=
  { ef := maskOf (((List.finRange 8).filter s.outputGood).map (fun n => n.val))
    str := maskOf (((List.finRange 8).filter (fun n =>
      match s.strV n, s.busV (s.get BAT_STR_CFG_HALF n.val) with
      | some a, some b => decide ((a - b).natAbs ≤ 5000)
      | _, _ => false)).map (fun n => n.val))
    rails := s.seqRails.all (fun n => s.railPg n &&
      (match (s.rail n).v with | some v => !s.outFault n false v | none => !s.on SEQ_RAIL_CFG_MON_EN n.val)) }

/-- The live objects that are adopted: owned, enabled, and where `SYS_ADOPT_CTRL` has its bit (R106). -/
def State.adopts (s : State) (l : Live) : Live :=
  let some_ := fun (ok : Bool) (m : Nat) (p : Nat → Bool) => if ok then maskOf ((maskBits 8 m).filter p) else 0
  { ef := some_ (s.on SYS_ADOPT_CTRL_EF_EN) l.ef (fun n => s.on EFU_CH_CFG_EN n && s.fusesOwned.testBit n)
    str := some_ (s.on SYS_ADOPT_CTRL_STR_EN) l.str (fun n => s.bitOn BAT_CFG_STR_EN n && s.strsOwned.testBit n)
    rails := s.on SYS_ADOPT_CTRL_RAIL_EN && l.rails && !s.seqRails.isEmpty && s.seqRails.all s.railPg }

/-- Every power-stage output of every owned object is decided (R106), in tick g or at the release of the output hold (R107). A blank Kiln and
a Registrar drive none (R107, R109). -/
def State.decideAll (s : State) (l : Live) : State :=
  let s := { s with boot := { s.boot with decided := true } }
  if !s.outputsOn then s
  else
    let a := s.adopts l
    let s := { s with boot := { s.boot with unitOkAt := some (s.tick + 1) } }
    let s := (s.set SYS_ADOPT_EF_STR a.str).iff a.rails (fun s =>
      s.set SYS_ADOPT_RAIL_RAIL (maskOf ((s.seqRails.filter s.ownRail).map (fun n => n.val))))
    let s := s.each (maskBits 8 a.str) (fun s n => s.strClose (Fin.ofNat 8 n))
    let s := ((s.efuStart a.ef).efuEval).seqStart a.rails
    s.seqTail

/-- The loop configuration of the Kiln is admitted by the checks of R164; a refusal leaves every slot inactive (R168). -/
def State.loopsAtStart (s : State) : State :=
  if s.unitRole = 3 then s
  else
    let w := s.loopView
    let j := s.judgeAdmission w
    let s := s.admitResult j.1 j.2
    if j.1 = 2 then s.admitView w else s.event .loopsRefused 0 [j.1, j.2]

/-- The rectifiers with a baked binding join (R108, R399); a binding without its entry is none. -/
def State.bindingsAtStart (s : State) : State :=
  s.each ((List.finRange 24).filter (fun n => s.on SHR_RECT_CFG_BOUND n.val)) (fun s n =>
    if s.entState (s.get SHR_RECT_CFG_PARTNER n.val) = 0 then s.setB SHR_RECT_CFG_BOUND false n.val else s.rectJoin n)

/-- The strings at tick g (R301, R304): restored from their records; after a ship time of `REST_MIN` a wake rest point is awaited. -/
def State.stringsAtStart (s : State) : State :=
  let s := ({ s with bat := { s.bat with tblNew := 3 } }).tblTake
  let rest := s.get SYS_RST_CAUSE_CAUSE == 2 && decide (60 * s.get BAT_REST_REST_MIN ≤ s.boot.shipTime)
  s.each s.confStrs (fun s n =>
    let s := s.strRestore n
    s.setStr n { s.str n with wakeRest := rest })

/-- PG of every rail as it stands in tick g. -/
def State.pgAtStart (s : State) (pg : Nat) : State :=
  s.each (List.finRange 24) (fun s n =>
    let high := pg.testBit n.val
    let s := s.pgBallTo n (high == s.on SEQ_RAIL_CFG_POL n.val)
    (s.setBit SEQ_PG_IN_MASK n.val high).setRail n { s.rail n with pgSince := if high then some s.tick else none, pgFor := (high, s.tick) })

/-- GREENWARE_START (R104, R106 to R109, R221): tick g; the commanded setpoint becomes `CNV_VSET`. The operands say what is live in the shelf in this tick, before the front end has converted
anything (R106): fuse channels, strings, PG inputs, and whether every enabled rail lies within its fault levels. -/
def execGreenwareStart (ef str : BitVec 8) (pg : BitVec 24) (rails : Bool) (s : State) : Host.Outcome State Fault Refusal :=
  if s.boot.por ∨ !s.boot.kilnLoaded ∨ s.boot.g.isSome then done s
  else
    let s := { s with power := .normal, powerSince := s.tick, boot := { s.boot with g := some s.tick }, cap := { s.cap with lastDecision := s.tick } }
    let s := ((s.stamp SYS_T_GW_TICK).setBit SYS_BOOT_STAT_DONE 1 true).mapAtStart
    let s := s.iff (s.unitRole == 3) (fun s => { s with hlk := { s.hlk with reg := { s.hlk.reg with since := some s.tick } } })
    let s := ((s.setI CNV_TGT_SETPOINT (s.get CNV_VSET_VSET)).loopsAtStart.stringsAtStart).refStart
    let s := (s.twbEval).bindingsAtStart
    let s := s.pgAtStart pg.toNat
    let s := if s.bitOn SYS_STRAP_LATCHED 3 then s else s.decideAll { ef := ef.toNat, str := str.toNat, rails := rails }
    done (s.calStart.tryFull.settle)

/-- `SYS_OUT_HOLD.RELEASE` (R107, R115): acts as tick g for the outputs; ignored when no hold is in force. -/
def State.holdRelease (s : State) : State :=
  if s.boot.g.isSome && s.bitOn SYS_STRAP_LATCHED 3 && !s.boot.decided then (s.decideAll s.liveNow).settle else s

/-- OUT_HOLD_RELEASE (R107). -/
def execOutHoldRelease (r : Requester) (s : State) : Host.Outcome State Fault Refusal :=
  done (s.gate r SYS_OUT_HOLD_RELEASE.addr State.holdRelease)

/-- JTAG_EXTEST (R596): the boundary cells take the balls until the next power-on reset. -/
def execJtagExtest (s : State) : Host.Outcome State Fault Refusal :=
  if s.boot.por then done s else done { s with boot := { s.boot with serviceEnded := true, unitOkLow := true } }

end Sys2Proof.Machine
end

