-- ==== Sys2Proof/Machine/Access.lean ====
section
/-! DEFINITION. Accesses of words (R69 to R84): what each word of the address space reads as and what a write of it does, with the ports that
carry them: SPI frames (R489, R490) and the READ and WRITE datagrams of PRAX (R495). -/

namespace Sys2Proof.Machine

/-! ### Registers kept for each source, and latches (R51, R73) -/

/-- Registers of which each source has its own copy (R139, R414, R433, R451, R533). -/
def perSource (a : Nat) : Bool :=
  decide (0x60074 ≤ a ∧ a ≤ 0x6009C) || [0x10040, 0x18058, 0x1C0B4, 0x2C1B0, 0x2C1B4, 0x2C1B8].contains a

/-- Where the register at `a` stands for a source. -/
def homeOf (src : Src) (a : Nat) : Nat := if perSource a then a + 0x1000000 * (1 + src.ix) else a

/-- The registers a read of `a` latches for its source. -/
def latchedBy (a : Nat) : List Nat :=
  if a = 0x14040 then [0x14044, 0x14048, 0x14060, 0x14064, 0x14068]
  else if a = 0x18048 then [0x1804C, 0x18050]
  else if [0x48, 0x14084, 0x1408C, 0x64084, 0x6408C, 0x640BC, 0x68074, 0x68094, 0x700E0].contains a then [a + 4]
  else if 0x2C0E0 ≤ a ∧ a < 0x2C160 ∧ (a - 0x2C0E0) % 0x10 = 0 then [a + 4]
  else if 0x500A4 ≤ a ∧ a < 0x502A4 ∧ (a - 0x500A4) % 0x40 = 0 then [a + 4]
  else if 0x600A0 ≤ a ∧ a < 0x60120 ∧ (a - 0x600A0) % 8 = 0 then [a + 4]
  else []

/-- Registers that are read as they were latched. -/
def latched (a : Nat) : Bool :=
  (latchedBy (a - 4)).contains a || (latchedBy 0x14040).contains a || (latchedBy 0x18048).contains a

/-- Latches the registers that a read of `a` takes with it. -/
def State.latch (s : State) (src : Src) (a : Nat) : State :=
  s.each (latchedBy a) (fun t b => t.setReg (b + 0x1000000 * (8 + src.ix)) (s.view b))

/-- The value a register read returns to a source. -/
def State.regRead (s : State) (src : Src) (a : Nat) : Word :=
  if latched a then s.reg (a + 0x1000000 * (8 + src.ix))
  else if perSource a then s.reg (homeOf src a) &&& ~~~bitsTyped [.wo, .cmd] a
  else s.view a

/-! ### The memory windows (R433, R449, R533) -/

/-- The event window: a record in the queue stands in place of the ring's copy; what is not visible reads 0 (R449). -/
def State.eventRead (s : State) (off : Nat) : Word :=
  let head := s.get EVR_HEAD_SEQ
  let k := off / 32
  let d := (head % 32768 + 32768 - k) % 32768
  let seq := (head + 2 ^ 32 - d) % 2 ^ 32
  if (head + 1 + 2 ^ 32 - s.get EVR_TAIL_SEQ) % 2 ^ 32 ≤ d then 0
  else match s.evr.queue.find? (fun r => r.seq == seq) with
    | some r => BitVec.ofNat 32 (leNat ((r.bytes.drop (off % 32)).take 4))
    | none => s.nvmWord (0xE80000 + off)

/-- The black-box window for a source (R433). -/
def State.boxRead (s : State) (src : Src) (off : Nat) : Word :=
  let o := s.get (srcField src BBX_WIN_CTRL_PAGE) * 2 ^ 20 + off
  match s.get (srcField src BBX_WIN_CTRL_SRC) with
  | 0 => if o < topSize then s.load (topBase + o) else 0
  | 1 => if o < subSize then s.load (subBase + o) else 0
  | 2 =>
    let d := s.bbx.dir.get (Fin.ofNat 16 (s.get (srcField src BBX_WIN_CTRL_REC)))
    BitVec.ofNat 32 (leNat ((List.range 4).map (fun i =>
      if o + i < d.len then s.byte (nvmBase + sectorOffset d.sectors (o + i)) else 0)))
  | _ => 0

/-- Whether an NVM offset lies in section 5 of a Kiln record, which holds keys. -/
def State.keySpot (s : State) (off : Nat) : Bool :=
  let base := if off < 0xFA0000 then 0xF80000 else 0xFA0000
  let len := fun (k : Nat) => (s.nvmWord (base + 0x20 + 4 * k)).toNat
  let from_ := base + 64 + ((List.range 5).map len).sum
  decide (0xF80000 ≤ off ∧ off < 0xFC0000 ∧ from_ ≤ off ∧ off < from_ + len 5)

/-- The NVM window for a source; key material reads 0 (R533). -/
def State.nvmRead (s : State) (src : Src) (off : Nat) : Word :=
  let o := s.get (srcField src NVM_WIN_PAGE) * 0x800000 + off
  if s.keySpot o then 0 else s.nvmWord o

/-! ### One word read (R69 to R73) -/

/-- What an accepted read does and returns. -/
def State.wordTake (s : State) (src : Src) (a : Nat) : State × Word :=
  match target a with
  | .reg b _ =>
    let t :=
      if b = EVR_HEAD_SEQ.addr then some (s.headRead src)
      else if b = LPT_TBL_DATA_DATA.addr then some (s.tblData none)
      else if b = BAT_TBL_DATA_DATA.addr then some s.tblRead
      else none
    (match t with
      | some t => (t, BitVec.ofNat 32 (t.ports.answer.headD 0))
      | none => (s.latch src b, s.regRead src b))
  | .reserved _ _ => (s, 0)
  | .mailbox off => (s, s.load (0x100000 + off))
  | .blackBox off => (s, s.boxRead src off)
  | .coef off => (s, BitVec.ofNat 32 (s.coefRead off))
  | .catalogue off => (s, s.load (0x380000 + off))
  | .events off => (s, s.eventRead off)
  | .nvm off => (s, s.nvmRead src off)
  | .unmapped => (s, 0)

/-- One word read: the state, the word and the status code of R490. A refused read returns 0 (R71). -/
def State.wordRead (s : State) (r : Requester) (a : Nat) : State × Word × Nat :=
  match s.readError r a with
  | some e => (s.refuse r a e, 0, e.code)
  | none => let p := (s.touch r).wordTake (s.srcOf r) a; (p.1, p.2, 0)

/-- A read as a command: the word is what it answers. -/
def State.readCmd (s : State) (r : Requester) (a : Nat) : State :=
  if !s.servesFor r then s else let p := s.wordRead r a; p.1.replyTo r [p.2.1.toNat]

/-- TICK_LATCH_READ (R51). -/
def execTickLatchRead (r : Requester) (s : State) : Host.Outcome State Fault Refusal := done (s.readCmd r TB_TICK_LO_TICK_LO.addr)

/-- MULTIWORD_LATCH_READ (R73). -/
def execMultiwordLatchRead (r : Requester) (a : Word) (s : State) : Host.Outcome State Fault Refusal := done (s.readCmd r a.toNat)

/-! ### Commands that a register write gives (R76, R82) -/

/-- The state a command leaves. -/
def State.run (s : State) (b : Bool) (f : State → Host.Outcome State Fault Refusal) : State :=
  if b then (match f s with | .next t => t | _ => s) else s

/-- A CMD bit, and a WO value, of a word written. -/
def bitIn (w : Word) (f : Field) : Bool := bitsOf w f.lo 1 == 1
def valIn (w : Word) (f : Field) : Nat := bitsOf w f.lo f.width

/-- The role that the commands of a word need beyond R487's for their register. -/
def commandNeed (a : Nat) (w : Word) : Role :=
  let high := if a = SYS_RESET_CMD_KEY.addr then bitIn w SYS_RESET_CMD_CORE_RESTART
    else if a = EVR_CMD_CLEAR.addr then bitIn w EVR_CMD_CLEAR
    else if a = BBX_CMD_REC.addr then bitIn w BBX_CMD_DELETE
    else if a = BAT_SHIP_CMD_KEY.addr then bitIn w BAT_SHIP_CMD_SHIP
    else if a = SAF_CMD_CORE_RELEASE.addr then bitIn w SAF_CMD_CORE_RELEASE
    else if a = HLK_CMD_MIGRATE.addr then w.toNat % 16 != 0
    else if a = MBX_IN_CMD_CH.addr ∨ a = MBX_OUT_CMD_CH.addr then mailboxSecure (mbxCh w).val && bitsOf w 8 3 != 0
    else false
  if high then .curator else .none

/-- Commands of pages 0x00 to 0x0E: each bit set gives its command, in ascending order of the bits. -/
def State.commandLow (s : State) (r : Requester) (a : Nat) (w : Word) : State :=
  match a / 0x4000 with
  | 0x00 => ((s.run (a == SYS_CAL_CMD_RETRY.addr && bitIn w SYS_CAL_CMD_RETRY) (execCalRetryCmd r)).run
      (a == SYS_OUT_HOLD_RELEASE.addr && bitIn w SYS_OUT_HOLD_RELEASE) (execOutHoldRelease r)).run
      (a == SYS_RESET_CMD_KEY.addr && bitIn w SYS_RESET_CMD_CORE_RESTART) (execCoreRestart r w)
  | 0x01 => s.run (bitIn w CCK_CMD_COMMIT) (execCckCommit r)
  | 0x02 =>
    if a = SES_KEY_SEL_SLOT.addr then s.keySelWrite w
    else if a = SES_KEY_DATA_DATA.addr then s.keyDataWrite w
    else if a = SES_OPEN_SLOT.addr then s.sesOpenWrite w
    else s.respWrite ((a - SES_RESP_RESP.addr) / 4) w
  | 0x03 => s.run (bitIn w KLN_CMD_BAKE) (execBake r)
  | 0x04 => s.wipeCmd w
  | 0x06 => (s.run (bitIn w EVR_CMD_CLEAR) (execClear r)).run (bitIn w EVR_CMD_INJECT) (execInject r)
  | 0x07 =>
    let k := Fin.ofNat 16 (valIn w BBX_CMD_REC)
    (((s.run (bitIn w BBX_CMD_TRIGGER) (execBbxTriggerCmd r)).run (bitIn w BBX_CMD_PIN) (execPin r k)).run
      (bitIn w BBX_CMD_UNPIN) (execUnpin r k)).run (bitIn w BBX_CMD_DELETE) (execDelete r k)
  | 0x08 => if bitsOf w 8 3 = 0 then s else s.mbxWrite r (a == MBX_OUT_CMD_CH.addr) w
  | 0x0C =>
    if a = LPE_SLOT_CMD_SLOT.addr then
      let n := Fin.ofNat 64 (valIn w LPE_SLOT_CMD_SLOT)
      (s.run (bitIn w LPE_SLOT_CMD_CLEAR_FAULT) (execLoopClearFault r n)).run (bitIn w LPE_SLOT_CMD_RESET_STATE) (execLoopResetState r n)
    else
      let s := (s.run (bitIn w LPE_CMD_ADMIT) (execLpeAdmit r)).run (bitIn w LPE_CMD_DISCARD) (execLpeDiscard r)
      s.run (bitIn w LPE_CMD_LANE_TEST) (fun s => let d := s.draw; execLaneTest r (BitVec.ofInt 5 d.1) d.2)
  | 0x0E =>
    let s := ((s.run (bitIn w LPT_CMD_TUNE_START) (execTuneStart r)).run (bitIn w LPT_CMD_TUNE_ABORT) (execTuneAbort r)).run
      (bitIn w LPT_CMD_TUNE_APPLY) (execTuneApply r)
    let s := s.run (bitIn w LPT_CMD_TUNE_REPROPOSE) (execTuneRepropose r)
    (s.run (valIn w LPT_CMD_TBL_COMMIT != 0) (execLptTblCommit r (BitVec.ofNat 8 (valIn w LPT_CMD_TBL_COMMIT)))).run
      (valIn w LPT_CMD_RC_CLEAR != 0) (execRcClear r (BitVec.ofNat 4 (valIn w LPT_CMD_RC_CLEAR)))
  | _ => s

/-- A write of `BAT_CMD`: OPEN with CLOSE acts as OPEN, and the CLOSE is refused (R297). -/
def State.batCommand (s : State) (r : Requester) (w : Word) : State :=
  let n := Fin.ofNat 8 (valIn w BAT_CMD_STR)
  let s := s.run (bitIn w BAT_CMD_OPEN) (execBatOpen r n)
  let s := if bitIn w BAT_CMD_OPEN then s.iff (bitIn w BAT_CMD_CLOSE) (fun s => s.event .batCloseRefused (objRef 4 n.val))
    else s.run (bitIn w BAT_CMD_CLOSE) (execBatClose r n)
  ((s.run (bitIn w BAT_CMD_RESEED) (execBatReseed r n)).run (bitIn w BAT_CMD_RESTORE) (execBatRestore r n)).run
    (bitIn w BAT_CMD_TBL_COMMIT) (execBatTblCommit r)

/-- Commands of pages 0x10 to 0x1D. -/
def State.commandHigh (s : State) (r : Requester) (a : Nat) (w : Word) : State :=
  match a / 0x4000 with
  | 0x10 => ((s.run (bitIn w CNV_CMD_SLEW) (execSlew r w)).run (bitIn w CNV_CMD_CLEAR_G0) (execClearG r 0)).run (bitIn w CNV_CMD_CLEAR_G1) (execClearG r 1)
  | 0x11 =>
    let n := Fin.ofNat 8 (valIn w EFU_CMD_CH)
    let s := ((s.run (bitIn w EFU_CMD_ON) (execEfuOn r n)).run (bitIn w EFU_CMD_OFF) (execEfuOff r n)).run (bitIn w EFU_CMD_CLEAR) (execEfuClear r n)
    ((s.run (bitIn w EFU_CMD_FEED_A) (execFeedA r)).run (bitIn w EFU_CMD_FEED_B) (execFeedB r)).run (bitIn w EFU_CMD_FEED_AUTO) (execFeedAuto r)
  | 0x12 => ((s.run (bitIn w SEQ_CMD_UP && !bitIn w SEQ_CMD_DOWN) (execSeqUp r)).run (bitIn w SEQ_CMD_DOWN) (execSeqDown r)).run
      (bitIn w SEQ_CMD_CLEAR) (execSeqClear r)
  | 0x13 => (s.run (bitIn w RMN_CMD_TEST) (execRmnTest r)).run (bitIn w RMN_CMD_TEST_END) (execRmnTestEnd r)
  | 0x14 => if a = BAT_SHIP_CMD_KEY.addr then s.shipCmd w else s.batCommand r w
  | 0x15 =>
    let n := Fin.ofNat 32 (valIn w SHR_CMD_RECT)
    (((s.run (bitIn w SHR_CMD_UNBIND) (execRectUnbind r n)).run (bitIn w SHR_CMD_CLEAR_CURVE) (execClearCurve r n)).run
      (bitIn w SHR_CMD_ALLOC_NOW) (execAllocNow r)).run (bitIn w SHR_CMD_RETRY) (execRectRetry r n)
  | 0x16 => (s.run (bitIn w CAP_CMD_TEST) (execCapTest r)).run (bitIn w CAP_CMD_PROBE_NOW) (execProbeNow r)
  | 0x17 =>
    let c := Fin.ofNat 16 (valIn w TWB_CMD_CH)
    ((s.run (bitIn w TWB_CMD_CLEAR) (execTwbClear r c)).run (bitIn w TWB_CMD_RESET) (execTwbReset r c)).run (bitIn w TWB_CMD_HN_FLUSH) (execHnFlush r)
  | 0x18 => (s.run (bitIn w XAC_CMD_PASS) (execXacPass r)).run (bitIn w XAC_CMD_DEACCEDE) (execDeaccede r (Fin.ofNat 1024 (valIn w XAC_CMD_ENTRY)))
  | 0x19 => (((s.run (bitIn w HLK_CMD_MIGRATE) (execPairMigrate r)).run (bitIn w HLK_CMD_REVERT) (execPairRevert r)).run
      (bitIn w HLK_CMD_REJOIN) (execPairRejoin r)).run (bitIn w HLK_CMD_FENCE_SELF) (execFenceSelf r)
  | 0x1A => s.run (bitIn w CHN_CMD_RESET_LINK) (execResetLink r w)
  | 0x1B => ((s.run (bitIn w UPD_CMD_ACTIVATE) (execUpdActivate r)).run (bitIn w UPD_CMD_DISCARD) (execUpdDiscard r)).run (bitIn w UPD_CMD_REVERT) (execUpdRevert r)
  | 0x1C => s.mdioCmd ((a - HIF_MDIO_CMD_PHY.addr) / 0x40) w
  | 0x1D => s.run (bitIn w SAF_CMD_CORE_RELEASE) (execCoreRelease r)
  | _ => s

/-! ### One word written (R69 to R84) -/

/-- A write of `XAC_HREQ` by a source: fields outside their ranges keep their values (R78), and SUBMIT submits what the register then
holds (R414). -/
def State.hreqWrite (s : State) (r : Requester) (row : RegRow) (al : Nat) (w : Word) : State :=
  let src := s.srcOf r
  let a := XAC_HREQ_ENTRY.addr
  let s := (s.fieldsWrite r row a (homeOf src a) al w).1
  if al ≤ 1 ∧ bitIn w XAC_HREQ_SUBMIT then s.hostSubmit src (s.reg (homeOf src a)) else s

/-- A write of a class-D register. -/
def State.dataWrite (s : State) (r : Requester) (row : RegRow) (a al : Nat) (w : Word) : State :=
  let src := s.srcOf r
  let home := homeOf src a
  let new := aliasWord (row.mask [.rw]) (s.regRead src a) w al
  if a = EVR_RL_CFG_CODE.addr then s.rlWrite r new
  else if a = LPT_TBL_DATA_DATA.addr then s.tblData (some new)
  else if a = BAT_TBL_DATA_DATA.addr then s.tblWrite new
  else if a = AFE_MON_SEL_INPUT.addr then s.monSelect src new
  else if a = XAC_HREQ_ENTRY.addr then s.hreqWrite r row al w
  else
    let s := (s.fieldsWrite r row a home al w).1
    let s := s.iff (a == MBX_DB_IN_DB.addr && al == 1 && w != 0) (fun s => s.incWrap MBX_DB_CNT_IN)
    s.iff (a == MBX_DB_OUT_DB.addr && al == 1 && w != 0) (fun s => s.incWrap MBX_DB_CNT_OUT)

/-- An accepted write of the register at `a`, by class (R77, R81 to R83). -/
def State.regWrite (s : State) (r : Requester) (a al : Nat) (w : Word) : State :=
  match findRow a with
  | none => s
  | some row =>
    if row.mask [.rw, .rwk, .cmd, .wo] = 0 then s.iff (al != 0) (fun s => s.inc SYS_ALIAS_IGN_IGN)
    else match row.cls with
      | .s => s
      | .c => (s.classC r row a al w).1
      | .d => s.dataWrite r row a al w
      | .k => if 2 ≤ al then s else if a / 0x4000 < 0x10 then s.commandLow r a w else s.commandHigh r a w

/-- What an accepted write does. -/
def State.wordPut (s : State) (r : Requester) (a : Nat) (w : Word) : State :=
  match target a with
  | .reg b al => s.regWrite r b al w
  | .reserved _ al => s.iff (al != 0) (fun s => s.inc SYS_ALIAS_IGN_IGN)
  | .mailbox off => s.mbxData r off w
  | .coef off => s.coefWrite r off w
  | .catalogue off => s.scheduleWrite r off w
  | _ => s

/-- The access error of a write with its data (R71, R163, R397, R487, R507, R509). -/
def State.putError (s : State) (r : Requester) (a : Nat) (w : Word) : Option AccErr :=
  match s.writeError r a with
  | some e => some e
  | none => match target a with
    | .reg b al =>
      if al ≤ 1 ∧ !(s.roleOf r).covers (commandNeed b w) then some .role
      else if (b = MBX_IN_CMD_CH.addr ∨ b = MBX_OUT_CMD_CH.addr) ∧ al ≤ 1 ∧ mbxForeign (mbxDevice r) (b == MBX_OUT_CMD_CH.addr) w then some .role
      else none
    | .catalogue off => if scheduleOff off then none else some .unmapped
    | _ => none

/-- A write into a FULL mailbox channel is refused where its command or data finds it so (R509). -/
def State.fullError (s : State) (r : Requester) (a : Nat) (w : Word) : Bool :=
  match target a with
  | .mailbox off => (match mailboxSpot (off % 0x8000) with
      | some (c, _) => s.mbxFull (decide (0x8000 ≤ off)) (Fin.ofNat 32 c)
      | none => false)
  | .reg b al => (b == MBX_IN_CMD_CH.addr || b == MBX_OUT_CMD_CH.addr) && decide (al ≤ 1) && bitsOf w 8 1 == 1 &&
      s.mbxFull (b == MBX_OUT_CMD_CH.addr) (mbxCh w) && !s.mbxYields r (b == MBX_OUT_CMD_CH.addr) (mbxCh w)
  | _ => false

/-- One word written: the state and the status code of R490. -/
def State.wordWrite (s : State) (r : Requester) (a : Nat) (w : Word) : State × Nat :=
  match s.putError r a w with
  | some e => (s.refuse r a e, e.code)
  | none => ((s.touch r).wordPut r a w, if s.fullError r a w then AccErr.locked.code else 0)

/-- A write as a command. -/
def State.writeCmd (s : State) (r : Requester) (a : Nat) (w : Word) : State := if !s.servesFor r then s else (s.wordWrite r a w).1

/-- REGISTER_WRITE (R78): a normal write. -/
def execRegisterWrite (r : Requester) (a w : Word) (s : State) : Host.Outcome State Fault Refusal := done (s.writeCmd r a.toNat w)

/-- ALIAS_WRITE (R81 to R83): the address is that of the SET, CLR or TGL alias space. -/
def execAliasWrite (r : Requester) (a w : Word) (s : State) : Host.Outcome State Fault Refusal := done ((s.writeCmd r a.toNat w).settle)

/-- A normal write of the class-C register at `a`, as a command of its own. -/
def State.configWrite (s : State) (r : Requester) (a : Nat) (w : Word) : State :=
  s.gate r a (fun s =>
    match findRow a with
    | some row => (s.classC r row a 0 w).1
    | none => s)

/-- STR_EN_WRITE (R297): a write of `BAT_CFG`. -/
def execStrEnWrite (r : Requester) (w : Word) (s : State) : Host.Outcome State Fault Refusal :=
  done (s.configWrite r BAT_CFG_STR_EN.addr w)

/-- TB_SRC_WRITE (R40, R54). -/
def execTbSrcWrite (r : Requester) (w : Word) (s : State) : Host.Outcome State Fault Refusal :=
  done (s.configWrite r TB_SRC_CTRL_SRC.addr w)

/-- HREQ_SUBMIT (R414): XAC_HREQ written with SUBMIT 1. -/
def execHreqSubmit (r : Requester) (w : Word) (s : State) : Host.Outcome State Fault Refusal :=
  done (s.gate r XAC_HREQ_ENTRY.addr (fun s =>
    match findRow XAC_HREQ_ENTRY.addr with
    | some row => s.hreqWrite r row 0 (w ||| 0x80000000)
    | none => s))

/-! ### SPI frames (R489, R490) -/

/-- Words read from ascending addresses, with the words returned. -/
def State.readWords (s : State) (r : Requester) (a : Nat) : Nat → State × List Word
  | 0 => (s, [])
  | n + 1 =>
    let p := s.wordRead r a
    let q := p.1.readWords r (a + 4) n
    (q.1, p.2.1 :: q.2)

/-- Words written to ascending addresses. -/
def State.writeWords (s : State) (r : Requester) (a : Nat) : List Word → State
  | [] => s
  | w :: ws => (s.wordWrite r a w).1.writeWords r (a + 4) ws

/-- A word cut short by the rise of SPI_CS_N is counted. -/
def State.partialWord (s : State) (cut : Bool) : State := s.iff cut (fun s => s.inc HIF_SPI_STAT_PARTIAL)

/-- SPI_READ (R489): `n` whole words; `cut` says that an incomplete one followed. -/
def execSpiRead (a : BitVec 24) (n : Nat) (cut : Bool) (s : State) : Host.Outcome State Fault Refusal :=
  if !s.servesFor .spi then done s
  else
    let p := s.readWords .spi a.toNat n
    done ((p.1.partialWord cut).replyTo .spi (p.2.map BitVec.toNat))

/-- SPI_WRITE (R489). -/
def execSpiWrite (a : BitVec 24) (ws : List Word) (cut : Bool) (s : State) : Host.Outcome State Fault Refusal :=
  if !s.servesFor .spi then done s else done ((s.writeWords .spi a.toNat ws).partialWord cut)

/-- The STATUS word of R490. -/
def State.spiStatus (s : State) : Nat :=
  let role := match s.spiSession with
    | some k => s.get SES_SESS_ROLE k
    | none => 0
  s.ports.spiFirst % 16 + (if s.spiSession.isSome then 16 else 0) + 32 * (role % 4) + (if s.provisioning then 128 else 0) + 256 * min s.ports.spiCount 255

/-- SPI_STATUS (R490): the first error and the count are cleared. -/
def execSpiStatus (s : State) : Host.Outcome State Fault Refusal :=
  if !s.servesFor .spi then done s
  else
    let v := s.spiStatus
    done (({ s with ports := { s.ports with spiFirst := 0, spiCount := 0 } }).replyTo .spi [v])

/-! ### PRAX READ and WRITE (R495, R496) -/

/-- Words read until the first refusal: the state, the words, and the status. -/
def State.readUntil (s : State) (r : Requester) (a : Nat) : Nat → State × List Word × Nat
  | 0 => (s, [], 0)
  | n + 1 =>
    let p := s.wordRead r a
    if p.2.2 ≠ 0 then (p.1, [], p.2.2)
    else
      let q := p.1.readUntil r (a + 4) n
      (q.1, p.2.1 :: q.2.1, q.2.2)

/-- Words written until the first refusal: the state, how many, the status and the address of the failing word, or 0. -/
def State.writeUntil (s : State) (r : Requester) (a : Nat) : List Word → State × Nat × Nat × Nat
  | [] => (s, 0, 0, 0)
  | w :: ws =>
    let p := s.wordWrite r a w
    if p.2 ≠ 0 then (p.1, 0, p.2, a)
    else
      let q := p.1.writeUntil r (a + 4) ws
      (q.1, q.2.1 + 1, q.2.2)

/-- The address and the word count of a request; 0 means 256. -/
def praxSpan (d : Datagram) : Nat × Nat :=
  let n := (d.body.getD 3 0).toNat
  (leNat (d.body.take 3), if n = 0 then 256 else n)

/-- READ in session `k`. -/
def State.praxReadIn (s : State) (d : Datagram) (k : Fin 8) : State :=
  if !datagramFits d 4 then s.sessError k d 0x10 0x10
  else
    let p := s.readUntil (.prax k) (praxSpan d).1 (praxSpan d).2
    p.1.sessReply k d 0x90 (leBytes 1 p.2.2 ++ leBytes 1 p.2.1.length ++ leBytes 2 0 ++ (p.2.1.map (fun w => leBytes 4 w.toNat)).flatten)

/-- READ (R495). -/
def execPraxRead (d : Datagram) (s : State) : Host.Outcome State Fault Refusal :=
  done (s.praxFrame d false (fun s => s.praxRequest d 0x10 (fun k s => s.praxReadIn d k)))

/-- WRITE in session `k`. -/
def State.praxWriteIn (s : State) (d : Datagram) (k : Fin 8) : State :=
  let n := (praxSpan d).2
  if !datagramFits d (4 + 4 * n) then s.sessError k d 0x11 0x10
  else
    let p := s.writeUntil (.prax k) (praxSpan d).1 ((toWords (d.body.drop 4)).take n)
    p.1.sessReply k d 0x91 (leBytes 1 p.2.2.1 ++ leBytes 1 p.2.1 ++ leBytes 2 0 ++ leBytes 4 p.2.2.2)

/-- WRITE (R495). -/
def execPraxWrite (d : Datagram) (s : State) : Host.Outcome State Fault Refusal :=
  done (s.praxFrame d false (fun s => s.praxRequest d 0x11 (fun k s => s.praxWriteIn d k)))

end Sys2Proof.Machine
end

