-- ==== Sys2Proof/Machine/Dispatch.lean ====
section
/-! DEFINITION. The dispatch: one arm per command, each one call of its meaning. -/

namespace Sys2Proof.Machine

def exec (i : Instr) (s : State) : Host.Outcome State Fault Refusal :=
  match i with
  | .vinGood => Sys2Proof.Machine.execVinGood s
  | .powerOnResetAssert steps => Sys2Proof.Machine.execPowerOnResetAssert steps s
  | .powerOnResetRelease testMode => Sys2Proof.Machine.execPowerOnResetRelease testMode s
  | .strapLatch samples => Sys2Proof.Machine.execStrapLatch samples s
  | .kilnLoad us => Sys2Proof.Machine.execKilnLoad us s
  | .greenwareStart ef str pg rails => Sys2Proof.Machine.execGreenwareStart ef str pg rails s
  | .outHoldRelease r => Sys2Proof.Machine.execOutHoldRelease r s
  | .supplyBankChange k good v33 => Sys2Proof.Machine.execSupplyBankChange k good v33 s
  | .resetInAssert => Sys2Proof.Machine.execResetInAssert s
  | .resetInRelease => Sys2Proof.Machine.execResetInRelease s
  | .coreRestart r w => Sys2Proof.Machine.execCoreRestart r w s
  | .bootCheckComplete sig bad => Sys2Proof.Machine.execBootCheckComplete sig bad s
  | .calAttemptComplete ok => Sys2Proof.Machine.execCalAttemptComplete ok s
  | .calRetryTimer => Sys2Proof.Machine.execCalRetryTimer s
  | .calRetryCmd r => Sys2Proof.Machine.execCalRetryCmd r s
  | .acFailAssert j => Sys2Proof.Machine.execAcFailAssert j s
  | .acFailClear j => Sys2Proof.Machine.execAcFailClear j s
  | .pickupQualified => Sys2Proof.Machine.execPickupQualified s
  | .prearmClearQualified => Sys2Proof.Machine.execPrearmClearQualified s
  | .returnQualified => Sys2Proof.Machine.execReturnQualified s
  | .returnLoadLost => Sys2Proof.Machine.execReturnLoadLost s
  | .handbackRampComplete => Sys2Proof.Machine.execHandbackRampComplete s
  | .noStringClosedExpiry => Sys2Proof.Machine.execNoStringClosedExpiry s
  | .exhaustedRecovered => Sys2Proof.Machine.execExhaustedRecovered s
  | .efficiencyResumeTimer => Sys2Proof.Machine.execEfficiencyResumeTimer s
  | .tbSrcWrite r w => Sys2Proof.Machine.execTbSrcWrite r w s
  | .discSourcePresent => Sys2Proof.Machine.execDiscSourcePresent s
  | .discSourceLost => Sys2Proof.Machine.execDiscSourceLost s
  | .discLockWindow worst => Sys2Proof.Machine.execDiscLockWindow worst s
  | .holdoverStale => Sys2Proof.Machine.execHoldoverStale s
  | .discRateStep ferr want => Sys2Proof.Machine.execDiscRateStep ferr want s
  | .xchkWindowEnd count => Sys2Proof.Machine.execXchkWindowEnd count s
  | .vcoreWindowEnd => Sys2Proof.Machine.execVcoreWindowEnd s
  | .tickLatchRead r => Sys2Proof.Machine.execTickLatchRead r s
  | .multiwordLatchRead r a => Sys2Proof.Machine.execMultiwordLatchRead r a s
  | .registerWrite r a w => Sys2Proof.Machine.execRegisterWrite r a w s
  | .aliasWrite r a w => Sys2Proof.Machine.execAliasWrite r a w s
  | .cckScanStart => Sys2Proof.Machine.execCckScanStart s
  | .cckScanComplete cut => Sys2Proof.Machine.execCckScanComplete cut s
  | .cckCommit r => Sys2Proof.Machine.execCckCommit r s
  | .crosscheckFaultDeclared h => Sys2Proof.Machine.execCrosscheckFaultDeclared h s
  | .crosscheckJudge h convs primary check => Sys2Proof.Machine.execCrosscheckJudge h convs primary check s
  | .monRequestDue codes0 codes1 => Sys2Proof.Machine.execMonRequestDue codes0 codes1 s
  | .monSelWrite r w => Sys2Proof.Machine.execMonSelWrite r w s
  | .calPassStart => Sys2Proof.Machine.execCalPassStart s
  | .calVisitComplete res => Sys2Proof.Machine.execCalVisitComplete res s
  | .calVisitAbort h => Sys2Proof.Machine.execCalVisitAbort h s
  | .calPassEnd agree => Sys2Proof.Machine.execCalPassEnd agree s
  | .spareChangeover n toSpare => Sys2Proof.Machine.execSpareChangeover n toSpare s
  | .diodeConversion ch res => Sys2Proof.Machine.execDiodeConversion ch res s
  | .loopSampleRequest n fine run => Sys2Proof.Machine.execLoopSampleRequest n fine run s
  | .coefWindowWrite r off w => Sys2Proof.Machine.execCoefWindowWrite r off w s
  | .lpeAdmit r => Sys2Proof.Machine.execLpeAdmit r s
  | .admissionComplete => Sys2Proof.Machine.execAdmissionComplete s
  | .lpeDiscard r => Sys2Proof.Machine.execLpeDiscard r s
  | .laneTest r pass => Sys2Proof.Machine.execLaneTest r pass s
  | .laneSelfTest k pass => Sys2Proof.Machine.execLaneSelfTest k pass s
  | .loopClearFault r n => Sys2Proof.Machine.execLoopClearFault r n s
  | .loopResetState r n => Sys2Proof.Machine.execLoopResetState r n s
  | .coefCrcCheck bad => Sys2Proof.Machine.execCoefCrcCheck bad s
  | .tuneStart r => Sys2Proof.Machine.execTuneStart r s
  | .tuneAbort r => Sys2Proof.Machine.execTuneAbort r s
  | .tuneApply r => Sys2Proof.Machine.execTuneApply r s
  | .tuneRepropose r => Sys2Proof.Machine.execTuneRepropose r s
  | .relayTimeout => Sys2Proof.Machine.execRelayTimeout s
  | .lineCrossing k fine amp => Sys2Proof.Machine.execLineCrossing k fine amp s
  | .lineSourceLost k => Sys2Proof.Machine.execLineSourceLost k s
  | .flywheelEnd => Sys2Proof.Machine.execFlywheelEnd s
  | .lptTblCommit r banks => Sys2Proof.Machine.execLptTblCommit r banks s
  | .tblSwap => Sys2Proof.Machine.execTblSwap s
  | .tblDataAccess r write => Sys2Proof.Machine.execTblDataAccess r write s
  | .tblCrcCheck bad => Sys2Proof.Machine.execTblCrcCheck bad s
  | .rcClear r which => Sys2Proof.Machine.execRcClear r which s
  | .rcFadeEnd k => Sys2Proof.Machine.execRcFadeEnd k s
  | .phaseCycleStart n fine step sum cnt skip fault => Sys2Proof.Machine.execPhaseCycleStart n fine step sum cnt skip fault s
  | .peakComparatorTrip n steps fault => Sys2Proof.Machine.execPeakComparatorTrip n steps fault s
  | .dpwmRecal steps => Sys2Proof.Machine.execDpwmRecal steps s
  | .pwmPeriodApply => Sys2Proof.Machine.execPwmPeriodApply s
  | .groupSoftstart g => Sys2Proof.Machine.execGroupSoftstart g s
  | .shortDetect g => Sys2Proof.Machine.execShortDetect g s
  | .groupRetryExpiry g => Sys2Proof.Machine.execGroupRetryExpiry g s
  | .groupRetryReset g => Sys2Proof.Machine.execGroupRetryReset g s
  | .clearG r g => Sys2Proof.Machine.execClearG r g s
  | .shedWindowExpiry g => Sys2Proof.Machine.execShedWindowExpiry g s
  | .phaseUnshed g => Sys2Proof.Machine.execPhaseUnshed g s
  | .deEnter n => Sys2Proof.Machine.execDeEnter n s
  | .slew r w => Sys2Proof.Machine.execSlew r w s
  | .slewComplete => Sys2Proof.Machine.execSlewComplete s
  | .referenceReachesTarget => Sys2Proof.Machine.execReferenceReachesTarget s
  | .allfire g fine lat => Sys2Proof.Machine.execAllfire g fine lat s
  | .fireEnd g sum => Sys2Proof.Machine.execFireEnd g sum s
  | .floorHoldEnd g => Sys2Proof.Machine.execFloorHoldEnd g s
  | .floorRampEnd g => Sys2Proof.Machine.execFloorRampEnd g s
  | .allfireLockoutEnd g => Sys2Proof.Machine.execAllfireLockoutEnd g s
  | .trimCycle => Sys2Proof.Machine.execTrimCycle s
  | .rectBind n e => Sys2Proof.Machine.execRectBind n e s
  | .rectStandbyCheck n => Sys2Proof.Machine.execRectStandbyCheck n s
  | .rectWakeTimeout n => Sys2Proof.Machine.execRectWakeTimeout n s
  | .rectSilent n => Sys2Proof.Machine.execRectSilent n s
  | .rectFaultClearTimer n => Sys2Proof.Machine.execRectFaultClearTimer n s
  | .rectUnbind r n => Sys2Proof.Machine.execRectUnbind r n s
  | .clearCurve r n => Sys2Proof.Machine.execClearCurve r n s
  | .allocNow r => Sys2Proof.Machine.execAllocNow r s
  | .rectRetry r n => Sys2Proof.Machine.execRectRetry r n s
  | .allocationStart => Sys2Proof.Machine.execAllocationStart s
  | .allocationResult => Sys2Proof.Machine.execAllocationResult s
  | .curveStore => Sys2Proof.Machine.execCurveStore s
  | .capComparison bus a b => Sys2Proof.Machine.execCapComparison bus a b s
  | .caplineSlot bad => Sys2Proof.Machine.execCaplineSlot bad s
  | .caplineFrameRx => Sys2Proof.Machine.execCaplineFrameRx s
  | .capTest r => Sys2Proof.Machine.execCapTest r s
  | .probeNow r => Sys2Proof.Machine.execProbeNow r s
  | .batteryUpdate => Sys2Proof.Machine.execBatteryUpdate s
  | .emptyQualified n => Sys2Proof.Machine.execEmptyQualified n s
  | .emptyEnd n => Sys2Proof.Machine.execEmptyEnd n s
  | .mean2s => Sys2Proof.Machine.execMean2s s
  | .minuteMean means => Sys2Proof.Machine.execMinuteMean means s
  | .pertResume => Sys2Proof.Machine.execPertResume s
  | .demodWindowEnd res => Sys2Proof.Machine.execDemodWindowEnd res s
  | .strIdConversion n => Sys2Proof.Machine.execStrIdConversion n s
  | .presenceChange n => Sys2Proof.Machine.execPresenceChange n s
  | .batOpen r n => Sys2Proof.Machine.execBatOpen r n s
  | .batClose r n => Sys2Proof.Machine.execBatClose r n s
  | .batReseed r n => Sys2Proof.Machine.execBatReseed r n s
  | .batRestore r n => Sys2Proof.Machine.execBatRestore r n s
  | .batTblCommit r => Sys2Proof.Machine.execBatTblCommit r s
  | .batTblDataAccess r w => Sys2Proof.Machine.execBatTblDataAccess r w s
  | .strEnWrite r w => Sys2Proof.Machine.execStrEnWrite r w s
  | .stringTrip n => Sys2Proof.Machine.execStringTrip n s
  | .stringReconnect n => Sys2Proof.Machine.execStringReconnect n s
  | .batRecordWrite => Sys2Proof.Machine.execBatRecordWrite s
  | .daysIncrement n => Sys2Proof.Machine.execDaysIncrement n s
  | .ship r w => Sys2Proof.Machine.execShip r w s
  | .wake => Sys2Proof.Machine.execWake s
  | .vbatKeepLoss => Sys2Proof.Machine.execVbatKeepLoss s
  | .wakeRestGiveup => Sys2Proof.Machine.execWakeRestGiveup s
  | .efuOn r n => Sys2Proof.Machine.execEfuOn r n s
  | .efuOff r n => Sys2Proof.Machine.execEfuOff r n s
  | .efuClear r n => Sys2Proof.Machine.execEfuClear r n s
  | .feedA r => Sys2Proof.Machine.execFeedA r s
  | .feedB r => Sys2Proof.Machine.execFeedB r s
  | .feedAuto r => Sys2Proof.Machine.execFeedAuto r s
  | .efuWaitExpiry n => Sys2Proof.Machine.execEfuWaitExpiry n s
  | .efOnRise n => Sys2Proof.Machine.execEfOnRise n s
  | .efIlimFall n => Sys2Proof.Machine.execEfIlimFall n s
  | .inrushQualified n => Sys2Proof.Machine.execInrushQualified n s
  | .inrushExpiry n => Sys2Proof.Machine.execInrushExpiry n s
  | .overcurrentExpiry n => Sys2Proof.Machine.execOvercurrentExpiry n s
  | .fetModelUpdate sq => Sys2Proof.Machine.execFetModelUpdate sq s
  | .efuRetryReset n => Sys2Proof.Machine.execEfuRetryReset n s
  | .damageDetect n => Sys2Proof.Machine.execDamageDetect n s
  | .feedGood k => Sys2Proof.Machine.execFeedGood k s
  | .feedBad k => Sys2Proof.Machine.execFeedBad k s
  | .feedSwitchStart => Sys2Proof.Machine.execFeedSwitchStart s
  | .feedBbmComplete => Sys2Proof.Machine.execFeedBbmComplete s
  | .feedStuck => Sys2Proof.Machine.execFeedStuck s
  | .feedRevertTimer => Sys2Proof.Machine.execFeedRevertTimer s
  | .slotInsert n at_ => Sys2Proof.Machine.execSlotInsert n at_ s
  | .slotRemove n at_ => Sys2Proof.Machine.execSlotRemove n at_ s
  | .slotMemoryExpiry n => Sys2Proof.Machine.execSlotMemoryExpiry n s
  | .seqUp r => Sys2Proof.Machine.execSeqUp r s
  | .seqDown r => Sys2Proof.Machine.execSeqDown r s
  | .seqClear r => Sys2Proof.Machine.execSeqClear r s
  | .pgDeglitchChange n high => Sys2Proof.Machine.execPgDeglitchChange n high s
  | .railQualified n => Sys2Proof.Machine.execRailQualified n s
  | .railEnRise n => Sys2Proof.Machine.execRailEnRise n s
  | .railWindowExpiry n => Sys2Proof.Machine.execRailWindowExpiry n s
  | .rmonSample n => Sys2Proof.Machine.execRmonSample n s
  | .railWarning n => Sys2Proof.Machine.execRailWarning n s
  | .faultTimerExpiry n => Sys2Proof.Machine.execFaultTimerExpiry n s
  | .fltAct0Requalify n => Sys2Proof.Machine.execFltAct0Requalify n s
  | .rmnTest r => Sys2Proof.Machine.execRmnTest r s
  | .rmnTestEnd r => Sys2Proof.Machine.execRmnTestEnd r s
  | .testTimeout => Sys2Proof.Machine.execTestTimeout s
  | .resetStretchEnd k => Sys2Proof.Machine.execResetStretchEnd k s
  | .dnStuck n => Sys2Proof.Machine.execDnStuck n s
  | .p7EnFall n => Sys2Proof.Machine.execP7EnFall n s
  | .seqRetryExpiry => Sys2Proof.Machine.execSeqRetryExpiry s
  | .seqRetryReset => Sys2Proof.Machine.execSeqRetryReset s
  | .cascadeInputChange dn high => Sys2Proof.Machine.execCascadeInputChange dn high s
  | .cascadeTimeout => Sys2Proof.Machine.execCascadeTimeout s
  | .thermalGroupRecompute g => Sys2Proof.Machine.execThermalGroupRecompute g s
  | .twbTransactionStart c ev => Sys2Proof.Machine.execTwbTransactionStart c ev s
  | .twbTransactionEnd c code bytes data sr stretch => Sys2Proof.Machine.execTwbTransactionEnd c code bytes data sr stretch s
  | .busFree c => Sys2Proof.Machine.execBusFree c s
  | .clkLowTimeout c => Sys2Proof.Machine.execClkLowTimeout c s
  | .sextTimeout c stretch bytes => Sys2Proof.Machine.execSextTimeout c stretch bytes s
  | .sdaHeldClear c => Sys2Proof.Machine.execSdaHeldClear c s
  | .busClearComplete c released => Sys2Proof.Machine.execBusClearComplete c released s
  | .stuckRetry c sclHigh => Sys2Proof.Machine.execStuckRetry c sclHigh s
  | .twbClear r c => Sys2Proof.Machine.execTwbClear r c s
  | .twbReset r c => Sys2Proof.Machine.execTwbReset r c s
  | .hnFlush r => Sys2Proof.Machine.execHnFlush r s
  | .hostNotify c addr data run => Sys2Proof.Machine.execHostNotify c addr data run s
  | .accessionPassStart => Sys2Proof.Machine.execAccessionPassStart s
  | .xacPass r => Sys2Proof.Machine.execXacPass r s
  | .accessionPassDone bad => Sys2Proof.Machine.execAccessionPassDone bad s
  | .entrySilentTimeout n => Sys2Proof.Machine.execEntrySilentTimeout n s
  | .deaccessionTimeout n => Sys2Proof.Machine.execDeaccessionTimeout n s
  | .deaccede r n => Sys2Proof.Machine.execDeaccede r n s
  | .pollDue => Sys2Proof.Machine.execPollDue s
  | .requestSubmit n cls proto cmd count data => Sys2Proof.Machine.execRequestSubmit n cls proto cmd count data s
  | .requestComplete => Sys2Proof.Machine.execRequestComplete s
  | .requestTimeout => Sys2Proof.Machine.execRequestTimeout s
  | .hreqSubmit r w => Sys2Proof.Machine.execHreqSubmit r w s
  | .blackBoxBlock samples lastSeq copied => Sys2Proof.Machine.execBlackBoxBlock samples lastSeq copied s
  | .blackBoxTrigger src fine => Sys2Proof.Machine.execBlackBoxTrigger src fine s
  | .bbxTriggerCmd r => Sys2Proof.Machine.execBbxTriggerCmd r s
  | .pin r k => Sys2Proof.Machine.execPin r k s
  | .unpin r k => Sys2Proof.Machine.execUnpin r k s
  | .delete r k => Sys2Proof.Machine.execDelete r k s
  | .postWindowClose => Sys2Proof.Machine.execPostWindowClose s
  | .strataCommitComplete => Sys2Proof.Machine.execStrataCommitComplete s
  | .eventRecord w => Sys2Proof.Machine.execEventRecord w s
  | .waitingRecordQueued => Sys2Proof.Machine.execWaitingRecordQueued s
  | .lossSummaryQueued => Sys2Proof.Machine.execLossSummaryQueued s
  | .eventDrain => Sys2Proof.Machine.execEventDrain s
  | .bucketRefill => Sys2Proof.Machine.execBucketRefill s
  | .suppressionWindowEnd => Sys2Proof.Machine.execSuppressionWindowEnd s
  | .rlCfgWrite r w => Sys2Proof.Machine.execRlCfgWrite r w s
  | .evrHeadRead r => Sys2Proof.Machine.execEvrHeadRead r s
  | .clear r => Sys2Proof.Machine.execClear r s
  | .inject r => Sys2Proof.Machine.execInject r s
  | .timeSave => Sys2Proof.Machine.execTimeSave s
  | .beaconSend => Sys2Proof.Machine.execBeaconSend s
  | .loopSend => Sys2Proof.Machine.execLoopSend s
  | .pairBeacon h b => Sys2Proof.Machine.execPairBeacon h b s
  | .pairAck h upto => Sys2Proof.Machine.execPairAck h upto s
  | .pairNak h seq reason => Sys2Proof.Machine.execPairNak h seq reason s
  | .pairObject h l => Sys2Proof.Machine.execPairObject h l s
  | .pairLoop h l => Sys2Proof.Machine.execPairLoop h l s
  | .pairConfig h addr fromB value stamp => Sys2Proof.Machine.execPairConfig h addr fromB value stamp s
  | .pairEstimator h l => Sys2Proof.Machine.execPairEstimator h l s
  | .pairCatalogue h l => Sys2Proof.Machine.execPairCatalogue h l s
  | .pairCommand h code => Sys2Proof.Machine.execPairCommand h code s
  | .pairBulk h b => Sys2Proof.Machine.execPairBulk h b s
  | .helkarRetransmit => Sys2Proof.Machine.execHelkarRetransmit s
  | .helkarLinkTimeout violations => Sys2Proof.Machine.execHelkarLinkTimeout violations s
  | .pairOffsetSlew => Sys2Proof.Machine.execPairOffsetSlew s
  | .witnessPollSend x => Sys2Proof.Machine.execWitnessPollSend x s
  | .witnessPoll h primaryB viewA viewB => Sys2Proof.Machine.execWitnessPoll h primaryB viewA viewB s
  | .heartbeat h m => Sys2Proof.Machine.execHeartbeat h m s
  | .heartbeatTimeout x => Sys2Proof.Machine.execHeartbeatTimeout x s
  | .registrarStart => Sys2Proof.Machine.execRegistrarStart s
  | .epoch h e => Sys2Proof.Machine.execEpoch h e s
  | .epochEffective => Sys2Proof.Machine.execEpochEffective s
  | .fence h cause => Sys2Proof.Machine.execFence h cause s
  | .fenceTimeout => Sys2Proof.Machine.execFenceTimeout s
  | .fenceSelf r => Sys2Proof.Machine.execFenceSelf r s
  | .pairMigrate r => Sys2Proof.Machine.execPairMigrate r s
  | .pairRevert r => Sys2Proof.Machine.execPairRevert r s
  | .pairRejoin r => Sys2Proof.Machine.execPairRejoin r s
  | .stableExpiry => Sys2Proof.Machine.execStableExpiry s
  | .fencedRejoinTimer => Sys2Proof.Machine.execFencedRejoinTimer s
  | .registrarLostTimeout => Sys2Proof.Machine.execRegistrarLostTimeout s
  | .sesOpenStart r w => Sys2Proof.Machine.execSesOpenStart r w s
  | .sesOpenClose r w => Sys2Proof.Machine.execSesOpenClose r w s
  | .sesRespSubmit r w => Sys2Proof.Machine.execSesRespSubmit r w s
  | .lockoutEnd p => Sys2Proof.Machine.execLockoutEnd p s
  | .nonceExpiry => Sys2Proof.Machine.execNonceExpiry s
  | .sessionIdleTimeout k => Sys2Proof.Machine.execSessionIdleTimeout k s
  | .keyErase r w => Sys2Proof.Machine.execKeyErase r w s
  | .keyCommit r w => Sys2Proof.Machine.execKeyCommit r w s
  | .keyDataWrite r w => Sys2Proof.Machine.execKeyDataWrite r w s
  | .spiRead a n cut => Sys2Proof.Machine.execSpiRead a n cut s
  | .spiWrite a ws cut => Sys2Proof.Machine.execSpiWrite a ws cut s
  | .spiStatus => Sys2Proof.Machine.execSpiStatus s
  | .praxOpen d => Sys2Proof.Machine.execPraxOpen d s
  | .praxProve d => Sys2Proof.Machine.execPraxProve d s
  | .praxClose d => Sys2Proof.Machine.execPraxClose d s
  | .praxRead d => Sys2Proof.Machine.execPraxRead d s
  | .praxWrite d => Sys2Proof.Machine.execPraxWrite d s
  | .praxKeepalive d => Sys2Proof.Machine.execPraxKeepalive d s
  | .praxSubscribe d => Sys2Proof.Machine.execPraxSubscribe d s
  | .notifyAck d => Sys2Proof.Machine.execNotifyAck d s
  | .praxWitness d => Sys2Proof.Machine.execPraxWitness d s
  | .notifySend k drop => Sys2Proof.Machine.execNotifySend k drop s
  | .dhcpLeaseEnd p => Sys2Proof.Machine.execDhcpLeaseEnd p s
  | .ethLinkChange p up speed dadFail slaac => Sys2Proof.Machine.execEthLinkChange p up speed dadFail slaac s
  | .ptpSync m offset delay sec ns => Sys2Proof.Machine.execPtpSync m offset delay sec ns s
  | .ptpTimeout => Sys2Proof.Machine.execPtpTimeout s
  | .mdioRead r p w => Sys2Proof.Machine.execMdioRead r p w s
  | .mdioWrite r p w => Sys2Proof.Machine.execMdioWrite r p w s
  | .mdioComplete data => Sys2Proof.Machine.execMdioComplete data s
  | .mbxSend r out w => Sys2Proof.Machine.execMbxSend r out w s
  | .mbxTake r out w => Sys2Proof.Machine.execMbxTake r out w s
  | .mbxRecall r out w => Sys2Proof.Machine.execMbxRecall r out w s
  | .mailboxDataWrite r off w => Sys2Proof.Machine.execMailboxDataWrite r off w s
  | .mailboxTimeout out c => Sys2Proof.Machine.execMailboxTimeout out c s
  | .wdiToggle => Sys2Proof.Machine.execWdiToggle s
  | .wdgOpenPhaseEnd => Sys2Proof.Machine.execWdgOpenPhaseEnd s
  | .wdgClosedPhaseEnd => Sys2Proof.Machine.execWdgClosedPhaseEnd s
  | .wdgPulseEnd => Sys2Proof.Machine.execWdgPulseEnd s
  | .wdgSuspensionEnd => Sys2Proof.Machine.execWdgSuspensionEnd s
  | .bake r => Sys2Proof.Machine.execBake r s
  | .bakeComplete good => Sys2Proof.Machine.execBakeComplete good s
  | .wipe r w => Sys2Proof.Machine.execWipe r w s
  | .wipeComplete => Sys2Proof.Machine.execWipeComplete s
  | .tillingVisit found => Sys2Proof.Machine.execTillingVisit found s
  | .eccCorrectRewrite => Sys2Proof.Machine.execEccCorrectRewrite s
  | .klnNextLenUpdate => Sys2Proof.Machine.execKlnNextLenUpdate s
  | .chainBlock h payload busy => Sys2Proof.Machine.execChainBlock h payload busy s
  | .chainAck h => Sys2Proof.Machine.execChainAck h s
  | .chainNak h reason => Sys2Proof.Machine.execChainNak h reason s
  | .chainHello h uid st result ready => Sys2Proof.Machine.execChainHello h uid st result ready s
  | .chainStatus h payload => Sys2Proof.Machine.execChainStatus h payload s
  | .helloSend => Sys2Proof.Machine.execHelloSend s
  | .chainPortTimeout p codes => Sys2Proof.Machine.execChainPortTimeout p codes s
  | .chainRetransmit p => Sys2Proof.Machine.execChainRetransmit p s
  | .resetLink r w => Sys2Proof.Machine.execResetLink r w s
  | .stagingRxTimeout => Sys2Proof.Machine.execStagingRxTimeout s
  | .updActivate r => Sys2Proof.Machine.execUpdActivate r s
  | .updDiscard r => Sys2Proof.Machine.execUpdDiscard r s
  | .updRevert r => Sys2Proof.Machine.execUpdRevert r s
  | .moduleBankReport => Sys2Proof.Machine.execModuleBankReport s
  | .moduleTimeout => Sys2Proof.Machine.execModuleTimeout s
  | .trialTimeout => Sys2Proof.Machine.execTrialTimeout s
  | .coreTaskBoundary task differ => Sys2Proof.Machine.execCoreTaskBoundary task differ s
  | .coreBoundaryTimeout task => Sys2Proof.Machine.execCoreBoundaryTimeout task s
  | .coreRelease r => Sys2Proof.Machine.execCoreRelease r s
  | .sieveRead sram spot found => Sys2Proof.Machine.execSieveRead sram spot found s
  | .sievePassEnd => Sys2Proof.Machine.execSievePassEnd s
  | .supplyDroop k lat => Sys2Proof.Machine.execSupplyDroop k lat s
  | .telemetryRefresh ms => Sys2Proof.Machine.execTelemetryRefresh ms s
  | .jtagExtest => Sys2Proof.Machine.execJtagExtest s
  | .catalogueScheduleWrite r off w => Sys2Proof.Machine.execCatalogueScheduleWrite r off w s
  | .afeMeansUpdate mean latest phases charge current ovr strOvr => Sys2Proof.Machine.execAfeMeansUpdate mean latest phases charge current ovr strOvr s
  | .ptpAnnounce m best => Sys2Proof.Machine.execPtpAnnounce m best s
  | .dhcpLeaseObtained p addr secs => Sys2Proof.Machine.execDhcpLeaseObtained p addr secs s
  | .listenSdaLowTimeout c => Sys2Proof.Machine.execListenSdaLowTimeout c s
  | .supplyDroopEnd k => Sys2Proof.Machine.execSupplyDroopEnd k s

end Sys2Proof.Machine
end

