-- ==== Sys2Proof/Machine/Package.lean ====
section
/-! DEFINITION. The balls (file 26): which signal or supply stands at each position of the array, and the type and bank of each signal. -/

namespace Sys2Proof.Machine

/-- What a ball carries (R590, R592). -/
inductive BallName where
  | gnd | agnd | vin | vcoreCap | vdda | vioA | vioB | vddSd | vbatKeep | vref
  | phHi (n : Nat) | phLo (n : Nat) | phCsP (n : Nat) | phCsN (n : Nat)
  | vbus (b neg : Bool) | ibus (b neg : Bool) | acsync (b : Bool) | shev (n : Nat) | capline (neg : Bool)
  | sgTx (p : Nat) (neg : Bool) | sgRx (p : Nat) (neg : Bool) | mdio | mdc | hlRefclk (neg : Bool)
  | hlTx (neg : Bool) | hlRx (neg : Bool) | wit (neg : Bool)
  | chTx (dn neg : Bool) | chRx (dn neg : Bool) | trefIn | tickOut | wdi | wdo
  | strSh (n : Nat) (neg : Bool) | strV (n : Nat) | strId (n : Nat) | strDisc (n : Nat)
  | twScl (n : Nat) | twSda (n : Nat) | rstOut (n : Nat)
  | seqUpIn | seqUpOut | seqDnIn | seqDnOut | thermOut | twarnOut | shelfGood | hostIrq
  | tck | tms | tdi | tdo | trstN | strap (n : Nat) | testMode | resetIn | wake | unitOk
  | spiCsN | spiSck | spiIo (n : Nat) | td (n : Nat) (neg : Bool)
  | efOn (n : Nat) | efIlim (n : Nat) | efIsns (n : Nat) | efVout (n : Nat) | efTd (n : Nat) (neg : Bool)
  | seqEn (n : Nat) | seqPg (n : Nat) | rmon (n : Nat)
  deriving DecidableEq, Repr

/-- The central block, rows F to U by columns 6 to 16 (R590). -/
def centralBlock : List (List BallName) :=
  [[.agnd, .vdda, .agnd, .vioA, .gnd, .vioA, .gnd, .vioA, .gnd, .vioA, .gnd],
   [.vdda, .agnd, .agnd, .vin, .gnd, .vin, .gnd, .vin, .gnd, .vin, .gnd],
   [.agnd, .vdda, .agnd, .vioA, .gnd, .gnd, .gnd, .gnd, .gnd, .gnd, .vddSd],
   [.vdda, .agnd, .agnd, .gnd, .vcoreCap, .gnd, .vcoreCap, .gnd, .vcoreCap, .gnd, .vddSd],
   [.agnd, .agnd, .agnd, .vioA, .gnd, .gnd, .gnd, .gnd, .gnd, .gnd, .vddSd],
   [.agnd, .vref, .vref, .gnd, .vcoreCap, .gnd, .vcoreCap, .gnd, .vcoreCap, .gnd, .gnd],
   [.agnd, .agnd, .agnd, .vioB, .gnd, .gnd, .vcoreCap, .gnd, .gnd, .gnd, .vddSd],
   [.vdda, .agnd, .agnd, .gnd, .vcoreCap, .gnd, .vcoreCap, .gnd, .vcoreCap, .gnd, .vddSd],
   [.agnd, .vdda, .vbatKeep, .vioB, .gnd, .gnd, .gnd, .gnd, .gnd, .gnd, .vddSd],
   [.vdda, .agnd, .vbatKeep, .vin, .gnd, .vin, .gnd, .vin, .gnd, .vin, .gnd],
   [.agnd, .vdda, .gnd, .vioB, .gnd, .vioB, .gnd, .vioB, .gnd, .vioB, .gnd]]

/-- Rows A to E, columns 1 to 16, of column `c` (R592). -/
def ballTop (r c : Nat) : BallName :=
  match r with
  | 1 => .phHi (c - 1)
  | 2 => .phLo (c - 1)
  | 3 => .phCsP (c - 1)
  | 4 => .phCsN (c - 1)
  | _ => if c ≤ 2 then .vbus false (c == 2) else if c ≤ 4 then .ibus false (c == 4) else if c ≤ 6 then .vbus true (c == 6)
      else if c ≤ 8 then .ibus true (c == 8) else if c ≤ 10 then .acsync (c == 10) else if c ≤ 14 then .shev (c - 11) else .capline (c == 16)

/-- Rows A to E, columns 17 to 22. -/
def ballLines (r c : Nat) : BallName :=
  let k := c - 17
  match r with
  | 1 | 2 =>
    if k < 2 then .sgTx (r - 1) (k == 1) else if k < 4 then .sgRx (r - 1) (k == 3)
    else if r = 2 then .hlRefclk (k == 5) else if k = 4 then .mdio else .mdc
  | 3 => if k < 2 then .hlTx (k == 1) else if k < 4 then .hlRx (k == 3) else .wit (k == 5)
  | _ =>
    if k < 2 then .chTx (r == 5) (k == 1) else if k < 4 then .chRx (r == 5) (k == 3)
    else if r = 4 then (if k = 4 then .trefIn else .tickOut) else if k = 4 then .wdi else .wdo

/-- Rows F to N, whose index is `k`, outside the central block. -/
def ballMiddle (k c : Nat) : BallName :=
  if c ≤ 2 then .strSh k (c == 2) else if c = 3 then .strV k else if c = 4 then .strId k else if c = 5 then .strDisc k
  else if c = 17 then .twScl (2 * k) else if c = 18 then .twSda (2 * k) else if c = 19 then .twScl (2 * k + 1)
  else if c = 20 then .twSda (2 * k + 1) else if c = 21 then .rstOut k
  else [BallName.seqUpIn, .seqUpOut, .seqDnIn, .seqDnOut, .thermOut, .twarnOut, .shelfGood, .hostIrq].getD k .gnd

/-- Rows P, T and U, outside the central block. -/
def ballTest (r c : Nat) : BallName :=
  match r with
  | 14 =>
    if c ≤ 5 then [BallName.tck, .tms, .tdi, .tdo, .trstN].getD (c - 1) .gnd
    else if c = 17 then .spiCsN else if c = 18 then .spiSck else .spiIo (c - 19)
  | 15 => if c ≤ 5 then .strap (c - 1) else .td (c - 17) false
  | _ => if c ≤ 5 then [BallName.strap 5, .testMode, .resetIn, .wake, .unitOk].getD (c - 1) .gnd else .td (c - 17) true

/-- Rows V to AC, whose index is `j`. -/
def ballBottom (j c : Nat) : BallName :=
  if c ≤ 8 then [BallName.efOn (c - 1), .efIlim (c - 1), .efIsns (c - 1), .efVout (c - 1), .efTd (c - 1) false, .efTd (c - 1) true].getD j .gnd
  else if c = 9 then .td (6 + j) false else if c = 10 then .td (6 + j) true
  else
    let n := if j < 3 then c - 11 else c + 1
    [BallName.seqEn n, .seqPg n, .rmon n].getD (j % 3) .gnd

/-- The ball at row `r`, 1 to 22 from A to AC, and column `c`, 1 to 22 (R589, R592). -/
def ballAt (r c : Nat) : BallName :=
  if 6 ≤ r ∧ r ≤ 16 ∧ 6 ≤ c ∧ c ≤ 16 then (centralBlock.getD (r - 6) []).getD (c - 6) .gnd
  else if r ≤ 5 then (if c ≤ 16 then ballTop r c else ballLines r c)
  else if r ≤ 13 then ballMiddle (r - 6) c
  else if r ≤ 16 then ballTest r c
  else ballBottom (r - 17) c

/-- The name of a row (R589). -/
def ballRow : List String :=
  ["A", "B", "C", "D", "E", "F", "G", "H", "J", "K", "L", "M", "N", "P", "T", "U", "V", "W", "Y", "AA", "AB", "AC"]

/-- Type of a signal ball (R593). -/
inductive BallType where
  | supply | output | analogIn | analogOut | diode | input | openDrain | rs485 | cmlOut | cmlIn | both | lvdsOut | lvdsIn | lvdsHalf
  deriving DecidableEq, Repr

/-- The supply a signal ball works on (R593). -/
inductive BallBank where
  | none | vdda | vioA | vioB | vin | vddSd | vbatKeep
  deriving DecidableEq, Repr

/-- Type and bank of a ball (R593). -/
def BallName.kind : BallName → BallType × BallBank
  | .gnd | .agnd | .vin | .vcoreCap | .vdda | .vioA | .vioB | .vddSd | .vbatKeep | .vref => (.supply, .none)
  | .phHi _ | .phLo _ | .strDisc _ | .efOn _ | .seqEn _ | .rstOut _ | .shelfGood | .unitOk | .seqUpOut | .seqDnOut => (.output, .vioB)
  | .phCsP _ | .phCsN _ | .vbus _ _ | .ibus _ _ | .strSh _ _ | .strV _ | .strId _ | .efIsns _ | .efVout _ | .rmon _ | .acsync _ => (.analogIn, .vdda)
  | .efIlim _ => (.analogOut, .vdda)
  | .efTd _ _ | .td _ _ => (.diode, .vdda)
  | .seqPg _ | .seqUpIn | .seqDnIn | .shev _ => (.input, .vioB)
  | .twScl _ | .twSda _ => (.openDrain, .vioB)
  | .capline _ => (.rs485, .vin)
  | .sgTx _ _ | .hlTx _ => (.cmlOut, .vddSd)
  | .sgRx _ _ | .hlRx _ | .hlRefclk _ => (.cmlIn, .vddSd)
  | .mdio | .spiIo _ => (.both, .vioA)
  | .mdc | .tickOut | .hostIrq | .tdo => (.output, .vioA)
  | .wit _ => (.lvdsHalf, .vin)
  | .chTx _ _ => (.lvdsOut, .vin)
  | .chRx _ _ => (.lvdsIn, .vin)
  | .spiCsN | .spiSck | .wdi | .trefIn | .strap _ | .resetIn | .tck | .trstN | .tms | .tdi | .testMode => (.input, .vioA)
  | .wdo | .thermOut | .twarnOut => (.openDrain, .vioA)
  | .wake => (.input, .vbatKeep)

/-- The level a digital input reads while its bank is not good: that of its pull; none where it has no pull (R593, R621). -/
def BallName.pull : BallName → Option Bool
  | .seqUpIn | .seqDnIn | .spiSck | .trefIn | .strap _ | .tck | .trstN | .testMode | .wake => some false
  | .spiCsN | .resetIn | .tms | .tdi => some true
  | _ => none

/-- IDCODE of the JTAG port (R596). -/
def idcode : Word := 0x1250C967

end Sys2Proof.Machine
end

