-- ==== Sys2Proof/Machine/Balls.lean ====
section
/-! DEFINITION. What the digital output balls show in a state (R43, R80, R98, R105 to R107, R348, R349, R354, R370, R522, R593): the state
decided by the commands, or the safe level of R105 while a bank is low, the power-on reset is asserted or the vendor test state holds. -/

namespace Sys2Proof.Machine


/-- UNIT_OK is high (R106, R107, R99, R476). -/
def State.unitOk (s : State) : Bool :=
  s.bankLive 3 && s.outputsOn && s.due s.boot.unitOkAt && !s.boot.unitOkLow

/-- EF_ON[n] is high. -/
def State.efOn (s : State) (n : Fin 8) : Bool := s.bankLive 3 && (s.fuse n).on

/-- The code that sets the voltage on EF_ILIM[n]: 0, for 0 V, where the block's outputs are held at their safe levels (R105, R314, R596). -/
def State.efIlim (s : State) (n : Fin 8) : Nat := if s.served then (s.fuse n).ilim else 0

/-- STR_DISC[n] is high: the disconnect is closed. A unit that does not own the string keeps it low (R14, R16). -/
def State.strDisc (s : State) (n : Fin 8) : Bool := s.bankLive 3 && s.strsOwned.testBit n.val && s.strClosed n

/-- SEQ_EN[n] is high. -/
def State.seqEn (s : State) (n : Fin 24) : Bool := s.bankLive 3 && s.bitOn SEQ_EN_OUT_MASK n.val

/-- RST_OUT[k] is high, that is released (R348). -/
def State.rstOut (s : State) (k : Fin 8) : Bool :=
  s.bankLive 3 && s.rstCond k.val && !s.on SEQ_RST_TIME_ASSERTED k.val

/-- SHELF_GOOD is high (R349). -/
def State.shelfGood (s : State) : Bool := s.bankLive 3 && s.on RMN_SG_SG

/-- SEQ_UP_OUT and SEQ_DN_OUT are high (R354). -/
def State.seqUpOut (s : State) : Bool := s.bankLive 3 && s.on SEQ_CASC_UP_OUT
def State.seqDnOut (s : State) : Bool := s.bankLive 3 && s.on SEQ_CASC_DN_OUT

/-- HOST_IRQ is asserted (R80). -/
def State.hostIrq (s : State) : Bool := s.bankLive 2 && s.irqPages != 0

/-- WDO is driven low (R522). -/
def State.wdoLow (s : State) : Bool := s.bankLive 2 && s.get WDG_STATE_STATE == 3

/-- TWARN_OUT and THERM_OUT are driven low (R370). -/
def State.twarnOutLow (s : State) : Bool := s.bankLive 2 && s.twarnLow
def State.thermOutLow (s : State) : Bool := s.bankLive 2 && s.thermLow

/-- TICK_OUT is high in the first 500 ns of this tick (R43, on pair time under R460). -/
def State.tickOut (s : State) : Bool :=
  s.bankLive 2 && s.get TB_TICKOUT_PERIOD != 0 &&
  decide ((s.pairTick - s.get TB_TICKOUT_PH_PHASE) % (s.get TB_TICKOUT_PERIOD : Int) = 0)

end Sys2Proof.Machine
end

