-- ==== Sys2Proof/Machine/BoxTick.lean ====
section
/-! DEFINITION. What the black box records of a tick (R415, R416): one sample of every channel that is due, from the conversions, registers and
balls it names, and the level triggers that watch them (R425). -/

namespace Sys2Proof.Machine

/-- A signed 16-bit sample of a value in units of `lsb`, half to even, at most at the end of the range (R416). -/
def s16 (v : Int) (lsb : Int) : Int := clampI (-32768) 32767 (divHalfEven v lsb.toNat)

/-- The code of a bus voltage: of the converter that serves, of the latest monitor conversion where none does (R123, R124, R416). -/
def State.boxVolt (s : State) (h : Fin 2) : Option Int :=
  match s.afe.fast with
  | none => none
  | some p =>
    if h = 1 ∧ !s.halfB then none
    else match s.halfVIn h p with
      | some x => some (codeV (s.blended (codeV x.1, codeV x.2)))
      | none => (let m := s.afe.latest.get (if h = 0 then 58 else 59)
                 if m.valid then some (4 * m.code : Nat) else none)

/-- The code of a bus current: the sample at fine 0, or the one that is left (R124). -/
def State.boxAmps (s : State) (h : Fin 2) : Option Int :=
  match s.afe.fast with
  | none => none
  | some p => if h = 1 ∧ !s.halfB then none else (s.halfIIn h p).head?.map (fun x => codeI (s.blended (codeI x.1, codeI x.2)))

/-- The code of a check sample, where F2 serves. -/
def State.boxCheck (s : State) (h : Fin 2) : Option Int :=
  match s.afe.fast with
  | none => none
  | some p =>
    let x : Twice Int := if h = 0 then (p.1.vaChk, p.2.vaChk) else (p.1.vbChk, p.2.vbChk)
    if s.serving 2 && (h == 0 || s.halfB) then some (codeV (s.blended (codeV x.1, codeV x.2))) else none

/-- The code of a phase current. -/
def State.boxPhase (s : State) (n : Fin 16) : Option Int :=
  match s.afe.phIn with
  | none => none
  | some ph => if s.bitOn AFE_PH_CTRL_PH_EN n.val then some (codePh (s.blended (codePh (ph.get n).1, codePh (ph.get n).2))) else none

/-- The latest code of a monitor input. -/
def State.boxMonitor (s : State) (i : Nat) : Option Int :=
  let m := s.afe.latest.get (Fin.ofNat 64 i)
  if m.valid then some (m.code : Nat) else none

/-- The value of a source code of R142 that belongs to no slot: a slot's output is its latest, and 0xF0, a slot's own reference, is 0. -/
def State.sourceNow (s : State) (c : Nat) : Option Int :=
  if 0x80 ≤ c ∧ c < 0xC0 then some (s.slot (Fin.ofNat 64 (c - 0x80))).out
  else if c = 0xF0 then some 0
  else s.source 0 0 { meas := [], older := false, time := 0, vote := .agree, ded := none } c

/-- A selectable channel (R416): the word of `BBX_SEL` in force in the block. -/
def State.boxSelected (s : State) (k : Nat) : Option Int :=
  let w := s.bbx.sel.getD k 0
  if w.getLsbD 12 then (s.sourceNow (bitsOf w 0 8)).map (fun v => s16 v (2 ^ bitsOf w 8 4)) else some 0

/-- A bit field of eight levels. -/
def bits8 (f : Fin 8 → Bool) : Nat := maskOf (((List.finRange 8).filter f).map (fun n => n.val))

/-- The sample of channel `c` in this tick; `none` where its source is invalid or its half not sensed (R415, R416). -/
def State.boxSample (s : State) (c : Nat) : Option Int :=
  let fast : Fin 2 := if s.boxForce.2.1 then 1 else 0
  if c = 0 then s.boxVolt fast
  else if c = 1 then s.boxAmps fast
  else if c < 18 then s.boxPhase (Fin.ofNat 16 (c - 2))
  else if c = 18 then s.boxVolt (1 - fast)
  else if c = 19 then s.boxAmps (1 - fast)
  else if c < 22 then s.boxCheck (Fin.ofNat 2 (c - 20))
  else if c < 30 then (if s.valid AFE_I_NOW_VAL (c - 22) then some (s16 (s.getI AFE_I_NOW_VAL (c - 22)) 16) else none)
  else if c < 38 then s.boxMonitor (24 + (c - 30))
  else if c < 62 then s.boxMonitor (c - 38)
  else if c < 70 then s.boxMonitor (32 + (c - 62))
  else if c < 78 then s.boxMonitor (40 + (c - 70))
  else if c < 80 then s.boxMonitor (56 + (c - 78))
  else if c = 80 then s.boxMonitor 60
  else if c < 83 then (if s.valid CNV_DEM_D (c - 81) then some (s16 (s.getI CNV_DEM_D (c - 81)) 256) else none)
  else if c < 85 then (s.groupIShown (c - 83)).map (fun v => s16 v 256)
  else if c = 85 then s.refWord.map (fun v => clampI 0 65535 (divHalfEven v 10))
  else if c = 86 then (if s.valid CAP_P_BUS_P then some (s16 (s.getI CAP_P_BUS_P) 8000) else none)
  else if c = 87 then some (s.get SYS_VCORE_STAT_VCORE : Nat)
  else if c < 92 then s.boxSelected (c - 88)
  else if c = 92 then some (s.get SEQ_PG_IN_MASK % 65536 : Nat)
  else if c = 93 then some (s.get SEQ_PG_IN_MASK / 65536 + 256 * bits8 s.efOn : Nat)
  else if c = 94 then
    let shev := maskOf (((List.finRange 4).filter (fun j => s.bitOn CNV_ACF_STAT_SHEV_ASSERTED j.val)).map (fun j => j.val))
    let b (x : Bool) (n : Nat) : Nat := if x then 2 ^ n else 0
    some (bits8 s.strDisc + 256 * shev + b s.unitOk 12 + b s.shelfGood 13 + b s.thermOutLow 14 + b s.twarnOutLow 15 : Nat)
  else some (s.shelfWord % 256 + 256 * s.capL : Nat)

/-- A channel has a sample in this tick (R415). -/
def State.boxDue (s : State) (c : Nat) : Bool := decide (s.tick % 1000 % (1000 / chanSamples c) = 0)

/-- The channels' samples of this tick join the block. -/
def State.boxTake (s : State) : State :=
  let old := if s.tick % 1000 = 0 then [] else s.bbx.cur
  { s with bbx := { s.bbx with cur := (List.range 96).map (fun c => if s.boxDue c then s.boxSample c :: old.getD c [] else old.getD c []) } }

/-- Level trigger `k` takes the sample of its channel, and fires in its tick (R425). -/
def State.levelJudge (s : State) (k : Fin 4) : State :=
  let mode := s.get BBX_LVL_CFG_MODE k.val
  let c := s.get BBX_LVL_CFG_CH k.val
  if mode = 0 then { s with bbx := { s.bbx with lvl := s.bbx.lvl.set k {} } }
  else if !s.boxDue c then s
  else
    let p := (s.bbx.lvl.get k).sample mode (s.get BBX_LVL_CFG_QUAL k.val) (levelValue c (s.get BBX_LVL_THR_THR k.val))
      (levelValue c (s.get BBX_LVL_THR_HYST k.val)) ((s.bbx.cur.getD c []).headD none)
    ({ s with bbx := { s.bbx with lvl := s.bbx.lvl.set k p.1 } }).iff p.2 (fun s => s.triggerAt (17 + k.val) (s.fineOf 0) s.tick)

/-- What is recorded of a tick: at a block start what is configured comes into force; nothing is recorded while `BBX_CTRL.EN` is 0. -/
def State.boxTick (s : State) : State :=
  if s.boot.g.isNone then s
  else
    let s := s.iff (s.tick % 1000 == 0) State.boxLatch
    let s := s.iff ((s.tick + 1) % 1000 == 0) (fun s => { s with bbx := { s.bbx with nextLast := s.get EVR_HEAD_SEQ } })
    if !s.on BBX_CTRL_EN then { s with bbx := { s.bbx with cur := [] } }
    else s.boxTake.each (List.finRange 4) (fun s k => s.levelJudge k)

end Sys2Proof.Machine
end

