-- ==== Sys2Proof/Machine/TimeOps.lean ====
section
/-! DEFINITION. What the passing of a tick brings: the conditions that run on, the work the block does of itself between commands, and the
advance of the tick counter (R36, R42, R47). -/

namespace Sys2Proof.Machine

/-- The work of a tick before the counter advances. -/
def State.tickWork (s : State) : State :=
  let s := s.afeTick.syncTick.laneTick.thmTick.powerTick
  let s := s.seqTick.capWork.capSample.capTick 1
  let s := s.batTick.efuTick
  let s := s.sextTick.busQuiet.accTick
  let s := s.pairIdle.registrarIdle
  let s := s.shipTick
  let s := s.nvmTick
  let s := s.updTick
  s.bootTick.refresh.boxTick

/-- The counter advances by one tick (R36); on the check oscillator the place in the check cycle moves on with it (R42). -/
def State.tickAdvance (s : State) : State :=
  { s with
      tick := s.tick + 1
      tb := { s.tb with frac := if s.tb.onCheck then (s.tb.frac + 512) % 15625 else 0 } }

/-- A microsecond passes with the block in reset: the counter does not run (R34), and the wake domain counts ship time (R303). -/
def State.resetTime (s : State) : State :=
  if s.boot.shipLatch then { s with boot := { s.boot with shipTicks := s.boot.shipTicks + 1 } } else s

/-- The PG and cascade inputs at the start of a tick (R336, R353). -/
def State.pinJudge (s : State) : State := if s.boot.g.isNone then s else s.pgJudge.cascLine

/-- A tick passes. In the vendor test state and after a boundary-scan instruction the counter runs and no service does (R595, R596). -/
def State.idle (s : State) : State :=
  if s.boot.por then s.resetTime
  else if s.served then s.tickWork.tickAdvance.afeSample.phasesTick.vcoreTick.staleJudge.resetJudge.shevJudge.pinJudge.wdiQualify
  else s.tickAdvance

end Sys2Proof.Machine
end

