-- ==== Sys2Proof/Safety.lean ====
section
/-! DEFINITION. What counts as a sound state of the block: its sparse stores are in their one canonical form. A step stops only where a
command had no meaning; there is no such command, and no fault. -/

namespace Sys2Proof

/-- The registers are listed in rising order of address, none at its reset value, and the memory in rising order, no byte 0. -/
def Machine.State.sound (s : Machine.State) : Bool :=
  Machine.sparseWf Machine.regReset s.regs && Machine.Memory.wf s.mem

/-- The transitions of R22, from one power state to another. -/
def Machine.PowerState.mayFollow : Machine.PowerState → Machine.PowerState → Bool
  | .normal, .prearmed | .normal, .holdup | .prearmed, .holdup | .prearmed, .normal | .holdup, .ret | .ret, .holdup | .ret, .normal
  | .holdup, .exhausted | .ret, .exhausted | .exhausted, .normal | .normal, .ship => true
  | .halt, .halt | .ship, .halt => false
  | _, .halt => true
  | _, _ => false

/-- The command completes from `s`, and `P` holds of the next state. -/
def Machine.Runs (c : Instr) (s : Machine.State) (P : Machine.State → Prop) : Prop := ∃ t, Machine.exec c s = .next t ∧ P t

/-- The block serves the requester, and its write of the register at `a` is refused by no check of R71. -/
def Machine.State.mayWrite (s : Machine.State) (r : Requester) (a : Nat) : Bool := s.servesFor r && (s.writeError r a).isNone

/-- As `mayWrite`, for a field that its chapter reserves for a role (R487). -/
def Machine.State.mayCommand (s : Machine.State) (r : Requester) (a : Nat) (need : Machine.Role) : Bool :=
  s.mayWrite r a && (s.roleOf r).covers need

/-- The block serves the requester, and its read of the register at `a` is refused by no check of R71. -/
def Machine.State.mayRead (s : Machine.State) (r : Requester) (a : Nat) : Bool := s.servesFor r && (s.readError r a).isNone

/-- A PRAX request that the session `k` accepts in full service (R494): the link is up, the datagram reaches the port, its session is open,
its MAC is right, its number is new and its version is 1. -/
def Machine.State.praxAccepts (s : Machine.State) (d : Datagram) (type : Nat) (k : Fin 8) : Bool :=
  let u := s.incWrap Machine.HIF_FRAMES_RX d.eth.val
  s.on Machine.HIF_ETH_STAT_LINK d.eth.val && u.full && u.addressed d && (u.sessionOf d == some k) &&
    decide (d.mac = Machine.macOf (u.session k).key (Machine.praxBytes type d.sid.toNat d.seq.toNat d.body)) &&
    decide (d.seq.toNat ≠ (u.session k).seq) && decide ((d.seq.toNat + 2 ^ 32 - (u.session k).seq) % 2 ^ 32 < 2 ^ 31) && decide (d.version = 1)

/-- The state in which an accepted request takes effect: it is counted, its number is the session's last, and the idle time restarts. -/
def Machine.State.praxTaken (s : Machine.State) (d : Datagram) (k : Fin 8) : Machine.State :=
  let u := s.incWrap Machine.HIF_FRAMES_RX d.eth.val
  (u.setSession k { u.session k with seq := d.seq.toNat, lastTick := u.tick, reply := [] }).incWrap Machine.HIF_PRAX_CNT_REQUESTS

/-- The registers that `State.settle` recomputes. -/
def Machine.settled (a : Nat) : Bool :=
  a == Machine.SYS_SHELF_POWER.addr || a == Machine.SAF_COND_COND.addr || a == Machine.SAF_COVER_COVER.addr ||
    a == Machine.SAF_ACTIVE_ACTIVE.addr || a == Machine.SAF_STAT_GUARANTEED.addr || a == Machine.SAF_LOSS_TICK_TICK.addr

/-- The counter of an access error (R71). -/
def Machine.AccErr.counter : Machine.AccErr → Machine.Field
  | .unmapped => Machine.SYS_ACC_ERR_UNMAPPED
  | .unaligned => Machine.SYS_ACC_ERR_UNALIGNED
  | .role => Machine.SYS_ACC_ERR_ROLE
  | .locked => Machine.SYS_ACC_ERR_LOCKED

/-- Bytes below NVM are the same: the mailboxes, the coefficients, the Catalogue, the tables, Topsoil and Subsoil. -/
def Machine.sameRam (s t : Machine.State) : Prop := ∀ a, a < Machine.nvmBase → t.byte a = s.byte a

/-- The commands that may write memory: coefficients, mailboxes, tables, the Catalogue, Topsoil and Subsoil, NVM. Every other command only
reads it. -/
def Machine.stores : Instr → Bool
  | .powerOnResetAssert .. | .powerOnResetRelease .. | .kilnLoad .. | .greenwareStart .. | .outHoldRelease .. | .supplyBankChange ..
  | .resetInAssert | .resetInRelease | .coreRestart .. | .bootCheckComplete .. | .acFailAssert .. | .pickupQualified | .prearmClearQualified
  | .returnQualified | .returnLoadLost | .handbackRampComplete | .noStringClosedExpiry | .exhaustedRecovered | .tbSrcWrite ..
  | .xchkWindowEnd .. | .tickLatchRead .. | .multiwordLatchRead .. | .registerWrite .. | .aliasWrite .. | .crosscheckFaultDeclared ..
  | .calVisitAbort .. | .coefWindowWrite .. | .admissionComplete | .lpeDiscard .. | .tuneApply .. | .lptTblCommit .. | .tblSwap
  | .tblDataAccess .. | .phaseCycleStart .. | .peakComparatorTrip .. | .shortDetect .. | .allfire .. | .trimCycle | .rectBind ..
  | .rectStandbyCheck .. | .rectWakeTimeout .. | .rectSilent .. | .rectFaultClearTimer .. | .rectUnbind .. | .rectRetry .. | .curveStore
  | .batteryUpdate | .emptyQualified .. | .strIdConversion .. | .presenceChange .. | .batOpen .. | .batReseed .. | .batRestore ..
  | .batTblCommit .. | .batTblDataAccess .. | .strEnWrite .. | .stringTrip .. | .batRecordWrite | .wakeRestGiveup | .efuOn .. | .damageDetect ..
  | .seqUp .. | .seqDown .. | .seqClear .. | .pgDeglitchChange .. | .railQualified .. | .railEnRise .. | .rmonSample .. | .fltAct0Requalify ..
  | .rmnTest .. | .rmnTestEnd .. | .testTimeout | .p7EnFall .. | .seqRetryExpiry | .cascadeInputChange .. | .cascadeTimeout
  | .thermalGroupRecompute .. | .clkLowTimeout .. | .busClearComplete .. | .accessionPassStart | .xacPass .. | .accessionPassDone ..
  | .entrySilentTimeout .. | .deaccessionTimeout .. | .deaccede .. | .pollDue | .requestSubmit .. | .requestComplete | .requestTimeout
  | .hreqSubmit .. | .blackBoxBlock .. | .blackBoxTrigger .. | .bbxTriggerCmd .. | .strataCommitComplete | .eventDrain | .timeSave
  | .pairObject .. | .pairConfig .. | .pairCatalogue .. | .pairCommand .. | .pairBulk .. | .witnessPoll .. | .epoch .. | .epochEffective
  | .fence .. | .fenceTimeout | .fenceSelf .. | .spiRead .. | .spiWrite .. | .praxRead .. | .praxWrite .. | .praxWitness ..
  | .mailboxDataWrite .. | .wdgOpenPhaseEnd | .wdgSuspensionEnd | .bake .. | .bakeComplete .. | .wipeComplete | .tillingVisit ..
  | .eccCorrectRewrite | .chainBlock .. | .updActivate .. | .updRevert .. | .moduleBankReport | .moduleTimeout | .trialTimeout
  | .coreTaskBoundary .. | .coreBoundaryTimeout .. | .coreRelease .. | .sieveRead .. | .catalogueScheduleWrite .. => true
  | _ => false

/-- The commands that may change the power state: those that start the block anew, and those with which a condition of R22 is met. -/
def Machine.movesPower : Instr → Bool
  | .powerOnResetAssert .. | .powerOnResetRelease .. | .greenwareStart .. | .acFailAssert .. | .pickupQualified | .prearmClearQualified
  | .returnQualified | .returnLoadLost | .handbackRampComplete | .noStringClosedExpiry | .exhaustedRecovered | .allfire .. | .emptyQualified ..
  | .thermalGroupRecompute .. => true
  | _ => false

/-- A run of `n` steps that meets no fault and no refusal. -/
def Machine.State.safeFor (s : Machine.State) : Nat → Bool
  | 0 => true
  | n + 1 =>
    match Machine.step s with
    | .next t => Machine.State.safeFor t n
    | .fault _ => false
    | .refused _ => false

end Sys2Proof
end

