-- ==== Sys2Proof/Certificates/Slice0/Obligations.lean ====
section
/-! DEFINITION. The statements for the provers. The first say what holds of every command and of every step. Each of the others names a family
of commands and says of every form of each of them, under conditions on the state and the operands alone, that the command completes and with
what next state: the conditions of a clause are those of the rule named above it, and the clauses of one command
leave no case out but the refused accesses, of which RefusedCommands speaks. -/

section

open Sys2Proof
open Sys2Proof.Machine

/-- O1. A step of a state with a command at the front of its queue is exec of that command on the state with the rest of the queue; on an empty queue it
is the passing of a tick (log entry 25). -/
def Obligations.StepRunsFrontCommand : Prop :=
  (∀ (c : Instr) (s : State) (rest : List Instr), step { s with pending := c :: rest } = exec c { s with pending := rest }) ∧
  (∀ s : State, s.pending = [] → step s = .next s.idle)

/-- O2. After reset every register reads its reset value, the tick counter is 0, tick g has not come, the level is GREENWARE, the queue is empty and no
byte of memory is listed; that a byte nothing has written reads 0 is the model choice of log entry 7, and reset values the spec leaves to the die
or the start are those of log entry 3. -/
def Obligations.ResetState : Prop :=
  (∀ a, State.reset.reg a = regReset a) ∧ (∀ a, State.reset.byte a = 0) ∧ State.reset.tick = 0 ∧ State.reset.boot.g = none ∧
  State.reset.full = false ∧ State.reset.boot.por = false ∧ State.reset.power = .normal ∧ State.reset.pending = [] ∧ State.reset.mem = []

/-- O3. The state after reset has its registers and its memory in canonical form, and no tick of its clocks lies in the future. -/
def Obligations.ResetSound : Prop :=
  State.reset.sound = true ∧ State.reset.powerSince ≤ State.reset.tick ∧ ∀ g, State.reset.boot.g = some g → g ≤ State.reset.tick

/-- O4. From every state whose registers and memory are in canonical form, every step that answers a next state leaves them in canonical form: no command
and no tick lists a register at its reset value, a byte that is 0, or an address twice. -/
def Obligations.StepKeepsSound : Prop :=
  ∀ s t : State, s.sound = true → step s = .next t → t.sound = true

/-- O5. From every state in which the entry of the power state and tick g lie no later than the tick counter, every step leaves them so; the power-on
reset puts the counter and both of them back together. -/
def Obligations.StepKeepsClocks : Prop :=
  ∀ s t : State, s.powerSince ≤ s.tick → (∀ g, s.boot.g = some g → g ≤ s.tick) → step s = .next t →
  t.powerSince ≤ t.tick ∧ ∀ g, t.boot.g = some g → g ≤ t.tick

/-- O6. Whatever command runs, its next state has the queue it was run with; and every command in every state answers a next state. -/
def Obligations.ExecKeepsQueue : Prop :=
  ∀ (c : Instr) (s : State), ∃ t, exec c s = .next t ∧ t.pending = s.pending

/-- O7. No command but the two of the power-on reset moves the tick counter, and these leave it or put it at 0; a passing tick adds 1, but for the time
before the power-on reset is released. -/
def Obligations.OnlyTicksMoveTheCounter : Prop :=
  (∀ (c : Instr) (s t : State), exec c s = .next t → t.tick = s.tick ∨
    (t.tick = 0 ∧ ((∃ n, c = .powerOnResetAssert n) ∨ ∃ b, c = .powerOnResetRelease b))) ∧
  (∀ s : State, s.idle.tick = if s.boot.por then s.tick else s.tick + 1)

/-- O8. Whatever command runs, the power state and the tick of its entry stay, or the state goes by a transition of the table of R22 out of the state the
tick began in, and its entry is this tick; where a transition was taken in this tick already, the new one comes before it in the order of R25
(log entry 11); the only other commands that set it are those of the power-on reset and GREENWARE_START, with which NORMAL begins (R104). The
same holds of a passing tick. -/
def Obligations.PowerStateMoves : Prop :=
  (∀ (c : Instr) (s t : State), exec c s = .next t → (∀ n, c ≠ .powerOnResetAssert n) → (∀ b, c ≠ .powerOnResetRelease b) →
    (∀ x y z w, c ≠ .greenwareStart x y z w) →
    (t.power = s.power ∧ t.powerSince = s.powerSince) ∨ (s.powerWas.moves t.power = true ∧ t.powerSince = s.tick ∧
      (s.powerSince = s.tick → t.power.rank < s.power.rank))) ∧
  (∀ s : State, (s.idle.power = s.power ∧ s.idle.powerSince = s.powerSince) ∨ (s.powerWas.moves s.idle.power = true ∧ s.idle.powerSince = s.tick ∧
      (s.powerSince = s.tick → s.idle.power.rank < s.power.rank)))

/-- O9. From HALT, after tick g and with the power-on reset not asserted, every step stays in HALT unless its command is POWER_ON_RESET_ASSERT (R24). -/
def Obligations.HaltIsLatched : Prop :=
  ∀ s t : State, s.power = .halt → s.boot.g.isSome = true → s.boot.por = false → step s = .next t →
  t.power = .halt ∨ ∃ n rest, s.pending = .powerOnResetAssert n :: rest

/-- O10. Once tick g has come, every step leaves it, unless its command is one of the power-on reset. -/
def Obligations.TickGIsSetOnce : Prop :=
  ∀ (s t : State) (g : Nat), s.boot.g = some g → step s = .next t → t.boot.g = some g ∨
  (∃ n rest, s.pending = .powerOnResetAssert n :: rest) ∨ ∃ b rest, s.pending = .powerOnResetRelease b :: rest

/-- O11. The counter from which free values are drawn (the model field of log entry 1) never falls, whatever step is taken. -/
def Obligations.FreeValuesAreDrawnOnce : Prop :=
  ∀ s t : State, step s = .next t → s.free ≤ t.free

/-- O12. A command that is none of the storing ones leaves every byte of every memory as it read before: of mailbox data, coefficients, tables, the
Catalogue, Topsoil, Subsoil and NVM. Which commands store is read off what their rules write. -/
def Obligations.OnlyStoringCommandsStore : Prop :=
  ∀ (c : Instr) (s t : State), stores c = false → exec c s = .next t → ∀ a, t.byte a = s.byte a

/-- O13. A command that neither starts the block anew nor carries a condition of R22 leaves the power state and the tick of its entry; a passing tick may
move them (PowerStateMoves). -/
def Obligations.OnlyPowerCommandsMoveThePowerState : Prop :=
  ∀ (c : Instr) (s t : State), movesPower c = false → exec c s = .next t → t.power = s.power ∧ t.powerSince = s.powerSince

/-- O14. The derived registers that close a command are SYS_SHELF and the five of the safe-state summary; every other register, every byte of memory, the
tick, the power state and the blocks stay as they were. -/
def Obligations.SettleFrame : Prop :=
  ∀ s : State, (∀ a, settled a = false → s.settle.reg a = s.reg a) ∧ s.settle.mem = s.mem ∧ s.settle.tick = s.tick ∧ s.settle.power = s.power ∧
  s.settle.boot = s.boot ∧ s.settle.cnv = s.cnv ∧ s.settle.bat = s.bat ∧ s.settle.seq = s.seq ∧ s.settle.efu = s.efu ∧ s.settle.shr = s.shr ∧
  s.settle.twb = s.twb ∧ s.settle.hlk = s.hlk ∧ s.settle.nvm = s.nvm ∧ s.settle.ports = s.ports

/-- O15. A register field reads back what the model writes to it, cut to its width; every element of a field that shares no bit with it, and every byte of
memory, reads as before. -/
def Obligations.FieldReadsBack : Prop :=
  (∀ (s : State) (f : Field) (v i : Nat), f.bit i + f.width ≤ 32 → (s.set f v i).get f i = v % 2 ^ f.width) ∧
  (∀ (s : State) (f g : Field) (v i j : Nat), (g.at j ≠ f.at i ∨ g.bit j + g.width ≤ f.bit i ∨ f.bit i + f.width ≤ g.bit j) →
    (s.set f v i).get g j = s.get g j) ∧
  (∀ (s : State) (f : Field) (v i a : Nat), (s.set f v i).byte a = s.byte a)

/-- O16. An access is one 32-bit word: at an address that is not a multiple of 4 it is refused, and a stored word has bits 7 to 0 at the lowest byte
address, the next bits above it, and is read back whole. -/
def Obligations.WordsAreLittleEndian : Prop :=
  (∀ (s : State) (r : Requester) (a : Nat) (w : Word), a % 4 ≠ 0 →
    (s.wordRead r a).2.2 = AccErr.unaligned.code ∧ (s.wordWrite r a w).2 = AccErr.unaligned.code) ∧
  (∀ (s : State) (a : Nat) (w : Word), (s.store a w).byte a = w.extractLsb' 0 8 ∧ (s.store a w).byte (a + 1) = w.extractLsb' 8 8 ∧
    (s.store a w).byte (a + 2) = w.extractLsb' 16 8 ∧ (s.store a w).byte (a + 3) = w.extractLsb' 24 8 ∧ (s.store a w).load a = w)

/-- O17. An access is refused with the first kind that applies in the order UNALIGNED, UNMAPPED (a write to a read-only window too), ROLE, LOCKED; the
requester gets the code of that kind; a refused read returns 0; a refused access changes no byte of memory and no register but the counters and
reports of access errors, and the counter of its own kind, and no other kind, goes up by one until it saturates. -/
def Obligations.AccessErrors : Prop :=
  (∀ (s : State) (r : Requester) (a : Nat), a % 4 ≠ 0 → s.readError r a = some .unaligned ∧ s.writeError r a = some .unaligned) ∧
  (∀ (s : State) (r : Requester) (a : Nat), a % 4 = 0 → target a = .unmapped → s.readError r a = some .unmapped) ∧
  (∀ (s : State) (r : Requester) (a : Nat), a % 4 = 0 → target a = .unmapped ∨ (target a).readOnly = true ∨ coefFixed (target a) = true → s.writeError r a = some .unmapped) ∧
  (∀ (s : State) (r : Requester) (a : Nat), a % 4 = 0 → target a ≠ .unmapped → (s.roleOf r).covers (readNeed (target a)) = false →
    s.readError r a = some .role) ∧
  (∀ (s : State) (r : Requester) (a : Nat), a % 4 = 0 → target a ≠ .unmapped → (target a).readOnly = false → coefFixed (target a) = false →
    (s.roleOf r).covers (writeNeed (target a)) = false → s.writeError r a = some .role) ∧
  (∀ (s : State) (r : Requester) (a : Nat), a % 4 = 0 → target a ≠ .unmapped → (target a).readOnly = false → coefFixed (target a) = false →
    (s.roleOf r).covers (writeNeed (target a)) = true → s.lockedAt (target a) = true → s.writeError r a = some .locked) ∧
  (∀ (s : State) (r : Requester) (a : Nat) (e : AccErr), s.readError r a = some e → s.wordRead r a = (s.refuse r a e, 0, e.code)) ∧
  (∀ (s : State) (r : Requester) (a : Nat) (w : Word) (e : AccErr), s.writeError r a = some e → s.wordWrite r a w = (s.refuse r a e, e.code)) ∧
  (∀ (s : State) (r : Requester) (a : Nat) (e : AccErr), (s.refuse r a e).mem = s.mem ∧
    (∀ b, b ∉ [SYS_ACC_ERR_UNMAPPED.addr, SYS_ACC_ERR_UNALIGNED.addr, SYS_ACC_ERR_ROLE.addr, SYS_ACC_ERR_LOCKED.addr, CCK_LOCK_REJ_REJ.addr,
      HIF_SPI_STAT_ERRORS.addr, HIF_SPI_LAST_ADDR.addr, HIF_SPI_LAST_CODE.addr] → (s.refuse r a e).reg b = s.reg b) ∧
    (∀ k : AccErr, (s.refuse r a e).get k.counter = if k = e then min (s.get k.counter + 1) (2 ^ k.counter.width - 1) else s.get k.counter))

/-- O18. A command that is a register write, sent where its write is refused by a check of R71, does what a refused access does and nothing else; one
whose requester is not served does nothing. -/
def Obligations.RefusedCommands : Prop :=
  ∀ (s : State) (r : Requester) (a : Nat) (q : Role) (f : State → State) (e : AccErr),
  (s.servesFor r = true → s.writeError r a = some e → s.gate r a f = s.refuse r a e ∧ s.gateRole r a q f = s.refuse r a e) ∧
  (s.mayWrite r a = true → (s.roleOf r).covers q = false → s.gateRole r a q f = s.refuse r a .role) ∧
  (s.servesFor r = false → s.gate r a f = s ∧ s.gateRole r a q f = s)

/-- O19. Supply, power-on reset, straps, the Kiln load and tick g. Each of these commands completes, in every state and for every operand that meet the
conditions of the clause, which are conditions on them alone and are those of the rule named with it, and the next state is the one given, with
the command's own effect; the clauses take in every form of the command, among them the states in which the rule gives it nothing to do; of a
command that writes or reads a register they take in the accesses that R71 lets pass, and RefusedCommands says what one that is refused does:
VIN_GOOD (R96), POWER_ON_RESET_ASSERT (R99), POWER_ON_RESET_RELEASE (R96), STRAP_LATCH (R101), KILN_LOAD (R539), GREENWARE_START (R106),
OUT_HOLD_RELEASE (R107), SUPPLY_BANK_CHANGE (R98), JTAG_EXTEST (R596), WAKE (R304), VBAT_KEEP_LOSS (R304). -/
def Obligations.SupplyAndStart : Prop :=
  -- VIN_GOOD (R96)
  (∀ s : State, exec .vinGood s = .next ({ s with boot := { s.boot with vinGood := true } })) ∧
  -- POWER_ON_RESET_ASSERT (R99)
  (∀ (steps : Fin 65) (s : State), s.boot.por → exec (.powerOnResetAssert steps) s = .next ({ s with boot := { s.boot with vinGood := false } })) ∧
  (∀ (steps : Fin 65) (s : State), ¬s.boot.por → (let torn := s.tornNow; let s := (s.wipeCut steps.val).powerOff;
    let s := { s with nvm := { s.nvm with torn := torn }, boot := { s.boot with vinGood := false, brownFlag := true, brownCount := min (s.boot.brownCount + 1) 0xFFFFFFFF } };
    s.boot.vbatKeep) → exec (.powerOnResetAssert steps) s = .next (let torn := s.tornNow; let s := (s.wipeCut steps.val).powerOff;
    let s := { s with nvm := { s.nvm with torn := torn }, boot := { s.boot with vinGood := false, brownFlag := true, brownCount := min (s.boot.brownCount + 1) 0xFFFFFFFF } };
    s)) ∧
  (∀ (steps : Fin 65) (s : State), ¬s.boot.por → ¬(let torn := s.tornNow; let s := (s.wipeCut steps.val).powerOff;
    let s := { s with nvm := { s.nvm with torn := torn }, boot := { s.boot with vinGood := false, brownFlag := true, brownCount := min (s.boot.brownCount + 1) 0xFFFFFFFF } };
    s.boot.vbatKeep) → exec (.powerOnResetAssert steps) s = .next (let torn := s.tornNow; let s := (s.wipeCut steps.val).powerOff;
    let s := { s with nvm := { s.nvm with torn := torn }, boot := { s.boot with vinGood := false, brownFlag := true, brownCount := min (s.boot.brownCount + 1) 0xFFFFFFFF } };
    s.wakeForget)) ∧
  (∀ (n : Fin 65) (s : State), s.boot.por = false → Runs (.powerOnResetAssert n) s (fun t =>
  t.boot.por = true ∧ t.boot.vinGood = false ∧ t.boot.g = none ∧ t.tick = 0 ∧ t.regs = [] ∧ t.pending = s.pending)) ∧
  -- POWER_ON_RESET_RELEASE (R96)
  (∀ (testMode : Bool) (s : State), (!s.boot.por ∨ !s.boot.vinGood ∨ s.boot.shipLatch) → exec (.powerOnResetRelease testMode) s = .next s) ∧
  (∀ (testMode : Bool) (s : State), ¬(!s.boot.por ∨ !s.boot.vinGood ∨ s.boot.shipLatch) →
    exec (.powerOnResetRelease testMode) s = .next (let b := s.boot; let s := s.powerOff;
    let s := { s with boot := { s.boot with por := false, brownFlag := false, prevHalt := false, woke := false, testState := testMode } };
    let s := (s.set SYS_RST_CAUSE_CAUSE (if b.woke then 2 else if b.brownFlag then 1 else 0)).setB SYS_RST_CAUSE_PREV_HALT b.prevHalt;
    let s := (s.set SYS_BROWNOUT_CNT_COUNT b.brownCount).set SYS_SUPPLY_STAT_GOOD (if b.vbatKeep then 35 else 3); s.settle)) ∧
  (∀ (b : Bool) (s : State), s.boot.por = true → s.boot.vinGood = true → s.boot.shipLatch = false → Runs (.powerOnResetRelease b) s (fun t =>
  t.boot.por = false ∧ t.boot.testState = b ∧ t.boot.g = none ∧ t.tick = 0 ∧ t.pending = s.pending ∧
  t.get SYS_RST_CAUSE_CAUSE = (if s.boot.woke then 2 else if s.boot.brownFlag then 1 else 0) ∧
  t.on SYS_RST_CAUSE_PREV_HALT = s.boot.prevHalt)) ∧
  -- STRAP_LATCH (R101)
  (∀ (samples : Vector (BitVec 6) 8) (s : State), (s.boot.por ∨ s.boot.strapped ∨ s.tick < 7) → exec (.strapLatch samples) s = .next s) ∧
  (∀ (samples : Vector (BitVec 6) 8) (s : State), ¬(s.boot.por ∨ s.boot.strapped ∨ s.tick < 7) → (samples.toList.all (fun x => x == samples.get 7)) →
    exec (.strapLatch samples) s = .next (let s := { s with boot := { s.boot with strapped := true } };
    let s := s.set SYS_STRAP_LATCHED (samples.get 7).toNat; s.settle)) ∧
  (∀ (samples : Vector (BitVec 6) 8) (s : State), ¬(s.boot.por ∨ s.boot.strapped ∨ s.tick < 7) → ¬(samples.toList.all (fun x => x == samples.get 7)) →
    exec (.strapLatch samples) s = .next (let s := { s with boot := { s.boot with strapped := true } };
    let s := s.set SYS_STRAP_LATCHED (samples.get 7).toNat;
    let s := (s.setB SYS_STRAP_UNSTABLE true).event .strapUnstable 0 (samples.toList.map (fun x => (x.toNat : Int))); s.settle)) ∧
  (∀ (l : Vector (BitVec 6) 8) (s : State), s.boot.por = false → s.boot.strapped = false → 7 ≤ s.tick → Runs (.strapLatch l) s (fun t =>
  t.boot.strapped = true ∧ t.get SYS_STRAP_LATCHED = (l.get 7).toNat ∧ t.mem = s.mem)) ∧
  -- KILN_LOAD (R539)
  (∀ (us : BitVec 16) (s : State), (s.boot.por ∨ s.boot.testState ∨ !s.boot.strapped ∨ s.boot.kilnLoaded) → exec (.kilnLoad us) s = .next s) ∧
  (∀ (us : BitVec 16) (s : State), ¬(s.boot.por ∨ s.boot.testState ∨ !s.boot.strapped ∨ s.boot.kilnLoaded) →
    exec (.kilnLoad us) s = .next (let s := s.kilnRead us.toNat;
    let s := { s with cck := { s.cck with first := some (s.tick + 1) }, boot := { s.boot with kilnLoaded := true, kilnAt := s.tick, scanned := false, beginAt := some (s.tick + 1) } };
    let s := ((s.stamp SYS_T_KILN_TICK).setBit SYS_BOOT_STAT_DONE 0 true).showSelector; ((s.ethShow 0).ethShow 1).settle)) ∧
  (∀ (us : BitVec 16) (s : State), s.boot.por = false → s.boot.testState = false → s.boot.strapped = true → s.boot.kilnLoaded = false →
  Runs (.kilnLoad us) s (fun t => t.boot.kilnLoaded = true ∧ t.boot.scanned = false ∧ t.tick = s.tick ∧ t.boot.beginAt = some (s.tick + 1) ∧
    t.cck.first = some (s.tick + 1))) ∧
  -- GREENWARE_START (R106)
  (∀ (ef str : BitVec 8) (pg : BitVec 24) (rails : Bool) (s : State), (s.boot.por ∨ !s.boot.kilnLoaded ∨ s.boot.g.isSome) →
    exec (.greenwareStart ef str pg rails) s = .next s) ∧
  (∀ (ef str : BitVec 8) (pg : BitVec 24) (rails : Bool) (s : State), ¬(s.boot.por ∨ !s.boot.kilnLoaded ∨ s.boot.g.isSome) →
    exec (.greenwareStart ef str pg rails) s = .next (let s := { s with power := .normal, powerSince := s.tick, boot := { s.boot with g := some s.tick }, cap := { s.cap with lastDecision := s.tick } };
    let s := ((s.stamp SYS_T_GW_TICK).setBit SYS_BOOT_STAT_DONE 1 true).mapAtStart;
    let s := s.iff (s.unitRole == 3) (fun s => { s with hlk := { s.hlk with reg := { s.hlk.reg with since := some s.tick } } });
    let s := ((s.setI CNV_TGT_SETPOINT (s.get CNV_VSET_VSET)).loopsAtStart.stringsAtStart).refStart; let s := (s.twbEval).bindingsAtStart;
    let s := s.pgAtStart pg.toNat;
    let s := (if s.bitOn SYS_STRAP_LATCHED 3 then s else s.decideAll { ef := ef.toNat, str := str.toNat, rails := rails });
    s.calStart.tryFull.settle)) ∧
  (∀ (ef str : BitVec 8) (pg : BitVec 24) (rails : Bool) (s : State), s.boot.por = false → s.boot.kilnLoaded = true → s.boot.g = none →
  Runs (.greenwareStart ef str pg rails) s (fun t => t.boot.g = some s.tick ∧ t.power = .normal ∧ t.powerSince = s.tick ∧ t.tick = s.tick)) ∧
  -- OUT_HOLD_RELEASE (R107)
  (∀ (r : Requester) (s : State), s.mayWrite r SYS_OUT_HOLD_RELEASE.addr = true → (let s := s.touch r;
    s.boot.g.isSome && s.bitOn SYS_STRAP_LATCHED 3 && !s.boot.decided) → exec (.outHoldRelease r) s = .next (let s := s.touch r;
    (s.decideAll s.liveNow).settle)) ∧
  (∀ (r : Requester) (s : State), s.mayWrite r SYS_OUT_HOLD_RELEASE.addr = true → ¬(let s := s.touch r;
    s.boot.g.isSome && s.bitOn SYS_STRAP_LATCHED 3 && !s.boot.decided) → exec (.outHoldRelease r) s = .next (let s := s.touch r; s)) ∧
  -- SUPPLY_BANK_CHANGE (R98)
  (∀ (k : Fin 6) (good v33 : Bool) (s : State), (k.val = 5) → good →
    exec (.supplyBankChange k good v33) s = .next ({ s with boot := { s.boot with vbatKeep := true } }.iff (!s.boot.por) (fun s => s.setBit SYS_SUPPLY_STAT_GOOD 5 true))) ∧
  (∀ (k : Fin 6) (good v33 : Bool) (s : State), (k.val = 5) → ¬good →
    exec (.supplyBankChange k good v33) s = .next (let s := { s.wakeForget with boot := { s.wakeForget.boot with vbatKeep := false } };
    s.iff (!s.boot.por) (fun s => (s.setBit SYS_SUPPLY_STAT_GOOD 5 false).set SYS_BROWNOUT_CNT_COUNT 0))) ∧
  (∀ (k : Fin 6) (good v33 : Bool) (s : State), ¬(k.val = 5) → (s.boot.por ∨ s.bitOn SYS_SUPPLY_STAT_GOOD k.val = good) →
    exec (.supplyBankChange k good v33) s = .next s) ∧
  (∀ (k : Fin 6) (good v33 : Bool) (s : State), ¬(k.val = 5) → ¬(s.boot.por ∨ s.bitOn SYS_SUPPLY_STAT_GOOD k.val = good) →
    exec (.supplyBankChange k good v33) s = .next (let s := s.setBit SYS_SUPPLY_STAT_GOOD k.val good;
    let s := s.iff (good && (k.val == 2 || k.val == 3)) (fun s => s.setBit SYS_SUPPLY_STAT_VIO_3V3 (k.val - 2) v33);
    let s := s.iff (decide (2 ≤ k.val)) (fun s => s.event .supplyBank 0 [k.val, if good then 1 else 0]);
    let s := s.iff (k.val == 4) (fun s => (s.iff (!good) State.linkDown).ethShowAll);
    let s := s.iff (!good && k.val == 2) (fun s => s.resetBall false);
    let s := s.iff (!good && k.val == 3) (fun s => (s.cascBall true false).cascBall false false); let s := s.iff (good && k.val == 3) State.twbEval;
    s.settle)) ∧
  -- JTAG_EXTEST (R596)
  (∀ s : State, s.boot.por → exec .jtagExtest s = .next s) ∧
  (∀ s : State, ¬s.boot.por → exec .jtagExtest s = .next ({ s with boot := { s.boot with serviceEnded := true, unitOkLow := true } })) ∧
  -- WAKE (R304)
  (∀ s : State, (s.boot.por ∧ s.boot.shipLatch) →
    exec .wake s = .next ({ s with boot := { s.boot with shipLatch := false, woke := true, shipTime := s.boot.shipTicks / 1000000 } })) ∧
  (∀ s : State, ¬(s.boot.por ∧ s.boot.shipLatch) → exec .wake s = .next s) ∧
  -- VBAT_KEEP_LOSS (R304)
  (∀ s : State, exec .vbatKeepLoss s = .next (let s := { s.wakeForget with boot := { s.wakeForget.boot with vbatKeep := false } };
    s.iff (!s.boot.por) (fun s => (s.setBit SYS_SUPPLY_STAT_GOOD 5 false).set SYS_BROWNOUT_CNT_COUNT 0)))

/-- O20. Core reset and start, the boot check, calibration attempts. Each of these commands completes, in every state and for every operand that meet the
conditions of the clause, which are conditions on them alone and are those of the rule named with it, and the next state is the one given, with
the command's own effect; the clauses take in every form of the command, among them the states in which the rule gives it nothing to do; of a
command that writes or reads a register they take in the accesses that R71 lets pass, and RefusedCommands says what one that is refused does:
RESET_IN_ASSERT (R100), RESET_IN_RELEASE (R100), CORE_RESTART (R100), BOOT_CHECK_COMPLETE (R112), CAL_ATTEMPT_COMPLETE (R110), CAL_RETRY_TIMER
(R110), CAL_RETRY_CMD (R110). -/
def Obligations.CoresAndCalibration : Prop :=
  -- RESET_IN_ASSERT (R100)
  (∀ s : State, (let s := s.resetBall true; !s.debounced || s.balls.rstLow == s.boot.resetIn) →
    exec .resetInAssert s = .next (let s := s.resetBall true; s)) ∧
  (∀ s : State, ¬(let s := s.resetBall true; !s.debounced || s.balls.rstLow == s.boot.resetIn) → (let s := s.resetBall true; s.balls.rstLow) →
    (let s := s.resetBall true; let s := { s with boot := { s.boot with resetIn := true } }; !s.on SYS_CTRL_CORE_RST_EN) →
    exec .resetInAssert s = .next (let s := s.resetBall true; let s := { s with boot := { s.boot with resetIn := true } }; s)) ∧
  (∀ s : State, ¬(let s := s.resetBall true; !s.debounced || s.balls.rstLow == s.boot.resetIn) → (let s := s.resetBall true; s.balls.rstLow) →
    ¬(let s := s.resetBall true; let s := { s with boot := { s.boot with resetIn := true } }; !s.on SYS_CTRL_CORE_RST_EN) →
    (let s := s.resetBall true; let s := { s with boot := { s.boot with resetIn := true } }; s.boot.coresStarted) →
    exec .resetInAssert s = .next (let s := s.resetBall true; let s := { s with boot := { s.boot with resetIn := true } }; s.coreRestart.settle)) ∧
  (∀ s : State, ¬(let s := s.resetBall true; !s.debounced || s.balls.rstLow == s.boot.resetIn) → (let s := s.resetBall true; s.balls.rstLow) →
    ¬(let s := s.resetBall true; let s := { s with boot := { s.boot with resetIn := true } }; !s.on SYS_CTRL_CORE_RST_EN) →
    ¬(let s := s.resetBall true; let s := { s with boot := { s.boot with resetIn := true } }; s.boot.coresStarted) →
    exec .resetInAssert s = .next (let s := s.resetBall true; let s := { s with boot := { s.boot with resetIn := true } };
    ({ s with boot := { s.boot with check := none } }).event .bootHeld)) ∧
  (∀ s : State, ¬(let s := s.resetBall true; !s.debounced || s.balls.rstLow == s.boot.resetIn) → ¬(let s := s.resetBall true; s.balls.rstLow) →
    (let s := s.resetBall true; let s := { s with boot := { s.boot with resetIn := false } };
    s.on SYS_CTRL_CORE_RST_EN ∧ !s.boot.firmware ∧ s.boot.check.isNone) → exec .resetInAssert s = .next (let s := s.resetBall true;
    let s := { s with boot := { s.boot with resetIn := false } }; s.bootStart.settle)) ∧
  (∀ s : State, ¬(let s := s.resetBall true; !s.debounced || s.balls.rstLow == s.boot.resetIn) → ¬(let s := s.resetBall true; s.balls.rstLow) →
    ¬(let s := s.resetBall true; let s := { s with boot := { s.boot with resetIn := false } };
    s.on SYS_CTRL_CORE_RST_EN ∧ !s.boot.firmware ∧ s.boot.check.isNone) → exec .resetInAssert s = .next (let s := s.resetBall true;
    let s := { s with boot := { s.boot with resetIn := false } }; s)) ∧
  -- RESET_IN_RELEASE (R100)
  (∀ s : State, (let s := s.resetBall false; !s.debounced || s.balls.rstLow == s.boot.resetIn) →
    exec .resetInRelease s = .next (let s := s.resetBall false; s)) ∧
  (∀ s : State, ¬(let s := s.resetBall false; !s.debounced || s.balls.rstLow == s.boot.resetIn) → ¬(let s := s.resetBall false; s.balls.rstLow) →
    (let s := s.resetBall false; let s := { s with boot := { s.boot with resetIn := false } };
    s.on SYS_CTRL_CORE_RST_EN ∧ !s.boot.firmware ∧ s.boot.check.isNone) → exec .resetInRelease s = .next (let s := s.resetBall false;
    let s := { s with boot := { s.boot with resetIn := false } }; s.bootStart.settle)) ∧
  (∀ s : State, ¬(let s := s.resetBall false; !s.debounced || s.balls.rstLow == s.boot.resetIn) → ¬(let s := s.resetBall false; s.balls.rstLow) →
    ¬(let s := s.resetBall false; let s := { s with boot := { s.boot with resetIn := false } };
    s.on SYS_CTRL_CORE_RST_EN ∧ !s.boot.firmware ∧ s.boot.check.isNone) → exec .resetInRelease s = .next (let s := s.resetBall false;
    let s := { s with boot := { s.boot with resetIn := false } }; s)) ∧
  -- CORE_RESTART (R100)
  (∀ (r : Requester) (w : Word) (s : State), s.mayCommand r SYS_RESET_CMD_CORE_RESTART.addr .curator = true → ¬(let w : Word := w ||| 0x10000;
    bitsOf w 16 1 = 0) → (let w : Word := w ||| 0x10000; bitsOf w 0 16 = 0x9484) → exec (.coreRestart r w) s = .next (let s := s.touch r;
    s.coreRestart.settle)) ∧
  (∀ (r : Requester) (w : Word) (s : State), s.mayCommand r SYS_RESET_CMD_CORE_RESTART.addr .curator = true → ¬(let w : Word := w ||| 0x10000;
    bitsOf w 16 1 = 0) → ¬(let w : Word := w ||| 0x10000; bitsOf w 0 16 = 0x9484) → exec (.coreRestart r w) s = .next (let s := s.touch r;
    let w : Word := w ||| 0x10000; s.event .resetKeyWrong 0 [bitsOf w 0 16])) ∧
  -- BOOT_CHECK_COMPLETE (R112)
  (∀ (sig : Bool) (bad : Unit) (s : State), (s.boot.check = none) → exec (.bootCheckComplete sig bad) s = .next s) ∧
  (∀ (sig : Bool) (bad : Unit) (s : State) slot t second, (s.boot.check = some (slot, t, second)) →
    (let s := { s with boot := { s.boot with check := none } }; let s := s.set SYS_FW_STAT_BOOT_MS (min ((s.tick - t + 999) / 1000) 255);
    s.selector.trial) →
    ((let s := { s with boot := { s.boot with check := none } }; let s := s.set SYS_FW_STAT_BOOT_MS (min ((s.tick - t + 999) / 1000) 255); let m := s.slotManifest slot; s.trialVerdict m slot sig) = none) →
    exec (.bootCheckComplete sig bad) s = .next (let s := { s with boot := { s.boot with check := none } };
    let s := s.set SYS_FW_STAT_BOOT_MS (min ((s.tick - t + 999) / 1000) 255); let m := s.slotManifest slot; s.trialPass m slot)) ∧
  (∀ (sig : Bool) (bad : Unit) (s : State) slot t second result part, (s.boot.check = some (slot, t, second)) →
    (let s := { s with boot := { s.boot with check := none } }; let s := s.set SYS_FW_STAT_BOOT_MS (min ((s.tick - t + 999) / 1000) 255);
    s.selector.trial) →
    ((let s := { s with boot := { s.boot with check := none } }; let s := s.set SYS_FW_STAT_BOOT_MS (min ((s.tick - t + 999) / 1000) 255); let m := s.slotManifest slot; s.trialVerdict m slot sig) = some (result, part)) →
    exec (.bootCheckComplete sig bad) s = .next (let s := { s with boot := { s.boot with check := none } };
    let s := s.set SYS_FW_STAT_BOOT_MS (min ((s.tick - t + 999) / 1000) 255); ((s.event .bootCheckFailed 0 [slot]).revertBegin result part).settle)) ∧
  (∀ (sig : Bool) (bad : Unit) (s : State) slot t second, (s.boot.check = some (slot, t, second)) →
    ¬(let s := { s with boot := { s.boot with check := none } }; let s := s.set SYS_FW_STAT_BOOT_MS (min ((s.tick - t + 999) / 1000) 255);
    s.selector.trial) → (let s := { s with boot := { s.boot with check := none } };
    let s := s.set SYS_FW_STAT_BOOT_MS (min ((s.tick - t + 999) / 1000) 255); sig && s.keyUsable (s.slotManifest slot)) →
    exec (.bootCheckComplete sig bad) s = .next (let s := { s with boot := { s.boot with check := none } };
    let s := s.set SYS_FW_STAT_BOOT_MS (min ((s.tick - t + 999) / 1000) 255); s.firmwareStart slot)) ∧
  (∀ (sig : Bool) (bad : Unit) (s : State) slot t second, (s.boot.check = some (slot, t, second)) →
    ¬(let s := { s with boot := { s.boot with check := none } }; let s := s.set SYS_FW_STAT_BOOT_MS (min ((s.tick - t + 999) / 1000) 255);
    s.selector.trial) → ¬(let s := { s with boot := { s.boot with check := none } };
    let s := s.set SYS_FW_STAT_BOOT_MS (min ((s.tick - t + 999) / 1000) 255); sig && s.keyUsable (s.slotManifest slot)) → (!second) →
    exec (.bootCheckComplete sig bad) s = .next (let s := { s with boot := { s.boot with check := none } };
    let s := s.set SYS_FW_STAT_BOOT_MS (min ((s.tick - t + 999) / 1000) 255); let s := s.event .bootCheckFailed 0 [slot];
    (s.checkBegin (1 - slot) true).settle)) ∧
  (∀ (sig : Bool) (bad : Unit) (s : State) slot t second, (s.boot.check = some (slot, t, second)) →
    ¬(let s := { s with boot := { s.boot with check := none } }; let s := s.set SYS_FW_STAT_BOOT_MS (min ((s.tick - t + 999) / 1000) 255);
    s.selector.trial) → ¬(let s := { s with boot := { s.boot with check := none } };
    let s := s.set SYS_FW_STAT_BOOT_MS (min ((s.tick - t + 999) / 1000) 255); sig && s.keyUsable (s.slotManifest slot)) → ¬(!second) →
    exec (.bootCheckComplete sig bad) s = .next (let s := { s with boot := { s.boot with check := none } };
    let s := s.set SYS_FW_STAT_BOOT_MS (min ((s.tick - t + 999) / 1000) 255); let s := s.event .bootCheckFailed 0 [slot];
    ((s.setB SYS_STAT_NO_FW true).setB SYS_FW_STAT_NO_FW true).settle)) ∧
  -- CAL_ATTEMPT_COMPLETE (R110)
  (∀ (found : Option (Vector (Int × Int) 15)) (s : State), (s.boot.calRun = none) → exec (.calAttemptComplete found) s = .next s) ∧
  (∀ (found : Option (Vector (Int × Int) 15)) (s : State) t x, (s.boot.calRun = some t) → (found = some x) → (x.toList.any coefBad) →
    exec (.calAttemptComplete found) s = .next (let s := ({ s with boot := { s.boot with calRun := none } }).setB SYS_CAL_STAT_RUNNING false;
    let s := ((s.setB SYS_CAL_STAT_FAILED_LAST true).setB SYS_STAT_CAL_FAIL (!s.boot.calDone)).event .calAttemptFailed;
    { s with boot := { s.boot with calRetryAt := some (s.tick + 10000000) } })) ∧
  (∀ (found : Option (Vector (Int × Int) 15)) (s : State) t x, (s.boot.calRun = some t) → (found = some x) → ¬(x.toList.any coefBad) →
    exec (.calAttemptComplete found) s = .next (let s := ({ s with boot := { s.boot with calRun := none } }).setB SYS_CAL_STAT_RUNNING false;
    s.calPass t x)) ∧
  (∀ (found : Option (Vector (Int × Int) 15)) (s : State) t, (s.boot.calRun = some t) → (found = none) →
    exec (.calAttemptComplete found) s = .next (let s := ({ s with boot := { s.boot with calRun := none } }).setB SYS_CAL_STAT_RUNNING false;
    let s := ((s.setB SYS_CAL_STAT_FAILED_LAST true).setB SYS_STAT_CAL_FAIL (!s.boot.calDone)).event .calAttemptFailed;
    { s with boot := { s.boot with calRetryAt := some (s.tick + 10000000) } })) ∧
  -- CAL_RETRY_TIMER (R110)
  (∀ s : State, (s.due s.boot.calRetryAt ∧ s.boot.calRun.isNone) →
    exec .calRetryTimer s = .next (let s := (s.setB SYS_CAL_STAT_RUNNING true).inc SYS_CAL_STAT_ATTEMPTS;
    let s := { s with boot := { s.boot with calRun := some s.tick, calRetryAt := none } };
    { s with afe := { s.afe with spare := some (0, s.tick) } })) ∧
  (∀ s : State, ¬(s.due s.boot.calRetryAt ∧ s.boot.calRun.isNone) → exec .calRetryTimer s = .next s) ∧
  -- CAL_RETRY_CMD (R110)
  (∀ (r : Requester) (s : State), s.mayWrite r SYS_CAL_CMD_RETRY.addr = true → (let s := s.touch r;
    s.on SYS_CAL_STAT_FAILED_LAST && s.boot.calRun.isNone) → exec (.calRetryCmd r) s = .next (let s := s.touch r;
    let s := (s.setB SYS_CAL_STAT_RUNNING true).inc SYS_CAL_STAT_ATTEMPTS;
    ({ s with boot := { s.boot with calRun := some s.tick, calRetryAt := none } }).spareStart)) ∧
  (∀ (r : Requester) (s : State), s.mayWrite r SYS_CAL_CMD_RETRY.addr = true → ¬(let s := s.touch r;
    s.on SYS_CAL_STAT_FAILED_LAST && s.boot.calRun.isNone) → exec (.calRetryCmd r) s = .next (let s := s.touch r; s))

/-- O21. The commands of the power states. Each of these commands completes, in every state and for every operand that meet the conditions of the clause,
which are conditions on them alone and are those of the rule named with it, and the next state is the one given, with the command's own effect;
the clauses take in every form of the command, among them the states in which the rule gives it nothing to do; of a command that writes or reads
a register they take in the accesses that R71 lets pass, and RefusedCommands says what one that is refused does: AC_FAIL_ASSERT (R222),
AC_FAIL_CLEAR (R222), PICKUP_QUALIFIED (R22), PREARM_CLEAR_QUALIFIED (R22), RETURN_QUALIFIED (R22), RETURN_LOAD_LOST (R22),
HANDBACK_RAMP_COMPLETE (R224), NO_STRING_CLOSED_EXPIRY (R22), EXHAUSTED_RECOVERED (R22), EFFICIENCY_RESUME_TIMER (R245), THERMAL_GROUP_RECOMPUTE
(R365), EMPTY_QUALIFIED (R286), ALLFIRE (R229), SHIP (R303). -/
def Obligations.PowerStateCommands : Prop :=
  -- AC_FAIL_ASSERT (R222)
  (∀ (j : Fin 4) (s : State), ((s.shevBall j true).shevLine j).powerWas = .normal → ((s.shevBall j true).shevLine j).acFail = true →
  ((s.shevBall j true).shevLine j).mayEnter .prearmed = true →
    Runs (.acFailAssert (some j)) s (fun t => t.power = .prearmed ∧ t.powerSince = s.tick ∧ t.tick = s.tick)) ∧
  (∀ s : State, s.powerWas = .ret → s.acFail = true → s.allEmpty = false → s.mayEnter .holdup = true →
  Runs (.acFailAssert none) s (fun t => t.power = .holdup ∧ t.powerSince = s.tick ∧ t.tick = s.tick)) ∧
  (∀ (j : Fin 4) (s : State), exec (.acFailAssert (some j)) s = .next ((s.shevBall j true).shevLine j).powerLevels) ∧
  (∀ s : State, exec (.acFailAssert none) s = .next s.powerLevels) ∧
  -- AC_FAIL_CLEAR (R222)
  (∀ (j : Fin 4) (s : State), exec (.acFailClear j) s = .next ((s.shevBall j false).shevLine j)) ∧
  (∀ (j : Fin 4) (s u : State) (g : Nat), u = s.shevBall j false → u.boot.g = some g →
    u.get CNV_SHEV_CFG_FUNC j.val = 1 →
    max (if (u.balls.shevFor.get j).1 = u.shevRaw j then (u.balls.shevFor.get j).2 else u.tick) g + u.get CNV_SHEV_CFG_DEGLITCH j.val ≤ u.tick →
    exec (.acFailClear j) s = .next (State.setBit ({ u with balls := { u.balls with shevFor := u.balls.shevFor.set j (u.shevRaw j, if (u.balls.shevFor.get j).1 = u.shevRaw j then (u.balls.shevFor.get j).2 else u.tick) } }) CNV_ACF_STAT_SHEV_ASSERTED j.val (u.shevRaw j))) ∧
  (∀ (j : Fin 4) (s u : State) (g : Nat), u = s.shevBall j false → u.boot.g = some g →
    u.get CNV_SHEV_CFG_FUNC j.val = 1 →
    u.tick < max (if (u.balls.shevFor.get j).1 = u.shevRaw j then (u.balls.shevFor.get j).2 else u.tick) g + u.get CNV_SHEV_CFG_DEGLITCH j.val →
    exec (.acFailClear j) s = .next ({ u with balls := { u.balls with shevFor := u.balls.shevFor.set j (u.shevRaw j, if (u.balls.shevFor.get j).1 = u.shevRaw j then (u.balls.shevFor.get j).2 else u.tick) } })) ∧
  -- PICKUP_QUALIFIED (R22)
  (∀ s : State, ((s.powerWas = .normal ∨ s.powerWas = .prearmed) ∧ s.lasted s.qual.pick 20) → (s.mayEnter .holdup) → ¬(let s := s.inc CNV_CNT_PICKUPS;
    let p : PowerState := .holdup; !s.mayEnter p) → exec .pickupQualified s = .next (let s := s.inc CNV_CNT_PICKUPS; let p : PowerState := .holdup;
    let old := s.powerWas; let outer := p == .normal || p == .prearmed;
    let s := { s with power := p, powerSince := s.tick, powerFrom := old, powerFromSince := s.powerWasSince, qual := { pick := if outer then s.qual.pick else none } };
    let s := ((s.convEnter old).shareEnter old).chargeCount; let s := s.iff (old == .normal) (fun s => s.tuneAbort 7);
    let s := (match p.source with | some k => s.trigger k | none => s);
    let s := (match p with | .halt => (let s := { s with boot := { s.boot with prevHalt := true } }; s.openAll 4) | .ship => (s.closeWindows (fun _ => true)).timeSave (s.get TB_PCYCLE_COUNT) (s.opTimeAt s.tick) s.boot.shipTime | _ => s);
    let s := (s.seqEval).efuEval; let s := s.iff (p == .halt) (fun s => s.fence 5); s.seqTail)) ∧
  (∀ s : State, ((s.powerWas = .normal ∨ s.powerWas = .prearmed) ∧ s.lasted s.qual.pick 20) → ¬(s.mayEnter .holdup) → exec .pickupQualified s = .next s) ∧
  (∀ s : State, ¬((s.powerWas = .normal ∨ s.powerWas = .prearmed) ∧ s.lasted s.qual.pick 20) → exec .pickupQualified s = .next s) ∧
  (∀ s : State, s.powerWas = .normal ∨ s.powerWas = .prearmed → s.lasted s.qual.pick 20 = true → s.mayEnter .holdup = true →
  Runs .pickupQualified s (fun t => t.power = .holdup ∧ t.powerSince = s.tick ∧ t.tick = s.tick)) ∧
  -- PREARM_CLEAR_QUALIFIED (R22)
  (∀ s : State, (s.powerWas = .prearmed ∧ s.held_ s.qual.quiet 50000) → (let p : PowerState := .normal; !s.mayEnter p) →
    exec .prearmClearQualified s = .next s) ∧
  (∀ s : State, (s.powerWas = .prearmed ∧ s.held_ s.qual.quiet 50000) → ¬(let p : PowerState := .normal; !s.mayEnter p) →
    exec .prearmClearQualified s = .next (let p : PowerState := .normal; let old := s.powerWas; let outer := p == .normal || p == .prearmed;
    let s := { s with power := p, powerSince := s.tick, powerFrom := old, powerFromSince := s.powerWasSince, qual := { pick := if outer then s.qual.pick else none } };
    let s := ((s.convEnter old).shareEnter old).chargeCount; let s := s.iff (old == .normal) (fun s => s.tuneAbort 7);
    let s := (match p.source with | some k => s.trigger k | none => s);
    let s := (match p with | .halt => (let s := { s with boot := { s.boot with prevHalt := true } }; s.openAll 4) | .ship => (s.closeWindows (fun _ => true)).timeSave (s.get TB_PCYCLE_COUNT) (s.opTimeAt s.tick) s.boot.shipTime | _ => s);
    let s := (s.seqEval).efuEval; let s := s.iff (p == .halt) (fun s => s.fence 5); s.seqTail)) ∧
  (∀ s : State, ¬(s.powerWas = .prearmed ∧ s.held_ s.qual.quiet 50000) → exec .prearmClearQualified s = .next s) ∧
  (∀ s : State, s.powerWas = .prearmed → s.held_ s.qual.quiet 50000 = true → s.mayEnter .normal = true →
  Runs .prearmClearQualified s (fun t => t.power = .normal ∧ t.powerSince = s.tick ∧ t.tick = s.tick)) ∧
  -- RETURN_QUALIFIED (R22)
  (∀ s : State, (s.powerWas = .holdup ∧ s.held_ s.qual.load 10000) → (let p : PowerState := .ret; !s.mayEnter p) → exec .returnQualified s = .next s) ∧
  (∀ s : State, (s.powerWas = .holdup ∧ s.held_ s.qual.load 10000) → ¬(let p : PowerState := .ret; !s.mayEnter p) →
    exec .returnQualified s = .next (let p : PowerState := .ret; let old := s.powerWas; let outer := p == .normal || p == .prearmed;
    let s := { s with power := p, powerSince := s.tick, powerFrom := old, powerFromSince := s.powerWasSince, qual := { pick := if outer then s.qual.pick else none } };
    let s := ((s.convEnter old).shareEnter old).chargeCount; let s := s.iff (old == .normal) (fun s => s.tuneAbort 7);
    let s := (match p.source with | some k => s.trigger k | none => s);
    let s := (match p with | .halt => (let s := { s with boot := { s.boot with prevHalt := true } }; s.openAll 4) | .ship => (s.closeWindows (fun _ => true)).timeSave (s.get TB_PCYCLE_COUNT) (s.opTimeAt s.tick) s.boot.shipTime | _ => s);
    let s := (s.seqEval).efuEval; let s := s.iff (p == .halt) (fun s => s.fence 5); s.seqTail)) ∧
  (∀ s : State, ¬(s.powerWas = .holdup ∧ s.held_ s.qual.load 10000) → exec .returnQualified s = .next s) ∧
  (∀ s : State, s.powerWas = .holdup → s.held_ s.qual.load 10000 = true → s.mayEnter .ret = true →
  Runs .returnQualified s (fun t => t.power = .ret ∧ t.powerSince = s.tick ∧ t.tick = s.tick)) ∧
  -- RETURN_LOAD_LOST (R22)
  (∀ s : State, (s.powerWas = .ret ∧ s.held_ s.qual.low 1000) → (let p : PowerState := .holdup; !s.mayEnter p) → exec .returnLoadLost s = .next s) ∧
  (∀ s : State, (s.powerWas = .ret ∧ s.held_ s.qual.low 1000) → ¬(let p : PowerState := .holdup; !s.mayEnter p) →
    exec .returnLoadLost s = .next (let p : PowerState := .holdup; let old := s.powerWas; let outer := p == .normal || p == .prearmed;
    let s := { s with power := p, powerSince := s.tick, powerFrom := old, powerFromSince := s.powerWasSince, qual := { pick := if outer then s.qual.pick else none } };
    let s := ((s.convEnter old).shareEnter old).chargeCount; let s := s.iff (old == .normal) (fun s => s.tuneAbort 7);
    let s := (match p.source with | some k => s.trigger k | none => s);
    let s := (match p with | .halt => (let s := { s with boot := { s.boot with prevHalt := true } }; s.openAll 4) | .ship => (s.closeWindows (fun _ => true)).timeSave (s.get TB_PCYCLE_COUNT) (s.opTimeAt s.tick) s.boot.shipTime | _ => s);
    let s := (s.seqEval).efuEval; let s := s.iff (p == .halt) (fun s => s.fence 5); s.seqTail)) ∧
  (∀ s : State, ¬(s.powerWas = .ret ∧ s.held_ s.qual.low 1000) → exec .returnLoadLost s = .next s) ∧
  (∀ s : State, s.powerWas = .ret → s.held_ s.qual.low 1000 = true → s.mayEnter .holdup = true →
  Runs .returnLoadLost s (fun t => t.power = .holdup ∧ t.powerSince = s.tick ∧ t.tick = s.tick)) ∧
  -- HANDBACK_RAMP_COMPLETE (R224)
  (∀ s : State, (s.powerWas = .ret ∧ s.powerWasSince + s.get CNV_RAMP_RAMP ≤ s.tick ∧ s.convCurrent ≤ 0) → (let p : PowerState := .normal;
    !s.mayEnter p) → exec .handbackRampComplete s = .next s) ∧
  (∀ s : State, (s.powerWas = .ret ∧ s.powerWasSince + s.get CNV_RAMP_RAMP ≤ s.tick ∧ s.convCurrent ≤ 0) → ¬(let p : PowerState := .normal;
    !s.mayEnter p) → exec .handbackRampComplete s = .next (let p : PowerState := .normal; let old := s.powerWas;
    let outer := p == .normal || p == .prearmed;
    let s := { s with power := p, powerSince := s.tick, powerFrom := old, powerFromSince := s.powerWasSince, qual := { pick := if outer then s.qual.pick else none } };
    let s := ((s.convEnter old).shareEnter old).chargeCount; let s := s.iff (old == .normal) (fun s => s.tuneAbort 7);
    let s := (match p.source with | some k => s.trigger k | none => s);
    let s := (match p with | .halt => (let s := { s with boot := { s.boot with prevHalt := true } }; s.openAll 4) | .ship => (s.closeWindows (fun _ => true)).timeSave (s.get TB_PCYCLE_COUNT) (s.opTimeAt s.tick) s.boot.shipTime | _ => s);
    let s := (s.seqEval).efuEval; let s := s.iff (p == .halt) (fun s => s.fence 5); s.seqTail)) ∧
  (∀ s : State, ¬(s.powerWas = .ret ∧ s.powerWasSince + s.get CNV_RAMP_RAMP ≤ s.tick ∧ s.convCurrent ≤ 0) → exec .handbackRampComplete s = .next s) ∧
  (∀ s : State, s.powerWas = .ret → s.powerWasSince + s.get CNV_RAMP_RAMP ≤ s.tick → s.convCurrent ≤ 0 → s.mayEnter .normal = true →
  Runs .handbackRampComplete s (fun t => t.power = .normal ∧ t.powerSince = s.tick ∧ t.tick = s.tick)) ∧
  -- NO_STRING_CLOSED_EXPIRY (R22)
  (∀ s : State, ((s.powerWas = .holdup ∨ s.powerWas = .ret) ∧ s.closedStrs.isEmpty ∧ s.lasted s.bat.noneClosed 1000) →
    (let p : PowerState := .exhausted; !s.mayEnter p) → exec .noStringClosedExpiry s = .next s) ∧
  (∀ s : State, ((s.powerWas = .holdup ∨ s.powerWas = .ret) ∧ s.closedStrs.isEmpty ∧ s.lasted s.bat.noneClosed 1000) →
    ¬(let p : PowerState := .exhausted; !s.mayEnter p) → exec .noStringClosedExpiry s = .next (let p : PowerState := .exhausted;
    let old := s.powerWas; let outer := p == .normal || p == .prearmed;
    let s := { s with power := p, powerSince := s.tick, powerFrom := old, powerFromSince := s.powerWasSince, qual := { pick := if outer then s.qual.pick else none } };
    let s := ((s.convEnter old).shareEnter old).chargeCount; let s := s.iff (old == .normal) (fun s => s.tuneAbort 7);
    let s := (match p.source with | some k => s.trigger k | none => s);
    let s := (match p with | .halt => (let s := { s with boot := { s.boot with prevHalt := true } }; s.openAll 4) | .ship => (s.closeWindows (fun _ => true)).timeSave (s.get TB_PCYCLE_COUNT) (s.opTimeAt s.tick) s.boot.shipTime | _ => s);
    let s := (s.seqEval).efuEval; let s := s.iff (p == .halt) (fun s => s.fence 5); s.seqTail)) ∧
  (∀ s : State, ¬((s.powerWas = .holdup ∨ s.powerWas = .ret) ∧ s.closedStrs.isEmpty ∧ s.lasted s.bat.noneClosed 1000) →
    exec .noStringClosedExpiry s = .next s) ∧
  (∀ s : State, s.powerWas = .holdup ∨ s.powerWas = .ret → s.closedStrs.isEmpty = true → s.lasted s.bat.noneClosed 1000 = true →
  s.mayEnter .exhausted = true → Runs .noStringClosedExpiry s (fun t => t.power = .exhausted ∧ t.powerSince = s.tick ∧ t.tick = s.tick)) ∧
  -- EXHAUSTED_RECOVERED (R22)
  (∀ s : State, (s.powerWas = .exhausted ∧ s.held_ s.bat.acClear 10000 ∧ s.held_ s.bat.regSince 10000) → (let p : PowerState := .normal;
    !s.mayEnter p) → exec .exhaustedRecovered s = .next s) ∧
  (∀ s : State, (s.powerWas = .exhausted ∧ s.held_ s.bat.acClear 10000 ∧ s.held_ s.bat.regSince 10000) → ¬(let p : PowerState := .normal;
    !s.mayEnter p) → exec .exhaustedRecovered s = .next (let p : PowerState := .normal; let old := s.powerWas;
    let outer := p == .normal || p == .prearmed;
    let s := { s with power := p, powerSince := s.tick, powerFrom := old, powerFromSince := s.powerWasSince, qual := { pick := if outer then s.qual.pick else none } };
    let s := ((s.convEnter old).shareEnter old).chargeCount; let s := s.iff (old == .normal) (fun s => s.tuneAbort 7);
    let s := (match p.source with | some k => s.trigger k | none => s);
    let s := (match p with | .halt => (let s := { s with boot := { s.boot with prevHalt := true } }; s.openAll 4) | .ship => (s.closeWindows (fun _ => true)).timeSave (s.get TB_PCYCLE_COUNT) (s.opTimeAt s.tick) s.boot.shipTime | _ => s);
    let s := (s.seqEval).efuEval; let s := s.iff (p == .halt) (fun s => s.fence 5); s.seqTail)) ∧
  (∀ s : State, ¬(s.powerWas = .exhausted ∧ s.held_ s.bat.acClear 10000 ∧ s.held_ s.bat.regSince 10000) → exec .exhaustedRecovered s = .next s) ∧
  (∀ s : State, s.powerWas = .exhausted → s.held_ s.bat.acClear 10000 = true → s.held_ s.bat.regSince 10000 = true → s.mayEnter .normal = true →
  Runs .exhaustedRecovered s (fun t => t.power = .normal ∧ t.powerSince = s.tick ∧ t.tick = s.tick)) ∧
  -- EFFICIENCY_RESUME_TIMER (R245)
  (∀ s : State, (s.due s.shr.resumeAt) → exec .efficiencyResumeTimer s = .next ({ s with shr := { s.shr with resumeAt := none } })) ∧
  (∀ s : State, ¬(s.due s.shr.resumeAt) → exec .efficiencyResumeTimer s = .next s) ∧
  -- THERMAL_GROUP_RECOMPUTE (R365)
  (∀ (g : Fin 6) (s : State), s.boot.g.isNone → exec (.thermalGroupRecompute g) s = .next s) ∧
  (∀ (g : Fin 6) (s : State), ¬s.boot.g.isNone → (!s.thm.due.testBit g.val) → exec (.thermalGroupRecompute g) s = .next s) ∧
  (∀ (g : Fin 6) (s : State), ¬s.boot.g.isNone → ¬(!s.thm.due.testBit g.val) → exec (.thermalGroupRecompute g) s = .next (let was := s.thmLevel g.val;
    let s := (({ s with thm := { s.thm with due := s.thm.due - 2 ^ g.val } }).thmRecompute g).settle;
    s.iff (was != 3 && s.thmLevel g.val == 3 && s.on THM_GRP_ACT_SD_HALT g.val) (fun s => s.enterPower .halt))) ∧
  -- EMPTY_QUALIFIED (R286)
  (∀ (n : Fin 8) (s : State), (s.emptyNow n) → exec (.emptyQualified n) s = .next (((s.strEmptyEntry n).settle).powerLevels)) ∧
  (∀ (n : Fin 8) (s : State), ¬(s.emptyNow n) → exec (.emptyQualified n) s = .next s) ∧
  -- ALLFIRE (R229)
  (∀ (g : Fin 2) (fine : Option Swing × Option Swing) (lat : Fin 14) (s : State), (s.tripAt g fine = none) →
    exec (.allfire g fine lat) s = .next (let s' := s.slopeNote g fine.1; s')) ∧
  (∀ (g : Fin 2) (fine : Option Swing × Option Swing) (lat : Fin 14) (s : State) f, (s.tripAt g fine = some f) → (s.fires g) →
    (let s' := s.slopeNote g fine.1; let s := s'.fire g f lat; s.powerWas = .normal ∨ s.powerWas = .prearmed) → (let s' := s.slopeNote g fine.1;
    let s := s'.fire g f lat; s.mayEnter .holdup) → exec (.allfire g fine lat) s = .next (let s' := s.slopeNote g fine.1; let s := s'.fire g f lat;
    (s.inc CNV_CNT_PICKUPS).enterPower .holdup)) ∧
  (∀ (g : Fin 2) (fine : Option Swing × Option Swing) (lat : Fin 14) (s : State) f, (s.tripAt g fine = some f) → (s.fires g) →
    (let s' := s.slopeNote g fine.1; let s := s'.fire g f lat; s.powerWas = .normal ∨ s.powerWas = .prearmed) → ¬(let s' := s.slopeNote g fine.1;
    let s := s'.fire g f lat; s.mayEnter .holdup) → exec (.allfire g fine lat) s = .next (let s' := s.slopeNote g fine.1; let s := s'.fire g f lat;
    s)) ∧
  (∀ (g : Fin 2) (fine : Option Swing × Option Swing) (lat : Fin 14) (s : State) f, (s.tripAt g fine = some f) → (s.fires g) →
    ¬(let s' := s.slopeNote g fine.1; let s := s'.fire g f lat; s.powerWas = .normal ∨ s.powerWas = .prearmed) →
    exec (.allfire g fine lat) s = .next (let s' := s.slopeNote g fine.1; let s := s'.fire g f lat; s.settle)) ∧
  (∀ (g : Fin 2) (fine : Option Swing × Option Swing) (lat : Fin 14) (s : State) f, (s.tripAt g fine = some f) → ¬(s.fires g) → (s.fireLost g) →
    exec (.allfire g fine lat) s = .next (let s' := s.slopeNote g fine.1; let s := s'.fireRecord g f lat;
    let x : Group := { s.group g with lockAt := s.tick + 1, lockEnd := some (s.tick + 1 + 1000 * s.get CNV_AF_RUN_LOCKOUT_MS) };
    { s with cnv := { s.cnv with groups := s.cnv.groups.set g x } })) ∧
  (∀ (g : Fin 2) (fine : Option Swing × Option Swing) (lat : Fin 14) (s : State) f, (s.tripAt g fine = some f) → ¬(s.fires g) → ¬(s.fireLost g) →
    exec (.allfire g fine lat) s = .next (let s' := s.slopeNote g fine.1; s')) ∧
  (∀ (g : Fin 2) (fine : Option Swing × Option Swing) (lat : Fin 14) (f : Nat) (s : State), s.tripAt g fine = some f → s.fires g = true →
  s.powerWas = .normal ∨ s.powerWas = .prearmed → s.mayEnter .holdup = true →
  Runs (.allfire g fine lat) s (fun t => t.power = .holdup ∧ t.powerSince = s.tick ∧ t.tick = s.tick)) ∧
  -- SHIP (R303)
  (∀ (r : Requester) (w : Word) (s : State), s.mayCommand r BAT_SHIP_CMD_SHIP.addr .curator = true → (bitsOf w 16 1 = 0) →
    exec (.ship r w) s = .next (let s := s.touch r; s)) ∧
  (∀ (r : Requester) (w : Word) (s : State), s.mayCommand r BAT_SHIP_CMD_SHIP.addr .curator = true → ¬(bitsOf w 16 1 = 0) → (bitsOf w 0 16 ≠ 0x5A5A) →
    exec (.ship r w) s = .next (let s := s.touch r; s.event .shipKeyWrong 0 [bitsOf w 0 16])) ∧
  (∀ (r : Requester) (w : Word) (s : State), s.mayCommand r BAT_SHIP_CMD_SHIP.addr .curator = true → ¬(bitsOf w 16 1 = 0) → ¬(bitsOf w 0 16 ≠ 0x5A5A) →
    (let s := s.touch r; s.power ≠ .normal ∨ !s.full ∨ s.powerSince = s.tick ∨ !s.bitOn SYS_SUPPLY_STAT_GOOD 5) →
    exec (.ship r w) s = .next (let s := s.touch r; s.event .shipRefused)) ∧
  (∀ (r : Requester) (w : Word) (s : State), s.mayCommand r BAT_SHIP_CMD_SHIP.addr .curator = true → ¬(bitsOf w 16 1 = 0) → ¬(bitsOf w 0 16 ≠ 0x5A5A) →
    ¬(let s := s.touch r; s.power ≠ .normal ∨ !s.full ∨ s.powerSince = s.tick ∨ !s.bitOn SYS_SUPPLY_STAT_GOOD 5) →
    exec (.ship r w) s = .next (let s := s.touch r; { s with boot := { s.boot with shipAsked := true } }))

/-- O22. The time base, its discipline and its cross-check. Each of these commands completes, in every state and for every operand that meet the
conditions of the clause, which are conditions on them alone and are those of the rule named with it, and the next state is the one given, with
the command's own effect; the clauses take in every form of the command, among them the states in which the rule gives it nothing to do; of a
command that writes or reads a register they take in the accesses that R71 lets pass, and RefusedCommands says what one that is refused does:
TB_SRC_WRITE (R40), DISC_SOURCE_PRESENT (R40), DISC_SOURCE_LOST (R40), DISC_LOCK_WINDOW (R40), HOLDOVER_STALE (R40), DISC_RATE_STEP (R39),
XCHK_WINDOW_END (R41), VCORE_WINDOW_END (R45). -/
def Obligations.TimeCommands : Prop :=
  -- TB_SRC_WRITE (R40)
  (∀ (r : Requester) (w : Word) (s : State) row, s.mayWrite r TB_SRC_CTRL_SRC.addr = true → (findRow TB_SRC_CTRL_SRC.addr = some row) →
    exec (.tbSrcWrite r w) s = .next (((s.touch r).classC r row TB_SRC_CTRL_SRC.addr 0 w).1)) ∧
  -- DISC_SOURCE_PRESENT (R40)
  (∀ s : State, (!s.following ∧ s.get TB_SRC_CTRL_SRC ≠ 0 ∧ (s.get TB_DISC_STAT_STATE = 0 ∨ s.get TB_DISC_STAT_STATE = 3)) →
    exec .discSourcePresent s = .next (let s := (s.set TB_DISC_STAT_STATE 1).setB TB_DISC_STAT_STALE false;
    { s with tb := { s.tb with acquireSince := s.tick } })) ∧
  (∀ s : State, ¬(!s.following ∧ s.get TB_SRC_CTRL_SRC ≠ 0 ∧ (s.get TB_DISC_STAT_STATE = 0 ∨ s.get TB_DISC_STAT_STATE = 3)) →
    exec .discSourcePresent s = .next s) ∧
  -- DISC_SOURCE_LOST (R40)
  (∀ s : State, (s.get TB_DISC_STAT_STATE = 1 ∨ s.get TB_DISC_STAT_STATE = 2) →
    exec .discSourceLost s = .next (let s := ((s.set TB_DISC_STAT_STATE 3).inc TB_DISC_STAT_LOSSES).inc TB_FAULT_CNT_SRC_LOSSES;
    { s with tb := { s.tb with holdoverSince := s.tick } })) ∧
  (∀ s : State, ¬(s.get TB_DISC_STAT_STATE = 1 ∨ s.get TB_DISC_STAT_STATE = 2) → exec .discSourceLost s = .next s) ∧
  -- DISC_LOCK_WINDOW (R40)
  (∀ (worst : Int) (s : State), (!s.following ∧ s.get TB_DISC_STAT_STATE = 1 ∧ s.tb.acquireSince + 10000000 ≤ s.tick ∧ worst.natAbs < 100) →
    exec (.discLockWindow worst) s = .next (let s := s.set TB_DISC_STAT_STATE 2; { s with tb := { s.tb with lockedSince := s.tick } })) ∧
  (∀ (worst : Int) (s : State), ¬(!s.following ∧ s.get TB_DISC_STAT_STATE = 1 ∧ s.tb.acquireSince + 10000000 ≤ s.tick ∧ worst.natAbs < 100) →
    exec (.discLockWindow worst) s = .next s) ∧
  -- HOLDOVER_STALE (R40)
  (∀ s : State, exec .holdoverStale s = .next (s.setB TB_DISC_STAT_STALE (s.get TB_DISC_STAT_STATE == 3 && decide (s.tb.holdoverSince + 1000000 * s.get TB_HOLD_LIMIT_LIMIT_S < s.tick)))) ∧
  -- DISC_RATE_STEP (R39)
  (∀ (ferr want : Int) (s : State), (s.following ∨ s.tick < s.tb.lastStep + 1000000) → exec (.discRateStep ferr want) s = .next s) ∧
  (∀ (ferr want : Int) (s : State), ¬(s.following ∨ s.tick < s.tb.lastStep + 1000000) → (s.get TB_DISC_STAT_STATE = 0) →
    exec (.discRateStep ferr want) s = .next (let want : Int := 0; let now := s.getI TB_FADJ_FADJ;
    let s := s.setI TB_FADJ_FADJ (now + clampI (-100) 100 (clampI (-100000) 100000 want - now)); { s with tb := { s.tb with lastStep := s.tick } })) ∧
  (∀ (ferr want : Int) (s : State), ¬(s.following ∨ s.tick < s.tb.lastStep + 1000000) → ¬(s.get TB_DISC_STAT_STATE = 0) →
    (s.get TB_DISC_STAT_STATE = 3) → exec (.discRateStep ferr want) s = .next s) ∧
  (∀ (ferr want : Int) (s : State), ¬(s.following ∨ s.tick < s.tb.lastStep + 1000000) → ¬(s.get TB_DISC_STAT_STATE = 0) →
    ¬(s.get TB_DISC_STAT_STATE = 3) → exec (.discRateStep ferr want) s = .next (let s := s.setI TB_FERR_FERR ferr; let now := s.getI TB_FADJ_FADJ;
    let s := s.setI TB_FADJ_FADJ (now + clampI (-100) 100 (clampI (-100000) 100000 want - now)); { s with tb := { s.tb with lastStep := s.tick } })) ∧
  -- XCHK_WINDOW_END (R41)
  (∀ (count : Nat) (s : State), (let s := s.set TB_XCHK_STAT_LAST_COUNT (min count 65535); s.xchkGood count) →
    exec (.xchkWindowEnd count) s = .next (let s := s.set TB_XCHK_STAT_LAST_COUNT (min count 65535);
    let run := min 8 (s.get TB_XCHK_STAT_GOOD_RUN + 1); (s.set TB_XCHK_STAT_GOOD_RUN run).iff (s.tb.onCheck && run == 8) State.paceReturn)) ∧
  (∀ (count : Nat) (s : State), ¬(let s := s.set TB_XCHK_STAT_LAST_COUNT (min count 65535); s.xchkGood count) →
    (let s := s.set TB_XCHK_STAT_LAST_COUNT (min count 65535); s.tb.onCheck) →
    exec (.xchkWindowEnd count) s = .next (let s := s.set TB_XCHK_STAT_LAST_COUNT (min count 65535); s.set TB_XCHK_STAT_GOOD_RUN 0)) ∧
  (∀ (count : Nat) (s : State), ¬(let s := s.set TB_XCHK_STAT_LAST_COUNT (min count 65535); s.xchkGood count) →
    ¬(let s := s.set TB_XCHK_STAT_LAST_COUNT (min count 65535); s.tb.onCheck) →
    exec (.xchkWindowEnd count) s = .next (let s := s.set TB_XCHK_STAT_LAST_COUNT (min count 65535);
    let s := (s.inc TB_FAULT_CNT_TB_FAULTS).set TB_XCHK_STAT_GOOD_RUN 0; let s := { s with tb := { s.tb with onCheck := true, frac := 0 } };
    ((s.detect 6 0).trigger 16).settle)) ∧
  -- VCORE_WINDOW_END (R45)
  (∀ s : State, (s.tick % 10000 = 0 ∧ s.tb.windowAt < s.tick) → exec .vcoreWindowEnd s = .next (let s := s.slackReport.forcedEnd.coreLower;
    { s with tb := { s.tb with windowAt := s.tick } })) ∧
  (∀ s : State, ¬(s.tick % 10000 = 0 ∧ s.tb.windowAt < s.tick) → exec .vcoreWindowEnd s = .next s) ∧
  (∀ s : State, s.tick % 10000 = 0 → s.tb.windowAt < s.tick → Runs .vcoreWindowEnd s (fun t => t.tb.windowAt = s.tick ∧ t.tick = s.tick ∧
  t.regs = s.slackReport.forcedEnd.coreLower.regs))

/-- O23. Register reads and writes. Each of these commands completes, in every state and for every operand that meet the conditions of the clause, which
are conditions on them alone and are those of the rule named with it, and the next state is the one given, with the command's own effect; the
clauses take in every form of the command, among them the states in which the rule gives it nothing to do; of a command that writes or reads a
register they take in the accesses that R71 lets pass, and RefusedCommands says what one that is refused does: TICK_LATCH_READ (R51),
MULTIWORD_LATCH_READ (R73), REGISTER_WRITE (R78), ALIAS_WRITE (R81), SPI_READ (R489), SPI_WRITE (R489), SPI_STATUS (R490). -/
def Obligations.AccessCommands : Prop :=
  -- TICK_LATCH_READ (R51)
  (∀ (r : Requester) (s : State), (!s.servesFor r) → exec (.tickLatchRead r) s = .next s) ∧
  (∀ (r : Requester) (s : State), ¬(!s.servesFor r) → exec (.tickLatchRead r) s = .next (let a : Nat := TB_TICK_LO_TICK_LO.addr;
    let p := s.wordRead r a; let s := p.1; let l : List Nat := [p.2.1.toNat]; s.reply (if r = .spi ∧ !s.bankLive 2 then [] else l))) ∧
  (∀ (r : Requester) (s : State), s.mayRead r TB_TICK_LO_TICK_LO.addr = true → Runs (.tickLatchRead r) s (fun t =>
  t = ((s.touch r).wordTake (s.srcOf r) TB_TICK_LO_TICK_LO.addr).1.replyTo r [((s.touch r).wordTake (s.srcOf r) TB_TICK_LO_TICK_LO.addr).2.toNat])) ∧
  -- MULTIWORD_LATCH_READ (R73)
  (∀ (r : Requester) (a : Word) (s : State), (!s.servesFor r) → exec (.multiwordLatchRead r a) s = .next s) ∧
  (∀ (r : Requester) (a : Word) (s : State), ¬(!s.servesFor r) → exec (.multiwordLatchRead r a) s = .next (let a : Nat := a.toNat;
    let p := s.wordRead r a; let s := p.1; let l : List Nat := [p.2.1.toNat]; s.reply (if r = .spi ∧ !s.bankLive 2 then [] else l))) ∧
  (∀ (r : Requester) (a : Word) (s : State), s.mayRead r a.toNat = true → Runs (.multiwordLatchRead r a) s (fun t =>
  t = ((s.touch r).wordTake (s.srcOf r) a.toNat).1.replyTo r [((s.touch r).wordTake (s.srcOf r) a.toNat).2.toNat])) ∧
  -- REGISTER_WRITE (R78)
  (∀ (r : Requester) (a w : Word) (s : State), (!s.servesFor r) → exec (.registerWrite r a w) s = .next s) ∧
  (∀ (r : Requester) (a w : Word) (s : State), ¬(!s.servesFor r) → exec (.registerWrite r a w) s = .next (let a : Nat := a.toNat;
    (s.wordWrite r a w).1)) ∧
  -- ALIAS_WRITE (R81)
  (∀ (r : Requester) (a w : Word) (s : State), (!s.servesFor r) → exec (.aliasWrite r a w) s = .next s.settle) ∧
  (∀ (r : Requester) (a w : Word) (s : State), ¬(!s.servesFor r) → exec (.aliasWrite r a w) s = .next (let a : Nat := a.toNat;
    ((s.wordWrite r a w).1).settle)) ∧
  -- SPI_READ (R489)
  (∀ (a : BitVec 24) (n : Nat) (cut : Bool) (s : State), (!s.servesFor .spi) → exec (.spiRead a n cut) s = .next s) ∧
  (∀ (a : BitVec 24) (n : Nat) (cut : Bool) (s : State), ¬(!s.servesFor .spi) → exec (.spiRead a n cut) s = .next (let p := s.readWords .spi a.toNat n;
    let s := p.1.partialWord cut; let r : Requester := .spi; let l : List Nat := p.2.map BitVec.toNat;
    s.reply (if r = .spi ∧ !s.bankLive 2 then [] else l))) ∧
  -- SPI_WRITE (R489)
  (∀ (a : BitVec 24) (ws : List Word) (cut : Bool) (s : State), (!s.servesFor .spi) → exec (.spiWrite a ws cut) s = .next s) ∧
  (∀ (a : BitVec 24) (ws : List Word) (cut : Bool) (s : State), ¬(!s.servesFor .spi) →
    exec (.spiWrite a ws cut) s = .next (let s := s.writeWords .spi a.toNat ws; s.iff cut (fun s => s.inc HIF_SPI_STAT_PARTIAL))) ∧
  -- SPI_STATUS (R490)
  (∀ s : State, (!s.servesFor .spi) → exec .spiStatus s = .next s) ∧
  (∀ s : State, ¬(!s.servesFor .spi) → exec .spiStatus s = .next (let v := s.spiStatus;
    let s := { s with ports := { s.ports with spiFirst := 0, spiCount := 0 } }; let r : Requester := .spi; let l : List Nat := [v];
    s.reply (if r = .spi ∧ !s.bankLive 2 then [] else l)))

/-- O24. The configuration check. Each of these commands completes, in every state and for every operand that meet the conditions of the clause, which are
conditions on them alone and are those of the rule named with it, and the next state is the one given, with the command's own effect; the clauses
take in every form of the command, among them the states in which the rule gives it nothing to do; of a command that writes or reads a register
they take in the accesses that R71 lets pass, and RefusedCommands says what one that is refused does: CCK_SCAN_START (R87), CCK_SCAN_COMPLETE
(R88), CCK_COMMIT (R89). -/
def Obligations.CheckCommands : Prop :=
  -- CCK_SCAN_START (R87)
  (∀ s : State, (s.cck.first = none) → exec .cckScanStart s = .next s) ∧
  (∀ (s : State) f, (s.cck.first = some f) → (f ≤ s.tick ∧ (s.tick - f) % 1000 = 0 ∧ s.on CCK_CTRL_EN ∧ s.cck.scan.isNone) →
    exec .cckScanStart s = .next ({ s with cck := { s.cck with scan := some s.tick, touched := [], commitScan := s.on CCK_STAT_COMMIT_BUSY } })) ∧
  (∀ (s : State) f, (s.cck.first = some f) → ¬(f ≤ s.tick ∧ (s.tick - f) % 1000 = 0 ∧ s.on CCK_CTRL_EN ∧ s.cck.scan.isNone) →
    exec .cckScanStart s = .next s) ∧
  -- CCK_SCAN_COMPLETE (R88)
  (∀ (cut : BitVec 31) (s : State), (s.cck.scan = none) → exec (.cckScanComplete cut) s = .next s) ∧
  (∀ (cut : BitVec 31) (s : State) t, (s.cck.scan = some t) →
    exec (.cckScanComplete cut) s = .next (let out := (List.range 31).filter (fun p => cut.toNat.testBit p && s.cck.touched.contains p);
    let s := s.each ((List.range 31).filter (fun p => !out.contains p)) (fun s p => s.setReg (cfgCrcAddr p) (s.pageCrc p));
    let s := s.set CCK_CUR_CUR (crcOfPages ((List.range 31).map (fun p => s.reg (cfgCrcAddr p)))).toNat;
    let s := (s.incWrap CCK_SCAN_CNT_SCANS).addSat CCK_REPEAT_CNT_REPEATS out.length;
    let s := (s.set CCK_SCAN_TIME_LAST (s.tick - t)).maxOf CCK_SCAN_TIME_MAX (s.tick - t); let s := (if s.cck.commitScan then s.commitEnd else s);
    let s := s.judgePages; ({ s with cck := { s.cck with scan := none, touched := [], commitScan := false } }).settle)) ∧
  (∀ (cut : BitVec 31) (b : Nat) (s : State), s.cck.scan = some b → Runs (.cckScanComplete cut) s (fun t =>
  t.cck.scan = none ∧ t.cck.touched = [] ∧ t.cck.commitScan = false ∧ t.tick = s.tick)) ∧
  -- CCK_COMMIT (R89)
  (∀ (r : Requester) (s : State), s.mayWrite r CCK_CMD_COMMIT.addr = true → exec (.cckCommit r) s = .next (let s := s.touch r;
    s.commitCmd.iff (!fromPartner r) (fun s => s.mirrorCommand 2))) ∧
  (∀ (r : Requester) (s : State), s.mayWrite r CCK_CMD_COMMIT.addr = true → fromPartner r = true → (s.touch r).on CCK_STAT_COMMIT_BUSY = false →
    (s.touch r).get CCK_CORRUPT_MASK_COR = 0 → (s.touch r).on CCK_CTRL_EN = true →
    exec (.cckCommit r) s = .next ((s.touch r).setB CCK_STAT_COMMIT_BUSY true)) ∧
  (∀ (r : Requester) (s : State), s.mayWrite r CCK_CMD_COMMIT.addr = true → fromPartner r = false → (s.touch r).on CCK_STAT_COMMIT_BUSY = false →
    (s.touch r).get CCK_CORRUPT_MASK_COR = 0 → (s.touch r).on CCK_CTRL_EN = true →
    exec (.cckCommit r) s = .next (((s.touch r).setB CCK_STAT_COMMIT_BUSY true).mirrorCommand 2)) ∧
  (∀ (r : Requester) (s : State), s.mayWrite r CCK_CMD_COMMIT.addr = true → fromPartner r = true → (s.touch r).on CCK_STAT_COMMIT_BUSY = false →
    (s.touch r).get CCK_CORRUPT_MASK_COR ≠ 0 ∨ (s.touch r).on CCK_CTRL_EN = false →
    exec (.cckCommit r) s = .next ((s.touch r).inc CCK_COMMIT_CNT_COMMIT_REFUSED))

/-- O25. The measurement front end. Each of these commands completes, in every state and for every operand that meet the conditions of the clause, which
are conditions on them alone and are those of the rule named with it, and the next state is the one given, with the command's own effect; the
clauses take in every form of the command, among them the states in which the rule gives it nothing to do; of a command that writes or reads a
register they take in the accesses that R71 lets pass, and RefusedCommands says what one that is refused does: CROSSCHECK_FAULT_DECLARED (R123),
CROSSCHECK_JUDGE (R123), MON_REQUEST_DUE (R132), MON_SEL_WRITE (R139), CAL_PASS_START (R135), CAL_VISIT_COMPLETE (R137), CAL_VISIT_ABORT (R136),
CAL_PASS_END (R137), SPARE_CHANGEOVER (R128), DIODE_CONVERSION (R134), AFE_MEANS_UPDATE (R121). -/
def Obligations.FrontEndCommands : Prop :=
  -- CROSSCHECK_FAULT_DECLARED (R123)
  (∀ (h : Fin 2) (s : State), (s.xchkOn h && (s.afe.judge.get h).isNone && s.due (s.afe.misDue.get h)) →
    exec (.crosscheckFaultDeclared h) s = .next (let run : Nat := s.get AFE_XCHK_CTRL_COUNT;
    let s := ((s.inc AFE_XCHK_STAT_FAULTS).maxOf AFE_XCHK_STAT_RUN_MAX run).trigger 9;
    let from_ := (match s.afe.prioFrom.get (1 - h) with | some t => max s.tick (t + 8) | none => s.tick);
    { s with afe := { s.afe with judge := s.afe.judge.set h (some s.tick), prioFrom := s.afe.prioFrom.set h (some from_), misDue := s.afe.misDue.set h none } }.showExcl)) ∧
  (∀ (h : Fin 2) (s : State), ¬(s.xchkOn h && (s.afe.judge.get h).isNone && s.due (s.afe.misDue.get h)) → exec (.crosscheckFaultDeclared h) s = .next s) ∧
  -- CROSSCHECK_JUDGE (R123)
  (∀ (h : Fin 2) (convs : List (BitVec 14)) (primary check : Twice Int) (s : State), (s.judgeReady h ∧ convs.length = 8) →
    exec (.crosscheckJudge h convs primary check) s = .next ((s.xchkJudge h convs primary check).settle)) ∧
  (∀ (h : Fin 2) (convs : List (BitVec 14)) (primary check : Twice Int) (s : State), ¬(s.judgeReady h ∧ convs.length = 8) →
    exec (.crosscheckJudge h convs primary check) s = .next s) ∧
  -- MON_REQUEST_DUE (R132)
  (∀ (codes0 codes1 : List (BitVec 14)) (s : State), (s.boot.g = none) → exec (.monRequestDue codes0 codes1) s = .next s) ∧
  (∀ (codes0 codes1 : List (BitVec 14)) (s : State) g, (s.boot.g = some g) →
    exec (.monRequestDue codes0 codes1) s = .next (let last := s.afe.slotTick.getD (g - 1); let s := s.monTicks (s.tick - last) codes0 codes1;
    { s with afe := { s.afe with slotTick := some (max last s.tick) } })) ∧
  (∀ (a b : List (BitVec 14)) (g : Nat) (s : State), s.boot.g = some g → s.afe.slotTick = some s.tick → Runs (.monRequestDue a b) s (fun t =>
  t.afe.slotTick = some s.tick ∧ t.tick = s.tick ∧ t.regs = s.regs ∧ t.mem = s.mem)) ∧
  -- MON_SEL_WRITE (R139)
  (∀ (r : Requester) (w : Word) (s : State), s.mayWrite r AFE_MON_SEL_INPUT.addr = true → exec (.monSelWrite r w) s = .next (let s := s.touch r;
    let src : Src := s.srcOf r; let i := bitsOf w 0 6; let m := s.afe.latest.get (Fin.ofNat 64 i);
    let s := (s.set (srcField src AFE_MON_SEL_INPUT) i).set (srcField src AFE_MON_DATA_CODE) m.code;
    ((s.setB (srcField src AFE_MON_DATA_VALID) (m.valid && s.monInterval i != 0)).set (srcField src AFE_MON_DATA_SUB) m.sub).set (srcField src AFE_MON_TIME_TICK) m.tick)) ∧
  -- CAL_PASS_START (R135)
  (∀ s : State, (s.afe.passAt = none) → exec .calPassStart s = .next s) ∧
  (∀ (s : State) t, (s.afe.passAt = some t) →
    (s.on AFE_CAL_CTRL_BG_EN ∧ s.afe.pass = none ∧ t + 1000000 * s.get AFE_CAL_CTRL_PERIOD_S ≤ s.tick ∧ s.power ≠ .halt) →
    exec .calPassStart s = .next (let a := { s.afe with pass := some (1, false), passAt := some s.tick, passFail := 0, found := s.afe.coefs };
    { s with afe := a }.beginVisit)) ∧
  (∀ (s : State) t, (s.afe.passAt = some t) →
    ¬(s.on AFE_CAL_CTRL_BG_EN ∧ s.afe.pass = none ∧ t + 1000000 * s.get AFE_CAL_CTRL_PERIOD_S ≤ s.tick ∧ s.power ≠ .halt) →
    exec .calPassStart s = .next s) ∧
  -- CAL_VISIT_COMPLETE (R137)
  (∀ (res : CalResult) (s : State), exec (.calVisitComplete res) s = .next ((s.visitComplete res).settle)) ∧
  (∀ (res : CalResult) (u : Nat) (s : State), s.afe.pass = some (u, true) → ¬(u = 12 ∧ s.afe.spare.isSome = true) →
    exec (.calVisitComplete res) s = .next (let bad := s.calFails u (res.gain, res.offset);
    let a := { s.afe with passFail := if bad then s.afe.passFail ||| 2 ^ u else s.afe.passFail, found := s.afe.found.set (Fin.ofNat 15 u) (res.gain, res.offset), cmpAt := if u = 9 then Vector.ofFn (fun n => if s.cmpCalibrated res n then some s.tick else s.afe.cmpAt.get n) else s.afe.cmpAt };
    let s := { s with afe := a }; let s := s.iff (!bad && decide (1 ≤ u ∧ u ≤ 4)) (fun s => s.converterReturn (Fin.ofNat 4 (u - 1)));
    (s.endVisit u).settle)) ∧
  (∀ (res : CalResult) (s : State), (∀ u, s.afe.pass = some (u, true) → u = 12 ∧ s.afe.spare.isSome = true) →
    exec (.calVisitComplete res) s = .next s.settle) ∧
  -- CAL_VISIT_ABORT (R136)
  (∀ (h : Fin 2) (s : State) u, (s.afe.pass = some (u, true)) → (s.halfVisit h = true ∧ 8 ≤ s.afe.visitMis.get h) →
    exec (.calVisitAbort h) s = .next (let s := s.endVisit u; s.iff (s.xchkOn h && (s.afe.judge.get h).isNone) (fun s => s.xchkDeclare h 8))) ∧
  (∀ (h : Fin 2) (s : State) u, (s.afe.pass = some (u, true)) → ¬(s.halfVisit h = true ∧ 8 ≤ s.afe.visitMis.get h) →
    exec (.calVisitAbort h) s = .next s) ∧
  (∀ (h : Fin 2) (s : State), (match s.afe.pass with | some (_, true) => False | _ => True) → exec (.calVisitAbort h) s = .next s) ∧
  -- CAL_PASS_END (R137)
  (∀ (ppm : Int) (s : State) u, (s.afe.pass = some (u, false)) → (u < 15) → exec (.calPassEnd ppm) s = .next s.settle) ∧
  (∀ (ppm : Int) (s : State) u, (s.afe.pass = some (u, false)) → ¬(u < 15) → (let refs := decide (ppm.natAbs ≤ 500);
    let units := (if refs then s.afe.passFail else s.afe.passFail ||| 2 ^ 14); let bad := units != 0;
    let near := fun (x : Vector (Int × Int) 15) => (List.finRange 15).all (fun i => coefNear (x.get i) (s.afe.found.get i));
    let between := (match s.afe.failed with | x :: y :: _ => near x && near y && (List.finRange 15).all (fun i => coefNear (x.get i) (y.get i)) | _ => false);
    let take := bad && decide (2 ≤ s.afe.failRun) && between && refs; take) → exec (.calPassEnd ppm) s = .next (let refs := decide (ppm.natAbs ≤ 500);
    let units := (if refs then s.afe.passFail else s.afe.passFail ||| 2 ^ 14); let bad := units != 0;
    let near := fun (x : Vector (Int × Int) 15) => (List.finRange 15).all (fun i => coefNear (x.get i) (s.afe.found.get i));
    let between := (match s.afe.failed with | x :: y :: _ => near x && near y && (List.finRange 15).all (fun i => coefNear (x.get i) (y.get i)) | _ => false);
    let take := bad && decide (2 ≤ s.afe.failRun) && between && refs;
    let s := ((s.incWrap AFE_CAL_PASS_CNT_PASSES).set AFE_CAL_FAIL_SRC_UNITS units).setI AFE_CAL_REF_PPM ppm;
    let s := s.iff bad (fun s => (s.inc AFE_CAL_FAIL_SRC_FAILS).event .calPassFailed 0 [units]);
    let s := { s with afe := { s.afe with pass := none, calInvalid := bad && !take, failRun := if bad then s.afe.failRun + 1 else 0, failed := if bad then (s.afe.found :: s.afe.failed).take 2 else [], coefs := if bad then s.afe.coefs else s.afe.found } };
    s.coefsBlend.settle)) ∧
  (∀ (ppm : Int) (s : State) u, (s.afe.pass = some (u, false)) → ¬(u < 15) → ¬(let refs := decide (ppm.natAbs ≤ 500);
    let units := (if refs then s.afe.passFail else s.afe.passFail ||| 2 ^ 14); let bad := units != 0;
    let near := fun (x : Vector (Int × Int) 15) => (List.finRange 15).all (fun i => coefNear (x.get i) (s.afe.found.get i));
    let between := (match s.afe.failed with | x :: y :: _ => near x && near y && (List.finRange 15).all (fun i => coefNear (x.get i) (y.get i)) | _ => false);
    let take := bad && decide (2 ≤ s.afe.failRun) && between && refs; take) → exec (.calPassEnd ppm) s = .next (let refs := decide (ppm.natAbs ≤ 500);
    let units := (if refs then s.afe.passFail else s.afe.passFail ||| 2 ^ 14); let bad := units != 0;
    let near := fun (x : Vector (Int × Int) 15) => (List.finRange 15).all (fun i => coefNear (x.get i) (s.afe.found.get i));
    let between := (match s.afe.failed with | x :: y :: _ => near x && near y && (List.finRange 15).all (fun i => coefNear (x.get i) (y.get i)) | _ => false);
    let take := bad && decide (2 ≤ s.afe.failRun) && between && refs;
    let s := ((s.incWrap AFE_CAL_PASS_CNT_PASSES).set AFE_CAL_FAIL_SRC_UNITS units).setI AFE_CAL_REF_PPM ppm;
    let s := s.iff bad (fun s => (s.inc AFE_CAL_FAIL_SRC_FAILS).event .calPassFailed 0 [units]);
    let s := { s with afe := { s.afe with pass := none, calInvalid := bad && !take, failRun := if bad then s.afe.failRun + 1 else 0, failed := if bad then (s.afe.found :: s.afe.failed).take 2 else [], coefs := if bad then s.afe.coefs else s.afe.found } };
    s.settle)) ∧
  (∀ (ppm : Int) (s : State), (match s.afe.pass with | some (_, false) => False | _ => True) → exec (.calPassEnd ppm) s = .next s.settle) ∧
  -- SPARE_CHANGEOVER (R128)
  (∀ (n : Fin 8) (toSpare : Bool) (s : State) m t, toSpare → (s.afe.spare = some (m, t)) → (let pos := s.get AFE_INT_STAT_SPARE_POS;
    m = n.val ∧ pos = 0xF ∧ t + 1000 ≤ s.tick) →
    exec (.spareChangeover n toSpare) s = .next ((s.set AFE_INT_STAT_SPARE_POS n.val).inc AFE_INT_STAT_SWAPS)) ∧
  (∀ (n : Fin 8) (toSpare : Bool) (s : State) m t, toSpare → (s.afe.spare = some (m, t)) → ¬(let pos := s.get AFE_INT_STAT_SPARE_POS;
    m = n.val ∧ pos = 0xF ∧ t + 1000 ≤ s.tick) → exec (.spareChangeover n toSpare) s = .next s) ∧
  (∀ (n : Fin 8) (toSpare : Bool) (s : State), toSpare → (s.afe.spare = none) → exec (.spareChangeover n toSpare) s = .next s) ∧
  (∀ (n : Fin 8) (toSpare : Bool) (s : State), ¬toSpare → (let pos := s.get AFE_INT_STAT_SPARE_POS; pos = n.val) →
    exec (.spareChangeover n toSpare) s = .next (let s := (s.set AFE_INT_STAT_SPARE_POS 0xF).inc AFE_INT_STAT_SWAPS;
    let a := { s.afe with strCal := s.afe.strCal.set n (some s.tick) };
    { s with afe := if n.val < 7 then { a with spare := some (n.val + 1, s.tick) } else { a with spare := none, spareCal := some s.tick } })) ∧
  (∀ (n : Fin 8) (toSpare : Bool) (s : State), ¬toSpare → ¬(let pos := s.get AFE_INT_STAT_SPARE_POS; pos = n.val) →
    exec (.spareChangeover n toSpare) s = .next s) ∧
  -- DIODE_CONVERSION (R134)
  (∀ (ch : Fin 28) (res : DiodeResult) (s : State), (s.diodeNext = some ch.val) → (let s := (s.diode ch res).diodeStep ch; let ch : Nat := ch.val;
    let g := s.get THM_MAP_GROUP (if ch < 12 then ch else ch - 8); (12 ≤ ch ∧ ch < 20) ∨ 6 ≤ g) →
    exec (.diodeConversion ch res) s = .next (let s := (s.diode ch res).diodeStep ch; s.settle)) ∧
  (∀ (ch : Fin 28) (res : DiodeResult) (s : State), (s.diodeNext = some ch.val) → ¬(let s := (s.diode ch res).diodeStep ch; let ch : Nat := ch.val;
    let g := s.get THM_MAP_GROUP (if ch < 12 then ch else ch - 8); (12 ≤ ch ∧ ch < 20) ∨ 6 ≤ g) →
    exec (.diodeConversion ch res) s = .next (let s := (s.diode ch res).diodeStep ch; let ch : Nat := ch.val;
    let g := s.get THM_MAP_GROUP (if ch < 12 then ch else ch - 8); ({ s with thm := { s.thm with due := s.thm.due ||| 2 ^ g } }).settle)) ∧
  (∀ (ch : Fin 28) (res : DiodeResult) (s : State), ¬(s.diodeNext = some ch.val) → exec (.diodeConversion ch res) s = .next s) ∧
  -- AFE_MEANS_UPDATE (R121)
  (∀ (before after : BusSamples) (phases : Vector (Twice Int) 16) (charge current : Vector Int 8) (ovr : Bool) (strOvr : BitVec 8) (s : State), s.boot.g.isNone →
    exec (.afeMeansUpdate before after phases charge current ovr strOvr) s = .next s) ∧
  (∀ (before after : BusSamples) (phases : Vector (Twice Int) 16) (charge current : Vector Int 8) (ovr : Bool) (strOvr : BitVec 8) (s : State), ¬s.boot.g.isNone →
    exec (.afeMeansUpdate before after phases charge current ovr strOvr) s = .next (let s := ((s.busSamples (before, after)).phaseSamples phases).fastOverrange ovr;
    let s := s.iff (s.tick % 1000 == 0 && s.tick != 0) State.means;
    s.each (List.finRange 8) (fun s n => s.shuntRead n (charge.get n) (current.get n) (strOvr.getLsbD n.val)))) ∧
  (∀ (x y : BusSamples) (ph : Vector (Twice Int) 16) (ch cu : Vector Int 8) (o : Bool) (so : BitVec 8) (s : State), s.boot.g.isSome = true →
  Runs (.afeMeansUpdate x y ph ch cu o so) s (fun t => t.tick = s.tick ∧ t.power = s.power ∧ t.pending = s.pending))

/-- O26. The loop engine. Each of these commands completes, in every state and for every operand that meet the conditions of the clause, which are
conditions on them alone and are those of the rule named with it, and the next state is the one given, with the command's own effect; the clauses
take in every form of the command, among them the states in which the rule gives it nothing to do; of a command that writes or reads a register
they take in the accesses that R71 lets pass, and RefusedCommands says what one that is refused does: LOOP_SAMPLE_REQUEST (R155),
COEF_WINDOW_WRITE (R163), LPE_ADMIT (R164), ADMISSION_COMPLETE (R167), LPE_DISCARD (R163), LANE_TEST (R177), LANE_SELF_TEST (R162), CLEAR_FAULT
(R172), RESET_STATE (R172), COEF_CRC_CHECK (R173). -/
def Obligations.LoopCommands : Prop :=
  -- LOOP_SAMPLE_REQUEST (R155)
  (∀ (n : Fin 64) (fine : Fin 50) (run : LoopRun) (s : State), (let tau := s.pairFine fine.val; let x := s.slot n;
    s.on LPE_CTRL_EN && s.boot.g.isSome && s.slotActive n && decide ((tau - x.phase) % ((max 1 x.period : Nat) : Int) = 0)) →
    exec (.loopSampleRequest n fine run) s = .next (let tau := s.pairFine fine.val; ((s.loopAlign n).loopRequest n tau.toNat run).settle)) ∧
  (∀ (n : Fin 64) (fine : Fin 50) (run : LoopRun) (s : State), ¬(let tau := s.pairFine fine.val; let x := s.slot n;
    s.on LPE_CTRL_EN && s.boot.g.isSome && s.slotActive n && decide ((tau - x.phase) % ((max 1 x.period : Nat) : Int) = 0)) →
    exec (.loopSampleRequest n fine run) s = .next s) ∧
  -- COEF_WINDOW_WRITE (R163)
  (∀ (r : Requester) (off : Fin 0x10000) (w : Word) (s : State), s.mayWrite r (stagedBase + off.val) = true → (let off : Nat := off.val;
    coefSpot off = .word) → (let s := s.touch r; let off : Nat := off.val; let k : Nat := stagedBase + off; s.overruled r k) →
    exec (.coefWindowWrite r off w) s = .next (let s := s.touch r; s)) ∧
  (∀ (r : Requester) (off : Fin 0x10000) (w : Word) (s : State), s.mayWrite r (stagedBase + off.val) = true →
    (let off : Nat := off.val; coefSpot off = .word) →
    ¬(let s := s.touch r; let off : Nat := off.val; let k : Nat := stagedBase + off; s.overruled r k) →
    exec (.coefWindowWrite r off w) s = .next (let s := s.touch r; let off : Nat := off.val; let k : Nat := stagedBase + off; let f := fun s => s.store (stagedBase + off) w; f (s.noteWrite r k))) ∧
  (∀ (r : Requester) (off : Fin 0x10000) (w : Word) (s : State), s.mayWrite r (stagedBase + off.val) = true → ¬(let off : Nat := off.val;
    coefSpot off = .word) → exec (.coefWindowWrite r off w) s = .next (let s := s.touch r; s)) ∧
  -- LPE_ADMIT (R164)
  (∀ (r : Requester) (s : State), s.mayWrite r LPE_CMD_ADMIT.addr = true →
    (match (let s := s.touch r; s.lpe.admission) with | some _ => True | _ => False) → exec (.lpeAdmit r) s = .next (let s := s.touch r; s)) ∧
  (∀ (r : Requester) (s : State), s.mayWrite r LPE_CMD_ADMIT.addr = true → ((let s := s.touch r; s.lpe.admission) = none) →
    exec (.lpeAdmit r) s = .next (let s := s.touch r; let tune : Bool := false; let w := s.loopView;
    let a : Admission := { at_ := s.tick, adds := s.addsLoad w, regs := w.regs, mem := w.mem, tune := tune, vcore := s.get SYS_VCORE_STAT_VCORE, forced := s.tb.forcedSince };
    let s := (s.set LPE_ADMIT_STAT_RESULT 1).iff a.adds State.vcoreMax; { s with lpe := { s.lpe with admission := some a } })) ∧
  -- ADMISSION_COMPLETE (R167)
  (∀ s : State, (s.lpe.admission = none) → exec .admissionComplete s = .next s) ∧
  (∀ (s : State) a, (s.lpe.admission = some a) → (!a.adds ∨ s.tb.settleAt ≤ s.tick) → exec .admissionComplete s = .next (s.admissionDone a)) ∧
  (∀ (s : State) a, (s.lpe.admission = some a) → ¬(!a.adds ∨ s.tb.settleAt ≤ s.tick) → exec .admissionComplete s = .next s) ∧
  -- LPE_DISCARD (R163)
  (∀ (r : Requester) (s : State), s.mayWrite r LPE_CMD_DISCARD.addr = true → exec (.lpeDiscard r) s = .next ((s.touch r).discardStaged)) ∧
  -- LANE_TEST (R177)
  (∀ (r : Requester) (pass : BitVec 5) (s : State), s.mayWrite r LPE_CMD_LANE_TEST.addr = true → exec (.laneTest r pass) s = .next (let s := s.touch r;
    (s.each (List.finRange 5) (fun s k => s.laneTest k (pass.getLsbD k.val))).settle)) ∧
  -- LANE_SELF_TEST (R162)
  (∀ (k : Fin 5) (pass : Bool) (s : State), (s.lpe.testAt.get k + 10000000 ≤ s.tick) → (s.get LPE_LANE_ROLE k.val ≠ 2) →
    exec (.laneSelfTest k pass) s = .next s.settle) ∧
  (∀ (k : Fin 5) (pass : Bool) (s : State), (s.lpe.testAt.get k + 10000000 ≤ s.tick) → ¬(s.get LPE_LANE_ROLE k.val ≠ 2) →
    exec (.laneSelfTest k pass) s = .next (let s := { s with lpe := { s.lpe with testAt := s.lpe.testAt.set k s.tick, testing := s.lpe.testing.set k (some pass) } };
    (s.set LPE_LANE_ROLE 3 k.val).settle)) ∧
  (∀ (k : Fin 5) (pass : Bool) (s : State), ¬(s.lpe.testAt.get k + 10000000 ≤ s.tick) → exec (.laneSelfTest k pass) s = .next s) ∧
  -- CLEAR_FAULT (R172)
  (∀ (r : Requester) (n : Fin 64) (s : State), s.mayWrite r LPE_SLOT_CMD_CLEAR_FAULT.addr = true → (let s := s.touch r;
    let s := s.set LPE_SLOT_CMD_SLOT n.val; s.on LPS_STAT_FAULT n.val) → exec (.loopClearFault r n) s = .next (let s := s.touch r;
    let s := s.set LPE_SLOT_CMD_SLOT n.val; let x : LoopSlot := { s.slot n with start := true, old := none, late := false };
    let s := s.setB LPS_STAT_FAULT false n.val; { s with lpe := { s.lpe with slots := s.lpe.slots.set n x } })) ∧
  (∀ (r : Requester) (n : Fin 64) (s : State), s.mayWrite r LPE_SLOT_CMD_CLEAR_FAULT.addr = true → ¬(let s := s.touch r;
    let s := s.set LPE_SLOT_CMD_SLOT n.val; s.on LPS_STAT_FAULT n.val) → exec (.loopClearFault r n) s = .next (let s := s.touch r;
    let s := s.set LPE_SLOT_CMD_SLOT n.val; s)) ∧
  -- RESET_STATE (R172)
  (∀ (r : Requester) (n : Fin 64) (s : State), s.mayWrite r LPE_SLOT_CMD_RESET_STATE.addr = true → (let s := s.touch r;
    let s := s.set LPE_SLOT_CMD_SLOT n.val; s.on LPS_STAT_FAULT n.val || !s.slotActive n) → exec (.loopResetState r n) s = .next (let s := s.touch r;
    let s := s.set LPE_SLOT_CMD_SLOT n.val; s)) ∧
  (∀ (r : Requester) (n : Fin 64) (s : State), s.mayWrite r LPE_SLOT_CMD_RESET_STATE.addr = true → ¬(let s := s.touch r;
    let s := s.set LPE_SLOT_CMD_SLOT n.val; s.on LPS_STAT_FAULT n.val || !s.slotActive n) → exec (.loopResetState r n) s = .next (let s := s.touch r;
    let s := s.set LPE_SLOT_CMD_SLOT n.val; let x : LoopSlot := { s.slot n with start := true };
    { s with lpe := { s.lpe with slots := s.lpe.slots.set n x } })) ∧
  -- COEF_CRC_CHECK (R173)
  (∀ (bad : BitVec 64) (s : State), (s.tick % 1000 ≠ 0) → exec (.coefCrcCheck bad) s = .next s) ∧
  (∀ (bad : BitVec 64) (s : State), ¬(s.tick % 1000 ≠ 0) → (let hit := (List.finRange 64).any (fun n => bad.getLsbD n.val && s.slotActive n); hit) →
    exec (.coefCrcCheck bad) s = .next (let s := s.each (List.finRange 64) (fun s n => s.coefCheckSlot n (bad.getLsbD n.val)); let d := s.draw;
    (d.2.set LPE_COEF_CRC_CRC (d.1 % 2 ^ 32).toNat).settle)) ∧
  (∀ (bad : BitVec 64) (s : State), ¬(s.tick % 1000 ≠ 0) → ¬(let hit := (List.finRange 64).any (fun n => bad.getLsbD n.val && s.slotActive n); hit) →
    exec (.coefCrcCheck bad) s = .next (let s := s.each (List.finRange 64) (fun s n => s.coefCheckSlot n (bad.getLsbD n.val));
    (s.set LPE_COEF_CRC_CRC s.coefCrc.toNat).settle)) ∧
  (∀ (bad : BitVec 64) (s : State), s.tick % 1000 = 0 →
  (List.finRange 64).any (fun n => bad.getLsbD n.val && s.slotActive n) = false → Runs (.coefCrcCheck bad) s (fun t =>
    ∃ u : State, u = s.each (List.finRange 64) (fun s n => s.coefCheckSlot n (bad.getLsbD n.val)) ∧
      t.get LPE_COEF_CRC_CRC = u.coefCrc.toNat))

/-- O27. The tuner, the line tables and the repetitive control. Each of these commands completes, in every state and for every operand that meet the
conditions of the clause, which are conditions on them alone and are those of the rule named with it, and the next state is the one given, with
the command's own effect; the clauses take in every form of the command, among them the states in which the rule gives it nothing to do; of a
command that writes or reads a register they take in the accesses that R71 lets pass, and RefusedCommands says what one that is refused does:
TUNE_START (R179), TUNE_ABORT (R182), TUNE_APPLY (R185), TUNE_REPROPOSE (R184), RELAY_TIMEOUT (R182), LINE_CROSSING (R187), LINE_SOURCE_LOST
(R188), FLYWHEEL_END (R188), LPT_TBL_COMMIT (R190), TBL_SWAP (R190), TBL_DATA_ACCESS (R190), TBL_CRC_CHECK (R191), RC_CLEAR (R195), RC_FADE_END
(R195). -/
def Obligations.TunerCommands : Prop :=
  -- TUNE_START (R179)
  (∀ (r : Requester) (s : State), s.mayWrite r LPT_CMD_TUNE_START.addr = true → (let s := s.touch r; s.tuneMayStart) →
    exec (.tuneStart r) s = .next (let s := s.touch r; let s := ((s.set LPT_TUNE_STAT_STATE 1).set LPT_TUNE_STAT_RESULT 1).set LPT_TUNE_STAT_FIELD 0;
    let s := ((s.set LPT_TUNE_STAT_DONE 0).inc LPT_TUNE_STAT_TUNES).setB LPS_STAT_TUNING true s.tuneSlot.val; let x : Tune := { began := s.tick };
    { s with lpt := { s.lpt with tune := x } })) ∧
  (∀ (r : Requester) (s : State), s.mayWrite r LPT_CMD_TUNE_START.addr = true → ¬(let s := s.touch r; s.tuneMayStart) →
    exec (.tuneStart r) s = .next (let s := s.touch r; s.set LPT_TUNE_STAT_RESULT 8)) ∧
  -- TUNE_ABORT (R182)
  (∀ (r : Requester) (s : State), s.mayWrite r LPT_CMD_TUNE_ABORT.addr = true → (let s := s.touch r; s.tuneState = 1) →
    exec (.tuneAbort r) s = .next (let s := s.touch r; let result : Nat := 4; s.iff (s.tuneState == 1) (fun s => s.tuneEnd 0 result 0))) ∧
  (∀ (r : Requester) (s : State), s.mayWrite r LPT_CMD_TUNE_ABORT.addr = true → ¬(let s := s.touch r; s.tuneState = 1) → (let s := s.touch r;
    s.tuneState = 2) → exec (.tuneAbort r) s = .next (let s := s.touch r; (s.set LPT_TUNE_STAT_STATE 0).set LPT_TUNE_STAT_RESULT 4)) ∧
  (∀ (r : Requester) (s : State), s.mayWrite r LPT_CMD_TUNE_ABORT.addr = true → ¬(let s := s.touch r; s.tuneState = 1) → ¬(let s := s.touch r;
    s.tuneState = 2) → exec (.tuneAbort r) s = .next (let s := s.touch r; s)) ∧
  -- TUNE_APPLY (R185)
  (∀ (r : Requester) (s : State), s.mayWrite r LPT_CMD_TUNE_APPLY.addr = true → (let s := s.touch r; s.tuneState ≠ 2) →
    exec (.tuneApply r) s = .next (let s := s.touch r; s)) ∧
  (∀ (r : Requester) (s : State), s.mayWrite r LPT_CMD_TUNE_APPLY.addr = true → ¬(let s := s.touch r; s.tuneState ≠ 2) → (let s := s.touch r;
    (List.finRange 64).any (fun n => s.slotStaged n)) → exec (.tuneApply r) s = .next (let s := s.touch r; s.set LPT_TUNE_STAT_RESULT 0xA)) ∧
  (∀ (r : Requester) (s : State), s.mayWrite r LPT_CMD_TUNE_APPLY.addr = true → ¬(let s := s.touch r; s.tuneState ≠ 2) → ¬(let s := s.touch r;
    (List.finRange 64).any (fun n => s.slotStaged n)) → exec (.tuneApply r) s = .next (let s := s.touch r;
    let a := stagedBase + 0x400 * s.tuneSlot.val + 0xC0 * s.get LPT_TUNE_CFG_REGION;
    let s := (s.store (a + 0x10) (s.reg LPT_PROP_KP_VAL.addr)).store (a + 0x14) (s.reg LPT_PROP_KI_VAL.addr);
    let s := (s.store (a + 0x18) (s.reg LPT_PROP_KD_VAL.addr)).store (a + 0x1C) (s.reg LPT_PROP_KT_VAL.addr); s.admitStart true)) ∧
  -- TUNE_REPROPOSE (R184)
  (∀ (r : Requester) (s : State), s.mayWrite r LPT_CMD_TUNE_REPROPOSE.addr = true → exec (.tuneRepropose r) s = .next (let s := s.touch r;
    s.iff (s.tuneState != 1 && s.lpt.tune.held) (fun s => s.tunePropose false))) ∧
  -- RELAY_TIMEOUT (R182)
  (∀ s : State, (s.tuneState = 1 ∧ s.lpt.tune.u0.isSome ∧ s.lpt.tune.began + 1000 * s.get LPT_TUNE_CFG_TMAX ≤ s.tick) →
    exec .relayTimeout s = .next (let result : Nat := 6; s.iff (s.tuneState == 1) (fun s => s.tuneEnd 0 result 0))) ∧
  (∀ s : State, ¬(s.tuneState = 1 ∧ s.lpt.tune.u0.isSome ∧ s.lpt.tune.began + 1000 * s.get LPT_TUNE_CFG_TMAX ≤ s.tick) → exec .relayTimeout s = .next s) ∧
  -- LINE_CROSSING (R187)
  (∀ (k : Fin 3) (fine : Fin 50) (amp : Nat) (s : State), (!s.on LPT_LP_CTRL_EN ∨ s.boot.g.isNone) → exec (.lineCrossing k fine amp) s = .next s) ∧
  (∀ (k : Fin 3) (fine : Fin 50) (amp : Nat) (s : State) t, ¬(!s.on LPT_LP_CTRL_EN ∨ s.boot.g.isNone) → (s.crossing k fine = some t) →
    exec (.lineCrossing k fine amp) s = .next (s.lineCross k t amp)) ∧
  (∀ (k : Fin 3) (fine : Fin 50) (amp : Nat) (s : State), ¬(!s.on LPT_LP_CTRL_EN ∨ s.boot.g.isNone) → (s.crossing k fine = none) →
    exec (.lineCrossing k fine amp) s = .next s) ∧
  (∀ (k : Fin 3) (fine : Fin 50) (amp t0 : Nat) (s : State), s.on LPT_LP_CTRL_EN = true → s.boot.g.isSome = true → s.crossing k fine = some t0 →
  Runs (.lineCrossing k fine amp) s (fun t => t.tick = s.tick ∧ t.power = s.power ∧
    ((t.lpt.line.src.get k).last = some t0))) ∧
  -- LINE_SOURCE_LOST (R188)
  (∀ (k : Fin 3) (s : State), (let x := s.lpt.line.src.get k;
    let overdue := (match x.last with | none => true | some t => decide (t + 50 * 33334 ≤ 50 * s.tick));
    s.on (sourcePresent k) && (k == 2 || overdue)) → exec (.lineSourceLost k) s = .next (let x := s.lpt.line.src.get k;
    let s := (s.setB (sourcePresent k) false).setLine { s.lpt.line with src := s.lpt.line.src.set k { x with run := 0 } }; s.lineChoose)) ∧
  (∀ (k : Fin 3) (s : State), ¬(let x := s.lpt.line.src.get k;
    let overdue := (match x.last with | none => true | some t => decide (t + 50 * 33334 ≤ 50 * s.tick));
    s.on (sourcePresent k) && (k == 2 || overdue)) → exec (.lineSourceLost k) s = .next s) ∧
  -- FLYWHEEL_END (R188)
  (∀ s : State, (s.due s.lpt.line.flyEnd) → (let s := (s.setB LPT_LP_STAT_FLYWHEEL false).setLine { s.lpt.line with flyEnd := none }; s.lineFreq = 0) →
    exec .flywheelEnd s = .next (let s := (s.setB LPT_LP_STAT_FLYWHEEL false).setLine { s.lpt.line with flyEnd := none };
    let x : Tracker := { s.lpt.line with fade := 0, dir := 0 }; { s with lpt := { s.lpt with line := x } })) ∧
  (∀ s : State, (s.due s.lpt.line.flyEnd) → ¬(let s := (s.setB LPT_LP_STAT_FLYWHEEL false).setLine { s.lpt.line with flyEnd := none }; s.lineFreq = 0) →
    exec .flywheelEnd s = .next (let s := (s.setB LPT_LP_STAT_FLYWHEEL false).setLine { s.lpt.line with flyEnd := none }; let dir : Int := -1;
    let x : Tracker := { s.lpt.line with fade := s.fadeFactor, fadeAt := s.tick, dir := dir }; { s with lpt := { s.lpt with line := x } })) ∧
  (∀ s : State, ¬(s.due s.lpt.line.flyEnd) → exec .flywheelEnd s = .next s) ∧
  (∀ s : State, s.due s.lpt.line.flyEnd = true → Runs .flywheelEnd s (fun t => t.lpt.line.flyEnd = none ∧ t.tick = s.tick)) ∧
  -- LPT_TBL_COMMIT (R190)
  (∀ (r : Requester) (banks : BitVec 8) (s : State), s.mayWrite r LPT_CMD_TBL_COMMIT.addr = true → (let s := s.touch r; let m : Nat := banks.toNat;
    let x := s.lpt.line; let s := s.setLine { x with pending := Vector.ofFn (fun b => x.pending.get b || m.testBit b.val) }; s.fadeFactor = 0) →
    exec (.lptTblCommit r banks) s = .next (let s := s.touch r; let m : Nat := banks.toNat; let x := s.lpt.line;
    let s := s.setLine { x with pending := Vector.ofFn (fun b => x.pending.get b || m.testBit b.val) }; s.swapPending)) ∧
  (∀ (r : Requester) (banks : BitVec 8) (s : State), s.mayWrite r LPT_CMD_TBL_COMMIT.addr = true → ¬(let s := s.touch r; let m : Nat := banks.toNat;
    let x := s.lpt.line; let s := s.setLine { x with pending := Vector.ofFn (fun b => x.pending.get b || m.testBit b.val) }; s.fadeFactor = 0) →
    exec (.lptTblCommit r banks) s = .next (let s := s.touch r; let m : Nat := banks.toNat; let x := s.lpt.line;
    let s := s.setLine { x with pending := Vector.ofFn (fun b => x.pending.get b || m.testBit b.val) }; s)) ∧
  -- TBL_SWAP (R190)
  (∀ s : State, (s.lpt.line.pending.toList.any id && (s.fadeFactor == 0 || decide (s.linePhase < s.lineFreq))) →
    exec .tblSwap s = .next (let s := s.each (List.finRange 8) (fun s b => if s.lpt.line.pending.get b then s.swapBank b else s);
    s.set LPT_TBL_CRC_CRC (crc32c (s.bytes tblActive 0x2000)).toNat)) ∧
  (∀ s : State, ¬(s.lpt.line.pending.toList.any id && (s.fadeFactor == 0 || decide (s.linePhase < s.lineFreq))) → exec .tblSwap s = .next s) ∧
  -- TBL_DATA_ACCESS (R190)
  (∀ (r : Requester) (write : Option Word) (s : State), (match write with | some _ => True | _ => False) → s.mayWrite r LPT_TBL_DATA_DATA.addr = true →
    exec (.tblDataAccess r write) s = .next (let s := s.touch r; let i := s.get LPT_TBL_ADDR_INDEX;
    let off := 0x400 * s.get LPT_TBL_ADDR_BANK + 4 * i;
    let s := (match write with | some w => s.store (tblEdit + off) w | none => s.reply [(s.load ((if s.on LPT_TBL_ADDR_VIEW then tblActive else tblEdit) + off)).toNat]);
    s.iff (s.on LPT_TBL_ADDR_AUTOINC) (fun s => s.set LPT_TBL_ADDR_INDEX (i + 1)))) ∧
  (∀ (r : Requester) (write : Option Word) (s : State), (write = none) → s.mayRead r LPT_TBL_DATA_DATA.addr = true →
    exec (.tblDataAccess r write) s = .next (let s := s.touch r; let write : Option Word := none; let i := s.get LPT_TBL_ADDR_INDEX;
    let off := 0x400 * s.get LPT_TBL_ADDR_BANK + 4 * i;
    let s := (match write with | some w => s.store (tblEdit + off) w | none => s.reply [(s.load ((if s.on LPT_TBL_ADDR_VIEW then tblActive else tblEdit) + off)).toNat]);
    s.iff (s.on LPT_TBL_ADDR_AUTOINC) (fun s => s.set LPT_TBL_ADDR_INDEX (i + 1)))) ∧
  -- TBL_CRC_CHECK (R191)
  (∀ (bad : BitVec 8) (s : State), (s.tick % 1000 ≠ 0 ∨ s.boot.g.isNone) → exec (.tblCrcCheck bad) s = .next s) ∧
  (∀ (bad : BitVec 8) (s : State), ¬(s.tick % 1000 ≠ 0 ∨ s.boot.g.isNone) →
    exec (.tblCrcCheck bad) s = .next (let s := s.each (List.finRange 8) (fun s b => s.bankCheck b (bad.getLsbD b.val));
    s.set LPT_TBL_CRC_CRC (crc32c (s.bytes tblActive 0x2000)).toNat)) ∧
  -- RC_CLEAR (R195)
  (∀ (r : Requester) (which : BitVec 4) (s : State), s.mayWrite r LPT_CMD_RC_CLEAR.addr = true → exec (.rcClear r which) s = .next (let s := s.touch r;
    let m : Nat := which.toNat;
    s.each (List.finRange 4) (fun s k => if m.testBit k.val then (s.setB LPT_RC_STAT_DIVERGED false k.val).rcFade k else s))) ∧
  -- RC_FADE_END (R195)
  (∀ (k : Fin 4) (s : State), ((s.rc k).fading = none) → exec (.rcFadeEnd k) s = .next s) ∧
  (∀ (k : Fin 4) (s : State) q, ((s.rc k).fading = some q) → (let n := max 1 (s.get LPT_RC_CFG_N k.val); q.2.2 < n) → exec (.rcFadeEnd k) s = .next s) ∧
  (∀ (k : Fin 4) (s : State) q, ((s.rc k).fading = some q) → ¬(let n := max 1 (s.get LPT_RC_CFG_N k.val); q.2.2 < n) →
    exec (.rcFadeEnd k) s = .next ((s.setRc k { started := true, slot := (s.rc k).slot }).set LPT_RC_STAT_STATE (if !s.on LPT_RC_CFG_EN k.val then 0 else if s.on LPT_RC_CFG_LEARN k.val && !s.on LPT_RC_STAT_DIVERGED k.val then 1 else 2) k.val))

/-- O28. The phases and groups of the converter. Each of these commands completes, in every state and for every operand that meet the conditions of the
clause, which are conditions on them alone and are those of the rule named with it, and the next state is the one given, with the command's own
effect; the clauses take in every form of the command, among them the states in which the rule gives it nothing to do; of a command that writes
or reads a register they take in the accesses that R71 lets pass, and RefusedCommands says what one that is refused does: PHASE_CYCLE_START
(R212), PEAK_COMPARATOR_TRIP (R212), DPWM_RECAL (R206), PWM_PERIOD_APPLY (R203), GROUP_SOFTSTART (R218), SHORT_DETECT (R218), GROUP_RETRY_EXPIRY
(R217), GROUP_RETRY_RESET (R217), CLEAR_G (R217), SHED_WINDOW_EXPIRY (R219), PHASE_UNSHED (R219), DE_ENTER (R220), SLEW (R226), SLEW_COMPLETE
(R226), REFERENCE_REACHES_TARGET (R221). -/
def Obligations.PhaseCommands : Prop :=
  -- PHASE_CYCLE_START (R212)
  (∀ (n : Fin 16) (fine : Fin 50) (step : Fin 308) (sum : Int) (cnt : Nat) (skip : Bool) (fault : Twice Bool) (s : State), (let t := s.edgeTime fine step;
    let s := s.phaseTo n t; let g := s.get PWM_PH_CFG_GROUP n.val; let s' := s.setB PWM_PH_STAT_ACTIVE true n.val;
    let off := s'.offsetOf (s'.rankOf n) (s'.nAct g); let grid := (t - off) % ((max 1 s.cnv.period * 308 : Nat) : Int);
    s.phaseUsable n && s.groupUp g && !s.on PWM_PH_STAT_SHED n.val && s.outputsOn && decide (grid = 0) && s.startDue n off t && s.startFree n g t) →
    exec (.phaseCycleStart n fine step sum cnt skip fault) s = .next (let t := s.edgeTime fine step; let s := s.phaseTo n t;
    ((s.cycleEnd n sum cnt).cycleStart n t skip).readback n fault)) ∧
  (∀ (n : Fin 16) (fine : Fin 50) (step : Fin 308) (sum : Int) (cnt : Nat) (skip : Bool) (fault : Twice Bool) (s : State), ¬(let t := s.edgeTime fine step;
    let s := s.phaseTo n t; let g := s.get PWM_PH_CFG_GROUP n.val; let s' := s.setB PWM_PH_STAT_ACTIVE true n.val;
    let off := s'.offsetOf (s'.rankOf n) (s'.nAct g); let grid := (t - off) % ((max 1 s.cnv.period * 308 : Nat) : Int);
    s.phaseUsable n && s.groupUp g && !s.on PWM_PH_STAT_SHED n.val && s.outputsOn && decide (grid = 0) && s.startDue n off t && s.startFree n g t) →
    exec (.phaseCycleStart n fine step sum cnt skip fault) s = .next (let t := s.edgeTime fine step; let s := s.phaseTo n t; s)) ∧
  -- PEAK_COMPARATOR_TRIP (R212)
  (∀ (n : Fin 16) (steps : Nat) (fault : Twice Bool) (s : State) b, ((let x := s.phase n; x.bound) = some b) →
    exec (.peakComparatorTrip n steps fault) s = .next ((s.onEnd n (min (max steps (nsSteps (s.get PWM_LIMITS_MIN_ON))) b)).readback n fault)) ∧
  (∀ (n : Fin 16) (steps : Nat) (fault : Twice Bool) (s : State), ((let x := s.phase n; x.bound) = none) → (s.on PWM_PH_STAT_DE n.val) →
    exec (.peakComparatorTrip n steps fault) s = .next (let x := s.phase n; (s.setPhase n { x with drive := .low, next := none }).readback n fault)) ∧
  (∀ (n : Fin 16) (steps : Nat) (fault : Twice Bool) (s : State), ((let x := s.phase n; x.bound) = none) → ¬(s.on PWM_PH_STAT_DE n.val) →
    exec (.peakComparatorTrip n steps fault) s = .next s) ∧
  -- DPWM_RECAL (R206)
  (∀ (steps : Nat) (s : State), (s.tick % 1000 ≠ 0 ∨ s.tb.onCheck) → exec (.dpwmRecal steps) s = .next s) ∧
  (∀ (steps : Nat) (s : State), ¬(s.tick % 1000 ≠ 0 ∨ s.tb.onCheck) → (280 ≤ steps ∧ steps ≤ 340) →
    exec (.dpwmRecal steps) s = .next ({ ((s.set PWM_CAL_STEPS steps).setB PWM_CAL_CAL_FAIL false) with cnv := { s.cnv with calAt := some s.tick } })) ∧
  (∀ (steps : Nat) (s : State), ¬(s.tick % 1000 ≠ 0 ∨ s.tb.onCheck) → ¬(280 ≤ steps ∧ steps ≤ 340) →
    exec (.dpwmRecal steps) s = .next (s.setB PWM_CAL_CAL_FAIL true)) ∧
  (∀ (steps : Nat) (s : State), s.tick % 1000 = 0 → s.tb.onCheck = false → 280 ≤ steps → steps ≤ 340 → Runs (.dpwmRecal steps) s (fun t =>
  t.get PWM_CAL_STEPS = steps ∧ t.on PWM_CAL_CAL_FAIL = false ∧ t.cnv.calAt = some s.tick ∧ t.mem = s.mem)) ∧
  -- PWM_PERIOD_APPLY (R203)
  (∀ s : State, (s.tick % 1000 = 0) → exec .pwmPeriodApply s = .next ({ s with cnv := { s.cnv with period := s.get PWM_PERIOD_PERIOD } })) ∧
  (∀ s : State, ¬(s.tick % 1000 = 0) → exec .pwmPeriodApply s = .next s) ∧
  -- GROUP_SOFTSTART (R218)
  (∀ (g : Fin 2) (s : State), (s.mayStart g.val) → (let alone := !s.groupUp (1 - g.val); alone) →
    exec (.groupSoftstart g) s = .next (let s := s.enterGroup g 1 0; let g : Nat := g.val; let v := max 0 ((s.busV g).getD 0);
    let r := (match s.refTarget with | none => v | some t => min v t);
    { s with cnv := { s.cnv with seg := some { t := s.tick, r := r * 65536, target := s.refTarget, rate := s.refRate } } })) ∧
  (∀ (g : Fin 2) (s : State), (s.mayStart g.val) → ¬(let alone := !s.groupUp (1 - g.val); alone) →
    exec (.groupSoftstart g) s = .next (let s := s.enterGroup g 1 0; s)) ∧
  (∀ (g : Fin 2) (s : State), ¬(s.mayStart g.val) → exec (.groupSoftstart g) s = .next s) ∧
  -- SHORT_DETECT (R218)
  (∀ (g : Fin 2) (s : State), (s.groupUp g.val ∧ (match (s.group g).shortSince with | some t => decide (t + s.get CNV_FB_TIME_FB_TIME ≤ s.tick) | none => false) = true) →
    exec (.shortDetect g) s = .next (let st := (if s.get CNV_GRP_STAT_RETRIES g.val < s.get CNV_RETRY_RETRY_MAX then 3 else 4); let cause : Nat := 1;
    ((((s.enterGroup g st cause).inc CNV_CNT_GRP_FAULTS).event .groupFault 0 [g.val, st, cause]).trigger 7).settle)) ∧
  (∀ (g : Fin 2) (s : State), ¬(s.groupUp g.val ∧ (match (s.group g).shortSince with | some t => decide (t + s.get CNV_FB_TIME_FB_TIME ≤ s.tick) | none => false) = true) →
    exec (.shortDetect g) s = .next s) ∧
  -- GROUP_RETRY_EXPIRY (R217)
  (∀ (g : Fin 2) (s : State), (s.groupState g.val = 3 ∧ (s.group g).since + 1000 * s.get CNV_RETRY_RETRY_MS ≤ s.tick) →
    exec (.groupRetryExpiry g) s = .next (((s.softStart g).inc CNV_GRP_STAT_RETRIES g.val).settle)) ∧
  (∀ (g : Fin 2) (s : State), ¬(s.groupState g.val = 3 ∧ (s.group g).since + 1000 * s.get CNV_RETRY_RETRY_MS ≤ s.tick) →
    exec (.groupRetryExpiry g) s = .next s) ∧
  -- GROUP_RETRY_RESET (R217)
  (∀ (g : Fin 2) (s : State), (s.groupState g.val = 2 ∧ (s.group g).retried + 60000000 ≤ s.tick) →
    exec (.groupRetryReset g) s = .next (let x : Group := { s.group g with retried := s.tick }; let s := s.set CNV_GRP_STAT_RETRIES 0 g.val;
    { s with cnv := { s.cnv with groups := s.cnv.groups.set g x } })) ∧
  (∀ (g : Fin 2) (s : State), ¬(s.groupState g.val = 2 ∧ (s.group g).retried + 60000000 ≤ s.tick) → exec (.groupRetryReset g) s = .next s) ∧
  -- CLEAR_G (R217)
  (∀ (r : Requester) (g : Fin 2) (s : State), s.mayWrite r CNV_CMD_CLEAR_G0.addr = true → (let s := s.touch r;
    let s := s.each (s.groupPhases g.val) (fun s n => (s.setB PWM_PH_STAT_FAULT false n.val).set PWM_PH_STAT_CAUSE 0 n.val); 3 ≤ s.groupState g.val) →
    exec (.clearG r g) s = .next (let s := s.touch r;
    let s := s.each (s.groupPhases g.val) (fun s n => (s.setB PWM_PH_STAT_FAULT false n.val).set PWM_PH_STAT_CAUSE 0 n.val);
    ((s.set CNV_GRP_STAT_RETRIES 0 g.val).enterGroup g 0 0).settle)) ∧
  (∀ (r : Requester) (g : Fin 2) (s : State), s.mayWrite r CNV_CMD_CLEAR_G0.addr = true → ¬(let s := s.touch r;
    let s := s.each (s.groupPhases g.val) (fun s n => (s.setB PWM_PH_STAT_FAULT false n.val).set PWM_PH_STAT_CAUSE 0 n.val); 3 ≤ s.groupState g.val) →
    exec (.clearG r g) s = .next (let s := s.touch r;
    let s := s.each (s.groupPhases g.val) (fun s n => (s.setB PWM_PH_STAT_FAULT false n.val).set PWM_PH_STAT_CAUSE 0 n.val); s.settle)) ∧
  -- SHED_WINDOW_EXPIRY (R219)
  (∀ (g : Fin 2) (s : State), ((let x := s.group g; x.shedSince) = none) → exec (.shedWindowExpiry g) s = .next s) ∧
  (∀ (g : Fin 2) (s : State) t, ((let x := s.group g; x.shedSince) = some t) → (s.shedPermitted g.val ∧ t + 1000 * s.get CNV_SHED_SHED_MS ≤ s.tick) →
    (let x := s.group g; let s := s.setGroup g { x with shedSince := some s.tick }; s.nOwn g.val ≤ s.get CNV_SHED_MIN_PH) →
    exec (.shedWindowExpiry g) s = .next (let x := s.group g; let s := s.setGroup g { x with shedSince := some s.tick }; s)) ∧
  (∀ (g : Fin 2) (s : State) t n, ((let x := s.group g; x.shedSince) = some t) → (s.shedPermitted g.val ∧ t + 1000 * s.get CNV_SHED_SHED_MS ≤ s.tick) →
    ¬(let x := s.group g; let s := s.setGroup g { x with shedSince := some s.tick }; s.nOwn g.val ≤ s.get CNV_SHED_MIN_PH) →
    ((let x := s.group g; let s := s.setGroup g { x with shedSince := some s.tick }; s.shedPick g.val) = some n) →
    exec (.shedWindowExpiry g) s = .next (let x := s.group g; let s := s.setGroup g { x with shedSince := some s.tick };
    (s.phaseLow n).setB PWM_PH_STAT_SHED true n.val)) ∧
  (∀ (g : Fin 2) (s : State) t, ((let x := s.group g; x.shedSince) = some t) → ¬(s.shedPermitted g.val ∧ t + 1000 * s.get CNV_SHED_SHED_MS ≤ s.tick) →
    exec (.shedWindowExpiry g) s = .next s) ∧
  -- PHASE_UNSHED (R219)
  (∀ (g : Fin 2) (s : State), (let x := s.group g; let free := (match x.lastUnshed with | none => true | some t => decide (t + 10 ≤ s.tick));
    free && s.shedPermitted g.val && !s.shareBelow g.val (s.get CNV_SHED_ADD_HI)) → (s.unshedPick g.val = none) → exec (.phaseUnshed g) s = .next s) ∧
  (∀ (g : Fin 2) (s : State) n, (let x := s.group g; let free := (match x.lastUnshed with | none => true | some t => decide (t + 10 ≤ s.tick));
    free && s.shedPermitted g.val && !s.shareBelow g.val (s.get CNV_SHED_ADD_HI)) → (s.unshedPick g.val = some n) →
    exec (.phaseUnshed g) s = .next (let x := s.group g; let x : Group := { x with lastUnshed := some s.tick };
    let s := s.setB PWM_PH_STAT_SHED false n.val; { s with cnv := { s.cnv with groups := s.cnv.groups.set g x } })) ∧
  (∀ (g : Fin 2) (s : State), ¬(let x := s.group g; let free := (match x.lastUnshed with | none => true | some t => decide (t + 10 ≤ s.tick));
    free && s.shedPermitted g.val && !s.shareBelow g.val (s.get CNV_SHED_ADD_HI)) → exec (.phaseUnshed g) s = .next s) ∧
  -- DE_ENTER (R220)
  (∀ (n : Fin 16) (s : State), (s.dePermitted n && s.on PWM_PH_STAT_ACTIVE n.val && !s.on PWM_PH_STAT_DE n.val && decide (10 ≤ (s.phase n).deRun)) →
    exec (.deEnter n) s = .next (s.setB PWM_PH_STAT_DE true n.val)) ∧
  (∀ (n : Fin 16) (s : State), ¬(s.dePermitted n && s.on PWM_PH_STAT_ACTIVE n.val && !s.on PWM_PH_STAT_DE n.val && decide (10 ≤ (s.phase n).deRun)) →
    exec (.deEnter n) s = .next s) ∧
  -- SLEW (R226)
  (∀ (r : Requester) (w : Word) (s : State), s.mayWrite r CNV_CMD_SLEW.addr = true → exec (.slew r w) s = .next (let s := s.touch r; s.slewCmd r w)) ∧
  -- SLEW_COMPLETE (R226)
  (∀ s : State, exec .slewComplete s = .next s.slewDone) ∧
  (∀ (s : State) x y, s.cnv.slew = some y → s.cnv.seg = some x → (x.t < s.tick ∧ s.refReached) →
    exec .slewComplete s = .next (let s := { s with cnv := { s.cnv with slew := none } };
    let s := (s.set CNV_SLEW_STAT_TAG_DONE (s.get CNV_SLEW_STAT_TAG_ACTIVE)).inc CNV_SLEW_CNT_COMPLETED;
    ((s.setB CNV_SLEW_STAT_SLEWING false).event .slewCompleted 0 [(s.get CNV_SLEW_STAT_TAG_ACTIVE : Int)]).reseg)) ∧
  (∀ s : State, s.cnv.slew = none ∨ s.cnv.seg = none ∨ (∃ x, s.cnv.seg = some x ∧ ¬(x.t < s.tick ∧ s.refReached = true)) →
    exec .slewComplete s = .next s) ∧
  -- REFERENCE_REACHES_TARGET (R221)
  (∀ s : State, s.refReached →
    exec .referenceReachesTarget s = .next (s.each (List.finRange 2) (fun s g => if s.groupState g.val = 1 then s.enterGroup g 2 0 else s))) ∧
  (∀ s : State, ¬s.refReached → exec .referenceReachesTarget s = .next s)

/-- O29. After an all-fire. Each of these commands completes, in every state and for every operand that meet the conditions of the clause, which are
conditions on them alone and are those of the rule named with it, and the next state is the one given, with the command's own effect; the clauses
take in every form of the command, among them the states in which the rule gives it nothing to do; of a command that writes or reads a register
they take in the accesses that R71 lets pass, and RefusedCommands says what one that is refused does: FIRE_END (R230), FLOOR_HOLD_END (R230),
FLOOR_RAMP_END (R230), ALLFIRE_LOCKOUT_END (R230). -/
def Obligations.AllFireCommands : Prop :=
  -- FIRE_END (R230)
  (∀ (g : Fin 2) (sum : Int) (s : State), (let s := s.each (s.groupPhases g.val) (fun s n => s.phaseTo n (s.pairFine 50 * 308));
    (s.group g).firing && (s.groupPhases g.val).all (fun n => (s.phase n).fired == 0 && (!s.on PWM_PH_STAT_FIRING n.val || (s.phase n).bound.isNone))) →
    exec (.fireEnd g sum) s = .next (let s := s.each (s.groupPhases g.val) (fun s n => s.phaseTo n (s.pairFine 50 * 308));
    let f := (if s.on CNV_CTRL_MODE then s.firedDuty g.val else divHalfEven (sum * s.nAct g.val) (max 1 (s.nOwn g.val)));
    let s := s.each (s.groupPhases g.val) (fun s n => s.setB PWM_PH_STAT_FIRING false n.val);
    (s.setGroup g { s.group g with firing := false, floor := some (f, s.tick + 1, false), floorDuty := s.on CNV_CTRL_MODE }).lockout g)) ∧
  (∀ (g : Fin 2) (sum : Int) (s : State), ¬(let s := s.each (s.groupPhases g.val) (fun s n => s.phaseTo n (s.pairFine 50 * 308));
    (s.group g).firing && (s.groupPhases g.val).all (fun n => (s.phase n).fired == 0 && (!s.on PWM_PH_STAT_FIRING n.val || (s.phase n).bound.isNone))) →
    exec (.fireEnd g sum) s = .next (let s := s.each (s.groupPhases g.val) (fun s n => s.phaseTo n (s.pairFine 50 * 308)); s)) ∧
  -- FLOOR_HOLD_END (R230)
  (∀ (g : Fin 2) (s : State) f t, ((let x := s.group g; x.floor) = some (f, t, false)) → (t + s.get CNV_AF_RUN_HOLD_US ≤ s.tick) →
    exec (.floorHoldEnd g) s = .next (let x := s.group g; let x : Group := { x with floor := some (f, t, true) };
    { s with cnv := { s.cnv with groups := s.cnv.groups.set g x } })) ∧
  (∀ (g : Fin 2) (s : State) f t, ((let x := s.group g; x.floor) = some (f, t, false)) → ¬(t + s.get CNV_AF_RUN_HOLD_US ≤ s.tick) →
    exec (.floorHoldEnd g) s = .next s) ∧
  (∀ (g : Fin 2) (s : State), (match (let x := s.group g; x.floor) with | some (_, _, false) => False | _ => True) → exec (.floorHoldEnd g) s = .next s) ∧
  -- FLOOR_RAMP_END (R230)
  (∀ (g : Fin 2) (f : Int) (t : Nat) (s : State), (s.group g).floor = some (f, t, true) → t + 2 * s.get CNV_AF_RUN_HOLD_US ≤ s.tick →
    exec (.floorRampEnd g) s = .next (s.setGroup g { s.group g with floor := none })) ∧
  (∀ (g : Fin 2) (s : State), (∀ f t, (s.group g).floor = some (f, t, true) → s.tick < t + 2 * s.get CNV_AF_RUN_HOLD_US) →
    exec (.floorRampEnd g) s = .next s) ∧
  -- ALLFIRE_LOCKOUT_END (R230)
  (∀ (g : Fin 2) (s : State), (let x := s.group g; s.due x.lockEnd) → exec (.allfireLockoutEnd g) s = .next (let x := s.group g;
    let x : Group := { x with lockEnd := none }; { s with cnv := { s.cnv with groups := s.cnv.groups.set g x } })) ∧
  (∀ (g : Fin 2) (s : State), ¬(let x := s.group g; s.due x.lockEnd) → exec (.allfireLockoutEnd g) s = .next s)

/-- O30. Rectifier sharing and allocation. Each of these commands completes, in every state and for every operand that meet the conditions of the clause,
which are conditions on them alone and are those of the rule named with it, and the next state is the one given, with the command's own effect;
the clauses take in every form of the command, among them the states in which the rule gives it nothing to do; of a command that writes or reads
a register they take in the accesses that R71 lets pass, and RefusedCommands says what one that is refused does: TRIM_CYCLE (R241), RECT_BIND
(R237), RECT_STANDBY_CHECK (R237), RECT_WAKE_TIMEOUT (R237), RECT_SILENT (R237), RECT_FAULT_CLEAR_TIMER (R237), UNBIND (R237), CLEAR_CURVE
(R248), ALLOC_NOW (R257), RECT_RETRY (R237), ALLOCATION_START (R249), ALLOCATION_RESULT (R250), CURVE_STORE (R248). -/
def Obligations.SharingCommands : Prop :=
  -- TRIM_CYCLE (R241)
  (∀ s : State, (s.tick % 5000 ≠ 0 ∨ s.boot.g.isNone ∨ s.shr.cycle = some (s.tick / 5000) ∨ s.unitRole = 3) → exec .trimCycle s = .next s) ∧
  (∀ s : State, ¬(s.tick % 5000 ≠ 0 ∨ s.boot.g.isNone ∨ s.shr.cycle = some (s.tick / 5000) ∨ s.unitRole = 3) →
    exec .trimCycle s = .next ((s.trimCycle (s.tick / 5000)).settle)) ∧
  -- RECT_BIND (R237)
  (∀ (n : Fin 24) (e : Fin 1024) (s : State), (s.rectFree = some n ∧ s.entState e.val ≠ 0 ∧ s.ent e.val 0x1C 2 = 0) →
    exec (.rectBind n e) s = .next (let s := s.rectBind n e.val; let e : Nat := e.val;
    (s.each ([0x79, 0x8B, 0x8C, 0x8D, 0x96, 0x97].zipIdx) (fun s p => let d := s.draw; d.2.setEnt e (0x30 + 4 * p.2) 4 (p.1 + 0x1200 + 65536 * (1 + (d.1 % 65535).toNat)))).settle)) ∧
  (∀ (n : Fin 24) (e : Fin 1024) (s : State), ¬(s.rectFree = some n ∧ s.entState e.val ≠ 0 ∧ s.ent e.val 0x1C 2 = 0) → exec (.rectBind n e) s = .next s) ∧
  -- RECT_STANDBY_CHECK (R237)
  (∀ (n : Fin 24) (s : State), ((s.rect n).stbyAck = none) → exec (.rectStandbyCheck n) s = .next s) ∧
  (∀ (n : Fin 24) (s : State) a p, ((s.rect n).stbyAck = some a) → (s.rectState n = 3 ∧ a + 200000 ≤ s.tick) → ((s.rect n).i = some p) →
    (a ≤ p.2 ∧ p.2 < a + 200000 ∧ s.idle2 n p.1) → exec (.rectStandbyCheck n) s = .next (let st : Nat := 4;
    let s := s.iff (st != 2 && st != 3 && st != 5) (fun s => s.setB SHR_RECT_STAT_SPLIT false n.val);
    let x : Rect := { s.rect n with since := s.tick, dwell := s.tick, stbySent := false, stbyAck := none, falling := false };
    let s := s.set SHR_RECT_STAT_STATE st n.val; ({ s with shr := { s.shr with rects := s.shr.rects.set n x } }).settle)) ∧
  (∀ (n : Fin 24) (s : State) a p, ((s.rect n).stbyAck = some a) → (s.rectState n = 3 ∧ a + 200000 ≤ s.tick) → ((s.rect n).i = some p) →
    ¬(a ≤ p.2 ∧ p.2 < a + 200000 ∧ s.idle2 n p.1) →
    exec (.rectStandbyCheck n) s = .next ((((s.rectActivate n).runOp n).event .standbyFailed (objRef 3 n.val) []).settle)) ∧
  (∀ (n : Fin 24) (s : State) a, ((s.rect n).stbyAck = some a) → (s.rectState n = 3 ∧ a + 200000 ≤ s.tick) → ((s.rect n).i = none) →
    exec (.rectStandbyCheck n) s = .next ((((s.rectActivate n).runOp n).event .standbyFailed (objRef 3 n.val) []).settle)) ∧
  (∀ (n : Fin 24) (s : State) a, ((s.rect n).stbyAck = some a) → ¬(s.rectState n = 3 ∧ a + 200000 ≤ s.tick) → exec (.rectStandbyCheck n) s = .next s) ∧
  -- RECT_WAKE_TIMEOUT (R237)
  (∀ (n : Fin 24) (s : State), (s.rectState n = 5 ∧ (s.rect n).since + 100000 * s.get SHR_RAMP_ON_TIMEOUT ≤ s.tick) →
    exec (.rectWakeTimeout n) s = .next (let s := (s.rectEnter n 7).event .rectFaulted (objRef 3 n.val) []; let n := s.shareN; let nk := s.shareNK;
    let s := (if s.power = .halt ∨ s.power = .ship then s else s.guardWake nk); let avail := s.availRects.length;
    let s := ((s.set SHR_ALLOC_STAT_N n).set SHR_ALLOC_STAT_NK nk).set SHR_ALLOC_STAT_AVAIL avail;
    (s.setB SHR_STAT_REDUNDANCY_SHORT (decide (avail < nk))).settle)) ∧
  (∀ (n : Fin 24) (s : State), ¬(s.rectState n = 5 ∧ (s.rect n).since + 100000 * s.get SHR_RAMP_ON_TIMEOUT ≤ s.tick) →
    exec (.rectWakeTimeout n) s = .next s) ∧
  -- RECT_SILENT (R237)
  (∀ (n : Fin 24) (s : State), (s.rectState n ≠ 0 ∧ s.rectState n ≠ 6 ∧ (s.rect n).lastResp + 1000 * s.get SHR_TIMING_SILENT_MS ≤ s.tick) →
    exec (.rectSilent n) s = .next (let s := (s.rectEnter n 6).event .rectSilent (objRef 3 n.val) []; let n := s.shareN; let nk := s.shareNK;
    let s := (if s.power = .halt ∨ s.power = .ship then s else s.guardWake nk); let avail := s.availRects.length;
    let s := ((s.set SHR_ALLOC_STAT_N n).set SHR_ALLOC_STAT_NK nk).set SHR_ALLOC_STAT_AVAIL avail;
    (s.setB SHR_STAT_REDUNDANCY_SHORT (decide (avail < nk))).settle)) ∧
  (∀ (n : Fin 24) (s : State), ¬(s.rectState n ≠ 0 ∧ s.rectState n ≠ 6 ∧ (s.rect n).lastResp + 1000 * s.get SHR_TIMING_SILENT_MS ≤ s.tick) →
    exec (.rectSilent n) s = .next s) ∧
  -- RECT_FAULT_CLEAR_TIMER (R237)
  (∀ (n : Fin 24) (s : State) t, ((s.rect n).clearAt = some t) → (s.rectState n = 7 ∧ t + 1000000 ≤ s.tick) →
    exec (.rectFaultClearTimer n) s = .next (let s := s.rectEnter n 1;
    ((s.setRect n { s.rect n with step := 0, fails := 0, t := 0, limit := none, lastResp := s.tick, clearAt := none }).setupStep n).settle)) ∧
  (∀ (n : Fin 24) (s : State) t, ((s.rect n).clearAt = some t) → ¬(s.rectState n = 7 ∧ t + 1000000 ≤ s.tick) →
    exec (.rectFaultClearTimer n) s = .next s) ∧
  (∀ (n : Fin 24) (s : State), ((s.rect n).clearAt = none) → exec (.rectFaultClearTimer n) s = .next s) ∧
  -- UNBIND (R237)
  (∀ (r : Requester) (n : Fin 32) (s : State), s.mayWrite r SHR_CMD_UNBIND.addr = true → exec (.rectUnbind r n) s = .next (let s := s.touch r;
    (s.onRect n (fun s n => if s.rectState n = 0 then s else s.rectUnbind n false)).settle)) ∧
  -- CLEAR_CURVE (R248)
  (∀ (r : Requester) (n : Fin 32) (s : State), s.mayWrite r SHR_CMD_CLEAR_CURVE.addr = true → exec (.clearCurve r n) s = .next (let s := s.touch r;
    s.onRect n (fun s n => (s.setRect n { s.rect n with curve := Vector.replicate 16 {}, lastP := none }).showCurve n))) ∧
  -- ALLOC_NOW (R257)
  (∀ (r : Requester) (s : State), s.mayWrite r SHR_CMD_ALLOC_NOW.addr = true → exec (.allocNow r) s = .next (let s := s.touch r;
    s.iff s.efficiency (fun s => { s with shr := { s.shr with allocNow := true } }))) ∧
  -- RECT_RETRY (R237)
  (∀ (r : Requester) (n : Fin 32) (s : State), s.mayWrite r SHR_CMD_RETRY.addr = true → exec (.rectRetry r n) s = .next (let s := s.touch r;
    (s.onRect n (fun s n => if s.rectState n = 7 then s.rectJoin n else s)).settle)) ∧
  -- ALLOCATION_START (R249)
  (∀ s : State, (let due := decide (s.tick % 200000 = 0); !(due || s.shr.allocNow) || !s.full || !s.pairPrimary) → exec .allocationStart s = .next s) ∧
  (∀ s : State, ¬(let due := decide (s.tick % 200000 = 0); !(due || s.shr.allocNow) || !s.full || !s.pairPrimary) →
    (let due := decide (s.tick % 200000 = 0);
    let s := s.iff (due && s.on SHR_MODE_LEARN_EN) (fun s => s.each ((List.finRange 24).filter (fun n => s.rectState n != 0)) (fun s n => (s.learn n).showCurve n));
    let s := { s with shr := { s.shr with allocNow := false } }; !s.efficiency) →
    exec .allocationStart s = .next (let due := decide (s.tick % 200000 = 0);
    let s := s.iff (due && s.on SHR_MODE_LEARN_EN) (fun s => s.each ((List.finRange 24).filter (fun n => s.rectState n != 0)) (fun s n => (s.learn n).showCurve n));
    let s := { s with shr := { s.shr with allocNow := false } }; s)) ∧
  (∀ s : State, ¬(let due := decide (s.tick % 200000 = 0); !(due || s.shr.allocNow) || !s.full || !s.pairPrimary) →
    ¬(let due := decide (s.tick % 200000 = 0);
    let s := s.iff (due && s.on SHR_MODE_LEARN_EN) (fun s => s.each ((List.finRange 24).filter (fun n => s.rectState n != 0)) (fun s n => (s.learn n).showCurve n));
    let s := { s with shr := { s.shr with allocNow := false } }; !s.efficiency) →
    exec .allocationStart s = .next (let due := decide (s.tick % 200000 = 0);
    let s := s.iff (due && s.on SHR_MODE_LEARN_EN) (fun s => s.each ((List.finRange 24).filter (fun n => s.rectState n != 0)) (fun s n => (s.learn n).showCurve n));
    let s := { s with shr := { s.shr with allocNow := false } }; let s := s.iff s.shr.solving.isSome (fun s => s.inc SHR_ALLOC_CNT_SKIPPED);
    { s with shr := { s.shr with solving := some s.solve } })) ∧
  -- ALLOCATION_RESULT (R250)
  (∀ s : State, (s.shr.solving = none) → exec .allocationResult s = .next s) ∧
  (∀ (s : State) a, (s.shr.solving = some a) →
    exec .allocationResult s = .next ({ s with shr := { s.shr with solving := none, ready := if s.efficiency then some a else none } })) ∧
  -- CURVE_STORE (R248)
  (∀ s : State, (s.shr.storedAt + 1000000 * s.get SHR_LEARN_STORE_S ≤ s.tick ∨ (s.power = .ship ∧ s.shr.storedAt < s.powerSince)) →
    exec .curveStore s = .next (let s := s.each ((List.finRange 24).filter (fun n => s.rectState n != 0)) (fun s n => s.countersWrite (0xFC2000 + 0xA0 * n.val) (toWords (s.curveRecord n)));
    { s with shr := { s.shr with storedAt := s.tick } })) ∧
  (∀ s : State, ¬(s.shr.storedAt + 1000000 * s.get SHR_LEARN_STORE_S ≤ s.tick ∨ (s.power = .ship ∧ s.shr.storedAt < s.powerSince)) →
    exec .curveStore s = .next s)

/-- O31. Power capping. Each of these commands completes, in every state and for every operand that meet the conditions of the clause, which are
conditions on them alone and are those of the rule named with it, and the next state is the one given, with the command's own effect; the clauses
take in every form of the command, among them the states in which the rule gives it nothing to do; of a command that writes or reads a register
they take in the accesses that R71 lets pass, and RefusedCommands says what one that is refused does: CAP_COMPARISON (R263), CAPLINE_SLOT (R267),
CAPLINE_FRAME_RX (R273), CAP_TEST (R274), PROBE_NOW (R276). -/
def Obligations.CapCommands : Prop :=
  -- CAP_COMPARISON (R263)
  (∀ (bus : Twice BusSamples) (a b : List (Twice Int × Twice Int)) (s : State), (s.pairTick % 10 ≠ 0 ∨ s.boot.g.isNone ∨ s.power = .ship) →
    exec (.capComparison bus a b) s = .next s) ∧
  (∀ (bus : Twice BusSamples) (a b : List (Twice Int × Twice Int)) (s : State), ¬(s.pairTick % 10 ≠ 0 ∨ s.boot.g.isNone ∨ s.power = .ship) →
    (s.power = .halt) → exec (.capComparison bus a b) s = .next ({ s with cap := { s.cap with judge := some none } })) ∧
  (∀ (bus : Twice BusSamples) (a b : List (Twice Int × Twice Int)) (s : State), ¬(s.pairTick % 10 ≠ 0 ∨ s.boot.g.isNone ∨ s.power = .ship) →
    ¬(s.power = .halt) →
    exec (.capComparison bus a b) s = .next (let window := fun (h : Fin 2) (l : List (Twice Int × Twice Int)) (old : List (Option Int)) => (l.map (fun x => s.halfPower h x.1 x.2) ++ old.drop l.length).take 10;
    let pb := s.busPower (window 0 a (s.cap.prods.map Prod.fst)) (window 1 b (s.cap.prods.map Prod.snd)); (s.busSamples bus).capCompare pb)) ∧
  (∀ (bus : Twice BusSamples) (a b : List (Twice Int × Twice Int)) (s : State), s.pairTick % 10 = 0 → s.boot.g.isSome = true → s.power = .halt →
  Runs (.capComparison bus a b) s (fun t => t = { s with cap := { s.cap with judge := some none } })) ∧
  -- CAPLINE_SLOT (R267)
  (∀ (bad : BitVec 64) (s : State), (s.boot.g.isSome && s.ownSlot && s.capTx && decide (s.cap.lastDecision < s.tick)) → (s.cap.queue = []) →
    exec (.caplineSlot bad) s = .next s) ∧
  (∀ (bad : BitVec 64) (s : State) f rest, (s.boot.g.isSome && s.ownSlot && s.capTx && decide (s.cap.lastDecision < s.tick)) →
    (s.cap.queue = f :: rest) → (let bad : Bool := bad != 0; bad) →
    exec (.caplineSlot bad) s = .next (let e := (if s.solo then 0 else s.hlk.epoch % 16);
    let s := ((s.incWrap CAP_TX_CNT_FRAMES).set CAP_LEVEL_EPOCH e).zoneSent f;
    let s := { s with cap := { s.cap with queue := rest, slotAt := some s.tick, line := f.bytes e } };
    let s := (s.inc CAP_LINE_STAT_MISMATCH).iff (s.cap.badRun == 0) (fun s => s.event .caplineMismatch);
    let s := { s with cap := { s.cap with badRun := s.cap.badRun + 1 } };
    s.iff (decide (3 ≤ s.cap.badRun)) (fun s => s.setB CAP_STAT_LINE_FAULT true))) ∧
  (∀ (bad : BitVec 64) (s : State) f rest, (s.boot.g.isSome && s.ownSlot && s.capTx && decide (s.cap.lastDecision < s.tick)) →
    (s.cap.queue = f :: rest) → ¬(let bad : Bool := bad != 0; bad) →
    exec (.caplineSlot bad) s = .next (let e := (if s.solo then 0 else s.hlk.epoch % 16);
    let s := ((s.incWrap CAP_TX_CNT_FRAMES).set CAP_LEVEL_EPOCH e).zoneSent f;
    let s := { s with cap := { s.cap with queue := rest, slotAt := some s.tick, line := f.bytes e } };
    { (s.setB CAP_STAT_LINE_FAULT false) with cap := { s.cap with badRun := 0 } })) ∧
  (∀ (bad : BitVec 64) (s : State), ¬(s.boot.g.isSome && s.ownSlot && s.capTx && decide (s.cap.lastDecision < s.tick)) →
    exec (.caplineSlot bad) s = .next s) ∧
  (∀ (bad : BitVec 64) (f : CapFrame) (rest : List CapFrame) (s : State), s.boot.g.isSome = true → s.ownSlot = true → s.capTx = true →
  s.cap.lastDecision < s.tick →
    s.cap.queue = f :: rest →
  Runs (.caplineSlot bad) s (fun t => t.cap.queue = rest ∧ t.cap.line = f.bytes (if s.solo then 0 else s.hlk.epoch % 16) ∧ t.cap.slotAt = some s.tick ∧ t.tick = s.tick)) ∧
  -- CAPLINE_FRAME_RX (R273)
  (∀ s : State, (s.boot.g.isNone || s.slotMine) → exec .caplineFrameRx s = .next s) ∧
  (∀ s : State, ¬(s.boot.g.isNone || s.slotMine) → exec .caplineFrameRx s = .next (s.incWrap CAP_LINE_STAT_RX_OTHER)) ∧
  -- CAP_TEST (R274)
  (∀ (r : Requester) (s : State), s.mayWrite r CAP_CMD_TEST.addr = true → (let s := s.touch r; s.capL ≠ 0 ∨ s.power = .halt) →
    exec (.capTest r) s = .next (let s := s.touch r; s.event .capTestRefused 0 [s.capL])) ∧
  (∀ (r : Requester) (s : State), s.mayWrite r CAP_CMD_TEST.addr = true → ¬(let s := s.touch r; s.capL ≠ 0 ∨ s.power = .halt) →
    exec (.capTest r) s = .next (let s := s.touch r; let seq := (s.pairTick.fdiv 10 % 4096).toNat;
    let s := s.addSat CAP_LINE_STAT_SUPERSEDED s.cap.queue.length; let fs := s.capFrames seq;
    let s := (s.set CAP_LEVEL_SEQ seq).set CAP_LEVEL_NFRAMES fs.length; { s with cap := { s.cap with queue := fs, lastDecision := s.tick } })) ∧
  -- PROBE_NOW (R276)
  (∀ (r : Requester) (s : State), s.mayWrite r CAP_CMD_PROBE_NOW.addr = true → exec (.probeNow r) s = .next (let s := s.touch r;
    { s with cap := { s.cap with probeNow := true } }))

/-- O32. The battery estimator. Each of these commands completes, in every state and for every operand that meet the conditions of the clause, which are
conditions on them alone and are those of the rule named with it, and the next state is the one given, with the command's own effect; the clauses
take in every form of the command, among them the states in which the rule gives it nothing to do; of a command that writes or reads a register
they take in the accesses that R71 lets pass, and RefusedCommands says what one that is refused does: BATTERY_UPDATE (R277), EMPTY_END (R286),
MEAN_2S (R289), MINUTE_MEAN (R289), PERT_RESUME (R293), DEMOD_WINDOW_END (R294), WAKE_REST_GIVEUP (R304), DAYS_INCREMENT (R292), BAT_RECORD_WRITE
(R300). -/
def Obligations.BatteryEstimation : Prop :=
  -- BATTERY_UPDATE (R277)
  (∀ s : State, (s.tick % 10000 ≠ 0 ∨ s.boot.g.isNone) → exec .batteryUpdate s = .next s) ∧
  (∀ s : State, ¬(s.tick % 10000 ≠ 0 ∨ s.boot.g.isNone) → exec .batteryUpdate s = .next (let s := s.tblTake;
    let s := s.each (s.confStrs.filter (fun n => (s.str n).live)) State.strUpdate;
    let run := ((List.range 2).filter (fun g => s.groupState g == 2)).length; let sum := (s.closedStrs.map s.strCharge).sum;
    (s.set BAT_CHG_REQ_LIM (min (2 ^ 32 - 1) (if run = 0 then 0 else (max 0 sum).toNat / 2 ^ 16 / run))).settle)) ∧
  -- EMPTY_END (R286)
  (∀ (n : Fin 8) (s : State), (s.strEmpty n && s.voltsHigh n && s.lasted (s.str n).highSince (s.sdQual n)) →
    exec (.emptyEnd n) s = .next (let s := s.setBit BAT_CONN_EMPTY n.val false;
    let st := (if !s.strOn n then 0 else (if s.strEmpty n then 4 else (if s.strClosed n then 3 else (if !s.strPresent n && !s.on BAT_STR_STAT_ID_PENDING n.val then 1 else 2))));
    s.set BAT_STR_STAT_STATE st n.val)) ∧
  (∀ (n : Fin 8) (s : State), ¬(s.strEmpty n && s.voltsHigh n && s.lasted (s.str n).highSince (s.sdQual n)) → exec (.emptyEnd n) s = .next s) ∧
  -- MEAN_2S (R289)
  (∀ s : State, (s.tick % 2000000 ≠ 0 ∨ s.tick = 0 ∨ s.boot.g.isNone ∨ s.bat.meanAt = s.tick) → exec .mean2s s = .next s) ∧
  (∀ s : State, ¬(s.tick % 2000000 ≠ 0 ∨ s.tick = 0 ∨ s.boot.g.isNone ∨ s.bat.meanAt = s.tick) →
    exec .mean2s s = .next (let abs10 := fun (s : State) (n : Fin 8) => 10 * (s.integral n - (s.str n).last2s).natAbs;
    let level := fun (s : State) (n : Fin 8) (c : Nat) => 2 * s.get AFE_SHUNT_SHUNT n.val * c * s.get BAT_STR_CFG_Q_NOM n.val;
    let low := s.closedStrs.any (fun n => decide (abs10 s n < level s n (s.get BAT_PERT_PERT_HOLD)));
    let s := { s with bat := { s.bat with meanAt := s.tick, paused := low || s.bat.paused, lowAt := if low then s.tick else s.bat.lowAt } };
    s.each s.confStrs (fun s n => let rest := decide (abs10 s n < level s n (s.get BAT_REST_I_REST)); let s := s.iff (!rest) (fun s => s.setBit BAT_CONN_REST n.val false); let x := s.str n; s.setStr n { x with last2s := s.integral n, below := if rest then x.below + 1 else 0, taken := rest && x.taken }))) ∧
  -- MINUTE_MEAN (R289)
  (∀ (x : Unit) (s : State), (s.tick % 60000000 ≠ 0 ∨ s.tick = 0 ∨ s.boot.g.isNone) → exec (.minuteMean x) s = .next s) ∧
  (∀ (x : Unit) (s : State), ¬(s.tick % 60000000 ≠ 0 ∨ s.tick = 0 ∨ s.boot.g.isNone) →
    exec (.minuteMean x) s = .next (let s := s.means2s.each s.confStrs State.strSample; let new := s.confStrs.filter (fun n => (s.str n).vCnt != 0);
    let s := s.each new State.minuteMean;
    s.each (new.filter s.restOk) (fun s n => (s.setStr n { s.str n with taken := true, restDue := true }).setBit BAT_CONN_REST n.val true))) ∧
  -- PERT_RESUME (R293)
  (∀ s : State, (s.bat.paused ∧ s.bat.lowAt + 60000000 ≤ s.tick) → exec .pertResume s = .next ({ s with bat := { s.bat with paused := false } })) ∧
  (∀ s : State, ¬(s.bat.paused ∧ s.bat.lowAt + 60000000 ≤ s.tick) → exec .pertResume s = .next s) ∧
  -- DEMOD_WINDOW_END (R294)
  (∀ (x : Unit) (s : State), (s.pairTick % 60000000 ≠ 0 ∨ s.boot.g.isNone) → exec (.demodWindowEnd x) s = .next s) ∧
  (∀ (x : Unit) (s : State), ¬(s.pairTick % 60000000 ≠ 0 ∨ s.boot.g.isNone) →
    exec (.demodWindowEnd x) s = .next (let s := s.each s.confStrs State.strSample;
    let l := (List.finRange 8).filter (fun n => s.strClosed n || (s.str n).corr.iCnt != 0);
    let s := s.iff (s.on BAT_CTRL_EN) (fun s => s.each l State.demod);
    let s := s.each (List.finRange 8) (fun s n => s.setStr n { s.str n with corr := {} });
    { s with bat := { s.bat with winBad := false, winStr := 0 } })) ∧
  (∀ (l : Unit) (s : State), s.pairTick % 60000000 = 0 → s.boot.g.isSome = true → Runs (.demodWindowEnd l) s (fun t =>
  t.bat.winBad = false ∧ t.bat.winStr = 0 ∧ t.tick = s.tick)) ∧
  -- WAKE_REST_GIVEUP (R304)
  (∀ s : State, exec .wakeRestGiveup s = .next (s.each ((List.finRange 8).filter (fun n => (s.str n).wakeRest)) (fun s n => let x := s.str n; if s.strPresent n && !s.noSoc n && s.steadyMeans x.means then ((s.takeRest n (x.means.headD (0, 1)) true)).setStr n { (s.takeRest n (x.means.headD (0, 1)) true).str n with wakeRest := false } else (if s.boot.g.getD 0 + 180000000 ≤ s.tick then s.setStr n { x with wakeRest := false } else s)))) ∧
  -- DAYS_INCREMENT (R292)
  (∀ (n : Fin 8) (s : State), (let x := s.str n; s.strOn n ∧ x.live = true ∧ x.dayAt + 86400000000 ≤ s.tick) →
    exec (.daysIncrement n) s = .next (let x := s.str n;
    let s := s.setStr n { x with set_ := { x.set_ with days := min 255 (x.set_.days + 1) }, dayAt := x.dayAt + 86400000000 }; let x := s.str n;
    let i := n.val; let s := (s.setB BAT_STR_STAT_R_VALID x.set_.rValid i).set BAT_STR_STAT_DAYS (min 255 x.set_.days) i;
    let s := s.iff (s.daysStale n) (fun s => s.setB BAT_STR_STAT_CAP_STALE true i); s.setB BAT_STR_STAT_RESCALED (decide (0 < x.se)) i)) ∧
  (∀ (n : Fin 8) (s : State), ¬(let x := s.str n; s.strOn n ∧ x.live = true ∧ x.dayAt + 86400000000 ≤ s.tick) → exec (.daysIncrement n) s = .next s) ∧
  -- BAT_RECORD_WRITE (R300)
  (∀ s : State, (s.tick % 60000000 ≠ 0 ∨ s.tick = 0 ∨ s.boot.g.isNone) → exec .batRecordWrite s = .next s) ∧
  (∀ s : State, ¬(s.tick % 60000000 ≠ 0 ∨ s.tick = 0 ∨ s.boot.g.isNone) →
    exec .batRecordWrite s = .next (s.each (s.confStrs.filter (fun n => (s.str n).live)) State.strSave))

/-- O33. Strings: presence, connection and tables. Each of these commands completes, in every state and for every operand that meet the conditions of the
clause, which are conditions on them alone and are those of the rule named with it, and the next state is the one given, with the command's own
effect; the clauses take in every form of the command, among them the states in which the rule gives it nothing to do; of a command that writes
or reads a register they take in the accesses that R71 lets pass, and RefusedCommands says what one that is refused does: STR_ID_CONVERSION
(R295), PRESENCE_CHANGE (R295), BAT_OPEN (R297), BAT_CLOSE (R298), RESEED (R296), RESTORE (R296), BAT_TBL_COMMIT (R280), BAT_TBL_DATA_ACCESS
(R279), STR_EN_WRITE (R297), STRING_TRIP (R297), STRING_RECONNECT (R298). -/
def Obligations.BatteryConnection : Prop :=
  -- STR_ID_CONVERSION (R295)
  (∀ (n : Fin 8) (s : State), (let m := s.afe.latest.get (Fin.ofNat 64 (48 + n.val)); let x := s.str n;
    s.strOn n && m.valid && s.get BAT_STR_CFG_ID_MODE n.val != 0 && x.idTick != some m.tick && s.idBias n) →
    (let m := s.afe.latest.get (Fin.ofNat 64 (48 + n.val)); let x := s.str n; let f := identify (s.get BAT_STR_CFG_ID_MODE n.val) m.code;
    let s := s.setStr n { x with idFound := f, idRun := if x.idFound = f then min 5 (x.idRun + 1) else 1, idTick := some m.tick }; s.presenceDue n) →
    exec (.strIdConversion n) s = .next (let m := s.afe.latest.get (Fin.ofNat 64 (48 + n.val)); let x := s.str n;
    let f := identify (s.get BAT_STR_CFG_ID_MODE n.val) m.code;
    let s := s.setStr n { x with idFound := f, idRun := if x.idFound = f then min 5 (x.idRun + 1) else 1, idTick := some m.tick };
    (s.presence n).settle)) ∧
  (∀ (n : Fin 8) (s : State), (let m := s.afe.latest.get (Fin.ofNat 64 (48 + n.val)); let x := s.str n;
    s.strOn n && m.valid && s.get BAT_STR_CFG_ID_MODE n.val != 0 && x.idTick != some m.tick && s.idBias n) →
    ¬(let m := s.afe.latest.get (Fin.ofNat 64 (48 + n.val)); let x := s.str n; let f := identify (s.get BAT_STR_CFG_ID_MODE n.val) m.code;
    let s := s.setStr n { x with idFound := f, idRun := if x.idFound = f then min 5 (x.idRun + 1) else 1, idTick := some m.tick }; s.presenceDue n) →
    exec (.strIdConversion n) s = .next (let m := s.afe.latest.get (Fin.ofNat 64 (48 + n.val)); let x := s.str n;
    let f := identify (s.get BAT_STR_CFG_ID_MODE n.val) m.code;
    let s := s.setStr n { x with idFound := f, idRun := if x.idFound = f then min 5 (x.idRun + 1) else 1, idTick := some m.tick }; s)) ∧
  (∀ (n : Fin 8) (s : State), ¬(let m := s.afe.latest.get (Fin.ofNat 64 (48 + n.val)); let x := s.str n;
    s.strOn n && m.valid && s.get BAT_STR_CFG_ID_MODE n.val != 0 && x.idTick != some m.tick && s.idBias n) → exec (.strIdConversion n) s = .next s) ∧
  (∀ (n : Fin 8) (s : State), s.strOn n = true → (s.afe.latest.get (Fin.ofNat 64 (48 + n.val))).valid = true → s.get BAT_STR_CFG_ID_MODE n.val ≠ 0 →
  (s.str n).idTick ≠ some (s.afe.latest.get (Fin.ofNat 64 (48 + n.val))).tick → Runs (.strIdConversion n) s (fun t =>
    (t.tick = s.tick ∧ t.power = s.power))) ∧
  -- PRESENCE_CHANGE (R295)
  (∀ (n : Fin 8) (s : State), (s.presenceDue n) → exec (.presenceChange n) s = .next ((s.presence n).settle)) ∧
  (∀ (n : Fin 8) (s : State), ¬(s.presenceDue n) → exec (.presenceChange n) s = .next s) ∧
  -- BAT_OPEN (R297)
  (∀ (r : Requester) (n : Fin 8) (s : State), s.mayWrite r BAT_CMD_OPEN.addr = true → (let s := s.touch r; s.overruled r (keyStr n.val)) →
    exec (.batOpen r n) s = .next (let s := s.touch r; s)) ∧
  (∀ (r : Requester) (n : Fin 8) (s : State), s.mayWrite r BAT_CMD_OPEN.addr = true → ¬(let s := s.touch r; s.overruled r (keyStr n.val)) →
    exec (.batOpen r n) s = .next (let s := s.touch r; (s.noteWrite r (keyStr n.val) 1).iff (s.strOn n) (fun s => (s.strOpen n 1).settle))) ∧
  -- BAT_CLOSE (R298)
  (∀ (r : Requester) (n : Fin 8) (s : State), s.mayWrite r BAT_CMD_CLOSE.addr = true → (let s := s.touch r;
    s.wrote.any (fun x => x.at_ == keyStr n.val && x.who == who r && x.w == 1)) → exec (.batClose r n) s = .next (let s := s.touch r;
    s.event .batCloseRefused (objRef 4 n.val))) ∧
  (∀ (r : Requester) (n : Fin 8) (s : State), s.mayWrite r BAT_CMD_CLOSE.addr = true → ¬(let s := s.touch r;
    s.wrote.any (fun x => x.at_ == keyStr n.val && x.who == who r && x.w == 1)) → (let s := s.touch r; let k : Nat := keyStr n.val; s.overruled r k) →
    exec (.batClose r n) s = .next (let s := s.touch r; s)) ∧
  (∀ (r : Requester) (n : Fin 8) (s : State), s.mayWrite r BAT_CMD_CLOSE.addr = true →
    ¬(let s := s.touch r; s.wrote.any (fun x => x.at_ == keyStr n.val && x.who == who r && x.w == 1)) →
    ¬(let s := s.touch r; let k : Nat := keyStr n.val; s.overruled r k) →
    exec (.batClose r n) s = .next (let s := s.touch r; let k : Nat := keyStr n.val; let f := fun s => s.batClose n; f (s.noteWrite r k))) ∧
  -- RESEED (R296)
  (∀ (r : Requester) (n : Fin 8) (s : State), s.mayWrite r BAT_CMD_RESEED.addr = true → (let s := s.touch r; s.strOn n) →
    exec (.batReseed r n) s = .next (let s := s.touch r; let s := (s.seed n).seedAnchor n; let kind : Nat := 1;
    ((((s.inc BAT_CNT_SWAPS).event .stringSwap (objRef 4 n.val) [kind]).showSet n).arcSave n).strSave n)) ∧
  (∀ (r : Requester) (n : Fin 8) (s : State), s.mayWrite r BAT_CMD_RESEED.addr = true → ¬(let s := s.touch r; s.strOn n) →
    exec (.batReseed r n) s = .next (let s := s.touch r; s)) ∧
  -- RESTORE (R296)
  (∀ (r : Requester) (n : Fin 8) (s : State), s.mayWrite r BAT_CMD_RESTORE.addr = true → (let s := s.touch r; s.strOn n) →
    ((let s := s.touch r; let x := s.str n; x.archive) = none) → exec (.batRestore r n) s = .next (let s := s.touch r; s)) ∧
  (∀ (r : Requester) (n : Fin 8) (s : State) l, s.mayWrite r BAT_CMD_RESTORE.addr = true → (let s := s.touch r; s.strOn n) →
    ((let s := s.touch r; let x := s.str n; x.archive) = some l) → exec (.batRestore r n) s = .next (let s := s.touch r; let kind : Nat := 2;
    let x := s.str n; let s := s.setStr n { x with set_ := l, archive := some x.set_, dayAt := s.tick, grow := 0, n := 0, tSum := 0 };
    let s := (s.clearFlags n).seedAnchor n; ((((s.inc BAT_CNT_SWAPS).event .stringSwap (objRef 4 n.val) [kind]).showSet n).arcSave n).strSave n)) ∧
  (∀ (r : Requester) (n : Fin 8) (s : State), s.mayWrite r BAT_CMD_RESTORE.addr = true → ¬(let s := s.touch r; s.strOn n) →
    exec (.batRestore r n) s = .next (let s := s.touch r; s)) ∧
  -- BAT_TBL_COMMIT (R280)
  (∀ (r : Requester) (s : State), s.mayWrite r BAT_CMD_TBL_COMMIT.addr = true → (let s := s.touch r; let k := s.get BAT_TBL_ADDR_SET;
    s.tblOk (strTblEdit k)) → exec (.batTblCommit r) s = .next (let s := s.touch r; let k := s.get BAT_TBL_ADDR_SET;
    let s := { s with bat := { s.bat with tblNew := s.bat.tblNew ||| 2 ^ k } }; (s.tblCopy (strTblEdit k) (strTblAct k)).showStrTblCrc.storedChange)) ∧
  (∀ (r : Requester) (s : State), s.mayWrite r BAT_CMD_TBL_COMMIT.addr = true → ¬(let s := s.touch r; let k := s.get BAT_TBL_ADDR_SET;
    s.tblOk (strTblEdit k)) → exec (.batTblCommit r) s = .next (let s := s.touch r; let k := s.get BAT_TBL_ADDR_SET;
    (s.inc BAT_CNT_TBL_REFUSED).event .batTblRefused 0 [k])) ∧
  -- BAT_TBL_DATA_ACCESS (R279)
  (∀ (r : Requester) (w : Option Word) (s : State), (w = none) → s.mayRead r BAT_TBL_DATA_DATA.addr = true →
    exec (.batTblDataAccess r w) s = .next (let s := s.touch r; let i := s.get BAT_TBL_ADDR_INDEX;
    let b := (if s.on BAT_TBL_ADDR_VIEW then strTblAct else strTblEdit) (s.get BAT_TBL_ADDR_SET);
    let w := (if i = 127 then 0 else s.load (b + 4 * i)); ((s.set BAT_TBL_DATA_DATA w.toNat).reply [w.toNat]).tblNext)) ∧
  (∀ (r : Requester) (w : Option Word) (s : State) v, (w = some v) → s.mayWrite r BAT_TBL_DATA_DATA.addr = true →
    exec (.batTblDataAccess r w) s = .next (let s := s.touch r; let w : Word := v; let i := s.get BAT_TBL_ADDR_INDEX;
    let s := s.set BAT_TBL_DATA_DATA w.toNat; (if i = 127 then s else s.store (strTblEdit (s.get BAT_TBL_ADDR_SET) + 4 * i) w).tblNext)) ∧
  -- STR_EN_WRITE (R297)
  (∀ (r : Requester) (w : Word) (s : State) row, s.mayWrite r BAT_CFG_STR_EN.addr = true → (findRow BAT_CFG_STR_EN.addr = some row) →
    exec (.strEnWrite r w) s = .next (((s.touch r).classC r row BAT_CFG_STR_EN.addr 0 w).1)) ∧
  -- STRING_TRIP (R297)
  (∀ (n : Fin 8) (s : State), (s.overTrip n && s.lasted (s.str n).tripSince (250 * s.get BAT_STR_LIM_TRIP_T n.val)) → (!s.strsOwned.testBit n.val) →
    exec (.stringTrip n) s = .next s.settle) ∧
  (∀ (n : Fin 8) (s : State), (s.overTrip n && s.lasted (s.str n).tripSince (250 * s.get BAT_STR_LIM_TRIP_T n.val)) → ¬(!s.strsOwned.testBit n.val) →
    exec (.stringTrip n) s = .next (let cause : Nat := 6; let x := s.str n; let was := s.strClosed n;
    let s := s.setStr n { x with causes := x.causes ||| 2 ^ cause, openedAt := if was then s.tick else x.openedAt, agreeSince := none, exhOpen := if was then cause == 3 else x.exhOpen };
    let s := s.iff (was || x.causes == 0) (fun s => s.set BAT_STR_STAT_OPEN_CAUSE cause n.val);
    let s := s.iff (was && cause == 6) (fun s => s.trigger 12); let s := (s.setBit BAT_CONN_CLOSED n.val false).setBit BAT_CONN_EMPTY n.val false;
    ((s.iff was (fun s => s.event .stringOpen (objRef 4 n.val) [cause])).showState n).settle)) ∧
  (∀ (n : Fin 8) (s : State), ¬(s.overTrip n && s.lasted (s.str n).tripSince (250 * s.get BAT_STR_LIM_TRIP_T n.val)) → exec (.stringTrip n) s = .next s) ∧
  -- STRING_RECONNECT (R298)
  (∀ (n : Fin 8) (s : State), (s.mayClose n false && s.agrees n && (s.str n).closing.isNone) →
    exec (.stringReconnect n) s = .next (let x : Str := { s.str n with closing := some false };
    { s with bat := { s.bat with strs := s.bat.strs.set n x } })) ∧
  (∀ (n : Fin 8) (s : State), ¬(s.mayClose n false && s.agrees n && (s.str n).closing.isNone) → exec (.stringReconnect n) s = .next s)

/-- O34. Fuse channels: commands and protection. Each of these commands completes, in every state and for every operand that meet the conditions of the
clause, which are conditions on them alone and are those of the rule named with it, and the next state is the one given, with the command's own
effect; the clauses take in every form of the command, among them the states in which the rule gives it nothing to do; of a command that writes
or reads a register they take in the accesses that R71 lets pass, and RefusedCommands says what one that is refused does: EFU_ON (R313), EFU_OFF
(R313), EFU_CLEAR (R312), EFU_WAIT_EXPIRY (R312), EF_ON_RISE (R314), EF_ILIM_FALL (R314), INRUSH_QUALIFIED (R312), INRUSH_EXPIRY (R315),
OVERCURRENT_EXPIRY (R316), FET_MODEL_UPDATE (R318), EFU_RETRY_RESET (R312), DAMAGE_DETECT (R320). -/
def Obligations.FuseCommands : Prop :=
  -- EFU_ON (R313)
  (∀ (r : Requester) (n : Fin 8) (s : State), s.mayWrite r EFU_CMD_ON.addr = true → (let s := s.touch r; let k : Nat := keyFuse n.val;
    s.overruled r k) → exec (.efuOn r n) s = .next (let s := s.touch r; s)) ∧
  (∀ (r : Requester) (n : Fin 8) (s : State), s.mayWrite r EFU_CMD_ON.addr = true →
    ¬(let s := s.touch r; let k : Nat := keyFuse n.val; s.overruled r k) →
    exec (.efuOn r n) s = .next (let s := s.touch r; let k : Nat := keyFuse n.val; let f := fun s => s.efuOn n; f (s.noteWrite r k))) ∧
  -- EFU_OFF (R313)
  (∀ (r : Requester) (n : Fin 8) (s : State), s.mayWrite r EFU_CMD_OFF.addr = true → (let s := s.touch r; let k : Nat := keyFuse n.val;
    s.overruled r k) → exec (.efuOff r n) s = .next (let s := s.touch r; s)) ∧
  (∀ (r : Requester) (n : Fin 8) (s : State), s.mayWrite r EFU_CMD_OFF.addr = true →
    ¬(let s := s.touch r; let k : Nat := keyFuse n.val; s.overruled r k) →
    exec (.efuOff r n) s = .next (let s := s.touch r; let k : Nat := keyFuse n.val; let f := fun s => s.efuOff n; f (s.noteWrite r k))) ∧
  -- EFU_CLEAR (R312)
  (∀ (r : Requester) (n : Fin 8) (s : State), s.mayWrite r EFU_CMD_CLEAR.addr = true → (let s := s.touch r; s.fuseState n = 5) →
    exec (.efuClear r n) s = .next (let s := s.touch r; let x := s.fuse n;
    (((((s.setFuseState n 1).setFuse n { x with mem := none }).set EFU_CH_STAT_RETRIES 0 n.val)).fuseEval n).settle)) ∧
  (∀ (r : Requester) (n : Fin 8) (s : State), s.mayWrite r EFU_CMD_CLEAR.addr = true → ¬(let s := s.touch r; s.fuseState n = 5) → (let s := s.touch r;
    let x := s.fuse n; let absent := (match x.healthySince with | some t => decide (t + 5000 ≤ s.tick) | none => false);
    s.fuseState n = 6 ∧ absent = true) → exec (.efuClear r n) s = .next (let s := s.touch r; ((s.setFuseState n 1).fuseEval n).settle)) ∧
  (∀ (r : Requester) (n : Fin 8) (s : State), s.mayWrite r EFU_CMD_CLEAR.addr = true → ¬(let s := s.touch r; s.fuseState n = 5) → ¬(let s := s.touch r;
    let x := s.fuse n; let absent := (match x.healthySince with | some t => decide (t + 5000 ≤ s.tick) | none => false);
    s.fuseState n = 6 ∧ absent = true) → exec (.efuClear r n) s = .next (let s := s.touch r; s.event .fuseClearRefused (objRef 2 n.val))) ∧
  -- EFU_WAIT_EXPIRY (R312)
  (∀ (n : Fin 8) (s : State), (s.fuseState n == 2 && s.due (s.fuse n).waitEnd && s.demanded n && s.fetCool n) →
    exec (.efuWaitExpiry n) s = .next (let x := s.fuse n; let s := s.setFuseState n 3;
    let x : Fuse := { x with ilim := s.ilimCode n (s.get EFU_CH_LIMIT_I_INRUSH n.val), fallAt := none, riseAt := some (s.tick + 20), startAt := none, waitEnd := none, failed := false };
    { s with efu := { s.efu with chans := s.efu.chans.set n x } })) ∧
  (∀ (n : Fin 8) (s : State), ¬(s.fuseState n == 2 && s.due (s.fuse n).waitEnd && s.demanded n && s.fetCool n) → exec (.efuWaitExpiry n) s = .next s) ∧
  -- EF_ON_RISE (R314)
  (∀ (n : Fin 8) (s : State), (let x := s.fuse n; s.fuseState n == 3 && s.due x.riseAt) → exec (.efOnRise n) s = .next (let x := s.fuse n;
    let x : Fuse := { x with on := true, riseAt := none, startAt := some s.tick }; { s with efu := { s.efu with chans := s.efu.chans.set n x } })) ∧
  (∀ (n : Fin 8) (s : State), ¬(let x := s.fuse n; s.fuseState n == 3 && s.due x.riseAt) → exec (.efOnRise n) s = .next s) ∧
  -- EF_ILIM_FALL (R314)
  (∀ (n : Fin 8) (s : State), (let x := s.fuse n; s.due x.fallAt) → exec (.efIlimFall n) s = .next (let x := s.fuse n;
    let x : Fuse := { x with ilim := 0, fallAt := none }; { s with efu := { s.efu with chans := s.efu.chans.set n x } })) ∧
  (∀ (n : Fin 8) (s : State), ¬(let x := s.fuse n; s.due x.fallAt) → exec (.efIlimFall n) s = .next s) ∧
  -- INRUSH_QUALIFIED (R312)
  (∀ (n : Fin 8) (s : State), (s.fuseReadyDone n) → exec (.inrushQualified n) s = .next (let x := s.fuse n; let s := s.setFuseState n 4;
    let x : Fuse := { x with ilim := s.ilimCode n (s.get EFU_CH_LIMIT_I_RUN n.val), startAt := none, onAt := s.tick };
    { s with efu := { s.efu with chans := s.efu.chans.set n x } })) ∧
  (∀ (n : Fin 8) (s : State), ¬(s.fuseReadyDone n) → exec (.inrushQualified n) s = .next s) ∧
  -- INRUSH_EXPIRY (R315)
  (∀ (n : Fin 8) (s : State), (s.fuseState n == 3 && s.lasted (s.fuse n).startAt (1000 * s.get EFU_CH_TIME_INRUSH_MS n.val) && !s.fuseReadyDone n) →
    exec (.inrushExpiry n) s = .next (let cause : Nat := if s.atLimit n (s.get EFU_CH_LIMIT_I_INRUSH n.val) then 2 else 3; let x := s.fuse n;
    let x : Fuse := { x with failDue := some (match x.failDue with | some c => min c cause | none => cause) };
    { s with efu := { s.efu with chans := s.efu.chans.set n x } })) ∧
  (∀ (n : Fin 8) (s : State), ¬(s.fuseState n == 3 && s.lasted (s.fuse n).startAt (1000 * s.get EFU_CH_TIME_INRUSH_MS n.val) && !s.fuseReadyDone n) →
    exec (.inrushExpiry n) s = .next s) ∧
  -- OVERCURRENT_EXPIRY (R316)
  (∀ (n : Fin 8) (s : State), (s.fuseLimited n && s.lasted (s.fuse n).limSince (1000 * s.get EFU_CH_TIME_OC_MS n.val)) →
    exec (.overcurrentExpiry n) s = .next (let cause : Nat := 4; let x := s.fuse n;
    let x : Fuse := { x with failDue := some (match x.failDue with | some c => min c cause | none => cause) };
    { s with efu := { s.efu with chans := s.efu.chans.set n x } })) ∧
  (∀ (n : Fin 8) (s : State), ¬(s.fuseLimited n && s.lasted (s.fuse n).limSince (1000 * s.get EFU_CH_TIME_OC_MS n.val)) →
    exec (.overcurrentExpiry n) s = .next s) ∧
  -- FET_MODEL_UPDATE (R318)
  (∀ (x : Unit) (s : State), (s.tick % 100 ≠ 0 ∨ s.boot.g.isNone) → exec (.fetModelUpdate x) s = .next s) ∧
  (∀ (x : Unit) (s : State), ¬(s.tick % 100 ≠ 0 ∨ s.boot.g.isNone) →
    exec (.fetModelUpdate x) s = .next (let s := s.each (List.finRange 8) (fun s n => (s.fuseSquare n).fetStep n);
    s.each ((List.finRange 8).filter (fun n => s.on EFU_CH_CFG_EN n.val)) State.fetJudge)) ∧
  -- EFU_RETRY_RESET (R312)
  (∀ (n : Fin 8) (s : State), (s.fuseState n = 4 ∧ (s.fuse n).onAt + 1000000 * s.get EFU_SLOT_CFG_CLEAR_S ≤ s.tick) →
    exec (.efuRetryReset n) s = .next (s.set EFU_CH_STAT_RETRIES 0 n.val)) ∧
  (∀ (n : Fin 8) (s : State), ¬(s.fuseState n = 4 ∧ (s.fuse n).onAt + 1000000 * s.get EFU_SLOT_CFG_CLEAR_S ≤ s.tick) →
    exec (.efuRetryReset n) s = .next s) ∧
  -- DAMAGE_DETECT (R320)
  (∀ (n : Fin 8) (s : State), (s.damageDue n) → exec (.damageDetect n) s = .next (let s := s.fuseOff n 6 9;
    let s := s.setFuse n { s.fuse n with healthySince := none };
    (((s.event .fuseDamaged (objRef 2 n.val)).trigger 11).detect 9 0 (objRef 2 n.val)).settle)) ∧
  (∀ (n : Fin 8) (s : State), ¬(s.damageDue n) → exec (.damageDetect n) s = .next s)

/-- O35. Feeds and slots. Each of these commands completes, in every state and for every operand that meet the conditions of the clause, which are
conditions on them alone and are those of the rule named with it, and the next state is the one given, with the command's own effect; the clauses
take in every form of the command, among them the states in which the rule gives it nothing to do; of a command that writes or reads a register
they take in the accesses that R71 lets pass, and RefusedCommands says what one that is refused does: FEED_A (R323), FEED_B (R323), FEED_AUTO
(R323), FEED_GOOD (R322), FEED_BAD (R322), FEED_SWITCH_START (R323), FEED_BBM_COMPLETE (R323), FEED_STUCK (R323), FEED_REVERT_TIMER (R323),
SLOT_INSERT (R326), SLOT_REMOVE (R325), SLOT_MEMORY_EXPIRY (R325). -/
def Obligations.FeedAndSlotCommands : Prop :=
  -- FEED_A (R323)
  (∀ (r : Requester) (s : State), s.mayWrite r EFU_CMD_FEED_A.addr = true → (let s := s.touch r; let k : Nat := keyFeed; s.overruled r k) →
    exec (.feedA r) s = .next (let s := s.touch r; s)) ∧
  (∀ (r : Requester) (s : State), s.mayWrite r EFU_CMD_FEED_A.addr = true → ¬(let s := s.touch r; let k : Nat := keyFeed; s.overruled r k) →
    exec (.feedA r) s = .next (let s := s.touch r; let k : Nat := keyFeed; let f := fun s => s.setForce (some false); f (s.noteWrite r k))) ∧
  -- FEED_B (R323)
  (∀ (r : Requester) (s : State), s.mayWrite r EFU_CMD_FEED_B.addr = true → (let s := s.touch r; let k : Nat := keyFeed; s.overruled r k) →
    exec (.feedB r) s = .next (let s := s.touch r; s)) ∧
  (∀ (r : Requester) (s : State), s.mayWrite r EFU_CMD_FEED_B.addr = true → ¬(let s := s.touch r; let k : Nat := keyFeed; s.overruled r k) →
    exec (.feedB r) s = .next (let s := s.touch r; let k : Nat := keyFeed; let f := fun s => s.setForce (some true); f (s.noteWrite r k))) ∧
  -- FEED_AUTO (R323)
  (∀ (r : Requester) (s : State), s.mayWrite r EFU_CMD_FEED_AUTO.addr = true → (let s := s.touch r; let k : Nat := keyFeed; s.overruled r k) →
    exec (.feedAuto r) s = .next (let s := s.touch r; s)) ∧
  (∀ (r : Requester) (s : State), s.mayWrite r EFU_CMD_FEED_AUTO.addr = true → ¬(let s := s.touch r; let k : Nat := keyFeed; s.overruled r k) →
    exec (.feedAuto r) s = .next (let s := s.touch r; let k : Nat := keyFeed; let f := fun s => s.setForce none; f (s.noteWrite r k))) ∧
  -- FEED_GOOD (R322)
  (∀ (k : Fin 2) (s : State), (s.feedInWin k ∧ !s.on (feedBit k) ∧ s.lasted (s.efu.inSince.get k) (1000 * s.get EFU_FEED_TIME_QUAL_MS)) →
    exec (.feedGood k) s = .next (s.setB (feedBit k) true)) ∧
  (∀ (k : Fin 2) (s : State), ¬(s.feedInWin k ∧ !s.on (feedBit k) ∧ s.lasted (s.efu.inSince.get k) (1000 * s.get EFU_FEED_TIME_QUAL_MS)) →
    exec (.feedGood k) s = .next s) ∧
  -- FEED_BAD (R322)
  (∀ (k : Fin 2) (s : State), (!s.feedInWin k ∧ s.on (feedBit k) ∧ s.lasted (s.efu.outSince.get k) (s.get EFU_FEED_TIME_BAD_US)) →
    exec (.feedBad k) s = .next (s.setB (feedBit k) false)) ∧
  (∀ (k : Fin 2) (s : State), ¬(!s.feedInWin k ∧ s.on (feedBit k) ∧ s.lasted (s.efu.outSince.get k) (s.get EFU_FEED_TIME_BAD_US)) →
    exec (.feedBad k) s = .next s) ∧
  -- FEED_SWITCH_START (R323)
  (∀ s : State, (s.on EFU_FEED_CFG_PAIR_EN ∧ s.wantedFeed ≠ s.efu.sel) →
    exec .feedSwitchStart s = .next ({ s with efu := { s.efu with switchDue := true } })) ∧
  (∀ s : State, ¬(s.on EFU_FEED_CFG_PAIR_EN ∧ s.wantedFeed ≠ s.efu.sel) → exec .feedSwitchStart s = .next s) ∧
  -- FEED_BBM_COMPLETE (R323)
  (∀ (s : State) old t, (s.efu.gap = some (old, t)) → (t + s.get EFU_FEED_BBM_BBM_US ≤ s.tick ∧ s.oldFeedOff old) →
    exec .feedBbmComplete s = .next (let s := { (s.setB EFU_FEED_STAT_STUCK false) with efu := { s.efu with gap := none } };
    let s := s.iff (s.efu.sel != 0) (fun s => let n : Fin 8 := Fin.ofNat 8 (s.efu.sel - 1); s.setFuse n { s.fuse n with insertEnd := 0 }) ;
    let s := s.inc EFU_FEED_STAT_SWITCHES; s.each (List.finRange 8) State.fuseEval)) ∧
  (∀ (s : State) old t, (s.efu.gap = some (old, t)) → ¬(t + s.get EFU_FEED_BBM_BBM_US ≤ s.tick ∧ s.oldFeedOff old) → exec .feedBbmComplete s = .next s) ∧
  (∀ s : State, (s.efu.gap = none) → exec .feedBbmComplete s = .next s) ∧
  -- FEED_STUCK (R323)
  (∀ (s : State) old t, (s.efu.gap = some (old, t)) → (t + s.get EFU_FEED_BBM_BBM_MAX_US ≤ s.tick ∧ !s.oldFeedOff old ∧ !s.on EFU_FEED_STAT_STUCK) →
    exec .feedStuck s = .next ((s.setB EFU_FEED_STAT_STUCK true).event .feedStuck (objRef 2 (old - 1)))) ∧
  (∀ (s : State) old t, (s.efu.gap = some (old, t)) → ¬(t + s.get EFU_FEED_BBM_BBM_MAX_US ≤ s.tick ∧ !s.oldFeedOff old ∧ !s.on EFU_FEED_STAT_STUCK) →
    exec .feedStuck s = .next s) ∧
  (∀ s : State, (s.efu.gap = none) → exec .feedStuck s = .next s) ∧
  -- FEED_REVERT_TIMER (R323)
  (∀ s : State, (s.feedSettled (if s.on EFU_FEED_CFG_PREF then 1 else 0)) →
    exec .feedRevertTimer s = .next ({ s with efu := { s.efu with switchDue := true } })) ∧
  (∀ s : State, ¬(s.feedSettled (if s.on EFU_FEED_CFG_PREF then 1 else 0)) → exec .feedRevertTimer s = .next s) ∧
  -- SLOT_INSERT (R326)
  (∀ (n : Fin 8) (x : Unit) (s : State) m, (s.slotEdge n true) → ((let x := s.fuse n; x.mem) = some m) → (let i : Nat := (s.fuse n).presFor.2;
    i < m.until_) → exec (.slotInsert n x) s = .next (let i : Nat := (s.fuse n).presFor.2; let x := s.fuse n;
    let s := (s.setB EFU_CH_STAT_PRESENT true n.val).inc EFU_CH_TEMP_INSERTS n.val; let s := s.set EFU_CH_STAT_RETRIES m.count n.val;
    ((s.setFuse n { x with mem := none, insertEnd := i + max 250000 m.remain, lastWait := (i, i + m.remain) }).fuseEval n).settle)) ∧
  (∀ (n : Fin 8) (x : Unit) (s : State) m, (s.slotEdge n true) → ((let x := s.fuse n; x.mem) = some m) → ¬(let i : Nat := (s.fuse n).presFor.2;
    i < m.until_) → exec (.slotInsert n x) s = .next (let i : Nat := (s.fuse n).presFor.2; let x := s.fuse n;
    let s := (s.setB EFU_CH_STAT_PRESENT true n.val).inc EFU_CH_TEMP_INSERTS n.val;
    let s := (s.set EFU_CH_STAT_RETRIES 0 n.val).iff (s.fuseState n == 5) (fun s => s.setFuseState n 1);
    ((s.setFuse n { x with mem := none, insertEnd := i + 250000 }).fuseEval n).settle)) ∧
  (∀ (n : Fin 8) (x : Unit) (s : State), (s.slotEdge n true) → ((let x := s.fuse n; x.mem) = none) →
    exec (.slotInsert n x) s = .next (let i : Nat := (s.fuse n).presFor.2; let x := s.fuse n;
    let s := (s.setB EFU_CH_STAT_PRESENT true n.val).inc EFU_CH_TEMP_INSERTS n.val;
    let s := (s.set EFU_CH_STAT_RETRIES 0 n.val).iff (s.fuseState n == 5) (fun s => s.setFuseState n 1);
    ((s.setFuse n { x with insertEnd := i + 250000 }).fuseEval n).settle)) ∧
  (∀ (n : Fin 8) (x : Unit) (s : State), ¬(s.slotEdge n true) → exec (.slotInsert n x) s = .next s) ∧
  -- SLOT_REMOVE (R325)
  (∀ (n : Fin 8) (x : Unit) (s : State), (s.slotEdge n false) → (let st := s.fuseState n; st = 2 ∨ st = 3 ∨ st = 4) →
    exec (.slotRemove n x) s = .next (let r : Nat := (s.fuse n).presFor.2; let x := s.fuse n;
    let remain := (if x.lastWait.1 ≤ r then x.lastWait.2 - r else 0);
    let mem : SlotMem := { count := s.get EFU_CH_STAT_RETRIES n.val, latched := s.fuseState n == 5, remain := remain, until_ := r + 60000000 };
    let s := s.setB EFU_CH_STAT_PRESENT false n.val; let s := s.setFuse n { x with mem := some mem, insertEnd := 0 }; (s.fuseOff n 1 6).settle)) ∧
  (∀ (n : Fin 8) (x : Unit) (s : State), (s.slotEdge n false) → ¬(let st := s.fuseState n; st = 2 ∨ st = 3 ∨ st = 4) →
    exec (.slotRemove n x) s = .next (let r : Nat := (s.fuse n).presFor.2; let x := s.fuse n;
    let remain := (if x.lastWait.1 ≤ r then x.lastWait.2 - r else 0);
    let mem : SlotMem := { count := s.get EFU_CH_STAT_RETRIES n.val, latched := s.fuseState n == 5, remain := remain, until_ := r + 60000000 };
    let s := s.setB EFU_CH_STAT_PRESENT false n.val; let s := s.setFuse n { x with mem := some mem, insertEnd := 0 };
    (s.set EFU_CH_STAT_CAUSE 6 n.val).settle)) ∧
  (∀ (n : Fin 8) (x : Unit) (s : State), ¬(s.slotEdge n false) → exec (.slotRemove n x) s = .next s) ∧
  -- SLOT_MEMORY_EXPIRY (R325)
  (∀ (n : Fin 8) (s : State) m, ((s.fuse n).mem = some m) → (m.until_ ≤ s.tick) →
    exec (.slotMemoryExpiry n) s = .next (let x : Fuse := { s.fuse n with mem := none };
    { s with efu := { s.efu with chans := s.efu.chans.set n x } })) ∧
  (∀ (n : Fin 8) (s : State) m, ((s.fuse n).mem = some m) → ¬(m.until_ ≤ s.tick) → exec (.slotMemoryExpiry n) s = .next s) ∧
  (∀ (n : Fin 8) (s : State), ((s.fuse n).mem = none) → exec (.slotMemoryExpiry n) s = .next s)

/-- O36. Rails: qualification, warnings and faults. Each of these commands completes, in every state and for every operand that meet the conditions of the
clause, which are conditions on them alone and are those of the rule named with it, and the next state is the one given, with the command's own
effect; the clauses take in every form of the command, among them the states in which the rule gives it nothing to do; of a command that writes
or reads a register they take in the accesses that R71 lets pass, and RefusedCommands says what one that is refused does: PG_DEGLITCH_CHANGE
(R336), RAIL_QUALIFIED (R337), RAIL_EN_RISE (R338), RAIL_WINDOW_EXPIRY (R339), RMON_SAMPLE (R345), RAIL_WARNING (R344), FAULT_TIMER_EXPIRY
(R346), FLT_ACT0_REQUALIFY (R346), RMN_TEST (R347), RMN_TEST_END (R347), TEST_TIMEOUT (R347). -/
def Obligations.RailCommands : Prop :=
  -- PG_DEGLITCH_CHANGE (R336)
  (∀ (n : Fin 24) (high : Bool) (s : State), exec (.pgDeglitchChange n high) s = .next (let s := (s.pgBallTo n high).pgLine n;
    s.seqShow.railsHook.settle)) ∧
  -- RAIL_QUALIFIED (R337)
  (∀ (n : Fin 24) (s : State), (let x := s.rail n;
    let late := s.seqState == 1 && !x.everQual && decide (x.enAt + 1000 * s.get SEQ_RAIL_TIME_WIN n.val ≤ s.tick);
    let due := (match x.pgSince with | some t => decide (t + 1000 * s.get SEQ_RAIL_TIME_QUAL n.val ≤ s.tick) | none => false);
    s.railOn n && s.ownRail n && s.railPg n && s.railEn n && !s.railQual n && !s.bitOn RMN_EXPIRED_MASK n.val && s.seqState != 3 && due && !late) →
    exec (.railQualified n) s = .next ((s.qualify n).seqTail)) ∧
  (∀ (n : Fin 24) (s : State), ¬(let x := s.rail n;
    let late := s.seqState == 1 && !x.everQual && decide (x.enAt + 1000 * s.get SEQ_RAIL_TIME_WIN n.val ≤ s.tick);
    let due := (match x.pgSince with | some t => decide (t + 1000 * s.get SEQ_RAIL_TIME_QUAL n.val ≤ s.tick) | none => false);
    s.railOn n && s.ownRail n && s.railPg n && s.railEn n && !s.railQual n && !s.bitOn RMN_EXPIRED_MASK n.val && s.seqState != 3 && due && !late) →
    exec (.railQualified n) s = .next s) ∧
  -- RAIL_EN_RISE (R338)
  (∀ (n : Fin 24) (s : State), (s.due (s.rail n).enDue && s.seqState == 1) → exec (.railEnRise n) s = .next (let s := s.enRise n;
    s.seqShow.railsHook.settle)) ∧
  (∀ (n : Fin 24) (s : State), ¬(s.due (s.rail n).enDue && s.seqState == 1) → exec (.railEnRise n) s = .next s) ∧
  -- RAIL_WINDOW_EXPIRY (R339)
  (∀ (n : Fin 24) (s : State), (let x := s.rail n;
    s.seqState == 1 && s.ownRail n && s.railOn n && s.railEn n && !x.everQual && decide (x.enAt + 1000 * s.get SEQ_RAIL_TIME_WIN n.val ≤ s.tick)) →
    exec (.railWindowExpiry n) s = .next (let n : Nat := n.val; let kind : Nat := 1;
    { s with seq := { s.seq with faults := (s.seq.faults.filter (fun p => p != (n, kind))) ++ [(n, kind)] } })) ∧
  (∀ (n : Fin 24) (s : State), ¬(let x := s.rail n;
    s.seqState == 1 && s.ownRail n && s.railOn n && s.railEn n && !x.everQual && decide (x.enAt + 1000 * s.get SEQ_RAIL_TIME_WIN n.val ≤ s.tick)) →
    exec (.railWindowExpiry n) s = .next s) ∧
  -- RMON_SAMPLE (R345)
  (∀ (n : Fin 24) (s : State), (let m := s.afe.latest.get (Fin.ofNat 64 n.val); let x := s.rail n; m.valid && x.convAt != some m.tick) →
    exec (.rmonSample n) s = .next (let m := s.afe.latest.get (Fin.ofNat 64 n.val); let x := s.rail n;
    let s := (s.setRail n { x with convAt := some m.tick }).railSample n (s.railVolts n m.code); s.seqShow.railsHook.settle)) ∧
  (∀ (n : Fin 24) (s : State), ¬(let m := s.afe.latest.get (Fin.ofNat 64 n.val); let x := s.rail n; m.valid && x.convAt != some m.tick) →
    exec (.rmonSample n) s = .next s) ∧
  -- RAIL_WARNING (R344)
  (∀ (n : Fin 24) (v : Int) (t : Nat) (s : State), (s.rail n).v = some v → (s.rail n).warnSince = some t → (s.levelsJudged n && !s.inWarn n && s.outWarn n false v && decide (t + 1000 * s.get RMN_TIME_WARN_T ≤ s.tick)) = true →
    exec (.railWarning n) s = .next (let low := decide (v < 10 * (s.get RMN_RAIL_CFG_NOM n.val : Int));
    let s := (s.setB RMN_RAIL_MEAS_WARN_UV low n.val).setB RMN_RAIL_MEAS_WARN_OV (!low) n.val;
    let s := (s.setBit RMN_WARN_MASK n.val true).inc RMN_CNT_WARNINGS; s.event .railWarning (objRef 6 n.val) [if low then 0 else 1, v])) ∧
  (∀ (n : Fin 24) (s : State), (∀ v t, (s.rail n).v = some v → (s.rail n).warnSince = some t → (s.levelsJudged n && !s.inWarn n && s.outWarn n false v && decide (t + 1000 * s.get RMN_TIME_WARN_T ≤ s.tick)) = false) →
    exec (.railWarning n) s = .next s) ∧
  -- FAULT_TIMER_EXPIRY (R346)
  (∀ (n : Fin 24) (s : State), (s.timerOver n) → exec (.faultTimerExpiry n) s = .next (let n : Nat := n.val; let kind : Nat := 3;
    { s with seq := { s.seq with faults := (s.seq.faults.filter (fun p => p != (n, kind))) ++ [(n, kind)] } })) ∧
  (∀ (n : Fin 24) (s : State), ¬(s.timerOver n) → exec (.faultTimerExpiry n) s = .next s) ∧
  -- FLT_ACT0_REQUALIFY (R346)
  (∀ (n : Fin 24) (s : State), (let x := s.rail n;
    s.bitOn RMN_EXPIRED_MASK n.val && s.get RMN_RAIL_CFG_FLT_ACT n.val == 0 && x.timer.isNone && s.railPg n && s.railEn n && decide (x.stoppedAt + 1000 * s.get SEQ_RAIL_TIME_QUAL n.val ≤ s.tick)) →
    exec (.fltAct0Requalify n) s = .next (let s := s.qualify n; s.seqShow.railsHook.settle)) ∧
  (∀ (n : Fin 24) (s : State), ¬(let x := s.rail n;
    s.bitOn RMN_EXPIRED_MASK n.val && s.get RMN_RAIL_CFG_FLT_ACT n.val == 0 && x.timer.isNone && s.railPg n && s.railEn n && decide (x.stoppedAt + 1000 * s.get SEQ_RAIL_TIME_QUAL n.val ≤ s.tick)) →
    exec (.fltAct0Requalify n) s = .next s) ∧
  -- RMN_TEST (R347)
  (∀ (r : Requester) (s : State), s.mayWrite r RMN_CMD_TEST.addr = true → exec (.rmnTest r) s = .next (let s := s.touch r; let s := s.testStart;
    s.seqShow.railsHook.settle)) ∧
  -- RMN_TEST_END (R347)
  (∀ (r : Requester) (s : State), s.mayWrite r RMN_CMD_TEST.addr = true → exec (.rmnTestEnd r) s = .next (let s := s.touch r; let s := s.testStop;
    s.seqShow.railsHook.settle)) ∧
  -- TEST_TIMEOUT (R347)
  (∀ s : State, (s.due s.seq.testEnd) → exec .testTimeout s = .next (let s := s.testStop; s.seqShow.railsHook.settle)) ∧
  (∀ s : State, ¬(s.due s.seq.testEnd) → exec .testTimeout s = .next s)

/-- O37. The sequence: requests, shut-down, cascade and resets. Each of these commands completes, in every state and for every operand that meet the
conditions of the clause, which are conditions on them alone and are those of the rule named with it, and the next state is the one given, with
the command's own effect; the clauses take in every form of the command, among them the states in which the rule gives it nothing to do; of a
command that writes or reads a register they take in the accesses that R71 lets pass, and RefusedCommands says what one that is refused does:
SEQ_UP (R341), SEQ_DOWN (R341), SEQ_CLEAR (R340), RESET_STRETCH_END (R348), DN_STUCK (R351), P7_EN_FALL (R352), SEQ_RETRY_EXPIRY (R340),
SEQ_RETRY_RESET (R340), CASCADE_INPUT_CHANGE (R354), CASCADE_TIMEOUT (R354). -/
def Obligations.SequenceCommands : Prop :=
  -- SEQ_UP (R341)
  (∀ (r : Requester) (s : State), s.mayWrite r SEQ_CMD_UP.addr = true → (let s := s.touch r; let k : Nat := keySeq; s.overruled r k) →
    exec (.seqUp r) s = .next (let s := s.touch r; s)) ∧
  (∀ (r : Requester) (s : State), s.mayWrite r SEQ_CMD_UP.addr = true → ¬(let s := s.touch r; let k : Nat := keySeq; s.overruled r k) →
    exec (.seqUp r) s = .next (let s := s.touch r; let k : Nat := keySeq; let f := fun s => s.seqRequest true; f (s.noteWrite r k))) ∧
  -- SEQ_DOWN (R341)
  (∀ (r : Requester) (s : State), s.mayWrite r SEQ_CMD_UP.addr = true → (let s := s.touch r; let k : Nat := keySeq; s.overruled r k) →
    exec (.seqDown r) s = .next (let s := s.touch r; s)) ∧
  (∀ (r : Requester) (s : State), s.mayWrite r SEQ_CMD_UP.addr = true → ¬(let s := s.touch r; let k : Nat := keySeq; s.overruled r k) →
    exec (.seqDown r) s = .next (let s := s.touch r; let k : Nat := keySeq; let f := fun s => s.seqRequest false; f (s.noteWrite r k))) ∧
  -- SEQ_CLEAR (R340)
  (∀ (r : Requester) (s : State), s.mayWrite r SEQ_CMD_UP.addr = true → (let s := s.touch r; s.seqState = 5) →
    exec (.seqClear r) s = .next (let s := s.touch r; let s := ((s.set SEQ_STATE_STATE 0).set SEQ_STATE_RETRIES 0).seqEval;
    (s.seqShow.railsHook).settle)) ∧
  (∀ (r : Requester) (s : State), s.mayWrite r SEQ_CMD_UP.addr = true → ¬(let s := s.touch r; s.seqState = 5) →
    exec (.seqClear r) s = .next (let s := s.touch r; s.event .seqClearRefused)) ∧
  -- RESET_STRETCH_END (R348)
  (∀ (k : Fin 8) (s : State) t, (s.seq.rst.get k = some t) → (s.rstCond k.val && decide (t + 1000 * s.get SEQ_RST_TIME_STRETCH k.val ≤ s.tick)) →
    exec (.resetStretchEnd k) s = .next (s.setB SEQ_RST_TIME_ASSERTED false k.val)) ∧
  (∀ (k : Fin 8) (s : State) t, (s.seq.rst.get k = some t) → ¬(s.rstCond k.val && decide (t + 1000 * s.get SEQ_RST_TIME_STRETCH k.val ≤ s.tick)) →
    exec (.resetStretchEnd k) s = .next s) ∧
  (∀ (k : Fin 8) (s : State), (s.seq.rst.get k = none) → exec (.resetStretchEnd k) s = .next s) ∧
  -- DN_STUCK (R351)
  (∀ (n : Fin 24) (s : State), (let x := s.rail n;
    s.seqState == 3 && s.ownRail n && s.railOn n && !s.railEn n && !x.off && !x.stuck && decide (x.fellAt + 10000 * s.get SEQ_RAIL_DN_DIS_TMO n.val ≤ s.tick)) →
    exec (.dnStuck n) s = .next (let n : Nat := n.val; let kind : Nat := 4;
    { s with seq := { s.seq with faults := (s.seq.faults.filter (fun p => p != (n, kind))) ++ [(n, kind)] } })) ∧
  (∀ (n : Fin 24) (s : State), ¬(let x := s.rail n;
    s.seqState == 3 && s.ownRail n && s.railOn n && !s.railEn n && !x.off && !x.stuck && decide (x.fellAt + 10000 * s.get SEQ_RAIL_DN_DIS_TMO n.val ≤ s.tick)) →
    exec (.dnStuck n) s = .next s) ∧
  -- P7_EN_FALL (R352)
  (∀ (n : Fin 24) (s : State), (s.due (s.rail n).p7At && s.seqState == 3) → exec (.p7EnFall n) s = .next (let s := (s.enFall n).downCheck;
    s.seqShow.railsHook.settle)) ∧
  (∀ (n : Fin 24) (s : State), ¬(s.due (s.rail n).p7At && s.seqState == 3) → exec (.p7EnFall n) s = .next s) ∧
  -- SEQ_RETRY_EXPIRY (R340)
  (∀ s : State, (s.seqState = 4 ∧ s.seqPrimary ∧ s.seqDemanded ∧ s.seq.since + 1000 * s.get SEQ_TIME_RETRY_MS ≤ s.tick) →
    exec .seqRetryExpiry s = .next (let s := s.startUp; s.seqShow.railsHook.settle)) ∧
  (∀ s : State, ¬(s.seqState = 4 ∧ s.seqPrimary ∧ s.seqDemanded ∧ s.seq.since + 1000 * s.get SEQ_TIME_RETRY_MS ≤ s.tick) →
    exec .seqRetryExpiry s = .next s) ∧
  -- SEQ_RETRY_RESET (R340)
  (∀ s : State, (s.seqState = 2 ∧ s.seq.runSince + 60000000 ≤ s.tick) →
    exec .seqRetryReset s = .next ({ (s.set SEQ_STATE_RETRIES 0) with seq := { s.seq with runSince := s.tick } })) ∧
  (∀ s : State, ¬(s.seqState = 2 ∧ s.seq.runSince + 60000000 ≤ s.tick) → exec .seqRetryReset s = .next s) ∧
  -- CASCADE_INPUT_CHANGE (R354)
  (∀ (dn high : Bool) (s : State), (let s := s.cascBall dn high; s.boot.g.isNone) →
    exec (.cascadeInputChange dn high) s = .next (let s := s.cascBall dn high; s)) ∧
  (∀ (dn high : Bool) (s : State), ¬(let s := s.cascBall dn high; s.boot.g.isNone) →
    exec (.cascadeInputChange dn high) s = .next (let s := s.cascBall dn high;
    let s := s.iff (s.seq.dnBall.1 != s.on SEQ_CASC_DN_IN && decide (s.seq.dnBall.2 + 20 ≤ s.tick)) (fun s => s.dnIn s.seq.dnBall.1);
    s.iff (s.seq.upBall.1 != s.on SEQ_CASC_UP_IN && decide (s.seq.upBall.2 + 20 ≤ s.tick)) (fun s => s.upIn s.seq.upBall.1))) ∧
  -- CASCADE_TIMEOUT (R354)
  (∀ (s : State) t, (s.seq.cascSince = some t) → (t + 1000 * s.get SEQ_TIME_CASC_TMO_MS ≤ s.tick) → (s.seqState = 1) →
    exec .cascadeTimeout s = .next (let n : Nat := 24; let kind : Nat := 5;
    { s with seq := { s.seq with faults := (s.seq.faults.filter (fun p => p != (n, kind))) ++ [(n, kind)] } })) ∧
  (∀ (s : State) t, (s.seq.cascSince = some t) → (t + 1000 * s.get SEQ_TIME_CASC_TMO_MS ≤ s.tick) → ¬(s.seqState = 1) → (s.seqState = 3) →
    exec .cascadeTimeout s = .next (let s := (((s.setB SEQ_STUCK_CASC true).event .cascadeStuck).faultRecord 24 4).downProceed;
    s.seqShow.railsHook.settle)) ∧
  (∀ (s : State) t, (s.seq.cascSince = some t) → (t + 1000 * s.get SEQ_TIME_CASC_TMO_MS ≤ s.tick) → ¬(s.seqState = 1) → ¬(s.seqState = 3) →
    exec .cascadeTimeout s = .next s) ∧
  (∀ (s : State) t, (s.seq.cascSince = some t) → ¬(t + 1000 * s.get SEQ_TIME_CASC_TMO_MS ≤ s.tick) → exec .cascadeTimeout s = .next s) ∧
  (∀ s : State, (s.seq.cascSince = none) → exec .cascadeTimeout s = .next s)

/-- O38. The two-wire buses. Each of these commands completes, in every state and for every operand that meet the conditions of the clause, which are
conditions on them alone and are those of the rule named with it, and the next state is the one given, with the command's own effect; the clauses
take in every form of the command, among them the states in which the rule gives it nothing to do; of a command that writes or reads a register
they take in the accesses that R71 lets pass, and RefusedCommands says what one that is refused does: TWB_TRANSACTION_START (R384),
TWB_TRANSACTION_END (R393), BUS_FREE (R384), CLK_LOW_TIMEOUT (R389), SEXT_TIMEOUT (R389), SDA_HELD_CLEAR (R384), LISTEN_SDA_LOW_TIMEOUT (R384),
BUS_CLEAR_COMPLETE (R390), STUCK_RETRY (R384), TWB_CLEAR (R384), TWB_RESET (R390), HN_FLUSH (R395), HOST_NOTIFY (R383). -/
def Obligations.TwoWireCommands : Prop :=
  -- TWB_TRANSACTION_START (R384)
  (∀ (c : Fin 16) (ev : StartRun) (s : State), (!(s.chanState c.val == 2 && (s.chan c).busFree && s.twbMay)) →
    exec (.twbTransactionStart c ev) s = .next s) ∧
  (∀ (c : Fin 16) (ev : StartRun) (s : State), ¬(!(s.chanState c.val == 2 && (s.chan c).busFree && s.twbMay)) → (s.pick c = none) →
    exec (.twbTransactionStart c ev) s = .next s) ∧
  (∀ (c : Fin 16) (ev : StartRun) (s : State) q, ¬(!(s.chanState c.val == 2 && (s.chan c).busFree && s.twbMay)) → (s.pick c = some q) → (ev = .busy) →
    exec (.twbTransactionStart c ev) s = .next (let lost := { s.chan c with busFree := false, busyAt := s.tick }; let u := s; let s := u;
    let x : Chan := lost; { s with twb := { s.twb with chans := s.twb.chans.set c x } })) ∧
  (∀ (c : Fin 16) (ev : StartRun) (s : State) q, ¬(!(s.chanState c.val == 2 && (s.chan c).busFree && s.twbMay)) → (s.pick c = some q) → (ev = .runs) →
    exec (.twbTransactionStart c ev) s = .next (let fresh := (s.chan c).cur.isNone;
    let t := s.iff fresh (fun s => (s.countStart c q.cls).incWrap TWB_CH_XFERS_XFERS c.val);
    let t := (t.onReq q.id (fun q => { q with started := true, begun := true })).setChanState c 3;
    let x := { t.chan c with cur := some q.id, busFree := false, busyAt := s.tick, startAt := s.tick, sent := q.sent }; let s := t.setChan c x; s)) ∧
  (∀ (c : Fin 16) (ev : StartRun) (s : State) q, ¬(!(s.chanState c.val == 2 && (s.chan c).busFree && s.twbMay)) → (s.pick c = some q) →
    (ev = .arbLost) → (let lost := { s.chan c with busFree := false, busyAt := s.tick }; let fresh := (s.chan c).cur.isNone;
    let t := s.iff fresh (fun s => (s.countStart c q.cls).incWrap TWB_CH_XFERS_XFERS c.val);
    let t := (t.onReq q.id (fun q => { q with started := true, begun := true })).setChanState c 3;
    let x := { t.chan c with cur := some q.id, busFree := false, busyAt := s.tick, startAt := s.tick, sent := q.sent }; let s := t.setChan c x;
    let s := s.setChan c { x with lost := x.lost + 1 }; s.get TWB_CFG_ARB_RETRY ≤ x.lost + 1) →
    exec (.twbTransactionStart c ev) s = .next (let lost := { s.chan c with busFree := false, busyAt := s.tick }; let fresh := (s.chan c).cur.isNone;
    let t := s.iff fresh (fun s => (s.countStart c q.cls).incWrap TWB_CH_XFERS_XFERS c.val);
    let t := (t.onReq q.id (fun q => { q with started := true, begun := true })).setChanState c 3;
    let x := { t.chan c with cur := some q.id, busFree := false, busyAt := s.tick, startAt := s.tick, sent := q.sent }; let s := t.setChan c x;
    let s := s.setChan c { x with lost := x.lost + 1 }; s.endTrans c { code := 4 } 1)) ∧
  (∀ (c : Fin 16) (ev : StartRun) (s : State) q, ¬(!(s.chanState c.val == 2 && (s.chan c).busFree && s.twbMay)) → (s.pick c = some q) →
    (ev = .arbLost) → ¬(let lost := { s.chan c with busFree := false, busyAt := s.tick }; let fresh := (s.chan c).cur.isNone;
    let t := s.iff fresh (fun s => (s.countStart c q.cls).incWrap TWB_CH_XFERS_XFERS c.val);
    let t := (t.onReq q.id (fun q => { q with started := true, begun := true })).setChanState c 3;
    let x := { t.chan c with cur := some q.id, busFree := false, busyAt := s.tick, startAt := s.tick, sent := q.sent }; let s := t.setChan c x;
    let s := s.setChan c { x with lost := x.lost + 1 }; s.get TWB_CFG_ARB_RETRY ≤ x.lost + 1) →
    exec (.twbTransactionStart c ev) s = .next (let lost := { s.chan c with busFree := false, busyAt := s.tick }; let fresh := (s.chan c).cur.isNone;
    let t := s.iff fresh (fun s => (s.countStart c q.cls).incWrap TWB_CH_XFERS_XFERS c.val);
    let t := (t.onReq q.id (fun q => { q with started := true, begun := true })).setChanState c 3;
    let x := { t.chan c with cur := some q.id, busFree := false, busyAt := s.tick, startAt := s.tick, sent := q.sent };
    let listen := fun (s : State) => (s.setChanState c 1).inc TWB_ARB_CNT_RETRIES; let s := t.setChan c x;
    let s := s.setChan c { x with lost := x.lost + 1 }; listen s)) ∧
  (∀ (c : Fin 16) (ev : StartRun) (s : State) q, ¬(!(s.chanState c.val == 2 && (s.chan c).busFree && s.twbMay)) → (s.pick c = some q) → (ev = .arbSr) →
    (let fresh := (s.chan c).cur.isNone; let t := s.iff fresh (fun s => (s.countStart c q.cls).incWrap TWB_CH_XFERS_XFERS c.val);
    let t := (t.onReq q.id (fun q => { q with started := true, begun := true })).setChanState c 3;
    let x := { t.chan c with cur := some q.id, busFree := false, busyAt := s.tick, startAt := s.tick, sent := q.sent }; x.srLost) →
    exec (.twbTransactionStart c ev) s = .next (let fresh := (s.chan c).cur.isNone;
    let t := s.iff fresh (fun s => (s.countStart c q.cls).incWrap TWB_CH_XFERS_XFERS c.val);
    let t := (t.onReq q.id (fun q => { q with started := true, begun := true })).setChanState c 3;
    let x := { t.chan c with cur := some q.id, busFree := false, busyAt := s.tick, startAt := s.tick, sent := q.sent }; let s := t.setChan c x;
    let s := (s.inc TWB_ASV_CNT_ARB_SR).setChan c { x with srLost := true }; s.endTrans c { code := 5 } 1)) ∧
  (∀ (c : Fin 16) (ev : StartRun) (s : State) q, ¬(!(s.chanState c.val == 2 && (s.chan c).busFree && s.twbMay)) → (s.pick c = some q) → (ev = .arbSr) →
    ¬(let fresh := (s.chan c).cur.isNone; let t := s.iff fresh (fun s => (s.countStart c q.cls).incWrap TWB_CH_XFERS_XFERS c.val);
    let t := (t.onReq q.id (fun q => { q with started := true, begun := true })).setChanState c 3;
    let x := { t.chan c with cur := some q.id, busFree := false, busyAt := s.tick, startAt := s.tick, sent := q.sent }; x.srLost) →
    exec (.twbTransactionStart c ev) s = .next (let fresh := (s.chan c).cur.isNone;
    let t := s.iff fresh (fun s => (s.countStart c q.cls).incWrap TWB_CH_XFERS_XFERS c.val);
    let t := (t.onReq q.id (fun q => { q with started := true, begun := true })).setChanState c 3;
    let x := { t.chan c with cur := some q.id, busFree := false, busyAt := s.tick, startAt := s.tick, sent := q.sent };
    let listen := fun (s : State) => (s.setChanState c 1).inc TWB_ARB_CNT_RETRIES; let s := t.setChan c x;
    let s := (s.inc TWB_ASV_CNT_ARB_SR).setChan c { x with srLost := true }; listen s)) ∧
  (∀ (c : Fin 16) (ev : StartRun) (s : State) q, ¬(!(s.chanState c.val == 2 && (s.chan c).busFree && s.twbMay)) → (s.pick c = some q) →
    (ev = .ackSlot) → exec (.twbTransactionStart c ev) s = .next (let fresh := (s.chan c).cur.isNone;
    let t := s.iff fresh (fun s => (s.countStart c q.cls).incWrap TWB_CH_XFERS_XFERS c.val);
    let t := (t.onReq q.id (fun q => { q with started := true, begun := true })).setChanState c 3;
    let x := { t.chan c with cur := some q.id, busFree := false, busyAt := s.tick, startAt := s.tick, sent := q.sent }; let s := t.setChan c x;
    (s.endTrans c { code := 6 } 1).clearBegin c false)) ∧
  (∀ (c : Fin 16) (q : Req) (s : State), s.chanState c.val = 2 → (s.chan c).busFree = true → s.twbMay = true → s.pick c = some q →
  Runs (.twbTransactionStart c .runs) s (fun t => (t.chan c).cur = some q.id ∧ (t.chan c).busFree = false ∧ t.tick = s.tick)) ∧
  -- TWB_TRANSACTION_END (R393)
  (∀ (c code : Fin 16) (bytes : Nat) (data : List Byte) (sr stretch : Nat) (s : State), (s.chanState c.val ≠ 3) →
    exec (.twbTransactionEnd c code bytes data sr stretch) s = .next s) ∧
  (∀ (c code : Fin 16) (bytes : Nat) (data : List Byte) (sr stretch : Nat) (s : State), ¬(s.chanState c.val ≠ 3) → (s.running c = none) →
    exec (.twbTransactionEnd c code bytes data sr stretch) s = .next s) ∧
  (∀ (c code : Fin 16) (bytes : Nat) (data : List Byte) (sr stretch : Nat) (s : State) q, ¬(s.chanState c.val ≠ 3) → (s.running c = some q) →
    (let r := s.transResult c q code.val bytes (data.map BitVec.toNat) sr stretch; let t := s.bitTimes c.val;
    !([0, 1, 2].contains code.val || (code.val == 12 && q.dead)) ∨ !s.mayPassed (s.chan c).startAt (9 * r.bytes * (t.1 + t.2.1) + 2 * t.2.2.1)) →
    exec (.twbTransactionEnd c code bytes data sr stretch) s = .next s) ∧
  (∀ (c code : Fin 16) (bytes : Nat) (data : List Byte) (sr stretch : Nat) (s : State) q, ¬(s.chanState c.val ≠ 3) → (s.running c = some q) →
    ¬(let r := s.transResult c q code.val bytes (data.map BitVec.toNat) sr stretch; let t := s.bitTimes c.val;
    !([0, 1, 2].contains code.val || (code.val == 12 && q.dead)) ∨ !s.mayPassed (s.chan c).startAt (9 * r.bytes * (t.1 + t.2.1) + 2 * t.2.2.1)) →
    exec (.twbTransactionEnd c code bytes data sr stretch) s = .next (let r := s.transResult c q code.val bytes (data.map BitVec.toNat) sr stretch;
    (s.maxOf TWB_CH_STUCK_SEXT_MAX stretch c.val).endTrans c r 2)) ∧
  -- BUS_FREE (R384)
  (∀ (b : BusIdle) (s : State), (let free := (if b.stop then s.mayPassed b.since (s.bitTimes b.c.val).2.2.2 else decide (b.since + s.get TWB_CFG_IDLE_US ≤ s.tick));
    (s.chanState b.c.val = 1 ∨ s.chanState b.c.val = 2) ∧ (s.chan b.c).busyAt ≤ b.since ∧ free = true) →
    exec (.busFree b) s = .next (let s := (s.setB TWB_CH_STAT_SCL true b.c.val).setB TWB_CH_STAT_SDA true b.c.val;
    (s.setChanState b.c 2).setChan b.c { s.chan b.c with busFree := true })) ∧
  (∀ (b : BusIdle) (s : State), ¬(let free := (if b.stop then s.mayPassed b.since (s.bitTimes b.c.val).2.2.2 else decide (b.since + s.get TWB_CFG_IDLE_US ≤ s.tick));
    (s.chanState b.c.val = 1 ∨ s.chanState b.c.val = 2) ∧ (s.chan b.c).busyAt ≤ b.since ∧ free = true) → exec (.busFree b) s = .next s) ∧
  (∀ (b : BusIdle) (s : State), s.chanState b.c.val = 1 ∨ s.chanState b.c.val = 2 → (s.chan b.c).busyAt ≤ b.since → b.stop = false →
  b.since + s.get TWB_CFG_IDLE_US ≤ s.tick → Runs (.busFree b) s (fun t =>
  t.chanState b.c.val = 2 ∧ (t.chan b.c).busFree = true ∧ t.mem = s.mem)) ∧
  -- CLK_LOW_TIMEOUT (R389)
  (∀ (h : LineHeld) (s : State), (s.chanState h.c.val = 0 ∨ s.chanState h.c.val = 5 ∨ s.tick < h.since + 1000 * s.get TWB_TIMEOUT_TLOW_TO) →
    exec (.clkLowTimeout h) s = .next s) ∧
  (∀ (h : LineHeld) (s : State), ¬(s.chanState h.c.val = 0 ∨ s.chanState h.c.val = 5 ∨ s.tick < h.since + 1000 * s.get TWB_TIMEOUT_TLOW_TO) →
    exec (.clkLowTimeout h) s = .next (((s.endTrans h.c { code := 7 } 5).stuckEnter h.c 7).settle)) ∧
  -- SEXT_TIMEOUT (R389)
  (∀ (c : Fin 16) (stretch bytes : Nat) (s : State), (s.chanState c.val = 3 ∧ 1000 * s.get TWB_TIMEOUT_SEXT_MS < stretch) →
    exec (.sextTimeout c stretch bytes) s = .next (let x : Chan := { s.chan c with sext := some (stretch, bytes) };
    { s with twb := { s.twb with chans := s.twb.chans.set c x } })) ∧
  (∀ (c : Fin 16) (stretch bytes : Nat) (s : State), ¬(s.chanState c.val = 3 ∧ 1000 * s.get TWB_TIMEOUT_SEXT_MS < stretch) →
    exec (.sextTimeout c stretch bytes) s = .next s) ∧
  -- SDA_HELD_CLEAR (R384)
  (∀ (h : LineHeld) (s : State), (let st := s.chanState h.c.val;
    1 ≤ st ∧ st ≤ 3 ∧ h.since + s.get TWB_CFG_IDLE_US ≤ s.tick ∧ (s.pick h.c).isSome ∧ s.twbMay) →
    exec (.sdaHeldClear h) s = .next (((s.putBack h.c).clearBegin h.c true).setB TWB_CH_STAT_SDA false h.c.val)) ∧
  (∀ (h : LineHeld) (s : State), ¬(let st := s.chanState h.c.val;
    1 ≤ st ∧ st ≤ 3 ∧ h.since + s.get TWB_CFG_IDLE_US ≤ s.tick ∧ (s.pick h.c).isSome ∧ s.twbMay) → exec (.sdaHeldClear h) s = .next s) ∧
  -- LISTEN_SDA_LOW_TIMEOUT (R384)
  (∀ (h : LineHeld) (s : State), (s.chanState h.c.val = 1 ∧ h.since + 1000 * s.get TWB_TIMEOUT_TLOW_TO ≤ s.tick ∧ s.twbMay) →
    exec (.listenSdaLowTimeout h) s = .next (((s.putBack h.c).clearBegin h.c false).setB TWB_CH_STAT_SDA false h.c.val)) ∧
  (∀ (h : LineHeld) (s : State), ¬(s.chanState h.c.val = 1 ∧ h.since + 1000 * s.get TWB_TIMEOUT_TLOW_TO ≤ s.tick ∧ s.twbMay) →
    exec (.listenSdaLowTimeout h) s = .next s) ∧
  -- BUS_CLEAR_COMPLETE (R390)
  (∀ (c : Fin 16) (e : ClearEnd) (s : State), (let t := s.bitTimes c.val; let lasts := 250 + (e.more.val + 1) * (t.1 + t.2.1) + t.1 + t.2.2.1;
    s.chanState c.val ≠ 4 ∨ !s.mayPassed (s.chan c).clearAt lasts) → exec (.busClearComplete c e) s = .next s) ∧
  (∀ (c : Fin 16) (e : ClearEnd) (s : State), ¬(let t := s.bitTimes c.val; let lasts := 250 + (e.more.val + 1) * (t.1 + t.2.1) + t.1 + t.2.2.1;
    s.chanState c.val ≠ 4 ∨ !s.mayPassed (s.chan c).clearAt lasts) → e.released →
    exec (.busClearComplete c e) s = .next (let s := s.inc TWB_CH_ERRS_CLEARS c.val; let s := s.setB TWB_CH_STAT_SDA e.released c.val;
    let x : Chan := { s.chan c with busFree := false, busyAt := s.tick, forReq := false }; let s := s.setChanState c 2;
    { s with twb := { s.twb with chans := s.twb.chans.set c x } })) ∧
  (∀ (c : Fin 16) (e : ClearEnd) (s : State), ¬(let t := s.bitTimes c.val; let lasts := 250 + (e.more.val + 1) * (t.1 + t.2.1) + t.1 + t.2.2.1;
    s.chanState c.val ≠ 4 ∨ !s.mayPassed (s.chan c).clearAt lasts) → ¬e.released →
    exec (.busClearComplete c e) s = .next (let s := s.inc TWB_CH_ERRS_CLEARS c.val; let s := s.setB TWB_CH_STAT_SDA e.released c.val;
    (s.stuckEnter c 8).settle)) ∧
  (∀ (c : Fin 16) (e : ClearEnd) (s : State), s.chanState c.val = 4 →
    e.released = true →
  s.mayPassed (s.chan c).clearAt (250 + (e.more.val + 1) * ((s.bitTimes c.val).1 + (s.bitTimes c.val).2.1) + (s.bitTimes c.val).1 + (s.bitTimes c.val).2.2.1) = true →
  Runs (.busClearComplete c e) s (fun t => t.chanState c.val = 2 ∧ (t.chan c).busFree = false ∧ (t.chan c).busyAt = s.tick ∧ (t.chan c).forReq = false ∧ t.mem = s.mem)) ∧
  -- STUCK_RETRY (R384)
  (∀ (c : Fin 16) (sclHigh : Bool) (s : State), (s.chanState c.val = 5 ∧ (s.chan c).since + 1000 * s.get TWB_TIMEOUT_RETRY_STUCK_MS ≤ s.tick) →
    sclHigh → exec (.stuckRetry c sclHigh) s = .next (let s := s.setB TWB_CH_STAT_SCL sclHigh c.val; let s := s.stuckLeave c;
    let forReq : Bool := false; let x : Chan := { s.chan c with forReq := forReq, busFree := false, busyAt := s.tick, clearAt := s.tick };
    let s := s.setChanState c 4; ({ s with twb := { s.twb with chans := s.twb.chans.set c x } }).settle)) ∧
  (∀ (c : Fin 16) (sclHigh : Bool) (s : State), (s.chanState c.val = 5 ∧ (s.chan c).since + 1000 * s.get TWB_TIMEOUT_RETRY_STUCK_MS ≤ s.tick) →
    ¬sclHigh → exec (.stuckRetry c sclHigh) s = .next (let s := s.setB TWB_CH_STAT_SCL sclHigh c.val;
    let x : Chan := { s.chan c with since := s.tick }; { s with twb := { s.twb with chans := s.twb.chans.set c x } })) ∧
  (∀ (c : Fin 16) (sclHigh : Bool) (s : State), ¬(s.chanState c.val = 5 ∧ (s.chan c).since + 1000 * s.get TWB_TIMEOUT_RETRY_STUCK_MS ≤ s.tick) →
    exec (.stuckRetry c sclHigh) s = .next s) ∧
  -- TWB_CLEAR (R384)
  (∀ (r : Requester) (c : Fin 16) (s : State), s.mayWrite r TWB_CMD_CLEAR.addr = true → (let s := s.touch r; let s := s.set TWB_CMD_CH c.val;
    let st := s.chanState c.val; st = 3) → exec (.twbClear r c) s = .next (let s := s.touch r; let s := s.set TWB_CMD_CH c.val;
    let s := s.endTrans c { code := 12 } 4; let forReq : Bool := false;
    (s.setChanState c 4).setChan c { s.chan c with forReq := forReq, busFree := false, busyAt := s.tick, clearAt := s.tick })) ∧
  (∀ (r : Requester) (c : Fin 16) (s : State), s.mayWrite r TWB_CMD_CLEAR.addr = true → ¬(let s := s.touch r; let s := s.set TWB_CMD_CH c.val;
    let st := s.chanState c.val; st = 3) → (let s := s.touch r; let s := s.set TWB_CMD_CH c.val; let st := s.chanState c.val;
    st = 1 ∨ st = 2 ∨ st = 4) → exec (.twbClear r c) s = .next (let s := s.touch r; let s := s.set TWB_CMD_CH c.val;
    let forReq : Bool := (s.chan c).forReq; let s := s.putBack c;
    (s.setChanState c 4).setChan c { s.chan c with forReq := forReq, busFree := false, busyAt := s.tick, clearAt := s.tick })) ∧
  (∀ (r : Requester) (c : Fin 16) (s : State), s.mayWrite r TWB_CMD_CLEAR.addr = true → ¬(let s := s.touch r; let s := s.set TWB_CMD_CH c.val;
    let st := s.chanState c.val; st = 3) → ¬(let s := s.touch r; let s := s.set TWB_CMD_CH c.val; let st := s.chanState c.val;
    st = 1 ∨ st = 2 ∨ st = 4) → exec (.twbClear r c) s = .next (let s := s.touch r; let s := s.set TWB_CMD_CH c.val; s)) ∧
  -- TWB_RESET (R390)
  (∀ (r : Requester) (c : Fin 16) (s : State), s.mayWrite r TWB_CMD_CLEAR.addr = true → (let s := s.touch r; let s := s.set TWB_CMD_CH c.val;
    let st := s.chanState c.val; st = 3) → exec (.twbReset r c) s = .next (let s := s.touch r; let s := s.set TWB_CMD_CH c.val;
    let s := s.endTrans c { code := 12 } 4; let forReq : Bool := false;
    (s.setChanState c 4).setChan c { s.chan c with forReq := forReq, busFree := false, busyAt := s.tick, clearAt := s.tick })) ∧
  (∀ (r : Requester) (c : Fin 16) (s : State), s.mayWrite r TWB_CMD_CLEAR.addr = true → ¬(let s := s.touch r; let s := s.set TWB_CMD_CH c.val;
    let st := s.chanState c.val; st = 3) → (let s := s.touch r; let s := s.set TWB_CMD_CH c.val; let st := s.chanState c.val;
    st = 1 ∨ st = 2 ∨ st = 4) → exec (.twbReset r c) s = .next (let s := s.touch r; let s := s.set TWB_CMD_CH c.val;
    let forReq : Bool := (s.chan c).forReq; let s := s.putBack c;
    (s.setChanState c 4).setChan c { s.chan c with forReq := forReq, busFree := false, busyAt := s.tick, clearAt := s.tick })) ∧
  (∀ (r : Requester) (c : Fin 16) (s : State), s.mayWrite r TWB_CMD_CLEAR.addr = true → ¬(let s := s.touch r; let s := s.set TWB_CMD_CH c.val;
    let st := s.chanState c.val; st = 3) → ¬(let s := s.touch r; let s := s.set TWB_CMD_CH c.val; let st := s.chanState c.val;
    st = 1 ∨ st = 2 ∨ st = 4) → exec (.twbReset r c) s = .next (let s := s.touch r; let s := s.set TWB_CMD_CH c.val; s)) ∧
  -- HN_FLUSH (R395)
  (∀ (r : Requester) (s : State), s.mayWrite r TWB_CMD_CLEAR.addr = true → exec (.hnFlush r) s = .next (let s := s.touch r;
    let s := { s with twb := { s.twb with notes := [] } }; s.set TWB_HN_STAT_COUNT s.twb.notes.length)) ∧
  -- HOST_NOTIFY (R383)
  (∀ (c : Fin 16) (addr : Fin 128) (data : BitVec 16) (run : NotifyRun) (s : State), (!s.on TWB_CFG_HN_EN ∨ !([1, 2].contains (s.chanState c.val)) ∨ !s.twbMay) →
    exec (.hostNotify c addr data run) s = .next s) ∧
  (∀ (c : Fin 16) (addr : Fin 128) (data : BitVec 16) (run : NotifyRun) (s : State), ¬(!s.on TWB_CFG_HN_EN ∨ !([1, 2].contains (s.chanState c.val)) ∨ !s.twbMay) →
    (run = .read) → exec (.hostNotify c addr data run) s = .next (let s := s.setChan c { s.chan c with busFree := false, busyAt := s.tick }; s)) ∧
  (∀ (c : Fin 16) (addr : Fin 128) (data : BitVec 16) (run : NotifyRun) (s : State) l, ¬(!s.on TWB_CFG_HN_EN ∨ !([1, 2].contains (s.chanState c.val)) ∨ !s.twbMay) →
    (run = .rest l) → (let s := s.setChan c { s.chan c with busFree := false, busyAt := s.tick }; 32 ≤ s.twb.notes.length) →
    exec (.hostNotify c addr data run) s = .next (let s := s.setChan c { s.chan c with busFree := false, busyAt := s.tick }; s.inc TWB_HN_STAT_OVF)) ∧
  (∀ (c : Fin 16) (addr : Fin 128) (data : BitVec 16) (run : NotifyRun) (s : State) l, ¬(!s.on TWB_CFG_HN_EN ∨ !([1, 2].contains (s.chanState c.val)) ∨ !s.twbMay) →
    (run = .rest l) → ¬(let s := s.setChan c { s.chan c with busFree := false, busyAt := s.tick }; 32 ≤ s.twb.notes.length) →
    ((let s := s.setChan c { s.chan c with busFree := false, busyAt := s.tick }; s.notifyPec c addr.val data.toNat l) = some true) →
    exec (.hostNotify c addr data run) s = .next (let s := s.setChan c { s.chan c with busFree := false, busyAt := s.tick };
    s.notifyTake c addr.val data.toNat)) ∧
  (∀ (c : Fin 16) (addr : Fin 128) (data : BitVec 16) (run : NotifyRun) (s : State) l, ¬(!s.on TWB_CFG_HN_EN ∨ !([1, 2].contains (s.chanState c.val)) ∨ !s.twbMay) →
    (run = .rest l) → ¬(let s := s.setChan c { s.chan c with busFree := false, busyAt := s.tick }; 32 ≤ s.twb.notes.length) →
    ((let s := s.setChan c { s.chan c with busFree := false, busyAt := s.tick }; s.notifyPec c addr.val data.toNat l) = some false) →
    exec (.hostNotify c addr data run) s = .next (let s := s.setChan c { s.chan c with busFree := false, busyAt := s.tick };
    (s.inc TWB_CH_ERRS_ERRORS c.val).inc TWB_PEC_CNT_PEC_ERR)) ∧
  (∀ (c : Fin 16) (addr : Fin 128) (data : BitVec 16) (run : NotifyRun) (s : State) l, ¬(!s.on TWB_CFG_HN_EN ∨ !([1, 2].contains (s.chanState c.val)) ∨ !s.twbMay) →
    (run = .rest l) → ¬(let s := s.setChan c { s.chan c with busFree := false, busyAt := s.tick }; 32 ≤ s.twb.notes.length) →
    ((let s := s.setChan c { s.chan c with busFree := false, busyAt := s.tick }; s.notifyPec c addr.val data.toNat l) = none) →
    exec (.hostNotify c addr data run) s = .next (let s := s.setChan c { s.chan c with busFree := false, busyAt := s.tick };
    s.inc TWB_CH_ERRS_ERRORS c.val)) ∧
  (∀ (c : Fin 16) (addr : Fin 128) (data : BitVec 16) (run : NotifyRun) (s : State), ¬(!s.on TWB_CFG_HN_EN ∨ !([1, 2].contains (s.chanState c.val)) ∨ !s.twbMay) →
    (run = .short) → (let s := s.setChan c { s.chan c with busFree := false, busyAt := s.tick }; 32 ≤ s.twb.notes.length) →
    exec (.hostNotify c addr data run) s = .next (let s := s.setChan c { s.chan c with busFree := false, busyAt := s.tick }; s.inc TWB_HN_STAT_OVF)) ∧
  (∀ (c : Fin 16) (addr : Fin 128) (data : BitVec 16) (run : NotifyRun) (s : State), ¬(!s.on TWB_CFG_HN_EN ∨ !([1, 2].contains (s.chanState c.val)) ∨ !s.twbMay) →
    (run = .short) → ¬(let s := s.setChan c { s.chan c with busFree := false, busyAt := s.tick }; 32 ≤ s.twb.notes.length) →
    exec (.hostNotify c addr data run) s = .next (let s := s.setChan c { s.chan c with busFree := false, busyAt := s.tick };
    s.inc TWB_CH_ERRS_ERRORS c.val)) ∧
  (∀ (c : Fin 16) (addr : Fin 128) (data : BitVec 16) (run : NotifyRun) (s : State), ¬(!s.on TWB_CFG_HN_EN ∨ !([1, 2].contains (s.chanState c.val)) ∨ !s.twbMay) →
    (run = .ackSlot) → (let s := s.setChan c { s.chan c with busFree := false, busyAt := s.tick }; 32 ≤ s.twb.notes.length) →
    exec (.hostNotify c addr data run) s = .next (let s := s.setChan c { s.chan c with busFree := false, busyAt := s.tick }; s.inc TWB_HN_STAT_OVF)) ∧
  (∀ (c : Fin 16) (addr : Fin 128) (data : BitVec 16) (run : NotifyRun) (s : State), ¬(!s.on TWB_CFG_HN_EN ∨ !([1, 2].contains (s.chanState c.val)) ∨ !s.twbMay) →
    (run = .ackSlot) → ¬(let s := s.setChan c { s.chan c with busFree := false, busyAt := s.tick }; 32 ≤ s.twb.notes.length) →
    exec (.hostNotify c addr data run) s = .next (let s := s.setChan c { s.chan c with busFree := false, busyAt := s.tick };
    let s := (s.inc TWB_ASV_CNT_ASV).putBack c; let forReq : Bool := false;
    (s.setChanState c 4).setChan c { s.chan c with forReq := forReq, busFree := false, busyAt := s.tick, clearAt := s.tick })) ∧
  (∀ (c : Fin 16) (addr : Fin 128) (data : BitVec 16) (s : State), s.on TWB_CFG_HN_EN = true → s.chanState c.val = 2 → s.twbMay = true →
  Runs (.hostNotify c addr data .read) s (fun t => (t.chan c).busFree = false ∧ (t.chan c).busyAt = s.tick ∧ t.mem = s.mem ∧ t.regs = s.regs))

/-- O39. The Catalogue: accession, polls and requests. Each of these commands completes, in every state and for every operand that meet the conditions of
the clause, which are conditions on them alone and are those of the rule named with it, and the next state is the one given, with the command's
own effect; the clauses take in every form of the command, among them the states in which the rule gives it nothing to do; of a command that
writes or reads a register they take in the accesses that R71 lets pass, and RefusedCommands says what one that is refused does:
ACCESSION_PASS_START (R401), XAC_PASS (R401), ACCESSION_PASS_DONE (R401), ENTRY_SILENT_TIMEOUT (R400), DEACCESSION_TIMEOUT (R400), DEACCEDE
(R400), POLL_DUE (R403), REQUEST_SUBMIT (R404), REQUEST_COMPLETE (R408), REQUEST_TIMEOUT (R407), HREQ_SUBMIT (R414), CATALOGUE_SCHEDULE_WRITE
(R397). -/
def Obligations.CatalogueCommands : Prop :=
  -- ACCESSION_PASS_START (R401)
  (∀ (s : State) t, (passDue s.twb.lastPass (1000000 * s.get XAC_CFG_PASS_S) s.tick = some t) → s.mayPass →
    exec .accessionPassStart s = .next (let s := { s with twb := { s.twb with lastPass := some t } };
    let s := { s with twb := { s.twb with passAt := some s.tick } };
    (s.each (List.finRange 16) (fun s c => let st := s.chanState c.val; s.setAcc c { todo := st != 0 && st != 5, phase := .idle })).accAdvance)) ∧
  (∀ (s : State) t, (passDue s.twb.lastPass (1000000 * s.get XAC_CFG_PASS_S) s.tick = some t) → ¬s.mayPass → exec .accessionPassStart s = .next s) ∧
  (∀ s : State, (passDue s.twb.lastPass (1000000 * s.get XAC_CFG_PASS_S) s.tick = none) → exec .accessionPassStart s = .next s) ∧
  -- XAC_PASS (R401)
  (∀ (r : Requester) (s : State), s.mayWrite r XAC_CMD_PASS.addr = true → (let s := s.touch r; s.mayPass) →
    exec (.xacPass r) s = .next (let s := s.touch r; let s := { s with twb := { s.twb with passAt := some s.tick } };
    (s.each (List.finRange 16) (fun s c => let st := s.chanState c.val; s.setAcc c { todo := st != 0 && st != 5, phase := .idle })).accAdvance)) ∧
  (∀ (r : Requester) (s : State), s.mayWrite r XAC_CMD_PASS.addr = true → ¬(let s := s.touch r; s.mayPass) →
    exec (.xacPass r) s = .next (let s := s.touch r; s)) ∧
  -- ACCESSION_PASS_DONE (R401)
  (∀ (bad : Unit) (s : State), (s.twb.passAt = none) → exec (.accessionPassDone bad) s = .next s) ∧
  (∀ (bad : Unit) (s : State) t, (s.twb.passAt = some t) → ((List.finRange 16).any (fun c => (s.acc c).todo)) →
    exec (.accessionPassDone bad) s = .next s) ∧
  (∀ (bad : Unit) (s : State) t, (s.twb.passAt = some t) → ¬((List.finRange 16).any (fun c => (s.acc c).todo)) →
    (let s := (s.inc XAC_ACC_STAT_PASSES).set XAC_ACC_STAT_LAST_MS (min ((s.tick - t + 999) / 1000) 65535);
    let s := { s with twb := { s.twb with passAt := none } }; s.twb.firstDone) →
    exec (.accessionPassDone bad) s = .next (let s := (s.inc XAC_ACC_STAT_PASSES).set XAC_ACC_STAT_LAST_MS (min ((s.tick - t + 999) / 1000) 65535);
    let s := { s with twb := { s.twb with passAt := none } }; s.settle)) ∧
  (∀ (bad : Unit) (s : State) t, (s.twb.passAt = some t) → ¬((List.finRange 16).any (fun c => (s.acc c).todo)) →
    ¬(let s := (s.inc XAC_ACC_STAT_PASSES).set XAC_ACC_STAT_LAST_MS (min ((s.tick - t + 999) / 1000) 65535);
    let s := { s with twb := { s.twb with passAt := none } }; s.twb.firstDone) →
    exec (.accessionPassDone bad) s = .next (let s := (s.inc XAC_ACC_STAT_PASSES).set XAC_ACC_STAT_LAST_MS (min ((s.tick - t + 999) / 1000) 65535);
    let s := { s with twb := { s.twb with passAt := none } }; s.firstPass.settle)) ∧
  (∀ (bad : Unit) (b : Nat) (s : State), s.twb.passAt = some b → (List.finRange 16).any (fun c => (s.acc c).todo) = false → s.twb.firstDone = true →
  Runs (.accessionPassDone bad) s (fun t => t.twb.passAt = none ∧ t.tick = s.tick ∧ t.mem = s.mem)) ∧
  -- ENTRY_SILENT_TIMEOUT (R400)
  (∀ (n : Fin 1024) (s : State), (let x := s.entAux n.val; s.entState n.val = 2 ∧ x.tried ∧ x.lastOk + 1000 * s.get XAC_CFG_SILENT_MS ≤ s.tick) →
    exec (.entrySilentTimeout n) s = .next (let x := s.entAux n.val;
    ((s.setEnt n.val 2 1 3).setEntAux n.val { x with silentAt := s.tick }).event .entrySilent (objRef 8 n.val))) ∧
  (∀ (n : Fin 1024) (s : State), ¬(let x := s.entAux n.val; s.entState n.val = 2 ∧ x.tried ∧ x.lastOk + 1000 * s.get XAC_CFG_SILENT_MS ≤ s.tick) →
    exec (.entrySilentTimeout n) s = .next s) ∧
  -- DEACCESSION_TIMEOUT (R400)
  (∀ (n : Fin 1024) (s : State), (s.boot.firmware ∧ s.entState n.val = 3 ∧ (s.entAux n.val).silentAt + 1000000 * s.get XAC_LIFE_DEACC_S ≤ s.tick) →
    ¬(let n : Nat := n.val; s.entState n = 0) → exec (.deaccessionTimeout n) s = .next (let n : Nat := n.val;
    let names := fun (q : Req) => q.segs.any (fun g => g.entry == some n);
    let s := s.each (s.twb.reqs.filter (fun q => names q && q.pending && !q.dead)) (fun s q => s.finish q { code := 19 });
    let s := s.setReqs (s.twb.reqs.map (fun q => if names q then { q with forced := some 19 } else q));
    let s := (match s.rectOf n with | some k => s.rectUnbind k true | none => s);
    let s := s.event .entryGone (objRef 8 n) ((s.entAddr n : Int) :: (s.entUdid n).map (fun b => (b.toNat : Int)));
    let s := (s.storedChange.slotEntry n false).setBytes (entryBase n) (List.replicate 128 0); (s.setEntAux n {}).settle)) ∧
  (∀ (n : Fin 1024) (s : State), ¬(s.boot.firmware ∧ s.entState n.val = 3 ∧ (s.entAux n.val).silentAt + 1000000 * s.get XAC_LIFE_DEACC_S ≤ s.tick) →
    exec (.deaccessionTimeout n) s = .next s) ∧
  -- DEACCEDE (R400)
  (∀ (r : Requester) (n : Fin 1024) (s : State), s.mayWrite r XAC_CMD_PASS.addr = true → exec (.deaccede r n) s = .next (let s := s.touch r;
    ((s.set XAC_CMD_ENTRY n.val).iff s.boot.firmware (fun s => s.deaccede n.val)).settle)) ∧
  -- POLL_DUE (R403)
  (∀ s : State, (s.tick % 1000 ≠ 0 ∨ !s.twbMay) → exec .pollDue s = .next s) ∧
  (∀ s : State, ¬(s.tick % 1000 ≠ 0 ∨ !s.twbMay) →
    exec .pollDue s = .next (s.each ((List.range 1024).filter (fun n => s.entState n != 0 && s.ownsEntry n)) (fun s n => s.each (List.range 8) (fun s i => let w := s.ent n (0x30 + 4 * i) 4; let proto := w / 256 % 16; let per := w / 65536; if proto = 0 ∨ 4 < proto ∨ per = 0 ∨ (s.tick / 1000 + n) % per ≠ 0 then s else (if s.held.any (fun q => q.by_ == .poll n i) then s.inc XAC_POLL_SKIP_COUNT else (let p : Proto := (match proto with | 1 => .readByte | 2 => .readWord | 3 => .read32 | _ => .blockRead); let q := s.reqTo n 4 (.poll n i) p (w % 256) [] 32 (w / 4096 % 2 == 1); match q.2.submit q.1 with | (none, s) => s | (some _, s) => s.inc XAC_POLL_SKIP_COUNT))) ))) ∧
  (∀ s : State, s.tick % 1000 = 0 → s.twbMay = true → Runs .pollDue s (fun t => t.tick = s.tick ∧ t.power = s.power ∧ t.pending = s.pending)) ∧
  -- REQUEST_SUBMIT (R404)
  (∀ (n : Fin 1024) (cls : Fin 6) (proto : Fin 14) (cmd : BitVec 16) (count : BitVec 8) (data : List Byte) (s : State), exec (.requestSubmit n cls proto cmd count data) s = .next ((s.entrySubmit n.val cls.val .policy proto.val cmd.toNat count.toNat (data.map BitVec.toNat)).2)) ∧
  -- REQUEST_COMPLETE (R408)
  (∀ s : State, (s.twb.reqs.find? (fun q => q.ended.isSome) = none) → exec .requestComplete s = .next s) ∧
  (∀ (s : State) q r, (s.twb.reqs.find? (fun q => q.ended.isSome) = some q) → (q.ended = some r) → (let s := s.complete q r;
    s.twb.passAt.isNone ∨ (List.finRange 16).any (fun c => (s.acc c).todo && (s.acc c).phase != .idle)) →
    exec .requestComplete s = .next (let s := s.complete q r; s.settle)) ∧
  (∀ (s : State) q r c, (s.twb.reqs.find? (fun q => q.ended.isSome) = some q) → (q.ended = some r) → ¬(let s := s.complete q r;
    s.twb.passAt.isNone ∨ (List.finRange 16).any (fun c => (s.acc c).todo && (s.acc c).phase != .idle)) →
    ((let s := s.complete q r; (List.finRange 16).find? (fun c => (s.acc c).todo && (s.acc c).phase == .idle)) = some c) → (let s := s.complete q r;
    let s := s.setAcc c { todo := true, phase := .idle }; s.bitOn TWB_ARP_CFG_ARP_EN c.val) →
    exec .requestComplete s = .next (let s := s.complete q r; let s := s.setAcc c { todo := true, phase := .idle };
    (s.accGo c .prepare none 0x61 0x01 .sendByte [] 0 true).settle)) ∧
  (∀ (s : State) q r c, (s.twb.reqs.find? (fun q => q.ended.isSome) = some q) → (q.ended = some r) → ¬(let s := s.complete q r;
    s.twb.passAt.isNone ∨ (List.finRange 16).any (fun c => (s.acc c).todo && (s.acc c).phase != .idle)) →
    ((let s := s.complete q r; (List.finRange 16).find? (fun c => (s.acc c).todo && (s.acc c).phase == .idle)) = some c) → ¬(let s := s.complete q r;
    let s := s.setAcc c { todo := true, phase := .idle }; s.bitOn TWB_ARP_CFG_ARP_EN c.val) →
    exec .requestComplete s = .next (let s := s.complete q r; let s := s.setAcc c { todo := true, phase := .idle }; (s.accProbe c 0).settle)) ∧
  (∀ (s : State) q r, (s.twb.reqs.find? (fun q => q.ended.isSome) = some q) → (q.ended = some r) → ¬(let s := s.complete q r;
    s.twb.passAt.isNone ∨ (List.finRange 16).any (fun c => (s.acc c).todo && (s.acc c).phase != .idle)) →
    ((let s := s.complete q r; (List.finRange 16).find? (fun c => (s.acc c).todo && (s.acc c).phase == .idle)) = none) →
    exec .requestComplete s = .next (let s := s.complete q r; s.settle)) ∧
  -- REQUEST_TIMEOUT (R407)
  (∀ s : State, (s.twb.reqs.find? (fun q => !q.dead && q.ended.isNone && decide (q.at_ + 1000 * s.get XAC_LIFE_XAC_TMO_MS ≤ s.tick)) = none) →
    exec .requestTimeout s = .next s) ∧
  (∀ (s : State) q, (s.twb.reqs.find? (fun q => !q.dead && q.ended.isNone && decide (q.at_ + 1000 * s.get XAC_LIFE_XAC_TMO_MS ≤ s.tick)) = some q) →
    exec .requestTimeout s = .next (let s := (if q.started then s.onReq q.id (fun q => { q with dead := true }) else s.dropReq q.id);
    ((s.deliver q { code := 20 }).accAdvance).settle)) ∧
  -- HREQ_SUBMIT (R414)
  (∀ (r : Requester) (w : Word) (s : State) row, s.mayWrite r XAC_HREQ_ENTRY.addr = true → (findRow XAC_HREQ_ENTRY.addr = some row) →
    (let al : Nat := 0; let w : Word := w ||| 0x80000000; al ≤ 1 ∧ bitIn w XAC_HREQ_SUBMIT) → exec (.hreqSubmit r w) s = .next (let s := s.touch r;
    let al : Nat := 0; let w : Word := w ||| 0x80000000; let src := s.srcOf r; let a := XAC_HREQ_ENTRY.addr;
    let s := (s.fieldsWrite r row a (homeOf src a) al w).1; s.hostSubmit src (s.reg (homeOf src a)))) ∧
  -- CATALOGUE_SCHEDULE_WRITE (R397)
  (∀ (r : Requester) (off : Fin 0x20000) (w : Word) (s : State), s.mayWrite r (0x380000 + off.val) = true → (scheduleOff off.val) → (let s := s.touch r;
    let off : Nat := off.val; s.entState (off / 0x80) = 0) → exec (.catalogueScheduleWrite r off w) s = .next (let s := s.touch r; s)) ∧
  (∀ (r : Requester) (off : Fin 0x20000) (w : Word) (s : State), s.mayWrite r (0x380000 + off.val) = true → (scheduleOff off.val) →
    ¬(let s := s.touch r; let off : Nat := off.val; s.entState (off / 0x80) = 0) → (let s := s.touch r; let off : Nat := off.val;
    let k : Nat := 0x380000 + off; s.overruled r k) → exec (.catalogueScheduleWrite r off w) s = .next (let s := s.touch r; s)) ∧
  (∀ (r : Requester) (off : Fin 0x20000) (w : Word) (s : State), s.mayWrite r (0x380000 + off.val) = true → (scheduleOff off.val) →
    ¬(let s := s.touch r; let off : Nat := off.val; s.entState (off / 0x80) = 0) →
    ¬(let s := s.touch r; let off : Nat := off.val; let k : Nat := 0x380000 + off; s.overruled r k) →
    exec (.catalogueScheduleWrite r off w) s = .next (let s := s.touch r; let off : Nat := off.val; let k : Nat := 0x380000 + off; let f := fun s => (s.store (0x380000 + off) w).storedChange; f (s.noteWrite r k))) ∧
  (∀ (r : Requester) (off : Fin 0x20000) (w : Word) (s : State), s.mayWrite r (0x380000 + off.val) = true → ¬(scheduleOff off.val) →
    exec (.catalogueScheduleWrite r off w) s = .next (let s := s.touch r; s.refuse r (0x380000 + off.val) .unmapped))

/-- O40. The black box. Each of these commands completes, in every state and for every operand that meet the conditions of the clause, which are
conditions on them alone and are those of the rule named with it, and the next state is the one given, with the command's own effect; the clauses
take in every form of the command, among them the states in which the rule gives it nothing to do; of a command that writes or reads a register
they take in the accesses that R71 lets pass, and RefusedCommands says what one that is refused does: BLACK_BOX_BLOCK (R421), BLACK_BOX_TRIGGER
(R428), BBX_TRIGGER_CMD (R424), PIN (R432), UNPIN (R432), DELETE (R432), POST_WINDOW_CLOSE (R426), STRATA_COMMIT_COMPLETE (R429). -/
def Obligations.BlackBoxCommands : Prop :=
  -- BLACK_BOX_BLOCK (R421)
  (∀ (x x : Unit) (copied : Nat) (s : State), (let s := s.copyTops copied; s.tick % 1000 ≠ 0 ∨ s.tick = 0 ∨ s.boot.g.isNone) →
    exec (.blackBoxBlock x x copied) s = .next (let s := s.copyTops copied; s)) ∧
  (∀ (x x : Unit) (copied : Nat) (s : State), ¬(let s := s.copyTops copied; s.tick % 1000 ≠ 0 ∨ s.tick = 0 ∨ s.boot.g.isNone) →
    (let s := s.copyTops copied; !s.on BBX_CTRL_EN ∨ s.bbx.cur.isEmpty) → exec (.blackBoxBlock x x copied) s = .next (let s := s.copyTops copied;
    s.iff (s.tick % 100000 = 0) (fun s => { s with bbx := { s.bbx with env := [] } }))) ∧
  (∀ (x x : Unit) (copied : Nat) (s : State), ¬(let s := s.copyTops copied; s.tick % 1000 ≠ 0 ∨ s.tick = 0 ∨ s.boot.g.isNone) →
    ¬(let s := s.copyTops copied; !s.on BBX_CTRL_EN ∨ s.bbx.cur.isEmpty) → exec (.blackBoxBlock x x copied) s = .next (let s := s.copyTops copied;
    s.topsoilOut.iff (s.tick % 100000 = 0) State.subsoilOut)) ∧
  -- BLACK_BOX_TRIGGER (R428)
  (∀ (src : Fin 32) (fine : Fin 64) (s : State), exec (.blackBoxTrigger src fine) s = .next (s.triggerAt src.val (s.fineOf fine.val) s.tick)) ∧
  (∀ (src : Fin 32) (fine : Fin 64) (s : State), ((s.inc BBX_CNT_TRIGGERS).windowsEnd).triggerEnabled src.val = false →
    exec (.blackBoxTrigger src fine) s = .next ((s.inc BBX_CNT_TRIGGERS).windowsEnd)) ∧
  (∀ (src : Fin 32) (fine : Fin 64) (s : State), (let s := (s.inc BBX_CNT_TRIGGERS).windowsEnd; !s.triggerEnabled src.val || !s.on BBX_CTRL_EN || s.boot.g.isNone) = false →
    (s.inc BBX_CNT_TRIGGERS).windowsEnd.bbx.recs = [] → exec (.blackBoxTrigger src fine) s = .next (let f := s.fineOf fine.val; let t := s.tick;
    let s := (s.inc BBX_CNT_TRIGGERS).windowsEnd;
    let s := (((s.set BBX_TRIG_LAST_SOURCE src.val).set BBX_TRIG_LAST_FINE f).set BBX_TRIG_LAST_JOINED 0).set BBX_TRIG_TICK_TICK t;
    s.openRecord src.val f t)) ∧
  -- BBX_TRIGGER_CMD (R424)
  (∀ (r : Requester) (s : State), s.mayWrite r BBX_CMD_TRIGGER.addr = true → exec (.bbxTriggerCmd r) s = .next (let s := s.touch r; s.trigger 1)) ∧
  -- PIN (R432)
  (∀ (r : Requester) (k : Fin 16) (s : State), s.mayWrite r BBX_CMD_PIN.addr = true → (let s := s.touch r; let e := s.bbx.dir.get k; e.pinned) →
    exec (.pin r k) s = .next (let s := s.touch r; s)) ∧
  (∀ (r : Requester) (k : Fin 16) (s : State), s.mayWrite r BBX_CMD_PIN.addr = true → ¬(let s := s.touch r; let e := s.bbx.dir.get k; e.pinned) →
    (let s := s.touch r; let e := s.bbx.dir.get k; let pinned := ((List.finRange 16).filter (fun r => (s.bbx.dir.get r).pinned)).length;
    2 ≤ e.state ∧ pinned < 4) → exec (.pin r k) s = .next (let s := s.touch r; let e := s.bbx.dir.get k;
    let pinned := ((List.finRange 16).filter (fun r => (s.bbx.dir.get r).pinned)).length;
    { s with bbx := { s.bbx with dir := s.bbx.dir.set k { e with pinned := true } } })) ∧
  (∀ (r : Requester) (k : Fin 16) (s : State), s.mayWrite r BBX_CMD_PIN.addr = true → ¬(let s := s.touch r; let e := s.bbx.dir.get k; e.pinned) →
    ¬(let s := s.touch r; let e := s.bbx.dir.get k; let pinned := ((List.finRange 16).filter (fun r => (s.bbx.dir.get r).pinned)).length;
    2 ≤ e.state ∧ pinned < 4) → exec (.pin r k) s = .next (let s := s.touch r; s.event .pinRefused 0 [k.val])) ∧
  -- UNPIN (R432)
  (∀ (r : Requester) (k : Fin 16) (s : State), s.mayWrite r BBX_CMD_UNPIN.addr = true → exec (.unpin r k) s = .next (let s := s.touch r;
    { s with bbx := { s.bbx with dir := s.bbx.dir.set k { s.bbx.dir.get k with pinned := false } } })) ∧
  -- DELETE (R432)
  (∀ (r : Requester) (k : Fin 16) (s : State), s.mayCommand r BBX_CMD_DELETE.addr .curator = true → (let s := s.touch r; (s.bbx.dir.get k).state = 1) →
    exec (.delete r k) s = .next (let s := s.touch r; s.event .deleteRefused 0 [k.val])) ∧
  (∀ (r : Requester) (k : Fin 16) (s : State), s.mayCommand r BBX_CMD_DELETE.addr .curator = true → ¬(let s := s.touch r; (s.bbx.dir.get k).state = 1) →
    exec (.delete r k) s = .next (let s := s.touch r; let r : Fin 16 := k; { s with bbx := { s.bbx with dir := s.bbx.dir.set r {} } })) ∧
  -- POST_WINDOW_CLOSE (R426)
  (∀ s : State, exec .postWindowClose s = .next (let p := fun r => decide (1000 * (r.t / 1000 + 51) ≤ s.tick);
    { s with bbx := { s.bbx with recs := s.bbx.recs.map (fun r => if p r then { r with window := false } else r) } })) ∧
  -- STRATA_COMMIT_COMPLETE (R429)
  (∀ s : State, s.bbx.recs = [] → exec .strataCommitComplete s = .next s) ∧
  (∀ (s : State) r l, s.bbx.recs = r :: l → (r.window ∨ (s.tick < 100000 * (r.t / 100000 + 1) ∧ s.power ≠ .ship)) →
    exec .strataCommitComplete s = .next s) ∧
  (∀ (s : State) r l r1 l1, s.bbx.recs = r :: l → ¬(r.window ∨ (s.tick < 100000 * (r.t / 100000 + 1) ∧ s.power ≠ .ship)) →
    (s.copyTops 251).bbx.recs = r1 :: l1 → exec .strataCommitComplete s = .next ((s.copyTops 251).commitComplete r1))

/-- O41. The event recorder. Each of these commands completes, in every state and for every operand that meet the conditions of the clause, which are
conditions on them alone and are those of the rule named with it, and the next state is the one given, with the command's own effect; the clauses
take in every form of the command, among them the states in which the rule gives it nothing to do; of a command that writes or reads a register
they take in the accesses that R71 lets pass, and RefusedCommands says what one that is refused does: EVENT_RECORD (R443), WAITING_RECORD_QUEUED
(R623), LOSS_SUMMARY_QUEUED (R443), EVENT_DRAIN (R445), BUCKET_REFILL (R447), SUPPRESSION_WINDOW_END (R448), RL_CFG_WRITE (R447), EVR_HEAD_READ
(R449), CLEAR (R451), INJECT (R455), TIME_SAVE (R441). -/
def Obligations.RecorderCommands : Prop :=
  -- EVENT_RECORD (R443)
  (∀ (w : RecordFrom) (s : State) i, (w = .made i) → (!s.evr.loaded) → exec (.eventRecord w) s = .next s) ∧
  (∀ (w : RecordFrom) (s : State) i, (w = .made i) → ¬(!s.evr.loaded) → (s.made[i]? = none) → exec (.eventRecord w) s = .next s) ∧
  (∀ (w : RecordFrom) (s : State) i m, (w = .made i) → ¬(!s.evr.loaded) → (s.made[i]? = some m) → (m.ev = .shelfState ∧ m.tick = s.tick) →
    exec (.eventRecord w) s = .next s) ∧
  (∀ (w : RecordFrom) (s : State) i m, (w = .made i) → ¬(!s.evr.loaded) → (s.made[i]? = some m) → ¬(m.ev = .shelfState ∧ m.tick = s.tick) →
    exec (.eventRecord w) s = .next (({ s with made := s.made.eraseIdx i }).recordIn (s.recordOf m))) ∧
  (∀ (w : RecordFrom) (s : State) code payload cause, (w = .policy code payload cause) → (Config.codeDefined code.toNat) →
    exec (.eventRecord w) s = .next (s.recordIn (s.record code.toNat (codeSev code.toNat) (codeClass code.toNat) ((payload ++ List.replicate 12 0).take 12) cause))) ∧
  (∀ (w : RecordFrom) (s : State) code payload cause, (w = .policy code payload cause) → ¬(Config.codeDefined code.toNat) →
    exec (.eventRecord w) s = .next s) ∧
  -- WAITING_RECORD_QUEUED (R623)
  (∀ s : State, exec .waitingRecordQueued s = .next (let n := min s.freePlaces s.evr.waiting.length;
    ({ s with evr := { s.evr with waiting := s.evr.waiting.drop n } }).each (s.evr.waiting.take n) (fun s r => s.enqueue r))) ∧
  -- LOSS_SUMMARY_QUEUED (R443)
  (∀ s : State, (256 < s.freePlaces) →
    exec .lossSummaryQueued s = .next (let report (e : Ev) (d : Drops) (s : State) : State := s.recordOwn e [d.count, d.first % 2 ^ 32, d.last % 2 ^ 32];
    let s := s.iff (0 < s.evr.dropTrace.count) (fun s => let s' := report .traceGap s.evr.dropTrace s; { s' with evr := { s'.evr with dropTrace := {} } }) ;
    s.iff (0 < s.evr.dropEvent.count) (fun s => let s' := report .eventLoss s.evr.dropEvent s; { s' with evr := { s'.evr with dropEvent := {} } }))) ∧
  (∀ s : State, ¬(256 < s.freePlaces) → exec .lossSummaryQueued s = .next s) ∧
  (∀ s : State, 256 < s.freePlaces → s.evr.dropTrace.count = 0 → 0 < s.evr.dropEvent.count → Runs .lossSummaryQueued s (fun t =>
  t.evr.dropEvent.count = 0 ∧ t.tick = s.tick)) ∧
  -- EVENT_DRAIN (R445)
  (∀ s : State, (s.evr.queue = []) → exec .eventDrain s = .next s) ∧
  (∀ (s : State) r rest, (s.evr.queue = r :: rest) → s.boot.g.isNone → exec .eventDrain s = .next s) ∧
  (∀ (s : State) r rest, (s.evr.queue = r :: rest) → ¬s.boot.g.isNone → (s.nvm.strata || s.nvm.bake.isSome) →
    exec .eventDrain s = .next ({ s with evr := { s.evr with stalledSince := some (s.evr.stalledSince.getD s.tick) } })) ∧
  (∀ (s : State) r rest, (s.evr.queue = r :: rest) → ¬s.boot.g.isNone → ¬(s.nvm.strata || s.nvm.bake.isSome) →
    exec .eventDrain s = .next (let stall := (match s.evr.stalledSince with | none => s | some t => ((s.maxOf NVM_PORT_MAX_WAIT_US (s.tick - t)).set EVR_STALL_LAST_MS (min ((s.tick - t) / 1000) 65535)).maxOf EVR_STALL_MAX_MS ((s.tick - t) / 1000));
    let s := { stall with evr := { stall.evr with queue := rest, stalledSince := none } };
    ((s.ringWrite r).set EVR_WRITTEN_SEQ r.seq).incWrap EVR_WRITE_CNT_COUNT |>.set EVR_QUEUE_FILL rest.length)) ∧
  -- BUCKET_REFILL (R447)
  (∀ s : State, (let n := s.tick / 1000 - s.evr.refilled; n = 0) → exec .bucketRefill s = .next s) ∧
  (∀ s : State, ¬(let n := s.tick / 1000 - s.evr.refilled; n = 0) → exec .bucketRefill s = .next (let n := s.tick / 1000 - s.evr.refilled;
    { s with evr := { s.evr with refilled := s.tick / 1000, buckets := s.evr.buckets.map (fun b => b.refill n), shared := s.sharedBucket.refill n } })) ∧
  -- SUPPRESSION_WINDOW_END (R448)
  (∀ s : State, (s.tick / 1000000 = s.evr.window) → exec .suppressionWindowEnd s = .next s) ∧
  (∀ s : State, ¬(s.tick / 1000000 = s.evr.window) →
    exec .suppressionWindowEnd s = .next ((({ s with evr := { s.evr with window := s.tick / 1000000 } }).each (List.finRange 256) (fun s i => s.summarise i)).summariseShared)) ∧
  -- RL_CFG_WRITE (R447)
  (∀ (r : Requester) (w : Word) (s : State), s.mayWrite r EVR_RL_CFG_CODE.addr = true → (let s := s.touch r; let k : Nat := EVR_RL_CFG_CODE.addr;
    s.overruled r k) → exec (.rlCfgWrite r w) s = .next (let s := s.touch r; s)) ∧
  (∀ (r : Requester) (w : Word) (s : State), s.mayWrite r EVR_RL_CFG_CODE.addr = true →
    ¬(let s := s.touch r; let k : Nat := EVR_RL_CFG_CODE.addr; s.overruled r k) →
    exec (.rlCfgWrite r w) s = .next (let s := s.touch r; let k : Nat := EVR_RL_CFG_CODE.addr; let f := fun s => let i := s.rlIndex; let s := s.storedChange.summarise i; let s := { s with evr := { s.evr with buckets := s.evr.buckets.set i ((s.evr.buckets.get i).write w) } }; let s := s.iff (bitsOf w 16 8 == 0) (fun s => s.event .fieldRefused 0 [EVR_RL_CFG_RATE.addr, EVR_RL_CFG_RATE.lo]); s.iff (bitsOf w 24 8 == 0) (fun s => s.event .fieldRefused 0 [EVR_RL_CFG_BURST.addr, EVR_RL_CFG_BURST.lo]); f (s.noteWrite r k))) ∧
  -- EVR_HEAD_READ (R449)
  (∀ (r : Requester) (s : State), s.mayRead r EVR_HEAD_SEQ.addr = true → exec (.evrHeadRead r) s = .next (let s := s.touch r;
    let src : Src := s.srcOf r;
    ((s.set (latchField src EVR_TAIL_SEQ) (s.get EVR_TAIL_SEQ)).set (latchField src EVR_WRITTEN_SEQ) (s.get EVR_WRITTEN_SEQ)).reply [s.get EVR_HEAD_SEQ])) ∧
  -- CLEAR (R451)
  (∀ (r : Requester) (s : State), s.mayCommand r EVR_CMD_CLEAR.addr .curator = true → (let s := s.touch r;
    let q := s.get (srcField (s.srcOf r) EVR_CLEAR_SEQ_SEQ); q = s.get EVR_HEAD_SEQ) → exec (.clear r) s = .next (let s := s.touch r;
    let q := s.get (srcField (s.srcOf r) EVR_CLEAR_SEQ_SEQ); let n : Nat := (q + 1 + 2 ^ 32 - s.get EVR_TAIL_SEQ) % 2 ^ 32;
    let s' := { s with evr := { s.evr with queue := [] } }; let s' := s'.set EVR_TAIL_SEQ (q + 1);
    let port := (match s.srcOf r with | .eth0 => 1 | .eth1 => 2 | _ => 0);
    let s' := s'.enqueue (s'.recordOf { ev := .cleared, obj := 0, data := [(q : Int), s.slotOf r, port, n], tick := s.tick });
    (s'.inc EVR_CLEAR_STAT_CLEARS).set EVR_CLEAR_LAST_SEQ (q + 1))) ∧
  (∀ (r : Requester) (s : State), s.mayCommand r EVR_CMD_CLEAR.addr .curator = true → ¬(let s := s.touch r;
    let q := s.get (srcField (s.srcOf r) EVR_CLEAR_SEQ_SEQ); q = s.get EVR_HEAD_SEQ) → exec (.clear r) s = .next (let s := s.touch r;
    let q := s.get (srcField (s.srcOf r) EVR_CLEAR_SEQ_SEQ); let e : Ev := .clearRefused; let data : List Int := [q, s.get EVR_HEAD_SEQ];
    let s := s.inc EVR_CLEAR_STAT_REFUSED; s.flushWaiting.admitOwn (s.recordOf { ev := e, obj := 0, data := data, tick := s.tick }))) ∧
  -- INJECT (R455)
  (∀ (r : Requester) (s : State), s.mayCommand r EVR_CMD_INJECT.addr .conservator = true → exec (.inject r) s = .next (let s := s.touch r;
    let payload := ((List.range 3).map (fun k => leBytes 4 (s.get EVR_INJ_DATA_DATA k))).flatten;
    s.recordIn (s.record (s.get EVR_INJ_CODE_CODE) (s.get EVR_INJ_CODE_SEV) 0 payload s.tick))) ∧
  -- TIME_SAVE (R441)
  (∀ s : State, (s.tick % 10000000 = 0) → exec .timeSave s = .next (let pcycle : Nat := s.get TB_PCYCLE_COUNT; let opTime : Nat := s.opTimeAt s.tick;
    let ship : Nat := s.boot.shipTime; let seq := s.evr.saveSeq + 1; let ws := toWords (timeRecord seq pcycle opTime ship);
    let s := (s.countersWrite (0xFC0000 + 0x20 * (seq % 16)) ws).countersWrite (0xFC0200 + 0x20 * (seq % 16)) ws;
    { (s.incWrap TB_CNT_SAVES_COUNT) with evr := { s.evr with saveSeq := seq } })) ∧
  (∀ s : State, ¬(s.tick % 10000000 = 0) → exec .timeSave s = .next s)

/-- O42. The frames of the Helkar link. Each of these commands completes, in every state and for every operand that meet the conditions of the clause,
which are conditions on them alone and are those of the rule named with it, and the next state is the one given, with the command's own effect;
the clauses take in every form of the command, among them the states in which the rule gives it nothing to do; of a command that writes or reads
a register they take in the accesses that R71 lets pass, and RefusedCommands says what one that is refused does: BEACON_SEND (R463), LOOP_SEND
(R463), BEACON (R465), ACK (R463), NAK (R467), OBJECT (R466), LOOP (R469), CONFIG (R467), ESTIMATOR (R466), CATALOGUE (R466), COMMAND (R467),
BULK (R478). -/
def Obligations.PairFrames : Prop :=
  -- BEACON_SEND (R463)
  (∀ s : State, (s.inPair && s.sdGood && s.boot.g.isSome && decide (s.pairTick % 10 = 0)) → exec .beaconSend s = .next (let type : Nat := 0x01;
    let flags : Nat := 0; let payload : Option (List Byte) := some (s.beaconBytes (s.pairFine 0 % 50).toNat);
    let frame := (match payload with | some p => s.frameBytes type flags s.hlk.txSeq p | none => []); let s := s.incWrap HLK_TX_CNT_FRAMES;
    { s with hlk := { s.hlk with txSeq := (s.hlk.txSeq + 1) % 2 ^ 32, frame := frame } })) ∧
  (∀ s : State, ¬(s.inPair && s.sdGood && s.boot.g.isSome && decide (s.pairTick % 10 = 0)) → exec .beaconSend s = .next s) ∧
  (∀ s : State, s.inPair = true → s.sdGood = true → s.boot.g.isSome = true → s.pairTick % 10 = 0 → Runs .beaconSend s (fun t =>
  t.hlk.frame = s.frameBytes 0x01 0 s.hlk.txSeq (s.beaconBytes (s.pairFine 0 % 50).toNat) ∧ t.hlk.txSeq = (s.hlk.txSeq + 1) % 2 ^ 32 ∧
  t.regs = (s.incWrap HLK_TX_CNT_FRAMES).regs ∧ t.mem = s.mem)) ∧
  -- LOOP_SEND (R463)
  (∀ s : State, (s.mirrors 1 && s.on HLK_STATE_PRIMARY && decide (s.pairTick % 100 = 0)) → exec .loopSend s = .next (let l := s.loopSlots;
    let t := s.frameSent 0x11 0 (some (l.map s.loopBytes).flatten);
    { t with hlk := { t.hlk with loopNext := match l.getLast? with | some n => (n.val + 1) % 64 | none => 0 } })) ∧
  (∀ s : State, ¬(s.mirrors 1 && s.on HLK_STATE_PRIMARY && decide (s.pairTick % 100 = 0)) → exec .loopSend s = .next s) ∧
  (∀ s : State, s.mirrors 1 = true → s.on HLK_STATE_PRIMARY = true → s.pairTick % 100 = 0 → Runs .loopSend s (fun t =>
  t.hlk.frame = s.frameBytes 0x11 0 s.hlk.txSeq (s.loopSlots.map s.loopBytes).flatten ∧ t.hlk.txSeq = (s.hlk.txSeq + 1) % 2 ^ 32 ∧
  t.regs = (s.incWrap HLK_TX_CNT_FRAMES).regs ∧ t.mem = s.mem)) ∧
  -- BEACON (R465)
  (∀ (h : FrameHead) (b : Beacon) (s : State), exec (.pairBeacon h b) s = .next ((s.frameIn h false (fun s => s.beaconIn h b)).settle)) ∧
  (∀ (h : FrameHead) (b : Beacon) (s : State), s.inPair = true → s.sdGood = true → h.crcOk = false →
    exec (.pairBeacon h b) s = .next (((s.inc HLK_LINK_ERR_CRC).nakSent h.seq.toNat 1).settle)) ∧
  (∀ (h : FrameHead) (b : Beacon) (s : State), s.inPair = true → s.sdGood = true → h.crcOk = true →
    exec (.pairBeacon h b) s = .next (let s := s.incWrap HLK_RX_CNT_FRAMES; (s.beaconIn h b).settle)) ∧
  -- ACK (R463)
  (∀ (h : FrameHead) (upto : Word) (s : State), exec (.pairAck h upto) s = .next (s.frameIn h false (fun s => let gone := s.hlk.unacked.filter (fun f => seqUpTo f.seq upto.toNat); let s := { s with hlk := { s.hlk with unacked := s.hlk.unacked.filter (fun f => !seqUpTo f.seq upto.toNat) } }; s.resyncAcked (gone.filter (fun f => match f.body with | .bulk _ => true | _ => false)).length))) ∧
  (∀ (h : FrameHead) (upto : Word) (s : State), s.inPair = true → s.sdGood = true → h.crcOk = true →
  Runs (.pairAck h upto) s (fun t => t.tick = s.tick ∧ t.power = s.power)) ∧
  (∀ (h : FrameHead) (upto : Word) (s : State), s.inPair = true → s.sdGood = true → h.crcOk = false →
    exec (.pairAck h upto) s = .next (((s.inc HLK_LINK_ERR_CRC).nakSent h.seq.toNat 1))) ∧
  (∀ (h : FrameHead) (upto : Word) (s : State), s.inPair = true → s.sdGood = true → h.crcOk = true →
    exec (.pairAck h upto) s = .next (let s := s.incWrap HLK_RX_CNT_FRAMES; let gone := s.hlk.unacked.filter (fun f => seqUpTo f.seq upto.toNat);
    let s := { s with hlk := { s.hlk with unacked := s.hlk.unacked.filter (fun f => !seqUpTo f.seq upto.toNat) } };
    s.resyncAcked (gone.filter (fun f => match f.body with | .bulk _ => true | _ => false)).length)) ∧
  -- NAK (R467)
  (∀ (h : FrameHead) (seq : Word) (reason : Fin 256) (s : State), exec (.pairNak h seq reason) s = .next ((s.frameIn h false (fun s => let s := (s.inc (if reason.val = 2 then HLK_NAK_LOCKED else HLK_NAK_OTHER)).event .pairNak 0 [seq.toNat, reason.val]; let s := { s with hlk := { s.hlk with stableSince := s.tick } }; if reason.val = 2 ∨ reason.val = 3 then ({ s with hlk := { s.hlk with nakHold := true } }).setB HLK_STAT_CFG_DIVERGED true else s)).settle)) ∧
  (∀ (h : FrameHead) (seq : Word) (reason : Fin 256) (s : State), s.inPair = true → s.sdGood = true → h.crcOk = false →
    exec (.pairNak h seq reason) s = .next (((s.inc HLK_LINK_ERR_CRC).nakSent h.seq.toNat 1).settle)) ∧
  (∀ (h : FrameHead) (seq : Word) (reason : Fin 256) (s : State), s.inPair = true → s.sdGood = true → h.crcOk = true →
    exec (.pairNak h seq reason) s = .next (let s := s.incWrap HLK_RX_CNT_FRAMES;
    (let s := (s.inc (if reason.val = 2 then HLK_NAK_LOCKED else HLK_NAK_OTHER)).event .pairNak 0 [seq.toNat, reason.val]; let s := { s with hlk := { s.hlk with stableSince := s.tick } }; (if reason.val = 2 ∨ reason.val = 3 then ({ s with hlk := { s.hlk with nakHold := true } }).setB HLK_STAT_CFG_DIVERGED true else s)).settle)) ∧
  -- OBJECT (R466)
  (∀ (h : FrameHead) (l : List ObjRecord) (s : State), exec (.pairObject h l) s = .next (s.frameIn h true (fun s => s.iff (s.mirrors 0) (fun s => s.applyObjects l)))) ∧
  (∀ (h : FrameHead) (l : List ObjRecord) (s : State), s.inPair = true → s.sdGood = true → h.crcOk = false →
    exec (.pairObject h l) s = .next (((s.inc HLK_LINK_ERR_CRC).nakSent h.seq.toNat 1))) ∧
  (∀ (h : FrameHead) (l : List ObjRecord) (s : State), s.inPair = true → s.sdGood = true → h.crcOk = true →
    (s.incWrap HLK_RX_CNT_FRAMES).linkUp = true → h.inOrder = true →
    (∀ q, s.hlk.rxSeq = some q → seqUpTo h.seq.toNat q = false) →
    exec (.pairObject h l) s = .next (let t := (let s := { s.incWrap HLK_RX_CNT_FRAMES with hlk := { s.hlk with rxSeq := some h.seq.toNat } }; s.iff (s.mirrors 0) (fun s => s.applyObjects l));
    t.ackSent)) ∧
  (∀ (h : FrameHead) (l : List ObjRecord) (s : State), s.inPair = true → s.sdGood = true → h.crcOk = true →
    (s.incWrap HLK_RX_CNT_FRAMES).linkUp = true → (∃ q, s.hlk.rxSeq = some q ∧ seqUpTo h.seq.toNat q = true) →
    exec (.pairObject h l) s = .next ((s.incWrap HLK_RX_CNT_FRAMES).ackSent)) ∧
  -- LOOP (R469)
  (∀ (h : FrameHead) (l : List LoopRecord) (s : State), exec (.pairLoop h l) s = .next (s.frameIn h false (fun s => if s.linkUp && s.mirrors 1 then s.each l State.loopIn else s))) ∧
  (∀ (h : FrameHead) (l : List LoopRecord) (s : State), s.inPair = true → s.sdGood = true → h.crcOk = false →
    exec (.pairLoop h l) s = .next (((s.inc HLK_LINK_ERR_CRC).nakSent h.seq.toNat 1))) ∧
  (∀ (h : FrameHead) (l : List LoopRecord) (s : State), s.inPair = true → s.sdGood = true → h.crcOk = true →
    exec (.pairLoop h l) s = .next (let s := s.incWrap HLK_RX_CNT_FRAMES; (if s.linkUp && s.mirrors 1 then s.each l State.loopIn else s))) ∧
  -- CONFIG (R467)
  (∀ (h : FrameHead) (addr : BitVec 24) (fromB : Bool) (value : Word) (stamp : BitVec 64) (s : State), exec (.pairConfig h addr fromB value stamp) s = .next (s.frameIn h true (fun s => s.iff (s.mirrors 2) (fun s => let p := s.flushConfig.applyConfig addr.toNat value stamp.toNat; p.1.refused h p.2)))) ∧
  (∀ (h : FrameHead) (addr : BitVec 24) (fromB : Bool) (value : Word) (stamp : BitVec 64) (s : State), s.inPair = true → s.sdGood = true →
    h.crcOk = false → exec (.pairConfig h addr fromB value stamp) s = .next (((s.inc HLK_LINK_ERR_CRC).nakSent h.seq.toNat 1))) ∧
  (∀ (h : FrameHead) (addr : BitVec 24) (fromB : Bool) (value : Word) (stamp : BitVec 64) (s : State), s.inPair = true → s.sdGood = true →
    h.crcOk = true → (s.incWrap HLK_RX_CNT_FRAMES).linkUp = true → h.inOrder = true →
    (∀ q, s.hlk.rxSeq = some q → seqUpTo h.seq.toNat q = false) →
    exec (.pairConfig h addr fromB value stamp) s = .next (let t := (let s := { s.incWrap HLK_RX_CNT_FRAMES with hlk := { s.hlk with rxSeq := some h.seq.toNat } }; s.iff (s.mirrors 2) (fun s => let p := s.flushConfig.applyConfig addr.toNat value stamp.toNat; p.1.refused h p.2) );
    t.ackSent)) ∧
  (∀ (h : FrameHead) (addr : BitVec 24) (fromB : Bool) (value : Word) (stamp : BitVec 64) (s : State), s.inPair = true → s.sdGood = true →
    h.crcOk = true → (s.incWrap HLK_RX_CNT_FRAMES).linkUp = true → (∃ q, s.hlk.rxSeq = some q ∧ seqUpTo h.seq.toNat q = true) →
    exec (.pairConfig h addr fromB value stamp) s = .next ((s.incWrap HLK_RX_CNT_FRAMES).ackSent)) ∧
  -- ESTIMATOR (R466)
  (∀ (h : FrameHead) (l : List EstRecord) (s : State), exec (.pairEstimator h l) s = .next (s.frameIn h true (fun s => s.iff (s.mirrors 3) (fun s => s.applyEsts l)))) ∧
  (∀ (h : FrameHead) (l : List EstRecord) (s : State), s.inPair = true → s.sdGood = true → h.crcOk = false →
    exec (.pairEstimator h l) s = .next (((s.inc HLK_LINK_ERR_CRC).nakSent h.seq.toNat 1))) ∧
  (∀ (h : FrameHead) (l : List EstRecord) (s : State), s.inPair = true → s.sdGood = true → h.crcOk = true →
    (s.incWrap HLK_RX_CNT_FRAMES).linkUp = true → h.inOrder = true →
    (∀ q, s.hlk.rxSeq = some q → seqUpTo h.seq.toNat q = false) →
    exec (.pairEstimator h l) s = .next (let t := (let s := { s.incWrap HLK_RX_CNT_FRAMES with hlk := { s.hlk with rxSeq := some h.seq.toNat } }; s.iff (s.mirrors 3) (fun s => s.applyEsts l));
    t.ackSent)) ∧
  (∀ (h : FrameHead) (l : List EstRecord) (s : State), s.inPair = true → s.sdGood = true → h.crcOk = true →
    (s.incWrap HLK_RX_CNT_FRAMES).linkUp = true → (∃ q, s.hlk.rxSeq = some q ∧ seqUpTo h.seq.toNat q = true) →
    exec (.pairEstimator h l) s = .next ((s.incWrap HLK_RX_CNT_FRAMES).ackSent)) ∧
  -- CATALOGUE (R466)
  (∀ (h : FrameHead) (l : List CatRecord) (s : State), exec (.pairCatalogue h l) s = .next ((s.frameIn h true (fun s => s.iff (s.mirrors 4) (fun s => s.applyCats l))).settle)) ∧
  (∀ (h : FrameHead) (l : List CatRecord) (s : State), s.inPair = true → s.sdGood = true → h.crcOk = false →
    exec (.pairCatalogue h l) s = .next (((s.inc HLK_LINK_ERR_CRC).nakSent h.seq.toNat 1).settle)) ∧
  (∀ (h : FrameHead) (l : List CatRecord) (s : State), s.inPair = true → s.sdGood = true → h.crcOk = true →
    (s.incWrap HLK_RX_CNT_FRAMES).linkUp = true → h.inOrder = true →
    (∀ q, s.hlk.rxSeq = some q → seqUpTo h.seq.toNat q = false) →
    exec (.pairCatalogue h l) s = .next (let t := (let s := { s.incWrap HLK_RX_CNT_FRAMES with hlk := { s.hlk with rxSeq := some h.seq.toNat } }; s.iff (s.mirrors 4) (fun s => s.applyCats l));
    t.ackSent.settle)) ∧
  (∀ (h : FrameHead) (l : List CatRecord) (s : State), s.inPair = true → s.sdGood = true → h.crcOk = true →
    (s.incWrap HLK_RX_CNT_FRAMES).linkUp = true → (∃ q, s.hlk.rxSeq = some q ∧ seqUpTo h.seq.toNat q = true) →
    exec (.pairCatalogue h l) s = .next ((s.incWrap HLK_RX_CNT_FRAMES).ackSent.settle)) ∧
  -- COMMAND (R467)
  (∀ (h : FrameHead) (code : Byte) (s : State), exec (.pairCommand h code) s = .next ((s.frameIn h true (fun s => s.iff (s.mirrors 2) (fun s => if code = 1 then s.bakeCmd .partner else if code = 2 then s.commitCmd else s))).settle)) ∧
  (∀ (h : FrameHead) (code : Byte) (s : State), s.inPair = true → s.sdGood = true → h.crcOk = false →
    exec (.pairCommand h code) s = .next (((s.inc HLK_LINK_ERR_CRC).nakSent h.seq.toNat 1).settle)) ∧
  (∀ (h : FrameHead) (code : Byte) (s : State), s.inPair = true → s.sdGood = true → h.crcOk = true → (s.incWrap HLK_RX_CNT_FRAMES).linkUp = true → h.inOrder = true →
    (∀ q, s.hlk.rxSeq = some q → seqUpTo h.seq.toNat q = false) →
    exec (.pairCommand h code) s = .next (let t := (let s := { s.incWrap HLK_RX_CNT_FRAMES with hlk := { s.hlk with rxSeq := some h.seq.toNat } }; s.iff (s.mirrors 2) (fun s => if code = 1 then s.bakeCmd .partner else if code = 2 then s.commitCmd else s));
    t.ackSent.settle)) ∧
  (∀ (h : FrameHead) (code : Byte) (s : State), s.inPair = true → s.sdGood = true → h.crcOk = true → (s.incWrap HLK_RX_CNT_FRAMES).linkUp = true → (∃ q, s.hlk.rxSeq = some q ∧ seqUpTo h.seq.toNat q = true) →
    exec (.pairCommand h code) s = .next ((s.incWrap HLK_RX_CNT_FRAMES).ackSent.settle)) ∧
  -- BULK (R478)
  (∀ (h : FrameHead) (b : BulkBlock) (s : State), exec (.pairBulk h b) s = .next ((s.frameIn h true (fun s => s.bulkIn h b)).settle)) ∧
  (∀ (h : FrameHead) (b : BulkBlock) (s : State), s.inPair = true → s.sdGood = true → h.crcOk = false →
    exec (.pairBulk h b) s = .next (((s.inc HLK_LINK_ERR_CRC).nakSent h.seq.toNat 1).settle)) ∧
  (∀ (h : FrameHead) (b : BulkBlock) (s : State), s.inPair = true → s.sdGood = true → h.crcOk = true → (s.incWrap HLK_RX_CNT_FRAMES).linkUp = true → h.inOrder = true →
    (∀ q, s.hlk.rxSeq = some q → seqUpTo h.seq.toNat q = false) →
    exec (.pairBulk h b) s = .next (let t := (let s := { s.incWrap HLK_RX_CNT_FRAMES with hlk := { s.hlk with rxSeq := some h.seq.toNat } }; s.bulkIn h b);
    t.ackSent.settle)) ∧
  (∀ (h : FrameHead) (b : BulkBlock) (s : State), s.inPair = true → s.sdGood = true → h.crcOk = true → (s.incWrap HLK_RX_CNT_FRAMES).linkUp = true → (∃ q, s.hlk.rxSeq = some q ∧ seqUpTo h.seq.toNat q = true) →
    exec (.pairBulk h b) s = .next ((s.incWrap HLK_RX_CNT_FRAMES).ackSent.settle))

/-- O43. Timers of the pair and the Registrar. Each of these commands completes, in every state and for every operand that meet the conditions of the
clause, which are conditions on them alone and are those of the rule named with it, and the next state is the one given, with the command's own
effect; the clauses take in every form of the command, among them the states in which the rule gives it nothing to do; of a command that writes
or reads a register they take in the accesses that R71 lets pass, and RefusedCommands says what one that is refused does: HELKAR_RETRANSMIT
(R463), HELKAR_LINK_TIMEOUT (R465), PAIR_OFFSET_SLEW (R461), WITNESS_POLL_SEND (R474), HEARTBEAT_TIMEOUT (R475), REGISTRAR_START (R475),
EPOCH_EFFECTIVE (R479), FENCE_TIMEOUT (R476), STABLE_EXPIRY (R478), FENCED_REJOIN_TIMER (R478), REGISTRAR_LOST_TIMEOUT (R477). -/
def Obligations.PairTimers : Prop :=
  -- HELKAR_RETRANSMIT (R463)
  (∀ s : State, (let due := s.hlk.unacked.filter (fun f => decide (f.at_ + 20 ≤ s.tick)); due.isEmpty ∨ !s.linkUp) → exec .helkarRetransmit s = .next s) ∧
  (∀ s : State, ¬(let due := s.hlk.unacked.filter (fun f => decide (f.at_ + 20 ≤ s.tick)); due.isEmpty ∨ !s.linkUp) →
    (let due := s.hlk.unacked.filter (fun f => decide (f.at_ + 20 ≤ s.tick)); due.any (fun f => decide (8 ≤ f.resends))) → ¬(!s.on HLK_STAT_LINK_UP) →
    exec .helkarRetransmit s = .next ((s.keepTime (fun s => let s := (((s.setB HLK_STAT_LINK_UP false).setB HLK_LINK_STAT_LOCKED false).inc HLK_LINK_STAT_DOWNS).event .helkarDown; let s := { s with hlk := { s.hlk with upSince := none, downAt := some s.tick, newOffset := none, errSince := none, crcRun := 0, unacked := [], rxSeq := none, sentObj := [], sentEst := [], sentCat := [], loops := [], resync := [] } }; let s := s.setB HLK_STAT_TIME_ERR false; if s.join = 3 ∨ s.join = 4 then s.set HLK_STATE_JOIN 2 else s)).settle)) ∧
  (∀ s : State, ¬(let due := s.hlk.unacked.filter (fun f => decide (f.at_ + 20 ≤ s.tick)); due.isEmpty ∨ !s.linkUp) →
    ¬(let due := s.hlk.unacked.filter (fun f => decide (f.at_ + 20 ≤ s.tick)); due.any (fun f => decide (8 ≤ f.resends))) →
    exec .helkarRetransmit s = .next (let due := s.hlk.unacked.filter (fun f => decide (f.at_ + 20 ≤ s.tick));
    let s := (s.addSat HLK_RETX_COUNT due.length).set HLK_TX_CNT_FRAMES (s.get HLK_TX_CNT_FRAMES + due.length);
    let frame := (match due.getLast?.bind (fun f => f.body.payload.map (fun p => (f, p))) with | some (f, p) => s.frameBytes f.body.type 3 f.seq p | none => []);
    { s with hlk := { s.hlk with frame := frame, unacked := s.hlk.unacked.map (fun f => if f.at_ + 20 ≤ s.tick then { f with at_ := s.tick, resends := f.resends + 1 } else f) } })) ∧
  (∀ (f : Sent) (s : State), s.hlk.unacked = [f] → f.at_ + 20 ≤ s.tick → f.resends < 8 → s.linkUp = true → Runs .helkarRetransmit s (fun t =>
  t.hlk.unacked = [{ f with at_ := s.tick, resends := f.resends + 1 }] ∧ t.mem = s.mem)) ∧
  -- HELKAR_LINK_TIMEOUT (R465)
  (∀ (violations : Nat) (s : State), (!s.inPair) → exec (.helkarLinkTimeout violations) s = .next s) ∧
  (∀ (violations : Nat) (s : State), ¬(!s.inPair) → (let s := s.violated violations;
    let late := (match s.hlk.beaconAt with | some t => decide (t + 1 + s.get HLK_TIMING_LINK_TMO ≤ s.tick) | none => true);
    late = true ∨ 16 < s.hlk.violations.2) → (let s := s.violated violations; !s.on HLK_STAT_LINK_UP) →
    exec (.helkarLinkTimeout violations) s = .next (let s := s.violated violations; s.settle)) ∧
  (∀ (violations : Nat) (s : State), ¬(!s.inPair) → (let s := s.violated violations;
    let late := (match s.hlk.beaconAt with | some t => decide (t + 1 + s.get HLK_TIMING_LINK_TMO ≤ s.tick) | none => true);
    late = true ∨ 16 < s.hlk.violations.2) → ¬(let s := s.violated violations; !s.on HLK_STAT_LINK_UP) →
    exec (.helkarLinkTimeout violations) s = .next (let s := s.violated violations;
    (s.keepTime (fun s => let s := (((s.setB HLK_STAT_LINK_UP false).setB HLK_LINK_STAT_LOCKED false).inc HLK_LINK_STAT_DOWNS).event .helkarDown; let s := { s with hlk := { s.hlk with upSince := none, downAt := some s.tick, newOffset := none, errSince := none, crcRun := 0, unacked := [], rxSeq := none, sentObj := [], sentEst := [], sentCat := [], loops := [], resync := [] } }; let s := s.setB HLK_STAT_TIME_ERR false; if s.join = 3 ∨ s.join = 4 then s.set HLK_STATE_JOIN 2 else s)).settle)) ∧
  (∀ (violations : Nat) (s : State), ¬(!s.inPair) → ¬(let s := s.violated violations;
    let late := (match s.hlk.beaconAt with | some t => decide (t + 1 + s.get HLK_TIMING_LINK_TMO ≤ s.tick) | none => true);
    late = true ∨ 16 < s.hlk.violations.2) → exec (.helkarLinkTimeout violations) s = .next (let s := s.violated violations; s)) ∧
  -- PAIR_OFFSET_SLEW (R461)
  (∀ s : State, (let e := s.getI HLK_TIME_STAT_ERR; s.following ∧ s.hlk.newOffset.isNone ∧ s.hlk.slewAt + 1000 ≤ s.tick ∧ e ≠ 0) →
    exec .pairOffsetSlew s = .next (let e := s.getI HLK_TIME_STAT_ERR; let s := (s.inc HLK_TIME_STAT_SLEWS).setI HLK_TIME_STAT_ERR (e - e.sign);
    { s with hlk := { s.hlk with offset := s.hlk.offset + e.sign, slewAt := s.tick } })) ∧
  (∀ s : State, ¬(let e := s.getI HLK_TIME_STAT_ERR; s.following ∧ s.hlk.newOffset.isNone ∧ s.hlk.slewAt + 1000 ≤ s.tick ∧ e ≠ 0) →
    exec .pairOffsetSlew s = .next s) ∧
  (∀ s : State, s.following = true → s.hlk.newOffset = none → s.hlk.slewAt + 1000 ≤ s.tick → s.getI HLK_TIME_STAT_ERR ≠ 0 → Runs .pairOffsetSlew s (fun t =>
  t.hlk.offset = s.hlk.offset + (s.getI HLK_TIME_STAT_ERR).sign ∧ t.hlk.slewAt = s.tick ∧ t.mem = s.mem)) ∧
  -- WITNESS_POLL_SEND (R474)
  (∀ (x : Fin 2) (s : State), (s.unitRole = 3 ∧ s.hlk.reg.since.isSome ∧ s.hlk.reg.pollAt.get x + s.get HLK_WIT_TIME_POLL_US ≤ s.tick) →
    exec (.witnessPollSend x) s = .next (let s := s.witClear.witSend (unitOf x) (.poll s.hlk.reg.primaryB (s.viewOf 0) (s.viewOf 1));
    { s with hlk := { s.hlk with reg := { s.hlk.reg with pollAt := s.hlk.reg.pollAt.set x s.tick } } })) ∧
  (∀ (x : Fin 2) (s : State), ¬(s.unitRole = 3 ∧ s.hlk.reg.since.isSome ∧ s.hlk.reg.pollAt.get x + s.get HLK_WIT_TIME_POLL_US ≤ s.tick) →
    exec (.witnessPollSend x) s = .next s) ∧
  (∀ (x : Fin 2) (s : State), s.unitRole = 3 → s.hlk.reg.since.isSome = true → s.hlk.reg.pollAt.get x + s.get HLK_WIT_TIME_POLL_US ≤ s.tick →
  Runs (.witnessPollSend x) s (fun t => t.hlk.reg.pollAt.get x = s.tick ∧ t.tick = s.tick ∧ t.mem = s.mem)) ∧
  -- HEARTBEAT_TIMEOUT (R475)
  (∀ (x : Fin 2) (s : State), (s.unitRole = 3 ∧ s.unitSilent x) → (let s := s.witClear; !s.hlk.reg.started || !s.unitSilent x) →
    exec (.heartbeatTimeout x) s = .next (let s := s.witClear; s)) ∧
  (∀ (x : Fin 2) (s : State), (s.unitRole = 3 ∧ s.unitSilent x) → ¬(let s := s.witClear; !s.hlk.reg.started || !s.unitSilent x) → (let s := s.witClear;
    s.fencing x) → exec (.heartbeatTimeout x) s = .next (let s := s.witClear; s.takeFrom x 2 3)) ∧
  (∀ (x : Fin 2) (s : State), (s.unitRole = 3 ∧ s.unitSilent x) → ¬(let s := s.witClear; !s.hlk.reg.started || !s.unitSilent x) → ¬(let s := s.witClear;
    s.fencing x) → (let s := s.witClear; let y : Fin 2 := 1 - x;
    s.viewOf y == 1 && s.viewOf x != 2 && (match s.lastBeat y with | some m => !m.partHeard | none => false)) →
    exec (.heartbeatTimeout x) s = .next (let s := s.witClear; s.takeFrom x 1 2)) ∧
  (∀ (x : Fin 2) (s : State), (s.unitRole = 3 ∧ s.unitSilent x) → ¬(let s := s.witClear; !s.hlk.reg.started || !s.unitSilent x) → ¬(let s := s.witClear;
    s.fencing x) → ¬(let s := s.witClear; let y : Fin 2 := 1 - x;
    s.viewOf y == 1 && s.viewOf x != 2 && (match s.lastBeat y with | some m => !m.partHeard | none => false)) →
    exec (.heartbeatTimeout x) s = .next (let s := s.witClear; s)) ∧
  (∀ (x : Fin 2) (s : State), ¬(s.unitRole = 3 ∧ s.unitSilent x) → exec (.heartbeatTimeout x) s = .next s) ∧
  -- REGISTRAR_START (R475)
  (∀ s : State, (s.hlk.reg.since = none) → exec .registrarStart s = .next s) ∧
  (∀ (s : State) t, (s.hlk.reg.since = some t) → (let l := (List.finRange 2).filter (fun x => (s.lastBeat x).isSome);
    s.unitRole ≠ 3 ∨ s.hlk.reg.started ∨ l.isEmpty ∨ (l.length = 1 ∧ s.tick < t + s.get HLK_WIT_TIME_HB_TMO)) → exec .registrarStart s = .next s) ∧
  (∀ (s : State) t, (s.hlk.reg.since = some t) → ¬(let l := (List.finRange 2).filter (fun x => (s.lastBeat x).isSome);
    s.unitRole ≠ 3 ∨ s.hlk.reg.started ∨ l.isEmpty ∨ (l.length = 1 ∧ s.tick < t + s.get HLK_WIT_TIME_HB_TMO)) →
    exec .registrarStart s = .next (let l := (List.finRange 2).filter (fun x => (s.lastBeat x).isSome); let s := s.witClear;
    let pref := (match l, s.lastBeat 0 with | [x], _ => x == 1 | _, some m => m.prefB | _, none => false);
    let lost : Fin 3 := (match l with | [x] => (if x = 0 then 2 else 1) | _ => 0);
    let s := s.issue { cause := 3, map := 0, primaryB := pref, lost := lost, eff := 0 } l;
    let s := s.each (List.finRange 2) (fun s x => s.setView x (if l.contains x then 1 else 2));
    { s with hlk := { s.hlk with reg := { s.hlk.reg with started := true } } })) ∧
  (∀ (b : Nat) (s : State), s.hlk.reg.since = some b → s.unitRole = 3 → s.hlk.reg.started = false → (s.lastBeat 0).isSome = true → (s.lastBeat 1).isSome = true →
  Runs .registrarStart s (fun t => t.hlk.reg.started = true ∧ t.tick = s.tick)) ∧
  -- EPOCH_EFFECTIVE (R479)
  (∀ s : State, (s.hlk.wait = none) → exec .epochEffective s = .next s) ∧
  (∀ (s : State) e m, (s.hlk.wait = some (e, m)) → (2 ^ 31 ≤ ((s.pairTick % 2 ^ 32).toNat + 2 ^ 32 - m.eff.toNat % 2 ^ 32) % 2 ^ 32) →
    exec .epochEffective s = .next s) ∧
  (∀ (s : State) e m, (s.hlk.wait = some (e, m)) → ¬(2 ^ 31 ≤ ((s.pairTick % 2 ^ 32).toNat + 2 ^ 32 - m.eff.toNat % 2 ^ 32) % 2 ^ 32) →
    exec .epochEffective s = .next (s.adopt e m)) ∧
  -- FENCE_TIMEOUT (R476)
  (∀ s : State, (s.inPair && s.boot.g.isSome && !s.on HLK_STAT_PARTNER_LOST && decide (max (s.silentFrom s.hlk.beaconAt) (s.silentFrom s.hlk.regAt) + s.get HLK_TIMING_FENCE_TMO ≤ s.tick)) →
    ¬(let cause : Nat := 3; let f := fun s => s.fence cause; let was := s.following; let s := f s; was && !s.following) →
    exec .fenceTimeout s = .next (let cause : Nat := 3; let f := fun s => s.fence cause; let s := f s; s)) ∧
  (∀ s : State, ¬(s.inPair && s.boot.g.isSome && !s.on HLK_STAT_PARTNER_LOST && decide (max (s.silentFrom s.hlk.beaconAt) (s.silentFrom s.hlk.regAt) + s.get HLK_TIMING_FENCE_TMO ≤ s.tick)) →
    exec .fenceTimeout s = .next s) ∧
  -- STABLE_EXPIRY (R478)
  (∀ s : State, (s.join = 4 ∧ s.linkUp ∧ s.on HLK_CFG_AUTO_REVERT ∧ s.hlk.stableSince + 1000000 * s.get HLK_CFG_STABLE_S ≤ s.tick) →
    exec .stableExpiry s = .next ({ s with hlk := { s.hlk with request := 1 } })) ∧
  (∀ s : State, ¬(s.join = 4 ∧ s.linkUp ∧ s.on HLK_CFG_AUTO_REVERT ∧ s.hlk.stableSince + 1000000 * s.get HLK_CFG_STABLE_S ≤ s.tick) →
    exec .stableExpiry s = .next s) ∧
  -- FENCED_REJOIN_TIMER (R478)
  (∀ (s : State) t, (s.hlk.upSince = some t) → (s.linkUp ∧ t + 1000000 ≤ s.tick ∧ s.hlk.partView = 1) → (s.join = 6 ∧ s.power ≠ .halt) →
    exec .fencedRejoinTimer s = .next (((s.unfence.set HLK_STATE_JOIN 2).joinCheck).settle)) ∧
  (∀ (s : State) t, (s.hlk.upSince = some t) → (s.linkUp ∧ t + 1000000 ≤ s.tick ∧ s.hlk.partView = 1) → ¬(s.join = 6 ∧ s.power ≠ .halt) →
    exec .fencedRejoinTimer s = .next s) ∧
  (∀ (s : State) t, (s.hlk.upSince = some t) → ¬(s.linkUp ∧ t + 1000000 ≤ s.tick ∧ s.hlk.partView = 1) → exec .fencedRejoinTimer s = .next s) ∧
  (∀ s : State, (s.hlk.upSince = none) → exec .fencedRejoinTimer s = .next s) ∧
  -- REGISTRAR_LOST_TIMEOUT (R477)
  (∀ s : State, (s.inPair && s.boot.g.isSome && decide (s.silentFrom s.hlk.regAt + s.get HLK_WIT_TIME_HB_TMO ≤ s.tick)) →
    exec .registrarLostTimeout s = .next ((s.setB HLK_STAT_REGISTRAR_LOST true).settle)) ∧
  (∀ s : State, ¬(s.inPair && s.boot.g.isSome && decide (s.silentFrom s.hlk.regAt + s.get HLK_WIT_TIME_HB_TMO ≤ s.tick)) →
    exec .registrarLostTimeout s = .next s)

/-- O44. Witness messages and pair commands. Each of these commands completes, in every state and for every operand that meet the conditions of the
clause, which are conditions on them alone and are those of the rule named with it, and the next state is the one given, with the command's own
effect; the clauses take in every form of the command, among them the states in which the rule gives it nothing to do; of a command that writes
or reads a register they take in the accesses that R71 lets pass, and RefusedCommands says what one that is refused does: POLL (R474), HEARTBEAT
(R475), EPOCH (R471), FENCE (R476), FENCE_SELF (R476), MIGRATE (R475), REVERT (R478), REJOIN (R478), WITNESS (R498). -/
def Obligations.PairMessages : Prop :=
  -- POLL (R474)
  (∀ (h : WitHead) (primaryB : Bool) (viewA viewB : Fin 4) (s : State), exec (.witnessPoll h primaryB viewA viewB) s = .next (s.iff s.witBalls (fun s => s.pollIn h primaryB viewA viewB))) ∧
  (∀ (h : WitHead) (primaryB : Bool) (viewA viewB : Fin 4) (s : State), s.witBalls = false → exec (.witnessPoll h primaryB viewA viewB) s = .next s) ∧
  (∀ (h : WitHead) (primaryB : Bool) (viewA viewB : Fin 4) (s : State), s.witBalls = true → s.inPair = true →
    exec (.witnessPoll h primaryB viewA viewB) s = .next (s.pollIn h primaryB viewA viewB)) ∧
  -- HEARTBEAT (R475)
  (∀ (h : WitHead) (m : HeartbeatMsg) (s : State), (s.unitRole ≠ 3) → exec (.heartbeat h m) s = .next s) ∧
  (∀ (h : WitHead) (m : HeartbeatMsg) (s : State), ¬(s.unitRole ≠ 3) → (let ok := fun x => x != .registrar; !h.crcOk || !ok h.sender) →
    exec (.heartbeat h m) s = .next (let s := s.witClear; s.inc HLK_WIT_STAT_BAD)) ∧
  (∀ (h : WitHead) (m : HeartbeatMsg) (s : State), ¬(s.unitRole ≠ 3) → ¬(let ok := fun x => x != .registrar; !h.crcOk || !ok h.sender) →
    exec (.heartbeat h m) s = .next (let type : Nat := 2; let f := fun s => let x : Fin 2 := (if h.sender = .a then 0 else 1); let y : Fin 2 := 1 - x; let was := s.lastBeat x; let v := s.viewOf x; let s := s.stamp (if x = 0 then HLK_REG_LAST_A_TICK else HLK_REG_LAST_B_TICK); let s := { s with hlk := { s.hlk with reg := { s.hlk.reg with last := s.hlk.reg.last.set x (some (m, s.tick)), maxE := max s.hlk.reg.maxE h.epoch.toNat } } }; if !s.hlk.reg.started then s.setView x 1 else (let fresh := m.fenced && !(match was with | some q => q.fenced | none => false); let s := (if m.fenced && s.fencing x then s.takeFrom x 2 3 else (if fresh && !s.fencing x && v != 2 && v != 3 && s.viewOf y == 1 then s.takeFrom x 2 3 else (if v == 2 || v == 3 || v == 0 then s.setView x 1 else s))); ((s.judgeSilent y).judgeLink).judgeRequest x m); let s := s.witClear; let s := (s.incWrap HLK_WIT_STAT_RX).set HLK_WIT_LAST_TYPE type; let s := (s.set HLK_WIT_LAST_FROM (match h.sender with | .a => 0 | .b => 1 | .registrar => 2)).set HLK_WIT_LAST_SEQ h.seq.toNat; f s)) ∧
  -- EPOCH (R471)
  (∀ (h : WitHead) (e : EpochMsg) (s : State), exec (.epoch h e) s = .next (s.iff s.witBalls (fun s => s.epochIn h e))) ∧
  (∀ (h : WitHead) (e : EpochMsg) (s : State), s.witBalls = false → exec (.epoch h e) s = .next s) ∧
  (∀ (h : WitHead) (e : EpochMsg) (s : State), s.witBalls = true → s.inPair = true → exec (.epoch h e) s = .next (s.epochIn h e)) ∧
  -- FENCE (R476)
  (∀ (h : WitHead) (cause : FenceCause) (s : State), exec (.fence h cause) s = .next (s.iff s.witBalls (fun s => s.fenceIn h cause))) ∧
  (∀ (h : WitHead) (cause : FenceCause) (s : State), s.witBalls = false → exec (.fence h cause) s = .next s) ∧
  (∀ (h : WitHead) (cause : FenceCause) (s : State), s.witBalls = true → s.inPair = true → exec (.fence h cause) s = .next (s.fenceIn h cause)) ∧
  -- FENCE_SELF (R476)
  (∀ (r : Requester) (s : State), s.mayCommand r HLK_CMD_MIGRATE.addr .curator = true →
    ¬(let s := s.touch r; let cause : Nat := 4; let f := fun s => s.fence cause; let was := s.following; let s := f s; was && !s.following) →
    exec (.fenceSelf r) s = .next (let s := s.touch r; let cause : Nat := 4; let f := fun s => s.fence cause; let s := f s; s)) ∧
  -- MIGRATE (R475)
  (∀ (r : Requester) (s : State), s.mayCommand r HLK_CMD_MIGRATE.addr .curator = true → (let s := s.touch r; s.inPair && s.on HLK_STATE_PRIMARY) →
    exec (.pairMigrate r) s = .next (let s := s.touch r; { s with hlk := { s.hlk with request := 2 } })) ∧
  (∀ (r : Requester) (s : State), s.mayCommand r HLK_CMD_MIGRATE.addr .curator = true → ¬(let s := s.touch r; s.inPair && s.on HLK_STATE_PRIMARY) →
    exec (.pairMigrate r) s = .next (let s := s.touch r; s)) ∧
  -- REVERT (R478)
  (∀ (r : Requester) (s : State), s.mayCommand r HLK_CMD_MIGRATE.addr .curator = true → (let s := s.touch r; s.join = 4) →
    exec (.pairRevert r) s = .next (let s := s.touch r; { s with hlk := { s.hlk with request := 1 } })) ∧
  (∀ (r : Requester) (s : State), s.mayCommand r HLK_CMD_MIGRATE.addr .curator = true → ¬(let s := s.touch r; s.join = 4) →
    exec (.pairRevert r) s = .next (let s := s.touch r; s)) ∧
  -- REJOIN (R478)
  (∀ (r : Requester) (s : State), s.mayCommand r HLK_CMD_MIGRATE.addr .curator = true → (let s := s.touch r; s.join = 6 ∧ s.power ≠ .halt) →
    exec (.pairRejoin r) s = .next (let s := s.touch r; ((s.unfence.set HLK_STATE_JOIN 2).joinCheck).settle)) ∧
  (∀ (r : Requester) (s : State), s.mayCommand r HLK_CMD_MIGRATE.addr .curator = true → ¬(let s := s.touch r; s.join = 6 ∧ s.power ≠ .halt) →
    exec (.pairRejoin r) s = .next (let s := s.touch r; s)) ∧
  -- WITNESS (R498)
  (∀ (d : Datagram) (s : State), exec (.praxWitness d) s = .next (s.praxFrame d true (fun s => let allowed := s.witPort d.eth && (match s.sessionOf d with | some k => s.on SES_KEY_CFG_WIT (s.get SES_SESS_SLOT k.val) | none => false); if !allowed then s.discard else s.praxRequest d 0x20 (fun k s => if !datagramFits d 32 then s.sessError k d 0x20 0x10 else (let s := s.witClear.witnessBytes d.body; match s.hlk.wit.getLast? with | some (_, _, b) => s.sessReply k d 0x20 b | none => s)) )))

/-- O45. Sessions and keys. Each of these commands completes, in every state and for every operand that meet the conditions of the clause, which are
conditions on them alone and are those of the rule named with it, and the next state is the one given, with the command's own effect; the clauses
take in every form of the command, among them the states in which the rule gives it nothing to do; of a command that writes or reads a register
they take in the accesses that R71 lets pass, and RefusedCommands says what one that is refused does: SES_OPEN_START (R484), SES_OPEN_CLOSE
(R486), SES_RESP_SUBMIT (R484), LOCKOUT_END (R485), NONCE_EXPIRY (R484), SESSION_IDLE_TIMEOUT (R486), KEY_ERASE (R483), KEY_COMMIT (R483),
KEY_DATA_WRITE (R503). -/
def Obligations.SessionCommands : Prop :=
  -- SES_OPEN_START (R484)
  (∀ (r : Requester) (w : Word) (s : State), s.mayWrite r SES_OPEN_START.addr = true → exec (.sesOpenStart r w) s = .next (let s := s.touch r;
    let w : Word := w ||| 0x100; let s := s.iff (bitsOf w 9 1 == 1) State.spiClose;
    s.iff (bitsOf w 8 1 == 1) (fun s => s.spiOpen (bitsOf w 0 3) (bitsOf w 4 2)))) ∧
  -- SES_OPEN_CLOSE (R486)
  (∀ (r : Requester) (w : Word) (s : State), s.mayWrite r SES_OPEN_START.addr = true → exec (.sesOpenClose r w) s = .next (let s := s.touch r;
    let w : Word := w ||| 0x200; let s := s.iff (bitsOf w 9 1 == 1) State.spiClose;
    s.iff (bitsOf w 8 1 == 1) (fun s => s.spiOpen (bitsOf w 0 3) (bitsOf w 4 2)))) ∧
  -- SES_RESP_SUBMIT (R484)
  (∀ (r : Requester) (w : Word) (s : State), s.mayWrite r (SES_RESP_RESP.at 3) = true → exec (.sesRespSubmit r w) s = .next (let s := s.touch r;
    let k : Nat := 3; let s := { s with ports := { s.ports with resp := s.ports.resp.set k w } }; s.iff (k == 3) State.spiProve)) ∧
  -- LOCKOUT_END (R485)
  (∀ (p : Fin 3) (s : State), (s.due (s.ports.lockEnd.get p)) →
    exec (.lockoutEnd p) s = .next ({ (s.setFails p 0) with ports := { (s.setFails p 0).ports with lockEnd := s.ports.lockEnd.set p none } })) ∧
  (∀ (p : Fin 3) (s : State), ¬(s.due (s.ports.lockEnd.get p)) → exec (.lockoutEnd p) s = .next s) ∧
  -- NONCE_EXPIRY (R484)
  (∀ s : State, exec .nonceExpiry s = .next (s.each (s.ports.challenges.filter (fun c => decide (s.nonceEnd c ≤ s.tick))) State.nonceFail)) ∧
  -- SESSION_IDLE_TIMEOUT (R486)
  (∀ (k : Fin 8) (s : State), (s.sessOpen k ∧ (s.session k).lastTick + 1000000 * s.get SES_CFG_IDLE_S ≤ s.tick) →
    exec (.sessionIdleTimeout k) s = .next ((s.closeSession k).inc HIF_SESS_CNT_IDLED)) ∧
  (∀ (k : Fin 8) (s : State), ¬(s.sessOpen k ∧ (s.session k).lastTick + 1000000 * s.get SES_CFG_IDLE_S ≤ s.tick) →
    exec (.sessionIdleTimeout k) s = .next s) ∧
  -- KEY_ERASE (R483)
  (∀ (r : Requester) (w : Word) (s : State), s.mayCommand r SES_KEY_SEL_SLOT.addr .curator = true → exec (.keyErase r w) s = .next (let s := s.touch r;
    let w : Word := w ||| 0x100; let s := { s with ports := { s.ports with selSlot := bitsOf w 0 3, selWord := bitsOf w 4 3 } };
    let s := s.iff (bitsOf w 8 1 == 1) (fun s => s.keyErase (slotIx (bitsOf w 0 3)));
    s.iff (bitsOf w 9 1 == 1) (fun s => s.keyCommit (slotIx (bitsOf w 0 3))))) ∧
  -- KEY_COMMIT (R483)
  (∀ (r : Requester) (w : Word) (s : State), s.mayCommand r SES_KEY_SEL_SLOT.addr .curator = true → exec (.keyCommit r w) s = .next (let s := s.touch r;
    let w : Word := w ||| 0x200; let s := { s with ports := { s.ports with selSlot := bitsOf w 0 3, selWord := bitsOf w 4 3 } };
    let s := s.iff (bitsOf w 8 1 == 1) (fun s => s.keyErase (slotIx (bitsOf w 0 3)));
    s.iff (bitsOf w 9 1 == 1) (fun s => s.keyCommit (slotIx (bitsOf w 0 3))))) ∧
  -- KEY_DATA_WRITE (R503)
  (∀ (r : Requester) (w : Word) (s : State), s.mayCommand r SES_KEY_DATA_DATA.addr .curator = true →
    exec (.keyDataWrite r w) s = .next (let s := s.touch r; let n := slotIx s.ports.selSlot; let x := s.ports.keys.get n;
    let words := (if x.words.length = 8 then x.words else List.replicate 8 0);
    let s := s.setKey n { words := words.set s.ports.selWord w, written := s.ports.selWord :: x.written.filter (fun i => i != s.ports.selWord) };
    { s with ports := { s.ports with selWord := (s.ports.selWord + 1) % 8 } }))

/-- O46. PRAX requests and notifications. Each of these commands completes, in every state and for every operand that meet the conditions of the clause,
which are conditions on them alone and are those of the rule named with it, and the next state is the one given, with the command's own effect;
the clauses take in every form of the command, among them the states in which the rule gives it nothing to do; of a command that writes or reads
a register they take in the accesses that R71 lets pass, and RefusedCommands says what one that is refused does: OPEN (R495), PROVE (R495),
PRAX_CLOSE (R495), READ (R495), WRITE (R495), KEEPALIVE (R495), SUBSCRIBE (R497), NOTIFY_ACK (R497), NOTIFY_SEND (R497). -/
def Obligations.PraxCommands : Prop :=
  -- OPEN (R495)
  (∀ (d : Datagram) (s : State), (!s.on HIF_ETH_STAT_LINK d.eth.val) → exec (.praxOpen d) s = .next s) ∧
  (∀ (d : Datagram) (s : State), ¬(!s.on HIF_ETH_STAT_LINK d.eth.val) → (let s := s.incWrap HIF_FRAMES_RX d.eth.val; s.full) →
    (let s := s.incWrap HIF_FRAMES_RX d.eth.val; s.addressed d) →
    exec (.praxOpen d) s = .next (let f := fun s => s.praxOpen d; let s := s.incWrap HIF_FRAMES_RX d.eth.val; f s)) ∧
  (∀ (d : Datagram) (s : State), ¬(!s.on HIF_ETH_STAT_LINK d.eth.val) → (let s := s.incWrap HIF_FRAMES_RX d.eth.val; s.full) →
    ¬(let s := s.incWrap HIF_FRAMES_RX d.eth.val; s.addressed d) → exec (.praxOpen d) s = .next (let s := s.incWrap HIF_FRAMES_RX d.eth.val;
    s.inc HIF_DROP_CNT_DROPS d.eth.val)) ∧
  (∀ (d : Datagram) (s : State), ¬(!s.on HIF_ETH_STAT_LINK d.eth.val) → ¬(let s := s.incWrap HIF_FRAMES_RX d.eth.val; s.full) →
    (let s := s.incWrap HIF_FRAMES_RX d.eth.val; s.witPort d.eth && s.boot.g.isSome) →
    (let wit : Bool := true; let s := s.incWrap HIF_FRAMES_RX d.eth.val; wit && s.addressed d) →
    exec (.praxOpen d) s = .next (let f := fun s => s.praxOpen d; let s := s.incWrap HIF_FRAMES_RX d.eth.val; f s)) ∧
  (∀ (d : Datagram) (s : State), ¬(!s.on HIF_ETH_STAT_LINK d.eth.val) → ¬(let s := s.incWrap HIF_FRAMES_RX d.eth.val; s.full) →
    (let s := s.incWrap HIF_FRAMES_RX d.eth.val; s.witPort d.eth && s.boot.g.isSome) → ¬(let wit : Bool := true;
    let s := s.incWrap HIF_FRAMES_RX d.eth.val; wit && s.addressed d) → exec (.praxOpen d) s = .next (let s := s.incWrap HIF_FRAMES_RX d.eth.val;
    s.inc HIF_DROP_CNT_DROPS d.eth.val)) ∧
  (∀ (d : Datagram) (s : State), ¬(!s.on HIF_ETH_STAT_LINK d.eth.val) → ¬(let s := s.incWrap HIF_FRAMES_RX d.eth.val; s.full) →
    ¬(let s := s.incWrap HIF_FRAMES_RX d.eth.val; s.witPort d.eth && s.boot.g.isSome) →
    exec (.praxOpen d) s = .next (let s := s.incWrap HIF_FRAMES_RX d.eth.val; s)) ∧
  (∀ (d : Datagram) (s : State), s.on HIF_ETH_STAT_LINK d.eth.val = true → (s.incWrap HIF_FRAMES_RX d.eth.val).full = true → (s.incWrap HIF_FRAMES_RX d.eth.val).addressed d = true →
    exec (.praxOpen d) s = .next ((s.incWrap HIF_FRAMES_RX d.eth.val).praxOpen d)) ∧
  -- PROVE (R495)
  (∀ (d : Datagram) (s : State), (!s.on HIF_ETH_STAT_LINK d.eth.val) → exec (.praxProve d) s = .next s) ∧
  (∀ (d : Datagram) (s : State), ¬(!s.on HIF_ETH_STAT_LINK d.eth.val) → (let s := s.incWrap HIF_FRAMES_RX d.eth.val; s.full) →
    (let s := s.incWrap HIF_FRAMES_RX d.eth.val; s.addressed d) →
    exec (.praxProve d) s = .next (let f := fun s => s.praxProve d; let s := s.incWrap HIF_FRAMES_RX d.eth.val; f s)) ∧
  (∀ (d : Datagram) (s : State), ¬(!s.on HIF_ETH_STAT_LINK d.eth.val) → (let s := s.incWrap HIF_FRAMES_RX d.eth.val; s.full) →
    ¬(let s := s.incWrap HIF_FRAMES_RX d.eth.val; s.addressed d) → exec (.praxProve d) s = .next (let s := s.incWrap HIF_FRAMES_RX d.eth.val;
    s.inc HIF_DROP_CNT_DROPS d.eth.val)) ∧
  (∀ (d : Datagram) (s : State), ¬(!s.on HIF_ETH_STAT_LINK d.eth.val) → ¬(let s := s.incWrap HIF_FRAMES_RX d.eth.val; s.full) →
    (let s := s.incWrap HIF_FRAMES_RX d.eth.val; s.witPort d.eth && s.boot.g.isSome) →
    (let wit : Bool := true; let s := s.incWrap HIF_FRAMES_RX d.eth.val; wit && s.addressed d) →
    exec (.praxProve d) s = .next (let f := fun s => s.praxProve d; let s := s.incWrap HIF_FRAMES_RX d.eth.val; f s)) ∧
  (∀ (d : Datagram) (s : State), ¬(!s.on HIF_ETH_STAT_LINK d.eth.val) → ¬(let s := s.incWrap HIF_FRAMES_RX d.eth.val; s.full) →
    (let s := s.incWrap HIF_FRAMES_RX d.eth.val; s.witPort d.eth && s.boot.g.isSome) → ¬(let wit : Bool := true;
    let s := s.incWrap HIF_FRAMES_RX d.eth.val; wit && s.addressed d) → exec (.praxProve d) s = .next (let s := s.incWrap HIF_FRAMES_RX d.eth.val;
    s.inc HIF_DROP_CNT_DROPS d.eth.val)) ∧
  (∀ (d : Datagram) (s : State), ¬(!s.on HIF_ETH_STAT_LINK d.eth.val) → ¬(let s := s.incWrap HIF_FRAMES_RX d.eth.val; s.full) →
    ¬(let s := s.incWrap HIF_FRAMES_RX d.eth.val; s.witPort d.eth && s.boot.g.isSome) →
    exec (.praxProve d) s = .next (let s := s.incWrap HIF_FRAMES_RX d.eth.val; s)) ∧
  (∀ (d : Datagram) (s : State), s.on HIF_ETH_STAT_LINK d.eth.val = true → (s.incWrap HIF_FRAMES_RX d.eth.val).full = true → (s.incWrap HIF_FRAMES_RX d.eth.val).addressed d = true →
    exec (.praxProve d) s = .next ((s.incWrap HIF_FRAMES_RX d.eth.val).praxProve d)) ∧
  -- PRAX_CLOSE (R495)
  (∀ (d : Datagram) (s : State), (!s.on HIF_ETH_STAT_LINK d.eth.val) → exec (.praxClose d) s = .next s) ∧
  (∀ (d : Datagram) (s : State), ¬(!s.on HIF_ETH_STAT_LINK d.eth.val) → (let s := s.incWrap HIF_FRAMES_RX d.eth.val; s.full) →
    (let s := s.incWrap HIF_FRAMES_RX d.eth.val; s.addressed d) →
    exec (.praxClose d) s = .next (let f := fun s => s.praxRequest d 3 (fun k s => if datagramFits d 0 then (s.sessReply k d 0x83 []).closeSession k else s.sessError k d 3 0x10); let s := s.incWrap HIF_FRAMES_RX d.eth.val; f s)) ∧
  (∀ (d : Datagram) (s : State), ¬(!s.on HIF_ETH_STAT_LINK d.eth.val) → (let s := s.incWrap HIF_FRAMES_RX d.eth.val; s.full) →
    ¬(let s := s.incWrap HIF_FRAMES_RX d.eth.val; s.addressed d) → exec (.praxClose d) s = .next (let s := s.incWrap HIF_FRAMES_RX d.eth.val;
    s.inc HIF_DROP_CNT_DROPS d.eth.val)) ∧
  (∀ (d : Datagram) (s : State), ¬(!s.on HIF_ETH_STAT_LINK d.eth.val) → ¬(let s := s.incWrap HIF_FRAMES_RX d.eth.val; s.full) →
    (let s := s.incWrap HIF_FRAMES_RX d.eth.val; s.witPort d.eth && s.boot.g.isSome) →
    (let wit : Bool := true; let s := s.incWrap HIF_FRAMES_RX d.eth.val; wit && s.addressed d) →
    exec (.praxClose d) s = .next (let f := fun s => s.praxRequest d 3 (fun k s => if datagramFits d 0 then (s.sessReply k d 0x83 []).closeSession k else s.sessError k d 3 0x10); let s := s.incWrap HIF_FRAMES_RX d.eth.val; f s)) ∧
  (∀ (d : Datagram) (s : State), ¬(!s.on HIF_ETH_STAT_LINK d.eth.val) → ¬(let s := s.incWrap HIF_FRAMES_RX d.eth.val; s.full) →
    (let s := s.incWrap HIF_FRAMES_RX d.eth.val; s.witPort d.eth && s.boot.g.isSome) → ¬(let wit : Bool := true;
    let s := s.incWrap HIF_FRAMES_RX d.eth.val; wit && s.addressed d) → exec (.praxClose d) s = .next (let s := s.incWrap HIF_FRAMES_RX d.eth.val;
    s.inc HIF_DROP_CNT_DROPS d.eth.val)) ∧
  (∀ (d : Datagram) (s : State), ¬(!s.on HIF_ETH_STAT_LINK d.eth.val) → ¬(let s := s.incWrap HIF_FRAMES_RX d.eth.val; s.full) →
    ¬(let s := s.incWrap HIF_FRAMES_RX d.eth.val; s.witPort d.eth && s.boot.g.isSome) →
    exec (.praxClose d) s = .next (let s := s.incWrap HIF_FRAMES_RX d.eth.val; s)) ∧
  (∀ (d : Datagram) (k : Fin 8) (s : State), s.praxAccepts d 3 k = true → datagramFits d 0 = true →
    exec (.praxClose d) s = .next (((s.praxTaken d k).sessReply k d 0x83 []).closeSession k)) ∧
  (∀ (d : Datagram) (k : Fin 8) (s : State), s.praxAccepts d 3 k = true → datagramFits d 0 = false →
    exec (.praxClose d) s = .next ((s.praxTaken d k).sessError k d 3 0x10)) ∧
  -- READ (R495)
  (∀ (d : Datagram) (s : State), (!s.on HIF_ETH_STAT_LINK d.eth.val) → exec (.praxRead d) s = .next s) ∧
  (∀ (d : Datagram) (s : State), ¬(!s.on HIF_ETH_STAT_LINK d.eth.val) → (let s := s.incWrap HIF_FRAMES_RX d.eth.val; s.full) →
    (let s := s.incWrap HIF_FRAMES_RX d.eth.val; s.addressed d) →
    exec (.praxRead d) s = .next (let f := fun s => s.praxRequest d 0x10 (fun k s => s.praxReadIn d k); let s := s.incWrap HIF_FRAMES_RX d.eth.val; f s)) ∧
  (∀ (d : Datagram) (s : State), ¬(!s.on HIF_ETH_STAT_LINK d.eth.val) → (let s := s.incWrap HIF_FRAMES_RX d.eth.val; s.full) →
    ¬(let s := s.incWrap HIF_FRAMES_RX d.eth.val; s.addressed d) → exec (.praxRead d) s = .next (let s := s.incWrap HIF_FRAMES_RX d.eth.val;
    s.inc HIF_DROP_CNT_DROPS d.eth.val)) ∧
  (∀ (d : Datagram) (s : State), ¬(!s.on HIF_ETH_STAT_LINK d.eth.val) → ¬(let s := s.incWrap HIF_FRAMES_RX d.eth.val; s.full) →
    (let s := s.incWrap HIF_FRAMES_RX d.eth.val; s.witPort d.eth && s.boot.g.isSome) → ¬(let wit : Bool := false;
    let s := s.incWrap HIF_FRAMES_RX d.eth.val; wit && s.addressed d) → exec (.praxRead d) s = .next (let s := s.incWrap HIF_FRAMES_RX d.eth.val;
    s.inc HIF_DROP_CNT_DROPS d.eth.val)) ∧
  (∀ (d : Datagram) (s : State), ¬(!s.on HIF_ETH_STAT_LINK d.eth.val) → ¬(let s := s.incWrap HIF_FRAMES_RX d.eth.val; s.full) →
    ¬(let s := s.incWrap HIF_FRAMES_RX d.eth.val; s.witPort d.eth && s.boot.g.isSome) →
    exec (.praxRead d) s = .next (let s := s.incWrap HIF_FRAMES_RX d.eth.val; s)) ∧
  (∀ (d : Datagram) (k : Fin 8) (s : State), s.praxAccepts d 0x10 k = true → exec (.praxRead d) s = .next ((s.praxTaken d k).praxReadIn d k)) ∧
  -- WRITE (R495)
  (∀ (d : Datagram) (s : State), (!s.on HIF_ETH_STAT_LINK d.eth.val) → exec (.praxWrite d) s = .next s) ∧
  (∀ (d : Datagram) (s : State), ¬(!s.on HIF_ETH_STAT_LINK d.eth.val) → (let s := s.incWrap HIF_FRAMES_RX d.eth.val; s.full) →
    (let s := s.incWrap HIF_FRAMES_RX d.eth.val; s.addressed d) →
    exec (.praxWrite d) s = .next (let f := fun s => s.praxRequest d 0x11 (fun k s => s.praxWriteIn d k); let s := s.incWrap HIF_FRAMES_RX d.eth.val; f s)) ∧
  (∀ (d : Datagram) (s : State), ¬(!s.on HIF_ETH_STAT_LINK d.eth.val) → (let s := s.incWrap HIF_FRAMES_RX d.eth.val; s.full) →
    ¬(let s := s.incWrap HIF_FRAMES_RX d.eth.val; s.addressed d) → exec (.praxWrite d) s = .next (let s := s.incWrap HIF_FRAMES_RX d.eth.val;
    s.inc HIF_DROP_CNT_DROPS d.eth.val)) ∧
  (∀ (d : Datagram) (s : State), ¬(!s.on HIF_ETH_STAT_LINK d.eth.val) → ¬(let s := s.incWrap HIF_FRAMES_RX d.eth.val; s.full) →
    (let s := s.incWrap HIF_FRAMES_RX d.eth.val; s.witPort d.eth && s.boot.g.isSome) → ¬(let wit : Bool := false;
    let s := s.incWrap HIF_FRAMES_RX d.eth.val; wit && s.addressed d) → exec (.praxWrite d) s = .next (let s := s.incWrap HIF_FRAMES_RX d.eth.val;
    s.inc HIF_DROP_CNT_DROPS d.eth.val)) ∧
  (∀ (d : Datagram) (s : State), ¬(!s.on HIF_ETH_STAT_LINK d.eth.val) → ¬(let s := s.incWrap HIF_FRAMES_RX d.eth.val; s.full) →
    ¬(let s := s.incWrap HIF_FRAMES_RX d.eth.val; s.witPort d.eth && s.boot.g.isSome) →
    exec (.praxWrite d) s = .next (let s := s.incWrap HIF_FRAMES_RX d.eth.val; s)) ∧
  (∀ (d : Datagram) (k : Fin 8) (s : State), s.praxAccepts d 0x11 k = true → exec (.praxWrite d) s = .next ((s.praxTaken d k).praxWriteIn d k)) ∧
  -- KEEPALIVE (R495)
  (∀ (d : Datagram) (s : State), (!s.on HIF_ETH_STAT_LINK d.eth.val) → exec (.praxKeepalive d) s = .next s) ∧
  (∀ (d : Datagram) (s : State), ¬(!s.on HIF_ETH_STAT_LINK d.eth.val) → (let s := s.incWrap HIF_FRAMES_RX d.eth.val; s.full) →
    (let s := s.incWrap HIF_FRAMES_RX d.eth.val; s.addressed d) →
    exec (.praxKeepalive d) s = .next (let f := fun s => s.praxRequest d 0x12 (fun k s => if datagramFits d 0 then s.sessReply k d 0x92 [] else s.sessError k d 0x12 0x10); let s := s.incWrap HIF_FRAMES_RX d.eth.val; f s)) ∧
  (∀ (d : Datagram) (s : State), ¬(!s.on HIF_ETH_STAT_LINK d.eth.val) → (let s := s.incWrap HIF_FRAMES_RX d.eth.val; s.full) →
    ¬(let s := s.incWrap HIF_FRAMES_RX d.eth.val; s.addressed d) → exec (.praxKeepalive d) s = .next (let s := s.incWrap HIF_FRAMES_RX d.eth.val;
    s.inc HIF_DROP_CNT_DROPS d.eth.val)) ∧
  (∀ (d : Datagram) (s : State), ¬(!s.on HIF_ETH_STAT_LINK d.eth.val) → ¬(let s := s.incWrap HIF_FRAMES_RX d.eth.val; s.full) →
    (let s := s.incWrap HIF_FRAMES_RX d.eth.val; s.witPort d.eth && s.boot.g.isSome) →
    (let wit : Bool := true; let s := s.incWrap HIF_FRAMES_RX d.eth.val; wit && s.addressed d) →
    exec (.praxKeepalive d) s = .next (let f := fun s => s.praxRequest d 0x12 (fun k s => if datagramFits d 0 then s.sessReply k d 0x92 [] else s.sessError k d 0x12 0x10); let s := s.incWrap HIF_FRAMES_RX d.eth.val; f s)) ∧
  (∀ (d : Datagram) (s : State), ¬(!s.on HIF_ETH_STAT_LINK d.eth.val) → ¬(let s := s.incWrap HIF_FRAMES_RX d.eth.val; s.full) →
    (let s := s.incWrap HIF_FRAMES_RX d.eth.val; s.witPort d.eth && s.boot.g.isSome) → ¬(let wit : Bool := true;
    let s := s.incWrap HIF_FRAMES_RX d.eth.val; wit && s.addressed d) → exec (.praxKeepalive d) s = .next (let s := s.incWrap HIF_FRAMES_RX d.eth.val;
    s.inc HIF_DROP_CNT_DROPS d.eth.val)) ∧
  (∀ (d : Datagram) (s : State), ¬(!s.on HIF_ETH_STAT_LINK d.eth.val) → ¬(let s := s.incWrap HIF_FRAMES_RX d.eth.val; s.full) →
    ¬(let s := s.incWrap HIF_FRAMES_RX d.eth.val; s.witPort d.eth && s.boot.g.isSome) →
    exec (.praxKeepalive d) s = .next (let s := s.incWrap HIF_FRAMES_RX d.eth.val; s)) ∧
  (∀ (d : Datagram) (k : Fin 8) (s : State), s.praxAccepts d 0x12 k = true → datagramFits d 0 = true →
    exec (.praxKeepalive d) s = .next ((s.praxTaken d k).sessReply k d 0x92 [])) ∧
  (∀ (d : Datagram) (k : Fin 8) (s : State), s.praxAccepts d 0x12 k = true → datagramFits d 0 = false →
    exec (.praxKeepalive d) s = .next ((s.praxTaken d k).sessError k d 0x12 0x10)) ∧
  -- SUBSCRIBE (R497)
  (∀ (d : Datagram) (s : State), (!s.on HIF_ETH_STAT_LINK d.eth.val) → exec (.praxSubscribe d) s = .next s) ∧
  (∀ (d : Datagram) (s : State), ¬(!s.on HIF_ETH_STAT_LINK d.eth.val) → (let s := s.incWrap HIF_FRAMES_RX d.eth.val; s.full) →
    (let s := s.incWrap HIF_FRAMES_RX d.eth.val; s.addressed d) →
    exec (.praxSubscribe d) s = .next (let f := fun s => s.praxRequest d 0x13 (fun k s => if datagramFits d 1 then (s.subscribe k (d.body.getD 0 0).toNat).sessReply k d 0x93 [] else s.sessError k d 0x13 0x10); let s := s.incWrap HIF_FRAMES_RX d.eth.val; f s)) ∧
  (∀ (d : Datagram) (s : State), ¬(!s.on HIF_ETH_STAT_LINK d.eth.val) → (let s := s.incWrap HIF_FRAMES_RX d.eth.val; s.full) →
    ¬(let s := s.incWrap HIF_FRAMES_RX d.eth.val; s.addressed d) → exec (.praxSubscribe d) s = .next (let s := s.incWrap HIF_FRAMES_RX d.eth.val;
    s.inc HIF_DROP_CNT_DROPS d.eth.val)) ∧
  (∀ (d : Datagram) (s : State), ¬(!s.on HIF_ETH_STAT_LINK d.eth.val) → ¬(let s := s.incWrap HIF_FRAMES_RX d.eth.val; s.full) →
    (let s := s.incWrap HIF_FRAMES_RX d.eth.val; s.witPort d.eth && s.boot.g.isSome) → ¬(let wit : Bool := false;
    let s := s.incWrap HIF_FRAMES_RX d.eth.val; wit && s.addressed d) → exec (.praxSubscribe d) s = .next (let s := s.incWrap HIF_FRAMES_RX d.eth.val;
    s.inc HIF_DROP_CNT_DROPS d.eth.val)) ∧
  (∀ (d : Datagram) (s : State), ¬(!s.on HIF_ETH_STAT_LINK d.eth.val) → ¬(let s := s.incWrap HIF_FRAMES_RX d.eth.val; s.full) →
    ¬(let s := s.incWrap HIF_FRAMES_RX d.eth.val; s.witPort d.eth && s.boot.g.isSome) →
    exec (.praxSubscribe d) s = .next (let s := s.incWrap HIF_FRAMES_RX d.eth.val; s)) ∧
  (∀ (d : Datagram) (k : Fin 8) (s : State), s.praxAccepts d 0x13 k = true → datagramFits d 1 = true →
    exec (.praxSubscribe d) s = .next (((s.praxTaken d k).subscribe k (d.body.getD 0 0).toNat).sessReply k d 0x93 [])) ∧
  (∀ (d : Datagram) (k : Fin 8) (s : State), s.praxAccepts d 0x13 k = true → datagramFits d 1 = false →
    exec (.praxSubscribe d) s = .next ((s.praxTaken d k).sessError k d 0x13 0x10)) ∧
  -- NOTIFY_ACK (R497)
  (∀ (d : Datagram) (s : State), exec (.notifyAck d) s = .next (s.praxFrame d false (fun s => s.praxRequest d 0x14 (fun k s => if datagramFits d 4 then (let q := leNat d.body; let s := s.setSession k { s.session k with unacked := (s.session k).unacked.filter (fun u => !seqUpTo u.1.seq q) }; s.iff (seqUpTo (s.get HIF_NOTIFY_SEQ_SEQ) q) (fun s => s.set HIF_NOTIFY_SEQ_SEQ q)) else s.sessError k d 0x14 0x10)))) ∧
  (∀ (d : Datagram) (k : Fin 8) (s : State), s.praxAccepts d 0x14 k = true → datagramFits d 4 = true → Runs (.notifyAck d) s (fun t =>
  (t.session k).unacked = ((s.praxTaken d k).session k).unacked.filter (fun u => !seqUpTo u.1.seq (leNat d.body)) ∧ t.mem = s.mem)) ∧
  -- NOTIFY_SEND (R497)
  (∀ (k : Fin 8) (drop : Nat) (s : State), (let p : Nat := s.sessPort k.val - 1; let eth : Fin 2 := ⟨p % 2, Nat.mod_lt p (by decide)⟩;
    !s.sessOpen k || s.sessPort k.val == 0 || !s.full || !s.on HIF_ETH_STAT_LINK eth.val || !s.addressedOn eth (s.session k).v6) →
    exec (.notifySend k drop) s = .next s) ∧
  (∀ (k : Fin 8) (drop : Nat) (s : State), ¬(let p : Nat := s.sessPort k.val - 1; let eth : Fin 2 := ⟨p % 2, Nat.mod_lt p (by decide)⟩;
    !s.sessOpen k || s.sessPort k.val == 0 || !s.full || !s.on HIF_ETH_STAT_LINK eth.val || !s.addressedOn eth (s.session k).v6) →
    (let x := s.session k; let traces := (x.out.filter (fun r => r.cls == 2)).length;
    let out := dropSome (fun (r : Rec) => r.cls == 0) (drop - traces) (dropSome (fun (r : Rec) => r.cls == 2) drop x.out);
    let again := (x.unacked.filter (fun u => decide (u.2 + 100000 * s.get HIF_NOTIFY_CFG_RESEND ≤ s.tick))).map (fun u => u.1);
    let send := (again ++ out).take 32; send.isEmpty) → exec (.notifySend k drop) s = .next (let p : Nat := s.sessPort k.val - 1;
    let x := s.session k; let traces := (x.out.filter (fun r => r.cls == 2)).length;
    let out := dropSome (fun (r : Rec) => r.cls == 0) (drop - traces) (dropSome (fun (r : Rec) => r.cls == 2) drop x.out);
    let gone := x.out.length - out.length;
    let again := (x.unacked.filter (fun u => decide (u.2 + 100000 * s.get HIF_NOTIFY_CFG_RESEND ≤ s.tick))).map (fun u => u.1);
    let send := (again ++ out).take 32; let fresh := out.take (32 - min 32 again.length); let s := s.addSat HIF_NOTIFY_CNT_NOTIFY_DROP gone p;
    let y : Session := { x with out := out.drop fresh.length, unacked := x.unacked.map (fun u => if send.contains u.1 then (u.1, s.tick) else u) ++ (fresh.filter (fun r => r.cls == 1)).map (fun r => (r, s.tick)) };
    s.setSession k y)) ∧
  (∀ (k : Fin 8) (drop : Nat) (s : State), ¬(let p : Nat := s.sessPort k.val - 1; let eth : Fin 2 := ⟨p % 2, Nat.mod_lt p (by decide)⟩;
    !s.sessOpen k || s.sessPort k.val == 0 || !s.full || !s.on HIF_ETH_STAT_LINK eth.val || !s.addressedOn eth (s.session k).v6) →
    ¬(let x := s.session k; let traces := (x.out.filter (fun r => r.cls == 2)).length;
    let out := dropSome (fun (r : Rec) => r.cls == 0) (drop - traces) (dropSome (fun (r : Rec) => r.cls == 2) drop x.out);
    let again := (x.unacked.filter (fun u => decide (u.2 + 100000 * s.get HIF_NOTIFY_CFG_RESEND ≤ s.tick))).map (fun u => u.1);
    let send := (again ++ out).take 32; send.isEmpty) → exec (.notifySend k drop) s = .next (let p : Nat := s.sessPort k.val - 1;
    let eth : Fin 2 := ⟨p % 2, Nat.mod_lt p (by decide)⟩; let x := s.session k; let traces := (x.out.filter (fun r => r.cls == 2)).length;
    let out := dropSome (fun (r : Rec) => r.cls == 0) (drop - traces) (dropSome (fun (r : Rec) => r.cls == 2) drop x.out);
    let gone := x.out.length - out.length;
    let again := (x.unacked.filter (fun u => decide (u.2 + 100000 * s.get HIF_NOTIFY_CFG_RESEND ≤ s.tick))).map (fun u => u.1);
    let send := (again ++ out).take 32; let fresh := out.take (32 - min 32 again.length); let s := s.addSat HIF_NOTIFY_CNT_NOTIFY_DROP gone p;
    let y : Session := { x with out := out.drop fresh.length, unacked := x.unacked.map (fun u => if send.contains u.1 then (u.1, s.tick) else u) ++ (fresh.filter (fun r => r.cls == 1)).map (fun r => (r, s.tick)) };
    let n := (x.notifySeq + 1) % 2 ^ 32; let bytes := praxBytes 0x40 x.sid.toNat n (send.map Rec.bytes).flatten;
    let s := (s.setSession k { y with notifySeq := n }).incWrap HIF_NOTIFY_CNT_SENT p; s.praxSend eth (bytes ++ macOf x.key bytes))) ∧
  (∀ (k : Fin 8) (s : State), s.sessOpen k = true → s.sessPort k.val ≠ 0 → s.full = true → s.on HIF_ETH_STAT_LINK ((s.sessPort k.val - 1) % 2) = true →
  s.addressedOn ⟨(s.sessPort k.val - 1) % 2, Nat.mod_lt _ (by decide)⟩ (s.session k).v6 = true → (s.session k).out = [] → (s.session k).unacked = [] →
  Runs (.notifySend k 0) s (fun t => (t.session k).out = [] ∧ (t.session k).unacked = [] ∧ t.mem = s.mem))

/-- O47. Links, addresses, PTP and MDIO. Each of these commands completes, in every state and for every operand that meet the conditions of the clause,
which are conditions on them alone and are those of the rule named with it, and the next state is the one given, with the command's own effect;
the clauses take in every form of the command, among them the states in which the rule gives it nothing to do; of a command that writes or reads
a register they take in the accesses that R71 lets pass, and RefusedCommands says what one that is refused does: DHCP_LEASE_END (R492),
DHCP_LEASE_OBTAINED (R492), ETH_LINK_CHANGE (R491), PTP_SYNC (R500), PTP_ANNOUNCE (R500), PTP_TIMEOUT (R500), MDIO_READ (R505), MDIO_WRITE
(R505), MDIO_COMPLETE (R505). -/
def Obligations.EthernetCommands : Prop :=
  -- DHCP_LEASE_END (R492)
  (∀ (p : Fin 2) (s : State), (s.due ((s.ports.lease.get p).map (fun l => l.2))) →
    exec (.dhcpLeaseEnd p) s = .next (({ s with ports := { s.ports with lease := s.ports.lease.set p none } }).ethShow p)) ∧
  (∀ (p : Fin 2) (s : State), ¬(s.due ((s.ports.lease.get p).map (fun l => l.2))) → exec (.dhcpLeaseEnd p) s = .next s) ∧
  -- DHCP_LEASE_OBTAINED (R492)
  (∀ (p : Fin 2) (addr : Word) (secs : Nat) (s : State), (s.boot.firmware && s.on HIF_ETH_STAT_LINK p.val && s.get HIF_ETH_CFG_IPV4 p.val == 2) →
    exec (.dhcpLeaseObtained p addr secs) s = .next (({ s with ports := { s.ports with lease := s.ports.lease.set p (some (addr, s.tick + 1000000 * secs)) } }).ethShow p)) ∧
  (∀ (p : Fin 2) (addr : Word) (secs : Nat) (s : State), ¬(s.boot.firmware && s.on HIF_ETH_STAT_LINK p.val && s.get HIF_ETH_CFG_IPV4 p.val == 2) →
    exec (.dhcpLeaseObtained p addr secs) s = .next s) ∧
  -- ETH_LINK_CHANGE (R491)
  (∀ (p : Fin 2) (line : EthLine) (speed : Fin 3) (dadFail : Bool) (slaac : Option (Fin 129)) (s : State), exec (.ethLinkChange p line speed dadFail slaac) s = .next (let s := s.setB HIF_ETH_STAT_LINK line.up p.val;
    let s := s.iff (line.up && line.refclk) (fun s => (s.set HIF_ETH_STAT_SPEED speed.val p.val).setB HIF_IP6_STAT_DAD_FAIL dadFail p.val);
    let slaac : Vector (Option Nat) 2 := s.ports.slaac.set p (slaac.map (fun (n : Fin 129) => n.val));
    let s := { s with ports := { s.ports with slaac := slaac, refclk := line.refclk } }; ((s.iff (!line.refclk) State.linkDown).ethShowAll).settle)) ∧
  -- PTP_SYNC (R500)
  (∀ (m : PtpFrom) (offset : Int) (delay sec ns : Nat) (s : State), (s.ptpTakes m && s.ports.ptpMaster == some (m.eth.val, m.master.toNat)) →
    (let s := ((s.incWrap HIF_PTP_STAT_SYNCS).setI HIF_PTP_OFS_NS offset).set HIF_PTP_DELAY_NS (min delay 0xFFFFFFFE);
    let s := s.set HIF_PTP_STAT_STATE 3;
    let s := { s with ports := { s.ports with ptpLast := s.tick }, tb := { s.tb with ptpSec := sec % 2 ^ 48, ptpNs := ns % 1000000000, ptpKnown := true } };
    !s.following ∧ s.get TB_SRC_CTRL_SRC = m.eth.val + 2 ∧ (s.get TB_DISC_STAT_STATE = 0 ∨ s.get TB_DISC_STAT_STATE = 3)) →
    exec (.ptpSync m offset delay sec ns) s = .next (let s := ((s.incWrap HIF_PTP_STAT_SYNCS).setI HIF_PTP_OFS_NS offset).set HIF_PTP_DELAY_NS (min delay 0xFFFFFFFE);
    let s := s.set HIF_PTP_STAT_STATE 3;
    let s := { s with ports := { s.ports with ptpLast := s.tick }, tb := { s.tb with ptpSec := sec % 2 ^ 48, ptpNs := ns % 1000000000, ptpKnown := true } };
    s.discAcquire)) ∧
  (∀ (m : PtpFrom) (offset : Int) (delay sec ns : Nat) (s : State), (s.ptpTakes m && s.ports.ptpMaster == some (m.eth.val, m.master.toNat)) →
    ¬(let s := ((s.incWrap HIF_PTP_STAT_SYNCS).setI HIF_PTP_OFS_NS offset).set HIF_PTP_DELAY_NS (min delay 0xFFFFFFFE);
    let s := s.set HIF_PTP_STAT_STATE 3;
    let s := { s with ports := { s.ports with ptpLast := s.tick }, tb := { s.tb with ptpSec := sec % 2 ^ 48, ptpNs := ns % 1000000000, ptpKnown := true } };
    !s.following ∧ s.get TB_SRC_CTRL_SRC = m.eth.val + 2 ∧ (s.get TB_DISC_STAT_STATE = 0 ∨ s.get TB_DISC_STAT_STATE = 3)) →
    exec (.ptpSync m offset delay sec ns) s = .next (let s := ((s.incWrap HIF_PTP_STAT_SYNCS).setI HIF_PTP_OFS_NS offset).set HIF_PTP_DELAY_NS (min delay 0xFFFFFFFE);
    let s := s.set HIF_PTP_STAT_STATE 3;
    let s := { s with ports := { s.ports with ptpLast := s.tick }, tb := { s.tb with ptpSec := sec % 2 ^ 48, ptpNs := ns % 1000000000, ptpKnown := true } };
    s)) ∧
  (∀ (m : PtpFrom) (offset : Int) (delay sec ns : Nat) (s : State), ¬(s.ptpTakes m && s.ports.ptpMaster == some (m.eth.val, m.master.toNat)) →
    exec (.ptpSync m offset delay sec ns) s = .next s) ∧
  -- PTP_ANNOUNCE (R500)
  (∀ (m : PtpFrom) (best : Bool) (s : State), (s.ptpTakes m) → (let s := s.incWrap HIF_PTP_CNT_ANNOUNCES;
    best ∧ s.ports.ptpMaster ≠ some (m.eth.val, m.master.toNat)) → exec (.ptpAnnounce m best) s = .next (let s := s.incWrap HIF_PTP_CNT_ANNOUNCES;
    let s := (s.set HIF_PTP_GM_LO_ID_LO m.master.toNat).set HIF_PTP_GM_HI_ID_HI (m.master.toNat / 2 ^ 32);
    let s := (s.set HIF_PTP_STAT_PORT m.eth.val).set HIF_PTP_STAT_STATE 2;
    { s with ports := { s.ports with ptpMaster := some (m.eth.val, m.master.toNat), ptpLast := s.tick } })) ∧
  (∀ (m : PtpFrom) (best : Bool) (s : State), (s.ptpTakes m) → ¬(let s := s.incWrap HIF_PTP_CNT_ANNOUNCES;
    best ∧ s.ports.ptpMaster ≠ some (m.eth.val, m.master.toNat)) → exec (.ptpAnnounce m best) s = .next (let s := s.incWrap HIF_PTP_CNT_ANNOUNCES; s)) ∧
  (∀ (m : PtpFrom) (best : Bool) (s : State), ¬(s.ptpTakes m) → exec (.ptpAnnounce m best) s = .next s) ∧
  (∀ (m : PtpFrom) (s : State), s.ptpTakes m = true → s.ports.ptpMaster ≠ some (m.eth.val, m.master.toNat) → Runs (.ptpAnnounce m true) s (fun t =>
  t.ports.ptpMaster = some (m.eth.val, m.master.toNat) ∧ t.ports.ptpLast = s.tick ∧ t.get HIF_PTP_STAT_STATE = 2 ∧ t.mem = s.mem)) ∧
  -- PTP_TIMEOUT (R500)
  (∀ s : State, (s.ports.ptpMaster = none) → exec .ptpTimeout s = .next s) ∧
  (∀ (s : State) m, (s.ports.ptpMaster = some m) → (s.ports.ptpLast + 1000000 * s.get HIF_PTP_CFG_PTP_TMO ≤ s.tick) →
    exec .ptpTimeout s = .next (let s := (s.inc HIF_PTP_CNT_TIMEOUTS).set HIF_PTP_STAT_STATE 1;
    let s := { s with ports := { s.ports with ptpMaster := none } }; s.iff (s.get TB_SRC_CTRL_SRC == m.1 + 2) State.discLost)) ∧
  (∀ (s : State) m, (s.ports.ptpMaster = some m) → ¬(s.ports.ptpLast + 1000000 * s.get HIF_PTP_CFG_PTP_TMO ≤ s.tick) → exec .ptpTimeout s = .next s) ∧
  (∀ (m : Nat × Nat) (s : State), s.ports.ptpMaster = some m → s.ports.ptpLast + 1000000 * s.get HIF_PTP_CFG_PTP_TMO ≤ s.tick →
  Runs .ptpTimeout s (fun t => t.ports.ptpMaster = none ∧ t.get HIF_PTP_STAT_STATE = 1 ∧ t.mem = s.mem)) ∧
  -- MDIO_READ (R505)
  (∀ (r : Requester) (p : Fin 2) (w : Word) (s : State), s.mayWrite r (HIF_MDIO_CMD_READ.at p.val) = true →
    exec (.mdioRead r p w) s = .next (let s := s.touch r; s.mdioCmd p.val (w ||| 0x400))) ∧
  -- MDIO_WRITE (R505)
  (∀ (r : Requester) (p : Fin 2) (w : Word) (s : State), s.mayWrite r (HIF_MDIO_CMD_READ.at p.val) = true →
    exec (.mdioWrite r p w) s = .next (let s := s.touch r; s.mdioCmd p.val (w ||| 0x800))) ∧
  -- MDIO_COMPLETE (R505)
  (∀ (data : BitVec 16) (s : State), s.ports.mdio = [] ∨ s.bankLive 2 = false → exec (.mdioComplete data) s = .next s) ∧
  (∀ (data : BitVec 16) (s : State) p a b rest, s.ports.mdio = (p, a, b, none) :: rest →
    s.bankLive 2 = true →
    exec (.mdioComplete data) s = .next ((({ s with ports := { s.ports with mdio := rest } }).set HIF_MDIO_DATA_DATA data.toNat p).setB HIF_MDIO_DATA_BUSY (rest.any (fun m => m.1 == p)) p)) ∧
  (∀ (data : BitVec 16) (s : State) p a b w rest, s.ports.mdio = (p, a, b, some w) :: rest →
    s.bankLive 2 = true →
    exec (.mdioComplete data) s = .next (({ s with ports := { s.ports with mdio := rest } }).setB HIF_MDIO_DATA_BUSY (rest.any (fun m => m.1 == p)) p))

/-- O48. Mailboxes. Each of these commands completes, in every state and for every operand that meet the conditions of the clause, which are conditions on
them alone and are those of the rule named with it, and the next state is the one given, with the command's own effect; the clauses take in every
form of the command, among them the states in which the rule gives it nothing to do; of a command that writes or reads a register they take in
the accesses that R71 lets pass, and RefusedCommands says what one that is refused does: SEND (R508), TAKE (R508), RECALL (R508),
MAILBOX_DATA_WRITE (R509), MAILBOX_TIMEOUT (R511). -/
def Obligations.MailboxCommands : Prop :=
  -- SEND (R508)
  (∀ (r : Requester) (out : Bool) (w : Word) (s : State), (let w : Word := w ||| 0x100; s.mayCommand r (mbxCmd out) (mbxRole (mbxCh w)) = true) →
    (let w : Word := w ||| 0x100; mbxForeign (mbxDevice r) out w) → exec (.mbxSend r out w) s = .next (let s := s.touch r;
    s.refuse r (mbxCmd out) .role)) ∧
  (∀ (r : Requester) (out : Bool) (w : Word) (s : State), (let w : Word := w ||| 0x100; s.mayCommand r (mbxCmd out) (mbxRole (mbxCh w)) = true) →
    ¬(let w : Word := w ||| 0x100; mbxForeign (mbxDevice r) out w) → exec (.mbxSend r out w) s = .next (let w : Word := w ||| 0x100;
    let s := s.touch r; s.mbxDo r out w)) ∧
  -- TAKE (R508)
  (∀ (r : Requester) (out : Bool) (w : Word) (s : State), (let w : Word := w ||| 0x200; s.mayCommand r (mbxCmd out) (mbxRole (mbxCh w)) = true) →
    (let w : Word := w ||| 0x200; mbxForeign (mbxDevice r) out w) → exec (.mbxTake r out w) s = .next (let s := s.touch r;
    s.refuse r (mbxCmd out) .role)) ∧
  (∀ (r : Requester) (out : Bool) (w : Word) (s : State), (let w : Word := w ||| 0x200; s.mayCommand r (mbxCmd out) (mbxRole (mbxCh w)) = true) →
    ¬(let w : Word := w ||| 0x200; mbxForeign (mbxDevice r) out w) → exec (.mbxTake r out w) s = .next (let w : Word := w ||| 0x200;
    let s := s.touch r; s.mbxDo r out w)) ∧
  -- RECALL (R508)
  (∀ (r : Requester) (out : Bool) (w : Word) (s : State), (let w : Word := w ||| 0x400; s.mayCommand r (mbxCmd out) (mbxRole (mbxCh w)) = true) →
    (let w : Word := w ||| 0x400; mbxForeign (mbxDevice r) out w) → exec (.mbxRecall r out w) s = .next (let s := s.touch r;
    s.refuse r (mbxCmd out) .role)) ∧
  (∀ (r : Requester) (out : Bool) (w : Word) (s : State), (let w : Word := w ||| 0x400; s.mayCommand r (mbxCmd out) (mbxRole (mbxCh w)) = true) →
    ¬(let w : Word := w ||| 0x400; mbxForeign (mbxDevice r) out w) → exec (.mbxRecall r out w) s = .next (let w : Word := w ||| 0x400;
    let s := s.touch r; s.mbxDo r out w)) ∧
  -- MAILBOX_DATA_WRITE (R509)
  (∀ (r : Requester) (off : BitVec 16) (w : Word) (s : State), exec (.mailboxDataWrite r off w) s = .next (let off : Nat := off.toNat;
    s.gate r (0x100000 + off) (fun s => match mailboxSpot (off % 0x8000) with | none => s | some (c, _) => (let out := decide (0x8000 ≤ off); let c : Fin 32 := ⟨c % 32, Nat.mod_lt c (by decide)⟩; if s.mbxFull out c then s.mbxReject r (0x100000 + off) out c else s.ranked r (0x100000 + off) (fun s => s.store (0x100000 + off) w))))) ∧
  (∀ (r : Requester) (off : BitVec 16) (w : Word) (c k : Nat) (s : State), s.mayWrite r (0x100000 + off.toNat) = true → mailboxSpot (off.toNat % 0x8000) = some (c, k) →
    (s.touch r).mbxFull (decide (0x8000 ≤ off.toNat)) ⟨c % 32, Nat.mod_lt c (by decide)⟩ = false →
    exec (.mailboxDataWrite r off w) s = .next ((s.touch r).ranked r (0x100000 + off.toNat) (fun s => s.store (0x100000 + off.toNat) w))) ∧
  (∀ (r : Requester) (off : BitVec 16) (w : Word) (c k : Nat) (s : State), s.mayWrite r (0x100000 + off.toNat) = true →
    mailboxSpot (off.toNat % 0x8000) = some (c, k) →
    (s.touch r).mbxFull (decide (0x8000 ≤ off.toNat)) ⟨c % 32, Nat.mod_lt c (by decide)⟩ = true →
    exec (.mailboxDataWrite r off w) s = .next ((s.touch r).mbxReject r (0x100000 + off.toNat) (decide (0x8000 ≤ off.toNat)) ⟨c % 32, Nat.mod_lt c (by decide)⟩)) ∧
  -- MAILBOX_TIMEOUT (R511)
  (∀ (out : Bool) (c : Fin 32) (s : State), (s.due (s.mbx.due.get (mbxIx out c))) →
    exec (.mailboxTimeout out c) s = .next (let s := { s with mbx := { s.mbx with due := s.mbx.due.set (mbxIx out c) none } };
    let s := s.setB (mbxField out MBX_IN_STAT_TIMEOUT MBX_OUT_STAT_TIMEOUT) true c.val;
    let s := s.setBit (mbxField out MBX_IN_TMO_MASK MBX_OUT_TMO_MASK) c.val true;
    (s.inc (mbxField out MBX_TMO_CNT_IN MBX_TMO_CNT_OUT)).event .mailboxTimeout 0 [c.val, if out then 1 else 0])) ∧
  (∀ (out : Bool) (c : Fin 32) (s : State), ¬(s.due (s.mbx.due.get (mbxIx out c))) → exec (.mailboxTimeout out c) s = .next s)

/-- O49. The watchdog. Each of these commands completes, in every state and for every operand that meet the conditions of the clause, which are conditions
on them alone and are those of the rule named with it, and the next state is the one given, with the command's own effect; the clauses take in
every form of the command, among them the states in which the rule gives it nothing to do; of a command that writes or reads a register they take
in the accesses that R71 lets pass, and RefusedCommands says what one that is refused does: WDI_TOGGLE (R519), WDG_OPEN_PHASE_END (R519),
WDG_CLOSED_PHASE_END (R518), WDG_PULSE_END (R522), WDG_SUSPENSION_END (R521). -/
def Obligations.WatchdogCommands : Prop :=
  -- WDI_TOGGLE (R519)
  (∀ s : State, exec .wdiToggle s = .next ({ s with wdg := { s.wdg with wdi := !s.wdg.wdi, wdiSince := s.tick } })) ∧
  -- WDG_OPEN_PHASE_END (R519)
  (∀ s : State, (s.due s.wdg.openEnd ∧ s.get WDG_STATE_STATE ≠ 2) → exec .wdgOpenPhaseEnd s = .next (s.wdgExpire 1)) ∧
  (∀ s : State, ¬(s.due s.wdg.openEnd ∧ s.get WDG_STATE_STATE ≠ 2) → exec .wdgOpenPhaseEnd s = .next s) ∧
  -- WDG_CLOSED_PHASE_END (R518)
  (∀ s : State, (s.due s.wdg.closedEnd) → exec .wdgClosedPhaseEnd s = .next (let s := s.set WDG_STATE_PHASE 1;
    { s with wdg := { s.wdg with closedEnd := none } })) ∧
  (∀ s : State, ¬(s.due s.wdg.closedEnd) → exec .wdgClosedPhaseEnd s = .next s) ∧
  (∀ s : State, s.due s.wdg.closedEnd = true →
    Runs .wdgClosedPhaseEnd s (fun t => t.get WDG_STATE_PHASE = 1 ∧ t.wdg = { s.wdg with closedEnd := none } ∧ t.mem = s.mem)) ∧
  -- WDG_PULSE_END (R522)
  (∀ s : State, (s.due (s.wdg.pulse.map (fun p => p.1))) → exec .wdgPulseEnd s = .next (let s := { s with wdg := { s.wdg with pulse := none } };
    s.each (List.finRange 8) (fun s k => if s.rstCond k.val then { s with seq := { s.seq with rst := s.seq.rst.set k (some ((s.seq.rst.get k).getD s.tick)) } } else { (s.setB SEQ_RST_TIME_ASSERTED true k.val) with seq := { s.seq with rst := s.seq.rst.set k none } }))) ∧
  (∀ s : State, ¬(s.due (s.wdg.pulse.map (fun p => p.1))) → exec .wdgPulseEnd s = .next s) ∧
  -- WDG_SUSPENSION_END (R521)
  (∀ s : State, (s.due s.wdg.openEnd ∧ s.get WDG_STATE_STATE = 2) → exec .wdgSuspensionEnd s = .next (s.wdgExpire 1)) ∧
  (∀ s : State, ¬(s.due s.wdg.openEnd ∧ s.get WDG_STATE_STATE = 2) → exec .wdgSuspensionEnd s = .next s)

/-- O50. The Kiln and NVM. Each of these commands completes, in every state and for every operand that meet the conditions of the clause, which are
conditions on them alone and are those of the rule named with it, and the next state is the one given, with the command's own effect; the clauses
take in every form of the command, among them the states in which the rule gives it nothing to do; of a command that writes or reads a register
they take in the accesses that R71 lets pass, and RefusedCommands says what one that is refused does: BAKE (R537), BAKE_COMPLETE (R538), WIPE
(R540), WIPE_COMPLETE (R540), TILLING_VISIT (R541), ECC_CORRECT_REWRITE (R531), KLN_NEXT_LEN_UPDATE (R536). -/
def Obligations.NvmCommands : Prop :=
  -- BAKE (R537)
  (∀ (r : Requester) (s : State), s.mayCommand r KLN_CMD_BAKE.addr .curator = true → (let s := s.touch r; s.nvm.bake.isSome) →
    exec (.bake r) s = .next (let s := s.touch r; s)) ∧
  (∀ (r : Requester) (s : State), s.mayCommand r KLN_CMD_BAKE.addr .curator = true → ¬(let s := s.touch r; s.nvm.bake.isSome) →
    exec (.bake r) s = .next (let s := s.touch r; (s.bakeCmd r).iff (!fromPartner r) (fun s => s.mirrorCommand 1))) ∧
  -- BAKE_COMPLETE (R538)
  (∀ (good : Bool) (s : State), (s.nvm.bake = none) → exec (.bakeComplete good) s = .next s) ∧
  (∀ (good : Bool) (s : State) k t c, (s.nvm.bake = some (k, t, c)) → (s.nvm.strata ∨ s.tick < t + c.len / 4) → exec (.bakeComplete good) s = .next s) ∧
  (∀ (good : Bool) (s : State) k t c, (s.nvm.bake = some (k, t, c)) → ¬(s.nvm.strata ∨ s.tick < t + c.len / 4) →
    exec (.bakeComplete good) s = .next (s.bakeDone k t c good)) ∧
  -- WIPE (R540)
  (∀ (r : Requester) (w : Word) (s : State), s.mayCommand r NVM_WIPE_CMD_WIPE.addr .curator = true → ¬(let w : Word := w ||| 0x100; bitsOf w 8 1 = 0) →
    (let s := s.touch r; let w : Word := w ||| 0x100; let n := bitsOf w 0 8; bitsOf w 16 16 ≠ 0x3C3C ∨ s.nvm.wipe.isSome ∨ !s.mayWipe n) →
    exec (.wipe r w) s = .next (let s := s.touch r; let w : Word := w ||| 0x100; let n := bitsOf w 0 8;
    (s.set NVM_WIPE_STAT_RESULT 2).event .wipeRefused 0 [n])) ∧
  (∀ (r : Requester) (w : Word) (s : State), s.mayCommand r NVM_WIPE_CMD_WIPE.addr .curator = true → ¬(let w : Word := w ||| 0x100; bitsOf w 8 1 = 0) →
    ¬(let s := s.touch r; let w : Word := w ||| 0x100; let n := bitsOf w 0 8; bitsOf w 16 16 ≠ 0x3C3C ∨ s.nvm.wipe.isSome ∨ !s.mayWipe n) →
    exec (.wipe r w) s = .next (let s := s.touch r; let w : Word := w ||| 0x100; let n := bitsOf w 0 8;
    let s := (s.set NVM_WIPE_STAT_SECTOR n).set NVM_WIPE_STAT_RESULT 0; ({ s with nvm := { s.nvm with wipe := some (n, s.tick) } }).wdgSuspend)) ∧
  -- WIPE_COMPLETE (R540)
  (∀ s : State, (s.nvm.wipe = none) → exec .wipeComplete s = .next s) ∧
  (∀ (s : State) n t, (s.nvm.wipe = some (n, t)) → (let s := { s with nvm := { s.nvm with wipe := none } };
    let s := (s.sectorWiped n).set NVM_WIPE_STAT_RESULT 1; let s := s.set NVM_WIPE_STAT_MS (min ((s.tick - t + 999) / 1000) 65535);
    s.get WDG_STATE_STATE = 2) → exec .wipeComplete s = .next (let s := { s with nvm := { s.nvm with wipe := none } };
    let s := (s.sectorWiped n).set NVM_WIPE_STAT_RESULT 1; let s := s.set NVM_WIPE_STAT_MS (min ((s.tick - t + 999) / 1000) 65535);
    let e := s.tick + s.wdgClosed + s.wdgOpen; let s := (s.set WDG_STATE_PHASE 1).set WDG_OPEN_END_TICK e;
    ({ s with wdg := { s.wdg with openEnd := some e } }).settle)) ∧
  (∀ (s : State) n t, (s.nvm.wipe = some (n, t)) → ¬(let s := { s with nvm := { s.nvm with wipe := none } };
    let s := (s.sectorWiped n).set NVM_WIPE_STAT_RESULT 1; let s := s.set NVM_WIPE_STAT_MS (min ((s.tick - t + 999) / 1000) 65535);
    s.get WDG_STATE_STATE = 2) → exec .wipeComplete s = .next (let s := { s with nvm := { s.nvm with wipe := none } };
    let s := (s.sectorWiped n).set NVM_WIPE_STAT_RESULT 1; let s := s.set NVM_WIPE_STAT_MS (min ((s.tick - t + 999) / 1000) 65535); s.settle)) ∧
  (∀ (n b : Nat) (s : State), s.nvm.wipe = some (n, b) → Runs .wipeComplete s (fun t => t.nvm.wipe = none ∧ t.tick = s.tick)) ∧
  -- TILLING_VISIT (R541)
  (∀ (found : WordError) (s : State), (let off := s.nvm.till;
    !s.on NVM_CTRL_TILL_EN ∨ s.tick < s.tillDue ∨ s.nvm.strata ∨ s.nvm.wipe.isSome ∨ !s.nvm.waiting.isEmpty ∨ (s.nvm.bake.isSome ∧ !s.bakedWord off)) →
    exec (.tillingVisit found) s = .next s) ∧
  (∀ (found : WordError) (s : State), ¬(let off := s.nvm.till;
    !s.on NVM_CTRL_TILL_EN ∨ s.tick < s.tillDue ∨ s.nvm.strata ∨ s.nvm.wipe.isSome ∨ !s.nvm.waiting.isEmpty ∨ (s.nvm.bake.isSome ∧ !s.bakedWord off)) →
    exec (.tillingVisit found) s = .next (let off := s.nvm.till;
    let s := (if s.bakedWord off then s else (let s := (match found with | .none => s | .single => (s.inc NVM_ECC_SEC).inc SAF_CLASS_CNT_COUNT 2 | .double => s.nvmFound off .double); match found with | .double => s | _ => s.nvmStore off (s.nvmWord off)));
    let next := (off + 4) % 0x1000000; let s := s.iff (next == 0) (fun s => s.inc NVM_TILL_STAT_PASSES);
    let s := s.set NVM_TILL_STAT_PCT (next * 100 / 0x1000000);
    let marks := (if off % 0x10000 = 0 then put (fun _ => 0) s.nvm.marks (off / 0x10000) s.tick else s.nvm.marks);
    let origin := (if next = 0 then s.nvm.tillFrom + s.tillTicks else s.nvm.tillFrom);
    { s with nvm := { s.nvm with till := next, marks := marks, tillFrom := origin } })) ∧
  (∀ (f : WordError) (s : State), s.on NVM_CTRL_TILL_EN = true → s.nvm.strata = false → s.nvm.wipe = none → s.nvm.bake = none → s.tillDue ≤ s.tick → s.nvm.waiting = [] →
  Runs (.tillingVisit f) s (fun t => t.nvm.till = (s.nvm.till + 4) % 0x1000000 ∧ t.tick = s.tick)) ∧
  -- ECC_CORRECT_REWRITE (R531)
  (∀ s : State, s.nvm.corrected = [] ∨ (!s.nvmFree ∨ s.nvm.wipe.isSome ∨ !s.nvm.waiting.isEmpty) → exec .eccCorrectRewrite s = .next s) ∧
  (∀ (s : State) off b rest, s.nvm.corrected = (off, b) :: rest → ¬(!s.nvmFree ∨ s.nvm.wipe.isSome ∨ !s.nvm.waiting.isEmpty) →
    exec .eccCorrectRewrite s = .next (({ s with nvm := { s.nvm with corrected := rest } }).nvmStore off (s.nvmWord off))) ∧
  -- KLN_NEXT_LEN_UPDATE (R536)
  (∀ s : State, (s.tick % 1000 = 0) → exec .klnNextLenUpdate s = .next (s.set KLN_NEXT_LEN_LEN s.kilnImage.len)) ∧
  (∀ s : State, ¬(s.tick % 1000 = 0) → exec .klnNextLenUpdate s = .next s)

/-- O51. The update chain. Each of these commands completes, in every state and for every operand that meet the conditions of the clause, which are
conditions on them alone and are those of the rule named with it, and the next state is the one given, with the command's own effect; the clauses
take in every form of the command, among them the states in which the rule gives it nothing to do; of a command that writes or reads a register
they take in the accesses that R71 lets pass, and RefusedCommands says what one that is refused does: BLOCK (R554), CHAIN_ACK (R554), CHAIN_NAK
(R554), HELLO (R553), STATUS (R553), HELLO_SEND (R553), CHAIN_PORT_TIMEOUT (R553), CHAIN_RETRANSMIT (R554), RESET_LINK (R572). -/
def Obligations.ChainCommands : Prop :=
  -- BLOCK (R554)
  (∀ (h : ChainHead) (payload : List Byte) (busy : Bool) (s : State), (!s.chainOn h.port ∨ !s.chainUp h.port) →
    exec (.chainBlock h payload busy) s = .next s) ∧
  (∀ (h : ChainHead) (payload : List Byte) (busy : Bool) (s : State), ¬(!s.chainOn h.port ∨ !s.chainUp h.port) → (h.aborted ∨ !h.crcOk) → h.aborted →
    exec (.chainBlock h payload busy) s = .next (let cut := s.cuts h busy;
    let s := s.iff cut (fun s => (s.inc CHN_ABORT_ABORTED).chainSend (otherPort h.port) (.block h.image h.block.toNat (h.hop.toNat + 1) false true payload));
    s)) ∧
  (∀ (h : ChainHead) (payload : List Byte) (busy : Bool) (s : State), ¬(!s.chainOn h.port ∨ !s.chainUp h.port) → (h.aborted ∨ !h.crcOk) → ¬h.aborted →
    exec (.chainBlock h payload busy) s = .next (let cut := s.cuts h busy;
    let s := s.iff cut (fun s => (s.inc CHN_ABORT_ABORTED).chainSend (otherPort h.port) (.block h.image h.block.toNat (h.hop.toNat + 1) false true payload));
    let s := s.inc CHN_ERR_CRC h.port.val; let reason : Nat := 1;
    ((s.inc CHN_ABORT_NAK_SENT).set CHN_LAST_NAK_REASON reason).chainSend h.port (.nak h.image h.block.toNat reason))) ∧
  (∀ (h : ChainHead) (payload : List Byte) (busy : Bool) (s : State), ¬(!s.chainOn h.port ∨ !s.chainUp h.port) → ¬(h.aborted ∨ !h.crcOk) →
    (h.block = 0) → exec (.chainBlock h payload busy) s = .next (let s := s.incWrap CHN_RX_CNT_FRAMES h.port.val; (s.blockZero h payload).settle)) ∧
  (∀ (h : ChainHead) (payload : List Byte) (busy : Bool) (s : State), ¬(!s.chainOn h.port ∨ !s.chainUp h.port) → ¬(h.aborted ∨ !h.crcOk) →
    ¬(h.block = 0) → exec (.chainBlock h payload busy) s = .next (let cut := s.cuts h busy; let s := s.incWrap CHN_RX_CNT_FRAMES h.port.val;
    (s.blockMore h payload cut).settle)) ∧
  -- CHAIN_ACK (R554)
  (∀ (h : ChainHead) (s : State), (!s.chainOn h.port || h.aborted) → exec (.chainAck h) s = .next s) ∧
  (∀ (h : ChainHead) (s : State), ¬(!s.chainOn h.port || h.aborted) → (!h.crcOk) → exec (.chainAck h) s = .next (s.inc CHN_ERR_CRC h.port.val)) ∧
  (∀ (h : ChainHead) (s : State), ¬(!s.chainOn h.port || h.aborted) → ¬(!h.crcOk) →
    exec (.chainAck h) s = .next (let f := fun s => if h.image.toNat ≠ s.get CHN_IMAGE_ID then s else (let x := s.cport h.port; (s.setCport h.port { x with sent := x.sent.filter (fun y => y.b != h.block.toNat) }).pumpAll h.port); f (s.incWrap CHN_RX_CNT_FRAMES h.port.val))) ∧
  (∀ (h : ChainHead) (s : State), s.chainOn h.port = true → h.aborted = false → h.crcOk = true →
  h.image.toNat = (s.incWrap CHN_RX_CNT_FRAMES h.port.val).get CHN_IMAGE_ID →
    Runs (.chainAck h) s (fun t => ∃ u : State,
    t = u.pumpAll h.port ∧ (u.cport h.port).sent = ((s.incWrap CHN_RX_CNT_FRAMES h.port.val).cport h.port).sent.filter (fun y => y.b != h.block.toNat))) ∧
  (∀ (h : ChainHead) (s : State), s.chainOn h.port = true → h.aborted = false → h.crcOk = true →
    exec (.chainAck h) s = .next (let s := s.incWrap CHN_RX_CNT_FRAMES h.port.val;
    (if h.image.toNat ≠ s.get CHN_IMAGE_ID then s else let x := s.cport h.port; (s.setCport h.port { x with sent := x.sent.filter (fun y => y.b != h.block.toNat) }).pumpAll h.port))) ∧
  (∀ (h : ChainHead) (s : State), s.chainOn h.port = true → h.aborted = false → h.crcOk = false →
    exec (.chainAck h) s = .next (s.inc CHN_ERR_CRC h.port.val)) ∧
  -- CHAIN_NAK (R554)
  (∀ (h : ChainHead) (reason : Fin 6) (s : State), (!s.chainOn h.port || h.aborted) → exec (.chainNak h reason) s = .next s) ∧
  (∀ (h : ChainHead) (reason : Fin 6) (s : State), ¬(!s.chainOn h.port || h.aborted) → (!h.crcOk) →
    exec (.chainNak h reason) s = .next (s.inc CHN_ERR_CRC h.port.val)) ∧
  (∀ (h : ChainHead) (reason : Fin 6) (s : State), ¬(!s.chainOn h.port || h.aborted) → ¬(!h.crcOk) →
    exec (.chainNak h reason) s = .next (let f := fun s => let s := s.inc CHN_RETX_NAK_RX h.port.val; if reason = 1 ∧ h.image.toNat = s.get CHN_IMAGE_ID ∧ s.chainUp h.port then s.resend h.port h.block.toNat else s; f (s.incWrap CHN_RX_CNT_FRAMES h.port.val))) ∧
  (∀ (h : ChainHead) (reason : Fin 6) (s : State), s.chainOn h.port = true → h.aborted = false → h.crcOk = true →
    exec (.chainNak h reason) s = .next (let s := s.incWrap CHN_RX_CNT_FRAMES h.port.val; let s := s.inc CHN_RETX_NAK_RX h.port.val;
    (if reason = 1 ∧ h.image.toNat = s.get CHN_IMAGE_ID ∧ s.chainUp h.port then s.resend h.port h.block.toNat else s))) ∧
  (∀ (h : ChainHead) (reason : Fin 6) (s : State), s.chainOn h.port = true → h.aborted = false → h.crcOk = false →
    exec (.chainNak h reason) s = .next (s.inc CHN_ERR_CRC h.port.val)) ∧
  -- HELLO (R553)
  (∀ (h : ChainHead) (uid : BitVec 64) (st : Fin 8) (result : Fin 16) (ready : Bool) (s : State), (!s.chainOn h.port || h.aborted) →
    exec (.chainHello h uid st result ready) s = .next s) ∧
  (∀ (h : ChainHead) (uid : BitVec 64) (st : Fin 8) (result : Fin 16) (ready : Bool) (s : State), ¬(!s.chainOn h.port || h.aborted) → (!h.crcOk) →
    exec (.chainHello h uid st result ready) s = .next (s.inc CHN_ERR_CRC h.port.val)) ∧
  (∀ (h : ChainHead) (uid : BitVec 64) (st : Fin 8) (result : Fin 16) (ready : Bool) (s : State), ¬(!s.chainOn h.port || h.aborted) → ¬(!h.crcOk) →
    exec (.chainHello h uid st result ready) s = .next (let f := fun s => s.helloRx h.port uid st result ready; f (s.incWrap CHN_RX_CNT_FRAMES h.port.val))) ∧
  (∀ (h : ChainHead) (uid : BitVec 64) (st : Fin 8) (result : Fin 16) (ready : Bool) (s : State), s.chainOn h.port = true → h.aborted = false →
    h.crcOk = true → exec (.chainHello h uid st result ready) s = .next (let s := s.incWrap CHN_RX_CNT_FRAMES h.port.val;
    s.helloRx h.port uid st result ready)) ∧
  (∀ (h : ChainHead) (uid : BitVec 64) (st : Fin 8) (result : Fin 16) (ready : Bool) (s : State), s.chainOn h.port = true → h.aborted = false →
    h.crcOk = false → exec (.chainHello h uid st result ready) s = .next (s.inc CHN_ERR_CRC h.port.val)) ∧
  -- STATUS (R553)
  (∀ (h : ChainHead) (payload : List Byte) (s : State), (!s.chainOn h.port || h.aborted) → exec (.chainStatus h payload) s = .next s) ∧
  (∀ (h : ChainHead) (payload : List Byte) (s : State), ¬(!s.chainOn h.port || h.aborted) → (!h.crcOk) →
    exec (.chainStatus h payload) s = .next (s.inc CHN_ERR_CRC h.port.val)) ∧
  (∀ (h : ChainHead) (payload : List Byte) (s : State), ¬(!s.chainOn h.port || h.aborted) → ¬(!h.crcOk) →
    exec (.chainStatus h payload) s = .next (let f := fun s => if s.chainUp h.port && s.chainUp (otherPort h.port) then s.chainSend (otherPort h.port) (.status payload) else s; f (s.incWrap CHN_RX_CNT_FRAMES h.port.val))) ∧
  (∀ (h : ChainHead) (payload : List Byte) (s : State), s.chainOn h.port = true → h.aborted = false → h.crcOk = true →
    exec (.chainStatus h payload) s = .next (let s := s.incWrap CHN_RX_CNT_FRAMES h.port.val;
    (if s.chainUp h.port && s.chainUp (otherPort h.port) then s.chainSend (otherPort h.port) (.status payload) else s))) ∧
  (∀ (h : ChainHead) (payload : List Byte) (s : State), s.chainOn h.port = true → h.aborted = false → h.crcOk = false →
    exec (.chainStatus h payload) s = .next (s.inc CHN_ERR_CRC h.port.val)) ∧
  -- HELLO_SEND (R553)
  (∀ s : State, (s.chn.helloSent + 100000 ≤ s.tick ∧ (s.chainOn 0 ∨ s.chainOn 1)) →
    exec .helloSend s = .next (let s := s.each ((List.finRange 2).filter (fun p => s.chainOn p)) (fun s p => s.chainSend p (.hello s.helloBytes));
    { s with chn := { s.chn with helloSent := s.tick } })) ∧
  (∀ s : State, ¬(s.chn.helloSent + 100000 ≤ s.tick ∧ (s.chainOn 0 ∨ s.chainOn 1)) → exec .helloSend s = .next s) ∧
  (∀ s : State, s.chn.helloSent + 100000 ≤ s.tick → s.chainOn 0 = true ∨ s.chainOn 1 = true →
    Runs .helloSend s (fun t => t.chn.helloSent = s.tick ∧ t.tick = s.tick)) ∧
  -- CHAIN_PORT_TIMEOUT (R553)
  (∀ (p : Fin 2) (codes : Nat) (s : State), (!s.chainOn p) → exec (.chainPortTimeout p codes) s = .next s) ∧
  (∀ (p : Fin 2) (codes : Nat) (s : State), ¬(!s.chainOn p) → (let w := s.tick / 1000000; let x := s.cport p;
    let n := (if x.codes.1 = w then x.codes.2 + codes else codes); let s := (s.addSat CHN_ERR_CODE codes p.val).setCport p { x with codes := (w, n) };
    s.chainUp p ∧ (16 < n ∨ s.helloLate p)) → exec (.chainPortTimeout p codes) s = .next (let w := s.tick / 1000000; let x := s.cport p;
    let n := (if x.codes.1 = w then x.codes.2 + codes else codes); let s := (s.addSat CHN_ERR_CODE codes p.val).setCport p { x with codes := (w, n) };
    s.chainDown p)) ∧
  (∀ (p : Fin 2) (codes : Nat) (s : State), ¬(!s.chainOn p) → ¬(let w := s.tick / 1000000; let x := s.cport p;
    let n := (if x.codes.1 = w then x.codes.2 + codes else codes); let s := (s.addSat CHN_ERR_CODE codes p.val).setCport p { x with codes := (w, n) };
    s.chainUp p ∧ (16 < n ∨ s.helloLate p)) → exec (.chainPortTimeout p codes) s = .next (let w := s.tick / 1000000; let x := s.cport p;
    let n := (if x.codes.1 = w then x.codes.2 + codes else codes); let s := (s.addSat CHN_ERR_CODE codes p.val).setCport p { x with codes := (w, n) };
    s)) ∧
  -- CHAIN_RETRANSMIT (R554)
  (∀ (p : Fin 2) (s : State), (!s.chainUp p) → exec (.chainRetransmit p) s = .next s) ∧
  (∀ (p : Fin 2) (s : State), ¬(!s.chainUp p) →
    exec (.chainRetransmit p) s = .next (s.each ((s.cport p).sent.filter (fun y => decide (y.at_ + 1000 * s.get CHN_TIME_RETX_MS ≤ s.tick))) (fun s y => s.resend p y.b))) ∧
  -- RESET_LINK (R572)
  (∀ (r : Requester) (w : Word) (s : State), s.mayWrite r CHN_CMD_PORT.addr = true → (let s := s.touch r; let p : Fin 2 := Fin.ofNat 2 (bitsOf w 0 1);
    s.chainUp p) → exec (.resetLink r w) s = .next (let s := s.touch r; let p : Fin 2 := Fin.ofNat 2 (bitsOf w 0 1);
    ((s.setB CHN_PORT_STAT_LINK false p.val).setB CHN_PORT_STAT_LOCKED false p.val).inc CHN_PORT_STAT_DOWNS p.val)) ∧
  (∀ (r : Requester) (w : Word) (s : State), s.mayWrite r CHN_CMD_PORT.addr = true → ¬(let s := s.touch r; let p : Fin 2 := Fin.ofNat 2 (bitsOf w 0 1);
    s.chainUp p) → exec (.resetLink r w) s = .next (let s := s.touch r; s))

/-- O52. Staging, trial and module updates. Each of these commands completes, in every state and for every operand that meet the conditions of the clause,
which are conditions on them alone and are those of the rule named with it, and the next state is the one given, with the command's own effect;
the clauses take in every form of the command, among them the states in which the rule gives it nothing to do; of a command that writes or reads
a register they take in the accesses that R71 lets pass, and RefusedCommands says what one that is refused does: STAGING_RX_TIMEOUT (R561),
ACTIVATE (R563), DISCARD (R561), UPD_REVERT (R568), MODULE_BANK_REPORT (R566), MODULE_TIMEOUT (R566), TRIAL_TIMEOUT (R566). -/
def Obligations.UpdateCommands : Prop :=
  -- STAGING_RX_TIMEOUT (R561)
  (∀ s : State, (s.get UPD_STATE_STATE = 1 ∧ s.upd.lastNew + 1000000 * s.get UPD_CFG_RX_TMO_S ≤ s.tick) →
    exec .stagingRxTimeout s = .next (let result : Nat := 6;
    let s := { s with upd := { s.upd with manifest := none, stored := [], targets := none }, chn := { s.chn with held := [] } };
    let s := s.each (List.finRange 2) (fun s p => s.setCport p { s.cport p with sent := [], queue := [] }); let s := s.showParts ⟨0, 0, 0, 0, []⟩ 0;
    ((s.updEnter 0 result 0xFF).set UPD_IMAGE_ID 0).set UPD_REL_NEW_REL 0)) ∧
  (∀ s : State, ¬(s.get UPD_STATE_STATE = 1 ∧ s.upd.lastNew + 1000000 * s.get UPD_CFG_RX_TMO_S ≤ s.tick) → exec .stagingRxTimeout s = .next s) ∧
  -- ACTIVATE (R563)
  (∀ (r : Requester) (s : State), s.mayWrite r UPD_CMD_ACTIVATE.addr = true → (let s := s.touch r;
    s.get UPD_STATE_STATE = 2 ∧ (s.on SYS_STAT_NO_FW ∨ (s.power = .normal ∧ s.full))) → exec (.updActivate r) s = .next (let s := s.touch r;
    let s := s.writeSelector { s.selector with trial := true, boots := 0, relT := s.get UPD_REL_NEW_REL, image := s.get UPD_IMAGE_ID };
    let s := { s with upd := { s.upd with activatedAt := s.tick, targets := none, cur := none } }; ((s.updEnter 3 0 0xFF).coreRestart).settle)) ∧
  (∀ (r : Requester) (s : State), s.mayWrite r UPD_CMD_ACTIVATE.addr = true → ¬(let s := s.touch r;
    s.get UPD_STATE_STATE = 2 ∧ (s.on SYS_STAT_NO_FW ∨ (s.power = .normal ∧ s.full))) → exec (.updActivate r) s = .next (let s := s.touch r;
    s.event .activateRefused)) ∧
  -- DISCARD (R561)
  (∀ (r : Requester) (s : State), s.mayWrite r UPD_CMD_ACTIVATE.addr = true → (let s := s.touch r;
    s.get UPD_STATE_STATE = 1 ∨ s.get UPD_STATE_STATE = 2) → exec (.updDiscard r) s = .next (let s := s.touch r; let result : Nat := 9;
    let s := { s with upd := { s.upd with manifest := none, stored := [], targets := none }, chn := { s.chn with held := [] } };
    let s := s.each (List.finRange 2) (fun s p => s.setCport p { s.cport p with sent := [], queue := [] }); let s := s.showParts ⟨0, 0, 0, 0, []⟩ 0;
    ((s.updEnter 0 result 0xFF).set UPD_IMAGE_ID 0).set UPD_REL_NEW_REL 0)) ∧
  (∀ (r : Requester) (s : State), s.mayWrite r UPD_CMD_ACTIVATE.addr = true → ¬(let s := s.touch r;
    s.get UPD_STATE_STATE = 1 ∨ s.get UPD_STATE_STATE = 2) → exec (.updDiscard r) s = .next (let s := s.touch r; s)) ∧
  -- UPD_REVERT (R568)
  (∀ (r : Requester) (s : State), s.mayWrite r UPD_CMD_ACTIVATE.addr = true → (let s := s.touch r; s.get UPD_STATE_STATE = 4) →
    exec (.updRevert r) s = .next (let s := s.touch r; (s.revertBegin 10 0xFF).settle)) ∧
  (∀ (r : Requester) (s : State), s.mayWrite r UPD_CMD_ACTIVATE.addr = true → ¬(let s := s.touch r; s.get UPD_STATE_STATE = 4) →
    exec (.updRevert r) s = .next (let s := s.touch r; s)) ∧
  -- MODULE_BANK_REPORT (R566)
  (∀ s : State, (s.twb.modRes = []) → exec .moduleBankReport s = .next s.settle) ∧
  (∀ (s : State) n cmd r rest, (s.twb.modRes = (n, cmd, r) :: rest) → (let report : Bool := true; (cmd == 0xE2) != report) →
    exec .moduleBankReport s = .next s.settle) ∧
  (∀ (s : State) n cmd r rest, (s.twb.modRes = (n, cmd, r) :: rest) → ¬(let report : Bool := true; (cmd == 0xE2) != report) →
    ((let s := { s with twb := { s.twb with modRes := rest } }; s.upd.cur) = none) →
    exec .moduleBankReport s = .next (let s := { s with twb := { s.twb with modRes := rest } }; s.settle)) ∧
  (∀ (s : State) n cmd r rest i, (s.twb.modRes = (n, cmd, r) :: rest) → ¬(let report : Bool := true; (cmd == 0xE2) != report) →
    ((let s := { s with twb := { s.twb with modRes := rest } }; s.upd.cur) = some i) →
    ((let s := { s with twb := { s.twb with modRes := rest } }; s.modTargets[i]?) = none) →
    exec .moduleBankReport s = .next (let s := { s with twb := { s.twb with modRes := rest } }; s.settle)) ∧
  (∀ (s : State) n cmd r rest i t, (s.twb.modRes = (n, cmd, r) :: rest) → ¬(let report : Bool := true; (cmd == 0xE2) != report) →
    ((let s := { s with twb := { s.twb with modRes := rest } }; s.upd.cur) = some i) →
    ((let s := { s with twb := { s.twb with modRes := rest } }; s.modTargets[i]?) = some t) → (t.entry ≠ n ∨ t.asks ≠ cmd) →
    exec .moduleBankReport s = .next (let s := { s with twb := { s.twb with modRes := rest } }; s.settle)) ∧
  (∀ (s : State) n cmd r rest i t, (s.twb.modRes = (n, cmd, r) :: rest) → ¬(let report : Bool := true; (cmd == 0xE2) != report) →
    ((let s := { s with twb := { s.twb with modRes := rest } }; s.upd.cur) = some i) →
    ((let s := { s with twb := { s.twb with modRes := rest } }; s.modTargets[i]?) = some t) → ¬(t.entry ≠ n ∨ t.asks ≠ cmd) →
    (let report : Bool := true; report) → (r.code = 0 ∧ r.data.length = 4) →
    exec .moduleBankReport s = .next (let s := { s with twb := { s.twb with modRes := rest } }; let s := { s with upd := { s.upd with cur := none } };
    (s.modReport i t r.data).settle)) ∧
  (∀ (s : State) n cmd r rest i t, (s.twb.modRes = (n, cmd, r) :: rest) → ¬(let report : Bool := true; (cmd == 0xE2) != report) →
    ((let s := { s with twb := { s.twb with modRes := rest } }; s.upd.cur) = some i) →
    ((let s := { s with twb := { s.twb with modRes := rest } }; s.modTargets[i]?) = some t) → ¬(t.entry ≠ n ∨ t.asks ≠ cmd) →
    (let report : Bool := true; report) → ¬(r.code = 0 ∧ r.data.length = 4) →
    exec .moduleBankReport s = .next (let s := { s with twb := { s.twb with modRes := rest } }; let s := { s with upd := { s.upd with cur := none } };
    (s.modFail i t).settle)) ∧
  -- MODULE_TIMEOUT (R566)
  (∀ s : State, (s.get UPD_STATE_STATE ≠ 4) → exec .moduleTimeout s = .next s) ∧
  (∀ (s : State) t, ¬(s.get UPD_STATE_STATE ≠ 4) →
    (s.modTargets.find? (fun t => t.phase == .trial && decide (t.at_ + 1000000 * s.get UPD_MOD_CFG_MOD_TMO_S ≤ s.tick)) = some t) →
    (s.get UPD_STATE_STATE = 4) → exec .moduleTimeout s = .next (((s.set UPD_MOD_FAIL_ENTRY t.entry).revertBegin 5 t.part).settle)) ∧
  (∀ s : State, ¬(s.get UPD_STATE_STATE ≠ 4) →
    (s.modTargets.find? (fun t => t.phase == .trial && decide (t.at_ + 1000000 * s.get UPD_MOD_CFG_MOD_TMO_S ≤ s.tick)) = none) →
    exec .moduleTimeout s = .next s) ∧
  -- TRIAL_TIMEOUT (R566)
  (∀ s : State, (s.get UPD_STATE_STATE = 4 ∧ s.upd.activatedAt + 1000000 * s.get UPD_CFG_TRIAL_S ≤ s.tick ∧ !s.modTargets.any (fun t => t.phase == .commit || t.phase == .finished)) →
    exec .trialTimeout s = .next ((s.revertBegin 6 0xFF).settle)) ∧
  (∀ s : State, ¬(s.get UPD_STATE_STATE = 4 ∧ s.upd.activatedAt + 1000000 * s.get UPD_CFG_TRIAL_S ≤ s.tick ∧ !s.modTargets.any (fun t => t.phase == .commit || t.phase == .finished)) →
    exec .trialTimeout s = .next s)

/-- O53. Fault coverage: core comparison, Sieve, droops and telemetry. Each of these commands completes, in every state and for every operand that meet
the conditions of the clause, which are conditions on them alone and are those of the rule named with it, and the next state is the one given,
with the command's own effect; the clauses take in every form of the command, among them the states in which the rule gives it nothing to do; of
a command that writes or reads a register they take in the accesses that R71 lets pass, and RefusedCommands says what one that is refused does:
CORE_TASK_BOUNDARY (R578), CORE_BOUNDARY_TIMEOUT (R578), CORE_RELEASE (R578), SIEVE_READ (R579), SIEVE_PASS_END (R579), SUPPLY_DROOP (R581),
SUPPLY_DROOP_END (R581), TELEMETRY_REFRESH (R582). -/
def Obligations.CoverageCommands : Prop :=
  -- CORE_TASK_BOUNDARY (R578)
  (∀ (task : Byte) (differ : Bool) (s : State), (!s.coreCmp) → exec (.coreTaskBoundary task differ) s = .next s) ∧
  (∀ (task : Byte) (differ : Bool) (s : State), ¬(!s.coreCmp) → differ →
    exec (.coreTaskBoundary task differ) s = .next (let s := s.incWrap SAF_CORE_STAT_COMPARES; s.coreFault task.toNat)) ∧
  (∀ (task : Byte) (differ : Bool) (s : State), ¬(!s.coreCmp) → ¬differ →
    exec (.coreTaskBoundary task differ) s = .next (let s := s.incWrap SAF_CORE_STAT_COMPARES; s)) ∧
  -- CORE_BOUNDARY_TIMEOUT (R578)
  (∀ (task : Byte) (s : State), s.coreCmp → exec (.coreBoundaryTimeout task) s = .next (s.coreFault task.toNat)) ∧
  (∀ (task : Byte) (s : State), ¬s.coreCmp → exec (.coreBoundaryTimeout task) s = .next s) ∧
  -- CORE_RELEASE (R578)
  (∀ (r : Requester) (s : State), s.mayCommand r SAF_CMD_CORE_RELEASE.addr .curator = true → (let s := s.touch r; s.on SAF_STAT_CORE_HELD) →
    exec (.coreRelease r) s = .next (let s := s.touch r; ((s.setB SAF_STAT_CORE_HELD false).bootStart).settle)) ∧
  (∀ (r : Requester) (s : State), s.mayCommand r SAF_CMD_CORE_RELEASE.addr .curator = true → ¬(let s := s.touch r; s.on SAF_STAT_CORE_HELD) →
    exec (.coreRelease r) s = .next (let s := s.touch r; s)) ∧
  -- SIEVE_READ (R579)
  (∀ (sram : Bool) (spot : SramSpot) (found : Vector WordError 4) (s : State), (s.boot.g.isNone ∨ !s.on BKG_SIEVE_CFG_EN) →
    exec (.sieveRead sram spot found) s = .next s) ∧
  (∀ (sram : Bool) (spot : SramSpot) (found : Vector WordError 4) (s : State), ¬(s.boot.g.isNone ∨ !s.on BKG_SIEVE_CFG_EN) → sram →
    (let t := s.tick % 8000000; let w := s.saf.sramRead; sramWords ≤ w ∨ t < 5 * w) → exec (.sieveRead sram spot found) s = .next s) ∧
  (∀ (sram : Bool) (spot : SramSpot) (found : Vector WordError 4) (s : State), ¬(s.boot.g.isNone ∨ !s.on BKG_SIEVE_CFG_EN) → sram →
    ¬(let t := s.tick % 8000000; let w := s.saf.sramRead; sramWords ≤ w ∨ t < 5 * w) →
    exec (.sieveRead sram spot found) s = .next (let w := s.saf.sramRead; let s := { s with saf := { s.saf with sramRead := w + 1 } };
    let s := (s.set BKG_SIEVE_POS_WORD w).set BKG_SIEVE_STAT_PCT ((w + 1) * 100 / sramWords); s.sramFound w spot (found.get 0))) ∧
  (∀ (sram : Bool) (spot : SramSpot) (found : Vector WordError 4) (s : State), ¬(s.boot.g.isNone ∨ !s.on BKG_SIEVE_CFG_EN) → ¬sram →
    (let t := s.tick % 8000000; let w := s.saf.nvmRead; !s.on BKG_SIEVE_CFG_NVM_EN ∨ nvmWords ≤ w ∨ t < 7 * (w / 4)) →
    exec (.sieveRead sram spot found) s = .next s) ∧
  (∀ (sram : Bool) (spot : SramSpot) (found : Vector WordError 4) (s : State), ¬(s.boot.g.isNone ∨ !s.on BKG_SIEVE_CFG_EN) → ¬sram →
    ¬(let t := s.tick % 8000000; let w := s.saf.nvmRead; !s.on BKG_SIEVE_CFG_NVM_EN ∨ nvmWords ≤ w ∨ t < 7 * (w / 4)) →
    exec (.sieveRead sram spot found) s = .next (let w := s.saf.nvmRead; let s := { s with saf := { s.saf with nvmRead := w + 4 } };
    let s := s.set BKG_SIEVE_NPOS_WORD (w + 3); (s.each (List.finRange 4) (fun s i => s.nvmFound (4 * (w + i.val)) (found.get i))).settle)) ∧
  (∀ (spot : SramSpot) (f : Vector WordError 4) (s : State), s.boot.g.isSome = true → s.on BKG_SIEVE_CFG_EN = true → s.saf.sramRead < sramWords →
  5 * s.saf.sramRead ≤ s.tick % 8000000 → Runs (.sieveRead true spot f) s (fun t => ∃ u : State,
    t = u.sramFound s.saf.sramRead spot (f.get 0) ∧ u.saf = { s.saf with sramRead := s.saf.sramRead + 1 } ∧ u.mem = s.mem)) ∧
  -- SIEVE_PASS_END (R579)
  (∀ s : State, (s.tick % 8000000 ≠ 0 ∨ s.boot.g.isNone ∨ !s.on BKG_SIEVE_CFG_EN) → exec .sievePassEnd s = .next s) ∧
  (∀ s : State, ¬(s.tick % 8000000 ≠ 0 ∨ s.boot.g.isNone ∨ !s.on BKG_SIEVE_CFG_EN) →
    (let whole := decide (sramWords ≤ s.saf.sramRead) && (!s.on BKG_SIEVE_CFG_NVM_EN || decide (nvmWords ≤ s.saf.nvmRead)); whole) →
    exec .sievePassEnd s = .next (let s := { s with saf := { s.saf with sramRead := 0, nvmRead := 0 } }; let s := s.set BKG_SIEVE_STAT_PCT 0;
    ((s.incWrap BKG_SIEVE_STAT_PASSES).setB BKG_STAT_SIEVE_LATE false).settle)) ∧
  (∀ s : State, ¬(s.tick % 8000000 ≠ 0 ∨ s.boot.g.isNone ∨ !s.on BKG_SIEVE_CFG_EN) →
    ¬(let whole := decide (sramWords ≤ s.saf.sramRead) && (!s.on BKG_SIEVE_CFG_NVM_EN || decide (nvmWords ≤ s.saf.nvmRead)); whole) →
    exec .sievePassEnd s = .next (let s := { s with saf := { s.saf with sramRead := 0, nvmRead := 0 } }; let s := s.set BKG_SIEVE_STAT_PCT 0;
    (((s.inc BKG_SIEVE_LATE_LATE).setB BKG_STAT_SIEVE_LATE true).event .sieveLate).settle)) ∧
  (∀ s : State, s.tick % 8000000 = 0 → s.boot.g.isSome = true → s.on BKG_SIEVE_CFG_EN = true → Runs .sievePassEnd s (fun t =>
  t.saf.sramRead = 0 ∧ t.saf.nvmRead = 0 ∧ t.mem = s.mem)) ∧
  -- SUPPLY_DROOP (R581)
  (∀ (k : Fin 3) (lat : Fin 6) (s : State), (s.on (droopField k)) → exec (.supplyDroop k lat) s = .next s) ∧
  (∀ (k : Fin 3) (lat : Fin 6) (s : State), ¬(s.on (droopField k)) →
    exec (.supplyDroop k lat) s = .next ((((s.setB (droopField k) true).inc SAF_DROOP_STAT_COUNT).detect 11 lat.val).settle)) ∧
  -- SUPPLY_DROOP_END (R581)
  (∀ (k : Fin 3) (s : State), (s.on (droopField k)) → exec (.supplyDroopEnd k) s = .next ((s.setB (droopField k) false).settle)) ∧
  (∀ (k : Fin 3) (s : State), ¬(s.on (droopField k)) → exec (.supplyDroopEnd k) s = .next s) ∧
  -- TELEMETRY_REFRESH (R582)
  (∀ (ms : Option (BitVec 16)) (s : State), (s.boot.g.isNone ∨ s.power = .halt ∨ s.tick < s.saf.telAt + s.telPeriod) →
    exec (.telemetryRefresh ms) s = .next s) ∧
  (∀ (ms : Option (BitVec 16)) (s : State) d, ¬(s.boot.g.isNone ∨ s.power = .halt ∨ s.tick < s.saf.telAt + s.telPeriod) → (ms = some d) →
    exec (.telemetryRefresh ms) s = .next (let s := { s with saf := { s.saf with telAt := s.telGrid } };
    (s.telRefresh).set BKG_TEL_STAT_LAST_MS d.toNat)) ∧
  (∀ (ms : Option (BitVec 16)) (s : State), ¬(s.boot.g.isNone ∨ s.power = .halt ∨ s.tick < s.saf.telAt + s.telPeriod) → (ms = none) →
    exec (.telemetryRefresh ms) s = .next (let s := { s with saf := { s.saf with telAt := s.telGrid } };
    { (s.inc BKG_TEL_STAT_LATE) with saf := { s.saf with telLate := some (s.tick / 1000000) } })) ∧
  (∀ s : State, s.boot.g.isSome = true → s.power ≠ .halt → s.saf.telAt + s.telPeriod ≤ s.tick → Runs (.telemetryRefresh none) s (fun t =>
  t.saf = { s.saf with telAt := s.telGrid, telLate := some (s.tick / 1000000) } ∧ t.mem = s.mem))

end
end

