-- ==== Sys2Proof/Laws/Access.lean ====
section
/-! SUPPORT. What the access checks answer where an access is allowed, and where it is not. -/

namespace Sys2Proof.Machine

theorem State.gate_ok {s : State} {r : Requester} {a : Nat} {f : State → State} (h : s.mayWrite r a = true) : s.gate r a f = f (s.touch r) := by
  simp only [State.mayWrite, Bool.and_eq_true, Option.isNone_iff_eq_none] at h
  simp [State.gate, h.1, h.2]

theorem State.gateRole_ok {s : State} {r : Requester} {a : Nat} {need : Role} {f : State → State} (h : s.mayCommand r a need = true) :
    s.gateRole r a need f = f (s.touch r) := by
  simp only [State.mayCommand, State.mayWrite, Bool.and_eq_true, Option.isNone_iff_eq_none] at h
  simp [State.gateRole, h.1.1, h.1.2, h.2]

theorem State.gateRead_ok {s : State} {r : Requester} {a : Nat} {f : State → State} (h : s.mayRead r a = true) :
    s.gateRead r a f = f (s.touch r) := by
  simp only [State.mayRead, Bool.and_eq_true, Option.isNone_iff_eq_none] at h
  simp [State.gateRead, h.1, h.2]

/-- A refused write does nothing but what `refuse` does. -/
theorem State.gate_error {s : State} {r : Requester} {a : Nat} {f : State → State} {e : AccErr} (hs : s.servesFor r = true)
    (h : s.writeError r a = some e) : s.gate r a f = s.refuse r a e := by
  simp [State.gate, hs, h]

/-- A requester that is not served has no effect. -/
theorem State.gate_unserved {s : State} {r : Requester} {a : Nat} {f : State → State} (h : s.servesFor r = false) : s.gate r a f = s := by
  simp [State.gate, h]

/-- An accepted request of a session runs, on the witness port or off it. -/
theorem State.praxFrame_ok {s : State} {d : Datagram} {type : Nat} {k : Fin 8} {wit : Bool} {f : Fin 8 → State → State}
    (h : s.praxAccepts d type k = true) : s.praxFrame d wit (fun s => s.praxRequest d type f) = f k (s.praxTaken d k) := by
  simp only [State.praxAccepts, Bool.and_eq_true, decide_eq_true_eq, beq_iff_eq] at h
  obtain ⟨⟨⟨⟨⟨⟨⟨h1, h2⟩, h3⟩, h4⟩, h5⟩, h6⟩, h7⟩, h8⟩ := h
  have h9 : ¬ 2 ^ 31 ≤ (d.seq.toNat + 2 ^ 32 - ((s.incWrap HIF_FRAMES_RX d.eth.val).session k).seq) % 2 ^ 32 := by omega
  simp only [State.praxFrame, h1, h2, h3, State.praxRequest, h4, State.praxTaken]
  simp only [Bool.not_true, Bool.false_eq_true, if_false, if_true, h5, ne_eq, not_true_eq_false, h6, h8]
  rw [if_neg h9]

end Sys2Proof.Machine
end

