-- ==== Sys2Proof/Laws/Sparse.lean ====
section
/-! SUPPORT. Laws of the sparse maps that hold the registers and the memory: a read after a write, and the canonical form, which every
write keeps. -/

namespace Sys2Proof.Machine

variable {α : Type} [DecidableEq α] {d : Nat → α}

theorem sparseFrom_weaken {lo lo' : Nat} (h : lo' ≤ lo) : ∀ {m : List (Nat × α)}, sparseFrom d (some lo) m = true →
    sparseFrom d (some lo') m = true
  | [], _ => rfl
  | (k, v) :: m, hm => by
    simp only [sparseFrom, Bool.and_eq_true, decide_eq_true_eq] at hm ⊢
    exact ⟨⟨by omega, hm.1.2⟩, hm.2⟩

theorem look_below {a lo : Nat} (h : a ≤ lo) : ∀ {m : List (Nat × α)}, sparseFrom d (some lo) m = true → look d m a = d a
  | [], _ => rfl
  | (k, v) :: m, hm => by
    simp only [sparseFrom, Bool.and_eq_true, decide_eq_true_eq] at hm
    have h1 : ¬ k = a := by omega
    have h2 : a < k := by omega
    simp [look, h1, h2]

omit [DecidableEq α] in
theorem look_dropLE_gt {a b : Nat} (h : a < b) : ∀ (m : List (Nat × α)), look d (dropLE a m) b = look d m b
  | [] => rfl
  | (k, v) :: m => by
    by_cases hk : k ≤ a
    · have h1 : ¬ k = b := by omega
      have h2 : ¬ b < k := by omega
      simp [dropLE, hk, look, h1, h2, look_dropLE_gt h m]
    · simp [dropLE, hk]

omit [DecidableEq α] in
theorem look_dropLE_le {a b : Nat} (h : b ≤ a) : ∀ (m : List (Nat × α)), look d (dropLE a m) b = d b
  | [] => rfl
  | (k, v) :: m => by
    by_cases hk : k ≤ a
    · simp [dropLE, hk, look_dropLE_le h m]
    · have h1 : ¬ k = b := by omega
      have h2 : b < k := by omega
      simp [dropLE, hk, look, h1, h2]

/-- A read after a write to the same place gives the value written. -/
@[simp] theorem look_put_same (a : Nat) (v : α) : ∀ (m : List (Nat × α)), look d (put d m a v) a = v
  | [] => by by_cases h : v = d a <;> simp [put, h, look]
  | (k, w) :: m => by
    rcases Nat.lt_trichotomy a k with hk | hk | hk
    · have h1 : ¬ k = a := by omega
      by_cases h : v = d a <;> simp [put, hk, h, look, h1]
    · subst hk
      by_cases h : v = d a
      · simp [put, h, look_dropLE_le]
      · simp [put, h, look]
    · have h0 : ¬ a < k := by omega
      have h1 : ¬ a = k := by omega
      have h2 : ¬ k = a := by omega
      simp [put, h0, h1, h2, look, look_put_same a v m]

/-- A write leaves every other place alone. -/
theorem look_put_ne {a b : Nat} (hb : b ≠ a) (v : α) : ∀ (m : List (Nat × α)), look d (put d m a v) b = look d m b
  | [] => by
    have h1 : ¬ a = b := fun h => hb h.symm
    by_cases h : v = d a <;> by_cases hl : b < a <;> simp [put, h, look, h1, hl]
  | (k, w) :: m => by
    have hab : ¬ a = b := fun h => hb h.symm
    rcases Nat.lt_trichotomy a k with hk | hk | hk
    · by_cases h : v = d a
      · simp [put, hk, h]
      · by_cases hl : b < a
        · have h1 : ¬ k = b := by omega
          have h2 : b < k := by omega
          simp [put, hk, h, look, hab, hl, h1, h2]
        · simp [put, hk, h, look, hab, hl]
    · subst hk
      by_cases h : v = d a
      · by_cases hl : b < a
        · simp [put, h, look, hab, hl, look_dropLE_le (Nat.le_of_lt hl)]
        · have hgt : a < b := by omega
          simp [put, h, look, hab, hl, look_dropLE_gt hgt]
      · simp [put, h, look, hab]
    · have h0 : ¬ a < k := by omega
      have h1 : ¬ a = k := by omega
      by_cases hkb : k = b
      · subst hkb; simp [put, h0, h1, look]
      · by_cases hl : b < k
        · simp [put, h0, h1, look, hkb, hl]
        · simp [put, h0, h1, look, hkb, hl, look_put_ne hb v m]

theorem dropLE_of_above {a : Nat} : ∀ {m : List (Nat × α)}, sparseFrom d (some a) m = true → dropLE a m = m
  | [], _ => rfl
  | (k, v) :: m, hm => by
    simp only [sparseFrom, Bool.and_eq_true, decide_eq_true_eq] at hm
    have h : ¬ k ≤ a := by omega
    simp [dropLE, h]

theorem put_sparseFrom {lo a : Nat} (h : lo < a) (v : α) : ∀ {m : List (Nat × α)}, sparseFrom d (some lo) m = true →
    sparseFrom d (some lo) (put d m a v) = true
  | [], _ => by by_cases hv : v = d a <;> simp [put, hv, sparseFrom, h]
  | (k, w) :: m, hm => by
    simp only [sparseFrom, Bool.and_eq_true, decide_eq_true_eq] at hm
    obtain ⟨⟨hk, hw⟩, ht⟩ := hm
    rcases Nat.lt_trichotomy a k with hak | hak | hak
    · by_cases hv : v = d a
      · simp [put, hak, hv, sparseFrom, hk, hw, ht]
      · simp [put, hak, hv, sparseFrom, h, hw, ht]
    · subst hak
      by_cases hv : v = d a
      · simp [put, hv, dropLE_of_above ht, sparseFrom_weaken (Nat.le_of_lt hk) ht]
      · simp [put, hv, sparseFrom, hk, ht]
    · have h0 : ¬ a < k := by omega
      have h1 : ¬ a = k := by omega
      simp [put, h0, h1, sparseFrom, hk, hw, put_sparseFrom hak v ht]

/-- Every write keeps the canonical form. -/
theorem put_sparseWf (a : Nat) (v : α) : ∀ {m : List (Nat × α)}, sparseWf d m = true → sparseWf d (put d m a v) = true
  | [], _ => by by_cases hv : v = d a <;> simp [sparseWf, put, hv, sparseFrom]
  | (k, w) :: m, hm => by
    simp only [sparseWf, sparseFrom, Bool.and_eq_true, decide_eq_true_eq, true_and] at hm
    obtain ⟨hw, ht⟩ := hm
    rcases Nat.lt_trichotomy a k with hak | hak | hak
    · by_cases hv : v = d a
      · simp [sparseWf, put, hak, hv, sparseFrom, hw, ht]
      · simp [sparseWf, put, hak, hv, sparseFrom, hw, ht]
    · subst hak
      by_cases hv : v = d a
      · simp only [put, Nat.lt_irrefl, hv, if_true, if_false, dropLE_of_above ht, sparseWf]
        cases m with
        | nil => rfl
        | cons x m =>
          obtain ⟨k', w'⟩ := x
          simp only [sparseFrom, Bool.and_eq_true, decide_eq_true_eq] at ht
          simp [sparseFrom, ht.1.2, ht.2]
      · simp [sparseWf, put, hv, sparseFrom, ht]
    · have h0 : ¬ a < k := by omega
      have h1 : ¬ a = k := by omega
      simp [sparseWf, put, h0, h1, sparseFrom, hw, put_sparseFrom hak v ht]

end Sys2Proof.Machine
end

