-- ==== Sys2Proof/Laws/State.lean ====
section
/-! SUPPORT. One lemma for each field of State and each named update: a register update leaves every field but `regs`, a memory update
every field but `mem`, an event every field but `made`. -/

namespace Sys2Proof.Machine

variable (s : State)

/-! ### setReg -/

@[simp] theorem State.setReg_tick (a : Nat) (w : Word) : (s.setReg a w).tick = s.tick := rfl
@[simp] theorem State.setReg_mem (a : Nat) (w : Word) : (s.setReg a w).mem = s.mem := rfl
@[simp] theorem State.setReg_power (a : Nat) (w : Word) : (s.setReg a w).power = s.power := rfl
@[simp] theorem State.setReg_powerSince (a : Nat) (w : Word) : (s.setReg a w).powerSince = s.powerSince := rfl
@[simp] theorem State.setReg_powerFrom (a : Nat) (w : Word) : (s.setReg a w).powerFrom = s.powerFrom := rfl
@[simp] theorem State.setReg_powerFromSince (a : Nat) (w : Word) : (s.setReg a w).powerFromSince = s.powerFromSince := rfl
@[simp] theorem State.setReg_full (a : Nat) (w : Word) : (s.setReg a w).full = s.full := rfl
@[simp] theorem State.setReg_shelfTick (a : Nat) (w : Word) : (s.setReg a w).shelfTick = s.shelfTick := rfl
@[simp] theorem State.setReg_shelfOld (a : Nat) (w : Word) : (s.setReg a w).shelfOld = s.shelfOld := rfl
@[simp] theorem State.setReg_tb (a : Nat) (w : Word) : (s.setReg a w).tb = s.tb := rfl
@[simp] theorem State.setReg_balls (a : Nat) (w : Word) : (s.setReg a w).balls = s.balls := rfl
@[simp] theorem State.setReg_boot (a : Nat) (w : Word) : (s.setReg a w).boot = s.boot := rfl
@[simp] theorem State.setReg_cck (a : Nat) (w : Word) : (s.setReg a w).cck = s.cck := rfl
@[simp] theorem State.setReg_ports (a : Nat) (w : Word) : (s.setReg a w).ports = s.ports := rfl
@[simp] theorem State.setReg_evr (a : Nat) (w : Word) : (s.setReg a w).evr = s.evr := rfl
@[simp] theorem State.setReg_made (a : Nat) (w : Word) : (s.setReg a w).made = s.made := rfl
@[simp] theorem State.setReg_bbx (a : Nat) (w : Word) : (s.setReg a w).bbx = s.bbx := rfl
@[simp] theorem State.setReg_mbx (a : Nat) (w : Word) : (s.setReg a w).mbx = s.mbx := rfl
@[simp] theorem State.setReg_wdg (a : Nat) (w : Word) : (s.setReg a w).wdg = s.wdg := rfl
@[simp] theorem State.setReg_nvm (a : Nat) (w : Word) : (s.setReg a w).nvm = s.nvm := rfl
@[simp] theorem State.setReg_afe (a : Nat) (w : Word) : (s.setReg a w).afe = s.afe := rfl
@[simp] theorem State.setReg_lpe (a : Nat) (w : Word) : (s.setReg a w).lpe = s.lpe := rfl
@[simp] theorem State.setReg_lpt (a : Nat) (w : Word) : (s.setReg a w).lpt = s.lpt := rfl
@[simp] theorem State.setReg_cnv (a : Nat) (w : Word) : (s.setReg a w).cnv = s.cnv := rfl
@[simp] theorem State.setReg_cap (a : Nat) (w : Word) : (s.setReg a w).cap = s.cap := rfl
@[simp] theorem State.setReg_bat (a : Nat) (w : Word) : (s.setReg a w).bat = s.bat := rfl
@[simp] theorem State.setReg_seq (a : Nat) (w : Word) : (s.setReg a w).seq = s.seq := rfl
@[simp] theorem State.setReg_efu (a : Nat) (w : Word) : (s.setReg a w).efu = s.efu := rfl
@[simp] theorem State.setReg_thm (a : Nat) (w : Word) : (s.setReg a w).thm = s.thm := rfl
@[simp] theorem State.setReg_qual (a : Nat) (w : Word) : (s.setReg a w).qual = s.qual := rfl
@[simp] theorem State.setReg_twb (a : Nat) (w : Word) : (s.setReg a w).twb = s.twb := rfl
@[simp] theorem State.setReg_shr (a : Nat) (w : Word) : (s.setReg a w).shr = s.shr := rfl
@[simp] theorem State.setReg_hlk (a : Nat) (w : Word) : (s.setReg a w).hlk = s.hlk := rfl
@[simp] theorem State.setReg_upd (a : Nat) (w : Word) : (s.setReg a w).upd = s.upd := rfl
@[simp] theorem State.setReg_chn (a : Nat) (w : Word) : (s.setReg a w).chn = s.chn := rfl
@[simp] theorem State.setReg_saf (a : Nat) (w : Word) : (s.setReg a w).saf = s.saf := rfl
@[simp] theorem State.setReg_free (a : Nat) (w : Word) : (s.setReg a w).free = s.free := rfl
@[simp] theorem State.setReg_pending (a : Nat) (w : Word) : (s.setReg a w).pending = s.pending := rfl

/-! ### set -/

@[simp] theorem State.set_tick (f : Field) (v i : Nat) : (s.set f v i).tick = s.tick := rfl
@[simp] theorem State.set_mem (f : Field) (v i : Nat) : (s.set f v i).mem = s.mem := rfl
@[simp] theorem State.set_power (f : Field) (v i : Nat) : (s.set f v i).power = s.power := rfl
@[simp] theorem State.set_powerSince (f : Field) (v i : Nat) : (s.set f v i).powerSince = s.powerSince := rfl
@[simp] theorem State.set_powerFrom (f : Field) (v i : Nat) : (s.set f v i).powerFrom = s.powerFrom := rfl
@[simp] theorem State.set_powerFromSince (f : Field) (v i : Nat) : (s.set f v i).powerFromSince = s.powerFromSince := rfl
@[simp] theorem State.set_full (f : Field) (v i : Nat) : (s.set f v i).full = s.full := rfl
@[simp] theorem State.set_shelfTick (f : Field) (v i : Nat) : (s.set f v i).shelfTick = s.shelfTick := rfl
@[simp] theorem State.set_shelfOld (f : Field) (v i : Nat) : (s.set f v i).shelfOld = s.shelfOld := rfl
@[simp] theorem State.set_tb (f : Field) (v i : Nat) : (s.set f v i).tb = s.tb := rfl
@[simp] theorem State.set_balls (f : Field) (v i : Nat) : (s.set f v i).balls = s.balls := rfl
@[simp] theorem State.set_boot (f : Field) (v i : Nat) : (s.set f v i).boot = s.boot := rfl
@[simp] theorem State.set_cck (f : Field) (v i : Nat) : (s.set f v i).cck = s.cck := rfl
@[simp] theorem State.set_ports (f : Field) (v i : Nat) : (s.set f v i).ports = s.ports := rfl
@[simp] theorem State.set_evr (f : Field) (v i : Nat) : (s.set f v i).evr = s.evr := rfl
@[simp] theorem State.set_made (f : Field) (v i : Nat) : (s.set f v i).made = s.made := rfl
@[simp] theorem State.set_bbx (f : Field) (v i : Nat) : (s.set f v i).bbx = s.bbx := rfl
@[simp] theorem State.set_mbx (f : Field) (v i : Nat) : (s.set f v i).mbx = s.mbx := rfl
@[simp] theorem State.set_wdg (f : Field) (v i : Nat) : (s.set f v i).wdg = s.wdg := rfl
@[simp] theorem State.set_nvm (f : Field) (v i : Nat) : (s.set f v i).nvm = s.nvm := rfl
@[simp] theorem State.set_afe (f : Field) (v i : Nat) : (s.set f v i).afe = s.afe := rfl
@[simp] theorem State.set_lpe (f : Field) (v i : Nat) : (s.set f v i).lpe = s.lpe := rfl
@[simp] theorem State.set_lpt (f : Field) (v i : Nat) : (s.set f v i).lpt = s.lpt := rfl
@[simp] theorem State.set_cnv (f : Field) (v i : Nat) : (s.set f v i).cnv = s.cnv := rfl
@[simp] theorem State.set_cap (f : Field) (v i : Nat) : (s.set f v i).cap = s.cap := rfl
@[simp] theorem State.set_bat (f : Field) (v i : Nat) : (s.set f v i).bat = s.bat := rfl
@[simp] theorem State.set_seq (f : Field) (v i : Nat) : (s.set f v i).seq = s.seq := rfl
@[simp] theorem State.set_efu (f : Field) (v i : Nat) : (s.set f v i).efu = s.efu := rfl
@[simp] theorem State.set_thm (f : Field) (v i : Nat) : (s.set f v i).thm = s.thm := rfl
@[simp] theorem State.set_qual (f : Field) (v i : Nat) : (s.set f v i).qual = s.qual := rfl
@[simp] theorem State.set_twb (f : Field) (v i : Nat) : (s.set f v i).twb = s.twb := rfl
@[simp] theorem State.set_shr (f : Field) (v i : Nat) : (s.set f v i).shr = s.shr := rfl
@[simp] theorem State.set_hlk (f : Field) (v i : Nat) : (s.set f v i).hlk = s.hlk := rfl
@[simp] theorem State.set_upd (f : Field) (v i : Nat) : (s.set f v i).upd = s.upd := rfl
@[simp] theorem State.set_chn (f : Field) (v i : Nat) : (s.set f v i).chn = s.chn := rfl
@[simp] theorem State.set_saf (f : Field) (v i : Nat) : (s.set f v i).saf = s.saf := rfl
@[simp] theorem State.set_free (f : Field) (v i : Nat) : (s.set f v i).free = s.free := rfl
@[simp] theorem State.set_pending (f : Field) (v i : Nat) : (s.set f v i).pending = s.pending := rfl

/-! ### setI -/

@[simp] theorem State.setI_tick (f : Field) (v : Int) (i : Nat) : (s.setI f v i).tick = s.tick := rfl
@[simp] theorem State.setI_mem (f : Field) (v : Int) (i : Nat) : (s.setI f v i).mem = s.mem := rfl
@[simp] theorem State.setI_power (f : Field) (v : Int) (i : Nat) : (s.setI f v i).power = s.power := rfl
@[simp] theorem State.setI_powerSince (f : Field) (v : Int) (i : Nat) : (s.setI f v i).powerSince = s.powerSince := rfl
@[simp] theorem State.setI_powerFrom (f : Field) (v : Int) (i : Nat) : (s.setI f v i).powerFrom = s.powerFrom := rfl
@[simp] theorem State.setI_powerFromSince (f : Field) (v : Int) (i : Nat) : (s.setI f v i).powerFromSince = s.powerFromSince := rfl
@[simp] theorem State.setI_full (f : Field) (v : Int) (i : Nat) : (s.setI f v i).full = s.full := rfl
@[simp] theorem State.setI_shelfTick (f : Field) (v : Int) (i : Nat) : (s.setI f v i).shelfTick = s.shelfTick := rfl
@[simp] theorem State.setI_shelfOld (f : Field) (v : Int) (i : Nat) : (s.setI f v i).shelfOld = s.shelfOld := rfl
@[simp] theorem State.setI_tb (f : Field) (v : Int) (i : Nat) : (s.setI f v i).tb = s.tb := rfl
@[simp] theorem State.setI_balls (f : Field) (v : Int) (i : Nat) : (s.setI f v i).balls = s.balls := rfl
@[simp] theorem State.setI_boot (f : Field) (v : Int) (i : Nat) : (s.setI f v i).boot = s.boot := rfl
@[simp] theorem State.setI_cck (f : Field) (v : Int) (i : Nat) : (s.setI f v i).cck = s.cck := rfl
@[simp] theorem State.setI_ports (f : Field) (v : Int) (i : Nat) : (s.setI f v i).ports = s.ports := rfl
@[simp] theorem State.setI_evr (f : Field) (v : Int) (i : Nat) : (s.setI f v i).evr = s.evr := rfl
@[simp] theorem State.setI_made (f : Field) (v : Int) (i : Nat) : (s.setI f v i).made = s.made := rfl
@[simp] theorem State.setI_bbx (f : Field) (v : Int) (i : Nat) : (s.setI f v i).bbx = s.bbx := rfl
@[simp] theorem State.setI_mbx (f : Field) (v : Int) (i : Nat) : (s.setI f v i).mbx = s.mbx := rfl
@[simp] theorem State.setI_wdg (f : Field) (v : Int) (i : Nat) : (s.setI f v i).wdg = s.wdg := rfl
@[simp] theorem State.setI_nvm (f : Field) (v : Int) (i : Nat) : (s.setI f v i).nvm = s.nvm := rfl
@[simp] theorem State.setI_afe (f : Field) (v : Int) (i : Nat) : (s.setI f v i).afe = s.afe := rfl
@[simp] theorem State.setI_lpe (f : Field) (v : Int) (i : Nat) : (s.setI f v i).lpe = s.lpe := rfl
@[simp] theorem State.setI_lpt (f : Field) (v : Int) (i : Nat) : (s.setI f v i).lpt = s.lpt := rfl
@[simp] theorem State.setI_cnv (f : Field) (v : Int) (i : Nat) : (s.setI f v i).cnv = s.cnv := rfl
@[simp] theorem State.setI_cap (f : Field) (v : Int) (i : Nat) : (s.setI f v i).cap = s.cap := rfl
@[simp] theorem State.setI_bat (f : Field) (v : Int) (i : Nat) : (s.setI f v i).bat = s.bat := rfl
@[simp] theorem State.setI_seq (f : Field) (v : Int) (i : Nat) : (s.setI f v i).seq = s.seq := rfl
@[simp] theorem State.setI_efu (f : Field) (v : Int) (i : Nat) : (s.setI f v i).efu = s.efu := rfl
@[simp] theorem State.setI_thm (f : Field) (v : Int) (i : Nat) : (s.setI f v i).thm = s.thm := rfl
@[simp] theorem State.setI_qual (f : Field) (v : Int) (i : Nat) : (s.setI f v i).qual = s.qual := rfl
@[simp] theorem State.setI_twb (f : Field) (v : Int) (i : Nat) : (s.setI f v i).twb = s.twb := rfl
@[simp] theorem State.setI_shr (f : Field) (v : Int) (i : Nat) : (s.setI f v i).shr = s.shr := rfl
@[simp] theorem State.setI_hlk (f : Field) (v : Int) (i : Nat) : (s.setI f v i).hlk = s.hlk := rfl
@[simp] theorem State.setI_upd (f : Field) (v : Int) (i : Nat) : (s.setI f v i).upd = s.upd := rfl
@[simp] theorem State.setI_chn (f : Field) (v : Int) (i : Nat) : (s.setI f v i).chn = s.chn := rfl
@[simp] theorem State.setI_saf (f : Field) (v : Int) (i : Nat) : (s.setI f v i).saf = s.saf := rfl
@[simp] theorem State.setI_free (f : Field) (v : Int) (i : Nat) : (s.setI f v i).free = s.free := rfl
@[simp] theorem State.setI_pending (f : Field) (v : Int) (i : Nat) : (s.setI f v i).pending = s.pending := rfl

/-! ### setB -/

@[simp] theorem State.setB_tick (f : Field) (v : Bool) (i : Nat) : (s.setB f v i).tick = s.tick := rfl
@[simp] theorem State.setB_mem (f : Field) (v : Bool) (i : Nat) : (s.setB f v i).mem = s.mem := rfl
@[simp] theorem State.setB_power (f : Field) (v : Bool) (i : Nat) : (s.setB f v i).power = s.power := rfl
@[simp] theorem State.setB_powerSince (f : Field) (v : Bool) (i : Nat) : (s.setB f v i).powerSince = s.powerSince := rfl
@[simp] theorem State.setB_powerFrom (f : Field) (v : Bool) (i : Nat) : (s.setB f v i).powerFrom = s.powerFrom := rfl
@[simp] theorem State.setB_powerFromSince (f : Field) (v : Bool) (i : Nat) : (s.setB f v i).powerFromSince = s.powerFromSince := rfl
@[simp] theorem State.setB_full (f : Field) (v : Bool) (i : Nat) : (s.setB f v i).full = s.full := rfl
@[simp] theorem State.setB_shelfTick (f : Field) (v : Bool) (i : Nat) : (s.setB f v i).shelfTick = s.shelfTick := rfl
@[simp] theorem State.setB_shelfOld (f : Field) (v : Bool) (i : Nat) : (s.setB f v i).shelfOld = s.shelfOld := rfl
@[simp] theorem State.setB_tb (f : Field) (v : Bool) (i : Nat) : (s.setB f v i).tb = s.tb := rfl
@[simp] theorem State.setB_balls (f : Field) (v : Bool) (i : Nat) : (s.setB f v i).balls = s.balls := rfl
@[simp] theorem State.setB_boot (f : Field) (v : Bool) (i : Nat) : (s.setB f v i).boot = s.boot := rfl
@[simp] theorem State.setB_cck (f : Field) (v : Bool) (i : Nat) : (s.setB f v i).cck = s.cck := rfl
@[simp] theorem State.setB_ports (f : Field) (v : Bool) (i : Nat) : (s.setB f v i).ports = s.ports := rfl
@[simp] theorem State.setB_evr (f : Field) (v : Bool) (i : Nat) : (s.setB f v i).evr = s.evr := rfl
@[simp] theorem State.setB_made (f : Field) (v : Bool) (i : Nat) : (s.setB f v i).made = s.made := rfl
@[simp] theorem State.setB_bbx (f : Field) (v : Bool) (i : Nat) : (s.setB f v i).bbx = s.bbx := rfl
@[simp] theorem State.setB_mbx (f : Field) (v : Bool) (i : Nat) : (s.setB f v i).mbx = s.mbx := rfl
@[simp] theorem State.setB_wdg (f : Field) (v : Bool) (i : Nat) : (s.setB f v i).wdg = s.wdg := rfl
@[simp] theorem State.setB_nvm (f : Field) (v : Bool) (i : Nat) : (s.setB f v i).nvm = s.nvm := rfl
@[simp] theorem State.setB_afe (f : Field) (v : Bool) (i : Nat) : (s.setB f v i).afe = s.afe := rfl
@[simp] theorem State.setB_lpe (f : Field) (v : Bool) (i : Nat) : (s.setB f v i).lpe = s.lpe := rfl
@[simp] theorem State.setB_lpt (f : Field) (v : Bool) (i : Nat) : (s.setB f v i).lpt = s.lpt := rfl
@[simp] theorem State.setB_cnv (f : Field) (v : Bool) (i : Nat) : (s.setB f v i).cnv = s.cnv := rfl
@[simp] theorem State.setB_cap (f : Field) (v : Bool) (i : Nat) : (s.setB f v i).cap = s.cap := rfl
@[simp] theorem State.setB_bat (f : Field) (v : Bool) (i : Nat) : (s.setB f v i).bat = s.bat := rfl
@[simp] theorem State.setB_seq (f : Field) (v : Bool) (i : Nat) : (s.setB f v i).seq = s.seq := rfl
@[simp] theorem State.setB_efu (f : Field) (v : Bool) (i : Nat) : (s.setB f v i).efu = s.efu := rfl
@[simp] theorem State.setB_thm (f : Field) (v : Bool) (i : Nat) : (s.setB f v i).thm = s.thm := rfl
@[simp] theorem State.setB_qual (f : Field) (v : Bool) (i : Nat) : (s.setB f v i).qual = s.qual := rfl
@[simp] theorem State.setB_twb (f : Field) (v : Bool) (i : Nat) : (s.setB f v i).twb = s.twb := rfl
@[simp] theorem State.setB_shr (f : Field) (v : Bool) (i : Nat) : (s.setB f v i).shr = s.shr := rfl
@[simp] theorem State.setB_hlk (f : Field) (v : Bool) (i : Nat) : (s.setB f v i).hlk = s.hlk := rfl
@[simp] theorem State.setB_upd (f : Field) (v : Bool) (i : Nat) : (s.setB f v i).upd = s.upd := rfl
@[simp] theorem State.setB_chn (f : Field) (v : Bool) (i : Nat) : (s.setB f v i).chn = s.chn := rfl
@[simp] theorem State.setB_saf (f : Field) (v : Bool) (i : Nat) : (s.setB f v i).saf = s.saf := rfl
@[simp] theorem State.setB_free (f : Field) (v : Bool) (i : Nat) : (s.setB f v i).free = s.free := rfl
@[simp] theorem State.setB_pending (f : Field) (v : Bool) (i : Nat) : (s.setB f v i).pending = s.pending := rfl

/-! ### setBit -/

@[simp] theorem State.setBit_tick (f : Field) (b : Nat) (v : Bool) (i : Nat) : (s.setBit f b v i).tick = s.tick := rfl
@[simp] theorem State.setBit_mem (f : Field) (b : Nat) (v : Bool) (i : Nat) : (s.setBit f b v i).mem = s.mem := rfl
@[simp] theorem State.setBit_power (f : Field) (b : Nat) (v : Bool) (i : Nat) : (s.setBit f b v i).power = s.power := rfl
@[simp] theorem State.setBit_powerSince (f : Field) (b : Nat) (v : Bool) (i : Nat) : (s.setBit f b v i).powerSince = s.powerSince := rfl
@[simp] theorem State.setBit_powerFrom (f : Field) (b : Nat) (v : Bool) (i : Nat) : (s.setBit f b v i).powerFrom = s.powerFrom := rfl
@[simp] theorem State.setBit_powerFromSince (f : Field) (b : Nat) (v : Bool) (i : Nat) : (s.setBit f b v i).powerFromSince = s.powerFromSince := rfl
@[simp] theorem State.setBit_full (f : Field) (b : Nat) (v : Bool) (i : Nat) : (s.setBit f b v i).full = s.full := rfl
@[simp] theorem State.setBit_shelfTick (f : Field) (b : Nat) (v : Bool) (i : Nat) : (s.setBit f b v i).shelfTick = s.shelfTick := rfl
@[simp] theorem State.setBit_shelfOld (f : Field) (b : Nat) (v : Bool) (i : Nat) : (s.setBit f b v i).shelfOld = s.shelfOld := rfl
@[simp] theorem State.setBit_tb (f : Field) (b : Nat) (v : Bool) (i : Nat) : (s.setBit f b v i).tb = s.tb := rfl
@[simp] theorem State.setBit_balls (f : Field) (b : Nat) (v : Bool) (i : Nat) : (s.setBit f b v i).balls = s.balls := rfl
@[simp] theorem State.setBit_boot (f : Field) (b : Nat) (v : Bool) (i : Nat) : (s.setBit f b v i).boot = s.boot := rfl
@[simp] theorem State.setBit_cck (f : Field) (b : Nat) (v : Bool) (i : Nat) : (s.setBit f b v i).cck = s.cck := rfl
@[simp] theorem State.setBit_ports (f : Field) (b : Nat) (v : Bool) (i : Nat) : (s.setBit f b v i).ports = s.ports := rfl
@[simp] theorem State.setBit_evr (f : Field) (b : Nat) (v : Bool) (i : Nat) : (s.setBit f b v i).evr = s.evr := rfl
@[simp] theorem State.setBit_made (f : Field) (b : Nat) (v : Bool) (i : Nat) : (s.setBit f b v i).made = s.made := rfl
@[simp] theorem State.setBit_bbx (f : Field) (b : Nat) (v : Bool) (i : Nat) : (s.setBit f b v i).bbx = s.bbx := rfl
@[simp] theorem State.setBit_mbx (f : Field) (b : Nat) (v : Bool) (i : Nat) : (s.setBit f b v i).mbx = s.mbx := rfl
@[simp] theorem State.setBit_wdg (f : Field) (b : Nat) (v : Bool) (i : Nat) : (s.setBit f b v i).wdg = s.wdg := rfl
@[simp] theorem State.setBit_nvm (f : Field) (b : Nat) (v : Bool) (i : Nat) : (s.setBit f b v i).nvm = s.nvm := rfl
@[simp] theorem State.setBit_afe (f : Field) (b : Nat) (v : Bool) (i : Nat) : (s.setBit f b v i).afe = s.afe := rfl
@[simp] theorem State.setBit_lpe (f : Field) (b : Nat) (v : Bool) (i : Nat) : (s.setBit f b v i).lpe = s.lpe := rfl
@[simp] theorem State.setBit_lpt (f : Field) (b : Nat) (v : Bool) (i : Nat) : (s.setBit f b v i).lpt = s.lpt := rfl
@[simp] theorem State.setBit_cnv (f : Field) (b : Nat) (v : Bool) (i : Nat) : (s.setBit f b v i).cnv = s.cnv := rfl
@[simp] theorem State.setBit_cap (f : Field) (b : Nat) (v : Bool) (i : Nat) : (s.setBit f b v i).cap = s.cap := rfl
@[simp] theorem State.setBit_bat (f : Field) (b : Nat) (v : Bool) (i : Nat) : (s.setBit f b v i).bat = s.bat := rfl
@[simp] theorem State.setBit_seq (f : Field) (b : Nat) (v : Bool) (i : Nat) : (s.setBit f b v i).seq = s.seq := rfl
@[simp] theorem State.setBit_efu (f : Field) (b : Nat) (v : Bool) (i : Nat) : (s.setBit f b v i).efu = s.efu := rfl
@[simp] theorem State.setBit_thm (f : Field) (b : Nat) (v : Bool) (i : Nat) : (s.setBit f b v i).thm = s.thm := rfl
@[simp] theorem State.setBit_qual (f : Field) (b : Nat) (v : Bool) (i : Nat) : (s.setBit f b v i).qual = s.qual := rfl
@[simp] theorem State.setBit_twb (f : Field) (b : Nat) (v : Bool) (i : Nat) : (s.setBit f b v i).twb = s.twb := rfl
@[simp] theorem State.setBit_shr (f : Field) (b : Nat) (v : Bool) (i : Nat) : (s.setBit f b v i).shr = s.shr := rfl
@[simp] theorem State.setBit_hlk (f : Field) (b : Nat) (v : Bool) (i : Nat) : (s.setBit f b v i).hlk = s.hlk := rfl
@[simp] theorem State.setBit_upd (f : Field) (b : Nat) (v : Bool) (i : Nat) : (s.setBit f b v i).upd = s.upd := rfl
@[simp] theorem State.setBit_chn (f : Field) (b : Nat) (v : Bool) (i : Nat) : (s.setBit f b v i).chn = s.chn := rfl
@[simp] theorem State.setBit_saf (f : Field) (b : Nat) (v : Bool) (i : Nat) : (s.setBit f b v i).saf = s.saf := rfl
@[simp] theorem State.setBit_free (f : Field) (b : Nat) (v : Bool) (i : Nat) : (s.setBit f b v i).free = s.free := rfl
@[simp] theorem State.setBit_pending (f : Field) (b : Nat) (v : Bool) (i : Nat) : (s.setBit f b v i).pending = s.pending := rfl

/-! ### inc -/

@[simp] theorem State.inc_tick (f : Field) (i : Nat) : (s.inc f i).tick = s.tick := rfl
@[simp] theorem State.inc_mem (f : Field) (i : Nat) : (s.inc f i).mem = s.mem := rfl
@[simp] theorem State.inc_power (f : Field) (i : Nat) : (s.inc f i).power = s.power := rfl
@[simp] theorem State.inc_powerSince (f : Field) (i : Nat) : (s.inc f i).powerSince = s.powerSince := rfl
@[simp] theorem State.inc_powerFrom (f : Field) (i : Nat) : (s.inc f i).powerFrom = s.powerFrom := rfl
@[simp] theorem State.inc_powerFromSince (f : Field) (i : Nat) : (s.inc f i).powerFromSince = s.powerFromSince := rfl
@[simp] theorem State.inc_full (f : Field) (i : Nat) : (s.inc f i).full = s.full := rfl
@[simp] theorem State.inc_shelfTick (f : Field) (i : Nat) : (s.inc f i).shelfTick = s.shelfTick := rfl
@[simp] theorem State.inc_shelfOld (f : Field) (i : Nat) : (s.inc f i).shelfOld = s.shelfOld := rfl
@[simp] theorem State.inc_tb (f : Field) (i : Nat) : (s.inc f i).tb = s.tb := rfl
@[simp] theorem State.inc_balls (f : Field) (i : Nat) : (s.inc f i).balls = s.balls := rfl
@[simp] theorem State.inc_boot (f : Field) (i : Nat) : (s.inc f i).boot = s.boot := rfl
@[simp] theorem State.inc_cck (f : Field) (i : Nat) : (s.inc f i).cck = s.cck := rfl
@[simp] theorem State.inc_ports (f : Field) (i : Nat) : (s.inc f i).ports = s.ports := rfl
@[simp] theorem State.inc_evr (f : Field) (i : Nat) : (s.inc f i).evr = s.evr := rfl
@[simp] theorem State.inc_made (f : Field) (i : Nat) : (s.inc f i).made = s.made := rfl
@[simp] theorem State.inc_bbx (f : Field) (i : Nat) : (s.inc f i).bbx = s.bbx := rfl
@[simp] theorem State.inc_mbx (f : Field) (i : Nat) : (s.inc f i).mbx = s.mbx := rfl
@[simp] theorem State.inc_wdg (f : Field) (i : Nat) : (s.inc f i).wdg = s.wdg := rfl
@[simp] theorem State.inc_nvm (f : Field) (i : Nat) : (s.inc f i).nvm = s.nvm := rfl
@[simp] theorem State.inc_afe (f : Field) (i : Nat) : (s.inc f i).afe = s.afe := rfl
@[simp] theorem State.inc_lpe (f : Field) (i : Nat) : (s.inc f i).lpe = s.lpe := rfl
@[simp] theorem State.inc_lpt (f : Field) (i : Nat) : (s.inc f i).lpt = s.lpt := rfl
@[simp] theorem State.inc_cnv (f : Field) (i : Nat) : (s.inc f i).cnv = s.cnv := rfl
@[simp] theorem State.inc_cap (f : Field) (i : Nat) : (s.inc f i).cap = s.cap := rfl
@[simp] theorem State.inc_bat (f : Field) (i : Nat) : (s.inc f i).bat = s.bat := rfl
@[simp] theorem State.inc_seq (f : Field) (i : Nat) : (s.inc f i).seq = s.seq := rfl
@[simp] theorem State.inc_efu (f : Field) (i : Nat) : (s.inc f i).efu = s.efu := rfl
@[simp] theorem State.inc_thm (f : Field) (i : Nat) : (s.inc f i).thm = s.thm := rfl
@[simp] theorem State.inc_qual (f : Field) (i : Nat) : (s.inc f i).qual = s.qual := rfl
@[simp] theorem State.inc_twb (f : Field) (i : Nat) : (s.inc f i).twb = s.twb := rfl
@[simp] theorem State.inc_shr (f : Field) (i : Nat) : (s.inc f i).shr = s.shr := rfl
@[simp] theorem State.inc_hlk (f : Field) (i : Nat) : (s.inc f i).hlk = s.hlk := rfl
@[simp] theorem State.inc_upd (f : Field) (i : Nat) : (s.inc f i).upd = s.upd := rfl
@[simp] theorem State.inc_chn (f : Field) (i : Nat) : (s.inc f i).chn = s.chn := rfl
@[simp] theorem State.inc_saf (f : Field) (i : Nat) : (s.inc f i).saf = s.saf := rfl
@[simp] theorem State.inc_free (f : Field) (i : Nat) : (s.inc f i).free = s.free := rfl
@[simp] theorem State.inc_pending (f : Field) (i : Nat) : (s.inc f i).pending = s.pending := rfl

/-! ### incWrap -/

@[simp] theorem State.incWrap_tick (f : Field) (i : Nat) : (s.incWrap f i).tick = s.tick := rfl
@[simp] theorem State.incWrap_mem (f : Field) (i : Nat) : (s.incWrap f i).mem = s.mem := rfl
@[simp] theorem State.incWrap_power (f : Field) (i : Nat) : (s.incWrap f i).power = s.power := rfl
@[simp] theorem State.incWrap_powerSince (f : Field) (i : Nat) : (s.incWrap f i).powerSince = s.powerSince := rfl
@[simp] theorem State.incWrap_powerFrom (f : Field) (i : Nat) : (s.incWrap f i).powerFrom = s.powerFrom := rfl
@[simp] theorem State.incWrap_powerFromSince (f : Field) (i : Nat) : (s.incWrap f i).powerFromSince = s.powerFromSince := rfl
@[simp] theorem State.incWrap_full (f : Field) (i : Nat) : (s.incWrap f i).full = s.full := rfl
@[simp] theorem State.incWrap_shelfTick (f : Field) (i : Nat) : (s.incWrap f i).shelfTick = s.shelfTick := rfl
@[simp] theorem State.incWrap_shelfOld (f : Field) (i : Nat) : (s.incWrap f i).shelfOld = s.shelfOld := rfl
@[simp] theorem State.incWrap_tb (f : Field) (i : Nat) : (s.incWrap f i).tb = s.tb := rfl
@[simp] theorem State.incWrap_balls (f : Field) (i : Nat) : (s.incWrap f i).balls = s.balls := rfl
@[simp] theorem State.incWrap_boot (f : Field) (i : Nat) : (s.incWrap f i).boot = s.boot := rfl
@[simp] theorem State.incWrap_cck (f : Field) (i : Nat) : (s.incWrap f i).cck = s.cck := rfl
@[simp] theorem State.incWrap_ports (f : Field) (i : Nat) : (s.incWrap f i).ports = s.ports := rfl
@[simp] theorem State.incWrap_evr (f : Field) (i : Nat) : (s.incWrap f i).evr = s.evr := rfl
@[simp] theorem State.incWrap_made (f : Field) (i : Nat) : (s.incWrap f i).made = s.made := rfl
@[simp] theorem State.incWrap_bbx (f : Field) (i : Nat) : (s.incWrap f i).bbx = s.bbx := rfl
@[simp] theorem State.incWrap_mbx (f : Field) (i : Nat) : (s.incWrap f i).mbx = s.mbx := rfl
@[simp] theorem State.incWrap_wdg (f : Field) (i : Nat) : (s.incWrap f i).wdg = s.wdg := rfl
@[simp] theorem State.incWrap_nvm (f : Field) (i : Nat) : (s.incWrap f i).nvm = s.nvm := rfl
@[simp] theorem State.incWrap_afe (f : Field) (i : Nat) : (s.incWrap f i).afe = s.afe := rfl
@[simp] theorem State.incWrap_lpe (f : Field) (i : Nat) : (s.incWrap f i).lpe = s.lpe := rfl
@[simp] theorem State.incWrap_lpt (f : Field) (i : Nat) : (s.incWrap f i).lpt = s.lpt := rfl
@[simp] theorem State.incWrap_cnv (f : Field) (i : Nat) : (s.incWrap f i).cnv = s.cnv := rfl
@[simp] theorem State.incWrap_cap (f : Field) (i : Nat) : (s.incWrap f i).cap = s.cap := rfl
@[simp] theorem State.incWrap_bat (f : Field) (i : Nat) : (s.incWrap f i).bat = s.bat := rfl
@[simp] theorem State.incWrap_seq (f : Field) (i : Nat) : (s.incWrap f i).seq = s.seq := rfl
@[simp] theorem State.incWrap_efu (f : Field) (i : Nat) : (s.incWrap f i).efu = s.efu := rfl
@[simp] theorem State.incWrap_thm (f : Field) (i : Nat) : (s.incWrap f i).thm = s.thm := rfl
@[simp] theorem State.incWrap_qual (f : Field) (i : Nat) : (s.incWrap f i).qual = s.qual := rfl
@[simp] theorem State.incWrap_twb (f : Field) (i : Nat) : (s.incWrap f i).twb = s.twb := rfl
@[simp] theorem State.incWrap_shr (f : Field) (i : Nat) : (s.incWrap f i).shr = s.shr := rfl
@[simp] theorem State.incWrap_hlk (f : Field) (i : Nat) : (s.incWrap f i).hlk = s.hlk := rfl
@[simp] theorem State.incWrap_upd (f : Field) (i : Nat) : (s.incWrap f i).upd = s.upd := rfl
@[simp] theorem State.incWrap_chn (f : Field) (i : Nat) : (s.incWrap f i).chn = s.chn := rfl
@[simp] theorem State.incWrap_saf (f : Field) (i : Nat) : (s.incWrap f i).saf = s.saf := rfl
@[simp] theorem State.incWrap_free (f : Field) (i : Nat) : (s.incWrap f i).free = s.free := rfl
@[simp] theorem State.incWrap_pending (f : Field) (i : Nat) : (s.incWrap f i).pending = s.pending := rfl

/-! ### addSat -/

@[simp] theorem State.addSat_tick (f : Field) (n i : Nat) : (s.addSat f n i).tick = s.tick := rfl
@[simp] theorem State.addSat_mem (f : Field) (n i : Nat) : (s.addSat f n i).mem = s.mem := rfl
@[simp] theorem State.addSat_power (f : Field) (n i : Nat) : (s.addSat f n i).power = s.power := rfl
@[simp] theorem State.addSat_powerSince (f : Field) (n i : Nat) : (s.addSat f n i).powerSince = s.powerSince := rfl
@[simp] theorem State.addSat_powerFrom (f : Field) (n i : Nat) : (s.addSat f n i).powerFrom = s.powerFrom := rfl
@[simp] theorem State.addSat_powerFromSince (f : Field) (n i : Nat) : (s.addSat f n i).powerFromSince = s.powerFromSince := rfl
@[simp] theorem State.addSat_full (f : Field) (n i : Nat) : (s.addSat f n i).full = s.full := rfl
@[simp] theorem State.addSat_shelfTick (f : Field) (n i : Nat) : (s.addSat f n i).shelfTick = s.shelfTick := rfl
@[simp] theorem State.addSat_shelfOld (f : Field) (n i : Nat) : (s.addSat f n i).shelfOld = s.shelfOld := rfl
@[simp] theorem State.addSat_tb (f : Field) (n i : Nat) : (s.addSat f n i).tb = s.tb := rfl
@[simp] theorem State.addSat_balls (f : Field) (n i : Nat) : (s.addSat f n i).balls = s.balls := rfl
@[simp] theorem State.addSat_boot (f : Field) (n i : Nat) : (s.addSat f n i).boot = s.boot := rfl
@[simp] theorem State.addSat_cck (f : Field) (n i : Nat) : (s.addSat f n i).cck = s.cck := rfl
@[simp] theorem State.addSat_ports (f : Field) (n i : Nat) : (s.addSat f n i).ports = s.ports := rfl
@[simp] theorem State.addSat_evr (f : Field) (n i : Nat) : (s.addSat f n i).evr = s.evr := rfl
@[simp] theorem State.addSat_made (f : Field) (n i : Nat) : (s.addSat f n i).made = s.made := rfl
@[simp] theorem State.addSat_bbx (f : Field) (n i : Nat) : (s.addSat f n i).bbx = s.bbx := rfl
@[simp] theorem State.addSat_mbx (f : Field) (n i : Nat) : (s.addSat f n i).mbx = s.mbx := rfl
@[simp] theorem State.addSat_wdg (f : Field) (n i : Nat) : (s.addSat f n i).wdg = s.wdg := rfl
@[simp] theorem State.addSat_nvm (f : Field) (n i : Nat) : (s.addSat f n i).nvm = s.nvm := rfl
@[simp] theorem State.addSat_afe (f : Field) (n i : Nat) : (s.addSat f n i).afe = s.afe := rfl
@[simp] theorem State.addSat_lpe (f : Field) (n i : Nat) : (s.addSat f n i).lpe = s.lpe := rfl
@[simp] theorem State.addSat_lpt (f : Field) (n i : Nat) : (s.addSat f n i).lpt = s.lpt := rfl
@[simp] theorem State.addSat_cnv (f : Field) (n i : Nat) : (s.addSat f n i).cnv = s.cnv := rfl
@[simp] theorem State.addSat_cap (f : Field) (n i : Nat) : (s.addSat f n i).cap = s.cap := rfl
@[simp] theorem State.addSat_bat (f : Field) (n i : Nat) : (s.addSat f n i).bat = s.bat := rfl
@[simp] theorem State.addSat_seq (f : Field) (n i : Nat) : (s.addSat f n i).seq = s.seq := rfl
@[simp] theorem State.addSat_efu (f : Field) (n i : Nat) : (s.addSat f n i).efu = s.efu := rfl
@[simp] theorem State.addSat_thm (f : Field) (n i : Nat) : (s.addSat f n i).thm = s.thm := rfl
@[simp] theorem State.addSat_qual (f : Field) (n i : Nat) : (s.addSat f n i).qual = s.qual := rfl
@[simp] theorem State.addSat_twb (f : Field) (n i : Nat) : (s.addSat f n i).twb = s.twb := rfl
@[simp] theorem State.addSat_shr (f : Field) (n i : Nat) : (s.addSat f n i).shr = s.shr := rfl
@[simp] theorem State.addSat_hlk (f : Field) (n i : Nat) : (s.addSat f n i).hlk = s.hlk := rfl
@[simp] theorem State.addSat_upd (f : Field) (n i : Nat) : (s.addSat f n i).upd = s.upd := rfl
@[simp] theorem State.addSat_chn (f : Field) (n i : Nat) : (s.addSat f n i).chn = s.chn := rfl
@[simp] theorem State.addSat_saf (f : Field) (n i : Nat) : (s.addSat f n i).saf = s.saf := rfl
@[simp] theorem State.addSat_free (f : Field) (n i : Nat) : (s.addSat f n i).free = s.free := rfl
@[simp] theorem State.addSat_pending (f : Field) (n i : Nat) : (s.addSat f n i).pending = s.pending := rfl

/-! ### maxOf -/

@[simp] theorem State.maxOf_tick (f : Field) (v i : Nat) : (s.maxOf f v i).tick = s.tick := rfl
@[simp] theorem State.maxOf_mem (f : Field) (v i : Nat) : (s.maxOf f v i).mem = s.mem := rfl
@[simp] theorem State.maxOf_power (f : Field) (v i : Nat) : (s.maxOf f v i).power = s.power := rfl
@[simp] theorem State.maxOf_powerSince (f : Field) (v i : Nat) : (s.maxOf f v i).powerSince = s.powerSince := rfl
@[simp] theorem State.maxOf_powerFrom (f : Field) (v i : Nat) : (s.maxOf f v i).powerFrom = s.powerFrom := rfl
@[simp] theorem State.maxOf_powerFromSince (f : Field) (v i : Nat) : (s.maxOf f v i).powerFromSince = s.powerFromSince := rfl
@[simp] theorem State.maxOf_full (f : Field) (v i : Nat) : (s.maxOf f v i).full = s.full := rfl
@[simp] theorem State.maxOf_shelfTick (f : Field) (v i : Nat) : (s.maxOf f v i).shelfTick = s.shelfTick := rfl
@[simp] theorem State.maxOf_shelfOld (f : Field) (v i : Nat) : (s.maxOf f v i).shelfOld = s.shelfOld := rfl
@[simp] theorem State.maxOf_tb (f : Field) (v i : Nat) : (s.maxOf f v i).tb = s.tb := rfl
@[simp] theorem State.maxOf_balls (f : Field) (v i : Nat) : (s.maxOf f v i).balls = s.balls := rfl
@[simp] theorem State.maxOf_boot (f : Field) (v i : Nat) : (s.maxOf f v i).boot = s.boot := rfl
@[simp] theorem State.maxOf_cck (f : Field) (v i : Nat) : (s.maxOf f v i).cck = s.cck := rfl
@[simp] theorem State.maxOf_ports (f : Field) (v i : Nat) : (s.maxOf f v i).ports = s.ports := rfl
@[simp] theorem State.maxOf_evr (f : Field) (v i : Nat) : (s.maxOf f v i).evr = s.evr := rfl
@[simp] theorem State.maxOf_made (f : Field) (v i : Nat) : (s.maxOf f v i).made = s.made := rfl
@[simp] theorem State.maxOf_bbx (f : Field) (v i : Nat) : (s.maxOf f v i).bbx = s.bbx := rfl
@[simp] theorem State.maxOf_mbx (f : Field) (v i : Nat) : (s.maxOf f v i).mbx = s.mbx := rfl
@[simp] theorem State.maxOf_wdg (f : Field) (v i : Nat) : (s.maxOf f v i).wdg = s.wdg := rfl
@[simp] theorem State.maxOf_nvm (f : Field) (v i : Nat) : (s.maxOf f v i).nvm = s.nvm := rfl
@[simp] theorem State.maxOf_afe (f : Field) (v i : Nat) : (s.maxOf f v i).afe = s.afe := rfl
@[simp] theorem State.maxOf_lpe (f : Field) (v i : Nat) : (s.maxOf f v i).lpe = s.lpe := rfl
@[simp] theorem State.maxOf_lpt (f : Field) (v i : Nat) : (s.maxOf f v i).lpt = s.lpt := rfl
@[simp] theorem State.maxOf_cnv (f : Field) (v i : Nat) : (s.maxOf f v i).cnv = s.cnv := rfl
@[simp] theorem State.maxOf_cap (f : Field) (v i : Nat) : (s.maxOf f v i).cap = s.cap := rfl
@[simp] theorem State.maxOf_bat (f : Field) (v i : Nat) : (s.maxOf f v i).bat = s.bat := rfl
@[simp] theorem State.maxOf_seq (f : Field) (v i : Nat) : (s.maxOf f v i).seq = s.seq := rfl
@[simp] theorem State.maxOf_efu (f : Field) (v i : Nat) : (s.maxOf f v i).efu = s.efu := rfl
@[simp] theorem State.maxOf_thm (f : Field) (v i : Nat) : (s.maxOf f v i).thm = s.thm := rfl
@[simp] theorem State.maxOf_qual (f : Field) (v i : Nat) : (s.maxOf f v i).qual = s.qual := rfl
@[simp] theorem State.maxOf_twb (f : Field) (v i : Nat) : (s.maxOf f v i).twb = s.twb := rfl
@[simp] theorem State.maxOf_shr (f : Field) (v i : Nat) : (s.maxOf f v i).shr = s.shr := rfl
@[simp] theorem State.maxOf_hlk (f : Field) (v i : Nat) : (s.maxOf f v i).hlk = s.hlk := rfl
@[simp] theorem State.maxOf_upd (f : Field) (v i : Nat) : (s.maxOf f v i).upd = s.upd := rfl
@[simp] theorem State.maxOf_chn (f : Field) (v i : Nat) : (s.maxOf f v i).chn = s.chn := rfl
@[simp] theorem State.maxOf_saf (f : Field) (v i : Nat) : (s.maxOf f v i).saf = s.saf := rfl
@[simp] theorem State.maxOf_free (f : Field) (v i : Nat) : (s.maxOf f v i).free = s.free := rfl
@[simp] theorem State.maxOf_pending (f : Field) (v i : Nat) : (s.maxOf f v i).pending = s.pending := rfl

/-! ### stamp -/

@[simp] theorem State.stamp_tick (f : Field) (i : Nat) : (s.stamp f i).tick = s.tick := rfl
@[simp] theorem State.stamp_mem (f : Field) (i : Nat) : (s.stamp f i).mem = s.mem := rfl
@[simp] theorem State.stamp_power (f : Field) (i : Nat) : (s.stamp f i).power = s.power := rfl
@[simp] theorem State.stamp_powerSince (f : Field) (i : Nat) : (s.stamp f i).powerSince = s.powerSince := rfl
@[simp] theorem State.stamp_powerFrom (f : Field) (i : Nat) : (s.stamp f i).powerFrom = s.powerFrom := rfl
@[simp] theorem State.stamp_powerFromSince (f : Field) (i : Nat) : (s.stamp f i).powerFromSince = s.powerFromSince := rfl
@[simp] theorem State.stamp_full (f : Field) (i : Nat) : (s.stamp f i).full = s.full := rfl
@[simp] theorem State.stamp_shelfTick (f : Field) (i : Nat) : (s.stamp f i).shelfTick = s.shelfTick := rfl
@[simp] theorem State.stamp_shelfOld (f : Field) (i : Nat) : (s.stamp f i).shelfOld = s.shelfOld := rfl
@[simp] theorem State.stamp_tb (f : Field) (i : Nat) : (s.stamp f i).tb = s.tb := rfl
@[simp] theorem State.stamp_balls (f : Field) (i : Nat) : (s.stamp f i).balls = s.balls := rfl
@[simp] theorem State.stamp_boot (f : Field) (i : Nat) : (s.stamp f i).boot = s.boot := rfl
@[simp] theorem State.stamp_cck (f : Field) (i : Nat) : (s.stamp f i).cck = s.cck := rfl
@[simp] theorem State.stamp_ports (f : Field) (i : Nat) : (s.stamp f i).ports = s.ports := rfl
@[simp] theorem State.stamp_evr (f : Field) (i : Nat) : (s.stamp f i).evr = s.evr := rfl
@[simp] theorem State.stamp_made (f : Field) (i : Nat) : (s.stamp f i).made = s.made := rfl
@[simp] theorem State.stamp_bbx (f : Field) (i : Nat) : (s.stamp f i).bbx = s.bbx := rfl
@[simp] theorem State.stamp_mbx (f : Field) (i : Nat) : (s.stamp f i).mbx = s.mbx := rfl
@[simp] theorem State.stamp_wdg (f : Field) (i : Nat) : (s.stamp f i).wdg = s.wdg := rfl
@[simp] theorem State.stamp_nvm (f : Field) (i : Nat) : (s.stamp f i).nvm = s.nvm := rfl
@[simp] theorem State.stamp_afe (f : Field) (i : Nat) : (s.stamp f i).afe = s.afe := rfl
@[simp] theorem State.stamp_lpe (f : Field) (i : Nat) : (s.stamp f i).lpe = s.lpe := rfl
@[simp] theorem State.stamp_lpt (f : Field) (i : Nat) : (s.stamp f i).lpt = s.lpt := rfl
@[simp] theorem State.stamp_cnv (f : Field) (i : Nat) : (s.stamp f i).cnv = s.cnv := rfl
@[simp] theorem State.stamp_cap (f : Field) (i : Nat) : (s.stamp f i).cap = s.cap := rfl
@[simp] theorem State.stamp_bat (f : Field) (i : Nat) : (s.stamp f i).bat = s.bat := rfl
@[simp] theorem State.stamp_seq (f : Field) (i : Nat) : (s.stamp f i).seq = s.seq := rfl
@[simp] theorem State.stamp_efu (f : Field) (i : Nat) : (s.stamp f i).efu = s.efu := rfl
@[simp] theorem State.stamp_thm (f : Field) (i : Nat) : (s.stamp f i).thm = s.thm := rfl
@[simp] theorem State.stamp_qual (f : Field) (i : Nat) : (s.stamp f i).qual = s.qual := rfl
@[simp] theorem State.stamp_twb (f : Field) (i : Nat) : (s.stamp f i).twb = s.twb := rfl
@[simp] theorem State.stamp_shr (f : Field) (i : Nat) : (s.stamp f i).shr = s.shr := rfl
@[simp] theorem State.stamp_hlk (f : Field) (i : Nat) : (s.stamp f i).hlk = s.hlk := rfl
@[simp] theorem State.stamp_upd (f : Field) (i : Nat) : (s.stamp f i).upd = s.upd := rfl
@[simp] theorem State.stamp_chn (f : Field) (i : Nat) : (s.stamp f i).chn = s.chn := rfl
@[simp] theorem State.stamp_saf (f : Field) (i : Nat) : (s.stamp f i).saf = s.saf := rfl
@[simp] theorem State.stamp_free (f : Field) (i : Nat) : (s.stamp f i).free = s.free := rfl
@[simp] theorem State.stamp_pending (f : Field) (i : Nat) : (s.stamp f i).pending = s.pending := rfl

/-! ### setInvalid -/

@[simp] theorem State.setInvalid_tick (f : Field) (i : Nat) : (s.setInvalid f i).tick = s.tick := rfl
@[simp] theorem State.setInvalid_mem (f : Field) (i : Nat) : (s.setInvalid f i).mem = s.mem := rfl
@[simp] theorem State.setInvalid_power (f : Field) (i : Nat) : (s.setInvalid f i).power = s.power := rfl
@[simp] theorem State.setInvalid_powerSince (f : Field) (i : Nat) : (s.setInvalid f i).powerSince = s.powerSince := rfl
@[simp] theorem State.setInvalid_powerFrom (f : Field) (i : Nat) : (s.setInvalid f i).powerFrom = s.powerFrom := rfl
@[simp] theorem State.setInvalid_powerFromSince (f : Field) (i : Nat) : (s.setInvalid f i).powerFromSince = s.powerFromSince := rfl
@[simp] theorem State.setInvalid_full (f : Field) (i : Nat) : (s.setInvalid f i).full = s.full := rfl
@[simp] theorem State.setInvalid_shelfTick (f : Field) (i : Nat) : (s.setInvalid f i).shelfTick = s.shelfTick := rfl
@[simp] theorem State.setInvalid_shelfOld (f : Field) (i : Nat) : (s.setInvalid f i).shelfOld = s.shelfOld := rfl
@[simp] theorem State.setInvalid_tb (f : Field) (i : Nat) : (s.setInvalid f i).tb = s.tb := rfl
@[simp] theorem State.setInvalid_balls (f : Field) (i : Nat) : (s.setInvalid f i).balls = s.balls := rfl
@[simp] theorem State.setInvalid_boot (f : Field) (i : Nat) : (s.setInvalid f i).boot = s.boot := rfl
@[simp] theorem State.setInvalid_cck (f : Field) (i : Nat) : (s.setInvalid f i).cck = s.cck := rfl
@[simp] theorem State.setInvalid_ports (f : Field) (i : Nat) : (s.setInvalid f i).ports = s.ports := rfl
@[simp] theorem State.setInvalid_evr (f : Field) (i : Nat) : (s.setInvalid f i).evr = s.evr := rfl
@[simp] theorem State.setInvalid_made (f : Field) (i : Nat) : (s.setInvalid f i).made = s.made := rfl
@[simp] theorem State.setInvalid_bbx (f : Field) (i : Nat) : (s.setInvalid f i).bbx = s.bbx := rfl
@[simp] theorem State.setInvalid_mbx (f : Field) (i : Nat) : (s.setInvalid f i).mbx = s.mbx := rfl
@[simp] theorem State.setInvalid_wdg (f : Field) (i : Nat) : (s.setInvalid f i).wdg = s.wdg := rfl
@[simp] theorem State.setInvalid_nvm (f : Field) (i : Nat) : (s.setInvalid f i).nvm = s.nvm := rfl
@[simp] theorem State.setInvalid_afe (f : Field) (i : Nat) : (s.setInvalid f i).afe = s.afe := rfl
@[simp] theorem State.setInvalid_lpe (f : Field) (i : Nat) : (s.setInvalid f i).lpe = s.lpe := rfl
@[simp] theorem State.setInvalid_lpt (f : Field) (i : Nat) : (s.setInvalid f i).lpt = s.lpt := rfl
@[simp] theorem State.setInvalid_cnv (f : Field) (i : Nat) : (s.setInvalid f i).cnv = s.cnv := rfl
@[simp] theorem State.setInvalid_cap (f : Field) (i : Nat) : (s.setInvalid f i).cap = s.cap := rfl
@[simp] theorem State.setInvalid_bat (f : Field) (i : Nat) : (s.setInvalid f i).bat = s.bat := rfl
@[simp] theorem State.setInvalid_seq (f : Field) (i : Nat) : (s.setInvalid f i).seq = s.seq := rfl
@[simp] theorem State.setInvalid_efu (f : Field) (i : Nat) : (s.setInvalid f i).efu = s.efu := rfl
@[simp] theorem State.setInvalid_thm (f : Field) (i : Nat) : (s.setInvalid f i).thm = s.thm := rfl
@[simp] theorem State.setInvalid_qual (f : Field) (i : Nat) : (s.setInvalid f i).qual = s.qual := rfl
@[simp] theorem State.setInvalid_twb (f : Field) (i : Nat) : (s.setInvalid f i).twb = s.twb := rfl
@[simp] theorem State.setInvalid_shr (f : Field) (i : Nat) : (s.setInvalid f i).shr = s.shr := rfl
@[simp] theorem State.setInvalid_hlk (f : Field) (i : Nat) : (s.setInvalid f i).hlk = s.hlk := rfl
@[simp] theorem State.setInvalid_upd (f : Field) (i : Nat) : (s.setInvalid f i).upd = s.upd := rfl
@[simp] theorem State.setInvalid_chn (f : Field) (i : Nat) : (s.setInvalid f i).chn = s.chn := rfl
@[simp] theorem State.setInvalid_saf (f : Field) (i : Nat) : (s.setInvalid f i).saf = s.saf := rfl
@[simp] theorem State.setInvalid_free (f : Field) (i : Nat) : (s.setInvalid f i).free = s.free := rfl
@[simp] theorem State.setInvalid_pending (f : Field) (i : Nat) : (s.setInvalid f i).pending = s.pending := rfl

/-! ### setByte -/

@[simp] theorem State.setByte_regs (a : Nat) (b : Byte) : (s.setByte a b).regs = s.regs := rfl
@[simp] theorem State.setByte_tick (a : Nat) (b : Byte) : (s.setByte a b).tick = s.tick := rfl
@[simp] theorem State.setByte_power (a : Nat) (b : Byte) : (s.setByte a b).power = s.power := rfl
@[simp] theorem State.setByte_powerSince (a : Nat) (b : Byte) : (s.setByte a b).powerSince = s.powerSince := rfl
@[simp] theorem State.setByte_powerFrom (a : Nat) (b : Byte) : (s.setByte a b).powerFrom = s.powerFrom := rfl
@[simp] theorem State.setByte_powerFromSince (a : Nat) (b : Byte) : (s.setByte a b).powerFromSince = s.powerFromSince := rfl
@[simp] theorem State.setByte_full (a : Nat) (b : Byte) : (s.setByte a b).full = s.full := rfl
@[simp] theorem State.setByte_shelfTick (a : Nat) (b : Byte) : (s.setByte a b).shelfTick = s.shelfTick := rfl
@[simp] theorem State.setByte_shelfOld (a : Nat) (b : Byte) : (s.setByte a b).shelfOld = s.shelfOld := rfl
@[simp] theorem State.setByte_tb (a : Nat) (b : Byte) : (s.setByte a b).tb = s.tb := rfl
@[simp] theorem State.setByte_balls (a : Nat) (b : Byte) : (s.setByte a b).balls = s.balls := rfl
@[simp] theorem State.setByte_boot (a : Nat) (b : Byte) : (s.setByte a b).boot = s.boot := rfl
@[simp] theorem State.setByte_cck (a : Nat) (b : Byte) : (s.setByte a b).cck = s.cck := rfl
@[simp] theorem State.setByte_ports (a : Nat) (b : Byte) : (s.setByte a b).ports = s.ports := rfl
@[simp] theorem State.setByte_evr (a : Nat) (b : Byte) : (s.setByte a b).evr = s.evr := rfl
@[simp] theorem State.setByte_made (a : Nat) (b : Byte) : (s.setByte a b).made = s.made := rfl
@[simp] theorem State.setByte_bbx (a : Nat) (b : Byte) : (s.setByte a b).bbx = s.bbx := rfl
@[simp] theorem State.setByte_mbx (a : Nat) (b : Byte) : (s.setByte a b).mbx = s.mbx := rfl
@[simp] theorem State.setByte_wdg (a : Nat) (b : Byte) : (s.setByte a b).wdg = s.wdg := rfl
@[simp] theorem State.setByte_nvm (a : Nat) (b : Byte) : (s.setByte a b).nvm = s.nvm := rfl
@[simp] theorem State.setByte_afe (a : Nat) (b : Byte) : (s.setByte a b).afe = s.afe := rfl
@[simp] theorem State.setByte_lpe (a : Nat) (b : Byte) : (s.setByte a b).lpe = s.lpe := rfl
@[simp] theorem State.setByte_lpt (a : Nat) (b : Byte) : (s.setByte a b).lpt = s.lpt := rfl
@[simp] theorem State.setByte_cnv (a : Nat) (b : Byte) : (s.setByte a b).cnv = s.cnv := rfl
@[simp] theorem State.setByte_cap (a : Nat) (b : Byte) : (s.setByte a b).cap = s.cap := rfl
@[simp] theorem State.setByte_bat (a : Nat) (b : Byte) : (s.setByte a b).bat = s.bat := rfl
@[simp] theorem State.setByte_seq (a : Nat) (b : Byte) : (s.setByte a b).seq = s.seq := rfl
@[simp] theorem State.setByte_efu (a : Nat) (b : Byte) : (s.setByte a b).efu = s.efu := rfl
@[simp] theorem State.setByte_thm (a : Nat) (b : Byte) : (s.setByte a b).thm = s.thm := rfl
@[simp] theorem State.setByte_qual (a : Nat) (b : Byte) : (s.setByte a b).qual = s.qual := rfl
@[simp] theorem State.setByte_twb (a : Nat) (b : Byte) : (s.setByte a b).twb = s.twb := rfl
@[simp] theorem State.setByte_shr (a : Nat) (b : Byte) : (s.setByte a b).shr = s.shr := rfl
@[simp] theorem State.setByte_hlk (a : Nat) (b : Byte) : (s.setByte a b).hlk = s.hlk := rfl
@[simp] theorem State.setByte_upd (a : Nat) (b : Byte) : (s.setByte a b).upd = s.upd := rfl
@[simp] theorem State.setByte_chn (a : Nat) (b : Byte) : (s.setByte a b).chn = s.chn := rfl
@[simp] theorem State.setByte_saf (a : Nat) (b : Byte) : (s.setByte a b).saf = s.saf := rfl
@[simp] theorem State.setByte_free (a : Nat) (b : Byte) : (s.setByte a b).free = s.free := rfl
@[simp] theorem State.setByte_pending (a : Nat) (b : Byte) : (s.setByte a b).pending = s.pending := rfl

/-! ### event -/

@[simp] theorem State.event_regs (e : Ev) (o : Nat) (l : List Int) : (s.event e o l).regs = s.regs := rfl
@[simp] theorem State.event_tick (e : Ev) (o : Nat) (l : List Int) : (s.event e o l).tick = s.tick := rfl
@[simp] theorem State.event_mem (e : Ev) (o : Nat) (l : List Int) : (s.event e o l).mem = s.mem := rfl
@[simp] theorem State.event_power (e : Ev) (o : Nat) (l : List Int) : (s.event e o l).power = s.power := rfl
@[simp] theorem State.event_powerSince (e : Ev) (o : Nat) (l : List Int) : (s.event e o l).powerSince = s.powerSince := rfl
@[simp] theorem State.event_powerFrom (e : Ev) (o : Nat) (l : List Int) : (s.event e o l).powerFrom = s.powerFrom := rfl
@[simp] theorem State.event_powerFromSince (e : Ev) (o : Nat) (l : List Int) : (s.event e o l).powerFromSince = s.powerFromSince := rfl
@[simp] theorem State.event_full (e : Ev) (o : Nat) (l : List Int) : (s.event e o l).full = s.full := rfl
@[simp] theorem State.event_shelfTick (e : Ev) (o : Nat) (l : List Int) : (s.event e o l).shelfTick = s.shelfTick := rfl
@[simp] theorem State.event_shelfOld (e : Ev) (o : Nat) (l : List Int) : (s.event e o l).shelfOld = s.shelfOld := rfl
@[simp] theorem State.event_tb (e : Ev) (o : Nat) (l : List Int) : (s.event e o l).tb = s.tb := rfl
@[simp] theorem State.event_balls (e : Ev) (o : Nat) (l : List Int) : (s.event e o l).balls = s.balls := rfl
@[simp] theorem State.event_boot (e : Ev) (o : Nat) (l : List Int) : (s.event e o l).boot = s.boot := rfl
@[simp] theorem State.event_cck (e : Ev) (o : Nat) (l : List Int) : (s.event e o l).cck = s.cck := rfl
@[simp] theorem State.event_ports (e : Ev) (o : Nat) (l : List Int) : (s.event e o l).ports = s.ports := rfl
@[simp] theorem State.event_evr (e : Ev) (o : Nat) (l : List Int) : (s.event e o l).evr = s.evr := rfl
@[simp] theorem State.event_bbx (e : Ev) (o : Nat) (l : List Int) : (s.event e o l).bbx = s.bbx := rfl
@[simp] theorem State.event_mbx (e : Ev) (o : Nat) (l : List Int) : (s.event e o l).mbx = s.mbx := rfl
@[simp] theorem State.event_wdg (e : Ev) (o : Nat) (l : List Int) : (s.event e o l).wdg = s.wdg := rfl
@[simp] theorem State.event_nvm (e : Ev) (o : Nat) (l : List Int) : (s.event e o l).nvm = s.nvm := rfl
@[simp] theorem State.event_afe (e : Ev) (o : Nat) (l : List Int) : (s.event e o l).afe = s.afe := rfl
@[simp] theorem State.event_lpe (e : Ev) (o : Nat) (l : List Int) : (s.event e o l).lpe = s.lpe := rfl
@[simp] theorem State.event_lpt (e : Ev) (o : Nat) (l : List Int) : (s.event e o l).lpt = s.lpt := rfl
@[simp] theorem State.event_cnv (e : Ev) (o : Nat) (l : List Int) : (s.event e o l).cnv = s.cnv := rfl
@[simp] theorem State.event_cap (e : Ev) (o : Nat) (l : List Int) : (s.event e o l).cap = s.cap := rfl
@[simp] theorem State.event_bat (e : Ev) (o : Nat) (l : List Int) : (s.event e o l).bat = s.bat := rfl
@[simp] theorem State.event_seq (e : Ev) (o : Nat) (l : List Int) : (s.event e o l).seq = s.seq := rfl
@[simp] theorem State.event_efu (e : Ev) (o : Nat) (l : List Int) : (s.event e o l).efu = s.efu := rfl
@[simp] theorem State.event_thm (e : Ev) (o : Nat) (l : List Int) : (s.event e o l).thm = s.thm := rfl
@[simp] theorem State.event_qual (e : Ev) (o : Nat) (l : List Int) : (s.event e o l).qual = s.qual := rfl
@[simp] theorem State.event_twb (e : Ev) (o : Nat) (l : List Int) : (s.event e o l).twb = s.twb := rfl
@[simp] theorem State.event_shr (e : Ev) (o : Nat) (l : List Int) : (s.event e o l).shr = s.shr := rfl
@[simp] theorem State.event_hlk (e : Ev) (o : Nat) (l : List Int) : (s.event e o l).hlk = s.hlk := rfl
@[simp] theorem State.event_upd (e : Ev) (o : Nat) (l : List Int) : (s.event e o l).upd = s.upd := rfl
@[simp] theorem State.event_chn (e : Ev) (o : Nat) (l : List Int) : (s.event e o l).chn = s.chn := rfl
@[simp] theorem State.event_saf (e : Ev) (o : Nat) (l : List Int) : (s.event e o l).saf = s.saf := rfl
@[simp] theorem State.event_free (e : Ev) (o : Nat) (l : List Int) : (s.event e o l).free = s.free := rfl
@[simp] theorem State.event_pending (e : Ev) (o : Nat) (l : List Int) : (s.event e o l).pending = s.pending := rfl

end Sys2Proof.Machine
end

