-- ==== Sys2Proof/Laws/Ops.lean ====
section
/-! SUPPORT. Laws of the named operations: bits of a word, register fields, memory bytes, and the canonical form. -/

namespace Sys2Proof.Machine

/-! ### Bits -/

theorem testBit_bitsOf (w : Word) (lo n i : Nat) : (bitsOf w lo n).testBit i = (decide (i < n) && w.getLsbD (lo + i)) := by
  simp [bitsOf, Nat.testBit_mod_two_pow, BitVec.testBit_toNat]

theorem getLsbD_withBits (w : Word) (lo n v i : Nat) (hi : i < 32) :
    (withBits w lo n v).getLsbD i = if lo ≤ i ∧ i < lo + n then v.testBit (i - lo) else w.getLsbD i := by
  have h1 : ∀ j, (2 ^ n - 1).testBit j = decide (j < n) := fun j => Nat.testBit_two_pow_sub_one n j
  simp only [withBits, BitVec.getLsbD_or, BitVec.getLsbD_and, BitVec.getLsbD_not, BitVec.getLsbD_shiftLeft, BitVec.getLsbD_ofNat, hi,
    decide_true, Bool.true_and, h1, Nat.testBit_mod_two_pow]
  by_cases hl : i < lo
  · have : ¬ lo ≤ i := by omega
    simp [hl, this]
  · have hlo : lo ≤ i := by omega
    by_cases hn : i - lo < n
    · have : i < lo + n := by omega
      have h32 : i - lo < 32 := by omega
      simp [hl, hlo, hn, this, h32]
    · have : ¬ i < lo + n := by omega
      simp [hl, hn, this]

/-- The bits written read back. -/
theorem bitsOf_withBits_same (w : Word) (lo n v : Nat) (h : lo + n ≤ 32) : bitsOf (withBits w lo n v) lo n = v % 2 ^ n := by
  apply Nat.eq_of_testBit_eq
  intro i
  rw [testBit_bitsOf, Nat.testBit_mod_two_pow]
  by_cases hi : i < n
  · have h32 : lo + i < 32 := by omega
    have h2 : lo ≤ lo + i ∧ lo + i < lo + n := by omega
    rw [getLsbD_withBits w lo n v _ h32, if_pos h2]
    simp
  · simp [hi]

/-- Bits outside those written keep their value. -/
theorem bitsOf_withBits_other (w : Word) (lo n v lo' n' : Nat) (h : lo' + n' ≤ lo ∨ lo + n ≤ lo') :
    bitsOf (withBits w lo n v) lo' n' = bitsOf w lo' n' := by
  apply Nat.eq_of_testBit_eq
  intro i
  rw [testBit_bitsOf, testBit_bitsOf]
  by_cases hi : i < n'
  · by_cases h32 : lo' + i < 32
    · have h2 : ¬ (lo ≤ lo' + i ∧ lo' + i < lo + n) := by omega
      rw [getLsbD_withBits w lo n v _ h32, if_neg h2]
    · rw [BitVec.getLsbD_of_ge _ _ (by omega), BitVec.getLsbD_of_ge _ _ (by omega)]
  · simp [hi]

/-! ### Registers -/

@[simp] theorem State.reg_setReg_same (s : State) (a : Nat) (w : Word) : (s.setReg a w).reg a = w := look_put_same a w s.regs

theorem State.reg_setReg_ne (s : State) {a b : Nat} (h : b ≠ a) (w : Word) : (s.setReg a w).reg b = s.reg b := look_put_ne h w s.regs

/-- A field's element stands within its 32-bit register. -/
def Field.fits (f : Field) (i : Nat) : Prop := f.bit i + f.width ≤ 32

/-- Two elements share no bit: they stand in different registers or in different bits. -/
def Field.apart (f : Field) (i : Nat) (g : Field) (j : Nat) : Prop :=
  g.at j ≠ f.at i ∨ g.bit j + g.width ≤ f.bit i ∨ f.bit i + f.width ≤ g.bit j

/-- A field reads back what was written to it, cut to its width. -/
theorem State.get_set_same (s : State) (f : Field) (v i : Nat) (h : f.fits i) : (s.set f v i).get f i = v % 2 ^ f.width := by
  simp only [State.get, State.set, State.reg_setReg_same]
  exact bitsOf_withBits_same _ _ _ _ h

/-- Writing a field leaves every element that shares no bit with it. -/
theorem State.get_set_apart (s : State) (f g : Field) (v i j : Nat) (h : f.apart i g j) : (s.set f v i).get g j = s.get g j := by
  simp only [State.get, State.set]
  rcases h with h | h
  · rw [State.reg_setReg_ne s h]
  · by_cases ha : g.at j = f.at i
    · rw [ha, State.reg_setReg_same]
      exact bitsOf_withBits_other _ _ _ _ _ _ h
    · rw [State.reg_setReg_ne s ha]

/-- Writing a field leaves every other register. -/
theorem State.reg_set_ne (s : State) (f : Field) (v i : Nat) {a : Nat} (h : a ≠ f.at i) : (s.set f v i).reg a = s.reg a :=
  State.reg_setReg_ne s h _

/-! ### Memory -/

@[simp] theorem State.byte_setByte_same (s : State) (a : Nat) (b : Byte) : (s.setByte a b).byte a = b := look_put_same a b s.mem

theorem State.byte_setByte_ne (s : State) {a c : Nat} (h : c ≠ a) (b : Byte) : (s.setByte a b).byte c = s.byte c :=
  look_put_ne h b s.mem

/-- Writing bytes leaves every byte outside them. -/
theorem State.byte_setBytes_out (bs : List Byte) : ∀ (s : State) (a c : Nat), c < a ∨ a + bs.length ≤ c → (s.setBytes a bs).byte c = s.byte c := by
  induction bs with
  | nil => intro s a c _; rfl
  | cons b bs ih =>
    intro s a c h
    simp only [List.length_cons] at h
    rw [State.setBytes, ih _ _ _ (by omega), State.byte_setByte_ne s (by omega)]

@[simp] theorem State.setBytes_regs (bs : List Byte) : ∀ (s : State) (a : Nat), (s.setBytes a bs).regs = s.regs := by
  induction bs with
  | nil => intro s a; rfl
  | cons b bs ih => intro s a; rw [State.setBytes, ih]; rfl

/-- Every memory operation keeps the canonical form. -/
theorem State.setByte_wf (s : State) (a : Nat) (b : Byte) (h : Memory.wf s.mem = true) : Memory.wf (s.setByte a b).mem = true :=
  put_sparseWf a b h

theorem State.setBytes_wf (bs : List Byte) : ∀ (s : State) (a : Nat), Memory.wf s.mem = true → Memory.wf (s.setBytes a bs).mem = true := by
  induction bs with
  | nil => intro s a h; exact h
  | cons b bs ih => intro s a h; exact ih _ _ (State.setByte_wf s a b h)

theorem State.store_wf (s : State) (a : Nat) (w : Word) (h : Memory.wf s.mem = true) : Memory.wf (s.store a w).mem = true :=
  State.setBytes_wf _ s a h

/-- Every register write keeps the canonical form. -/
theorem State.setReg_wf (s : State) (a : Nat) (w : Word) (h : sparseWf regReset s.regs = true) : sparseWf regReset (s.setReg a w).regs = true :=
  put_sparseWf a w h

/-- The memory of the state after reset is in its canonical form. -/
theorem reset_mem_wf : Memory.wf State.reset.mem = true := rfl

end Sys2Proof.Machine
end

