-- ==== Sys2Proof/Laws/Kept.lean ====
section
/-! SUPPORT. What every operation of the model keeps: the canonical forms of the registers and the memory, the queue, and the tick counter, and
how the power state may go. Only the loss of power, which the two power-on reset commands bring, moves the counter, to 0. -/

namespace Sys2Proof.Machine

/-- The power state stays, or, where `p` allows it, it goes by a transition of R22 out of the state the tick began in, one a tick but for a
transition that comes before it in the order of R25. -/
def PowerKept (p : Bool) (s t : State) : Prop :=
  (t.power = s.power ∧ t.powerSince = s.powerSince ∧ t.powerFrom = s.powerFrom ∧ t.powerFromSince = s.powerFromSince) ∨
  (p = true ∧ s.powerWas.moves t.power = true ∧ (s.powerSince = s.tick → t.power.rank < s.power.rank) ∧ t.powerSince = s.tick ∧
    t.powerFrom = s.powerWas ∧ t.powerFromSince = s.powerWasSince)

theorem PowerKept.refl {p : Bool} (s : State) : PowerKept p s s := .inl ⟨rfl, rfl, rfl, rfl⟩

/-- The state that a tick began in is the same at its end. -/
theorem PowerKept.was {p : Bool} {s t : State} (ht : t.tick = s.tick) (h : PowerKept p s t) :
    t.powerWas = s.powerWas ∧ t.powerWasSince = s.powerWasSince := by
  rcases h with ⟨h1, h2, h3, h4⟩ | ⟨_, _, _, h3, h4, h5⟩
  · simp only [State.powerWas, State.powerWasSince, h1, h2, h3, h4, ht, and_self]
  · simp only [State.powerWas, State.powerWasSince, ht, h3, if_true, h4, h5, and_self]

theorem PowerKept.trans {p : Bool} {s t u : State} (ht : t.tick = s.tick) (h : PowerKept p s t) (k : PowerKept p t u) : PowerKept p s u := by
  obtain ⟨w1, w2⟩ := PowerKept.was ht h
  rcases k with ⟨k1, k2, k3, k4⟩ | ⟨kp, k1, k2, k3, k4, k5⟩
  · rcases h with ⟨h1, h2, h3, h4⟩ | ⟨hp, h1, h2, h3, h4, h5⟩
    · exact .inl ⟨k1.trans h1, k2.trans h2, k3.trans h3, k4.trans h4⟩
    · exact .inr ⟨hp, by rw [k1]; exact h1, by rw [k1]; exact h2, k2.trans h3, k3.trans h4, k4.trans h5⟩
  · refine .inr ⟨kp, w1 ▸ k1, fun e => ?_, k3.trans ht, k4.trans w1, k5.trans w2⟩
    rcases h with ⟨h1, h2, _, _⟩ | ⟨_, _, h2, h3, _, _⟩
    · rw [← h1]; exact k2 (by rw [h2, ht]; exact e)
    · exact Nat.lt_trans (k2 (by rw [h3, ht])) (h2 e)

/-- What an operation may do beyond what every one keeps: enter a power state, write memory. -/
structure May where
  power : Bool
  store : Bool

/-- What an operation keeps from `s` to `t`: every operation but the loss of power, tick g and the advance of the counter; the power state moves
and memory changes only where `p` allows it. -/
structure Kept (p : May) (s t : State) : Prop where
  regs : sparseWf regReset s.regs = true → sparseWf regReset t.regs = true
  mem : Memory.wf s.mem = true → Memory.wf t.mem = true
  same : p.store = false → t.mem = s.mem
  pending : t.pending = s.pending
  tick : t.tick = s.tick
  power : PowerKept p.power s t
  g : t.boot.g = s.boot.g
  free : s.free ≤ t.free

/-- What an outcome keeps where it is a next state. -/
def OutKept (p : May) (s : State) (o : Host.Outcome State Fault Refusal) : Prop := ∀ t, o = .next t → Kept p s t

theorem Kept.refl {p : May} (s : State) : Kept p s s := ⟨id, id, fun _ => rfl, rfl, rfl, PowerKept.refl s, rfl, Nat.le_refl _⟩

theorem Kept.trans {p : May} {s t u : State} (h : Kept p s t) (k : Kept p t u) : Kept p s u :=
  ⟨fun x => k.regs (h.regs x), fun x => k.mem (h.mem x), fun x => (k.same x).trans (h.same x), k.pending.trans h.pending, k.tick.trans h.tick, h.power.trans h.tick k.power,
    k.g.trans h.g, Nat.le_trans h.free k.free⟩

/-- A record update that touches none of these; `free` may rise. -/
theorem kept_mk {p : May} {s0 t : State} (h : Kept p s0 t)
    {full : Bool} {shelfTick : Option Nat} {shelfOld : Nat} {tb : TimeBase} {balls : Balls} {boot : Boot} {cck : Cck} {ports : Ports}
    {evr : Recorder} {made : List Made} {bbx : BlackBox} {mbx : Mailbox} {wdg : Watchdog} {nvm : Nvm} {afe : Afe} {lpe : Loop} {lpt : Tuner}
    {cnv : Converter} {cap : Cap} {bat : Bat} {seq : Seq} {efu : Efuse} {thm : Thm} {qual : Qual} {twb : Trans} {shr : Sharing} {hlk : Pair}
    {upd : Update} {chn : Chain} {saf : Saf} {free : Nat} (hg : boot.g = t.boot.g := by rfl)
    (hf : t.free ≤ free := by first | exact Nat.le_refl _ | exact Nat.le_add_right _ _) :
    Kept p s0 (State.mk
      t.tick t.regs t.mem t.power t.powerSince t.powerFrom t.powerFromSince full shelfTick shelfOld tb balls boot cck ports evr made bbx mbx
      wdg nvm afe lpe lpt cnv cap bat seq efu thm qual twb shr hlk upd chn saf free t.pending) :=
  ⟨h.regs, h.mem, h.same, h.pending, h.tick, h.power, hg.trans h.g, Nat.le_trans h.free hf⟩

/-- An entry to a power state that may be entered. -/
theorem kept_enter {b : Bool} {s0 t : State} {x : PowerState} {qual : Qual} (h : Kept ⟨true, b⟩ s0 t) (hp : t.mayEnter x = true) :
    Kept ⟨true, b⟩ s0 { t with power := x, powerSince := t.tick, powerFrom := t.powerWas, powerFromSince := t.powerWasSince, qual := qual } := by
  simp only [State.mayEnter, Bool.and_eq_true, Bool.or_eq_true, bne_iff_ne, ne_eq, decide_eq_true_eq] at hp
  refine h.trans ⟨id, id, fun _ => rfl, rfl, rfl, .inr ⟨rfl, hp.1.2, fun e => hp.2.resolve_left (fun n => n e), rfl, rfl, rfl⟩, rfl, Nat.le_refl _⟩

/-- A state that a value carries, the value given as an equation, so that no check computes it. -/
theorem kept_of {p : May} {α : Type} {s0 : State} (f : α → State) {a b : α} (h : Kept p s0 (f b)) (e : a = b) : Kept p s0 (f a) := e ▸ h

theorem kept_ite {p : May} {s0 a b : State} {c : Prop} [Decidable c] (ha : Kept p s0 a) (hb : Kept p s0 b) : Kept p s0 (if c then a else b) := by
  split <;> assumption

theorem outKept_ite {p : May} {s0 : State} {a b : Host.Outcome State Fault Refusal} {c : Prop} [Decidable c] (ha : OutKept p s0 a) (hb : OutKept p s0 b) :
    OutKept p s0 (if c then a else b) := by
  split <;> assumption

theorem outKept_next {p : May} {s0 t : State} (h : Kept p s0 t) : OutKept p s0 (.next t) := by
  intro u hu; cases hu; exact h

theorem done_kept {p : May} {s0 t : State} (h : Kept p s0 t) : OutKept p s0 (done t) := outKept_next h

theorem State.setReg_kept {p : May} {s0 s : State} {a : Nat} {w : Word} (h : Kept p s0 s) : Kept p s0 (s.setReg a w) :=
  ⟨fun x => State.setReg_wf s a w (h.regs x), h.mem, h.same, h.pending, h.tick, h.power, h.g, h.free⟩

theorem State.setByte_kept {p : Bool} {s0 s : State} {a : Nat} {b : Byte} (h : Kept ⟨p, true⟩ s0 s) : Kept ⟨p, true⟩ s0 (s.setByte a b) :=
  ⟨h.regs, fun x => State.setByte_wf s a b (h.mem x), fun x => (nomatch x), h.pending, h.tick, h.power, h.g, h.free⟩

theorem sparseFrom_filter {α : Type} [DecidableEq α] {d : Nat → α} (p : Nat × α → Bool) : ∀ {m : List (Nat × α)} {lo : Nat},
    sparseFrom d (some lo) m = true → sparseFrom d (some lo) (m.filter p) = true
  | [], _, _ => rfl
  | (k, v) :: m, lo, hm => by
    simp only [sparseFrom, Bool.and_eq_true, decide_eq_true_eq] at hm
    have ih := sparseFrom_filter p hm.2
    by_cases hp : p (k, v) = true
    · simp only [List.filter_cons, hp, if_true, sparseFrom, Bool.and_eq_true, decide_eq_true_eq]
      exact ⟨hm.1, ih⟩
    · simp only [List.filter_cons, hp, Bool.false_eq_true, if_false]
      exact sparseFrom_weaken (Nat.le_of_lt hm.1.1) ih

/-- Dropping entries keeps the canonical form. -/
theorem sparseWf_filter {α : Type} [DecidableEq α] {d : Nat → α} (p : Nat × α → Bool) : ∀ {m : List (Nat × α)},
    sparseWf d m = true → sparseWf d (m.filter p) = true
  | [], _ => rfl
  | (k, v) :: m, hm => by
    simp only [sparseWf, sparseFrom, Bool.and_eq_true, decide_eq_true_eq, true_and] at hm
    have ih := sparseFrom_filter p hm.2
    by_cases hp : p (k, v) = true
    · simp only [List.filter_cons, hp, if_true, sparseWf, sparseFrom, Bool.and_eq_true, decide_eq_true_eq, true_and]
      exact ⟨hm.1, ih⟩
    · simp only [List.filter_cons, hp, Bool.false_eq_true, if_false, sparseWf]
      cases hq : m.filter p with
      | nil => rfl
      | cons x l =>
        rw [hq] at ih
        simp only [sparseFrom, Bool.and_eq_true, decide_eq_true_eq, true_and] at ih ⊢
        exact ⟨ih.1.2, ih.2⟩

/-- Bytes dropped from the memory. -/
theorem kept_filter {p : Bool} {s0 s : State} {q : Host.Cell → Bool} (h : Kept ⟨p, true⟩ s0 s) : Kept ⟨p, true⟩ s0 { s with mem := s.mem.filter q } :=
  ⟨h.regs, fun x => sparseWf_filter q (h.mem x), fun x => (nomatch x), h.pending, h.tick, h.power, h.g, h.free⟩

theorem foldl_kept {p : May} {α : Type} {s0 : State} {f : State → α → State} {l : List α} : ∀ {s : State}, Kept p s0 s →
    (∀ t a, Kept p s0 t → Kept p s0 (f t a)) → Kept p s0 (l.foldl f s) := by
  induction l with
  | nil => intro s h _; exact h
  | cons a l ih => intro s h hf; exact ih (hf s a h) hf

theorem foldl_fst_kept {p : May} {α β : Type} {s0 : State} {f : State × β → α → State × β} {l : List α} : ∀ {s : State × β}, Kept p s0 s.1 →
    (∀ t a, Kept p s0 t.1 → Kept p s0 (f t a).1) → Kept p s0 (l.foldl f s).1 := by
  induction l with
  | nil => intro s h _; exact h
  | cons a l ih => intro s h hf; exact ih (hf s a h) hf

theorem State.each_kept {p : May} {α : Type} {s0 s : State} {l : List α} {f : State → α → State} (h : Kept p s0 s)
    (hf : ∀ t a, Kept p s0 t → Kept p s0 (f t a)) : Kept p s0 (s.each l f) := foldl_kept h hf

theorem State.iff_kept {p : May} {s0 s : State} {b : Bool} {f : State → State} (h : Kept p s0 s) (hf : ∀ t, Kept p s0 t → Kept p s0 (f t)) :
    Kept p s0 (s.iff b f) := by
  cases b
  · exact h
  · exact hf s h

end Sys2Proof.Machine
end

