-- ==== Sys2Proof/Laws/KeptOps.lean ====
section
/-! SUPPORT. What every operation keeps: the shared operations, the recorder, the black box, the shelf. -/

namespace Sys2Proof.Machine

set_option linter.unusedVariables false
set_option Elab.async false

theorem State.set_kept {m0 : May} {s0 s : State} {a2 : Field} {a3 : Nat} {a4 : Nat} (h : Kept m0 s0 s) : Kept m0 s0 (State.set s a2 a3 a4) := by
  unfold State.set
  refine State.setReg_kept ?_
  assumption

theorem State.setI_kept {m0 : May} {s0 s : State} {a2 : Field} {a3 : Int} {a4 : Nat} (h : Kept m0 s0 s) : Kept m0 s0 (State.setI s a2 a3 a4) := by
  unfold State.setI
  refine State.set_kept ?_
  assumption

theorem State.setB_kept {m0 : May} {s0 s : State} {a2 : Field} {a3 : Bool} {a4 : Nat} (h : Kept m0 s0 s) : Kept m0 s0 (State.setB s a2 a3 a4) := by
  unfold State.setB
  refine State.set_kept ?_
  assumption

theorem State.addSat_kept {m0 : May} {s0 s : State} {a2 : Field} {a3 : Nat} {a4 : Nat} (h : Kept m0 s0 s) : Kept m0 s0 (State.addSat s a2 a3 a4) := by
  unfold State.addSat
  refine State.set_kept ?_
  assumption

theorem State.inc_kept {m0 : May} {s0 s : State} {a2 : Field} {a3 : Nat} (h : Kept m0 s0 s) : Kept m0 s0 (State.inc s a2 a3) := by
  unfold State.inc
  refine State.addSat_kept ?_
  assumption

theorem State.incWrap_kept {m0 : May} {s0 s : State} {a2 : Field} {a3 : Nat} (h : Kept m0 s0 s) : Kept m0 s0 (State.incWrap s a2 a3) := by
  unfold State.incWrap
  refine State.set_kept ?_
  assumption

theorem State.maxOf_kept {m0 : May} {s0 s : State} {a2 : Field} {a3 : Nat} {a4 : Nat} (h : Kept m0 s0 s) : Kept m0 s0 (State.maxOf s a2 a3 a4) := by
  unfold State.maxOf
  refine State.set_kept ?_
  assumption

theorem State.stamp_kept {m0 : May} {s0 s : State} {a2 : Field} {a3 : Nat} (h : Kept m0 s0 s) : Kept m0 s0 (State.stamp s a2 a3) := by
  unfold State.stamp
  refine State.set_kept ?_
  assumption

theorem State.setInvalid_kept {m0 : May} {s0 s : State} {a2 : Field} {a3 : Nat} (h : Kept m0 s0 s) : Kept m0 s0 (State.setInvalid s a2 a3) := by
  unfold State.setInvalid
  refine State.set_kept ?_
  assumption

theorem State.setBit_kept {m0 : May} {s0 s : State} {a2 : Field} {a3 : Nat} {a4 : Bool} {a5 : Nat} (h : Kept m0 s0 s) : Kept m0 s0 (State.setBit s a2 a3 a4 a5) := by
  unfold State.setBit
  refine State.set_kept ?_
  assumption

theorem State.setBytes_kept {m0 : Bool} {s0 : State} {a3 : List Byte} : ∀ {s : State} {a2 : Nat} (h : Kept ⟨m0, true⟩ s0 s), Kept ⟨m0, true⟩ s0 (State.setBytes s a2 a3) := by
  induction a3 with
  | nil => intro s a2 h; exact h
  | cons b bs ih => intro s a2 h; exact ih (State.setByte_kept h)

theorem State.store_kept {m0 : Bool} {s0 s : State} {a2 : Nat} {a3 : Word} (h : Kept ⟨m0, true⟩ s0 s) : Kept ⟨m0, true⟩ s0 (State.store s a2 a3) := by
  unfold State.store
  refine State.setBytes_kept ?_
  assumption

theorem State.event_kept {m0 : May} {s0 s : State} {a2 : Ev} {a3 : Nat} {a4 : List Int} (h : Kept m0 s0 s) : Kept m0 s0 (State.event s a2 a3 a4) := by
  unfold State.event
  refine kept_mk ?_
  assumption

theorem State.draw_kept {m0 : May} {s0 s : State} (h : Kept m0 s0 s) : Kept m0 s0 (State.draw s).2 := by
  unfold State.draw
  dsimp only
  refine kept_mk ?_
  assumption

theorem State.fineDraw_kept {m0 : May} {s0 s : State} (h : Kept m0 s0 s) : Kept m0 s0 (State.fineDraw s).2 := by
  unfold State.fineDraw
  dsimp only
  refine State.draw_kept ?_
  assumption

theorem State.random_kept {m0 : May} {s0 s : State} {a2 : Nat} (h : Kept m0 s0 s) : Kept m0 s0 (State.random s a2).2 := by
  unfold State.random
  dsimp only
  refine kept_mk ?_
  assumption

theorem State.setWrote_kept {m0 : May} {s0 s : State} {a2 : List Wrote} (h : Kept m0 s0 s) : Kept m0 s0 (State.setWrote s a2) := by
  unfold State.setWrote
  refine kept_mk ?_
  assumption

theorem State.noteWrite_kept {m0 : May} {s0 s : State} {a2 : Requester} {a3 : Nat} {a4 : Word} (h : Kept m0 s0 s) : Kept m0 s0 (State.noteWrite s a2 a3 a4) := by
  unfold State.noteWrite
  refine State.setWrote_kept ?_
  assumption

theorem State.ranked_kept {m0 : May} {s0 s : State} {a2 : Requester} {a3 : Nat} {a4 : State → State} (h : Kept m0 s0 s) (ha4 : ∀ b0, Kept m0 s0 b0 → Kept m0 s0 (a4 b0)) : Kept m0 s0 (State.ranked s a2 a3 a4) := by
  unfold State.ranked
  refine kept_ite ?_ ?_
  · assumption
  · refine ha4 _ ?_
    refine State.noteWrite_kept ?_
    assumption

theorem State.owe_kept {m0 : May} {s0 s : State} {a2 : Nat} {a3 : Nat} {a4 : Nat} (h : Kept m0 s0 s) : Kept m0 s0 (State.owe s a2 a3 a4) := by
  unfold State.owe
  refine kept_mk ?_
  assumption

theorem State.refuse_kept {m0 : May} {s0 s : State} {a2 : Requester} {a3 : Nat} {a4 : AccErr} (h : Kept m0 s0 s) : Kept m0 s0 (State.refuse s a2 a3 a4) := by
  unfold State.refuse
  lift_lets
  intro x0
  have hx0 : Kept m0 s0 (x0) := by
    unfold x0
    split
    · refine State.inc_kept ?_
      assumption
    · refine State.inc_kept ?_
      assumption
    · refine State.inc_kept ?_
      assumption
    · refine State.inc_kept ?_
      refine State.inc_kept ?_
      assumption
  clear_value x0
  intro x1
  have hx1 : Kept m0 s0 (x1) := by
    unfold x1
    refine State.set_kept ?_
    refine State.set_kept ?_
    refine State.inc_kept ?_
    assumption
  clear_value x1
  intro x2
  clear_value x2
  split
  · refine kept_mk ?_
    assumption
  · assumption

theorem State.storedChange_kept {m0 : May} {s0 s : State} (h : Kept m0 s0 s) : Kept m0 s0 (State.storedChange s) := by
  unfold State.storedChange
  split
  · refine kept_ite ?_ ?_
    · refine kept_mk ?_
      assumption
    · assumption
  · assumption

theorem State.markPage_kept {m0 : May} {s0 s : State} {a2 : Nat} (h : Kept m0 s0 s) : Kept m0 s0 (State.markPage s a2) := by
  unfold State.markPage
  lift_lets
  intro x0
  have hx0 : Kept m0 s0 (x0) := by
    unfold x0
    refine State.storedChange_kept ?_
    refine State.setBit_kept ?_
    assumption
  clear_value x0
  intro x1
  clear_value x1
  refine kept_ite ?_ ?_
  · refine kept_mk ?_
    assumption
  · assumption

theorem State.markWritten_kept {m0 : May} {s0 s : State} {a2 : Nat} (h : Kept m0 s0 s) : Kept m0 s0 (State.markWritten s a2) := by
  unfold State.markWritten
  lift_lets
  intro x0
  have hx0 : Kept m0 s0 (x0) := by
    unfold x0
    refine State.markPage_kept ?_
    assumption
  clear_value x0
  intro x1
  clear_value x1
  refine kept_ite ?_ ?_
  · refine kept_mk ?_
    assumption
  · assumption

theorem State.touch_kept {m0 : May} {s0 s : State} {a2 : Requester} (h : Kept m0 s0 s) : Kept m0 s0 (State.touch s a2) := by
  unfold State.touch
  lift_lets
  intro x0
  clear_value x0
  intro x1
  have hx1 : ∀ b0, Kept m0 s0 (x1 b0) := by
    intro v2_0
    unfold x1
    lift_lets
    intro x3
    clear_value x3
    refine kept_mk ?_
    assumption
  clear_value x1
  split
  · split
    · refine hx1 _
    · assumption
  · refine kept_ite ?_ ?_
    · assumption
    · refine hx1 _
  · assumption

theorem State.gate_kept {m0 : May} {s0 s : State} {a2 : Requester} {a3 : Nat} {a4 : State → State} (h : Kept m0 s0 s) (ha4 : ∀ b0, Kept m0 s0 b0 → Kept m0 s0 (a4 b0)) : Kept m0 s0 (State.gate s a2 a3 a4) := by
  unfold State.gate
  refine kept_ite ?_ ?_
  · assumption
  · split
    · refine State.refuse_kept ?_
      assumption
    · refine ha4 _ ?_
      refine State.touch_kept ?_
      assumption

theorem State.gateRole_kept {m0 : May} {s0 s : State} {a2 : Requester} {a3 : Nat} {a4 : Role} {a5 : State → State} (h : Kept m0 s0 s) (ha5 : ∀ b0, Kept m0 s0 b0 → Kept m0 s0 (a5 b0)) : Kept m0 s0 (State.gateRole s a2 a3 a4 a5) := by
  unfold State.gateRole
  refine kept_ite ?_ ?_
  · assumption
  · split
    · refine State.refuse_kept ?_
      assumption
    · refine kept_ite ?_ ?_
      · refine ha5 _ ?_
        refine State.touch_kept ?_
        assumption
      · refine State.refuse_kept ?_
        assumption

theorem State.gateRead_kept {m0 : May} {s0 s : State} {a2 : Requester} {a3 : Nat} {a4 : State → State} (h : Kept m0 s0 s) (ha4 : ∀ b0, Kept m0 s0 b0 → Kept m0 s0 (a4 b0)) : Kept m0 s0 (State.gateRead s a2 a3 a4) := by
  unfold State.gateRead
  refine kept_ite ?_ ?_
  · assumption
  · split
    · lift_lets
      intro x0
      have hx0 : Kept m0 s0 (x0) := by
        unfold x0
        refine State.refuse_kept ?_
        assumption
      clear_value x0
      intro x1
      clear_value x1
      refine kept_mk ?_
      assumption
    · refine ha4 _ ?_
      refine State.touch_kept ?_
      assumption

theorem State.reply_kept {m0 : May} {s0 s : State} {a2 : List Nat} (h : Kept m0 s0 s) : Kept m0 s0 (State.reply s a2) := by
  unfold State.reply
  refine kept_mk ?_
  assumption

theorem State.replyTo_kept {m0 : May} {s0 s : State} {a2 : Requester} {a3 : List Nat} (h : Kept m0 s0 s) : Kept m0 s0 (State.replyTo s a2 a3) := by
  unfold State.replyTo
  refine State.reply_kept ?_
  assumption

theorem State.nvmStore_kept {m0 : Bool} {s0 s : State} {a2 : Nat} {a3 : Word} (h : Kept ⟨m0, true⟩ s0 s) : Kept ⟨m0, true⟩ s0 (State.nvmStore s a2 a3) := by
  unfold State.nvmStore
  lift_lets
  intro x0
  have hx0 : Kept ⟨m0, true⟩ s0 (x0) := by
    unfold x0
    refine State.store_kept ?_
    assumption
  clear_value x0
  intro x1
  clear_value x1
  intro x2
  have hx2 : Kept ⟨m0, true⟩ s0 (x2) := by
    unfold x2
    refine kept_mk ?_
    assumption
  clear_value x2
  refine State.incWrap_kept ?_
  assumption

theorem State.nvmWrite_kept {m0 : Bool} {s0 : State} {a3 : List Word} : ∀ {s : State} {a2 : Nat} (h : Kept ⟨m0, true⟩ s0 s), Kept ⟨m0, true⟩ s0 (State.nvmWrite s a2 a3) := by
  induction a3 with
  | nil => intro s a2 h; exact h
  | cons b bs ih => intro s a2 h; exact ih (State.nvmStore_kept h)

theorem State.countersWrite_kept {m0 : Bool} {s0 s : State} {a2 : Nat} {a3 : List Word} (h : Kept ⟨m0, true⟩ s0 s) : Kept ⟨m0, true⟩ s0 (State.countersWrite s a2 a3) := by
  unfold State.countersWrite
  refine kept_ite ?_ ?_
  · refine State.nvmWrite_kept ?_
    assumption
  · refine kept_mk ?_
    assumption

theorem State.countersTick_kept {m0 : Bool} {s0 s : State} (h : Kept ⟨m0, true⟩ s0 s) : Kept ⟨m0, true⟩ s0 (State.countersTick s) := by
  unfold State.countersTick
  split
  · assumption
  · refine kept_ite ?_ ?_
    · refine State.nvmStore_kept ?_
      refine kept_mk ?_
      assumption
    · assumption

theorem State.countersSeen_kept {m0 : Bool} {s0 s : State} (h : Kept ⟨m0, true⟩ s0 s) : Kept ⟨m0, true⟩ s0 (State.countersSeen s) := by
  unfold State.countersSeen
  refine State.each_kept ?_ ?_
  · assumption
  · intro v0_0 v0_1 v0_2
    refine State.store_kept ?_
    assumption

theorem State.timeSave_kept {m0 : Bool} {s0 s : State} {a2 : Nat} {a3 : Nat} {a4 : Nat} (h : Kept ⟨m0, true⟩ s0 s) : Kept ⟨m0, true⟩ s0 (State.timeSave s a2 a3 a4) := by
  unfold State.timeSave
  lift_lets
  intro x0
  clear_value x0
  intro x1
  clear_value x1
  intro x2
  have hx2 : Kept ⟨m0, true⟩ s0 (x2) := by
    unfold x2
    refine State.countersWrite_kept ?_
    refine State.countersWrite_kept ?_
    assumption
  clear_value x2
  intro x3
  have hx3 : Kept ⟨m0, true⟩ s0 (x3) := by
    unfold x3
    refine State.incWrap_kept ?_
    assumption
  clear_value x3
  intro x4
  clear_value x4
  refine kept_mk ?_
  assumption

theorem State.showFill_kept {m0 : May} {s0 s : State} (h : Kept m0 s0 s) : Kept m0 s0 (State.showFill s) := by
  unfold State.showFill
  refine State.maxOf_kept ?_
  refine State.set_kept ?_
  assumption

theorem State.notify_kept {m0 : May} {s0 s : State} {a2 : Rec} (h : Kept m0 s0 s) : Kept m0 s0 (State.notify s a2) := by
  unfold State.notify
  lift_lets
  intro x0
  try clear_value x0
  intro x1
  try clear_value x1
  refine kept_ite ?_ ?_
  · refine kept_mk ?_
    assumption
  · assumption

theorem State.enqueue_kept {m0 : May} {s0 s : State} {a2 : Rec} (h : Kept m0 s0 s) : Kept m0 s0 (State.enqueue s a2) := by
  unfold State.enqueue
  lift_lets
  intro x0
  clear_value x0
  intro x1
  clear_value x1
  intro x2
  have hx2 : Kept m0 s0 (x2) := by
    unfold x2
    refine kept_mk ?_
    assumption
  clear_value x2
  intro x3
  have hx3 : Kept m0 s0 (x3) := by
    unfold x3
    refine State.showFill_kept ?_
    refine State.set_kept ?_
    assumption
  clear_value x3
  intro x4
  have hx4 : Kept m0 s0 (x4) := by
    unfold x4
    refine State.iff_kept ?_ ?_
    · assumption
    · intro v5_0 v5_1
      refine State.set_kept ?_
      assumption
  clear_value x4
  intro x6
  have hx6 : Kept m0 s0 (x6) := by
    unfold x6
    refine State.incWrap_kept ?_
    assumption
  clear_value x6
  intro x7
  have hx7 : Kept m0 s0 (x7) := by
    unfold x7
    refine State.set_kept ?_
    refine State.set_kept ?_
    refine State.set_kept ?_
    assumption
  clear_value x7
  intro x8
  have hx8 : Kept m0 s0 (x8) := by
    unfold x8
    refine State.iff_kept ?_ ?_
    · assumption
    · intro v9_0 v9_1
      refine State.set_kept ?_
      assumption
  clear_value x8
  intro x10
  have hx10 : Kept m0 s0 (x10) := by
    unfold x10
    refine State.iff_kept ?_ ?_
    · assumption
    · intro v11_0 v11_1
      refine State.set_kept ?_
      assumption
  clear_value x10
  intro x12
  refine State.notify_kept ?_
  refine kept_mk ?_
  assumption

theorem State.dropRec_kept {m0 : May} {s0 s : State} {a2 : Nat} (h : Kept m0 s0 s) : Kept m0 s0 (State.dropRec s a2) := by
  unfold State.dropRec
  refine kept_ite ?_ ?_
  · lift_lets
    intro x0
    have hx0 : Kept m0 s0 (x0) := by
      unfold x0
      refine State.inc_kept ?_
      assumption
    clear_value x0
    intro x1
    clear_value x1
    refine kept_mk ?_
    assumption
  · lift_lets
    intro x2
    have hx2 : Kept m0 s0 (x2) := by
      unfold x2
      refine State.inc_kept ?_
      assumption
    clear_value x2
    intro x3
    clear_value x3
    refine kept_mk ?_
    assumption

theorem State.waitOwn_kept {m0 : May} {s0 s : State} {a2 : Rec} (h : Kept m0 s0 s) : Kept m0 s0 (State.waitOwn s a2) := by
  unfold State.waitOwn
  refine kept_ite ?_ ?_
  · refine kept_mk ?_
    assumption
  · refine kept_mk ?_
    assumption

theorem State.admitOwn_kept {m0 : May} {s0 s : State} {a2 : Rec} (h : Kept m0 s0 s) : Kept m0 s0 (State.admitOwn s a2) := by
  unfold State.admitOwn
  refine kept_ite ?_ ?_
  · refine State.enqueue_kept ?_
    assumption
  · refine State.waitOwn_kept ?_
    assumption

theorem State.foldReport_kept {m0 : May} {s0 s : State} {a2 : Nat} (h : Kept m0 s0 s) : Kept m0 s0 (State.foldReport s a2) := by
  unfold State.foldReport
  refine State.admitOwn_kept ?_
  refine State.inc_kept ?_
  assumption

theorem State.alarmFull_kept {m0 : May} {s0 s : State} {a2 : Rec} (h : Kept m0 s0 s) : Kept m0 s0 (State.alarmFull s a2) := by
  unfold State.alarmFull
  lift_lets
  intro x0
  clear_value x0
  intro x1
  clear_value x1
  intro x2
  clear_value x2
  split
  · refine State.enqueue_kept ?_
    refine State.dropRec_kept ?_
    refine kept_mk ?_
    assumption
  · refine kept_ite ?_ ?_
    · refine State.foldReport_kept ?_
      refine kept_mk ?_
      assumption
    · refine kept_ite ?_ ?_
      · refine State.foldReport_kept ?_
        refine kept_mk ?_
        assumption
      · refine kept_ite ?_ ?_
        · refine State.inc_kept ?_
          refine kept_mk ?_
          assumption
        · refine kept_ite ?_ ?_
          · refine kept_mk ?_
            assumption
          · refine State.foldReport_kept ?_
            refine kept_mk ?_
            assumption

theorem State.admitAlarm_kept {m0 : May} {s0 s : State} {a2 : Rec} (h : Kept m0 s0 s) : Kept m0 s0 (State.admitAlarm s a2) := by
  unfold State.admitAlarm
  refine kept_ite ?_ ?_
  · refine State.inc_kept ?_
    refine kept_mk ?_
    assumption
  · refine kept_ite ?_ ?_
    · refine State.enqueue_kept ?_
      assumption
    · refine State.alarmFull_kept ?_
      assumption

theorem State.limit_kept {m0 : May} {s0 s : State} {a2 : Rec} (h : Kept m0 s0 s) : Kept m0 s0 (State.limit s a2) := by
  unfold State.limit
  split
  · lift_lets
    intro x0
    clear_value x0
    intro x1
    clear_value x1
    intro x2
    have hx2 : Kept m0 s0 (x2) := by
      unfold x2
      refine kept_mk ?_
      assumption
    clear_value x2
    refine kept_ite ?_ ?_
    · refine State.enqueue_kept ?_
      assumption
    · refine State.inc_kept ?_
      assumption
  · lift_lets
    intro x3
    clear_value x3
    intro x4
    clear_value x4
    intro x5
    have hx5 : Kept m0 s0 (x5) := by
      unfold x5
      refine kept_mk ?_
      assumption
    clear_value x5
    refine kept_ite ?_ ?_
    · refine State.enqueue_kept ?_
      assumption
    · refine State.inc_kept ?_
      assumption

theorem State.flushWaiting_kept {m0 : May} {s0 s : State} (h : Kept m0 s0 s) : Kept m0 s0 (State.flushWaiting s) := by
  unfold State.flushWaiting
  lift_lets
  intro x0
  clear_value x0
  intro x1
  clear_value x1
  refine State.each_kept ?_ ?_
  · refine kept_mk ?_
    assumption
  · intro v2_0 v2_1 v2_2
    refine State.enqueue_kept ?_
    assumption

theorem State.refillTurn_kept {m0 : May} {s0 s : State} (h : Kept m0 s0 s) : Kept m0 s0 (State.refillTurn s) := by
  unfold State.refillTurn
  lift_lets
  intro x0
  clear_value x0
  intro x1
  clear_value x1
  refine kept_ite ?_ ?_
  · assumption
  · refine kept_mk ?_
    assumption

theorem State.recordOwn_kept {m0 : May} {s0 s : State} {a2 : Ev} {a3 : List Int} (h : Kept m0 s0 s) : Kept m0 s0 (State.recordOwn s a2 a3) := by
  unfold State.recordOwn
  refine State.admitOwn_kept ?_
  refine State.flushWaiting_kept ?_
  assumption

theorem State.summarise_kept {m0 : May} {s0 s : State} {a2 : Fin 256} (h : Kept m0 s0 s) : Kept m0 s0 (State.summarise s a2) := by
  unfold State.summarise
  lift_lets
  intro x0
  clear_value x0
  intro x1
  have hx1 : Kept m0 s0 (x1) := by
    unfold x1
    refine State.inc_kept ?_
    refine State.recordOwn_kept ?_
    assumption
  clear_value x1
  intro x2
  clear_value x2
  refine kept_ite ?_ ?_
  · assumption
  · refine kept_mk ?_
    assumption

theorem State.summariseShared_kept {m0 : May} {s0 s : State} (h : Kept m0 s0 s) : Kept m0 s0 (State.summariseShared s) := by
  unfold State.summariseShared
  lift_lets
  intro x0
  clear_value x0
  intro x1
  have hx1 : Kept m0 s0 (x1) := by
    unfold x1
    refine State.inc_kept ?_
    refine State.recordOwn_kept ?_
    assumption
  clear_value x1
  intro x2
  clear_value x2
  intro x3
  clear_value x3
  refine kept_ite ?_ ?_
  · assumption
  · refine kept_mk ?_
    assumption

theorem State.windowTurn_kept {m0 : May} {s0 s : State} (h : Kept m0 s0 s) : Kept m0 s0 (State.windowTurn s) := by
  unfold State.windowTurn
  refine kept_ite ?_ ?_
  · assumption
  · refine State.summariseShared_kept ?_
    refine State.each_kept ?_ ?_
    · refine kept_mk ?_
      assumption
    · intro v0_0 v0_1 v0_2
      refine State.summarise_kept ?_
      assumption

theorem State.recordIn_kept {m0 : May} {s0 s : State} {a2 : Rec} (h : Kept m0 s0 s) : Kept m0 s0 (State.recordIn s a2) := by
  unfold State.recordIn
  lift_lets
  intro x0
  have hx0 : Kept m0 s0 (x0) := by
    unfold x0
    refine State.flushWaiting_kept ?_
    refine State.windowTurn_kept ?_
    refine State.refillTurn_kept ?_
    assumption
  clear_value x0
  refine kept_ite ?_ ?_
  · refine State.admitOwn_kept ?_
    assumption
  · refine kept_ite ?_ ?_
    · refine State.admitAlarm_kept ?_
      assumption
    · refine kept_ite ?_ ?_
      · refine kept_ite ?_ ?_
        · refine State.enqueue_kept ?_
          assumption
        · refine State.dropRec_kept ?_
          assumption
      · refine kept_ite ?_ ?_
        · refine State.limit_kept ?_
          assumption
        · refine State.dropRec_kept ?_
          assumption

theorem execEventRecord_kept {m0 : May} {s0 : State} {a1 : RecordFrom} {s : State} (h : Kept m0 s0 s) : OutKept m0 s0 (execEventRecord a1 s) := by
  unfold execEventRecord
  split
  · refine outKept_ite ?_ ?_
    · refine done_kept ?_
      assumption
    · split
      · refine done_kept ?_
        assumption
      · refine outKept_ite ?_ ?_
        · refine done_kept ?_
          assumption
        · refine done_kept ?_
          refine State.recordIn_kept ?_
          refine kept_mk ?_
          assumption
  · refine outKept_ite ?_ ?_
    · refine done_kept ?_
      refine State.recordIn_kept ?_
      assumption
    · refine done_kept ?_
      assumption

theorem execWaitingRecordQueued_kept {m0 : May} {s0 s : State} (h : Kept m0 s0 s) : OutKept m0 s0 (execWaitingRecordQueued s) := by
  unfold execWaitingRecordQueued
  refine done_kept ?_
  refine State.flushWaiting_kept ?_
  assumption

theorem execLossSummaryQueued_kept {m0 : May} {s0 s : State} (h : Kept m0 s0 s) : OutKept m0 s0 (execLossSummaryQueued s) := by
  unfold execLossSummaryQueued
  lift_lets
  intro x0
  have hx0 : ∀ b0 b1 b2, Kept m0 s0 b2 → Kept m0 s0 (x0 b0 b1 b2) := by
    intro v1_0 v1_1 v1_2 v1_3
    unfold x0
    refine State.recordOwn_kept ?_
    assumption
  clear_value x0
  intro x2
  have hx2 : Kept m0 s0 (x2) := by
    unfold x2
    refine State.iff_kept ?_ ?_
    · assumption
    · intro v3_0 v3_1
      lift_lets
      intro x4
      have hx4 : Kept m0 s0 (x4) := by
        unfold x4
        refine hx0 _ _ _ ?_
        assumption
      clear_value x4
      intro x5
      clear_value x5
      refine kept_mk ?_
      assumption
  clear_value x2
  refine outKept_ite ?_ ?_
  · refine done_kept ?_
    refine State.iff_kept ?_ ?_
    · assumption
    · intro v6_0 v6_1
      lift_lets
      intro x7
      have hx7 : Kept m0 s0 (x7) := by
        unfold x7
        refine hx0 _ _ _ ?_
        assumption
      clear_value x7
      intro x8
      clear_value x8
      refine kept_mk ?_
      assumption
  · refine done_kept ?_
    assumption

theorem State.ringWrite_kept {m0 : Bool} {s0 s : State} {a2 : Rec} (h : Kept ⟨m0, true⟩ s0 s) : Kept ⟨m0, true⟩ s0 (State.ringWrite s a2) := by
  unfold State.ringWrite
  lift_lets
  intro x0
  clear_value x0
  intro x1
  clear_value x1
  refine State.nvmWrite_kept ?_
  refine State.nvmWrite_kept ?_
  assumption

theorem execEventDrain_kept {m0 : Bool} {s0 s : State} (h : Kept ⟨m0, true⟩ s0 s) : OutKept ⟨m0, true⟩ s0 (execEventDrain s) := by
  unfold execEventDrain
  split
  · refine done_kept ?_
    assumption
  · refine outKept_ite ?_ ?_
    · refine done_kept ?_
      assumption
    · refine outKept_ite ?_ ?_
      · refine done_kept ?_
        refine kept_mk ?_
        assumption
      · lift_lets
        intro x0
        have hx0 : Kept ⟨m0, true⟩ s0 (x0) := by
          unfold x0
          split
          · assumption
          · refine State.maxOf_kept ?_
            refine State.set_kept ?_
            refine State.maxOf_kept ?_
            assumption
        clear_value x0
        intro x1
        clear_value x1
        intro x2
        have hx2 : Kept ⟨m0, true⟩ s0 (x2) := by
          unfold x2
          refine kept_mk ?_
          assumption
        clear_value x2
        refine done_kept ?_
        refine State.set_kept ?_
        refine State.incWrap_kept ?_
        refine State.set_kept ?_
        refine State.ringWrite_kept ?_
        assumption

theorem execBucketRefill_kept {m0 : May} {s0 s : State} (h : Kept m0 s0 s) : OutKept m0 s0 (execBucketRefill s) := by
  unfold execBucketRefill
  refine done_kept ?_
  refine State.refillTurn_kept ?_
  assumption

theorem execSuppressionWindowEnd_kept {m0 : May} {s0 s : State} (h : Kept m0 s0 s) : OutKept m0 s0 (execSuppressionWindowEnd s) := by
  unfold execSuppressionWindowEnd
  refine done_kept ?_
  refine State.windowTurn_kept ?_
  assumption

theorem State.rlWrite_kept {m0 : May} {s0 s : State} {a2 : Requester} {a3 : Word} (h : Kept m0 s0 s) : Kept m0 s0 (State.rlWrite s a2 a3) := by
  unfold State.rlWrite
  refine State.ranked_kept ?_ ?_
  · assumption
  · intro v0_0 v0_1
    lift_lets
    intro x1
    intro x2
    have hx2 : Kept m0 s0 (x2) := by
      unfold x2
      refine State.summarise_kept ?_
      refine State.storedChange_kept ?_
      assumption
    clear_value x2
    intro x3
    clear_value x3
    intro x4
    have hx4 : Kept m0 s0 (x4) := by
      unfold x4
      refine kept_mk ?_
      assumption
    clear_value x4
    intro x5
    have hx5 : Kept m0 s0 (x5) := by
      unfold x5
      refine State.iff_kept ?_ ?_
      · assumption
      · intro v6_0 v6_1
        refine State.event_kept ?_
        assumption
    clear_value x5
    refine State.iff_kept ?_ ?_
    · assumption
    · intro v7_0 v7_1
      refine State.event_kept ?_
      assumption

theorem execRlCfgWrite_kept {m0 : May} {s0 : State} {a1 : Requester} {a2 : Word} {s : State} (h : Kept m0 s0 s) : OutKept m0 s0 (execRlCfgWrite a1 a2 s) := by
  unfold execRlCfgWrite
  refine done_kept ?_
  refine State.gate_kept ?_ ?_
  · assumption
  · intro v0_0 v0_1
    refine State.rlWrite_kept ?_
    assumption

theorem State.headRead_kept {m0 : May} {s0 s : State} {a2 : Src} (h : Kept m0 s0 s) : Kept m0 s0 (State.headRead s a2) := by
  unfold State.headRead
  refine State.reply_kept ?_
  refine State.set_kept ?_
  refine State.set_kept ?_
  assumption

theorem execEvrHeadRead_kept {m0 : May} {s0 : State} {a1 : Requester} {s : State} (h : Kept m0 s0 s) : OutKept m0 s0 (execEvrHeadRead a1 s) := by
  unfold execEvrHeadRead
  refine done_kept ?_
  refine State.gateRead_kept ?_ ?_
  · assumption
  · intro v0_0 v0_1
    refine State.headRead_kept ?_
    assumption

theorem State.clearRecorder_kept {m0 : May} {s0 s : State} {a2 : Requester} (h : Kept m0 s0 s) : Kept m0 s0 (State.clearRecorder s a2) := by
  unfold State.clearRecorder
  lift_lets
  intro x0
  clear_value x0
  intro x1
  clear_value x1
  intro x2
  clear_value x2
  intro x3
  have hx3 : Kept m0 s0 (x3) := by
    unfold x3
    refine kept_mk ?_
    assumption
  clear_value x3
  intro x4
  have hx4 : Kept m0 s0 (x4) := by
    unfold x4
    refine State.set_kept ?_
    assumption
  clear_value x4
  intro x5
  clear_value x5
  intro x6
  have hx6 : Kept m0 s0 (x6) := by
    unfold x6
    refine State.enqueue_kept ?_
    assumption
  clear_value x6
  refine kept_ite ?_ ?_
  · refine State.set_kept ?_
    refine State.inc_kept ?_
    assumption
  · refine State.recordOwn_kept ?_
    refine State.inc_kept ?_
    assumption

theorem execClear_kept {m0 : May} {s0 : State} {a1 : Requester} {s : State} (h : Kept m0 s0 s) : OutKept m0 s0 (execClear a1 s) := by
  unfold execClear
  refine done_kept ?_
  refine State.gateRole_kept ?_ ?_
  · assumption
  · intro v0_0 v0_1
    refine State.clearRecorder_kept ?_
    assumption

theorem State.inject_kept {m0 : May} {s0 s : State} (h : Kept m0 s0 s) : Kept m0 s0 (State.inject s) := by
  unfold State.inject
  lift_lets
  intro x0
  clear_value x0
  refine State.recordIn_kept ?_
  assumption

theorem execInject_kept {m0 : May} {s0 : State} {a1 : Requester} {s : State} (h : Kept m0 s0 s) : OutKept m0 s0 (execInject a1 s) := by
  unfold execInject
  refine done_kept ?_
  refine State.gateRole_kept ?_ ?_
  · assumption
  · intro v0_0 v0_1
    refine State.inject_kept ?_
    assumption

theorem execTimeSave_kept {m0 : Bool} {s0 s : State} (h : Kept ⟨m0, true⟩ s0 s) : OutKept ⟨m0, true⟩ s0 (execTimeSave s) := by
  unfold execTimeSave
  refine outKept_ite ?_ ?_
  · refine done_kept ?_
    refine State.timeSave_kept ?_
    assumption
  · refine done_kept ?_
    assumption

theorem State.boxLatch_kept {m0 : May} {s0 s : State} (h : Kept m0 s0 s) : Kept m0 s0 (State.boxLatch s) := by
  unfold State.boxLatch
  refine kept_mk ?_
  assumption

theorem State.ringStore_kept {m0 : Bool} {s0 s : State} {a2 : Nat} {a3 : Nat} {a4 : Nat} {a5 : List Byte} (h : Kept ⟨m0, true⟩ s0 s) : Kept ⟨m0, true⟩ s0 (State.ringStore s a2 a3 a4 a5) := by
  unfold State.ringStore
  refine State.setBytes_kept ?_
  refine State.setBytes_kept ?_
  assumption

theorem State.emptyEntry_kept {m0 : May} {s0 s : State} {a2 : Fin 16} (h : Kept m0 s0 s) : Kept m0 s0 (State.emptyEntry s a2) := by
  unfold State.emptyEntry
  refine kept_mk ?_
  assumption

theorem State.takeSectors_kept {m0 : May} {s0 : State} {a2 : Nat} : ∀ {s : State} {a3 : BoxRecord} {a4 : Nat} (h : Kept m0 s0 s), Kept m0 s0 (State.takeSectors s a2 a3 a4).1 := by
  induction a2 with
  | zero => intro s a3 a4 h; exact h
  | succ n ih =>
    intro s a3 a4 h
    unfold State.takeSectors
    split
    · exact h
    · split
      · exact ih (kept_mk h)
      · split
        · exact ih (State.emptyEntry_kept h)
        · exact h

theorem State.strataWear_kept {m0 : May} {s0 s : State} {a2 : List Nat} {a3 : Nat} {a4 : Nat} (h : Kept m0 s0 s) : Kept m0 s0 (State.strataWear s a2 a3 a4) := by
  unfold State.strataWear
  lift_lets
  intro x0
  have hx0 : Kept m0 s0 (x0) := by
    unfold x0
    refine State.each_kept ?_ ?_
    · assumption
    · intro v1_0 v1_1 v1_2
      lift_lets
      intro x2
      clear_value x2
      refine kept_mk ?_
      assumption
  clear_value x0
  refine State.set_kept ?_
  assumption

theorem State.strataAppend_kept {m0 : Bool} {s0 s : State} {a2 : BoxRecord} {a3 : List Byte} (h : Kept ⟨m0, true⟩ s0 s) : Kept ⟨m0, true⟩ s0 (State.strataAppend s a2 a3).1 := by
  unfold State.strataAppend
  lift_lets
  intro x0
  have hx0 : Kept ⟨m0, true⟩ s0 (x0).1 := by
    refine kept_of (fun q => q.1) (a := x0) (State.takeSectors_kept ?_) rfl
    assumption
  clear_value x0
  intro x1
  have hx1 : Kept ⟨m0, true⟩ s0 (x1) := by
    unfold x1
    assumption
  clear_value x1
  intro x2
  clear_value x2
  intro x3
  clear_value x3
  intro x4
  clear_value x4
  intro x5
  have hx5 : Kept ⟨m0, true⟩ s0 (x5) := by
    unfold x5
    refine foldl_kept ?_ ?_
    · assumption
    · intro v6_0 v6_1 v6_2
      refine State.setByte_kept ?_
      assumption
  clear_value x5
  intro x7
  have hx7 : Kept ⟨m0, true⟩ s0 (x7) := by
    unfold x7
    refine State.strataWear_kept ?_
    assumption
  clear_value x7
  dsimp only
  assumption

theorem State.strataHeader_kept {m0 : Bool} {s0 s : State} {a2 : BoxRecord} {a3 : List Byte} (h : Kept ⟨m0, true⟩ s0 s) : Kept ⟨m0, true⟩ s0 (State.strataHeader s a2 a3) := by
  unfold State.strataHeader
  refine kept_ite ?_ ?_
  · assumption
  · refine State.strataWear_kept ?_
    refine foldl_kept ?_ ?_
    · assumption
    · intro v0_0 v0_1 v0_2
      refine State.setByte_kept ?_
      assumption

theorem State.putRec_kept {m0 : May} {s0 s : State} {a2 : BoxRecord} (h : Kept m0 s0 s) : Kept m0 s0 (State.putRec s a2) := by
  unfold State.putRec
  lift_lets
  intro x0
  intro x1
  have hx1 : Kept m0 s0 (x1) := by
    unfold x1
    refine kept_mk ?_
    assumption
  intro x2
  clear_value x2
  split
  · lift_lets
    intro x3
    clear_value x3
    refine kept_ite ?_ ?_
    · refine kept_mk ?_
      unfold x1
      refine kept_mk ?_
      assumption
    · unfold x1
      refine kept_mk ?_
      assumption
  · unfold x1
    refine kept_mk ?_
    assumption

theorem State.commitStart_kept {m0 : Bool} {s0 s : State} {a2 : BoxRecord} (h : Kept ⟨m0, true⟩ s0 s) : Kept ⟨m0, true⟩ s0 (State.commitStart s a2) := by
  unfold State.commitStart
  lift_lets
  intro x0
  have hx0 : Kept ⟨m0, true⟩ s0 (x0) := by
    unfold x0
    refine State.iff_kept ?_ ?_
    · assumption
    · intro v1_0 v1_1
      split
      · refine State.emptyEntry_kept ?_
        assumption
      · assumption
  clear_value x0
  intro x2
  clear_value x2
  intro x3
  clear_value x3
  intro x4
  have hx4 : Kept ⟨m0, true⟩ s0 (x4) := by
    unfold x4
    refine State.putRec_kept ?_
    assumption
  clear_value x4
  intro x5
  clear_value x5
  intro x6
  have hx6 : Kept ⟨m0, true⟩ s0 (x6) := by
    unfold x6
    refine kept_mk ?_
    assumption
  clear_value x6
  intro x7
  have hx7 : Kept ⟨m0, true⟩ s0 (x7).1 := by
    refine kept_of (fun q => q.1) (a := x7) (State.strataAppend_kept ?_) rfl
    assumption
  clear_value x7
  intro x8
  have hx8 : Kept ⟨m0, true⟩ s0 (x8).1 := by
    refine kept_of (fun q => q.1) (a := x8) (State.strataAppend_kept ?_) rfl
    assumption
  clear_value x8
  intro x9
  have hx9 : Kept ⟨m0, true⟩ s0 (x9) := by
    unfold x9
    refine State.putRec_kept ?_
    assumption
  clear_value x9
  intro x10
  clear_value x10
  intro x11
  clear_value x11
  split
  · assumption
  · refine kept_mk ?_
    assumption

theorem State.openRecord_kept {m0 : Bool} {s0 s : State} {a2 : Nat} {a3 : Nat} {a4 : Nat} (h : Kept ⟨m0, true⟩ s0 s) : Kept ⟨m0, true⟩ s0 (State.openRecord s a2 a3 a4) := by
  unfold State.openRecord
  lift_lets
  intro x0
  clear_value x0
  intro x1
  clear_value x1
  intro x2
  clear_value x2
  intro x3
  clear_value x3
  intro x4
  clear_value x4
  intro x5
  have hx5 : Kept ⟨m0, true⟩ s0 (x5) := by
    unfold x5
    refine kept_mk ?_
    assumption
  clear_value x5
  refine State.iff_kept ?_ ?_
  · assumption
  · intro v6_0 v6_1
    refine State.commitStart_kept ?_
    assumption

theorem State.joinRecord_kept {m0 : May} {s0 s : State} {a2 : BoxRecord} {a3 : Nat} {a4 : Nat} {a5 : Nat} (h : Kept m0 s0 s) : Kept m0 s0 (State.joinRecord s a2 a3 a4 a5) := by
  unfold State.joinRecord
  refine kept_ite ?_ ?_
  · refine State.putRec_kept ?_
    assumption
  · refine State.event_kept ?_
    refine State.set_kept ?_
    refine State.inc_kept ?_
    refine State.putRec_kept ?_
    assumption

theorem State.closeWindows_kept {m0 : May} {s0 s : State} {a2 : BoxRecord → Bool} (h : Kept m0 s0 s) : Kept m0 s0 (State.closeWindows s a2) := by
  unfold State.closeWindows
  refine kept_mk ?_
  assumption

theorem State.windowsEnd_kept {m0 : May} {s0 s : State} (h : Kept m0 s0 s) : Kept m0 s0 (State.windowsEnd s) := by
  unfold State.windowsEnd
  refine State.closeWindows_kept ?_
  assumption

theorem State.triggerAt_kept {m0 : Bool} {s0 s : State} {a2 : Nat} {a3 : Nat} {a4 : Nat} (h : Kept ⟨m0, true⟩ s0 s) : Kept ⟨m0, true⟩ s0 (State.triggerAt s a2 a3 a4) := by
  unfold State.triggerAt
  lift_lets
  intro x0
  have hx0 : Kept ⟨m0, true⟩ s0 (x0) := by
    unfold x0
    refine State.windowsEnd_kept ?_
    refine State.inc_kept ?_
    assumption
  clear_value x0
  intro x1
  have hx1 : Kept ⟨m0, true⟩ s0 (x1) := by
    unfold x1
    refine State.set_kept ?_
    refine State.set_kept ?_
    refine State.set_kept ?_
    refine State.set_kept ?_
    assumption
  clear_value x1
  refine kept_ite ?_ ?_
  · assumption
  · split
    · refine State.openRecord_kept ?_
      assumption
    · refine kept_ite ?_ ?_
      · refine State.joinRecord_kept ?_
        assumption
      · refine State.openRecord_kept ?_
        assumption
    · refine State.joinRecord_kept ?_
      assumption

theorem State.trigger_kept {m0 : Bool} {s0 s : State} {a2 : Nat} (h : Kept ⟨m0, true⟩ s0 s) : Kept ⟨m0, true⟩ s0 (State.trigger s a2) := by
  unfold State.trigger
  lift_lets
  intro x0
  have hx0 : Kept ⟨m0, true⟩ s0 (x0).2 := by
    refine kept_of (fun q => q.2) (a := x0) (State.fineDraw_kept ?_) rfl
    assumption
  clear_value x0
  refine State.triggerAt_kept ?_
  assumption

theorem State.writeTop_kept {m0 : Bool} {s0 s : State} {a2 : Nat} {a3 : List Byte} {a4 : Bool} {a5 : Bool} (h : Kept ⟨m0, true⟩ s0 s) : Kept ⟨m0, true⟩ s0 (State.writeTop s a2 a3 a4 a5) := by
  unfold State.writeTop
  lift_lets
  intro x0
  clear_value x0
  intro x1
  clear_value x1
  intro x2
  have hx2 : Kept ⟨m0, true⟩ s0 (x2) := by
    unfold x2
    refine State.iff_kept ?_ ?_
    · assumption
    · intro v3_0 v3_1
      refine State.event_kept ?_
      assumption
  clear_value x2
  intro x4
  have hx4 : Kept ⟨m0, true⟩ s0 (x4) := by
    unfold x4
    refine State.set_kept ?_
    refine State.inc_kept ?_
    assumption
  clear_value x4
  intro x5
  clear_value x5
  intro x6
  have hx6 : Kept ⟨m0, true⟩ s0 (x6) := by
    unfold x6
    refine kept_mk ?_
    assumption
  clear_value x6
  intro x7
  clear_value x7
  intro x8
  have hx8 : Kept ⟨m0, true⟩ s0 (x8) := by
    unfold x8
    refine State.ringStore_kept ?_
    assumption
  clear_value x8
  intro x9
  clear_value x9
  intro x10
  clear_value x10
  intro x11
  clear_value x11
  refine kept_ite ?_ ?_
  · refine kept_mk ?_
    assumption
  · refine kept_mk ?_
    assumption

theorem State.writeSub_kept {m0 : Bool} {s0 s : State} {a2 : Nat} {a3 : List Byte} {a4 : Bool} {a5 : Bool} (h : Kept ⟨m0, true⟩ s0 s) : Kept ⟨m0, true⟩ s0 (State.writeSub s a2 a3 a4 a5) := by
  unfold State.writeSub
  lift_lets
  intro x0
  clear_value x0
  intro x1
  clear_value x1
  intro x2
  have hx2 : Kept ⟨m0, true⟩ s0 (x2) := by
    unfold x2
    refine State.iff_kept ?_ ?_
    · assumption
    · intro v3_0 v3_1
      refine State.event_kept ?_
      assumption
  clear_value x2
  intro x4
  have hx4 : Kept ⟨m0, true⟩ s0 (x4) := by
    unfold x4
    refine State.inc_kept ?_
    assumption
  clear_value x4
  intro x5
  clear_value x5
  intro x6
  have hx6 : Kept ⟨m0, true⟩ s0 (x6) := by
    unfold x6
    refine State.ringStore_kept ?_
    assumption
  clear_value x6
  intro x7
  clear_value x7
  intro x8
  clear_value x8
  intro x9
  clear_value x9
  refine kept_ite ?_ ?_
  · refine kept_mk ?_
    assumption
  · refine kept_mk ?_
    assumption

theorem State.copyTop_kept {m0 : Bool} {s0 s : State} (h : Kept ⟨m0, true⟩ s0 s) : Kept ⟨m0, true⟩ s0 (State.copyTop s) := by
  unfold State.copyTop
  split
  · assumption
  · split
    · assumption
    · lift_lets
      intro x0
      have hx0 : Kept ⟨m0, true⟩ s0 (x0).1 := by
        refine kept_of (fun q => q.1) (a := x0) (State.strataAppend_kept ?_) rfl
        assumption
      clear_value x0
      intro x1
      clear_value x1
      refine State.putRec_kept ?_
      assumption

theorem State.copyTops_kept {m0 : Bool} {s0 : State} {a2 : Nat} : ∀ {s : State} (h : Kept ⟨m0, true⟩ s0 s), Kept ⟨m0, true⟩ s0 (State.copyTops s a2) := by
  induction a2 with
  | zero => intro s h; exact h
  | succ n ih => intro s h; exact ih (State.copyTop_kept h)

theorem State.topsoilOut_kept {m0 : Bool} {s0 s : State} (h : Kept ⟨m0, true⟩ s0 s) : Kept ⟨m0, true⟩ s0 (State.topsoilOut s) := by
  unfold State.topsoilOut
  lift_lets
  intro x0
  clear_value x0
  intro x1
  clear_value x1
  intro x2
  clear_value x2
  intro x3
  clear_value x3
  intro x4
  have hx4 : Kept ⟨m0, true⟩ s0 (x4) := by
    unfold x4
    refine kept_mk ?_
    assumption
  clear_value x4
  intro x5
  clear_value x5
  intro x6
  clear_value x6
  intro x7
  clear_value x7
  intro x8
  have hx8 : Kept ⟨m0, true⟩ s0 (x8) := by
    unfold x8
    refine State.writeTop_kept ?_
    assumption
  clear_value x8
  intro x9
  clear_value x9
  intro x10
  have hx10 : Kept ⟨m0, true⟩ s0 (x10) := by
    unfold x10
    refine kept_mk ?_
    assumption
  clear_value x10
  intro x11
  clear_value x11
  intro x12
  have hx12 : Kept ⟨m0, true⟩ s0 (x12) := by
    unfold x12
    refine State.set_kept ?_
    refine State.set_kept ?_
    assumption
  clear_value x12
  intro x13
  clear_value x13
  intro x14
  clear_value x14
  refine kept_mk ?_
  assumption

theorem State.subsoilOut_kept {m0 : Bool} {s0 s : State} (h : Kept ⟨m0, true⟩ s0 s) : Kept ⟨m0, true⟩ s0 (State.subsoilOut s) := by
  unfold State.subsoilOut
  lift_lets
  intro x0
  clear_value x0
  intro x1
  clear_value x1
  intro x2
  have hx2 : Kept ⟨m0, true⟩ s0 (x2) := by
    unfold x2
    refine State.writeSub_kept ?_
    assumption
  clear_value x2
  intro x3
  clear_value x3
  refine kept_mk ?_
  assumption

theorem execBlackBoxBlock_kept {m0 : Bool} {s0 : State} {a1 : Unit} {a2 : Unit} {a3 : Nat} {s : State} (h : Kept ⟨m0, true⟩ s0 s) : OutKept ⟨m0, true⟩ s0 (execBlackBoxBlock a1 a2 a3 s) := by
  unfold execBlackBoxBlock
  lift_lets
  intro x0
  have hx0 : Kept ⟨m0, true⟩ s0 (x0) := by
    unfold x0
    refine State.copyTops_kept ?_
    assumption
  clear_value x0
  refine outKept_ite ?_ ?_
  · refine done_kept ?_
    assumption
  · refine outKept_ite ?_ ?_
    · refine done_kept ?_
      refine State.iff_kept ?_ ?_
      · assumption
      · intro v1_0 v1_1
        lift_lets
        intro x2
        clear_value x2
        refine kept_mk ?_
        assumption
    · refine done_kept ?_
      refine State.iff_kept ?_ ?_
      · refine State.topsoilOut_kept ?_
        assumption
      · intro v3_0 v3_1
        refine State.subsoilOut_kept ?_
        assumption

theorem execBlackBoxTrigger_kept {m0 : Bool} {s0 : State} {a1 : Fin 32} {a2 : Fin 64} {s : State} (h : Kept ⟨m0, true⟩ s0 s) : OutKept ⟨m0, true⟩ s0 (execBlackBoxTrigger a1 a2 s) := by
  unfold execBlackBoxTrigger
  refine done_kept ?_
  refine State.triggerAt_kept ?_
  assumption

theorem execBbxTriggerCmd_kept {m0 : Bool} {s0 : State} {a1 : Requester} {s : State} (h : Kept ⟨m0, true⟩ s0 s) : OutKept ⟨m0, true⟩ s0 (execBbxTriggerCmd a1 s) := by
  unfold execBbxTriggerCmd
  refine done_kept ?_
  refine State.gate_kept ?_ ?_
  · assumption
  · intro v0_0 v0_1
    refine State.trigger_kept ?_
    assumption

theorem State.pin_kept {m0 : May} {s0 s : State} {a2 : Fin 16} (h : Kept m0 s0 s) : Kept m0 s0 (State.pin s a2) := by
  unfold State.pin
  lift_lets
  intro x0
  clear_value x0
  intro x1
  clear_value x1
  intro x2
  clear_value x2
  refine kept_ite ?_ ?_
  · assumption
  · refine kept_ite ?_ ?_
    · refine kept_mk ?_
      assumption
    · refine State.event_kept ?_
      assumption

theorem State.unpin_kept {m0 : May} {s0 s : State} {a2 : Fin 16} (h : Kept m0 s0 s) : Kept m0 s0 (State.unpin s a2) := by
  unfold State.unpin
  refine kept_mk ?_
  assumption

theorem State.deleteRecord_kept {m0 : May} {s0 s : State} {a2 : Fin 16} (h : Kept m0 s0 s) : Kept m0 s0 (State.deleteRecord s a2) := by
  unfold State.deleteRecord
  refine kept_ite ?_ ?_
  · refine State.event_kept ?_
    assumption
  · refine State.emptyEntry_kept ?_
    assumption

theorem execPin_kept {m0 : May} {s0 : State} {a1 : Requester} {a2 : Fin 16} {s : State} (h : Kept m0 s0 s) : OutKept m0 s0 (execPin a1 a2 s) := by
  unfold execPin
  refine done_kept ?_
  refine State.gate_kept ?_ ?_
  · assumption
  · intro v0_0 v0_1
    refine State.pin_kept ?_
    assumption

theorem execUnpin_kept {m0 : May} {s0 : State} {a1 : Requester} {a2 : Fin 16} {s : State} (h : Kept m0 s0 s) : OutKept m0 s0 (execUnpin a1 a2 s) := by
  unfold execUnpin
  refine done_kept ?_
  refine State.gate_kept ?_ ?_
  · assumption
  · intro v0_0 v0_1
    refine State.unpin_kept ?_
    assumption

theorem execDelete_kept {m0 : May} {s0 : State} {a1 : Requester} {a2 : Fin 16} {s : State} (h : Kept m0 s0 s) : OutKept m0 s0 (execDelete a1 a2 s) := by
  unfold execDelete
  refine done_kept ?_
  refine State.gateRole_kept ?_ ?_
  · assumption
  · intro v0_0 v0_1
    refine State.deleteRecord_kept ?_
    assumption

theorem execPostWindowClose_kept {m0 : May} {s0 s : State} (h : Kept m0 s0 s) : OutKept m0 s0 (execPostWindowClose s) := by
  unfold execPostWindowClose
  refine done_kept ?_
  refine State.windowsEnd_kept ?_
  assumption

theorem State.commitComplete_kept {m0 : Bool} {s0 s : State} {a2 : BoxRecord} (h : Kept ⟨m0, true⟩ s0 s) : Kept ⟨m0, true⟩ s0 (State.commitComplete s a2) := by
  unfold State.commitComplete
  lift_lets
  intro x0
  clear_value x0
  intro x1
  have hx1 : Kept ⟨m0, true⟩ s0 (x1).1 := by
    refine kept_of (fun q => q.1) (a := x1) (foldl_fst_kept ?_ ?_) rfl
    · dsimp only
      assumption
    · intro v2_0 v2_1 v2_2
      refine State.strataAppend_kept ?_
      assumption
  clear_value x1
  intro x3
  clear_value x3
  intro x4
  clear_value x4
  intro x5
  have hx5 : Kept ⟨m0, true⟩ s0 (x5) := by
    unfold x5
    refine State.strataHeader_kept ?_
    assumption
  clear_value x5
  intro x6
  clear_value x6
  intro x7
  have hx7 : Kept ⟨m0, true⟩ s0 (x7) := by
    unfold x7
    refine State.maxOf_kept ?_
    refine State.set_kept ?_
    refine State.inc_kept ?_
    assumption
  clear_value x7
  intro x8
  have hx8 : Kept ⟨m0, true⟩ s0 (x8) := by
    unfold x8
    refine State.iff_kept ?_ ?_
    · assumption
    · intro v9_0 v9_1
      refine State.event_kept ?_
      refine State.inc_kept ?_
      assumption
  clear_value x8
  intro x10
  clear_value x10
  intro x11
  clear_value x11
  intro x12
  have hx12 : Kept ⟨m0, true⟩ s0 (x12) := by
    unfold x12
    split
    · refine kept_mk ?_
      assumption
    · assumption
  clear_value x12
  intro x13
  clear_value x13
  intro x14
  clear_value x14
  intro x15
  clear_value x15
  intro x16
  have hx16 : Kept ⟨m0, true⟩ s0 (x16) := by
    unfold x16
    refine kept_mk ?_
    assumption
  clear_value x16
  split
  · assumption
  · refine State.commitStart_kept ?_
    assumption

theorem execStrataCommitComplete_kept {m0 : Bool} {s0 s : State} (h : Kept ⟨m0, true⟩ s0 s) : OutKept ⟨m0, true⟩ s0 (execStrataCommitComplete s) := by
  unfold execStrataCommitComplete
  split
  · refine done_kept ?_
    assumption
  · refine outKept_ite ?_ ?_
    · refine done_kept ?_
      assumption
    · lift_lets
      intro x0
      have hx0 : Kept ⟨m0, true⟩ s0 (x0) := by
        unfold x0
        refine State.copyTops_kept ?_
        assumption
      clear_value x0
      split
      · refine done_kept ?_
        assumption
      · refine done_kept ?_
        refine State.commitComplete_kept ?_
        assumption

theorem State.detect_kept {m0 : May} {s0 s : State} {a2 : Nat} {a3 : Nat} {a4 : Nat} (h : Kept m0 s0 s) : Kept m0 s0 (State.detect s a2 a3 a4) := by
  unfold State.detect
  refine State.event_kept ?_
  refine State.stamp_kept ?_
  refine State.set_kept ?_
  refine State.inc_kept ?_
  assumption

theorem State.sramDouble_kept {m0 : May} {s0 s : State} {a2 : Nat} {a3 : Nat} (h : Kept m0 s0 s) : Kept m0 s0 (State.sramDouble s a2 a3) := by
  unfold State.sramDouble
  lift_lets
  intro x0
  have hx0 : Kept m0 s0 (x0) := by
    unfold x0
    refine State.set_kept ?_
    refine State.inc_kept ?_
    assumption
  clear_value x0
  refine State.detect_kept ?_
  refine State.setB_kept ?_
  refine State.set_kept ?_
  assumption

theorem State.shelfEvent_kept {m0 : May} {s0 s : State} {a2 : Nat} {a3 : Nat} (h : Kept m0 s0 s) : Kept m0 s0 (State.shelfEvent s a2 a3) := by
  unfold State.shelfEvent
  refine kept_ite ?_ ?_
  · refine kept_mk ?_
    assumption
  · refine kept_ite ?_ ?_
    · assumption
    · refine State.event_kept ?_
      assumption

theorem State.settleShelf_kept {m0 : May} {s0 s : State} (h : Kept m0 s0 s) : Kept m0 s0 (State.settleShelf s) := by
  unfold State.settleShelf
  lift_lets
  intro x0
  clear_value x0
  intro x1
  clear_value x1
  intro x2
  clear_value x2
  intro x3
  have hx3 : Kept m0 s0 (x3) := by
    unfold x3
    refine State.setReg_kept ?_
    assumption
  clear_value x3
  refine kept_ite ?_ ?_
  · assumption
  · refine State.shelfEvent_kept ?_
    refine kept_mk ?_
    assumption

theorem State.settleSaf_kept {m0 : May} {s0 s : State} (h : Kept m0 s0 s) : Kept m0 s0 (State.settleSaf s) := by
  unfold State.settleSaf
  lift_lets
  intro x0
  clear_value x0
  intro x1
  clear_value x1
  intro x2
  clear_value x2
  intro x3
  clear_value x3
  intro x4
  have hx4 : Kept m0 s0 (x4) := by
    unfold x4
    refine State.set_kept ?_
    refine State.set_kept ?_
    refine State.set_kept ?_
    assumption
  clear_value x4
  intro x5
  have hx5 : Kept m0 s0 (x5) := by
    unfold x5
    refine State.event_kept ?_
    refine State.setB_kept ?_
    assumption
  clear_value x5
  refine kept_ite ?_ ?_
  · assumption
  · refine State.iff_kept ?_ ?_
    · assumption
    · intro v6_0 v6_1
      refine State.stamp_kept ?_
      assumption

theorem State.settle_kept {m0 : May} {s0 s : State} (h : Kept m0 s0 s) : Kept m0 s0 (State.settle s) := by
  unfold State.settle
  refine State.settleSaf_kept ?_
  refine State.settleShelf_kept ?_
  assumption

end Sys2Proof.Machine
end

