-- ==== Sys2Proof/Laws/KeptLoop.lean ====
section
/-! SUPPORT. What every operation keeps: the acquisition, the loops, the tuner, the converter. -/

namespace Sys2Proof.Machine

set_option linter.unusedVariables false
set_option Elab.async false

theorem State.halfShow_kept {m0 : May} {s0 s : State} {a2 : Fin 2} {a3 : Twice BusSamples} (h : Kept m0 s0 s) : Kept m0 s0 (State.halfShow s a2 a3) := by
  unfold State.halfShow
  refine kept_ite ?_ ?_
  · assumption
  · lift_lets
    intro x0
    have hx0 : ∀ b0 b1 b2, Kept m0 s0 b0 → Kept m0 s0 (x0 b0 b1 b2) := by
      intro v1_0 v1_1 v1_2 v1_3
      unfold x0
      split
      · refine State.setI_kept ?_
        assumption
      · assumption
    clear_value x0
    intro x2
    have hx2 : Kept m0 s0 (x2) := by
      unfold x2
      refine hx0 _ _ _ ?_
      assumption
    clear_value x2
    intro x3
    clear_value x3
    intro x4
    have hx4 : Kept m0 s0 (x4) := by
      unfold x4
      refine hx0 _ _ _ ?_
      assumption
    clear_value x4
    refine hx0 _ _ _ ?_
    assumption

theorem State.fastOverrange_kept {m0 : May} {s0 s : State} {a2 : Bool} (h : Kept m0 s0 s) : Kept m0 s0 (State.fastOverrange s a2) := by
  unfold State.fastOverrange
  refine State.iff_kept ?_ ?_
  · assumption
  · intro v0_0 v0_1
    refine kept_mk ?_
    assumption

theorem State.fastShow_kept {m0 : May} {s0 s : State} (h : Kept m0 s0 s) : Kept m0 s0 (State.fastShow s) := by
  unfold State.fastShow
  split
  · assumption
  · refine State.fastOverrange_kept ?_
    refine State.halfShow_kept ?_
    refine State.halfShow_kept ?_
    assumption

theorem State.busSamples_kept {m0 : May} {s0 s : State} {a2 : Twice BusSamples} (h : Kept m0 s0 s) : Kept m0 s0 (State.busSamples s a2) := by
  unfold State.busSamples
  refine State.fastShow_kept ?_
  refine kept_mk ?_
  assumption

theorem State.winAdd_kept {m0 : May} {s0 s : State} (h : Kept m0 s0 s) : Kept m0 s0 (State.winAdd s) := by
  unfold State.winAdd
  split
  · assumption
  · lift_lets
    intro x0
    clear_value x0
    intro x1
    clear_value x1
    intro x2
    clear_value x2
    intro x3
    clear_value x3
    intro x4
    clear_value x4
    refine kept_mk ?_
    assumption

theorem State.winEnd_kept {m0 : May} {s0 s : State} (h : Kept m0 s0 s) : Kept m0 s0 (State.winEnd s) := by
  unfold State.winEnd
  refine State.iff_kept ?_ ?_
  · assumption
  · intro v0_0 v0_1
    refine kept_mk ?_
    assumption

theorem State.meanShow_kept {m0 : May} {s0 s : State} {a2 : Field} {a3 : Int × Nat} (h : Kept m0 s0 s) : Kept m0 s0 (State.meanShow s a2 a3) := by
  unfold State.meanShow
  refine kept_ite ?_ ?_
  · assumption
  · refine State.setI_kept ?_
    assumption

theorem State.means_kept {m0 : May} {s0 s : State} (h : Kept m0 s0 s) : Kept m0 s0 (State.means s) := by
  unfold State.means
  lift_lets
  intro x0
  clear_value x0
  intro x1
  have hx1 : Kept m0 s0 (x1) := by
    unfold x1
    refine State.meanShow_kept ?_
    refine State.meanShow_kept ?_
    assumption
  clear_value x1
  refine kept_ite ?_ ?_
  · refine State.meanShow_kept ?_
    refine State.meanShow_kept ?_
    assumption
  · assumption

theorem State.halfBOff_kept {m0 : May} {s0 s : State} (h : Kept m0 s0 s) : Kept m0 s0 (State.halfBOff s) := by
  unfold State.halfBOff
  lift_lets
  intro x0
  have hx0 : Kept m0 s0 (x0) := by
    unfold x0
    refine State.setInvalid_kept ?_
    refine State.setInvalid_kept ?_
    refine State.setInvalid_kept ?_
    assumption
  clear_value x0
  intro x1
  have hx1 : Kept m0 s0 (x1) := by
    unfold x1
    refine State.setInvalid_kept ?_
    refine State.setInvalid_kept ?_
    assumption
  clear_value x1
  intro x2
  clear_value x2
  intro x3
  clear_value x3
  refine kept_mk ?_
  assumption

theorem State.phaseShow_kept {m0 : May} {s0 s : State} {a2 : List (Fin 16)} (h : Kept m0 s0 s) : Kept m0 s0 (State.phaseShow s a2) := by
  unfold State.phaseShow
  split
  · assumption
  · refine State.each_kept ?_ ?_
    · assumption
    · intro v0_0 v0_1 v0_2
      refine kept_ite ?_ ?_
      · refine State.setI_kept ?_
        assumption
      · refine State.setInvalid_kept ?_
        assumption

theorem State.phaseUnsampled_kept {m0 : May} {s0 s : State} (h : Kept m0 s0 s) : Kept m0 s0 (State.phaseUnsampled s) := by
  unfold State.phaseUnsampled
  refine State.each_kept ?_ ?_
  · assumption
  · intro v0_0 v0_1 v0_2
    refine State.setInvalid_kept ?_
    assumption

theorem State.cmpJudge_kept {m0 : May} {s0 s : State} (h : Kept m0 s0 s) : Kept m0 s0 (State.cmpJudge s) := by
  unfold State.cmpJudge
  split
  · assumption
  · lift_lets
    intro x0
    clear_value x0
    intro x1
    clear_value x1
    refine kept_mk ?_
    assumption

theorem State.phaseSamples_kept {m0 : May} {s0 s : State} {a2 : Vector (Twice Int) 16} (h : Kept m0 s0 s) : Kept m0 s0 (State.phaseSamples s a2) := by
  unfold State.phaseSamples
  refine State.cmpJudge_kept ?_
  refine State.phaseShow_kept ?_
  refine kept_mk ?_
  assumption

theorem State.integrate_kept {m0 : May} {s0 s : State} {a2 : Fin 8} {a3 : Int} (h : Kept m0 s0 s) : Kept m0 s0 (State.integrate s a2 a3) := by
  unfold State.integrate
  lift_lets
  intro x0
  clear_value x0
  intro x1
  clear_value x1
  intro x2
  have hx2 : Kept m0 s0 (x2) := by
    unfold x2
    refine kept_mk ?_
    assumption
  clear_value x2
  intro x3
  clear_value x3
  refine State.set_kept ?_
  refine State.set_kept ?_
  assumption

theorem State.shuntRead_kept {m0 : May} {s0 s : State} {a2 : Fin 8} {a3 : Int} {a4 : Int} {a5 : Bool} (h : Kept m0 s0 s) : Kept m0 s0 (State.shuntRead s a2 a3 a4 a5) := by
  unfold State.shuntRead
  lift_lets
  intro x0
  have hx0 : Kept m0 s0 (x0) := by
    unfold x0
    refine State.iff_kept ?_ ?_
    · refine State.integrate_kept ?_
      assumption
    · intro v1_0 v1_1
      refine State.setI_kept ?_
      assumption
  clear_value x0
  refine State.iff_kept ?_ ?_
  · assumption
  · intro v2_0 v2_1
    lift_lets
    intro x3
    clear_value x3
    refine kept_mk ?_
    assumption

theorem execAfeMeansUpdate_kept {m0 : May} {s0 : State} {a1 : BusSamples} {a2 : BusSamples} {a3 : Vector (Twice Int) 16} {a4 : Vector Int 8} {a5 : Vector Int 8} {a6 : Bool} {a7 : BitVec 8} {s : State} (h : Kept m0 s0 s) : OutKept m0 s0 (execAfeMeansUpdate a1 a2 a3 a4 a5 a6 a7 s) := by
  unfold execAfeMeansUpdate
  refine outKept_ite ?_ ?_
  · refine done_kept ?_
    assumption
  · lift_lets
    intro x0
    have hx0 : Kept m0 s0 (x0) := by
      unfold x0
      refine State.fastOverrange_kept ?_
      refine State.phaseSamples_kept ?_
      refine State.busSamples_kept ?_
      assumption
    clear_value x0
    intro x1
    have hx1 : Kept m0 s0 (x1) := by
      unfold x1
      refine State.iff_kept ?_ ?_
      · assumption
      · intro v2_0 v2_1
        refine State.means_kept ?_
        assumption
    clear_value x1
    refine done_kept ?_
    refine State.each_kept ?_ ?_
    · assumption
    · intro v3_0 v3_1 v3_2
      refine State.shuntRead_kept ?_
      assumption

theorem State.showExcl_kept {m0 : May} {s0 s : State} (h : Kept m0 s0 s) : Kept m0 s0 (State.showExcl s) := by
  unfold State.showExcl
  lift_lets
  intro x0
  clear_value x0
  intro x1
  have hx1 : Kept m0 s0 (x1) := by
    unfold x1
    refine State.set_kept ?_
    refine State.set_kept ?_
    assumption
  clear_value x1
  refine State.setB_kept ?_
  refine State.setB_kept ?_
  assumption

theorem State.xchkTick_kept {m0 : May} {s0 s : State} {a2 : Fin 2} (h : Kept m0 s0 s) : Kept m0 s0 (State.xchkTick s a2) := by
  unfold State.xchkTick
  refine kept_ite ?_ ?_
  · lift_lets
    intro x0
    clear_value x0
    intro x1
    have hx1 : Kept m0 s0 (x1) := by
      unfold x1
      refine State.maxOf_kept ?_
      assumption
    clear_value x1
    intro x2
    clear_value x2
    refine kept_mk ?_
    assumption
  · refine kept_mk ?_
    assumption

theorem State.xchkDeclare_kept {m0 : Bool} {s0 s : State} {a2 : Fin 2} {a3 : Nat} (h : Kept ⟨m0, true⟩ s0 s) : Kept ⟨m0, true⟩ s0 (State.xchkDeclare s a2 a3) := by
  unfold State.xchkDeclare
  lift_lets
  intro x0
  have hx0 : Kept ⟨m0, true⟩ s0 (x0) := by
    unfold x0
    refine State.trigger_kept ?_
    refine State.maxOf_kept ?_
    refine State.inc_kept ?_
    assumption
  clear_value x0
  intro x1
  clear_value x1
  intro x2
  clear_value x2
  refine State.showExcl_kept ?_
  refine kept_mk ?_
  assumption

theorem execCrosscheckFaultDeclared_kept {m0 : Bool} {s0 : State} {a1 : Fin 2} {s : State} (h : Kept ⟨m0, true⟩ s0 s) : OutKept ⟨m0, true⟩ s0 (execCrosscheckFaultDeclared a1 s) := by
  unfold execCrosscheckFaultDeclared
  refine outKept_ite ?_ ?_
  · refine done_kept ?_
    refine State.xchkDeclare_kept ?_
    assumption
  · refine done_kept ?_
    assumption

theorem State.xchkJudge_kept {m0 : May} {s0 s : State} {a2 : Fin 2} {a3 : List (BitVec 14)} {a4 : Twice Int} {a5 : Twice Int} (h : Kept m0 s0 s) : Kept m0 s0 (State.xchkJudge s a2 a3 a4 a5) := by
  unfold State.xchkJudge
  lift_lets
  intro x0
  clear_value x0
  intro x1
  clear_value x1
  intro x2
  clear_value x2
  intro x3
  clear_value x3
  intro x4
  clear_value x4
  intro x5
  clear_value x5
  intro x6
  intro x7
  clear_value x7
  intro x8
  clear_value x8
  intro x9
  clear_value x9
  intro x10
  clear_value x10
  intro x11
  have hx11 : Kept m0 s0 (x11) := by
    unfold x11
    refine kept_mk ?_
    assumption
  clear_value x11
  intro x12
  have hx12 : Kept m0 s0 (x12) := by
    unfold x12
    refine State.iff_kept ?_ ?_
    · assumption
    · intro v13_0 v13_1
      lift_lets
      intro x14
      have hx14 : Kept m0 s0 (x14) := by
        unfold x14
        refine State.event_kept ?_
        assumption
      clear_value x14
      intro x15
      clear_value x15
      refine kept_mk ?_
      assumption
  clear_value x12
  intro x16
  have hx16 : Kept m0 s0 (x16) := by
    unfold x16
    refine State.iff_kept ?_ ?_
    · assumption
    · intro v17_0 v17_1
      lift_lets
      intro x18
      have hx18 : Kept m0 s0 (x18) := by
        unfold x18
        refine State.event_kept ?_
        assumption
      clear_value x18
      intro x19
      clear_value x19
      refine kept_mk ?_
      assumption
  clear_value x16
  intro x20
  have hx20 : Kept m0 s0 (x20) := by
    unfold x20
    refine State.fastShow_kept ?_
    refine State.showExcl_kept ?_
    assumption
  clear_value x20
  refine kept_ite ?_ ?_
  · refine State.detect_kept ?_
    assumption
  · refine State.event_kept ?_
    assumption

theorem State.supplyMeas_kept {m0 : May} {s0 s : State} {a2 : Nat} {a3 : Nat} {a4 : Nat} (h : Kept m0 s0 s) : Kept m0 s0 (State.supplyMeas s a2 a3 a4) := by
  unfold State.supplyMeas
  refine kept_ite ?_ ?_
  · refine State.setI_kept ?_
    assumption
  · refine kept_ite ?_ ?_
    · refine State.setI_kept ?_
      assumption
    · refine kept_ite ?_ ?_
      · refine State.setI_kept ?_
        assumption
      · refine kept_ite ?_ ?_
        · refine State.setI_kept ?_
          assumption
        · refine kept_ite ?_ ?_
          · refine State.setI_kept ?_
            assumption
          · assumption

theorem State.monSample_kept {m0 : May} {s0 s : State} {a2 : Nat} {a3 : Bool} {a4 : Nat} {a5 : Nat} (h : Kept m0 s0 s) : Kept m0 s0 (State.monSample s a2 a3 a4 a5) := by
  unfold State.monSample
  lift_lets
  intro x0
  clear_value x0
  intro x1
  clear_value x1
  refine kept_mk ?_
  assumption

theorem State.halfConverted_kept {m0 : May} {s0 s : State} {a2 : Fin 2} {a3 : Bool} {a4 : Nat} (h : Kept m0 s0 s) : Kept m0 s0 (State.halfConverted s a2 a3 a4) := by
  unfold State.halfConverted
  lift_lets
  intro x0
  clear_value x0
  intro x1
  clear_value x1
  intro x2
  clear_value x2
  intro x3
  clear_value x3
  refine kept_ite ?_ ?_
  · refine kept_ite ?_ ?_
    · assumption
    · refine State.setI_kept ?_
      assumption
  · refine kept_ite ?_ ?_
    · refine kept_mk ?_
      assumption
    · assumption

theorem State.monRelease1_kept {m0 : May} {s0 s : State} {a2 : Nat × Bool × MonResult} (h : Kept m0 s0 s) : Kept m0 s0 (State.monRelease1 s a2) := by
  unfold State.monRelease1
  lift_lets
  intro x0
  clear_value x0
  intro x1
  have hx1 : Kept m0 s0 (x1) := by
    unfold x1
    refine kept_mk ?_
    assumption
  clear_value x1
  intro x2
  have hx2 : Kept m0 s0 (x2) := by
    unfold x2
    refine State.supplyMeas_kept ?_
    assumption
  clear_value x2
  refine kept_ite ?_ ?_
  · refine State.halfConverted_kept ?_
    assumption
  · refine kept_ite ?_ ?_
    · refine State.halfConverted_kept ?_
      assumption
    · assumption

theorem State.monRelease_kept {m0 : May} {s0 s : State} (h : Kept m0 s0 s) : Kept m0 s0 (State.monRelease s) := by
  unfold State.monRelease
  refine State.each_kept ?_ ?_
  · refine kept_mk ?_
    assumption
  · intro v0_0 v0_1 v0_2
    refine State.monRelease1_kept ?_
    assumption

theorem State.monTake_kept {m0 : May} {s0 s : State} {a2 : Nat} {a3 : Bool} {a4 : Nat} {a5 : List (BitVec 14)} (h : Kept m0 s0 s) : Kept m0 s0 (State.monTake s a2 a3 a4 a5).1 := by
  unfold State.monTake
  dsimp only
  refine State.monSample_kept ?_
  assumption

theorem State.monSlot_kept {m0 : May} {s0 s : State} {a2 : Nat} {a3 : Nat} {a4 : List (BitVec 14)} (h : Kept m0 s0 s) : Kept m0 s0 (State.monSlot s a2 a3 a4).1 := by
  unfold State.monSlot
  split
  · dsimp only
    assumption
  · split
    · refine State.monTake_kept ?_
      assumption
    · split
      · dsimp only
        assumption
      · refine State.monTake_kept ?_
        refine kept_mk ?_
        assumption

theorem State.monDue_kept {m0 : May} {s0 s : State} {a2 : Nat} {a3 : Nat} (h : Kept m0 s0 s) : Kept m0 s0 (State.monDue s a2 a3) := by
  unfold State.monDue
  lift_lets
  intro x0
  clear_value x0
  intro x1
  clear_value x1
  intro x2
  have hx2 : Kept m0 s0 (x2) := by
    unfold x2
    refine kept_mk ?_
    assumption
  clear_value x2
  intro x3
  have hx3 : Kept m0 s0 (x3) := by
    unfold x3
    refine State.inc_kept ?_
    assumption
  clear_value x3
  intro x4
  clear_value x4
  refine kept_ite ?_ ?_
  · assumption
  · refine kept_ite ?_ ?_
    · refine kept_mk ?_
      assumption
    · refine kept_mk ?_
      assumption

theorem State.monTick_kept {m0 : May} {s0 s : State} {a2 : Nat} {a3 : List (BitVec 14)} {a4 : List (BitVec 14)} (h : Kept m0 s0 s) : Kept m0 s0 (State.monTick s a2 a3 a4).1 := by
  unfold State.monTick
  lift_lets
  intro x0
  have hx0 : Kept m0 s0 (x0).1 := by
    refine kept_of (fun q => q.1) (a := x0) (State.monSlot_kept ?_) rfl
    refine State.monRelease_kept ?_
    assumption
  clear_value x0
  intro x1
  have hx1 : Kept m0 s0 (x1).1 := by
    refine kept_of (fun q => q.1) (a := x1) (State.monSlot_kept ?_) rfl
    assumption
  clear_value x1
  dsimp only
  refine State.each_kept ?_ ?_
  · assumption
  · intro v2_0 v2_1 v2_2
    refine State.monDue_kept ?_
    assumption

theorem State.monTicks_kept {m0 : May} {s0 : State} {a2 : Nat} : ∀ {s : State} {a3 : List (BitVec 14)} {a4 : List (BitVec 14)} (h : Kept m0 s0 s), Kept m0 s0 (State.monTicks s a2 a3 a4) := by
  induction a2 with
  | zero => intro s a3 a4 h; exact h
  | succ n ih => intro s a3 a4 h; exact ih (State.monTick_kept h)

theorem State.monRun_kept {m0 : May} {s0 s : State} {a2 : List (BitVec 14)} {a3 : List (BitVec 14)} (h : Kept m0 s0 s) : Kept m0 s0 (State.monRun s a2 a3) := by
  unfold State.monRun
  split
  · assumption
  · lift_lets
    intro x0
    clear_value x0
    intro x1
    have hx1 : Kept m0 s0 (x1) := by
      unfold x1
      refine State.monTicks_kept ?_
      assumption
    clear_value x1
    intro x2
    clear_value x2
    refine kept_mk ?_
    assumption

theorem execMonRequestDue_kept {m0 : May} {s0 : State} {a1 : List (BitVec 14)} {a2 : List (BitVec 14)} {s : State} (h : Kept m0 s0 s) : OutKept m0 s0 (execMonRequestDue a1 a2 s) := by
  unfold execMonRequestDue
  refine done_kept ?_
  refine State.monRun_kept ?_
  assumption

theorem State.monSelect_kept {m0 : May} {s0 s : State} {a2 : Src} {a3 : Word} (h : Kept m0 s0 s) : Kept m0 s0 (State.monSelect s a2 a3) := by
  unfold State.monSelect
  lift_lets
  intro x0
  clear_value x0
  intro x1
  clear_value x1
  intro x2
  have hx2 : Kept m0 s0 (x2) := by
    unfold x2
    refine State.set_kept ?_
    refine State.set_kept ?_
    assumption
  clear_value x2
  refine State.set_kept ?_
  refine State.set_kept ?_
  refine State.setB_kept ?_
  assumption

theorem execMonSelWrite_kept {m0 : May} {s0 : State} {a1 : Requester} {a2 : Word} {s : State} (h : Kept m0 s0 s) : OutKept m0 s0 (execMonSelWrite a1 a2 s) := by
  unfold execMonSelWrite
  refine done_kept ?_
  refine State.gate_kept ?_ ?_
  · assumption
  · intro v0_0 v0_1
    refine State.monSelect_kept ?_
    assumption

theorem State.diodeTemp_kept {m0 : May} {s0 s : State} {a2 : Nat} {a3 : Option Int} (h : Kept m0 s0 s) : Kept m0 s0 (State.diodeTemp s a2 a3) := by
  unfold State.diodeTemp
  refine kept_ite ?_ ?_
  · lift_lets
    intro x0
    intro x1
    clear_value x1
    intro x2
    clear_value x2
    refine kept_mk ?_
    assumption
  · lift_lets
    intro x3
    clear_value x3
    split
    · refine State.setI_kept ?_
      assumption
    · refine State.setInvalid_kept ?_
      assumption

theorem State.diode_kept {m0 : May} {s0 s : State} {a2 : Fin 28} {a3 : DiodeResult} (h : Kept m0 s0 s) : Kept m0 s0 (State.diode s a2 a3) := by
  unfold State.diode
  split
  · lift_lets
    intro x0
    clear_value x0
    intro x1
    have hx1 : Kept m0 s0 (x1) := by
      unfold x1
      refine kept_mk ?_
      assumption
    clear_value x1
    intro x2
    have hx2 : Kept m0 s0 (x2) := by
      unfold x2
      refine State.diodeTemp_kept ?_
      refine State.setBit_kept ?_
      assumption
    clear_value x2
    refine State.iff_kept ?_ ?_
    · assumption
    · intro v3_0 v3_1
      refine State.set_kept ?_
      assumption
  · lift_lets
    intro x4
    clear_value x4
    intro x5
    clear_value x5
    intro x6
    have hx6 : Kept m0 s0 (x6) := by
      unfold x6
      refine kept_mk ?_
      assumption
    clear_value x6
    intro x7
    have hx7 : Kept m0 s0 (x7) := by
      unfold x7
      refine State.iff_kept ?_ ?_
      · assumption
      · intro v8_0 v8_1
        refine State.set_kept ?_
        assumption
    clear_value x7
    refine State.iff_kept ?_ ?_
    · assumption
    · intro v9_0 v9_1
      refine State.diodeTemp_kept ?_
      refine State.setBit_kept ?_
      assumption

theorem State.diodeStep_kept {m0 : May} {s0 s : State} {a2 : Fin 28} (h : Kept m0 s0 s) : Kept m0 s0 (State.diodeStep s a2) := by
  unfold State.diodeStep
  refine kept_mk ?_
  assumption

theorem State.spareStart_kept {m0 : May} {s0 s : State} (h : Kept m0 s0 s) : Kept m0 s0 (State.spareStart s) := by
  unfold State.spareStart
  refine kept_mk ?_
  assumption

theorem State.spareNext_kept {m0 : May} {s0 s : State} {a2 : Fin 8} (h : Kept m0 s0 s) : Kept m0 s0 (State.spareNext s a2) := by
  unfold State.spareNext
  lift_lets
  intro x0
  clear_value x0
  intro x1
  clear_value x1
  refine kept_mk ?_
  assumption

theorem execSpareChangeover_kept {m0 : May} {s0 : State} {a1 : Fin 8} {a2 : Bool} {s : State} (h : Kept m0 s0 s) : OutKept m0 s0 (execSpareChangeover a1 a2 s) := by
  unfold execSpareChangeover
  lift_lets
  intro x0
  clear_value x0
  refine outKept_ite ?_ ?_
  · split
    · refine outKept_ite ?_ ?_
      · refine done_kept ?_
        refine State.inc_kept ?_
        refine State.set_kept ?_
        assumption
      · refine done_kept ?_
        assumption
    · refine done_kept ?_
      assumption
  · refine outKept_ite ?_ ?_
    · refine done_kept ?_
      refine State.spareNext_kept ?_
      refine State.inc_kept ?_
      refine State.set_kept ?_
      assumption
    · refine done_kept ?_
      assumption

theorem State.beginVisit_kept {m0 : May} {s0 s : State} (h : Kept m0 s0 s) : Kept m0 s0 (State.beginVisit s) := by
  unfold State.beginVisit
  split
  · refine kept_ite ?_ ?_
    · lift_lets
      intro x0
      have hx0 : Kept m0 s0 (x0) := by
        unfold x0
        refine State.set_kept ?_
        assumption
      clear_value x0
      intro x1
      clear_value x1
      intro x2
      have hx2 : Kept m0 s0 (x2) := by
        unfold x2
        refine kept_mk ?_
        assumption
      clear_value x2
      refine State.showExcl_kept ?_
      refine State.iff_kept ?_ ?_
      · assumption
      · intro v3_0 v3_1
        refine State.spareStart_kept ?_
        assumption
    · assumption
  · assumption

theorem execCalPassStart_kept {m0 : May} {s0 s : State} (h : Kept m0 s0 s) : OutKept m0 s0 (execCalPassStart s) := by
  unfold execCalPassStart
  split
  · refine done_kept ?_
    assumption
  · refine outKept_ite ?_ ?_
    · lift_lets
      intro x0
      clear_value x0
      intro x1
      clear_value x1
      refine done_kept ?_
      refine State.beginVisit_kept ?_
      refine kept_mk ?_
      assumption
    · refine done_kept ?_
      assumption

theorem State.endVisit_kept {m0 : May} {s0 s : State} {a2 : Nat} (h : Kept m0 s0 s) : Kept m0 s0 (State.endVisit s a2) := by
  unfold State.endVisit
  lift_lets
  intro x0
  have hx0 : Kept m0 s0 (x0) := by
    unfold x0
    refine State.set_kept ?_
    assumption
  clear_value x0
  intro x1
  clear_value x1
  refine State.beginVisit_kept ?_
  refine State.showExcl_kept ?_
  refine kept_mk ?_
  assumption

theorem State.converterReturn_kept {m0 : May} {s0 s : State} {a2 : Fin 4} (h : Kept m0 s0 s) : Kept m0 s0 (State.converterReturn s a2) := by
  unfold State.converterReturn
  refine kept_ite ?_ ?_
  · refine State.event_kept ?_
    refine State.showExcl_kept ?_
    refine kept_mk ?_
    assumption
  · assumption

theorem State.visitComplete_kept {m0 : May} {s0 s : State} {a2 : CalResult} (h : Kept m0 s0 s) : Kept m0 s0 (State.visitComplete s a2) := by
  unfold State.visitComplete
  split
  · refine kept_ite ?_ ?_
    · assumption
    · lift_lets
      intro x0
      clear_value x0
      intro x1
      clear_value x1
      intro x2
      clear_value x2
      intro x3
      have hx3 : Kept m0 s0 (x3) := by
        unfold x3
        refine kept_mk ?_
        assumption
      clear_value x3
      intro x4
      have hx4 : Kept m0 s0 (x4) := by
        unfold x4
        refine State.iff_kept ?_ ?_
        · assumption
        · intro v5_0 v5_1
          refine State.converterReturn_kept ?_
          assumption
      clear_value x4
      refine State.endVisit_kept ?_
      assumption
  · assumption

theorem State.visitAbort_kept {m0 : Bool} {s0 s : State} {a2 : Fin 2} (h : Kept ⟨m0, true⟩ s0 s) : Kept ⟨m0, true⟩ s0 (State.visitAbort s a2) := by
  unfold State.visitAbort
  split
  · refine kept_ite ?_ ?_
    · lift_lets
      intro x0
      have hx0 : Kept ⟨m0, true⟩ s0 (x0) := by
        unfold x0
        refine State.endVisit_kept ?_
        assumption
      clear_value x0
      refine State.iff_kept ?_ ?_
      · assumption
      · intro v1_0 v1_1
        refine State.xchkDeclare_kept ?_
        assumption
    · assumption
  · assumption

theorem execCalVisitAbort_kept {m0 : Bool} {s0 : State} {a1 : Fin 2} {s : State} (h : Kept ⟨m0, true⟩ s0 s) : OutKept ⟨m0, true⟩ s0 (execCalVisitAbort a1 s) := by
  unfold execCalVisitAbort
  refine done_kept ?_
  refine State.visitAbort_kept ?_
  assumption

theorem State.coefsBlend_kept {m0 : May} {s0 s : State} (h : Kept m0 s0 s) : Kept m0 s0 (State.coefsBlend s) := by
  unfold State.coefsBlend
  refine kept_mk ?_
  assumption

theorem State.passEnd_kept {m0 : May} {s0 s : State} {a2 : Int} (h : Kept m0 s0 s) : Kept m0 s0 (State.passEnd s a2) := by
  unfold State.passEnd
  split
  · refine kept_ite ?_ ?_
    · assumption
    · lift_lets
      intro x0
      clear_value x0
      intro x1
      clear_value x1
      intro x2
      clear_value x2
      intro x3
      clear_value x3
      intro x4
      clear_value x4
      intro x5
      clear_value x5
      intro x6
      have hx6 : Kept m0 s0 (x6) := by
        unfold x6
        refine State.setI_kept ?_
        refine State.set_kept ?_
        refine State.incWrap_kept ?_
        assumption
      clear_value x6
      intro x7
      have hx7 : Kept m0 s0 (x7) := by
        unfold x7
        refine State.iff_kept ?_ ?_
        · assumption
        · intro v8_0 v8_1
          refine State.event_kept ?_
          refine State.inc_kept ?_
          assumption
      clear_value x7
      intro x9
      clear_value x9
      intro x10
      have hx10 : Kept m0 s0 (x10) := by
        unfold x10
        refine kept_mk ?_
        assumption
      clear_value x10
      refine kept_ite ?_ ?_
      · refine State.coefsBlend_kept ?_
        assumption
      · assumption
  · assumption

theorem State.afeTick_kept {m0 : May} {s0 s : State} (h : Kept m0 s0 s) : Kept m0 s0 (State.afeTick s) := by
  unfold State.afeTick
  refine State.winEnd_kept ?_
  refine State.xchkTick_kept ?_
  refine State.xchkTick_kept ?_
  refine State.winAdd_kept ?_
  assumption

theorem State.afeSample_kept {m0 : May} {s0 s : State} (h : Kept m0 s0 s) : Kept m0 s0 (State.afeSample s) := by
  unfold State.afeSample
  lift_lets
  intro x0
  have hx0 : Kept m0 s0 (x0) := by
    unfold x0
    refine State.fastShow_kept ?_
    refine State.monRelease_kept ?_
    assumption
  clear_value x0
  intro x1
  have hx1 : Kept m0 s0 (x1) := by
    unfold x1
    refine State.cmpJudge_kept ?_
    refine State.phaseShow_kept ?_
    assumption
  clear_value x1
  refine State.iff_kept ?_ ?_
  · assumption
  · intro v2_0 v2_1
    refine State.beginVisit_kept ?_
    refine State.showExcl_kept ?_
    assumption

theorem execCrosscheckJudge_kept {m0 : May} {s0 : State} {a1 : Fin 2} {a2 : List (BitVec 14)} {a3 : Twice Int} {a4 : Twice Int} {s : State} (h : Kept m0 s0 s) : OutKept m0 s0 (execCrosscheckJudge a1 a2 a3 a4 s) := by
  unfold execCrosscheckJudge
  refine outKept_ite ?_ ?_
  · refine done_kept ?_
    refine State.settle_kept ?_
    refine State.xchkJudge_kept ?_
    assumption
  · refine done_kept ?_
    assumption

theorem State.thmDue_kept {m0 : May} {s0 s : State} {a2 : Nat} (h : Kept m0 s0 s) : Kept m0 s0 (State.thmDue s a2) := by
  unfold State.thmDue
  lift_lets
  intro x0
  clear_value x0
  intro x1
  clear_value x1
  refine kept_ite ?_ ?_
  · assumption
  · refine kept_mk ?_
    assumption

theorem execDiodeConversion_kept {m0 : May} {s0 : State} {a1 : Fin 28} {a2 : DiodeResult} {s : State} (h : Kept m0 s0 s) : OutKept m0 s0 (execDiodeConversion a1 a2 s) := by
  unfold execDiodeConversion
  refine outKept_ite ?_ ?_
  · refine done_kept ?_
    refine State.settle_kept ?_
    refine State.thmDue_kept ?_
    refine State.diodeStep_kept ?_
    refine State.diode_kept ?_
    assumption
  · refine done_kept ?_
    assumption

theorem execCalVisitComplete_kept {m0 : May} {s0 : State} {a1 : CalResult} {s : State} (h : Kept m0 s0 s) : OutKept m0 s0 (execCalVisitComplete a1 s) := by
  unfold execCalVisitComplete
  refine done_kept ?_
  refine State.settle_kept ?_
  refine State.visitComplete_kept ?_
  assumption

theorem execCalPassEnd_kept {m0 : May} {s0 : State} {a1 : Int} {s : State} (h : Kept m0 s0 s) : OutKept m0 s0 (execCalPassEnd a1 s) := by
  unfold execCalPassEnd
  refine done_kept ?_
  refine State.settle_kept ?_
  refine State.passEnd_kept ?_
  assumption

theorem State.vcoreTo_kept {m0 : May} {s0 s : State} {a2 : Nat} (h : Kept m0 s0 s) : Kept m0 s0 (State.vcoreTo s a2) := by
  unfold State.vcoreTo
  lift_lets
  intro x0
  clear_value x0
  intro x1
  clear_value x1
  intro x2
  have hx2 : Kept m0 s0 (x2) := by
    unfold x2
    refine State.set_kept ?_
    assumption
  clear_value x2
  refine State.iff_kept ?_ ?_
  · assumption
  · intro v3_0 v3_1
    lift_lets
    intro x4
    clear_value x4
    refine kept_mk ?_
    assumption

theorem State.vcoreMax_kept {m0 : May} {s0 s : State} (h : Kept m0 s0 s) : Kept m0 s0 (State.vcoreMax s) := by
  unfold State.vcoreMax
  lift_lets
  intro x0
  have hx0 : Kept m0 s0 (x0) := by
    unfold x0
    refine State.setB_kept ?_
    refine State.vcoreTo_kept ?_
    assumption
  clear_value x0
  intro x1
  clear_value x1
  refine kept_mk ?_
  assumption

theorem State.slackJudge_kept {m0 : May} {s0 s : State} {a2 : Nat} {a3 : Nat} (h : Kept m0 s0 s) : Kept m0 s0 (State.slackJudge s a2 a3) := by
  unfold State.slackJudge
  lift_lets
  intro x0
  clear_value x0
  intro x1
  clear_value x1
  intro x2
  have hx2 : Kept m0 s0 (x2) := by
    unfold x2
    refine kept_mk ?_
    assumption
  clear_value x2
  intro x3
  have hx3 : Kept m0 s0 (x3) := by
    unfold x3
    refine State.vcoreMax_kept ?_
    assumption
  clear_value x3
  intro x4
  clear_value x4
  intro x5
  clear_value x5
  refine kept_ite ?_ ?_
  · assumption
  · refine kept_ite ?_ ?_
    · refine kept_mk ?_
      assumption
    · refine kept_ite ?_ ?_
      · refine kept_mk ?_
        assumption
      · assumption

theorem State.vcoreTick_kept {m0 : May} {s0 s : State} (h : Kept m0 s0 s) : Kept m0 s0 (State.vcoreTick s) := by
  unfold State.vcoreTick
  refine kept_ite ?_ ?_
  · refine State.vcoreTo_kept ?_
    assumption
  · assumption

theorem State.setSlot_kept {m0 : May} {s0 s : State} {a2 : Fin 64} {a3 : LoopSlot} (h : Kept m0 s0 s) : Kept m0 s0 (State.setSlot s a2 a3) := by
  unfold State.setSlot
  refine kept_mk ?_
  assumption

theorem State.writePort_kept {m0 : May} {s0 s : State} {a2 : Nat} {a3 : Int} (h : Kept m0 s0 s) : Kept m0 s0 (State.writePort s a2 a3) := by
  unfold State.writePort
  refine kept_mk ?_
  assumption

theorem State.slotFault_kept {m0 : May} {s0 s : State} {a2 : Fin 64} (h : Kept m0 s0 s) : Kept m0 s0 (State.slotFault s a2) := by
  unfold State.slotFault
  refine kept_ite ?_ ?_
  · assumption
  · lift_lets
    intro x0
    clear_value x0
    intro x1
    have hx1 : Kept m0 s0 (x1) := by
      unfold x1
      refine State.event_kept ?_
      refine State.setB_kept ?_
      assumption
    clear_value x1
    intro x2
    clear_value x2
    intro x3
    have hx3 : Kept m0 s0 (x3) := by
      unfold x3
      refine State.writePort_kept ?_
      assumption
    clear_value x3
    intro x4
    clear_value x4
    refine kept_ite ?_ ?_
    · refine State.setSlot_kept ?_
      assumption
    · assumption

theorem State.takeSlot_kept {m0 : May} {s0 s : State} {a2 : LoopView} {a3 : List (Nat × List Nat)} {a4 : Fin 64} (h : Kept m0 s0 s) : Kept m0 s0 (State.takeSlot s a2 a3 a4) := by
  unfold State.takeSlot
  lift_lets
  intro x0
  clear_value x0
  intro x1
  clear_value x1
  intro x2
  clear_value x2
  intro x3
  clear_value x3
  intro x4
  clear_value x4
  intro x5
  clear_value x5
  intro x6
  clear_value x6
  intro x7
  clear_value x7
  intro x8
  clear_value x8
  intro x9
  have hx9 : Kept m0 s0 (x9) := by
    unfold x9
    refine State.setB_kept ?_
    refine State.setSlot_kept ?_
    assumption
  clear_value x9
  refine kept_ite ?_ ?_
  · refine State.setB_kept ?_
    refine State.setB_kept ?_
    refine State.set_kept ?_
    assumption
  · assumption

theorem State.copyCoefs_kept {m0 : Bool} {s0 s : State} {a2 : List Host.Cell} (h : Kept ⟨m0, true⟩ s0 s) : Kept ⟨m0, true⟩ s0 (State.copyCoefs s a2) :=
  foldl_kept (kept_filter h) (fun _ _ h => State.setByte_kept h)

theorem State.showLanes_kept {m0 : May} {s0 s : State} (h : Kept m0 s0 s) : Kept m0 s0 (State.showLanes s) := by
  unfold State.showLanes
  refine State.each_kept ?_ ?_
  · assumption
  · intro v0_0 v0_1 v0_2
    refine State.set_kept ?_
    assumption

theorem State.relane_kept {m0 : May} {s0 s : State} (h : Kept m0 s0 s) : Kept m0 s0 (State.relane s) := by
  unfold State.relane
  lift_lets
  intro x0
  clear_value x0
  intro x1
  clear_value x1
  intro x2
  clear_value x2
  intro x3
  have hx3 : Kept m0 s0 (x3) := by
    unfold x3
    refine State.each_kept ?_ ?_
    · assumption
    · intro v4_0 v4_1 v4_2
      lift_lets
      intro x5
      clear_value x5
      refine State.setSlot_kept ?_
      assumption
  clear_value x3
  refine State.showLanes_kept ?_
  refine State.set_kept ?_
  assumption

theorem State.admitView_kept {m0 : Bool} {s0 s : State} {a2 : LoopView} (h : Kept ⟨m0, true⟩ s0 s) : Kept ⟨m0, true⟩ s0 (State.admitView s a2) := by
  unfold State.admitView
  lift_lets
  intro x0
  clear_value x0
  intro x1
  clear_value x1
  intro x2
  have hx2 : Kept ⟨m0, true⟩ s0 (x2) := by
    unfold x2
    refine State.each_kept ?_ ?_
    · refine State.storedChange_kept ?_
      assumption
    · intro v3_0 v3_1 v3_2
      refine State.takeSlot_kept ?_
      assumption
  clear_value x2
  intro x4
  have hx4 : Kept ⟨m0, true⟩ s0 (x4) := by
    unfold x4
    refine State.showLanes_kept ?_
    refine State.copyCoefs_kept ?_
    assumption
  clear_value x4
  intro x5
  have hx5 : Kept ⟨m0, true⟩ s0 (x5) := by
    unfold x5
    refine State.set_kept ?_
    refine State.set_kept ?_
    refine State.set_kept ?_
    assumption
  clear_value x5
  intro x6
  clear_value x6
  refine State.set_kept ?_
  refine State.set_kept ?_
  assumption

theorem State.admitResult_kept {m0 : May} {s0 s : State} {a2 : Nat} {a3 : Nat} (h : Kept m0 s0 s) : Kept m0 s0 (State.admitResult s a2 a3) := by
  unfold State.admitResult
  lift_lets
  intro x0
  have hx0 : Kept m0 s0 (x0) := by
    unfold x0
    refine State.set_kept ?_
    refine State.set_kept ?_
    assumption
  clear_value x0
  refine State.iff_kept ?_ ?_
  · assumption
  · intro v1_0 v1_1
    refine State.inc_kept ?_
    assumption

theorem State.admitStart_kept {m0 : May} {s0 s : State} {a2 : Bool} (h : Kept m0 s0 s) : Kept m0 s0 (State.admitStart s a2) := by
  unfold State.admitStart
  split
  · assumption
  · lift_lets
    intro x0
    clear_value x0
    intro x1
    clear_value x1
    intro x2
    have hx2 : Kept m0 s0 (x2) := by
      unfold x2
      refine State.iff_kept ?_ ?_
      · refine State.set_kept ?_
        assumption
      · intro v3_0 v3_1
        refine State.vcoreMax_kept ?_
        assumption
    clear_value x2
    intro x4
    clear_value x4
    refine kept_mk ?_
    assumption

theorem State.discardStaged_kept {m0 : Bool} {s0 s : State} (h : Kept ⟨m0, true⟩ s0 s) : Kept ⟨m0, true⟩ s0 (State.discardStaged s) := by
  unfold State.discardStaged
  lift_lets
  intro x
  have hx : Kept ⟨m0, true⟩ s0 x := by
    refine State.each_kept h ?_
    intro t a h
    refine State.set_kept (State.set_kept (State.setReg_kept (State.setReg_kept h)))
  clear_value x
  exact foldl_kept (kept_filter hx) (fun _ _ h => State.setByte_kept h)

theorem State.coefWrite_kept {m0 : Bool} {s0 s : State} {a2 : Requester} {a3 : Nat} {a4 : Word} (h : Kept ⟨m0, true⟩ s0 s) : Kept ⟨m0, true⟩ s0 (State.coefWrite s a2 a3 a4) := by
  unfold State.coefWrite
  refine kept_ite ?_ ?_
  · refine State.ranked_kept ?_ ?_
    · assumption
    · intro v0_0 v0_1
      refine State.store_kept ?_
      assumption
  · assumption

theorem State.laneTest_kept {m0 : May} {s0 s : State} {a2 : Fin 5} {a3 : Bool} (h : Kept m0 s0 s) : Kept m0 s0 (State.laneTest s a2 a3) := by
  unfold State.laneTest
  refine kept_ite ?_ ?_
  · assumption
  · lift_lets
    intro x0
    clear_value x0
    intro x1
    have hx1 : Kept m0 s0 (x1) := by
      unfold x1
      refine kept_mk ?_
      assumption
    clear_value x1
    refine State.set_kept ?_
    assumption

theorem State.laneTested_kept {m0 : May} {s0 s : State} {a2 : Fin 5} (h : Kept m0 s0 s) : Kept m0 s0 (State.laneTested s a2) := by
  unfold State.laneTested
  split
  · assumption
  · lift_lets
    intro x0
    clear_value x0
    intro x1
    clear_value x1
    intro x2
    have hx2 : Kept m0 s0 (x2) := by
      unfold x2
      refine kept_mk ?_
      assumption
    clear_value x2
    intro x3
    have hx3 : Kept m0 s0 (x3) := by
      unfold x3
      refine State.set_kept ?_
      assumption
    clear_value x3
    intro x4
    have hx4 : Kept m0 s0 (x4) := by
      unfold x4
      refine kept_ite ?_ ?_
      · refine State.inc_kept ?_
        assumption
      · refine State.set_kept ?_
        assumption
    clear_value x4
    refine kept_ite ?_ ?_
    · refine State.event_kept ?_
      refine State.set_kept ?_
      assumption
    · assumption

theorem State.laneTick_kept {m0 : May} {s0 s : State} (h : Kept m0 s0 s) : Kept m0 s0 (State.laneTick s) := by
  unfold State.laneTick
  refine kept_ite ?_ ?_
  · assumption
  · refine State.settle_kept ?_
    refine State.each_kept ?_ ?_
    · assumption
    · intro v0_0 v0_1 v0_2
      refine State.laneTested_kept ?_
      assumption

theorem State.replace_kept {m0 : May} {s0 s : State} {a2 : LoopView} {a3 : Nat} {a4 : Fin 64} (h : Kept m0 s0 s) : Kept m0 s0 (State.replace s a2 a3 a4) := by
  unfold State.replace
  lift_lets
  intro x0
  clear_value x0
  intro x1
  clear_value x1
  intro x2
  clear_value x2
  intro x3
  clear_value x3
  refine kept_ite ?_ ?_
  · assumption
  · refine State.setSlot_kept ?_
    assumption

theorem State.showCapacity_kept {m0 : May} {s0 s : State} (h : Kept m0 s0 s) : Kept m0 s0 (State.showCapacity s) := by
  unfold State.showCapacity
  lift_lets
  intro x0
  clear_value x0
  refine State.set_kept ?_
  refine State.set_kept ?_
  refine State.set_kept ?_
  assumption

theorem State.retireLane_kept {m0 : May} {s0 s : State} {a2 : Nat} (h : Kept m0 s0 s) : Kept m0 s0 (State.retireLane s a2) := by
  unfold State.retireLane
  lift_lets
  intro x0
  clear_value x0
  intro x1
  have hx1 : Kept m0 s0 (x1) := by
    unfold x1
    refine State.inc_kept ?_
    refine State.set_kept ?_
    refine State.set_kept ?_
    assumption
  clear_value x1
  intro x2
  clear_value x2
  intro x3
  have hx3 : Kept m0 s0 (x3) := by
    unfold x3
    split
    · refine kept_mk ?_
      assumption
    · assumption
  clear_value x3
  intro x4
  clear_value x4
  intro x5
  clear_value x5
  split
  · lift_lets
    intro x6
    have hx6 : Kept m0 s0 (x6) := by
      unfold x6
      refine State.set_kept ?_
      refine State.inc_kept ?_
      refine State.set_kept ?_
      assumption
    clear_value x6
    intro x7
    clear_value x7
    intro x8
    clear_value x8
    refine State.showCapacity_kept ?_
    refine State.set_kept ?_
    refine kept_mk ?_
    assumption
  · refine State.showLanes_kept ?_
    refine State.each_kept ?_ ?_
    · refine State.showCapacity_kept ?_
      assumption
    · intro v9_0 v9_1 v9_2
      refine State.replace_kept ?_
      assumption

theorem State.setTune_kept {m0 : May} {s0 s : State} {a2 : Tune} (h : Kept m0 s0 s) : Kept m0 s0 (State.setTune s a2) := by
  unfold State.setTune
  refine kept_mk ?_
  assumption

theorem State.tuneEnd_kept {m0 : May} {s0 s : State} {a2 : Nat} {a3 : Nat} {a4 : Nat} (h : Kept m0 s0 s) : Kept m0 s0 (State.tuneEnd s a2 a3 a4) := by
  unfold State.tuneEnd
  lift_lets
  intro x0
  clear_value x0
  intro x1
  clear_value x1
  intro x2
  have hx2 : Kept m0 s0 (x2) := by
    unfold x2
    refine State.setB_kept ?_
    refine State.setSlot_kept ?_
    assumption
  clear_value x2
  refine State.set_kept ?_
  refine State.set_kept ?_
  refine State.set_kept ?_
  assumption

theorem State.tuneAbort_kept {m0 : May} {s0 s : State} {a2 : Nat} (h : Kept m0 s0 s) : Kept m0 s0 (State.tuneAbort s a2) := by
  unfold State.tuneAbort
  refine State.iff_kept ?_ ?_
  · assumption
  · intro v0_0 v0_1
    refine State.tuneEnd_kept ?_
    assumption

theorem State.tuneStart_kept {m0 : May} {s0 s : State} (h : Kept m0 s0 s) : Kept m0 s0 (State.tuneStart s) := by
  unfold State.tuneStart
  refine kept_ite ?_ ?_
  · lift_lets
    intro x0
    have hx0 : Kept m0 s0 (x0) := by
      unfold x0
      refine State.set_kept ?_
      refine State.set_kept ?_
      refine State.set_kept ?_
      assumption
    clear_value x0
    intro x1
    have hx1 : Kept m0 s0 (x1) := by
      unfold x1
      refine State.setB_kept ?_
      refine State.inc_kept ?_
      refine State.set_kept ?_
      assumption
    clear_value x1
    refine State.setTune_kept ?_
    assumption
  · refine State.set_kept ?_
    assumption

theorem State.tuneAbortCmd_kept {m0 : May} {s0 s : State} (h : Kept m0 s0 s) : Kept m0 s0 (State.tuneAbortCmd s) := by
  unfold State.tuneAbortCmd
  refine kept_ite ?_ ?_
  · refine State.tuneAbort_kept ?_
    assumption
  · refine kept_ite ?_ ?_
    · refine State.set_kept ?_
      refine State.set_kept ?_
      assumption
    · assumption

theorem State.tunePropose_kept {m0 : May} {s0 s : State} {a2 : Bool} (h : Kept m0 s0 s) : Kept m0 s0 (State.tunePropose s a2) := by
  unfold State.tunePropose
  lift_lets
  intro x0
  clear_value x0
  intro x1
  clear_value x1
  intro x2
  clear_value x2
  intro x3
  have hx3 : ∀ b0 b1 b2 b3, Kept m0 s0 b3 → Kept m0 s0 (x3 b0 b1 b2 b3) := by
    intro v4_0 v4_1 v4_2 v4_3 v4_4
    unfold x3
    refine kept_ite ?_ ?_
    · refine State.tuneEnd_kept ?_
      assumption
    · refine State.set_kept ?_
      refine State.set_kept ?_
      refine State.set_kept ?_
      assumption
  clear_value x3
  intro x5
  have hx5 : Kept m0 s0 (x5) := by
    unfold x5
    refine State.setI_kept ?_
    refine State.setI_kept ?_
    assumption
  clear_value x5
  split
  · refine hx3 _ _ _ _ ?_
    assumption
  · refine hx3 _ _ _ _ ?_
    refine State.setI_kept ?_
    refine State.setI_kept ?_
    assumption

theorem State.tuneConverged_kept {m0 : May} {s0 s : State} {a2 : List (Nat × Int)} (h : Kept m0 s0 s) : Kept m0 s0 (State.tuneConverged s a2) := by
  unfold State.tuneConverged
  lift_lets
  intro x0
  clear_value x0
  intro x1
  clear_value x1
  intro x2
  clear_value x2
  intro x3
  have hx3 : Kept m0 s0 (x3) := by
    unfold x3
    refine State.set_kept ?_
    refine State.set_kept ?_
    assumption
  clear_value x3
  intro x4
  clear_value x4
  intro x5
  have hx5 : Kept m0 s0 (x5) := by
    unfold x5
    refine State.setTune_kept ?_
    refine State.set_kept ?_
    assumption
  clear_value x5
  refine kept_ite ?_ ?_
  · refine State.tunePropose_kept ?_
    assumption
  · refine State.tuneEnd_kept ?_
    assumption

theorem State.tuneSample_kept {m0 : May} {s0 s : State} {a2 : Fin 64} {a3 : LoopSet} {a4 a5 a6 a7 a8 : Int} {a9 : Nat} (h : Kept m0 s0 s) : Kept m0 s0 (State.tuneSample s a2 a3 a4 a5 a6 a7 a8 a9).2.2 := by
  have p : ∀ {c : Prop} [Decidable c] {x y : Int × Int × State}, Kept m0 s0 x.2.2 → Kept m0 s0 y.2.2 → Kept m0 s0 (if c then x else y).2.2 := by
    intro c _ x y hx hy
    split <;> assumption
  refine p (State.tuneAbort_kept h) (p (State.setTune_kept h) ?_)
  split
  · exact State.setTune_kept h
  · exact p (State.tuneConverged_kept (State.set_kept (State.setTune_kept h))) (State.set_kept (State.setTune_kept h))

theorem State.tuneApply_kept {m0 : Bool} {s0 s : State} (h : Kept ⟨m0, true⟩ s0 s) : Kept ⟨m0, true⟩ s0 (State.tuneApply s) := by
  unfold State.tuneApply
  refine kept_ite ?_ ?_
  · assumption
  · refine kept_ite ?_ ?_
    · refine State.set_kept ?_
      assumption
    · lift_lets
      intro x0
      clear_value x0
      intro x1
      have hx1 : Kept ⟨m0, true⟩ s0 (x1) := by
        unfold x1
        refine State.store_kept ?_
        refine State.store_kept ?_
        assumption
      clear_value x1
      intro x2
      have hx2 : Kept ⟨m0, true⟩ s0 (x2) := by
        unfold x2
        refine State.store_kept ?_
        refine State.store_kept ?_
        assumption
      clear_value x2
      refine State.admitStart_kept ?_
      assumption

theorem State.setLine_kept {m0 : May} {s0 s : State} {a2 : Tracker} (h : Kept m0 s0 s) : Kept m0 s0 (State.setLine s a2) := by
  unfold State.setLine
  refine kept_mk ?_
  assumption

theorem State.fadeGo_kept {m0 : May} {s0 s : State} {a2 : Int} (h : Kept m0 s0 s) : Kept m0 s0 (State.fadeGo s a2) := by
  unfold State.fadeGo
  refine State.setLine_kept ?_
  assumption

theorem State.lineChoose_kept {m0 : May} {s0 s : State} (h : Kept m0 s0 s) : Kept m0 s0 (State.lineChoose s) := by
  unfold State.lineChoose
  lift_lets
  intro x0
  clear_value x0
  intro x1
  clear_value x1
  intro x2
  have hx2 : Kept m0 s0 (x2) := by
    unfold x2
    refine State.set_kept ?_
    assumption
  clear_value x2
  intro x3
  clear_value x3
  intro x4
  have hx4 : Kept m0 s0 (x4) := by
    unfold x4
    refine State.setB_kept ?_
    refine State.setB_kept ?_
    assumption
  clear_value x4
  intro x5
  clear_value x5
  refine kept_ite ?_ ?_
  · refine State.setLine_kept ?_
    assumption
  · assumption

theorem State.lineCorrect_kept {m0 : May} {s0 s : State} {a2 : Fin 3} {a3 : Int} (h : Kept m0 s0 s) : Kept m0 s0 (State.lineCorrect s a2 a3) := by
  have h1 : ∀ y, Kept m0 s0 (({ s with free := s.draw.2.draw.2.free }).setLine y) := fun y =>
    State.setLine_kept ⟨h.regs, h.mem, h.same, h.pending, h.tick, h.power, h.g,
      Nat.le_trans h.free (Nat.le_trans (Nat.le_add_right _ 1) (Nat.le_add_right _ 1))⟩
  refine kept_ite (State.setB_kept ?_) (kept_ite (State.fadeGo_kept (State.setLine_kept (State.setB_kept (State.setB_kept ?_)))) ?_)
  all_goals exact State.set_kept (h1 _)

theorem State.syncConversion_kept {m0 : May} {s0 s : State} {a2 : Fin 3} {a3 : Nat} {a4 : Nat} (h : Kept m0 s0 s) : Kept m0 s0 (State.syncConversion s a2 a3 a4) := by
  unfold State.syncConversion
  lift_lets
  intro x0
  clear_value x0
  intro x1
  clear_value x1
  intro x2
  clear_value x2
  intro x3
  clear_value x3
  intro x4
  clear_value x4
  refine State.setLine_kept ?_
  assumption

theorem State.syncTick_kept {m0 : May} {s0 s : State} (h : Kept m0 s0 s) : Kept m0 s0 (State.syncTick s) := by
  unfold State.syncTick
  refine State.each_kept ?_ ?_
  · assumption
  · intro v0_0 v0_1 v0_2
    lift_lets
    intro x1
    clear_value x1
    intro x2
    clear_value x2
    refine kept_ite ?_ ?_
    · refine State.syncConversion_kept ?_
      assumption
    · assumption

theorem State.lineCross_kept {m0 : May} {s0 s : State} {a2 : Fin 3} {a3 : Nat} {a4 : Nat} (h : Kept m0 s0 s) : Kept m0 s0 (State.lineCross s a2 a3 a4) := by
  unfold State.lineCross
  lift_lets
  intro x0
  clear_value x0
  intro x1
  clear_value x1
  intro x2
  clear_value x2
  intro x3
  clear_value x3
  intro x4
  have hx4 : Kept m0 s0 (x4) := by
    unfold x4
    refine State.setLine_kept ?_
    assumption
  clear_value x4
  intro x5
  have hx5 : Kept m0 s0 (x5) := by
    unfold x5
    refine kept_ite ?_ ?_
    · refine State.setB_kept ?_
      assumption
    · refine State.iff_kept ?_ ?_
      · assumption
      · intro v6_0 v6_1
        refine State.setB_kept ?_
        assumption
  clear_value x5
  intro x7
  clear_value x7
  intro x8
  have hx8 : Kept m0 s0 (x8) := by
    unfold x8
    refine kept_ite ?_ ?_
    · refine kept_mk ?_
      assumption
    · assumption
  clear_value x8
  intro x9
  have hx9 : Kept m0 s0 (x9) := by
    unfold x9
    refine State.lineChoose_kept ?_
    assumption
  clear_value x9
  refine kept_ite ?_ ?_
  · refine State.lineCorrect_kept ?_
    assumption
  · assumption

theorem execLineCrossing_kept {m0 : May} {s0 : State} {a1 : Fin 3} {a2 : Fin 50} {a3 : Nat} {s : State} (h : Kept m0 s0 s) : OutKept m0 s0 (execLineCrossing a1 a2 a3 s) := by
  unfold execLineCrossing
  refine outKept_ite ?_ ?_
  · refine done_kept ?_
    assumption
  · split
    · refine done_kept ?_
      refine State.lineCross_kept ?_
      assumption
    · refine done_kept ?_
      assumption

theorem execLineSourceLost_kept {m0 : May} {s0 : State} {a1 : Fin 3} {s : State} (h : Kept m0 s0 s) : OutKept m0 s0 (execLineSourceLost a1 s) := by
  unfold execLineSourceLost
  lift_lets
  intro x0
  clear_value x0
  intro x1
  clear_value x1
  intro x2
  clear_value x2
  intro x3
  have hx3 : Kept m0 s0 (x3) := by
    unfold x3
    refine State.setLine_kept ?_
    refine State.setB_kept ?_
    assumption
  clear_value x3
  refine outKept_ite ?_ ?_
  · refine done_kept ?_
    refine State.lineChoose_kept ?_
    assumption
  · refine done_kept ?_
    assumption

theorem execFlywheelEnd_kept {m0 : May} {s0 s : State} (h : Kept m0 s0 s) : OutKept m0 s0 (execFlywheelEnd s) := by
  unfold execFlywheelEnd
  refine outKept_ite ?_ ?_
  · lift_lets
    intro x0
    clear_value x0
    intro x1
    have hx1 : Kept m0 s0 (x1) := by
      unfold x1
      refine State.setLine_kept ?_
      refine State.setB_kept ?_
      assumption
    clear_value x1
    intro x2
    clear_value x2
    refine done_kept ?_
    refine kept_ite ?_ ?_
    · refine State.setLine_kept ?_
      assumption
    · refine State.fadeGo_kept ?_
      assumption
  · refine done_kept ?_
    assumption

theorem State.showTblCrc_kept {m0 : May} {s0 s : State} (h : Kept m0 s0 s) : Kept m0 s0 (State.showTblCrc s) := by
  unfold State.showTblCrc
  refine State.set_kept ?_
  assumption

theorem State.swapBank_kept {m0 : Bool} {s0 s : State} {a2 : Fin 8} (h : Kept ⟨m0, true⟩ s0 s) : Kept ⟨m0, true⟩ s0 (State.swapBank s a2) := by
  unfold State.swapBank
  lift_lets
  intro x0
  have hx0 : Kept ⟨m0, true⟩ s0 (x0) := by
    unfold x0
    refine State.setBytes_kept ?_
    assumption
  clear_value x0
  intro x1
  clear_value x1
  intro x2
  clear_value x2
  refine State.storedChange_kept ?_
  refine State.setBit_kept ?_
  refine State.setLine_kept ?_
  assumption

theorem State.swapPending_kept {m0 : Bool} {s0 s : State} (h : Kept ⟨m0, true⟩ s0 s) : Kept ⟨m0, true⟩ s0 (State.swapPending s) := by
  unfold State.swapPending
  refine State.showTblCrc_kept ?_
  refine State.each_kept ?_ ?_
  · assumption
  · intro v0_0 v0_1 v0_2
    refine kept_ite ?_ ?_
    · refine State.swapBank_kept ?_
      assumption
    · assumption

theorem State.tblCommit_kept {m0 : Bool} {s0 s : State} {a2 : Nat} (h : Kept ⟨m0, true⟩ s0 s) : Kept ⟨m0, true⟩ s0 (State.tblCommit s a2) := by
  unfold State.tblCommit
  lift_lets
  intro x0
  clear_value x0
  intro x1
  have hx1 : Kept ⟨m0, true⟩ s0 (x1) := by
    unfold x1
    refine State.setLine_kept ?_
    assumption
  clear_value x1
  refine kept_ite ?_ ?_
  · refine State.swapPending_kept ?_
    assumption
  · assumption

theorem execTblSwap_kept {m0 : Bool} {s0 s : State} (h : Kept ⟨m0, true⟩ s0 s) : OutKept ⟨m0, true⟩ s0 (execTblSwap s) := by
  unfold execTblSwap
  refine outKept_ite ?_ ?_
  · refine done_kept ?_
    refine State.swapPending_kept ?_
    assumption
  · refine done_kept ?_
    assumption

theorem State.tblData_kept {m0 : Bool} {s0 s : State} {a2 : Option Word} (h : Kept ⟨m0, true⟩ s0 s) : Kept ⟨m0, true⟩ s0 (State.tblData s a2) := by
  unfold State.tblData
  lift_lets
  intro x0
  clear_value x0
  intro x1
  clear_value x1
  intro x2
  have hx2 : Kept ⟨m0, true⟩ s0 (x2) := by
    unfold x2
    split
    · refine State.store_kept ?_
      assumption
    · refine State.reply_kept ?_
      assumption
  clear_value x2
  refine State.iff_kept ?_ ?_
  · assumption
  · intro v3_0 v3_1
    refine State.set_kept ?_
    assumption

theorem execTblDataAccess_kept {m0 : Bool} {s0 : State} {a1 : Requester} {a2 : Option Word} {s : State} (h : Kept ⟨m0, true⟩ s0 s) : OutKept ⟨m0, true⟩ s0 (execTblDataAccess a1 a2 s) := by
  unfold execTblDataAccess
  split
  · refine done_kept ?_
    refine State.gate_kept ?_ ?_
    · assumption
    · intro v0_0 v0_1
      refine State.tblData_kept ?_
      assumption
  · refine done_kept ?_
    refine State.gateRead_kept ?_ ?_
    · assumption
    · intro v1_0 v1_1
      refine State.tblData_kept ?_
      assumption

theorem State.bankCheck_kept {m0 : May} {s0 s : State} {a2 : Fin 8} {a3 : Bool} (h : Kept m0 s0 s) : Kept m0 s0 (State.bankCheck s a2 a3) := by
  unfold State.bankCheck
  refine kept_ite ?_ ?_
  · refine State.event_kept ?_
    refine State.setBit_kept ?_
    refine State.setLine_kept ?_
    assumption
  · assumption

theorem execTblCrcCheck_kept {m0 : May} {s0 : State} {a1 : BitVec 8} {s : State} (h : Kept m0 s0 s) : OutKept m0 s0 (execTblCrcCheck a1 s) := by
  unfold execTblCrcCheck
  refine outKept_ite ?_ ?_
  · refine done_kept ?_
    assumption
  · lift_lets
    intro x0
    have hx0 : Kept m0 s0 (x0) := by
      unfold x0
      refine State.each_kept ?_ ?_
      · assumption
      · intro v1_0 v1_1 v1_2
        refine State.bankCheck_kept ?_
        assumption
    clear_value x0
    refine done_kept ?_
    refine State.showTblCrc_kept ?_
    assumption

theorem State.setRc_kept {m0 : May} {s0 s : State} {a2 : Fin 4} {a3 : Repet} (h : Kept m0 s0 s) : Kept m0 s0 (State.setRc s a2 a3) := by
  unfold State.setRc
  refine kept_mk ?_
  assumption

theorem State.rcFade_kept {m0 : May} {s0 s : State} {a2 : Fin 4} (h : Kept m0 s0 s) : Kept m0 s0 (State.rcFade s a2) := by
  unfold State.rcFade
  lift_lets
  intro x0
  clear_value x0
  intro x1
  clear_value x1
  intro x2
  clear_value x2
  refine kept_ite ?_ ?_
  · assumption
  · refine State.set_kept ?_
    refine State.setRc_kept ?_
    assumption

theorem State.rcStart_kept {m0 : May} {s0 s : State} {a2 : Fin 4} (h : Kept m0 s0 s) : Kept m0 s0 (State.rcStart s a2) := by
  unfold State.rcStart
  refine kept_ite ?_ ?_
  · refine State.set_kept ?_
    refine State.set_kept ?_
    refine State.setRc_kept ?_
    assumption
  · assumption

theorem State.rcLearn_kept {m0 : May} {s0 s : State} {a2 : Fin 4} {a3 : Nat} {a4 : Int} {a5 : Nat} {a6 : Int} (h : Kept m0 s0 s) : Kept m0 s0 (State.rcLearn s a2 a3 a4 a5 a6) := by
  unfold State.rcLearn
  lift_lets
  intro x0
  clear_value x0
  intro x1
  clear_value x1
  intro x2
  clear_value x2
  intro x3
  clear_value x3
  intro x4
  clear_value x4
  intro x5
  clear_value x5
  intro x6
  clear_value x6
  refine State.setRc_kept ?_
  assumption

theorem State.rcSample_kept {m0 : May} {s0 s : State} {a2 : Fin 4} {a3 : Int} {a4 : Bool} (h : Kept m0 s0 s) : Kept m0 s0 (State.rcSample s a2 a3 a4) := by
  unfold State.rcSample
  lift_lets
  intro x0
  clear_value x0
  intro x1
  clear_value x1
  intro x2
  clear_value x2
  intro x3
  clear_value x3
  intro x4
  have hx4 : Kept m0 s0 (x4) := by
    unfold x4
    refine State.iff_kept ?_ ?_
    · assumption
    · intro v5_0 v5_1
      refine State.set_kept ?_
      assumption
  clear_value x4
  intro x6
  clear_value x6
  intro x7
  clear_value x7
  intro x8
  have hx8 : Kept m0 s0 (x8) := by
    unfold x8
    refine State.setRc_kept ?_
    assumption
  clear_value x8
  intro x9
  have hx9 : Kept m0 s0 (x9) := by
    unfold x9
    refine State.iff_kept ?_ ?_
    · assumption
    · intro v10_0 v10_1
      refine State.inc_kept ?_
      assumption
  clear_value x9
  refine kept_ite ?_ ?_
  · refine State.setRc_kept ?_
    assumption
  · refine kept_ite ?_ ?_
    · refine State.rcFade_kept ?_
      refine State.event_kept ?_
      refine State.setB_kept ?_
      assumption
    · assumption

theorem State.rcClear_kept {m0 : May} {s0 s : State} {a2 : Nat} (h : Kept m0 s0 s) : Kept m0 s0 (State.rcClear s a2) := by
  unfold State.rcClear
  refine State.each_kept ?_ ?_
  · assumption
  · intro v0_0 v0_1 v0_2
    refine kept_ite ?_ ?_
    · refine State.rcFade_kept ?_
      refine State.setB_kept ?_
      assumption
    · assumption

theorem State.rcAnew_kept {m0 : May} {s0 s : State} {a2 : Fin 4} (h : Kept m0 s0 s) : Kept m0 s0 (State.rcAnew s a2) := by
  unfold State.rcAnew
  refine State.set_kept ?_
  refine State.setRc_kept ?_
  assumption

theorem State.rcFadeEnd_kept {m0 : May} {s0 s : State} {a2 : Fin 4} (h : Kept m0 s0 s) : Kept m0 s0 (State.rcFadeEnd s a2) := by
  unfold State.rcFadeEnd
  lift_lets
  intro x0
  clear_value x0
  split
  · assumption
  · refine kept_ite ?_ ?_
    · assumption
    · refine State.set_kept ?_
      refine State.setRc_kept ?_
      assumption

theorem execRcFadeEnd_kept {m0 : May} {s0 : State} {a1 : Fin 4} {s : State} (h : Kept m0 s0 s) : OutKept m0 s0 (execRcFadeEnd a1 s) := by
  unfold execRcFadeEnd
  refine done_kept ?_
  refine State.rcFadeEnd_kept ?_
  assumption

theorem execTuneStart_kept {m0 : May} {s0 : State} {a1 : Requester} {s : State} (h : Kept m0 s0 s) : OutKept m0 s0 (execTuneStart a1 s) := by
  unfold execTuneStart
  refine done_kept ?_
  refine State.gate_kept ?_ ?_
  · assumption
  · intro v0_0 v0_1
    refine State.tuneStart_kept ?_
    assumption

theorem execTuneAbort_kept {m0 : May} {s0 : State} {a1 : Requester} {s : State} (h : Kept m0 s0 s) : OutKept m0 s0 (execTuneAbort a1 s) := by
  unfold execTuneAbort
  refine done_kept ?_
  refine State.gate_kept ?_ ?_
  · assumption
  · intro v0_0 v0_1
    refine State.tuneAbortCmd_kept ?_
    assumption

theorem execTuneApply_kept {m0 : Bool} {s0 : State} {a1 : Requester} {s : State} (h : Kept ⟨m0, true⟩ s0 s) : OutKept ⟨m0, true⟩ s0 (execTuneApply a1 s) := by
  unfold execTuneApply
  refine done_kept ?_
  refine State.gate_kept ?_ ?_
  · assumption
  · intro v0_0 v0_1
    refine State.tuneApply_kept ?_
    assumption

theorem State.tuneRepropose_kept {m0 : May} {s0 s : State} (h : Kept m0 s0 s) : Kept m0 s0 (State.tuneRepropose s) := by
  unfold State.tuneRepropose
  refine State.iff_kept ?_ ?_
  · assumption
  · intro v0_0 v0_1
    refine State.tunePropose_kept ?_
    assumption

theorem execTuneRepropose_kept {m0 : May} {s0 : State} {a1 : Requester} {s : State} (h : Kept m0 s0 s) : OutKept m0 s0 (execTuneRepropose a1 s) := by
  unfold execTuneRepropose
  refine done_kept ?_
  refine State.gate_kept ?_ ?_
  · assumption
  · intro v0_0 v0_1
    refine State.tuneRepropose_kept ?_
    assumption

theorem execRelayTimeout_kept {m0 : May} {s0 s : State} (h : Kept m0 s0 s) : OutKept m0 s0 (execRelayTimeout s) := by
  unfold execRelayTimeout
  refine outKept_ite ?_ ?_
  · refine done_kept ?_
    refine State.tuneAbort_kept ?_
    assumption
  · refine done_kept ?_
    assumption

theorem execLptTblCommit_kept {m0 : Bool} {s0 : State} {a1 : Requester} {a2 : BitVec 8} {s : State} (h : Kept ⟨m0, true⟩ s0 s) : OutKept ⟨m0, true⟩ s0 (execLptTblCommit a1 a2 s) := by
  unfold execLptTblCommit
  refine done_kept ?_
  refine State.gate_kept ?_ ?_
  · assumption
  · intro v0_0 v0_1
    refine State.tblCommit_kept ?_
    assumption

theorem execRcClear_kept {m0 : May} {s0 : State} {a1 : Requester} {a2 : BitVec 4} {s : State} (h : Kept m0 s0 s) : OutKept m0 s0 (execRcClear a1 a2 s) := by
  unfold execRcClear
  refine done_kept ?_
  refine State.gate_kept ?_ ?_
  · assumption
  · intro v0_0 v0_1
    refine State.rcClear_kept ?_
    assumption

theorem State.setPhase_kept {m0 : May} {s0 s : State} {a2 : Fin 16} {a3 : Phase} (h : Kept m0 s0 s) : Kept m0 s0 (State.setPhase s a2 a3) := by
  unfold State.setPhase
  refine kept_mk ?_
  assumption

theorem State.setGroup_kept {m0 : May} {s0 s : State} {a2 : Fin 2} {a3 : Group} (h : Kept m0 s0 s) : Kept m0 s0 (State.setGroup s a2 a3) := by
  unfold State.setGroup
  refine kept_mk ?_
  assumption

theorem State.phaseRetire_kept {m0 : May} {s0 s : State} {a2 : Fin 16} {a3 : Phase} (h : Kept m0 s0 s) : Kept m0 s0 (State.phaseRetire s a2 a3) := by
  unfold State.phaseRetire
  lift_lets
  intro x0
  clear_value x0
  intro x1
  have hx1 : Kept m0 s0 (x1) := by
    unfold x1
    refine State.setB_kept ?_
    refine State.setB_kept ?_
    refine State.setB_kept ?_
    assumption
  clear_value x1
  refine State.setPhase_kept ?_
  refine State.set_kept ?_
  refine State.set_kept ?_
  refine State.set_kept ?_
  assumption

theorem State.phaseLow_kept {m0 : May} {s0 s : State} {a2 : Fin 16} (h : Kept m0 s0 s) : Kept m0 s0 (State.phaseLow s a2) := by
  unfold State.phaseLow
  refine State.phaseRetire_kept ?_
  assumption

theorem State.phaseLost_kept {m0 : May} {s0 s : State} {a2 : Fin 16} (h : Kept m0 s0 s) : Kept m0 s0 (State.phaseLost s a2) := by
  unfold State.phaseLost
  lift_lets
  intro x0
  clear_value x0
  refine kept_ite ?_ ?_
  · refine State.phaseRetire_kept ?_
    assumption
  · refine State.phaseLow_kept ?_
    assumption

theorem State.foldWrite_kept {m0 : May} {s0 a1 s : State} (h : Kept m0 s0 s) : Kept m0 s0 (State.foldWrite a1 s) := by
  unfold State.foldWrite
  extract_lets V I
  exact kept_ite h (kept_mk h)

theorem State.reseg_kept {m0 : May} {s0 s : State} (h : Kept m0 s0 s) : Kept m0 s0 (State.reseg s) := by
  unfold State.reseg
  split
  · assumption
  · refine kept_ite ?_ ?_
    · assumption
    · refine kept_mk ?_
      assumption

theorem State.refRestart_kept {m0 : May} {s0 s : State} {a2 : Nat} (h : Kept m0 s0 s) : Kept m0 s0 (State.refRestart s a2) := by
  unfold State.refRestart
  lift_lets
  intro x0
  clear_value x0
  intro x1
  clear_value x1
  intro x2
  clear_value x2
  refine kept_mk ?_
  assumption

theorem State.refStart_kept {m0 : May} {s0 s : State} (h : Kept m0 s0 s) : Kept m0 s0 (State.refStart s) := by
  unfold State.refStart
  refine kept_mk ?_
  assumption

theorem State.unshedAll_kept {m0 : May} {s0 s : State} {a2 : Nat} (h : Kept m0 s0 s) : Kept m0 s0 (State.unshedAll s a2) := by
  unfold State.unshedAll
  refine State.each_kept ?_ ?_
  · assumption
  · intro v0_0 v0_1 v0_2
    refine State.setB_kept ?_
    assumption

theorem State.lockout_kept {m0 : May} {s0 s : State} {a2 : Fin 2} (h : Kept m0 s0 s) : Kept m0 s0 (State.lockout s a2) := by
  unfold State.lockout
  refine State.setGroup_kept ?_
  assumption

theorem State.fireCut_kept {m0 : May} {s0 s : State} {a2 : Fin 2} (h : Kept m0 s0 s) : Kept m0 s0 (State.fireCut s a2) := by
  unfold State.fireCut
  refine State.iff_kept ?_ ?_
  · assumption
  · intro v0_0 v0_1
    refine State.lockout_kept ?_
    refine State.setGroup_kept ?_
    assumption

theorem State.enterGroup_kept {m0 : May} {s0 s : State} {a2 : Fin 2} {a3 : Nat} {a4 : Nat} (h : Kept m0 s0 s) : Kept m0 s0 (State.enterGroup s a2 a3 a4) := by
  unfold State.enterGroup
  lift_lets
  intro x0
  have hx0 : Kept m0 s0 (x0) := by
    unfold x0
    refine State.set_kept ?_
    refine State.set_kept ?_
    assumption
  clear_value x0
  intro x1
  clear_value x1
  intro x2
  have hx2 : Kept m0 s0 (x2) := by
    unfold x2
    refine State.setGroup_kept ?_
    assumption
  clear_value x2
  intro x3
  have hx3 : Kept m0 s0 (x3) := by
    unfold x3
    refine kept_ite ?_ ?_
    · assumption
    · refine State.each_kept ?_ ?_
      · refine State.unshedAll_kept ?_
        refine State.fireCut_kept ?_
        assumption
      · intro v4_0 v4_1 v4_2
        refine State.phaseLow_kept ?_
        assumption
  clear_value x3
  refine State.reseg_kept ?_
  assumption

theorem State.groupFault_kept {m0 : Bool} {s0 s : State} {a2 : Fin 2} {a3 : Nat} {a4 : Nat} (h : Kept ⟨m0, true⟩ s0 s) : Kept ⟨m0, true⟩ s0 (State.groupFault s a2 a3 a4) := by
  unfold State.groupFault
  refine State.trigger_kept ?_
  refine State.event_kept ?_
  refine State.inc_kept ?_
  refine State.enterGroup_kept ?_
  assumption

theorem State.softStart_kept {m0 : May} {s0 s : State} {a2 : Fin 2} (h : Kept m0 s0 s) : Kept m0 s0 (State.softStart s a2) := by
  unfold State.softStart
  lift_lets
  intro x0
  clear_value x0
  intro x1
  have hx1 : Kept m0 s0 (x1) := by
    unfold x1
    refine State.enterGroup_kept ?_
    assumption
  clear_value x1
  refine kept_ite ?_ ?_
  · refine State.refRestart_kept ?_
    assumption
  · assumption

theorem State.groupCheck_kept {m0 : Bool} {s0 s : State} {a2 : Fin 2} (h : Kept ⟨m0, true⟩ s0 s) : Kept ⟨m0, true⟩ s0 (State.groupCheck s a2) := by
  unfold State.groupCheck
  lift_lets
  intro x0
  clear_value x0
  refine kept_ite ?_ ?_
  · refine State.enterGroup_kept ?_
    assumption
  · refine kept_ite ?_ ?_
    · refine State.groupFault_kept ?_
      assumption
    · assumption

theorem State.phaseFault_kept {m0 : Bool} {s0 s : State} {a2 : Fin 16} {a3 : Nat} (h : Kept ⟨m0, true⟩ s0 s) : Kept ⟨m0, true⟩ s0 (State.phaseFault s a2 a3) := by
  unfold State.phaseFault
  refine kept_ite ?_ ?_
  · assumption
  · refine kept_ite ?_ ?_
    · assumption
    · lift_lets
      intro x0
      have hx0 : Kept ⟨m0, true⟩ s0 (x0) := by
        unfold x0
        refine State.setB_kept ?_
        refine State.setB_kept ?_
        refine State.phaseLow_kept ?_
        assumption
      clear_value x0
      intro x1
      have hx1 : Kept ⟨m0, true⟩ s0 (x1) := by
        unfold x1
        refine State.trigger_kept ?_
        refine State.event_kept ?_
        refine State.set_kept ?_
        assumption
      clear_value x1
      intro x2
      have hx2 : Kept ⟨m0, true⟩ s0 (x2) := by
        unfold x2
        refine State.iff_kept ?_ ?_
        · assumption
        · intro v3_0 v3_1
          refine State.detect_kept ?_
          assumption
      clear_value x2
      refine State.groupCheck_kept ?_
      assumption

theorem State.shedJudge_kept {m0 : May} {s0 s : State} {a2 : Fin 2} (h : Kept m0 s0 s) : Kept m0 s0 (State.shedJudge s a2) := by
  unfold State.shedJudge
  lift_lets
  intro x0
  clear_value x0
  refine kept_ite ?_ ?_
  · refine State.setGroup_kept ?_
    assumption
  · refine State.setGroup_kept ?_
    assumption

theorem State.writeDemand_kept {m0 : May} {s0 s : State} {a2 : Fin 2} {a3 : Int} (h : Kept m0 s0 s) : Kept m0 s0 (State.writeDemand s a2 a3) := by
  unfold State.writeDemand
  refine State.shedJudge_kept ?_
  refine State.setI_kept ?_
  assumption

theorem execShedWindowExpiry_kept {m0 : May} {s0 : State} {a1 : Fin 2} {s : State} (h : Kept m0 s0 s) : OutKept m0 s0 (execShedWindowExpiry a1 s) := by
  unfold execShedWindowExpiry
  lift_lets
  intro x0
  clear_value x0
  intro x1
  have hx1 : Kept m0 s0 (x1) := by
    unfold x1
    refine State.setGroup_kept ?_
    assumption
  clear_value x1
  split
  · refine done_kept ?_
    assumption
  · refine outKept_ite ?_ ?_
    · refine outKept_ite ?_ ?_
      · refine done_kept ?_
        assumption
      · split
        · refine done_kept ?_
          assumption
        · refine done_kept ?_
          refine State.setB_kept ?_
          refine State.phaseLow_kept ?_
          assumption
    · refine done_kept ?_
      assumption

theorem execPhaseUnshed_kept {m0 : May} {s0 : State} {a1 : Fin 2} {s : State} (h : Kept m0 s0 s) : OutKept m0 s0 (execPhaseUnshed a1 s) := by
  unfold execPhaseUnshed
  lift_lets
  intro x0
  clear_value x0
  intro x1
  clear_value x1
  refine outKept_ite ?_ ?_
  · split
    · refine done_kept ?_
      assumption
    · refine done_kept ?_
      refine State.setGroup_kept ?_
      refine State.setB_kept ?_
      assumption
  · refine done_kept ?_
    assumption

theorem State.deExit_kept {m0 : May} {s0 s : State} {a2 : Fin 16} (h : Kept m0 s0 s) : Kept m0 s0 (State.deExit s a2) := by
  unfold State.deExit
  refine State.setPhase_kept ?_
  refine State.setB_kept ?_
  assumption

theorem State.deCheck_kept {m0 : May} {s0 s : State} (h : Kept m0 s0 s) : Kept m0 s0 (State.deCheck s) := by
  unfold State.deCheck
  refine State.each_kept ?_ ?_
  · assumption
  · intro v0_0 v0_1 v0_2
    refine State.deExit_kept ?_
    assumption

theorem execDeEnter_kept {m0 : May} {s0 : State} {a1 : Fin 16} {s : State} (h : Kept m0 s0 s) : OutKept m0 s0 (execDeEnter a1 s) := by
  unfold execDeEnter
  refine outKept_ite ?_ ?_
  · refine done_kept ?_
    refine State.setB_kept ?_
    assumption
  · refine done_kept ?_
    assumption

theorem State.cycleEnd_kept {m0 : May} {s0 s : State} {a2 : Fin 16} {a3 : Int} {a4 : Nat} (h : Kept m0 s0 s) : Kept m0 s0 (State.cycleEnd s a2 a3 a4) := by
  unfold State.cycleEnd
  lift_lets
  intro x0
  clear_value x0
  split
  · assumption
  · refine kept_ite ?_ ?_
    · refine State.setPhase_kept ?_
      assumption
    · refine State.setPhase_kept ?_
      assumption

theorem State.deJudge_kept {m0 : May} {s0 s : State} {a2 : Fin 16} (h : Kept m0 s0 s) : Kept m0 s0 (State.deJudge s a2) := by
  unfold State.deJudge
  lift_lets
  intro x0
  clear_value x0
  intro x1
  clear_value x1
  intro x2
  have hx2 : Kept m0 s0 (x2) := by
    unfold x2
    refine State.setPhase_kept ?_
    assumption
  clear_value x2
  refine kept_ite ?_ ?_
  · refine State.deExit_kept ?_
    assumption
  · assumption

theorem State.onTime_kept {m0 : May} {s0 s : State} {a2 : Fin 16} {a3 : Int} {a4 : Nat} {a5 : Bool} {a6 : Int} (h : Kept m0 s0 s) : Kept m0 s0 (State.onTime s a2 a3 a4 a5 a6) := by
  unfold State.onTime
  lift_lets
  intro x0
  clear_value x0
  intro x1
  have hx1 : Kept m0 s0 (x1) := by
    unfold x1
    refine State.set_kept ?_
    assumption
  clear_value x1
  intro x2
  clear_value x2
  refine State.setPhase_kept ?_
  assumption

theorem State.phaseEdge_kept {m0 : May} {s0 s : State} {a2 : Fin 16} {a3 : Int} (h : Kept m0 s0 s) : Kept m0 s0 (State.phaseEdge s a2 a3) := by
  unfold State.phaseEdge
  lift_lets
  intro x0
  clear_value x0
  split
  · refine kept_ite ?_ ?_
    · refine State.setPhase_kept ?_
      assumption
    · assumption
  · assumption

theorem State.onEnd_kept {m0 : May} {s0 s : State} {a2 : Fin 16} {a3 : Nat} (h : Kept m0 s0 s) : Kept m0 s0 (State.onEnd s a2 a3) := by
  unfold State.onEnd
  lift_lets
  intro x0
  clear_value x0
  intro x1
  clear_value x1
  intro x2
  have hx2 : Kept m0 s0 (x2) := by
    unfold x2
    refine State.iff_kept ?_ ?_
    · refine State.set_kept ?_
      refine State.set_kept ?_
      assumption
    · intro v3_0 v3_1
      refine State.incWrap_kept ?_
      assumption
  clear_value x2
  intro x4
  have hx4 : Kept m0 s0 (x4) := by
    unfold x4
    refine State.iff_kept ?_ ?_
    · assumption
    · intro v5_0 v5_1
      refine State.set_kept ?_
      assumption
  clear_value x4
  intro x6
  clear_value x6
  refine State.setPhase_kept ?_
  assumption

theorem State.phaseTo_kept {m0 : May} {s0 s : State} {a2 : Fin 16} {a3 : Int} (h : Kept m0 s0 s) : Kept m0 s0 (State.phaseTo s a2 a3) := by
  unfold State.phaseTo
  lift_lets
  intro x0
  have hx0 : Kept m0 s0 (x0) := by
    unfold x0
    refine State.phaseEdge_kept ?_
    assumption
  clear_value x0
  split
  · refine kept_ite ?_ ?_
    · refine State.phaseEdge_kept ?_
      refine State.onEnd_kept ?_
      assumption
    · assumption
  · assumption

theorem State.readback_kept {m0 : Bool} {s0 s : State} {a2 : Fin 16} {a3 : Bool × Bool} (h : Kept ⟨m0, true⟩ s0 s) : Kept ⟨m0, true⟩ s0 (State.readback s a2 a3) := by
  unfold State.readback
  lift_lets
  intro x0
  clear_value x0
  intro x1
  clear_value x1
  intro x2
  have hx2 : Kept ⟨m0, true⟩ s0 (x2) := by
    unfold x2
    refine State.setPhase_kept ?_
    assumption
  clear_value x2
  refine kept_ite ?_ ?_
  · refine State.settle_kept ?_
    refine State.phaseFault_kept ?_
    assumption
  · refine kept_ite ?_ ?_
    · refine State.settle_kept ?_
      refine State.phaseFault_kept ?_
      assumption
    · assumption

theorem State.cycleStart_kept {m0 : May} {s0 s : State} {a2 : Fin 16} {a3 : Int} {a4 : Bool} (h : Kept m0 s0 s) : Kept m0 s0 (State.cycleStart s a2 a3 a4) := by
  unfold State.cycleStart
  lift_lets
  intro x0
  clear_value x0
  intro x1
  clear_value x1
  intro x2
  clear_value x2
  intro x3
  have hx3 : Kept m0 s0 (x3) := by
    unfold x3
    refine State.iff_kept ?_ ?_
    · refine State.setB_kept ?_
      assumption
    · intro v4_0 v4_1
      refine State.setPhase_kept ?_
      assumption
  clear_value x3
  intro x5
  clear_value x5
  intro x6
  clear_value x6
  intro x7
  have hx7 : Kept m0 s0 (x7) := by
    unfold x7
    refine State.set_kept ?_
    refine State.set_kept ?_
    refine State.set_kept ?_
    assumption
  clear_value x7
  intro x8
  clear_value x8
  intro x9
  have hx9 : Kept m0 s0 (x9) := by
    unfold x9
    refine State.setPhase_kept ?_
    assumption
  clear_value x9
  intro x10
  clear_value x10
  intro x11
  have hx11 : Kept m0 s0 (x11) := by
    unfold x11
    refine State.set_kept ?_
    refine State.set_kept ?_
    assumption
  clear_value x11
  intro x12
  clear_value x12
  intro x13
  have hx13 : Kept m0 s0 (x13) := by
    unfold x13
    refine State.setPhase_kept ?_
    assumption
  clear_value x13
  intro x14
  have hx14 : Kept m0 s0 (x14) := by
    unfold x14
    refine State.deJudge_kept ?_
    refine State.setB_kept ?_
    assumption
  clear_value x14
  intro x15
  clear_value x15
  intro x16
  clear_value x16
  intro x17
  clear_value x17
  refine kept_ite ?_ ?_
  · refine State.onTime_kept ?_
    assumption
  · refine kept_ite ?_ ?_
    · refine State.setPhase_kept ?_
      refine State.incWrap_kept ?_
      assumption
    · refine State.onTime_kept ?_
      assumption

theorem execPhaseCycleStart_kept {m0 : Bool} {s0 : State} {a1 : Fin 16} {a2 : Fin 50} {a3 : Fin 308} {a4 : Int} {a5 : Nat} {a6 : Bool} {a7 : Twice Bool} {s : State} (h : Kept ⟨m0, true⟩ s0 s) : OutKept ⟨m0, true⟩ s0 (execPhaseCycleStart a1 a2 a3 a4 a5 a6 a7 s) := by
  unfold execPhaseCycleStart
  lift_lets
  intro x0
  clear_value x0
  intro x1
  have hx1 : Kept ⟨m0, true⟩ s0 (x1) := by
    unfold x1
    refine State.phaseTo_kept ?_
    assumption
  clear_value x1
  intro x2
  clear_value x2
  intro x3
  have hx3 : Kept ⟨m0, true⟩ s0 (x3) := by
    unfold x3
    refine State.setB_kept ?_
    assumption
  clear_value x3
  intro x4
  clear_value x4
  intro x5
  clear_value x5
  refine outKept_ite ?_ ?_
  · refine done_kept ?_
    refine State.readback_kept ?_
    refine State.cycleStart_kept ?_
    refine State.cycleEnd_kept ?_
    assumption
  · refine done_kept ?_
    assumption

theorem execPeakComparatorTrip_kept {m0 : Bool} {s0 : State} {a1 : Fin 16} {a2 : Nat} {a3 : Twice Bool} {s : State} (h : Kept ⟨m0, true⟩ s0 s) : OutKept ⟨m0, true⟩ s0 (execPeakComparatorTrip a1 a2 a3 s) := by
  unfold execPeakComparatorTrip
  lift_lets
  intro x0
  clear_value x0
  split
  · refine done_kept ?_
    refine State.readback_kept ?_
    refine State.onEnd_kept ?_
    assumption
  · refine outKept_ite ?_ ?_
    · refine done_kept ?_
      refine State.readback_kept ?_
      refine State.setPhase_kept ?_
      assumption
    · refine done_kept ?_
      assumption

theorem State.overJudge_kept {m0 : Bool} {s0 s : State} {a2 : Fin 16} (h : Kept ⟨m0, true⟩ s0 s) : Kept ⟨m0, true⟩ s0 (State.overJudge s a2) := by
  unfold State.overJudge
  lift_lets
  intro x0
  clear_value x0
  intro x1
  clear_value x1
  refine kept_ite ?_ ?_
  · refine State.settle_kept ?_
    refine State.phaseFault_kept ?_
    assumption
  · refine State.setPhase_kept ?_
    assumption

theorem State.phasesTick_kept {m0 : Bool} {s0 s : State} (h : Kept ⟨m0, true⟩ s0 s) : Kept ⟨m0, true⟩ s0 (State.phasesTick s) := by
  unfold State.phasesTick
  lift_lets
  intro x0
  have hx0 : Kept ⟨m0, true⟩ s0 (x0) := by
    unfold x0
    refine State.each_kept ?_ ?_
    · assumption
    · intro v1_0 v1_1 v1_2
      refine State.phaseTo_kept ?_
      assumption
  clear_value x0
  refine State.each_kept ?_ ?_
  · assumption
  · intro v2_0 v2_1 v2_2
    refine State.overJudge_kept ?_
    assumption

theorem execDpwmRecal_kept {m0 : May} {s0 : State} {a1 : Nat} {s : State} (h : Kept m0 s0 s) : OutKept m0 s0 (execDpwmRecal a1 s) := by
  unfold execDpwmRecal
  refine outKept_ite ?_ ?_
  · refine done_kept ?_
    assumption
  · refine outKept_ite ?_ ?_
    · refine done_kept ?_
      lift_lets
      intro x0
      have hx0 : Kept m0 s0 (x0) := by
        unfold x0
        refine State.setB_kept ?_
        refine State.set_kept ?_
        assumption
      clear_value x0
      intro x1
      clear_value x1
      refine kept_mk ?_
      assumption
    · refine done_kept ?_
      refine State.setB_kept ?_
      assumption

theorem execPwmPeriodApply_kept {m0 : May} {s0 s : State} (h : Kept m0 s0 s) : OutKept m0 s0 (execPwmPeriodApply s) := by
  unfold execPwmPeriodApply
  refine outKept_ite ?_ ?_
  · refine done_kept ?_
    refine kept_mk ?_
    assumption
  · refine done_kept ?_
    assumption

theorem State.slewLost_kept {m0 : May} {s0 s : State} {a2 : Nat} (h : Kept m0 s0 s) : Kept m0 s0 (State.slewLost s a2) := by
  unfold State.slewLost
  refine State.event_kept ?_
  refine State.inc_kept ?_
  refine State.set_kept ?_
  assumption

theorem State.slewCmd_kept {m0 : May} {s0 s : State} {a2 : Requester} {a3 : Word} (h : Kept m0 s0 s) : Kept m0 s0 (State.slewCmd s a2 a3) := by
  unfold State.slewCmd
  lift_lets
  intro x0
  clear_value x0
  intro x1
  clear_value x1
  intro x2
  clear_value x2
  intro x3
  have hx3 : Kept m0 s0 (x3) := by
    unfold x3
    refine State.iff_kept ?_ ?_
    · refine State.noteWrite_kept ?_
      assumption
    · intro v4_0 v4_1
      refine State.slewLost_kept ?_
      assumption
  clear_value x3
  intro x5
  have hx5 : Kept m0 s0 (x5) := by
    unfold x5
    refine State.setB_kept ?_
    refine State.set_kept ?_
    refine State.setI_kept ?_
    assumption
  clear_value x5
  intro x6
  have hx6 : Kept m0 s0 (x6) := by
    unfold x6
    refine State.setB_kept ?_
    assumption
  clear_value x6
  intro x7
  clear_value x7
  intro x8
  have hx8 : Kept m0 s0 (x8) := by
    unfold x8
    refine kept_mk ?_
    assumption
  clear_value x8
  intro x9
  clear_value x9
  refine kept_ite ?_ ?_
  · refine State.event_kept ?_
    refine State.setB_kept ?_
    assumption
  · refine kept_ite ?_ ?_
    · refine State.slewLost_kept ?_
      assumption
    · split
      · assumption
      · refine kept_mk ?_
        assumption

theorem execSlew_kept {m0 : May} {s0 : State} {a1 : Requester} {a2 : Word} {s : State} (h : Kept m0 s0 s) : OutKept m0 s0 (execSlew a1 a2 s) := by
  unfold execSlew
  refine done_kept ?_
  refine State.gate_kept ?_ ?_
  · assumption
  · intro v0_0 v0_1
    refine State.slewCmd_kept ?_
    assumption

theorem State.slewDone_kept {m0 : May} {s0 s : State} (h : Kept m0 s0 s) : Kept m0 s0 (State.slewDone s) := by
  unfold State.slewDone
  split
  · refine kept_ite ?_ ?_
    · lift_lets
      intro x0
      clear_value x0
      intro x1
      have hx1 : Kept m0 s0 (x1) := by
        unfold x1
        refine kept_mk ?_
        assumption
      clear_value x1
      intro x2
      have hx2 : Kept m0 s0 (x2) := by
        unfold x2
        refine State.inc_kept ?_
        refine State.set_kept ?_
        assumption
      clear_value x2
      refine State.reseg_kept ?_
      refine State.event_kept ?_
      refine State.setB_kept ?_
      assumption
    · assumption
  · assumption

theorem execSlewComplete_kept {m0 : May} {s0 s : State} (h : Kept m0 s0 s) : OutKept m0 s0 (execSlewComplete s) := by
  unfold execSlewComplete
  refine done_kept ?_
  refine State.slewDone_kept ?_
  assumption

theorem execReferenceReachesTarget_kept {m0 : May} {s0 s : State} (h : Kept m0 s0 s) : OutKept m0 s0 (execReferenceReachesTarget s) := by
  unfold execReferenceReachesTarget
  refine outKept_ite ?_ ?_
  · refine done_kept ?_
    refine State.each_kept ?_ ?_
    · assumption
    · intro v0_0 v0_1 v0_2
      refine kept_ite ?_ ?_
      · refine State.enterGroup_kept ?_
        assumption
      · assumption
  · refine done_kept ?_
    assumption

theorem State.slopeNote_kept {m0 : May} {s0 s : State} {a2 : Fin 2} {a3 : Option Swing} (h : Kept m0 s0 s) : Kept m0 s0 (State.slopeNote s a2 a3) := by
  unfold State.slopeNote
  split
  · refine State.iff_kept ?_ ?_
    · assumption
    · intro v0_0 v0_1
      refine State.setGroup_kept ?_
      assumption
  · assumption

theorem State.fireRecord_kept {m0 : Bool} {s0 s : State} {a2 : Fin 2} {a3 : Nat} {a4 : Fin 14} (h : Kept ⟨m0, true⟩ s0 s) : Kept ⟨m0, true⟩ s0 (State.fireRecord s a2 a3 a4) := by
  unfold State.fireRecord
  lift_lets
  intro x0
  clear_value x0
  intro x1
  have hx1 : Kept ⟨m0, true⟩ s0 (x1) := by
    unfold x1
    refine State.stamp_kept ?_
    refine State.set_kept ?_
    refine State.inc_kept ?_
    assumption
  clear_value x1
  intro x2
  have hx2 : Kept ⟨m0, true⟩ s0 (x2) := by
    unfold x2
    refine State.event_kept ?_
    refine State.set_kept ?_
    refine State.set_kept ?_
    assumption
  clear_value x2
  refine State.triggerAt_kept ?_
  assumption

theorem State.fire_kept {m0 : Bool} {s0 s : State} {a2 : Fin 2} {a3 : Nat} {a4 : Fin 14} (h : Kept ⟨m0, true⟩ s0 s) : Kept ⟨m0, true⟩ s0 (State.fire s a2 a3 a4) := by
  unfold State.fire
  lift_lets
  intro x0
  clear_value x0
  intro x1
  clear_value x1
  intro x2
  have hx2 : Kept ⟨m0, true⟩ s0 (x2) := by
    unfold x2
    refine State.setGroup_kept ?_
    assumption
  clear_value x2
  intro x3
  have hx3 : Kept ⟨m0, true⟩ s0 (x3) := by
    unfold x3
    refine State.each_kept ?_ ?_
    · assumption
    · intro v4_0 v4_1 v4_2
      lift_lets
      intro x5
      clear_value x5
      intro x6
      have hx6 : Kept ⟨m0, true⟩ s0 (x6) := by
        unfold x6
        refine State.setB_kept ?_
        refine State.setB_kept ?_
        refine State.setB_kept ?_
        assumption
      clear_value x6
      intro x7
      have hx7 : Kept ⟨m0, true⟩ s0 (x7) := by
        unfold x7
        refine State.set_kept ?_
        refine State.setB_kept ?_
        assumption
      clear_value x7
      intro x8
      clear_value x8
      intro x9
      have hx9 : Kept ⟨m0, true⟩ s0 (x9) := by
        unfold x9
        refine State.setPhase_kept ?_
        assumption
      clear_value x9
      refine State.onTime_kept ?_
      assumption
  clear_value x3
  refine State.fireRecord_kept ?_
  assumption

theorem execFireEnd_kept {m0 : May} {s0 : State} {a1 : Fin 2} {a2 : Int} {s : State} (h : Kept m0 s0 s) : OutKept m0 s0 (execFireEnd a1 a2 s) := by
  unfold execFireEnd
  lift_lets
  intro x0
  have hx0 : Kept m0 s0 (x0) := by
    unfold x0
    refine State.each_kept ?_ ?_
    · assumption
    · intro v1_0 v1_1 v1_2
      refine State.phaseTo_kept ?_
      assumption
  clear_value x0
  intro x2
  clear_value x2
  intro x3
  have hx3 : Kept m0 s0 (x3) := by
    unfold x3
    refine State.each_kept ?_ ?_
    · assumption
    · intro v4_0 v4_1 v4_2
      refine State.setB_kept ?_
      assumption
  clear_value x3
  intro x5
  clear_value x5
  refine outKept_ite ?_ ?_
  · refine done_kept ?_
    refine State.lockout_kept ?_
    refine State.setGroup_kept ?_
    assumption
  · refine done_kept ?_
    assumption

theorem execFloorHoldEnd_kept {m0 : May} {s0 : State} {a1 : Fin 2} {s : State} (h : Kept m0 s0 s) : OutKept m0 s0 (execFloorHoldEnd a1 s) := by
  unfold execFloorHoldEnd
  lift_lets
  intro x0
  clear_value x0
  split
  · refine outKept_ite ?_ ?_
    · refine done_kept ?_
      refine State.setGroup_kept ?_
      assumption
    · refine done_kept ?_
      assumption
  · refine done_kept ?_
    assumption

theorem execFloorRampEnd_kept {m0 : May} {s0 : State} {a1 : Fin 2} {s : State} (h : Kept m0 s0 s) : OutKept m0 s0 (execFloorRampEnd a1 s) := by
  unfold execFloorRampEnd
  lift_lets
  intro x0
  clear_value x0
  split
  · refine outKept_ite ?_ ?_
    · refine done_kept ?_
      refine State.setGroup_kept ?_
      assumption
    · refine done_kept ?_
      assumption
  · refine done_kept ?_
    assumption

theorem execAllfireLockoutEnd_kept {m0 : May} {s0 : State} {a1 : Fin 2} {s : State} (h : Kept m0 s0 s) : OutKept m0 s0 (execAllfireLockoutEnd a1 s) := by
  unfold execAllfireLockoutEnd
  lift_lets
  intro x0
  clear_value x0
  refine outKept_ite ?_ ?_
  · refine done_kept ?_
    refine State.setGroup_kept ?_
    assumption
  · refine done_kept ?_
    assumption

theorem State.shevLine_kept {m0 : May} {s0 s : State} {a2 : Fin 4} (h : Kept m0 s0 s) : Kept m0 s0 (State.shevLine s a2) := by
  unfold State.shevLine
  lift_lets
  intro x0
  clear_value x0
  intro x1
  clear_value x1
  intro x2
  clear_value x2
  intro x3
  clear_value x3
  intro x4
  have hx4 : Kept m0 s0 (x4) := by
    unfold x4
    refine kept_mk ?_
    assumption
  clear_value x4
  split
  · assumption
  · refine kept_ite ?_ ?_
    · refine State.setBit_kept ?_
      assumption
    · refine kept_ite ?_ ?_
      · refine State.setBit_kept ?_
        assumption
      · assumption

theorem State.shevJudge_kept {m0 : May} {s0 s : State} (h : Kept m0 s0 s) : Kept m0 s0 (State.shevJudge s) := by
  unfold State.shevJudge
  refine State.each_kept ?_ ?_
  · assumption
  · intro v0_0 v0_1 v0_2
    refine State.shevLine_kept ?_
    assumption

theorem State.shevBall_kept {m0 : May} {s0 s : State} {a2 : Fin 4} {a3 : Bool} (h : Kept m0 s0 s) : Kept m0 s0 (State.shevBall s a2 a3) := by
  unfold State.shevBall
  refine kept_mk ?_
  assumption

theorem State.groupsOff_kept {m0 : May} {s0 s : State} (h : Kept m0 s0 s) : Kept m0 s0 (State.groupsOff s) := by
  unfold State.groupsOff
  refine State.each_kept ?_ ?_
  · assumption
  · intro v0_0 v0_1 v0_2
    refine kept_ite ?_ ?_
    · refine State.each_kept ?_ ?_
      · assumption
      · intro v1_0 v1_1 v1_2
        refine State.phaseLow_kept ?_
        assumption
    · refine State.enterGroup_kept ?_
      assumption

theorem State.continuous_kept {m0 : May} {s0 s : State} (h : Kept m0 s0 s) : Kept m0 s0 (State.continuous s) := by
  unfold State.continuous
  lift_lets
  intro x0
  have hx0 : Kept m0 s0 (x0) := by
    unfold x0
    refine State.unshedAll_kept ?_
    refine State.unshedAll_kept ?_
    assumption
  clear_value x0
  refine State.each_kept ?_ ?_
  · assumption
  · intro v1_0 v1_1 v1_2
    refine State.deExit_kept ?_
    assumption

theorem State.rampStart_kept {m0 : May} {s0 s : State} (h : Kept m0 s0 s) : Kept m0 s0 (State.rampStart s) := by
  unfold State.rampStart
  lift_lets
  intro x0
  have hx0 : Kept m0 s0 (x0) := by
    unfold x0
    refine State.each_kept ?_ ?_
    · assumption
    · intro v1_0 v1_1 v1_2
      lift_lets
      intro x2
      clear_value x2
      refine State.setGroup_kept ?_
      assumption
  clear_value x0
  intro x3
  clear_value x3
  refine kept_mk ?_
  assumption

theorem State.convEnter_kept {m0 : May} {s0 s : State} {a2 : PowerState} (h : Kept m0 s0 s) : Kept m0 s0 (State.convEnter s a2) := by
  unfold State.convEnter
  lift_lets
  intro x0
  have hx0 : Kept m0 s0 (x0) := by
    unfold x0
    refine kept_ite ?_ ?_
    · assumption
    · refine State.continuous_kept ?_
      assumption
  clear_value x0
  intro x1
  clear_value x1
  intro x2
  have hx2 : Kept m0 s0 (x2) := by
    unfold x2
    refine kept_ite ?_ ?_
    · refine State.rampStart_kept ?_
      assumption
    · refine kept_mk ?_
      assumption
  clear_value x2
  intro x3
  have hx3 : Kept m0 s0 (x3) := by
    unfold x3
    split
    · refine State.groupsOff_kept ?_
      assumption
    · refine State.groupsOff_kept ?_
      assumption
    · refine State.groupsOff_kept ?_
      assumption
    · assumption
  clear_value x3
  intro x4
  have hx4 : Kept m0 s0 (x4) := by
    unfold x4
    refine State.iff_kept ?_ ?_
    · assumption
    · intro v5_0 v5_1
      lift_lets
      intro x6
      clear_value x6
      refine kept_mk ?_
      assumption
  clear_value x4
  refine State.reseg_kept ?_
  assumption

theorem State.shortTick_kept {m0 : May} {s0 s : State} (h : Kept m0 s0 s) : Kept m0 s0 (State.shortTick s) := by
  unfold State.shortTick
  refine State.each_kept ?_ ?_
  · assumption
  · intro v0_0 v0_1 v0_2
    lift_lets
    intro x1
    clear_value x1
    refine State.setGroup_kept ?_
    assumption

theorem execShortDetect_kept {m0 : Bool} {s0 : State} {a1 : Fin 2} {s : State} (h : Kept ⟨m0, true⟩ s0 s) : OutKept ⟨m0, true⟩ s0 (execShortDetect a1 s) := by
  unfold execShortDetect
  refine outKept_ite ?_ ?_
  · lift_lets
    intro x0
    clear_value x0
    refine done_kept ?_
    refine State.settle_kept ?_
    refine State.groupFault_kept ?_
    assumption
  · refine done_kept ?_
    assumption

theorem execGroupRetryExpiry_kept {m0 : May} {s0 : State} {a1 : Fin 2} {s : State} (h : Kept m0 s0 s) : OutKept m0 s0 (execGroupRetryExpiry a1 s) := by
  unfold execGroupRetryExpiry
  refine outKept_ite ?_ ?_
  · refine done_kept ?_
    refine State.settle_kept ?_
    refine State.inc_kept ?_
    refine State.softStart_kept ?_
    assumption
  · refine done_kept ?_
    assumption

theorem execGroupRetryReset_kept {m0 : May} {s0 : State} {a1 : Fin 2} {s : State} (h : Kept m0 s0 s) : OutKept m0 s0 (execGroupRetryReset a1 s) := by
  unfold execGroupRetryReset
  refine outKept_ite ?_ ?_
  · refine done_kept ?_
    refine State.setGroup_kept ?_
    refine State.set_kept ?_
    assumption
  · refine done_kept ?_
    assumption

theorem State.clearGroup_kept {m0 : May} {s0 s : State} {a2 : Fin 2} (h : Kept m0 s0 s) : Kept m0 s0 (State.clearGroup s a2) := by
  unfold State.clearGroup
  lift_lets
  intro x0
  have hx0 : Kept m0 s0 (x0) := by
    unfold x0
    refine State.each_kept ?_ ?_
    · assumption
    · intro v1_0 v1_1 v1_2
      refine State.set_kept ?_
      refine State.setB_kept ?_
      assumption
  clear_value x0
  refine kept_ite ?_ ?_
  · refine State.enterGroup_kept ?_
    refine State.set_kept ?_
    assumption
  · assumption

theorem execClearG_kept {m0 : May} {s0 : State} {a1 : Requester} {a2 : Fin 2} {s : State} (h : Kept m0 s0 s) : OutKept m0 s0 (execClearG a1 a2 s) := by
  unfold execClearG
  refine done_kept ?_
  refine State.gate_kept ?_ ?_
  · assumption
  · intro v0_0 v0_1
    refine State.settle_kept ?_
    refine State.clearGroup_kept ?_
    assumption

theorem execGroupSoftstart_kept {m0 : May} {s0 : State} {a1 : Fin 2} {s : State} (h : Kept m0 s0 s) : OutKept m0 s0 (execGroupSoftstart a1 s) := by
  unfold execGroupSoftstart
  refine outKept_ite ?_ ?_
  · refine done_kept ?_
    refine State.softStart_kept ?_
    assumption
  · refine done_kept ?_
    assumption

theorem State.setEnt_kept {m0 : Bool} {s0 s : State} {a2 : Nat} {a3 : Nat} {a4 : Nat} {a5 : Nat} (h : Kept ⟨m0, true⟩ s0 s) : Kept ⟨m0, true⟩ s0 (State.setEnt s a2 a3 a4 a5) := by
  unfold State.setEnt
  refine State.setBytes_kept ?_
  assumption

theorem State.incEnt_kept {m0 : Bool} {s0 s : State} {a2 : Nat} {a3 : Nat} {a4 : Nat} (h : Kept ⟨m0, true⟩ s0 s) : Kept ⟨m0, true⟩ s0 (State.incEnt s a2 a3 a4) := by
  unfold State.incEnt
  refine State.setEnt_kept ?_
  assumption

theorem State.setEntFlag_kept {m0 : Bool} {s0 s : State} {a2 : Nat} {a3 : Nat} {a4 : Bool} (h : Kept ⟨m0, true⟩ s0 s) : Kept ⟨m0, true⟩ s0 (State.setEntFlag s a2 a3 a4) := by
  unfold State.setEntFlag
  lift_lets
  intro x0
  clear_value x0
  refine State.setEnt_kept ?_
  assumption

theorem State.setEntAux_kept {m0 : May} {s0 s : State} {a2 : Nat} {a3 : EntryAux} (h : Kept m0 s0 s) : Kept m0 s0 (State.setEntAux s a2 a3) := by
  unfold State.setEntAux
  refine kept_mk ?_
  assumption

theorem State.setChan_kept {m0 : May} {s0 s : State} {a2 : Fin 16} {a3 : Chan} (h : Kept m0 s0 s) : Kept m0 s0 (State.setChan s a2 a3) := by
  unfold State.setChan
  refine kept_mk ?_
  assumption

theorem State.setReqs_kept {m0 : May} {s0 s : State} {a2 : List Req} (h : Kept m0 s0 s) : Kept m0 s0 (State.setReqs s a2) := by
  unfold State.setReqs
  refine kept_mk ?_
  assumption

theorem State.onReq_kept {m0 : May} {s0 s : State} {a2 : Nat} {a3 : Req → Req} (h : Kept m0 s0 s) : Kept m0 s0 (State.onReq s a2 a3) := by
  unfold State.onReq
  refine State.setReqs_kept ?_
  assumption

theorem State.dropReq_kept {m0 : May} {s0 s : State} {a2 : Nat} (h : Kept m0 s0 s) : Kept m0 s0 (State.dropReq s a2) := by
  unfold State.dropReq
  refine State.setReqs_kept ?_
  assumption

theorem State.hostReturn_kept {m0 : May} {s0 s : State} {a2 : Src} {a3 : BusResult} (h : Kept m0 s0 s) : Kept m0 s0 (State.hostReturn s a2 a3) := by
  unfold State.hostReturn
  lift_lets
  intro x0
  have hx0 : Kept m0 s0 (x0) := by
    unfold x0
    refine State.set_kept ?_
    refine State.set_kept ?_
    assumption
  clear_value x0
  intro x1
  have hx1 : Kept m0 s0 (x1) := by
    unfold x1
    refine State.stamp_kept ?_
    refine State.setB_kept ?_
    assumption
  clear_value x1
  refine kept_ite ?_ ?_
  · assumption
  · refine State.each_kept ?_ ?_
    · assumption
    · intro v2_0 v2_1 v2_2
      refine kept_ite ?_ ?_
      · refine State.set_kept ?_
        assumption
      · assumption

theorem State.returnCode_kept {m0 : May} {s0 s : State} {a2 : Req} {a3 : Nat} (h : Kept m0 s0 s) : Kept m0 s0 (State.returnCode s a2 a3) := by
  unfold State.returnCode
  split
  · refine State.hostReturn_kept ?_
    assumption
  · assumption

theorem State.noteError_kept {m0 : May} {s0 s : State} {a2 : Fin 16} {a3 : Req} {a4 : BusResult} (h : Kept m0 s0 s) : Kept m0 s0 (State.noteError s a2 a3 a4) := by
  unfold State.noteError
  lift_lets
  intro x0
  clear_value x0
  intro x1
  have hx1 : Kept m0 s0 (x1) := by
    unfold x1
    refine State.stamp_kept ?_
    refine State.inc_kept ?_
    refine State.set_kept ?_
    assumption
  clear_value x1
  intro x2
  have hx2 : Kept m0 s0 (x2) := by
    unfold x2
    refine State.set_kept ?_
    refine State.set_kept ?_
    assumption
  clear_value x2
  intro x3
  have hx3 : Kept m0 s0 (x3) := by
    unfold x3
    refine State.set_kept ?_
    assumption
  clear_value x3
  refine kept_ite ?_ ?_
  · assumption
  · split
    · refine State.inc_kept ?_
      assumption
    · refine State.inc_kept ?_
      assumption
    · refine State.inc_kept ?_
      assumption
    · refine State.inc_kept ?_
      assumption
    · refine State.inc_kept ?_
      assumption
    · assumption

theorem State.supersede_kept {m0 : May} {s0 s : State} {a2 : Nat} {a3 : Seg} (h : Kept m0 s0 s) : Kept m0 s0 (State.supersede s a2 a3) := by
  unfold State.supersede
  refine State.each_kept ?_ ?_
  · assumption
  · intro v0_0 v0_1 v0_2
    lift_lets
    intro x1
    have hx1 : Kept m0 s0 (x1) := by
      unfold x1
      refine State.inc_kept ?_
      assumption
    clear_value x1
    intro x2
    clear_value x2
    refine kept_ite ?_ ?_
    · refine State.dropReq_kept ?_
      refine State.returnCode_kept ?_
      assumption
    · refine State.onReq_kept ?_
      assumption

theorem State.submit_kept {m0 : May} {s0 s : State} {a2 : Req} (h : Kept m0 s0 s) : Kept m0 s0 (State.submit s a2).2 := by
  unfold State.submit
  split
  · lift_lets
    intro x0
    have hx0 : Kept m0 s0 (x0) := by
      unfold x0
      refine State.iff_kept ?_ ?_
      · assumption
      · intro v1_0 v1_1
        refine State.inc_kept ?_
        assumption
    clear_value x0
    dsimp only
    refine State.iff_kept ?_ ?_
    · assumption
    · intro v2_0 v2_1
      refine State.set_kept ?_
      assumption
  · lift_lets
    intro x3
    have hx3 : Kept m0 s0 (x3) := by
      unfold x3
      refine kept_ite ?_ ?_
      · refine State.each_kept ?_ ?_
        · assumption
        · intro v4_0 v4_1 v4_2
          refine State.supersede_kept ?_
          assumption
      · assumption
    clear_value x3
    intro x5
    clear_value x5
    intro x6
    clear_value x6
    intro x7
    have hx7 : Kept m0 s0 (x7) := by
      unfold x7
      refine kept_mk ?_
      assumption
    clear_value x7
    dsimp only
    refine State.maxOf_kept ?_
    assumption

theorem State.post_kept {m0 : May} {s0 s : State} {a2 : Req} (h : Kept m0 s0 s) : Kept m0 s0 (State.post s a2) := by
  unfold State.post
  refine State.submit_kept ?_
  assumption

theorem State.wrapFor_kept {m0 : Bool} {s0 s : State} {a2 : Nat} {a3 : Bool} (h : Kept ⟨m0, true⟩ s0 s) : Kept ⟨m0, true⟩ s0 (State.wrapFor s a2 a3).2 := by
  unfold State.wrapFor
  lift_lets
  intro x0
  clear_value x0
  intro x1
  clear_value x1
  split
  · dsimp only
    assumption
  · dsimp only
    refine State.setEnt_kept ?_
    assumption

theorem State.reqTo_kept {m0 : Bool} {s0 s : State} {a2 : Nat} {a3 : Nat} {a4 : ReqBy} {a5 : Proto} {a6 : Nat} {a7 : List Nat} {a8 : Nat} {a9 : Bool} {a10 : Bool} (h : Kept ⟨m0, true⟩ s0 s) : Kept ⟨m0, true⟩ s0 (State.reqTo s a2 a3 a4 a5 a6 a7 a8 a9 a10).2 := by
  unfold State.reqTo
  lift_lets
  intro x0
  have hx0 : Kept ⟨m0, true⟩ s0 (x0).2 := by
    refine kept_of (fun q => q.2) (a := x0) (State.wrapFor_kept ?_) rfl
    assumption
  clear_value x0
  intro x1
  have hx1 : Kept ⟨m0, true⟩ s0 (x1).2 := by
    unfold x1
    split
    · dsimp only
      assumption
    · dsimp only
      assumption
  clear_value x1
  dsimp only
  assumption

theorem State.postTo_kept {m0 : Bool} {s0 s : State} {a2 : Nat} {a3 : Nat} {a4 : ReqBy} {a5 : Proto} {a6 : Nat} {a7 : List Nat} {a8 : Nat} {a9 : Bool} {a10 : Bool} (h : Kept ⟨m0, true⟩ s0 s) : Kept ⟨m0, true⟩ s0 (State.postTo s a2 a3 a4 a5 a6 a7 a8 a9 a10) := by
  unfold State.postTo
  lift_lets
  intro q
  have hq : Kept ⟨m0, true⟩ s0 q.2 := State.reqTo_kept h
  have hs : Kept ⟨m0, true⟩ s0 (q.2.submit q.1).2 := State.submit_kept hq
  split
  · next e => rw [e] at hs; exact hs
  · exact State.post_kept h

end Sys2Proof.Machine
end

