-- ==== Sys2Proof/Laws/KeptShare.lean ====
section
/-! SUPPORT. What every operation keeps: the sharing, the loop commands, the capacitor. -/

namespace Sys2Proof.Machine

set_option linter.unusedVariables false
set_option Elab.async false

theorem State.setRect_kept {m0 : May} {s0 s : State} {a2 : Fin 24} {a3 : Rect} (h : Kept m0 s0 s) : Kept m0 s0 (State.setRect s a2 a3) := by
  unfold State.setRect
  refine kept_mk ?_
  assumption

theorem State.rectEnter_kept {m0 : May} {s0 s : State} {a2 : Fin 24} {a3 : Nat} (h : Kept m0 s0 s) : Kept m0 s0 (State.rectEnter s a2 a3) := by
  unfold State.rectEnter
  lift_lets
  intro x0
  have hx0 : Kept m0 s0 (x0) := by
    unfold x0
    refine State.iff_kept ?_ ?_
    · assumption
    · intro v1_0 v1_1
      refine State.setB_kept ?_
      assumption
  clear_value x0
  intro x2
  clear_value x2
  refine State.setRect_kept ?_
  refine State.set_kept ?_
  assumption

theorem State.sharePost_kept {m0 : Bool} {s0 s : State} {a2 : Fin 24} {a3 : Nat} {a4 : ShareOp} {a5 : Proto} {a6 : Nat} {a7 : List Nat} (h : Kept ⟨m0, true⟩ s0 s) : Kept ⟨m0, true⟩ s0 (State.sharePost s a2 a3 a4 a5 a6 a7) := by
  unfold State.sharePost
  refine kept_ite ?_ ?_
  · refine State.postTo_kept ?_
    assumption
  · assumption

theorem State.runOp_kept {m0 : Bool} {s0 s : State} {a2 : Fin 24} (h : Kept ⟨m0, true⟩ s0 s) : Kept ⟨m0, true⟩ s0 (State.runOp s a2) := by
  unfold State.runOp
  refine State.sharePost_kept ?_
  assumption

theorem State.setupStep_kept {m0 : Bool} {s0 s : State} {a2 : Fin 24} (h : Kept ⟨m0, true⟩ s0 s) : Kept ⟨m0, true⟩ s0 (State.setupStep s a2) := by
  unfold State.setupStep
  split
  · refine State.sharePost_kept ?_
    assumption
  · refine State.sharePost_kept ?_
    assumption
  · refine State.sharePost_kept ?_
    assumption
  · refine State.sharePost_kept ?_
    assumption
  · refine State.sharePost_kept ?_
    assumption
  · refine State.sharePost_kept ?_
    assumption
  · assumption

theorem State.rectJoin_kept {m0 : Bool} {s0 s : State} {a2 : Fin 24} (h : Kept ⟨m0, true⟩ s0 s) : Kept ⟨m0, true⟩ s0 (State.rectJoin s a2) := by
  unfold State.rectJoin
  lift_lets
  intro x0
  have hx0 : Kept ⟨m0, true⟩ s0 (x0) := by
    unfold x0
    refine State.rectEnter_kept ?_
    assumption
  clear_value x0
  intro x1
  clear_value x1
  refine State.setupStep_kept ?_
  refine State.setRect_kept ?_
  assumption

theorem State.setupNext_kept {m0 : Bool} {s0 s : State} {a2 : Fin 24} (h : Kept ⟨m0, true⟩ s0 s) : Kept ⟨m0, true⟩ s0 (State.setupNext s a2) := by
  unfold State.setupNext
  lift_lets
  intro x0
  clear_value x0
  intro x1
  clear_value x1
  intro x2
  clear_value x2
  intro x3
  clear_value x3
  intro x4
  clear_value x4
  refine State.setupStep_kept ?_
  refine State.setRect_kept ?_
  assumption

theorem State.rectActivate_kept {m0 : May} {s0 s : State} {a2 : Fin 24} (h : Kept m0 s0 s) : Kept m0 s0 (State.rectActivate s a2) := by
  unfold State.rectActivate
  lift_lets
  intro x0
  clear_value x0
  intro x1
  have hx1 : Kept m0 s0 (x1) := by
    unfold x1
    refine State.rectEnter_kept ?_
    assumption
  clear_value x1
  intro x2
  clear_value x2
  refine State.setRect_kept ?_
  assumption

theorem State.standbyFail_kept {m0 : Bool} {s0 s : State} {a2 : Fin 24} (h : Kept ⟨m0, true⟩ s0 s) : Kept ⟨m0, true⟩ s0 (State.standbyFail s a2) := by
  unfold State.standbyFail
  refine State.event_kept ?_
  refine State.runOp_kept ?_
  refine State.rectActivate_kept ?_
  assumption

theorem State.rectReturn_kept {m0 : Bool} {s0 s : State} {a2 : Fin 24} (h : Kept ⟨m0, true⟩ s0 s) : Kept ⟨m0, true⟩ s0 (State.rectReturn s a2) := by
  unfold State.rectReturn
  refine kept_ite ?_ ?_
  · lift_lets
    intro x0
    clear_value x0
    intro x1
    have hx1 : Kept ⟨m0, true⟩ s0 (x1) := by
      unfold x1
      refine State.rectActivate_kept ?_
      assumption
    clear_value x1
    refine State.iff_kept ?_ ?_
    · assumption
    · intro v2_0 v2_1
      refine State.runOp_kept ?_
      assumption
  · refine kept_ite ?_ ?_
    · refine State.runOp_kept ?_
      refine State.rectEnter_kept ?_
      assumption
    · assumption

theorem State.guardWake_kept {m0 : Bool} {s0 s : State} {a2 : Nat} (h : Kept ⟨m0, true⟩ s0 s) : Kept ⟨m0, true⟩ s0 (State.guardWake s a2) := by
  unfold State.guardWake
  refine State.each_kept ?_ ?_
  · assumption
  · intro v0_0 v0_1 v0_2
    refine kept_ite ?_ ?_
    · refine State.rectReturn_kept ?_
      assumption
    · assumption

theorem State.guard_kept {m0 : Bool} {s0 s : State} (h : Kept ⟨m0, true⟩ s0 s) : Kept ⟨m0, true⟩ s0 (State.guard s) := by
  unfold State.guard
  lift_lets
  intro x0
  clear_value x0
  intro x1
  clear_value x1
  intro x2
  have hx2 : Kept ⟨m0, true⟩ s0 (x2) := by
    unfold x2
    refine kept_ite ?_ ?_
    · assumption
    · refine State.guardWake_kept ?_
      assumption
  clear_value x2
  intro x3
  clear_value x3
  intro x4
  have hx4 : Kept ⟨m0, true⟩ s0 (x4) := by
    unfold x4
    refine State.set_kept ?_
    refine State.set_kept ?_
    refine State.set_kept ?_
    assumption
  clear_value x4
  refine State.setB_kept ?_
  assumption

theorem State.learn_kept {m0 : May} {s0 s : State} {a2 : Fin 24} (h : Kept m0 s0 s) : Kept m0 s0 (State.learn s a2) := by
  unfold State.learn
  lift_lets
  intro x0
  clear_value x0
  intro x1
  split
  · lift_lets
    intro x2
    clear_value x2
    intro x3
    clear_value x3
    intro x4
    have hx4 : Kept m0 s0 (x4) := by
      unfold x4
      refine State.setRect_kept ?_
      assumption
    clear_value x4
    intro x5
    intro x6
    clear_value x6
    intro x7
    clear_value x7
    intro x8
    clear_value x8
    intro x9
    clear_value x9
    refine kept_ite ?_ ?_
    · refine State.setRect_kept ?_
      assumption
    · assumption
  · assumption

theorem State.showCurve_kept {m0 : May} {s0 s : State} {a2 : Fin 24} (h : Kept m0 s0 s) : Kept m0 s0 (State.showCurve s a2) := by
  unfold State.showCurve
  lift_lets
  intro x0
  clear_value x0
  refine State.set_kept ?_
  refine State.setB_kept ?_
  assumption

theorem State.storeCurves_kept {m0 : Bool} {s0 s : State} (h : Kept ⟨m0, true⟩ s0 s) : Kept ⟨m0, true⟩ s0 (State.storeCurves s) := by
  unfold State.storeCurves
  lift_lets
  intro x0
  have hx0 : Kept ⟨m0, true⟩ s0 (x0) := by
    unfold x0
    refine State.each_kept ?_ ?_
    · assumption
    · intro v1_0 v1_1 v1_2
      refine State.countersWrite_kept ?_
      assumption
  clear_value x0
  intro x2
  clear_value x2
  refine kept_mk ?_
  assumption

theorem State.loadCurve_kept {m0 : May} {s0 s : State} {a2 : Fin 24} (h : Kept m0 s0 s) : Kept m0 s0 (State.loadCurve s a2).2 := by
  unfold State.loadCurve
  lift_lets
  intro x0
  clear_value x0
  intro x1
  clear_value x1
  intro x2
  clear_value x2
  intro x3
  clear_value x3
  split
  · dsimp only
    assumption
  · split
    · dsimp only
      refine State.showCurve_kept ?_
      refine State.setRect_kept ?_
      assumption
    · dsimp only
      assumption

theorem State.allocEnd_kept {m0 : May} {s0 s : State} (h : Kept m0 s0 s) : Kept m0 s0 (State.allocEnd s) := by
  unfold State.allocEnd
  lift_lets
  intro x0
  have hx0 : Kept m0 s0 (x0) := by
    unfold x0
    refine State.setInvalid_kept ?_
    assumption
  clear_value x0
  intro x1
  clear_value x1
  refine kept_mk ?_
  assumption

theorem State.applyAlloc_kept {m0 : Bool} {s0 s : State} {a2 : AllocTarget} (h : Kept ⟨m0, true⟩ s0 s) : Kept ⟨m0, true⟩ s0 (State.applyAlloc s a2) := by
  unfold State.applyAlloc
  refine kept_ite ?_ ?_
  · lift_lets
    intro x0
    have hx0 : Kept ⟨m0, true⟩ s0 (x0) := by
      unfold x0
      refine State.setB_kept ?_
      assumption
    clear_value x0
    intro x1
    have hx1 : Kept ⟨m0, true⟩ s0 (x1) := by
      unfold x1
      refine State.allocEnd_kept ?_
      assumption
    clear_value x1
    refine State.each_kept ?_ ?_
    · assumption
    · intro v2_0 v2_1 v2_2
      refine State.rectReturn_kept ?_
      assumption
  · refine kept_ite ?_ ?_
    · refine State.setB_kept ?_
      assumption
    · lift_lets
      intro x3
      clear_value x3
      intro x4
      clear_value x4
      intro x5
      clear_value x5
      intro x6
      have hx6 : Kept ⟨m0, true⟩ s0 (x6) := by
        unfold x6
        refine State.each_kept ?_ ?_
        · assumption
        · intro v7_0 v7_1 v7_2
          lift_lets
          intro x8
          clear_value x8
          intro x9
          have hx9 : Kept ⟨m0, true⟩ s0 (x9) := by
            unfold x9
            refine State.iff_kept ?_ ?_
            · assumption
            · intro v10_0 v10_1
              refine State.rectReturn_kept ?_
              assumption
          clear_value x9
          intro x11
          clear_value x11
          refine State.setRect_kept ?_
          assumption
      clear_value x6
      intro x12
      have hx12 : Kept ⟨m0, true⟩ s0 (x12) := by
        unfold x12
        split
        · assumption
        · lift_lets
          intro x13
          clear_value x13
          intro x14
          have hx14 : Kept ⟨m0, true⟩ s0 (x14) := by
            unfold x14
            refine State.rectEnter_kept ?_
            assumption
          clear_value x14
          intro x15
          clear_value x15
          refine State.setRect_kept ?_
          assumption
      clear_value x12
      intro x16
      have hx16 : Kept ⟨m0, true⟩ s0 (x16) := by
        unfold x16
        refine State.set_kept ?_
        refine State.inc_kept ?_
        refine State.setB_kept ?_
        assumption
      clear_value x16
      intro x17
      have hx17 : Kept ⟨m0, true⟩ s0 (x17) := by
        unfold x17
        refine State.setI_kept ?_
        refine State.setI_kept ?_
        assumption
      clear_value x17
      intro x18
      clear_value x18
      refine kept_mk ?_
      assumption

theorem State.trimUpdate_kept {m0 : May} {s0 s : State} (h : Kept m0 s0 s) : Kept m0 s0 (State.trimUpdate s) := by
  unfold State.trimUpdate
  lift_lets
  intro x0
  clear_value x0
  intro x1
  clear_value x1
  intro x2
  clear_value x2
  intro x3
  have hx3 : Kept m0 s0 (x3) := by
    unfold x3
    refine State.each_kept ?_ ?_
    · assumption
    · intro v4_0 v4_1 v4_2
      lift_lets
      intro x5
      clear_value x5
      intro x6
      clear_value x6
      split
      · refine State.inc_kept ?_
        assumption
      · refine kept_ite ?_ ?_
        · refine State.setRect_kept ?_
          assumption
        · refine State.inc_kept ?_
          assumption
  clear_value x3
  intro x7
  clear_value x7
  refine kept_ite ?_ ?_
  · assumption
  · refine State.each_kept ?_ ?_
    · assumption
    · intro v8_0 v8_1 v8_2
      lift_lets
      intro x9
      clear_value x9
      refine State.setRect_kept ?_
      refine State.setB_kept ?_
      assumption

theorem State.trimFade_kept {m0 : May} {s0 s : State} (h : Kept m0 s0 s) : Kept m0 s0 (State.trimFade s) := by
  unfold State.trimFade
  lift_lets
  intro x0
  clear_value x0
  intro x1
  have hx1 : Kept m0 s0 (x1) := by
    unfold x1
    refine State.each_kept ?_ ?_
    · assumption
    · intro v2_0 v2_1 v2_2
      lift_lets
      intro x3
      clear_value x3
      refine State.setRect_kept ?_
      assumption
  clear_value x1
  intro x4
  clear_value x4
  refine kept_mk ?_
  assumption

theorem State.shareGroup_kept {m0 : Bool} {s0 s : State} {a2 : Nat} {a3 : Nat} {a4 : ShareOp} {a5 : List (Fin 24 × Nat × List Nat)} (h : Kept ⟨m0, true⟩ s0 s) : Kept ⟨m0, true⟩ s0 (State.shareGroup s a2 a3 a4 a5) := by
  unfold State.shareGroup
  lift_lets
  intro x0
  clear_value x0
  intro x1
  clear_value x1
  intro x2
  have hx2 : Kept ⟨m0, true⟩ s0 (x2) := by
    unfold x2
    refine State.each_kept ?_ ?_
    · assumption
    · intro v3_0 v3_1 v3_2
      refine State.sharePost_kept ?_
      assumption
  clear_value x2
  intro x4
  clear_value x4
  refine kept_ite ?_ ?_
  · assumption
  · refine State.post_kept ?_
    assumption

theorem State.channelCycle_kept {m0 : Bool} {s0 s : State} {a2 : Nat} {a3 : Nat} (h : Kept ⟨m0, true⟩ s0 s) : Kept ⟨m0, true⟩ s0 (State.channelCycle s a2 a3) := by
  unfold State.channelCycle
  lift_lets
  intro x0
  clear_value x0
  intro x1
  clear_value x1
  intro x2
  clear_value x2
  intro x3
  have hx3 : Kept ⟨m0, true⟩ s0 (x3) := by
    unfold x3
    refine State.each_kept ?_ ?_
    · assumption
    · intro v4_0 v4_1 v4_2
      refine State.setB_kept ?_
      assumption
  clear_value x3
  intro x5
  clear_value x5
  intro x6
  have hx6 : Kept ⟨m0, true⟩ s0 (x6) := by
    unfold x6
    refine kept_ite ?_ ?_
    · assumption
    · refine kept_ite ?_ ?_
      · refine State.inc_kept ?_
        assumption
      · refine State.shareGroup_kept ?_
        assumption
  clear_value x6
  intro x7
  clear_value x7
  intro x8
  have hx8 : Kept ⟨m0, true⟩ s0 (x8) := by
    unfold x8
    refine State.shareGroup_kept ?_
    assumption
  clear_value x8
  refine kept_ite ?_ ?_
  · assumption
  · refine State.each_kept ?_ ?_
    · assumption
    · intro v9_0 v9_1 v9_2
      lift_lets
      intro x10
      clear_value x10
      refine State.setRect_kept ?_
      assumption

theorem State.ramps_kept {m0 : Bool} {s0 s : State} (h : Kept ⟨m0, true⟩ s0 s) : Kept ⟨m0, true⟩ s0 (State.ramps s) := by
  unfold State.ramps
  lift_lets
  intro x0
  have hx0 : Kept ⟨m0, true⟩ s0 (x0) := by
    unfold x0
    refine State.each_kept ?_ ?_
    · assumption
    · intro v1_0 v1_1 v1_2
      lift_lets
      intro x2
      clear_value x2
      refine State.setRect_kept ?_
      assumption
  clear_value x0
  refine State.each_kept ?_ ?_
  · assumption
  · intro v3_0 v3_1 v3_2
    lift_lets
    intro x4
    clear_value x4
    intro x5
    have hx5 : Kept ⟨m0, true⟩ s0 (x5) := by
      unfold x5
      refine State.setRect_kept ?_
      refine State.sharePost_kept ?_
      assumption
    clear_value x5
    refine kept_ite ?_ ?_
    · refine kept_ite ?_ ?_
      · refine State.setRect_kept ?_
        assumption
      · refine State.setRect_kept ?_
        assumption
    · refine kept_ite ?_ ?_
      · assumption
      · refine kept_ite ?_ ?_
        · refine State.standbyFail_kept ?_
          assumption
        · assumption

theorem State.showShare_kept {m0 : May} {s0 s : State} (h : Kept m0 s0 s) : Kept m0 s0 (State.showShare s) := by
  unfold State.showShare
  lift_lets
  intro x0
  have hx0 : Kept m0 s0 (x0) := by
    unfold x0
    refine State.each_kept ?_ ?_
    · assumption
    · intro v1_0 v1_1 v1_2
      lift_lets
      intro x2
      have hx2 : Kept m0 s0 (x2) := by
        unfold x2
        refine State.set_kept ?_
        refine State.setI_kept ?_
        assumption
      clear_value x2
      refine State.set_kept ?_
      assumption
  clear_value x0
  intro x3
  clear_value x3
  intro x4
  have hx4 : Kept m0 s0 (x4) := by
    unfold x4
    refine kept_ite ?_ ?_
    · refine State.setI_kept ?_
      assumption
    · refine State.setInvalid_kept ?_
      assumption
  clear_value x4
  intro x5
  have hx5 : Kept m0 s0 (x5) := by
    unfold x5
    refine kept_ite ?_ ?_
    · refine State.setI_kept ?_
      assumption
    · refine State.setInvalid_kept ?_
      assumption
  clear_value x5
  refine State.setI_kept ?_
  assumption

theorem State.trimCycle_kept {m0 : Bool} {s0 s : State} {a2 : Nat} (h : Kept ⟨m0, true⟩ s0 s) : Kept ⟨m0, true⟩ s0 (State.trimCycle s a2) := by
  unfold State.trimCycle
  lift_lets
  intro x0
  clear_value x0
  intro x1
  have hx1 : Kept ⟨m0, true⟩ s0 (x1) := by
    unfold x1
    refine State.iff_kept ?_ ?_
    · assumption
    · intro v2_0 v2_1
      refine State.each_kept ?_ ?_
      · assumption
      · intro v3_0 v3_1 v3_2
        refine State.rectReturn_kept ?_
        assumption
  clear_value x1
  intro x4
  clear_value x4
  intro x5
  have hx5 : Kept ⟨m0, true⟩ s0 (x5) := by
    unfold x5
    split
    · refine kept_ite ?_ ?_
      · refine State.applyAlloc_kept ?_
        refine kept_mk ?_
        assumption
      · refine kept_mk ?_
        assumption
    · assumption
  clear_value x5
  intro x6
  have hx6 : Kept ⟨m0, true⟩ s0 (x6) := by
    unfold x6
    refine kept_ite ?_ ?_
    · assumption
    · refine State.allocEnd_kept ?_
      assumption
  clear_value x6
  intro x7
  have hx7 : Kept ⟨m0, true⟩ s0 (x7) := by
    unfold x7
    refine State.each_kept ?_ ?_
    · assumption
    · intro v8_0 v8_1 v8_2
      refine State.setupStep_kept ?_
      assumption
  clear_value x7
  intro x9
  have hx9 : Kept ⟨m0, true⟩ s0 (x9) := by
    unfold x9
    refine State.ramps_kept ?_
    refine State.guard_kept ?_
    assumption
  clear_value x9
  intro x10
  have hx10 : Kept ⟨m0, true⟩ s0 (x10) := by
    unfold x10
    refine kept_ite ?_ ?_
    · refine State.trimUpdate_kept ?_
      assumption
    · refine State.trimFade_kept ?_
      assumption
  clear_value x10
  intro x11
  have hx11 : Kept ⟨m0, true⟩ s0 (x11) := by
    unfold x11
    refine State.each_kept ?_ ?_
    · assumption
    · intro v12_0 v12_1 v12_2
      refine State.channelCycle_kept ?_
      assumption
  clear_value x11
  intro x13
  clear_value x13
  refine State.showShare_kept ?_
  refine kept_mk ?_
  assumption

theorem execTrimCycle_kept {m0 : Bool} {s0 s : State} (h : Kept ⟨m0, true⟩ s0 s) : OutKept ⟨m0, true⟩ s0 (execTrimCycle s) := by
  unfold execTrimCycle
  refine outKept_ite ?_ ?_
  · refine done_kept ?_
    assumption
  · refine done_kept ?_
    refine State.settle_kept ?_
    refine State.trimCycle_kept ?_
    assumption

theorem State.setupFail_kept {m0 : Bool} {s0 s : State} {a2 : Fin 24} (h : Kept ⟨m0, true⟩ s0 s) : Kept ⟨m0, true⟩ s0 (State.setupFail s a2) := by
  unfold State.setupFail
  lift_lets
  intro x0
  clear_value x0
  intro x1
  clear_value x1
  refine kept_ite ?_ ?_
  · refine State.event_kept ?_
    refine State.setRect_kept ?_
    refine State.rectEnter_kept ?_
    assumption
  · refine State.setupStep_kept ?_
    refine State.setRect_kept ?_
    assumption

theorem State.shareResult_kept {m0 : Bool} {s0 s : State} {a2 : ShareOp} {a3 : Fin 24} {a4 : Bool} {a5 : List Nat} (h : Kept ⟨m0, true⟩ s0 s) : Kept ⟨m0, true⟩ s0 (State.shareResult s a2 a3 a4 a5) := by
  unfold State.shareResult
  lift_lets
  intro x0
  clear_value x0
  intro x1
  clear_value x1
  intro x2
  clear_value x2
  split
  · refine kept_ite ?_ ?_
    · assumption
    · refine kept_ite ?_ ?_
      · refine State.setupFail_kept ?_
        assumption
      · refine State.setupNext_kept ?_
        refine State.setRect_kept ?_
        refine State.setB_kept ?_
        assumption
  · refine kept_ite ?_ ?_
    · assumption
    · refine kept_ite ?_ ?_
      · refine State.setupFail_kept ?_
        assumption
      · refine State.setupNext_kept ?_
        refine State.setRect_kept ?_
        assumption
  · refine kept_ite ?_ ?_
    · assumption
    · refine kept_ite ?_ ?_
      · refine State.setupFail_kept ?_
        assumption
      · refine State.setupNext_kept ?_
        refine State.setRect_kept ?_
        assumption
  · refine kept_ite ?_ ?_
    · assumption
    · refine kept_ite ?_ ?_
      · refine State.setupNext_kept ?_
        assumption
      · refine State.setupFail_kept ?_
        assumption
  · refine kept_ite ?_ ?_
    · assumption
    · refine kept_ite ?_ ?_
      · refine State.setupNext_kept ?_
        refine State.setRect_kept ?_
        assumption
      · refine State.setupFail_kept ?_
        assumption
  · refine kept_ite ?_ ?_
    · assumption
    · refine kept_ite ?_ ?_
      · refine State.setupNext_kept ?_
        assumption
      · refine State.setupFail_kept ?_
        assumption
  · refine kept_ite ?_ ?_
    · assumption
    · refine kept_ite ?_ ?_
      · refine State.setRect_kept ?_
        assumption
      · refine State.standbyFail_kept ?_
        assumption
  · assumption

theorem State.rectHeard_kept {m0 : Bool} {s0 s : State} {a2 : Fin 24} (h : Kept ⟨m0, true⟩ s0 s) : Kept ⟨m0, true⟩ s0 (State.rectHeard s a2) := by
  unfold State.rectHeard
  lift_lets
  intro x0
  clear_value x0
  intro x1
  have hx1 : Kept ⟨m0, true⟩ s0 (x1) := by
    unfold x1
    refine State.setRect_kept ?_
    assumption
  clear_value x1
  refine kept_ite ?_ ?_
  · refine State.rectJoin_kept ?_
    assumption
  · assumption

theorem State.rectSample_kept {m0 : Bool} {s0 s : State} {a2 : Fin 24} {a3 : Nat} {a4 : Nat} {a5 : Nat} (h : Kept ⟨m0, true⟩ s0 s) : Kept ⟨m0, true⟩ s0 (State.rectSample s a2 a3 a4 a5) := by
  unfold State.rectSample
  lift_lets
  intro x0
  clear_value x0
  intro x1
  clear_value x1
  intro x2
  clear_value x2
  intro x3
  have hx3 : Kept ⟨m0, true⟩ s0 (x3) := by
    unfold x3
    refine State.setRect_kept ?_
    assumption
  clear_value x3
  intro x4
  clear_value x4
  intro x5
  have hx5 : Kept ⟨m0, true⟩ s0 (x5) := by
    unfold x5
    refine State.setRect_kept ?_
    assumption
  clear_value x5
  intro x6
  clear_value x6
  intro x7
  clear_value x7
  intro x8
  have hx8 : Kept ⟨m0, true⟩ s0 (x8) := by
    unfold x8
    refine State.setRect_kept ?_
    assumption
  clear_value x8
  intro x9
  clear_value x9
  refine kept_ite ?_ ?_
  · refine kept_ite ?_ ?_
    · refine State.rectActivate_kept ?_
      assumption
    · assumption
  · refine kept_ite ?_ ?_
    · split
      · refine kept_ite ?_ ?_
        · refine State.rectEnter_kept ?_
          assumption
        · assumption
      · assumption
    · refine kept_ite ?_ ?_
      · refine State.setRect_kept ?_
        assumption
      · refine kept_ite ?_ ?_
        · refine State.setRect_kept ?_
          assumption
        · refine kept_ite ?_ ?_
          · refine State.setRect_kept ?_
            assumption
          · refine kept_ite ?_ ?_
            · refine kept_ite ?_ ?_
              · refine State.guard_kept ?_
                refine State.event_kept ?_
                refine State.setRect_kept ?_
                refine State.rectEnter_kept ?_
                assumption
              · assumption
            · assumption

theorem State.shareProtect_kept {m0 : Bool} {s0 s : State} (h : Kept ⟨m0, true⟩ s0 s) : Kept ⟨m0, true⟩ s0 (State.shareProtect s) := by
  unfold State.shareProtect
  lift_lets
  intro x0
  clear_value x0
  intro x1
  clear_value x1
  intro x2
  have hx2 : Kept ⟨m0, true⟩ s0 (x2) := by
    unfold x2
    refine State.each_kept ?_ ?_
    · assumption
    · intro v3_0 v3_1 v3_2
      refine State.dropReq_kept ?_
      refine State.inc_kept ?_
      assumption
  clear_value x2
  intro x4
  have hx4 : Kept ⟨m0, true⟩ s0 (x4) := by
    unfold x4
    refine State.each_kept ?_ ?_
    · assumption
    · intro v5_0 v5_1 v5_2
      lift_lets
      intro x6
      clear_value x6
      refine State.shareGroup_kept ?_
      assumption
  clear_value x4
  intro x7
  have hx7 : Kept ⟨m0, true⟩ s0 (x7) := by
    unfold x7
    refine State.each_kept ?_ ?_
    · assumption
    · intro v8_0 v8_1 v8_2
      lift_lets
      intro x9
      clear_value x9
      intro x10
      have hx10 : Kept ⟨m0, true⟩ s0 (x10) := by
        unfold x10
        refine State.setRect_kept ?_
        assumption
      clear_value x10
      refine kept_ite ?_ ?_
      · refine State.rectEnter_kept ?_
        assumption
      · refine kept_ite ?_ ?_
        · refine State.rectEnter_kept ?_
          assumption
        · assumption
  clear_value x7
  intro x11
  have hx11 : Kept ⟨m0, true⟩ s0 (x11) := by
    unfold x11
    refine State.each_kept ?_ ?_
    · assumption
    · intro v12_0 v12_1 v12_2
      lift_lets
      intro x13
      clear_value x13
      refine State.setRect_kept ?_
      assumption
  clear_value x11
  intro x14
  have hx14 : Kept ⟨m0, true⟩ s0 (x14) := by
    unfold x14
    refine State.allocEnd_kept ?_
    assumption
  clear_value x14
  intro x15
  clear_value x15
  refine kept_mk ?_
  assumption

theorem State.shareEnter_kept {m0 : Bool} {s0 s : State} {a2 : PowerState} (h : Kept ⟨m0, true⟩ s0 s) : Kept ⟨m0, true⟩ s0 (State.shareEnter s a2) := by
  unfold State.shareEnter
  split
  · refine State.shareProtect_kept ?_
    assumption
  · refine kept_ite ?_ ?_
    · refine State.shareProtect_kept ?_
      assumption
    · assumption
  · refine kept_ite ?_ ?_
    · refine kept_mk ?_
      assumption
    · assumption
  · lift_lets
    intro x0
    have hx0 : Kept ⟨m0, true⟩ s0 (x0) := by
      unfold x0
      refine State.allocEnd_kept ?_
      assumption
    clear_value x0
    intro x1
    clear_value x1
    refine kept_mk ?_
    assumption

theorem State.rectUnbind_kept {m0 : Bool} {s0 s : State} {a2 : Fin 24} {a3 : Bool} (h : Kept ⟨m0, true⟩ s0 s) : Kept ⟨m0, true⟩ s0 (State.rectUnbind s a2 a3) := by
  unfold State.rectUnbind
  lift_lets
  intro x0
  clear_value x0
  intro x1
  have hx1 : Kept ⟨m0, true⟩ s0 (x1) := by
    unfold x1
    refine State.iff_kept ?_ ?_
    · assumption
    · intro v2_0 v2_1
      refine State.setEnt_kept ?_
      assumption
  clear_value x1
  intro x3
  have hx3 : Kept ⟨m0, true⟩ s0 (x3) := by
    unfold x3
    refine State.rectEnter_kept ?_
    refine State.markWritten_kept ?_
    refine State.setB_kept ?_
    assumption
  clear_value x3
  intro x4
  clear_value x4
  intro x5
  have hx5 : Kept ⟨m0, true⟩ s0 (x5) := by
    unfold x5
    refine State.showCurve_kept ?_
    refine State.setRect_kept ?_
    assumption
  clear_value x5
  refine State.guard_kept ?_
  refine State.setB_kept ?_
  assumption

theorem State.rectBind_kept {m0 : Bool} {s0 s : State} {a2 : Fin 24} {a3 : Nat} (h : Kept ⟨m0, true⟩ s0 s) : Kept ⟨m0, true⟩ s0 (State.rectBind s a2 a3) := by
  unfold State.rectBind
  lift_lets
  intro x0
  have hx0 : Kept ⟨m0, true⟩ s0 (x0) := by
    unfold x0
    refine State.each_kept ?_ ?_
    · assumption
    · intro v1_0 v1_1 v1_2
      refine State.rectUnbind_kept ?_
      assumption
  clear_value x0
  intro x2
  have hx2 : Kept ⟨m0, true⟩ s0 (x2) := by
    unfold x2
    refine State.setB_kept ?_
    refine State.set_kept ?_
    assumption
  clear_value x2
  refine State.rectJoin_kept ?_
  refine State.setRect_kept ?_
  refine State.markWritten_kept ?_
  refine State.setEnt_kept ?_
  assumption

theorem State.rectSchedule_kept {m0 : Bool} {s0 s : State} {a2 : Nat} (h : Kept ⟨m0, true⟩ s0 s) : Kept ⟨m0, true⟩ s0 (State.rectSchedule s a2) := by
  unfold State.rectSchedule
  refine State.each_kept ?_ ?_
  · assumption
  · intro v0_0 v0_1 v0_2
    lift_lets
    intro x1
    have hx1 : Kept ⟨m0, true⟩ s0 (x1).2 := by
      refine kept_of (fun q => q.2) (a := x1) (State.draw_kept ?_) rfl
      assumption
    clear_value x1
    refine State.setEnt_kept ?_
    assumption

theorem execRectBind_kept {m0 : Bool} {s0 : State} {a1 : Fin 24} {a2 : Fin 1024} {s : State} (h : Kept ⟨m0, true⟩ s0 s) : OutKept ⟨m0, true⟩ s0 (execRectBind a1 a2 s) := by
  unfold execRectBind
  refine outKept_ite ?_ ?_
  · refine done_kept ?_
    refine State.settle_kept ?_
    refine State.rectSchedule_kept ?_
    refine State.rectBind_kept ?_
    assumption
  · refine done_kept ?_
    assumption

theorem State.onRect_kept {m0 : May} {s0 s : State} {a2 : Fin 32} {a3 : State → Fin 24 → State} (h : Kept m0 s0 s) (ha3 : ∀ b0 b1, Kept m0 s0 b0 → Kept m0 s0 (a3 b0 b1)) : Kept m0 s0 (State.onRect s a2 a3) := by
  unfold State.onRect
  lift_lets
  intro x0
  have hx0 : Kept m0 s0 (x0) := by
    unfold x0
    refine State.set_kept ?_
    assumption
  clear_value x0
  split
  · refine ha3 _ _ ?_
    assumption
  · assumption

theorem execRectUnbind_kept {m0 : Bool} {s0 : State} {a1 : Requester} {a2 : Fin 32} {s : State} (h : Kept ⟨m0, true⟩ s0 s) : OutKept ⟨m0, true⟩ s0 (execRectUnbind a1 a2 s) := by
  unfold execRectUnbind
  refine done_kept ?_
  refine State.gate_kept ?_ ?_
  · assumption
  · intro v0_0 v0_1
    refine State.settle_kept ?_
    refine State.onRect_kept ?_ ?_
    · assumption
    · intro v1_0 v1_1 v1_2
      refine kept_ite ?_ ?_
      · assumption
      · refine State.rectUnbind_kept ?_
        assumption

theorem execClearCurve_kept {m0 : May} {s0 : State} {a1 : Requester} {a2 : Fin 32} {s : State} (h : Kept m0 s0 s) : OutKept m0 s0 (execClearCurve a1 a2 s) := by
  unfold execClearCurve
  refine done_kept ?_
  refine State.gate_kept ?_ ?_
  · assumption
  · intro v0_0 v0_1
    refine State.onRect_kept ?_ ?_
    · assumption
    · intro v1_0 v1_1 v1_2
      refine State.showCurve_kept ?_
      refine State.setRect_kept ?_
      assumption

theorem execAllocNow_kept {m0 : May} {s0 : State} {a1 : Requester} {s : State} (h : Kept m0 s0 s) : OutKept m0 s0 (execAllocNow a1 s) := by
  unfold execAllocNow
  refine done_kept ?_
  refine State.gate_kept ?_ ?_
  · assumption
  · intro v0_0 v0_1
    refine State.iff_kept ?_ ?_
    · assumption
    · intro v1_0 v1_1
      refine kept_mk ?_
      assumption

theorem execRectRetry_kept {m0 : Bool} {s0 : State} {a1 : Requester} {a2 : Fin 32} {s : State} (h : Kept ⟨m0, true⟩ s0 s) : OutKept ⟨m0, true⟩ s0 (execRectRetry a1 a2 s) := by
  unfold execRectRetry
  refine done_kept ?_
  refine State.gate_kept ?_ ?_
  · assumption
  · intro v0_0 v0_1
    refine State.settle_kept ?_
    refine State.onRect_kept ?_ ?_
    · assumption
    · intro v1_0 v1_1 v1_2
      refine kept_ite ?_ ?_
      · refine State.rectJoin_kept ?_
        assumption
      · assumption

theorem execRectStandbyCheck_kept {m0 : Bool} {s0 : State} {a1 : Fin 24} {s : State} (h : Kept ⟨m0, true⟩ s0 s) : OutKept ⟨m0, true⟩ s0 (execRectStandbyCheck a1 s) := by
  unfold execRectStandbyCheck
  split
  · refine done_kept ?_
    assumption
  · refine outKept_ite ?_ ?_
    · split
      · refine outKept_ite ?_ ?_
        · refine done_kept ?_
          refine State.settle_kept ?_
          refine State.rectEnter_kept ?_
          assumption
        · refine done_kept ?_
          refine State.settle_kept ?_
          refine State.standbyFail_kept ?_
          assumption
      · refine done_kept ?_
        refine State.settle_kept ?_
        refine State.standbyFail_kept ?_
        assumption
    · refine done_kept ?_
      assumption

theorem execRectWakeTimeout_kept {m0 : Bool} {s0 : State} {a1 : Fin 24} {s : State} (h : Kept ⟨m0, true⟩ s0 s) : OutKept ⟨m0, true⟩ s0 (execRectWakeTimeout a1 s) := by
  unfold execRectWakeTimeout
  refine outKept_ite ?_ ?_
  · refine done_kept ?_
    refine State.settle_kept ?_
    refine State.guard_kept ?_
    refine State.event_kept ?_
    refine State.rectEnter_kept ?_
    assumption
  · refine done_kept ?_
    assumption

theorem execRectSilent_kept {m0 : Bool} {s0 : State} {a1 : Fin 24} {s : State} (h : Kept ⟨m0, true⟩ s0 s) : OutKept ⟨m0, true⟩ s0 (execRectSilent a1 s) := by
  unfold execRectSilent
  refine outKept_ite ?_ ?_
  · refine done_kept ?_
    refine State.settle_kept ?_
    refine State.guard_kept ?_
    refine State.event_kept ?_
    refine State.rectEnter_kept ?_
    assumption
  · refine done_kept ?_
    assumption

theorem execRectFaultClearTimer_kept {m0 : Bool} {s0 : State} {a1 : Fin 24} {s : State} (h : Kept ⟨m0, true⟩ s0 s) : OutKept ⟨m0, true⟩ s0 (execRectFaultClearTimer a1 s) := by
  unfold execRectFaultClearTimer
  split
  · refine outKept_ite ?_ ?_
    · refine done_kept ?_
      refine State.settle_kept ?_
      refine State.rectJoin_kept ?_
      assumption
    · refine done_kept ?_
      assumption
  · refine done_kept ?_
    assumption

theorem execAllocationStart_kept {m0 : May} {s0 s : State} (h : Kept m0 s0 s) : OutKept m0 s0 (execAllocationStart s) := by
  unfold execAllocationStart
  lift_lets
  intro x0
  clear_value x0
  intro x1
  have hx1 : Kept m0 s0 (x1) := by
    unfold x1
    refine State.iff_kept ?_ ?_
    · assumption
    · intro v2_0 v2_1
      refine State.each_kept ?_ ?_
      · assumption
      · intro v3_0 v3_1 v3_2
        refine State.showCurve_kept ?_
        refine State.learn_kept ?_
        assumption
  clear_value x1
  intro x4
  clear_value x4
  intro x5
  have hx5 : Kept m0 s0 (x5) := by
    unfold x5
    refine kept_mk ?_
    assumption
  clear_value x5
  intro x6
  have hx6 : Kept m0 s0 (x6) := by
    unfold x6
    refine State.iff_kept ?_ ?_
    · assumption
    · intro v7_0 v7_1
      refine State.inc_kept ?_
      assumption
  clear_value x6
  intro x8
  clear_value x8
  refine outKept_ite ?_ ?_
  · refine done_kept ?_
    assumption
  · refine outKept_ite ?_ ?_
    · refine done_kept ?_
      assumption
    · refine done_kept ?_
      refine kept_mk ?_
      assumption

theorem execAllocationResult_kept {m0 : May} {s0 s : State} (h : Kept m0 s0 s) : OutKept m0 s0 (execAllocationResult s) := by
  unfold execAllocationResult
  split
  · refine done_kept ?_
    assumption
  · refine done_kept ?_
    refine kept_mk ?_
    assumption

theorem execCurveStore_kept {m0 : Bool} {s0 s : State} (h : Kept ⟨m0, true⟩ s0 s) : OutKept ⟨m0, true⟩ s0 (execCurveStore s) := by
  unfold execCurveStore
  refine outKept_ite ?_ ?_
  · refine done_kept ?_
    refine State.storeCurves_kept ?_
    assumption
  · refine done_kept ?_
    assumption

theorem State.frameSent_kept {m0 : May} {s0 s : State} {a2 : Nat} {a3 : Nat} {a4 : Option (List Byte)} (h : Kept m0 s0 s) : Kept m0 s0 (State.frameSent s a2 a3 a4) := by
  unfold State.frameSent
  lift_lets
  intro x0
  clear_value x0
  intro x1
  have hx1 : Kept m0 s0 (x1) := by
    unfold x1
    refine State.incWrap_kept ?_
    assumption
  clear_value x1
  intro x2
  clear_value x2
  refine kept_mk ?_
  assumption

theorem State.ackSent_kept {m0 : May} {s0 s : State} (h : Kept m0 s0 s) : Kept m0 s0 (State.ackSent s) := by
  unfold State.ackSent
  refine State.frameSent_kept ?_
  assumption

theorem State.nakSent_kept {m0 : May} {s0 s : State} {a2 : Nat} {a3 : Nat} (h : Kept m0 s0 s) : Kept m0 s0 (State.nakSent s a2 a3) := by
  unfold State.nakSent
  refine State.frameSent_kept ?_
  assumption

theorem State.pairSend_kept {m0 : May} {s0 s : State} {a2 : PairBody} (h : Kept m0 s0 s) : Kept m0 s0 (State.pairSend s a2) := by
  unfold State.pairSend
  lift_lets
  intro x0
  clear_value x0
  intro x1
  have hx1 : Kept m0 s0 (x1) := by
    unfold x1
    refine State.frameSent_kept ?_
    assumption
  clear_value x1
  intro x2
  clear_value x2
  refine kept_mk ?_
  assumption

theorem State.mirrorCommand_kept {m0 : May} {s0 s : State} {a2 : Nat} (h : Kept m0 s0 s) : Kept m0 s0 (State.mirrorCommand s a2) := by
  unfold State.mirrorCommand
  refine State.iff_kept ?_ ?_
  · assumption
  · intro v0_0 v0_1
    refine State.pairSend_kept ?_
    assumption

theorem State.outputTo_kept {m0 : May} {s0 s : State} {a2 : Nat} {a3 : Int} (h : Kept m0 s0 s) : Kept m0 s0 (State.outputTo s a2 a3) := by
  unfold State.outputTo
  lift_lets
  intro x0
  have hx0 : Kept m0 s0 (x0) := by
    unfold x0
    refine kept_ite ?_ ?_
    · assumption
    · refine State.writePort_kept ?_
      assumption
  clear_value x0
  refine kept_ite ?_ ?_
  · refine State.writeDemand_kept ?_
    assumption
  · refine kept_ite ?_ ?_
    · refine State.writeDemand_kept ?_
      assumption
    · assumption

theorem State.slotFail_kept {m0 : May} {s0 s : State} {a2 : Fin 64} (h : Kept m0 s0 s) : Kept m0 s0 (State.slotFail s a2) := by
  unfold State.slotFail
  lift_lets
  intro x0
  clear_value x0
  intro x1
  clear_value x1
  intro x2
  have hx2 : Kept m0 s0 (x2) := by
    unfold x2
    refine State.slotFault_kept ?_
    assumption
  clear_value x2
  intro x3
  clear_value x3
  intro x4
  have hx4 : Kept m0 s0 (x4) := by
    unfold x4
    refine State.iff_kept ?_ ?_
    · assumption
    · intro v5_0 v5_1
      refine State.outputTo_kept ?_
      assumption
  clear_value x4
  refine State.iff_kept ?_ ?_
  · assumption
  · intro v6_0 v6_1
    refine State.tuneAbort_kept ?_
    assumption

theorem State.feed_kept {m0 : May} {s0 s : State} {a2 : Fin 64} {a3 : Nat} (h : Kept m0 s0 s) : Kept m0 s0 (State.feed s a2 a3).2.2 := by
  unfold State.feed
  split
  · dsimp only
    assumption
  · split
    · lift_lets
      intro x0
      have hx0 : Kept m0 s0 (x0) := by
        unfold x0
        refine State.rcStart_kept ?_
        assumption
      clear_value x0
      dsimp only
      assumption
    · dsimp only
      assumption
  · dsimp only
    assumption

theorem State.showTransfer_kept {m0 : May} {s0 s : State} {a2 : Fin 64} {a3 : Nat} {a4 : Nat} {a5 : Bool} (h : Kept m0 s0 s) : Kept m0 s0 (State.showTransfer s a2 a3 a4 a5) := by
  unfold State.showTransfer
  lift_lets
  intro x0
  have hx0 : Kept m0 s0 (x0) := by
    unfold x0
    refine State.set_kept ?_
    refine State.set_kept ?_
    refine State.set_kept ?_
    refine State.inc_kept ?_
    assumption
  clear_value x0
  refine State.stamp_kept ?_
  refine State.setB_kept ?_
  assumption

theorem State.disagree_kept {m0 : May} {s0 s : State} {a2 : Fin 64} {a3 : Nat × Nat} {a4 : Option Nat} (h : Kept m0 s0 s) : Kept m0 s0 (State.disagree s a2 a3 a4) := by
  unfold State.disagree
  lift_lets
  intro x0
  have hx0 : Kept m0 s0 (x0) := by
    unfold x0
    refine State.set_kept ?_
    refine State.set_kept ?_
    refine State.set_kept ?_
    refine State.inc_kept ?_
    assumption
  clear_value x0
  intro x1
  have hx1 : Kept m0 s0 (x1) := by
    unfold x1
    refine State.detect_kept ?_
    refine State.event_kept ?_
    refine State.stamp_kept ?_
    assumption
  clear_value x1
  split
  · refine State.retireLane_kept ?_
    refine State.setB_kept ?_
    refine State.set_kept ?_
    assumption
  · refine State.slotFail_kept ?_
    refine State.setB_kept ?_
    refine State.set_kept ?_
    assumption

theorem State.writeOutput_kept {m0 : May} {s0 s : State} {a2 : Fin 64} {a3 : Int} {a4 : Int} {a5 : Int} {a6 : Bool} {a7 : Nat} {a8 : Nat} (h : Kept m0 s0 s) : Kept m0 s0 (State.writeOutput s a2 a3 a4 a5 a6 a7 a8) := by
  unfold State.writeOutput
  lift_lets
  intro x0
  clear_value x0
  intro x1
  clear_value x1
  refine State.incWrap_kept ?_
  refine State.setB_kept ?_
  refine State.outputTo_kept ?_
  refine State.setSlot_kept ?_
  assumption

theorem State.noOutput_kept {m0 : May} {s0 s : State} {a2 : Fin 64} {a3 : Nat} (h : Kept m0 s0 s) : Kept m0 s0 (State.noOutput s a2 a3) := by
  unfold State.noOutput
  lift_lets
  intro x0
  clear_value x0
  refine State.setSlot_kept ?_
  assumption

theorem State.commitStates_kept {m0 : May} {s0 s : State} {a2 : Fin 64} {a3 : LoopSet} {a4 : LoopOut} (h : Kept m0 s0 s) : Kept m0 s0 (State.commitStates s a2 a3 a4) := by
  unfold State.commitStates
  lift_lets
  intro x0
  clear_value x0
  intro x1
  clear_value x1
  refine State.setSlot_kept ?_
  assumption

theorem State.rcServe_kept {m0 : May} {s0 s : State} {a2 : Fin 64} {a3 : Option (Fin 4)} {a4 : Int} {a5 : Nat} {a6 : Nat} {a7 : Bool} (h : Kept m0 s0 s) : Kept m0 s0 (State.rcServe s a2 a3 a4 a5 a6 a7) := by
  unfold State.rcServe
  split
  · assumption
  · lift_lets
    intro x0
    clear_value x0
    intro x1
    clear_value x1
    refine State.rcSample_kept ?_
    refine State.iff_kept ?_ ?_
    · assumption
    · intro v2_0 v2_1
      refine State.rcLearn_kept ?_
      assumption

theorem State.voted_kept {m0 : May} {s0 s a4 a5 : State} {a2 : Fin 64} {a3 : LaneVote} (h : Kept m0 s0 s) (h4 : Kept m0 s0 a4) (h5 : Kept m0 s0 a5) :
    Kept m0 s0 (State.voted s a2 a3 a4 a5) := by
  unfold State.voted
  split
  · exact kept_ite (State.disagree_kept h5) (State.disagree_kept h)
  · exact State.disagree_kept h
  · exact h4

theorem State.loopAlign_kept {m0 : May} {s0 s : State} {a2 : Fin 64} (h : Kept m0 s0 s) : Kept m0 s0 (State.loopAlign s a2) := by
  unfold State.loopAlign
  split
  · assumption
  · lift_lets
    intro x0
    clear_value x0
    intro x1
    have hx1 : Kept m0 s0 (x1) := by
      unfold x1
      refine kept_mk ?_
      assumption
    clear_value x1
    intro x2
    clear_value x2
    intro x3
    clear_value x3
    split
    · lift_lets
      intro x4
      clear_value x4
      intro x5
      clear_value x5
      refine kept_ite ?_ ?_
      · assumption
      · refine State.incWrap_kept ?_
        refine State.setSlot_kept ?_
        assumption
    · assumption

theorem State.relaySample_kept {m0 : May} {s0 s : State} {a2 : Fin 64} {a3 : Nat} {a4 : LoopRun} {a5 : Int} {a6 : Int} {a7 : Int} {a8 : Option (Fin 4)} {a9 : Bool} (h : Kept m0 s0 s) : Kept m0 s0 (State.relaySample s a2 a3 a4 a5 a6 a7 a8 a9) := by
  have k : ∀ (c : LoopSet) (e : Int) (p : Int × Int × State), Kept m0 s0 p.2.2 → Kept m0 s0 (s.voted a2 a4.vote
      ((p.2.2.rcServe a2 a8 e c.shift (s.ownFine a3) (a9 || s.on LPS_STAT_TUNING a2)).writeOutput a2 (c.output p.2.1) (a6 - a5) (c.ff a7)
        (decide (p.1 ≠ p.2.1)) a3 a4.time)
      ((p.2.2.rcServe a2 a8 e c.shift (s.ownFine a3) (a9 || s.on LPS_STAT_TUNING a2)).noOutput a2 a3)) :=
    fun c e p hp => State.voted_kept h (State.writeOutput_kept (State.rcServe_kept hp)) (State.noOutput_kept (State.rcServe_kept hp))
  exact k _ _ _ (State.tuneSample_kept h)

theorem State.lawSample_kept {m0 : May} {s0 s : State} {a2 : Fin 64} {a3 : Nat} {a4 : LoopRun} {a5 : Int} {a6 : Int} {a7 : List Int} {a8 : Int} {a9 : Option (Fin 4)} {a10 : Bool} (h : Kept m0 s0 s) : Kept m0 s0 (State.lawSample s a2 a3 a4 a5 a6 a7 a8 a9 a10) := by
  unfold State.lawSample
  lift_lets
  intro x0
  clear_value x0
  intro x1
  clear_value x1
  intro x2
  clear_value x2
  intro x3
  clear_value x3
  intro x4
  clear_value x4
  intro x5
  clear_value x5
  intro x6
  clear_value x6
  intro x7
  clear_value x7
  intro x8
  clear_value x8
  intro x9
  clear_value x9
  intro x10
  clear_value x10
  intro x11
  have hx11 : Kept m0 s0 (x11) := by
    unfold x11
    refine State.commitStates_kept ?_
    refine State.set_kept ?_
    refine State.iff_kept ?_ ?_
    · assumption
    · intro v12_0 v12_1
      refine State.showTransfer_kept ?_
      assumption
  clear_value x11
  intro x13
  have hx13 : Kept m0 s0 (x13) := by
    unfold x13
    refine State.writeOutput_kept ?_
    assumption
  clear_value x13
  intro x14
  have hx14 : Kept m0 s0 (x14) := by
    unfold x14
    refine State.rcServe_kept ?_
    assumption
  clear_value x14
  intro x15
  have hx15 : Kept m0 s0 (x15) := by
    unfold x15
    refine kept_ite ?_ ?_
    · refine State.noOutput_kept ?_
      assumption
    · refine State.rcServe_kept ?_
      refine State.noOutput_kept ?_
      refine State.commitStates_kept ?_
      refine State.set_kept ?_
      assumption
  clear_value x15
  exact State.voted_kept h hx14 hx15

theorem State.sample_kept {m0 : May} {s0 s : State} {a2 : Fin 64} {a3 : Nat} {a4 : LoopRun} {a5 : Int} {a6 : Int} {a7 : List Int} (h : Kept m0 s0 s) : Kept m0 s0 (State.sample s a2 a3 a4 a5 a6 a7) := by
  unfold State.sample
  lift_lets
  intro x0
  clear_value x0
  intro x1
  have hx1 : Kept m0 s0 (x1) := by
    unfold x1
    refine State.setB_kept ?_
    assumption
  clear_value x1
  intro x2
  have hx2 : Kept m0 s0 (x2).2.2 := by
    refine kept_of (fun q => q.2.2) (a := x2) (State.feed_kept ?_) rfl
    assumption
  clear_value x2
  refine kept_ite ?_ ?_
  · refine State.relaySample_kept ?_
    assumption
  · refine State.lawSample_kept ?_
    assumption

theorem State.overrun_kept {m0 : May} {s0 s : State} {a2 : Fin 64} (h : Kept m0 s0 s) : Kept m0 s0 (State.overrun s a2) := by
  unfold State.overrun
  lift_lets
  intro x0
  clear_value x0
  intro x1
  clear_value x1
  intro x2
  intro x3
  clear_value x3
  intro x4
  have hx4 : Kept m0 s0 (x4) := by
    unfold x4
    refine State.setSlot_kept ?_
    refine State.inc_kept ?_
    refine State.inc_kept ?_
    assumption
  clear_value x4
  intro x5
  have hx5 : Kept m0 s0 (x5) := by
    unfold x5
    refine State.iff_kept ?_ ?_
    · assumption
    · intro v6_0 v6_1
      refine State.event_kept ?_
      assumption
  clear_value x5
  refine State.iff_kept ?_ ?_
  · assumption
  · intro v7_0 v7_1
    refine State.slotFail_kept ?_
    assumption

theorem State.loopRequest_kept {m0 : May} {s0 s : State} {a2 : Fin 64} {a3 : Nat} {a4 : LoopRun} (h : Kept m0 s0 s) : Kept m0 s0 (State.loopRequest s a2 a3 a4) := by
  unfold State.loopRequest
  lift_lets
  intro x0
  clear_value x0
  refine kept_ite ?_ ?_
  · assumption
  · refine kept_ite ?_ ?_
    · refine State.overrun_kept ?_
      assumption
    · split
      · refine State.slotFail_kept ?_
        refine State.sramDouble_kept ?_
        assumption
      · split
        · refine State.iff_kept ?_ ?_
          · refine State.setB_kept ?_
            assumption
          · intro v1_0 v1_1
            refine State.tuneAbort_kept ?_
            assumption
        · lift_lets
          intro x2
          have hx2 : Kept m0 s0 (x2) := by
            unfold x2
            refine State.slackJudge_kept ?_
            refine State.sample_kept ?_
            assumption
          clear_value x2
          intro x3
          clear_value x3
          refine State.setSlot_kept ?_
          assumption

theorem execLoopSampleRequest_kept {m0 : May} {s0 : State} {a1 : Fin 64} {a2 : Fin 50} {a3 : LoopRun} {s : State} (h : Kept m0 s0 s) : OutKept m0 s0 (execLoopSampleRequest a1 a2 a3 s) := by
  unfold execLoopSampleRequest
  lift_lets
  intro x0
  clear_value x0
  intro x1
  clear_value x1
  refine outKept_ite ?_ ?_
  · refine done_kept ?_
    refine State.settle_kept ?_
    refine State.loopRequest_kept ?_
    refine State.loopAlign_kept ?_
    assumption
  · refine done_kept ?_
    assumption

theorem execCoefWindowWrite_kept {m0 : Bool} {s0 : State} {a1 : Requester} {a2 : Fin 65536} {a3 : Word} {s : State} (h : Kept ⟨m0, true⟩ s0 s) : OutKept ⟨m0, true⟩ s0 (execCoefWindowWrite a1 a2 a3 s) := by
  unfold execCoefWindowWrite
  refine done_kept ?_
  refine State.gate_kept ?_ ?_
  · assumption
  · intro v0_0 v0_1
    refine State.coefWrite_kept ?_
    assumption

theorem execLpeAdmit_kept {m0 : May} {s0 : State} {a1 : Requester} {s : State} (h : Kept m0 s0 s) : OutKept m0 s0 (execLpeAdmit a1 s) := by
  unfold execLpeAdmit
  refine done_kept ?_
  refine State.gate_kept ?_ ?_
  · assumption
  · intro v0_0 v0_1
    refine State.admitStart_kept ?_
    assumption

theorem State.rcAdmit_kept {m0 : May} {s0 s : State} {a2 : List (Fin 64)} (h : Kept m0 s0 s) : Kept m0 s0 (State.rcAdmit s a2) := by
  unfold State.rcAdmit
  refine State.each_kept ?_ ?_
  · assumption
  · intro v0_0 v0_1 v0_2
    lift_lets
    intro x1
    clear_value x1
    refine kept_ite ?_ ?_
    · refine State.set_kept ?_
      refine State.setRc_kept ?_
      assumption
    · assumption

theorem State.admissionDone_kept {m0 : Bool} {s0 s : State} {a2 : Admission} (h : Kept ⟨m0, true⟩ s0 s) : Kept ⟨m0, true⟩ s0 (State.admissionDone s a2) := by
  unfold State.admissionDone
  lift_lets
  intro x0
  clear_value x0
  intro x1
  clear_value x1
  intro x2
  clear_value x2
  intro x3
  clear_value x3
  intro x4
  clear_value x4
  intro x5
  have hx5 : Kept ⟨m0, true⟩ s0 (x5) := by
    unfold x5
    refine kept_mk ?_
    assumption
  clear_value x5
  intro x6
  have hx6 : Kept ⟨m0, true⟩ s0 (x6) := by
    unfold x6
    refine State.iff_kept ?_ ?_
    · assumption
    · intro v7_0 v7_1
      refine State.rcAdmit_kept ?_
      refine State.admitView_kept ?_
      assumption
  clear_value x6
  intro x8
  have hx8 : Kept ⟨m0, true⟩ s0 (x8) := by
    unfold x8
    refine State.admitResult_kept ?_
    assumption
  clear_value x8
  intro x9
  have hx9 : Kept ⟨m0, true⟩ s0 (x9) := by
    unfold x9
    refine State.iff_kept ?_ ?_
    · assumption
    · intro v10_0 v10_1
      refine kept_ite ?_ ?_
      · refine State.set_kept ?_
        refine State.set_kept ?_
        assumption
      · refine State.set_kept ?_
        assumption
  clear_value x9
  intro x11
  clear_value x11
  intro x12
  have hx12 : Kept ⟨m0, true⟩ s0 (x12) := by
    unfold x12
    refine State.setB_kept ?_
    refine State.vcoreTo_kept ?_
    assumption
  clear_value x12
  intro x13
  clear_value x13
  refine kept_ite ?_ ?_
  · assumption
  · refine kept_ite ?_ ?_
    · refine kept_mk ?_
      assumption
    · refine kept_mk ?_
      assumption

theorem execAdmissionComplete_kept {m0 : Bool} {s0 s : State} (h : Kept ⟨m0, true⟩ s0 s) : OutKept ⟨m0, true⟩ s0 (execAdmissionComplete s) := by
  unfold execAdmissionComplete
  split
  · refine done_kept ?_
    assumption
  · refine outKept_ite ?_ ?_
    · refine done_kept ?_
      refine State.admissionDone_kept ?_
      assumption
    · refine done_kept ?_
      assumption

theorem execLpeDiscard_kept {m0 : Bool} {s0 : State} {a1 : Requester} {s : State} (h : Kept ⟨m0, true⟩ s0 s) : OutKept ⟨m0, true⟩ s0 (execLpeDiscard a1 s) := by
  unfold execLpeDiscard
  refine done_kept ?_
  refine State.gate_kept ?_ ?_
  · assumption
  · intro v0_0 v0_1
    refine State.discardStaged_kept ?_
    assumption

theorem execLaneTest_kept {m0 : May} {s0 : State} {a1 : Requester} {a2 : BitVec 5} {s : State} (h : Kept m0 s0 s) : OutKept m0 s0 (execLaneTest a1 a2 s) := by
  unfold execLaneTest
  refine done_kept ?_
  refine State.gate_kept ?_ ?_
  · assumption
  · intro v0_0 v0_1
    refine State.settle_kept ?_
    refine State.each_kept ?_ ?_
    · assumption
    · intro v1_0 v1_1 v1_2
      refine State.laneTest_kept ?_
      assumption

theorem execLaneSelfTest_kept {m0 : May} {s0 : State} {a1 : Fin 5} {a2 : Bool} {s : State} (h : Kept m0 s0 s) : OutKept m0 s0 (execLaneSelfTest a1 a2 s) := by
  unfold execLaneSelfTest
  refine outKept_ite ?_ ?_
  · refine done_kept ?_
    refine State.settle_kept ?_
    refine State.laneTest_kept ?_
    assumption
  · refine done_kept ?_
    assumption

theorem State.clearFault_kept {m0 : May} {s0 s : State} {a2 : Fin 64} (h : Kept m0 s0 s) : Kept m0 s0 (State.clearFault s a2) := by
  unfold State.clearFault
  refine kept_ite ?_ ?_
  · refine State.setSlot_kept ?_
    refine State.setB_kept ?_
    assumption
  · assumption

theorem execLoopClearFault_kept {m0 : May} {s0 : State} {a1 : Requester} {a2 : Fin 64} {s : State} (h : Kept m0 s0 s) : OutKept m0 s0 (execLoopClearFault a1 a2 s) := by
  unfold execLoopClearFault
  refine done_kept ?_
  refine State.gate_kept ?_ ?_
  · assumption
  · intro v0_0 v0_1
    refine State.clearFault_kept ?_
    refine State.set_kept ?_
    assumption

theorem State.resetState_kept {m0 : May} {s0 s : State} {a2 : Fin 64} (h : Kept m0 s0 s) : Kept m0 s0 (State.resetState s a2) := by
  unfold State.resetState
  refine kept_ite ?_ ?_
  · assumption
  · refine State.setSlot_kept ?_
    assumption

theorem execLoopResetState_kept {m0 : May} {s0 : State} {a1 : Requester} {a2 : Fin 64} {s : State} (h : Kept m0 s0 s) : OutKept m0 s0 (execLoopResetState a1 a2 s) := by
  unfold execLoopResetState
  refine done_kept ?_
  refine State.gate_kept ?_ ?_
  · assumption
  · intro v0_0 v0_1
    refine State.resetState_kept ?_
    refine State.set_kept ?_
    assumption

theorem State.coefCheckSlot_kept {m0 : May} {s0 s : State} {a2 : Fin 64} {a3 : Bool} (h : Kept m0 s0 s) : Kept m0 s0 (State.coefCheckSlot s a2 a3) := by
  unfold State.coefCheckSlot
  refine kept_ite ?_ ?_
  · refine State.slotFail_kept ?_
    refine State.setBit_kept ?_
    assumption
  · assumption

theorem execCoefCrcCheck_kept {m0 : May} {s0 : State} {a1 : BitVec 64} {s : State} (h : Kept m0 s0 s) : OutKept m0 s0 (execCoefCrcCheck a1 s) := by
  unfold execCoefCrcCheck
  refine outKept_ite ?_ ?_
  · refine done_kept ?_
    assumption
  · lift_lets
    intro x0
    clear_value x0
    intro x1
    have hx1 : Kept m0 s0 (x1) := by
      unfold x1
      refine State.each_kept ?_ ?_
      · assumption
      · intro v2_0 v2_1 v2_2
        refine State.coefCheckSlot_kept ?_
        assumption
    clear_value x1
    intro x3
    have hx3 : Kept m0 s0 (x3).2 := by
      refine kept_of (fun q => q.2) (a := x3) (State.draw_kept ?_) rfl
      assumption
    clear_value x3
    refine outKept_ite ?_ ?_
    · refine done_kept ?_
      refine State.settle_kept ?_
      refine State.set_kept ?_
      assumption
    · refine done_kept ?_
      refine State.settle_kept ?_
      refine State.set_kept ?_
      assumption

theorem State.capTick_kept {m0 : May} {s0 s : State} {a2 : Nat} (h : Kept m0 s0 s) : Kept m0 s0 (State.capTick s a2) := by
  unfold State.capTick
  refine kept_mk ?_
  assumption

theorem State.capDecide_kept {m0 : May} {s0 s : State} (h : Kept m0 s0 s) : Kept m0 s0 (State.capDecide s) := by
  unfold State.capDecide
  lift_lets
  intro x0
  clear_value x0
  intro x1
  have hx1 : Kept m0 s0 (x1) := by
    unfold x1
    refine State.addSat_kept ?_
    assumption
  clear_value x1
  intro x2
  clear_value x2
  intro x3
  have hx3 : Kept m0 s0 (x3) := by
    unfold x3
    refine State.set_kept ?_
    refine State.set_kept ?_
    assumption
  clear_value x3
  intro x4
  clear_value x4
  refine kept_mk ?_
  assumption

theorem State.setLevel_kept {m0 : May} {s0 s : State} {a2 : Nat} (h : Kept m0 s0 s) : Kept m0 s0 (State.setLevel s a2) := by
  unfold State.setLevel
  refine State.set_kept ?_
  refine State.iff_kept ?_ ?_
  · assumption
  · intro v0_0 v0_1
    refine State.inc_kept ?_
    assumption

theorem State.setRef_kept {m0 : May} {s0 s : State} {a2 : Int} {a3 : Nat} (h : Kept m0 s0 s) : Kept m0 s0 (State.setRef s a2 a3) := by
  unfold State.setRef
  lift_lets
  intro x0
  have hx0 : Kept m0 s0 (x0) := by
    unfold x0
    refine State.setI_kept ?_
    assumption
  clear_value x0
  intro x1
  clear_value x1
  refine kept_mk ?_
  assumption

theorem State.capJudge_kept {m0 : May} {s0 s : State} {a2 : Int} (h : Kept m0 s0 s) : Kept m0 s0 (State.capJudge s a2).2 := by
  have p : ∀ {c : Prop} [Decidable c] {x y : Bool × State}, Kept m0 s0 x.2 → Kept m0 s0 y.2 → Kept m0 s0 (if c then x else y).2 := by
    intro c _ x y hx hy
    split <;> assumption
  refine p (State.capDecide_kept (kept_mk (State.inc_kept (State.setLevel_kept ?_)))) (p ?_ (p ?_ (kept_mk h)))
  · exact kept_ite (State.setRef_kept (kept_mk h)) (kept_mk h)
  · exact State.capDecide_kept (State.setRef_kept (State.setLevel_kept (kept_mk h)))
  · exact kept_ite (State.setRef_kept (State.capDecide_kept (kept_mk (State.setLevel_kept (State.setRef_kept (kept_mk h))))))
      (State.capDecide_kept (kept_mk (State.setLevel_kept (State.setRef_kept (kept_mk h)))))

theorem State.capSample_kept {m0 : May} {s0 s : State} (h : Kept m0 s0 s) : Kept m0 s0 (State.capSample s) := by
  unfold State.capSample
  lift_lets
  intro x0
  clear_value x0
  intro x1
  clear_value x1
  refine kept_mk ?_
  assumption

theorem State.capVolts_kept {m0 : May} {s0 s : State} (h : Kept m0 s0 s) : Kept m0 s0 (State.capVolts s) := by
  unfold State.capVolts
  refine kept_mk ?_
  assumption

theorem State.capCompare_kept {m0 : May} {s0 s : State} {a2 : Option Int} (h : Kept m0 s0 s) : Kept m0 s0 (State.capCompare s a2) := by
  unfold State.capCompare
  lift_lets
  intro x0
  have hx0 : Kept m0 s0 (x0) := by
    unfold x0
    split
    · refine State.setInvalid_kept ?_
      refine State.setInvalid_kept ?_
      refine State.setB_kept ?_
      assumption
    · refine State.capVolts_kept ?_
      refine State.setI_kept ?_
      refine State.setI_kept ?_
      refine State.setB_kept ?_
      assumption
  clear_value x0
  intro x1
  clear_value x1
  refine kept_mk ?_
  assumption

theorem execCapComparison_kept {m0 : May} {s0 : State} {a1 : Twice BusSamples} {a2 : List (Twice Int × Twice Int)} {a3 : List (Twice Int × Twice Int)} {s : State} (h : Kept m0 s0 s) : OutKept m0 s0 (execCapComparison a1 a2 a3 s) := by
  unfold execCapComparison
  refine outKept_ite ?_ ?_
  · refine done_kept ?_
    assumption
  · refine outKept_ite ?_ ?_
    · refine done_kept ?_
      refine kept_mk ?_
      assumption
    · lift_lets
      intro x0
      clear_value x0
      intro x1
      clear_value x1
      refine done_kept ?_
      refine State.capCompare_kept ?_
      refine State.busSamples_kept ?_
      assumption

theorem State.capWork_kept {m0 : May} {s0 s : State} (h : Kept m0 s0 s) : Kept m0 s0 (State.capWork s) := by
  unfold State.capWork
  split
  · assumption
  · lift_lets
    intro x0
    clear_value x0
    intro x1
    have hx1 : Kept m0 s0 (x1) := by
      unfold x1
      refine kept_mk ?_
      assumption
    clear_value x1
    intro x2
    have hx2 : Kept m0 s0 (x2).2 := by
      unfold x2
      split
      · dsimp only
        assumption
      · split
        · refine State.capJudge_kept ?_
          assumption
        · dsimp only
          assumption
    clear_value x2
    refine kept_ite ?_ ?_
    · assumption
    · refine State.settle_kept ?_
      refine State.iff_kept ?_ ?_
      · assumption
      · intro v3_0 v3_1
        refine State.capDecide_kept ?_
        assumption

theorem State.zoneSent_kept {m0 : May} {s0 s : State} {a2 : CapFrame} (h : Kept m0 s0 s) : Kept m0 s0 (State.zoneSent s a2) := by
  unfold State.zoneSent
  refine State.each_kept ?_ ?_
  · assumption
  · intro v0_0 v0_1 v0_2
    refine State.set_kept ?_
    assumption

theorem State.readBack_kept {m0 : May} {s0 s : State} {a2 : Bool} (h : Kept m0 s0 s) : Kept m0 s0 (State.readBack s a2) := by
  unfold State.readBack
  refine kept_ite ?_ ?_
  · lift_lets
    intro x0
    have hx0 : Kept m0 s0 (x0) := by
      unfold x0
      refine State.iff_kept ?_ ?_
      · refine State.inc_kept ?_
        assumption
      · intro v1_0 v1_1
        refine State.event_kept ?_
        assumption
    clear_value x0
    intro x2
    clear_value x2
    intro x3
    have hx3 : Kept m0 s0 (x3) := by
      unfold x3
      refine kept_mk ?_
      assumption
    clear_value x3
    refine State.iff_kept ?_ ?_
    · assumption
    · intro v4_0 v4_1
      refine State.setB_kept ?_
      assumption
  · lift_lets
    intro x5
    have hx5 : Kept m0 s0 (x5) := by
      unfold x5
      refine State.setB_kept ?_
      assumption
    clear_value x5
    intro x6
    clear_value x6
    refine kept_mk ?_
    assumption

theorem execCaplineSlot_kept {m0 : May} {s0 : State} {a1 : BitVec 64} {s : State} (h : Kept m0 s0 s) : OutKept m0 s0 (execCaplineSlot a1 s) := by
  unfold execCaplineSlot
  refine outKept_ite ?_ ?_
  · split
    · refine done_kept ?_
      assumption
    · lift_lets
      intro x0
      clear_value x0
      intro x1
      have hx1 : Kept m0 s0 (x1) := by
        unfold x1
        refine State.zoneSent_kept ?_
        refine State.set_kept ?_
        refine State.incWrap_kept ?_
        assumption
      clear_value x1
      intro x2
      clear_value x2
      refine done_kept ?_
      refine State.readBack_kept ?_
      refine kept_mk ?_
      assumption
  · refine done_kept ?_
    assumption

theorem execCaplineFrameRx_kept {m0 : May} {s0 s : State} (h : Kept m0 s0 s) : OutKept m0 s0 (execCaplineFrameRx s) := by
  unfold execCaplineFrameRx
  refine outKept_ite ?_ ?_
  · refine done_kept ?_
    assumption
  · refine done_kept ?_
    refine State.incWrap_kept ?_
    assumption

theorem State.capTest_kept {m0 : May} {s0 s : State} (h : Kept m0 s0 s) : Kept m0 s0 (State.capTest s) := by
  unfold State.capTest
  refine kept_ite ?_ ?_
  · refine State.event_kept ?_
    assumption
  · refine State.capDecide_kept ?_
    assumption

theorem execCapTest_kept {m0 : May} {s0 : State} {a1 : Requester} {s : State} (h : Kept m0 s0 s) : OutKept m0 s0 (execCapTest a1 s) := by
  unfold execCapTest
  refine done_kept ?_
  refine State.gate_kept ?_ ?_
  · assumption
  · intro v0_0 v0_1
    refine State.capTest_kept ?_
    assumption

theorem State.capProbe_kept {m0 : May} {s0 s : State} (h : Kept m0 s0 s) : Kept m0 s0 (State.capProbe s) := by
  unfold State.capProbe
  refine kept_mk ?_
  assumption

theorem execProbeNow_kept {m0 : May} {s0 : State} {a1 : Requester} {s : State} (h : Kept m0 s0 s) : OutKept m0 s0 (execProbeNow a1 s) := by
  unfold execProbeNow
  refine done_kept ?_
  refine State.gate_kept ?_ ?_
  · assumption
  · intro v0_0 v0_1
    refine State.capProbe_kept ?_
    assumption

end Sys2Proof.Machine
end

