-- ==== Sys2Proof/Laws/KeptPower.lean ====
section
/-! SUPPORT. What every operation keeps: the battery, the rails, the fuses, the temperatures, the power states. -/

namespace Sys2Proof.Machine

set_option linter.unusedVariables false
set_option Elab.async false

theorem State.setStr_kept {m0 : May} {s0 s : State} {a2 : Fin 8} {a3 : Str} (h : Kept m0 s0 s) : Kept m0 s0 (State.setStr s a2 a3) := by
  unfold State.setStr
  refine kept_mk ?_
  assumption

theorem State.tblCopy_kept {m0 : Bool} {s0 s : State} {a2 : Nat} {a3 : Nat} (h : Kept ⟨m0, true⟩ s0 s) : Kept ⟨m0, true⟩ s0 (State.tblCopy s a2 a3) := by
  unfold State.tblCopy
  refine State.setBytes_kept ?_
  assumption

theorem State.showStrTblCrc_kept {m0 : May} {s0 s : State} (h : Kept m0 s0 s) : Kept m0 s0 (State.showStrTblCrc s) := by
  unfold State.showStrTblCrc
  refine State.set_kept ?_
  assumption

theorem State.tblTake_kept {m0 : Bool} {s0 s : State} (h : Kept ⟨m0, true⟩ s0 s) : Kept ⟨m0, true⟩ s0 (State.tblTake s) := by
  unfold State.tblTake
  lift_lets
  intro x0
  have hx0 : Kept ⟨m0, true⟩ s0 (x0) := by
    unfold x0
    refine State.each_kept ?_ ?_
    · assumption
    · intro v1_0 v1_1 v1_2
      refine State.tblCopy_kept ?_
      assumption
  clear_value x0
  intro x2
  clear_value x2
  refine kept_mk ?_
  assumption

theorem State.batCommit_kept {m0 : Bool} {s0 s : State} (h : Kept ⟨m0, true⟩ s0 s) : Kept ⟨m0, true⟩ s0 (State.batCommit s) := by
  unfold State.batCommit
  lift_lets
  intro x0
  clear_value x0
  intro x1
  clear_value x1
  intro x2
  have hx2 : Kept ⟨m0, true⟩ s0 (x2) := by
    unfold x2
    refine kept_mk ?_
    assumption
  clear_value x2
  refine kept_ite ?_ ?_
  · refine State.storedChange_kept ?_
    refine State.showStrTblCrc_kept ?_
    refine State.tblCopy_kept ?_
    assumption
  · refine State.event_kept ?_
    refine State.inc_kept ?_
    assumption

theorem execBatTblCommit_kept {m0 : Bool} {s0 : State} {a1 : Requester} {s : State} (h : Kept ⟨m0, true⟩ s0 s) : OutKept ⟨m0, true⟩ s0 (execBatTblCommit a1 s) := by
  unfold execBatTblCommit
  refine done_kept ?_
  refine State.gate_kept ?_ ?_
  · assumption
  · intro v0_0 v0_1
    refine State.batCommit_kept ?_
    assumption

theorem State.tblNext_kept {m0 : May} {s0 s : State} (h : Kept m0 s0 s) : Kept m0 s0 (State.tblNext s) := by
  unfold State.tblNext
  refine State.iff_kept ?_ ?_
  · assumption
  · intro v0_0 v0_1
    refine State.set_kept ?_
    assumption

theorem State.tblRead_kept {m0 : May} {s0 s : State} (h : Kept m0 s0 s) : Kept m0 s0 (State.tblRead s) := by
  unfold State.tblRead
  lift_lets
  intro x0
  clear_value x0
  intro x1
  clear_value x1
  intro x2
  clear_value x2
  refine State.tblNext_kept ?_
  refine State.reply_kept ?_
  refine State.set_kept ?_
  assumption

theorem State.tblWrite_kept {m0 : Bool} {s0 s : State} {a2 : Word} (h : Kept ⟨m0, true⟩ s0 s) : Kept ⟨m0, true⟩ s0 (State.tblWrite s a2) := by
  unfold State.tblWrite
  lift_lets
  intro x0
  clear_value x0
  intro x1
  have hx1 : Kept ⟨m0, true⟩ s0 (x1) := by
    unfold x1
    refine State.set_kept ?_
    assumption
  clear_value x1
  refine State.tblNext_kept ?_
  refine kept_ite ?_ ?_
  · assumption
  · refine State.store_kept ?_
    assumption

theorem execBatTblDataAccess_kept {m0 : Bool} {s0 : State} {a1 : Requester} {a2 : Option Word} {s : State} (h : Kept ⟨m0, true⟩ s0 s) : OutKept ⟨m0, true⟩ s0 (execBatTblDataAccess a1 a2 s) := by
  unfold execBatTblDataAccess
  refine done_kept ?_
  split
  · refine State.gateRead_kept ?_ ?_
    · assumption
    · intro v0_0 v0_1
      refine State.tblRead_kept ?_
      assumption
  · refine State.gate_kept ?_ ?_
    · assumption
    · intro v1_0 v1_1
      refine State.tblWrite_kept ?_
      assumption

theorem State.modelStep_kept {m0 : May} {s0 s : State} {a2 : Fin 8} (h : Kept m0 s0 s) : Kept m0 s0 (State.modelStep s a2) := by
  unfold State.modelStep
  lift_lets
  intro x0
  clear_value x0
  intro x1
  clear_value x1
  intro x2
  clear_value x2
  intro x3
  clear_value x3
  refine State.setStr_kept ?_
  assumption

theorem State.showStr_kept {m0 : May} {s0 s : State} {a2 : Fin 8} (h : Kept m0 s0 s) : Kept m0 s0 (State.showStr s a2) := by
  unfold State.showStr
  refine kept_ite ?_ ?_
  · assumption
  · lift_lets
    intro x0
    clear_value x0
    intro x1
    clear_value x1
    intro x2
    have hx2 : Kept m0 s0 (x2) := by
      unfold x2
      split
      · refine State.setI_kept ?_
        assumption
      · refine State.setInvalid_kept ?_
        assumption
    clear_value x2
    intro x3
    have hx3 : Kept m0 s0 (x3) := by
      unfold x3
      refine State.set_kept ?_
      refine State.set_kept ?_
      assumption
    clear_value x3
    intro x4
    have hx4 : Kept m0 s0 (x4) := by
      unfold x4
      refine State.set_kept ?_
      assumption
    clear_value x4
    intro x5
    have hx5 : Kept m0 s0 (x5) := by
      unfold x5
      refine State.set_kept ?_
      assumption
    clear_value x5
    intro x6
    have hx6 : Kept m0 s0 (x6) := by
      unfold x6
      refine State.set_kept ?_
      refine State.set_kept ?_
      assumption
    clear_value x6
    refine State.set_kept ?_
    refine State.set_kept ?_
    assumption

theorem State.telStr_kept {m0 : May} {s0 s : State} {a2 : Fin 8} (h : Kept m0 s0 s) : Kept m0 s0 (State.telStr s a2) := by
  unfold State.telStr
  refine kept_ite ?_ ?_
  · assumption
  · lift_lets
    intro x0
    clear_value x0
    intro x1
    clear_value x1
    intro x2
    have hx2 : Kept m0 s0 (x2) := by
      unfold x2
      refine State.set_kept ?_
      assumption
    clear_value x2
    intro x3
    have hx3 : Kept m0 s0 (x3) := by
      unfold x3
      refine State.set_kept ?_
      assumption
    clear_value x3
    split
    · refine State.setI_kept ?_
      assumption
    · refine State.setInvalid_kept ?_
      assumption

theorem State.showSet_kept {m0 : May} {s0 s : State} {a2 : Fin 8} (h : Kept m0 s0 s) : Kept m0 s0 (State.showSet s a2) := by
  unfold State.showSet
  lift_lets
  intro x0
  clear_value x0
  intro x1
  clear_value x1
  intro x2
  have hx2 : Kept m0 s0 (x2) := by
    unfold x2
    refine State.set_kept ?_
    refine State.setB_kept ?_
    assumption
  clear_value x2
  intro x3
  have hx3 : Kept m0 s0 (x3) := by
    unfold x3
    refine State.iff_kept ?_ ?_
    · assumption
    · intro v4_0 v4_1
      refine State.setB_kept ?_
      assumption
  clear_value x3
  refine State.setB_kept ?_
  assumption

theorem State.clearFlags_kept {m0 : May} {s0 s : State} {a2 : Fin 8} (h : Kept m0 s0 s) : Kept m0 s0 (State.clearFlags s a2) := by
  unfold State.clearFlags
  lift_lets
  intro x0
  clear_value x0
  intro x1
  have hx1 : Kept m0 s0 (x1) := by
    unfold x1
    refine State.setB_kept ?_
    refine State.setB_kept ?_
    assumption
  clear_value x1
  refine State.showSet_kept ?_
  refine State.setB_kept ?_
  assumption

theorem State.showState_kept {m0 : May} {s0 s : State} {a2 : Fin 8} (h : Kept m0 s0 s) : Kept m0 s0 (State.showState s a2) := by
  unfold State.showState
  lift_lets
  intro x0
  clear_value x0
  refine State.set_kept ?_
  assumption

theorem State.strSave_kept {m0 : Bool} {s0 s : State} {a2 : Fin 8} (h : Kept ⟨m0, true⟩ s0 s) : Kept ⟨m0, true⟩ s0 (State.strSave s a2) := by
  unfold State.strSave
  refine State.countersWrite_kept ?_
  assumption

theorem State.arcSave_kept {m0 : Bool} {s0 s : State} {a2 : Fin 8} (h : Kept ⟨m0, true⟩ s0 s) : Kept ⟨m0, true⟩ s0 (State.arcSave s a2) := by
  unfold State.arcSave
  split
  · assumption
  · refine State.countersWrite_kept ?_
    assumption

theorem State.clipTake_kept {m0 : May} {s0 s : State} {a2 : Fin 8} (h : Kept m0 s0 s) : Kept m0 s0 (State.clipTake s a2).2 := by
  unfold State.clipTake
  dsimp only
  refine State.setStr_kept ?_
  assumption

theorem State.setSrc_kept {m0 : May} {s0 s : State} {a2 : Fin 8} {a3 : Nat} (h : Kept m0 s0 s) : Kept m0 s0 (State.setSrc s a2 a3) := by
  unfold State.setSrc
  lift_lets
  intro x0
  clear_value x0
  intro x1
  have hx1 : Kept m0 s0 (x1).2 := by
    refine kept_of (fun q => q.2) (a := x1) (State.clipTake_kept ?_) rfl
    refine State.set_kept ?_
    assumption
  clear_value x1
  intro x2
  clear_value x2
  refine kept_ite ?_ ?_
  · assumption
  · refine State.event_kept ?_
    assumption

theorem State.anchor_kept {m0 : May} {s0 s : State} {a2 : Fin 8} {a3 : Int} {a4 : Int} (h : Kept m0 s0 s) : Kept m0 s0 (State.anchor s a2 a3 a4) := by
  unfold State.anchor
  lift_lets
  intro x0
  clear_value x0
  refine State.setStr_kept ?_
  assumption

theorem State.seedAnchor_kept {m0 : May} {s0 s : State} {a2 : Fin 8} (h : Kept m0 s0 s) : Kept m0 s0 (State.seedAnchor s a2) := by
  unfold State.seedAnchor
  split
  · lift_lets
    intro x0
    clear_value x0
    intro x1
    have hx1 : Kept m0 s0 (x1) := by
      unfold x1
      refine State.setStr_kept ?_
      assumption
    clear_value x1
    refine State.setSrc_kept ?_
    refine State.anchor_kept ?_
    assumption
  · refine State.setSrc_kept ?_
    refine State.setStr_kept ?_
    assumption

theorem State.seed_kept {m0 : May} {s0 s : State} {a2 : Fin 8} {a3 : Bool} (h : Kept m0 s0 s) : Kept m0 s0 (State.seed s a2 a3) := by
  unfold State.seed
  lift_lets
  intro x0
  clear_value x0
  intro x1
  clear_value x1
  intro x2
  clear_value x2
  intro x3
  have hx3 : Kept m0 s0 (x3) := by
    unfold x3
    refine State.setStr_kept ?_
    assumption
  clear_value x3
  refine State.clearFlags_kept ?_
  assumption

theorem State.swapDone_kept {m0 : Bool} {s0 s : State} {a2 : Fin 8} {a3 : Nat} (h : Kept ⟨m0, true⟩ s0 s) : Kept ⟨m0, true⟩ s0 (State.swapDone s a2 a3) := by
  unfold State.swapDone
  refine State.strSave_kept ?_
  refine State.arcSave_kept ?_
  refine State.showSet_kept ?_
  refine State.event_kept ?_
  refine State.inc_kept ?_
  assumption

theorem State.reseed_kept {m0 : Bool} {s0 s : State} {a2 : Fin 8} (h : Kept ⟨m0, true⟩ s0 s) : Kept ⟨m0, true⟩ s0 (State.reseed s a2) := by
  unfold State.reseed
  refine State.swapDone_kept ?_
  refine State.seedAnchor_kept ?_
  refine State.seed_kept ?_
  assumption

theorem State.exchange_kept {m0 : Bool} {s0 s : State} {a2 : Fin 8} {a3 : Nat} (h : Kept ⟨m0, true⟩ s0 s) : Kept ⟨m0, true⟩ s0 (State.exchange s a2 a3) := by
  unfold State.exchange
  lift_lets
  intro x0
  clear_value x0
  split
  · assumption
  · lift_lets
    intro x1
    have hx1 : Kept ⟨m0, true⟩ s0 (x1) := by
      unfold x1
      refine State.setStr_kept ?_
      assumption
    clear_value x1
    refine State.swapDone_kept ?_
    refine State.seedAnchor_kept ?_
    refine State.clearFlags_kept ?_
    assumption

theorem State.swap_kept {m0 : Bool} {s0 s : State} {a2 : Fin 8} (h : Kept ⟨m0, true⟩ s0 s) : Kept ⟨m0, true⟩ s0 (State.swap s a2) := by
  unfold State.swap
  lift_lets
  intro x0
  clear_value x0
  intro x1
  have hx1 : Kept ⟨m0, true⟩ s0 (x1) := by
    unfold x1
    refine State.setStr_kept ?_
    assumption
  clear_value x1
  split
  · refine kept_ite ?_ ?_
    · refine State.exchange_kept ?_
      assumption
    · refine State.swapDone_kept ?_
      refine State.seedAnchor_kept ?_
      refine State.seed_kept ?_
      assumption
  · refine State.swapDone_kept ?_
    refine State.seedAnchor_kept ?_
    refine State.seed_kept ?_
    assumption

theorem execBatReseed_kept {m0 : Bool} {s0 : State} {a1 : Requester} {a2 : Fin 8} {s : State} (h : Kept ⟨m0, true⟩ s0 s) : OutKept ⟨m0, true⟩ s0 (execBatReseed a1 a2 s) := by
  unfold execBatReseed
  refine done_kept ?_
  refine State.gate_kept ?_ ?_
  · assumption
  · intro v0_0 v0_1
    refine kept_ite ?_ ?_
    · refine State.reseed_kept ?_
      assumption
    · assumption

theorem execBatRestore_kept {m0 : Bool} {s0 : State} {a1 : Requester} {a2 : Fin 8} {s : State} (h : Kept ⟨m0, true⟩ s0 s) : OutKept ⟨m0, true⟩ s0 (execBatRestore a1 a2 s) := by
  unfold execBatRestore
  refine done_kept ?_
  refine State.gate_kept ?_ ?_
  · assumption
  · intro v0_0 v0_1
    refine kept_ite ?_ ?_
    · refine State.exchange_kept ?_
      assumption
    · assumption

theorem State.strOpen_kept {m0 : Bool} {s0 s : State} {a2 : Fin 8} {a3 : Nat} (h : Kept ⟨m0, true⟩ s0 s) : Kept ⟨m0, true⟩ s0 (State.strOpen s a2 a3) := by
  unfold State.strOpen
  refine kept_ite ?_ ?_
  · assumption
  · lift_lets
    intro x0
    clear_value x0
    intro x1
    clear_value x1
    intro x2
    have hx2 : Kept ⟨m0, true⟩ s0 (x2) := by
      unfold x2
      refine State.setStr_kept ?_
      assumption
    clear_value x2
    intro x3
    have hx3 : Kept ⟨m0, true⟩ s0 (x3) := by
      unfold x3
      refine State.iff_kept ?_ ?_
      · assumption
      · intro v4_0 v4_1
        refine State.set_kept ?_
        assumption
    clear_value x3
    intro x5
    have hx5 : Kept ⟨m0, true⟩ s0 (x5) := by
      unfold x5
      refine State.iff_kept ?_ ?_
      · assumption
      · intro v6_0 v6_1
        refine State.trigger_kept ?_
        assumption
    clear_value x5
    intro x7
    have hx7 : Kept ⟨m0, true⟩ s0 (x7) := by
      unfold x7
      refine State.setBit_kept ?_
      refine State.setBit_kept ?_
      assumption
    clear_value x7
    refine State.showState_kept ?_
    refine State.iff_kept ?_ ?_
    · assumption
    · intro v8_0 v8_1
      refine State.event_kept ?_
      assumption

theorem State.causeGone_kept {m0 : May} {s0 s : State} {a2 : Fin 8} {a3 : Nat} (h : Kept m0 s0 s) : Kept m0 s0 (State.causeGone s a2 a3) := by
  unfold State.causeGone
  lift_lets
  intro x0
  clear_value x0
  intro x1
  clear_value x1
  intro x2
  have hx2 : Kept m0 s0 (x2) := by
    unfold x2
    refine State.setStr_kept ?_
    assumption
  clear_value x2
  refine kept_ite ?_ ?_
  · refine State.set_kept ?_
    assumption
  · assumption

theorem State.strClose_kept {m0 : May} {s0 s : State} {a2 : Fin 8} (h : Kept m0 s0 s) : Kept m0 s0 (State.strClose s a2) := by
  unfold State.strClose
  lift_lets
  intro x0
  clear_value x0
  intro x1
  have hx1 : Kept m0 s0 (x1) := by
    unfold x1
    refine State.setStr_kept ?_
    assumption
  clear_value x1
  intro x2
  have hx2 : Kept m0 s0 (x2) := by
    unfold x2
    refine State.setBit_kept ?_
    refine State.set_kept ?_
    assumption
  clear_value x2
  refine State.showState_kept ?_
  refine State.event_kept ?_
  assumption

theorem State.chargeCount_kept {m0 : May} {s0 s : State} (h : Kept m0 s0 s) : Kept m0 s0 (State.chargeCount s) := by
  unfold State.chargeCount
  refine kept_ite ?_ ?_
  · refine kept_mk ?_
    assumption
  · assumption

theorem execBatOpen_kept {m0 : Bool} {s0 : State} {a1 : Requester} {a2 : Fin 8} {s : State} (h : Kept ⟨m0, true⟩ s0 s) : OutKept ⟨m0, true⟩ s0 (execBatOpen a1 a2 s) := by
  unfold execBatOpen
  refine done_kept ?_
  refine State.gate_kept ?_ ?_
  · assumption
  · intro v0_0 v0_1
    refine kept_ite ?_ ?_
    · assumption
    · refine State.iff_kept ?_ ?_
      · refine State.noteWrite_kept ?_
        assumption
      · intro v1_0 v1_1
        refine State.settle_kept ?_
        refine State.strOpen_kept ?_
        assumption

theorem State.batClose_kept {m0 : May} {s0 s : State} {a2 : Fin 8} (h : Kept m0 s0 s) : Kept m0 s0 (State.batClose s a2) := by
  unfold State.batClose
  lift_lets
  intro x0
  have hx0 : Kept m0 s0 (x0) := by
    unfold x0
    refine State.causeGone_kept ?_
    refine State.causeGone_kept ?_
    assumption
  clear_value x0
  intro x1
  clear_value x1
  refine kept_ite ?_ ?_
  · refine State.setStr_kept ?_
    assumption
  · refine State.event_kept ?_
    assumption

theorem State.closeDue_kept {m0 : May} {s0 s : State} (h : Kept m0 s0 s) : Kept m0 s0 (State.closeDue s) := by
  unfold State.closeDue
  lift_lets
  intro x0
  clear_value x0
  intro x1
  clear_value x1
  intro x2
  have hx2 : Kept m0 s0 (x2) := by
    unfold x2
    refine State.each_kept ?_ ?_
    · assumption
    · intro v3_0 v3_1 v3_2
      lift_lets
      intro x4
      have hx4 : Kept m0 s0 (x4) := by
        unfold x4
        refine State.iff_kept ?_ ?_
        · assumption
        · intro v5_0 v5_1
          refine State.event_kept ?_
          assumption
      clear_value x4
      intro x6
      clear_value x6
      refine State.setStr_kept ?_
      assumption
  clear_value x2
  refine kept_ite ?_ ?_
  · assumption
  · refine State.settle_kept ?_
    refine State.chargeCount_kept ?_
    refine State.each_kept ?_ ?_
    · assumption
    · intro v7_0 v7_1 v7_2
      refine State.strClose_kept ?_
      assumption

theorem execBatClose_kept {m0 : May} {s0 : State} {a1 : Requester} {a2 : Fin 8} {s : State} (h : Kept m0 s0 s) : OutKept m0 s0 (execBatClose a1 a2 s) := by
  unfold execBatClose
  refine done_kept ?_
  refine State.gate_kept ?_ ?_
  · assumption
  · intro v0_0 v0_1
    refine kept_ite ?_ ?_
    · refine State.event_kept ?_
      assumption
    · refine State.ranked_kept ?_ ?_
      · assumption
      · intro v1_0 v1_1
        refine State.batClose_kept ?_
        assumption

theorem execStringReconnect_kept {m0 : May} {s0 : State} {a1 : Fin 8} {s : State} (h : Kept m0 s0 s) : OutKept m0 s0 (execStringReconnect a1 s) := by
  unfold execStringReconnect
  refine outKept_ite ?_ ?_
  · refine done_kept ?_
    refine State.setStr_kept ?_
    assumption
  · refine done_kept ?_
    assumption

theorem execStringTrip_kept {m0 : Bool} {s0 : State} {a1 : Fin 8} {s : State} (h : Kept ⟨m0, true⟩ s0 s) : OutKept ⟨m0, true⟩ s0 (execStringTrip a1 s) := by
  unfold execStringTrip
  refine outKept_ite ?_ ?_
  · refine done_kept ?_
    refine State.settle_kept ?_
    refine State.strOpen_kept ?_
    assumption
  · refine done_kept ?_
    assumption

theorem State.strEmptyEntry_kept {m0 : Bool} {s0 s : State} {a2 : Fin 8} (h : Kept ⟨m0, true⟩ s0 s) : Kept ⟨m0, true⟩ s0 (State.strEmptyEntry s a2) := by
  unfold State.strEmptyEntry
  lift_lets
  intro x0
  clear_value x0
  intro x1
  clear_value x1
  intro x2
  clear_value x2
  intro x3
  clear_value x3
  intro x4
  have hx4 : Kept ⟨m0, true⟩ s0 (x4) := by
    unfold x4
    refine State.iff_kept ?_ ?_
    · assumption
    · intro v5_0 v5_1
      refine State.setB_kept ?_
      assumption
  clear_value x4
  intro x6
  have hx6 : Kept ⟨m0, true⟩ s0 (x6) := by
    unfold x6
    refine kept_ite ?_ ?_
    · assumption
    · refine State.anchor_kept ?_
      assumption
  clear_value x6
  intro x7
  have hx7 : Kept ⟨m0, true⟩ s0 (x7).2 := by
    refine kept_of (fun q => q.2) (a := x7) (State.clipTake_kept ?_) rfl
    refine State.showState_kept ?_
    refine State.setBit_kept ?_
    assumption
  clear_value x7
  intro x8
  have hx8 : Kept ⟨m0, true⟩ s0 (x8) := by
    unfold x8
    refine State.event_kept ?_
    assumption
  clear_value x8
  intro x9
  have hx9 : Kept ⟨m0, true⟩ s0 (x9) := by
    unfold x9
    refine kept_ite ?_ ?_
    · assumption
    · refine State.setSrc_kept ?_
      assumption
  clear_value x9
  refine State.showStr_kept ?_
  refine State.strSave_kept ?_
  assumption

theorem execEmptyEnd_kept {m0 : May} {s0 : State} {a1 : Fin 8} {s : State} (h : Kept m0 s0 s) : OutKept m0 s0 (execEmptyEnd a1 s) := by
  unfold execEmptyEnd
  refine outKept_ite ?_ ?_
  · refine done_kept ?_
    refine State.showState_kept ?_
    refine State.setBit_kept ?_
    assumption
  · refine done_kept ?_
    assumption

theorem State.count_kept {m0 : May} {s0 s : State} {a2 : Fin 8} (h : Kept m0 s0 s) : Kept m0 s0 (State.count s a2) := by
  unfold State.count
  lift_lets
  intro x0
  clear_value x0
  intro x1
  clear_value x1
  intro x2
  clear_value x2
  intro x3
  clear_value x3
  intro x4
  clear_value x4
  intro x5
  clear_value x5
  intro x6
  clear_value x6
  intro x7
  clear_value x7
  intro x8
  clear_value x8
  refine State.setStr_kept ?_
  assumption

theorem State.judgeSrc_kept {m0 : Bool} {s0 s : State} {a2 : Fin 8} (h : Kept ⟨m0, true⟩ s0 s) : Kept ⟨m0, true⟩ s0 (State.judgeSrc s a2) := by
  unfold State.judgeSrc
  lift_lets
  intro x0
  clear_value x0
  intro x1
  clear_value x1
  intro x2
  clear_value x2
  intro x3
  clear_value x3
  intro x4
  clear_value x4
  intro x5
  clear_value x5
  intro x6
  have hx6 : Kept ⟨m0, true⟩ s0 (x6) := by
    unfold x6
    refine State.setB_kept ?_
    refine State.setStr_kept ?_
    assumption
  clear_value x6
  intro x7
  have hx7 : Kept ⟨m0, true⟩ s0 (x7) := by
    unfold x7
    split
    · refine State.anchor_kept ?_
      assumption
    · assumption
  clear_value x7
  refine kept_ite ?_ ?_
  · refine State.setSrc_kept ?_
    assumption
  · refine kept_ite ?_ ?_
    · refine State.setSrc_kept ?_
      refine State.setStr_kept ?_
      assumption
    · refine kept_ite ?_ ?_
      · assumption
      · refine kept_ite ?_ ?_
        · refine State.setSrc_kept ?_
          assumption
        · refine kept_ite ?_ ?_
          · refine State.setSrc_kept ?_
            assumption
          · refine kept_ite ?_ ?_
            · refine State.strSave_kept ?_
              refine State.setSrc_kept ?_
              assumption
            · assumption

theorem State.strUpdate_kept {m0 : Bool} {s0 s : State} {a2 : Fin 8} (h : Kept ⟨m0, true⟩ s0 s) : Kept ⟨m0, true⟩ s0 (State.strUpdate s a2) := by
  unfold State.strUpdate
  lift_lets
  intro x0
  have hx0 : Kept ⟨m0, true⟩ s0 (x0) := by
    unfold x0
    refine State.count_kept ?_
    assumption
  clear_value x0
  intro x1
  clear_value x1
  intro x2
  have hx2 : Kept ⟨m0, true⟩ s0 (x2) := by
    unfold x2
    refine State.iff_kept ?_ ?_
    · assumption
    · intro v3_0 v3_1
      refine State.modelStep_kept ?_
      assumption
  clear_value x2
  intro x4
  have hx4 : Kept ⟨m0, true⟩ s0 (x4) := by
    unfold x4
    refine State.iff_kept ?_ ?_
    · assumption
    · intro v5_0 v5_1
      lift_lets
      intro x6
      clear_value x6
      refine State.setStr_kept ?_
      assumption
  clear_value x4
  intro x7
  have hx7 : Kept ⟨m0, true⟩ s0 (x7) := by
    unfold x7
    refine State.iff_kept ?_ ?_
    · assumption
    · intro v8_0 v8_1
      refine State.strSave_kept ?_
      refine State.seedAnchor_kept ?_
      assumption
  clear_value x7
  intro x9
  clear_value x9
  intro x10
  have hx10 : Kept ⟨m0, true⟩ s0 (x10) := by
    unfold x10
    refine State.setStr_kept ?_
    assumption
  clear_value x10
  intro x11
  have hx11 : Kept ⟨m0, true⟩ s0 (x11) := by
    unfold x11
    refine State.iff_kept ?_ ?_
    · assumption
    · intro v12_0 v12_1
      lift_lets
      intro x13
      clear_value x13
      refine State.setStr_kept ?_
      assumption
  clear_value x11
  intro x14
  have hx14 : Kept ⟨m0, true⟩ s0 (x14) := by
    unfold x14
    refine State.iff_kept ?_ ?_
    · assumption
    · intro v15_0 v15_1
      refine State.strEmptyEntry_kept ?_
      assumption
  clear_value x14
  intro x16
  have hx16 : Kept ⟨m0, true⟩ s0 (x16) := by
    unfold x16
    refine State.iff_kept ?_ ?_
    · assumption
    · intro v17_0 v17_1
      refine State.judgeSrc_kept ?_
      assumption
  clear_value x16
  refine State.showStr_kept ?_
  refine State.showSet_kept ?_
  assumption

theorem State.chargeReq_kept {m0 : May} {s0 s : State} (h : Kept m0 s0 s) : Kept m0 s0 (State.chargeReq s) := by
  unfold State.chargeReq
  lift_lets
  intro x0
  clear_value x0
  intro x1
  clear_value x1
  refine State.set_kept ?_
  assumption

theorem execBatteryUpdate_kept {m0 : Bool} {s0 s : State} (h : Kept ⟨m0, true⟩ s0 s) : OutKept ⟨m0, true⟩ s0 (execBatteryUpdate s) := by
  unfold execBatteryUpdate
  refine outKept_ite ?_ ?_
  · refine done_kept ?_
    assumption
  · lift_lets
    intro x0
    have hx0 : Kept ⟨m0, true⟩ s0 (x0) := by
      unfold x0
      refine State.tblTake_kept ?_
      assumption
    clear_value x0
    refine done_kept ?_
    refine State.settle_kept ?_
    refine State.chargeReq_kept ?_
    refine State.each_kept ?_ ?_
    · assumption
    · intro v1_0 v1_1 v1_2
      refine State.strUpdate_kept ?_
      assumption

theorem State.means2s_kept {m0 : May} {s0 s : State} (h : Kept m0 s0 s) : Kept m0 s0 (State.means2s s) := by
  unfold State.means2s
  refine kept_ite ?_ ?_
  · assumption
  · lift_lets
    intro x0
    clear_value x0
    intro x1
    clear_value x1
    intro x2
    clear_value x2
    intro x3
    clear_value x3
    intro x4
    have hx4 : Kept m0 s0 (x4) := by
      unfold x4
      refine kept_mk ?_
      assumption
    clear_value x4
    refine State.each_kept ?_ ?_
    · assumption
    · intro v5_0 v5_1 v5_2
      lift_lets
      intro x6
      clear_value x6
      intro x7
      have hx7 : Kept m0 s0 (x7) := by
        unfold x7
        refine State.iff_kept ?_ ?_
        · assumption
        · intro v8_0 v8_1
          refine State.setBit_kept ?_
          assumption
      clear_value x7
      intro x9
      clear_value x9
      refine State.setStr_kept ?_
      assumption

theorem execMean2s_kept {m0 : May} {s0 s : State} (h : Kept m0 s0 s) : OutKept m0 s0 (execMean2s s) := by
  unfold execMean2s
  refine done_kept ?_
  refine State.means2s_kept ?_
  assumption

theorem execPertResume_kept {m0 : May} {s0 s : State} (h : Kept m0 s0 s) : OutKept m0 s0 (execPertResume s) := by
  unfold execPertResume
  refine outKept_ite ?_ ?_
  · refine done_kept ?_
    refine kept_mk ?_
    assumption
  · refine done_kept ?_
    assumption

theorem State.learnPair_kept {m0 : May} {s0 s : State} {a2 : Fin 8} {a3 : Int} {a4 : Int} (h : Kept m0 s0 s) : Kept m0 s0 (State.learnPair s a2 a3 a4) := by
  unfold State.learnPair
  lift_lets
  intro x0
  clear_value x0
  intro x1
  clear_value x1
  intro x2
  clear_value x2
  intro x3
  clear_value x3
  intro x4
  have hx4 : Kept m0 s0 (x4) := by
    unfold x4
    refine State.setStr_kept ?_
    assumption
  clear_value x4
  refine State.clearFlags_kept ?_
  refine State.event_kept ?_
  refine State.inc_kept ?_
  assumption

theorem State.takeRest_kept {m0 : Bool} {s0 s : State} {a2 : Fin 8} {a3 : Int × Nat} {a4 : Bool} (h : Kept ⟨m0, true⟩ s0 s) : Kept ⟨m0, true⟩ s0 (State.takeRest s a2 a3 a4) := by
  unfold State.takeRest
  extract_lets q keep t x src p y
  have hk : ∀ u, Kept ⟨m0, true⟩ s0 u → Kept ⟨m0, true⟩ s0 (keep u) := fun _ hu => State.setStr_kept hu
  clear_value keep
  have ht : Kept ⟨m0, true⟩ s0 t := by
    unfold t
    refine kept_ite h ?_
    rcases ((s.str a2).set_).p1 with _ | p
    · exact hk _ h
    · dsimp only
      generalize s.pairOk a2 p q = u
      generalize s.spanOk p q = v
      rcases u with _ | r
      · exact hk _ h
      · cases v
        · exact h
        · exact hk _ (State.learnPair_kept h)
  have hp : Kept ⟨m0, true⟩ s0 p.2 := kept_of (fun q => q.2) (a := p) (State.clipTake_kept (State.anchor_kept ht)) rfl
  clear_value p
  exact State.strSave_kept (kept_ite (kept_ite (State.setSrc_kept (State.event_kept hp)) (State.event_kept hp)) ht)

theorem State.strSample_kept {m0 : May} {s0 s : State} {a2 : Fin 8} (h : Kept m0 s0 s) : Kept m0 s0 (State.strSample s a2) := by
  unfold State.strSample
  lift_lets
  intro x0
  clear_value x0
  intro x1
  clear_value x1
  intro x2
  clear_value x2
  intro x3
  clear_value x3
  split
  · assumption
  · lift_lets
    intro x4
    clear_value x4
    refine kept_ite ?_ ?_
    · assumption
    · refine State.setStr_kept ?_
      assumption

theorem State.currentSample_kept {m0 : May} {s0 s : State} {a2 : Fin 8} (h : Kept m0 s0 s) : Kept m0 s0 (State.currentSample s a2) := by
  unfold State.currentSample
  refine kept_ite ?_ ?_
  · lift_lets
    intro x0
    clear_value x0
    intro x1
    clear_value x1
    intro x2
    clear_value x2
    intro x3
    clear_value x3
    refine State.setStr_kept ?_
    assumption
  · assumption

theorem State.minuteMean_kept {m0 : May} {s0 s : State} {a2 : Fin 8} (h : Kept m0 s0 s) : Kept m0 s0 (State.minuteMean s a2) := by
  unfold State.minuteMean
  lift_lets
  intro x0
  clear_value x0
  refine kept_ite ?_ ?_
  · assumption
  · refine State.setStr_kept ?_
    assumption

theorem execMinuteMean_kept {m0 : May} {s0 : State} {a1 : Unit} {s : State} (h : Kept m0 s0 s) : OutKept m0 s0 (execMinuteMean a1 s) := by
  unfold execMinuteMean
  refine outKept_ite ?_ ?_
  · refine done_kept ?_
    assumption
  · lift_lets
    intro x0
    have hx0 : Kept m0 s0 (x0) := by
      unfold x0
      refine State.each_kept ?_ ?_
      · refine State.means2s_kept ?_
        assumption
      · intro v1_0 v1_1 v1_2
        refine State.strSample_kept ?_
        assumption
    clear_value x0
    intro x2
    clear_value x2
    intro x3
    have hx3 : Kept m0 s0 (x3) := by
      unfold x3
      refine State.each_kept ?_ ?_
      · assumption
      · intro v4_0 v4_1 v4_2
        refine State.minuteMean_kept ?_
        assumption
    clear_value x3
    refine done_kept ?_
    refine State.each_kept ?_ ?_
    · assumption
    · intro v5_0 v5_1 v5_2
      lift_lets
      intro x6
      clear_value x6
      refine State.setBit_kept ?_
      refine State.setStr_kept ?_
      assumption

theorem State.restPoints_kept {m0 : Bool} {s0 s : State} (h : Kept ⟨m0, true⟩ s0 s) : Kept ⟨m0, true⟩ s0 (State.restPoints s) := by
  unfold State.restPoints
  refine State.each_kept ?_ ?_
  · assumption
  · intro v0_0 v0_1 v0_2
    refine State.takeRest_kept ?_
    refine State.setStr_kept ?_
    assumption

theorem execWakeRestGiveup_kept {m0 : Bool} {s0 s : State} (h : Kept ⟨m0, true⟩ s0 s) : OutKept ⟨m0, true⟩ s0 (execWakeRestGiveup s) := by
  unfold execWakeRestGiveup
  refine done_kept ?_
  refine State.each_kept ?_ ?_
  · assumption
  · intro v0_0 v0_1 v0_2
    lift_lets
    intro x1
    clear_value x1
    intro x2
    clear_value x2
    refine kept_ite ?_ ?_
    · refine State.setStr_kept ?_
      refine State.takeRest_kept ?_
      assumption
    · refine kept_ite ?_ ?_
      · refine State.setStr_kept ?_
        assumption
      · assumption

theorem execDaysIncrement_kept {m0 : May} {s0 : State} {a1 : Fin 8} {s : State} (h : Kept m0 s0 s) : OutKept m0 s0 (execDaysIncrement a1 s) := by
  unfold execDaysIncrement
  lift_lets
  intro x0
  clear_value x0
  intro x1
  clear_value x1
  refine outKept_ite ?_ ?_
  · refine done_kept ?_
    refine State.showSet_kept ?_
    refine State.setStr_kept ?_
    assumption
  · refine done_kept ?_
    assumption

theorem execBatRecordWrite_kept {m0 : Bool} {s0 s : State} (h : Kept ⟨m0, true⟩ s0 s) : OutKept ⟨m0, true⟩ s0 (execBatRecordWrite s) := by
  unfold execBatRecordWrite
  refine outKept_ite ?_ ?_
  · refine done_kept ?_
    assumption
  · refine done_kept ?_
    refine State.each_kept ?_ ?_
    · assumption
    · intro v0_0 v0_1 v0_2
      refine State.strSave_kept ?_
      assumption

theorem State.demod_kept {m0 : May} {s0 s : State} {a2 : Fin 8} (h : Kept m0 s0 s) : Kept m0 s0 (State.demod s a2) := by
  unfold State.demod
  lift_lets
  intro x0
  clear_value x0
  intro x1
  have hx1 : Kept m0 s0 (x1) := by
    unfold x1
    refine State.inc_kept ?_
    assumption
  clear_value x1
  intro x2
  clear_value x2
  intro x3
  clear_value x3
  intro x4
  clear_value x4
  refine kept_ite ?_ ?_
  · refine State.inc_kept ?_
    assumption
  · refine kept_ite ?_ ?_
    · assumption
    · refine State.showSet_kept ?_
      refine State.setStr_kept ?_
      assumption

theorem execDemodWindowEnd_kept {m0 : May} {s0 : State} {a1 : Unit} {s : State} (h : Kept m0 s0 s) : OutKept m0 s0 (execDemodWindowEnd a1 s) := by
  unfold execDemodWindowEnd
  refine outKept_ite ?_ ?_
  · refine done_kept ?_
    assumption
  · lift_lets
    intro x0
    have hx0 : Kept m0 s0 (x0) := by
      unfold x0
      refine State.each_kept ?_ ?_
      · assumption
      · intro v1_0 v1_1 v1_2
        refine State.strSample_kept ?_
        assumption
    clear_value x0
    intro x2
    clear_value x2
    intro x3
    have hx3 : Kept m0 s0 (x3) := by
      unfold x3
      refine State.iff_kept ?_ ?_
      · assumption
      · intro v4_0 v4_1
        refine State.each_kept ?_ ?_
        · assumption
        · intro v5_0 v5_1 v5_2
          refine State.demod_kept ?_
          assumption
    clear_value x3
    intro x6
    have hx6 : Kept m0 s0 (x6) := by
      unfold x6
      refine State.each_kept ?_ ?_
      · assumption
      · intro v7_0 v7_1 v7_2
        lift_lets
        intro x8
        clear_value x8
        refine State.setStr_kept ?_
        assumption
    clear_value x6
    intro x9
    clear_value x9
    refine done_kept ?_
    refine kept_mk ?_
    assumption

theorem State.presence_kept {m0 : Bool} {s0 s : State} {a2 : Fin 8} (h : Kept ⟨m0, true⟩ s0 s) : Kept ⟨m0, true⟩ s0 (State.presence s a2) := by
  unfold State.presence
  lift_lets
  intro x0
  clear_value x0
  intro x1
  clear_value x1
  intro x2
  clear_value x2
  intro x3
  clear_value x3
  intro x4
  clear_value x4
  intro x5
  clear_value x5
  intro x6
  clear_value x6
  intro x7
  have hx7 : Kept ⟨m0, true⟩ s0 (x7) := by
    unfold x7
    refine State.setB_kept ?_
    assumption
  clear_value x7
  intro x8
  have hx8 : Kept ⟨m0, true⟩ s0 (x8) := by
    unfold x8
    refine State.setB_kept ?_
    refine State.setBit_kept ?_
    assumption
  clear_value x8
  intro x9
  have hx9 : Kept ⟨m0, true⟩ s0 (x9) := by
    unfold x9
    refine State.setStr_kept ?_
    assumption
  clear_value x9
  intro x10
  clear_value x10
  intro x11
  have hx11 : Kept ⟨m0, true⟩ s0 (x11) := by
    unfold x11
    refine State.setB_kept ?_
    refine State.setBit_kept ?_
    assumption
  clear_value x11
  intro x12
  have hx12 : Kept ⟨m0, true⟩ s0 (x12) := by
    unfold x12
    split
    · refine State.set_kept ?_
      assumption
    · assumption
  clear_value x12
  intro x13
  clear_value x13
  intro x14
  have hx14 : Kept ⟨m0, true⟩ s0 (x14) := by
    unfold x14
    refine State.setStr_kept ?_
    assumption
  clear_value x14
  intro x15
  clear_value x15
  intro x16
  clear_value x16
  intro x17
  clear_value x17
  intro x18
  have hx18 : Kept ⟨m0, true⟩ s0 (x18) := by
    unfold x18
    split
    · refine State.setStr_kept ?_
      assumption
    · assumption
  clear_value x18
  intro x19
  have hx19 : Kept ⟨m0, true⟩ s0 (x19) := by
    unfold x19
    refine State.iff_kept ?_ ?_
    · assumption
    · intro v20_0 v20_1
      refine State.swap_kept ?_
      refine State.strOpen_kept ?_
      assumption
  clear_value x19
  intro x21
  have hx21 : Kept ⟨m0, true⟩ s0 (x21) := by
    unfold x21
    refine kept_ite ?_ ?_
    · refine State.strOpen_kept ?_
      assumption
    · assumption
  clear_value x21
  refine kept_ite ?_ ?_
  · refine State.showState_kept ?_
    refine State.strOpen_kept ?_
    assumption
  · refine State.showState_kept ?_
    assumption

theorem execPresenceChange_kept {m0 : Bool} {s0 : State} {a1 : Fin 8} {s : State} (h : Kept ⟨m0, true⟩ s0 s) : OutKept ⟨m0, true⟩ s0 (execPresenceChange a1 s) := by
  unfold execPresenceChange
  refine outKept_ite ?_ ?_
  · refine done_kept ?_
    refine State.settle_kept ?_
    refine State.presence_kept ?_
    assumption
  · refine done_kept ?_
    assumption

theorem execStrIdConversion_kept {m0 : Bool} {s0 : State} {a1 : Fin 8} {s : State} (h : Kept ⟨m0, true⟩ s0 s) : OutKept ⟨m0, true⟩ s0 (execStrIdConversion a1 s) := by
  unfold execStrIdConversion
  lift_lets
  intro x0
  clear_value x0
  intro x1
  clear_value x1
  intro x2
  clear_value x2
  intro x3
  have hx3 : Kept ⟨m0, true⟩ s0 (x3) := by
    unfold x3
    refine State.setStr_kept ?_
    assumption
  clear_value x3
  refine outKept_ite ?_ ?_
  · refine outKept_ite ?_ ?_
    · refine done_kept ?_
      refine State.settle_kept ?_
      refine State.presence_kept ?_
      assumption
    · refine done_kept ?_
      assumption
  · refine done_kept ?_
    assumption

theorem State.idRestart_kept {m0 : Bool} {s0 s : State} {a2 : Fin 8} (h : Kept ⟨m0, true⟩ s0 s) : Kept ⟨m0, true⟩ s0 (State.idRestart s a2) := by
  unfold State.idRestart
  lift_lets
  intro x0
  clear_value x0
  intro x1
  clear_value x1
  intro x2
  have hx2 : Kept ⟨m0, true⟩ s0 (x2) := by
    unfold x2
    refine State.setStr_kept ?_
    assumption
  clear_value x2
  intro x3
  have hx3 : Kept ⟨m0, true⟩ s0 (x3) := by
    unfold x3
    refine State.setB_kept ?_
    refine State.setBit_kept ?_
    refine State.setB_kept ?_
    assumption
  clear_value x3
  refine kept_ite ?_ ?_
  · refine State.presence_kept ?_
    assumption
  · refine State.showState_kept ?_
    assumption

theorem State.strRestore_kept {m0 : Bool} {s0 s : State} {a2 : Fin 8} (h : Kept ⟨m0, true⟩ s0 s) : Kept ⟨m0, true⟩ s0 (State.strRestore s a2) := by
  unfold State.strRestore
  lift_lets
  intro x0
  clear_value x0
  intro x1
  clear_value x1
  intro x2
  clear_value x2
  intro x3
  clear_value x3
  intro x4
  clear_value x4
  intro x5
  clear_value x5
  intro x6
  clear_value x6
  intro x7
  clear_value x7
  intro x8
  clear_value x8
  intro x9
  clear_value x9
  intro x10
  have hx10 : Kept ⟨m0, true⟩ s0 (x10) := by
    unfold x10
    refine State.set_kept ?_
    refine State.setStr_kept ?_
    assumption
  clear_value x10
  intro x11
  have hx11 : Kept ⟨m0, true⟩ s0 (x11) := by
    unfold x11
    refine State.setB_kept ?_
    refine State.setB_kept ?_
    assumption
  clear_value x11
  intro x12
  have hx12 : Kept ⟨m0, true⟩ s0 (x12) := by
    unfold x12
    refine State.setB_kept ?_
    assumption
  clear_value x12
  intro x13
  have hx13 : Kept ⟨m0, true⟩ s0 (x13) := by
    unfold x13
    refine State.set_kept ?_
    refine State.setStr_kept ?_
    assumption
  clear_value x13
  refine kept_ite ?_ ?_
  · refine State.idRestart_kept ?_
    refine State.showSet_kept ?_
    assumption
  · refine State.swapDone_kept ?_
    refine State.seedAnchor_kept ?_
    refine State.seed_kept ?_
    refine State.idRestart_kept ?_
    assumption

theorem State.strStop_kept {m0 : Bool} {s0 s : State} {a2 : Fin 8} (h : Kept ⟨m0, true⟩ s0 s) : Kept ⟨m0, true⟩ s0 (State.strStop s a2) := by
  unfold State.strStop
  lift_lets
  intro x0
  have hx0 : Kept ⟨m0, true⟩ s0 (x0) := by
    unfold x0
    refine State.strOpen_kept ?_
    refine State.strSave_kept ?_
    assumption
  clear_value x0
  intro x1
  clear_value x1
  intro x2
  have hx2 : Kept ⟨m0, true⟩ s0 (x2) := by
    unfold x2
    refine State.set_kept ?_
    refine State.setStr_kept ?_
    assumption
  clear_value x2
  refine State.showState_kept ?_
  refine State.setBit_kept ?_
  refine State.setBit_kept ?_
  assumption

theorem State.strEnChange_kept {m0 : Bool} {s0 s : State} {a2 : Nat} (h : Kept ⟨m0, true⟩ s0 s) : Kept ⟨m0, true⟩ s0 (State.strEnChange s a2) := by
  unfold State.strEnChange
  refine State.each_kept ?_ ?_
  · assumption
  · intro v0_0 v0_1 v0_2
    refine kept_ite ?_ ?_
    · refine State.strStop_kept ?_
      assumption
    · refine kept_ite ?_ ?_
      · refine State.strRestore_kept ?_
        assumption
      · assumption

theorem State.batGreenware_kept {m0 : May} {s0 s : State} (h : Kept m0 s0 s) : Kept m0 s0 (State.batGreenware s) := by
  unfold State.batGreenware
  refine State.each_kept ?_ ?_
  · assumption
  · intro v0_0 v0_1 v0_2
    refine State.setSrc_kept ?_
    assumption

theorem State.batTick_kept {m0 : Bool} {s0 s : State} (h : Kept ⟨m0, true⟩ s0 s) : Kept ⟨m0, true⟩ s0 (State.batTick s) := by
  unfold State.batTick
  lift_lets
  intro x0
  have hx0 : Kept ⟨m0, true⟩ s0 (x0) := by
    unfold x0
    refine State.closeDue_kept ?_
    refine State.restPoints_kept ?_
    assumption
  clear_value x0
  intro x1
  have hx1 : Kept ⟨m0, true⟩ s0 (x1) := by
    unfold x1
    refine State.each_kept ?_ ?_
    · assumption
    · intro v2_0 v2_1 v2_2
      refine State.currentSample_kept ?_
      refine State.strSample_kept ?_
      assumption
  clear_value x1
  intro x3
  have hx3 : Kept ⟨m0, true⟩ s0 (x3) := by
    unfold x3
    refine State.each_kept ?_ ?_
    · assumption
    · intro v4_0 v4_1 v4_2
      lift_lets
      intro x5
      clear_value x5
      refine State.setStr_kept ?_
      assumption
  clear_value x3
  intro x6
  have hx6 : Kept ⟨m0, true⟩ s0 (x6) := by
    unfold x6
    refine State.each_kept ?_ ?_
    · assumption
    · intro v7_0 v7_1 v7_2
      lift_lets
      intro x8
      clear_value x8
      refine State.setStr_kept ?_
      assumption
  clear_value x6
  intro x9
  clear_value x9
  intro x10
  clear_value x10
  intro x11
  clear_value x11
  intro x12
  have hx12 : Kept ⟨m0, true⟩ s0 (x12) := by
    unfold x12
    refine State.set_kept ?_
    assumption
  clear_value x12
  intro x13
  clear_value x13
  refine kept_mk ?_
  assumption

theorem State.setRail_kept {m0 : May} {s0 s : State} {a2 : Fin 24} {a3 : Rail} (h : Kept m0 s0 s) : Kept m0 s0 (State.setRail s a2 a3) := by
  unfold State.setRail
  refine kept_mk ?_
  assumption

theorem State.ffLoad_kept {m0 : May} {s0 s : State} (h : Kept m0 s0 s) : Kept m0 s0 (State.ffLoad s) := by
  unfold State.ffLoad
  dsimp only
  generalize (List.map _ _ : List Nat) = l
  rcases l with _ | ⟨k, l⟩
  · exact h
  · exact State.set_kept (State.set_kept (State.set_kept (State.set_kept (State.set_kept h))))

theorem State.firstFault_kept {m0 : Bool} {s0 s : State} {a2 : Nat} {a3 : Nat} (h : Kept ⟨m0, true⟩ s0 s) : Kept ⟨m0, true⟩ s0 (State.firstFault s a2 a3) := by
  unfold State.firstFault
  lift_lets
  intro x0
  clear_value x0
  intro x1
  clear_value x1
  intro x2
  clear_value x2
  intro x3
  clear_value x3
  intro x4
  have hx4 : Kept ⟨m0, true⟩ s0 (x4) := by
    unfold x4
    refine State.countersWrite_kept ?_
    assumption
  clear_value x4
  intro x5
  have hx5 : Kept ⟨m0, true⟩ s0 (x5) := by
    unfold x5
    refine State.set_kept ?_
    refine State.set_kept ?_
    refine State.set_kept ?_
    assumption
  clear_value x5
  refine State.stamp_kept ?_
  refine State.set_kept ?_
  refine State.setB_kept ?_
  assumption

theorem State.rstEval_kept {m0 : May} {s0 s : State} (h : Kept m0 s0 s) : Kept m0 s0 (State.rstEval s) := by
  unfold State.rstEval
  refine State.each_kept ?_ ?_
  · assumption
  · intro v0_0 v0_1 v0_2
    refine kept_ite ?_ ?_
    · refine kept_mk ?_
      assumption
    · lift_lets
      intro x1
      have hx1 : Kept m0 s0 (x1) := by
        unfold x1
        refine State.setB_kept ?_
        assumption
      clear_value x1
      intro x2
      clear_value x2
      refine kept_mk ?_
      assumption

theorem State.sgEval_kept {m0 : May} {s0 s : State} {a2 : Bool} (h : Kept m0 s0 s) : Kept m0 s0 (State.sgEval s a2) := by
  unfold State.sgEval
  refine kept_ite ?_ ?_
  · refine State.event_kept ?_
    refine State.iff_kept ?_ ?_
    · refine State.setB_kept ?_
      assumption
    · intro v0_0 v0_1
      refine State.inc_kept ?_
      assumption
  · assumption

theorem State.sgAssert_kept {m0 : May} {s0 s : State} (h : Kept m0 s0 s) : Kept m0 s0 (State.sgAssert s) := by
  unfold State.sgAssert
  refine kept_ite ?_ ?_
  · refine State.event_kept ?_
    refine State.setB_kept ?_
    assumption
  · assumption

theorem State.showTimers_kept {m0 : May} {s0 s : State} (h : Kept m0 s0 s) : Kept m0 s0 (State.showTimers s) := by
  unfold State.showTimers
  refine State.set_kept ?_
  assumption

theorem State.seqShow_kept {m0 : May} {s0 s : State} (h : Kept m0 s0 s) : Kept m0 s0 (State.seqShow s) := by
  unfold State.seqShow
  refine State.rstEval_kept ?_
  refine State.sgEval_kept ?_
  refine State.showTimers_kept ?_
  assumption

theorem State.enFall_kept {m0 : May} {s0 s : State} {a2 : Fin 24} (h : Kept m0 s0 s) : Kept m0 s0 (State.enFall s a2) := by
  unfold State.enFall
  lift_lets
  intro x0
  clear_value x0
  intro x1
  have hx1 : Kept m0 s0 (x1) := by
    unfold x1
    refine State.setRail_kept ?_
    assumption
  clear_value x1
  refine State.setBit_kept ?_
  refine State.setBit_kept ?_
  assumption

theorem State.downComplete_kept {m0 : May} {s0 s : State} (h : Kept m0 s0 s) : Kept m0 s0 (State.downComplete s) := by
  unfold State.downComplete
  lift_lets
  intro x0
  clear_value x0
  intro x1
  have hx1 : Kept m0 s0 (x1) := by
    unfold x1
    refine State.setB_kept ?_
    refine State.set_kept ?_
    refine State.maxOf_kept ?_
    refine State.set_kept ?_
    assumption
  clear_value x1
  intro x2
  clear_value x2
  intro x3
  have hx3 : Kept m0 s0 (x3) := by
    unfold x3
    refine kept_mk ?_
    assumption
  clear_value x3
  split
  · refine State.inc_kept ?_
    refine State.set_kept ?_
    refine State.set_kept ?_
    assumption
  · refine State.event_kept ?_
    refine State.set_kept ?_
    assumption
  · refine State.set_kept ?_
    assumption

theorem State.judgeLow_kept {m0 : May} {s0 s : State} {a2 : List (Fin 24)} (h : Kept m0 s0 s) : Kept m0 s0 (State.judgeLow s a2) := by
  unfold State.judgeLow
  refine State.each_kept ?_ ?_
  · assumption
  · intro v0_0 v0_1 v0_2
    refine State.iff_kept ?_ ?_
    · refine State.setRail_kept ?_
      assumption
    · intro v1_0 v1_1
      refine State.event_kept ?_
      refine State.setBit_kept ?_
      assumption

theorem State.stepFall_kept {m0 : May} {s0 s : State} {a2 : Nat} (h : Kept m0 s0 s) : Kept m0 s0 (State.stepFall s a2) := by
  unfold State.stepFall
  refine State.judgeLow_kept ?_
  refine State.each_kept ?_ ?_
  · assumption
  · intro v0_0 v0_1 v0_2
    refine State.enFall_kept ?_
    assumption

theorem State.downFrom_kept {m0 : May} {s0 : State} {a2 : Nat} : ∀ {s : State} (h : Kept m0 s0 s), Kept m0 s0 (State.downFrom s a2) := by
  induction a2 with
  | zero => intro s h; exact State.downComplete_kept h
  | succ k ih =>
    intro s h
    unfold State.downFrom
    have h2 : ∀ {t : State}, Kept m0 s0 t → Kept m0 s0 (if ((t.stepFall k).stepRails k).all (t.stepFall k).countsOff then (t.stepFall k).downFrom k else t.stepFall k) :=
      fun ht => kept_ite (ih (State.stepFall_kept ht)) (State.stepFall_kept ht)
    refine kept_ite (ih h) (kept_ite (kept_ite ?_ ?_) ?_)
    · exact State.judgeLow_kept (kept_mk (State.setB_kept (State.set_kept h)))
    · exact h2 (State.setB_kept (State.set_kept h))
    · exact h2 (State.set_kept h)

theorem State.downProceed_kept {m0 : May} {s0 s : State} (h : Kept m0 s0 s) : Kept m0 s0 (State.downProceed s) := by
  unfold State.downProceed
  lift_lets
  intro x0
  clear_value x0
  intro x1
  clear_value x1
  intro x2
  have hx2 : Kept m0 s0 (x2) := by
    unfold x2
    refine kept_mk ?_
    assumption
  clear_value x2
  intro x3
  have hx3 : Kept m0 s0 (x3) := by
    unfold x3
    refine State.stepFall_kept ?_
    assumption
  clear_value x3
  refine kept_ite ?_ ?_
  · refine State.downFrom_kept ?_
    assumption
  · assumption

theorem State.downCheck_kept {m0 : May} {s0 s : State} (h : Kept m0 s0 s) : Kept m0 s0 (State.downCheck s) := by
  unfold State.downCheck
  refine kept_ite ?_ ?_
  · assumption
  · refine kept_ite ?_ ?_
    · refine kept_ite ?_ ?_
      · refine State.downComplete_kept ?_
        assumption
      · assumption
    · refine kept_ite ?_ ?_
      · refine State.downFrom_kept ?_
        assumption
      · assumption

theorem State.startDownBy_kept {m0 : May} {s0 s : State} {a2 : Nat} {a3 : Bool} (h : Kept m0 s0 s) : Kept m0 s0 (State.startDownBy s a2 a3) := by
  unfold State.startDownBy
  lift_lets
  intro x0
  have hx0 : Kept m0 s0 (x0) := by
    unfold x0
    refine State.set_kept ?_
    refine State.set_kept ?_
    assumption
  clear_value x0
  intro x1
  have hx1 : Kept m0 s0 (x1) := by
    unfold x1
    refine State.setB_kept ?_
    refine State.set_kept ?_
    refine State.set_kept ?_
    assumption
  clear_value x1
  intro x2
  clear_value x2
  intro x3
  have hx3 : Kept m0 s0 (x3) := by
    unfold x3
    refine kept_mk ?_
    assumption
  clear_value x3
  intro x4
  have hx4 : Kept m0 s0 (x4) := by
    unfold x4
    refine State.each_kept ?_ ?_
    · assumption
    · intro v5_0 v5_1 v5_2
      lift_lets
      intro x6
      clear_value x6
      intro x7
      have hx7 : Kept m0 s0 (x7) := by
        unfold x7
        refine State.setRail_kept ?_
        assumption
      clear_value x7
      refine State.setB_kept ?_
      refine State.setB_kept ?_
      refine State.setB_kept ?_
      assumption
  clear_value x4
  intro x8
  have hx8 : Kept m0 s0 (x8) := by
    unfold x8
    refine State.sgEval_kept ?_
    refine State.set_kept ?_
    refine State.set_kept ?_
    assumption
  clear_value x8
  intro x9
  have hx9 : Kept m0 s0 (x9) := by
    unfold x9
    refine State.setB_kept ?_
    refine State.set_kept ?_
    assumption
  clear_value x9
  intro x10
  clear_value x10
  refine kept_ite ?_ ?_
  · refine State.downCheck_kept ?_
    refine State.judgeLow_kept ?_
    refine State.each_kept ?_ ?_
    · assumption
    · intro v11_0 v11_1 v11_2
      lift_lets
      intro x12
      clear_value x12
      refine kept_ite ?_ ?_
      · refine State.enFall_kept ?_
        assumption
      · refine State.setRail_kept ?_
        assumption
  · refine State.downFrom_kept ?_
    refine State.judgeLow_kept ?_
    assumption

theorem State.startDown_kept {m0 : May} {s0 s : State} {a2 : Nat} (h : Kept m0 s0 s) : Kept m0 s0 (State.startDown s a2) := by
  unfold State.startDown
  refine State.startDownBy_kept ?_
  assumption

theorem State.enRise_kept {m0 : May} {s0 s : State} {a2 : Fin 24} (h : Kept m0 s0 s) : Kept m0 s0 (State.enRise s a2) := by
  unfold State.enRise
  lift_lets
  intro x0
  clear_value x0
  refine State.setBit_kept ?_
  refine State.setRail_kept ?_
  assumption

theorem State.stepBegin_kept {m0 : May} {s0 s : State} {a2 : Nat} (h : Kept m0 s0 s) : Kept m0 s0 (State.stepBegin s a2) := by
  unfold State.stepBegin
  refine State.each_kept ?_ ?_
  · refine State.set_kept ?_
    assumption
  · intro v0_0 v0_1 v0_2
    refine kept_ite ?_ ?_
    · refine State.enRise_kept ?_
      assumption
    · refine State.setRail_kept ?_
      assumption

theorem State.enterRun_kept {m0 : May} {s0 s : State} (h : Kept m0 s0 s) : Kept m0 s0 (State.enterRun s) := by
  unfold State.enterRun
  lift_lets
  intro x0
  have hx0 : Kept m0 s0 (x0) := by
    unfold x0
    refine State.inc_kept ?_
    refine State.set_kept ?_
    refine State.set_kept ?_
    assumption
  clear_value x0
  intro x1
  have hx1 : Kept m0 s0 (x1) := by
    unfold x1
    refine State.setB_kept ?_
    assumption
  clear_value x1
  intro x2
  clear_value x2
  refine State.event_kept ?_
  refine kept_mk ?_
  assumption

theorem State.upCheck_kept {m0 : May} {s0 s : State} (h : Kept m0 s0 s) : Kept m0 s0 (State.upCheck s) := by
  unfold State.upCheck
  refine kept_ite ?_ ?_
  · assumption
  · lift_lets
    intro x0
    clear_value x0
    intro x1
    clear_value x1
    intro x2
    have hx2 : Kept m0 s0 (x2) := by
      unfold x2
      refine State.iff_kept ?_ ?_
      · assumption
      · intro v3_0 v3_1
        lift_lets
        intro x4
        have hx4 : Kept m0 s0 (x4) := by
          unfold x4
          refine State.setB_kept ?_
          assumption
        clear_value x4
        intro x5
        clear_value x5
        refine kept_mk ?_
        assumption
    clear_value x2
    intro x6
    clear_value x6
    intro x7
    have hx7 : Kept m0 s0 (x7) := by
      unfold x7
      refine kept_mk ?_
      assumption
    clear_value x7
    refine kept_ite ?_ ?_
    · assumption
    · refine kept_ite ?_ ?_
      · assumption
      · split
        · refine State.enterRun_kept ?_
          assumption
        · refine State.stepBegin_kept ?_
          assumption

theorem State.startUp_kept {m0 : May} {s0 s : State} (h : Kept m0 s0 s) : Kept m0 s0 (State.startUp s) := by
  unfold State.startUp
  lift_lets
  intro x0
  clear_value x0
  intro x1
  have hx1 : Kept m0 s0 (x1) := by
    unfold x1
    refine State.set_kept ?_
    assumption
  clear_value x1
  intro x2
  clear_value x2
  intro x3
  have hx3 : Kept m0 s0 (x3) := by
    unfold x3
    refine kept_mk ?_
    assumption
  clear_value x3
  split
  · refine State.enterRun_kept ?_
    assumption
  · refine State.stepBegin_kept ?_
    assumption

theorem State.seqEval_kept {m0 : May} {s0 s : State} (h : Kept m0 s0 s) : Kept m0 s0 (State.seqEval s) := by
  unfold State.seqEval
  lift_lets
  intro x0
  clear_value x0
  intro x1
  clear_value x1
  refine kept_ite ?_ ?_
  · assumption
  · split
    · refine kept_ite ?_ ?_
      · refine State.startUp_kept ?_
        assumption
      · assumption
    · refine kept_ite ?_ ?_
      · assumption
      · refine State.startDown_kept ?_
        assumption
    · refine kept_ite ?_ ?_
      · assumption
      · refine State.startDown_kept ?_
        assumption
    · refine kept_ite ?_ ?_
      · refine State.set_kept ?_
        assumption
      · assumption
    · refine kept_ite ?_ ?_
      · assumption
      · refine State.startDown_kept ?_
        assumption
    · refine kept_ite ?_ ?_
      · refine State.set_kept ?_
        refine State.set_kept ?_
        assumption
      · assumption
    · assumption

theorem State.faultDown_kept {m0 : May} {s0 s : State} (h : Kept m0 s0 s) : Kept m0 s0 (State.faultDown s) := by
  unfold State.faultDown
  refine kept_ite ?_ ?_
  · assumption
  · refine kept_ite ?_ ?_
    · refine State.startDown_kept ?_
      assumption
    · refine State.startDown_kept ?_
      assumption

theorem State.railFault_kept {m0 : May} {s0 s : State} {a2 : Nat} {a3 : Nat} (h : Kept m0 s0 s) : Kept m0 s0 (State.railFault s a2 a3) := by
  unfold State.railFault
  refine kept_mk ?_
  assumption

theorem State.cascFault_kept {m0 : May} {s0 s : State} (h : Kept m0 s0 s) : Kept m0 s0 (State.cascFault s) := by
  unfold State.cascFault
  refine State.railFault_kept ?_
  assumption

theorem State.timerStart_kept {m0 : May} {s0 s : State} {a2 : Fin 24} {a3 : Bool} (h : Kept m0 s0 s) : Kept m0 s0 (State.timerStart s a2 a3) := by
  unfold State.timerStart
  refine kept_ite ?_ ?_
  · assumption
  · refine State.setRail_kept ?_
    assumption

theorem State.timerStop_kept {m0 : May} {s0 s : State} {a2 : Fin 24} (h : Kept m0 s0 s) : Kept m0 s0 (State.timerStop s a2) := by
  unfold State.timerStop
  lift_lets
  intro x0
  clear_value x0
  intro x1
  clear_value x1
  refine kept_ite ?_ ?_
  · refine State.setRail_kept ?_
    assumption
  · assumption

theorem State.timerExpire_kept {m0 : Bool} {s0 s : State} {a2 : Fin 24} (h : Kept ⟨m0, true⟩ s0 s) : Kept ⟨m0, true⟩ s0 (State.timerExpire s a2) := by
  unfold State.timerExpire
  lift_lets
  intro x0
  clear_value x0
  intro x1
  have hx1 : Kept ⟨m0, true⟩ s0 (x1) := by
    unfold x1
    refine State.setRail_kept ?_
    assumption
  clear_value x1
  intro x2
  have hx2 : Kept ⟨m0, true⟩ s0 (x2) := by
    unfold x2
    refine State.setB_kept ?_
    refine State.setBit_kept ?_
    refine State.setBit_kept ?_
    assumption
  clear_value x2
  intro x3
  have hx3 : Kept ⟨m0, true⟩ s0 (x3) := by
    unfold x3
    refine State.trigger_kept ?_
    refine State.event_kept ?_
    refine State.inc_kept ?_
    refine State.inc_kept ?_
    assumption
  clear_value x3
  refine State.sgEval_kept ?_
  assumption

theorem State.railStuck_kept {m0 : Bool} {s0 s : State} {a2 : Fin 24} (h : Kept ⟨m0, true⟩ s0 s) : Kept ⟨m0, true⟩ s0 (State.railStuck s a2) := by
  unfold State.railStuck
  lift_lets
  intro x0
  clear_value x0
  intro x1
  have hx1 : Kept ⟨m0, true⟩ s0 (x1) := by
    unfold x1
    refine State.setBit_kept ?_
    refine State.setRail_kept ?_
    assumption
  clear_value x1
  refine State.trigger_kept ?_
  refine State.event_kept ?_
  assumption

theorem State.faultEffect_kept {m0 : Bool} {s0 s : State} {a2 : Nat} {a3 : Nat} (h : Kept ⟨m0, true⟩ s0 s) : Kept ⟨m0, true⟩ s0 (State.faultEffect s a2 a3) := by
  unfold State.faultEffect
  refine kept_ite ?_ ?_
  · refine State.timerExpire_kept ?_
    assumption
  · refine kept_ite ?_ ?_
    · refine kept_ite ?_ ?_
      · refine State.railStuck_kept ?_
        assumption
      · assumption
    · lift_lets
      intro x0
      have hx0 : Kept ⟨m0, true⟩ s0 (x0) := by
        unfold x0
        refine kept_ite ?_ ?_
        · refine State.inc_kept ?_
          assumption
        · refine State.inc_kept ?_
          assumption
      clear_value x0
      refine State.trigger_kept ?_
      refine State.event_kept ?_
      assumption

theorem State.faultRecord_kept {m0 : Bool} {s0 s : State} {a2 : Nat} {a3 : Nat} (h : Kept ⟨m0, true⟩ s0 s) : Kept ⟨m0, true⟩ s0 (State.faultRecord s a2 a3) := by
  unfold State.faultRecord
  lift_lets
  intro x0
  clear_value x0
  intro x1
  have hx1 : Kept ⟨m0, true⟩ s0 (x1) := by
    unfold x1
    refine kept_ite ?_ ?_
    · assumption
    · refine State.firstFault_kept ?_
      assumption
  clear_value x1
  intro x2
  clear_value x2
  refine kept_mk ?_
  assumption

theorem State.faultMove_kept {m0 : May} {s0 s : State} {a2 : List (Nat × Nat)} (h : Kept m0 s0 s) : Kept m0 s0 (State.faultMove s a2) := by
  unfold State.faultMove
  lift_lets
  intro x0
  clear_value x0
  intro x1
  clear_value x1
  refine kept_ite ?_ ?_
  · assumption
  · refine kept_ite ?_ ?_
    · assumption
    · refine kept_ite ?_ ?_
      · refine State.startDown_kept ?_
        assumption
      · refine kept_ite ?_ ?_
        · refine State.startDown_kept ?_
          assumption
        · refine State.faultDown_kept ?_
          assumption

theorem State.faultJudge_kept {m0 : Bool} {s0 s : State} (h : Kept ⟨m0, true⟩ s0 s) : Kept ⟨m0, true⟩ s0 (State.faultJudge s) := by
  unfold State.faultJudge
  extract_lets l sq t
  have ht : Kept ⟨m0, true⟩ s0 t := kept_mk h
  clear_value t l
  rcases l with _ | ⟨p, l⟩
  · exact ht
  · exact State.downCheck_kept (State.faultMove_kept (State.each_kept (State.faultRecord_kept ht) (fun _ _ h => State.faultEffect_kept h)))

theorem State.railOff_kept {m0 : May} {s0 s : State} {a2 : Fin 24} (h : Kept m0 s0 s) : Kept m0 s0 (State.railOff s a2) := by
  unfold State.railOff
  lift_lets
  intro x0
  clear_value x0
  intro x1
  have hx1 : Kept m0 s0 (x1) := by
    unfold x1
    refine State.setRail_kept ?_
    assumption
  clear_value x1
  intro x2
  have hx2 : Kept m0 s0 (x2) := by
    unfold x2
    refine State.iff_kept ?_ ?_
    · assumption
    · intro v3_0 v3_1
      refine State.event_kept ?_
      refine State.setBit_kept ?_
      assumption
  clear_value x2
  refine kept_ite ?_ ?_
  · assumption
  · refine State.downCheck_kept ?_
    assumption

theorem State.railOffLate_kept {m0 : May} {s0 s : State} {a2 : Fin 24} (h : Kept m0 s0 s) : Kept m0 s0 (State.railOffLate s a2) := by
  unfold State.railOffLate
  refine kept_ite ?_ ?_
  · refine State.railOff_kept ?_
    assumption
  · refine State.iff_kept ?_ ?_
    · assumption
    · intro v0_0 v0_1
      refine State.setRail_kept ?_
      assumption

theorem State.qualify_kept {m0 : May} {s0 s : State} {a2 : Fin 24} (h : Kept m0 s0 s) : Kept m0 s0 (State.qualify s a2) := by
  unfold State.qualify
  lift_lets
  intro x0
  have hx0 : Kept m0 s0 (x0) := by
    unfold x0
    refine State.setB_kept ?_
    refine State.setBit_kept ?_
    assumption
  clear_value x0
  intro x1
  clear_value x1
  refine State.upCheck_kept ?_
  refine State.setRail_kept ?_
  refine State.setBit_kept ?_
  assumption

theorem State.pgChange_kept {m0 : May} {s0 s : State} {a2 : Fin 24} {a3 : Bool} (h : Kept m0 s0 s) : Kept m0 s0 (State.pgChange s a2 a3) := by
  unfold State.pgChange
  lift_lets
  intro x0
  clear_value x0
  intro x1
  clear_value x1
  intro x2
  clear_value x2
  intro x3
  clear_value x3
  intro x4
  clear_value x4
  intro x5
  have hx5 : Kept m0 s0 (x5) := by
    unfold x5
    refine State.setRail_kept ?_
    refine State.setBit_kept ?_
    assumption
  clear_value x5
  intro x6
  have hx6 : Kept m0 s0 (x6) := by
    unfold x6
    refine State.iff_kept ?_ ?_
    · assumption
    · intro v7_0 v7_1
      refine State.inc_kept ?_
      assumption
  clear_value x6
  intro x8
  have hx8 : Kept m0 s0 (x8) := by
    unfold x8
    refine State.setBit_kept ?_
    assumption
  clear_value x8
  refine kept_ite ?_ ?_
  · assumption
  · refine kept_ite ?_ ?_
    · refine kept_ite ?_ ?_
      · refine State.timerStop_kept ?_
        assumption
      · assumption
    · refine kept_ite ?_ ?_
      · refine State.railFault_kept ?_
        assumption
      · refine kept_ite ?_ ?_
        · refine State.timerStart_kept ?_
          assumption
        · refine kept_ite ?_ ?_
          · refine State.railOffLate_kept ?_
            assumption
          · assumption

theorem State.pgLine_kept {m0 : May} {s0 s : State} {a2 : Fin 24} (h : Kept m0 s0 s) : Kept m0 s0 (State.pgLine s a2) := by
  unfold State.pgLine
  lift_lets
  intro x0
  clear_value x0
  intro x1
  clear_value x1
  intro x2
  clear_value x2
  intro x3
  have hx3 : Kept m0 s0 (x3) := by
    unfold x3
    refine State.setRail_kept ?_
    assumption
  clear_value x3
  refine kept_ite ?_ ?_
  · refine State.pgChange_kept ?_
    assumption
  · assumption

theorem State.railLevel_kept {m0 : May} {s0 s : State} {a2 : Fin 24} {a3 : Int} (h : Kept m0 s0 s) : Kept m0 s0 (State.railLevel s a2 a3) := by
  unfold State.railLevel
  lift_lets
  intro x0
  clear_value x0
  intro x1
  clear_value x1
  intro x2
  have hx2 : Kept m0 s0 (x2) := by
    unfold x2
    refine State.setRail_kept ?_
    assumption
  clear_value x2
  intro x3
  have hx3 : Kept m0 s0 (x3) := by
    unfold x3
    refine kept_ite ?_ ?_
    · refine State.timerStart_kept ?_
      assumption
    · refine State.timerStop_kept ?_
      assumption
  clear_value x3
  refine kept_ite ?_ ?_
  · refine kept_ite ?_ ?_
    · refine State.setBit_kept ?_
      refine State.setB_kept ?_
      refine State.setB_kept ?_
      assumption
    · assumption
  · refine State.setRail_kept ?_
    assumption

theorem State.railSample_kept {m0 : May} {s0 s : State} {a2 : Fin 24} {a3 : Int} (h : Kept m0 s0 s) : Kept m0 s0 (State.railSample s a2 a3) := by
  unfold State.railSample
  lift_lets
  intro x0
  clear_value x0
  intro x1
  clear_value x1
  intro x2
  have hx2 : Kept m0 s0 (x2) := by
    unfold x2
    refine State.set_kept ?_
    assumption
  clear_value x2
  intro x3
  clear_value x3
  intro x4
  have hx4 : Kept m0 s0 (x4) := by
    unfold x4
    refine State.setRail_kept ?_
    assumption
  clear_value x4
  intro x5
  have hx5 : Kept m0 s0 (x5) := by
    unfold x5
    refine State.iff_kept ?_ ?_
    · assumption
    · intro v6_0 v6_1
      refine State.pgLine_kept ?_
      assumption
  clear_value x5
  intro x7
  have hx7 : Kept m0 s0 (x7) := by
    unfold x7
    refine State.iff_kept ?_ ?_
    · assumption
    · intro v8_0 v8_1
      refine State.railOffLate_kept ?_
      assumption
  clear_value x7
  refine kept_ite ?_ ?_
  · assumption
  · refine State.railLevel_kept ?_
    assumption

theorem State.runSamples_kept {m0 : May} {s0 s : State} (h : Kept m0 s0 s) : Kept m0 s0 (State.runSamples s) := by
  unfold State.runSamples
  refine kept_ite ?_ ?_
  · refine State.each_kept ?_ ?_
    · assumption
    · intro v0_0 v0_1 v0_2
      split
      · refine State.railLevel_kept ?_
        assumption
      · assumption
  · assumption

theorem State.railDrop_kept {m0 : May} {s0 s : State} {a2 : Fin 24} (h : Kept m0 s0 s) : Kept m0 s0 (State.railDrop s a2) := by
  unfold State.railDrop
  lift_lets
  intro x0
  clear_value x0
  intro x1
  have hx1 : Kept m0 s0 (x1) := by
    unfold x1
    refine State.iff_kept ?_ ?_
    · assumption
    · intro v2_0 v2_1
      refine State.enFall_kept ?_
      assumption
  clear_value x1
  intro x3
  clear_value x3
  intro x4
  have hx4 : Kept m0 s0 (x4) := by
    unfold x4
    refine State.setRail_kept ?_
    assumption
  clear_value x4
  intro x5
  have hx5 : Kept m0 s0 (x5) := by
    unfold x5
    refine State.setB_kept ?_
    refine State.setB_kept ?_
    refine State.setB_kept ?_
    assumption
  clear_value x5
  refine State.setBit_kept ?_
  refine State.setBit_kept ?_
  refine State.setBit_kept ?_
  assumption

theorem State.seqStart_kept {m0 : May} {s0 s : State} {a2 : Bool} (h : Kept m0 s0 s) : Kept m0 s0 (State.seqStart s a2) := by
  unfold State.seqStart
  lift_lets
  intro x0
  clear_value x0
  intro x1
  have hx1 : Kept m0 s0 (x1) := by
    unfold x1
    refine State.ffLoad_kept ?_
    refine kept_mk ?_
    assumption
  clear_value x1
  intro x2
  have hx2 : Kept m0 s0 (x2) := by
    unfold x2
    refine State.each_kept ?_ ?_
    · assumption
    · intro v3_0 v3_1 v3_2
      lift_lets
      intro x4
      have hx4 : Kept m0 s0 (x4) := by
        unfold x4
        refine State.setBit_kept ?_
        refine State.enRise_kept ?_
        assumption
      clear_value x4
      intro x5
      clear_value x5
      refine kept_ite ?_ ?_
      · refine State.setRail_kept ?_
        assumption
      · assumption
  clear_value x2
  intro x6
  have hx6 : Kept m0 s0 (x6) := by
    unfold x6
    refine State.enterRun_kept ?_
    assumption
  clear_value x6
  refine kept_ite ?_ ?_
  · refine State.each_kept ?_ ?_
    · assumption
    · intro v7_0 v7_1 v7_2
      refine kept_ite ?_ ?_
      · refine State.setB_kept ?_
        assumption
      · assumption
  · refine kept_ite ?_ ?_
    · refine State.startDownBy_kept ?_
      refine State.each_kept ?_ ?_
      · assumption
      · intro v8_0 v8_1 v8_2
        refine State.setBit_kept ?_
        assumption
    · refine State.seqEval_kept ?_
      assumption

theorem State.seqFollow_kept {m0 : May} {s0 s : State} {a2 : Nat} {a3 : Nat} {a4 : Nat} (h : Kept m0 s0 s) : Kept m0 s0 (State.seqFollow s a2 a3 a4) := by
  unfold State.seqFollow
  refine kept_ite ?_ ?_
  · assumption
  · lift_lets
    intro x0
    clear_value x0
    intro x1
    have hx1 : Kept m0 s0 (x1) := by
      unfold x1
      refine kept_ite ?_ ?_
      · refine State.startDown_kept ?_
        assumption
      · assumption
    clear_value x1
    intro x2
    have hx2 : Kept m0 s0 (x2) := by
      unfold x2
      refine kept_ite ?_ ?_
      · refine State.enterRun_kept ?_
        assumption
      · assumption
    clear_value x2
    intro x3
    have hx3 : Kept m0 s0 (x3) := by
      unfold x3
      refine kept_ite ?_ ?_
      · refine State.stepBegin_kept ?_
        refine State.set_kept ?_
        assumption
      · assumption
    clear_value x3
    refine State.set_kept ?_
    assumption

theorem State.setFuse_kept {m0 : May} {s0 s : State} {a2 : Fin 8} {a3 : Fuse} (h : Kept m0 s0 s) : Kept m0 s0 (State.setFuse s a2 a3) := by
  unfold State.setFuse
  refine kept_mk ?_
  assumption

theorem State.setFuseState_kept {m0 : May} {s0 s : State} {a2 : Fin 8} {a3 : Nat} (h : Kept m0 s0 s) : Kept m0 s0 (State.setFuseState s a2 a3) := by
  unfold State.setFuseState
  refine State.set_kept ?_
  assumption

theorem State.fuseLow_kept {m0 : May} {s0 s : State} {a2 : Fin 8} (h : Kept m0 s0 s) : Kept m0 s0 (State.fuseLow s a2) := by
  unfold State.fuseLow
  lift_lets
  intro x0
  clear_value x0
  refine State.setFuse_kept ?_
  assumption

theorem State.fuseInrush_kept {m0 : May} {s0 s : State} {a2 : Fin 8} (h : Kept m0 s0 s) : Kept m0 s0 (State.fuseInrush s a2) := by
  unfold State.fuseInrush
  lift_lets
  intro x0
  clear_value x0
  intro x1
  have hx1 : Kept m0 s0 (x1) := by
    unfold x1
    refine State.setFuseState_kept ?_
    assumption
  clear_value x1
  refine State.setFuse_kept ?_
  assumption

theorem State.fuseOn_kept {m0 : May} {s0 s : State} {a2 : Fin 8} (h : Kept m0 s0 s) : Kept m0 s0 (State.fuseOn s a2) := by
  unfold State.fuseOn
  lift_lets
  intro x0
  clear_value x0
  intro x1
  have hx1 : Kept m0 s0 (x1) := by
    unfold x1
    refine State.setFuseState_kept ?_
    assumption
  clear_value x1
  refine State.setFuse_kept ?_
  assumption

theorem State.fuseOff_kept {m0 : May} {s0 s : State} {a2 : Fin 8} {a3 : Nat} {a4 : Nat} (h : Kept m0 s0 s) : Kept m0 s0 (State.fuseOff s a2 a3 a4) := by
  unfold State.fuseOff
  lift_lets
  intro x0
  have hx0 : Kept m0 s0 (x0) := by
    unfold x0
    refine State.setFuseState_kept ?_
    refine State.fuseLow_kept ?_
    assumption
  clear_value x0
  intro x1
  clear_value x1
  intro x2
  have hx2 : Kept m0 s0 (x2) := by
    unfold x2
    refine State.setFuse_kept ?_
    assumption
  clear_value x2
  refine State.set_kept ?_
  assumption

theorem State.fuseWait_kept {m0 : May} {s0 s : State} {a2 : Fin 8} {a3 : Nat} {a4 : Bool} (h : Kept m0 s0 s) : Kept m0 s0 (State.fuseWait s a2 a3 a4) := by
  unfold State.fuseWait
  lift_lets
  intro x0
  have hx0 : Kept m0 s0 (x0) := by
    unfold x0
    refine State.setFuseState_kept ?_
    assumption
  clear_value x0
  intro x1
  clear_value x1
  refine State.setFuse_kept ?_
  assumption

theorem State.fuseStart_kept {m0 : May} {s0 s : State} {a2 : Fin 8} (h : Kept m0 s0 s) : Kept m0 s0 (State.fuseStart s a2) := by
  unfold State.fuseStart
  lift_lets
  intro x0
  clear_value x0
  refine kept_ite ?_ ?_
  · refine State.fuseWait_kept ?_
    assumption
  · refine State.fuseInrush_kept ?_
    assumption

theorem State.fuseEval_kept {m0 : May} {s0 s : State} {a2 : Fin 8} (h : Kept m0 s0 s) : Kept m0 s0 (State.fuseEval s a2) := by
  unfold State.fuseEval
  lift_lets
  intro x0
  clear_value x0
  intro x1
  have hx1 : Kept m0 s0 (x1) := by
    unfold x1
    refine State.fuseOff_kept ?_
    assumption
  clear_value x1
  intro x2
  clear_value x2
  intro x3
  have hx3 : Kept m0 s0 (x3) := by
    unfold x3
    refine kept_ite ?_ ?_
    · refine State.setFuseState_kept ?_
      assumption
    · assumption
  clear_value x3
  intro x4
  clear_value x4
  refine kept_ite ?_ ?_
  · refine kept_ite ?_ ?_
    · assumption
    · refine State.setFuse_kept ?_
      assumption
  · refine kept_ite ?_ ?_
    · assumption
    · refine kept_ite ?_ ?_
      · refine kept_ite ?_ ?_
        · assumption
        · refine State.fuseOff_kept ?_
          assumption
      · refine kept_ite ?_ ?_
        · refine kept_ite ?_ ?_
          · refine State.fuseStart_kept ?_
            assumption
          · assumption
        · refine kept_ite ?_ ?_
          · refine State.fuseOff_kept ?_
            assumption
          · assumption

theorem State.efuEval_kept {m0 : May} {s0 s : State} (h : Kept m0 s0 s) : Kept m0 s0 (State.efuEval s) := by
  unfold State.efuEval
  refine State.each_kept ?_ ?_
  · assumption
  · intro v0_0 v0_1 v0_2
    refine State.fuseEval_kept ?_
    assumption

theorem State.fuseFail_kept {m0 : Bool} {s0 s : State} {a2 : Fin 8} {a3 : Nat} (h : Kept ⟨m0, true⟩ s0 s) : Kept ⟨m0, true⟩ s0 (State.fuseFail s a2 a3) := by
  unfold State.fuseFail
  lift_lets
  intro x0
  clear_value x0
  intro x1
  clear_value x1
  intro x2
  have hx2 : Kept ⟨m0, true⟩ s0 (x2) := by
    unfold x2
    refine State.trigger_kept ?_
    refine State.event_kept ?_
    refine State.inc_kept ?_
    assumption
  clear_value x2
  intro x3
  clear_value x3
  intro x4
  have hx4 : Kept ⟨m0, true⟩ s0 (x4) := by
    unfold x4
    refine State.set_kept ?_
    refine State.fuseOff_kept ?_
    assumption
  clear_value x4
  refine kept_ite ?_ ?_
  · refine State.event_kept ?_
    assumption
  · refine kept_ite ?_ ?_
    · refine State.fuseWait_kept ?_
      assumption
    · assumption

theorem State.fuseFailDue_kept {m0 : May} {s0 s : State} {a2 : Fin 8} {a3 : Nat} (h : Kept m0 s0 s) : Kept m0 s0 (State.fuseFailDue s a2 a3) := by
  unfold State.fuseFailDue
  lift_lets
  intro x0
  clear_value x0
  refine State.setFuse_kept ?_
  assumption

theorem State.failJudge_kept {m0 : Bool} {s0 s : State} (h : Kept ⟨m0, true⟩ s0 s) : Kept ⟨m0, true⟩ s0 (State.failJudge s) := by
  unfold State.failJudge
  lift_lets
  intro x0
  clear_value x0
  intro x1
  have hx1 : Kept ⟨m0, true⟩ s0 (x1) := by
    unfold x1
    refine State.each_kept ?_ ?_
    · assumption
    · intro v2_0 v2_1 v2_2
      lift_lets
      intro x3
      clear_value x3
      intro x4
      clear_value x4
      intro x5
      have hx5 : Kept ⟨m0, true⟩ s0 (x5) := by
        unfold x5
        refine State.setFuse_kept ?_
        assumption
      clear_value x5
      refine State.iff_kept ?_ ?_
      · assumption
      · intro v6_0 v6_1
        refine State.fuseFail_kept ?_
        assumption
  clear_value x1
  refine State.iff_kept ?_ ?_
  · assumption
  · intro v7_0 v7_1
    refine State.settle_kept ?_
    assumption

theorem execEfuWaitExpiry_kept {m0 : May} {s0 : State} {a1 : Fin 8} {s : State} (h : Kept m0 s0 s) : OutKept m0 s0 (execEfuWaitExpiry a1 s) := by
  unfold execEfuWaitExpiry
  refine outKept_ite ?_ ?_
  · refine done_kept ?_
    refine State.fuseInrush_kept ?_
    assumption
  · refine done_kept ?_
    assumption

theorem execEfOnRise_kept {m0 : May} {s0 : State} {a1 : Fin 8} {s : State} (h : Kept m0 s0 s) : OutKept m0 s0 (execEfOnRise a1 s) := by
  unfold execEfOnRise
  lift_lets
  intro x0
  clear_value x0
  refine outKept_ite ?_ ?_
  · refine done_kept ?_
    refine State.setFuse_kept ?_
    assumption
  · refine done_kept ?_
    assumption

theorem execEfIlimFall_kept {m0 : May} {s0 : State} {a1 : Fin 8} {s : State} (h : Kept m0 s0 s) : OutKept m0 s0 (execEfIlimFall a1 s) := by
  unfold execEfIlimFall
  lift_lets
  intro x0
  clear_value x0
  refine outKept_ite ?_ ?_
  · refine done_kept ?_
    refine State.setFuse_kept ?_
    assumption
  · refine done_kept ?_
    assumption

theorem execInrushQualified_kept {m0 : May} {s0 : State} {a1 : Fin 8} {s : State} (h : Kept m0 s0 s) : OutKept m0 s0 (execInrushQualified a1 s) := by
  unfold execInrushQualified
  refine outKept_ite ?_ ?_
  · refine done_kept ?_
    refine State.fuseOn_kept ?_
    assumption
  · refine done_kept ?_
    assumption

theorem execInrushExpiry_kept {m0 : May} {s0 : State} {a1 : Fin 8} {s : State} (h : Kept m0 s0 s) : OutKept m0 s0 (execInrushExpiry a1 s) := by
  unfold execInrushExpiry
  refine outKept_ite ?_ ?_
  · refine done_kept ?_
    refine State.fuseFailDue_kept ?_
    assumption
  · refine done_kept ?_
    assumption

theorem execOvercurrentExpiry_kept {m0 : May} {s0 : State} {a1 : Fin 8} {s : State} (h : Kept m0 s0 s) : OutKept m0 s0 (execOvercurrentExpiry a1 s) := by
  unfold execOvercurrentExpiry
  refine outKept_ite ?_ ?_
  · refine done_kept ?_
    refine State.fuseFailDue_kept ?_
    assumption
  · refine done_kept ?_
    assumption

theorem execEfuRetryReset_kept {m0 : May} {s0 : State} {a1 : Fin 8} {s : State} (h : Kept m0 s0 s) : OutKept m0 s0 (execEfuRetryReset a1 s) := by
  unfold execEfuRetryReset
  refine outKept_ite ?_ ?_
  · refine done_kept ?_
    refine State.set_kept ?_
    assumption
  · refine done_kept ?_
    assumption

theorem State.fetJudge_kept {m0 : May} {s0 s : State} {a2 : Fin 8} (h : Kept m0 s0 s) : Kept m0 s0 (State.fetJudge s a2) := by
  unfold State.fetJudge
  lift_lets
  intro x0
  clear_value x0
  split
  · refine State.setB_kept ?_
    refine State.setInvalid_kept ?_
    assumption
  · lift_lets
    intro x1
    have hx1 : Kept m0 s0 (x1) := by
      unfold x1
      refine State.setB_kept ?_
      refine State.setI_kept ?_
      assumption
    clear_value x1
    intro x2
    clear_value x2
    intro x3
    clear_value x3
    intro x4
    have hx4 : Kept m0 s0 (x4) := by
      unfold x4
      refine kept_ite ?_ ?_
      · refine State.event_kept ?_
        refine State.setB_kept ?_
        assumption
      · refine kept_ite ?_ ?_
        · refine State.setB_kept ?_
          assumption
        · assumption
    clear_value x4
    refine kept_ite ?_ ?_
    · refine State.fuseFailDue_kept ?_
      assumption
    · assumption

theorem State.fuseSquare_kept {m0 : May} {s0 s : State} {a2 : Fin 8} (h : Kept m0 s0 s) : Kept m0 s0 (State.fuseSquare s a2) := by
  unfold State.fuseSquare
  lift_lets
  intro x0
  clear_value x0
  intro x1
  clear_value x1
  refine kept_ite ?_ ?_
  · assumption
  · refine State.setFuse_kept ?_
    assumption

theorem State.fetStep_kept {m0 : May} {s0 s : State} {a2 : Fin 8} (h : Kept m0 s0 s) : Kept m0 s0 (State.fetStep s a2) := by
  unfold State.fetStep
  lift_lets
  intro x0
  clear_value x0
  intro x1
  clear_value x1
  intro x2
  clear_value x2
  intro x3
  clear_value x3
  intro x4
  clear_value x4
  intro x5
  clear_value x5
  refine State.setFuse_kept ?_
  assumption

theorem execFetModelUpdate_kept {m0 : May} {s0 : State} {a1 : Unit} {s : State} (h : Kept m0 s0 s) : OutKept m0 s0 (execFetModelUpdate a1 s) := by
  unfold execFetModelUpdate
  refine outKept_ite ?_ ?_
  · refine done_kept ?_
    assumption
  · lift_lets
    intro x0
    have hx0 : Kept m0 s0 (x0) := by
      unfold x0
      refine State.each_kept ?_ ?_
      · assumption
      · intro v1_0 v1_1 v1_2
        refine State.fetStep_kept ?_
        refine State.fuseSquare_kept ?_
        assumption
    clear_value x0
    refine done_kept ?_
    refine State.each_kept ?_ ?_
    · assumption
    · intro v2_0 v2_1 v2_2
      refine State.fetJudge_kept ?_
      assumption

theorem State.fuseDamage_kept {m0 : Bool} {s0 s : State} {a2 : Fin 8} (h : Kept ⟨m0, true⟩ s0 s) : Kept ⟨m0, true⟩ s0 (State.fuseDamage s a2) := by
  unfold State.fuseDamage
  lift_lets
  intro x0
  have hx0 : Kept ⟨m0, true⟩ s0 (x0) := by
    unfold x0
    refine State.fuseOff_kept ?_
    assumption
  clear_value x0
  intro x1
  clear_value x1
  intro x2
  have hx2 : Kept ⟨m0, true⟩ s0 (x2) := by
    unfold x2
    refine State.setFuse_kept ?_
    assumption
  clear_value x2
  refine State.settle_kept ?_
  refine State.detect_kept ?_
  refine State.trigger_kept ?_
  refine State.event_kept ?_
  assumption

theorem execDamageDetect_kept {m0 : Bool} {s0 : State} {a1 : Fin 8} {s : State} (h : Kept ⟨m0, true⟩ s0 s) : OutKept ⟨m0, true⟩ s0 (execDamageDetect a1 s) := by
  unfold execDamageDetect
  refine outKept_ite ?_ ?_
  · refine done_kept ?_
    refine State.fuseDamage_kept ?_
    assumption
  · refine done_kept ?_
    assumption

theorem State.efuOn_kept {m0 : Bool} {s0 s : State} {a2 : Fin 8} (h : Kept ⟨m0, true⟩ s0 s) : Kept ⟨m0, true⟩ s0 (State.efuOn s a2) := by
  unfold State.efuOn
  lift_lets
  intro x0
  have hx0 : Kept ⟨m0, true⟩ s0 (x0) := by
    unfold x0
    refine State.iff_kept ?_ ?_
    · assumption
    · intro v1_0 v1_1
      refine State.fuseDamage_kept ?_
      assumption
  clear_value x0
  intro x2
  clear_value x2
  refine kept_ite ?_ ?_
  · refine State.event_kept ?_
    assumption
  · refine State.fuseEval_kept ?_
    refine State.setFuse_kept ?_
    assumption

theorem State.efuOff_kept {m0 : May} {s0 s : State} {a2 : Fin 8} (h : Kept m0 s0 s) : Kept m0 s0 (State.efuOff s a2) := by
  unfold State.efuOff
  refine State.fuseEval_kept ?_
  refine State.setFuse_kept ?_
  assumption

theorem State.efuClear_kept {m0 : May} {s0 s : State} {a2 : Fin 8} (h : Kept m0 s0 s) : Kept m0 s0 (State.efuClear s a2) := by
  unfold State.efuClear
  lift_lets
  intro x0
  try clear_value x0
  intro x1
  try clear_value x1
  refine kept_ite ?_ ?_
  · refine State.settle_kept ?_
    refine State.fuseEval_kept ?_
    refine State.set_kept ?_
    refine State.setFuse_kept ?_
    refine State.setFuseState_kept ?_
    assumption
  · refine kept_ite ?_ ?_
    · refine State.settle_kept ?_
      refine State.fuseEval_kept ?_
      refine State.setFuseState_kept ?_
      assumption
    · refine State.event_kept ?_
      assumption

theorem execEfuOn_kept {m0 : Bool} {s0 : State} {a1 : Requester} {a2 : Fin 8} {s : State} (h : Kept ⟨m0, true⟩ s0 s) : OutKept ⟨m0, true⟩ s0 (execEfuOn a1 a2 s) := by
  unfold execEfuOn
  refine done_kept ?_
  refine State.gate_kept ?_ ?_
  · assumption
  · intro v0_0 v0_1
    refine State.ranked_kept ?_ ?_
    · assumption
    · intro v1_0 v1_1
      refine State.efuOn_kept ?_
      assumption

theorem execEfuOff_kept {m0 : May} {s0 : State} {a1 : Requester} {a2 : Fin 8} {s : State} (h : Kept m0 s0 s) : OutKept m0 s0 (execEfuOff a1 a2 s) := by
  unfold execEfuOff
  refine done_kept ?_
  refine State.gate_kept ?_ ?_
  · assumption
  · intro v0_0 v0_1
    refine State.ranked_kept ?_ ?_
    · assumption
    · intro v1_0 v1_1
      refine State.efuOff_kept ?_
      assumption

theorem execEfuClear_kept {m0 : May} {s0 : State} {a1 : Requester} {a2 : Fin 8} {s : State} (h : Kept m0 s0 s) : OutKept m0 s0 (execEfuClear a1 a2 s) := by
  unfold execEfuClear
  refine done_kept ?_
  refine State.gate_kept ?_ ?_
  · assumption
  · intro v0_0 v0_1
    refine State.efuClear_kept ?_
    assumption

theorem State.setForce_kept {m0 : May} {s0 s : State} {a2 : Option Bool} (h : Kept m0 s0 s) : Kept m0 s0 (State.setForce s a2) := by
  unfold State.setForce
  refine kept_mk ?_
  assumption

theorem execFeedA_kept {m0 : May} {s0 : State} {a1 : Requester} {s : State} (h : Kept m0 s0 s) : OutKept m0 s0 (execFeedA a1 s) := by
  unfold execFeedA
  refine done_kept ?_
  refine State.gate_kept ?_ ?_
  · assumption
  · intro v0_0 v0_1
    refine State.ranked_kept ?_ ?_
    · assumption
    · intro v1_0 v1_1
      refine State.setForce_kept ?_
      assumption

theorem execFeedB_kept {m0 : May} {s0 : State} {a1 : Requester} {s : State} (h : Kept m0 s0 s) : OutKept m0 s0 (execFeedB a1 s) := by
  unfold execFeedB
  refine done_kept ?_
  refine State.gate_kept ?_ ?_
  · assumption
  · intro v0_0 v0_1
    refine State.ranked_kept ?_ ?_
    · assumption
    · intro v1_0 v1_1
      refine State.setForce_kept ?_
      assumption

theorem execFeedAuto_kept {m0 : May} {s0 : State} {a1 : Requester} {s : State} (h : Kept m0 s0 s) : OutKept m0 s0 (execFeedAuto a1 s) := by
  unfold execFeedAuto
  refine done_kept ?_
  refine State.gate_kept ?_ ?_
  · assumption
  · intro v0_0 v0_1
    refine State.ranked_kept ?_ ?_
    · assumption
    · intro v1_0 v1_1
      refine State.setForce_kept ?_
      assumption

theorem execFeedGood_kept {m0 : May} {s0 : State} {a1 : Fin 2} {s : State} (h : Kept m0 s0 s) : OutKept m0 s0 (execFeedGood a1 s) := by
  unfold execFeedGood
  refine outKept_ite ?_ ?_
  · refine done_kept ?_
    refine State.setB_kept ?_
    assumption
  · refine done_kept ?_
    assumption

theorem execFeedBad_kept {m0 : May} {s0 : State} {a1 : Fin 2} {s : State} (h : Kept m0 s0 s) : OutKept m0 s0 (execFeedBad a1 s) := by
  unfold execFeedBad
  refine outKept_ite ?_ ?_
  · refine done_kept ?_
    refine State.setB_kept ?_
    assumption
  · refine done_kept ?_
    assumption

theorem State.feedDue_kept {m0 : May} {s0 s : State} (h : Kept m0 s0 s) : Kept m0 s0 (State.feedDue s) := by
  unfold State.feedDue
  refine kept_mk ?_
  assumption

theorem execFeedRevertTimer_kept {m0 : May} {s0 s : State} (h : Kept m0 s0 s) : OutKept m0 s0 (execFeedRevertTimer s) := by
  unfold execFeedRevertTimer
  refine outKept_ite ?_ ?_
  · refine done_kept ?_
    refine State.feedDue_kept ?_
    assumption
  · refine done_kept ?_
    assumption

theorem State.switchDone_kept {m0 : May} {s0 s : State} (h : Kept m0 s0 s) : Kept m0 s0 (State.switchDone s) := by
  unfold State.switchDone
  lift_lets
  intro x0
  have hx0 : Kept m0 s0 (x0) := by
    unfold x0
    refine State.setB_kept ?_
    assumption
  clear_value x0
  intro x1
  clear_value x1
  intro x2
  have hx2 : Kept m0 s0 (x2) := by
    unfold x2
    refine kept_mk ?_
    assumption
  clear_value x2
  intro x3
  have hx3 : Kept m0 s0 (x3) := by
    unfold x3
    refine State.iff_kept ?_ ?_
    · assumption
    · intro v4_0 v4_1
      lift_lets
      intro x5
      clear_value x5
      intro x6
      clear_value x6
      refine State.setFuse_kept ?_
      assumption
  clear_value x3
  refine State.efuEval_kept ?_
  refine State.inc_kept ?_
  assumption

theorem execFeedSwitchStart_kept {m0 : May} {s0 s : State} (h : Kept m0 s0 s) : OutKept m0 s0 (execFeedSwitchStart s) := by
  unfold execFeedSwitchStart
  refine outKept_ite ?_ ?_
  · refine done_kept ?_
    refine State.feedDue_kept ?_
    assumption
  · refine done_kept ?_
    assumption

theorem State.feedSwitch_kept {m0 : May} {s0 s : State} (h : Kept m0 s0 s) : Kept m0 s0 (State.feedSwitch s) := by
  unfold State.feedSwitch
  refine kept_ite ?_ ?_
  · assumption
  · lift_lets
    intro x0
    clear_value x0
    intro x1
    clear_value x1
    intro x2
    have hx2 : Kept m0 s0 (x2) := by
      unfold x2
      refine kept_mk ?_
      assumption
    clear_value x2
    intro x3
    clear_value x3
    intro x4
    clear_value x4
    intro x5
    clear_value x5
    refine kept_ite ?_ ?_
    · assumption
    · refine State.efuEval_kept ?_
      refine kept_mk ?_
      assumption

theorem execFeedBbmComplete_kept {m0 : May} {s0 s : State} (h : Kept m0 s0 s) : OutKept m0 s0 (execFeedBbmComplete s) := by
  unfold execFeedBbmComplete
  split
  · refine outKept_ite ?_ ?_
    · refine done_kept ?_
      refine State.switchDone_kept ?_
      assumption
    · refine done_kept ?_
      assumption
  · refine done_kept ?_
    assumption

theorem execFeedStuck_kept {m0 : May} {s0 s : State} (h : Kept m0 s0 s) : OutKept m0 s0 (execFeedStuck s) := by
  unfold execFeedStuck
  split
  · refine outKept_ite ?_ ?_
    · refine done_kept ?_
      refine State.event_kept ?_
      refine State.setB_kept ?_
      assumption
    · refine done_kept ?_
      assumption
  · refine done_kept ?_
    assumption

theorem State.slotRemove_kept {m0 : May} {s0 s : State} {a2 : Fin 8} {a3 : Nat} (h : Kept m0 s0 s) : Kept m0 s0 (State.slotRemove s a2 a3) := by
  unfold State.slotRemove
  lift_lets
  intro x0
  clear_value x0
  intro x1
  clear_value x1
  intro x2
  clear_value x2
  intro x3
  clear_value x3
  intro x4
  have hx4 : Kept m0 s0 (x4) := by
    unfold x4
    refine State.setB_kept ?_
    assumption
  clear_value x4
  intro x5
  have hx5 : Kept m0 s0 (x5) := by
    unfold x5
    refine State.setFuse_kept ?_
    assumption
  clear_value x5
  refine kept_ite ?_ ?_
  · refine State.fuseOff_kept ?_
    assumption
  · refine State.set_kept ?_
    assumption

theorem State.slotInsert_kept {m0 : May} {s0 s : State} {a2 : Fin 8} {a3 : Nat} (h : Kept m0 s0 s) : Kept m0 s0 (State.slotInsert s a2 a3) := by
  unfold State.slotInsert
  lift_lets
  intro x0
  clear_value x0
  intro x1
  have hx1 : Kept m0 s0 (x1) := by
    unfold x1
    refine State.inc_kept ?_
    refine State.setB_kept ?_
    assumption
  clear_value x1
  intro x2
  have hx2 : Kept m0 s0 (x2) := by
    unfold x2
    refine State.iff_kept ?_ ?_
    · refine State.set_kept ?_
      assumption
    · intro v3_0 v3_1
      refine State.setFuseState_kept ?_
      assumption
  clear_value x2
  split
  · lift_lets
    intro x4
    have hx4 : Kept m0 s0 (x4) := by
      unfold x4
      refine State.set_kept ?_
      assumption
    clear_value x4
    refine kept_ite ?_ ?_
    · refine State.fuseEval_kept ?_
      refine State.setFuse_kept ?_
      assumption
    · refine State.fuseEval_kept ?_
      refine State.setFuse_kept ?_
      assumption
  · refine State.fuseEval_kept ?_
    refine State.setFuse_kept ?_
    assumption

theorem execSlotInsert_kept {m0 : May} {s0 : State} {a1 : Fin 8} {a2 : Unit} {s : State} (h : Kept m0 s0 s) : OutKept m0 s0 (execSlotInsert a1 a2 s) := by
  unfold execSlotInsert
  refine outKept_ite ?_ ?_
  · refine done_kept ?_
    refine State.settle_kept ?_
    refine State.slotInsert_kept ?_
    assumption
  · refine done_kept ?_
    assumption

theorem execSlotRemove_kept {m0 : May} {s0 : State} {a1 : Fin 8} {a2 : Unit} {s : State} (h : Kept m0 s0 s) : OutKept m0 s0 (execSlotRemove a1 a2 s) := by
  unfold execSlotRemove
  refine outKept_ite ?_ ?_
  · refine done_kept ?_
    refine State.settle_kept ?_
    refine State.slotRemove_kept ?_
    assumption
  · refine done_kept ?_
    assumption

theorem execSlotMemoryExpiry_kept {m0 : May} {s0 : State} {a1 : Fin 8} {s : State} (h : Kept m0 s0 s) : OutKept m0 s0 (execSlotMemoryExpiry a1 s) := by
  unfold execSlotMemoryExpiry
  split
  · refine outKept_ite ?_ ?_
    · refine done_kept ?_
      refine State.setFuse_kept ?_
      assumption
    · refine done_kept ?_
      assumption
  · refine done_kept ?_
    assumption

theorem State.slotEntry_kept {m0 : May} {s0 s : State} {a2 : Nat} {a3 : Bool} (h : Kept m0 s0 s) : Kept m0 s0 (State.slotEntry s a2 a3) := by
  unfold State.slotEntry
  refine State.each_kept ?_ ?_
  · assumption
  · intro v0_0 v0_1 v0_2
    refine kept_ite ?_ ?_
    · refine State.slotInsert_kept ?_
      assumption
    · refine State.slotRemove_kept ?_
      assumption

theorem State.efuStart_kept {m0 : May} {s0 s : State} {a2 : Nat} (h : Kept m0 s0 s) : Kept m0 s0 (State.efuStart s a2) := by
  unfold State.efuStart
  lift_lets
  intro x0
  have hx0 : Kept m0 s0 (x0) := by
    unfold x0
    refine State.each_kept ?_ ?_
    · assumption
    · intro v1_0 v1_1 v1_2
      lift_lets
      intro x2
      clear_value x2
      intro x3
      clear_value x3
      intro x4
      have hx4 : Kept m0 s0 (x4) := by
        unfold x4
        refine State.setFuse_kept ?_
        assumption
      clear_value x4
      refine State.setB_kept ?_
      assumption
  clear_value x0
  refine State.each_kept ?_ ?_
  · assumption
  · intro v5_0 v5_1 v5_2
    lift_lets
    intro x6
    have hx6 : Kept m0 s0 (x6) := by
      unfold x6
      refine State.setBit_kept ?_
      refine State.setB_kept ?_
      refine State.fuseOn_kept ?_
      assumption
    clear_value x6
    intro x7
    clear_value x7
    refine kept_ite ?_ ?_
    · refine State.setFuse_kept ?_
      assumption
    · refine State.fuseEval_kept ?_
      refine State.setFuseState_kept ?_
      assumption

theorem State.fuseGain_kept {m0 : May} {s0 s : State} {a2 : Fin 8} {a3 : Nat} (h : Kept m0 s0 s) : Kept m0 s0 (State.fuseGain s a2 a3) := by
  unfold State.fuseGain
  lift_lets
  intro x0
  have hx0 : Kept m0 s0 (x0) := by
    unfold x0
    refine State.set_kept ?_
    assumption
  clear_value x0
  intro x1
  have hx1 : Kept m0 s0 (x1) := by
    unfold x1
    refine State.setB_kept ?_
    assumption
  clear_value x1
  intro x2
  have hx2 : Kept m0 s0 (x2) := by
    unfold x2
    refine State.fuseOn_kept ?_
    assumption
  clear_value x2
  intro x3
  clear_value x3
  intro x4
  have hx4 : Kept m0 s0 (x4) := by
    unfold x4
    refine State.fuseInrush_kept ?_
    assumption
  clear_value x4
  intro x5
  clear_value x5
  intro x6
  have hx6 : Kept m0 s0 (x6) := by
    unfold x6
    refine State.setFuseState_kept ?_
    assumption
  clear_value x6
  refine kept_ite ?_ ?_
  · refine kept_ite ?_ ?_
    · refine State.setFuse_kept ?_
      assumption
    · refine State.setFuse_kept ?_
      assumption
  · split
    · refine kept_ite ?_ ?_
      · refine State.fuseWait_kept ?_
        assumption
      · refine State.fuseEval_kept ?_
        assumption
    · refine State.fuseEval_kept ?_
      assumption

theorem State.efuTick_kept {m0 : Bool} {s0 s : State} (h : Kept ⟨m0, true⟩ s0 s) : Kept ⟨m0, true⟩ s0 (State.efuTick s) := by
  unfold State.efuTick
  lift_lets
  intro x0
  have hx0 : Kept ⟨m0, true⟩ s0 (x0) := by
    unfold x0
    refine State.failJudge_kept ?_
    refine State.feedSwitch_kept ?_
    assumption
  clear_value x0
  intro x1
  have hx1 : Kept ⟨m0, true⟩ s0 (x1) := by
    unfold x1
    refine State.each_kept ?_ ?_
    · assumption
    · intro v2_0 v2_1 v2_2
      lift_lets
      intro x3
      have hx3 : Kept ⟨m0, true⟩ s0 (x3) := by
        unfold x3
        refine State.fuseSquare_kept ?_
        assumption
      clear_value x3
      intro x4
      clear_value x4
      intro x5
      clear_value x5
      refine State.setFuse_kept ?_
      assumption
  clear_value x1
  intro x6
  clear_value x6
  refine kept_mk ?_
  assumption

theorem State.thmRequests_kept {m0 : Bool} {s0 s : State} (h : Kept ⟨m0, true⟩ s0 s) : Kept ⟨m0, true⟩ s0 (State.thmRequests s) := by
  unfold State.thmRequests
  lift_lets
  intro x0
  clear_value x0
  intro x1
  clear_value x1
  intro x2
  clear_value x2
  intro x3
  clear_value x3
  intro x4
  clear_value x4
  intro x5
  have hx5 : Kept ⟨m0, true⟩ s0 (x5) := by
    unfold x5
    refine State.set_kept ?_
    refine State.set_kept ?_
    assumption
  clear_value x5
  intro x6
  have hx6 : Kept ⟨m0, true⟩ s0 (x6) := by
    unfold x6
    refine State.set_kept ?_
    refine State.set_kept ?_
    refine State.set_kept ?_
    assumption
  clear_value x6
  intro x7
  have hx7 : Kept ⟨m0, true⟩ s0 (x7) := by
    unfold x7
    refine State.each_kept ?_ ?_
    · assumption
    · intro v8_0 v8_1 v8_2
      refine State.strOpen_kept ?_
      assumption
  clear_value x7
  refine State.each_kept ?_ ?_
  · assumption
  · intro v9_0 v9_1 v9_2
    refine State.causeGone_kept ?_
    assumption

theorem State.thmEnter_kept {m0 : Bool} {s0 s : State} {a2 : Nat} {a3 : Nat} (h : Kept ⟨m0, true⟩ s0 s) : Kept ⟨m0, true⟩ s0 (State.thmEnter s a2 a3) := by
  unfold State.thmEnter
  lift_lets
  intro x0
  clear_value x0
  intro x1
  clear_value x1
  intro x2
  have hx2 : Kept ⟨m0, true⟩ s0 (x2) := by
    unfold x2
    refine State.set_kept ?_
    assumption
  clear_value x2
  intro x3
  have hx3 : Kept ⟨m0, true⟩ s0 (x3) := by
    unfold x3
    refine State.iff_kept ?_ ?_
    · assumption
    · intro v4_0 v4_1
      refine State.inc_kept ?_
      assumption
  clear_value x3
  intro x5
  have hx5 : Kept ⟨m0, true⟩ s0 (x5) := by
    unfold x5
    refine State.iff_kept ?_ ?_
    · assumption
    · intro v6_0 v6_1
      refine State.inc_kept ?_
      assumption
  clear_value x5
  intro x7
  have hx7 : Kept ⟨m0, true⟩ s0 (x7) := by
    unfold x7
    refine State.iff_kept ?_ ?_
    · assumption
    · intro v8_0 v8_1
      refine State.inc_kept ?_
      assumption
  clear_value x7
  intro x9
  have hx9 : Kept ⟨m0, true⟩ s0 (x9) := by
    unfold x9
    refine State.event_kept ?_
    assumption
  clear_value x9
  refine kept_ite ?_ ?_
  · assumption
  · refine State.iff_kept ?_ ?_
    · assumption
    · intro v10_0 v10_1
      refine State.trigger_kept ?_
      assumption

theorem State.thmRecompute_kept {m0 : Bool} {s0 s : State} {a2 : Fin 6} (h : Kept ⟨m0, true⟩ s0 s) : Kept ⟨m0, true⟩ s0 (State.thmRecompute s a2) := by
  unfold State.thmRecompute
  split
  · lift_lets
    intro x0
    clear_value x0
    intro x1
    have hx1 : Kept ⟨m0, true⟩ s0 (x1) := by
      unfold x1
      refine State.setB_kept ?_
      refine State.setB_kept ?_
      refine State.setInvalid_kept ?_
      assumption
    clear_value x1
    intro x2
    clear_value x2
    intro x3
    have hx3 : Kept ⟨m0, true⟩ s0 (x3) := by
      unfold x3
      refine kept_mk ?_
      assumption
    clear_value x3
    refine State.iff_kept ?_ ?_
    · assumption
    · intro v4_0 v4_1
      refine State.event_kept ?_
      assumption
  · lift_lets
    intro x5
    clear_value x5
    intro x6
    clear_value x6
    intro x7
    clear_value x7
    intro x8
    have hx8 : Kept ⟨m0, true⟩ s0 (x8) := by
      unfold x8
      refine kept_mk ?_
      assumption
    clear_value x8
    intro x9
    have hx9 : Kept ⟨m0, true⟩ s0 (x9) := by
      unfold x9
      refine State.set_kept ?_
      refine State.setB_kept ?_
      refine State.setI_kept ?_
      assumption
    clear_value x9
    intro x10
    have hx10 : Kept ⟨m0, true⟩ s0 (x10) := by
      unfold x10
      refine State.thmEnter_kept ?_
      assumption
    clear_value x10
    refine State.thmRequests_kept ?_
    refine State.setB_kept ?_
    assumption

theorem State.thmDisable_kept {m0 : Bool} {s0 s : State} (h : Kept ⟨m0, true⟩ s0 s) : Kept ⟨m0, true⟩ s0 (State.thmDisable s) := by
  unfold State.thmDisable
  refine State.thmRequests_kept ?_
  refine State.each_kept ?_ ?_
  · assumption
  · intro v0_0 v0_1 v0_2
    refine State.thmEnter_kept ?_
    assumption

theorem State.ownNothing_kept {m0 : May} {s0 s : State} (h : Kept m0 s0 s) : Kept m0 s0 (State.ownNothing s) := by
  unfold State.ownNothing
  lift_lets
  intro x0
  have hx0 : Kept m0 s0 (x0) := by
    unfold x0
    refine State.set_kept ?_
    refine State.set_kept ?_
    refine State.set_kept ?_
    refine State.set_kept ?_
    assumption
  clear_value x0
  refine State.set_kept ?_
  refine State.set_kept ?_
  assumption

theorem State.fence_kept {m0 : Bool} {s0 s : State} {a2 : Nat} (h : Kept ⟨m0, true⟩ s0 s) : Kept ⟨m0, true⟩ s0 (State.fence s a2) := by
  unfold State.fence
  refine kept_ite ?_ ?_
  · assumption
  · lift_lets
    intro x0
    have hx0 : Kept ⟨m0, true⟩ s0 (x0) := by
      unfold x0
      refine State.set_kept ?_
      refine State.set_kept ?_
      refine State.setB_kept ?_
      refine State.setB_kept ?_
      assumption
    clear_value x0
    intro x1
    have hx1 : Kept ⟨m0, true⟩ s0 (x1) := by
      unfold x1
      refine State.ownNothing_kept ?_
      refine State.event_kept ?_
      refine State.inc_kept ?_
      assumption
    clear_value x1
    intro x2
    intro x3
    clear_value x3
    intro x4
    have hx4 : Kept ⟨m0, true⟩ s0 (x4) := by
      unfold x4
      refine kept_mk ?_
      assumption
    clear_value x4
    intro x5
    have hx5 : Kept ⟨m0, true⟩ s0 (x5) := by
      unfold x5
      refine State.each_kept ?_ ?_
      · assumption
      · intro v6_0 v6_1 v6_2
        refine State.groupCheck_kept ?_
        refine State.fireCut_kept ?_
        assumption
    clear_value x5
    intro x7
    have hx7 : Kept ⟨m0, true⟩ s0 (x7) := by
      unfold x7
      refine State.each_kept ?_ ?_
      · assumption
      · intro v8_0 v8_1 v8_2
        refine State.phaseLow_kept ?_
        assumption
    clear_value x7
    intro x9
    have hx9 : Kept ⟨m0, true⟩ s0 (x9) := by
      unfold x9
      refine State.each_kept ?_ ?_
      · assumption
      · intro v10_0 v10_1 v10_2
        lift_lets
        intro x11
        clear_value x11
        refine kept_ite ?_ ?_
        · refine State.enFall_kept ?_
          assumption
        · refine State.setRail_kept ?_
          assumption
    clear_value x9
    refine State.settle_kept ?_
    refine State.seqShow_kept ?_
    refine State.efuEval_kept ?_
    assumption

theorem State.openAll_kept {m0 : Bool} {s0 s : State} {a2 : Nat} (h : Kept ⟨m0, true⟩ s0 s) : Kept ⟨m0, true⟩ s0 (State.openAll s a2) := by
  unfold State.openAll
  refine State.each_kept ?_ ?_
  · assumption
  · intro v0_0 v0_1 v0_2
    refine State.strOpen_kept ?_
    assumption

theorem State.railsHook_kept {m0 : Bool} {s0 s : State} (h : Kept ⟨m0, true⟩ s0 s) : Kept ⟨m0, true⟩ s0 (State.railsHook s) := by
  unfold State.railsHook
  refine kept_ite ?_ ?_
  · assumption
  · split
    · refine State.openAll_kept ?_
      refine State.efuEval_kept ?_
      assumption
    · refine kept_ite ?_ ?_
      · lift_lets
        intro x0
        have hx0 : Kept ⟨m0, true⟩ s0 (x0) := by
          unfold x0
          refine State.efuEval_kept ?_
          assumption
        clear_value x0
        intro x1
        have hx1 : Kept ⟨m0, true⟩ s0 (x1) := by
          unfold x1
          refine State.each_kept ?_ ?_
          · assumption
          · intro v2_0 v2_1 v2_2
            refine State.strSave_kept ?_
            assumption
        clear_value x1
        refine State.openAll_kept ?_
        refine State.storeCurves_kept ?_
        assumption
      · assumption
    · assumption

theorem State.seqTail_kept {m0 : Bool} {s0 s : State} (h : Kept ⟨m0, true⟩ s0 s) : Kept ⟨m0, true⟩ s0 (State.seqTail s) := by
  unfold State.seqTail
  refine State.settle_kept ?_
  refine State.railsHook_kept ?_
  refine State.seqShow_kept ?_
  assumption

theorem State.enterPower_kept {s0 s : State} {a2 : PowerState} (h : Kept ⟨true, true⟩ s0 s) : Kept ⟨true, true⟩ s0 (State.enterPower s a2) := by
  unfold State.enterPower
  split
  · exact h
  · next hm =>
    extract_lets old outer t1 t2 t3 t4 bo t5 t6 t7 t8
    have h1 : Kept ⟨true, true⟩ s0 t1 := kept_enter h (by simpa using hm)
    clear_value t1
    have h3 : Kept ⟨true, true⟩ s0 t3 := State.iff_kept (State.chargeCount_kept (State.shareEnter_kept (State.convEnter_kept h1))) (fun _ h => State.tuneAbort_kept h)
    clear_value t3 t2
    have h4 : Kept ⟨true, true⟩ s0 t4 := by
      unfold t4
      split
      · exact State.trigger_kept h3
      · exact h3
    clear_value t4
    have h5 : Kept ⟨true, true⟩ s0 t5 := kept_mk h4
    clear_value t5
    have h6 : Kept ⟨true, true⟩ s0 t6 := by
      unfold t6
      split
      · exact State.openAll_kept h5
      · exact State.timeSave_kept (State.closeWindows_kept h4)
      · exact h4
    clear_value t6
    exact State.seqTail_kept (State.iff_kept (State.efuEval_kept (State.seqEval_kept h6)) (fun _ h => State.fence_kept h))

theorem State.shipEntry_kept {s0 s : State} (h : Kept ⟨true, true⟩ s0 s) : Kept ⟨true, true⟩ s0 (State.shipEntry s) := by
  unfold State.shipEntry
  refine kept_ite ?_ ?_
  · assumption
  · lift_lets
    intro x0
    intro x1
    have hx1 : Kept ⟨true, true⟩ s0 (x1) := by
      unfold x1
      refine kept_mk ?_
      assumption
    refine kept_ite ?_ ?_
    · refine State.enterPower_kept ?_
      unfold x1
      refine kept_mk ?_
      assumption
    · refine State.event_kept ?_
      unfold x1
      refine kept_mk ?_
      assumption

theorem State.powerLevels_kept {s0 s : State} (h : Kept ⟨true, true⟩ s0 s) : Kept ⟨true, true⟩ s0 (State.powerLevels s) := by
  unfold State.powerLevels
  refine kept_ite ?_ ?_
  · refine State.enterPower_kept ?_
    assumption
  · refine kept_ite ?_ ?_
    · assumption
    · refine kept_ite ?_ ?_
      · refine State.enterPower_kept ?_
        assumption
      · refine kept_ite ?_ ?_
        · refine State.enterPower_kept ?_
          assumption
        · assumption

theorem State.powerTick_kept {s0 s : State} (h : Kept ⟨true, true⟩ s0 s) : Kept ⟨true, true⟩ s0 (State.powerTick s) := by
  unfold State.powerTick
  refine kept_ite ?_ ?_
  · assumption
  · lift_lets
    intro x0
    have hx0 : Kept ⟨true, true⟩ s0 (x0) := by
      unfold x0
      refine State.shedJudge_kept ?_
      refine State.shedJudge_kept ?_
      refine State.shortTick_kept ?_
      refine State.shipEntry_kept ?_
      refine State.powerLevels_kept ?_
      assumption
    clear_value x0
    intro x1
    clear_value x1
    refine kept_mk ?_
    assumption

theorem execAcFailAssert_kept {s0 : State} {a1 : Option (Fin 4)} {s : State} (h : Kept ⟨true, true⟩ s0 s) : OutKept ⟨true, true⟩ s0 (execAcFailAssert a1 s) := by
  unfold execAcFailAssert
  split
  · refine done_kept ?_
    refine State.powerLevels_kept ?_
    refine State.shevLine_kept ?_
    refine State.shevBall_kept ?_
    assumption
  · refine done_kept ?_
    refine State.powerLevels_kept ?_
    assumption

theorem execAcFailClear_kept {m0 : May} {s0 : State} {a1 : Fin 4} {s : State} (h : Kept m0 s0 s) : OutKept m0 s0 (execAcFailClear a1 s) := by
  unfold execAcFailClear
  refine done_kept ?_
  refine State.shevLine_kept ?_
  refine State.shevBall_kept ?_
  assumption

theorem State.pickupEnter_kept {s0 s : State} (h : Kept ⟨true, true⟩ s0 s) : Kept ⟨true, true⟩ s0 (State.pickupEnter s) := by
  unfold State.pickupEnter
  refine kept_ite ?_ ?_
  · refine State.enterPower_kept ?_
    refine State.inc_kept ?_
    assumption
  · assumption

theorem execPickupQualified_kept {s0 s : State} (h : Kept ⟨true, true⟩ s0 s) : OutKept ⟨true, true⟩ s0 (execPickupQualified s) := by
  unfold execPickupQualified
  refine outKept_ite ?_ ?_
  · refine done_kept ?_
    refine State.pickupEnter_kept ?_
    assumption
  · refine done_kept ?_
    assumption

theorem execPrearmClearQualified_kept {s0 s : State} (h : Kept ⟨true, true⟩ s0 s) : OutKept ⟨true, true⟩ s0 (execPrearmClearQualified s) := by
  unfold execPrearmClearQualified
  refine outKept_ite ?_ ?_
  · refine done_kept ?_
    refine State.enterPower_kept ?_
    assumption
  · refine done_kept ?_
    assumption

theorem execReturnQualified_kept {s0 s : State} (h : Kept ⟨true, true⟩ s0 s) : OutKept ⟨true, true⟩ s0 (execReturnQualified s) := by
  unfold execReturnQualified
  refine outKept_ite ?_ ?_
  · refine done_kept ?_
    refine State.enterPower_kept ?_
    assumption
  · refine done_kept ?_
    assumption

theorem execReturnLoadLost_kept {s0 s : State} (h : Kept ⟨true, true⟩ s0 s) : OutKept ⟨true, true⟩ s0 (execReturnLoadLost s) := by
  unfold execReturnLoadLost
  refine outKept_ite ?_ ?_
  · refine done_kept ?_
    refine State.enterPower_kept ?_
    assumption
  · refine done_kept ?_
    assumption

theorem execHandbackRampComplete_kept {s0 s : State} (h : Kept ⟨true, true⟩ s0 s) : OutKept ⟨true, true⟩ s0 (execHandbackRampComplete s) := by
  unfold execHandbackRampComplete
  refine outKept_ite ?_ ?_
  · refine done_kept ?_
    refine State.enterPower_kept ?_
    assumption
  · refine done_kept ?_
    assumption

theorem execNoStringClosedExpiry_kept {s0 s : State} (h : Kept ⟨true, true⟩ s0 s) : OutKept ⟨true, true⟩ s0 (execNoStringClosedExpiry s) := by
  unfold execNoStringClosedExpiry
  refine outKept_ite ?_ ?_
  · refine done_kept ?_
    refine State.enterPower_kept ?_
    assumption
  · refine done_kept ?_
    assumption

theorem execExhaustedRecovered_kept {s0 s : State} (h : Kept ⟨true, true⟩ s0 s) : OutKept ⟨true, true⟩ s0 (execExhaustedRecovered s) := by
  unfold execExhaustedRecovered
  refine outKept_ite ?_ ?_
  · refine done_kept ?_
    refine State.enterPower_kept ?_
    assumption
  · refine done_kept ?_
    assumption

theorem execEfficiencyResumeTimer_kept {m0 : May} {s0 s : State} (h : Kept m0 s0 s) : OutKept m0 s0 (execEfficiencyResumeTimer s) := by
  unfold execEfficiencyResumeTimer
  refine outKept_ite ?_ ?_
  · refine done_kept ?_
    refine kept_mk ?_
    assumption
  · refine done_kept ?_
    assumption

theorem execEmptyQualified_kept {s0 : State} {a1 : Fin 8} {s : State} (h : Kept ⟨true, true⟩ s0 s) : OutKept ⟨true, true⟩ s0 (execEmptyQualified a1 s) := by
  unfold execEmptyQualified
  refine outKept_ite ?_ ?_
  · refine done_kept ?_
    refine State.powerLevels_kept ?_
    refine State.settle_kept ?_
    refine State.strEmptyEntry_kept ?_
    assumption
  · refine done_kept ?_
    assumption

theorem execAllfire_kept {s0 : State} {a1 : Fin 2} {a2 : Option Swing × Option Swing} {a3 : Fin 14} {s : State} (h : Kept ⟨true, true⟩ s0 s) : OutKept ⟨true, true⟩ s0 (execAllfire a1 a2 a3 s) := by
  unfold execAllfire
  lift_lets
  intro x0
  have hx0 : Kept ⟨true, true⟩ s0 (x0) := by
    unfold x0
    refine State.slopeNote_kept ?_
    assumption
  clear_value x0
  split
  · refine done_kept ?_
    assumption
  · lift_lets
    intro x1
    have hx1 : Kept ⟨true, true⟩ s0 (x1) := by
      unfold x1
      refine State.fire_kept ?_
      assumption
    clear_value x1
    refine outKept_ite ?_ ?_
    · refine outKept_ite ?_ ?_
      · refine done_kept ?_
        refine State.pickupEnter_kept ?_
        assumption
      · refine done_kept ?_
        refine State.settle_kept ?_
        assumption
    · refine outKept_ite ?_ ?_
      · refine done_kept ?_
        refine State.lockout_kept ?_
        refine State.fireRecord_kept ?_
        assumption
      · refine done_kept ?_
        assumption

theorem State.thmGroup_kept {s0 s : State} {a2 : Fin 6} (h : Kept ⟨true, true⟩ s0 s) : Kept ⟨true, true⟩ s0 (State.thmGroup s a2) := by
  unfold State.thmGroup
  refine kept_ite ?_ ?_
  · assumption
  · lift_lets
    intro x0
    clear_value x0
    intro x1
    clear_value x1
    intro x2
    have hx2 : Kept ⟨true, true⟩ s0 (x2) := by
      unfold x2
      refine State.settle_kept ?_
      refine State.thmRecompute_kept ?_
      refine kept_mk ?_
      assumption
    clear_value x2
    refine State.iff_kept ?_ ?_
    · assumption
    · intro v3_0 v3_1
      refine State.enterPower_kept ?_
      assumption

theorem execThermalGroupRecompute_kept {s0 : State} {a1 : Fin 6} {s : State} (h : Kept ⟨true, true⟩ s0 s) : OutKept ⟨true, true⟩ s0 (execThermalGroupRecompute a1 s) := by
  unfold execThermalGroupRecompute
  refine outKept_ite ?_ ?_
  · refine done_kept ?_
    assumption
  · refine done_kept ?_
    refine State.thmGroup_kept ?_
    assumption

theorem State.thmTick_kept {s0 s : State} (h : Kept ⟨true, true⟩ s0 s) : Kept ⟨true, true⟩ s0 (State.thmTick s) := by
  unfold State.thmTick
  refine kept_ite ?_ ?_
  · assumption
  · refine State.each_kept ?_ ?_
    · assumption
    · intro v0_0 v0_1 v0_2
      refine State.thmGroup_kept ?_
      assumption

theorem State.shipCmd_kept {m0 : May} {s0 s : State} {a2 : Word} (h : Kept m0 s0 s) : Kept m0 s0 (State.shipCmd s a2) := by
  unfold State.shipCmd
  refine kept_ite ?_ ?_
  · assumption
  · refine kept_ite ?_ ?_
    · refine State.event_kept ?_
      assumption
    · refine kept_ite ?_ ?_
      · refine State.event_kept ?_
        assumption
      · refine kept_mk ?_
        assumption

theorem execShip_kept {m0 : May} {s0 : State} {a1 : Requester} {a2 : Word} {s : State} (h : Kept m0 s0 s) : OutKept m0 s0 (execShip a1 a2 s) := by
  unfold execShip
  refine done_kept ?_
  refine State.gateRole_kept ?_ ?_
  · assumption
  · intro v0_0 v0_1
    refine State.shipCmd_kept ?_
    assumption

theorem State.shipTick_kept {m0 : May} {s0 s : State} (h : Kept m0 s0 s) : Kept m0 s0 (State.shipTick s) := by
  unfold State.shipTick
  refine kept_ite ?_ ?_
  · refine kept_mk ?_
    assumption
  · assumption

theorem State.seqRequest_kept {m0 : Bool} {s0 s : State} {a2 : Bool} (h : Kept ⟨m0, true⟩ s0 s) : Kept ⟨m0, true⟩ s0 (State.seqRequest s a2) := by
  unfold State.seqRequest
  refine State.seqTail_kept ?_
  refine State.seqEval_kept ?_
  refine kept_mk ?_
  assumption

theorem State.seqTick_kept {m0 : Bool} {s0 s : State} (h : Kept ⟨m0, true⟩ s0 s) : Kept ⟨m0, true⟩ s0 (State.seqTick s) := by
  unfold State.seqTick
  refine kept_ite ?_ ?_
  · assumption
  · lift_lets
    intro x0
    have hx0 : Kept ⟨m0, true⟩ s0 (x0) := by
      unfold x0
      refine State.seqEval_kept ?_
      refine State.downCheck_kept ?_
      refine State.upCheck_kept ?_
      refine State.faultJudge_kept ?_
      assumption
    clear_value x0
    intro x1
    clear_value x1
    intro x2
    have hx2 : Kept ⟨m0, true⟩ s0 (x2) := by
      unfold x2
      refine kept_mk ?_
      assumption
    clear_value x2
    intro x3
    have hx3 : Kept ⟨m0, true⟩ s0 (x3) := by
      unfold x3
      refine State.iff_kept ?_ ?_
      · refine State.iff_kept ?_ ?_
        · assumption
        · intro v4_0 v4_1
          refine State.setB_kept ?_
          assumption
      · intro v5_0 v5_1
        refine State.setB_kept ?_
        assumption
    clear_value x3
    refine State.sgAssert_kept ?_
    refine State.seqTail_kept ?_
    refine State.runSamples_kept ?_
    assumption

theorem State.seqClear_kept {m0 : Bool} {s0 s : State} (h : Kept ⟨m0, true⟩ s0 s) : Kept ⟨m0, true⟩ s0 (State.seqClear s) := by
  unfold State.seqClear
  refine kept_ite ?_ ?_
  · refine State.seqTail_kept ?_
    refine State.seqEval_kept ?_
    refine State.set_kept ?_
    refine State.set_kept ?_
    assumption
  · refine State.event_kept ?_
    assumption

theorem execSeqUp_kept {m0 : Bool} {s0 : State} {a1 : Requester} {s : State} (h : Kept ⟨m0, true⟩ s0 s) : OutKept ⟨m0, true⟩ s0 (execSeqUp a1 s) := by
  unfold execSeqUp
  refine done_kept ?_
  refine State.gate_kept ?_ ?_
  · assumption
  · intro v0_0 v0_1
    refine State.ranked_kept ?_ ?_
    · assumption
    · intro v1_0 v1_1
      refine State.seqRequest_kept ?_
      assumption

theorem execSeqDown_kept {m0 : Bool} {s0 : State} {a1 : Requester} {s : State} (h : Kept ⟨m0, true⟩ s0 s) : OutKept ⟨m0, true⟩ s0 (execSeqDown a1 s) := by
  unfold execSeqDown
  refine done_kept ?_
  refine State.gate_kept ?_ ?_
  · assumption
  · intro v0_0 v0_1
    refine State.ranked_kept ?_ ?_
    · assumption
    · intro v1_0 v1_1
      refine State.seqRequest_kept ?_
      assumption

theorem execSeqClear_kept {m0 : Bool} {s0 : State} {a1 : Requester} {s : State} (h : Kept ⟨m0, true⟩ s0 s) : OutKept ⟨m0, true⟩ s0 (execSeqClear a1 s) := by
  unfold execSeqClear
  refine done_kept ?_
  refine State.gate_kept ?_ ?_
  · assumption
  · intro v0_0 v0_1
    refine State.seqClear_kept ?_
    assumption

theorem State.pgBallTo_kept {m0 : May} {s0 s : State} {a2 : Fin 24} {a3 : Bool} (h : Kept m0 s0 s) : Kept m0 s0 (State.pgBallTo s a2 a3) := by
  unfold State.pgBallTo
  refine kept_mk ?_
  assumption

theorem execPgDeglitchChange_kept {m0 : Bool} {s0 : State} {a1 : Fin 24} {a2 : Bool} {s : State} (h : Kept ⟨m0, true⟩ s0 s) : OutKept ⟨m0, true⟩ s0 (execPgDeglitchChange a1 a2 s) := by
  unfold execPgDeglitchChange
  refine done_kept ?_
  refine State.seqTail_kept ?_
  refine State.pgLine_kept ?_
  refine State.pgBallTo_kept ?_
  assumption

theorem State.pgJudge_kept {m0 : Bool} {s0 s : State} (h : Kept ⟨m0, true⟩ s0 s) : Kept ⟨m0, true⟩ s0 (State.pgJudge s) := by
  unfold State.pgJudge
  lift_lets
  intro x0
  clear_value x0
  refine kept_ite ?_ ?_
  · assumption
  · refine State.seqTail_kept ?_
    refine State.each_kept ?_ ?_
    · assumption
    · intro v1_0 v1_1 v1_2
      refine State.pgLine_kept ?_
      assumption

theorem execRailQualified_kept {m0 : Bool} {s0 : State} {a1 : Fin 24} {s : State} (h : Kept ⟨m0, true⟩ s0 s) : OutKept ⟨m0, true⟩ s0 (execRailQualified a1 s) := by
  unfold execRailQualified
  lift_lets
  intro x0
  clear_value x0
  intro x1
  clear_value x1
  intro x2
  clear_value x2
  refine outKept_ite ?_ ?_
  · refine done_kept ?_
    refine State.seqTail_kept ?_
    refine State.qualify_kept ?_
    assumption
  · refine done_kept ?_
    assumption

theorem execRailEnRise_kept {m0 : Bool} {s0 : State} {a1 : Fin 24} {s : State} (h : Kept ⟨m0, true⟩ s0 s) : OutKept ⟨m0, true⟩ s0 (execRailEnRise a1 s) := by
  unfold execRailEnRise
  refine outKept_ite ?_ ?_
  · refine done_kept ?_
    refine State.seqTail_kept ?_
    refine State.enRise_kept ?_
    assumption
  · refine done_kept ?_
    assumption

theorem execRailWindowExpiry_kept {m0 : May} {s0 : State} {a1 : Fin 24} {s : State} (h : Kept m0 s0 s) : OutKept m0 s0 (execRailWindowExpiry a1 s) := by
  unfold execRailWindowExpiry
  lift_lets
  intro x0
  clear_value x0
  refine outKept_ite ?_ ?_
  · refine done_kept ?_
    refine State.railFault_kept ?_
    assumption
  · refine done_kept ?_
    assumption

theorem execRmonSample_kept {m0 : Bool} {s0 : State} {a1 : Fin 24} {s : State} (h : Kept ⟨m0, true⟩ s0 s) : OutKept ⟨m0, true⟩ s0 (execRmonSample a1 s) := by
  unfold execRmonSample
  lift_lets
  intro x0
  clear_value x0
  intro x1
  clear_value x1
  refine outKept_ite ?_ ?_
  · refine done_kept ?_
    refine State.seqTail_kept ?_
    refine State.railSample_kept ?_
    refine State.setRail_kept ?_
    assumption
  · refine done_kept ?_
    assumption

theorem execRailWarning_kept {m0 : May} {s0 : State} {a1 : Fin 24} {s : State} (h : Kept m0 s0 s) : OutKept m0 s0 (execRailWarning a1 s) := by
  unfold execRailWarning
  dsimp only
  split
  · refine outKept_ite (done_kept (State.event_kept (State.inc_kept (State.setBit_kept (State.setB_kept (State.setB_kept h)))))) (done_kept h)
  · exact done_kept h

theorem execFaultTimerExpiry_kept {m0 : May} {s0 : State} {a1 : Fin 24} {s : State} (h : Kept m0 s0 s) : OutKept m0 s0 (execFaultTimerExpiry a1 s) := by
  unfold execFaultTimerExpiry
  refine outKept_ite ?_ ?_
  · refine done_kept ?_
    refine State.railFault_kept ?_
    assumption
  · refine done_kept ?_
    assumption

theorem execFltAct0Requalify_kept {m0 : Bool} {s0 : State} {a1 : Fin 24} {s : State} (h : Kept ⟨m0, true⟩ s0 s) : OutKept ⟨m0, true⟩ s0 (execFltAct0Requalify a1 s) := by
  unfold execFltAct0Requalify
  lift_lets
  intro x0
  clear_value x0
  refine outKept_ite ?_ ?_
  · refine done_kept ?_
    refine State.seqTail_kept ?_
    refine State.qualify_kept ?_
    assumption
  · refine done_kept ?_
    assumption

theorem State.testStart_kept {m0 : May} {s0 s : State} (h : Kept m0 s0 s) : Kept m0 s0 (State.testStart s) := by
  unfold State.testStart
  lift_lets
  intro x0
  clear_value x0
  intro x1
  have hx1 : Kept m0 s0 (x1) := by
    unfold x1
    refine kept_mk ?_
    assumption
  clear_value x1
  refine State.each_kept ?_ ?_
  · assumption
  · intro v2_0 v2_1 v2_2
    lift_lets
    intro x3
    clear_value x3
    split
    · refine kept_ite ?_ ?_
      · refine State.setRail_kept ?_
        assumption
      · refine State.setRail_kept ?_
        assumption
    · assumption

theorem State.testStop_kept {m0 : May} {s0 s : State} (h : Kept m0 s0 s) : Kept m0 s0 (State.testStop s) := by
  unfold State.testStop
  refine kept_mk ?_
  assumption

theorem execRmnTest_kept {m0 : Bool} {s0 : State} {a1 : Requester} {s : State} (h : Kept ⟨m0, true⟩ s0 s) : OutKept ⟨m0, true⟩ s0 (execRmnTest a1 s) := by
  unfold execRmnTest
  refine done_kept ?_
  refine State.gate_kept ?_ ?_
  · assumption
  · intro v0_0 v0_1
    refine State.seqTail_kept ?_
    refine State.testStart_kept ?_
    assumption

theorem execRmnTestEnd_kept {m0 : Bool} {s0 : State} {a1 : Requester} {s : State} (h : Kept ⟨m0, true⟩ s0 s) : OutKept ⟨m0, true⟩ s0 (execRmnTestEnd a1 s) := by
  unfold execRmnTestEnd
  refine done_kept ?_
  refine State.gate_kept ?_ ?_
  · assumption
  · intro v0_0 v0_1
    refine State.seqTail_kept ?_
    refine State.testStop_kept ?_
    assumption

theorem execTestTimeout_kept {m0 : Bool} {s0 s : State} (h : Kept ⟨m0, true⟩ s0 s) : OutKept ⟨m0, true⟩ s0 (execTestTimeout s) := by
  unfold execTestTimeout
  refine outKept_ite ?_ ?_
  · refine done_kept ?_
    refine State.seqTail_kept ?_
    refine State.testStop_kept ?_
    assumption
  · refine done_kept ?_
    assumption

theorem execResetStretchEnd_kept {m0 : May} {s0 : State} {a1 : Fin 8} {s : State} (h : Kept m0 s0 s) : OutKept m0 s0 (execResetStretchEnd a1 s) := by
  unfold execResetStretchEnd
  split
  · refine outKept_ite ?_ ?_
    · refine done_kept ?_
      refine State.setB_kept ?_
      assumption
    · refine done_kept ?_
      assumption
  · refine done_kept ?_
    assumption

theorem execDnStuck_kept {m0 : May} {s0 : State} {a1 : Fin 24} {s : State} (h : Kept m0 s0 s) : OutKept m0 s0 (execDnStuck a1 s) := by
  unfold execDnStuck
  lift_lets
  intro x0
  clear_value x0
  refine outKept_ite ?_ ?_
  · refine done_kept ?_
    refine State.railFault_kept ?_
    assumption
  · refine done_kept ?_
    assumption

theorem execP7EnFall_kept {m0 : Bool} {s0 : State} {a1 : Fin 24} {s : State} (h : Kept ⟨m0, true⟩ s0 s) : OutKept ⟨m0, true⟩ s0 (execP7EnFall a1 s) := by
  unfold execP7EnFall
  refine outKept_ite ?_ ?_
  · refine done_kept ?_
    refine State.seqTail_kept ?_
    refine State.downCheck_kept ?_
    refine State.enFall_kept ?_
    assumption
  · refine done_kept ?_
    assumption

theorem execSeqRetryExpiry_kept {m0 : Bool} {s0 s : State} (h : Kept ⟨m0, true⟩ s0 s) : OutKept ⟨m0, true⟩ s0 (execSeqRetryExpiry s) := by
  unfold execSeqRetryExpiry
  refine outKept_ite ?_ ?_
  · refine done_kept ?_
    refine State.seqTail_kept ?_
    refine State.startUp_kept ?_
    assumption
  · refine done_kept ?_
    assumption

theorem execSeqRetryReset_kept {m0 : May} {s0 s : State} (h : Kept m0 s0 s) : OutKept m0 s0 (execSeqRetryReset s) := by
  unfold execSeqRetryReset
  refine outKept_ite ?_ ?_
  · refine done_kept ?_
    lift_lets
    intro x0
    have hx0 : Kept m0 s0 (x0) := by
      unfold x0
      refine State.set_kept ?_
      assumption
    clear_value x0
    intro x1
    clear_value x1
    refine kept_mk ?_
    assumption
  · refine done_kept ?_
    assumption

theorem State.dnIn_kept {m0 : Bool} {s0 s : State} {a2 : Bool} (h : Kept ⟨m0, true⟩ s0 s) : Kept ⟨m0, true⟩ s0 (State.dnIn s a2) := by
  unfold State.dnIn
  lift_lets
  intro x0
  have hx0 : Kept ⟨m0, true⟩ s0 (x0) := by
    unfold x0
    refine State.setB_kept ?_
    assumption
  clear_value x0
  refine kept_ite ?_ ?_
  · assumption
  · split
    · refine State.seqTail_kept ?_
      refine State.upCheck_kept ?_
      assumption
    · refine State.iff_kept ?_ ?_
      · assumption
      · intro v1_0 v1_1
        refine State.cascFault_kept ?_
        assumption
    · refine State.iff_kept ?_ ?_
      · assumption
      · intro v2_0 v2_1
        refine State.seqTail_kept ?_
        refine State.downProceed_kept ?_
        assumption
    · assumption

theorem State.upIn_kept {m0 : Bool} {s0 s : State} {a2 : Bool} (h : Kept ⟨m0, true⟩ s0 s) : Kept ⟨m0, true⟩ s0 (State.upIn s a2) := by
  unfold State.upIn
  lift_lets
  intro x0
  have hx0 : Kept ⟨m0, true⟩ s0 (x0) := by
    unfold x0
    refine State.setB_kept ?_
    assumption
  clear_value x0
  intro x1
  clear_value x1
  intro x2
  have hx2 : Kept ⟨m0, true⟩ s0 (x2) := by
    unfold x2
    refine kept_mk ?_
    assumption
  clear_value x2
  refine State.iff_kept ?_ ?_
  · assumption
  · intro v3_0 v3_1
    refine State.seqTail_kept ?_
    refine State.seqEval_kept ?_
    assumption

theorem State.cascLine_kept {m0 : Bool} {s0 s : State} (h : Kept ⟨m0, true⟩ s0 s) : Kept ⟨m0, true⟩ s0 (State.cascLine s) := by
  unfold State.cascLine
  lift_lets
  intro x0
  have hx0 : Kept ⟨m0, true⟩ s0 (x0) := by
    unfold x0
    refine State.iff_kept ?_ ?_
    · assumption
    · intro v1_0 v1_1
      refine State.dnIn_kept ?_
      assumption
  clear_value x0
  refine State.iff_kept ?_ ?_
  · assumption
  · intro v2_0 v2_1
    refine State.upIn_kept ?_
    assumption

theorem State.cascBall_kept {m0 : May} {s0 s : State} {a2 : Bool} {a3 : Bool} (h : Kept m0 s0 s) : Kept m0 s0 (State.cascBall s a2 a3) := by
  unfold State.cascBall
  lift_lets
  intro x0
  clear_value x0
  intro x1
  clear_value x1
  intro x2
  clear_value x2
  refine kept_mk ?_
  assumption

theorem execCascadeInputChange_kept {m0 : Bool} {s0 : State} {a1 : Bool} {a2 : Bool} {s : State} (h : Kept ⟨m0, true⟩ s0 s) : OutKept ⟨m0, true⟩ s0 (execCascadeInputChange a1 a2 s) := by
  unfold execCascadeInputChange
  lift_lets
  intro x0
  have hx0 : Kept ⟨m0, true⟩ s0 (x0) := by
    unfold x0
    refine State.cascBall_kept ?_
    assumption
  clear_value x0
  refine outKept_ite ?_ ?_
  · refine done_kept ?_
    assumption
  · refine done_kept ?_
    refine State.cascLine_kept ?_
    assumption

theorem execCascadeTimeout_kept {m0 : Bool} {s0 s : State} (h : Kept ⟨m0, true⟩ s0 s) : OutKept ⟨m0, true⟩ s0 (execCascadeTimeout s) := by
  unfold execCascadeTimeout
  split
  · refine outKept_ite ?_ ?_
    · refine outKept_ite ?_ ?_
      · refine done_kept ?_
        refine State.cascFault_kept ?_
        assumption
      · refine outKept_ite ?_ ?_
        · refine done_kept ?_
          refine State.seqTail_kept ?_
          refine State.downProceed_kept ?_
          refine State.faultRecord_kept ?_
          refine State.event_kept ?_
          refine State.setB_kept ?_
          assumption
        · refine done_kept ?_
          assumption
    · refine done_kept ?_
      assumption
  · refine done_kept ?_
    assumption

end Sys2Proof.Machine
end

