-- ==== Sys2Proof/Laws/KeptBus.lean ====
section
/-! SUPPORT. What every operation keeps: the buses, the clocks, the sessions, the baked image, the levels. -/

namespace Sys2Proof.Machine

set_option linter.unusedVariables false
set_option Elab.async false

theorem State.setChanState_kept {m0 : May} {s0 s : State} {a2 : Fin 16} {a3 : Nat} (h : Kept m0 s0 s) : Kept m0 s0 (State.setChanState s a2 a3) := by
  unfold State.setChanState
  refine State.setBit_kept ?_
  refine State.set_kept ?_
  assumption

theorem State.countStart_kept {m0 : May} {s0 s : State} {a2 : Fin 16} {a3 : Nat} (h : Kept m0 s0 s) : Kept m0 s0 (State.countStart s a2 a3) := by
  unfold State.countStart
  lift_lets
  intro x0
  clear_value x0
  intro x1
  clear_value x1
  intro x2
  clear_value x2
  refine State.setChan_kept ?_
  assumption

theorem State.endTrans_kept {m0 : May} {s0 s : State} {a2 : Fin 16} {a3 : BusResult} {a4 : Nat} (h : Kept m0 s0 s) : Kept m0 s0 (State.endTrans s a2 a3 a4) := by
  unfold State.endTrans
  lift_lets
  intro x0
  clear_value x0
  intro x1
  have hx1 : Kept m0 s0 (x1) := by
    unfold x1
    refine State.setChan_kept ?_
    refine State.setChanState_kept ?_
    assumption
  clear_value x1
  split
  · assumption
  · split
    · assumption
    · lift_lets
      intro x2
      have hx2 : Kept m0 s0 (x2) := by
        unfold x2
        refine State.set_kept ?_
        refine State.noteError_kept ?_
        assumption
      clear_value x2
      refine State.onReq_kept ?_
      assumption

theorem State.putBack_kept {m0 : May} {s0 s : State} {a2 : Fin 16} (h : Kept m0 s0 s) : Kept m0 s0 (State.putBack s a2) := by
  unfold State.putBack
  lift_lets
  intro x0
  clear_value x0
  split
  · assumption
  · refine State.onReq_kept ?_
    refine State.setChan_kept ?_
    assumption

theorem State.clearBegin_kept {m0 : May} {s0 s : State} {a2 : Fin 16} {a3 : Bool} (h : Kept m0 s0 s) : Kept m0 s0 (State.clearBegin s a2 a3) := by
  unfold State.clearBegin
  refine State.setChan_kept ?_
  refine State.setChanState_kept ?_
  assumption

theorem State.stuckLeave_kept {m0 : May} {s0 s : State} {a2 : Fin 16} (h : Kept m0 s0 s) : Kept m0 s0 (State.stuckLeave s a2) := by
  unfold State.stuckLeave
  refine kept_ite ?_ ?_
  · refine State.event_kept ?_
    refine State.setBit_kept ?_
    assumption
  · assumption

theorem State.entResult_kept {m0 : Bool} {s0 s : State} {a2 : Nat} {a3 : Nat} (h : Kept ⟨m0, true⟩ s0 s) : Kept ⟨m0, true⟩ s0 (State.entResult s a2 a3) := by
  unfold State.entResult
  refine kept_ite ?_ ?_
  · assumption
  · lift_lets
    intro x0
    clear_value x0
    intro x1
    have hx1 : Kept ⟨m0, true⟩ s0 (x1) := by
      unfold x1
      refine State.setEnt_kept ?_
      refine State.setEnt_kept ?_
      assumption
    clear_value x1
    intro x2
    have hx2 : Kept ⟨m0, true⟩ s0 (x2) := by
      unfold x2
      refine State.setEntAux_kept ?_
      assumption
    clear_value x2
    refine kept_ite ?_ ?_
    · refine kept_ite ?_ ?_
      · refine State.setEnt_kept ?_
        assumption
      · assumption
    · refine State.setEntAux_kept ?_
      refine State.incEnt_kept ?_
      refine State.incEnt_kept ?_
      assumption

theorem State.pollStore_kept {m0 : Bool} {s0 s : State} {a2 : Nat} {a3 : Nat} {a4 : Req} {a5 : BusResult} (h : Kept ⟨m0, true⟩ s0 s) : Kept ⟨m0, true⟩ s0 (State.pollStore s a2 a3 a4 a5) := by
  unfold State.pollStore
  lift_lets
  intro x0
  clear_value x0
  intro x1
  clear_value x1
  intro x2
  have hx2 : Kept ⟨m0, true⟩ s0 (x2) := by
    unfold x2
    refine State.setEnt_kept ?_
    refine State.setEnt_kept ?_
    assumption
  clear_value x2
  intro x3
  have hx3 : Kept ⟨m0, true⟩ s0 (x3) := by
    unfold x3
    refine State.setEntAux_kept ?_
    assumption
  clear_value x3
  split
  · refine State.rectSample_kept ?_
    assumption
  · assumption

theorem State.accPost_kept {m0 : May} {s0 s : State} {a2 : Fin 16} {a3 : Option Nat} {a4 : Nat} {a5 : Nat} {a6 : Proto} {a7 : List Nat} {a8 : Nat} {a9 : Bool} (h : Kept m0 s0 s) : Kept m0 s0 (State.accPost s a2 a3 a4 a5 a6 a7 a8 a9).2 := by
  unfold State.accPost
  refine State.submit_kept ?_
  assumption

theorem State.setAcc_kept {m0 : May} {s0 s : State} {a2 : Fin 16} {a3 : AccChan} (h : Kept m0 s0 s) : Kept m0 s0 (State.setAcc s a2 a3) := by
  unfold State.setAcc
  refine kept_mk ?_
  assumption

theorem State.accStop_kept {m0 : May} {s0 s : State} {a2 : Fin 16} (h : Kept m0 s0 s) : Kept m0 s0 (State.accStop s a2) := by
  unfold State.accStop
  refine State.setAcc_kept ?_
  assumption

theorem State.accGo_kept {m0 : May} {s0 s : State} {a2 : Fin 16} {a3 : AccPhase} {a4 : Option Nat} {a5 : Nat} {a6 : Nat} {a7 : Proto} {a8 : List Nat} {a9 : Nat} {a10 : Bool} (h : Kept m0 s0 s) : Kept m0 s0 (State.accGo s a2 a3 a4 a5 a6 a7 a8 a9 a10) := by
  unfold State.accGo
  have hs : Kept m0 s0 (s.accPost a2 a4 a5 a6 a7 a8 a9 a10).2 := State.accPost_kept h
  split
  · next e => rw [e] at hs; exact State.setAcc_kept hs
  · next e => rw [e] at hs; exact State.accStop_kept hs

theorem State.entMake_kept {m0 : Bool} {s0 s : State} {a2 : Fin 16} {a3 : Nat} {a4 : Found} (h : Kept ⟨m0, true⟩ s0 s) : Kept ⟨m0, true⟩ s0 (State.entMake s a2 a3 a4) := by
  unfold State.entMake
  lift_lets
  intro x0
  have hx0 : Kept ⟨m0, true⟩ s0 (x0) := by
    unfold x0
    refine State.setBytes_kept ?_
    assumption
  clear_value x0
  intro x1
  have hx1 : Kept ⟨m0, true⟩ s0 (x1) := by
    unfold x1
    refine State.setEnt_kept ?_
    refine State.setEnt_kept ?_
    refine State.setEnt_kept ?_
    assumption
  clear_value x1
  intro x2
  have hx2 : Kept ⟨m0, true⟩ s0 (x2) := by
    unfold x2
    refine State.setBytes_kept ?_
    refine State.setEnt_kept ?_
    refine State.setEnt_kept ?_
    assumption
  clear_value x2
  intro x3
  have hx3 : Kept ⟨m0, true⟩ s0 (x3) := by
    unfold x3
    refine State.setEnt_kept ?_
    refine State.setEnt_kept ?_
    assumption
  clear_value x3
  intro x4
  clear_value x4
  intro x5
  have hx5 : Kept ⟨m0, true⟩ s0 (x5) := by
    unfold x5
    refine State.setEntAux_kept ?_
    refine State.setEnt_kept ?_
    assumption
  clear_value x5
  refine State.slotEntry_kept ?_
  refine State.storedChange_kept ?_
  refine State.event_kept ?_
  assumption

theorem State.entBaked_kept {m0 : Bool} {s0 s : State} {a2 : KilnEntry} (h : Kept ⟨m0, true⟩ s0 s) : Kept ⟨m0, true⟩ s0 (State.entBaked s a2) := by
  unfold State.entBaked
  lift_lets
  intro x0
  clear_value x0
  intro x1
  clear_value x1
  intro x2
  have hx2 : Kept ⟨m0, true⟩ s0 (x2) := by
    unfold x2
    refine State.setBytes_kept ?_
    assumption
  clear_value x2
  intro x3
  have hx3 : Kept ⟨m0, true⟩ s0 (x3) := by
    unfold x3
    refine State.setEnt_kept ?_
    refine State.setEnt_kept ?_
    refine State.setEnt_kept ?_
    assumption
  clear_value x3
  intro x4
  have hx4 : Kept ⟨m0, true⟩ s0 (x4) := by
    unfold x4
    refine State.setEnt_kept ?_
    refine State.setEnt_kept ?_
    refine State.setEnt_kept ?_
    assumption
  clear_value x4
  intro x5
  have hx5 : Kept ⟨m0, true⟩ s0 (x5) := by
    unfold x5
    refine State.setEnt_kept ?_
    refine State.setBytes_kept ?_
    assumption
  clear_value x5
  intro x6
  clear_value x6
  intro x7
  have hx7 : Kept ⟨m0, true⟩ s0 (x7) := by
    unfold x7
    refine State.setEnt_kept ?_
    refine State.setEnt_kept ?_
    assumption
  clear_value x7
  refine State.setEntAux_kept ?_
  refine State.setBytes_kept ?_
  assumption

theorem State.accEnter_kept {m0 : Bool} {s0 : State} {a2 : Fin 16} {a3 : List Found} : ∀ {s : State} (h : Kept ⟨m0, true⟩ s0 s), Kept ⟨m0, true⟩ s0 (State.accEnter s a2 a3) := by
  induction a3 with
  | nil => intro s h; exact State.setAcc_kept h
  | cons f rest ih =>
    intro s h
    unfold State.accEnter
    extract_lets y x
    have hx : Kept ⟨m0, true⟩ s0 x := State.setAcc_kept h
    clear_value x
    clear y
    split
    · refine kept_ite ?_ (ih (State.setEnt_kept hx))
      exact State.accGo_kept (State.slotEntry_kept (State.setEnt_kept (State.setEnt_kept hx)))
    · split
      · exact ih (State.event_kept (State.inc_kept hx))
      · exact State.accGo_kept (State.entMake_kept hx)

theorem State.accProbe_kept {m0 : Bool} {s0 s : State} {a2 : Fin 16} {a3 : Nat} (h : Kept ⟨m0, true⟩ s0 s) : Kept ⟨m0, true⟩ s0 (State.accProbe s a2 a3) := by
  unfold State.accProbe
  split
  · refine State.accGo_kept ?_
    assumption
  · refine State.accEnter_kept ?_
    assumption

theorem State.accUdid_kept {m0 : Bool} {s0 s : State} {a2 : Fin 16} (h : Kept ⟨m0, true⟩ s0 s) : Kept ⟨m0, true⟩ s0 (State.accUdid s a2) := by
  unfold State.accUdid
  refine kept_ite ?_ ?_
  · refine State.accProbe_kept ?_
    assumption
  · refine State.accGo_kept ?_
    assumption

theorem State.accReply_kept {m0 : Bool} {s0 s : State} {a2 : Fin 16} {a3 : List Nat} (h : Kept ⟨m0, true⟩ s0 s) : Kept ⟨m0, true⟩ s0 (State.accReply s a2 a3) := by
  unfold State.accReply
  lift_lets
  intro x0
  clear_value x0
  intro x1
  clear_value x1
  intro x2
  clear_value x2
  intro x3
  have hx3 : Kept ⟨m0, true⟩ s0 (x3) := by
    unfold x3
    refine State.setAcc_kept ?_
    assumption
  clear_value x3
  intro x4
  clear_value x4
  split
  · refine State.accGo_kept ?_
    assumption
  · refine State.accProbe_kept ?_
    refine State.event_kept ?_
    refine State.inc_kept ?_
    assumption

theorem State.accBegin_kept {m0 : Bool} {s0 s : State} {a2 : Fin 16} (h : Kept ⟨m0, true⟩ s0 s) : Kept ⟨m0, true⟩ s0 (State.accBegin s a2) := by
  unfold State.accBegin
  lift_lets
  intro x0
  have hx0 : Kept ⟨m0, true⟩ s0 (x0) := by
    unfold x0
    refine State.setAcc_kept ?_
    assumption
  clear_value x0
  refine kept_ite ?_ ?_
  · refine State.accGo_kept ?_
    assumption
  · refine State.accProbe_kept ?_
    assumption

theorem State.accProfile_kept {m0 : Bool} {s0 s : State} {a2 : Nat} {a3 : Bool} {a4 : List Nat} (h : Kept ⟨m0, true⟩ s0 s) : Kept ⟨m0, true⟩ s0 (State.accProfile s a2 a3 a4) := by
  unfold State.accProfile
  refine kept_ite ?_ ?_
  · refine State.setEnt_kept ?_
    refine State.setEnt_kept ?_
    assumption
  · refine State.setEnt_kept ?_
    refine State.setEnt_kept ?_
    assumption

theorem State.accResult_kept {m0 : Bool} {s0 s : State} {a2 : Fin 16} {a3 : BusResult} (h : Kept ⟨m0, true⟩ s0 s) : Kept ⟨m0, true⟩ s0 (State.accResult s a2 a3) := by
  unfold State.accResult
  refine kept_ite ?_ ?_
  · refine State.accStop_kept ?_
    assumption
  · split
    · refine State.accUdid_kept ?_
      assumption
    · refine kept_ite ?_ ?_
      · refine State.accProbe_kept ?_
        assumption
      · refine kept_ite ?_ ?_
        · refine State.accReply_kept ?_
          assumption
        · refine State.accUdid_kept ?_
          refine State.setAcc_kept ?_
          assumption
    · lift_lets
      intro x0
      have hx0 : Kept ⟨m0, true⟩ s0 (x0) := by
        unfold x0
        refine State.iff_kept ?_ ?_
        · assumption
        · intro v1_0 v1_1
          lift_lets
          intro x2
          clear_value x2
          refine State.setAcc_kept ?_
          assumption
      clear_value x0
      refine State.accUdid_kept ?_
      assumption
    · lift_lets
      intro x3
      have hx3 : Kept ⟨m0, true⟩ s0 (x3) := by
        unfold x3
        refine State.iff_kept ?_ ?_
        · assumption
        · intro v4_0 v4_1
          lift_lets
          intro x5
          clear_value x5
          refine State.setAcc_kept ?_
          assumption
      clear_value x3
      refine State.accProbe_kept ?_
      assumption
    · lift_lets
      intro x6
      have hx6 : Kept ⟨m0, true⟩ s0 (x6) := by
        unfold x6
        refine State.accProfile_kept ?_
        assumption
      clear_value x6
      refine State.accGo_kept ?_
      assumption
    · lift_lets
      intro x7
      clear_value x7
      intro x8
      have hx8 : Kept ⟨m0, true⟩ s0 (x8) := by
        unfold x8
        refine kept_ite ?_ ?_
        · assumption
        · refine State.setEnt_kept ?_
          assumption
      clear_value x8
      intro x9
      have hx9 : Kept ⟨m0, true⟩ s0 (x9) := by
        unfold x9
        refine State.setEnt_kept ?_
        assumption
      clear_value x9
      refine State.accEnter_kept ?_
      assumption
    · assumption

theorem State.deliver_kept {m0 : Bool} {s0 s : State} {a2 : Req} {a3 : BusResult} (h : Kept ⟨m0, true⟩ s0 s) : Kept ⟨m0, true⟩ s0 (State.deliver s a2 a3) := by
  unfold State.deliver
  split
  · refine State.hostReturn_kept ?_
    assumption
  · split
    · refine State.shareResult_kept ?_
      assumption
    · assumption
  · refine kept_ite ?_ ?_
    · refine State.pollStore_kept ?_
      assumption
    · assumption
  · split
    · refine State.accResult_kept ?_
      assumption
    · assumption
  · split
    · refine kept_mk ?_
      assumption
    · assumption
  · assumption

theorem State.finish_kept {m0 : Bool} {s0 s : State} {a2 : Req} {a3 : BusResult} (h : Kept ⟨m0, true⟩ s0 s) : Kept ⟨m0, true⟩ s0 (State.finish s a2 a3) := by
  unfold State.finish
  lift_lets
  intro x0
  have hx0 : Kept ⟨m0, true⟩ s0 (x0) := by
    unfold x0
    refine State.dropReq_kept ?_
    assumption
  clear_value x0
  refine kept_ite ?_ ?_
  · assumption
  · refine State.deliver_kept ?_
    assumption

theorem State.stale_kept {m0 : Bool} {s0 s : State} {a2 : Req} {a3 : List Nat} {a4 : BusResult} (h : Kept ⟨m0, true⟩ s0 s) : Kept ⟨m0, true⟩ s0 (State.stale s a2 a3 a4) := by
  unfold State.stale
  lift_lets
  intro x0
  clear_value x0
  intro x1
  clear_value x1
  intro x2
  have hx2 : Kept ⟨m0, true⟩ s0 (x2) := by
    unfold x2
    refine State.inc_kept ?_
    assumption
  clear_value x2
  refine kept_ite ?_ ?_
  · refine kept_ite ?_ ?_
    · refine State.finish_kept ?_
      assumption
    · refine State.dropReq_kept ?_
      assumption
  · refine State.finish_kept ?_
    refine State.inc_kept ?_
    refine State.each_kept ?_ ?_
    · assumption
    · intro v3_0 v3_1 v3_2
      refine State.incEnt_kept ?_
      assumption

theorem State.complete_kept {m0 : Bool} {s0 s : State} {a2 : Req} {a3 : BusResult} (h : Kept ⟨m0, true⟩ s0 s) : Kept ⟨m0, true⟩ s0 (State.complete s a2 a3) := by
  unfold State.complete
  lift_lets
  intro x0
  have hx0 : Kept ⟨m0, true⟩ s0 (x0) := by
    unfold x0
    refine kept_ite ?_ ?_
    · refine State.each_kept ?_ ?_
      · assumption
      · intro v1_0 v1_1 v1_2
        split
        · refine State.entResult_kept ?_
          assumption
        · assumption
    · assumption
  clear_value x0
  intro x2
  have hx2 : Kept ⟨m0, true⟩ s0 (x2) := by
    unfold x2
    refine State.iff_kept ?_ ?_
    · assumption
    · intro v3_0 v3_1
      refine State.each_kept ?_ ?_
      · assumption
      · intro v4_0 v4_1 v4_2
        split
        · split
          · refine State.rectHeard_kept ?_
            assumption
          · assumption
        · assumption
  clear_value x2
  intro x5
  clear_value x5
  split
  · refine State.finish_kept ?_
    assumption
  · refine kept_ite ?_ ?_
    · refine State.dropReq_kept ?_
      assumption
    · refine kept_ite ?_ ?_
      · refine State.setReqs_kept ?_
        assumption
      · refine kept_ite ?_ ?_
        · refine State.finish_kept ?_
          assumption
        · refine State.stale_kept ?_
          assumption

theorem State.endPending_kept {m0 : Bool} {s0 s : State} {a2 : Fin 16} {a3 : Nat} (h : Kept ⟨m0, true⟩ s0 s) : Kept ⟨m0, true⟩ s0 (State.endPending s a2 a3) := by
  unfold State.endPending
  refine State.each_kept ?_ ?_
  · assumption
  · intro v0_0 v0_1 v0_2
    split
    · refine State.dropReq_kept ?_
      refine State.inc_kept ?_
      assumption
    · refine State.finish_kept ?_
      refine State.set_kept ?_
      assumption

theorem State.stuckEnter_kept {m0 : Bool} {s0 s : State} {a2 : Fin 16} {a3 : Nat} (h : Kept ⟨m0, true⟩ s0 s) : Kept ⟨m0, true⟩ s0 (State.stuckEnter s a2 a3) := by
  unfold State.stuckEnter
  lift_lets
  intro x0
  clear_value x0
  intro x1
  have hx1 : Kept ⟨m0, true⟩ s0 (x1) := by
    unfold x1
    refine State.inc_kept ?_
    refine State.setBit_kept ?_
    refine State.setChanState_kept ?_
    assumption
  clear_value x1
  intro x2
  have hx2 : Kept ⟨m0, true⟩ s0 (x2) := by
    unfold x2
    refine State.setChan_kept ?_
    assumption
  clear_value x2
  intro x3
  have hx3 : Kept ⟨m0, true⟩ s0 (x3) := by
    unfold x3
    refine State.setB_kept ?_
    assumption
  clear_value x3
  intro x4
  have hx4 : Kept ⟨m0, true⟩ s0 (x4) := by
    unfold x4
    refine State.event_kept ?_
    refine State.inc_kept ?_
    assumption
  clear_value x4
  intro x5
  have hx5 : Kept ⟨m0, true⟩ s0 (x5) := by
    unfold x5
    refine State.detect_kept ?_
    assumption
  clear_value x5
  intro x6
  have hx6 : Kept ⟨m0, true⟩ s0 (x6) := by
    unfold x6
    split
    · refine State.finish_kept ?_
      refine State.noteError_kept ?_
      assumption
    · assumption
  clear_value x6
  refine State.endPending_kept ?_
  assumption

theorem execTwbTransactionStart_kept {m0 : May} {s0 : State} {a1 : Fin 16} {a2 : StartRun} {s : State} (h : Kept m0 s0 s) : OutKept m0 s0 (execTwbTransactionStart a1 a2 s) := by
  unfold execTwbTransactionStart
  refine outKept_ite ?_ ?_
  · refine done_kept ?_
    assumption
  · split
    · refine done_kept ?_
      assumption
    · lift_lets
      intro x0
      clear_value x0
      intro x1
      clear_value x1
      intro x2
      clear_value x2
      intro x3
      have hx3 : Kept m0 s0 (x3) := by
        unfold x3
        refine State.iff_kept ?_ ?_
        · assumption
        · intro v4_0 v4_1
          refine State.incWrap_kept ?_
          refine State.countStart_kept ?_
          assumption
      clear_value x3
      intro x5
      have hx5 : Kept m0 s0 (x5) := by
        unfold x5
        refine State.setChanState_kept ?_
        refine State.onReq_kept ?_
        assumption
      clear_value x5
      intro x6
      clear_value x6
      intro x7
      clear_value x7
      intro x8
      have hx8 : ∀ b0, Kept m0 s0 b0 → Kept m0 s0 (x8 b0) := by
        intro v9_0 v9_1
        unfold x8
        refine State.inc_kept ?_
        refine State.setChanState_kept ?_
        assumption
      clear_value x8
      intro x10
      have hx10 : Kept m0 s0 (x10) := by
        unfold x10
        assumption
      clear_value x10
      intro x11
      have hx11 : Kept m0 s0 (x11) := by
        unfold x11
        refine State.setChan_kept ?_
        assumption
      clear_value x11
      intro x12
      have hx12 : Kept m0 s0 (x12) := by
        unfold x12
        refine State.setChan_kept ?_
        assumption
      clear_value x12
      intro x13
      have hx13 : Kept m0 s0 (x13) := by
        unfold x13
        refine State.setChan_kept ?_
        refine State.inc_kept ?_
        assumption
      clear_value x13
      split
      · refine done_kept ?_
        refine State.setChan_kept ?_
        assumption
      · refine done_kept ?_
        assumption
      · refine outKept_ite ?_ ?_
        · refine done_kept ?_
          refine State.endTrans_kept ?_
          assumption
        · refine done_kept ?_
          refine hx8 _ ?_
          assumption
      · refine outKept_ite ?_ ?_
        · refine done_kept ?_
          refine State.endTrans_kept ?_
          assumption
        · refine done_kept ?_
          refine hx8 _ ?_
          assumption
      · refine done_kept ?_
        refine State.clearBegin_kept ?_
        refine State.endTrans_kept ?_
        assumption

theorem execTwbTransactionEnd_kept {m0 : May} {s0 : State} {a1 : Fin 16} {a2 : Fin 16} {a3 : Nat} {a4 : List Byte} {a5 : Nat} {a6 : Nat} {s : State} (h : Kept m0 s0 s) : OutKept m0 s0 (execTwbTransactionEnd a1 a2 a3 a4 a5 a6 s) := by
  unfold execTwbTransactionEnd
  refine outKept_ite ?_ ?_
  · refine done_kept ?_
    assumption
  · split
    · refine done_kept ?_
      assumption
    · lift_lets
      intro x0
      clear_value x0
      intro x1
      clear_value x1
      refine outKept_ite ?_ ?_
      · refine done_kept ?_
        assumption
      · refine done_kept ?_
        refine State.endTrans_kept ?_
        refine State.maxOf_kept ?_
        assumption

theorem execBusFree_kept {m0 : May} {s0 : State} {a1 : BusIdle} {s : State} (h : Kept m0 s0 s) : OutKept m0 s0 (execBusFree a1 s) := by
  unfold execBusFree
  lift_lets
  intro x0
  clear_value x0
  intro x1
  have hx1 : Kept m0 s0 (x1) := by
    unfold x1
    refine State.setB_kept ?_
    refine State.setB_kept ?_
    assumption
  clear_value x1
  intro x2
  clear_value x2
  refine outKept_ite ?_ ?_
  · refine done_kept ?_
    refine State.setChan_kept ?_
    refine State.setChanState_kept ?_
    assumption
  · refine done_kept ?_
    assumption

theorem execClkLowTimeout_kept {m0 : Bool} {s0 : State} {a1 : LineHeld} {s : State} (h : Kept ⟨m0, true⟩ s0 s) : OutKept ⟨m0, true⟩ s0 (execClkLowTimeout a1 s) := by
  unfold execClkLowTimeout
  refine outKept_ite ?_ ?_
  · refine done_kept ?_
    assumption
  · refine done_kept ?_
    refine State.settle_kept ?_
    refine State.stuckEnter_kept ?_
    refine State.endTrans_kept ?_
    assumption

theorem execSextTimeout_kept {m0 : May} {s0 : State} {a1 : Fin 16} {a2 : Nat} {a3 : Nat} {s : State} (h : Kept m0 s0 s) : OutKept m0 s0 (execSextTimeout a1 a2 a3 s) := by
  unfold execSextTimeout
  refine outKept_ite ?_ ?_
  · refine done_kept ?_
    refine State.setChan_kept ?_
    assumption
  · refine done_kept ?_
    assumption

theorem State.sextTick_kept {m0 : May} {s0 s : State} (h : Kept m0 s0 s) : Kept m0 s0 (State.sextTick s) := by
  unfold State.sextTick
  refine State.each_kept ?_ ?_
  · assumption
  · intro v0_0 v0_1 v0_2
    split
    · assumption
    · refine State.endTrans_kept ?_
      refine State.maxOf_kept ?_
      assumption

theorem State.busQuiet_kept {m0 : May} {s0 s : State} (h : Kept m0 s0 s) : Kept m0 s0 (State.busQuiet s) := by
  unfold State.busQuiet
  refine State.iff_kept ?_ ?_
  · assumption
  · intro v0_0 v0_1
    refine State.each_kept ?_ ?_
    · assumption
    · intro v1_0 v1_1 v1_2
      refine State.iff_kept ?_ ?_
      · assumption
      · intro v2_0 v2_1
        refine State.endTrans_kept ?_
        assumption

theorem execSdaHeldClear_kept {m0 : May} {s0 : State} {a1 : LineHeld} {s : State} (h : Kept m0 s0 s) : OutKept m0 s0 (execSdaHeldClear a1 s) := by
  unfold execSdaHeldClear
  lift_lets
  intro x0
  clear_value x0
  refine outKept_ite ?_ ?_
  · refine done_kept ?_
    refine State.setB_kept ?_
    refine State.clearBegin_kept ?_
    refine State.putBack_kept ?_
    assumption
  · refine done_kept ?_
    assumption

theorem execListenSdaLowTimeout_kept {m0 : May} {s0 : State} {a1 : LineHeld} {s : State} (h : Kept m0 s0 s) : OutKept m0 s0 (execListenSdaLowTimeout a1 s) := by
  unfold execListenSdaLowTimeout
  refine outKept_ite ?_ ?_
  · refine done_kept ?_
    refine State.setB_kept ?_
    refine State.clearBegin_kept ?_
    refine State.putBack_kept ?_
    assumption
  · refine done_kept ?_
    assumption

theorem execBusClearComplete_kept {m0 : Bool} {s0 : State} {a1 : Fin 16} {a2 : ClearEnd} {s : State} (h : Kept ⟨m0, true⟩ s0 s) : OutKept ⟨m0, true⟩ s0 (execBusClearComplete a1 a2 s) := by
  unfold execBusClearComplete
  lift_lets
  intro x0
  clear_value x0
  intro x1
  clear_value x1
  intro x2
  have hx2 : Kept ⟨m0, true⟩ s0 (x2) := by
    unfold x2
    refine State.inc_kept ?_
    assumption
  clear_value x2
  intro x3
  have hx3 : Kept ⟨m0, true⟩ s0 (x3) := by
    unfold x3
    refine State.setB_kept ?_
    assumption
  clear_value x3
  intro x4
  clear_value x4
  refine outKept_ite ?_ ?_
  · refine done_kept ?_
    assumption
  · refine outKept_ite ?_ ?_
    · refine done_kept ?_
      refine State.setChan_kept ?_
      refine State.setChanState_kept ?_
      assumption
    · refine done_kept ?_
      refine State.settle_kept ?_
      refine State.stuckEnter_kept ?_
      assumption

theorem execStuckRetry_kept {m0 : May} {s0 : State} {a1 : Fin 16} {a2 : Bool} {s : State} (h : Kept m0 s0 s) : OutKept m0 s0 (execStuckRetry a1 a2 s) := by
  unfold execStuckRetry
  refine outKept_ite ?_ ?_
  · lift_lets
    intro x0
    have hx0 : Kept m0 s0 (x0) := by
      unfold x0
      refine State.setB_kept ?_
      assumption
    clear_value x0
    intro x1
    clear_value x1
    refine outKept_ite ?_ ?_
    · refine done_kept ?_
      refine State.settle_kept ?_
      refine State.clearBegin_kept ?_
      refine State.stuckLeave_kept ?_
      assumption
    · refine done_kept ?_
      refine State.setChan_kept ?_
      assumption
  · refine done_kept ?_
    assumption

theorem State.twbClear_kept {m0 : May} {s0 s : State} {a2 : Fin 16} (h : Kept m0 s0 s) : Kept m0 s0 (State.twbClear s a2) := by
  unfold State.twbClear
  lift_lets
  intro x0
  have hx0 : Kept m0 s0 (x0) := by
    unfold x0
    refine State.set_kept ?_
    assumption
  clear_value x0
  intro x1
  clear_value x1
  refine kept_ite ?_ ?_
  · refine State.clearBegin_kept ?_
    refine State.endTrans_kept ?_
    assumption
  · refine kept_ite ?_ ?_
    · refine State.clearBegin_kept ?_
      refine State.putBack_kept ?_
      assumption
    · assumption

theorem execTwbClear_kept {m0 : May} {s0 : State} {a1 : Requester} {a2 : Fin 16} {s : State} (h : Kept m0 s0 s) : OutKept m0 s0 (execTwbClear a1 a2 s) := by
  unfold execTwbClear
  refine done_kept ?_
  refine State.gate_kept ?_ ?_
  · assumption
  · intro v0_0 v0_1
    refine State.twbClear_kept ?_
    assumption

theorem execTwbReset_kept {m0 : May} {s0 : State} {a1 : Requester} {a2 : Fin 16} {s : State} (h : Kept m0 s0 s) : OutKept m0 s0 (execTwbReset a1 a2 s) := by
  unfold execTwbReset
  refine done_kept ?_
  refine State.gate_kept ?_ ?_
  · assumption
  · intro v0_0 v0_1
    refine State.twbClear_kept ?_
    assumption

theorem State.showNotes_kept {m0 : May} {s0 s : State} (h : Kept m0 s0 s) : Kept m0 s0 (State.showNotes s) := by
  unfold State.showNotes
  refine State.set_kept ?_
  assumption

theorem State.hnFlush_kept {m0 : May} {s0 s : State} (h : Kept m0 s0 s) : Kept m0 s0 (State.hnFlush s) := by
  unfold State.hnFlush
  refine State.showNotes_kept ?_
  refine kept_mk ?_
  assumption

theorem execHnFlush_kept {m0 : May} {s0 : State} {a1 : Requester} {s : State} (h : Kept m0 s0 s) : OutKept m0 s0 (execHnFlush a1 s) := by
  unfold execHnFlush
  refine done_kept ?_
  refine State.gate_kept ?_ ?_
  · assumption
  · intro v0_0 v0_1
    refine State.hnFlush_kept ?_
    assumption

theorem State.notifyTake_kept {m0 : May} {s0 s : State} {a2 : Fin 16} {a3 : Nat} {a4 : Nat} (h : Kept m0 s0 s) : Kept m0 s0 (State.notifyTake s a2 a3 a4) := by
  unfold State.notifyTake
  lift_lets
  intro x0
  have hx0 : Kept m0 s0 (x0) := by
    unfold x0
    refine State.set_kept ?_
    refine State.set_kept ?_
    refine State.set_kept ?_
    assumption
  clear_value x0
  intro x1
  have hx1 : Kept m0 s0 (x1) := by
    unfold x1
    refine State.stamp_kept ?_
    assumption
  clear_value x1
  intro x2
  clear_value x2
  intro x3
  clear_value x3
  refine State.showNotes_kept ?_
  refine kept_mk ?_
  assumption

theorem execHostNotify_kept {m0 : May} {s0 : State} {a1 : Fin 16} {a2 : Fin 128} {a3 : BitVec 16} {a4 : NotifyRun} {s : State} (h : Kept m0 s0 s) : OutKept m0 s0 (execHostNotify a1 a2 a3 a4 s) := by
  unfold execHostNotify
  refine outKept_ite ?_ ?_
  · refine done_kept ?_
    assumption
  · lift_lets
    intro x0
    clear_value x0
    intro x1
    have hx1 : Kept m0 s0 (x1) := by
      unfold x1
      refine State.setChan_kept ?_
      assumption
    clear_value x1
    split
    · refine done_kept ?_
      assumption
    · refine outKept_ite ?_ ?_
      · refine done_kept ?_
        refine State.inc_kept ?_
        assumption
      · split
        · refine done_kept ?_
          refine State.notifyTake_kept ?_
          assumption
        · refine done_kept ?_
          refine State.inc_kept ?_
          refine State.inc_kept ?_
          assumption
        · refine done_kept ?_
          refine State.inc_kept ?_
          assumption
    · refine outKept_ite ?_ ?_
      · refine done_kept ?_
        refine State.inc_kept ?_
        assumption
      · refine done_kept ?_
        refine State.inc_kept ?_
        assumption
    · refine outKept_ite ?_ ?_
      · refine done_kept ?_
        refine State.inc_kept ?_
        assumption
      · refine done_kept ?_
        refine State.clearBegin_kept ?_
        refine State.putBack_kept ?_
        refine State.inc_kept ?_
        assumption

theorem State.twbEval_kept {m0 : Bool} {s0 s : State} (h : Kept ⟨m0, true⟩ s0 s) : Kept ⟨m0, true⟩ s0 (State.twbEval s) := by
  unfold State.twbEval
  refine State.each_kept ?_ ?_
  · assumption
  · intro v0_0 v0_1 v0_2
    lift_lets
    intro x1
    clear_value x1
    intro x2
    clear_value x2
    intro x3
    have hx3 : Kept ⟨m0, true⟩ s0 (x3) := by
      unfold x3
      refine State.endTrans_kept ?_
      refine State.stuckLeave_kept ?_
      assumption
    clear_value x3
    refine kept_ite ?_ ?_
    · refine State.setChan_kept ?_
      refine State.setChanState_kept ?_
      assumption
    · refine kept_ite ?_ ?_
      · refine State.endPending_kept ?_
        refine State.setChan_kept ?_
        assumption
      · assumption

theorem State.accAdvance_kept {m0 : Bool} {s0 s : State} (h : Kept ⟨m0, true⟩ s0 s) : Kept ⟨m0, true⟩ s0 (State.accAdvance s) := by
  unfold State.accAdvance
  refine kept_ite ?_ ?_
  · assumption
  · split
    · refine State.accBegin_kept ?_
      assumption
    · assumption

theorem State.passStart_kept {m0 : Bool} {s0 s : State} (h : Kept ⟨m0, true⟩ s0 s) : Kept ⟨m0, true⟩ s0 (State.passStart s) := by
  unfold State.passStart
  lift_lets
  intro x0
  clear_value x0
  intro x1
  have hx1 : Kept ⟨m0, true⟩ s0 (x1) := by
    unfold x1
    refine kept_mk ?_
    assumption
  clear_value x1
  refine State.accAdvance_kept ?_
  refine State.each_kept ?_ ?_
  · assumption
  · intro v2_0 v2_1 v2_2
    lift_lets
    intro x3
    clear_value x3
    refine State.setAcc_kept ?_
    assumption

theorem execAccessionPassStart_kept {m0 : Bool} {s0 s : State} (h : Kept ⟨m0, true⟩ s0 s) : OutKept ⟨m0, true⟩ s0 (execAccessionPassStart s) := by
  unfold execAccessionPassStart
  split
  · refine outKept_ite ?_ ?_
    · refine done_kept ?_
      refine State.passStart_kept ?_
      refine kept_mk ?_
      assumption
    · refine done_kept ?_
      assumption
  · refine done_kept ?_
    assumption

theorem execXacPass_kept {m0 : Bool} {s0 : State} {a1 : Requester} {s : State} (h : Kept ⟨m0, true⟩ s0 s) : OutKept ⟨m0, true⟩ s0 (execXacPass a1 s) := by
  unfold execXacPass
  refine done_kept ?_
  refine State.gate_kept ?_ ?_
  · assumption
  · intro v0_0 v0_1
    refine kept_ite ?_ ?_
    · refine State.passStart_kept ?_
      assumption
    · assumption

theorem State.takeNote_kept {m0 : Bool} {s0 s : State} (h : Kept ⟨m0, true⟩ s0 s) : Kept ⟨m0, true⟩ s0 (State.takeNote s) := by
  unfold State.takeNote
  dsimp only
  split
  · exact h
  · split
    · exact State.event_kept (State.setEntFlag_kept (State.showNotes_kept (kept_mk h)))
    · refine kept_ite h ?_
      have hx : ∀ {t : State} {c : Fin 16} {todo : Bool} {l : List Found}, Kept ⟨m0, true⟩ s0 t →
          Kept ⟨m0, true⟩ s0 ((t.accEnter c l).setAcc c { (t.accEnter c l).acc c with todo := todo }) :=
        fun ht => State.setAcc_kept (State.accEnter_kept ht)
      exact kept_ite (State.setAcc_kept (hx (State.showNotes_kept (kept_mk h)))) (hx (State.showNotes_kept (kept_mk h)))

theorem State.accTick_kept {m0 : Bool} {s0 s : State} (h : Kept ⟨m0, true⟩ s0 s) : Kept ⟨m0, true⟩ s0 (State.accTick s) := by
  unfold State.accTick
  refine kept_ite ?_ ?_
  · refine State.accAdvance_kept ?_
    refine State.takeNote_kept ?_
    assumption
  · assumption

theorem State.deaccede_kept {m0 : Bool} {s0 s : State} {a2 : Nat} (h : Kept ⟨m0, true⟩ s0 s) : Kept ⟨m0, true⟩ s0 (State.deaccede s a2) := by
  unfold State.deaccede
  refine kept_ite ?_ ?_
  · assumption
  · lift_lets
    intro x0
    clear_value x0
    intro x1
    have hx1 : Kept ⟨m0, true⟩ s0 (x1) := by
      unfold x1
      refine State.each_kept ?_ ?_
      · assumption
      · intro v2_0 v2_1 v2_2
        refine State.finish_kept ?_
        assumption
    clear_value x1
    intro x3
    have hx3 : Kept ⟨m0, true⟩ s0 (x3) := by
      unfold x3
      refine State.setReqs_kept ?_
      assumption
    clear_value x3
    intro x4
    have hx4 : Kept ⟨m0, true⟩ s0 (x4) := by
      unfold x4
      split
      · refine State.rectUnbind_kept ?_
        assumption
      · assumption
    clear_value x4
    intro x5
    have hx5 : Kept ⟨m0, true⟩ s0 (x5) := by
      unfold x5
      refine State.event_kept ?_
      assumption
    clear_value x5
    intro x6
    have hx6 : Kept ⟨m0, true⟩ s0 (x6) := by
      unfold x6
      refine State.setBytes_kept ?_
      refine State.slotEntry_kept ?_
      refine State.storedChange_kept ?_
      assumption
    clear_value x6
    refine State.setEntAux_kept ?_
    assumption

theorem execEntrySilentTimeout_kept {m0 : Bool} {s0 : State} {a1 : Fin 1024} {s : State} (h : Kept ⟨m0, true⟩ s0 s) : OutKept ⟨m0, true⟩ s0 (execEntrySilentTimeout a1 s) := by
  unfold execEntrySilentTimeout
  lift_lets
  intro x0
  clear_value x0
  refine outKept_ite ?_ ?_
  · refine done_kept ?_
    refine State.event_kept ?_
    refine State.setEntAux_kept ?_
    refine State.setEnt_kept ?_
    assumption
  · refine done_kept ?_
    assumption

theorem execDeaccessionTimeout_kept {m0 : Bool} {s0 : State} {a1 : Fin 1024} {s : State} (h : Kept ⟨m0, true⟩ s0 s) : OutKept ⟨m0, true⟩ s0 (execDeaccessionTimeout a1 s) := by
  unfold execDeaccessionTimeout
  refine outKept_ite ?_ ?_
  · refine done_kept ?_
    refine State.settle_kept ?_
    refine State.deaccede_kept ?_
    assumption
  · refine done_kept ?_
    assumption

theorem execDeaccede_kept {m0 : Bool} {s0 : State} {a1 : Requester} {a2 : Fin 1024} {s : State} (h : Kept ⟨m0, true⟩ s0 s) : OutKept ⟨m0, true⟩ s0 (execDeaccede a1 a2 s) := by
  unfold execDeaccede
  refine done_kept ?_
  refine State.gate_kept ?_ ?_
  · assumption
  · intro v0_0 v0_1
    refine State.settle_kept ?_
    refine State.iff_kept ?_ ?_
    · refine State.set_kept ?_
      assumption
    · intro v1_0 v1_1
      refine State.deaccede_kept ?_
      assumption

theorem State.bakedSilent_kept {m0 : Bool} {s0 s : State} (h : Kept ⟨m0, true⟩ s0 s) : Kept ⟨m0, true⟩ s0 (State.bakedSilent s) := by
  unfold State.bakedSilent
  refine State.each_kept ?_ ?_
  · assumption
  · intro v0_0 v0_1 v0_2
    refine State.setEntAux_kept ?_
    refine State.setEnt_kept ?_
    assumption

theorem execPollDue_kept {m0 : Bool} {s0 s : State} (h : Kept ⟨m0, true⟩ s0 s) : OutKept ⟨m0, true⟩ s0 (execPollDue s) := by
  unfold execPollDue
  refine outKept_ite (done_kept h) (done_kept ?_)
  refine State.each_kept h ?_
  intro t n ht
  refine State.each_kept ht ?_
  intro s i hs
  extract_lets w proto per p q
  refine kept_ite hs (kept_ite (State.inc_kept hs) ?_)
  have hq : Kept ⟨m0, true⟩ s0 q.2 := State.reqTo_kept hs
  have hz : Kept ⟨m0, true⟩ s0 (q.2.submit q.1).2 := State.submit_kept hq
  split
  · next e => rw [e] at hz; exact hz
  · next e => rw [e] at hz; exact State.inc_kept hz

theorem State.entrySubmit_kept {m0 : Bool} {s0 s : State} {a2 : Nat} {a3 : Nat} {a4 : ReqBy} {a5 : Nat} {a6 : Nat} {a7 : Nat} {a8 : List Nat} (h : Kept ⟨m0, true⟩ s0 s) : Kept ⟨m0, true⟩ s0 (State.entrySubmit s a2 a3 a4 a5 a6 a7 a8).2 := by
  unfold State.entrySubmit
  lift_lets
  intro x0
  clear_value x0
  intro x1
  have hx1 : Kept ⟨m0, true⟩ s0 (x1).2 := by
    refine kept_of (fun q => q.2) (a := x1) (State.reqTo_kept ?_) rfl
    assumption
  clear_value x1
  refine State.submit_kept ?_
  assumption

theorem execRequestSubmit_kept {m0 : Bool} {s0 : State} {a1 : Fin 1024} {a2 : Fin 6} {a3 : Fin 14} {a4 : BitVec 16} {a5 : BitVec 8} {a6 : List Byte} {s : State} (h : Kept ⟨m0, true⟩ s0 s) : OutKept ⟨m0, true⟩ s0 (execRequestSubmit a1 a2 a3 a4 a5 a6 s) := by
  unfold execRequestSubmit
  refine done_kept ?_
  refine State.entrySubmit_kept ?_
  assumption

theorem State.hostSubmit_kept {m0 : Bool} {s0 s : State} {a2 : Src} {a3 : Word} (h : Kept ⟨m0, true⟩ s0 s) : Kept ⟨m0, true⟩ s0 (State.hostSubmit s a2 a3) := by
  unfold State.hostSubmit
  lift_lets
  intro n proto len x data
  refine kept_ite h ?_
  have hx : Kept ⟨m0, true⟩ s0 x := State.setReg_kept h
  have hz : Kept ⟨m0, true⟩ s0 (x.entrySubmit n 2 (.host a2) proto (bitsOf a3 16 8) len data).2 := State.entrySubmit_kept hx
  split
  · next e => rw [e] at hz; exact State.setB_kept hz
  · next e => rw [e] at hz; exact State.hostReturn_kept hz

theorem execRequestComplete_kept {m0 : Bool} {s0 s : State} (h : Kept ⟨m0, true⟩ s0 s) : OutKept ⟨m0, true⟩ s0 (execRequestComplete s) := by
  unfold execRequestComplete
  split
  · refine done_kept ?_
    assumption
  · split
    · refine done_kept ?_
      assumption
    · refine done_kept ?_
      refine State.settle_kept ?_
      refine State.accAdvance_kept ?_
      refine State.complete_kept ?_
      assumption

theorem execRequestTimeout_kept {m0 : Bool} {s0 s : State} (h : Kept ⟨m0, true⟩ s0 s) : OutKept ⟨m0, true⟩ s0 (execRequestTimeout s) := by
  unfold execRequestTimeout
  split
  · refine done_kept ?_
    assumption
  · lift_lets
    intro x0
    have hx0 : Kept ⟨m0, true⟩ s0 (x0) := by
      unfold x0
      refine kept_ite ?_ ?_
      · refine State.onReq_kept ?_
        assumption
      · refine State.dropReq_kept ?_
        assumption
    clear_value x0
    refine done_kept ?_
    refine State.settle_kept ?_
    refine State.accAdvance_kept ?_
    refine State.deliver_kept ?_
    assumption

theorem State.scheduleWrite_kept {m0 : Bool} {s0 s : State} {a2 : Requester} {a3 : Nat} {a4 : Word} (h : Kept ⟨m0, true⟩ s0 s) : Kept ⟨m0, true⟩ s0 (State.scheduleWrite s a2 a3 a4) := by
  unfold State.scheduleWrite
  refine kept_ite ?_ ?_
  · assumption
  · refine State.ranked_kept ?_ ?_
    · assumption
    · intro v0_0 v0_1
      refine State.storedChange_kept ?_
      refine State.store_kept ?_
      assumption

theorem execCatalogueScheduleWrite_kept {m0 : Bool} {s0 : State} {a1 : Requester} {a2 : Fin 131072} {a3 : Word} {s : State} (h : Kept ⟨m0, true⟩ s0 s) : OutKept ⟨m0, true⟩ s0 (execCatalogueScheduleWrite a1 a2 a3 s) := by
  unfold execCatalogueScheduleWrite
  refine done_kept ?_
  refine State.gate_kept ?_ ?_
  · assumption
  · intro v0_0 v0_1
    refine kept_ite ?_ ?_
    · refine State.scheduleWrite_kept ?_
      assumption
    · refine State.refuse_kept ?_
      assumption

theorem State.entEpoch_kept {m0 : Bool} {s0 s : State} {a2 : Nat} {a3 : Nat} {a4 : Nat} (h : Kept ⟨m0, true⟩ s0 s) : Kept ⟨m0, true⟩ s0 (State.entEpoch s a2 a3 a4) := by
  unfold State.entEpoch
  lift_lets
  intro x0
  have hx0 : Kept ⟨m0, true⟩ s0 (x0) := by
    unfold x0
    refine State.setEnt_kept ?_
    refine State.setEnt_kept ?_
    assumption
  clear_value x0
  refine State.each_kept ?_ ?_
  · assumption
  · intro v1_0 v1_1 v1_2
    refine kept_ite ?_ ?_
    · refine State.finish_kept ?_
      assumption
    · refine State.onReq_kept ?_
      assumption

theorem State.fuseTake_kept {m0 : May} {s0 s : State} {a2 : Fin 8} (h : Kept m0 s0 s) : Kept m0 s0 (State.fuseTake s a2) := by
  unfold State.fuseTake
  split
  · refine State.fuseGain_kept ?_
    assumption
  · lift_lets
    intro x0
    clear_value x0
    intro x1
    have hx1 : Kept m0 s0 (x1) := by
      unfold x1
      refine State.setFuse_kept ?_
      assumption
    clear_value x1
    refine State.fuseGain_kept ?_
    refine State.set_kept ?_
    assumption

theorem State.railTake_kept {m0 : May} {s0 s : State} {a2 : Fin 24} (h : Kept m0 s0 s) : Kept m0 s0 (State.railTake s a2) := by
  unfold State.railTake
  lift_lets
  intro x0
  clear_value x0
  intro x1
  clear_value x1
  intro x2
  have hx2 : Kept m0 s0 (x2) := by
    unfold x2
    refine State.setBit_kept ?_
    refine State.setBit_kept ?_
    assumption
  clear_value x2
  intro x3
  clear_value x3
  refine State.setRail_kept ?_
  assumption

theorem State.takeOwn_kept {m0 : Bool} {s0 s : State} {a2 : Own} (h : Kept ⟨m0, true⟩ s0 s) : Kept ⟨m0, true⟩ s0 (State.takeOwn s a2) := by
  unfold State.takeOwn
  lift_lets
  intro x0
  clear_value x0
  intro x1
  have hx1 : Kept ⟨m0, true⟩ s0 (x1) := by
    unfold x1
    refine State.set_kept ?_
    refine State.set_kept ?_
    refine State.set_kept ?_
    refine State.set_kept ?_
    assumption
  clear_value x1
  intro x2
  have hx2 : Kept ⟨m0, true⟩ s0 (x2) := by
    unfold x2
    refine State.set_kept ?_
    refine State.set_kept ?_
    assumption
  clear_value x2
  intro x3
  have hx3 : Kept ⟨m0, true⟩ s0 (x3) := by
    unfold x3
    refine State.each_kept ?_ ?_
    · assumption
    · intro v4_0 v4_1 v4_2
      refine State.phaseLost_kept ?_
      assumption
  clear_value x3
  intro x5
  have hx5 : Kept ⟨m0, true⟩ s0 (x5) := by
    unfold x5
    refine State.each_kept ?_ ?_
    · assumption
    · intro v6_0 v6_1 v6_2
      refine State.groupCheck_kept ?_
      assumption
  clear_value x5
  intro x7
  have hx7 : Kept ⟨m0, true⟩ s0 (x7) := by
    unfold x7
    refine State.each_kept ?_ ?_
    · assumption
    · intro v8_0 v8_1 v8_2
      lift_lets
      intro x9
      clear_value x9
      intro x10
      clear_value x10
      refine State.setBit_kept ?_
      refine State.setRail_kept ?_
      assumption
  clear_value x7
  intro x11
  have hx11 : Kept ⟨m0, true⟩ s0 (x11) := by
    unfold x11
    refine State.each_kept ?_ ?_
    · assumption
    · intro v12_0 v12_1 v12_2
      refine State.railTake_kept ?_
      assumption
  clear_value x11
  intro x13
  have hx13 : Kept ⟨m0, true⟩ s0 (x13) := by
    unfold x13
    refine State.each_kept ?_ ?_
    · assumption
    · intro v14_0 v14_1 v14_2
      refine State.setB_kept ?_
      assumption
  clear_value x13
  intro x15
  have hx15 : Kept ⟨m0, true⟩ s0 (x15) := by
    unfold x15
    refine State.each_kept ?_ ?_
    · assumption
    · intro v16_0 v16_1 v16_2
      lift_lets
      intro x17
      clear_value x17
      intro x18
      clear_value x18
      refine State.setStr_kept ?_
      assumption
  clear_value x15
  intro x19
  have hx19 : Kept ⟨m0, true⟩ s0 (x19) := by
    unfold x19
    refine State.efuEval_kept ?_
    refine State.each_kept ?_ ?_
    · assumption
    · intro v20_0 v20_1 v20_2
      refine State.fuseTake_kept ?_
      assumption
  clear_value x19
  refine State.seqTail_kept ?_
  refine State.seqEval_kept ?_
  assumption

theorem State.pairEnable_kept {m0 : Bool} {s0 s : State} (h : Kept ⟨m0, true⟩ s0 s) : Kept ⟨m0, true⟩ s0 (State.pairEnable s) := by
  unfold State.pairEnable
  refine kept_ite ?_ ?_
  · assumption
  · refine kept_ite ?_ ?_
    · lift_lets
      intro x0
      have hx0 : Kept ⟨m0, true⟩ s0 (x0) := by
        unfold x0
        refine State.setB_kept ?_
        refine State.set_kept ?_
        assumption
      clear_value x0
      refine kept_ite ?_ ?_
      · refine State.takeOwn_kept ?_
        assumption
      · assumption
    · lift_lets
      intro x1
      have hx1 : Kept ⟨m0, true⟩ s0 (x1) := by
        unfold x1
        refine State.setB_kept ?_
        refine State.setB_kept ?_
        refine State.setB_kept ?_
        assumption
      clear_value x1
      intro x2
      have hx2 : Kept ⟨m0, true⟩ s0 (x2) := by
        unfold x2
        refine State.setB_kept ?_
        refine State.setB_kept ?_
        refine State.set_kept ?_
        assumption
      clear_value x2
      intro x3
      intro x4
      clear_value x4
      intro x5
      have hx5 : Kept ⟨m0, true⟩ s0 (x5) := by
        unfold x5
        refine kept_mk ?_
        assumption
      clear_value x5
      refine kept_ite ?_ ?_
      · refine State.takeOwn_kept ?_
        assumption
      · assumption

theorem State.chainSend_kept {m0 : May} {s0 s : State} {a2 : Fin 2} {a3 : ChainOut} (h : Kept m0 s0 s) : Kept m0 s0 (State.chainSend s a2 a3) := by
  unfold State.chainSend
  lift_lets
  intro x0
  have hx0 : Kept m0 s0 (x0) := by
    unfold x0
    refine State.incWrap_kept ?_
    assumption
  clear_value x0
  intro x1
  clear_value x1
  refine kept_mk ?_
  assumption

theorem State.updChange_kept {m0 : May} {s0 s : State} {a2 : State → State} (h : Kept m0 s0 s) (ha2 : ∀ b0, Kept m0 s0 b0 → Kept m0 s0 (a2 b0)) : Kept m0 s0 (State.updChange s a2) := by
  unfold State.updChange
  lift_lets
  intro x0
  clear_value x0
  intro x1
  have hx1 : Kept m0 s0 (x1) := by
    unfold x1
    refine ha2 _ ?_
    assumption
  clear_value x1
  refine kept_ite ?_ ?_
  · refine State.chainSend_kept ?_
    assumption
  · assumption

theorem State.updEnter_kept {m0 : May} {s0 s : State} {a2 : Nat} {a3 : Nat} {a4 : Nat} (h : Kept m0 s0 s) : Kept m0 s0 (State.updEnter s a2 a3 a4) := by
  unfold State.updEnter
  refine State.updChange_kept ?_ ?_
  · assumption
  · intro v0_0 v0_1
    refine State.set_kept ?_
    refine State.set_kept ?_
    refine State.set_kept ?_
    assumption

theorem execCckScanStart_kept {m0 : May} {s0 s : State} (h : Kept m0 s0 s) : OutKept m0 s0 (execCckScanStart s) := by
  unfold execCckScanStart
  split
  · refine done_kept ?_
    assumption
  · refine outKept_ite ?_ ?_
    · refine done_kept ?_
      refine kept_mk ?_
      assumption
    · refine done_kept ?_
      assumption

theorem State.restorePage_kept {m0 : May} {s0 s : State} {a2 : Nat} (h : Kept m0 s0 s) : Kept m0 s0 (State.restorePage s a2) := by
  unfold State.restorePage
  lift_lets
  intro x0
  have hx0 : Kept m0 s0 (x0) := by
    unfold x0
    refine State.each_kept ?_ ?_
    · assumption
    · intro v1_0 v1_1 v1_2
      lift_lets
      intro x2
      clear_value x2
      intro x3
      clear_value x3
      intro x4
      clear_value x4
      refine State.setReg_kept ?_
      assumption
  clear_value x0
  refine State.event_kept ?_
  assumption

theorem State.judgePages_kept {m0 : May} {s0 s : State} (h : Kept m0 s0 s) : Kept m0 s0 (State.judgePages s) := by
  unfold State.judgePages
  lift_lets
  intro x0
  clear_value x0
  intro x1
  clear_value x1
  intro x2
  clear_value x2
  intro x3
  have hx3 : Kept m0 s0 (x3) := by
    unfold x3
    refine State.set_kept ?_
    refine State.set_kept ?_
    assumption
  clear_value x3
  intro x4
  have hx4 : Kept m0 s0 (x4) := by
    unfold x4
    refine State.iff_kept ?_ ?_
    · assumption
    · intro v5_0 v5_1
      refine State.inc_kept ?_
      assumption
  clear_value x4
  intro x6
  have hx6 : Kept m0 s0 (x6) := by
    unfold x6
    refine State.each_kept ?_ ?_
    · assumption
    · intro v7_0 v7_1 v7_2
      refine State.detect_kept ?_
      refine State.event_kept ?_
      refine State.inc_kept ?_
      assumption
  clear_value x6
  refine kept_ite ?_ ?_
  · refine kept_ite ?_ ?_
    · refine State.each_kept ?_ ?_
      · assumption
      · intro v8_0 v8_1 v8_2
        refine State.restorePage_kept ?_
        assumption
    · refine State.each_kept ?_ ?_
      · assumption
      · intro v9_0 v9_1 v9_2
        refine State.event_kept ?_
        assumption
  · assumption

theorem State.commitEnd_kept {m0 : May} {s0 s : State} (h : Kept m0 s0 s) : Kept m0 s0 (State.commitEnd s) := by
  unfold State.commitEnd
  lift_lets
  intro x0
  have hx0 : Kept m0 s0 (x0) := by
    unfold x0
    refine State.setB_kept ?_
    assumption
  clear_value x0
  intro x1
  clear_value x1
  intro x2
  have hx2 : Kept m0 s0 (x2) := by
    unfold x2
    refine kept_mk ?_
    assumption
  clear_value x2
  intro x3
  have hx3 : Kept m0 s0 (x3) := by
    unfold x3
    refine State.set_kept ?_
    refine State.set_kept ?_
    refine State.set_kept ?_
    assumption
  clear_value x3
  intro x4
  have hx4 : Kept m0 s0 (x4) := by
    unfold x4
    refine State.setB_kept ?_
    refine State.set_kept ?_
    assumption
  clear_value x4
  refine kept_ite ?_ ?_
  · refine State.storedChange_kept ?_
    refine State.stamp_kept ?_
    refine State.inc_kept ?_
    assumption
  · refine State.event_kept ?_
    refine State.inc_kept ?_
    assumption

theorem execCckScanComplete_kept {m0 : May} {s0 : State} {a1 : BitVec 31} {s : State} (h : Kept m0 s0 s) : OutKept m0 s0 (execCckScanComplete a1 s) := by
  unfold execCckScanComplete
  split
  · refine done_kept ?_
    assumption
  · lift_lets
    intro x0
    clear_value x0
    intro x1
    have hx1 : Kept m0 s0 (x1) := by
      unfold x1
      refine State.each_kept ?_ ?_
      · assumption
      · intro v2_0 v2_1 v2_2
        refine State.setReg_kept ?_
        assumption
    clear_value x1
    intro x3
    have hx3 : Kept m0 s0 (x3) := by
      unfold x3
      refine State.set_kept ?_
      assumption
    clear_value x3
    intro x4
    have hx4 : Kept m0 s0 (x4) := by
      unfold x4
      refine State.addSat_kept ?_
      refine State.incWrap_kept ?_
      assumption
    clear_value x4
    intro x5
    have hx5 : Kept m0 s0 (x5) := by
      unfold x5
      refine State.maxOf_kept ?_
      refine State.set_kept ?_
      assumption
    clear_value x5
    intro x6
    have hx6 : Kept m0 s0 (x6) := by
      unfold x6
      refine kept_ite ?_ ?_
      · refine State.commitEnd_kept ?_
        assumption
      · assumption
    clear_value x6
    intro x7
    have hx7 : Kept m0 s0 (x7) := by
      unfold x7
      refine State.judgePages_kept ?_
      assumption
    clear_value x7
    intro x8
    clear_value x8
    refine done_kept ?_
    refine State.settle_kept ?_
    refine kept_mk ?_
    assumption

theorem State.commitCmd_kept {m0 : May} {s0 s : State} (h : Kept m0 s0 s) : Kept m0 s0 (State.commitCmd s) := by
  unfold State.commitCmd
  refine kept_ite ?_ ?_
  · assumption
  · refine kept_ite ?_ ?_
    · refine State.inc_kept ?_
      assumption
    · refine State.setB_kept ?_
      assumption

theorem State.commitDrop_kept {m0 : May} {s0 s : State} (h : Kept m0 s0 s) : Kept m0 s0 (State.commitDrop s) := by
  unfold State.commitDrop
  refine kept_ite ?_ ?_
  · refine State.event_kept ?_
    refine State.inc_kept ?_
    refine State.setB_kept ?_
    assumption
  · assumption

theorem execCckCommit_kept {m0 : May} {s0 : State} {a1 : Requester} {s : State} (h : Kept m0 s0 s) : OutKept m0 s0 (execCckCommit a1 s) := by
  unfold execCckCommit
  refine done_kept ?_
  refine State.gate_kept ?_ ?_
  · assumption
  · intro v0_0 v0_1
    refine State.iff_kept ?_ ?_
    · refine State.commitCmd_kept ?_
      assumption
    · intro v1_0 v1_1
      refine State.mirrorCommand_kept ?_
      assumption

theorem State.wdgExpire_kept {m0 : Bool} {s0 s : State} {a2 : Nat} (h : Kept ⟨m0, true⟩ s0 s) : Kept ⟨m0, true⟩ s0 (State.wdgExpire s a2) := by
  unfold State.wdgExpire
  lift_lets
  intro x0
  clear_value x0
  intro x1
  have hx1 : Kept ⟨m0, true⟩ s0 (x1) := by
    unfold x1
    refine State.set_kept ?_
    refine State.set_kept ?_
    assumption
  clear_value x1
  intro x2
  have hx2 : Kept ⟨m0, true⟩ s0 (x2) := by
    unfold x2
    refine State.stamp_kept ?_
    refine State.set_kept ?_
    refine State.set_kept ?_
    assumption
  clear_value x2
  intro x3
  have hx3 : Kept ⟨m0, true⟩ s0 (x3) := by
    unfold x3
    refine State.inc_kept ?_
    assumption
  clear_value x3
  intro x4
  clear_value x4
  intro x5
  have hx5 : Kept ⟨m0, true⟩ s0 (x5) := by
    unfold x5
    refine kept_mk ?_
    assumption
  clear_value x5
  intro x6
  have hx6 : Kept ⟨m0, true⟩ s0 (x6) := by
    unfold x6
    refine State.event_kept ?_
    assumption
  clear_value x6
  intro x7
  clear_value x7
  intro x8
  have hx8 : Kept ⟨m0, true⟩ s0 (x8) := by
    unfold x8
    refine State.iff_kept ?_ ?_
    · assumption
    · intro v9_0 v9_1
      lift_lets
      intro x10
      clear_value x10
      refine State.rstEval_kept ?_
      refine kept_mk ?_
      assumption
  clear_value x8
  refine State.settle_kept ?_
  refine State.trigger_kept ?_
  refine State.detect_kept ?_
  assumption

theorem State.wdgWindow_kept {m0 : May} {s0 s : State} (h : Kept m0 s0 s) : Kept m0 s0 (State.wdgWindow s) := by
  unfold State.wdgWindow
  lift_lets
  intro x0
  clear_value x0
  intro x1
  have hx1 : Kept m0 s0 (x1) := by
    unfold x1
    refine State.set_kept ?_
    refine State.set_kept ?_
    assumption
  clear_value x1
  intro x2
  have hx2 : Kept m0 s0 (x2) := by
    unfold x2
    refine State.set_kept ?_
    assumption
  clear_value x2
  intro x3
  clear_value x3
  refine kept_mk ?_
  assumption

theorem State.wdgAccept_kept {m0 : May} {s0 s : State} (h : Kept m0 s0 s) : Kept m0 s0 (State.wdgAccept s) := by
  unfold State.wdgAccept
  lift_lets
  intro x0
  have hx0 : Kept m0 s0 (x0) := by
    unfold x0
    refine State.stamp_kept ?_
    refine State.incWrap_kept ?_
    refine State.set_kept ?_
    assumption
  clear_value x0
  refine State.settle_kept ?_
  refine State.wdgWindow_kept ?_
  assumption

theorem State.wdgJudge_kept {m0 : May} {s0 s : State} (h : Kept m0 s0 s) : Kept m0 s0 (State.wdgJudge s) := by
  unfold State.wdgJudge
  refine kept_ite ?_ ?_
  · refine State.wdgAccept_kept ?_
    assumption
  · refine State.inc_kept ?_
    assumption

theorem State.wdgToggle_kept {m0 : Bool} {s0 s : State} (h : Kept ⟨m0, true⟩ s0 s) : Kept ⟨m0, true⟩ s0 (State.wdgToggle s) := by
  unfold State.wdgToggle
  refine kept_ite ?_ ?_
  · refine kept_ite ?_ ?_
    · assumption
    · refine State.wdgJudge_kept ?_
      assumption
  · split
    · assumption
    · refine kept_ite ?_ ?_
      · refine State.wdgExpire_kept ?_
        assumption
      · refine kept_ite ?_ ?_
        · refine State.wdgExpire_kept ?_
          assumption
        · refine State.wdgJudge_kept ?_
          assumption

theorem State.wdiQualify_kept {m0 : Bool} {s0 s : State} (h : Kept ⟨m0, true⟩ s0 s) : Kept ⟨m0, true⟩ s0 (State.wdiQualify s) := by
  unfold State.wdiQualify
  refine kept_ite ?_ ?_
  · assumption
  · refine State.wdgToggle_kept ?_
    refine kept_mk ?_
    assumption

theorem execWdiToggle_kept {m0 : May} {s0 s : State} (h : Kept m0 s0 s) : OutKept m0 s0 (execWdiToggle s) := by
  unfold execWdiToggle
  refine done_kept ?_
  refine kept_mk ?_
  assumption

theorem execWdgOpenPhaseEnd_kept {m0 : Bool} {s0 s : State} (h : Kept ⟨m0, true⟩ s0 s) : OutKept ⟨m0, true⟩ s0 (execWdgOpenPhaseEnd s) := by
  unfold execWdgOpenPhaseEnd
  refine outKept_ite ?_ ?_
  · refine done_kept ?_
    refine State.wdgExpire_kept ?_
    assumption
  · refine done_kept ?_
    assumption

theorem execWdgClosedPhaseEnd_kept {m0 : May} {s0 s : State} (h : Kept m0 s0 s) : OutKept m0 s0 (execWdgClosedPhaseEnd s) := by
  unfold execWdgClosedPhaseEnd
  refine outKept_ite ?_ ?_
  · lift_lets
    intro x0
    have hx0 : Kept m0 s0 (x0) := by
      unfold x0
      refine State.set_kept ?_
      assumption
    clear_value x0
    intro x1
    clear_value x1
    refine done_kept ?_
    refine kept_mk ?_
    assumption
  · refine done_kept ?_
    assumption

theorem execWdgPulseEnd_kept {m0 : May} {s0 s : State} (h : Kept m0 s0 s) : OutKept m0 s0 (execWdgPulseEnd s) := by
  unfold execWdgPulseEnd
  refine outKept_ite ?_ ?_
  · refine done_kept ?_
    refine State.rstEval_kept ?_
    refine kept_mk ?_
    assumption
  · refine done_kept ?_
    assumption

theorem State.wdgSuspend_kept {m0 : May} {s0 s : State} (h : Kept m0 s0 s) : Kept m0 s0 (State.wdgSuspend s) := by
  unfold State.wdgSuspend
  refine kept_ite ?_ ?_
  · assumption
  · lift_lets
    intro x0
    have hx0 : Kept m0 s0 (x0) := by
      unfold x0
      refine State.inc_kept ?_
      refine State.set_kept ?_
      refine State.set_kept ?_
      assumption
    clear_value x0
    intro x1
    clear_value x1
    refine kept_mk ?_
    assumption

theorem State.wdgResume_kept {m0 : May} {s0 s : State} (h : Kept m0 s0 s) : Kept m0 s0 (State.wdgResume s) := by
  unfold State.wdgResume
  refine kept_ite ?_ ?_
  · lift_lets
    intro x0
    clear_value x0
    intro x1
    have hx1 : Kept m0 s0 (x1) := by
      unfold x1
      refine State.set_kept ?_
      refine State.set_kept ?_
      assumption
    clear_value x1
    intro x2
    clear_value x2
    refine kept_mk ?_
    assumption
  · assumption

theorem execWdgSuspensionEnd_kept {m0 : Bool} {s0 s : State} (h : Kept ⟨m0, true⟩ s0 s) : OutKept ⟨m0, true⟩ s0 (execWdgSuspensionEnd s) := by
  unfold execWdgSuspensionEnd
  refine outKept_ite ?_ ?_
  · refine done_kept ?_
    refine State.wdgExpire_kept ?_
    assumption
  · refine done_kept ?_
    assumption

theorem State.discFree_kept {m0 : May} {s0 s : State} (h : Kept m0 s0 s) : Kept m0 s0 (State.discFree s) := by
  unfold State.discFree
  refine State.set_kept ?_
  refine State.setB_kept ?_
  refine State.set_kept ?_
  assumption

theorem State.discAcquire_kept {m0 : May} {s0 s : State} (h : Kept m0 s0 s) : Kept m0 s0 (State.discAcquire s) := by
  unfold State.discAcquire
  lift_lets
  intro x0
  have hx0 : Kept m0 s0 (x0) := by
    unfold x0
    refine State.setB_kept ?_
    refine State.set_kept ?_
    assumption
  clear_value x0
  intro x1
  clear_value x1
  refine kept_mk ?_
  assumption

theorem State.discLost_kept {m0 : May} {s0 s : State} (h : Kept m0 s0 s) : Kept m0 s0 (State.discLost s) := by
  unfold State.discLost
  refine kept_ite ?_ ?_
  · lift_lets
    intro x0
    have hx0 : Kept m0 s0 (x0) := by
      unfold x0
      refine State.inc_kept ?_
      refine State.inc_kept ?_
      refine State.set_kept ?_
      assumption
    clear_value x0
    intro x1
    clear_value x1
    refine kept_mk ?_
    assumption
  · assumption

theorem State.srcSelect_kept {m0 : May} {s0 s : State} {a2 : Nat} (h : Kept m0 s0 s) : Kept m0 s0 (State.srcSelect s a2) := by
  unfold State.srcSelect
  refine State.iff_kept ?_ ?_
  · refine State.set_kept ?_
    assumption
  · intro v0_0 v0_1
    refine State.discFree_kept ?_
    assumption

theorem execDiscSourcePresent_kept {m0 : May} {s0 s : State} (h : Kept m0 s0 s) : OutKept m0 s0 (execDiscSourcePresent s) := by
  unfold execDiscSourcePresent
  refine outKept_ite ?_ ?_
  · refine done_kept ?_
    refine State.discAcquire_kept ?_
    assumption
  · refine done_kept ?_
    assumption

theorem execDiscSourceLost_kept {m0 : May} {s0 s : State} (h : Kept m0 s0 s) : OutKept m0 s0 (execDiscSourceLost s) := by
  unfold execDiscSourceLost
  refine done_kept ?_
  refine State.discLost_kept ?_
  assumption

theorem execDiscLockWindow_kept {m0 : May} {s0 : State} {a1 : Int} {s : State} (h : Kept m0 s0 s) : OutKept m0 s0 (execDiscLockWindow a1 s) := by
  unfold execDiscLockWindow
  refine outKept_ite ?_ ?_
  · lift_lets
    intro x0
    have hx0 : Kept m0 s0 (x0) := by
      unfold x0
      refine State.set_kept ?_
      assumption
    clear_value x0
    intro x1
    clear_value x1
    refine done_kept ?_
    refine kept_mk ?_
    assumption
  · refine done_kept ?_
    assumption

theorem State.staleJudge_kept {m0 : May} {s0 s : State} (h : Kept m0 s0 s) : Kept m0 s0 (State.staleJudge s) := by
  unfold State.staleJudge
  refine State.setB_kept ?_
  assumption

theorem execHoldoverStale_kept {m0 : May} {s0 s : State} (h : Kept m0 s0 s) : OutKept m0 s0 (execHoldoverStale s) := by
  unfold execHoldoverStale
  refine done_kept ?_
  refine State.staleJudge_kept ?_
  assumption

theorem State.rateTo_kept {m0 : May} {s0 s : State} {a2 : Int} (h : Kept m0 s0 s) : Kept m0 s0 (State.rateTo s a2) := by
  unfold State.rateTo
  lift_lets
  intro x0
  clear_value x0
  intro x1
  have hx1 : Kept m0 s0 (x1) := by
    unfold x1
    refine State.setI_kept ?_
    assumption
  clear_value x1
  intro x2
  clear_value x2
  refine kept_mk ?_
  assumption

theorem execDiscRateStep_kept {m0 : May} {s0 : State} {a1 : Int} {a2 : Int} {s : State} (h : Kept m0 s0 s) : OutKept m0 s0 (execDiscRateStep a1 a2 s) := by
  unfold execDiscRateStep
  refine outKept_ite ?_ ?_
  · refine done_kept ?_
    assumption
  · refine outKept_ite ?_ ?_
    · refine done_kept ?_
      refine State.rateTo_kept ?_
      assumption
    · refine outKept_ite ?_ ?_
      · refine done_kept ?_
        assumption
      · refine done_kept ?_
        refine State.rateTo_kept ?_
        refine State.setI_kept ?_
        assumption

theorem State.timeFault_kept {m0 : Bool} {s0 s : State} (h : Kept ⟨m0, true⟩ s0 s) : Kept ⟨m0, true⟩ s0 (State.timeFault s) := by
  unfold State.timeFault
  lift_lets
  intro x0
  have hx0 : Kept ⟨m0, true⟩ s0 (x0) := by
    unfold x0
    refine State.set_kept ?_
    refine State.inc_kept ?_
    assumption
  clear_value x0
  intro x1
  clear_value x1
  intro x2
  have hx2 : Kept ⟨m0, true⟩ s0 (x2) := by
    unfold x2
    refine kept_mk ?_
    assumption
  clear_value x2
  refine State.settle_kept ?_
  refine State.trigger_kept ?_
  refine State.detect_kept ?_
  assumption

theorem State.paceReturn_kept {m0 : May} {s0 s : State} (h : Kept m0 s0 s) : Kept m0 s0 (State.paceReturn s) := by
  unfold State.paceReturn
  refine State.settle_kept ?_
  refine kept_mk ?_
  assumption

theorem execXchkWindowEnd_kept {m0 : Bool} {s0 : State} {a1 : Nat} {s : State} (h : Kept ⟨m0, true⟩ s0 s) : OutKept ⟨m0, true⟩ s0 (execXchkWindowEnd a1 s) := by
  unfold execXchkWindowEnd
  lift_lets
  intro x0
  have hx0 : Kept ⟨m0, true⟩ s0 (x0) := by
    unfold x0
    refine State.set_kept ?_
    assumption
  clear_value x0
  intro x1
  clear_value x1
  refine outKept_ite ?_ ?_
  · refine done_kept ?_
    refine State.iff_kept ?_ ?_
    · refine State.set_kept ?_
      assumption
    · intro v2_0 v2_1
      refine State.paceReturn_kept ?_
      assumption
  · refine outKept_ite ?_ ?_
    · refine done_kept ?_
      refine State.set_kept ?_
      assumption
    · refine done_kept ?_
      refine State.timeFault_kept ?_
      assumption

theorem State.slackReport_kept {m0 : May} {s0 s : State} (h : Kept m0 s0 s) : Kept m0 s0 (State.slackReport s) := by
  unfold State.slackReport
  lift_lets
  intro x0
  clear_value x0
  intro x1
  have hx1 : Kept m0 s0 (x1) := by
    unfold x1
    refine State.each_kept ?_ ?_
    · assumption
    · intro v2_0 v2_1 v2_2
      refine State.set_kept ?_
      assumption
  clear_value x1
  intro x3
  have hx3 : Kept m0 s0 (x3) := by
    unfold x3
    refine State.set_kept ?_
    refine State.set_kept ?_
    assumption
  clear_value x3
  intro x4
  have hx4 : Kept m0 s0 (x4) := by
    unfold x4
    refine State.set_kept ?_
    assumption
  clear_value x4
  intro x5
  clear_value x5
  intro x6
  clear_value x6
  refine kept_mk ?_
  assumption

theorem State.forcedEnd_kept {m0 : May} {s0 s : State} (h : Kept m0 s0 s) : Kept m0 s0 (State.forcedEnd s) := by
  unfold State.forcedEnd
  split
  · assumption
  · refine kept_ite ?_ ?_
    · lift_lets
      intro x0
      have hx0 : Kept m0 s0 (x0) := by
        unfold x0
        refine State.setB_kept ?_
        assumption
      clear_value x0
      intro x1
      clear_value x1
      refine kept_mk ?_
      assumption
    · assumption

theorem State.coreLower_kept {m0 : May} {s0 s : State} (h : Kept m0 s0 s) : Kept m0 s0 (State.coreLower s) := by
  unfold State.coreLower
  lift_lets
  intro x0
  clear_value x0
  intro x1
  clear_value x1
  refine kept_ite ?_ ?_
  · refine State.vcoreTo_kept ?_
    assumption
  · assumption

theorem execVcoreWindowEnd_kept {m0 : May} {s0 s : State} (h : Kept m0 s0 s) : OutKept m0 s0 (execVcoreWindowEnd s) := by
  unfold execVcoreWindowEnd
  refine outKept_ite ?_ ?_
  · lift_lets
    intro x0
    have hx0 : Kept m0 s0 (x0) := by
      unfold x0
      refine State.coreLower_kept ?_
      refine State.forcedEnd_kept ?_
      refine State.slackReport_kept ?_
      assumption
    clear_value x0
    intro x1
    clear_value x1
    refine done_kept ?_
    refine kept_mk ?_
    assumption
  · refine done_kept ?_
    assumption

theorem State.setFails_kept {m0 : May} {s0 s : State} {a2 : Fin 3} {a3 : Nat} (h : Kept m0 s0 s) : Kept m0 s0 (State.setFails s a2 a3) := by
  unfold State.setFails
  refine kept_ite ?_ ?_
  · refine kept_mk ?_
    assumption
  · refine State.set_kept ?_
    assumption

theorem State.lockExpire_kept {m0 : May} {s0 s : State} {a2 : Fin 3} (h : Kept m0 s0 s) : Kept m0 s0 (State.lockExpire s a2) := by
  unfold State.lockExpire
  refine kept_ite ?_ ?_
  · lift_lets
    intro x0
    have hx0 : Kept m0 s0 (x0) := by
      unfold x0
      refine State.setFails_kept ?_
      assumption
    clear_value x0
    intro x1
    clear_value x1
    refine kept_mk ?_
    assumption
  · assumption

theorem State.failure_kept {m0 : May} {s0 s : State} {a2 : Fin 3} {a3 : Nat} (h : Kept m0 s0 s) : Kept m0 s0 (State.failure s a2 a3) := by
  unfold State.failure
  lift_lets
  intro x0
  have hx0 : Kept m0 s0 (x0) := by
    unfold x0
    refine State.setFails_kept ?_
    refine State.iff_kept ?_ ?_
    · assumption
    · intro v1_0 v1_1
      refine State.inc_kept ?_
      assumption
  clear_value x0
  intro x2
  have hx2 : Kept m0 s0 (x2) := by
    unfold x2
    refine State.iff_kept ?_ ?_
    · assumption
    · intro v3_0 v3_1
      refine State.inc_kept ?_
      assumption
  clear_value x2
  intro x4
  clear_value x4
  refine kept_ite ?_ ?_
  · refine State.event_kept ?_
    refine kept_mk ?_
    assumption
  · assumption

theorem State.setSession_kept {m0 : May} {s0 s : State} {a2 : Fin 8} {a3 : Session} (h : Kept m0 s0 s) : Kept m0 s0 (State.setSession s a2 a3) := by
  unfold State.setSession
  refine kept_mk ?_
  assumption

theorem State.showOpen_kept {m0 : May} {s0 s : State} {a2 : Nat} (h : Kept m0 s0 s) : Kept m0 s0 (State.showOpen s a2) := by
  unfold State.showOpen
  refine State.set_kept ?_
  assumption

theorem State.closeSession_kept {m0 : May} {s0 s : State} {a2 : Fin 8} (h : Kept m0 s0 s) : Kept m0 s0 (State.closeSession s a2) := by
  unfold State.closeSession
  refine kept_ite ?_ ?_
  · refine State.showOpen_kept ?_
    refine State.setSession_kept ?_
    refine State.setReg_kept ?_
    assumption
  · assumption

theorem State.closePrax_kept {m0 : May} {s0 s : State} (h : Kept m0 s0 s) : Kept m0 s0 (State.closePrax s) := by
  unfold State.closePrax
  refine State.each_kept ?_ ?_
  · assumption
  · intro v0_0 v0_1 v0_2
    refine State.iff_kept ?_ ?_
    · assumption
    · intro v1_0 v1_1
      refine State.closeSession_kept ?_
      assumption

theorem State.openSession_kept {m0 : May} {s0 s : State} {a2 : Fin 8} {a3 : Challenge} {a4 : Nat} (h : Kept m0 s0 s) : Kept m0 s0 (State.openSession s a2 a3 a4) := by
  unfold State.openSession
  lift_lets
  intro x0
  have hx0 : Kept m0 s0 (x0) := by
    unfold x0
    refine State.set_kept ?_
    refine State.set_kept ?_
    refine State.set_kept ?_
    assumption
  clear_value x0
  intro x1
  clear_value x1
  refine State.inc_kept ?_
  refine State.showOpen_kept ?_
  refine State.setSession_kept ?_
  assumption

theorem State.dropChallenge_kept {m0 : May} {s0 s : State} {a2 : Challenge} (h : Kept m0 s0 s) : Kept m0 s0 (State.dropChallenge s a2) := by
  unfold State.dropChallenge
  refine kept_mk ?_
  assumption

theorem State.challenge_kept {m0 : May} {s0 s : State} {a2 : Nat} {a3 : Nat} {a4 : Nat} {a5 : Nat} {a6 : Bool} (h : Kept m0 s0 s) : Kept m0 s0 (State.challenge s a2 a3 a4 a5 a6).2 := by
  unfold State.challenge
  lift_lets
  intro x0
  have hx0 : Kept m0 s0 (x0).2 := by
    refine kept_of (fun q => q.2) (a := x0) (State.random_kept ?_) rfl
    assumption
  clear_value x0
  intro x1
  have hx1 : Kept m0 s0 (x1).2 := by
    refine kept_of (fun q => q.2) (a := x1) (State.random_kept ?_) rfl
    assumption
  clear_value x1
  intro x2
  clear_value x2
  intro x3
  clear_value x3
  intro x4
  have hx4 : Kept m0 s0 (x4) := by
    unfold x4
    assumption
  clear_value x4
  intro x5
  clear_value x5
  dsimp only
  refine kept_mk ?_
  assumption

theorem State.spiOpen_kept {m0 : May} {s0 s : State} {a2 : Nat} {a3 : Nat} (h : Kept m0 s0 s) : Kept m0 s0 (State.spiOpen s a2 a3) := by
  unfold State.spiOpen
  lift_lets
  intro x0
  have hx0 : Kept m0 s0 (x0) := by
    unfold x0
    refine State.lockExpire_kept ?_
    assumption
  clear_value x0
  intro x1
  have hx1 : Kept m0 s0 (x1).2 := by
    refine kept_of (fun q => q.2) (a := x1) (State.challenge_kept ?_) rfl
    assumption
  clear_value x1
  refine kept_ite ?_ ?_
  · assumption
  · refine State.each_kept ?_ ?_
    · assumption
    · intro v2_0 v2_1 v2_2
      refine State.set_kept ?_
      assumption

theorem State.spiClose_kept {m0 : May} {s0 s : State} (h : Kept m0 s0 s) : Kept m0 s0 (State.spiClose s) := by
  unfold State.spiClose
  split
  · refine State.closeSession_kept ?_
    assumption
  · assumption

theorem State.sesOpenWrite_kept {m0 : May} {s0 s : State} {a2 : Word} (h : Kept m0 s0 s) : Kept m0 s0 (State.sesOpenWrite s a2) := by
  unfold State.sesOpenWrite
  lift_lets
  intro x0
  have hx0 : Kept m0 s0 (x0) := by
    unfold x0
    refine State.iff_kept ?_ ?_
    · assumption
    · intro v1_0 v1_1
      refine State.spiClose_kept ?_
      assumption
  clear_value x0
  refine State.iff_kept ?_ ?_
  · assumption
  · intro v2_0 v2_1
    refine State.spiOpen_kept ?_
    assumption

theorem execSesOpenStart_kept {m0 : May} {s0 : State} {a1 : Requester} {a2 : Word} {s : State} (h : Kept m0 s0 s) : OutKept m0 s0 (execSesOpenStart a1 a2 s) := by
  unfold execSesOpenStart
  refine done_kept ?_
  refine State.gate_kept ?_ ?_
  · assumption
  · intro v0_0 v0_1
    refine State.sesOpenWrite_kept ?_
    assumption

theorem execSesOpenClose_kept {m0 : May} {s0 : State} {a1 : Requester} {a2 : Word} {s : State} (h : Kept m0 s0 s) : OutKept m0 s0 (execSesOpenClose a1 a2 s) := by
  unfold execSesOpenClose
  refine done_kept ?_
  refine State.gate_kept ?_ ?_
  · assumption
  · intro v0_0 v0_1
    refine State.sesOpenWrite_kept ?_
    assumption

theorem State.spiProve_kept {m0 : May} {s0 s : State} (h : Kept m0 s0 s) : Kept m0 s0 (State.spiProve s) := by
  unfold State.spiProve
  lift_lets
  intro x0
  have hx0 : Kept m0 s0 (x0) := by
    unfold x0
    refine State.lockExpire_kept ?_
    assumption
  clear_value x0
  split
  · assumption
  · lift_lets
    intro x1
    have hx1 : Kept m0 s0 (x1) := by
      unfold x1
      refine State.dropChallenge_kept ?_
      assumption
    clear_value x1
    intro x2
    have hx2 : Kept m0 s0 (x2) := by
      unfold x2
      refine State.spiClose_kept ?_
      assumption
    clear_value x2
    refine kept_ite ?_ ?_
    · assumption
    · refine kept_ite ?_ ?_
      · refine State.failure_kept ?_
        assumption
      · refine kept_ite ?_ ?_
        · split
          · refine State.setFails_kept ?_
            refine State.openSession_kept ?_
            assumption
          · assumption
        · refine State.failure_kept ?_
          assumption

theorem State.respWrite_kept {m0 : May} {s0 s : State} {a2 : Nat} {a3 : Word} (h : Kept m0 s0 s) : Kept m0 s0 (State.respWrite s a2 a3) := by
  unfold State.respWrite
  lift_lets
  intro x0
  clear_value x0
  intro x1
  have hx1 : Kept m0 s0 (x1) := by
    unfold x1
    refine kept_mk ?_
    assumption
  clear_value x1
  refine State.iff_kept ?_ ?_
  · assumption
  · intro v2_0 v2_1
    refine State.spiProve_kept ?_
    assumption

theorem execSesRespSubmit_kept {m0 : May} {s0 : State} {a1 : Requester} {a2 : Word} {s : State} (h : Kept m0 s0 s) : OutKept m0 s0 (execSesRespSubmit a1 a2 s) := by
  unfold execSesRespSubmit
  refine done_kept ?_
  refine State.gate_kept ?_ ?_
  · assumption
  · intro v0_0 v0_1
    refine State.respWrite_kept ?_
    assumption

theorem execLockoutEnd_kept {m0 : May} {s0 : State} {a1 : Fin 3} {s : State} (h : Kept m0 s0 s) : OutKept m0 s0 (execLockoutEnd a1 s) := by
  unfold execLockoutEnd
  refine done_kept ?_
  refine State.lockExpire_kept ?_
  assumption

theorem State.nonceFail_kept {m0 : May} {s0 s : State} {a2 : Challenge} (h : Kept m0 s0 s) : Kept m0 s0 (State.nonceFail s a2) := by
  unfold State.nonceFail
  lift_lets
  intro x0
  have hx0 : Kept m0 s0 (x0) := by
    unfold x0
    refine State.lockExpire_kept ?_
    refine State.dropChallenge_kept ?_
    assumption
  clear_value x0
  refine kept_ite ?_ ?_
  · assumption
  · refine State.failure_kept ?_
    assumption

theorem execNonceExpiry_kept {m0 : May} {s0 s : State} (h : Kept m0 s0 s) : OutKept m0 s0 (execNonceExpiry s) := by
  unfold execNonceExpiry
  refine done_kept ?_
  refine State.each_kept ?_ ?_
  · assumption
  · intro v0_0 v0_1 v0_2
    refine State.nonceFail_kept ?_
    assumption

theorem execSessionIdleTimeout_kept {m0 : May} {s0 : State} {a1 : Fin 8} {s : State} (h : Kept m0 s0 s) : OutKept m0 s0 (execSessionIdleTimeout a1 s) := by
  unfold execSessionIdleTimeout
  refine outKept_ite ?_ ?_
  · refine done_kept ?_
    refine State.inc_kept ?_
    refine State.closeSession_kept ?_
    assumption
  · refine done_kept ?_
    assumption

theorem State.setKey_kept {m0 : May} {s0 s : State} {a2 : Fin 8} {a3 : Key} (h : Kept m0 s0 s) : Kept m0 s0 (State.setKey s a2 a3) := by
  unfold State.setKey
  refine State.storedChange_kept ?_
  refine kept_mk ?_
  assumption

theorem State.keyErase_kept {m0 : May} {s0 s : State} {a2 : Fin 8} (h : Kept m0 s0 s) : Kept m0 s0 (State.keyErase s a2) := by
  unfold State.keyErase
  lift_lets
  intro x0
  have hx0 : Kept m0 s0 (x0) := by
    unfold x0
    refine State.setKey_kept ?_
    refine State.setB_kept ?_
    assumption
  clear_value x0
  refine State.settle_kept ?_
  refine State.each_kept ?_ ?_
  · assumption
  · intro v1_0 v1_1 v1_2
    refine State.iff_kept ?_ ?_
    · assumption
    · intro v2_0 v2_1
      refine State.closeSession_kept ?_
      assumption

theorem State.keyCommit_kept {m0 : May} {s0 s : State} {a2 : Fin 8} (h : Kept m0 s0 s) : Kept m0 s0 (State.keyCommit s a2) := by
  unfold State.keyCommit
  refine kept_ite ?_ ?_
  · refine State.storedChange_kept ?_
    refine State.setB_kept ?_
    assumption
  · assumption

theorem State.keySelWrite_kept {m0 : May} {s0 s : State} {a2 : Word} (h : Kept m0 s0 s) : Kept m0 s0 (State.keySelWrite s a2) := by
  unfold State.keySelWrite
  lift_lets
  intro x0
  clear_value x0
  intro x1
  have hx1 : Kept m0 s0 (x1) := by
    unfold x1
    refine kept_mk ?_
    assumption
  clear_value x1
  intro x2
  have hx2 : Kept m0 s0 (x2) := by
    unfold x2
    refine State.iff_kept ?_ ?_
    · assumption
    · intro v3_0 v3_1
      refine State.keyErase_kept ?_
      assumption
  clear_value x2
  refine State.iff_kept ?_ ?_
  · assumption
  · intro v4_0 v4_1
    refine State.keyCommit_kept ?_
    assumption

theorem execKeyErase_kept {m0 : May} {s0 : State} {a1 : Requester} {a2 : Word} {s : State} (h : Kept m0 s0 s) : OutKept m0 s0 (execKeyErase a1 a2 s) := by
  unfold execKeyErase
  refine done_kept ?_
  refine State.gateRole_kept ?_ ?_
  · assumption
  · intro v0_0 v0_1
    refine State.keySelWrite_kept ?_
    assumption

theorem execKeyCommit_kept {m0 : May} {s0 : State} {a1 : Requester} {a2 : Word} {s : State} (h : Kept m0 s0 s) : OutKept m0 s0 (execKeyCommit a1 a2 s) := by
  unfold execKeyCommit
  refine done_kept ?_
  refine State.gateRole_kept ?_ ?_
  · assumption
  · intro v0_0 v0_1
    refine State.keySelWrite_kept ?_
    assumption

theorem State.keyDataWrite_kept {m0 : May} {s0 s : State} {a2 : Word} (h : Kept m0 s0 s) : Kept m0 s0 (State.keyDataWrite s a2) := by
  unfold State.keyDataWrite
  lift_lets
  intro x0
  clear_value x0
  intro x1
  clear_value x1
  intro x2
  clear_value x2
  intro x3
  have hx3 : Kept m0 s0 (x3) := by
    unfold x3
    refine State.setKey_kept ?_
    assumption
  clear_value x3
  intro x4
  clear_value x4
  refine kept_mk ?_
  assumption

theorem execKeyDataWrite_kept {m0 : May} {s0 : State} {a1 : Requester} {a2 : Word} {s : State} (h : Kept m0 s0 s) : OutKept m0 s0 (execKeyDataWrite a1 a2 s) := by
  unfold execKeyDataWrite
  refine done_kept ?_
  refine State.gateRole_kept ?_ ?_
  · assumption
  · intro v0_0 v0_1
    refine State.keyDataWrite_kept ?_
    assumption

theorem State.ethShow_kept {m0 : May} {s0 s : State} {a2 : Fin 2} (h : Kept m0 s0 s) : Kept m0 s0 (State.ethShow s a2) := by
  unfold State.ethShow
  lift_lets
  intro x0
  have hx0 : Kept m0 s0 (x0) := by
    unfold x0
    refine State.setB_kept ?_
    assumption
  clear_value x0
  intro x1
  clear_value x1
  intro x2
  have hx2 : Kept m0 s0 (x2) := by
    unfold x2
    refine State.set_kept ?_
    refine State.setB_kept ?_
    assumption
  clear_value x2
  intro x3
  clear_value x3
  intro x4
  clear_value x4
  intro x5
  have hx5 : Kept m0 s0 (x5) := by
    unfold x5
    refine State.set_kept ?_
    refine State.setB_kept ?_
    refine State.setB_kept ?_
    assumption
  clear_value x5
  intro x6
  clear_value x6
  refine kept_ite ?_ ?_
  · refine State.set_kept ?_
    assumption
  · refine kept_ite ?_ ?_
    · refine State.set_kept ?_
      assumption
    · assumption

theorem State.ethShowAll_kept {m0 : May} {s0 s : State} (h : Kept m0 s0 s) : Kept m0 s0 (State.ethShowAll s) := by
  unfold State.ethShowAll
  refine State.ethShow_kept ?_
  refine State.ethShow_kept ?_
  assumption

theorem execDhcpLeaseObtained_kept {m0 : May} {s0 : State} {a1 : Fin 2} {a2 : Word} {a3 : Nat} {s : State} (h : Kept m0 s0 s) : OutKept m0 s0 (execDhcpLeaseObtained a1 a2 a3 s) := by
  unfold execDhcpLeaseObtained
  refine outKept_ite ?_ ?_
  · refine done_kept ?_
    refine State.ethShow_kept ?_
    refine kept_mk ?_
    assumption
  · refine done_kept ?_
    assumption

theorem execDhcpLeaseEnd_kept {m0 : May} {s0 : State} {a1 : Fin 2} {s : State} (h : Kept m0 s0 s) : OutKept m0 s0 (execDhcpLeaseEnd a1 s) := by
  unfold execDhcpLeaseEnd
  refine outKept_ite ?_ ?_
  · refine done_kept ?_
    refine State.ethShow_kept ?_
    refine kept_mk ?_
    assumption
  · refine done_kept ?_
    assumption

theorem State.praxSend_kept {m0 : May} {s0 s : State} {a2 : Fin 2} {a3 : List Byte} (h : Kept m0 s0 s) : Kept m0 s0 (State.praxSend s a2 a3) := by
  unfold State.praxSend
  refine State.reply_kept ?_
  refine State.incWrap_kept ?_
  assumption

theorem State.praxError_kept {m0 : May} {s0 s : State} {a2 : Datagram} {a3 : Nat} {a4 : Nat} (h : Kept m0 s0 s) : Kept m0 s0 (State.praxError s a2 a3 a4) := by
  unfold State.praxError
  refine State.praxSend_kept ?_
  refine State.inc_kept ?_
  assumption

theorem State.praxFrame_kept {m0 : May} {s0 s : State} {a2 : Datagram} {a3 : Bool} {a4 : State → State} (h : Kept m0 s0 s) (ha4 : ∀ b0, Kept m0 s0 b0 → Kept m0 s0 (a4 b0)) : Kept m0 s0 (State.praxFrame s a2 a3 a4) := by
  unfold State.praxFrame
  refine kept_ite ?_ ?_
  · assumption
  · lift_lets
    intro x0
    have hx0 : Kept m0 s0 (x0) := by
      unfold x0
      refine State.incWrap_kept ?_
      assumption
    clear_value x0
    refine kept_ite ?_ ?_
    · refine kept_ite ?_ ?_
      · refine ha4 _ ?_
        assumption
      · refine State.inc_kept ?_
        assumption
    · refine kept_ite ?_ ?_
      · refine kept_ite ?_ ?_
        · refine ha4 _ ?_
          assumption
        · refine State.inc_kept ?_
          assumption
      · assumption

theorem State.discard_kept {m0 : May} {s0 s : State} (h : Kept m0 s0 s) : Kept m0 s0 (State.discard s) := by
  unfold State.discard
  refine State.inc_kept ?_
  assumption

theorem State.praxOpen_kept {m0 : May} {s0 s : State} {a2 : Datagram} (h : Kept m0 s0 s) : Kept m0 s0 (State.praxOpen s a2) := by
  unfold State.praxOpen
  lift_lets
  intro x0
  clear_value x0
  intro x1
  have hx1 : Kept m0 s0 (x1) := by
    unfold x1
    refine State.lockExpire_kept ?_
    assumption
  clear_value x1
  intro x2
  have hx2 : Kept m0 s0 (x2).2 := by
    refine kept_of (fun q => q.2) (a := x2) (State.challenge_kept ?_) rfl
    assumption
  clear_value x2
  refine kept_ite ?_ ?_
  · refine State.praxError_kept ?_
    assumption
  · refine kept_ite ?_ ?_
    · refine State.praxError_kept ?_
      assumption
    · refine kept_ite ?_ ?_
      · refine State.praxError_kept ?_
        assumption
      · refine kept_ite ?_ ?_
        · refine State.praxError_kept ?_
          assumption
        · refine State.praxSend_kept ?_
          assumption

theorem execPraxOpen_kept {m0 : May} {s0 : State} {a1 : Datagram} {s : State} (h : Kept m0 s0 s) : OutKept m0 s0 (execPraxOpen a1 s) := by
  unfold execPraxOpen
  refine done_kept ?_
  refine State.praxFrame_kept ?_ ?_
  · assumption
  · intro v0_0 v0_1
    refine State.praxOpen_kept ?_
    assumption

theorem State.praxProve_kept {m0 : May} {s0 s : State} {a2 : Datagram} (h : Kept m0 s0 s) : Kept m0 s0 (State.praxProve s a2) := by
  unfold State.praxProve
  lift_lets
  intro x0
  clear_value x0
  intro x1
  have hx1 : Kept m0 s0 (x1) := by
    unfold x1
    refine State.lockExpire_kept ?_
    assumption
  clear_value x1
  split
  · refine State.discard_kept ?_
    assumption
  · lift_lets
    intro x2
    have hx2 : Kept m0 s0 (x2) := by
      unfold x2
      refine State.dropChallenge_kept ?_
      assumption
    clear_value x2
    refine kept_ite ?_ ?_
    · refine State.praxError_kept ?_
      assumption
    · refine kept_ite ?_ ?_
      · refine State.praxError_kept ?_
        assumption
      · refine kept_ite ?_ ?_
        · refine State.praxError_kept ?_
          assumption
        · refine kept_ite ?_ ?_
          · refine State.praxError_kept ?_
            refine State.failure_kept ?_
            assumption
          · split
            · refine State.praxError_kept ?_
              assumption
            · lift_lets
              intro x3
              have hx3 : Kept m0 s0 (x3) := by
                unfold x3
                refine State.setFails_kept ?_
                refine State.openSession_kept ?_
                assumption
              clear_value x3
              intro x4
              clear_value x4
              intro x5
              clear_value x5
              intro x6
              clear_value x6
              refine State.praxSend_kept ?_
              refine State.setSession_kept ?_
              assumption

theorem execPraxProve_kept {m0 : May} {s0 : State} {a1 : Datagram} {s : State} (h : Kept m0 s0 s) : OutKept m0 s0 (execPraxProve a1 s) := by
  unfold execPraxProve
  refine done_kept ?_
  refine State.praxFrame_kept ?_ ?_
  · assumption
  · intro v0_0 v0_1
    refine State.praxProve_kept ?_
    assumption

theorem State.sessReply_kept {m0 : May} {s0 s : State} {a2 : Fin 8} {a3 : Datagram} {a4 : Nat} {a5 : List Byte} (h : Kept m0 s0 s) : Kept m0 s0 (State.sessReply s a2 a3 a4 a5) := by
  unfold State.sessReply
  lift_lets
  intro x0
  clear_value x0
  intro x1
  clear_value x1
  intro x2
  clear_value x2
  refine State.praxSend_kept ?_
  refine State.setSession_kept ?_
  assumption

theorem State.sessError_kept {m0 : May} {s0 s : State} {a2 : Fin 8} {a3 : Datagram} {a4 : Nat} {a5 : Nat} (h : Kept m0 s0 s) : Kept m0 s0 (State.sessError s a2 a3 a4 a5) := by
  unfold State.sessError
  refine State.sessReply_kept ?_
  refine State.inc_kept ?_
  assumption

theorem State.praxRequest_kept {m0 : May} {s0 s : State} {a2 : Datagram} {a3 : Nat} {a4 : Fin 8 → State → State} (h : Kept m0 s0 s) (ha4 : ∀ b0 b1, Kept m0 s0 b1 → Kept m0 s0 (a4 b0 b1)) : Kept m0 s0 (State.praxRequest s a2 a3 a4) := by
  unfold State.praxRequest
  split
  · refine State.discard_kept ?_
    assumption
  · refine kept_ite ?_ ?_
    · refine State.inc_kept ?_
      refine State.discard_kept ?_
      assumption
    · refine kept_ite ?_ ?_
      · refine kept_ite ?_ ?_
        · assumption
        · refine State.praxSend_kept ?_
          assumption
      · refine kept_ite ?_ ?_
        · refine State.discard_kept ?_
          assumption
        · lift_lets
          intro x0
          clear_value x0
          intro x1
          have hx1 : Kept m0 s0 (x1) := by
            unfold x1
            refine State.incWrap_kept ?_
            refine State.setSession_kept ?_
            assumption
          clear_value x1
          refine kept_ite ?_ ?_
          · refine State.sessError_kept ?_
            assumption
          · refine ha4 _ _ ?_
            assumption

theorem execPraxClose_kept {m0 : May} {s0 : State} {a1 : Datagram} {s : State} (h : Kept m0 s0 s) : OutKept m0 s0 (execPraxClose a1 s) := by
  unfold execPraxClose
  refine done_kept ?_
  refine State.praxFrame_kept ?_ ?_
  · assumption
  · intro v0_0 v0_1
    refine State.praxRequest_kept ?_ ?_
    · assumption
    · intro v1_0 v1_1 v1_2
      refine kept_ite ?_ ?_
      · refine State.closeSession_kept ?_
        refine State.sessReply_kept ?_
        assumption
      · refine State.sessError_kept ?_
        assumption

theorem execPraxKeepalive_kept {m0 : May} {s0 : State} {a1 : Datagram} {s : State} (h : Kept m0 s0 s) : OutKept m0 s0 (execPraxKeepalive a1 s) := by
  unfold execPraxKeepalive
  refine done_kept ?_
  refine State.praxFrame_kept ?_ ?_
  · assumption
  · intro v0_0 v0_1
    refine State.praxRequest_kept ?_ ?_
    · assumption
    · intro v1_0 v1_1 v1_2
      refine kept_ite ?_ ?_
      · refine State.sessReply_kept ?_
        assumption
      · refine State.sessError_kept ?_
        assumption

theorem State.subscribe_kept {m0 : May} {s0 s : State} {a2 : Fin 8} {a3 : Nat} (h : Kept m0 s0 s) : Kept m0 s0 (State.subscribe s a2 a3) := by
  unfold State.subscribe
  refine kept_ite ?_ ?_
  · refine State.setB_kept ?_
    refine State.setSession_kept ?_
    assumption
  · refine State.setB_kept ?_
    refine State.setSession_kept ?_
    assumption

theorem execPraxSubscribe_kept {m0 : May} {s0 : State} {a1 : Datagram} {s : State} (h : Kept m0 s0 s) : OutKept m0 s0 (execPraxSubscribe a1 s) := by
  unfold execPraxSubscribe
  refine done_kept ?_
  refine State.praxFrame_kept ?_ ?_
  · assumption
  · intro v0_0 v0_1
    refine State.praxRequest_kept ?_ ?_
    · assumption
    · intro v1_0 v1_1 v1_2
      refine kept_ite ?_ ?_
      · refine State.sessReply_kept ?_
        refine State.subscribe_kept ?_
        assumption
      · refine State.sessError_kept ?_
        assumption

theorem execNotifyAck_kept {m0 : May} {s0 : State} {a1 : Datagram} {s : State} (h : Kept m0 s0 s) : OutKept m0 s0 (execNotifyAck a1 s) := by
  unfold execNotifyAck
  refine done_kept ?_
  refine State.praxFrame_kept ?_ ?_
  · assumption
  · intro v0_0 v0_1
    refine State.praxRequest_kept ?_ ?_
    · assumption
    · intro v1_0 v1_1 v1_2
      refine kept_ite ?_ ?_
      · lift_lets
        intro x2
        clear_value x2
        intro x3
        clear_value x3
        intro x4
        have hx4 : Kept m0 s0 (x4) := by
          unfold x4
          refine State.setSession_kept ?_
          assumption
        clear_value x4
        refine State.iff_kept ?_ ?_
        · assumption
        · intro v5_0 v5_1
          refine State.set_kept ?_
          assumption
      · refine State.sessError_kept ?_
        assumption

theorem execNotifySend_kept {m0 : May} {s0 : State} {a1 : Fin 8} {a2 : Nat} {s : State} (h : Kept m0 s0 s) : OutKept m0 s0 (execNotifySend a1 a2 s) := by
  unfold execNotifySend
  lift_lets
  intro x0
  intro x1
  clear_value x1
  intro x2
  clear_value x2
  intro x3
  clear_value x3
  intro x4
  clear_value x4
  intro x5
  clear_value x5
  intro x6
  clear_value x6
  intro x7
  clear_value x7
  intro x8
  clear_value x8
  intro x9
  have hx9 : Kept m0 s0 (x9) := by
    unfold x9
    refine State.addSat_kept ?_
    assumption
  clear_value x9
  intro x10
  clear_value x10
  intro x11
  clear_value x11
  intro x12
  clear_value x12
  intro x13
  have hx13 : Kept m0 s0 (x13) := by
    unfold x13
    refine State.incWrap_kept ?_
    refine State.setSession_kept ?_
    assumption
  clear_value x13
  refine outKept_ite ?_ ?_
  · refine done_kept ?_
    assumption
  · refine outKept_ite ?_ ?_
    · refine done_kept ?_
      refine State.setSession_kept ?_
      assumption
    · refine done_kept ?_
      refine State.praxSend_kept ?_
      assumption

theorem execPtpAnnounce_kept {m0 : May} {s0 : State} {a1 : PtpFrom} {a2 : Bool} {s : State} (h : Kept m0 s0 s) : OutKept m0 s0 (execPtpAnnounce a1 a2 s) := by
  unfold execPtpAnnounce
  refine outKept_ite ?_ ?_
  · lift_lets
    intro x0
    have hx0 : Kept m0 s0 (x0) := by
      unfold x0
      refine State.incWrap_kept ?_
      assumption
    clear_value x0
    intro x1
    have hx1 : Kept m0 s0 (x1) := by
      unfold x1
      refine State.set_kept ?_
      refine State.set_kept ?_
      assumption
    clear_value x1
    intro x2
    have hx2 : Kept m0 s0 (x2) := by
      unfold x2
      refine State.set_kept ?_
      refine State.set_kept ?_
      assumption
    clear_value x2
    intro x3
    clear_value x3
    refine outKept_ite ?_ ?_
    · refine done_kept ?_
      refine kept_mk ?_
      assumption
    · refine done_kept ?_
      assumption
  · refine done_kept ?_
    assumption

theorem execPtpSync_kept {m0 : May} {s0 : State} {a1 : PtpFrom} {a2 : Int} {a3 : Nat} {a4 : Nat} {a5 : Nat} {s : State} (h : Kept m0 s0 s) : OutKept m0 s0 (execPtpSync a1 a2 a3 a4 a5 s) := by
  unfold execPtpSync
  refine outKept_ite ?_ ?_
  · lift_lets
    intro x0
    have hx0 : Kept m0 s0 (x0) := by
      unfold x0
      refine State.set_kept ?_
      refine State.setI_kept ?_
      refine State.incWrap_kept ?_
      assumption
    intro x1
    have hx1 : Kept m0 s0 (x1) := by
      unfold x1
      refine State.set_kept ?_
      unfold x0
      refine State.set_kept ?_
      refine State.setI_kept ?_
      refine State.incWrap_kept ?_
      assumption
    intro x2
    clear_value x2
    intro x3
    clear_value x3
    intro x4
    have hx4 : Kept m0 s0 (x4) := by
      unfold x4
      refine kept_mk ?_
      unfold x1
      refine State.set_kept ?_
      unfold x0
      refine State.set_kept ?_
      refine State.setI_kept ?_
      refine State.incWrap_kept ?_
      assumption
    refine outKept_ite ?_ ?_
    · refine done_kept ?_
      refine State.discAcquire_kept ?_
      unfold x4
      refine kept_mk ?_
      unfold x1
      refine State.set_kept ?_
      unfold x0
      refine State.set_kept ?_
      refine State.setI_kept ?_
      refine State.incWrap_kept ?_
      assumption
    · refine done_kept ?_
      unfold x4
      refine kept_mk ?_
      unfold x1
      refine State.set_kept ?_
      unfold x0
      refine State.set_kept ?_
      refine State.setI_kept ?_
      refine State.incWrap_kept ?_
      assumption
  · refine done_kept ?_
    assumption

theorem execPtpTimeout_kept {m0 : May} {s0 s : State} (h : Kept m0 s0 s) : OutKept m0 s0 (execPtpTimeout s) := by
  unfold execPtpTimeout
  split
  · refine done_kept ?_
    assumption
  · refine outKept_ite ?_ ?_
    · lift_lets
      intro x0
      have hx0 : Kept m0 s0 (x0) := by
        unfold x0
        refine State.set_kept ?_
        refine State.inc_kept ?_
        assumption
      clear_value x0
      intro x1
      clear_value x1
      intro x2
      have hx2 : Kept m0 s0 (x2) := by
        unfold x2
        refine kept_mk ?_
        assumption
      clear_value x2
      refine done_kept ?_
      refine State.iff_kept ?_ ?_
      · assumption
      · intro v3_0 v3_1
        refine State.discLost_kept ?_
        assumption
    · refine done_kept ?_
      assumption

theorem State.mdioCmd_kept {m0 : May} {s0 s : State} {a2 : Nat} {a3 : Word} (h : Kept m0 s0 s) : Kept m0 s0 (State.mdioCmd s a2 a3) := by
  unfold State.mdioCmd
  lift_lets
  intro x0
  clear_value x0
  intro x1
  clear_value x1
  intro x2
  clear_value x2
  intro x3
  clear_value x3
  refine kept_ite ?_ ?_
  · assumption
  · refine State.setB_kept ?_
    refine kept_mk ?_
    assumption

theorem execMdioRead_kept {m0 : May} {s0 : State} {a1 : Requester} {a2 : Fin 2} {a3 : Word} {s : State} (h : Kept m0 s0 s) : OutKept m0 s0 (execMdioRead a1 a2 a3 s) := by
  unfold execMdioRead
  refine done_kept ?_
  refine State.gate_kept ?_ ?_
  · assumption
  · intro v0_0 v0_1
    refine State.mdioCmd_kept ?_
    assumption

theorem execMdioWrite_kept {m0 : May} {s0 : State} {a1 : Requester} {a2 : Fin 2} {a3 : Word} {s : State} (h : Kept m0 s0 s) : OutKept m0 s0 (execMdioWrite a1 a2 a3 s) := by
  unfold execMdioWrite
  refine done_kept ?_
  refine State.gate_kept ?_ ?_
  · assumption
  · intro v0_0 v0_1
    refine State.mdioCmd_kept ?_
    assumption

theorem execMdioComplete_kept {m0 : May} {s0 : State} {a1 : BitVec 16} {s : State} (h : Kept m0 s0 s) : OutKept m0 s0 (execMdioComplete a1 s) := by
  unfold execMdioComplete
  split
  · refine done_kept ?_
    assumption
  · refine outKept_ite ?_ ?_
    · refine done_kept ?_
      assumption
    · lift_lets
      intro x0
      clear_value x0
      intro x1
      have hx1 : Kept m0 s0 (x1) := by
        unfold x1
        refine kept_mk ?_
        assumption
      clear_value x1
      intro x2
      have hx2 : Kept m0 s0 (x2) := by
        unfold x2
        refine State.iff_kept ?_ ?_
        · assumption
        · intro v3_0 v3_1
          refine State.set_kept ?_
          assumption
      clear_value x2
      refine done_kept ?_
      refine State.setB_kept ?_
      assumption

theorem State.bakeEnd_kept {m0 : May} {s0 s : State} {a2 : Nat} {a3 : Nat} {a4 : Nat} (h : Kept m0 s0 s) : Kept m0 s0 (State.bakeEnd s a2 a3 a4) := by
  unfold State.bakeEnd
  lift_lets
  intro x0
  have hx0 : Kept m0 s0 (x0) := by
    unfold x0
    refine State.iff_kept ?_ ?_
    · refine State.set_kept ?_
      assumption
    · intro v1_0 v1_1
      refine State.inc_kept ?_
      assumption
  clear_value x0
  refine State.event_kept ?_
  assumption

theorem State.bakeCmd_kept {m0 : Bool} {s0 s : State} {a2 : Requester} (h : Kept ⟨m0, true⟩ s0 s) : Kept ⟨m0, true⟩ s0 (State.bakeCmd s a2) := by
  unfold State.bakeCmd
  refine kept_ite ?_ ?_
  · assumption
  · lift_lets
    intro x0
    clear_value x0
    intro x1
    intro x2
    intro x3
    clear_value x3
    intro x4
    have hx4 : Kept ⟨m0, true⟩ s0 (x4) := by
      unfold x4
      refine State.set_kept ?_
      refine State.set_kept ?_
      assumption
    clear_value x4
    intro x5
    clear_value x5
    intro x6
    have hx6 : Kept ⟨m0, true⟩ s0 (x6) := by
      unfold x6
      refine State.set_kept ?_
      assumption
    clear_value x6
    intro x7
    clear_value x7
    intro x8
    clear_value x8
    intro x9
    have hx9 : Kept ⟨m0, true⟩ s0 (x9) := by
      unfold x9
      refine kept_mk ?_
      assumption
    clear_value x9
    refine kept_ite ?_ ?_
    · refine State.bakeEnd_kept ?_
      assumption
    · refine kept_ite ?_ ?_
      · refine State.bakeEnd_kept ?_
        assumption
      · refine State.nvmStore_kept ?_
        assumption

theorem execBake_kept {m0 : Bool} {s0 : State} {a1 : Requester} {s : State} (h : Kept ⟨m0, true⟩ s0 s) : OutKept ⟨m0, true⟩ s0 (execBake a1 s) := by
  unfold execBake
  refine done_kept ?_
  refine State.gateRole_kept ?_ ?_
  · assumption
  · intro v0_0 v0_1
    refine kept_ite ?_ ?_
    · assumption
    · refine State.iff_kept ?_ ?_
      · refine State.bakeCmd_kept ?_
        assumption
      · intro v1_0 v1_1
        refine State.mirrorCommand_kept ?_
        assumption

theorem State.bakeDone_kept {m0 : Bool} {s0 s : State} {a2 : Nat} {a3 : Nat} {a4 : KilnCopy} {a5 : Bool} (h : Kept ⟨m0, true⟩ s0 s) : Kept ⟨m0, true⟩ s0 (State.bakeDone s a2 a3 a4 a5) := by
  unfold State.bakeDone
  lift_lets
  intro x0
  intro x1
  clear_value x1
  intro x2
  have hx2 : Kept ⟨m0, true⟩ s0 (x2) := by
    unfold x2
    refine State.maxOf_kept ?_
    assumption
  clear_value x2
  intro x3
  clear_value x3
  intro x4
  have hx4 : Kept ⟨m0, true⟩ s0 (x4) := by
    unfold x4
    refine kept_mk ?_
    assumption
  clear_value x4
  intro x5
  have hx5 : Kept ⟨m0, true⟩ s0 (x5) := by
    unfold x5
    refine State.set_kept ?_
    assumption
  clear_value x5
  intro x6
  have hx6 : Kept ⟨m0, true⟩ s0 (x6) := by
    unfold x6
    refine State.nvmWrite_kept ?_
    assumption
  clear_value x6
  intro x7
  clear_value x7
  intro x8
  have hx8 : Kept ⟨m0, true⟩ s0 (x8) := by
    unfold x8
    refine kept_mk ?_
    assumption
  clear_value x8
  intro x9
  have hx9 : Kept ⟨m0, true⟩ s0 (x9) := by
    unfold x9
    refine State.nvmStore_kept ?_
    assumption
  clear_value x9
  intro x10
  clear_value x10
  intro x11
  clear_value x11
  intro x12
  have hx12 : Kept ⟨m0, true⟩ s0 (x12) := by
    unfold x12
    refine kept_mk ?_
    assumption
  clear_value x12
  intro x13
  have hx13 : Kept ⟨m0, true⟩ s0 (x13) := by
    unfold x13
    refine State.stamp_kept ?_
    refine State.set_kept ?_
    refine State.set_kept ?_
    assumption
  clear_value x13
  intro x14
  have hx14 : Kept ⟨m0, true⟩ s0 (x14) := by
    unfold x14
    refine State.inc_kept ?_
    refine State.set_kept ?_
    assumption
  clear_value x14
  refine kept_ite ?_ ?_
  · refine State.bakeEnd_kept ?_
    assumption
  · refine kept_ite ?_ ?_
    · refine State.bakeEnd_kept ?_
      assumption
    · refine State.settle_kept ?_
      refine State.bakeEnd_kept ?_
      assumption

theorem execBakeComplete_kept {m0 : Bool} {s0 : State} {a1 : Bool} {s : State} (h : Kept ⟨m0, true⟩ s0 s) : OutKept ⟨m0, true⟩ s0 (execBakeComplete a1 s) := by
  unfold execBakeComplete
  split
  · refine done_kept ?_
    assumption
  · refine outKept_ite ?_ ?_
    · refine done_kept ?_
      assumption
    · refine done_kept ?_
      refine State.bakeDone_kept ?_
      assumption

theorem execKlnNextLenUpdate_kept {m0 : May} {s0 s : State} (h : Kept m0 s0 s) : OutKept m0 s0 (execKlnNextLenUpdate s) := by
  unfold execKlnNextLenUpdate
  refine outKept_ite ?_ ?_
  · refine done_kept ?_
    refine State.set_kept ?_
    assumption
  · refine done_kept ?_
    assumption

theorem State.wipeCmd_kept {m0 : May} {s0 s : State} {a2 : Word} (h : Kept m0 s0 s) : Kept m0 s0 (State.wipeCmd s a2) := by
  unfold State.wipeCmd
  refine kept_ite ?_ ?_
  · assumption
  · lift_lets
    intro x0
    clear_value x0
    intro x1
    have hx1 : Kept m0 s0 (x1) := by
      unfold x1
      refine State.set_kept ?_
      refine State.set_kept ?_
      assumption
    clear_value x1
    intro x2
    clear_value x2
    refine kept_ite ?_ ?_
    · refine State.event_kept ?_
      refine State.set_kept ?_
      assumption
    · refine State.wdgSuspend_kept ?_
      refine kept_mk ?_
      assumption

theorem execWipe_kept {m0 : May} {s0 : State} {a1 : Requester} {a2 : Word} {s : State} (h : Kept m0 s0 s) : OutKept m0 s0 (execWipe a1 a2 s) := by
  unfold execWipe
  refine done_kept ?_
  refine State.gateRole_kept ?_ ?_
  · assumption
  · intro v0_0 v0_1
    refine State.wipeCmd_kept ?_
    assumption

theorem State.nvmClear_kept {m0 : Bool} {s0 s : State} {a2 : Nat} {a3 : Nat} (h : Kept ⟨m0, true⟩ s0 s) : Kept ⟨m0, true⟩ s0 (State.nvmClear s a2 a3) := kept_filter h

theorem State.kilnWiped_kept {m0 : May} {s0 s : State} {a2 : Nat} (h : Kept m0 s0 s) : Kept m0 s0 (State.kilnWiped s a2) := by
  unfold State.kilnWiped
  refine kept_ite ?_ ?_
  · assumption
  · lift_lets
    intro x0
    intro x1
    clear_value x1
    intro x2
    clear_value x2
    intro x3
    clear_value x3
    refine kept_mk ?_
    assumption

theorem State.sectorWiped_kept {m0 : Bool} {s0 s : State} {a2 : Nat} (h : Kept ⟨m0, true⟩ s0 s) : Kept ⟨m0, true⟩ s0 (State.sectorWiped s a2) := by
  unfold State.sectorWiped
  lift_lets
  intro x0
  have hx0 : Kept ⟨m0, true⟩ s0 (x0) := by
    unfold x0
    refine State.kilnWiped_kept ?_
    refine State.nvmClear_kept ?_
    assumption
  clear_value x0
  intro x1
  clear_value x1
  intro x2
  have hx2 : Kept ⟨m0, true⟩ s0 (x2) := by
    unfold x2
    refine kept_mk ?_
    assumption
  clear_value x2
  intro x3
  clear_value x3
  intro x4
  have hx4 : Kept ⟨m0, true⟩ s0 (x4) := by
    unfold x4
    refine kept_mk ?_
    assumption
  clear_value x4
  refine State.set_kept ?_
  assumption

theorem execWipeComplete_kept {m0 : Bool} {s0 s : State} (h : Kept ⟨m0, true⟩ s0 s) : OutKept ⟨m0, true⟩ s0 (execWipeComplete s) := by
  unfold execWipeComplete
  split
  · refine done_kept ?_
    assumption
  · lift_lets
    intro x0
    clear_value x0
    intro x1
    have hx1 : Kept ⟨m0, true⟩ s0 (x1) := by
      unfold x1
      refine kept_mk ?_
      assumption
    clear_value x1
    intro x2
    have hx2 : Kept ⟨m0, true⟩ s0 (x2) := by
      unfold x2
      refine State.set_kept ?_
      refine State.sectorWiped_kept ?_
      assumption
    clear_value x2
    intro x3
    have hx3 : Kept ⟨m0, true⟩ s0 (x3) := by
      unfold x3
      refine State.set_kept ?_
      assumption
    clear_value x3
    refine done_kept ?_
    refine State.settle_kept ?_
    refine State.wdgResume_kept ?_
    assumption

theorem State.nvmFound_kept {m0 : May} {s0 s : State} {a2 : Nat} {a3 : WordError} (h : Kept m0 s0 s) : Kept m0 s0 (State.nvmFound s a2 a3) := by
  unfold State.nvmFound
  split
  · assumption
  · lift_lets
    intro x0
    have hx0 : Kept m0 s0 (x0) := by
      unfold x0
      refine State.inc_kept ?_
      refine State.inc_kept ?_
      assumption
    clear_value x0
    intro x1
    clear_value x1
    refine kept_mk ?_
    assumption
  · lift_lets
    intro x2
    have hx2 : Kept m0 s0 (x2) := by
      unfold x2
      refine State.setB_kept ?_
      refine State.set_kept ?_
      refine State.inc_kept ?_
      assumption
    clear_value x2
    intro x3
    clear_value x3
    intro x4
    have hx4 : Kept m0 s0 (x4) := by
      unfold x4
      refine kept_mk ?_
      assumption
    clear_value x4
    refine State.settle_kept ?_
    refine State.detect_kept ?_
    assumption

theorem execEccCorrectRewrite_kept {m0 : Bool} {s0 s : State} (h : Kept ⟨m0, true⟩ s0 s) : OutKept ⟨m0, true⟩ s0 (execEccCorrectRewrite s) := by
  unfold execEccCorrectRewrite
  split
  · refine done_kept ?_
    assumption
  · refine outKept_ite ?_ ?_
    · refine done_kept ?_
      assumption
    · refine done_kept ?_
      refine State.nvmStore_kept ?_
      refine kept_mk ?_
      assumption

theorem execTillingVisit_kept {m0 : Bool} {s0 : State} {a1 : WordError} {s : State} (h : Kept ⟨m0, true⟩ s0 s) : OutKept ⟨m0, true⟩ s0 (execTillingVisit a1 s) := by
  unfold execTillingVisit
  lift_lets
  intro x0
  clear_value x0
  intro x1
  have hx1 : Kept ⟨m0, true⟩ s0 (x1) := by
    unfold x1
    split
    · assumption
    · refine State.inc_kept ?_
      refine State.inc_kept ?_
      assumption
    · refine State.nvmFound_kept ?_
      assumption
  clear_value x1
  intro x2
  have hx2 : Kept ⟨m0, true⟩ s0 (x2) := by
    unfold x2
    refine kept_ite ?_ ?_
    · assumption
    · split
      · assumption
      · refine State.nvmStore_kept ?_
        assumption
  clear_value x2
  intro x3
  clear_value x3
  intro x4
  have hx4 : Kept ⟨m0, true⟩ s0 (x4) := by
    unfold x4
    refine State.iff_kept ?_ ?_
    · assumption
    · intro v5_0 v5_1
      refine State.inc_kept ?_
      assumption
  clear_value x4
  intro x6
  have hx6 : Kept ⟨m0, true⟩ s0 (x6) := by
    unfold x6
    refine State.set_kept ?_
    assumption
  clear_value x6
  intro x7
  clear_value x7
  intro x8
  clear_value x8
  intro x9
  clear_value x9
  refine outKept_ite ?_ ?_
  · refine done_kept ?_
    assumption
  · refine done_kept ?_
    refine kept_mk ?_
    assumption

theorem State.nvmTick_kept {m0 : Bool} {s0 s : State} (h : Kept ⟨m0, true⟩ s0 s) : Kept ⟨m0, true⟩ s0 (State.nvmTick s) := by
  unfold State.nvmTick
  refine kept_ite ?_ ?_
  · refine kept_mk ?_
    assumption
  · refine State.countersTick_kept ?_
    assumption

theorem State.showSelector_kept {m0 : May} {s0 s : State} (h : Kept m0 s0 s) : Kept m0 s0 (State.showSelector s) := by
  unfold State.showSelector
  lift_lets
  intro x0
  clear_value x0
  intro x1
  have hx1 : Kept m0 s0 (x1) := by
    unfold x1
    refine State.updChange_kept ?_ ?_
    · assumption
    · intro v2_0 v2_1
      refine State.set_kept ?_
      refine State.set_kept ?_
      assumption
  clear_value x1
  refine State.set_kept ?_
  assumption

theorem State.writeSelector_kept {m0 : Bool} {s0 s : State} {a2 : Selector} (h : Kept ⟨m0, true⟩ s0 s) : Kept ⟨m0, true⟩ s0 (State.writeSelector s a2) := by
  unfold State.writeSelector
  lift_lets
  intro x0
  clear_value x0
  refine State.showSelector_kept ?_
  refine State.countersWrite_kept ?_
  assumption

theorem State.showParts_kept {m0 : May} {s0 s : State} {a2 : Manifest} {a3 : Nat} (h : Kept m0 s0 s) : Kept m0 s0 (State.showParts s a2 a3) := by
  unfold State.showParts
  refine State.each_kept ?_ ?_
  · assumption
  · intro v0_0 v0_1 v0_2
    split
    · refine State.set_kept ?_
      refine State.set_kept ?_
      refine State.set_kept ?_
      refine State.set_kept ?_
      assumption
    · refine State.set_kept ?_
      refine State.set_kept ?_
      refine State.set_kept ?_
      refine State.set_kept ?_
      assumption

theorem State.tryFull_kept {m0 : May} {s0 s : State} (h : Kept m0 s0 s) : Kept m0 s0 (State.tryFull s) := by
  unfold State.tryFull
  refine kept_ite ?_ ?_
  · lift_lets
    intro x0
    clear_value x0
    intro x1
    clear_value x1
    intro x2
    have hx2 : Kept m0 s0 (x2) := by
      unfold x2
      refine kept_mk ?_
      assumption
    clear_value x2
    refine State.settle_kept ?_
    refine State.ethShowAll_kept ?_
    refine State.setBit_kept ?_
    refine State.stamp_kept ?_
    assumption
  · assumption

theorem State.toGreenware_kept {m0 : May} {s0 s : State} (h : Kept m0 s0 s) : Kept m0 s0 (State.toGreenware s) := by
  unfold State.toGreenware
  refine kept_ite ?_ ?_
  · assumption
  · lift_lets
    intro x0
    clear_value x0
    intro x1
    have hx1 : Kept m0 s0 (x1) := by
      unfold x1
      refine State.tuneAbort_kept ?_
      assumption
    clear_value x1
    intro x2
    clear_value x2
    intro x3
    clear_value x3
    intro x4
    have hx4 : Kept m0 s0 (x4) := by
      unfold x4
      refine kept_mk ?_
      assumption
    clear_value x4
    refine State.settle_kept ?_
    refine State.ethShowAll_kept ?_
    refine State.batGreenware_kept ?_
    refine State.inc_kept ?_
    assumption

theorem State.coresStop_kept {m0 : May} {s0 s : State} (h : Kept m0 s0 s) : Kept m0 s0 (State.coresStop s) := by
  unfold State.coresStop
  lift_lets
  intro x0
  intro x1
  have hx1 : Kept m0 s0 (x1) := by
    unfold x1
    refine kept_mk ?_
    assumption
  clear_value x1
  intro x2
  clear_value x2
  intro x3
  have hx3 : Kept m0 s0 (x3) := by
    unfold x3
    refine kept_mk ?_
    assumption
  clear_value x3
  intro x4
  have hx4 : Kept m0 s0 (x4) := by
    unfold x4
    refine State.set_kept ?_
    assumption
  clear_value x4
  refine State.toGreenware_kept ?_
  refine State.closePrax_kept ?_
  assumption

theorem State.checkBegin_kept {m0 : May} {s0 s : State} {a2 : Nat} {a3 : Bool} (h : Kept m0 s0 s) : Kept m0 s0 (State.checkBegin s a2 a3) := by
  unfold State.checkBegin
  lift_lets
  intro x0
  have hx0 : Kept m0 s0 (x0) := by
    unfold x0
    refine State.setBit_kept ?_
    refine State.set_kept ?_
    assumption
  clear_value x0
  intro x1
  refine kept_mk ?_
  assumption

theorem State.bootCommitted_kept {m0 : May} {s0 s : State} (h : Kept m0 s0 s) : Kept m0 s0 (State.bootCommitted s) := by
  unfold State.bootCommitted
  refine kept_ite ?_ ?_
  · refine State.checkBegin_kept ?_
    assumption
  · assumption

theorem State.revertEnd_kept {m0 : Bool} {s0 s : State} (h : Kept ⟨m0, true⟩ s0 s) : Kept ⟨m0, true⟩ s0 (State.revertEnd s) := by
  unfold State.revertEnd
  split
  · assumption
  · lift_lets
    intro x0
    clear_value x0
    intro x1
    have hx1 : Kept ⟨m0, true⟩ s0 (x1) := by
      unfold x1
      refine State.writeSelector_kept ?_
      assumption
    clear_value x1
    intro x2
    clear_value x2
    intro x3
    have hx3 : Kept ⟨m0, true⟩ s0 (x3) := by
      unfold x3
      refine kept_mk ?_
      assumption
    clear_value x3
    intro x4
    have hx4 : Kept ⟨m0, true⟩ s0 (x4) := by
      unfold x4
      refine State.iff_kept ?_ ?_
      · assumption
      · intro v5_0 v5_1
        refine State.set_kept ?_
        assumption
    clear_value x4
    intro x6
    have hx6 : Kept ⟨m0, true⟩ s0 (x6) := by
      unfold x6
      refine State.set_kept ?_
      refine State.set_kept ?_
      refine State.set_kept ?_
      refine State.set_kept ?_
      assumption
    clear_value x6
    intro x7
    have hx7 : Kept ⟨m0, true⟩ s0 (x7) := by
      unfold x7
      refine State.setB_kept ?_
      refine State.inc_kept ?_
      assumption
    clear_value x7
    intro x8
    have hx8 : Kept ⟨m0, true⟩ s0 (x8) := by
      unfold x8
      refine State.event_kept ?_
      refine State.updEnter_kept ?_
      assumption
    clear_value x8
    refine State.bootCommitted_kept ?_
    refine State.coresStop_kept ?_
    refine State.inc_kept ?_
    assumption

theorem State.revertBegin_kept {m0 : Bool} {s0 s : State} {a2 : Nat} {a3 : Nat} (h : Kept ⟨m0, true⟩ s0 s) : Kept ⟨m0, true⟩ s0 (State.revertBegin s a2 a3) := by
  unfold State.revertBegin
  refine kept_ite ?_ ?_
  · assumption
  · lift_lets
    intro x0
    clear_value x0
    intro x1
    clear_value x1
    intro x2
    have hx2 : Kept ⟨m0, true⟩ s0 (x2) := by
      unfold x2
      refine kept_mk ?_
      assumption
    clear_value x2
    intro x3
    have hx3 : Kept ⟨m0, true⟩ s0 (x3) := by
      unfold x3
      refine State.updEnter_kept ?_
      assumption
    clear_value x3
    refine kept_ite ?_ ?_
    · assumption
    · refine State.revertEnd_kept ?_
      assumption

theorem State.bootStart_kept {m0 : Bool} {s0 s : State} (h : Kept ⟨m0, true⟩ s0 s) : Kept ⟨m0, true⟩ s0 (State.bootStart s) := by
  unfold State.bootStart
  refine kept_ite ?_ ?_
  · assumption
  · lift_lets
    intro x0
    clear_value x0
    intro x1
    clear_value x1
    intro x2
    have hx2 : Kept ⟨m0, true⟩ s0 (x2) := by
      unfold x2
      refine State.writeSelector_kept ?_
      assumption
    clear_value x2
    intro x3
    have hx3 : Kept ⟨m0, true⟩ s0 (x3) := by
      unfold x3
      refine State.set_kept ?_
      refine State.set_kept ?_
      assumption
    clear_value x3
    intro x4
    have hx4 : Kept ⟨m0, true⟩ s0 (x4) := by
      unfold x4
      refine State.iff_kept ?_ ?_
      · assumption
      · intro v5_0 v5_1
        lift_lets
        intro x6
        clear_value x6
        refine State.showParts_kept ?_
        refine kept_mk ?_
        assumption
    clear_value x4
    refine kept_ite ?_ ?_
    · refine State.checkBegin_kept ?_
      assumption
    · refine kept_ite ?_ ?_
      · refine State.revertBegin_kept ?_
        assumption
      · refine State.checkBegin_kept ?_
        refine State.updEnter_kept ?_
        assumption

theorem State.coreRestart_kept {m0 : Bool} {s0 s : State} (h : Kept ⟨m0, true⟩ s0 s) : Kept ⟨m0, true⟩ s0 (State.coreRestart s) := by
  unfold State.coreRestart
  refine kept_ite ?_ ?_
  · assumption
  · refine State.bootStart_kept ?_
    refine State.coresStop_kept ?_
    refine State.inc_kept ?_
    assumption

theorem State.restartCmd_kept {m0 : Bool} {s0 s : State} {a2 : Word} (h : Kept ⟨m0, true⟩ s0 s) : Kept ⟨m0, true⟩ s0 (State.restartCmd s a2) := by
  unfold State.restartCmd
  refine kept_ite ?_ ?_
  · assumption
  · refine kept_ite ?_ ?_
    · refine State.settle_kept ?_
      refine State.coreRestart_kept ?_
      assumption
    · refine State.event_kept ?_
      assumption

theorem execCoreRestart_kept {m0 : Bool} {s0 : State} {a1 : Requester} {a2 : Word} {s : State} (h : Kept ⟨m0, true⟩ s0 s) : OutKept ⟨m0, true⟩ s0 (execCoreRestart a1 a2 s) := by
  unfold execCoreRestart
  refine done_kept ?_
  refine State.gateRole_kept ?_ ?_
  · assumption
  · intro v0_0 v0_1
    refine State.restartCmd_kept ?_
    assumption

theorem State.firmwareStart_kept {m0 : Bool} {s0 s : State} {a2 : Nat} (h : Kept ⟨m0, true⟩ s0 s) : Kept ⟨m0, true⟩ s0 (State.firmwareStart s a2) := by
  unfold State.firmwareStart
  lift_lets
  intro x0
  have hx0 : Kept ⟨m0, true⟩ s0 (x0) := by
    unfold x0
    refine State.set_kept ?_
    refine State.setBit_kept ?_
    assumption
  clear_value x0
  intro x1
  have hx1 : Kept ⟨m0, true⟩ s0 (x1) := by
    unfold x1
    refine State.setB_kept ?_
    refine State.setB_kept ?_
    assumption
  clear_value x1
  intro x2
  intro x3
  have hx3 : Kept ⟨m0, true⟩ s0 (x3) := by
    unfold x3
    refine kept_mk ?_
    assumption
  clear_value x3
  intro x4
  have hx4 : Kept ⟨m0, true⟩ s0 (x4) := by
    unfold x4
    refine State.ethShowAll_kept ?_
    refine State.setBit_kept ?_
    refine State.stamp_kept ?_
    assumption
  clear_value x4
  refine State.settle_kept ?_
  refine State.tryFull_kept ?_
  refine State.iff_kept ?_ ?_
  · assumption
  · intro v5_0 v5_1
    refine State.passStart_kept ?_
    assumption

theorem State.trialPass_kept {m0 : Bool} {s0 s : State} {a2 : Manifest} {a3 : Nat} (h : Kept ⟨m0, true⟩ s0 s) : Kept ⟨m0, true⟩ s0 (State.trialPass s a2 a3) := by
  unfold State.trialPass
  lift_lets
  intro x0
  have hx0 : Kept ⟨m0, true⟩ s0 (x0) := by
    unfold x0
    refine State.each_kept ?_ ?_
    · assumption
    · intro v1_0 v1_1 v1_2
      refine State.iff_kept ?_ ?_
      · assumption
      · intro v2_0 v2_1
        refine State.set_kept ?_
        assumption
  clear_value x0
  intro x3
  clear_value x3
  intro x4
  have hx4 : Kept ⟨m0, true⟩ s0 (x4) := by
    unfold x4
    refine kept_mk ?_
    assumption
  clear_value x4
  refine State.firmwareStart_kept ?_
  refine State.updEnter_kept ?_
  assumption

theorem execBootCheckComplete_kept {m0 : Bool} {s0 : State} {a1 : Bool} {a2 : Unit} {s : State} (h : Kept ⟨m0, true⟩ s0 s) : OutKept ⟨m0, true⟩ s0 (execBootCheckComplete a1 a2 s) := by
  unfold execBootCheckComplete
  split
  · refine done_kept ?_
    assumption
  · lift_lets
    intro x0
    intro x1
    have hx1 : Kept ⟨m0, true⟩ s0 (x1) := by
      unfold x1
      refine kept_mk ?_
      assumption
    clear_value x1
    intro x2
    have hx2 : Kept ⟨m0, true⟩ s0 (x2) := by
      unfold x2
      refine State.set_kept ?_
      assumption
    clear_value x2
    intro x3
    clear_value x3
    intro x4
    have hx4 : Kept ⟨m0, true⟩ s0 (x4) := by
      unfold x4
      refine State.event_kept ?_
      assumption
    clear_value x4
    refine outKept_ite ?_ ?_
    · split
      · refine done_kept ?_
        refine State.trialPass_kept ?_
        assumption
      · refine done_kept ?_
        refine State.settle_kept ?_
        refine State.revertBegin_kept ?_
        refine State.event_kept ?_
        assumption
    · refine outKept_ite ?_ ?_
      · refine done_kept ?_
        refine State.firmwareStart_kept ?_
        assumption
      · refine outKept_ite ?_ ?_
        · refine done_kept ?_
          refine State.settle_kept ?_
          refine State.checkBegin_kept ?_
          assumption
        · refine done_kept ?_
          refine State.settle_kept ?_
          refine State.setB_kept ?_
          refine State.setB_kept ?_
          assumption

theorem State.resetAssert_kept {m0 : Bool} {s0 s : State} (h : Kept ⟨m0, true⟩ s0 s) : Kept ⟨m0, true⟩ s0 (State.resetAssert s) := by
  unfold State.resetAssert
  lift_lets
  intro x0
  intro x1
  have hx1 : Kept ⟨m0, true⟩ s0 (x1) := by
    unfold x1
    refine kept_mk ?_
    assumption
  clear_value x1
  intro x2
  refine kept_ite ?_ ?_
  · assumption
  · refine kept_ite ?_ ?_
    · refine State.settle_kept ?_
      refine State.coreRestart_kept ?_
      assumption
    · refine State.event_kept ?_
      refine kept_mk ?_
      assumption

theorem State.resetRelease_kept {m0 : Bool} {s0 s : State} (h : Kept ⟨m0, true⟩ s0 s) : Kept ⟨m0, true⟩ s0 (State.resetRelease s) := by
  unfold State.resetRelease
  lift_lets
  intro x0
  intro x1
  have hx1 : Kept ⟨m0, true⟩ s0 (x1) := by
    unfold x1
    refine kept_mk ?_
    assumption
  refine kept_ite ?_ ?_
  · refine State.settle_kept ?_
    refine State.bootStart_kept ?_
    unfold x1
    refine kept_mk ?_
    assumption
  · unfold x1
    refine kept_mk ?_
    assumption

theorem State.resetJudge_kept {m0 : Bool} {s0 s : State} (h : Kept ⟨m0, true⟩ s0 s) : Kept ⟨m0, true⟩ s0 (State.resetJudge s) := by
  unfold State.resetJudge
  refine kept_ite ?_ ?_
  · assumption
  · refine kept_ite ?_ ?_
    · refine State.resetAssert_kept ?_
      assumption
    · refine State.resetRelease_kept ?_
      assumption

theorem State.resetBall_kept {m0 : May} {s0 s : State} {a2 : Bool} (h : Kept m0 s0 s) : Kept m0 s0 (State.resetBall s a2) := by
  unfold State.resetBall
  lift_lets
  intro x0
  clear_value x0
  intro x1
  clear_value x1
  refine kept_ite ?_ ?_
  · assumption
  · refine kept_mk ?_
    assumption

theorem execResetInAssert_kept {m0 : Bool} {s0 s : State} (h : Kept ⟨m0, true⟩ s0 s) : OutKept ⟨m0, true⟩ s0 (execResetInAssert s) := by
  unfold execResetInAssert
  refine done_kept ?_
  refine State.resetJudge_kept ?_
  refine State.resetBall_kept ?_
  assumption

theorem execResetInRelease_kept {m0 : Bool} {s0 s : State} (h : Kept ⟨m0, true⟩ s0 s) : OutKept ⟨m0, true⟩ s0 (execResetInRelease s) := by
  unfold execResetInRelease
  refine done_kept ?_
  refine State.resetJudge_kept ?_
  refine State.resetBall_kept ?_
  assumption

theorem State.calStart_kept {m0 : May} {s0 s : State} (h : Kept m0 s0 s) : Kept m0 s0 (State.calStart s) := by
  unfold State.calStart
  lift_lets
  intro x0
  have hx0 : Kept m0 s0 (x0) := by
    unfold x0
    refine State.inc_kept ?_
    refine State.setB_kept ?_
    assumption
  clear_value x0
  intro x1
  refine State.spareStart_kept ?_
  refine kept_mk ?_
  assumption

theorem State.calPass_kept {m0 : May} {s0 s : State} {a2 : Nat} {a3 : Vector (Int × Int) 15} (h : Kept m0 s0 s) : Kept m0 s0 (State.calPass s a2 a3) := by
  unfold State.calPass
  lift_lets
  intro x0
  have hx0 : Kept m0 s0 (x0) := by
    unfold x0
    refine State.set_kept ?_
    refine State.setB_kept ?_
    assumption
  clear_value x0
  intro x1
  have hx1 : Kept m0 s0 (x1) := by
    unfold x1
    refine State.setBit_kept ?_
    refine State.stamp_kept ?_
    refine State.setB_kept ?_
    assumption
  clear_value x1
  intro x2
  intro x3
  clear_value x3
  intro x4
  have hx4 : Kept m0 s0 (x4) := by
    unfold x4
    refine kept_mk ?_
    assumption
  clear_value x4
  refine State.settle_kept ?_
  refine State.tryFull_kept ?_
  assumption

theorem State.calFailed_kept {m0 : May} {s0 s : State} (h : Kept m0 s0 s) : Kept m0 s0 (State.calFailed s) := by
  unfold State.calFailed
  lift_lets
  intro x0
  have hx0 : Kept m0 s0 (x0) := by
    unfold x0
    refine State.event_kept ?_
    refine State.setB_kept ?_
    refine State.setB_kept ?_
    assumption
  clear_value x0
  intro x1
  refine kept_mk ?_
  assumption

theorem execCalAttemptComplete_kept {m0 : May} {s0 : State} {a1 : Option (Vector (Int × Int) 15)} {s : State} (h : Kept m0 s0 s) : OutKept m0 s0 (execCalAttemptComplete a1 s) := by
  unfold execCalAttemptComplete
  split
  · refine done_kept ?_
    assumption
  · lift_lets
    intro x0
    intro x1
    have hx1 : Kept m0 s0 (x1) := by
      unfold x1
      refine State.setB_kept ?_
      refine kept_mk ?_
      assumption
    clear_value x1
    refine done_kept ?_
    split
    · refine kept_ite ?_ ?_
      · refine State.calFailed_kept ?_
        assumption
      · refine State.calPass_kept ?_
        assumption
    · refine State.calFailed_kept ?_
      assumption

theorem execCalRetryTimer_kept {m0 : May} {s0 s : State} (h : Kept m0 s0 s) : OutKept m0 s0 (execCalRetryTimer s) := by
  unfold execCalRetryTimer
  refine outKept_ite ?_ ?_
  · refine done_kept ?_
    refine State.calStart_kept ?_
    assumption
  · refine done_kept ?_
    assumption

theorem State.calRetry_kept {m0 : May} {s0 s : State} (h : Kept m0 s0 s) : Kept m0 s0 (State.calRetry s) := by
  unfold State.calRetry
  refine kept_ite ?_ ?_
  · refine State.calStart_kept ?_
    assumption
  · assumption

theorem execCalRetryCmd_kept {m0 : May} {s0 : State} {a1 : Requester} {s : State} (h : Kept m0 s0 s) : OutKept m0 s0 (execCalRetryCmd a1 s) := by
  unfold execCalRetryCmd
  refine done_kept ?_
  refine State.gate_kept ?_ ?_
  · assumption
  · intro v0_0 v0_1
    refine State.calRetry_kept ?_
    assumption

end Sys2Proof.Machine
end

