-- ==== Sys2Proof/Laws/KeptLate.lean ====
section
/-! SUPPORT. What every operation keeps: the update, the safe state, the writes, the pair, the witness, start-up, access. -/

namespace Sys2Proof.Machine

set_option linter.unusedVariables false
set_option Elab.async false

theorem State.setCport_kept {m0 : May} {s0 s : State} {a2 : Fin 2} {a3 : ChainPort} (h : Kept m0 s0 s) : Kept m0 s0 (State.setCport s a2 a3) := by
  unfold State.setCport
  refine State.set_kept ?_
  refine kept_mk ?_
  assumption

theorem State.blockOut_kept {m0 : May} {s0 s : State} {a2 : Fin 2} {a3 : Nat} {a4 : Bool} (h : Kept m0 s0 s) : Kept m0 s0 (State.blockOut s a2 a3 a4) := by
  unfold State.blockOut
  lift_lets
  intro x0
  have hx0 : Kept m0 s0 (x0) := by
    unfold x0
    refine State.iff_kept ?_ ?_
    · refine State.inc_kept ?_
      assumption
    · intro v1_0 v1_1
      refine State.inc_kept ?_
      assumption
  clear_value x0
  refine State.chainSend_kept ?_
  assumption

theorem State.pump_kept {m0 : May} {s0 : State} {a2 : Fin 2} {a3 : Nat} : ∀ {s : State} (h : Kept m0 s0 s), Kept m0 s0 (State.pump s a2 a3) := by
  induction a3 with
  | zero => intro s h; exact h
  | succ k ih =>
    intro s h
    unfold State.pump
    dsimp only
    split
    · exact h
    · exact kept_ite h (ih (State.blockOut_kept (State.setCport_kept h)))

theorem State.pumpAll_kept {m0 : May} {s0 s : State} {a2 : Fin 2} (h : Kept m0 s0 s) : Kept m0 s0 (State.pumpAll s a2) := by
  unfold State.pumpAll
  refine State.pump_kept ?_
  assumption

theorem State.resendAll_kept {m0 : May} {s0 s : State} {a2 : Fin 2} (h : Kept m0 s0 s) : Kept m0 s0 (State.resendAll s a2) := by
  unfold State.resendAll
  lift_lets
  intro x0
  clear_value x0
  intro x1
  have hx1 : Kept m0 s0 (x1) := by
    unfold x1
    refine State.each_kept ?_ ?_
    · assumption
    · intro v2_0 v2_1 v2_2
      refine State.blockOut_kept ?_
      assumption
  clear_value x1
  refine State.setCport_kept ?_
  assumption

theorem State.chainDown_kept {m0 : May} {s0 s : State} {a2 : Fin 2} (h : Kept m0 s0 s) : Kept m0 s0 (State.chainDown s a2) := by
  unfold State.chainDown
  refine State.inc_kept ?_
  refine State.setB_kept ?_
  refine State.setB_kept ?_
  assumption

theorem State.chainFrame_kept {m0 : May} {s0 s : State} {a2 : ChainHead} {a3 : State → State} (h : Kept m0 s0 s) (ha3 : ∀ b0, Kept m0 s0 b0 → Kept m0 s0 (a3 b0)) : Kept m0 s0 (State.chainFrame s a2 a3) := by
  unfold State.chainFrame
  refine kept_ite ?_ ?_
  · assumption
  · refine kept_ite ?_ ?_
    · refine State.inc_kept ?_
      assumption
    · refine ha3 _ ?_
      refine State.incWrap_kept ?_
      assumption

theorem State.helloRx_kept {m0 : May} {s0 s : State} {a2 : Fin 2} {a3 : BitVec 64} {a4 : Fin 8} {a5 : Fin 16} {a6 : Bool} (h : Kept m0 s0 s) : Kept m0 s0 (State.helloRx s a2 a3 a4 a5 a6) := by
  unfold State.helloRx
  lift_lets
  intro x0
  have hx0 : Kept m0 s0 (x0) := by
    unfold x0
    refine State.set_kept ?_
    refine State.set_kept ?_
    assumption
  clear_value x0
  intro x1
  have hx1 : Kept m0 s0 (x1) := by
    unfold x1
    refine State.set_kept ?_
    refine State.set_kept ?_
    assumption
  clear_value x1
  intro x2
  clear_value x2
  intro x3
  have hx3 : Kept m0 s0 (x3) := by
    unfold x3
    refine State.setCport_kept ?_
    assumption
  clear_value x3
  intro x4
  have hx4 : Kept m0 s0 (x4) := by
    unfold x4
    refine State.setB_kept ?_
    refine State.setB_kept ?_
    assumption
  clear_value x4
  refine kept_ite ?_ ?_
  · assumption
  · refine State.pumpAll_kept ?_
    refine State.resendAll_kept ?_
    assumption

theorem execChainHello_kept {m0 : May} {s0 : State} {a1 : ChainHead} {a2 : BitVec 64} {a3 : Fin 8} {a4 : Fin 16} {a5 : Bool} {s : State} (h : Kept m0 s0 s) : OutKept m0 s0 (execChainHello a1 a2 a3 a4 a5 s) := by
  unfold execChainHello
  refine done_kept ?_
  refine State.chainFrame_kept ?_ ?_
  · assumption
  · intro v0_0 v0_1
    refine State.helloRx_kept ?_
    assumption

theorem execChainStatus_kept {m0 : May} {s0 : State} {a1 : ChainHead} {a2 : List Byte} {s : State} (h : Kept m0 s0 s) : OutKept m0 s0 (execChainStatus a1 a2 s) := by
  unfold execChainStatus
  refine done_kept ?_
  refine State.chainFrame_kept ?_ ?_
  · assumption
  · intro v0_0 v0_1
    refine kept_ite ?_ ?_
    · refine State.chainSend_kept ?_
      assumption
    · assumption

theorem execHelloSend_kept {m0 : May} {s0 s : State} (h : Kept m0 s0 s) : OutKept m0 s0 (execHelloSend s) := by
  unfold execHelloSend
  refine outKept_ite ?_ ?_
  · lift_lets
    intro x0
    have hx0 : Kept m0 s0 (x0) := by
      unfold x0
      refine State.each_kept ?_ ?_
      · assumption
      · intro v1_0 v1_1 v1_2
        refine State.chainSend_kept ?_
        assumption
    clear_value x0
    intro x2
    clear_value x2
    refine done_kept ?_
    refine kept_mk ?_
    assumption
  · refine done_kept ?_
    assumption

theorem execChainPortTimeout_kept {m0 : May} {s0 : State} {a1 : Fin 2} {a2 : Nat} {s : State} (h : Kept m0 s0 s) : OutKept m0 s0 (execChainPortTimeout a1 a2 s) := by
  unfold execChainPortTimeout
  refine outKept_ite ?_ ?_
  · refine done_kept ?_
    assumption
  · lift_lets
    intro x0
    clear_value x0
    intro x1
    clear_value x1
    intro x2
    clear_value x2
    intro x3
    have hx3 : Kept m0 s0 (x3) := by
      unfold x3
      refine State.setCport_kept ?_
      refine State.addSat_kept ?_
      assumption
    clear_value x3
    refine outKept_ite ?_ ?_
    · refine done_kept ?_
      refine State.chainDown_kept ?_
      assumption
    · refine done_kept ?_
      assumption

theorem execResetLink_kept {m0 : May} {s0 : State} {a1 : Requester} {a2 : Word} {s : State} (h : Kept m0 s0 s) : OutKept m0 s0 (execResetLink a1 a2 s) := by
  unfold execResetLink
  refine done_kept ?_
  refine State.gate_kept ?_ ?_
  · assumption
  · intro v0_0 v0_1
    lift_lets
    intro x1
    clear_value x1
    refine kept_ite ?_ ?_
    · refine State.chainDown_kept ?_
      assumption
    · assumption

theorem State.activate_kept {m0 : Bool} {s0 s : State} (h : Kept ⟨m0, true⟩ s0 s) : Kept ⟨m0, true⟩ s0 (State.activate s) := by
  unfold State.activate
  refine kept_ite ?_ ?_
  · lift_lets
    intro x0
    clear_value x0
    intro x1
    have hx1 : Kept ⟨m0, true⟩ s0 (x1) := by
      unfold x1
      refine State.writeSelector_kept ?_
      assumption
    clear_value x1
    intro x2
    clear_value x2
    intro x3
    have hx3 : Kept ⟨m0, true⟩ s0 (x3) := by
      unfold x3
      refine kept_mk ?_
      assumption
    clear_value x3
    refine State.settle_kept ?_
    refine State.coreRestart_kept ?_
    refine State.updEnter_kept ?_
    assumption
  · refine State.event_kept ?_
    assumption

theorem execUpdActivate_kept {m0 : Bool} {s0 : State} {a1 : Requester} {s : State} (h : Kept ⟨m0, true⟩ s0 s) : OutKept ⟨m0, true⟩ s0 (execUpdActivate a1 s) := by
  unfold execUpdActivate
  refine done_kept ?_
  refine State.gate_kept ?_ ?_
  · assumption
  · intro v0_0 v0_1
    refine State.activate_kept ?_
    assumption

theorem State.stagedCheck_kept {m0 : Bool} {s0 s : State} {a2 : Manifest} (h : Kept ⟨m0, true⟩ s0 s) : Kept ⟨m0, true⟩ s0 (State.stagedCheck s a2) := by
  unfold State.stagedCheck
  refine kept_ite ?_ ?_
  · lift_lets
    intro x0
    have hx0 : Kept ⟨m0, true⟩ s0 (x0) := by
      unfold x0
      refine State.updEnter_kept ?_
      assumption
    clear_value x0
    refine State.iff_kept ?_ ?_
    · assumption
    · intro v1_0 v1_1
      refine State.activate_kept ?_
      assumption
  · assumption

theorem State.blockStore_kept {m0 : Bool} {s0 s : State} {a2 : Manifest} {a3 : Nat} {a4 : Nat} {a5 : List Byte} (h : Kept ⟨m0, true⟩ s0 s) : Kept ⟨m0, true⟩ s0 (State.blockStore s a2 a3 a4 a5) := by
  unfold State.blockStore
  lift_lets
  intro x y z
  have hz : Kept ⟨m0, true⟩ s0 (z.set CHN_BLOCKS_STORED z.upd.stored.length) := State.set_kept (kept_mk (State.nvmWrite_kept h))
  dsimp only
  split
  · exact kept_ite hz (State.iff_kept (State.inc_kept hz) (fun _ h => State.set_kept h))
  · exact hz

theorem State.nak_kept {m0 : May} {s0 s : State} {a2 : ChainHead} {a3 : Nat} (h : Kept m0 s0 s) : Kept m0 s0 (State.nak s a2 a3) := by
  unfold State.nak
  refine State.chainSend_kept ?_
  refine State.set_kept ?_
  refine State.inc_kept ?_
  assumption

theorem State.ack_kept {m0 : May} {s0 s : State} {a2 : ChainHead} (h : Kept m0 s0 s) : Kept m0 s0 (State.ack s a2) := by
  unfold State.ack
  refine State.chainSend_kept ?_
  assumption

theorem State.forward_kept {m0 : May} {s0 s : State} {a2 : ChainHead} {a3 : List Byte} {a4 : Bool} (h : Kept m0 s0 s) : Kept m0 s0 (State.forward s a2 a3 a4) := by
  unfold State.forward
  lift_lets
  intro x0
  clear_value x0
  intro x1
  clear_value x1
  intro x2
  clear_value x2
  intro x3
  have hx3 : Kept m0 s0 (x3) := by
    unfold x3
    refine State.setCport_kept ?_
    assumption
  clear_value x3
  refine kept_ite ?_ ?_
  · refine State.chainSend_kept ?_
    refine State.inc_kept ?_
    assumption
  · refine kept_ite ?_ ?_
    · refine State.pumpAll_kept ?_
      refine State.setCport_kept ?_
      assumption
    · assumption

theorem State.imageBegin_kept {m0 : Bool} {s0 s : State} {a2 : ChainHead} {a3 : List Byte} (h : Kept ⟨m0, true⟩ s0 s) : Kept ⟨m0, true⟩ s0 (State.imageBegin s a2 a3) := by
  unfold State.imageBegin
  lift_lets
  intro x0
  clear_value x0
  intro x1
  have hx1 : Kept ⟨m0, true⟩ s0 (x1) := by
    unfold x1
    refine State.set_kept ?_
    refine State.set_kept ?_
    refine State.set_kept ?_
    assumption
  clear_value x1
  intro x2
  have hx2 : Kept ⟨m0, true⟩ s0 (x2) := by
    unfold x2
    refine State.set_kept ?_
    refine State.set_kept ?_
    refine State.set_kept ?_
    assumption
  clear_value x2
  intro x3
  clear_value x3
  intro x4
  clear_value x4
  intro x5
  have hx5 : Kept ⟨m0, true⟩ s0 (x5) := by
    unfold x5
    refine kept_mk ?_
    assumption
  clear_value x5
  intro x6
  have hx6 : Kept ⟨m0, true⟩ s0 (x6) := by
    unfold x6
    refine State.each_kept ?_ ?_
    · assumption
    · intro v7_0 v7_1 v7_2
      lift_lets
      intro x8
      clear_value x8
      refine State.setCport_kept ?_
      assumption
  clear_value x6
  intro x9
  have hx9 : Kept ⟨m0, true⟩ s0 (x9) := by
    unfold x9
    refine State.setB_kept ?_
    refine State.showParts_kept ?_
    assumption
  clear_value x9
  intro x10
  have hx10 : Kept ⟨m0, true⟩ s0 (x10) := by
    unfold x10
    refine State.blockStore_kept ?_
    assumption
  clear_value x10
  intro x11
  have hx11 : Kept ⟨m0, true⟩ s0 (x11) := by
    unfold x11
    refine State.ack_kept ?_
    refine State.updEnter_kept ?_
    assumption
  clear_value x11
  refine State.stagedCheck_kept ?_
  refine State.forward_kept ?_
  assumption

theorem State.holdBlock_kept {m0 : May} {s0 s : State} {a2 : ChainHead} {a3 : List Byte} {a4 : Bool} (h : Kept m0 s0 s) : Kept m0 s0 (State.holdBlock s a2 a3 a4) := by
  unfold State.holdBlock
  refine kept_ite ?_ ?_
  · assumption
  · refine kept_mk ?_
    assumption

theorem State.blockZero_kept {m0 : Bool} {s0 s : State} {a2 : ChainHead} {a3 : List Byte} (h : Kept ⟨m0, true⟩ s0 s) : Kept ⟨m0, true⟩ s0 (State.blockZero s a2 a3) := by
  unfold State.blockZero
  lift_lets
  intro x0
  clear_value x0
  refine kept_ite ?_ ?_
  · refine State.nak_kept ?_
    assumption
  · refine kept_ite ?_ ?_
    · refine State.ack_kept ?_
      assumption
    · refine kept_ite ?_ ?_
      · refine State.event_kept ?_
        refine State.nak_kept ?_
        assumption
      · refine kept_ite ?_ ?_
        · refine State.nak_kept ?_
          assumption
        · refine kept_ite ?_ ?_
          · refine State.nak_kept ?_
            assumption
          · refine kept_ite ?_ ?_
            · refine State.holdBlock_kept ?_
              assumption
            · refine State.imageBegin_kept ?_
              assumption

theorem State.blockMore_kept {m0 : Bool} {s0 s : State} {a2 : ChainHead} {a3 : List Byte} {a4 : Bool} (h : Kept ⟨m0, true⟩ s0 s) : Kept ⟨m0, true⟩ s0 (State.blockMore s a2 a3 a4) := by
  unfold State.blockMore
  split
  · refine State.nak_kept ?_
    assumption
  · refine kept_ite ?_ ?_
    · refine State.nak_kept ?_
      assumption
    · refine kept_ite ?_ ?_
      · refine State.forward_kept ?_
        refine State.ack_kept ?_
        assumption
      · split
        · refine State.nak_kept ?_
          assumption
        · refine kept_ite ?_ ?_
          · refine State.holdBlock_kept ?_
            assumption
          · lift_lets
            intro x0
            have hx0 : Kept ⟨m0, true⟩ s0 (x0) := by
              unfold x0
              refine State.set_kept ?_
              refine State.blockStore_kept ?_
              assumption
            clear_value x0
            refine State.stagedCheck_kept ?_
            refine State.forward_kept ?_
            refine State.ack_kept ?_
            assumption

theorem State.blockTake_kept {m0 : Bool} {s0 s : State} {a2 : ChainHead} {a3 : List Byte} {a4 : Bool} (h : Kept ⟨m0, true⟩ s0 s) : Kept ⟨m0, true⟩ s0 (State.blockTake s a2 a3 a4) := by
  unfold State.blockTake
  refine kept_ite ?_ ?_
  · refine State.settle_kept ?_
    refine State.blockZero_kept ?_
    assumption
  · refine State.settle_kept ?_
    refine State.blockMore_kept ?_
    assumption

theorem State.heldTick_kept {m0 : Bool} {s0 s : State} (h : Kept ⟨m0, true⟩ s0 s) : Kept ⟨m0, true⟩ s0 (State.heldTick s) := by
  unfold State.heldTick
  refine kept_ite ?_ ?_
  · assumption
  · lift_lets
    intro x0
    clear_value x0
    intro x1
    clear_value x1
    refine State.each_kept ?_ ?_
    · refine kept_mk ?_
      assumption
    · intro v2_0 v2_1 v2_2
      refine State.blockTake_kept ?_
      assumption

theorem execChainBlock_kept {m0 : Bool} {s0 : State} {a1 : ChainHead} {a2 : List Byte} {a3 : Bool} {s : State} (h : Kept ⟨m0, true⟩ s0 s) : OutKept ⟨m0, true⟩ s0 (execChainBlock a1 a2 a3 s) := by
  unfold execChainBlock
  refine outKept_ite ?_ ?_
  · refine done_kept ?_
    assumption
  · lift_lets
    intro x0
    clear_value x0
    intro x1
    have hx1 : Kept ⟨m0, true⟩ s0 (x1) := by
      unfold x1
      refine State.iff_kept ?_ ?_
      · assumption
      · intro v2_0 v2_1
        refine State.chainSend_kept ?_
        refine State.inc_kept ?_
        assumption
    clear_value x1
    refine outKept_ite ?_ ?_
    · refine outKept_ite ?_ ?_
      · refine done_kept ?_
        assumption
      · refine done_kept ?_
        refine State.nak_kept ?_
        refine State.inc_kept ?_
        assumption
    · refine done_kept ?_
      refine State.blockTake_kept ?_
      refine State.incWrap_kept ?_
      assumption

theorem execChainAck_kept {m0 : May} {s0 : State} {a1 : ChainHead} {s : State} (h : Kept m0 s0 s) : OutKept m0 s0 (execChainAck a1 s) := by
  unfold execChainAck
  refine done_kept ?_
  refine State.chainFrame_kept ?_ ?_
  · assumption
  · intro v0_0 v0_1
    refine kept_ite ?_ ?_
    · assumption
    · lift_lets
      intro x1
      clear_value x1
      refine State.pumpAll_kept ?_
      refine State.setCport_kept ?_
      assumption

theorem State.transferEnd_kept {m0 : May} {s0 s : State} {a2 : Fin 2} (h : Kept m0 s0 s) : Kept m0 s0 (State.transferEnd s a2) := by
  unfold State.transferEnd
  lift_lets
  intro x0
  clear_value x0
  intro x1
  have hx1 : Kept m0 s0 (x1) := by
    unfold x1
    refine State.setCport_kept ?_
    assumption
  clear_value x1
  intro x2
  clear_value x2
  refine kept_mk ?_
  assumption

theorem State.resend_kept {m0 : May} {s0 s : State} {a2 : Fin 2} {a3 : Nat} (h : Kept m0 s0 s) : Kept m0 s0 (State.resend s a2 a3) := by
  unfold State.resend
  lift_lets
  intro x0
  clear_value x0
  intro x1
  have hx1 : Kept m0 s0 (x1) := by
    unfold x1
    refine State.setCport_kept ?_
    assumption
  clear_value x1
  split
  · assumption
  · refine kept_ite ?_ ?_
    · refine State.transferEnd_kept ?_
      assumption
    · refine State.blockOut_kept ?_
      assumption

theorem execChainNak_kept {m0 : May} {s0 : State} {a1 : ChainHead} {a2 : Fin 6} {s : State} (h : Kept m0 s0 s) : OutKept m0 s0 (execChainNak a1 a2 s) := by
  unfold execChainNak
  refine done_kept ?_
  refine State.chainFrame_kept ?_ ?_
  · assumption
  · intro v0_0 v0_1
    lift_lets
    intro x1
    have hx1 : Kept m0 s0 (x1) := by
      unfold x1
      refine State.inc_kept ?_
      assumption
    clear_value x1
    refine kept_ite ?_ ?_
    · refine State.resend_kept ?_
      assumption
    · assumption

theorem execChainRetransmit_kept {m0 : May} {s0 : State} {a1 : Fin 2} {s : State} (h : Kept m0 s0 s) : OutKept m0 s0 (execChainRetransmit a1 s) := by
  unfold execChainRetransmit
  refine outKept_ite ?_ ?_
  · refine done_kept ?_
    assumption
  · refine done_kept ?_
    refine State.each_kept ?_ ?_
    · assumption
    · intro v0_0 v0_1 v0_2
      refine State.resend_kept ?_
      assumption

theorem State.stagingEnd_kept {m0 : May} {s0 s : State} {a2 : Nat} (h : Kept m0 s0 s) : Kept m0 s0 (State.stagingEnd s a2) := by
  unfold State.stagingEnd
  lift_lets
  intro x0
  clear_value x0
  intro x1
  clear_value x1
  intro x2
  have hx2 : Kept m0 s0 (x2) := by
    unfold x2
    refine kept_mk ?_
    assumption
  clear_value x2
  intro x3
  have hx3 : Kept m0 s0 (x3) := by
    unfold x3
    refine State.each_kept ?_ ?_
    · assumption
    · intro v4_0 v4_1 v4_2
      lift_lets
      intro x5
      clear_value x5
      refine State.setCport_kept ?_
      assumption
  clear_value x3
  intro x6
  have hx6 : Kept m0 s0 (x6) := by
    unfold x6
    refine State.showParts_kept ?_
    assumption
  clear_value x6
  refine State.set_kept ?_
  refine State.set_kept ?_
  refine State.updEnter_kept ?_
  assumption

theorem execStagingRxTimeout_kept {m0 : May} {s0 s : State} (h : Kept m0 s0 s) : OutKept m0 s0 (execStagingRxTimeout s) := by
  unfold execStagingRxTimeout
  refine outKept_ite ?_ ?_
  · refine done_kept ?_
    refine State.stagingEnd_kept ?_
    assumption
  · refine done_kept ?_
    assumption

theorem State.discardImage_kept {m0 : May} {s0 s : State} (h : Kept m0 s0 s) : Kept m0 s0 (State.discardImage s) := by
  unfold State.discardImage
  refine kept_ite ?_ ?_
  · refine State.stagingEnd_kept ?_
    assumption
  · assumption

theorem execUpdDiscard_kept {m0 : May} {s0 : State} {a1 : Requester} {s : State} (h : Kept m0 s0 s) : OutKept m0 s0 (execUpdDiscard a1 s) := by
  unfold execUpdDiscard
  refine done_kept ?_
  refine State.gate_kept ?_ ?_
  · assumption
  · intro v0_0 v0_1
    refine State.discardImage_kept ?_
    assumption

theorem State.onTarget_kept {m0 : May} {s0 s : State} {a2 : Nat} {a3 : ModTarget → ModTarget} (h : Kept m0 s0 s) : Kept m0 s0 (State.onTarget s a2 a3) := by
  unfold State.onTarget
  refine kept_mk ?_
  assumption

theorem State.updateCommit_kept {m0 : Bool} {s0 s : State} (h : Kept ⟨m0, true⟩ s0 s) : Kept ⟨m0, true⟩ s0 (State.updateCommit s) := by
  unfold State.updateCommit
  lift_lets
  intro x0
  clear_value x0
  intro x1
  clear_value x1
  intro x2
  have hx2 : Kept ⟨m0, true⟩ s0 (x2) := by
    unfold x2
    refine State.writeSelector_kept ?_
    assumption
  clear_value x2
  intro x3
  clear_value x3
  intro x4
  have hx4 : Kept ⟨m0, true⟩ s0 (x4) := by
    unfold x4
    refine kept_mk ?_
    assumption
  clear_value x4
  intro x5
  have hx5 : Kept ⟨m0, true⟩ s0 (x5) := by
    unfold x5
    refine State.each_kept ?_ ?_
    · assumption
    · intro v6_0 v6_1 v6_2
      refine State.set_kept ?_
      assumption
  clear_value x5
  intro x7
  have hx7 : Kept ⟨m0, true⟩ s0 (x7) := by
    unfold x7
    refine State.updEnter_kept ?_
    refine State.inc_kept ?_
    assumption
  clear_value x7
  refine State.set_kept ?_
  refine State.set_kept ?_
  refine State.set_kept ?_
  refine State.set_kept ?_
  assumption

theorem State.commitCheck_kept {m0 : Bool} {s0 s : State} (h : Kept ⟨m0, true⟩ s0 s) : Kept ⟨m0, true⟩ s0 (State.commitCheck s) := by
  unfold State.commitCheck
  refine kept_ite ?_ ?_
  · assumption
  · refine kept_ite ?_ ?_
    · refine State.updateCommit_kept ?_
      assumption
    · refine kept_ite ?_ ?_
      · refine kept_mk ?_
        assumption
      · assumption

theorem State.fixTargets_kept {m0 : Bool} {s0 s : State} (h : Kept ⟨m0, true⟩ s0 s) : Kept ⟨m0, true⟩ s0 (State.fixTargets s) := by
  unfold State.fixTargets
  split
  · assumption
  · refine kept_ite ?_ ?_
    · assumption
    · lift_lets
      intro x0
      clear_value x0
      intro x1
      clear_value x1
      intro x2
      have hx2 : Kept ⟨m0, true⟩ s0 (x2) := by
        unfold x2
        refine State.each_kept ?_ ?_
        · assumption
        · intro v3_0 v3_1 v3_2
          refine State.set_kept ?_
          refine State.set_kept ?_
          assumption
      clear_value x2
      intro x4
      have hx4 : Kept ⟨m0, true⟩ s0 (x4) := by
        unfold x4
        refine State.set_kept ?_
        refine State.set_kept ?_
        assumption
      clear_value x4
      intro x5
      clear_value x5
      split
      · refine State.revertBegin_kept ?_
        assumption
      · refine State.commitCheck_kept ?_
        refine kept_mk ?_
        assumption

theorem State.targetFailed_kept {m0 : Bool} {s0 s : State} {a2 : ModTarget} (h : Kept ⟨m0, true⟩ s0 s) : Kept ⟨m0, true⟩ s0 (State.targetFailed s a2) := by
  unfold State.targetFailed
  refine kept_ite ?_ ?_
  · refine State.revertBegin_kept ?_
    refine State.set_kept ?_
    assumption
  · assumption

theorem State.revertCheck_kept {m0 : Bool} {s0 s : State} (h : Kept ⟨m0, true⟩ s0 s) : Kept ⟨m0, true⟩ s0 (State.revertCheck s) := by
  unfold State.revertCheck
  refine kept_ite ?_ ?_
  · refine State.revertEnd_kept ?_
    assumption
  · assumption

theorem State.revertLost_kept {m0 : Bool} {s0 s : State} {a2 : Nat} {a3 : ModTarget} (h : Kept ⟨m0, true⟩ s0 s) : Kept ⟨m0, true⟩ s0 (State.revertLost s a2 a3) := by
  unfold State.revertLost
  lift_lets
  intro x0
  have hx0 : Kept ⟨m0, true⟩ s0 (x0) := by
    unfold x0
    refine State.event_kept ?_
    refine State.inc_kept ?_
    assumption
  clear_value x0
  refine State.revertCheck_kept ?_
  refine State.onTarget_kept ?_
  assumption

theorem State.modFail_kept {m0 : Bool} {s0 s : State} {a2 : Nat} {a3 : ModTarget} (h : Kept ⟨m0, true⟩ s0 s) : Kept ⟨m0, true⟩ s0 (State.modFail s a2 a3) := by
  unfold State.modFail
  refine kept_ite ?_ ?_
  · refine kept_ite ?_ ?_
    · refine State.revertLost_kept ?_
      assumption
    · refine State.onTarget_kept ?_
      assumption
  · refine kept_ite ?_ ?_
    · refine State.targetFailed_kept ?_
      assumption
    · refine State.onTarget_kept ?_
      assumption

theorem State.modWrote_kept {m0 : Bool} {s0 s : State} {a2 : Nat} {a3 : ModTarget} (h : Kept ⟨m0, true⟩ s0 s) : Kept ⟨m0, true⟩ s0 (State.modWrote s a2 a3) := by
  unfold State.modWrote
  lift_lets
  intro x0
  clear_value x0
  split
  · refine State.onTarget_kept ?_
    assumption
  · refine State.onTarget_kept ?_
    assumption
  · refine State.commitCheck_kept ?_
    refine State.onTarget_kept ?_
    assumption
  · refine State.onTarget_kept ?_
    assumption
  · assumption

theorem State.modReport_kept {m0 : Bool} {s0 s : State} {a2 : Nat} {a3 : ModTarget} {a4 : List Nat} (h : Kept ⟨m0, true⟩ s0 s) : Kept ⟨m0, true⟩ s0 (State.modReport s a2 a3 a4) := by
  unfold State.modReport
  lift_lets
  intro x0
  clear_value x0
  split
  · refine State.onTarget_kept ?_
    assumption
  · refine kept_ite ?_ ?_
    · refine State.commitCheck_kept ?_
      refine State.inc_kept ?_
      refine State.onTarget_kept ?_
      assumption
    · refine State.onTarget_kept ?_
      assumption
  · refine kept_ite ?_ ?_
    · refine State.revertCheck_kept ?_
      refine State.onTarget_kept ?_
      assumption
    · refine State.modFail_kept ?_
      assumption
  · assumption

theorem State.modTake_kept {m0 : Bool} {s0 s : State} {a2 : Bool} (h : Kept ⟨m0, true⟩ s0 s) : Kept ⟨m0, true⟩ s0 (State.modTake s a2) := by
  unfold State.modTake
  split
  · assumption
  · refine kept_ite ?_ ?_
    · assumption
    · lift_lets
      intro x0
      clear_value x0
      intro x1
      have hx1 : Kept ⟨m0, true⟩ s0 (x1) := by
        unfold x1
        refine kept_mk ?_
        assumption
      clear_value x1
      intro x2
      clear_value x2
      intro x3
      have hx3 : Kept ⟨m0, true⟩ s0 (x3) := by
        unfold x3
        refine kept_mk ?_
        assumption
      clear_value x3
      split
      · assumption
      · split
        · assumption
        · refine kept_ite ?_ ?_
          · assumption
          · refine kept_ite ?_ ?_
            · refine kept_ite ?_ ?_
              · refine State.modReport_kept ?_
                assumption
              · refine State.modFail_kept ?_
                assumption
            · refine kept_ite ?_ ?_
              · refine State.modWrote_kept ?_
                assumption
              · refine State.modFail_kept ?_
                assumption

theorem State.modPost_kept {m0 : Bool} {s0 s : State} {a2 : Nat} {a3 : ModTarget} {a4 : Nat} {a5 : Proto} {a6 : List Nat} (h : Kept ⟨m0, true⟩ s0 s) : Kept ⟨m0, true⟩ s0 (State.modPost s a2 a3 a4 a5 a6) := by
  unfold State.modPost
  lift_lets
  intro q mark sent
  have hq : Kept ⟨m0, true⟩ s0 q.2 := State.reqTo_kept h
  have hz : Kept ⟨m0, true⟩ s0 (q.2.submit q.1).2 := State.submit_kept hq
  split
  · next e => rw [e] at hz; exact State.onTarget_kept (kept_mk hz)
  · exact kept_ite h (State.modFail_kept (State.onTarget_kept h))

theorem State.modNext_kept {m0 : Bool} {s0 s : State} {a2 : Nat} {a3 : ModTarget} (h : Kept ⟨m0, true⟩ s0 s) : Kept ⟨m0, true⟩ s0 (State.modNext s a2 a3) := by
  unfold State.modNext
  split
  · refine State.modPost_kept ?_
    assumption
  · refine State.modPost_kept ?_
    assumption
  · refine State.modPost_kept ?_
    assumption
  · refine State.modPost_kept ?_
    assumption
  · refine State.modPost_kept ?_
    assumption
  · refine kept_ite ?_ ?_
    · refine State.modPost_kept ?_
      assumption
    · refine State.modPost_kept ?_
      assumption
  · assumption

theorem State.updTick_kept {m0 : Bool} {s0 s : State} (h : Kept ⟨m0, true⟩ s0 s) : Kept ⟨m0, true⟩ s0 (State.updTick s) := by
  unfold State.updTick
  lift_lets
  intro x0
  have hx0 : Kept ⟨m0, true⟩ s0 (x0) := by
    unfold x0
    refine State.heldTick_kept ?_
    assumption
  clear_value x0
  intro x1
  have hx1 : Kept ⟨m0, true⟩ s0 (x1) := by
    unfold x1
    refine State.modTake_kept ?_
    assumption
  clear_value x1
  refine kept_ite ?_ ?_
  · assumption
  · refine kept_ite ?_ ?_
    · assumption
    · split
      · refine State.modNext_kept ?_
        assumption
      · assumption

theorem execModuleBankReport_kept {m0 : Bool} {s0 s : State} (h : Kept ⟨m0, true⟩ s0 s) : OutKept ⟨m0, true⟩ s0 (execModuleBankReport s) := by
  unfold execModuleBankReport
  refine done_kept ?_
  refine State.settle_kept ?_
  refine State.modTake_kept ?_
  assumption

theorem execModuleTimeout_kept {m0 : Bool} {s0 s : State} (h : Kept ⟨m0, true⟩ s0 s) : OutKept ⟨m0, true⟩ s0 (execModuleTimeout s) := by
  unfold execModuleTimeout
  refine outKept_ite ?_ ?_
  · refine done_kept ?_
    assumption
  · split
    · refine done_kept ?_
      refine State.settle_kept ?_
      refine State.targetFailed_kept ?_
      assumption
    · refine done_kept ?_
      assumption

theorem execTrialTimeout_kept {m0 : Bool} {s0 s : State} (h : Kept ⟨m0, true⟩ s0 s) : OutKept ⟨m0, true⟩ s0 (execTrialTimeout s) := by
  unfold execTrialTimeout
  refine outKept_ite ?_ ?_
  · refine done_kept ?_
    refine State.settle_kept ?_
    refine State.revertBegin_kept ?_
    assumption
  · refine done_kept ?_
    assumption

theorem execUpdRevert_kept {m0 : Bool} {s0 : State} {a1 : Requester} {s : State} (h : Kept ⟨m0, true⟩ s0 s) : OutKept ⟨m0, true⟩ s0 (execUpdRevert a1 s) := by
  unfold execUpdRevert
  refine done_kept ?_
  refine State.gate_kept ?_ ?_
  · assumption
  · intro v0_0 v0_1
    refine kept_ite ?_ ?_
    · refine State.settle_kept ?_
      refine State.revertBegin_kept ?_
      assumption
    · assumption

theorem State.firstPass_kept {m0 : Bool} {s0 s : State} (h : Kept ⟨m0, true⟩ s0 s) : Kept ⟨m0, true⟩ s0 (State.firstPass s) := by
  unfold State.firstPass
  lift_lets
  intro x0
  clear_value x0
  intro x1
  have hx1 : Kept ⟨m0, true⟩ s0 (x1) := by
    unfold x1
    refine kept_mk ?_
    assumption
  clear_value x1
  intro x2
  have hx2 : Kept ⟨m0, true⟩ s0 (x2) := by
    unfold x2
    refine State.setBit_kept ?_
    refine State.stamp_kept ?_
    refine State.bakedSilent_kept ?_
    assumption
  clear_value x2
  refine State.tryFull_kept ?_
  refine State.fixTargets_kept ?_
  assumption

theorem execAccessionPassDone_kept {m0 : Bool} {s0 : State} {a1 : Unit} {s : State} (h : Kept ⟨m0, true⟩ s0 s) : OutKept ⟨m0, true⟩ s0 (execAccessionPassDone a1 s) := by
  unfold execAccessionPassDone
  split
  · refine done_kept ?_
    assumption
  · refine outKept_ite ?_ ?_
    · refine done_kept ?_
      assumption
    · lift_lets
      intro x0
      have hx0 : Kept ⟨m0, true⟩ s0 (x0) := by
        unfold x0
        refine State.set_kept ?_
        refine State.inc_kept ?_
        assumption
      clear_value x0
      intro x1
      clear_value x1
      intro x2
      have hx2 : Kept ⟨m0, true⟩ s0 (x2) := by
        unfold x2
        refine kept_mk ?_
        assumption
      clear_value x2
      refine outKept_ite ?_ ?_
      · refine done_kept ?_
        refine State.settle_kept ?_
        assumption
      · refine done_kept ?_
        refine State.settle_kept ?_
        refine State.firstPass_kept ?_
        assumption

theorem State.coreFault_kept {m0 : Bool} {s0 s : State} {a2 : Nat} (h : Kept ⟨m0, true⟩ s0 s) : Kept ⟨m0, true⟩ s0 (State.coreFault s a2) := by
  unfold State.coreFault
  lift_lets
  intro x0
  have hx0 : Kept ⟨m0, true⟩ s0 (x0) := by
    unfold x0
    refine State.set_kept ?_
    refine State.detect_kept ?_
    assumption
  clear_value x0
  intro x1
  clear_value x1
  intro x2
  clear_value x2
  intro x3
  have hx3 : Kept ⟨m0, true⟩ s0 (x3) := by
    unfold x3
    refine State.set_kept ?_
    refine kept_mk ?_
    assumption
  clear_value x3
  refine kept_ite ?_ ?_
  · refine State.settle_kept ?_
    refine State.setB_kept ?_
    refine State.coresStop_kept ?_
    refine State.inc_kept ?_
    assumption
  · refine State.settle_kept ?_
    refine State.coreRestart_kept ?_
    assumption

theorem execCoreTaskBoundary_kept {m0 : Bool} {s0 : State} {a1 : Byte} {a2 : Bool} {s : State} (h : Kept ⟨m0, true⟩ s0 s) : OutKept ⟨m0, true⟩ s0 (execCoreTaskBoundary a1 a2 s) := by
  unfold execCoreTaskBoundary
  refine outKept_ite ?_ ?_
  · refine done_kept ?_
    assumption
  · lift_lets
    intro x0
    have hx0 : Kept ⟨m0, true⟩ s0 (x0) := by
      unfold x0
      refine State.incWrap_kept ?_
      assumption
    clear_value x0
    refine outKept_ite ?_ ?_
    · refine done_kept ?_
      refine State.coreFault_kept ?_
      assumption
    · refine done_kept ?_
      assumption

theorem execCoreBoundaryTimeout_kept {m0 : Bool} {s0 : State} {a1 : Byte} {s : State} (h : Kept ⟨m0, true⟩ s0 s) : OutKept ⟨m0, true⟩ s0 (execCoreBoundaryTimeout a1 s) := by
  unfold execCoreBoundaryTimeout
  refine outKept_ite ?_ ?_
  · refine done_kept ?_
    refine State.coreFault_kept ?_
    assumption
  · refine done_kept ?_
    assumption

theorem execCoreRelease_kept {m0 : Bool} {s0 : State} {a1 : Requester} {s : State} (h : Kept ⟨m0, true⟩ s0 s) : OutKept ⟨m0, true⟩ s0 (execCoreRelease a1 s) := by
  unfold execCoreRelease
  refine done_kept ?_
  refine State.gateRole_kept ?_ ?_
  · assumption
  · intro v0_0 v0_1
    refine kept_ite ?_ ?_
    · refine State.settle_kept ?_
      refine State.bootStart_kept ?_
      refine State.setB_kept ?_
      assumption
    · assumption

theorem State.entryLost_kept {m0 : Bool} {s0 s : State} {a2 : Nat} (h : Kept ⟨m0, true⟩ s0 s) : Kept ⟨m0, true⟩ s0 (State.entryLost s a2) := by
  unfold State.entryLost
  lift_lets
  intro x0
  have hx0 : Kept ⟨m0, true⟩ s0 (x0) := by
    unfold x0
    refine State.deaccede_kept ?_
    assumption
  clear_value x0
  split
  · assumption
  · split
    · assumption
    · refine kept_ite ?_ ?_
      · assumption
      · refine State.entBaked_kept ?_
        assumption

theorem State.requestLost_kept {m0 : Bool} {s0 s : State} {a2 : Nat} (h : Kept ⟨m0, true⟩ s0 s) : Kept ⟨m0, true⟩ s0 (State.requestLost s a2) := by
  unfold State.requestLost
  split
  · assumption
  · refine kept_ite ?_ ?_
    · assumption
    · lift_lets
      intro x0
      have hx0 : Kept ⟨m0, true⟩ s0 (x0) := by
        unfold x0
        refine kept_ite ?_ ?_
        · refine State.onReq_kept ?_
          assumption
        · refine State.dropReq_kept ?_
          assumption
      clear_value x0
      refine State.accAdvance_kept ?_
      refine State.deliver_kept ?_
      assumption

theorem State.spotLost_kept {m0 : Bool} {s0 s : State} {a2 : SramSpot} (h : Kept ⟨m0, true⟩ s0 s) : Kept ⟨m0, true⟩ s0 (State.spotLost s a2) := by
  unfold State.spotLost
  split
  · refine State.coreFault_kept ?_
    assumption
  · refine State.entryLost_kept ?_
    assumption
  · refine State.event_kept ?_
    assumption
  · refine State.requestLost_kept ?_
    assumption
  · refine kept_ite ?_ ?_
    · refine State.strRestore_kept ?_
      assumption
    · assumption
  · refine State.showCurve_kept ?_
    refine State.setRect_kept ?_
    assumption
  · assumption

theorem State.sramFound_kept {m0 : Bool} {s0 s : State} {a2 : Nat} {a3 : SramSpot} {a4 : WordError} (h : Kept ⟨m0, true⟩ s0 s) : Kept ⟨m0, true⟩ s0 (State.sramFound s a2 a3 a4) := by
  unfold State.sramFound
  split
  · assumption
  · refine State.inc_kept ?_
    refine State.inc_kept ?_
    assumption
  · refine State.settle_kept ?_
    refine State.spotLost_kept ?_
    refine State.sramDouble_kept ?_
    assumption

theorem execSieveRead_kept {m0 : Bool} {s0 : State} {a1 : Bool} {a2 : SramSpot} {a3 : Vector WordError 4} {s : State} (h : Kept ⟨m0, true⟩ s0 s) : OutKept ⟨m0, true⟩ s0 (execSieveRead a1 a2 a3 s) := by
  unfold execSieveRead
  lift_lets
  intro x0
  clear_value x0
  intro x1
  clear_value x1
  intro x2
  clear_value x2
  intro x3
  have hx3 : Kept ⟨m0, true⟩ s0 (x3) := by
    unfold x3
    refine kept_mk ?_
    assumption
  clear_value x3
  intro x4
  have hx4 : Kept ⟨m0, true⟩ s0 (x4) := by
    unfold x4
    refine State.set_kept ?_
    refine State.set_kept ?_
    assumption
  clear_value x4
  intro x5
  clear_value x5
  intro x6
  have hx6 : Kept ⟨m0, true⟩ s0 (x6) := by
    unfold x6
    refine kept_mk ?_
    assumption
  clear_value x6
  intro x7
  have hx7 : Kept ⟨m0, true⟩ s0 (x7) := by
    unfold x7
    refine State.set_kept ?_
    assumption
  clear_value x7
  refine outKept_ite ?_ ?_
  · refine done_kept ?_
    assumption
  · refine outKept_ite ?_ ?_
    · refine outKept_ite ?_ ?_
      · refine done_kept ?_
        assumption
      · refine done_kept ?_
        refine State.sramFound_kept ?_
        assumption
    · refine outKept_ite ?_ ?_
      · refine done_kept ?_
        assumption
      · refine done_kept ?_
        refine State.settle_kept ?_
        refine State.each_kept ?_ ?_
        · assumption
        · intro v8_0 v8_1 v8_2
          refine State.nvmFound_kept ?_
          assumption

theorem execSievePassEnd_kept {m0 : May} {s0 s : State} (h : Kept m0 s0 s) : OutKept m0 s0 (execSievePassEnd s) := by
  unfold execSievePassEnd
  refine outKept_ite ?_ ?_
  · refine done_kept ?_
    assumption
  · lift_lets
    intro x0
    clear_value x0
    intro x1
    clear_value x1
    intro x2
    have hx2 : Kept m0 s0 (x2) := by
      unfold x2
      refine kept_mk ?_
      assumption
    clear_value x2
    intro x3
    have hx3 : Kept m0 s0 (x3) := by
      unfold x3
      refine State.set_kept ?_
      assumption
    clear_value x3
    refine outKept_ite ?_ ?_
    · refine done_kept ?_
      refine State.settle_kept ?_
      refine State.setB_kept ?_
      refine State.incWrap_kept ?_
      assumption
    · refine done_kept ?_
      refine State.settle_kept ?_
      refine State.event_kept ?_
      refine State.setB_kept ?_
      refine State.inc_kept ?_
      assumption

theorem execSupplyDroop_kept {m0 : May} {s0 : State} {a1 : Fin 3} {a2 : Fin 6} {s : State} (h : Kept m0 s0 s) : OutKept m0 s0 (execSupplyDroop a1 a2 s) := by
  unfold execSupplyDroop
  refine outKept_ite ?_ ?_
  · refine done_kept ?_
    assumption
  · refine done_kept ?_
    refine State.settle_kept ?_
    refine State.detect_kept ?_
    refine State.inc_kept ?_
    refine State.setB_kept ?_
    assumption

theorem execSupplyDroopEnd_kept {m0 : May} {s0 : State} {a1 : Fin 3} {s : State} (h : Kept m0 s0 s) : OutKept m0 s0 (execSupplyDroopEnd a1 s) := by
  unfold execSupplyDroopEnd
  refine outKept_ite ?_ ?_
  · refine done_kept ?_
    refine State.settle_kept ?_
    refine State.setB_kept ?_
    assumption
  · refine done_kept ?_
    assumption

theorem State.telRefresh_kept {m0 : May} {s0 s : State} (h : Kept m0 s0 s) : Kept m0 s0 (State.telRefresh s) := by
  unfold State.telRefresh
  lift_lets
  intro x0
  have hx0 : Kept m0 s0 (x0) := by
    unfold x0
    split
    · refine State.setI_kept ?_
      assumption
    · refine State.setInvalid_kept ?_
      assumption
  clear_value x0
  refine State.each_kept ?_ ?_
  · assumption
  · intro v1_0 v1_1 v1_2
    refine State.telStr_kept ?_
    assumption

theorem execTelemetryRefresh_kept {m0 : May} {s0 : State} {a1 : Option (BitVec 16)} {s : State} (h : Kept m0 s0 s) : OutKept m0 s0 (execTelemetryRefresh a1 s) := by
  unfold execTelemetryRefresh
  refine outKept_ite ?_ ?_
  · refine done_kept ?_
    assumption
  · lift_lets
    intro x0
    clear_value x0
    intro x1
    have hx1 : Kept m0 s0 (x1) := by
      unfold x1
      refine kept_mk ?_
      assumption
    clear_value x1
    intro x2
    have hx2 : Kept m0 s0 (x2) := by
      unfold x2
      refine State.inc_kept ?_
      assumption
    clear_value x2
    intro x3
    clear_value x3
    split
    · refine done_kept ?_
      refine State.set_kept ?_
      refine State.telRefresh_kept ?_
      assumption
    · refine done_kept ?_
      refine kept_mk ?_
      assumption

theorem State.mbxExpire_kept {m0 : May} {s0 s : State} {a2 : Bool} {a3 : Fin 32} (h : Kept m0 s0 s) : Kept m0 s0 (State.mbxExpire s a2 a3) := by
  unfold State.mbxExpire
  refine kept_ite ?_ ?_
  · lift_lets
    intro x0
    clear_value x0
    intro x1
    have hx1 : Kept m0 s0 (x1) := by
      unfold x1
      refine kept_mk ?_
      assumption
    clear_value x1
    intro x2
    have hx2 : Kept m0 s0 (x2) := by
      unfold x2
      refine State.setB_kept ?_
      assumption
    clear_value x2
    intro x3
    have hx3 : Kept m0 s0 (x3) := by
      unfold x3
      refine State.setBit_kept ?_
      assumption
    clear_value x3
    refine State.event_kept ?_
    refine State.inc_kept ?_
    assumption
  · assumption

theorem State.mbxRefuse_kept {m0 : May} {s0 s : State} {a2 : Requester} {a3 : Nat} {a4 : Bool} {a5 : Fin 32} {a6 : Nat} (h : Kept m0 s0 s) : Kept m0 s0 (State.mbxRefuse s a2 a3 a4 a5 a6) := by
  unfold State.mbxRefuse
  lift_lets
  intro x0
  have hx0 : Kept m0 s0 (x0) := by
    unfold x0
    refine State.inc_kept ?_
    refine State.refuse_kept ?_
    assumption
  clear_value x0
  intro x1
  have hx1 : Kept m0 s0 (x1) := by
    unfold x1
    refine State.set_kept ?_
    refine State.setB_kept ?_
    refine State.set_kept ?_
    assumption
  clear_value x1
  refine State.stamp_kept ?_
  assumption

theorem State.mbxReject_kept {m0 : May} {s0 s : State} {a2 : Requester} {a3 : Nat} {a4 : Bool} {a5 : Fin 32} (h : Kept m0 s0 s) : Kept m0 s0 (State.mbxReject s a2 a3 a4 a5) := by
  unfold State.mbxReject
  refine State.mbxRefuse_kept ?_
  assumption

theorem State.mbxFill_kept {m0 : May} {s0 s : State} {a2 : Requester} {a3 : Bool} {a4 : Fin 32} {a5 : Nat} (h : Kept m0 s0 s) : Kept m0 s0 (State.mbxFill s a2 a3 a4 a5) := by
  unfold State.mbxFill
  lift_lets
  intro x0
  have hx0 : Kept m0 s0 (x0) := by
    unfold x0
    refine State.setB_kept ?_
    assumption
  clear_value x0
  intro x1
  have hx1 : Kept m0 s0 (x1) := by
    unfold x1
    refine State.setB_kept ?_
    assumption
  clear_value x1
  intro x2
  have hx2 : Kept m0 s0 (x2) := by
    unfold x2
    refine State.set_kept ?_
    assumption
  clear_value x2
  intro x3
  have hx3 : Kept m0 s0 (x3) := by
    unfold x3
    refine State.incWrap_kept ?_
    assumption
  clear_value x3
  intro x4
  have hx4 : Kept m0 s0 (x4) := by
    unfold x4
    refine State.set_kept ?_
    assumption
  clear_value x4
  intro x5
  have hx5 : Kept m0 s0 (x5) := by
    unfold x5
    refine State.setBit_kept ?_
    assumption
  clear_value x5
  intro x6
  have hx6 : Kept m0 s0 (x6) := by
    unfold x6
    refine State.iff_kept ?_ ?_
    · assumption
    · intro v7_0 v7_1
      refine State.setBit_kept ?_
      assumption
  clear_value x6
  intro x8
  have hx8 : Kept m0 s0 (x8) := by
    unfold x8
    refine State.incWrap_kept ?_
    assumption
  clear_value x8
  intro x9
  clear_value x9
  refine kept_mk ?_
  assumption

theorem State.mbxEmpty_kept {m0 : May} {s0 s : State} {a2 : Bool} {a3 : Fin 32} (h : Kept m0 s0 s) : Kept m0 s0 (State.mbxEmpty s a2 a3) := by
  unfold State.mbxEmpty
  lift_lets
  intro x0
  have hx0 : Kept m0 s0 (x0) := by
    unfold x0
    refine State.mbxExpire_kept ?_
    assumption
  clear_value x0
  intro x1
  have hx1 : Kept m0 s0 (x1) := by
    unfold x1
    refine State.setBit_kept ?_
    refine State.setB_kept ?_
    assumption
  clear_value x1
  intro x2
  clear_value x2
  refine kept_mk ?_
  assumption

theorem State.mbxTakeOver_kept {m0 : May} {s0 s : State} {a2 : Requester} {a3 : Bool} {a4 : Fin 32} {a5 : Nat} (h : Kept m0 s0 s) : Kept m0 s0 (State.mbxTakeOver s a2 a3 a4 a5) := by
  unfold State.mbxTakeOver
  lift_lets
  intro x0
  clear_value x0
  intro x1
  have hx1 : Kept m0 s0 (x1) := by
    unfold x1
    refine State.mbxRefuse_kept ?_
    assumption
  clear_value x1
  intro x2
  have hx2 : Kept m0 s0 (x2) := by
    unfold x2
    refine State.set_kept ?_
    refine State.set_kept ?_
    assumption
  clear_value x2
  refine State.noteWrite_kept ?_
  assumption

theorem State.mbxDo_kept {m0 : May} {s0 s : State} {a2 : Requester} {a3 : Bool} {a4 : Word} (h : Kept m0 s0 s) : Kept m0 s0 (State.mbxDo s a2 a3 a4) := by
  unfold State.mbxDo
  lift_lets
  intro x0
  clear_value x0
  intro x1
  clear_value x1
  intro x2
  have hx2 : Kept m0 s0 (x2) := by
    unfold x2
    refine kept_ite ?_ ?_
    · refine kept_ite ?_ ?_
      · refine State.mbxReject_kept ?_
        assumption
      · refine kept_ite ?_ ?_
        · refine State.event_kept ?_
          assumption
        · refine kept_ite ?_ ?_
          · refine State.mbxTakeOver_kept ?_
            assumption
          · refine State.noteWrite_kept ?_
            refine State.mbxFill_kept ?_
            assumption
    · assumption
  clear_value x2
  refine kept_ite ?_ ?_
  · refine State.mbxEmpty_kept ?_
    assumption
  · assumption

theorem State.mbxWrite_kept {m0 : May} {s0 s : State} {a2 : Requester} {a3 : Bool} {a4 : Word} (h : Kept m0 s0 s) : Kept m0 s0 (State.mbxWrite s a2 a3 a4) := by
  unfold State.mbxWrite
  refine State.gateRole_kept ?_ ?_
  · assumption
  · intro v0_0 v0_1
    refine kept_ite ?_ ?_
    · refine State.refuse_kept ?_
      assumption
    · refine State.mbxDo_kept ?_
      assumption

theorem execMbxSend_kept {m0 : May} {s0 : State} {a1 : Requester} {a2 : Bool} {a3 : Word} {s : State} (h : Kept m0 s0 s) : OutKept m0 s0 (execMbxSend a1 a2 a3 s) := by
  unfold execMbxSend
  refine done_kept ?_
  refine State.mbxWrite_kept ?_
  assumption

theorem execMbxTake_kept {m0 : May} {s0 : State} {a1 : Requester} {a2 : Bool} {a3 : Word} {s : State} (h : Kept m0 s0 s) : OutKept m0 s0 (execMbxTake a1 a2 a3 s) := by
  unfold execMbxTake
  refine done_kept ?_
  refine State.mbxWrite_kept ?_
  assumption

theorem execMbxRecall_kept {m0 : May} {s0 : State} {a1 : Requester} {a2 : Bool} {a3 : Word} {s : State} (h : Kept m0 s0 s) : OutKept m0 s0 (execMbxRecall a1 a2 a3 s) := by
  unfold execMbxRecall
  refine done_kept ?_
  refine State.mbxWrite_kept ?_
  assumption

theorem State.mbxData_kept {m0 : Bool} {s0 s : State} {a2 : Requester} {a3 : Nat} {a4 : Word} (h : Kept ⟨m0, true⟩ s0 s) : Kept ⟨m0, true⟩ s0 (State.mbxData s a2 a3 a4) := by
  unfold State.mbxData
  refine State.gate_kept ?_ ?_
  · assumption
  · intro v0_0 v0_1
    split
    · assumption
    · lift_lets
      intro x1
      clear_value x1
      intro x2
      clear_value x2
      refine kept_ite ?_ ?_
      · refine State.mbxReject_kept ?_
        assumption
      · refine State.ranked_kept ?_ ?_
        · assumption
        · intro v3_0 v3_1
          refine State.store_kept ?_
          assumption

theorem execMailboxDataWrite_kept {m0 : Bool} {s0 : State} {a1 : Requester} {a2 : BitVec 16} {a3 : Word} {s : State} (h : Kept ⟨m0, true⟩ s0 s) : OutKept ⟨m0, true⟩ s0 (execMailboxDataWrite a1 a2 a3 s) := by
  unfold execMailboxDataWrite
  refine done_kept ?_
  refine State.mbxData_kept ?_
  assumption

theorem execMailboxTimeout_kept {m0 : May} {s0 : State} {a1 : Bool} {a2 : Fin 32} {s : State} (h : Kept m0 s0 s) : OutKept m0 s0 (execMailboxTimeout a1 a2 s) := by
  unfold execMailboxTimeout
  refine done_kept ?_
  refine State.mbxExpire_kept ?_
  assumption

theorem State.refresh_kept {m0 : May} {s0 s : State} (h : Kept m0 s0 s) : Kept m0 s0 (State.refresh s) := by
  unfold State.refresh
  refine kept_ite ?_ ?_
  · refine kept_mk ?_
    assumption
  · assumption

theorem State.lineRebase_kept {m0 : May} {s0 : State} {a1 : State} {s : State} (h : Kept m0 s0 s) : Kept m0 s0 (State.lineRebase a1 s) := by
  unfold State.lineRebase
  exact State.setLine_kept h

theorem State.rectWritten_kept {m0 : Bool} {s0 : State} {a1 : State} {s : State} {a3 : Fin 24} (h : Kept ⟨m0, true⟩ s0 s) : Kept ⟨m0, true⟩ s0 (State.rectWritten a1 s a3) := by
  unfold State.rectWritten
  lift_lets
  intro was now e0 e x
  have hx : Kept ⟨m0, true⟩ s0 x := kept_ite (State.set_kept (State.rectUnbind_kept (State.set_kept h))) h
  clear_value x
  exact kept_ite h (kept_ite (State.rectSchedule_kept (State.rectBind_kept hx)) (State.setB_kept hx))

theorem State.afterWrite_kept {m0 : Bool} {s0 a1 s : State} {a3 : Nat} (h : Kept ⟨m0, true⟩ s0 s) : Kept ⟨m0, true⟩ s0 (State.afterWrite a1 s a3) := by
  unfold State.afterWrite
  dsimp only
  split
  · have hx : Kept ⟨m0, true⟩ s0 (s.iff (a3 == SYS_VCORE_CTRL_SCALE_EN.addr && !s.on SYS_VCORE_CTRL_SCALE_EN) (fun s => s.vcoreTo 8500)) :=
      State.iff_kept h (fun _ h => State.vcoreTo_kept h)
    exact kept_ite (State.bootStart_kept hx) hx
  · exact kept_ite (State.commitDrop_kept h) h
  · exact kept_ite (State.srcSelect_kept h) (State.staleJudge_kept h)
  · exact kept_ite h (kept_ite (kept_ite (State.thmDisable_kept h) (State.thmRequests_kept h)) (State.thmRequests_kept h))
  · exact kept_ite (State.iff_kept h (fun _ h => State.halfBOff_kept h)) (kept_ite (State.phaseUnsampled_kept h) h)
  · exact kept_ite (State.relane_kept h) h
  · exact State.each_kept (State.each_kept (State.lineRebase_kept h) (fun _ _ h => State.rcFade_kept h)) (fun _ _ h => State.rcAnew_kept h)
  · exact State.groupCheck_kept (State.groupCheck_kept (State.deCheck_kept (State.each_kept h (fun _ _ h => State.phaseLow_kept h))))
  · refine State.groupCheck_kept (State.groupCheck_kept (State.reseg_kept (State.deCheck_kept ?_)))
    refine State.iff_kept (State.iff_kept ?_ (fun _ h => State.shevJudge_kept h)) (fun _ h => State.foldWrite_kept h)
    exact kept_ite h (State.unshedAll_kept (State.unshedAll_kept h))
  · exact kept_ite (State.efuEval_kept h) h
  · exact kept_ite (State.seqTail_kept (State.seqEval_kept (State.each_kept h (fun _ _ h => State.railDrop_kept h)))) h
  · exact kept_ite (State.seqTail_kept h) h
  · refine kept_ite (State.each_kept (State.strEnChange_kept h) (fun _ _ h => State.idRestart_kept h)) ?_
    split
    · exact kept_ite h (State.idRestart_kept h)
    · exact h
  · split
    · exact State.rectWritten_kept h
    · exact h
  · exact State.twbEval_kept h
  · exact kept_ite h (State.pairEnable_kept h)
  · exact State.each_kept h (fun _ _ h => State.chainDown_kept h)
  · exact State.ethShowAll_kept h
  · exact h

theorem State.contend_kept {m0 : May} {s0 s : State} {a2 : Requester} {a3 : Nat} (h : Kept m0 s0 s) : Kept m0 s0 (State.contend s a2 a3) := by
  unfold State.contend
  lift_lets
  intro x0
  clear_value x0
  intro x1
  clear_value x1
  refine State.each_kept ?_ ?_
  · assumption
  · intro v2_0 v2_1 v2_2
    refine kept_ite ?_ ?_
    · refine State.owe_kept ?_
      assumption
    · refine State.owe_kept ?_
      assumption

theorem State.fieldsWrite_kept {m0 : May} {s0 s : State} {a2 : Requester} {a3 : RegRow} {a4 : Nat} {a5 : Nat} {a6 : Nat} {a7 : Word} (h : Kept m0 s0 s) : Kept m0 s0 (State.fieldsWrite s a2 a3 a4 a5 a6 a7).1 := by
  unfold State.fieldsWrite
  lift_lets
  intro x0
  clear_value x0
  intro x1
  clear_value x1
  intro x2
  clear_value x2
  intro x3
  clear_value x3
  intro x4
  clear_value x4
  intro x5
  clear_value x5
  intro x6
  have hx6 : Kept m0 s0 (x6) := by
    unfold x6
    refine State.setWrote_kept ?_
    refine State.contend_kept ?_
    assumption
  clear_value x6
  dsimp only
  refine State.each_kept ?_ ?_
  · refine State.setReg_kept ?_
    assumption
  · intro v7_0 v7_1 v7_2
    refine State.event_kept ?_
    assumption

theorem State.classC_kept {m0 : Bool} {s0 s : State} {a2 : Requester} {a3 : RegRow} {a4 : Nat} {a5 : Nat} {a6 : Word} (h : Kept ⟨m0, true⟩ s0 s) : Kept ⟨m0, true⟩ s0 (State.classC s a2 a3 a4 a5 a6).1 := by
  unfold State.classC
  split
  · dsimp only
    assumption
  · lift_lets
    intro x0
    have hx0 : Kept ⟨m0, true⟩ s0 (x0) := by
      unfold x0
      refine State.iff_kept ?_ ?_
      · assumption
      · intro v1_0 v1_1
        refine State.monRun_kept ?_
        assumption
    clear_value x0
    intro x2
    have hx2 : Kept ⟨m0, true⟩ s0 (x2).1 := by
      refine kept_of (fun q => q.1) (a := x2) (State.fieldsWrite_kept ?_) rfl
      assumption
    clear_value x2
    intro x3
    have hx3 : Kept ⟨m0, true⟩ s0 (x3) := by
      unfold x3
      exact State.afterWrite_kept (kept_ite (State.markPage_kept hx2) (State.markWritten_kept hx2))
    clear_value x3
    dsimp only
    refine State.settle_kept ?_
    assumption

theorem State.unfence_kept {m0 : May} {s0 s : State} (h : Kept m0 s0 s) : Kept m0 s0 (State.unfence s) := by
  have k : Kept m0 s0 (s.setB HLK_STAT_FENCED false) := State.setB_kept h
  exact ⟨k.regs, k.mem, k.same, k.pending, k.tick, k.power, h.g, k.free⟩

theorem State.discResume_kept {m0 : May} {s0 s : State} (h : Kept m0 s0 s) : Kept m0 s0 (State.discResume s) := by
  unfold State.discResume
  refine kept_ite ?_ ?_
  · refine State.discFree_kept ?_
    assumption
  · lift_lets
    intro x0
    have hx0 : Kept m0 s0 (x0) := by
      unfold x0
      refine State.setB_kept ?_
      refine State.set_kept ?_
      assumption
    clear_value x0
    intro x1
    clear_value x1
    refine kept_mk ?_
    assumption

theorem State.keepTime_kept {m0 : May} {s0 s : State} {a2 : State → State} (h : Kept m0 s0 s) (ha2 : ∀ b0, Kept m0 s0 b0 → Kept m0 s0 (a2 b0)) : Kept m0 s0 (State.keepTime s a2) := by
  unfold State.keepTime
  lift_lets
  intro x0
  clear_value x0
  intro x1
  have hx1 : Kept m0 s0 (x1) := by
    unfold x1
    refine ha2 _ ?_
    assumption
  clear_value x1
  refine kept_ite ?_ ?_
  · refine State.discResume_kept ?_
    assumption
  · assumption

theorem State.enterPaired_kept {m0 : May} {s0 s : State} (h : Kept m0 s0 s) : Kept m0 s0 (State.enterPaired s) := by
  unfold State.enterPaired
  refine State.event_kept ?_
  refine State.inc_kept ?_
  refine State.set_kept ?_
  assumption

theorem State.joinCheck_kept {m0 : May} {s0 s : State} (h : Kept m0 s0 s) : Kept m0 s0 (State.joinCheck s) := by
  unfold State.joinCheck
  lift_lets
  intro x0
  have hx0 : Kept m0 s0 (x0) := by
    unfold x0
    refine kept_ite ?_ ?_
    · refine State.set_kept ?_
      assumption
    · assumption
  clear_value x0
  refine kept_ite ?_ ?_
  · assumption
  · refine kept_ite ?_ ?_
    · refine State.enterPaired_kept ?_
      assumption
    · refine kept_ite ?_ ?_
      · refine State.set_kept ?_
        refine State.set_kept ?_
        refine State.set_kept ?_
        assumption
      · assumption

theorem State.partnerLost_kept {m0 : Bool} {s0 s : State} (h : Kept ⟨m0, true⟩ s0 s) : Kept ⟨m0, true⟩ s0 (State.partnerLost s) := by
  unfold State.partnerLost
  refine kept_ite ?_ ?_
  · assumption
  · lift_lets
    intro x0
    have hx0 : Kept ⟨m0, true⟩ s0 (x0) := by
      unfold x0
      refine State.set_kept ?_
      refine State.setB_kept ?_
      assumption
    intro x1
    clear_value x1
    intro x2
    have hx2 : Kept ⟨m0, true⟩ s0 (x2) := by
      unfold x2
      refine kept_mk ?_
      unfold x0
      refine State.set_kept ?_
      refine State.setB_kept ?_
      assumption
    intro x3
    have hx3 : Kept ⟨m0, true⟩ s0 (x3) := by
      unfold x3
      refine kept_ite ?_ ?_
      · unfold x2
        refine kept_mk ?_
        unfold x0
        refine State.set_kept ?_
        refine State.setB_kept ?_
        assumption
      · refine State.set_kept ?_
        unfold x2
        refine kept_mk ?_
        unfold x0
        refine State.set_kept ?_
        refine State.setB_kept ?_
        assumption
    clear_value x3
    refine State.seqTail_kept ?_
    refine State.seqEval_kept ?_
    refine State.trigger_kept ?_
    assumption

theorem State.partnerBack_kept {m0 : May} {s0 s : State} (h : Kept m0 s0 s) : Kept m0 s0 (State.partnerBack s) := by
  unfold State.partnerBack
  refine kept_ite ?_ ?_
  · refine State.settle_kept ?_
    refine State.setB_kept ?_
    assumption
  · assumption

theorem State.adopt_kept {m0 : Bool} {s0 s : State} {a2 : Nat} {a3 : EpochMsg} (h : Kept ⟨m0, true⟩ s0 s) : Kept ⟨m0, true⟩ s0 (State.adopt s a2 a3) := by
  unfold State.adopt
  refine State.keepTime_kept ?_ ?_
  · assumption
  · intro v0_0 v0_1
    lift_lets
    intro x1
    clear_value x1
    intro x2
    have hx2 : Kept ⟨m0, true⟩ s0 (x2) := by
      unfold x2
      refine kept_mk ?_
      assumption
    clear_value x2
    intro x3
    have hx3 : Kept ⟨m0, true⟩ s0 (x3) := by
      unfold x3
      refine State.set_kept ?_
      refine State.set_kept ?_
      assumption
    clear_value x3
    intro x4
    have hx4 : Kept ⟨m0, true⟩ s0 (x4) := by
      unfold x4
      refine State.setB_kept ?_
      refine State.set_kept ?_
      assumption
    clear_value x4
    intro x5
    have hx5 : Kept ⟨m0, true⟩ s0 (x5) := by
      unfold x5
      refine State.each_kept ?_ ?_
      · assumption
      · intro v6_0 v6_1 v6_2
        refine State.entEpoch_kept ?_
        assumption
    clear_value x5
    intro x7
    have hx7 : Kept ⟨m0, true⟩ s0 (x7) := by
      unfold x7
      refine State.takeOwn_kept ?_
      assumption
    clear_value x7
    intro x8
    clear_value x8
    intro x9
    have hx9 : Kept ⟨m0, true⟩ s0 (x9) := by
      unfold x9
      refine State.event_kept ?_
      refine State.inc_kept ?_
      refine kept_mk ?_
      assumption
    clear_value x9
    intro x10
    have hx10 : Kept ⟨m0, true⟩ s0 (x10) := by
      unfold x10
      split
      · refine State.partnerLost_kept ?_
        refine State.inc_kept ?_
        assumption
      · refine State.partnerLost_kept ?_
        refine State.inc_kept ?_
        assumption
      · refine kept_ite ?_ ?_
        · refine State.enterPaired_kept ?_
          assumption
        · assumption
      · refine State.event_kept ?_
        refine kept_mk ?_
        assumption
      · assumption
    clear_value x10
    refine State.settle_kept ?_
    refine State.joinCheck_kept ?_
    refine State.groupCheck_kept ?_
    refine State.groupCheck_kept ?_
    assumption

theorem State.linkDown_kept {m0 : May} {s0 s : State} (h : Kept m0 s0 s) : Kept m0 s0 (State.linkDown s) := by
  unfold State.linkDown
  refine kept_ite ?_ ?_
  · assumption
  · refine State.keepTime_kept ?_ ?_
    · assumption
    · intro v0_0 v0_1
      lift_lets
      intro x1
      have hx1 : Kept m0 s0 (x1) := by
        unfold x1
        refine State.event_kept ?_
        refine State.inc_kept ?_
        refine State.setB_kept ?_
        refine State.setB_kept ?_
        assumption
      intro x2
      clear_value x2
      intro x3
      have hx3 : Kept m0 s0 (x3) := by
        unfold x3
        refine kept_mk ?_
        unfold x1
        refine State.event_kept ?_
        refine State.inc_kept ?_
        refine State.setB_kept ?_
        refine State.setB_kept ?_
        assumption
      intro x4
      have hx4 : Kept m0 s0 (x4) := by
        unfold x4
        refine State.setB_kept ?_
        unfold x3
        refine kept_mk ?_
        unfold x1
        refine State.event_kept ?_
        refine State.inc_kept ?_
        refine State.setB_kept ?_
        refine State.setB_kept ?_
        assumption
      refine kept_ite ?_ ?_
      · refine State.set_kept ?_
        unfold x4
        refine State.setB_kept ?_
        unfold x3
        refine kept_mk ?_
        unfold x1
        refine State.event_kept ?_
        refine State.inc_kept ?_
        refine State.setB_kept ?_
        refine State.setB_kept ?_
        assumption
      · unfold x4
        refine State.setB_kept ?_
        unfold x3
        refine kept_mk ?_
        unfold x1
        refine State.event_kept ?_
        refine State.inc_kept ?_
        refine State.setB_kept ?_
        refine State.setB_kept ?_
        assumption

theorem State.violated_kept {m0 : May} {s0 s : State} {a2 : Nat} (h : Kept m0 s0 s) : Kept m0 s0 (State.violated s a2) := by
  unfold State.violated
  lift_lets
  intro x0
  clear_value x0
  intro x1
  clear_value x1
  intro x2
  have hx2 : Kept m0 s0 (x2) := by
    unfold x2
    refine State.addSat_kept ?_
    assumption
  clear_value x2
  intro x3
  clear_value x3
  refine kept_mk ?_
  assumption

theorem execHelkarLinkTimeout_kept {m0 : May} {s0 : State} {a1 : Nat} {s : State} (h : Kept m0 s0 s) : OutKept m0 s0 (execHelkarLinkTimeout a1 s) := by
  unfold execHelkarLinkTimeout
  refine outKept_ite ?_ ?_
  · refine done_kept ?_
    assumption
  · lift_lets
    intro x0
    have hx0 : Kept m0 s0 (x0) := by
      unfold x0
      refine State.violated_kept ?_
      assumption
    try clear_value x0
    intro x1
    try clear_value x1
    refine outKept_ite ?_ ?_
    · refine done_kept ?_
      refine State.settle_kept ?_
      refine State.linkDown_kept ?_
      assumption
    · refine done_kept ?_
      assumption

theorem execHelkarRetransmit_kept {m0 : May} {s0 s : State} (h : Kept m0 s0 s) : OutKept m0 s0 (execHelkarRetransmit s) := by
  unfold execHelkarRetransmit
  lift_lets
  intro x0
  clear_value x0
  intro x1
  have hx1 : Kept m0 s0 (x1) := by
    unfold x1
    refine State.set_kept ?_
    refine State.addSat_kept ?_
    assumption
  clear_value x1
  intro x2
  clear_value x2
  intro x3
  clear_value x3
  refine outKept_ite ?_ ?_
  · refine done_kept ?_
    assumption
  · refine outKept_ite ?_ ?_
    · refine done_kept ?_
      refine State.settle_kept ?_
      refine State.linkDown_kept ?_
      assumption
    · refine done_kept ?_
      refine kept_mk ?_
      assumption

theorem execBeaconSend_kept {m0 : May} {s0 s : State} (h : Kept m0 s0 s) : OutKept m0 s0 (execBeaconSend s) := by
  unfold execBeaconSend
  refine outKept_ite ?_ ?_
  · refine done_kept ?_
    refine State.frameSent_kept ?_
    assumption
  · refine done_kept ?_
    assumption

theorem State.partnerSeen_kept {m0 : May} {s0 s : State} {a2 : Beacon} (h : Kept m0 s0 s) : Kept m0 s0 (State.partnerSeen s a2) := by
  unfold State.partnerSeen
  lift_lets
  intro x0
  clear_value x0
  intro x1
  have hx1 : Kept m0 s0 (x1) := by
    unfold x1
    refine State.set_kept ?_
    refine State.set_kept ?_
    refine State.set_kept ?_
    assumption
  clear_value x1
  intro x2
  have hx2 : Kept m0 s0 (x2) := by
    unfold x2
    refine State.set_kept ?_
    assumption
  clear_value x2
  intro x3
  clear_value x3
  intro x4
  clear_value x4
  intro x5
  have hx5 : Kept m0 s0 (x5) := by
    unfold x5
    refine kept_mk ?_
    assumption
  clear_value x5
  refine State.setB_kept ?_
  assumption

theorem State.linkBegin_kept {m0 : May} {s0 s : State} {a2 : Beacon} (h : Kept m0 s0 s) : Kept m0 s0 (State.linkBegin s a2) := by
  unfold State.linkBegin
  lift_lets
  intro x0
  have hx0 : Kept m0 s0 (x0) := by
    unfold x0
    refine State.event_kept ?_
    refine State.set_kept ?_
    refine State.setB_kept ?_
    refine State.setB_kept ?_
    assumption
  clear_value x0
  intro x1
  clear_value x1
  intro x2
  clear_value x2
  refine kept_mk ?_
  assumption

theorem State.alignSeen_kept {m0 : May} {s0 s : State} {a2 : Beacon} (h : Kept m0 s0 s) : Kept m0 s0 (State.alignSeen s a2) := by
  unfold State.alignSeen
  refine kept_ite ?_ ?_
  · assumption
  · lift_lets
    intro x0
    clear_value x0
    intro x1
    have hx1 : Kept m0 s0 (x1) := by
      unfold x1
      refine State.setI_kept ?_
      assumption
    clear_value x1
    intro x2
    clear_value x2
    refine kept_mk ?_
    assumption

theorem State.sendObjects_kept {m0 : May} {s0 s : State} (h : Kept m0 s0 s) : Kept m0 s0 (State.sendObjects s) := by
  unfold State.sendObjects
  lift_lets
  intro x0
  clear_value x0
  intro x1
  clear_value x1
  intro x2
  have hx2 : Kept m0 s0 (x2) := by
    unfold x2
    refine State.set_kept ?_
    refine State.pairSend_kept ?_
    assumption
  clear_value x2
  intro x3
  clear_value x3
  refine kept_ite ?_ ?_
  · assumption
  · refine kept_mk ?_
    assumption

theorem State.sendEstimator_kept {m0 : May} {s0 s : State} (h : Kept m0 s0 s) : Kept m0 s0 (State.sendEstimator s) := by
  unfold State.sendEstimator
  lift_lets
  intro x0
  clear_value x0
  intro x1
  clear_value x1
  intro x2
  have hx2 : Kept m0 s0 (x2) := by
    unfold x2
    refine State.set_kept ?_
    refine State.pairSend_kept ?_
    assumption
  clear_value x2
  intro x3
  clear_value x3
  refine kept_ite ?_ ?_
  · assumption
  · refine kept_mk ?_
    assumption

theorem State.sendCatalogue_kept {m0 : May} {s0 s : State} (h : Kept m0 s0 s) : Kept m0 s0 (State.sendCatalogue s) := by
  unfold State.sendCatalogue
  lift_lets
  intro x0
  clear_value x0
  intro x1
  have hx1 : Kept m0 s0 (x1) := by
    unfold x1
    refine State.set_kept ?_
    refine State.pairSend_kept ?_
    assumption
  clear_value x1
  intro x2
  clear_value x2
  refine kept_ite ?_ ?_
  · assumption
  · refine kept_mk ?_
    assumption

theorem State.setStamp_kept {m0 : May} {s0 s : State} {a2 : Nat} {a3 : Nat} (h : Kept m0 s0 s) : Kept m0 s0 (State.setStamp s a2 a3) := by
  unfold State.setStamp
  refine kept_mk ?_
  assumption

theorem State.flushConfig_kept {m0 : May} {s0 s : State} (h : Kept m0 s0 s) : Kept m0 s0 (State.flushConfig s) := by
  unfold State.flushConfig
  lift_lets
  intro x0
  clear_value x0
  intro x1
  clear_value x1
  intro x2
  clear_value x2
  refine State.each_kept ?_ ?_
  · refine kept_mk ?_
    assumption
  · intro v3_0 v3_1 v3_2
    lift_lets
    intro x4
    have hx4 : Kept m0 s0 (x4) := by
      unfold x4
      refine State.setStamp_kept ?_
      assumption
    clear_value x4
    refine kept_ite ?_ ?_
    · refine State.incWrap_kept ?_
      refine State.pairSend_kept ?_
      assumption
    · assumption

theorem State.applyConfig_kept {m0 : Bool} {s0 s : State} {a2 : Nat} {a3 : Word} {a4 : Nat} (h : Kept ⟨m0, true⟩ s0 s) : Kept ⟨m0, true⟩ s0 (State.applyConfig s a2 a3 a4).1 := by
  unfold State.applyConfig
  split
  · dsimp only
    assumption
  · lift_lets
    intro x0
    clear_value x0
    intro x1
    have hx1 : Kept ⟨m0, true⟩ s0 (x1).1 := by
      refine kept_of (fun q => q.1) (a := x1) (State.classC_kept ?_) rfl
      refine State.setStamp_kept ?_
      assumption
    clear_value x1
    split
    · dsimp only
      assumption
    · split
      · dsimp only
        refine State.inc_kept ?_
        assumption
      · split
        · dsimp only
          refine State.inc_kept ?_
          refine State.refuse_kept ?_
          assumption
        · split
          · dsimp only
            refine State.incWrap_kept ?_
            assumption
          · dsimp only
            refine State.inc_kept ?_
            assumption

theorem State.applyObject_kept {m0 : May} {s0 s : State} {a2 : ObjRecord} (h : Kept m0 s0 s) : Kept m0 s0 (State.applyObject s a2) := by
  unfold State.applyObject
  split
  · lift_lets
    intro x0
    clear_value x0
    intro x1
    clear_value x1
    refine kept_mk ?_
    assumption
  · refine kept_ite ?_ ?_
    · assumption
    · refine State.showState_kept ?_
      refine State.set_kept ?_
      refine State.setBit_kept ?_
      assumption
  · lift_lets
    intro x2
    clear_value x2
    intro x3
    clear_value x3
    refine kept_mk ?_
    assumption
  · refine kept_mk ?_
    assumption
  · lift_lets
    intro x4
    clear_value x4
    intro x5
    clear_value x5
    intro x6
    clear_value x6
    refine kept_mk ?_
    assumption
  · refine State.seqFollow_kept ?_
    assumption

theorem State.applyObjects_kept {m0 : Bool} {s0 s : State} {a2 : List ObjRecord} (h : Kept ⟨m0, true⟩ s0 s) : Kept ⟨m0, true⟩ s0 (State.applyObjects s a2) := by
  unfold State.applyObjects
  lift_lets
  intro x0
  have hx0 : Kept ⟨m0, true⟩ s0 (x0) := by
    unfold x0
    refine State.set_kept ?_
    refine State.each_kept ?_ ?_
    · assumption
    · intro v1_0 v1_1 v1_2
      refine State.applyObject_kept ?_
      assumption
  clear_value x0
  refine State.settle_kept ?_
  refine State.seqTail_kept ?_
  refine State.downCheck_kept ?_
  refine State.upCheck_kept ?_
  assumption

theorem State.applyEst_kept {m0 : May} {s0 s : State} {a2 : EstRecord} (h : Kept m0 s0 s) : Kept m0 s0 (State.applyEst s a2) := by
  unfold State.applyEst
  split
  · lift_lets
    intro x0
    clear_value x0
    intro x1
    have hx1 : Kept m0 s0 (x1) := by
      unfold x1
      refine State.setStr_kept ?_
      assumption
    clear_value x1
    intro x2
    have hx2 : Kept m0 s0 (x2) := by
      unfold x2
      refine State.setB_kept ?_
      refine State.setB_kept ?_
      assumption
    clear_value x2
    refine State.showSet_kept ?_
    refine State.setB_kept ?_
    assumption
  · refine kept_mk ?_
    assumption
  · refine State.showCurve_kept ?_
    refine State.setRect_kept ?_
    assumption
  · lift_lets
    intro x3
    clear_value x3
    intro x4
    have hx4 : Kept m0 s0 (x4) := by
      unfold x4
      refine State.set_kept ?_
      assumption
    clear_value x4
    intro x5
    clear_value x5
    refine kept_mk ?_
    assumption

theorem State.applyEsts_kept {m0 : May} {s0 s : State} {a2 : List EstRecord} (h : Kept m0 s0 s) : Kept m0 s0 (State.applyEsts s a2) := by
  unfold State.applyEsts
  refine kept_ite ?_ ?_
  · assumption
  · refine State.settle_kept ?_
    refine State.set_kept ?_
    refine State.each_kept ?_ ?_
    · assumption
    · intro v0_0 v0_1 v0_2
      refine State.applyEst_kept ?_
      assumption

theorem State.applyCats_kept {m0 : Bool} {s0 s : State} {a2 : List CatRecord} (h : Kept ⟨m0, true⟩ s0 s) : Kept ⟨m0, true⟩ s0 (State.applyCats s a2) := by
  unfold State.applyCats
  lift_lets
  intro x0
  have hx0 : Kept ⟨m0, true⟩ s0 (x0) := by
    unfold x0
    refine State.each_kept ?_ ?_
    · assumption
    · intro v1_0 v1_1 v1_2
      refine State.setByte_kept ?_
      assumption
  clear_value x0
  refine State.set_kept ?_
  assumption

theorem State.resyncStart_kept {m0 : May} {s0 s : State} (h : Kept m0 s0 s) : Kept m0 s0 (State.resyncStart s) := by
  unfold State.resyncStart
  lift_lets
  intro x0
  clear_value x0
  intro x1
  have hx1 : Kept m0 s0 (x1) := by
    unfold x1
    refine State.set_kept ?_
    refine State.set_kept ?_
    assumption
  clear_value x1
  intro x2
  clear_value x2
  refine State.each_kept ?_ ?_
  · refine kept_mk ?_
    assumption
  · intro v3_0 v3_1 v3_2
    refine State.pairSend_kept ?_
    assumption

theorem State.resyncAcked_kept {m0 : May} {s0 s : State} {a2 : Nat} (h : Kept m0 s0 s) : Kept m0 s0 (State.resyncAcked s a2) := by
  unfold State.resyncAcked
  refine kept_ite ?_ ?_
  · assumption
  · lift_lets
    intro x0
    have hx0 : Kept m0 s0 (x0) := by
      unfold x0
      refine State.addSat_kept ?_
      assumption
    clear_value x0
    intro x1
    clear_value x1
    intro x2
    clear_value x2
    intro x3
    have hx3 : Kept m0 s0 (x3) := by
      unfold x3
      refine kept_mk ?_
      assumption
    clear_value x3
    intro x4
    clear_value x4
    refine kept_ite ?_ ?_
    · refine State.maxOf_kept ?_
      refine State.set_kept ?_
      assumption
    · assumption

theorem State.enterWaiting_kept {m0 : May} {s0 s : State} (h : Kept m0 s0 s) : Kept m0 s0 (State.enterWaiting s) := by
  unfold State.enterWaiting
  lift_lets
  intro x0
  have hx0 : Kept m0 s0 (x0) := by
    unfold x0
    refine State.set_kept ?_
    assumption
  clear_value x0
  intro x1
  clear_value x1
  intro x2
  have hx2 : Kept m0 s0 (x2) := by
    unfold x2
    refine kept_mk ?_
    assumption
  clear_value x2
  intro x3
  have hx3 : Kept m0 s0 (x3) := by
    unfold x3
    refine State.each_kept ?_ ?_
    · assumption
    · intro v4_0 v4_1 v4_2
      lift_lets
      intro x5
      clear_value x5
      split
      · refine State.setSlot_kept ?_
        assumption
      · refine State.setSlot_kept ?_
        assumption
  clear_value x3
  intro x6
  clear_value x6
  refine kept_mk ?_
  assumption

theorem State.frameIn_kept {m0 : May} {s0 s : State} {a2 : FrameHead} {a3 : Bool} {a4 : State → State} (h : Kept m0 s0 s) (ha4 : ∀ b0, Kept m0 s0 b0 → Kept m0 s0 (a4 b0)) : Kept m0 s0 (State.frameIn s a2 a3 a4) := by
  unfold State.frameIn
  refine kept_ite ?_ ?_
  · assumption
  · refine kept_ite ?_ ?_
    · refine State.nakSent_kept ?_
      refine State.inc_kept ?_
      assumption
    · lift_lets
      intro x0
      have hx0 : Kept m0 s0 (x0) := by
        unfold x0
        refine State.incWrap_kept ?_
        assumption
      clear_value x0
      intro x1
      clear_value x1
      refine kept_ite ?_ ?_
      · refine ha4 _ ?_
        assumption
      · refine kept_ite ?_ ?_
        · assumption
        · refine kept_ite ?_ ?_
          · refine State.ackSent_kept ?_
            assumption
          · refine kept_ite ?_ ?_
            · assumption
            · refine State.ackSent_kept ?_
              refine ha4 _ ?_
              refine kept_mk ?_
              assumption

theorem State.refused_kept {m0 : May} {s0 s : State} {a2 : FrameHead} {a3 : Option Nat} (h : Kept m0 s0 s) : Kept m0 s0 (State.refused s a2 a3) := by
  unfold State.refused
  split
  · refine State.nakSent_kept ?_
    assumption
  · assumption

theorem State.beaconIn_kept {m0 : May} {s0 s : State} {a2 : FrameHead} {a3 : Beacon} (h : Kept m0 s0 s) : Kept m0 s0 (State.beaconIn s a2 a3) := by
  unfold State.beaconIn
  lift_lets
  intro x0
  clear_value x0
  intro x1
  have hx1 : Kept m0 s0 (x1) := by
    unfold x1
    refine State.partnerSeen_kept ?_
    assumption
  clear_value x1
  intro x2
  clear_value x2
  intro x3
  have hx3 : Kept m0 s0 (x3) := by
    unfold x3
    refine kept_mk ?_
    assumption
  clear_value x3
  intro x4
  have hx4 : Kept m0 s0 (x4) := by
    unfold x4
    refine kept_ite ?_ ?_
    · refine State.linkBegin_kept ?_
      assumption
    · assumption
  clear_value x4
  intro x5
  have hx5 : Kept m0 s0 (x5) := by
    unfold x5
    refine State.joinCheck_kept ?_
    refine State.partnerBack_kept ?_
    refine State.alignSeen_kept ?_
    assumption
  clear_value x5
  refine kept_ite ?_ ?_
  · refine State.resyncStart_kept ?_
    assumption
  · assumption

theorem execPairBeacon_kept {m0 : May} {s0 : State} {a1 : FrameHead} {a2 : Beacon} {s : State} (h : Kept m0 s0 s) : OutKept m0 s0 (execPairBeacon a1 a2 s) := by
  unfold execPairBeacon
  refine done_kept ?_
  refine State.settle_kept ?_
  refine State.frameIn_kept ?_ ?_
  · assumption
  · intro v0_0 v0_1
    refine State.beaconIn_kept ?_
    assumption

theorem execPairAck_kept {m0 : May} {s0 : State} {a1 : FrameHead} {a2 : Word} {s : State} (h : Kept m0 s0 s) : OutKept m0 s0 (execPairAck a1 a2 s) := by
  unfold execPairAck
  refine done_kept ?_
  refine State.frameIn_kept ?_ ?_
  · assumption
  · intro v0_0 v0_1
    lift_lets
    intro x1
    clear_value x1
    intro x2
    clear_value x2
    intro x3
    have hx3 : Kept m0 s0 (x3) := by
      unfold x3
      refine kept_mk ?_
      assumption
    clear_value x3
    refine State.resyncAcked_kept ?_
    assumption

theorem execPairNak_kept {m0 : May} {s0 : State} {a1 : FrameHead} {a2 : Word} {a3 : Fin 256} {s : State} (h : Kept m0 s0 s) : OutKept m0 s0 (execPairNak a1 a2 a3 s) := by
  unfold execPairNak
  refine done_kept ?_
  refine State.settle_kept ?_
  refine State.frameIn_kept ?_ ?_
  · assumption
  · intro v0_0 v0_1
    lift_lets
    intro x1
    have hx1 : Kept m0 s0 (x1) := by
      unfold x1
      refine State.event_kept ?_
      refine State.inc_kept ?_
      assumption
    clear_value x1
    intro x2
    clear_value x2
    intro x3
    have hx3 : Kept m0 s0 (x3) := by
      unfold x3
      refine kept_mk ?_
      assumption
    clear_value x3
    intro x4
    clear_value x4
    refine kept_ite ?_ ?_
    · refine State.setB_kept ?_
      refine kept_mk ?_
      assumption
    · assumption

theorem execPairObject_kept {m0 : Bool} {s0 : State} {a1 : FrameHead} {a2 : List ObjRecord} {s : State} (h : Kept ⟨m0, true⟩ s0 s) : OutKept ⟨m0, true⟩ s0 (execPairObject a1 a2 s) := by
  unfold execPairObject
  refine done_kept ?_
  refine State.frameIn_kept ?_ ?_
  · assumption
  · intro v0_0 v0_1
    refine State.iff_kept ?_ ?_
    · assumption
    · intro v1_0 v1_1
      refine State.applyObjects_kept ?_
      assumption

theorem State.loopIn_kept {m0 : May} {s0 s : State} {a2 : LoopRecord} (h : Kept m0 s0 s) : Kept m0 s0 (State.loopIn s a2) := by
  unfold State.loopIn
  lift_lets
  intro x0
  intro x1
  clear_value x1
  intro x2
  have hx2 : Kept m0 s0 (x2) := by
    unfold x2
    refine State.iff_kept ?_ ?_
    · assumption
    · intro v3_0 v3_1
      refine State.inc_kept ?_
      assumption
  clear_value x2
  intro x4
  clear_value x4
  intro x5
  clear_value x5
  intro x6
  clear_value x6
  intro x7
  clear_value x7
  intro x8
  have hx8 : Kept m0 s0 (x8) := by
    unfold x8
    refine kept_mk ?_
    assumption
  clear_value x8
  refine kept_ite ?_ ?_
  · assumption
  · refine kept_ite ?_ ?_
    · assumption
    · refine kept_ite ?_ ?_
      · refine State.setBit_kept ?_
        assumption
      · refine State.setBit_kept ?_
        assumption

theorem execPairLoop_kept {m0 : May} {s0 : State} {a1 : FrameHead} {a2 : List LoopRecord} {s : State} (h : Kept m0 s0 s) : OutKept m0 s0 (execPairLoop a1 a2 s) := by
  unfold execPairLoop
  refine done_kept ?_
  refine State.frameIn_kept ?_ ?_
  · assumption
  · intro v0_0 v0_1
    refine kept_ite ?_ ?_
    · refine State.each_kept ?_ ?_
      · assumption
      · intro v1_0 v1_1 v1_2
        refine State.loopIn_kept ?_
        assumption
    · assumption

theorem execPairConfig_kept {m0 : Bool} {s0 : State} {a1 : FrameHead} {a2 : BitVec 24} {a3 : Bool} {a4 : Word} {a5 : BitVec 64} {s : State} (h : Kept ⟨m0, true⟩ s0 s) : OutKept ⟨m0, true⟩ s0 (execPairConfig a1 a2 a3 a4 a5 s) := by
  unfold execPairConfig
  refine done_kept ?_
  refine State.frameIn_kept ?_ ?_
  · assumption
  · intro v0_0 v0_1
    refine State.iff_kept ?_ ?_
    · assumption
    · intro v1_0 v1_1
      lift_lets
      intro x2
      have hx2 : Kept ⟨m0, true⟩ s0 (x2).1 := by
        refine kept_of (fun q => q.1) (a := x2) (State.applyConfig_kept ?_) rfl
        refine State.flushConfig_kept ?_
        assumption
      clear_value x2
      refine State.refused_kept ?_
      assumption

theorem execPairEstimator_kept {m0 : May} {s0 : State} {a1 : FrameHead} {a2 : List EstRecord} {s : State} (h : Kept m0 s0 s) : OutKept m0 s0 (execPairEstimator a1 a2 s) := by
  unfold execPairEstimator
  refine done_kept ?_
  refine State.frameIn_kept ?_ ?_
  · assumption
  · intro v0_0 v0_1
    refine State.iff_kept ?_ ?_
    · assumption
    · intro v1_0 v1_1
      refine State.applyEsts_kept ?_
      assumption

theorem execPairCatalogue_kept {m0 : Bool} {s0 : State} {a1 : FrameHead} {a2 : List CatRecord} {s : State} (h : Kept ⟨m0, true⟩ s0 s) : OutKept ⟨m0, true⟩ s0 (execPairCatalogue a1 a2 s) := by
  unfold execPairCatalogue
  refine done_kept ?_
  refine State.settle_kept ?_
  refine State.frameIn_kept ?_ ?_
  · assumption
  · intro v0_0 v0_1
    refine State.iff_kept ?_ ?_
    · assumption
    · intro v1_0 v1_1
      refine State.applyCats_kept ?_
      assumption

theorem execPairCommand_kept {m0 : Bool} {s0 : State} {a1 : FrameHead} {a2 : Byte} {s : State} (h : Kept ⟨m0, true⟩ s0 s) : OutKept ⟨m0, true⟩ s0 (execPairCommand a1 a2 s) := by
  unfold execPairCommand
  refine done_kept ?_
  refine State.settle_kept ?_
  refine State.frameIn_kept ?_ ?_
  · assumption
  · intro v0_0 v0_1
    refine State.iff_kept ?_ ?_
    · assumption
    · intro v1_0 v1_1
      refine kept_ite ?_ ?_
      · refine State.bakeCmd_kept ?_
        assumption
      · refine kept_ite ?_ ?_
        · refine State.commitCmd_kept ?_
          assumption
        · assumption

theorem State.bulkIn_kept {m0 : Bool} {s0 s : State} {a2 : FrameHead} {a3 : BulkBlock} (h : Kept ⟨m0, true⟩ s0 s) : Kept ⟨m0, true⟩ s0 (State.bulkIn s a2 a3) := by
  unfold State.bulkIn
  lift_lets
  intro x0
  clear_value x0
  intro x1
  clear_value x1
  intro x2
  have hx2 : Kept ⟨m0, true⟩ s0 (x2) := by
    unfold x2
    refine State.inc_kept ?_
    assumption
  clear_value x2
  split
  · refine State.each_kept ?_ ?_
    · assumption
    · intro v3_0 v3_1 v3_2
      lift_lets
      intro x4
      have hx4 : Kept ⟨m0, true⟩ s0 (x4).1 := by
        refine kept_of (fun q => q.1) (a := x4) (State.applyConfig_kept ?_) rfl
        assumption
      clear_value x4
      refine State.refused_kept ?_
      assumption
  · refine State.applyCats_kept ?_
    assumption
  · refine State.applyEsts_kept ?_
    assumption
  · lift_lets
    intro x5
    have hx5 : Kept ⟨m0, true⟩ s0 (x5) := by
      unfold x5
      refine State.applyObjects_kept ?_
      assumption
    clear_value x5
    refine kept_ite ?_ ?_
    · refine State.enterWaiting_kept ?_
      assumption
    · assumption

theorem execPairBulk_kept {m0 : Bool} {s0 : State} {a1 : FrameHead} {a2 : BulkBlock} {s : State} (h : Kept ⟨m0, true⟩ s0 s) : OutKept ⟨m0, true⟩ s0 (execPairBulk a1 a2 s) := by
  unfold execPairBulk
  refine done_kept ?_
  refine State.settle_kept ?_
  refine State.frameIn_kept ?_ ?_
  · assumption
  · intro v0_0 v0_1
    refine State.bulkIn_kept ?_
    assumption

theorem execLoopSend_kept {m0 : May} {s0 s : State} (h : Kept m0 s0 s) : OutKept m0 s0 (execLoopSend s) := by
  unfold execLoopSend
  refine outKept_ite ?_ ?_
  · lift_lets
    intro x0
    clear_value x0
    intro x1
    have hx1 : Kept m0 s0 (x1) := by
      unfold x1
      refine State.frameSent_kept ?_
      assumption
    clear_value x1
    intro x2
    clear_value x2
    refine done_kept ?_
    refine kept_mk ?_
    assumption
  · refine done_kept ?_
    assumption

theorem execPairOffsetSlew_kept {m0 : May} {s0 s : State} (h : Kept m0 s0 s) : OutKept m0 s0 (execPairOffsetSlew s) := by
  unfold execPairOffsetSlew
  lift_lets
  intro x0
  clear_value x0
  intro x1
  have hx1 : Kept m0 s0 (x1) := by
    unfold x1
    refine State.setI_kept ?_
    refine State.inc_kept ?_
    assumption
  clear_value x1
  intro x2
  clear_value x2
  refine outKept_ite ?_ ?_
  · refine done_kept ?_
    refine kept_mk ?_
    assumption
  · refine done_kept ?_
    assumption

theorem State.pairIdle_kept {m0 : May} {s0 s : State} (h : Kept m0 s0 s) : Kept m0 s0 (State.pairIdle s) := by
  unfold State.pairIdle
  refine kept_ite ?_ ?_
  · assumption
  · lift_lets
    intro x0
    clear_value x0
    intro x1
    have hx1 : Kept m0 s0 (x1) := by
      unfold x1
      split
      · refine kept_ite ?_ ?_
        · refine kept_mk ?_
          assumption
        · assumption
      · assumption
    clear_value x1
    intro x2
    have hx2 : Kept m0 s0 (x2) := by
      unfold x2
      refine State.setB_kept ?_
      assumption
    clear_value x2
    refine State.sendCatalogue_kept ?_
    refine State.sendEstimator_kept ?_
    refine State.sendObjects_kept ?_
    refine State.flushConfig_kept ?_
    refine State.joinCheck_kept ?_
    assumption

theorem State.witSend_kept {m0 : May} {s0 s : State} {a2 : WitFrom} {a3 : WitMsg} (h : Kept m0 s0 s) : Kept m0 s0 (State.witSend s a2 a3) := by
  unfold State.witSend
  refine kept_mk ?_
  assumption

theorem State.witClear_kept {m0 : May} {s0 s : State} (h : Kept m0 s0 s) : Kept m0 s0 (State.witClear s) := by
  unfold State.witClear
  refine kept_mk ?_
  assumption

theorem State.witIn_kept {m0 : May} {s0 s : State} {a2 : WitHead} {a3 : Nat} {a4 : WitFrom → Bool} {a5 : State → State} (h : Kept m0 s0 s) (ha5 : ∀ b0, Kept m0 s0 b0 → Kept m0 s0 (a5 b0)) : Kept m0 s0 (State.witIn s a2 a3 a4 a5) := by
  unfold State.witIn
  lift_lets
  intro x0
  have hx0 : Kept m0 s0 (x0) := by
    unfold x0
    refine State.witClear_kept ?_
    assumption
  clear_value x0
  intro x1
  have hx1 : Kept m0 s0 (x1) := by
    unfold x1
    refine State.set_kept ?_
    refine State.incWrap_kept ?_
    assumption
  clear_value x1
  intro x2
  have hx2 : Kept m0 s0 (x2) := by
    unfold x2
    refine State.set_kept ?_
    refine State.set_kept ?_
    assumption
  clear_value x2
  refine kept_ite ?_ ?_
  · refine State.inc_kept ?_
    assumption
  · refine ha5 _ ?_
    assumption

theorem State.fromRegistrar_kept {m0 : May} {s0 s : State} {a2 : WitHead} {a3 : Nat} {a4 : State → State} (h : Kept m0 s0 s) (ha4 : ∀ b0, Kept m0 s0 b0 → Kept m0 s0 (a4 b0)) : Kept m0 s0 (State.fromRegistrar s a2 a3 a4) := by
  unfold State.fromRegistrar
  refine kept_ite ?_ ?_
  · assumption
  · refine State.witIn_kept ?_ ?_
    · assumption
    · intro v0_0 v0_1
      lift_lets
      intro x1
      have hx1 : Kept m0 s0 (x1) := by
        unfold x1
        refine State.setB_kept ?_
        assumption
      clear_value x1
      intro x2
      clear_value x2
      intro x3
      have hx3 : Kept m0 s0 (x3) := by
        unfold x3
        refine kept_mk ?_
        assumption
      clear_value x3
      intro x4
      have hx4 : Kept m0 s0 (x4) := by
        unfold x4
        refine ha4 _ ?_
        assumption
      clear_value x4
      refine State.witSend_kept ?_
      assumption

theorem State.pollIn_kept {m0 : Bool} {s0 s : State} {a2 : WitHead} {a3 : Bool} {a4 : Fin 4} {a5 : Fin 4} (h : Kept ⟨m0, true⟩ s0 s) : Kept ⟨m0, true⟩ s0 (State.pollIn s a2 a3 a4 a5) := by
  unfold State.pollIn
  refine State.fromRegistrar_kept ?_ ?_
  · assumption
  · intro v0_0 v0_1
    lift_lets
    intro x1
    have hx1 : Kept ⟨m0, true⟩ s0 (x1) := by
      unfold x1
      refine State.setB_kept ?_
      refine State.set_kept ?_
      refine State.set_kept ?_
      assumption
    clear_value x1
    intro x2
    clear_value x2
    intro x3
    clear_value x3
    intro x4
    have hx4 : Kept ⟨m0, true⟩ s0 (x4) := by
      unfold x4
      refine kept_mk ?_
      assumption
    clear_value x4
    intro x5
    have hx5 : Kept ⟨m0, true⟩ s0 (x5) := by
      unfold x5
      refine kept_ite ?_ ?_
      · refine State.partnerLost_kept ?_
        assumption
      · refine State.partnerBack_kept ?_
        assumption
    clear_value x5
    refine State.settle_kept ?_
    refine State.joinCheck_kept ?_
    assumption

theorem execWitnessPoll_kept {m0 : Bool} {s0 : State} {a1 : WitHead} {a2 : Bool} {a3 : Fin 4} {a4 : Fin 4} {s : State} (h : Kept ⟨m0, true⟩ s0 s) : OutKept ⟨m0, true⟩ s0 (execWitnessPoll a1 a2 a3 a4 s) := by
  unfold execWitnessPoll
  refine done_kept ?_
  refine State.iff_kept ?_ ?_
  · assumption
  · intro v0_0 v0_1
    refine State.pollIn_kept ?_
    assumption

theorem State.epochIn_kept {m0 : Bool} {s0 s : State} {a2 : WitHead} {a3 : EpochMsg} (h : Kept ⟨m0, true⟩ s0 s) : Kept ⟨m0, true⟩ s0 (State.epochIn s a2 a3) := by
  unfold State.epochIn
  refine State.fromRegistrar_kept ?_ ?_
  · assumption
  · intro v0_0 v0_1
    lift_lets
    intro x1
    clear_value x1
    intro x2
    intro x3
    clear_value x3
    refine kept_ite ?_ ?_
    · refine State.inc_kept ?_
      assumption
    · refine kept_ite ?_ ?_
      · refine State.adopt_kept ?_
        assumption
      · refine kept_ite ?_ ?_
        · refine State.adopt_kept ?_
          refine State.inc_kept ?_
          assumption
        · refine kept_mk ?_
          assumption

theorem execEpoch_kept {m0 : Bool} {s0 : State} {a1 : WitHead} {a2 : EpochMsg} {s : State} (h : Kept ⟨m0, true⟩ s0 s) : OutKept ⟨m0, true⟩ s0 (execEpoch a1 a2 s) := by
  unfold execEpoch
  refine done_kept ?_
  refine State.iff_kept ?_ ?_
  · assumption
  · intro v0_0 v0_1
    refine State.epochIn_kept ?_
    assumption

theorem execEpochEffective_kept {m0 : Bool} {s0 s : State} (h : Kept ⟨m0, true⟩ s0 s) : OutKept ⟨m0, true⟩ s0 (execEpochEffective s) := by
  unfold execEpochEffective
  split
  · refine done_kept ?_
    assumption
  · refine outKept_ite ?_ ?_
    · refine done_kept ?_
      assumption
    · refine done_kept ?_
      refine State.adopt_kept ?_
      assumption

theorem State.fenceFor_kept {m0 : Bool} {s0 s : State} {a2 : Nat} (h : Kept ⟨m0, true⟩ s0 s) : Kept ⟨m0, true⟩ s0 (State.fenceFor s a2) := by
  unfold State.fenceFor
  refine State.keepTime_kept ?_ ?_
  · assumption
  · intro v0_0 v0_1
    refine State.fence_kept ?_
    assumption

theorem State.fenceIn_kept {m0 : Bool} {s0 s : State} {a2 : WitHead} {a3 : FenceCause} (h : Kept ⟨m0, true⟩ s0 s) : Kept ⟨m0, true⟩ s0 (State.fenceIn s a2 a3) := by
  unfold State.fenceIn
  refine State.fromRegistrar_kept ?_ ?_
  · assumption
  · intro v0_0 v0_1
    refine State.fenceFor_kept ?_
    assumption

theorem execFence_kept {m0 : Bool} {s0 : State} {a1 : WitHead} {a2 : FenceCause} {s : State} (h : Kept ⟨m0, true⟩ s0 s) : OutKept ⟨m0, true⟩ s0 (execFence a1 a2 s) := by
  unfold execFence
  refine done_kept ?_
  refine State.iff_kept ?_ ?_
  · assumption
  · intro v0_0 v0_1
    refine State.fenceIn_kept ?_
    assumption

theorem execFenceTimeout_kept {m0 : Bool} {s0 s : State} (h : Kept ⟨m0, true⟩ s0 s) : OutKept ⟨m0, true⟩ s0 (execFenceTimeout s) := by
  unfold execFenceTimeout
  refine outKept_ite ?_ ?_
  · refine done_kept ?_
    refine State.fenceFor_kept ?_
    assumption
  · refine done_kept ?_
    assumption

theorem execRegistrarLostTimeout_kept {m0 : May} {s0 s : State} (h : Kept m0 s0 s) : OutKept m0 s0 (execRegistrarLostTimeout s) := by
  unfold execRegistrarLostTimeout
  refine outKept_ite ?_ ?_
  · refine done_kept ?_
    refine State.settle_kept ?_
    refine State.setB_kept ?_
    assumption
  · refine done_kept ?_
    assumption

theorem State.rejoin_kept {m0 : May} {s0 s : State} (h : Kept m0 s0 s) : Kept m0 s0 (State.rejoin s) := by
  unfold State.rejoin
  refine kept_ite ?_ ?_
  · refine State.settle_kept ?_
    refine State.joinCheck_kept ?_
    refine State.set_kept ?_
    refine State.unfence_kept ?_
    assumption
  · assumption

theorem execFencedRejoinTimer_kept {m0 : May} {s0 s : State} (h : Kept m0 s0 s) : OutKept m0 s0 (execFencedRejoinTimer s) := by
  unfold execFencedRejoinTimer
  split
  · refine outKept_ite ?_ ?_
    · refine done_kept ?_
      refine State.rejoin_kept ?_
      assumption
    · refine done_kept ?_
      assumption
  · refine done_kept ?_
    assumption

theorem execStableExpiry_kept {m0 : May} {s0 s : State} (h : Kept m0 s0 s) : OutKept m0 s0 (execStableExpiry s) := by
  unfold execStableExpiry
  refine outKept_ite ?_ ?_
  · refine done_kept ?_
    refine kept_mk ?_
    assumption
  · refine done_kept ?_
    assumption

theorem State.migrateCmd_kept {m0 : May} {s0 s : State} (h : Kept m0 s0 s) : Kept m0 s0 (State.migrateCmd s) := by
  unfold State.migrateCmd
  refine kept_ite ?_ ?_
  · refine kept_mk ?_
    assumption
  · assumption

theorem State.revertCmd_kept {m0 : May} {s0 s : State} (h : Kept m0 s0 s) : Kept m0 s0 (State.revertCmd s) := by
  unfold State.revertCmd
  refine kept_ite ?_ ?_
  · refine kept_mk ?_
    assumption
  · assumption

theorem execPairMigrate_kept {m0 : May} {s0 : State} {a1 : Requester} {s : State} (h : Kept m0 s0 s) : OutKept m0 s0 (execPairMigrate a1 s) := by
  unfold execPairMigrate
  refine done_kept ?_
  refine State.gateRole_kept ?_ ?_
  · assumption
  · intro v0_0 v0_1
    refine State.migrateCmd_kept ?_
    assumption

theorem execPairRevert_kept {m0 : May} {s0 : State} {a1 : Requester} {s : State} (h : Kept m0 s0 s) : OutKept m0 s0 (execPairRevert a1 s) := by
  unfold execPairRevert
  refine done_kept ?_
  refine State.gateRole_kept ?_ ?_
  · assumption
  · intro v0_0 v0_1
    refine State.revertCmd_kept ?_
    assumption

theorem execPairRejoin_kept {m0 : May} {s0 : State} {a1 : Requester} {s : State} (h : Kept m0 s0 s) : OutKept m0 s0 (execPairRejoin a1 s) := by
  unfold execPairRejoin
  refine done_kept ?_
  refine State.gateRole_kept ?_ ?_
  · assumption
  · intro v0_0 v0_1
    refine State.rejoin_kept ?_
    assumption

theorem execFenceSelf_kept {m0 : Bool} {s0 : State} {a1 : Requester} {s : State} (h : Kept ⟨m0, true⟩ s0 s) : OutKept ⟨m0, true⟩ s0 (execFenceSelf a1 s) := by
  unfold execFenceSelf
  refine done_kept ?_
  refine State.gateRole_kept ?_ ?_
  · assumption
  · intro v0_0 v0_1
    refine State.fenceFor_kept ?_
    assumption

theorem State.setView_kept {m0 : May} {s0 s : State} {a2 : Fin 2} {a3 : Nat} (h : Kept m0 s0 s) : Kept m0 s0 (State.setView s a2 a3) := by
  unfold State.setView
  refine State.set_kept ?_
  assumption

theorem State.issue_kept {m0 : May} {s0 s : State} {a2 : EpochMsg} {a3 : List (Fin 2)} (h : Kept m0 s0 s) : Kept m0 s0 (State.issue s a2 a3) := by
  unfold State.issue
  lift_lets
  intro x0
  have hx0 : Kept m0 s0 (x0) := by
    unfold x0
    refine State.inc_kept ?_
    assumption
  clear_value x0
  intro x1
  clear_value x1
  intro x2
  clear_value x2
  intro x3
  have hx3 : Kept m0 s0 (x3) := by
    unfold x3
    refine kept_mk ?_
    assumption
  clear_value x3
  refine State.each_kept ?_ ?_
  · assumption
  · intro v4_0 v4_1 v4_2
    refine State.witSend_kept ?_
    assumption

theorem State.takeFrom_kept {m0 : May} {s0 s : State} {a2 : Fin 2} {a3 : Fin 6} {a4 : Nat} (h : Kept m0 s0 s) : Kept m0 s0 (State.takeFrom s a2 a3 a4) := by
  unfold State.takeFrom
  lift_lets
  intro x0
  clear_value x0
  intro x1
  have hx1 : Kept m0 s0 (x1) := by
    unfold x1
    refine State.issue_kept ?_
    assumption
  clear_value x1
  intro x2
  clear_value x2
  intro x3
  clear_value x3
  intro x4
  have hx4 : Kept m0 s0 (x4) := by
    unfold x4
    refine kept_ite ?_ ?_
    · refine kept_mk ?_
      assumption
    · assumption
  clear_value x4
  refine State.setView_kept ?_
  assumption

theorem State.judgeSilent_kept {m0 : May} {s0 s : State} {a2 : Fin 2} (h : Kept m0 s0 s) : Kept m0 s0 (State.judgeSilent s a2) := by
  unfold State.judgeSilent
  lift_lets
  intro x0
  clear_value x0
  refine kept_ite ?_ ?_
  · assumption
  · refine kept_ite ?_ ?_
    · refine State.takeFrom_kept ?_
      assumption
    · refine kept_ite ?_ ?_
      · refine State.takeFrom_kept ?_
        assumption
      · assumption

theorem State.judgeLink_kept {m0 : May} {s0 s : State} (h : Kept m0 s0 s) : Kept m0 s0 (State.judgeLink s) := by
  unfold State.judgeLink
  lift_lets
  intro x0
  clear_value x0
  intro x1
  clear_value x1
  intro x2
  have hx2 : Kept m0 s0 (x2) := by
    unfold x2
    refine State.witSend_kept ?_
    refine State.inc_kept ?_
    assumption
  clear_value x2
  intro x3
  clear_value x3
  intro x4
  clear_value x4
  refine kept_ite ?_ ?_
  · assumption
  · refine kept_mk ?_
    assumption

theorem State.judgeRequest_kept {m0 : May} {s0 s : State} {a2 : Fin 2} {a3 : HeartbeatMsg} (h : Kept m0 s0 s) : Kept m0 s0 (State.judgeRequest s a2 a3) := by
  unfold State.judgeRequest
  lift_lets
  intro x0
  clear_value x0
  intro x1
  clear_value x1
  intro x2
  have hx2 : Kept m0 s0 (x2) := by
    unfold x2
    refine State.issue_kept ?_
    assumption
  clear_value x2
  intro x3
  clear_value x3
  intro x4
  clear_value x4
  refine kept_ite ?_ ?_
  · refine kept_mk ?_
    assumption
  · refine kept_ite ?_ ?_
    · refine State.issue_kept ?_
      assumption
    · assumption

theorem State.beatIn_kept {m0 : May} {s0 s : State} {a2 : WitHead} {a3 : HeartbeatMsg} (h : Kept m0 s0 s) : Kept m0 s0 (State.beatIn s a2 a3) := by
  unfold State.beatIn
  refine kept_ite ?_ ?_
  · assumption
  · refine State.witIn_kept ?_ ?_
    · assumption
    · intro v0_0 v0_1
      lift_lets
      intro x1
      intro x2
      clear_value x2
      intro x3
      clear_value x3
      intro x4
      clear_value x4
      intro x5
      have hx5 : Kept m0 s0 (x5) := by
        unfold x5
        refine State.stamp_kept ?_
        assumption
      clear_value x5
      intro x6
      clear_value x6
      intro x7
      clear_value x7
      intro x8
      have hx8 : Kept m0 s0 (x8) := by
        unfold x8
        refine kept_mk ?_
        assumption
      clear_value x8
      intro x9
      clear_value x9
      intro x10
      have hx10 : Kept m0 s0 (x10) := by
        unfold x10
        refine kept_ite ?_ ?_
        · refine State.takeFrom_kept ?_
          assumption
        · refine kept_ite ?_ ?_
          · refine State.takeFrom_kept ?_
            assumption
          · refine kept_ite ?_ ?_
            · refine State.setView_kept ?_
              assumption
            · assumption
      clear_value x10
      refine kept_ite ?_ ?_
      · refine State.setView_kept ?_
        assumption
      · refine State.judgeRequest_kept ?_
        refine State.judgeLink_kept ?_
        refine State.judgeSilent_kept ?_
        assumption

theorem execHeartbeat_kept {m0 : May} {s0 : State} {a1 : WitHead} {a2 : HeartbeatMsg} {s : State} (h : Kept m0 s0 s) : OutKept m0 s0 (execHeartbeat a1 a2 s) := by
  unfold execHeartbeat
  refine done_kept ?_
  refine State.beatIn_kept ?_
  assumption

theorem execHeartbeatTimeout_kept {m0 : May} {s0 : State} {a1 : Fin 2} {s : State} (h : Kept m0 s0 s) : OutKept m0 s0 (execHeartbeatTimeout a1 s) := by
  unfold execHeartbeatTimeout
  refine outKept_ite ?_ ?_
  · refine done_kept ?_
    refine State.judgeSilent_kept ?_
    refine State.witClear_kept ?_
    assumption
  · refine done_kept ?_
    assumption

theorem execRegistrarStart_kept {m0 : May} {s0 s : State} (h : Kept m0 s0 s) : OutKept m0 s0 (execRegistrarStart s) := by
  unfold execRegistrarStart
  split
  · refine done_kept ?_
    assumption
  · lift_lets
    intro x0
    clear_value x0
    intro x1
    have hx1 : Kept m0 s0 (x1) := by
      unfold x1
      refine State.witClear_kept ?_
      assumption
    clear_value x1
    intro x2
    clear_value x2
    intro x3
    clear_value x3
    intro x4
    have hx4 : Kept m0 s0 (x4) := by
      unfold x4
      refine State.issue_kept ?_
      assumption
    clear_value x4
    intro x5
    have hx5 : Kept m0 s0 (x5) := by
      unfold x5
      refine State.each_kept ?_ ?_
      · assumption
      · intro v6_0 v6_1 v6_2
        refine State.setView_kept ?_
        assumption
    clear_value x5
    intro x7
    clear_value x7
    intro x8
    clear_value x8
    refine outKept_ite ?_ ?_
    · refine done_kept ?_
      assumption
    · refine done_kept ?_
      refine kept_mk ?_
      assumption

theorem execWitnessPollSend_kept {m0 : May} {s0 : State} {a1 : Fin 2} {s : State} (h : Kept m0 s0 s) : OutKept m0 s0 (execWitnessPollSend a1 s) := by
  unfold execWitnessPollSend
  refine outKept_ite ?_ ?_
  · lift_lets
    intro x0
    have hx0 : Kept m0 s0 (x0) := by
      unfold x0
      refine State.witSend_kept ?_
      refine State.witClear_kept ?_
      assumption
    clear_value x0
    intro x1
    clear_value x1
    intro x2
    clear_value x2
    refine done_kept ?_
    refine kept_mk ?_
    assumption
  · refine done_kept ?_
    assumption

theorem State.registrarIdle_kept {m0 : May} {s0 s : State} (h : Kept m0 s0 s) : Kept m0 s0 (State.registrarIdle s) := by
  unfold State.registrarIdle
  split
  · refine State.iff_kept ?_ ?_
    · assumption
    · intro v0_0 v0_1
      refine State.inc_kept ?_
      assumption
  · assumption

theorem State.witnessBytes_kept {m0 : Bool} {s0 s : State} {a2 : List Byte} (h : Kept ⟨m0, true⟩ s0 s) : Kept ⟨m0, true⟩ s0 (State.witnessBytes s a2) := by
  unfold State.witnessBytes
  split
  · refine State.inc_kept ?_
    assumption
  · split
    · refine State.pollIn_kept ?_
      assumption
    · refine State.epochIn_kept ?_
      assumption
    · refine State.fenceIn_kept ?_
      assumption
    · refine State.inc_kept ?_
      assumption

theorem execPraxWitness_kept {m0 : Bool} {s0 : State} {a1 : Datagram} {s : State} (h : Kept ⟨m0, true⟩ s0 s) : OutKept ⟨m0, true⟩ s0 (execPraxWitness a1 s) := by
  unfold execPraxWitness
  refine done_kept ?_
  refine State.praxFrame_kept ?_ ?_
  · assumption
  · intro v0_0 v0_1
    lift_lets
    intro x1
    clear_value x1
    refine kept_ite ?_ ?_
    · refine State.discard_kept ?_
      assumption
    · refine State.praxRequest_kept ?_ ?_
      · assumption
      · intro v2_0 v2_1 v2_2
        lift_lets
        intro x3
        have hx3 : Kept ⟨m0, true⟩ s0 (x3) := by
          unfold x3
          refine State.witnessBytes_kept ?_
          refine State.witClear_kept ?_
          assumption
        clear_value x3
        refine kept_ite ?_ ?_
        · refine State.sessError_kept ?_
          assumption
        · split
          · refine State.sessReply_kept ?_
            assumption
          · assumption

/-- The loss of power keeps the memory that NVM has, and the queue; the counter is 0. -/
theorem State.powerOff_stores (s : State) : sparseWf regReset s.powerOff.regs = true ∧
    (Memory.wf s.mem = true → Memory.wf s.powerOff.mem = true) ∧ s.powerOff.pending = s.pending ∧ s.powerOff.tick = 0 :=
  ⟨rfl, fun h => sparseWf_filter _ h, rfl, rfl⟩

theorem State.powerOff_boot (s : State) : s.powerOff.boot.g = none ∧ s.powerOff.free = s.free ∧ s.powerOff.power = .normal :=
  ⟨rfl, rfl, rfl⟩

theorem State.wakeForget_kept {m0 : May} {s0 s : State} (h : Kept m0 s0 s) : Kept m0 s0 (State.wakeForget s) := by
  unfold State.wakeForget
  refine kept_mk ?_
  assumption

theorem State.wipeCut_kept {m0 : Bool} {s0 s : State} {a2 : Nat} (h : Kept ⟨m0, true⟩ s0 s) : Kept ⟨m0, true⟩ s0 (State.wipeCut s a2) := by
  unfold State.wipeCut
  split
  · assumption
  · refine kept_ite ?_ ?_
    · assumption
    · refine State.kilnWiped_kept ?_
      refine State.nvmClear_kept ?_
      assumption

/-- POWER_ON_RESET_ASSERT keeps the stores canonical and the queue, and leaves the counter or puts it at 0. -/
theorem execPowerOnResetAssert_stores {s t : State} {n : Fin 65} (e : execPowerOnResetAssert n s = .next t) :
    (sparseWf regReset s.regs = true → sparseWf regReset t.regs = true) ∧ (Memory.wf s.mem = true → Memory.wf t.mem = true) ∧
    t.pending = s.pending ∧ (t.tick = s.tick ∨ t.tick = 0) := by
  unfold execPowerOnResetAssert at e
  dsimp only at e
  have hw : Kept ⟨false, true⟩ s (s.wipeCut n.val) := State.wipeCut_kept (Kept.refl s)
  obtain ⟨h1, h2, h3, h4⟩ := State.powerOff_stores (s.wipeCut n.val)
  have h2 := fun x => h2 (hw.mem x)
  have h3 := h3.trans hw.pending
  split at e
  · cases e; exact ⟨id, id, rfl, .inl rfl⟩
  · split at e <;> (cases e; exact ⟨fun _ => h1, h2, h3, .inr h4⟩)

theorem execVinGood_kept {m0 : May} {s0 s : State} (h : Kept m0 s0 s) : OutKept m0 s0 (execVinGood s) := by
  unfold execVinGood
  refine done_kept ?_
  refine kept_mk ?_
  assumption

/-- POWER_ON_RESET_RELEASE likewise. -/
theorem execPowerOnResetRelease_stores {s t : State} {b : Bool} (e : execPowerOnResetRelease b s = .next t) :
    (sparseWf regReset s.regs = true → sparseWf regReset t.regs = true) ∧ (Memory.wf s.mem = true → Memory.wf t.mem = true) ∧
    t.pending = s.pending ∧ (t.tick = s.tick ∨ t.tick = 0) := by
  unfold execPowerOnResetRelease at e
  split at e
  · cases e; exact ⟨id, id, rfl, .inl rfl⟩
  · cases e
    obtain ⟨h1, h2, h3, h4⟩ := State.powerOff_stores s
    have k : ∀ (u : State) (v w x : Nat) (y : Bool), Kept ⟨false, true⟩ u ((((u.set SYS_RST_CAUSE_CAUSE v).setB SYS_RST_CAUSE_PREV_HALT y).set
        SYS_BROWNOUT_CNT_COUNT w).set SYS_SUPPLY_STAT_GOOD x).settle :=
      fun u _ _ _ _ => State.settle_kept (State.set_kept (State.set_kept (State.setB_kept (State.set_kept (Kept.refl u)))))
    exact ⟨fun _ => (k _ _ _ _ _).regs h1, fun x => (k _ _ _ _ _).mem (h2 x), (k _ _ _ _ _).pending.trans h3,
      .inr ((k _ _ _ _ _).tick.trans h4)⟩

theorem execWake_kept {m0 : May} {s0 s : State} (h : Kept m0 s0 s) : OutKept m0 s0 (execWake s) := by
  unfold execWake
  refine outKept_ite ?_ ?_
  · refine done_kept ?_
    refine kept_mk ?_
    assumption
  · refine done_kept ?_
    assumption

theorem State.keepLost_kept {m0 : May} {s0 s : State} (h : Kept m0 s0 s) : Kept m0 s0 (State.keepLost s) := by
  unfold State.keepLost
  exact State.iff_kept (⟨h.regs, h.mem, h.same, h.pending, h.tick, h.power, h.g, h.free⟩) (fun _ h => State.set_kept (State.setBit_kept h))

theorem execVbatKeepLoss_kept {m0 : May} {s0 s : State} (h : Kept m0 s0 s) : OutKept m0 s0 (execVbatKeepLoss s) := by
  unfold execVbatKeepLoss
  refine done_kept ?_
  refine State.keepLost_kept ?_
  assumption

theorem execSupplyBankChange_kept {m0 : Bool} {s0 : State} {a1 : Fin 6} {a2 : Bool} {a3 : Bool} {s : State} (h : Kept ⟨m0, true⟩ s0 s) : OutKept ⟨m0, true⟩ s0 (execSupplyBankChange a1 a2 a3 s) := by
  unfold execSupplyBankChange
  refine outKept_ite ?_ ?_
  · refine done_kept ?_
    refine kept_ite ?_ ?_
    · refine State.iff_kept ?_ ?_
      · refine kept_mk ?_
        assumption
      · intro v0_0 v0_1
        refine State.setBit_kept ?_
        assumption
    · refine State.keepLost_kept ?_
      assumption
  · refine outKept_ite ?_ ?_
    · refine done_kept ?_
      assumption
    · lift_lets
      intro x1
      have hx1 : Kept ⟨m0, true⟩ s0 (x1) := by
        unfold x1
        refine State.setBit_kept ?_
        assumption
      clear_value x1
      intro x2
      have hx2 : Kept ⟨m0, true⟩ s0 (x2) := by
        unfold x2
        refine State.iff_kept ?_ ?_
        · assumption
        · intro v3_0 v3_1
          refine State.setBit_kept ?_
          assumption
      clear_value x2
      intro x4
      have hx4 : Kept ⟨m0, true⟩ s0 (x4) := by
        unfold x4
        refine State.iff_kept ?_ ?_
        · assumption
        · intro v5_0 v5_1
          refine State.event_kept ?_
          assumption
      clear_value x4
      intro x6
      have hx6 : Kept ⟨m0, true⟩ s0 (x6) := by
        unfold x6
        refine State.iff_kept ?_ ?_
        · assumption
        · intro v7_0 v7_1
          refine State.ethShowAll_kept ?_
          refine State.iff_kept ?_ ?_
          · assumption
          · intro v8_0 v8_1
            refine State.linkDown_kept ?_
            assumption
      clear_value x6
      intro x9
      have hx9 : Kept ⟨m0, true⟩ s0 (x9) := by
        unfold x9
        refine State.iff_kept ?_ ?_
        · assumption
        · intro v10_0 v10_1
          refine State.resetBall_kept ?_
          assumption
      clear_value x9
      intro x11
      have hx11 : Kept ⟨m0, true⟩ s0 (x11) := by
        unfold x11
        refine State.iff_kept ?_ ?_
        · assumption
        · intro v12_0 v12_1
          refine State.cascBall_kept ?_
          refine State.cascBall_kept ?_
          assumption
      clear_value x11
      intro x13
      have hx13 : Kept ⟨m0, true⟩ s0 (x13) := by
        unfold x13
        refine State.iff_kept ?_ ?_
        · assumption
        · intro v14_0 v14_1
          refine State.twbEval_kept ?_
          assumption
      clear_value x13
      refine done_kept ?_
      refine State.settle_kept ?_
      assumption

theorem execEthLinkChange_kept {m0 : May} {s0 : State} {a1 : Fin 2} {a2 : EthLine} {a3 : Fin 3} {a4 : Bool} {a5 : Option (Fin 129)} {s : State} (h : Kept m0 s0 s) : OutKept m0 s0 (execEthLinkChange a1 a2 a3 a4 a5 s) := by
  unfold execEthLinkChange
  lift_lets
  intro x0
  have hx0 : Kept m0 s0 (x0) := by
    unfold x0
    refine State.setB_kept ?_
    assumption
  clear_value x0
  intro x1
  have hx1 : Kept m0 s0 (x1) := by
    unfold x1
    refine State.iff_kept ?_ ?_
    · assumption
    · intro v2_0 v2_1
      refine State.setB_kept ?_
      refine State.set_kept ?_
      assumption
  clear_value x1
  intro x3
  clear_value x3
  intro x4
  clear_value x4
  intro x5
  have hx5 : Kept m0 s0 (x5) := by
    unfold x5
    refine kept_mk ?_
    assumption
  clear_value x5
  refine done_kept ?_
  refine State.settle_kept ?_
  refine State.ethShowAll_kept ?_
  refine State.iff_kept ?_ ?_
  · assumption
  · intro v6_0 v6_1
    refine State.linkDown_kept ?_
    assumption

theorem execStrapLatch_kept {m0 : May} {s0 : State} {a1 : Vector (BitVec 6) 8} {s : State} (h : Kept m0 s0 s) : OutKept m0 s0 (execStrapLatch a1 s) := by
  unfold execStrapLatch
  refine outKept_ite ?_ ?_
  · refine done_kept ?_
    assumption
  · lift_lets
    intro x0
    intro x1
    have hx1 : Kept m0 s0 (x1) := by
      unfold x1
      refine kept_mk ?_
      assumption
    clear_value x1
    intro x2
    have hx2 : Kept m0 s0 (x2) := by
      unfold x2
      refine State.set_kept ?_
      assumption
    clear_value x2
    intro x3
    have hx3 : Kept m0 s0 (x3) := by
      unfold x3
      refine State.event_kept ?_
      refine State.setB_kept ?_
      assumption
    clear_value x3
    refine outKept_ite ?_ ?_
    · refine done_kept ?_
      refine State.settle_kept ?_
      assumption
    · refine done_kept ?_
      refine State.settle_kept ?_
      assumption

theorem State.countersLoad_kept {m0 : Bool} {s0 s : State} (h : Kept ⟨m0, true⟩ s0 s) : Kept ⟨m0, true⟩ s0 (State.countersLoad s) := by
  unfold State.countersLoad
  lift_lets
  intro x0
  clear_value x0
  intro x1
  clear_value x1
  intro x2
  clear_value x2
  intro x3
  clear_value x3
  intro x4
  clear_value x4
  intro x5
  have hx5 : ∀ b0 b1 b2, Kept ⟨m0, true⟩ s0 b0 → Kept ⟨m0, true⟩ s0 (x5 b0 b1 b2) := by
    intro v6_0 v6_1 v6_2 v6_3
    unfold x5
    refine State.iff_kept ?_ ?_
    · assumption
    · intro v7_0 v7_1
      refine State.nvmWrite_kept ?_
      assumption
  clear_value x5
  intro x8
  have hx8 : Kept ⟨m0, true⟩ s0 (x8) := by
    unfold x8
    refine hx5 _ _ _ ?_
    refine hx5 _ _ _ ?_
    assumption
  clear_value x8
  intro x9
  have hx9 : Kept ⟨m0, true⟩ s0 (x9) := by
    unfold x9
    refine State.setB_kept ?_
    refine State.setB_kept ?_
    refine State.setB_kept ?_
    assumption
  clear_value x9
  intro x10
  clear_value x10
  intro x11
  clear_value x11
  intro x12
  have hx12 : Kept ⟨m0, true⟩ s0 (x12) := by
    unfold x12
    refine State.set_kept ?_
    refine State.set_kept ?_
    refine State.set_kept ?_
    assumption
  clear_value x12
  intro x13
  have hx13 : Kept ⟨m0, true⟩ s0 (x13) := by
    unfold x13
    refine State.set_kept ?_
    assumption
  clear_value x13
  intro x14
  intro x15
  clear_value x15
  intro x16
  have hx16 : Kept ⟨m0, true⟩ s0 (x16) := by
    unfold x16
    refine kept_mk ?_
    assumption
  clear_value x16
  refine State.timeSave_kept ?_
  assumption

theorem State.recorderLoad_kept {m0 : May} {s0 s : State} (h : Kept m0 s0 s) : Kept m0 s0 (State.recorderLoad s) := by
  unfold State.recorderLoad
  lift_lets
  intro x0
  clear_value x0
  intro x1
  clear_value x1
  intro x2
  clear_value x2
  intro x3
  have hx3 : Kept m0 s0 (x3) := by
    unfold x3
    refine State.set_kept ?_
    refine State.set_kept ?_
    refine State.set_kept ?_
    refine State.set_kept ?_
    assumption
  clear_value x3
  intro x4
  have hx4 : Kept m0 s0 (x4) := by
    unfold x4
    refine State.set_kept ?_
    assumption
  clear_value x4
  intro x5
  clear_value x5
  intro x6
  have hx6 : Kept m0 s0 (x6) := by
    unfold x6
    refine kept_mk ?_
    assumption
  clear_value x6
  refine State.recordOwn_kept ?_
  assumption

theorem State.tornReport_kept {m0 : May} {s0 s : State} {a2 : List Nat} (h : Kept m0 s0 s) : Kept m0 s0 (State.tornReport s a2) := by
  unfold State.tornReport
  lift_lets
  intro x0
  clear_value x0
  intro x1
  have hx1 : Kept m0 s0 (x1) := by
    unfold x1
    refine kept_mk ?_
    assumption
  clear_value x1
  intro x2
  have hx2 : Kept m0 s0 (x2) := by
    unfold x2
    refine State.set_kept ?_
    refine State.set_kept ?_
    assumption
  clear_value x2
  refine State.each_kept ?_ ?_
  · assumption
  · intro v3_0 v3_1 v3_2
    refine State.event_kept ?_
    assumption

theorem State.kilnRegsLoad_kept {m0 : May} {s0 s : State} {a2 : List (Nat × Word)} (h : Kept m0 s0 s) : Kept m0 s0 (State.kilnRegsLoad s a2) := by
  unfold State.kilnRegsLoad
  refine State.each_kept ?_ ?_
  · assumption
  · intro v0_0 v0_1 v0_2
    lift_lets
    intro x1
    clear_value x1
    refine kept_ite ?_ ?_
    · assumption
    · refine State.setReg_kept ?_
      assumption

theorem State.cellsTo_kept {m0 : Bool} {s0 s : State} {a2 : List Host.Cell} {a3 : Nat} {a4 : Nat} (h : Kept ⟨m0, true⟩ s0 s) : Kept ⟨m0, true⟩ s0 (State.cellsTo s a2 a3 a4) := by
  unfold State.cellsTo
  refine State.each_kept ?_ ?_
  · assumption
  · intro v0_0 v0_1 v0_2
    refine State.setByte_kept ?_
    assumption

theorem State.kilnTake_kept {m0 : Bool} {s0 s : State} {a2 : KilnCopy} (h : Kept ⟨m0, true⟩ s0 s) : Kept ⟨m0, true⟩ s0 (State.kilnTake s a2) := by
  unfold State.kilnTake
  lift_lets
  intro x0
  clear_value x0
  intro x1
  have hx1 : Kept ⟨m0, true⟩ s0 (x1) := by
    unfold x1
    refine State.kilnRegsLoad_kept ?_
    assumption
  clear_value x1
  intro x2
  have hx2 : Kept ⟨m0, true⟩ s0 (x2) := by
    unfold x2
    refine State.setB_kept ?_
    refine State.set_kept ?_
    refine State.set_kept ?_
    assumption
  clear_value x2
  intro x3
  clear_value x3
  intro x4
  have hx4 : Kept ⟨m0, true⟩ s0 (x4) := by
    unfold x4
    refine kept_mk ?_
    assumption
  clear_value x4
  intro x5
  have hx5 : Kept ⟨m0, true⟩ s0 (x5) := by
    unfold x5
    refine State.cellsTo_kept ?_
    assumption
  clear_value x5
  intro x6
  have hx6 : Kept ⟨m0, true⟩ s0 (x6) := by
    unfold x6
    refine State.cellsTo_kept ?_
    refine State.cellsTo_kept ?_
    assumption
  clear_value x6
  intro x7
  have hx7 : Kept ⟨m0, true⟩ s0 (x7) := by
    unfold x7
    refine State.cellsTo_kept ?_
    refine State.cellsTo_kept ?_
    assumption
  clear_value x7
  intro x8
  have hx8 : Kept ⟨m0, true⟩ s0 (x8) := by
    unfold x8
    refine State.each_kept ?_ ?_
    · assumption
    · intro v9_0 v9_1 v9_2
      refine State.setB_kept ?_
      refine State.setKey_kept ?_
      assumption
  clear_value x8
  intro x10
  clear_value x10
  intro x11
  have hx11 : Kept ⟨m0, true⟩ s0 (x11) := by
    unfold x11
    refine kept_mk ?_
    assumption
  clear_value x11
  intro x12
  have hx12 : Kept ⟨m0, true⟩ s0 (x12) := by
    unfold x12
    refine State.each_kept ?_ ?_
    · assumption
    · intro v13_0 v13_1 v13_2
      refine State.entBaked_kept ?_
      assumption
  clear_value x12
  refine State.set_kept ?_
  refine State.set_kept ?_
  refine State.set_kept ?_
  assumption

theorem State.defaultSlots_kept {m0 : Bool} {s0 s : State} (h : Kept ⟨m0, true⟩ s0 s) : Kept ⟨m0, true⟩ s0 (State.defaultSlots s) := by
  unfold State.defaultSlots
  refine State.each_kept ?_ ?_
  · assumption
  · intro v0_0 v0_1 v0_2
    lift_lets
    intro x1
    have hx1 : Kept ⟨m0, true⟩ s0 (x1) := by
      unfold x1
      refine State.setReg_kept ?_
      refine State.setReg_kept ?_
      assumption
    clear_value x1
    intro x2
    have hx2 : Kept ⟨m0, true⟩ s0 (x2) := by
      unfold x2
      refine State.set_kept ?_
      refine State.set_kept ?_
      refine State.set_kept ?_
      assumption
    clear_value x2
    refine State.each_kept ?_ ?_
    · assumption
    · intro v3_0 v3_1 v3_2
      refine State.store_kept ?_
      assumption

theorem State.kilnBlank_kept {m0 : Bool} {s0 s : State} (h : Kept ⟨m0, true⟩ s0 s) : Kept ⟨m0, true⟩ s0 (State.kilnBlank s) := by
  unfold State.kilnBlank
  refine State.defaultSlots_kept ?_
  refine State.setB_kept ?_
  refine State.setB_kept ?_
  assumption

theorem State.kilnSpread_kept {m0 : May} {s0 s : State} (h : Kept m0 s0 s) : Kept m0 s0 (State.kilnSpread s) := by
  unfold State.kilnSpread
  lift_lets
  intro x0
  clear_value x0
  intro x1
  have hx1 : Kept m0 s0 (x1) := by
    unfold x1
    refine State.setLine_kept ?_
    assumption
  clear_value x1
  intro x2
  have hx2 : Kept m0 s0 (x2) := by
    unfold x2
    refine State.showStrTblCrc_kept ?_
    refine State.showTblCrc_kept ?_
    assumption
  clear_value x2
  intro x3
  clear_value x3
  intro x4
  clear_value x4
  intro x5
  clear_value x5
  refine kept_mk ?_
  assumption

theorem State.curvesLoad_kept {m0 : May} {s0 s : State} (h : Kept m0 s0 s) : Kept m0 s0 (State.curvesLoad s).1 := by
  unfold State.curvesLoad
  refine foldl_fst_kept ?_ ?_
  · dsimp only
    assumption
  · intro v0_0 v0_1 v0_2
    lift_lets
    intro x1
    have hx1 : Kept m0 s0 (x1).2 := by
      refine kept_of (fun q => q.2) (a := x1) (State.loadCurve_kept ?_) rfl
      assumption
    clear_value x1
    dsimp only
    assumption

theorem State.kilnRead_kept {m0 : Bool} {s0 s : State} {a2 : Nat} (h : Kept ⟨m0, true⟩ s0 s) : Kept ⟨m0, true⟩ s0 (State.kilnRead s a2) := by
  unfold State.kilnRead
  lift_lets
  intro x0
  have hx0 : Kept ⟨m0, true⟩ s0 (x0) := by
    unfold x0
    refine State.recorderLoad_kept ?_
    refine State.countersLoad_kept ?_
    assumption
  clear_value x0
  intro x1
  clear_value x1
  intro x2
  clear_value x2
  intro x3
  have hx3 : Kept ⟨m0, true⟩ s0 (x3) := by
    unfold x3
    refine State.setB_kept ?_
    refine State.set_kept ?_
    refine State.set_kept ?_
    assumption
  clear_value x3
  intro x4
  have hx4 : Kept ⟨m0, true⟩ s0 (x4) := by
    unfold x4
    refine State.setB_kept ?_
    refine State.setB_kept ?_
    assumption
  clear_value x4
  intro x5
  have hx5 : Kept ⟨m0, true⟩ s0 (x5) := by
    unfold x5
    split
    · refine State.set_kept ?_
      refine State.kilnTake_kept ?_
      assumption
    · refine State.kilnBlank_kept ?_
      assumption
  clear_value x5
  intro x6
  have hx6 : Kept ⟨m0, true⟩ s0 (x6).1 := by
    refine kept_of (fun q => q.1) (a := x6) (State.curvesLoad_kept ?_) rfl
    refine State.kilnSpread_kept ?_
    assumption
  clear_value x6
  intro x7
  have hx7 : Kept ⟨m0, true⟩ s0 (x7) := by
    unfold x7
    refine State.tornReport_kept ?_
    assumption
  clear_value x7
  refine State.iff_kept ?_ ?_
  · assumption
  · intro v8_0 v8_1
    refine State.event_kept ?_
    assumption

theorem execKilnLoad_kept {m0 : Bool} {s0 : State} {a1 : BitVec 16} {s : State} (h : Kept ⟨m0, true⟩ s0 s) : OutKept ⟨m0, true⟩ s0 (execKilnLoad a1 s) := by
  unfold execKilnLoad
  refine outKept_ite ?_ ?_
  · refine done_kept ?_
    assumption
  · lift_lets
    intro x0
    have hx0 : Kept ⟨m0, true⟩ s0 (x0) := by
      unfold x0
      refine State.kilnRead_kept ?_
      assumption
    clear_value x0
    intro x1
    intro x2
    clear_value x2
    intro x3
    have hx3 : Kept ⟨m0, true⟩ s0 (x3) := by
      unfold x3
      refine kept_mk ?_
      assumption
    clear_value x3
    intro x4
    have hx4 : Kept ⟨m0, true⟩ s0 (x4) := by
      unfold x4
      refine State.showSelector_kept ?_
      refine State.setBit_kept ?_
      refine State.stamp_kept ?_
      assumption
    clear_value x4
    refine done_kept ?_
    refine State.settle_kept ?_
    refine State.ethShowAll_kept ?_
    assumption

theorem State.bootTick_kept {m0 : Bool} {s0 s : State} (h : Kept ⟨m0, true⟩ s0 s) : Kept ⟨m0, true⟩ s0 (State.bootTick s) := by
  unfold State.bootTick
  refine kept_ite ?_ ?_
  · refine State.settle_kept ?_
    refine State.bootStart_kept ?_
    refine kept_mk ?_
    assumption
  · assumption

theorem State.mapAtStart_kept {m0 : Bool} {s0 s : State} (h : Kept ⟨m0, true⟩ s0 s) : Kept ⟨m0, true⟩ s0 (State.mapAtStart s) := by
  unfold State.mapAtStart
  lift_lets
  intro x0
  clear_value x0
  intro x1
  have hx1 : Kept ⟨m0, true⟩ s0 (x1) := by
    unfold x1
    refine State.set_kept ?_
    refine State.set_kept ?_
    refine State.set_kept ?_
    refine State.set_kept ?_
    assumption
  clear_value x1
  intro x2
  have hx2 : Kept ⟨m0, true⟩ s0 (x2) := by
    unfold x2
    refine State.set_kept ?_
    refine State.set_kept ?_
    assumption
  clear_value x2
  intro x3
  have hx3 : Kept ⟨m0, true⟩ s0 (x3) := by
    unfold x3
    refine State.iff_kept ?_ ?_
    · assumption
    · intro v4_0 v4_1
      refine State.inc_kept ?_
      assumption
  clear_value x3
  intro x5
  have hx5 : Kept ⟨m0, true⟩ s0 (x5) := by
    unfold x5
    refine State.set_kept ?_
    refine State.setB_kept ?_
    assumption
  clear_value x5
  refine State.each_kept ?_ ?_
  · assumption
  · intro v6_0 v6_1 v6_2
    refine State.setEnt_kept ?_
    assumption

theorem State.decideAll_kept {m0 : Bool} {s0 s : State} {a2 : Live} (h : Kept ⟨m0, true⟩ s0 s) : Kept ⟨m0, true⟩ s0 (State.decideAll s a2) := by
  unfold State.decideAll
  lift_lets
  intro x0
  intro x1
  have hx1 : Kept ⟨m0, true⟩ s0 (x1) := by
    unfold x1
    refine kept_mk ?_
    assumption
  clear_value x1
  intro x2
  clear_value x2
  intro x3
  intro x4
  have hx4 : Kept ⟨m0, true⟩ s0 (x4) := by
    unfold x4
    refine kept_mk ?_
    assumption
  clear_value x4
  intro x5
  have hx5 : Kept ⟨m0, true⟩ s0 (x5) := by
    unfold x5
    refine State.iff_kept ?_ ?_
    · refine State.set_kept ?_
      assumption
    · intro v6_0 v6_1
      refine State.set_kept ?_
      assumption
  clear_value x5
  intro x7
  have hx7 : Kept ⟨m0, true⟩ s0 (x7) := by
    unfold x7
    refine State.each_kept ?_ ?_
    · assumption
    · intro v8_0 v8_1 v8_2
      refine State.strClose_kept ?_
      assumption
  clear_value x7
  intro x9
  have hx9 : Kept ⟨m0, true⟩ s0 (x9) := by
    unfold x9
    refine State.seqStart_kept ?_
    refine State.efuEval_kept ?_
    refine State.efuStart_kept ?_
    assumption
  clear_value x9
  refine kept_ite ?_ ?_
  · assumption
  · refine State.seqTail_kept ?_
    assumption

theorem State.loopsAtStart_kept {m0 : Bool} {s0 s : State} (h : Kept ⟨m0, true⟩ s0 s) : Kept ⟨m0, true⟩ s0 (State.loopsAtStart s) := by
  unfold State.loopsAtStart
  refine kept_ite ?_ ?_
  · assumption
  · lift_lets
    intro x0
    clear_value x0
    intro x1
    clear_value x1
    intro x2
    have hx2 : Kept ⟨m0, true⟩ s0 (x2) := by
      unfold x2
      refine State.admitResult_kept ?_
      assumption
    clear_value x2
    refine kept_ite ?_ ?_
    · refine State.admitView_kept ?_
      assumption
    · refine State.event_kept ?_
      assumption

theorem State.bindingsAtStart_kept {m0 : Bool} {s0 s : State} (h : Kept ⟨m0, true⟩ s0 s) : Kept ⟨m0, true⟩ s0 (State.bindingsAtStart s) := by
  unfold State.bindingsAtStart
  refine State.each_kept ?_ ?_
  · assumption
  · intro v0_0 v0_1 v0_2
    refine kept_ite ?_ ?_
    · refine State.setB_kept ?_
      assumption
    · refine State.rectJoin_kept ?_
      assumption

theorem State.stringsAtStart_kept {m0 : Bool} {s0 s : State} (h : Kept ⟨m0, true⟩ s0 s) : Kept ⟨m0, true⟩ s0 (State.stringsAtStart s) := by
  have k : ∀ (b : Bool), Kept ⟨m0, true⟩ s0 ((({ s with bat := { s.bat with tblNew := 3 } } : State).tblTake).each
      (({ s with bat := { s.bat with tblNew := 3 } } : State).tblTake).confStrs
      (fun s n => (s.strRestore n).setStr n { (s.strRestore n).str n with wakeRest := b })) := fun b =>
    State.each_kept (State.tblTake_kept (kept_mk h)) (fun _ _ h => State.setStr_kept (State.strRestore_kept h))
  exact k _

theorem State.pgAtStart_kept {m0 : May} {s0 s : State} {a2 : Nat} (h : Kept m0 s0 s) : Kept m0 s0 (State.pgAtStart s a2) := by
  unfold State.pgAtStart
  refine State.each_kept ?_ ?_
  · assumption
  · intro v0_0 v0_1 v0_2
    lift_lets
    intro x1
    clear_value x1
    intro x2
    have hx2 : Kept m0 s0 (x2) := by
      unfold x2
      refine State.pgBallTo_kept ?_
      assumption
    clear_value x2
    intro x3
    clear_value x3
    refine State.setRail_kept ?_
    refine State.setBit_kept ?_
    assumption

/-- GREENWARE_START: NORMAL is entered and tick g is this tick; the rest is kept. -/
theorem execGreenwareStart_starts {ef str : BitVec 8} {pg : BitVec 24} {rails : Bool} {s : State}
    (h : ¬(s.boot.por = true ∨ (!s.boot.kilnLoaded) = true ∨ s.boot.g.isSome = true)) :
    ∃ t, execGreenwareStart ef str pg rails s = .next t ∧
      Kept ⟨false, true⟩ { s with power := .normal, powerSince := s.tick, boot := { s.boot with g := some s.tick }, cap := { s.cap with lastDecision := s.tick } } t := by
  unfold execGreenwareStart
  rw [if_neg h]
  refine ⟨_, rfl, ?_⟩
  dsimp only
  generalize ({ s with power := .normal, powerSince := s.tick, boot := { s.boot with g := some s.tick }, cap := { s.cap with lastDecision := s.tick } } : State) = q
  have k1 : ∀ t, Kept ⟨false, true⟩ q t → Kept ⟨false, true⟩ q (if t.bitOn SYS_STRAP_LATCHED 3 = true then t else t.decideAll { ef := ef.toNat, str := str.toNat, rails := rails }) :=
    fun t ht => kept_ite ht (State.decideAll_kept ht)
  have k2 : Kept ⟨false, true⟩ q ((q.stamp SYS_T_GW_TICK).setBit SYS_BOOT_STAT_DONE 1 true).mapAtStart :=
    State.mapAtStart_kept (State.setBit_kept (State.stamp_kept (Kept.refl q)))
  have k3 := State.iff_kept (b := ((q.stamp SYS_T_GW_TICK).setBit SYS_BOOT_STAT_DONE 1 true).mapAtStart.unitRole == 3)
    (f := fun s => { s with hlk := { s.hlk with reg := { s.hlk.reg with since := some s.tick } } }) k2 (fun _ ht => kept_mk ht)
  have k4 := fun v => State.pgAtStart_kept (a2 := pg.toNat) (State.bindingsAtStart_kept (State.twbEval_kept (State.refStart_kept
    (State.stringsAtStart_kept (State.loopsAtStart_kept (State.setI_kept (a2 := CNV_TGT_SETPOINT) (a3 := v) (a4 := 0) k3))))))
  exact State.settle_kept (State.tryFull_kept (State.calStart_kept (k1 _ (k4 _))))

theorem State.holdRelease_kept {m0 : Bool} {s0 s : State} (h : Kept ⟨m0, true⟩ s0 s) : Kept ⟨m0, true⟩ s0 (State.holdRelease s) := by
  unfold State.holdRelease
  refine kept_ite ?_ ?_
  · refine State.settle_kept ?_
    refine State.decideAll_kept ?_
    assumption
  · assumption

theorem execOutHoldRelease_kept {m0 : Bool} {s0 : State} {a1 : Requester} {s : State} (h : Kept ⟨m0, true⟩ s0 s) : OutKept ⟨m0, true⟩ s0 (execOutHoldRelease a1 s) := by
  unfold execOutHoldRelease
  refine done_kept ?_
  refine State.gate_kept ?_ ?_
  · assumption
  · intro v0_0 v0_1
    refine State.holdRelease_kept ?_
    assumption

theorem execJtagExtest_kept {m0 : May} {s0 s : State} (h : Kept m0 s0 s) : OutKept m0 s0 (execJtagExtest s) := by
  unfold execJtagExtest
  refine outKept_ite ?_ ?_
  · refine done_kept ?_
    assumption
  · refine done_kept ?_
    refine kept_mk ?_
    assumption

theorem State.latch_kept {m0 : May} {s0 s : State} {a2 : Src} {a3 : Nat} (h : Kept m0 s0 s) : Kept m0 s0 (State.latch s a2 a3) := by
  unfold State.latch
  refine State.each_kept ?_ ?_
  · assumption
  · intro v0_0 v0_1 v0_2
    refine State.setReg_kept ?_
    assumption

theorem State.wordTake_kept {m0 : Bool} {s0 s : State} {a2 : Src} {a3 : Nat} (h : Kept ⟨m0, true⟩ s0 s) : Kept ⟨m0, true⟩ s0 (State.wordTake s a2 a3).1 := by
  unfold State.wordTake
  split
  case h_1 b _ _ =>
    have ht : ∀ t, (if b = EVR_HEAD_SEQ.addr then some (s.headRead a2) else if b = LPT_TBL_DATA_DATA.addr then some (s.tblData none)
        else if b = BAT_TBL_DATA_DATA.addr then some s.tblRead else none) = some t → Kept ⟨m0, true⟩ s0 t := by
      intro t
      split
      · intro e; cases e; exact State.headRead_kept h
      · split
        · intro e; cases e; exact State.tblData_kept h
        · split
          · intro e; cases e; exact State.tblRead_kept h
          · intro e; cases e
    dsimp only
    split
    · next e => exact ht _ e
    · exact State.latch_kept h
  all_goals exact h

theorem State.wordRead_kept {m0 : Bool} {s0 s : State} {a2 : Requester} {a3 : Nat} (h : Kept ⟨m0, true⟩ s0 s) : Kept ⟨m0, true⟩ s0 (State.wordRead s a2 a3).1 := by
  unfold State.wordRead
  split
  · dsimp only
    refine State.refuse_kept ?_
    assumption
  · lift_lets
    intro x0
    have hx0 : Kept ⟨m0, true⟩ s0 (x0).1 := by
      refine kept_of (fun q => q.1) (a := x0) (State.wordTake_kept ?_) rfl
      refine State.touch_kept ?_
      assumption
    clear_value x0
    dsimp only
    assumption

theorem State.readCmd_kept {m0 : Bool} {s0 s : State} {a2 : Requester} {a3 : Nat} (h : Kept ⟨m0, true⟩ s0 s) : Kept ⟨m0, true⟩ s0 (State.readCmd s a2 a3) := by
  unfold State.readCmd
  refine kept_ite ?_ ?_
  · assumption
  · lift_lets
    intro x0
    have hx0 : Kept ⟨m0, true⟩ s0 (x0).1 := by
      refine kept_of (fun q => q.1) (a := x0) (State.wordRead_kept ?_) rfl
      assumption
    clear_value x0
    refine State.replyTo_kept ?_
    assumption

theorem execTickLatchRead_kept {m0 : Bool} {s0 : State} {a1 : Requester} {s : State} (h : Kept ⟨m0, true⟩ s0 s) : OutKept ⟨m0, true⟩ s0 (execTickLatchRead a1 s) := by
  unfold execTickLatchRead
  refine done_kept ?_
  refine State.readCmd_kept ?_
  assumption

theorem execMultiwordLatchRead_kept {m0 : Bool} {s0 : State} {a1 : Requester} {a2 : Word} {s : State} (h : Kept ⟨m0, true⟩ s0 s) : OutKept ⟨m0, true⟩ s0 (execMultiwordLatchRead a1 a2 s) := by
  unfold execMultiwordLatchRead
  refine done_kept ?_
  refine State.readCmd_kept ?_
  assumption

theorem State.run_kept {m0 : May} {s0 s : State} {a2 : Bool} {a3 : State → Host.Outcome State Fault Refusal} (h : Kept m0 s0 s) (ha3 : ∀ b0, Kept m0 s0 b0 → OutKept m0 s0 (a3 b0)) : Kept m0 s0 (State.run s a2 a3) := by
  unfold State.run
  refine kept_ite ?_ h
  split
  · next e => exact ha3 s h _ e
  · exact h

theorem State.commandLow_kept {m0 : Bool} {s0 s : State} {a2 : Requester} {a3 : Nat} {a4 : Word} (h : Kept ⟨m0, true⟩ s0 s) : Kept ⟨m0, true⟩ s0 (State.commandLow s a2 a3 a4) := by
  unfold State.commandLow
  split
  · refine State.run_kept ?_ ?_
    · refine State.run_kept ?_ ?_
      · refine State.run_kept ?_ ?_
        · assumption
        · intro v0_0 v0_1
          refine execCalRetryCmd_kept ?_
          assumption
      · intro v1_0 v1_1
        refine execOutHoldRelease_kept ?_
        assumption
    · intro v2_0 v2_1
      refine execCoreRestart_kept ?_
      assumption
  · refine State.run_kept ?_ ?_
    · assumption
    · intro v3_0 v3_1
      refine execCckCommit_kept ?_
      assumption
  · refine kept_ite ?_ ?_
    · refine State.keySelWrite_kept ?_
      assumption
    · refine kept_ite ?_ ?_
      · refine State.keyDataWrite_kept ?_
        assumption
      · refine kept_ite ?_ ?_
        · refine State.sesOpenWrite_kept ?_
          assumption
        · refine State.respWrite_kept ?_
          assumption
  · refine State.run_kept ?_ ?_
    · assumption
    · intro v4_0 v4_1
      refine execBake_kept ?_
      assumption
  · refine State.wipeCmd_kept ?_
    assumption
  · refine State.run_kept ?_ ?_
    · refine State.run_kept ?_ ?_
      · assumption
      · intro v5_0 v5_1
        refine execClear_kept ?_
        assumption
    · intro v6_0 v6_1
      refine execInject_kept ?_
      assumption
  · lift_lets
    intro x7
    clear_value x7
    refine State.run_kept ?_ ?_
    · refine State.run_kept ?_ ?_
      · refine State.run_kept ?_ ?_
        · refine State.run_kept ?_ ?_
          · assumption
          · intro v8_0 v8_1
            refine execBbxTriggerCmd_kept ?_
            assumption
        · intro v9_0 v9_1
          refine execPin_kept ?_
          assumption
      · intro v10_0 v10_1
        refine execUnpin_kept ?_
        assumption
    · intro v11_0 v11_1
      refine execDelete_kept ?_
      assumption
  · refine kept_ite ?_ ?_
    · assumption
    · refine State.mbxWrite_kept ?_
      assumption
  · refine kept_ite ?_ ?_
    · lift_lets
      intro x12
      clear_value x12
      refine State.run_kept ?_ ?_
      · refine State.run_kept ?_ ?_
        · assumption
        · intro v13_0 v13_1
          refine execLoopClearFault_kept ?_
          assumption
      · intro v14_0 v14_1
        refine execLoopResetState_kept ?_
        assumption
    · lift_lets
      intro x15
      have hx15 : Kept ⟨m0, true⟩ s0 (x15) := by
        unfold x15
        refine State.run_kept ?_ ?_
        · refine State.run_kept ?_ ?_
          · assumption
          · intro v16_0 v16_1
            refine execLpeAdmit_kept ?_
            assumption
        · intro v17_0 v17_1
          refine execLpeDiscard_kept ?_
          assumption
      clear_value x15
      refine State.run_kept ?_ ?_
      · assumption
      · intro v18_0 v18_1
        lift_lets
        intro x19
        have hx19 : Kept ⟨m0, true⟩ s0 (x19).2 := by
          refine kept_of (fun q => q.2) (a := x19) (State.draw_kept ?_) rfl
          assumption
        clear_value x19
        refine execLaneTest_kept ?_
        assumption
  · lift_lets
    intro x20
    have hx20 : Kept ⟨m0, true⟩ s0 (x20) := by
      unfold x20
      refine State.run_kept ?_ ?_
      · refine State.run_kept ?_ ?_
        · refine State.run_kept ?_ ?_
          · assumption
          · intro v21_0 v21_1
            refine execTuneStart_kept ?_
            assumption
        · intro v22_0 v22_1
          refine execTuneAbort_kept ?_
          assumption
      · intro v23_0 v23_1
        refine execTuneApply_kept ?_
        assumption
    clear_value x20
    intro x24
    have hx24 : Kept ⟨m0, true⟩ s0 (x24) := by
      unfold x24
      refine State.run_kept ?_ ?_
      · assumption
      · intro v25_0 v25_1
        refine execTuneRepropose_kept ?_
        assumption
    clear_value x24
    refine State.run_kept ?_ ?_
    · refine State.run_kept ?_ ?_
      · assumption
      · intro v26_0 v26_1
        refine execLptTblCommit_kept ?_
        assumption
    · intro v27_0 v27_1
      refine execRcClear_kept ?_
      assumption
  · assumption

theorem State.batCommand_kept {m0 : Bool} {s0 s : State} {a2 : Requester} {a3 : Word} (h : Kept ⟨m0, true⟩ s0 s) : Kept ⟨m0, true⟩ s0 (State.batCommand s a2 a3) := by
  unfold State.batCommand
  lift_lets
  intro x0
  clear_value x0
  intro x1
  have hx1 : Kept ⟨m0, true⟩ s0 (x1) := by
    unfold x1
    refine State.run_kept ?_ ?_
    · assumption
    · intro v2_0 v2_1
      refine execBatOpen_kept ?_
      assumption
  clear_value x1
  intro x3
  have hx3 : Kept ⟨m0, true⟩ s0 (x3) := by
    unfold x3
    refine kept_ite ?_ ?_
    · refine State.iff_kept ?_ ?_
      · assumption
      · intro v4_0 v4_1
        refine State.event_kept ?_
        assumption
    · refine State.run_kept ?_ ?_
      · assumption
      · intro v5_0 v5_1
        refine execBatClose_kept ?_
        assumption
  clear_value x3
  refine State.run_kept ?_ ?_
  · refine State.run_kept ?_ ?_
    · refine State.run_kept ?_ ?_
      · assumption
      · intro v6_0 v6_1
        refine execBatReseed_kept ?_
        assumption
    · intro v7_0 v7_1
      refine execBatRestore_kept ?_
      assumption
  · intro v8_0 v8_1
    refine execBatTblCommit_kept ?_
    assumption

theorem State.commandHigh_kept {m0 : Bool} {s0 s : State} {a2 : Requester} {a3 : Nat} {a4 : Word} (h : Kept ⟨m0, true⟩ s0 s) : Kept ⟨m0, true⟩ s0 (State.commandHigh s a2 a3 a4) := by
  unfold State.commandHigh
  split
  · refine State.run_kept ?_ ?_
    · refine State.run_kept ?_ ?_
      · refine State.run_kept ?_ ?_
        · assumption
        · intro v0_0 v0_1
          refine execSlew_kept ?_
          assumption
      · intro v1_0 v1_1
        refine execClearG_kept ?_
        assumption
    · intro v2_0 v2_1
      refine execClearG_kept ?_
      assumption
  · lift_lets
    intro x3
    clear_value x3
    intro x4
    have hx4 : Kept ⟨m0, true⟩ s0 (x4) := by
      unfold x4
      refine State.run_kept ?_ ?_
      · refine State.run_kept ?_ ?_
        · refine State.run_kept ?_ ?_
          · assumption
          · intro v5_0 v5_1
            refine execEfuOn_kept ?_
            assumption
        · intro v6_0 v6_1
          refine execEfuOff_kept ?_
          assumption
      · intro v7_0 v7_1
        refine execEfuClear_kept ?_
        assumption
    clear_value x4
    refine State.run_kept ?_ ?_
    · refine State.run_kept ?_ ?_
      · refine State.run_kept ?_ ?_
        · assumption
        · intro v8_0 v8_1
          refine execFeedA_kept ?_
          assumption
      · intro v9_0 v9_1
        refine execFeedB_kept ?_
        assumption
    · intro v10_0 v10_1
      refine execFeedAuto_kept ?_
      assumption
  · refine State.run_kept ?_ ?_
    · refine State.run_kept ?_ ?_
      · refine State.run_kept ?_ ?_
        · assumption
        · intro v11_0 v11_1
          refine execSeqUp_kept ?_
          assumption
      · intro v12_0 v12_1
        refine execSeqDown_kept ?_
        assumption
    · intro v13_0 v13_1
      refine execSeqClear_kept ?_
      assumption
  · refine State.run_kept ?_ ?_
    · refine State.run_kept ?_ ?_
      · assumption
      · intro v14_0 v14_1
        refine execRmnTest_kept ?_
        assumption
    · intro v15_0 v15_1
      refine execRmnTestEnd_kept ?_
      assumption
  · refine kept_ite ?_ ?_
    · refine State.shipCmd_kept ?_
      assumption
    · refine State.batCommand_kept ?_
      assumption
  · lift_lets
    intro x16
    clear_value x16
    refine State.run_kept ?_ ?_
    · refine State.run_kept ?_ ?_
      · refine State.run_kept ?_ ?_
        · refine State.run_kept ?_ ?_
          · assumption
          · intro v17_0 v17_1
            refine execRectUnbind_kept ?_
            assumption
        · intro v18_0 v18_1
          refine execClearCurve_kept ?_
          assumption
      · intro v19_0 v19_1
        refine execAllocNow_kept ?_
        assumption
    · intro v20_0 v20_1
      refine execRectRetry_kept ?_
      assumption
  · refine State.run_kept ?_ ?_
    · refine State.run_kept ?_ ?_
      · assumption
      · intro v21_0 v21_1
        refine execCapTest_kept ?_
        assumption
    · intro v22_0 v22_1
      refine execProbeNow_kept ?_
      assumption
  · lift_lets
    intro x23
    clear_value x23
    refine State.run_kept ?_ ?_
    · refine State.run_kept ?_ ?_
      · refine State.run_kept ?_ ?_
        · assumption
        · intro v24_0 v24_1
          refine execTwbClear_kept ?_
          assumption
      · intro v25_0 v25_1
        refine execTwbReset_kept ?_
        assumption
    · intro v26_0 v26_1
      refine execHnFlush_kept ?_
      assumption
  · refine State.run_kept ?_ ?_
    · refine State.run_kept ?_ ?_
      · assumption
      · intro v27_0 v27_1
        refine execXacPass_kept ?_
        assumption
    · intro v28_0 v28_1
      refine execDeaccede_kept ?_
      assumption
  · refine State.run_kept ?_ ?_
    · refine State.run_kept ?_ ?_
      · refine State.run_kept ?_ ?_
        · refine State.run_kept ?_ ?_
          · assumption
          · intro v29_0 v29_1
            refine execPairMigrate_kept ?_
            assumption
        · intro v30_0 v30_1
          refine execPairRevert_kept ?_
          assumption
      · intro v31_0 v31_1
        refine execPairRejoin_kept ?_
        assumption
    · intro v32_0 v32_1
      refine execFenceSelf_kept ?_
      assumption
  · refine State.run_kept ?_ ?_
    · assumption
    · intro v33_0 v33_1
      refine execResetLink_kept ?_
      assumption
  · refine State.run_kept ?_ ?_
    · refine State.run_kept ?_ ?_
      · refine State.run_kept ?_ ?_
        · assumption
        · intro v34_0 v34_1
          refine execUpdActivate_kept ?_
          assumption
      · intro v35_0 v35_1
        refine execUpdDiscard_kept ?_
        assumption
    · intro v36_0 v36_1
      refine execUpdRevert_kept ?_
      assumption
  · refine State.mdioCmd_kept ?_
    assumption
  · refine State.run_kept ?_ ?_
    · assumption
    · intro v37_0 v37_1
      refine execCoreRelease_kept ?_
      assumption
  · assumption

theorem State.hreqWrite_kept {m0 : Bool} {s0 s : State} {a2 : Requester} {a3 : RegRow} {a4 : Nat} {a5 : Word} (h : Kept ⟨m0, true⟩ s0 s) : Kept ⟨m0, true⟩ s0 (State.hreqWrite s a2 a3 a4 a5) := by
  unfold State.hreqWrite
  lift_lets
  intro x0
  clear_value x0
  intro x1
  clear_value x1
  intro x2
  have hx2 : Kept ⟨m0, true⟩ s0 (x2) := by
    unfold x2
    refine State.fieldsWrite_kept ?_
    assumption
  clear_value x2
  refine kept_ite ?_ ?_
  · refine State.hostSubmit_kept ?_
    assumption
  · assumption

theorem State.dataWrite_kept {m0 : Bool} {s0 s : State} {a2 : Requester} {a3 : RegRow} {a4 : Nat} {a5 : Nat} {a6 : Word} (h : Kept ⟨m0, true⟩ s0 s) : Kept ⟨m0, true⟩ s0 (State.dataWrite s a2 a3 a4 a5 a6) := by
  unfold State.dataWrite
  lift_lets
  intro x0
  clear_value x0
  intro x1
  clear_value x1
  intro x2
  clear_value x2
  intro x3
  have hx3 : Kept ⟨m0, true⟩ s0 (x3) := by
    unfold x3
    refine State.fieldsWrite_kept ?_
    assumption
  clear_value x3
  intro x4
  have hx4 : Kept ⟨m0, true⟩ s0 (x4) := by
    unfold x4
    refine State.iff_kept ?_ ?_
    · assumption
    · intro v5_0 v5_1
      refine State.incWrap_kept ?_
      assumption
  clear_value x4
  refine kept_ite ?_ ?_
  · refine State.rlWrite_kept ?_
    assumption
  · refine kept_ite ?_ ?_
    · refine State.tblData_kept ?_
      assumption
    · refine kept_ite ?_ ?_
      · refine State.tblWrite_kept ?_
        assumption
      · refine kept_ite ?_ ?_
        · refine State.monSelect_kept ?_
          assumption
        · refine kept_ite ?_ ?_
          · refine State.hreqWrite_kept ?_
            assumption
          · refine State.iff_kept ?_ ?_
            · assumption
            · intro v6_0 v6_1
              refine State.incWrap_kept ?_
              assumption

theorem State.regWrite_kept {m0 : Bool} {s0 s : State} {a2 : Requester} {a3 : Nat} {a4 : Nat} {a5 : Word} (h : Kept ⟨m0, true⟩ s0 s) : Kept ⟨m0, true⟩ s0 (State.regWrite s a2 a3 a4 a5) := by
  unfold State.regWrite
  split
  · assumption
  · refine kept_ite ?_ ?_
    · refine State.iff_kept ?_ ?_
      · assumption
      · intro v0_0 v0_1
        refine State.inc_kept ?_
        assumption
    · split
      · assumption
      · refine State.classC_kept ?_
        assumption
      · refine State.dataWrite_kept ?_
        assumption
      · refine kept_ite ?_ ?_
        · assumption
        · refine kept_ite ?_ ?_
          · refine State.commandLow_kept ?_
            assumption
          · refine State.commandHigh_kept ?_
            assumption

theorem State.wordPut_kept {m0 : Bool} {s0 s : State} {a2 : Requester} {a3 : Nat} {a4 : Word} (h : Kept ⟨m0, true⟩ s0 s) : Kept ⟨m0, true⟩ s0 (State.wordPut s a2 a3 a4) := by
  unfold State.wordPut
  split
  · refine State.regWrite_kept ?_
    assumption
  · refine State.iff_kept ?_ ?_
    · assumption
    · intro v0_0 v0_1
      refine State.inc_kept ?_
      assumption
  · refine State.mbxData_kept ?_
    assumption
  · refine State.coefWrite_kept ?_
    assumption
  · refine State.scheduleWrite_kept ?_
    assumption
  · assumption

theorem State.wordWrite_kept {m0 : Bool} {s0 s : State} {a2 : Requester} {a3 : Nat} {a4 : Word} (h : Kept ⟨m0, true⟩ s0 s) : Kept ⟨m0, true⟩ s0 (State.wordWrite s a2 a3 a4).1 := by
  unfold State.wordWrite
  split
  · dsimp only
    refine State.refuse_kept ?_
    assumption
  · dsimp only
    refine State.wordPut_kept ?_
    refine State.touch_kept ?_
    assumption

theorem State.writeCmd_kept {m0 : Bool} {s0 s : State} {a2 : Requester} {a3 : Nat} {a4 : Word} (h : Kept ⟨m0, true⟩ s0 s) : Kept ⟨m0, true⟩ s0 (State.writeCmd s a2 a3 a4) := by
  unfold State.writeCmd
  refine kept_ite ?_ ?_
  · assumption
  · refine State.wordWrite_kept ?_
    assumption

theorem execRegisterWrite_kept {m0 : Bool} {s0 : State} {a1 : Requester} {a2 : Word} {a3 : Word} {s : State} (h : Kept ⟨m0, true⟩ s0 s) : OutKept ⟨m0, true⟩ s0 (execRegisterWrite a1 a2 a3 s) := by
  unfold execRegisterWrite
  refine done_kept ?_
  refine State.writeCmd_kept ?_
  assumption

theorem execAliasWrite_kept {m0 : Bool} {s0 : State} {a1 : Requester} {a2 : Word} {a3 : Word} {s : State} (h : Kept ⟨m0, true⟩ s0 s) : OutKept ⟨m0, true⟩ s0 (execAliasWrite a1 a2 a3 s) := by
  unfold execAliasWrite
  refine done_kept ?_
  refine State.settle_kept ?_
  refine State.writeCmd_kept ?_
  assumption

theorem State.configWrite_kept {m0 : Bool} {s0 s : State} {a2 : Requester} {a3 : Nat} {a4 : Word} (h : Kept ⟨m0, true⟩ s0 s) : Kept ⟨m0, true⟩ s0 (State.configWrite s a2 a3 a4) := by
  unfold State.configWrite
  refine State.gate_kept ?_ ?_
  · assumption
  · intro v0_0 v0_1
    split
    · refine State.classC_kept ?_
      assumption
    · assumption

theorem execStrEnWrite_kept {m0 : Bool} {s0 : State} {a1 : Requester} {a2 : Word} {s : State} (h : Kept ⟨m0, true⟩ s0 s) : OutKept ⟨m0, true⟩ s0 (execStrEnWrite a1 a2 s) := by
  unfold execStrEnWrite
  refine done_kept ?_
  refine State.configWrite_kept ?_
  assumption

theorem execTbSrcWrite_kept {m0 : Bool} {s0 : State} {a1 : Requester} {a2 : Word} {s : State} (h : Kept ⟨m0, true⟩ s0 s) : OutKept ⟨m0, true⟩ s0 (execTbSrcWrite a1 a2 s) := by
  unfold execTbSrcWrite
  refine done_kept ?_
  refine State.configWrite_kept ?_
  assumption

theorem execHreqSubmit_kept {m0 : Bool} {s0 : State} {a1 : Requester} {a2 : Word} {s : State} (h : Kept ⟨m0, true⟩ s0 s) : OutKept ⟨m0, true⟩ s0 (execHreqSubmit a1 a2 s) := by
  unfold execHreqSubmit
  refine done_kept ?_
  refine State.gate_kept ?_ ?_
  · assumption
  · intro v0_0 v0_1
    split
    · refine State.hreqWrite_kept ?_
      assumption
    · assumption

theorem State.readWords_kept {m0 : Bool} {s0 : State} {a2 : Requester} {a4 : Nat} : ∀ {s : State} {a3 : Nat} (h : Kept ⟨m0, true⟩ s0 s), Kept ⟨m0, true⟩ s0 (State.readWords s a2 a3 a4).1 := by
  induction a4 with
  | zero => intro s a3 h; exact h
  | succ n ih => intro s a3 h; exact ih (State.wordRead_kept h)

theorem State.writeWords_kept {m0 : Bool} {s0 : State} {a2 : Requester} {a4 : List Word} : ∀ {s : State} {a3 : Nat} (h : Kept ⟨m0, true⟩ s0 s), Kept ⟨m0, true⟩ s0 (State.writeWords s a2 a3 a4) := by
  induction a4 with
  | nil => intro s a3 h; exact h
  | cons w ws ih => intro s a3 h; exact ih (State.wordWrite_kept h)

theorem State.partialWord_kept {m0 : May} {s0 s : State} {a2 : Bool} (h : Kept m0 s0 s) : Kept m0 s0 (State.partialWord s a2) := by
  unfold State.partialWord
  refine State.iff_kept ?_ ?_
  · assumption
  · intro v0_0 v0_1
    refine State.inc_kept ?_
    assumption

theorem execSpiRead_kept {m0 : Bool} {s0 : State} {a1 : BitVec 24} {a2 : Nat} {a3 : Bool} {s : State} (h : Kept ⟨m0, true⟩ s0 s) : OutKept ⟨m0, true⟩ s0 (execSpiRead a1 a2 a3 s) := by
  unfold execSpiRead
  refine outKept_ite ?_ ?_
  · refine done_kept ?_
    assumption
  · lift_lets
    intro x0
    have hx0 : Kept ⟨m0, true⟩ s0 (x0).1 := by
      refine kept_of (fun q => q.1) (a := x0) (State.readWords_kept ?_) rfl
      assumption
    clear_value x0
    refine done_kept ?_
    refine State.replyTo_kept ?_
    refine State.partialWord_kept ?_
    assumption

theorem execSpiWrite_kept {m0 : Bool} {s0 : State} {a1 : BitVec 24} {a2 : List Word} {a3 : Bool} {s : State} (h : Kept ⟨m0, true⟩ s0 s) : OutKept ⟨m0, true⟩ s0 (execSpiWrite a1 a2 a3 s) := by
  unfold execSpiWrite
  refine outKept_ite ?_ ?_
  · refine done_kept ?_
    assumption
  · refine done_kept ?_
    refine State.partialWord_kept ?_
    refine State.writeWords_kept ?_
    assumption

theorem execSpiStatus_kept {m0 : May} {s0 s : State} (h : Kept m0 s0 s) : OutKept m0 s0 (execSpiStatus s) := by
  unfold execSpiStatus
  refine outKept_ite ?_ ?_
  · refine done_kept ?_
    assumption
  · lift_lets
    intro x0
    clear_value x0
    intro x1
    clear_value x1
    refine done_kept ?_
    refine State.replyTo_kept ?_
    refine kept_mk ?_
    assumption

theorem State.readUntil_kept {m0 : Bool} {s0 : State} {a2 : Requester} {a4 : Nat} : ∀ {s : State} {a3 : Nat} (h : Kept ⟨m0, true⟩ s0 s), Kept ⟨m0, true⟩ s0 (State.readUntil s a2 a3 a4).1 := by
  induction a4 with
  | zero => intro s a3 h; exact h
  | succ n ih =>
    intro s a3 h
    unfold State.readUntil
    dsimp only
    split
    · exact State.wordRead_kept h
    · exact ih (State.wordRead_kept h)

theorem State.writeUntil_kept {m0 : Bool} {s0 : State} {a2 : Requester} {a4 : List Word} : ∀ {s : State} {a3 : Nat} (h : Kept ⟨m0, true⟩ s0 s), Kept ⟨m0, true⟩ s0 (State.writeUntil s a2 a3 a4).1 := by
  induction a4 with
  | nil => intro s a3 h; exact h
  | cons w ws ih =>
    intro s a3 h
    unfold State.writeUntil
    dsimp only
    split
    · exact State.wordWrite_kept h
    · exact ih (State.wordWrite_kept h)

theorem State.praxReadIn_kept {m0 : Bool} {s0 s : State} {a2 : Datagram} {a3 : Fin 8} (h : Kept ⟨m0, true⟩ s0 s) : Kept ⟨m0, true⟩ s0 (State.praxReadIn s a2 a3) := by
  unfold State.praxReadIn
  refine kept_ite ?_ ?_
  · refine State.sessError_kept ?_
    assumption
  · lift_lets
    intro x0
    have hx0 : Kept ⟨m0, true⟩ s0 (x0).1 := by
      refine kept_of (fun q => q.1) (a := x0) (State.readUntil_kept ?_) rfl
      assumption
    clear_value x0
    refine State.sessReply_kept ?_
    assumption

theorem execPraxRead_kept {m0 : Bool} {s0 : State} {a1 : Datagram} {s : State} (h : Kept ⟨m0, true⟩ s0 s) : OutKept ⟨m0, true⟩ s0 (execPraxRead a1 s) := by
  unfold execPraxRead
  refine done_kept ?_
  refine State.praxFrame_kept ?_ ?_
  · assumption
  · intro v0_0 v0_1
    refine State.praxRequest_kept ?_ ?_
    · assumption
    · intro v1_0 v1_1 v1_2
      refine State.praxReadIn_kept ?_
      assumption

theorem State.praxWriteIn_kept {m0 : Bool} {s0 s : State} {a2 : Datagram} {a3 : Fin 8} (h : Kept ⟨m0, true⟩ s0 s) : Kept ⟨m0, true⟩ s0 (State.praxWriteIn s a2 a3) := by
  unfold State.praxWriteIn
  lift_lets
  intro x0
  clear_value x0
  intro x1
  have hx1 : Kept ⟨m0, true⟩ s0 (x1).1 := by
    refine kept_of (fun q => q.1) (a := x1) (State.writeUntil_kept ?_) rfl
    assumption
  clear_value x1
  refine kept_ite ?_ ?_
  · refine State.sessError_kept ?_
    assumption
  · refine State.sessReply_kept ?_
    assumption

theorem execPraxWrite_kept {m0 : Bool} {s0 : State} {a1 : Datagram} {s : State} (h : Kept ⟨m0, true⟩ s0 s) : OutKept ⟨m0, true⟩ s0 (execPraxWrite a1 s) := by
  unfold execPraxWrite
  refine done_kept ?_
  refine State.praxFrame_kept ?_ ?_
  · assumption
  · intro v0_0 v0_1
    refine State.praxRequest_kept ?_ ?_
    · assumption
    · intro v1_0 v1_1 v1_2
      refine State.praxWriteIn_kept ?_
      assumption

theorem State.boxTake_kept {m0 : May} {s0 s : State} (h : Kept m0 s0 s) : Kept m0 s0 (State.boxTake s) := by
  unfold State.boxTake
  lift_lets
  intro x0
  clear_value x0
  intro x1
  clear_value x1
  refine kept_mk ?_
  assumption

theorem State.levelJudge_kept {m0 : Bool} {s0 s : State} {a2 : Fin 4} (h : Kept ⟨m0, true⟩ s0 s) : Kept ⟨m0, true⟩ s0 (State.levelJudge s a2) := by
  unfold State.levelJudge
  lift_lets
  intro x0
  clear_value x0
  intro x1
  clear_value x1
  intro x2
  clear_value x2
  intro x3
  clear_value x3
  refine kept_ite ?_ ?_
  · refine kept_mk ?_
    assumption
  · refine kept_ite ?_ ?_
    · assumption
    · refine State.iff_kept ?_ ?_
      · refine kept_mk ?_
        assumption
      · intro v4_0 v4_1
        refine State.triggerAt_kept ?_
        assumption

theorem State.boxTick_kept {m0 : Bool} {s0 s : State} (h : Kept ⟨m0, true⟩ s0 s) : Kept ⟨m0, true⟩ s0 (State.boxTick s) := by
  unfold State.boxTick
  refine kept_ite ?_ ?_
  · assumption
  · lift_lets
    intro x0
    have hx0 : Kept ⟨m0, true⟩ s0 (x0) := by
      unfold x0
      refine State.iff_kept ?_ ?_
      · assumption
      · intro v1_0 v1_1
        refine State.boxLatch_kept ?_
        assumption
    clear_value x0
    intro x2
    have hx2 : Kept ⟨m0, true⟩ s0 (x2) := by
      unfold x2
      refine State.iff_kept ?_ ?_
      · assumption
      · intro v3_0 v3_1
        lift_lets
        intro x4
        clear_value x4
        refine kept_mk ?_
        assumption
    clear_value x2
    intro x5
    clear_value x5
    refine kept_ite ?_ ?_
    · refine kept_mk ?_
      assumption
    · refine State.each_kept ?_ ?_
      · refine State.boxTake_kept ?_
        assumption
      · intro v6_0 v6_1 v6_2
        refine State.levelJudge_kept ?_
        assumption

theorem State.tickWork_kept {s0 s : State} (h : Kept ⟨true, true⟩ s0 s) : Kept ⟨true, true⟩ s0 (State.tickWork s) := by
  unfold State.tickWork
  lift_lets
  intro x0
  have hx0 : Kept ⟨true, true⟩ s0 (x0) := by
    unfold x0
    refine State.powerTick_kept ?_
    refine State.thmTick_kept ?_
    refine State.laneTick_kept ?_
    refine State.syncTick_kept ?_
    refine State.afeTick_kept ?_
    assumption
  clear_value x0
  intro x1
  have hx1 : Kept ⟨true, true⟩ s0 (x1) := by
    unfold x1
    refine State.capTick_kept ?_
    refine State.capSample_kept ?_
    refine State.capWork_kept ?_
    refine State.seqTick_kept ?_
    assumption
  clear_value x1
  intro x2
  have hx2 : Kept ⟨true, true⟩ s0 (x2) := by
    unfold x2
    refine State.efuTick_kept ?_
    refine State.batTick_kept ?_
    assumption
  clear_value x2
  intro x3
  have hx3 : Kept ⟨true, true⟩ s0 (x3) := by
    unfold x3
    refine State.accTick_kept ?_
    refine State.busQuiet_kept ?_
    refine State.sextTick_kept ?_
    assumption
  clear_value x3
  intro x4
  have hx4 : Kept ⟨true, true⟩ s0 (x4) := by
    unfold x4
    refine State.registrarIdle_kept ?_
    refine State.pairIdle_kept ?_
    assumption
  clear_value x4
  intro x5
  have hx5 : Kept ⟨true, true⟩ s0 (x5) := by
    unfold x5
    refine State.shipTick_kept ?_
    assumption
  clear_value x5
  intro x6
  have hx6 : Kept ⟨true, true⟩ s0 (x6) := by
    unfold x6
    refine State.nvmTick_kept ?_
    assumption
  clear_value x6
  intro x7
  have hx7 : Kept ⟨true, true⟩ s0 (x7) := by
    unfold x7
    refine State.updTick_kept ?_
    assumption
  clear_value x7
  refine State.boxTick_kept ?_
  refine State.refresh_kept ?_
  refine State.bootTick_kept ?_
  assumption

theorem State.resetTime_kept {m0 : May} {s0 s : State} (h : Kept m0 s0 s) : Kept m0 s0 (State.resetTime s) := by
  unfold State.resetTime
  refine kept_ite ?_ ?_
  · refine kept_mk ?_
    assumption
  · assumption

theorem State.pinJudge_kept {m0 : Bool} {s0 s : State} (h : Kept ⟨m0, true⟩ s0 s) : Kept ⟨m0, true⟩ s0 (State.pinJudge s) := by
  unfold State.pinJudge
  refine kept_ite ?_ ?_
  · assumption
  · refine State.cascLine_kept ?_
    refine State.pgJudge_kept ?_
    assumption

/-- What a tick keeps: everything `Kept` names, but the counter, which advances except before the release of power-on reset. -/
theorem State.idle_keeps (s : State) :
    (sparseWf regReset s.regs = true → sparseWf regReset s.idle.regs = true) ∧ (Memory.wf s.mem = true → Memory.wf s.idle.mem = true) ∧
    s.idle.pending = s.pending ∧ s.idle.tick = (if s.boot.por = true then s.tick else s.tick + 1) ∧ s.idle.boot.g = s.boot.g ∧
    s.free ≤ s.idle.free ∧
    ((s.idle.power = s.power ∧ s.idle.powerSince = s.powerSince) ∨ (s.powerWas.moves s.idle.power = true ∧
      (s.powerSince = s.tick → s.idle.power.rank < s.power.rank) ∧ s.idle.powerSince = s.tick)) := by
  unfold State.idle
  split
  · have h : Kept ⟨true, true⟩ s s.resetTime := State.resetTime_kept (Kept.refl s)
    refine ⟨h.regs, h.mem, h.pending, h.tick, h.g, h.free, ?_⟩
    rcases h.power with p | p
    · exact .inl ⟨p.1, p.2.1⟩
    · exact .inr ⟨p.2.1, p.2.2.1, p.2.2.2.1⟩
  · split
    · have h : Kept ⟨true, true⟩ s s.tickWork := State.tickWork_kept (Kept.refl s)
      generalize s.tickWork = t at h
      have k : Kept ⟨false, true⟩ t.tickAdvance (((((((t.tickAdvance.afeSample).phasesTick).vcoreTick).staleJudge).resetJudge).shevJudge).pinJudge).wdiQualify :=
        State.wdiQualify_kept (State.pinJudge_kept (State.shevJudge_kept (State.resetJudge_kept (State.staleJudge_kept (State.vcoreTick_kept
          (State.phasesTick_kept (State.afeSample_kept (Kept.refl _))))))))
      generalize (((((((t.tickAdvance.afeSample).phasesTick).vcoreTick).staleJudge).resetJudge).shevJudge).pinJudge).wdiQualify = u at k
      have e1 : t.tickAdvance.regs = t.regs := rfl
      have e2 : t.tickAdvance.mem = t.mem := rfl
      have e3 : t.tickAdvance.pending = t.pending := rfl
      have e4 : t.tickAdvance.tick = t.tick + 1 := rfl
      have e5 : t.tickAdvance.boot = t.boot := rfl
      have e6 : t.tickAdvance.free = t.free := rfl
      refine ⟨fun x => k.regs (e1 ▸ h.regs x), fun x => k.mem (e2 ▸ h.mem x), ?_, ?_, ?_, ?_, ?_⟩
      · rw [k.pending, e3, h.pending]
      · rw [k.tick, e4, h.tick]
      · rw [k.g, e5, h.g]
      · exact Nat.le_trans h.free (e6 ▸ k.free)
      · rcases k.power with k | k
        · rcases h.power with p | p
          · exact .inl ⟨k.1.trans p.1, k.2.1.trans p.2.1⟩
          · exact .inr ⟨by rw [k.1]; exact p.2.1, by rw [k.1]; exact p.2.2.1, k.2.1.trans p.2.2.2.1⟩
        · cases k.1
    · exact ⟨id, id, rfl, rfl, rfl, Nat.le_refl _, .inl ⟨rfl, rfl⟩⟩

end Sys2Proof.Machine
end

