-- ==== Sys2Proof/Laws/Exec.lean ====
section
/-! SUPPORT. What every command keeps, but the two of the power-on reset and GREENWARE_START. -/

namespace Sys2Proof.Machine

/-- Where no power state may be entered, it stays. -/
theorem Kept.stays {b : Bool} {s t : State} (h : Kept ⟨false, b⟩ s t) : t.power = s.power ∧ t.powerSince = s.powerSince := by
  rcases h.power with ⟨k1, k2, _, _⟩ | ⟨k, _⟩
  · exact ⟨k1, k2⟩
  · cases k


/-- The commands that start the block anew. -/
def restarts : Instr → Bool
  | .powerOnResetAssert _ => true
  | .powerOnResetRelease _ => true
  | .greenwareStart .. => true
  | _ => false

/-- Every other command leaves the counter, the queue and tick g, keeps the canonical forms, and moves the power state by R22 alone. -/
theorem exec_kept (c : Instr) (s : State) (hc : restarts c = false) : OutKept ⟨true, true⟩ s (exec c s) := by
  cases c with
  | vinGood => exact execVinGood_kept (Kept.refl s)
  | powerOnResetAssert _ => cases hc
  | powerOnResetRelease _ => cases hc
  | strapLatch _ => exact execStrapLatch_kept (Kept.refl s)
  | kilnLoad _ => exact execKilnLoad_kept (Kept.refl s)
  | greenwareStart _ _ _ _ => cases hc
  | outHoldRelease _ => exact execOutHoldRelease_kept (Kept.refl s)
  | supplyBankChange _ _ _ => exact execSupplyBankChange_kept (Kept.refl s)
  | resetInAssert => exact execResetInAssert_kept (Kept.refl s)
  | resetInRelease => exact execResetInRelease_kept (Kept.refl s)
  | coreRestart _ _ => exact execCoreRestart_kept (Kept.refl s)
  | bootCheckComplete _ _ => exact execBootCheckComplete_kept (a2 := ()) (Kept.refl s)
  | calAttemptComplete _ => exact execCalAttemptComplete_kept (Kept.refl s)
  | calRetryTimer => exact execCalRetryTimer_kept (Kept.refl s)
  | calRetryCmd _ => exact execCalRetryCmd_kept (Kept.refl s)
  | acFailAssert _ => exact execAcFailAssert_kept (Kept.refl s)
  | acFailClear _ => exact execAcFailClear_kept (Kept.refl s)
  | pickupQualified => exact execPickupQualified_kept (Kept.refl s)
  | prearmClearQualified => exact execPrearmClearQualified_kept (Kept.refl s)
  | returnQualified => exact execReturnQualified_kept (Kept.refl s)
  | returnLoadLost => exact execReturnLoadLost_kept (Kept.refl s)
  | handbackRampComplete => exact execHandbackRampComplete_kept (Kept.refl s)
  | noStringClosedExpiry => exact execNoStringClosedExpiry_kept (Kept.refl s)
  | exhaustedRecovered => exact execExhaustedRecovered_kept (Kept.refl s)
  | efficiencyResumeTimer => exact execEfficiencyResumeTimer_kept (Kept.refl s)
  | tbSrcWrite _ _ => exact execTbSrcWrite_kept (Kept.refl s)
  | discSourcePresent => exact execDiscSourcePresent_kept (Kept.refl s)
  | discSourceLost => exact execDiscSourceLost_kept (Kept.refl s)
  | discLockWindow _ => exact execDiscLockWindow_kept (Kept.refl s)
  | holdoverStale => exact execHoldoverStale_kept (Kept.refl s)
  | discRateStep _ _ => exact execDiscRateStep_kept (Kept.refl s)
  | xchkWindowEnd _ => exact execXchkWindowEnd_kept (Kept.refl s)
  | vcoreWindowEnd => exact execVcoreWindowEnd_kept (Kept.refl s)
  | tickLatchRead _ => exact execTickLatchRead_kept (Kept.refl s)
  | multiwordLatchRead _ _ => exact execMultiwordLatchRead_kept (Kept.refl s)
  | registerWrite _ _ _ => exact execRegisterWrite_kept (Kept.refl s)
  | aliasWrite _ _ _ => exact execAliasWrite_kept (Kept.refl s)
  | cckScanStart => exact execCckScanStart_kept (Kept.refl s)
  | cckScanComplete _ => exact execCckScanComplete_kept (Kept.refl s)
  | cckCommit _ => exact execCckCommit_kept (Kept.refl s)
  | crosscheckFaultDeclared _ => exact execCrosscheckFaultDeclared_kept (Kept.refl s)
  | crosscheckJudge _ _ _ _ => exact execCrosscheckJudge_kept (Kept.refl s)
  | monRequestDue _ _ => exact execMonRequestDue_kept (Kept.refl s)
  | monSelWrite _ _ => exact execMonSelWrite_kept (Kept.refl s)
  | calPassStart => exact execCalPassStart_kept (Kept.refl s)
  | calVisitComplete _ => exact execCalVisitComplete_kept (Kept.refl s)
  | calVisitAbort _ => exact execCalVisitAbort_kept (Kept.refl s)
  | calPassEnd _ => exact execCalPassEnd_kept (Kept.refl s)
  | spareChangeover _ _ => exact execSpareChangeover_kept (Kept.refl s)
  | diodeConversion _ _ => exact execDiodeConversion_kept (Kept.refl s)
  | loopSampleRequest _ _ _ => exact execLoopSampleRequest_kept (Kept.refl s)
  | coefWindowWrite _ _ _ => exact execCoefWindowWrite_kept (Kept.refl s)
  | lpeAdmit _ => exact execLpeAdmit_kept (Kept.refl s)
  | admissionComplete => exact execAdmissionComplete_kept (Kept.refl s)
  | lpeDiscard _ => exact execLpeDiscard_kept (Kept.refl s)
  | laneTest _ _ => exact execLaneTest_kept (Kept.refl s)
  | laneSelfTest _ _ => exact execLaneSelfTest_kept (Kept.refl s)
  | loopClearFault _ _ => exact execLoopClearFault_kept (Kept.refl s)
  | loopResetState _ _ => exact execLoopResetState_kept (Kept.refl s)
  | coefCrcCheck _ => exact execCoefCrcCheck_kept (Kept.refl s)
  | tuneStart _ => exact execTuneStart_kept (Kept.refl s)
  | tuneAbort _ => exact execTuneAbort_kept (Kept.refl s)
  | tuneApply _ => exact execTuneApply_kept (Kept.refl s)
  | tuneRepropose _ => exact execTuneRepropose_kept (Kept.refl s)
  | relayTimeout => exact execRelayTimeout_kept (Kept.refl s)
  | lineCrossing _ _ _ => exact execLineCrossing_kept (Kept.refl s)
  | lineSourceLost _ => exact execLineSourceLost_kept (Kept.refl s)
  | flywheelEnd => exact execFlywheelEnd_kept (Kept.refl s)
  | lptTblCommit _ _ => exact execLptTblCommit_kept (Kept.refl s)
  | tblSwap => exact execTblSwap_kept (Kept.refl s)
  | tblDataAccess _ _ => exact execTblDataAccess_kept (Kept.refl s)
  | tblCrcCheck _ => exact execTblCrcCheck_kept (Kept.refl s)
  | rcClear _ _ => exact execRcClear_kept (Kept.refl s)
  | rcFadeEnd _ => exact execRcFadeEnd_kept (Kept.refl s)
  | phaseCycleStart _ _ _ _ _ _ _ => exact execPhaseCycleStart_kept (Kept.refl s)
  | peakComparatorTrip _ _ _ => exact execPeakComparatorTrip_kept (Kept.refl s)
  | dpwmRecal _ => exact execDpwmRecal_kept (Kept.refl s)
  | pwmPeriodApply => exact execPwmPeriodApply_kept (Kept.refl s)
  | groupSoftstart _ => exact execGroupSoftstart_kept (Kept.refl s)
  | shortDetect _ => exact execShortDetect_kept (Kept.refl s)
  | groupRetryExpiry _ => exact execGroupRetryExpiry_kept (Kept.refl s)
  | groupRetryReset _ => exact execGroupRetryReset_kept (Kept.refl s)
  | clearG _ _ => exact execClearG_kept (Kept.refl s)
  | shedWindowExpiry _ => exact execShedWindowExpiry_kept (Kept.refl s)
  | phaseUnshed _ => exact execPhaseUnshed_kept (Kept.refl s)
  | deEnter _ => exact execDeEnter_kept (Kept.refl s)
  | slew _ _ => exact execSlew_kept (Kept.refl s)
  | slewComplete => exact execSlewComplete_kept (Kept.refl s)
  | referenceReachesTarget => exact execReferenceReachesTarget_kept (Kept.refl s)
  | allfire _ _ _ => exact execAllfire_kept (Kept.refl s)
  | fireEnd _ _ => exact execFireEnd_kept (Kept.refl s)
  | floorHoldEnd _ => exact execFloorHoldEnd_kept (Kept.refl s)
  | floorRampEnd _ => exact execFloorRampEnd_kept (Kept.refl s)
  | allfireLockoutEnd _ => exact execAllfireLockoutEnd_kept (Kept.refl s)
  | trimCycle => exact execTrimCycle_kept (Kept.refl s)
  | rectBind _ _ => exact execRectBind_kept (Kept.refl s)
  | rectStandbyCheck _ => exact execRectStandbyCheck_kept (Kept.refl s)
  | rectWakeTimeout _ => exact execRectWakeTimeout_kept (Kept.refl s)
  | rectSilent _ => exact execRectSilent_kept (Kept.refl s)
  | rectFaultClearTimer _ => exact execRectFaultClearTimer_kept (Kept.refl s)
  | rectUnbind _ _ => exact execRectUnbind_kept (Kept.refl s)
  | clearCurve _ _ => exact execClearCurve_kept (Kept.refl s)
  | allocNow _ => exact execAllocNow_kept (Kept.refl s)
  | rectRetry _ _ => exact execRectRetry_kept (Kept.refl s)
  | allocationStart => exact execAllocationStart_kept (Kept.refl s)
  | allocationResult => exact execAllocationResult_kept (Kept.refl s)
  | curveStore => exact execCurveStore_kept (Kept.refl s)
  | capComparison _ _ _ => exact execCapComparison_kept (Kept.refl s)
  | caplineSlot _ => exact execCaplineSlot_kept (Kept.refl s)
  | caplineFrameRx => exact execCaplineFrameRx_kept (Kept.refl s)
  | capTest _ => exact execCapTest_kept (Kept.refl s)
  | probeNow _ => exact execProbeNow_kept (Kept.refl s)
  | batteryUpdate => exact execBatteryUpdate_kept (Kept.refl s)
  | emptyQualified _ => exact execEmptyQualified_kept (Kept.refl s)
  | emptyEnd _ => exact execEmptyEnd_kept (Kept.refl s)
  | mean2s => exact execMean2s_kept (Kept.refl s)
  | minuteMean _ => exact execMinuteMean_kept (a1 := ()) (Kept.refl s)
  | pertResume => exact execPertResume_kept (Kept.refl s)
  | demodWindowEnd _ => exact execDemodWindowEnd_kept (a1 := ()) (Kept.refl s)
  | strIdConversion _ => exact execStrIdConversion_kept (Kept.refl s)
  | presenceChange _ => exact execPresenceChange_kept (Kept.refl s)
  | batOpen _ _ => exact execBatOpen_kept (Kept.refl s)
  | batClose _ _ => exact execBatClose_kept (Kept.refl s)
  | batReseed _ _ => exact execBatReseed_kept (Kept.refl s)
  | batRestore _ _ => exact execBatRestore_kept (Kept.refl s)
  | batTblCommit _ => exact execBatTblCommit_kept (Kept.refl s)
  | batTblDataAccess _ _ => exact execBatTblDataAccess_kept (Kept.refl s)
  | strEnWrite _ _ => exact execStrEnWrite_kept (Kept.refl s)
  | stringTrip _ => exact execStringTrip_kept (Kept.refl s)
  | stringReconnect _ => exact execStringReconnect_kept (Kept.refl s)
  | batRecordWrite => exact execBatRecordWrite_kept (Kept.refl s)
  | daysIncrement _ => exact execDaysIncrement_kept (Kept.refl s)
  | ship _ _ => exact execShip_kept (Kept.refl s)
  | wake => exact execWake_kept (Kept.refl s)
  | vbatKeepLoss => exact execVbatKeepLoss_kept (Kept.refl s)
  | wakeRestGiveup => exact execWakeRestGiveup_kept (Kept.refl s)
  | efuOn _ _ => exact execEfuOn_kept (Kept.refl s)
  | efuOff _ _ => exact execEfuOff_kept (Kept.refl s)
  | efuClear _ _ => exact execEfuClear_kept (Kept.refl s)
  | feedA _ => exact execFeedA_kept (Kept.refl s)
  | feedB _ => exact execFeedB_kept (Kept.refl s)
  | feedAuto _ => exact execFeedAuto_kept (Kept.refl s)
  | efuWaitExpiry _ => exact execEfuWaitExpiry_kept (Kept.refl s)
  | efOnRise _ => exact execEfOnRise_kept (Kept.refl s)
  | efIlimFall _ => exact execEfIlimFall_kept (Kept.refl s)
  | inrushQualified _ => exact execInrushQualified_kept (Kept.refl s)
  | inrushExpiry _ => exact execInrushExpiry_kept (Kept.refl s)
  | overcurrentExpiry _ => exact execOvercurrentExpiry_kept (Kept.refl s)
  | fetModelUpdate _ => exact execFetModelUpdate_kept (a1 := ()) (Kept.refl s)
  | efuRetryReset _ => exact execEfuRetryReset_kept (Kept.refl s)
  | damageDetect _ => exact execDamageDetect_kept (Kept.refl s)
  | feedGood _ => exact execFeedGood_kept (Kept.refl s)
  | feedBad _ => exact execFeedBad_kept (Kept.refl s)
  | feedSwitchStart => exact execFeedSwitchStart_kept (Kept.refl s)
  | feedBbmComplete => exact execFeedBbmComplete_kept (Kept.refl s)
  | feedStuck => exact execFeedStuck_kept (Kept.refl s)
  | feedRevertTimer => exact execFeedRevertTimer_kept (Kept.refl s)
  | slotInsert _ _ => exact execSlotInsert_kept (a2 := ()) (Kept.refl s)
  | slotRemove _ _ => exact execSlotRemove_kept (a2 := ()) (Kept.refl s)
  | slotMemoryExpiry _ => exact execSlotMemoryExpiry_kept (Kept.refl s)
  | seqUp _ => exact execSeqUp_kept (Kept.refl s)
  | seqDown _ => exact execSeqDown_kept (Kept.refl s)
  | seqClear _ => exact execSeqClear_kept (Kept.refl s)
  | pgDeglitchChange _ _ => exact execPgDeglitchChange_kept (Kept.refl s)
  | railQualified _ => exact execRailQualified_kept (Kept.refl s)
  | railEnRise _ => exact execRailEnRise_kept (Kept.refl s)
  | railWindowExpiry _ => exact execRailWindowExpiry_kept (Kept.refl s)
  | rmonSample _ => exact execRmonSample_kept (Kept.refl s)
  | railWarning _ => exact execRailWarning_kept (Kept.refl s)
  | faultTimerExpiry _ => exact execFaultTimerExpiry_kept (Kept.refl s)
  | fltAct0Requalify _ => exact execFltAct0Requalify_kept (Kept.refl s)
  | rmnTest _ => exact execRmnTest_kept (Kept.refl s)
  | rmnTestEnd _ => exact execRmnTestEnd_kept (Kept.refl s)
  | testTimeout => exact execTestTimeout_kept (Kept.refl s)
  | resetStretchEnd _ => exact execResetStretchEnd_kept (Kept.refl s)
  | dnStuck _ => exact execDnStuck_kept (Kept.refl s)
  | p7EnFall _ => exact execP7EnFall_kept (Kept.refl s)
  | seqRetryExpiry => exact execSeqRetryExpiry_kept (Kept.refl s)
  | seqRetryReset => exact execSeqRetryReset_kept (Kept.refl s)
  | cascadeInputChange _ _ => exact execCascadeInputChange_kept (Kept.refl s)
  | cascadeTimeout => exact execCascadeTimeout_kept (Kept.refl s)
  | thermalGroupRecompute _ => exact execThermalGroupRecompute_kept (Kept.refl s)
  | twbTransactionStart _ _ => exact execTwbTransactionStart_kept (Kept.refl s)
  | twbTransactionEnd _ _ _ _ _ _ => exact execTwbTransactionEnd_kept (Kept.refl s)
  | busFree _ => exact execBusFree_kept (Kept.refl s)
  | clkLowTimeout _ => exact execClkLowTimeout_kept (Kept.refl s)
  | sextTimeout _ _ _ => exact execSextTimeout_kept (Kept.refl s)
  | sdaHeldClear _ => exact execSdaHeldClear_kept (Kept.refl s)
  | busClearComplete _ _ => exact execBusClearComplete_kept (Kept.refl s)
  | stuckRetry _ _ => exact execStuckRetry_kept (Kept.refl s)
  | twbClear _ _ => exact execTwbClear_kept (Kept.refl s)
  | twbReset _ _ => exact execTwbReset_kept (Kept.refl s)
  | hnFlush _ => exact execHnFlush_kept (Kept.refl s)
  | hostNotify _ _ _ _ => exact execHostNotify_kept (Kept.refl s)
  | accessionPassStart => exact execAccessionPassStart_kept (Kept.refl s)
  | xacPass _ => exact execXacPass_kept (Kept.refl s)
  | accessionPassDone _ => exact execAccessionPassDone_kept (a1 := ()) (Kept.refl s)
  | entrySilentTimeout _ => exact execEntrySilentTimeout_kept (Kept.refl s)
  | deaccessionTimeout _ => exact execDeaccessionTimeout_kept (Kept.refl s)
  | deaccede _ _ => exact execDeaccede_kept (Kept.refl s)
  | pollDue => exact execPollDue_kept (Kept.refl s)
  | requestSubmit _ _ _ _ _ _ => exact execRequestSubmit_kept (Kept.refl s)
  | requestComplete => exact execRequestComplete_kept (Kept.refl s)
  | requestTimeout => exact execRequestTimeout_kept (Kept.refl s)
  | hreqSubmit _ _ => exact execHreqSubmit_kept (Kept.refl s)
  | blackBoxBlock _ _ _ => exact execBlackBoxBlock_kept (a1 := ()) (a2 := ()) (Kept.refl s)
  | blackBoxTrigger _ _ => exact execBlackBoxTrigger_kept (Kept.refl s)
  | bbxTriggerCmd _ => exact execBbxTriggerCmd_kept (Kept.refl s)
  | pin _ _ => exact execPin_kept (Kept.refl s)
  | unpin _ _ => exact execUnpin_kept (Kept.refl s)
  | delete _ _ => exact execDelete_kept (Kept.refl s)
  | postWindowClose => exact execPostWindowClose_kept (Kept.refl s)
  | strataCommitComplete => exact execStrataCommitComplete_kept (Kept.refl s)
  | eventRecord _ => exact execEventRecord_kept (Kept.refl s)
  | waitingRecordQueued => exact execWaitingRecordQueued_kept (Kept.refl s)
  | lossSummaryQueued => exact execLossSummaryQueued_kept (Kept.refl s)
  | eventDrain => exact execEventDrain_kept (Kept.refl s)
  | bucketRefill => exact execBucketRefill_kept (Kept.refl s)
  | suppressionWindowEnd => exact execSuppressionWindowEnd_kept (Kept.refl s)
  | rlCfgWrite _ _ => exact execRlCfgWrite_kept (Kept.refl s)
  | evrHeadRead _ => exact execEvrHeadRead_kept (Kept.refl s)
  | clear _ => exact execClear_kept (Kept.refl s)
  | inject _ => exact execInject_kept (Kept.refl s)
  | timeSave => exact execTimeSave_kept (Kept.refl s)
  | beaconSend => exact execBeaconSend_kept (Kept.refl s)
  | loopSend => exact execLoopSend_kept (Kept.refl s)
  | pairBeacon _ _ => exact execPairBeacon_kept (Kept.refl s)
  | pairAck _ _ => exact execPairAck_kept (Kept.refl s)
  | pairNak _ _ _ => exact execPairNak_kept (Kept.refl s)
  | pairObject _ _ => exact execPairObject_kept (Kept.refl s)
  | pairLoop _ _ => exact execPairLoop_kept (Kept.refl s)
  | pairConfig _ _ b _ _ => exact execPairConfig_kept (a3 := b) (Kept.refl s)
  | pairEstimator _ _ => exact execPairEstimator_kept (Kept.refl s)
  | pairCatalogue _ _ => exact execPairCatalogue_kept (Kept.refl s)
  | pairCommand _ _ => exact execPairCommand_kept (Kept.refl s)
  | pairBulk _ _ => exact execPairBulk_kept (Kept.refl s)
  | helkarRetransmit => exact execHelkarRetransmit_kept (Kept.refl s)
  | helkarLinkTimeout _ => exact execHelkarLinkTimeout_kept (Kept.refl s)
  | pairOffsetSlew => exact execPairOffsetSlew_kept (Kept.refl s)
  | witnessPollSend _ => exact execWitnessPollSend_kept (Kept.refl s)
  | witnessPoll _ _ _ _ => exact execWitnessPoll_kept (Kept.refl s)
  | heartbeat _ _ => exact execHeartbeat_kept (Kept.refl s)
  | heartbeatTimeout _ => exact execHeartbeatTimeout_kept (Kept.refl s)
  | registrarStart => exact execRegistrarStart_kept (Kept.refl s)
  | epoch _ _ => exact execEpoch_kept (Kept.refl s)
  | epochEffective => exact execEpochEffective_kept (Kept.refl s)
  | fence _ _ => exact execFence_kept (Kept.refl s)
  | fenceTimeout => exact execFenceTimeout_kept (Kept.refl s)
  | fenceSelf _ => exact execFenceSelf_kept (Kept.refl s)
  | pairMigrate _ => exact execPairMigrate_kept (Kept.refl s)
  | pairRevert _ => exact execPairRevert_kept (Kept.refl s)
  | pairRejoin _ => exact execPairRejoin_kept (Kept.refl s)
  | stableExpiry => exact execStableExpiry_kept (Kept.refl s)
  | fencedRejoinTimer => exact execFencedRejoinTimer_kept (Kept.refl s)
  | registrarLostTimeout => exact execRegistrarLostTimeout_kept (Kept.refl s)
  | sesOpenStart _ _ => exact execSesOpenStart_kept (Kept.refl s)
  | sesOpenClose _ _ => exact execSesOpenClose_kept (Kept.refl s)
  | sesRespSubmit _ _ => exact execSesRespSubmit_kept (Kept.refl s)
  | lockoutEnd _ => exact execLockoutEnd_kept (Kept.refl s)
  | nonceExpiry => exact execNonceExpiry_kept (Kept.refl s)
  | sessionIdleTimeout _ => exact execSessionIdleTimeout_kept (Kept.refl s)
  | keyErase _ _ => exact execKeyErase_kept (Kept.refl s)
  | keyCommit _ _ => exact execKeyCommit_kept (Kept.refl s)
  | keyDataWrite _ _ => exact execKeyDataWrite_kept (Kept.refl s)
  | spiRead _ _ _ => exact execSpiRead_kept (Kept.refl s)
  | spiWrite _ _ _ => exact execSpiWrite_kept (Kept.refl s)
  | spiStatus => exact execSpiStatus_kept (Kept.refl s)
  | praxOpen _ => exact execPraxOpen_kept (Kept.refl s)
  | praxProve _ => exact execPraxProve_kept (Kept.refl s)
  | praxClose _ => exact execPraxClose_kept (Kept.refl s)
  | praxRead _ => exact execPraxRead_kept (Kept.refl s)
  | praxWrite _ => exact execPraxWrite_kept (Kept.refl s)
  | praxKeepalive _ => exact execPraxKeepalive_kept (Kept.refl s)
  | praxSubscribe _ => exact execPraxSubscribe_kept (Kept.refl s)
  | notifyAck _ => exact execNotifyAck_kept (Kept.refl s)
  | praxWitness _ => exact execPraxWitness_kept (Kept.refl s)
  | notifySend _ _ => exact execNotifySend_kept (Kept.refl s)
  | dhcpLeaseEnd _ => exact execDhcpLeaseEnd_kept (Kept.refl s)
  | ethLinkChange _ _ _ _ _ => exact execEthLinkChange_kept (Kept.refl s)
  | ptpSync _ _ _ _ _ => exact execPtpSync_kept (Kept.refl s)
  | ptpTimeout => exact execPtpTimeout_kept (Kept.refl s)
  | mdioRead _ _ _ => exact execMdioRead_kept (Kept.refl s)
  | mdioWrite _ _ _ => exact execMdioWrite_kept (Kept.refl s)
  | mdioComplete _ => exact execMdioComplete_kept (Kept.refl s)
  | mbxSend _ _ _ => exact execMbxSend_kept (Kept.refl s)
  | mbxTake _ _ _ => exact execMbxTake_kept (Kept.refl s)
  | mbxRecall _ _ _ => exact execMbxRecall_kept (Kept.refl s)
  | mailboxDataWrite _ _ _ => exact execMailboxDataWrite_kept (Kept.refl s)
  | mailboxTimeout _ _ => exact execMailboxTimeout_kept (Kept.refl s)
  | wdiToggle => exact execWdiToggle_kept (Kept.refl s)
  | wdgOpenPhaseEnd => exact execWdgOpenPhaseEnd_kept (Kept.refl s)
  | wdgClosedPhaseEnd => exact execWdgClosedPhaseEnd_kept (Kept.refl s)
  | wdgPulseEnd => exact execWdgPulseEnd_kept (Kept.refl s)
  | wdgSuspensionEnd => exact execWdgSuspensionEnd_kept (Kept.refl s)
  | bake _ => exact execBake_kept (Kept.refl s)
  | bakeComplete _ => exact execBakeComplete_kept (Kept.refl s)
  | wipe _ _ => exact execWipe_kept (Kept.refl s)
  | wipeComplete => exact execWipeComplete_kept (Kept.refl s)
  | tillingVisit _ => exact execTillingVisit_kept (Kept.refl s)
  | eccCorrectRewrite => exact execEccCorrectRewrite_kept (Kept.refl s)
  | klnNextLenUpdate => exact execKlnNextLenUpdate_kept (Kept.refl s)
  | chainBlock _ _ _ => exact execChainBlock_kept (Kept.refl s)
  | chainAck _ => exact execChainAck_kept (Kept.refl s)
  | chainNak _ _ => exact execChainNak_kept (Kept.refl s)
  | chainHello _ _ _ _ _ => exact execChainHello_kept (Kept.refl s)
  | chainStatus _ _ => exact execChainStatus_kept (Kept.refl s)
  | helloSend => exact execHelloSend_kept (Kept.refl s)
  | chainPortTimeout _ _ => exact execChainPortTimeout_kept (Kept.refl s)
  | chainRetransmit _ => exact execChainRetransmit_kept (Kept.refl s)
  | resetLink _ _ => exact execResetLink_kept (Kept.refl s)
  | stagingRxTimeout => exact execStagingRxTimeout_kept (Kept.refl s)
  | updActivate _ => exact execUpdActivate_kept (Kept.refl s)
  | updDiscard _ => exact execUpdDiscard_kept (Kept.refl s)
  | updRevert _ => exact execUpdRevert_kept (Kept.refl s)
  | moduleBankReport => exact execModuleBankReport_kept (Kept.refl s)
  | moduleTimeout => exact execModuleTimeout_kept (Kept.refl s)
  | trialTimeout => exact execTrialTimeout_kept (Kept.refl s)
  | coreTaskBoundary _ _ => exact execCoreTaskBoundary_kept (Kept.refl s)
  | coreBoundaryTimeout _ => exact execCoreBoundaryTimeout_kept (Kept.refl s)
  | coreRelease _ => exact execCoreRelease_kept (Kept.refl s)
  | sieveRead _ _ _ => exact execSieveRead_kept (Kept.refl s)
  | sievePassEnd => exact execSievePassEnd_kept (Kept.refl s)
  | supplyDroop _ _ => exact execSupplyDroop_kept (Kept.refl s)
  | telemetryRefresh _ => exact execTelemetryRefresh_kept (Kept.refl s)
  | jtagExtest => exact execJtagExtest_kept (Kept.refl s)
  | catalogueScheduleWrite _ _ _ => exact execCatalogueScheduleWrite_kept (Kept.refl s)
  | afeMeansUpdate _ _ _ _ _ _ _ => exact execAfeMeansUpdate_kept (Kept.refl s)
  | ptpAnnounce _ _ => exact execPtpAnnounce_kept (Kept.refl s)
  | dhcpLeaseObtained _ _ _ => exact execDhcpLeaseObtained_kept (Kept.refl s)
  | listenSdaLowTimeout _ => exact execListenSdaLowTimeout_kept (Kept.refl s)
  | supplyDroopEnd _ => exact execSupplyDroopEnd_kept (Kept.refl s)

/-- A command that is none of the storing ones leaves memory as it was. -/
theorem exec_same (c : Instr) (s t : State) (hc : stores c = false) (e : exec c s = .next t) : t.mem = s.mem := by
  cases c with
  | vinGood => exact (execVinGood_kept (m0 := ⟨false, false⟩) (Kept.refl s) t e).same rfl
  | powerOnResetAssert _ => cases hc
  | powerOnResetRelease _ => cases hc
  | strapLatch _ => exact (execStrapLatch_kept (m0 := ⟨false, false⟩) (Kept.refl s) t e).same rfl
  | kilnLoad _ => cases hc
  | greenwareStart _ _ _ _ => cases hc
  | outHoldRelease _ => cases hc
  | supplyBankChange _ _ _ => cases hc
  | resetInAssert => cases hc
  | resetInRelease => cases hc
  | coreRestart _ _ => cases hc
  | bootCheckComplete _ _ => cases hc
  | calAttemptComplete _ => exact (execCalAttemptComplete_kept (m0 := ⟨false, false⟩) (Kept.refl s) t e).same rfl
  | calRetryTimer => exact (execCalRetryTimer_kept (m0 := ⟨false, false⟩) (Kept.refl s) t e).same rfl
  | calRetryCmd _ => exact (execCalRetryCmd_kept (m0 := ⟨false, false⟩) (Kept.refl s) t e).same rfl
  | acFailAssert _ => cases hc
  | acFailClear _ => exact (execAcFailClear_kept (m0 := ⟨false, false⟩) (Kept.refl s) t e).same rfl
  | pickupQualified => cases hc
  | prearmClearQualified => cases hc
  | returnQualified => cases hc
  | returnLoadLost => cases hc
  | handbackRampComplete => cases hc
  | noStringClosedExpiry => cases hc
  | exhaustedRecovered => cases hc
  | efficiencyResumeTimer => exact (execEfficiencyResumeTimer_kept (m0 := ⟨false, false⟩) (Kept.refl s) t e).same rfl
  | tbSrcWrite _ _ => cases hc
  | discSourcePresent => exact (execDiscSourcePresent_kept (m0 := ⟨false, false⟩) (Kept.refl s) t e).same rfl
  | discSourceLost => exact (execDiscSourceLost_kept (m0 := ⟨false, false⟩) (Kept.refl s) t e).same rfl
  | discLockWindow _ => exact (execDiscLockWindow_kept (m0 := ⟨false, false⟩) (Kept.refl s) t e).same rfl
  | holdoverStale => exact (execHoldoverStale_kept (m0 := ⟨false, false⟩) (Kept.refl s) t e).same rfl
  | discRateStep _ _ => exact (execDiscRateStep_kept (m0 := ⟨false, false⟩) (Kept.refl s) t e).same rfl
  | xchkWindowEnd _ => cases hc
  | vcoreWindowEnd => exact (execVcoreWindowEnd_kept (m0 := ⟨false, false⟩) (Kept.refl s) t e).same rfl
  | tickLatchRead _ => cases hc
  | multiwordLatchRead _ _ => cases hc
  | registerWrite _ _ _ => cases hc
  | aliasWrite _ _ _ => cases hc
  | cckScanStart => exact (execCckScanStart_kept (m0 := ⟨false, false⟩) (Kept.refl s) t e).same rfl
  | cckScanComplete _ => exact (execCckScanComplete_kept (m0 := ⟨false, false⟩) (Kept.refl s) t e).same rfl
  | cckCommit _ => exact (execCckCommit_kept (m0 := ⟨false, false⟩) (Kept.refl s) t e).same rfl
  | crosscheckFaultDeclared _ => cases hc
  | crosscheckJudge _ _ _ _ => exact (execCrosscheckJudge_kept (m0 := ⟨false, false⟩) (Kept.refl s) t e).same rfl
  | monRequestDue _ _ => exact (execMonRequestDue_kept (m0 := ⟨false, false⟩) (Kept.refl s) t e).same rfl
  | monSelWrite _ _ => exact (execMonSelWrite_kept (m0 := ⟨false, false⟩) (Kept.refl s) t e).same rfl
  | calPassStart => exact (execCalPassStart_kept (m0 := ⟨false, false⟩) (Kept.refl s) t e).same rfl
  | calVisitComplete _ => exact (execCalVisitComplete_kept (m0 := ⟨false, false⟩) (Kept.refl s) t e).same rfl
  | calVisitAbort _ => cases hc
  | calPassEnd _ => exact (execCalPassEnd_kept (m0 := ⟨false, false⟩) (Kept.refl s) t e).same rfl
  | spareChangeover _ _ => exact (execSpareChangeover_kept (m0 := ⟨false, false⟩) (Kept.refl s) t e).same rfl
  | diodeConversion _ _ => exact (execDiodeConversion_kept (m0 := ⟨false, false⟩) (Kept.refl s) t e).same rfl
  | loopSampleRequest _ _ _ => exact (execLoopSampleRequest_kept (m0 := ⟨false, false⟩) (Kept.refl s) t e).same rfl
  | coefWindowWrite _ _ _ => cases hc
  | lpeAdmit _ => exact (execLpeAdmit_kept (m0 := ⟨false, false⟩) (Kept.refl s) t e).same rfl
  | admissionComplete => cases hc
  | lpeDiscard _ => cases hc
  | laneTest _ _ => exact (execLaneTest_kept (m0 := ⟨false, false⟩) (Kept.refl s) t e).same rfl
  | laneSelfTest _ _ => exact (execLaneSelfTest_kept (m0 := ⟨false, false⟩) (Kept.refl s) t e).same rfl
  | loopClearFault _ _ => exact (execLoopClearFault_kept (m0 := ⟨false, false⟩) (Kept.refl s) t e).same rfl
  | loopResetState _ _ => exact (execLoopResetState_kept (m0 := ⟨false, false⟩) (Kept.refl s) t e).same rfl
  | coefCrcCheck _ => exact (execCoefCrcCheck_kept (m0 := ⟨false, false⟩) (Kept.refl s) t e).same rfl
  | tuneStart _ => exact (execTuneStart_kept (m0 := ⟨false, false⟩) (Kept.refl s) t e).same rfl
  | tuneAbort _ => exact (execTuneAbort_kept (m0 := ⟨false, false⟩) (Kept.refl s) t e).same rfl
  | tuneApply _ => cases hc
  | tuneRepropose _ => exact (execTuneRepropose_kept (m0 := ⟨false, false⟩) (Kept.refl s) t e).same rfl
  | relayTimeout => exact (execRelayTimeout_kept (m0 := ⟨false, false⟩) (Kept.refl s) t e).same rfl
  | lineCrossing _ _ _ => exact (execLineCrossing_kept (m0 := ⟨false, false⟩) (Kept.refl s) t e).same rfl
  | lineSourceLost _ => exact (execLineSourceLost_kept (m0 := ⟨false, false⟩) (Kept.refl s) t e).same rfl
  | flywheelEnd => exact (execFlywheelEnd_kept (m0 := ⟨false, false⟩) (Kept.refl s) t e).same rfl
  | lptTblCommit _ _ => cases hc
  | tblSwap => cases hc
  | tblDataAccess _ _ => cases hc
  | tblCrcCheck _ => exact (execTblCrcCheck_kept (m0 := ⟨false, false⟩) (Kept.refl s) t e).same rfl
  | rcClear _ _ => exact (execRcClear_kept (m0 := ⟨false, false⟩) (Kept.refl s) t e).same rfl
  | rcFadeEnd _ => exact (execRcFadeEnd_kept (m0 := ⟨false, false⟩) (Kept.refl s) t e).same rfl
  | phaseCycleStart _ _ _ _ _ _ _ => cases hc
  | peakComparatorTrip _ _ _ => cases hc
  | dpwmRecal _ => exact (execDpwmRecal_kept (m0 := ⟨false, false⟩) (Kept.refl s) t e).same rfl
  | pwmPeriodApply => exact (execPwmPeriodApply_kept (m0 := ⟨false, false⟩) (Kept.refl s) t e).same rfl
  | groupSoftstart _ => exact (execGroupSoftstart_kept (m0 := ⟨false, false⟩) (Kept.refl s) t e).same rfl
  | shortDetect _ => cases hc
  | groupRetryExpiry _ => exact (execGroupRetryExpiry_kept (m0 := ⟨false, false⟩) (Kept.refl s) t e).same rfl
  | groupRetryReset _ => exact (execGroupRetryReset_kept (m0 := ⟨false, false⟩) (Kept.refl s) t e).same rfl
  | clearG _ _ => exact (execClearG_kept (m0 := ⟨false, false⟩) (Kept.refl s) t e).same rfl
  | shedWindowExpiry _ => exact (execShedWindowExpiry_kept (m0 := ⟨false, false⟩) (Kept.refl s) t e).same rfl
  | phaseUnshed _ => exact (execPhaseUnshed_kept (m0 := ⟨false, false⟩) (Kept.refl s) t e).same rfl
  | deEnter _ => exact (execDeEnter_kept (m0 := ⟨false, false⟩) (Kept.refl s) t e).same rfl
  | slew _ _ => exact (execSlew_kept (m0 := ⟨false, false⟩) (Kept.refl s) t e).same rfl
  | slewComplete => exact (execSlewComplete_kept (m0 := ⟨false, false⟩) (Kept.refl s) t e).same rfl
  | referenceReachesTarget => exact (execReferenceReachesTarget_kept (m0 := ⟨false, false⟩) (Kept.refl s) t e).same rfl
  | allfire _ _ _ => cases hc
  | fireEnd _ _ => exact (execFireEnd_kept (m0 := ⟨false, false⟩) (Kept.refl s) t e).same rfl
  | floorHoldEnd _ => exact (execFloorHoldEnd_kept (m0 := ⟨false, false⟩) (Kept.refl s) t e).same rfl
  | floorRampEnd _ => exact (execFloorRampEnd_kept (m0 := ⟨false, false⟩) (Kept.refl s) t e).same rfl
  | allfireLockoutEnd _ => exact (execAllfireLockoutEnd_kept (m0 := ⟨false, false⟩) (Kept.refl s) t e).same rfl
  | trimCycle => cases hc
  | rectBind _ _ => cases hc
  | rectStandbyCheck _ => cases hc
  | rectWakeTimeout _ => cases hc
  | rectSilent _ => cases hc
  | rectFaultClearTimer _ => cases hc
  | rectUnbind _ _ => cases hc
  | clearCurve _ _ => exact (execClearCurve_kept (m0 := ⟨false, false⟩) (Kept.refl s) t e).same rfl
  | allocNow _ => exact (execAllocNow_kept (m0 := ⟨false, false⟩) (Kept.refl s) t e).same rfl
  | rectRetry _ _ => cases hc
  | allocationStart => exact (execAllocationStart_kept (m0 := ⟨false, false⟩) (Kept.refl s) t e).same rfl
  | allocationResult => exact (execAllocationResult_kept (m0 := ⟨false, false⟩) (Kept.refl s) t e).same rfl
  | curveStore => cases hc
  | capComparison _ _ _ => exact (execCapComparison_kept (m0 := ⟨false, false⟩) (Kept.refl s) t e).same rfl
  | caplineSlot _ => exact (execCaplineSlot_kept (m0 := ⟨false, false⟩) (Kept.refl s) t e).same rfl
  | caplineFrameRx => exact (execCaplineFrameRx_kept (m0 := ⟨false, false⟩) (Kept.refl s) t e).same rfl
  | capTest _ => exact (execCapTest_kept (m0 := ⟨false, false⟩) (Kept.refl s) t e).same rfl
  | probeNow _ => exact (execProbeNow_kept (m0 := ⟨false, false⟩) (Kept.refl s) t e).same rfl
  | batteryUpdate => cases hc
  | emptyQualified _ => cases hc
  | emptyEnd _ => exact (execEmptyEnd_kept (m0 := ⟨false, false⟩) (Kept.refl s) t e).same rfl
  | mean2s => exact (execMean2s_kept (m0 := ⟨false, false⟩) (Kept.refl s) t e).same rfl
  | minuteMean _ => exact (execMinuteMean_kept (m0 := ⟨false, false⟩) (a1 := ()) (Kept.refl s) t e).same rfl
  | pertResume => exact (execPertResume_kept (m0 := ⟨false, false⟩) (Kept.refl s) t e).same rfl
  | demodWindowEnd _ => exact (execDemodWindowEnd_kept (m0 := ⟨false, false⟩) (a1 := ()) (Kept.refl s) t e).same rfl
  | strIdConversion _ => cases hc
  | presenceChange _ => cases hc
  | batOpen _ _ => cases hc
  | batClose _ _ => exact (execBatClose_kept (m0 := ⟨false, false⟩) (Kept.refl s) t e).same rfl
  | batReseed _ _ => cases hc
  | batRestore _ _ => cases hc
  | batTblCommit _ => cases hc
  | batTblDataAccess _ _ => cases hc
  | strEnWrite _ _ => cases hc
  | stringTrip _ => cases hc
  | stringReconnect _ => exact (execStringReconnect_kept (m0 := ⟨false, false⟩) (Kept.refl s) t e).same rfl
  | batRecordWrite => cases hc
  | daysIncrement _ => exact (execDaysIncrement_kept (m0 := ⟨false, false⟩) (Kept.refl s) t e).same rfl
  | ship _ _ => exact (execShip_kept (m0 := ⟨false, false⟩) (Kept.refl s) t e).same rfl
  | wake => exact (execWake_kept (m0 := ⟨false, false⟩) (Kept.refl s) t e).same rfl
  | vbatKeepLoss => exact (execVbatKeepLoss_kept (m0 := ⟨false, false⟩) (Kept.refl s) t e).same rfl
  | wakeRestGiveup => cases hc
  | efuOn _ _ => cases hc
  | efuOff _ _ => exact (execEfuOff_kept (m0 := ⟨false, false⟩) (Kept.refl s) t e).same rfl
  | efuClear _ _ => exact (execEfuClear_kept (m0 := ⟨false, false⟩) (Kept.refl s) t e).same rfl
  | feedA _ => exact (execFeedA_kept (m0 := ⟨false, false⟩) (Kept.refl s) t e).same rfl
  | feedB _ => exact (execFeedB_kept (m0 := ⟨false, false⟩) (Kept.refl s) t e).same rfl
  | feedAuto _ => exact (execFeedAuto_kept (m0 := ⟨false, false⟩) (Kept.refl s) t e).same rfl
  | efuWaitExpiry _ => exact (execEfuWaitExpiry_kept (m0 := ⟨false, false⟩) (Kept.refl s) t e).same rfl
  | efOnRise _ => exact (execEfOnRise_kept (m0 := ⟨false, false⟩) (Kept.refl s) t e).same rfl
  | efIlimFall _ => exact (execEfIlimFall_kept (m0 := ⟨false, false⟩) (Kept.refl s) t e).same rfl
  | inrushQualified _ => exact (execInrushQualified_kept (m0 := ⟨false, false⟩) (Kept.refl s) t e).same rfl
  | inrushExpiry _ => exact (execInrushExpiry_kept (m0 := ⟨false, false⟩) (Kept.refl s) t e).same rfl
  | overcurrentExpiry _ => exact (execOvercurrentExpiry_kept (m0 := ⟨false, false⟩) (Kept.refl s) t e).same rfl
  | fetModelUpdate _ => exact (execFetModelUpdate_kept (m0 := ⟨false, false⟩) (a1 := ()) (Kept.refl s) t e).same rfl
  | efuRetryReset _ => exact (execEfuRetryReset_kept (m0 := ⟨false, false⟩) (Kept.refl s) t e).same rfl
  | damageDetect _ => cases hc
  | feedGood _ => exact (execFeedGood_kept (m0 := ⟨false, false⟩) (Kept.refl s) t e).same rfl
  | feedBad _ => exact (execFeedBad_kept (m0 := ⟨false, false⟩) (Kept.refl s) t e).same rfl
  | feedSwitchStart => exact (execFeedSwitchStart_kept (m0 := ⟨false, false⟩) (Kept.refl s) t e).same rfl
  | feedBbmComplete => exact (execFeedBbmComplete_kept (m0 := ⟨false, false⟩) (Kept.refl s) t e).same rfl
  | feedStuck => exact (execFeedStuck_kept (m0 := ⟨false, false⟩) (Kept.refl s) t e).same rfl
  | feedRevertTimer => exact (execFeedRevertTimer_kept (m0 := ⟨false, false⟩) (Kept.refl s) t e).same rfl
  | slotInsert _ _ => exact (execSlotInsert_kept (m0 := ⟨false, false⟩) (a2 := ()) (Kept.refl s) t e).same rfl
  | slotRemove _ _ => exact (execSlotRemove_kept (m0 := ⟨false, false⟩) (a2 := ()) (Kept.refl s) t e).same rfl
  | slotMemoryExpiry _ => exact (execSlotMemoryExpiry_kept (m0 := ⟨false, false⟩) (Kept.refl s) t e).same rfl
  | seqUp _ => cases hc
  | seqDown _ => cases hc
  | seqClear _ => cases hc
  | pgDeglitchChange _ _ => cases hc
  | railQualified _ => cases hc
  | railEnRise _ => cases hc
  | railWindowExpiry _ => exact (execRailWindowExpiry_kept (m0 := ⟨false, false⟩) (Kept.refl s) t e).same rfl
  | rmonSample _ => cases hc
  | railWarning _ => exact (execRailWarning_kept (m0 := ⟨false, false⟩) (Kept.refl s) t e).same rfl
  | faultTimerExpiry _ => exact (execFaultTimerExpiry_kept (m0 := ⟨false, false⟩) (Kept.refl s) t e).same rfl
  | fltAct0Requalify _ => cases hc
  | rmnTest _ => cases hc
  | rmnTestEnd _ => cases hc
  | testTimeout => cases hc
  | resetStretchEnd _ => exact (execResetStretchEnd_kept (m0 := ⟨false, false⟩) (Kept.refl s) t e).same rfl
  | dnStuck _ => exact (execDnStuck_kept (m0 := ⟨false, false⟩) (Kept.refl s) t e).same rfl
  | p7EnFall _ => cases hc
  | seqRetryExpiry => cases hc
  | seqRetryReset => exact (execSeqRetryReset_kept (m0 := ⟨false, false⟩) (Kept.refl s) t e).same rfl
  | cascadeInputChange _ _ => cases hc
  | cascadeTimeout => cases hc
  | thermalGroupRecompute _ => cases hc
  | twbTransactionStart _ _ => exact (execTwbTransactionStart_kept (m0 := ⟨false, false⟩) (Kept.refl s) t e).same rfl
  | twbTransactionEnd _ _ _ _ _ _ => exact (execTwbTransactionEnd_kept (m0 := ⟨false, false⟩) (Kept.refl s) t e).same rfl
  | busFree _ => exact (execBusFree_kept (m0 := ⟨false, false⟩) (Kept.refl s) t e).same rfl
  | clkLowTimeout _ => cases hc
  | sextTimeout _ _ _ => exact (execSextTimeout_kept (m0 := ⟨false, false⟩) (Kept.refl s) t e).same rfl
  | sdaHeldClear _ => exact (execSdaHeldClear_kept (m0 := ⟨false, false⟩) (Kept.refl s) t e).same rfl
  | busClearComplete _ _ => cases hc
  | stuckRetry _ _ => exact (execStuckRetry_kept (m0 := ⟨false, false⟩) (Kept.refl s) t e).same rfl
  | twbClear _ _ => exact (execTwbClear_kept (m0 := ⟨false, false⟩) (Kept.refl s) t e).same rfl
  | twbReset _ _ => exact (execTwbReset_kept (m0 := ⟨false, false⟩) (Kept.refl s) t e).same rfl
  | hnFlush _ => exact (execHnFlush_kept (m0 := ⟨false, false⟩) (Kept.refl s) t e).same rfl
  | hostNotify _ _ _ _ => exact (execHostNotify_kept (m0 := ⟨false, false⟩) (Kept.refl s) t e).same rfl
  | accessionPassStart => cases hc
  | xacPass _ => cases hc
  | accessionPassDone _ => cases hc
  | entrySilentTimeout _ => cases hc
  | deaccessionTimeout _ => cases hc
  | deaccede _ _ => cases hc
  | pollDue => cases hc
  | requestSubmit _ _ _ _ _ _ => cases hc
  | requestComplete => cases hc
  | requestTimeout => cases hc
  | hreqSubmit _ _ => cases hc
  | blackBoxBlock _ _ _ => cases hc
  | blackBoxTrigger _ _ => cases hc
  | bbxTriggerCmd _ => cases hc
  | pin _ _ => exact (execPin_kept (m0 := ⟨false, false⟩) (Kept.refl s) t e).same rfl
  | unpin _ _ => exact (execUnpin_kept (m0 := ⟨false, false⟩) (Kept.refl s) t e).same rfl
  | delete _ _ => exact (execDelete_kept (m0 := ⟨false, false⟩) (Kept.refl s) t e).same rfl
  | postWindowClose => exact (execPostWindowClose_kept (m0 := ⟨false, false⟩) (Kept.refl s) t e).same rfl
  | strataCommitComplete => cases hc
  | eventRecord _ => exact (execEventRecord_kept (m0 := ⟨false, false⟩) (Kept.refl s) t e).same rfl
  | waitingRecordQueued => exact (execWaitingRecordQueued_kept (m0 := ⟨false, false⟩) (Kept.refl s) t e).same rfl
  | lossSummaryQueued => exact (execLossSummaryQueued_kept (m0 := ⟨false, false⟩) (Kept.refl s) t e).same rfl
  | eventDrain => cases hc
  | bucketRefill => exact (execBucketRefill_kept (m0 := ⟨false, false⟩) (Kept.refl s) t e).same rfl
  | suppressionWindowEnd => exact (execSuppressionWindowEnd_kept (m0 := ⟨false, false⟩) (Kept.refl s) t e).same rfl
  | rlCfgWrite _ _ => exact (execRlCfgWrite_kept (m0 := ⟨false, false⟩) (Kept.refl s) t e).same rfl
  | evrHeadRead _ => exact (execEvrHeadRead_kept (m0 := ⟨false, false⟩) (Kept.refl s) t e).same rfl
  | clear _ => exact (execClear_kept (m0 := ⟨false, false⟩) (Kept.refl s) t e).same rfl
  | inject _ => exact (execInject_kept (m0 := ⟨false, false⟩) (Kept.refl s) t e).same rfl
  | timeSave => cases hc
  | beaconSend => exact (execBeaconSend_kept (m0 := ⟨false, false⟩) (Kept.refl s) t e).same rfl
  | loopSend => exact (execLoopSend_kept (m0 := ⟨false, false⟩) (Kept.refl s) t e).same rfl
  | pairBeacon _ _ => exact (execPairBeacon_kept (m0 := ⟨false, false⟩) (Kept.refl s) t e).same rfl
  | pairAck _ _ => exact (execPairAck_kept (m0 := ⟨false, false⟩) (Kept.refl s) t e).same rfl
  | pairNak _ _ _ => exact (execPairNak_kept (m0 := ⟨false, false⟩) (Kept.refl s) t e).same rfl
  | pairObject _ _ => cases hc
  | pairLoop _ _ => exact (execPairLoop_kept (m0 := ⟨false, false⟩) (Kept.refl s) t e).same rfl
  | pairConfig _ _ _ _ _ => cases hc
  | pairEstimator _ _ => exact (execPairEstimator_kept (m0 := ⟨false, false⟩) (Kept.refl s) t e).same rfl
  | pairCatalogue _ _ => cases hc
  | pairCommand _ _ => cases hc
  | pairBulk _ _ => cases hc
  | helkarRetransmit => exact (execHelkarRetransmit_kept (m0 := ⟨false, false⟩) (Kept.refl s) t e).same rfl
  | helkarLinkTimeout _ => exact (execHelkarLinkTimeout_kept (m0 := ⟨false, false⟩) (Kept.refl s) t e).same rfl
  | pairOffsetSlew => exact (execPairOffsetSlew_kept (m0 := ⟨false, false⟩) (Kept.refl s) t e).same rfl
  | witnessPollSend _ => exact (execWitnessPollSend_kept (m0 := ⟨false, false⟩) (Kept.refl s) t e).same rfl
  | witnessPoll _ _ _ _ => cases hc
  | heartbeat _ _ => exact (execHeartbeat_kept (m0 := ⟨false, false⟩) (Kept.refl s) t e).same rfl
  | heartbeatTimeout _ => exact (execHeartbeatTimeout_kept (m0 := ⟨false, false⟩) (Kept.refl s) t e).same rfl
  | registrarStart => exact (execRegistrarStart_kept (m0 := ⟨false, false⟩) (Kept.refl s) t e).same rfl
  | epoch _ _ => cases hc
  | epochEffective => cases hc
  | fence _ _ => cases hc
  | fenceTimeout => cases hc
  | fenceSelf _ => cases hc
  | pairMigrate _ => exact (execPairMigrate_kept (m0 := ⟨false, false⟩) (Kept.refl s) t e).same rfl
  | pairRevert _ => exact (execPairRevert_kept (m0 := ⟨false, false⟩) (Kept.refl s) t e).same rfl
  | pairRejoin _ => exact (execPairRejoin_kept (m0 := ⟨false, false⟩) (Kept.refl s) t e).same rfl
  | stableExpiry => exact (execStableExpiry_kept (m0 := ⟨false, false⟩) (Kept.refl s) t e).same rfl
  | fencedRejoinTimer => exact (execFencedRejoinTimer_kept (m0 := ⟨false, false⟩) (Kept.refl s) t e).same rfl
  | registrarLostTimeout => exact (execRegistrarLostTimeout_kept (m0 := ⟨false, false⟩) (Kept.refl s) t e).same rfl
  | sesOpenStart _ _ => exact (execSesOpenStart_kept (m0 := ⟨false, false⟩) (Kept.refl s) t e).same rfl
  | sesOpenClose _ _ => exact (execSesOpenClose_kept (m0 := ⟨false, false⟩) (Kept.refl s) t e).same rfl
  | sesRespSubmit _ _ => exact (execSesRespSubmit_kept (m0 := ⟨false, false⟩) (Kept.refl s) t e).same rfl
  | lockoutEnd _ => exact (execLockoutEnd_kept (m0 := ⟨false, false⟩) (Kept.refl s) t e).same rfl
  | nonceExpiry => exact (execNonceExpiry_kept (m0 := ⟨false, false⟩) (Kept.refl s) t e).same rfl
  | sessionIdleTimeout _ => exact (execSessionIdleTimeout_kept (m0 := ⟨false, false⟩) (Kept.refl s) t e).same rfl
  | keyErase _ _ => exact (execKeyErase_kept (m0 := ⟨false, false⟩) (Kept.refl s) t e).same rfl
  | keyCommit _ _ => exact (execKeyCommit_kept (m0 := ⟨false, false⟩) (Kept.refl s) t e).same rfl
  | keyDataWrite _ _ => exact (execKeyDataWrite_kept (m0 := ⟨false, false⟩) (Kept.refl s) t e).same rfl
  | spiRead _ _ _ => cases hc
  | spiWrite _ _ _ => cases hc
  | spiStatus => exact (execSpiStatus_kept (m0 := ⟨false, false⟩) (Kept.refl s) t e).same rfl
  | praxOpen _ => exact (execPraxOpen_kept (m0 := ⟨false, false⟩) (Kept.refl s) t e).same rfl
  | praxProve _ => exact (execPraxProve_kept (m0 := ⟨false, false⟩) (Kept.refl s) t e).same rfl
  | praxClose _ => exact (execPraxClose_kept (m0 := ⟨false, false⟩) (Kept.refl s) t e).same rfl
  | praxRead _ => cases hc
  | praxWrite _ => cases hc
  | praxKeepalive _ => exact (execPraxKeepalive_kept (m0 := ⟨false, false⟩) (Kept.refl s) t e).same rfl
  | praxSubscribe _ => exact (execPraxSubscribe_kept (m0 := ⟨false, false⟩) (Kept.refl s) t e).same rfl
  | notifyAck _ => exact (execNotifyAck_kept (m0 := ⟨false, false⟩) (Kept.refl s) t e).same rfl
  | praxWitness _ => cases hc
  | notifySend _ _ => exact (execNotifySend_kept (m0 := ⟨false, false⟩) (Kept.refl s) t e).same rfl
  | dhcpLeaseEnd _ => exact (execDhcpLeaseEnd_kept (m0 := ⟨false, false⟩) (Kept.refl s) t e).same rfl
  | ethLinkChange _ _ _ _ _ => exact (execEthLinkChange_kept (m0 := ⟨false, false⟩) (Kept.refl s) t e).same rfl
  | ptpSync _ _ _ _ _ => exact (execPtpSync_kept (m0 := ⟨false, false⟩) (Kept.refl s) t e).same rfl
  | ptpTimeout => exact (execPtpTimeout_kept (m0 := ⟨false, false⟩) (Kept.refl s) t e).same rfl
  | mdioRead _ _ _ => exact (execMdioRead_kept (m0 := ⟨false, false⟩) (Kept.refl s) t e).same rfl
  | mdioWrite _ _ _ => exact (execMdioWrite_kept (m0 := ⟨false, false⟩) (Kept.refl s) t e).same rfl
  | mdioComplete _ => exact (execMdioComplete_kept (m0 := ⟨false, false⟩) (Kept.refl s) t e).same rfl
  | mbxSend _ _ _ => exact (execMbxSend_kept (m0 := ⟨false, false⟩) (Kept.refl s) t e).same rfl
  | mbxTake _ _ _ => exact (execMbxTake_kept (m0 := ⟨false, false⟩) (Kept.refl s) t e).same rfl
  | mbxRecall _ _ _ => exact (execMbxRecall_kept (m0 := ⟨false, false⟩) (Kept.refl s) t e).same rfl
  | mailboxDataWrite _ _ _ => cases hc
  | mailboxTimeout _ _ => exact (execMailboxTimeout_kept (m0 := ⟨false, false⟩) (Kept.refl s) t e).same rfl
  | wdiToggle => exact (execWdiToggle_kept (m0 := ⟨false, false⟩) (Kept.refl s) t e).same rfl
  | wdgOpenPhaseEnd => cases hc
  | wdgClosedPhaseEnd => exact (execWdgClosedPhaseEnd_kept (m0 := ⟨false, false⟩) (Kept.refl s) t e).same rfl
  | wdgPulseEnd => exact (execWdgPulseEnd_kept (m0 := ⟨false, false⟩) (Kept.refl s) t e).same rfl
  | wdgSuspensionEnd => cases hc
  | bake _ => cases hc
  | bakeComplete _ => cases hc
  | wipe _ _ => exact (execWipe_kept (m0 := ⟨false, false⟩) (Kept.refl s) t e).same rfl
  | wipeComplete => cases hc
  | tillingVisit _ => cases hc
  | eccCorrectRewrite => cases hc
  | klnNextLenUpdate => exact (execKlnNextLenUpdate_kept (m0 := ⟨false, false⟩) (Kept.refl s) t e).same rfl
  | chainBlock _ _ _ => cases hc
  | chainAck _ => exact (execChainAck_kept (m0 := ⟨false, false⟩) (Kept.refl s) t e).same rfl
  | chainNak _ _ => exact (execChainNak_kept (m0 := ⟨false, false⟩) (Kept.refl s) t e).same rfl
  | chainHello _ _ _ _ _ => exact (execChainHello_kept (m0 := ⟨false, false⟩) (Kept.refl s) t e).same rfl
  | chainStatus _ _ => exact (execChainStatus_kept (m0 := ⟨false, false⟩) (Kept.refl s) t e).same rfl
  | helloSend => exact (execHelloSend_kept (m0 := ⟨false, false⟩) (Kept.refl s) t e).same rfl
  | chainPortTimeout _ _ => exact (execChainPortTimeout_kept (m0 := ⟨false, false⟩) (Kept.refl s) t e).same rfl
  | chainRetransmit _ => exact (execChainRetransmit_kept (m0 := ⟨false, false⟩) (Kept.refl s) t e).same rfl
  | resetLink _ _ => exact (execResetLink_kept (m0 := ⟨false, false⟩) (Kept.refl s) t e).same rfl
  | stagingRxTimeout => exact (execStagingRxTimeout_kept (m0 := ⟨false, false⟩) (Kept.refl s) t e).same rfl
  | updActivate _ => cases hc
  | updDiscard _ => exact (execUpdDiscard_kept (m0 := ⟨false, false⟩) (Kept.refl s) t e).same rfl
  | updRevert _ => cases hc
  | moduleBankReport => cases hc
  | moduleTimeout => cases hc
  | trialTimeout => cases hc
  | coreTaskBoundary _ _ => cases hc
  | coreBoundaryTimeout _ => cases hc
  | coreRelease _ => cases hc
  | sieveRead _ _ _ => cases hc
  | sievePassEnd => exact (execSievePassEnd_kept (m0 := ⟨false, false⟩) (Kept.refl s) t e).same rfl
  | supplyDroop _ _ => exact (execSupplyDroop_kept (m0 := ⟨false, false⟩) (Kept.refl s) t e).same rfl
  | telemetryRefresh _ => exact (execTelemetryRefresh_kept (m0 := ⟨false, false⟩) (Kept.refl s) t e).same rfl
  | jtagExtest => exact (execJtagExtest_kept (m0 := ⟨false, false⟩) (Kept.refl s) t e).same rfl
  | catalogueScheduleWrite _ _ _ => cases hc
  | afeMeansUpdate _ _ _ _ _ _ _ => exact (execAfeMeansUpdate_kept (m0 := ⟨false, false⟩) (Kept.refl s) t e).same rfl
  | ptpAnnounce _ _ => exact (execPtpAnnounce_kept (m0 := ⟨false, false⟩) (Kept.refl s) t e).same rfl
  | dhcpLeaseObtained _ _ _ => exact (execDhcpLeaseObtained_kept (m0 := ⟨false, false⟩) (Kept.refl s) t e).same rfl
  | listenSdaLowTimeout _ => exact (execListenSdaLowTimeout_kept (m0 := ⟨false, false⟩) (Kept.refl s) t e).same rfl
  | supplyDroopEnd _ => exact (execSupplyDroopEnd_kept (m0 := ⟨false, false⟩) (Kept.refl s) t e).same rfl

/-- A command with which no condition of R22 is met leaves the power state. -/
theorem exec_stays (c : Instr) (s t : State) (hc : movesPower c = false) (e : exec c s = .next t) : t.power = s.power ∧ t.powerSince = s.powerSince := by
  cases c with
  | vinGood => exact (execVinGood_kept (m0 := ⟨false, true⟩) (Kept.refl s) t e).stays
  | powerOnResetAssert _ => cases hc
  | powerOnResetRelease _ => cases hc
  | strapLatch _ => exact (execStrapLatch_kept (m0 := ⟨false, true⟩) (Kept.refl s) t e).stays
  | kilnLoad _ => exact (execKilnLoad_kept (m0 := false) (Kept.refl s) t e).stays
  | greenwareStart _ _ _ _ => cases hc
  | outHoldRelease _ => exact (execOutHoldRelease_kept (m0 := false) (Kept.refl s) t e).stays
  | supplyBankChange _ _ _ => exact (execSupplyBankChange_kept (m0 := false) (Kept.refl s) t e).stays
  | resetInAssert => exact (execResetInAssert_kept (m0 := false) (Kept.refl s) t e).stays
  | resetInRelease => exact (execResetInRelease_kept (m0 := false) (Kept.refl s) t e).stays
  | coreRestart _ _ => exact (execCoreRestart_kept (m0 := false) (Kept.refl s) t e).stays
  | bootCheckComplete _ _ => exact (execBootCheckComplete_kept (m0 := false) (a2 := ()) (Kept.refl s) t e).stays
  | calAttemptComplete _ => exact (execCalAttemptComplete_kept (m0 := ⟨false, true⟩) (Kept.refl s) t e).stays
  | calRetryTimer => exact (execCalRetryTimer_kept (m0 := ⟨false, true⟩) (Kept.refl s) t e).stays
  | calRetryCmd _ => exact (execCalRetryCmd_kept (m0 := ⟨false, true⟩) (Kept.refl s) t e).stays
  | acFailAssert _ => cases hc
  | acFailClear _ => exact (execAcFailClear_kept (m0 := ⟨false, true⟩) (Kept.refl s) t e).stays
  | pickupQualified => cases hc
  | prearmClearQualified => cases hc
  | returnQualified => cases hc
  | returnLoadLost => cases hc
  | handbackRampComplete => cases hc
  | noStringClosedExpiry => cases hc
  | exhaustedRecovered => cases hc
  | efficiencyResumeTimer => exact (execEfficiencyResumeTimer_kept (m0 := ⟨false, true⟩) (Kept.refl s) t e).stays
  | tbSrcWrite _ _ => exact (execTbSrcWrite_kept (m0 := false) (Kept.refl s) t e).stays
  | discSourcePresent => exact (execDiscSourcePresent_kept (m0 := ⟨false, true⟩) (Kept.refl s) t e).stays
  | discSourceLost => exact (execDiscSourceLost_kept (m0 := ⟨false, true⟩) (Kept.refl s) t e).stays
  | discLockWindow _ => exact (execDiscLockWindow_kept (m0 := ⟨false, true⟩) (Kept.refl s) t e).stays
  | holdoverStale => exact (execHoldoverStale_kept (m0 := ⟨false, true⟩) (Kept.refl s) t e).stays
  | discRateStep _ _ => exact (execDiscRateStep_kept (m0 := ⟨false, true⟩) (Kept.refl s) t e).stays
  | xchkWindowEnd _ => exact (execXchkWindowEnd_kept (m0 := false) (Kept.refl s) t e).stays
  | vcoreWindowEnd => exact (execVcoreWindowEnd_kept (m0 := ⟨false, true⟩) (Kept.refl s) t e).stays
  | tickLatchRead _ => exact (execTickLatchRead_kept (m0 := false) (Kept.refl s) t e).stays
  | multiwordLatchRead _ _ => exact (execMultiwordLatchRead_kept (m0 := false) (Kept.refl s) t e).stays
  | registerWrite _ _ _ => exact (execRegisterWrite_kept (m0 := false) (Kept.refl s) t e).stays
  | aliasWrite _ _ _ => exact (execAliasWrite_kept (m0 := false) (Kept.refl s) t e).stays
  | cckScanStart => exact (execCckScanStart_kept (m0 := ⟨false, true⟩) (Kept.refl s) t e).stays
  | cckScanComplete _ => exact (execCckScanComplete_kept (m0 := ⟨false, true⟩) (Kept.refl s) t e).stays
  | cckCommit _ => exact (execCckCommit_kept (m0 := ⟨false, true⟩) (Kept.refl s) t e).stays
  | crosscheckFaultDeclared _ => exact (execCrosscheckFaultDeclared_kept (m0 := false) (Kept.refl s) t e).stays
  | crosscheckJudge _ _ _ _ => exact (execCrosscheckJudge_kept (m0 := ⟨false, true⟩) (Kept.refl s) t e).stays
  | monRequestDue _ _ => exact (execMonRequestDue_kept (m0 := ⟨false, true⟩) (Kept.refl s) t e).stays
  | monSelWrite _ _ => exact (execMonSelWrite_kept (m0 := ⟨false, true⟩) (Kept.refl s) t e).stays
  | calPassStart => exact (execCalPassStart_kept (m0 := ⟨false, true⟩) (Kept.refl s) t e).stays
  | calVisitComplete _ => exact (execCalVisitComplete_kept (m0 := ⟨false, true⟩) (Kept.refl s) t e).stays
  | calVisitAbort _ => exact (execCalVisitAbort_kept (m0 := false) (Kept.refl s) t e).stays
  | calPassEnd _ => exact (execCalPassEnd_kept (m0 := ⟨false, true⟩) (Kept.refl s) t e).stays
  | spareChangeover _ _ => exact (execSpareChangeover_kept (m0 := ⟨false, true⟩) (Kept.refl s) t e).stays
  | diodeConversion _ _ => exact (execDiodeConversion_kept (m0 := ⟨false, true⟩) (Kept.refl s) t e).stays
  | loopSampleRequest _ _ _ => exact (execLoopSampleRequest_kept (m0 := ⟨false, true⟩) (Kept.refl s) t e).stays
  | coefWindowWrite _ _ _ => exact (execCoefWindowWrite_kept (m0 := false) (Kept.refl s) t e).stays
  | lpeAdmit _ => exact (execLpeAdmit_kept (m0 := ⟨false, true⟩) (Kept.refl s) t e).stays
  | admissionComplete => exact (execAdmissionComplete_kept (m0 := false) (Kept.refl s) t e).stays
  | lpeDiscard _ => exact (execLpeDiscard_kept (m0 := false) (Kept.refl s) t e).stays
  | laneTest _ _ => exact (execLaneTest_kept (m0 := ⟨false, true⟩) (Kept.refl s) t e).stays
  | laneSelfTest _ _ => exact (execLaneSelfTest_kept (m0 := ⟨false, true⟩) (Kept.refl s) t e).stays
  | loopClearFault _ _ => exact (execLoopClearFault_kept (m0 := ⟨false, true⟩) (Kept.refl s) t e).stays
  | loopResetState _ _ => exact (execLoopResetState_kept (m0 := ⟨false, true⟩) (Kept.refl s) t e).stays
  | coefCrcCheck _ => exact (execCoefCrcCheck_kept (m0 := ⟨false, true⟩) (Kept.refl s) t e).stays
  | tuneStart _ => exact (execTuneStart_kept (m0 := ⟨false, true⟩) (Kept.refl s) t e).stays
  | tuneAbort _ => exact (execTuneAbort_kept (m0 := ⟨false, true⟩) (Kept.refl s) t e).stays
  | tuneApply _ => exact (execTuneApply_kept (m0 := false) (Kept.refl s) t e).stays
  | tuneRepropose _ => exact (execTuneRepropose_kept (m0 := ⟨false, true⟩) (Kept.refl s) t e).stays
  | relayTimeout => exact (execRelayTimeout_kept (m0 := ⟨false, true⟩) (Kept.refl s) t e).stays
  | lineCrossing _ _ _ => exact (execLineCrossing_kept (m0 := ⟨false, true⟩) (Kept.refl s) t e).stays
  | lineSourceLost _ => exact (execLineSourceLost_kept (m0 := ⟨false, true⟩) (Kept.refl s) t e).stays
  | flywheelEnd => exact (execFlywheelEnd_kept (m0 := ⟨false, true⟩) (Kept.refl s) t e).stays
  | lptTblCommit _ _ => exact (execLptTblCommit_kept (m0 := false) (Kept.refl s) t e).stays
  | tblSwap => exact (execTblSwap_kept (m0 := false) (Kept.refl s) t e).stays
  | tblDataAccess _ _ => exact (execTblDataAccess_kept (m0 := false) (Kept.refl s) t e).stays
  | tblCrcCheck _ => exact (execTblCrcCheck_kept (m0 := ⟨false, true⟩) (Kept.refl s) t e).stays
  | rcClear _ _ => exact (execRcClear_kept (m0 := ⟨false, true⟩) (Kept.refl s) t e).stays
  | rcFadeEnd _ => exact (execRcFadeEnd_kept (m0 := ⟨false, true⟩) (Kept.refl s) t e).stays
  | phaseCycleStart _ _ _ _ _ _ _ => exact (execPhaseCycleStart_kept (m0 := false) (Kept.refl s) t e).stays
  | peakComparatorTrip _ _ _ => exact (execPeakComparatorTrip_kept (m0 := false) (Kept.refl s) t e).stays
  | dpwmRecal _ => exact (execDpwmRecal_kept (m0 := ⟨false, true⟩) (Kept.refl s) t e).stays
  | pwmPeriodApply => exact (execPwmPeriodApply_kept (m0 := ⟨false, true⟩) (Kept.refl s) t e).stays
  | groupSoftstart _ => exact (execGroupSoftstart_kept (m0 := ⟨false, true⟩) (Kept.refl s) t e).stays
  | shortDetect _ => exact (execShortDetect_kept (m0 := false) (Kept.refl s) t e).stays
  | groupRetryExpiry _ => exact (execGroupRetryExpiry_kept (m0 := ⟨false, true⟩) (Kept.refl s) t e).stays
  | groupRetryReset _ => exact (execGroupRetryReset_kept (m0 := ⟨false, true⟩) (Kept.refl s) t e).stays
  | clearG _ _ => exact (execClearG_kept (m0 := ⟨false, true⟩) (Kept.refl s) t e).stays
  | shedWindowExpiry _ => exact (execShedWindowExpiry_kept (m0 := ⟨false, true⟩) (Kept.refl s) t e).stays
  | phaseUnshed _ => exact (execPhaseUnshed_kept (m0 := ⟨false, true⟩) (Kept.refl s) t e).stays
  | deEnter _ => exact (execDeEnter_kept (m0 := ⟨false, true⟩) (Kept.refl s) t e).stays
  | slew _ _ => exact (execSlew_kept (m0 := ⟨false, true⟩) (Kept.refl s) t e).stays
  | slewComplete => exact (execSlewComplete_kept (m0 := ⟨false, true⟩) (Kept.refl s) t e).stays
  | referenceReachesTarget => exact (execReferenceReachesTarget_kept (m0 := ⟨false, true⟩) (Kept.refl s) t e).stays
  | allfire _ _ _ => cases hc
  | fireEnd _ _ => exact (execFireEnd_kept (m0 := ⟨false, true⟩) (Kept.refl s) t e).stays
  | floorHoldEnd _ => exact (execFloorHoldEnd_kept (m0 := ⟨false, true⟩) (Kept.refl s) t e).stays
  | floorRampEnd _ => exact (execFloorRampEnd_kept (m0 := ⟨false, true⟩) (Kept.refl s) t e).stays
  | allfireLockoutEnd _ => exact (execAllfireLockoutEnd_kept (m0 := ⟨false, true⟩) (Kept.refl s) t e).stays
  | trimCycle => exact (execTrimCycle_kept (m0 := false) (Kept.refl s) t e).stays
  | rectBind _ _ => exact (execRectBind_kept (m0 := false) (Kept.refl s) t e).stays
  | rectStandbyCheck _ => exact (execRectStandbyCheck_kept (m0 := false) (Kept.refl s) t e).stays
  | rectWakeTimeout _ => exact (execRectWakeTimeout_kept (m0 := false) (Kept.refl s) t e).stays
  | rectSilent _ => exact (execRectSilent_kept (m0 := false) (Kept.refl s) t e).stays
  | rectFaultClearTimer _ => exact (execRectFaultClearTimer_kept (m0 := false) (Kept.refl s) t e).stays
  | rectUnbind _ _ => exact (execRectUnbind_kept (m0 := false) (Kept.refl s) t e).stays
  | clearCurve _ _ => exact (execClearCurve_kept (m0 := ⟨false, true⟩) (Kept.refl s) t e).stays
  | allocNow _ => exact (execAllocNow_kept (m0 := ⟨false, true⟩) (Kept.refl s) t e).stays
  | rectRetry _ _ => exact (execRectRetry_kept (m0 := false) (Kept.refl s) t e).stays
  | allocationStart => exact (execAllocationStart_kept (m0 := ⟨false, true⟩) (Kept.refl s) t e).stays
  | allocationResult => exact (execAllocationResult_kept (m0 := ⟨false, true⟩) (Kept.refl s) t e).stays
  | curveStore => exact (execCurveStore_kept (m0 := false) (Kept.refl s) t e).stays
  | capComparison _ _ _ => exact (execCapComparison_kept (m0 := ⟨false, true⟩) (Kept.refl s) t e).stays
  | caplineSlot _ => exact (execCaplineSlot_kept (m0 := ⟨false, true⟩) (Kept.refl s) t e).stays
  | caplineFrameRx => exact (execCaplineFrameRx_kept (m0 := ⟨false, true⟩) (Kept.refl s) t e).stays
  | capTest _ => exact (execCapTest_kept (m0 := ⟨false, true⟩) (Kept.refl s) t e).stays
  | probeNow _ => exact (execProbeNow_kept (m0 := ⟨false, true⟩) (Kept.refl s) t e).stays
  | batteryUpdate => exact (execBatteryUpdate_kept (m0 := false) (Kept.refl s) t e).stays
  | emptyQualified _ => cases hc
  | emptyEnd _ => exact (execEmptyEnd_kept (m0 := ⟨false, true⟩) (Kept.refl s) t e).stays
  | mean2s => exact (execMean2s_kept (m0 := ⟨false, true⟩) (Kept.refl s) t e).stays
  | minuteMean _ => exact (execMinuteMean_kept (m0 := ⟨false, true⟩) (a1 := ()) (Kept.refl s) t e).stays
  | pertResume => exact (execPertResume_kept (m0 := ⟨false, true⟩) (Kept.refl s) t e).stays
  | demodWindowEnd _ => exact (execDemodWindowEnd_kept (m0 := ⟨false, true⟩) (a1 := ()) (Kept.refl s) t e).stays
  | strIdConversion _ => exact (execStrIdConversion_kept (m0 := false) (Kept.refl s) t e).stays
  | presenceChange _ => exact (execPresenceChange_kept (m0 := false) (Kept.refl s) t e).stays
  | batOpen _ _ => exact (execBatOpen_kept (m0 := false) (Kept.refl s) t e).stays
  | batClose _ _ => exact (execBatClose_kept (m0 := ⟨false, true⟩) (Kept.refl s) t e).stays
  | batReseed _ _ => exact (execBatReseed_kept (m0 := false) (Kept.refl s) t e).stays
  | batRestore _ _ => exact (execBatRestore_kept (m0 := false) (Kept.refl s) t e).stays
  | batTblCommit _ => exact (execBatTblCommit_kept (m0 := false) (Kept.refl s) t e).stays
  | batTblDataAccess _ _ => exact (execBatTblDataAccess_kept (m0 := false) (Kept.refl s) t e).stays
  | strEnWrite _ _ => exact (execStrEnWrite_kept (m0 := false) (Kept.refl s) t e).stays
  | stringTrip _ => exact (execStringTrip_kept (m0 := false) (Kept.refl s) t e).stays
  | stringReconnect _ => exact (execStringReconnect_kept (m0 := ⟨false, true⟩) (Kept.refl s) t e).stays
  | batRecordWrite => exact (execBatRecordWrite_kept (m0 := false) (Kept.refl s) t e).stays
  | daysIncrement _ => exact (execDaysIncrement_kept (m0 := ⟨false, true⟩) (Kept.refl s) t e).stays
  | ship _ _ => exact (execShip_kept (m0 := ⟨false, true⟩) (Kept.refl s) t e).stays
  | wake => exact (execWake_kept (m0 := ⟨false, true⟩) (Kept.refl s) t e).stays
  | vbatKeepLoss => exact (execVbatKeepLoss_kept (m0 := ⟨false, true⟩) (Kept.refl s) t e).stays
  | wakeRestGiveup => exact (execWakeRestGiveup_kept (m0 := false) (Kept.refl s) t e).stays
  | efuOn _ _ => exact (execEfuOn_kept (m0 := false) (Kept.refl s) t e).stays
  | efuOff _ _ => exact (execEfuOff_kept (m0 := ⟨false, true⟩) (Kept.refl s) t e).stays
  | efuClear _ _ => exact (execEfuClear_kept (m0 := ⟨false, true⟩) (Kept.refl s) t e).stays
  | feedA _ => exact (execFeedA_kept (m0 := ⟨false, true⟩) (Kept.refl s) t e).stays
  | feedB _ => exact (execFeedB_kept (m0 := ⟨false, true⟩) (Kept.refl s) t e).stays
  | feedAuto _ => exact (execFeedAuto_kept (m0 := ⟨false, true⟩) (Kept.refl s) t e).stays
  | efuWaitExpiry _ => exact (execEfuWaitExpiry_kept (m0 := ⟨false, true⟩) (Kept.refl s) t e).stays
  | efOnRise _ => exact (execEfOnRise_kept (m0 := ⟨false, true⟩) (Kept.refl s) t e).stays
  | efIlimFall _ => exact (execEfIlimFall_kept (m0 := ⟨false, true⟩) (Kept.refl s) t e).stays
  | inrushQualified _ => exact (execInrushQualified_kept (m0 := ⟨false, true⟩) (Kept.refl s) t e).stays
  | inrushExpiry _ => exact (execInrushExpiry_kept (m0 := ⟨false, true⟩) (Kept.refl s) t e).stays
  | overcurrentExpiry _ => exact (execOvercurrentExpiry_kept (m0 := ⟨false, true⟩) (Kept.refl s) t e).stays
  | fetModelUpdate _ => exact (execFetModelUpdate_kept (m0 := ⟨false, true⟩) (a1 := ()) (Kept.refl s) t e).stays
  | efuRetryReset _ => exact (execEfuRetryReset_kept (m0 := ⟨false, true⟩) (Kept.refl s) t e).stays
  | damageDetect _ => exact (execDamageDetect_kept (m0 := false) (Kept.refl s) t e).stays
  | feedGood _ => exact (execFeedGood_kept (m0 := ⟨false, true⟩) (Kept.refl s) t e).stays
  | feedBad _ => exact (execFeedBad_kept (m0 := ⟨false, true⟩) (Kept.refl s) t e).stays
  | feedSwitchStart => exact (execFeedSwitchStart_kept (m0 := ⟨false, true⟩) (Kept.refl s) t e).stays
  | feedBbmComplete => exact (execFeedBbmComplete_kept (m0 := ⟨false, true⟩) (Kept.refl s) t e).stays
  | feedStuck => exact (execFeedStuck_kept (m0 := ⟨false, true⟩) (Kept.refl s) t e).stays
  | feedRevertTimer => exact (execFeedRevertTimer_kept (m0 := ⟨false, true⟩) (Kept.refl s) t e).stays
  | slotInsert _ _ => exact (execSlotInsert_kept (m0 := ⟨false, true⟩) (a2 := ()) (Kept.refl s) t e).stays
  | slotRemove _ _ => exact (execSlotRemove_kept (m0 := ⟨false, true⟩) (a2 := ()) (Kept.refl s) t e).stays
  | slotMemoryExpiry _ => exact (execSlotMemoryExpiry_kept (m0 := ⟨false, true⟩) (Kept.refl s) t e).stays
  | seqUp _ => exact (execSeqUp_kept (m0 := false) (Kept.refl s) t e).stays
  | seqDown _ => exact (execSeqDown_kept (m0 := false) (Kept.refl s) t e).stays
  | seqClear _ => exact (execSeqClear_kept (m0 := false) (Kept.refl s) t e).stays
  | pgDeglitchChange _ _ => exact (execPgDeglitchChange_kept (m0 := false) (Kept.refl s) t e).stays
  | railQualified _ => exact (execRailQualified_kept (m0 := false) (Kept.refl s) t e).stays
  | railEnRise _ => exact (execRailEnRise_kept (m0 := false) (Kept.refl s) t e).stays
  | railWindowExpiry _ => exact (execRailWindowExpiry_kept (m0 := ⟨false, true⟩) (Kept.refl s) t e).stays
  | rmonSample _ => exact (execRmonSample_kept (m0 := false) (Kept.refl s) t e).stays
  | railWarning _ => exact (execRailWarning_kept (m0 := ⟨false, true⟩) (Kept.refl s) t e).stays
  | faultTimerExpiry _ => exact (execFaultTimerExpiry_kept (m0 := ⟨false, true⟩) (Kept.refl s) t e).stays
  | fltAct0Requalify _ => exact (execFltAct0Requalify_kept (m0 := false) (Kept.refl s) t e).stays
  | rmnTest _ => exact (execRmnTest_kept (m0 := false) (Kept.refl s) t e).stays
  | rmnTestEnd _ => exact (execRmnTestEnd_kept (m0 := false) (Kept.refl s) t e).stays
  | testTimeout => exact (execTestTimeout_kept (m0 := false) (Kept.refl s) t e).stays
  | resetStretchEnd _ => exact (execResetStretchEnd_kept (m0 := ⟨false, true⟩) (Kept.refl s) t e).stays
  | dnStuck _ => exact (execDnStuck_kept (m0 := ⟨false, true⟩) (Kept.refl s) t e).stays
  | p7EnFall _ => exact (execP7EnFall_kept (m0 := false) (Kept.refl s) t e).stays
  | seqRetryExpiry => exact (execSeqRetryExpiry_kept (m0 := false) (Kept.refl s) t e).stays
  | seqRetryReset => exact (execSeqRetryReset_kept (m0 := ⟨false, true⟩) (Kept.refl s) t e).stays
  | cascadeInputChange _ _ => exact (execCascadeInputChange_kept (m0 := false) (Kept.refl s) t e).stays
  | cascadeTimeout => exact (execCascadeTimeout_kept (m0 := false) (Kept.refl s) t e).stays
  | thermalGroupRecompute _ => cases hc
  | twbTransactionStart _ _ => exact (execTwbTransactionStart_kept (m0 := ⟨false, true⟩) (Kept.refl s) t e).stays
  | twbTransactionEnd _ _ _ _ _ _ => exact (execTwbTransactionEnd_kept (m0 := ⟨false, true⟩) (Kept.refl s) t e).stays
  | busFree _ => exact (execBusFree_kept (m0 := ⟨false, true⟩) (Kept.refl s) t e).stays
  | clkLowTimeout _ => exact (execClkLowTimeout_kept (m0 := false) (Kept.refl s) t e).stays
  | sextTimeout _ _ _ => exact (execSextTimeout_kept (m0 := ⟨false, true⟩) (Kept.refl s) t e).stays
  | sdaHeldClear _ => exact (execSdaHeldClear_kept (m0 := ⟨false, true⟩) (Kept.refl s) t e).stays
  | busClearComplete _ _ => exact (execBusClearComplete_kept (m0 := false) (Kept.refl s) t e).stays
  | stuckRetry _ _ => exact (execStuckRetry_kept (m0 := ⟨false, true⟩) (Kept.refl s) t e).stays
  | twbClear _ _ => exact (execTwbClear_kept (m0 := ⟨false, true⟩) (Kept.refl s) t e).stays
  | twbReset _ _ => exact (execTwbReset_kept (m0 := ⟨false, true⟩) (Kept.refl s) t e).stays
  | hnFlush _ => exact (execHnFlush_kept (m0 := ⟨false, true⟩) (Kept.refl s) t e).stays
  | hostNotify _ _ _ _ => exact (execHostNotify_kept (m0 := ⟨false, true⟩) (Kept.refl s) t e).stays
  | accessionPassStart => exact (execAccessionPassStart_kept (m0 := false) (Kept.refl s) t e).stays
  | xacPass _ => exact (execXacPass_kept (m0 := false) (Kept.refl s) t e).stays
  | accessionPassDone _ => exact (execAccessionPassDone_kept (m0 := false) (a1 := ()) (Kept.refl s) t e).stays
  | entrySilentTimeout _ => exact (execEntrySilentTimeout_kept (m0 := false) (Kept.refl s) t e).stays
  | deaccessionTimeout _ => exact (execDeaccessionTimeout_kept (m0 := false) (Kept.refl s) t e).stays
  | deaccede _ _ => exact (execDeaccede_kept (m0 := false) (Kept.refl s) t e).stays
  | pollDue => exact (execPollDue_kept (m0 := false) (Kept.refl s) t e).stays
  | requestSubmit _ _ _ _ _ _ => exact (execRequestSubmit_kept (m0 := false) (Kept.refl s) t e).stays
  | requestComplete => exact (execRequestComplete_kept (m0 := false) (Kept.refl s) t e).stays
  | requestTimeout => exact (execRequestTimeout_kept (m0 := false) (Kept.refl s) t e).stays
  | hreqSubmit _ _ => exact (execHreqSubmit_kept (m0 := false) (Kept.refl s) t e).stays
  | blackBoxBlock _ _ _ => exact (execBlackBoxBlock_kept (m0 := false) (a1 := ()) (a2 := ()) (Kept.refl s) t e).stays
  | blackBoxTrigger _ _ => exact (execBlackBoxTrigger_kept (m0 := false) (Kept.refl s) t e).stays
  | bbxTriggerCmd _ => exact (execBbxTriggerCmd_kept (m0 := false) (Kept.refl s) t e).stays
  | pin _ _ => exact (execPin_kept (m0 := ⟨false, true⟩) (Kept.refl s) t e).stays
  | unpin _ _ => exact (execUnpin_kept (m0 := ⟨false, true⟩) (Kept.refl s) t e).stays
  | delete _ _ => exact (execDelete_kept (m0 := ⟨false, true⟩) (Kept.refl s) t e).stays
  | postWindowClose => exact (execPostWindowClose_kept (m0 := ⟨false, true⟩) (Kept.refl s) t e).stays
  | strataCommitComplete => exact (execStrataCommitComplete_kept (m0 := false) (Kept.refl s) t e).stays
  | eventRecord _ => exact (execEventRecord_kept (m0 := ⟨false, true⟩) (Kept.refl s) t e).stays
  | waitingRecordQueued => exact (execWaitingRecordQueued_kept (m0 := ⟨false, true⟩) (Kept.refl s) t e).stays
  | lossSummaryQueued => exact (execLossSummaryQueued_kept (m0 := ⟨false, true⟩) (Kept.refl s) t e).stays
  | eventDrain => exact (execEventDrain_kept (m0 := false) (Kept.refl s) t e).stays
  | bucketRefill => exact (execBucketRefill_kept (m0 := ⟨false, true⟩) (Kept.refl s) t e).stays
  | suppressionWindowEnd => exact (execSuppressionWindowEnd_kept (m0 := ⟨false, true⟩) (Kept.refl s) t e).stays
  | rlCfgWrite _ _ => exact (execRlCfgWrite_kept (m0 := ⟨false, true⟩) (Kept.refl s) t e).stays
  | evrHeadRead _ => exact (execEvrHeadRead_kept (m0 := ⟨false, true⟩) (Kept.refl s) t e).stays
  | clear _ => exact (execClear_kept (m0 := ⟨false, true⟩) (Kept.refl s) t e).stays
  | inject _ => exact (execInject_kept (m0 := ⟨false, true⟩) (Kept.refl s) t e).stays
  | timeSave => exact (execTimeSave_kept (m0 := false) (Kept.refl s) t e).stays
  | beaconSend => exact (execBeaconSend_kept (m0 := ⟨false, true⟩) (Kept.refl s) t e).stays
  | loopSend => exact (execLoopSend_kept (m0 := ⟨false, true⟩) (Kept.refl s) t e).stays
  | pairBeacon _ _ => exact (execPairBeacon_kept (m0 := ⟨false, true⟩) (Kept.refl s) t e).stays
  | pairAck _ _ => exact (execPairAck_kept (m0 := ⟨false, true⟩) (Kept.refl s) t e).stays
  | pairNak _ _ _ => exact (execPairNak_kept (m0 := ⟨false, true⟩) (Kept.refl s) t e).stays
  | pairObject _ _ => exact (execPairObject_kept (m0 := false) (Kept.refl s) t e).stays
  | pairLoop _ _ => exact (execPairLoop_kept (m0 := ⟨false, true⟩) (Kept.refl s) t e).stays
  | pairConfig _ _ b _ _ => exact (execPairConfig_kept (m0 := false) (a3 := b) (Kept.refl s) t e).stays
  | pairEstimator _ _ => exact (execPairEstimator_kept (m0 := ⟨false, true⟩) (Kept.refl s) t e).stays
  | pairCatalogue _ _ => exact (execPairCatalogue_kept (m0 := false) (Kept.refl s) t e).stays
  | pairCommand _ _ => exact (execPairCommand_kept (m0 := false) (Kept.refl s) t e).stays
  | pairBulk _ _ => exact (execPairBulk_kept (m0 := false) (Kept.refl s) t e).stays
  | helkarRetransmit => exact (execHelkarRetransmit_kept (m0 := ⟨false, true⟩) (Kept.refl s) t e).stays
  | helkarLinkTimeout _ => exact (execHelkarLinkTimeout_kept (m0 := ⟨false, true⟩) (Kept.refl s) t e).stays
  | pairOffsetSlew => exact (execPairOffsetSlew_kept (m0 := ⟨false, true⟩) (Kept.refl s) t e).stays
  | witnessPollSend _ => exact (execWitnessPollSend_kept (m0 := ⟨false, true⟩) (Kept.refl s) t e).stays
  | witnessPoll _ _ _ _ => exact (execWitnessPoll_kept (m0 := false) (Kept.refl s) t e).stays
  | heartbeat _ _ => exact (execHeartbeat_kept (m0 := ⟨false, true⟩) (Kept.refl s) t e).stays
  | heartbeatTimeout _ => exact (execHeartbeatTimeout_kept (m0 := ⟨false, true⟩) (Kept.refl s) t e).stays
  | registrarStart => exact (execRegistrarStart_kept (m0 := ⟨false, true⟩) (Kept.refl s) t e).stays
  | epoch _ _ => exact (execEpoch_kept (m0 := false) (Kept.refl s) t e).stays
  | epochEffective => exact (execEpochEffective_kept (m0 := false) (Kept.refl s) t e).stays
  | fence _ _ => exact (execFence_kept (m0 := false) (Kept.refl s) t e).stays
  | fenceTimeout => exact (execFenceTimeout_kept (m0 := false) (Kept.refl s) t e).stays
  | fenceSelf _ => exact (execFenceSelf_kept (m0 := false) (Kept.refl s) t e).stays
  | pairMigrate _ => exact (execPairMigrate_kept (m0 := ⟨false, true⟩) (Kept.refl s) t e).stays
  | pairRevert _ => exact (execPairRevert_kept (m0 := ⟨false, true⟩) (Kept.refl s) t e).stays
  | pairRejoin _ => exact (execPairRejoin_kept (m0 := ⟨false, true⟩) (Kept.refl s) t e).stays
  | stableExpiry => exact (execStableExpiry_kept (m0 := ⟨false, true⟩) (Kept.refl s) t e).stays
  | fencedRejoinTimer => exact (execFencedRejoinTimer_kept (m0 := ⟨false, true⟩) (Kept.refl s) t e).stays
  | registrarLostTimeout => exact (execRegistrarLostTimeout_kept (m0 := ⟨false, true⟩) (Kept.refl s) t e).stays
  | sesOpenStart _ _ => exact (execSesOpenStart_kept (m0 := ⟨false, true⟩) (Kept.refl s) t e).stays
  | sesOpenClose _ _ => exact (execSesOpenClose_kept (m0 := ⟨false, true⟩) (Kept.refl s) t e).stays
  | sesRespSubmit _ _ => exact (execSesRespSubmit_kept (m0 := ⟨false, true⟩) (Kept.refl s) t e).stays
  | lockoutEnd _ => exact (execLockoutEnd_kept (m0 := ⟨false, true⟩) (Kept.refl s) t e).stays
  | nonceExpiry => exact (execNonceExpiry_kept (m0 := ⟨false, true⟩) (Kept.refl s) t e).stays
  | sessionIdleTimeout _ => exact (execSessionIdleTimeout_kept (m0 := ⟨false, true⟩) (Kept.refl s) t e).stays
  | keyErase _ _ => exact (execKeyErase_kept (m0 := ⟨false, true⟩) (Kept.refl s) t e).stays
  | keyCommit _ _ => exact (execKeyCommit_kept (m0 := ⟨false, true⟩) (Kept.refl s) t e).stays
  | keyDataWrite _ _ => exact (execKeyDataWrite_kept (m0 := ⟨false, true⟩) (Kept.refl s) t e).stays
  | spiRead _ _ _ => exact (execSpiRead_kept (m0 := false) (Kept.refl s) t e).stays
  | spiWrite _ _ _ => exact (execSpiWrite_kept (m0 := false) (Kept.refl s) t e).stays
  | spiStatus => exact (execSpiStatus_kept (m0 := ⟨false, true⟩) (Kept.refl s) t e).stays
  | praxOpen _ => exact (execPraxOpen_kept (m0 := ⟨false, true⟩) (Kept.refl s) t e).stays
  | praxProve _ => exact (execPraxProve_kept (m0 := ⟨false, true⟩) (Kept.refl s) t e).stays
  | praxClose _ => exact (execPraxClose_kept (m0 := ⟨false, true⟩) (Kept.refl s) t e).stays
  | praxRead _ => exact (execPraxRead_kept (m0 := false) (Kept.refl s) t e).stays
  | praxWrite _ => exact (execPraxWrite_kept (m0 := false) (Kept.refl s) t e).stays
  | praxKeepalive _ => exact (execPraxKeepalive_kept (m0 := ⟨false, true⟩) (Kept.refl s) t e).stays
  | praxSubscribe _ => exact (execPraxSubscribe_kept (m0 := ⟨false, true⟩) (Kept.refl s) t e).stays
  | notifyAck _ => exact (execNotifyAck_kept (m0 := ⟨false, true⟩) (Kept.refl s) t e).stays
  | praxWitness _ => exact (execPraxWitness_kept (m0 := false) (Kept.refl s) t e).stays
  | notifySend _ _ => exact (execNotifySend_kept (m0 := ⟨false, true⟩) (Kept.refl s) t e).stays
  | dhcpLeaseEnd _ => exact (execDhcpLeaseEnd_kept (m0 := ⟨false, true⟩) (Kept.refl s) t e).stays
  | ethLinkChange _ _ _ _ _ => exact (execEthLinkChange_kept (m0 := ⟨false, true⟩) (Kept.refl s) t e).stays
  | ptpSync _ _ _ _ _ => exact (execPtpSync_kept (m0 := ⟨false, true⟩) (Kept.refl s) t e).stays
  | ptpTimeout => exact (execPtpTimeout_kept (m0 := ⟨false, true⟩) (Kept.refl s) t e).stays
  | mdioRead _ _ _ => exact (execMdioRead_kept (m0 := ⟨false, true⟩) (Kept.refl s) t e).stays
  | mdioWrite _ _ _ => exact (execMdioWrite_kept (m0 := ⟨false, true⟩) (Kept.refl s) t e).stays
  | mdioComplete _ => exact (execMdioComplete_kept (m0 := ⟨false, true⟩) (Kept.refl s) t e).stays
  | mbxSend _ _ _ => exact (execMbxSend_kept (m0 := ⟨false, true⟩) (Kept.refl s) t e).stays
  | mbxTake _ _ _ => exact (execMbxTake_kept (m0 := ⟨false, true⟩) (Kept.refl s) t e).stays
  | mbxRecall _ _ _ => exact (execMbxRecall_kept (m0 := ⟨false, true⟩) (Kept.refl s) t e).stays
  | mailboxDataWrite _ _ _ => exact (execMailboxDataWrite_kept (m0 := false) (Kept.refl s) t e).stays
  | mailboxTimeout _ _ => exact (execMailboxTimeout_kept (m0 := ⟨false, true⟩) (Kept.refl s) t e).stays
  | wdiToggle => exact (execWdiToggle_kept (m0 := ⟨false, true⟩) (Kept.refl s) t e).stays
  | wdgOpenPhaseEnd => exact (execWdgOpenPhaseEnd_kept (m0 := false) (Kept.refl s) t e).stays
  | wdgClosedPhaseEnd => exact (execWdgClosedPhaseEnd_kept (m0 := ⟨false, true⟩) (Kept.refl s) t e).stays
  | wdgPulseEnd => exact (execWdgPulseEnd_kept (m0 := ⟨false, true⟩) (Kept.refl s) t e).stays
  | wdgSuspensionEnd => exact (execWdgSuspensionEnd_kept (m0 := false) (Kept.refl s) t e).stays
  | bake _ => exact (execBake_kept (m0 := false) (Kept.refl s) t e).stays
  | bakeComplete _ => exact (execBakeComplete_kept (m0 := false) (Kept.refl s) t e).stays
  | wipe _ _ => exact (execWipe_kept (m0 := ⟨false, true⟩) (Kept.refl s) t e).stays
  | wipeComplete => exact (execWipeComplete_kept (m0 := false) (Kept.refl s) t e).stays
  | tillingVisit _ => exact (execTillingVisit_kept (m0 := false) (Kept.refl s) t e).stays
  | eccCorrectRewrite => exact (execEccCorrectRewrite_kept (m0 := false) (Kept.refl s) t e).stays
  | klnNextLenUpdate => exact (execKlnNextLenUpdate_kept (m0 := ⟨false, true⟩) (Kept.refl s) t e).stays
  | chainBlock _ _ _ => exact (execChainBlock_kept (m0 := false) (Kept.refl s) t e).stays
  | chainAck _ => exact (execChainAck_kept (m0 := ⟨false, true⟩) (Kept.refl s) t e).stays
  | chainNak _ _ => exact (execChainNak_kept (m0 := ⟨false, true⟩) (Kept.refl s) t e).stays
  | chainHello _ _ _ _ _ => exact (execChainHello_kept (m0 := ⟨false, true⟩) (Kept.refl s) t e).stays
  | chainStatus _ _ => exact (execChainStatus_kept (m0 := ⟨false, true⟩) (Kept.refl s) t e).stays
  | helloSend => exact (execHelloSend_kept (m0 := ⟨false, true⟩) (Kept.refl s) t e).stays
  | chainPortTimeout _ _ => exact (execChainPortTimeout_kept (m0 := ⟨false, true⟩) (Kept.refl s) t e).stays
  | chainRetransmit _ => exact (execChainRetransmit_kept (m0 := ⟨false, true⟩) (Kept.refl s) t e).stays
  | resetLink _ _ => exact (execResetLink_kept (m0 := ⟨false, true⟩) (Kept.refl s) t e).stays
  | stagingRxTimeout => exact (execStagingRxTimeout_kept (m0 := ⟨false, true⟩) (Kept.refl s) t e).stays
  | updActivate _ => exact (execUpdActivate_kept (m0 := false) (Kept.refl s) t e).stays
  | updDiscard _ => exact (execUpdDiscard_kept (m0 := ⟨false, true⟩) (Kept.refl s) t e).stays
  | updRevert _ => exact (execUpdRevert_kept (m0 := false) (Kept.refl s) t e).stays
  | moduleBankReport => exact (execModuleBankReport_kept (m0 := false) (Kept.refl s) t e).stays
  | moduleTimeout => exact (execModuleTimeout_kept (m0 := false) (Kept.refl s) t e).stays
  | trialTimeout => exact (execTrialTimeout_kept (m0 := false) (Kept.refl s) t e).stays
  | coreTaskBoundary _ _ => exact (execCoreTaskBoundary_kept (m0 := false) (Kept.refl s) t e).stays
  | coreBoundaryTimeout _ => exact (execCoreBoundaryTimeout_kept (m0 := false) (Kept.refl s) t e).stays
  | coreRelease _ => exact (execCoreRelease_kept (m0 := false) (Kept.refl s) t e).stays
  | sieveRead _ _ _ => exact (execSieveRead_kept (m0 := false) (Kept.refl s) t e).stays
  | sievePassEnd => exact (execSievePassEnd_kept (m0 := ⟨false, true⟩) (Kept.refl s) t e).stays
  | supplyDroop _ _ => exact (execSupplyDroop_kept (m0 := ⟨false, true⟩) (Kept.refl s) t e).stays
  | telemetryRefresh _ => exact (execTelemetryRefresh_kept (m0 := ⟨false, true⟩) (Kept.refl s) t e).stays
  | jtagExtest => exact (execJtagExtest_kept (m0 := ⟨false, true⟩) (Kept.refl s) t e).stays
  | catalogueScheduleWrite _ _ _ => exact (execCatalogueScheduleWrite_kept (m0 := false) (Kept.refl s) t e).stays
  | afeMeansUpdate _ _ _ _ _ _ _ => exact (execAfeMeansUpdate_kept (m0 := ⟨false, true⟩) (Kept.refl s) t e).stays
  | ptpAnnounce _ _ => exact (execPtpAnnounce_kept (m0 := ⟨false, true⟩) (Kept.refl s) t e).stays
  | dhcpLeaseObtained _ _ _ => exact (execDhcpLeaseObtained_kept (m0 := ⟨false, true⟩) (Kept.refl s) t e).stays
  | listenSdaLowTimeout _ => exact (execListenSdaLowTimeout_kept (m0 := ⟨false, true⟩) (Kept.refl s) t e).stays
  | supplyDroopEnd _ => exact (execSupplyDroopEnd_kept (m0 := ⟨false, true⟩) (Kept.refl s) t e).stays

/-- What an entry that may be taken does: the state, its tick, and the state this tick began in. -/
structure Entered (p : PowerState) (s t : State) : Prop where
  power : t.power = p
  since : t.powerSince = s.tick
  old : t.powerFrom = s.powerWas
  tick : t.tick = s.tick
  pending : t.pending = s.pending
  g : t.boot.g = s.boot.g

theorem State.enterPower_enters {s : State} {p : PowerState} (h : s.mayEnter p = true) : Entered p s (s.enterPower p) := by
  unfold State.enterPower
  rw [if_neg (by simp [h])]
  extract_lets old outer t1 t2 t3 t4 bo t5 t6 t7 t8
  have q : t1.power = p ∧ t1.powerSince = s.tick ∧ t1.powerFrom = s.powerWas ∧ t1.tick = s.tick ∧ t1.pending = s.pending ∧ t1.boot.g = s.boot.g :=
    ⟨rfl, rfl, rfl, rfl, rfl, rfl⟩
  clear_value t1
  have h3 : Kept ⟨false, true⟩ t1 t3 := State.iff_kept (State.chargeCount_kept (State.shareEnter_kept (State.convEnter_kept (Kept.refl t1))))
    (fun _ h => State.tuneAbort_kept h)
  clear_value t3 t2
  have h4 : Kept ⟨false, true⟩ t1 t4 := by
    unfold t4
    split
    · exact State.trigger_kept h3
    · exact h3
  clear_value t4
  have h5 : Kept ⟨false, true⟩ t1 t5 := kept_mk h4
  clear_value t5
  have h6 : Kept ⟨false, true⟩ t1 t6 := by
    unfold t6
    split
    · exact State.openAll_kept h5
    · exact State.timeSave_kept (State.closeWindows_kept h4)
    · exact h4
  clear_value t6
  have h8 : Kept ⟨false, true⟩ t1 t8.seqTail := State.seqTail_kept (State.iff_kept (State.efuEval_kept (State.seqEval_kept h6)) (fun _ h => State.fence_kept h))
  obtain ⟨q1, q2, q3, q4, q5, q6⟩ := q
  rcases h8.power with ⟨k1, k2, k3, _⟩ | ⟨k, _⟩
  · exact ⟨k1.trans q1, k2.trans q2, k3.trans q3, h8.tick.trans q4, h8.pending.trans q5, h8.g.trans q6⟩
  · cases k

end Sys2Proof.Machine
end

