-- ==== Sys2Proof/Laws/Settle.lean ====
section
/-! SUPPORT. What `State.settle` can do: it writes `SYS_SHELF`, `SAF_COND`, `SAF_COVER`, `SAF_ACTIVE`, `SAF_STAT.GUARANTEED` and
`SAF_LOSS_TICK`, the tick of the last counted change, and records; nothing else. -/

namespace Sys2Proof.Machine

variable (s : State)

/-! ### Fields of the state -/

@[simp] theorem State.shelfEvent_tick (old new : Nat) : (s.shelfEvent old new).tick = s.tick := by
  unfold State.shelfEvent
  split
  · rfl
  · split <;> rfl
@[simp] theorem State.shelfEvent_mem (old new : Nat) : (s.shelfEvent old new).mem = s.mem := by
  unfold State.shelfEvent
  split
  · rfl
  · split <;> rfl
@[simp] theorem State.shelfEvent_power (old new : Nat) : (s.shelfEvent old new).power = s.power := by
  unfold State.shelfEvent
  split
  · rfl
  · split <;> rfl
@[simp] theorem State.shelfEvent_powerSince (old new : Nat) : (s.shelfEvent old new).powerSince = s.powerSince := by
  unfold State.shelfEvent
  split
  · rfl
  · split <;> rfl
@[simp] theorem State.shelfEvent_powerFrom (old new : Nat) : (s.shelfEvent old new).powerFrom = s.powerFrom := by
  unfold State.shelfEvent
  split
  · rfl
  · split <;> rfl
@[simp] theorem State.shelfEvent_powerFromSince (old new : Nat) : (s.shelfEvent old new).powerFromSince = s.powerFromSince := by
  unfold State.shelfEvent
  split
  · rfl
  · split <;> rfl
@[simp] theorem State.shelfEvent_full (old new : Nat) : (s.shelfEvent old new).full = s.full := by
  unfold State.shelfEvent
  split
  · rfl
  · split <;> rfl
@[simp] theorem State.shelfEvent_tb (old new : Nat) : (s.shelfEvent old new).tb = s.tb := by
  unfold State.shelfEvent
  split
  · rfl
  · split <;> rfl
@[simp] theorem State.shelfEvent_balls (old new : Nat) : (s.shelfEvent old new).balls = s.balls := by
  unfold State.shelfEvent
  split
  · rfl
  · split <;> rfl
@[simp] theorem State.shelfEvent_boot (old new : Nat) : (s.shelfEvent old new).boot = s.boot := by
  unfold State.shelfEvent
  split
  · rfl
  · split <;> rfl
@[simp] theorem State.shelfEvent_cck (old new : Nat) : (s.shelfEvent old new).cck = s.cck := by
  unfold State.shelfEvent
  split
  · rfl
  · split <;> rfl
@[simp] theorem State.shelfEvent_ports (old new : Nat) : (s.shelfEvent old new).ports = s.ports := by
  unfold State.shelfEvent
  split
  · rfl
  · split <;> rfl
@[simp] theorem State.shelfEvent_evr (old new : Nat) : (s.shelfEvent old new).evr = s.evr := by
  unfold State.shelfEvent
  split
  · rfl
  · split <;> rfl
@[simp] theorem State.shelfEvent_bbx (old new : Nat) : (s.shelfEvent old new).bbx = s.bbx := by
  unfold State.shelfEvent
  split
  · rfl
  · split <;> rfl
@[simp] theorem State.shelfEvent_mbx (old new : Nat) : (s.shelfEvent old new).mbx = s.mbx := by
  unfold State.shelfEvent
  split
  · rfl
  · split <;> rfl
@[simp] theorem State.shelfEvent_wdg (old new : Nat) : (s.shelfEvent old new).wdg = s.wdg := by
  unfold State.shelfEvent
  split
  · rfl
  · split <;> rfl
@[simp] theorem State.shelfEvent_nvm (old new : Nat) : (s.shelfEvent old new).nvm = s.nvm := by
  unfold State.shelfEvent
  split
  · rfl
  · split <;> rfl
@[simp] theorem State.shelfEvent_afe (old new : Nat) : (s.shelfEvent old new).afe = s.afe := by
  unfold State.shelfEvent
  split
  · rfl
  · split <;> rfl
@[simp] theorem State.shelfEvent_lpe (old new : Nat) : (s.shelfEvent old new).lpe = s.lpe := by
  unfold State.shelfEvent
  split
  · rfl
  · split <;> rfl
@[simp] theorem State.shelfEvent_lpt (old new : Nat) : (s.shelfEvent old new).lpt = s.lpt := by
  unfold State.shelfEvent
  split
  · rfl
  · split <;> rfl
@[simp] theorem State.shelfEvent_cnv (old new : Nat) : (s.shelfEvent old new).cnv = s.cnv := by
  unfold State.shelfEvent
  split
  · rfl
  · split <;> rfl
@[simp] theorem State.shelfEvent_cap (old new : Nat) : (s.shelfEvent old new).cap = s.cap := by
  unfold State.shelfEvent
  split
  · rfl
  · split <;> rfl
@[simp] theorem State.shelfEvent_bat (old new : Nat) : (s.shelfEvent old new).bat = s.bat := by
  unfold State.shelfEvent
  split
  · rfl
  · split <;> rfl
@[simp] theorem State.shelfEvent_seq (old new : Nat) : (s.shelfEvent old new).seq = s.seq := by
  unfold State.shelfEvent
  split
  · rfl
  · split <;> rfl
@[simp] theorem State.shelfEvent_efu (old new : Nat) : (s.shelfEvent old new).efu = s.efu := by
  unfold State.shelfEvent
  split
  · rfl
  · split <;> rfl
@[simp] theorem State.shelfEvent_thm (old new : Nat) : (s.shelfEvent old new).thm = s.thm := by
  unfold State.shelfEvent
  split
  · rfl
  · split <;> rfl
@[simp] theorem State.shelfEvent_qual (old new : Nat) : (s.shelfEvent old new).qual = s.qual := by
  unfold State.shelfEvent
  split
  · rfl
  · split <;> rfl
@[simp] theorem State.shelfEvent_twb (old new : Nat) : (s.shelfEvent old new).twb = s.twb := by
  unfold State.shelfEvent
  split
  · rfl
  · split <;> rfl
@[simp] theorem State.shelfEvent_shr (old new : Nat) : (s.shelfEvent old new).shr = s.shr := by
  unfold State.shelfEvent
  split
  · rfl
  · split <;> rfl
@[simp] theorem State.shelfEvent_hlk (old new : Nat) : (s.shelfEvent old new).hlk = s.hlk := by
  unfold State.shelfEvent
  split
  · rfl
  · split <;> rfl
@[simp] theorem State.shelfEvent_upd (old new : Nat) : (s.shelfEvent old new).upd = s.upd := by
  unfold State.shelfEvent
  split
  · rfl
  · split <;> rfl
@[simp] theorem State.shelfEvent_chn (old new : Nat) : (s.shelfEvent old new).chn = s.chn := by
  unfold State.shelfEvent
  split
  · rfl
  · split <;> rfl
@[simp] theorem State.shelfEvent_saf (old new : Nat) : (s.shelfEvent old new).saf = s.saf := by
  unfold State.shelfEvent
  split
  · rfl
  · split <;> rfl
@[simp] theorem State.shelfEvent_free (old new : Nat) : (s.shelfEvent old new).free = s.free := by
  unfold State.shelfEvent
  split
  · rfl
  · split <;> rfl
@[simp] theorem State.shelfEvent_pending (old new : Nat) : (s.shelfEvent old new).pending = s.pending := by
  unfold State.shelfEvent
  split
  · rfl
  · split <;> rfl
@[simp] theorem State.shelfEvent_regs (old new : Nat) : (s.shelfEvent old new).regs = s.regs := by
  unfold State.shelfEvent
  split
  · rfl
  · split <;> rfl
@[simp] theorem State.shelfEvent_shelfTick (old new : Nat) : (s.shelfEvent old new).shelfTick = s.shelfTick := by
  unfold State.shelfEvent
  split
  · rfl
  · split <;> rfl
@[simp] theorem State.shelfEvent_shelfOld (old new : Nat) : (s.shelfEvent old new).shelfOld = s.shelfOld := by
  unfold State.shelfEvent
  split
  · rfl
  · split <;> rfl
@[simp] theorem State.settleShelf_tick : (s.settleShelf).tick = s.tick := by
  unfold State.settleShelf
  dsimp only
  split
  · rfl
  · simp
@[simp] theorem State.settleShelf_mem : (s.settleShelf).mem = s.mem := by
  unfold State.settleShelf
  dsimp only
  split
  · rfl
  · simp
@[simp] theorem State.settleShelf_power : (s.settleShelf).power = s.power := by
  unfold State.settleShelf
  dsimp only
  split
  · rfl
  · simp
@[simp] theorem State.settleShelf_powerSince : (s.settleShelf).powerSince = s.powerSince := by
  unfold State.settleShelf
  dsimp only
  split
  · rfl
  · simp
@[simp] theorem State.settleShelf_powerFrom : (s.settleShelf).powerFrom = s.powerFrom := by
  unfold State.settleShelf
  dsimp only
  split
  · rfl
  · simp
@[simp] theorem State.settleShelf_powerFromSince : (s.settleShelf).powerFromSince = s.powerFromSince := by
  unfold State.settleShelf
  dsimp only
  split
  · rfl
  · simp
@[simp] theorem State.settleShelf_full : (s.settleShelf).full = s.full := by
  unfold State.settleShelf
  dsimp only
  split
  · rfl
  · simp
@[simp] theorem State.settleShelf_tb : (s.settleShelf).tb = s.tb := by
  unfold State.settleShelf
  dsimp only
  split
  · rfl
  · simp
@[simp] theorem State.settleShelf_balls : (s.settleShelf).balls = s.balls := by
  unfold State.settleShelf
  dsimp only
  split
  · rfl
  · simp
@[simp] theorem State.settleShelf_boot : (s.settleShelf).boot = s.boot := by
  unfold State.settleShelf
  dsimp only
  split
  · rfl
  · simp
@[simp] theorem State.settleShelf_cck : (s.settleShelf).cck = s.cck := by
  unfold State.settleShelf
  dsimp only
  split
  · rfl
  · simp
@[simp] theorem State.settleShelf_ports : (s.settleShelf).ports = s.ports := by
  unfold State.settleShelf
  dsimp only
  split
  · rfl
  · simp
@[simp] theorem State.settleShelf_evr : (s.settleShelf).evr = s.evr := by
  unfold State.settleShelf
  dsimp only
  split
  · rfl
  · simp
@[simp] theorem State.settleShelf_bbx : (s.settleShelf).bbx = s.bbx := by
  unfold State.settleShelf
  dsimp only
  split
  · rfl
  · simp
@[simp] theorem State.settleShelf_mbx : (s.settleShelf).mbx = s.mbx := by
  unfold State.settleShelf
  dsimp only
  split
  · rfl
  · simp
@[simp] theorem State.settleShelf_wdg : (s.settleShelf).wdg = s.wdg := by
  unfold State.settleShelf
  dsimp only
  split
  · rfl
  · simp
@[simp] theorem State.settleShelf_nvm : (s.settleShelf).nvm = s.nvm := by
  unfold State.settleShelf
  dsimp only
  split
  · rfl
  · simp
@[simp] theorem State.settleShelf_afe : (s.settleShelf).afe = s.afe := by
  unfold State.settleShelf
  dsimp only
  split
  · rfl
  · simp
@[simp] theorem State.settleShelf_lpe : (s.settleShelf).lpe = s.lpe := by
  unfold State.settleShelf
  dsimp only
  split
  · rfl
  · simp
@[simp] theorem State.settleShelf_lpt : (s.settleShelf).lpt = s.lpt := by
  unfold State.settleShelf
  dsimp only
  split
  · rfl
  · simp
@[simp] theorem State.settleShelf_cnv : (s.settleShelf).cnv = s.cnv := by
  unfold State.settleShelf
  dsimp only
  split
  · rfl
  · simp
@[simp] theorem State.settleShelf_cap : (s.settleShelf).cap = s.cap := by
  unfold State.settleShelf
  dsimp only
  split
  · rfl
  · simp
@[simp] theorem State.settleShelf_bat : (s.settleShelf).bat = s.bat := by
  unfold State.settleShelf
  dsimp only
  split
  · rfl
  · simp
@[simp] theorem State.settleShelf_seq : (s.settleShelf).seq = s.seq := by
  unfold State.settleShelf
  dsimp only
  split
  · rfl
  · simp
@[simp] theorem State.settleShelf_efu : (s.settleShelf).efu = s.efu := by
  unfold State.settleShelf
  dsimp only
  split
  · rfl
  · simp
@[simp] theorem State.settleShelf_thm : (s.settleShelf).thm = s.thm := by
  unfold State.settleShelf
  dsimp only
  split
  · rfl
  · simp
@[simp] theorem State.settleShelf_qual : (s.settleShelf).qual = s.qual := by
  unfold State.settleShelf
  dsimp only
  split
  · rfl
  · simp
@[simp] theorem State.settleShelf_twb : (s.settleShelf).twb = s.twb := by
  unfold State.settleShelf
  dsimp only
  split
  · rfl
  · simp
@[simp] theorem State.settleShelf_shr : (s.settleShelf).shr = s.shr := by
  unfold State.settleShelf
  dsimp only
  split
  · rfl
  · simp
@[simp] theorem State.settleShelf_hlk : (s.settleShelf).hlk = s.hlk := by
  unfold State.settleShelf
  dsimp only
  split
  · rfl
  · simp
@[simp] theorem State.settleShelf_upd : (s.settleShelf).upd = s.upd := by
  unfold State.settleShelf
  dsimp only
  split
  · rfl
  · simp
@[simp] theorem State.settleShelf_chn : (s.settleShelf).chn = s.chn := by
  unfold State.settleShelf
  dsimp only
  split
  · rfl
  · simp
@[simp] theorem State.settleShelf_saf : (s.settleShelf).saf = s.saf := by
  unfold State.settleShelf
  dsimp only
  split
  · rfl
  · simp
@[simp] theorem State.settleShelf_free : (s.settleShelf).free = s.free := by
  unfold State.settleShelf
  dsimp only
  split
  · rfl
  · simp
@[simp] theorem State.settleShelf_pending : (s.settleShelf).pending = s.pending := by
  unfold State.settleShelf
  dsimp only
  split
  · rfl
  · simp
@[simp] theorem State.settleSaf_tick : (s.settleSaf).tick = s.tick := by
  unfold State.settleSaf
  dsimp only [State.iff]
  split
  · rfl
  · split <;> rfl
@[simp] theorem State.settleSaf_mem : (s.settleSaf).mem = s.mem := by
  unfold State.settleSaf
  dsimp only [State.iff]
  split
  · rfl
  · split <;> rfl
@[simp] theorem State.settleSaf_power : (s.settleSaf).power = s.power := by
  unfold State.settleSaf
  dsimp only [State.iff]
  split
  · rfl
  · split <;> rfl
@[simp] theorem State.settleSaf_powerSince : (s.settleSaf).powerSince = s.powerSince := by
  unfold State.settleSaf
  dsimp only [State.iff]
  split
  · rfl
  · split <;> rfl
@[simp] theorem State.settleSaf_powerFrom : (s.settleSaf).powerFrom = s.powerFrom := by
  unfold State.settleSaf
  dsimp only [State.iff]
  split
  · rfl
  · split <;> rfl
@[simp] theorem State.settleSaf_powerFromSince : (s.settleSaf).powerFromSince = s.powerFromSince := by
  unfold State.settleSaf
  dsimp only [State.iff]
  split
  · rfl
  · split <;> rfl
@[simp] theorem State.settleSaf_full : (s.settleSaf).full = s.full := by
  unfold State.settleSaf
  dsimp only [State.iff]
  split
  · rfl
  · split <;> rfl
@[simp] theorem State.settleSaf_tb : (s.settleSaf).tb = s.tb := by
  unfold State.settleSaf
  dsimp only [State.iff]
  split
  · rfl
  · split <;> rfl
@[simp] theorem State.settleSaf_balls : (s.settleSaf).balls = s.balls := by
  unfold State.settleSaf
  dsimp only [State.iff]
  split
  · rfl
  · split <;> rfl
@[simp] theorem State.settleSaf_boot : (s.settleSaf).boot = s.boot := by
  unfold State.settleSaf
  dsimp only [State.iff]
  split
  · rfl
  · split <;> rfl
@[simp] theorem State.settleSaf_cck : (s.settleSaf).cck = s.cck := by
  unfold State.settleSaf
  dsimp only [State.iff]
  split
  · rfl
  · split <;> rfl
@[simp] theorem State.settleSaf_ports : (s.settleSaf).ports = s.ports := by
  unfold State.settleSaf
  dsimp only [State.iff]
  split
  · rfl
  · split <;> rfl
@[simp] theorem State.settleSaf_evr : (s.settleSaf).evr = s.evr := by
  unfold State.settleSaf
  dsimp only [State.iff]
  split
  · rfl
  · split <;> rfl
@[simp] theorem State.settleSaf_bbx : (s.settleSaf).bbx = s.bbx := by
  unfold State.settleSaf
  dsimp only [State.iff]
  split
  · rfl
  · split <;> rfl
@[simp] theorem State.settleSaf_mbx : (s.settleSaf).mbx = s.mbx := by
  unfold State.settleSaf
  dsimp only [State.iff]
  split
  · rfl
  · split <;> rfl
@[simp] theorem State.settleSaf_wdg : (s.settleSaf).wdg = s.wdg := by
  unfold State.settleSaf
  dsimp only [State.iff]
  split
  · rfl
  · split <;> rfl
@[simp] theorem State.settleSaf_nvm : (s.settleSaf).nvm = s.nvm := by
  unfold State.settleSaf
  dsimp only [State.iff]
  split
  · rfl
  · split <;> rfl
@[simp] theorem State.settleSaf_afe : (s.settleSaf).afe = s.afe := by
  unfold State.settleSaf
  dsimp only [State.iff]
  split
  · rfl
  · split <;> rfl
@[simp] theorem State.settleSaf_lpe : (s.settleSaf).lpe = s.lpe := by
  unfold State.settleSaf
  dsimp only [State.iff]
  split
  · rfl
  · split <;> rfl
@[simp] theorem State.settleSaf_lpt : (s.settleSaf).lpt = s.lpt := by
  unfold State.settleSaf
  dsimp only [State.iff]
  split
  · rfl
  · split <;> rfl
@[simp] theorem State.settleSaf_cnv : (s.settleSaf).cnv = s.cnv := by
  unfold State.settleSaf
  dsimp only [State.iff]
  split
  · rfl
  · split <;> rfl
@[simp] theorem State.settleSaf_cap : (s.settleSaf).cap = s.cap := by
  unfold State.settleSaf
  dsimp only [State.iff]
  split
  · rfl
  · split <;> rfl
@[simp] theorem State.settleSaf_bat : (s.settleSaf).bat = s.bat := by
  unfold State.settleSaf
  dsimp only [State.iff]
  split
  · rfl
  · split <;> rfl
@[simp] theorem State.settleSaf_seq : (s.settleSaf).seq = s.seq := by
  unfold State.settleSaf
  dsimp only [State.iff]
  split
  · rfl
  · split <;> rfl
@[simp] theorem State.settleSaf_efu : (s.settleSaf).efu = s.efu := by
  unfold State.settleSaf
  dsimp only [State.iff]
  split
  · rfl
  · split <;> rfl
@[simp] theorem State.settleSaf_thm : (s.settleSaf).thm = s.thm := by
  unfold State.settleSaf
  dsimp only [State.iff]
  split
  · rfl
  · split <;> rfl
@[simp] theorem State.settleSaf_qual : (s.settleSaf).qual = s.qual := by
  unfold State.settleSaf
  dsimp only [State.iff]
  split
  · rfl
  · split <;> rfl
@[simp] theorem State.settleSaf_twb : (s.settleSaf).twb = s.twb := by
  unfold State.settleSaf
  dsimp only [State.iff]
  split
  · rfl
  · split <;> rfl
@[simp] theorem State.settleSaf_shr : (s.settleSaf).shr = s.shr := by
  unfold State.settleSaf
  dsimp only [State.iff]
  split
  · rfl
  · split <;> rfl
@[simp] theorem State.settleSaf_hlk : (s.settleSaf).hlk = s.hlk := by
  unfold State.settleSaf
  dsimp only [State.iff]
  split
  · rfl
  · split <;> rfl
@[simp] theorem State.settleSaf_upd : (s.settleSaf).upd = s.upd := by
  unfold State.settleSaf
  dsimp only [State.iff]
  split
  · rfl
  · split <;> rfl
@[simp] theorem State.settleSaf_chn : (s.settleSaf).chn = s.chn := by
  unfold State.settleSaf
  dsimp only [State.iff]
  split
  · rfl
  · split <;> rfl
@[simp] theorem State.settleSaf_saf : (s.settleSaf).saf = s.saf := by
  unfold State.settleSaf
  dsimp only [State.iff]
  split
  · rfl
  · split <;> rfl
@[simp] theorem State.settleSaf_free : (s.settleSaf).free = s.free := by
  unfold State.settleSaf
  dsimp only [State.iff]
  split
  · rfl
  · split <;> rfl
@[simp] theorem State.settleSaf_pending : (s.settleSaf).pending = s.pending := by
  unfold State.settleSaf
  dsimp only [State.iff]
  split
  · rfl
  · split <;> rfl
@[simp] theorem State.settle_tick : s.settle.tick = s.tick := by simp [State.settle]
@[simp] theorem State.settle_mem : s.settle.mem = s.mem := by simp [State.settle]
@[simp] theorem State.settle_power : s.settle.power = s.power := by simp [State.settle]
@[simp] theorem State.settle_powerSince : s.settle.powerSince = s.powerSince := by simp [State.settle]
@[simp] theorem State.settle_powerFrom : s.settle.powerFrom = s.powerFrom := by simp [State.settle]
@[simp] theorem State.settle_powerFromSince : s.settle.powerFromSince = s.powerFromSince := by simp [State.settle]
@[simp] theorem State.settle_full : s.settle.full = s.full := by simp [State.settle]
@[simp] theorem State.settle_tb : s.settle.tb = s.tb := by simp [State.settle]
@[simp] theorem State.settle_balls : s.settle.balls = s.balls := by simp [State.settle]
@[simp] theorem State.settle_boot : s.settle.boot = s.boot := by simp [State.settle]
@[simp] theorem State.settle_cck : s.settle.cck = s.cck := by simp [State.settle]
@[simp] theorem State.settle_ports : s.settle.ports = s.ports := by simp [State.settle]
@[simp] theorem State.settle_evr : s.settle.evr = s.evr := by simp [State.settle]
@[simp] theorem State.settle_bbx : s.settle.bbx = s.bbx := by simp [State.settle]
@[simp] theorem State.settle_mbx : s.settle.mbx = s.mbx := by simp [State.settle]
@[simp] theorem State.settle_wdg : s.settle.wdg = s.wdg := by simp [State.settle]
@[simp] theorem State.settle_nvm : s.settle.nvm = s.nvm := by simp [State.settle]
@[simp] theorem State.settle_afe : s.settle.afe = s.afe := by simp [State.settle]
@[simp] theorem State.settle_lpe : s.settle.lpe = s.lpe := by simp [State.settle]
@[simp] theorem State.settle_lpt : s.settle.lpt = s.lpt := by simp [State.settle]
@[simp] theorem State.settle_cnv : s.settle.cnv = s.cnv := by simp [State.settle]
@[simp] theorem State.settle_cap : s.settle.cap = s.cap := by simp [State.settle]
@[simp] theorem State.settle_bat : s.settle.bat = s.bat := by simp [State.settle]
@[simp] theorem State.settle_seq : s.settle.seq = s.seq := by simp [State.settle]
@[simp] theorem State.settle_efu : s.settle.efu = s.efu := by simp [State.settle]
@[simp] theorem State.settle_thm : s.settle.thm = s.thm := by simp [State.settle]
@[simp] theorem State.settle_qual : s.settle.qual = s.qual := by simp [State.settle]
@[simp] theorem State.settle_twb : s.settle.twb = s.twb := by simp [State.settle]
@[simp] theorem State.settle_shr : s.settle.shr = s.shr := by simp [State.settle]
@[simp] theorem State.settle_hlk : s.settle.hlk = s.hlk := by simp [State.settle]
@[simp] theorem State.settle_upd : s.settle.upd = s.upd := by simp [State.settle]
@[simp] theorem State.settle_chn : s.settle.chn = s.chn := by simp [State.settle]
@[simp] theorem State.settle_saf : s.settle.saf = s.saf := by simp [State.settle]
@[simp] theorem State.settle_free : s.settle.free = s.free := by simp [State.settle]
@[simp] theorem State.settle_pending : s.settle.pending = s.pending := by simp [State.settle]

/-! ### Registers -/


theorem State.settleShelf_reg {a : Nat} (h : a ≠ SYS_SHELF_POWER.addr) : s.settleShelf.reg a = s.reg a := by
  unfold State.settleShelf
  dsimp only
  split
  · rfl
  · simp only [State.reg, State.shelfEvent_regs]
    exact State.reg_setReg_ne s h _

theorem State.settleSaf_reg {a : Nat} (h1 : a ≠ SAF_COND_COND.addr) (h2 : a ≠ SAF_COVER_COVER.addr) (h3 : a ≠ SAF_ACTIVE_ACTIVE.addr)
    (h4 : a ≠ SAF_STAT_GUARANTEED.addr) (h5 : a ≠ SAF_LOSS_TICK_TICK.addr) : s.settleSaf.reg a = s.reg a := by
  unfold State.settleSaf
  dsimp only [State.iff]
  split
  · rw [State.reg_set_ne _ _ _ _ h3, State.reg_set_ne _ _ _ _ h2, State.reg_set_ne _ _ _ _ h1]
  · split
    · rw [State.stamp, State.reg_set_ne _ _ _ _ h5]
      show (State.set _ SAF_STAT_GUARANTEED _ _).reg a = _
      rw [State.reg_set_ne _ _ _ _ h4, State.reg_set_ne _ _ _ _ h3, State.reg_set_ne _ _ _ _ h2, State.reg_set_ne _ _ _ _ h1]
    · show (State.set _ SAF_STAT_GUARANTEED _ _).reg a = _
      rw [State.reg_set_ne _ _ _ _ h4, State.reg_set_ne _ _ _ _ h3, State.reg_set_ne _ _ _ _ h2, State.reg_set_ne _ _ _ _ h1]

/-- Every register but those keeps its value. -/
theorem State.settle_reg {a : Nat} (h : settled a = false) : s.settle.reg a = s.reg a := by
  simp only [settled, Bool.or_eq_false_iff, beq_eq_false_iff_ne, ne_eq] at h
  obtain ⟨⟨⟨⟨⟨h0, h1⟩, h2⟩, h3⟩, h4⟩, h5⟩ := h
  rw [State.settle, State.settleSaf_reg _ h1 h2 h3 h4 h5, State.settleShelf_reg _ h0]

/-- Every field of another register keeps its value. -/
theorem State.settle_get (f : Field) (i : Nat) (h : settled (f.at i) = false) : s.settle.get f i = s.get f i := by
  rw [State.get, State.settle_reg s h, ← State.get]

theorem State.settle_on (f : Field) (i : Nat) (h : settled (f.at i) = false) : s.settle.on f i = s.on f i := by
  rw [State.on, State.settle_get s f i h, ← State.on]

/-! ### Records -/

/-- A record made before stays, but for a state change of the shelf, whose new value may be replaced (R19). -/
theorem State.settle_made {m : Made} (hm : m ∈ s.made) (he : m.ev ≠ .shelfState) : m ∈ s.settle.made := by
  have h1 : m ∈ s.settleShelf.made := by
    unfold State.settleShelf
    dsimp only
    split
    · exact hm
    · unfold State.shelfEvent
      split
      · refine List.mem_map.2 ⟨m, hm, if_neg ?_⟩
        simp [State.shelfMade, he]
      · split
        · exact hm
        · exact List.mem_append_left _ hm
  rw [State.settle]
  generalize s.settleShelf = t at h1
  unfold State.settleSaf
  dsimp only [State.iff]
  split
  · exact h1
  · split <;> exact List.mem_append_left _ h1

end Sys2Proof.Machine
end

