-- ==== Sys2Proof/WellFormed.lean ====
section
/-! DEFINITION. Well-formed commands: the operands whose type allows more than the spec's form of them does (R4, R142, R415, R437, R463,
R493, R551). An index out of range cannot be written, since the operands are bounded by type. -/

namespace Sys2Proof

/-- A value that fits a signed 32-bit field beside its invalid marker (R4, R5). -/
def r4Word (x : Int) : Bool := decide (-(2 ^ 31) ≤ x) && decide (x < 2 ^ 31)

/-- A value that fits a signed 64-bit field (R4). -/
def r4Int (x : Int) : Bool := decide (-(2 ^ 63) ≤ x) && decide (x < 2 ^ 63)


/-- A code of a fast converter: unsigned for a voltage, signed for a current, 16 bits (R116). -/
def voltCode (x : Int) : Bool := decide (0 ≤ x) && decide (x < 65536)
def ampCode (x : Int) : Bool := decide (-32768 ≤ x) && decide (x < 32768)

/-- A code of a phase converter: signed, 12 bits (R116). -/
def phaseCode (x : Int) : Bool := decide (-2048 ≤ x) && decide (x < 2048)

/-- A reading of a shunt: signed, 24 bits (R116). -/
def shuntCode (x : Int) : Bool := decide (-8388608 ≤ x) && decide (x < 8388608)

/-- Conversions of the fast converters in their ranges (R116). -/
def BusSamples.ok (b : BusSamples) : Bool :=
  voltCode b.va && voltCode b.vb && voltCode b.vaChk && voltCode b.vbChk && ampCode b.ia0 && ampCode b.ia1 && ampCode b.ib0 && ampCode b.ib1

/-- A condition does not end before it begins. -/
def Swing.ok (x : Swing) : Bool := decide (x.first ≤ x.last)

/-- A datagram carries no more than 1,028 body bytes (R493). -/
def Datagram.ok (d : Datagram) : Bool := decide (d.body.length ≤ 1028)


/-- A well-formed command. -/
def Instr.wf : Instr → Bool
  | .crosscheckJudge _ convs p c => decide (convs.length = 8) && voltCode p.1 && voltCode p.2 && voltCode c.1 && voltCode c.2
  | .monRequestDue a b => decide (a.length ≤ 32) && decide (b.length ≤ 32)

  | .loopSampleRequest _ _ run => run.meas.all (fun m => decide (m.1 < 256) && (match m.2 with | some v => r4Word v | none => true))
  | .allfire _ seen _ => seen.1.all Swing.ok && seen.2.all Swing.ok
  | .capComparison bus a b => bus.1.ok && bus.2.ok && decide (a.length ≤ 10) && decide (b.length ≤ 10) && (a ++ b).all (fun x =>
      voltCode x.1.1 && voltCode x.1.2 && ampCode x.2.1 && ampCode x.2.2)
  | .twbTransactionEnd _ _ _ data _ _ => decide (data.length ≤ 257)
  | .requestSubmit _ _ _ _ _ data => decide (data.length ≤ 255)

  | .eventRecord w => match w with | .made _ => true | .policy _ payload _ => decide (payload.length ≤ 12)
  | .pairLoop _ l => decide (l.length ≤ 14)
  | .praxOpen d => d.ok
  | .praxProve d => d.ok
  | .praxClose d => d.ok
  | .praxRead d => d.ok
  | .praxWrite d => d.ok
  | .praxKeepalive d => d.ok
  | .praxSubscribe d => d.ok
  | .notifyAck d => d.ok
  | .praxWitness d => d.ok
  | .ptpSync _ _ _ _ ns => decide (ns < 1000000000)
  | .chainBlock _ payload _ => decide (payload.length ≤ 4096) && decide (payload.length % 4 = 0)
  | .chainStatus _ payload => decide (payload.length ≤ 4096) && decide (payload.length % 4 = 0)
  | .afeMeansUpdate x y ph ch cu _ _ => x.ok && y.ok && ph.toList.all (fun p => phaseCode p.1 && phaseCode p.2) && ch.toList.all r4Int &&
    cu.toList.all shuntCode
  | .vinGood | .powerOnResetAssert _ | .powerOnResetRelease _ | .strapLatch _ | .kilnLoad _ | .greenwareStart _ _ _ _
  | .outHoldRelease _ | .supplyBankChange _ _ _ | .resetInAssert | .resetInRelease | .coreRestart _ _ | .bootCheckComplete _ _
  | .calAttemptComplete _ | .calRetryTimer | .calRetryCmd _ | .acFailAssert _ | .acFailClear _ | .pickupQualified
  | .prearmClearQualified | .returnQualified | .returnLoadLost | .handbackRampComplete | .noStringClosedExpiry
  | .exhaustedRecovered | .efficiencyResumeTimer | .tbSrcWrite _ _ | .discSourcePresent | .discSourceLost | .discLockWindow _
  | .holdoverStale | .discRateStep _ _ | .xchkWindowEnd _ | .vcoreWindowEnd | .tickLatchRead _ | .multiwordLatchRead _ _
  | .registerWrite _ _ _ | .aliasWrite _ _ _ | .cckScanStart | .cckScanComplete _ | .cckCommit _ | .crosscheckFaultDeclared _
  | .diodeConversion _ _ | .monSelWrite _ _ | .calPassStart | .calVisitComplete _ | .calVisitAbort _ | .calPassEnd _ | .spareChangeover _ _
  | .coefWindowWrite _ _ _ | .lpeAdmit _ | .admissionComplete | .lpeDiscard _ | .laneTest _ _ | .laneSelfTest _ _
  | .loopClearFault _ _ | .loopResetState _ _ | .coefCrcCheck _ | .tuneStart _ | .tuneAbort _ | .tuneApply _ | .tuneRepropose _
  | .relayTimeout | .lineCrossing _ _ _ | .lineSourceLost _ | .flywheelEnd | .lptTblCommit _ _ | .tblSwap | .tblDataAccess _ _
  | .tblCrcCheck _ | .rcClear _ _ | .rcFadeEnd _ | .phaseCycleStart _ _ _ _ _ _ _ | .peakComparatorTrip _ _ _ | .dpwmRecal _
  | .pwmPeriodApply | .groupSoftstart _ | .shortDetect _ | .groupRetryExpiry _ | .groupRetryReset _ | .clearG _ _
  | .shedWindowExpiry _ | .phaseUnshed _ | .deEnter _ | .slew _ _ | .slewComplete | .referenceReachesTarget
  | .fireEnd _ _ | .floorHoldEnd _ | .floorRampEnd _ | .allfireLockoutEnd _ | .trimCycle | .rectBind _ _ | .rectStandbyCheck _
  | .rectWakeTimeout _ | .rectSilent _ | .rectFaultClearTimer _ | .rectUnbind _ _ | .clearCurve _ _ | .allocNow _ | .rectRetry _ _
  | .allocationStart | .allocationResult | .curveStore | .caplineSlot _ | .caplineFrameRx | .capTest _ | .probeNow _
  | .batteryUpdate | .emptyQualified _ | .emptyEnd _ | .mean2s | .minuteMean _ | .pertResume | .demodWindowEnd _
  | .strIdConversion _ | .presenceChange _ | .batOpen _ _ | .batClose _ _ | .batReseed _ _ | .batRestore _ _ | .batTblCommit _
  | .batTblDataAccess _ _ | .strEnWrite _ _ | .stringTrip _ | .stringReconnect _ | .batRecordWrite | .daysIncrement _ | .ship _ _
  | .wake | .vbatKeepLoss | .wakeRestGiveup | .efuOn _ _ | .efuOff _ _ | .efuClear _ _ | .feedA _ | .feedB _ | .feedAuto _
  | .efuWaitExpiry _ | .efOnRise _ | .efIlimFall _ | .inrushQualified _ | .inrushExpiry _ | .overcurrentExpiry _
  | .fetModelUpdate _ | .efuRetryReset _ | .damageDetect _ | .feedGood _ | .feedBad _ | .feedSwitchStart | .feedBbmComplete
  | .feedStuck | .feedRevertTimer | .slotInsert _ _ | .slotRemove _ _ | .slotMemoryExpiry _ | .seqUp _ | .seqDown _ | .seqClear _
  | .pgDeglitchChange _ _ | .railQualified _ | .railEnRise _ | .railWindowExpiry _ | .rmonSample _ | .railWarning _
  | .faultTimerExpiry _ | .fltAct0Requalify _ | .rmnTest _ | .rmnTestEnd _ | .testTimeout | .resetStretchEnd _ | .dnStuck _
  | .p7EnFall _ | .seqRetryExpiry | .seqRetryReset | .cascadeInputChange _ _ | .cascadeTimeout | .thermalGroupRecompute _
  | .twbTransactionStart _ _ | .busFree _ | .clkLowTimeout _ | .sextTimeout _ _ _ | .sdaHeldClear _ | .busClearComplete _ _
  | .stuckRetry _ _ | .twbClear _ _ | .twbReset _ _ | .hnFlush _ | .hostNotify _ _ _ _ | .accessionPassStart | .xacPass _
  | .accessionPassDone _ | .entrySilentTimeout _ | .deaccessionTimeout _ | .deaccede _ _ | .pollDue | .requestComplete
  | .requestTimeout | .hreqSubmit _ _ | .blackBoxBlock _ _ _ | .blackBoxTrigger _ _ | .bbxTriggerCmd _ | .pin _ _ | .unpin _ _ | .delete _ _
  | .postWindowClose | .strataCommitComplete | .waitingRecordQueued | .lossSummaryQueued | .eventDrain | .bucketRefill
  | .suppressionWindowEnd | .rlCfgWrite _ _ | .evrHeadRead _ | .clear _ | .inject _ | .timeSave | .beaconSend | .loopSend
  | .pairBeacon _ _ | .pairAck _ _ | .pairNak _ _ _ | .pairObject _ _ | .pairConfig _ _ _ _ _ | .pairEstimator _ _
  | .pairCatalogue _ _ | .pairCommand _ _ | .pairBulk _ _ | .helkarRetransmit | .helkarLinkTimeout _ | .pairOffsetSlew
  | .witnessPollSend _ | .witnessPoll _ _ _ _ | .heartbeat _ _ | .heartbeatTimeout _ | .registrarStart | .epoch _ _
  | .epochEffective | .fence _ _ | .fenceTimeout | .fenceSelf _ | .pairMigrate _ | .pairRevert _ | .pairRejoin _ | .stableExpiry
  | .fencedRejoinTimer | .registrarLostTimeout | .sesOpenStart _ _ | .sesOpenClose _ _ | .sesRespSubmit _ _ | .lockoutEnd _
  | .nonceExpiry | .sessionIdleTimeout _ | .keyErase _ _ | .keyCommit _ _ | .keyDataWrite _ _ | .spiRead _ _ _ | .spiWrite _ _ _
  | .spiStatus | .notifySend _ _ | .dhcpLeaseEnd _ | .ethLinkChange _ _ _ _ _ | .ptpTimeout | .mdioRead _ _ _ | .mdioWrite _ _ _
  | .mdioComplete _ | .mbxSend _ _ _ | .mbxTake _ _ _ | .mbxRecall _ _ _ | .mailboxDataWrite _ _ _ | .mailboxTimeout _ _
  | .wdiToggle | .wdgOpenPhaseEnd | .wdgClosedPhaseEnd | .wdgPulseEnd | .wdgSuspensionEnd | .bake _ | .bakeComplete _ | .wipe _ _
  | .wipeComplete | .tillingVisit _ | .eccCorrectRewrite | .klnNextLenUpdate | .chainAck _ | .chainNak _ _ | .chainHello _ _ _ _ _
  | .helloSend | .chainPortTimeout _ _ | .chainRetransmit _ | .resetLink _ _ | .stagingRxTimeout | .updActivate _ | .updDiscard _
  | .updRevert _ | .moduleBankReport | .moduleTimeout | .trialTimeout | .coreTaskBoundary _ _ | .coreBoundaryTimeout _
  | .coreRelease _ | .sieveRead _ _ _ | .sievePassEnd | .supplyDroop _ _ | .telemetryRefresh _ | .jtagExtest
  | .catalogueScheduleWrite _ _ _ | .ptpAnnounce _ _ | .dhcpLeaseObtained _ _ _ | .listenSdaLowTimeout _ | .supplyDroopEnd _ => true

end Sys2Proof
end

