-- ==== Sys2Proof/Tests/Slice0.lean ====
section
/-! SUPPORT. Tests of the model on fixed values: the check of well-formed commands, the spec's own worked values, and for every clause of
the statements a state and operands that meet all its hypotheses together. -/

set_option maxRecDepth 20000
set_option linter.unusedVariables false

namespace Sys2Proof.Tests

open Sys2Proof Sys2Proof.Machine

/-! ### Ill-formed commands are refused, one for each check of `Instr.wf` -/

def bus0 : BusSamples := { va := 0, vb := 0, vaChk := 0, vbChk := 0, ia0 := 0, ia1 := 0, ib0 := 0, ib1 := 0 }
def gram (n : Nat) : Datagram :=
  { eth := 0, v6 := false, peer := 0, version := 1, len := 0, sid := 0, seq := 0, body := List.replicate n 0, mac := [] }
def chain0 : ChainHead := { port := 0, retx := false, image := 0, block := 0, hop := 0, crcOk := true, aborted := false }
def frame0 : FrameHead := { seq := 0, epoch := 0, ptick := 0, crcOk := true, inOrder := true }
def loop0 : LoopRun := { meas := [], older := false, time := 0, vote := .agree, ded := none }

theorem test_wf_means :
    let f := fun (b : BusSamples) (p q c : Int) => (Instr.afeMeansUpdate b b (Vector.replicate 16 (p, 0)) (Vector.replicate 8 q)
      (Vector.replicate 8 c) false 0).wf
    f bus0 0 0 0 = true ∧ f { bus0 with va := -1 } 0 0 0 = false ∧ f { bus0 with ib1 := 32768 } 0 0 0 = false ∧ f bus0 2048 0 0 = false ∧
    f bus0 0 (2 ^ 63) 0 = false ∧ f bus0 0 0 8388608 = false := by decide
theorem test_wf_judge : (Instr.crosscheckJudge 0 (List.replicate 8 0) (0, 0) (0, 0)).wf = true ∧
    (Instr.crosscheckJudge 0 (List.replicate 7 0) (0, 0) (0, 0)).wf = false ∧
    (Instr.crosscheckJudge 0 (List.replicate 8 0) (65536, 0) (0, 0)).wf = false := by decide
theorem test_wf_monitor : (Instr.monRequestDue (List.replicate 33 0) []).wf = false ∧ (Instr.monRequestDue [] (List.replicate 33 0)).wf = false := by
  decide
theorem test_wf_sample : (Instr.loopSampleRequest 0 0 loop0).wf = true ∧
    (Instr.loopSampleRequest 0 0 { loop0 with meas := [(256, none)] }).wf = false ∧
    (Instr.loopSampleRequest 0 0 { loop0 with meas := [(0, some (2 ^ 31))] }).wf = false := by decide
theorem test_wf_swing : (Instr.allfire 0 (some ⟨0, 2, 1⟩, none) 0).wf = false ∧ (Instr.allfire 0 (none, some ⟨0, 2, 1⟩) 0).wf = false ∧
    (Instr.allfire 0 (some ⟨0, 1, 1⟩, none) 0).wf = true := by decide
theorem test_wf_cap : (Instr.capComparison (bus0, bus0) [] []).wf = true ∧ (Instr.capComparison ({ bus0 with vb := 65536 }, bus0) [] []).wf = false ∧
    (Instr.capComparison (bus0, bus0) (List.replicate 11 ((0, 0), (0, 0))) []).wf = false ∧
    (Instr.capComparison (bus0, bus0) [] (List.replicate 11 ((0, 0), (0, 0)))).wf = false ∧
    (Instr.capComparison (bus0, bus0) [] [((0, 0), (0, 40000))]).wf = false := by decide
theorem test_wf_lengths : (Instr.twbTransactionEnd 0 0 0 (List.replicate 258 0) 0 0).wf = false ∧
    (Instr.requestSubmit 0 0 0 0 0 (List.replicate 256 0)).wf = false ∧
    (Instr.eventRecord (.policy 0x8000 (List.replicate 13 0) 0)).wf = false ∧ (Instr.eventRecord (.made 0)).wf = true ∧
    (Instr.ptpSync ⟨0, false, 0, 0⟩ 0 0 0 1000000000).wf = false := by decide
theorem test_wf_blocks : (Instr.chainBlock chain0 (List.replicate 3 0) false).wf = false ∧ (Instr.chainStatus chain0 (List.replicate 3 0)).wf = false ∧
    (Instr.chainStatus chain0 (List.replicate 4100 0)).wf = false := by
  refine ⟨by decide, by decide, ?_⟩
  simp [Instr.wf]
theorem test_wf_datagram : (Instr.praxRead (gram 8)).wf = true ∧ (Instr.praxOpen (gram 1029)).wf = false := by
  refine ⟨by decide, ?_⟩
  simp [Instr.wf, Datagram.ok, gram]

/-! ### Worked values of the spec -/

/-- R269: the CRC of "123456789", and of the frame of the worked example of file 10. -/
theorem test_crc16 : crc16 [0x31, 0x32, 0x33, 0x34, 0x35, 0x36, 0x37, 0x38, 0x39] = 0x29B1 ∧
    ({ seq := 985, level := 22, mask := 0xFFFF } : CapFrame).bytes 3 = [0x59, 0x3D, 0x93, 0x16, 0xFF, 0xFF, 0x8D, 0x17] := by decide
/-- R381: the CRC-8 of "123456789". -/
theorem test_crc8 : crc8 [0x31, 0x32, 0x33, 0x34, 0x35, 0x36, 0x37, 0x38, 0x39] = 0xF4 := by decide
/-- R12: rail 17, partner entry 130, feed B. -/
theorem test_objects : objRef 6 17 = 0x6011 ∧ objRef 8 130 = 0x8082 ∧ objRef 2 1 = 0x2001 := by decide
/-- File 07: Ku of the worked example, and Kp of its proposal under RULE 2, 4.49967 in S4.27. -/
theorem test_tune : kuOf 12000 1528 = 655312 ∧ (proposal 2 655312 20000 100 0).head? = some 603935539 := by decide
/-- File 17: the five coded samples of the worked example, 41 bits in 6 bytes after the two seeds. -/
theorem test_coder : codeSegment false 2 0 65535 [45000, 45010, 45024, 45031, 45033] = [0xAF, 0xC8, 0xAF, 0xD2, 0x4C, 0x00] := by decide
/-- R590 to R592: balls of the four tables. -/
theorem test_balls : ballAt 20 16 = .seqEn 17 := by decide
/-- R4: a word is stored with bits 7 to 0 at the lowest address. -/
theorem test_word : ((State.reset.store 0x1300000 0x11223344).byte 0x1300000, (State.reset.store 0x1300000 0x11223344).byte 0x1300003) =
    (0x44, 0x11) := by decide
/-- The table gives the commands no bits. -/
theorem test_no_bits : decodeTableWord 16 0 = none ∧ (State.reset.withFetchWord 16 0).pending = [] := by decide

theorem test_reset_sound : State.reset.sound = true := by decide

/-! ### States the witnesses stand on -/

/-- A unit in full service, long after tick g, with every supply good. -/
def bt : Boot :=
  { vinGood := true, strapped := true, kilnLoaded := true, g := some 1000, firmware := true, coresStarted := true, decided := true
    vbatKeep := true }
def live : State := ({ State.reset with tick := 600000000000, full := true, boot := bt }).set SYS_SUPPLY_STAT_GOOD 63
def newS : State := { live with boot := {} }
def greenS : State := { live with full := false }
def oddS : State := { live with tick := 600000000001 }
def porS : State := { State.reset with boot := { por := true } }
def porVinS : State := { State.reset with boot := { por := true, vinGood := true } }
/-- In each of the other power states. -/
def haltS : State := { live with power := .halt }
def holdS : State := { live with power := .holdup }
def retS : State := { live with power := .ret }
def preS : State := { live with power := .prearmed }
def exhS : State := { live with power := .exhausted }
def shipS : State := { live with power := .ship }
/-- Strapped A and B with the pair on, and as Registrar; with the link up. -/
def pairU : State := (live.set SYS_STRAP_LATCHED 1).setB HLK_CTRL_EN true
def pairV : State := (live.set SYS_STRAP_LATCHED 2).setB HLK_CTRL_EN true
def regS : State := live.set SYS_STRAP_LATCHED 3
def linkS : State := pairU.setB HLK_STAT_LINK_UP true
/-- A request of a higher-ranked source stands at `k` in this tick. -/
def ovr (k : Nat) : State :=
  { live with ports := { live.ports with
      wroteAt := live.tick, writes := [{ at_ := k, who := 9, rank := 0, before := 0, al := 0, w := 0 }] } }
/-- A boot check in progress, of a committed slot and of a trial. -/
def plainS : State := { live with boot := { bt with check := some (0, 0, false) } }
def selBytes : List Byte := [0x42, 0x53, 0x45, 0x4C, 0, 0, 0, 0, 0, 1] ++ List.replicate 50 0
def trialS : State :=
  { (live.setBytes (nvmBase + selectorAt 0) (selBytes ++ leBytes 4 (crc32c selBytes).toNat)) with
    boot := { bt with check := some (0, 0, true) } }
def slotS (here : Bool) : State :=
  (((live.setB EFU_CH_CFG_SLOT_EN true 0).setB EFU_CH_CFG_PRES_SRC false 0).setB EFU_CH_STAT_PRESENT (!here) 0).setBit
    SYS_SUPPLY_STAT_GOOD 2 true
def fireS : State := { ((live.setB CNV_CTRL_ALLFIRE_EN true).set CNV_GRP_STAT_STATE 2 0) with cnv := { seg := some {} } }
def startS : State := ((live.setB CNV_CTRL_EN true).setB PWM_PH_CFG_EN true 0).setI AFE_VA_VAL 0
def shedS : State :=
  { ((live.setB CNV_CTRL_SHED_EN true).set CNV_GRP_STAT_STATE 2 0) with cnv := { groups := Vector.replicate 2 { shedSince := some 0 } } }
def reachS : State :=
  { ((live.setI CNV_TGT_SETPOINT 500).set CNV_STBY_OFFSET 0) with cnv := { seg := some { t := 0, r := 500 * 65536, target := some 500 } } }
def shevS : State :=
  { live.set CNV_SHEV_CFG_FUNC 1 0 with balls := { live.balls with shevFor := Vector.replicate 4 (true, 599999999999) } }
def capS : State := { (live.setB CAP_FRAME_CFG_TX_EN true).setB CAP_ZONE_EN true 0 with tick := 600000000005 }
def idS : State :=
  { ((live.setBit BAT_CFG_STR_EN 0 true).set BAT_STR_CFG_ID_MODE 2 0) with afe := { latest := Vector.replicate 64 { valid := true } } }
def tripS : State :=
  { (((live.setBit BAT_CFG_STR_EN 0 true).setBit BAT_CONN_CLOSED 0 true).setI AFE_I_NOW_VAL 2000000 0) with
    bat := { strs := Vector.replicate 8 { tripSince := some 0 } } }
def fuseS : State :=
  { (((live.setB EFU_CTRL_EN true).setB EFU_CH_CFG_EN true 0).set EFU_CH_STAT_STATE 2 0).setB EFU_CH_CFG_SLOT_EN false 0 with
    efu := { chans := Vector.replicate 8 { run := true, waitEnd := some 0 } } }
def req0 : Req := { id := 0, cls := 0, ch := 0, by_ := .policy, proto := .quick, segs := [], count := 0, at_ := 0 }
def busS : State :=
  { live.set TWB_CH_STAT_STATE 2 0 with twb := { chans := Vector.replicate 16 { busFree := true }, reqs := [req0] } }
def hnS : State := (live.setB TWB_CFG_HN_EN true).set TWB_CH_STAT_STATE 2 0
def endS : State := { live with twb := { reqs := [{ req0 with ended := some { code := 0 } }] } }
def evRec : Rec :=
  { seq := 0, code := 0, sev := 0, cls := 0, coalesced := false, folded := false, role := 0, greenware := false, onCheck := false
    pcycle := 0, opTime := 0, subTick := 0, payload := [], cause := 0 }
def recS : State :=
  { live with evr := { loaded := true }, made := [{ ev := .shelfState, obj := 0, data := [], tick := 600000000000 }] }
def box0 : BoxRecord :=
  { t := 600000000000, fine := 0, seq := 0, slot := 0, eCode := 0, trigs := [], extra := 0, shortPre := false, window := false
    endTop := 0, post := 0, pre := 0, gap := false, raw := false, truncated := false, lost := 0, started := none, cursor := 0
    sectors := [], nextTop := 0, topLen := 0, subLen := 0, subBlocks := 0, lastEvent := 0, pcycle := 0, opTime := 0, desc := [] }
def hb0 : HeartbeatMsg :=
  { join := 3, partHeard := false, fenced := false, primary := true, owns := true, request := 0, prefB := false, ptick := 0, crc := 0 }
/-- An Ethernet link with an address; an open session on it; a PTP master chosen on it. -/
def ethS : State :=
  (((live.setB HIF_ETH_STAT_LINK true 0).set HIF_ETH_CFG_IPV4 1 0).set HLK_CFG_WIT_PATH 1).setB HIF_IP6_STAT_LL_OK true 0
def dg0 : Datagram := { eth := 0, v6 := true, peer := 0, version := 1, len := 0, sid := 0, seq := 0, body := [], mac := [] }
def sessS : State := (ethS.set SES_SESS_ROLE 1 0).set SES_SESS_PORT 1 0
def master0 : PtpFrom := { eth := 0, l2 := false, domain := 0, master := 0 }
def ptpS : State := { (live.setB HIF_ETH_STAT_LINK true 0).set TB_SRC_CTRL_SRC 2 with ports := { ptpMaster := some (0, 0) } }
/-- A key whose role may be Curator, without and with a Conservator session of the SPI port; a locked page. -/
def spiS : State := (live.setB SES_KEY_STAT_VALID true 0).set SES_KEY_CFG_MAX_ROLE 3 0
def conS : State := (spiS.set SES_SESS_ROLE 2 0).set SES_SESS_PORT 0 0
def lockedAddr : Nat := CNV_CTRL_EN.addr
def lockS : State := live.setReg (lockedAddr / 0x4000 * 0x4000 + 0x1C) 1


/-! ### States and operands that meet the hypotheses of the first statements -/

theorem wit_StepRunsFrontCommand : State.reset.pending = [] := by decide
theorem wit_StepKeepsSound : State.reset.sound = true ∧ ∃ t, step State.reset = .next t := ⟨by decide, _, rfl⟩
theorem wit_StepKeepsClocks : live.powerSince ≤ live.tick ∧ (∀ g, live.boot.g = some g → g ≤ live.tick) ∧ ∃ t, step live = .next t := by
  refine ⟨by decide, fun g h => ?_, _, rfl⟩
  cases h
  decide
theorem wit_OnlyTicksMoveTheCounter : ∃ t, exec .vinGood live = .next t := ⟨_, rfl⟩
theorem wit_PowerStateMoves : (∃ t, exec .vinGood live = .next t) ∧ (∀ n, Instr.vinGood ≠ .powerOnResetAssert n) ∧
    (∀ b, Instr.vinGood ≠ .powerOnResetRelease b) ∧ ∀ x y z w, Instr.vinGood ≠ .greenwareStart x y z w :=
  ⟨⟨_, rfl⟩, nofun, nofun, nofun⟩
theorem wit_HaltIsLatched : haltS.power = .halt ∧ haltS.boot.g.isSome = true ∧ haltS.boot.por = false ∧ ∃ t, step haltS = .next t :=
  ⟨by decide, by decide, by decide, _, rfl⟩
theorem wit_TickGIsSetOnce : live.boot.g = some 1000 ∧ ∃ t, step live = .next t := ⟨by decide, _, rfl⟩
theorem wit_FreeValuesAreDrawnOnce : ∃ t, step live = .next t := ⟨_, rfl⟩
theorem wit_OnlyStoringCommandsStore : stores .vinGood = false ∧ movesPower .vinGood = false ∧ ∃ t, exec .vinGood live = .next t :=
  ⟨by decide, by decide, _, rfl⟩
theorem wit_SettleFrame : settled SYS_SUPPLY_STAT_GOOD.addr = false := by decide
theorem wit_FieldReadsBack : SYS_SUPPLY_STAT_GOOD.bit 0 + SYS_SUPPLY_STAT_GOOD.width ≤ 32 ∧
    AFE_VA_VAL.at 0 ≠ SYS_SUPPLY_STAT_GOOD.at 0 ∧ SYS_CTRL_CORE_RST_EN.bit 0 ≤ 31 := by decide
theorem wit_WordsAreLittleEndian : 1 % 4 ≠ 0 ∧ 3 % 4 ≠ 0 := by decide

/-- An unaligned, an unmapped, a read-only and a fixed address; an address whose reading and writing ask for a session, with a requester that
has none; a locked page; and an access of each kind that is refused. -/
theorem wit_AccessErrors : 1 % 4 ≠ 0 ∧ target 0x7C000 = .unmapped ∧ (target 0x200000).readOnly = true ∧ coefFixed (target 0x300380) = true ∧
    target 0x380000 ≠ .unmapped ∧ (spiS.roleOf .spi).covers (readNeed (target 0x380000)) = false ∧
    (target 0x380000).readOnly = false ∧ coefFixed (target 0x380000) = false ∧
    (spiS.roleOf .spi).covers (writeNeed (target 0x380000)) = false ∧
    (target lockedAddr).readOnly = false ∧ coefFixed (target lockedAddr) = false ∧ (lockS.roleOf .policy).covers (writeNeed (target lockedAddr)) = true ∧
    lockS.lockedAt (target lockedAddr) = true ∧ live.readError .spi 1 = some .unaligned ∧ live.writeError .spi 1 = some .unaligned := by decide
theorem wit_RefusedCommands : live.servesFor .spi = true ∧ live.writeError .spi 1 = some .unaligned ∧
    State.reset.servesFor .spi = false ∧
    conS.mayWrite .spi EVR_CMD_CLEAR.addr = true ∧ (conS.roleOf .spi).covers .curator = false := by decide

/-! ### Clauses whose hypotheses bind more than operands -/

theorem wit_powerOnResetAssert : live.boot.por = false ∧ ((live.wipeCut 0).powerOff).boot.vbatKeep = true ∧
    ((({ live with boot := { bt with vbatKeep := false } } : State).wipeCut 0).powerOff).boot.vbatKeep = false ∧ porS.boot.por = true := by decide

def rstS (low en fw started : Bool) : State :=
  { (live.set SYS_SUPPLY_STAT_GOOD (if low then 63 else 0)).setB SYS_CTRL_CORE_RST_EN en with
    balls := { rstLow := low }, boot := { bt with resetIn := !low, firmware := fw, coresStarted := started } }

/-- RESET_IN has stood at a new level for its debounce time: low and high, with and without the core reset enabled, the cores started and
firmware running. -/
theorem wit_resetInAssert : (live.resetBall true).balls.rstLow = true ∧ (live.resetBall true).debounced = false ∧
    (∀ low en fw started, ((rstS low en fw started).resetBall low).debounced = true ∧ ((rstS low en fw started).resetBall low).balls.rstLow = low ∧
      ((rstS low en fw started).resetBall low).boot.resetIn = !low ∧ ((rstS low en fw started).resetBall low).on SYS_CTRL_CORE_RST_EN = en ∧
      ((rstS low en fw started).resetBall low).boot.firmware = fw ∧
      ((rstS low en fw started).resetBall low).boot.coresStarted = started ∧ ((rstS low en fw started).resetBall low).boot.check.isNone) ∧
    ((rstS false true false true).resetBall true).balls.rstLow = false := by decide

def checkedS (s : State) : State :=
  ({ s with boot := { s.boot with check := none } }).set SYS_FW_STAT_BOOT_MS (min ((s.tick - 0 + 999) / 1000) 255)

/-- A boot check of slot A that ends: of the committed slot, the first and the second tried, with a good and a bad signature, and of a trial. -/
theorem wit_bootCheckComplete : live.boot.check = none ∧ plainS.boot.check = some (0, 0, false) ∧ trialS.boot.check = some (0, 0, true) ∧
    (checkedS plainS).selector.trial = false ∧ (checkedS trialS).selector.trial = true ∧
    (checkedS trialS).trialVerdict ((checkedS trialS).slotManifest 0) 0 false = some (2, 0xFF) := by
  refine ⟨by decide, by decide, by decide, by decide, by decide, rfl⟩

theorem wit_calVisitComplete_rest : (∀ u, live.afe.pass = some (u, true) → u = 12 ∧ live.afe.spare.isSome = true) ∧
    ({ live with afe := { pass := some (1, true) } } : State).afe.pass = some (1, true) := ⟨nofun, rfl⟩
theorem wit_floorRampEnd_rest : (∀ f t, (live.group 0).floor = some (f, t, true) → live.tick < t + 2 * live.get CNV_AF_RUN_HOLD_US) := nofun
theorem wit_railWarning_rest : ∀ v t, (live.rail 0).v = some v → (live.rail 0).warnSince = some t →
    (live.levelsJudged 0 && !live.inWarn 0 && live.outWarn 0 false v && decide (t + 1000 * live.get RMN_TIME_WARN_T ≤ live.tick)) = false := nofun

/-- A frame of the pair that is received: new, in order; and one already received. -/
theorem wit_pairObject_rest : linkS.inPair = true ∧ linkS.sdGood = true ∧ frame0.crcOk = true ∧ frame0.inOrder = true ∧
    (linkS.incWrap HLK_RX_CNT_FRAMES).linkUp = true ∧ (∀ q, linkS.hlk.rxSeq = some q → seqUpTo frame0.seq.toNat q = false) ∧
    ∃ q, ({ linkS with hlk := { rxSeq := some 5 } } : State).hlk.rxSeq = some q ∧ seqUpTo frame0.seq.toNat q = true :=
  ⟨by decide, by decide, by decide, by decide, by decide, nofun, 5, by decide, by decide⟩

/-- A PRAX request of each type that an open session accepts, with a body that fits it and with one that does not. -/
def requestOf (type n : Nat) : Datagram :=
  { dg0 with len := BitVec.ofNat 16 n, seq := 1, body := List.replicate n 0, mac := macOf [] (praxBytes type 0 1 (List.replicate n 0)) }
theorem wit_praxAccepts (type n : Nat) : sessS.praxAccepts (requestOf type n) type 0 = true := by
  simp only [State.praxAccepts, Bool.and_eq_true, decide_eq_true_eq]
  exact ⟨⟨⟨⟨⟨⟨⟨(by decide : sessS.on HIF_ETH_STAT_LINK 0 = true), (by decide : (sessS.incWrap HIF_FRAMES_RX 0).full = true)⟩,
    (by decide : (sessS.incWrap HIF_FRAMES_RX 0).addressed dg0 = true)⟩,
    (by decide : ((sessS.incWrap HIF_FRAMES_RX 0).sessionOf dg0 == some 0) = true)⟩, rfl⟩,
    (by decide : 1 ≠ ((sessS.incWrap HIF_FRAMES_RX 0).session 0).seq)⟩,
    (by decide : (1 + 2 ^ 32 - ((sessS.incWrap HIF_FRAMES_RX 0).session 0).seq) % 2 ^ 32 < 2 ^ 31)⟩, (by decide : dg0.version = 1)⟩
theorem wit_datagramFits : datagramFits (requestOf 3 0) 0 = true ∧ datagramFits (requestOf 3 1) 0 = false ∧ datagramFits (requestOf 0x13 1) 1 = true ∧
    datagramFits (requestOf 0x13 0) 1 = false ∧ datagramFits (requestOf 0x14 4) 4 = true := by decide

/-- A Sync of the chosen master, that the discipline follows and that it does not. -/
theorem wit_ptpSync : ptpS.ptpTakes master0 = true ∧ ptpS.ports.ptpMaster = some (0, 0) ∧ ptpS.following = false ∧
    ptpS.get TB_SRC_CTRL_SRC = 2 ∧ ptpS.get TB_DISC_STAT_STATE = 0 ∧ (ptpS.set TB_SRC_CTRL_SRC 0).get TB_SRC_CTRL_SRC ≠ 2 ∧
    live.ptpTakes { master0 with domain := 1 } = false := by decide

/-- A source of AC fail: asserted, not asserted, and one whose inactive level has not lasted its deglitch. -/
theorem wit_acFailClear : shevS.get CNV_SHEV_CFG_FUNC 0 = 1 ∧ shevS.boot.g = some 1000 ∧
    (let u := shevS.shevBall 0 false
     u.tick < max (if (u.balls.shevFor.get 0).1 = u.shevRaw 0 then (u.balls.shevFor.get 0).2 else u.tick) 1000 + u.get CNV_SHEV_CFG_DEGLITCH 0) ∧
    (shevS.shevBall 0 false).shevRaw 0 = false := by decide

/-- Records made: before the recorder is loaded, a place that holds none, a change of the shelf in this tick, and another. -/
theorem wit_eventRecord : live.evr.loaded = false ∧ recS.evr.loaded = true ∧ recS.made[1]? = none ∧
    recS.made[0]? = some { ev := .shelfState, obj := 0, data := [], tick := 600000000000 } ∧
    ({ recS with tick := 600000000001 } : State).made[0]?.any (fun m => decide (m.tick ≠ 600000000001)) = true ∧
    ∃ code payload, RecordFrom.policy code payload 0 = .policy 0x8000 [] 0 := by
  refine ⟨by decide, by decide, by decide, by decide, by decide, _, _, rfl⟩

/-- A slot whose running coefficients leave room for the relay of a tune. -/
def tuneS : State :=
  { (((live.setB LPT_CTRL_TUNE_EN true).set LPT_TUNE_AMP_D 1).store (runBase + 4) 1000).store runBase 0xFFFFFC18 with
    lpe := { slots := Vector.replicate 64 { cfg := 1 } } }
theorem wit_tuneStart_rest : tuneS.mayWrite .spi LPT_CMD_TUNE_START.addr = true ∧ (tuneS.touch .spi).tuneMayStart = true := by decide

/-- A module comes into a slot that no memory stands in. -/
def bareS : State := { slotS true with efu := { chans := Vector.replicate 8 { presFor := (true, 0) } } }
theorem wit_slotInsert_rest : bareS.slotEdge 0 true = true ∧ (bareS.fuse 0).mem = none := by decide

/-! ### Clauses of the statements on commands, one theorem for each command -/

/-! #### SupplyAndStart -/

theorem wit_powerOnResetRelease :
    (let s : State := live; (decide ((!s.boot.por ∨ !s.boot.vinGood ∨ s.boot.shipLatch)))) = true ∧
    (let s : State := porS; (decide (¬(!s.boot.por ∨ !s.boot.vinGood ∨ s.boot.shipLatch)))) = true ∧
    (let s : State := porS; (decide (s.boot.por = true) && (decide (s.boot.vinGood = true) && (decide (s.boot.shipLatch = false))))) = true := by
  decide

theorem wit_strapLatch :
    (let s : State := live; (decide ((s.boot.por ∨ s.boot.strapped ∨ s.tick < 7)))) = true ∧
    (let samples : Vector (BitVec 6) 8 := (Vector.replicate 8 0); let s : State := newS; (decide (¬(s.boot.por ∨ s.boot.strapped ∨ s.tick < 7)) &&
      (decide ((samples.toList.all (fun x => x == samples.get 7)))))) = true ∧
    (let samples : Vector (BitVec 6) 8 := #v[0, 1, 2, 3, 4, 5, 6, 7]; let s : State := { State.reset with tick := 7 };
      (decide (¬(s.boot.por ∨ s.boot.strapped ∨ s.tick < 7)) && (decide (¬(samples.toList.all (fun x => x == samples.get 7)))))) = true ∧
    (let s : State := newS; (decide (s.boot.por = false) && (decide (s.boot.strapped = false) && (decide (7 ≤ s.tick))))) = true := by
  decide

theorem wit_kilnLoad :
    (let s : State := live; (decide ((s.boot.por ∨ s.boot.testState ∨ !s.boot.strapped ∨ s.boot.kilnLoaded)))) = true ∧
    (let s : State := ((fun (s : State) => { s with boot := { s.boot with kilnLoaded := false } }) (live));
      (decide (¬(s.boot.por ∨ s.boot.testState ∨ !s.boot.strapped ∨ s.boot.kilnLoaded)))) = true ∧
    (let s : State := ((fun (s : State) => { s with boot := { s.boot with kilnLoaded := false } }) (live)); (decide (s.boot.por = false) &&
      (decide (s.boot.testState = false) && (decide (s.boot.strapped = true) && (decide (s.boot.kilnLoaded = false)))))) = true := by
  decide

theorem wit_greenwareStart :
    (let s : State := live; (decide ((s.boot.por ∨ !s.boot.kilnLoaded ∨ s.boot.g.isSome)))) = true ∧
    (let s : State := ((fun (s : State) => { s with boot := { s.boot with g := none } }) (live));
      (decide (¬(s.boot.por ∨ !s.boot.kilnLoaded ∨ s.boot.g.isSome)))) = true ∧
    (let s : State := ((fun (s : State) => { s with boot := { s.boot with g := none } }) (live)); (decide (s.boot.por = false) &&
      (decide (s.boot.kilnLoaded = true) && (decide (s.boot.g = none))))) = true := by
  decide

theorem wit_outHoldRelease :
    (let r : Requester := .policy;
      let s : State := ((fun (s : State) => { s with boot := { s.boot with decided := false } }) (live.setBit SYS_STRAP_LATCHED 3 true));
      (decide (s.mayWrite r SYS_OUT_HOLD_RELEASE.addr = true) && (decide ((let s := s.touch r;
      s.boot.g.isSome && s.bitOn SYS_STRAP_LATCHED 3 && !s.boot.decided))))) = true ∧
    (let r : Requester := .policy; let s : State := live; (decide (s.mayWrite r SYS_OUT_HOLD_RELEASE.addr = true) && (decide (¬(let s := s.touch r;
      s.boot.g.isSome && s.bitOn SYS_STRAP_LATCHED 3 && !s.boot.decided))))) = true := by
  decide

theorem wit_supplyBankChange :
    (let k : Fin 6 := 5; let good : Bool := true; let s : State := live; (decide ((k.val = 5)) && (decide (good)))) = true ∧
    (let k : Fin 6 := 5; let good : Bool := false; let s : State := live; (decide ((k.val = 5)) && (decide (¬good)))) = true ∧
    (let k : Fin 6 := 0; let good : Bool := true; let s : State := live; (decide (¬(k.val = 5)) &&
      (decide ((s.boot.por ∨ s.bitOn SYS_SUPPLY_STAT_GOOD k.val = good))))) = true ∧
    (let k : Fin 6 := 0; let good : Bool := true; let s : State := State.reset; (decide (¬(k.val = 5)) &&
      (decide (¬(s.boot.por ∨ s.bitOn SYS_SUPPLY_STAT_GOOD k.val = good))))) = true := by
  decide

theorem wit_jtagExtest :
    (let s : State := porS; (decide (s.boot.por))) = true ∧
    (let s : State := live; (decide (¬s.boot.por))) = true := by
  decide

theorem wit_wake :
    (let s : State := ((fun (s : State) => { s with boot := { s.boot with shipLatch := true } }) (((fun (s : State) => { s with boot := { s.boot with por := true } }) (live))));
      (decide ((s.boot.por ∧ s.boot.shipLatch)))) = true ∧
    (let s : State := live; (decide (¬(s.boot.por ∧ s.boot.shipLatch)))) = true := by
  decide

/-! #### CoresAndCalibration -/

theorem wit_resetInRelease :
    (let s : State := live; (decide ((let s := s.resetBall false; !s.debounced || s.balls.rstLow == s.boot.resetIn)))) = true ∧
    (let s : State := { live.setB SYS_CTRL_CORE_RST_EN true with boot := { bt with resetIn := true, firmware := false } };
      (decide (¬(let s := s.resetBall false; !s.debounced || s.balls.rstLow == s.boot.resetIn)) && (decide (¬(let s := s.resetBall false;
      s.balls.rstLow)) && (decide ((let s := s.resetBall false; let s := { s with boot := { s.boot with resetIn := false } };
      s.on SYS_CTRL_CORE_RST_EN ∧ !s.boot.firmware ∧ s.boot.check.isNone)))))) = true ∧
    (let s : State := { live with boot := { bt with resetIn := true } }; (decide (¬(let s := s.resetBall false;
      !s.debounced || s.balls.rstLow == s.boot.resetIn)) && (decide (¬(let s := s.resetBall false; s.balls.rstLow)) &&
      (decide (¬(let s := s.resetBall false; let s := { s with boot := { s.boot with resetIn := false } };
      s.on SYS_CTRL_CORE_RST_EN ∧ !s.boot.firmware ∧ s.boot.check.isNone)))))) = true := by
  decide

theorem wit_coreRestart :
    (let r : Requester := .spi; let w : Word := 0x9484; let s : State := live;
      (decide (s.mayCommand r SYS_RESET_CMD_CORE_RESTART.addr .curator = true) && (decide (¬(let w : Word := w ||| 0x10000; bitsOf w 16 1 = 0)) &&
      (decide ((let w : Word := w ||| 0x10000; bitsOf w 0 16 = 0x9484)))))) = true ∧
    (let r : Requester := .policy; let w : Word := 0; let s : State := live; (decide (s.mayCommand r SYS_RESET_CMD_CORE_RESTART.addr .curator = true) &&
      (decide (¬(let w : Word := w ||| 0x10000; bitsOf w 16 1 = 0)) && (decide (¬(let w : Word := w ||| 0x10000; bitsOf w 0 16 = 0x9484)))))) = true := by
  decide

theorem wit_calAttemptComplete :
    (let s : State := live; (decide ((s.boot.calRun = none)))) = true ∧
    (let found : Option (Vector (Int × Int) 15) := some (Vector.replicate 15 (20001, 0));
      let s : State := { live with boot := { bt with calRun := some 0 } };
      (match s.boot.calRun with | some t => (match found with | some x => (decide ((x.toList.any coefBad))) | _ => false) | _ => false)) = true ∧
    (let found : Option (Vector (Int × Int) 15) := some (Vector.replicate 15 (0, 0));
      let s : State := { live with boot := { bt with calRun := some 0 } };
      (match s.boot.calRun with | some t => (match found with | some x => (decide (¬(x.toList.any coefBad))) | _ => false) | _ => false)) = true ∧
    (let found : Option (Vector (Int × Int) 15) := none; let s : State := { live with boot := { bt with calRun := some 0 } };
      (match s.boot.calRun with | some t => (decide ((found = none))) | _ => false)) = true := by
  decide

theorem wit_calRetryTimer :
    (let s : State := ((fun (s : State) => { s with boot := { s.boot with calRetryAt := some 0 } }) (live));
      (decide ((s.due s.boot.calRetryAt ∧ s.boot.calRun.isNone)))) = true ∧
    (let s : State := live; (decide (¬(s.due s.boot.calRetryAt ∧ s.boot.calRun.isNone)))) = true := by
  decide

theorem wit_calRetryCmd :
    (let r : Requester := .policy; let s : State := live.setB SYS_CAL_STAT_FAILED_LAST true; (decide (s.mayWrite r SYS_CAL_CMD_RETRY.addr = true) &&
      (decide ((let s := s.touch r; s.on SYS_CAL_STAT_FAILED_LAST && s.boot.calRun.isNone))))) = true ∧
    (let r : Requester := .policy; let s : State := live; (decide (s.mayWrite r SYS_CAL_CMD_RETRY.addr = true) && (decide (¬(let s := s.touch r;
      s.on SYS_CAL_STAT_FAILED_LAST && s.boot.calRun.isNone))))) = true := by
  decide

/-! #### PowerStateCommands -/

theorem wit_acFailAssert :
    (let j : Fin 4 := 0;
      let s : State := { live.set CNV_SHEV_CFG_FUNC 1 0 with balls := { live.balls with shev := Vector.replicate 4 false, shevFor := Vector.replicate 4 (true, 0) } };
      (decide (((s.shevBall j true).shevLine j).powerWas = .normal) && (decide (((s.shevBall j true).shevLine j).acFail = true) &&
      (decide (((s.shevBall j true).shevLine j).mayEnter .prearmed = true))))) = true ∧
    (let s : State := { (live.set CNV_SHEV_CFG_FUNC 1 0).setBit CNV_ACF_STAT_SHEV_ASSERTED 0 true with power := .ret }; (decide (s.powerWas = .ret) &&
      (decide (s.acFail = true) && (decide (s.allEmpty = false) && (decide (s.mayEnter .holdup = true)))))) = true := by
  decide

theorem wit_pickupQualified :
    (let s : State := { live with qual := { pick := some 0 } }; (decide (((s.powerWas = .normal ∨ s.powerWas = .prearmed) ∧ s.lasted s.qual.pick 20)) &&
      (decide ((s.mayEnter .holdup)) && (decide (¬(let s := s.inc CNV_CNT_PICKUPS; let p : PowerState := .holdup; !s.mayEnter p)))))) = true ∧
    (let s : State := { live with qual := { pick := some 0 }, powerSince := live.tick, power := .holdup, powerFrom := .normal };
      (decide (((s.powerWas = .normal ∨ s.powerWas = .prearmed) ∧ s.lasted s.qual.pick 20)) && (decide (¬(s.mayEnter .holdup))))) = true ∧
    (let s : State := live; (decide (¬((s.powerWas = .normal ∨ s.powerWas = .prearmed) ∧ s.lasted s.qual.pick 20)))) = true ∧
    (let s : State := { live with qual := { pick := some 0 } }; (decide (s.powerWas = .normal ∨ s.powerWas = .prearmed) &&
      (decide (s.lasted s.qual.pick 20 = true) && (decide (s.mayEnter .holdup = true))))) = true := by
  decide

theorem wit_prearmClearQualified :
    (let s : State := { live with qual := { quiet := some 0 }, powerSince := live.tick, power := .holdup, powerFrom := .prearmed };
      (decide ((s.powerWas = .prearmed ∧ s.held_ s.qual.quiet 50000)) && (decide ((let p : PowerState := .normal; !s.mayEnter p))))) = true ∧
    (let s : State := { live with qual := { quiet := some 0 }, power := .prearmed }; (decide ((s.powerWas = .prearmed ∧ s.held_ s.qual.quiet 50000)) &&
      (decide (¬(let p : PowerState := .normal; !s.mayEnter p))))) = true ∧
    (let s : State := live; (decide (¬(s.powerWas = .prearmed ∧ s.held_ s.qual.quiet 50000)))) = true ∧
    (let s : State := { live with qual := { quiet := some 0 }, power := .prearmed }; (decide (s.powerWas = .prearmed) &&
      (decide (s.held_ s.qual.quiet 50000 = true) && (decide (s.mayEnter .normal = true))))) = true := by
  decide

theorem wit_returnQualified :
    (let s : State := { live with qual := { load := some 0 }, powerSince := live.tick, power := .exhausted, powerFrom := .holdup };
      (decide ((s.powerWas = .holdup ∧ s.held_ s.qual.load 10000)) && (decide ((let p : PowerState := .ret; !s.mayEnter p))))) = true ∧
    (let s : State := { live with qual := { load := some 0 }, power := .holdup }; (decide ((s.powerWas = .holdup ∧ s.held_ s.qual.load 10000)) &&
      (decide (¬(let p : PowerState := .ret; !s.mayEnter p))))) = true ∧
    (let s : State := live; (decide (¬(s.powerWas = .holdup ∧ s.held_ s.qual.load 10000)))) = true ∧
    (let s : State := { live with qual := { load := some 0 }, power := .holdup }; (decide (s.powerWas = .holdup) &&
      (decide (s.held_ s.qual.load 10000 = true) && (decide (s.mayEnter .ret = true))))) = true := by
  decide

theorem wit_returnLoadLost :
    (let s : State := { live with qual := { low := some 0 }, powerSince := live.tick, power := .exhausted, powerFrom := .ret };
      (decide ((s.powerWas = .ret ∧ s.held_ s.qual.low 1000)) && (decide ((let p : PowerState := .holdup; !s.mayEnter p))))) = true ∧
    (let s : State := { live with qual := { low := some 0 }, power := .ret }; (decide ((s.powerWas = .ret ∧ s.held_ s.qual.low 1000)) &&
      (decide (¬(let p : PowerState := .holdup; !s.mayEnter p))))) = true ∧
    (let s : State := live; (decide (¬(s.powerWas = .ret ∧ s.held_ s.qual.low 1000)))) = true ∧
    (let s : State := { live with qual := { low := some 0 }, power := .ret }; (decide (s.powerWas = .ret) && (decide (s.held_ s.qual.low 1000 = true) &&
      (decide (s.mayEnter .holdup = true))))) = true := by
  decide

theorem wit_handbackRampComplete :
    (let s : State := { live with powerSince := live.tick, power := .exhausted, powerFrom := .ret };
      (decide ((s.powerWas = .ret ∧ s.powerWasSince + s.get CNV_RAMP_RAMP ≤ s.tick ∧ s.convCurrent ≤ 0)) && (decide ((let p : PowerState := .normal;
      !s.mayEnter p))))) = true ∧
    (let s : State := retS; (decide ((s.powerWas = .ret ∧ s.powerWasSince + s.get CNV_RAMP_RAMP ≤ s.tick ∧ s.convCurrent ≤ 0)) &&
      (decide (¬(let p : PowerState := .normal; !s.mayEnter p))))) = true ∧
    (let s : State := live; (decide (¬(s.powerWas = .ret ∧ s.powerWasSince + s.get CNV_RAMP_RAMP ≤ s.tick ∧ s.convCurrent ≤ 0)))) = true ∧
    (let s : State := retS; (decide (s.powerWas = .ret) && (decide (s.powerWasSince + s.get CNV_RAMP_RAMP ≤ s.tick) && (decide (s.convCurrent ≤ 0) &&
      (decide (s.mayEnter .normal = true)))))) = true := by
  decide

theorem wit_noStringClosedExpiry :
    (let s : State := { live with powerSince := live.tick, power := .halt, powerFrom := .holdup, bat := { noneClosed := some 0 } };
      (decide (((s.powerWas = .holdup ∨ s.powerWas = .ret) ∧ s.closedStrs.isEmpty ∧ s.lasted s.bat.noneClosed 1000)) &&
      (decide ((let p : PowerState := .exhausted; !s.mayEnter p))))) = true ∧
    (let s : State := { live with power := .holdup, bat := { noneClosed := some 0 } };
      (decide (((s.powerWas = .holdup ∨ s.powerWas = .ret) ∧ s.closedStrs.isEmpty ∧ s.lasted s.bat.noneClosed 1000)) &&
      (decide (¬(let p : PowerState := .exhausted; !s.mayEnter p))))) = true ∧
    (let s : State := live; (decide (¬((s.powerWas = .holdup ∨ s.powerWas = .ret) ∧ s.closedStrs.isEmpty ∧ s.lasted s.bat.noneClosed 1000)))) = true ∧
    (let s : State := { live with power := .holdup, bat := { noneClosed := some 0 } }; (decide (s.powerWas = .holdup ∨ s.powerWas = .ret) &&
      (decide (s.closedStrs.isEmpty = true) && (decide (s.lasted s.bat.noneClosed 1000 = true) && (decide (s.mayEnter .exhausted = true)))))) = true := by
  decide

theorem wit_exhaustedRecovered :
    (let s : State := { live with powerSince := live.tick, power := .halt, powerFrom := .exhausted, bat := { acClear := some 0, regSince := some 0 } };
      (decide ((s.powerWas = .exhausted ∧ s.held_ s.bat.acClear 10000 ∧ s.held_ s.bat.regSince 10000)) && (decide ((let p : PowerState := .normal;
      !s.mayEnter p))))) = true ∧
    (let s : State := { live with power := .exhausted, bat := { acClear := some 0, regSince := some 0 } };
      (decide ((s.powerWas = .exhausted ∧ s.held_ s.bat.acClear 10000 ∧ s.held_ s.bat.regSince 10000)) && (decide (¬(let p : PowerState := .normal;
      !s.mayEnter p))))) = true ∧
    (let s : State := live; (decide (¬(s.powerWas = .exhausted ∧ s.held_ s.bat.acClear 10000 ∧ s.held_ s.bat.regSince 10000)))) = true ∧
    (let s : State := { live with power := .exhausted, bat := { acClear := some 0, regSince := some 0 } }; (decide (s.powerWas = .exhausted) &&
      (decide (s.held_ s.bat.acClear 10000 = true) && (decide (s.held_ s.bat.regSince 10000 = true) &&
      (decide (s.mayEnter .normal = true)))))) = true := by
  decide

theorem wit_efficiencyResumeTimer :
    (let s : State := ((fun (s : State) => { s with shr := { s.shr with resumeAt := some 0 } }) (live)); (decide ((s.due s.shr.resumeAt)))) = true ∧
    (let s : State := live; (decide (¬(s.due s.shr.resumeAt)))) = true := by
  decide

theorem wit_thermalGroupRecompute :
    (let s : State := State.reset; (decide (s.boot.g.isNone))) = true ∧
    (let g : Fin 6 := 0; let s : State := live; (decide (¬s.boot.g.isNone) && (decide ((!s.thm.due.testBit g.val))))) = true ∧
    (let g : Fin 6 := 0; let s : State := { live with thm := { due := 1 } }; (decide (¬s.boot.g.isNone) &&
      (decide (¬(!s.thm.due.testBit g.val))))) = true := by
  decide

theorem wit_emptyQualified :
    (let n : Fin 8 := 0;
      let s : State := { ((live.setBit BAT_CFG_STR_EN 0 true).setBit BAT_CONN_CLOSED 0 true) with bat := { strs := Vector.replicate 8 { iF := 1, lowSince := some 0 } }, afe := { latest := Vector.replicate 64 { valid := true } } };
      (decide ((s.emptyNow n)))) = true ∧
    (let n : Fin 8 := 0; let s : State := live; (decide (¬(s.emptyNow n)))) = true := by
  decide

theorem wit_allfire :
    (let g : Fin 2 := 0; let fine : Option Swing × Option Swing := (none, none); let s : State := live; (decide ((s.tripAt g fine = none)))) = true ∧
    (let g : Fin 2 := 0;
      let fine : Option Swing × Option Swing := (some { value := -2147483648, first := 0, last := 49 }, some { value := -2147483648, first := 0, last := 49 });
      let lat : Fin 14 := 0; let s : State := fireS;
      (match s.tripAt g fine with | some f => (decide ((s.fires g)) && (decide ((let s' := s.slopeNote g fine.1; let s := s'.fire g f lat; s.powerWas = .normal ∨ s.powerWas = .prearmed)) && (decide ((let s' := s.slopeNote g fine.1; let s := s'.fire g f lat; s.mayEnter .holdup))))) | _ => false)) = true ∧
    (let g : Fin 2 := 0;
      let fine : Option Swing × Option Swing := (some { value := -2147483648, first := 0, last := 49 }, some { value := -2147483648, first := 0, last := 49 });
      let lat : Fin 14 := 0; let s : State := { fireS with powerSince := live.tick, power := .holdup, powerFrom := .normal };
      (match s.tripAt g fine with | some f => (decide ((s.fires g)) && (decide ((let s' := s.slopeNote g fine.1; let s := s'.fire g f lat; s.powerWas = .normal ∨ s.powerWas = .prearmed)) && (decide (¬(let s' := s.slopeNote g fine.1; let s := s'.fire g f lat; s.mayEnter .holdup))))) | _ => false)) = true ∧
    (let g : Fin 2 := 0;
      let fine : Option Swing × Option Swing := (some { value := -2147483648, first := 0, last := 49 }, some { value := -2147483648, first := 0, last := 49 });
      let lat : Fin 14 := 0; let s : State := { fireS with powerSince := live.tick, power := .ret, powerFrom := .holdup };
      (match s.tripAt g fine with | some f => (decide ((s.fires g)) && (decide (¬(let s' := s.slopeNote g fine.1; let s := s'.fire g f lat; s.powerWas = .normal ∨ s.powerWas = .prearmed)))) | _ => false)) = true ∧
    (let g : Fin 2 := 0;
      let fine : Option Swing × Option Swing := (some { value := -2147483648, first := 0, last := 49 }, some { value := -2147483648, first := 0, last := 49 });
      let s : State := { fireS with powerSince := live.tick, power := .exhausted, powerFrom := .holdup, cnv := { fireS.cnv with groups := Vector.replicate 2 { since := live.tick, left := 2 } } };
      (match s.tripAt g fine with | some f => (decide (¬(s.fires g)) && (decide ((s.fireLost g)))) | _ => false)) = true ∧
    (let g : Fin 2 := 0;
      let fine : Option Swing × Option Swing := (some { value := -2147483648, first := 0, last := 49 }, some { value := -2147483648, first := 0, last := 49 });
      let s : State := fireS.setB CNV_CTRL_ALLFIRE_EN false;
      (match s.tripAt g fine with | some f => (decide (¬(s.fires g)) && (decide (¬(s.fireLost g)))) | _ => false)) = true ∧
    (let g : Fin 2 := 0;
      let fine : Option Swing × Option Swing := (some { value := -2147483648, first := 0, last := 49 }, some { value := -2147483648, first := 0, last := 49 });
      let f : Nat := 0; let s : State := fireS; (decide (s.tripAt g fine = some f) && (decide (s.fires g = true) &&
      (decide (s.powerWas = .normal ∨ s.powerWas = .prearmed) && (decide (s.mayEnter .holdup = true)))))) = true := by
  decide

theorem wit_ship :
    (let r : Requester := .policy; let w : Word := 0; let s : State := live; (decide (s.mayCommand r BAT_SHIP_CMD_SHIP.addr .curator = true) &&
      (decide ((bitsOf w 16 1 = 0))))) = true ∧
    (let r : Requester := .spi; let w : Word := 0x10001; let s : State := live; (decide (s.mayCommand r BAT_SHIP_CMD_SHIP.addr .curator = true) &&
      (decide (¬(bitsOf w 16 1 = 0)) && (decide ((bitsOf w 0 16 ≠ 0x5A5A)))))) = true ∧
    (let r : Requester := .spi; let w : Word := 0x15A5A; let s : State := { live with power := .holdup };
      (decide (s.mayCommand r BAT_SHIP_CMD_SHIP.addr .curator = true) && (decide (¬(bitsOf w 16 1 = 0)) && (decide (¬(bitsOf w 0 16 ≠ 0x5A5A)) &&
      (decide ((let s := s.touch r; s.power ≠ .normal ∨ !s.full ∨ s.powerSince = s.tick ∨ !s.bitOn SYS_SUPPLY_STAT_GOOD 5))))))) = true ∧
    (let r : Requester := .spi; let w : Word := 0x15A5A; let s : State := live; (decide (s.mayCommand r BAT_SHIP_CMD_SHIP.addr .curator = true) &&
      (decide (¬(bitsOf w 16 1 = 0)) && (decide (¬(bitsOf w 0 16 ≠ 0x5A5A)) && (decide (¬(let s := s.touch r;
      s.power ≠ .normal ∨ !s.full ∨ s.powerSince = s.tick ∨ !s.bitOn SYS_SUPPLY_STAT_GOOD 5))))))) = true := by
  decide

/-! #### TimeCommands -/

theorem wit_tbSrcWrite :
    (let r : Requester := .policy; let s : State := live;
      (decide (s.mayWrite r TB_SRC_CTRL_SRC.addr = true) && (match findRow TB_SRC_CTRL_SRC.addr with | some row => true | _ => false))) = true := by
  decide

theorem wit_discSourcePresent :
    (let s : State := live.set TB_SRC_CTRL_SRC ((0) + 1);
      (decide ((!s.following ∧ s.get TB_SRC_CTRL_SRC ≠ 0 ∧ (s.get TB_DISC_STAT_STATE = 0 ∨ s.get TB_DISC_STAT_STATE = 3))))) = true ∧
    (let s : State := live;
      (decide (¬(!s.following ∧ s.get TB_SRC_CTRL_SRC ≠ 0 ∧ (s.get TB_DISC_STAT_STATE = 0 ∨ s.get TB_DISC_STAT_STATE = 3))))) = true := by
  decide

theorem wit_discSourceLost :
    (let s : State := live.set TB_DISC_STAT_STATE (1); (decide ((s.get TB_DISC_STAT_STATE = 1 ∨ s.get TB_DISC_STAT_STATE = 2)))) = true ∧
    (let s : State := live; (decide (¬(s.get TB_DISC_STAT_STATE = 1 ∨ s.get TB_DISC_STAT_STATE = 2)))) = true := by
  decide

theorem wit_discLockWindow :
    (let worst : Int := 0; let s : State := live.set TB_DISC_STAT_STATE (1);
      (decide ((!s.following ∧ s.get TB_DISC_STAT_STATE = 1 ∧ s.tb.acquireSince + 10000000 ≤ s.tick ∧ worst.natAbs < 100)))) = true ∧
    (let worst : Int := 0; let s : State := live;
      (decide (¬(!s.following ∧ s.get TB_DISC_STAT_STATE = 1 ∧ s.tb.acquireSince + 10000000 ≤ s.tick ∧ worst.natAbs < 100)))) = true := by
  decide

theorem wit_discRateStep :
    (let s : State := State.reset; (decide ((s.following ∨ s.tick < s.tb.lastStep + 1000000)))) = true ∧
    (let s : State := live; (decide (¬(s.following ∨ s.tick < s.tb.lastStep + 1000000)) && (decide ((s.get TB_DISC_STAT_STATE = 0))))) = true ∧
    (let s : State := live.set TB_DISC_STAT_STATE (3); (decide (¬(s.following ∨ s.tick < s.tb.lastStep + 1000000)) &&
      (decide (¬(s.get TB_DISC_STAT_STATE = 0)) && (decide ((s.get TB_DISC_STAT_STATE = 3)))))) = true ∧
    (let s : State := live.set TB_DISC_STAT_STATE 1; (decide (¬(s.following ∨ s.tick < s.tb.lastStep + 1000000)) &&
      (decide (¬(s.get TB_DISC_STAT_STATE = 0)) && (decide (¬(s.get TB_DISC_STAT_STATE = 3)))))) = true := by
  decide

theorem wit_xchkWindowEnd :
    (let count : Nat := 15625; let s : State := live; (decide ((let s := s.set TB_XCHK_STAT_LAST_COUNT (min count 65535); s.xchkGood count)))) = true ∧
    (let count : Nat := 0; let s : State := ((fun (s : State) => { s with tb := { s.tb with onCheck := true } }) (live));
      (decide (¬(let s := s.set TB_XCHK_STAT_LAST_COUNT (min count 65535); s.xchkGood count)) &&
      (decide ((let s := s.set TB_XCHK_STAT_LAST_COUNT (min count 65535); s.tb.onCheck))))) = true ∧
    (let count : Nat := 0; let s : State := live; (decide (¬(let s := s.set TB_XCHK_STAT_LAST_COUNT (min count 65535); s.xchkGood count)) &&
      (decide (¬(let s := s.set TB_XCHK_STAT_LAST_COUNT (min count 65535); s.tb.onCheck))))) = true := by
  decide

theorem wit_vcoreWindowEnd :
    (let s : State := live; (decide ((s.tick % 10000 = 0 ∧ s.tb.windowAt < s.tick)))) = true ∧
    (let s : State := State.reset; (decide (¬(s.tick % 10000 = 0 ∧ s.tb.windowAt < s.tick)))) = true ∧
    (let s : State := live; (decide (s.tick % 10000 = 0) && (decide (s.tb.windowAt < s.tick)))) = true := by
  decide

/-! #### AccessCommands -/

theorem wit_tickLatchRead :
    (let r : Requester := .policy; let s : State := porS; (decide ((!s.servesFor r)))) = true ∧
    (let r : Requester := .policy; let s : State := live; (decide (¬(!s.servesFor r)))) = true ∧
    (let r : Requester := .policy; let s : State := live; (decide (s.mayRead r TB_TICK_LO_TICK_LO.addr = true))) = true := by
  decide

theorem wit_multiwordLatchRead :
    (let r : Requester := .policy; let s : State := porS; (decide ((!s.servesFor r)))) = true ∧
    (let r : Requester := .policy; let s : State := live; (decide (¬(!s.servesFor r)))) = true ∧
    (let r : Requester := .policy; let a : Word := 0; let s : State := live; (decide (s.mayRead r a.toNat = true))) = true := by
  decide

theorem wit_registerWrite :
    (let r : Requester := .policy; let s : State := porS; (decide ((!s.servesFor r)))) = true ∧
    (let r : Requester := .policy; let s : State := live; (decide (¬(!s.servesFor r)))) = true := by
  decide

theorem wit_aliasWrite :
    (let r : Requester := .policy; let s : State := porS; (decide ((!s.servesFor r)))) = true ∧
    (let r : Requester := .policy; let s : State := live; (decide (¬(!s.servesFor r)))) = true := by
  decide

theorem wit_spiRead :
    (let s : State := State.reset; (decide ((!s.servesFor .spi)))) = true ∧
    (let s : State := live; (decide (¬(!s.servesFor .spi)))) = true := by
  decide

theorem wit_spiWrite :
    (let s : State := State.reset; (decide ((!s.servesFor .spi)))) = true ∧
    (let s : State := live; (decide (¬(!s.servesFor .spi)))) = true := by
  decide

theorem wit_spiStatus :
    (let s : State := State.reset; (decide ((!s.servesFor .spi)))) = true ∧
    (let s : State := live; (decide (¬(!s.servesFor .spi)))) = true := by
  decide

/-! #### CheckCommands -/

theorem wit_cckScanStart :
    (let s : State := live; (decide ((s.cck.first = none)))) = true ∧
    (let s : State := ((fun (s : State) => { s with cck := { s.cck with first := some default } }) (live));
      (match s.cck.first with | some f => (decide ((f ≤ s.tick ∧ (s.tick - f) % 1000 = 0 ∧ s.on CCK_CTRL_EN ∧ s.cck.scan.isNone))) | _ => false)) = true ∧
    (let s : State := ((fun (s : State) => { s with cck := { s.cck with first := some default } }) (oddS));
      (match s.cck.first with | some f => (decide (¬(f ≤ s.tick ∧ (s.tick - f) % 1000 = 0 ∧ s.on CCK_CTRL_EN ∧ s.cck.scan.isNone))) | _ => false)) = true := by
  decide

theorem wit_cckScanComplete :
    (let s : State := live; (decide ((s.cck.scan = none)))) = true ∧
    (let s : State := ((fun (s : State) => { s with cck := { s.cck with scan := some default } }) (live));
      (match s.cck.scan with | some t => true | _ => false)) = true ∧
    (let s : State := ((fun (s : State) => { s with cck := { s.cck with scan := some default } }) (live));
      (match s.cck.scan with | some b => true | _ => false)) = true := by
  decide

theorem wit_cckCommit :
    (let r : Requester := .policy; let s : State := live; (decide (s.mayWrite r CCK_CMD_COMMIT.addr = true))) = true ∧
    (let r : Requester := .partner; let s : State := live; (decide (s.mayWrite r CCK_CMD_COMMIT.addr = true) && (decide (fromPartner r = true) &&
      (decide ((s.touch r).on CCK_STAT_COMMIT_BUSY = false) && (decide ((s.touch r).get CCK_CORRUPT_MASK_COR = 0) &&
      (decide ((s.touch r).on CCK_CTRL_EN = true))))))) = true ∧
    (let r : Requester := .policy; let s : State := live; (decide (s.mayWrite r CCK_CMD_COMMIT.addr = true) && (decide (fromPartner r = false) &&
      (decide ((s.touch r).on CCK_STAT_COMMIT_BUSY = false) && (decide ((s.touch r).get CCK_CORRUPT_MASK_COR = 0) &&
      (decide ((s.touch r).on CCK_CTRL_EN = true))))))) = true ∧
    (let r : Requester := .partner; let s : State := live.setB CCK_CTRL_EN false; (decide (s.mayWrite r CCK_CMD_COMMIT.addr = true) &&
      (decide (fromPartner r = true) && (decide ((s.touch r).on CCK_STAT_COMMIT_BUSY = false) &&
      (decide ((s.touch r).get CCK_CORRUPT_MASK_COR ≠ 0 ∨ (s.touch r).on CCK_CTRL_EN = false)))))) = true := by
  decide

/-! #### FrontEndCommands -/

theorem wit_crosscheckFaultDeclared :
    (let h : Fin 2 := 0; let s : State := { live.setB AFE_XCHK_CTRL_EN true with afe := { misDue := Vector.replicate 2 (some 0) } };
      (decide ((s.xchkOn h && (s.afe.judge.get h).isNone && s.due (s.afe.misDue.get h))))) = true ∧
    (let h : Fin 2 := 0; let s : State := live; (decide (¬(s.xchkOn h && (s.afe.judge.get h).isNone && s.due (s.afe.misDue.get h))))) = true := by
  decide

theorem wit_crosscheckJudge :
    (let h : Fin 2 := 0; let convs : List (BitVec 14) := List.replicate 8 0;
      let s : State := { live with afe := { judge := Vector.replicate 2 (some 0), prioFrom := Vector.replicate 2 (some 0) } };
      (decide ((s.judgeReady h ∧ convs.length = 8)))) = true ∧
    (let h : Fin 2 := 0; let convs : List (BitVec 14) := []; let s : State := live; (decide (¬(s.judgeReady h ∧ convs.length = 8)))) = true := by
  decide

theorem wit_monRequestDue :
    (let s : State := State.reset; (decide ((s.boot.g = none)))) = true ∧
    (let s : State := live; (match s.boot.g with | some g => true | _ => false)) = true ∧
    (let s : State := ((fun (s : State) => { s with afe := { s.afe with slotTick := some s.tick } }) (live));
      (match s.boot.g with | some g => (decide (s.afe.slotTick = some s.tick)) | _ => false)) = true := by
  decide

theorem wit_monSelWrite :
    (let r : Requester := .policy; let s : State := live; (decide (s.mayWrite r AFE_MON_SEL_INPUT.addr = true))) = true := by
  decide

theorem wit_calPassStart :
    (let s : State := live; (decide ((s.afe.passAt = none)))) = true ∧
    (let s : State := ((fun (s : State) => { s with afe := { s.afe with passAt := some default } }) (live));
      (match s.afe.passAt with | some t => (decide ((s.on AFE_CAL_CTRL_BG_EN ∧ s.afe.pass = none ∧ t + 1000000 * s.get AFE_CAL_CTRL_PERIOD_S ≤ s.tick ∧ s.power ≠ .halt))) | _ => false)) = true ∧
    (let s : State := (((fun (s : State) => { s with afe := { s.afe with passAt := some default } }) (live))).setB AFE_CAL_CTRL_BG_EN false;
      (match s.afe.passAt with | some t => (decide (¬(s.on AFE_CAL_CTRL_BG_EN ∧ s.afe.pass = none ∧ t + 1000000 * s.get AFE_CAL_CTRL_PERIOD_S ≤ s.tick ∧ s.power ≠ .halt))) | _ => false)) = true := by
  decide

theorem wit_calVisitComplete :
    (let s : State := ((fun (s : State) => { s with afe := { s.afe with pass := some (default, true) } }) (live));
      (match s.afe.pass with | some (u, true) => (decide (¬(u = 12 ∧ s.afe.spare.isSome = true))) | _ => false)) = true := by
  decide

theorem wit_calVisitAbort :
    (let h : Fin 2 := 0; let s : State := { live with afe := { pass := some (1, true), visitAt := 600000000000, visitMis := Vector.replicate 2 8 } };
      (match s.afe.pass with | some (u, true) => (decide ((s.halfVisit h = true ∧ 8 ≤ s.afe.visitMis.get h))) | _ => false)) = true ∧
    (let h : Fin 2 := 0; let s : State := ((fun (s : State) => { s with afe := { s.afe with pass := some (default, true) } }) (live));
      (match s.afe.pass with | some (u, true) => (decide (¬(s.halfVisit h = true ∧ 8 ≤ s.afe.visitMis.get h))) | _ => false)) = true ∧
    (let s : State := live; (decide (((match s.afe.pass with | some (_, true) => false | _ => true) : Bool)))) = true := by
  decide

theorem wit_calPassEnd :
    (let s : State := ((fun (s : State) => { s with afe := { s.afe with pass := some (default, false) } }) (live));
      (match s.afe.pass with | some (u, false) => (decide ((u < 15))) | _ => false)) = true ∧
    (let ppm : Int := 0;
      let s : State := { live with afe := { pass := some (15, false), passFail := 1, failRun := 2, failed := [Vector.replicate 15 (0, 0), Vector.replicate 15 (0, 0)] } };
      (match s.afe.pass with | some (u, false) => (decide (¬(u < 15)) && (decide ((let refs := decide (ppm.natAbs ≤ 500); let units := (if refs then s.afe.passFail else s.afe.passFail ||| 2 ^ 14); let bad := units != 0; let near := fun (x : Vector (Int × Int) 15) => (List.finRange 15).all (fun i => coefNear (x.get i) (s.afe.found.get i)); let between := (match s.afe.failed with | x :: y :: _ => near x && near y && (List.finRange 15).all (fun i => coefNear (x.get i) (y.get i)) | _ => false); let take := bad && decide (2 ≤ s.afe.failRun) && between && refs; take)))) | _ => false)) = true ∧
    (let ppm : Int := 0; let s : State := { live with afe := { pass := some (15, false) } };
      (match s.afe.pass with | some (u, false) => (decide (¬(u < 15)) && (decide (¬(let refs := decide (ppm.natAbs ≤ 500); let units := (if refs then s.afe.passFail else s.afe.passFail ||| 2 ^ 14); let bad := units != 0; let near := fun (x : Vector (Int × Int) 15) => (List.finRange 15).all (fun i => coefNear (x.get i) (s.afe.found.get i)); let between := (match s.afe.failed with | x :: y :: _ => near x && near y && (List.finRange 15).all (fun i => coefNear (x.get i) (y.get i)) | _ => false); let take := bad && decide (2 ≤ s.afe.failRun) && between && refs; take)))) | _ => false)) = true ∧
    (let s : State := live; (decide (((match s.afe.pass with | some (_, false) => false | _ => true) : Bool)))) = true := by
  decide

theorem wit_spareChangeover :
    (let n : Fin 8 := 0; let toSpare : Bool := true;
      let s : State := ((fun (s : State) => { s with afe := { s.afe with spare := some (default, default) } }) (live));
      (decide (toSpare) && (match s.afe.spare with | some (m, t) => (decide ((let pos := s.get AFE_INT_STAT_SPARE_POS; m = n.val ∧ pos = 0xF ∧ t + 1000 ≤ s.tick))) | _ => false))) = true ∧
    (let n : Fin 8 := 0; let toSpare : Bool := true;
      let s : State := ((fun (s : State) => { s with afe := { s.afe with spare := some (default, default) } }) (State.reset));
      (decide (toSpare) && (match s.afe.spare with | some (m, t) => (decide (¬(let pos := s.get AFE_INT_STAT_SPARE_POS; m = n.val ∧ pos = 0xF ∧ t + 1000 ≤ s.tick))) | _ => false))) = true ∧
    (let toSpare : Bool := true; let s : State := live; (decide (toSpare) && (decide ((s.afe.spare = none))))) = true ∧
    (let n : Fin 8 := 0; let toSpare : Bool := false; let s : State := live.set AFE_INT_STAT_SPARE_POS 0; (decide (¬toSpare) &&
      (decide ((let pos := s.get AFE_INT_STAT_SPARE_POS; pos = n.val))))) = true ∧
    (let n : Fin 8 := 0; let toSpare : Bool := false; let s : State := live; (decide (¬toSpare) && (decide (¬(let pos := s.get AFE_INT_STAT_SPARE_POS;
      pos = n.val))))) = true := by
  decide

theorem wit_diodeConversion :
    (let ch : Fin 28 := 0; let res : DiodeResult := .openCircuit; let s : State := (live.set AFE_RD_CH_EN 0xFFFFFFF).set THM_MAP_GROUP 7 0;
      (decide ((s.diodeNext = some ch.val)) && (decide ((let s := (s.diode ch res).diodeStep ch; let ch : Nat := ch.val;
      let g := s.get THM_MAP_GROUP (if ch < 12 then ch else ch - 8); (12 ≤ ch ∧ ch < 20) ∨ 6 ≤ g))))) = true ∧
    (let ch : Fin 28 := 0; let res : DiodeResult := .openCircuit; let s : State := (live.set AFE_RD_CH_EN 0xFFFFFFF).set THM_MAP_GROUP 0 0;
      (decide ((s.diodeNext = some ch.val)) && (decide (¬(let s := (s.diode ch res).diodeStep ch; let ch : Nat := ch.val;
      let g := s.get THM_MAP_GROUP (if ch < 12 then ch else ch - 8); (12 ≤ ch ∧ ch < 20) ∨ 6 ≤ g))))) = true ∧
    (let ch : Fin 28 := 0; let s : State := live; (decide (¬(s.diodeNext = some ch.val)))) = true := by
  decide

theorem wit_afeMeansUpdate :
    (let s : State := State.reset; (decide (s.boot.g.isNone))) = true ∧
    (let s : State := live; (decide (¬s.boot.g.isNone))) = true ∧
    (let s : State := live; (decide (s.boot.g.isSome = true))) = true := by
  decide

/-! #### LoopCommands -/

theorem wit_loopSampleRequest :
    (let n : Fin 64 := 0; let fine : Fin 50 := 0;
      let s : State := { (live.setB LPE_CTRL_EN true) with lpe := { slots := Vector.replicate 64 { cfg := 1 } } };
      (decide ((let tau := s.pairFine fine.val; let x := s.slot n;
      s.on LPE_CTRL_EN && s.boot.g.isSome && s.slotActive n && decide ((tau - x.phase) % ((max 1 x.period : Nat) : Int) = 0))))) = true ∧
    (let n : Fin 64 := 0; let fine : Fin 50 := 0; let s : State := live; (decide (¬(let tau := s.pairFine fine.val; let x := s.slot n;
      s.on LPE_CTRL_EN && s.boot.g.isSome && s.slotActive n && decide ((tau - x.phase) % ((max 1 x.period : Nat) : Int) = 0))))) = true := by
  decide

theorem wit_coefWindowWrite :
    (let r : Requester := .spi; let off : Fin 0x10000 := 0; let s : State := ovr (stagedBase + 0);
      (decide (s.mayWrite r (stagedBase + off.val) = true) && (decide ((let off : Nat := off.val; coefSpot off = .word)) &&
      (decide ((let s := s.touch r; let off : Nat := off.val; let k : Nat := stagedBase + off; s.overruled r k)))))) = true ∧
    (let r : Requester := .policy; let off : Fin 0x10000 := 0; let s : State := live; (decide (s.mayWrite r (stagedBase + off.val) = true) &&
      (decide ((let off : Nat := off.val; coefSpot off = .word)) && (decide (¬(let s := s.touch r; let off : Nat := off.val;
      let k : Nat := stagedBase + off; s.overruled r k)))))) = true ∧
    (let r : Requester := .spi; let off : Fin 0x10000 := 0x3F0; let s : State := live; (decide (s.mayWrite r (stagedBase + off.val) = true) &&
      (decide (¬(let off : Nat := off.val; coefSpot off = .word))))) = true := by
  decide

theorem wit_lpeAdmit :
    (let r : Requester := .spi;
      let s : State := { live with lpe := { admission := some { at_ := 0, adds := false, regs := [], mem := [], tune := false, vcore := 0, forced := none } } };
      (decide (s.mayWrite r LPE_CMD_ADMIT.addr = true) &&
      (decide (((match (let s := s.touch r; s.lpe.admission) with | some _ => true | _ => false) : Bool))))) = true ∧
    (let r : Requester := .policy; let s : State := live; (decide (s.mayWrite r LPE_CMD_ADMIT.addr = true) && (decide (((let s := s.touch r;
      s.lpe.admission) = none))))) = true := by
  decide

theorem wit_admissionComplete :
    (let s : State := live; (decide ((s.lpe.admission = none)))) = true ∧
    (let s : State := { live with lpe := { admission := some { at_ := 0, adds := false, regs := [], mem := [], tune := false, vcore := 0, forced := none } } };
      (match s.lpe.admission with | some a => (decide ((!a.adds ∨ s.tb.settleAt ≤ s.tick))) | _ => false)) = true ∧
    (let s : State := { live with lpe := { admission := some { at_ := 0, adds := true, regs := [], mem := [], tune := false, vcore := 0, forced := none } }, tb := { settleAt := 600000000001 } };
      (match s.lpe.admission with | some a => (decide (¬(!a.adds ∨ s.tb.settleAt ≤ s.tick))) | _ => false)) = true := by
  decide

theorem wit_lpeDiscard :
    (let r : Requester := .policy; let s : State := live; (decide (s.mayWrite r LPE_CMD_DISCARD.addr = true))) = true := by
  decide

theorem wit_laneTest :
    (let r : Requester := .policy; let s : State := live; (decide (s.mayWrite r LPE_CMD_LANE_TEST.addr = true))) = true := by
  decide

theorem wit_laneSelfTest :
    (let k : Fin 5 := 0; let s : State := live; (decide ((s.lpe.testAt.get k + 10000000 ≤ s.tick)) &&
      (decide ((s.get LPE_LANE_ROLE k.val ≠ 2))))) = true ∧
    (let k : Fin 5 := 0; let s : State := live.set LPE_LANE_ROLE (2) (k.val); (decide ((s.lpe.testAt.get k + 10000000 ≤ s.tick)) &&
      (decide (¬(s.get LPE_LANE_ROLE k.val ≠ 2))))) = true ∧
    (let k : Fin 5 := 0; let s : State := State.reset; (decide (¬(s.lpe.testAt.get k + 10000000 ≤ s.tick)))) = true := by
  decide

theorem wit_loopClearFault :
    (let r : Requester := .policy; let n : Fin 64 := 0; let s : State := live.setB LPS_STAT_FAULT true (n.val);
      (decide (s.mayWrite r LPE_SLOT_CMD_CLEAR_FAULT.addr = true) && (decide ((let s := s.touch r; let s := s.set LPE_SLOT_CMD_SLOT n.val;
      s.on LPS_STAT_FAULT n.val))))) = true ∧
    (let r : Requester := .policy; let n : Fin 64 := 0; let s : State := live; (decide (s.mayWrite r LPE_SLOT_CMD_CLEAR_FAULT.addr = true) &&
      (decide (¬(let s := s.touch r; let s := s.set LPE_SLOT_CMD_SLOT n.val; s.on LPS_STAT_FAULT n.val))))) = true := by
  decide

theorem wit_loopResetState :
    (let r : Requester := .policy; let n : Fin 64 := 0; let s : State := live; (decide (s.mayWrite r LPE_SLOT_CMD_RESET_STATE.addr = true) &&
      (decide ((let s := s.touch r; let s := s.set LPE_SLOT_CMD_SLOT n.val; s.on LPS_STAT_FAULT n.val || !s.slotActive n))))) = true ∧
    (let r : Requester := .spi; let n : Fin 64 := 0; let s : State := { live with lpe := { slots := Vector.replicate 64 { cfg := 1 } } };
      (decide (s.mayWrite r LPE_SLOT_CMD_RESET_STATE.addr = true) && (decide (¬(let s := s.touch r; let s := s.set LPE_SLOT_CMD_SLOT n.val;
      s.on LPS_STAT_FAULT n.val || !s.slotActive n))))) = true := by
  decide

theorem wit_coefCrcCheck :
    (let s : State := oddS; (decide ((s.tick % 1000 ≠ 0)))) = true ∧
    (let bad : BitVec 64 := 1; let s : State := { live with lpe := { slots := Vector.replicate 64 { cfg := 1 } } }; (decide (¬(s.tick % 1000 ≠ 0)) &&
      (decide ((let hit := (List.finRange 64).any (fun n => bad.getLsbD n.val && s.slotActive n); hit))))) = true ∧
    (let bad : BitVec 64 := 0; let s : State := live; (decide (¬(s.tick % 1000 ≠ 0)) &&
      (decide (¬(let hit := (List.finRange 64).any (fun n => bad.getLsbD n.val && s.slotActive n); hit))))) = true ∧
    (let bad : BitVec 64 := 0; let s : State := live; (decide (s.tick % 1000 = 0) &&
      (decide ((List.finRange 64).any (fun n => bad.getLsbD n.val && s.slotActive n) = false)))) = true := by
  decide

/-! #### TunerCommands -/

theorem wit_tuneStart :
    (let r : Requester := .policy; let s : State := live; (decide (s.mayWrite r LPT_CMD_TUNE_START.addr = true) && (decide (¬(let s := s.touch r;
      s.tuneMayStart))))) = true := by
  decide

theorem wit_tuneAbort :
    (let r : Requester := .policy; let s : State := live.set LPT_TUNE_STAT_STATE (1); (decide (s.mayWrite r LPT_CMD_TUNE_ABORT.addr = true) &&
      (decide ((let s := s.touch r; s.tuneState = 1))))) = true ∧
    (let r : Requester := .policy; let s : State := live.set LPT_TUNE_STAT_STATE (2); (decide (s.mayWrite r LPT_CMD_TUNE_ABORT.addr = true) &&
      (decide (¬(let s := s.touch r; s.tuneState = 1)) && (decide ((let s := s.touch r; s.tuneState = 2)))))) = true ∧
    (let r : Requester := .policy; let s : State := live; (decide (s.mayWrite r LPT_CMD_TUNE_ABORT.addr = true) && (decide (¬(let s := s.touch r;
      s.tuneState = 1)) && (decide (¬(let s := s.touch r; s.tuneState = 2)))))) = true := by
  decide

theorem wit_tuneApply :
    (let r : Requester := .policy; let s : State := live; (decide (s.mayWrite r LPT_CMD_TUNE_APPLY.addr = true) && (decide ((let s := s.touch r;
      s.tuneState ≠ 2))))) = true ∧
    (let r : Requester := .policy; let s : State := live.set LPT_TUNE_STAT_STATE (2); (decide (s.mayWrite r LPT_CMD_TUNE_APPLY.addr = true) &&
      (decide (¬(let s := s.touch r; s.tuneState ≠ 2)) && (decide ((let s := s.touch r;
      (List.finRange 64).any (fun n => s.slotStaged n))))))) = true ∧
    (let r : Requester := .policy; let s : State := State.reset.set LPT_TUNE_STAT_STATE (2); (decide (s.mayWrite r LPT_CMD_TUNE_APPLY.addr = true) &&
      (decide (¬(let s := s.touch r; s.tuneState ≠ 2)) && (decide (¬(let s := s.touch r;
      (List.finRange 64).any (fun n => s.slotStaged n))))))) = true := by
  decide

theorem wit_tuneRepropose :
    (let r : Requester := .policy; let s : State := live; (decide (s.mayWrite r LPT_CMD_TUNE_REPROPOSE.addr = true))) = true := by
  decide

theorem wit_relayTimeout :
    (let s : State := ((fun (s : State) => { s with lpt := { s.lpt with tune := { s.lpt.tune with u0 := some 0 } } }) (live.set LPT_TUNE_STAT_STATE (1)));
      (decide ((s.tuneState = 1 ∧ s.lpt.tune.u0.isSome ∧ s.lpt.tune.began + 1000 * s.get LPT_TUNE_CFG_TMAX ≤ s.tick)))) = true ∧
    (let s : State := live; (decide (¬(s.tuneState = 1 ∧ s.lpt.tune.u0.isSome ∧ s.lpt.tune.began + 1000 * s.get LPT_TUNE_CFG_TMAX ≤ s.tick)))) = true := by
  decide

theorem wit_lineCrossing :
    (let s : State := State.reset; (decide ((!s.on LPT_LP_CTRL_EN ∨ s.boot.g.isNone)))) = true ∧
    (let k : Fin 3 := 2; let fine : Fin 50 := 0; let s : State := live;
      (decide (¬(!s.on LPT_LP_CTRL_EN ∨ s.boot.g.isNone)) && (match s.crossing k fine with | some t => true | _ => false))) = true ∧
    (let k : Fin 3 := 0; let fine : Fin 50 := 0; let s : State := live; (decide (¬(!s.on LPT_LP_CTRL_EN ∨ s.boot.g.isNone)) &&
      (decide ((s.crossing k fine = none))))) = true ∧
    (let k : Fin 3 := 2; let fine : Fin 50 := 0; let s : State := live; (decide (s.on LPT_LP_CTRL_EN = true) &&
      (decide (s.boot.g.isSome = true) && (match s.crossing k fine with | some t0 => true | _ => false)))) = true := by
  decide

theorem wit_lineSourceLost :
    (let k : Fin 3 := 0; let s : State := live.setB LPT_LP_STAT_A_PRESENT true; (decide ((let x := s.lpt.line.src.get k;
      let overdue := (match x.last with | none => true | some t => decide (t + 50 * 33334 ≤ 50 * s.tick));
      s.on (sourcePresent k) && (k == 2 || overdue))))) = true ∧
    (let k : Fin 3 := 0; let s : State := live; (decide (¬(let x := s.lpt.line.src.get k;
      let overdue := (match x.last with | none => true | some t => decide (t + 50 * 33334 ≤ 50 * s.tick));
      s.on (sourcePresent k) && (k == 2 || overdue))))) = true := by
  decide

theorem wit_flywheelEnd :
    (let s : State := ((fun (s : State) => { s with lpt := { s.lpt with line := { s.lpt.line with flyEnd := some 0 } } }) (live));
      (decide ((s.due s.lpt.line.flyEnd)) && (decide ((let s := (s.setB LPT_LP_STAT_FLYWHEEL false).setLine { s.lpt.line with flyEnd := none };
      s.lineFreq = 0))))) = true ∧
    (let s : State := (((fun (s : State) => { s with lpt := { s.lpt with line := { s.lpt.line with flyEnd := some 0 } } }) (live))).set LPT_LP_FREQ_FREQ ((0) + 1);
      (decide ((s.due s.lpt.line.flyEnd)) && (decide (¬(let s := (s.setB LPT_LP_STAT_FLYWHEEL false).setLine { s.lpt.line with flyEnd := none };
      s.lineFreq = 0))))) = true ∧
    (let s : State := live; (decide (¬(s.due s.lpt.line.flyEnd)))) = true ∧
    (let s : State := ((fun (s : State) => { s with lpt := { s.lpt with line := { s.lpt.line with flyEnd := some 0 } } }) (live));
      (decide (s.due s.lpt.line.flyEnd = true))) = true := by
  decide

theorem wit_lptTblCommit :
    (let r : Requester := .policy; let banks : BitVec 8 := 0; let s : State := live; (decide (s.mayWrite r LPT_CMD_TBL_COMMIT.addr = true) &&
      (decide ((let s := s.touch r; let m : Nat := banks.toNat; let x := s.lpt.line;
      let s := s.setLine { x with pending := Vector.ofFn (fun b => x.pending.get b || m.testBit b.val) }; s.fadeFactor = 0))))) = true ∧
    (let r : Requester := .spi; let banks : BitVec 8 := 1; let s : State := { live with lpt := { line := { fade := 1 } } };
      (decide (s.mayWrite r LPT_CMD_TBL_COMMIT.addr = true) && (decide (¬(let s := s.touch r; let m : Nat := banks.toNat; let x := s.lpt.line;
      let s := s.setLine { x with pending := Vector.ofFn (fun b => x.pending.get b || m.testBit b.val) }; s.fadeFactor = 0))))) = true := by
  decide

theorem wit_tblSwap :
    (let s : State := { live with lpt := { line := { pending := Vector.replicate 8 true, fade := 0 } } };
      (decide ((s.lpt.line.pending.toList.any id && (s.fadeFactor == 0 || decide (s.linePhase < s.lineFreq)))))) = true ∧
    (let s : State := live; (decide (¬(s.lpt.line.pending.toList.any id && (s.fadeFactor == 0 || decide (s.linePhase < s.lineFreq)))))) = true := by
  decide

theorem wit_tblDataAccess :
    (let r : Requester := .spi; let write : Option Word := some 0; let s : State := live;
      (decide (((match write with | some _ => true | _ => false) : Bool)) && (decide (s.mayWrite r LPT_TBL_DATA_DATA.addr = true)))) = true ∧
    (let r : Requester := .policy; let write : Option Word := none; let s : State := live; (decide ((write = none)) &&
      (decide (s.mayRead r LPT_TBL_DATA_DATA.addr = true)))) = true := by
  decide

theorem wit_tblCrcCheck :
    (let s : State := State.reset; (decide ((s.tick % 1000 ≠ 0 ∨ s.boot.g.isNone)))) = true ∧
    (let s : State := live; (decide (¬(s.tick % 1000 ≠ 0 ∨ s.boot.g.isNone)))) = true := by
  decide

theorem wit_rcClear :
    (let r : Requester := .policy; let s : State := live; (decide (s.mayWrite r LPT_CMD_RC_CLEAR.addr = true))) = true := by
  decide

theorem wit_rcFadeEnd :
    (let k : Fin 4 := 0; let s : State := live; (decide (((s.rc k).fading = none)))) = true ∧
    (let k : Fin 4 := 0; let s : State := { live with lpt := { rc := Vector.replicate 4 { fading := some (0, 0, 0) } } };
      (match (s.rc k).fading with | some q => (decide ((let n := max 1 (s.get LPT_RC_CFG_N k.val); q.2.2 < n))) | _ => false)) = true ∧
    (let k : Fin 4 := 0; let s : State := { live with lpt := { rc := Vector.replicate 4 { fading := some (0, 0, 100000) } } };
      (match (s.rc k).fading with | some q => (decide (¬(let n := max 1 (s.get LPT_RC_CFG_N k.val); q.2.2 < n))) | _ => false)) = true := by
  decide

/-! #### PhaseCommands -/

theorem wit_phaseCycleStart :
    (let n : Fin 16 := 0; let fine : Fin 50 := 0; let step : Fin 308 := 0; let s : State := startS.set CNV_GRP_STAT_STATE 2 0;
      (decide ((let t := s.edgeTime fine step; let s := s.phaseTo n t; let g := s.get PWM_PH_CFG_GROUP n.val;
      let s' := s.setB PWM_PH_STAT_ACTIVE true n.val; let off := s'.offsetOf (s'.rankOf n) (s'.nAct g);
      let grid := (t - off) % ((max 1 s.cnv.period * 308 : Nat) : Int);
      s.phaseUsable n && s.groupUp g && !s.on PWM_PH_STAT_SHED n.val && s.outputsOn && decide (grid = 0) && s.startDue n off t && s.startFree n g t)))) = true ∧
    (let n : Fin 16 := 0; let fine : Fin 50 := 0; let step : Fin 308 := 0; let s : State := live; (decide (¬(let t := s.edgeTime fine step;
      let s := s.phaseTo n t; let g := s.get PWM_PH_CFG_GROUP n.val; let s' := s.setB PWM_PH_STAT_ACTIVE true n.val;
      let off := s'.offsetOf (s'.rankOf n) (s'.nAct g); let grid := (t - off) % ((max 1 s.cnv.period * 308 : Nat) : Int);
      s.phaseUsable n && s.groupUp g && !s.on PWM_PH_STAT_SHED n.val && s.outputsOn && decide (grid = 0) && s.startDue n off t && s.startFree n g t)))) = true := by
  decide

theorem wit_peakComparatorTrip :
    (let n : Fin 16 := 0; let s : State := { live with cnv := { phases := Vector.replicate 16 { bound := some 5 } } };
      (match (let x := s.phase n; x.bound) with | some b => true | _ => false)) = true ∧
    (let n : Fin 16 := 0; let s : State := live.setB PWM_PH_STAT_DE true (n.val); (decide (((let x := s.phase n; x.bound) = none)) &&
      (decide ((s.on PWM_PH_STAT_DE n.val))))) = true ∧
    (let n : Fin 16 := 0; let s : State := live; (decide (((let x := s.phase n; x.bound) = none)) && (decide (¬(s.on PWM_PH_STAT_DE n.val))))) = true := by
  decide

theorem wit_dpwmRecal :
    (let s : State := oddS; (decide ((s.tick % 1000 ≠ 0 ∨ s.tb.onCheck)))) = true ∧
    (let steps : Nat := 300; let s : State := live; (decide (¬(s.tick % 1000 ≠ 0 ∨ s.tb.onCheck)) && (decide ((280 ≤ steps ∧ steps ≤ 340))))) = true ∧
    (let steps : Nat := 0; let s : State := live; (decide (¬(s.tick % 1000 ≠ 0 ∨ s.tb.onCheck)) && (decide (¬(280 ≤ steps ∧ steps ≤ 340))))) = true ∧
    (let steps : Nat := 300; let s : State := live; (decide (s.tick % 1000 = 0) && (decide (s.tb.onCheck = false) && (decide (280 ≤ steps) &&
      (decide (steps ≤ 340)))))) = true := by
  decide

theorem wit_pwmPeriodApply :
    (let s : State := live; (decide ((s.tick % 1000 = 0)))) = true ∧
    (let s : State := oddS; (decide (¬(s.tick % 1000 = 0)))) = true := by
  decide

theorem wit_groupSoftstart :
    (let g : Fin 2 := 0; let s : State := startS; (decide ((s.mayStart g.val)) && (decide ((let alone := !s.groupUp (1 - g.val); alone))))) = true ∧
    (let g : Fin 2 := 0; let s : State := startS.set CNV_GRP_STAT_STATE 2 1; (decide ((s.mayStart g.val)) &&
      (decide (¬(let alone := !s.groupUp (1 - g.val); alone))))) = true ∧
    (let g : Fin 2 := 0; let s : State := live; (decide (¬(s.mayStart g.val)))) = true := by
  decide

theorem wit_shortDetect :
    (let g : Fin 2 := 0; let s : State := { startS.set CNV_GRP_STAT_STATE 2 0 with cnv := { groups := Vector.replicate 2 { shortSince := some 0 } } };
      (decide ((s.groupUp g.val ∧ (match (s.group g).shortSince with | some t => decide (t + s.get CNV_FB_TIME_FB_TIME ≤ s.tick) | none => false) = true)))) = true ∧
    (let g : Fin 2 := 0; let s : State := live;
      (decide (¬(s.groupUp g.val ∧ (match (s.group g).shortSince with | some t => decide (t + s.get CNV_FB_TIME_FB_TIME ≤ s.tick) | none => false) = true)))) = true := by
  decide

theorem wit_groupRetryExpiry :
    (let g : Fin 2 := 0; let s : State := live.set CNV_GRP_STAT_STATE (3) (g.val);
      (decide ((s.groupState g.val = 3 ∧ (s.group g).since + 1000 * s.get CNV_RETRY_RETRY_MS ≤ s.tick)))) = true ∧
    (let g : Fin 2 := 0; let s : State := live;
      (decide (¬(s.groupState g.val = 3 ∧ (s.group g).since + 1000 * s.get CNV_RETRY_RETRY_MS ≤ s.tick)))) = true := by
  decide

theorem wit_groupRetryReset :
    (let g : Fin 2 := 0; let s : State := live.set CNV_GRP_STAT_STATE (2) (g.val);
      (decide ((s.groupState g.val = 2 ∧ (s.group g).retried + 60000000 ≤ s.tick)))) = true ∧
    (let g : Fin 2 := 0; let s : State := live; (decide (¬(s.groupState g.val = 2 ∧ (s.group g).retried + 60000000 ≤ s.tick)))) = true := by
  decide

theorem wit_clearG :
    (let r : Requester := .spi; let g : Fin 2 := 0; let s : State := live.set CNV_GRP_STAT_STATE 3 0;
      (decide (s.mayWrite r CNV_CMD_CLEAR_G0.addr = true) && (decide ((let s := s.touch r;
      let s := s.each (s.groupPhases g.val) (fun s n => (s.setB PWM_PH_STAT_FAULT false n.val).set PWM_PH_STAT_CAUSE 0 n.val);
      3 ≤ s.groupState g.val))))) = true ∧
    (let r : Requester := .policy; let g : Fin 2 := 0; let s : State := live; (decide (s.mayWrite r CNV_CMD_CLEAR_G0.addr = true) &&
      (decide (¬(let s := s.touch r;
      let s := s.each (s.groupPhases g.val) (fun s n => (s.setB PWM_PH_STAT_FAULT false n.val).set PWM_PH_STAT_CAUSE 0 n.val);
      3 ≤ s.groupState g.val))))) = true := by
  decide

theorem wit_shedWindowExpiry :
    (let g : Fin 2 := 0; let s : State := live; (decide (((let x := s.group g; x.shedSince) = none)))) = true ∧
    (let g : Fin 2 := 0; let s : State := (((shedS.setB PWM_PH_CFG_EN true 0).setB PWM_PH_CFG_EN true 1).set CNV_SHED_MIN_PH 1);
      (match (let x := s.group g; x.shedSince) with | some t => (decide ((s.shedPermitted g.val ∧ t + 1000 * s.get CNV_SHED_SHED_MS ≤ s.tick)) && (decide ((let x := s.group g; let s := s.setGroup g { x with shedSince := some s.tick }; s.nOwn g.val ≤ s.get CNV_SHED_MIN_PH)))) | _ => false)) = true ∧
    (let g : Fin 2 := 0;
      let s : State := ((((shedS.setB PWM_PH_CFG_EN true 0).setB PWM_PH_CFG_EN true 1).set CNV_SHED_MIN_PH 1).setB PWM_PH_STAT_ACTIVE true 0).setB PWM_PH_STAT_ACTIVE true 1;
      (match (let x := s.group g; x.shedSince) with | some t => (decide ((s.shedPermitted g.val ∧ t + 1000 * s.get CNV_SHED_SHED_MS ≤ s.tick)) && (decide (¬(let x := s.group g; let s := s.setGroup g { x with shedSince := some s.tick }; s.nOwn g.val ≤ s.get CNV_SHED_MIN_PH)) && (match (let x := s.group g; let s := s.setGroup g { x with shedSince := some s.tick }; s.shedPick g.val) with | some n => true | _ => false))) | _ => false)) = true ∧
    (let g : Fin 2 := 0; let s : State := shedS.setB CNV_CTRL_SHED_EN false;
      (match (let x := s.group g; x.shedSince) with | some t => (decide (¬(s.shedPermitted g.val ∧ t + 1000 * s.get CNV_SHED_SHED_MS ≤ s.tick))) | _ => false)) = true := by
  decide

theorem wit_phaseUnshed :
    (let g : Fin 2 := 0; let s : State := ((shedS.setI CNV_DEM_D 100000 0).set CNV_PH_LIM_LIM 1); (decide ((let x := s.group g;
      let free := (match x.lastUnshed with | none => true | some t => decide (t + 10 ≤ s.tick));
      free && s.shedPermitted g.val && !s.shareBelow g.val (s.get CNV_SHED_ADD_HI))) && (decide ((s.unshedPick g.val = none))))) = true ∧
    (let g : Fin 2 := 0; let s : State := (((shedS.setI CNV_DEM_D 100000 0).set CNV_PH_LIM_LIM 1).setB PWM_PH_STAT_SHED true 0);
      (decide ((let x := s.group g; let free := (match x.lastUnshed with | none => true | some t => decide (t + 10 ≤ s.tick));
      free && s.shedPermitted g.val && !s.shareBelow g.val (s.get CNV_SHED_ADD_HI))) && (match s.unshedPick g.val with | some n => true | _ => false))) = true ∧
    (let g : Fin 2 := 0; let s : State := live; (decide (¬(let x := s.group g;
      let free := (match x.lastUnshed with | none => true | some t => decide (t + 10 ≤ s.tick));
      free && s.shedPermitted g.val && !s.shareBelow g.val (s.get CNV_SHED_ADD_HI))))) = true := by
  decide

theorem wit_deEnter :
    (let n : Fin 16 := 0;
      let s : State := { (((shedS.setB CNV_CTRL_DE_EN true).setB PWM_PH_CFG_DE_EN true 0).setB PWM_PH_STAT_ACTIVE true 0) with cnv := { phases := Vector.replicate 16 { deRun := 10 } } };
      (decide ((s.dePermitted n && s.on PWM_PH_STAT_ACTIVE n.val && !s.on PWM_PH_STAT_DE n.val && decide (10 ≤ (s.phase n).deRun))))) = true ∧
    (let n : Fin 16 := 0; let s : State := live;
      (decide (¬(s.dePermitted n && s.on PWM_PH_STAT_ACTIVE n.val && !s.on PWM_PH_STAT_DE n.val && decide (10 ≤ (s.phase n).deRun))))) = true := by
  decide

theorem wit_slew :
    (let r : Requester := .policy; let s : State := live; (decide (s.mayWrite r CNV_CMD_SLEW.addr = true))) = true := by
  decide

theorem wit_slewComplete :
    (let s : State := { reachS with cnv := { reachS.cnv with slew := some 1 } };
      (match s.cnv.slew with | some y => (match s.cnv.seg with | some x => (decide ((x.t < s.tick ∧ s.refReached))) | _ => false) | _ => false)) = true ∧
    (let s : State := live; (decide (s.cnv.slew = none ∨ s.cnv.seg = none ∨ (∃ x, s.cnv.seg = some x ∧ ¬(x.t < s.tick ∧ s.refReached = true))))) = true := by
  decide

theorem wit_referenceReachesTarget :
    (let s : State := reachS; (decide (s.refReached))) = true ∧
    (let s : State := live; (decide (¬s.refReached))) = true := by
  decide

/-! #### AllFireCommands -/

theorem wit_fireEnd :
    (let g : Fin 2 := 0; let s : State := ((fun (s : State) => s.setGroup g { s.group g with firing := true }) (live));
      (decide ((let s := s.each (s.groupPhases g.val) (fun s n => s.phaseTo n (s.pairFine 50 * 308));
      (s.group g).firing && (s.groupPhases g.val).all (fun n => (s.phase n).fired == 0 && (!s.on PWM_PH_STAT_FIRING n.val || (s.phase n).bound.isNone)))))) = true ∧
    (let g : Fin 2 := 0; let s : State := live; (decide (¬(let s := s.each (s.groupPhases g.val) (fun s n => s.phaseTo n (s.pairFine 50 * 308));
      (s.group g).firing && (s.groupPhases g.val).all (fun n => (s.phase n).fired == 0 && (!s.on PWM_PH_STAT_FIRING n.val || (s.phase n).bound.isNone)))))) = true := by
  decide

theorem wit_floorHoldEnd :
    (let g : Fin 2 := 0; let s : State := { live with cnv := { groups := Vector.replicate 2 { floor := some (0, 0, false) } } };
      (match (let x := s.group g; x.floor) with | some (f, t, false) => (decide ((t + s.get CNV_AF_RUN_HOLD_US ≤ s.tick))) | _ => false)) = true ∧
    (let g : Fin 2 := 0; let s : State := { live with cnv := { groups := Vector.replicate 2 { floor := some (0, 600000000000, false) } } };
      (match (let x := s.group g; x.floor) with | some (f, t, false) => (decide (¬(t + s.get CNV_AF_RUN_HOLD_US ≤ s.tick))) | _ => false)) = true ∧
    (let g : Fin 2 := 0; let s : State := live;
      (decide (((match (let x := s.group g; x.floor) with | some (_, _, false) => false | _ => true) : Bool)))) = true := by
  decide

theorem wit_floorRampEnd :
    (let g : Fin 2 := 0; let s : State := ((fun (s : State) => s.setGroup g { s.group g with floor := some (default, default, true) }) (live));
      (match (s.group g).floor with | some (f, t, true) => (decide (t + 2 * s.get CNV_AF_RUN_HOLD_US ≤ s.tick)) | _ => false)) = true := by
  decide

theorem wit_allfireLockoutEnd :
    (let g : Fin 2 := 0; let s : State := ((fun (s : State) => s.setGroup g { s.group g with lockEnd := some 0 }) (live)); (decide ((let x := s.group g;
      s.due x.lockEnd)))) = true ∧
    (let g : Fin 2 := 0; let s : State := live; (decide (¬(let x := s.group g; s.due x.lockEnd)))) = true := by
  decide

/-! #### SharingCommands -/

theorem wit_trimCycle :
    (let s : State := State.reset; (decide ((s.tick % 5000 ≠ 0 ∨ s.boot.g.isNone ∨ s.shr.cycle = some (s.tick / 5000) ∨ s.unitRole = 3)))) = true ∧
    (let s : State := live; (decide (¬(s.tick % 5000 ≠ 0 ∨ s.boot.g.isNone ∨ s.shr.cycle = some (s.tick / 5000) ∨ s.unitRole = 3)))) = true := by
  decide

theorem wit_rectBind :
    (let n : Fin 24 := 0; let e : Fin 1024 := 0; let s : State := live.setEnt 0 2 1 2;
      (decide ((s.rectFree = some n ∧ s.entState e.val ≠ 0 ∧ s.ent e.val 0x1C 2 = 0)))) = true ∧
    (let n : Fin 24 := 0; let e : Fin 1024 := 0; let s : State := live;
      (decide (¬(s.rectFree = some n ∧ s.entState e.val ≠ 0 ∧ s.ent e.val 0x1C 2 = 0)))) = true := by
  decide

theorem wit_rectStandbyCheck :
    (let n : Fin 24 := 0; let s : State := live; (decide (((s.rect n).stbyAck = none)))) = true ∧
    (let n : Fin 24 := 0;
      let s : State := { (live.set SHR_RECT_STAT_STATE 3 0).setI AFE_VA_VAL 500000 with shr := { rects := Vector.replicate 24 { stbyAck := some 0, i := some (0, 0), poutMax := 1000000 } } };
      (match (s.rect n).stbyAck with | some a => (decide ((s.rectState n = 3 ∧ a + 200000 ≤ s.tick)) && (match (s.rect n).i with | some p => (decide ((a ≤ p.2 ∧ p.2 < a + 200000 ∧ s.idle2 n p.1))) | _ => false)) | _ => false)) = true ∧
    (let n : Fin 24 := 0;
      let s : State := ((fun (s : State) => s.setRect n { s.rect n with i := some default }) ((((fun (s : State) => s.setRect n { s.rect n with stbyAck := some default }) (live))).set SHR_RECT_STAT_STATE (3) (n.val)));
      (match (s.rect n).stbyAck with | some a => (decide ((s.rectState n = 3 ∧ a + 200000 ≤ s.tick)) && (match (s.rect n).i with | some p => (decide (¬(a ≤ p.2 ∧ p.2 < a + 200000 ∧ s.idle2 n p.1))) | _ => false)) | _ => false)) = true ∧
    (let n : Fin 24 := 0;
      let s : State := (((fun (s : State) => s.setRect n { s.rect n with stbyAck := some default }) (live))).set SHR_RECT_STAT_STATE (3) (n.val);
      (match (s.rect n).stbyAck with | some a => (decide ((s.rectState n = 3 ∧ a + 200000 ≤ s.tick)) && (decide (((s.rect n).i = none)))) | _ => false)) = true ∧
    (let n : Fin 24 := 0; let s : State := ((fun (s : State) => s.setRect n { s.rect n with stbyAck := some default }) (live));
      (match (s.rect n).stbyAck with | some a => (decide (¬(s.rectState n = 3 ∧ a + 200000 ≤ s.tick))) | _ => false)) = true := by
  decide

theorem wit_rectWakeTimeout :
    (let n : Fin 24 := 0; let s : State := live.set SHR_RECT_STAT_STATE (5) (n.val);
      (decide ((s.rectState n = 5 ∧ (s.rect n).since + 100000 * s.get SHR_RAMP_ON_TIMEOUT ≤ s.tick)))) = true ∧
    (let n : Fin 24 := 0; let s : State := live;
      (decide (¬(s.rectState n = 5 ∧ (s.rect n).since + 100000 * s.get SHR_RAMP_ON_TIMEOUT ≤ s.tick)))) = true := by
  decide

theorem wit_rectSilent :
    (let n : Fin 24 := 0; let s : State := live.set SHR_RECT_STAT_STATE ((6) + 1) (n.val);
      (decide ((s.rectState n ≠ 0 ∧ s.rectState n ≠ 6 ∧ (s.rect n).lastResp + 1000 * s.get SHR_TIMING_SILENT_MS ≤ s.tick)))) = true ∧
    (let n : Fin 24 := 0; let s : State := live;
      (decide (¬(s.rectState n ≠ 0 ∧ s.rectState n ≠ 6 ∧ (s.rect n).lastResp + 1000 * s.get SHR_TIMING_SILENT_MS ≤ s.tick)))) = true := by
  decide

theorem wit_rectFaultClearTimer :
    (let n : Fin 24 := 0;
      let s : State := (((fun (s : State) => s.setRect n { s.rect n with clearAt := some default }) (live))).set SHR_RECT_STAT_STATE (7) (n.val);
      (match (s.rect n).clearAt with | some t => (decide ((s.rectState n = 7 ∧ t + 1000000 ≤ s.tick))) | _ => false)) = true ∧
    (let n : Fin 24 := 0; let s : State := ((fun (s : State) => s.setRect n { s.rect n with clearAt := some default }) (live));
      (match (s.rect n).clearAt with | some t => (decide (¬(s.rectState n = 7 ∧ t + 1000000 ≤ s.tick))) | _ => false)) = true ∧
    (let n : Fin 24 := 0; let s : State := live; (decide (((s.rect n).clearAt = none)))) = true := by
  decide

theorem wit_rectUnbind :
    (let r : Requester := .policy; let s : State := live; (decide (s.mayWrite r SHR_CMD_UNBIND.addr = true))) = true := by
  decide

theorem wit_clearCurve :
    (let r : Requester := .policy; let s : State := live; (decide (s.mayWrite r SHR_CMD_CLEAR_CURVE.addr = true))) = true := by
  decide

theorem wit_allocNow :
    (let r : Requester := .policy; let s : State := live; (decide (s.mayWrite r SHR_CMD_ALLOC_NOW.addr = true))) = true := by
  decide

theorem wit_rectRetry :
    (let r : Requester := .policy; let s : State := live; (decide (s.mayWrite r SHR_CMD_RETRY.addr = true))) = true := by
  decide

theorem wit_allocationStart :
    (let s : State := pairU; (decide ((let due := decide (s.tick % 200000 = 0); !(due || s.shr.allocNow) || !s.full || !s.pairPrimary)))) = true ∧
    (let s : State := live; (decide (¬(let due := decide (s.tick % 200000 = 0); !(due || s.shr.allocNow) || !s.full || !s.pairPrimary)) &&
      (decide ((let due := decide (s.tick % 200000 = 0);
      let s := s.iff (due && s.on SHR_MODE_LEARN_EN) (fun s => s.each ((List.finRange 24).filter (fun n => s.rectState n != 0)) (fun s n => (s.learn n).showCurve n));
      let s := { s with shr := { s.shr with allocNow := false } }; !s.efficiency))))) = true ∧
    (let s : State := live.setB SHR_MODE_MODE true; (decide (¬(let due := decide (s.tick % 200000 = 0);
      !(due || s.shr.allocNow) || !s.full || !s.pairPrimary)) && (decide (¬(let due := decide (s.tick % 200000 = 0);
      let s := s.iff (due && s.on SHR_MODE_LEARN_EN) (fun s => s.each ((List.finRange 24).filter (fun n => s.rectState n != 0)) (fun s n => (s.learn n).showCurve n));
      let s := { s with shr := { s.shr with allocNow := false } }; !s.efficiency))))) = true := by
  decide

theorem wit_allocationResult :
    (let s : State := live; (decide ((s.shr.solving = none)))) = true ∧
    (let s : State := { live with shr := { solving := some { fracs := [], loss := 0, saving := 0, feasible := false, breaks := false } } };
      (match s.shr.solving with | some a => true | _ => false)) = true := by
  decide

theorem wit_curveStore :
    (let s : State := live;
      (decide ((s.shr.storedAt + 1000000 * s.get SHR_LEARN_STORE_S ≤ s.tick ∨ (s.power = .ship ∧ s.shr.storedAt < s.powerSince))))) = true ∧
    (let s : State := State.reset;
      (decide (¬(s.shr.storedAt + 1000000 * s.get SHR_LEARN_STORE_S ≤ s.tick ∨ (s.power = .ship ∧ s.shr.storedAt < s.powerSince))))) = true := by
  decide

/-! #### CapCommands -/

theorem wit_capComparison :
    (let s : State := State.reset; (decide ((s.pairTick % 10 ≠ 0 ∨ s.boot.g.isNone ∨ s.power = .ship)))) = true ∧
    (let s : State := haltS; (decide (¬(s.pairTick % 10 ≠ 0 ∨ s.boot.g.isNone ∨ s.power = .ship)) && (decide ((s.power = .halt))))) = true ∧
    (let s : State := live; (decide (¬(s.pairTick % 10 ≠ 0 ∨ s.boot.g.isNone ∨ s.power = .ship)) && (decide (¬(s.power = .halt))))) = true ∧
    (let s : State := haltS; (decide (s.pairTick % 10 = 0) && (decide (s.boot.g.isSome = true) && (decide (s.power = .halt))))) = true := by
  decide

theorem wit_caplineSlot :
    (let s : State := capS; (decide ((s.boot.g.isSome && s.ownSlot && s.capTx && decide (s.cap.lastDecision < s.tick))) &&
      (decide ((s.cap.queue = []))))) = true ∧
    (let bad : BitVec 64 := 1; let s : State := { capS with cap := { capS.cap with queue := [{ seq := 0, level := 0, mask := 0 }] } };
      (decide ((s.boot.g.isSome && s.ownSlot && s.capTx && decide (s.cap.lastDecision < s.tick))) && (match s.cap.queue with | f :: rest => (decide ((let bad : Bool := bad != 0; bad))) | _ => false))) = true ∧
    (let bad : BitVec 64 := 0; let s : State := { capS with cap := { capS.cap with queue := [{ seq := 0, level := 0, mask := 0 }] } };
      (decide ((s.boot.g.isSome && s.ownSlot && s.capTx && decide (s.cap.lastDecision < s.tick))) && (match s.cap.queue with | f :: rest => (decide (¬(let bad : Bool := bad != 0; bad))) | _ => false))) = true ∧
    (let s : State := live; (decide (¬(s.boot.g.isSome && s.ownSlot && s.capTx && decide (s.cap.lastDecision < s.tick))))) = true ∧
    (let f : CapFrame := { seq := 0, level := 0, mask := 0 }; let rest : List CapFrame := [];
      let s : State := { capS with cap := { capS.cap with queue := [{ seq := 0, level := 0, mask := 0 }] } }; (decide (s.boot.g.isSome = true) &&
      (decide (s.ownSlot = true) && (decide (s.capTx = true) && (decide (s.cap.lastDecision < s.tick) &&
      (decide (s.cap.queue = f :: rest))))))) = true := by
  decide

theorem wit_caplineFrameRx :
    (let s : State := live; (decide ((s.boot.g.isNone || s.slotMine)))) = true ∧
    (let s : State := pairU; (decide (¬(s.boot.g.isNone || s.slotMine)))) = true := by
  decide

theorem wit_capTest :
    (let r : Requester := .policy; let s : State := haltS; (decide (s.mayWrite r CAP_CMD_TEST.addr = true) && (decide ((let s := s.touch r;
      s.capL ≠ 0 ∨ s.power = .halt))))) = true ∧
    (let r : Requester := .policy; let s : State := live; (decide (s.mayWrite r CAP_CMD_TEST.addr = true) && (decide (¬(let s := s.touch r;
      s.capL ≠ 0 ∨ s.power = .halt))))) = true := by
  decide

theorem wit_probeNow :
    (let r : Requester := .policy; let s : State := live; (decide (s.mayWrite r CAP_CMD_PROBE_NOW.addr = true))) = true := by
  decide

/-! #### BatteryEstimation -/

theorem wit_batteryUpdate :
    (let s : State := State.reset; (decide ((s.tick % 10000 ≠ 0 ∨ s.boot.g.isNone)))) = true ∧
    (let s : State := live; (decide (¬(s.tick % 10000 ≠ 0 ∨ s.boot.g.isNone)))) = true := by
  decide

theorem wit_emptyEnd :
    (let n : Fin 8 := 0;
      let s : State := { (((live.setBit BAT_CFG_STR_EN 0 true).setBit BAT_CONN_EMPTY 0 true).setI BAT_STR_VSD_V_SD 0 0) with bat := { strs := Vector.replicate 8 { highSince := some 0 } }, afe := { latest := Vector.replicate 64 { code := 16383, valid := true } } };
      (decide ((s.strEmpty n && s.voltsHigh n && s.lasted (s.str n).highSince (s.sdQual n))))) = true ∧
    (let n : Fin 8 := 0; let s : State := live; (decide (¬(s.strEmpty n && s.voltsHigh n && s.lasted (s.str n).highSince (s.sdQual n))))) = true := by
  decide

theorem wit_mean2s :
    (let s : State := State.reset; (decide ((s.tick % 2000000 ≠ 0 ∨ s.tick = 0 ∨ s.boot.g.isNone ∨ s.bat.meanAt = s.tick)))) = true ∧
    (let s : State := live; (decide (¬(s.tick % 2000000 ≠ 0 ∨ s.tick = 0 ∨ s.boot.g.isNone ∨ s.bat.meanAt = s.tick)))) = true := by
  decide

theorem wit_minuteMean :
    (let s : State := State.reset; (decide ((s.tick % 60000000 ≠ 0 ∨ s.tick = 0 ∨ s.boot.g.isNone)))) = true ∧
    (let s : State := live; (decide (¬(s.tick % 60000000 ≠ 0 ∨ s.tick = 0 ∨ s.boot.g.isNone)))) = true := by
  decide

theorem wit_pertResume :
    (let s : State := ((fun (s : State) => { s with bat := { s.bat with paused := true } }) (live));
      (decide ((s.bat.paused ∧ s.bat.lowAt + 60000000 ≤ s.tick)))) = true ∧
    (let s : State := live; (decide (¬(s.bat.paused ∧ s.bat.lowAt + 60000000 ≤ s.tick)))) = true := by
  decide

theorem wit_demodWindowEnd :
    (let s : State := State.reset; (decide ((s.pairTick % 60000000 ≠ 0 ∨ s.boot.g.isNone)))) = true ∧
    (let s : State := live; (decide (¬(s.pairTick % 60000000 ≠ 0 ∨ s.boot.g.isNone)))) = true ∧
    (let s : State := live; (decide (s.pairTick % 60000000 = 0) && (decide (s.boot.g.isSome = true)))) = true := by
  decide

theorem wit_daysIncrement :
    (let n : Fin 8 := 0; let s : State := ((fun (s : State) => s.setStr n { s.str n with live := true }) (live.setBit BAT_CFG_STR_EN n.val true));
      (decide ((let x := s.str n; s.strOn n ∧ x.live = true ∧ x.dayAt + 86400000000 ≤ s.tick)))) = true ∧
    (let n : Fin 8 := 0; let s : State := live; (decide (¬(let x := s.str n; s.strOn n ∧ x.live = true ∧ x.dayAt + 86400000000 ≤ s.tick)))) = true := by
  decide

theorem wit_batRecordWrite :
    (let s : State := State.reset; (decide ((s.tick % 60000000 ≠ 0 ∨ s.tick = 0 ∨ s.boot.g.isNone)))) = true ∧
    (let s : State := live; (decide (¬(s.tick % 60000000 ≠ 0 ∨ s.tick = 0 ∨ s.boot.g.isNone)))) = true := by
  decide

/-! #### BatteryConnection -/

theorem wit_strIdConversion :
    (let n : Fin 8 := 0; let s : State := { idS with bat := { strs := Vector.replicate 8 { idRun := 5, idFound := 1 } } };
      (decide ((let m := s.afe.latest.get (Fin.ofNat 64 (48 + n.val)); let x := s.str n;
      s.strOn n && m.valid && s.get BAT_STR_CFG_ID_MODE n.val != 0 && x.idTick != some m.tick && s.idBias n)) &&
      (decide ((let m := s.afe.latest.get (Fin.ofNat 64 (48 + n.val)); let x := s.str n; let f := identify (s.get BAT_STR_CFG_ID_MODE n.val) m.code;
      let s := s.setStr n { x with idFound := f, idRun := if x.idFound = f then min 5 (x.idRun + 1) else 1, idTick := some m.tick };
      s.presenceDue n))))) = true ∧
    (let n : Fin 8 := 0; let s : State := idS; (decide ((let m := s.afe.latest.get (Fin.ofNat 64 (48 + n.val)); let x := s.str n;
      s.strOn n && m.valid && s.get BAT_STR_CFG_ID_MODE n.val != 0 && x.idTick != some m.tick && s.idBias n)) &&
      (decide (¬(let m := s.afe.latest.get (Fin.ofNat 64 (48 + n.val)); let x := s.str n;
      let f := identify (s.get BAT_STR_CFG_ID_MODE n.val) m.code;
      let s := s.setStr n { x with idFound := f, idRun := if x.idFound = f then min 5 (x.idRun + 1) else 1, idTick := some m.tick };
      s.presenceDue n))))) = true ∧
    (let n : Fin 8 := 0; let s : State := live; (decide (¬(let m := s.afe.latest.get (Fin.ofNat 64 (48 + n.val)); let x := s.str n;
      s.strOn n && m.valid && s.get BAT_STR_CFG_ID_MODE n.val != 0 && x.idTick != some m.tick && s.idBias n)))) = true ∧
    (let n : Fin 8 := 0; let s : State := { idS with bat := { strs := Vector.replicate 8 { idRun := 5, idFound := 1 } } }; (decide (s.strOn n = true) &&
      (decide ((s.afe.latest.get (Fin.ofNat 64 (48 + n.val))).valid = true) && (decide (s.get BAT_STR_CFG_ID_MODE n.val ≠ 0) &&
      (decide ((s.str n).idTick ≠ some (s.afe.latest.get (Fin.ofNat 64 (48 + n.val))).tick)))))) = true := by
  decide

theorem wit_presenceChange :
    (let n : Fin 8 := 0; let s : State := ((live.setBit BAT_CFG_STR_EN 0 true).setB BAT_STR_STAT_ID_PENDING true 0).set BAT_STR_CFG_ID_MODE 0 0;
      (decide ((s.presenceDue n)))) = true ∧
    (let n : Fin 8 := 0; let s : State := live; (decide (¬(s.presenceDue n)))) = true := by
  decide

theorem wit_batOpen :
    (let r : Requester := .spi; let n : Fin 8 := 0; let s : State := ovr (keyStr 0); (decide (s.mayWrite r BAT_CMD_OPEN.addr = true) &&
      (decide ((let s := s.touch r; s.overruled r (keyStr n.val)))))) = true ∧
    (let r : Requester := .policy; let n : Fin 8 := 0; let s : State := live; (decide (s.mayWrite r BAT_CMD_OPEN.addr = true) &&
      (decide (¬(let s := s.touch r; s.overruled r (keyStr n.val)))))) = true := by
  decide

theorem wit_batClose :
    (let r : Requester := .spi; let n : Fin 8 := 0;
      let s : State := { live with ports := { live.ports with wroteAt := live.tick, writes := [{ at_ := keyStr 0, who := 0, rank := 0, before := 0, al := 0, w := 1 }] } };
      (decide (s.mayWrite r BAT_CMD_CLOSE.addr = true) && (decide ((let s := s.touch r;
      s.wrote.any (fun x => x.at_ == keyStr n.val && x.who == who r && x.w == 1)))))) = true ∧
    (let r : Requester := .spi; let n : Fin 8 := 0; let s : State := ovr (keyStr 0); (decide (s.mayWrite r BAT_CMD_CLOSE.addr = true) &&
      (decide (¬(let s := s.touch r; s.wrote.any (fun x => x.at_ == keyStr n.val && x.who == who r && x.w == 1))) && (decide ((let s := s.touch r;
      let k : Nat := keyStr n.val; s.overruled r k)))))) = true ∧
    (let r : Requester := .policy; let n : Fin 8 := 0; let s : State := live; (decide (s.mayWrite r BAT_CMD_CLOSE.addr = true) &&
      (decide (¬(let s := s.touch r; s.wrote.any (fun x => x.at_ == keyStr n.val && x.who == who r && x.w == 1))) && (decide (¬(let s := s.touch r;
      let k : Nat := keyStr n.val; s.overruled r k)))))) = true := by
  decide

theorem wit_batReseed :
    (let r : Requester := .policy; let n : Fin 8 := 0; let s : State := live.setBit BAT_CFG_STR_EN n.val true;
      (decide (s.mayWrite r BAT_CMD_RESEED.addr = true) && (decide ((let s := s.touch r; s.strOn n))))) = true ∧
    (let r : Requester := .policy; let n : Fin 8 := 0; let s : State := live; (decide (s.mayWrite r BAT_CMD_RESEED.addr = true) &&
      (decide (¬(let s := s.touch r; s.strOn n))))) = true := by
  decide

theorem wit_batRestore :
    (let r : Requester := .policy; let n : Fin 8 := 0; let s : State := live.setBit BAT_CFG_STR_EN n.val true;
      (decide (s.mayWrite r BAT_CMD_RESTORE.addr = true) && (decide ((let s := s.touch r; s.strOn n)) && (decide (((let s := s.touch r;
      let x := s.str n; x.archive) = none)))))) = true ∧
    (let r : Requester := .spi; let n : Fin 8 := 0;
      let s : State := { live.setBit BAT_CFG_STR_EN 0 true with bat := { strs := Vector.replicate 8 { archive := some {} } } };
      (decide (s.mayWrite r BAT_CMD_RESTORE.addr = true) && (decide ((let s := s.touch r;
      s.strOn n)) && (match (let s := s.touch r; let x := s.str n; x.archive) with | some l => true | _ => false)))) = true ∧
    (let r : Requester := .policy; let n : Fin 8 := 0; let s : State := live; (decide (s.mayWrite r BAT_CMD_RESTORE.addr = true) &&
      (decide (¬(let s := s.touch r; s.strOn n))))) = true := by
  decide

theorem wit_batTblCommit :
    (let r : Requester := .policy; let s : State := live; (decide (s.mayWrite r BAT_CMD_TBL_COMMIT.addr = true) && (decide (¬(let s := s.touch r;
      let k := s.get BAT_TBL_ADDR_SET; s.tblOk (strTblEdit k)))))) = true := by
  decide

theorem wit_batTblDataAccess :
    (let r : Requester := .policy; let w : Option Word := none; let s : State := live; (decide ((w = none)) &&
      (decide (s.mayRead r BAT_TBL_DATA_DATA.addr = true)))) = true ∧
    (let r : Requester := .policy; let w : Option Word := (some 0); let s : State := live;
      (match w with | some v => (decide (s.mayWrite r BAT_TBL_DATA_DATA.addr = true)) | _ => false)) = true := by
  decide

theorem wit_strEnWrite :
    (let r : Requester := .policy; let s : State := live;
      (decide (s.mayWrite r BAT_CFG_STR_EN.addr = true) && (match findRow BAT_CFG_STR_EN.addr with | some row => true | _ => false))) = true := by
  decide

theorem wit_stringTrip :
    (let n : Fin 8 := 0; let s : State := { tripS with regs := (tripS.set SYS_STRAP_LATCHED 1).regs };
      (decide ((s.overTrip n && s.lasted (s.str n).tripSince (250 * s.get BAT_STR_LIM_TRIP_T n.val))) &&
      (decide ((!s.strsOwned.testBit n.val))))) = true ∧
    (let n : Fin 8 := 0; let s : State := tripS; (decide ((s.overTrip n && s.lasted (s.str n).tripSince (250 * s.get BAT_STR_LIM_TRIP_T n.val))) &&
      (decide (¬(!s.strsOwned.testBit n.val))))) = true ∧
    (let n : Fin 8 := 0; let s : State := live;
      (decide (¬(s.overTrip n && s.lasted (s.str n).tripSince (250 * s.get BAT_STR_LIM_TRIP_T n.val))))) = true := by
  decide

theorem wit_stringReconnect :
    (let n : Fin 8 := 0;
      let s : State := (((live.setBit BAT_CFG_STR_EN 0 true).setBit BAT_CONN_PRESENT 0 true).setB BAT_CFG_AUTO_RECON true).set BAT_STR_CFG_ID_MODE 0 0;
      (decide ((s.mayClose n false && s.agrees n && (s.str n).closing.isNone)))) = true ∧
    (let n : Fin 8 := 0; let s : State := live; (decide (¬(s.mayClose n false && s.agrees n && (s.str n).closing.isNone)))) = true := by
  decide

/-! #### FuseCommands -/

theorem wit_efuOn :
    (let r : Requester := .spi; let n : Fin 8 := 0; let s : State := ovr (keyFuse 0); (decide (s.mayWrite r EFU_CMD_ON.addr = true) &&
      (decide ((let s := s.touch r; let k : Nat := keyFuse n.val; s.overruled r k))))) = true ∧
    (let r : Requester := .policy; let n : Fin 8 := 0; let s : State := live; (decide (s.mayWrite r EFU_CMD_ON.addr = true) &&
      (decide (¬(let s := s.touch r; let k : Nat := keyFuse n.val; s.overruled r k))))) = true := by
  decide

theorem wit_efuOff :
    (let r : Requester := .spi; let n : Fin 8 := 0; let s : State := ovr (keyFuse 0); (decide (s.mayWrite r EFU_CMD_OFF.addr = true) &&
      (decide ((let s := s.touch r; let k : Nat := keyFuse n.val; s.overruled r k))))) = true ∧
    (let r : Requester := .policy; let n : Fin 8 := 0; let s : State := live; (decide (s.mayWrite r EFU_CMD_OFF.addr = true) &&
      (decide (¬(let s := s.touch r; let k : Nat := keyFuse n.val; s.overruled r k))))) = true := by
  decide

theorem wit_efuClear :
    (let r : Requester := .policy; let n : Fin 8 := 0; let s : State := live.set EFU_CH_STAT_STATE (5) (n);
      (decide (s.mayWrite r EFU_CMD_CLEAR.addr = true) && (decide ((let s := s.touch r; s.fuseState n = 5))))) = true ∧
    (let r : Requester := .spi; let n : Fin 8 := 0;
      let s : State := { live.set EFU_CH_STAT_STATE 6 0 with efu := { chans := Vector.replicate 8 { healthySince := some 0 } } };
      (decide (s.mayWrite r EFU_CMD_CLEAR.addr = true) && (decide (¬(let s := s.touch r; s.fuseState n = 5)) && (decide ((let s := s.touch r;
      let x := s.fuse n; let absent := (match x.healthySince with | some t => decide (t + 5000 ≤ s.tick) | none => false);
      s.fuseState n = 6 ∧ absent = true)))))) = true ∧
    (let r : Requester := .policy; let n : Fin 8 := 0; let s : State := live; (decide (s.mayWrite r EFU_CMD_CLEAR.addr = true) &&
      (decide (¬(let s := s.touch r; s.fuseState n = 5)) && (decide (¬(let s := s.touch r; let x := s.fuse n;
      let absent := (match x.healthySince with | some t => decide (t + 5000 ≤ s.tick) | none => false);
      s.fuseState n = 6 ∧ absent = true)))))) = true := by
  decide

theorem wit_efuWaitExpiry :
    (let n : Fin 8 := 0; let s : State := fuseS; (decide ((s.fuseState n == 2 && s.due (s.fuse n).waitEnd && s.demanded n && s.fetCool n)))) = true ∧
    (let n : Fin 8 := 0; let s : State := live; (decide (¬(s.fuseState n == 2 && s.due (s.fuse n).waitEnd && s.demanded n && s.fetCool n)))) = true := by
  decide

theorem wit_efOnRise :
    (let n : Fin 8 := 0; let s : State := ((fun (s : State) => s.setFuse n { s.fuse n with riseAt := some 0 }) (live.set EFU_CH_STAT_STATE (3) (n)));
      (decide ((let x := s.fuse n; s.fuseState n == 3 && s.due x.riseAt)))) = true ∧
    (let n : Fin 8 := 0; let s : State := live; (decide (¬(let x := s.fuse n; s.fuseState n == 3 && s.due x.riseAt)))) = true := by
  decide

theorem wit_efIlimFall :
    (let n : Fin 8 := 0; let s : State := ((fun (s : State) => s.setFuse n { s.fuse n with fallAt := some 0 }) (live)); (decide ((let x := s.fuse n;
      s.due x.fallAt)))) = true ∧
    (let n : Fin 8 := 0; let s : State := live; (decide (¬(let x := s.fuse n; s.due x.fallAt)))) = true := by
  decide

theorem wit_inrushQualified :
    (let n : Fin 8 := 0;
      let s : State := { (live.set EFU_CH_STAT_STATE 3 0).set EFU_CH_LEVELS_V_GOOD 0 0 with efu := { chans := Vector.replicate 8 { startAt := some 0, readySince := some 0 } }, afe := { latest := Vector.replicate 64 { code := 0, valid := true, tick := live.tick } } };
      (decide ((s.fuseReadyDone n)))) = true ∧
    (let n : Fin 8 := 0; let s : State := live; (decide (¬(s.fuseReadyDone n)))) = true := by
  decide

theorem wit_inrushExpiry :
    (let n : Fin 8 := 0; let s : State := { live.set EFU_CH_STAT_STATE 3 0 with efu := { chans := Vector.replicate 8 { startAt := some 0 } } };
      (decide ((s.fuseState n == 3 && s.lasted (s.fuse n).startAt (1000 * s.get EFU_CH_TIME_INRUSH_MS n.val) && !s.fuseReadyDone n)))) = true ∧
    (let n : Fin 8 := 0; let s : State := live;
      (decide (¬(s.fuseState n == 3 && s.lasted (s.fuse n).startAt (1000 * s.get EFU_CH_TIME_INRUSH_MS n.val) && !s.fuseReadyDone n)))) = true := by
  decide

theorem wit_overcurrentExpiry :
    (let n : Fin 8 := 0;
      let s : State := { (live.set EFU_CH_STAT_STATE 4 0).set EFU_CH_LIMIT_I_RUN 0 0 with efu := { chans := Vector.replicate 8 { limSince := some 0 } }, afe := { latest := Vector.replicate 64 { code := 16383, valid := true, tick := live.tick } } };
      (decide ((s.fuseLimited n && s.lasted (s.fuse n).limSince (1000 * s.get EFU_CH_TIME_OC_MS n.val))))) = true ∧
    (let n : Fin 8 := 0; let s : State := live;
      (decide (¬(s.fuseLimited n && s.lasted (s.fuse n).limSince (1000 * s.get EFU_CH_TIME_OC_MS n.val))))) = true := by
  decide

theorem wit_fetModelUpdate :
    (let s : State := State.reset; (decide ((s.tick % 100 ≠ 0 ∨ s.boot.g.isNone)))) = true ∧
    (let s : State := live; (decide (¬(s.tick % 100 ≠ 0 ∨ s.boot.g.isNone)))) = true := by
  decide

theorem wit_efuRetryReset :
    (let n : Fin 8 := 0; let s : State := live.set EFU_CH_STAT_STATE (4) (n);
      (decide ((s.fuseState n = 4 ∧ (s.fuse n).onAt + 1000000 * s.get EFU_SLOT_CFG_CLEAR_S ≤ s.tick)))) = true ∧
    (let n : Fin 8 := 0; let s : State := live;
      (decide (¬(s.fuseState n = 4 ∧ (s.fuse n).onAt + 1000000 * s.get EFU_SLOT_CFG_CLEAR_S ≤ s.tick)))) = true := by
  decide

theorem wit_damageDetect :
    (let n : Fin 8 := 0;
      let s : State := { (live.set EFU_CH_STAT_STATE 1 0) with efu := { chans := Vector.replicate 8 { damageSince := some 0 } }, afe := { latest := Vector.replicate 64 { code := 16383, valid := true, tick := live.tick } } };
      (decide ((s.damageDue n)))) = true ∧
    (let n : Fin 8 := 0; let s : State := live; (decide (¬(s.damageDue n)))) = true := by
  decide

/-! #### FeedAndSlotCommands -/

theorem wit_feedA :
    (let r : Requester := .spi; let s : State := ovr keyFeed; (decide (s.mayWrite r EFU_CMD_FEED_A.addr = true) && (decide ((let s := s.touch r;
      let k : Nat := keyFeed; s.overruled r k))))) = true ∧
    (let r : Requester := .policy; let s : State := live; (decide (s.mayWrite r EFU_CMD_FEED_A.addr = true) && (decide (¬(let s := s.touch r;
      let k : Nat := keyFeed; s.overruled r k))))) = true := by
  decide

theorem wit_feedB :
    (let r : Requester := .spi; let s : State := ovr keyFeed; (decide (s.mayWrite r EFU_CMD_FEED_B.addr = true) && (decide ((let s := s.touch r;
      let k : Nat := keyFeed; s.overruled r k))))) = true ∧
    (let r : Requester := .policy; let s : State := live; (decide (s.mayWrite r EFU_CMD_FEED_B.addr = true) && (decide (¬(let s := s.touch r;
      let k : Nat := keyFeed; s.overruled r k))))) = true := by
  decide

theorem wit_feedAuto :
    (let r : Requester := .spi; let s : State := ovr keyFeed; (decide (s.mayWrite r EFU_CMD_FEED_AUTO.addr = true) && (decide ((let s := s.touch r;
      let k : Nat := keyFeed; s.overruled r k))))) = true ∧
    (let r : Requester := .policy; let s : State := live; (decide (s.mayWrite r EFU_CMD_FEED_AUTO.addr = true) && (decide (¬(let s := s.touch r;
      let k : Nat := keyFeed; s.overruled r k))))) = true := by
  decide

theorem wit_feedGood :
    (let k : Fin 2 := 0;
      let s : State := { ((live.set (feedMon 0) 0).set EFU_FEED_VWIN_V_MAX 65535).set EFU_FEED_VWIN_V_MIN 0 with afe := { latest := Vector.replicate 64 { code := 1, valid := true } }, efu := { inSince := Vector.replicate 2 (some 0) } };
      (decide ((s.feedInWin k ∧ !s.on (feedBit k) ∧ s.lasted (s.efu.inSince.get k) (1000 * s.get EFU_FEED_TIME_QUAL_MS))))) = true ∧
    (let k : Fin 2 := 0; let s : State := live;
      (decide (¬(s.feedInWin k ∧ !s.on (feedBit k) ∧ s.lasted (s.efu.inSince.get k) (1000 * s.get EFU_FEED_TIME_QUAL_MS))))) = true := by
  decide

theorem wit_feedBad :
    (let k : Fin 2 := 0; let s : State := { live.setB (feedBit 0) true with efu := { outSince := Vector.replicate 2 (some 0) } };
      (decide ((!s.feedInWin k ∧ s.on (feedBit k) ∧ s.lasted (s.efu.outSince.get k) (s.get EFU_FEED_TIME_BAD_US))))) = true ∧
    (let k : Fin 2 := 0; let s : State := live;
      (decide (¬(!s.feedInWin k ∧ s.on (feedBit k) ∧ s.lasted (s.efu.outSince.get k) (s.get EFU_FEED_TIME_BAD_US))))) = true := by
  decide

theorem wit_feedSwitchStart :
    (let s : State := { ((((live.setB EFU_FEED_CFG_PAIR_EN true).setB (feedBit 0) true).setB EFU_CH_CFG_EN true 0).setB EFU_CTRL_EN true) with efu := { sel := 2 } };
      (decide ((s.on EFU_FEED_CFG_PAIR_EN ∧ s.wantedFeed ≠ s.efu.sel)))) = true ∧
    (let s : State := live; (decide (¬(s.on EFU_FEED_CFG_PAIR_EN ∧ s.wantedFeed ≠ s.efu.sel)))) = true := by
  decide

theorem wit_feedBbmComplete :
    (let s : State := { live.set EFU_FEED_CFG_I_OFF 255 with efu := { gap := some (1, 0) }, afe := { latest := Vector.replicate 64 { valid := true } } };
      (match s.efu.gap with | some (old, t) => (decide ((t + s.get EFU_FEED_BBM_BBM_US ≤ s.tick ∧ s.oldFeedOff old))) | _ => false)) = true ∧
    (let s : State := ((fun (s : State) => { s with efu := { s.efu with gap := some (default, default) } }) (live));
      (match s.efu.gap with | some (old, t) => (decide (¬(t + s.get EFU_FEED_BBM_BBM_US ≤ s.tick ∧ s.oldFeedOff old))) | _ => false)) = true ∧
    (let s : State := live; (decide ((s.efu.gap = none)))) = true := by
  decide

theorem wit_feedStuck :
    (let s : State := ((fun (s : State) => { s with efu := { s.efu with gap := some (default, default) } }) (live));
      (match s.efu.gap with | some (old, t) => (decide ((t + s.get EFU_FEED_BBM_BBM_MAX_US ≤ s.tick ∧ !s.oldFeedOff old ∧ !s.on EFU_FEED_STAT_STUCK))) | _ => false)) = true ∧
    (let s : State := ((fun (s : State) => { s with efu := { s.efu with gap := some (default, default) } }) (State.reset));
      (match s.efu.gap with | some (old, t) => (decide (¬(t + s.get EFU_FEED_BBM_BBM_MAX_US ≤ s.tick ∧ !s.oldFeedOff old ∧ !s.on EFU_FEED_STAT_STUCK))) | _ => false)) = true ∧
    (let s : State := live; (decide ((s.efu.gap = none)))) = true := by
  decide

theorem wit_feedRevertTimer :
    (let s : State := { live with efu := { goodSince := Vector.replicate 2 (some 0) } };
      (decide ((s.feedSettled (if s.on EFU_FEED_CFG_PREF then 1 else 0))))) = true ∧
    (let s : State := live; (decide (¬(s.feedSettled (if s.on EFU_FEED_CFG_PREF then 1 else 0))))) = true := by
  decide

theorem wit_slotInsert :
    (let n : Fin 8 := 0;
      let s : State := { slotS true with efu := { chans := Vector.replicate 8 { presFor := (true, 0), mem := some { count := 0, latched := false, remain := 0, until_ := 1 } } } };
      (decide ((s.slotEdge n true)) && (match (let x := s.fuse n; x.mem) with | some m => (decide ((let i : Nat := (s.fuse n).presFor.2; i < m.until_))) | _ => false))) = true ∧
    (let n : Fin 8 := 0;
      let s : State := { slotS true with efu := { chans := Vector.replicate 8 { presFor := (true, 0), mem := some { count := 0, latched := false, remain := 0, until_ := 0 } } } };
      (decide ((s.slotEdge n true)) && (match (let x := s.fuse n; x.mem) with | some m => (decide (¬(let i : Nat := (s.fuse n).presFor.2; i < m.until_))) | _ => false))) = true ∧
    (let n : Fin 8 := 0; let s : State := live; (decide (¬(s.slotEdge n true)))) = true := by
  decide

theorem wit_slotRemove :
    (let n : Fin 8 := 0;
      let s : State := { ((slotS false).setB EFU_CH_CFG_PRES_POL true 0).set EFU_CH_STAT_STATE 4 0 with efu := { chans := Vector.replicate 8 { presFor := (false, 0) } } };
      (decide ((s.slotEdge n false)) && (decide ((let st := s.fuseState n; st = 2 ∨ st = 3 ∨ st = 4))))) = true ∧
    (let n : Fin 8 := 0;
      let s : State := { (slotS false).setB EFU_CH_CFG_PRES_POL true 0 with efu := { chans := Vector.replicate 8 { presFor := (false, 0) } } };
      (decide ((s.slotEdge n false)) && (decide (¬(let st := s.fuseState n; st = 2 ∨ st = 3 ∨ st = 4))))) = true ∧
    (let n : Fin 8 := 0; let s : State := live; (decide (¬(s.slotEdge n false)))) = true := by
  decide

theorem wit_slotMemoryExpiry :
    (let n : Fin 8 := 0;
      let s : State := { live with efu := { chans := Vector.replicate 8 { mem := some { count := 0, latched := false, remain := 0, until_ := 0 } } } };
      (match (s.fuse n).mem with | some m => (decide ((m.until_ ≤ s.tick))) | _ => false)) = true ∧
    (let n : Fin 8 := 0;
      let s : State := { live with efu := { chans := Vector.replicate 8 { mem := some { count := 0, latched := false, remain := 0, until_ := 600000000001 } } } };
      (match (s.fuse n).mem with | some m => (decide (¬(m.until_ ≤ s.tick))) | _ => false)) = true ∧
    (let n : Fin 8 := 0; let s : State := live; (decide (((s.fuse n).mem = none)))) = true := by
  decide

/-! #### RailCommands -/

theorem wit_railQualified :
    (let n : Fin 24 := 0;
      let s : State := { (((live.setB SEQ_RAIL_CFG_EN true 0).setBit SEQ_PG_IN_MASK 0 true).setBit SEQ_EN_OUT_MASK 0 true) with seq := { rails := Vector.replicate 24 { pgSince := some 0 } } };
      (decide ((let x := s.rail n; let late := s.seqState == 1 && !x.everQual && decide (x.enAt + 1000 * s.get SEQ_RAIL_TIME_WIN n.val ≤ s.tick);
      let due := (match x.pgSince with | some t => decide (t + 1000 * s.get SEQ_RAIL_TIME_QUAL n.val ≤ s.tick) | none => false);
      s.railOn n && s.ownRail n && s.railPg n && s.railEn n && !s.railQual n && !s.bitOn RMN_EXPIRED_MASK n.val && s.seqState != 3 && due && !late)))) = true ∧
    (let n : Fin 24 := 0; let s : State := live; (decide (¬(let x := s.rail n;
      let late := s.seqState == 1 && !x.everQual && decide (x.enAt + 1000 * s.get SEQ_RAIL_TIME_WIN n.val ≤ s.tick);
      let due := (match x.pgSince with | some t => decide (t + 1000 * s.get SEQ_RAIL_TIME_QUAL n.val ≤ s.tick) | none => false);
      s.railOn n && s.ownRail n && s.railPg n && s.railEn n && !s.railQual n && !s.bitOn RMN_EXPIRED_MASK n.val && s.seqState != 3 && due && !late)))) = true := by
  decide

theorem wit_railEnRise :
    (let n : Fin 24 := 0; let s : State := (((fun (s : State) => s.setRail n { s.rail n with enDue := some 0 }) (live))).set SEQ_STATE_STATE (1);
      (decide ((s.due (s.rail n).enDue && s.seqState == 1)))) = true ∧
    (let n : Fin 24 := 0; let s : State := live; (decide (¬(s.due (s.rail n).enDue && s.seqState == 1)))) = true := by
  decide

theorem wit_railWindowExpiry :
    (let n : Fin 24 := 0; let s : State := ((live.set SEQ_STATE_STATE (1)).setB SEQ_RAIL_CFG_EN true (n.val)).setBit SEQ_EN_OUT_MASK n.val true;
      (decide ((let x := s.rail n;
      s.seqState == 1 && s.ownRail n && s.railOn n && s.railEn n && !x.everQual && decide (x.enAt + 1000 * s.get SEQ_RAIL_TIME_WIN n.val ≤ s.tick))))) = true ∧
    (let n : Fin 24 := 0; let s : State := live; (decide (¬(let x := s.rail n;
      s.seqState == 1 && s.ownRail n && s.railOn n && s.railEn n && !x.everQual && decide (x.enAt + 1000 * s.get SEQ_RAIL_TIME_WIN n.val ≤ s.tick))))) = true := by
  decide

theorem wit_rmonSample :
    (let n : Fin 24 := 0; let s : State := { live with afe := { latest := Vector.replicate 64 { valid := true, tick := 1 } } };
      (decide ((let m := s.afe.latest.get (Fin.ofNat 64 n.val); let x := s.rail n; m.valid && x.convAt != some m.tick)))) = true ∧
    (let n : Fin 24 := 0; let s : State := live; (decide (¬(let m := s.afe.latest.get (Fin.ofNat 64 n.val); let x := s.rail n;
      m.valid && x.convAt != some m.tick)))) = true := by
  decide

theorem wit_railWarning :
    (let n : Fin 24 := 0;
      let s : State := (((((fun (s : State) => s.setRail n { s.rail n with warnSince := some default }) (((fun (s : State) => s.setRail n { s.rail n with v := some default }) (live))))).set SEQ_STATE_STATE (2)).setB SEQ_RAIL_CFG_EN true (n.val)).setBit SEQ_QUAL_MASK n.val true;
      (match (s.rail n).v with | some v => (match (s.rail n).warnSince with | some t => (decide ((s.levelsJudged n && !s.inWarn n && s.outWarn n false v && decide (t + 1000 * s.get RMN_TIME_WARN_T ≤ s.tick)) = true)) | _ => false) | _ => false)) = true := by
  decide

theorem wit_faultTimerExpiry :
    (let n : Fin 24 := 0; let s : State := { live with seq := { rails := Vector.replicate 24 { timer := some (0, false) } } };
      (decide ((s.timerOver n)))) = true ∧
    (let n : Fin 24 := 0; let s : State := live; (decide (¬(s.timerOver n)))) = true := by
  decide

theorem wit_fltAct0Requalify :
    (let n : Fin 24 := 0;
      let s : State := (((live.setBit RMN_EXPIRED_MASK n.val true).set RMN_RAIL_CFG_FLT_ACT (0) (n.val)).setBit SEQ_PG_IN_MASK n.val true).setBit SEQ_EN_OUT_MASK n.val true;
      (decide ((let x := s.rail n;
      s.bitOn RMN_EXPIRED_MASK n.val && s.get RMN_RAIL_CFG_FLT_ACT n.val == 0 && x.timer.isNone && s.railPg n && s.railEn n && decide (x.stoppedAt + 1000 * s.get SEQ_RAIL_TIME_QUAL n.val ≤ s.tick))))) = true ∧
    (let n : Fin 24 := 0; let s : State := live; (decide (¬(let x := s.rail n;
      s.bitOn RMN_EXPIRED_MASK n.val && s.get RMN_RAIL_CFG_FLT_ACT n.val == 0 && x.timer.isNone && s.railPg n && s.railEn n && decide (x.stoppedAt + 1000 * s.get SEQ_RAIL_TIME_QUAL n.val ≤ s.tick))))) = true := by
  decide

theorem wit_rmnTest :
    (let r : Requester := .policy; let s : State := live; (decide (s.mayWrite r RMN_CMD_TEST.addr = true))) = true := by
  decide

theorem wit_rmnTestEnd :
    (let r : Requester := .policy; let s : State := live; (decide (s.mayWrite r RMN_CMD_TEST.addr = true))) = true := by
  decide

theorem wit_testTimeout :
    (let s : State := ((fun (s : State) => { s with seq := { s.seq with testEnd := some 0 } }) (live)); (decide ((s.due s.seq.testEnd)))) = true ∧
    (let s : State := live; (decide (¬(s.due s.seq.testEnd)))) = true := by
  decide

/-! #### SequenceCommands -/

theorem wit_seqUp :
    (let r : Requester := .spi; let s : State := ovr keySeq; (decide (s.mayWrite r SEQ_CMD_UP.addr = true) && (decide ((let s := s.touch r;
      let k : Nat := keySeq; s.overruled r k))))) = true ∧
    (let r : Requester := .policy; let s : State := live; (decide (s.mayWrite r SEQ_CMD_UP.addr = true) && (decide (¬(let s := s.touch r;
      let k : Nat := keySeq; s.overruled r k))))) = true := by
  decide

theorem wit_seqDown :
    (let r : Requester := .spi; let s : State := ovr keySeq; (decide (s.mayWrite r SEQ_CMD_UP.addr = true) && (decide ((let s := s.touch r;
      let k : Nat := keySeq; s.overruled r k))))) = true ∧
    (let r : Requester := .policy; let s : State := live; (decide (s.mayWrite r SEQ_CMD_UP.addr = true) && (decide (¬(let s := s.touch r;
      let k : Nat := keySeq; s.overruled r k))))) = true := by
  decide

theorem wit_seqClear :
    (let r : Requester := .policy; let s : State := live.set SEQ_STATE_STATE (5); (decide (s.mayWrite r SEQ_CMD_UP.addr = true) &&
      (decide ((let s := s.touch r; s.seqState = 5))))) = true ∧
    (let r : Requester := .policy; let s : State := live; (decide (s.mayWrite r SEQ_CMD_UP.addr = true) && (decide (¬(let s := s.touch r;
      s.seqState = 5))))) = true := by
  decide

theorem wit_resetStretchEnd :
    (let k : Fin 8 := 0; let s : State := { live with seq := { rst := Vector.replicate 8 (some 0) } };
      (match s.seq.rst.get k with | some t => (decide ((s.rstCond k.val && decide (t + 1000 * s.get SEQ_RST_TIME_STRETCH k.val ≤ s.tick)))) | _ => false)) = true ∧
    (let k : Fin 8 := 0; let s : State := { live with seq := { rst := Vector.replicate 8 (some 600000000000) } };
      (match s.seq.rst.get k with | some t => (decide (¬(s.rstCond k.val && decide (t + 1000 * s.get SEQ_RST_TIME_STRETCH k.val ≤ s.tick)))) | _ => false)) = true ∧
    (let k : Fin 8 := 0; let s : State := live; (decide ((s.seq.rst.get k = none)))) = true := by
  decide

theorem wit_dnStuck :
    (let n : Fin 24 := 0;
      let s : State := ((fun (s : State) => s.setRail n { s.rail n with off := false }) ((live.set SEQ_STATE_STATE (3)).setB SEQ_RAIL_CFG_EN true (n.val)));
      (decide ((let x := s.rail n;
      s.seqState == 3 && s.ownRail n && s.railOn n && !s.railEn n && !x.off && !x.stuck && decide (x.fellAt + 10000 * s.get SEQ_RAIL_DN_DIS_TMO n.val ≤ s.tick))))) = true ∧
    (let n : Fin 24 := 0; let s : State := live; (decide (¬(let x := s.rail n;
      s.seqState == 3 && s.ownRail n && s.railOn n && !s.railEn n && !x.off && !x.stuck && decide (x.fellAt + 10000 * s.get SEQ_RAIL_DN_DIS_TMO n.val ≤ s.tick))))) = true := by
  decide

theorem wit_p7EnFall :
    (let n : Fin 24 := 0; let s : State := (((fun (s : State) => s.setRail n { s.rail n with p7At := some 0 }) (live))).set SEQ_STATE_STATE (3);
      (decide ((s.due (s.rail n).p7At && s.seqState == 3)))) = true ∧
    (let n : Fin 24 := 0; let s : State := live; (decide (¬(s.due (s.rail n).p7At && s.seqState == 3)))) = true := by
  decide

theorem wit_seqRetryExpiry :
    (let s : State := { ((live.set SEQ_STATE_STATE 4).setB SEQ_CTRL_EN true).setB SEQ_CFG_UP_EN false with seq := { run := true } };
      (decide ((s.seqState = 4 ∧ s.seqPrimary ∧ s.seqDemanded ∧ s.seq.since + 1000 * s.get SEQ_TIME_RETRY_MS ≤ s.tick)))) = true ∧
    (let s : State := live; (decide (¬(s.seqState = 4 ∧ s.seqPrimary ∧ s.seqDemanded ∧ s.seq.since + 1000 * s.get SEQ_TIME_RETRY_MS ≤ s.tick)))) = true := by
  decide

theorem wit_seqRetryReset :
    (let s : State := live.set SEQ_STATE_STATE (2); (decide ((s.seqState = 2 ∧ s.seq.runSince + 60000000 ≤ s.tick)))) = true ∧
    (let s : State := live; (decide (¬(s.seqState = 2 ∧ s.seq.runSince + 60000000 ≤ s.tick)))) = true := by
  decide

theorem wit_cascadeInputChange :
    (let dn : Bool := true; let high : Bool := true; let s : State := State.reset; (decide ((let s := s.cascBall dn high; s.boot.g.isNone)))) = true ∧
    (let dn : Bool := true; let high : Bool := true; let s : State := live; (decide (¬(let s := s.cascBall dn high; s.boot.g.isNone)))) = true := by
  decide

theorem wit_cascadeTimeout :
    (let s : State := (((fun (s : State) => { s with seq := { s.seq with cascSince := some default } }) (live))).set SEQ_STATE_STATE (1);
      (match s.seq.cascSince with | some t => (decide ((t + 1000 * s.get SEQ_TIME_CASC_TMO_MS ≤ s.tick)) && (decide ((s.seqState = 1)))) | _ => false)) = true ∧
    (let s : State := (((fun (s : State) => { s with seq := { s.seq with cascSince := some default } }) (live))).set SEQ_STATE_STATE (3);
      (match s.seq.cascSince with | some t => (decide ((t + 1000 * s.get SEQ_TIME_CASC_TMO_MS ≤ s.tick)) && (decide (¬(s.seqState = 1)) && (decide ((s.seqState = 3))))) | _ => false)) = true ∧
    (let s : State := ((fun (s : State) => { s with seq := { s.seq with cascSince := some default } }) (live));
      (match s.seq.cascSince with | some t => (decide ((t + 1000 * s.get SEQ_TIME_CASC_TMO_MS ≤ s.tick)) && (decide (¬(s.seqState = 1)) && (decide (¬(s.seqState = 3))))) | _ => false)) = true ∧
    (let s : State := ((fun (s : State) => { s with seq := { s.seq with cascSince := some default } }) (State.reset));
      (match s.seq.cascSince with | some t => (decide (¬(t + 1000 * s.get SEQ_TIME_CASC_TMO_MS ≤ s.tick))) | _ => false)) = true ∧
    (let s : State := live; (decide ((s.seq.cascSince = none)))) = true := by
  decide

/-! #### TwoWireCommands -/

theorem wit_twbTransactionStart :
    (let c : Fin 16 := 0; let s : State := live; (decide ((!(s.chanState c.val == 2 && (s.chan c).busFree && s.twbMay))))) = true ∧
    (let c : Fin 16 := 0;
      let s : State := ((fun (s : State) => s.setChan c { s.chan c with busFree := true }) (live.set TWB_CH_STAT_STATE (2) (c.val)));
      (decide (¬(!(s.chanState c.val == 2 && (s.chan c).busFree && s.twbMay))) && (decide ((s.pick c = none))))) = true ∧
    (let c : Fin 16 := 0; let ev : StartRun := .busy; let s : State := busS;
      (decide (¬(!(s.chanState c.val == 2 && (s.chan c).busFree && s.twbMay))) && (match s.pick c with | some q => (decide ((ev = .busy))) | _ => false))) = true ∧
    (let c : Fin 16 := 0; let ev : StartRun := .runs; let s : State := busS;
      (decide (¬(!(s.chanState c.val == 2 && (s.chan c).busFree && s.twbMay))) && (match s.pick c with | some q => (decide ((ev = .runs))) | _ => false))) = true ∧
    (let c : Fin 16 := 0; let ev : StartRun := .arbLost; let s : State := busS.set TWB_CFG_ARB_RETRY 1;
      (decide (¬(!(s.chanState c.val == 2 && (s.chan c).busFree && s.twbMay))) && (match s.pick c with | some q => (decide ((ev = .arbLost)) && (decide ((let lost := { s.chan c with busFree := false, busyAt := s.tick }; let fresh := (s.chan c).cur.isNone; let t := s.iff fresh (fun s => (s.countStart c q.cls).incWrap TWB_CH_XFERS_XFERS c.val); let t := (t.onReq q.id (fun q => { q with started := true, begun := true })).setChanState c 3; let x := { t.chan c with cur := some q.id, busFree := false, busyAt := s.tick, startAt := s.tick, sent := q.sent }; let s := t.setChan c x; let s := s.setChan c { x with lost := x.lost + 1 }; s.get TWB_CFG_ARB_RETRY ≤ x.lost + 1)))) | _ => false))) = true ∧
    (let c : Fin 16 := 0; let ev : StartRun := .arbLost; let s : State := busS.set TWB_CFG_ARB_RETRY 10;
      (decide (¬(!(s.chanState c.val == 2 && (s.chan c).busFree && s.twbMay))) && (match s.pick c with | some q => (decide ((ev = .arbLost)) && (decide (¬(let lost := { s.chan c with busFree := false, busyAt := s.tick }; let fresh := (s.chan c).cur.isNone; let t := s.iff fresh (fun s => (s.countStart c q.cls).incWrap TWB_CH_XFERS_XFERS c.val); let t := (t.onReq q.id (fun q => { q with started := true, begun := true })).setChanState c 3; let x := { t.chan c with cur := some q.id, busFree := false, busyAt := s.tick, startAt := s.tick, sent := q.sent }; let s := t.setChan c x; let s := s.setChan c { x with lost := x.lost + 1 }; s.get TWB_CFG_ARB_RETRY ≤ x.lost + 1)))) | _ => false))) = true ∧
    (let c : Fin 16 := 0; let ev : StartRun := .arbSr;
      let s : State := { busS with twb := { busS.twb with chans := Vector.replicate 16 { busFree := true, srLost := true } } };
      (decide (¬(!(s.chanState c.val == 2 && (s.chan c).busFree && s.twbMay))) && (match s.pick c with | some q => (decide ((ev = .arbSr)) && (decide ((let fresh := (s.chan c).cur.isNone; let t := s.iff fresh (fun s => (s.countStart c q.cls).incWrap TWB_CH_XFERS_XFERS c.val); let t := (t.onReq q.id (fun q => { q with started := true, begun := true })).setChanState c 3; let x := { t.chan c with cur := some q.id, busFree := false, busyAt := s.tick, startAt := s.tick, sent := q.sent }; x.srLost)))) | _ => false))) = true ∧
    (let c : Fin 16 := 0; let ev : StartRun := .arbSr; let s : State := busS;
      (decide (¬(!(s.chanState c.val == 2 && (s.chan c).busFree && s.twbMay))) && (match s.pick c with | some q => (decide ((ev = .arbSr)) && (decide (¬(let fresh := (s.chan c).cur.isNone; let t := s.iff fresh (fun s => (s.countStart c q.cls).incWrap TWB_CH_XFERS_XFERS c.val); let t := (t.onReq q.id (fun q => { q with started := true, begun := true })).setChanState c 3; let x := { t.chan c with cur := some q.id, busFree := false, busyAt := s.tick, startAt := s.tick, sent := q.sent }; x.srLost)))) | _ => false))) = true ∧
    (let c : Fin 16 := 0; let ev : StartRun := .ackSlot; let s : State := busS;
      (decide (¬(!(s.chanState c.val == 2 && (s.chan c).busFree && s.twbMay))) && (match s.pick c with | some q => (decide ((ev = .ackSlot))) | _ => false))) = true ∧
    (let c : Fin 16 := 0; let q : Req := req0; let s : State := busS; (decide (s.chanState c.val = 2) && (decide ((s.chan c).busFree = true) &&
      (decide (s.twbMay = true) && (decide (s.pick c = some q)))))) = true := by
  decide

theorem wit_twbTransactionEnd :
    (let c : Fin 16 := 0; let s : State := live; (decide ((s.chanState c.val ≠ 3)))) = true ∧
    (let c : Fin 16 := 0; let s : State := live.set TWB_CH_STAT_STATE (3) (c.val); (decide (¬(s.chanState c.val ≠ 3)) &&
      (decide ((s.running c = none))))) = true ∧
    (let c : Fin 16 := 0; let code : Fin 16 := 5; let bytes : Nat := 0; let data : List Byte := []; let sr : Nat := 0; let stretch : Nat := 0;
      let s : State := { (busS.set TWB_CH_STAT_STATE 3 0) with twb := { busS.twb with chans := Vector.replicate 16 { cur := some 0 } } };
      (decide (¬(s.chanState c.val ≠ 3)) && (match s.running c with | some q => (decide ((let r := s.transResult c q code.val bytes (data.map BitVec.toNat) sr stretch; let t := s.bitTimes c.val; !([0, 1, 2].contains code.val || (code.val == 12 && q.dead)) ∨ !s.mayPassed (s.chan c).startAt (9 * r.bytes * (t.1 + t.2.1) + 2 * t.2.2.1)))) | _ => false))) = true ∧
    (let c : Fin 16 := 0; let code : Fin 16 := 1; let bytes : Nat := 0; let data : List Byte := []; let sr : Nat := 0; let stretch : Nat := 0;
      let s : State := { (busS.set TWB_CH_STAT_STATE 3 0) with twb := { busS.twb with chans := Vector.replicate 16 { cur := some 0 } } };
      (decide (¬(s.chanState c.val ≠ 3)) && (match s.running c with | some q => (decide (¬(let r := s.transResult c q code.val bytes (data.map BitVec.toNat) sr stretch; let t := s.bitTimes c.val; !([0, 1, 2].contains code.val || (code.val == 12 && q.dead)) ∨ !s.mayPassed (s.chan c).startAt (9 * r.bytes * (t.1 + t.2.1) + 2 * t.2.2.1)))) | _ => false))) = true := by
  decide

theorem wit_busFree :
    (let b : BusIdle := { c := 0, stop := true, since := 0 }; let s : State := live.set TWB_CH_STAT_STATE (1) (b.c.val);
      (decide ((let free := (if b.stop then s.mayPassed b.since (s.bitTimes b.c.val).2.2.2 else decide (b.since + s.get TWB_CFG_IDLE_US ≤ s.tick));
      (s.chanState b.c.val = 1 ∨ s.chanState b.c.val = 2) ∧ (s.chan b.c).busyAt ≤ b.since ∧ free = true)))) = true ∧
    (let b : BusIdle := { c := 0, stop := true, since := 0 }; let s : State := live;
      (decide (¬(let free := (if b.stop then s.mayPassed b.since (s.bitTimes b.c.val).2.2.2 else decide (b.since + s.get TWB_CFG_IDLE_US ≤ s.tick));
      (s.chanState b.c.val = 1 ∨ s.chanState b.c.val = 2) ∧ (s.chan b.c).busyAt ≤ b.since ∧ free = true)))) = true ∧
    (let b : BusIdle := { c := 0, stop := false, since := 0 }; let s : State := live.set TWB_CH_STAT_STATE 1 0;
      (decide (s.chanState b.c.val = 1 ∨ s.chanState b.c.val = 2) && (decide ((s.chan b.c).busyAt ≤ b.since) && (decide (b.stop = false) &&
      (decide (b.since + s.get TWB_CFG_IDLE_US ≤ s.tick)))))) = true := by
  decide

theorem wit_clkLowTimeout :
    (let h : LineHeld := { c := 0, since := 0 }; let s : State := live;
      (decide ((s.chanState h.c.val = 0 ∨ s.chanState h.c.val = 5 ∨ s.tick < h.since + 1000 * s.get TWB_TIMEOUT_TLOW_TO)))) = true ∧
    (let h : LineHeld := { c := 0, since := 0 }; let s : State := live.set TWB_CH_STAT_STATE ((5) + 1) (h.c.val);
      (decide (¬(s.chanState h.c.val = 0 ∨ s.chanState h.c.val = 5 ∨ s.tick < h.since + 1000 * s.get TWB_TIMEOUT_TLOW_TO)))) = true := by
  decide

theorem wit_sextTimeout :
    (let c : Fin 16 := 0; let stretch : Nat := 1000000000; let s : State := live.set TWB_CH_STAT_STATE 3 0;
      (decide ((s.chanState c.val = 3 ∧ 1000 * s.get TWB_TIMEOUT_SEXT_MS < stretch)))) = true ∧
    (let c : Fin 16 := 0; let stretch : Nat := 0; let s : State := live;
      (decide (¬(s.chanState c.val = 3 ∧ 1000 * s.get TWB_TIMEOUT_SEXT_MS < stretch)))) = true := by
  decide

theorem wit_sdaHeldClear :
    (let h : LineHeld := { c := 0, since := 0 }; let s : State := busS; (decide ((let st := s.chanState h.c.val;
      1 ≤ st ∧ st ≤ 3 ∧ h.since + s.get TWB_CFG_IDLE_US ≤ s.tick ∧ (s.pick h.c).isSome ∧ s.twbMay)))) = true ∧
    (let h : LineHeld := { c := 0, since := 0 }; let s : State := live; (decide (¬(let st := s.chanState h.c.val;
      1 ≤ st ∧ st ≤ 3 ∧ h.since + s.get TWB_CFG_IDLE_US ≤ s.tick ∧ (s.pick h.c).isSome ∧ s.twbMay)))) = true := by
  decide

theorem wit_listenSdaLowTimeout :
    (let h : LineHeld := { c := 0, since := 0 }; let s : State := live.set TWB_CH_STAT_STATE (1) (h.c.val);
      (decide ((s.chanState h.c.val = 1 ∧ h.since + 1000 * s.get TWB_TIMEOUT_TLOW_TO ≤ s.tick ∧ s.twbMay)))) = true ∧
    (let h : LineHeld := { c := 0, since := 0 }; let s : State := live;
      (decide (¬(s.chanState h.c.val = 1 ∧ h.since + 1000 * s.get TWB_TIMEOUT_TLOW_TO ≤ s.tick ∧ s.twbMay)))) = true := by
  decide

theorem wit_busClearComplete :
    (let c : Fin 16 := 0; let e : ClearEnd := { more := 0, released := true }; let s : State := live; (decide ((let t := s.bitTimes c.val;
      let lasts := 250 + (e.more.val + 1) * (t.1 + t.2.1) + t.1 + t.2.2.1; s.chanState c.val ≠ 4 ∨ !s.mayPassed (s.chan c).clearAt lasts)))) = true ∧
    (let c : Fin 16 := 0; let e : ClearEnd := { more := 0, released := true }; let s : State := live.set TWB_CH_STAT_STATE (4) (c.val);
      (decide (¬(let t := s.bitTimes c.val; let lasts := 250 + (e.more.val + 1) * (t.1 + t.2.1) + t.1 + t.2.2.1;
      s.chanState c.val ≠ 4 ∨ !s.mayPassed (s.chan c).clearAt lasts)) && (decide (e.released)))) = true ∧
    (let c : Fin 16 := 0; let e : ClearEnd := { more := 0, released := false }; let s : State := live.set TWB_CH_STAT_STATE (4) (c.val);
      (decide (¬(let t := s.bitTimes c.val; let lasts := 250 + (e.more.val + 1) * (t.1 + t.2.1) + t.1 + t.2.2.1;
      s.chanState c.val ≠ 4 ∨ !s.mayPassed (s.chan c).clearAt lasts)) && (decide (¬e.released)))) = true ∧
    (let c : Fin 16 := 0; let e : ClearEnd := { more := 0, released := true }; let s : State := live.set TWB_CH_STAT_STATE (4) (c.val);
      (decide (s.chanState c.val = 4) && (decide (e.released = true) &&
      (decide (s.mayPassed (s.chan c).clearAt (250 + (e.more.val + 1) * ((s.bitTimes c.val).1 + (s.bitTimes c.val).2.1) + (s.bitTimes c.val).1 + (s.bitTimes c.val).2.2.1) = true))))) = true := by
  decide

theorem wit_stuckRetry :
    (let c : Fin 16 := 0; let sclHigh : Bool := true; let s : State := live.set TWB_CH_STAT_STATE (5) (c.val);
      (decide ((s.chanState c.val = 5 ∧ (s.chan c).since + 1000 * s.get TWB_TIMEOUT_RETRY_STUCK_MS ≤ s.tick)) && (decide (sclHigh)))) = true ∧
    (let c : Fin 16 := 0; let sclHigh : Bool := false; let s : State := live.set TWB_CH_STAT_STATE (5) (c.val);
      (decide ((s.chanState c.val = 5 ∧ (s.chan c).since + 1000 * s.get TWB_TIMEOUT_RETRY_STUCK_MS ≤ s.tick)) && (decide (¬sclHigh)))) = true ∧
    (let c : Fin 16 := 0; let s : State := live;
      (decide (¬(s.chanState c.val = 5 ∧ (s.chan c).since + 1000 * s.get TWB_TIMEOUT_RETRY_STUCK_MS ≤ s.tick)))) = true := by
  decide

theorem wit_twbClear :
    (let r : Requester := .spi; let c : Fin 16 := 0; let s : State := live.set TWB_CH_STAT_STATE 3 0;
      (decide (s.mayWrite r TWB_CMD_CLEAR.addr = true) && (decide ((let s := s.touch r; let s := s.set TWB_CMD_CH c.val;
      let st := s.chanState c.val; st = 3))))) = true ∧
    (let r : Requester := .spi; let c : Fin 16 := 0; let s : State := live.set TWB_CH_STAT_STATE 2 0;
      (decide (s.mayWrite r TWB_CMD_CLEAR.addr = true) && (decide (¬(let s := s.touch r; let s := s.set TWB_CMD_CH c.val;
      let st := s.chanState c.val; st = 3)) && (decide ((let s := s.touch r; let s := s.set TWB_CMD_CH c.val; let st := s.chanState c.val;
      st = 1 ∨ st = 2 ∨ st = 4)))))) = true ∧
    (let r : Requester := .policy; let c : Fin 16 := 0; let s : State := live; (decide (s.mayWrite r TWB_CMD_CLEAR.addr = true) &&
      (decide (¬(let s := s.touch r; let s := s.set TWB_CMD_CH c.val; let st := s.chanState c.val; st = 3)) && (decide (¬(let s := s.touch r;
      let s := s.set TWB_CMD_CH c.val; let st := s.chanState c.val; st = 1 ∨ st = 2 ∨ st = 4)))))) = true := by
  decide

theorem wit_twbReset :
    (let r : Requester := .spi; let c : Fin 16 := 0; let s : State := live.set TWB_CH_STAT_STATE 3 0;
      (decide (s.mayWrite r TWB_CMD_CLEAR.addr = true) && (decide ((let s := s.touch r; let s := s.set TWB_CMD_CH c.val;
      let st := s.chanState c.val; st = 3))))) = true ∧
    (let r : Requester := .spi; let c : Fin 16 := 0; let s : State := live.set TWB_CH_STAT_STATE 2 0;
      (decide (s.mayWrite r TWB_CMD_CLEAR.addr = true) && (decide (¬(let s := s.touch r; let s := s.set TWB_CMD_CH c.val;
      let st := s.chanState c.val; st = 3)) && (decide ((let s := s.touch r; let s := s.set TWB_CMD_CH c.val; let st := s.chanState c.val;
      st = 1 ∨ st = 2 ∨ st = 4)))))) = true ∧
    (let r : Requester := .policy; let c : Fin 16 := 0; let s : State := live; (decide (s.mayWrite r TWB_CMD_CLEAR.addr = true) &&
      (decide (¬(let s := s.touch r; let s := s.set TWB_CMD_CH c.val; let st := s.chanState c.val; st = 3)) && (decide (¬(let s := s.touch r;
      let s := s.set TWB_CMD_CH c.val; let st := s.chanState c.val; st = 1 ∨ st = 2 ∨ st = 4)))))) = true := by
  decide

theorem wit_hnFlush :
    (let r : Requester := .policy; let s : State := live; (decide (s.mayWrite r TWB_CMD_CLEAR.addr = true))) = true := by
  decide

theorem wit_hostNotify :
    (let c : Fin 16 := 0; let s : State := live; (decide ((!s.on TWB_CFG_HN_EN ∨ !([1, 2].contains (s.chanState c.val)) ∨ !s.twbMay)))) = true ∧
    (let c : Fin 16 := 0; let run : NotifyRun := .read; let s : State := hnS;
      (decide (¬(!s.on TWB_CFG_HN_EN ∨ !([1, 2].contains (s.chanState c.val)) ∨ !s.twbMay)) && (decide ((run = .read))))) = true ∧
    (let c : Fin 16 := 0; let run : NotifyRun := .rest [];
      let s : State := { hnS with twb := { notes := List.replicate 32 { ch := 0, addr := 0, data := 0, tick := 0 } } };
      (decide (¬(!s.on TWB_CFG_HN_EN ∨ !([1, 2].contains (s.chanState c.val)) ∨ !s.twbMay)) && (match run with | .rest l => (decide ((let s := s.setChan c { s.chan c with busFree := false, busyAt := s.tick }; 32 ≤ s.twb.notes.length))) | _ => false))) = true ∧
    (let c : Fin 16 := 0; let addr : Fin 128 := 0; let data : BitVec 16 := 0; let run : NotifyRun := .rest []; let s : State := hnS;
      (decide (¬(!s.on TWB_CFG_HN_EN ∨ !([1, 2].contains (s.chanState c.val)) ∨ !s.twbMay)) && (match run with | .rest l => (decide (¬(let s := s.setChan c { s.chan c with busFree := false, busyAt := s.tick }; 32 ≤ s.twb.notes.length)) && (decide (((let s := s.setChan c { s.chan c with busFree := false, busyAt := s.tick }; s.notifyPec c addr.val data.toNat l) = some true)))) | _ => false))) = true ∧
    (let c : Fin 16 := 0; let addr : Fin 128 := 0; let data : BitVec 16 := 0; let run : NotifyRun := .rest [0];
      let s : State := hnS.setBit TWB_HN_PEC_PEC 0 true;
      (decide (¬(!s.on TWB_CFG_HN_EN ∨ !([1, 2].contains (s.chanState c.val)) ∨ !s.twbMay)) && (match run with | .rest l => (decide (¬(let s := s.setChan c { s.chan c with busFree := false, busyAt := s.tick }; 32 ≤ s.twb.notes.length)) && (decide (((let s := s.setChan c { s.chan c with busFree := false, busyAt := s.tick }; s.notifyPec c addr.val data.toNat l) = some false)))) | _ => false))) = true ∧
    (let c : Fin 16 := 0; let addr : Fin 128 := 0; let data : BitVec 16 := 0; let run : NotifyRun := .rest [0]; let s : State := hnS;
      (decide (¬(!s.on TWB_CFG_HN_EN ∨ !([1, 2].contains (s.chanState c.val)) ∨ !s.twbMay)) && (match run with | .rest l => (decide (¬(let s := s.setChan c { s.chan c with busFree := false, busyAt := s.tick }; 32 ≤ s.twb.notes.length)) && (decide (((let s := s.setChan c { s.chan c with busFree := false, busyAt := s.tick }; s.notifyPec c addr.val data.toNat l) = none)))) | _ => false))) = true ∧
    (let c : Fin 16 := 0; let run : NotifyRun := .short;
      let s : State := { hnS with twb := { notes := List.replicate 32 { ch := 0, addr := 0, data := 0, tick := 0 } } };
      (decide (¬(!s.on TWB_CFG_HN_EN ∨ !([1, 2].contains (s.chanState c.val)) ∨ !s.twbMay)) && (decide ((run = .short)) &&
      (decide ((let s := s.setChan c { s.chan c with busFree := false, busyAt := s.tick }; 32 ≤ s.twb.notes.length)))))) = true ∧
    (let c : Fin 16 := 0; let run : NotifyRun := .short; let s : State := hnS;
      (decide (¬(!s.on TWB_CFG_HN_EN ∨ !([1, 2].contains (s.chanState c.val)) ∨ !s.twbMay)) && (decide ((run = .short)) &&
      (decide (¬(let s := s.setChan c { s.chan c with busFree := false, busyAt := s.tick }; 32 ≤ s.twb.notes.length)))))) = true ∧
    (let c : Fin 16 := 0; let run : NotifyRun := .ackSlot;
      let s : State := { hnS with twb := { notes := List.replicate 32 { ch := 0, addr := 0, data := 0, tick := 0 } } };
      (decide (¬(!s.on TWB_CFG_HN_EN ∨ !([1, 2].contains (s.chanState c.val)) ∨ !s.twbMay)) && (decide ((run = .ackSlot)) &&
      (decide ((let s := s.setChan c { s.chan c with busFree := false, busyAt := s.tick }; 32 ≤ s.twb.notes.length)))))) = true ∧
    (let c : Fin 16 := 0; let run : NotifyRun := .ackSlot; let s : State := hnS;
      (decide (¬(!s.on TWB_CFG_HN_EN ∨ !([1, 2].contains (s.chanState c.val)) ∨ !s.twbMay)) && (decide ((run = .ackSlot)) &&
      (decide (¬(let s := s.setChan c { s.chan c with busFree := false, busyAt := s.tick }; 32 ≤ s.twb.notes.length)))))) = true ∧
    (let c : Fin 16 := 0; let s : State := live.set TWB_CH_STAT_STATE (2) (c.val); (decide (s.on TWB_CFG_HN_EN = true) &&
      (decide (s.chanState c.val = 2) && (decide (s.twbMay = true))))) = true := by
  decide

/-! #### CatalogueCommands -/

theorem wit_accessionPassStart :
    (let s : State := live;
      (match passDue s.twb.lastPass (1000000 * s.get XAC_CFG_PASS_S) s.tick with | some t => (decide (s.mayPass)) | _ => false)) = true ∧
    (let s : State := State.reset;
      (match passDue s.twb.lastPass (1000000 * s.get XAC_CFG_PASS_S) s.tick with | some t => (decide (¬s.mayPass)) | _ => false)) = true ∧
    (let s : State := { live with twb := { lastPass := some 600000000000 } };
      (decide ((passDue s.twb.lastPass (1000000 * s.get XAC_CFG_PASS_S) s.tick = none)))) = true := by
  decide

theorem wit_xacPass :
    (let r : Requester := .policy; let s : State := live; (decide (s.mayWrite r XAC_CMD_PASS.addr = true) && (decide ((let s := s.touch r;
      s.mayPass))))) = true ∧
    (let r : Requester := .policy; let s : State := State.reset; (decide (s.mayWrite r XAC_CMD_PASS.addr = true) && (decide (¬(let s := s.touch r;
      s.mayPass))))) = true := by
  decide

theorem wit_accessionPassDone :
    (let s : State := live; (decide ((s.twb.passAt = none)))) = true ∧
    (let s : State := { live with twb := { passAt := some 0, acc := Vector.replicate 16 { todo := true } } };
      (match s.twb.passAt with | some t => (decide (((List.finRange 16).any (fun y => (s.acc y).todo)))) | _ => false)) = true ∧
    (let s : State := ((fun (s : State) => { s with twb := { s.twb with firstDone := true } }) (((fun (s : State) => { s with twb := { s.twb with passAt := some default } }) (live))));
      (match s.twb.passAt with | some t => (decide (¬((List.finRange 16).any (fun y => (s.acc y).todo))) && (decide ((let s := (s.inc XAC_ACC_STAT_PASSES).set XAC_ACC_STAT_LAST_MS (min ((s.tick - t + 999) / 1000) 65535); let s := { s with twb := { s.twb with passAt := none } }; s.twb.firstDone)))) | _ => false)) = true ∧
    (let s : State := ((fun (s : State) => { s with twb := { s.twb with passAt := some default } }) (live));
      (match s.twb.passAt with | some t => (decide (¬((List.finRange 16).any (fun y => (s.acc y).todo))) && (decide (¬(let s := (s.inc XAC_ACC_STAT_PASSES).set XAC_ACC_STAT_LAST_MS (min ((s.tick - t + 999) / 1000) 65535); let s := { s with twb := { s.twb with passAt := none } }; s.twb.firstDone)))) | _ => false)) = true ∧
    (let s : State := ((fun (s : State) => { s with twb := { s.twb with firstDone := true } }) (((fun (s : State) => { s with twb := { s.twb with passAt := some default } }) (live))));
      (match s.twb.passAt with | some b => (decide ((List.finRange 16).any (fun y => (s.acc y).todo) = false) && (decide (s.twb.firstDone = true))) | _ => false)) = true := by
  decide

theorem wit_entrySilentTimeout :
    (let n : Fin 1024 := 0; let s : State := { live.setEnt 0 2 1 2 with twb := { aux := [(0, { tried := true })] } }; (decide ((let x := s.entAux n.val;
      s.entState n.val = 2 ∧ x.tried ∧ x.lastOk + 1000 * s.get XAC_CFG_SILENT_MS ≤ s.tick)))) = true ∧
    (let n : Fin 1024 := 0; let s : State := live; (decide (¬(let x := s.entAux n.val;
      s.entState n.val = 2 ∧ x.tried ∧ x.lastOk + 1000 * s.get XAC_CFG_SILENT_MS ≤ s.tick)))) = true := by
  decide

theorem wit_deaccessionTimeout :
    (let n : Fin 1024 := 0; let s : State := live.setEnt 0 2 1 3;
      (decide ((s.boot.firmware ∧ s.entState n.val = 3 ∧ (s.entAux n.val).silentAt + 1000000 * s.get XAC_LIFE_DEACC_S ≤ s.tick)) &&
      (decide (¬(let n : Nat := n.val; s.entState n = 0))))) = true ∧
    (let n : Fin 1024 := 0; let s : State := live;
      (decide (¬(s.boot.firmware ∧ s.entState n.val = 3 ∧ (s.entAux n.val).silentAt + 1000000 * s.get XAC_LIFE_DEACC_S ≤ s.tick)))) = true := by
  decide

theorem wit_deaccede :
    (let r : Requester := .policy; let s : State := live; (decide (s.mayWrite r XAC_CMD_PASS.addr = true))) = true := by
  decide

theorem wit_pollDue :
    (let s : State := State.reset; (decide ((s.tick % 1000 ≠ 0 ∨ !s.twbMay)))) = true ∧
    (let s : State := live; (decide (¬(s.tick % 1000 ≠ 0 ∨ !s.twbMay)))) = true ∧
    (let s : State := live; (decide (s.tick % 1000 = 0) && (decide (s.twbMay = true)))) = true := by
  decide

theorem wit_requestComplete :
    (let s : State := live; (decide ((s.twb.reqs.find? (fun q => q.ended.isSome) = none)))) = true ∧
    (let s : State := endS;
      (match s.twb.reqs.find? (fun q => q.ended.isSome) with | some q => (match q.ended with | some r => (decide ((let s := s.complete q r; s.twb.passAt.isNone ∨ (List.finRange 16).any (fun y => (s.acc y).todo && (s.acc y).phase != .idle)))) | _ => false) | _ => false)) = true ∧
    (let s : State := { endS.set TWB_ARP_CFG_ARP_EN 0xFFFF with twb := { endS.twb with passAt := some 0, acc := Vector.replicate 16 { todo := true } } };
      (match s.twb.reqs.find? (fun q => q.ended.isSome) with | some q => (match q.ended with | some r => (decide (¬(let s := s.complete q r; s.twb.passAt.isNone ∨ (List.finRange 16).any (fun y => (s.acc y).todo && (s.acc y).phase != .idle))) && (match (let s := s.complete q r; (List.finRange 16).find? (fun y => (s.acc y).todo && (s.acc y).phase == .idle)) with | some c => (decide ((let s := s.complete q r; let s := s.setAcc c { todo := true, phase := .idle }; s.bitOn TWB_ARP_CFG_ARP_EN c.val))) | _ => false)) | _ => false) | _ => false)) = true ∧
    (let s : State := { endS.set TWB_ARP_CFG_ARP_EN 0 with twb := { endS.twb with passAt := some 0, acc := Vector.replicate 16 { todo := true } } };
      (match s.twb.reqs.find? (fun q => q.ended.isSome) with | some q => (match q.ended with | some r => (decide (¬(let s := s.complete q r; s.twb.passAt.isNone ∨ (List.finRange 16).any (fun y => (s.acc y).todo && (s.acc y).phase != .idle))) && (match (let s := s.complete q r; (List.finRange 16).find? (fun y => (s.acc y).todo && (s.acc y).phase == .idle)) with | some c => (decide (¬(let s := s.complete q r; let s := s.setAcc c { todo := true, phase := .idle }; s.bitOn TWB_ARP_CFG_ARP_EN c.val))) | _ => false)) | _ => false) | _ => false)) = true ∧
    (let s : State := { endS with twb := { endS.twb with passAt := some 0 } };
      (match s.twb.reqs.find? (fun q => q.ended.isSome) with | some q => (match q.ended with | some r => (decide (¬(let s := s.complete q r; s.twb.passAt.isNone ∨ (List.finRange 16).any (fun y => (s.acc y).todo && (s.acc y).phase != .idle))) && (decide (((let s := s.complete q r; (List.finRange 16).find? (fun y => (s.acc y).todo && (s.acc y).phase == .idle)) = none)))) | _ => false) | _ => false)) = true := by
  decide

theorem wit_requestTimeout :
    (let s : State := live;
      (decide ((s.twb.reqs.find? (fun q => !q.dead && q.ended.isNone && decide (q.at_ + 1000 * s.get XAC_LIFE_XAC_TMO_MS ≤ s.tick)) = none)))) = true ∧
    (let s : State := { live with twb := { reqs := [req0] } };
      (match s.twb.reqs.find? (fun q => !q.dead && q.ended.isNone && decide (q.at_ + 1000 * s.get XAC_LIFE_XAC_TMO_MS ≤ s.tick)) with | some q => true | _ => false)) = true := by
  decide

theorem wit_hreqSubmit :
    (let r : Requester := .policy; let w : Word := 0; let s : State := live;
      (decide (s.mayWrite r XAC_HREQ_ENTRY.addr = true) && (match findRow XAC_HREQ_ENTRY.addr with | some row => (decide ((let al : Nat := 0; let w : Word := w ||| 0x80000000; al ≤ 1 ∧ bitIn w XAC_HREQ_SUBMIT))) | _ => false))) = true := by
  decide

theorem wit_catalogueScheduleWrite :
    (let r : Requester := .spi; let off : Fin 0x20000 := 0x30; let s : State := live; (decide (s.mayWrite r (0x380000 + off.val) = true) &&
      (decide ((scheduleOff off.val)) && (decide ((let s := s.touch r; let off : Nat := off.val; s.entState (off / 0x80) = 0)))))) = true ∧
    (let r : Requester := .spi; let off : Fin 0x20000 := 0x30; let s : State := (ovr 0x380030).setEnt 0 2 1 2;
      (decide (s.mayWrite r (0x380000 + off.val) = true) && (decide ((scheduleOff off.val)) && (decide (¬(let s := s.touch r;
      let off : Nat := off.val; s.entState (off / 0x80) = 0)) && (decide ((let s := s.touch r; let off : Nat := off.val;
      let k : Nat := 0x380000 + off; s.overruled r k))))))) = true ∧
    (let r : Requester := .spi; let off : Fin 0x20000 := 0x30; let s : State := live.setEnt 0 2 1 2;
      (decide (s.mayWrite r (0x380000 + off.val) = true) && (decide ((scheduleOff off.val)) && (decide (¬(let s := s.touch r;
      let off : Nat := off.val; s.entState (off / 0x80) = 0)) && (decide (¬(let s := s.touch r; let off : Nat := off.val;
      let k : Nat := 0x380000 + off; s.overruled r k))))))) = true ∧
    (let r : Requester := .policy; let off : Fin 0x20000 := 0; let s : State := live; (decide (s.mayWrite r (0x380000 + off.val) = true) &&
      (decide (¬(scheduleOff off.val))))) = true := by
  decide

/-! #### BlackBoxCommands -/

theorem wit_blackBoxBlock :
    (let copied : Nat := 0; let s : State := State.reset; (decide ((let s := s.copyTops copied;
      s.tick % 1000 ≠ 0 ∨ s.tick = 0 ∨ s.boot.g.isNone)))) = true ∧
    (let copied : Nat := 0; let s : State := live; (decide (¬(let s := s.copyTops copied; s.tick % 1000 ≠ 0 ∨ s.tick = 0 ∨ s.boot.g.isNone)) &&
      (decide ((let s := s.copyTops copied; !s.on BBX_CTRL_EN ∨ s.bbx.cur.isEmpty))))) = true ∧
    (let copied : Nat := 0; let s : State := { live.setB BBX_CTRL_EN true with bbx := { cur := [default] } }; (decide (¬(let s := s.copyTops copied;
      s.tick % 1000 ≠ 0 ∨ s.tick = 0 ∨ s.boot.g.isNone)) && (decide (¬(let s := s.copyTops copied; !s.on BBX_CTRL_EN ∨ s.bbx.cur.isEmpty))))) = true := by
  decide

theorem wit_blackBoxTrigger :
    (let src : Fin 32 := 0; let s : State := live; (decide (((s.inc BBX_CNT_TRIGGERS).windowsEnd).triggerEnabled src.val = false))) = true ∧
    (let src : Fin 32 := 1; let s : State := live; (decide ((let s := (s.inc BBX_CNT_TRIGGERS).windowsEnd;
      !s.triggerEnabled src.val || !s.on BBX_CTRL_EN || s.boot.g.isNone) = false) &&
      (decide ((s.inc BBX_CNT_TRIGGERS).windowsEnd.bbx.recs = [])))) = true := by
  decide

theorem wit_bbxTriggerCmd :
    (let r : Requester := .policy; let s : State := live; (decide (s.mayWrite r BBX_CMD_TRIGGER.addr = true))) = true := by
  decide

theorem wit_pin :
    (let r : Requester := .spi; let k : Fin 16 := 0; let s : State := { live with bbx := { dir := Vector.replicate 16 { pinned := true } } };
      (decide (s.mayWrite r BBX_CMD_PIN.addr = true) && (decide ((let s := s.touch r; let e := s.bbx.dir.get k; e.pinned))))) = true ∧
    (let r : Requester := .spi; let k : Fin 16 := 0; let s : State := { live with bbx := { dir := Vector.replicate 16 { state := 2 } } };
      (decide (s.mayWrite r BBX_CMD_PIN.addr = true) && (decide (¬(let s := s.touch r; let e := s.bbx.dir.get k; e.pinned)) &&
      (decide ((let s := s.touch r; let e := s.bbx.dir.get k; let pinned := ((List.finRange 16).filter (fun r => (s.bbx.dir.get r).pinned)).length;
      2 ≤ e.state ∧ pinned < 4)))))) = true ∧
    (let r : Requester := .policy; let k : Fin 16 := 0; let s : State := live; (decide (s.mayWrite r BBX_CMD_PIN.addr = true) &&
      (decide (¬(let s := s.touch r; let e := s.bbx.dir.get k; e.pinned)) && (decide (¬(let s := s.touch r; let e := s.bbx.dir.get k;
      let pinned := ((List.finRange 16).filter (fun r => (s.bbx.dir.get r).pinned)).length; 2 ≤ e.state ∧ pinned < 4)))))) = true := by
  decide

theorem wit_unpin :
    (let r : Requester := .policy; let s : State := live; (decide (s.mayWrite r BBX_CMD_UNPIN.addr = true))) = true := by
  decide

theorem wit_delete :
    (let r : Requester := .spi; let k : Fin 16 := 0; let s : State := { live with bbx := { dir := Vector.replicate 16 { state := 1 } } };
      (decide (s.mayCommand r BBX_CMD_DELETE.addr .curator = true) && (decide ((let s := s.touch r; (s.bbx.dir.get k).state = 1))))) = true ∧
    (let r : Requester := .policy; let k : Fin 16 := 0; let s : State := live; (decide (s.mayCommand r BBX_CMD_DELETE.addr .curator = true) &&
      (decide (¬(let s := s.touch r; (s.bbx.dir.get k).state = 1))))) = true := by
  decide

theorem wit_strataCommitComplete :
    (let s : State := live; (decide (s.bbx.recs = []))) = true ∧
    (let s : State := { live with bbx := { recs := [{ box0 with window := true }] } };
      (match s.bbx.recs with | r :: l => (decide ((r.window ∨ (s.tick < 100000 * (r.t / 100000 + 1) ∧ s.power ≠ .ship)))) | _ => false)) = true ∧
    (let s : State := { live with bbx := { recs := [{ box0 with t := 0 }] } };
      (match s.bbx.recs with | r :: l => (decide (¬(r.window ∨ (s.tick < 100000 * (r.t / 100000 + 1) ∧ s.power ≠ .ship))) && (match (s.copyTops 251).bbx.recs with | r1 :: l1 => true | _ => false)) | _ => false)) = true := by
  decide

/-! #### RecorderCommands -/

theorem wit_lossSummaryQueued :
    (let s : State := live; (decide ((256 < s.freePlaces)))) = true ∧
    (let s : State := { live with evr := { queue := List.replicate 1792 evRec } }; (decide (¬(256 < s.freePlaces)))) = true ∧
    (let s : State := { live with evr := { dropEvent := { count := 1 } } }; (decide (256 < s.freePlaces) && (decide (s.evr.dropTrace.count = 0) &&
      (decide (0 < s.evr.dropEvent.count))))) = true := by
  decide

theorem wit_eventDrain :
    (let s : State := live; (decide ((s.evr.queue = [])))) = true ∧
    (let s : State := { State.reset with evr := { queue := [evRec] } };
      (match s.evr.queue with | r :: rest => (decide (s.boot.g.isNone)) | _ => false)) = true ∧
    (let s : State := { live with evr := { queue := [evRec] }, nvm := { strata := true } };
      (match s.evr.queue with | r :: rest => (decide (¬s.boot.g.isNone) && (decide ((s.nvm.strata || s.nvm.bake.isSome)))) | _ => false)) = true ∧
    (let s : State := { live with evr := { queue := [evRec] } };
      (match s.evr.queue with | r :: rest => (decide (¬s.boot.g.isNone) && (decide (¬(s.nvm.strata || s.nvm.bake.isSome)))) | _ => false)) = true := by
  decide

theorem wit_bucketRefill :
    (let s : State := State.reset; (decide ((let n := s.tick / 1000 - s.evr.refilled; n = 0)))) = true ∧
    (let s : State := live; (decide (¬(let n := s.tick / 1000 - s.evr.refilled; n = 0)))) = true := by
  decide

theorem wit_suppressionWindowEnd :
    (let s : State := State.reset; (decide ((s.tick / 1000000 = s.evr.window)))) = true ∧
    (let s : State := live; (decide (¬(s.tick / 1000000 = s.evr.window)))) = true := by
  decide

theorem wit_rlCfgWrite :
    (let r : Requester := .spi; let s : State := ovr EVR_RL_CFG_CODE.addr; (decide (s.mayWrite r EVR_RL_CFG_CODE.addr = true) &&
      (decide ((let s := s.touch r; let k : Nat := EVR_RL_CFG_CODE.addr; s.overruled r k))))) = true ∧
    (let r : Requester := .policy; let s : State := live; (decide (s.mayWrite r EVR_RL_CFG_CODE.addr = true) && (decide (¬(let s := s.touch r;
      let k : Nat := EVR_RL_CFG_CODE.addr; s.overruled r k))))) = true := by
  decide

theorem wit_evrHeadRead :
    (let r : Requester := .policy; let s : State := live; (decide (s.mayRead r EVR_HEAD_SEQ.addr = true))) = true := by
  decide

theorem wit_clear :
    (let r : Requester := .policy; let s : State := live; (decide (s.mayCommand r EVR_CMD_CLEAR.addr .curator = true) && (decide ((let s := s.touch r;
      let q := s.get (srcField (s.srcOf r) EVR_CLEAR_SEQ_SEQ); q = s.get EVR_HEAD_SEQ))))) = true ∧
    (let r : Requester := .spi; let s : State := live.set (srcField .spi EVR_CLEAR_SEQ_SEQ) 1;
      (decide (s.mayCommand r EVR_CMD_CLEAR.addr .curator = true) && (decide (¬(let s := s.touch r;
      let q := s.get (srcField (s.srcOf r) EVR_CLEAR_SEQ_SEQ); q = s.get EVR_HEAD_SEQ))))) = true := by
  decide

theorem wit_inject :
    (let r : Requester := .policy; let s : State := live; (decide (s.mayCommand r EVR_CMD_INJECT.addr .conservator = true))) = true := by
  decide

theorem wit_timeSave :
    (let s : State := live; (decide ((s.tick % 10000000 = 0)))) = true ∧
    (let s : State := oddS; (decide (¬(s.tick % 10000000 = 0)))) = true := by
  decide

/-! #### PairFrames -/

theorem wit_beaconSend :
    (let s : State := pairU; (decide ((s.inPair && s.sdGood && s.boot.g.isSome && decide (s.pairTick % 10 = 0))))) = true ∧
    (let s : State := live; (decide (¬(s.inPair && s.sdGood && s.boot.g.isSome && decide (s.pairTick % 10 = 0))))) = true ∧
    (let s : State := pairU; (decide (s.inPair = true) && (decide (s.sdGood = true) && (decide (s.boot.g.isSome = true) &&
      (decide (s.pairTick % 10 = 0)))))) = true := by
  decide

theorem wit_loopSend :
    (let s : State := (pairU.setB HLK_STAT_LINK_UP true).setB HLK_STATE_PRIMARY true;
      (decide ((s.mirrors 1 && s.on HLK_STATE_PRIMARY && decide (s.pairTick % 100 = 0))))) = true ∧
    (let s : State := live; (decide (¬(s.mirrors 1 && s.on HLK_STATE_PRIMARY && decide (s.pairTick % 100 = 0))))) = true ∧
    (let s : State := (pairU.setB HLK_STAT_LINK_UP true).setB HLK_STATE_PRIMARY true; (decide (s.mirrors 1 = true) &&
      (decide (s.on HLK_STATE_PRIMARY = true) && (decide (s.pairTick % 100 = 0))))) = true := by
  decide

theorem wit_pairBeacon :
    (let h : FrameHead := { seq := 0, epoch := 0, ptick := 0, crcOk := false, inOrder := true }; let s : State := pairU; (decide (s.inPair = true) &&
      (decide (s.sdGood = true) && (decide (h.crcOk = false))))) = true ∧
    (let h : FrameHead := { seq := 0, epoch := 0, ptick := 0, crcOk := true, inOrder := true }; let s : State := pairU; (decide (s.inPair = true) &&
      (decide (s.sdGood = true) && (decide (h.crcOk = true))))) = true := by
  decide

theorem wit_pairAck :
    (let h : FrameHead := { seq := 0, epoch := 0, ptick := 0, crcOk := true, inOrder := true }; let s : State := pairU; (decide (s.inPair = true) &&
      (decide (s.sdGood = true) && (decide (h.crcOk = true))))) = true ∧
    (let h : FrameHead := { seq := 0, epoch := 0, ptick := 0, crcOk := false, inOrder := true }; let s : State := pairU; (decide (s.inPair = true) &&
      (decide (s.sdGood = true) && (decide (h.crcOk = false))))) = true ∧
    (let h : FrameHead := { seq := 0, epoch := 0, ptick := 0, crcOk := true, inOrder := true }; let s : State := pairU; (decide (s.inPair = true) &&
      (decide (s.sdGood = true) && (decide (h.crcOk = true))))) = true := by
  decide

theorem wit_pairNak :
    (let h : FrameHead := { seq := 0, epoch := 0, ptick := 0, crcOk := false, inOrder := true }; let s : State := pairU; (decide (s.inPair = true) &&
      (decide (s.sdGood = true) && (decide (h.crcOk = false))))) = true ∧
    (let h : FrameHead := { seq := 0, epoch := 0, ptick := 0, crcOk := true, inOrder := true }; let s : State := pairU; (decide (s.inPair = true) &&
      (decide (s.sdGood = true) && (decide (h.crcOk = true))))) = true := by
  decide

theorem wit_pairObject :
    (let h : FrameHead := { seq := 0, epoch := 0, ptick := 0, crcOk := false, inOrder := true }; let s : State := pairU; (decide (s.inPair = true) &&
      (decide (s.sdGood = true) && (decide (h.crcOk = false))))) = true := by
  decide

theorem wit_pairLoop :
    (let h : FrameHead := { seq := 0, epoch := 0, ptick := 0, crcOk := false, inOrder := true }; let s : State := pairU; (decide (s.inPair = true) &&
      (decide (s.sdGood = true) && (decide (h.crcOk = false))))) = true ∧
    (let h : FrameHead := { seq := 0, epoch := 0, ptick := 0, crcOk := true, inOrder := true }; let s : State := pairU; (decide (s.inPair = true) &&
      (decide (s.sdGood = true) && (decide (h.crcOk = true))))) = true := by
  decide

theorem wit_pairConfig :
    (let h : FrameHead := { seq := 0, epoch := 0, ptick := 0, crcOk := false, inOrder := true }; let s : State := pairU; (decide (s.inPair = true) &&
      (decide (s.sdGood = true) && (decide (h.crcOk = false))))) = true := by
  decide

theorem wit_pairEstimator :
    (let h : FrameHead := { seq := 0, epoch := 0, ptick := 0, crcOk := false, inOrder := true }; let s : State := pairU; (decide (s.inPair = true) &&
      (decide (s.sdGood = true) && (decide (h.crcOk = false))))) = true := by
  decide

theorem wit_pairCatalogue :
    (let h : FrameHead := { seq := 0, epoch := 0, ptick := 0, crcOk := false, inOrder := true }; let s : State := pairU; (decide (s.inPair = true) &&
      (decide (s.sdGood = true) && (decide (h.crcOk = false))))) = true := by
  decide

theorem wit_pairCommand :
    (let h : FrameHead := { seq := 0, epoch := 0, ptick := 0, crcOk := false, inOrder := true }; let s : State := pairU; (decide (s.inPair = true) &&
      (decide (s.sdGood = true) && (decide (h.crcOk = false))))) = true := by
  decide

theorem wit_pairBulk :
    (let h : FrameHead := { seq := 0, epoch := 0, ptick := 0, crcOk := false, inOrder := true }; let s : State := pairU; (decide (s.inPair = true) &&
      (decide (s.sdGood = true) && (decide (h.crcOk = false))))) = true := by
  decide

/-! #### PairTimers -/

theorem wit_helkarRetransmit :
    (let s : State := live; (decide ((let due := s.hlk.unacked.filter (fun f => decide (f.at_ + 20 ≤ s.tick)); due.isEmpty ∨ !s.linkUp)))) = true ∧
    (let s : State := { linkS with hlk := { unacked := [{ seq := 0, body := .command 0, at_ := 0, resends := 8 }] } };
      (decide (¬(let due := s.hlk.unacked.filter (fun f => decide (f.at_ + 20 ≤ s.tick)); due.isEmpty ∨ !s.linkUp)) &&
      (decide ((let due := s.hlk.unacked.filter (fun f => decide (f.at_ + 20 ≤ s.tick)); due.any (fun f => decide (8 ≤ f.resends)))) &&
      (decide (¬(!s.on HLK_STAT_LINK_UP)))))) = true ∧
    (let s : State := { linkS with hlk := { unacked := [{ seq := 0, body := .command 0, at_ := 0, resends := 0 }] } };
      (decide (¬(let due := s.hlk.unacked.filter (fun f => decide (f.at_ + 20 ≤ s.tick)); due.isEmpty ∨ !s.linkUp)) &&
      (decide (¬(let due := s.hlk.unacked.filter (fun f => decide (f.at_ + 20 ≤ s.tick)); due.any (fun f => decide (8 ≤ f.resends))))))) = true ∧
    (let f : Sent := { seq := 0, body := .command 0, at_ := 0, resends := 0 };
      let s : State := { linkS with hlk := { unacked := [{ seq := 0, body := .command 0, at_ := 0, resends := 0 }] } };
      (decide (s.hlk.unacked = [f]) && (decide (f.at_ + 20 ≤ s.tick) && (decide (f.resends < 8) && (decide (s.linkUp = true)))))) = true := by
  decide

theorem wit_helkarLinkTimeout :
    (let s : State := live; (decide ((!s.inPair)))) = true ∧
    (let violations : Nat := 0; let s : State := pairU; (decide (¬(!s.inPair)) && (decide ((let s := s.violated violations;
      let late := (match s.hlk.beaconAt with | some t => decide (t + 1 + s.get HLK_TIMING_LINK_TMO ≤ s.tick) | none => true);
      late = true ∨ 16 < s.hlk.violations.2)) && (decide ((let s := s.violated violations; !s.on HLK_STAT_LINK_UP)))))) = true ∧
    (let violations : Nat := 0; let s : State := pairU.setB HLK_STAT_LINK_UP true; (decide (¬(!s.inPair)) && (decide ((let s := s.violated violations;
      let late := (match s.hlk.beaconAt with | some t => decide (t + 1 + s.get HLK_TIMING_LINK_TMO ≤ s.tick) | none => true);
      late = true ∨ 16 < s.hlk.violations.2)) && (decide (¬(let s := s.violated violations; !s.on HLK_STAT_LINK_UP)))))) = true ∧
    (let violations : Nat := 0; let s : State := { linkS with hlk := { beaconAt := some 600000000000 } }; (decide (¬(!s.inPair)) &&
      (decide (¬(let s := s.violated violations;
      let late := (match s.hlk.beaconAt with | some t => decide (t + 1 + s.get HLK_TIMING_LINK_TMO ≤ s.tick) | none => true);
      late = true ∨ 16 < s.hlk.violations.2))))) = true := by
  decide

theorem wit_pairOffsetSlew :
    (let s : State := linkS.setI HLK_TIME_STAT_ERR 5; (decide ((let e := s.getI HLK_TIME_STAT_ERR;
      s.following ∧ s.hlk.newOffset.isNone ∧ s.hlk.slewAt + 1000 ≤ s.tick ∧ e ≠ 0)))) = true ∧
    (let s : State := live; (decide (¬(let e := s.getI HLK_TIME_STAT_ERR;
      s.following ∧ s.hlk.newOffset.isNone ∧ s.hlk.slewAt + 1000 ≤ s.tick ∧ e ≠ 0)))) = true ∧
    (let s : State := (pairU.setB HLK_STAT_LINK_UP true).setI HLK_TIME_STAT_ERR ((0) + 1); (decide (s.following = true) &&
      (decide (s.hlk.newOffset = none) && (decide (s.hlk.slewAt + 1000 ≤ s.tick) && (decide (s.getI HLK_TIME_STAT_ERR ≠ 0)))))) = true := by
  decide

theorem wit_witnessPollSend :
    (let x : Fin 2 := 0; let s : State := ((fun (s : State) => { s with hlk := { s.hlk with reg := { s.hlk.reg with since := some 0 } } }) (regS));
      (decide ((s.unitRole = 3 ∧ s.hlk.reg.since.isSome ∧ s.hlk.reg.pollAt.get x + s.get HLK_WIT_TIME_POLL_US ≤ s.tick)))) = true ∧
    (let x : Fin 2 := 0; let s : State := live;
      (decide (¬(s.unitRole = 3 ∧ s.hlk.reg.since.isSome ∧ s.hlk.reg.pollAt.get x + s.get HLK_WIT_TIME_POLL_US ≤ s.tick)))) = true ∧
    (let x : Fin 2 := 0; let s : State := ((fun (s : State) => { s with hlk := { s.hlk with reg := { s.hlk.reg with since := some 0 } } }) (regS));
      (decide (s.unitRole = 3) && (decide (s.hlk.reg.since.isSome = true) &&
      (decide (s.hlk.reg.pollAt.get x + s.get HLK_WIT_TIME_POLL_US ≤ s.tick))))) = true := by
  decide

theorem wit_heartbeatTimeout :
    (let x : Fin 2 := 0; let s : State := { live.set SYS_STRAP_LATCHED 3 with hlk := { reg := { since := some 0 } } };
      (decide ((s.unitRole = 3 ∧ s.unitSilent x)) && (decide ((let s := s.witClear; !s.hlk.reg.started || !s.unitSilent x))))) = true ∧
    (let x : Fin 2 := 0;
      let s : State := { live.set SYS_STRAP_LATCHED 3 with hlk := { reg := { since := some 0, started := true, fenceSent := some (0, 0) } } };
      (decide ((s.unitRole = 3 ∧ s.unitSilent x)) && (decide (¬(let s := s.witClear; !s.hlk.reg.started || !s.unitSilent x)) &&
      (decide ((let s := s.witClear; s.fencing x)))))) = true ∧
    (let x : Fin 2 := 0;
      let s : State := { (live.set SYS_STRAP_LATCHED 3).set (viewField 1) 1 with hlk := { reg := { since := some 0, started := true, last := #v[none, some (hb0, 600000000000)] } } };
      (decide ((s.unitRole = 3 ∧ s.unitSilent x)) && (decide (¬(let s := s.witClear; !s.hlk.reg.started || !s.unitSilent x)) &&
      (decide (¬(let s := s.witClear; s.fencing x)) && (decide ((let s := s.witClear; let y : Fin 2 := 1 - x;
      s.viewOf y == 1 && s.viewOf x != 2 && (match s.lastBeat y with | some m => !m.partHeard | none => false)))))))) = true ∧
    (let x : Fin 2 := 0; let s : State := { live.set SYS_STRAP_LATCHED 3 with hlk := { reg := { since := some 0, started := true } } };
      (decide ((s.unitRole = 3 ∧ s.unitSilent x)) && (decide (¬(let s := s.witClear; !s.hlk.reg.started || !s.unitSilent x)) &&
      (decide (¬(let s := s.witClear; s.fencing x)) && (decide (¬(let s := s.witClear; let y : Fin 2 := 1 - x;
      s.viewOf y == 1 && s.viewOf x != 2 && (match s.lastBeat y with | some m => !m.partHeard | none => false)))))))) = true ∧
    (let x : Fin 2 := 0; let s : State := live; (decide (¬(s.unitRole = 3 ∧ s.unitSilent x)))) = true := by
  decide

theorem wit_registrarStart :
    (let s : State := live; (decide ((s.hlk.reg.since = none)))) = true ∧
    (let s : State := ((fun (s : State) => { s with hlk := { s.hlk with reg := { s.hlk.reg with since := some default } } }) (live));
      (match s.hlk.reg.since with | some t => (decide ((let l := (List.finRange 2).filter (fun x => (s.lastBeat x).isSome); s.unitRole ≠ 3 ∨ s.hlk.reg.started ∨ l.isEmpty ∨ (l.length = 1 ∧ s.tick < t + s.get HLK_WIT_TIME_HB_TMO)))) | _ => false)) = true ∧
    (let s : State := { live.set SYS_STRAP_LATCHED 3 with hlk := { reg := { since := some 0, last := Vector.replicate 2 (some (hb0, 0)) } } };
      (match s.hlk.reg.since with | some t => (decide (¬(let l := (List.finRange 2).filter (fun x => (s.lastBeat x).isSome); s.unitRole ≠ 3 ∨ s.hlk.reg.started ∨ l.isEmpty ∨ (l.length = 1 ∧ s.tick < t + s.get HLK_WIT_TIME_HB_TMO)))) | _ => false)) = true ∧
    (let b : Nat := 0;
      let s : State := { live.set SYS_STRAP_LATCHED 3 with hlk := { reg := { since := some 0, last := Vector.replicate 2 (some (hb0, 0)) } } };
      (decide (s.hlk.reg.since = some b) && (decide (s.unitRole = 3) && (decide (s.hlk.reg.started = false) &&
      (decide ((s.lastBeat 0).isSome = true) && (decide ((s.lastBeat 1).isSome = true))))))) = true := by
  decide

theorem wit_epochEffective :
    (let s : State := live; (decide ((s.hlk.wait = none)))) = true ∧
    (let s : State := { live with tick := 100, hlk := { wait := some (1, { cause := 1, map := 0, primaryB := false, lost := 0, eff := 200 }) } };
      (match s.hlk.wait with | some (e, m) => (decide ((2 ^ 31 ≤ ((s.pairTick % 2 ^ 32).toNat + 2 ^ 32 - m.eff.toNat % 2 ^ 32) % 2 ^ 32))) | _ => false)) = true ∧
    (let s : State := { live with tick := 100, hlk := { wait := some (1, { cause := 1, map := 0, primaryB := false, lost := 0, eff := 0 }) } };
      (match s.hlk.wait with | some (e, m) => (decide (¬(2 ^ 31 ≤ ((s.pairTick % 2 ^ 32).toNat + 2 ^ 32 - m.eff.toNat % 2 ^ 32) % 2 ^ 32))) | _ => false)) = true := by
  decide

theorem wit_fenceTimeout :
    (let s : State := pairU;
      (decide ((s.inPair && s.boot.g.isSome && !s.on HLK_STAT_PARTNER_LOST && decide (max (s.silentFrom s.hlk.beaconAt) (s.silentFrom s.hlk.regAt) + s.get HLK_TIMING_FENCE_TMO ≤ s.tick))) &&
      (decide (¬(let cause : Nat := 3; let f := fun s => s.fence cause; let was := s.following; let s := f s; was && !s.following))))) = true ∧
    (let s : State := live;
      (decide (¬(s.inPair && s.boot.g.isSome && !s.on HLK_STAT_PARTNER_LOST && decide (max (s.silentFrom s.hlk.beaconAt) (s.silentFrom s.hlk.regAt) + s.get HLK_TIMING_FENCE_TMO ≤ s.tick))))) = true := by
  decide

theorem wit_stableExpiry :
    (let s : State := (pairU.set HLK_STATE_JOIN (4)).setB HLK_STAT_LINK_UP true;
      (decide ((s.join = 4 ∧ s.linkUp ∧ s.on HLK_CFG_AUTO_REVERT ∧ s.hlk.stableSince + 1000000 * s.get HLK_CFG_STABLE_S ≤ s.tick)))) = true ∧
    (let s : State := live;
      (decide (¬(s.join = 4 ∧ s.linkUp ∧ s.on HLK_CFG_AUTO_REVERT ∧ s.hlk.stableSince + 1000000 * s.get HLK_CFG_STABLE_S ≤ s.tick)))) = true := by
  decide

theorem wit_fencedRejoinTimer :
    (let s : State := (((fun (s : State) => { s with hlk := { s.hlk with partView := 1 } }) ((((fun (s : State) => { s with hlk := { s.hlk with upSince := some default } }) (pairU))).setB HLK_STAT_LINK_UP true))).set HLK_STATE_JOIN (6);
      (match s.hlk.upSince with | some t => (decide ((s.linkUp ∧ t + 1000000 ≤ s.tick ∧ s.hlk.partView = 1)) && (decide ((s.join = 6 ∧ s.power ≠ .halt)))) | _ => false)) = true ∧
    (let s : State := ((fun (s : State) => { s with hlk := { s.hlk with partView := 1 } }) ((((fun (s : State) => { s with hlk := { s.hlk with upSince := some default } }) (pairU))).setB HLK_STAT_LINK_UP true));
      (match s.hlk.upSince with | some t => (decide ((s.linkUp ∧ t + 1000000 ≤ s.tick ∧ s.hlk.partView = 1)) && (decide (¬(s.join = 6 ∧ s.power ≠ .halt)))) | _ => false)) = true ∧
    (let s : State := ((fun (s : State) => { s with hlk := { s.hlk with upSince := some default } }) (live));
      (match s.hlk.upSince with | some t => (decide (¬(s.linkUp ∧ t + 1000000 ≤ s.tick ∧ s.hlk.partView = 1))) | _ => false)) = true ∧
    (let s : State := live; (decide ((s.hlk.upSince = none)))) = true := by
  decide

theorem wit_registrarLostTimeout :
    (let s : State := pairU; (decide ((s.inPair && s.boot.g.isSome && decide (s.silentFrom s.hlk.regAt + s.get HLK_WIT_TIME_HB_TMO ≤ s.tick))))) = true ∧
    (let s : State := live; (decide (¬(s.inPair && s.boot.g.isSome && decide (s.silentFrom s.hlk.regAt + s.get HLK_WIT_TIME_HB_TMO ≤ s.tick))))) = true := by
  decide

/-! #### PairMessages -/

theorem wit_witnessPoll :
    (let s : State := live.set HLK_CFG_WIT_PATH ((0) + 1); (decide (s.witBalls = false))) = true ∧
    (let s : State := pairU; (decide (s.witBalls = true) && (decide (s.inPair = true)))) = true := by
  decide

theorem wit_heartbeat :
    (let s : State := live; (decide ((s.unitRole ≠ 3)))) = true ∧
    (let h : WitHead := { sender := .registrar, epoch := 0, seq := 0, crcOk := true }; let s : State := regS; (decide (¬(s.unitRole ≠ 3)) &&
      (decide ((let ok := fun x => x != .registrar; !h.crcOk || !ok h.sender))))) = true ∧
    (let h : WitHead := { sender := .a, epoch := 0, seq := 0, crcOk := true }; let s : State := regS; (decide (¬(s.unitRole ≠ 3)) &&
      (decide (¬(let ok := fun x => x != .registrar; !h.crcOk || !ok h.sender))))) = true := by
  decide

theorem wit_epoch :
    (let s : State := live.set HLK_CFG_WIT_PATH ((0) + 1); (decide (s.witBalls = false))) = true ∧
    (let s : State := pairU; (decide (s.witBalls = true) && (decide (s.inPair = true)))) = true := by
  decide

theorem wit_fence :
    (let s : State := live.set HLK_CFG_WIT_PATH ((0) + 1); (decide (s.witBalls = false))) = true ∧
    (let s : State := pairU; (decide (s.witBalls = true) && (decide (s.inPair = true)))) = true := by
  decide

theorem wit_fenceSelf :
    (let r : Requester := .policy; let s : State := live; (decide (s.mayCommand r HLK_CMD_MIGRATE.addr .curator = true) &&
      (decide (¬(let s := s.touch r; let cause : Nat := 4;
      let f := fun s => s.fence cause; let was := s.following; let s := f s; was && !s.following))))) = true := by
  decide

theorem wit_pairMigrate :
    (let r : Requester := .policy; let s : State := pairU.setB HLK_STATE_PRIMARY true; (decide (s.mayCommand r HLK_CMD_MIGRATE.addr .curator = true) &&
      (decide ((let s := s.touch r; s.inPair && s.on HLK_STATE_PRIMARY))))) = true ∧
    (let r : Requester := .policy; let s : State := live; (decide (s.mayCommand r HLK_CMD_MIGRATE.addr .curator = true) &&
      (decide (¬(let s := s.touch r; s.inPair && s.on HLK_STATE_PRIMARY))))) = true := by
  decide

theorem wit_pairRevert :
    (let r : Requester := .policy; let s : State := live.set HLK_STATE_JOIN (4); (decide (s.mayCommand r HLK_CMD_MIGRATE.addr .curator = true) &&
      (decide ((let s := s.touch r; s.join = 4))))) = true ∧
    (let r : Requester := .policy; let s : State := live; (decide (s.mayCommand r HLK_CMD_MIGRATE.addr .curator = true) &&
      (decide (¬(let s := s.touch r; s.join = 4))))) = true := by
  decide

theorem wit_pairRejoin :
    (let r : Requester := .policy; let s : State := live.set HLK_STATE_JOIN (6); (decide (s.mayCommand r HLK_CMD_MIGRATE.addr .curator = true) &&
      (decide ((let s := s.touch r; s.join = 6 ∧ s.power ≠ .halt))))) = true ∧
    (let r : Requester := .policy; let s : State := live; (decide (s.mayCommand r HLK_CMD_MIGRATE.addr .curator = true) &&
      (decide (¬(let s := s.touch r; s.join = 6 ∧ s.power ≠ .halt))))) = true := by
  decide

/-! #### SessionCommands -/

theorem wit_sesOpenStart :
    (let r : Requester := .policy; let s : State := live; (decide (s.mayWrite r SES_OPEN_START.addr = true))) = true := by
  decide

theorem wit_sesOpenClose :
    (let r : Requester := .policy; let s : State := live; (decide (s.mayWrite r SES_OPEN_START.addr = true))) = true := by
  decide

theorem wit_sesRespSubmit :
    (let r : Requester := .policy; let s : State := live; (decide (s.mayWrite r (SES_RESP_RESP.at 3) = true))) = true := by
  decide

theorem wit_lockoutEnd :
    (let p : Fin 3 := 0; let s : State := { live with ports := { lockEnd := Vector.replicate 3 (some 0) } };
      (decide ((s.due (s.ports.lockEnd.get p))))) = true ∧
    (let p : Fin 3 := 0; let s : State := live; (decide (¬(s.due (s.ports.lockEnd.get p))))) = true := by
  decide

theorem wit_sessionIdleTimeout :
    (let k : Fin 8 := 0; let s : State := live.set SES_SESS_ROLE ((0) + 1) (k.val);
      (decide ((s.sessOpen k ∧ (s.session k).lastTick + 1000000 * s.get SES_CFG_IDLE_S ≤ s.tick)))) = true ∧
    (let k : Fin 8 := 0; let s : State := live; (decide (¬(s.sessOpen k ∧ (s.session k).lastTick + 1000000 * s.get SES_CFG_IDLE_S ≤ s.tick)))) = true := by
  decide

theorem wit_keyErase :
    (let r : Requester := .policy; let s : State := live; (decide (s.mayCommand r SES_KEY_SEL_SLOT.addr .curator = true))) = true := by
  decide

theorem wit_keyCommit :
    (let r : Requester := .policy; let s : State := live; (decide (s.mayCommand r SES_KEY_SEL_SLOT.addr .curator = true))) = true := by
  decide

theorem wit_keyDataWrite :
    (let r : Requester := .policy; let s : State := live; (decide (s.mayCommand r SES_KEY_DATA_DATA.addr .curator = true))) = true := by
  decide

/-! #### PraxCommands -/

theorem wit_praxOpen :
    (let d : Datagram := { eth := 0, v6 := false, peer := 0, version := 1, len := 0, sid := 0, seq := 0, body := [], mac := [] }; let s : State := live;
      (decide ((!s.on HIF_ETH_STAT_LINK d.eth.val)))) = true ∧
    (let d : Datagram := dg0; let s : State := ethS; (decide (¬(!s.on HIF_ETH_STAT_LINK d.eth.val)) &&
      (decide ((let s := s.incWrap HIF_FRAMES_RX d.eth.val; s.full)) && (decide ((let s := s.incWrap HIF_FRAMES_RX d.eth.val;
      s.addressed d)))))) = true ∧
    (let d : Datagram := { eth := 0, v6 := false, peer := 0, version := 1, len := 0, sid := 0, seq := 0, body := [], mac := [] };
      let s : State := live.setB HIF_ETH_STAT_LINK true (d.eth.val); (decide (¬(!s.on HIF_ETH_STAT_LINK d.eth.val)) &&
      (decide ((let s := s.incWrap HIF_FRAMES_RX d.eth.val; s.full)) && (decide (¬(let s := s.incWrap HIF_FRAMES_RX d.eth.val;
      s.addressed d)))))) = true ∧
    (let d : Datagram := dg0; let s : State := { ethS with full := false }; (decide (¬(!s.on HIF_ETH_STAT_LINK d.eth.val)) &&
      (decide (¬(let s := s.incWrap HIF_FRAMES_RX d.eth.val; s.full)) && (decide ((let s := s.incWrap HIF_FRAMES_RX d.eth.val;
      s.witPort d.eth && s.boot.g.isSome)) && (decide ((let wit : Bool := true; let s := s.incWrap HIF_FRAMES_RX d.eth.val;
      wit && s.addressed d))))))) = true ∧
    (let d : Datagram := { eth := 0, v6 := false, peer := 0, version := 1, len := 0, sid := 0, seq := 0, body := [], mac := [] };
      let s : State := (((fun (s : State) => { s with full := false }) (live.setB HIF_ETH_STAT_LINK true (d.eth.val)))).set HLK_CFG_WIT_PATH (d.eth.val + 1);
      (decide (¬(!s.on HIF_ETH_STAT_LINK d.eth.val)) && (decide (¬(let s := s.incWrap HIF_FRAMES_RX d.eth.val; s.full)) &&
      (decide ((let s := s.incWrap HIF_FRAMES_RX d.eth.val; s.witPort d.eth && s.boot.g.isSome)) && (decide (¬(let wit : Bool := true;
      let s := s.incWrap HIF_FRAMES_RX d.eth.val; wit && s.addressed d))))))) = true ∧
    (let d : Datagram := { eth := 0, v6 := false, peer := 0, version := 1, len := 0, sid := 0, seq := 0, body := [], mac := [] };
      let s : State := ((fun (s : State) => { s with full := false }) (live.setB HIF_ETH_STAT_LINK true (d.eth.val)));
      (decide (¬(!s.on HIF_ETH_STAT_LINK d.eth.val)) && (decide (¬(let s := s.incWrap HIF_FRAMES_RX d.eth.val; s.full)) &&
      (decide (¬(let s := s.incWrap HIF_FRAMES_RX d.eth.val; s.witPort d.eth && s.boot.g.isSome)))))) = true ∧
    (let d : Datagram := dg0; let s : State := ethS; (decide (s.on HIF_ETH_STAT_LINK d.eth.val = true) &&
      (decide ((s.incWrap HIF_FRAMES_RX d.eth.val).full = true) && (decide ((s.incWrap HIF_FRAMES_RX d.eth.val).addressed d = true))))) = true := by
  decide

theorem wit_praxProve :
    (let d : Datagram := { eth := 0, v6 := false, peer := 0, version := 1, len := 0, sid := 0, seq := 0, body := [], mac := [] }; let s : State := live;
      (decide ((!s.on HIF_ETH_STAT_LINK d.eth.val)))) = true ∧
    (let d : Datagram := dg0; let s : State := ethS; (decide (¬(!s.on HIF_ETH_STAT_LINK d.eth.val)) &&
      (decide ((let s := s.incWrap HIF_FRAMES_RX d.eth.val; s.full)) && (decide ((let s := s.incWrap HIF_FRAMES_RX d.eth.val;
      s.addressed d)))))) = true ∧
    (let d : Datagram := { eth := 0, v6 := false, peer := 0, version := 1, len := 0, sid := 0, seq := 0, body := [], mac := [] };
      let s : State := live.setB HIF_ETH_STAT_LINK true (d.eth.val); (decide (¬(!s.on HIF_ETH_STAT_LINK d.eth.val)) &&
      (decide ((let s := s.incWrap HIF_FRAMES_RX d.eth.val; s.full)) && (decide (¬(let s := s.incWrap HIF_FRAMES_RX d.eth.val;
      s.addressed d)))))) = true ∧
    (let d : Datagram := dg0; let s : State := { ethS with full := false }; (decide (¬(!s.on HIF_ETH_STAT_LINK d.eth.val)) &&
      (decide (¬(let s := s.incWrap HIF_FRAMES_RX d.eth.val; s.full)) && (decide ((let s := s.incWrap HIF_FRAMES_RX d.eth.val;
      s.witPort d.eth && s.boot.g.isSome)) && (decide ((let wit : Bool := true; let s := s.incWrap HIF_FRAMES_RX d.eth.val;
      wit && s.addressed d))))))) = true ∧
    (let d : Datagram := { eth := 0, v6 := false, peer := 0, version := 1, len := 0, sid := 0, seq := 0, body := [], mac := [] };
      let s : State := (((fun (s : State) => { s with full := false }) (live.setB HIF_ETH_STAT_LINK true (d.eth.val)))).set HLK_CFG_WIT_PATH (d.eth.val + 1);
      (decide (¬(!s.on HIF_ETH_STAT_LINK d.eth.val)) && (decide (¬(let s := s.incWrap HIF_FRAMES_RX d.eth.val; s.full)) &&
      (decide ((let s := s.incWrap HIF_FRAMES_RX d.eth.val; s.witPort d.eth && s.boot.g.isSome)) && (decide (¬(let wit : Bool := true;
      let s := s.incWrap HIF_FRAMES_RX d.eth.val; wit && s.addressed d))))))) = true ∧
    (let d : Datagram := { eth := 0, v6 := false, peer := 0, version := 1, len := 0, sid := 0, seq := 0, body := [], mac := [] };
      let s : State := ((fun (s : State) => { s with full := false }) (live.setB HIF_ETH_STAT_LINK true (d.eth.val)));
      (decide (¬(!s.on HIF_ETH_STAT_LINK d.eth.val)) && (decide (¬(let s := s.incWrap HIF_FRAMES_RX d.eth.val; s.full)) &&
      (decide (¬(let s := s.incWrap HIF_FRAMES_RX d.eth.val; s.witPort d.eth && s.boot.g.isSome)))))) = true ∧
    (let d : Datagram := dg0; let s : State := ethS; (decide (s.on HIF_ETH_STAT_LINK d.eth.val = true) &&
      (decide ((s.incWrap HIF_FRAMES_RX d.eth.val).full = true) && (decide ((s.incWrap HIF_FRAMES_RX d.eth.val).addressed d = true))))) = true := by
  decide

theorem wit_praxClose :
    (let d : Datagram := { eth := 0, v6 := false, peer := 0, version := 1, len := 0, sid := 0, seq := 0, body := [], mac := [] }; let s : State := live;
      (decide ((!s.on HIF_ETH_STAT_LINK d.eth.val)))) = true ∧
    (let d : Datagram := dg0; let s : State := ethS; (decide (¬(!s.on HIF_ETH_STAT_LINK d.eth.val)) &&
      (decide ((let s := s.incWrap HIF_FRAMES_RX d.eth.val; s.full)) && (decide ((let s := s.incWrap HIF_FRAMES_RX d.eth.val;
      s.addressed d)))))) = true ∧
    (let d : Datagram := { eth := 0, v6 := false, peer := 0, version := 1, len := 0, sid := 0, seq := 0, body := [], mac := [] };
      let s : State := live.setB HIF_ETH_STAT_LINK true (d.eth.val); (decide (¬(!s.on HIF_ETH_STAT_LINK d.eth.val)) &&
      (decide ((let s := s.incWrap HIF_FRAMES_RX d.eth.val; s.full)) && (decide (¬(let s := s.incWrap HIF_FRAMES_RX d.eth.val;
      s.addressed d)))))) = true ∧
    (let d : Datagram := dg0; let s : State := { ethS with full := false }; (decide (¬(!s.on HIF_ETH_STAT_LINK d.eth.val)) &&
      (decide (¬(let s := s.incWrap HIF_FRAMES_RX d.eth.val; s.full)) && (decide ((let s := s.incWrap HIF_FRAMES_RX d.eth.val;
      s.witPort d.eth && s.boot.g.isSome)) && (decide ((let wit : Bool := true; let s := s.incWrap HIF_FRAMES_RX d.eth.val;
      wit && s.addressed d))))))) = true ∧
    (let d : Datagram := { eth := 0, v6 := false, peer := 0, version := 1, len := 0, sid := 0, seq := 0, body := [], mac := [] };
      let s : State := (((fun (s : State) => { s with full := false }) (live.setB HIF_ETH_STAT_LINK true (d.eth.val)))).set HLK_CFG_WIT_PATH (d.eth.val + 1);
      (decide (¬(!s.on HIF_ETH_STAT_LINK d.eth.val)) && (decide (¬(let s := s.incWrap HIF_FRAMES_RX d.eth.val; s.full)) &&
      (decide ((let s := s.incWrap HIF_FRAMES_RX d.eth.val; s.witPort d.eth && s.boot.g.isSome)) && (decide (¬(let wit : Bool := true;
      let s := s.incWrap HIF_FRAMES_RX d.eth.val; wit && s.addressed d))))))) = true ∧
    (let d : Datagram := { eth := 0, v6 := false, peer := 0, version := 1, len := 0, sid := 0, seq := 0, body := [], mac := [] };
      let s : State := ((fun (s : State) => { s with full := false }) (live.setB HIF_ETH_STAT_LINK true (d.eth.val)));
      (decide (¬(!s.on HIF_ETH_STAT_LINK d.eth.val)) && (decide (¬(let s := s.incWrap HIF_FRAMES_RX d.eth.val; s.full)) &&
      (decide (¬(let s := s.incWrap HIF_FRAMES_RX d.eth.val; s.witPort d.eth && s.boot.g.isSome)))))) = true := by
  decide

theorem wit_praxRead :
    (let d : Datagram := { eth := 0, v6 := false, peer := 0, version := 1, len := 0, sid := 0, seq := 0, body := [], mac := [] }; let s : State := live;
      (decide ((!s.on HIF_ETH_STAT_LINK d.eth.val)))) = true ∧
    (let d : Datagram := dg0; let s : State := ethS; (decide (¬(!s.on HIF_ETH_STAT_LINK d.eth.val)) &&
      (decide ((let s := s.incWrap HIF_FRAMES_RX d.eth.val; s.full)) && (decide ((let s := s.incWrap HIF_FRAMES_RX d.eth.val;
      s.addressed d)))))) = true ∧
    (let d : Datagram := { eth := 0, v6 := false, peer := 0, version := 1, len := 0, sid := 0, seq := 0, body := [], mac := [] };
      let s : State := live.setB HIF_ETH_STAT_LINK true (d.eth.val); (decide (¬(!s.on HIF_ETH_STAT_LINK d.eth.val)) &&
      (decide ((let s := s.incWrap HIF_FRAMES_RX d.eth.val; s.full)) && (decide (¬(let s := s.incWrap HIF_FRAMES_RX d.eth.val;
      s.addressed d)))))) = true ∧
    (let d : Datagram := { eth := 0, v6 := false, peer := 0, version := 1, len := 0, sid := 0, seq := 0, body := [], mac := [] };
      let s : State := (((fun (s : State) => { s with full := false }) (live.setB HIF_ETH_STAT_LINK true (d.eth.val)))).set HLK_CFG_WIT_PATH (d.eth.val + 1);
      (decide (¬(!s.on HIF_ETH_STAT_LINK d.eth.val)) && (decide (¬(let s := s.incWrap HIF_FRAMES_RX d.eth.val; s.full)) &&
      (decide ((let s := s.incWrap HIF_FRAMES_RX d.eth.val; s.witPort d.eth && s.boot.g.isSome)) && (decide (¬(let wit : Bool := false;
      let s := s.incWrap HIF_FRAMES_RX d.eth.val; wit && s.addressed d))))))) = true ∧
    (let d : Datagram := { eth := 0, v6 := false, peer := 0, version := 1, len := 0, sid := 0, seq := 0, body := [], mac := [] };
      let s : State := ((fun (s : State) => { s with full := false }) (live.setB HIF_ETH_STAT_LINK true (d.eth.val)));
      (decide (¬(!s.on HIF_ETH_STAT_LINK d.eth.val)) && (decide (¬(let s := s.incWrap HIF_FRAMES_RX d.eth.val; s.full)) &&
      (decide (¬(let s := s.incWrap HIF_FRAMES_RX d.eth.val; s.witPort d.eth && s.boot.g.isSome)))))) = true := by
  decide

theorem wit_praxWrite :
    (let d : Datagram := { eth := 0, v6 := false, peer := 0, version := 1, len := 0, sid := 0, seq := 0, body := [], mac := [] }; let s : State := live;
      (decide ((!s.on HIF_ETH_STAT_LINK d.eth.val)))) = true ∧
    (let d : Datagram := dg0; let s : State := ethS; (decide (¬(!s.on HIF_ETH_STAT_LINK d.eth.val)) &&
      (decide ((let s := s.incWrap HIF_FRAMES_RX d.eth.val; s.full)) && (decide ((let s := s.incWrap HIF_FRAMES_RX d.eth.val;
      s.addressed d)))))) = true ∧
    (let d : Datagram := { eth := 0, v6 := false, peer := 0, version := 1, len := 0, sid := 0, seq := 0, body := [], mac := [] };
      let s : State := live.setB HIF_ETH_STAT_LINK true (d.eth.val); (decide (¬(!s.on HIF_ETH_STAT_LINK d.eth.val)) &&
      (decide ((let s := s.incWrap HIF_FRAMES_RX d.eth.val; s.full)) && (decide (¬(let s := s.incWrap HIF_FRAMES_RX d.eth.val;
      s.addressed d)))))) = true ∧
    (let d : Datagram := { eth := 0, v6 := false, peer := 0, version := 1, len := 0, sid := 0, seq := 0, body := [], mac := [] };
      let s : State := (((fun (s : State) => { s with full := false }) (live.setB HIF_ETH_STAT_LINK true (d.eth.val)))).set HLK_CFG_WIT_PATH (d.eth.val + 1);
      (decide (¬(!s.on HIF_ETH_STAT_LINK d.eth.val)) && (decide (¬(let s := s.incWrap HIF_FRAMES_RX d.eth.val; s.full)) &&
      (decide ((let s := s.incWrap HIF_FRAMES_RX d.eth.val; s.witPort d.eth && s.boot.g.isSome)) && (decide (¬(let wit : Bool := false;
      let s := s.incWrap HIF_FRAMES_RX d.eth.val; wit && s.addressed d))))))) = true ∧
    (let d : Datagram := { eth := 0, v6 := false, peer := 0, version := 1, len := 0, sid := 0, seq := 0, body := [], mac := [] };
      let s : State := ((fun (s : State) => { s with full := false }) (live.setB HIF_ETH_STAT_LINK true (d.eth.val)));
      (decide (¬(!s.on HIF_ETH_STAT_LINK d.eth.val)) && (decide (¬(let s := s.incWrap HIF_FRAMES_RX d.eth.val; s.full)) &&
      (decide (¬(let s := s.incWrap HIF_FRAMES_RX d.eth.val; s.witPort d.eth && s.boot.g.isSome)))))) = true := by
  decide

theorem wit_praxKeepalive :
    (let d : Datagram := { eth := 0, v6 := false, peer := 0, version := 1, len := 0, sid := 0, seq := 0, body := [], mac := [] }; let s : State := live;
      (decide ((!s.on HIF_ETH_STAT_LINK d.eth.val)))) = true ∧
    (let d : Datagram := dg0; let s : State := ethS; (decide (¬(!s.on HIF_ETH_STAT_LINK d.eth.val)) &&
      (decide ((let s := s.incWrap HIF_FRAMES_RX d.eth.val; s.full)) && (decide ((let s := s.incWrap HIF_FRAMES_RX d.eth.val;
      s.addressed d)))))) = true ∧
    (let d : Datagram := { eth := 0, v6 := false, peer := 0, version := 1, len := 0, sid := 0, seq := 0, body := [], mac := [] };
      let s : State := live.setB HIF_ETH_STAT_LINK true (d.eth.val); (decide (¬(!s.on HIF_ETH_STAT_LINK d.eth.val)) &&
      (decide ((let s := s.incWrap HIF_FRAMES_RX d.eth.val; s.full)) && (decide (¬(let s := s.incWrap HIF_FRAMES_RX d.eth.val;
      s.addressed d)))))) = true ∧
    (let d : Datagram := dg0; let s : State := { ethS with full := false }; (decide (¬(!s.on HIF_ETH_STAT_LINK d.eth.val)) &&
      (decide (¬(let s := s.incWrap HIF_FRAMES_RX d.eth.val; s.full)) && (decide ((let s := s.incWrap HIF_FRAMES_RX d.eth.val;
      s.witPort d.eth && s.boot.g.isSome)) && (decide ((let wit : Bool := true; let s := s.incWrap HIF_FRAMES_RX d.eth.val;
      wit && s.addressed d))))))) = true ∧
    (let d : Datagram := { eth := 0, v6 := false, peer := 0, version := 1, len := 0, sid := 0, seq := 0, body := [], mac := [] };
      let s : State := (((fun (s : State) => { s with full := false }) (live.setB HIF_ETH_STAT_LINK true (d.eth.val)))).set HLK_CFG_WIT_PATH (d.eth.val + 1);
      (decide (¬(!s.on HIF_ETH_STAT_LINK d.eth.val)) && (decide (¬(let s := s.incWrap HIF_FRAMES_RX d.eth.val; s.full)) &&
      (decide ((let s := s.incWrap HIF_FRAMES_RX d.eth.val; s.witPort d.eth && s.boot.g.isSome)) && (decide (¬(let wit : Bool := true;
      let s := s.incWrap HIF_FRAMES_RX d.eth.val; wit && s.addressed d))))))) = true ∧
    (let d : Datagram := { eth := 0, v6 := false, peer := 0, version := 1, len := 0, sid := 0, seq := 0, body := [], mac := [] };
      let s : State := ((fun (s : State) => { s with full := false }) (live.setB HIF_ETH_STAT_LINK true (d.eth.val)));
      (decide (¬(!s.on HIF_ETH_STAT_LINK d.eth.val)) && (decide (¬(let s := s.incWrap HIF_FRAMES_RX d.eth.val; s.full)) &&
      (decide (¬(let s := s.incWrap HIF_FRAMES_RX d.eth.val; s.witPort d.eth && s.boot.g.isSome)))))) = true := by
  decide

theorem wit_praxSubscribe :
    (let d : Datagram := { eth := 0, v6 := false, peer := 0, version := 1, len := 0, sid := 0, seq := 0, body := [], mac := [] }; let s : State := live;
      (decide ((!s.on HIF_ETH_STAT_LINK d.eth.val)))) = true ∧
    (let d : Datagram := dg0; let s : State := ethS; (decide (¬(!s.on HIF_ETH_STAT_LINK d.eth.val)) &&
      (decide ((let s := s.incWrap HIF_FRAMES_RX d.eth.val; s.full)) && (decide ((let s := s.incWrap HIF_FRAMES_RX d.eth.val;
      s.addressed d)))))) = true ∧
    (let d : Datagram := { eth := 0, v6 := false, peer := 0, version := 1, len := 0, sid := 0, seq := 0, body := [], mac := [] };
      let s : State := live.setB HIF_ETH_STAT_LINK true (d.eth.val); (decide (¬(!s.on HIF_ETH_STAT_LINK d.eth.val)) &&
      (decide ((let s := s.incWrap HIF_FRAMES_RX d.eth.val; s.full)) && (decide (¬(let s := s.incWrap HIF_FRAMES_RX d.eth.val;
      s.addressed d)))))) = true ∧
    (let d : Datagram := { eth := 0, v6 := false, peer := 0, version := 1, len := 0, sid := 0, seq := 0, body := [], mac := [] };
      let s : State := (((fun (s : State) => { s with full := false }) (live.setB HIF_ETH_STAT_LINK true (d.eth.val)))).set HLK_CFG_WIT_PATH (d.eth.val + 1);
      (decide (¬(!s.on HIF_ETH_STAT_LINK d.eth.val)) && (decide (¬(let s := s.incWrap HIF_FRAMES_RX d.eth.val; s.full)) &&
      (decide ((let s := s.incWrap HIF_FRAMES_RX d.eth.val; s.witPort d.eth && s.boot.g.isSome)) && (decide (¬(let wit : Bool := false;
      let s := s.incWrap HIF_FRAMES_RX d.eth.val; wit && s.addressed d))))))) = true ∧
    (let d : Datagram := { eth := 0, v6 := false, peer := 0, version := 1, len := 0, sid := 0, seq := 0, body := [], mac := [] };
      let s : State := ((fun (s : State) => { s with full := false }) (live.setB HIF_ETH_STAT_LINK true (d.eth.val)));
      (decide (¬(!s.on HIF_ETH_STAT_LINK d.eth.val)) && (decide (¬(let s := s.incWrap HIF_FRAMES_RX d.eth.val; s.full)) &&
      (decide (¬(let s := s.incWrap HIF_FRAMES_RX d.eth.val; s.witPort d.eth && s.boot.g.isSome)))))) = true := by
  decide

theorem wit_notifySend :
    (let k : Fin 8 := 0; let s : State := live; (decide ((let p : Nat := s.sessPort k.val - 1; let eth : Fin 2 := ⟨p % 2, Nat.mod_lt p (by decide)⟩;
      !s.sessOpen k || s.sessPort k.val == 0 || !s.full || !s.on HIF_ETH_STAT_LINK eth.val || !s.addressedOn eth (s.session k).v6)))) = true ∧
    (let k : Fin 8 := 0; let drop : Nat := 0; let s : State := (ethS.set SES_SESS_ROLE 1 0).set SES_SESS_PORT 1 0;
      (decide (¬(let p : Nat := s.sessPort k.val - 1; let eth : Fin 2 := ⟨p % 2, Nat.mod_lt p (by decide)⟩;
      !s.sessOpen k || s.sessPort k.val == 0 || !s.full || !s.on HIF_ETH_STAT_LINK eth.val || !s.addressedOn eth (s.session k).v6)) &&
      (decide ((let x := s.session k; let traces := (x.out.filter (fun r => r.cls == 2)).length;
      let out := dropSome (fun (r : Rec) => r.cls == 0) (drop - traces) (dropSome (fun (r : Rec) => r.cls == 2) drop x.out);
      let again := (x.unacked.filter (fun u => decide (u.2 + 100000 * s.get HIF_NOTIFY_CFG_RESEND ≤ s.tick))).map (fun u => u.1);
      let send := (again ++ out).take 32; send.isEmpty))))) = true ∧
    (let k : Fin 8 := 0; let drop : Nat := 0;
      let s : State := { (ethS.set SES_SESS_ROLE 1 0).set SES_SESS_PORT 1 0 with ports := { sessions := Vector.replicate 8 { out := [evRec] } } };
      (decide (¬(let p : Nat := s.sessPort k.val - 1; let eth : Fin 2 := ⟨p % 2, Nat.mod_lt p (by decide)⟩;
      !s.sessOpen k || s.sessPort k.val == 0 || !s.full || !s.on HIF_ETH_STAT_LINK eth.val || !s.addressedOn eth (s.session k).v6)) &&
      (decide (¬(let x := s.session k; let traces := (x.out.filter (fun r => r.cls == 2)).length;
      let out := dropSome (fun (r : Rec) => r.cls == 0) (drop - traces) (dropSome (fun (r : Rec) => r.cls == 2) drop x.out);
      let again := (x.unacked.filter (fun u => decide (u.2 + 100000 * s.get HIF_NOTIFY_CFG_RESEND ≤ s.tick))).map (fun u => u.1);
      let send := (again ++ out).take 32; send.isEmpty))))) = true ∧
    (let k : Fin 8 := 0; let s : State := (ethS.set SES_SESS_ROLE 1 0).set SES_SESS_PORT 1 0; (decide (s.sessOpen k = true) &&
      (decide (s.sessPort k.val ≠ 0) && (decide (s.full = true) && (decide (s.on HIF_ETH_STAT_LINK ((s.sessPort k.val - 1) % 2) = true) &&
      (decide (s.addressedOn ⟨(s.sessPort k.val - 1) % 2, Nat.mod_lt _ (by decide)⟩ (s.session k).v6 = true) && (decide ((s.session k).out = []) &&
      (decide ((s.session k).unacked = []))))))))) = true := by
  decide

/-! #### EthernetCommands -/

theorem wit_dhcpLeaseEnd :
    (let p : Fin 2 := 0; let s : State := { live with ports := { lease := Vector.replicate 2 (some (0, 0)) } };
      (decide ((s.due ((s.ports.lease.get p).map (fun l => l.2)))))) = true ∧
    (let p : Fin 2 := 0; let s : State := live; (decide (¬(s.due ((s.ports.lease.get p).map (fun l => l.2)))))) = true := by
  decide

theorem wit_dhcpLeaseObtained :
    (let p : Fin 2 := 0; let s : State := live.setB HIF_ETH_STAT_LINK true (p.val);
      (decide ((s.boot.firmware && s.on HIF_ETH_STAT_LINK p.val && s.get HIF_ETH_CFG_IPV4 p.val == 2)))) = true ∧
    (let p : Fin 2 := 0; let s : State := live;
      (decide (¬(s.boot.firmware && s.on HIF_ETH_STAT_LINK p.val && s.get HIF_ETH_CFG_IPV4 p.val == 2)))) = true := by
  decide

theorem wit_ptpAnnounce :
    (let m : PtpFrom := { eth := 0, l2 := false, domain := 0, master := 0 }; let best : Bool := true;
      let s : State := live.setB HIF_ETH_STAT_LINK true (m.eth.val); (decide ((s.ptpTakes m)) && (decide ((let s := s.incWrap HIF_PTP_CNT_ANNOUNCES;
      best ∧ s.ports.ptpMaster ≠ some (m.eth.val, m.master.toNat)))))) = true ∧
    (let m : PtpFrom := { eth := 0, l2 := false, domain := 0, master := 0 }; let best : Bool := false;
      let s : State := live.setB HIF_ETH_STAT_LINK true (m.eth.val); (decide ((s.ptpTakes m)) &&
      (decide (¬(let s := s.incWrap HIF_PTP_CNT_ANNOUNCES; best ∧ s.ports.ptpMaster ≠ some (m.eth.val, m.master.toNat)))))) = true ∧
    (let m : PtpFrom := { eth := 0, l2 := false, domain := 0, master := 0 }; let s : State := live; (decide (¬(s.ptpTakes m)))) = true ∧
    (let m : PtpFrom := { eth := 0, l2 := false, domain := 0, master := 0 }; let s : State := live.setB HIF_ETH_STAT_LINK true (m.eth.val);
      (decide (s.ptpTakes m = true) && (decide (s.ports.ptpMaster ≠ some (m.eth.val, m.master.toNat))))) = true := by
  decide

theorem wit_ptpTimeout :
    (let s : State := live; (decide ((s.ports.ptpMaster = none)))) = true ∧
    (let s : State := ((fun (s : State) => { s with ports := { s.ports with ptpMaster := some default } }) (live));
      (match s.ports.ptpMaster with | some m => (decide ((s.ports.ptpLast + 1000000 * s.get HIF_PTP_CFG_PTP_TMO ≤ s.tick))) | _ => false)) = true ∧
    (let s : State := ((fun (s : State) => { s with ports := { s.ports with ptpMaster := some default } }) (State.reset));
      (match s.ports.ptpMaster with | some m => (decide (¬(s.ports.ptpLast + 1000000 * s.get HIF_PTP_CFG_PTP_TMO ≤ s.tick))) | _ => false)) = true ∧
    (let s : State := ((fun (s : State) => { s with ports := { s.ports with ptpMaster := some default } }) (live));
      (match s.ports.ptpMaster with | some m => (decide (s.ports.ptpLast + 1000000 * s.get HIF_PTP_CFG_PTP_TMO ≤ s.tick)) | _ => false)) = true := by
  decide

theorem wit_mdioRead :
    (let r : Requester := .policy; let p : Fin 2 := 0; let s : State := live; (decide (s.mayWrite r (HIF_MDIO_CMD_READ.at p.val) = true))) = true := by
  decide

theorem wit_mdioWrite :
    (let r : Requester := .policy; let p : Fin 2 := 0; let s : State := live; (decide (s.mayWrite r (HIF_MDIO_CMD_READ.at p.val) = true))) = true := by
  decide

theorem wit_mdioComplete :
    (let s : State := live; (decide (s.ports.mdio = [] ∨ s.bankLive 2 = false))) = true ∧
    (let s : State := ((fun (s : State) => { s with ports := { s.ports with mdio := (default, default, default, none) :: [] } }) (live));
      (match s.ports.mdio with | (p, a, b, none) :: rest => (decide (s.bankLive 2 = true)) | _ => false)) = true ∧
    (let s : State := ((fun (s : State) => { s with ports := { s.ports with mdio := (default, default, default, some default) :: [] } }) (live));
      (match s.ports.mdio with | (p, a, b, some w) :: rest => (decide (s.bankLive 2 = true)) | _ => false)) = true := by
  decide

/-! #### MailboxCommands -/

theorem wit_mbxSend :
    (let r : Requester := .policy; let out : Bool := false; let w : Word := 0; let s : State := live; (decide ((let w : Word := w ||| 0x100;
      s.mayCommand r (mbxCmd out) (mbxRole (mbxCh w)) = true)) && (decide ((let w : Word := w ||| 0x100; mbxForeign (mbxDevice r) out w))))) = true ∧
    (let r : Requester := .policy; let out : Bool := true; let w : Word := 0; let s : State := live; (decide ((let w : Word := w ||| 0x100;
      s.mayCommand r (mbxCmd out) (mbxRole (mbxCh w)) = true)) && (decide (¬(let w : Word := w ||| 0x100; mbxForeign (mbxDevice r) out w))))) = true := by
  decide

theorem wit_mbxTake :
    (let r : Requester := .policy; let out : Bool := true; let w : Word := 0; let s : State := live; (decide ((let w : Word := w ||| 0x200;
      s.mayCommand r (mbxCmd out) (mbxRole (mbxCh w)) = true)) && (decide ((let w : Word := w ||| 0x200; mbxForeign (mbxDevice r) out w))))) = true ∧
    (let r : Requester := .policy; let out : Bool := false; let w : Word := 0; let s : State := live; (decide ((let w : Word := w ||| 0x200;
      s.mayCommand r (mbxCmd out) (mbxRole (mbxCh w)) = true)) && (decide (¬(let w : Word := w ||| 0x200; mbxForeign (mbxDevice r) out w))))) = true := by
  decide

theorem wit_mbxRecall :
    (let r : Requester := .policy; let out : Bool := false; let w : Word := 0; let s : State := live; (decide ((let w : Word := w ||| 0x400;
      s.mayCommand r (mbxCmd out) (mbxRole (mbxCh w)) = true)) && (decide ((let w : Word := w ||| 0x400; mbxForeign (mbxDevice r) out w))))) = true ∧
    (let r : Requester := .policy; let out : Bool := true; let w : Word := 0; let s : State := live; (decide ((let w : Word := w ||| 0x400;
      s.mayCommand r (mbxCmd out) (mbxRole (mbxCh w)) = true)) && (decide (¬(let w : Word := w ||| 0x400; mbxForeign (mbxDevice r) out w))))) = true := by
  decide

theorem wit_mailboxDataWrite :
    (let r : Requester := .policy; let off : BitVec 16 := 0; let s : State := live;
      (decide (s.mayWrite r (0x100000 + off.toNat) = true) && (match mailboxSpot (off.toNat % 0x8000) with | some (c, k) => (decide ((s.touch r).mbxFull (decide (0x8000 ≤ off.toNat)) ⟨c % 32, Nat.mod_lt c (by decide)⟩ = false)) | _ => false))) = true ∧
    (let r : Requester := .spi; let off : BitVec 16 := 0; let c : Nat := 0; let k : Nat := 0;
      let s : State := live.setB (mbxField false MBX_IN_STAT_FULL MBX_OUT_STAT_FULL) true 0; (decide (s.mayWrite r (0x100000 + off.toNat) = true) &&
      (decide (mailboxSpot (off.toNat % 0x8000) = some (c, k)) &&
      (decide ((s.touch r).mbxFull (decide (0x8000 ≤ off.toNat)) ⟨c % 32, Nat.mod_lt c (by decide)⟩ = true))))) = true := by
  decide

theorem wit_mailboxTimeout :
    (let out : Bool := false; let c : Fin 32 := 0; let s : State := { live with mbx := { due := Vector.replicate 64 (some 0) } };
      (decide ((s.due (s.mbx.due.get (mbxIx out c)))))) = true ∧
    (let out : Bool := true; let c : Fin 32 := 0; let s : State := live; (decide (¬(s.due (s.mbx.due.get (mbxIx out c)))))) = true := by
  decide

/-! #### WatchdogCommands -/

theorem wit_wdgOpenPhaseEnd :
    (let s : State := live; (decide ((s.due s.wdg.openEnd ∧ s.get WDG_STATE_STATE ≠ 2)))) = true ∧
    (let s : State := State.reset; (decide (¬(s.due s.wdg.openEnd ∧ s.get WDG_STATE_STATE ≠ 2)))) = true := by
  decide

theorem wit_wdgClosedPhaseEnd :
    (let s : State := ((fun (s : State) => { s with wdg := { s.wdg with closedEnd := some 0 } }) (live)); (decide ((s.due s.wdg.closedEnd)))) = true ∧
    (let s : State := live; (decide (¬(s.due s.wdg.closedEnd)))) = true ∧
    (let s : State := ((fun (s : State) => { s with wdg := { s.wdg with closedEnd := some 0 } }) (live));
      (decide (s.due s.wdg.closedEnd = true))) = true := by
  decide

theorem wit_wdgPulseEnd :
    (let s : State := { live with wdg := { pulse := some (0, 0) } }; (decide ((s.due (s.wdg.pulse.map (fun p => p.1)))))) = true ∧
    (let s : State := live; (decide (¬(s.due (s.wdg.pulse.map (fun p => p.1)))))) = true := by
  decide

theorem wit_wdgSuspensionEnd :
    (let s : State := live.set WDG_STATE_STATE (2); (decide ((s.due s.wdg.openEnd ∧ s.get WDG_STATE_STATE = 2)))) = true ∧
    (let s : State := live; (decide (¬(s.due s.wdg.openEnd ∧ s.get WDG_STATE_STATE = 2)))) = true := by
  decide

/-! #### NvmCommands -/

theorem wit_bake :
    (let r : Requester := .spi; let s : State := { live with nvm := { bake := some (0, 0, {}) } };
      (decide (s.mayCommand r KLN_CMD_BAKE.addr .curator = true) && (decide ((let s := s.touch r; s.nvm.bake.isSome))))) = true ∧
    (let r : Requester := .policy; let s : State := live; (decide (s.mayCommand r KLN_CMD_BAKE.addr .curator = true) && (decide (¬(let s := s.touch r;
      s.nvm.bake.isSome))))) = true := by
  decide

theorem wit_bakeComplete :
    (let s : State := live; (decide ((s.nvm.bake = none)))) = true ∧
    (let s : State := { live with nvm := { bake := some (0, 0, {}), strata := true } };
      (match s.nvm.bake with | some (k, t, c) => (decide ((s.nvm.strata ∨ s.tick < t + c.len / 4))) | _ => false)) = true ∧
    (let s : State := { live with nvm := { bake := some (0, 0, {}) } };
      (match s.nvm.bake with | some (k, t, c) => (decide (¬(s.nvm.strata ∨ s.tick < t + c.len / 4))) | _ => false)) = true := by
  decide

theorem wit_wipe :
    (let r : Requester := .policy; let w : Word := 0; let s : State := live; (decide (s.mayCommand r NVM_WIPE_CMD_WIPE.addr .curator = true) &&
      (decide (¬(let w : Word := w ||| 0x100; bitsOf w 8 1 = 0)) && (decide ((let s := s.touch r; let w : Word := w ||| 0x100;
      let n := bitsOf w 0 8; bitsOf w 16 16 ≠ 0x3C3C ∨ s.nvm.wipe.isSome ∨ !s.mayWipe n)))))) = true ∧
    (let r : Requester := .spi; let w : Word := 0x3C3C0060; let s : State := live; (decide (s.mayCommand r NVM_WIPE_CMD_WIPE.addr .curator = true) &&
      (decide (¬(let w : Word := w ||| 0x100; bitsOf w 8 1 = 0)) && (decide (¬(let s := s.touch r; let w : Word := w ||| 0x100;
      let n := bitsOf w 0 8; bitsOf w 16 16 ≠ 0x3C3C ∨ s.nvm.wipe.isSome ∨ !s.mayWipe n)))))) = true := by
  decide

theorem wit_wipeComplete :
    (let s : State := live; (decide ((s.nvm.wipe = none)))) = true ∧
    (let s : State := (((fun (s : State) => { s with nvm := { s.nvm with wipe := some (default, default) } }) (live))).set WDG_STATE_STATE (2);
      (match s.nvm.wipe with | some (n, t) => (decide ((let s := { s with nvm := { s.nvm with wipe := none } }; let s := (s.sectorWiped n).set NVM_WIPE_STAT_RESULT 1; let s := s.set NVM_WIPE_STAT_MS (min ((s.tick - t + 999) / 1000) 65535); s.get WDG_STATE_STATE = 2))) | _ => false)) = true ∧
    (let s : State := ((fun (s : State) => { s with nvm := { s.nvm with wipe := some (default, default) } }) (live));
      (match s.nvm.wipe with | some (n, t) => (decide (¬(let s := { s with nvm := { s.nvm with wipe := none } }; let s := (s.sectorWiped n).set NVM_WIPE_STAT_RESULT 1; let s := s.set NVM_WIPE_STAT_MS (min ((s.tick - t + 999) / 1000) 65535); s.get WDG_STATE_STATE = 2))) | _ => false)) = true ∧
    (let s : State := ((fun (s : State) => { s with nvm := { s.nvm with wipe := some (default, default) } }) (live));
      (match s.nvm.wipe with | some (n, b) => true | _ => false)) = true := by
  decide

theorem wit_tillingVisit :
    (let s : State := live.setB NVM_CTRL_TILL_EN false; (decide ((let off := s.nvm.till;
      !s.on NVM_CTRL_TILL_EN ∨ s.tick < s.tillDue ∨ s.nvm.strata ∨ s.nvm.wipe.isSome ∨ !s.nvm.waiting.isEmpty ∨ (s.nvm.bake.isSome ∧ !s.bakedWord off))))) = true ∧
    (let s : State := live; (decide (¬(let off := s.nvm.till;
      !s.on NVM_CTRL_TILL_EN ∨ s.tick < s.tillDue ∨ s.nvm.strata ∨ s.nvm.wipe.isSome ∨ !s.nvm.waiting.isEmpty ∨ (s.nvm.bake.isSome ∧ !s.bakedWord off))))) = true ∧
    (let s : State := live; (decide (s.on NVM_CTRL_TILL_EN = true) && (decide (s.nvm.strata = false) && (decide (s.nvm.wipe = none) &&
      (decide (s.nvm.bake = none) && (decide (s.tillDue ≤ s.tick) && (decide (s.nvm.waiting = [])))))))) = true := by
  decide

theorem wit_eccCorrectRewrite :
    (let s : State := live; (decide (s.nvm.corrected = [] ∨ (!s.nvmFree ∨ s.nvm.wipe.isSome ∨ !s.nvm.waiting.isEmpty)))) = true ∧
    (let s : State := ((fun (s : State) => { s with nvm := { s.nvm with corrected := (default, default) :: [] } }) (live));
      (match s.nvm.corrected with | (off, b) :: rest => (decide (¬(!s.nvmFree ∨ s.nvm.wipe.isSome ∨ !s.nvm.waiting.isEmpty))) | _ => false)) = true := by
  decide

theorem wit_klnNextLenUpdate :
    (let s : State := live; (decide ((s.tick % 1000 = 0)))) = true ∧
    (let s : State := oddS; (decide (¬(s.tick % 1000 = 0)))) = true := by
  decide

/-! #### ChainCommands -/

theorem wit_chainBlock :
    (let h : ChainHead := { port := 0, retx := false, image := 0, block := 0, hop := 0, crcOk := true, aborted := false }; let s : State := live;
      (decide ((!s.chainOn h.port ∨ !s.chainUp h.port)))) = true ∧
    (let h : ChainHead := { port := 0, retx := false, image := 0, block := 0, hop := 0, crcOk := true, aborted := true };
      let s : State := (live.setB CHN_CFG_UP_EN true).setB CHN_PORT_STAT_LINK true 0; (decide (¬(!s.chainOn h.port ∨ !s.chainUp h.port)) &&
      (decide ((h.aborted ∨ !h.crcOk)) && (decide (h.aborted))))) = true ∧
    (let h : ChainHead := { port := 0, retx := false, image := 0, block := 0, hop := 0, crcOk := false, aborted := false };
      let s : State := live.setB CHN_PORT_STAT_LINK true (h.port.val); (decide (¬(!s.chainOn h.port ∨ !s.chainUp h.port)) &&
      (decide ((h.aborted ∨ !h.crcOk)) && (decide (¬h.aborted))))) = true ∧
    (let h : ChainHead := { port := 0, retx := false, image := 0, block := 0, hop := 0, crcOk := true, aborted := false };
      let s : State := live.setB CHN_PORT_STAT_LINK true (h.port.val); (decide (¬(!s.chainOn h.port ∨ !s.chainUp h.port)) &&
      (decide (¬(h.aborted ∨ !h.crcOk)) && (decide ((h.block = 0)))))) = true ∧
    (let h : ChainHead := { port := 0, retx := false, image := 0, block := 1, hop := 0, crcOk := true, aborted := false };
      let s : State := (live.setB CHN_CFG_UP_EN true).setB CHN_PORT_STAT_LINK true 0; (decide (¬(!s.chainOn h.port ∨ !s.chainUp h.port)) &&
      (decide (¬(h.aborted ∨ !h.crcOk)) && (decide (¬(h.block = 0)))))) = true := by
  decide

theorem wit_chainAck :
    (let h : ChainHead := { port := 0, retx := false, image := 0, block := 0, hop := 0, crcOk := true, aborted := false }; let s : State := regS;
      (decide ((!s.chainOn h.port || h.aborted)))) = true ∧
    (let h : ChainHead := { port := 0, retx := false, image := 0, block := 0, hop := 0, crcOk := false, aborted := false }; let s : State := live;
      (decide (¬(!s.chainOn h.port || h.aborted)) && (decide ((!h.crcOk))))) = true ∧
    (let h : ChainHead := { port := 0, retx := false, image := 0, block := 0, hop := 0, crcOk := true, aborted := false }; let s : State := live;
      (decide (¬(!s.chainOn h.port || h.aborted)) && (decide (¬(!h.crcOk))))) = true ∧
    (let h : ChainHead := { port := 0, retx := false, image := 0, block := 0, hop := 0, crcOk := true, aborted := false }; let s : State := live;
      (decide (s.chainOn h.port = true) && (decide (h.aborted = false) && (decide (h.crcOk = true) &&
      (decide (h.image.toNat = (s.incWrap CHN_RX_CNT_FRAMES h.port.val).get CHN_IMAGE_ID)))))) = true ∧
    (let h : ChainHead := { port := 0, retx := false, image := 0, block := 0, hop := 0, crcOk := true, aborted := false }; let s : State := live;
      (decide (s.chainOn h.port = true) && (decide (h.aborted = false) && (decide (h.crcOk = true))))) = true ∧
    (let h : ChainHead := { port := 0, retx := false, image := 0, block := 0, hop := 0, crcOk := false, aborted := false }; let s : State := live;
      (decide (s.chainOn h.port = true) && (decide (h.aborted = false) && (decide (h.crcOk = false))))) = true := by
  decide

theorem wit_chainNak :
    (let h : ChainHead := { port := 0, retx := false, image := 0, block := 0, hop := 0, crcOk := true, aborted := false }; let s : State := regS;
      (decide ((!s.chainOn h.port || h.aborted)))) = true ∧
    (let h : ChainHead := { port := 0, retx := false, image := 0, block := 0, hop := 0, crcOk := false, aborted := false }; let s : State := live;
      (decide (¬(!s.chainOn h.port || h.aborted)) && (decide ((!h.crcOk))))) = true ∧
    (let h : ChainHead := { port := 0, retx := false, image := 0, block := 0, hop := 0, crcOk := true, aborted := false }; let s : State := live;
      (decide (¬(!s.chainOn h.port || h.aborted)) && (decide (¬(!h.crcOk))))) = true ∧
    (let h : ChainHead := { port := 0, retx := false, image := 0, block := 0, hop := 0, crcOk := true, aborted := false }; let s : State := live;
      (decide (s.chainOn h.port = true) && (decide (h.aborted = false) && (decide (h.crcOk = true))))) = true ∧
    (let h : ChainHead := { port := 0, retx := false, image := 0, block := 0, hop := 0, crcOk := false, aborted := false }; let s : State := live;
      (decide (s.chainOn h.port = true) && (decide (h.aborted = false) && (decide (h.crcOk = false))))) = true := by
  decide

theorem wit_chainHello :
    (let h : ChainHead := { port := 0, retx := false, image := 0, block := 0, hop := 0, crcOk := true, aborted := false }; let s : State := regS;
      (decide ((!s.chainOn h.port || h.aborted)))) = true ∧
    (let h : ChainHead := { port := 0, retx := false, image := 0, block := 0, hop := 0, crcOk := false, aborted := false }; let s : State := live;
      (decide (¬(!s.chainOn h.port || h.aborted)) && (decide ((!h.crcOk))))) = true ∧
    (let h : ChainHead := { port := 0, retx := false, image := 0, block := 0, hop := 0, crcOk := true, aborted := false }; let s : State := live;
      (decide (¬(!s.chainOn h.port || h.aborted)) && (decide (¬(!h.crcOk))))) = true ∧
    (let h : ChainHead := { port := 0, retx := false, image := 0, block := 0, hop := 0, crcOk := true, aborted := false }; let s : State := live;
      (decide (s.chainOn h.port = true) && (decide (h.aborted = false) && (decide (h.crcOk = true))))) = true ∧
    (let h : ChainHead := { port := 0, retx := false, image := 0, block := 0, hop := 0, crcOk := false, aborted := false }; let s : State := live;
      (decide (s.chainOn h.port = true) && (decide (h.aborted = false) && (decide (h.crcOk = false))))) = true := by
  decide

theorem wit_chainStatus :
    (let h : ChainHead := { port := 0, retx := false, image := 0, block := 0, hop := 0, crcOk := true, aborted := false }; let s : State := regS;
      (decide ((!s.chainOn h.port || h.aborted)))) = true ∧
    (let h : ChainHead := { port := 0, retx := false, image := 0, block := 0, hop := 0, crcOk := false, aborted := false }; let s : State := live;
      (decide (¬(!s.chainOn h.port || h.aborted)) && (decide ((!h.crcOk))))) = true ∧
    (let h : ChainHead := { port := 0, retx := false, image := 0, block := 0, hop := 0, crcOk := true, aborted := false }; let s : State := live;
      (decide (¬(!s.chainOn h.port || h.aborted)) && (decide (¬(!h.crcOk))))) = true ∧
    (let h : ChainHead := { port := 0, retx := false, image := 0, block := 0, hop := 0, crcOk := true, aborted := false }; let s : State := live;
      (decide (s.chainOn h.port = true) && (decide (h.aborted = false) && (decide (h.crcOk = true))))) = true ∧
    (let h : ChainHead := { port := 0, retx := false, image := 0, block := 0, hop := 0, crcOk := false, aborted := false }; let s : State := live;
      (decide (s.chainOn h.port = true) && (decide (h.aborted = false) && (decide (h.crcOk = false))))) = true := by
  decide

theorem wit_helloSend :
    (let s : State := live; (decide ((s.chn.helloSent + 100000 ≤ s.tick ∧ (s.chainOn 0 ∨ s.chainOn 1))))) = true ∧
    (let s : State := State.reset; (decide (¬(s.chn.helloSent + 100000 ≤ s.tick ∧ (s.chainOn 0 ∨ s.chainOn 1))))) = true ∧
    (let s : State := live; (decide (s.chn.helloSent + 100000 ≤ s.tick) && (decide (s.chainOn 0 = true ∨ s.chainOn 1 = true)))) = true := by
  decide

theorem wit_chainPortTimeout :
    (let p : Fin 2 := 0; let s : State := regS; (decide ((!s.chainOn p)))) = true ∧
    (let p : Fin 2 := 0; let codes : Nat := 0; let s : State := live.setB CHN_PORT_STAT_LINK true (p.val); (decide (¬(!s.chainOn p)) &&
      (decide ((let w := s.tick / 1000000; let x := s.cport p; let n := (if x.codes.1 = w then x.codes.2 + codes else codes);
      let s := (s.addSat CHN_ERR_CODE codes p.val).setCport p { x with codes := (w, n) }; s.chainUp p ∧ (16 < n ∨ s.helloLate p)))))) = true ∧
    (let p : Fin 2 := 0; let codes : Nat := 0; let s : State := live; (decide (¬(!s.chainOn p)) && (decide (¬(let w := s.tick / 1000000;
      let x := s.cport p; let n := (if x.codes.1 = w then x.codes.2 + codes else codes);
      let s := (s.addSat CHN_ERR_CODE codes p.val).setCport p { x with codes := (w, n) }; s.chainUp p ∧ (16 < n ∨ s.helloLate p)))))) = true := by
  decide

theorem wit_chainRetransmit :
    (let p : Fin 2 := 0; let s : State := live; (decide ((!s.chainUp p)))) = true ∧
    (let p : Fin 2 := 0; let s : State := live.setB CHN_PORT_STAT_LINK true (p.val); (decide (¬(!s.chainUp p)))) = true := by
  decide

theorem wit_resetLink :
    (let r : Requester := .policy; let w : Word := 0; let s : State := live.setB CHN_PORT_STAT_LINK true ((Fin.ofNat 2 (bitsOf w 0 1)).val);
      (decide (s.mayWrite r CHN_CMD_PORT.addr = true) && (decide ((let s := s.touch r; let p : Fin 2 := Fin.ofNat 2 (bitsOf w 0 1);
      s.chainUp p))))) = true ∧
    (let r : Requester := .policy; let w : Word := 0; let s : State := live; (decide (s.mayWrite r CHN_CMD_PORT.addr = true) &&
      (decide (¬(let s := s.touch r; let p : Fin 2 := Fin.ofNat 2 (bitsOf w 0 1); s.chainUp p))))) = true := by
  decide

/-! #### UpdateCommands -/

theorem wit_stagingRxTimeout :
    (let s : State := live.set UPD_STATE_STATE (1);
      (decide ((s.get UPD_STATE_STATE = 1 ∧ s.upd.lastNew + 1000000 * s.get UPD_CFG_RX_TMO_S ≤ s.tick)))) = true ∧
    (let s : State := live; (decide (¬(s.get UPD_STATE_STATE = 1 ∧ s.upd.lastNew + 1000000 * s.get UPD_CFG_RX_TMO_S ≤ s.tick)))) = true := by
  decide

theorem wit_updActivate :
    (let r : Requester := .policy; let s : State := live.set UPD_STATE_STATE (2); (decide (s.mayWrite r UPD_CMD_ACTIVATE.addr = true) &&
      (decide ((let s := s.touch r; s.get UPD_STATE_STATE = 2 ∧ (s.on SYS_STAT_NO_FW ∨ (s.power = .normal ∧ s.full))))))) = true ∧
    (let r : Requester := .policy; let s : State := live; (decide (s.mayWrite r UPD_CMD_ACTIVATE.addr = true) && (decide (¬(let s := s.touch r;
      s.get UPD_STATE_STATE = 2 ∧ (s.on SYS_STAT_NO_FW ∨ (s.power = .normal ∧ s.full))))))) = true := by
  decide

theorem wit_updDiscard :
    (let r : Requester := .policy; let s : State := live.set UPD_STATE_STATE (1); (decide (s.mayWrite r UPD_CMD_ACTIVATE.addr = true) &&
      (decide ((let s := s.touch r; s.get UPD_STATE_STATE = 1 ∨ s.get UPD_STATE_STATE = 2))))) = true ∧
    (let r : Requester := .policy; let s : State := live; (decide (s.mayWrite r UPD_CMD_ACTIVATE.addr = true) && (decide (¬(let s := s.touch r;
      s.get UPD_STATE_STATE = 1 ∨ s.get UPD_STATE_STATE = 2))))) = true := by
  decide

theorem wit_updRevert :
    (let r : Requester := .policy; let s : State := live.set UPD_STATE_STATE (4); (decide (s.mayWrite r UPD_CMD_ACTIVATE.addr = true) &&
      (decide ((let s := s.touch r; s.get UPD_STATE_STATE = 4))))) = true ∧
    (let r : Requester := .policy; let s : State := live; (decide (s.mayWrite r UPD_CMD_ACTIVATE.addr = true) && (decide (¬(let s := s.touch r;
      s.get UPD_STATE_STATE = 4))))) = true := by
  decide

theorem wit_moduleBankReport :
    (let s : State := live; (decide ((s.twb.modRes = [])))) = true ∧
    (let s : State := { live with twb := { modRes := [(0, 0xE1, { code := 0 })] } };
      (match s.twb.modRes with | (n, cmd, r) :: rest => (decide ((let report : Bool := true; (cmd == 0xE2) != report))) | _ => false)) = true ∧
    (let s : State := { live with twb := { modRes := [(0, 0xE2, { code := 0 })] } };
      (match s.twb.modRes with | (n, cmd, r) :: rest => (decide (¬(let report : Bool := true; (cmd == 0xE2) != report)) && (decide (((let s := { s with twb := { s.twb with modRes := rest } }; s.upd.cur) = none)))) | _ => false)) = true ∧
    (let s : State := { live with twb := { modRes := [(0, 0xE2, { code := 0 })] }, upd := { cur := some 0 } };
      (match s.twb.modRes with | (n, cmd, r) :: rest => (decide (¬(let report : Bool := true; (cmd == 0xE2) != report)) && (match (let s := { s with twb := { s.twb with modRes := rest } }; s.upd.cur) with | some i => (decide (((let s := { s with twb := { s.twb with modRes := rest } }; s.modTargets[i]?) = none))) | _ => false)) | _ => false)) = true ∧
    (let s : State := { live with twb := { modRes := [(0, 0xE2, { code := 0 })] }, upd := { cur := some 0, targets := some [{ part := 0, entry := 1 }] } };
      (match s.twb.modRes with | (n, cmd, r) :: rest => (decide (¬(let report : Bool := true; (cmd == 0xE2) != report)) && (match (let s := { s with twb := { s.twb with modRes := rest } }; s.upd.cur) with | some i => (match (let s := { s with twb := { s.twb with modRes := rest } }; s.modTargets[i]?) with | some t => (decide ((t.entry ≠ n ∨ t.asks ≠ cmd))) | _ => false) | _ => false)) | _ => false)) = true ∧
    (let s : State := { live with twb := { modRes := [(0, 0xE2, { code := 0, data := [0, 0, 0, 0] })] }, upd := { cur := some 0, targets := some [{ part := 0, entry := 0 }] } };
      (match s.twb.modRes with | (n, cmd, r) :: rest => (decide (¬(let report : Bool := true; (cmd == 0xE2) != report)) && (match (let s := { s with twb := { s.twb with modRes := rest } }; s.upd.cur) with | some i => (match (let s := { s with twb := { s.twb with modRes := rest } }; s.modTargets[i]?) with | some t => (decide (¬(t.entry ≠ n ∨ t.asks ≠ cmd)) && (decide ((let report : Bool := true; report)) && (decide ((r.code = 0 ∧ r.data.length = 4))))) | _ => false) | _ => false)) | _ => false)) = true ∧
    (let s : State := { live with twb := { modRes := [(0, 0xE2, { code := 0 })] }, upd := { cur := some 0, targets := some [{ part := 0, entry := 0 }] } };
      (match s.twb.modRes with | (n, cmd, r) :: rest => (decide (¬(let report : Bool := true; (cmd == 0xE2) != report)) && (match (let s := { s with twb := { s.twb with modRes := rest } }; s.upd.cur) with | some i => (match (let s := { s with twb := { s.twb with modRes := rest } }; s.modTargets[i]?) with | some t => (decide (¬(t.entry ≠ n ∨ t.asks ≠ cmd)) && (decide ((let report : Bool := true; report)) && (decide (¬(r.code = 0 ∧ r.data.length = 4))))) | _ => false) | _ => false)) | _ => false)) = true := by
  decide

theorem wit_moduleTimeout :
    (let s : State := live; (decide ((s.get UPD_STATE_STATE ≠ 4)))) = true ∧
    (let s : State := { live.set UPD_STATE_STATE 4 with upd := { targets := some [{ part := 0, entry := 0, phase := .trial }] } };
      (decide (¬(s.get UPD_STATE_STATE ≠ 4)) && (match s.modTargets.find? (fun t => t.phase == .trial && decide (t.at_ + 1000000 * s.get UPD_MOD_CFG_MOD_TMO_S ≤ s.tick)) with | some t => (decide ((s.get UPD_STATE_STATE = 4))) | _ => false))) = true ∧
    (let s : State := live.set UPD_STATE_STATE (4); (decide (¬(s.get UPD_STATE_STATE ≠ 4)) &&
      (decide ((s.modTargets.find? (fun t => t.phase == .trial && decide (t.at_ + 1000000 * s.get UPD_MOD_CFG_MOD_TMO_S ≤ s.tick)) = none))))) = true := by
  decide

theorem wit_trialTimeout :
    (let s : State := live.set UPD_STATE_STATE (4);
      (decide ((s.get UPD_STATE_STATE = 4 ∧ s.upd.activatedAt + 1000000 * s.get UPD_CFG_TRIAL_S ≤ s.tick ∧ !s.modTargets.any (fun t => t.phase == .commit || t.phase == .finished))))) = true ∧
    (let s : State := live;
      (decide (¬(s.get UPD_STATE_STATE = 4 ∧ s.upd.activatedAt + 1000000 * s.get UPD_CFG_TRIAL_S ≤ s.tick ∧ !s.modTargets.any (fun t => t.phase == .commit || t.phase == .finished))))) = true := by
  decide

/-! #### CoverageCommands -/

theorem wit_coreTaskBoundary :
    (let s : State := State.reset; (decide ((!s.coreCmp)))) = true ∧
    (let differ : Bool := true; let s : State := live; (decide (¬(!s.coreCmp)) && (decide (differ)))) = true ∧
    (let differ : Bool := false; let s : State := live; (decide (¬(!s.coreCmp)) && (decide (¬differ)))) = true := by
  decide

theorem wit_coreBoundaryTimeout :
    (let s : State := live; (decide (s.coreCmp))) = true ∧
    (let s : State := State.reset; (decide (¬s.coreCmp))) = true := by
  decide

theorem wit_coreRelease :
    (let r : Requester := .policy; let s : State := live.setB SAF_STAT_CORE_HELD true;
      (decide (s.mayCommand r SAF_CMD_CORE_RELEASE.addr .curator = true) && (decide ((let s := s.touch r; s.on SAF_STAT_CORE_HELD))))) = true ∧
    (let r : Requester := .policy; let s : State := live; (decide (s.mayCommand r SAF_CMD_CORE_RELEASE.addr .curator = true) &&
      (decide (¬(let s := s.touch r; s.on SAF_STAT_CORE_HELD))))) = true := by
  decide

theorem wit_sieveRead :
    (let s : State := State.reset; (decide ((s.boot.g.isNone ∨ !s.on BKG_SIEVE_CFG_EN)))) = true ∧
    (let sram : Bool := true; let s : State := { live.setB BKG_SIEVE_CFG_EN true with saf := { sramRead := 100000000 } };
      (decide (¬(s.boot.g.isNone ∨ !s.on BKG_SIEVE_CFG_EN)) && (decide (sram) && (decide ((let t := s.tick % 8000000; let w := s.saf.sramRead;
      sramWords ≤ w ∨ t < 5 * w)))))) = true ∧
    (let sram : Bool := true; let s : State := live; (decide (¬(s.boot.g.isNone ∨ !s.on BKG_SIEVE_CFG_EN)) && (decide (sram) &&
      (decide (¬(let t := s.tick % 8000000; let w := s.saf.sramRead; sramWords ≤ w ∨ t < 5 * w)))))) = true ∧
    (let sram : Bool := false; let s : State := live.setB BKG_SIEVE_CFG_NVM_EN false; (decide (¬(s.boot.g.isNone ∨ !s.on BKG_SIEVE_CFG_EN)) &&
      (decide (¬sram) && (decide ((let t := s.tick % 8000000; let w := s.saf.nvmRead;
      !s.on BKG_SIEVE_CFG_NVM_EN ∨ nvmWords ≤ w ∨ t < 7 * (w / 4))))))) = true ∧
    (let sram : Bool := false; let s : State := live; (decide (¬(s.boot.g.isNone ∨ !s.on BKG_SIEVE_CFG_EN)) && (decide (¬sram) &&
      (decide (¬(let t := s.tick % 8000000; let w := s.saf.nvmRead; !s.on BKG_SIEVE_CFG_NVM_EN ∨ nvmWords ≤ w ∨ t < 7 * (w / 4))))))) = true ∧
    (let s : State := live; (decide (s.boot.g.isSome = true) && (decide (s.on BKG_SIEVE_CFG_EN = true) && (decide (s.saf.sramRead < sramWords) &&
      (decide (5 * s.saf.sramRead ≤ s.tick % 8000000)))))) = true := by
  decide

theorem wit_sievePassEnd :
    (let s : State := State.reset; (decide ((s.tick % 8000000 ≠ 0 ∨ s.boot.g.isNone ∨ !s.on BKG_SIEVE_CFG_EN)))) = true ∧
    (let s : State := { live.setB BKG_SIEVE_CFG_EN true with saf := { sramRead := 100000000, nvmRead := 100000000 } };
      (decide (¬(s.tick % 8000000 ≠ 0 ∨ s.boot.g.isNone ∨ !s.on BKG_SIEVE_CFG_EN)) &&
      (decide ((let whole := decide (sramWords ≤ s.saf.sramRead) && (!s.on BKG_SIEVE_CFG_NVM_EN || decide (nvmWords ≤ s.saf.nvmRead));
      whole))))) = true ∧
    (let s : State := live; (decide (¬(s.tick % 8000000 ≠ 0 ∨ s.boot.g.isNone ∨ !s.on BKG_SIEVE_CFG_EN)) &&
      (decide (¬(let whole := decide (sramWords ≤ s.saf.sramRead) && (!s.on BKG_SIEVE_CFG_NVM_EN || decide (nvmWords ≤ s.saf.nvmRead));
      whole))))) = true ∧
    (let s : State := live; (decide (s.tick % 8000000 = 0) && (decide (s.boot.g.isSome = true) && (decide (s.on BKG_SIEVE_CFG_EN = true))))) = true := by
  decide

theorem wit_supplyDroop :
    (let k : Fin 3 := 0; let s : State := live.setB SAF_DROOP_STAT_VCORE true; (decide ((s.on (droopField k))))) = true ∧
    (let k : Fin 3 := 0; let s : State := live; (decide (¬(s.on (droopField k))))) = true := by
  decide

theorem wit_supplyDroopEnd :
    (let k : Fin 3 := 0; let s : State := live.setB SAF_DROOP_STAT_VCORE true; (decide ((s.on (droopField k))))) = true ∧
    (let k : Fin 3 := 0; let s : State := live; (decide (¬(s.on (droopField k))))) = true := by
  decide

theorem wit_telemetryRefresh :
    (let s : State := State.reset; (decide ((s.boot.g.isNone ∨ s.power = .halt ∨ s.tick < s.saf.telAt + s.telPeriod)))) = true ∧
    (let ms : Option (BitVec 16) := (some 0); let s : State := live;
      (decide (¬(s.boot.g.isNone ∨ s.power = .halt ∨ s.tick < s.saf.telAt + s.telPeriod)) && (match ms with | some d => true | _ => false))) = true ∧
    (let ms : Option (BitVec 16) := none; let s : State := live; (decide (¬(s.boot.g.isNone ∨ s.power = .halt ∨ s.tick < s.saf.telAt + s.telPeriod)) &&
      (decide ((ms = none))))) = true ∧
    (let s : State := live; (decide (s.boot.g.isSome = true) && (decide (s.power ≠ .halt) && (decide (s.saf.telAt + s.telPeriod ≤ s.tick))))) = true := by
  decide

end Sys2Proof.Tests
end

section
namespace Sys2Proof.Proofs

open Sys2Proof.Machine

/-- Settles O13, by the frame of every command that `movesPower` leaves out (`exec_stays`). SHIP is among them: its command only marks the entry as
due, and the transition is decided at the end of the tick (log entry 58). -/
theorem onlyPowerCommandsMoveThePowerState : Obligations.OnlyPowerCommandsMoveThePowerState := by
  unfold Obligations.OnlyPowerCommandsMoveThePowerState
  intro c s t keepsPower runs
  exact exec_stays c s t keepsPower runs

end Sys2Proof.Proofs
end

section
/-! The commands of the time base (file 02): what each runs, and what the shared operations under them answer in each form. -/

namespace Sys2Proof.Proofs

open Sys2Proof.Machine

/-! ### The discipline (R39, R40) -/

/-- A write that R71 lets pass, of a class-C register that has a command of its own, is the write of the register's row. -/
theorem configWrite_allowed {s : State} {r : Requester} {a : Nat} {w : Word} {row : RegRow} (may : s.mayWrite r a = true)
    (found : findRow a = some row) : s.configWrite r a w = ((s.touch r).classC r row a 0 w).1 := by
  rw [State.configWrite, State.gate_ok may, found]

theorem exec_tbSrcWrite (r : Requester) (w : Word) (s : State) :
    exec (.tbSrcWrite r w) s = .next (s.configWrite r TB_SRC_CTRL_SRC.addr w) := rfl

theorem exec_discSourcePresent (s : State) : exec .discSourcePresent s =
    if !s.following ∧ s.get TB_SRC_CTRL_SRC ≠ 0 ∧ (s.get TB_DISC_STAT_STATE = 0 ∨ s.get TB_DISC_STAT_STATE = 3)
    then .next s.discAcquire else .next s := rfl

theorem exec_discSourceLost (s : State) : exec .discSourceLost s = .next s.discLost := rfl

/-- ACQUIRE and LOCKED go to HOLDOVER, and both counters of losses take the loss. -/
theorem discLost_of_disciplined {s : State} (h : s.get TB_DISC_STAT_STATE = 1 ∨ s.get TB_DISC_STAT_STATE = 2) :
    s.discLost = let t := ((s.set TB_DISC_STAT_STATE 3).inc TB_DISC_STAT_LOSSES).inc TB_FAULT_CNT_SRC_LOSSES
      { t with tb := { t.tb with holdoverSince := t.tick } } := if_pos h

theorem discLost_of_undisciplined {s : State} (h : ¬(s.get TB_DISC_STAT_STATE = 1 ∨ s.get TB_DISC_STAT_STATE = 2)) :
    s.discLost = s := if_neg h

/-- The window that locks lies within ACQUIRE (log entry 32). -/
theorem exec_discLockWindow (worst : Int) (s : State) : exec (.discLockWindow worst) s =
    if !s.following ∧ s.get TB_DISC_STAT_STATE = 1 ∧ s.tb.acquireSince + 10000000 ≤ s.tick ∧ worst.natAbs < 100
    then .next (let t := s.set TB_DISC_STAT_STATE 2; { t with tb := { t.tb with lockedSince := t.tick } }) else .next s := rfl

theorem exec_holdoverStale (s : State) : exec .holdoverStale s = .next s.staleJudge := rfl

/-- The rate moves once in each 1,000,000 ticks (log entry 32): back to 0 in FREE, not at all in HOLDOVER. -/
theorem exec_discRateStep (ferr want : Int) (s : State) : exec (.discRateStep ferr want) s =
    if s.following ∨ s.tick < s.tb.lastStep + 1000000 then .next s
    else if s.get TB_DISC_STAT_STATE = 0 then .next (s.rateTo 0)
    else if s.get TB_DISC_STAT_STATE = 3 then .next s
    else .next ((s.setI TB_FERR_FERR ferr).rateTo want) := rfl

/-! ### The cross-check and its fall-back (R41, R42) -/

/-- The state in which a window of the cross-check is judged: its count is recorded. -/
def windowCounted (s : State) (count : Nat) : State := s.set TB_XCHK_STAT_LAST_COUNT (min count 65535)

/-- The run of good windows goes on, up to 8; with the eighth the tick source returns to the pace oscillator. -/
def goodWindow (s : State) : State :=
  let run := min 8 (s.get TB_XCHK_STAT_GOOD_RUN + 1)
  (s.set TB_XCHK_STAT_GOOD_RUN run).iff (s.tb.onCheck && run == 8) State.paceReturn

/-- A bad window is a time base fault only while the pace oscillator is the tick source. -/
theorem exec_xchkWindowEnd (count : Nat) (s : State) : exec (.xchkWindowEnd count) s =
    if (windowCounted s count).xchkGood count then .next (goodWindow (windowCounted s count))
    else if (windowCounted s count).tb.onCheck then .next ((windowCounted s count).set TB_XCHK_STAT_GOOD_RUN 0)
    else .next (windowCounted s count).timeFault := rfl

/-! ### The windows of the core voltage (R44, R45) -/

/-- What a window's end does before it is marked: the report of R44, the end of the hold at 0.85 V (log entry 31), and rule 3 of R45
(log entry 62). -/
def coreWindow (s : State) : State := s.slackReport.forcedEnd.coreLower

theorem coreWindow_kept {m : May} {s₀ s : State} (h : Kept m s₀ s) : Kept m s₀ (coreWindow s) :=
  State.coreLower_kept (State.forcedEnd_kept (State.slackReport_kept h))

theorem coreWindow_tick (s : State) : (coreWindow s).tick = s.tick := (coreWindow_kept (m := ⟨false, false⟩) (Kept.refl s)).tick

theorem exec_vcoreWindowEnd (s : State) : exec .vcoreWindowEnd s =
    if s.tick % 10000 = 0 ∧ s.tb.windowAt < s.tick
    then .next { coreWindow s with tb := { (coreWindow s).tb with windowAt := (coreWindow s).tick } } else .next s := rfl

/-- A window that ends is marked at the tick counter, which stands, and leaves the registers that `coreWindow` gives. -/
theorem vcoreWindowEnd_runs {s : State} (due : s.tick % 10000 = 0 ∧ s.tb.windowAt < s.tick) :
    Runs .vcoreWindowEnd s (fun t => t.tb.windowAt = s.tick ∧ t.tick = s.tick ∧ t.regs = (coreWindow s).regs) :=
  ⟨_, (exec_vcoreWindowEnd s).trans (if_pos due), coreWindow_tick s, coreWindow_tick s, rfl⟩

/-- Settles O22, command by command, by the equation of its `exec` and the branch that the clause's conditions choose. The clauses rest on choices of
the model: the end of FORCED_MAX (log entry 31), the window that locks and the pace of the rate steps (32), the rounding of the slack and the step
down to FLOOR (62). -/
theorem timeCommands : Obligations.TimeCommands := by
  unfold Obligations.TimeCommands
  refine ⟨?tbSrcWrite, ?present, ?presentIdle, ?lost, ?lostIdle, ?lock, ?lockNot, ?stale, ?rateIdle, ?rateFree, ?rateHoldover, ?rate,
    ?windowGood, ?windowBadOnCheck, ?windowFault, ?core, ?coreIdle, ?coreRuns⟩
  case tbSrcWrite =>
    intro r w s row may found
    rw [exec_tbSrcWrite, configWrite_allowed may found]
  case present => exact fun s h => (exec_discSourcePresent s).trans (if_pos h)
  case presentIdle => exact fun s h => (exec_discSourcePresent s).trans (if_neg h)
  case lost =>
    intro s h
    rw [exec_discSourceLost, discLost_of_disciplined h]
  case lostIdle =>
    intro s h
    rw [exec_discSourceLost, discLost_of_undisciplined h]
  case lock => exact fun worst s h => (exec_discLockWindow worst s).trans (if_pos h)
  case lockNot => exact fun worst s h => (exec_discLockWindow worst s).trans (if_neg h)
  case stale => exact exec_holdoverStale
  case rateIdle =>
    intro ferr want s idle
    rw [exec_discRateStep, if_pos idle]
  case rateFree =>
    intro ferr want s due free
    rw [exec_discRateStep, if_neg due, if_pos free, State.rateTo]
  case rateHoldover =>
    intro ferr want s due notFree holdover
    rw [exec_discRateStep, if_neg due, if_neg notFree, if_pos holdover]
  case rate =>
    intro ferr want s due notFree notHoldover
    rw [exec_discRateStep, if_neg due, if_neg notFree, if_neg notHoldover, State.rateTo]
  case windowGood => exact fun count s good => (exec_xchkWindowEnd count s).trans (if_pos good)
  case windowBadOnCheck =>
    exact fun count s bad onCheck => (exec_xchkWindowEnd count s).trans ((if_neg bad).trans (if_pos onCheck))
  case windowFault =>
    exact fun count s bad onPace => (exec_xchkWindowEnd count s).trans ((if_neg bad).trans (if_neg onPace))
  case core => exact fun s due => (exec_vcoreWindowEnd s).trans (if_pos due)
  case coreIdle => exact fun s h => (exec_vcoreWindowEnd s).trans (if_neg h)
  case coreRuns => exact fun s atEnd fresh => vcoreWindowEnd_runs ⟨atEnd, fresh⟩

end Sys2Proof.Proofs
end

section
/-! The commands that read and write words (R51, R73, R78, R81, R489, R490): what each runs, and what a read that R71 lets pass answers. -/

namespace Sys2Proof.Proofs

open Sys2Proof.Machine

/-! ### Reads and writes as commands -/

theorem readCmd_unserved {s : State} {r : Requester} {a : Nat} (h : !s.servesFor r) : s.readCmd r a = s := if_pos h

/-- A served read answers the word it read, or 0 where R71 refuses it. -/
theorem readCmd_served {s : State} {r : Requester} {a : Nat} (h : ¬(!s.servesFor r)) :
    s.readCmd r a = (s.wordRead r a).1.replyTo r [(s.wordRead r a).2.1.toNat] := if_neg h

/-- A read that R71 lets pass takes the word, with the latches that go with it (R51, R73). -/
theorem wordRead_allowed {s : State} {r : Requester} {a : Nat} (may : s.mayRead r a = true) :
    s.wordRead r a = (((s.touch r).wordTake (s.srcOf r) a).1, ((s.touch r).wordTake (s.srcOf r) a).2, 0) := by
  obtain ⟨-, noError⟩ : s.servesFor r = true ∧ s.readError r a = none := by
    simpa only [State.mayRead, Bool.and_eq_true, Option.isNone_iff_eq_none] using may
  rw [State.wordRead, noError]

theorem readCmd_allowed {s : State} {r : Requester} {a : Nat} (may : s.mayRead r a = true) :
    s.readCmd r a = ((s.touch r).wordTake (s.srcOf r) a).1.replyTo r [((s.touch r).wordTake (s.srcOf r) a).2.toNat] := by
  have served : s.servesFor r = true := (Bool.and_eq_true_iff.mp may).1
  rw [readCmd_served (by simp [served]), wordRead_allowed may]

theorem writeCmd_unserved {s : State} {r : Requester} {a : Nat} {w : Word} (h : !s.servesFor r) : s.writeCmd r a w = s := if_pos h

theorem writeCmd_served {s : State} {r : Requester} {a : Nat} {w : Word} (h : ¬(!s.servesFor r)) :
    s.writeCmd r a w = (s.wordWrite r a w).1 := if_neg h

/-! ### The commands -/

theorem exec_tickLatchRead (r : Requester) (s : State) : exec (.tickLatchRead r) s = .next (s.readCmd r TB_TICK_LO_TICK_LO.addr) := rfl

theorem exec_multiwordLatchRead (r : Requester) (a : Word) (s : State) :
    exec (.multiwordLatchRead r a) s = .next (s.readCmd r a.toNat) := rfl

theorem exec_registerWrite (r : Requester) (a w : Word) (s : State) : exec (.registerWrite r a w) s = .next (s.writeCmd r a.toNat w) := rfl

theorem exec_aliasWrite (r : Requester) (a w : Word) (s : State) : exec (.aliasWrite r a w) s = .next (s.writeCmd r a.toNat w).settle := rfl

theorem exec_spiRead (a : BitVec 24) (n : Nat) (cut : Bool) (s : State) : exec (.spiRead a n cut) s =
    if !s.servesFor .spi then .next s
    else .next (((s.readWords .spi a.toNat n).1.partialWord cut).replyTo .spi ((s.readWords .spi a.toNat n).2.map BitVec.toNat)) := rfl

theorem exec_spiWrite (a : BitVec 24) (ws : List Word) (cut : Bool) (s : State) : exec (.spiWrite a ws cut) s =
    if !s.servesFor .spi then .next s else .next ((s.writeWords .spi a.toNat ws).partialWord cut) := rfl

theorem exec_spiStatus (s : State) : exec .spiStatus s =
    if !s.servesFor .spi then .next s
    else .next (State.replyTo { s with ports := { s.ports with spiFirst := 0, spiCount := 0 } } .spi [s.spiStatus]) := rfl

/-- Settles O23, command by command: a requester that is not served is left alone, the reads of R51 and R73 and the writes of R78 and R81 are
those of one word, and an SPI frame is its words in order. The clauses rest on choices of the model: what status bits and the registers and latches
kept for each source read as (log entries 16, 18), commands that take no time (25), writes of several command bits or related fields (46), and
SPI that is not framed while its bank is not good (89). -/
theorem accessCommands : Obligations.AccessCommands := by
  unfold Obligations.AccessCommands
  refine ⟨?tickUnserved, ?tickServed, ?tickAllowed, ?multiUnserved, ?multiServed, ?multiAllowed, ?writeUnserved, ?writeServed,
    ?aliasUnserved, ?aliasServed, ?spiReadUnserved, ?spiReadServed, ?spiWriteUnserved, ?spiWriteServed, ?statusUnserved, ?statusServed⟩
  case tickUnserved => exact fun r s h => by rw [exec_tickLatchRead, readCmd_unserved h]
  case tickServed => exact fun r s h => by rw [exec_tickLatchRead, readCmd_served h, State.replyTo]
  case tickAllowed => exact fun r s may => ⟨_, exec_tickLatchRead r s, readCmd_allowed may⟩
  case multiUnserved => exact fun r a s h => by rw [exec_multiwordLatchRead, readCmd_unserved h]
  case multiServed => exact fun r a s h => by rw [exec_multiwordLatchRead, readCmd_served h, State.replyTo]
  case multiAllowed => exact fun r a s may => ⟨_, exec_multiwordLatchRead r a s, readCmd_allowed may⟩
  case writeUnserved => exact fun r a w s h => by rw [exec_registerWrite, writeCmd_unserved h]
  case writeServed => exact fun r a w s h => by rw [exec_registerWrite, writeCmd_served h]
  case aliasUnserved => exact fun r a w s h => by rw [exec_aliasWrite, writeCmd_unserved h]
  case aliasServed => exact fun r a w s h => by rw [exec_aliasWrite, writeCmd_served h]
  case spiReadUnserved => exact fun a n cut s h => (exec_spiRead a n cut s).trans (if_pos h)
  case spiReadServed => exact fun a n cut s h => (exec_spiRead a n cut s).trans (if_neg h)
  case spiWriteUnserved => exact fun a ws cut s h => (exec_spiWrite a ws cut s).trans (if_pos h)
  case spiWriteServed => exact fun a ws cut s h => (exec_spiWrite a ws cut s).trans (if_neg h)
  case statusUnserved => exact fun s h => (exec_spiStatus s).trans (if_pos h)
  case statusServed => exact fun s h => (exec_spiStatus s).trans (if_neg h)

end Sys2Proof.Proofs
end

section
/-! The access errors of R71: which error a read and a write meet, what a refused one answers, and what a refusal leaves. -/

namespace Sys2Proof.Proofs

open Sys2Proof.Machine

/-! ### Which error (R71) -/

section
variable {s : State} {r : Requester} {a : Nat}

theorem readError_unaligned (odd : a % 4 ≠ 0) : s.readError r a = some .unaligned := if_pos odd

theorem readError_unmapped (aligned : a % 4 = 0) (nothing : target a = .unmapped) : s.readError r a = some .unmapped :=
  (if_neg (not_not_intro aligned)).trans (if_pos nothing)

theorem readError_role (aligned : a % 4 = 0) (mapped : target a ≠ .unmapped) (uncovered : (s.roleOf r).covers (readNeed (target a)) = false) :
    s.readError r a = some .role := by
  rw [State.readError, if_neg (not_not_intro aligned), if_neg mapped, uncovered, if_pos (by rfl)]

/-- A write finds nothing to write: nothing stands there, or a read-only window (R70), or a coefficient that R174 fixes. -/
def unwritable (t : Target) : Prop := t = .unmapped ∨ t.readOnly = true ∨ coefFixed t = true

theorem not_unwritable {t : Target} (mapped : t ≠ .unmapped) (window : t.readOnly = false) (spot : coefFixed t = false) :
    ¬unwritable t := by
  simp [unwritable, mapped, window, spot]

theorem writeError_unaligned (odd : a % 4 ≠ 0) : s.writeError r a = some .unaligned := if_pos odd

theorem writeError_unmapped (aligned : a % 4 = 0) (nothing : unwritable (target a)) : s.writeError r a = some .unmapped :=
  (if_neg (not_not_intro aligned)).trans (if_pos nothing)

/-- The checks of R71 that come after the address: the role, then the lock. -/
theorem writeError_writable (aligned : a % 4 = 0) (writable : ¬unwritable (target a)) : s.writeError r a =
    if !(s.roleOf r).covers (writeNeed (target a)) then some .role else if s.lockedAt (target a) then some .locked else none :=
  (if_neg (not_not_intro aligned)).trans (if_neg writable)

theorem wordRead_refused {e : AccErr} (refused : s.readError r a = some e) : s.wordRead r a = (s.refuse r a e, 0, e.code) := by
  rw [State.wordRead, refused]

/-- The checks of R71 come before those that look at the word written. -/
theorem putError_of_writeError {w : Word} {e : AccErr} (refused : s.writeError r a = some e) : s.putError r a w = some e := by
  rw [State.putError, refused]

theorem wordWrite_refused {w : Word} {e : AccErr} (refused : s.writeError r a = some e) : s.wordWrite r a w = (s.refuse r a e, e.code) := by
  rw [State.wordWrite, putError_of_writeError refused]

end

/-! ### Counters that saturate -/

theorem reg_inc_ne (s : State) {f : Field} {a : Nat} (h : a ≠ f.at 0) : (s.inc f).reg a = s.reg a := State.reg_set_ne s f _ 0 h

/-- A count that saturates fits its field, so it is stored uncut. -/
theorem get_inc_same (s : State) {f : Field} (fits : f.fits 0) : (s.inc f).get f = min (s.get f + 1) (2 ^ f.width - 1) := by
  have uncut : min (s.get f + 1) (2 ^ f.width - 1) < 2 ^ f.width := by
    have := Nat.two_pow_pos f.width
    omega
  rw [State.inc, State.addSat, State.get_set_same s f _ 0 fits, Nat.mod_eq_of_lt uncut]

theorem get_inc_apart (s : State) {f g : Field} (apart : f.apart 0 g 0) : (s.inc f).get g = s.get g := State.get_set_apart s f g _ 0 0 apart

theorem get_of_reg {s t : State} {f : Field} (h : t.reg (f.at 0) = s.reg (f.at 0)) : t.get f = s.get f := by
  rw [State.get, h, ← State.get]

/-! ### What a refusal leaves (R71, R490) -/

/-- An error is counted among those of its kind; a LOCKED one also in `CCK_LOCK_REJ`. -/
def errorCounted (s : State) (e : AccErr) : State := (s.inc e.counter).iff (e == .locked) (fun s => s.inc CCK_LOCK_REJ_REJ)

/-- The registers that report an error to the SPI port. -/
def spiRegisters (s : State) (a : Nat) (e : AccErr) : State :=
  ((s.inc HIF_SPI_STAT_ERRORS).set HIF_SPI_LAST_ADDR a).set HIF_SPI_LAST_CODE e.code

/-- What a refusal does to registers and memory: the error is counted, and the SPI port's own errors are reported to it. -/
theorem refuse_stores (s : State) (r : Requester) (a : Nat) (e : AccErr) :
    (s.refuse r a e).regs = ((errorCounted s e).iff (r = .spi) (fun s => spiRegisters s a e)).regs ∧ (s.refuse r a e).mem = s.mem := by
  cases r <;> cases e <;> exact ⟨rfl, rfl⟩

theorem refuse_mem (s : State) (r : Requester) (a : Nat) (e : AccErr) : (s.refuse r a e).mem = s.mem := (refuse_stores s r a e).2

theorem refuse_reg (s : State) (r : Requester) (a : Nat) (e : AccErr) (b : Nat) :
    (s.refuse r a e).reg b = ((errorCounted s e).iff (r = .spi) (fun s => spiRegisters s a e)).reg b := by
  rw [State.reg, (refuse_stores s r a e).1, ← State.reg]

theorem reg_spiRegisters (s : State) (a : Nat) (e : AccErr) {b : Nat} (hErrors : b ≠ HIF_SPI_STAT_ERRORS.addr)
    (hAddr : b ≠ HIF_SPI_LAST_ADDR.addr) (hCode : b ≠ HIF_SPI_LAST_CODE.addr) : (spiRegisters s a e).reg b = s.reg b := by
  rw [spiRegisters, State.reg_set_ne _ _ _ _ hCode, State.reg_set_ne _ _ _ _ hAddr, reg_inc_ne _ hErrors]

/-- Every register but those of the SPI port's report is as the count leaves it. -/
theorem refuse_reg_counted (s : State) (r : Requester) (a : Nat) (e : AccErr) {b : Nat} (hErrors : b ≠ HIF_SPI_STAT_ERRORS.addr)
    (hAddr : b ≠ HIF_SPI_LAST_ADDR.addr) (hCode : b ≠ HIF_SPI_LAST_CODE.addr) :
    (s.refuse r a e).reg b = (errorCounted s e).reg b := by
  rw [refuse_reg, State.iff]
  split
  · exact reg_spiRegisters _ a e hErrors hAddr hCode
  · rfl

theorem reg_errorCounted (s : State) (e : AccErr) {b : Nat} (hCount : b ≠ e.counter.addr) (hLock : b ≠ CCK_LOCK_REJ_REJ.addr) :
    (errorCounted s e).reg b = s.reg b := by
  have counted : (s.inc e.counter).reg b = s.reg b := by
    refine reg_inc_ne s ?_
    cases e <;> exact hCount
  rw [errorCounted, State.iff]
  split
  · rw [reg_inc_ne _ hLock, counted]
  · exact counted

/-- A refusal leaves every register that neither counts nor reports access errors. -/
theorem refuse_reg_frame (s : State) (r : Requester) (a : Nat) (e : AccErr) {b : Nat}
    (h : b ∉ [SYS_ACC_ERR_UNMAPPED.addr, SYS_ACC_ERR_UNALIGNED.addr, SYS_ACC_ERR_ROLE.addr, SYS_ACC_ERR_LOCKED.addr, CCK_LOCK_REJ_REJ.addr,
      HIF_SPI_STAT_ERRORS.addr, HIF_SPI_LAST_ADDR.addr, HIF_SPI_LAST_CODE.addr]) : (s.refuse r a e).reg b = s.reg b := by
  simp only [List.mem_cons, List.not_mem_nil, or_false, not_or] at h
  obtain ⟨hUnmapped, hUnaligned, hRole, hLocked, hLock, hErrors, hAddr, hCode⟩ := h
  have hCount : b ≠ e.counter.addr := by cases e <;> assumption
  rw [refuse_reg_counted s r a e hErrors hAddr hCode, reg_errorCounted s e hCount hLock]

/-! ### The counter of each kind -/

theorem counter_fits (k : AccErr) : k.counter.fits 0 := by
  unfold Field.fits
  cases k <;> decide

theorem counter_apart {k e : AccErr} (h : k ≠ e) : e.counter.apart 0 k.counter 0 := by
  unfold Field.apart
  revert h
  cases k <;> cases e <;> decide

theorem lockReject_apart (k : AccErr) : CCK_LOCK_REJ_REJ.apart 0 k.counter 0 := by
  refine .inl ?_
  cases k <;> decide

/-- An error raises the counter of its own kind, until it saturates, and no other. -/
theorem errorCounted_counter (s : State) (e k : AccErr) :
    (errorCounted s e).get k.counter = if k = e then min (s.get k.counter + 1) (2 ^ k.counter.width - 1) else s.get k.counter := by
  have rejected : (errorCounted s e).get k.counter = (s.inc e.counter).get k.counter := by
    rw [errorCounted, State.iff]
    split
    · exact get_inc_apart _ (lockReject_apart k)
    · rfl
  rw [rejected]
  split
  case isTrue same => rw [same, get_inc_same s (counter_fits e)]
  case isFalse other => exact get_inc_apart s (counter_apart other)

theorem refuse_counter (s : State) (r : Requester) (a : Nat) (e k : AccErr) :
    (s.refuse r a e).get k.counter = if k = e then min (s.get k.counter + 1) (2 ^ k.counter.width - 1) else s.get k.counter := by
  have unreported : (s.refuse r a e).reg (k.counter.at 0) = (errorCounted s e).reg (k.counter.at 0) := by
    apply refuse_reg_counted <;> cases k <;> decide
  rw [get_of_reg unreported, errorCounted_counter]

/-- Settles O17: the checks in the order of R71 (a coefficient that R174 fixes answers as a read-only window does; the roles are those of R487), the
answer of a refused access, and what `State.refuse` leaves. -/
theorem accessErrors : Obligations.AccessErrors := by
  unfold Obligations.AccessErrors
  refine ⟨?unaligned, ?readUnmapped, ?writeUnmapped, ?readRole, ?writeRole, ?writeLocked, ?readAnswer, ?writeAnswer, ?refusal⟩
  case unaligned => exact fun s r a odd => ⟨readError_unaligned odd, writeError_unaligned odd⟩
  case readUnmapped => exact fun s r a aligned nothing => readError_unmapped aligned nothing
  case writeUnmapped => exact fun s r a aligned nothing => writeError_unmapped aligned nothing
  case readRole => exact fun s r a aligned mapped uncovered => readError_role aligned mapped uncovered
  case writeRole =>
    intro s r a aligned mapped window spot uncovered
    rw [writeError_writable aligned (not_unwritable mapped window spot), uncovered, if_pos (by rfl)]
  case writeLocked =>
    intro s r a aligned mapped window spot covered locked
    rw [writeError_writable aligned (not_unwritable mapped window spot), covered, if_neg (by simp), if_pos locked]
  case readAnswer => exact fun s r a e refused => wordRead_refused refused
  case writeAnswer => exact fun s r a w e refused => wordWrite_refused refused
  case refusal => exact fun s r a e => ⟨refuse_mem s r a e, fun b h => refuse_reg_frame s r a e h, refuse_counter s r a e⟩

end Sys2Proof.Proofs
end

section
/-! Words in memory (R69): the bytes of a word that is stored, and the word they read back as. -/

namespace Sys2Proof.Proofs

open Sys2Proof.Machine

/-! ### Little-endian numbers -/

theorem length_leBytes (n v : Nat) : (leBytes n v).length = n := by
  induction n generalizing v with
  | zero => rfl
  | succ n ih => rw [leBytes, List.length_cons, ih]

theorem getElem?_leBytes (n v i : Nat) (h : i < n) : (leBytes n v)[i]? = some (BitVec.ofNat 8 (v / 256 ^ i)) := by
  induction n generalizing v i with
  | zero => omega
  | succ n ih =>
    cases i with
    | zero => simp [leBytes]
    | succ i => rw [leBytes, List.getElem?_cons_succ, ih _ _ (by omega), Nat.div_div_eq_div_mul, Nat.pow_succ']

theorem leNat_leBytes (n v : Nat) : leNat (leBytes n v) = v % 256 ^ n := by
  induction n generalizing v with
  | zero => simp [leBytes, leNat, Nat.mod_one]
  | succ n ih => rw [leBytes, leNat, ih, Nat.pow_succ', Nat.mod_mul, BitVec.toNat_ofNat]

/-! ### Bytes written -/

theorem byte_setBytes_in (bs : List Byte) (s : State) (a i : Nat) (b : Byte) (h : bs[i]? = some b) : (s.setBytes a bs).byte (a + i) = b := by
  induction bs generalizing s a i with
  | nil => simp at h
  | cons x bs ih =>
    cases i with
    | zero =>
      obtain rfl : x = b := by simpa using h
      rw [State.setBytes, State.byte_setBytes_out bs _ _ _ (.inl (by omega)), Nat.add_zero, State.byte_setByte_same]
    | succ i =>
      rw [State.setBytes, ← ih (s.setByte a x) (a + 1) i (by simpa using h), Nat.add_right_comm, Nat.add_assoc]

/-- Bytes written read back. -/
theorem bytes_setBytes (bs : List Byte) (s : State) (a n : Nat) (h : bs.length = n) : (s.setBytes a bs).bytes a n = bs := by
  refine List.ext_getElem (by simp [State.bytes, h]) fun i _ hi => ?_
  simp only [State.bytes, List.getElem_map, List.getElem_range]
  exact byte_setBytes_in bs s a i bs[i] (List.getElem?_eq_getElem hi)

/-! ### Words stored (R69) -/

/-- Byte `i` of a stored word is its bits from 8 i on. -/
theorem byte_store (s : State) (a : Nat) (w : Word) {i : Nat} (h : i < 4) : (s.store a w).byte (a + i) = w.extractLsb' (8 * i) 8 := by
  have bits : BitVec.ofNat 8 (w.toNat / 256 ^ i) = w.extractLsb' (8 * i) 8 := by
    rw [BitVec.extractLsb', Nat.shiftRight_eq_div_pow, Nat.pow_mul]
  rw [State.store, byte_setBytes_in _ s a i _ (getElem?_leBytes 4 w.toNat i h), bits]

theorem load_store (s : State) (a : Nat) (w : Word) : (s.store a w).load a = w := by
  rw [State.load, State.store, bytes_setBytes _ s a 4 (length_leBytes 4 w.toNat), leNat_leBytes]
  exact BitVec.eq_of_toNat_eq (by simp [Nat.mod_eq_of_lt w.isLt])

/-- Settles O16: an access at an address that is not a multiple of 4 meets UNALIGNED first (R71), and a word stored is its little-endian bytes. -/
theorem wordsAreLittleEndian : Obligations.WordsAreLittleEndian := by
  unfold Obligations.WordsAreLittleEndian
  refine ⟨?unaligned, ?stored⟩
  case unaligned =>
    intro s r a w odd
    rw [wordRead_refused (readError_unaligned odd), wordWrite_refused (writeError_unaligned odd)]
    exact ⟨rfl, rfl⟩
  case stored =>
    exact fun s a w => ⟨byte_store s a w (i := 0) (by decide), byte_store s a w (i := 1) (by decide), byte_store s a w (i := 2) (by decide),
      byte_store s a w (i := 3) (by decide), load_store s a w⟩

end Sys2Proof.Proofs
end

section
/-! The commands of the configuration check (R87 to R89): what each runs, and what a commit does in each form. -/

namespace Sys2Proof.Proofs

open Sys2Proof.Machine

/-! ### Scans (R87, R88) -/

/-- Without a first tick, which the Kiln load sets, no scan starts. -/
theorem exec_cckScanStart_none {s : State} (h : s.cck.first = none) : exec .cckScanStart s = .next s := by
  show execCckScanStart s = _
  rw [execCckScanStart, h, done]

theorem exec_cckScanStart_some {s : State} {f : Nat} (h : s.cck.first = some f) : exec .cckScanStart s =
    if f ≤ s.tick ∧ (s.tick - f) % 1000 = 0 ∧ s.on CCK_CTRL_EN ∧ s.cck.scan.isNone
    then .next { s with cck := { s.cck with scan := some s.tick, touched := [], commitScan := s.on CCK_STAT_COMMIT_BUSY } }
    else .next s := by
  show execCckScanStart s = _
  rw [execCckScanStart, h]
  rfl

/-- The pages whose result a scan discards: they were written while it read them (R87). -/
def discardedPages (cut : BitVec 31) (s : State) : List Nat :=
  (List.range 31).filter (fun p => cut.toNat.testBit p && s.cck.touched.contains p)

/-- The CRCs that a scan takes, of each page whose result it keeps and of all pages. -/
def scanCrcs (cut : BitVec 31) (s : State) : State :=
  let s := s.each ((List.range 31).filter (fun p => !(discardedPages cut s).contains p)) (fun s p => s.setReg (cfgCrcAddr p) (s.pageCrc p))
  s.set CCK_CUR_CUR (crcOfPages ((List.range 31).map (fun p => s.reg (cfgCrcAddr p)))).toNat

/-- The counts and times of a scan that took `time` ticks and discards the results of `n` pages. -/
def scanCounts (n time : Nat) (s : State) : State :=
  let s := (s.incWrap CCK_SCAN_CNT_SCANS).addSat CCK_REPEAT_CNT_REPEATS n
  (s.set CCK_SCAN_TIME_LAST time).maxOf CCK_SCAN_TIME_MAX time

/-- The commit of a scan that carries one. -/
def scanCommit (s : State) : State := if s.cck.commitScan then s.commitEnd else s

/-- What the end of a scan that started at tick `t` does before the scan is closed (R88, R89). -/
def scanJudged (cut : BitVec 31) (t : Nat) (s : State) : State :=
  let u := scanCrcs cut s
  (scanCommit (scanCounts (discardedPages cut s).length (u.tick - t) u)).judgePages

/-- A scan that ends is closed, and with it the marks of what was written meanwhile and of its commit. -/
def scanClosed (s : State) : State := { s with cck := { s.cck with scan := none, touched := [], commitScan := false } }

theorem exec_cckScanComplete_none {cut : BitVec 31} {s : State} (h : s.cck.scan = none) : exec (.cckScanComplete cut) s = .next s := by
  show execCckScanComplete cut s = _
  rw [execCckScanComplete, h, done]

theorem exec_cckScanComplete_some {cut : BitVec 31} {s : State} {t : Nat} (h : s.cck.scan = some t) :
    exec (.cckScanComplete cut) s = .next (scanClosed (scanJudged cut t s)).settle := by
  show execCckScanComplete cut s = _
  rw [execCckScanComplete, h]
  rfl

/-- The end of a scan closes it at the tick counter, which stands. -/
theorem cckScanComplete_runs {cut : BitVec 31} {s : State} {t : Nat} (h : s.cck.scan = some t) :
    Runs (.cckScanComplete cut) s (fun u => u.cck.scan = none ∧ u.cck.touched = [] ∧ u.cck.commitScan = false ∧ u.tick = s.tick) := by
  have runs := exec_cckScanComplete_some (cut := cut) h
  have cck : (scanClosed (scanJudged cut t s)).settle.cck = (scanClosed (scanJudged cut t s)).cck := State.settle_cck _
  refine ⟨_, runs, ?_, ?_, ?_, (exec_kept _ s rfl _ runs).tick⟩ <;> rw [cck] <;> rfl

/-! ### Commits (R89) -/

/-- A COMMIT that R71 lets pass runs, and one of this unit is mirrored to the partner unit (R467). -/
theorem exec_cckCommit_allowed {r : Requester} {s : State} (may : s.mayWrite r CCK_CMD_COMMIT.addr = true) : exec (.cckCommit r) s =
    .next ((s.touch r).commitCmd.iff (!fromPartner r) (fun s => s.mirrorCommand 2)) := by
  show execCckCommit r s = _
  rw [execCckCommit, State.gate_ok may, done]

/-- A COMMIT starts where none runs, no page is CORRUPT and the check is on. -/
theorem commitCmd_starts {s : State} (idle : s.on CCK_STAT_COMMIT_BUSY = false) (clean : s.get CCK_CORRUPT_MASK_COR = 0)
    (enabled : s.on CCK_CTRL_EN = true) : s.commitCmd = s.setB CCK_STAT_COMMIT_BUSY true := by
  simp [State.commitCmd, idle, clean, enabled]

/-- A CORRUPT page, or the check off, refuses a COMMIT, which is counted. -/
theorem commitCmd_refused {s : State} (idle : s.on CCK_STAT_COMMIT_BUSY = false)
    (refused : s.get CCK_CORRUPT_MASK_COR ≠ 0 ∨ s.on CCK_CTRL_EN = false) : s.commitCmd = s.inc CCK_COMMIT_CNT_COMMIT_REFUSED := by
  have refused' : s.get CCK_CORRUPT_MASK_COR ≠ 0 ∨ !s.on CCK_CTRL_EN := by simpa using refused
  rw [State.commitCmd, idle, if_neg Bool.false_ne_true, if_pos refused']

/-- Settles O24, command by command, by the equation of its `exec` and the form of it that the clause's conditions choose. The clauses rest on a choice
of the model (log entry 29): a scan finds a page as it stands at its end, and the pages whose results it discards are an operand. -/
theorem checkCommands : Obligations.CheckCommands := by
  unfold Obligations.CheckCommands
  refine ⟨?startNever, ?start, ?startNot, ?completeIdle, ?complete, ?completeRuns, ?commit, ?commitPartner, ?commitOwn, ?commitRefused⟩
  case startNever => exact fun s h => exec_cckScanStart_none h
  case start => exact fun s f first due => (exec_cckScanStart_some first).trans (if_pos due)
  case startNot => exact fun s f first h => (exec_cckScanStart_some first).trans (if_neg h)
  case completeIdle => exact fun cut s h => exec_cckScanComplete_none h
  case complete => exact fun cut s t h => exec_cckScanComplete_some h
  case completeRuns => exact fun cut b s h => cckScanComplete_runs h
  case commit => exact fun r s may => exec_cckCommit_allowed may
  case commitPartner =>
    intro r s may partner idle clean enabled
    rw [exec_cckCommit_allowed may, commitCmd_starts idle clean enabled, partner]
    rfl
  case commitOwn =>
    intro r s may own idle clean enabled
    rw [exec_cckCommit_allowed may, commitCmd_starts idle clean enabled, own]
    rfl
  case commitRefused =>
    intro r s may partner idle refused
    rw [exec_cckCommit_allowed may, commitCmd_refused idle refused, partner]
    rfl

end Sys2Proof.Proofs
end

section
/-! The commands of supply and start (file 04: R96 to R107, with R304, R539 and R596): what each runs, in the pieces that its rule names. -/

namespace Sys2Proof.Proofs

open Sys2Proof.Machine

/-! ### The power-on reset (R96, R99) -/

theorem exec_vinGood (s : State) : exec .vinGood s = .next { s with boot := { s.boot with vinGood := true } } := rfl

/-- The core loses its power: what a write cut short leaves, and the brown-out that every assertion counts as (R99, R544, log entry 43). -/
def coreLost (steps : Fin 65) (s : State) : State :=
  let t := (s.wipeCut steps.val).powerOff
  { t with
    nvm := { t.nvm with torn := s.tornNow }
    boot := { t.boot with vinGood := false, brownFlag := true, brownCount := min (t.boot.brownCount + 1) 0xFFFFFFFF } }

theorem exec_powerOnResetAssert (steps : Fin 65) (s : State) : exec (.powerOnResetAssert steps) s =
    if s.boot.por then .next { s with boot := { s.boot with vinGood := false } }
    else .next (if (coreLost steps s).boot.vbatKeep then coreLost steps s else (coreLost steps s).wakeForget) := rfl

/-- The loss of power keeps the queue. -/
theorem coreLost_pending (steps : Fin 65) (s : State) : (coreLost steps s).pending = s.pending :=
  (State.wipeCut_kept (m0 := false) (Kept.refl s)).pending

theorem powerOnResetAssert_runs (steps : Fin 65) {s : State} (running : s.boot.por = false) : Runs (.powerOnResetAssert steps) s (fun t =>
    t.boot.por = true ∧ t.boot.vinGood = false ∧ t.boot.g = none ∧ t.tick = 0 ∧ t.regs = [] ∧ t.pending = s.pending) := by
  refine ⟨_, (exec_powerOnResetAssert steps s).trans (if_neg (by simp [running])), ?_⟩
  split
  case isTrue kept => exact ⟨rfl, rfl, rfl, rfl, rfl, coreLost_pending steps s⟩
  case isFalse lost => exact ⟨rfl, rfl, rfl, rfl, rfl, coreLost_pending steps s⟩

/-- The start of the core: the wake domain's flags are taken into the registers that show the cause, and end. -/
def coreStarted (testMode : Bool) (s : State) : State :=
  let t := s.powerOff
  let t := { t with boot := { t.boot with por := false, brownFlag := false, prevHalt := false, woke := false, testState := testMode } }
  let t := (t.set SYS_RST_CAUSE_CAUSE (if s.boot.woke then 2 else if s.boot.brownFlag then 1 else 0)).setB SYS_RST_CAUSE_PREV_HALT s.boot.prevHalt
  (t.set SYS_BROWNOUT_CNT_COUNT s.boot.brownCount).set SYS_SUPPLY_STAT_GOOD (if s.boot.vbatKeep then 35 else 3)

theorem exec_powerOnResetRelease (testMode : Bool) (s : State) : exec (.powerOnResetRelease testMode) s =
    if !s.boot.por ∨ !s.boot.vinGood ∨ s.boot.shipLatch then .next s else .next (coreStarted testMode s).settle := rfl

/-- A flag reads back as it was written. -/
theorem on_setB_same (s : State) {f : Field} (v : Bool) {i : Nat} (fits : f.fits i) (oneBit : f.width = 1) : (s.setB f v i).on f i = v := by
  rw [State.on, State.setB, State.get_set_same s f _ i fits, oneBit]
  cases v <;> rfl

theorem coreStarted_cause (testMode : Bool) (s : State) :
    (coreStarted testMode s).get SYS_RST_CAUSE_CAUSE = if s.boot.woke then 2 else if s.boot.brownFlag then 1 else 0 := by
  rw [coreStarted, State.get_set_apart _ _ _ _ _ _ (.inl (by decide)), State.get_set_apart _ _ _ _ _ _ (.inl (by decide)),
    State.setB, State.get_set_apart _ _ _ _ _ _ (.inr (.inl (by decide))), State.get_set_same _ _ _ _ (by unfold Field.fits; decide)]
  split
  · rfl
  · split <;> rfl

theorem coreStarted_prevHalt (testMode : Bool) (s : State) : (coreStarted testMode s).on SYS_RST_CAUSE_PREV_HALT = s.boot.prevHalt := by
  rw [coreStarted, State.on, State.get_set_apart _ _ _ _ _ _ (.inl (by decide)),
    State.get_set_apart _ _ _ _ _ _ (.inl (by decide)), ← State.on]
  exact on_setB_same _ _ (by unfold Field.fits; decide) rfl

theorem powerOnResetRelease_runs (testMode : Bool) {s : State} (held : s.boot.por = true) (good : s.boot.vinGood = true)
    (unlatched : s.boot.shipLatch = false) : Runs (.powerOnResetRelease testMode) s (fun t =>
    t.boot.por = false ∧ t.boot.testState = testMode ∧ t.boot.g = none ∧ t.tick = 0 ∧ t.pending = s.pending ∧
    t.get SYS_RST_CAUSE_CAUSE = (if s.boot.woke then 2 else if s.boot.brownFlag then 1 else 0) ∧
    t.on SYS_RST_CAUSE_PREV_HALT = s.boot.prevHalt) := by
  refine ⟨_, (exec_powerOnResetRelease testMode s).trans (if_neg (by simp [held, good, unlatched])), ?_⟩
  dsimp only
  rw [State.settle_boot, State.settle_tick, State.settle_pending, State.settle_get _ _ _ (by decide), State.settle_on _ _ _ (by decide)]
  exact ⟨rfl, rfl, rfl, rfl, rfl, coreStarted_cause testMode s, coreStarted_prevHalt testMode s⟩

/-! ### Straps (R101) -/

/-- The last sample is latched. -/
def strapsTaken (samples : Vector (BitVec 6) 8) (s : State) : State :=
  State.set { s with boot := { s.boot with strapped := true } } SYS_STRAP_LATCHED (samples.get 7).toNat

/-- Samples that differ are flagged and recorded. -/
def strapsUnstable (samples : Vector (BitVec 6) 8) (s : State) : State :=
  (s.setB SYS_STRAP_UNSTABLE true).event .strapUnstable 0 (samples.toList.map (fun x => (x.toNat : Int)))

theorem exec_strapLatch (samples : Vector (BitVec 6) 8) (s : State) : exec (.strapLatch samples) s =
    if s.boot.por ∨ s.boot.strapped ∨ s.tick < 7 then .next s
    else if samples.toList.all (fun x => x == samples.get 7) then .next (strapsTaken samples s).settle
    else .next (strapsUnstable samples (strapsTaken samples s)).settle := rfl

theorem strapsTaken_latched (samples : Vector (BitVec 6) 8) (s : State) :
    (strapsTaken samples s).get SYS_STRAP_LATCHED = (samples.get 7).toNat := by
  rw [strapsTaken, State.get_set_same _ _ _ _ (by unfold Field.fits; decide)]
  exact Nat.mod_eq_of_lt (samples.get 7).isLt

theorem strapsUnstable_latched (samples : Vector (BitVec 6) 8) (s : State) :
    (strapsUnstable samples s).get SYS_STRAP_LATCHED = s.get SYS_STRAP_LATCHED :=
  State.get_set_apart s SYS_STRAP_UNSTABLE SYS_STRAP_LATCHED 1 0 0 (.inr (.inl (by decide)))

theorem strapLatch_runs (samples : Vector (BitVec 6) 8) {s : State} (running : s.boot.por = false) (unlatched : s.boot.strapped = false)
    (sampled : 7 ≤ s.tick) : Runs (.strapLatch samples) s (fun t =>
    t.boot.strapped = true ∧ t.get SYS_STRAP_LATCHED = (samples.get 7).toNat ∧ t.mem = s.mem) := by
  have due := (exec_strapLatch samples s).trans (if_neg (by simp [running, unlatched, sampled]))
  by_cases same : samples.toList.all (fun x => x == samples.get 7)
  case pos =>
    refine ⟨_, due.trans (if_pos same), ?_⟩
    dsimp only
    rw [State.settle_boot, State.settle_mem, State.settle_get _ _ _ (by decide)]
    exact ⟨rfl, strapsTaken_latched samples s, rfl⟩
  case neg =>
    refine ⟨_, due.trans (if_neg same), ?_⟩
    dsimp only
    rw [State.settle_boot, State.settle_mem, State.settle_get _ _ _ (by decide)]
    exact ⟨rfl, (strapsUnstable_latched samples _).trans (strapsTaken_latched samples s), rfl⟩

/-! ### The Kiln load (R539) -/

/-- The load ends in this tick, and the checks and the boot check begin in the next one (R87, R112). -/
def kilnTaken (s : State) : State :=
  { s with
    cck := { s.cck with first := some (s.tick + 1) }
    boot := { s.boot with kilnLoaded := true, kilnAt := s.tick, scanned := false, beginAt := some (s.tick + 1) } }

/-- The registers that show the load, the selector and the Ethernet ports. -/
def kilnShown (s : State) : State := (((s.stamp SYS_T_KILN_TICK).setBit SYS_BOOT_STAT_DONE 0 true).showSelector.ethShow 0).ethShow 1

theorem exec_kilnLoad (us : BitVec 16) (s : State) : exec (.kilnLoad us) s =
    if s.boot.por ∨ s.boot.testState ∨ !s.boot.strapped ∨ s.boot.kilnLoaded then .next s
    else .next (kilnShown (kilnTaken (s.kilnRead us.toNat))).settle := rfl

theorem ethShow_boot_cck (s : State) (p : Fin 2) : (s.ethShow p).boot = s.boot ∧ (s.ethShow p).cck = s.cck := by
  unfold State.ethShow
  extract_lets linked link addressed v6 glob shown any
  have kept : shown.boot = s.boot ∧ shown.cck = s.cck := ⟨rfl, rfl⟩
  clear_value any shown
  split
  · exact kept
  · split <;> exact kept

theorem updChange_boot_cck {s : State} {f : State → State} (h : (f s).boot = s.boot ∧ (f s).cck = s.cck) :
    (s.updChange f).boot = s.boot ∧ (s.updChange f).cck = s.cck := by
  unfold State.updChange
  dsimp only
  split <;> exact h

theorem showSelector_boot_cck (s : State) : s.showSelector.boot = s.boot ∧ s.showSelector.cck = s.cck :=
  updChange_boot_cck (s := s) ⟨rfl, rfl⟩

theorem kilnShown_boot_cck (s : State) : (kilnShown s).boot = s.boot ∧ (kilnShown s).cck = s.cck := by
  unfold kilnShown
  rw [(ethShow_boot_cck _ 1).1, (ethShow_boot_cck _ 1).2, (ethShow_boot_cck _ 0).1, (ethShow_boot_cck _ 0).2,
    (showSelector_boot_cck _).1, (showSelector_boot_cck _).2]
  exact ⟨rfl, rfl⟩

theorem kilnLoad_runs (us : BitVec 16) {s : State} (running : s.boot.por = false) (serves : s.boot.testState = false)
    (latched : s.boot.strapped = true) (unloaded : s.boot.kilnLoaded = false) : Runs (.kilnLoad us) s (fun t =>
    t.boot.kilnLoaded = true ∧ t.boot.scanned = false ∧ t.tick = s.tick ∧ t.boot.beginAt = some (s.tick + 1) ∧
    t.cck.first = some (s.tick + 1)) := by
  have runs := (exec_kilnLoad us s).trans (if_neg (by simp [running, serves, latched, unloaded]))
  have readTick : (s.kilnRead us.toNat).tick = s.tick := (State.kilnRead_kept (m0 := false) (Kept.refl s)).tick
  have stands := (exec_kept _ s rfl _ runs).tick
  refine ⟨_, runs, ?_⟩
  obtain ⟨boot, cck⟩ := kilnShown_boot_cck (kilnTaken (s.kilnRead us.toNat))
  rw [State.settle_boot, State.settle_cck, boot, cck, stands, kilnTaken, readTick]
  exact ⟨rfl, rfl, rfl, rfl, rfl⟩

/-! ### Tick g (R106, R107) -/

/-- Tick g is this tick, and NORMAL is entered in it. -/
def startNormal (s : State) : State :=
  { s with power := .normal, powerSince := s.tick, boot := { s.boot with g := some s.tick }, cap := { s.cap with lastDecision := s.tick } }

/-- The effective map, and the Registrar's start (R473, R475). -/
def startMap (s : State) : State :=
  let s := ((s.stamp SYS_T_GW_TICK).setBit SYS_BOOT_STAT_DONE 1 true).mapAtStart
  s.iff (s.unitRole == 3) (fun s => { s with hlk := { s.hlk with reg := { s.hlk.reg with since := some s.tick } } })

/-- The blocks start: the setpoint, loops, strings, the converter's reference (log entry 55), the two-wire engine, bindings and PG inputs. -/
def startBlocks (pg : BitVec 24) (s : State) : State :=
  ((s.setI CNV_TGT_SETPOINT (s.get CNV_VSET_VSET)).loopsAtStart.stringsAtStart.refStart.twbEval.bindingsAtStart).pgAtStart pg.toNat

/-- The outputs are decided, but where the strap holds them (R107). -/
def startOutputs (l : Live) (s : State) : State := if s.bitOn SYS_STRAP_LATCHED 3 then s else s.decideAll l

theorem exec_greenwareStart (ef str : BitVec 8) (pg : BitVec 24) (rails : Bool) (s : State) : exec (.greenwareStart ef str pg rails) s =
    if s.boot.por ∨ !s.boot.kilnLoaded ∨ s.boot.g.isSome then .next s
    else .next (startOutputs { ef := ef.toNat, str := str.toNat, rails := rails }
      (startBlocks pg (startMap (startNormal s)))).calStart.tryFull.settle := rfl

theorem greenwareStart_runs (ef str : BitVec 8) (pg : BitVec 24) (rails : Bool) {s : State} (running : s.boot.por = false)
    (loaded : s.boot.kilnLoaded = true) (before : s.boot.g = none) : Runs (.greenwareStart ef str pg rails) s (fun t =>
    t.boot.g = some s.tick ∧ t.power = .normal ∧ t.powerSince = s.tick ∧ t.tick = s.tick) := by
  obtain ⟨t, runs, kept⟩ := execGreenwareStart_starts (ef := ef) (str := str) (pg := pg) (rails := rails) (s := s)
    (by simp [running, loaded, before])
  obtain ⟨power, since⟩ := kept.stays
  exact ⟨t, runs, kept.g, power, since, kept.tick⟩

theorem exec_outHoldRelease_allowed {r : Requester} {s : State} (may : s.mayWrite r SYS_OUT_HOLD_RELEASE.addr = true) :
    exec (.outHoldRelease r) s = .next (s.touch r).holdRelease :=
  congrArg Host.Outcome.next (State.gate_ok may)

theorem holdRelease_held {s : State} (held : s.boot.g.isSome && s.bitOn SYS_STRAP_LATCHED 3 && !s.boot.decided) :
    s.holdRelease = (s.decideAll s.liveNow).settle := if_pos held

theorem holdRelease_free {s : State} (free : ¬(s.boot.g.isSome && s.bitOn SYS_STRAP_LATCHED 3 && !s.boot.decided)) :
    s.holdRelease = s := if_neg free

/-! ### Supplies and the wake domain (R98, R304, R596) -/

/-- VBAT_KEEP comes back; only a running core shows it. -/
def keepFound (s : State) : State :=
  State.iff { s with boot := { s.boot with vbatKeep := true } } (!s.boot.por) (fun s => s.setBit SYS_SUPPLY_STAT_GOOD 5 true)

/-- A supply of the running core becomes good or stops being so, with the inputs and links of its bank (log entry 89). -/
def bankChanged (k : Fin 6) (good v33 : Bool) (s : State) : State :=
  let s := s.setBit SYS_SUPPLY_STAT_GOOD k.val good
  let s := s.iff (good && (k.val == 2 || k.val == 3)) (fun s => s.setBit SYS_SUPPLY_STAT_VIO_3V3 (k.val - 2) v33)
  let s := s.iff (decide (2 ≤ k.val)) (fun s => s.event .supplyBank 0 [k.val, if good then 1 else 0])
  let s := s.iff (k.val == 4) (fun s => (s.iff (!good) State.linkDown).ethShowAll)
  let s := s.iff (!good && k.val == 2) (fun s => s.resetBall false)
  let s := s.iff (!good && k.val == 3) (fun s => (s.cascBall true false).cascBall false false)
  s.iff (good && k.val == 3) State.twbEval

theorem exec_supplyBankChange (k : Fin 6) (good v33 : Bool) (s : State) : exec (.supplyBankChange k good v33) s =
    if k.val = 5 then .next (if good then keepFound s else s.keepLost)
    else if s.boot.por ∨ s.bitOn SYS_SUPPLY_STAT_GOOD k.val = good then .next s
    else .next (bankChanged k good v33 s).settle := rfl

theorem exec_supplyBankChange_keepFound {k : Fin 6} {good v33 : Bool} {s : State} (keep : k.val = 5) (found : good) :
    exec (.supplyBankChange k good v33) s = .next (keepFound s) := by
  rw [exec_supplyBankChange, if_pos keep, if_pos found]

theorem exec_supplyBankChange_keepLost {k : Fin 6} {good v33 : Bool} {s : State} (keep : k.val = 5) (lost : ¬good) :
    exec (.supplyBankChange k good v33) s = .next s.keepLost := by
  rw [exec_supplyBankChange, if_pos keep, if_neg lost]

theorem exec_jtagExtest (s : State) : exec .jtagExtest s =
    if s.boot.por then .next s else .next { s with boot := { s.boot with serviceEnded := true, unitOkLow := true } } := rfl

theorem exec_wake (s : State) : exec .wake s =
    if s.boot.por ∧ s.boot.shipLatch
    then .next { s with boot := { s.boot with shipLatch := false, woke := true, shipTime := s.boot.shipTicks / 1000000 } } else .next s := rfl

theorem exec_vbatKeepLoss (s : State) : exec .vbatKeepLoss s = .next s.keepLost := rfl

/-- Settles O19, command by command, by the equation of its `exec` and the branch that the clause's conditions choose. The clauses rest on choices of
the model: the primary before any epoch (log entry 34), what is adopted and owned at tick g (40, 41), what the wake domain keeps (43), where the
converter's reference and the capacitor command stand at tick g (55, 56), and the inputs of a bank that is not good (89). -/
theorem supplyAndStart : Obligations.SupplyAndStart := by
  unfold Obligations.SupplyAndStart
  refine ⟨?vinGood, ?assertHeld, ?assertKept, ?assertForgot, ?assertRuns, ?releaseIdle, ?release, ?releaseRuns, ?strapIdle, ?strap, ?strapUnstable,
    ?strapRuns, ?kilnIdle, ?kiln, ?kilnRuns, ?startIdle, ?start, ?startRuns, ?hold, ?holdIdle, ?keepFound, ?keepLost, ?bankIdle, ?bank,
    ?jtagIdle, ?jtag, ?wake, ?wakeIdle, ?keepLoss⟩
  case vinGood => exact exec_vinGood
  case assertHeld => exact fun steps s held => (exec_powerOnResetAssert steps s).trans (if_pos held)
  case assertKept =>
    exact fun steps s running keep => (exec_powerOnResetAssert steps s).trans ((if_neg running).trans (congrArg _ (if_pos keep)))
  case assertForgot =>
    exact fun steps s running lost => (exec_powerOnResetAssert steps s).trans ((if_neg running).trans (congrArg _ (if_neg lost)))
  case assertRuns => exact fun steps s running => powerOnResetAssert_runs steps running
  case releaseIdle => exact fun testMode s h => (exec_powerOnResetRelease testMode s).trans (if_pos h)
  case release => exact fun testMode s due => (exec_powerOnResetRelease testMode s).trans (if_neg due)
  case releaseRuns => exact fun testMode s held good unlatched => powerOnResetRelease_runs testMode held good unlatched
  case strapIdle => exact fun samples s h => (exec_strapLatch samples s).trans (if_pos h)
  case strap => exact fun samples s due same => (exec_strapLatch samples s).trans ((if_neg due).trans (if_pos same))
  case strapUnstable => exact fun samples s due differ => (exec_strapLatch samples s).trans ((if_neg due).trans (if_neg differ))
  case strapRuns => exact fun samples s running unlatched sampled => strapLatch_runs samples running unlatched sampled
  case kilnIdle => exact fun us s h => (exec_kilnLoad us s).trans (if_pos h)
  case kiln => exact fun us s due => (exec_kilnLoad us s).trans (if_neg due)
  case kilnRuns => exact fun us s running serves latched unloaded => kilnLoad_runs us running serves latched unloaded
  case startIdle => exact fun ef str pg rails s h => (exec_greenwareStart ef str pg rails s).trans (if_pos h)
  case start => exact fun ef str pg rails s due => (exec_greenwareStart ef str pg rails s).trans (if_neg due)
  case startRuns => exact fun ef str pg rails s running loaded before => greenwareStart_runs ef str pg rails running loaded before
  case hold =>
    intro r s may held
    rw [exec_outHoldRelease_allowed may, holdRelease_held held]
  case holdIdle =>
    intro r s may free
    rw [exec_outHoldRelease_allowed may, holdRelease_free free]
  case keepFound => exact fun k good v33 s keep found => exec_supplyBankChange_keepFound keep found
  case keepLost => exact fun k good v33 s keep lost => exec_supplyBankChange_keepLost keep lost
  case bankIdle => exact fun k good v33 s bank h => (exec_supplyBankChange k good v33 s).trans ((if_neg bank).trans (if_pos h))
  case bank => exact fun k good v33 s bank due => (exec_supplyBankChange k good v33 s).trans ((if_neg bank).trans (if_neg due))
  case jtagIdle => exact fun s held => (exec_jtagExtest s).trans (if_pos held)
  case jtag => exact fun s running => (exec_jtagExtest s).trans (if_neg running)
  case wake => exact fun s latched => (exec_wake s).trans (if_pos latched)
  case wakeIdle => exact fun s h => (exec_wake s).trans (if_neg h)
  case keepLoss => exact exec_vbatKeepLoss

end Sys2Proof.Proofs
end

section
/-! The commands of the cores and of self-calibration (file 04: R100, R110 to R112): what each runs, and what the judgement of RESET_IN, a boot check
and a calibration attempt do in each form. -/

namespace Sys2Proof.Proofs

open Sys2Proof.Machine

/-! ### RESET_IN and core restarts (R100) -/

theorem exec_resetInAssert (s : State) : exec .resetInAssert s = .next (s.resetBall true).resetJudge := rfl

theorem exec_resetInRelease (s : State) : exec .resetInRelease s = .next (s.resetBall false).resetJudge := rfl

/-- A level that has not stood for `DEBOUNCE` ticks, or is the one already taken, is no change of RESET_IN. -/
def resetStands (s : State) : Bool := !s.debounced || s.balls.rstLow == s.boot.resetIn

theorem resetJudge_stands {s : State} (h : resetStands s) : s.resetJudge = s := if_pos h

theorem resetJudge_low {s : State} (changed : ¬resetStands s) (low : s.balls.rstLow) : s.resetJudge = s.resetAssert :=
  (if_neg changed).trans (if_pos low)

theorem resetJudge_high {s : State} (changed : ¬resetStands s) (high : ¬s.balls.rstLow) : s.resetJudge = s.resetRelease :=
  (if_neg changed).trans (if_neg high)

/-- RESET_IN is taken as low or as high. -/
def resetTaken (low : Bool) (s : State) : State := { s with boot := { s.boot with resetIn := low } }

theorem resetAssert_disabled {s : State} (disabled : !(resetTaken true s).on SYS_CTRL_CORE_RST_EN) : s.resetAssert = resetTaken true s :=
  if_pos disabled

theorem resetAssert_started {s : State} (enabled : ¬!(resetTaken true s).on SYS_CTRL_CORE_RST_EN) (started : (resetTaken true s).boot.coresStarted) :
    s.resetAssert = (resetTaken true s).coreRestart.settle := (if_neg enabled).trans (if_pos started)

/-- Before the cores have first started, RESET_IN only holds the boot check (log entry 45). -/
theorem resetAssert_holds {s : State} (enabled : ¬!(resetTaken true s).on SYS_CTRL_CORE_RST_EN)
    (unstarted : ¬(resetTaken true s).boot.coresStarted) : s.resetAssert =
    State.event { resetTaken true s with boot := { (resetTaken true s).boot with check := none } } .bootHeld :=
  (if_neg enabled).trans (if_neg unstarted)

/-- The cores were held and start with the release of RESET_IN. -/
def coresHeld (s : State) : Prop := s.on SYS_CTRL_CORE_RST_EN ∧ !s.boot.firmware ∧ s.boot.check.isNone

theorem resetRelease_held {s : State} (held : coresHeld (resetTaken false s)) : s.resetRelease = (resetTaken false s).bootStart.settle :=
  if_pos held

theorem resetRelease_unheld {s : State} (unheld : ¬coresHeld (resetTaken false s)) : s.resetRelease = resetTaken false s := if_neg unheld

theorem exec_coreRestart_allowed {r : Requester} {w : Word} {s : State} (may : s.mayCommand r SYS_RESET_CMD_CORE_RESTART.addr .curator = true) :
    exec (.coreRestart r w) s = .next ((s.touch r).restartCmd (w ||| 0x10000)) :=
  congrArg Host.Outcome.next (State.gateRole_ok may)

theorem restartCmd_key {s : State} {w : Word} (asked : ¬bitsOf w 16 1 = 0) (key : bitsOf w 0 16 = 0x9484) :
    s.restartCmd w = s.coreRestart.settle := (if_neg asked).trans (if_pos key)

theorem restartCmd_wrongKey {s : State} {w : Word} (asked : ¬bitsOf w 16 1 = 0) (wrong : ¬bitsOf w 0 16 = 0x9484) :
    s.restartCmd w = s.event .resetKeyWrong 0 [bitsOf w 0 16] := (if_neg asked).trans (if_neg wrong)

/-! ### The boot check (R112) -/

theorem exec_bootCheckComplete_none {sig : Bool} {bad : Unit} {s : State} (h : s.boot.check = none) :
    exec (.bootCheckComplete sig bad) s = .next s := by
  show execBootCheckComplete sig bad s = _
  rw [execBootCheckComplete, h, done]

/-- A check that began at tick `t` ends, and its time is shown, rounded up (log entry 44). -/
def checkEnded (t : Nat) (s : State) : State :=
  State.set { s with boot := { s.boot with check := none } } SYS_FW_STAT_BOOT_MS (min ((s.tick - t + 999) / 1000) 255)

/-- The signature verifies, under a key that is in use; the verdict is an operand (log entries 10, 87). -/
def slotSigned (slot : Nat) (sig : Bool) (s : State) : Bool := sig && s.keyUsable (s.slotManifest slot)

section
variable {sig : Bool} {bad : Unit} {s : State} {slot t : Nat} {second : Bool} (checked : s.boot.check = some (slot, t, second))
include checked

/-- A trial slot in which R564 finds nothing passes. -/
theorem exec_bootCheckComplete_trialPass (trial : (checkEnded t s).selector.trial)
    (passes : (checkEnded t s).trialVerdict ((checkEnded t s).slotManifest slot) slot sig = none) :
    exec (.bootCheckComplete sig bad) s = .next ((checkEnded t s).trialPass ((checkEnded t s).slotManifest slot) slot) := by
  show execBootCheckComplete sig bad s = _
  rw [execBootCheckComplete, checked]
  refine (if_pos trial).trans ?_
  rw [← checkEnded]
  dsimp only
  rw [passes, done]

/-- A trial slot that fails is reverted, with the result and the part that R564 finds. -/
theorem exec_bootCheckComplete_trialFail {result part : Nat} (trial : (checkEnded t s).selector.trial)
    (fails : (checkEnded t s).trialVerdict ((checkEnded t s).slotManifest slot) slot sig = some (result, part)) :
    exec (.bootCheckComplete sig bad) s =
    .next ((((checkEnded t s).event .bootCheckFailed 0 [slot]).revertBegin result part).settle) := by
  show execBootCheckComplete sig bad s = _
  rw [execBootCheckComplete, checked]
  refine (if_pos trial).trans ?_
  rw [← checkEnded]
  dsimp only
  rw [fails]
  rfl

/-- Without a trial the signature alone decides. -/
theorem exec_bootCheckComplete_committed (committed : ¬(checkEnded t s).selector.trial) : exec (.bootCheckComplete sig bad) s =
    if slotSigned slot sig (checkEnded t s) then .next ((checkEnded t s).firmwareStart slot)
    else if !second then .next (((checkEnded t s).event .bootCheckFailed 0 [slot]).checkBegin (1 - slot) true).settle
    else .next ((((checkEnded t s).event .bootCheckFailed 0 [slot]).setB SYS_STAT_NO_FW true).setB SYS_FW_STAT_NO_FW true).settle := by
  show execBootCheckComplete sig bad s = _
  rw [execBootCheckComplete, checked]
  exact if_neg committed

end

/-! ### Self-calibration (R110, R111) -/

theorem exec_calAttemptComplete_none {found : Option (Vector (Int × Int) 15)} {s : State} (h : s.boot.calRun = none) :
    exec (.calAttemptComplete found) s = .next s := by
  show execCalAttemptComplete found s = _
  rw [execCalAttemptComplete, h, done]

/-- An attempt ends. -/
def attemptEnded (s : State) : State := State.setB { s with boot := { s.boot with calRun := none } } SYS_CAL_STAT_RUNNING false

theorem exec_calAttemptComplete_found {x : Vector (Int × Int) 15} {s : State} {t : Nat} (running : s.boot.calRun = some t) :
    exec (.calAttemptComplete (some x)) s =
    .next (if x.toList.any coefBad then (attemptEnded s).calFailed else (attemptEnded s).calPass t x) := by
  show execCalAttemptComplete (some x) s = _
  rw [execCalAttemptComplete, running]
  rfl

/-- An attempt in which a check failed finds nothing. -/
theorem exec_calAttemptComplete_failed {s : State} {t : Nat} (running : s.boot.calRun = some t) :
    exec (.calAttemptComplete none) s = .next (attemptEnded s).calFailed := by
  show execCalAttemptComplete none s = _
  rw [execCalAttemptComplete, running]
  rfl

theorem exec_calRetryTimer (s : State) : exec .calRetryTimer s =
    if s.due s.boot.calRetryAt ∧ s.boot.calRun.isNone then .next s.calStart else .next s := rfl

theorem exec_calRetryCmd_allowed {r : Requester} {s : State} (may : s.mayWrite r SYS_CAL_CMD_RETRY.addr = true) :
    exec (.calRetryCmd r) s = .next (s.touch r).calRetry := congrArg Host.Outcome.next (State.gate_ok may)

theorem calRetry_due {s : State} (due : s.on SYS_CAL_STAT_FAILED_LAST && s.boot.calRun.isNone) : s.calRetry = s.calStart := if_pos due

theorem calRetry_idle {s : State} (idle : ¬(s.on SYS_CAL_STAT_FAILED_LAST && s.boot.calRun.isNone)) : s.calRetry = s := if_neg idle

/-- Settles O20, command by command, by the equation of its `exec` and the form of it that the clause's conditions choose. The clauses rest on choices
of the model: the verdict on a signature is an operand (log entries 10, 87), measured times are rounded up (44), and how RESET_IN, the slots
and the ROM version act at a start (45). -/
theorem coresAndCalibration : Obligations.CoresAndCalibration := by
  unfold Obligations.CoresAndCalibration
  refine ⟨?lowStands, ?lowDisabled, ?lowRestart, ?lowHolds, ?lowButHigh, ?lowButHighIdle, ?highStands, ?highStart, ?highIdle, ?restart, ?restartKey,
    ?checkIdle, ?trialPass, ?trialFail, ?checkPass, ?checkOther, ?checkNone, ?calIdle, ?calBad, ?calPass, ?calFail, ?timer, ?timerIdle, ?retry,
    ?retryIdle⟩
  case lowStands =>
    intro s h
    rw [exec_resetInAssert, resetJudge_stands h]
  case lowDisabled =>
    intro s changed low disabled
    rw [exec_resetInAssert, resetJudge_low changed low, resetAssert_disabled disabled, resetTaken]
  case lowRestart =>
    intro s changed low enabled started
    rw [exec_resetInAssert, resetJudge_low changed low, resetAssert_started enabled started, resetTaken]
  case lowHolds =>
    intro s changed low enabled unstarted
    rw [exec_resetInAssert, resetJudge_low changed low, resetAssert_holds enabled unstarted, resetTaken]
  case lowButHigh =>
    intro s changed high held
    rw [exec_resetInAssert, resetJudge_high changed high, resetRelease_held held, resetTaken]
  case lowButHighIdle =>
    intro s changed high unheld
    rw [exec_resetInAssert, resetJudge_high changed high, resetRelease_unheld unheld, resetTaken]
  case highStands =>
    intro s h
    rw [exec_resetInRelease, resetJudge_stands h]
  case highStart =>
    intro s changed high held
    rw [exec_resetInRelease, resetJudge_high changed high, resetRelease_held held, resetTaken]
  case highIdle =>
    intro s changed high unheld
    rw [exec_resetInRelease, resetJudge_high changed high, resetRelease_unheld unheld, resetTaken]
  case restart =>
    intro r w s may asked key
    rw [exec_coreRestart_allowed may, restartCmd_key asked key]
  case restartKey =>
    intro r w s may asked wrong
    rw [exec_coreRestart_allowed may, restartCmd_wrongKey asked wrong]
  case checkIdle => exact fun sig bad s h => exec_bootCheckComplete_none h
  case trialPass => exact fun sig bad s slot t second checked trial passes => exec_bootCheckComplete_trialPass checked trial passes
  case trialFail =>
    exact fun sig bad s slot t second result part checked trial fails => exec_bootCheckComplete_trialFail checked trial fails
  case checkPass =>
    exact fun sig bad s slot t second checked committed signed => (exec_bootCheckComplete_committed checked committed).trans (if_pos signed)
  case checkOther =>
    exact fun sig bad s slot t second checked committed unsigned first =>
      (exec_bootCheckComplete_committed checked committed).trans ((if_neg unsigned).trans (if_pos first))
  case checkNone =>
    exact fun sig bad s slot t second checked committed unsigned last =>
      (exec_bootCheckComplete_committed checked committed).trans ((if_neg unsigned).trans (if_neg last))
  case calIdle => exact fun found s h => exec_calAttemptComplete_none h
  case calBad =>
    rintro found s t x running rfl bad
    rw [exec_calAttemptComplete_found running, if_pos bad, State.calFailed, attemptEnded]
  case calPass =>
    rintro found s t x running rfl good
    rw [exec_calAttemptComplete_found running, if_neg good, attemptEnded]
  case calFail =>
    rintro found s t running rfl
    rw [exec_calAttemptComplete_failed running, State.calFailed, attemptEnded]
  case timer =>
    intro s due
    rw [exec_calRetryTimer, if_pos due, State.calStart, State.spareStart]
  case timerIdle => exact fun s h => (exec_calRetryTimer s).trans (if_neg h)
  case retry =>
    intro r s may due
    rw [exec_calRetryCmd_allowed may, calRetry_due due, State.calStart]
  case retryIdle =>
    intro r s may idle
    rw [exec_calRetryCmd_allowed may, calRetry_idle idle]

end Sys2Proof.Proofs
end

section
/-! The commands of the measurement front end (file 05: R121 to R137): what each runs, and what a visit of background calibration and the end of a
pass do in each form. -/

namespace Sys2Proof.Proofs

open Sys2Proof.Machine

/-! ### The cross-check (R122, R123) -/

/-- A fault is declared of a half that is checked, of which no fault is being judged, and whose mismatches have held for `COUNT` ticks. -/
theorem exec_crosscheckFaultDeclared (h : Fin 2) (s : State) : exec (.crosscheckFaultDeclared h) s =
    if s.xchkOn h && (s.afe.judge.get h).isNone && s.due (s.afe.misDue.get h)
    then .next (s.xchkDeclare h (s.get AFE_XCHK_CTRL_COUNT)) else .next s := rfl

theorem exec_crosscheckJudge (h : Fin 2) (convs : List (BitVec 14)) (primary check : Twice Int) (s : State) :
    exec (.crosscheckJudge h convs primary check) s =
    if s.judgeReady h ∧ convs.length = 8 then .next (s.xchkJudge h convs primary check).settle else .next s := rfl

/-! ### The monitor converters (R132, R139) -/

theorem exec_monRequestDue (codes0 codes1 : List (BitVec 14)) (s : State) :
    exec (.monRequestDue codes0 codes1) s = .next (s.monRun codes0 codes1) := rfl

section
variable {codes0 codes1 : List (BitVec 14)} {s : State}

/-- The monitor converters do not run before tick g. -/
theorem monRun_before (before : s.boot.g = none) : s.monRun codes0 codes1 = s := by
  rw [State.monRun, before]

/-- From tick g on they come up from the last tick whose slots they have run to this one. -/
theorem monRun_from {g : Nat} (begun : s.boot.g = some g) : s.monRun codes0 codes1 =
    let last := s.afe.slotTick.getD (g - 1)
    let t := s.monTicks (s.tick - last) codes0 codes1
    { t with afe := { t.afe with slotTick := some (max last t.tick) } } := by
  rw [State.monRun, begun]

/-- A tick whose slots have run brings no more of them. -/
theorem monRun_upToDate {g : Nat} (begun : s.boot.g = some g) (upToDate : s.afe.slotTick = some s.tick) :
    s.monRun codes0 codes1 = { s with afe := { s.afe with slotTick := some s.tick } } := by
  rw [monRun_from begun, upToDate]
  simp only [Option.getD_some, Nat.sub_self, State.monTicks, Nat.max_self]

end

theorem exec_monSelWrite_allowed {r : Requester} {w : Word} {s : State} (may : s.mayWrite r AFE_MON_SEL_INPUT.addr = true) :
    exec (.monSelWrite r w) s = .next ((s.touch r).monSelect ((s.touch r).srcOf r) w) :=
  congrArg Host.Outcome.next (State.gate_ok may)

/-! ### A pass of background calibration begins (R135) -/

/-- No pass is counted from a success that has not been. -/
theorem exec_calPassStart_never {s : State} (never : s.afe.passAt = none) : exec .calPassStart s = .next s := by
  show execCalPassStart s = _
  rw [execCalPassStart, never, done]

theorem exec_calPassStart_since {s : State} {t : Nat} (since : s.afe.passAt = some t) : exec .calPassStart s =
    if s.on AFE_CAL_CTRL_BG_EN ∧ s.afe.pass = none ∧ t + 1000000 * s.get AFE_CAL_CTRL_PERIOD_S ≤ s.tick ∧ s.power ≠ .halt
    then .next (State.beginVisit { s with afe :=
      { s.afe with pass := some (1, false), passAt := some s.tick, passFail := 0, found := s.afe.coefs } })
    else .next s := by
  show execCalPassStart s = _
  rw [execCalPassStart, since]
  rfl

/-! ### Visits (R135 to R137) -/

theorem exec_calVisitComplete (res : CalResult) (s : State) : exec (.calVisitComplete res) s = .next (s.visitComplete res).settle := rfl

/-- What the visit to unit `u` found is kept with the results of the pass, and a fault with its faults; comparators that were calibrated are
marked. -/
def visitFound (u : Nat) (res : CalResult) (s : State) : State :=
  { s with afe := { s.afe with
      passFail := if s.calFails u (res.gain, res.offset) then s.afe.passFail ||| 2 ^ u else s.afe.passFail
      found := s.afe.found.set (Fin.ofNat 15 u) (res.gain, res.offset)
      cmpAt := if u = 9 then Vector.ofFn (fun n => if s.cmpCalibrated res n then some s.tick else s.afe.cmpAt.get n) else s.afe.cmpAt } }

/-- A visit completes, and a fast converter that passes returns (R124), unless it is to the integrators and a string is still to be served. -/
theorem visitComplete_ends {res : CalResult} {s : State} {u : Nat} (visit : s.afe.pass = some (u, true))
    (served : ¬(u = 12 ∧ s.afe.spare.isSome = true)) : s.visitComplete res =
    ((visitFound u res s).iff (!s.calFails u (res.gain, res.offset) && decide (1 ≤ u ∧ u ≤ 4))
      (fun t => t.converterReturn (Fin.ofNat 4 (u - 1)))).endVisit u := by
  rw [State.visitComplete, visit]
  exact if_neg served

/-- The visit to the integrators goes on while a string is still to be served (R128), and without a visit none completes. -/
theorem visitComplete_goesOn {res : CalResult} {s : State}
    (goesOn : ∀ u, s.afe.pass = some (u, true) → u = 12 ∧ s.afe.spare.isSome = true) : s.visitComplete res = s := by
  rw [State.visitComplete]
  split
  case h_1 u visit => exact if_pos (goesOn u visit)
  case h_2 => rfl

theorem exec_calVisitAbort (h : Fin 2) (s : State) : exec (.calVisitAbort h) s = .next (s.visitAbort h) := rfl

/-- A visit ends at the eighth mismatch in a row of a half whose converter it takes, and R123 applies at once to the half. -/
theorem visitAbort_visiting {h : Fin 2} {s : State} {u : Nat} (visit : s.afe.pass = some (u, true)) : s.visitAbort h =
    if s.halfVisit h = true ∧ 8 ≤ s.afe.visitMis.get h
    then let t := s.endVisit u
      t.iff (t.xchkOn h && (t.afe.judge.get h).isNone) (fun t => t.xchkDeclare h 8)
    else s := by
  rw [State.visitAbort, visit]

theorem visitAbort_idle {h : Fin 2} {s : State} (idle : ∀ u, s.afe.pass ≠ some (u, true)) : s.visitAbort h = s := by
  rw [State.visitAbort]
  split
  case h_1 u visit => exact absurd visit (idle u)
  case h_2 => rfl

/-! ### A pass ends (R137) -/

theorem exec_calPassEnd (ppm : Int) (s : State) : exec (.calPassEnd ppm) s = .next (s.passEnd ppm).settle := rfl

/-- The two references agree within 500 ppm. -/
def refsAgree (ppm : Int) : Bool := decide (ppm.natAbs ≤ 500)

/-- The units that failed in the pass, the references with them. -/
def passUnits (ppm : Int) (s : State) : Nat := if refsAgree ppm then s.afe.passFail else s.afe.passFail ||| 2 ^ 14

def passBad (ppm : Int) (s : State) : Bool := passUnits ppm s != 0

/-- Two sets of coefficients lie near each other, unit by unit. -/
def coefsNear (x y : Vector (Int × Int) 15) : Bool := (List.finRange 15).all (fun i => coefNear (x.get i) (y.get i))

/-- The two failed passes before this one and this one agree with one another. -/
def failsAgree (s : State) : Bool :=
  match s.afe.failed with
  | x :: y :: _ => coefsNear x s.afe.found && coefsNear y s.afe.found && coefsNear x y
  | _ => false

/-- The third failed pass in a row is taken where the three agree and the references do. -/
def passTaken (ppm : Int) (s : State) : Bool := passBad ppm s && decide (2 ≤ s.afe.failRun) && failsAgree s && refsAgree ppm

/-- The pass is counted, and what it found is shown; a pass that fails is recorded. -/
def passShown (ppm : Int) (s : State) : State :=
  let t := ((s.incWrap AFE_CAL_PASS_CNT_PASSES).set AFE_CAL_FAIL_SRC_UNITS (passUnits ppm s)).setI AFE_CAL_REF_PPM ppm
  t.iff (passBad ppm s) (fun t => (t.inc AFE_CAL_FAIL_SRC_FAILS).event .calPassFailed 0 [passUnits ppm s])

/-- The pass is over; one that passes puts its coefficients in force and clears CAL_INVALID (log entry 69). -/
def passClosed (ppm : Int) (s : State) : State :=
  let t := passShown ppm s
  { t with afe := { t.afe with
      pass := none, calInvalid := passBad ppm s && !passTaken ppm s
      failRun := if passBad ppm s then t.afe.failRun + 1 else 0
      failed := if passBad ppm s then (t.afe.found :: t.afe.failed).take 2 else []
      coefs := if passBad ppm s then t.afe.coefs else t.afe.found } }

/-- A pass between two visits, with units still to be visited, does not end. -/
theorem passEnd_early {ppm : Int} {s : State} {u : Nat} (between : s.afe.pass = some (u, false)) (early : u < 15) : s.passEnd ppm = s := by
  rw [State.passEnd, between]
  exact if_pos early

theorem passEnd_last {ppm : Int} {s : State} {u : Nat} (between : s.afe.pass = some (u, false)) (last : ¬u < 15) :
    s.passEnd ppm = if passTaken ppm s then (passClosed ppm s).coefsBlend else passClosed ppm s := by
  rw [State.passEnd, between]
  exact if_neg last

/-- No pass is between two visits. -/
theorem passEnd_idle {ppm : Int} {s : State} (idle : ∀ u, s.afe.pass ≠ some (u, false)) : s.passEnd ppm = s := by
  rw [State.passEnd]
  split
  case h_1 u between => exact absurd between (idle u)
  case h_2 => rfl

/-! ### The spare modulator (R128) -/

section
variable {n : Fin 8} {toSpare : Bool} {s : State}

/-- The string's accumulator moves to the spare after 1,000 ticks across its shunt. -/
theorem exec_spareChangeover_out {m t : Nat} (out : toSpare) (across : s.afe.spare = some (m, t)) : exec (.spareChangeover n toSpare) s =
    if m = n.val ∧ s.get AFE_INT_STAT_SPARE_POS = 0xF ∧ t + 1000 ≤ s.tick
    then .next ((s.set AFE_INT_STAT_SPARE_POS n.val).inc AFE_INT_STAT_SWAPS) else .next s := by
  show execSpareChangeover n toSpare s = _
  rw [execSpareChangeover, if_pos out, across]
  rfl

theorem exec_spareChangeover_outIdle (out : toSpare) (unconnected : s.afe.spare = none) :
    exec (.spareChangeover n toSpare) s = .next s := by
  show execSpareChangeover n toSpare s = _
  rw [execSpareChangeover, if_pos out, unconnected]
  rfl

/-- The accumulator comes back, and the spare goes on to the next string. -/
theorem exec_spareChangeover_back (back : ¬toSpare) : exec (.spareChangeover n toSpare) s =
    if s.get AFE_INT_STAT_SPARE_POS = n.val
    then .next (((s.set AFE_INT_STAT_SPARE_POS 0xF).inc AFE_INT_STAT_SWAPS).spareNext n) else .next s := if_neg back

end

/-! ### The diode engine (R134) -/

theorem exec_diodeConversion (ch : Fin 28) (res : DiodeResult) (s : State) : exec (.diodeConversion ch res) s =
    if s.diodeNext = some ch.val then .next (((s.diode ch res).diodeStep ch).thmDue ch.val).settle else .next s := rfl

/-- The fuse channels and the channels of no group make no group due (R364). -/
theorem thmDue_ungrouped {s : State} {ch : Nat}
    (ungrouped : (12 ≤ ch ∧ ch < 20) ∨ 6 ≤ s.get THM_MAP_GROUP (if ch < 12 then ch else ch - 8)) : s.thmDue ch = s := if_pos ungrouped

theorem thmDue_grouped {s : State} {ch : Nat}
    (grouped : ¬((12 ≤ ch ∧ ch < 20) ∨ 6 ≤ s.get THM_MAP_GROUP (if ch < 12 then ch else ch - 8))) : s.thmDue ch =
    { s with thm := { s.thm with due := s.thm.due ||| 2 ^ s.get THM_MAP_GROUP (if ch < 12 then ch else ch - 8) } } := if_neg grouped

/-! ### The means (R121) -/

section
variable (before after : BusSamples) (phases : Vector (Twice Int) 16) (charge current : Vector Int 8) (ovr : Bool) (strOvr : BitVec 8)

/-- From this tick on the converters of the buses and the phases convert what the operands say. -/
def afeSampled (s : State) : State := ((s.busSamples (before, after)).phaseSamples phases).fastOverrange ovr

/-- The means of a window are reported at its end (log entry 12), and the strings are read. -/
theorem exec_afeMeansUpdate (s : State) : exec (.afeMeansUpdate before after phases charge current ovr strOvr) s =
    if s.boot.g.isNone then .next s
    else .next (
      let t := afeSampled before after phases ovr s
      (t.iff (t.tick % 1000 == 0 && t.tick != 0) State.means).each (List.finRange 8)
        (fun t n => t.shuntRead n (charge.get n) (current.get n) (strOvr.getLsbD n.val))) := rfl

theorem afeMeansUpdate_runs {s : State} (begun : s.boot.g.isSome = true) :
    Runs (.afeMeansUpdate before after phases charge current ovr strOvr) s
      (fun t => t.tick = s.tick ∧ t.power = s.power ∧ t.pending = s.pending) := by
  have begun' : ¬s.boot.g.isNone := by simpa using Option.isSome_iff_ne_none.mp begun
  have runs := (exec_afeMeansUpdate before after phases charge current ovr strOvr s).trans (if_neg begun')
  have kept := exec_kept _ s rfl _ runs
  exact ⟨_, runs, kept.tick, (exec_stays _ s _ rfl runs).1, kept.pending⟩

end

/-- Settles O25, command by command, by the equation of its `exec` and the form of it that the clause's conditions choose. The clauses rest on choices
of the model: what AFE_MEANS_UPDATE brings (log entry 12), how the front end converts between commands (63), the phase comparator (64), one bit of a
shunt modulator (65), the priority conversions (66), a diode's ideality factor (67), the spare modulator (68), and a pass that passes and three that
agree (69). -/
theorem frontEndCommands : Obligations.FrontEndCommands := by
  unfold Obligations.FrontEndCommands
  refine ⟨?declared, ?undeclared, ?judge, ?judgeNot, ?monBefore, ?mon, ?monRuns, ?select, ?startNever, ?start, ?startNot, ?complete, ?completeEnds,
    ?completeIdle, ?abort, ?abortNot, ?abortIdle, ?endEarly, ?endTaken, ?endNot, ?endIdle, ?out, ?outNot, ?outIdle, ?back, ?backNot, ?diodeUngrouped,
    ?diodeGrouped, ?diodeNot, ?meansBefore, ?means, ?meansRuns⟩
  case declared => exact fun h s due => (exec_crosscheckFaultDeclared h s).trans (if_pos due)
  case undeclared => exact fun h s not => (exec_crosscheckFaultDeclared h s).trans (if_neg not)
  case judge => exact fun h convs primary check s ready => (exec_crosscheckJudge h convs primary check s).trans (if_pos ready)
  case judgeNot => exact fun h convs primary check s not => (exec_crosscheckJudge h convs primary check s).trans (if_neg not)
  case monBefore =>
    intro codes0 codes1 s before
    rw [exec_monRequestDue, monRun_before before]
  case mon =>
    intro codes0 codes1 s g begun
    rw [exec_monRequestDue, monRun_from begun]
  case monRuns =>
    intro a b g s begun upToDate
    refine ⟨_, exec_monRequestDue a b s, ?_⟩
    rw [monRun_upToDate begun upToDate]
    exact ⟨rfl, rfl, rfl, rfl⟩
  case select =>
    intro r w s may
    rw [exec_monSelWrite_allowed may, State.monSelect]
  case startNever => exact fun s never => exec_calPassStart_never never
  case start => exact fun s t since due => (exec_calPassStart_since since).trans (if_pos due)
  case startNot => exact fun s t since not => (exec_calPassStart_since since).trans (if_neg not)
  case complete => exact exec_calVisitComplete
  case completeEnds =>
    intro res u s visit served
    rw [exec_calVisitComplete, visitComplete_ends visit served, visitFound]
  case completeIdle =>
    intro res s goesOn
    rw [exec_calVisitComplete, visitComplete_goesOn goesOn]
  case abort =>
    intro h s u visit mismatched
    rw [exec_calVisitAbort, visitAbort_visiting visit, if_pos mismatched]
  case abortNot =>
    intro h s u visit not
    rw [exec_calVisitAbort, visitAbort_visiting visit, if_neg not]
  case abortIdle =>
    intro h s idle
    rw [exec_calVisitAbort, visitAbort_idle fun u visit => by simp [visit] at idle]
  case endEarly =>
    intro ppm s u between early
    rw [exec_calPassEnd, passEnd_early between early]
  case endTaken =>
    intro ppm s u between last taken
    rw [exec_calPassEnd, passEnd_last between last, if_pos (show passTaken ppm s = true from taken)]
    rfl
  case endNot =>
    intro ppm s u between last untaken
    rw [exec_calPassEnd, passEnd_last between last, if_neg (show ¬passTaken ppm s = true from untaken)]
    rfl
  case endIdle =>
    intro ppm s idle
    rw [exec_calPassEnd, passEnd_idle fun u between => by simp [between] at idle]
  case out => exact fun n toSpare s m t out across due => (exec_spareChangeover_out out across).trans (if_pos due)
  case outNot => exact fun n toSpare s m t out across not => (exec_spareChangeover_out out across).trans (if_neg not)
  case outIdle => exact fun n toSpare s out unconnected => exec_spareChangeover_outIdle out unconnected
  case back => exact fun n toSpare s back at_ => (exec_spareChangeover_back back).trans (if_pos at_)
  case backNot => exact fun n toSpare s back not => (exec_spareChangeover_back back).trans (if_neg not)
  case diodeUngrouped =>
    intro ch res s next ungrouped
    rw [exec_diodeConversion, if_pos next, thmDue_ungrouped ungrouped]
  case diodeGrouped =>
    intro ch res s next grouped
    rw [exec_diodeConversion, if_pos next, thmDue_grouped grouped]
  case diodeNot => exact fun ch res s not => (exec_diodeConversion ch res s).trans (if_neg not)
  case meansBefore =>
    exact fun before after phases charge current ovr strOvr s not =>
      (exec_afeMeansUpdate before after phases charge current ovr strOvr s).trans (if_pos not)
  case means =>
    exact fun before after phases charge current ovr strOvr s begun =>
      (exec_afeMeansUpdate before after phases charge current ovr strOvr s).trans (if_neg begun)
  case meansRuns => exact fun x y ph ch cu o so s begun => afeMeansUpdate_runs x y ph ch cu o so begun

end Sys2Proof.Proofs
end

section
/-! The commands of the loop engine (file 06: R155 to R177): what each runs, and what staging, admissions, lane tests, restarts and the check of the
coefficients do in each form. -/

namespace Sys2Proof.Proofs

open Sys2Proof.Machine

/-! ### Requests (R154, R155) -/

/-- The engine runs the active slot `n` at pair fine time `tau`, which lies on the slot's grid. -/
def slotRequests (n : Fin 64) (tau : Int) (s : State) : Bool :=
  s.on LPE_CTRL_EN && s.boot.g.isSome && s.slotActive n && decide ((tau - (s.slot n).phase) % ((max 1 (s.slot n).period : Nat) : Int) = 0)

theorem exec_loopSampleRequest (n : Fin 64) (fine : Fin 50) (run : LoopRun) (s : State) : exec (.loopSampleRequest n fine run) s =
    if slotRequests n (s.pairFine fine.val) s then .next ((s.loopAlign n).loopRequest n (s.pairFine fine.val).toNat run).settle
    else .next s := rfl

/-! ### Staging (R163, R174) -/

theorem exec_coefWindowWrite_allowed {r : Requester} {off : Fin 0x10000} {w : Word} {s : State}
    (may : s.mayWrite r (stagedBase + off.val) = true) : exec (.coefWindowWrite r off w) s = .next ((s.touch r).coefWrite r off.val w) :=
  congrArg Host.Outcome.next (State.gate_ok may)

section
variable {s : State} {r : Requester} {off : Nat} {w : Word}

/-- A request that one of higher rank came before in its tick is not served (R15). -/
theorem ranked_overruled {k : Nat} {f : State → State} (overruled : s.overruled r k) : s.ranked r k f = s := if_pos overruled

theorem ranked_stands {k : Nat} {f : State → State} (stands : ¬s.overruled r k) : s.ranked r k f = f (s.noteWrite r k) := if_neg stands

theorem coefWrite_word (word : coefSpot off = .word) :
    s.coefWrite r off w = s.ranked r (stagedBase + off) (fun s => s.store (stagedBase + off) w) := if_pos word

/-- A write where R174 places no coefficient word is ignored. -/
theorem coefWrite_ignored (other : ¬coefSpot off = .word) : s.coefWrite r off w = s := if_neg other

end

theorem exec_lpeDiscard_allowed {r : Requester} {s : State} (may : s.mayWrite r LPE_CMD_DISCARD.addr = true) :
    exec (.lpeDiscard r) s = .next (s.touch r).discardStaged := congrArg Host.Outcome.next (State.gate_ok may)

/-! ### Admission (R164, R167) -/

theorem exec_lpeAdmit_allowed {r : Requester} {s : State} (may : s.mayWrite r LPE_CMD_ADMIT.addr = true) :
    exec (.lpeAdmit r) s = .next ((s.touch r).admitStart false) := congrArg Host.Outcome.next (State.gate_ok may)

/-- An admission asked for while another runs has no effect. -/
theorem admitStart_busy {s : State} {tune : Bool} {a : Admission} (busy : s.lpe.admission = some a) : s.admitStart tune = s := by
  rw [State.admitStart, busy]

/-- The snapshot of the staged configuration that an admission judges, with the core voltage that a refusal returns to (R46). -/
def admissionOf (tune : Bool) (s : State) : Admission :=
  { at_ := s.tick, adds := s.addsLoad s.loopView, regs := s.loopView.regs, mem := s.loopView.mem, tune := tune
    vcore := s.get SYS_VCORE_STAT_VCORE, forced := s.tb.forcedSince }

theorem admitStart_idle {s : State} {tune : Bool} (idle : s.lpe.admission = none) : s.admitStart tune =
    let t := (s.set LPE_ADMIT_STAT_RESULT 1).iff (admissionOf tune s).adds State.vcoreMax
    { t with lpe := { t.lpe with admission := some (admissionOf tune s) } } := by
  rw [State.admitStart, idle]
  dsimp only [admissionOf]

theorem exec_admissionComplete_none {s : State} (idle : s.lpe.admission = none) : exec .admissionComplete s = .next s := by
  show execAdmissionComplete s = _
  rw [execAdmissionComplete, idle, done]

/-- An admission that adds load waits for the core to settle (R46). -/
theorem exec_admissionComplete_some {s : State} {a : Admission} (running : s.lpe.admission = some a) : exec .admissionComplete s =
    if !a.adds ∨ s.tb.settleAt ≤ s.tick then .next (s.admissionDone a) else .next s := by
  show execAdmissionComplete s = _
  rw [execAdmissionComplete, running]
  rfl

/-! ### Lane tests (R162, R177) -/

theorem exec_laneTest_allowed {r : Requester} {pass : BitVec 5} {s : State} (may : s.mayWrite r LPE_CMD_LANE_TEST.addr = true) :
    exec (.laneTest r pass) s =
    .next ((s.touch r).each (List.finRange 5) (fun s k => s.laneTest k (pass.getLsbD k.val))).settle :=
  congrArg Host.Outcome.next (State.gate_ok may)

theorem exec_laneSelfTest (k : Fin 5) (pass : Bool) (s : State) : exec (.laneSelfTest k pass) s =
    if s.lpe.testAt.get k + 10000000 ≤ s.tick then .next (s.laneTest k pass).settle else .next s := rfl

section
variable {s : State} {k : Fin 5} {pass : Bool}

theorem laneTest_unretired (unretired : s.get LPE_LANE_ROLE k.val ≠ 2) : s.laneTest k pass = s := if_pos unretired

/-- A retired lane's role shows its test, which ends with this tick (log entry 71). -/
theorem laneTest_retired (retired : ¬s.get LPE_LANE_ROLE k.val ≠ 2) : s.laneTest k pass =
    State.set { s with lpe := { s.lpe with testAt := s.lpe.testAt.set k s.tick, testing := s.lpe.testing.set k (some pass) } }
      LPE_LANE_ROLE 3 k.val := if_neg retired

end

/-! ### Restarts (R172) -/

theorem exec_loopClearFault_allowed {r : Requester} {n : Fin 64} {s : State} (may : s.mayWrite r LPE_SLOT_CMD_CLEAR_FAULT.addr = true) :
    exec (.loopClearFault r n) s = .next (((s.touch r).set LPE_SLOT_CMD_SLOT n.val).clearFault n) := congrArg Host.Outcome.next (State.gate_ok may)

theorem exec_loopResetState_allowed {r : Requester} {n : Fin 64} {s : State} (may : s.mayWrite r LPE_SLOT_CMD_RESET_STATE.addr = true) :
    exec (.loopResetState r n) s = .next (((s.touch r).set LPE_SLOT_CMD_SLOT n.val).resetState n) := congrArg Host.Outcome.next (State.gate_ok may)

section
variable {s : State} {n : Fin 64}

theorem clearFault_faulted (fault : s.on LPS_STAT_FAULT n.val) : s.clearFault n =
    (s.setB LPS_STAT_FAULT false n.val).setSlot n { s.slot n with start := true, old := none, late := false } := if_pos fault

theorem clearFault_sound (sound : ¬s.on LPS_STAT_FAULT n.val) : s.clearFault n = s := if_neg sound

/-- RESET_STATE has no effect on a slot in FAULT, nor on one that is not active. -/
theorem resetState_idle (idle : s.on LPS_STAT_FAULT n.val || !s.slotActive n) : s.resetState n = s := if_pos idle

theorem resetState_running (running : ¬(s.on LPS_STAT_FAULT n.val || !s.slotActive n)) :
    s.resetState n = s.setSlot n { s.slot n with start := true } := if_neg running

end

/-! ### The check of the coefficients (R173) -/

/-- The words of an active slot have changed under their reference. -/
def coefsHit (bad : BitVec 64) (s : State) : Bool := (List.finRange 64).any (fun n => bad.getLsbD n.val && s.slotActive n)

/-- Every slot is checked; one that disagrees with its reference enters FAULT. -/
def coefsChecked (bad : BitVec 64) (s : State) : State := s.each (List.finRange 64) (fun s n => s.coefCheckSlot n (bad.getLsbD n.val))

/-- The CRC over changed words is a free value (log entry 1). -/
def freeCrcShown (s : State) : State := s.draw.2.set LPE_COEF_CRC_CRC (s.draw.1 % 2 ^ 32).toNat

/-- The CRC over the words as they stand. -/
def crcShown (s : State) : State := s.set LPE_COEF_CRC_CRC s.coefCrc.toNat

theorem exec_coefCrcCheck (bad : BitVec 64) (s : State) : exec (.coefCrcCheck bad) s =
    if s.tick % 1000 ≠ 0 then .next s
    else if coefsHit bad s then .next (freeCrcShown (coefsChecked bad s)).settle
    else .next (crcShown (coefsChecked bad s)).settle := rfl

theorem crcShown_crc (s : State) : (crcShown s).get LPE_COEF_CRC_CRC = s.coefCrc.toNat := by
  rw [crcShown, State.get_set_same _ _ _ _ (by unfold Field.fits; decide)]
  exact Nat.mod_eq_of_lt s.coefCrc.isLt

/-- `LPE_COEF_CRC` reads the CRC that a check without changed words finds. -/
theorem coefCrcCheck_runs (bad : BitVec 64) {s : State} (due : s.tick % 1000 = 0) (unhit : coefsHit bad s = false) :
    Runs (.coefCrcCheck bad) s (fun t => t.get LPE_COEF_CRC_CRC = (coefsChecked bad s).coefCrc.toNat) := by
  have runs : exec (.coefCrcCheck bad) s = .next (crcShown (coefsChecked bad s)).settle := by
    rw [exec_coefCrcCheck, if_neg (not_not_intro due), unhit, if_neg Bool.false_ne_true]
  exact ⟨_, runs, (State.settle_get _ _ _ (by decide)).trans (crcShown_crc _)⟩

/-- Settles O26, command by command, by the equation of its `exec` and the form of it that the clause's conditions choose. The clauses rest on choices
of the model: the CRC over changed words is a free value (log entry 1); when a lane's test ends, and points of an admission and of a restart that the
spec leaves open (71). -/
theorem loopCommands : Obligations.LoopCommands := by
  unfold Obligations.LoopCommands
  refine ⟨?request, ?requestNot, ?writeOverruled, ?write, ?writeIgnored, ?admissionBusy, ?admission, ?completeIdle, ?complete, ?completeWaits,
    ?discard, ?laneTest, ?selfUnretired, ?self, ?selfNot, ?clear, ?clearNot, ?resetNot, ?reset, ?crcNot, ?crcHit, ?crc, ?crcRuns⟩
  case request => exact fun n fine run s due => (exec_loopSampleRequest n fine run s).trans (if_pos due)
  case requestNot => exact fun n fine run s not => (exec_loopSampleRequest n fine run s).trans (if_neg not)
  case writeOverruled =>
    intro r off w s may word overruled
    rw [exec_coefWindowWrite_allowed may, coefWrite_word word, ranked_overruled overruled]
  case write =>
    intro r off w s may word stands
    rw [exec_coefWindowWrite_allowed may, coefWrite_word word, ranked_stands stands]
  case writeIgnored =>
    intro r off w s may other
    rw [exec_coefWindowWrite_allowed may, coefWrite_ignored other]
  case admissionBusy =>
    intro r s may busy
    dsimp only at busy
    split at busy
    case h_1 a running => rw [exec_lpeAdmit_allowed may, admitStart_busy running]
    case h_2 => exact busy.elim
  case admission =>
    intro r s may idle
    rw [exec_lpeAdmit_allowed may, admitStart_idle idle, admissionOf]
  case completeIdle => exact fun s idle => exec_admissionComplete_none idle
  case complete => exact fun s a running settled => (exec_admissionComplete_some running).trans (if_pos settled)
  case completeWaits => exact fun s a running unsettled => (exec_admissionComplete_some running).trans (if_neg unsettled)
  case discard => exact fun r s may => exec_lpeDiscard_allowed may
  case laneTest => exact fun r pass s may => exec_laneTest_allowed may
  case selfUnretired =>
    intro k pass s due unretired
    rw [exec_laneSelfTest, if_pos due, laneTest_unretired unretired]
  case self =>
    intro k pass s due retired
    rw [exec_laneSelfTest, if_pos due, laneTest_retired retired]
  case selfNot => exact fun k pass s not => (exec_laneSelfTest k pass s).trans (if_neg not)
  case clear =>
    intro r n s may fault
    rw [exec_loopClearFault_allowed may, clearFault_faulted fault, State.setSlot]
  case clearNot =>
    intro r n s may sound
    rw [exec_loopClearFault_allowed may, clearFault_sound sound]
  case resetNot =>
    intro r n s may idle
    rw [exec_loopResetState_allowed may, resetState_idle idle]
  case reset =>
    intro r n s may running
    rw [exec_loopResetState_allowed may, resetState_running running, State.setSlot]
  case crcNot => exact fun bad s not => (exec_coefCrcCheck bad s).trans (if_pos not)
  case crcHit => exact fun bad s due hit => (exec_coefCrcCheck bad s).trans ((if_neg due).trans (if_pos hit))
  case crc => exact fun bad s due unhit => (exec_coefCrcCheck bad s).trans ((if_neg due).trans (if_neg unhit))
  case crcRuns =>
    intro bad s due unhit
    obtain ⟨t, runs, shown⟩ := coefCrcCheck_runs bad due unhit
    exact ⟨t, runs, coefsChecked bad s, rfl, shown⟩

end Sys2Proof.Proofs
end

section
/-! The commands of the tuner, the line tables and the repetitive controllers (file 07: R179 to R195): what each runs, and what the relay's start and
abort, a crossing of the line, the flywheel, a commit of the tables and the end of a fade do in each form. -/

namespace Sys2Proof.Proofs

open Sys2Proof.Machine

/-! ### The relay auto-tune (R179, R182, R184, R185) -/

theorem exec_tuneStart_allowed {r : Requester} {s : State} (may : s.mayWrite r LPT_CMD_TUNE_START.addr = true) :
    exec (.tuneStart r) s = .next (s.touch r).tuneStart := congrArg Host.Outcome.next (State.gate_ok may)

theorem exec_tuneAbort_allowed {r : Requester} {s : State} (may : s.mayWrite r LPT_CMD_TUNE_ABORT.addr = true) :
    exec (.tuneAbort r) s = .next (s.touch r).tuneAbortCmd := congrArg Host.Outcome.next (State.gate_ok may)

theorem exec_tuneApply_allowed {r : Requester} {s : State} (may : s.mayWrite r LPT_CMD_TUNE_APPLY.addr = true) :
    exec (.tuneApply r) s = .next (s.touch r).tuneApply := congrArg Host.Outcome.next (State.gate_ok may)

theorem exec_tuneRepropose_allowed {r : Requester} {s : State} (may : s.mayWrite r LPT_CMD_TUNE_REPROPOSE.addr = true) :
    exec (.tuneRepropose r) s = .next (s.touch r).tuneRepropose := congrArg Host.Outcome.next (State.gate_ok may)

/-- The relay has run for TMAX ms since its first sample. -/
theorem exec_relayTimeout (s : State) : exec .relayTimeout s =
    if s.tuneState = 1 ∧ s.lpt.tune.u0.isSome ∧ s.lpt.tune.began + 1000 * s.get LPT_TUNE_CFG_TMAX ≤ s.tick
    then .next (s.tuneAbort 6) else .next s := rfl

section
variable {s : State}

theorem tuneStart_may (may : s.tuneMayStart) : s.tuneStart =
    let t := ((s.set LPT_TUNE_STAT_STATE 1).set LPT_TUNE_STAT_RESULT 1).set LPT_TUNE_STAT_FIELD 0
    let t := ((t.set LPT_TUNE_STAT_DONE 0).inc LPT_TUNE_STAT_TUNES).setB LPS_STAT_TUNING true t.tuneSlot.val
    t.setTune { began := t.tick } := if_pos may

/-- A start that R179 does not allow leaves its reason in RESULT and nothing else. -/
theorem tuneStart_mayNot (mayNot : ¬s.tuneMayStart) : s.tuneStart = s.set LPT_TUNE_STAT_RESULT 8 := if_neg mayNot

theorem tuneAbortCmd_relay (relay : s.tuneState = 1) : s.tuneAbortCmd = s.tuneAbort 4 := if_pos relay

theorem tuneAbortCmd_proposed (noRelay : ¬s.tuneState = 1) (proposed : s.tuneState = 2) :
    s.tuneAbortCmd = (s.set LPT_TUNE_STAT_STATE 0).set LPT_TUNE_STAT_RESULT 4 := (if_neg noRelay).trans (if_pos proposed)

theorem tuneAbortCmd_idle (noRelay : ¬s.tuneState = 1) (unproposed : ¬s.tuneState = 2) : s.tuneAbortCmd = s :=
  (if_neg noRelay).trans (if_neg unproposed)

theorem tuneApply_unproposed (unproposed : s.tuneState ≠ 2) : s.tuneApply = s := if_pos unproposed

/-- A slot has words staged already: the proposal is not staged beside them. -/
theorem tuneApply_staged (proposed : ¬s.tuneState ≠ 2) (staged : (List.finRange 64).any (fun n => s.slotStaged n)) :
    s.tuneApply = s.set LPT_TUNE_STAT_RESULT 0xA := (if_neg proposed).trans (if_pos staged)

/-- The four gains of the proposal, staged at the region that was tuned. -/
def proposalStaged (s : State) : State :=
  let a := stagedBase + 0x400 * s.tuneSlot.val + 0xC0 * s.get LPT_TUNE_CFG_REGION
  let t := (s.store (a + 0x10) (s.reg LPT_PROP_KP_VAL.addr)).store (a + 0x14) (s.reg LPT_PROP_KI_VAL.addr)
  (t.store (a + 0x18) (t.reg LPT_PROP_KD_VAL.addr)).store (a + 0x1C) (t.reg LPT_PROP_KT_VAL.addr)

theorem tuneApply_admits (proposed : ¬s.tuneState ≠ 2) (unstaged : ¬(List.finRange 64).any (fun n => s.slotStaged n)) :
    s.tuneApply = (proposalStaged s).admitStart true := (if_neg proposed).trans (if_neg unstaged)

end

/-! ### Crossings of the line (R187) -/

section
variable {k : Fin 3} {fine : Fin 50} {amp : Nat} {s : State}

theorem exec_lineCrossing_off (off : !s.on LPT_LP_CTRL_EN ∨ s.boot.g.isNone) : exec (.lineCrossing k fine amp) s = .next s := if_pos off

theorem exec_lineCrossing_at {t : Nat} (tracks : ¬(!s.on LPT_LP_CTRL_EN ∨ s.boot.g.isNone)) (crosses : s.crossing k fine = some t) :
    exec (.lineCrossing k fine amp) s = .next (s.lineCross k t amp) := by
  show execLineCrossing k fine amp s = _
  rw [execLineCrossing, if_neg tracks, crosses]
  rfl

theorem exec_lineCrossing_none (tracks : ¬(!s.on LPT_LP_CTRL_EN ∨ s.boot.g.isNone)) (uncrossed : s.crossing k fine = none) :
    exec (.lineCrossing k fine amp) s = .next s := by
  show execLineCrossing k fine amp s = _
  rw [execLineCrossing, if_neg tracks, uncrossed, done]

/-- The crossing at `t` follows the source's last one by a period of 45 to 66 Hz. -/
def crossingInRange (x : LineSource) (t : Nat) : Bool :=
  match x.last with
  | none => false
  | some t0 => decide ((t - t0) * 45 ≤ 50000000 ∧ 50000000 ≤ (t - t0) * 66)

/-- The run of good intervals with the one that ends at `t`. -/
def crossingRun (x : LineSource) (t : Nat) : Nat := if crossingInRange x t then x.run + 1 else 0

/-- The crossing at `t` is the source's last one, and none waits any longer. -/
def crossingTaken (k : Fin 3) (t : Nat) (s : State) : State :=
  let x := s.lpt.line.src.get k
  s.setLine { s.lpt.line with src := s.lpt.line.src.set k { x with last := some t, run := crossingRun x t, cross := none } }

/-- The ripple is present by its amplitude, an ACSYNC input from its third good interval in a row (R188). -/
def presenceJudged (k : Fin 3) (amp run : Nat) (s : State) : State :=
  if k = 2 then s.setB (sourcePresent 2) (decide (s.get LPT_LP_CTRL_RIP_MIN ≤ amp))
  else s.iff (decide (3 ≤ run)) (fun s => s.setB (sourcePresent k) true)

/-- From the third good interval in a row the converter knows its ACSYNC input as one that has been present. -/
def syncNoted (k : Fin 3) (run : Nat) (s : State) : State :=
  if k.val < 2 && decide (3 ≤ run) then { s with cnv := { s.cnv with syncSeen := s.cnv.syncSeen.set (Fin.ofNat 2 k.val) true } } else s

/-- A crossing is taken and its source judged, before the choice of R188. -/
def crossingJudged (k : Fin 3) (t amp : Nat) (s : State) : State :=
  let run := crossingRun (s.lpt.line.src.get k) t
  syncNoted k run (presenceJudged k amp run (crossingTaken k t s))

/-- After the choice of a source, the one in use corrects the tracker. -/
theorem lineCross_eq (t : Nat) : s.lineCross k t amp =
    let u := (crossingJudged k t amp s).lineChoose
    if u.get LPT_LP_STAT_SRC_USED = k.val + 1 then u.lineCorrect k (50 * (u.tick : Int) - t) else u := rfl

theorem ite_src {p : Prop} [Decidable p] {t u : State} {src : Vector LineSource 3} (yes : t.lpt.line.src = src) (no : u.lpt.line.src = src) :
    (if p then t else u).lpt.line.src = src := by
  split
  · exact yes
  · exact no

theorem presenceJudged_src (run : Nat) : (presenceJudged k amp run s).lpt.line.src = s.lpt.line.src := ite_src rfl (ite_src rfl rfl)

theorem syncNoted_src (run : Nat) : (syncNoted k run s).lpt.line.src = s.lpt.line.src := ite_src rfl rfl

theorem crossingJudged_src (t : Nat) : (crossingJudged k t amp s).lpt.line.src = (crossingTaken k t s).lpt.line.src :=
  (syncNoted_src _).trans (presenceJudged_src _)

/-- The choice of a source may begin the flywheel and leaves what each source has shown. -/
theorem lineChoose_src : s.lineChoose.lpt.line.src = s.lpt.line.src := ite_src rfl rfl

/-- A correction moves the phase, the frequency, the lock and the fade, and leaves what each source has shown. -/
theorem lineCorrect_src (back : Int) : (s.lineCorrect k back).lpt.line.src = s.lpt.line.src := ite_src rfl (ite_src rfl rfl)

theorem lineCross_src (t : Nat) : (s.lineCross k t amp).lpt.line.src = (crossingTaken k t s).lpt.line.src := by
  have chosen := (lineChoose_src (s := crossingJudged k t amp s)).trans (crossingJudged_src t)
  rw [lineCross_eq]
  exact ite_src ((lineCorrect_src _).trans chosen) chosen

theorem crossingTaken_last (t : Nat) : ((crossingTaken k t s).lpt.line.src.get k).last = some t :=
  congrArg LineSource.last (Vector.getElem_set_self k.isLt)

/-- A crossing stands as its source's last one, whatever the choice and the correction after it do. -/
theorem lineCross_last (t : Nat) : ((s.lineCross k t amp).lpt.line.src.get k).last = some t := by
  rw [lineCross_src, crossingTaken_last]

theorem lineCrossing_runs {t₀ : Nat} (on : s.on LPT_LP_CTRL_EN = true) (begun : s.boot.g.isSome = true) (crosses : s.crossing k fine = some t₀) :
    Runs (.lineCrossing k fine amp) s (fun t => t.tick = s.tick ∧ t.power = s.power ∧ (t.lpt.line.src.get k).last = some t₀) := by
  have tracks : ¬(!s.on LPT_LP_CTRL_EN ∨ s.boot.g.isNone) := by simp [on, Option.isSome_iff_ne_none.mp begun]
  have runs := exec_lineCrossing_at (amp := amp) tracks crosses
  exact ⟨_, runs, (exec_kept _ s rfl _ runs).tick, (exec_stays _ s _ rfl runs).1, lineCross_last t₀⟩

end

/-! ### Sources and the flywheel (R188) -/

/-- A source of the line has shown no crossing for 33,334 ticks. -/
def sourceOverdue (k : Fin 3) (s : State) : Bool :=
  match (s.lpt.line.src.get k).last with
  | none => true
  | some t => decide (t + 50 * 33334 ≤ 50 * s.tick)

/-- The source is present no longer, and its run of good intervals is over. -/
def sourceDropped (k : Fin 3) (s : State) : State :=
  let t := s.setB (sourcePresent k) false
  t.setLine { t.lpt.line with src := t.lpt.line.src.set k { s.lpt.line.src.get k with run := 0 } }

theorem exec_lineSourceLost (k : Fin 3) (s : State) : exec (.lineSourceLost k) s =
    if s.on (sourcePresent k) && (k == 2 || sourceOverdue k s) then .next (sourceDropped k s).lineChoose else .next s := rfl

/-- The flywheel has run its cycles and stops. -/
def flywheelStopped (s : State) : State :=
  let t := s.setB LPT_LP_STAT_FLYWHEEL false
  t.setLine { t.lpt.line with flyEnd := none }

/-- Without a frequency there is no cycle to fade over: the factor is 0 at once. -/
def fadeBegun (s : State) : State := if s.lineFreq = 0 then s.setLine { s.lpt.line with fade := 0, dir := 0 } else s.fadeGo (-1)

theorem exec_flywheelEnd (s : State) : exec .flywheelEnd s =
    if s.due s.lpt.line.flyEnd then .next (fadeBegun (flywheelStopped s)) else .next s := rfl

theorem fadeBegun_flyEnd (s : State) : (fadeBegun s).lpt.line.flyEnd = s.lpt.line.flyEnd := by
  unfold fadeBegun State.fadeGo
  split
  · rfl
  · rfl

theorem flywheelEnd_runs {s : State} (due : s.due s.lpt.line.flyEnd = true) :
    Runs .flywheelEnd s (fun t => t.lpt.line.flyEnd = none ∧ t.tick = s.tick) := by
  have runs := (exec_flywheelEnd s).trans (if_pos due)
  exact ⟨_, runs, fadeBegun_flyEnd _, (exec_kept _ s rfl _ runs).tick⟩

/-! ### The line-phase tables (R190, R191) -/

theorem exec_lptTblCommit_allowed {r : Requester} {banks : BitVec 8} {s : State} (may : s.mayWrite r LPT_CMD_TBL_COMMIT.addr = true) :
    exec (.lptTblCommit r banks) s = .next ((s.touch r).tblCommit banks.toNat) := congrArg Host.Outcome.next (State.gate_ok may)

/-- The banks that the mask names wait for their swap beside those that wait already. -/
def banksPending (m : Nat) (s : State) : State :=
  s.setLine { s.lpt.line with pending := Vector.ofFn (fun b => s.lpt.line.pending.get b || m.testBit b.val) }

theorem tblCommit_faded {s : State} {m : Nat} (faded : (banksPending m s).fadeFactor = 0) : s.tblCommit m = (banksPending m s).swapPending :=
  if_pos faded

theorem tblCommit_waits {s : State} {m : Nat} (shown : ¬(banksPending m s).fadeFactor = 0) : s.tblCommit m = banksPending m s := if_neg shown

theorem exec_tblSwap (s : State) : exec .tblSwap s =
    if s.lpt.line.pending.toList.any id && (s.fadeFactor == 0 || decide (s.linePhase < s.lineFreq)) then .next s.swapPending else .next s := rfl

theorem exec_tblDataAccess_write {r : Requester} {w : Word} {s : State} (may : s.mayWrite r LPT_TBL_DATA_DATA.addr = true) :
    exec (.tblDataAccess r (some w)) s = .next ((s.touch r).tblData (some w)) := congrArg Host.Outcome.next (State.gate_ok may)

theorem exec_tblDataAccess_read {r : Requester} {s : State} (may : s.mayRead r LPT_TBL_DATA_DATA.addr = true) :
    exec (.tblDataAccess r none) s = .next ((s.touch r).tblData none) := congrArg Host.Outcome.next (State.gateRead_ok may)

theorem exec_tblCrcCheck (bad : BitVec 8) (s : State) : exec (.tblCrcCheck bad) s =
    if s.tick % 1000 ≠ 0 ∨ s.boot.g.isNone then .next s
    else .next (s.each (List.finRange 8) (fun s b => s.bankCheck b (bad.getLsbD b.val))).showTblCrc := rfl

/-! ### The repetitive controllers (R195) -/

theorem exec_rcClear_allowed {r : Requester} {which : BitVec 4} {s : State} (may : s.mayWrite r LPT_CMD_RC_CLEAR.addr = true) :
    exec (.rcClear r which) s = .next ((s.touch r).rcClear which.toNat) := congrArg Host.Outcome.next (State.gate_ok may)

theorem exec_rcFadeEnd (k : Fin 4) (s : State) : exec (.rcFadeEnd k) s = .next (s.rcFadeEnd k) := rfl

section
variable {k : Fin 4} {s : State}

theorem rcFadeEnd_steady (steady : (s.rc k).fading = none) : s.rcFadeEnd k = s := by
  rw [State.rcFadeEnd, steady]

/-- A fade that has had its N samples ends with every entry 0. -/
theorem rcFadeEnd_fading {q : Nat × Nat × Nat} (fading : (s.rc k).fading = some q) : s.rcFadeEnd k =
    if q.2.2 < max 1 (s.get LPT_RC_CFG_N k.val) then s
    else (s.setRc k { started := true, slot := (s.rc k).slot }).set LPT_RC_STAT_STATE
      (if !s.on LPT_RC_CFG_EN k.val then 0 else if s.on LPT_RC_CFG_LEARN k.val && !s.on LPT_RC_STAT_DIVERGED k.val then 1 else 2) k.val := by
  rw [State.rcFadeEnd, fading]

end

/-- Settles O27, command by command, by the equation of its `exec` and the form of it that the clause's conditions choose. The clauses rest on choices
of the model: points of the relay and of the repetitive controllers (log entry 72), and the crossings of the line, the ripple's amplitude and the
corrections of the line PLL (73). -/
theorem tunerCommands : Obligations.TunerCommands := by
  unfold Obligations.TunerCommands
  refine ⟨?start, ?startNot, ?abortRelay, ?abortProposed, ?abortIdle, ?applyUnproposed, ?applyStaged, ?apply, ?repropose, ?timeout, ?timeoutNot,
    ?crossingOff, ?crossing, ?crossingNone, ?crossingRuns, ?lost, ?lostNot, ?flywheelStill, ?flywheelFades, ?flywheelNot, ?flywheelRuns,
    ?commitSwaps, ?commitWaits, ?swap, ?swapNot, ?dataWrite, ?dataRead, ?crcNot, ?crc, ?rcClear, ?fadeNone, ?fadeGoesOn, ?fadeEnds⟩
  case start =>
    intro r s may allowed
    rw [exec_tuneStart_allowed may, tuneStart_may allowed, State.setTune]
  case startNot =>
    intro r s may mayNot
    rw [exec_tuneStart_allowed may, tuneStart_mayNot mayNot]
  case abortRelay =>
    intro r s may relay
    rw [exec_tuneAbort_allowed may, tuneAbortCmd_relay relay, State.tuneAbort]
  case abortProposed =>
    intro r s may noRelay proposed
    rw [exec_tuneAbort_allowed may, tuneAbortCmd_proposed noRelay proposed]
  case abortIdle =>
    intro r s may noRelay unproposed
    rw [exec_tuneAbort_allowed may, tuneAbortCmd_idle noRelay unproposed]
  case applyUnproposed =>
    intro r s may unproposed
    rw [exec_tuneApply_allowed may, tuneApply_unproposed unproposed]
  case applyStaged =>
    intro r s may proposed staged
    rw [exec_tuneApply_allowed may, tuneApply_staged proposed staged]
  case apply =>
    intro r s may proposed unstaged
    rw [exec_tuneApply_allowed may, tuneApply_admits proposed unstaged, proposalStaged]
  case repropose =>
    intro r s may
    rw [exec_tuneRepropose_allowed may, State.tuneRepropose]
  case timeout => exact fun s due => (exec_relayTimeout s).trans (if_pos due)
  case timeoutNot => exact fun s not => (exec_relayTimeout s).trans (if_neg not)
  case crossingOff => exact fun k fine amp s off => exec_lineCrossing_off off
  case crossing => exact fun k fine amp s t tracks crosses => exec_lineCrossing_at tracks crosses
  case crossingNone => exact fun k fine amp s tracks uncrossed => exec_lineCrossing_none tracks uncrossed
  case crossingRuns => exact fun k fine amp t₀ s on begun crosses => lineCrossing_runs on begun crosses
  case lost => exact fun k s lost => (exec_lineSourceLost k s).trans (if_pos lost)
  case lostNot => exact fun k s not => (exec_lineSourceLost k s).trans (if_neg not)
  case flywheelStill =>
    exact fun s due still => (exec_flywheelEnd s).trans ((if_pos due).trans (congrArg Host.Outcome.next (if_pos still)))
  case flywheelFades =>
    exact fun s due turns => (exec_flywheelEnd s).trans ((if_pos due).trans (congrArg Host.Outcome.next (if_neg turns)))
  case flywheelNot => exact fun s not => (exec_flywheelEnd s).trans (if_neg not)
  case flywheelRuns => exact fun s due => flywheelEnd_runs due
  case commitSwaps =>
    intro r banks s may faded
    rw [exec_lptTblCommit_allowed may, tblCommit_faded faded, banksPending]
  case commitWaits =>
    intro r banks s may shown
    rw [exec_lptTblCommit_allowed may, tblCommit_waits shown, banksPending]
  case swap => exact fun s due => (exec_tblSwap s).trans (if_pos due)
  case swapNot => exact fun s not => (exec_tblSwap s).trans (if_neg not)
  case dataWrite =>
    intro r write s word may
    cases write with
    | none => exact word.elim
    | some w => exact exec_tblDataAccess_write may
  case dataRead =>
    intro r write s isRead may
    subst isRead
    exact exec_tblDataAccess_read may
  case crcNot => exact fun bad s not => (exec_tblCrcCheck bad s).trans (if_pos not)
  case crc => exact fun bad s due => (exec_tblCrcCheck bad s).trans (if_neg due)
  case rcClear =>
    intro r which s may
    rw [exec_rcClear_allowed may, State.rcClear]
  case fadeNone =>
    intro k s steady
    rw [exec_rcFadeEnd, rcFadeEnd_steady steady]
  case fadeGoesOn =>
    intro k s q fading short
    rw [exec_rcFadeEnd, rcFadeEnd_fading fading, if_pos short]
  case fadeEnds =>
    intro k s q fading full
    rw [exec_rcFadeEnd, rcFadeEnd_fading fading, if_neg full]

end Sys2Proof.Proofs
end

section
/-! The commands of the power states (file 08 and R22 to R29, R245, R286, R303, R365): the entry of a power state, the commands that bring one, and
what brings none. -/

namespace Sys2Proof.Proofs

open Sys2Proof.Machine

/-! ### The entry of a power state (R22, R25, R28) -/

theorem enterPower_barred {s : State} {p : PowerState} (barred : !s.mayEnter p) : s.enterPower p = s := if_pos barred

/-- What an entry is told by: the power state, and the tick it was entered in. -/
def EntersAt (p : PowerState) (s t : State) : Prop := t.power = p ∧ t.powerSince = s.tick ∧ t.tick = s.tick

theorem enterPower_entersAt {s : State} {p : PowerState} (may : s.mayEnter p = true) : EntersAt p s (s.enterPower p) :=
  have entered := State.enterPower_enters may
  ⟨entered.power, entered.since, entered.tick⟩

section
variable {b : Bool} {s t : State}

/-- What enters no power state leaves the one the tick began in, and what may be entered. -/
theorem powerWas_kept (kept : Kept ⟨false, b⟩ s t) : t.powerWas = s.powerWas := (kept.power.was kept.tick).1

theorem mayEnter_kept (kept : Kept ⟨false, b⟩ s t) (p : PowerState) : t.mayEnter p = s.mayEnter p := by
  obtain ⟨power, since, _, _⟩ | ⟨moves, _⟩ := kept.power
  · rw [State.mayEnter, power, kept.g, powerWas_kept kept, since, kept.tick, ← State.mayEnter]
  · cases moves

/-- An entry from a state that `s` is brought to in the same tick, where `s` could enter, is an entry from `s`. -/
theorem entersAt_after {p : PowerState} (kept : Kept ⟨false, b⟩ s t) (may : s.mayEnter p = true) : EntersAt p s (t.enterPower p) := by
  rw [← mayEnter_kept kept p] at may
  rw [EntersAt, ← kept.tick]
  exact enterPower_entersAt may

end

/-! ### Commands that enter a state when their condition holds (R22, R224) -/

section
variable {i : Instr} {c : Prop} [Decidable c] {p : PowerState} {s : State} (runs : exec i s = if c then .next (s.enterPower p) else .next s)
include runs

theorem transition_barred (due : c) (barred : !s.mayEnter p) : exec i s = .next s := by
  rw [runs, if_pos due, enterPower_barred barred]

/-- The state after the entry is what the definition of the entry gives where nothing bars it. -/
theorem transition_taken {t : State} (due : c) (free : ¬(!s.mayEnter p)) (entry : s.enterPower p = if !s.mayEnter p then s else t) :
    exec i s = .next t := by
  rw [runs, if_pos due, entry, if_neg free]

theorem transition_notDue (not : ¬c) : exec i s = .next s := runs.trans (if_neg not)

theorem transition_runs (due : c) (may : s.mayEnter p = true) : Runs i s (EntersAt p s) :=
  ⟨_, runs.trans (if_pos due), enterPower_entersAt may⟩

end

theorem exec_prearmClearQualified (s : State) : exec .prearmClearQualified s =
    if s.powerWas = .prearmed ∧ s.held_ s.qual.quiet 50000 then .next (s.enterPower .normal) else .next s := rfl

theorem exec_returnQualified (s : State) : exec .returnQualified s =
    if s.powerWas = .holdup ∧ s.held_ s.qual.load 10000 then .next (s.enterPower .ret) else .next s := rfl

theorem exec_returnLoadLost (s : State) : exec .returnLoadLost s =
    if s.powerWas = .ret ∧ s.held_ s.qual.low 1000 then .next (s.enterPower .holdup) else .next s := rfl

theorem exec_handbackRampComplete (s : State) : exec .handbackRampComplete s =
    if s.powerWas = .ret ∧ s.powerWasSince + s.get CNV_RAMP_RAMP ≤ s.tick ∧ s.convCurrent ≤ 0 then .next (s.enterPower .normal) else .next s := rfl

theorem exec_noStringClosedExpiry (s : State) : exec .noStringClosedExpiry s =
    if (s.powerWas = .holdup ∨ s.powerWas = .ret) ∧ s.closedStrs.isEmpty ∧ s.lasted s.bat.noneClosed 1000
    then .next (s.enterPower .exhausted) else .next s := rfl

theorem exec_exhaustedRecovered (s : State) : exec .exhaustedRecovered s =
    if s.powerWas = .exhausted ∧ s.held_ s.bat.acClear 10000 ∧ s.held_ s.bat.regSince 10000
    then .next (s.enterPower .normal) else .next s := rfl

/-! ### Pickup (R22, R223) -/

theorem exec_pickupQualified (s : State) : exec .pickupQualified s =
    if (s.powerWas = .normal ∨ s.powerWas = .prearmed) ∧ s.lasted s.qual.pick 20 then .next s.pickupEnter else .next s := rfl

theorem pickupEnter_may {s : State} (may : s.mayEnter .holdup) : s.pickupEnter = (s.inc CNV_CNT_PICKUPS).enterPower .holdup := if_pos may

theorem pickupEnter_mayNot {s : State} (mayNot : ¬s.mayEnter .holdup) : s.pickupEnter = s := if_neg mayNot

/-- The count of the pickup does not stand in the way of the entry. -/
theorem pickupEnter_entersAt {b : Bool} {s t : State} (kept : Kept ⟨false, b⟩ s t) (may : s.mayEnter .holdup = true) :
    EntersAt .holdup s t.pickupEnter := by
  rw [pickupEnter_may ((mayEnter_kept kept .holdup).trans may)]
  exact entersAt_after (State.inc_kept kept) may

/-! ### The SHEV lines (R222) -/

theorem exec_acFailAssert_line (j : Fin 4) (s : State) : exec (.acFailAssert (some j)) s = .next ((s.shevBall j true).shevLine j).powerLevels := rfl

theorem exec_acFailAssert_sync (s : State) : exec (.acFailAssert none) s = .next s.powerLevels := rfl

theorem exec_acFailClear (j : Fin 4) (s : State) : exec (.acFailClear j) s = .next ((s.shevBall j false).shevLine j) := rfl

theorem powerLevels_normal {s : State} (was : s.powerWas = .normal) (failed : s.acFail = true) : s.powerLevels = s.enterPower .prearmed := by
  simp [State.powerLevels, was, failed]

theorem powerLevels_ret {s : State} (was : s.powerWas = .ret) (failed : s.acFail = true) (charged : s.allEmpty = false) :
    s.powerLevels = s.enterPower .holdup := by
  simp [State.powerLevels, was, failed, charged]

theorem acFailAssert_line_runs {j : Fin 4} {s : State} (was : ((s.shevBall j true).shevLine j).powerWas = .normal)
    (failed : ((s.shevBall j true).shevLine j).acFail = true) (may : ((s.shevBall j true).shevLine j).mayEnter .prearmed = true) :
    Runs (.acFailAssert (some j)) s (EntersAt .prearmed s) := by
  have kept : Kept ⟨false, false⟩ s ((s.shevBall j true).shevLine j) := State.shevLine_kept (State.shevBall_kept (Kept.refl s))
  refine ⟨_, exec_acFailAssert_line j s, ?_⟩
  rw [powerLevels_normal was failed]
  exact entersAt_after kept ((mayEnter_kept kept .prearmed).symm.trans may)

theorem acFailAssert_sync_runs {s : State} (was : s.powerWas = .ret) (failed : s.acFail = true) (charged : s.allEmpty = false)
    (may : s.mayEnter .holdup = true) : Runs (.acFailAssert none) s (EntersAt .holdup s) := by
  refine ⟨_, exec_acFailAssert_sync s, ?_⟩
  rw [powerLevels_ret was failed charged]
  exact enterPower_entersAt may

/-- The tick since which line `j` shows the level it shows now. -/
def shevSince (j : Fin 4) (s : State) : Nat := if (s.balls.shevFor.get j).1 = s.shevRaw j then (s.balls.shevFor.get j).2 else s.tick

/-- The level of line `j` is noted with the tick since which it stands. -/
def shevNoted (j : Fin 4) (s : State) : State :=
  { s with balls := { s.balls with shevFor := s.balls.shevFor.set j (s.shevRaw j, shevSince j s) } }

/-- From tick g on, an AC-fail line follows its level once that has stood for DEGLITCH. -/
theorem shevLine_func {j : Fin 4} {s : State} {g : Nat} (begun : s.boot.g = some g) (func : s.get CNV_SHEV_CFG_FUNC j.val = 1) : s.shevLine j =
    if max (shevSince j s) g + s.get CNV_SHEV_CFG_DEGLITCH j.val ≤ s.tick
    then (shevNoted j s).setBit CNV_ACF_STAT_SHEV_ASSERTED j.val (s.shevRaw j) else shevNoted j s := by
  rw [State.shevLine]
  dsimp only
  rw [begun]
  exact if_neg (not_not_intro func)

/-! ### Efficiency mode, the thermal groups and empty strings (R245, R286, R365) -/

theorem exec_efficiencyResumeTimer (s : State) : exec .efficiencyResumeTimer s =
    if s.due s.shr.resumeAt then .next { s with shr := { s.shr with resumeAt := none } } else .next s := rfl

theorem exec_thermalGroupRecompute (g : Fin 6) (s : State) : exec (.thermalGroupRecompute g) s =
    if s.boot.g.isNone then .next s else .next (s.thmGroup g) := rfl

theorem exec_emptyQualified (n : Fin 8) (s : State) : exec (.emptyQualified n) s =
    if s.emptyNow n then .next ((s.strEmptyEntry n).settle).powerLevels else .next s := rfl

section
variable {g : Fin 6} {s : State}

/-- A group is recomputed with its due mark taken back. -/
def thmRecomputed (g : Fin 6) (s : State) : State := (({ s with thm := { s.thm with due := s.thm.due - 2 ^ g.val } }).thmRecompute g).settle

theorem thmGroup_notDue (notDue : !s.thm.due.testBit g.val) : s.thmGroup g = s := if_pos notDue

/-- An entry to SHUTDOWN is the HALT condition where SD_HALT is set (R366). -/
theorem thmGroup_due (due : ¬(!s.thm.due.testBit g.val)) : s.thmGroup g =
    let t := thmRecomputed g s
    t.iff (s.thmLevel g.val != 3 && t.thmLevel g.val == 3 && t.on THM_GRP_ACT_SD_HALT g.val) (fun s => s.enterPower .halt) := if_neg due

end

/-! ### The all-fire (R229) -/

section
variable {g : Fin 2} {fine : Option Swing × Option Swing} {lat : Fin 14} {s : State} {f : Nat}

/-- The slope's hold is noted and the group fires at fine unit `f`. -/
def groupFired (g : Fin 2) (fine : Option Swing × Option Swing) (lat : Fin 14) (f : Nat) (s : State) : State := (s.slopeNote g fine.1).fire g f lat

theorem groupFired_kept : Kept ⟨false, true⟩ s (groupFired g fine lat f s) := State.fire_kept (State.slopeNote_kept (Kept.refl s))

theorem exec_allfire_untripped (untripped : s.tripAt g fine = none) : exec (.allfire g fine lat) s = .next (s.slopeNote g fine.1) := by
  show execAllfire g fine lat s = _
  rw [execAllfire, untripped]
  rfl

/-- A trip fires an armed group, and HOLDUP is entered from the outer states; a fire that is lost to the end of the power state is recorded. -/
theorem exec_allfire_tripped (trip : s.tripAt g fine = some f) : exec (.allfire g fine lat) s =
    if s.fires g then
      if (groupFired g fine lat f s).powerWas = .normal ∨ (groupFired g fine lat f s).powerWas = .prearmed
      then .next (groupFired g fine lat f s).pickupEnter else .next (groupFired g fine lat f s).settle
    else if s.fireLost g then .next (((s.slopeNote g fine.1).fireRecord g f lat).lockout g)
    else .next (s.slopeNote g fine.1) := by
  show execAllfire g fine lat s = _
  rw [execAllfire, trip]
  rfl

theorem allfire_runs (trip : s.tripAt g fine = some f) (fires : s.fires g = true) (outer : s.powerWas = .normal ∨ s.powerWas = .prearmed)
    (may : s.mayEnter .holdup = true) : Runs (.allfire g fine lat) s (EntersAt .holdup s) := by
  rw [← powerWas_kept (groupFired_kept (g := g) (fine := fine) (lat := lat) (f := f))] at outer
  exact ⟨_, (exec_allfire_tripped trip).trans ((if_pos fires).trans (if_pos outer)), pickupEnter_entersAt groupFired_kept may⟩

end

/-! ### Ship mode (R303) -/

section
variable {r : Requester} {w : Word} {s : State}

theorem exec_ship_allowed (may : s.mayCommand r BAT_SHIP_CMD_SHIP.addr .curator = true) : exec (.ship r w) s = .next ((s.touch r).shipCmd w) :=
  congrArg Host.Outcome.next (State.gateRole_ok may)

theorem shipCmd_unasked (unasked : bitsOf w 16 1 = 0) : s.shipCmd w = s := if_pos unasked

theorem shipCmd_wrongKey (asked : ¬bitsOf w 16 1 = 0) (wrong : bitsOf w 0 16 ≠ 0x5A5A) :
    s.shipCmd w = s.event .shipKeyWrong 0 [bitsOf w 0 16] := (if_neg asked).trans (if_pos wrong)

/-- The transition itself is decided at the end of the tick (log entry 58). -/
theorem shipCmd_key (asked : ¬bitsOf w 16 1 = 0) (key : ¬bitsOf w 0 16 ≠ 0x5A5A) : s.shipCmd w =
    if s.power ≠ .normal ∨ !s.full ∨ s.powerSince = s.tick ∨ !s.bitOn SYS_SUPPLY_STAT_GOOD 5 then s.event .shipRefused
    else { s with boot := { s.boot with shipAsked := true } } := (if_neg asked).trans (if_neg key)

end

/-- Settles O21, command by command, by the equation of its `exec` and the form of it that the clause's conditions choose. The clauses rest on choices
of the model: one transition in a tick (log entry 11), HALT opens the strings before the fence (33), qualifiers that hold from the tick their condition
became true (57), and a ship-mode command that is decided at the end of its tick (58). -/
theorem powerStateCommands : Obligations.PowerStateCommands := by
  unfold Obligations.PowerStateCommands
  refine ⟨?lineRuns, ?syncRuns, ?line, ?sync, ?clear, ?clearStood, ?clearShort, ?pickup, ?pickupMayNot, ?pickupNot, ?pickupRuns,
    ?quietBarred, ?quiet, ?quietNot, ?quietRuns, ?returnBarred, ?returned, ?returnNot, ?returnRuns, ?lostBarred, ?lost, ?lostNot, ?lostRuns,
    ?handbackBarred, ?handback, ?handbackNot, ?handbackRuns, ?noneClosedBarred, ?noneClosed, ?noneClosedNot, ?noneClosedRuns,
    ?recoveredBarred, ?recovered, ?recoveredNot, ?recoveredRuns, ?resume, ?resumeNot, ?thermalNever, ?thermalNot, ?thermal, ?empty, ?emptyNot,
    ?untripped, ?firePickup, ?fireMayNot, ?fireInner, ?fireLost, ?fireNot, ?fireRuns, ?shipUnasked, ?shipWrongKey, ?shipRefused, ?ship⟩
  case lineRuns => exact fun j s was failed may => acFailAssert_line_runs was failed may
  case syncRuns => exact fun s was failed charged may => acFailAssert_sync_runs was failed charged may
  case line => exact exec_acFailAssert_line
  case sync => exact exec_acFailAssert_sync
  case clear => exact exec_acFailClear
  case clearStood =>
    intro j s u g ball begun func stood
    rw [exec_acFailClear, ← ball, shevLine_func begun func]
    exact congrArg Host.Outcome.next (if_pos stood)
  case clearShort =>
    intro j s u g ball begun func short
    rw [exec_acFailClear, ← ball, shevLine_func begun func]
    exact congrArg Host.Outcome.next (if_neg (Nat.not_le_of_lt short))
  case pickup =>
    intro s due may free
    rw [exec_pickupQualified, if_pos due, pickupEnter_may may]
    exact congrArg Host.Outcome.next (if_neg free)
  case pickupMayNot =>
    intro s due mayNot
    rw [exec_pickupQualified, if_pos due, pickupEnter_mayNot mayNot]
  case pickupNot => exact fun s not => (exec_pickupQualified s).trans (if_neg not)
  case pickupRuns =>
    exact fun s outer lasted may =>
      ⟨_, (exec_pickupQualified s).trans (if_pos ⟨outer, lasted⟩), pickupEnter_entersAt (Kept.refl (p := ⟨false, false⟩) s) may⟩
  case quietBarred => exact fun s due barred => transition_barred (exec_prearmClearQualified s) due barred
  case quiet => exact fun s due free => transition_taken (exec_prearmClearQualified s) due free rfl
  case quietNot => exact fun s not => transition_notDue (exec_prearmClearQualified s) not
  case quietRuns => exact fun s was quiet may => transition_runs (exec_prearmClearQualified s) ⟨was, quiet⟩ may
  case returnBarred => exact fun s due barred => transition_barred (exec_returnQualified s) due barred
  case returned => exact fun s due free => transition_taken (exec_returnQualified s) due free rfl
  case returnNot => exact fun s not => transition_notDue (exec_returnQualified s) not
  case returnRuns => exact fun s was load may => transition_runs (exec_returnQualified s) ⟨was, load⟩ may
  case lostBarred => exact fun s due barred => transition_barred (exec_returnLoadLost s) due barred
  case lost => exact fun s due free => transition_taken (exec_returnLoadLost s) due free rfl
  case lostNot => exact fun s not => transition_notDue (exec_returnLoadLost s) not
  case lostRuns => exact fun s was low may => transition_runs (exec_returnLoadLost s) ⟨was, low⟩ may
  case handbackBarred => exact fun s due barred => transition_barred (exec_handbackRampComplete s) due barred
  case handback => exact fun s due free => transition_taken (exec_handbackRampComplete s) due free rfl
  case handbackNot => exact fun s not => transition_notDue (exec_handbackRampComplete s) not
  case handbackRuns => exact fun s was ramped current may => transition_runs (exec_handbackRampComplete s) ⟨was, ramped, current⟩ may
  case noneClosedBarred => exact fun s due barred => transition_barred (exec_noStringClosedExpiry s) due barred
  case noneClosed => exact fun s due free => transition_taken (exec_noStringClosedExpiry s) due free rfl
  case noneClosedNot => exact fun s not => transition_notDue (exec_noStringClosedExpiry s) not
  case noneClosedRuns => exact fun s was open_ lasted may => transition_runs (exec_noStringClosedExpiry s) ⟨was, open_, lasted⟩ may
  case recoveredBarred => exact fun s due barred => transition_barred (exec_exhaustedRecovered s) due barred
  case recovered => exact fun s due free => transition_taken (exec_exhaustedRecovered s) due free rfl
  case recoveredNot => exact fun s not => transition_notDue (exec_exhaustedRecovered s) not
  case recoveredRuns => exact fun s was clear regulated may => transition_runs (exec_exhaustedRecovered s) ⟨was, clear, regulated⟩ may
  case resume => exact fun s due => (exec_efficiencyResumeTimer s).trans (if_pos due)
  case resumeNot => exact fun s not => (exec_efficiencyResumeTimer s).trans (if_neg not)
  case thermalNever => exact fun g s never => (exec_thermalGroupRecompute g s).trans (if_pos never)
  case thermalNot =>
    intro g s begun notDue
    rw [exec_thermalGroupRecompute, if_neg begun, thmGroup_notDue notDue]
  case thermal =>
    intro g s begun due
    rw [exec_thermalGroupRecompute, if_neg begun, thmGroup_due due, thmRecomputed]
  case empty => exact fun n s empty => (exec_emptyQualified n s).trans (if_pos empty)
  case emptyNot => exact fun n s not => (exec_emptyQualified n s).trans (if_neg not)
  case untripped => exact fun g fine lat s untripped => exec_allfire_untripped untripped
  case firePickup =>
    intro g fine lat s f trip fires outer may
    refine (exec_allfire_tripped trip).trans ((if_pos fires).trans ((if_pos outer).trans ?_))
    exact congrArg Host.Outcome.next (pickupEnter_may may)
  case fireMayNot =>
    intro g fine lat s f trip fires outer mayNot
    refine (exec_allfire_tripped trip).trans ((if_pos fires).trans ((if_pos outer).trans ?_))
    exact congrArg Host.Outcome.next (pickupEnter_mayNot mayNot)
  case fireInner =>
    exact fun g fine lat s f trip fires inner => (exec_allfire_tripped trip).trans ((if_pos fires).trans (if_neg inner))
  case fireLost =>
    exact fun g fine lat s f trip not lost => (exec_allfire_tripped trip).trans ((if_neg not).trans (if_pos lost))
  case fireNot =>
    exact fun g fine lat s f trip not kept => (exec_allfire_tripped trip).trans ((if_neg not).trans (if_neg kept))
  case fireRuns => exact fun g fine lat f s trip fires outer may => allfire_runs trip fires outer may
  case shipUnasked =>
    intro r w s may unasked
    rw [exec_ship_allowed may, shipCmd_unasked unasked]
  case shipWrongKey =>
    intro r w s may asked wrong
    rw [exec_ship_allowed may, shipCmd_wrongKey asked wrong]
  case shipRefused =>
    intro r w s may asked key refused
    rw [exec_ship_allowed may, shipCmd_key asked key, if_pos refused]
  case ship =>
    intro r w s may asked key accepted
    rw [exec_ship_allowed may, shipCmd_key asked key, if_neg accepted]

end Sys2Proof.Proofs
end

section
/-! The commands of the converter's phases and groups (file 08: R203, R206, R212, R217 to R221, R226): what each runs, and what its shared operations
answer in each form. -/

namespace Sys2Proof.Proofs

open Sys2Proof.Machine

/-! ### Cycles of a phase (R212) -/

/-- The phase may begin a cycle at `t`: it runs in a group that is up, and `t` lies on the grid of its place among the active phases. -/
def cycleBegins (n : Fin 16) (t : Int) (s : State) : Bool :=
  let g := s.get PWM_PH_CFG_GROUP n.val
  let s' := s.setB PWM_PH_STAT_ACTIVE true n.val
  let off := s'.offsetOf (s'.rankOf n) (s'.nAct g)
  let grid := (t - off) % ((max 1 s.cnv.period * 308 : Nat) : Int)
  s.phaseUsable n && s.groupUp g && !s.on PWM_PH_STAT_SHED n.val && s.outputsOn && decide (grid = 0) && s.startDue n off t && s.startFree n g t

theorem exec_phaseCycleStart (n : Fin 16) (fine : Fin 50) (step : Fin 308) (sum : Int) (cnt : Nat) (skip : Bool) (fault : Twice Bool) (s : State) :
    exec (.phaseCycleStart n fine step sum cnt skip fault) s =
      let t := s.edgeTime fine step
      if cycleBegins n t (s.phaseTo n t) then .next ((((s.phaseTo n t).cycleEnd n sum cnt).cycleStart n t skip).readback n fault)
      else .next (s.phaseTo n t) := rfl

section
variable {n : Fin 16} {steps : Nat} {fault : Twice Bool} {s : State}

/-- A trip ends the on-time, no sooner than MIN_ON and no later than its bound. -/
theorem exec_peakComparatorTrip_on {b : Nat} (bound : (s.phase n).bound = some b) : exec (.peakComparatorTrip n steps fault) s =
    .next ((s.onEnd n (min (max steps (nsSteps (s.get PWM_LIMITS_MIN_ON))) b)).readback n fault) := by
  show execPeakComparatorTrip n steps fault s = _
  unfold execPeakComparatorTrip
  dsimp only
  split
  case h_1 b' found => rw [Option.some.inj (found.symm.trans bound), done]
  case h_2 unbound => cases unbound.symm.trans bound

theorem exec_peakComparatorTrip_off (unbound : (s.phase n).bound = none) : exec (.peakComparatorTrip n steps fault) s =
    if s.on PWM_PH_STAT_DE n.val then .next ((s.setPhase n { s.phase n with drive := .low, next := none }).readback n fault) else .next s := by
  show execPeakComparatorTrip n steps fault s = _
  unfold execPeakComparatorTrip
  dsimp only
  split
  case h_1 b found => cases found.symm.trans unbound
  case h_2 => rfl

end

/-! ### The step and the period of the modulator (R203, R206) -/

/-- A count of steps within 280 to 340 is taken, with its tick. -/
def stepsTaken (steps : Nat) (s : State) : State :=
  { ((s.set PWM_CAL_STEPS steps).setB PWM_CAL_CAL_FAIL false) with cnv := { s.cnv with calAt := some s.tick } }

theorem exec_dpwmRecal (steps : Nat) (s : State) : exec (.dpwmRecal steps) s =
    if s.tick % 1000 ≠ 0 ∨ s.tb.onCheck then .next s
    else if 280 ≤ steps ∧ steps ≤ 340 then .next (stepsTaken steps s) else .next (s.setB PWM_CAL_CAL_FAIL true) := rfl

theorem stepsTaken_steps {steps : Nat} (s : State) (high : steps ≤ 340) : (stepsTaken steps s).get PWM_CAL_STEPS = steps := by
  have kept : (stepsTaken steps s).get PWM_CAL_STEPS = (s.set PWM_CAL_STEPS steps).get PWM_CAL_STEPS :=
    State.get_set_apart _ _ _ _ _ _ (.inr (.inl (by decide)))
  rw [kept, State.get_set_same _ _ _ _ (by unfold Field.fits; decide)]
  exact Nat.mod_eq_of_lt (Nat.lt_of_le_of_lt high (by decide))

theorem stepsTaken_calFail (steps : Nat) (s : State) : (stepsTaken steps s).on PWM_CAL_CAL_FAIL = false :=
  on_setB_same (s.set PWM_CAL_STEPS steps) false (by unfold Field.fits; decide) rfl

theorem dpwmRecal_runs {steps : Nat} {s : State} (due : s.tick % 1000 = 0) (pace : s.tb.onCheck = false) (low : 280 ≤ steps) (high : steps ≤ 340) :
    Runs (.dpwmRecal steps) s (fun t => t.get PWM_CAL_STEPS = steps ∧ t.on PWM_CAL_CAL_FAIL = false ∧ t.cnv.calAt = some s.tick ∧ t.mem = s.mem) := by
  have judged : ¬(s.tick % 1000 ≠ 0 ∨ s.tb.onCheck) := by simp [due, pace]
  exact ⟨stepsTaken steps s, (exec_dpwmRecal steps s).trans ((if_neg judged).trans (if_pos ⟨low, high⟩)), stepsTaken_steps s high,
    stepsTaken_calFail steps s, rfl, rfl⟩

theorem exec_pwmPeriodApply (s : State) : exec .pwmPeriodApply s =
    if s.tick % 1000 = 0 then .next { s with cnv := { s.cnv with period := s.get PWM_PERIOD_PERIOD } } else .next s := rfl

/-! ### The states of a group (R217, R218) -/

theorem exec_groupSoftstart (g : Fin 2) (s : State) : exec (.groupSoftstart g) s =
    if s.mayStart g.val then .next (s.softStart g) else .next s := rfl

theorem softStart_alone {g : Fin 2} {s : State} (alone : !s.groupUp (1 - g.val)) : s.softStart g = (s.enterGroup g 1 0).refRestart g.val :=
  if_pos alone

theorem softStart_beside {g : Fin 2} {s : State} (beside : ¬(!s.groupUp (1 - g.val))) : s.softStart g = s.enterGroup g 1 0 := if_neg beside

/-- The group's output has been short for FB_TIME. -/
def shortHeld (g : Fin 2) (s : State) : Bool :=
  match (s.group g).shortSince with
  | some t => decide (t + s.get CNV_FB_TIME_FB_TIME ≤ s.tick)
  | none => false

/-- FAULT_WAIT while retries are left, FAULT after them. -/
theorem exec_shortDetect (g : Fin 2) (s : State) : exec (.shortDetect g) s =
    if s.groupUp g.val ∧ shortHeld g s = true
    then .next (s.groupFault g (if s.get CNV_GRP_STAT_RETRIES g.val < s.get CNV_RETRY_RETRY_MAX then 3 else 4) 1).settle
    else .next s := rfl

theorem exec_groupRetryExpiry (g : Fin 2) (s : State) : exec (.groupRetryExpiry g) s =
    if s.groupState g.val = 3 ∧ (s.group g).since + 1000 * s.get CNV_RETRY_RETRY_MS ≤ s.tick
    then .next ((s.softStart g).inc CNV_GRP_STAT_RETRIES g.val).settle else .next s := rfl

theorem exec_groupRetryReset (g : Fin 2) (s : State) : exec (.groupRetryReset g) s =
    if s.groupState g.val = 2 ∧ (s.group g).retried + 60000000 ≤ s.tick
    then .next ((s.set CNV_GRP_STAT_RETRIES 0 g.val).setGroup g { s.group g with retried := s.tick }) else .next s := rfl

theorem exec_clearG_allowed {r : Requester} {g : Fin 2} {s : State} (may : s.mayWrite r CNV_CMD_CLEAR_G0.addr = true) :
    exec (.clearG r g) s = .next ((s.touch r).clearGroup g).settle := congrArg Host.Outcome.next (State.gate_ok may)

/-- The faults of a group's phases are cleared, in whatever state the group is. -/
def phaseFaultsCleared (g : Fin 2) (s : State) : State :=
  s.each (s.groupPhases g.val) (fun s n => (s.setB PWM_PH_STAT_FAULT false n.val).set PWM_PH_STAT_CAUSE 0 n.val)

theorem clearGroup_faulted {g : Fin 2} {s : State} (faulted : 3 ≤ (phaseFaultsCleared g s).groupState g.val) :
    s.clearGroup g = ((phaseFaultsCleared g s).set CNV_GRP_STAT_RETRIES 0 g.val).enterGroup g 0 0 := if_pos faulted

theorem clearGroup_sound {g : Fin 2} {s : State} (sound : ¬3 ≤ (phaseFaultsCleared g s).groupState g.val) :
    s.clearGroup g = phaseFaultsCleared g s := if_neg sound

/-! ### Shedding and diode emulation (R219, R220) -/

section
variable {g : Fin 2} {s : State}

theorem exec_shedWindowExpiry_closed (closed : (s.group g).shedSince = none) : exec (.shedWindowExpiry g) s = .next s := by
  show execShedWindowExpiry g s = _
  rw [execShedWindowExpiry, closed, done]

/-- The window of shedding begins anew. -/
def shedWindowRenewed (g : Fin 2) (s : State) : State := s.setGroup g { s.group g with shedSince := some s.tick }

/-- One phase is shed while more than MIN_PH serve and one can be picked. -/
def onePhaseShed (g : Fin 2) (s : State) : Host.Outcome State Fault Refusal :=
  if s.nOwn g.val ≤ s.get CNV_SHED_MIN_PH then .next s
  else match s.shedPick g.val with
    | none => .next s
    | some n => .next ((s.phaseLow n).setB PWM_PH_STAT_SHED true n.val)

theorem exec_shedWindowExpiry_open {t : Nat} (window : (s.group g).shedSince = some t) : exec (.shedWindowExpiry g) s =
    if s.shedPermitted g.val ∧ t + 1000 * s.get CNV_SHED_SHED_MS ≤ s.tick then onePhaseShed g (shedWindowRenewed g s) else .next s := by
  show execShedWindowExpiry g s = _
  rw [execShedWindowExpiry, window]
  rfl

theorem onePhaseShed_few (few : s.nOwn g.val ≤ s.get CNV_SHED_MIN_PH) : onePhaseShed g s = .next s := if_pos few

theorem onePhaseShed_pick {n : Fin 16} (enough : ¬s.nOwn g.val ≤ s.get CNV_SHED_MIN_PH) (pick : s.shedPick g.val = some n) :
    onePhaseShed g s = .next ((s.phaseLow n).setB PWM_PH_STAT_SHED true n.val) := by
  rw [onePhaseShed, if_neg enough, pick]

/-- A phase is unshed at most once in 10 ticks, with the share of a phase at or above ADD_HI. -/
def unshedDue (g : Fin 2) (s : State) : Bool :=
  let free := match (s.group g).lastUnshed with
    | none => true
    | some t => decide (t + 10 ≤ s.tick)
  free && s.shedPermitted g.val && !s.shareBelow g.val (s.get CNV_SHED_ADD_HI)

theorem exec_phaseUnshed_none (due : unshedDue g s) (unpicked : s.unshedPick g.val = none) : exec (.phaseUnshed g) s = .next s := by
  refine (if_pos due).trans ?_
  rw [unpicked, done]

theorem exec_phaseUnshed_pick {n : Fin 16} (due : unshedDue g s) (pick : s.unshedPick g.val = some n) : exec (.phaseUnshed g) s =
    .next ((s.setB PWM_PH_STAT_SHED false n.val).setGroup g { s.group g with lastUnshed := some s.tick }) := by
  refine (if_pos due).trans ?_
  rw [pick]
  rfl

theorem exec_phaseUnshed_notDue (not : ¬unshedDue g s) : exec (.phaseUnshed g) s = .next s := if_neg not

end

theorem exec_deEnter (n : Fin 16) (s : State) : exec (.deEnter n) s =
    if s.dePermitted n && s.on PWM_PH_STAT_ACTIVE n.val && !s.on PWM_PH_STAT_DE n.val && decide (10 ≤ (s.phase n).deRun)
    then .next (s.setB PWM_PH_STAT_DE true n.val) else .next s := rfl

/-! ### The reference (R221, R226) -/

theorem exec_slew_allowed {r : Requester} {w : Word} {s : State} (may : s.mayWrite r CNV_CMD_SLEW.addr = true) :
    exec (.slew r w) s = .next ((s.touch r).slewCmd r w) := congrArg Host.Outcome.next (State.gate_ok may)

theorem exec_slewComplete (s : State) : exec .slewComplete s = .next s.slewDone := rfl

section
variable {s : State}

/-- The slew has ended: its tag is done and counted, and the reference goes on at its own rate. -/
def slewEnded (s : State) : State :=
  let t := { s with cnv := { s.cnv with slew := none } }
  let t := (t.set CNV_SLEW_STAT_TAG_DONE (t.get CNV_SLEW_STAT_TAG_ACTIVE)).inc CNV_SLEW_CNT_COMPLETED
  ((t.setB CNV_SLEW_STAT_SLEWING false).event .slewCompleted 0 [(t.get CNV_SLEW_STAT_TAG_ACTIVE : Int)]).reseg

theorem slewDone_slewing {x : Segment} {y : Nat} (slewing : s.cnv.slew = some y) (moving : s.cnv.seg = some x) : s.slewDone =
    if x.t < s.tick ∧ s.refReached then slewEnded s else s := by
  rw [State.slewDone, slewing, moving]
  rfl

/-- Without a slew, or before it has reached its target, nothing is done. -/
theorem slewDone_idle (idle : s.cnv.slew = none ∨ s.cnv.seg = none ∨ ∃ x, s.cnv.seg = some x ∧ ¬(x.t < s.tick ∧ s.refReached = true)) :
    s.slewDone = s := by
  unfold State.slewDone
  split
  case h_1 y x slewing moving =>
    have unreached : ¬(x.t < s.tick ∧ s.refReached = true) := by simpa [slewing, moving] using idle
    exact if_neg unreached
  case h_2 => rfl

end

theorem exec_referenceReachesTarget (s : State) : exec .referenceReachesTarget s =
    if s.refReached then .next (s.each (List.finRange 2) (fun s g => if s.groupState g.val = 1 then s.enterGroup g 2 0 else s)) else .next s := rfl

/-- Settles O28, command by command, by the equation of its `exec` and the form of it that the clause's conditions choose. The clauses rest on choices
of the model: the converter within a tick (log entry 74), and the cause of a group's fault, cleared when its retry starts (58). -/
theorem phaseCommands : Obligations.PhaseCommands := by
  unfold Obligations.PhaseCommands
  refine ⟨?cycle, ?cycleNot, ?tripOn, ?tripEmulating, ?tripOff, ?recalNot, ?recal, ?recalFails, ?recalRuns, ?period, ?periodNot,
    ?startAlone, ?startBeside, ?startNot, ?short, ?shortNot, ?retry, ?retryNot, ?reset, ?resetNot, ?clearFaulted, ?clearSound,
    ?shedClosed, ?shedFew, ?shed, ?shedNot, ?unshedNone, ?unshed, ?unshedNot, ?emulate, ?emulateNot, ?slew, ?complete, ?completeEnds, ?completeIdle,
    ?reached, ?reachedNot⟩
  case cycle =>
    exact fun n fine step sum cnt skip fault s begins => (exec_phaseCycleStart n fine step sum cnt skip fault s).trans (if_pos begins)
  case cycleNot =>
    exact fun n fine step sum cnt skip fault s not => (exec_phaseCycleStart n fine step sum cnt skip fault s).trans (if_neg not)
  case tripOn => exact fun n steps fault s b bound => exec_peakComparatorTrip_on bound
  case tripEmulating => exact fun n steps fault s unbound emulating => (exec_peakComparatorTrip_off unbound).trans (if_pos emulating)
  case tripOff => exact fun n steps fault s unbound not => (exec_peakComparatorTrip_off unbound).trans (if_neg not)
  case recalNot => exact fun steps s not => (exec_dpwmRecal steps s).trans (if_pos not)
  case recal => exact fun steps s judged within => (exec_dpwmRecal steps s).trans ((if_neg judged).trans (if_pos within))
  case recalFails => exact fun steps s judged outside => (exec_dpwmRecal steps s).trans ((if_neg judged).trans (if_neg outside))
  case recalRuns => exact fun steps s due pace low high => dpwmRecal_runs due pace low high
  case period => exact fun s due => (exec_pwmPeriodApply s).trans (if_pos due)
  case periodNot => exact fun s not => (exec_pwmPeriodApply s).trans (if_neg not)
  case startAlone =>
    intro g s may alone
    rw [exec_groupSoftstart, if_pos may, softStart_alone alone]
    rfl
  case startBeside =>
    intro g s may beside
    rw [exec_groupSoftstart, if_pos may, softStart_beside beside]
  case startNot => exact fun g s not => (exec_groupSoftstart g s).trans (if_neg not)
  case short => exact fun g s held => (exec_shortDetect g s).trans (if_pos held)
  case shortNot => exact fun g s not => (exec_shortDetect g s).trans (if_neg not)
  case retry => exact fun g s due => (exec_groupRetryExpiry g s).trans (if_pos due)
  case retryNot => exact fun g s not => (exec_groupRetryExpiry g s).trans (if_neg not)
  case reset => exact fun g s due => (exec_groupRetryReset g s).trans (if_pos due)
  case resetNot => exact fun g s not => (exec_groupRetryReset g s).trans (if_neg not)
  case clearFaulted =>
    intro r g s may faulted
    rw [exec_clearG_allowed may, clearGroup_faulted faulted, phaseFaultsCleared]
  case clearSound =>
    intro r g s may sound
    rw [exec_clearG_allowed may, clearGroup_sound sound, phaseFaultsCleared]
  case shedClosed => exact fun g s closed => exec_shedWindowExpiry_closed closed
  case shedFew =>
    exact fun g s t window due few => (exec_shedWindowExpiry_open window).trans ((if_pos due).trans (onePhaseShed_few few))
  case shed =>
    exact fun g s t n window due enough pick => (exec_shedWindowExpiry_open window).trans ((if_pos due).trans (onePhaseShed_pick enough pick))
  case shedNot => exact fun g s t window not => (exec_shedWindowExpiry_open window).trans (if_neg not)
  case unshedNone => exact fun g s due unpicked => exec_phaseUnshed_none due unpicked
  case unshed => exact fun g s n due pick => exec_phaseUnshed_pick due pick
  case unshedNot => exact fun g s not => exec_phaseUnshed_notDue not
  case emulate => exact fun n s due => (exec_deEnter n s).trans (if_pos due)
  case emulateNot => exact fun n s not => (exec_deEnter n s).trans (if_neg not)
  case slew =>
    intro r w s may
    rw [exec_slew_allowed may]
  case complete => exact exec_slewComplete
  case completeEnds =>
    intro s x y slewing moving reached
    rw [exec_slewComplete, slewDone_slewing slewing moving, if_pos reached, slewEnded]
  case completeIdle =>
    intro s idle
    rw [exec_slewComplete, slewDone_idle idle]
  case reached => exact fun s reached => (exec_referenceReachesTarget s).trans (if_pos reached)
  case reachedNot => exact fun s not => (exec_referenceReachesTarget s).trans (if_neg not)

end Sys2Proof.Proofs
end

section
/-! The commands after an all-fire (file 08: R230): the end of a fire, its floor, and the lockout. -/

namespace Sys2Proof.Proofs

open Sys2Proof.Machine

/-- The phases of a group, brought to the end of this tick. -/
def phasesAtTickEnd (g : Fin 2) (s : State) : State := s.each (s.groupPhases g.val) (fun s n => s.phaseTo n (s.pairFine 50 * 308))

/-- Every phase of a firing group has had its cycles and is in no on-time of the fire. -/
def fireOver (g : Fin 2) (s : State) : Bool :=
  (s.group g).firing && (s.groupPhases g.val).all (fun n => (s.phase n).fired == 0 && (!s.on PWM_PH_STAT_FIRING n.val || (s.phase n).bound.isNone))

/-- The demand that the floor starts at: the mean of the samples that `sum` adds up, or the duty of the fire (log entry 74). -/
def floorStart (g : Fin 2) (sum : Int) (s : State) : Int :=
  if s.on CNV_CTRL_MODE then s.firedDuty g.val else divHalfEven (sum * s.nAct g.val) (max 1 (s.nOwn g.val))

/-- The fire ends: the floor is held from the next tick on, and the group is locked out. -/
def fireEnded (g : Fin 2) (sum : Int) (s : State) : State :=
  let f := floorStart g sum s
  let t := s.each (s.groupPhases g.val) (fun s n => s.setB PWM_PH_STAT_FIRING false n.val)
  (t.setGroup g { t.group g with firing := false, floor := some (f, t.tick + 1, false), floorDuty := t.on CNV_CTRL_MODE }).lockout g

theorem exec_fireEnd (g : Fin 2) (sum : Int) (s : State) : exec (.fireEnd g sum) s =
    if fireOver g (phasesAtTickEnd g s) then .next (fireEnded g sum (phasesAtTickEnd g s)) else .next (phasesAtTickEnd g s) := rfl

section
variable {g : Fin 2} {s : State}

theorem exec_floorHoldEnd_held {f : Int} {t : Nat} (held : (s.group g).floor = some (f, t, false)) : exec (.floorHoldEnd g) s =
    if t + s.get CNV_AF_RUN_HOLD_US ≤ s.tick then .next (s.setGroup g { s.group g with floor := some (f, t, true) }) else .next s := by
  show execFloorHoldEnd g s = _
  rw [execFloorHoldEnd, held]
  rfl

theorem exec_floorHoldEnd_unheld (unheld : ∀ f t, (s.group g).floor ≠ some (f, t, false)) : exec (.floorHoldEnd g) s = .next s := by
  show execFloorHoldEnd g s = _
  unfold execFloorHoldEnd
  dsimp only
  split
  case h_1 f t held => exact absurd held (unheld f t)
  case h_2 => rfl

theorem exec_floorRampEnd_ramping {f : Int} {t : Nat} (ramping : (s.group g).floor = some (f, t, true)) : exec (.floorRampEnd g) s =
    if t + 2 * s.get CNV_AF_RUN_HOLD_US ≤ s.tick then .next (s.setGroup g { s.group g with floor := none }) else .next s := by
  show execFloorRampEnd g s = _
  rw [execFloorRampEnd, ramping]
  rfl

/-- No floor, or one whose hold or ramp still runs, stays as it is. -/
theorem exec_floorRampEnd_early (early : ∀ f t, (s.group g).floor = some (f, t, true) → s.tick < t + 2 * s.get CNV_AF_RUN_HOLD_US) :
    exec (.floorRampEnd g) s = .next s := by
  show execFloorRampEnd g s = _
  unfold execFloorRampEnd
  dsimp only
  split
  case h_1 f t ramping => exact if_neg (Nat.not_le_of_lt (early f t ramping))
  case h_2 => rfl

end

theorem exec_allfireLockoutEnd (g : Fin 2) (s : State) : exec (.allfireLockoutEnd g) s =
    if s.due (s.group g).lockEnd then .next (s.setGroup g { s.group g with lockEnd := none }) else .next s := rfl

/-- Settles O29, command by command, by the equation of its `exec` and the branch that the clause's conditions choose. The clauses rest on a choice of
the model: FIRE_END brings the sum of the samples, which may lie ahead in time (log entry 74). -/
theorem allFireCommands : Obligations.AllFireCommands := by
  unfold Obligations.AllFireCommands
  refine ⟨?fireOver, ?fireGoesOn, ?holdOver, ?holdGoesOn, ?unheld, ?rampOver, ?rampEarly, ?lockoutOver, ?lockoutGoesOn⟩
  case fireOver => exact fun g sum s ended => (exec_fireEnd g sum s).trans (if_pos ended)
  case fireGoesOn => exact fun g sum s goesOn => (exec_fireEnd g sum s).trans (if_neg goesOn)
  case holdOver => exact fun g s f t held ended => (exec_floorHoldEnd_held held).trans (if_pos ended)
  case holdGoesOn => exact fun g s f t held goesOn => (exec_floorHoldEnd_held held).trans (if_neg goesOn)
  case unheld =>
    intro g s unheld
    refine exec_floorHoldEnd_unheld fun f t held => ?_
    simp [held] at unheld
  case rampOver => exact fun g f t s ramping ended => (exec_floorRampEnd_ramping ramping).trans (if_pos ended)
  case rampEarly => exact fun g s early => exec_floorRampEnd_early early
  case lockoutOver => exact fun g s ended => (exec_allfireLockoutEnd g s).trans (if_pos ended)
  case lockoutGoesOn => exact fun g s goesOn => (exec_allfireLockoutEnd g s).trans (if_neg goesOn)

end Sys2Proof.Proofs
end

section
/-! The commands of rectifier sharing and allocation (file 09: R237, R241, R248 to R250, R257): what each runs, and what the check of a standby write
and the start of an allocation answer in each form. -/

namespace Sys2Proof.Proofs

open Sys2Proof.Machine

/-! ### The trim cycle (R241) -/

theorem exec_trimCycle (s : State) : exec .trimCycle s =
    if s.tick % 5000 ≠ 0 ∨ s.boot.g.isNone ∨ s.shr.cycle = some (s.tick / 5000) ∨ s.unitRole = 3
    then .next s else .next (s.trimCycle (s.tick / 5000)).settle := rfl

/-! ### Bindings (R13, R237) -/

/-- What makes an entry a rectifier is the command, and its poll periods are free values (log entries 76 and 1). -/
theorem exec_rectBind (n : Fin 24) (e : Fin 1024) (s : State) : exec (.rectBind n e) s =
    if s.rectFree = some n ∧ s.entState e.val ≠ 0 ∧ s.ent e.val 0x1C 2 = 0
    then .next ((s.rectBind n e.val).rectSchedule e.val).settle else .next s := rfl

section
variable {r : Requester} {n : Fin 32} {s : State}

theorem exec_rectUnbind_allowed (may : s.mayWrite r SHR_CMD_UNBIND.addr = true) : exec (.rectUnbind r n) s =
    .next ((s.touch r).onRect n (fun s n => if s.rectState n = 0 then s else s.rectUnbind n false)).settle :=
  congrArg Host.Outcome.next (State.gate_ok may)

theorem exec_rectRetry_allowed (may : s.mayWrite r SHR_CMD_RETRY.addr = true) : exec (.rectRetry r n) s =
    .next ((s.touch r).onRect n (fun s n => if s.rectState n = 7 then s.rectJoin n else s)).settle :=
  congrArg Host.Outcome.next (State.gate_ok may)

end

/-! ### The timers of a rectifier (R237) -/

section
variable {n : Fin 24} {s : State}

theorem exec_rectStandbyCheck_unacked (unacked : (s.rect n).stbyAck = none) : exec (.rectStandbyCheck n) s = .next s := by
  show execRectStandbyCheck n s = _
  rw [execRectStandbyCheck, unacked, done]

/-- A READ_IOUT sampled in the 200,000 ticks from the acknowledgement `a` of the standby write shows that the current fell. -/
def currentFell (n : Fin 24) (a : Nat) (s : State) : Prop :=
  ∃ p, (s.rect n).i = some p ∧ a ≤ p.2 ∧ p.2 < a + 200000 ∧ s.idle2 n p.1

theorem currentFell_iff {a : Nat} {p : Int × Nat} (sampled : (s.rect n).i = some p) :
    currentFell n a s ↔ a ≤ p.2 ∧ p.2 < a + 200000 ∧ s.idle2 n p.1 := by
  simp [currentFell, sampled]

theorem not_currentFell_of_unsampled {a : Nat} (unsampled : (s.rect n).i = none) : ¬currentFell n a s := by
  simp [currentFell, unsampled]

/-- Before its time, or in another state than SHEDDING, the check does nothing. -/
theorem exec_rectStandbyCheck_early {a : Nat} (acked : (s.rect n).stbyAck = some a) (early : ¬(s.rectState n = 3 ∧ a + 200000 ≤ s.tick)) :
    exec (.rectStandbyCheck n) s = .next s := by
  show execRectStandbyCheck n s = _
  rw [execRectStandbyCheck, acked]
  exact if_neg early

theorem exec_rectStandbyCheck_fell {a : Nat} (acked : (s.rect n).stbyAck = some a) (due : s.rectState n = 3 ∧ a + 200000 ≤ s.tick)
    (fell : currentFell n a s) : exec (.rectStandbyCheck n) s = .next (s.rectEnter n 4).settle := by
  obtain ⟨p, sampled, idle⟩ := fell
  show execRectStandbyCheck n s = _
  rw [execRectStandbyCheck, acked]
  dsimp only
  rw [if_pos due, sampled]
  exact if_pos idle

theorem exec_rectStandbyCheck_flows {a : Nat} (acked : (s.rect n).stbyAck = some a) (due : s.rectState n = 3 ∧ a + 200000 ≤ s.tick)
    (flows : ¬currentFell n a s) : exec (.rectStandbyCheck n) s = .next (s.standbyFail n).settle := by
  show execRectStandbyCheck n s = _
  rw [execRectStandbyCheck, acked]
  dsimp only
  rw [if_pos due]
  split
  case h_1 p sampled => exact if_neg (mt (currentFell_iff sampled).mpr flows)
  case h_2 => rfl

theorem exec_rectFaultClearTimer_clear {t : Nat} (clear : (s.rect n).clearAt = some t) : exec (.rectFaultClearTimer n) s =
    if s.rectState n = 7 ∧ t + 1000000 ≤ s.tick then .next (s.rectJoin n).settle else .next s := by
  show execRectFaultClearTimer n s = _
  rw [execRectFaultClearTimer, clear]
  rfl

theorem exec_rectFaultClearTimer_unclear (unclear : (s.rect n).clearAt = none) : exec (.rectFaultClearTimer n) s = .next s := by
  show execRectFaultClearTimer n s = _
  rw [execRectFaultClearTimer, unclear]
  rfl

end

theorem exec_rectWakeTimeout (n : Fin 24) (s : State) : exec (.rectWakeTimeout n) s =
    if s.rectState n = 5 ∧ (s.rect n).since + 100000 * s.get SHR_RAMP_ON_TIMEOUT ≤ s.tick
    then .next ((s.rectEnter n 7).event .rectFaulted (objRef 3 n.val) []).guard.settle else .next s := rfl

theorem exec_rectSilent (n : Fin 24) (s : State) : exec (.rectSilent n) s =
    if s.rectState n ≠ 0 ∧ s.rectState n ≠ 6 ∧ (s.rect n).lastResp + 1000 * s.get SHR_TIMING_SILENT_MS ≤ s.tick
    then .next ((s.rectEnter n 6).event .rectSilent (objRef 3 n.val) []).guard.settle else .next s := rfl

/-! ### Loss curves (R248) -/

theorem exec_clearCurve_allowed {r : Requester} {n : Fin 32} {s : State} (may : s.mayWrite r SHR_CMD_CLEAR_CURVE.addr = true) :
    exec (.clearCurve r n) s = .next ((s.touch r).onRect n
      (fun s n => (s.setRect n { s.rect n with curve := Vector.replicate 16 {}, lastP := none }).showCurve n)) :=
  congrArg Host.Outcome.next (State.gate_ok may)

theorem exec_curveStore (s : State) : exec .curveStore s =
    if s.shr.storedAt + 1000000 * s.get SHR_LEARN_STORE_S ≤ s.tick ∨ (s.power = .ship ∧ s.shr.storedAt < s.powerSince)
    then .next s.storeCurves else .next s := rfl

/-! ### Allocations (R249, R250, R257) -/

theorem exec_allocNow_allowed {r : Requester} {s : State} (may : s.mayWrite r SHR_CMD_ALLOC_NOW.addr = true) : exec (.allocNow r) s =
    .next ((s.touch r).iff (s.touch r).efficiency (fun s => { s with shr := { s.shr with allocNow := true } })) :=
  congrArg Host.Outcome.next (State.gate_ok may)

/-- An allocation is neither due nor asked for, or the unit is not the one to make it. -/
def allocationWaits (s : State) : Bool := !(decide (s.tick % 200000 = 0) || s.shr.allocNow) || !s.full || !s.pairPrimary

/-- The bound rectifiers take a learning sample where the time of one has come (R247), and the request of ALLOC_NOW is taken. -/
def allocationBegun (s : State) : State :=
  let t := s.iff (decide (s.tick % 200000 = 0) && s.on SHR_MODE_LEARN_EN)
    (fun s => s.each ((List.finRange 24).filter (fun n => s.rectState n != 0)) (fun s n => (s.learn n).showCurve n))
  { t with shr := { t.shr with allocNow := false } }

/-- A solve begins; one that still ran is skipped and counted. -/
def solveBegun (s : State) : State :=
  let t := s.iff s.shr.solving.isSome (fun s => s.inc SHR_ALLOC_CNT_SKIPPED)
  { t with shr := { t.shr with solving := some t.solve } }

theorem exec_allocationStart (s : State) : exec .allocationStart s =
    if allocationWaits s then .next s
    else if !(allocationBegun s).efficiency then .next (allocationBegun s)
    else .next (solveBegun (allocationBegun s)) := rfl

section
variable {s : State}

theorem exec_allocationResult_unsolved (unsolved : s.shr.solving = none) : exec .allocationResult s = .next s := by
  show execAllocationResult s = _
  rw [execAllocationResult, unsolved, done]

theorem exec_allocationResult_solved {a : AllocTarget} (solved : s.shr.solving = some a) : exec .allocationResult s =
    .next { s with shr := { s.shr with solving := none, ready := if s.efficiency then some a else none } } := by
  show execAllocationResult s = _
  rw [execAllocationResult, solved]
  rfl

end

/-- Settles O30, command by command, by the equation of its `exec` and the form of it that the clause's conditions choose. The clauses rest on choices
of the model: the poll periods of a bound rectifier are free values (log entry 1), and what makes an entry a rectifier, the guard with EN 0, the rounding
of the learned means, and the fractions of an application are those of log entry 76. -/
theorem sharingCommands : Obligations.SharingCommands := by
  unfold Obligations.SharingCommands
  refine ⟨?cycleNot, ?cycle, ?bind, ?bindNot, ?standbyUnacked, ?standby, ?standbyFlows, ?standbyUnsampled, ?standbyEarly, ?wake, ?wakeNot,
    ?silent, ?silentNot, ?clear, ?clearNot, ?unclear, ?unbind, ?clearCurve, ?allocNow, ?retry, ?startWaits, ?startEqual, ?start,
    ?resultNone, ?result, ?store, ?storeNot⟩
  case cycleNot => exact fun s not => (exec_trimCycle s).trans (if_pos not)
  case cycle => exact fun s due => (exec_trimCycle s).trans (if_neg due)
  case bind => exact fun n e s free => (exec_rectBind n e s).trans (if_pos free)
  case bindNot => exact fun n e s not => (exec_rectBind n e s).trans (if_neg not)
  case standbyUnacked => exact fun n s unacked => exec_rectStandbyCheck_unacked unacked
  case standby => exact fun n s a p acked due sampled fell => exec_rectStandbyCheck_fell acked due ((currentFell_iff sampled).mpr fell)
  case standbyFlows => exact fun n s a p acked due sampled flows => exec_rectStandbyCheck_flows acked due (mt (currentFell_iff sampled).mp flows)
  case standbyUnsampled => exact fun n s a acked due unsampled => exec_rectStandbyCheck_flows acked due (not_currentFell_of_unsampled unsampled)
  case standbyEarly => exact fun n s a acked early => exec_rectStandbyCheck_early acked early
  case wake => exact fun n s late => (exec_rectWakeTimeout n s).trans (if_pos late)
  case wakeNot => exact fun n s not => (exec_rectWakeTimeout n s).trans (if_neg not)
  case silent => exact fun n s late => (exec_rectSilent n s).trans (if_pos late)
  case silentNot => exact fun n s not => (exec_rectSilent n s).trans (if_neg not)
  case clear => exact fun n s t clear due => (exec_rectFaultClearTimer_clear clear).trans (if_pos due)
  case clearNot => exact fun n s t clear not => (exec_rectFaultClearTimer_clear clear).trans (if_neg not)
  case unclear => exact fun n s unclear => exec_rectFaultClearTimer_unclear unclear
  case unbind => exact fun r n s may => exec_rectUnbind_allowed may
  case clearCurve => exact fun r n s may => exec_clearCurve_allowed may
  case allocNow => exact fun r s may => exec_allocNow_allowed may
  case retry => exact fun r n s may => exec_rectRetry_allowed may
  case startWaits => exact fun s waits => (exec_allocationStart s).trans (if_pos waits)
  case startEqual => exact fun s starts equal => (exec_allocationStart s).trans ((if_neg starts).trans (if_pos equal))
  case start => exact fun s starts efficient => (exec_allocationStart s).trans ((if_neg starts).trans (if_neg efficient))
  case resultNone => exact fun s unsolved => exec_allocationResult_unsolved unsolved
  case result => exact fun s a solved => exec_allocationResult_solved solved
  case store => exact fun s due => (exec_curveStore s).trans (if_pos due)
  case storeNot => exact fun s not => (exec_curveStore s).trans (if_neg not)

end Sys2Proof.Proofs
end

section
/-! The commands of power capping (file 10: R263, R267, R273, R274, R276): what a comparison forms, what a slot of the CAPLINE sends and reads back,
and what a test decides. -/

namespace Sys2Proof.Proofs

open Sys2Proof.Machine

/-! ### Comparisons (R259, R263, R274) -/

section
variable {bus : Twice BusSamples} {a b : List (Twice Int × Twice Int)} {s : State}

/-- The ten latest products of half `h`: those of the conversions `l` that the command brings, newest first, before the `old` ones (log entry 63). -/
def windowProducts (h : Fin 2) (l : List (Twice Int × Twice Int)) (old : List (Option Int)) (s : State) : List (Option Int) :=
  (l.map (fun x => s.halfPower h x.1 x.2) ++ old.drop l.length).take 10

/-- The bus power over the window of this comparison. -/
def comparedPower (a b : List (Twice Int × Twice Int)) (s : State) : Option Int :=
  s.busPower (windowProducts 0 a (s.cap.prods.map Prod.fst) s) (windowProducts 1 b (s.cap.prods.map Prod.snd) s)

/-- In HALT the end of the tick still judges, but without a power. -/
theorem exec_capComparison (bus : Twice BusSamples) (a b : List (Twice Int × Twice Int)) (s : State) : exec (.capComparison bus a b) s =
    if s.pairTick % 10 ≠ 0 ∨ s.boot.g.isNone ∨ s.power = .ship then .next s
    else if s.power = .halt then .next { s with cap := { s.cap with judge := some none } }
    else .next ((s.busSamples bus).capCompare (comparedPower a b s)) := rfl

theorem capComparison_runs (atTen : s.pairTick % 10 = 0) (begun : s.boot.g.isSome = true) (halted : s.power = .halt) :
    Runs (.capComparison bus a b) s (fun t => t = { s with cap := { s.cap with judge := some none } }) := by
  have compares : ¬(s.pairTick % 10 ≠ 0 ∨ s.boot.g.isNone ∨ s.power = .ship) := by
    simp [atTen, Option.isSome_iff_ne_none.mp begun, halted]
  exact ⟨_, (exec_capComparison bus a b s).trans ((if_neg compares).trans (if_pos halted)), rfl⟩

end

/-! ### Slots of the CAPLINE (R267, R268, R273) -/

section
variable {bad : BitVec 64} {f : CapFrame} {rest : List CapFrame} {s : State}

/-- An own slot that begins after the decision, in which the driver may send. -/
def slotOpen (s : State) : Bool := s.boot.g.isSome && s.ownSlot && s.capTx && decide (s.cap.lastDecision < s.tick)

/-- The epoch that a frame carries. -/
def frameEpoch (s : State) : Nat := if s.solo then 0 else s.hlk.epoch % 16

/-- Frame `f` goes out in this slot with the epoch now in force, and `rest` waits. -/
def frameSent (f : CapFrame) (rest : List CapFrame) (s : State) : State :=
  let t := ((s.incWrap CAP_TX_CNT_FRAMES).set CAP_LEVEL_EPOCH (frameEpoch s)).zoneSent f
  { t with cap := { t.cap with queue := rest, slotAt := some t.tick, line := f.bytes (frameEpoch s) } }

theorem frameSent_slotAt (f : CapFrame) (rest : List CapFrame) (s : State) : (frameSent f rest s).cap.slotAt = some s.tick :=
  congrArg some (State.zoneSent_kept (m0 := ⟨false, false⟩) (State.set_kept (State.incWrap_kept (Kept.refl s)))).tick

/-- A mismatch is counted, and the first of a run is recorded. -/
def mismatchCounted (s : State) : State := (s.inc CAP_LINE_STAT_MISMATCH).iff (s.cap.badRun == 0) (fun s => s.event .caplineMismatch)

/-- The run of mismatches is longer by one. -/
def mismatchRunOn (s : State) : State := { s with cap := { s.cap with badRun := s.cap.badRun + 1 } }

/-- A frame that read back differently: the third in a row is a line fault. -/
def mismatchNoted (s : State) : State :=
  let t := mismatchRunOn (mismatchCounted s)
  t.iff (decide (3 ≤ t.cap.badRun)) (fun s => s.setB CAP_STAT_LINE_FAULT true)

/-- A frame that read back as it was sent ends the run of mismatches and the line fault. -/
def mismatchEnded (s : State) : State :=
  { (s.setB CAP_STAT_LINE_FAULT false) with cap := { s.cap with badRun := 0 } }

theorem readBack_eq (s : State) (bad : Bool) : s.readBack bad = if bad then mismatchNoted s else mismatchEnded s := rfl

theorem iff_cap {b : Bool} {g : State → State} (kept : (g s).cap = s.cap) : (s.iff b g).cap = s.cap := by
  unfold State.iff
  split
  · exact kept
  · rfl

theorem mismatchCounted_cap (s : State) : (mismatchCounted s).cap = s.cap := iff_cap rfl

theorem mismatchNoted_cap (s : State) : (mismatchNoted s).cap = { s.cap with badRun := s.cap.badRun + 1 } := by
  rw [mismatchNoted, iff_cap rfl, mismatchRunOn, mismatchCounted_cap]

/-- Reading a frame back moves the run of mismatches, and nothing else of the block of capping. -/
theorem readBack_cap (s : State) (bad : Bool) : (s.readBack bad).cap = { s.cap with badRun := if bad then s.cap.badRun + 1 else 0 } := by
  cases bad with
  | true => exact mismatchNoted_cap s
  | false => rfl

theorem exec_caplineSlot_closed (closed : ¬slotOpen s) : exec (.caplineSlot bad) s = .next s := if_neg closed

theorem exec_caplineSlot_empty (opens : slotOpen s) (empty : s.cap.queue = []) : exec (.caplineSlot bad) s = .next s := by
  refine (if_pos opens).trans ?_
  rw [empty, done]

theorem exec_caplineSlot_frame (opens : slotOpen s) (queued : s.cap.queue = f :: rest) : exec (.caplineSlot bad) s =
    .next ((frameSent f rest s).readBack (bad != 0)) := by
  refine (if_pos opens).trans ?_
  rw [queued]
  rfl

theorem exec_caplineSlot_mismatch (opens : slotOpen s) (queued : s.cap.queue = f :: rest) (differs : bad != 0) : exec (.caplineSlot bad) s =
    .next (mismatchNoted (frameSent f rest s)) := by
  rw [exec_caplineSlot_frame opens queued, readBack_eq, if_pos differs]

theorem exec_caplineSlot_match (opens : slotOpen s) (queued : s.cap.queue = f :: rest) (agrees : ¬bad != 0) : exec (.caplineSlot bad) s =
    .next (mismatchEnded (frameSent f rest s)) := by
  rw [exec_caplineSlot_frame opens queued, readBack_eq, if_neg agrees]

/-- However it reads back, the frame has left the queue and stands on the line, once in this tick. -/
theorem caplineSlot_runs (opens : slotOpen s) (queued : s.cap.queue = f :: rest) :
    Runs (.caplineSlot bad) s (fun t => t.cap.queue = rest ∧ t.cap.line = f.bytes (frameEpoch s) ∧ t.cap.slotAt = some s.tick ∧ t.tick = s.tick) := by
  have runs := exec_caplineSlot_frame (bad := bad) opens queued
  refine ⟨_, runs, ?_, ?_, ?_, (exec_kept _ s rfl _ runs).tick⟩ <;> rw [readBack_cap]
  · rfl
  · rfl
  · exact frameSent_slotAt f rest s

end

theorem exec_caplineFrameRx (s : State) : exec .caplineFrameRx s =
    if s.boot.g.isNone || s.slotMine then .next s else .next (s.incWrap CAP_LINE_STAT_RX_OTHER) := rfl

/-! ### Tests and probes (R274, R276) -/

section
variable {r : Requester} {s : State}

theorem exec_capTest_allowed (may : s.mayWrite r CAP_CMD_TEST.addr = true) : exec (.capTest r) s = .next (s.touch r).capTest :=
  congrArg Host.Outcome.next (State.gate_ok may)

theorem capTest_refused (throttled : s.capL ≠ 0 ∨ s.power = .halt) : s.capTest = s.event .capTestRefused 0 [s.capL] := if_pos throttled

theorem capTest_decides (free : ¬(s.capL ≠ 0 ∨ s.power = .halt)) : s.capTest = s.capDecide := if_neg free

theorem exec_probeNow_allowed (may : s.mayWrite r CAP_CMD_PROBE_NOW.addr = true) : exec (.probeNow r) s = .next (s.touch r).capProbe :=
  congrArg Host.Outcome.next (State.gate_ok may)

end

/-- Settles O31, command by command, by the equation of its `exec` and the form of it that the clause's conditions choose. The clauses rest on a choice
of the model: a comparison brings the conversions of those ticks of its window that no command brought before (log entry 63). -/
theorem capCommands : Obligations.CapCommands := by
  unfold Obligations.CapCommands
  refine ⟨?compareNot, ?compareHalted, ?compare, ?compareRuns, ?slotEmpty, ?slotMismatch, ?slotMatch, ?slotClosed, ?slotRuns, ?frameOwn, ?frameOther,
    ?testRefused, ?test, ?probe⟩
  case compareNot => exact fun bus a b s not => (exec_capComparison bus a b s).trans (if_pos not)
  case compareHalted => exact fun bus a b s compares halted => (exec_capComparison bus a b s).trans ((if_neg compares).trans (if_pos halted))
  case compare => exact fun bus a b s compares runs => (exec_capComparison bus a b s).trans ((if_neg compares).trans (if_neg runs))
  case compareRuns => exact fun bus a b s atTen begun halted => capComparison_runs atTen begun halted
  case slotEmpty => exact fun bad s opens empty => exec_caplineSlot_empty opens empty
  case slotMismatch => exact fun bad s f rest opens queued differs => exec_caplineSlot_mismatch opens queued differs
  case slotMatch => exact fun bad s f rest opens queued agrees => exec_caplineSlot_match opens queued agrees
  case slotClosed => exact fun bad s closed => exec_caplineSlot_closed closed
  case slotRuns =>
    intro bad f rest s begun own may decided queued
    have opens : slotOpen s := by simp [slotOpen, begun, own, may, decided]
    exact caplineSlot_runs opens queued
  case frameOwn => exact fun s own => (exec_caplineFrameRx s).trans (if_pos own)
  case frameOther => exact fun s other => (exec_caplineFrameRx s).trans (if_neg other)
  case testRefused =>
    intro r s may throttled
    rw [exec_capTest_allowed may, capTest_refused throttled]
  case test =>
    intro r s may free
    rw [exec_capTest_allowed may, capTest_decides free, State.capDecide]
  case probe =>
    intro r s may
    rw [exec_probeNow_allowed may, State.capProbe]

end Sys2Proof.Proofs
end

section
/-! The commands of the battery estimator (file 11: R277, R286, R289, R292 to R294, R300, R304): what each runs, what a 2 s mean does, and how a
window of the impedance tracking ends. -/

namespace Sys2Proof.Proofs

open Sys2Proof.Machine

/-! ### The update and the records (R277, R300) -/

/-- The strings that are configured and counted. -/
def countedStrs (s : State) : List (Fin 8) := s.confStrs.filter (fun n => (s.str n).live)

theorem exec_batteryUpdate (s : State) : exec .batteryUpdate s =
    if s.tick % 10000 ≠ 0 ∨ s.boot.g.isNone then .next s
    else .next (s.tblTake.each (countedStrs s.tblTake) State.strUpdate).chargeReq.settle := rfl

theorem exec_batRecordWrite (s : State) : exec .batRecordWrite s =
    if s.tick % 60000000 ≠ 0 ∨ s.tick = 0 ∨ s.boot.g.isNone then .next s else .next (s.each (countedStrs s) State.strSave) := rfl

/-! ### EMPTY (R286) -/

theorem exec_emptyEnd (n : Fin 8) (s : State) : exec (.emptyEnd n) s =
    if s.strEmpty n && s.voltsHigh n && s.lasted (s.str n).highSince (s.sdQual n)
    then .next ((s.setBit BAT_CONN_EMPTY n.val false).showState n) else .next s := rfl

/-! ### Means, rest points and the age of a learned set (R289, R292, R293, R304) -/

/-- The charge of the last 2 s, in the units of `chargeLevel`. -/
def chargeMoved (s : State) (n : Fin 8) : Nat := 10 * (s.integral n - (s.str n).last2s).natAbs

/-- The charge that a current of `c` thousandths of the nominal capacity an hour moves in 2 s. -/
def chargeLevel (s : State) (n : Fin 8) (c : Nat) : Nat := 2 * s.get AFE_SHUNT_SHUNT n.val * c * s.get BAT_STR_CFG_Q_NOM n.val

/-- The perturbation pauses where a CLOSED string's mean is below PERT_HOLD. -/
def meanMarked (s : State) : State :=
  let low := s.closedStrs.any (fun n => decide (chargeMoved s n < chargeLevel s n (s.get BAT_PERT_PERT_HOLD)))
  { s with bat := { s.bat with meanAt := s.tick, paused := low || s.bat.paused, lowAt := if low then s.tick else s.bat.lowAt } }

/-- A mean below I_REST adds to a string's rest, and any other ends it. -/
def restMarked (s : State) (n : Fin 8) : State :=
  let rest := decide (chargeMoved s n < chargeLevel s n (s.get BAT_REST_I_REST))
  let t := s.iff (!rest) (fun s => s.setBit BAT_CONN_REST n.val false)
  t.setStr n { t.str n with last2s := t.integral n, below := if rest then (t.str n).below + 1 else 0, taken := rest && (t.str n).taken }

theorem exec_mean2s (s : State) : exec .mean2s s =
    if s.tick % 2000000 ≠ 0 ∨ s.tick = 0 ∨ s.boot.g.isNone ∨ s.bat.meanAt = s.tick then .next s
    else .next ((meanMarked s).each (meanMarked s).confStrs restMarked) :=
  apply_ite Host.Outcome.next _ _ _

/-- The 2 s means of the tick and the samples of STR_V that no minute took yet. -/
def minuteSampled (s : State) : State := s.means2s.each s.confStrs State.strSample

/-- The strings that had a sample in the minute. -/
def sampledStrs (s : State) : List (Fin 8) := s.confStrs.filter (fun n => (s.str n).vCnt != 0)

/-- A rest point is due at the end of the tick. -/
def restFound (s : State) (n : Fin 8) : State :=
  (s.setStr n { s.str n with taken := true, restDue := true }).setBit BAT_CONN_REST n.val true

/-- The means of the minute, and the rest points that qualify by them. -/
def minuteClosed (s : State) : State :=
  let t := s.each (sampledStrs s) State.minuteMean
  t.each ((sampledStrs s).filter t.restOk) restFound

theorem exec_minuteMean (x : Unit) (s : State) : exec (.minuteMean x) s =
    if s.tick % 60000000 ≠ 0 ∨ s.tick = 0 ∨ s.boot.g.isNone then .next s else .next (minuteClosed (minuteSampled s)) := rfl

theorem exec_pertResume (s : State) : exec .pertResume s =
    if s.bat.paused ∧ s.bat.lowAt + 60000000 ≤ s.tick then .next { s with bat := { s.bat with paused := false } } else .next s := rfl

/-- A wake rest point is taken with two steady means, or given up 3 minutes from tick g. -/
def wakeRestJudged (s : State) (n : Fin 8) : State :=
  let t := s.takeRest n ((s.str n).means.headD (0, 1)) true
  if s.strPresent n && !s.noSoc n && s.steadyMeans (s.str n).means then t.setStr n { t.str n with wakeRest := false }
  else if s.boot.g.getD 0 + 180000000 ≤ s.tick then s.setStr n { s.str n with wakeRest := false }
  else s

theorem exec_wakeRestGiveup (s : State) : exec .wakeRestGiveup s =
    .next (s.each ((List.finRange 8).filter (fun n => (s.str n).wakeRest)) wakeRestJudged) := rfl

/-- A day has passed since the last that was counted. -/
def dayPassed (n : Fin 8) (s : State) : Prop := s.strOn n ∧ (s.str n).live = true ∧ (s.str n).dayAt + 86400000000 ≤ s.tick

/-- The learned set of string `n` is a day older. -/
def dayCounted (n : Fin 8) (s : State) : State :=
  let x := s.str n
  s.setStr n { x with set_ := { x.set_ with days := min 255 (x.set_.days + 1) }, dayAt := x.dayAt + 86400000000 }

theorem exec_daysIncrement_due {n : Fin 8} {s : State} (due : dayPassed n s) : exec (.daysIncrement n) s = .next ((dayCounted n s).showSet n) :=
  if_pos due

theorem exec_daysIncrement_early {n : Fin 8} {s : State} (early : ¬dayPassed n s) : exec (.daysIncrement n) s = .next s := if_neg early

/-! ### Windows of the impedance tracking (R294) -/

/-- The strings whose window ends: those CLOSED, and those with a sample of the current. -/
def windowStrs (s : State) : List (Fin 8) := (List.finRange 8).filter (fun n => s.strClosed n || (s.str n).corr.iCnt != 0)

/-- Impedance tracking is frozen with EN 0 (R306). -/
def windowTracked (s : State) : State := s.iff (s.on BAT_CTRL_EN) (fun s => s.each (windowStrs s) State.demod)

/-- The next window begins with no sums, and with nothing against it. -/
def windowRestarted (s : State) : State :=
  let t := s.each (List.finRange 8) (fun s n => s.setStr n { s.str n with corr := {} })
  { t with bat := { t.bat with winBad := false, winStr := 0 } }

theorem exec_demodWindowEnd (x : Unit) (s : State) : exec (.demodWindowEnd x) s =
    if s.pairTick % 60000000 ≠ 0 ∨ s.boot.g.isNone then .next s
    else .next (windowRestarted (windowTracked (s.each s.confStrs State.strSample))) := rfl

theorem demodWindowEnd_runs {x : Unit} {s : State} (ended : s.pairTick % 60000000 = 0) (begun : s.boot.g.isSome = true) :
    Runs (.demodWindowEnd x) s (fun t => t.bat.winBad = false ∧ t.bat.winStr = 0 ∧ t.tick = s.tick) := by
  have due : ¬(s.pairTick % 60000000 ≠ 0 ∨ s.boot.g.isNone) := by simp [ended, Option.isSome_iff_ne_none.mp begun]
  have runs := (exec_demodWindowEnd x s).trans (if_neg due)
  exact ⟨_, runs, rfl, rfl, (exec_kept _ s rfl _ runs).tick⟩

/-- Settles O32, command by command, by the equation of its `exec` and the branch that the clause's conditions choose. The clauses rest on choices of
the model (log entry 77): the sums of a minute and of a window are the machine's own, a sample's time is the tick it was converted in, and a rest
point is judged at the end of the tick. -/
theorem batteryEstimation : Obligations.BatteryEstimation := by
  unfold Obligations.BatteryEstimation
  refine ⟨?updateNot, ?update, ?emptyOver, ?emptyStays, ?meanNot, ?mean, ?minuteNot, ?minute, ?resume, ?resumeNot, ?windowNot, ?window, ?windowRuns,
    ?wakeRest, ?day, ?dayNot, ?recordNot, ?record⟩
  case updateNot => exact fun s not => (exec_batteryUpdate s).trans (if_pos not)
  case update =>
    intro s due
    rw [exec_batteryUpdate, if_neg due, State.chargeReq, countedStrs]
  case emptyOver =>
    intro n s ended
    rw [exec_emptyEnd, if_pos ended, State.showState]
  case emptyStays => exact fun n s stays => (exec_emptyEnd n s).trans (if_neg stays)
  case meanNot => exact fun s not => (exec_mean2s s).trans (if_pos not)
  case mean => exact fun s due => (exec_mean2s s).trans (if_neg due)
  case minuteNot => exact fun x s not => (exec_minuteMean x s).trans (if_pos not)
  case minute => exact fun x s due => (exec_minuteMean x s).trans (if_neg due)
  case resume => exact fun s due => (exec_pertResume s).trans (if_pos due)
  case resumeNot => exact fun s not => (exec_pertResume s).trans (if_neg not)
  case windowNot => exact fun x s not => (exec_demodWindowEnd x s).trans (if_pos not)
  case window => exact fun x s due => (exec_demodWindowEnd x s).trans (if_neg due)
  case windowRuns => exact fun x s ended begun => demodWindowEnd_runs ended begun
  case wakeRest => exact fun s => exec_wakeRestGiveup s
  case day =>
    intro n s due
    rw [exec_daysIncrement_due due, State.showSet, dayCounted]
  case dayNot => exact fun n s early => exec_daysIncrement_early early
  case recordNot => exact fun s not => (exec_batRecordWrite s).trans (if_pos not)
  case record => exact fun s due => (exec_batRecordWrite s).trans (if_neg due)

end Sys2Proof.Proofs
end

section
/-! The commands of the strings' connection (file 11: R279, R280, R295 to R298): what each runs, and what a request to open or close a string, a
commit of a table and a restore answer in each form. -/

namespace Sys2Proof.Proofs

open Sys2Proof.Machine

/-! ### Identity and presence (R295) -/

/-- The latest conversion of STR_ID. -/
def idMeasured (n : Fin 8) (s : State) : MonResult := s.afe.latest.get (Fin.ofNat 64 (48 + n.val))

/-- The latest conversion of STR_ID says something of the identity and was not judged yet (log entry 70). -/
def idUnjudged (n : Fin 8) (s : State) : Bool :=
  s.strOn n && (idMeasured n s).valid && s.get BAT_STR_CFG_ID_MODE n.val != 0 && (s.str n).idTick != some (idMeasured n s).tick && s.idBias n

/-- The run of conversions that agree goes on, or starts anew with what this one found. -/
def idJudged (n : Fin 8) (s : State) : State :=
  let x := s.str n
  let f := identify (s.get BAT_STR_CFG_ID_MODE n.val) (idMeasured n s).code
  s.setStr n { x with idFound := f, idRun := if x.idFound = f then min 5 (x.idRun + 1) else 1, idTick := some (idMeasured n s).tick }

section
variable {n : Fin 8} {s : State}

theorem exec_strIdConversion_changes (unjudged : idUnjudged n s) (due : (idJudged n s).presenceDue n) :
    exec (.strIdConversion n) s = .next ((idJudged n s).presence n).settle := (if_pos unjudged).trans (if_pos due)

theorem exec_strIdConversion_stands (unjudged : idUnjudged n s) (stands : ¬(idJudged n s).presenceDue n) :
    exec (.strIdConversion n) s = .next (idJudged n s) := (if_pos unjudged).trans (if_neg stands)

theorem exec_strIdConversion_judged (judged : ¬idUnjudged n s) : exec (.strIdConversion n) s = .next s := if_neg judged

/-- Each form of the conversion answers a next state, at the same tick and in the same power state. -/
theorem strIdConversion_runs : Runs (.strIdConversion n) s (fun t => t.tick = s.tick ∧ t.power = s.power) := by
  have answers : ∃ t, exec (.strIdConversion n) s = .next t := by
    by_cases unjudged : idUnjudged n s
    · by_cases due : (idJudged n s).presenceDue n
      · exact ⟨_, exec_strIdConversion_changes unjudged due⟩
      · exact ⟨_, exec_strIdConversion_stands unjudged due⟩
    · exact ⟨_, exec_strIdConversion_judged unjudged⟩
  obtain ⟨t, runs⟩ := answers
  exact ⟨t, runs, (exec_kept _ s rfl t runs).tick, (exec_stays _ s t rfl runs).1⟩

end

theorem exec_presenceChange (n : Fin 8) (s : State) : exec (.presenceChange n) s =
    if s.presenceDue n then .next (s.presence n).settle else .next s := rfl

/-! ### Opening and closing (R297, R298) -/

section
variable {n : Fin 8} {s : State}

theorem strOpen_unowned {cause : Nat} (unowned : !s.strsOwned.testBit n.val) : s.strOpen n cause = s := if_pos unowned

/-- The cause joins those that hold string `n` open; that of a CLOSED string, which is open from this tick, is the one shown. -/
def causeHolds (n : Fin 8) (cause : Nat) (s : State) : State :=
  let x := s.str n
  let was := s.strClosed n
  let t := s.setStr n { x with
    causes := x.causes ||| 2 ^ cause, openedAt := if was then s.tick else x.openedAt, agreeSince := none,
    exhOpen := if was then cause == 3 else x.exhOpen }
  t.iff (was || x.causes == 0) (fun s => s.set BAT_STR_STAT_OPEN_CAUSE cause n.val)

/-- The disconnect opens; of a CLOSED string that is recorded, and a trip is a trigger. -/
def disconnected (n : Fin 8) (cause : Nat) (was : Bool) (s : State) : State :=
  let t := s.iff (was && cause == 6) (fun s => s.trigger 12)
  (((t.setBit BAT_CONN_CLOSED n.val false).setBit BAT_CONN_EMPTY n.val false).iff was
    (fun s => s.event .stringOpen (objRef 4 n.val) [cause])).showState n

theorem strOpen_owned {cause : Nat} (owned : ¬(!s.strsOwned.testBit n.val)) :
    s.strOpen n cause = disconnected n cause (s.strClosed n) (causeHolds n cause s) := if_neg owned

end

theorem exec_stringTrip (n : Fin 8) (s : State) : exec (.stringTrip n) s =
    if s.overTrip n && s.lasted (s.str n).tripSince (250 * s.get BAT_STR_LIM_TRIP_T n.val)
    then .next (s.strOpen n 6).settle else .next s := rfl

theorem exec_stringReconnect (n : Fin 8) (s : State) : exec (.stringReconnect n) s =
    if s.mayClose n false && s.agrees n && (s.str n).closing.isNone then .next (s.setStr n { s.str n with closing := some false })
    else .next s := rfl

section
variable {r : Requester} {n : Fin 8} {s : State}

/-- What BAT_OPEN does once R71 lets it pass. -/
def openAsked (r : Requester) (n : Fin 8) (s : State) : State :=
  if s.overruled r (keyStr n.val) then s
  else (s.noteWrite r (keyStr n.val) 1).iff (s.strOn n) (fun s => (s.strOpen n 1).settle)

theorem exec_batOpen_allowed (may : s.mayWrite r BAT_CMD_OPEN.addr = true) : exec (.batOpen r n) s = .next (openAsked r n (s.touch r)) :=
  congrArg Host.Outcome.next (State.gate_ok may)

theorem openAsked_overruled (overruled : s.overruled r (keyStr n.val)) : openAsked r n s = s := if_pos overruled

theorem openAsked_taken (taken : ¬s.overruled r (keyStr n.val)) :
    openAsked r n s = (s.noteWrite r (keyStr n.val) 1).iff (s.strOn n) (fun s => (s.strOpen n 1).settle) := if_neg taken

/-- The requester opened the string before in this tick (log entry 75). -/
def openedInTick (r : Requester) (n : Fin 8) (s : State) : Bool := s.wrote.any (fun x => x.at_ == keyStr n.val && x.who == who r && x.w == 1)

/-- What BAT_CLOSE does once R71 lets it pass. -/
def closeAsked (r : Requester) (n : Fin 8) (s : State) : State :=
  if openedInTick r n s then s.event .batCloseRefused (objRef 4 n.val)
  else s.ranked r (keyStr n.val) (fun s => s.batClose n)

theorem exec_batClose_allowed (may : s.mayWrite r BAT_CMD_CLOSE.addr = true) : exec (.batClose r n) s = .next (closeAsked r n (s.touch r)) :=
  congrArg Host.Outcome.next (State.gate_ok may)

theorem closeAsked_opened (opened : openedInTick r n s) : closeAsked r n s = s.event .batCloseRefused (objRef 4 n.val) := if_pos opened

theorem closeAsked_unopened (unopened : ¬openedInTick r n s) : closeAsked r n s = s.ranked r (keyStr n.val) (fun s => s.batClose n) :=
  if_neg unopened

theorem exec_strEnWrite_allowed {w : Word} {row : RegRow} (may : s.mayWrite r BAT_CFG_STR_EN.addr = true)
    (found : findRow BAT_CFG_STR_EN.addr = some row) : exec (.strEnWrite r w) s = .next ((s.touch r).classC r row BAT_CFG_STR_EN.addr 0 w).1 :=
  congrArg Host.Outcome.next (configWrite_allowed may found)

/-! ### Reseeds and restores (R296) -/

theorem exec_batReseed_allowed (may : s.mayWrite r BAT_CMD_RESEED.addr = true) : exec (.batReseed r n) s =
    .next (if (s.touch r).strOn n then (s.touch r).reseed n else s.touch r) := congrArg Host.Outcome.next (State.gate_ok may)

theorem exec_batRestore_allowed (may : s.mayWrite r BAT_CMD_RESTORE.addr = true) : exec (.batRestore r n) s =
    .next (if (s.touch r).strOn n then (s.touch r).exchange n 2 else s.touch r) := congrArg Host.Outcome.next (State.gate_ok may)

/-- Without a set in the archive slot there is nothing to exchange (log entry 77). -/
theorem exchange_none {kind : Nat} (empty : (s.str n).archive = none) : s.exchange n kind = s := by
  rw [State.exchange, empty]

/-- The archived set `l` takes the place of the present one, which is archived. -/
def setsExchanged (n : Fin 8) (l : Learned) (s : State) : State :=
  let x := s.str n
  s.setStr n { x with set_ := l, archive := some x.set_, dayAt := s.tick, grow := 0, n := 0, tSum := 0 }

theorem exchange_some {kind : Nat} {l : Learned} (archived : (s.str n).archive = some l) :
    s.exchange n kind = (((setsExchanged n l s).clearFlags n).seedAnchor n).swapDone n kind := by
  rw [State.exchange, archived]
  rfl

/-! ### Tables (R279, R280) -/

theorem exec_batTblCommit_allowed (may : s.mayWrite r BAT_CMD_TBL_COMMIT.addr = true) : exec (.batTblCommit r) s = .next (s.touch r).batCommit :=
  congrArg Host.Outcome.next (State.gate_ok may)

/-- The set that the commands of the tables speak of has a valid edit copy. -/
def editValid (s : State) : Bool := s.tblOk (strTblEdit (s.get BAT_TBL_ADDR_SET))

/-- The set `k` is taken by the next update. -/
def tableMarked (k : Nat) (s : State) : State := { s with bat := { s.bat with tblNew := s.bat.tblNew ||| 2 ^ k } }

theorem batCommit_valid (valid : editValid s) : s.batCommit =
    let k := s.get BAT_TBL_ADDR_SET
    ((tableMarked k s).tblCopy (strTblEdit k) (strTblAct k)).showStrTblCrc.storedChange := if_pos valid

theorem batCommit_invalid (invalid : ¬editValid s) :
    s.batCommit = (s.inc BAT_CNT_TBL_REFUSED).event .batTblRefused 0 [s.get BAT_TBL_ADDR_SET] := if_neg invalid

theorem exec_batTblDataAccess_read (may : s.mayRead r BAT_TBL_DATA_DATA.addr = true) : exec (.batTblDataAccess r none) s =
    .next (s.touch r).tblRead := congrArg Host.Outcome.next (State.gateRead_ok may)

theorem exec_batTblDataAccess_write {w : Word} (may : s.mayWrite r BAT_TBL_DATA_DATA.addr = true) : exec (.batTblDataAccess r (some w)) s =
    .next ((s.touch r).tblWrite w) := congrArg Host.Outcome.next (State.gate_ok may)

end

/-- Settles O33, command by command, by the equation of its `exec` and the form of it that the clause's conditions choose. The clauses rest on choices
of the model: a conversion of STR_ID without its bias is not judged (log entry 70), a BAT_OPEN and a BAT_CLOSE of one requester in one tick are one
write, in which the close is refused (75), and a restore without a valid archive slot changes nothing (77). -/
theorem batteryConnection : Obligations.BatteryConnection := by
  unfold Obligations.BatteryConnection
  refine ⟨?idChanges, ?idStands, ?idJudged, ?idRuns, ?presence, ?presenceNot, ?openOverruled, ?opens, ?closeOpened, ?closeOverruled, ?close,
    ?reseed, ?reseedOff, ?restoreEmpty, ?restore, ?restoreOff, ?commit, ?commitRefused, ?dataRead, ?dataWrite, ?enable, ?tripUnowned, ?trip, ?tripNot,
    ?reconnect, ?reconnectNot⟩
  case idChanges => exact fun n s unjudged due => exec_strIdConversion_changes unjudged due
  case idStands => exact fun n s unjudged stands => exec_strIdConversion_stands unjudged stands
  case idJudged => exact fun n s judged => exec_strIdConversion_judged judged
  case idRuns => exact fun n s _ _ _ _ => strIdConversion_runs
  case presence => exact fun n s due => (exec_presenceChange n s).trans (if_pos due)
  case presenceNot => exact fun n s not => (exec_presenceChange n s).trans (if_neg not)
  case openOverruled =>
    intro r n s may overruled
    rw [exec_batOpen_allowed may, openAsked_overruled overruled]
  case opens =>
    intro r n s may taken
    rw [exec_batOpen_allowed may, openAsked_taken taken]
  case closeOpened =>
    intro r n s may opened
    rw [exec_batClose_allowed may, closeAsked_opened opened]
  case closeOverruled =>
    intro r n s may unopened overruled
    rw [exec_batClose_allowed may, closeAsked_unopened unopened, ranked_overruled overruled]
  case close =>
    intro r n s may unopened taken
    rw [exec_batClose_allowed may, closeAsked_unopened unopened, ranked_stands taken]
  case reseed =>
    intro r n s may configured
    rw [exec_batReseed_allowed may, if_pos configured, State.reseed, State.swapDone]
  case reseedOff =>
    intro r n s may unconfigured
    rw [exec_batReseed_allowed may, if_neg unconfigured]
  case restoreEmpty =>
    intro r n s may configured empty
    rw [exec_batRestore_allowed may, if_pos configured, exchange_none empty]
  case restore =>
    intro r n s l may configured archived
    rw [exec_batRestore_allowed may, if_pos configured, exchange_some archived, State.swapDone, setsExchanged]
  case restoreOff =>
    intro r n s may unconfigured
    rw [exec_batRestore_allowed may, if_neg unconfigured]
  case commit => exact fun r s may valid => (exec_batTblCommit_allowed may).trans (congrArg Host.Outcome.next (batCommit_valid valid))
  case commitRefused =>
    intro r s may invalid
    rw [exec_batTblCommit_allowed may, batCommit_invalid invalid]
  case dataRead =>
    rintro r w s rfl may
    rw [exec_batTblDataAccess_read may, State.tblRead]
  case dataWrite =>
    rintro r w s v rfl may
    rw [exec_batTblDataAccess_write may, State.tblWrite]
  case enable => exact fun r w s row may found => exec_strEnWrite_allowed may found
  case tripUnowned =>
    intro n s trips unowned
    rw [exec_stringTrip, if_pos trips, strOpen_unowned unowned]
  case trip =>
    intro n s trips owned
    rw [exec_stringTrip, if_pos trips, strOpen_owned owned, disconnected, causeHolds]
  case tripNot => exact fun n s not => (exec_stringTrip n s).trans (if_neg not)
  case reconnect => exact fun n s due => (exec_stringReconnect n s).trans (if_pos due)
  case reconnectNot => exact fun n s not => (exec_stringReconnect n s).trans (if_neg not)

end Sys2Proof.Proofs
end

section
/-! What a step does, of every command and of a passing tick: a command keeps what `Kept` names, loses its power or starts NORMAL, and each
invariant of a step is read off these three. -/

namespace Sys2Proof.Proofs

open Sys2Proof.Machine

/-! ### Steps -/

/-- A step is a passing tick on an empty queue, and else the command at its front. -/
theorem step_cases {s t : State} (runs : step s = .next t) : (s.pending = [] ∧ t = s.idle) ∨
    ∃ c rest, s.pending = c :: rest ∧ exec c { s with pending := rest } = .next t := by
  unfold step at runs
  split at runs
  case h_1 empty => exact .inl ⟨empty, (Host.Outcome.next.inj runs).symm⟩
  case h_2 c rest front => exact .inr ⟨c, rest, front, runs⟩

/-- Settles O1: both are the two branches of a step. -/
theorem stepRunsFrontCommand : Obligations.StepRunsFrontCommand := by
  unfold Obligations.StepRunsFrontCommand
  refine ⟨fun c s rest => rfl, fun s empty => ?_⟩
  rw [step, empty]

/-! ### Commands -/

/-- What the loss of power leaves of `s` in `t` (R99): the wake domain, NVM and the queue, with every clock at 0. -/
structure PoweredOff (s t : State) : Prop where
  regs : sparseWf regReset t.regs = true
  mem : Memory.wf s.mem = true → Memory.wf t.mem = true
  pending : t.pending = s.pending
  tick : t.tick = 0
  since : t.powerSince = 0
  g : t.boot.g = none
  free : s.free ≤ t.free

theorem powerOff_poweredOff (s : State) : PoweredOff s s.powerOff := by
  obtain ⟨regs, mem, pending, tick⟩ := State.powerOff_stores s
  exact ⟨regs, mem, pending, tick, rfl, rfl, Nat.le_refl _⟩

/-- What a command does before the loss of power is kept through it. -/
theorem PoweredOff.of_kept {m : May} {s t u : State} (before : Kept m s t) (off : PoweredOff t u) : PoweredOff s u :=
  ⟨off.regs, fun wf => off.mem (before.mem wf), off.pending.trans before.pending, off.tick, off.since, off.g, Nat.le_trans before.free off.free⟩

/-- So is what it does after it, as long as no power state is entered. -/
theorem PoweredOff.kept {b : Bool} {s t u : State} (off : PoweredOff s t) (after : Kept ⟨false, b⟩ t u) : PoweredOff s u :=
  ⟨after.regs off.regs, fun wf => after.mem (off.mem wf), after.pending.trans off.pending, after.tick.trans off.tick,
    after.stays.2.trans off.since, after.g.trans off.g, Nat.le_trans off.free after.free⟩

theorem coreLost_poweredOff (steps : Fin 65) (s : State) : PoweredOff s (coreLost steps s) := by
  have cut : Kept ⟨false, true⟩ s (s.wipeCut steps.val) := State.wipeCut_kept (Kept.refl s)
  obtain ⟨regs, mem, pending, tick, since, g, free⟩ := PoweredOff.of_kept cut (powerOff_poweredOff (s.wipeCut steps.val))
  exact ⟨regs, mem, pending, tick, since, g, free⟩

theorem coreStarted_poweredOff (testMode : Bool) (s : State) : PoweredOff s (coreStarted testMode s) := by
  obtain ⟨regs, mem, pending, tick, since, g, free⟩ := powerOff_poweredOff s
  have off : PoweredOff s { s.powerOff with boot := { s.powerOff.boot with
      por := false, brownFlag := false, prevHalt := false, woke := false, testState := testMode } } :=
    ⟨regs, mem, pending, tick, since, g, free⟩
  exact off.kept (b := true) (State.set_kept (State.set_kept (State.setB_kept (State.set_kept (Kept.refl _)))))

/-- The commands of the power-on reset. -/
def resetsPower : Instr → Bool
  | .powerOnResetAssert _ => true
  | .powerOnResetRelease _ => true
  | _ => false

/-- What a command may do from `s` to `t`: keep what `Kept` names, lose the power, or start NORMAL. -/
inductive Executed (c : Instr) (s t : State) : Prop where
  | kept (h : Kept ⟨true, true⟩ s t)
  | off (command : resetsPower c = true) (h : PoweredOff s t)
  | start (command : ∃ ef str pg rails, c = .greenwareStart ef str pg rails) (before : s.boot.g = none)
      (h : Kept ⟨false, true⟩ (startNormal s) t)

theorem powerOnResetAssert_executed {steps : Fin 65} {s t : State} (runs : exec (.powerOnResetAssert steps) s = .next t) :
    Executed (.powerOnResetAssert steps) s t := by
  rw [exec_powerOnResetAssert] at runs
  split at runs
  case isTrue =>
    cases runs
    exact .kept (kept_mk (Kept.refl s))
  case isFalse =>
    cases runs
    refine .off rfl ?_
    split
    · exact coreLost_poweredOff steps s
    · exact (coreLost_poweredOff steps s).kept (b := true) (State.wakeForget_kept (Kept.refl _))

theorem powerOnResetRelease_executed {testMode : Bool} {s t : State} (runs : exec (.powerOnResetRelease testMode) s = .next t) :
    Executed (.powerOnResetRelease testMode) s t := by
  rw [exec_powerOnResetRelease] at runs
  split at runs
  case isTrue =>
    cases runs
    exact .kept (Kept.refl s)
  case isFalse =>
    cases runs
    exact .off rfl ((coreStarted_poweredOff testMode s).kept (b := true) (State.settle_kept (Kept.refl _)))

theorem greenwareStart_executed {ef str : BitVec 8} {pg : BitVec 24} {rails : Bool} {s t : State}
    (runs : exec (.greenwareStart ef str pg rails) s = .next t) : Executed (.greenwareStart ef str pg rails) s t := by
  by_cases idle : s.boot.por = true ∨ (!s.boot.kilnLoaded) = true ∨ s.boot.g.isSome = true
  case pos =>
    rw [exec_greenwareStart, if_pos idle] at runs
    cases runs
    exact .kept (Kept.refl s)
  case neg =>
    obtain ⟨u, starts, kept⟩ := execGreenwareStart_starts (ef := ef) (str := str) (pg := pg) (rails := rails) idle
    cases starts.symm.trans runs
    simp only [not_or, Option.isSome_iff_ne_none, ne_eq, Classical.not_not] at idle
    exact .start ⟨ef, str, pg, rails, rfl⟩ idle.2.2 kept

/-- Every command does one of the three. -/
theorem exec_executed {c : Instr} {s t : State} (runs : exec c s = .next t) : Executed c s t := by
  by_cases other : restarts c = false
  case pos => exact .kept (exec_kept c s other t runs)
  case neg =>
    unfold restarts at other
    split at other
    · exact powerOnResetAssert_executed runs
    · exact powerOnResetRelease_executed runs
    · exact greenwareStart_executed runs
    · exact absurd rfl other

theorem exec_pending {c : Instr} {s t : State} (runs : exec c s = .next t) : t.pending = s.pending := by
  cases exec_executed runs with
  | kept h => exact h.pending
  | off _ h => exact h.pending
  | start _ _ h => exact h.pending

/-! ### Every command answers (O6) -/

/-- The outcome is a next state. -/
def Answers (o : Host.Outcome State Fault Refusal) : Prop := ∃ t, o = .next t

theorem answers_next (t : State) : Answers (.next t) := ⟨t, rfl⟩

theorem answers_ite {p : Prop} [Decidable p] {a b : Host.Outcome State Fault Refusal} (yes : Answers a) (no : Answers b) :
    Answers (if p then a else b) := by
  split <;> assumption

/-- Every branch of every command is a next state: the commands are grouped by how they branch, and those named in no group do not. -/
theorem exec_answers (c : Instr) (s : State) : Answers (exec c s) := by
  cases c
  case bootCheckComplete | calAttemptComplete | acFailAssert | cckScanStart | cckScanComplete | calPassStart | spareChangeover | admissionComplete |
      lineCrossing | tblDataAccess | peakComparatorTrip | shedWindowExpiry | phaseUnshed | allfire | floorHoldEnd | floorRampEnd |
      rectStandbyCheck | rectFaultClearTimer | allocationResult | caplineSlot | feedBbmComplete | feedStuck | slotMemoryExpiry | railWarning |
      resetStretchEnd | cascadeTimeout | twbTransactionStart | twbTransactionEnd | hostNotify | accessionPassStart | accessionPassDone |
      requestComplete | requestTimeout | strataCommitComplete | eventRecord | eventDrain | pairConfig | registrarStart | epochEffective |
      fencedRejoinTimer | ethLinkChange | ptpTimeout | mdioComplete | bakeComplete | wipeComplete | eccCorrectRewrite | chainBlock | moduleTimeout |
      sieveRead | telemetryRefresh =>
    dsimp only [exec, execBootCheckComplete, execCalAttemptComplete, execAcFailAssert, execCckScanStart, execCckScanComplete, execCalPassStart,
      execSpareChangeover, execAdmissionComplete, execLineCrossing, execTblDataAccess, execPeakComparatorTrip, execShedWindowExpiry,
      execPhaseUnshed, execAllfire, execFloorHoldEnd, execFloorRampEnd, execRectStandbyCheck, execRectFaultClearTimer, execAllocationResult,
      execCaplineSlot, execFeedBbmComplete, execFeedStuck, execSlotMemoryExpiry, execRailWarning, execResetStretchEnd, execCascadeTimeout,
      execTwbTransactionStart, execTwbTransactionEnd, execHostNotify, execAccessionPassStart, execAccessionPassDone, execRequestComplete,
      execRequestTimeout, execStrataCommitComplete, execEventRecord, execEventDrain, execPairConfig, execRegistrarStart, execEpochEffective,
      execFencedRejoinTimer, execEthLinkChange, execPtpTimeout, execMdioComplete, execBakeComplete, execWipeComplete, execEccCorrectRewrite,
      execChainBlock, execModuleTimeout, execSieveRead, execTelemetryRefresh]
    repeat' split
    all_goals exact answers_next _
  case powerOnResetAssert | powerOnResetRelease | kilnLoad | greenwareStart | calRetryTimer | pickupQualified | prearmClearQualified |
      returnQualified | returnLoadLost | handbackRampComplete | noStringClosedExpiry | exhaustedRecovered | efficiencyResumeTimer |
      discSourcePresent | discLockWindow | vcoreWindowEnd | crosscheckFaultDeclared | crosscheckJudge | diodeConversion | loopSampleRequest |
      laneSelfTest | relayTimeout | lineSourceLost | flywheelEnd | tblSwap | tblCrcCheck | phaseCycleStart | pwmPeriodApply | groupSoftstart |
      shortDetect | groupRetryExpiry | groupRetryReset | deEnter | referenceReachesTarget | fireEnd | allfireLockoutEnd | trimCycle | rectBind |
      rectWakeTimeout | rectSilent | curveStore | caplineFrameRx | batteryUpdate | emptyQualified | emptyEnd | minuteMean | pertResume |
      demodWindowEnd | presenceChange | stringTrip | stringReconnect | batRecordWrite | daysIncrement | wake | efuWaitExpiry | efOnRise |
      efIlimFall | inrushQualified | inrushExpiry | overcurrentExpiry | fetModelUpdate | efuRetryReset | damageDetect | feedGood | feedBad |
      feedSwitchStart | feedRevertTimer | slotInsert | slotRemove | railQualified | railEnRise | railWindowExpiry | rmonSample | faultTimerExpiry |
      fltAct0Requalify | testTimeout | dnStuck | p7EnFall | seqRetryExpiry | seqRetryReset | cascadeInputChange | thermalGroupRecompute | busFree |
      clkLowTimeout | sextTimeout | sdaHeldClear | entrySilentTimeout | deaccessionTimeout | pollDue | lossSummaryQueued | timeSave | beaconSend |
      loopSend | pairOffsetSlew | witnessPollSend | heartbeatTimeout | fenceTimeout | stableExpiry | registrarLostTimeout | sessionIdleTimeout |
      spiRead | spiWrite | spiStatus | dhcpLeaseEnd | wdgOpenPhaseEnd | wdgClosedPhaseEnd | wdgPulseEnd | wdgSuspensionEnd | tillingVisit |
      klnNextLenUpdate | helloSend | chainRetransmit | stagingRxTimeout | trialTimeout | coreBoundaryTimeout | supplyDroop | jtagExtest |
      afeMeansUpdate | dhcpLeaseObtained | listenSdaLowTimeout | supplyDroopEnd =>
    exact answers_ite (answers_next _) (answers_next _)
  case strIdConversion | stuckRetry | ptpSync | ptpAnnounce => exact answers_ite (answers_ite (answers_next _) (answers_next _)) (answers_next _)
  case strapLatch | supplyBankChange | xchkWindowEnd | coefCrcCheck | dpwmRecal | allocationStart | capComparison | busClearComplete |
      blackBoxBlock | helkarRetransmit | helkarLinkTimeout | notifySend | chainPortTimeout | coreTaskBoundary | sievePassEnd =>
    exact answers_ite (answers_next _) (answers_ite (answers_next _) (answers_next _))
  case discRateStep => exact answers_ite (answers_next _) (answers_ite (answers_next _) (answers_ite (answers_next _) (answers_next _)))
  all_goals exact answers_next _

/-- Settles O6: every command answers, and what it answers has the queue it was run with. -/
theorem execKeepsQueue : Obligations.ExecKeepsQueue := by
  unfold Obligations.ExecKeepsQueue
  intro c s
  obtain ⟨t, runs⟩ := exec_answers c s
  exact ⟨t, runs, exec_pending runs⟩

/-- The next state of a command, given in another form. -/
theorem next_of_eq {o : Host.Outcome State Fault Refusal} {t u : State} (runs : o = .next t) (same : t = u) : o = .next u :=
  runs.trans (congrArg Host.Outcome.next same)

/-! ### The canonical forms -/

theorem sound_iff {s : State} : s.sound = true ↔ sparseWf regReset s.regs = true ∧ Memory.wf s.mem = true := Bool.and_eq_true_iff

theorem exec_sound {c : Instr} {s t : State} (sound : s.sound = true) (runs : exec c s = .next t) : t.sound = true := by
  obtain ⟨regs, mem⟩ := sound_iff.mp sound
  cases exec_executed runs with
  | kept h => exact sound_iff.mpr ⟨h.regs regs, h.mem mem⟩
  | off _ h => exact sound_iff.mpr ⟨h.regs, h.mem mem⟩
  | start _ _ h => exact sound_iff.mpr ⟨h.regs regs, h.mem mem⟩

theorem idle_sound {s : State} (sound : s.sound = true) : s.idle.sound = true := by
  obtain ⟨regs, mem⟩ := sound_iff.mp sound
  obtain ⟨keepsRegs, keepsMem, -⟩ := State.idle_keeps s
  exact sound_iff.mpr ⟨keepsRegs regs, keepsMem mem⟩

/-- Settles O4, by the frame of a passing tick and of every command. -/
theorem stepKeepsSound : Obligations.StepKeepsSound := by
  unfold Obligations.StepKeepsSound
  intro s t sound runs
  rcases step_cases runs with ⟨-, rfl⟩ | ⟨c, rest, -, runs⟩
  · exact idle_sound sound
  · exact exec_sound (s := { s with pending := rest }) sound runs

/-! ### The clocks -/

/-- The entry of the power state and tick g lie no later than the tick counter. -/
def ClocksHold (s : State) : Prop := s.powerSince ≤ s.tick ∧ ∀ g, s.boot.g = some g → g ≤ s.tick

/-- The entry of the power state stays or is this tick. -/
theorem since_of_kept {m : May} {s t : State} (h : Kept m s t) : t.powerSince = s.powerSince ∨ t.powerSince = s.tick := by
  rcases h.power with ⟨-, since, -⟩ | ⟨-, -, -, since, -⟩
  · exact .inl since
  · exact .inr since

theorem ClocksHold.of_kept {m : May} {s t : State} (hold : ClocksHold s) (h : Kept m s t) : ClocksHold t := by
  obtain ⟨since, g⟩ := hold
  refine ⟨?_, fun x at_ => ?_⟩
  · have := h.tick
    rcases since_of_kept h with e | e <;> omega
  · rw [h.tick]
    exact g x (h.g.symm.trans at_)

theorem exec_clocksHold {c : Instr} {s t : State} (hold : ClocksHold s) (runs : exec c s = .next t) : ClocksHold t := by
  cases exec_executed runs with
  | kept h => exact hold.of_kept h
  | off _ h =>
    refine ⟨Nat.le_of_eq (h.since.trans h.tick.symm), fun g at_ => ?_⟩
    · rw [h.g] at at_
      cases at_
  | start _ _ h =>
    have started : ClocksHold (startNormal s) := ⟨Nat.le_refl _, fun g at_ => Nat.le_of_eq (Option.some.inj at_).symm⟩
    exact started.of_kept h

theorem idle_clocksHold {s : State} (hold : ClocksHold s) : ClocksHold s.idle := by
  obtain ⟨since, g⟩ := hold
  obtain ⟨-, -, -, tick, sameG, -, power⟩ := State.idle_keeps s
  have runsOn : s.tick ≤ s.idle.tick := by
    rw [tick]
    split <;> omega
  refine ⟨?_, fun x at_ => Nat.le_trans (g x (sameG.symm.trans at_)) runsOn⟩
  rcases power with ⟨-, same⟩ | ⟨-, -, now⟩ <;> omega

/-- Settles O5, by the frame of a passing tick and of every command. -/
theorem stepKeepsClocks : Obligations.StepKeepsClocks := by
  unfold Obligations.StepKeepsClocks
  intro s t since g runs
  rcases step_cases runs with ⟨-, rfl⟩ | ⟨c, rest, -, runs⟩
  · exact idle_clocksHold ⟨since, g⟩
  · exact exec_clocksHold (s := { s with pending := rest }) ⟨since, g⟩ runs

/-! ### The tick counter -/

theorem exec_tick {c : Instr} {s t : State} (runs : exec c s = .next t) : t.tick = s.tick ∨ (t.tick = 0 ∧ resetsPower c = true) := by
  cases exec_executed runs with
  | kept h => exact .inl h.tick
  | off command h => exact .inr ⟨h.tick, command⟩
  | start _ _ h => exact .inl h.tick

theorem resetsPower_iff {c : Instr} : resetsPower c = true ↔ (∃ n, c = .powerOnResetAssert n) ∨ ∃ b, c = .powerOnResetRelease b := by
  constructor
  · intro resets
    unfold resetsPower at resets
    split at resets
    · exact .inl ⟨_, rfl⟩
    · exact .inr ⟨_, rfl⟩
    · cases resets
  · rintro (⟨n, rfl⟩ | ⟨b, rfl⟩) <;> rfl

/-- Settles O7: a loss of power alone puts the counter at 0. -/
theorem onlyTicksMoveTheCounter : Obligations.OnlyTicksMoveTheCounter := by
  unfold Obligations.OnlyTicksMoveTheCounter
  refine ⟨fun c s t runs => ?_, fun s => ?_⟩
  · exact (exec_tick runs).imp_right fun ⟨zero, resets⟩ => ⟨zero, resetsPower_iff.mp resets⟩
  · obtain ⟨-, -, -, tick, -⟩ := State.idle_keeps s
    exact tick

/-! ### The power state (R22, R24, R25) -/

/-- The power state and the tick of its entry stay, or they go by a transition of R22, one a tick but for one that R25 puts first. -/
def PowerMoves (s t : State) : Prop :=
  (t.power = s.power ∧ t.powerSince = s.powerSince) ∨
    (s.powerWas.moves t.power = true ∧ t.powerSince = s.tick ∧ (s.powerSince = s.tick → t.power.rank < s.power.rank))

theorem powerMoves_of_kept {m : May} {s t : State} (h : Kept m s t) : PowerMoves s t := by
  rcases h.power with ⟨power, since, -⟩ | ⟨-, moves, first, since, -⟩
  · exact .inl ⟨power, since⟩
  · exact .inr ⟨moves, since, first⟩

theorem idle_powerMoves (s : State) : PowerMoves s s.idle := by
  obtain ⟨-, -, -, -, -, -, stays | ⟨moves, first, since⟩⟩ := State.idle_keeps s
  · exact .inl stays
  · exact .inr ⟨moves, since, first⟩

/-- Settles O8: a command that does not start the block anew keeps what `Kept` names. -/
theorem powerStateMoves : Obligations.PowerStateMoves := by
  unfold Obligations.PowerStateMoves
  refine ⟨fun c s t runs notAssert notRelease notStart => ?_, idle_powerMoves⟩
  cases exec_executed runs with
  | kept h => exact powerMoves_of_kept h
  | off command _ =>
    rcases resetsPower_iff.mp command with ⟨n, e⟩ | ⟨b, e⟩
    · exact absurd e (notAssert n)
    · exact absurd e (notRelease b)
  | start command _ _ =>
    obtain ⟨ef, str, pg, rails, e⟩ := command
    exact absurd e (notStart ef str pg rails)

/-- No transition of R22 leaves HALT, and none comes before its entry in the order of R25. -/
theorem PowerMoves.halt_stays {s t : State} (halt : s.power = .halt) (moves : PowerMoves s t) : t.power = .halt := by
  rcases moves with ⟨power, -⟩ | ⟨moves, -, first⟩
  · exact power.trans halt
  · by_cases entered : s.powerSince = s.tick
    · have := first entered
      rw [halt] at this
      exact absurd this (Nat.not_lt_zero _)
    · rw [State.powerWas, if_neg entered, halt] at moves
      cases moves

/-- The release of the power-on reset does nothing where it is not asserted. -/
theorem powerOnResetRelease_running {s : State} {testMode : Bool} (running : s.boot.por = false) :
    exec (.powerOnResetRelease testMode) s = .next s :=
  (exec_powerOnResetRelease testMode s).trans (if_pos (.inl (by simp [running])))

theorem exec_halt {c : Instr} {s t : State} (halt : s.power = .halt) (begun : s.boot.g.isSome = true) (running : s.boot.por = false)
    (runs : exec c s = .next t) : t.power = .halt ∨ ∃ n, c = .powerOnResetAssert n := by
  cases exec_executed runs with
  | kept h => exact .inl ((powerMoves_of_kept h).halt_stays halt)
  | off command h =>
    rcases resetsPower_iff.mp command with asserts | ⟨b, rfl⟩
    · exact .inr asserts
    · cases (powerOnResetRelease_running running).symm.trans runs
      exact .inl halt
  | start _ before _ =>
    rw [before] at begun
    cases begun

/-- Settles O9, by the table of R22 and the order of R25. -/
theorem haltIsLatched : Obligations.HaltIsLatched := by
  unfold Obligations.HaltIsLatched
  intro s t halt begun running runs
  rcases step_cases runs with ⟨-, rfl⟩ | ⟨c, rest, front, runs⟩
  · exact .inl ((idle_powerMoves s).halt_stays halt)
  · refine (exec_halt (s := { s with pending := rest }) halt begun running runs).imp_right ?_
    rintro ⟨n, rfl⟩
    exact ⟨n, rest, front⟩

/-! ### Tick g and the free values -/

theorem exec_g {c : Instr} {s t : State} {g : Nat} (begun : s.boot.g = some g) (runs : exec c s = .next t) :
    t.boot.g = some g ∨ resetsPower c = true := by
  cases exec_executed runs with
  | kept h => exact .inl (h.g.trans begun)
  | off command _ => exact .inr command
  | start _ before _ =>
    rw [before] at begun
    cases begun

/-- Settles O10: only a start sets tick g, and it does nothing after tick g. -/
theorem tickGIsSetOnce : Obligations.TickGIsSetOnce := by
  unfold Obligations.TickGIsSetOnce
  intro s t g begun runs
  rcases step_cases runs with ⟨-, rfl⟩ | ⟨c, rest, front, runs⟩
  · obtain ⟨-, -, -, -, same, -⟩ := State.idle_keeps s
    exact .inl (same.trans begun)
  · refine (exec_g (s := { s with pending := rest }) begun runs).imp_right fun resets => ?_
    rcases resetsPower_iff.mp resets with ⟨n, rfl⟩ | ⟨b, rfl⟩
    · exact .inl ⟨n, rest, front⟩
    · exact .inr ⟨b, rest, front⟩

theorem exec_free {c : Instr} {s t : State} (runs : exec c s = .next t) : s.free ≤ t.free := by
  cases exec_executed runs with
  | kept h => exact h.free
  | off _ h => exact h.free
  | start _ _ h => exact h.free

/-- Settles O11, by the frame of a passing tick and of every command: the counter of the free values (log entry 1) goes up, also over a
loss of power. -/
theorem freeValuesAreDrawnOnce : Obligations.FreeValuesAreDrawnOnce := by
  unfold Obligations.FreeValuesAreDrawnOnce
  intro s t runs
  rcases step_cases runs with ⟨-, rfl⟩ | ⟨c, rest, -, runs⟩
  · obtain ⟨-, -, -, -, -, free, -⟩ := State.idle_keeps s
    exact free
  · exact exec_free (s := { s with pending := rest }) runs

/-! ### Memory, reset and fields -/

/-- Settles O12, by the frame of every command that `stores` leaves out (`exec_same`). -/
theorem onlyStoringCommandsStore : Obligations.OnlyStoringCommandsStore := by
  unfold Obligations.OnlyStoringCommandsStore
  intro c s t storesNone runs a
  rw [State.byte, exec_same c s t storesNone runs, ← State.byte]

/-- Settles O2: no register and no byte is listed, so that each holds what an unlisted one does. What unlisted bytes read as and the reset values
that the spec leaves to the die or the start are choices of the model (log entries 3, 7); a status bit that is computed when it is read may read
otherwise than the word its register holds (16). -/
theorem resetState : Obligations.ResetState := by
  unfold Obligations.ResetState
  exact ⟨fun a => rfl, fun a => rfl, rfl, rfl, rfl, rfl, rfl, rfl, rfl⟩

/-- Settles O3: nothing is listed, tick g has not come, and every clock stands at 0. -/
theorem resetSound : Obligations.ResetSound := by
  unfold Obligations.ResetSound
  exact ⟨sound_iff.mpr ⟨rfl, reset_mem_wf⟩, Nat.le_refl _, fun g at_ => nomatch at_⟩

/-- Settles O14, by the frame of `State.settle`, field by field. -/
theorem settleFrame : Obligations.SettleFrame := by
  unfold Obligations.SettleFrame
  intro s
  exact ⟨fun a h => State.settle_reg s h, s.settle_mem, s.settle_tick, s.settle_power, s.settle_boot, s.settle_cnv, s.settle_bat, s.settle_seq,
    s.settle_efu, s.settle_shr, s.settle_twb, s.settle_hlk, s.settle_nvm, s.settle_ports⟩

/-- Settles O15, by the laws of the bits within a word and of the sparse map of registers. -/
theorem fieldReadsBack : Obligations.FieldReadsBack := by
  unfold Obligations.FieldReadsBack
  exact ⟨fun s f v i fits => State.get_set_same s f v i fits, fun s f g v i j apart => State.get_set_apart s f g v i j apart,
    fun s f v i a => rfl⟩

end Sys2Proof.Proofs
end

section
/-! The fuse channels (file 12: R312 to R320): what each command runs, and what a CLEAR does in each form. -/

namespace Sys2Proof.Proofs

open Sys2Proof.Machine

/-! ### ON, OFF and CLEAR (R312, R313) -/

theorem exec_efuOn_allowed {r : Requester} {n : Fin 8} {s : State} (may : s.mayWrite r EFU_CMD_ON.addr = true) :
    exec (.efuOn r n) s = .next ((s.touch r).ranked r (keyFuse n.val) (fun s => s.efuOn n)) :=
  congrArg Host.Outcome.next (State.gate_ok may)

theorem exec_efuOff_allowed {r : Requester} {n : Fin 8} {s : State} (may : s.mayWrite r EFU_CMD_OFF.addr = true) :
    exec (.efuOff r n) s = .next ((s.touch r).ranked r (keyFuse n.val) (fun s => s.efuOff n)) :=
  congrArg Host.Outcome.next (State.gate_ok may)

theorem exec_efuClear_allowed {r : Requester} {n : Fin 8} {s : State} (may : s.mayWrite r EFU_CMD_CLEAR.addr = true) :
    exec (.efuClear r n) s = .next ((s.touch r).efuClear n) := congrArg Host.Outcome.next (State.gate_ok may)

/-- The condition of DAMAGED has been absent for 5,000 ticks. -/
def damageAbsent (s : State) (n : Fin 8) : Bool :=
  match (s.fuse n).healthySince with
  | some t => decide (t + 5000 ≤ s.tick)
  | none => false

section
variable {s : State} {n : Fin 8}

/-- CLEAR takes a latched channel to OFF and forgets its failures. -/
theorem efuClear_latched (latched : s.fuseState n = 5) : s.efuClear n =
    ((((s.setFuseState n 1).setFuse n { s.fuse n with mem := none }).set EFU_CH_STAT_RETRIES 0 n.val).fuseEval n).settle := if_pos latched

theorem efuClear_sound (unlatched : ¬s.fuseState n = 5) (sound : s.fuseState n = 6 ∧ damageAbsent s n = true) :
    s.efuClear n = ((s.setFuseState n 1).fuseEval n).settle := (if_neg unlatched).trans (if_pos sound)

theorem efuClear_refused (unlatched : ¬s.fuseState n = 5) (unsound : ¬(s.fuseState n = 6 ∧ damageAbsent s n = true)) :
    s.efuClear n = s.event .fuseClearRefused (objRef 2 n.val) := (if_neg unlatched).trans (if_neg unsound)

end

/-! ### Starts, protection and damage (R314 to R320) -/

theorem exec_efuWaitExpiry (n : Fin 8) (s : State) : exec (.efuWaitExpiry n) s =
    if s.fuseState n == 2 && s.due (s.fuse n).waitEnd && s.demanded n && s.fetCool n then .next (s.fuseInrush n) else .next s := rfl

theorem exec_efOnRise (n : Fin 8) (s : State) : exec (.efOnRise n) s =
    if s.fuseState n == 3 && s.due (s.fuse n).riseAt
    then .next (s.setFuse n { s.fuse n with on := true, riseAt := none, startAt := some s.tick }) else .next s := rfl

theorem exec_efIlimFall (n : Fin 8) (s : State) : exec (.efIlimFall n) s =
    if s.due (s.fuse n).fallAt then .next (s.setFuse n { s.fuse n with ilim := 0, fallAt := none }) else .next s := rfl

theorem exec_inrushQualified (n : Fin 8) (s : State) : exec (.inrushQualified n) s =
    if s.fuseReadyDone n then .next (s.fuseOn n) else .next s := rfl

theorem exec_inrushExpiry (n : Fin 8) (s : State) : exec (.inrushExpiry n) s =
    if s.fuseState n == 3 && s.lasted (s.fuse n).startAt (1000 * s.get EFU_CH_TIME_INRUSH_MS n.val) && !s.fuseReadyDone n
    then .next (s.fuseFailDue n (if s.atLimit n (s.get EFU_CH_LIMIT_I_INRUSH n.val) then 2 else 3)) else .next s := rfl

theorem exec_overcurrentExpiry (n : Fin 8) (s : State) : exec (.overcurrentExpiry n) s =
    if s.fuseLimited n && s.lasted (s.fuse n).limSince (1000 * s.get EFU_CH_TIME_OC_MS n.val)
    then .next (s.fuseFailDue n 4) else .next s := rfl

/-- The models of all channels take their step, and the enabled ones are judged. -/
def fetModels (s : State) : State :=
  let s := s.each (List.finRange 8) (fun s n => (s.fuseSquare n).fetStep n)
  s.each ((List.finRange 8).filter (fun n => s.on EFU_CH_CFG_EN n.val)) State.fetJudge

theorem exec_fetModelUpdate (x : Unit) (s : State) : exec (.fetModelUpdate x) s =
    if s.tick % 100 ≠ 0 ∨ s.boot.g.isNone then .next s else .next (fetModels s) := rfl

theorem exec_efuRetryReset (n : Fin 8) (s : State) : exec (.efuRetryReset n) s =
    if s.fuseState n = 4 ∧ (s.fuse n).onAt + 1000000 * s.get EFU_SLOT_CFG_CLEAR_S ≤ s.tick
    then .next (s.set EFU_CH_STAT_RETRIES 0 n.val) else .next s := rfl

theorem exec_damageDetect (n : Fin 8) (s : State) : exec (.damageDetect n) s =
    if s.damageDue n then .next (s.fuseDamage n) else .next s := rfl

/-- Settles O34, command by command, by the equation of its `exec` and the branch that the clause's conditions choose. The clauses rest on choices of
the model on the channels, their starts and their waits (log entry 78). -/
theorem fuseCommands : Obligations.FuseCommands := by
  unfold Obligations.FuseCommands
  refine ⟨?onOverruled, ?on, ?offOverruled, ?off, ?clearLatched, ?clearSound, ?clearRefused, ?waited, ?waitedNot, ?rise, ?riseNot, ?fall, ?fallNot,
    ?ready, ?readyNot, ?inrush, ?inrushNot, ?overcurrent, ?overcurrentNot, ?modelIdle, ?model, ?retries, ?retriesNot, ?damage, ?damageNot⟩
  case onOverruled => exact fun r n s may overruled => next_of_eq (exec_efuOn_allowed may) (ranked_overruled overruled)
  case on => exact fun r n s may stands => next_of_eq (exec_efuOn_allowed may) (ranked_stands stands)
  case offOverruled => exact fun r n s may overruled => next_of_eq (exec_efuOff_allowed may) (ranked_overruled overruled)
  case off => exact fun r n s may stands => next_of_eq (exec_efuOff_allowed may) (ranked_stands stands)
  case clearLatched => exact fun r n s may latched => next_of_eq (exec_efuClear_allowed may) (efuClear_latched latched)
  case clearSound => exact fun r n s may unlatched sound => next_of_eq (exec_efuClear_allowed may) (efuClear_sound unlatched sound)
  case clearRefused => exact fun r n s may unlatched unsound => next_of_eq (exec_efuClear_allowed may) (efuClear_refused unlatched unsound)
  case waited => exact fun n s due => (exec_efuWaitExpiry n s).trans (if_pos due)
  case waitedNot => exact fun n s not => (exec_efuWaitExpiry n s).trans (if_neg not)
  case rise => exact fun n s due => (exec_efOnRise n s).trans (if_pos due)
  case riseNot => exact fun n s not => (exec_efOnRise n s).trans (if_neg not)
  case fall => exact fun n s due => (exec_efIlimFall n s).trans (if_pos due)
  case fallNot => exact fun n s not => (exec_efIlimFall n s).trans (if_neg not)
  case ready => exact fun n s ready => (exec_inrushQualified n s).trans (if_pos ready)
  case readyNot => exact fun n s not => (exec_inrushQualified n s).trans (if_neg not)
  case inrush => exact fun n s due => (exec_inrushExpiry n s).trans (if_pos due)
  case inrushNot => exact fun n s not => (exec_inrushExpiry n s).trans (if_neg not)
  case overcurrent => exact fun n s due => (exec_overcurrentExpiry n s).trans (if_pos due)
  case overcurrentNot => exact fun n s not => (exec_overcurrentExpiry n s).trans (if_neg not)
  case modelIdle => exact fun x s idle => (exec_fetModelUpdate x s).trans (if_pos idle)
  case model => exact fun x s due => (exec_fetModelUpdate x s).trans (if_neg due)
  case retries => exact fun n s due => (exec_efuRetryReset n s).trans (if_pos due)
  case retriesNot => exact fun n s not => (exec_efuRetryReset n s).trans (if_neg not)
  case damage => exact fun n s due => (exec_damageDetect n s).trans (if_pos due)
  case damageNot => exact fun n s not => (exec_damageDetect n s).trans (if_neg not)

end Sys2Proof.Proofs
end

section
/-! The feeds and the slots (file 12: R322 to R326): what each command runs, and what an insertion and a removal do in each form. -/

namespace Sys2Proof.Proofs

open Sys2Proof.Machine

/-! ### Feeds (R322, R323) -/

theorem exec_feedA_allowed {r : Requester} {s : State} (may : s.mayWrite r EFU_CMD_FEED_A.addr = true) :
    exec (.feedA r) s = .next ((s.touch r).ranked r keyFeed (fun s => s.setForce (some false))) :=
  congrArg Host.Outcome.next (State.gate_ok may)

theorem exec_feedB_allowed {r : Requester} {s : State} (may : s.mayWrite r EFU_CMD_FEED_B.addr = true) :
    exec (.feedB r) s = .next ((s.touch r).ranked r keyFeed (fun s => s.setForce (some true))) :=
  congrArg Host.Outcome.next (State.gate_ok may)

theorem exec_feedAuto_allowed {r : Requester} {s : State} (may : s.mayWrite r EFU_CMD_FEED_AUTO.addr = true) :
    exec (.feedAuto r) s = .next ((s.touch r).ranked r keyFeed (fun s => s.setForce none)) :=
  congrArg Host.Outcome.next (State.gate_ok may)

theorem exec_feedGood (k : Fin 2) (s : State) : exec (.feedGood k) s =
    if s.feedInWin k ∧ !s.on (feedBit k) ∧ s.lasted (s.efu.inSince.get k) (1000 * s.get EFU_FEED_TIME_QUAL_MS)
    then .next (s.setB (feedBit k) true) else .next s := rfl

theorem exec_feedBad (k : Fin 2) (s : State) : exec (.feedBad k) s =
    if !s.feedInWin k ∧ s.on (feedBit k) ∧ s.lasted (s.efu.outSince.get k) (s.get EFU_FEED_TIME_BAD_US)
    then .next (s.setB (feedBit k) false) else .next s := rfl

theorem exec_feedSwitchStart (s : State) : exec .feedSwitchStart s =
    if s.on EFU_FEED_CFG_PAIR_EN ∧ s.wantedFeed ≠ s.efu.sel then .next s.feedDue else .next s := rfl

theorem exec_feedRevertTimer (s : State) : exec .feedRevertTimer s =
    if s.feedSettled (if s.on EFU_FEED_CFG_PREF then 1 else 0) then .next s.feedDue else .next s := rfl

section
variable {s : State} {old t : Nat}

theorem exec_feedBbmComplete_gap (gap : s.efu.gap = some (old, t)) : exec .feedBbmComplete s =
    if t + s.get EFU_FEED_BBM_BBM_US ≤ s.tick ∧ s.oldFeedOff old then .next s.switchDone else .next s := by
  show execFeedBbmComplete s = _
  rw [execFeedBbmComplete, gap]
  rfl

theorem exec_feedBbmComplete_none (closed : s.efu.gap = none) : exec .feedBbmComplete s = .next s := by
  show execFeedBbmComplete s = _
  rw [execFeedBbmComplete, closed]
  rfl

theorem exec_feedStuck_gap (gap : s.efu.gap = some (old, t)) : exec .feedStuck s =
    if t + s.get EFU_FEED_BBM_BBM_MAX_US ≤ s.tick ∧ !s.oldFeedOff old ∧ !s.on EFU_FEED_STAT_STUCK
    then .next ((s.setB EFU_FEED_STAT_STUCK true).event .feedStuck (objRef 2 (old - 1))) else .next s := by
  show execFeedStuck s = _
  rw [execFeedStuck, gap]
  rfl

theorem exec_feedStuck_none (closed : s.efu.gap = none) : exec .feedStuck s = .next s := by
  show execFeedStuck s = _
  rw [execFeedStuck, closed]
  rfl

end

/-! ### Slots (R324 to R326) -/

theorem exec_slotInsert (n : Fin 8) (x : Unit) (s : State) : exec (.slotInsert n x) s =
    if s.slotEdge n true then .next (s.slotInsert n (s.fuse n).presFor.2).settle else .next s := rfl

theorem exec_slotRemove (n : Fin 8) (x : Unit) (s : State) : exec (.slotRemove n x) s =
    if s.slotEdge n false then .next (s.slotRemove n (s.fuse n).presFor.2).settle else .next s := rfl

/-- The slot shows its module, and the insertion is counted. -/
def slotShown (s : State) (n : Fin 8) : State := (s.setB EFU_CH_STAT_PRESENT true n.val).inc EFU_CH_TEMP_INSERTS n.val

/-- A module that is not remembered starts without failures, and a latched channel with it in OFF. -/
def slotFresh (s : State) (n : Fin 8) : State :=
  (s.set EFU_CH_STAT_RETRIES 0 n.val).iff (s.fuseState n == 5) (fun s => s.setFuseState n 1)

section
variable {s : State} {n : Fin 8} {m : SlotMem}

/-- A return within the slot's memory brings back the failures and the rest of the wait (R326). -/
theorem slotInsert_remembered {i : Nat} (mem : (s.fuse n).mem = some m) (within : i < m.until_) : s.slotInsert n i =
    (((slotShown s n).set EFU_CH_STAT_RETRIES m.count n.val).setFuse n { s.fuse n with
      mem := none, insertEnd := i + max 250000 m.remain, lastWait := (i, i + m.remain) }).fuseEval n := by
  rw [State.slotInsert, mem]
  exact if_pos within

theorem slotInsert_outlived {i : Nat} (mem : (s.fuse n).mem = some m) (outlived : ¬i < m.until_) : s.slotInsert n i =
    ((slotFresh (slotShown s n) n).setFuse n { s.fuse n with mem := none, insertEnd := i + 250000 }).fuseEval n := by
  rw [State.slotInsert, mem]
  exact if_neg outlived

theorem slotInsert_unremembered {i : Nat} (mem : (s.fuse n).mem = none) : s.slotInsert n i =
    ((slotFresh (slotShown s n) n).setFuse n { s.fuse n with insertEnd := i + 250000 }).fuseEval n := by
  unfold State.slotInsert
  dsimp only
  split
  case h_1 remembered => cases remembered.symm.trans mem
  case h_2 => rfl

/-- What is remembered of a channel whose module leaves at `r`: its failures, and what of its wait is left (R325). -/
def slotMemoryOf (s : State) (n : Fin 8) (r : Nat) : SlotMem :=
  { count := s.get EFU_CH_STAT_RETRIES n.val
    latched := s.fuseState n == 5
    remain := if (s.fuse n).lastWait.1 ≤ r then (s.fuse n).lastWait.2 - r else 0
    until_ := r + 60000000 }

/-- The slot shows empty, and its memory begins. -/
def slotEmptied (s : State) (n : Fin 8) (r : Nat) : State :=
  (s.setB EFU_CH_STAT_PRESENT false n.val).setFuse n { s.fuse n with mem := some (slotMemoryOf s n r), insertEnd := 0 }

theorem slotRemove_running {r : Nat} (running : s.fuseState n = 2 ∨ s.fuseState n = 3 ∨ s.fuseState n = 4) :
    s.slotRemove n r = (slotEmptied s n r).fuseOff n 1 6 := if_pos running

theorem slotRemove_stopped {r : Nat} (stopped : ¬(s.fuseState n = 2 ∨ s.fuseState n = 3 ∨ s.fuseState n = 4)) :
    s.slotRemove n r = (slotEmptied s n r).set EFU_CH_STAT_CAUSE 6 n.val := if_neg stopped

theorem exec_slotMemoryExpiry_some (mem : (s.fuse n).mem = some m) : exec (.slotMemoryExpiry n) s =
    if m.until_ ≤ s.tick then .next (s.setFuse n { s.fuse n with mem := none }) else .next s := by
  show execSlotMemoryExpiry n s = _
  rw [execSlotMemoryExpiry, mem]
  rfl

theorem exec_slotMemoryExpiry_none (mem : (s.fuse n).mem = none) : exec (.slotMemoryExpiry n) s = .next s := by
  show execSlotMemoryExpiry n s = _
  rw [execSlotMemoryExpiry, mem]
  rfl

end

/-- Settles O35, command by command, by the equation of its `exec` and the form of it that the clause's conditions choose. The clauses rest on choices
of the model on the choice of the feed, the slots and their edges (log entry 78). -/
theorem feedAndSlotCommands : Obligations.FeedAndSlotCommands := by
  unfold Obligations.FeedAndSlotCommands
  refine ⟨?aOverruled, ?a, ?bOverruled, ?b, ?autoOverruled, ?auto, ?good, ?goodNot, ?bad, ?badNot, ?switch, ?switchNot, ?complete, ?completeNot,
    ?completeIdle, ?stuck, ?stuckNot, ?stuckIdle, ?revert, ?revertNot, ?insertRemembered, ?insertOutlived, ?insert, ?insertNot, ?removeRunning,
    ?removeStopped, ?removeNot, ?forget, ?forgetNot, ?forgetIdle⟩
  case aOverruled => exact fun r s may overruled => next_of_eq (exec_feedA_allowed may) (ranked_overruled overruled)
  case a => exact fun r s may stands => next_of_eq (exec_feedA_allowed may) (ranked_stands stands)
  case bOverruled => exact fun r s may overruled => next_of_eq (exec_feedB_allowed may) (ranked_overruled overruled)
  case b => exact fun r s may stands => next_of_eq (exec_feedB_allowed may) (ranked_stands stands)
  case autoOverruled => exact fun r s may overruled => next_of_eq (exec_feedAuto_allowed may) (ranked_overruled overruled)
  case auto => exact fun r s may stands => next_of_eq (exec_feedAuto_allowed may) (ranked_stands stands)
  case good => exact fun k s due => (exec_feedGood k s).trans (if_pos due)
  case goodNot => exact fun k s not => (exec_feedGood k s).trans (if_neg not)
  case bad => exact fun k s due => (exec_feedBad k s).trans (if_pos due)
  case badNot => exact fun k s not => (exec_feedBad k s).trans (if_neg not)
  case switch => exact fun s due => (exec_feedSwitchStart s).trans (if_pos due)
  case switchNot => exact fun s not => (exec_feedSwitchStart s).trans (if_neg not)
  case complete => exact fun s old t gap due => (exec_feedBbmComplete_gap gap).trans (if_pos due)
  case completeNot => exact fun s old t gap not => (exec_feedBbmComplete_gap gap).trans (if_neg not)
  case completeIdle => exact fun s closed => exec_feedBbmComplete_none closed
  case stuck => exact fun s old t gap due => (exec_feedStuck_gap gap).trans (if_pos due)
  case stuckNot => exact fun s old t gap not => (exec_feedStuck_gap gap).trans (if_neg not)
  case stuckIdle => exact fun s closed => exec_feedStuck_none closed
  case revert => exact fun s due => (exec_feedRevertTimer s).trans (if_pos due)
  case revertNot => exact fun s not => (exec_feedRevertTimer s).trans (if_neg not)
  case insertRemembered =>
    intro n x s m edge mem within
    exact next_of_eq ((exec_slotInsert n x s).trans (if_pos edge)) (congrArg State.settle (slotInsert_remembered mem within))
  case insertOutlived =>
    intro n x s m edge mem outlived
    exact next_of_eq ((exec_slotInsert n x s).trans (if_pos edge)) (congrArg State.settle (slotInsert_outlived mem outlived))
  case insert =>
    intro n x s edge mem
    exact next_of_eq ((exec_slotInsert n x s).trans (if_pos edge)) (congrArg State.settle (slotInsert_unremembered mem))
  case insertNot => exact fun n x s not => (exec_slotInsert n x s).trans (if_neg not)
  case removeRunning =>
    intro n x s edge running
    exact next_of_eq ((exec_slotRemove n x s).trans (if_pos edge)) (congrArg State.settle (slotRemove_running running))
  case removeStopped =>
    intro n x s edge stopped
    exact next_of_eq ((exec_slotRemove n x s).trans (if_pos edge)) (congrArg State.settle (slotRemove_stopped stopped))
  case removeNot => exact fun n x s not => (exec_slotRemove n x s).trans (if_neg not)
  case forget => exact fun n s m mem outlived => (exec_slotMemoryExpiry_some mem).trans (if_pos outlived)
  case forgetNot => exact fun n s m mem not => (exec_slotMemoryExpiry_some mem).trans (if_neg not)
  case forgetIdle => exact fun n s mem => exec_slotMemoryExpiry_none mem

end Sys2Proof.Proofs
end

section
/-! The rails (file 13: R336 to R347): what each command of qualification, warnings, faults and tests runs. -/

namespace Sys2Proof.Proofs

open Sys2Proof.Machine

/-! ### Qualification (R336 to R339) -/

theorem exec_pgDeglitchChange (n : Fin 24) (high : Bool) (s : State) : exec (.pgDeglitchChange n high) s =
    .next ((s.pgBallTo n high).pgLine n).seqTail := rfl

/-- A rail that is not yet qualified has been good for `QUAL`, and its window has not closed on it in a ramp-up. -/
def railQualifies (s : State) (n : Fin 24) : Bool :=
  let x := s.rail n
  let late := s.seqState == 1 && !x.everQual && decide (x.enAt + 1000 * s.get SEQ_RAIL_TIME_WIN n.val ≤ s.tick)
  let due := match x.pgSince with
    | some t => decide (t + 1000 * s.get SEQ_RAIL_TIME_QUAL n.val ≤ s.tick)
    | none => false
  s.railOn n && s.ownRail n && s.railPg n && s.railEn n && !s.railQual n && !s.bitOn RMN_EXPIRED_MASK n.val && s.seqState != 3 && due && !late

theorem exec_railQualified (n : Fin 24) (s : State) : exec (.railQualified n) s =
    if railQualifies s n then .next (s.qualify n).seqTail else .next s := rfl

theorem exec_railEnRise (n : Fin 24) (s : State) : exec (.railEnRise n) s =
    if s.due (s.rail n).enDue && s.seqState == 1 then .next (s.enRise n).seqTail else .next s := rfl

/-- The window of a rail that has never qualified is over (R339). -/
def windowOver (s : State) (n : Fin 24) : Bool :=
  s.seqState == 1 && s.ownRail n && s.railOn n && s.railEn n && !(s.rail n).everQual &&
    decide ((s.rail n).enAt + 1000 * s.get SEQ_RAIL_TIME_WIN n.val ≤ s.tick)

theorem exec_railWindowExpiry (n : Fin 24) (s : State) : exec (.railWindowExpiry n) s =
    if windowOver s n then .next (s.railFault n.val 1) else .next s := rfl

/-! ### Measurement and warnings (R344, R345) -/

/-- The conversion of a rail's voltage that its judgement takes. -/
def railConversion (s : State) (n : Fin 24) : MonResult := s.afe.latest.get (Fin.ofNat 64 n.val)

/-- A conversion is taken once, and what it shows is judged. -/
def railTaken (s : State) (n : Fin 24) : State :=
  (s.setRail n { s.rail n with convAt := some (railConversion s n).tick }).railSample n (s.railVolts n (railConversion s n).code)

theorem exec_rmonSample (n : Fin 24) (s : State) : exec (.rmonSample n) s =
    if (railConversion s n).valid && (s.rail n).convAt != some (railConversion s n).tick then .next (railTaken s n).seqTail
    else .next s := rfl

/-- A voltage beyond the warning levels has been so for `WARN_T`. -/
def warningDue (s : State) (n : Fin 24) (v : Int) (t : Nat) : Bool :=
  s.levelsJudged n && !s.inWarn n && s.outWarn n false v && decide (t + 1000 * s.get RMN_TIME_WARN_T ≤ s.tick)

/-- The warning is shown as one of too low or too high a voltage, counted and recorded. -/
def railWarned (s : State) (n : Fin 24) (v : Int) : State :=
  let low := decide (v < 10 * (s.get RMN_RAIL_CFG_NOM n.val : Int))
  let s := (s.setB RMN_RAIL_MEAS_WARN_UV low n.val).setB RMN_RAIL_MEAS_WARN_OV (!low) n.val
  ((s.setBit RMN_WARN_MASK n.val true).inc RMN_CNT_WARNINGS).event .railWarning (objRef 6 n.val) [if low then 0 else 1, v]

theorem exec_railWarning_measured {s : State} {n : Fin 24} {v : Int} {t : Nat} (measured : (s.rail n).v = some v)
    (since : (s.rail n).warnSince = some t) :
    exec (.railWarning n) s = if warningDue s n v t then .next (railWarned s n v) else .next s := by
  show execRailWarning n s = _
  rw [execRailWarning, measured, since]
  rfl

theorem exec_railWarning_not {s : State} {n : Fin 24}
    (not : ∀ v t, (s.rail n).v = some v → (s.rail n).warnSince = some t → warningDue s n v t = false) :
    exec (.railWarning n) s = .next s := by
  cases measured : (s.rail n).v with
  | none =>
    show execRailWarning n s = _
    rw [execRailWarning, measured]
    rfl
  | some v =>
    cases since : (s.rail n).warnSince with
    | none =>
      show execRailWarning n s = _
      rw [execRailWarning, measured, since]
      rfl
    | some t =>
      rw [exec_railWarning_measured measured since, not v t measured since]
      rfl

/-! ### Faults and tests (R346, R347) -/

theorem exec_faultTimerExpiry (n : Fin 24) (s : State) : exec (.faultTimerExpiry n) s =
    if s.timerOver n then .next (s.railFault n.val 3) else .next s := rfl

/-- A rail whose fault takes no action has recovered and been good for `QUAL` again. -/
def requalifies (s : State) (n : Fin 24) : Bool :=
  s.bitOn RMN_EXPIRED_MASK n.val && s.get RMN_RAIL_CFG_FLT_ACT n.val == 0 && (s.rail n).timer.isNone && s.railPg n && s.railEn n &&
    decide ((s.rail n).stoppedAt + 1000 * s.get SEQ_RAIL_TIME_QUAL n.val ≤ s.tick)

theorem exec_fltAct0Requalify (n : Fin 24) (s : State) : exec (.fltAct0Requalify n) s =
    if requalifies s n then .next (s.qualify n).seqTail else .next s := rfl

theorem exec_rmnTest_allowed {r : Requester} {s : State} (may : s.mayWrite r RMN_CMD_TEST.addr = true) :
    exec (.rmnTest r) s = .next (s.touch r).testStart.seqTail := congrArg Host.Outcome.next (State.gate_ok may)

theorem exec_rmnTestEnd_allowed {r : Requester} {s : State} (may : s.mayWrite r RMN_CMD_TEST.addr = true) :
    exec (.rmnTestEnd r) s = .next (s.touch r).testStop.seqTail := congrArg Host.Outcome.next (State.gate_ok may)

theorem exec_testTimeout (s : State) : exec .testTimeout s =
    if s.due s.seq.testEnd then .next s.testStop.seqTail else .next s := rfl

/-- Settles O36, command by command, by the equation of its `exec` and the branch that the clause's conditions choose. The clauses rest on choices of
the model: faults are judged at the end of their tick, and a qualification is counted from the rise of EN at the earliest (log entry 79). -/
theorem railCommands : Obligations.RailCommands := by
  unfold Obligations.RailCommands
  refine ⟨?pg, ?qualified, ?qualifiedNot, ?rise, ?riseNot, ?window, ?windowNot, ?sample, ?sampleNot, ?warning, ?warningNot, ?timer, ?timerNot,
    ?requalify, ?requalifyNot, ?test, ?testEnd, ?timeout, ?timeoutNot⟩
  case pg => exact exec_pgDeglitchChange
  case qualified => exact fun n s due => (exec_railQualified n s).trans (if_pos due)
  case qualifiedNot => exact fun n s not => (exec_railQualified n s).trans (if_neg not)
  case rise => exact fun n s due => (exec_railEnRise n s).trans (if_pos due)
  case riseNot => exact fun n s not => (exec_railEnRise n s).trans (if_neg not)
  case window => exact fun n s due => (exec_railWindowExpiry n s).trans (if_pos due)
  case windowNot => exact fun n s not => (exec_railWindowExpiry n s).trans (if_neg not)
  case sample => exact fun n s due => (exec_rmonSample n s).trans (if_pos due)
  case sampleNot => exact fun n s not => (exec_rmonSample n s).trans (if_neg not)
  case warning => exact fun n v t s measured since due => (exec_railWarning_measured measured since).trans (if_pos due)
  case warningNot => exact fun n s not => exec_railWarning_not not
  case timer => exact fun n s due => (exec_faultTimerExpiry n s).trans (if_pos due)
  case timerNot => exact fun n s not => (exec_faultTimerExpiry n s).trans (if_neg not)
  case requalify => exact fun n s due => (exec_fltAct0Requalify n s).trans (if_pos due)
  case requalifyNot => exact fun n s not => (exec_fltAct0Requalify n s).trans (if_neg not)
  case test => exact fun r s may => exec_rmnTest_allowed may
  case testEnd => exact fun r s may => exec_rmnTestEnd_allowed may
  case timeout => exact fun s due => (exec_testTimeout s).trans (if_pos due)
  case timeoutNot => exact fun s not => (exec_testTimeout s).trans (if_neg not)

end Sys2Proof.Proofs
end

section
/-! The sequence (file 13: R340 to R354): what each command of requests, resets, shut-down and cascade runs. -/

namespace Sys2Proof.Proofs

open Sys2Proof.Machine

/-! ### Requests (R340, R341) -/

theorem exec_seqUp_allowed {r : Requester} {s : State} (may : s.mayWrite r SEQ_CMD_UP.addr = true) :
    exec (.seqUp r) s = .next ((s.touch r).ranked r keySeq (fun s => s.seqRequest true)) :=
  congrArg Host.Outcome.next (State.gate_ok may)

theorem exec_seqDown_allowed {r : Requester} {s : State} (may : s.mayWrite r SEQ_CMD_UP.addr = true) :
    exec (.seqDown r) s = .next ((s.touch r).ranked r keySeq (fun s => s.seqRequest false)) :=
  congrArg Host.Outcome.next (State.gate_ok may)

theorem exec_seqClear_allowed {r : Requester} {s : State} (may : s.mayWrite r SEQ_CMD_UP.addr = true) :
    exec (.seqClear r) s = .next (s.touch r).seqClear := congrArg Host.Outcome.next (State.gate_ok may)

theorem seqClear_faulted {s : State} (faulted : s.seqState = 5) :
    s.seqClear = (((s.set SEQ_STATE_STATE 0).set SEQ_STATE_RETRIES 0).seqEval).seqTail := if_pos faulted

theorem seqClear_refused {s : State} (sound : ¬s.seqState = 5) : s.seqClear = s.event .seqClearRefused := if_neg sound

/-! ### Resets, shut-down and retries (R340, R348, R351, R352) -/

theorem exec_resetStretchEnd_since {s : State} {k : Fin 8} {t : Nat} (since : s.seq.rst.get k = some t) : exec (.resetStretchEnd k) s =
    if s.rstCond k.val && decide (t + 1000 * s.get SEQ_RST_TIME_STRETCH k.val ≤ s.tick)
    then .next (s.setB SEQ_RST_TIME_ASSERTED false k.val) else .next s := by
  show execResetStretchEnd k s = _
  rw [execResetStretchEnd, since]
  rfl

theorem exec_resetStretchEnd_none {s : State} {k : Fin 8} (unstretched : s.seq.rst.get k = none) : exec (.resetStretchEnd k) s = .next s := by
  show execResetStretchEnd k s = _
  rw [execResetStretchEnd, unstretched]
  rfl

/-- A rail of a shut-down has not shown off within `DIS_TMO` of the fall of its EN. -/
def dischargeOver (s : State) (n : Fin 24) : Bool :=
  s.seqState == 3 && s.ownRail n && s.railOn n && !s.railEn n && !(s.rail n).off && !(s.rail n).stuck &&
    decide ((s.rail n).fellAt + 10000 * s.get SEQ_RAIL_DN_DIS_TMO n.val ≤ s.tick)

theorem exec_dnStuck (n : Fin 24) (s : State) : exec (.dnStuck n) s =
    if dischargeOver s n then .next (s.railFault n.val 4) else .next s := rfl

theorem exec_p7EnFall (n : Fin 24) (s : State) : exec (.p7EnFall n) s =
    if s.due (s.rail n).p7At && s.seqState == 3 then .next ((s.enFall n).downCheck).seqTail else .next s := rfl

theorem exec_seqRetryExpiry (s : State) : exec .seqRetryExpiry s =
    if s.seqState = 4 ∧ s.seqPrimary ∧ s.seqDemanded ∧ s.seq.since + 1000 * s.get SEQ_TIME_RETRY_MS ≤ s.tick
    then .next s.startUp.seqTail else .next s := rfl

theorem exec_seqRetryReset (s : State) : exec .seqRetryReset s =
    if s.seqState = 2 ∧ s.seq.runSince + 60000000 ≤ s.tick
    then .next { (s.set SEQ_STATE_RETRIES 0) with seq := { s.seq with runSince := s.tick } } else .next s := rfl

/-! ### The cascade (R353, R354) -/

/-- The inputs are deglitched only from tick g on. -/
theorem exec_cascadeInputChange (dn high : Bool) (s : State) : exec (.cascadeInputChange dn high) s =
    if (s.cascBall dn high).boot.g.isNone then .next (s.cascBall dn high) else .next (s.cascBall dn high).cascLine := rfl

/-- A partner that does not follow a shut-down is recorded, and the shut-down goes on without it. -/
def cascadeGivenUp (s : State) : State := (((s.setB SEQ_STUCK_CASC true).event .cascadeStuck).faultRecord 24 4).downProceed

theorem exec_cascadeTimeout_since {s : State} {t : Nat} (since : s.seq.cascSince = some t) : exec .cascadeTimeout s =
    if t + 1000 * s.get SEQ_TIME_CASC_TMO_MS ≤ s.tick then
      if s.seqState = 1 then .next s.cascFault else if s.seqState = 3 then .next (cascadeGivenUp s).seqTail else .next s
    else .next s := by
  show execCascadeTimeout s = _
  rw [execCascadeTimeout, since]
  rfl

theorem exec_cascadeTimeout_none {s : State} (unasked : s.seq.cascSince = none) : exec .cascadeTimeout s = .next s := by
  show execCascadeTimeout s = _
  rw [execCascadeTimeout, unasked]
  rfl

/-- Settles O37, command by command, by the equation of its `exec` and the form of it that the clause's conditions choose. The clauses rest on choices
of the model: the faults of a tick are judged at its end, and which cascade steps take part (log entry 79), and what a shut-down's end keeps (58). -/
theorem sequenceCommands : Obligations.SequenceCommands := by
  unfold Obligations.SequenceCommands
  refine ⟨?upOverruled, ?up, ?downOverruled, ?down, ?clear, ?clearRefused, ?stretch, ?stretchNot, ?stretchIdle, ?stuck, ?stuckNot, ?fall, ?fallNot,
    ?retry, ?retryNot, ?forget, ?forgetNot, ?inputBefore, ?input, ?timeoutUp, ?timeoutDown, ?timeoutElse, ?timeoutNot, ?timeoutIdle⟩
  case upOverruled => exact fun r s may overruled => next_of_eq (exec_seqUp_allowed may) (ranked_overruled overruled)
  case up => exact fun r s may stands => next_of_eq (exec_seqUp_allowed may) (ranked_stands stands)
  case downOverruled => exact fun r s may overruled => next_of_eq (exec_seqDown_allowed may) (ranked_overruled overruled)
  case down => exact fun r s may stands => next_of_eq (exec_seqDown_allowed may) (ranked_stands stands)
  case clear => exact fun r s may faulted => next_of_eq (exec_seqClear_allowed may) (seqClear_faulted faulted)
  case clearRefused => exact fun r s may sound => next_of_eq (exec_seqClear_allowed may) (seqClear_refused sound)
  case stretch => exact fun k s t since due => (exec_resetStretchEnd_since since).trans (if_pos due)
  case stretchNot => exact fun k s t since not => (exec_resetStretchEnd_since since).trans (if_neg not)
  case stretchIdle => exact fun k s unstretched => exec_resetStretchEnd_none unstretched
  case stuck => exact fun n s due => (exec_dnStuck n s).trans (if_pos due)
  case stuckNot => exact fun n s not => (exec_dnStuck n s).trans (if_neg not)
  case fall => exact fun n s due => (exec_p7EnFall n s).trans (if_pos due)
  case fallNot => exact fun n s not => (exec_p7EnFall n s).trans (if_neg not)
  case retry => exact fun s due => (exec_seqRetryExpiry s).trans (if_pos due)
  case retryNot => exact fun s not => (exec_seqRetryExpiry s).trans (if_neg not)
  case forget => exact fun s due => (exec_seqRetryReset s).trans (if_pos due)
  case forgetNot => exact fun s not => (exec_seqRetryReset s).trans (if_neg not)
  case inputBefore => exact fun dn high s before => (exec_cascadeInputChange dn high s).trans (if_pos before)
  case input => exact fun dn high s begun => (exec_cascadeInputChange dn high s).trans (if_neg begun)
  case timeoutUp =>
    exact fun s t since elapsed up => (exec_cascadeTimeout_since since).trans ((if_pos elapsed).trans (if_pos up))
  case timeoutDown =>
    exact fun s t since elapsed notUp down => (exec_cascadeTimeout_since since).trans ((if_pos elapsed).trans ((if_neg notUp).trans (if_pos down)))
  case timeoutElse =>
    intro s t since elapsed notUp notDown
    exact (exec_cascadeTimeout_since since).trans ((if_pos elapsed).trans ((if_neg notUp).trans (if_neg notDown)))
  case timeoutNot => exact fun s t since not => (exec_cascadeTimeout_since since).trans (if_neg not)
  case timeoutIdle => exact fun s unasked => exec_cascadeTimeout_none unasked

end Sys2Proof.Proofs
end

section
/-! The two-wire buses (file 15: R383 to R395): what each command runs, and what a START, a Host Notify and a CLEAR do in each form. -/

namespace Sys2Proof.Proofs

open Sys2Proof.Machine

/-! ### A channel and its state -/

theorem chan_setChan_same (s : State) (c : Fin 16) (x : Chan) : (s.setChan c x).chan c = x := Vector.getElem_set_self c.isLt

theorem chanState_setChan (s : State) (c : Fin 16) (x : Chan) (k : Nat) : (s.setChan c x).chanState k = s.chanState k := rfl

/-- A channel's state reads back: the mask of busy channels stands in a register of its own. -/
theorem chanState_setChanState_same (s : State) (c : Fin 16) {st : Nat} (fits : st < 8) : (s.setChanState c st).chanState c.val = st := by
  have within : TWB_CH_STAT_STATE.fits c.val := by
    unfold Field.fits
    decide +revert
  have apart : TWB_BUSY_MASK.apart 0 TWB_CH_STAT_STATE c.val := by
    unfold Field.apart
    clear within
    decide +revert
  rw [State.chanState, State.setChanState, State.setBit, State.get_set_apart _ _ _ _ _ _ apart, State.get_set_same _ _ _ _ within]
  exact Nat.mod_eq_of_lt fits

/-- The bus is in use from this tick on. -/
def busTaken (c : Fin 16) (s : State) : State := s.setChan c { s.chan c with busFree := false, busyAt := s.tick }

theorem busTaken_chan (c : Fin 16) (s : State) : (busTaken c s).chan c = { s.chan c with busFree := false, busyAt := s.tick } :=
  chan_setChan_same s c _

/-! ### A START (R384 to R388) -/

/-- The channel may send a START: it is idle, its bus is free, and the engine runs. -/
def maySend (c : Fin 16) (s : State) : Bool := s.chanState c.val == 2 && (s.chan c).busFree && s.twbMay

/-- A transaction that is not a repetition is counted, its request has begun, and the channel is busy. -/
def transBegun (c : Fin 16) (q : Req) (s : State) : State :=
  let t := s.iff (s.chan c).cur.isNone (fun s => (s.countStart c q.cls).incWrap TWB_CH_XFERS_XFERS c.val)
  (t.onReq q.id (fun q => { q with started := true, begun := true })).setChanState c 3

/-- What the channel holds of the transaction. -/
def transChan (c : Fin 16) (q : Req) (s : State) : Chan :=
  { (transBegun c q s).chan c with cur := some q.id, busFree := false, busyAt := s.tick, startAt := s.tick, sent := q.sent }

def transStarted (c : Fin 16) (q : Req) (s : State) : State := (transBegun c q s).setChan c (transChan c q s)

/-- Arbitration is lost in a bit: one loss more, of which so many are repeated as R388 allows. -/
def arbitrationLost (c : Fin 16) (q : Req) (s : State) : State :=
  (transStarted c q s).setChan c { transChan c q s with lost := (transChan c q s).lost + 1 }

/-- Arbitration is lost in the unit's own STOP or repeated start, which is repeated once. -/
def repeatedStartLost (c : Fin 16) (q : Req) (s : State) : State :=
  ((transStarted c q s).inc TWB_ASV_CNT_ARB_SR).setChan c { transChan c q s with srLost := true }

/-- The channel listens, to try again. -/
def listening (c : Fin 16) (s : State) : State := (s.setChanState c 1).inc TWB_ARB_CNT_RETRIES

theorem exec_twbTransactionStart_not {c : Fin 16} {ev : StartRun} {s : State} (not : !maySend c s) :
    exec (.twbTransactionStart c ev) s = .next s := if_pos not

section
variable {c : Fin 16} {ev : StartRun} {s : State} {q : Req} (may : ¬!maySend c s)
include may

theorem exec_twbTransactionStart_unpicked (unpicked : s.pick c = none) : exec (.twbTransactionStart c ev) s = .next s := by
  refine (if_neg may).trans ?_
  rw [unpicked]
  rfl

variable (picked : s.pick c = some q)
include picked

theorem exec_twbTransactionStart_busy : exec (.twbTransactionStart c .busy) s = .next (busTaken c s) := by
  refine (if_neg may).trans ?_
  rw [picked]
  rfl

theorem exec_twbTransactionStart_runs : exec (.twbTransactionStart c .runs) s = .next (transStarted c q s) := by
  refine (if_neg may).trans ?_
  rw [picked]
  rfl

theorem exec_twbTransactionStart_arbLost : exec (.twbTransactionStart c .arbLost) s =
    if (arbitrationLost c q s).get TWB_CFG_ARB_RETRY ≤ (transChan c q s).lost + 1
    then .next ((arbitrationLost c q s).endTrans c { code := 4 } 1) else .next (listening c (arbitrationLost c q s)) := by
  refine (if_neg may).trans ?_
  rw [picked]
  rfl

theorem exec_twbTransactionStart_arbSr : exec (.twbTransactionStart c .arbSr) s =
    if (transChan c q s).srLost then .next ((repeatedStartLost c q s).endTrans c { code := 5 } 1)
    else .next (listening c (repeatedStartLost c q s)) := by
  refine (if_neg may).trans ?_
  rw [picked]
  rfl

theorem exec_twbTransactionStart_ackSlot : exec (.twbTransactionStart c .ackSlot) s =
    .next (((transStarted c q s).endTrans c { code := 6 } 1).clearBegin c false) := by
  refine (if_neg may).trans ?_
  rw [picked]
  rfl

end

theorem twbTransactionStart_runs {c : Fin 16} {q : Req} {s : State} (idle : s.chanState c.val = 2) (free : (s.chan c).busFree = true)
    (may : s.twbMay = true) (picked : s.pick c = some q) : Runs (.twbTransactionStart c .runs) s (fun t =>
    (t.chan c).cur = some q.id ∧ (t.chan c).busFree = false ∧ t.tick = s.tick) := by
  have runs := exec_twbTransactionStart_runs (c := c) (s := s) (by simp [maySend, idle, free, may]) picked
  refine ⟨_, runs, ?_⟩
  dsimp only
  rw [transStarted, chan_setChan_same]
  exact ⟨rfl, rfl, (exec_kept _ s rfl _ runs).tick⟩

/-! ### The end of a transaction, and a bus that becomes free (R376, R384, R393) -/

/-- A transaction cannot have ended: its code is none that a channel can end with (log entry 80), or its bits cannot have passed. -/
def transEarly (c code : Fin 16) (q : Req) (r : BusResult) (s : State) : Prop :=
  let t := s.bitTimes c.val
  !([0, 1, 2].contains code.val || (code.val == 12 && q.dead)) ∨
    !s.mayPassed (s.chan c).startAt (9 * r.bytes * (t.1 + t.2.1) + 2 * t.2.2.1)

section
variable {c code : Fin 16} {bytes : Nat} {data : List Byte} {sr stretch : Nat} {s : State}

theorem exec_twbTransactionEnd_idle (idle : s.chanState c.val ≠ 3) : exec (.twbTransactionEnd c code bytes data sr stretch) s = .next s :=
  if_pos idle

theorem exec_twbTransactionEnd_none (busy : ¬s.chanState c.val ≠ 3) (none_ : s.running c = none) :
    exec (.twbTransactionEnd c code bytes data sr stretch) s = .next s := by
  refine (if_neg busy).trans ?_
  rw [none_]
  rfl

variable {q : Req} (busy : ¬s.chanState c.val ≠ 3) (running : s.running c = some q)
include busy running

theorem exec_twbTransactionEnd_early
    (early : transEarly c code q (s.transResult c q code.val bytes (data.map BitVec.toNat) sr stretch) s) :
    exec (.twbTransactionEnd c code bytes data sr stretch) s = .next s := by
  refine (if_neg busy).trans ?_
  rw [running]
  exact if_pos early

theorem exec_twbTransactionEnd_ends
    (ends : ¬transEarly c code q (s.transResult c q code.val bytes (data.map BitVec.toNat) sr stretch) s) :
    exec (.twbTransactionEnd c code bytes data sr stretch) s = .next ((s.maxOf TWB_CH_STUCK_SEXT_MAX stretch c.val).endTrans c
      (s.transResult c q code.val bytes (data.map BitVec.toNat) sr stretch) 2) := by
  refine (if_neg busy).trans ?_
  rw [running]
  exact if_neg ends

end

/-- The bus is free: its STOP is t_BUF ago, or both lines have been high for `IDLE_US`, and no use of it came since. -/
def becomesFree (b : BusIdle) (s : State) : Prop :=
  let free := if b.stop then s.mayPassed b.since (s.bitTimes b.c.val).2.2.2 else decide (b.since + s.get TWB_CFG_IDLE_US ≤ s.tick)
  (s.chanState b.c.val = 1 ∨ s.chanState b.c.val = 2) ∧ (s.chan b.c).busyAt ≤ b.since ∧ free = true

/-- Both lines show high, and the channel is idle on a free bus. -/
def busFreed (b : BusIdle) (s : State) : State :=
  let s := (s.setB TWB_CH_STAT_SCL true b.c.val).setB TWB_CH_STAT_SDA true b.c.val
  (s.setChanState b.c 2).setChan b.c { s.chan b.c with busFree := true }

theorem exec_busFree_free {b : BusIdle} {s : State} (free : becomesFree b s) : exec (.busFree b) s = .next (busFreed b s) := if_pos free

theorem exec_busFree_not {b : BusIdle} {s : State} (not : ¬becomesFree b s) : exec (.busFree b) s = .next s := if_neg not

theorem busFree_runs {b : BusIdle} {s : State} (listens : s.chanState b.c.val = 1 ∨ s.chanState b.c.val = 2)
    (unused : (s.chan b.c).busyAt ≤ b.since) (quiet : b.stop = false) (long : b.since + s.get TWB_CFG_IDLE_US ≤ s.tick) :
    Runs (.busFree b) s (fun t => t.chanState b.c.val = 2 ∧ (t.chan b.c).busFree = true ∧ t.mem = s.mem) := by
  refine ⟨_, exec_busFree_free ⟨listens, unused, by simp [quiet, long]⟩, ?_⟩
  dsimp only
  rw [busFreed, chanState_setChan, chanState_setChanState_same _ _ (by decide), chan_setChan_same]
  exact ⟨rfl, rfl, rfl⟩

/-! ### Timeouts, bus clears and STUCK (R384, R389, R390) -/

theorem exec_clkLowTimeout (h : LineHeld) (s : State) : exec (.clkLowTimeout h) s =
    if s.chanState h.c.val = 0 ∨ s.chanState h.c.val = 5 ∨ s.tick < h.since + 1000 * s.get TWB_TIMEOUT_TLOW_TO then .next s
    else .next ((s.endTrans h.c { code := 7 } 5).stuckEnter h.c 7).settle := rfl

theorem exec_sextTimeout (c : Fin 16) (stretch bytes : Nat) (s : State) : exec (.sextTimeout c stretch bytes) s =
    if s.chanState c.val = 3 ∧ 1000 * s.get TWB_TIMEOUT_SEXT_MS < stretch
    then .next (s.setChan c { s.chan c with sext := some (stretch, bytes) }) else .next s := rfl

theorem exec_sdaHeldClear (h : LineHeld) (s : State) : exec (.sdaHeldClear h) s =
    if 1 ≤ s.chanState h.c.val ∧ s.chanState h.c.val ≤ 3 ∧ h.since + s.get TWB_CFG_IDLE_US ≤ s.tick ∧ (s.pick h.c).isSome ∧ s.twbMay
    then .next (((s.putBack h.c).clearBegin h.c true).setB TWB_CH_STAT_SDA false h.c.val) else .next s := rfl

theorem exec_listenSdaLowTimeout (h : LineHeld) (s : State) : exec (.listenSdaLowTimeout h) s =
    if s.chanState h.c.val = 1 ∧ h.since + 1000 * s.get TWB_TIMEOUT_TLOW_TO ≤ s.tick ∧ s.twbMay
    then .next (((s.putBack h.c).clearBegin h.c false).setB TWB_CH_STAT_SDA false h.c.val) else .next s := rfl

/-- What a bus clear of `pulses` pulses takes: the wait, the pulses and the STOP (R390). -/
def clearLasts (c : Fin 16) (pulses : Nat) (s : State) : Nat :=
  let t := s.bitTimes c.val
  250 + pulses * (t.1 + t.2.1) + t.1 + t.2.2.1

/-- The clear is counted, and the level of SDA shown. -/
def clearEnded (c : Fin 16) (e : ClearEnd) (s : State) : State := (s.inc TWB_CH_ERRS_CLEARS c.val).setB TWB_CH_STAT_SDA e.released c.val

/-- SDA is released: the channel is idle, on a bus that is not yet free. -/
def clearReleased (c : Fin 16) (s : State) : State :=
  (s.setChanState c 2).setChan c { s.chan c with busFree := false, busyAt := s.tick, forReq := false }

theorem exec_busClearComplete (c : Fin 16) (e : ClearEnd) (s : State) : exec (.busClearComplete c e) s =
    if s.chanState c.val ≠ 4 ∨ !s.mayPassed (s.chan c).clearAt (clearLasts c (e.more.val + 1) s) then .next s
    else if e.released then .next (clearReleased c (clearEnded c e s)) else .next ((clearEnded c e s).stuckEnter c 8).settle := rfl

theorem busClearComplete_runs {c : Fin 16} {e : ClearEnd} {s : State} (clearing : s.chanState c.val = 4) (released : e.released = true)
    (passed : s.mayPassed (s.chan c).clearAt (clearLasts c (e.more.val + 1) s) = true) : Runs (.busClearComplete c e) s (fun t =>
    t.chanState c.val = 2 ∧ (t.chan c).busFree = false ∧ (t.chan c).busyAt = s.tick ∧ (t.chan c).forReq = false ∧ t.mem = s.mem) := by
  refine ⟨_, (exec_busClearComplete c e s).trans ((if_neg (by simp [clearing, passed])).trans (if_pos released)), ?_⟩
  dsimp only
  rw [clearReleased, chanState_setChan, chanState_setChanState_same _ _ (by decide), chan_setChan_same]
  exact ⟨rfl, rfl, rfl, rfl, rfl⟩

theorem exec_stuckRetry (c : Fin 16) (sclHigh : Bool) (s : State) : exec (.stuckRetry c sclHigh) s =
    if s.chanState c.val = 5 ∧ (s.chan c).since + 1000 * s.get TWB_TIMEOUT_RETRY_STUCK_MS ≤ s.tick then
      if sclHigh then .next (((s.setB TWB_CH_STAT_SCL sclHigh c.val).stuckLeave c).clearBegin c false).settle
      else .next ((s.setB TWB_CH_STAT_SCL sclHigh c.val).setChan c { (s.setB TWB_CH_STAT_SCL sclHigh c.val).chan c with since := s.tick })
    else .next s := rfl

/-! ### CLEAR, RESET and HN_FLUSH (R384, R390, R395) -/

theorem exec_twbClear_allowed {r : Requester} {c : Fin 16} {s : State} (may : s.mayWrite r TWB_CMD_CLEAR.addr = true) :
    exec (.twbClear r c) s = .next ((s.touch r).twbClear c) := congrArg Host.Outcome.next (State.gate_ok may)

theorem exec_twbReset_allowed {r : Requester} {c : Fin 16} {s : State} (may : s.mayWrite r TWB_CMD_CLEAR.addr = true) :
    exec (.twbReset r c) s = .next ((s.touch r).twbClear c) := congrArg Host.Outcome.next (State.gate_ok may)

section
variable {s : State} {c : Fin 16}

theorem twbClear_busy (busy : (s.set TWB_CMD_CH c.val).chanState c.val = 3) :
    s.twbClear c = ((s.set TWB_CMD_CH c.val).endTrans c { code := 12 } 4).clearBegin c false := if_pos busy

/-- A bus clear in progress begins again for what it was begun for. -/
theorem twbClear_quiet (notBusy : ¬(s.set TWB_CMD_CH c.val).chanState c.val = 3)
    (quiet : (s.set TWB_CMD_CH c.val).chanState c.val = 1 ∨ (s.set TWB_CMD_CH c.val).chanState c.val = 2 ∨
      (s.set TWB_CMD_CH c.val).chanState c.val = 4) :
    s.twbClear c = ((s.set TWB_CMD_CH c.val).putBack c).clearBegin c ((s.set TWB_CMD_CH c.val).chan c).forReq :=
  (if_neg notBusy).trans (if_pos quiet)

theorem twbClear_none (notBusy : ¬(s.set TWB_CMD_CH c.val).chanState c.val = 3)
    (notQuiet : ¬((s.set TWB_CMD_CH c.val).chanState c.val = 1 ∨ (s.set TWB_CMD_CH c.val).chanState c.val = 2 ∨
      (s.set TWB_CMD_CH c.val).chanState c.val = 4)) : s.twbClear c = s.set TWB_CMD_CH c.val :=
  (if_neg notBusy).trans (if_neg notQuiet)

end

theorem exec_hnFlush_allowed {r : Requester} {s : State} (may : s.mayWrite r TWB_CMD_CLEAR.addr = true) :
    exec (.hnFlush r) s = .next (s.touch r).hnFlush := congrArg Host.Outcome.next (State.gate_ok may)

/-! ### A Host Notify (R383, R388) -/

section
variable {c : Fin 16} {addr : Fin 128} {data : BitVec 16} {run : NotifyRun} {s : State}

theorem exec_hostNotify_unheard (unheard : !s.on TWB_CFG_HN_EN ∨ !([1, 2].contains (s.chanState c.val)) ∨ !s.twbMay) :
    exec (.hostNotify c addr data run) s = .next s := if_pos unheard

variable (heard : ¬(!s.on TWB_CFG_HN_EN ∨ !([1, 2].contains (s.chanState c.val)) ∨ !s.twbMay))
include heard

theorem exec_hostNotify_read : exec (.hostNotify c addr data .read) s = .next (busTaken c s) := if_neg heard

theorem exec_hostNotify_short : exec (.hostNotify c addr data .short) s =
    if 32 ≤ (busTaken c s).twb.notes.length then .next ((busTaken c s).inc TWB_HN_STAT_OVF)
    else .next ((busTaken c s).inc TWB_CH_ERRS_ERRORS c.val) := if_neg heard

theorem exec_hostNotify_ackSlot : exec (.hostNotify c addr data .ackSlot) s =
    if 32 ≤ (busTaken c s).twb.notes.length then .next ((busTaken c s).inc TWB_HN_STAT_OVF)
    else .next ((((busTaken c s).inc TWB_ASV_CNT_ASV).putBack c).clearBegin c false) := if_neg heard

variable {l : List Byte}

/-- A message that finds the queue full is counted as an overflow. -/
theorem exec_hostNotify_rest_full (full : 32 ≤ (busTaken c s).twb.notes.length) :
    exec (.hostNotify c addr data (.rest l)) s = .next ((busTaken c s).inc TWB_HN_STAT_OVF) := (if_neg heard).trans (if_pos full)

variable (room : ¬32 ≤ (busTaken c s).twb.notes.length)
include room

/-- A whole message is taken. -/
theorem exec_hostNotify_rest_right (right : (busTaken c s).notifyPec c addr.val data.toNat l = some true) :
    exec (.hostNotify c addr data (.rest l)) s = .next ((busTaken c s).notifyTake c addr.val data.toNat) := by
  refine (if_neg heard).trans ((if_neg room).trans ?_)
  rw [← busTaken, right]
  rfl

theorem exec_hostNotify_rest_wrong (wrong : (busTaken c s).notifyPec c addr.val data.toNat l = some false) :
    exec (.hostNotify c addr data (.rest l)) s = .next (((busTaken c s).inc TWB_CH_ERRS_ERRORS c.val).inc TWB_PEC_CNT_PEC_ERR) := by
  refine (if_neg heard).trans ((if_neg room).trans ?_)
  rw [← busTaken, wrong]
  rfl

theorem exec_hostNotify_rest_malformed (malformed : (busTaken c s).notifyPec c addr.val data.toNat l = none) :
    exec (.hostNotify c addr data (.rest l)) s = .next ((busTaken c s).inc TWB_CH_ERRS_ERRORS c.val) := by
  refine (if_neg heard).trans ((if_neg room).trans ?_)
  rw [← busTaken, malformed]
  rfl

end

theorem hostNotify_read_runs {c : Fin 16} {addr : Fin 128} {data : BitVec 16} {s : State} (enabled : s.on TWB_CFG_HN_EN = true)
    (idle : s.chanState c.val = 2) (may : s.twbMay = true) : Runs (.hostNotify c addr data .read) s (fun t =>
    (t.chan c).busFree = false ∧ (t.chan c).busyAt = s.tick ∧ t.mem = s.mem ∧ t.regs = s.regs) := by
  refine ⟨_, exec_hostNotify_read (by simp [enabled, idle, may]), ?_⟩
  dsimp only
  rw [busTaken_chan]
  exact ⟨rfl, rfl, rfl, rfl⟩

/-- Settles O38, command by command, by the equation of its `exec` and the form of it that the clause's conditions choose. The clauses rest on choices
of the model: the histories of the lines are operands, a transaction and a clear end no sooner than their bits take, and which codes end one (log
entry 80). -/
theorem twoWireCommands : Obligations.TwoWireCommands := by
  unfold Obligations.TwoWireCommands
  refine ⟨?startNot, ?startNone, ?startBusy, ?start, ?startLostEnds, ?startLost, ?startSrEnds, ?startSr, ?startAckSlot, ?startRuns, ?endIdle,
    ?endNone, ?endEarly, ?endTrans, ?free, ?freeNot, ?freeRuns, ?clkNot, ?clk, ?sext, ?sextNot, ?sda, ?sdaNot, ?listen, ?listenNot, ?clearedNot,
    ?cleared, ?clearedStuck, ?clearedRuns, ?stuckHigh, ?stuckLow, ?stuckNot, ?clearBusy, ?clear, ?clearNone, ?resetBusy, ?reset, ?resetNone, ?flush,
    ?notifyUnheard, ?notifyRead, ?notifyFull, ?notifyRight, ?notifyWrong, ?notifyMalformed, ?shortFull, ?short, ?ackSlotFull, ?ackSlot, ?notifyRuns⟩
  case startNot => exact fun c ev s not => exec_twbTransactionStart_not not
  case startNone => exact fun c ev s may unpicked => exec_twbTransactionStart_unpicked may unpicked
  case startBusy =>
    rintro c ev s q may picked rfl
    exact exec_twbTransactionStart_busy may picked
  case start =>
    rintro c ev s q may picked rfl
    exact exec_twbTransactionStart_runs may picked
  case startLostEnds =>
    rintro c ev s q may picked rfl often
    exact (exec_twbTransactionStart_arbLost may picked).trans (if_pos often)
  case startLost =>
    rintro c ev s q may picked rfl seldom
    exact (exec_twbTransactionStart_arbLost may picked).trans (if_neg seldom)
  case startSrEnds =>
    rintro c ev s q may picked rfl again
    exact (exec_twbTransactionStart_arbSr may picked).trans (if_pos again)
  case startSr =>
    rintro c ev s q may picked rfl first
    exact (exec_twbTransactionStart_arbSr may picked).trans (if_neg first)
  case startAckSlot =>
    rintro c ev s q may picked rfl
    exact exec_twbTransactionStart_ackSlot may picked
  case startRuns => exact fun c q s idle free may picked => twbTransactionStart_runs idle free may picked
  case endIdle => exact fun c code bytes data sr stretch s idle => exec_twbTransactionEnd_idle idle
  case endNone => exact fun c code bytes data sr stretch s busy none_ => exec_twbTransactionEnd_none busy none_
  case endEarly =>
    exact fun c code bytes data sr stretch s q busy running early => exec_twbTransactionEnd_early busy running early
  case endTrans => exact fun c code bytes data sr stretch s q busy running ends => exec_twbTransactionEnd_ends busy running ends
  case free => exact fun b s free => exec_busFree_free free
  case freeNot => exact fun b s not => exec_busFree_not not
  case freeRuns => exact fun b s listens unused quiet long => busFree_runs listens unused quiet long
  case clkNot => exact fun h s not => (exec_clkLowTimeout h s).trans (if_pos not)
  case clk => exact fun h s due => (exec_clkLowTimeout h s).trans (if_neg due)
  case sext => exact fun c stretch bytes s due => (exec_sextTimeout c stretch bytes s).trans (if_pos due)
  case sextNot => exact fun c stretch bytes s not => (exec_sextTimeout c stretch bytes s).trans (if_neg not)
  case sda => exact fun h s due => (exec_sdaHeldClear h s).trans (if_pos due)
  case sdaNot => exact fun h s not => (exec_sdaHeldClear h s).trans (if_neg not)
  case listen => exact fun h s due => (exec_listenSdaLowTimeout h s).trans (if_pos due)
  case listenNot => exact fun h s not => (exec_listenSdaLowTimeout h s).trans (if_neg not)
  case clearedNot => exact fun c e s not => (exec_busClearComplete c e s).trans (if_pos not)
  case cleared => exact fun c e s due released => (exec_busClearComplete c e s).trans ((if_neg due).trans (if_pos released))
  case clearedStuck => exact fun c e s due held => (exec_busClearComplete c e s).trans ((if_neg due).trans (if_neg held))
  case clearedRuns => exact fun c e s clearing released passed => busClearComplete_runs clearing released passed
  case stuckHigh => exact fun c sclHigh s due high => (exec_stuckRetry c sclHigh s).trans ((if_pos due).trans (if_pos high))
  case stuckLow => exact fun c sclHigh s due low => (exec_stuckRetry c sclHigh s).trans ((if_pos due).trans (if_neg low))
  case stuckNot => exact fun c sclHigh s not => (exec_stuckRetry c sclHigh s).trans (if_neg not)
  case clearBusy => exact fun r c s may busy => next_of_eq (exec_twbClear_allowed may) (twbClear_busy busy)
  case clear => exact fun r c s may notBusy quiet => next_of_eq (exec_twbClear_allowed may) (twbClear_quiet notBusy quiet)
  case clearNone => exact fun r c s may notBusy notQuiet => next_of_eq (exec_twbClear_allowed may) (twbClear_none notBusy notQuiet)
  case resetBusy => exact fun r c s may busy => next_of_eq (exec_twbReset_allowed may) (twbClear_busy busy)
  case reset => exact fun r c s may notBusy quiet => next_of_eq (exec_twbReset_allowed may) (twbClear_quiet notBusy quiet)
  case resetNone => exact fun r c s may notBusy notQuiet => next_of_eq (exec_twbReset_allowed may) (twbClear_none notBusy notQuiet)
  case flush => exact fun r s may => exec_hnFlush_allowed may
  case notifyUnheard => exact fun c addr data run s unheard => exec_hostNotify_unheard unheard
  case notifyRead =>
    rintro c addr data run s heard rfl
    exact exec_hostNotify_read heard
  case notifyFull =>
    rintro c addr data run s l heard rfl full
    exact exec_hostNotify_rest_full heard full
  case notifyRight =>
    rintro c addr data run s l heard rfl room right
    exact exec_hostNotify_rest_right heard room right
  case notifyWrong =>
    rintro c addr data run s l heard rfl room wrong
    exact exec_hostNotify_rest_wrong heard room wrong
  case notifyMalformed =>
    rintro c addr data run s l heard rfl room malformed
    exact exec_hostNotify_rest_malformed heard room malformed
  case shortFull =>
    rintro c addr data run s heard rfl full
    exact (exec_hostNotify_short heard).trans (if_pos full)
  case short =>
    rintro c addr data run s heard rfl room
    exact (exec_hostNotify_short heard).trans (if_neg room)
  case ackSlotFull =>
    rintro c addr data run s heard rfl full
    exact (exec_hostNotify_ackSlot heard).trans (if_pos full)
  case ackSlot =>
    rintro c addr data run s heard rfl room
    exact (exec_hostNotify_ackSlot heard).trans (if_neg room)
  case notifyRuns => exact fun c addr data s enabled idle may => hostNotify_read_runs enabled idle may

end Sys2Proof.Proofs
end

section
/-! The Catalogue (file 16: R397 to R414): what each command runs, and what a pass of Accession, the end of a request and a write of the schedule do
in each form. -/

namespace Sys2Proof.Proofs

open Sys2Proof.Machine

/-! ### Passes of Accession (R401) -/

theorem exec_accessionPassStart_due {s : State} {t : Nat} (due : passDue s.twb.lastPass (1000000 * s.get XAC_CFG_PASS_S) s.tick = some t) :
    exec .accessionPassStart s =
    if s.mayPass then .next (State.passStart { s with twb := { s.twb with lastPass := some t } }) else .next s := by
  show execAccessionPassStart s = _
  rw [execAccessionPassStart, due]
  rfl

theorem exec_accessionPassStart_none {s : State} (none_ : passDue s.twb.lastPass (1000000 * s.get XAC_CFG_PASS_S) s.tick = none) :
    exec .accessionPassStart s = .next s := by
  show execAccessionPassStart s = _
  rw [execAccessionPassStart, none_]
  rfl

theorem exec_xacPass_allowed {r : Requester} {s : State} (may : s.mayWrite r XAC_CMD_PASS.addr = true) :
    exec (.xacPass r) s = .next (if (s.touch r).mayPass then (s.touch r).passStart else s.touch r) :=
  congrArg Host.Outcome.next (State.gate_ok may)

/-- A channel is still to be visited in the pass. -/
def toVisit (s : State) : Bool := (List.finRange 16).any (fun c => (s.acc c).todo)

/-- The pass that began at `t` is counted, and its time shown, rounded up (log entry 44). -/
def passEnded (t : Nat) (s : State) : State :=
  let s := (s.inc XAC_ACC_STAT_PASSES).set XAC_ACC_STAT_LAST_MS (min ((s.tick - t + 999) / 1000) 65535)
  { s with twb := { s.twb with passAt := none } }

theorem exec_accessionPassDone_none {bad : Unit} {s : State} (none_ : s.twb.passAt = none) : exec (.accessionPassDone bad) s = .next s := by
  show execAccessionPassDone bad s = _
  rw [execAccessionPassDone, none_]
  rfl

theorem exec_accessionPassDone_since {bad : Unit} {s : State} {t : Nat} (since : s.twb.passAt = some t) : exec (.accessionPassDone bad) s =
    if toVisit s then .next s
    else if (passEnded t s).twb.firstDone then .next (passEnded t s).settle else .next (passEnded t s).firstPass.settle := by
  show execAccessionPassDone bad s = _
  rw [execAccessionPassDone, since]
  rfl

theorem accessionPassDone_runs (bad : Unit) {s : State} {t : Nat} (since : s.twb.passAt = some t) (visited : toVisit s = false)
    (again : s.twb.firstDone = true) : Runs (.accessionPassDone bad) s (fun t => t.twb.passAt = none ∧ t.tick = s.tick ∧ t.mem = s.mem) := by
  refine ⟨_, (exec_accessionPassDone_since since).trans ((if_neg (by simp [visited])).trans (if_pos again)), ?_⟩
  dsimp only
  rw [State.settle_twb, State.settle_tick, State.settle_mem]
  exact ⟨rfl, rfl, rfl⟩

/-! ### Entries that fall silent or leave (R400) -/

/-- A PRESENT entry that is tried has not answered for `SILENT_MS`. -/
def fallsSilent (n : Fin 1024) (s : State) : Prop :=
  s.entState n.val = 2 ∧ (s.entAux n.val).tried ∧ (s.entAux n.val).lastOk + 1000 * s.get XAC_CFG_SILENT_MS ≤ s.tick

theorem exec_entrySilentTimeout_silent {n : Fin 1024} {s : State} (silent : fallsSilent n s) : exec (.entrySilentTimeout n) s =
    .next (((s.setEnt n.val 2 1 3).setEntAux n.val { s.entAux n.val with silentAt := s.tick }).event .entrySilent (objRef 8 n.val)) :=
  if_pos silent

theorem exec_entrySilentTimeout_not {n : Fin 1024} {s : State} (not : ¬fallsSilent n s) : exec (.entrySilentTimeout n) s = .next s :=
  if_neg not

theorem exec_deaccessionTimeout (n : Fin 1024) (s : State) : exec (.deaccessionTimeout n) s =
    if s.boot.firmware ∧ s.entState n.val = 3 ∧ (s.entAux n.val).silentAt + 1000000 * s.get XAC_LIFE_DEACC_S ≤ s.tick
    then .next (s.deaccede n.val).settle else .next s := rfl

/-- Requests that name the entry end, or are told to end, with code 19. -/
def requestsForced (n : Nat) (s : State) : State :=
  let names := fun (q : Req) => q.segs.any (fun g => g.entry == some n)
  let s := s.each (s.twb.reqs.filter (fun q => names q && q.pending && !q.dead)) (fun s q => s.finish q { code := 19 })
  s.setReqs (s.twb.reqs.map (fun q => if names q then { q with forced := some 19 } else q))

/-- A rectifier bound to the entry is unbound. -/
def rectifierUnbound (n : Nat) (s : State) : State :=
  match s.rectOf n with
  | some k => s.rectUnbind k true
  | none => s

/-- The entry is recorded as gone and is FREE. -/
def entryFreed (n : Nat) (s : State) : State :=
  let s := s.event .entryGone (objRef 8 n) ((s.entAddr n : Int) :: (s.entUdid n).map (fun b => (b.toNat : Int)))
  ((s.storedChange.slotEntry n false).setBytes (entryBase n) (List.replicate 128 0)).setEntAux n {}

theorem deaccede_taken {n : Nat} {s : State} (taken : ¬s.entState n = 0) :
    s.deaccede n = entryFreed n (rectifierUnbound n (requestsForced n s)) := if_neg taken

theorem exec_deaccede_allowed {r : Requester} {n : Fin 1024} {s : State} (may : s.mayWrite r XAC_CMD_PASS.addr = true) :
    exec (.deaccede r n) s =
    .next (((s.touch r).set XAC_CMD_ENTRY n.val).iff (s.touch r).boot.firmware (fun s => s.deaccede n.val)).settle :=
  congrArg Host.Outcome.next (State.gate_ok may)

/-! ### Polls and requests (R403 to R408) -/

/-- Item `i` of entry `n` is polled where its period is over, or its poll is counted as skipped. -/
def itemPolled (n i : Nat) (s : State) : State :=
  let w := s.ent n (0x30 + 4 * i) 4
  let proto := w / 256 % 16
  let per := w / 65536
  if proto = 0 ∨ 4 < proto ∨ per = 0 ∨ (s.tick / 1000 + n) % per ≠ 0 then s
  else if s.held.any (fun q => q.by_ == .poll n i) then s.inc XAC_POLL_SKIP_COUNT
  else
    let p : Proto := match proto with | 1 => .readByte | 2 => .readWord | 3 => .read32 | _ => .blockRead
    let q := s.reqTo n 4 (.poll n i) p (w % 256) [] 32 (w / 4096 % 2 == 1)
    match q.2.submit q.1 with
    | (none, s) => s
    | (some _, s) => s.inc XAC_POLL_SKIP_COUNT

/-- Every item of every entry that the unit owns. -/
def entriesPolled (s : State) : State :=
  s.each ((List.range 1024).filter (fun n => s.entState n != 0 && s.ownsEntry n)) (fun s n => s.each (List.range 8) (fun s i => itemPolled n i s))

theorem exec_pollDue (s : State) : exec .pollDue s =
    if s.tick % 1000 ≠ 0 ∨ !s.twbMay then .next s else .next (entriesPolled s) := rfl

theorem pollDue_runs {s : State} (due : s.tick % 1000 = 0) (may : s.twbMay = true) :
    Runs .pollDue s (fun t => t.tick = s.tick ∧ t.power = s.power ∧ t.pending = s.pending) := by
  have runs := (exec_pollDue s).trans (if_neg (by simp [due, may]))
  exact ⟨_, runs, (exec_kept _ s rfl _ runs).tick, (exec_stays _ s _ rfl runs).1, exec_pending runs⟩

theorem exec_requestSubmit (n : Fin 1024) (cls : Fin 6) (proto : Fin 14) (cmd : BitVec 16) (count : BitVec 8) (data : List Byte) (s : State) :
    exec (.requestSubmit n cls proto cmd count data) s =
    .next (s.entrySubmit n.val cls.val .policy proto.val cmd.toNat count.toNat (data.map BitVec.toNat)).2 := rfl

theorem exec_requestComplete_none {s : State} (none_ : s.twb.reqs.find? (fun q => q.ended.isSome) = none) :
    exec .requestComplete s = .next s := by
  show execRequestComplete s = _
  rw [execRequestComplete, none_]
  rfl

theorem exec_requestComplete_ended {s : State} {q : Req} {r : BusResult} (found : s.twb.reqs.find? (fun q => q.ended.isSome) = some q)
    (ended : q.ended = some r) : exec .requestComplete s = .next (s.complete q r).accAdvance.settle := by
  show execRequestComplete s = _
  rw [execRequestComplete, found]
  dsimp only
  rw [ended]
  rfl

/-- No pass runs, or a visit of it is not yet over. -/
def visiting (s : State) : Prop :=
  s.twb.passAt.isNone ∨ (List.finRange 16).any (fun c => (s.acc c).todo && (s.acc c).phase != .idle)

/-- The next channel of the pass. -/
def nextVisit (s : State) : Option (Fin 16) := (List.finRange 16).find? (fun c => (s.acc c).todo && (s.acc c).phase == .idle)

section
variable {s : State} {c : Fin 16}

theorem accAdvance_visiting (busy : visiting s) : s.accAdvance = s := if_pos busy

theorem accAdvance_next (free : ¬visiting s) (next : nextVisit s = some c) : s.accAdvance = s.accBegin c := by
  refine (if_neg free).trans ?_
  rw [← nextVisit, next]

theorem accAdvance_none (free : ¬visiting s) (none_ : nextVisit s = none) : s.accAdvance = s := by
  refine (if_neg free).trans ?_
  rw [← nextVisit, none_]

/-- The visit of a channel begins. -/
def visitBegun (c : Fin 16) (s : State) : State := s.setAcc c { todo := true, phase := .idle }

theorem accBegin_arp (arp : (visitBegun c s).bitOn TWB_ARP_CFG_ARP_EN c.val) :
    s.accBegin c = (visitBegun c s).accGo c .prepare none 0x61 0x01 .sendByte [] 0 true := if_pos arp

theorem accBegin_probe (probe : ¬(visitBegun c s).bitOn TWB_ARP_CFG_ARP_EN c.val) : s.accBegin c = (visitBegun c s).accProbe c 0 := if_neg probe

end

/-- The oldest request whose time is over. -/
def timedOut (s : State) : Option Req :=
  s.twb.reqs.find? (fun q => !q.dead && q.ended.isNone && decide (q.at_ + 1000 * s.get XAC_LIFE_XAC_TMO_MS ≤ s.tick))

/-- A request that has begun goes on to its end as a dead one; one that has not is dropped. -/
def requestGivenUp (q : Req) (s : State) : State :=
  if q.started then s.onReq q.id (fun q => { q with dead := true }) else s.dropReq q.id

theorem exec_requestTimeout_none {s : State} (none_ : timedOut s = none) : exec .requestTimeout s = .next s := by
  show execRequestTimeout s = _
  rw [execRequestTimeout, ← timedOut, none_]
  rfl

theorem exec_requestTimeout_some {s : State} {q : Req} (found : timedOut s = some q) : exec .requestTimeout s =
    .next (((requestGivenUp q s).deliver q { code := 20 }).accAdvance).settle := by
  show execRequestTimeout s = _
  rw [execRequestTimeout, ← timedOut, found]
  rfl

/-! ### Requests of hosts and the schedule (R397, R414) -/

theorem exec_hreqSubmit_allowed {r : Requester} {w : Word} {s : State} {row : RegRow} (may : s.mayWrite r XAC_HREQ_ENTRY.addr = true)
    (found : findRow XAC_HREQ_ENTRY.addr = some row) : exec (.hreqSubmit r w) s = .next ((s.touch r).hreqWrite r row 0 (w ||| 0x80000000)) := by
  refine (congrArg Host.Outcome.next (State.gate_ok may)).trans ?_
  rw [found]

/-- SUBMIT submits what the register holds after the write. -/
theorem hreqWrite_submits {s : State} {r : Requester} {row : RegRow} {al : Nat} {w : Word} (asked : al ≤ 1 ∧ bitIn w XAC_HREQ_SUBMIT) :
    s.hreqWrite r row al w =
    let t := (s.fieldsWrite r row XAC_HREQ_ENTRY.addr (homeOf (s.srcOf r) XAC_HREQ_ENTRY.addr) al w).1
    t.hostSubmit (s.srcOf r) (t.reg (homeOf (s.srcOf r) XAC_HREQ_ENTRY.addr)) := if_pos asked

section
variable {r : Requester} {off : Fin 0x20000} {w : Word} {s : State} (may : s.mayWrite r (0x380000 + off.val) = true)
include may

theorem exec_catalogueScheduleWrite_within (within : scheduleOff off.val) :
    exec (.catalogueScheduleWrite r off w) s = .next ((s.touch r).scheduleWrite r off.val w) :=
  congrArg Host.Outcome.next ((State.gate_ok may).trans (if_pos within))

/-- Nothing else of the Catalogue's window is written. -/
theorem exec_catalogueScheduleWrite_outside (outside : ¬scheduleOff off.val) :
    exec (.catalogueScheduleWrite r off w) s = .next ((s.touch r).refuse r (0x380000 + off.val) .unmapped) :=
  congrArg Host.Outcome.next ((State.gate_ok may).trans (if_neg outside))

end

section
variable {s : State} {r : Requester} {off : Nat} {w : Word}

theorem scheduleWrite_free (free : s.entState (off / 0x80) = 0) : s.scheduleWrite r off w = s := if_pos free

theorem scheduleWrite_taken (taken : ¬s.entState (off / 0x80) = 0) :
    s.scheduleWrite r off w = s.ranked r (0x380000 + off) (fun s => (s.store (0x380000 + off) w).storedChange) := if_neg taken

end

/-- Settles O39, command by command, by the equation of its `exec` and the form of it that the clause's conditions choose. The clauses rest on choices
of the model: a measured pass rounds up (log entry 44), XAC_HREQ submits the values that stand after the write (46), and how Accession visits the
channels and ends their requests (47, 80). -/
theorem catalogueCommands : Obligations.CatalogueCommands := by
  unfold Obligations.CatalogueCommands
  refine ⟨?start, ?startNot, ?startIdle, ?pass, ?passNot, ?doneIdle, ?doneNot, ?done, ?doneFirst, ?doneRuns, ?silent, ?silentNot, ?gone, ?goneNot,
    ?deaccede, ?pollNot, ?poll, ?pollRuns, ?submit, ?completeIdle, ?completeVisiting, ?completeArp, ?completeProbe, ?complete, ?timeoutIdle,
    ?timeout, ?hreq, ?scheduleFree, ?scheduleOverruled, ?schedule, ?scheduleOutside⟩
  case start => exact fun s t due may => (exec_accessionPassStart_due due).trans (if_pos may)
  case startNot => exact fun s t due mayNot => (exec_accessionPassStart_due due).trans (if_neg mayNot)
  case startIdle => exact fun s none_ => exec_accessionPassStart_none none_
  case pass => exact fun r s may passes => next_of_eq (exec_xacPass_allowed may) (if_pos passes)
  case passNot => exact fun r s may not => next_of_eq (exec_xacPass_allowed may) (if_neg not)
  case doneIdle => exact fun bad s none_ => exec_accessionPassDone_none none_
  case doneNot => exact fun bad s t since not => (exec_accessionPassDone_since since).trans (if_pos not)
  case done => exact fun bad s t since visited again => (exec_accessionPassDone_since since).trans ((if_neg visited).trans (if_pos again))
  case doneFirst => exact fun bad s t since visited first => (exec_accessionPassDone_since since).trans ((if_neg visited).trans (if_neg first))
  case doneRuns => exact fun bad b s since visited again => accessionPassDone_runs bad since visited again
  case silent => exact fun n s silent => exec_entrySilentTimeout_silent silent
  case silentNot => exact fun n s not => exec_entrySilentTimeout_not not
  case gone =>
    exact fun n s due taken => next_of_eq ((exec_deaccessionTimeout n s).trans (if_pos due)) (congrArg State.settle (deaccede_taken taken))
  case goneNot => exact fun n s not => (exec_deaccessionTimeout n s).trans (if_neg not)
  case deaccede => exact fun r n s may => exec_deaccede_allowed may
  case pollNot => exact fun s not => (exec_pollDue s).trans (if_pos not)
  case poll => exact fun s due => (exec_pollDue s).trans (if_neg due)
  case pollRuns => exact fun s due may => pollDue_runs due may
  case submit => exact exec_requestSubmit
  case completeIdle => exact fun s none_ => exec_requestComplete_none none_
  case completeVisiting =>
    exact fun s q r found ended busy => next_of_eq (exec_requestComplete_ended found ended) (congrArg State.settle (accAdvance_visiting busy))
  case completeArp =>
    intro s q r c found ended free next arp
    exact next_of_eq (exec_requestComplete_ended found ended) (congrArg State.settle ((accAdvance_next free next).trans (accBegin_arp arp)))
  case completeProbe =>
    intro s q r c found ended free next probe
    exact next_of_eq (exec_requestComplete_ended found ended) (congrArg State.settle ((accAdvance_next free next).trans (accBegin_probe probe)))
  case complete =>
    exact fun s q r found ended free none_ => next_of_eq (exec_requestComplete_ended found ended) (congrArg State.settle (accAdvance_none free none_))
  case timeoutIdle => exact fun s none_ => exec_requestTimeout_none none_
  case timeout => exact fun s q found => exec_requestTimeout_some found
  case hreq => exact fun r w s row may found asked => next_of_eq (exec_hreqSubmit_allowed may found) (hreqWrite_submits asked)
  case scheduleFree =>
    exact fun r off w s may within free => next_of_eq (exec_catalogueScheduleWrite_within may within) (scheduleWrite_free free)
  case scheduleOverruled =>
    intro r off w s may within taken overruled
    exact next_of_eq (exec_catalogueScheduleWrite_within may within) ((scheduleWrite_taken taken).trans (ranked_overruled overruled))
  case schedule =>
    intro r off w s may within taken stands
    exact next_of_eq (exec_catalogueScheduleWrite_within may within) ((scheduleWrite_taken taken).trans (ranked_stands stands))
  case scheduleOutside => exact fun r off w s may outside => exec_catalogueScheduleWrite_outside may outside

end Sys2Proof.Proofs
end

section
/-! The black box (file 17: R421 to R434): what each command runs, and what a trigger, a PIN, a DELETE and a commit do in each form. -/

namespace Sys2Proof.Proofs

open Sys2Proof.Machine

/-! ### Blocks and triggers (R421, R424, R428) -/

theorem exec_blackBoxBlock (x x2 : Unit) (copied : Nat) (s : State) : exec (.blackBoxBlock x x2 copied) s =
    let s := s.copyTops copied
    if s.tick % 1000 ≠ 0 ∨ s.tick = 0 ∨ s.boot.g.isNone then .next s
    else if !s.on BBX_CTRL_EN ∨ s.bbx.cur.isEmpty then
      .next (s.iff (s.tick % 100000 = 0) (fun s => { s with bbx := { s.bbx with env := [] } }))
    else .next (s.topsoilOut.iff (s.tick % 100000 = 0) State.subsoilOut) := rfl

theorem exec_blackBoxTrigger (src : Fin 32) (fine : Fin 64) (s : State) : exec (.blackBoxTrigger src fine) s =
    .next (s.triggerAt src.val (s.fineOf fine.val) s.tick) := rfl

/-- A trigger is not taken: its source is disabled, the black box is off, or tick g has not come. -/
def triggerIdle (src : Nat) (s : State) : Bool := !s.triggerEnabled src || !s.on BBX_CTRL_EN || s.boot.g.isNone

/-- The trigger is shown as the last one. -/
def triggerShown (src fine t : Nat) (s : State) : State :=
  (((s.set BBX_TRIG_LAST_SOURCE src).set BBX_TRIG_LAST_FINE fine).set BBX_TRIG_LAST_JOINED 0).set BBX_TRIG_TICK_TICK t

section
variable {s : State} {src fine t : Nat}

/-- A trigger of a disabled source is counted, and no more. -/
theorem triggerAt_disabled (disabled : ((s.inc BBX_CNT_TRIGGERS).windowsEnd).triggerEnabled src = false) :
    s.triggerAt src fine t = (s.inc BBX_CNT_TRIGGERS).windowsEnd := if_pos (by rw [disabled]; rfl)

/-- With no record open, a trigger opens one. -/
theorem triggerAt_opens (taken : triggerIdle src (s.inc BBX_CNT_TRIGGERS).windowsEnd = false)
    (none_ : (s.inc BBX_CNT_TRIGGERS).windowsEnd.bbx.recs = []) :
    s.triggerAt src fine t = (triggerShown src fine t (s.inc BBX_CNT_TRIGGERS).windowsEnd).openRecord src fine t := by
  have kept : (triggerShown src fine t (s.inc BBX_CNT_TRIGGERS).windowsEnd).bbx.recs = [] := none_
  refine (if_neg (ne_true_of_eq_false taken)).trans ?_
  rw [← triggerShown, kept]

end

theorem exec_bbxTriggerCmd_allowed {r : Requester} {s : State} (may : s.mayWrite r BBX_CMD_TRIGGER.addr = true) :
    exec (.bbxTriggerCmd r) s = .next ((s.touch r).trigger 1) := congrArg Host.Outcome.next (State.gate_ok may)

/-! ### PIN, UNPIN and DELETE (R432) -/

theorem exec_pin_allowed {r : Requester} {k : Fin 16} {s : State} (may : s.mayWrite r BBX_CMD_PIN.addr = true) :
    exec (.pin r k) s = .next ((s.touch r).pin k) := congrArg Host.Outcome.next (State.gate_ok may)

theorem exec_unpin_allowed {r : Requester} {k : Fin 16} {s : State} (may : s.mayWrite r BBX_CMD_UNPIN.addr = true) :
    exec (.unpin r k) s = .next ((s.touch r).unpin k) := congrArg Host.Outcome.next (State.gate_ok may)

theorem exec_delete_allowed {r : Requester} {k : Fin 16} {s : State} (may : s.mayCommand r BBX_CMD_DELETE.addr .curator = true) :
    exec (.delete r k) s = .next ((s.touch r).deleteRecord k) := congrArg Host.Outcome.next (State.gateRole_ok may)

section
variable {s : State} {k : Fin 16}

theorem pin_pinned (pinned : (s.bbx.dir.get k).pinned) : s.pin k = s := if_pos pinned

/-- The record may be pinned: it is closed, and fewer than 4 are pinned. -/
def mayPin (k : Fin 16) (s : State) : Prop :=
  2 ≤ (s.bbx.dir.get k).state ∧ ((List.finRange 16).filter (fun r => (s.bbx.dir.get r).pinned)).length < 4

theorem pin_free (free : ¬(s.bbx.dir.get k).pinned) (may : mayPin k s) :
    s.pin k = { s with bbx := { s.bbx with dir := s.bbx.dir.set k { s.bbx.dir.get k with pinned := true } } } :=
  (if_neg free).trans (if_pos may)

theorem pin_refused (free : ¬(s.bbx.dir.get k).pinned) (mayNot : ¬mayPin k s) : s.pin k = s.event .pinRefused 0 [k.val] :=
  (if_neg free).trans (if_neg mayNot)

theorem deleteRecord_writing (writing : (s.bbx.dir.get k).state = 1) : s.deleteRecord k = s.event .deleteRefused 0 [k.val] := if_pos writing

theorem deleteRecord_closed (closed : ¬(s.bbx.dir.get k).state = 1) :
    s.deleteRecord k = { s with bbx := { s.bbx with dir := s.bbx.dir.set k {} } } := if_neg closed

end

/-! ### Post windows and commits (R426, R429) -/

theorem exec_postWindowClose (s : State) : exec .postWindowClose s = .next s.windowsEnd := rfl

/-- The record's commit is not over: its post window is open, or its Subsoil block is not out and the unit does not enter SHIP. -/
def commitEarly (r : BoxRecord) (s : State) : Prop := r.window ∨ (s.tick < 100000 * (r.t / 100000 + 1) ∧ s.power ≠ .ship)

theorem exec_strataCommitComplete_none {s : State} (none_ : s.bbx.recs = []) : exec .strataCommitComplete s = .next s := by
  show execStrataCommitComplete s = _
  rw [execStrataCommitComplete, none_]
  rfl

section
variable {s : State} {r : BoxRecord} {l : List BoxRecord} (first : s.bbx.recs = r :: l)
include first

theorem exec_strataCommitComplete_early (early : commitEarly r s) : exec .strataCommitComplete s = .next s := by
  show execStrataCommitComplete s = _
  rw [execStrataCommitComplete, first]
  exact if_pos early

/-- The blocks still to be copied go first; then the first record's commit completes. -/
theorem exec_strataCommitComplete_commits {r1 : BoxRecord} {l1 : List BoxRecord} (due : ¬commitEarly r s)
    (copied : (s.copyTops 251).bbx.recs = r1 :: l1) : exec .strataCommitComplete s = .next ((s.copyTops 251).commitComplete r1) := by
  show execStrataCommitComplete s = _
  rw [execStrataCommitComplete, first]
  refine (if_neg due).trans ?_
  dsimp only
  rw [copied]
  rfl

end

/-- Settles O40, command by command, by the equation of its `exec` and the form of it that the clause's conditions choose. The clauses rest on choices
of the model: the bytes copied are an operand, and when a post window closes (log entry 81). -/
theorem blackBoxCommands : Obligations.BlackBoxCommands := by
  unfold Obligations.BlackBoxCommands
  refine ⟨?blockNot, ?blockOff, ?block, ?trigger, ?triggerDisabled, ?triggerOpens, ?triggerCmd, ?pinned, ?pin, ?pinRefused, ?unpin, ?deleteWriting,
    ?delete, ?windows, ?commitNone, ?commitEarly, ?commit⟩
  case blockNot => exact fun x y copied s not => (exec_blackBoxBlock x y copied s).trans (if_pos not)
  case blockOff => exact fun x y copied s due off => (exec_blackBoxBlock x y copied s).trans ((if_neg due).trans (if_pos off))
  case block => exact fun x y copied s due on => (exec_blackBoxBlock x y copied s).trans ((if_neg due).trans (if_neg on))
  case trigger => exact fun src fine s => exec_blackBoxTrigger src fine s
  case triggerDisabled =>
    exact fun src fine s disabled => next_of_eq (exec_blackBoxTrigger src fine s) (triggerAt_disabled disabled)
  case triggerOpens =>
    exact fun src fine s taken none_ => next_of_eq (exec_blackBoxTrigger src fine s) (triggerAt_opens taken none_)
  case triggerCmd => exact fun r s may => exec_bbxTriggerCmd_allowed may
  case pinned => exact fun r k s may pinned => next_of_eq (exec_pin_allowed may) (pin_pinned pinned)
  case pin => exact fun r k s may free room => next_of_eq (exec_pin_allowed may) (pin_free free room)
  case pinRefused => exact fun r k s may free full => next_of_eq (exec_pin_allowed may) (pin_refused free full)
  case unpin => exact fun r k s may => exec_unpin_allowed may
  case deleteWriting => exact fun r k s may writing => next_of_eq (exec_delete_allowed may) (deleteRecord_writing writing)
  case delete => exact fun r k s may closed => next_of_eq (exec_delete_allowed may) (deleteRecord_closed closed)
  case windows => exact exec_postWindowClose
  case commitNone => exact fun s none_ => exec_strataCommitComplete_none none_
  case commitEarly => exact fun s r l first early => exec_strataCommitComplete_early first early
  case commit => exact fun s r l r1 l1 first due copied => exec_strataCommitComplete_commits first due copied

end Sys2Proof.Proofs
end

section
/-! The event recorder (file 18: R441 to R455, R623): what each command runs, and what a limiter write and a CLEAR do in each form. -/

namespace Sys2Proof.Proofs

open Sys2Proof.Machine

/-! ### A record made, and what waits (R443, R623) -/

section
variable {i : Nat} {s : State}

theorem exec_eventRecord_unloaded (unloaded : !s.evr.loaded) : exec (.eventRecord (.made i)) s = .next s := if_pos unloaded

variable (loaded : ¬(!s.evr.loaded))
include loaded

theorem exec_eventRecord_none (none_ : s.made[i]? = none) : exec (.eventRecord (.made i)) s = .next s := by
  refine (if_neg loaded).trans ?_
  rw [none_]
  rfl

variable {m : Made} (made : s.made[i]? = some m)
include made

/-- A change of the state is recorded at the end of its tick, not in it. -/
theorem exec_eventRecord_early (early : m.ev = .shelfState ∧ m.tick = s.tick) : exec (.eventRecord (.made i)) s = .next s := by
  refine (if_neg loaded).trans ?_
  rw [made]
  exact if_pos early

theorem exec_eventRecord_made (due : ¬(m.ev = .shelfState ∧ m.tick = s.tick)) :
    exec (.eventRecord (.made i)) s = .next (({ s with made := s.made.eraseIdx i }).recordIn (s.recordOf m)) := by
  refine (if_neg loaded).trans ?_
  rw [made]
  exact if_neg due

end

theorem exec_eventRecord_policy (code : BitVec 16) (payload : List Byte) (cause : Nat) (s : State) :
    exec (.eventRecord (.policy code payload cause)) s =
    if Config.codeDefined code.toNat then
      .next (s.recordIn (s.record code.toNat (codeSev code.toNat) (codeClass code.toNat) ((payload ++ List.replicate 12 0).take 12) cause))
    else .next s := rfl

theorem exec_waitingRecordQueued (s : State) : exec .waitingRecordQueued s = .next s.flushWaiting := rfl

/-! ### Summaries of losses (R443) -/

/-- The drops `d` are reported with the event `e`. -/
def reportDrops (e : Ev) (d : Drops) (s : State) : State := s.recordOwn e [d.count, d.first % 2 ^ 32, d.last % 2 ^ 32]

/-- Traces dropped are reported, and counted anew. -/
def tracesReported (s : State) : State :=
  s.iff (0 < s.evr.dropTrace.count) (fun s =>
    let s' := reportDrops .traceGap s.evr.dropTrace s
    { s' with evr := { s'.evr with dropTrace := {} } })

/-- Events dropped are reported, and counted anew. -/
def eventsReported (s : State) : State :=
  s.iff (0 < s.evr.dropEvent.count) (fun s =>
    let s' := reportDrops .eventLoss s.evr.dropEvent s
    { s' with evr := { s'.evr with dropEvent := {} } })

theorem tracesReported_none {s : State} (none_ : s.evr.dropTrace.count = 0) : tracesReported s = s := if_neg (by simp [none_])

theorem eventsReported_count {s : State} (some_ : 0 < s.evr.dropEvent.count) : (eventsReported s).evr.dropEvent.count = 0 := by
  rw [eventsReported, State.iff, if_pos (decide_eq_true some_)]

theorem exec_lossSummaryQueued (s : State) : exec .lossSummaryQueued s =
    if 256 < s.freePlaces then .next (eventsReported (tracesReported s)) else .next s := rfl

theorem lossSummaryQueued_runs {s : State} (room : 256 < s.freePlaces) (traces : s.evr.dropTrace.count = 0) (events : 0 < s.evr.dropEvent.count) :
    Runs .lossSummaryQueued s (fun t => t.evr.dropEvent.count = 0 ∧ t.tick = s.tick) := by
  have runs := (exec_lossSummaryQueued s).trans (if_pos room)
  refine ⟨_, runs, ?_, (exec_kept _ s rfl _ runs).tick⟩
  rw [tracesReported_none traces]
  exact eventsReported_count events

/-! ### The drain to the ring (R445) -/

theorem exec_eventDrain_none {s : State} (none_ : s.evr.queue = []) : exec .eventDrain s = .next s := by
  show execEventDrain s = _
  rw [execEventDrain, none_]
  rfl

/-- The wait of the drain at the port is over: what it lasted is shown. -/
def stallShown (s : State) : State :=
  match s.evr.stalledSince with
  | none => s
  | some t => ((s.maxOf NVM_PORT_MAX_WAIT_US (s.tick - t)).set EVR_STALL_LAST_MS (min ((s.tick - t) / 1000) 65535)).maxOf
      EVR_STALL_MAX_MS ((s.tick - t) / 1000)

/-- A record leaves the queue for its slot of the ring. -/
def drained (r : Rec) (rest : List Rec) (s : State) : State :=
  let stall := stallShown s
  let s := { stall with evr := { stall.evr with queue := rest, stalledSince := none } }
  (((s.ringWrite r).set EVR_WRITTEN_SEQ r.seq).incWrap EVR_WRITE_CNT_COUNT).set EVR_QUEUE_FILL rest.length

theorem exec_eventDrain_some {s : State} {r : Rec} {rest : List Rec} (queued : s.evr.queue = r :: rest) : exec .eventDrain s =
    if s.boot.g.isNone then .next s
    else if s.nvm.strata || s.nvm.bake.isSome then
      .next { s with evr := { s.evr with stalledSince := some (s.evr.stalledSince.getD s.tick) } }
    else .next (drained r rest s) := by
  show execEventDrain s = _
  unfold execEventDrain
  split
  case h_1 none_ => cases queued.symm.trans none_
  case h_2 r' rest' queued' =>
    cases queued.symm.trans queued'
    rfl

/-! ### The limiter (R447, R448, R453) -/

theorem exec_bucketRefill (s : State) : exec .bucketRefill s = .next s.refillTurn := rfl

theorem exec_suppressionWindowEnd (s : State) : exec .suppressionWindowEnd s = .next s.windowTurn := rfl

theorem exec_rlCfgWrite_allowed {r : Requester} {w : Word} {s : State} (may : s.mayWrite r EVR_RL_CFG_CODE.addr = true) :
    exec (.rlCfgWrite r w) s = .next ((s.touch r).rlWrite r w) := congrArg Host.Outcome.next (State.gate_ok may)

section
variable {s : State}

theorem refillTurn_not (not : s.tick / 1000 - s.evr.refilled = 0) : s.refillTurn = s := if_pos not

theorem refillTurn_due (due : ¬s.tick / 1000 - s.evr.refilled = 0) :
    s.refillTurn = { s with evr := { s.evr with
      refilled := s.tick / 1000, buckets := s.evr.buckets.map (fun b => b.refill (s.tick / 1000 - s.evr.refilled)),
      shared := s.sharedBucket.refill (s.tick / 1000 - s.evr.refilled) } } := if_neg due

theorem windowTurn_not (not : s.tick / 1000000 = s.evr.window) : s.windowTurn = s := if_pos not

theorem windowTurn_due (due : ¬s.tick / 1000000 = s.evr.window) :
    s.windowTurn = (({ s with evr := { s.evr with window := s.tick / 1000000 } }).each (List.finRange 256)
      (fun s i => s.summarise i)).summariseShared := if_neg due

end

/-! ### Commands and the save of the counters (R441, R449, R451, R455) -/

theorem exec_evrHeadRead_allowed {r : Requester} {s : State} (may : s.mayRead r EVR_HEAD_SEQ.addr = true) :
    exec (.evrHeadRead r) s = .next ((s.touch r).headRead ((s.touch r).srcOf r)) := congrArg Host.Outcome.next (State.gateRead_ok may)

theorem exec_clear_allowed {r : Requester} {s : State} (may : s.mayCommand r EVR_CMD_CLEAR.addr .curator = true) :
    exec (.clear r) s = .next ((s.touch r).clearRecorder r) := congrArg Host.Outcome.next (State.gateRole_ok may)

theorem exec_inject_allowed {r : Requester} {s : State} (may : s.mayCommand r EVR_CMD_INJECT.addr .conservator = true) :
    exec (.inject r) s = .next (s.touch r).inject := congrArg Host.Outcome.next (State.gateRole_ok may)

/-- The sequence number a CLEAR of the source quotes. -/
def quotedSeq (r : Requester) (s : State) : Nat := s.get (srcField (s.srcOf r) EVR_CLEAR_SEQ_SEQ)

/-- The recorder is cleared up to the number quoted, and the CLEAR recorded. -/
def recorderCleared (r : Requester) (s : State) : State :=
  let q := quotedSeq r s
  let n : Nat := (q + 1 + 2 ^ 32 - s.get EVR_TAIL_SEQ) % 2 ^ 32
  let s' := { s with evr := { s.evr with queue := [] } }
  let s' := s'.set EVR_TAIL_SEQ (q + 1)
  let port := match s.srcOf r with
    | .eth0 => 1
    | .eth1 => 2
    | _ => 0
  let s' := s'.enqueue (s'.recordOf { ev := .cleared, obj := 0, data := [(q : Int), s.slotOf r, port, n], tick := s.tick })
  (s'.inc EVR_CLEAR_STAT_CLEARS).set EVR_CLEAR_LAST_SEQ (q + 1)

section
variable {s : State} {r : Requester}

theorem clearRecorder_head (head : quotedSeq r s = s.get EVR_HEAD_SEQ) : s.clearRecorder r = recorderCleared r s := if_pos head

theorem clearRecorder_refused (notHead : ¬quotedSeq r s = s.get EVR_HEAD_SEQ) :
    s.clearRecorder r = (s.inc EVR_CLEAR_STAT_REFUSED).recordOwn .clearRefused [quotedSeq r s, s.get EVR_HEAD_SEQ] := if_neg notHead

end

theorem exec_timeSave (s : State) : exec .timeSave s =
    if s.tick % 10000000 = 0 then .next (s.timeSave (s.get TB_PCYCLE_COUNT) (s.opTimeAt s.tick) s.boot.shipTime) else .next s := rfl

/-- Settles O41, command by command, by the equation of its `exec` and the form of it that the clause's conditions choose. The clauses rest on choices
of the model: the order of records made in one tick, what a record of the policy layer and a summary carry, and when the port is free (log entries 5,
82 and 86). -/
theorem recorderCommands : Obligations.RecorderCommands := by
  unfold Obligations.RecorderCommands
  refine ⟨?recordUnloaded, ?recordNone, ?recordEarly, ?record, ?recordPolicy, ?recordUndefined, ?waiting, ?loss, ?lossNot, ?lossRuns, ?drainNone,
    ?drainEarly, ?drainStalled, ?drain, ?refillNot, ?refill, ?windowNot, ?window, ?limitOverruled, ?limit, ?head, ?clear, ?clearRefused, ?inject,
    ?save, ?saveNot⟩
  case recordUnloaded =>
    rintro w s i rfl unloaded
    exact exec_eventRecord_unloaded unloaded
  case recordNone =>
    rintro w s i rfl loaded none_
    exact exec_eventRecord_none loaded none_
  case recordEarly =>
    rintro w s i m rfl loaded made early
    exact exec_eventRecord_early loaded made early
  case record =>
    rintro w s i m rfl loaded made due
    exact exec_eventRecord_made loaded made due
  case recordPolicy =>
    rintro w s code payload cause rfl defined
    exact (exec_eventRecord_policy code payload cause s).trans (if_pos defined)
  case recordUndefined =>
    rintro w s code payload cause rfl undefined
    exact (exec_eventRecord_policy code payload cause s).trans (if_neg undefined)
  case waiting => exact exec_waitingRecordQueued
  case loss => exact fun s room => (exec_lossSummaryQueued s).trans (if_pos room)
  case lossNot => exact fun s full => (exec_lossSummaryQueued s).trans (if_neg full)
  case lossRuns => exact fun s room traces events => lossSummaryQueued_runs room traces events
  case drainNone => exact fun s none_ => exec_eventDrain_none none_
  case drainEarly => exact fun s r rest queued early => (exec_eventDrain_some queued).trans (if_pos early)
  case drainStalled =>
    exact fun s r rest queued started busy => (exec_eventDrain_some queued).trans ((if_neg started).trans (if_pos busy))
  case drain => exact fun s r rest queued started free => (exec_eventDrain_some queued).trans ((if_neg started).trans (if_neg free))
  case refillNot => exact fun s not => next_of_eq (exec_bucketRefill s) (refillTurn_not not)
  case refill => exact fun s due => next_of_eq (exec_bucketRefill s) (refillTurn_due due)
  case windowNot => exact fun s not => next_of_eq (exec_suppressionWindowEnd s) (windowTurn_not not)
  case window => exact fun s due => next_of_eq (exec_suppressionWindowEnd s) (windowTurn_due due)
  case limitOverruled => exact fun r w s may overruled => next_of_eq (exec_rlCfgWrite_allowed may) (ranked_overruled overruled)
  case limit => exact fun r w s may stands => next_of_eq (exec_rlCfgWrite_allowed may) (ranked_stands stands)
  case head => exact fun r s may => exec_evrHeadRead_allowed may
  case clear => exact fun r s may head => next_of_eq (exec_clear_allowed may) (clearRecorder_head head)
  case clearRefused => exact fun r s may notHead => next_of_eq (exec_clear_allowed may) (clearRecorder_refused notHead)
  case inject => exact fun r s may => exec_inject_allowed may
  case save => exact fun s due => (exec_timeSave s).trans (if_pos due)
  case saveNot => exact fun s not => (exec_timeSave s).trans (if_neg not)

end Sys2Proof.Proofs
end

section
/-! The frames of the Helkar link (file 19: R462 to R469, R478): what each command runs, and what a frame received does in each form. -/

namespace Sys2Proof.Proofs

open Sys2Proof.Machine

/-! ### Frames sent (R463) -/

/-- A BEACON is due: every 10 ticks of the pair, from tick g on. -/
def beaconDue (s : State) : Bool := s.inPair && s.sdGood && s.boot.g.isSome && decide (s.pairTick % 10 = 0)

theorem exec_beaconSend (s : State) : exec .beaconSend s =
    if beaconDue s then .next (s.frameSent 0x01 0 (some (s.beaconBytes (s.pairFine 0 % 50).toNat))) else .next s := rfl

theorem beaconSend_runs {s : State} (pair : s.inPair = true) (good : s.sdGood = true) (started : s.boot.g.isSome = true)
    (due : s.pairTick % 10 = 0) : Runs .beaconSend s (fun t =>
    t.hlk.frame = s.frameBytes 0x01 0 s.hlk.txSeq (s.beaconBytes (s.pairFine 0 % 50).toNat) ∧ t.hlk.txSeq = (s.hlk.txSeq + 1) % 2 ^ 32 ∧
    t.regs = (s.incWrap HLK_TX_CNT_FRAMES).regs ∧ t.mem = s.mem) :=
  ⟨_, (exec_beaconSend s).trans (if_pos (by simp [beaconDue, pair, good, started, due])), rfl, rfl, rfl, rfl⟩

/-- A LOOP is due: every 100 ticks of the pair, from the primary. -/
def loopDue (s : State) : Bool := s.mirrors 1 && s.on HLK_STATE_PRIMARY && decide (s.pairTick % 100 = 0)

/-- The next slots go, and the slot after them is the next. -/
def loopSent (s : State) : State :=
  let l := s.loopSlots
  let t := s.frameSent 0x11 0 (some (l.map s.loopBytes).flatten)
  { t with hlk := { t.hlk with loopNext := match l.getLast? with
      | some n => (n.val + 1) % 64
      | none => 0 } }

theorem exec_loopSend (s : State) : exec .loopSend s = if loopDue s then .next (loopSent s) else .next s := rfl

theorem loopSend_runs {s : State} (mirrored : s.mirrors 1 = true) (primary : s.on HLK_STATE_PRIMARY = true) (due : s.pairTick % 100 = 0) :
    Runs .loopSend s (fun t =>
    t.hlk.frame = s.frameBytes 0x11 0 s.hlk.txSeq (s.loopSlots.map s.loopBytes).flatten ∧ t.hlk.txSeq = (s.hlk.txSeq + 1) % 2 ^ 32 ∧
    t.regs = (s.incWrap HLK_TX_CNT_FRAMES).regs ∧ t.mem = s.mem) :=
  ⟨_, (exec_loopSend s).trans (if_pos (by simp [loopDue, mirrored, primary, due])), rfl, rfl, rfl, rfl⟩

/-! ### A frame received (R463, R465) -/

section
variable {s : State} {h : FrameHead} {f : State → State} (pair : s.inPair = true) (good : s.sdGood = true)
include pair good

/-- In a pair with the link's signal there, a frame is heard. -/
theorem frame_heard : ¬(!s.inPair || !s.sdGood) := by simp [pair, good]

/-- A frame with a bad CRC is counted, and answered with NAK 1. -/
theorem frameIn_bad {acked : Bool} (bad : h.crcOk = false) : s.frameIn h acked f = (s.inc HLK_LINK_ERR_CRC).nakSent h.seq.toNat 1 :=
  (if_neg (frame_heard pair good)).trans (if_pos (by rw [bad]; rfl))

variable (right : h.crcOk = true)
include right

/-- A frame that needs no ACK is applied. -/
theorem frameIn_plain : s.frameIn h false f = f (s.incWrap HLK_RX_CNT_FRAMES) :=
  (if_neg (frame_heard pair good)).trans (if_neg (by simp [right]))

variable (up : (s.incWrap HLK_RX_CNT_FRAMES).linkUp = true)
include up

/-- A frame that was received before is acknowledged again, and not applied. -/
theorem frameIn_again (again : ∃ q, s.hlk.rxSeq = some q ∧ seqUpTo h.seq.toNat q = true) :
    s.frameIn h true f = (s.incWrap HLK_RX_CNT_FRAMES).ackSent := by
  obtain ⟨q, received, before⟩ := again
  simp [State.frameIn, pair, good, right, up, received, before]

/-- The next frame in order is applied, and acknowledged. -/
theorem frameIn_next (order : h.inOrder = true) (new : ∀ q, s.hlk.rxSeq = some q → seqUpTo h.seq.toNat q = false) :
    s.frameIn h true f = (f { s.incWrap HLK_RX_CNT_FRAMES with hlk := { s.hlk with rxSeq := some h.seq.toNat } }).ackSent := by
  cases received : s.hlk.rxSeq with
  | none => simp [State.frameIn, pair, good, right, up, order, received]
  | some q => simp [State.frameIn, pair, good, right, up, order, received, new q received]

end

/-! ### What each frame does (R463 to R469, R478) -/

/-- Frames acknowledged wait no longer; those that carried bulk blocks count for the resynchronisation. -/
def framesAcked (upto : Word) (s : State) : State :=
  let gone := s.hlk.unacked.filter (fun f => seqUpTo f.seq upto.toNat)
  let s := { s with hlk := { s.hlk with unacked := s.hlk.unacked.filter (fun f => !seqUpTo f.seq upto.toNat) } }
  s.resyncAcked (gone.filter (fun f => match f.body with
    | .bulk _ => true
    | _ => false)).length

/-- A NAK is counted and recorded; one of a locked or refused field shows that the configurations differ. -/
def nakNoted (seq : Word) (reason : Fin 256) (s : State) : State :=
  let s := (s.inc (if reason.val = 2 then HLK_NAK_LOCKED else HLK_NAK_OTHER)).event .pairNak 0 [seq.toNat, reason.val]
  let s := { s with hlk := { s.hlk with stableSince := s.tick } }
  if reason.val = 2 ∨ reason.val = 3 then ({ s with hlk := { s.hlk with nakHold := true } }).setB HLK_STAT_CFG_DIVERGED true else s

/-- Loop records are taken while the link is up and the class is mirrored. -/
def loopTaken (l : List LoopRecord) (s : State) : State := if s.linkUp && s.mirrors 1 then s.each l State.loopIn else s

/-- A field of the configuration is applied by its stamp, and a refusal answered. -/
def configTaken (h : FrameHead) (addr : BitVec 24) (value : Word) (stamp : BitVec 64) (s : State) : State :=
  s.iff (s.mirrors 2) (fun s =>
    let p := s.flushConfig.applyConfig addr.toNat value stamp.toNat
    p.1.refused h p.2)

/-- A BAKE or a COMMIT of the partner is carried out here. -/
def commandTaken (code : Byte) (s : State) : State :=
  s.iff (s.mirrors 2) (fun s => if code = 1 then s.bakeCmd .partner else if code = 2 then s.commitCmd else s)

theorem exec_pairBeacon (h : FrameHead) (b : Beacon) (s : State) : exec (.pairBeacon h b) s =
    .next (s.frameIn h false (fun s => s.beaconIn h b)).settle := rfl

theorem exec_pairAck (h : FrameHead) (upto : Word) (s : State) : exec (.pairAck h upto) s = .next (s.frameIn h false (framesAcked upto)) := rfl

theorem exec_pairNak (h : FrameHead) (seq : Word) (reason : Fin 256) (s : State) : exec (.pairNak h seq reason) s =
    .next (s.frameIn h false (nakNoted seq reason)).settle := rfl

theorem exec_pairObject (h : FrameHead) (l : List ObjRecord) (s : State) : exec (.pairObject h l) s =
    .next (s.frameIn h true (fun s => s.iff (s.mirrors 0) (fun s => s.applyObjects l))) := rfl

theorem exec_pairLoop (h : FrameHead) (l : List LoopRecord) (s : State) : exec (.pairLoop h l) s =
    .next (s.frameIn h false (loopTaken l)) := rfl

theorem exec_pairConfig (h : FrameHead) (addr : BitVec 24) (fromB : Bool) (value : Word) (stamp : BitVec 64) (s : State) :
    exec (.pairConfig h addr fromB value stamp) s = .next (s.frameIn h true (configTaken h addr value stamp)) := rfl

theorem exec_pairEstimator (h : FrameHead) (l : List EstRecord) (s : State) : exec (.pairEstimator h l) s =
    .next (s.frameIn h true (fun s => s.iff (s.mirrors 3) (fun s => s.applyEsts l))) := rfl

theorem exec_pairCatalogue (h : FrameHead) (l : List CatRecord) (s : State) : exec (.pairCatalogue h l) s =
    .next (s.frameIn h true (fun s => s.iff (s.mirrors 4) (fun s => s.applyCats l))).settle := rfl

theorem exec_pairCommand (h : FrameHead) (code : Byte) (s : State) : exec (.pairCommand h code) s =
    .next (s.frameIn h true (commandTaken code)).settle := rfl

theorem exec_pairBulk (h : FrameHead) (b : BulkBlock) (s : State) : exec (.pairBulk h b) s =
    .next (s.frameIn h true (fun s => s.bulkIn h b)).settle := rfl

theorem pairAck_runs (h : FrameHead) (upto : Word) (s : State) :
    Runs (.pairAck h upto) s (fun t => t.tick = s.tick ∧ t.power = s.power) :=
  ⟨_, exec_pairAck h upto s, (exec_kept _ s rfl _ (exec_pairAck h upto s)).tick, (exec_stays _ s _ rfl (exec_pairAck h upto s)).1⟩

/-- Settles O42, command by command, by the equation of its `exec` and the form of a received frame that the clause's conditions choose. The clauses
rest on choices of the model: what a frame carries, and what a mirrored record holds (log entries 35 and 36). -/
theorem pairFrames : Obligations.PairFrames := by
  unfold Obligations.PairFrames
  refine ⟨?beacon, ?beaconNot, ?beaconRuns, ?loop, ?loopNot, ?loopRuns, ?beaconIn, ?beaconBad, ?beaconPlain, ?ackIn, ?ackInRuns, ?ackBad, ?ackPlain,
    ?nakIn, ?nakBad, ?nakPlain, ?objectIn, ?objectBad, ?objectNext, ?objectAgain, ?loopIn, ?loopBad, ?loopPlain, ?configIn, ?configBad, ?configNext,
    ?configAgain, ?estimatorIn, ?estimatorBad, ?estimatorNext, ?estimatorAgain, ?catalogueIn, ?catalogueBad, ?catalogueNext, ?catalogueAgain,
    ?commandIn, ?commandBad, ?commandNext, ?commandAgain, ?bulkIn, ?bulkBad, ?bulkNext, ?bulkAgain⟩
  case beacon => exact fun s due => (exec_beaconSend s).trans (if_pos due)
  case beaconNot => exact fun s not => (exec_beaconSend s).trans (if_neg not)
  case beaconRuns => exact fun s pair good started due => beaconSend_runs pair good started due
  case loop => exact fun s due => (exec_loopSend s).trans (if_pos due)
  case loopNot => exact fun s not => (exec_loopSend s).trans (if_neg not)
  case loopRuns => exact fun s mirrored primary due => loopSend_runs mirrored primary due
  case beaconIn => exact exec_pairBeacon
  case beaconBad => exact fun h b s pair good bad => next_of_eq (exec_pairBeacon h b s) (congrArg State.settle (frameIn_bad pair good bad))
  case beaconPlain => exact fun h b s pair good right => next_of_eq (exec_pairBeacon h b s) (congrArg State.settle (frameIn_plain pair good right))
  case ackIn => exact exec_pairAck
  case ackInRuns => exact fun h upto s _ _ _ => pairAck_runs h upto s
  case ackBad => exact fun h upto s pair good bad => next_of_eq (exec_pairAck h upto s) (frameIn_bad pair good bad)
  case ackPlain => exact fun h upto s pair good right => next_of_eq (exec_pairAck h upto s) (frameIn_plain pair good right)
  case nakIn => exact exec_pairNak
  case nakBad =>
    exact fun h seq reason s pair good bad => next_of_eq (exec_pairNak h seq reason s) (congrArg State.settle (frameIn_bad pair good bad))
  case nakPlain =>
    exact fun h seq reason s pair good right => next_of_eq (exec_pairNak h seq reason s) (congrArg State.settle (frameIn_plain pair good right))
  case objectIn => exact exec_pairObject
  case objectBad => exact fun h l s pair good bad => next_of_eq (exec_pairObject h l s) (frameIn_bad pair good bad)
  case objectNext => exact fun h l s pair good right up order new => next_of_eq (exec_pairObject h l s) (frameIn_next pair good right up order new)
  case objectAgain => exact fun h l s pair good right up again => next_of_eq (exec_pairObject h l s) (frameIn_again pair good right up again)
  case loopIn => exact exec_pairLoop
  case loopBad => exact fun h l s pair good bad => next_of_eq (exec_pairLoop h l s) (frameIn_bad pair good bad)
  case loopPlain => exact fun h l s pair good right => next_of_eq (exec_pairLoop h l s) (frameIn_plain pair good right)
  case configIn => exact exec_pairConfig
  case configBad =>
    exact fun h addr fromB value stamp s pair good bad => next_of_eq (exec_pairConfig h addr fromB value stamp s) (frameIn_bad pair good bad)
  case configNext =>
    exact fun h addr fromB value stamp s pair good right up order new =>
      next_of_eq (exec_pairConfig h addr fromB value stamp s) (frameIn_next pair good right up order new)
  case configAgain =>
    exact fun h addr fromB value stamp s pair good right up again =>
      next_of_eq (exec_pairConfig h addr fromB value stamp s) (frameIn_again pair good right up again)
  case estimatorIn => exact exec_pairEstimator
  case estimatorBad => exact fun h l s pair good bad => next_of_eq (exec_pairEstimator h l s) (frameIn_bad pair good bad)
  case estimatorNext =>
    exact fun h l s pair good right up order new => next_of_eq (exec_pairEstimator h l s) (frameIn_next pair good right up order new)
  case estimatorAgain => exact fun h l s pair good right up again => next_of_eq (exec_pairEstimator h l s) (frameIn_again pair good right up again)
  case catalogueIn => exact exec_pairCatalogue
  case catalogueBad => exact fun h l s pair good bad => next_of_eq (exec_pairCatalogue h l s) (congrArg State.settle (frameIn_bad pair good bad))
  case catalogueNext =>
    exact fun h l s pair good right up order new =>
      next_of_eq (exec_pairCatalogue h l s) (congrArg State.settle (frameIn_next pair good right up order new))
  case catalogueAgain =>
    exact fun h l s pair good right up again =>
      next_of_eq (exec_pairCatalogue h l s) (congrArg State.settle (frameIn_again pair good right up again))
  case commandIn => exact exec_pairCommand
  case commandBad => exact fun h code s pair good bad => next_of_eq (exec_pairCommand h code s) (congrArg State.settle (frameIn_bad pair good bad))
  case commandNext =>
    exact fun h code s pair good right up order new =>
      next_of_eq (exec_pairCommand h code s) (congrArg State.settle (frameIn_next pair good right up order new))
  case commandAgain =>
    exact fun h code s pair good right up again =>
      next_of_eq (exec_pairCommand h code s) (congrArg State.settle (frameIn_again pair good right up again))
  case bulkIn => exact exec_pairBulk
  case bulkBad => exact fun h b s pair good bad => next_of_eq (exec_pairBulk h b s) (congrArg State.settle (frameIn_bad pair good bad))
  case bulkNext =>
    exact fun h b s pair good right up order new =>
      next_of_eq (exec_pairBulk h b s) (congrArg State.settle (frameIn_next pair good right up order new))
  case bulkAgain =>
    exact fun h b s pair good right up again => next_of_eq (exec_pairBulk h b s) (congrArg State.settle (frameIn_again pair good right up again))

end Sys2Proof.Proofs
end

section
/-! Timers of the pair and of its Registrar (file 19: R461 to R465, R474 to R479): what each command runs, and its forms. -/

namespace Sys2Proof.Proofs

open Sys2Proof.Machine

/-! ### Frames sent again (R463) -/

/-- The frames whose ACK is 20 ticks late. -/
def lateFrames (s : State) : List Sent := s.hlk.unacked.filter (fun f => decide (f.at_ + 20 ≤ s.tick))

/-- The late frames go again. -/
def sentAgain (s : State) : State :=
  let due := lateFrames s
  let s := (s.addSat HLK_RETX_COUNT due.length).set HLK_TX_CNT_FRAMES (s.get HLK_TX_CNT_FRAMES + due.length)
  let frame := match due.getLast?.bind (fun f => f.body.payload.map (fun p => (f, p))) with
    | some (f, p) => s.frameBytes f.body.type 3 f.seq p
    | none => []
  { s with hlk := { s.hlk with frame := frame, unacked := s.hlk.unacked.map (fun f =>
    if f.at_ + 20 ≤ s.tick then { f with at_ := s.tick, resends := f.resends + 1 } else f) } }

theorem exec_helkarRetransmit (s : State) : exec .helkarRetransmit s =
    if (lateFrames s).isEmpty ∨ !s.linkUp then .next s
    else if (lateFrames s).any (fun f => decide (8 ≤ f.resends)) then .next s.linkDown.settle
    else .next (sentAgain s) := rfl

theorem helkarRetransmit_runs {f : Sent} {s : State} (one : s.hlk.unacked = [f]) (late : f.at_ + 20 ≤ s.tick) (few : f.resends < 8)
    (up : s.linkUp = true) : Runs .helkarRetransmit s (fun t =>
    t.hlk.unacked = [{ f with at_ := s.tick, resends := f.resends + 1 }] ∧ t.mem = s.mem) := by
  have frames : lateFrames s = [f] := by simp [lateFrames, one, late]
  have waits : ¬((lateFrames s).isEmpty ∨ !s.linkUp) := by simp [frames, up]
  have again : ¬(lateFrames s).any (fun f => decide (8 ≤ f.resends)) := by simp [frames, few]
  have resent : (sentAgain s).hlk.unacked =
      s.hlk.unacked.map (fun f => if f.at_ + 20 ≤ s.tick then { f with at_ := s.tick, resends := f.resends + 1 } else f) := rfl
  refine ⟨_, (exec_helkarRetransmit s).trans ((if_neg waits).trans (if_neg again)), ?_, rfl⟩
  rw [resent, one, List.map_singleton, if_pos late]

/-! ### The link goes down (R465) -/

/-- What the link's end leaves of it. -/
def linkDropped (s : State) : State :=
  let s := (((s.setB HLK_STAT_LINK_UP false).setB HLK_LINK_STAT_LOCKED false).inc HLK_LINK_STAT_DOWNS).event .helkarDown
  let s := { s with hlk := { s.hlk with
    upSince := none, downAt := some s.tick, newOffset := none, errSince := none, crcRun := 0, unacked := [], rxSeq := none, sentObj := [],
    sentEst := [], sentCat := [], loops := [], resync := [] } }
  let s := s.setB HLK_STAT_TIME_ERR false
  if s.join = 3 ∨ s.join = 4 then s.set HLK_STATE_JOIN 2 else s

theorem linkDown_down {s : State} (down : !s.on HLK_STAT_LINK_UP) : s.linkDown = s := if_pos down

theorem linkDown_up {s : State} (up : ¬(!s.on HLK_STAT_LINK_UP)) : s.linkDown = s.keepTime linkDropped := if_neg up

/-- No BEACON came for the timeout. -/
def beaconLate (s : State) : Bool :=
  match s.hlk.beaconAt with
  | some t => decide (t + 1 + s.get HLK_TIMING_LINK_TMO ≤ s.tick)
  | none => true

theorem exec_helkarLinkTimeout (violations : Nat) (s : State) : exec (.helkarLinkTimeout violations) s =
    if !s.inPair then .next s
    else if beaconLate (s.violated violations) = true ∨ 16 < (s.violated violations).hlk.violations.2
      then .next (s.violated violations).linkDown.settle
    else .next (s.violated violations) := rfl

/-! ### The offset of the pair's time (R461) -/

/-- The unit slews: it follows its partner, and the last step is 1,000 ticks ago. -/
def slews (s : State) : Prop :=
  s.following ∧ s.hlk.newOffset.isNone ∧ s.hlk.slewAt + 1000 ≤ s.tick ∧ s.getI HLK_TIME_STAT_ERR ≠ 0

/-- The offset goes one step towards the partner's time. -/
def slewed (s : State) : State :=
  let e := s.getI HLK_TIME_STAT_ERR
  let s := (s.inc HLK_TIME_STAT_SLEWS).setI HLK_TIME_STAT_ERR (e - e.sign)
  { s with hlk := { s.hlk with offset := s.hlk.offset + e.sign, slewAt := s.tick } }

theorem exec_pairOffsetSlew_slews {s : State} (due : slews s) : exec .pairOffsetSlew s = .next (slewed s) := if_pos due

theorem exec_pairOffsetSlew_not {s : State} (not : ¬slews s) : exec .pairOffsetSlew s = .next s := if_neg not

theorem pairOffsetSlew_runs {s : State} (follows : s.following = true) (steady : s.hlk.newOffset = none) (long : s.hlk.slewAt + 1000 ≤ s.tick)
    (apart : s.getI HLK_TIME_STAT_ERR ≠ 0) : Runs .pairOffsetSlew s (fun t =>
    t.hlk.offset = s.hlk.offset + (s.getI HLK_TIME_STAT_ERR).sign ∧ t.hlk.slewAt = s.tick ∧ t.mem = s.mem) :=
  ⟨_, exec_pairOffsetSlew_slews ⟨follows, by simp [steady], long, apart⟩, rfl, rfl, rfl⟩

/-! ### The Registrar (R474, R475) -/

/-- A POLL goes to the unit `x`. -/
def pollSent (x : Fin 2) (s : State) : State :=
  let s := s.witClear.witSend (unitOf x) (.poll s.hlk.reg.primaryB (s.viewOf 0) (s.viewOf 1))
  { s with hlk := { s.hlk with reg := { s.hlk.reg with pollAt := s.hlk.reg.pollAt.set x s.tick } } }

theorem witSend_reg (s : State) (dest : WitFrom) (m : WitMsg) : (s.witSend dest m).hlk.reg = s.hlk.reg := rfl

theorem witSend_tick (s : State) (dest : WitFrom) (m : WitMsg) : (s.witSend dest m).tick = s.tick := rfl

theorem witSend_mem (s : State) (dest : WitFrom) (m : WitMsg) : (s.witSend dest m).mem = s.mem := rfl

theorem pollSent_mem (x : Fin 2) (s : State) : (pollSent x s).mem = s.mem := by
  simp only [pollSent, witSend_mem, State.witClear]

theorem pollSent_tick (x : Fin 2) (s : State) : (pollSent x s).tick = s.tick := by
  simp only [pollSent, witSend_tick, State.witClear]

theorem pollSent_pollAt (x : Fin 2) (s : State) : (pollSent x s).hlk.reg.pollAt = s.hlk.reg.pollAt.set x s.tick := by
  simp only [pollSent, witSend_reg, witSend_tick, State.witClear]

theorem exec_witnessPollSend (x : Fin 2) (s : State) : exec (.witnessPollSend x) s =
    if s.unitRole = 3 ∧ s.hlk.reg.since.isSome ∧ s.hlk.reg.pollAt.get x + s.get HLK_WIT_TIME_POLL_US ≤ s.tick then .next (pollSent x s)
    else .next s := rfl

theorem witnessPollSend_runs {x : Fin 2} {s : State} (registrar : s.unitRole = 3) (since : s.hlk.reg.since.isSome = true)
    (due : s.hlk.reg.pollAt.get x + s.get HLK_WIT_TIME_POLL_US ≤ s.tick) :
    Runs (.witnessPollSend x) s (fun t => t.hlk.reg.pollAt.get x = s.tick ∧ t.tick = s.tick ∧ t.mem = s.mem) := by
  refine ⟨_, (exec_witnessPollSend x s).trans (if_pos ⟨registrar, since, due⟩), ?_, pollSent_tick x s, pollSent_mem x s⟩
  rw [pollSent_pollAt]
  exact Vector.getElem_set_self x.isLt

theorem exec_heartbeatTimeout (x : Fin 2) (s : State) : exec (.heartbeatTimeout x) s =
    if s.unitRole = 3 ∧ s.unitSilent x then .next (s.witClear.judgeSilent x) else .next s := rfl

/-- The other unit is alive and hears no partner, while the silent one is not failed already. -/
def verdictDue (x : Fin 2) (s : State) : Bool :=
  s.viewOf (1 - x) == 1 && s.viewOf x != 2 && (match s.lastBeat (1 - x) with
    | some m => !m.partHeard
    | none => false)

section
variable {x : Fin 2} {s : State}

theorem judgeSilent_not (not : !s.hlk.reg.started || !s.unitSilent x) : s.judgeSilent x = s := if_pos not

variable (silent : ¬(!s.hlk.reg.started || !s.unitSilent x))
include silent

theorem judgeSilent_fencing (fencing : s.fencing x) : s.judgeSilent x = s.takeFrom x 2 3 := (if_neg silent).trans (if_pos fencing)

theorem judgeSilent_verdict (none_ : ¬s.fencing x) (verdict : verdictDue x s) : s.judgeSilent x = s.takeFrom x 1 2 :=
  (if_neg silent).trans ((if_neg none_).trans (if_pos verdict))

theorem judgeSilent_open (none_ : ¬s.fencing x) (noVerdict : ¬verdictDue x s) : s.judgeSilent x = s :=
  (if_neg silent).trans ((if_neg none_).trans (if_neg noVerdict))

end

/-- The units heard. -/
def unitsHeard (s : State) : List (Fin 2) := (List.finRange 2).filter (fun x => (s.lastBeat x).isSome)

/-- The first map is issued to the units heard: a unit alone is preferred, else the first unit's preference stands. -/
def registrarStarted (s : State) : State :=
  let l := unitsHeard s
  let s := s.witClear
  let pref := match l, s.lastBeat 0 with
    | [x], _ => x == 1
    | _, some m => m.prefB
    | _, none => false
  let lost : Fin 3 := match l with
    | [x] => if x = 0 then 2 else 1
    | _ => 0
  let s := s.issue { cause := 3, map := 0, primaryB := pref, lost := lost, eff := 0 } l
  let s := s.each (List.finRange 2) (fun s x => s.setView x (if l.contains x then 1 else 2))
  { s with hlk := { s.hlk with reg := { s.hlk.reg with started := true } } }

theorem exec_registrarStart_none {s : State} (none_ : s.hlk.reg.since = none) : exec .registrarStart s = .next s := by
  show execRegistrarStart s = _
  rw [execRegistrarStart, none_]
  rfl

theorem exec_registrarStart_some {s : State} {t : Nat} (since : s.hlk.reg.since = some t) : exec .registrarStart s =
    if s.unitRole ≠ 3 ∨ s.hlk.reg.started ∨ (unitsHeard s).isEmpty ∨ ((unitsHeard s).length = 1 ∧ s.tick < t + s.get HLK_WIT_TIME_HB_TMO)
      then .next s
    else .next (registrarStarted s) := by
  show execRegistrarStart s = _
  rw [execRegistrarStart, since]
  rfl

theorem registrarStart_runs {b : Nat} {s : State} (since : s.hlk.reg.since = some b) (registrar : s.unitRole = 3)
    (first : s.hlk.reg.started = false) (heardA : (s.lastBeat 0).isSome = true) (heardB : (s.lastBeat 1).isSome = true) :
    Runs .registrarStart s (fun t => t.hlk.reg.started = true ∧ t.tick = s.tick) := by
  have both : unitsHeard s = [0, 1] := by simp [unitsHeard, List.finRange_succ, heardA, heardB]
  have runs := (exec_registrarStart_some since).trans (if_neg (by simp [registrar, first, both]))
  exact ⟨_, runs, rfl, (exec_kept _ s rfl _ runs).tick⟩

/-! ### The map, fences and returns (R476 to R479) -/

theorem exec_epochEffective_none {s : State} (none_ : s.hlk.wait = none) : exec .epochEffective s = .next s := by
  show execEpochEffective s = _
  rw [execEpochEffective, none_]
  rfl

theorem exec_epochEffective_some {s : State} {e : Nat} {m : EpochMsg} (waits : s.hlk.wait = some (e, m)) : exec .epochEffective s =
    if 2 ^ 31 ≤ ((s.pairTick % 2 ^ 32).toNat + 2 ^ 32 - m.eff.toNat % 2 ^ 32) % 2 ^ 32 then .next s else .next (s.adopt e m) := by
  show execEpochEffective s = _
  rw [execEpochEffective, waits]
  rfl

/-- Neither the partner nor the Registrar was heard for the timeout. -/
def fenceDue (s : State) : Bool :=
  s.inPair && s.boot.g.isSome && !s.on HLK_STAT_PARTNER_LOST &&
    decide (max (s.silentFrom s.hlk.beaconAt) (s.silentFrom s.hlk.regAt) + s.get HLK_TIMING_FENCE_TMO ≤ s.tick)

theorem exec_fenceTimeout (s : State) : exec .fenceTimeout s = if fenceDue s then .next (s.fenceFor 3) else .next s := rfl

/-- Where what `f` does does not end the following of the partner's time, the discipline stays as it is. -/
theorem keepTime_same {s : State} {f : State → State} (same : ¬(s.following && !(f s).following)) : s.keepTime f = f s := if_neg same

theorem exec_stableExpiry (s : State) : exec .stableExpiry s =
    if s.join = 4 ∧ s.linkUp ∧ s.on HLK_CFG_AUTO_REVERT ∧ s.hlk.stableSince + 1000000 * s.get HLK_CFG_STABLE_S ≤ s.tick then
      .next { s with hlk := { s.hlk with request := 1 } }
    else .next s := rfl

theorem exec_fencedRejoinTimer_none {s : State} (down : s.hlk.upSince = none) : exec .fencedRejoinTimer s = .next s := by
  show execFencedRejoinTimer s = _
  rw [execFencedRejoinTimer, down]
  rfl

theorem exec_fencedRejoinTimer_some {s : State} {t : Nat} (up : s.hlk.upSince = some t) : exec .fencedRejoinTimer s =
    if s.linkUp ∧ t + 1000000 ≤ s.tick ∧ s.hlk.partView = 1 then .next s.rejoin else .next s := by
  show execFencedRejoinTimer s = _
  rw [execFencedRejoinTimer, up]
  rfl

section
variable {s : State}

theorem rejoin_fenced (fenced : s.join = 6 ∧ s.power ≠ .halt) : s.rejoin = ((s.unfence.set HLK_STATE_JOIN 2).joinCheck).settle := if_pos fenced

theorem rejoin_not (not : ¬(s.join = 6 ∧ s.power ≠ .halt)) : s.rejoin = s := if_neg not

end

/-- The Registrar was not heard for the timeout. -/
def registrarSilent (s : State) : Bool :=
  s.inPair && s.boot.g.isSome && decide (s.silentFrom s.hlk.regAt + s.get HLK_WIT_TIME_HB_TMO ≤ s.tick)

theorem exec_registrarLostTimeout (s : State) : exec .registrarLostTimeout s =
    if registrarSilent s then .next (s.setB HLK_STAT_REGISTRAR_LOST true).settle else .next s := rfl

/-- Settles O43, command by command, by the equation of its `exec` and the form of it that the clause's conditions choose. The clauses rest on choices
of the model: how the pair's time and its offset go, what a fence and a return do, and how the Registrar decides (log entries 37, 38 and 82). -/
theorem pairTimers : Obligations.PairTimers := by
  unfold Obligations.PairTimers
  refine ⟨?resendNot, ?resendDown, ?resend, ?resendRuns, ?linkSolo, ?linkWasDown, ?linkDown, ?linkHeard, ?slew, ?slewNot, ?slewRuns, ?poll,
    ?pollNot, ?pollRuns, ?beatOpen, ?beatFencing, ?beatVerdict, ?beatNone, ?beatNot, ?startNone, ?startNot, ?start, ?startRuns, ?epochNone,
    ?epochEarly, ?epoch, ?fence, ?fenceNot, ?stable, ?stableNot, ?rejoin, ?rejoinNot, ?rejoinEarly, ?rejoinDown, ?lost, ?lostNot⟩
  case resendNot => exact fun s not => (exec_helkarRetransmit s).trans (if_pos not)
  case resendDown =>
    exact fun s due often up => next_of_eq ((exec_helkarRetransmit s).trans ((if_neg due).trans (if_pos often)))
      (congrArg State.settle (linkDown_up up))
  case resend => exact fun s due seldom => (exec_helkarRetransmit s).trans ((if_neg due).trans (if_neg seldom))
  case resendRuns => exact fun f s one late few up => helkarRetransmit_runs one late few up
  case linkSolo => exact fun violations s solo => (exec_helkarLinkTimeout violations s).trans (if_pos solo)
  case linkWasDown =>
    exact fun violations s pair late down => next_of_eq ((exec_helkarLinkTimeout violations s).trans ((if_neg pair).trans (if_pos late)))
      (congrArg State.settle (linkDown_down down))
  case linkDown =>
    exact fun violations s pair late up => next_of_eq ((exec_helkarLinkTimeout violations s).trans ((if_neg pair).trans (if_pos late)))
      (congrArg State.settle (linkDown_up up))
  case linkHeard => exact fun violations s pair heard => (exec_helkarLinkTimeout violations s).trans ((if_neg pair).trans (if_neg heard))
  case slew => exact fun s due => exec_pairOffsetSlew_slews due
  case slewNot => exact fun s not => exec_pairOffsetSlew_not not
  case slewRuns => exact fun s follows steady long apart => pairOffsetSlew_runs follows steady long apart
  case poll => exact fun x s due => (exec_witnessPollSend x s).trans (if_pos due)
  case pollNot => exact fun x s not => (exec_witnessPollSend x s).trans (if_neg not)
  case pollRuns => exact fun x s registrar since due => witnessPollSend_runs registrar since due
  case beatOpen => exact fun x s silent not => next_of_eq ((exec_heartbeatTimeout x s).trans (if_pos silent)) (judgeSilent_not not)
  case beatFencing =>
    exact fun x s silent due fencing => next_of_eq ((exec_heartbeatTimeout x s).trans (if_pos silent)) (judgeSilent_fencing due fencing)
  case beatVerdict =>
    exact fun x s silent due none_ verdict =>
      next_of_eq ((exec_heartbeatTimeout x s).trans (if_pos silent)) (judgeSilent_verdict due none_ verdict)
  case beatNone =>
    exact fun x s silent due none_ noVerdict =>
      next_of_eq ((exec_heartbeatTimeout x s).trans (if_pos silent)) (judgeSilent_open due none_ noVerdict)
  case beatNot => exact fun x s not => (exec_heartbeatTimeout x s).trans (if_neg not)
  case startNone => exact fun s none_ => exec_registrarStart_none none_
  case startNot => exact fun s t since not => (exec_registrarStart_some since).trans (if_pos not)
  case start => exact fun s t since due => (exec_registrarStart_some since).trans (if_neg due)
  case startRuns => exact fun b s since registrar first heardA heardB => registrarStart_runs since registrar first heardA heardB
  case epochNone => exact fun s none_ => exec_epochEffective_none none_
  case epochEarly => exact fun s e m waits early => (exec_epochEffective_some waits).trans (if_pos early)
  case epoch => exact fun s e m waits due => (exec_epochEffective_some waits).trans (if_neg due)
  case fence => exact fun s due same => next_of_eq ((exec_fenceTimeout s).trans (if_pos due)) (keepTime_same same)
  case fenceNot => exact fun s not => (exec_fenceTimeout s).trans (if_neg not)
  case stable => exact fun s due => (exec_stableExpiry s).trans (if_pos due)
  case stableNot => exact fun s not => (exec_stableExpiry s).trans (if_neg not)
  case rejoin => exact fun s t up due fenced => next_of_eq ((exec_fencedRejoinTimer_some up).trans (if_pos due)) (rejoin_fenced fenced)
  case rejoinNot => exact fun s t up due not => next_of_eq ((exec_fencedRejoinTimer_some up).trans (if_pos due)) (rejoin_not not)
  case rejoinEarly => exact fun s t up early => (exec_fencedRejoinTimer_some up).trans (if_neg early)
  case rejoinDown => exact fun s down => exec_fencedRejoinTimer_none down
  case lost => exact fun s silent => (exec_registrarLostTimeout s).trans (if_pos silent)
  case lostNot => exact fun s heard => (exec_registrarLostTimeout s).trans (if_neg heard)

end Sys2Proof.Proofs
end

section
/-! The messages of the witness and the commands to a pair (files 19 and 20: R471 to R478, R498): what each command runs, and its forms. -/

namespace Sys2Proof.Proofs

open Sys2Proof.Machine

/-! ### Messages on the witness port of a unit of the pair (R471, R474, R476) -/

section
variable {h : WitHead} {s : State}

theorem exec_witnessPoll (primaryB : Bool) (viewA viewB : Fin 4) : exec (.witnessPoll h primaryB viewA viewB) s =
    if s.witBalls then .next (s.pollIn h primaryB viewA viewB) else .next s := by
  show Host.Outcome.next (s.iff s.witBalls (fun s => s.pollIn h primaryB viewA viewB)) = _
  exact apply_ite Host.Outcome.next _ _ _

theorem exec_epoch (e : EpochMsg) : exec (.epoch h e) s = if s.witBalls then .next (s.epochIn h e) else .next s := by
  show Host.Outcome.next (s.iff s.witBalls (fun s => s.epochIn h e)) = _
  exact apply_ite Host.Outcome.next _ _ _

theorem exec_fence (cause : FenceCause) : exec (.fence h cause) s = if s.witBalls then .next (s.fenceIn h cause) else .next s := by
  show Host.Outcome.next (s.iff s.witBalls (fun s => s.fenceIn h cause)) = _
  exact apply_ite Host.Outcome.next _ _ _

end

/-! ### HEARTBEAT on the Registrar (R475) -/

/-- A HEARTBEAT is taken: the unit's view follows it, a new fence takes its objects, and the Registrar judges the pair. -/
def beatTaken (h : WitHead) (m : HeartbeatMsg) (s : State) : State :=
  let x : Fin 2 := if h.sender = .a then 0 else 1
  let y : Fin 2 := 1 - x
  let was := s.lastBeat x
  let v := s.viewOf x
  let s := s.stamp (if x = 0 then HLK_REG_LAST_A_TICK else HLK_REG_LAST_B_TICK)
  let s := { s with hlk := { s.hlk with reg := { s.hlk.reg with
    last := s.hlk.reg.last.set x (some (m, s.tick)), maxE := max s.hlk.reg.maxE h.epoch.toNat } } }
  if !s.hlk.reg.started then s.setView x 1
  else
    let fresh := m.fenced && !(match was with
      | some q => q.fenced
      | none => false)
    let s :=
      if m.fenced && s.fencing x then s.takeFrom x 2 3
      else if fresh && !s.fencing x && v != 2 && v != 3 && s.viewOf y == 1 then s.takeFrom x 2 3
      else if v == 2 || v == 3 || v == 0 then s.setView x 1
      else s
    ((s.judgeSilent y).judgeLink).judgeRequest x m

/-- The message is bad: its CRC is wrong, or it is the Registrar's own. -/
def beatBad (h : WitHead) : Bool := !h.crcOk || !(h.sender != .registrar)

/-- A message of type `type` is counted, and shown as the last one. -/
def witCounted (h : WitHead) (type : Nat) (s : State) : State :=
  let s := ((s.incWrap HLK_WIT_STAT_RX).set HLK_WIT_LAST_TYPE type)
  (s.set HLK_WIT_LAST_FROM (match h.sender with
    | .a => 0
    | .b => 1
    | .registrar => 2)).set HLK_WIT_LAST_SEQ h.seq.toNat

theorem exec_heartbeat (h : WitHead) (m : HeartbeatMsg) (s : State) : exec (.heartbeat h m) s = .next (s.beatIn h m) := rfl

section
variable {h : WitHead} {m : HeartbeatMsg} {s : State}

theorem beatIn_notRegistrar (unit : s.unitRole ≠ 3) : s.beatIn h m = s := if_pos unit

theorem beatIn_bad (registrar : ¬s.unitRole ≠ 3) (bad : beatBad h) : s.beatIn h m = s.witClear.inc HLK_WIT_STAT_BAD :=
  (if_neg registrar).trans (if_pos bad)

theorem beatIn_right (registrar : ¬s.unitRole ≠ 3) (right : ¬beatBad h) :
    s.beatIn h m = beatTaken h m (witCounted h 2 s.witClear) := (if_neg registrar).trans (if_neg right)

end

/-! ### FENCE_SELF, MIGRATE, REVERT and REJOIN (R475, R476, R478) -/

section
variable {r : Requester} {s : State} (may : s.mayCommand r HLK_CMD_MIGRATE.addr .curator = true)
include may

theorem exec_fenceSelf_allowed : exec (.fenceSelf r) s = .next ((s.touch r).fenceFor 4) := congrArg Host.Outcome.next (State.gateRole_ok may)

theorem exec_pairMigrate_allowed : exec (.pairMigrate r) s = .next (s.touch r).migrateCmd := congrArg Host.Outcome.next (State.gateRole_ok may)

theorem exec_pairRevert_allowed : exec (.pairRevert r) s = .next (s.touch r).revertCmd := congrArg Host.Outcome.next (State.gateRole_ok may)

theorem exec_pairRejoin_allowed : exec (.pairRejoin r) s = .next (s.touch r).rejoin := congrArg Host.Outcome.next (State.gateRole_ok may)

end

section
variable {s : State}

theorem migrateCmd_primary (primary : s.inPair && s.on HLK_STATE_PRIMARY) :
    s.migrateCmd = { s with hlk := { s.hlk with request := 2 } } := if_pos primary

theorem migrateCmd_not (not : ¬(s.inPair && s.on HLK_STATE_PRIMARY)) : s.migrateCmd = s := if_neg not

theorem revertCmd_waiting (waiting : s.join = 4) : s.revertCmd = { s with hlk := { s.hlk with request := 1 } } := if_pos waiting

theorem revertCmd_not (not : ¬s.join = 4) : s.revertCmd = s := if_neg not

end

/-! ### WITNESS in a session (R498) -/

/-- The session of the datagram may carry witness messages. -/
def witnessAllowed (d : Datagram) (s : State) : Bool :=
  s.witPort d.eth && (match s.sessionOf d with
    | some k => s.on SES_KEY_CFG_WIT (s.get SES_SESS_SLOT k.val)
    | none => false)

/-- A witness message in a session is answered with the last message the unit has for it. -/
def witnessAnswered (d : Datagram) (k : Fin 8) (s : State) : State :=
  if !datagramFits d 32 then s.sessError k d 0x20 0x10
  else
    let s := s.witClear.witnessBytes d.body
    match s.hlk.wit.getLast? with
    | some (_, _, b) => s.sessReply k d 0x20 b
    | none => s

theorem exec_praxWitness (d : Datagram) (s : State) : exec (.praxWitness d) s =
    .next (s.praxFrame d true (fun s => if !witnessAllowed d s then s.discard else s.praxRequest d 0x20 (witnessAnswered d))) := rfl

/-- Settles O44, command by command, by the equation of its `exec` and the form of it that the clause's conditions choose. The clauses rest on choices
of the model: what a fence and a return do, and how the Registrar takes a HEARTBEAT (log entries 38 and 82). -/
theorem pairMessages : Obligations.PairMessages := by
  unfold Obligations.PairMessages
  refine ⟨?poll, ?pollUnheard, ?pollHeard, ?beatNot, ?beatBad, ?beat, ?epoch, ?epochUnheard, ?epochHeard, ?fence, ?fenceUnheard, ?fenceHeard,
    ?fenceSelf, ?migrate, ?migrateNot, ?revert, ?revertNot, ?rejoin, ?rejoinNot, ?witness⟩
  case poll => exact fun h primaryB viewA viewB s => rfl
  case pollUnheard => exact fun h primaryB viewA viewB s deaf => (exec_witnessPoll primaryB viewA viewB).trans (if_neg (ne_true_of_eq_false deaf))
  case pollHeard => exact fun h primaryB viewA viewB s heard _ => (exec_witnessPoll primaryB viewA viewB).trans (if_pos heard)
  case beatNot => exact fun h m s unit => next_of_eq (exec_heartbeat h m s) (beatIn_notRegistrar unit)
  case beatBad => exact fun h m s registrar bad => next_of_eq (exec_heartbeat h m s) (beatIn_bad registrar bad)
  case beat => exact fun h m s registrar right => next_of_eq (exec_heartbeat h m s) (beatIn_right registrar right)
  case epoch => exact fun h e s => rfl
  case epochUnheard => exact fun h e s deaf => (exec_epoch e).trans (if_neg (ne_true_of_eq_false deaf))
  case epochHeard => exact fun h e s heard _ => (exec_epoch e).trans (if_pos heard)
  case fence => exact fun h cause s => rfl
  case fenceUnheard => exact fun h cause s deaf => (exec_fence cause).trans (if_neg (ne_true_of_eq_false deaf))
  case fenceHeard => exact fun h cause s heard _ => (exec_fence cause).trans (if_pos heard)
  case fenceSelf => exact fun r s may same => next_of_eq (exec_fenceSelf_allowed may) (keepTime_same same)
  case migrate => exact fun r s may primary => next_of_eq (exec_pairMigrate_allowed may) (migrateCmd_primary primary)
  case migrateNot => exact fun r s may not => next_of_eq (exec_pairMigrate_allowed may) (migrateCmd_not not)
  case revert => exact fun r s may waiting => next_of_eq (exec_pairRevert_allowed may) (revertCmd_waiting waiting)
  case revertNot => exact fun r s may not => next_of_eq (exec_pairRevert_allowed may) (revertCmd_not not)
  case rejoin => exact fun r s may fenced => next_of_eq (exec_pairRejoin_allowed may) (rejoin_fenced fenced)
  case rejoinNot => exact fun r s may not => next_of_eq (exec_pairRejoin_allowed may) (rejoin_not not)
  case witness => exact exec_praxWitness

end Sys2Proof.Proofs
end

section
/-! Sessions and keys (file 20: R483 to R486, R503): what each command runs. -/

namespace Sys2Proof.Proofs

open Sys2Proof.Machine

/-! ### Opening, closing and proving a session over SPI (R484, R486) -/

theorem exec_sesOpenStart_allowed {r : Requester} {w : Word} {s : State} (may : s.mayWrite r SES_OPEN_START.addr = true) :
    exec (.sesOpenStart r w) s = .next ((s.touch r).sesOpenWrite (w ||| 0x100)) := congrArg Host.Outcome.next (State.gate_ok may)

theorem exec_sesOpenClose_allowed {r : Requester} {w : Word} {s : State} (may : s.mayWrite r SES_OPEN_START.addr = true) :
    exec (.sesOpenClose r w) s = .next ((s.touch r).sesOpenWrite (w ||| 0x200)) := congrArg Host.Outcome.next (State.gate_ok may)

/-- A write of SES_OPEN closes first, then opens. -/
theorem sesOpenWrite_eq (w : Word) (s : State) : s.sesOpenWrite w =
    (s.iff (bitsOf w 9 1 == 1) State.spiClose).iff (bitsOf w 8 1 == 1) (fun s => s.spiOpen (bitsOf w 0 3) (bitsOf w 4 2)) := rfl

theorem exec_sesRespSubmit_allowed {r : Requester} {w : Word} {s : State} (may : s.mayWrite r (SES_RESP_RESP.at 3) = true) :
    exec (.sesRespSubmit r w) s = .next ((s.touch r).respWrite 3 w) := congrArg Host.Outcome.next (State.gate_ok may)

/-- The last word of a response is stored and submits it. -/
theorem respWrite_last (w : Word) (s : State) :
    s.respWrite 3 w = ({ s with ports := { s.ports with resp := s.ports.resp.set 3 w } }).spiProve := rfl

/-! ### Expiries (R484, R485, R486) -/

theorem exec_lockoutEnd (p : Fin 3) (s : State) : exec (.lockoutEnd p) s = .next (s.lockExpire p) := rfl

section
variable {p : Fin 3} {s : State}

theorem lockExpire_due (due : s.due (s.ports.lockEnd.get p)) :
    s.lockExpire p = { (s.setFails p 0) with ports := { (s.setFails p 0).ports with lockEnd := s.ports.lockEnd.set p none } } := if_pos due

theorem lockExpire_not (not : ¬s.due (s.ports.lockEnd.get p)) : s.lockExpire p = s := if_neg not

end

theorem exec_nonceExpiry (s : State) : exec .nonceExpiry s =
    .next (s.each (s.ports.challenges.filter (fun c => decide (s.nonceEnd c ≤ s.tick))) State.nonceFail) := rfl

theorem exec_sessionIdleTimeout (k : Fin 8) (s : State) : exec (.sessionIdleTimeout k) s =
    if s.sessOpen k ∧ (s.session k).lastTick + 1000000 * s.get SES_CFG_IDLE_S ≤ s.tick then .next ((s.closeSession k).inc HIF_SESS_CNT_IDLED)
    else .next s := rfl

/-! ### Keys (R483, R503) -/

theorem exec_keyErase_allowed {r : Requester} {w : Word} {s : State} (may : s.mayCommand r SES_KEY_SEL_SLOT.addr .curator = true) :
    exec (.keyErase r w) s = .next ((s.touch r).keySelWrite (w ||| 0x100)) := congrArg Host.Outcome.next (State.gateRole_ok may)

theorem exec_keyCommit_allowed {r : Requester} {w : Word} {s : State} (may : s.mayCommand r SES_KEY_SEL_SLOT.addr .curator = true) :
    exec (.keyCommit r w) s = .next ((s.touch r).keySelWrite (w ||| 0x200)) := congrArg Host.Outcome.next (State.gateRole_ok may)

/-- A write of SES_KEY_SEL selects a slot and a word; it erases the slot's key first, then commits it. -/
theorem keySelWrite_eq (w : Word) (s : State) : s.keySelWrite w =
    let s := { s with ports := { s.ports with selSlot := bitsOf w 0 3, selWord := bitsOf w 4 3 } }
    (s.iff (bitsOf w 8 1 == 1) (fun s => s.keyErase (slotIx (bitsOf w 0 3)))).iff (bitsOf w 9 1 == 1)
      (fun s => s.keyCommit (slotIx (bitsOf w 0 3))) := rfl

theorem exec_keyDataWrite_allowed {r : Requester} {w : Word} {s : State} (may : s.mayCommand r SES_KEY_DATA_DATA.addr .curator = true) :
    exec (.keyDataWrite r w) s = .next ((s.touch r).keyDataWrite w) := congrArg Host.Outcome.next (State.gateRole_ok may)

/-- Settles O45, command by command, by the equation of its `exec` and the form of it that the clause's conditions choose. The clauses rest on choices
of the model: what a nonce that fails counts, and how the host ports hold a response, a slot and a word (log entries 21 and 83). -/
theorem sessionCommands : Obligations.SessionCommands := by
  unfold Obligations.SessionCommands
  refine ⟨?openStart, ?openClose, ?resp, ?lock, ?lockNot, ?nonce, ?idle, ?idleNot, ?keyErase, ?keyCommit, ?keyData⟩
  case openStart => exact fun r w s may => next_of_eq (exec_sesOpenStart_allowed may) (sesOpenWrite_eq _ _)
  case openClose => exact fun r w s may => next_of_eq (exec_sesOpenClose_allowed may) (sesOpenWrite_eq _ _)
  case resp => exact fun r w s may => next_of_eq (exec_sesRespSubmit_allowed may) (respWrite_last _ _)
  case lock => exact fun p s due => next_of_eq (exec_lockoutEnd p s) (lockExpire_due due)
  case lockNot => exact fun p s not => next_of_eq (exec_lockoutEnd p s) (lockExpire_not not)
  case nonce => exact exec_nonceExpiry
  case idle => exact fun k s due => (exec_sessionIdleTimeout k s).trans (if_pos due)
  case idleNot => exact fun k s not => (exec_sessionIdleTimeout k s).trans (if_neg not)
  case keyErase => exact fun r w s may => next_of_eq (exec_keyErase_allowed may) (keySelWrite_eq _ _)
  case keyCommit => exact fun r w s may => next_of_eq (exec_keyCommit_allowed may) (keySelWrite_eq _ _)
  case keyData => exact fun r w s may => exec_keyDataWrite_allowed may

end Sys2Proof.Proofs
end

section
/-! PRAX requests and notifications (file 20: R494 to R497): what each command runs, and its forms. -/

namespace Sys2Proof.Proofs

open Sys2Proof.Machine

/-! ### A datagram that arrives (R495, R499) -/

section
variable {d : Datagram} {wit : Bool} {f : State → State} {s : State}

/-- The frame is counted. -/
def frameCounted (d : Datagram) (s : State) : State := s.incWrap HIF_FRAMES_RX d.eth.val

/-- In GREENWARE, from tick g on, the witness port serves. -/
def witnessServes (d : Datagram) (s : State) : Bool := s.witPort d.eth && s.boot.g.isSome

theorem praxFrame_unlinked (unlinked : !s.on HIF_ETH_STAT_LINK d.eth.val) : s.praxFrame d wit f = s := if_pos unlinked

variable (linked : ¬(!s.on HIF_ETH_STAT_LINK d.eth.val))
include linked

theorem praxFrame_taken (full : (frameCounted d s).full) (here : (frameCounted d s).addressed d) :
    s.praxFrame d wit f = f (frameCounted d s) := (if_neg linked).trans ((if_pos full).trans (if_pos here))

theorem praxFrame_dropped (full : (frameCounted d s).full) (elsewhere : ¬(frameCounted d s).addressed d) :
    s.praxFrame d wit f = (frameCounted d s).inc HIF_DROP_CNT_DROPS d.eth.val :=
  (if_neg linked).trans ((if_pos full).trans (if_neg elsewhere))

variable (green : ¬(frameCounted d s).full)
include green

theorem praxFrame_witness_taken (port : witnessServes d (frameCounted d s)) (serves : wit && (frameCounted d s).addressed d) :
    s.praxFrame d wit f = f (frameCounted d s) :=
  (if_neg linked).trans ((if_neg green).trans ((if_pos port).trans (if_pos serves)))

theorem praxFrame_witness_dropped (port : witnessServes d (frameCounted d s)) (serves : ¬(wit && (frameCounted d s).addressed d)) :
    s.praxFrame d wit f = (frameCounted d s).inc HIF_DROP_CNT_DROPS d.eth.val :=
  (if_neg linked).trans ((if_neg green).trans ((if_pos port).trans (if_neg serves)))

theorem praxFrame_dark (dark : ¬witnessServes d (frameCounted d s)) : s.praxFrame d wit f = frameCounted d s :=
  (if_neg linked).trans ((if_neg green).trans (if_neg dark))

end

/-! ### What each request does (R495, R497) -/

/-- The session is answered, and closed. -/
def closeAnswered (d : Datagram) (k : Fin 8) (s : State) : State :=
  if datagramFits d 0 then (s.sessReply k d 0x83 []).closeSession k else s.sessError k d 3 0x10

def keepaliveAnswered (d : Datagram) (k : Fin 8) (s : State) : State :=
  if datagramFits d 0 then s.sessReply k d 0x92 [] else s.sessError k d 0x12 0x10

def subscribeAnswered (d : Datagram) (k : Fin 8) (s : State) : State :=
  if datagramFits d 1 then (s.subscribe k (d.body.getD 0 0).toNat).sessReply k d 0x93 [] else s.sessError k d 0x13 0x10

/-- Notifications up to `q` wait for no acknowledgement any more. -/
def notifyAcked (k : Fin 8) (q : Nat) (s : State) : State :=
  s.setSession k { s.session k with unacked := (s.session k).unacked.filter (fun u => !seqUpTo u.1.seq q) }

def notifyAckTaken (d : Datagram) (k : Fin 8) (s : State) : State :=
  if datagramFits d 4 then
    (notifyAcked k (leNat d.body) s).iff (seqUpTo ((notifyAcked k (leNat d.body) s).get HIF_NOTIFY_SEQ_SEQ) (leNat d.body))
      (fun s => s.set HIF_NOTIFY_SEQ_SEQ (leNat d.body))
  else s.sessError k d 0x14 0x10

theorem exec_praxOpen (d : Datagram) (s : State) : exec (.praxOpen d) s = .next (s.praxFrame d true (fun s => s.praxOpen d)) := rfl

theorem exec_praxProve (d : Datagram) (s : State) : exec (.praxProve d) s = .next (s.praxFrame d true (fun s => s.praxProve d)) := rfl

theorem exec_praxClose (d : Datagram) (s : State) : exec (.praxClose d) s =
    .next (s.praxFrame d true (fun s => s.praxRequest d 3 (closeAnswered d))) := rfl

theorem exec_praxRead (d : Datagram) (s : State) : exec (.praxRead d) s =
    .next (s.praxFrame d false (fun s => s.praxRequest d 0x10 (fun k s => s.praxReadIn d k))) := rfl

theorem exec_praxWrite (d : Datagram) (s : State) : exec (.praxWrite d) s =
    .next (s.praxFrame d false (fun s => s.praxRequest d 0x11 (fun k s => s.praxWriteIn d k))) := rfl

theorem exec_praxKeepalive (d : Datagram) (s : State) : exec (.praxKeepalive d) s =
    .next (s.praxFrame d true (fun s => s.praxRequest d 0x12 (keepaliveAnswered d))) := rfl

theorem exec_praxSubscribe (d : Datagram) (s : State) : exec (.praxSubscribe d) s =
    .next (s.praxFrame d false (fun s => s.praxRequest d 0x13 (subscribeAnswered d))) := rfl

theorem exec_notifyAck (d : Datagram) (s : State) : exec (.notifyAck d) s =
    .next (s.praxFrame d false (fun s => s.praxRequest d 0x14 (notifyAckTaken d))) := rfl

section
variable {d : Datagram} {k : Fin 8} {s : State}

theorem exec_praxClose_accepted (accepted : s.praxAccepts d 3 k = true) : exec (.praxClose d) s = .next (closeAnswered d k (s.praxTaken d k)) :=
  next_of_eq (exec_praxClose d s) (State.praxFrame_ok accepted)

theorem exec_praxRead_accepted (accepted : s.praxAccepts d 0x10 k = true) : exec (.praxRead d) s = .next ((s.praxTaken d k).praxReadIn d k) :=
  next_of_eq (exec_praxRead d s) (State.praxFrame_ok accepted)

theorem exec_praxWrite_accepted (accepted : s.praxAccepts d 0x11 k = true) :
    exec (.praxWrite d) s = .next ((s.praxTaken d k).praxWriteIn d k) := next_of_eq (exec_praxWrite d s) (State.praxFrame_ok accepted)

theorem exec_praxKeepalive_accepted (accepted : s.praxAccepts d 0x12 k = true) :
    exec (.praxKeepalive d) s = .next (keepaliveAnswered d k (s.praxTaken d k)) :=
  next_of_eq (exec_praxKeepalive d s) (State.praxFrame_ok accepted)

theorem exec_praxSubscribe_accepted (accepted : s.praxAccepts d 0x13 k = true) :
    exec (.praxSubscribe d) s = .next (subscribeAnswered d k (s.praxTaken d k)) :=
  next_of_eq (exec_praxSubscribe d s) (State.praxFrame_ok accepted)

theorem exec_notifyAck_accepted (accepted : s.praxAccepts d 0x14 k = true) :
    exec (.notifyAck d) s = .next (notifyAckTaken d k (s.praxTaken d k)) := next_of_eq (exec_notifyAck d s) (State.praxFrame_ok accepted)

theorem session_setSession_same (x : Session) : (s.setSession k x).session k = x := Vector.getElem_set_self k.isLt

theorem notifyAckTaken_session (fits : datagramFits d 4 = true) :
    (notifyAckTaken d k s).session k = (notifyAcked k (leNat d.body) s).session k := by
  rw [notifyAckTaken, if_pos fits, State.iff]
  split
  · rfl
  · rfl

theorem notifyAckTaken_mem (fits : datagramFits d 4 = true) : (notifyAckTaken d k s).mem = s.mem := by
  rw [notifyAckTaken, if_pos fits, State.iff]
  split
  · rfl
  · rfl

theorem notifyAck_runs (accepted : s.praxAccepts d 0x14 k = true) (fits : datagramFits d 4 = true) : Runs (.notifyAck d) s (fun t =>
    (t.session k).unacked = ((s.praxTaken d k).session k).unacked.filter (fun u => !seqUpTo u.1.seq (leNat d.body)) ∧ t.mem = s.mem) := by
  refine ⟨_, exec_notifyAck_accepted accepted, ?_, (notifyAckTaken_mem fits).trans rfl⟩
  rw [notifyAckTaken_session fits, notifyAcked, session_setSession_same]

end

/-! ### Notifications sent (R497) -/

section
variable (k : Fin 8) (drop : Nat) (s : State)

/-- The Ethernet port that the session is open on. -/
def notifyEth : Fin 2 := ⟨(s.sessPort k.val - 1) % 2, Nat.mod_lt _ (by decide)⟩

/-- Nothing can be sent to the session: it is closed, has no Ethernet port, or its link or its address is missing. -/
def notifyMute : Bool :=
  !s.sessOpen k || s.sessPort k.val == 0 || !s.full || !s.on HIF_ETH_STAT_LINK (notifyEth k s).val ||
    !s.addressedOn (notifyEth k s) (s.session k).v6

/-- What waits for the session once `drop` records of it are dropped, traces first, then events. -/
def notifyOut : List Rec :=
  dropSome (fun (r : Rec) => r.cls == 0) (drop - ((s.session k).out.filter (fun r => r.cls == 2)).length)
    (dropSome (fun (r : Rec) => r.cls == 2) drop (s.session k).out)

/-- The alarms that no acknowledgement came for in time. -/
def notifyAgain : List Rec :=
  ((s.session k).unacked.filter (fun u => decide (u.2 + 100000 * s.get HIF_NOTIFY_CFG_RESEND ≤ s.tick))).map (fun u => u.1)

/-- One notification carries 32 records at most. -/
def notifyLot : List Rec := (notifyAgain k s ++ notifyOut k drop s).take 32

/-- The records in it that go for the first time. -/
def notifyFresh : List Rec := (notifyOut k drop s).take (32 - min 32 (notifyAgain k s).length)

/-- What is dropped is counted. -/
def notifyDropped : State :=
  s.addSat HIF_NOTIFY_CNT_NOTIFY_DROP ((s.session k).out.length - (notifyOut k drop s).length) (s.sessPort k.val - 1)

/-- What the session holds once the notification has gone: alarms in it wait for their acknowledgement. -/
def notifyLeft : Session :=
  { s.session k with
    out := (notifyOut k drop s).drop (notifyFresh k drop s).length
    unacked := (s.session k).unacked.map (fun u => if (notifyLot k drop s).contains u.1 then (u.1, s.tick) else u) ++
      ((notifyFresh k drop s).filter (fun r => r.cls == 1)).map (fun r => (r, s.tick)) }

/-- The notification goes. -/
def notified : State :=
  let x := s.session k
  let n := (x.notifySeq + 1) % 2 ^ 32
  let bytes := praxBytes 0x40 x.sid.toNat n ((notifyLot k drop s).map Rec.bytes).flatten
  let s' := ((notifyDropped k drop s).setSession k { notifyLeft k drop s with notifySeq := n }).incWrap HIF_NOTIFY_CNT_SENT (s.sessPort k.val - 1)
  s'.praxSend (notifyEth k s) (bytes ++ macOf x.key bytes)

theorem exec_notifySend : exec (.notifySend k drop) s =
    if notifyMute k s then .next s
    else if (notifyLot k drop s).isEmpty then .next ((notifyDropped k drop s).setSession k (notifyLeft k drop s))
    else .next (notified k drop s) := rfl

end

/-- With nothing that waits, nothing is sent. -/
theorem notifySend_runs {k : Fin 8} {s : State} (opened : s.sessOpen k = true) (port : s.sessPort k.val ≠ 0) (full : s.full = true)
    (linked : s.on HIF_ETH_STAT_LINK (notifyEth k s).val = true) (addressed : s.addressedOn (notifyEth k s) (s.session k).v6 = true)
    (none_ : (s.session k).out = []) (acked : (s.session k).unacked = []) :
    Runs (.notifySend k 0) s (fun t => (t.session k).out = [] ∧ (t.session k).unacked = [] ∧ t.mem = s.mem) := by
  have heard : ¬notifyMute k s := by simp [notifyMute, opened, port, full, addressed, linked]
  have out : notifyOut k 0 s = [] := by simp [notifyOut, none_, dropSome]
  have again : notifyAgain k s = [] := by simp [notifyAgain, acked]
  have lot : (notifyLot k 0 s).isEmpty := by simp [notifyLot, out, again]
  have fresh : notifyFresh k 0 s = [] := by simp [notifyFresh, out]
  refine ⟨_, (exec_notifySend k 0 s).trans ((if_neg heard).trans (if_pos lot)), ?_⟩
  dsimp only
  rw [session_setSession_same]
  exact ⟨by simp [notifyLeft, out], by simp [notifyLeft, acked, fresh], rfl⟩

/-- Settles O46, command by command, by the equation of its `exec` and the form of a datagram that the clause's conditions choose. The clauses rest on
choices of the model: what the host ports drop, and which records a notification takes (log entry 83). -/
theorem praxCommands : Obligations.PraxCommands := by
  unfold Obligations.PraxCommands
  refine ⟨?openUnlinked, ?openTaken, ?openDropped, ?openWitness, ?openNoWitness, ?openDark, ?openHere, ?proveUnlinked, ?proveTaken, ?proveDropped,
    ?proveWitness, ?proveNoWitness, ?proveDark, ?proveHere, ?closeUnlinked, ?closeTaken, ?closeDropped, ?closeWitness, ?closeNoWitness, ?closeDark,
    ?closeFits, ?closeUnfit, ?readUnlinked, ?readTaken, ?readDropped, ?readNoWitness, ?readDark, ?readAccepted, ?writeUnlinked, ?writeTaken,
    ?writeDropped, ?writeNoWitness, ?writeDark, ?writeAccepted, ?keepUnlinked, ?keepTaken, ?keepDropped, ?keepWitness, ?keepNoWitness, ?keepDark,
    ?keepFits, ?keepUnfit, ?subscribeUnlinked, ?subscribeTaken, ?subscribeDropped, ?subscribeNoWitness, ?subscribeDark, ?subscribeFits,
    ?subscribeUnfit, ?ack, ?ackRuns, ?sendMute, ?sendNone, ?send, ?sendRuns⟩
  case openUnlinked => exact fun d s unlinked => next_of_eq (exec_praxOpen d s) (praxFrame_unlinked unlinked)
  case openTaken => exact fun d s linked full here => next_of_eq (exec_praxOpen d s) (praxFrame_taken linked full here)
  case openDropped => exact fun d s linked full elsewhere => next_of_eq (exec_praxOpen d s) (praxFrame_dropped linked full elsewhere)
  case openWitness => exact fun d s linked green port serves => next_of_eq (exec_praxOpen d s) (praxFrame_witness_taken linked green port serves)
  case openNoWitness => exact fun d s linked green port serves => next_of_eq (exec_praxOpen d s) (praxFrame_witness_dropped linked green port serves)
  case openDark => exact fun d s linked green dark => next_of_eq (exec_praxOpen d s) (praxFrame_dark linked green dark)
  case openHere => exact fun d s linked full here => next_of_eq (exec_praxOpen d s) (praxFrame_taken (by simp [linked]) full here)
  case proveUnlinked => exact fun d s unlinked => next_of_eq (exec_praxProve d s) (praxFrame_unlinked unlinked)
  case proveTaken => exact fun d s linked full here => next_of_eq (exec_praxProve d s) (praxFrame_taken linked full here)
  case proveDropped => exact fun d s linked full elsewhere => next_of_eq (exec_praxProve d s) (praxFrame_dropped linked full elsewhere)
  case proveWitness => exact fun d s linked green port serves => next_of_eq (exec_praxProve d s) (praxFrame_witness_taken linked green port serves)
  case proveNoWitness =>
    exact fun d s linked green port serves => next_of_eq (exec_praxProve d s) (praxFrame_witness_dropped linked green port serves)
  case proveDark => exact fun d s linked green dark => next_of_eq (exec_praxProve d s) (praxFrame_dark linked green dark)
  case proveHere => exact fun d s linked full here => next_of_eq (exec_praxProve d s) (praxFrame_taken (by simp [linked]) full here)
  case closeUnlinked => exact fun d s unlinked => next_of_eq (exec_praxClose d s) (praxFrame_unlinked unlinked)
  case closeTaken => exact fun d s linked full here => next_of_eq (exec_praxClose d s) (praxFrame_taken linked full here)
  case closeDropped => exact fun d s linked full elsewhere => next_of_eq (exec_praxClose d s) (praxFrame_dropped linked full elsewhere)
  case closeWitness => exact fun d s linked green port serves => next_of_eq (exec_praxClose d s) (praxFrame_witness_taken linked green port serves)
  case closeNoWitness =>
    exact fun d s linked green port serves => next_of_eq (exec_praxClose d s) (praxFrame_witness_dropped linked green port serves)
  case closeDark => exact fun d s linked green dark => next_of_eq (exec_praxClose d s) (praxFrame_dark linked green dark)
  case closeFits => exact fun d k s accepted fits => next_of_eq (exec_praxClose_accepted accepted) (if_pos fits)
  case closeUnfit => exact fun d k s accepted unfit => next_of_eq (exec_praxClose_accepted accepted) (if_neg (ne_true_of_eq_false unfit))
  case readUnlinked => exact fun d s unlinked => next_of_eq (exec_praxRead d s) (praxFrame_unlinked unlinked)
  case readTaken => exact fun d s linked full here => next_of_eq (exec_praxRead d s) (praxFrame_taken linked full here)
  case readDropped => exact fun d s linked full elsewhere => next_of_eq (exec_praxRead d s) (praxFrame_dropped linked full elsewhere)
  case readNoWitness => exact fun d s linked green port serves => next_of_eq (exec_praxRead d s) (praxFrame_witness_dropped linked green port serves)
  case readDark => exact fun d s linked green dark => next_of_eq (exec_praxRead d s) (praxFrame_dark linked green dark)
  case readAccepted => exact fun d k s accepted => exec_praxRead_accepted accepted
  case writeUnlinked => exact fun d s unlinked => next_of_eq (exec_praxWrite d s) (praxFrame_unlinked unlinked)
  case writeTaken => exact fun d s linked full here => next_of_eq (exec_praxWrite d s) (praxFrame_taken linked full here)
  case writeDropped => exact fun d s linked full elsewhere => next_of_eq (exec_praxWrite d s) (praxFrame_dropped linked full elsewhere)
  case writeNoWitness =>
    exact fun d s linked green port serves => next_of_eq (exec_praxWrite d s) (praxFrame_witness_dropped linked green port serves)
  case writeDark => exact fun d s linked green dark => next_of_eq (exec_praxWrite d s) (praxFrame_dark linked green dark)
  case writeAccepted => exact fun d k s accepted => exec_praxWrite_accepted accepted
  case keepUnlinked => exact fun d s unlinked => next_of_eq (exec_praxKeepalive d s) (praxFrame_unlinked unlinked)
  case keepTaken => exact fun d s linked full here => next_of_eq (exec_praxKeepalive d s) (praxFrame_taken linked full here)
  case keepDropped => exact fun d s linked full elsewhere => next_of_eq (exec_praxKeepalive d s) (praxFrame_dropped linked full elsewhere)
  case keepWitness => exact fun d s linked green port serves => next_of_eq (exec_praxKeepalive d s) (praxFrame_witness_taken linked green port serves)
  case keepNoWitness =>
    exact fun d s linked green port serves => next_of_eq (exec_praxKeepalive d s) (praxFrame_witness_dropped linked green port serves)
  case keepDark => exact fun d s linked green dark => next_of_eq (exec_praxKeepalive d s) (praxFrame_dark linked green dark)
  case keepFits => exact fun d k s accepted fits => next_of_eq (exec_praxKeepalive_accepted accepted) (if_pos fits)
  case keepUnfit => exact fun d k s accepted unfit => next_of_eq (exec_praxKeepalive_accepted accepted) (if_neg (ne_true_of_eq_false unfit))
  case subscribeUnlinked => exact fun d s unlinked => next_of_eq (exec_praxSubscribe d s) (praxFrame_unlinked unlinked)
  case subscribeTaken => exact fun d s linked full here => next_of_eq (exec_praxSubscribe d s) (praxFrame_taken linked full here)
  case subscribeDropped => exact fun d s linked full elsewhere => next_of_eq (exec_praxSubscribe d s) (praxFrame_dropped linked full elsewhere)
  case subscribeNoWitness =>
    exact fun d s linked green port serves => next_of_eq (exec_praxSubscribe d s) (praxFrame_witness_dropped linked green port serves)
  case subscribeDark => exact fun d s linked green dark => next_of_eq (exec_praxSubscribe d s) (praxFrame_dark linked green dark)
  case subscribeFits => exact fun d k s accepted fits => next_of_eq (exec_praxSubscribe_accepted accepted) (if_pos fits)
  case subscribeUnfit => exact fun d k s accepted unfit => next_of_eq (exec_praxSubscribe_accepted accepted) (if_neg (ne_true_of_eq_false unfit))
  case ack => exact exec_notifyAck
  case ackRuns => exact fun d k s accepted fits => notifyAck_runs accepted fits
  case sendMute => exact fun k drop s mute => (exec_notifySend k drop s).trans (if_pos mute)
  case sendNone => exact fun k drop s heard none_ => (exec_notifySend k drop s).trans ((if_neg heard).trans (if_pos none_))
  case send => exact fun k drop s heard some_ => (exec_notifySend k drop s).trans ((if_neg heard).trans (if_neg some_))
  case sendRuns => exact fun k s opened port full linked addressed none_ acked =>
    notifySend_runs opened port full linked addressed none_ acked

end Sys2Proof.Proofs
end

section
/-! Links, addresses, PTP and MDIO (file 20: R491, R492, R500, R505): what each command runs, and its forms. -/

namespace Sys2Proof.Proofs

open Sys2Proof.Machine

/-! ### Leases and links (R491, R492) -/

theorem exec_dhcpLeaseEnd (p : Fin 2) (s : State) : exec (.dhcpLeaseEnd p) s =
    if s.due ((s.ports.lease.get p).map (fun l => l.2)) then
      .next (({ s with ports := { s.ports with lease := s.ports.lease.set p none } }).ethShow p)
    else .next s := rfl

theorem exec_dhcpLeaseObtained (p : Fin 2) (addr : Word) (secs : Nat) (s : State) : exec (.dhcpLeaseObtained p addr secs) s =
    if s.boot.firmware && s.on HIF_ETH_STAT_LINK p.val && s.get HIF_ETH_CFG_IPV4 p.val == 2 then
      .next (({ s with ports := { s.ports with lease := s.ports.lease.set p (some (addr, s.tick + 1000000 * secs)) } }).ethShow p)
    else .next s := rfl

/-- A port's link as its line shows it: its speed, the outcome of duplicate address detection, and that of SLAAC. -/
def linkChanged (p : Fin 2) (line : EthLine) (speed : Fin 3) (dadFail : Bool) (slaac : Option (Fin 129)) (s : State) : State :=
  let s := s.setB HIF_ETH_STAT_LINK line.up p.val
  let s := s.iff (line.up && line.refclk) (fun s => (s.set HIF_ETH_STAT_SPEED speed.val p.val).setB HIF_IP6_STAT_DAD_FAIL dadFail p.val)
  let slaac : Vector (Option Nat) 2 := s.ports.slaac.set p (slaac.map (fun (n : Fin 129) => n.val))
  { s with ports := { s.ports with slaac := slaac, refclk := line.refclk } }

theorem exec_ethLinkChange (p : Fin 2) (line : EthLine) (speed : Fin 3) (dadFail : Bool) (slaac : Option (Fin 129)) (s : State) :
    exec (.ethLinkChange p line speed dadFail slaac) s =
    .next ((((linkChanged p line speed dadFail slaac s).iff (!line.refclk) State.linkDown).ethShowAll).settle) := rfl

/-! ### PTP (R500) -/

/-- The message is the master's. -/
def fromMaster (m : PtpFrom) (s : State) : Bool := s.ptpTakes m && s.ports.ptpMaster == some (m.eth.val, m.master.toNat)

/-- A Sync gives the offset, the delay and the time. -/
def synced (offset : Int) (delay sec ns : Nat) (s : State) : State :=
  let s := ((s.incWrap HIF_PTP_STAT_SYNCS).setI HIF_PTP_OFS_NS offset).set HIF_PTP_DELAY_NS (min delay 0xFFFFFFFE)
  let s := s.set HIF_PTP_STAT_STATE 3
  { s with
    ports := { s.ports with ptpLast := s.tick }
    tb := { s.tb with ptpSec := sec % 2 ^ 48, ptpNs := ns % 1000000000, ptpKnown := true } }

/-- The discipline takes the Sync's port up: it is the selected source, and no source is followed yet. -/
def syncAcquires (m : PtpFrom) (s : State) : Prop :=
  !s.following ∧ s.get TB_SRC_CTRL_SRC = m.eth.val + 2 ∧ (s.get TB_DISC_STAT_STATE = 0 ∨ s.get TB_DISC_STAT_STATE = 3)

section
variable {m : PtpFrom} {offset : Int} {delay sec ns : Nat} {s : State}

theorem exec_ptpSync_not (not : ¬fromMaster m s) : exec (.ptpSync m offset delay sec ns) s = .next s := if_neg not

variable (master : fromMaster m s)
include master

theorem exec_ptpSync_acquires (acquires : syncAcquires m (synced offset delay sec ns s)) :
    exec (.ptpSync m offset delay sec ns) s = .next (synced offset delay sec ns s).discAcquire := (if_pos master).trans (if_pos acquires)

theorem exec_ptpSync_follows (follows : ¬syncAcquires m (synced offset delay sec ns s)) :
    exec (.ptpSync m offset delay sec ns) s = .next (synced offset delay sec ns s) := (if_pos master).trans (if_neg follows)

end

/-- The sender of the Announce becomes the master. -/
def masterTaken (m : PtpFrom) (s : State) : State :=
  let s := (s.set HIF_PTP_GM_LO_ID_LO m.master.toNat).set HIF_PTP_GM_HI_ID_HI (m.master.toNat / 2 ^ 32)
  let s := (s.set HIF_PTP_STAT_PORT m.eth.val).set HIF_PTP_STAT_STATE 2
  { s with ports := { s.ports with ptpMaster := some (m.eth.val, m.master.toNat), ptpLast := s.tick } }

theorem ptpState_fits : HIF_PTP_STAT_STATE.fits 0 := by
  unfold Field.fits
  decide

theorem masterTaken_state (m : PtpFrom) (s : State) : (masterTaken m s).get HIF_PTP_STAT_STATE = 2 :=
  State.get_set_same _ HIF_PTP_STAT_STATE 2 0 ptpState_fits

theorem exec_ptpAnnounce (m : PtpFrom) (best : Bool) (s : State) : exec (.ptpAnnounce m best) s =
    if s.ptpTakes m then
      if best ∧ (s.incWrap HIF_PTP_CNT_ANNOUNCES).ports.ptpMaster ≠ some (m.eth.val, m.master.toNat)
        then .next (masterTaken m (s.incWrap HIF_PTP_CNT_ANNOUNCES))
      else .next (s.incWrap HIF_PTP_CNT_ANNOUNCES)
    else .next s := rfl

theorem ptpAnnounce_runs {m : PtpFrom} {s : State} (takes : s.ptpTakes m = true) (new : s.ports.ptpMaster ≠ some (m.eth.val, m.master.toNat)) :
    Runs (.ptpAnnounce m true) s (fun t => t.ports.ptpMaster = some (m.eth.val, m.master.toNat) ∧ t.ports.ptpLast = s.tick ∧
    t.get HIF_PTP_STAT_STATE = 2 ∧ t.mem = s.mem) :=
  ⟨_, (exec_ptpAnnounce m true s).trans ((if_pos takes).trans (if_pos ⟨rfl, new⟩)), rfl, rfl, masterTaken_state _ _, rfl⟩

/-- The master is lost, and with it the source where it is the selected one. -/
def masterLost (m : Nat × Nat) (s : State) : State :=
  let s := (s.inc HIF_PTP_CNT_TIMEOUTS).set HIF_PTP_STAT_STATE 1
  let s := { s with ports := { s.ports with ptpMaster := none } }
  s.iff (s.get TB_SRC_CTRL_SRC == m.1 + 2) State.discLost

theorem exec_ptpTimeout_none {s : State} (none_ : s.ports.ptpMaster = none) : exec .ptpTimeout s = .next s := by
  show execPtpTimeout s = _
  rw [execPtpTimeout, none_]
  rfl

theorem exec_ptpTimeout_some {s : State} {m : Nat × Nat} (master : s.ports.ptpMaster = some m) : exec .ptpTimeout s =
    if s.ports.ptpLast + 1000000 * s.get HIF_PTP_CFG_PTP_TMO ≤ s.tick then .next (masterLost m s) else .next s := by
  show execPtpTimeout s = _
  unfold execPtpTimeout
  split
  case h_1 none_ => cases master.symm.trans none_
  case h_2 m' master' =>
    cases master.symm.trans master'
    rfl

/-- The loss of a source leaves the host's ports, PTP's state and the memory. -/
theorem discLost_ports (s : State) : s.discLost.ports = s.ports := by
  unfold State.discLost
  split
  · rfl
  · rfl

theorem discLost_mem (s : State) : s.discLost.mem = s.mem := by
  unfold State.discLost
  split
  · rfl
  · rfl

theorem discState_apart_ptpState : TB_DISC_STAT_STATE.apart 0 HIF_PTP_STAT_STATE 0 := by
  unfold Field.apart
  decide

theorem losses_apart_ptpState : TB_DISC_STAT_LOSSES.apart 0 HIF_PTP_STAT_STATE 0 := by
  unfold Field.apart
  decide

theorem srcLosses_apart_ptpState : TB_FAULT_CNT_SRC_LOSSES.apart 0 HIF_PTP_STAT_STATE 0 := by
  unfold Field.apart
  decide

theorem discLost_ptpState (s : State) : s.discLost.get HIF_PTP_STAT_STATE = s.get HIF_PTP_STAT_STATE := by
  by_cases disciplined : s.get TB_DISC_STAT_STATE = 1 ∨ s.get TB_DISC_STAT_STATE = 2
  · rw [discLost_of_disciplined disciplined]
    exact (get_inc_apart _ srcLosses_apart_ptpState).trans ((get_inc_apart _ losses_apart_ptpState).trans
      (State.get_set_apart _ _ _ _ _ _ discState_apart_ptpState))
  · rw [discLost_of_undisciplined disciplined]

theorem ptpTimeout_runs {m : Nat × Nat} {s : State} (master : s.ports.ptpMaster = some m)
    (late : s.ports.ptpLast + 1000000 * s.get HIF_PTP_CFG_PTP_TMO ≤ s.tick) :
    Runs .ptpTimeout s (fun t => t.ports.ptpMaster = none ∧ t.get HIF_PTP_STAT_STATE = 1 ∧ t.mem = s.mem) := by
  refine ⟨_, (exec_ptpTimeout_some master).trans (if_pos late), ?_⟩
  have shown : ((s.inc HIF_PTP_CNT_TIMEOUTS).set HIF_PTP_STAT_STATE 1).get HIF_PTP_STAT_STATE = 1 :=
    State.get_set_same _ HIF_PTP_STAT_STATE 1 0 ptpState_fits
  unfold masterLost State.iff
  dsimp only
  split
  · exact ⟨congrArg Ports.ptpMaster (discLost_ports _), (discLost_ptpState _).trans shown, discLost_mem _⟩
  · exact ⟨rfl, shown, rfl⟩

/-! ### MDIO (R505) -/

section
variable {r : Requester} {p : Fin 2} {w : Word} {s : State} (may : s.mayWrite r (HIF_MDIO_CMD_READ.at p.val) = true)
include may

theorem exec_mdioRead_allowed : exec (.mdioRead r p w) s = .next ((s.touch r).mdioCmd p.val (w ||| 0x400)) :=
  congrArg Host.Outcome.next (State.gate_ok may)

theorem exec_mdioWrite_allowed : exec (.mdioWrite r p w) s = .next ((s.touch r).mdioCmd p.val (w ||| 0x800)) :=
  congrArg Host.Outcome.next (State.gate_ok may)

end

section
variable {data : BitVec 16} {s : State}

/-- Nothing completes where nothing runs, or where the bank is down. -/
theorem exec_mdioComplete_not (not : s.ports.mdio = [] ∨ s.bankLive 2 = false) : exec (.mdioComplete data) s = .next s := by
  show execMdioComplete data s = _
  unfold execMdioComplete
  split
  case h_1 => rfl
  case h_2 p a b w rest runs =>
    cases not with
    | inl none_ => cases runs.symm.trans none_
    | inr down => exact if_pos (by rw [down]; rfl)

/-- The first transaction is over: a read brings its data, and the port is free once none of its own is left. -/
theorem exec_mdioComplete_runs {p a b : Nat} {w : Option Nat} {rest : List (Nat × Nat × Nat × Option Nat)}
    (runs : s.ports.mdio = (p, a, b, w) :: rest)
    (live : s.bankLive 2 = true) : exec (.mdioComplete data) s =
    .next ((({ s with ports := { s.ports with mdio := rest } }).iff w.isNone (fun s => s.set HIF_MDIO_DATA_DATA data.toNat p)).setB
      HIF_MDIO_DATA_BUSY (rest.any (fun m => m.1 == p)) p) := by
  show execMdioComplete data s = _
  unfold execMdioComplete
  split
  case h_1 none_ => cases runs.symm.trans none_
  case h_2 p' a' b' w' rest' runs' =>
    cases runs.symm.trans runs'
    exact if_neg (by simp [live])

end

/-- Settles O47, command by command, by the equation of its `exec` and the form of it that the clause's conditions choose. The clauses rest on choices
of the model: what a port's link, a Sync and an Announce bring, and when PTP and MDIO act (log entry 83). -/
theorem ethernetCommands : Obligations.EthernetCommands := by
  unfold Obligations.EthernetCommands
  refine ⟨?leaseEnd, ?leaseEndNot, ?lease, ?leaseNot, ?link, ?syncAcquires, ?sync, ?syncNot, ?announceNew, ?announce, ?announceNot, ?announceRuns,
    ?timeoutNone, ?timeout, ?timeoutNot, ?timeoutRuns, ?mdioRead, ?mdioWrite, ?mdioNot, ?mdioReads, ?mdioWrites⟩
  case leaseEnd => exact fun p s due => (exec_dhcpLeaseEnd p s).trans (if_pos due)
  case leaseEndNot => exact fun p s not => (exec_dhcpLeaseEnd p s).trans (if_neg not)
  case lease => exact fun p addr secs s asks => (exec_dhcpLeaseObtained p addr secs s).trans (if_pos asks)
  case leaseNot => exact fun p addr secs s not => (exec_dhcpLeaseObtained p addr secs s).trans (if_neg not)
  case link => exact exec_ethLinkChange
  case syncAcquires => exact fun m offset delay sec ns s master acquires => exec_ptpSync_acquires master acquires
  case sync => exact fun m offset delay sec ns s master follows => exec_ptpSync_follows master follows
  case syncNot => exact fun m offset delay sec ns s not => exec_ptpSync_not not
  case announceNew => exact fun m best s takes new => (exec_ptpAnnounce m best s).trans ((if_pos takes).trans (if_pos new))
  case announce => exact fun m best s takes known => (exec_ptpAnnounce m best s).trans ((if_pos takes).trans (if_neg known))
  case announceNot => exact fun m best s not => (exec_ptpAnnounce m best s).trans (if_neg not)
  case announceRuns => exact fun m s takes new => ptpAnnounce_runs takes new
  case timeoutNone => exact fun s none_ => exec_ptpTimeout_none none_
  case timeout => exact fun s m master late => (exec_ptpTimeout_some master).trans (if_pos late)
  case timeoutNot => exact fun s m master early => (exec_ptpTimeout_some master).trans (if_neg early)
  case timeoutRuns => exact fun m s master late => ptpTimeout_runs master late
  case mdioRead => exact fun r p w s may => exec_mdioRead_allowed may
  case mdioWrite => exact fun r p w s may => exec_mdioWrite_allowed may
  case mdioNot => exact fun data s not => exec_mdioComplete_not not
  case mdioReads => exact fun data s p a b rest runs live => exec_mdioComplete_runs runs live
  case mdioWrites => exact fun data s p a b w rest runs live => exec_mdioComplete_runs runs live

end Sys2Proof.Proofs
end

section
/-! Mailboxes (file 21: R507 to R511): what each command runs, and its forms. -/

namespace Sys2Proof.Proofs

open Sys2Proof.Machine

/-! ### SEND, TAKE and RECALL (R507, R508, R510) -/

/-- The commands of the channel's register are allowed to the requester. -/
def mayMailbox (r : Requester) (out : Bool) (w : Word) (s : State) : Prop := s.mayCommand r (mbxCmd out) (mbxRole (mbxCh w)) = true

section
variable {r : Requester} {out : Bool} {w : Word} {s : State} (may : mayMailbox r out w s)
include may

/-- A command of the side that the channel does not belong to is refused. -/
theorem mbxWrite_foreign (foreign : mbxForeign (mbxDevice r) out w) : s.mbxWrite r out w = (s.touch r).refuse r (mbxCmd out) .role :=
  (State.gateRole_ok may).trans (if_pos foreign)

theorem mbxWrite_own (own : ¬mbxForeign (mbxDevice r) out w) : s.mbxWrite r out w = (s.touch r).mbxDo r out w :=
  (State.gateRole_ok may).trans (if_neg own)

end

theorem exec_mbxSend (r : Requester) (out : Bool) (w : Word) (s : State) :
    exec (.mbxSend r out w) s = .next (s.mbxWrite r out (w ||| 0x100)) := rfl

theorem exec_mbxTake (r : Requester) (out : Bool) (w : Word) (s : State) :
    exec (.mbxTake r out w) s = .next (s.mbxWrite r out (w ||| 0x200)) := rfl

theorem exec_mbxRecall (r : Requester) (out : Bool) (w : Word) (s : State) :
    exec (.mbxRecall r out w) s = .next (s.mbxWrite r out (w ||| 0x400)) := rfl

/-! ### Data and timeouts (R509, R511) -/

theorem exec_mailboxDataWrite (r : Requester) (off : BitVec 16) (w : Word) (s : State) :
    exec (.mailboxDataWrite r off w) s = .next (s.mbxData r off.toNat w) := rfl

/-- The channel of the mailbox data at an offset is full. -/
def spotFull (off c : Nat) (s : State) : Bool := s.mbxFull (decide (0x8000 ≤ off)) ⟨c % 32, Nat.mod_lt c (by decide)⟩

section
variable {r : Requester} {off c k : Nat} {w : Word} {s : State} (may : s.mayWrite r (0x100000 + off) = true)
  (spot : mailboxSpot (off % 0x8000) = some (c, k))
include may spot

/-- A word is stored in a channel that is not full, and rejected by one that is. -/
theorem mbxData_spot : s.mbxData r off w =
    if spotFull off c (s.touch r) then
      (s.touch r).mbxReject r (0x100000 + off) (decide (0x8000 ≤ off)) ⟨c % 32, Nat.mod_lt c (by decide)⟩
    else (s.touch r).ranked r (0x100000 + off) (fun s => s.store (0x100000 + off) w) := by
  refine (State.gate_ok may).trans ?_
  rw [spot]
  rfl

end

theorem exec_mailboxTimeout (out : Bool) (c : Fin 32) (s : State) : exec (.mailboxTimeout out c) s = .next (s.mbxExpire out c) := rfl

/-- The delivery timeout of a channel is shown, counted and recorded. -/
def mailboxExpired (out : Bool) (c : Fin 32) (s : State) : State :=
  let s := { s with mbx := { s.mbx with due := s.mbx.due.set (mbxIx out c) none } }
  let s := s.setB (mbxField out MBX_IN_STAT_TIMEOUT MBX_OUT_STAT_TIMEOUT) true c.val
  let s := s.setBit (mbxField out MBX_IN_TMO_MASK MBX_OUT_TMO_MASK) c.val true
  (s.inc (mbxField out MBX_TMO_CNT_IN MBX_TMO_CNT_OUT)).event .mailboxTimeout 0 [c.val, if out then 1 else 0]

section
variable {out : Bool} {c : Fin 32} {s : State}

theorem mbxExpire_due (due : s.due (s.mbx.due.get (mbxIx out c))) : s.mbxExpire out c = mailboxExpired out c s := if_pos due

theorem mbxExpire_not (not : ¬s.due (s.mbx.due.get (mbxIx out c))) : s.mbxExpire out c = s := if_neg not

end

/-- Settles O48, command by command, by the equation of its `exec` and the form of it that the clause's conditions choose. The clauses rest on choices
of the model: which side a channel belongs to, and when its timeout is up (log entry 84). -/
theorem mailboxCommands : Obligations.MailboxCommands := by
  unfold Obligations.MailboxCommands
  refine ⟨?sendForeign, ?sent, ?takeForeign, ?taken, ?recallForeign, ?recalled, ?data, ?dataStored, ?dataRejected, ?timeout, ?timeoutNot⟩
  case sendForeign => exact fun r out w s may foreign => next_of_eq (exec_mbxSend r out w s) (mbxWrite_foreign may foreign)
  case sent => exact fun r out w s may own => next_of_eq (exec_mbxSend r out w s) (mbxWrite_own may own)
  case takeForeign => exact fun r out w s may foreign => next_of_eq (exec_mbxTake r out w s) (mbxWrite_foreign may foreign)
  case taken => exact fun r out w s may own => next_of_eq (exec_mbxTake r out w s) (mbxWrite_own may own)
  case recallForeign => exact fun r out w s may foreign => next_of_eq (exec_mbxRecall r out w s) (mbxWrite_foreign may foreign)
  case recalled => exact fun r out w s may own => next_of_eq (exec_mbxRecall r out w s) (mbxWrite_own may own)
  case data => exact exec_mailboxDataWrite
  case dataStored =>
    exact fun r off w c k s may spot room => next_of_eq (exec_mailboxDataWrite r off w s)
      ((mbxData_spot may spot).trans (if_neg (ne_true_of_eq_false room)))
  case dataRejected =>
    exact fun r off w c k s may spot full => next_of_eq (exec_mailboxDataWrite r off w s) ((mbxData_spot may spot).trans (if_pos full))
  case timeout => exact fun out c s due => next_of_eq (exec_mailboxTimeout out c s) (mbxExpire_due due)
  case timeoutNot => exact fun out c s not => next_of_eq (exec_mailboxTimeout out c s) (mbxExpire_not not)

end Sys2Proof.Proofs
end

section
/-! The watchdog (file 22: R518 to R522): what each command runs. -/

namespace Sys2Proof.Proofs

open Sys2Proof.Machine

theorem exec_wdiToggle (s : State) : exec .wdiToggle s = .next { s with wdg := { s.wdg with wdi := !s.wdg.wdi, wdiSince := s.tick } } := rfl

theorem exec_wdgOpenPhaseEnd (s : State) : exec .wdgOpenPhaseEnd s =
    if s.due s.wdg.openEnd ∧ s.get WDG_STATE_STATE ≠ 2 then .next (s.wdgExpire 1) else .next s := rfl

/-- The closed phase is over, and the open one begins. -/
def openPhaseBegun (s : State) : State := { s.set WDG_STATE_PHASE 1 with wdg := { s.wdg with closedEnd := none } }

theorem exec_wdgClosedPhaseEnd (s : State) : exec .wdgClosedPhaseEnd s =
    if s.due s.wdg.closedEnd then .next (openPhaseBegun s) else .next s := rfl

theorem openPhaseBegun_phase (s : State) : (openPhaseBegun s).get WDG_STATE_PHASE = 1 := by
  have fits : WDG_STATE_PHASE.fits 0 := by
    unfold Field.fits
    decide
  exact State.get_set_same s WDG_STATE_PHASE 1 0 fits

theorem wdgClosedPhaseEnd_runs {s : State} (due : s.due s.wdg.closedEnd = true) :
    Runs .wdgClosedPhaseEnd s (fun t => t.get WDG_STATE_PHASE = 1 ∧ t.wdg = { s.wdg with closedEnd := none } ∧ t.mem = s.mem) :=
  ⟨_, (exec_wdgClosedPhaseEnd s).trans (if_pos due), openPhaseBegun_phase s, rfl, rfl⟩

/-- The pulse ends, and the reset outputs follow what else holds them (R522). -/
theorem exec_wdgPulseEnd (s : State) : exec .wdgPulseEnd s =
    if s.due (s.wdg.pulse.map (fun p => p.1)) then .next (({ s with wdg := { s.wdg with pulse := none } }).rstEval) else .next s := rfl

theorem exec_wdgSuspensionEnd (s : State) : exec .wdgSuspensionEnd s =
    if s.due s.wdg.openEnd ∧ s.get WDG_STATE_STATE = 2 then .next (s.wdgExpire 1) else .next s := rfl

/-- Settles O49, command by command, by the equation of its `exec` and the form of it that the clause's conditions choose. The clauses rest on a
choice of the model: WDI_TOGGLE is the raw change of level (log entry 85). -/
theorem watchdogCommands : Obligations.WatchdogCommands := by
  unfold Obligations.WatchdogCommands
  refine ⟨?toggle, ?openEnd, ?openEndNot, ?closedEnd, ?closedEndNot, ?closedEndRuns, ?pulseEnd, ?pulseEndNot, ?suspensionEnd, ?suspensionEndNot⟩
  case toggle => exact exec_wdiToggle
  case openEnd => exact fun s due => (exec_wdgOpenPhaseEnd s).trans (if_pos due)
  case openEndNot => exact fun s not => (exec_wdgOpenPhaseEnd s).trans (if_neg not)
  case closedEnd => exact fun s due => (exec_wdgClosedPhaseEnd s).trans (if_pos due)
  case closedEndNot => exact fun s not => (exec_wdgClosedPhaseEnd s).trans (if_neg not)
  case closedEndRuns => exact fun s due => wdgClosedPhaseEnd_runs due
  case pulseEnd => exact fun s due => (exec_wdgPulseEnd s).trans (if_pos due)
  case pulseEndNot => exact fun s not => (exec_wdgPulseEnd s).trans (if_neg not)
  case suspensionEnd => exact fun s due => (exec_wdgSuspensionEnd s).trans (if_pos due)
  case suspensionEndNot => exact fun s not => (exec_wdgSuspensionEnd s).trans (if_neg not)

end Sys2Proof.Proofs
end

section
/-! The Kiln and NVM (file 23: R531 to R541): what each command runs, and its forms. -/

namespace Sys2Proof.Proofs

open Sys2Proof.Machine

/-! ### BAKE (R537, R538) -/

theorem exec_bake_allowed {r : Requester} {s : State} (may : s.mayCommand r KLN_CMD_BAKE.addr .curator = true) : exec (.bake r) s =
    .next (if (s.touch r).nvm.bake.isSome then s.touch r
      else ((s.touch r).bakeCmd r).iff (!fromPartner r) (fun s => s.mirrorCommand 1)) := congrArg Host.Outcome.next (State.gateRole_ok may)

theorem exec_bakeComplete_none {good : Bool} {s : State} (none_ : s.nvm.bake = none) : exec (.bakeComplete good) s = .next s := by
  show execBakeComplete good s = _
  rw [execBakeComplete, none_]
  rfl

theorem exec_bakeComplete_some {good : Bool} {s : State} {k t : Nat} {c : KilnCopy} (runs : s.nvm.bake = some (k, t, c)) :
    exec (.bakeComplete good) s = if s.nvm.strata ∨ s.tick < t + c.len / 4 then .next s else .next (s.bakeDone k t c good) := by
  show execBakeComplete good s = _
  rw [execBakeComplete, runs]
  rfl

/-! ### WIPE (R540) -/

/-- A write of NVM_WIPE_CMD asks for a wipe that is refused: it has no key, another one runs, or the sector may not be wiped. -/
def wipeRefused (w : Word) (s : State) : Prop := bitsOf w 16 16 ≠ 0x3C3C ∨ s.nvm.wipe.isSome ∨ !s.mayWipe (bitsOf w 0 8)

/-- A wipe begins, and the watchdog is suspended. -/
def wipeBegun (n : Nat) (s : State) : State :=
  let s := (s.set NVM_WIPE_STAT_SECTOR n).set NVM_WIPE_STAT_RESULT 0
  ({ s with nvm := { s.nvm with wipe := some (n, s.tick) } }).wdgSuspend

theorem exec_wipe_allowed {r : Requester} {w : Word} {s : State} (may : s.mayCommand r NVM_WIPE_CMD_WIPE.addr .curator = true) :
    exec (.wipe r w) s = .next ((s.touch r).wipeCmd (w ||| 0x100)) := congrArg Host.Outcome.next (State.gateRole_ok may)

section
variable {w : Word} {s : State} (asks : ¬bitsOf w 8 1 = 0)
include asks

theorem wipeCmd_refused (refused : wipeRefused w s) :
    s.wipeCmd w = (s.set NVM_WIPE_STAT_RESULT 2).event .wipeRefused 0 [((bitsOf w 0 8 : Nat) : Int)] := (if_neg asks).trans (if_pos refused)

theorem wipeCmd_begins (accepted : ¬wipeRefused w s) : s.wipeCmd w = wipeBegun (bitsOf w 0 8) s := (if_neg asks).trans (if_neg accepted)

end

/-- A wipe of the sector `n` that began at tick `t` is over. -/
def wipeOver (n t : Nat) (s : State) : State :=
  let s := { s with nvm := { s.nvm with wipe := none } }
  let s := (s.sectorWiped n).set NVM_WIPE_STAT_RESULT 1
  s.set NVM_WIPE_STAT_MS (min ((s.tick - t + 999) / 1000) 65535)

/-- The suspension window of the watchdog is open from this tick on. -/
def suspensionOpened (s : State) : State :=
  let e := s.tick + s.wdgClosed + s.wdgOpen
  let s := (s.set WDG_STATE_PHASE 1).set WDG_OPEN_END_TICK e
  { s with wdg := { s.wdg with openEnd := some e } }

section
variable {s : State}

theorem wdgResume_suspended (suspended : s.get WDG_STATE_STATE = 2) : s.wdgResume = suspensionOpened s := if_pos suspended

theorem wdgResume_not (not : ¬s.get WDG_STATE_STATE = 2) : s.wdgResume = s := if_neg not

theorem wdgResume_nvm : s.wdgResume.nvm = s.nvm := by
  by_cases suspended : s.get WDG_STATE_STATE = 2
  · rw [wdgResume_suspended suspended]
    rfl
  · rw [wdgResume_not suspended]

theorem exec_wipeComplete_none (none_ : s.nvm.wipe = none) : exec .wipeComplete s = .next s := by
  show execWipeComplete s = _
  rw [execWipeComplete, none_]
  rfl

theorem exec_wipeComplete_some {n t : Nat} (runs : s.nvm.wipe = some (n, t)) : exec .wipeComplete s = .next (wipeOver n t s).wdgResume.settle := by
  show execWipeComplete s = _
  unfold execWipeComplete
  split
  case h_1 none_ => cases runs.symm.trans none_
  case h_2 n' t' runs' =>
    cases runs.symm.trans runs'
    rfl

/-- What has been wiped does not change whether a wipe runs. -/
theorem kilnWiped_wipe (n : Nat) : (s.kilnWiped n).nvm.wipe = s.nvm.wipe := by
  unfold State.kilnWiped
  split
  · rfl
  · rfl

theorem sectorWiped_wipe (n : Nat) : (s.sectorWiped n).nvm.wipe = s.nvm.wipe := kilnWiped_wipe n

theorem wipeOver_wipe (n t : Nat) : (wipeOver n t s).nvm.wipe = none := sectorWiped_wipe (s := { s with nvm := { s.nvm with wipe := none } }) n

theorem wipeComplete_runs {n b : Nat} (runs : s.nvm.wipe = some (n, b)) : Runs .wipeComplete s (fun t => t.nvm.wipe = none ∧ t.tick = s.tick) := by
  refine ⟨_, exec_wipeComplete_some runs, ?_, (exec_kept _ s rfl _ (exec_wipeComplete_some runs)).tick⟩
  rw [State.settle_nvm, wdgResume_nvm, wipeOver_wipe]

end

/-! ### Tilling, corrected words and the next length (R531, R536, R541) -/

/-- No word is visited: Tilling is off or not due, or the port has other work. -/
def tillingRests (s : State) : Prop :=
  !s.on NVM_CTRL_TILL_EN ∨ s.tick < s.tillDue ∨ s.nvm.strata ∨ s.nvm.wipe.isSome ∨ !s.nvm.waiting.isEmpty ∨
    (s.nvm.bake.isSome ∧ !s.bakedWord s.nvm.till)

/-- The word at `off` is read, and written again unless a BAKE has it or it cannot be corrected. -/
def tilled (found : WordError) (off : Nat) (s : State) : State :=
  if s.bakedWord off then s
  else
    let s := match found with
      | .none => s
      | .single => (s.inc NVM_ECC_SEC).inc SAF_CLASS_CNT_COUNT 2
      | .double => s.nvmFound off .double
    match found with
    | .double => s
    | _ => s.nvmStore off (s.nvmWord off)

/-- Tilling goes on to the next word; at the end of the memory a pass is over. -/
def tillNext (off : Nat) (s : State) : State :=
  let next := (off + 4) % 0x1000000
  let s := s.iff (next == 0) (fun s => s.inc NVM_TILL_STAT_PASSES)
  let s := s.set NVM_TILL_STAT_PCT (next * 100 / 0x1000000)
  let marks := if off % 0x10000 = 0 then put (fun _ => 0) s.nvm.marks (off / 0x10000) s.tick else s.nvm.marks
  let origin := if next = 0 then s.nvm.tillFrom + s.tillTicks else s.nvm.tillFrom
  { s with nvm := { s.nvm with till := next, marks := marks, tillFrom := origin } }

section
variable {found : WordError} {s : State}

theorem exec_tillingVisit_rests (rests : tillingRests s) : exec (.tillingVisit found) s = .next s := if_pos rests

theorem exec_tillingVisit_visits (visits : ¬tillingRests s) :
    exec (.tillingVisit found) s = .next (tillNext s.nvm.till (tilled found s.nvm.till s)) := if_neg visits

theorem tillingVisit_runs (enabled : s.on NVM_CTRL_TILL_EN = true) (noStrata : s.nvm.strata = false) (noWipe : s.nvm.wipe = none)
    (noBake : s.nvm.bake = none) (due : s.tillDue ≤ s.tick) (none_ : s.nvm.waiting = []) : Runs (.tillingVisit found) s (fun t =>
    t.nvm.till = (s.nvm.till + 4) % 0x1000000 ∧ t.tick = s.tick) := by
  have visits : ¬tillingRests s := by simp [tillingRests, enabled, noStrata, noWipe, noBake, due, none_]
  have runs := exec_tillingVisit_visits (found := found) visits
  exact ⟨_, runs, rfl, (exec_kept _ s rfl _ runs).tick⟩

/-- The port has other work than corrected words. -/
def correctionWaits (s : State) : Prop := !s.nvmFree ∨ s.nvm.wipe.isSome ∨ !s.nvm.waiting.isEmpty

theorem exec_eccCorrectRewrite_not (not : s.nvm.corrected = [] ∨ correctionWaits s) : exec .eccCorrectRewrite s = .next s := by
  show execEccCorrectRewrite s = _
  unfold execEccCorrectRewrite
  split
  case h_1 => rfl
  case h_2 off b rest some_ =>
    cases not with
    | inl none_ => cases some_.symm.trans none_
    | inr waits => exact if_pos waits

theorem exec_eccCorrectRewrite_rewrites {off b : Nat} {rest : List (Nat × Nat)} (some_ : s.nvm.corrected = (off, b) :: rest)
    (free : ¬correctionWaits s) :
    exec .eccCorrectRewrite s = .next (({ s with nvm := { s.nvm with corrected := rest } }).nvmStore off (s.nvmWord off)) := by
  show execEccCorrectRewrite s = _
  unfold execEccCorrectRewrite
  split
  case h_1 none_ => cases some_.symm.trans none_
  case h_2 off' b' rest' some' =>
    cases some_.symm.trans some'
    exact if_neg free

end

theorem exec_klnNextLenUpdate (s : State) : exec .klnNextLenUpdate s =
    if s.tick % 1000 = 0 then .next (s.set KLN_NEXT_LEN_LEN s.kilnImage.len) else .next s := rfl

/-- Settles O50, command by command, by the equation of its `exec` and the form of it that the clause's conditions choose. The clauses rest on choices
of the model: the source a BAKE shows, the pace of Tilling, what a BAKE stores, and how the port's work is ordered (log entries 22, 23, 28, 30 and
86). -/
theorem nvmCommands : Obligations.NvmCommands := by
  unfold Obligations.NvmCommands
  refine ⟨?bakeRunning, ?bake, ?bakedNone, ?bakedEarly, ?baked, ?wipeRefused, ?wipe, ?wipedNone, ?wipedSuspended, ?wiped, ?wipedRuns, ?tillRests,
    ?till, ?tillRuns, ?rewriteNot, ?rewrite, ?nextLen, ?nextLenNot⟩
  case bakeRunning => exact fun r s may running => (exec_bake_allowed may).trans (congrArg Host.Outcome.next (if_pos running))
  case bake => exact fun r s may idle => (exec_bake_allowed may).trans (congrArg Host.Outcome.next (if_neg idle))
  case bakedNone => exact fun good s none_ => exec_bakeComplete_none none_
  case bakedEarly => exact fun good s k t c runs early => (exec_bakeComplete_some runs).trans (if_pos early)
  case baked => exact fun good s k t c runs due => (exec_bakeComplete_some runs).trans (if_neg due)
  case wipeRefused => exact fun r w s may asks refused => next_of_eq (exec_wipe_allowed may) (wipeCmd_refused asks refused)
  case wipe => exact fun r w s may asks accepted => next_of_eq (exec_wipe_allowed may) (wipeCmd_begins asks accepted)
  case wipedNone => exact fun s none_ => exec_wipeComplete_none none_
  case wipedSuspended =>
    exact fun s n t runs suspended => next_of_eq (exec_wipeComplete_some runs) (congrArg State.settle (wdgResume_suspended suspended))
  case wiped => exact fun s n t runs not => next_of_eq (exec_wipeComplete_some runs) (congrArg State.settle (wdgResume_not not))
  case wipedRuns => exact fun n b s runs => wipeComplete_runs runs
  case tillRests => exact fun found s rests => exec_tillingVisit_rests rests
  case till => exact fun found s visits => exec_tillingVisit_visits visits
  case tillRuns =>
    exact fun f s enabled noStrata noWipe noBake due none_ => tillingVisit_runs enabled noStrata noWipe noBake due none_
  case rewriteNot => exact fun s not => exec_eccCorrectRewrite_not not
  case rewrite => exact fun s off b rest some_ free => exec_eccCorrectRewrite_rewrites some_ free
  case nextLen => exact fun s due => (exec_klnNextLenUpdate s).trans (if_pos due)
  case nextLenNot => exact fun s not => (exec_klnNextLenUpdate s).trans (if_neg not)

end Sys2Proof.Proofs
end

section
/-! The update chain (file 24: R551 to R555, R572): what each command runs, and what a frame does in each form. -/

namespace Sys2Proof.Proofs

open Sys2Proof.Machine

/-! ### A port and its record -/

theorem cport_setCport_same (s : State) (p : Fin 2) (x : ChainPort) : (s.setCport p x).cport p = x := Vector.getElem_set_self p.isLt

/-! ### BLOCK (R552, R554, R555) -/

/-- No block is received: the port is disabled, or down. -/
def blockUnheard (h : ChainHead) (s : State) : Prop := !s.chainOn h.port ∨ !s.chainUp h.port

/-- The block is not whole. -/
def blockBroken (h : ChainHead) : Prop := h.aborted ∨ !h.crcOk

/-- A block that was already leaving on the other port is aborted there. -/
def cutThroughAborted (h : ChainHead) (payload : List Byte) (cut : Bool) (s : State) : State :=
  s.iff cut (fun s => (s.inc CHN_ABORT_ABORTED).chainSend (otherPort h.port) (.block h.image h.block.toNat (h.hop.toNat + 1) false true payload))

section
variable {h : ChainHead} {payload : List Byte} {busy : Bool} {s : State}

theorem exec_chainBlock_unheard (unheard : blockUnheard h s) : exec (.chainBlock h payload busy) s = .next s := if_pos unheard

variable (heard : ¬blockUnheard h s)
include heard

theorem exec_chainBlock_aborted (broken : blockBroken h) (aborted : h.aborted) :
    exec (.chainBlock h payload busy) s = .next (cutThroughAborted h payload (s.cuts h busy) s) :=
  (if_neg heard).trans ((if_pos broken).trans (if_pos aborted))

/-- A block with a bad CRC is counted, and answered with NAK 1. -/
theorem exec_chainBlock_bad (broken : blockBroken h) (ended : ¬h.aborted) : exec (.chainBlock h payload busy) s =
    .next (((cutThroughAborted h payload (s.cuts h busy) s).inc CHN_ERR_CRC h.port.val).nak h 1) :=
  (if_neg heard).trans ((if_pos broken).trans (if_neg ended))

theorem exec_chainBlock_whole (whole : ¬blockBroken h) : exec (.chainBlock h payload busy) s =
    .next ((s.incWrap CHN_RX_CNT_FRAMES h.port.val).blockTake h payload (s.cuts h busy)) := (if_neg heard).trans (if_neg whole)

end

section
variable {h : ChainHead} {payload : List Byte} {cut : Bool} {s : State}

theorem blockTake_first (first : h.block = 0) : s.blockTake h payload cut = (s.blockZero h payload).settle := if_pos first

theorem blockTake_more (more : ¬h.block = 0) : s.blockTake h payload cut = (s.blockMore h payload cut).settle := if_neg more

end

/-! ### The other frames (R551, R553, R554) -/

section
variable {h : ChainHead} {f : State → State} {s : State}

theorem chainFrame_unheard (unheard : !s.chainOn h.port || h.aborted) : s.chainFrame h f = s := if_pos unheard

theorem chainFrame_bad (heard : ¬(!s.chainOn h.port || h.aborted)) (bad : !h.crcOk) : s.chainFrame h f = s.inc CHN_ERR_CRC h.port.val :=
  (if_neg heard).trans (if_pos bad)

theorem chainFrame_right (heard : ¬(!s.chainOn h.port || h.aborted)) (right : ¬(!h.crcOk)) :
    s.chainFrame h f = f (s.incWrap CHN_RX_CNT_FRAMES h.port.val) := (if_neg heard).trans (if_neg right)

/-- A frame that did not end with K30.7 is heard on an enabled port. -/
theorem chainFrame_heard (on : s.chainOn h.port = true) (ended : h.aborted = false) : ¬(!s.chainOn h.port || h.aborted) := by
  simp [on, ended]

end

/-- A block that is acknowledged is no longer on its way. -/
def blockAcked (h : ChainHead) (s : State) : State :=
  s.setCport h.port { s.cport h.port with sent := (s.cport h.port).sent.filter (fun y => y.b != h.block.toNat) }

/-- An ACK of the image in hand lets the next blocks go. -/
def ackTaken (h : ChainHead) (s : State) : State :=
  if h.image.toNat ≠ s.get CHN_IMAGE_ID then s else (blockAcked h s).pumpAll h.port

/-- A NAK is counted; for a bad CRC of the image in hand the block goes again. -/
def nakTaken (h : ChainHead) (reason : Fin 6) (s : State) : State :=
  let s := s.inc CHN_RETX_NAK_RX h.port.val
  if reason = 1 ∧ h.image.toNat = s.get CHN_IMAGE_ID ∧ s.chainUp h.port then s.resend h.port h.block.toNat else s

/-- A STATUS goes on while both ports are up. -/
def statusTaken (h : ChainHead) (payload : List Byte) (s : State) : State :=
  if s.chainUp h.port && s.chainUp (otherPort h.port) then s.chainSend (otherPort h.port) (.status payload) else s

theorem exec_chainAck (h : ChainHead) (s : State) : exec (.chainAck h) s = .next (s.chainFrame h (ackTaken h)) := rfl

theorem exec_chainNak (h : ChainHead) (reason : Fin 6) (s : State) :
    exec (.chainNak h reason) s = .next (s.chainFrame h (nakTaken h reason)) := rfl

theorem exec_chainHello (h : ChainHead) (uid : BitVec 64) (st : Fin 8) (result : Fin 16) (ready : Bool) (s : State) :
    exec (.chainHello h uid st result ready) s = .next (s.chainFrame h (fun s => s.helloRx h.port uid st result ready)) := rfl

theorem exec_chainStatus (h : ChainHead) (payload : List Byte) (s : State) :
    exec (.chainStatus h payload) s = .next (s.chainFrame h (statusTaken h payload)) := rfl

theorem chainAck_runs {h : ChainHead} {s : State} (on : s.chainOn h.port = true) (ended : h.aborted = false) (right : h.crcOk = true)
    (inHand : h.image.toNat = (s.incWrap CHN_RX_CNT_FRAMES h.port.val).get CHN_IMAGE_ID) :
    Runs (.chainAck h) s (fun t => ∃ u : State, t = u.pumpAll h.port ∧
    (u.cport h.port).sent = ((s.incWrap CHN_RX_CNT_FRAMES h.port.val).cport h.port).sent.filter (fun y => y.b != h.block.toNat)) := by
  have taken : s.chainFrame h (ackTaken h) = (blockAcked h (s.incWrap CHN_RX_CNT_FRAMES h.port.val)).pumpAll h.port :=
    (chainFrame_right (chainFrame_heard on ended) (by simp [right])).trans (if_neg (not_not_intro inHand))
  refine ⟨_, next_of_eq (exec_chainAck h s) taken, _, rfl, ?_⟩
  rw [blockAcked, cport_setCport_same]

/-! ### HELLOs sent and missing, blocks sent again, RESET_LINK (R553, R554, R572) -/

/-- A HELLO goes on every enabled port. -/
def helloesSent (s : State) : State :=
  let s := s.each ((List.finRange 2).filter (fun p => s.chainOn p)) (fun s p => s.chainSend p (.hello s.helloBytes))
  { s with chn := { s.chn with helloSent := s.tick } }

theorem exec_helloSend (s : State) : exec .helloSend s =
    if s.chn.helloSent + 100000 ≤ s.tick ∧ (s.chainOn 0 ∨ s.chainOn 1) then .next (helloesSent s) else .next s := rfl

theorem helloSend_runs {s : State} (due : s.chn.helloSent + 100000 ≤ s.tick) (on : s.chainOn 0 = true ∨ s.chainOn 1 = true) :
    Runs .helloSend s (fun t => t.chn.helloSent = s.tick ∧ t.tick = s.tick) := by
  have runs := (exec_helloSend s).trans (if_pos ⟨due, on⟩)
  have ticks : (helloesSent s).tick = s.tick := (exec_kept _ s rfl _ runs).tick
  have noted : (helloesSent s).chn.helloSent = (helloesSent s).tick := rfl
  exact ⟨_, runs, noted.trans ticks, ticks⟩

/-- Code violations of the running second, with `codes` more. -/
def violations (p : Fin 2) (codes : Nat) (s : State) : Nat :=
  if (s.cport p).codes.1 = s.tick / 1000000 then (s.cport p).codes.2 + codes else codes

def violationsNoted (p : Fin 2) (codes : Nat) (s : State) : State :=
  (s.addSat CHN_ERR_CODE codes p.val).setCport p { s.cport p with codes := (s.tick / 1000000, violations p codes s) }

theorem exec_chainPortTimeout (p : Fin 2) (codes : Nat) (s : State) : exec (.chainPortTimeout p codes) s =
    if !s.chainOn p then .next s
    else if (violationsNoted p codes s).chainUp p ∧ (16 < violations p codes s ∨ (violationsNoted p codes s).helloLate p)
      then .next ((violationsNoted p codes s).chainDown p)
    else .next (violationsNoted p codes s) := rfl

theorem exec_chainRetransmit (p : Fin 2) (s : State) : exec (.chainRetransmit p) s =
    if !s.chainUp p then .next s
    else .next (s.each ((s.cport p).sent.filter (fun y => decide (y.at_ + 1000 * s.get CHN_TIME_RETX_MS ≤ s.tick)))
      (fun s y => s.resend p y.b)) := rfl

/-- The port that a write of CHN_CMD names. -/
def commandPort (w : Word) : Fin 2 := Fin.ofNat 2 (bitsOf w 0 1)

theorem exec_resetLink_allowed {r : Requester} {w : Word} {s : State} (may : s.mayWrite r CHN_CMD_PORT.addr = true) :
    exec (.resetLink r w) s = .next (if (s.touch r).chainUp (commandPort w) then (s.touch r).chainDown (commandPort w) else s.touch r) :=
  congrArg Host.Outcome.next (State.gate_ok may)

/-- Settles O51, command by command, by the equation of its `exec` and the form of a frame that the clause's conditions choose. The clauses rest on
choices of the model: when the NVM port takes a block, and that the verdict on an image is an operand (log entries 86 and 87). -/
theorem chainCommands : Obligations.ChainCommands := by
  unfold Obligations.ChainCommands
  refine ⟨?blockUnheard, ?blockAborted, ?blockBad, ?blockFirst, ?blockMore, ?ackUnheard, ?ackBad, ?ack, ?ackRuns, ?ackHere, ?ackBadHere,
    ?nakUnheard, ?nakBad, ?nak, ?nakHere, ?nakBadHere, ?helloUnheard, ?helloBad, ?hello, ?helloHere, ?helloBadHere, ?statusUnheard, ?statusBad,
    ?status, ?statusHere, ?statusBadHere, ?helloSend, ?helloSendNot, ?helloSendRuns, ?portOff, ?portDown, ?portKept, ?resendDown, ?resend, ?resetUp,
    ?resetDown⟩
  case blockUnheard => exact fun h payload busy s unheard => exec_chainBlock_unheard unheard
  case blockAborted => exact fun h payload busy s heard broken aborted => exec_chainBlock_aborted heard broken aborted
  case blockBad => exact fun h payload busy s heard broken ended => exec_chainBlock_bad heard broken ended
  case blockFirst =>
    exact fun h payload busy s heard whole first => next_of_eq (exec_chainBlock_whole heard whole) (blockTake_first first)
  case blockMore => exact fun h payload busy s heard whole more => next_of_eq (exec_chainBlock_whole heard whole) (blockTake_more more)
  case ackUnheard => exact fun h s unheard => next_of_eq (exec_chainAck h s) (chainFrame_unheard unheard)
  case ackBad => exact fun h s heard bad => next_of_eq (exec_chainAck h s) (chainFrame_bad heard bad)
  case ack => exact fun h s heard right => next_of_eq (exec_chainAck h s) (chainFrame_right heard right)
  case ackRuns => exact fun h s on ended right inHand => chainAck_runs on ended right inHand
  case ackHere =>
    exact fun h s on ended right => next_of_eq (exec_chainAck h s) (chainFrame_right (chainFrame_heard on ended) (by simp [right]))
  case ackBadHere =>
    exact fun h s on ended bad => next_of_eq (exec_chainAck h s) (chainFrame_bad (chainFrame_heard on ended) (by rw [bad]; rfl))
  case nakUnheard => exact fun h reason s unheard => next_of_eq (exec_chainNak h reason s) (chainFrame_unheard unheard)
  case nakBad => exact fun h reason s heard bad => next_of_eq (exec_chainNak h reason s) (chainFrame_bad heard bad)
  case nak => exact fun h reason s heard right => next_of_eq (exec_chainNak h reason s) (chainFrame_right heard right)
  case nakHere =>
    exact fun h reason s on ended right =>
      next_of_eq (exec_chainNak h reason s) (chainFrame_right (chainFrame_heard on ended) (by simp [right]))
  case nakBadHere =>
    exact fun h reason s on ended bad =>
      next_of_eq (exec_chainNak h reason s) (chainFrame_bad (chainFrame_heard on ended) (by rw [bad]; rfl))
  case helloUnheard =>
    exact fun h uid st result ready s unheard => next_of_eq (exec_chainHello h uid st result ready s) (chainFrame_unheard unheard)
  case helloBad =>
    exact fun h uid st result ready s heard bad => next_of_eq (exec_chainHello h uid st result ready s) (chainFrame_bad heard bad)
  case hello =>
    exact fun h uid st result ready s heard right => next_of_eq (exec_chainHello h uid st result ready s) (chainFrame_right heard right)
  case helloHere =>
    exact fun h uid st result ready s on ended right =>
      next_of_eq (exec_chainHello h uid st result ready s) (chainFrame_right (chainFrame_heard on ended) (by simp [right]))
  case helloBadHere =>
    exact fun h uid st result ready s on ended bad =>
      next_of_eq (exec_chainHello h uid st result ready s) (chainFrame_bad (chainFrame_heard on ended) (by rw [bad]; rfl))
  case statusUnheard => exact fun h payload s unheard => next_of_eq (exec_chainStatus h payload s) (chainFrame_unheard unheard)
  case statusBad => exact fun h payload s heard bad => next_of_eq (exec_chainStatus h payload s) (chainFrame_bad heard bad)
  case status => exact fun h payload s heard right => next_of_eq (exec_chainStatus h payload s) (chainFrame_right heard right)
  case statusHere =>
    exact fun h payload s on ended right =>
      next_of_eq (exec_chainStatus h payload s) (chainFrame_right (chainFrame_heard on ended) (by simp [right]))
  case statusBadHere =>
    exact fun h payload s on ended bad =>
      next_of_eq (exec_chainStatus h payload s) (chainFrame_bad (chainFrame_heard on ended) (by rw [bad]; rfl))
  case helloSend => exact fun s due => (exec_helloSend s).trans (if_pos due)
  case helloSendNot => exact fun s not => (exec_helloSend s).trans (if_neg not)
  case helloSendRuns => exact fun s due on => helloSend_runs due on
  case portOff => exact fun p codes s off => (exec_chainPortTimeout p codes s).trans (if_pos off)
  case portDown => exact fun p codes s on fails => (exec_chainPortTimeout p codes s).trans ((if_neg on).trans (if_pos fails))
  case portKept => exact fun p codes s on holds => (exec_chainPortTimeout p codes s).trans ((if_neg on).trans (if_neg holds))
  case resendDown => exact fun p s down => (exec_chainRetransmit p s).trans (if_pos down)
  case resend => exact fun p s up => (exec_chainRetransmit p s).trans (if_neg up)
  case resetUp => exact fun r w s may up => (exec_resetLink_allowed may).trans (congrArg Host.Outcome.next (if_pos up))
  case resetDown => exact fun r w s may down => (exec_resetLink_allowed may).trans (congrArg Host.Outcome.next (if_neg down))

end Sys2Proof.Proofs
end

section
/-! Staging, trial and module updates (file 24: R561 to R568): what each command runs, and its forms. -/

namespace Sys2Proof.Proofs

open Sys2Proof.Machine

/-! ### Staging and activation (R561, R563, R568) -/

theorem exec_stagingRxTimeout (s : State) : exec .stagingRxTimeout s =
    if s.get UPD_STATE_STATE = 1 ∧ s.upd.lastNew + 1000000 * s.get UPD_CFG_RX_TMO_S ≤ s.tick then .next (s.stagingEnd 6) else .next s := rfl

section
variable {r : Requester} {s : State} (may : s.mayWrite r UPD_CMD_ACTIVATE.addr = true)
include may

theorem exec_updActivate_allowed : exec (.updActivate r) s = .next (s.touch r).activate := congrArg Host.Outcome.next (State.gate_ok may)

theorem exec_updDiscard_allowed : exec (.updDiscard r) s = .next (s.touch r).discardImage := congrArg Host.Outcome.next (State.gate_ok may)

theorem exec_updRevert_allowed : exec (.updRevert r) s =
    .next (if (s.touch r).get UPD_STATE_STATE = 4 then ((s.touch r).revertBegin 10 0xFF).settle else s.touch r) :=
  congrArg Host.Outcome.next (State.gate_ok may)

end

/-- A staged image may be activated: the unit runs no firmware, or stands in NORMAL at the level FULL. -/
def mayActivate (s : State) : Prop := s.get UPD_STATE_STATE = 2 ∧ (s.on SYS_STAT_NO_FW ∨ (s.power = .normal ∧ s.full))

/-- The image goes to its trial, and the core starts again. -/
def trialStarted (s : State) : State :=
  let s := s.writeSelector { s.selector with trial := true, boots := 0, relT := s.get UPD_REL_NEW_REL, image := s.get UPD_IMAGE_ID }
  let s := { s with upd := { s.upd with activatedAt := s.tick, targets := none, cur := none } }
  ((s.updEnter 3 0 0xFF).coreRestart).settle

section
variable {s : State}

theorem activate_staged (may : mayActivate s) : s.activate = trialStarted s := if_pos may

theorem activate_refused (mayNot : ¬mayActivate s) : s.activate = s.event .activateRefused := if_neg mayNot

theorem discardImage_staging (staging : s.get UPD_STATE_STATE = 1 ∨ s.get UPD_STATE_STATE = 2) : s.discardImage = s.stagingEnd 9 := if_pos staging

theorem discardImage_not (not : ¬(s.get UPD_STATE_STATE = 1 ∨ s.get UPD_STATE_STATE = 2)) : s.discardImage = s := if_neg not

end

/-! ### The bank report of a module (R566) -/

/-- The first result of the module requests is taken. -/
def resultTaken (rest : List (Nat × Nat × BusResult)) (s : State) : State := { s with twb := { s.twb with modRes := rest } }

/-- The target asked for nothing more. -/
def nothingAsked (s : State) : State := { s with upd := { s.upd with cur := none } }

/-- A bank status read is judged: it counts for the target that asked for it, and fails it where it brought no 4 bytes. -/
def bankJudged (n cmd : Nat) (r : BusResult) (s : State) : State :=
  match s.upd.cur with
  | none => s
  | some i =>
    match s.modTargets[i]? with
    | none => s
    | some t =>
      if t.entry ≠ n ∨ t.asks ≠ cmd then s
      else if r.code = 0 ∧ r.data.length = 4 then (nothingAsked s).modReport i t r.data else (nothingAsked s).modFail i t

theorem exec_moduleBankReport (s : State) : exec .moduleBankReport s = .next (s.modTake true).settle := rfl

section
variable {s : State}

theorem modTake_none (none_ : s.twb.modRes = []) : s.modTake true = s := by
  rw [State.modTake, none_]

variable {n cmd : Nat} {r : BusResult} {rest : List (Nat × Nat × BusResult)} (first : s.twb.modRes = (n, cmd, r) :: rest)
include first

theorem modTake_write (write : (cmd == 0xE2) != true) : s.modTake true = s := by
  rw [State.modTake, first]
  exact if_pos write

theorem modTake_status (status : ¬((cmd == 0xE2) != true)) : s.modTake true = bankJudged n cmd r (resultTaken rest s) := by
  unfold State.modTake
  split
  case h_1 none_ => cases first.symm.trans none_
  case h_2 n' cmd' r' rest' first' =>
    cases first.symm.trans first'
    exact if_neg status

end

section
variable {s : State} {n cmd : Nat} {r : BusResult}

theorem bankJudged_unasked (unasked : s.upd.cur = none) : bankJudged n cmd r s = s := by
  rw [bankJudged, unasked]

variable {i : Nat} (asked : s.upd.cur = some i)
include asked

theorem bankJudged_noTarget (noTarget : s.modTargets[i]? = none) : bankJudged n cmd r s = s := by
  rw [bankJudged, asked]
  dsimp only
  rw [noTarget]

variable {t : ModTarget} (target : s.modTargets[i]? = some t)
include target

theorem bankJudged_target : bankJudged n cmd r s =
    if t.entry ≠ n ∨ t.asks ≠ cmd then s
    else if r.code = 0 ∧ r.data.length = 4 then (nothingAsked s).modReport i t r.data else (nothingAsked s).modFail i t := by
  rw [bankJudged, asked]
  dsimp only
  rw [target]

end

/-! ### Timeouts of the trial (R566) -/

/-- The first target whose trial lasts longer than a module may take. -/
def lateTarget (s : State) : Option ModTarget :=
  s.modTargets.find? (fun t => t.phase == .trial && decide (t.at_ + 1000000 * s.get UPD_MOD_CFG_MOD_TMO_S ≤ s.tick))

section
variable {s : State}

theorem exec_moduleTimeout_not (not : s.get UPD_STATE_STATE ≠ 4) : exec .moduleTimeout s = .next s := if_pos not

variable (trial : ¬s.get UPD_STATE_STATE ≠ 4)
include trial

theorem exec_moduleTimeout_none (none_ : lateTarget s = none) : exec .moduleTimeout s = .next s := by
  refine (if_neg trial).trans ?_
  rw [← lateTarget, none_]
  rfl

theorem exec_moduleTimeout_late {t : ModTarget} (late : lateTarget s = some t) : exec .moduleTimeout s = .next (s.targetFailed t).settle := by
  refine (if_neg trial).trans ?_
  rw [← lateTarget, late]
  rfl

end

theorem targetFailed_trial {s : State} (t : ModTarget) (trial : s.get UPD_STATE_STATE = 4) :
    s.targetFailed t = (s.set UPD_MOD_FAIL_ENTRY t.entry).revertBegin 5 t.part := if_pos trial

theorem exec_trialTimeout (s : State) : exec .trialTimeout s =
    if s.get UPD_STATE_STATE = 4 ∧ s.upd.activatedAt + 1000000 * s.get UPD_CFG_TRIAL_S ≤ s.tick ∧
        !s.modTargets.any (fun t => t.phase == .commit || t.phase == .finished) then .next (s.revertBegin 6 0xFF).settle
    else .next s := rfl

/-- Settles O52, command by command, by the equation of its `exec` and the form of it that the clause's conditions choose. The clauses rest on choices
of the model: how an activation, a discard and a module's trial go (log entry 49). -/
theorem updateCommands : Obligations.UpdateCommands := by
  unfold Obligations.UpdateCommands
  refine ⟨?staging, ?stagingNot, ?activate, ?activateRefused, ?discarded, ?discardNot, ?reverted, ?revertNot, ?reportNone, ?reportWrite,
    ?reportUnasked, ?reportNoTarget, ?reportOther, ?reportRead, ?reportFailed, ?moduleNot, ?moduleLate, ?moduleNone, ?trial, ?trialNot⟩
  case staging => exact fun s late => (exec_stagingRxTimeout s).trans (if_pos late)
  case stagingNot => exact fun s not => (exec_stagingRxTimeout s).trans (if_neg not)
  case activate => exact fun r s may staged => next_of_eq (exec_updActivate_allowed may) (activate_staged staged)
  case activateRefused => exact fun r s may not => next_of_eq (exec_updActivate_allowed may) (activate_refused not)
  case discarded => exact fun r s may staging => next_of_eq (exec_updDiscard_allowed may) (discardImage_staging staging)
  case discardNot => exact fun r s may not => next_of_eq (exec_updDiscard_allowed may) (discardImage_not not)
  case reverted => exact fun r s may trial => next_of_eq (exec_updRevert_allowed may) (if_pos trial)
  case revertNot => exact fun r s may not => next_of_eq (exec_updRevert_allowed may) (if_neg not)
  case reportNone => exact fun s none_ => next_of_eq (exec_moduleBankReport s) (congrArg State.settle (modTake_none none_))
  case reportWrite =>
    exact fun s n cmd r rest first write => next_of_eq (exec_moduleBankReport s) (congrArg State.settle (modTake_write first write))
  case reportUnasked =>
    exact fun s n cmd r rest first status unasked => next_of_eq (exec_moduleBankReport s)
      (congrArg State.settle ((modTake_status first status).trans (bankJudged_unasked unasked)))
  case reportNoTarget =>
    exact fun s n cmd r rest i first status asked noTarget => next_of_eq (exec_moduleBankReport s)
      (congrArg State.settle ((modTake_status first status).trans (bankJudged_noTarget asked noTarget)))
  case reportOther =>
    exact fun s n cmd r rest i t first status asked target other => next_of_eq (exec_moduleBankReport s)
      (congrArg State.settle ((modTake_status first status).trans ((bankJudged_target asked target).trans (if_pos other))))
  case reportRead =>
    exact fun s n cmd r rest i t first status asked target own _ read => next_of_eq (exec_moduleBankReport s)
      (congrArg State.settle ((modTake_status first status).trans
        ((bankJudged_target asked target).trans ((if_neg own).trans (if_pos read)))))
  case reportFailed =>
    exact fun s n cmd r rest i t first status asked target own _ failed => next_of_eq (exec_moduleBankReport s)
      (congrArg State.settle ((modTake_status first status).trans
        ((bankJudged_target asked target).trans ((if_neg own).trans (if_neg failed)))))
  case moduleNot => exact fun s not => exec_moduleTimeout_not not
  case moduleLate =>
    exact fun s t trial late here => next_of_eq (exec_moduleTimeout_late trial late) (congrArg State.settle (targetFailed_trial t here))
  case moduleNone => exact fun s trial none_ => exec_moduleTimeout_none trial none_
  case trial => exact fun s late => (exec_trialTimeout s).trans (if_pos late)
  case trialNot => exact fun s not => (exec_trialTimeout s).trans (if_neg not)

end Sys2Proof.Proofs
end

section
/-! Fault coverage (file 25: R578 to R582): what each command runs, and its forms. -/

namespace Sys2Proof.Proofs

open Sys2Proof.Machine

/-! ### The comparison of the cores (R578) -/

theorem exec_coreTaskBoundary (task : Byte) (differ : Bool) (s : State) : exec (.coreTaskBoundary task differ) s =
    if !s.coreCmp then .next s
    else if differ then .next ((s.incWrap SAF_CORE_STAT_COMPARES).coreFault task.toNat) else .next (s.incWrap SAF_CORE_STAT_COMPARES) := rfl

theorem exec_coreBoundaryTimeout (task : Byte) (s : State) : exec (.coreBoundaryTimeout task) s =
    if s.coreCmp then .next (s.coreFault task.toNat) else .next s := rfl

theorem exec_coreRelease_allowed {r : Requester} {s : State} (may : s.mayCommand r SAF_CMD_CORE_RELEASE.addr .curator = true) :
    exec (.coreRelease r) s = .next (if (s.touch r).on SAF_STAT_CORE_HELD
      then (((s.touch r).setB SAF_STAT_CORE_HELD false).bootStart).settle else s.touch r) := congrArg Host.Outcome.next (State.gateRole_ok may)

/-! ### Sieve (R579) -/

/-- Sieve rests: tick g has not come, or it is off. -/
def sieveRests (s : State) : Prop := s.boot.g.isNone ∨ !s.on BKG_SIEVE_CFG_EN

/-- The pass has read its SRAM words, or the next is not due. -/
def sramEarly (s : State) : Prop := sramWords ≤ s.saf.sramRead ∨ s.tick % 8000000 < 5 * s.saf.sramRead

/-- The pass reads no NVM, has read its NVM words, or the next 4 are not due. -/
def nvmEarly (s : State) : Prop :=
  !s.on BKG_SIEVE_CFG_NVM_EN ∨ nvmWords ≤ s.saf.nvmRead ∨ s.tick % 8000000 < 7 * (s.saf.nvmRead / 4)

/-- The position in SRAM goes on by a word. -/
def sramPassed (s : State) : State :=
  let w := s.saf.sramRead
  let s := { s with saf := { s.saf with sramRead := w + 1 } }
  (s.set BKG_SIEVE_POS_WORD w).set BKG_SIEVE_STAT_PCT ((w + 1) * 100 / sramWords)

/-- The position in NVM goes on by 4 words. -/
def nvmPassed (s : State) : State :=
  let w := s.saf.nvmRead
  ({ s with saf := { s.saf with nvmRead := w + 4 } }).set BKG_SIEVE_NPOS_WORD (w + 3)

section
variable {sram : Bool} {spot : SramSpot} {found : Vector WordError 4} {s : State}

theorem exec_sieveRead_rests (rests : sieveRests s) : exec (.sieveRead sram spot found) s = .next s := if_pos rests

variable (runs : ¬sieveRests s)
include runs

theorem exec_sieveRead_sram_early (here : sram) (early : sramEarly s) : exec (.sieveRead sram spot found) s = .next s :=
  (if_neg runs).trans ((if_pos here).trans (if_pos early))

theorem exec_sieveRead_sram_due (here : sram) (due : ¬sramEarly s) :
    exec (.sieveRead sram spot found) s = .next ((sramPassed s).sramFound s.saf.sramRead spot (found.get 0)) :=
  (if_neg runs).trans ((if_pos here).trans (if_neg due))

theorem exec_sieveRead_nvm_early (elsewhere : ¬sram) (early : nvmEarly s) : exec (.sieveRead sram spot found) s = .next s :=
  (if_neg runs).trans ((if_neg elsewhere).trans (if_pos early))

theorem exec_sieveRead_nvm_due (elsewhere : ¬sram) (due : ¬nvmEarly s) : exec (.sieveRead sram spot found) s =
    .next (((nvmPassed s).each (List.finRange 4) (fun t i => t.nvmFound (4 * (s.saf.nvmRead + i.val)) (found.get i))).settle) :=
  (if_neg runs).trans ((if_neg elsewhere).trans (if_neg due))

end

theorem sieveRead_runs {spot : SramSpot} {f : Vector WordError 4} {s : State} (started : s.boot.g.isSome = true) (on : s.on BKG_SIEVE_CFG_EN = true)
    (left : s.saf.sramRead < sramWords) (due : 5 * s.saf.sramRead ≤ s.tick % 8000000) : Runs (.sieveRead true spot f) s (fun t => ∃ u : State,
    t = u.sramFound s.saf.sramRead spot (f.get 0) ∧ u.saf = { s.saf with sramRead := s.saf.sramRead + 1 } ∧ u.mem = s.mem) := by
  have runs : ¬sieveRests s := by simp [sieveRests, on, Option.isSome_iff_ne_none.mp started]
  have now : ¬sramEarly s := by simp [sramEarly, left, due]
  exact ⟨_, exec_sieveRead_sram_due runs rfl now, sramPassed s, rfl, rfl, rfl⟩

/-- No pass ends: the tick ends none, or Sieve rests. -/
def passGoesOn (s : State) : Prop := s.tick % 8000000 ≠ 0 ∨ s.boot.g.isNone ∨ !s.on BKG_SIEVE_CFG_EN

/-- The pass has read every word that it had to. -/
def passWhole (s : State) : Bool :=
  decide (sramWords ≤ s.saf.sramRead) && (!s.on BKG_SIEVE_CFG_NVM_EN || decide (nvmWords ≤ s.saf.nvmRead))

/-- The next pass begins. -/
def passBegun (s : State) : State := ({ s with saf := { s.saf with sramRead := 0, nvmRead := 0 } }).set BKG_SIEVE_STAT_PCT 0

/-- A whole pass is counted. -/
def passCounted (s : State) : State := (s.incWrap BKG_SIEVE_STAT_PASSES).setB BKG_STAT_SIEVE_LATE false

/-- A pass that was late is counted and recorded. -/
def passLate (s : State) : State := ((s.inc BKG_SIEVE_LATE_LATE).setB BKG_STAT_SIEVE_LATE true).event .sieveLate

section
variable {s : State}

theorem exec_sievePassEnd_not (not : passGoesOn s) : exec .sievePassEnd s = .next s := if_pos not

variable (ends : ¬passGoesOn s)
include ends

theorem exec_sievePassEnd_whole (whole : passWhole s) : exec .sievePassEnd s = .next (passCounted (passBegun s)).settle :=
  (if_neg ends).trans (if_pos whole)

theorem exec_sievePassEnd_late (late : ¬passWhole s) : exec .sievePassEnd s = .next (passLate (passBegun s)).settle :=
  (if_neg ends).trans (if_neg late)

end

theorem sievePassEnd_runs {s : State} (last : s.tick % 8000000 = 0) (started : s.boot.g.isSome = true) (on : s.on BKG_SIEVE_CFG_EN = true) :
    Runs .sievePassEnd s (fun t => t.saf.sramRead = 0 ∧ t.saf.nvmRead = 0 ∧ t.mem = s.mem) := by
  have ends : ¬passGoesOn s := by simp [passGoesOn, last, on, Option.isSome_iff_ne_none.mp started]
  by_cases whole : passWhole s
  · refine ⟨_, exec_sievePassEnd_whole ends whole, ?_⟩
    dsimp only
    rw [State.settle_saf, State.settle_mem]
    exact ⟨rfl, rfl, rfl⟩
  · refine ⟨_, exec_sievePassEnd_late ends whole, ?_⟩
    dsimp only
    rw [State.settle_saf, State.settle_mem]
    exact ⟨rfl, rfl, rfl⟩

/-! ### Droops (R581) -/

theorem exec_supplyDroop (k : Fin 3) (lat : Fin 6) (s : State) : exec (.supplyDroop k lat) s =
    if s.on (droopField k) then .next s
    else .next ((((s.setB (droopField k) true).inc SAF_DROOP_STAT_COUNT).detect 11 lat.val).settle) := rfl

theorem exec_supplyDroopEnd (k : Fin 3) (s : State) : exec (.supplyDroopEnd k) s =
    if s.on (droopField k) then .next (s.setB (droopField k) false).settle else .next s := rfl

/-! ### Telemetry (R582) -/

/-- No refresh is due: tick g has not come, the unit is in HALT, or the period is not over. -/
def telemetryRests (s : State) : Prop := s.boot.g.isNone ∨ s.power = .halt ∨ s.tick < s.saf.telAt + s.telPeriod

/-- The period of the telemetry begins again. -/
def telemetryDue (s : State) : State := { s with saf := { s.saf with telAt := s.telGrid } }

/-- A refresh that did not come is counted. -/
def telemetryLate (s : State) : State := { (s.inc BKG_TEL_STAT_LATE) with saf := { s.saf with telLate := some (s.tick / 1000000) } }

section
variable {s : State}

theorem exec_telemetryRefresh_rests {ms : Option (BitVec 16)} (rests : telemetryRests s) : exec (.telemetryRefresh ms) s = .next s := if_pos rests

variable (due : ¬telemetryRests s)
include due

theorem exec_telemetryRefresh_comes (d : BitVec 16) :
    exec (.telemetryRefresh (some d)) s = .next (((telemetryDue s).telRefresh).set BKG_TEL_STAT_LAST_MS d.toNat) := if_neg due

theorem exec_telemetryRefresh_late : exec (.telemetryRefresh none) s = .next (telemetryLate (telemetryDue s)) := if_neg due

end

theorem telemetryRefresh_runs {s : State} (started : s.boot.g.isSome = true) (awake : s.power ≠ .halt) (due : s.saf.telAt + s.telPeriod ≤ s.tick) :
    Runs (.telemetryRefresh none) s (fun t =>
    t.saf = { s.saf with telAt := s.telGrid, telLate := some (s.tick / 1000000) } ∧ t.mem = s.mem) := by
  have now : ¬telemetryRests s := by simp [telemetryRests, awake, due, Option.isSome_iff_ne_none.mp started]
  exact ⟨_, exec_telemetryRefresh_late now, rfl, rfl⟩

/-- Settles O53, command by command, by the equation of its `exec` and the form of it that the clause's conditions choose. The clauses rest on choices
of the model: what Sieve reads and loses, how the telemetry is refreshed, and which errors an operand brings (log entries 50, 51 and 88). -/
theorem coverageCommands : Obligations.CoverageCommands := by
  unfold Obligations.CoverageCommands
  refine ⟨?taskNot, ?taskDiffers, ?taskSame, ?boundary, ?boundaryNot, ?release, ?releaseNot, ?sieveRests, ?sieveSramEarly, ?sieveSram,
    ?sieveNvmEarly, ?sieveNvm, ?sieveRuns, ?passNot, ?passWhole, ?passLate, ?passRuns, ?droopHeld, ?droop, ?droopEnd, ?droopEndNot, ?telemetryRests,
    ?telemetry, ?telemetryLate, ?telemetryRuns⟩
  case taskNot => exact fun task differ s off => (exec_coreTaskBoundary task differ s).trans (if_pos off)
  case taskDiffers => exact fun task differ s on differs => (exec_coreTaskBoundary task differ s).trans ((if_neg on).trans (if_pos differs))
  case taskSame => exact fun task differ s on same => (exec_coreTaskBoundary task differ s).trans ((if_neg on).trans (if_neg same))
  case boundary => exact fun task s on => (exec_coreBoundaryTimeout task s).trans (if_pos on)
  case boundaryNot => exact fun task s off => (exec_coreBoundaryTimeout task s).trans (if_neg off)
  case release => exact fun r s may held => next_of_eq (exec_coreRelease_allowed may) (if_pos held)
  case releaseNot => exact fun r s may free => next_of_eq (exec_coreRelease_allowed may) (if_neg free)
  case sieveRests => exact fun sram spot found s rests => exec_sieveRead_rests rests
  case sieveSramEarly => exact fun sram spot found s runs here early => exec_sieveRead_sram_early runs here early
  case sieveSram => exact fun sram spot found s runs here due => exec_sieveRead_sram_due runs here due
  case sieveNvmEarly => exact fun sram spot found s runs elsewhere early => exec_sieveRead_nvm_early runs elsewhere early
  case sieveNvm => exact fun sram spot found s runs elsewhere due => exec_sieveRead_nvm_due runs elsewhere due
  case sieveRuns => exact fun spot f s started on left due => sieveRead_runs started on left due
  case passNot => exact fun s not => exec_sievePassEnd_not not
  case passWhole => exact fun s ends whole => exec_sievePassEnd_whole ends whole
  case passLate => exact fun s ends late => exec_sievePassEnd_late ends late
  case passRuns => exact fun s last started on => sievePassEnd_runs last started on
  case droopHeld => exact fun k lat s held => (exec_supplyDroop k lat s).trans (if_pos held)
  case droop => exact fun k lat s new => (exec_supplyDroop k lat s).trans (if_neg new)
  case droopEnd => exact fun k s held => (exec_supplyDroopEnd k s).trans (if_pos held)
  case droopEndNot => exact fun k s none_ => (exec_supplyDroopEnd k s).trans (if_neg none_)
  case telemetryRests => exact fun ms s rests => exec_telemetryRefresh_rests rests
  case telemetry =>
    rintro ms s d due rfl
    exact exec_telemetryRefresh_comes due d
  case telemetryLate =>
    rintro ms s due rfl
    exact exec_telemetryRefresh_late due
  case telemetryRuns => exact fun s started awake due => telemetryRefresh_runs started awake due

end Sys2Proof.Proofs
end
